-- ==== Sys2Proof/Word.lean ====
section
/-! DEFINITION. Word.lean: the word types of the AL1024 (18_registers_and_check_units.md R551, 01_architecture.md R21). -/

namespace Sys2Proof

/-- A register word: every register is a 32-bit word (R551). -/
abbrev Word := BitVec 32

/-- A byte of a memory, a packet or a mailbox area. -/
abbrev Byte := BitVec 8

/-- Lamp time: the 64-bit count in ticks of 2.5 ns (R21). -/
abbrev LampTime := BitVec 64

end Sys2Proof
end

