-- ==== Sys2Proof/Types.lean ====
section
/-! DEFINITION. Types.lean: the plain data that the commands carry and the state holds. -/

namespace Sys2Proof

/-- The two Tatex ports (R335). -/
inductive Port where
  | a | b
  deriving DecidableEq, Repr

/-- The fault classes of the collector, R531. -/
inductive FaultClass where
  | corr | cont | fatal
  deriving DecidableEq, Repr

/-- A strap pad as read: a level 0 to 3, or invalid (R257). -/
inductive Strap where
  | level (l : Fin 4)
  | invalid
  deriving DecidableEq, Repr

/-- One pixel's answer to a sense operation on its row (R273, R277, R279): what the column sense line read. -/
structure PixelSample where
  /-- Column of the pixel. -/
  col : Nat
  /-- Measured current in nA: the passive sample, or the test sample of a test-pulsed pixel. -/
  current : Nat
  /-- Measured forward voltage in 10 mV. -/
  vf : Nat
  /-- The headroom comparator flagged the pixel in this period (R63). -/
  flagged : Bool
  /-- Current of the stuck check of step 3, nA (R273, R279). -/
  idle : Nat
  /-- Neighbours (column, row) whose node latch stood above 1.0 V at the strobe (R279). -/
  nodes : List (Nat × Nat)
  /-- Integrated charge of a leakage measurement, fC (R279). -/
  charge : Nat
  /-- Steady current of a leakage measurement, nA (R279). -/
  steady : Nat
  deriving DecidableEq, Repr

/-- One pixel's answer to a calibration row measurement: eight unit readings in nA and their forward voltages in 10 mV
(R304, R306, R311); `flagged` is the headroom flag that makes the pixel keep its old readings (R312). -/
structure UnitReading where
  col : Nat
  row : Nat
  units : List Nat
  vf : List Nat
  flagged : Bool
  deriving DecidableEq, Repr

/-- What the rasterizer pair hands over in one blank-row slot, beside the row both compute (R184, R185). -/
inductive RasterOutcome where
  /-- Both deliver and agree. -/
  | agree
  /-- Both deliver and differ: columns one of them darkened beyond the other in the blank row, and mask values one of them
  gave lower, as (column, value). -/
  | differ (extraBlank : List Nat) (lowerMask : List (Nat × Nat))
  /-- Only one delivers; its rows are as computed. -/
  | single
  /-- Neither delivers. -/
  | neither
  deriving DecidableEq, Repr

/-- A SECDED event of context memory in one publish slot (R186). -/
inductive ContextEcc where
  | none
  | corrected
  | stagedDouble (slot : Nat)
  | activeDouble
  deriving DecidableEq, Repr

/-- Why an engine faults (R216), apart from a timed-out band and a failed self-test, which have rows of their own. -/
inductive EngineFaultKind where
  | memory | blockedWrite
  deriving DecidableEq, Repr

/-- A Tatex packet header (R346). -/
structure Header where
  type : Nat
  dest : Nat
  src : Nat
  mon : Bool
  wrapped : Bool
  tspec : Nat
  seq : BitVec 16
  len : Nat
  deriving DecidableEq, Repr

/-- How a packet ends on the wire (R339, R349). -/
inductive PacketEnding where
  | eop
  | eopBad
  /-- The end does not stand where LEN puts it, or a control code or SOP stands inside the packet. -/
  | misplaced
  /-- The end came before both header columns had arrived. -/
  | fragment
  deriving DecidableEq, Repr

/-- A whole packet: header and payload bytes. -/
structure Packet where
  hdr : Header
  payload : List Byte
  deriving DecidableEq, Repr

/-- What a receiver learns from the TRN1 sets of a training phase, R339 and R342. -/
structure Trn1Info where
  /-- RATE mask of the partner: bit 0 is 2.4, bit 1 is 4.8, bit 2 is 9.6 Gbaud. -/
  rates : BitVec 3
  /-- FOM_REQ of the partner. -/
  fomReq : Nat
  /-- Physical lane of each logical lane, two bits each. -/
  laneMap : BitVec 8
  /-- Physical lanes whose polarity is corrected. -/
  inverted : BitVec 4
  deriving DecidableEq, Repr

/-- One lane's equalizer after adaptation and its FOM, R343. -/
structure LaneEq where
  ctle : Nat
  h1 : Nat
  h2 : Int
  h3 : Int
  fom : Nat
  deriving DecidableEq, Repr

/-- The payload of the NOP packets ENUM, ENUM_END and TOPO (R357). -/
structure EnumBody where
  round : Nat
  next : Nat
  count : Nat
  origin : Nat
  ring : Bool
  isPartial : Bool
  deriving DecidableEq, Repr

/-- A CAN frame as received (R390). -/
structure CanFrame where
  fd : Bool
  ide : Bool
  id : Nat
  dlc : Nat
  data : List Byte
  deriving DecidableEq, Repr

/-- The kinds of CAN error the controller counts under ISO 11898-1 (R390). -/
inductive CanErrorKind where
  | transmit | receive
  deriving DecidableEq, Repr

/-- What an OTP word belongs to (R530 source 12). -/
inductive OtpWord where
  | seal | hostKey | serviceKey | safeKey
  deriving DecidableEq, Repr

/-- Which way the IFB_SET pad fails (R53). -/
inductive IfbFault where
  | short | openPad
  deriving DecidableEq, Repr

/-- The traffic class of a DRAM request (R503). -/
inductive DramClass where
  | s | g
  deriving DecidableEq, Repr

/-- What a DRAM read with a SECDED error turns out to be (R505). -/
inductive DramErrorKind where
  /-- A single-bit error, corrected. -/
  | corrected
  /-- Uncorrectable at first, good when read again (class S only). -/
  | rereadGood
  /-- Uncorrectable; for class S also on its re-read. -/
  | uncorrectable
  deriving DecidableEq, Repr

/-- Who asked for the DRAM read that failed, R505. -/
inductive DramClient where
  | gallery | engine (n : Nat) | dose (band : Nat) | jorosh | scrub
  deriving DecidableEq, Repr

/-- How the replay of buffered class S commands after a parity alert ends (R504). -/
inductive ReplayEnd where
  | good
  /-- A Gallery read raises the alert twice in succession. -/
  | readFails (addr : Nat)
  /-- A write of engine `n` raises the alert twice in succession. -/
  | writeFails (n : Nat)
  deriving DecidableEq, Repr

/-- What the watched sources of a wake are (R467). -/
inductive WakeSource where
  | wakePort | wakePin | lowbeam | mailbox
  deriving DecidableEq, Repr

/-- The readiness waits of a boot or wake (R468). -/
inductive ReadyWait where
  | corePg | switches | oscillator | pll
  deriving DecidableEq, Repr

/-- What the housekeeping round reads, sensors 68 to 72 in order: none where the read fails (R481); sensors 68 and 69 as NTC
codes, 70 as "the status names the 2x rate", 71 and 72 in 0.25 °C. -/
structure HkReadings where
  ntc0 : Option Nat
  ntc1 : Option Nat
  dramTwiceRate : Option Bool
  regulator : Option Int
  guard : Option Int
  deriving DecidableEq, Repr

/-- What the boot ROM finds for one firmware slot: a pass with its version, or the failure reason of SYS.BOOT.REASON
(R582, R588). -/
inductive SlotVerdict where
  | pass (version : Word)
  | fail (reason : Fin 6)
  deriving DecidableEq, Repr

/-- What the outside answers during one cold boot (R577). -/
structure BootEnv where
  /-- SEAL_S0 to SEAL_S5 as read (R579). -/
  straps : List Strap
  /-- The OSCDLY pad as read (R449). -/
  oscdly : Strap
  /-- REFCLK_IN counted 88 to 112 edges in every 1 µs window (R448). -/
  refclkGood : Bool
  /-- Flash mode chosen (R588 coding). -/
  flashMode : Fin 4
  /-- Verdicts of slot A and slot B in the first choice and in the repeat at 25 MHz (R582, R583). -/
  slotA : SlotVerdict
  slotB : SlotVerdict
  slotA2 : SlotVerdict
  slotB2 : SlotVerdict
  /-- I_FB measured at start-up, nA (R55, R82). -/
  ifbNa : Nat
  /-- The pattern check of every DRAM lane passes with the board's record, and with the factory default (R500). -/
  dramGood : Bool
  dramGoodDefault : Bool
  /-- Readings of start-up calibration, one per pixel measured (R304). -/
  readings : List UnitReading
  /-- Rows whose trim masks fail read-back twice (R305). -/
  badMaskRows : List Nat
  /-- The lens memory's record, or none when it does not acknowledge (R398). -/
  lens : Option (List Byte)
  /-- Margins of the 24 delay monitors, 0.1 % (R324). -/
  margins : List Nat
  deriving DecidableEq, Repr

/-- What a mailbox is doing (R410): IDLE, BUSY as rung, accepted or started, or DONE. -/
inductive MbPhase where
  | idle | rung | accepted | started | done
  deriving DecidableEq, Repr

/-- The boot slots (R581). -/
inductive FwSlot where
  | slotA | slotB
  deriving DecidableEq, Repr

/-- The access codes of register fields (R554). `shadowed` has a written copy and an active copy (R96); `staged` is a pin
setting held back until APPLY (R407); `rcExt` is an RC field that holds an extreme; `derived` is an RO field that shows
state held elsewhere. -/
inductive Access where
  | rw | shadowed | staged | rwd | ro | rc | rcExt | wo | derived
  deriving DecidableEq, Repr

/-- A register field: the address of its word, its lowest bit, its width, its access code and its reset value. -/
structure Field where
  addr : Nat
  lo : Nat
  width : Nat
  access : Access
  reset : Word
  deriving DecidableEq, Repr

/-- What drives a row group's pixels (R44, R51, R92). -/
inductive Drive where
  | dark | pwm | fallback
  deriving DecidableEq, Repr

/-- What a pixel's output does (R51): off, on fallback direct current, or driven by PWM with its LED on, in nA. -/
inductive PixelOut where
  | off
  | dc (na : Nat)
  | pwm (na : Nat)
  deriving DecidableEq, Repr

/-- A sparse array: key and value pairs, keys strictly rising, no value equal to what an unlisted key reads as. -/
abbrev Sparse (α : Type) := List (Nat × α)

/-- Per-pixel values by row: row r holds its 1024 values, an unlisted row holds the plane's common value everywhere. -/
abbrev Plane := Sparse (List Nat)

end Sys2Proof
end

