-- ==== Sys2Proof/Syntax.lean ====
section
/-! DEFINITION. Syntax.lean: the commands, one constructor per row of spec/opcode_table.json, in its order. The table gives the rows no operands; those here are what the rows' own rules take from outside (register words, indices, readings, packet fields). -/

namespace Sys2Proof

/-- The commands of the block. Every row of the table happens when it is given (assumption 1). -/
inductive Instr where
    /-- The frame grid reaches a frame start on lamp time, which is also the COMMIT sampling point and the fence
  commit deadline (R87); `load` is the busy percentage the engines measured (R221). -/
  | frameStart (load : Nat)
    /-- A row slot begins, starting the fetch eight slots ahead and updating the latency tolerance (R87); `k` is the
  slot, 0 to 1087. -/
  | rowSlotStart (k : Nat)
    /-- A composed row is written to the back latches or to the hold area (R89); `r` is the physical row; `echoGood`
  says that the array's echo CRC agrees (R240), `accGood` that accumulator sets A and B agree (R239). -/
  | rowDelivered (r : Nat) (echoGood accGood : Bool)
    /-- A row deadline expires while the row is undelivered, and the frame is aborted as an underrun (R100); `r` is
  the physical row. -/
  | rowDeadline (r : Nat)
    /-- When the last row of a SAFETY layer has been fetched, its check value is compared, and a mismatch aborts the
  frame and drops the layer (R146); `n` is the layer slot. -/
  | safetyLayerCheck (n : Nat)
    /-- A row group reaches its PWM period start on the grayscale counter (R36); `g` is the row group; `samples` is
  what a sense operation in this slot reads, `units` what an in-service row measurement reads. -/
  | pwmPeriodStart (g : Nat) (samples : List PixelSample) (units : List UnitReading)
    /-- A blank-plane pass period begins (R45). -/
  | blankPassStart
    /-- A blank-plane row slot runs its publish point, the rasterizer evaluations, the comparison and the handover
  (R182); `out` is what the rasterizer pair hands over; `ecc` is a SECDED event of context memory. -/
  | blankRowSlot (out : RasterOutcome) (ecc : ContextEcc)
    /-- Without blank-plane passes, publish points fall every 768 CLK_BUS cycles on a timer (R169). -/
  | publishTimer
    /-- Writing SCAN.CTRL.EN from 0 to 1 copies ORIGIN and schedules the raster start (R91). -/
  | scanEnSet
    /-- At the first grid point more than 10 us after enable, the raster starts and loads every shadowed field (R91).
  -/
  | rasterStart
    /-- Writing SCAN.CTRL.EN to 0 stops the load and the passes, and groups go dark at their next period start (R92).
  -/
  | scanEnClear
    /-- Writing SCAN.CTRL.COMMIT requests a commit at the next sampling frame start (R97). -/
  | scanCommitBit
    /-- Clearing GAL.CTRL.EN stops the Gallery at once, and the frame aborts at the next undelivered row's deadline
  (R152). -/
  | galEnClear
    /-- A write to GAL.FENCE_INC advances the named fence by AMOUNT (R138); `w` is the word written to GAL.FENCE_INC.
  -/
  | fenceIncWrite (w : Word)
    /-- A direct write loads a fence counter, with same-cycle increments applied on top (R138); `k` is the fence, `w`
  the value. -/
  | fenceDirectWrite (k : Nat) (w : Word)
    /-- Writing Ln_FLIP.ARM arms, replaces or disarms a layer flip (R139); `n` is the layer slot, `w` the word written
  to Ln_FLIP. -/
  | flipArm (n : Nat) (w : Word)
    /-- A LUT_DATA write stores an entry unless the table is selected or the index is out of range, and advances INDEX
  (R134); `w` is the word written. -/
  | lutDataWrite (w : Word)
    /-- A LUT_DATA read returns the entry at TABLE and INDEX and advances INDEX (R157). -/
  | lutDataRead
    /-- Once no reader uses a replaced buffer, its retire fence advances (R142); `n` is the layer slot. -/
  | bufferRetire (n : Nat)
    /-- K_FLAT completes an inactive Kiln image, which becomes due at the next frame start (R148). -/
  | kilnBuildComplete
    /-- Writing SHD.CTRL.BATCH_COMMIT makes every staged batch record publish together at the next publish point
  (R168). -/
  | batchCommit
    /-- An engine completes a band, and on the last band Jorosh advances the entry's fence (R203); `b` is the band. -/
  | bandComplete (b : Nat)
    /-- A band waiting for its ping-pong output buffer to retire starts writing it (R204); `b` is the band. -/
  | pingpongBufferFree (b : Nat)
    /-- K_VIDEO starts writing output rows once IN_FENCE reaches IN_VAL (R210); `b` is the band. -/
  | videoInputReady (b : Nat)
    /-- An engine fault retires the engine, aborts the frame and abandons the render set (R216); `n` is the engine. -/
  | engineFault (n : Nat) (kind : EngineFaultKind)
    /-- A band not complete 2T after dispatch counts as an engine fault (R216); `b` is the band. -/
  | bandTimeout (b : Nat)
    /-- A spare engine is readied 60 us after a fault and waits for the next frame start (R217). -/
  | spareReady
    /-- Every ROT_S seconds a spare is exchanged for an active engine, and the outgoing engine self-tests (R219). -/
  | spareRotation
    /-- A spare's built-in self-test completes, and a failing engine is retired (R219); `n` is the engine, `pass` its
  result. -/
  | selfTestComplete (n : Nat) (pass : Bool)
    /-- A 64 us engine period begins and applies the pause level in force (R220). -/
  | pausePeriodStart
    /-- LOAD has stayed at or below 45% for 1 s after a step, and the event is raised (R222). -/
  | computeRestored
    /-- A filtered high level on LOWBEAM_REQ raises the LOWBEAM fallback cause (R246). -/
  | lowbeamReqAssert
    /-- The filtered fall of LOWBEAM_REQ clears the LOWBEAM cause (R246). -/
  | lowbeamReqRelease
    /-- A missing Guard heartbeat within 50 us raises the GUARD cause and a FATAL fault (R244). -/
  | guardWatchdogExpiry
    /-- The always-on comparison finds the Guard oscillator failed (R244). -/
  | guardOscFail
    /-- A path-A SAFE record received over Tatex is verified and accepted or rejected (R251); `p` is the port whose
  checked packet it is. -/
  | safePacket (p : Port)
    /-- An FD frame with SAFE_ID delivers a path-B SAFE record to the Guard (R391); `f` is the received frame. -/
  | canSafeFrame (f : CanFrame)
    /-- A record finds no partner within WINDOW, and the path state becomes MERGED (R254). -/
  | safePartnerTimeout
    /-- An AGREED permission reaches WINDOW after the later arrival, and the state becomes MERGED (R254). -/
  | agreedValidityEnd
    /-- The Guard rereads the straps every second and breaks the seal on a change (R261); `pads` are SEAL_S0 to
  SEAL_S5 as read now. -/
  | strapReread (pads : List Strap)
    /-- Jorosh commits a new dead-pixel map entry to MRAM (R289). -/
  | mapEntryCommit
    /-- A healing generation built from the updated map is complete and becomes due at the next frame start (R291). -/
  | healingGenComplete
    /-- Every hour of RUN, Jorosh measures the witnesses and checkpoints every dose word to MRAM (R319); `photo` gives
  each witness's photodiode integral and dark integral (R321). -/
  | hourlyCheckpoint (photo : List (Int × Int))
    /-- Jorosh reads the delay monitors hourly and steps VCORE on margin (R324); `margins` are the 24 readings, 0.1 %.
  -/
  | delayMonitorReading (margins : List Nat)
    /-- K_GAINMAP completes a gain map generation, which activates at the next frame start (R302). -/
  | gainmapGenComplete
    /-- Setting a Tatex port's EN starts training with TRN1 at 2.4 Gbaud (R342). -/
  | portEnSet (p : Port)
    /-- Valid TRN1 ordered sets received on every lane let the port send TRN2 naming a rate (R342); `info` is what the
  training sets carry. -/
  | trn1Received (p : Port) (info : Trn1Info)
    /-- TRN2 ordered sets complete a training phase and the rate change or the rate decision (R342); `rate` is the
  RATE named, as a RATE_MAX code; `fom` is the FOM_ACH of the partner's four receivers. -/
  | trn2Received (p : Port) (rate : Nat) (fom : List Nat)
    /-- After 1 us of electrical idle, both ends change to the chosen rate (R342). -/
  | rateChange (p : Port)
    /-- CTLE and DFE adaptation finishes, and FOM_ACH is filled in (R343); `lanes` are the four lanes' results. -/
  | adaptationComplete (p : Port) (lanes : List LaneEq)
    /-- A training step without progress for 20 ms advances TRAIN_FAIL and restarts training (R342). -/
  | trainingTimeout (p : Port)
    /-- After a failure at 2.4 Gbaud, training restarts at step 1 10 ms later (R342). -/
  | trainingRestart (p : Port)
    /-- Every 100 ms each lane measures its FOM, tries its DFE taps and warns or goes down on a low FOM (R344);
  `lanes` are the four FOM readings; `gains` lists the tap trials that raised the FOM by 2 or more, as (lane, tap, new
  value). -/
  | fomMeasurement (p : Port) (lanes : List LaneEq) (gains : List (Nat × Nat × Int))
    /-- Loss of bit lock on a lane for 1 us takes the port down (R345). -/
  | bitLockLoss (p : Port)
    /-- More than 8 code errors on one lane within 10 us take the port down (R345); `n` is how many code errors the
  burst held. -/
  | codeErrorBurst (p : Port) (n : Nat)
    /-- Writing RETRAIN takes the port down and restarts training (R345). -/
  | retrain (p : Port)
    /-- Clearing a port's EN sends a SLEEP NOP, idles the lanes and raises a planned link-down (R345). -/
  | portEnClear (p : Port)
    /-- Writing RELEASE ends a held quarantine (R369). -/
  | quarantineRelease (p : Port)
    /-- At its second header column a packet is judged for dropping, stripping, consuming, forwarding or wrapping
  (R352); `h` is the header. -/
  | packetHeaderArrival (p : Port) (h : Header)
    /-- A packet's end arrives and is checked good, bad or stomped before any action (R349); `payload` and `crc` as
  received. -/
  | packetEnd (p : Port) (payload : List Byte) (crc : Word) (ending : PacketEnding)
    /-- A consumed VROW packet writes video data to DRAM and may advance a fence (R350). -/
  | vrowPacket (p : Port)
    /-- A consumed OBJ packet applies its context records and may commit a batch (R351). -/
  | objPacket (p : Port)
    /-- A consumed MBOX_REQ packet writes the request area and rings the mailbox (R412). -/
  | mboxReqPacket (p : Port)
    /-- A received ENUM assigns the node address and is regenerated onward (R357). -/
  | nopEnum (p : Port)
    /-- ENUM_END reaching the origin leads to the TOPO broadcast (R357). -/
  | nopEnumEnd (p : Port)
    /-- A TOPO broadcast records the topology and the node count and raises ENUM_DONE (R357). -/
  | nopTopo (p : Port)
    /-- A received SLEEP NOP marks the next link loss as planned (R372). -/
  | nopSleep (p : Port)
    /-- Every SYNC_PER ms each node sends a SYNC_REQ out of each up port (R361). -/
  | syncTimer
    /-- A received SYNC_REQ is answered at once with a SYNC_ACK (R361). -/
  | syncReqPacket (p : Port)
    /-- A SYNC_ACK completes an exchange, and the node corrects its lamp time (R363); `t4` is the time of receipt,
  1/256 tick. -/
  | syncAckPacket (p : Port) (t4 : BitVec 64)
    /-- No SYNC_ACK within 100 us voids the exchange (R361). -/
  | syncAckTimeout (p : Port)
    /-- Every TIME_PER ms each up port sends a TIME ordered set (R340). -/
  | timeSetSend
    /-- A TIME set on the sync port is compared with the local lamp time for divergence (R365); `lt` is the lamp time
  carried. -/
  | timeSetReceived (p : Port) (lt : LampTime)
    /-- 250 us after restoration, the node whose port A was down stops toggling WRAPPED (R358). -/
  | wrapEndTimer
    /-- A quarantine of QUAR_MS ends, and the port retrains (R369). -/
  | quarantineTimeout (p : Port)
    /-- A stomped local packet is sent again once no forwarded traffic is pending (R353). -/
  | localPacketResend (p : Port)
    /-- An SPI READ frame fetches registers word by word and returns them with a DCRC (R388); the frame's header
  fields and its HCRC. -/
  | spiRead (addr : Word) (len : Nat) (hcrc : Word)
    /-- An SPI WRITE frame with a good DCRC writes registers word by word (R388); the frame's header fields, HCRC,
  data words and DCRC. -/
  | spiWrite (addr : Word) (len : Nat) (hcrc : Word) (data : List Word) (dcrc : Word)
    /-- An SPI REREAD frame resends the last READ response and data (R386); the frame's header fields and its HCRC. -/
  | spiReread (len : Nat) (addr : Word) (hcrc : Word)
    /-- CS_N rising before the frame ends writes nothing and keeps the clears already made by a read (R388); `fetched`
  words of a read had been shifted out. -/
  | spiFrameAbort (addr : Word) (len : Nat) (hcrc : Word) (isRead : Bool) (fetched : Nat)
    /-- A DIAG_RX_ID frame adds a segment to an MB7 request and rings it when complete (R392); `f` is the received
  frame. -/
  | canDiagSegment (f : CanFrame)
    /-- The CAN controller enters bus-off and raises the CAN event and a CORR fault (R390). -/
  | busOffEntry
    /-- A wake-port address match with one data byte records the latency code and raises the wake request (R393); the
  address and the data byte of the I2C write. -/
  | wakePortWrite (addr : BitVec 7) (data : Byte)
    /-- Every 10 ms the headroom loop steps the VLED code (R64); `flags` is the number of pixels flagged in the
  window. -/
  | headroomLoop (flags : Nat)
    /-- A waiting PMBus transaction starts when the bus is free, in priority order (R401); `ack` says that every byte
  and the PEC were acknowledged; `reply` is what a read returns. -/
  | pmbusTransaction (ack : Bool) (reply : BitVec 16)
    /-- A transaction whose clock is held low over 25 ms is ended (R399). -/
  | pmbusClockTimeout
    /-- Writing IOMUX.CTRL.APPLY copies the staged pin settings or refuses a conflicting set (R407). -/
  | iomuxApply
    /-- A rising edge on the EXT_EVT pin is timestamped and reported as an event (R406); `pin` is the GPIO. -/
  | extEvtEdge (pin : Nat)
    /-- Lamp time bits [21:0] wrap, and LT_MARK pulses high for 1 us (R406). -/
  | ltMark
    /-- The IFB_SET comparator detects a short or an open and substitutes a reference (R53); `f` is the condition. -/
  | ifbSetFault (f : IfbFault)
    /-- Writing MBX.DOORBELL rings mailboxes, making idle or done ones BUSY (R412); `w` is the word written. -/
  | doorbell (w : Word)
    /-- Writing MBX.ACK returns DONE mailboxes to IDLE (R412); `w` is the word written. -/
  | mbxAck (w : Word)
    /-- Writing MBX.EVT_POP removes the oldest queued event record (R429). -/
  | evtPop
    /-- Jorosh accepts rung commands in ring order (R413). -/
  | commandAccept
    /-- An accepted command starts once its FENCE, ORDERED and same-object predecessors have completed (R416); `mb` is
  the mailbox. -/
  | commandStart (mb : Nat)
    /-- A dropped MBOX_RSP is resent at 100 us intervals up to three times (R414); `mb` is the mailbox. -/
  | mboxRspResend (mb : Nat)
    /-- A session closes after 60 s without an authenticated request (R420); `session` is the session number. -/
  | sessionIdleTimeout (session : Nat)
    /-- Jorosh sends queued event records to EVT_DEST in EVENT packets (R427). -/
  | eventPacketSend
    /-- Returns the identity record (R424); `mb` is the mailbox that carries it. -/
  | identify (mb : Nat)
    /-- Opens a half session and returns a session number and a device nonce (R419); `mb` is the mailbox that carries
  it. -/
  | sessionOpen (mb : Nat)
    /-- Verifies the host proof and completes the session or closes it (R419); `mb` is the mailbox that carries it. -/
  | sessionAuth (mb : Nat)
    /-- Closes a session (R420); `mb` is the mailbox that carries it. -/
  | sessionClose (mb : Nat)
    /-- Loads lamp time and clears the unsynchronized mark (R423); `mb` is the mailbox that carries it. -/
  | setLt (mb : Nat)
    /-- Reads registers on the host's behalf (R423); `mb` is the mailbox that carries it. -/
  | regRead (mb : Nat)
    /-- Writes registers on the host's behalf (R423); `mb` is the mailbox that carries it. -/
  | regWrite (mb : Nat)
    /-- Returns the request bytes unchanged (R423); `mb` is the mailbox that carries it. -/
  | echo (mb : Nat)
    /-- Writes SCAN.MODE and optionally COMMIT as a host write (R423); `mb` is the mailbox that carries it. -/
  | setMode (mb : Nat)
    /-- Requests a commit and returns TARGET_FRAME (R423); `mb` is the mailbox that carries it. -/
  | commit (mb : Nat)
    /-- Returns the frame statistics and optionally clears them (R423); `mb` is the mailbox that carries it. -/
  | frameStats (mb : Nat)
    /-- Arms a layer flip in one action after checking the buffer (R423); `mb` is the mailbox that carries it. -/
  | layerFlip (mb : Nat)
    /-- Completes once a fence reaches a value (R423); `mb` is the mailbox that carries it. -/
  | fenceWait (mb : Nat)
    /-- FENCE_WAIT completes with TIMEOUT when its timeout expires (R423); `mb` is the mailbox that carries it. -/
  | fenceWaitTimeout (mb : Nat)
    /-- Writes LUT entries under the rules of R134 (R423); `mb` is the mailbox that carries it. -/
  | lutLoad (mb : Nat)
    /-- Opens or closes a video window for VROW writes (R423); `mb` is the mailbox that carries it. -/
  | videoWindow (mb : Nat)
    /-- Writes up to three context records, optionally as a batch with commit (R423); `mb` is the mailbox that carries
  it. -/
  | objWrite (mb : Nat)
    /-- Returns the active record of a slot or an ID (R423); `mb` is the mailbox that carries it. -/
  | objRead (mb : Nat)
    /-- Deletes every active context, counting deferred deletions (R423); `mb` is the mailbox that carries it. -/
  | objClear (mb : Nat)
    /-- Adds a parameter block to the pending render set (R425); `mb` is the mailbox that carries it. -/
  | rsetEntry (mb : Nat)
    /-- Removes render-set entries for a slot or for all slots (R423); `mb` is the mailbox that carries it. -/
  | rsetDelete (mb : Nat)
    /-- Makes the pending set the newest scene set (R425); `mb` is the mailbox that carries it. -/
  | rsetSubmit (mb : Nat)
    /-- Writes a chunk of an inactive pattern table generation (R425); `mb` is the mailbox that carries it. -/
  | patternLoad (mb : Nat)
    /-- Copies the symbol library from flash after its checks (R425); `mb` is the mailbox that carries it. -/
  | symlibLoad (mb : Nat)
    /-- Reads the lens identity memory and sets the optics model (R425); `mb` is the mailbox that carries it; `lens`
  is the record the lens memory returns, none without acknowledge. -/
  | lensRead (mb : Nat) (lens : Option (List Byte))
    /-- Clears the latched fallback causes unless CLOCK or GUARD still fails (R248); `mb` is the mailbox that carries
  it. -/
  | fbRelease (mb : Nat)
    /-- Sets the SAFE window, clamped to the sealed maximum (R256); `mb` is the mailbox that carries it. -/
  | safeWindow (mb : Nat)
    /-- Loads a fallback plane from DRAM and validates it (R54); `mb` is the mailbox that carries it; `readBack` lists
  the rows that read back otherwise than written, with what they read. -/
  | fbPattern (mb : Nat) (readBack : List (Nat × List Byte))
    /-- Programs a new seal slot from a DRAM image (R262); `mb` is the mailbox that carries it; `verified` says that
  programming and verification succeeded. -/
  | reseal (mb : Nat) (verified : Bool)
    /-- Returns per-pixel diagnostic ages (R423); `mb` is the mailbox that carries it. -/
  | pixelAge (mb : Nat)
    /-- Returns dead-pixel map entries (R423); `mb` is the mailbox that carries it. -/
  | mapRead (mb : Nat)
    /-- Removes map entries and restores the pixels' calibrated masks (R289); `mb` is the mailbox that carries it. -/
  | mapClear (mb : Nat)
    /-- Injects faults at a source's detector (R540); `mb` is the mailbox that carries it. -/
  | faultInject (mb : Nat)
    /-- Each further injected fault of a COUNT is raised one ms of lamp time after the last (R540). -/
  | injectRepeat
    /-- Returns the zone target ratios (R306); `mb` is the mailbox that carries it. -/
  | zoneRatio (mb : Nat)
    /-- Returns pixel forward voltages or zone means (R315); `mb` is the mailbox that carries it. -/
  | vfRead (mb : Nat)
    /-- Returns dose words (R316); `mb` is the mailbox that carries it. -/
  | doseRead (mb : Nat)
    /-- Returns the witness L_rel values and MODEL_GEN (R321); `mb` is the mailbox that carries it. -/
  | witnessRead (mb : Nat)
    /-- Runs start-up calibration while the scan is off (R304); `mb` is the mailbox that carries it; `readings` are
  the measurement's readings, `badRows` the rows whose masks fail read-back twice. -/
  | recalibrate (mb : Nat) (readings : List UnitReading) (badRows : List Nat)
    /-- Chooses a sleep state from the tolerated latency and starts the entry (R464); `mb` is the mailbox that carries
  it; `srAck` says that the DRAM acknowledged self-refresh within 10 us (R465). -/
  | pwrSleep (mb : Nat) (srAck : Bool)
    /-- Writes the dose checkpoint, completes MRAM records and clears SCAN.CTRL.EN (R423); `mb` is the mailbox that
  carries it. -/
  | powerDown (mb : Nat)
    /-- Makes the device the enumeration origin (R357); `mb` is the mailbox that carries it. -/
  | enumerate (mb : Nat)
    /-- Assigns an address to the device whose serial number matches (R422); `mb` is the mailbox that carries it. -/
  | assignAddr (mb : Nat)
    /-- Writes aux channel values between grid points (R434); `mb` is the mailbox that carries it. -/
  | auxSet (mb : Nat)
    /-- Configures an aux pattern engine (R436); `mb` is the mailbox that carries it. -/
  | auxPattern (mb : Nat)
    /-- Writes aux gamma table entries (R434); `mb` is the mailbox that carries it. -/
  | auxGamma (mb : Nat)
    /-- Sets a PWM gate's duty and frequency (R439); `mb` is the mailbox that carries it. -/
  | auxGate (mb : Nat)
    /-- Returns and removes queued event records (R427); `mb` is the mailbox that carries it. -/
  | eventsRead (mb : Nat)
    /-- Returns history records from ESEQ onward (R423); `mb` is the mailbox that carries it. -/
  | eventsHistory (mb : Nat)
    /-- Writes boot flash outside the protected ranges (R404); `mb` is the mailbox that carries it; `verified` says
  that the flash took the bytes. -/
  | flashWrite (mb : Nat) (verified : Bool)
    /-- Erases flash sectors outside the protected ranges (R404); `mb` is the mailbox that carries it; `verified` says
  that the flash erased the sectors. -/
  | flashErase (mb : Nat) (verified : Bool)
    /-- Verifies the other slot and rewrites the directories to prefer it (R423); `mb` is the mailbox that carries it;
  `signature` says that the signature of the slot it selects verifies, `verified` that the flash took both
  directories. -/
  | slotSelect (mb : Nat) (signature verified : Bool)
    /-- Returns payload bytes of the newest valid copy of a record (R520); `mb` is the mailbox that carries it. -/
  | cfgRead (mb : Nat)
    /-- Updates and commits a host-writable MRAM record (R520); `mb` is the mailbox that carries it; `verified` says
  that the commit word read back good. -/
  | cfgWrite (mb : Nat) (verified : Bool)
    /-- At a port's grid point, the aux frame is sampled through its stages and sent (R433); `p` is the aux port. -/
  | auxFrameGrid (p : Nat)
    /-- A PWM gate period begins and applies the duty and frequency in force (R439); `n` is the gate. -/
  | auxGatePeriodStart (n : Nat)
    /-- Enabling AUX schedules each port's first frame more than 50 us later (R441). -/
  | auxEnSet
    /-- A stopped or off-frequency clock raises the CLOCK cause and moves the domains to the RC oscillator (R458);
  `clks` names the failed clocks by CLK.MON_FAIL bit. -/
  | clockMonitorTrip (clks : BitVec 10)
    /-- After 100 us of good sources the domains ramp back, and the FATAL fault is reported (R458). -/
  | clocksGood
    /-- No edge for 4 us on the old clock forces an asynchronous multiplexer switch (R453); `d` is the domain in the
  order of R454, 0 to 5. -/
  | clkswForced (d : Nat)
    /-- A dwell expires, and the ramping domain steps to its next division (R454). -/
  | rampDwellStep
    /-- The 100 us REFCLK_IN watch ends with the reference choice (R448); `good` says that every 1 us window counted
  88 to 112 edges. -/
  | refclkDetectWindow (good : Bool)
    /-- The crystal start-up delay expires, and the PLL may use the crystal (R449). -/
  | crystalDelayExpiry
    /-- The PLL locks to its reference (R448). -/
  | pllLock
    /-- A CLK.DIV write applies only while every fed block is gated (R456); `w` is the word written. -/
  | clkDivWrite (w : Word)
    /-- A CLK.SS_REF write is ignored while either Tatex port is enabled (R451); `w` is the word written. -/
  | ssRefWrite (w : Word)
    /-- A CLK.GATE write clocks or gates blocks, refusing to gate an enabled block (R460); `w` is the word written. -/
  | clkGateWrite (w : Word)
    /-- A selected wake source during entry aborts it (R466); `src` is the source that fired. -/
  | sleepEntryAbort (src : WakeSource)
    /-- A filtered high level on WAKE wakes the device if selected (R467). -/
  | wakePin
    /-- The device restores clocks, domains and state and returns to RUN (R467). -/
  | wakeSequence
    /-- A readiness wait exceeds WAKE_TO, and the step is retried or the wake fails (R468); `w` is the wait that timed
  out. -/
  | wakeReadinessTimeout (w : ReadyWait)
    /-- In LANDING, 100 us without DRAM access returns the DRAM to self-refresh (R461). -/
  | dramIdleSelfRefresh
    /-- Every 100 us TJ is formed, and threshold levels are entered or left (R483); `t` are sensors 0 to 67, in 0.25
  °C. -/
  | thermalSample (t : List Int)
    /-- Every 10 ms sensors 68 to 72 are read, and the pause level and aux derating are updated (R481); `h` are the
  readings of sensors 68 to 72. -/
  | housekeepingRound (h : HkReadings)
    /-- A comparator tripped for 300 us darkens the array and holds the domains in reset (R487); `sensor` is the
  comparator that tripped. -/
  | hardTrip (sensor : Nat)
    /-- All comparators below the release level for 300 us release reset into the cold-boot path (R487). -/
  | hardTripRelease
    /-- Enabling the DRAM controller checks the organization and the bank map (R498). -/
  | ddrcEnSet
    /-- The tREFI timer issues an all-bank refresh (R501). -/
  | dramRefresh
    /-- Every 128 ms a ZQ short calibration runs (R497). -/
  | zqCalibration
    /-- An activate may trigger a random neighbour-row refresh (R502); the bank and row activated. -/
  | dramActivate (bank row : Nat)
    /-- DDR_ALERT_N falling stops commands and replays buffered class S commands (R504); `replay` is how the replay of
  the buffered commands ends. -/
  | ddrAlert (replay : ReplayEnd)
    /-- A read returns a SECDED error that is corrected, re-read or escalated (R505); the class, address, kind and
  requester. -/
  | dramReadError (cls : DramClass) (addr : Nat) (kind : DramErrorKind) (client : DramClient)
    /-- The tolerance countdown reaches 0, and the controller exits power-down or self-refresh (R506). -/
  | tolCountdownExpiry
    /-- With no request pending, the controller enters power-down or self-refresh by the tolerance code (R506). -/
  | dramIdlePowerState
    /-- Every 24 hours patrol scrubbing reads every DRAM block and rewrites corrected ones (R505); `corrected` is how
  many blocks it corrected. -/
  | patrolScrub (corrected : Nat)
    /-- Jorosh commits a record through the journal in two phases (R512); `num` is the record number. -/
  | mramRecordCommit (num : Nat)
    /-- Within 1 s Jorosh rewrites an invalid copy from the valid one (R513); `num` is the record number. -/
  | mramCopyRepair (num : Nat)
    /-- Every 24 hours of RUN each MRAM word is read and corrected words rewritten (R519); `corrected` is how many
  words it corrected. -/
  | mramScrub (corrected : Nat)
    /-- Each second every record's commit allowance gains 1 up to 60 (R518). -/
  | wearAllowanceTick
    /-- A source detects a fault and places or merges a request at the arbiter (R532); `src` is the source number,
  `cls` the class of the detection, `word` what the failing OTP word of source 12 belongs to. -/
  | faultDetect (src : Nat) (cls : FaultClass) (word : OtpWord)
    /-- The arbiter grants a request, escalates it if pending and triggers its class reaction (R533). -/
  | faultGrant
    /-- Writing FLT.ACK clears pending bits or the FIRST latch (R535); `w` is the word written. -/
  | fltAck (w : Word)
    /-- ERR_N's minimum width expires and the pin releases if every asserting class is acknowledged (R538). -/
  | errNMinWidthExpiry
    /-- A granted FATAL fault holds the supervisor, reloads Jorosh and restores its state (R537). -/
  | supervisorRestart
    /-- The supervisor restart completes with BOOT_DONE (R537); `own` is the verdict of the slot it ran from, `other`
  of the other slot (R584). -/
  | restartComplete (own other : SlotVerdict)
    /-- An alias read returns one bit and clears it if it is an RC bit (R559); `addr` is the alias address. -/
  | aliasRead (addr : Word)
    /-- An alias write changes one bit atomically, or acts through one WO bit (R559); `addr` is the alias address, `w`
  the word written. -/
  | aliasWrite (addr : Word) (w : Word)
    /-- A direct read of a register with RC fields returns the value and clears or reloads those fields (R554); `addr`
  is the register's address. -/
  | rcFieldRead (addr : Word)
    /-- A write to a register without its own row, with RWD fields judged by EN (R555); `addr` is the register's
  address, `w` the word written. -/
  | registerWrite (addr : Word) (w : Word)
    /-- Writing INIT loads RUNNING from FOLD and clears COUNT (R563); `u` is the unit, `w` the word written. -/
  | crcInit (u : Nat) (w : Word)
    /-- Writing DATA feeds four bytes to a check unit (R563); `u` is the unit, `w` the word written. -/
  | crcData (u : Nat) (w : Word)
    /-- Writing DATA8 feeds one byte to a check unit (R563); `u` is the unit, `w` the word written. -/
  | crcData8 (u : Nat) (w : Word)
    /-- VSYS33 rises through its power-on reset threshold and starts the always-on domain (R571). -/
  | vsys33PowerOn
    /-- A rail falls or CORE_PG goes low, which acts as a RESET_N assertion (R572). -/
  | supplyFail
    /-- A filtered low on RESET_N holds every domain but the always-on domain in reset (R573). -/
  | resetNAssert
    /-- A filtered release of RESET_N records the hold length and starts the cold-boot path (R573); `held` is how long
  RESET_N was held, in 1/16 µs cycles of the RC oscillator. -/
  | resetNRelease (held : Nat)
    /-- The boot reads straps, powers the domains, locks the PLL, verifies firmware and brings up the blocks to
  BOOT_DONE (R577); `env` is what the outside answers during the boot. -/
  | coldBoot (env : BootEnv)
    /-- CORE_PG rising lets the boot or wake power the on-die domains (R577). -/
  | corePgRise
    /-- A bus error or a non-ISO FD frame detected by the CAN controller advances TEC or REC and can move the
  controller between error active and error passive (R390); `k` is whether it counts as a transmit or a receive error.
  -/
  | canBusError (k : CanErrorKind)
    /-- Bus-off recovery under the standard returns the CAN controller from bus-off to error active (R390). -/
  | canBusOffRecovery
    /-- A receive lane's elastic buffer slips, counts in CODE_ERR and brings the link down (R336). -/
  | elasticBufferSlip (p : Port)
    /-- ENUMERATE completes with TIMEOUT when no TOPO broadcast follows within its bound (R423); `mb` is the mailbox
  that carries it. -/
  | enumerateTimeout (mb : Nat)
    /-- The Guard oscillator and heartbeat are found good again, so the latched GUARD cause may be cleared by the
  release command (R245). -/
  | guardGood
  deriving DecidableEq, Repr

end Sys2Proof
end

