-- ==== Sys2Proof/Config.lean ====
section
/-! DEFINITION. Config.lean: what one device fixes (its identity) and the values that the spec leaves open. Each open value is an
opaque constant: nothing in Lean can say what it is. -/

namespace Sys2Proof

/-- SYS.ID.SI_REV, the silicon revision of this device (R565). -/
opaque Config.siRev : Word

/-- The device's 64-bit serial number (R566). -/
opaque Config.serial : BitVec 64

/-- The code of a pixel (column, row) of a frame whose content is undefined because a buffer in use was overwritten (R143);
the first argument is the index of the free value. -/
opaque Config.openCode : Nat → Nat → Nat → Nat

/-- What SAFE.SEAL.SLOT and the SLOT byte of the SEAL event show when no slot is programmed: the spec states no number
(R268, R428). -/
opaque Config.noSlotNumber : Nat

/-- What a LUT_DATA read returns for an index beyond the table's size (R134, R157): by free index and index. -/
opaque Config.lutBeyond : Nat → Nat → Nat

/-- A word of the response area of a BUSY mailbox, which is undefined (R410): by free index and address. -/
opaque Config.busyWord : Nat → Nat → Word

/-- The level of a GPIO pin that the device does not drive as an output (R409): by free index and pin. -/
opaque Config.pinLevel : Nat → Nat → Bool

/-- A quotient by zero that a formula of the spec meets and does not define; the argument is the dividend. -/
opaque Config.divZero : Nat → Nat

/-- The LINE byte of PIXEL_DEAD: 0 for a pixel, 1 for a row line, 2 for a column line is asked for; the spec states no coding
(R428). -/
opaque Config.lineCode : Nat → Nat

/-- The coordinate of PIXEL_DEAD that a line fault does not have (R428). -/
opaque Config.lineOther : Nat → Nat

/-- Relative flux beyond the last entry of the lumen model (R322, R323): dose, entry 31, entry 30. -/
opaque Config.fluxBeyond : Nat → Nat → Nat → Nat

/-- L_rel in Q16 corrected to 25 °C from the raw ratio, the witness's production coefficient and its temperature (R321): the spec
gives no formula. -/
opaque Config.witnessCorrect : Int → Int → Int → Nat

/-- The acceleration factor that counts for a witness pixel (R320): the spec names no zone for it. -/
opaque Config.witnessAf : Nat → Nat

/-- Production data of the 64 witness pixels: P0 and temperature coefficient (R321). -/
opaque Config.witnessP0 : Nat → Nat
opaque Config.witnessCoef : Nat → Int

/-- The factory lumen model R[i], DSTEP and the acceleration table (R316, R322), of which the spec states one value. -/
opaque Config.factoryModel : Nat → Nat
opaque Config.factoryDstep : Nat
opaque Config.factoryAccel : Nat → Nat

/-- Subsample points of a pixel that an instance of K_SYMBOL covers, of 16, and whether it covers the pixel's centre (R209): the
spec does not fix the subdivision of the projected contours. Arguments: index of the free value, instance, u, v. -/
opaque Config.symbolCover : Nat → Nat → Nat → Nat → Nat
opaque Config.symbolCentre : Nat → Nat → Nat → Nat → Bool

/-- What K_VIDEO takes for a filter tap outside the source, for which its block has no BORDER (R210): x, y. -/
opaque Config.videoBorder : Int → Int → Nat

/-- The beam sample of a pixel that a lens record's matrix sends to w ≤ 0 (R212): u, v. -/
opaque Config.opticsOpen : Nat → Nat → Nat

/-- Which of the healthy engines has the lowest measured load (R218): a choice by free index. -/
opaque Config.leastLoaded : Nat → Nat

/-- A byte of the boot flash as it was programmed before this device ran (R403): the spec states no content. -/
opaque Config.flashByte : Nat → Byte

/-- The device nonce DN of a session, from the device's random generator (R419): by free index. -/
opaque Config.nonce : Nat → BitVec 64

/-- Bytes of a boot flash sector, from the JESD216 table (R423), and a byte of the flash after a write or an erase that failed, by free
index and address. -/
opaque Config.flashSector : Nat
opaque Config.flashTorn : Nat → Nat → Byte

/-- MODEL and SERIAL bytes that LENS_READ returns when no valid lens record was read (R425), by free index and position. -/
opaque Config.lensByte : Nat → Nat → Byte

/-- A byte of a seal slot whose programming or verification failed (R262), by free index and position. -/
opaque Config.sealTorn : Nat → Nat → Byte

/-- A payload byte between the old end of a record and the OFFSET of the CFG_WRITE that extends it (R520), by free index and position. -/
opaque Config.recGap : Nat → Nat → Byte

/-- The 128-bit service key that Dutolyn programs (R419). -/
opaque Config.serviceKey : List Byte

/-- The SAFE key and the host key that the first seal programs (R251, R419): the spec states no values. -/
opaque Config.safeKey : List Byte
opaque Config.hostKey : List Byte

/-- Boot ROM version and variant reported by IDENTIFY (R424). -/
opaque Config.romVersion : Nat
opaque Config.variant : Nat

/-- Whether a rounding that the breathe table does not fix goes up: a table entry, or a point between two (R435). -/
opaque Config.breatheRom : Nat → Bool
opaque Config.breatheStep : Nat → Nat → Bool

/-- The value that the hardware source draws on an activate (R502), by free index. -/
opaque Config.rhpDraw : Nat → Nat

/-- The DDRC registers of the DDR_TIMING factory default (R514): the word at offset index k of R514's order. -/
opaque Config.ddrDefault : Nat → Word

/-- The NTC temperature, 0.25 °C, of a code for which the formula of R481 gives none: a board record with RNOM or BETA 0, or a
denominator that is not positive. -/
opaque Config.ntcOpen : Nat → Int

/-- The temperature, 0.25 °C, that the THERMAL event of a hard trip carries: the spec names none that the always-on domain records
(R483, R487). -/
opaque Config.tripT4 : Nat → Nat

/-- The VCORE code of the regulator's power-on voltage (R324, R514). -/
opaque Config.vcorePowerOn : Nat

end Sys2Proof
end

