-- ==== Sys2Proof/Machine/Data.lean ====
section
/-! DEFINITION. Data.lean: operations on plain data that every family uses: sparse arrays in canonical form, planes of
pixel values, byte order, bit tests and the one check function (R561). -/

namespace Sys2Proof.Machine

/-! ### Sparse arrays -/

/-- The value at key `k`; `d` where it is not listed. -/
def sparseGet {α : Type} (d : α) : Sparse α → Nat → α
  | [], _ => d
  | (n, v) :: t, k => if n = k then v else sparseGet d t k

/-- The array without key `k`. -/
def sparseErase {α : Type} : Sparse α → Nat → Sparse α
  | [], _ => []
  | (n, v) :: t, k => if n = k then sparseErase t k else (n, v) :: sparseErase t k

/-- The array with `v` put at key `k`, in key order; `k` is not listed before. -/
def sparseInsert {α : Type} (k : Nat) (v : α) : Sparse α → Sparse α
  | [] => [(k, v)]
  | (n, w) :: t => if k < n then (k, v) :: (n, w) :: t else (n, w) :: sparseInsert k v t

/-- The array with value `v` at key `k`; writing the common value `d` unlists the key. -/
def sparseSet {α : Type} [DecidableEq α] (d : α) (m : Sparse α) (k : Nat) (v : α) : Sparse α :=
  if v = d then sparseErase m k else sparseInsert k v (sparseErase m k)

/-- Every key of `m` is above `lo`, and keys rise strictly. -/
def sparseSorted {α : Type} : Nat → Sparse α → Bool
  | _, [] => true
  | lo, (n, _) :: t => decide (lo ≤ n) && sparseSorted (n + 1) t

/-- The canonical form: keys strictly rising and no entry equal to the common value. -/
def sparseWf {α : Type} [DecidableEq α] (d : α) (m : Sparse α) : Bool :=
  sparseSorted 0 m && m.all (fun p => decide (p.2 ≠ d))

/-! ### Planes -/

/-- The value of pixel (c, r) of a plane whose common value is `d`. -/
def planeGet (d : Nat) (m : Plane) (c r : Nat) : Nat :=
  (sparseGet [] m r).getD c d

/-- Row `r` of a plane, 1024 values. -/
def planeRow (d : Nat) (m : Plane) (r : Nat) : List Nat :=
  match sparseGet [] m r with
  | [] => List.replicate 1024 d
  | v => v

/-- The plane with row `r` replaced; a row of common values is unlisted. -/
def planeSetRow (d : Nat) (m : Plane) (r : Nat) (v : List Nat) : Plane :=
  sparseSet [] m r (if v.all (· == d) then [] else v)

/-- The plane with pixel (c, r) replaced. -/
def planeSet (d : Nat) (m : Plane) (c r v : Nat) : Plane :=
  planeSetRow d m r ((planeRow d m r).set c v)

/-! ### Bits, bytes and numbers -/

/-- Bit `k` of `n`. -/
def bit (n k : Nat) : Bool := n.testBit k

/-- Bits `lo + w - 1` to `lo` of `n`. -/
def bits (n lo w : Nat) : Nat := (n >>> lo) % 2 ^ w

/-- 1 for true. -/
def b2n (b : Bool) : Nat := if b then 1 else 0

/-- `n` bits of `v` read as a two's complement number. -/
def sext (n v : Nat) : Int :=
  if v % 2 ^ n < 2 ^ (n - 1) then ((v % 2 ^ n : Nat) : Int) else ((v % 2 ^ n : Nat) : Int) - (2 ^ n : Nat)

/-- `v` as an `n`-bit two's complement pattern. -/
def toBits (n : Nat) (v : Int) : Nat := (v % ((2 ^ n : Nat) : Int)).toNat

/-- `v` held inside `lo` to `hi` (fields that act as the nearest limit). -/
def clampN (lo hi v : Nat) : Nat := max lo (min hi v)

/-- The number of set bits among the low eight. -/
def popcount8 (m : Nat) : Nat :=
  (List.range 8).foldl (fun n k => n + b2n (bit m k)) 0

/-- The number whose bit `i` says whether `f i` holds, for `i` below `n`. -/
def bitsOf (n : Nat) (f : Nat → Bool) : Nat :=
  (List.range n).foldl (fun a i => a + (b2n (f i)) * 2 ^ i) 0

/-- A little-endian number of the bytes of `l` (R561). -/
def ofLe : List Byte → Nat
  | [] => 0
  | b :: t => b.toNat + 256 * ofLe t

/-- The `n` little-endian bytes of `v`. -/
def toLe : Nat → Nat → List Byte
  | 0, _ => []
  | n + 1, v => BitVec.ofNat 8 (v % 256) :: toLe n (v / 256)

/-- `n` bytes of `l` from offset `o`; bytes beyond the end read 0. -/
def bytesAt (l : List Byte) (o n : Nat) : List Byte :=
  (List.range n).map (fun i => l.getD (o + i) 0)

/-- The `n`-byte little-endian field of `l` at offset `o`. -/
def leAt (l : List Byte) (o n : Nat) : Nat := ofLe (bytesAt l o n)

/-- `l` cut or padded with zeros to `n` bytes. -/
def padTo (n : Nat) (l : List Byte) : List Byte := bytesAt l 0 n

/-- `l` with the bytes `v` put at offset `o`. -/
def putAt (l : List Byte) (o : Nat) (v : List Byte) : List Byte :=
  l.take o ++ v ++ l.drop (o + v.length)

/-- A counter of width `w` advanced by `n`, saturating. -/
def satAdd (w v n : Nat) : Nat := min (2 ^ w - 1) (v + n)

/-- Insertion sort, for medians. -/
def insSorted (v : Nat) : List Nat → List Nat
  | [] => [v]
  | h :: t => if v ≤ h then v :: h :: t else h :: insSorted v t

/-- The sorted list. -/
def sortNat : List Nat → List Nat
  | [] => []
  | h :: t => insSorted h (sortNat t)

/-- The lower of the two middle values of the sorted set (R306); 0 for an empty set. -/
def median (l : List Nat) : Nat := (sortNat l).getD ((l.length - 1) / 2) 0

/-- The sum of a list. -/
def sumNat (l : List Nat) : Nat := l.foldl (· + ·) 0

/-- A truncating quotient; a quotient by zero is a free value. -/
def divFree (a b : Nat) : Nat := if b = 0 then Config.divZero a else a / b

/-- Items (value, count) in rising order of value. -/
def insCount (v n : Nat) : List (Nat × Nat) → List (Nat × Nat)
  | [] => [(v, n)]
  | (w, m) :: t => if v ≤ w then (v, n) :: (w, m) :: t else (w, m) :: insCount v n t

/-- The value at index `i` of the sorted multiset. -/
def nthCount : Nat → List (Nat × Nat) → Nat
  | _, [] => 0
  | i, (v, n) :: t => if i < n then v else nthCount (i - n) t

/-- The lower of the two middle values of a set of listed values and `n` times the value `v` (R306). -/
def medianWith (listed : List Nat) (v n : Nat) : Nat :=
  nthCount ((listed.length + n - 1) / 2) (insCount v n (listed.foldr (fun x l => insCount x 1 l) []))

/-! ### The check function -/

/-- One bit of CRC-32C in reflected form (R561). -/
def crcBit (c : Word) : Word := if c.getLsbD 0 then (c >>> 1) ^^^ 0x82F63B78 else c >>> 1

/-- One byte, least significant bit first. -/
def crcByte (c : Word) (b : Byte) : Word :=
  crcBit (crcBit (crcBit (crcBit (crcBit (crcBit (crcBit (crcBit (c ^^^ b.setWidth 32))))))))

/-- The running value after the bytes `l`. -/
def crcRun (c : Word) (l : List Byte) : Word := l.foldl crcByte c

/-- The check function with fold value `fold` over the bytes `l` (R561). -/
def crc32c (fold : Word) (l : List Byte) : Word :=
  crcRun (0xFFFFFFFF ^^^ fold) l ^^^ 0xFFFFFFFF

/-! ### Lamp time -/

/-- How far lamp time `a` lies after lamp time `b`: negative before it. The counter is 64 bits wide and wraps (R21). -/
def ltDiff (a b : Nat) : Int := sext 64 (a + 2 ^ 64 - b % 2 ^ 64)

/-- A 48-bit timestamp extended to the nearest value, the earlier one on a tie (R23); `now` is the current lamp time. -/
def extend48 (now t : Nat) : Nat :=
  let d := (t + 2 ^ 48 - now % 2 ^ 48) % 2 ^ 48
  if d < 2 ^ 47 then (now + d) % 2 ^ 64 else (now + d + 2 ^ 64 - 2 ^ 48) % 2 ^ 64

end Sys2Proof.Machine
end

