-- ==== Sys2Proof/Machine/RegMap.lean ====
section
/-! DEFINITION. RegMap.lean: the register fields of the block map (R551), one definition each, as the register tables of
the chapters give them: address, lowest bit, width, access code (R554) and reset value. A family of equal fields is one
definition over its index, taken modulo the number of fields: no index names a register outside the family. -/

set_option linter.dupNamespace false

namespace Sys2Proof.Machine

/-- R70. -/
def SCAN.GOV_BUDGET.BUDGET_MA : Field := ⟨0xD0840, 0, 16, .shadowed, 0⟩
/-- R71. -/
def SCAN.GOV_RATE.RISE : Field := ⟨0xD0844, 0, 13, .rwd, 0x40⟩
/-- R72. -/
def SCAN.GOV_STATUS.G : Field := ⟨0xD0848, 0, 13, .ro, 0x1000⟩
/-- R72. -/
def SCAN.GOV_STATUS.LIMITING : Field := ⟨0xD0848, 16, 1, .ro, 0⟩
/-- R72. -/
def SCAN.GOV_STATUS.DERATING : Field := ⟨0xD0848, 17, 1, .ro, 0⟩
/-- R73. -/
def SCAN.GOV_PRED.PRED_MA : Field := ⟨0xD084C, 0, 16, .ro, 0⟩
/-- R73. -/
def SCAN.GOV_PRED.DEMAND_MA : Field := ⟨0xD084C, 16, 16, .ro, 0⟩
/-- R74. -/
def SCAN.DR_CFG.KNEE : Field := ⟨0xD0850, 0, 8, .rwd, 0x5F⟩
/-- R74. -/
def SCAN.DR_CFG.SLOPE : Field := ⟨0xD0850, 8, 8, .rwd, 0x19⟩
/-- R74. -/
def SCAN.DR_CFG.FLOOR : Field := ⟨0xD0850, 16, 8, .rwd, 0x28⟩
/-- R75. -/
def SCAN.HR_CFG.HR_EN : Field := ⟨0xD0854, 0, 1, .rwd, 0⟩
/-- R75. -/
def SCAN.HR_CFG.HR_QUIET : Field := ⟨0xD0854, 4, 4, .rwd, 0xA⟩
/-- R75. -/
def SCAN.HR_CFG.HR_LIMIT : Field := ⟨0xD0854, 8, 12, .rwd, 0⟩
/-- R76. -/
def SCAN.VLED_LIM.VLED_MIN : Field := ⟨0xD0858, 0, 8, .rwd, 0xC⟩
/-- R76. -/
def SCAN.VLED_LIM.VLED_MAX : Field := ⟨0xD0858, 8, 8, .rwd, 0x50⟩
/-- R77. -/
def SCAN.VLED_STATUS.VLED_SET : Field := ⟨0xD085C, 0, 8, .ro, 0x50⟩
/-- R77. -/
def SCAN.VLED_STATUS.AT_MAX : Field := ⟨0xD085C, 8, 1, .ro, 0⟩
/-- R77. -/
def SCAN.VLED_STATUS.PMBUS_ERR : Field := ⟨0xD085C, 9, 1, .rc, 0⟩
/-- R77. -/
def SCAN.VLED_STATUS.HR_FLAGS : Field := ⟨0xD085C, 16, 16, .ro, 0⟩
/-- R78. -/
def SCAN.FB_CTRL.FB_VALID : Field := ⟨0xD0860, 0, 1, .ro, 0⟩
/-- R78. -/
def SCAN.FB_CTRL.FB_HALF : Field := ⟨0xD0860, 1, 1, .rw, 0⟩
/-- R78. -/
def SCAN.FB_CTRL.FB_ACTIVE : Field := ⟨0xD0860, 2, 1, .derived, 0⟩
/-- R78. -/
def SCAN.FB_CTRL.RESET_LONG_ROM : Field := ⟨0xD0860, 3, 1, .ro, 0⟩
/-- R79. -/
def SCAN.FB_COUNT.COUNT : Field := ⟨0xD0864, 0, 21, .ro, 0⟩
/-- R80. -/
def SCAN.SWAP_STATUS.GRP_SWAPPED : Field := ⟨0xD0868, 0, 16, .ro, 0⟩
/-- R80. -/
def SCAN.SWAP_STATUS.HOLD_USED : Field := ⟨0xD0868, 16, 1, .rc, 0⟩
/-- R80. -/
def SCAN.SWAP_STATUS.HOLD_PEAK : Field := ⟨0xD0868, 24, 8, .ro, 0⟩
/-- R81. -/
def SCAN.BLANK_STATUS.PASS : Field := ⟨0xD086C, 0, 6, .ro, 0⟩
/-- R81. -/
def SCAN.BLANK_STATUS.PASS_LATE : Field := ⟨0xD086C, 16, 1, .rc, 0⟩
/-- R82. -/
def SCAN.IFB_STATUS.IFB_NA : Field := ⟨0xD0870, 0, 16, .ro, 0⟩
/-- R82. -/
def SCAN.IFB_STATUS.IFB_OPEN : Field := ⟨0xD0870, 16, 1, .rc, 0⟩
/-- R82. -/
def SCAN.IFB_STATUS.IFB_SHORT : Field := ⟨0xD0870, 17, 1, .rc, 0⟩
/-- R108. -/
def SCAN.CTRL.EN : Field := ⟨0xD0000, 0, 1, .rw, 0⟩
/-- R108. -/
def SCAN.CTRL.COMMIT : Field := ⟨0xD0000, 1, 1, .wo, 0⟩
/-- R109. -/
def SCAN.MODE.MODE : Field := ⟨0xD0004, 0, 3, .shadowed, 0⟩
/-- R110. -/
def SCAN.COMMIT_STATUS.COMMIT_PEND : Field := ⟨0xD0008, 0, 1, .ro, 0⟩
/-- R110. -/
def SCAN.COMMIT_STATUS.TARGET_FRAME : Field := ⟨0xD0008, 16, 16, .ro, 0⟩
/-- R111. -/
def SCAN.FRAME_NUM.FRAME_NUM : Field := ⟨0xD000C, 0, 32, .ro, 0⟩
/-- R112. -/
def SCAN.ORIGIN_LO.ORIGIN : Field := ⟨0xD0010, 0, 32, .rwd, 0⟩
/-- R112. -/
def SCAN.ORIGIN_HI.ORIGIN : Field := ⟨0xD0014, 0, 32, .rwd, 0⟩
/-- R113. -/
def SCAN.ORIGIN_ACT_LO.ORIGIN_ACT : Field := ⟨0xD0018, 0, 32, .ro, 0⟩
/-- R113. -/
def SCAN.ORIGIN_ACT_HI.ORIGIN_ACT : Field := ⟨0xD001C, 0, 32, .ro, 0⟩
/-- R114. -/
def SCAN.RASTER.SLOT : Field := ⟨0xD0020, 0, 11, .ro, 0⟩
/-- R114. -/
def SCAN.RASTER.MODE_ACT : Field := ⟨0xD0020, 12, 3, .derived, 0⟩
/-- R114. -/
def SCAN.RASTER.N11 : Field := ⟨0xD0020, 16, 1, .derived, 0⟩
/-- R114. -/
def SCAN.RASTER.SS_SUPPRESSED : Field := ⟨0xD0020, 17, 1, .ro, 0⟩
/-- R114. -/
def SCAN.RASTER.ALIGNING : Field := ⟨0xD0020, 18, 1, .ro, 0⟩
/-- R115. -/
def SCAN.UR_STATUS.UNDERRUN : Field := ⟨0xD0024, 0, 1, .rc, 0⟩
/-- R115. -/
def SCAN.UR_STATUS.UR_ROW : Field := ⟨0xD0024, 16, 10, .ro, 0⟩
/-- R116. -/
def SCAN.UR_COUNT.UR_COUNT : Field := ⟨0xD0028, 0, 32, .rw, 0⟩
/-- R117. -/
def SCAN.LAT_TOL.TOL : Field := ⟨0xD002C, 0, 8, .ro, 0⟩
/-- R117. -/
def SCAN.LAT_TOL.TOL_MIN : Field := ⟨0xD002C, 8, 8, .rcExt, 0xFF⟩
/-- R118. -/
def SCAN.N11_MAP.N11 : Field := ⟨0xD0030, 0, 16, .derived, 0⟩
/-- R153. -/
def GAL.CTRL.EN : Field := ⟨0xE0000, 0, 1, .rw, 0⟩
/-- R154. -/
def GAL.CFG.KILN_EN : Field := ⟨0xE0004, 0, 1, .rwd, 1⟩
/-- R154. -/
def GAL.CFG.FSTOP_EN : Field := ⟨0xE0004, 1, 1, .rwd, 1⟩
/-- R154. -/
def GAL.CFG.KILN_AGE : Field := ⟨0xE0004, 4, 4, .rwd, 4⟩
/-- R155. -/
def GAL.ATOMIC.GROUP : Field := ⟨0xE0008, 0, 7, .shadowed, 0⟩
/-- R156. -/
def GAL.LUT_SEL.PRE_B : Field := ⟨0xE000C, 0, 7, .shadowed, 0⟩
/-- R156. -/
def GAL.LUT_SEL.POST_B : Field := ⟨0xE000C, 8, 1, .shadowed, 0⟩
/-- R157. -/
def GAL.LUT_ADDR.INDEX : Field := ⟨0xE0010, 0, 13, .rw, 0⟩
/-- R157. -/
def GAL.LUT_ADDR.TABLE : Field := ⟨0xE0010, 16, 4, .rw, 0⟩
/-- R157. -/
def GAL.LUT_DATA.ENTRY : Field := ⟨0xE0014, 0, 16, .rw, 0⟩
/-- R158. -/
def GAL.STATUS.PARAM_ERR : Field := ⟨0xE0018, 0, 7, .ro, 0⟩
/-- R158. -/
def GAL.STATUS.LUT_IGN : Field := ⟨0xE0018, 8, 1, .rc, 0⟩
/-- R158. -/
def GAL.STATUS.CRC_ABORT : Field := ⟨0xE0018, 16, 1, .rc, 0⟩
/-- R159. -/
def GAL.SAFE_STATUS.CRC_ERR : Field := ⟨0xE001C, 0, 7, .rc, 0⟩
/-- R159. -/
def GAL.SAFE_STATUS.DROPPED : Field := ⟨0xE001C, 16, 7, .ro, 0⟩
/-- R160. -/
def GAL.CRC_ERR_COUNT.COUNT : Field := ⟨0xE0020, 0, 32, .rw, 0⟩
/-- R160. -/
def GAL.FLIP_SKIP_COUNT.COUNT : Field := ⟨0xE0024, 0, 32, .rw, 0⟩
/-- R161. -/
def GAL.KILN_STATUS.ACTIVE : Field := ⟨0xE0028, 0, 1, .ro, 0⟩
/-- R161. -/
def GAL.KILN_STATUS.BUILDING : Field := ⟨0xE0028, 1, 1, .ro, 0⟩
/-- R161. -/
def GAL.KILN_STATUS.PREFIX : Field := ⟨0xE0028, 2, 3, .ro, 0⟩
/-- R161. -/
def GAL.KILN_STATUS.GEN : Field := ⟨0xE0028, 8, 8, .ro, 0⟩
/-- R161. -/
def GAL.KILN_STATUS.ABANDONS : Field := ⟨0xE0028, 16, 16, .ro, 0⟩
/-- R189. -/
def SHD.CTRL.EN : Field := ⟨0xF0000, 0, 1, .rw, 0⟩
/-- R189. -/
def SHD.CTRL.BATCH_COMMIT : Field := ⟨0xF0000, 1, 1, .wo, 0⟩
/-- R190. -/
def SHD.CFG.MERGE_GAP : Field := ⟨0xF0004, 0, 6, .rwd, 4⟩
/-- R191. -/
def SHD.MAP_H0.H0 : Field := ⟨0xF0008, 0, 32, .rwd, 0xFEB8A3D7⟩
/-- R191. -/
def SHD.MAP_V0.V0 : Field := ⟨0xF000C, 0, 32, .rwd, 0x4CCCCD⟩
/-- R191. -/
def SHD.MAP_HSTEP.HSTEP : Field := ⟨0xF0010, 0, 20, .rwd, 0xA3D7⟩
/-- R191. -/
def SHD.MAP_VSTEP.VSTEP : Field := ⟨0xF0014, 0, 20, .rwd, 0x3333⟩
/-- R192. -/
def SHD.CTX_DEF.HORIZON : Field := ⟨0xF0018, 0, 12, .rwd, 0x96⟩
/-- R192. -/
def SHD.CTX_DEF.LIFE : Field := ⟨0xF0018, 12, 12, .rwd, 0x1F4⟩
/-- R192. -/
def SHD.CTX_DEF.GROW : Field := ⟨0xF0018, 24, 8, .rwd, 0x20⟩
/-- R193. -/
def SHD.STATUS.CMP_MISMATCH : Field := ⟨0xF001C, 0, 1, .rc, 0⟩
/-- R193. -/
def SHD.STATUS.ROW_SINGLE : Field := ⟨0xF001C, 1, 1, .rc, 0⟩
/-- R193. -/
def SHD.STATUS.LT_UNSYNC : Field := ⟨0xF001C, 2, 1, .derived, 0⟩
/-- R193. -/
def SHD.STATUS.BATCH_OPEN : Field := ⟨0xF001C, 3, 1, .derived, 0⟩
/-- R193. -/
def SHD.STATUS.ACTIVE : Field := ⟨0xF001C, 16, 9, .derived, 0⟩
/-- R194. -/
def SHD.MISMATCH_COUNT.COUNT : Field := ⟨0xF0020, 0, 32, .rw, 0⟩
/-- R194. -/
def SHD.WR_REJECT_COUNT.COUNT : Field := ⟨0xF0024, 0, 32, .rw, 0⟩
/-- R194. -/
def SHD.EVICT_COUNT.COUNT : Field := ⟨0xF0028, 0, 32, .rw, 0⟩
/-- R194. -/
def SHD.EXPIRE_COUNT.COUNT : Field := ⟨0xF002C, 0, 32, .rw, 0⟩
/-- R225. -/
def BE.CTRL.EN : Field := ⟨0x100000, 0, 1, .rw, 0⟩
/-- R225. -/
def BE.CTRL.AUTO_STEP : Field := ⟨0x100000, 1, 1, .rwd, 1⟩
/-- R225. -/
def BE.CTRL.ROTATE_EN : Field := ⟨0x100000, 2, 1, .rwd, 1⟩
/-- R225. -/
def BE.CTRL.STEP_N : Field := ⟨0x100000, 4, 4, .rwd, 8⟩
/-- R225. -/
def BE.CTRL.ROT_S : Field := ⟨0x100000, 8, 8, .rwd, 0xA⟩
/-- R226. -/
def BE.ACTIVE.ENG : Field := ⟨0x100004, 0, 18, .ro, 0xFFFF⟩
/-- R226. -/
def BE.SPARE.ENG : Field := ⟨0x100008, 0, 18, .ro, 0x30000⟩
/-- R226. -/
def BE.RETIRED.ENG : Field := ⟨0x10000C, 0, 18, .ro, 0⟩
/-- R228. -/
def BE.LOAD.LOAD : Field := ⟨0x100020, 0, 8, .ro, 0⟩
/-- R228. -/
def BE.LOAD.LOAD_PEAK : Field := ⟨0x100020, 8, 8, .rcExt, 0⟩
/-- R228. -/
def BE.LOAD.PAUSE : Field := ⟨0x100020, 16, 4, .ro, 0⟩
/-- R229. -/
def BE.STATUS.TAKEOVER : Field := ⟨0x100024, 0, 1, .rc, 0⟩
/-- R229. -/
def BE.STATUS.STEPPED : Field := ⟨0x100024, 1, 1, .rc, 0⟩
/-- R229. -/
def BE.STATUS.DEGRADED : Field := ⟨0x100024, 2, 1, .ro, 0⟩
/-- R229. -/
def BE.STATUS.DOSE_LOST : Field := ⟨0x100024, 3, 1, .rc, 0⟩
/-- R230. -/
def BE.FAULT_COUNT.COUNT : Field := ⟨0x100028, 0, 32, .rw, 0⟩
/-- R230. -/
def BE.LATE_COUNT.COUNT : Field := ⟨0x10002C, 0, 32, .rw, 0⟩
/-- R231. -/
def BE.OPTICS.SOURCE : Field := ⟨0x100030, 0, 1, .ro, 0⟩
/-- R231. -/
def BE.OPTICS.RESID : Field := ⟨0x100030, 8, 8, .ro, 0⟩
/-- R231. -/
def BE.OPTICS.SHIFT : Field := ⟨0x100030, 16, 16, .ro, 0⟩
/-- R265. -/
def SAFE.STATUS.FB_ACTIVE : Field := ⟨0x60000, 0, 1, .derived, 0⟩
/-- R265. -/
def SAFE.STATUS.FB_PERMIT : Field := ⟨0x60000, 1, 1, .derived, 0⟩
/-- R265. -/
def SAFE.STATUS.SEAL_BROKEN : Field := ⟨0x60000, 2, 1, .ro, 0⟩
/-- R265. -/
def SAFE.STATUS.PATH_STATE : Field := ⟨0x60000, 4, 2, .ro, 0⟩
/-- R265. -/
def SAFE.STATUS.HB_EFFECTIVE : Field := ⟨0x60000, 6, 1, .derived, 0⟩
/-- R265. -/
def SAFE.STATUS.BLOCK_RUN : Field := ⟨0x60000, 8, 4, .derived, 0⟩
/-- R265. -/
def SAFE.STATUS.VERDICT_FAIL : Field := ⟨0x60000, 16, 1, .rc, 0⟩
/-- R265. -/
def SAFE.STATUS.PATH_CHANGE : Field := ⟨0x60000, 17, 1, .rc, 0⟩
/-- R266. -/
def SAFE.VERDICT.PASS : Field := ⟨0x60004, 0, 1, .ro, 0⟩
/-- R266. -/
def SAFE.VERDICT.SLI_FAIL : Field := ⟨0x60004, 1, 1, .ro, 0⟩
/-- R266. -/
def SAFE.VERDICT.SLC_FAIL : Field := ⟨0x60004, 2, 1, .ro, 0⟩
/-- R266. -/
def SAFE.VERDICT.SLS_FAIL : Field := ⟨0x60004, 3, 1, .ro, 0⟩
/-- R266. -/
def SAFE.VERDICT.SLR_FLUX : Field := ⟨0x60004, 4, 1, .ro, 0⟩
/-- R266. -/
def SAFE.VERDICT.SLR_CENT : Field := ⟨0x60004, 5, 1, .ro, 0⟩
/-- R266. -/
def SAFE.VERDICT.INCOMPLETE : Field := ⟨0x60004, 6, 1, .ro, 0⟩
/-- R266. -/
def SAFE.VERDICT.ACC_MISMATCH : Field := ⟨0x60004, 7, 1, .ro, 0⟩
/-- R266. -/
def SAFE.VERDICT.ECHO_ERR : Field := ⟨0x60004, 8, 1, .ro, 0⟩
/-- R266. -/
def SAFE.VERDICT.SLI_ZONE : Field := ⟨0x60004, 12, 4, .ro, 0⟩
/-- R266. -/
def SAFE.VERDICT.SLC_SEG : Field := ⟨0x60004, 16, 5, .ro, 0⟩
/-- R266. -/
def SAFE.VERDICT.FRAME : Field := ⟨0x60004, 24, 8, .ro, 0⟩
/-- R267. -/
def SAFE.FB_CAUSE.LOWBEAM : Field := ⟨0x60008, 0, 1, .ro, 0⟩
/-- R267. -/
def SAFE.FB_CAUSE.M7 : Field := ⟨0x60008, 1, 1, .ro, 0⟩
/-- R267. -/
def SAFE.FB_CAUSE.SOFT_STOP : Field := ⟨0x60008, 2, 1, .ro, 0⟩
/-- R267. -/
def SAFE.FB_CAUSE.BLOCK : Field := ⟨0x60008, 3, 1, .ro, 0⟩
/-- R267. -/
def SAFE.FB_CAUSE.FATAL : Field := ⟨0x60008, 4, 1, .ro, 0⟩
/-- R267. -/
def SAFE.FB_CAUSE.CLOCK : Field := ⟨0x60008, 5, 1, .ro, 0⟩
/-- R267. -/
def SAFE.FB_CAUSE.GUARD : Field := ⟨0x60008, 6, 1, .ro, 0⟩
/-- R268. -/
def SAFE.SEAL.STRAP : Field := ⟨0x6000C, 0, 12, .ro, 0⟩
/-- R268. -/
def SAFE.SEAL.SLOT : Field := ⟨0x6000C, 12, 4, .ro, 0⟩
/-- R268. -/
def SAFE.SEAL.NO_SLOT : Field := ⟨0x6000C, 16, 1, .ro, 0⟩
/-- R268. -/
def SAFE.SEAL.STRAP_CHANGED : Field := ⟨0x6000C, 17, 1, .rc, 0⟩
/-- R268. -/
def SAFE.SEAL.SLOTS_FREE : Field := ⟨0x6000C, 20, 5, .ro, 0x10⟩
/-- R269. -/
def SAFE.EFFECTIVE.LEFT : Field := ⟨0x60010, 0, 1, .ro, 0⟩
/-- R269. -/
def SAFE.EFFECTIVE.CONSERVATIVE : Field := ⟨0x60010, 1, 1, .ro, 0⟩
/-- R269. -/
def SAFE.EFFECTIVE.GLARE_CLASS : Field := ⟨0x60010, 2, 2, .ro, 0⟩
/-- R269. -/
def SAFE.EFFECTIVE.SWIVEL : Field := ⟨0x60010, 4, 2, .ro, 0⟩
/-- R269. -/
def SAFE.EFFECTIVE.CUTOFF : Field := ⟨0x60010, 6, 2, .ro, 0⟩
/-- R269. -/
def SAFE.EFFECTIVE.FB_SEL : Field := ⟨0x60010, 8, 2, .ro, 0⟩
/-- R269. -/
def SAFE.EFFECTIVE.RING_ROLE : Field := ⟨0x60010, 10, 2, .ro, 0⟩
/-- R269. -/
def SAFE.EFFECTIVE.BLOCK_LIMIT : Field := ⟨0x60010, 12, 4, .ro, 3⟩
/-- R269. -/
def SAFE.EFFECTIVE.WINDOW : Field := ⟨0x60010, 16, 8, .derived, 0xA⟩
/-- R269. -/
def SAFE.EFFECTIVE.WINDOW_MAX : Field := ⟨0x60010, 24, 8, .ro, 0xA⟩
/-- R270. -/
def SAFE.HB_MASK.MASK : Field := ⟨0x60014, 0, 32, .derived, 0⟩
/-- R270. -/
def SAFE.FLUX.F_REF : Field := ⟨0x60018, 0, 32, .ro, 0⟩
/-- R270. -/
def SAFE.CENTROID.C_REF : Field := ⟨0x6001C, 0, 14, .ro, 0⟩
/-- R271. -/
def SAFE.SEQ_A.VALUE : Field := ⟨0x60020, 0, 32, .ro, 0⟩
/-- R271. -/
def SAFE.SEQ_B.VALUE : Field := ⟨0x60024, 0, 32, .ro, 0⟩
/-- R271. -/
def SAFE.BLOCK_COUNT.VALUE : Field := ⟨0x60028, 0, 32, .ro, 0⟩
/-- R271. -/
def SAFE.REJECT_A.VALUE : Field := ⟨0x6002C, 0, 32, .ro, 0⟩
/-- R271. -/
def SAFE.REJECT_B.VALUE : Field := ⟨0x60030, 0, 32, .ro, 0⟩
/-- R271. -/
def SAFE.FB_ENTRIES.VALUE : Field := ⟨0x60034, 0, 32, .ro, 0⟩
/-- R293. -/
def DIAG.CTRL.EN : Field := ⟨0x110000, 0, 1, .rw, 0⟩
/-- R293. -/
def DIAG.CTRL.HEAL_EN : Field := ⟨0x110000, 1, 1, .rwd, 1⟩
/-- R293. -/
def DIAG.CTRL.LEAK_EN : Field := ⟨0x110000, 2, 1, .rwd, 1⟩
/-- R294. -/
def DIAG.CFG.DW_OPS : Field := ⟨0x110004, 0, 7, .rwd, 0x40⟩
/-- R294. -/
def DIAG.CFG.TP_IREF : Field := ⟨0x110004, 8, 5, .rwd, 0xA⟩
/-- R294. -/
def DIAG.CFG.OPEN_PCT : Field := ⟨0x110004, 16, 7, .rwd, 0x19⟩
/-- R294. -/
def DIAG.CFG.VF_SHORT : Field := ⟨0x110004, 24, 8, .rwd, 0xB4⟩
/-- R295. -/
def DIAG.LINE_CFG.ROW_LINE_TH : Field := ⟨0x110008, 0, 11, .rwd, 0x100⟩
/-- R296. -/
def DIAG.STATUS.NEW_DEAD : Field := ⟨0x11000C, 0, 1, .rc, 0⟩
/-- R296. -/
def DIAG.STATUS.LINE_FAULT : Field := ⟨0x11000C, 1, 1, .rc, 0⟩
/-- R296. -/
def DIAG.STATUS.CLUSTER : Field := ⟨0x11000C, 2, 1, .rc, 0⟩
/-- R296. -/
def DIAG.STATUS.MAP_FULL : Field := ⟨0x11000C, 3, 1, .derived, 0⟩
/-- R296. -/
def DIAG.STATUS.STUCK : Field := ⟨0x11000C, 4, 1, .rc, 0⟩
/-- R296. -/
def DIAG.STATUS.MAPPED : Field := ⟨0x11000C, 8, 13, .derived, 0⟩
/-- R297. -/
def DIAG.AGE.MAX_AGE : Field := ⟨0x110010, 0, 12, .ro, 0⟩
/-- R297. -/
def DIAG.AGE.AGE_ROW : Field := ⟨0x110010, 12, 10, .ro, 0⟩
/-- R298. -/
def DIAG.LINE.ROW_FAULTS : Field := ⟨0x110014, 0, 4, .ro, 0⟩
/-- R298. -/
def DIAG.LINE.COL_FAULTS : Field := ⟨0x110014, 4, 4, .ro, 0⟩
/-- R298. -/
def DIAG.LINE.FIRST_ROW : Field := ⟨0x110014, 8, 10, .ro, 0⟩
/-- R298. -/
def DIAG.LINE.FIRST_COL : Field := ⟨0x110014, 18, 10, .ro, 0⟩
/-- R299. -/
def DIAG.TRIM_REJ.COUNT : Field := ⟨0x110018, 0, 32, .rw, 0⟩
/-- R299. -/
def DIAG.DEFER_COUNT.COUNT : Field := ⟨0x11001C, 0, 32, .rw, 0⟩
/-- R299. -/
def DIAG.LEAK_COUNT.COUNT : Field := ⟨0x110020, 0, 32, .rw, 0⟩
/-- R299. -/
def DIAG.PREEMPT_COUNT.COUNT : Field := ⟨0x110024, 0, 32, .rw, 0⟩
/-- R299. -/
def DIAG.UNMAPPED.COUNT : Field := ⟨0x110028, 0, 32, .rw, 0⟩
/-- R326. -/
def CAL.CTRL.EN : Field := ⟨0x120000, 0, 1, .rw, 0⟩
/-- R326. -/
def CAL.CTRL.INSVC_EN : Field := ⟨0x120000, 1, 1, .rwd, 1⟩
/-- R326. -/
def CAL.CTRL.AG_EN : Field := ⟨0x120000, 2, 1, .rwd, 1⟩
/-- R326. -/
def CAL.CTRL.VM_EN : Field := ⟨0x120000, 3, 1, .rwd, 1⟩
/-- R327. -/
def CAL.CFG.CAL_IREF : Field := ⟨0x120004, 0, 8, .rwd, 0xC8⟩
/-- R327. -/
def CAL.CFG.SEL_TOL : Field := ⟨0x120004, 8, 6, .rwd, 0xF⟩
/-- R327. -/
def CAL.CFG.TRIM_LIM : Field := ⟨0x120004, 16, 6, .rwd, 0x19⟩
/-- R327. -/
def CAL.CFG.UNIT_WIN : Field := ⟨0x120004, 24, 7, .rwd, 0x32⟩
/-- R328. -/
def CAL.STATUS.DONE : Field := ⟨0x120008, 0, 1, .ro, 0⟩
/-- R328. -/
def CAL.STATUS.STARTUP_ABORT : Field := ⟨0x120008, 1, 1, .rc, 0⟩
/-- R328. -/
def CAL.STATUS.WRITE_FAIL : Field := ⟨0x120008, 2, 1, .rc, 0⟩
/-- R328. -/
def CAL.STATUS.WITNESS_LOW : Field := ⟨0x120008, 3, 1, .rc, 0⟩
/-- R328. -/
def CAL.STATUS.A_CLAMPED : Field := ⟨0x120008, 4, 1, .ro, 0⟩
/-- R328. -/
def CAL.STATUS.CAL_ROW : Field := ⟨0x120008, 16, 10, .ro, 0⟩
/-- R329. -/
def CAL.START_STATS.GLOBAL_MED : Field := ⟨0x12000C, 0, 16, .ro, 0⟩
/-- R329. -/
def CAL.START_STATS.DARK_US : Field := ⟨0x12000C, 16, 16, .ro, 0⟩
/-- R329. -/
def CAL.TRIM_STATS.TRIMMED : Field := ⟨0x120010, 0, 21, .ro, 0⟩
/-- R330. -/
def CAL.AG_CFG.AG_TARGET : Field := ⟨0x120014, 0, 1, .rwd, 0⟩
/-- R330. -/
def CAL.AG_CFG.A_MAX : Field := ⟨0x120014, 8, 8, .rwd, 0x7D⟩
/-- R331. -/
def CAL.AG_STATUS.GEN : Field := ⟨0x120018, 0, 8, .ro, 0⟩
/-- R331. -/
def CAL.AG_STATUS.MODEL_GEN : Field := ⟨0x120018, 8, 8, .ro, 0⟩
/-- R331. -/
def CAL.AG_STATUS.FB_HOURS : Field := ⟨0x120018, 16, 16, .ro, 0⟩
/-- R332. -/
def CAL.VM_CFG.VC_MIN : Field := ⟨0x12001C, 0, 4, .rwd, 0⟩
/-- R332. -/
def CAL.VM_CFG.VC_MAX : Field := ⟨0x12001C, 4, 4, .rwd, 0xA⟩
/-- R332. -/
def CAL.VM_CFG.M_LOW : Field := ⟨0x12001C, 8, 8, .rwd, 0x1E⟩
/-- R332. -/
def CAL.VM_CFG.M_HIGH : Field := ⟨0x12001C, 16, 8, .rwd, 0x3C⟩
/-- R333. -/
def CAL.VM_STATUS.VC_SET : Field := ⟨0x120020, 0, 4, .ro, 2⟩
/-- R333. -/
def CAL.VM_STATUS.WORST_MON : Field := ⟨0x120020, 4, 5, .ro, 0⟩
/-- R333. -/
def CAL.VM_STATUS.PMBUS_ERR : Field := ⟨0x120020, 9, 1, .rc, 0⟩
/-- R333. -/
def CAL.VM_STATUS.MARGIN_MIN : Field := ⟨0x120020, 16, 16, .ro, 0⟩
/-- R334. -/
def CAL.RESEL_COUNT.COUNT : Field := ⟨0x120024, 0, 32, .rw, 0⟩
/-- R334. -/
def CAL.SKIP_COUNT.COUNT : Field := ⟨0x120028, 0, 32, .rw, 0⟩
/-- R443. -/
def AUX.CTRL.EN : Field := ⟨0xC0000, 0, 1, .rw, 0⟩
/-- R446. -/
def AUX.DR_CFG.KNEE : Field := ⟨0xC0018, 0, 8, .rwd, 0x55⟩
/-- R446. -/
def AUX.DR_CFG.SLOPE : Field := ⟨0xC0018, 8, 8, .rwd, 0x19⟩
/-- R446. -/
def AUX.DR_CFG.FLOOR : Field := ⟨0xC0018, 16, 8, .rwd, 0x28⟩
/-- R446. -/
def AUX.DR_CFG.SRC : Field := ⟨0xC0018, 24, 2, .rwd, 0⟩
/-- R447. -/
def AUX.STATUS.F : Field := ⟨0xC001C, 0, 13, .ro, 0x1000⟩
/-- R447. -/
def AUX.STATUS.DERATING : Field := ⟨0xC001C, 16, 1, .ro, 0⟩
/-- R447. -/
def AUX.STATUS.STRETCHED : Field := ⟨0xC001C, 17, 4, .derived, 0⟩
/-- R447. -/
def AUX.STATUS.ENGINES : Field := ⟨0xC001C, 24, 8, .derived, 0⟩
/-- R469. -/
def CLK.STATUS.SRC : Field := ⟨0x10000, 0, 2, .ro, 0⟩
/-- R469. -/
def CLK.STATUS.PLL_LOCK : Field := ⟨0x10000, 2, 1, .ro, 0⟩
/-- R469. -/
def CLK.STATUS.CLOCK_OK : Field := ⟨0x10000, 3, 1, .ro, 0⟩
/-- R469. -/
def CLK.STATUS.OSCDLY : Field := ⟨0x10000, 4, 2, .ro, 0⟩
/-- R469. -/
def CLK.STATUS.OSCDLY_OTP : Field := ⟨0x10000, 6, 1, .ro, 0⟩
/-- R469. -/
def CLK.STATUS.CLKSW_FORCED : Field := ⟨0x10000, 8, 1, .rc, 0⟩
/-- R469. -/
def CLK.STATUS.WIGN : Field := ⟨0x10000, 9, 1, .rc, 0⟩
/-- R470. -/
def CLK.MON_FAIL.CLK : Field := ⟨0x10004, 0, 10, .rc, 0⟩
/-- R472. -/
def CLK.RAMP.DWELL : Field := ⟨0x1000C, 0, 4, .rw, 3⟩
/-- R472. -/
def CLK.DIV.CORE : Field := ⟨0x10010, 0, 7, .rw, 0xC⟩
/-- R472. -/
def CLK.DIV.PIX : Field := ⟨0x10010, 8, 7, .rw, 0x10⟩
/-- R472. -/
def CLK.DIV.BUS : Field := ⟨0x10010, 16, 7, .rw, 0x18⟩
/-- R472. -/
def CLK.DIV.PER : Field := ⟨0x10010, 24, 7, .rw, 0x60⟩
/-- R473. -/
def CLK.SS_REF.EN : Field := ⟨0x10014, 0, 1, .rw, 0⟩
/-- R473. -/
def CLK.SS_REF.DEPTH : Field := ⟨0x10014, 1, 7, .rw, 0x32⟩
/-- R473. -/
def CLK.SS_REF.RATE : Field := ⟨0x10014, 8, 10, .rw, 0x13B⟩
/-- R473. -/
def CLK.SS_GS.EN : Field := ⟨0x10018, 0, 1, .rw, 0⟩
/-- R473. -/
def CLK.SS_GS.DEPTH : Field := ⟨0x10018, 1, 5, .rw, 0xA⟩
/-- R473. -/
def CLK.SS_GS.RATE : Field := ⟨0x10018, 8, 6, .rw, 0x14⟩
/-- R474. -/
def CLK.FORCED_COUNT.COUNT : Field := ⟨0x1001C, 0, 32, .rw, 0⟩
/-- R475. -/
def PWR.STATE.STATE : Field := ⟨0x20000, 0, 3, .ro, 0⟩
/-- R475. -/
def PWR.STATE.WAKE_SRC : Field := ⟨0x20000, 8, 3, .ro, 0⟩
/-- R475. -/
def PWR.STATE.WAKE_CODE : Field := ⟨0x20000, 16, 4, .ro, 0⟩
/-- R476. -/
def PWR.RETAIN.SUP_LO : Field := ⟨0x20004, 0, 4, .ro, 0xF⟩
/-- R476. -/
def PWR.RETAIN.SUP_HI : Field := ⟨0x20004, 4, 4, .rw, 0⟩
/-- R476. -/
def PWR.RETAIN.KILN : Field := ⟨0x20004, 8, 6, .rw, 0⟩
/-- R477. -/
def PWR.CFG.WAKE_TO : Field := ⟨0x20008, 0, 8, .rw, 0x14⟩
/-- R477. -/
def PWR.CFG.RETRIES : Field := ⟨0x20008, 8, 2, .rw, 3⟩
/-- R478. -/
def PWR.STATUS.WAKE_FAIL : Field := ⟨0x2000C, 0, 1, .rc, 0⟩
/-- R478. -/
def PWR.STATUS.REFUSED : Field := ⟨0x2000C, 1, 1, .rc, 0⟩
/-- R478. -/
def PWR.STATUS.ABORTED : Field := ⟨0x2000C, 2, 1, .rc, 0⟩
/-- R478. -/
def PWR.STATUS.LAST_REFUSER : Field := ⟨0x2000C, 8, 5, .ro, 0⟩
/-- R479. -/
def PWR.REFUSE_COUNT.COUNT : Field := ⟨0x20010, 0, 32, .rw, 0⟩
/-- R479. -/
def PWR.ABORT_COUNT.COUNT : Field := ⟨0x20014, 0, 32, .rw, 0⟩
/-- R479. -/
def PWR.WAKE_FAIL_COUNT.COUNT : Field := ⟨0x20018, 0, 32, .rw, 0⟩
/-- R489. -/
def THM.CTRL.EN : Field := ⟨0x40000, 0, 1, .rw, 0⟩
/-- R490. -/
def THM.THRESH.WARN : Field := ⟨0x40004, 0, 8, .rwd, 0x7D⟩
/-- R490. -/
def THM.THRESH.THROTTLE : Field := ⟨0x40004, 8, 8, .rwd, 0x87⟩
/-- R490. -/
def THM.THRESH.SOFT_STOP : Field := ⟨0x40004, 16, 8, .rwd, 0x96⟩
/-- R490. -/
def THM.THRESH.HARD_TRIP : Field := ⟨0x40004, 24, 8, .rwd, 0xA5⟩
/-- R491. -/
def THM.CFG.P_MAX : Field := ⟨0x40008, 0, 4, .rwd, 0xC⟩
/-- R492. -/
def THM.STATUS.LEVEL : Field := ⟨0x4000C, 0, 3, .ro, 0⟩
/-- R492. -/
def THM.STATUS.HOT_SENSOR : Field := ⟨0x4000C, 8, 7, .ro, 0⟩
/-- R492. -/
def THM.STATUS.TJ : Field := ⟨0x4000C, 16, 12, .ro, 0⟩
/-- R492. -/
def THM.STATUS.HT_LAST : Field := ⟨0x4000C, 28, 1, .rc, 0⟩
/-- R492. -/
def THM.STATUS.SENSOR_FAIL : Field := ⟨0x4000C, 29, 1, .rc, 0⟩
/-- R495. -/
def THM.THROTTLE_COUNT.COUNT : Field := ⟨0x401A0, 0, 32, .rw, 0⟩
/-- R495. -/
def THM.SOFT_STOP_COUNT.COUNT : Field := ⟨0x401A4, 0, 32, .rw, 0⟩
/-- R495. -/
def THM.HT_COUNT.COUNT : Field := ⟨0x401A8, 0, 32, .rw, 0⟩
/-- R522. -/
def DDRC.CTRL.EN : Field := ⟨0x80000, 0, 1, .rw, 0⟩
/-- R522. -/
def DDRC.CTRL.LAT_EN : Field := ⟨0x80000, 1, 1, .rwd, 1⟩
/-- R522. -/
def DDRC.ORG.RANKS : Field := ⟨0x80004, 0, 1, .rwd, 0⟩
/-- R522. -/
def DDRC.ORG.WIDTH : Field := ⟨0x80004, 1, 1, .rwd, 0⟩
/-- R522. -/
def DDRC.ORG.DENSITY : Field := ⟨0x80004, 2, 2, .rwd, 1⟩
/-- R524. -/
def DDRC.RHP.RHP_K : Field := ⟨0x80018, 0, 5, .rwd, 0xC⟩
/-- R524. -/
def DDRC.PWR.PD_MIN : Field := ⟨0x8001C, 0, 8, .rwd, 1⟩
/-- R524. -/
def DDRC.PWR.SR_MIN : Field := ⟨0x8001C, 8, 8, .rwd, 0x19⟩
/-- R524. -/
def DDRC.PWR.CE_TH : Field := ⟨0x8001C, 16, 8, .rwd, 0x10⟩
/-- R525. -/
def DDRC.STATUS.READY : Field := ⟨0x80020, 0, 1, .ro, 0⟩
/-- R525. -/
def DDRC.STATUS.SELF_REFRESH : Field := ⟨0x80020, 1, 1, .ro, 0⟩
/-- R525. -/
def DDRC.STATUS.POWER_DOWN : Field := ⟨0x80020, 2, 1, .ro, 0⟩
/-- R525. -/
def DDRC.STATUS.HOT : Field := ⟨0x80020, 3, 1, .ro, 0⟩
/-- R525. -/
def DDRC.STATUS.MAP_ERR : Field := ⟨0x80020, 4, 1, .rc, 0⟩
/-- R525. -/
def DDRC.STATUS.ORG_ERR : Field := ⟨0x80020, 5, 1, .rc, 0⟩
/-- R525. -/
def DDRC.STATUS.DRAM_FAIL : Field := ⟨0x80020, 6, 1, .ro, 0⟩
/-- R525. -/
def DDRC.STATUS.RANGE_ERR : Field := ⟨0x80020, 7, 1, .rc, 0⟩
/-- R526. -/
def DDRC.CE_COUNT.COUNT : Field := ⟨0x80024, 0, 32, .rw, 0⟩
/-- R526. -/
def DDRC.UE_COUNT.COUNT : Field := ⟨0x80028, 0, 32, .rw, 0⟩
/-- R526. -/
def DDRC.REPLAY_COUNT.COUNT : Field := ⟨0x8002C, 0, 32, .rw, 0⟩
/-- R526. -/
def DDRC.RHP_COUNT.COUNT : Field := ⟨0x80030, 0, 32, .rw, 0⟩
/-- R527. -/
def DDRC.UE_ADDR_LO.ADDR : Field := ⟨0x80034, 0, 32, .ro, 0⟩
/-- R527. -/
def DDRC.UE_ADDR_HI.ADDR : Field := ⟨0x80038, 0, 2, .ro, 0⟩
/-- R527. -/
def DDRC.UE_ADDR_HI.CLASS_S : Field := ⟨0x80038, 8, 1, .ro, 0⟩
/-- R527. -/
def DDRC.SR_TIME.TIME : Field := ⟨0x8003C, 0, 32, .ro, 0⟩
/-- R544. -/
def FLT.STATUS.PEND_CORR : Field := ⟨0x30000, 0, 1, .ro, 0⟩
/-- R544. -/
def FLT.STATUS.PEND_CONT : Field := ⟨0x30000, 1, 1, .ro, 0⟩
/-- R544. -/
def FLT.STATUS.PEND_FATAL : Field := ⟨0x30000, 2, 1, .ro, 0⟩
/-- R544. -/
def FLT.STATUS.INJ_CORR : Field := ⟨0x30000, 4, 1, .ro, 0⟩
/-- R544. -/
def FLT.STATUS.INJ_CONT : Field := ⟨0x30000, 5, 1, .ro, 0⟩
/-- R544. -/
def FLT.STATUS.INJ_FATAL : Field := ⟨0x30000, 6, 1, .ro, 0⟩
/-- R544. -/
def FLT.STATUS.ERR_HELD : Field := ⟨0x30000, 8, 1, .derived, 0⟩
/-- R544. -/
def FLT.STATUS.RESTARTING : Field := ⟨0x30000, 9, 1, .ro, 0⟩
/-- R544. -/
def FLT.STATUS.SUP_HALTED : Field := ⟨0x30000, 10, 1, .ro, 0⟩
/-- R544. -/
def FLT.STATUS.RESTARTS : Field := ⟨0x30000, 16, 8, .ro, 0⟩
/-- R545. -/
def FLT.ACK.CLASS : Field := ⟨0x30004, 0, 3, .wo, 0⟩
/-- R545. -/
def FLT.ACK.INJ : Field := ⟨0x30004, 4, 3, .wo, 0⟩
/-- R545. -/
def FLT.ACK.FIRST : Field := ⟨0x30004, 8, 1, .wo, 0⟩
/-- R546. -/
def FLT.FIRST.SRC : Field := ⟨0x30008, 0, 7, .ro, 0⟩
/-- R546. -/
def FLT.INJ_FIRST.SRC : Field := ⟨0x3000C, 0, 7, .ro, 0⟩
/-- R546. -/
def FLT.FIRST.CLASS : Field := ⟨0x30008, 8, 2, .ro, 0⟩
/-- R546. -/
def FLT.INJ_FIRST.CLASS : Field := ⟨0x3000C, 8, 2, .ro, 0⟩
/-- R546. -/
def FLT.FIRST.ESCALATED : Field := ⟨0x30008, 10, 1, .ro, 0⟩
/-- R546. -/
def FLT.INJ_FIRST.ESCALATED : Field := ⟨0x3000C, 10, 1, .ro, 0⟩
/-- R546. -/
def FLT.FIRST.VALID : Field := ⟨0x30008, 11, 1, .ro, 0⟩
/-- R546. -/
def FLT.INJ_FIRST.VALID : Field := ⟨0x3000C, 11, 1, .ro, 0⟩
/-- R546. -/
def FLT.FIRST.OVERFLOW : Field := ⟨0x30008, 12, 1, .ro, 0⟩
/-- R546. -/
def FLT.INJ_FIRST.OVERFLOW : Field := ⟨0x3000C, 12, 1, .ro, 0⟩
/-- R547. -/
def FLT.FIRST_LT_LO.LT : Field := ⟨0x30010, 0, 32, .ro, 0⟩
/-- R547. -/
def FLT.FIRST_LT_HI.LT : Field := ⟨0x30014, 0, 32, .ro, 0⟩
/-- R548. -/
def FLT.CFG.MIN_W : Field := ⟨0x30018, 0, 10, .rw, 0xA⟩
/-- R548. -/
def FLT.CFG.ERR_CORR : Field := ⟨0x30018, 12, 1, .rw, 0⟩
/-- R548. -/
def FLT.CFG.RESTART_MAX : Field := ⟨0x30018, 16, 4, .rw, 3⟩
/-- R549. -/
def FLT.LAST.SRC : Field := ⟨0x3001C, 0, 7, .ro, 0⟩
/-- R549. -/
def FLT.LAST.INJ : Field := ⟨0x3001C, 7, 1, .ro, 0⟩
/-- R549. -/
def FLT.LAST.CLASS : Field := ⟨0x3001C, 8, 2, .ro, 0⟩
/-- R549. -/
def FLT.LAST.ESCALATED : Field := ⟨0x3001C, 10, 1, .ro, 0⟩
/-- R565. -/
def SYS.ID.PART : Field := ⟨0x0, 0, 16, .ro, 0x1024⟩
/-- R565. -/
def SYS.ID.SI_REV : Field := ⟨0x0, 16, 16, .ro, Config.siRev⟩
/-- R566. -/
def SYS.SERIAL_LO.SERIAL : Field := ⟨0x4, 0, 32, .ro, (Config.serial.setWidth 32)⟩
/-- R566. -/
def SYS.SERIAL_HI.SERIAL : Field := ⟨0x8, 0, 32, .ro, ((Config.serial >>> 32).setWidth 32)⟩
/-- R567. -/
def SYS.WIGN.BLOCK : Field := ⟨0xC, 0, 21, .rc, 0⟩
/-- R568. -/
def SYS.SCRATCH.DATA : Field := ⟨0x10, 0, 32, .rw, 0⟩
/-- R569. -/
def CRC.CTRL.EN : Field := ⟨0x70000, 0, 1, .rw, 0⟩
/-- R588. -/
def SYS.BOOT.SLOT : Field := ⟨0x14, 0, 1, .ro, 0⟩
/-- R588. -/
def SYS.BOOT.PREFERRED : Field := ⟨0x14, 1, 1, .ro, 0⟩
/-- R588. -/
def SYS.BOOT.DIR_COPY : Field := ⟨0x14, 2, 1, .ro, 0⟩
/-- R588. -/
def SYS.BOOT.FLASH_MODE : Field := ⟨0x14, 3, 2, .ro, 0⟩
/-- R588. -/
def SYS.BOOT.A_FAIL : Field := ⟨0x14, 8, 1, .ro, 0⟩
/-- R588. -/
def SYS.BOOT.B_FAIL : Field := ⟨0x14, 9, 1, .ro, 0⟩
/-- R588. -/
def SYS.BOOT.REASON : Field := ⟨0x14, 12, 4, .ro, 0⟩
/-- R588. -/
def SYS.BOOT.BOOT_HALT : Field := ⟨0x14, 16, 1, .ro, 0⟩
/-- R589. -/
def SYS.RESET_CAUSE.CAUSE : Field := ⟨0x18, 0, 3, .ro, 0⟩
/-- R589. -/
def SYS.RESET_CAUSE.RESET_LONG : Field := ⟨0x18, 8, 1, .rc, 0⟩
/-- R589. -/
def SYS.RESET_CAUSE.HELD_S : Field := ⟨0x18, 16, 16, .ro, 0⟩
/-- R471. -/
def CLK.GATE.EN (n : Nat) : Field := ⟨0x10008, ((n % 21)), 1, (if n % 21 ≤ 3 ∨ n % 21 = 5 then .ro else .rw), (if (n % 21) ≤ 3 ∨ (n % 21) = 5 then 1 else 0)⟩
/-- R69. -/
def SCAN.IREF (z : Nat) : Field := ⟨(0xD0800 + 4*((z % 64)/4)), (8*((z % 64)%4)), 8, .shadowed, 0⟩
/-- R162. -/
def GAL.L.CTRL.EN (n : Nat) : Field := ⟨(0xE0100 + 0x40*(n % 7)), 0, 1, (if n % 7 = 0 then .derived else .shadowed), 0⟩
/-- R162. -/
def GAL.L.CTRL.FORMAT (n : Nat) : Field := ⟨(0xE0100 + 0x40*(n % 7)), 1, 3, .shadowed, 0⟩
/-- R162. -/
def GAL.L.CTRL.BLEND (n : Nat) : Field := ⟨(0xE0100 + 0x40*(n % 7)), 4, 3, (if n % 7 = 0 then .derived else .shadowed), 0⟩
/-- R162. -/
def GAL.L.CTRL.PRE_LUT_EN (n : Nat) : Field := ⟨(0xE0100 + 0x40*(n % 7)), 7, 1, .shadowed, 0⟩
/-- R162. -/
def GAL.L.CTRL.STATIC (n : Nat) : Field := ⟨(0xE0100 + 0x40*(n % 7)), 8, 1, .shadowed, 0⟩
/-- R162. -/
def GAL.L.CTRL.SAFETY (n : Nat) : Field := ⟨(0xE0100 + 0x40*(n % 7)), 9, 1, .shadowed, 0⟩
/-- R162. -/
def GAL.L.CTRL.CA (n : Nat) : Field := ⟨(0xE0100 + 0x40*(n % 7)), 16, 8, .shadowed, 0xFF⟩
/-- R162. -/
def GAL.L.POS.X (n : Nat) : Field := ⟨(0xE0104 + 0x40*(n % 7)), 0, 12, (if n % 7 = 0 then .derived else .shadowed), 0⟩
/-- R162. -/
def GAL.L.POS.Y (n : Nat) : Field := ⟨(0xE0104 + 0x40*(n % 7)), 16, 12, (if n % 7 = 0 then .derived else .shadowed), 0⟩
/-- R162. -/
def GAL.L.SIZE.W (n : Nat) : Field := ⟨(0xE0108 + 0x40*(n % 7)), 0, 11, (if n % 7 = 0 then .derived else .shadowed), 0⟩
/-- R162. -/
def GAL.L.SIZE.H (n : Nat) : Field := ⟨(0xE0108 + 0x40*(n % 7)), 16, 11, (if n % 7 = 0 then .derived else .shadowed), 0⟩
/-- R162. -/
def GAL.L.STRIDE.STRIDE (n : Nat) : Field := ⟨(0xE010C + 0x40*(n % 7)), 6, 11, .shadowed, 0⟩
/-- R162. -/
def GAL.L.CONST_I.CONST_I (n : Nat) : Field := ⟨(0xE0110 + 0x40*(n % 7)), 0, 16, .shadowed, 0xFFFF⟩
/-- R162. -/
def GAL.L.ADDR_LO.ADDR (n : Nat) : Field := ⟨(0xE0114 + 0x40*(n % 7)), 6, 26, .ro, 0⟩
/-- R162. -/
def GAL.L.ADDR_HI.ADDR (n : Nat) : Field := ⟨(0xE0118 + 0x40*(n % 7)), 0, 2, .ro, 0⟩
/-- R162. -/
def GAL.L.NEXT_LO.NEXT (n : Nat) : Field := ⟨(0xE011C + 0x40*(n % 7)), 6, 26, .rw, 0⟩
/-- R162. -/
def GAL.L.NEXT_HI.NEXT (n : Nat) : Field := ⟨(0xE0120 + 0x40*(n % 7)), 0, 2, .rw, 0⟩
/-- R162. -/
def GAL.L.NEXT_CRC.NEXT_CRC (n : Nat) : Field := ⟨(0xE0124 + 0x40*(n % 7)), 0, 32, .rw, 0⟩
/-- R162. -/
def GAL.L.FLIP.ARM (n : Nat) : Field := ⟨(0xE0128 + 0x40*(n % 7)), 0, 1, .rw, 0⟩
/-- R162. -/
def GAL.L.FLIP.FENCE_EN (n : Nat) : Field := ⟨(0xE0128 + 0x40*(n % 7)), 1, 1, .rw, 0⟩
/-- R162. -/
def GAL.L.FLIP.FENCE_SEL (n : Nat) : Field := ⟨(0xE0128 + 0x40*(n % 7)), 2, 6, .rw, 0⟩
/-- R162. -/
def GAL.L.FLIP.RETIRE_EN (n : Nat) : Field := ⟨(0xE0128 + 0x40*(n % 7)), 8, 1, .rw, 0⟩
/-- R162. -/
def GAL.L.FLIP.RETIRE_SEL (n : Nat) : Field := ⟨(0xE0128 + 0x40*(n % 7)), 9, 6, .rw, 0⟩
/-- R162. -/
def GAL.L.FENCE_VAL.FENCE_VAL (n : Nat) : Field := ⟨(0xE012C + 0x40*(n % 7)), 0, 32, .rw, 0⟩
/-- R162. -/
def GAL.L.CRC_ACT.CRC_ACT (n : Nat) : Field := ⟨(0xE0130 + 0x40*(n % 7)), 0, 32, .ro, 0⟩
/-- R162. -/
def GAL.L.CRC_EXP.CRC_EXP (n : Nat) : Field := ⟨(0xE0134 + 0x40*(n % 7)), 0, 32, .ro, 0⟩
/-- R163. -/
def GAL.FENCE.FENCE (k : Nat) : Field := ⟨(0xE0400 + 4*(k % 64)), 0, 32, .rw, 0⟩
/-- R163. -/
def GAL.FENCE_INC.INDEX : Field := ⟨0xE0500, 0, 6, .wo, 0⟩
/-- R163. -/
def GAL.FENCE_INC.AMOUNT : Field := ⟨0xE0500, 16, 16, .wo, 0⟩
/-- R195. -/
def SHD.CLASS_CFG.MIN_MARGIN (k : Nat) : Field := ⟨(0xF0040 + 4*(k % 8)), 0, 16, .rwd, 0⟩
/-- R195. -/
def SHD.CLASS_CFG.FORCE_GR (k : Nat) : Field := ⟨(0xF0040 + 4*(k % 8)), 16, 1, .rwd, (if 1 ≤ (k % 8) ∧ (k % 8) ≤ 4 then 1 else 0)⟩
/-- R227. -/
def BE.BAND_MAP.ENGINE (b : Nat) : Field := ⟨(0x100010 + 4*((b % 16)/4)), (8*((b % 16)%4)), 5, .ro, (BitVec.ofNat 32 (b % 16))⟩
/-- R227. -/
def BE.BAND_MAP.SHARED (b : Nat) : Field := ⟨(0x100010 + 4*((b % 16)/4)), (8*((b % 16)%4)+7), 1, .ro, 0⟩
/-- R408. -/
def CAN.CTRL.EN : Field := ⟨0xB0000, 0, 1, .rw, 0⟩
/-- R408. -/
def CAN.CTRL.MON : Field := ⟨0xB0000, 1, 1, .rwd, 0⟩
/-- R408. -/
def CAN.CTRL.BRS : Field := ⟨0xB0000, 2, 1, .rwd, 1⟩
/-- R408. -/
def CAN.CTRL.DIAG_EN : Field := ⟨0xB0000, 3, 1, .rwd, 0⟩
/-- R408. -/
def CAN.NBT.PRESC : Field := ⟨0xB0004, 0, 5, .rwd, 1⟩
/-- R408. -/
def CAN.NBT.TSEG1 : Field := ⟨0xB0004, 5, 8, .rwd, 0x4F⟩
/-- R408. -/
def CAN.NBT.TSEG2 : Field := ⟨0xB0004, 13, 7, .rwd, 0x14⟩
/-- R408. -/
def CAN.NBT.SJW : Field := ⟨0xB0004, 20, 7, .rwd, 0x14⟩
/-- R408. -/
def CAN.DBT.PRESC : Field := ⟨0xB0008, 0, 5, .rwd, 0⟩
/-- R408. -/
def CAN.DBT.TSEG1 : Field := ⟨0xB0008, 5, 6, .rwd, 0x27⟩
/-- R408. -/
def CAN.DBT.TSEG2 : Field := ⟨0xB0008, 11, 4, .rwd, 0xA⟩
/-- R408. -/
def CAN.DBT.SJW : Field := ⟨0xB0008, 15, 4, .rwd, 0xA⟩
/-- R408. -/
def CAN.DBT.TDCO : Field := ⟨0xB0008, 19, 7, .rwd, 0x28⟩
/-- R408. -/
def CAN.SAFE_ID.ID : Field := ⟨0xB000C, 0, 29, .rwd, 0⟩
/-- R408. -/
def CAN.SAFE_ID.IDE : Field := ⟨0xB000C, 31, 1, .rwd, 0⟩
/-- R408. -/
def CAN.DIAG_RX_ID.ID : Field := ⟨0xB0010, 0, 29, .rwd, 0⟩
/-- R408. -/
def CAN.DIAG_RX_ID.IDE : Field := ⟨0xB0010, 31, 1, .rwd, 0⟩
/-- R408. -/
def CAN.DIAG_TX_ID.ID : Field := ⟨0xB0014, 0, 29, .rwd, 0⟩
/-- R408. -/
def CAN.DIAG_TX_ID.IDE : Field := ⟨0xB0014, 31, 1, .rwd, 0⟩
/-- R408. -/
def CAN.STATUS.STATE : Field := ⟨0xB0018, 0, 2, .ro, 0⟩
/-- R408. -/
def CAN.STATUS.BUS_OFF : Field := ⟨0xB0018, 2, 1, .rc, 0⟩
/-- R408. -/
def CAN.STATUS.TEC : Field := ⟨0xB0018, 8, 8, .ro, 0⟩
/-- R408. -/
def CAN.STATUS.REC : Field := ⟨0xB0018, 16, 8, .ro, 0⟩
/-- R408. -/
def CAN.DROP.COUNT : Field := ⟨0xB001C, 0, 32, .rw, 0⟩
/-- R409. -/
def IOMUX.CTRL.APPLY : Field := ⟨0x140000, 0, 1, .wo, 0⟩
/-- R409. -/
def IOMUX.STATUS.CONFLICT : Field := ⟨0x140004, 0, 1, .rc, 0⟩
/-- R409. -/
def IOMUX.STATUS.WIGN : Field := ⟨0x140004, 1, 1, .rc, 0⟩
/-- R409. -/
def IOMUX.STATUS.CONF_PIN : Field := ⟨0x140004, 4, 4, .ro, 0⟩
/-- R409. -/
def IOMUX.BOARD.VLED_ADDR : Field := ⟨0x140008, 0, 7, .rw, 0x40⟩
/-- R409. -/
def IOMUX.BOARD.VCORE_ADDR : Field := ⟨0x140008, 8, 7, .rw, 0x41⟩
/-- R409. -/
def IOMUX.BOARD.LENS_ADDR : Field := ⟨0x140008, 16, 7, .rw, 0x50⟩
/-- R409. -/
def IOMUX.BOARD.WAKE_ADDR : Field := ⟨0x140008, 24, 7, .rw, 0x2A⟩
/-- R409. -/
def IOMUX.PIN.FUNC (n : Nat) : Field := ⟨(0x140100 + 4*(n % 16)), 0, 3, .staged, 0⟩
/-- R409. -/
def IOMUX.PIN.PULL (n : Nat) : Field := ⟨(0x140100 + 4*(n % 16)), 3, 2, .staged, 1⟩
/-- R409. -/
def IOMUX.PIN.DRIVE (n : Nat) : Field := ⟨(0x140100 + 4*(n % 16)), 5, 2, .staged, 1⟩
/-- R409. -/
def IOMUX.PIN.OUT (n : Nat) : Field := ⟨(0x140100 + 4*(n % 16)), 8, 1, .rw, 0⟩
/-- R409. -/
def IOMUX.PIN.IN (n : Nat) : Field := ⟨(0x140100 + 4*(n % 16)), 9, 1, .ro, 0⟩
/-- R429. -/
def MBX.DOORBELL.RING : Field := ⟨0x51000, 0, 8, .wo, 0⟩
/-- R429. -/
def MBX.ACK.ACK : Field := ⟨0x51004, 0, 8, .wo, 0⟩
/-- R429. -/
def MBX.PATH.PATH : Field := ⟨0x5100C, 0, 16, .rw, 0xAA00⟩
/-- R429. -/
def MBX.STATUS.WR_IGN : Field := ⟨0x51010, 0, 1, .rc, 0⟩
/-- R429. -/
def MBX.STATUS.RING_IGN : Field := ⟨0x51010, 1, 1, .rc, 0⟩
/-- R429. -/
def MBX.EVT_MASK.MASK : Field := ⟨0x51014, 1, 13, .rw, 0⟩
/-- R429. -/
def MBX.EVT_COUNT.LOST : Field := ⟨0x51018, 8, 1, .rc, 0⟩
/-- R429. -/
def MBX.RSP_LOST.COUNT : Field := ⟨0x5101C, 0, 32, .rw, 0⟩
/-- R429. -/
def MBX.EVT_POP.POP : Field := ⟨0x51040, 0, 1, .wo, 0⟩
/-- R429. -/
def MBX.STATE.STATE : Field := ⟨0x51008, 0, 16, .derived, 0⟩
/-- R429. -/
def MBX.EVT_COUNT.QUEUED : Field := ⟨0x51018, 0, 8, .derived, 0⟩
/-- R429. -/
def MBX.EVT_HEAD.RECORD (k : Nat) : Field := ⟨(0x51020 + 4*(k % 8)), 0, 32, .derived, 0⟩
/-- R444. -/
def AUX.PORT_CFG.LEN (p : Nat) : Field := ⟨(0xC0004 + 4*(p % 4)), 0, 9, .rwd, 0⟩
/-- R444. -/
def AUX.PORT_CFG.FPER (p : Nat) : Field := ⟨(0xC0004 + 4*(p % 4)), 16, 8, .rwd, 0xA⟩
/-- R445. -/
def AUX.GAMMA_SEL.TBL (i : Nat) : Field := ⟨0xC0014, (8*((i % 12)/3)+2*((i % 12)%3)), 2, .rw, 0⟩
/-- R445. -/
def AUX.GAMMA_SEL.BYPASS (p : Nat) : Field := ⟨0xC0014, (8*(p % 4)+6), 1, .rw, 1⟩
/-- R493. -/
def THM.ZONE.T (i : Nat) : Field := ⟨(0x40100 + 4*((i % 68)/2)), (16*((i % 68)%2)), 12, .ro, 0⟩
/-- R494. -/
def THM.HK.T (k : Nat) : Field := ⟨(0x40190 + 4*((k % 5)/2)), (16*((k % 5)%2)), 12, .ro, 0⟩
/-- R494. -/
def THM.HK_VALID.VALID : Field := ⟨0x4019C, 0, 5, .ro, 0⟩
/-- R523. -/
def DDRC.MAP_BG0.BIT (j : Nat) : Field := ⟨0x80008, (8*(j % 4)), 6, .rwd, ((0x9995918D#32 >>> (8*(j % 4))) &&& 0x3F)⟩
/-- R523. -/
def DDRC.MAP_BG0.SEL_EN (j : Nat) : Field := ⟨0x80008, (8*(j % 4)+7), 1, .rwd, ((0x9995918D#32 >>> (8*(j % 4)+7)) &&& 1)⟩
/-- R523. -/
def DDRC.MAP_BG1.BIT (j : Nat) : Field := ⟨0x8000C, (8*(j % 4)), 6, .rwd, ((0x9A96928E#32 >>> (8*(j % 4))) &&& 0x3F)⟩
/-- R523. -/
def DDRC.MAP_BG1.SEL_EN (j : Nat) : Field := ⟨0x8000C, (8*(j % 4)+7), 1, .rwd, ((0x9A96928E#32 >>> (8*(j % 4)+7)) &&& 1)⟩
/-- R523. -/
def DDRC.MAP_BA0.BIT (j : Nat) : Field := ⟨0x80010, (8*(j % 4)), 6, .rwd, ((0x9B97938F#32 >>> (8*(j % 4))) &&& 0x3F)⟩
/-- R523. -/
def DDRC.MAP_BA0.SEL_EN (j : Nat) : Field := ⟨0x80010, (8*(j % 4)+7), 1, .rwd, ((0x9B97938F#32 >>> (8*(j % 4)+7)) &&& 1)⟩
/-- R523. -/
def DDRC.MAP_BA1.BIT (j : Nat) : Field := ⟨0x80014, (8*(j % 4)), 6, .rwd, ((0x9C989490#32 >>> (8*(j % 4))) &&& 0x3F)⟩
/-- R523. -/
def DDRC.MAP_BA1.SEL_EN (j : Nat) : Field := ⟨0x80014, (8*(j % 4)+7), 1, .rwd, ((0x9C989490#32 >>> (8*(j % 4)+7)) &&& 1)⟩
/-- R528. -/
def DDRC.TIM (i : Nat) : Field := ⟨(0x80040 + 4*(i % 8)), 0, 32, .rwd, 0⟩
/-- R528. -/
def DDRC.DLY (i : Nat) : Field := ⟨(0x80100 + 0x40*((i % 18)/9)+4*((i % 18)%9)), 0, 32, .rwd, 0⟩
/-- R528. -/
def DDRC.CA (r : Nat) : Field := ⟨(0x80124 + 0x40*(r % 2)), 0, 22, .rwd, 0⟩
/-- R529. -/
def MRAM.CTRL.EN : Field := ⟨0x130000, 0, 1, .ro, 0⟩
/-- R529. -/
def MRAM.STATUS.BUSY : Field := ⟨0x130004, 0, 1, .ro, 0⟩
/-- R529. -/
def MRAM.STATUS.CFG_DEFAULTED : Field := ⟨0x130004, 1, 1, .rc, 0⟩
/-- R529. -/
def MRAM.STATUS.TORN : Field := ⟨0x130004, 2, 1, .rc, 0⟩
/-- R529. -/
def MRAM.STATUS.WEAR_HOLD : Field := ⟨0x130004, 3, 1, .rc, 0⟩
/-- R529. -/
def MRAM.STATUS.DEF_RECORD : Field := ⟨0x130004, 16, 16, .ro, 0⟩
/-- R529. -/
def MRAM.CE_COUNT.COUNT : Field := ⟨0x130008, 0, 32, .rw, 0⟩
/-- R529. -/
def MRAM.TORN_COUNT.COUNT : Field := ⟨0x13000C, 0, 32, .rw, 0⟩
/-- R550. -/
def FLT.INJ_COUNT.COUNT : Field := ⟨0x30020, 0, 32, .rw, 0⟩
/-- R550. -/
def FLT.COUNT.COUNT (n : Nat) : Field := ⟨(0x30100 + 4*(n % 96)), 0, 32, .rw, 0⟩
/-- R570. -/
def CRC.U.FOLD (u : Nat) : Field := ⟨(0x70100 + 0x20*(u % 4)), 0, 32, .rw, 0⟩
/-- R570. -/
def CRC.U.INIT (u : Nat) : Field := ⟨(0x70104 + 0x20*(u % 4)), 0, 32, .wo, 0⟩
/-- R570. -/
def CRC.U.DATA (u : Nat) : Field := ⟨(0x70108 + 0x20*(u % 4)), 0, 32, .wo, 0⟩
/-- R570. -/
def CRC.U.DATA8 (u : Nat) : Field := ⟨(0x7010C + 0x20*(u % 4)), 0, 8, .wo, 0⟩
/-- R570. -/
def CRC.U.RUNNING (u : Nat) : Field := ⟨(0x70110 + 0x20*(u % 4)), 0, 32, .rw, 0xFFFFFFFF⟩
/-- R570. -/
def CRC.U.RESULT (u : Nat) : Field := ⟨(0x70114 + 0x20*(u % 4)), 0, 32, .derived, 0⟩
/-- R570. -/
def CRC.U.COUNT (u : Nat) : Field := ⟨(0x70118 + 0x20*(u % 4)), 0, 32, .rw, 0⟩
/-- R374. -/
def TX.CTRL.EN (p : Nat) : Field := ⟨(0x90000 + 0x10000*(p % 2)), 0, 1, .rw, 0⟩
/-- R374. -/
def TX.CTRL.RATE_MAX (p : Nat) : Field := ⟨(0x90000 + 0x10000*(p % 2)), 1, 2, .rwd, 2⟩
/-- R374. -/
def TX.CTRL.EQ_FREEZE (p : Nat) : Field := ⟨(0x90000 + 0x10000*(p % 2)), 3, 1, .rw, 0⟩
/-- R374. -/
def TX.CTRL.RETRAIN (p : Nat) : Field := ⟨(0x90000 + 0x10000*(p % 2)), 4, 1, .wo, 0⟩
/-- R374. -/
def TX.CTRL.RELEASE (p : Nat) : Field := ⟨(0x90000 + 0x10000*(p % 2)), 5, 1, .wo, 0⟩
/-- R375. -/
def TX.CFG.FOM_MIN (p : Nat) : Field := ⟨(0x90004 + 0x10000*(p % 2)), 0, 8, .rwd, 0x40⟩
/-- R375. -/
def TX.CFG.FOM_WARN (p : Nat) : Field := ⟨(0x90004 + 0x10000*(p % 2)), 8, 8, .rwd, 0x60⟩
/-- R375. -/
def TX.CFG.FOM_DOWN (p : Nat) : Field := ⟨(0x90004 + 0x10000*(p % 2)), 16, 8, .rwd, 0x20⟩
/-- R376. -/
def TX.STATUS.STATE (p : Nat) : Field := ⟨(0x90008 + 0x10000*(p % 2)), 0, 3, .ro, 0⟩
/-- R376. -/
def TX.STATUS.RATE (p : Nat) : Field := ⟨(0x90008 + 0x10000*(p % 2)), 3, 2, .ro, 0⟩
/-- R376. -/
def TX.STATUS.WRAP (p : Nat) : Field := ⟨(0x90008 + 0x10000*(p % 2)), 5, 1, .ro, 0⟩
/-- R376. -/
def TX.STATUS.LANE_MAP (p : Nat) : Field := ⟨(0x90008 + 0x10000*(p % 2)), 8, 8, .ro, 0xE4⟩
/-- R376. -/
def TX.STATUS.INVERTED (p : Nat) : Field := ⟨(0x90008 + 0x10000*(p % 2)), 16, 4, .ro, 0⟩
/-- R376. -/
def TX.STATUS.LINK_DOWN (p : Nat) : Field := ⟨(0x90008 + 0x10000*(p % 2)), 24, 1, .rc, 0⟩
/-- R376. -/
def TX.STATUS.FOM_LOW (p : Nat) : Field := ⟨(0x90008 + 0x10000*(p % 2)), 25, 1, .rc, 0⟩
/-- R376. -/
def TX.STATUS.QUAR (p : Nat) : Field := ⟨(0x90008 + 0x10000*(p % 2)), 26, 1, .rc, 0⟩
/-- R378. -/
def TX.ASYM.ASYM (p : Nat) : Field := ⟨(0x90020 + 0x10000*(p % 2)), 0, 16, .rwd, 0⟩
/-- R378. -/
def TX.DELAY.DELAY (p : Nat) : Field := ⟨(0x90024 + 0x10000*(p % 2)), 0, 24, .ro, 0⟩
/-- R377. -/
def TX.FOM.FOM (i : Nat) : Field := ⟨(0x9000C + 0x10000*((i % 8)/4)), (8*((i % 8)%4)), 8, .ro, 0⟩
/-- R377. -/
def TX.EQ.CTLE (i : Nat) : Field := ⟨(0x90010 + 0x10000*((i % 8)/4)+4*((i % 8)%4)), 0, 3, .ro, 0⟩
/-- R377. -/
def TX.EQ.H1 (i : Nat) : Field := ⟨(0x90010 + 0x10000*((i % 8)/4)+4*((i % 8)%4)), 8, 6, .ro, 0⟩
/-- R377. -/
def TX.EQ.H2 (i : Nat) : Field := ⟨(0x90010 + 0x10000*((i % 8)/4)+4*((i % 8)%4)), 16, 5, .ro, 0⟩
/-- R377. -/
def TX.EQ.H3 (i : Nat) : Field := ⟨(0x90010 + 0x10000*((i % 8)/4)+4*((i % 8)%4)), 24, 5, .ro, 0⟩
/-- R379. -/
def TX.CODE_ERR (p : Nat) : Field := ⟨(0x90028 + 0x10000*(p % 2)), 0, 32, .rw, 0⟩
/-- R379. -/
def TX.CRC_ERR (p : Nat) : Field := ⟨(0x9002C + 0x10000*(p % 2)), 0, 32, .rw, 0⟩
/-- R379. -/
def TX.MALFORMED (p : Nat) : Field := ⟨(0x90030 + 0x10000*(p % 2)), 0, 32, .rw, 0⟩
/-- R379. -/
def TX.STOMP_RX (p : Nat) : Field := ⟨(0x90034 + 0x10000*(p % 2)), 0, 32, .rw, 0⟩
/-- R379. -/
def TX.UNTRUSTED (p : Nat) : Field := ⟨(0x90038 + 0x10000*(p % 2)), 0, 32, .rw, 0⟩
/-- R379. -/
def TX.RATE_DROP (p : Nat) : Field := ⟨(0x9003C + 0x10000*(p % 2)), 0, 32, .rw, 0⟩
/-- R379. -/
def TX.FWD_DROP (p : Nat) : Field := ⟨(0x90040 + 0x10000*(p % 2)), 0, 32, .rw, 0⟩
/-- R379. -/
def TX.LOCAL_DROP (p : Nat) : Field := ⟨(0x90044 + 0x10000*(p % 2)), 0, 32, .rw, 0⟩
/-- R379. -/
def TX.WRAP_DROP (p : Nat) : Field := ⟨(0x90048 + 0x10000*(p % 2)), 0, 32, .rw, 0⟩
/-- R379. -/
def TX.ORPHAN (p : Nat) : Field := ⟨(0x9004C + 0x10000*(p % 2)), 0, 32, .rw, 0⟩
/-- R379. -/
def TX.TRAIN_FAIL (p : Nat) : Field := ⟨(0x90050 + 0x10000*(p % 2)), 0, 32, .rw, 0⟩
/-- R379. -/
def TX.QUAR_COUNT (p : Nat) : Field := ⟨(0x90054 + 0x10000*(p % 2)), 0, 32, .rw, 0⟩
/-- R380. -/
def TXLA.NODE.ADDR : Field := ⟨0x90100, 0, 10, .ro, 0x3FF⟩
/-- R380. -/
def TXLA.NODE.ADDR_VALID : Field := ⟨0x90100, 10, 1, .ro, 0⟩
/-- R380. -/
def TXLA.NODE.ROLE : Field := ⟨0x90100, 12, 2, .ro, 0⟩
/-- R380. -/
def TXLA.NODE.TOPO : Field := ⟨0x90100, 14, 2, .ro, 0⟩
/-- R380. -/
def TXLA.NODE.NODES : Field := ⟨0x90100, 16, 10, .ro, 0⟩
/-- R381. -/
def TXLA.TRUST.HOST0 : Field := ⟨0x90104, 0, 10, .rw, 0x3FF⟩
/-- R381. -/
def TXLA.TRUST.HOST1 : Field := ⟨0x90104, 16, 10, .rw, 0x3FF⟩
/-- R381. -/
def TXLA.TRUST.FILTER_EN : Field := ⟨0x90104, 31, 1, .rw, 0⟩
/-- R381. -/
def TXLA.EVT.EVT_DEST : Field := ⟨0x90108, 0, 10, .rw, 0x3FF⟩
/-- R381. -/
def TXLA.EVT.EVT_EN : Field := ⟨0x90108, 16, 1, .rw, 0⟩
/-- R382. -/
def TXLA.LIMIT.PKT_MS : Field := ⟨0x9010C, 0, 8, .rwd, 0x40⟩
/-- R382. -/
def TXLA.LIMIT.KB_MS : Field := ⟨0x9010C, 8, 8, .rwd, 0x40⟩
/-- R382. -/
def TXLA.LIMIT.STORM_TH : Field := ⟨0x9010C, 16, 8, .rwd, 0x80⟩
/-- R382. -/
def TXLA.LIMIT.QUAR_MS : Field := ⟨0x9010C, 24, 8, .rwd, 0x64⟩
/-- R383. -/
def TXLA.RING_CFG.MONITOR : Field := ⟨0x90110, 0, 1, .rw, 0⟩
/-- R383. -/
def TXLA.RING_CFG.ALLOW_RING_BREAK : Field := ⟨0x90110, 1, 1, .rw, 0⟩
/-- R383. -/
def TXLA.RING_CFG.SYNC_PER : Field := ⟨0x90110, 4, 4, .rwd, 1⟩
/-- R383. -/
def TXLA.RING_CFG.TIME_PER : Field := ⟨0x90110, 8, 4, .rwd, 1⟩
/-- R384. -/
def TXLA.SYNC_STATUS.STRATUM : Field := ⟨0x90114, 0, 10, .ro, 0x3FF⟩
/-- R384. -/
def TXLA.SYNC_STATUS.SYNC_PORT : Field := ⟨0x90114, 10, 1, .ro, 0⟩
/-- R384. -/
def TXLA.SYNC_STATUS.SYNCED : Field := ⟨0x90114, 11, 1, .derived, 0⟩
/-- R384. -/
def TXLA.SYNC_STATUS.LT_STEP : Field := ⟨0x90114, 12, 1, .rc, 0⟩
/-- R384. -/
def TXLA.SYNC_STATUS.LT_DIVERGE : Field := ⟨0x90114, 13, 1, .rc, 0⟩
/-- R384. -/
def TXLA.SYNC_STATUS.OFFSET : Field := ⟨0x90114, 16, 16, .ro, 0⟩
/-- R384. -/
def TXLA.STEP_COUNT.COUNT : Field := ⟨0x90118, 0, 32, .rw, 0⟩

/-- The fields of block 0, SYS (R551). -/
def SYS.fields : List Field :=
  [SYS.ID.PART, SYS.ID.SI_REV, SYS.SERIAL_LO.SERIAL, SYS.SERIAL_HI.SERIAL, SYS.WIGN.BLOCK, SYS.SCRATCH.DATA, 
    SYS.BOOT.SLOT, SYS.BOOT.PREFERRED, SYS.BOOT.DIR_COPY, SYS.BOOT.FLASH_MODE, SYS.BOOT.A_FAIL, 
    SYS.BOOT.B_FAIL, SYS.BOOT.REASON, SYS.BOOT.BOOT_HALT, SYS.RESET_CAUSE.CAUSE, SYS.RESET_CAUSE.RESET_LONG, 
    SYS.RESET_CAUSE.HELD_S]

/-- The fields of block 1, CLK (R551). -/
def CLK.fields : List Field :=
  [CLK.STATUS.SRC, CLK.STATUS.PLL_LOCK, CLK.STATUS.CLOCK_OK, CLK.STATUS.OSCDLY, CLK.STATUS.OSCDLY_OTP, 
    CLK.STATUS.CLKSW_FORCED, CLK.STATUS.WIGN, CLK.MON_FAIL.CLK, CLK.RAMP.DWELL, CLK.DIV.CORE, CLK.DIV.PIX, 
    CLK.DIV.BUS, CLK.DIV.PER, CLK.SS_REF.EN, CLK.SS_REF.DEPTH, CLK.SS_REF.RATE, CLK.SS_GS.EN, CLK.SS_GS.DEPTH, 
    CLK.SS_GS.RATE, CLK.FORCED_COUNT.COUNT]
  ++ ((List.range 21).map CLK.GATE.EN)

/-- The fields of block 2, PWR (R551). -/
def PWR.fields : List Field :=
  [PWR.STATE.STATE, PWR.STATE.WAKE_SRC, PWR.STATE.WAKE_CODE, PWR.RETAIN.SUP_LO, PWR.RETAIN.SUP_HI, 
    PWR.RETAIN.KILN, PWR.CFG.WAKE_TO, PWR.CFG.RETRIES, PWR.STATUS.WAKE_FAIL, PWR.STATUS.REFUSED, 
    PWR.STATUS.ABORTED, PWR.STATUS.LAST_REFUSER, PWR.REFUSE_COUNT.COUNT, PWR.ABORT_COUNT.COUNT, 
    PWR.WAKE_FAIL_COUNT.COUNT]

/-- The fields of block 3, FLT (R551). -/
def FLT.fields : List Field :=
  [FLT.STATUS.PEND_CORR, FLT.STATUS.PEND_CONT, FLT.STATUS.PEND_FATAL, FLT.STATUS.INJ_CORR, 
    FLT.STATUS.INJ_CONT, FLT.STATUS.INJ_FATAL, FLT.STATUS.ERR_HELD, FLT.STATUS.RESTARTING, 
    FLT.STATUS.SUP_HALTED, FLT.STATUS.RESTARTS, FLT.ACK.CLASS, FLT.ACK.INJ, FLT.ACK.FIRST, FLT.FIRST.SRC, 
    FLT.INJ_FIRST.SRC, FLT.FIRST.CLASS, FLT.INJ_FIRST.CLASS, FLT.FIRST.ESCALATED, FLT.INJ_FIRST.ESCALATED, 
    FLT.FIRST.VALID, FLT.INJ_FIRST.VALID, FLT.FIRST.OVERFLOW, FLT.INJ_FIRST.OVERFLOW, FLT.FIRST_LT_LO.LT]
  ++ [FLT.FIRST_LT_HI.LT, FLT.CFG.MIN_W, FLT.CFG.ERR_CORR, FLT.CFG.RESTART_MAX, FLT.LAST.SRC, FLT.LAST.INJ, 
    FLT.LAST.CLASS, FLT.LAST.ESCALATED, FLT.INJ_COUNT.COUNT]
  ++ ((List.range 96).map FLT.COUNT.COUNT)

/-- The fields of block 4, THM (R551). -/
def THM.fields : List Field :=
  [THM.CTRL.EN, THM.THRESH.WARN, THM.THRESH.THROTTLE, THM.THRESH.SOFT_STOP, THM.THRESH.HARD_TRIP, 
    THM.CFG.P_MAX, THM.STATUS.LEVEL, THM.STATUS.HOT_SENSOR, THM.STATUS.TJ, THM.STATUS.HT_LAST, 
    THM.STATUS.SENSOR_FAIL, THM.THROTTLE_COUNT.COUNT, THM.SOFT_STOP_COUNT.COUNT, THM.HT_COUNT.COUNT]
  ++ ((List.range 68).map THM.ZONE.T)
  ++ ((List.range 5).map THM.HK.T)
  ++ [THM.HK_VALID.VALID]

/-- The fields of block 5, MBX (R551). -/
def MBX.fields : List Field :=
  [MBX.DOORBELL.RING, MBX.ACK.ACK, MBX.PATH.PATH, MBX.STATUS.WR_IGN, MBX.STATUS.RING_IGN, MBX.EVT_MASK.MASK, 
    MBX.EVT_COUNT.LOST, MBX.RSP_LOST.COUNT, MBX.EVT_POP.POP, MBX.STATE.STATE, MBX.EVT_COUNT.QUEUED]
  ++ ((List.range 8).map MBX.EVT_HEAD.RECORD)

/-- The fields of block 6, SAFE (R551). -/
def SAFE.fields : List Field :=
  [SAFE.STATUS.FB_ACTIVE, SAFE.STATUS.FB_PERMIT, SAFE.STATUS.SEAL_BROKEN, SAFE.STATUS.PATH_STATE, 
    SAFE.STATUS.HB_EFFECTIVE, SAFE.STATUS.BLOCK_RUN, SAFE.STATUS.VERDICT_FAIL, SAFE.STATUS.PATH_CHANGE, 
    SAFE.VERDICT.PASS, SAFE.VERDICT.SLI_FAIL, SAFE.VERDICT.SLC_FAIL, SAFE.VERDICT.SLS_FAIL, 
    SAFE.VERDICT.SLR_FLUX, SAFE.VERDICT.SLR_CENT, SAFE.VERDICT.INCOMPLETE, SAFE.VERDICT.ACC_MISMATCH, 
    SAFE.VERDICT.ECHO_ERR, SAFE.VERDICT.SLI_ZONE, SAFE.VERDICT.SLC_SEG, SAFE.VERDICT.FRAME, 
    SAFE.FB_CAUSE.LOWBEAM, SAFE.FB_CAUSE.M7, SAFE.FB_CAUSE.SOFT_STOP, SAFE.FB_CAUSE.BLOCK]
  ++ [SAFE.FB_CAUSE.FATAL, SAFE.FB_CAUSE.CLOCK, SAFE.FB_CAUSE.GUARD, SAFE.SEAL.STRAP, SAFE.SEAL.SLOT, 
    SAFE.SEAL.NO_SLOT, SAFE.SEAL.STRAP_CHANGED, SAFE.SEAL.SLOTS_FREE, SAFE.EFFECTIVE.LEFT, 
    SAFE.EFFECTIVE.CONSERVATIVE, SAFE.EFFECTIVE.GLARE_CLASS, SAFE.EFFECTIVE.SWIVEL, SAFE.EFFECTIVE.CUTOFF, 
    SAFE.EFFECTIVE.FB_SEL, SAFE.EFFECTIVE.RING_ROLE, SAFE.EFFECTIVE.BLOCK_LIMIT, SAFE.EFFECTIVE.WINDOW, 
    SAFE.EFFECTIVE.WINDOW_MAX, SAFE.HB_MASK.MASK, SAFE.FLUX.F_REF, SAFE.CENTROID.C_REF, SAFE.SEQ_A.VALUE, 
    SAFE.SEQ_B.VALUE, SAFE.BLOCK_COUNT.VALUE]
  ++ [SAFE.REJECT_A.VALUE, SAFE.REJECT_B.VALUE, SAFE.FB_ENTRIES.VALUE]

/-- The fields of block 7, CRC (R551). -/
def CRC.fields : List Field :=
  [CRC.CTRL.EN]
  ++ ((List.range 4).map CRC.U.FOLD)
  ++ ((List.range 4).map CRC.U.INIT)
  ++ ((List.range 4).map CRC.U.DATA)
  ++ ((List.range 4).map CRC.U.DATA8)
  ++ ((List.range 4).map CRC.U.RUNNING)
  ++ ((List.range 4).map CRC.U.RESULT)
  ++ ((List.range 4).map CRC.U.COUNT)

/-- The fields of block 8, DDRC (R551). -/
def DDRC.fields : List Field :=
  [DDRC.CTRL.EN, DDRC.CTRL.LAT_EN, DDRC.ORG.RANKS, DDRC.ORG.WIDTH, DDRC.ORG.DENSITY, DDRC.RHP.RHP_K, 
    DDRC.PWR.PD_MIN, DDRC.PWR.SR_MIN, DDRC.PWR.CE_TH, DDRC.STATUS.READY, DDRC.STATUS.SELF_REFRESH, 
    DDRC.STATUS.POWER_DOWN, DDRC.STATUS.HOT, DDRC.STATUS.MAP_ERR, DDRC.STATUS.ORG_ERR, DDRC.STATUS.DRAM_FAIL, 
    DDRC.STATUS.RANGE_ERR, DDRC.CE_COUNT.COUNT, DDRC.UE_COUNT.COUNT, DDRC.REPLAY_COUNT.COUNT, 
    DDRC.RHP_COUNT.COUNT, DDRC.UE_ADDR_LO.ADDR, DDRC.UE_ADDR_HI.ADDR, DDRC.UE_ADDR_HI.CLASS_S]
  ++ [DDRC.SR_TIME.TIME]
  ++ ((List.range 4).map DDRC.MAP_BG0.BIT)
  ++ ((List.range 4).map DDRC.MAP_BG0.SEL_EN)
  ++ ((List.range 4).map DDRC.MAP_BG1.BIT)
  ++ ((List.range 4).map DDRC.MAP_BG1.SEL_EN)
  ++ ((List.range 4).map DDRC.MAP_BA0.BIT)
  ++ ((List.range 4).map DDRC.MAP_BA0.SEL_EN)
  ++ ((List.range 4).map DDRC.MAP_BA1.BIT)
  ++ ((List.range 4).map DDRC.MAP_BA1.SEL_EN)
  ++ ((List.range 8).map DDRC.TIM)
  ++ ((List.range 18).map DDRC.DLY)
  ++ ((List.range 2).map DDRC.CA)

/-- The fields of block 9, TXLA (R551). -/
def TXLA.fields : List Field :=
  [TX.CTRL.EN 0, TX.CTRL.RATE_MAX 0, TX.CTRL.EQ_FREEZE 0, TX.CTRL.RETRAIN 0, TX.CTRL.RELEASE 0, 
    TX.CFG.FOM_MIN 0, TX.CFG.FOM_WARN 0, TX.CFG.FOM_DOWN 0, TX.STATUS.STATE 0, TX.STATUS.RATE 0, 
    TX.STATUS.WRAP 0, TX.STATUS.LANE_MAP 0, TX.STATUS.INVERTED 0, TX.STATUS.LINK_DOWN 0, TX.STATUS.FOM_LOW 0, 
    TX.STATUS.QUAR 0, TX.ASYM.ASYM 0, TX.DELAY.DELAY 0]
  ++ ((List.range 4).map TX.FOM.FOM)
  ++ ((List.range 4).map TX.EQ.CTLE)
  ++ ((List.range 4).map TX.EQ.H1)
  ++ ((List.range 4).map TX.EQ.H2)
  ++ ((List.range 4).map TX.EQ.H3)
  ++ [TX.CODE_ERR 0, TX.CRC_ERR 0, TX.MALFORMED 0, TX.STOMP_RX 0, TX.UNTRUSTED 0, TX.RATE_DROP 0, TX.FWD_DROP 0, 
    TX.LOCAL_DROP 0, TX.WRAP_DROP 0, TX.ORPHAN 0, TX.TRAIN_FAIL 0, TX.QUAR_COUNT 0, TXLA.NODE.ADDR, 
    TXLA.NODE.ADDR_VALID, TXLA.NODE.ROLE, TXLA.NODE.TOPO, TXLA.NODE.NODES, TXLA.TRUST.HOST0, TXLA.TRUST.HOST1, 
    TXLA.TRUST.FILTER_EN, TXLA.EVT.EVT_DEST, TXLA.EVT.EVT_EN, TXLA.LIMIT.PKT_MS, TXLA.LIMIT.KB_MS]
  ++ [TXLA.LIMIT.STORM_TH, TXLA.LIMIT.QUAR_MS, TXLA.RING_CFG.MONITOR, TXLA.RING_CFG.ALLOW_RING_BREAK, 
    TXLA.RING_CFG.SYNC_PER, TXLA.RING_CFG.TIME_PER, TXLA.SYNC_STATUS.STRATUM, TXLA.SYNC_STATUS.SYNC_PORT, 
    TXLA.SYNC_STATUS.SYNCED, TXLA.SYNC_STATUS.LT_STEP, TXLA.SYNC_STATUS.LT_DIVERGE, TXLA.SYNC_STATUS.OFFSET, 
    TXLA.STEP_COUNT.COUNT]

/-- The fields of block 10, TXLB (R551). -/
def TXLB.fields : List Field :=
  [TX.CTRL.EN 1, TX.CTRL.RATE_MAX 1, TX.CTRL.EQ_FREEZE 1, TX.CTRL.RETRAIN 1, TX.CTRL.RELEASE 1, 
    TX.CFG.FOM_MIN 1, TX.CFG.FOM_WARN 1, TX.CFG.FOM_DOWN 1, TX.STATUS.STATE 1, TX.STATUS.RATE 1, 
    TX.STATUS.WRAP 1, TX.STATUS.LANE_MAP 1, TX.STATUS.INVERTED 1, TX.STATUS.LINK_DOWN 1, TX.STATUS.FOM_LOW 1, 
    TX.STATUS.QUAR 1, TX.ASYM.ASYM 1, TX.DELAY.DELAY 1]
  ++ ((List.range 4).map (fun i => TX.FOM.FOM (i + 4)))
  ++ ((List.range 4).map (fun i => TX.EQ.CTLE (i + 4)))
  ++ ((List.range 4).map (fun i => TX.EQ.H1 (i + 4)))
  ++ ((List.range 4).map (fun i => TX.EQ.H2 (i + 4)))
  ++ ((List.range 4).map (fun i => TX.EQ.H3 (i + 4)))
  ++ [TX.CODE_ERR 1, TX.CRC_ERR 1, TX.MALFORMED 1, TX.STOMP_RX 1, TX.UNTRUSTED 1, TX.RATE_DROP 1, TX.FWD_DROP 1, 
    TX.LOCAL_DROP 1, TX.WRAP_DROP 1, TX.ORPHAN 1, TX.TRAIN_FAIL 1, TX.QUAR_COUNT 1]

/-- The fields of block 11, CAN (R551). -/
def CAN.fields : List Field :=
  [CAN.CTRL.EN, CAN.CTRL.MON, CAN.CTRL.BRS, CAN.CTRL.DIAG_EN, CAN.NBT.PRESC, CAN.NBT.TSEG1, CAN.NBT.TSEG2, 
    CAN.NBT.SJW, CAN.DBT.PRESC, CAN.DBT.TSEG1, CAN.DBT.TSEG2, CAN.DBT.SJW, CAN.DBT.TDCO, CAN.SAFE_ID.ID, 
    CAN.SAFE_ID.IDE, CAN.DIAG_RX_ID.ID, CAN.DIAG_RX_ID.IDE, CAN.DIAG_TX_ID.ID, CAN.DIAG_TX_ID.IDE, 
    CAN.STATUS.STATE, CAN.STATUS.BUS_OFF, CAN.STATUS.TEC, CAN.STATUS.REC, CAN.DROP.COUNT]

/-- The fields of block 12, AUX (R551). -/
def AUX.fields : List Field :=
  [AUX.CTRL.EN, AUX.DR_CFG.KNEE, AUX.DR_CFG.SLOPE, AUX.DR_CFG.FLOOR, AUX.DR_CFG.SRC, AUX.STATUS.F, 
    AUX.STATUS.DERATING, AUX.STATUS.STRETCHED, AUX.STATUS.ENGINES]
  ++ ((List.range 4).map AUX.PORT_CFG.LEN)
  ++ ((List.range 4).map AUX.PORT_CFG.FPER)
  ++ ((List.range 12).map AUX.GAMMA_SEL.TBL)
  ++ ((List.range 4).map AUX.GAMMA_SEL.BYPASS)

/-- The fields of block 13, SCAN (R551). -/
def SCAN.fields : List Field :=
  [SCAN.GOV_BUDGET.BUDGET_MA, SCAN.GOV_RATE.RISE, SCAN.GOV_STATUS.G, SCAN.GOV_STATUS.LIMITING, 
    SCAN.GOV_STATUS.DERATING, SCAN.GOV_PRED.PRED_MA, SCAN.GOV_PRED.DEMAND_MA, SCAN.DR_CFG.KNEE, 
    SCAN.DR_CFG.SLOPE, SCAN.DR_CFG.FLOOR, SCAN.HR_CFG.HR_EN, SCAN.HR_CFG.HR_QUIET, SCAN.HR_CFG.HR_LIMIT, 
    SCAN.VLED_LIM.VLED_MIN, SCAN.VLED_LIM.VLED_MAX, SCAN.VLED_STATUS.VLED_SET, SCAN.VLED_STATUS.AT_MAX, 
    SCAN.VLED_STATUS.PMBUS_ERR, SCAN.VLED_STATUS.HR_FLAGS, SCAN.FB_CTRL.FB_VALID, SCAN.FB_CTRL.FB_HALF, 
    SCAN.FB_CTRL.FB_ACTIVE, SCAN.FB_CTRL.RESET_LONG_ROM, SCAN.FB_COUNT.COUNT]
  ++ [SCAN.SWAP_STATUS.GRP_SWAPPED, SCAN.SWAP_STATUS.HOLD_USED, SCAN.SWAP_STATUS.HOLD_PEAK, 
    SCAN.BLANK_STATUS.PASS, SCAN.BLANK_STATUS.PASS_LATE, SCAN.IFB_STATUS.IFB_NA, SCAN.IFB_STATUS.IFB_OPEN, 
    SCAN.IFB_STATUS.IFB_SHORT, SCAN.CTRL.EN, SCAN.CTRL.COMMIT, SCAN.MODE.MODE, SCAN.COMMIT_STATUS.COMMIT_PEND, 
    SCAN.COMMIT_STATUS.TARGET_FRAME, SCAN.FRAME_NUM.FRAME_NUM, SCAN.ORIGIN_LO.ORIGIN, SCAN.ORIGIN_HI.ORIGIN, 
    SCAN.ORIGIN_ACT_LO.ORIGIN_ACT, SCAN.ORIGIN_ACT_HI.ORIGIN_ACT, SCAN.RASTER.SLOT, SCAN.RASTER.MODE_ACT, 
    SCAN.RASTER.N11, SCAN.RASTER.SS_SUPPRESSED, SCAN.RASTER.ALIGNING, SCAN.UR_STATUS.UNDERRUN]
  ++ [SCAN.UR_STATUS.UR_ROW, SCAN.UR_COUNT.UR_COUNT, SCAN.LAT_TOL.TOL, SCAN.LAT_TOL.TOL_MIN, SCAN.N11_MAP.N11]
  ++ ((List.range 64).map SCAN.IREF)

/-- The fields of block 14, GAL (R551). -/
def GAL.fields : List Field :=
  [GAL.CTRL.EN, GAL.CFG.KILN_EN, GAL.CFG.FSTOP_EN, GAL.CFG.KILN_AGE, GAL.ATOMIC.GROUP, GAL.LUT_SEL.PRE_B, 
    GAL.LUT_SEL.POST_B, GAL.LUT_ADDR.INDEX, GAL.LUT_ADDR.TABLE, GAL.LUT_DATA.ENTRY, GAL.STATUS.PARAM_ERR, 
    GAL.STATUS.LUT_IGN, GAL.STATUS.CRC_ABORT, GAL.SAFE_STATUS.CRC_ERR, GAL.SAFE_STATUS.DROPPED, 
    GAL.CRC_ERR_COUNT.COUNT, GAL.FLIP_SKIP_COUNT.COUNT, GAL.KILN_STATUS.ACTIVE, GAL.KILN_STATUS.BUILDING, 
    GAL.KILN_STATUS.PREFIX, GAL.KILN_STATUS.GEN, GAL.KILN_STATUS.ABANDONS]
  ++ ((List.range 7).map GAL.L.CTRL.EN)
  ++ ((List.range 7).map GAL.L.CTRL.FORMAT)
  ++ ((List.range 7).map GAL.L.CTRL.BLEND)
  ++ ((List.range 7).map GAL.L.CTRL.PRE_LUT_EN)
  ++ ((List.range 7).map GAL.L.CTRL.STATIC)
  ++ ((List.range 7).map GAL.L.CTRL.SAFETY)
  ++ ((List.range 7).map GAL.L.CTRL.CA)
  ++ ((List.range 7).map GAL.L.POS.X)
  ++ ((List.range 7).map GAL.L.POS.Y)
  ++ ((List.range 7).map GAL.L.SIZE.W)
  ++ ((List.range 7).map GAL.L.SIZE.H)
  ++ ((List.range 7).map GAL.L.STRIDE.STRIDE)
  ++ ((List.range 7).map GAL.L.CONST_I.CONST_I)
  ++ ((List.range 7).map GAL.L.ADDR_LO.ADDR)
  ++ ((List.range 7).map GAL.L.ADDR_HI.ADDR)
  ++ ((List.range 7).map GAL.L.NEXT_LO.NEXT)
  ++ ((List.range 7).map GAL.L.NEXT_HI.NEXT)
  ++ ((List.range 7).map GAL.L.NEXT_CRC.NEXT_CRC)
  ++ ((List.range 7).map GAL.L.FLIP.ARM)
  ++ ((List.range 7).map GAL.L.FLIP.FENCE_EN)
  ++ ((List.range 7).map GAL.L.FLIP.FENCE_SEL)
  ++ ((List.range 7).map GAL.L.FLIP.RETIRE_EN)
  ++ ((List.range 7).map GAL.L.FLIP.RETIRE_SEL)
  ++ ((List.range 7).map GAL.L.FENCE_VAL.FENCE_VAL)
  ++ ((List.range 7).map GAL.L.CRC_ACT.CRC_ACT)
  ++ ((List.range 7).map GAL.L.CRC_EXP.CRC_EXP)
  ++ ((List.range 64).map GAL.FENCE.FENCE)
  ++ [GAL.FENCE_INC.INDEX, GAL.FENCE_INC.AMOUNT]

/-- The fields of block 15, SHD (R551). -/
def SHD.fields : List Field :=
  [SHD.CTRL.EN, SHD.CTRL.BATCH_COMMIT, SHD.CFG.MERGE_GAP, SHD.MAP_H0.H0, SHD.MAP_V0.V0, SHD.MAP_HSTEP.HSTEP, 
    SHD.MAP_VSTEP.VSTEP, SHD.CTX_DEF.HORIZON, SHD.CTX_DEF.LIFE, SHD.CTX_DEF.GROW, SHD.STATUS.CMP_MISMATCH, 
    SHD.STATUS.ROW_SINGLE, SHD.STATUS.LT_UNSYNC, SHD.STATUS.BATCH_OPEN, SHD.STATUS.ACTIVE, 
    SHD.MISMATCH_COUNT.COUNT, SHD.WR_REJECT_COUNT.COUNT, SHD.EVICT_COUNT.COUNT, SHD.EXPIRE_COUNT.COUNT]
  ++ ((List.range 8).map SHD.CLASS_CFG.MIN_MARGIN)
  ++ ((List.range 8).map SHD.CLASS_CFG.FORCE_GR)

/-- The fields of block 16, BE (R551). -/
def BE.fields : List Field :=
  [BE.CTRL.EN, BE.CTRL.AUTO_STEP, BE.CTRL.ROTATE_EN, BE.CTRL.STEP_N, BE.CTRL.ROT_S, BE.ACTIVE.ENG, 
    BE.SPARE.ENG, BE.RETIRED.ENG, BE.LOAD.LOAD, BE.LOAD.LOAD_PEAK, BE.LOAD.PAUSE, BE.STATUS.TAKEOVER, 
    BE.STATUS.STEPPED, BE.STATUS.DEGRADED, BE.STATUS.DOSE_LOST, BE.FAULT_COUNT.COUNT, BE.LATE_COUNT.COUNT, 
    BE.OPTICS.SOURCE, BE.OPTICS.RESID, BE.OPTICS.SHIFT]
  ++ ((List.range 16).map BE.BAND_MAP.ENGINE)
  ++ ((List.range 16).map BE.BAND_MAP.SHARED)

/-- The fields of block 17, DIAG (R551). -/
def DIAG.fields : List Field :=
  [DIAG.CTRL.EN, DIAG.CTRL.HEAL_EN, DIAG.CTRL.LEAK_EN, DIAG.CFG.DW_OPS, DIAG.CFG.TP_IREF, DIAG.CFG.OPEN_PCT, 
    DIAG.CFG.VF_SHORT, DIAG.LINE_CFG.ROW_LINE_TH, DIAG.STATUS.NEW_DEAD, DIAG.STATUS.LINE_FAULT, 
    DIAG.STATUS.CLUSTER, DIAG.STATUS.MAP_FULL, DIAG.STATUS.STUCK, DIAG.STATUS.MAPPED, DIAG.AGE.MAX_AGE, 
    DIAG.AGE.AGE_ROW, DIAG.LINE.ROW_FAULTS, DIAG.LINE.COL_FAULTS, DIAG.LINE.FIRST_ROW, DIAG.LINE.FIRST_COL, 
    DIAG.TRIM_REJ.COUNT, DIAG.DEFER_COUNT.COUNT, DIAG.LEAK_COUNT.COUNT, DIAG.PREEMPT_COUNT.COUNT]
  ++ [DIAG.UNMAPPED.COUNT]

/-- The fields of block 18, CAL (R551). -/
def CAL.fields : List Field :=
  [CAL.CTRL.EN, CAL.CTRL.INSVC_EN, CAL.CTRL.AG_EN, CAL.CTRL.VM_EN, CAL.CFG.CAL_IREF, CAL.CFG.SEL_TOL, 
    CAL.CFG.TRIM_LIM, CAL.CFG.UNIT_WIN, CAL.STATUS.DONE, CAL.STATUS.STARTUP_ABORT, CAL.STATUS.WRITE_FAIL, 
    CAL.STATUS.WITNESS_LOW, CAL.STATUS.A_CLAMPED, CAL.STATUS.CAL_ROW, CAL.START_STATS.GLOBAL_MED, 
    CAL.START_STATS.DARK_US, CAL.TRIM_STATS.TRIMMED, CAL.AG_CFG.AG_TARGET, CAL.AG_CFG.A_MAX, 
    CAL.AG_STATUS.GEN, CAL.AG_STATUS.MODEL_GEN, CAL.AG_STATUS.FB_HOURS, CAL.VM_CFG.VC_MIN, CAL.VM_CFG.VC_MAX]
  ++ [CAL.VM_CFG.M_LOW, CAL.VM_CFG.M_HIGH, CAL.VM_STATUS.VC_SET, CAL.VM_STATUS.WORST_MON, 
    CAL.VM_STATUS.PMBUS_ERR, CAL.VM_STATUS.MARGIN_MIN, CAL.RESEL_COUNT.COUNT, CAL.SKIP_COUNT.COUNT]

/-- The fields of block 19, MRAM (R551). -/
def MRAM.fields : List Field :=
  [MRAM.CTRL.EN, MRAM.STATUS.BUSY, MRAM.STATUS.CFG_DEFAULTED, MRAM.STATUS.TORN, MRAM.STATUS.WEAR_HOLD, 
    MRAM.STATUS.DEF_RECORD, MRAM.CE_COUNT.COUNT, MRAM.TORN_COUNT.COUNT]

/-- The fields of block 20, IOMUX (R551). -/
def IOMUX.fields : List Field :=
  [IOMUX.CTRL.APPLY, IOMUX.STATUS.CONFLICT, IOMUX.STATUS.WIGN, IOMUX.STATUS.CONF_PIN, IOMUX.BOARD.VLED_ADDR, 
    IOMUX.BOARD.VCORE_ADDR, IOMUX.BOARD.LENS_ADDR, IOMUX.BOARD.WAKE_ADDR]
  ++ ((List.range 16).map IOMUX.PIN.FUNC)
  ++ ((List.range 16).map IOMUX.PIN.PULL)
  ++ ((List.range 16).map IOMUX.PIN.DRIVE)
  ++ ((List.range 16).map IOMUX.PIN.OUT)
  ++ ((List.range 16).map IOMUX.PIN.IN)

/-- The fields of block `n` (R551); none for an unmapped block. -/
def blockFields : Nat → List Field
  | 0 => SYS.fields
  | 1 => CLK.fields
  | 2 => PWR.fields
  | 3 => FLT.fields
  | 4 => THM.fields
  | 5 => MBX.fields
  | 6 => SAFE.fields
  | 7 => CRC.fields
  | 8 => DDRC.fields
  | 9 => TXLA.fields
  | 10 => TXLB.fields
  | 11 => CAN.fields
  | 12 => AUX.fields
  | 13 => SCAN.fields
  | 14 => GAL.fields
  | 15 => SHD.fields
  | 16 => BE.fields
  | 17 => DIAG.fields
  | 18 => CAL.fields
  | 19 => MRAM.fields
  | 20 => IOMUX.fields
  | _ => []

/-- The fields at register address `a`. -/
def fieldsAt (a : Nat) : List Field :=
  (blockFields (a / 0x10000)).filter (fun f => f.addr == a)

/-- EN of block `n` (R555); none for a block without an EN bit. -/
def blockEn : Nat → Option Field
  | 4 => some THM.CTRL.EN
  | 7 => some CRC.CTRL.EN
  | 8 => some DDRC.CTRL.EN
  | 9 => some (TX.CTRL.EN 0)
  | 10 => some (TX.CTRL.EN 1)
  | 11 => some CAN.CTRL.EN
  | 12 => some AUX.CTRL.EN
  | 13 => some SCAN.CTRL.EN
  | 14 => some GAL.CTRL.EN
  | 15 => some SHD.CTRL.EN
  | 16 => some BE.CTRL.EN
  | 17 => some DIAG.CTRL.EN
  | 18 => some CAL.CTRL.EN
  | _ => none

end Sys2Proof.Machine
end

