-- ==== Sys2Proof/Machine/State.lean ====
section
/-! DEFINITION. State.lean: everything the spec gives the block, as plain data, and its value right after reset. Register fields
live in `regs` and `act`; what the registers do not show lives in one structure per chapter. -/

namespace Sys2Proof.Machine

/-! ### Pixel array, scan and Gallery -/

/-- What a row group of 64 rows is doing. -/
structure Group where
  /-- What drives its pixels (R44, R51). Reset: dark. -/
  drive : Drive
  /-- It runs 11-bit codes (R95). Reset: false. -/
  n11 : Bool
  /-- It holds a swapped frame (R39). Reset: false. -/
  hasFrame : Bool
  /-- A frame with a passing verdict waits in its back latches (R39). Reset: false. -/
  swapDue : Bool
  /-- It is in the dark interval of a width change (R95). Reset: false. -/
  gap : Bool
  /-- It goes dark at its next period start (R92). Reset: false. -/
  darkDue : Bool
  deriving DecidableEq, Repr

/-- The pixel cells (R28) as planes of 1024 × 1024. -/
structure Pix where
  /-- Trim mask in force, 8 bits per pixel (R28). Reset: 0x00 everywhere. -/
  trim : Plane
  /-- Rows of trim masks written that wait for their group's next period start (R29). Reset: none. -/
  trimDue : Sparse (List Nat)
  /-- Back PWM latch, 12 bits (R28). Reset: 0. -/
  back : Plane
  /-- Front PWM latch, 12 bits (R28). Reset: 0. -/
  front : Plane
  /-- Blank bit (R28). Reset: 0. -/
  blank : Plane
  /-- Fallback bit of the loaded plane (R28, R54). Reset: 0. -/
  fb : Plane
  deriving DecidableEq, Repr

/-- Scan timing, swap, governor and headroom state. -/
structure Scan where
  /-- The raster runs (R91). Reset: false. -/
  running : Bool
  /-- Lamp time at which the enabled raster starts (R91). Reset: none. -/
  startAt : Option Nat
  /-- A content frame is in load: neither aborted nor M7 (R87, R100). Reset: false. -/
  loading : Bool
  /-- Rows 0 to nextRow - 1 of the frame in load are delivered (R89). Reset: 0. -/
  nextRow : Nat
  /-- The pipeline was discarded by clearing GAL.CTRL.EN (R152). Reset: false. -/
  galStopped : Bool
  /-- The frame in load carries 11-bit codes (R95). Reset: false. -/
  loadN11 : Bool
  /-- The frame that waits to swap carries 11-bit codes (R95). Reset: false. -/
  swapN11 : Bool
  /-- FRAME_NUM of the frame in load (R239). Reset: 0. -/
  loadFrame : Nat
  /-- Lamp time of the running frame's start (R87). Reset: 0. -/
  frameLt : Nat
  /-- Row groups G0 to G15. Reset: all as in `Group`. -/
  groups : List Group
  /-- The row hold area: physical row and codes, in row order (R42). Reset: empty. -/
  hold : List (Nat × List Nat)
  /-- Rows held in the frame in load (R80). Reset: 0. -/
  heldNow : Nat
  /-- The grayscale counter C in 1/125 counts, modulo 4096 counts (R35). Reset: 0 (DESIGN CHOICE, entry 9). -/
  gs : Nat
  /-- Demand accumulated per zone in this load, popcount × IREF × code (R57). Reset: 0. -/
  demandAcc : List Nat
  /-- Zone scales S_z in force (R58). Reset: 4096 (DESIGN CHOICE, entry 9). -/
  scale : List Nat
  /-- Adjustment of the last pass's idle interval in this frame, CLK_PIX cycles (R93). Reset: 0. -/
  idleAdj : Int
  /-- Headroom loop: windows to wait before trying lower again (R64). Reset: 0. -/
  hrHold : Nat
  /-- Headroom loop: quiet windows counted (R64). Reset: 0. -/
  hrQuiet : Nat
  /-- Headroom loop: last step was down (R64). Reset: false. -/
  hrDown : Bool
  /-- VLED code asked for, applied by the next acknowledged VOUT_COMMAND (R64). Reset: 80. -/
  vledAsk : Nat
  /-- Tracking is suspended until the next acknowledged write (R66). Reset: false. -/
  hrSuspended : Bool
  /-- Slot of the blank-plane pass next to begin, which is the row it writes (R45). Reset: 0. -/
  passRow : Nat
  /-- A blank-plane pass is running (R45). Reset: false. -/
  passOn : Bool
  deriving DecidableEq, Repr

/-- Gallery state beside its registers. -/
structure Gal where
  /-- LUT memory: entry i of table t at key t × 8192 + i (R134). Reset: 0 everywhere (DESIGN CHOICE, entry 10). -/
  lut : Sparse Nat
  /-- Held-back FORMAT, W, H, STRIDE and SAFETY of slots with an armed flip (R127). Reset: none. -/
  held : Sparse (List Nat)
  /-- Slots dropped that wait for the next frame, bit n (R146). Reset: 0. -/
  dropNext : Nat
  /-- Retire fences waiting on a Kiln build: slot and fence (R142). Reset: none. -/
  retireDue : List (Nat × Nat)
  /-- Consecutive frame starts without a change, per slot (R147). Reset: 0. -/
  stable : List Nat
  /-- Highest slot of the image a running build makes (R148). Reset: 0. -/
  buildPrefix : Nat
  /-- A complete inactive Kiln image waits for the next frame start, with its highest slot (R148). Reset: none. -/
  kilnReady : Option Nat
  /-- Kiln image generation in banks 2 and 3 is the active one (R150). Reset: false. -/
  kilnBank : Bool
  /-- Slots whose buffer was overwritten while in use, bit n: codes are undefined until their next flip (R143). Reset: 0. -/
  overwritten : Nat
  /-- SAFETY layers whose check value was compared in this frame, bit n (R145). Reset: 0. -/
  checked : Nat
  /-- The frame in load has undefined content (R143). Reset: false. -/
  contentOpen : Bool
  deriving DecidableEq, Repr

/-! ### Beam engines and statistics -/

/-- One entry of a running render set (R200 to R204). -/
structure RunEntry where
  /-- The parameter block (R200). -/
  block : List Byte
  /-- Output buffer of this render (R204). -/
  out : Nat
  /-- Bands still to complete, bit b (R203). -/
  todo : Nat
  /-- Bands that may write: no retire or input wait is left (R204, R210). -/
  started : Nat
  deriving DecidableEq, Repr

/-- A running render set with the tables and the optics model of its dispatch (R205, R213). -/
structure RunSet where
  entries : List RunEntry
  mode : Nat
  since : Nat
  patterns : Sparse Nat
  optics : Option (List Int)
  shift : Int
  glyphs : Nat
  deriving DecidableEq, Repr

/-- Engine and kernel state beside the BE registers. -/
structure Eng where
  /-- Entries accumulating for the next render set (R425). Reset: none. -/
  building : List (List Byte)
  /-- The submitted set that waits for the next frame start (R425). Reset: none. -/
  submitted : Option (List (List Byte))
  /-- The newest latched set that waits for its dispatch (R19, R217). Reset: none. -/
  latched : Option (List (List Byte))
  /-- The render set that runs (R19). Reset: none. -/
  running : Option RunSet
  /-- Slots, or 256 + entry for entries without a slot, whose next PINGPONG render writes OUT1 (R204). Reset: none. -/
  pingpong : List Nat
  /-- Late flags of the last 16 frame starts, newest first (R222). Reset: none. -/
  late : List Bool
  /-- The mode Jorosh wrote to step down, until its sample (R222, R223). Reset: none. -/
  stepMode : Option Nat
  /-- A step was made and COMPUTE_RESTORED not raised since (R222). Reset: false. -/
  stepWatch : Bool
  /-- Faulted engines whose bands wait for a spare (R217). Reset: none. -/
  orphans : List Nat
  /-- Spares readied for them (R217). Reset: 0. -/
  spares : Nat
  /-- Bands whose K_DOSE increment of this frame is dropped, bit b (R217, R505). Reset: 0. -/
  lostBands : Nat
  /-- A rotation waits for the next frame start (R219). Reset: false. -/
  rotateDue : Bool
  /-- Engine that rotation exchanges next at the earliest (R219). Reset: 0. -/
  rotateNext : Nat
  /-- Spares that run their self-test, bit n (R219). Reset: 0. -/
  testing : Nat
  /-- Pattern tables of the active generation: byte i of pattern p at key p × 262144 + i (R207, R425). Reset: 0 everywhere (DESIGN
  CHOICE, entry 21). -/
  patterns : Sparse Nat
  /-- The inactive generation as loaded so far (R425). Reset: 0 everywhere (DESIGN CHOICE, entry 21). -/
  patNext : Sparse Nat
  /-- Patterns whose inactive generation is begun and not complete (R205). Reset: none. -/
  patOpen : List Nat
  /-- Patterns whose inactive generation is complete and due (R205). Reset: none. -/
  patDue : List Nat
  /-- Generation number of each pattern table (R205). Reset: 0. -/
  patGen : List Nat
  /-- Generation, glyph count and size of the active symbol library (R215). Reset: 0, none loaded. -/
  symGen : Nat
  symGlyphs : Nat
  symSize : Nat
  /-- A loaded library that is due at the next frame start: glyphs and size (R205). Reset: none. -/
  symDue : Option (Nat × Nat)
  /-- The lens record's matrix P; none for the default model (R212). Reset: none. -/
  lensP : Option (List Int)
  /-- K_T of the lens record, 1/256 bu per °C (R214). Reset: 0. -/
  lensKt : Int
  deriving DecidableEq, Repr

/-- Frame statistics (R423). -/
structure Stats where
  latched : Nat
  rendered : Nat
  skipped : Nat
  underruns : Nat
  aborts : Nat
  blocked : Nat
  swapped : Nat
  /-- The frame with the last passing verdict has not swapped in any group yet. Reset: false. -/
  swapOpen : Bool
  deriving DecidableEq, Repr

/-! ### Shadow engine -/

/-- A context record as stored, with the lamp time that replaces its T0 where one does (R165, R171). -/
structure Ctx where
  raw : List Byte
  t0 : Option Nat
  deriving DecidableEq, Repr

/-- A staged record: a context, marked batch or not (R168). VALID = 0 marks a deletion. -/
structure Staged where
  ctx : Ctx
  batch : Bool
  deriving DecidableEq, Repr

/-- A context slot's two copies (R164). -/
structure CtxSlot where
  active : Option Ctx
  staged : Option Staged
  deriving DecidableEq, Repr

/-- Shadow-engine state. -/
structure Shd where
  /-- The 256 context slots; an unlisted slot is empty (R164). Reset: all empty. -/
  slots : Sparse CtxSlot
  /-- A batch commit waits for the next publish point (R168). Reset: false. -/
  commitDue : Bool
  /-- Soft-mask rows requested and not yet evaluated (R183). Reset: none. -/
  softReq : List Nat
  /-- Soft-mask rows of this frame handed to the Gallery; a listed row with no values is all 65,535 (R182). Reset: none. -/
  soft : Sparse (List Nat)
  /-- Soft-mask rows handed over in this frame. Reset: none. -/
  softReady : List Nat
  /-- The blank row evaluated in the last slot, to be written in the next (R182): row and bits. Reset: none. -/
  blankReady : Option (Nat × List Nat)
  /-- A mismatch was already reported in this pass (R184). Reset: false. -/
  passMismatch : Bool
  /-- Clear passes of each pixel in the frame in progress, given to K_DOSE (R317). Reset: 0. -/
  clearPasses : Plane
  /-- Passes started in this frame (R316). Reset: 0. -/
  passes : Nat
  deriving DecidableEq, Repr

/-! ### Guard, seal, SAFE records and fallback -/

/-- One rectangle the Guard sums for SLI, with the glare zone it belongs to and its limit (R235, R615). -/
structure Rect where
  zone : Nat
  c0 : Nat
  c1 : Nat
  r0 : Nat
  r1 : Nat
  limit : Nat
  deriving DecidableEq, Repr

/-- The limits in force (R234, R260). -/
structure Limits where
  broken : Bool
  noSlot : Bool
  slot : Nat
  left : Bool
  glareClass : Nat
  swivel : Nat
  cutoff : Nat
  fbSel : Nat
  rects : List Rect
  env : List Nat
  allow : Nat
  cMin : Nat
  cMax : Nat
  riseRel : Nat
  riseAbs : Nat
  centRate : Nat
  centMin : Nat
  fbRef : Nat
  windowMax : Nat
  blockLimit : Nat
  deriving DecidableEq, Repr

/-- An accepted SAFE record that waits for its partner (R253). -/
structure SafeRec where
  bytes : List Byte
  seq : Nat
  cls : Nat
  mask : Nat
  digest : Nat
  arrived : Nat
  deriving DecidableEq, Repr

/-- Guard state (R233 to R262). -/
structure Guard where
  /-- OTP seal slots programmed: number and its 1,024 bytes (R259). Reset: none (DESIGN CHOICE, entry 11). -/
  otp : Sparse (List Byte)
  /-- The 128-bit CMAC key in the OTP key area, once programmed with the first seal (R251). Reset: none. -/
  key : Option (List Byte)
  /-- The host key in the OTP key area, once programmed with the first seal (R419). Reset: none. -/
  hostKey : Option (List Byte)
  /-- Keys whose OTP word cannot be corrected, unprogrammed until reset: bit 0 host, 1 service, 2 SAFE (R530). Reset: none. -/
  lostKeys : Nat
  /-- Limits in force. Reset: the ROM table (R260). -/
  limits : Limits
  /-- Levels of SEAL_S0 to SEAL_S5 read at reset (R257). Reset: all 0 until COLD_BOOT reads them. -/
  straps : List Strap
  /-- The straps as read last (R261, R262). Reset: all 0 until COLD_BOOT reads them. -/
  strapsNow : List Strap
  /-- A strap change waits for the next frame start to break the seal (R261). Reset: false. -/
  breakDue : Bool
  /-- Sums over the glare rectangles (R234). Reset: 0. -/
  rectSums : List Nat
  /-- Sums above cutoff of the 32 segments (R236). Reset: 0. -/
  segSums : List Nat
  /-- F, the code sum of the frame in load (R234). Reset: 0. -/
  flux : Nat
  /-- M, the code sum weighted by column (R234). Reset: 0. -/
  moment : Nat
  /-- Accumulator sets A and B disagreed in this frame (R239). Reset: false. -/
  accBad : Bool
  /-- An echo mismatched in this frame (R240). Reset: false. -/
  echoBad : Bool
  /-- Effective permission mask at the frame's load start (R236). Reset: 0. -/
  loadMask : Nat
  /-- F and M of the passed frame that waits to light (R238). Reset: none. -/
  cand : Option (Nat × Nat)
  /-- F and M of the last frame that lit PWM (R238). Reset: (0, 0). -/
  ref : Nat × Nat
  /-- Consecutive blocked verdicts, not saturated (R242). Reset: 0. -/
  blockRun : Nat
  /-- Last accepted SEQ of each path (R251). Reset: none. -/
  seqA : Option Nat
  seqB : Option Nat
  /-- Accepted records that wait for a partner (R253). Reset: none. -/
  recA : List SafeRec
  recB : List SafeRec
  /-- A pair that agrees so far and waits for the first publish point after it (R253). Reset: none. -/
  pair : Option SafeRec
  /-- Class and mask of the last agreed pair (R253). Reset: 0. -/
  agreedClass : Nat
  agreedMask : Nat
  /-- Merged class and mask (R254). Reset: 0. -/
  mergedClass : Nat
  mergedMask : Nat
  /-- Consecutive frame starts in MERGED (R255). Reset: 0. -/
  mergedFrames : Nat
  /-- Consecutive agreed pairs in WITHDRAWN (R255). Reset: 0. -/
  withdrawnPairs : Nat
  /-- DIGEST of the active, effectively glare-relevant contexts, taken at each publish point (R252). Reset: 0. -/
  digest : Nat
  /-- Window the host asked for, ms (R256). Reset: 10. -/
  window : Nat
  /-- The Guard oscillator or heartbeat fails (R244). Reset: false. -/
  guardFail : Bool
  deriving DecidableEq, Repr

/-! ### Diagnostics and calibration -/

/-- A dead-pixel map entry (R288). -/
structure MapEntry where
  col : Nat
  row : Nat
  kind : Nat
  noheal : Bool
  inj : Bool
  deriving DecidableEq, Repr

/-- A failure found once, waiting for its confirmation visit (R279). -/
structure Suspect where
  col : Nat
  row : Nat
  kind : Nat
  other : Option (Nat × Nat)
  deriving DecidableEq, Repr

/-- Diagnostics state. -/
structure Diag where
  /-- The dead-pixel map, up to 4,096 entries (R288). Reset: empty until restored from MRAM. -/
  map : List MapEntry
  /-- Declared pixels whose map entry waits for its MRAM commit (R289). Reset: none. -/
  uncommitted : List MapEntry
  /-- Pixels declared while the map was full, forced to code 0 (R290). Reset: none. -/
  unmapped : List (Nat × Nat)
  /-- The healing table in force (R291). Reset: empty. -/
  heal : List MapEntry
  /-- A healing generation is complete and due at the next frame start (R291). Reset: none. -/
  healReady : Option (List MapEntry)
  /-- Generation number of the healing table (R291). Reset: 0. -/
  healGen : Nat
  /-- Next row and parity (1 odd) of each row group's sweep (R276). Reset: row 64g, even. -/
  sweep : List (Nat × Nat)
  /-- Rows and parities waiting for confirmation, in order (R276). Reset: none. -/
  confirm : List (Nat × Nat)
  /-- Failures seen once (R279). Reset: none. -/
  suspects : List Suspect
  /-- Rows seen once with a row line failure, with its kind (R283). Reset: none. -/
  rowSuspects : List (Nat × Nat)
  /-- Per column, the rows of its latest consecutive failing visits (R283). Reset: none. -/
  colFails : Sparse (List Nat)
  /-- Faulted rows and columns (R283). Reset: none. -/
  badRows : List Nat
  badCols : List Nat
  /-- Lamp time at which each faulted column was declared: the age of its pixels stands still (R278). Reset: none. -/
  badColAt : Sparse (Option Nat)
  /-- Pixels isolated as stuck on whose first visit after the isolation is due (R274, R282). Reset: none. -/
  stuckDue : List (Nat × Nat)
  /-- Lamp time of each pixel's last checked visit (R278). Reset: 0. -/
  checkedAt : Plane
  /-- Lamp time at which start-up calibration completed (R278). Reset: 0. -/
  ageFrom : Nat
  /-- Op slots left in this frame's diagnostic window (R272). Reset: 0. -/
  opsLeft : Nat
  /-- Op slots that the in-service calibration still takes (R275, R276). Reset: 0. -/
  preempt : Nat
  deriving DecidableEq, Repr

/-- A witness pixel (R320, R321). -/
structure Witness where
  dose : Nat
  lrel : Nat
  valid : Bool
  p0 : Nat
  tempCoef : Int
  deriving DecidableEq, Repr

/-- Calibration and ageing state. -/
structure Cal where
  /-- A valid calibration record exists in MRAM (R309). Reset: false until restored. -/
  recordValid : Bool
  /-- Unit readings of pixel (c, r), nA, eight of them, at key 1024r + c; an unlisted pixel reads CAL_IREF × 100 nA at every unit
  (R304, R312; assumption 20). Reset: none listed. -/
  readings : Sparse (List Nat)
  /-- Calibrated trim masks (R308). Reset: 0x00. -/
  masks : Plane
  /-- Digital trim T, Q13 (R308). Reset: 8192. -/
  trims : Plane
  /-- Column gains K_c, Q14, of the last complete sweep (R306). Reset: 16384. -/
  colGain : List Nat
  /-- Zone targets t_z, nA (R306). Reset: 0. -/
  target : List Nat
  /-- Forward-voltage codes, 10 mV above 2.00 V (R315). Reset: 0. -/
  vf : Plane
  /-- Zone means of the forward-voltage codes, kept with each checkpoint (R315). Reset: 0. -/
  vfZone : List Nat
  /-- Gain map in force, Q13 (R302). Reset: 8192. -/
  gain : Plane
  /-- A gain map generation exists in DRAM (R302, R304). Reset: false. -/
  gainBuilt : Bool
  /-- A gain map generation is complete and due at the next frame start (R302). Reset: none. -/
  gainReady : Option Plane
  /-- Ageing factors A, Q13 (R323). Reset: 8192. -/
  age : Plane
  /-- Dose words, 1/128 nA·h (R316). Reset: 0. -/
  dose : Plane
  /-- A dose checkpoint waits for the end of SOFT_STOP (R485, R486). Reset: false. -/
  ckptDue : Bool
  /-- Starting row of the next checkpoint (R319). Reset: 0. -/
  ckptRow : Nat
  /-- The 64 witness pixels (R320). Reset: dose 0, L_rel 65,536. -/
  witnesses : List Witness
  /-- Lumen model R[0] to R[31], Q16 (R322). Reset: factory table (DESIGN CHOICE, entry 12). -/
  model : List Nat
  /-- DSTEP of the model, dose units (R322). Reset: factory value (DESIGN CHOICE, entry 12). -/
  dstep : Nat
  /-- Acceleration factors by temperature band, Q8 (R316). Reset: 256 (DESIGN CHOICE, entry 12). -/
  accel : List Nat
  /-- Row inside the dark interval of this period of its group (R311). Reset: none. -/
  darkRow : Option Nat
  /-- In-service row measured in this frame (R311). Reset: false. -/
  rowDone : Bool
  /-- Rows of this in-service sweep measured since the last complete sweep (R313). Reset: 0. -/
  sweepRows : Nat
  /-- Consecutive hourly margins above M_HIGH (R324). Reset: 0. -/
  highHours : Nat
  /-- Planned VCORE code kept in MRAM (R324). Reset: 2. -/
  vcPlan : Nat
  /-- Lamp time spent on fallback that FB_HOURS does not show yet, ticks (R318). Reset: 0. -/
  fbTicks : Nat
  deriving DecidableEq, Repr

/-! ### Tatex -/

/-- A packet whose header has arrived and whose end has not (R352). -/
structure Arrival where
  hdr : Header
  /-- Lamp time of its header. -/
  rx : Nat
  /-- Dropped or stripped at its header. -/
  drop : Bool
  consume : Bool
  /-- Port it leaves by (1 for B) and the WRAPPED it leaves with. -/
  out : Option (Nat × Bool)
  deriving DecidableEq, Repr

/-- A local packet at a port: what it is, when it was started, and how often it was stomped in a row (R353). -/
structure LocalTx where
  pkt : Packet
  start : Nat
  stomps : Nat
  deriving DecidableEq, Repr

/-- One Tatex port beside its registers. -/
structure PortSt where
  /-- Training step of R342, 0 while not training, 7 while it waits to restart. Reset: 0. -/
  phase : Nat
  /-- RATE mask and FOM_REQ of the partner (R339). Reset: 0. -/
  rates : Nat
  fomReq : Nat
  /-- Rate chosen (R342). Reset: 0. -/
  choice : Nat
  /-- FOM_ACH of its own receivers (R342). Reset: none. -/
  fomAch : List Nat
  /-- Consecutive readings below FOM_WARN and FOM_DOWN, by lane (R344). Reset: 0. -/
  warnRuns : List Nat
  downRuns : List Nat
  /-- A SLEEP NOP was received: the next loss is planned (R372). Reset: false. -/
  sleepRx : Bool
  /-- The packet now arriving (R352). Reset: none. -/
  cur : Option Arrival
  /-- A consumed packet that waits for its action, with the lamp time of its header. Reset: none. -/
  pkt : Option (Packet × Nat)
  /-- The local packet sent last (R353). Reset: none. -/
  sending : Option LocalTx
  /-- Local packets that wait to be sent (R353). Reset: none. -/
  waiting : List LocalTx
  /-- The packet forwarded last out of this port, and whether it ended with EOP_BAD (R349). Reset: none. -/
  lastFwd : Option (Packet × Bool)
  /-- Lamp time at which the forward buffer of this port has drained (R354). Reset: 0. -/
  drainEnd : Nat
  /-- Millisecond and number of bad packets in it (R369). Reset: 0. -/
  stormMs : Nat
  storm : Nat
  /-- Lamp times of its last quarantines (R369). Reset: none. -/
  quarAt : List Nat
  /-- Port A was restored and the node still turns WRAPPED packets (R358). Reset: false. -/
  toggling : Bool
  /-- t1 and SEQ of the exchange in progress (R361). Reset: none. -/
  request : Option (Nat × Nat)
  /-- The last eight valid θ, 1/256 tick, newest first (R363). Reset: none. -/
  thetas : List Int
  /-- STRATUM the partner reported (R362). Reset: 0x3FF. -/
  stratum : Nat
  /-- Lamp time of the last TIME set sent (R340). Reset: none. -/
  timeSent : Option Nat
  deriving DecidableEq, Repr

/-- Node-wide Tatex state. -/
structure Net where
  /-- Ports A and B. -/
  ports : List PortSt
  /-- SEQ of the next packet this node originates (R346). Reset: 0. -/
  seq : Nat
  /-- Millisecond of the consumption counts, and per source its packets and bytes in it (R369). Reset: none. -/
  rateMs : Nat
  rates : List (Nat × Nat × Nat)
  /-- Packets and bytes of the sources that share one allowance (R369). Reset: 0. -/
  shared : Nat × Nat
  /-- ROUND of the last ENUM acted on, and of the last TOPO recorded (R357). Reset: none. -/
  enumSeen : Option Nat
  topoSeen : Option Nat
  /-- ROUND of the enumeration this device originates, and the mailbox that waits for it (R357). Reset: none. -/
  origin : Option Nat
  enumMb : Option Nat
  /-- ROUND of the next enumeration this device originates. Reset: 0 (DESIGN CHOICE, entry 22). -/
  round : Nat
  /-- Lamp time was stepped by the first θ while unsynchronized (R363). Reset: false. -/
  stepped : Bool
  /-- Valid exchanges completed on the sync port (R364). Reset: 0. -/
  exchanges : Nat
  /-- Consecutive exchanges with a large θ_med (R363). Reset: 0. -/
  bigRuns : Nat
  /-- Consecutive diverging TIME sets (R365). Reset: 0. -/
  divergeRuns : Nat
  /-- The host has written lamp time: a TIME_ROOT device has stratum 0 (R362). Reset: false. -/
  rootSet : Bool
  /-- Fraction of lamp time, 1/256 tick, and what is still to be slewed (R363). Reset: 0. -/
  frac : Nat
  slew : Int
  /-- Video windows 0 to 3: source, base and size; size 0 is closed (R350, R423). Reset: closed. -/
  windows : List (Nat × Nat × Nat)
  deriving DecidableEq, Repr

/-! ### Pins and side ports -/

/-- Pulses and levels of the loose pins (R406, R409). -/
structure Pins where
  /-- Lamp time of the last frame start, at which FRAME_SYNC rose (R406). Reset: none. -/
  frameSync : Option Nat
  /-- Lamp time at which LT_MARK last rose (R406). Reset: none. -/
  ltMark : Option Nat
  /-- LOWBEAM_REQ is high behind its filter (R246). Reset: false. -/
  lowbeam : Bool
  deriving DecidableEq, Repr

/-! ### Mailboxes (R410 to R420) -/

/-- One mailbox. -/
structure Mb where
  /-- Request area, 256 bytes (R410). Reset: 0 (DESIGN CHOICE, entry 24). -/
  req : List Byte
  /-- Response area, 256 bytes (R410). Reset: 0 (DESIGN CHOICE, entry 24). -/
  rsp : List Byte
  /-- IDLE, BUSY in its three steps, or DONE (R410, R413, R416). Reset: IDLE. -/
  phase : MbPhase
  /-- Path that rang it: 0 SPI, 1 the Tatex link, 2 CAN (R411, R419). Reset: 0. -/
  path : Nat
  /-- SRC of the Tatex request, and whether it was a broadcast (R414, R422). Reset: 0. -/
  src : Nat
  bcast : Bool
  /-- Lamp time of the ring (R419). Reset: 0. -/
  rungAt : Nat
  /-- Session key and KEY of the session that authenticated the running command (R420). Reset: none. -/
  auth : Option (List Byte × Nat)
  /-- The Tatex request last rung, for the replay rule (R415). Reset: none. -/
  last : Option (List Byte)
  /-- Times its dropped MBOX_RSP was sent again (R414). Reset: 0. -/
  resent : Nat
  deriving DecidableEq, Repr

/-- A session, half open until its proof verifies (R419, R420). -/
structure Session where
  num : Nat
  /-- KEY 0 host or 1 service, and the path and SRC it is bound to. -/
  key : Nat
  path : Nat
  src : Nat
  hn : List Byte
  dn : List Byte
  /-- Session key KS; none while half open. -/
  ks : Option (List Byte)
  /-- Last CTR accepted. -/
  ctr : Option Nat
  /-- Consecutive AUTH_FAIL. -/
  fails : Nat
  deriving DecidableEq, Repr

/-- Mailbox state. -/
structure Mbx where
  /-- MB0 to MB7. -/
  boxes : List Mb
  /-- Mailboxes rung and not accepted, in ring order (R413). Reset: none. -/
  rings : List Nat
  /-- Mailboxes accepted and not complete, in acceptance order (R413, R416). Reset: none. -/
  accepted : List Nat
  /-- At most four sessions (R419). Reset: none. -/
  sessions : List Session
  /-- Number of the next session. Reset: 0 (DESIGN CHOICE, entry 23). -/
  nextSession : Nat
  /-- Path, SRC and lamp time of the last counted SESSION_OPEN of each opener (R419). Reset: none. -/
  opens : List (Nat × Nat × Nat)
  /-- Mailboxes whose MBOX_RSP was dropped under R353 (R414). Reset: none. -/
  dropped : List Nat
  /-- The CAN request being assembled: next segment number and bytes so far (R392). Reset: none. -/
  canRx : Option (Nat × List Byte)
  /-- Frames of the last segmented CAN response (R392). Reset: none. -/
  canTx : List (List Byte)
  deriving DecidableEq, Repr

/-! ### Auxiliary outputs (R430 to R441) -/

/-- The setting of a pattern engine (R435). -/
structure AuxEng where
  type : Nat
  port : Nat
  node : Nat
  count : Nat
  period : Nat
  phase : Nat
  lo : Nat
  hi : Nat
  deriving DecidableEq, Repr

/-- A PWM gate (R439). -/
structure AuxGate where
  /-- DUTY and FREQ set, which apply from the next period start. Reset: 0. -/
  duty : Nat
  freq : Nat
  /-- Period and high time in force, ticks, and the lamp time of the last period start. Reset: 0. -/
  period : Nat
  high : Nat
  since : Nat
  deriving DecidableEq, Repr

/-- Auxiliary output state. -/
structure Aux where
  /-- Mixer values: channel c of node n of port p at key 768p + 3n + c (R434). Reset: 0. -/
  values : Sparse Nat
  /-- Gamma tables: entry i of table t at key 257t + i, kept as its difference from the identity (R434). Reset: identity. -/
  gamma : Sparse Nat
  /-- Pattern engine settings in force, ENG0 to ENG7 (R435). Reset: off. -/
  engines : List AuxEng
  /-- Settings that wait for their grid point or period start (R436). Reset: none. -/
  due : List (Option AuxEng)
  /-- Gates 0 to 5 (R439). -/
  gates : List AuxGate
  /-- The last frame of each port: lamp time and 16-bit channel values (R433). Reset: none. -/
  frames : List (Nat × List Nat)
  /-- Lamp time at which EN was last set (R441). Reset: 0. -/
  since : Nat
  /-- The clock monitor forces the outputs low (R440). Reset: false. -/
  forced : Bool
  deriving DecidableEq, Repr

/-! ### Side ports (R385 to R401) -/

/-- SPI, register access and PMBus state. -/
structure Side where
  /-- Response, read data and DCRC that MISO returned in the last frame (R386). Reset: empty. -/
  miso : List Byte
  /-- What REREAD sends again: response and read data with their DCRC (R386). Reset: none. -/
  reread : Option (List Byte)
  /-- What the last direct register or alias read returned; none for a bus error (R552, R554). Reset: 0. -/
  bus : Option Word
  /-- VOUT_MODE exponents of the VLED and VCORE regulators as positive numbers (R400). Reset: none. -/
  expVled : Option Nat
  expVcore : Option Nat
  /-- Reads that wait: regulator 0 VLED or 1 VCORE, and command code (R399, R401). Reset: none. -/
  reads : List (Nat × Nat)
  /-- Failed attempts of the VLED and of the VCORE VOUT_COMMAND that waits (R66). Reset: 0. -/
  tries : Nat
  triesVcore : Nat
  /-- Mantissas last acknowledged by the VLED and VCORE regulators (R400). Reset: none. -/
  mantVled : Option Nat
  mantVcore : Option Nat
  deriving DecidableEq, Repr

/-! ### Clocks, power and boot -/

/-- Clock state beside the CLK registers. -/
structure Clk where
  /-- A trip has stopped the clocks and they are not good again (R458). Reset: false. -/
  lost : Bool
  /-- The PLL has locked since the reference choice (R459). Reset: false. -/
  everLocked : Bool
  /-- The crystal's start-up delay is over (R449). Reset: false. -/
  crystal : Bool
  /-- OTP fields REF_FORCE and OSCDLY_OTP (R448, R449). Reset: 0 (DESIGN CHOICE, entry 11). -/
  refForce : Nat
  oscdlyOtp : Nat
  /-- Division each domain runs at, in the order of R454: BUS, PER, PIX, CORE, DDR, GS; 0 is the RC oscillator. Reset: 0. -/
  div : List Nat
  /-- Grayscale spread in force: EN, DEPTH and RATE (R452). Reset: off. -/
  ssGs : Nat × Nat × Nat
  deriving DecidableEq, Repr

/-- Power state beside the PWR registers. -/
structure Pwr where
  /-- Sleep state being entered, wake sources selected, and whether the DRAM acknowledges self-refresh (R464, R465). Reset: 0. -/
  target : Nat
  sources : Nat
  srAck : Bool
  /-- SCAN.CTRL.EN at the entry into LANDING (R462). Reset: false. -/
  scanEn : Bool
  /-- Sleep state that the wake in progress leaves (R467). Reset: 0. -/
  wakeFrom : Nat
  /-- Repeats made of the readiness wait under way (R468). Reset: 0. -/
  repeats : Nat
  /-- A wake has failed since the last successful one (R468, R538). Reset: false. -/
  failed : Bool
  /-- CORE_EN output and CORE_PG input (R571, R577). Reset: low. -/
  coreEn : Bool
  corePg : Bool
  deriving DecidableEq, Repr

/-- Where the device stands between reset and RUN. -/
structure Boot where
  /-- RESET_N holds every domain but the always-on one in reset (R573). Reset: false. -/
  held : Bool
  /-- The cold-boot path has been started and has not reached BOOT_DONE (R576). Reset: true. -/
  cold : Bool
  /-- Jorosh runs (R577 step 10). Reset: false. -/
  jorosh : Bool
  /-- BOOT_DONE was raised (R577 step 15). Reset: false. -/
  done : Bool
  /-- Running firmware version (R424). Reset: 0, none runs. -/
  fwVer : Nat
  /-- A long RESET_N hold has still to be reported (R575). Reset: false. -/
  longDue : Bool
  /-- A hard trip has still to be reported: the sensor plus 1 (R487). Reset: 0. -/
  tripDue : Nat
  /-- An injected fault asked for the restart that runs (R541). Reset: false. -/
  injRestart : Bool
  deriving DecidableEq, Repr

/-! ### DRAM controller, MRAM and flash -/

/-- DRAM controller state beside its registers. -/
structure Ddr where
  /-- Lamp time at which the present self-refresh began (R506). Reset: none. -/
  srSince : Option Nat
  /-- Ticks of self-refresh that SR_TIME does not show yet (R527). Reset: 0. -/
  srTicks : Nat
  /-- Second of the corrected-error count and the count in it (R505). Reset: 0. -/
  ceSec : Nat
  ceCount : Nat
  /-- Lamp times of the last refresh and ZQ calibration (R497, R501). Reset: none. -/
  refreshed : Option Nat
  zqDone : Option Nat
  deriving DecidableEq, Repr

/-- A valid copy of a record: generation and payload (R511). -/
structure RecCopy where
  gen : Nat
  data : List Byte
  deriving DecidableEq, Repr

/-- The two copies of a record; a copy that is not valid is none (R512, R513). -/
structure Rec where
  a : Option RecCopy
  b : Option RecCopy
  deriving DecidableEq, Repr

/-- A journal entry (R512). -/
structure JEntry where
  num : Nat
  copy : Nat
  state : Nat
  gen : Nat
  deriving DecidableEq, Repr

/-- MRAM state beside its registers. -/
structure Mram where
  /-- Records by number; an unlisted record has no valid copy (R514). Reset: none listed (DESIGN CHOICE, entry 25). -/
  recs : Sparse Rec
  /-- Mask planes A and B (R510). Reset: 0 (DESIGN CHOICE, entry 25). -/
  maskA : Plane
  maskB : Plane
  /-- Trim lists A and B, as the trims they restore; an unlisted pixel restores 8192 (R516). Reset: empty (DESIGN CHOICE, entry
  25). -/
  trimA : Plane
  trimB : Plane
  /-- Dose areas 0 and 1, 16-bit checkpoint words (R319, R510). Reset: 0 (DESIGN CHOICE, entry 25). -/
  doseA : Plane
  doseB : Plane
  /-- The journal: entry i at key i, and the next entry (R512). Reset: empty. -/
  journal : Sparse JEntry
  jnext : Nat
  /-- Allowance used of each record, up to 60 (R518). Reset: 0. -/
  used : Sparse Nat
  deriving DecidableEq, Repr

/-- The boot flash: each byte stored as its difference from the flash's first content, which the device does not lose (R402 to
R404). Reset: nothing listed. -/
structure Flash where
  cells : List Host.Cell
  deriving DecidableEq, Repr

/-! ### Thermal -/

/-- Thermal state beside the THM registers. -/
structure Thm where
  /-- Pause level that the throttling rules ask for (R220, R484). Reset: 0. -/
  pause : Nat
  /-- A hard trip holds: the array is dark and every domain but the always-on one is in reset (R51, R487). Reset: false. -/
  trip : Bool
  /-- Thresholds entered: WARN, THROTTLE, SOFT_STOP (R483). Reset: none. -/
  entered : List Bool
  /-- Consecutive samples at or above each threshold, and below its release level (R483). Reset: 0. -/
  rises : List Nat
  falls : List Nat
  /-- Consecutive implausible and plausible samples of sensors 0 to 67 (R482). Reset: 0. -/
  bad : List Nat
  good : List Nat
  /-- Sensors 0 to 67 judged failed (R482). Reset: none. -/
  failed : List Bool
  /-- Consecutive rounds in which the Guard-domain reading is implausible (R482). Reset: 0. -/
  guardRuns : Nat
  /-- SOFT_STOP is in force for failed sensors, with the sensor that made them more than eight (R482). Reset: none. -/
  failSoft : Option Nat
  deriving DecidableEq, Repr

/-! ### Faults and events -/

/-- A request waiting at a fault position: the class it carries and the lamp time of its first detection (R532). -/
structure FaultWait where
  cls : Nat
  lt : Nat
  deriving DecidableEq, Repr

/-- An event record (R426). -/
structure EventRec where
  code : Nat
  node : Nat
  eseq : Nat
  lt : Nat
  inj : Bool
  args : List Byte
  deriving DecidableEq, Repr

/-- Fault collector state (R530 to R542). -/
structure Flt where
  /-- Real and injected requests by source (R532). Reset: none. -/
  real : Sparse (Option FaultWait)
  inj : Sparse (Option FaultWait)
  /-- Events waiting at position 96 (Jorosh) and 97 (always-on domain) (R532). Reset: none. -/
  jorosh : List EventRec
  aon : List EventRec
  /-- Position last granted (R532). Reset: 97, so that position 0 is first (DESIGN CHOICE, entry 13). -/
  last : Nat
  /-- ERR_N hold: real classes that assert it, bit 0 CORR, 1 CONT, 2 FATAL (R538). Reset: 0. -/
  errReal : Nat
  /-- ERR_N hold: injected classes that assert it (R538). Reset: 0. -/
  errInj : Nat
  /-- ERR_N hold by a CLOCK or GUARD cause, released with FATAL (R538). Reset: false. -/
  errAsync : Bool
  /-- ERR_N hold by WAKE_FAIL, released with CONT (R538). Reset: false. -/
  errWake : Bool
  /-- ERR_N is inside its minimum width (R538). Reset: false. -/
  errMin : Bool
  /-- Lamp times of the supervisor restarts that count toward RESTART_MAX (R537). Reset: none. -/
  restarts : List Nat
  /-- A granted FATAL fault asks for a supervisor restart: it is an injected one (R537). Reset: none. -/
  restartDue : Option Bool
  /-- Injected faults by source that wait at their detector (R540). Reset: none. -/
  injDue : Sparse Nat
  /-- Injected faults still to be raised: source, class, how many (R540). Reset: none. -/
  inject : List (Nat × Nat × Nat)
  deriving DecidableEq, Repr

/-- The event queue and history (R427). -/
structure Evt where
  /-- Queued records, oldest first, up to 128. Reset: empty. -/
  queue : List EventRec
  /-- History, oldest first, up to 256. Reset: empty. -/
  history : List EventRec
  /-- Next ESEQ (R426). Reset: 0. -/
  eseq : Nat
  /-- Events dropped that no EVENTS_LOST record has carried yet (R427). Reset: 0. -/
  lost : Nat
  /-- Queued records not yet sent to EVT_DEST (R427). Reset: 0. -/
  unsent : Nat
  deriving DecidableEq, Repr

/-! ### Outcomes -/

/-- Why a step stops with a fault. No command of this block does: the spec gives every command of the table an effect. -/
inductive Fault where
  /-- Raised by no meaning; safe. -/
  | none
  deriving DecidableEq, Repr

/-- Why a step is refused. -/
inductive Refusal where
  /-- Raised by an arm of exec whose command has no meaning yet; safe, because the block does nothing instead. -/
  | notModelled (mnemonic : String)
  deriving DecidableEq, Repr

/-! ### The whole state -/

/-- The machine. -/
structure State where
  /-- Commands waiting, first in first out. Reset: empty. -/
  pending : List Instr
  /-- Register fields by key (address × 32 + lowest bit), each stored as its difference from reset (R551). Reset: none. -/
  regs : Sparse Word
  /-- Active copies of shadowed fields, stored in the same way (R96). Reset: none. -/
  act : Sparse Word
  /-- Lamp time (R21). Reset: 0. -/
  lt : LampTime
  /-- Lamp time is synchronized (R21). Reset: false. -/
  synced : Bool
  /-- Index of the next free value; the model's own field. Reset: 0 (DESIGN CHOICE, entry 4). -/
  free : Nat
  /-- DRAM contents; an unlisted byte reads 0 (R496). Reset: nothing listed (DESIGN CHOICE, entry 5). -/
  dram : List Host.Cell
  scan : Scan
  pix : Pix
  gal : Gal
  eng : Eng
  stats : Stats
  shd : Shd
  guard : Guard
  diag : Diag
  cal : Cal
  net : Net
  mbx : Mbx
  io : Side
  pins : Pins
  aux : Aux
  clk : Clk
  pwr : Pwr
  boot : Boot
  thm : Thm
  ddr : Ddr
  mram : Mram
  flash : Flash
  flt : Flt
  evt : Evt
  deriving DecidableEq, Repr

/-! ### Reset -/

/-- A port at reset (R376). -/
def PortSt.idle : PortSt :=
  { phase := 0, rates := 0, fomReq := 0, choice := 0, fomAch := [], warnRuns := [0, 0, 0, 0], downRuns := [0, 0, 0, 0],
    sleepRx := false, cur := none, pkt := none, sending := none, waiting := [], lastFwd := none, drainEnd := 0,
    stormMs := 0, storm := 0, quarAt := [], toggling := false, request := none, thetas := [], stratum := 0x3FF,
    timeSent := none }

/-- The ROM table: the limits without a valid slot (R260). -/
def Limits.rom : Limits :=
  { broken := true, noSlot := true, slot := 0, left := false, glareClass := 0, swivel := 0, cutoff := 0, fbSel := 0,
    rects := [], env := List.replicate 32 430, allow := 0, cMin := 6184, cMax := 10184, riseRel := 8,
    riseAbs := 20000000, centRate := 16, centMin := 10000000, fbRef := 0, windowMax := 10, blockLimit := 3 }

/-- A mailbox at reset (R410). -/
def Mb.idle : Mb :=
  { req := List.replicate 256 0, rsp := List.replicate 256 0, phase := .idle, path := 0, src := 0, bcast := false,
    rungAt := 0, auth := none, last := none, resent := 0 }

/-- A pattern engine that is off (R435). -/
def AuxEng.off : AuxEng := { type := 0, port := 0, node := 0, count := 0, period := 0, phase := 0, lo := 0, hi := 0 }

def Scan.reset : Scan :=
  { running := false, startAt := none, loading := false, nextRow := 0, galStopped := false, loadN11 := false,
    swapN11 := false, loadFrame := 0, frameLt := 0, groups := List.replicate 16 ⟨.dark, false, false, false, false, false⟩,
    hold := [], heldNow := 0, gs := 0, demandAcc := List.replicate 64 0, scale := List.replicate 64 4096, idleAdj := 0,
    hrHold := 0, hrQuiet := 0, hrDown := false, vledAsk := 80, hrSuspended := false, passRow := 0, passOn := false }

def Pix.reset : Pix := { trim := [], trimDue := [], back := [], front := [], blank := [], fb := [] }

def Gal.reset : Gal :=
  { lut := [], held := [], dropNext := 0, retireDue := [], stable := List.replicate 7 0, buildPrefix := 0,
    kilnReady := none, kilnBank := false, overwritten := 0, checked := 0, contentOpen := false }

def Eng.reset : Eng :=
  { building := [], submitted := none, latched := none, running := none, pingpong := [], late := [],
    stepMode := none, stepWatch := false, orphans := [], spares := 0, lostBands := 0, rotateDue := false, rotateNext := 0,
    testing := 0, patterns := [], patNext := [], patOpen := [], patDue := [], patGen := List.replicate 256 0, symGen := 0, symGlyphs := 0,
    symSize := 0, symDue := none, lensP := none, lensKt := 0 }

def Stats.reset : Stats :=
  { latched := 0, rendered := 0, skipped := 0, underruns := 0, aborts := 0, blocked := 0, swapped := 0, swapOpen := false }

def Shd.reset : Shd :=
  { slots := [], commitDue := false, softReq := [], soft := [], softReady := [], blankReady := none, passMismatch := false,
    clearPasses := [], passes := 0 }

def Guard.reset : Guard :=
  { otp := [], key := none, hostKey := none, lostKeys := 0, limits := Limits.rom, straps := List.replicate 6 (.level 0), strapsNow := List.replicate 6 (.level 0), breakDue := false, rectSums := [],
    segSums := List.replicate 32 0, flux := 0, moment := 0, accBad := false, echoBad := false, loadMask := 0, cand := none,
    ref := (0, 0), blockRun := 0, seqA := none, seqB := none, recA := [], recB := [], pair := none, agreedClass := 0,
    agreedMask := 0, mergedClass := 0, mergedMask := 0, mergedFrames := 0, withdrawnPairs := 0, digest := 0, window := 10,
    guardFail := false }

def Diag.reset : Diag :=
  { map := [], uncommitted := [], unmapped := [], heal := [], healReady := none, healGen := 0,
    sweep := (List.range 16).map (fun g => (64 * g, 0)), confirm := [], suspects := [], rowSuspects := [], colFails := [],
    badRows := [], badCols := [], badColAt := [], stuckDue := [], checkedAt := [], ageFrom := 0, opsLeft := 0, preempt := 0 }

def Cal.reset : Cal :=
  { recordValid := false, readings := [], masks := [], trims := [], colGain := List.replicate 1024 16384,
    target := List.replicate 64 0, vf := [], vfZone := List.replicate 64 0, gain := [], gainBuilt := false,
    gainReady := none, age := [], dose := [], ckptDue := false, ckptRow := 0,
    witnesses := (List.range 64).map (fun i => ⟨0, 65536, true, Config.witnessP0 i, Config.witnessCoef i⟩),
    model := (List.range 32).map Config.factoryModel, dstep := Config.factoryDstep,
    accel := (List.range 16).map Config.factoryAccel, darkRow := none, rowDone := false, sweepRows := 0, highHours := 0,
    vcPlan := 2, fbTicks := 0 }

def Net.reset : Net :=
  { ports := [PortSt.idle, PortSt.idle], seq := 0, rateMs := 0, rates := [], shared := (0, 0), enumSeen := none,
    topoSeen := none, origin := none, enumMb := none, round := 0, stepped := false, exchanges := 0, bigRuns := 0,
    divergeRuns := 0, rootSet := false, frac := 0, slew := 0, windows := List.replicate 4 (0, 0, 0) }

def Mbx.reset : Mbx :=
  { boxes := List.replicate 8 Mb.idle, rings := [], accepted := [], sessions := [], nextSession := 0, opens := [],
    dropped := [], canRx := none, canTx := [] }

def Aux.reset : Aux :=
  { values := [], gamma := [], engines := List.replicate 8 AuxEng.off, due := List.replicate 8 none,
    gates := List.replicate 6 ⟨0, 0, 0, 0, 0⟩, frames := List.replicate 4 (0, []), since := 0, forced := false }

def Side.reset : Side :=
  { miso := [], reread := none, bus := some 0, expVled := none, expVcore := none, reads := [], tries := 0, triesVcore := 0,
    mantVled := none, mantVcore := none }

def Clk.reset : Clk :=
  { lost := false, everLocked := false, crystal := false, refForce := 0, oscdlyOtp := 0, div := List.replicate 6 0,
    ssGs := (0, 0, 0) }

def Pwr.reset : Pwr :=
  { target := 0, sources := 0, srAck := false, scanEn := false, wakeFrom := 0, repeats := 0, failed := false,
    coreEn := false, corePg := false }

def Boot.reset : Boot :=
  { held := false, cold := true, jorosh := false, done := false, fwVer := 0, longDue := false, tripDue := 0,
    injRestart := false }

def Thm.reset : Thm :=
  { pause := 0, trip := false, entered := [false, false, false], rises := [0, 0, 0], falls := [0, 0, 0],
    bad := List.replicate 68 0, good := List.replicate 68 0, failed := List.replicate 68 false, guardRuns := 0,
    failSoft := none }

def Ddr.reset : Ddr := { srSince := none, srTicks := 0, ceSec := 0, ceCount := 0, refreshed := none, zqDone := none }

def Flt.reset : Flt :=
  { real := [], inj := [], jorosh := [], aon := [], last := 97, errReal := 0, errInj := 0, errAsync := false,
    errWake := false, errMin := false, restarts := [], restartDue := none, injDue := [], inject := [] }

def Evt.reset : Evt := { queue := [], history := [], eseq := 0, lost := 0, unsent := 0 }

/-- The machine right after reset: every register at the reset value of its field, nothing listed in any memory, the cold-boot
path about to run (R551, R576). -/
def State.reset : State :=
  { pending := [], regs := [], act := [], lt := 0, synced := false, free := 0, dram := [], scan := Scan.reset,
    pix := Pix.reset, gal := Gal.reset, eng := Eng.reset, stats := Stats.reset, shd := Shd.reset, guard := Guard.reset,
    diag := Diag.reset, cal := Cal.reset, net := Net.reset, mbx := Mbx.reset, io := Side.reset,
    pins := { frameSync := none, ltMark := none, lowbeam := false }, aux := Aux.reset, clk := Clk.reset, pwr := Pwr.reset,
    boot := Boot.reset, thm := Thm.reset, ddr := Ddr.reset, 
    mram := { recs := [], maskA := [], maskB := [], trimA := [], trimB := [], doseA := [], doseB := [], journal := [], jnext := 0,
              used := [] },
    flash := { cells := [] }, flt := Flt.reset, evt := Evt.reset }

end Sys2Proof.Machine
end

