-- ==== Sys2Proof/Machine/Ops.lean ====
section
/-! DEFINITION. Ops.lean: the named operations over registers and memory that every meaning uses. -/

namespace Sys2Proof.Machine

/-! ### Register fields -/

/-- The key of a field in the register store. -/
def fieldKey (f : Field) : Nat := f.addr * 32 + f.lo

/-- The value a field holds (the written copy of a shadowed field, R68). -/
def State.reg (s : State) (f : Field) : Nat :=
  (sparseGet 0 s.regs (fieldKey f) ^^^ f.reset).toNat

/-- The field as a flag. -/
def State.flag (s : State) (f : Field) : Bool := s.reg f != 0

/-- The state with field `f` holding `v`, cut to the field's width. -/
def State.setReg (s : State) (f : Field) (v : Nat) : State :=
  { s with regs := sparseSet 0 s.regs (fieldKey f) (BitVec.ofNat 32 (v % 2 ^ f.width) ^^^ f.reset) }

/-- The state with a one-bit field set to `b`. -/
def State.setFlag (s : State) (f : Field) (b : Bool) : State := s.setReg f (b2n b)

/-- The active copy of a shadowed field (R96). -/
def State.actReg (s : State) (f : Field) : Nat :=
  (sparseGet 0 s.act (fieldKey f) ^^^ f.reset).toNat

/-- The active copy as a flag. -/
def State.actFlag (s : State) (f : Field) : Bool := s.actReg f != 0

/-- The state with the active copy of `f` holding `v`. -/
def State.setAct (s : State) (f : Field) (v : Nat) : State :=
  { s with act := sparseSet 0 s.act (fieldKey f) (BitVec.ofNat 32 (v % 2 ^ f.width) ^^^ f.reset) }

/-- A counter advanced by `n`; it saturates at its width (R160, R550 and the other counter rules). -/
def State.bumpBy (s : State) (f : Field) (n : Nat) : State :=
  s.setReg f (satAdd f.width (s.reg f) n)

/-- A counter advanced by 1. -/
def State.bump (s : State) (f : Field) : State := s.bumpBy f 1

/-- A counter that wraps at its width advanced by `n`. -/
def State.wrapBy (s : State) (f : Field) (n : Nat) : State :=
  s.setReg f (s.reg f + n)

/-- Bits of a field's value set. -/
def State.orReg (s : State) (f : Field) (v : Nat) : State := s.setReg f (s.reg f ||| v)

/-- A field that acts as the nearest limit of its range (R292, R325, R543). -/
def State.regIn (s : State) (f : Field) (lo hi : Nat) : Nat := clampN lo hi (s.reg f)

/-! ### Lamp time and free values -/

/-- Lamp time as a number of ticks. -/
def State.now (s : State) : Nat := s.lt.toNat

/-- The state after one free value has been taken. -/
def State.tookFree (s : State) : State := { s with free := s.free + 1 }

/-! ### OTP keys -/

/-- Key `n` of the OTP key area, 0 host, 1 service, 2 SAFE; none while it is not programmed or its word cannot be read (R419,
R530). -/
def otpKey (s : State) (n : Nat) : Option (List Byte) :=
  if bit s.guard.lostKeys n then none
  else match n with
    | 0 => s.guard.hostKey
    | 1 => some Config.serviceKey
    | _ => s.guard.key

/-! ### Running -/

/-- RESET_N or a hard trip holds every domain but the always-on one in reset (R487, R573). -/
def domainsHeld (s : State) : Bool := s.boot.held || s.thm.trip

/-- The synchronous domains run: no clock failure, no reset held, and RUN, LANDING or an entry into sleep (R458, R461, R573). -/
def clocksRun (s : State) : Bool :=
  !s.clk.lost && !domainsHeld s
    && (s.reg PWR.STATE.STATE == 0 || s.reg PWR.STATE.STATE == 1 || s.reg PWR.STATE.STATE == 4)

/-! ### DRAM -/

/-- A byte of DRAM. -/
def State.dramByte (s : State) (a : Nat) : Byte := sparseGet 0 s.dram a

/-- `n` bytes of DRAM from address `a`. -/
def State.dramBytes (s : State) (a n : Nat) : List Byte :=
  (List.range n).map (fun i => s.dramByte (a + i))

/-- The cells with the bytes `v` written from address `a`. -/
def cellsPut (d : Byte) (m : List Host.Cell) (a : Nat) : List Byte → List Host.Cell
  | [] => m
  | b :: t => cellsPut d (sparseSet d m a b) (a + 1) t

/-- DRAM with the bytes `v` written from address `a`. -/
def State.dramPut (s : State) (a : Nat) (v : List Byte) : State :=
  { s with dram := cellsPut 0 s.dram a v }

/-- Bytes of DRAM populated: ranks × rank size of the organization (R496); none for an organization that is refused. -/
def State.dramSize (s : State) : Nat :=
  let g := 2 ^ 30
  let rank := match s.reg DDRC.ORG.WIDTH, s.reg DDRC.ORG.DENSITY with
    | 0, 0 => 4 * g
    | 0, 1 => 8 * g
    | 1, 0 => 2 * g
    | 1, 1 => 4 * g
    | 1, 2 => 8 * g
    | _, _ => 0
  (1 + s.reg DDRC.ORG.RANKS) * rank

/-- The DRAM leaves power-down and self-refresh; SR_TIME takes the time spent in self-refresh in µs, wrapping (R506, R527). -/
def dramExit (s : State) : State :=
  let t := match s.ddr.srSince with
    | some a => s.ddr.srTicks + (s.now - a)
    | none => s.ddr.srTicks
  let s1 := { s with ddr := { s.ddr with srSince := none, srTicks := t % 400 } }
  ((s1.wrapBy DDRC.SR_TIME.TIME (t / 400)).setFlag DDRC.STATUS.SELF_REFRESH false).setFlag DDRC.STATUS.POWER_DOWN false

/-- The DRAM enters self-refresh (R506). -/
def dramSelfRefresh (s : State) : State :=
  let s1 := if s.ddr.srSince.isSome then s else { s with ddr := { s.ddr with srSince := some s.now } }
  (s1.setFlag DDRC.STATUS.SELF_REFRESH true).setFlag DDRC.STATUS.POWER_DOWN false

/-- The memory's canonical form: addresses strictly rising, no entry equal to what an unlisted address reads as. -/
abbrev Memory.wf (d : Byte) (m : List Host.Cell) : Prop := sparseWf d m = true

/-! ### Row groups -/

/-- Row group `g`. -/
def State.group (s : State) (g : Nat) : Group :=
  s.scan.groups.getD g ⟨.dark, false, false, false, false, false⟩

/-- The state with row group `g` replaced. -/
def State.setGroup (s : State) (g : Nat) (v : Group) : State :=
  { s with scan := { s.scan with groups := s.scan.groups.set g v } }

/-! ### Outcomes -/

/-- The outcome of a meaning that goes on. -/
abbrev Out := Host.Outcome State Fault Refusal

end Sys2Proof.Machine
end

