-- ==== Sys2Proof/Machine/Flags.lean ====
section
/-! DEFINITION. Flags.lean: how any block raises a fault (R530 to R533), an event (R426 to R428) or a fallback cause (R245), and
what ERR_N and the event queue do with them. -/

namespace Sys2Proof.Machine

/-! ### Events -/

/-- An event record as raised: code, this node's address, the low 48 bits of lamp time, INJ and the arguments (R426). -/
def mkEvent (s : State) (code : Nat) (inj : Bool) (args : List Byte) : EventRec :=
  { code := code, node := s.reg TXLA.NODE.ADDR, eseq := 0, lt := s.now % 2 ^ 48, inj := inj, args := padTo 16 args }

/-- Jorosh raises an event: it waits at position 96 (R532). -/
def raiseEventInj (s : State) (code : Nat) (inj : Bool) (args : List Byte) : State :=
  { s with flt := { s.flt with jorosh := s.flt.jorosh ++ [mkEvent s code inj args] } }

/-- Jorosh raises an event that no injected fault caused. -/
def raiseEvent (s : State) (code : Nat) (args : List Byte) : State := raiseEventInj s code false args

/-- The always-on domain raises an event: it waits at position 97 (R532). -/
def raiseAonEvent (s : State) (code : Nat) (args : List Byte) : State :=
  { s with flt := { s.flt with aon := s.flt.aon ++ [mkEvent s code false args] } }

/-- The last `n` elements of a list. -/
def lastN {α : Type} (n : Nat) (l : List α) : List α := l.drop (l.length - n)

/-- A record enters the queue and the history with the next ESEQ; a full queue drops it and the history keeps it (R427). -/
def enqueueEvent (s : State) (e : EventRec) : State :=
  let e' := { e with eseq := s.evt.eseq }
  let v := { s.evt with history := lastN 256 (s.evt.history ++ [e']), eseq := (s.evt.eseq + 1) % 2 ^ 32 }
  if s.evt.queue.length < 128 then
    { s with evt := { v with queue := s.evt.queue ++ [e'], unsent := min 128 (s.evt.unsent + 1) } }
  else
    ({ s with evt := { v with lost := s.evt.lost + 1 } }).setFlag MBX.EVT_COUNT.LOST true

/-- The first `n` queued records leave; once space returns, one EVENTS_LOST record carries the number dropped (R427). -/
def dropEvents (s : State) (n : Nat) : State :=
  let q := s.evt.queue.drop n
  let s' := { s with evt := { s.evt with queue := q, unsent := min s.evt.unsent q.length } }
  if 0 < s.evt.lost ∧ q.length < 128 then
    raiseEvent { s' with evt := { s'.evt with lost := 0 } } 0x0C02 (toLe 4 s.evt.lost)
  else s'

/-- The 32 bytes of an event record (R426). -/
def eventBytes (e : EventRec) : List Byte :=
  toLe 2 e.code ++ toLe 2 e.node ++ toLe 4 e.eseq ++ toLe 6 e.lt ++ [BitVec.ofNat 8 (b2n e.inj), 0] ++ padTo 16 e.args

/-- IRQ_N is low while the queue holds a record whose group bit in EVT_MASK is 0 (R427). -/
def irqLow (s : State) : Bool :=
  s.evt.queue.any (fun e => !bit (s.reg MBX.EVT_MASK.MASK * 2) (e.code / 256))

/-! ### The fallback beam -/

/-- The fallback causes (R245). -/
def fbCauses : List Field :=
  [SAFE.FB_CAUSE.LOWBEAM, SAFE.FB_CAUSE.M7, SAFE.FB_CAUSE.SOFT_STOP, SAFE.FB_CAUSE.BLOCK, SAFE.FB_CAUSE.FATAL,
    SAFE.FB_CAUSE.CLOCK, SAFE.FB_CAUSE.GUARD]

/-- Some cause is active: fallback_active (R245). -/
def fbActive (s : State) : Bool := fbCauses.any s.flag

/-- The FB_CAUSE word. -/
def fbCauseWord (s : State) : Nat :=
  bitsOf 7 (fun i => s.flag (fbCauses.getD i SAFE.FB_CAUSE.LOWBEAM))

/-- Every row group takes fallback drive: PWM light ends at fallback_active (R51, R247). -/
def allFallback (s : State) : State :=
  { s with scan := { s.scan with groups := s.scan.groups.map (fun g => { g with drive := .fallback, gap := false }) } }

/-- The loaded plane is what the fallback beam lights: FB_VALID, and a fallback select that allows it (R54, R249). -/
def fbLoaded (s : State) : Bool :=
  s.flag SCAN.FB_CTRL.FB_VALID && (s.guard.limits.fbSel == 1 || s.guard.limits.fbSel == 2)

/-- The fallback beam starts: entry counted (R271), the plane in use noted (R78), FALLBACK event (R428), with INJ where an injected fault
caused it (R540). -/
def enterFallback (s : State) (inj : Bool) : State :=
  let s1 := ((allFallback s).bump SAFE.FB_ENTRIES.VALUE).setFlag SCAN.FB_CTRL.RESET_LONG_ROM (!fbLoaded s)
  raiseEventInj s1 0x0603 inj ([1, 0, 0, 0] ++ toLe 4 (fbCauseWord s1))

/-- ERR_N goes low, or stays low with one more reason (R538). -/
def errHeld (s : State) : Bool :=
  s.flt.errMin || s.flt.errReal != 0 || s.flt.errInj != 0 || s.flt.errAsync || s.flt.errWake

/-- ERR_N asserted for the reason that `f` records; an assertion while it is low restarts no minimum width (R538). -/
def assertErr (s : State) (f : Flt → Flt) : State :=
  let m := s.flt.errMin || !errHeld s
  { s with flt := { f s.flt with errMin := m } }

/-- A fallback cause rises, by an injected fault where `inj` says so. CLOCK and GUARD also assert ERR_N at once (R538). -/
def raiseCauseInj (s : State) (c : Field) (inj : Bool) : State :=
  if s.flag c then s
  else
    let s1 := s.setFlag c true
    let s2 := if fbActive s then s1 else enterFallback s1 inj
    if c = SAFE.FB_CAUSE.CLOCK ∨ c = SAFE.FB_CAUSE.GUARD then assertErr s2 (fun f => { f with errAsync := true }) else s2

/-- A fallback cause rises that no injected fault caused. -/
def raiseCause (s : State) (c : Field) : State := raiseCauseInj s c false

/-- A fallback cause falls; when it was the last one, FB_PERMIT sets and the FALLBACK event reports the exit (R248). The row
groups stay on fallback drive until their next passed swap (R44). -/
def clearCause (s : State) (c : Field) : State :=
  if s.flag c then
    let s1 := s.setFlag c false
    if fbActive s1 then s1 else raiseEvent s1 0x0603 ([0, 0, 0, 0] ++ toLe 4 (fbCauseWord s1))
  else s

/-- I_FB is halved: by FB_HALF, or forced by fallback select 2 or 3 (R52, R249). -/
def fbHalf (s : State) : Bool := s.flag SCAN.FB_CTRL.FB_HALF || decide (2 ≤ s.guard.limits.fbSel)

/-! ### Faults -/

/-- A class as FLT codes it: 1 CORR, 2 CONT, 3 FATAL (R546). -/
def classCode : FaultClass → Nat
  | .corr => 1
  | .cont => 2
  | .fatal => 3

/-- The classes each source in use lists (R530); none for a reserved number. -/
def sourceClasses (src : Nat) : List Nat :=
  if src ∈ [0, 1, 3, 5, 6, 8, 14, 24, 44] then [3]
  else if src = 2 then [1, 3]
  else if src = 15 then [1, 2, 3]
  else if src ∈ [18, 20, 60] ∨ (25 ≤ src ∧ src ≤ 42) then [1, 2]
  else if src ∈ [4, 43, 48, 50, 52, 55, 57, 58, 61, 62, 63, 64, 65] then [1]
  else if src < 66 then [2]
  else []

/-- A detection placed at a position, or merged into the request that waits there with the higher class (R532). -/
def mergeWait (w : Option FaultWait) (cls lt : Nat) : Option FaultWait :=
  match w with
  | none => some ⟨cls, lt⟩
  | some x => some ⟨max x.cls cls, x.lt⟩

/-- A FATAL detection raises the FATAL cause at once, without waiting for its grant (R536). -/
def fatalAtDetection (s : State) (src cls : Nat) (inj : Bool) : State :=
  if cls = 3 ∧ 3 ∈ sourceClasses src then raiseCauseInj s SAFE.FB_CAUSE.FATAL inj else s

/-- A source detects a real fault of class `cls`: its counter advances and its request is placed or merged (R532). -/
def raiseFault (s : State) (src cls : Nat) : State :=
  let s1 := s.bump (FLT.COUNT.COUNT src)
  let s2 := { s1 with flt := { s1.flt with
    real := sparseSet none s1.flt.real src (mergeWait (sparseGet none s1.flt.real src) cls s.now) } }
  fatalAtDetection s2 src cls false

/-- The same for an injected fault: INJ_COUNT advances and the injected request is placed or merged (R541). -/
def raiseInjected (s : State) (src cls : Nat) : State :=
  let s1 := s.bump FLT.INJ_COUNT.COUNT
  let s2 := { s1 with flt := { s1.flt with
    inj := sparseSet none s1.flt.inj src (mergeWait (sparseGet none s1.flt.inj src) cls s.now) } }
  fatalAtDetection s2 src cls true

/-- A fault that is injected or real. -/
def raiseEither (s : State) (inj : Bool) (src cls : Nat) : State :=
  if inj then raiseInjected s src cls else raiseFault s src cls

/-- An injected fault waits at the detector of `src` (R540). -/
def State.injWaits (s : State) (src : Nat) : Bool := sparseGet 0 s.flt.injDue src != 0

/-- One injected fault fewer waits at the detector of `src`. -/
def State.takeInj (s : State) (src : Nat) : State :=
  { s with flt := { s.flt with injDue := sparseSet 0 s.flt.injDue src (sparseGet 0 s.flt.injDue src - 1) } }

/-- Block `n` ignored a write (R556). -/
def wign (s : State) (n : Nat) : State := s.orReg SYS.WIGN.BLOCK (2 ^ n)

end Sys2Proof.Machine
end

