-- ==== Sys2Proof/Machine/Power.lean ====
section
/-! DEFINITION. Power.lean: what a wake source does in each power state (R466, R467), and when Jorosh serves commands. -/

namespace Sys2Proof.Machine

/-- PWR.STATE.STATE: 0 RUN, 1 LANDING, 2 CELLAR, 3 DEEP, 4 entering, 5 waking (R475). -/
def State.power (s : State) : Nat := s.reg PWR.STATE.STATE

/-- Jorosh runs and takes mailbox commands: it has started, no restart runs, it is not halted, and the device is not asleep or
waking (R467, R537, R577). -/
def supUp (s : State) : Bool :=
  s.boot.jorosh && !s.flag FLT.STATUS.RESTARTING && !s.flag FLT.STATUS.SUP_HALTED && (s.power == 0 || s.power == 4)

/-- The SLEEP_REFUSED event (R428). -/
def sleepRefused (s : State) (aborted : Bool) : State :=
  raiseEvent s 0x0902 (toLe 1 (s.reg PWR.STATUS.LAST_REFUSER) ++ toLe 1 s.pwr.target ++ toLe 1 (b2n aborted))

/-- A wake source stops an entry into sleep (R466). -/
def abortEntry (s : State) : State :=
  let s1 := (s.setReg PWR.STATE.STATE 0).setFlag PWR.STATUS.ABORTED true
  sleepRefused (s1.bump PWR.ABORT_COUNT.COUNT) true

/-- Wake source `src`, by its number in WAKE_SRC, was selected by PWR_SLEEP (R464, R467). -/
def wakeSelected (s : State) (src : Nat) : Bool := decide (1 ≤ src ∧ src ≤ 3) && bit s.pwr.sources (src - 1)

/-- The device starts to wake from sleep state `from_` (R467). From DEEP it takes the cold-boot path (R576). -/
def startWake (s : State) (src : Nat) : State :=
  let st := s.power
  let s1 := (s.setReg PWR.STATE.STATE 5).setReg PWR.STATE.WAKE_SRC src
  let s2 := { s1 with pwr := { s1.pwr with wakeFrom := st, repeats := 0, coreEn := true } }
  if st = 3 then
    { s2 with boot := { s2.boot with cold := true }, lt := 0, synced := false }.setReg SYS.RESET_CAUSE.CAUSE 3
  else s2

/-- Wake source `src` fires: it aborts an entry, wakes a sleeping device if it was selected, and does nothing else. In LANDING a
mailbox ring, 4, wakes whatever was selected, and the wake port, 1, changes no state (R395, R466, R467). -/
def wakeBy (s : State) (src : Nat) : State :=
  match s.power with
  | 4 => if wakeSelected s src then abortEntry s else s
  | 1 => if (src ≠ 1 ∧ wakeSelected s src = true) ∨ src = 4 then startWake s src else s
  | 2 | 3 => if wakeSelected s src then startWake s src else s
  | _ => s

end Sys2Proof.Machine
end

