-- ==== Sys2Proof/Machine/Pixel.lean ====
section
/-! DEFINITION. Pixel.lean: scan modes, the pixel cell's output, trim-mask writes, the swap and the governor
(02_pixel_array_and_drive.md, 03_scan_modes_and_frame_timing.md). -/

namespace Sys2Proof.Machine

/-! ### Modes -/

/-- Frame length F of mode `m` in CLK_PIX cycles (R83). -/
def modeF : Nat → Nat
  | 0 => 10000000
  | 1 => 5000000
  | 2 => 2500000
  | 3 => 1250000
  | 4 => 5000000
  | 5 => 20000000
  | 6 => 5000000
  | _ => 20000000

/-- The active mode (R94, R114). -/
def State.mode (s : State) : Nat := s.actReg SCAN.MODE.MODE

/-- Frame period of mode `m` in thirds of a lamp-time tick: F cycles span 2F/3 ticks (R90). -/
def modeThirds (m : Nat) : Nat := 2 * modeF m

/-- Counts per PWM period: 2048 for 11-bit codes, 4096 otherwise (R36). -/
def pwmN (n11 : Bool) : Nat := if n11 then 2048 else 4096

/-- Row-group phase step φ (R36). -/
def pwmPhi (n11 : Bool) : Nat := if n11 then 128 else 256

/-- The active mode runs 11-bit codes (R37). -/
def State.modeN11 (s : State) : Bool := s.mode == 4

/-- The zone of pixel (c, r). -/
def zoneOf (c r : Nat) : Nat := 8 * (r / 128) + c / 128

/-- IREF_Z in force, codes above 250 acting as 250 (R32). -/
def State.iref (s : State) (z : Nat) : Nat := min 250 (s.actReg (SCAN.IREF z))

/-! ### The pixel cell -/

/-- (C - φ g) mod N for row group `g` in its own width (R36). -/
def State.groupCount (s : State) (g : Nat) : Nat :=
  let n := pwmN (s.group g).n11
  (s.scan.gs / 125 + n * 16 - pwmPhi (s.group g).n11 * g) % n

/-- The fallback bit in use: the loaded plane where it lights, otherwise the ROM pattern, rows 430 to 1023 (R54, R55, R249). -/
def State.fbBit (s : State) (c r : Nat) : Bool :=
  if fbLoaded s then planeGet 0 s.pix.fb c r != 0 else decide (430 ≤ r)

/-- Fallback current of a lit pixel in nA (R52). -/
def State.ifb (s : State) : Nat :=
  let i := s.reg SCAN.IFB_STATUS.IFB_NA
  if fbHalf s then i / 2 else i

/-- Peak PWM current of pixel (c, r) in nA: the units its trim mask selects, nominally (R33). -/
def State.peakNa (s : State) (c r : Nat) : Nat :=
  popcount8 (planeGet 0 s.pix.trim c r) * s.iref (zoneOf c r) * 100

/-- The pixel output function, in its order of priority (R51). -/
def State.pixelOut (s : State) (c r : Nat) : PixelOut :=
  let g := s.group (r / 64)
  if s.thm.trip then .off
  else if g.drive = .fallback then (if s.fbBit c r then .dc s.ifb else .off)
  else if planeGet 0 s.pix.blank c r ≠ 0 then .off
  else if g.drive = .pwm ∧ g.gap = false ∧ s.groupCount (r / 64) < planeGet 0 s.pix.front c r
      ∧ ¬ (s.cal.darkRow = some r ∧ s.groupCount (r / 64) < 154) then .pwm (s.peakNa c r)
  else .off

/-! ### Cell configuration path -/

/-- A mask with 7 or 8 bits set is replaced by 0x00 (R30). -/
def cellMask (m : Nat) : Nat := if 6 < popcount8 m then 0 else m % 256

/-- `n` detections of one source: the counter advances by `n` and one request is placed or merged (R532). -/
def raiseFaultN (s : State) (src cls n : Nat) : State :=
  if n = 0 then s else raiseFault (s.bumpBy (FLT.COUNT.COUNT src) (n - 1)) src cls

/-- A row of trim masks written; it takes effect at the row group's next period start (R29). Each replaced mask is one
detection of source 48 (R30). -/
def writeTrimRow (s : State) (r : Nat) (masks : List Nat) : State :=
  let bad := masks.countP (fun m => decide (6 < popcount8 m))
  let s1 := { s with pix := { s.pix with trimDue := sparseSet [] s.pix.trimDue r (masks.map cellMask) } }
  raiseFaultN (s1.bumpBy DIAG.TRIM_REJ.COUNT bad) 48 1 bad

/-- The masks that row `r` will have once its pending write applies. -/
def State.trimRow (s : State) (r : Nat) : List Nat :=
  match sparseGet [] s.pix.trimDue r with
  | [] => planeRow 0 s.pix.trim r
  | v => v

/-- One pixel's trim mask written. -/
def writeTrim (s : State) (c r m : Nat) : State := writeTrimRow s r ((s.trimRow r).set c m)

/-- Pending mask rows of group `g` take effect (R29). -/
def applyTrim (s : State) (g : Nat) : State :=
  let due := s.pix.trimDue.filter (fun p => p.1 / 64 == g)
  { s with pix := { s.pix with
      trim := due.foldl (fun t p => planeSetRow 0 t p.1 p.2) s.pix.trim,
      trimDue := s.pix.trimDue.filter (fun p => p.1 / 64 != g) } }

/-! ### The swap -/

/-- The 64 rows of group `g`. -/
def groupRows (g : Nat) : List Nat := (List.range 64).map (fun i => 64 * g + i)

/-- Rows of the hold area that belong to group `g` are written to the back latches and leave it (R42). -/
def drainHold (s : State) (g : Nat) : State :=
  let due := s.scan.hold.filter (fun p => p.1 / 64 == g)
  { s with
    pix := { s.pix with back := due.foldl (fun t p => planeSetRow 0 t p.1 p.2) s.pix.back }
    scan := { s.scan with hold := s.scan.hold.filter (fun p => p.1 / 64 != g) } }

/-- A frame that lights becomes the reference of the flux and centroid limits (R238). -/
def takeRef (s : State) : State :=
  match s.guard.cand with
  | some x => ({ s with guard := { s.guard with ref := x, cand := none } }.setReg SAFE.FLUX.F_REF x.1).setReg SAFE.CENTROID.C_REF
      (if x.1 = 0 then 0 else 16 * x.2 / x.1)
  | none => s

/-- Group `g` copies its back latches to its front latches as one action (R39). It lights PWM unless the fallback beam is
still required (R44); a frame that lights becomes the Guard's reference (R238). -/
def swapGroup (s : State) (g : Nat) : State :=
  let front := (groupRows g).foldl (fun t r => planeSetRow 0 t r (planeRow 0 s.pix.back r)) s.pix.front
  let gr := s.group g
  let d : Drive := if gr.drive = .fallback ∧ fbActive s = true then .fallback else .pwm
  let n := if s.stats.swapOpen then s.stats.swapped + 1 else s.stats.swapped
  let s1 := { s with pix := { s.pix with front := front }, stats := { s.stats with swapped := n, swapOpen := false } }
  let s2 := s1.setGroup g { gr with drive := d, n11 := s.scan.swapN11, hasFrame := true, swapDue := false, gap := false }
  let s3 := s2.orReg SCAN.SWAP_STATUS.GRP_SWAPPED (2 ^ g)
  drainHold (if d = .pwm then takeRef s3 else s3) g

/-- Group `g` goes dark and its front latches read 0 (R92). -/
def darkenGroup (s : State) (g : Nat) : State :=
  let front := (groupRows g).foldl (fun t r => planeSetRow 0 t r []) s.pix.front
  let gr := s.group g
  let d : Drive := if gr.drive = .fallback then .fallback else .dark
  { s with pix := { s.pix with front := front } }.setGroup g ⟨d, false, false, false, false, false⟩

/-- The swap part of a period start of group `g` (R39, R92, R95): the group goes dark if it must, starts the dark interval of a
width change, or swaps; pending trim masks take effect (R29). The counter stands at the group's period start (R36). -/
def groupPeriod (s : State) (g : Nat) : State :=
  let gr := s.group g
  let n11 := if gr.gap || !gr.hasFrame then s.scan.swapN11 else gr.n11
  let base := if n11 ∧ 2048 * 125 ≤ s.scan.gs then 2048 else 0
  let s1 := applyTrim { s with scan := { s.scan with gs := (base + pwmPhi n11 * g) * 125 } } g
  if gr.darkDue then darkenGroup s1 g
  else if gr.swapDue then
    if gr.hasFrame ∧ gr.gap = false ∧ gr.n11 ≠ s.scan.swapN11 then s1.setGroup g { gr with gap := true }
    else swapGroup s1 g
  else s1

/-! ### Governor -/

/-- Thermal derating F of a zone at T4 quarter degrees (R58), with the fields of R74 at their nearest limits. -/
def derateBy (knee slope floor : Nat) (t4 : Int) : Nat :=
  if t4 ≤ 4 * knee then 4096
  else
    let loss := slope * (t4 - 4 * knee).toNat
    4096 * max (40 * floor) (4000 - loss) / 4000

/-- The orthogonal neighbour zones of zone `z`, 8 by 8 (R28, R482). -/
def zoneNeighbours (z : Nat) : List Nat :=
  (if 8 ≤ z then [z - 8] else []) ++ (if z < 56 then [z + 8] else [])
  ++ (if z % 8 = 0 then [] else [z - 1]) ++ (if z % 8 = 7 then [] else [z + 1])

/-- A sensor's reading, 0.25 °C (R493). -/
def sensorT4 (s : State) (i : Nat) : Int := sext 12 (s.reg (THM.ZONE.T i))

/-- The temperature that derates zone `z`: its own sensor's; for a failed sensor the hottest good orthogonal neighbour's, or TJ
without one (R482). -/
def zoneT4 (s : State) (z : Nat) : Int :=
  if s.thm.failed.getD z false then
    match (zoneNeighbours z).filter (fun n => !s.thm.failed.getD n false) with
    | [] => sext 12 (s.reg THM.STATUS.TJ)
    | n :: t => t.foldl (fun m k => max m (sensorT4 s k)) (sensorT4 s n)
  else sensorT4 s z

/-- Derating of zone `z` from its temperature in force (R60, R480). -/
def State.derate (s : State) (z : Nat) : Nat :=
  derateBy (s.regIn SCAN.DR_CFG.KNEE 60 140) (s.regIn SCAN.DR_CFG.SLOPE 5 100) (s.regIn SCAN.DR_CFG.FLOOR 10 100) (zoneT4 s z)

/-- A zone's demand in µA: Σ popcount × I_unit × D / N of the frame just loaded (R57). -/
def State.demandUa (s : State) (z : Nat) : Nat :=
  s.scan.demandAcc.getD z 0 / (10 * pwmN s.scan.loadN11)

/-- The governor at a frame start: G falls at once and rises by at most RISE; S_z = G × F / 4096 (R58, R72, R73). -/
def governor (s : State) : State :=
  let zs := List.range 64
  let f := zs.map s.derate
  let demand := zs.map s.demandUa
  let demandF := sumNat (zs.map (fun z => demand.getD z 0 * f.getD z 0 / 4096))
  let budget := min 12000 (s.actReg SCAN.GOV_BUDGET.BUDGET_MA)
  let fit := if demandF = 0 then 4096 else min 4096 (budget * 1000 * 4096 / demandF)
  let g0 := s.reg SCAN.GOV_STATUS.G
  let g := if fit < g0 then fit else min fit (g0 + s.reg SCAN.GOV_RATE.RISE)
  let sc := f.map (fun x => g * x / 4096)
  let pred := sumNat (zs.map (fun z => demand.getD z 0 * sc.getD z 0 / 4096))
  let s1 := (s.setReg SCAN.GOV_STATUS.G g).setFlag SCAN.GOV_STATUS.LIMITING (decide (g < 4096))
  let s2 := s1.setFlag SCAN.GOV_STATUS.DERATING (f.any (fun x => decide (x < 4096)))
  let s3 := (s2.setReg SCAN.GOV_PRED.PRED_MA (min 65535 (pred / 1000))).setReg SCAN.GOV_PRED.DEMAND_MA
    (min 65535 (sumNat demand / 1000))
  { s3 with scan := { s3.scan with scale := sc, demandAcc := List.replicate 64 0 } }

end Sys2Proof.Machine
end

