-- ==== Sys2Proof/Machine/Compose.lean ====
section
/-! DEFINITION. Compose.lean: the per-pixel pipeline, steps 1 to 9 (R119), exactly as 04_gallery_composition.md states its
arithmetic. -/

namespace Sys2Proof.Machine

/-! ### Layer parameters (active copies) -/

/-- Side of the composed area in layer coordinates: 512 logical pixels in M3 (R121). -/
def State.side (s : State) : Nat := if s.mode = 3 then 512 else 1024

/-- Slot `n` is enabled; slot 0 always is (R123). -/
def layerOn (s : State) (n : Nat) : Bool := n == 0 || s.actFlag (GAL.L.CTRL.EN n)

def layerX (s : State) (n : Nat) : Int := if n = 0 then 0 else sext 12 (s.actReg (GAL.L.POS.X n))

def layerY (s : State) (n : Nat) : Int := if n = 0 then 0 else sext 12 (s.actReg (GAL.L.POS.Y n))

def layerW (s : State) (n : Nat) : Nat := if n = 0 then s.side else s.actReg (GAL.L.SIZE.W n)

def layerH (s : State) (n : Nat) : Nat := if n = 0 then s.side else s.actReg (GAL.L.SIZE.H n)

def layerFmt (s : State) (n : Nat) : Nat := s.actReg (GAL.L.CTRL.FORMAT n)

def layerBlend (s : State) (n : Nat) : Nat := if n = 0 then 0 else s.actReg (GAL.L.CTRL.BLEND n)

/-- Row pitch in bytes (R129, R162). -/
def layerStride (s : State) (n : Nat) : Nat := 64 * s.actReg (GAL.L.STRIDE.STRIDE n)

/-- Active buffer address (R162). -/
def layerAddr (s : State) (n : Nat) : Nat :=
  64 * (s.reg (GAL.L.ADDR_HI.ADDR n) * 2 ^ 26 + s.reg (GAL.L.ADDR_LO.ADDR n))

/-- Row bytes of a layer `w` wide in format `fmt` (R128, R129). -/
def rowBytes (fmt w : Nat) : Nat :=
  if fmt = 5 then (w + 7) / 8 else if fmt = 2 ∨ fmt = 4 then w else 2 * w

/-- Bytes from the buffer's start to its end (R126). -/
def layerSpan (s : State) (n : Nat) : Nat :=
  (layerH s n - 1) * layerStride s n + rowBytes (layerFmt s n) (layerW s n)

/-- First and last row of the active area in layer coordinates (R85). -/
def State.topRow (s : State) : Nat := if s.mode = 6 then 192 else 0
def State.endRow (s : State) : Nat := if s.mode = 6 then 832 else s.side

/-- The parameters of slot `n` meet R126. -/
def layerValid (s : State) (n : Nat) : Bool :=
  decide (1 ≤ layerW s n) && decide (1 ≤ layerH s n)
  && decide (layerFmt s n ≤ 5) && (n != 0 || decide (layerFmt s n ≤ 2)) && decide (layerBlend s n ≤ 4)
  && decide (rowBytes (layerFmt s n) (layerW s n) ≤ layerStride s n)
  && decide (layerAddr s n + layerSpan s n ≤ s.dramSize)
  && (!s.actFlag (GAL.L.CTRL.SAFETY n) ||
      (decide (0 ≤ layerX s n) && decide (layerX s n + layerW s n ≤ s.side)
        && decide ((s.topRow : Int) ≤ layerY s n) && decide (layerY s n + layerH s n ≤ s.endRow)))

/-- Slot `n` takes part in composition in this frame: enabled, valid at the frame start and not dropped (R126, R146). -/
def layerUsed (s : State) (n : Nat) : Bool :=
  layerOn s n && !bit (s.reg GAL.STATUS.PARAM_ERR) n && !bit (s.reg GAL.SAFE_STATUS.DROPPED) n

/-! ### Steps 1 and 2 -/

/-- Entry `i` of LUT table `t` (R134). -/
def lutEntry (s : State) (t i : Nat) : Nat := sparseGet 0 s.gal.lut (t * 8192 + i)

/-- Interpolation of a pre-LUT for L16 (R131), over the entries `e`. -/
def preInterp (e : Nat → Nat) (x : Nat) : Nat :=
  let i := x / 16
  let a : Int := e i
  let b : Int := e (min 4095 (i + 1))
  (a + ((b - a) * ((x % 16 : Nat) : Int) + 8) / 16).toNat

/-- Step 2: intensity s from the stored value (R130), with the slot's pre-LUT `e`. -/
def preValue (fmt : Nat) (lutOn : Bool) (e : Nat → Nat) (constI x : Nat) : Nat :=
  match fmt with
  | 0 => if lutOn then preInterp e x else x
  | 1 => let v := x % 4096
         if lutOn then e v else v * 16 ||| v / 256
  | 2 => if lutOn then e x else x * 257
  | 3 => if lutOn then e (x % 256) else x % 256 * 257
  | _ => constI

/-- Step 2: alpha a (R132) from the pixel's own alpha. -/
def pixelAlpha (fmt ca x : Nat) : Nat :=
  match fmt with
  | 3 => (x / 256 * ca + 127) / 255
  | 4 => (x * ca + 127) / 255
  | 5 => if x = 0 then 0 else ca
  | _ => ca

/-- The stored value of layer pixel (u, v) of slot `n` (R128, R129): 16 bits, 8 bits or one bit. -/
def layerStored (s : State) (n u v : Nat) : Nat :=
  let row := layerAddr s n + v * layerStride s n
  match layerFmt s n with
  | 2 => (s.dramByte (row + u)).toNat
  | 4 => (s.dramByte (row + u)).toNat
  | 5 => b2n (bit (s.dramByte (row + u / 8)).toNat (u % 8))
  | _ => (s.dramByte (row + 2 * u)).toNat + 256 * (s.dramByte (row + 2 * u + 1)).toNat

/-- The pre-LUT table in use for slot `n` (R134). -/
def preTable (s : State) (n : Nat) : Nat := 2 * n + b2n (bit (s.actReg GAL.LUT_SEL.PRE_B) n)

/-- Intensity and alpha of layer pixel (u, v) of slot `n`. -/
def layerPixel (s : State) (n u v : Nat) : Nat × Nat :=
  let x := layerStored s n u v
  (preValue (layerFmt s n) (s.actFlag (GAL.L.CTRL.PRE_LUT_EN n)) (lutEntry s (preTable s n))
      (s.actReg (GAL.L.CONST_I.CONST_I n)) x,
    pixelAlpha (layerFmt s n) (s.actReg (GAL.L.CTRL.CA n)) x)

/-! ### Steps 4 to 6 -/

/-- The mode result r of a user layer (R136). -/
def blendMode (b sv d : Nat) : Nat :=
  match b with
  | 0 => sv
  | 1 => (sv * d + 32767) / 65535
  | 2 => max sv d
  | 3 => min sv d
  | _ => min 65535 (sv + d)

/-- One user layer applied to d (R136). -/
def blendOne (b sv a d : Nat) : Nat := (blendMode b sv d * a + d * (255 - a) + 127) / 255

/-- Slot `n` applied to d at composed pixel (x, y): a pixel it does not cover leaves d (R125, R135). -/
def blendSlot (s : State) (x y d n : Nat) : Nat :=
  let u := (x : Int) - layerX s n
  let v := (y : Int) - layerY s n
  if layerUsed s n ∧ 0 ≤ u ∧ u < layerW s n ∧ 0 ≤ v ∧ v < layerH s n then
    let p := layerPixel s n u.toNat v.toNat
    if n = 0 then p.1 else blendOne (layerBlend s n) p.1 p.2 d
  else d

/-- Step 4: d after slots 0 to 6; a slot 0 that fails R126 or is dropped starts d at 0 (R126, R146). -/
def blendAll (s : State) (x y : Nat) : Nat :=
  (List.range 7).foldl (blendSlot s x y) 0

/-- Step 5: the shadow multiply (R137). -/
def shadowMul (d m : Nat) : Nat := (d * m + 32767) / 65535

/-- The soft-mask value of composed pixel (x, y); 65,535 while the shadow engine is off (R178, R187). -/
def softMask (s : State) (x y : Nat) : Nat :=
  if s.flag SHD.CTRL.EN then (sparseGet [] s.shd.soft y).getD x 65535 else 65535

/-- Step 6: the post-LUT over the entries `e` (R133). -/
def postCode (e : Nat → Nat) (n d : Nat) : Nat :=
  let i := d / 64
  let a : Int := e i
  let b : Int := e (i + 1)
  min (n - 1) ((a * 64 + (b - a) * ((d % 64 : Nat) : Int) + 512) / 1024).toNat

/-- The post-LUT table in use (R134). -/
def postTable (s : State) : Nat := 14 + s.actReg GAL.LUT_SEL.POST_B

/-- The codes of composed row `y` after step 6. A frame of undefined content takes free values (R143). -/
def codes6 (s : State) (y : Nat) : List Nat :=
  let n := pwmN s.modeN11
  (List.range s.side).map (fun x =>
    if s.gal.contentOpen then min (n - 1) (Config.openCode s.free x y)
    else postCode (lutEntry s (postTable s)) n (shadowMul (blendAll s x y) (softMask s x y)))

/-! ### Steps 7 and 8 -/

/-- Pixel (c, r) is an entry of the healing table in force. -/
def healEntry (s : State) (c r : Nat) : Option MapEntry :=
  s.diag.heal.find? (fun e => e.col == c && e.row == r)

/-- The gain of pixel (c, r), or in M3 the binned gain of logical pixel (c, r) (R300, R301). -/
def gainOf (s : State) (c r : Nat) : Nat :=
  if s.mode = 3 then
    let four := [(2 * c, 2 * r), (2 * c + 1, 2 * r), (2 * c, 2 * r + 1), (2 * c + 1, 2 * r + 1)]
    let live := four.filter (fun p => (healEntry s p.1 p.2).isNone)
    if live.length = 0 then 8192
    else (sumNat (live.map (fun p => planeGet 8192 s.cal.gain p.1 p.2)) + live.length / 2) / live.length
  else planeGet 8192 s.cal.gain c r

/-- Step 7 on one code (R120, R300). -/
def gainCode (n d g : Nat) : Nat := min (n - 1) ((d * g + 4096) / 8192)

/-- The codes of composed row `y` after step 7; rows outside the active area carry code 0 (R85, R286). -/
def codes7 (s : State) (y : Nat) : List Nat :=
  if s.topRow ≤ y ∧ y < s.endRow then
    (codes6 s y).mapIdx (fun x d => gainCode (pwmN s.modeN11) d (gainOf s x y))
  else List.replicate s.side 0

/-- The orthogonal neighbours of (c, r) inside the array, in M6 inside rows 192 to 831 (R284). -/
def orthNeighbours (s : State) (c r : Nat) : List (Nat × Nat) :=
  (if 0 < c then [(c - 1, r)] else []) ++ (if c < 1023 then [(c + 1, r)] else [])
  ++ (if s.topRow < r then [(c, r - 1)] else []) ++ (if r + 1 < s.endRow then [(c, r + 1)] else [])

/-- The share that the mapped pixel (c, r) with code `d` gives each live neighbour (R284); 0 with HEAL_EN at 0 (R287). -/
def healShare (s : State) (c r d : Nat) : Nat :=
  let k := (orthNeighbours s c r).countP (fun p => (healEntry s p.1 p.2).isNone)
  match healEntry s c r with
  | some e => if e.noheal || k == 0 || !s.flag DIAG.CTRL.HEAL_EN then 0 else (d + k / 2) / k
  | none => 0

/-- Step 8 of pixel (c, r) outside M3, over the step-7 codes of rows r - 1, r and r + 1 (R284, R287, R290). -/
def heal8 (s : State) (above here below : List Nat) (r c d : Nat) : Nat :=
  if (healEntry s c r).isSome then 0
  else if s.diag.unmapped.contains (c, r) then 0
  else
    let code (p : Nat × Nat) : Nat :=
      (if p.2 < r then above else if r < p.2 then below else here).getD p.1 0
    let gain := sumNat ((orthNeighbours s c r).map (fun p => healShare s p.1 p.2 (code p)))
    min (pwmN s.modeN11 - 1) (d + gain)

/-- Step 8 of logical pixel (x, y) in M3 (R285). -/
def heal8Binned (s : State) (y x d : Nat) : Nat :=
  let four := [(2 * x, 2 * y), (2 * x + 1, 2 * y), (2 * x, 2 * y + 1), (2 * x + 1, 2 * y + 1)]
  let es := four.filterMap (fun p => healEntry s p.1 p.2)
  let j := es.length
  if j = 0 ∨ j = 4 ∨ es.any (·.noheal) = true ∨ s.flag DIAG.CTRL.HEAL_EN = false then d
  else min 4095 ((d * 4 + (4 - j) / 2) / (4 - j))

/-- The codes of physical row `r` after step 8: 1024 codes. In M3 both physical rows of a logical row take its codes, each
code twice (R38, R84). -/
def codes8 (s : State) (r : Nat) : List Nat :=
  if s.mode = 3 then
    ((codes7 s (r / 2)).mapIdx (heal8Binned s (r / 2))).flatMap (fun d => [d, d])
  else if s.topRow ≤ r ∧ r < s.endRow then
    let above := if r = 0 then List.replicate 1024 0 else codes7 s (r - 1)
    let here := codes7 s r
    let below := codes7 s (r + 1)
    here.mapIdx (heal8 s above here below r)
  else List.replicate 1024 0

/-! ### Step 9 -/

/-- Step 9 on one code (R59). -/
def scaleCode (d sz : Nat) : Nat := (d * sz + 2048) / 4096

/-- The codes of physical row `r` after step 9, from its step-8 codes. -/
def codes9 (s : State) (r : Nat) (row8 : List Nat) : List Nat :=
  row8.mapIdx (fun c d => scaleCode d (s.scan.scale.getD (zoneOf c r) 4096))

/-- The demand of row `r` added to the zones' accumulators (R57). -/
def addDemand (s : State) (r : Nat) (row8 : List Nat) : State :=
  let term (c : Nat) : Nat := popcount8 (planeGet 0 s.pix.trim c r) * s.iref (zoneOf c r) * row8.getD c 0
  let per (zc : Nat) : Nat := sumNat ((List.range 128).map (fun i => term (128 * zc + i)))
  let acc := (List.range 8).foldl
    (fun (a : List Nat) zc => a.set (8 * (r / 128) + zc) (a.getD (8 * (r / 128) + zc) 0 + per zc)) s.scan.demandAcc
  { s with scan := { s.scan with demandAcc := acc } }

end Sys2Proof.Machine
end

