-- ==== Sys2Proof/Machine/Guard.lean ====
section
/-! DEFINITION. Guard.lean: the Guard's sums, limits and verdict, the swap gate, the seal, the SAFE record comparison and the
fallback causes (07_safety_functions.md). -/

namespace Sys2Proof.Machine

/-! ### The seal (R257 to R261) -/

/-- The level of a strap; an invalid pad reads as 0 (R257). -/
def strapLevel : Strap → Nat
  | .level l => l.val
  | .invalid => 0

/-- The strap word: the level of SEAL_Sk in bits [2k + 1:2k] (R258). -/
def strapWord (pads : List Strap) : Nat :=
  sumNat ((List.range 6).map (fun k => strapLevel (pads.getD k .invalid) * 4 ^ k))

/-- Entry (C_MIN, C_MAX) `k` of a slot's SWIVEL (R259). -/
def sealSwivel (b : List Byte) (k : Nat) : Nat × Nat := (leAt b (0x20 + 4 * k) 2, leAt b (0x22 + 4 * k) 2)

/-- Envelope row of class `k` and segment `t` of a slot (R259). -/
def sealEnv (b : List Byte) (k t : Nat) : Nat := leAt b (0x40 + 64 * k + 2 * t) 2

/-- ALLOW of class `k` of a slot. -/
def sealAllow (b : List Byte) (k : Nat) : Nat := leAt b (0x30 + 4 * k) 4

/-- Glare-zone field: bound `i` (0 C0, 1 C1, 2 R0, 3 R1) of zone `j`. -/
def sealBound (b : List Byte) (j i : Nat) : Nat := leAt b (0x140 + 24 * j + 2 * i) 2

/-- Limit L_j of class `k` of zone `j`. -/
def sealLimit (b : List Byte) (j k : Nat) : Nat := leAt b (0x148 + 24 * j + 4 * k) 4

/-- The fold value of a seal slot: the XOR of the serial number's halves (R259). -/
def serialFold : Word := Config.serial.setWidth 32 ^^^ (Config.serial >>> 32).setWidth 32

/-- Every field of a slot lies in its stated range (R259). -/
def sealInRange (b : List Byte) : Bool :=
  let w := leAt b 8 1
  let l := leAt b 9 1
  let z := leAt b 10 1
  decide (1 ≤ w ∧ w ≤ 50) && decide (1 ≤ l ∧ l ≤ 15) && decide (z ≤ 16)
  && (List.range z).all (fun j =>
      decide (sealBound b j 0 ≤ sealBound b j 1 ∧ sealBound b j 1 ≤ 1023)
      && decide (sealBound b j 2 ≤ sealBound b j 3 ∧ sealBound b j 3 ≤ 1023))
  && (List.range 4).all (fun k => decide ((sealSwivel b k).1 ≤ (sealSwivel b k).2 ∧ (sealSwivel b k).2 ≤ 16368))
  && (List.range 128).all (fun i => decide (sealEnv b (i / 32) (i % 32) ≤ 1024))

/-- A slot is valid: its CHECK passes, its MAGIC matches and its fields are in range (R259). -/
def sealValid (b : List Byte) : Bool :=
  (leAt b 0x3FC 4 == (crc32c serialFold (bytesAt b 0 0x3FC)).toNat) && (leAt b 0 4 == 0x4C414553) && sealInRange b

/-- The narrowest swivel entry, the lowest-numbered on a tie (R615). -/
def narrowest (b : List Byte) : Nat × Nat :=
  ((List.range 4).map (sealSwivel b)).foldl
    (fun (m : Nat × Nat) e => if e.2 - e.1 < m.2 - m.1 then e else m) (sealSwivel b 0)

/-- The limits a slot gives with its fields SLR, window and block limit; broken or sealed under straps `st` (R260, R615). -/
def slotLimits (n : Nat) (b : List Byte) (st : List Strap) (broken : Bool) : Limits :=
  let lev (k : Nat) : Nat := strapLevel (st.getD k .invalid)
  let left := lev 0 == 1
  let zones := List.range (leAt b 10 1)
  let mir (c : Nat) : Nat := 1023 - c
  let rect (j : Nat) (m : Bool) (l : Nat) : Rect :=
    { zone := j, c0 := if m then mir (sealBound b j 1) else sealBound b j 0,
      c1 := if m then mir (sealBound b j 0) else sealBound b j 1, r0 := sealBound b j 2, r1 := sealBound b j 3, limit := l }
  let minOf (f : Nat → Nat) : Nat := min (min (f 0) (f 1)) (min (f 2) (f 3))
  let base : Limits := { Limits.rom with
    noSlot := false, slot := n, riseRel := leAt b 0xC 2, centRate := leAt b 0xE 2, riseAbs := leAt b 0x10 4,
    fbRef := leAt b 0x14 4, centMin := leAt b 0x18 4, windowMax := leAt b 8 1, blockLimit := leAt b 9 1 }
  if broken then
    let e := narrowest b
    let lo := max e.1 (16368 - e.2)
    let hi := min e.2 (16368 - e.1)
    { base with
      rects := zones.flatMap (fun j => [rect j false (minOf (sealLimit b j)), rect j true (minOf (sealLimit b j))])
      env := (List.range 32).map (fun t =>
        (List.range 4).foldl (fun m k => max m (max (sealEnv b k t) (sealEnv b k (31 - t)))) 0)
      allow := minOf (sealAllow b)
      cMin := if lo ≤ hi then lo else 6184
      cMax := if lo ≤ hi then hi else 10184 }
  else
    let sw := sealSwivel b (lev 2)
    { base with
      broken := false, left := left, glareClass := lev 1, swivel := lev 2, cutoff := lev 3, fbSel := lev 4
      rects := zones.map (fun j => rect j left (sealLimit b j (lev 1)))
      env := (List.range 32).map (fun t => sealEnv b (lev 3) (if left then 31 - t else t))
      allow := sealAllow b (lev 3)
      cMin := if left then 16368 - sw.2 else sw.1
      cMax := if left then 16368 - sw.1 else sw.2 }

/-- The slot in force: the highest-numbered programmed one (R259). -/
def slotInForce (s : State) : Option (Nat × List Byte) := s.guard.otp.getLast?

/-- The straps themselves break the seal of slot bytes `b`: a pad invalid, the strap word different, or a traffic side of 2 or 3
(R260). -/
def strapsBreak (st : List Strap) (b : List Byte) : Bool :=
  st.any (· == .invalid) || strapWord st != leAt b 4 2 % 4096 || decide (2 ≤ strapLevel (st.getD 0 .invalid))

/-- The limits in force from the OTP and the straps; `force` breaks the seal in any case (R260). -/
def limitsOf (s : State) (force : Bool) : Limits :=
  match slotInForce s with
  | none => Limits.rom
  | some (n, b) =>
    if sealValid b then slotLimits n b s.guard.straps (force || strapsBreak s.guard.straps b)
    else { Limits.rom with slot := n }

/-- The number SAFE.SEAL.SLOT shows. -/
def slotShown (s : State) : Nat :=
  match slotInForce s with
  | some (n, _) => n
  | none => Config.noSlotNumber

/-- The window in force, ms: what the host set, from 1 to the sealed maximum (R256). -/
def State.windowMs (s : State) : Nat := clampN 1 s.guard.limits.windowMax s.guard.window

/-- New limits come into force and the SAFE registers show them (R268, R269). -/
def applyLimits (s : State) (l : Limits) : State :=
  let s1 := { s with guard := { s.guard with limits := l } }
  let s2 := (s1.setFlag SAFE.STATUS.SEAL_BROKEN l.broken).setFlag SAFE.EFFECTIVE.CONSERVATIVE l.broken
  let s3 := (s2.setFlag SAFE.EFFECTIVE.LEFT l.left).setReg SAFE.EFFECTIVE.GLARE_CLASS l.glareClass
  let s4 := (s3.setReg SAFE.EFFECTIVE.SWIVEL l.swivel).setReg SAFE.EFFECTIVE.CUTOFF l.cutoff
  let s5 := (s4.setReg SAFE.EFFECTIVE.FB_SEL l.fbSel).setReg SAFE.EFFECTIVE.BLOCK_LIMIT l.blockLimit
  let s6 := (s5.setReg SAFE.EFFECTIVE.WINDOW_MAX l.windowMax).setFlag SAFE.SEAL.NO_SLOT l.noSlot
  (s6.setReg SAFE.SEAL.SLOT (slotShown s)).setReg SAFE.SEAL.SLOTS_FREE (16 - s.guard.otp.length)

/-- The seal breaks: broken limits, the seal event with its reason and the CONT fault (R260, R261). -/
def breakSeal (s : State) (reason : Nat) : State :=
  let s1 := applyLimits s (limitsOf s true)
  raiseFault (raiseEvent s1 0x0601 (toLe 1 reason ++ toLe 1 (slotShown s))) 11 2

/-- The seal at reset: straps read, limits chosen, a broken seal reported (R258 to R260, R269). -/
def sealAtReset (s : State) (pads : List Strap) : State :=
  let s1 := { s with guard := { s.guard with straps := pads, strapsNow := pads, breakDue := false } }
  let s2 := (s1.setReg SAFE.SEAL.STRAP (strapWord pads)).setReg SAFE.EFFECTIVE.RING_ROLE
    (strapLevel (pads.getD 5 .invalid))
  let l := limitsOf s2 false
  if l.broken then breakSeal s2 0 else applyLimits s2 l

/-- STRAP_REREAD: every second the Guard reads the straps again (R261). -/
def execStrapReread (pads : List Strap) (s : State) : Out :=
  let s0 := { s with guard := { s.guard with strapsNow := pads } }
  if strapWord pads = strapWord s.guard.straps then .next s0
  else
    let s1 := s0.setFlag SAFE.SEAL.STRAP_CHANGED true
    if s.guard.limits.broken then .next s1
    else if s.flag SCAN.CTRL.EN then .next { s1 with guard := { s1.guard with breakDue := true } }
    else .next (breakSeal s1 1)

/-! ### Permission (R236, R253 to R255) -/

/-- The effective permission mask: never with a broken seal, and only for class 1 (R236, R260). -/
def effMask (s : State) : Nat :=
  if s.guard.limits.broken then 0
  else match s.reg SAFE.STATUS.PATH_STATE with
    | 2 => if s.guard.agreedClass = 1 then s.guard.agreedMask else 0
    | 1 => if s.guard.mergedClass = 1 then s.guard.mergedMask else 0
    | _ => 0

/-- The path state changes: PATH_CHANGE and the PATH event (R265, R428). -/
def setPath (s : State) (p : Nat) : State :=
  if s.reg SAFE.STATUS.PATH_STATE = p then s
  else raiseEvent ((s.setReg SAFE.STATUS.PATH_STATE p).setFlag SAFE.STATUS.PATH_CHANGE true) 0x0602 (toLe 1 p)

/-- A trigger of R254: AGREED becomes MERGED; in WITHDRAWN the count of agreed pairs restarts (R255). -/
def mergedTrigger (s : State) : State :=
  match s.reg SAFE.STATUS.PATH_STATE with
  | 2 => setPath { s with guard := { s.guard with mergedFrames := 0 } } 1
  | 0 => { s with guard := { s.guard with withdrawnPairs := 0 } }
  | _ => s

/-- One more record accepted since the last agreed pair (R254). -/
def mergeRecord (g : Guard) (r : SafeRec) : Guard :=
  { g with mergedClass := if g.mergedClass = 1 ∧ r.cls = 1 then 1 else 0, mergedMask := g.mergedMask &&& r.mask }

/-- An agreed pair (R253, R255): its class and mask are the last agreed ones; records still waiting were accepted since. -/
def agreePair (s : State) (r : SafeRec) : State :=
  let g := { s.guard with
    agreedClass := r.cls, agreedMask := r.mask, mergedClass := if r.cls = 1 then 1 else 0, mergedMask := r.mask }
  let g2 := (g.recA ++ g.recB).foldl mergeRecord g
  let s1 := { s with guard := g2 }
  if s.reg SAFE.STATUS.PATH_STATE = 0 then
    if 1 ≤ s.guard.withdrawnPairs then setPath { s1 with guard := { g2 with withdrawnPairs := 0 } } 2
    else { s1 with guard := { g2 with withdrawnPairs := s.guard.withdrawnPairs + 1 } }
  else setPath s1 2

/-- The Guard's part of a publish point: it keeps the device's DIGEST and settles a waiting pair with it (R252, R253). -/
def guardSample (s : State) (digest : Nat) : State :=
  let s1 := { s with guard := { s.guard with digest := digest, pair := none } }
  match s.guard.pair with
  | none => s1
  | some r => if r.digest = digest then agreePair s1 r else mergedTrigger s1

/-- A frame start's part of the path state: the third consecutive one in MERGED withdraws permission (R255). -/
def pathFrameStart (s : State) : State :=
  if s.reg SAFE.STATUS.PATH_STATE = 1 then
    let n := s.guard.mergedFrames + 1
    let s1 := { s with guard := { s.guard with mergedFrames := n } }
    if 3 ≤ n then setPath { s1 with guard := { s1.guard with withdrawnPairs := 0 } } 0 else s1
  else s

/-! ### SAFE records (R250, R251) -/

/-- The last accepted SEQ of a path (false A, true B). -/
def lastSeq (s : State) (pathB : Bool) : Option Nat := if pathB then s.guard.seqB else s.guard.seqA

/-- A SEQ above the last accepted one, as a signed 32-bit difference (R251). -/
def seqAbove (last : Option Nat) (seq : Nat) : Bool :=
  match last with
  | none => true
  | some l => let d := (seq + 2 ^ 32 - l % 2 ^ 32) % 2 ^ 32
              decide (0 < d ∧ d < 2 ^ 31)

/-- Lamp times `a` and `b` differ by at most `w`. -/
def within (a b w : Nat) : Bool := decide ((ltDiff a b).natAbs ≤ w)

/-- A SAFE record passes every check of R251 on a path. -/
def safeAccepted (s : State) (pathB : Bool) (rec : List Byte) : Bool :=
  let mac := match otpKey s 2 with
    | some k => decide (bytesAt rec 0x18 8 = (cmac k (bytesAt rec 0 0x18)).take 8)
    | none => false
  let dest := leAt rec 0x14 2 % 1024
  mac && decide (rec.length = 32)
  && ((s.flag TXLA.NODE.ADDR_VALID && dest == s.reg TXLA.NODE.ADDR) || dest == 1023)
  && decide (leAt rec 0xA 1 ≤ 4) && s.synced
  && within (extend48 s.now (leAt rec 4 6)) s.now (s.windowMs * 400000)
  && seqAbove (lastSeq s pathB) (leAt rec 0 4)

/-- An accepted record meets the other path's record of equal SEQ, or waits for it (R253, R254). -/
def pairRecord (s : State) (pathB : Bool) (r : SafeRec) : State :=
  let other := if pathB then s.guard.recA else s.guard.recB
  let g := mergeRecord s.guard r
  match other.find? (fun o => o.seq == r.seq) with
  | none => { s with guard := if pathB then { g with recB := g.recB ++ [r] } else { g with recA := g.recA ++ [r] } }
  | some o =>
    let rest := other.filter (fun x => x.seq != r.seq)
    let s1 := { s with guard := if pathB then { g with recA := rest } else { g with recB := rest } }
    if within o.arrived r.arrived (s.windowMs * 400000) ∧ bytesAt o.bytes 0 0x18 = bytesAt r.bytes 0 0x18 then
      { s1 with guard := { s1.guard with pair := some r } }
    else mergedTrigger s1

/-- A SAFE record arrives on path A or B: verified and accepted, or dropped and counted (R251, R271). -/
def safeRecord (s : State) (pathB : Bool) (rec : List Byte) : State :=
  if safeAccepted s pathB rec then
    let r : SafeRec := { bytes := rec, seq := leAt rec 0 4, cls := leAt rec 0xA 1, mask := leAt rec 0xC 4,
                         digest := leAt rec 0x10 4, arrived := s.now }
    let s1 := if pathB then { s with guard := { s.guard with seqB := some r.seq } }.setReg SAFE.SEQ_B.VALUE r.seq
      else { s with guard := { s.guard with seqA := some r.seq } }.setReg SAFE.SEQ_A.VALUE r.seq
    pairRecord s1 pathB r
  else s.bump (if pathB then SAFE.REJECT_B.VALUE else SAFE.REJECT_A.VALUE)

/-- SAFE_PARTNER_TIMEOUT: the record that has waited longest finds no partner within WINDOW (R254). -/
def execSafePartnerTimeout (s : State) : Out :=
  match s.guard.recA, s.guard.recB with
  | [], [] => .next s
  | _ :: t, [] => .next (mergedTrigger { s with guard := { s.guard with recA := t } })
  | [], _ :: t => .next (mergedTrigger { s with guard := { s.guard with recB := t } })
  | a :: ta, b :: tb =>
    if a.arrived ≤ b.arrived then .next (mergedTrigger { s with guard := { s.guard with recA := ta } })
    else .next (mergedTrigger { s with guard := { s.guard with recB := tb } })

/-- AGREED_VALIDITY_END: an AGREED permission reaches WINDOW after its later arrival (R254). -/
def execAgreedValidityEnd (s : State) : Out :=
  .next (if s.reg SAFE.STATUS.PATH_STATE = 2 then mergedTrigger s else s)

/-! ### Sums and verdict (R233 to R242) -/

/-- The Guard takes the permission mask in effect at the load start (R236). -/
def takeLoadMask (s : State) : State := { s with guard := { s.guard with loadMask := effMask s } }

/-- The Guard's sums cleared for a new frame; until its load start the permission is the one at its frame start (R236). -/
def clearSums (s : State) : State :=
  { s with guard := { s.guard with
      rectSums := List.replicate s.guard.limits.rects.length 0, segSums := List.replicate 32 0, flux := 0, moment := 0,
      accBad := false, echoBad := false, loadMask := effMask s } }

/-- The codes of physical row `r` added to the Guard's sums, on a 12-bit scale (R233 to R236). -/
def guardRow (s : State) (r : Nat) (codes : List Nat) : State :=
  let k := if s.scan.loadN11 then 2 else 1
  let code (c : Nat) : Nat := k * codes.getD c 0
  let range (c0 n : Nat) : Nat := sumNat ((List.range n).map (fun i => code (c0 + i)))
  let g := s.guard
  { s with guard := { g with
      rectSums := List.zipWith (fun z v => if z.r0 ≤ r ∧ r ≤ z.r1 then v + range z.c0 (z.c1 + 1 - z.c0) else v)
        g.limits.rects g.rectSums
      segSums := g.segSums.mapIdx (fun t v => if r < g.limits.env.getD t 0 then v + range (32 * t) 32 else v)
      flux := g.flux + range 0 1024
      moment := g.moment + sumNat ((List.range 1024).map (fun c => code c * c)) } }

/-- PWM light is lit in at least one row group (R238). -/
def pwmLit (s : State) : Bool := s.scan.groups.any (fun g => g.drive == .pwm)

/-- F_ref in force: FB_REF while no PWM frame is lit (R238). -/
def fRef (s : State) : Nat := if pwmLit s then s.guard.ref.1 else s.guard.limits.fbRef

/-- SLI fails in the zone of rectangle `i`. -/
def sliZone (s : State) : Option Nat :=
  ((List.zip s.guard.limits.rects s.guard.rectSums).find? (fun p => decide (p.1.limit < p.2))).map (fun p => p.1.zone)

/-- SLC fails: the lowest segment whose permission was not effective at load start and verdict, and whose sum exceeds ALLOW. -/
def slcSeg (s : State) : Option Nat :=
  (List.range 32).find? (fun t =>
    !bit (s.guard.loadMask &&& effMask s) t && decide (s.guard.limits.allow < s.guard.segSums.getD t 0))

/-- SLS passes (R234). -/
def slsPass (s : State) : Bool :=
  s.guard.flux == 0 ||
    decide (s.guard.limits.cMin * s.guard.flux ≤ 16 * s.guard.moment
      ∧ 16 * s.guard.moment ≤ s.guard.limits.cMax * s.guard.flux)

/-- SLR passes on flux (R234). -/
def slrFluxPass (s : State) : Bool :=
  decide (s.guard.flux ≤ fRef s + max (fRef s * s.guard.limits.riseRel / 256) s.guard.limits.riseAbs)

/-- SLR passes on the centroid: |M/F - M_ref/F_ref| ≤ CENT_RATE × T_ms / 16, cross-multiplied (R234, R238). -/
def slrCentPass (s : State) : Bool :=
  let g := s.guard
  let d := ((g.moment : Int) * g.ref.1 - (g.ref.2 : Int) * g.flux).natAbs
  !pwmLit s || decide (g.flux < g.limits.centMin) || decide (fRef s < g.limits.centMin)
  || decide (d * 16 * 600000 ≤ g.limits.centRate * modeF s.mode * g.flux * g.ref.1)

/-- The verdict on the frame whose load ends: SAFE.VERDICT and whether it passes (R234, R241, R266). A Guard that has stopped
delivers none, which counts as incomplete (R17, R243). -/
def judge (s : State) : State × Bool :=
  let inc := s.guard.guardFail
  let z := sliZone s
  let e := slcSeg s
  let pass := !inc && z.isNone && e.isNone && slsPass s && slrFluxPass s && slrCentPass s
    && !s.guard.accBad && !s.guard.echoBad
  let s1 := (s.setFlag SAFE.VERDICT.PASS pass).setFlag SAFE.VERDICT.SLI_FAIL (!inc && z.isSome)
  let s2 := (s1.setFlag SAFE.VERDICT.SLC_FAIL (!inc && e.isSome)).setFlag SAFE.VERDICT.SLS_FAIL (!inc && !slsPass s)
  let s3 := (s2.setFlag SAFE.VERDICT.SLR_FLUX (!inc && !slrFluxPass s)).setFlag SAFE.VERDICT.SLR_CENT
    (!inc && !slrCentPass s)
  let s4 := (s3.setFlag SAFE.VERDICT.INCOMPLETE inc).setFlag SAFE.VERDICT.ACC_MISMATCH s.guard.accBad
  let s5 := (s4.setFlag SAFE.VERDICT.ECHO_ERR s.guard.echoBad).setReg SAFE.VERDICT.SLI_ZONE (z.getD 0)
  ((s5.setReg SAFE.VERDICT.SLC_SEG (e.getD 0)).setReg SAFE.VERDICT.FRAME s.scan.loadFrame, pass)

/-- The swap gate acts on a verdict (R41, R242): a pass lets every row group swap and resets the block count; a block is
counted and, beyond BLOCK_LIMIT, raises the BLOCK cause. -/
def swapGate (s : State) (pass : Bool) : State :=
  if pass then
    { s with
      scan := { s.scan with
        swapN11 := s.scan.loadN11, groups := s.scan.groups.map (fun g => { g with swapDue := true }) }
      guard := { s.guard with cand := some (s.guard.flux, s.guard.moment), blockRun := 0 }
      stats := { s.stats with swapOpen := true } }
  else
    let n := s.guard.blockRun + 1
    let s1 := ({ s with guard := { s.guard with blockRun := n }, stats := { s.stats with blocked := s.stats.blocked + 1 } }.setFlag SAFE.STATUS.VERDICT_FAIL true).bump
      SAFE.BLOCK_COUNT.VALUE
    if s.guard.limits.blockLimit < n then raiseCause s1 SAFE.FB_CAUSE.BLOCK else s1

/-! ### Fallback causes -/

/-- The Guard's heartbeat or oscillator fails: the GUARD cause at once and a FATAL fault (R244). -/
def guardFails (s : State) : State :=
  raiseFault (raiseCause { s with guard := { s.guard with guardFail := true } } SAFE.FB_CAUSE.GUARD) 8 3

/-- GUARD_WATCHDOG_EXPIRY: no heartbeat within 50 µs (R244). -/
def execGuardWatchdogExpiry (s : State) : Out := .next (guardFails s)

/-- GUARD_OSC_FAIL: the always-on comparison finds the oscillator failed (R244). -/
def execGuardOscFail (s : State) : Out := .next (guardFails s)

/-- GUARD_GOOD: oscillator and heartbeat are good again; the latched cause waits for the release command (R245). -/
def execGuardGood (s : State) : Out := .next { s with guard := { s.guard with guardFail := false } }

end Sys2Proof.Machine
end

