-- ==== Sys2Proof/Machine/Operands.lean ====
section
/-! DEFINITION. Operands.lean: the operand forms the commands share: register words and bit aliases (R551, R558), fence numbers and
the fields of a context record (R165). -/

namespace Sys2Proof.Machine

/-! ### Register words and bit aliases -/

/-- The bit alias address of bit `k` of the register at `a` (R558). -/
def aliasAddr (a k : Nat) : Nat := 0x20000000 + (a * 32 + k) * 4

/-- What an alias address names: the register address and the bit (R558); none outside the alias space. -/
def aliasOf (x : Nat) : Option (Nat × Nat) :=
  if 0x20000000 ≤ x ∧ x < 0x20000000 + 0x01000000 * 128 ∧ x % 4 = 0 then
    let p := (x - 0x20000000) / 4
    some (p / 32, p % 32)
  else none

/-- A block window of the map holds address `a` (R551). -/
def addrMapped (a : Nat) : Bool := decide (a < 0x150000)

/-- Value `v` of field `f` in its place in the word. -/
def inWord (f : Field) (v : Nat) : Nat := v % 2 ^ f.width * 2 ^ f.lo

/-- The part of word `w` that field `f` takes. -/
def fromWord (f : Field) (w : Word) : Nat := bits w.toNat f.lo f.width

/-- Field `f` holds bit `k` of its word. -/
def holdsBit (f : Field) (k : Nat) : Bool := decide (f.lo ≤ k ∧ k < f.lo + f.width)

/-! ### Fences -/

/-- Fence `k` has reached `v`: (FENCE - v) as a signed 32-bit value is 0 or more (R138). -/
def fenceReached (s : State) (k v : Nat) : Bool :=
  decide ((s.reg (GAL.FENCE.FENCE k) + 2 ^ 32 - v % 2 ^ 32) % 2 ^ 32 < 2 ^ 31)

/-- Fence `k` advanced by `n`, wrapping (R138). -/
def fenceAdd (s : State) (k n : Nat) : State := s.wrapBy (GAL.FENCE.FENCE k) n

/-! ### Context records (R165) -/

def Ctx.id (c : Ctx) : Nat := leAt c.raw 0 2
def Ctx.cls (c : Ctx) : Nat := leAt c.raw 2 1 % 8
def Ctx.valid (c : Ctx) : Bool := bit (leAt c.raw 3 1) 0
def Ctx.grFlag (c : Ctx) : Bool := bit (leAt c.raw 3 1) 1
def Ctx.merge (c : Ctx) : Bool := bit (leAt c.raw 3 1) 2
def Ctx.shape (c : Ctx) : Nat := bits (leAt c.raw 3 1) 3 2
def Ctx.hw (c : Ctx) : Nat := leAt c.raw 8 2
def Ctx.hh (c : Ctx) : Nat := leAt c.raw 0xA 2
def Ctx.feather (c : Ctx) : Nat := leAt c.raw 0x1C 1 % 64
def Ctx.priority (c : Ctx) : Nat := leAt c.raw 0x1D 1
def Ctx.dim (c : Ctx) : Nat := leAt c.raw 0x1E 2 % 4096
def Ctx.seq (c : Ctx) : Nat := leAt c.raw 0x38 2
def Ctx.check (c : Ctx) : Nat := leAt c.raw 0x3C 4

/-- A signed 16-bit field of the record at offset `o`. -/
def Ctx.s16 (c : Ctx) (o : Nat) : Int := sext 16 (leAt c.raw o 2)

/-- T0 in force: the replacement, or the carried T0 extended around `now` (R23, R171). -/
def Ctx.t0At (c : Ctx) (now : Nat) : Nat :=
  match c.t0 with
  | some t => t
  | none => extend48 now (leAt c.raw 0x14 6)

/-- A horizon, life or growth value: 0 selects the default, and `cap` bounds it (R165). -/
def orDefault (v cap dflt : Nat) : Nat := if v = 0 then dflt else min cap v

def Ctx.horizon (s : State) (c : Ctx) : Nat := orDefault (leAt c.raw 0x20 2) 4095 (s.reg SHD.CTX_DEF.HORIZON)
def Ctx.life (s : State) (c : Ctx) : Nat := orDefault (leAt c.raw 0x22 2) 4095 (s.reg SHD.CTX_DEF.LIFE)
def Ctx.grow (s : State) (c : Ctx) : Nat := orDefault (leAt c.raw 0x24 1) 255 (s.reg SHD.CTX_DEF.GROW)

/-- Effectively glare-relevant: GR, or its class has FORCE_GR (R172). -/
def Ctx.glare (s : State) (c : Ctx) : Bool := c.grFlag || s.flag (SHD.CLASS_CFG.FORCE_GR c.cls)

/-- The effective margin (R172). -/
def Ctx.margin (s : State) (c : Ctx) : Nat := max (leAt c.raw 0x1A 2) (s.reg (SHD.CLASS_CFG.MIN_MARGIN c.cls))

end Sys2Proof.Machine
end

