-- ==== Sys2Proof/Machine/Gallery.lean ====
section
/-! DEFINITION. Gallery.lean: COMMIT of the shadowed fields, flips, fences, LUT writes, SAFETY checks and the Kiln
(04_gallery_composition.md), and the frame aborts every cause shares. -/

namespace Sys2Proof.Machine

/-! ### Frame aborts -/

/-- The frame in load ends without a verdict: its rows are discarded and no group swaps (R100, R146, R217). Rows of a group that
still waits to swap the frame before stay, since they belong to that frame (R42). -/
def discardLoad (s : State) : State :=
  let back := s.pix.back.filter (fun p => (s.group (p.1 / 64)).swapDue)
  { s with
    scan := { s.scan with loading := false, hold := [] }
    pix := { s.pix with back := back } }

/-- An abort that FRAME_STATS counts in ABORTS (R423); nothing happens when no frame is in load. -/
def abortFrame (s : State) : State :=
  if s.scan.loading then discardLoad { s with stats := { s.stats with aborts := s.stats.aborts + 1 } } else s

/-! ### DRAM writes -/

/-- The byte ranges of two accesses meet. -/
def rangesMeet (a n b m : Nat) : Bool := decide (a < b + m ∧ b < a + n)

/-- Slots whose active buffer is used by the raster and holds a byte of the written range (R143). -/
def slotsHit (s : State) (a n : Nat) : Nat :=
  bitsOf 7 (fun i => layerUsed s i && rangesMeet (layerAddr s i) (layerSpan s i) a n)

/-- A write of the bytes `v` to DRAM at `a`: refused whole beyond the populated DRAM, with RANGE_ERR (R496). A buffer in use that is
overwritten leaves the content of the frames that use it undefined (R143). -/
def dramWrite (s : State) (a : Nat) (v : List Byte) : State :=
  if s.dramSize < a + v.length then s.setFlag DDRC.STATUS.RANGE_ERR true
  else
    let hit := if s.scan.running then slotsHit s a v.length else 0
    let s1 := s.dramPut a v
    if hit = 0 then s1
    else { s1 with gal := { s1.gal with overwritten := s1.gal.overwritten ||| hit, contentOpen := true } }

/-! ### Flips and COMMIT (R124, R127, R138 to R143) -/

/-- The fields a commit holds back while a flip of their slot is pending (R127). -/
def heldFields (n : Nat) : List Field :=
  [GAL.L.CTRL.FORMAT n, GAL.L.SIZE.W n, GAL.L.SIZE.H n, GAL.L.STRIDE.STRIDE n, GAL.L.CTRL.SAFETY n]

/-- Every shadowed field of SCAN and GAL (R68, R124). -/
def shadowedFields : List Field := (SCAN.fields ++ GAL.fields).filter (fun f => f.access == .shadowed)

/-- A field's written copy becomes its active copy. -/
def activate (s : State) (f : Field) : State := s.setAct f (s.reg f)

/-- Slot `n` has an armed flip. -/
def armed (s : State) (n : Nat) : Bool := s.flag (GAL.L.FLIP.ARM n)

/-- The armed flip of slot `n` is ready (R140). -/
def flipReady (s : State) (n : Nat) : Bool :=
  !s.flag (GAL.L.FLIP.FENCE_EN n)
    || fenceReached s (s.reg (GAL.L.FLIP.FENCE_SEL n)) (s.reg (GAL.L.FENCE_VAL.FENCE_VAL n))

/-- The armed flip of slot `n` proceeds; `group` is the atomic group in force (R140, R141). -/
def flipProceeds (s : State) (group n : Nat) : Bool :=
  armed s n && (if bit group n then
    (List.range 7).all (fun k => !(bit group k && armed s k) || flipReady s k) else flipReady s n)

/-- Held-back fields of slot `n` apply (R127). -/
def applyHeld (s : State) (n : Nat) : State :=
  match sparseGet [] s.gal.held n with
  | [] => s
  | vs => (List.zip (heldFields n) vs).foldl (fun s p => s.setAct p.1 p.2)
            { s with gal := { s.gal with held := sparseErase s.gal.held n } }

/-- A commit takes every shadowed field, except that the buffer description of the slots in `keep` is held back (R96, R127). -/
def commitFields (s : State) (keep : List Nat) : State :=
  let s1 := (shadowedFields.filter (fun f => !keep.any (fun n => (heldFields n).contains f))).foldl activate s
  { s1 with gal := { s1.gal with
      held := keep.foldl (fun m n => sparseSet [] m n ((heldFields n).map s.reg)) s1.gal.held } }

/-- A Kiln build reads the buffer of slot `n` (R142). -/
def buildReads (s : State) (n : Nat) : Bool :=
  s.flag GAL.KILN_STATUS.BUILDING && decide (n ≤ s.gal.buildPrefix) && layerOn s n

/-- A flip of slot `n`: NEXT becomes the active buffer, its check value the expected one, ARM clears, a dropped layer returns, and
the old buffer retires (R140, R142, R146). -/
def doFlip (s : State) (n : Nat) : State :=
  let s1 := (s.setReg (GAL.L.ADDR_LO.ADDR n) (s.reg (GAL.L.NEXT_LO.NEXT n))).setReg (GAL.L.ADDR_HI.ADDR n)
    (s.reg (GAL.L.NEXT_HI.NEXT n))
  let s2 := (s1.setReg (GAL.L.CRC_EXP.CRC_EXP n) (s.reg (GAL.L.NEXT_CRC.NEXT_CRC n))).setFlag (GAL.L.FLIP.ARM n) false
  let keep (v : Nat) : Nat := if bit v n then v - 2 ^ n else v
  let s3 := s2.setReg GAL.SAFE_STATUS.DROPPED (keep (s.reg GAL.SAFE_STATUS.DROPPED))
  let s4 := { s3 with gal := { s3.gal with
    overwritten := keep s.gal.overwritten, dropNext := keep s.gal.dropNext } }
  if s.flag (GAL.L.FLIP.RETIRE_EN n) then
    let k := s.reg (GAL.L.FLIP.RETIRE_SEL n)
    if buildReads s n then { s4 with gal := { s4.gal with retireDue := s4.gal.retireDue ++ [(n, k)] } }
    else fenceAdd s4 k 1
  else s4

/-! ### The Kiln (R147 to R150) -/

/-- Fields whose change counts as a change of layer `n` (R147). -/
def layerFields (n : Nat) : List Field :=
  heldFields n ++ [GAL.L.CTRL.EN n, GAL.L.CTRL.BLEND n, GAL.L.CTRL.PRE_LUT_EN n, GAL.L.CTRL.STATIC n, GAL.L.CTRL.CA n,
    GAL.L.POS.X n, GAL.L.POS.Y n, GAL.L.CONST_I.CONST_I n]

/-- Layer `n` changed between two states of one frame start (R147). -/
def layerChanged (a b : State) (flips : List Nat) (n : Nat) : Bool :=
  flips.contains n || (layerFields n).any (fun f => a.actReg f != b.actReg f)
    || bit (a.actReg GAL.LUT_SEL.PRE_B) n != bit (b.actReg GAL.LUT_SEL.PRE_B) n

/-- KILN_AGE, 0 acting as 1 (R154). -/
def State.kilnAge (s : State) : Nat := max 1 (s.reg GAL.CFG.KILN_AGE)

/-- Slot `n` qualifies for the prefix (R147). -/
def kilnFit (s : State) (n : Nat) : Bool :=
  s.actFlag (GAL.L.CTRL.STATIC n) && !s.actFlag (GAL.L.CTRL.SAFETY n) && layerValid s n
    && decide (s.kilnAge ≤ s.gal.stable.getD n 0)

/-- The Kiln prefix from slot `n` on, with the highest slot found so far (R147). -/
def prefixFrom (s : State) : List Nat → Option Nat → Option Nat
  | [], k => k
  | n :: t, k =>
    if layerOn s n then (if kilnFit s n then prefixFrom s t (some n) else k)
    else prefixFrom s t k

/-- The Kiln prefix: its highest slot, or none (R147). -/
def kilnPrefix (s : State) : Option Nat := prefixFrom s (List.range 7) none

/-- A running build is abandoned and counted (R149); deferred retires of its buffers stay due (R142). -/
def abandonBuild (s : State) : State :=
  if s.flag GAL.KILN_STATUS.BUILDING then
    (s.setFlag GAL.KILN_STATUS.BUILDING false).bump GAL.KILN_STATUS.ABANDONS
  else s

/-- Both images are discarded (R150). -/
def discardKiln (s : State) : State :=
  let s1 := { abandonBuild s with gal := { (abandonBuild s).gal with kilnReady := none } }
  s1.setFlag GAL.KILN_STATUS.ACTIVE false

/-- A change at or below the prefix of the active image retires it, and one at or below that of a running build abandons the build;
`changed` are the layers that changed (R147 to R149). -/
def kilnChanges (s : State) (changed : List Nat) : State :=
  let stable := s.gal.stable.mapIdx (fun n v => if changed.contains n then 0 else min 15 (v + 1))
  let s1 := { s with gal := { s.gal with stable := stable } }
  let hit (k : Nat) : Bool := changed.any (fun n => decide (n ≤ k))
  let s2 := if s1.flag GAL.KILN_STATUS.ACTIVE ∧ hit (s1.reg GAL.KILN_STATUS.PREFIX) then
    s1.setFlag GAL.KILN_STATUS.ACTIVE false else s1
  if hit s2.gal.buildPrefix then abandonBuild s2 else s2

/-- A complete image becomes the active one unless a layer in it changed (R148). -/
def kilnSwap (s : State) (changed : List Nat) : State :=
  match s.gal.kilnReady with
  | none => s
  | some k =>
    if changed.any (fun n => decide (n ≤ k)) then { s with gal := { s.gal with kilnReady := none } }
    else
      (({ s with gal := { s.gal with kilnReady := none, kilnBank := !s.gal.kilnBank } }.setFlag GAL.KILN_STATUS.ACTIVE true).setReg
        GAL.KILN_STATUS.PREFIX k).wrapBy GAL.KILN_STATUS.GEN 1

/-- A build of the prefix begins where no image of it is active (R147, R148). -/
def kilnBegin (s : State) : State :=
  match kilnPrefix s with
  | none => s
  | some k =>
    if s.flag GAL.CFG.KILN_EN ∧ s.flag GAL.CTRL.EN ∧ s.flag GAL.KILN_STATUS.BUILDING = false
        ∧ ¬ (s.flag GAL.KILN_STATUS.ACTIVE = true ∧ s.reg GAL.KILN_STATUS.PREFIX = k) then
      { s with gal := { s.gal with buildPrefix := k } }.setFlag GAL.KILN_STATUS.BUILDING true
    else s

/-- The Kiln's part of a frame start (R147 to R149). -/
def kilnFrameStart (s : State) (changed : List Nat) : State := kilnBegin (kilnSwap (kilnChanges s changed) changed)

/-- KILN_BUILD_COMPLETE: the image is complete and waits for the next frame start (R148). -/
def execKilnBuildComplete (s : State) : Out :=
  if s.flag GAL.KILN_STATUS.BUILDING then
    .next ({ s with gal := { s.gal with kilnReady := some s.gal.buildPrefix } }.setFlag GAL.KILN_STATUS.BUILDING false)
  else .next s

/-- BUFFER_RETIRE: the retire fence of a buffer of slot `n` that a build still read advances (R142). -/
def execBufferRetire (n : Nat) (s : State) : Out :=
  match s.gal.retireDue.find? (fun p => p.1 == n) with
  | none => .next s
  | some p => .next (fenceAdd { s with gal := { s.gal with retireDue := s.gal.retireDue.erase p } } p.2 1)

/-! ### The Gallery's frame start -/

/-- COMMIT sample, flips, parameter check, dropped layers and the Kiln, in that order (R96, R126, R140, R146, R147). `force` commits
whether COMMIT is pending or not (R91). -/
def galFrameStart (s : State) (force : Bool) : State :=
  let commit := force || s.flag SCAN.COMMIT_STATUS.COMMIT_PEND
  let group := if commit then s.reg GAL.ATOMIC.GROUP else s.actReg GAL.ATOMIC.GROUP
  let armedNow := (List.range 7).filter (armed s)
  let flips := armedNow.filter (flipProceeds s group)
  let waiting := armedNow.filter (fun n => !flips.contains n)
  let freed := (List.range 7).filter (fun n => !waiting.contains n)
  let s1 := freed.foldl applyHeld s
  let s2 := if commit then commitFields s1 waiting else s1
  let s3 := (flips.foldl doFlip s2).bumpBy GAL.FLIP_SKIP_COUNT.COUNT waiting.length
  let s4 := s3.setReg GAL.SAFE_STATUS.DROPPED (s3.reg GAL.SAFE_STATUS.DROPPED ||| s3.gal.dropNext)
  let s5 := s4.setReg GAL.STATUS.PARAM_ERR (bitsOf 7 (fun n => layerOn s4 n && !layerValid s4 n))
  let s6 := { s5 with gal := { s5.gal with
    dropNext := 0, checked := 0 } }
  kilnFrameStart s6 ((List.range 7).filter (layerChanged s s6 flips))


/-- A new frame's content is undefined when a layer it uses was overwritten while in use (R143). -/
def openContent (s : State) : Bool :=
  (List.range 7).any (fun n => layerUsed s n && bit s.gal.overwritten n)

/-! ### Commands on fences, flips and LUTs -/

/-- FENCE_INC_WRITE: the fence INDEX names advances by AMOUNT (R138). -/
def execFenceIncWrite (w : Word) (s : State) : Out :=
  .next (fenceAdd s (fromWord GAL.FENCE_INC.INDEX w) (fromWord GAL.FENCE_INC.AMOUNT w))

/-- FENCE_DIRECT_WRITE: fence `k` loads the written value (R138). -/
def execFenceDirectWrite (k : Nat) (w : Word) (s : State) : Out :=
  .next (if k < 64 then s.setReg (GAL.FENCE.FENCE k) w.toNat else s)

/-- A write of Ln_FLIP: the fields load; ARM = 1 arms or replaces, ARM = 0 disarms (R139). -/
def writeFlip (s : State) (n : Nat) (w : Word) : State :=
  [GAL.L.FLIP.ARM n, GAL.L.FLIP.FENCE_EN n, GAL.L.FLIP.FENCE_SEL n, GAL.L.FLIP.RETIRE_EN n, GAL.L.FLIP.RETIRE_SEL n].foldl
    (fun s f => s.setReg f (fromWord f w)) s

/-- FLIP_ARM (R139). -/
def execFlipArm (n : Nat) (w : Word) (s : State) : Out := .next (if n < 7 then writeFlip s n w else s)

/-- The number of entries of LUT table `t` (R134). -/
def lutSize (t : Nat) : Nat := if t < 14 then 4096 else 1025

/-- Table `t` is the one the active GAL.LUT_SEL selects for its slot or for the post-LUT (R134). -/
def lutSelected (s : State) (t : Nat) : Bool :=
  if t < 14 then t % 2 == b2n (bit (s.actReg GAL.LUT_SEL.PRE_B) (t / 2)) else t == postTable s

/-- An entry written under R134; the second result says that the write was ignored. -/
def lutPut (s : State) (t i v : Nat) : State × Bool :=
  if lutSelected s t ∨ lutSize t ≤ i then (s.setFlag GAL.STATUS.LUT_IGN true, true)
  else ({ s with gal := { s.gal with lut := sparseSet 0 s.gal.lut (t * 8192 + i) (v % 65536) } }, false)

/-- LUT_DATA_WRITE: the entry at TABLE and INDEX is written, or the write is ignored; INDEX advances (R134, R157). -/
def execLutDataWrite (w : Word) (s : State) : Out :=
  .next ((lutPut s (s.reg GAL.LUT_ADDR.TABLE) (s.reg GAL.LUT_ADDR.INDEX) (fromWord GAL.LUT_DATA.ENTRY w)).1.wrapBy
    GAL.LUT_ADDR.INDEX 1)

/-- A LUT_DATA read: the entry at TABLE and INDEX shows in LUT_DATA and INDEX advances (R157). What an index beyond the table reads
the spec does not say: a free value. -/
def lutRead (s : State) : State :=
  let t := s.reg GAL.LUT_ADDR.TABLE
  let i := s.reg GAL.LUT_ADDR.INDEX
  if lutSize t ≤ i then ((s.setReg GAL.LUT_DATA.ENTRY (Config.lutBeyond s.free i)).tookFree).wrapBy GAL.LUT_ADDR.INDEX 1
  else (s.setReg GAL.LUT_DATA.ENTRY (lutEntry s t i)).wrapBy GAL.LUT_ADDR.INDEX 1

/-- LUT_DATA_READ. -/
def execLutDataRead (s : State) : Out := .next (lutRead s)

/-- GAL_EN_CLEAR: the Gallery stops at once; the next row not fully delivered misses its deadline (R152). -/
def galDisable (s : State) : State :=
  let s1 := s.setFlag GAL.CTRL.EN false
  if s.flag GAL.CTRL.EN ∧ s.scan.loading ∧ 56 ≤ s.reg SCAN.RASTER.SLOT then
    { s1 with scan := { s1.scan with galStopped := true } }
  else s1

/-- GAL_EN_CLEAR. -/
def execGalEnClear (s : State) : Out := .next (galDisable s)

/-! ### SAFETY layers (R144 to R146) -/

/-- The check value of slot `n`'s active buffer (R144). -/
def layerCheck (s : State) (n : Nat) : Word :=
  let a := layerAddr s n
  let fold := BitVec.ofNat 32 (a / 64)
  (List.range (layerH s n)).foldl
    (fun c v => crcRun c (s.dramBytes (a + v * layerStride s n) (rowBytes (layerFmt s n) (layerW s n))))
    (0xFFFFFFFF ^^^ fold) ^^^ 0xFFFFFFFF

/-- The comparison of slot `n`'s computed and expected check values, or an injected mismatch (R145, R146, R540). -/
def safetyCheck (s : State) (n : Nat) : State :=
  let c := (layerCheck s n).toNat
  let s1 := { s with gal := { s.gal with checked := s.gal.checked ||| 2 ^ n } }.setReg (GAL.L.CRC_ACT.CRC_ACT n) c
  let real := c != s.reg (GAL.L.CRC_EXP.CRC_EXP n)
  if real || s.injWaits 17 then
    let s2 := abortFrame (if real then s1 else s1.takeInj 17)
    let s3 := ((s2.orReg GAL.SAFE_STATUS.CRC_ERR (2 ^ n)).setFlag GAL.STATUS.CRC_ABORT true).bump GAL.CRC_ERR_COUNT.COUNT
    raiseEither { s3 with gal := { s3.gal with dropNext := s3.gal.dropNext ||| 2 ^ n } } (!real) 17 2
  else s1

/-- SAFETY_LAYER_CHECK: the last row of SAFETY layer `n` of the frame in load has been fetched (R145). -/
def execSafetyLayerCheck (n : Nat) (s : State) : Out :=
  .next (if n < 7 ∧ s.scan.loading ∧ layerUsed s n ∧ s.actFlag (GAL.L.CTRL.SAFETY n) ∧ bit s.gal.checked n = false then
    safetyCheck s n else s)

/-! ### DRAM need (R103, R151) -/

/-- Slots 0 to `k` are served by the Kiln (R148). -/
def kilnServes (s : State) (n : Nat) : Bool := s.flag GAL.KILN_STATUS.ACTIVE && decide (n ≤ s.reg GAL.KILN_STATUS.PREFIX)

/-- Slot `n` covers part of composed row `y` and has columns inside the array. -/
def layerOnRow (s : State) (n y : Nat) : Bool :=
  let v := (y : Int) - layerY s n
  layerUsed s n && decide (0 ≤ v) && decide (v < layerH s n) && decide (layerX s n < s.side)
    && decide (0 < layerX s n + layerW s n)

/-- Slot `m` hides what lies below it (R151). -/
def covers (s : State) (m : Nat) : Bool :=
  m != 0 && layerUsed s m && layerBlend s m == 0 && s.actReg (GAL.L.CTRL.CA m) == 255 && decide (layerFmt s m ≤ 2)

/-- Segment `j` of array row `y` of slot `n` is skipped by fetch stop (R151): some higher covering layer holds it wholly. -/
def segmentStopped (s : State) (n y j : Nat) : Bool :=
  s.flag GAL.CFG.FSTOP_EN && !s.actFlag (GAL.L.CTRL.SAFETY n)
  && (List.range 7).any (fun m => decide (n < m) && covers s m && layerOnRow s m y
      && decide (layerX s m ≤ 64 * j) && decide (((64 * j + 64 : Nat) : Int) ≤ layerX s m + layerW s m))

/-- Slot `n` reads DRAM for composed row `y` after fetch stop: some segment it covers is not skipped. -/
def slotReads (s : State) (n y : Nat) : Bool :=
  layerOnRow s n y && !kilnServes s n
  && (List.range (s.side / 64)).any (fun j =>
      decide (layerX s n < ((64 * j + 64 : Nat) : Int)) && decide (((64 * j : Nat) : Int) < layerX s n + layerW s n)
      && !segmentStopped s n y j)

/-- Physical row `r` needs DRAM (R103): a layer or the gain map is read from it. In M6 the rows outside the active area read
nothing (R85). -/
def rowNeedsDram (s : State) (r : Nat) : Bool :=
  let y := if s.mode = 3 then r / 2 else r
  decide (s.topRow ≤ y) && decide (y < s.endRow) && (s.cal.gainBuilt || (List.range 7).any (fun n => slotReads s n y))

end Sys2Proof.Machine
end

