-- ==== Sys2Proof/Machine/Engines.lean ====
section
/-! DEFINITION. Engines.lean: bands, render sets, the kernels' results, the optics model, engine faults and spares, throttling and
the mode step-down (06_beam_engines_and_kernels.md). -/

namespace Sys2Proof.Machine

/-! ### Parameter blocks (R200) -/

def blkKernel (b : List Byte) : Nat := leAt b 0 2
def blkSlot (b : List Byte) : Nat := leAt b 2 1
def blkFlag (b : List Byte) (k : Nat) : Bool := bit (leAt b 3 1) k
def blkFence (b : List Byte) : Nat := leAt b 4 1 % 64
def blkRetire (b : List Byte) : Nat := leAt b 5 1 % 64
def blkFormat (b : List Byte) : Nat := leAt b 6 1
def blkOut (b : List Byte) (k : Nat) : Nat := 64 * (leAt b (8 + 4 * k) 4 % 2 ^ 28)
def blkStride (b : List Byte) : Nat := leAt b 0x10 4
def blkW (b : List Byte) : Nat := leAt b 0x14 2
def blkH (b : List Byte) : Nat := leAt b 0x16 2
def blkY0 (b : List Byte) : Int := sext 16 (leAt b 0x18 2)

/-- Bytes from the output buffer's start to its end. -/
def blkSpan (b : List Byte) : Nat := (blkH b - 1) * blkStride b + rowBytes (blkFormat b) (blkW b)

/-- The band that renders output row `v` (R201). -/
def rowBand (mode : Nat) (b : List Byte) (v : Nat) : Nat :=
  (max 0 (min 15 ((blkY0 b + v) / (if mode = 3 then 32 else 64)))).toNat

/-- The bands an entry has rows in; in M6 the outer bands run no entry (R199). -/
def entryBands (mode : Nat) (b : List Byte) : Nat :=
  bitsOf 16 (fun n => (mode != 6 || decide (3 ≤ n ∧ n ≤ 12)) && (List.range (blkH b)).any (fun v => rowBand mode b v == n))

/-! ### Sampling (R208, R210) -/

/-- The source pixel (x, y) as a 16-bit linear value, without pre-LUT; `border` outside the source. -/
def srcTap (s : State) (b : List Byte) (border : Int → Int → Nat) (x y : Int) : Nat :=
  if 0 ≤ x ∧ x < leAt b 0x28 2 ∧ 0 ≤ y ∧ y < leAt b 0x2A 2 then
    let row := 64 * (leAt b 0x20 4 % 2 ^ 28) + y.toNat * leAt b 0x24 4
    let two := (s.dramByte (row + 2 * x.toNat)).toNat + 256 * (s.dramByte (row + 2 * x.toNat + 1)).toNat
    match leAt b 0x2C 1 with
    | 0 => two
    | 1 => two % 4096 * 16 ||| two % 4096 / 256
    | _ => (s.dramByte (row + x.toNat)).toNat * 257
  else border x y

/-- The weight of tap `k` (0 to 3) of the cubic convolution kernel with a = -0.5 at fraction f / 256, times 2^25. -/
def cubicWeight (f : Int) : Nat → Int
  | 0 => -f * f * f + 2 * 256 * f * f - 65536 * f
  | 1 => 3 * f * f * f - 5 * 256 * f * f + 2 * 16777216
  | 2 => -3 * f * f * f + 4 * 256 * f * f + 65536 * f
  | _ => f * f * f - 256 * f * f

/-- The filtered value at position (X / 256, Y / 256): rounded half up and clamped (R208). -/
def filterAt (tap : Int → Int → Nat) (filter : Nat) (px py : Int) : Nat :=
  let x := px / 256
  let y := py / 256
  let f := px % 256
  let g := py % 256
  match filter with
  | 0 => tap ((px + 128) / 256) ((py + 128) / 256)
  | 1 =>
    let sum : Int := (tap x y * (256 - f) + tap (x + 1) y * f) * (256 - g)
      + (tap x (y + 1) * (256 - f) + tap (x + 1) (y + 1) * f) * g
    (max 0 (min 65535 ((sum + 32768) / 65536))).toNat
  | _ =>
    let row (j : Nat) : Int := (List.range 4).foldl (fun a i => a + cubicWeight f i * tap (x - 1 + i) (y - 1 + j)) 0
    let sum := (List.range 4).foldl (fun a j => a + cubicWeight g j * row j) 0
    (max 0 (min 65535 ((sum + 2 ^ 49) / 2 ^ 50))).toNat

/-- n / d rounded half up; a quotient by zero or less is a free value. -/
def roundDiv (n d : Int) : Int := if 0 < d then (2 * n + d) / (2 * d) else (Config.divZero n.natAbs : Nat)

/-- Entry `i` of a matrix in the K_WARP encoding. -/
def warpH (b : List Byte) (o i : Nat) : Int := sext 32 (leAt b (o + 4 * i) 4)

/-- K_WARP at output pixel (u, v) (R208). -/
def warpPixel (s : State) (b : List Byte) (u v : Nat) : Nat :=
  let h := warpH b 0x30
  let border := leAt b 0x2E 2
  let x := (h 0 * u + h 1 * v + h 2) * 2 ^ 14
  let y := (h 3 * u + h 4 * v + h 5) * 2 ^ 14
  let w := h 6 * u + h 7 * v + h 8 * 2 ^ 14
  if w ≤ 0 then border
  else filterAt (srcTap s b (fun _ _ => border)) (leAt b 0x2D 1) (roundDiv (256 * x) w) (roundDiv (256 * y) w)

/-- K_VIDEO at output pixel (u, v): pixel centres of the output map onto those of the crop rectangle (R210). -/
def videoPixel (s : State) (b : List Byte) (u v : Nat) : Nat :=
  let pos (c0 cw w i : Nat) : Int := roundDiv (128 * (2 * c0 * w + (2 * i + 1) * cw - w : Int)) w
  filterAt (srcTap s b Config.videoBorder) (leAt b 0x2D 1) (pos (leAt b 0x34 2) (leAt b 0x38 2) (blkW b) u)
    (pos (leAt b 0x36 2) (leAt b 0x3A 2) (blkH b) v)

/-! ### The optics model (R212 to R214) -/

/-- A beam position (H, V) in bu as numerators over one denominator, from twice the column and row of a pixel centre. -/
def beamPos (optics : Option (List Int)) (c2 r2 : Int) : Int × Int × Int :=
  match optics with
  | none => ((c2 - 1023) * 128, (768 - r2) * 40, 25)
  | some h =>
    let e (i : Nat) : Int := h.getD i 0
    ((e 0 * c2 + e 1 * r2 + 2 * e 2) * 2 ^ 14, (e 3 * c2 + e 4 * r2 + 2 * e 5) * 2 ^ 14,
      e 6 * c2 + e 7 * r2 + 2 * e 8 * 2 ^ 14)

/-- Sample (i, j) of pattern table `p` (R207). -/
def patternSample (t : Sparse Nat) (p i j : Nat) : Nat :=
  let k := p * 262144 + 2 * (257 * j + i)
  sparseGet 0 t k + 256 * sparseGet 0 t (k + 1)

/-- K_BEAMPAT at output pixel (u, v), exactly, rounded half up and saturated (R207). `shift` is VSHIFT in 1/1024 bu. -/
def beampatPixel (s : State) (r : RunSet) (b : List Byte) (u v : Nat) : Nat :=
  let two (i : Nat) : Int := if r.mode = 3 then 4 * i + 1 else 2 * i
  let p := beamPos r.optics (two u) (two v)
  let d := p.2.2 * 1024
  if d ≤ 0 then min 65535 (Config.opticsOpen u v)
  else
    let hn := if s.guard.limits.left then -(p.1 * 1024) else p.1 * 1024
    let vn := p.2.1 * 1024 + r.shift * p.2.2
    let bend : Int := if bit (leAt b 0x21 1) 0 then sext 16 (leAt b 0x22 2) else 0
    let level : Int := sext 16 (leAt b 0x24 2)
    let ni := hn - bend * d + 8192 * d
    let nj := 2048 * d - vn + level * d
    if ni < 0 ∨ 256 * (64 * d) < ni ∨ nj < 0 ∨ 256 * (16 * d) < nj then 0
    else
      let i := (min 255 (ni / (64 * d))).toNat
      let j := (min 255 (nj / (16 * d))).toNat
      let fi := ni - 64 * d * i
      let fj := nj - 16 * d * j
      let e (a c : Nat) : Int := patternSample r.patterns (leAt b 0x20 1) (i + a) (j + c)
      let sum := (e 0 0 * (64 * d - fi) + e 1 0 * fi) * (16 * d - fj) + (e 0 1 * (64 * d - fi) + e 1 1 * fi) * fj
      (min 65535 (roundDiv (sum * (leAt b 0x26 2 : Nat)) (64 * d * (16 * d) * 4096))).toNat

/-! ### K_SYMBOL (R209) -/

/-- Offset of instance `k`. -/
def instanceAt (k : Nat) : Nat := 0x28 + 16 * k

/-- The instances whose glyph exists in the library of the dispatch. -/
def liveInstances (r : RunSet) (b : List Byte) : List Nat :=
  (List.range (leAt b 0x26 1)).filter (fun k => decide (leAt b (instanceAt k) 2 < r.glyphs))

/-- Coverage of instance `k` at pixel (u, v), in sixteenths: a free value. -/
def coverage (s : State) (k u v : Nat) : Nat := min 16 (Config.symbolCover s.free k u v)

/-- Luminance of the symbols at pixel (u, v): INTENS × coverage, the largest of the instances. -/
def symbolLum (s : State) (r : RunSet) (b : List Byte) (u v : Nat) : Nat :=
  (liveInstances r b).foldl (fun m k => max m ((leAt b (instanceAt k + 0xA) 2 * coverage s k u v + 8) / 16)) 0

/-- The stored AL88 value at pixel (u, v). -/
def symbolAl88 (s : State) (r : RunSet) (b : List Byte) (u v : Nat) : Nat :=
  (liveInstances r b).foldl (fun m k =>
    let n := coverage s k u v
    if n = 0 then m
    else
      let lum := min 255 ((leAt b (instanceAt k + 0xA) 2 + 128) / 256)
      let alpha := (leAt b (instanceAt k + 0xC) 1 * n + 8) / 16
      max (m % 256) lum + 256 * max (m / 256) alpha) 0

/-- The M1 value at pixel (u, v). -/
def symbolM1 (s : State) (r : RunSet) (b : List Byte) (u v : Nat) : Bool :=
  (liveInstances r b).any (fun k => Config.symbolCentre s.free k u v)

/-! ### Output rows (R206) -/

/-- The 16-bit linear result of a kernel at output pixel (u, v). -/
def kernelPixel (s : State) (r : RunSet) (b : List Byte) (u v : Nat) : Nat :=
  match blkKernel b with
  | 1 => beampatPixel s r b u v
  | 2 => warpPixel s b u v
  | 3 => symbolLum s r b u v
  | _ => videoPixel s b u v

/-- Output row `v` as stored bytes in the block's format. -/
def outputRow (s : State) (r : RunSet) (b : List Byte) (v : Nat) : List Byte :=
  let us := List.range (blkW b)
  match blkFormat b with
  | 0 => us.flatMap (fun u => toLe 2 (kernelPixel s r b u v))
  | 1 => us.flatMap (fun u => toLe 2 (min 4095 ((kernelPixel s r b u v + 8) / 16)))
  | 2 => us.map (fun u => BitVec.ofNat 8 (min 255 ((kernelPixel s r b u v + 128) / 256)))
  | 3 => us.flatMap (fun u => toLe 2 (symbolAl88 s r b u v))
  | _ => (List.range ((blkW b + 7) / 8)).map (fun j =>
      BitVec.ofNat 8 (bitsOf 8 (fun i => decide (8 * j + i < blkW b) && symbolM1 s r b (8 * j + i) v)))

/-- The rows of one band of an entry are rendered and written (R198, R201). -/
def renderBand (s : State) (r : RunSet) (e : RunEntry) (band : Nat) : State :=
  let rows := (List.range (blkH e.block)).filter (fun v => rowBand r.mode e.block v == band)
  (rows.foldl (fun t v => dramWrite t (e.out + v * blkStride e.block) (outputRow s r e.block v)) s).tookFree

/-! ### Waits (R204, R210) -/

/-- The entry's output buffer has retired: its slot does not show it and no retire of the slot is due (R142, R204). -/
def bufferFree (s : State) (e : RunEntry) : Bool :=
  let n := blkSlot e.block
  !blkFlag e.block 3 || n == 0xFF || (!(layerAddr s n == e.out) && !s.gal.retireDue.any (fun p => p.1 == n))

/-- K_VIDEO's input fence is reached (R210). -/
def inputReady (s : State) (e : RunEntry) : Bool :=
  blkKernel e.block != 4 || fenceReached s (leAt e.block 0x2E 1 % 64) (leAt e.block 0x30 4)

/-- Band `band` of the entry may write its rows. -/
def mayWrite (s : State) (e : RunEntry) (band : Nat) : Bool :=
  bit e.started band || (bufferFree s e && inputReady s e)

/-- Index and entry of the first entry that band `band` has still to render. -/
def currentEntry (r : RunSet) (band : Nat) : Option (Nat × RunEntry) :=
  (r.entries.zipIdx.find? (fun p => bit p.1.todo band)).map (fun p => (p.2, p.1))

/-- The running set with entry `i` replaced. -/
def setEntry (s : State) (r : RunSet) (i : Nat) (e : RunEntry) : State :=
  { s with eng := { s.eng with running := some { r with entries := r.entries.set i e } } }

/-- A band that waited may write from now on. -/
def startBand (s : State) (band : Nat) (ok : RunEntry → Bool) : State :=
  match s.eng.running with
  | none => s
  | some r => match currentEntry r band with
    | none => s
    | some (i, e) =>
      if s.flag BE.CTRL.EN ∧ ok e ∧ bufferFree s e ∧ inputReady s e then
        setEntry s r i { e with started := e.started ||| 2 ^ band } else s

/-- PINGPONG_BUFFER_FREE: the buffer that band `b` waits for has retired (R204). -/
def execPingpongBufferFree (b : Nat) (s : State) : Out := .next (startBand s b (fun e => blkFlag e.block 3))

/-- VIDEO_INPUT_READY: IN_FENCE has reached IN_VAL for band `b` (R210). -/
def execVideoInputReady (b : Nat) (s : State) : Out := .next (startBand s b (fun e => blkKernel e.block == 4))

/-! ### Completion (R203) -/

/-- The check value of a rendered buffer as read back from DRAM (R144, R203). -/
def outputCheck (s : State) (e : RunEntry) : Word :=
  (List.range (blkH e.block)).foldl
    (fun c v => crcRun c (s.dramBytes (e.out + v * blkStride e.block) (rowBytes (blkFormat e.block) (blkW e.block))))
    (0xFFFFFFFF ^^^ BitVec.ofNat 32 (e.out / 64)) ^^^ 0xFFFFFFFF

/-- The last band of an entry has completed: check value first, then the fence (R203). -/
def entryDone (s : State) (e : RunEntry) : State :=
  let n := blkSlot e.block
  let s1 := if blkFlag e.block 2 ∧ n < 7 then s.setReg (GAL.L.NEXT_CRC.NEXT_CRC n) (outputCheck s e).toNat else s
  fenceAdd s1 (blkFence e.block) 1

/-- The running set is over once no entry has a band left; it counts as rendered (R423). -/
def closeSet (s : State) : State :=
  match s.eng.running with
  | some r =>
    if r.entries.all (fun e => e.todo == 0) then
      { s with eng := { s.eng with running := none }, stats := { s.stats with rendered := s.stats.rendered + 1 } }
    else s
  | none => s

/-- Band `b` completes the entry it renders. -/
def completeBand (s : State) (b : Nat) : State :=
  match s.eng.running with
  | none => s
  | some r => match currentEntry r b with
    | none => s
    | some (i, e) =>
      if mayWrite s e b then
        let e' := { e with todo := e.todo - 2 ^ b }
        let s1 := setEntry (renderBand s r e b) r i e'
        closeSet (if e'.todo = 0 then entryDone s1 e' else s1)
      else s

/-- BAND_COMPLETE: band `b` completes the entry it renders, in entry order (R202, R203). -/
def execBandComplete (b : Nat) (s : State) : Out := .next (if s.flag BE.CTRL.EN then completeBand s b else s)

/-- Engine bands `bands` abandon the entries they render: no fence advances (R504, R505). -/
def abandonEntries (s : State) (bands : List Nat) : State :=
  match s.eng.running with
  | none => s
  | some r =>
    let l := bands.filterMap (fun b => (currentEntry r b).map (fun x => x.1))
    closeSet { s with eng := { s.eng with
      running := some { r with entries := r.entries.mapIdx (fun i e => if l.contains i then { e with todo := 0 } else e) } } }

/-! ### Dispatch (R16, R19, R202 to R205) -/

/-- Key of an entry in the PINGPONG record. -/
def pingKey (b : List Byte) (i : Nat) : Nat := if blkSlot b = 0xFF then 256 + i else blkSlot b

/-- One entry dispatched: its buffer is chosen, and with AUTO_FLIP its slot's flip is armed (R203, R204). `before` counts the
entries before it that advance the same fence. -/
def dispatchEntry (s : State) (mode i before : Nat) (b : List Byte) : State × RunEntry :=
  let k := pingKey b i
  let second := blkFlag b 3 && s.eng.pingpong.contains k
  let out := blkOut b (b2n second)
  let s1 := if blkFlag b 3 then
      { s with eng := { s.eng with pingpong := if second then s.eng.pingpong.erase k else k :: s.eng.pingpong } }
    else s
  let n := blkSlot b
  let s2 := if blkFlag b 0 ∧ n < 7 then
      let t1 := (s1.setReg (GAL.L.NEXT_LO.NEXT n) (out / 64)).setReg (GAL.L.NEXT_HI.NEXT n) (out / 2 ^ 32)
      let t2 := t1.setReg (GAL.L.FENCE_VAL.FENCE_VAL n) (s.reg (GAL.FENCE.FENCE (blkFence b)) + before + 1)
      let t3 := (t2.setReg (GAL.L.FLIP.FENCE_SEL n) (blkFence b)).setFlag (GAL.L.FLIP.FENCE_EN n) true
      ((t3.setReg (GAL.L.FLIP.RETIRE_SEL n) (blkRetire b)).setFlag (GAL.L.FLIP.RETIRE_EN n) true).setFlag
        (GAL.L.FLIP.ARM n) true
    else s1
  (s2, ⟨b, out, entryBands mode b, 0⟩)

/-- VSHIFT in 1/1024 bu, from K_T and the lens temperature (R214, R397). -/
def vshift (s : State) : Int := s.eng.lensKt * (sext 12 (s.reg (THM.HK.T 0)) - 100)

/-- The entries of a set dispatched in order. -/
def dispatchAll (mode : Nat) (s : State) (done : List RunEntry) : List (List Byte) → State × List RunEntry
  | [] => (s, done)
  | b :: t =>
    let before := done.countP (fun e => blkFence e.block == blkFence b)
    let p := dispatchEntry s mode done.length before b
    dispatchAll mode p.1 (done ++ [p.2]) t

/-- A set is dispatched (R16); an entry without rows in any band completes at once. -/
def dispatchSet (s : State) (set : List (List Byte)) : State :=
  let p := dispatchAll s.mode s [] set
  let r : RunSet := { entries := p.2, mode := s.mode, since := s.now, patterns := s.eng.patterns, optics := s.eng.lensP,
                      shift := vshift s, glyphs := s.eng.symGlyphs }
  let s1 := { p.1 with eng := { p.1.eng with running := some r, latched := none } }
  let s2 := s1.setReg BE.OPTICS.SHIFT (toBits 16 (roundDiv (vshift s) 64))
  closeSet ((p.2.filter (fun e => e.todo == 0)).foldl entryDone s2)

/-- The bands that an engine owns. -/
def bandsOf (s : State) (n : Nat) : List Nat := (List.range 16).filter (fun b => s.reg (BE.BAND_MAP.ENGINE b) == n)

/-- Engine `n` is active, a spare or retired. -/
def isActive (s : State) (n : Nat) : Bool := bit (s.reg BE.ACTIVE.ENG) n
def isSpare (s : State) (n : Nat) : Bool := bit (s.reg BE.SPARE.ENG) n

/-- `m` without bit `n`. -/
def clearBit (m n : Nat) : Nat := if bit m n then m - 2 ^ n else m

/-- Bands `bs` go to engine `e`; SHARED and DEGRADED follow the map (R218, R227). -/
def giveBands (s : State) (bs : List Nat) (e : Nat) : State :=
  let s1 := bs.foldl (fun t b => t.setReg (BE.BAND_MAP.ENGINE b) e) s
  let share (t : State) (b : Nat) : Bool := decide (1 < (bandsOf t (t.reg (BE.BAND_MAP.ENGINE b))).length)
  let s2 := (List.range 16).foldl (fun t b => t.setFlag (BE.BAND_MAP.SHARED b) (share s1 b)) s1
  s2.setFlag BE.STATUS.DEGRADED ((List.range 16).any (share s1))

/-- The lowest-numbered spare. -/
def firstSpare (s : State) : Option Nat := (List.range 18).find? (isSpare s)

/-- Engine `e` becomes active and no longer spare. -/
def makeActive (s : State) (e : Nat) : State :=
  (s.setReg BE.ACTIVE.ENG (s.reg BE.ACTIVE.ENG ||| 2 ^ e)).setReg BE.SPARE.ENG (clearBit (s.reg BE.SPARE.ENG) e)

/-- A readied spare takes the bands of a faulted engine (R217). -/
def takeOver (s : State) (n : Nat) : State :=
  match firstSpare s with
  | none => s
  | some e => (giveBands (makeActive s e) (bandsOf s n) e).setFlag BE.STATUS.TAKEOVER true

/-- Readied spares take over at the frame start (R217). -/
def spareFrameStart (s : State) : State :=
  let go := s.eng.orphans.take s.eng.spares
  let s1 := go.foldl takeOver s
  { s1 with eng := { s1.eng with orphans := s.eng.orphans.drop s.eng.spares, spares := 0 } }

/-- The next active engine in engine order from `n` on (R219). -/
def nextActive (s : State) (n : Nat) : Option Nat :=
  ((List.range 18).map (fun i => (n + i) % 18)).find? (isActive s)

/-- A due rotation: the next active engine and the first spare change places, and the outgoing one tests itself (R219). -/
def rotateFrameStart (s : State) : State :=
  if s.eng.rotateDue ∧ s.flag BE.CTRL.ROTATE_EN then
    match nextActive s s.eng.rotateNext, firstSpare s with
    | some n, some e =>
      let s1 := giveBands (makeActive s e) (bandsOf s n) e
      let s2 := (s1.setReg BE.ACTIVE.ENG (clearBit (s1.reg BE.ACTIVE.ENG) n)).setReg BE.SPARE.ENG
        (s1.reg BE.SPARE.ENG ||| 2 ^ n)
      { s2 with eng := { s2.eng with rotateDue := false, rotateNext := (n + 1) % 18, testing := s2.eng.testing ||| 2 ^ n } }
    | _, _ => { s with eng := { s.eng with rotateDue := false } }
  else { s with eng := { s.eng with rotateDue := false } }

/-- Complete table generations become active, and what they replace is the inactive one (R205). -/
def tablesFrameStart (s : State) : State :=
  let e := s.eng
  let pat (k : Nat) : Nat := k / 262144
  let keep := e.patterns.filter (fun p => !e.patDue.contains (pat p.1))
  let new := (e.patNext.filter (fun p => e.patDue.contains (pat p.1))).foldl (fun m p => sparseSet 0 m p.1 p.2) keep
  let gen := e.patGen.mapIdx (fun i g => if e.patDue.contains i then (g + 1) % 256 else g)
  let old := (e.patterns.filter (fun p => e.patDue.contains (pat p.1))).foldl (fun m p => sparseSet 0 m p.1 p.2)
    (e.patNext.filter (fun p => !e.patDue.contains (pat p.1)))
  let e1 := { e with patterns := new, patNext := old, patDue := [], patGen := gen }
  match e.symDue with
  | none => { s with eng := e1 }
  | some (g, z) => { s with eng := { e1 with symGen := (e.symGen + 1) % 256, symGlyphs := g, symSize := z, symDue := none } }

/-- STEP_N, 0 acting as 1 (R225). -/
def State.stepN (s : State) : Nat := max 1 (s.reg BE.CTRL.STEP_N)

/-- COMMIT requested: COMMIT_PEND sets and TARGET_FRAME names the next frame start (R98). While the raster does not run, that is
the first frame start after enable, which makes FRAME_NUM 1. -/
def requestCommit (s : State) : State :=
  if s.flag SCAN.COMMIT_STATUS.COMMIT_PEND then s
  else
    let next := if s.scan.running then s.reg SCAN.FRAME_NUM.FRAME_NUM + 1 else 1
    (s.setFlag SCAN.COMMIT_STATUS.COMMIT_PEND true).setReg SCAN.COMMIT_STATUS.TARGET_FRAME next

/-- The late flag of this frame start and the step-down it may cause (R221, R222). -/
def lateFrameStart (s : State) (late : Bool) : State :=
  let s1 := if late then s.bump BE.LATE_COUNT.COUNT else s
  let hist := (late :: s.eng.late).take 16
  let s2 := { s1 with eng := { s1.eng with late := hist } }
  if s2.flag BE.CTRL.AUTO_STEP ∧ s2.eng.stepMode = none ∧ s2.stepN ≤ hist.countP (fun x => x)
      ∧ (s2.mode = 2 ∨ s2.mode = 1) then
    let new := s2.mode - 1
    let s3 := { s2 with eng := { s2.eng with late := [], stepMode := some new, stepWatch := true } }
    let s4 := requestCommit ((s3.setReg SCAN.MODE.MODE new).setFlag BE.STATUS.STEPPED true)
    raiseEvent s4 0x0201 (toLe 1 s2.mode ++ toLe 1 new)
  else s2

/-- The newest set latches; one latched before it and not started is skipped (R19, R423). -/
def latchFrameStart (s : State) : State :=
  match s.eng.submitted with
  | none => s
  | some x =>
    { s with
      eng := { s.eng with submitted := none, latched := some x }
      stats := { s.stats with
        latched := s.stats.latched + 1
        skipped := if s.eng.latched.isSome then s.stats.skipped + 1 else s.stats.skipped } }

/-- The newest latched set is dispatched when no set runs, no faulted engine waits for its spare, and the mode and the temperature let
the engines render (R19, R217, R224, R484). -/
def dispatchDue (s : State) : State :=
  match s.eng.latched with
  | some x =>
    if s.eng.running.isNone ∧ s.eng.orphans = [] ∧ s.mode ≠ 7 ∧ s.flag SAFE.FB_CAUSE.SOFT_STOP = false then dispatchSet s x else s
  | none => s

/-- The engines' part of a frame start, after the flips: load, late bands, spares, rotation, tables, latch and dispatch (R16, R19,
R204, R217 to R222). -/
def engFrameStart (s : State) (load : Nat) : State :=
  let l := min 255 load
  let s1 := (s.setReg BE.LOAD.LOAD l).setReg BE.LOAD.LOAD_PEAK (max l (s.reg BE.LOAD.LOAD_PEAK))
  if s1.flag BE.CTRL.EN then
    let s2 := lateFrameStart s1 s1.eng.running.isSome
    dispatchDue (latchFrameStart (tablesFrameStart (rotateFrameStart (spareFrameStart s2))))
  else s1

/-! ### Engine faults (R216 to R218) -/

/-- The running set is abandoned on every band; it is dispatched again unless a newer one is latched (R217). -/
def abandonSet (s : State) : State :=
  match s.eng.running with
  | none => s
  | some r =>
    let again := match s.eng.latched with
      | some x => some x
      | none => some (r.entries.map (·.block))
    { s with eng := { s.eng with running := none, latched := again } }

/-- Engine `n` is retired and its fault counted (R216). -/
def retireEngine (s : State) (n : Nat) (inj : Bool) : State :=
  let s1 := (s.setReg BE.ACTIVE.ENG (clearBit (s.reg BE.ACTIVE.ENG) n)).setReg BE.SPARE.ENG
    (clearBit (s.reg BE.SPARE.ENG) n)
  let s2 := (s1.setReg BE.RETIRED.ENG (s1.reg BE.RETIRED.ENG ||| 2 ^ n)).bump BE.FAULT_COUNT.COUNT
  let s3 := raiseEither { s2 with eng := { s2.eng with testing := clearBit s2.eng.testing n } } inj (25 + n) 2
  let healthy := (List.range 18).countP (fun e => isActive s3 e || isSpare s3 e)
  if healthy < 8 then raiseEither s3 inj 24 3 else s3

/-- Without a spare, the bands go to the healthy engine of lowest load: a free choice (R218). -/
def shareBands (s : State) (n : Nat) : State :=
  let act := (List.range 18).filter (isActive s)
  if act.length = 0 then s
  else (giveBands s (bandsOf s n) (act.getD (Config.leastLoaded s.free % act.length) 0)).tookFree

/-- An engine fault: the engine stops for good; an active one also aborts the frame, abandons the render set and a Kiln build,
loses its bands' dose increment and asks for a spare (R216 to R218). -/
def faultEngine (s : State) (n : Nat) (inj : Bool) : State :=
  if isActive s n then
    let bands := bandsOf s n
    let s1 := abandonBuild (abandonSet (abortFrame (retireEngine s n inj)))
    let s2 := { s1 with eng := { s1.eng with
      lostBands := s1.eng.lostBands ||| bitsOf 16 (fun b => bands.contains b) } }.setFlag BE.STATUS.DOSE_LOST true
    let spares := (List.range 18).countP (isSpare s2)
    if s2.eng.orphans.length < spares then { s2 with eng := { s2.eng with orphans := s2.eng.orphans ++ [n] } }
    else shareBands s2 n
  else if isSpare s n then retireEngine s n inj
  else s

/-- ENGINE_FAULT: an uncorrectable local-memory error or a blocked write (R216). -/
def execEngineFault (n : Nat) (_kind : EngineFaultKind) (s : State) : Out :=
  .next (if n < 18 ∧ s.flag BE.CTRL.EN then faultEngine s n false else s)

/-- BAND_TIMEOUT: band `b` is not complete 2T after its dispatch (R216). -/
def execBandTimeout (b : Nat) (s : State) : Out :=
  match s.eng.running with
  | none => .next s
  | some r =>
    .next (if s.flag BE.CTRL.EN ∧ (currentEntry r b).isSome then faultEngine s (s.reg (BE.BAND_MAP.ENGINE b)) false else s)

/-- SPARE_READY: one more spare is readied for a faulted engine (R217). -/
def execSpareReady (s : State) : Out :=
  .next (if s.eng.spares < s.eng.orphans.length then { s with eng := { s.eng with spares := s.eng.spares + 1 } } else s)

/-- SPARE_ROTATION: the interval is over; the exchange is made at the next frame start (R219). -/
def execSpareRotation (s : State) : Out :=
  .next (if s.flag BE.CTRL.EN ∧ s.flag BE.CTRL.ROTATE_EN then { s with eng := { s.eng with rotateDue := true } } else s)

/-- SELF_TEST_COMPLETE: a failing spare is retired (R219). -/
def execSelfTestComplete (n : Nat) (pass : Bool) (s : State) : Out :=
  if n < 18 ∧ bit s.eng.testing n then
    let s1 := { s with eng := { s.eng with testing := clearBit s.eng.testing n } }
    .next (if pass then s1 else faultEngine s1 n false)
  else .next s

/-! ### Throttling (R220, R222) -/

/-- PAUSE_PERIOD_START: the pause level set by the thermal rules applies from this period on (R220). -/
def execPausePeriodStart (s : State) : Out := .next (s.setReg BE.LOAD.PAUSE s.thm.pause)

/-- COMPUTE_RESTORED: LOAD has stayed at or below 45 % for 1 s after a step (R222). -/
def execComputeRestored (s : State) : Out :=
  if s.eng.stepWatch ∧ s.reg BE.LOAD.LOAD ≤ 45 then
    .next (raiseEvent { s with eng := { s.eng with stepWatch := false } } 0x0202 (toLe 1 s.mode))
  else .next s

/-! ### Lens records (R212, R213, R397) -/

/-- The lens record passes MAGIC, VERSION and CHECK (R397, R398). -/
def lensValid (b : List Byte) : Bool :=
  (leAt b 0 4 == 0x534E454C) && (leAt b 4 2 == 1)
  && (leAt b 0x7C 4 == (crc32c (BitVec.ofNat 32 (leAt b 0x18 4) ^^^ BitVec.ofNat 32 (leAt b 0x1C 4)) (bytesAt b 0 0x7C)).toNat)

/-- The linear map that agrees with the model at the array's centre, in Q12 bu: H0, V0, HSTEP, VSTEP (R213). -/
def linearMap (optics : Option (List Int)) : Int × Int × Int × Int :=
  match optics with
  | none => (sext 32 0xFEB8A3D7, 0x4CCCCD, 0xA3D7, 0x3333)
  | some h =>
    let e (i : Nat) : Int := h.getD i 0
    let p := beamPos optics 1023 1023
    let w := p.2.2
    let hc := e 0 * 2 ^ 14 * w - p.1 * e 6
    let vr := p.2.1 * e 7 - e 4 * 2 ^ 14 * w
    (roundDiv (4096 * (p.1 * w - 1023 * hc)) (w * w), roundDiv (4096 * (p.2.1 * w + 1023 * vr)) (w * w),
      roundDiv (8192 * hc) (w * w), roundDiv (8192 * vr) (w * w))

/-- Jorosh writes the SHD.MAP values while the shadow engine is off (R213). -/
def writeShadowMap (s : State) : State :=
  if s.flag SHD.CTRL.EN then s
  else
    let m := linearMap s.eng.lensP
    ((s.setReg SHD.MAP_H0.H0 (toBits 32 m.1)).setReg SHD.MAP_V0.V0 (toBits 32 m.2.1)).setReg SHD.MAP_HSTEP.HSTEP
      (toBits 20 m.2.2.1) |>.setReg SHD.MAP_VSTEP.VSTEP (toBits 20 m.2.2.2)

/-- Distance in bu between the model and the linear map in force at pixel centre (c, r), rounded down (R213). -/
def mapResidual (s : State) (c r : Nat) : Nat :=
  let p := beamPos s.eng.lensP (2 * c) (2 * r)
  let hq := sext 32 (s.reg SHD.MAP_H0.H0) + (c : Int) * s.reg SHD.MAP_HSTEP.HSTEP
  let vq := sext 32 (s.reg SHD.MAP_V0.V0) - (r : Int) * s.reg SHD.MAP_VSTEP.VSTEP
  let dh := 4096 * p.1 - hq * p.2.2
  let dv := 4096 * p.2.1 - vq * p.2.2
  divFree (Nat.sqrt (dh * dh + dv * dv).toNat) (4096 * p.2.2.natAbs)

/-- The largest residual over all pixel centres, saturating (R213, R231). -/
def worstResidual (s : State) : Nat :=
  (List.range 1024).foldl (fun m r => (List.range 1024).foldl (fun m c => max m (mapResidual s c r)) m) 0

/-- The lens memory was read: a valid record gives the model, anything else the default with LENS_DEFAULT (R212, R398, R428). -/
def applyLens (s : State) (lens : Option (List Byte)) : State :=
  let ok := match lens with
    | some b => lensValid b
    | none => false
  let b := lens.getD []
  let e := if ok then
      { s.eng with lensP := some ((List.range 9).map (warpH b 0x20)),
                   lensKt := if bit (leAt b 6 2) 0 then sext 16 (leAt b 0x44 2) else 0 }
    else { s.eng with lensP := none, lensKt := 0 }
  let s1 := writeShadowMap ({ s with eng := e }.setFlag BE.OPTICS.SOURCE ok)
  let s2 := s1.setReg BE.OPTICS.RESID (min 255 (worstResidual s1))
  if ok then s2 else raiseEvent s2 0x0102 (toLe 1 (b2n lens.isSome))

end Sys2Proof.Machine
end

