-- ==== Sys2Proof/Machine/Shadow.lean ====
section
/-! DEFINITION. Shadow.lean: context memory, motion prediction, the rasterized rows, publish points and the blank-plane row slots
(05_object_shadowing.md). -/

namespace Sys2Proof.Machine

/-! ### Context slots -/

/-- Context slot `n`. -/
def State.ctxSlot (s : State) (n : Nat) : CtxSlot := sparseGet ⟨none, none⟩ s.shd.slots n

/-- The state with context slot `n` replaced. -/
def State.setSlot (s : State) (n : Nat) (v : CtxSlot) : State :=
  { s with shd := { s.shd with slots := sparseSet ⟨none, none⟩ s.shd.slots n v } }

/-- The active contexts with their slots. -/
def activeCtxs (s : State) : List (Nat × Ctx) :=
  s.shd.slots.filterMap (fun p => p.2.active.map (fun c => (p.1, c)))

/-- SHD.STATUS.BATCH_OPEN: a batch record is staged (R168). -/
def batchOpen (s : State) : Bool :=
  s.shd.slots.any (fun p => match p.2.staged with
    | some x => x.batch
    | none => false)

/-- The slot that holds `id` in its active or staged copy (R167). -/
def slotOfId (s : State) (id : Nat) : Option Nat :=
  (s.shd.slots.find? (fun p =>
    (match p.2.active with
      | some c => c.id == id
      | none => false) ||
    (match p.2.staged with
      | some x => x.ctx.id == id
      | none => false))).map (·.1)

/-- A slot is free when neither of its copies holds a valid record (R167). -/
def slotFree (v : CtxSlot) : Bool :=
  v.active.isNone && (match v.staged with
    | some x => !x.ctx.valid
    | none => true)

/-- `a` is a better victim than `b`: lower priority, then older T0, then higher index (R167). -/
def worse (now : Nat) (a b : Nat × Ctx) : Bool :=
  if a.2.priority ≠ b.2.priority then decide (a.2.priority < b.2.priority)
  else if a.2.t0At now ≠ b.2.t0At now then decide (ltDiff (a.2.t0At now) now < ltDiff (b.2.t0At now) now)
  else decide (b.1 < a.1)

/-- The victim among the slots without a staged record (R167). -/
def victim (s : State) : Option (Nat × Ctx) :=
  ((activeCtxs s).filter (fun p => (s.ctxSlot p.1).staged.isNone)).foldl
    (fun (m : Option (Nat × Ctx)) p => match m with
      | none => some p
      | some q => if worse s.now p q then some p else some q) none

/-- A staged record in slot `n`; an injected double-bit error that waits for one discards it with reason 6 (R186). -/
def stageIn (s : State) (n : Nat) (c : Ctx) (batch : Bool) : State × Nat :=
  if s.injWaits 15 then
    (raiseInjected ((s.takeInj 15).bump SHD.WR_REJECT_COUNT.COUNT) 15 2, 6)
  else (s.setSlot n { s.ctxSlot n with staged := some ⟨c, batch⟩ }, 0)

/-- A refused record: counted, and reported with its reason (R166, R351). -/
def refuseRecord (s : State) (reason : Nat) : State × Nat := (s.bump SHD.WR_REJECT_COUNT.COUNT, reason)

/-- What a record as received fails: its CHECK, its ID, its SHAPE or its T0; 0 for none (R166, R171, R351). -/
def recordFault (s : State) (c : Ctx) : Nat :=
  if c.check ≠ (crc32c (BitVec.ofNat 32 c.id) (bytesAt c.raw 0 0x3C)).toNat then 1
  else if c.id = 0xFFFF then 2
  else if c.shape = 3 then 3
  else if c.valid ∧ s.synced ∧ 4000000 < ltDiff (c.t0At s.now) s.now then 4
  else 0

/-- A new ID takes the lowest free slot, or that of the context it may displace (R167). -/
def placeRecord (s : State) (c : Ctx) (batch : Bool) : State × Nat :=
  match (List.range 256).find? (fun n => slotFree (s.ctxSlot n)) with
  | some n => stageIn s n c batch
  | none => match victim s with
    | none => refuseRecord s 5
    | some (n, v) =>
      if v.priority < c.priority ∧ (v.glare s = false ∨ c.glare s = true) then
        stageIn ((s.setSlot n ⟨none, none⟩).bump SHD.EVICT_COUNT.COUNT) n c batch
      else refuseRecord s 5

/-- A record arrives (R166, R167, R171). The second result is 0 when it is accepted, otherwise the reason of R351. -/
def acceptRecord (s : State) (raw : List Byte) (batch : Bool) : State × Nat :=
  let c : Ctx := { raw := raw, t0 := if s.synced then none else some s.now }
  if recordFault s c ≠ 0 then refuseRecord s (recordFault s c)
  else match slotOfId s c.id with
    | some n => stageIn s n c batch
    | none => if c.valid then placeRecord s c batch else (s, 0)

/-! ### Prediction (R173, R174) -/

/-- Age τ in µs at lamp time `t`, rounded toward minus infinity. -/
def Ctx.age (c : Ctx) (now t : Nat) : Int := ltDiff t (c.t0At now) / 400

/-- A predicted coordinate in Q12 bu (R173). -/
def predict (p0 v a tau : Int) : Int := p0 * 4096 + (v * 256000 * tau + a * 8 * tau * tau + 500000) / 1000000

/-- Growth in Q12 bu at age τ (R174). -/
def Ctx.growth (s : State) (c : Ctx) (tau : Int) : Int :=
  let h : Int := 1000 * c.horizon s
  if tau ≤ h then 0 else c.grow s * 256 * (tau - h) / 1000

/-- The context has expired at age τ (R174). -/
def Ctx.expired (s : State) (c : Ctx) (tau : Int) : Bool := decide (1000 * (c.horizon s + c.life s : Nat) < tau)

/-! ### Shapes (R175, R176) -/

/-- Twice the azimuth of composed column `x`, Q12 bu: in M3's soft mask the centre of a 2 × 2 block (R175, R181). -/
def colAz (s : State) (binned : Bool) (x : Nat) : Int :=
  2 * sext 32 (s.reg SHD.MAP_H0.H0) + (if binned then 4 * x + 1 else 2 * x : Nat) * (s.reg SHD.MAP_HSTEP.HSTEP : Int)

/-- Twice the elevation of composed row `y`. -/
def rowEl (s : State) (binned : Bool) (y : Nat) : Int :=
  2 * sext 32 (s.reg SHD.MAP_V0.V0) - (if binned then 4 * y + 1 else 2 * y : Nat) * (s.reg SHD.MAP_VSTEP.VSTEP : Int)

/-- Vertex offset `i` of a quadrilateral, Q12 bu. -/
def Ctx.vertex (c : Ctx) (i : Nat) : Int × Int := (c.s16 (0x28 + 4 * i) * 4096, c.s16 (0x2A + 4 * i) * 4096)

/-- The largest of four numbers. -/
def max4 (f : Nat → Int) : Int := max (max (f 0) (f 1)) (max (f 2) (f 3))

/-- The point (twice dH, twice dV) from the centre lies in the convex hull of the 16 expanded vertices: on the inner side of every
line along an axis or along a line through two vertices that bounds them (R176). -/
def inHull (c : Ctx) (eH eV dH2 dV2 : Int) : Bool :=
  let side (nH nV : Int) : Bool :=
    decide (nH * dH2 + nV * dV2
      ≤ 2 * (max4 (fun i => nH * (c.vertex i).1 + nV * (c.vertex i).2) + nH.natAbs * eH + nV.natAbs * eV))
  side 1 0 && side (-1) 0 && side 0 1 && side 0 (-1)
  && (List.range 4).all (fun i => (List.range 4).all (fun j =>
      side ((c.vertex j).2 - (c.vertex i).2) ((c.vertex i).1 - (c.vertex j).1)))

/-- A pixel centre lies inside the shape expanded by (eH, eV); a centre on the boundary counts (R176). -/
def insideShape (c : Ctx) (eH eV dH2 dV2 : Int) : Bool :=
  let a : Int := c.hw * 4096 + eH
  let b : Int := c.hh * 4096 + eV
  match c.shape with
  | 0 => decide (dH2.natAbs ≤ 2 * a ∧ dV2.natAbs ≤ 2 * b)
  | 1 => decide (dH2 * dH2 * (b * b) + dV2 * dV2 * (a * a) ≤ 4 * (a * a * (b * b)))
  | _ => inHull c eH eV dH2 dV2

/-- A context evaluated at lamp time `t`: predicted centre and growth, absent when it has expired (R173, R174). -/
def evaluate (s : State) (t : Nat) (c : Ctx) : Option (Int × Int × Int) :=
  let tau := c.age s.now t
  if c.valid = false ∨ c.expired s tau = true then none
  else some (predict (c.s16 4) (c.s16 0xC) (c.s16 0x10) tau, predict (c.s16 6) (c.s16 0xE) (c.s16 0x12) tau,
    c.growth s tau)

/-- Columns of a row of `n` for which `f` holds, as first and last; none when there is none. -/
def interval (n : Nat) (f : Nat → Bool) : Option (Nat × Nat) :=
  let l := (List.range n).filter f
  match l.head?, l.getLast? with
  | some a, some b => some (a, b)
  | _, _ => none

/-- The gap between two intervals of a row when it is 1 to `gap` columns wide (R179). -/
def bridge (gap : Nat) (p q : Nat × Nat) : Option (Nat × Nat) :=
  if p.2 < q.1 ∧ 1 ≤ q.1 - p.2 - 1 ∧ q.1 - p.2 - 1 ≤ gap then some (p.2 + 1, q.1 - 1)
  else if q.2 < p.1 ∧ 1 ≤ p.1 - q.2 - 1 ∧ p.1 - q.2 - 1 ≤ gap then some (q.2 + 1, p.1 - 1)
  else none

/-- All bridges between different items of a list of (interval, value), with the smaller value. -/
def bridges (gap : Nat) : List ((Nat × Nat) × Nat) → List ((Nat × Nat) × Nat)
  | [] => []
  | (i, a) :: t => t.filterMap (fun q => (bridge gap i q.1).map (fun g => (g, min a q.2))) ++ bridges gap t

/-! ### Rows (R177 to R180) -/

/-- The blank-plane row `r` evaluated for lamp time `t` (R177, R179); all zero while the engine is off (R187). -/
def blankRow (s : State) (r t : Nat) : List Nat :=
  if s.flag SHD.CTRL.EN then
    let v2 := rowEl s false r
    let cov (c : Ctx) : Option (Nat × Nat) :=
      if c.glare s ∨ c.dim = 0 then
        match evaluate s t c with
        | none => none
        | some (h, v, g) =>
          let e := c.margin s * 4096 + g
          interval 1024 (fun x => insideShape c e e (colAz s false x - 2 * h) (v2 - 2 * v))
      else none
    let cs := (activeCtxs s).map (·.2)
    let own := cs.filterMap cov
    let br := (bridges (s.reg SHD.CFG.MERGE_GAP) ((cs.filter (·.merge)).filterMap (fun c => (cov c).map (·, 0)))).map (·.1)
    (List.range 1024).map (fun x => b2n ((own ++ br).any (fun p => decide (p.1 ≤ x ∧ x ≤ p.2))))
  else List.replicate 1024 0

/-- m_core of a context (R178). -/
def Ctx.core (c : Ctx) : Nat := c.dim * 16 ||| c.dim / 256

/-- One context's mask value at a pixel (R178). -/
def softValue (s : State) (c : Ctx) (h v g : Int) (az el : Int) : Nat :=
  let hs : Int := s.reg SHD.MAP_HSTEP.HSTEP
  let vs : Int := s.reg SHD.MAP_VSTEP.VSTEP
  let inside (j : Nat) : Bool := insideShape c (g + j * hs) (g + j * vs) (az - 2 * h) (el - 2 * v)
  if inside 0 then c.core
  else match ((List.range c.feather).map (· + 1)).find? inside with
    | some j => c.core + (65535 - c.core) * j / (c.feather + 1)
    | none => 65535

/-- The soft-mask row `y` evaluated for lamp time `t` (R178, R179): 1024 values, or 512 in M3. -/
def softRow (s : State) (y t : Nat) : List Nat :=
  let binned := s.mode == 3
  let n := if binned then 512 else 1024
  let el := rowEl s binned y
  let ev := (activeCtxs s).filterMap (fun p => (evaluate s t p.2).map (fun e => (p.2, e)))
  let core0 := (ev.filter (fun p => p.1.merge)).filterMap (fun p =>
    (interval n (fun x => insideShape p.1 p.2.2.2 p.2.2.2 (colAz s binned x - 2 * p.2.1) (el - 2 * p.2.2.1))).map
      (fun i => (i, p.1.core)))
  let br := bridges (s.reg SHD.CFG.MERGE_GAP) core0
  (List.range n).map (fun x =>
    let m := ev.foldl (fun m p => min m (softValue s p.1 p.2.1 p.2.2.1 p.2.2.2 (colAz s binned x) el)) 65535
    br.foldl (fun m p => if p.1.1 ≤ x ∧ x ≤ p.1.2 then min m p.2 else m) m)

/-- Lamp time of the display midpoint of row `r` in the frame in load: its group's first period start at or after the next frame
start, plus T / 2 (R180), from the unspread phase of the grayscale counter. -/
def displayMidpoint (s : State) (r : Nat) : Nat :=
  let th := modeThirds s.mode
  let start3 := 3 * s.scan.frameLt + th
  let n := pwmN s.modeN11 * 125
  let gsThen := s.scan.gs + (start3 - 3 * s.now)
  let wait := (pwmPhi s.modeN11 * (r / 64) * 125 + 512000 * n - gsThen % (512000 * n)) % n
  (start3 + wait + modeF s.mode) / 3

/-! ### Publish points (R168, R169) -/

/-- The SAFE digest: XOR of the CHECK words of the active, effectively glare-relevant contexts (R252). -/
def digestOf (s : State) : Nat :=
  ((activeCtxs s).filter (fun p => p.2.glare s)).foldl (fun d p => d ^^^ p.2.check) 0

/-- A staged deletion of an effectively glare-relevant context waits for AGREED (R254, R255). -/
def deferred (s : State) (v : CtxSlot) (x : Staged) : Bool :=
  !x.ctx.valid && (match v.active with
    | some c => c.glare s
    | none => false) && s.reg SAFE.STATUS.PATH_STATE != 2

/-- One slot at a publish point: its staged record becomes active, or deletes it (R167, R168). -/
def publishSlot (s : State) (v : CtxSlot) : CtxSlot :=
  match v.staged with
  | none => v
  | some x =>
    if x.batch ∧ s.shd.commitDue = false then v
    else if deferred s v x then { v with staged := some { x with batch := false } }
    else { active := if x.ctx.valid then some x.ctx else none, staged := none }

/-- An expired context leaves its slot: counted, and reported by the object-expiry event (R174, R428). -/
def expireSlot (s : State) (n : Nat) : State :=
  let v := s.ctxSlot n
  match v.active with
  | none => s
  | some c =>
    if c.expired s (c.age s.now s.now) then
      raiseEvent ((s.setSlot n { v with active := none }).bump SHD.EXPIRE_COUNT.COUNT) 0x0401
        (toLe 2 c.id ++ toLe 1 n ++ [0] ++ toLe 2 c.seq)
    else s

/-- A publish point: staged records become active together, expired contexts leave, and the Guard keeps its digest (R168, R174,
R252). -/
def publishPoint (s : State) : State :=
  let slots := s.shd.slots.foldl
    (fun m p => sparseSet ⟨none, none⟩ m p.1 (publishSlot s p.2)) s.shd.slots
  let s1 := { s with shd := { s.shd with slots := slots, commitDue := false } }
  let s2 := s1.shd.slots.foldl (fun t p => expireSlot t p.1) s1
  guardSample s2 (digestOf s2)

/-- BATCH_COMMIT, from a command, a packet or SHD.CTRL.BATCH_COMMIT (R168). -/
def batchCommit (s : State) : State := { s with shd := { s.shd with commitDue := true } }

/-- BATCH_COMMIT: a write of SHD.CTRL.BATCH_COMMIT (R168). -/
def execBatchCommit (s : State) : Out := .next (batchCommit s)

/-- The context-memory controller's timer runs: also while a clock trip leaves the domains on the RC oscillator (R169). -/
def timerRuns (s : State) : Bool :=
  !domainsHeld s
    && (s.reg PWR.STATE.STATE == 0 || s.reg PWR.STATE.STATE == 1 || s.reg PWR.STATE.STATE == 4)

/-- PUBLISH_TIMER: a publish point while no blank-plane pass runs (R169). -/
def execPublishTimer (s : State) : Out := .next (if s.scan.passOn = true ∨ timerRuns s = false then s else publishPoint s)

/-! ### Blank-plane passes (R45 to R48, R182 to R186) -/

/-- BLANK_PASS_START: a pass begins while the raster runs in a mode that has passes (R45, R92). Row 0 of the first pass is
evaluated at its start, since no slot came before it. -/
def execBlankPassStart (s : State) : Out :=
  if s.scan.running ∧ s.mode ≠ 7 ∧ clocksRun s then
    let s1 := s.setReg SCAN.BLANK_STATUS.PASS s.shd.passes
    let ready := if s.scan.passOn then s.shd.blankReady else some (0, blankRow s 0 s.now)
    .next { s1 with
      scan := { s1.scan with passOn := true, passRow := 0 }
      shd := { s1.shd with passes := s.shd.passes + 1, passMismatch := false, blankReady := ready } }
  else .next s

/-- A SECDED event in context memory (R186). -/
def contextEcc (s : State) (e : ContextEcc) : State :=
  match e with
  | .none => s
  | .corrected => raiseFault s 15 1
  | .stagedDouble n =>
    match (s.ctxSlot n).staged with
    | none => s
    | some _ =>
      raiseFault ((s.setSlot n { s.ctxSlot n with staged := none }).bump SHD.WR_REJECT_COUNT.COUNT) 15 2
  | .activeDouble => raiseFault s 15 3

/-- The blank row supplied is written at its slot; without one the row keeps its bits and PASS_LATE sets (R45, R48). -/
def writeBlank (s : State) (p : Nat) : State :=
  match s.shd.blankReady with
  | none => s.setFlag SCAN.BLANK_STATUS.PASS_LATE true
  | some (r, b) =>
    if r = p then
      let clear := List.zipWith (fun n v => if v = 0 then n + 1 else n) (planeRow 0 s.shd.clearPasses p) b
      { s with
        pix := { s.pix with blank := planeSetRow 0 s.pix.blank p b }
        shd := { s.shd with blankReady := none, clearPasses := planeSetRow 0 s.shd.clearPasses p clear } }
    else s.setFlag SCAN.BLANK_STATUS.PASS_LATE true

/-- A mismatch of `n` rows: counted; the first one of a pass raises one CONT fault (R184). -/
def mismatch (s : State) (inj : Bool) (n : Nat) : State :=
  let s1 := (s.bumpBy SHD.MISMATCH_COUNT.COUNT n).setFlag SHD.STATUS.CMP_MISMATCH true
  if inj then raiseInjected s1 13 2
  else if s.shd.passMismatch then s1
  else raiseFault { s1 with shd := { s1.shd with passMismatch := true } } 13 2

/-- The blank row `b` of row `r` waits for its write, and a soft-mask row goes to the Gallery (R182). -/
def takeRows (s : State) (r : Nat) (b : List Nat) (soft : Option (Nat × List Nat)) : State :=
  let s1 := { s with shd := { s.shd with blankReady := some (r, b), softReq := s.shd.softReq.drop 1 } }
  match soft with
  | none => s1
  | some (y, m) => { s1 with shd := { s1.shd with
      soft := sparseSet [] s1.shd.soft y (if m.all (· == 65535) then [] else m), softReady := y :: s1.shd.softReady } }

/-- The blank row and soft-mask row handed over by the rasterizer pair (R182, R184, R185). `old` are the bits the blank row holds;
`soft` is the pending soft-mask row with its values. -/
def handover (s : State) (out : RasterOutcome) (r : Nat) (b old : List Nat) (soft : Option (Nat × List Nat)) : State :=
  match out with
  | .agree => takeRows s r b soft
  | .differ eb lm =>
    let b' := b.mapIdx (fun x v => if eb.contains x then 1 else v)
    let soft' := soft.map (fun p => (p.1, p.2.mapIdx (fun x m =>
      lm.foldl (fun m q => if q.1 = x then min m q.2 else m) m)))
    mismatch (takeRows s r b' soft') false (if eb ≠ [] ∧ lm ≠ [] ∧ soft.isSome then 2 else 1)
  | .single =>
    let s1 := mismatch (takeRows s r (List.zipWith max b old) soft) false 1
    raiseFault (s1.setFlag SHD.STATUS.ROW_SINGLE true) 14 3
  | .neither =>
    raiseFault { s with shd := { s.shd with blankReady := none, softReq := s.shd.softReq.drop 1 } } 14 3

/-- BLANK_ROW_SLOT: publish point, the write of the row evaluated before, the evaluation of the next row and of a pending soft-mask
row, their comparison and handover (R182). Injected faults of sources 13 and 14 act here (R184, R185). -/
def execBlankRowSlot (out : RasterOutcome) (ecc : ContextEcc) (s : State) : Out :=
  let p := s.scan.passRow
  if s.scan.passOn ∧ p < 1024 ∧ clocksRun s then
    let s1 := publishPoint (contextEcc s ecc)
    let s2 := writeBlank s1 p
    let s3 := { s2 with scan := { s2.scan with passRow := p + 1 } }
    let r := (p + 1) % 1024
    let b := blankRow s3 r (s3.now + (if r = 0 then 323 else 203))
    let soft := s3.shd.softReq.head?.map (fun y =>
      (y, softRow s3 y (displayMidpoint s3 (if s3.mode = 3 then 2 * y else y))))
    let old := planeRow 0 s3.pix.blank r
    if s3.injWaits 14 then
      let s4 := s3.takeInj 14
      .next (raiseInjected { s4 with shd := { s4.shd with blankReady := none, softReq := s4.shd.softReq.drop 1 } } 14 3)
    else if s3.injWaits 13 then .next (mismatch (handover (s3.takeInj 13) .agree r b old soft) true 1)
    else .next (handover s3 out r b old soft)
  else .next s

end Sys2Proof.Machine
end

