-- ==== Sys2Proof/Machine/Tatex.lean ====
section
/-! DEFINITION. Tatex.lean: training, packets, forwarding, enumeration, wrap, lamp-time synchronization and quarantine of the two
Tatex ports (10_tatex_link.md). -/

namespace Sys2Proof.Machine

/-! ### Ports -/

/-- Port A is 0 and port B is 1, as in SYNC_PORT (R384). -/
def portNo : Port → Nat
  | .a => 0
  | .b => 1

def State.port (s : State) (p : Nat) : PortSt := s.net.ports.getD p PortSt.idle

/-- The state with port `p` changed. -/
def State.setPort (s : State) (p : Nat) (f : PortSt → PortSt) : State :=
  { s with net := { s.net with ports := s.net.ports.set p (f (s.port p)) } }

/-- STATUS.STATE of port `p` is 3, up (R376). -/
def portUp (s : State) (p : Nat) : Bool := s.reg (TX.STATUS.STATE p) == 3

def topoRing (s : State) : Bool := s.reg TXLA.NODE.TOPO == 2

/-- The ring role: 0 MEMBER, 1 TIME_ROOT, 2 ASSIGNED, 3 CHAIN_END (R356). -/
def ringRole (s : State) : Nat := s.reg TXLA.NODE.ROLE

/-- RATE_MAX, 3 acting as 2 (R374). -/
def rateMax (s : State) (p : Nat) : Nat := min 2 (s.reg (TX.CTRL.RATE_MAX p))

/-- Ticks that `n` bytes take on the wire at rate code `r`: 2.4, 4.8 or 9.6 bytes per tick (R335). -/
def wireTicks (r n : Nat) : Nat := (n * 10 + 24 * 2 ^ r - 1) / (24 * 2 ^ r)

/-- Wire bytes of a packet with `len` payload words: SOP, header, payload, CRC and EOP (R346). -/
def wireBytes (len : Nat) : Nat := 20 + 4 * len

/-! ### Training (R342 to R344) -/

/-- Training starts at step 1; port B of a CHAIN_END stays in electrical idle (R342, R356). -/
def startTraining (s : State) (p : Nat) : State :=
  if ringRole s = 3 ∧ p = 1 then (s.setPort p (fun x => { x with phase := 0 })).setReg (TX.STATUS.STATE p) 1
  else (s.setPort p (fun x => { x with phase := 1, warnRuns := [0, 0, 0, 0], downRuns := [0, 0, 0, 0] })).setReg
    (TX.STATUS.STATE p) 2

/-- The link of an up port is lost: its packets are gone, LINK_DOWN and the event; a loss that is not planned is also a CORR fault,
and a ring node wraps (R345, R358, R367). -/
def linkLost (s : State) (p : Nat) (planned : Bool) : State :=
  if portUp s p then
    let s1 := s.setPort p (fun x => { x with sleepRx := false, cur := none, request := none, toggling := false })
    let s2 := raiseEvent (s1.setFlag (TX.STATUS.LINK_DOWN p) true) 0x0A02 (toLe 1 p ++ toLe 1 (b2n planned))
    let s3 := if planned then s2 else raiseFault s2 (61 + p) 1
    if topoRing s ∧ s.flag (TX.STATUS.WRAP p) = false then
      raiseEvent (s3.setFlag (TX.STATUS.WRAP p) true) 0x0A04 (toLe 1 p)
    else s3
  else s

/-- An up port goes down and trains again at once (R345). -/
def portDown (s : State) (p : Nat) : State :=
  if portUp s p then startTraining ((linkLost s p (s.port p).sleepRx).setReg (TX.STATUS.STATE p) 2) p else s

/-- The port comes up: link-up event; port B stops wrapping at once, port A only after its timer (R342, R358). -/
def portComesUp (s : State) (p rate : Nat) : State :=
  let s1 := s.setPort p (fun x => { x with phase := 0, sleepRx := false, thetas := [], stratum := 0x3FF,
                                           toggling := p == 0 && s.flag (TX.STATUS.WRAP 0) })
  let s2 := raiseEvent ((s1.setReg (TX.STATUS.STATE p) 3).setReg (TX.STATUS.RATE p) rate) 0x0A01
    (toLe 1 p ++ toLe 1 rate)
  if p = 1 ∧ s.flag (TX.STATUS.WRAP 1) then raiseEvent (s2.setFlag (TX.STATUS.WRAP 1) false) 0x0A05 (toLe 1 1) else s2

/-- Training of one port ends in failure at 2.4 Gbaud or makes no progress: TRAIN_FAIL advances (R342). -/
def trainFail (s : State) (p next : Nat) : State :=
  (s.bump (TX.TRAIN_FAIL p)).setPort p (fun x => { x with phase := next })

/-- PORT_EN_SET (R342). -/
def portEnable (s : State) (p : Nat) : State := startTraining (s.setFlag (TX.CTRL.EN p) true) p
def execPortEnSet (p : Port) (s : State) : Out :=
  .next (if s.flag (TX.CTRL.EN (portNo p)) then s else portEnable s (portNo p))

/-- The highest rate in both masks; none without a common rate (R342). -/
def commonRate (s : State) (p mask : Nat) : Option Nat :=
  (List.range 3).reverse.find? (fun r => decide (r ≤ rateMax s p) && bit mask r)

/-- Steps 2 and 3: polarity and lanes are known, TRN2 names the highest common rate (R342). -/
def gotTrn1 (s : State) (p : Nat) (i : Trn1Info) : State :=
  let s1 := (s.setReg (TX.STATUS.LANE_MAP p) i.laneMap.toNat).setReg (TX.STATUS.INVERTED p) i.inverted.toNat
  match commonRate s p i.rates.toNat with
  | none => s1
  | some r => s1.setPort p (fun x => { x with phase := 3, rates := i.rates.toNat, fomReq := i.fomReq, choice := r })

/-- TRN1_RECEIVED: it advances a port in step 1, and takes an up port down (R342, R345). -/
def execTrn1Received (p : Port) (i : Trn1Info) (s : State) : Out :=
  let n := portNo p
  .next (if portUp s n then portDown s n
    else if s.reg (TX.STATUS.STATE n) = 2 ∧ (s.port n).phase = 1 then gotTrn1 s n i else s)

/-- The rate decision of step 6: every lane in both directions reaches the FOM_REQ of its far end (R342). -/
def ratePasses (s : State) (p : Nat) (fom : List Nat) : Bool :=
  (List.range 4).all (fun l => decide ((s.port p).fomReq ≤ (s.port p).fomAch.getD l 0)
    && decide (s.reg (TX.CFG.FOM_MIN p) ≤ fom.getD l 0))

/-- Step 6 decided: up, the next lower rate, or a failed training (R342). -/
def rateDecision (s : State) (p : Nat) (fom : List Nat) : State :=
  let r := (s.port p).choice
  if ratePasses s p fom then portComesUp s p r
  else if r = 0 then trainFail s p 7
  else s.setPort p (fun x => { x with phase := 4, choice := r - 1 })

/-- TRN2_RECEIVED (R342). -/
def execTrn2Received (p : Port) (rate : Nat) (fom : List Nat) (s : State) : Out :=
  let n := portNo p
  let x := s.port n
  .next (if s.reg (TX.STATUS.STATE n) = 2 ∧ rate = x.choice then
      (if x.phase = 3 then s.setPort n (fun y => { y with phase := 4 })
       else if x.phase = 6 then rateDecision s n fom else s)
    else s)

/-- RATE_CHANGE: after the electrical idle both ends run at the chosen rate (R342). -/
def execRateChange (p : Port) (s : State) : Out :=
  let n := portNo p
  .next (if s.reg (TX.STATUS.STATE n) = 2 ∧ (s.port n).phase = 4 then s.setPort n (fun y => { y with phase := 5 }) else s)

/-- The equalizer settings of lane `l`, in range (R343). -/
def setEq (s : State) (p : Nat) (x : Nat × LaneEq) : State :=
  let i := 4 * p + x.1
  ((s.setReg (TX.EQ.CTLE i) (min 7 x.2.ctle)).setReg (TX.EQ.H1 i) (min 63 x.2.h1)).setReg (TX.EQ.H2 i)
    (toBits 5 (max (-16) (min 15 x.2.h2))) |>.setReg (TX.EQ.H3 i) (toBits 5 (max (-16) (min 15 x.2.h3)))

/-- ADAPTATION_COMPLETE: the lanes' equalizers are set and FOM_ACH is filled in (R342, R343). -/
def execAdaptationComplete (p : Port) (lanes : List LaneEq) (s : State) : Out :=
  let n := portNo p
  .next (if s.reg (TX.STATUS.STATE n) = 2 ∧ (s.port n).phase = 5 then
      ((List.zip (List.range 4) lanes).foldl (fun t x => setEq t n x) s).setPort n
        (fun y => { y with phase := 6, fomAch := lanes.map (fun l => min 255 l.fom) })
    else s)

/-- TRAINING_TIMEOUT: 20 ms without progress (R342). -/
def execTrainingTimeout (p : Port) (s : State) : Out :=
  let n := portNo p
  .next (if s.reg (TX.STATUS.STATE n) = 2 ∧ (s.port n).phase ≠ 7 then trainFail s n 1 else s)

/-- TRAINING_RESTART: 10 ms after a failure at 2.4 Gbaud (R342). -/
def execTrainingRestart (p : Port) (s : State) : Out :=
  let n := portNo p
  .next (if s.reg (TX.STATUS.STATE n) = 2 ∧ (s.port n).phase = 7 then s.setPort n (fun y => { y with phase := 1 }) else s)

/-- One kept trial of a DFE tap: lane, tap 1 to 3 and its new value (R344). -/
def keepTap (s : State) (p : Nat) (g : Nat × Nat × Int) : State :=
  let i := 4 * p + g.1
  if g.1 < 4 then
    match g.2.1 with
    | 1 => s.setReg (TX.EQ.H1 i) (max 0 (min 63 g.2.2)).toNat
    | 2 => s.setReg (TX.EQ.H2 i) (toBits 5 (max (-16) (min 15 g.2.2)))
    | 3 => s.setReg (TX.EQ.H3 i) (toBits 5 (max (-16) (min 15 g.2.2)))
    | _ => s
  else s

/-- Runs of readings below a threshold, by lane. -/
def lowRuns (th : Nat) (runs fom : List Nat) : List Nat :=
  (List.range 4).map (fun l => if fom.getD l 0 < th then runs.getD l 0 + 1 else 0)

/-- A lane has read below FOM_WARN three times in a row: FOM_LOW, the event and a CORR fault (R344). -/
def fomWarn (p : Nat) (fom : List Nat) (s : State) (l : Nat) : State :=
  raiseFault (raiseEvent (s.setFlag (TX.STATUS.FOM_LOW p) true) 0x0A03 (toLe 1 p ++ toLe 1 l ++ toLe 1 (fom.getD l 0)))
    (61 + p) 1

/-- The service FOM measurement of an up port (R344). -/
def measureFom (s : State) (p : Nat) (lanes : List LaneEq) (gains : List (Nat × Nat × Int)) : State :=
  let fom := lanes.map (fun l => min 255 l.fom)
  let s1 := (List.range 4).foldl (fun t l => t.setReg (TX.FOM.FOM (4 * p + l)) (fom.getD l 0)) s
  let s2 := gains.foldl (fun t g => keepTap t p g) s1
  let warn := lowRuns (s.reg (TX.CFG.FOM_WARN p)) (s.port p).warnRuns fom
  let down := lowRuns (s.reg (TX.CFG.FOM_DOWN p)) (s.port p).downRuns fom
  let s3 := s2.setPort p (fun x => { x with warnRuns := warn, downRuns := down })
  let s4 := ((List.range 4).filter (fun l => warn.getD l 0 == 3)).foldl (fomWarn p fom) s3
  if down.any (fun n => decide (2 ≤ n)) then portDown s4 p else s4

/-- FOM_MEASUREMENT (R344). -/
def execFomMeasurement (p : Port) (lanes : List LaneEq) (gains : List (Nat × Nat × Int)) (s : State) : Out :=
  let n := portNo p
  .next (if portUp s n ∧ s.flag (TX.CTRL.EQ_FREEZE n) = false then measureFom s n lanes gains else s)

/-- BIT_LOCK_LOSS (R345). -/
def execBitLockLoss (p : Port) (s : State) : Out := .next (portDown s (portNo p))

/-- CODE_ERROR_BURST: the errors are counted, and more than 8 take the port down (R338, R345). -/
def execCodeErrorBurst (p : Port) (n : Nat) (s : State) : Out :=
  let s1 := s.bumpBy (TX.CODE_ERR (portNo p)) n
  .next (if 8 < n then portDown s1 (portNo p) else s1)

/-- ELASTIC_BUFFER_SLIP: counted, and the link goes down (R336). -/
def execElasticBufferSlip (p : Port) (s : State) : Out := .next (portDown (s.bump (TX.CODE_ERR (portNo p))) (portNo p))

/-- RETRAIN (R345). -/
def execRetrain (p : Port) (s : State) : Out := .next (portDown s (portNo p))

/-! ### Sending (R348, R353, R358, R359) -/

/-- The first word of a header without MON and WRAPPED, and the second (R346). -/
def headerBytes (h : Header) : List Byte :=
  toLe 4 (h.type % 16 + h.dest % 1024 * 2 ^ 4 + h.src % 1024 * 2 ^ 14 + h.tspec % 16 * 2 ^ 28)
  ++ toLe 4 (h.seq.toNat + h.len % 1024 * 2 ^ 16)

/-- The packet CRC (R348). -/
def packetCrc (h : Header) (payload : List Byte) : Word :=
  crc32c (BitVec.ofNat 32 ((h.seq.toNat * 65536) ^^^ (h.src * 1024) ^^^ h.dest)) (headerBytes h ++ payload)

/-- A forwarded packet arrives for port `p` or its forward buffer still drains (R353). -/
def fwdBusy (s : State) (p : Nat) : Bool :=
  decide (s.now < (s.port p).drainEnd)
  || [0, 1].any (fun q => match (s.port q).cur with
      | some a => match a.out with
        | some o => o.1 == p
        | none => false
      | none => false)

/-- The local packet sent last is still on the wire. -/
def localBusy (s : State) (p : Nat) : Bool :=
  match (s.port p).sending with
  | some t => decide (s.now < t.start + wireTicks (s.reg (TX.STATUS.RATE p)) (wireBytes t.pkt.hdr.len))
  | none => false

/-- A local packet is handed to port `p`: it starts at once when nothing is in its way, and waits otherwise; a port that is not up
discards it (R352, R353). -/
def sendOn (s : State) (p : Nat) (pkt : Packet) : State :=
  if portUp s p then
    let x : LocalTx := { pkt := pkt, start := s.now, stomps := 0 }
    if fwdBusy s p || localBusy s p then s.setPort p (fun y => { y with waiting := y.waiting ++ [x] })
    else s.setPort p (fun y => { y with sending := some x })
  else s

/-- MON is set on what the monitor sends out of port B with WRAPPED = 0 (R360). -/
def monMark (s : State) (p : Nat) (h : Header) : Header :=
  { h with mon := h.mon || (s.flag TXLA.RING_CFG.MONITOR && p == 1 && !h.wrapped) }

/-- The next packet this node originates, with its SEQ (R346). -/
def newPacket (s : State) (type dest tspec : Nat) (payload : List Byte) : State × Packet :=
  let h : Header := { type := type, dest := dest, src := s.reg TXLA.NODE.ADDR, mon := false, wrapped := false, tspec := tspec,
                      seq := BitVec.ofNat 16 s.net.seq, len := payload.length / 4 }
  ({ s with net := { s.net with seq := (s.net.seq + 1) % 65536 } }, ⟨h, payload⟩)

/-- A packet put out of port `p`, with MON where the monitor sets it. -/
def sendPort (s : State) (p : Nat) (pkt : Packet) : State := sendOn s p { pkt with hdr := monMark s p pkt.hdr }

/-- A local packet routed: in a ring out of port B, or turned back out of port A with WRAPPED; in a chain by address (R358, R359). -/
def routeLocal (s : State) (pkt : Packet) : State :=
  let d := pkt.hdr.dest
  if topoRing s then
    (if portUp s 1 then sendPort s 1 pkt else sendPort s 0 { pkt with hdr := { pkt.hdr with wrapped := true } })
  else if d = 1023 then sendPort (sendPort s 0 pkt) 1 pkt
  else if s.flag TXLA.NODE.ADDR_VALID = false then sendPort s 0 pkt
  else if d ≤ 511 ∧ s.reg TXLA.NODE.ADDR < d then sendPort s 1 pkt
  else if d = s.reg TXLA.NODE.ADDR then s
  else sendPort s 0 pkt

/-- This node originates a packet (R346, R359). -/
def sendLocal (s : State) (type dest tspec : Nat) (payload : List Byte) : State :=
  let p := newPacket s type dest tspec payload
  routeLocal p.1 p.2

/-- This node originates a packet for one port. -/
def sendPortNew (s : State) (p type dest tspec : Nat) (payload : List Byte) : State :=
  let q := newPacket s type dest tspec payload
  sendPort q.1 p q.2

/-- LOCAL_PACKET_RESEND: the first waiting local packet starts once nothing is in its way (R353). -/
def execLocalPacketResend (p : Port) (s : State) : Out :=
  let n := portNo p
  match (s.port n).waiting with
  | [] => .next s
  | x :: t =>
    .next (if portUp s n && !fwdBusy s n && !localBusy s n then
        s.setPort n (fun y => { y with waiting := t, sending := some { x with start := s.now } }) else s)

/-- A dropped MBOX_RSP is noted, to be sent again; the fourth drop of one response advances RSP_LOST instead (R353, R414). -/
def rspDropped (s : State) (pkt : Packet) : State :=
  let n := leAt pkt.payload 0 1 % 8
  let m := s.mbx.boxes.getD n Mb.idle
  if pkt.hdr.type ≠ 5 ∨ m.phase ≠ .done then s
  else if 3 ≤ m.resent then s.bump MBX.RSP_LOST.COUNT
  else { s with mbx := { s.mbx with dropped := n :: s.mbx.dropped } }

/-- A forwarded SOP ends the local packet on the wire of port `p`; the sixteenth stomp in a row drops it (R353). -/
def stompLocal (s : State) (p : Nat) : State :=
  match (s.port p).sending with
  | none => s
  | some x =>
    if localBusy s p then
      if 15 ≤ x.stomps then rspDropped ((s.setPort p (fun y => { y with sending := none })).bump (TX.LOCAL_DROP p)) x.pkt
      else s.setPort p (fun y => { y with sending := none, waiting := { x with stomps := x.stomps + 1 } :: y.waiting })
    else s

/-- PORT_EN_CLEAR: an up port sends a SLEEP NOP first; the loss is planned (R345, R372). -/
def portDisable (s : State) (p : Nat) : State :=
  let s1 := if portUp s p then linkLost (sendPortNew s p 0 1023 4 []) p true else s
  ((s1.setFlag (TX.CTRL.EN p) false).setReg (TX.STATUS.STATE p) 0).setPort p (fun x => { x with phase := 0 })

/-- PORT_EN_CLEAR. -/
def execPortEnClear (p : Port) (s : State) : Out :=
  .next (if s.flag (TX.CTRL.EN (portNo p)) then portDisable s (portNo p) else s)

/-! ### Quarantine (R369) -/

/-- Port `p` enters quarantine; the third within 10 s is held. -/
def quarantine (s : State) (p : Nat) : State :=
  let recent := (s.port p).quarAt.filter (fun t => decide (s.now ≤ t + 4000000000))
  let held := decide (2 ≤ recent.length)
  let s1 := linkLost s p (s.port p).sleepRx
  let s2 := ((s1.bump (TX.QUAR_COUNT p)).setFlag (TX.STATUS.QUAR p) true).setReg (TX.STATUS.STATE p) (if held then 5 else 4)
  let s3 := s2.setPort p (fun x => { x with phase := 0, storm := 0, quarAt := recent ++ [s.now] })
  raiseFault (raiseEvent s3 0x0A0A (toLe 1 p ++ toLe 1 (b2n held))) (61 + p) 1

/-- One more malformed, untrusted or rate-dropped packet in this millisecond (R369). -/
def badPacket (s : State) (p : Nat) : State :=
  let ms := s.now / 400000
  let n := if (s.port p).stormMs = ms then (s.port p).storm + 1 else 1
  let s1 := s.setPort p (fun x => { x with stormMs := ms, storm := n })
  if s.reg TXLA.LIMIT.STORM_TH < n ∧ portUp s p then quarantine s1 p else s1

/-- QUARANTINE_TIMEOUT: the port retrains (R369). -/
def execQuarantineTimeout (p : Port) (s : State) : Out :=
  .next (if s.reg (TX.STATUS.STATE (portNo p)) = 4 then startTraining s (portNo p) else s)

/-- QUARANTINE_RELEASE: a write of RELEASE ends a held quarantine (R369). -/
def execQuarantineRelease (p : Port) (s : State) : Out :=
  .next (if s.reg (TX.STATUS.STATE (portNo p)) = 5 then startTraining s (portNo p) else s)

/-! ### Arrival (R349, R352, R354, R358, R360) -/

/-- The node turns packets that come up to its port A: the port is not up, or was restored a moment ago (R358). -/
def turnsAtA (s : State) (wrapped : Bool) : Bool :=
  topoRing s && (!portUp s 0 || ((s.port 0).toggling && wrapped))

/-- Where a packet arriving on port `p` leaves, and with which WRAPPED; `w` is WRAPPED as judged (R352, R358). -/
def onward (s : State) (p : Nat) (turned w : Bool) : Option (Nat × Bool) :=
  if turned then some (1, w)
  else if portUp s (1 - p) then some (1 - p, w)
  else if topoRing s then some (p, !w)
  else none

/-- NOP packets with TSPEC 1 to 4 are acted on and regenerated by every node (R352). -/
def nopActs (h : Header) : Bool := h.type == 0 && decide (1 ≤ h.tspec ∧ h.tspec ≤ 4)

/-- The forward buffer of port `q` has room for the packet (R354). -/
def fwdRoom (s : State) (p q len : Nat) : Bool :=
  let r := s.reg (TX.STATUS.RATE q)
  decide (s.reg (TX.STATUS.RATE p) ≤ r)
  || decide (((s.port q).drainEnd - s.now) * 24 * 2 ^ r / 10 + 12 + 4 * len ≤ 8192)

/-- The arrival is noted with its disposition. -/
def note (s : State) (p : Nat) (a : Arrival) : State := s.setPort p (fun x => { x with cur := some a })

/-- A forwarded packet begins on its way out of port `q`: it stomps a local packet, and a slower output drains later (R353,
R354). -/
def beginForward (s : State) (p q len : Nat) : State :=
  let s1 := stompLocal s q
  let r := s.reg (TX.STATUS.RATE q)
  if r < s.reg (TX.STATUS.RATE p) then
    s1.setPort q (fun x => { x with drainEnd := max s.now x.drainEnd + wireTicks r (wireBytes len) })
  else s1

/-- A header judged by R352, in its order. -/
def judgeHeader (s : State) (p : Nat) (h : Header) : State :=
  let gone : Arrival := { hdr := h, rx := s.now, drop := true, consume := false, out := none }
  if 9 ≤ h.type ∨ 512 < h.len then note (badPacket (s.bump (TX.MALFORMED p)) p) p gone
  else
    let turned := p == 1 && turnsAtA s h.wrapped
    let w := if turned then !h.wrapped else h.wrapped
    let addr := s.reg TXLA.NODE.ADDR
    let valid := s.flag TXLA.NODE.ADDR_VALID
    if w ∧ p = 0 then note (s.bump (TX.WRAP_DROP p)) p gone
    else if s.flag TXLA.RING_CFG.MONITOR ∧ p = 0 ∧ w = false ∧ h.mon then note (s.bump (TX.ORPHAN p)) p gone
    else if w = false ∧ valid ∧ h.src = addr then note s p gone
    else
      let sync := h.type == 7 || h.type == 8
      let consume := sync || nopActs h || (!w && ((valid && h.dest == addr) || h.dest == 1023))
      let fwd := !sync && !nopActs h && !(valid && h.dest == addr)
      let out := if fwd then onward s p turned w else none
      match out with
      | none => note s p { gone with drop := false, consume := consume }
      | some o =>
        if fwdRoom s p o.1 h.len then
          note (beginForward s p o.1 h.len) p { gone with drop := false, consume := consume, out := some o }
        else note (s.bump (TX.FWD_DROP p)) p { gone with drop := !consume, consume := consume }

/-- PACKET_HEADER_ARRIVAL (R352). -/
def execPacketHeaderArrival (p : Port) (h : Header) (s : State) : Out :=
  .next (if portUp s (portNo p) then judgeHeader s (portNo p) h else s)

/-- The LEN rule of a packet's type (R347). -/
def typeLenOk (h : Header) (payload : List Byte) : Bool :=
  match h.type with
  | 0 => h.len == 0 || h.len == 3
  | 1 => decide (2 ≤ h.len)
  | 2 => decide (leAt payload 0 1 ≤ 31) && h.len == 1 + 16 * leAt payload 0 1
  | 3 => h.len == 8
  | 4 | 5 => decide (1 ≤ h.len ∧ h.len ≤ 65)
  | 6 => decide (1 ≤ h.len)
  | 7 => h.len == 0
  | _ => h.len == 6

/-- The source may deliver its packets here (R368). -/
def trusted (s : State) (h : Header) : Bool :=
  !s.flag TXLA.TRUST.FILTER_EN || !(h.type == 1 || h.type == 2 || h.type == 4 || h.type == 6)
  || h.src == s.reg TXLA.TRUST.HOST0 || h.src == s.reg TXLA.TRUST.HOST1

/-- One allowance with one more packet of `n` bytes; none when it is used up (R369, R382). -/
def allow (s : State) (u : Nat × Nat) (n : Nat) : Option (Nat × Nat) :=
  if u.1 + 1 ≤ max 1 (s.reg TXLA.LIMIT.PKT_MS) ∧ u.2 + n ≤ 1024 * max 1 (s.reg TXLA.LIMIT.KB_MS) then
    some (u.1 + 1, u.2 + n) else none

/-- The consumption limit of a source: the counts after the packet, or none when the packet is in excess (R369). -/
def rateLimit (s : State) (h : Header) : Option Net :=
  let n := 12 + 4 * h.len
  let ms := s.now / 400000
  let t := if s.net.rateMs = ms then s.net else { s.net with rateMs := ms, rates := [], shared := (0, 0) }
  if h.type = 7 ∨ h.type = 8 then some t
  else match t.rates.find? (fun r => r.1 == h.src) with
    | some r => (allow s r.2 n).map (fun u =>
        { t with rates := t.rates.map (fun x => if x.1 = h.src then (h.src, u) else x) })
    | none =>
      if t.rates.length < 32 then (allow s (0, 0) n).map (fun u => { t with rates := (h.src, u) :: t.rates })
      else (allow s t.shared n).map (fun u => { t with shared := u })

/-- A consumed packet that checked good waits for its action, unless its type rule, its source or its rate bars it (R349, R368,
R369). -/
def consumePacket (s : State) (p : Nat) (h : Header) (payload : List Byte) (rx : Nat) : State :=
  if typeLenOk h payload = false then badPacket (s.bump (TX.MALFORMED p)) p
  else if trusted s h = false then badPacket (s.bump (TX.UNTRUSTED p)) p
  else match rateLimit s h with
    | none => badPacket (s.bump (TX.RATE_DROP p)) p
    | some t => { s with net := t }.setPort p (fun x => { x with pkt := some (⟨h, payload⟩, rx) })

/-- The forwarded copy ends, with EOP_BAD when `bad` (R349). -/
def endForward (s : State) (a : Arrival) (payload : List Byte) (bad : Bool) : State :=
  match a.out with
  | none => s
  | some (q, w) =>
    s.setPort q (fun x => { x with lastFwd := some (⟨monMark s q { a.hdr with wrapped := w }, payload⟩, bad) })

/-- The end of the packet in progress on port `p` (R349). -/
def endPacket (s : State) (p : Nat) (payload : List Byte) (crc : Word) (ending : PacketEnding) : State :=
  match (s.port p).cur with
  | none => badPacket (s.bump (TX.MALFORMED p)) p
  | some a =>
    let s1 := s.setPort p (fun x => { x with cur := none })
    if 9 ≤ a.hdr.type ∨ 512 < a.hdr.len then s1
    else if ending = .eopBad then endForward (s1.bump (TX.STOMP_RX p)) a payload true
    else if ending ≠ .eop ∨ payload.length ≠ 4 * a.hdr.len then
      badPacket (endForward (s1.bump (TX.MALFORMED p)) a payload true) p
    else if crc ≠ packetCrc a.hdr payload then
      badPacket (endForward (s1.bump (TX.CRC_ERR p)) a payload true) p
    else
      let s2 := endForward s1 a payload false
      if a.consume then consumePacket s2 p a.hdr payload a.rx else s2

/-- PACKET_END (R349). -/
def execPacketEnd (p : Port) (payload : List Byte) (crc : Word) (ending : PacketEnding) (s : State) : Out :=
  .next (if portUp s (portNo p) then endPacket s (portNo p) payload crc ending else s)

/-- The consumed packet of port `p`, when it has type `type`, and the state without it. -/
def takePacket (s : State) (p type : Nat) : Option (State × Packet × Nat) :=
  match (s.port p).pkt with
  | some x => if x.1.hdr.type = type then some (s.setPort p (fun y => { y with pkt := none }), x.1, x.2) else none
  | none => none

/-! ### Consumed packets (R350, R351) -/

/-- The write lies inside a video window its source has opened (R350). -/
def inWindow (s : State) (src a n : Nat) : Bool :=
  s.net.windows.any (fun w => w.1 == src && w.2.2 != 0 && decide (w.2.1 ≤ a) && decide (a + n ≤ w.2.1 + w.2.2))

/-- VROW_PACKET: the data are written and the fence may advance, or the packet is untrusted (R350). -/
def execVrowPacket (p : Port) (s : State) : Out :=
  match takePacket s (portNo p) 1 with
  | none => .next s
  | some (s1, pkt, _) =>
    let a := 4 * leAt pkt.payload 0 4
    let data := pkt.payload.drop 8
    if inWindow s1 pkt.hdr.src a data.length then
      let s2 := dramWrite s1 a data
      let f := leAt pkt.payload 4 1
      .next (if bit f 7 then fenceAdd s2 (f % 64) (leAt pkt.payload 6 2) else s2)
    else .next (badPacket (s1.bump (TX.UNTRUSTED (portNo p))) (portNo p))

/-- Records `i`, `i + 1`, … applied in order; the refused ones with their reasons (R166 to R168, R351). -/
def applyRecords (batch : Bool) : State → Nat → List (List Byte) → State × List (Nat × Nat)
  | s, _, [] => (s, [])
  | s, i, r :: t =>
    let a := acceptRecord s r batch
    let b := applyRecords batch a.1 (i + 1) t
    (b.1, if a.2 = 0 then b.2 else (i, a.2) :: b.2)

/-- The OBJ_RESULT records of a packet: six refusals in each, at least one record (R351, R428). -/
def objResults (s : State) (seq accepted refused : Nat) : Nat → List (Nat × Nat) → List (List Byte)
  | 0, _ => []
  | n + 1, l =>
    let args := toLe 2 seq ++ toLe 1 accepted ++ toLe 1 refused ++ (l.take 6).flatMap (fun x => toLe 1 x.1 ++ toLe 1 x.2)
    let e := { mkEvent s 0x0402 false args with eseq := (s.evt.eseq + 2 ^ 32 - 1) % 2 ^ 32 }
    eventBytes e :: (if l.length ≤ 6 then [] else objResults s seq accepted refused n (l.drop 6))

/-- OBJ_PACKET: records, commit and the object-result event (R351). -/
def execObjPacket (p : Port) (s : State) : Out :=
  match takePacket s (portNo p) 2 with
  | none => .next s
  | some (s1, pkt, _) =>
    let n := leAt pkt.payload 0 1
    let recs := (List.range n).map (fun i => bytesAt pkt.payload (4 + 64 * i) 64)
    let a := applyRecords (bit pkt.hdr.tspec 0) s1 0 recs
    let s2 := if bit pkt.hdr.tspec 1 then batchCommit a.1 else a.1
    if (bit pkt.hdr.tspec 2 || !a.2.isEmpty) && pkt.hdr.src != 1023 then
      .next (sendLocal s2 6 pkt.hdr.src 0
        (objResults s2 pkt.hdr.seq.toNat (n - a.2.length) a.2.length 6 a.2).flatten)
    else .next s2

/-- SAFE_PACKET: a path-A record reaches the Guard (R250, R251). -/
def execSafePacket (p : Port) (s : State) : Out :=
  match takePacket s (portNo p) 3 with
  | none => .next s
  | some (s1, pkt, _) => .next (safeRecord s1 false pkt.payload)

/-! ### Enumeration (R356, R357) -/

/-- The payload of ENUM, ENUM_END and TOPO (R357). -/
def enumBody (b : List Byte) : EnumBody :=
  { round := leAt b 0 2, next := leAt b 2 2, count := leAt b 4 2, origin := leAt b 6 2, ring := bit (leAt b 8 2) 0,
    isPartial := bit (leAt b 8 2) 1 }

def enumBytes (e : EnumBody) : List Byte :=
  toLe 2 e.round ++ toLe 2 e.next ++ toLe 2 e.count ++ toLe 2 e.origin
  ++ toLe 2 (b2n e.ring + 2 * b2n e.isPartial) ++ [0, 0]

/-- The node takes address `a` (R357, R380). -/
def takeAddress (s : State) (a : Nat) : State := (s.setReg TXLA.NODE.ADDR a).setFlag TXLA.NODE.ADDR_VALID true

/-- A node of a ring wraps at a port that is not up; in a chain no port wraps (R358). -/
def wrapFor (ring : Bool) (s : State) (p : Nat) : State :=
  let w := ring && !portUp s p
  if s.flag (TX.STATUS.WRAP p) = w then s
  else raiseEvent (s.setFlag (TX.STATUS.WRAP p) w) (if w then 0x0A04 else 0x0A05) (toLe 1 p)

/-- TOPO and the node count recorded, with the enumeration-done event (R357). -/
def recordTopo (s : State) (e : EnumBody) : State :=
  let t := if e.ring then 2 else 1
  let s1 := { s with net := { s.net with topoSeen := some e.round } }
  let s2 := [0, 1].foldl (wrapFor e.ring) s1
  raiseEvent ((s2.setReg TXLA.NODE.TOPO t).setReg TXLA.NODE.NODES e.count) 0x0A06 (toLe 2 e.count ++ toLe 1 t)

/-- The origin's enumeration has come round: it broadcasts TOPO (R357). -/
def broadcastTopo (s : State) (e : EnumBody) : State :=
  let s1 := recordTopo { s with net := { s.net with origin := none } } e
  sendLocal s1 0 1023 3 (enumBytes e)

/-- A node that cannot send an ENUM on answers the origin with ENUM_END; PARTIAL marks a wrap (R357). -/
def passEnum (s : State) (e : EnumBody) : State :=
  if portUp s 1 ∧ s.flag (TX.STATUS.WRAP 1) = false ∧ ringRole s ≠ 3 then sendPortNew s 1 0 1023 1 (enumBytes e)
  else sendPortNew s 0 0 e.origin 2 (enumBytes { e with isPartial := s.flag (TX.STATUS.WRAP 1) })

/-- An ENUM of a round not seen before, on port A of a node that is not its origin (R357). -/
def takeEnum (s : State) (e : EnumBody) : State :=
  let s1 := { s with net := { s.net with enumSeen := some e.round } }
  if ringRole s = 2 then passEnum s1 { e with count := e.count + 1 }
  else if e.next ≤ 511 then passEnum (takeAddress s1 e.next) { e with count := e.count + 1, next := e.next + 1 }
  else passEnum (raiseEvent s1 0x0A07 []) { e with count := e.count + 1 }

/-- A received ENUM is acted on (R357). -/
def nopEnum (p : Port) (s : State) : State :=
  match takePacket s (portNo p) 0 with
  | none => s
  | some (s1, pkt, _) =>
    let e := enumBody pkt.payload
    if pkt.hdr.tspec ≠ 1 ∨ p = .b then s1
    else if s1.net.origin = some e.round then broadcastTopo s1 { e with ring := true }
    else if s1.net.enumSeen = some e.round then s1
    else takeEnum s1 e

/-- A received ENUM_END: at the origin it leads to TOPO; another node sends it on toward the origin (R352, R357). -/
def nopEnumEnd (p : Port) (s : State) : State :=
  match takePacket s (portNo p) 0 with
  | none => s
  | some (s1, pkt, _) =>
    let e := enumBody pkt.payload
    if pkt.hdr.tspec ≠ 2 then s1
    else if s1.net.origin = some e.round then broadcastTopo s1 { e with ring := e.isPartial }
    else sendPortNew s1 0 0 e.origin 2 pkt.payload

/-- NOP_TOPO: recorded once, and sent on (R357). -/
def execNopTopo (p : Port) (s : State) : Out :=
  match takePacket s (portNo p) 0 with
  | none => .next s
  | some (s1, pkt, _) =>
    let e := enumBody pkt.payload
    if pkt.hdr.tspec ≠ 3 ∨ s1.net.topoSeen = some e.round then .next s1
    else .next (sendPortNew (recordTopo s1 e) (1 - portNo p) 0 1023 3 pkt.payload)

/-- NOP_SLEEP: the next loss of the link is planned (R372). -/
def execNopSleep (p : Port) (s : State) : Out :=
  match takePacket s (portNo p) 0 with
  | none => .next s
  | some (s1, pkt, _) =>
    .next (if pkt.hdr.tspec = 4 then s1.setPort (portNo p) (fun x => { x with sleepRx := true }) else s1)

/-- WRAP_END_TIMER: 250 µs after its port A was restored the node stops turning packets (R358). -/
def execWrapEndTimer (s : State) : Out :=
  if (s.port 0).toggling then
    .next (raiseEvent ((s.setPort 0 (fun x => { x with toggling := false })).setFlag (TX.STATUS.WRAP 0) false) 0x0A05
      (toLe 1 0))
  else .next s

/-! ### Lamp-time synchronization (R361 to R365) -/

/-- A timestamp: lamp time [55:0] and a fraction in 1/256 tick (R361). -/
def stamp (s : State) (lt : Nat) : Nat := (lt % 2 ^ 56) * 256 + s.net.frac

/-- SYNC_TIMER: a SYNC_REQ out of each up port; one that has to wait makes no exchange (R361). -/
def sendSync (s : State) (p : Nat) : State :=
  if portUp s p then
    let seq := s.net.seq
    let free := !(fwdBusy s p || localBusy s p)
    (sendPortNew s p 7 1023 0 []).setPort p (fun x => { x with request := if free then some (stamp s s.now, seq) else none })
  else s
def execSyncTimer (s : State) : Out := .next (sendSync (sendSync s 0) 1)

/-- The stratum this node reports (R362). -/
def ownStratum (s : State) : Nat :=
  if ringRole s = 1 then (if s.net.rootSet then 0 else 0x3FF) else s.reg TXLA.SYNC_STATUS.STRATUM

/-- SYNC_REQ_PACKET: answered at once with a SYNC_ACK (R361). -/
def execSyncReqPacket (p : Port) (s : State) : Out :=
  match takePacket s (portNo p) 7 with
  | none => .next s
  | some (s1, pkt, rx) =>
    .next (sendPortNew s1 (portNo p) 8 1023 0
      (toLe 2 pkt.hdr.seq.toNat ++ toLe 2 (ownStratum s1) ++ [0, 0, 0, 0] ++ toLe 8 (stamp s1 rx) ++ toLe 8 (stamp s1 s1.now)))

/-- Lamp time moved by `d`, in 1/256 tick. -/
def moveLt (s : State) (d : Int) : State :=
  let t := ((s.lt.toNat * 256 + s.net.frac : Nat) : Int) + d
  { s with lt := BitVec.ofInt 64 (t / 256), net := { s.net with frac := (t % 256).toNat } }

/-- The lower middle value of a list of numbers. -/
def medianInt (l : List Int) : Int :=
  let sorted := l.foldl (fun (acc : List Int) x => acc.filter (fun y => decide (y ≤ x)) ++ [x]
    ++ acc.filter (fun y => decide (x < y))) []
  sorted.getD ((l.length - 1) / 2) 0

/-- A signed 64-bit difference. -/
def diff64 (a b : Nat) : Int := sext 64 ((a + 2 ^ 64 - b % 2 ^ 64) % 2 ^ 64)

/-- The sync port and the stratum follow what the partners report (R362). -/
def chooseSync (s : State) : State :=
  let a := (s.port 0).stratum
  let b := (s.port 1).stratum
  let cur := s.reg TXLA.SYNC_STATUS.SYNC_PORT
  let p := if a < b then 0 else if b < a then 1 else cur
  let st := if ringRole s = 1 then ownStratum s else if min a b = 0x3FF then 0x3FF else min a b + 1
  (s.setReg TXLA.SYNC_STATUS.SYNC_PORT p).setReg TXLA.SYNC_STATUS.STRATUM st

/-- The correction of lamp time after a valid exchange on the sync port (R363, R364). -/
def correct (s : State) (p : Nat) (theta : Int) : State :=
  let s0 := { s with net := { s.net with exchanges := s.net.exchanges + 1 } }
  if s.synced = false ∧ s.net.stepped = false then
    let s1 := (moveLt s0 theta).setPort p (fun x => { x with thetas := [] })
    { s1 with net := { s1.net with stepped := true, slew := 0 } }
  else
    let m := medianInt (s.port p).thetas
    let s1 := s0.setReg TXLA.SYNC_STATUS.OFFSET (toBits 16 (max (-32768) (min 32767 m)))
    let big := 4096 * 256 < m.natAbs
    let runs := if big then s.net.bigRuns + 1 else 0
    let s2 := { s1 with net := { s1.net with bigRuns := runs } }
    if big ∧ 3 ≤ runs then
      let s3 := (moveLt s2 m).setPort p (fun x => { x with thetas := [] })
      let s4 := { s3 with net := { s3.net with bigRuns := 0, slew := 0 } }
      raiseEvent ((s4.setFlag TXLA.SYNC_STATUS.LT_STEP true).bump TXLA.STEP_COUNT.COUNT) 0x0A08 (toLe 8 (toBits 64 m))
    else
      let s3 := if big then s2 else { s2 with net := { s2.net with slew := m } }
      if s.synced = false ∧ 8 ≤ s3.net.exchanges ∧ m.natAbs ≤ 128 ∧ (s.port p).stratum ≠ 0x3FF then
        ({ s3 with synced := true }).setFlag TXLA.SYNC_STATUS.SYNCED true
      else s3

/-- SYNC_ACK_PACKET: the exchange completes and the node corrects its lamp time (R361 to R364). -/
def execSyncAckPacket (p : Port) (t4 : BitVec 64) (s : State) : Out :=
  let n := portNo p
  match takePacket s n 8 with
  | none => .next s
  | some (s1, pkt, _) =>
    match (s1.port n).request with
    | none => .next s1
    | some (t1, seq) =>
      if leAt pkt.payload 0 2 ≠ seq then .next s1
      else
        let t2 := leAt pkt.payload 8 8
        let t3 := leAt pkt.payload 0x10 8
        let a := roundDiv (sext 16 (s.reg (TX.ASYM.ASYM n)) * 256) 2500
        let up := diff64 t2 t1
        let back := diff64 t4.toNat t3
        let theta := (up - back - a) / 2
        let s2 := (s1.setPort n (fun x => { x with request := none, stratum := leAt pkt.payload 2 2 % 1024,
                                                   thetas := (theta :: x.thetas).take 8 })).setReg (TX.DELAY.DELAY n)
          (toBits 24 ((up + back) / 2))
        let s3 := chooseSync s2
        .next (if s3.reg TXLA.SYNC_STATUS.SYNC_PORT = n ∧ ringRole s ≠ 1 ∧ (s3.port n).stratum ≠ 0x3FF then
            correct s3 n theta else s3)

/-- SYNC_ACK_TIMEOUT: the exchange is void (R361). -/
def execSyncAckTimeout (p : Port) (s : State) : Out := .next (s.setPort (portNo p) (fun x => { x with request := none }))

/-- TIME_SET_SEND: each up port sends a TIME set (R340). -/
def execTimeSetSend (s : State) : Out :=
  let send (t : State) (p : Nat) : State :=
    if portUp t p then t.setPort p (fun x => { x with timeSent := some t.now }) else t
  .next (send (send s 0) 1)

/-- TIME_SET_RECEIVED: the third consecutive difference above 8 ticks on the sync port is reported (R365). -/
def execTimeSetReceived (p : Port) (lt : LampTime) (s : State) : Out :=
  let n := portNo p
  if portUp s n ∧ s.reg TXLA.SYNC_STATUS.SYNC_PORT = n then
    let d := diff64 (lt.toNat * 256 + s.reg (TX.DELAY.DELAY n)) (s.lt.toNat * 256 + s.net.frac)
    let runs := if 2048 < d.natAbs then s.net.divergeRuns + 1 else 0
    let s1 := { s with net := { s.net with divergeRuns := runs } }
    .next (if runs = 3 then
        raiseFault (raiseEvent (s1.setFlag TXLA.SYNC_STATUS.LT_DIVERGE true) 0x0A09 (toLe 4 (toBits 32 (d.tdiv 256)))) 63 1
      else s1)
  else .next s

/-! ### Sleep (R371, R372) -/

/-- The Tatex block refuses CELLAR and DEEP (R371). -/
def tatexRefuses (s : State) : Bool :=
  !s.flag TXLA.RING_CFG.ALLOW_RING_BREAK && (topoRing s || (portUp s 0 && portUp s 1))

/-- The Tatex block accepts sleep: each up port sends a SLEEP NOP and enters electrical idle (R372). -/
def tatexSleep (s : State) : State :=
  let one (t : State) (p : Nat) : State :=
    let t1 := if portUp t p then linkLost (sendPortNew t p 0 1023 4 []) p true else t
    (t1.setReg (TX.STATUS.STATE p) (if t.flag (TX.CTRL.EN p) then 1 else 0)).setPort p (fun x => { x with phase := 0 })
  one (one s 0) 1

end Sys2Proof.Machine
end

