-- ==== Sys2Proof/Machine/Mailbox.lean ====
section
/-! DEFINITION. Mailbox.lean: mailboxes and doorbells, acceptance and ordering, responses, sessions and the event sinks
(12_mailbox_command_set.md R410 to R422, R427; R392 for MB7 over CAN). -/

namespace Sys2Proof.Machine

/-! ### Mailboxes -/

def State.mb (s : State) (n : Nat) : Mb := s.mbx.boxes.getD n Mb.idle

/-- The state with mailbox `n` changed. -/
def State.setMb (s : State) (n : Nat) (f : Mb → Mb) : State :=
  { s with mbx := { s.mbx with boxes := s.mbx.boxes.set n (f (s.mb n)) } }

/-- The mailbox is BUSY (R410). -/
def Mb.busy (m : Mb) : Bool := m.phase != .idle && m.phase != .done

/-- MBX.STATE of mailbox `m` (R429). -/
def Mb.code (m : Mb) : Nat := if m.phase = .idle then 0 else if m.phase = .done then 2 else 1

/-- Path that owns mailbox `n`: 0 SPI, 1 Tatex, 2 CAN, 3 either (R411). -/
def mbOwner (s : State) (n : Nat) : Nat :=
  if n = 7 ∧ s.flag CAN.CTRL.DIAG_EN then 2
  else match bits (s.reg MBX.PATH.PATH) (2 * n) 2 with
    | 2 => 1
    | 3 => 3
    | _ => 0

/-- Path `path` (0 SPI, 1 Tatex, 2 CAN) may ring mailbox `n`. A mailbox of either path belongs to the one that rang it while it is BUSY
(R411). -/
def mayRing (s : State) (path n : Nat) : Bool :=
  mbOwner s n == path || (mbOwner s n == 3 && path != 2 && (!(s.mb n).busy || (s.mb n).path == path))

/-- Fields of a request header (R416). -/
def reqOp (b : List Byte) : Nat := leAt b 0 2
def reqTag (b : List Byte) : Nat := leAt b 2 1
def reqFlags (b : List Byte) : Nat := leAt b 3 1
def reqLen (b : List Byte) : Nat := leAt b 4 2

/-- The parameters of a request. -/
def reqParams (b : List Byte) : List Byte := bytesAt b 8 (reqLen b)

/-- Mailbox `n` is rung: it becomes BUSY, and in LANDING the ring wakes the device (R412, R413, R467). -/
def ring (s : State) (n path src : Nat) (bcast : Bool) (last : Option (List Byte)) : State :=
  let s1 := s.setMb n (fun m => { m with phase := .rung, path := path, src := src, bcast := bcast, rungAt := s.now, auth := none, last := last,
                                         resent := 0 })
  wakeBy { s1 with mbx := { s1.mbx with rings := s1.mbx.rings ++ [n], dropped := s1.mbx.dropped.filter (· != n) } } 4

/-! ### Responses (R414, R417, R420) -/

/-- Header and data of a response. -/
def rspBody (op tag status flags : Nat) (data : List Byte) : List Byte :=
  toLe 2 op ++ toLe 1 tag ++ toLe 1 status ++ toLe 2 data.length ++ toLe 2 flags ++ data

/-- A response with its trailer where a session authenticated the request (R420). -/
def withTrailer (auth : Option (List Byte × Nat)) (req body : List Byte) : List Byte :=
  match auth with
  | none => body
  | some (ks, _) =>
    let b := body ++ bytesAt req (8 + reqLen req) 4
    b ++ (cmac ks b).take 8

/-- An MBOX_RSP to `src` for mailbox `n` (R347, R414). -/
def sendRsp (s : State) (src n : Nat) (rsp : List Byte) : State :=
  let body := [BitVec.ofNat 8 n, 0, 0, 0] ++ rsp.take 256
  sendLocal s 5 src 0 (padTo ((body.length + 3) / 4 * 4) body)

/-- Segments `k`, `k + 1`, … of a message over CAN: FIRST in bit 7, LAST in bit 6, the number in [5:0] (R392). -/
def canSegments (k : Nat) : Nat → List Byte → List (List Byte)
  | 0, _ => []
  | fuel + 1, l =>
    let last := decide (l.length ≤ 63)
    (BitVec.ofNat 8 (128 * b2n (k == 0) + 64 * b2n last + k % 64) :: l.take 63)
      :: (if last then [] else canSegments (k + 1) fuel (l.drop 63))

/-- A response sent over CAN (R392). -/
def canRespond (s : State) (rsp : List Byte) : State := { s with mbx := { s.mbx with canTx := canSegments 0 8 rsp } }

/-- The owner is told of the response in mailbox `n` (R414, R422). -/
def tellOwner (s : State) (n status : Nat) (rsp : List Byte) : State :=
  let m := s.mb n
  match m.path with
  | 0 => raiseEvent s 0x0C03 (toLe 1 n ++ toLe 1 (reqTag m.req) ++ toLe 1 status)
  | 1 => if m.bcast ∧ reqOp m.req ≠ 0x0A02 then s else sendRsp s m.src n rsp
  | _ => canRespond s rsp

/-- The command of mailbox `n` completes: the response is written with `flags` in its RFLAGS, the mailbox is DONE and its owner is
told (R414, R417). -/
def respondWith (flags : Nat) (s : State) (n status : Nat) (data : List Byte) : State :=
  let m := s.mb n
  let d := if status = 0 ∨ status = 0x10 then data else []
  let rsp := withTrailer m.auth m.req (rspBody (reqOp m.req) (reqTag m.req) status (flags + 2 * b2n m.auth.isSome) d)
  let s1 := s.setMb n (fun m => { m with rsp := padTo 256 rsp, phase := .done })
  tellOwner { s1 with mbx := { s1.mbx with accepted := s1.mbx.accepted.filter (· != n),
                                           rings := s1.mbx.rings.filter (· != n) } } n status rsp

/-- The command of mailbox `n` completes without a flag of its own. -/
def respond (s : State) (n status : Nat) (data : List Byte) : State := respondWith 0 s n status data

/-- The stored response of mailbox `n`, with `flags` added to its RFLAGS (R415). -/
def storedRsp (s : State) (n flags : Nat) : List Byte :=
  let m := s.mb n
  withTrailer m.auth m.req
    (rspBody (leAt m.rsp 0 2) (leAt m.rsp 2 1) (leAt m.rsp 3 1) (leAt m.rsp 6 2 + flags) (bytesAt m.rsp 8 (leAt m.rsp 4 2)))

/-- A dropped response of mailbox `n` is sent again (R414). -/
def resendRsp (s : State) (n : Nat) : State :=
  let s1 := s.setMb n (fun x => { x with resent := x.resent + 1 })
  let s2 := { s1 with mbx := { s1.mbx with dropped := s1.mbx.dropped.filter (· != n) } }
  sendRsp s2 (s.mb n).src n (storedRsp s2 n 0)

/-- MBOX_RSP_RESEND: a dropped response is sent again, up to three times (R414). -/
def execMboxRspResend (mb : Nat) (s : State) : Out :=
  .next (if mb < 8 ∧ mb ∈ s.mbx.dropped ∧ (s.mb mb).phase = .done ∧ (s.mb mb).path = 1 then resendRsp s mb else s)

/-! ### Rings (R411, R412, R422) -/

/-- One SPI doorbell bit. -/
def spiRing (s : State) (n : Nat) : State :=
  if mayRing s 0 n = false ∨ (s.mb n).busy then s.setFlag MBX.STATUS.RING_IGN true
  else ring s n 0 0 false none

/-- DOORBELL: its bits ring in ascending mailbox number (R412, R413). -/
def doorbell (s : State) (w : Nat) : State := ((List.range 8).filter (bit w)).foldl spiRing s
def execDoorbell (w : Word) (s : State) : Out := .next (doorbell s w.toNat)

/-- MBX_ACK: DONE mailboxes return to IDLE (R412). -/
def mbxAck (s : State) (w : Nat) : State :=
  (List.range 8).foldl (fun t n =>
    if bit w n ∧ (t.mb n).phase = .done then t.setMb n (fun m => { m with phase := .idle }) else t) s
def execMbxAck (w : Word) (s : State) : Out := .next (mbxAck s w.toNat)

/-- Opcodes that a broadcast may carry (R422). -/
def broadcastOps : List Nat := [0x0201, 0x0202, 0x0401, 0x0901, 0x0A02]

/-- A Tatex request for mailbox `n` with the request bytes `b` (R411, R412, R415, R422). -/
def tatexRequest (s : State) (p n src : Nat) (bcast : Bool) (b : List Byte) : State :=
  let op := reqOp b
  let bare (status : Nat) : State :=
    if bcast ∧ op ≠ 0x0A02 then s else sendRsp s src n (rspBody op (reqTag b) status 0 [])
  if bcast ∧ op ∉ broadcastOps then badPacket (s.bump (TX.MALFORMED p)) p
  else if bcast ∧ op = 0x0A02 ∧ leAt b 8 8 ≠ Config.serial.toNat then s
  else if mayRing s 1 n = false then bare 9
  else
    let m := s.mb n
    if m.phase = .done ∧ m.path = 1 ∧ m.src = src ∧ m.last = some b then
      (if bcast ∧ op ≠ 0x0A02 then s else sendRsp s src n (storedRsp s n 4))
    else if m.busy then bare 2
    else ring (s.setMb n (fun x => { x with req := padTo 256 b })) n 1 src bcast (some b)

/-- MBOX_REQ_PACKET (R412). -/
def execMboxReqPacket (p : Port) (s : State) : Out :=
  match takePacket s (portNo p) 4 with
  | none => .next s
  | some (s1, pkt, _) =>
    .next (tatexRequest s1 (portNo p) (leAt pkt.payload 0 1 % 8) pkt.hdr.src (pkt.hdr.dest == 1023) (pkt.payload.drop 4))

/-- A received frame matches the identifier register `id`, `ide` (R408). -/
def canMatches (f : CanFrame) (ide : Bool) (id : Nat) : Bool := f.ide == ide && f.id == id

/-- A complete CAN request rings MB7, or gets BUSY (R392, R412). -/
def canRequest (s : State) (b : List Byte) : State :=
  let s1 := { s with mbx := { s.mbx with canRx := none } }
  if (s1.mb 7).busy then canRespond s1 (rspBody (reqOp b) (reqTag b) 2 0 [])
  else ring (s1.setMb 7 (fun x => { x with req := padTo 256 b })) 7 2 0 false none

/-- One segment of a CAN request (R392). A FIRST that arrives mid-request discards the partial one and begins another. -/
def canSegment (s : State) (data : List Byte) : State :=
  let h := leAt data 0 1
  let body := data.drop 1
  let last := bit h 6
  let begin_ (t : State) : State :=
    if h % 64 ≠ 0 then t.bump CAN.DROP.COUNT
    else if last then canRequest t body
    else { t with mbx := { t.mbx with canRx := some (1, body) } }
  match s.mbx.canRx with
  | none => if bit h 7 then begin_ s else s.bump CAN.DROP.COUNT
  | some (k, acc) =>
    let gone := { s with mbx := { s.mbx with canRx := none } }.bump CAN.DROP.COUNT
    if bit h 7 then begin_ gone
    else if h % 64 ≠ k then gone
    else if last then canRequest s (acc ++ body)
    else { s with mbx := { s.mbx with canRx := some ((k + 1) % 64, acc ++ body) } }

/-- CAN_DIAG_SEGMENT (R392). -/
def execCanDiagSegment (f : CanFrame) (s : State) : Out :=
  .next (if s.flag CAN.CTRL.EN ∧ s.flag CAN.CTRL.DIAG_EN
        ∧ canMatches f (s.flag CAN.DIAG_RX_ID.IDE) (s.reg CAN.DIAG_RX_ID.ID) then
      (if f.fd then canSegment s f.data else s.bump CAN.DROP.COUNT) else s)

/-! ### Acceptance and ordering (R413, R416) -/

/-- COMMAND_ACCEPT: rung commands are accepted in ring order (R413). -/
def acceptRings (s : State) : State :=
  let s1 := s.mbx.rings.foldl (fun t n => t.setMb n (fun m => { m with phase := .accepted })) s
  { s1 with mbx := { s1.mbx with accepted := s1.mbx.accepted ++ s1.mbx.rings, rings := [] } }
def execCommandAccept (s : State) : Out := .next (if supUp s then acceptRings s else s)

/-- The single objects a command acts on: 1 layer slot, 2 fence, 3 LUT table, 4 render set, 5 aux engine, 6 MRAM record, 7 context
ID (R416). -/
def cmdObjects (b : List Byte) : List (Nat × Nat) :=
  let p := reqParams b
  match reqOp b with
  | 0x0301 => [(1, leAt p 0 1)]
  | 0x0302 => [(2, leAt p 0 1)]
  | 0x0303 => [(3, leAt p 0 1)]
  | 0x0501 | 0x0502 | 0x0503 => [(4, 0)]
  | 0x0B02 => [(5, leAt p 0 1)]
  | 0x0D04 | 0x0D05 => [(6, leAt p 0 2)]
  | 0x0703 => [(6, 0x11)]
  | 0x0401 => (List.range (leAt p 1 1)).map (fun i => (7, leAt p (4 + 64 * i) 2))
  | 0x0402 => if leAt p 0 1 = 1 then [(7, leAt p 2 2)] else []
  | _ => []

/-- OBJ_READ by slot and OBJ_CLEAR name no single ID (R416). -/
def anyContext (b : List Byte) : Bool := reqOp b == 0x0403 || (reqOp b == 0x0402 && leAt (reqParams b) 0 1 == 0)

/-- Two commands act on the same object. -/
def cmdsClash (a b : List Byte) : Bool :=
  (cmdObjects a).any (fun x => (cmdObjects b).contains x)
  || (reqOp a / 256 == 4 && reqOp b / 256 == 4 && (anyContext a || anyContext b))

/-- Command `n` may start: its predecessors under FENCE, ORDERED and shared objects have completed (R416). -/
def mayStart (s : State) (n : Nat) : Bool :=
  let b := (s.mb n).req
  let f := reqFlags b
  (s.mbx.accepted.takeWhile (· != n)).all (fun k =>
    let x := (s.mb k).req
    let g := reqFlags x
    !(bit f 0) && !(bit f 1 && bit g 1 && bits f 3 3 == bits g 3 3) && !cmdsClash x b)

/-! ### Sessions (R419, R420) -/

/-- AUTH mark of a command: 0 none, 1 A, 2 S; none for an unknown opcode (R423). -/
def cmdAuth (op : Nat) : Option Nat :=
  if op ∈ [0x0101, 0x0102, 0x0103, 0x0104, 0x0106, 0x0108, 0x0201, 0x0202, 0x0203, 0x0301, 0x0302, 0x0303, 0x0401, 0x0402,
      0x0403, 0x0501, 0x0502, 0x0503, 0x0504, 0x0505, 0x0506, 0x0701, 0x0702, 0x0801, 0x0802, 0x0803, 0x0804, 0x0901, 0x0902,
      0x0B01, 0x0B02, 0x0B03, 0x0B04, 0x0C01, 0x0C02, 0x0D04] then some 0
  else if op ∈ [0x0105, 0x0107, 0x0304, 0x0601, 0x0602, 0x0603, 0x0805, 0x0A01, 0x0A02, 0x0D01, 0x0D02, 0x0D03, 0x0D05] then
    some 1
  else if op ∈ [0x0604, 0x0703, 0x0704] then some 2
  else none

/-- The key that KEY names, once programmed: the host key comes with the first seal (R419). -/
def keyOf (s : State) (key : Nat) : Option (List Byte) :=
  if key ≤ 1 then otpKey s key else none

/-- The session is bound to this path, and on the Tatex link to this SRC (R419). -/
def Session.boundTo (x : Session) (path src : Nat) : Bool := x.path == path && (path != 1 || x.src == src)

/-- One more AUTH_FAIL in the sessions `hit`; the third in a row closes the session (R420). -/
def authFail (s : State) (hit : Session → Bool) : State :=
  { s with mbx := { s.mbx with sessions :=
      (s.mbx.sessions.map (fun x => if hit x then { x with fails := x.fails + 1 } else x)).filter (fun x => decide (x.fails < 3)) } }

/-- The trailer of the request in mailbox `n` judged: the state and the session that authenticates it, if any (R420). -/
def authenticate (s : State) (n : Nat) : State × Option Session :=
  let m := s.mb n
  let len := reqLen m.req
  let msg := bytesAt m.req 0 (12 + len)
  let ctr := leAt m.req (8 + len) 4
  let own (x : Session) : Bool := x.boundTo m.path m.src && x.ks.isSome
  let hit := s.mbx.sessions.find? (fun x => own x && (match x.ks with
    | some k => (cmac k msg).take 8 == bytesAt m.req (12 + len) 8
    | none => false))
  match hit with
  | none => (authFail s own, none)
  | some x =>
    let above := match x.ctr with
      | none => true
      | some c => decide (c < ctr)
    if above then
      ({ s with mbx := { s.mbx with sessions := s.mbx.sessions.map (fun y =>
          if y.num = x.num then { y with ctr := some ctr, fails := 0 } else y) } }, some x)
    else (authFail s (fun y => y.num == x.num), none)

/-- The authorization the command needs is there (R420). -/
def authorized (s : State) (op : Nat) (x : Option Session) : Bool :=
  match cmdAuth op with
  | some 1 => x.isSome || (otpKey s 0).isNone
  | some 2 => match x with
    | some y => y.key == 1
    | none => false
  | _ => true

/-- SESSION_IDLE_TIMEOUT: the session closes (R420). -/
def closeSession (s : State) (num : Nat) : State :=
  { s with mbx := { s.mbx with sessions := s.mbx.sessions.filter (fun x => x.num != num) } }
def execSessionIdleTimeout (session : Nat) (s : State) : Out := .next (closeSession s session)

/-! ### Start and end -/

/-- The command of mailbox `n` starts, or completes at once with the status of a check that it fails (R416, R420, R421, R578). A
SESSION_OPEN of a wrong length still counts for its rate, so its length is judged with it (R419). -/
def startCommand (s : State) (n : Nat) : State :=
  let b := (s.mb n).req
  let op := reqOp b
  let auth := bit (reqFlags b) 2
  if s.boot.done = false ∧ op ≠ 0x0101 ∧ op ≠ 0x0108 then respond s n 7 []
  else if (if auth then 236 else 248) < reqLen b ∧ op ≠ 0x0102 then respond s n 3 []
  else
    let r := if auth then authenticate s n else (s, none)
    if auth ∧ r.2.isNone then respond r.1 n 6 []
    else if cmdAuth op = none then respond r.1 n 1 []
    else if authorized r.1 op r.2 = false then respond r.1 n 5 []
    else r.1.setMb n (fun m => { m with phase := .started, auth := (match r.2 with
      | some x => x.ks.map (fun k => (k, x.key))
      | none => none) })

/-- COMMAND_START (R416). -/
def execCommandStart (mb : Nat) (s : State) : Out :=
  .next (if supUp s ∧ mb ∈ s.mbx.accepted ∧ (s.mb mb).phase = .accepted ∧ mayStart s mb then startCommand s mb else s)

/-- Mailbox `n` runs the command `op`. -/
def runs (s : State) (n op : Nat) : Bool := supUp s && decide (n < 8) && (s.mb n).phase == .started && reqOp (s.mb n).req == op

/-- What command `op` of mailbox `n` does with its parameters; nothing when the mailbox does not run it. -/
def command (s : State) (n op : Nat) (f : State → List Byte → State) : State :=
  if runs s n op then f s (reqParams (s.mb n).req) else s

/-- BAD_LENGTH unless the parameters have the length `ok`. -/
def needLen (s : State) (n : Nat) (ok : Bool) (f : State) : State := if ok then f else respond s n 3 []

/-- BUSY mailboxes complete with ABORTED and every session closes (R418). -/
def abortBusy (s : State) : State :=
  let s1 := { s with mbx := { s.mbx with sessions := [] }, net := { s.net with enumMb := none, origin := none } }
  let order := s.mbx.accepted ++ s.mbx.rings
  order.foldl (fun t n => respond (t.setMb n (fun m => { m with auth := none })) n 0x0A []) s1

/-! ### Enumeration from here (R357, R423) -/

/-- ENUMERATE completes at the TOPO broadcast. -/
def finishEnum (s : State) : State :=
  match s.net.enumMb, s.net.origin with
  | some n, none =>
    respond { s with net := { s.net with enumMb := none } } n 0
      (toLe 2 (s.reg TXLA.NODE.NODES) ++ toLe 1 (s.reg TXLA.NODE.TOPO))
  | _, _ => s

/-- NOP_ENUM (R357). -/
def execNopEnum (p : Port) (s : State) : Out := .next (finishEnum (nopEnum p s))

/-- NOP_ENUM_END (R357). -/
def execNopEnumEnd (p : Port) (s : State) : Out := .next (finishEnum (nopEnumEnd p s))

/-! ### Event sinks (R427) -/

/-- EVT_POP: the oldest record leaves the queue (R427, R429). -/
def execEvtPop (s : State) : Out := .next (if s.evt.queue = [] then s else dropEvents s 1)

/-- EVENT_PACKET_SEND: with EVT_EN the records not sent yet go to EVT_DEST, up to 64 in a packet (R427). -/
def execEventPacketSend (s : State) : Out :=
  let recs := (lastN s.evt.unsent s.evt.queue).take 64
  if s.flag TXLA.EVT.EVT_EN ∧ supUp s ∧ recs ≠ [] then
    .next (sendLocal { s with evt := { s.evt with unsent := s.evt.unsent - recs.length } } 6 (s.reg TXLA.EVT.EVT_DEST) 0
      (recs.flatMap eventBytes))
  else .next s

end Sys2Proof.Machine
end

