-- ==== Sys2Proof/Machine/AuxLight.lean ====
section
/-! DEFINITION. AuxLight.lean: the auxiliary lighting outputs: mixer, gamma, pattern engines, derating, one-wire frames and PWM gates
(13_auxiliary_lighting.md). -/

namespace Sys2Proof.Machine

/-! ### Ports and values (R433, R434) -/

/-- LEN of port `p`, at most 256 (R442, R444). -/
def auxLen (s : State) (p : Nat) : Nat := min 256 (s.reg (AUX.PORT_CFG.LEN p))

/-- FPER of port `p`, 0 acting as 1 (R444). -/
def auxFper (s : State) (p : Nat) : Nat := max 1 (s.reg (AUX.PORT_CFG.FPER p))

/-- FPER_eff of port `p`, ms (R433). -/
def auxPeriod (s : State) (p : Nat) : Nat := max (auxFper s p) ((48 * auxLen s p + 50 + 999) / 1000)

/-- Port `p` runs at FPER_eff > FPER: STRETCHED (R433, R447). -/
def auxStretched (s : State) (p : Nat) : Bool :=
  s.flag AUX.CTRL.EN && auxLen s p != 0 && decide (auxFper s p < auxPeriod s p)

/-- The mixer value of channel `c` of node `n` of port `p` (R434). -/
def auxValue (s : State) (p n c : Nat) : Nat := sparseGet 0 s.aux.values (768 * p + 3 * n + c)

/-- Mixer values from key `k` on (R434). -/
def putValues (m : Sparse Nat) (k : Nat) : List Nat → Sparse Nat
  | [] => m
  | v :: t => putValues (sparseSet 0 m k (v % 65536)) (k + 1) t

/-- Entry `i` of the identity table (R434). -/
def gammaIdentity (i : Nat) : Nat := min 65535 (256 * i)

/-- Entry `i` of gamma table `t` (R434). -/
def gammaEntry (s : State) (t i : Nat) : Nat := sparseGet 0 s.aux.gamma (257 * t + i) ^^^ gammaIdentity i

/-- Gamma entries of table `t` from index `i` on (R434). -/
def putGamma (m : Sparse Nat) (t i : Nat) : List Nat → Sparse Nat
  | [] => m
  | v :: l => putGamma (sparseSet 0 m (257 * t + i) ((v % 65536) ^^^ gammaIdentity i)) t (i + 1) l

/-- Table `t` applied to `x` (R434). -/
def gammaOf (s : State) (t x : Nat) : Nat :=
  let i := x / 256
  let a : Int := gammaEntry s t i
  let b : Int := gammaEntry s t (i + 1)
  (a + ((b - a) * (x % 256 : Nat) + 128) / 256).toNat

/-- Stage 1 of channel `c` of port `p` (R430, R434, R445). -/
def stage1 (s : State) (p c x : Nat) : Nat :=
  if s.flag (AUX.GAMMA_SEL.BYPASS p) then x else gammaOf s (s.reg (AUX.GAMMA_SEL.TBL (3 * p + c))) x

/-! ### Pattern engines (R435) -/

/-- Entries 0 to 128 of the breathe table 32,768 × (1 - cos 2πi/256), rounded down; the table is symmetric about 128. -/
def breatheFloor : List Nat :=
  [0, 9, 39, 88, 157, 246, 354, 482, 629, 796, 982, 1186, 1410, 1653, 1915, 2195]
  ++ [2494, 2811, 3146, 3498, 3869, 4256, 4661, 5083, 5522, 5977, 6448, 6935, 7437, 7955, 8488, 9035]
  ++ [9597, 10173, 10762, 11364, 11980, 12608, 13248, 13899, 14563, 15237, 15921, 16616, 17321, 18035, 18757, 19489]
  ++ [20228, 20974, 21728, 22489, 23255, 24028, 24806, 25588, 26375, 27165, 27959, 28756, 29556, 30357, 31160, 31963]
  ++ [32768, 33572, 34375, 35178, 35979, 36779, 37576, 38370, 39160, 39947, 40729, 41507, 42280, 43046, 43807, 44561]
  ++ [45307, 46046, 46778, 47500, 48214, 48919, 49614, 50298, 50972, 51636, 52287, 52927, 53555, 54171, 54773, 55362]
  ++ [55938, 56500, 57047, 57580, 58098, 58600, 59087, 59558, 60013, 60452, 60874, 61279, 61666, 62037, 62389, 62724]
  ++ [63041, 63340, 63620, 63882, 64125, 64349, 64553, 64739, 64906, 65053, 65181, 65289, 65378, 65447, 65496, 65526]
  ++ [65536]

/-- Entry `i` of the breathe ROM: the rounding of an entry that is not whole is open (R435). -/
def breatheEntry (i : Nat) : Nat :=
  let j := i % 256
  let k := if 128 < j then 256 - j else j
  breatheFloor.getD k 0 + (if k % 64 = 0 then 0 else b2n (Config.breatheRom j))

/-- w of Breathe at phase n / d: linear interpolation in the ROM; the rounding of a point between two whole values is open (R435). -/
def breathe (n d : Nat) : Nat :=
  let x := 256 * n
  let i := x / d
  let a : Int := breatheEntry i
  let b : Int := breatheEntry (i + 1)
  let num := (b - a) * (x % d : Nat)
  (a + num / d).toNat + (if num % d = 0 then 0 else b2n (Config.breatheStep n d))

/-- The waveform w of engine setting `e` for node index `k` at phase n / d (R435). -/
def waveform (e : AuxEng) (k n d : Nat) : Nat :=
  let on (b : Bool) : Nat := if b then 65536 else 0
  match e.type with
  | 1 => breathe n d
  | 2 => on (k == n * e.count / d)
  | 3 => on (decide (k < n * (e.count + 1) / d))
  | _ => on (decide (2 * n < d))

/-- LEVEL as a factor: 65,535 acts as exactly 1.0 (R435). -/
def levelOf (v : Nat) : Nat := v + v / 32768

/-- Stage 2 of value `x` under engine setting `e` for node index `k` at lamp time `now` ticks (R435). -/
def scaleBy (e : AuxEng) (k now x : Nat) : Nat :=
  let d := 400000 * e.period
  let n := (((now : Int) - 400000 * e.phase) % (d : Int)).toNat
  let lo : Int := levelOf e.lo
  let hi : Int := levelOf e.hi
  ((x : Int) * (lo + ((hi - lo) * waveform e k n d + 32768) / 65536) + 32768).toNat / 65536

/-- Engine setting `e` covers node `k` of output `o`: ports 0 to 3, gates 4 to 9 (R435). -/
def AuxEng.covers (e : AuxEng) (o k : Nat) : Bool :=
  e.type != 0 && e.port == o && (decide (4 ≤ o) || decide (e.node ≤ k ∧ k < e.node + e.count))

/-- Stage 2 of node `k` of output `o` (R430). -/
def stage2 (s : State) (o k x : Nat) : Nat :=
  match s.aux.engines.find? (fun e => e.covers o k) with
  | some e => scaleBy e (k - e.node) s.now x
  | none => x

/-- Stage 3 (R438). -/
def stage3 (s : State) (x : Nat) : Nat := (x * s.reg AUX.STATUS.F + 2048) / 4096

/-- The target of setting `a` overlaps that of `b`, an engine with TYPE other than 0 (R436). -/
def auxOverlap (a b : AuxEng) : Bool :=
  b.type != 0 && a.port == b.port
  && (decide (4 ≤ a.port) || (decide (a.node < b.node + b.count) && decide (b.node < a.node + a.count)))

/-- The newest setting of engine `n`. -/
def auxNewest (s : State) (n : Nat) : AuxEng := (s.aux.due.getD n none).getD (s.aux.engines.getD n AuxEng.off)

/-- AUX.STATUS.ENGINES (R447). -/
def auxEngines (s : State) : Nat := bitsOf 8 (fun n => (auxNewest s n).type != 0)

/-- At a grid point or period start of output `o`, the settings that wait for it take effect: those whose old or new target is that
output (R436). -/
def auxTake (s : State) (o : Nat) : State :=
  let hit (n : Nat) : Bool := match s.aux.due.getD n none with
    | some e => (e.type != 0 && e.port == o) || ((s.aux.engines.getD n AuxEng.off).type != 0
        && (s.aux.engines.getD n AuxEng.off).port == o) || (e.type == 0 && (s.aux.engines.getD n AuxEng.off).type == 0)
    | none => false
  { s with aux := { s.aux with
      engines := s.aux.engines.mapIdx (fun n e => if hit n then auxNewest s n else e)
      due := s.aux.due.mapIdx (fun n e => if hit n then none else e) } }

/-! ### Outputs (R433, R439 to R441) -/

/-- The aux outputs run: EN is set, no clock failure forces them low, and the device is in RUN, LANDING or entering sleep (R440). -/
def auxRuns (s : State) : Bool :=
  s.flag AUX.CTRL.EN && !s.aux.forced && clocksRun s

/-- The 16-bit values of a frame of port `p`, node by node (R430, R431). -/
def frameValues (s : State) (p : Nat) : List Nat :=
  (List.range (3 * auxLen s p)).map (fun i => stage3 s (stage2 s p (i / 3) (stage1 s p (i % 3) (auxValue s p (i / 3) (i % 3)))))

/-- AUX_FRAME_GRID: at its grid point port `p` samples its values and sends them, not within 50 µs of EN (R433, R441). -/
def execAuxFrameGrid (p : Nat) (s : State) : Out :=
  if auxRuns s ∧ p < 4 ∧ auxLen s p ≠ 0 ∧ s.aux.since + 20000 < s.now then
    let s1 := auxTake s p
    .next { s1 with aux := { s1.aux with frames := s1.aux.frames.set p (s.now, frameValues s1 p) } }
  else .next s

/-- AUX_GATE_PERIOD_START: gate `n` takes its duty and frequency; it is high for (period × D) >> 16 ticks (R439). -/
def execAuxGatePeriodStart (n : Nat) (s : State) : Out :=
  match s.aux.gates[n]? with
  | none => .next s
  | some g =>
    if auxRuns s ∧ g.freq ≠ 0 then
      let s1 := auxTake s (4 + n)
      let per := 400000000 / g.freq
      .next { s1 with aux := { s1.aux with
        gates := s1.aux.gates.set n { g with
          period := per, high := per * stage3 s1 (stage2 s1 (4 + n) 0 g.duty) / 65536, since := s.now } } }
    else .next s

/-- EN changes from 0 to 1: each port's first frame follows more than 50 µs later (R441). -/
def auxEnable (s : State) : State := { s.setFlag AUX.CTRL.EN true with aux := { s.aux with since := s.now } }

/-- EN changes to 0: pins and gates go low (R440). -/
def auxDisable (s : State) : State :=
  { s.setFlag AUX.CTRL.EN false with aux := { s.aux with gates := s.aux.gates.map (fun g => { g with high := 0 }) } }

/-- AUX_EN_SET (R441). -/
def execAuxEnSet (s : State) : Out := .next (if s.flag AUX.CTRL.EN then s else auxEnable s)

/-- The outputs are forced low or released (R440). -/
def auxForce (s : State) (b : Bool) : State :=
  { s with aux := { s.aux with forced := b, gates := if b then s.aux.gates.map (fun g => { g with high := 0 }) else s.aux.gates } }

/-! ### Commands (R423, R434 to R439) -/

/-- The 16-bit words of `l` from offset `o`, `n` of them. -/
def wordsAt (l : List Byte) (o n : Nat) : List Nat := (List.range n).map (fun i => leAt l (o + 2 * i) 2)

/-- AUX_SET (R434). -/
def auxSet (mb : Nat) (s : State) (p : List Byte) : State :=
  let port := leAt p 0 1
  let node := leAt p 2 2
  let n := leAt p 4 1
  needLen s mb (p.length == 8 + 6 * n)
    (if 3 < port ∨ n = 0 ∨ 40 < n ∨ 256 < node + n then respond s mb 4 []
     else respond { s with aux := { s.aux with
       values := putValues s.aux.values (768 * port + 3 * node) (wordsAt p 8 (3 * n)) } } mb 0 [])
def execAuxSet (mb : Nat) (s : State) : Out := .next (command s mb 0x0B01 (auxSet mb))

/-- The setting an AUX_PATTERN carries. -/
def patternOf (p : List Byte) : AuxEng :=
  { type := leAt p 1 1, port := leAt p 2 1, node := leAt p 4 2, count := leAt p 6 2, period := leAt p 8 2, phase := leAt p 10 2,
    lo := leAt p 12 2, hi := leAt p 14 2 }

/-- The fields of an AUX_PATTERN are in range (R423, R435, R436). -/
def patternOk (n : Nat) (e : AuxEng) : Bool :=
  decide (n ≤ 7 ∧ e.type ≤ 4 ∧ e.port ≤ 9) && e.period != 0
    && (if e.port ≤ 3 then e.count != 0 && decide (e.node + e.count ≤ 256) else e.node == 0 && e.count == 1)

/-- AUX_PATTERN (R435, R436). -/
def auxPattern (mb : Nat) (s : State) (p : List Byte) : State :=
  let n := leAt p 0 1
  let e := patternOf p
  needLen s mb (p.length == 16)
    (if patternOk n e = false then respond s mb 4 []
     else if (List.range 8).any (fun k => k != n && auxOverlap e (auxNewest s k)) then respond s mb 7 []
     else respond { s with aux := { s.aux with due := s.aux.due.set n (some e) } } mb 0 [])
def execAuxPattern (mb : Nat) (s : State) : Out := .next (command s mb 0x0B02 (auxPattern mb))

/-- AUX_GAMMA (R434). -/
def auxGamma (mb : Nat) (s : State) (p : List Byte) : State :=
  let t := leAt p 0 1
  let i := leAt p 2 2
  let n := leAt p 4 2
  needLen s mb (p.length == 8 + 2 * n)
    (if 3 < t ∨ n = 0 ∨ 120 < n ∨ 257 < i + n then respond s mb 4 []
     else respond { s with aux := { s.aux with gamma := putGamma s.aux.gamma t i (wordsAt p 8 n) } } mb 0 [])
def execAuxGamma (mb : Nat) (s : State) : Out := .next (command s mb 0x0B03 (auxGamma mb))

/-- AUX_GATE (R439). -/
def auxGate (mb : Nat) (s : State) (p : List Byte) : State :=
  let n := leAt p 0 1
  let freq := leAt p 4 2
  needLen s mb (p.length == 6)
    (if 5 < n ∨ freq < 100 ∨ 20000 < freq then respond s mb 4 []
     else respond { s with aux := { s.aux with
       gates := s.aux.gates.mapIdx (fun k g => if k = n then { g with duty := leAt p 2 2, freq := freq } else g) } } mb 0 [])
def execAuxGate (mb : Nat) (s : State) : Out := .next (command s mb 0x0B04 (auxGate mb))

end Sys2Proof.Machine
end

