-- ==== Sys2Proof/Machine/Ports.lean ====
section
/-! DEFINITION. Ports.lean: CAN FD, the wake port, headroom tracking and the PMBus host, the loose pins and the IFB_SET pad
(11_host_and_side_ports.md R390 to R407; 02_pixel_array_and_drive.md R53, R63 to R67). -/

namespace Sys2Proof.Machine

/-! ### CAN FD (R390 to R392) -/

/-- The CAN controller takes part in bus traffic: enabled and not bus-off (R390). -/
def canOn (s : State) : Bool := s.flag CAN.CTRL.EN && s.reg CAN.STATUS.STATE != 2

/-- CAN_SAFE_FRAME: a frame with SAFE_ID; only an FD frame of DLC 13 carries a record (R391). -/
def canSafe (s : State) (f : CanFrame) : State :=
  if canOn s ∧ canMatches f (s.flag CAN.SAFE_ID.IDE) (s.reg CAN.SAFE_ID.ID) then
    (if f.fd ∧ f.dlc = 13 then safeRecord s true f.data else s.bump CAN.DROP.COUNT)
  else s
def execCanSafeFrame (f : CanFrame) (s : State) : Out := .next (canSafe s f)

/-- BUS_OFF_ENTRY (R390). -/
def busOff (s : State) : State :=
  let s1 := (s.setReg CAN.STATUS.STATE 2).setFlag CAN.STATUS.BUS_OFF true
  raiseFault (raiseEvent s1 0x0A0B (toLe 1 2)) 64 1
def execBusOffEntry (s : State) : Out := .next (if canOn s then busOff s else s)

/-- CAN_BUS_ERROR: a transmit error counts 8 and a receive error 1; above 127 the controller is error passive (ISO 11898-1, R390). -/
def canError (s : State) (k : CanErrorKind) : State :=
  let s1 := match k with
    | .transmit => s.bumpBy CAN.STATUS.TEC 8
    | .receive => s.bump CAN.STATUS.REC
  s1.setReg CAN.STATUS.STATE (b2n (decide (127 < s1.reg CAN.STATUS.TEC ∨ 127 < s1.reg CAN.STATUS.REC)))
def execCanBusError (k : CanErrorKind) (s : State) : Out := .next (if canOn s then canError s k else s)

/-- CAN_BUS_OFF_RECOVERY: error active again, with both error counts 0 (ISO 11898-1, R390). -/
def execCanBusOffRecovery (s : State) : Out :=
  .next (if s.flag CAN.CTRL.EN ∧ s.reg CAN.STATUS.STATE = 2 then
    ((s.setReg CAN.STATUS.STATE 0).setReg CAN.STATUS.TEC 0).setReg CAN.STATUS.REC 0 else s)

/-! ### Wake port (R393 to R395) -/

/-- WAKE_PORT_WRITE: a write to WAKE_ADDR, as the always-on domain holds it, records the latency code and asks for a wake (R393 to
R395). -/
def execWakePortWrite (addr : BitVec 7) (data : Byte) (s : State) : Out :=
  .next (if addr.toNat = s.actReg IOMUX.BOARD.WAKE_ADDR then wakeBy (s.setReg PWR.STATE.WAKE_CODE (data.toNat % 16)) 1 else s)

/-! ### Headroom tracking (R64 to R67) -/

/-- VLED_MAX and VLED_MIN in force (R76). -/
def vledMax (s : State) : Nat := s.regIn SCAN.VLED_LIM.VLED_MAX 0 80
def vledMin (s : State) : Nat := min (vledMax s) (s.reg SCAN.VLED_LIM.VLED_MIN)

/-- One round of the loop of R64 on the code asked for. -/
def headroomStep (s : State) (flags : Nat) : State :=
  let c := s.scan.vledAsk
  if s.reg SCAN.HR_CFG.HR_LIMIT < flags then
    { s with scan := { s.scan with
        vledAsk := if c < vledMax s then c + 1 else c, hrHold := if s.scan.hrDown then 100 else s.scan.hrHold,
        hrQuiet := 0, hrDown := false } }
  else if 0 < s.scan.hrHold then { s with scan := { s.scan with hrHold := s.scan.hrHold - 1 } }
  else if max 1 (s.reg SCAN.HR_CFG.HR_QUIET) ≤ s.scan.hrQuiet + 1 then
    { s with scan := { s.scan with
        vledAsk := if vledMin s < c then c - 1 else c, hrDown := s.scan.hrDown || decide (vledMin s < c), hrQuiet := 0 } }
  else { s with scan := { s.scan with hrQuiet := s.scan.hrQuiet + 1 } }

/-- Tracking runs: enabled, with a usable VOUT_MODE, clocks, no fallback light and no suspension (R64, R66, R67, R400). -/
def headroomRuns (s : State) : Bool :=
  s.flag SCAN.HR_CFG.HR_EN && s.io.expVled.isSome && !s.clk.lost && !fbActive s && !s.scan.hrSuspended

/-- HEADROOM_LOOP: a 10 ms window ends with `flags` flagged pixels (R64). A VLED write that failed may be tried again (R66). -/
def headroom (s : State) (flags : Nat) : State :=
  let s1 := { s with io := { s.io with tries := 0 } }
  if headroomRuns s then
    let s2 := s1.setReg SCAN.VLED_STATUS.HR_FLAGS (min 65535 flags)
    headroomStep (s2.setFlag SCAN.VLED_STATUS.AT_MAX
      (decide (s.reg SCAN.HR_CFG.HR_LIMIT < flags) && s.reg SCAN.VLED_STATUS.VLED_SET == vledMax s)) flags
  else s1
def execHeadroomLoop (flags : Nat) (s : State) : Out := .next (headroom s flags)

/-! ### PMBus host (R399 to R401) -/

/-- The mantissa of `mv` millivolts with exponent -`e`, rounded half up (R400). -/
def pmMantissa (mv e : Nat) : Nat := (mv * 2 ^ e * 2 + 1000) / 2000

/-- The exponent that a VOUT_MODE byte selects as a positive number: ULINEAR16 with -8 to -13 (R400). The mode stands in bits [7:5]
and the two's complement exponent in bits [4:0]. -/
def voutExponent (m : Nat) : Option Nat :=
  let e := (sext 5 (m % 32)).natAbs
  if m / 32 = 0 ∧ sext 5 (m % 32) < 0 ∧ 8 ≤ e ∧ e ≤ 13 then some e else none

/-- A VLED VOUT_COMMAND waits: a code asked for that is not the one acknowledged, or no write acknowledged yet (R64 to R66). -/
def vledDue (s : State) : Bool :=
  s.io.expVled.isSome && decide (s.io.tries < 4) && (s.scan.vledAsk != s.reg SCAN.VLED_STATUS.VLED_SET || s.io.mantVled.isNone)

/-- A VCORE VOUT_COMMAND waits (R324). -/
def vcoreDue (s : State) : Bool :=
  s.io.expVcore.isSome && decide (s.io.triesVcore < 4) && s.cal.vcPlan != s.reg CAL.VM_STATUS.VC_SET

/-- A read joins the waiting ones (R399). -/
def queueRead (s : State) (reg code : Nat) : State := { s with io := { s.io with reads := s.io.reads ++ [(reg, code)] } }

/-- The VLED write ends (R66, R399). -/
def vledWrite (s : State) (ack : Bool) : State :=
  if ack then
    let s1 := { s with
      io := { s.io with tries := 0, mantVled := s.io.expVled.map (pmMantissa (3000 + 25 * s.scan.vledAsk)) }
      scan := { s.scan with hrSuspended := false } }
    queueRead (s1.setReg SCAN.VLED_STATUS.VLED_SET s.scan.vledAsk) 0 0x79
  else
    let s1 := { s with io := { s.io with tries := s.io.tries + 1 } }
    if s.io.tries < 3 then s1
    else raiseFault ({ s1 with scan := { s1.scan with hrSuspended := true } }.setFlag SCAN.VLED_STATUS.PMBUS_ERR true) 22 2

/-- The VCORE write ends (R66, R324, R399). -/
def vcoreWrite (s : State) (ack : Bool) : State :=
  if ack then
    let s1 := { s with io := { s.io with triesVcore := 0, mantVcore := s.io.expVcore.map (pmMantissa (780 + 10 * s.cal.vcPlan)) } }
    queueRead (s1.setReg CAL.VM_STATUS.VC_SET s.cal.vcPlan) 1 0x79
  else
    let s1 := { s with io := { s.io with triesVcore := s.io.triesVcore + 1 } }
    if s.io.triesVcore < 3 then s1 else raiseFault (s1.setFlag CAL.VM_STATUS.PMBUS_ERR true) 23 2

/-- PMBUS_ERR of regulator 0 VLED or 1 VCORE. -/
def pmbusErr (s : State) (reg : Nat) : State :=
  s.setFlag (if reg = 0 then SCAN.VLED_STATUS.PMBUS_ERR else CAL.VM_STATUS.PMBUS_ERR) true

/-- A read of command `code` ends (R399, R400). A VOUT_MODE that cannot be read counts as an unusable one. -/
def pmbusRead (s : State) (reg code : Nat) (ack : Bool) (reply : Nat) : State :=
  if code = 0x20 then
    let e := if ack then voutExponent (reply % 256) else none
    let s1 := { s with io := if reg = 0 then { s.io with expVled := e } else { s.io with expVcore := e } }
    if e.isNone then pmbusErr s1 reg else s1
  else if code = 0x79 ∧ ack = true ∧ reply ≠ 0 then raiseEvent s 0x0903 (toLe 1 reg ++ [0] ++ toLe 2 reply)
  else s

/-- The transaction first in priority runs and ends: a VLED write, then a VCORE write, then reads in order (R401). -/
def pmbus (s : State) (ack : Bool) (reply : Nat) : State :=
  if vledDue s then vledWrite s ack
  else if vcoreDue s then vcoreWrite s ack
  else match s.io.reads with
    | [] => s
    | (reg, code) :: t => pmbusRead { s with io := { s.io with reads := t } } reg code ack reply

/-- PMBUS_TRANSACTION (R401). -/
def execPmbusTransaction (ack : Bool) (reply : BitVec 16) (s : State) : Out :=
  .next (if s.clk.lost then s else pmbus s ack reply.toNat)

/-- PMBUS_CLOCK_TIMEOUT: the transaction ends unacknowledged (R399). -/
def execPmbusClockTimeout (s : State) : Out := .next (if s.clk.lost then s else pmbus s false 0)

/-! ### Pins (R405 to R407) -/

/-- Pin `n` conflicts in the staged set: a FUNC it does not allow, or a one-pin function that another pin has too (R406, R407). -/
def pinConflict (s : State) (n : Nat) : Bool :=
  let f := s.reg (IOMUX.PIN.FUNC n)
  decide (6 ≤ f) || (f == 2 && decide (5 < n))
  || (decide (3 ≤ f ∧ f ≤ 5) && (List.range 16).any (fun k => k != n && s.reg (IOMUX.PIN.FUNC k) == f))

/-- The staged settings of pin `n` reach the pin. -/
def applyPin (s : State) (n : Nat) : State :=
  ((s.setAct (IOMUX.PIN.FUNC n) (s.reg (IOMUX.PIN.FUNC n))).setAct (IOMUX.PIN.PULL n) (s.reg (IOMUX.PIN.PULL n))).setAct
    (IOMUX.PIN.DRIVE n) (s.reg (IOMUX.PIN.DRIVE n))

/-- IOMUX_APPLY (R407). -/
def iomuxApply (s : State) : State :=
  match (List.range 16).find? (pinConflict s) with
  | some n =>
    wign (((s.setFlag IOMUX.STATUS.CONFLICT true).setFlag IOMUX.STATUS.WIGN true).setReg IOMUX.STATUS.CONF_PIN n) 20
  | none => (List.range 16).foldl applyPin s
def execIomuxApply (s : State) : Out := .next (iomuxApply s)

/-- EXT_EVT_EDGE: an edge on the pin whose function is EXT_EVT (R406). -/
def execExtEvtEdge (pin : Nat) (s : State) : Out :=
  .next (if pin < 16 ∧ s.actReg (IOMUX.PIN.FUNC pin) = 5 then raiseEvent s 0x0104 (toLe 1 pin) else s)

/-- LT_MARK: lamp time bits [21:0] wrap (R406). -/
def execLtMark (s : State) : Out := .next (if s.clk.lost then s else { s with pins := { s.pins with ltMark := some s.now } })

/-! ### IFB_SET (R53, R82) -/

/-- IFB_SET_FAULT: the substitute current and its CONT fault (R53). -/
def execIfbSetFault (f : IfbFault) (s : State) : Out :=
  let s1 := match f with
    | .short => (s.setFlag SCAN.IFB_STATUS.IFB_SHORT true).setReg SCAN.IFB_STATUS.IFB_NA 16000
    | .openPad => (s.setFlag SCAN.IFB_STATUS.IFB_OPEN true).setReg SCAN.IFB_STATUS.IFB_NA 8000
  .next (raiseFault s1 21 2)

end Sys2Proof.Machine
end

