-- ==== Sys2Proof/Machine/Diag.lean ====
section
/-! DEFINITION. Diag.lean: sense operations, fault classification, the dead-pixel map and healing generations
(08_pixel_diagnostics_and_healing.md). -/

namespace Sys2Proof.Machine

/-! ### Thresholds -/

def State.openPct (s : State) : Nat := s.regIn DIAG.CFG.OPEN_PCT 5 75
def State.vfShort (s : State) : Nat := s.regIn DIAG.CFG.VF_SHORT 100 255
def State.tpIref (s : State) : Nat := s.regIn DIAG.CFG.TP_IREF 1 25
def State.dwOps (s : State) : Nat := s.regIn DIAG.CFG.DW_OPS 40 64
def State.rowLineTh (s : State) : Nat := s.regIn DIAG.LINE_CFG.ROW_LINE_TH 16 1024

/-- The map holds pixel (c, r) (R288). -/
def mapped (s : State) (c r : Nat) : Bool := s.diag.map.any (fun e => e.col == c && e.row == r)

/-! ### Ages (R278) -/

/-- Diagnostic age of pixel (c, r) in ticks: lamp time since its last checked visit, up to the fault of its column if it has one. -/
def pixelAgeTicks (s : State) (c r : Nat) : Nat :=
  (sparseGet none s.diag.badColAt c).getD s.now - max s.diag.ageFrom (planeGet 0 s.diag.checkedAt c r)

/-- One sweep in ticks: 2048 visits at DW_OPS per frame (R276). -/
def sweepTicks (s : State) : Nat := 2048 * modeThirds s.mode / (3 * s.dwOps)

/-- The leakage measurement is due: the age at the next visit would exceed 2.0 s (R277). -/
def leakDue (s : State) (c r : Nat) : Bool :=
  s.flag DIAG.CTRL.LEAK_EN && decide (800000000 < pixelAgeTicks s c r + sweepTicks s)

/-- The oldest age and its row, over pixels that are neither mapped nor on a faulted column line (R278, R297): milliseconds. -/
def oldestAge (s : State) : Nat × Nat :=
  let rowMax (r : Nat) : Nat :=
    (List.range 1024).foldl (fun m c =>
      if mapped s c r || s.diag.badCols.contains c then m else max m (pixelAgeTicks s c r)) 0
  let best := (List.range 1024).foldl (fun (m : Nat × Nat) r =>
    let a := rowMax r
    if m.1 < a then (a, r) else m) (0, 0)
  (min 4095 (best.1 / 400000), best.2)

/-! ### Clusters (R287) -/

/-- Two pixels touch orthogonally or diagonally. -/
def touches (a b : MapEntry) : Bool :=
  decide ((a.col : Int) - b.col ≤ 1 ∧ (b.col : Int) - a.col ≤ 1 ∧ (a.row : Int) - b.row ≤ 1 ∧ (b.row : Int) - a.row ≤ 1)

/-- One step of growing a cluster by the entries that touch it. -/
def growCluster (all cl : List MapEntry) : List MapEntry := all.filter (fun e => cl.any (touches e))

/-- The cluster of an entry: as many growing steps as there are entries. -/
def clusterOf (all : List MapEntry) (e : MapEntry) : List MapEntry :=
  all.foldl (fun cl _ => growCluster all cl) [e]

/-- A cluster's bounding box fits in 2 × 2 pixels. -/
def fits2x2 (cl : List MapEntry) : Bool :=
  cl.all (fun a => cl.all (fun b => decide (a.col ≤ b.col + 1 ∧ a.row ≤ b.row + 1)))

/-- The map with every member of a larger cluster marked NOHEAL. -/
def markClusters (m : List MapEntry) : List MapEntry :=
  m.map (fun e => { e with noheal := e.noheal || !fits2x2 (clusterOf m e) })

/-! ### Declarations (R281, R288 to R290) -/

/-- The kinds that are isolated with mask 0x00: shorts, neighbour shorts and stuck-on pixels (R281). -/
def isolates (kind : Nat) : Bool := decide (kind ∈ [1, 2, 3, 5, 6])

/-- One pixel put in the map, or forced to code 0 while the map is full (R288, R290). A cluster that has become larger than 2 × 2
is reported (R287). -/
def addToMap (s : State) (c r kind : Nat) (inj : Bool) : State :=
  if mapped s c r then s
  else if 4096 ≤ s.diag.map.length then
    raiseFault (({ s with diag := { s.diag with unmapped := (c, r) :: s.diag.unmapped } }).bump DIAG.UNMAPPED.COUNT) 47 2
  else
    let e : MapEntry := ⟨c, r, kind, false, inj⟩
    let m := markClusters (s.diag.map ++ [e])
    let grew := decide (s.diag.map.countP (·.noheal) < m.countP (·.noheal))
    let s1 := { s with diag := { s.diag with
      map := m, uncommitted := if inj then s.diag.uncommitted else s.diag.uncommitted ++ [e] } }
    if grew then raiseFault (s1.setFlag DIAG.STATUS.CLUSTER true) 46 2 else s1

/-- A pixel is isolated where its kind asks for it, and mapped; a stuck-on pixel is checked again at its next visit (R282). -/
def isolateAndMap (s : State) (c r kind : Nat) (inj : Bool) : State :=
  let s1 := if isolates kind then writeTrim s c r 0 else s
  let s2 := if kind = 3 then
      { s1 with diag := { s1.diag with stuckDue := (c, r) :: s1.diag.stuckDue } }.setFlag DIAG.STATUS.STUCK true
    else s1
  addToMap s2 c r kind inj

/-- A pixel fault is declared: NEW_DEAD, the CORR fault, the PIXEL_DEAD event, isolation and mapping; a neighbour short takes both
pixels (R281, R428). -/
def declare (s : State) (c r kind : Nat) (other : Option (Nat × Nat)) (inj : Bool) : State :=
  let s1 := isolateAndMap s c r kind inj
  let s2 := match other with
    | some p => isolateAndMap s1 p.1 p.2 kind inj
    | none => s1
  let s3 := raiseEither (s2.setFlag DIAG.STATUS.NEW_DEAD true) inj 43 1
  raiseEventInj s3 0x0701 inj (toLe 2 c ++ toLe 2 r ++ toLe 1 kind ++ toLe 1 (Config.lineCode 0))

/-- A line fault: LINE_FAULT, the counts and first line of DIAG.LINE, the CONT fault and the event (R283, R298). -/
def lineFault (s : State) (isCol : Bool) (n kind : Nat) : State :=
  let s1 := raiseFault (s.setFlag DIAG.STATUS.LINE_FAULT true) 45 2
  let s2 := if isCol then
      let t := { s1 with diag := { s1.diag with
        badCols := n :: s1.diag.badCols, badColAt := sparseSet none s1.diag.badColAt n (some s.now), suspects := s1.diag.suspects.filter (fun x => x.col != n) } }
      (if s.reg DIAG.LINE.COL_FAULTS = 0 then t.setReg DIAG.LINE.FIRST_COL n else t).bump DIAG.LINE.COL_FAULTS
    else
      let t := { s1 with diag := { s1.diag with
        badRows := n :: s1.diag.badRows, suspects := s1.diag.suspects.filter (fun x => x.row != n) } }
      (if s.reg DIAG.LINE.ROW_FAULTS = 0 then t.setReg DIAG.LINE.FIRST_ROW n else t).bump DIAG.LINE.ROW_FAULTS
  let s3 := if !isCol && kind == 3 then
      let t := writeTrimRow s2 n (List.replicate 1024 0)
      { t with diag := { t.diag with stuckDue := (List.range 1024).map (fun c => (c, n)) ++ t.diag.stuckDue } }
    else s2
  raiseEvent s3 0x0701 (if isCol
    then toLe 2 n ++ toLe 2 (Config.lineOther 2) ++ toLe 1 kind ++ toLe 1 (Config.lineCode 2)
    else toLe 2 (Config.lineOther 1) ++ toLe 2 n ++ toLe 1 kind ++ toLe 1 (Config.lineCode 1))

/-! ### One sense operation (R273, R274, R279) -/

/-- What a visit found at one pixel: nothing judged, checked good, or failing with a kind. -/
abbrev Finding := Option (Option (Nat × Option (Nat × Nat)))

/-- A neighbour (c', r') of row `r` conducts no PWM current from count 16 to count 25 of row `r`'s period (R279). -/
def neighbourDark (s : State) (r c' r' : Nat) : Bool :=
  let g := s.group (r' / 64)
  let n := pwmN g.n11
  let d := planeGet 0 s.pix.front c' r'
  let cnt (t : Nat) : Nat := (t + n * 16 + pwmPhi g.n11 * (r / 64) - pwmPhi g.n11 * (r' / 64)) % n
  g.drive != .pwm || planeGet 0 s.pix.blank c' r' != 0 || (List.range 10).all (fun i => decide (d ≤ cnt (16 + i)))

/-- The sample of column `c`, if the row's readings list it; a pixel that is not listed reads good (assumption 19). -/
def sampleOf (samples : List PixelSample) (c : Nat) : Option PixelSample := samples.find? (fun x => x.col == c)

/-- Open and short by current and forward voltage (R279). -/
def judgeCurrent (s : State) (expNa : Nat) (x : PixelSample) : Option (Nat × Option (Nat × Nat)) :=
  if x.current * 100 < expNa * s.openPct then some (0, none)
  else if x.vf < s.vfShort then some (1, none)
  else none

/-- The pixel's class in table order, and what its sample says (R274, R279); none where nothing is checked. -/
def senseFinding (s : State) (r parity c : Nat) (x : Option PixelSample) : Finding :=
  let d := planeGet 0 s.pix.front c r
  let blank := planeGet 0 s.pix.blank c r != 0
  let stuck : Option (Nat × Option (Nat × Nat)) :=
    match x with
    | some y => if d < 10 ∧ blank = false ∧ 500 < y.idle then some (3, none) else none
    | none => none
  let flagged := match x with
    | some y => y.flagged
    | none => false
  if mapped s c r || s.diag.badCols.contains c || planeGet 0 s.pix.trim c r == 0 then none
  else if flagged then none
  else if 10 ≤ d ∧ blank = false then some (x.bind (judgeCurrent s (s.peakNa c r)))
  else if d < 10 ∧ c % 2 = parity ∧ blank = false then
    match x with
    | none => some none
    | some y =>
      match judgeCurrent s (s.tpIref * 100) y with
      | some k => some (some k)
      | none => match stuck with
        | some k => some (some k)
        | none => some ((y.nodes.find? (fun p => neighbourDark s r p.1 p.2)).map (fun p => (2, some p)))
  else if d < 10 ∧ c % 2 = parity ∧ leakDue s c r = true then
    match x with
    | none => some none
    | some y =>
      if y.charge < 25 then some (some (4, none))
      else if 50 < y.steady then some (some (5, none))
      else if 150 ≤ y.charge ∧ y.charge ≤ 400 then some (some (6, y.nodes.head?))
      else some none
  else stuck.map some

/-- The pixel is deferred at this visit: dark, of the visit's parity, under a blank bit, with no leakage measurement (R274). -/
def deferredPixel (s : State) (r parity c : Nat) : Bool :=
  !(mapped s c r || s.diag.badCols.contains c || planeGet 0 s.pix.trim c r == 0)
  && decide (planeGet 0 s.pix.front c r < 10) && c % 2 == parity && planeGet 0 s.pix.blank c r != 0

/-- Stuck pixels of row `r` whose first visit after the isolation this is: a current that persists is FATAL (R282). -/
def checkStuck (s : State) (r : Nat) (samples : List PixelSample) : State :=
  let due := s.diag.stuckDue.filter (fun p => p.2 == r)
  let s1 := { s with diag := { s.diag with stuckDue := s.diag.stuckDue.filter (fun p => p.2 != r) } }
  if due.any (fun p => match sampleOf samples p.1 with
      | some x => decide (500 < x.idle)
      | none => false) then raiseFault s1 44 3 else s1

/-- Pixel (c, r) has been checked; a stuck check alone is no checked visit (R274, R278). -/
def noteVisit (s : State) (onlyStuck : Bool) (c r : Nat) : State :=
  if onlyStuck then s else { s with diag := { s.diag with checkedAt := planeSet 0 s.diag.checkedAt c r s.now } }

/-- Failures of other pixels seen once (R279). -/
def otherSuspects (s : State) (c r : Nat) : List Suspect := s.diag.suspects.filter (fun x => !(x.col == c && x.row == r))

/-- A failure of pixel (c, r): with the same kind seen before it is declared, otherwise it waits for its confirmation (R276, R279). -/
def suspectPixel (s : State) (r parity c kind : Nat) (other : Option (Nat × Nat)) : State :=
  if s.diag.suspects.any (fun x => x.col == c && x.row == r && x.kind == kind) then
    declare { s with diag := { s.diag with suspects := otherSuspects s c r } } c r kind other false
  else
    { s with diag := { s.diag with
        suspects := otherSuspects s c r ++ [⟨c, r, kind, other⟩]
        confirm := if s.diag.confirm.contains (r, parity) then s.diag.confirm else s.diag.confirm ++ [(r, parity)] } }

/-- A failing visit counts for its column; the third row in a row makes a column fault (R283). -/
def countFailure (s : State) (r parity c kind : Nat) (other : Option (Nat × Nat)) : State :=
  let rows := sparseGet [] s.diag.colFails c
  let rows' := if rows.contains r then rows else r :: rows
  if 3 ≤ rows'.length then
    lineFault { s with diag := { s.diag with colFails := sparseSet [] s.diag.colFails c [] } } true c kind
  else suspectPixel { s with diag := { s.diag with colFails := sparseSet [] s.diag.colFails c rows' } } r parity c kind other

/-- One pixel's finding counted: a second failure of the same kind declares it, a pass discards the first (R279, R283). -/
def countFinding (r parity : Nat) (s : State) (p : Nat × Option (Nat × Option (Nat × Nat))) : State :=
  match p.2 with
  | none =>
    let s1 := noteVisit s false p.1 r
    { s1 with diag := { s1.diag with suspects := otherSuspects s p.1 r, colFails := sparseSet [] s.diag.colFails p.1 [] } }
  | some q => countFailure (noteVisit s (q.1 == 3 && p.1 % 2 != parity) p.1 r) r parity p.1 q.1 q.2

/-- The kind with which at least ROW_LINE_TH pixels of the row fail, if any (R283). -/
def rowLineKind (s : State) (found : List (Nat × Option (Nat × Option (Nat × Nat)))) : Option Nat :=
  (List.range 7).find? (fun k => decide (s.rowLineTh ≤ found.countP (fun p => match p.2 with
    | some q => q.1 == k
    | none => false)))

/-- One visit to row `r` with a parity (R273 to R283). -/
def senseVisit (s : State) (r parity : Nat) (samples : List PixelSample) : State :=
  let cols := List.range 1024
  let skip (c : Nat) : Bool := s.diag.badRows.contains r || s.diag.stuckDue.contains (c, r)
  let found := cols.filterMap (fun c =>
    if skip c then none else (senseFinding s r parity c (sampleOf samples c)).map (fun x => (c, x)))
  let defer := cols.filter (fun c => !skip c && deferredPixel s r parity c)
  let s1 := checkStuck s r samples
  let s2 := (s1.bumpBy DIAG.DEFER_COUNT.COUNT (defer.countP (fun c => !leakDue s c r))).bumpBy DIAG.LEAK_COUNT.COUNT
    (defer.countP (fun c => leakDue s c r))
  let s3 := match found.head? with
    | some p => if s2.injWaits 43 then declare (s2.takeInj 43) p.1 r 0 none true else s2
    | none => s2
  match rowLineKind s found with
  | some k =>
    if s.diag.rowSuspects.contains (r, k) then
      lineFault { s3 with diag := { s3.diag with rowSuspects := s3.diag.rowSuspects.filter (fun p => p.1 != r) } } false r k
    else { s3 with diag := { s3.diag with
        rowSuspects := (r, k) :: s3.diag.rowSuspects, confirm := s3.diag.confirm ++ [(r, parity)] } }
  | none =>
    let s4 := { s3 with diag := { s3.diag with rowSuspects := s3.diag.rowSuspects.filter (fun p => p.1 != r) } }
    found.foldl (countFinding r parity) s4

/-- The visit after (row, parity) in the sweep of its group: even parity first, then odd, rows ascending (R276). -/
def nextVisit (p : Nat × Nat) : Nat × Nat :=
  if p.2 = 0 then (p.1, 1) else (p.1 / 64 * 64 + (p.1 + 1) % 64, 0)

/-- The op slot at a period start of group `g` (R272, R275, R276). -/
def opSlot (s : State) (g : Nat) (samples : List PixelSample) : State :=
  if s.flag DIAG.CTRL.EN ∧ s.scan.running ∧ s.mode ≠ 7 ∧ 0 < s.diag.opsLeft then
    let s1 := { s with diag := { s.diag with opsLeft := s.diag.opsLeft - 1 } }
    if 0 < s.diag.preempt then
      ({ s1 with diag := { s1.diag with preempt := s.diag.preempt - 1 } }).bump DIAG.PREEMPT_COUNT.COUNT
    else if (s.group g).drive = .fallback then s1
    else match s.diag.confirm.find? (fun p => p.1 / 64 == g) with
      | some p =>
        senseVisit { s1 with diag := { s1.diag with confirm := s1.diag.confirm.erase p } } p.1 p.2 samples
      | none =>
        let p := s.diag.sweep.getD g (64 * g, 0)
        senseVisit { s1 with diag := { s1.diag with sweep := s1.diag.sweep.set g (nextVisit p) } } p.1 p.2 samples
  else s

/-! ### Healing generations (R289, R291) -/

/-- HEALING_GEN_COMPLETE: a generation built from the map is complete and due at the next frame start (R291). -/
def execHealingGenComplete (s : State) : Out :=
  .next { s with diag := { s.diag with healReady := some s.diag.map } }

/-- A frame start's part: the complete generation becomes active once its entries are committed to MRAM (R289, R291), and the
diagnostic window opens (R272). -/
def diagFrameStart (s : State) : State :=
  let s1 := { s with diag := { s.diag with opsLeft := if s.mode = 7 then 0 else s.dwOps, preempt := 0 } }
  match s.diag.healReady with
  | some m =>
    if m.any (fun e => s.diag.uncommitted.any (fun u => u.col == e.col && u.row == e.row)) then s1
    else { s1 with diag := { s1.diag with heal := m, healReady := none, healGen := s.diag.healGen + 1 } }
  | none => s1

end Sys2Proof.Machine
end

