-- ==== Sys2Proof/Machine/Mram.lean ====
section
/-! DEFINITION. Mram.lean: the MRAM records, their journal and allowance, and what Jorosh restores from them
(16_memory.md R509 to R519). -/

namespace Sys2Proof.Machine

/-! ### Records (R511, R514) -/

/-- Payload maximum of record `num`; none for an unknown number (R514). -/
def recMax (num : Nat) : Option Nat :=
  if num = 1 then some 256
  else if num = 2 then some 1024
  else if num = 3 then some 64
  else if num = 0x10 ∨ num = 0x11 then some 16384
  else if num = 0x12 then some 4168
  else if 0x100 ≤ num ∧ num ≤ 0x10F then some 2048
  else none

/-- Every record number, in order. -/
def recNums : List Nat := [1, 2, 3, 0x10, 0x11, 0x12] ++ (List.range 16).map (fun i => 0x100 + i)

def recOf (s : State) (num : Nat) : Rec := sparseGet ⟨none, none⟩ s.mram.recs num

/-- The newest valid copy of a record, 0 for A and 1 for B (R513). -/
def newestCopy (r : Rec) : Option (Nat × RecCopy) :=
  match r.a, r.b with
  | some x, some y => if x.gen < y.gen then some (1, y) else some (0, x)
  | some x, none => some (0, x)
  | none, some y => some (1, y)
  | none, none => none

/-- The copy that the next commit writes, and its GEN (R512). -/
def nextCopy (r : Rec) : Nat × Nat :=
  match newestCopy r with
  | some (c, x) => (1 - c, (x.gen + 1) % 2 ^ 32)
  | none => (0, 1)

/-- The factory default of BOARD (R514). -/
def boardDefault : List Byte := [0x40, 0x41, 0x50, 0x2A] ++ toLe 4 10000 ++ toLe 2 3435 ++ [12, 80, 0, 0, 0, 0]

/-- The DDRC registers that DDR_TIMING holds, in address order: ORG to the last delay register, each as its fields (R514). -/
def ddrWords : List (List Field) := ((List.range 89).map (fun k => fieldsAt (0x80004 + 4 * k))).filter (fun l => l != [])

/-- The factory default of DDR_TIMING: the reset map sets in words 1 to 4, and a reference layout that the spec does not state in the
others (R514). -/
def ddrDefault : List Byte :=
  (ddrWords.mapIdx (fun k fs =>
    toLe 4 (if 1 ≤ k ∧ k ≤ 4 then sumNat (fs.map (fun f => f.reset.toNat * 2 ^ f.lo)) else (Config.ddrDefault k).toNat))).flatten

/-- The factory default payload of a record (R514); an empty one where the default is that there is nothing. -/
def recDefault (num : Nat) : List Byte :=
  if num = 1 then boardDefault
  else if num = 2 then ddrDefault
  else if num = 0x12 then List.replicate 4168 0
  else if 0x100 ≤ num ∧ num ≤ 0x10F then List.replicate 2048 0
  else []

/-- GEN and payload in force: of the newest valid copy, or the factory default with GEN 0 (R513, R520). -/
def payloadOf (s : State) (num : Nat) : Nat × List Byte :=
  match newestCopy (recOf s num) with
  | some (_, x) => (x.gen, x.data)
  | none => (0, recDefault num)

/-- Commits that record `num` may still make at once (R518). -/
def allowance (s : State) (num : Nat) : Nat := 60 - sparseGet 0 s.mram.used num

/-- A commit of `data` as record `num` (R512): journal OPEN, payload, commit word, journal DONE. When the commit word fails its
read-back the target copy is not valid and the entry stays OPEN. -/
def commitRecord (s : State) (num : Nat) (data : List Byte) (verified : Bool) : State :=
  let r := recOf s num
  let t := nextCopy r
  let copy : Option RecCopy := if verified then some ⟨t.2, data⟩ else none
  let m := s.mram
  { s with mram := { m with
      recs := sparseSet ⟨none, none⟩ m.recs num (if t.1 = 0 then { r with a := copy } else { r with b := copy })
      journal := sparseSet ⟨0, 0, 0, 0⟩ m.journal m.jnext ⟨num, t.1, if verified then 2 else 1, t.2⟩
      jnext := (m.jnext + 1) % 8192, used := sparseSet 0 m.used num (sparseGet 0 m.used num + 1) } }

/-- Jorosh may start a record of its own now: allowance left, and no SOFT_STOP (R485, R517, R518). -/
def mayCommit (s : State) (num : Nat) : Bool := decide (0 < allowance s num) && !s.flag SAFE.FB_CAUSE.SOFT_STOP

/-! ### Plane records (R510, R515, R516) -/

/-- Check words of `n` segments: segment `i` holds `seg i` and lies at `base` + 2048 i (R515). -/
def segChecks (base gen n : Nat) (seg : Nat → List Byte) : List Byte :=
  (List.range n).flatMap (fun i =>
    toLe 4 (crc32c (BitVec.ofNat 32 (((base + 2048 * i) / 8) ^^^ gen)) (seg i)).toNat)

/-- The trims that differ from 8192 as (column, row, T), in row and column order (R516). -/
def trimEntries (trims : Plane) : List (Nat × Nat × Nat) :=
  trims.flatMap (fun row => (row.2.mapIdx (fun c t => (c, row.1, t))).filter (fun e => e.2.2 != 8192))

/-- Distance of a trim from 8192. -/
def trimDev (e : Nat × Nat × Nat) : Nat := (e.2.2 - 8192) + (8192 - e.2.2)

/-- The first `n` entries at distance `d`, and every entry farther off. -/
def keepEntries (d : Nat) : Nat → List (Nat × Nat × Nat) → List (Nat × Nat × Nat)
  | _, [] => []
  | n, e :: t =>
    if d < trimDev e then e :: keepEntries d n t
    else if trimDev e = d ∧ 0 < n then e :: keepEntries d (n - 1) t
    else keepEntries d n t

/-- The trim list: at most 65,536 entries, those with the largest distance from 8192 (R516). -/
def trimList (trims : Plane) : List (Nat × Nat × Nat) :=
  let l := trimEntries trims
  if l.length ≤ 65536 then l
  else
    let d := ((List.range 65536).find? (fun d => decide (l.countP (fun e => decide (d < trimDev e)) ≤ 65536))).getD 0
    keepEntries d (65536 - l.countP (fun e => decide (d < trimDev e))) l

/-- A trim-list entry as its 8 bytes (R516). -/
def trimBytes (e : Nat × Nat × Nat) : List Byte := toLe 8 (e.1 + e.2.1 * 2 ^ 10 + e.2.2 * 2 ^ 20)

/-- The CAL payload up to TRIM_DROP (R514). -/
def calCore (s : State) : List Byte :=
  let l := trimList s.cal.trims
  s.cal.accel.flatMap (toLe 2) ++ s.cal.model.flatMap (toLe 4) ++ toLe 4 s.cal.dstep
  ++ s.cal.witnesses.flatMap (fun w => toLe 2 w.p0 ++ toLe 2 (toBits 16 w.tempCoef))
  ++ toLe 4 l.length ++ toLe 4 ((trimEntries s.cal.trims).length - l.length)

/-- Bytes of mask-plane segment `i`: rows 2i and 2i + 1 (R515). -/
def maskSegment (m : Plane) (i : Nat) : List Byte :=
  (planeRow 0 m (2 * i) ++ planeRow 0 m (2 * i + 1)).map (BitVec.ofNat 8)

/-- The whole CAL payload for generation `gen` in copy `copy` (R514). -/
def calPayload (s : State) (copy gen : Nat) : List Byte :=
  let l := trimList s.cal.trims
  calCore s ++ segChecks (0x400000 + copy * 0x100000) gen 512 (maskSegment s.cal.masks)
  ++ segChecks (0x600000 + copy * 0x80000) gen 256 (fun j => padTo 2048 (((l.drop (256 * j)).take 256).flatMap trimBytes))

/-- The plane of a trim list. -/
def trimPlane (l : List (Nat × Nat × Nat)) : Plane := l.foldl (fun p e => planeSet 8192 p e.1 e.2.1 e.2.2) []

/-- The CAL record committed with its planes (R310, R515). -/
def commitCal (s : State) : State :=
  let t := nextCopy (recOf s 0x10)
  let s1 := commitRecord s 0x10 (calPayload s t.1 t.2) true
  let tp := trimPlane (trimList s.cal.trims)
  { s1 with mram := if t.1 = 0 then { s1.mram with maskA := s.cal.masks, trimA := tp }
                    else { s1.mram with maskB := s.cal.masks, trimB := tp } }

/-- CAL differs from its newest copy (R310). -/
def calDue (s : State) : Bool :=
  match newestCopy (recOf s 0x10) with
  | none => s.cal.recordValid
  | some (c, x) =>
    decide (x.data.take (calCore s).length ≠ calCore s)
    || decide ((if c = 0 then s.mram.maskA else s.mram.maskB) ≠ s.cal.masks)
    || decide ((if c = 0 then s.mram.trimA else s.mram.trimB) ≠ trimPlane (trimList s.cal.trims))

/-- A dose word as a 5-bit exponent and an 11-bit mantissa, rounded down (R319). -/
def doseEncode (d : Nat) : Nat :=
  if d < 2048 then d
  else
    let e := Nat.log2 d - 10
    e * 2048 + (d / 2 ^ (e - 1) - 2048)

/-- The value of a checkpointed dose word (R319). -/
def doseDecode (w : Nat) : Nat :=
  if w / 2048 = 0 then w % 2048 else (2048 + w % 2048) * 2 ^ (w / 2048 - 1)

/-- Every dose word checkpointed to the area of the copy that is replaced, with the zone means of the V_f codes, and the DOSE record
committed (R315, R319, R515); the starting row rotates by 64. -/
def checkpoint (s : State) : State :=
  let enc := s.cal.dose.map (fun r => (r.1, r.2.map doseEncode))
  let zoneVf (z : Nat) : Nat :=
    sumNat ((s.cal.vf.filter (fun r => r.1 / 128 == z / 8)).map (fun r => sumNat ((r.2.drop (128 * (z % 8))).take 128))) / 16384
  let vfz := (List.range 64).map zoneVf
  let t := nextCopy (recOf s 0x12)
  let data := toLe 2 s.cal.ckptRow ++ [0, 0]
    ++ segChecks (t.1 * 0x200000) t.2 1024 (fun r => (planeRow 0 enc r).flatMap (toLe 2))
    ++ vfz.map (BitVec.ofNat 8) ++ toLe 4 (s.reg CAL.AG_STATUS.FB_HOURS)
  let s1 := commitRecord s 0x12 data true
  { s1 with
    mram := if t.1 = 0 then { s1.mram with doseA := enc } else { s1.mram with doseB := enc }
    cal := { s1.cal with vfZone := vfz, ckptRow := (s.cal.ckptRow + 64) % 1024, ckptDue := false } }

/-- The checkpoint runs now, or waits while SOFT_STOP holds or the allowance is used up (R485, R518). -/
def checkpointOrWait (s : State) : State :=
  if mayCommit s 0x12 then checkpoint s else { s with cal := { s.cal with ckptDue := true } }

/-! ### The dead-pixel map (R288, R289) -/

/-- A map entry as its 4 bytes (R288). -/
def mapEntryBytes (e : MapEntry) : List Byte := toLe 4 (e.col + e.row * 2 ^ 10 + e.kind % 8 * 2 ^ 20 + b2n e.noheal * 2 ^ 23)

/-- The entry of 4 bytes at offset `o`. -/
def mapEntryAt (b : List Byte) (o : Nat) : MapEntry :=
  let w := leAt b o 4
  ⟨w % 1024, bits w 10 10, bits w 20 3, bit w 23, false⟩

/-- The DEAD_MAP payload: entries by injected faults are never written (R289, R514). -/
def mapPayload (s : State) : List Byte := (s.diag.map.filter (fun e => !e.inj)).flatMap mapEntryBytes

/-- The map is committed. -/
def commitMap (s : State) : State :=
  let s1 := commitRecord s 0x11 (mapPayload s) true
  { s1 with diag := { s1.diag with uncommitted := [] } }

/-- MAP_ENTRY_COMMIT (R289). -/
def execMapEntryCommit (s : State) : Out :=
  .next (if supUp s ∧ s.diag.uncommitted ≠ [] ∧ mayCommit s 0x11 then commitMap s else s)

/-! ### Jorosh's own commits (R310, R324, R512) -/

/-- A record of Jorosh's differs from its newest copy and may be committed. -/
def recordCommit (s : State) (num : Nat) : State :=
  if mayCommit s num = false then s
  else if num = 3 then
    (if payloadOf s 3 = ((payloadOf s 3).1, toLe 1 s.cal.vcPlan) ∨ (newestCopy (recOf s 3) = none ∧ s.cal.vcPlan = min 10 Config.vcorePowerOn) then s
     else commitRecord s 3 (toLe 1 s.cal.vcPlan) true)
  else if num = 0x10 then (if calDue s then commitCal s else s)
  else if num = 0x11 then (if (payloadOf s 0x11).2 = mapPayload s then s else commitMap s)
  else if num = 0x12 then (if s.cal.ckptDue then checkpoint s else s)
  else s

/-- MRAM_RECORD_COMMIT (R512). -/
def execMramRecordCommit (num : Nat) (s : State) : Out := .next (if supUp s then recordCommit s num else s)

/-! ### Judging, repair and scrubbing (R513, R519) -/

/-- One record judged at start-up or wake (R513). -/
def judgeRecord (s : State) (num : Nat) : State :=
  match (recOf s num).a, (recOf s num).b with
  | some _, some _ => s
  | none, none =>
    raiseFault (raiseEvent ((s.setFlag MRAM.STATUS.CFG_DEFAULTED true).setReg MRAM.STATUS.DEF_RECORD num) 0x0105 (toLe 2 num)) 60 2
  | _, _ => raiseFault s 60 1

/-- Every record judged, and the OPEN journal entries counted (R513). -/
def judgeRecords (s : State) : State :=
  let s1 := recNums.foldl judgeRecord s
  let n := s.mram.journal.countP (fun e => e.2.state == 1)
  if n = 0 then s1 else (s1.bumpBy MRAM.TORN_COUNT.COUNT n).setFlag MRAM.STATUS.TORN true

/-- An invalid copy rewritten from the valid one; planes go with the records that index them (R513, R515). -/
def repairCopy (s : State) (num : Nat) : State :=
  let r := recOf s num
  let put (r' : Rec) : State := { s with mram := { s.mram with recs := sparseSet ⟨none, none⟩ s.mram.recs num r' } }
  match r.a, r.b with
  | some x, none =>
    let t := put { r with b := some x }
    { t with mram := if num = 0x10 then { t.mram with maskB := t.mram.maskA, trimB := t.mram.trimA }
                     else if num = 0x12 then { t.mram with doseB := t.mram.doseA } else t.mram }
  | none, some y =>
    let t := put { r with a := some y }
    { t with mram := if num = 0x10 then { t.mram with maskA := t.mram.maskB, trimA := t.mram.trimB }
                     else if num = 0x12 then { t.mram with doseA := t.mram.doseB } else t.mram }
  | _, _ => s

/-- MRAM_COPY_REPAIR (R513). -/
def execMramCopyRepair (num : Nat) (s : State) : Out := .next (if supUp s then repairCopy s num else s)

/-- A failing copy that the scrub meets is restored, with its CORR fault (R513, R519). -/
def scrubRecord (s : State) (num : Nat) : State :=
  if (recOf s num).a.isSome = (recOf s num).b.isSome then s else repairCopy (raiseFault s 60 1) num

/-- MRAM_SCRUB: corrected words are counted, and failing copies restored (R509, R519). -/
def execMramScrub (corrected : Nat) (s : State) : Out :=
  .next (if supUp s then recNums.foldl scrubRecord (s.bumpBy MRAM.CE_COUNT.COUNT corrected) else s)

/-- WEAR_ALLOWANCE_TICK: every allowance gains 1 up to 60 (R518). -/
def execWearAllowanceTick (s : State) : Out :=
  .next { s with mram := { s.mram with used := (s.mram.used.map (fun p => (p.1, p.2 - 1))).filter (fun p => p.2 != 0) } }

/-! ### Restoring (R288, R309, R319, R514) -/

/-- The board record in force; bytes beyond a short payload are the default's. -/
def boardRecord (s : State) : List Byte := let b := (payloadOf s 1).2; b ++ boardDefault.drop b.length

/-- The board record written to the registers that take it (R514, R586). The always-on copy of WAKE_ADDR follows (R409). -/
def applyBoard (s : State) : State :=
  let b := boardRecord s
  let s1 := (s.setReg IOMUX.BOARD.VLED_ADDR (leAt b 0 1)).setReg IOMUX.BOARD.VCORE_ADDR (leAt b 1 1)
  let s2 := ((s1.setReg IOMUX.BOARD.LENS_ADDR (leAt b 2 1)).setReg IOMUX.BOARD.WAKE_ADDR (leAt b 3 1)).setAct
    IOMUX.BOARD.WAKE_ADDR (leAt b 3 1)
  let s3 := (s2.setReg SCAN.VLED_LIM.VLED_MIN (leAt b 10 1)).setReg SCAN.VLED_LIM.VLED_MAX (leAt b 11 1)
  (s3.setReg (TX.ASYM.ASYM 0) (leAt b 12 2)).setReg (TX.ASYM.ASYM 1) (leAt b 14 2)

/-- Calibration data of the newest CAL copy, or its factory default (R309, R322, R514, R515). -/
def restoreCal (s : State) : State :=
  match newestCopy (recOf s 0x10) with
  | none => { s with cal := { s.cal with recordValid := false, masks := [], trims := [] } }
  | some (c, x) =>
    let b := x.data
    { s with cal := { s.cal with
        recordValid := true
        masks := if c = 0 then s.mram.maskA else s.mram.maskB
        trims := if c = 0 then s.mram.trimA else s.mram.trimB
        accel := (List.range 16).map (fun i => leAt b (2 * i) 2)
        model := (List.range 32).map (fun i => leAt b (32 + 4 * i) 4), dstep := leAt b 160 4
        witnesses := s.cal.witnesses.mapIdx (fun i w =>
          { w with p0 := leAt b (164 + 4 * i) 2, tempCoef := sext 16 (leAt b (166 + 4 * i) 2) }) } }

/-- The dead-pixel map of the newest copy (R288). -/
def restoreMap (s : State) : State :=
  let b := (payloadOf s 0x11).2
  { s with diag := { s.diag with map := (List.range (min 4096 (b.length / 4))).map (fun i => mapEntryAt b (4 * i)), uncommitted := [] } }

/-- The dose words of the newer area, with the row the next checkpoint starts at, the zone means and FB_HOURS (R318, R319). -/
def restoreDose (s : State) : State :=
  match newestCopy (recOf s 0x12) with
  | none => { s with cal := { s.cal with dose := [] } }.setReg CAL.AG_STATUS.FB_HOURS 0
  | some (c, x) =>
    let a := if c = 0 then s.mram.doseA else s.mram.doseB
    { s with cal := { s.cal with
        dose := a.map (fun (r : Nat × List Nat) => (r.1, r.2.map doseDecode)), ckptRow := (leAt x.data 0 2 + 64) % 1024
        vfZone := (List.range 64).map (fun z => leAt x.data (4100 + z) 1) } }.setReg CAL.AG_STATUS.FB_HOURS (leAt x.data 4164 4)

/-- The planned VCORE code; without a plan, the regulator's power-on voltage (R324, R514). -/
def restorePlan (s : State) : State :=
  match newestCopy (recOf s 3) with
  | some (_, x) => { s with cal := { s.cal with vcPlan := min 10 (leAt x.data 0 1) } }
  | none => { s with cal := { s.cal with vcPlan := min 10 Config.vcorePowerOn } }

/-- DDR_TIMING bytes written to the DDRC registers that firmware writes; the RO and counter fields among them are left, and so is a
register that a short payload does not reach (R499, R514). -/
def applyTiming (s : State) (b : List Byte) : State :=
  ((ddrWords.mapIdx (fun k fs => (k, fs))).filter (fun x => decide (4 * x.1 + 4 ≤ b.length))).foldl (fun t x =>
    (x.2.filter (fun f => f.access == .rwd)).foldl (fun u f => u.setReg f (bits (leAt b (4 * x.1) 4) f.lo f.width)) t) s

end Sys2Proof.Machine
end

