-- ==== Sys2Proof/Machine/Calib.lean ====
section
/-! DEFINITION. Calib.lean: start-up calibration, in-service re-measurement, dose accounting, witness pixels, the lumen model, gain
map generations and VCORE planning (09_calibration_and_ageing.md). -/

namespace Sys2Proof.Machine

/-! ### Settings at their nearest limits (R325, R327, R330) -/

def State.calIref (s : State) : Nat := s.regIn CAL.CFG.CAL_IREF 50 250
def State.selTol (s : State) : Nat := s.regIn CAL.CFG.SEL_TOL 5 50
def State.trimLim (s : State) : Nat := s.regIn CAL.CFG.TRIM_LIM 5 40
def State.unitWin (s : State) : Nat := s.regIn CAL.CFG.UNIT_WIN 10 90
def State.aMax (s : State) : Nat := s.regIn CAL.AG_CFG.A_MAX 100 200

/-! ### Statistics (R306) -/

/-- The nominal reading of a pixel that no reading lists, nA (assumption 20). -/
def State.nominalNa (s : State) : Nat := s.calIref * 100

/-- Unit readings of pixel (c, r). -/
def unitReadings (s : State) (c r : Nat) : List Nat :=
  match sparseGet [] s.cal.readings (1024 * r + c) with
  | [] => List.replicate 8 s.nominalNa
  | v => v

/-- The pixels of readings listed for unmapped pixels: (column, row, readings). -/
def listedReadings (s : State) : List (Nat × Nat × List Nat) :=
  (s.cal.readings.map (fun p => (p.1 % 1024, p.1 / 1024, p.2))).filter (fun p => !mapped s p.1 p.2.1)

/-- Mapped pixels that satisfy `f`, each once. -/
def mappedCount (s : State) (f : Nat → Nat → Bool) : Nat := s.diag.map.countP (fun e => f e.col e.row)

/-- The median of the unit readings of the unmapped pixels that satisfy `f`, `n` pixels in all, each reading mapped by `g` of its
column (R306). -/
def readingMedian (s : State) (n : Nat) (f : Nat → Nat → Bool) (g : Nat → Nat → Nat) (nominal : List (Nat × Nat)) : Nat :=
  let listed := (listedReadings s).filter (fun p => f p.1 p.2.1)
  let vals := listed.flatMap (fun p => p.2.2.map (g p.1))
  let rest := n - mappedCount s f - listed.length
  if nominal = [] then medianWith vals s.nominalNa (8 * rest)
  else
    let items := nominal.foldr (fun x l => insCount x.1 x.2 l) (vals.foldr (fun x l => insCount x 1 l) [])
    nthCount (((vals.length + sumNat (nominal.map (·.2))) - 1) / 2) items

/-- The global median M_g (R306). -/
def globalMedian (s : State) : Nat := readingMedian s 1048576 (fun _ _ => true) (fun _ v => v) []

/-- The column gain K_c (R306). -/
def columnGain (s : State) (mg c : Nat) : Nat :=
  divFree (readingMedian s 1024 (fun c' _ => c' == c) (fun _ v => v) [] * 16384 + mg / 2) mg

/-- A reading corrected by its column gain (R306). -/
def corrected (k r : Nat) : Nat := divFree (r * 16384 + k / 2) k

/-- The zone target t_z: the median of the corrected readings of its unmapped pixels (R306). -/
def zoneTarget (s : State) (gains : List Nat) (z : Nat) : Nat :=
  let f (c r : Nat) : Bool := zoneOf c r == z
  let k (c : Nat) : Nat := gains.getD c 16384
  let cols := (List.range 128).map (fun i => 128 * (z % 8) + i)
  let perCol (c : Nat) : Nat :=
    128 - mappedCount s (fun c' r => c' == c && zoneOf c' r == z)
      - ((listedReadings s).countP (fun p => p.1 == c && zoneOf p.1 p.2.1 == z))
  let nominal := cols.map (fun c => (corrected (k c) s.nominalNa, 8 * perCol c))
  readingMedian s 16384 f (fun c v => corrected (k c) v) nominal

/-- The statistics of a complete sweep taken over: M_g, every K_c and every t_z (R306, R313). -/
def sweepStats (s : State) : State :=
  let mg := globalMedian s
  let gains := (List.range 1024).map (columnGain s mg)
  let targets := (List.range 64).map (zoneTarget s gains)
  { s with cal := { s.cal with colGain := gains, target := targets } }.setReg CAL.START_STATS.GLOBAL_MED mg

/-! ### Unit selection (R307, R308) -/

/-- What calibration finds for a pixel: a mask and a trim, or a fault of a kind (R307, R308). -/
abbrev Choice := (Nat × Nat) ⊕ Nat

/-- The sum of the readings a mask selects. -/
def maskSum (u : List Nat) (m : Nat) : Nat :=
  sumNat ((List.range 8).map (fun k => if bit m k then u.getD k 0 else 0))

/-- Distance between two numbers. -/
def dist (a b : Nat) : Nat := if a ≤ b then b - a else a - b

/-- A sum lies within the selection tolerance of 6 × t (R308). -/
def inTolerance (s : State) (t sum : Nat) : Bool := decide (dist sum (6 * t) * 1000 ≤ sum * s.selTol)

/-- The subset of `n` retained units whose sum is closest to 6 × t, the smallest mask on a tie (R308). -/
def bestMask (u : List Nat) (keep t n : Nat) : Nat :=
  ((List.range 256).filter (fun m => m &&& keep == m && popcount8 m == n)).foldl
    (fun best m => if best = 0 ∨ dist (maskSum u m) (6 * t) < dist (maskSum u best) (6 * t) then m else best) 0

/-- The digital trim of a sum (R308). -/
def trimOf (s : State) (t sum : Nat) : Nat :=
  if inTolerance s t sum then 8192 else divFree (6 * t * 8192 + sum / 2) sum

/-- Selection for a pixel with corrected readings `u`, forward voltages `vf` and target `t` (R307, R308). -/
def selectUnits (s : State) (u vf : List Nat) (t : Nat) : Choice :=
  let keep := bitsOf 8 (fun k => decide (dist (u.getD k 0) t * 100 ≤ t * s.unitWin))
  let n := if 6 ≤ popcount8 keep then 6 else 5
  if u.all (fun x => decide (x * 100 < t * s.openPct)) then .inr 0
  else if vf.any (fun v => decide (v < s.vfShort)) then .inr 1
  else if popcount8 keep < 5 then .inr 0
  else
    let m := bestMask u keep t n
    let tr := trimOf s t (maskSum u m)
    if dist tr 8192 * 100 ≤ s.trimLim * 8192 then .inl (m, tr) else .inr 0

/-- Corrected readings of pixel (c, r). -/
def correctedReadings (s : State) (c r : Nat) : List Nat :=
  (unitReadings s c r).map (corrected (s.cal.colGain.getD c 16384))

/-- V_f code of eight forward voltages in 10 mV: their average above 2.00 V, saturating (R315). -/
def vfCode (vf : List Nat) : Nat := min 255 (sumNat vf / 8 - 200)

/-- Measured readings and V_f codes taken over. -/
def takeReading (s : State) (x : UnitReading) : State :=
  { s with cal := { s.cal with
      readings := sparseSet [] s.cal.readings (1024 * x.row + x.col) x.units
      vf := planeSet 0 s.cal.vf x.col x.row (vfCode x.vf) } }

/-! ### Gain map (R300 to R302, R323) -/

/-- Relative flux R(d) interpolated in the lumen model (R323). -/
def relFlux (s : State) (d : Nat) : Nat :=
  let i := divFree d s.cal.dstep
  let a : Int := s.cal.model.getD i 65536
  let b : Int := s.cal.model.getD (i + 1) 65536
  if i < 31 then (a + (b - a) * (d - i * s.cal.dstep : Nat) / s.cal.dstep).toNat
  else if i = 31 ∧ d = 31 * s.cal.dstep then s.cal.model.getD 31 0
  else Config.fluxBeyond d (s.cal.model.getD 31 0) (s.cal.model.getD 30 0)

/-- The sum of a plane whose unlisted rows are 0. -/
def planeSum (p : Plane) : Nat := sumNat (p.map (fun r => sumNat r.2))

/-- The ageing factor before its clamp, for dose `d` and array-average dose `avg` (R323). -/
def rawAge (s : State) (avg d : Nat) : Nat :=
  let r := relFlux s d
  divFree ((if s.flag CAL.AG_CFG.AG_TARGET then 65536 else relFlux s avg) * 8192 + r / 2) r

/-- The ageing factor A: 8192 with AG_EN at 0, otherwise clamped to 4096 and 8192 × A_MAX / 100 (R323, R326). -/
def ageFactor (s : State) (avg d : Nat) : Nat :=
  if s.flag CAL.CTRL.AG_EN then max 4096 (min (8192 * s.aMax / 100) (rawAge s avg d)) else 8192

/-- A gain map entry (R300). -/
def gainEntry (a t : Nat) : Nat := min 65535 ((a * t + 4096) / 8192)

/-- The gain map built from the doses, trims and the map as they stand (R300, R323), with the ageing factors used. -/
def buildGain (s : State) : Plane × Plane :=
  let avg := planeSum s.cal.dose / 1048576
  let ageRow (r : Nat) : List Nat := (planeRow 0 s.cal.dose r).map (ageFactor s avg)
  let row (r : Nat) : List Nat :=
    (ageRow r).mapIdx (fun c a => if mapped s c r then 8192 else gainEntry a (planeGet 8192 s.cal.trims c r))
  ((List.range 1024).foldr (fun r p => planeSetRow 8192 p r (row r)) [],
    (List.range 1024).foldr (fun r p => planeSetRow 8192 p r (ageRow r)) [])

/-- GAINMAP_GEN_COMPLETE: K_GAINMAP completes a generation, due at the next frame start (R302); A_CLAMPED shows whether a pixel
is held at the clamp (R323). -/
def execGainmapGenComplete (s : State) : Out :=
  let g := buildGain s
  let hi := 8192 * s.aMax / 100
  let clamped := s.flag CAL.CTRL.AG_EN && g.2.any (fun r => r.2.any (fun a => a == hi || a == 4096))
  .next ({ s with cal := { s.cal with gainReady := some g.1, age := g.2 } }.setFlag CAL.STATUS.A_CLAMPED clamped)

/-- A frame start's part: the complete generation becomes active and GEN advances (R302); a new in-service row is due (R311). -/
def calFrameStart (s : State) : State :=
  let s1 := { s with cal := { s.cal with rowDone := false } }
  match s.cal.gainReady with
  | some g => { s1 with cal := { s1.cal with gain := g, gainReady := none, gainBuilt := true } }.wrapBy CAL.AG_STATUS.GEN 1
  | none => s1

/-! ### Start-up calibration (R304, R305, R309) -/

/-- The choice for one pixel of start-up calibration. A mapped pixel keeps 0x00 and is only measured (R307). -/
def startChoice (s : State) (vfs : List (Nat × List Nat)) (c r : Nat) : Choice :=
  if mapped s c r then .inl (0, 8192)
  else
    let vf := match vfs.find? (fun p => p.1 == 1024 * r + c) with
      | some p => p.2
      | none => []
    selectUnits s (correctedReadings s c r) vf (s.cal.target.getD (zoneOf c r) 0)

/-- Row `r` of start-up calibration: masks, trims, and the pixels found faulty, which are declared and mapped directly (R307). -/
def calibrateRow (vfs : List (Nat × List Nat)) (bad : List Nat) (s : State) (r : Nat) : State :=
  let cs := (List.range 1024).map (startChoice s vfs · r)
  let masks := cs.map (fun x => match x with
    | .inl p => p.1
    | .inr _ => 0)
  let trims := cs.map (fun x => match x with
    | .inl p => p.2
    | .inr _ => 8192)
  let s1 := { s with cal := { s.cal with
    masks := planeSetRow 0 s.cal.masks r masks, trims := planeSetRow 8192 s.cal.trims r trims } }
  let s2 := if bad.contains r then s1 else writeTrimRow s1 r masks
  (cs.mapIdx (fun c x => (c, x))).foldl (fun t p => match p.2 with
    | .inl _ => t
    | .inr k => declare t p.1 r k none false) s2

/-- The number of pixels with T ≠ 8192 (R329). -/
def trimmedCount (s : State) : Nat := sumNat (s.cal.trims.map (fun r => r.2.countP (· != 8192)))

/-- The readings of the measurement, its statistics, and the mask of every row (R304 to R308). -/
def startMeasure (s : State) (readings : List UnitReading) (badRows : List Nat) : State :=
  (List.range 1024).foldl (calibrateRow (readings.map (fun x => (1024 * x.row + x.col, x.vf))) badRows)
    (sweepStats (readings.foldl takeReading { s with cal := { s.cal with readings := [] } }))

/-- Rows whose masks fail read-back twice (R308). -/
def startVerify (s : State) (badRows : List Nat) : State :=
  if badRows = [] then s else raiseFaultN (s.setFlag CAL.STATUS.WRITE_FAIL true) 49 2 badRows.length

/-- The first gain map generation of the calibration (R302, R304). -/
def startGains (s : State) : State :=
  let g := buildGain s
  { s with cal := { s.cal with gainReady := some g.1, age := g.2, recordValid := true, sweepRows := 0 } }

/-- What the calibration reports at its end (R304, R308). -/
def startReport (s : State) : State :=
  let s1 := (s.setReg CAL.TRIM_STATS.TRIMMED (trimmedCount s)).setReg CAL.START_STATS.DARK_US 18000
  { s1 with diag := { s1.diag with ageFrom := s1.now } }.setFlag CAL.STATUS.DONE true

/-- Start-up calibration up to DONE (R304 to R308): readings, statistics, selection, masks, first gain map generation. -/
def startUpCalibration (s : State) (readings : List UnitReading) (badRows : List Nat) : State :=
  startReport (startGains (startVerify (startMeasure s readings badRows) badRows))

/-- The masks and trims in force without a measurement: those restored, or mask 0x3F and T = 8192 for every unmapped pixel when no
valid calibration record exists (R303, R309). -/
def restoreMasks (s : State) : State :=
  (List.range 1024).foldl (fun t r =>
    let row := (List.range 1024).map (fun c =>
      if mapped t c r then 0 else if t.cal.recordValid then planeGet 0 t.cal.masks c r else 0x3F)
    writeTrimRow { t with cal := { t.cal with masks := planeSetRow 0 t.cal.masks r row } } r row) s

/-- Start-up calibration, or its abort when a fallback cause is active before DONE (R309). -/
def calibrateOrAbort (s : State) (readings : List UnitReading) (badRows : List Nat) : State :=
  if fbActive s then
    let s1 := (restoreMasks s).setFlag CAL.STATUS.STARTUP_ABORT true
    if s.cal.recordValid then s1 else { s1 with cal := { s1.cal with trims := [] } }
  else startUpCalibration s readings badRows

/-! ### In-service re-measurement (R311 to R314) -/

/-- One pixel of a measured row judged: re-selected when the sum of its mask lies outside tolerance (R313). A pending isolation
wins over the mask write (R314), since the write starts from the row's pending masks. -/
def judgeInService (r : Nat) (s : State) (c : Nat) : State :=
  let t := s.cal.target.getD (zoneOf c r) 0
  let u := correctedReadings s c r
  let m := planeGet 0 s.cal.masks c r
  if mapped s c r ∨ inTolerance s t (maskSum u m) = true then s
  else match selectUnits s u [] t with
    | .inr _ => s
    | .inl (m', tr) =>
      let s1 := { s with cal := { s.cal with
        masks := planeSet 0 s.cal.masks c r m', trims := planeSet 8192 s.cal.trims c r tr } }
      (if m' = m then s1 else writeTrim s1 c r m').bump CAL.RESEL_COUNT.COUNT

/-- Pixel (c, r) is under a blank bit, or its unit reading is flagged: it is skipped (R312). -/
def skippedPixel (s : State) (r : Nat) (units : List UnitReading) (c : Nat) : Bool :=
  planeGet 0 s.pix.blank c r != 0 || units.any (fun x => x.col == c && x.flagged)

/-- The readings of row `r` taken; skipped pixels are counted (R312). -/
def takeRow (s : State) (r : Nat) (units : List UnitReading) : State :=
  ((units.filter (fun x => !x.flagged && planeGet 0 s.pix.blank x.col r == 0)).foldl takeReading s).bumpBy CAL.SKIP_COUNT.COUNT
    ((List.range 1024).countP (skippedPixel s r units))

/-- The readings of row `r` taken and its pixels judged (R312, R313). -/
def measurePixels (s : State) (r : Nat) (units : List UnitReading) : State :=
  (List.range 1024).foldl (judgeInService r) (takeRow s r units)

/-- Row `r`, the `n`-th of its sweep, has been measured: a complete sweep takes its statistics, and CAL_ROW moves on (R311, R313). -/
def advanceRow (s : State) (r n : Nat) : State :=
  let s1 := { s with cal := { s.cal with darkRow := some r, sweepRows := if n = 1024 then 0 else n } }
  (if n = 1024 then sweepStats s1 else s1).setReg CAL.STATUS.CAL_ROW (if r = 1023 then 0 else r + 1)

/-- The count of trimmed pixels after a measured row, and the op slots that it takes (R275, R276, R308). -/
def reportRow (s : State) (ops : Nat) : State :=
  { s.setReg CAL.TRIM_STATS.TRIMMED (trimmedCount s) with diag := { s.diag with preempt := ops } }

/-- The in-service measurement at a period start of the group of CAL_ROW (R311, R312). -/
def measureRow (s : State) (units : List UnitReading) : State :=
  reportRow (advanceRow (measurePixels s (s.reg CAL.STATUS.CAL_ROW) (units.filter (fun x => x.row == s.reg CAL.STATUS.CAL_ROW)))
    (s.reg CAL.STATUS.CAL_ROW) (s.cal.sweepRows + 1)) (if s.mode = 4 then 2 else 1)

/-- The calibration part of a period start of group `g`. -/
def calPeriod (s : State) (g : Nat) (units : List UnitReading) : State :=
  let s1 := match s.cal.darkRow with
    | some r => if r / 64 = g then { s with cal := { s.cal with darkRow := none } } else s
    | none => s
  if s.flag CAL.CTRL.EN ∧ s.flag CAL.CTRL.INSVC_EN ∧ s.scan.running ∧ s.mode ≠ 7 ∧ s.cal.rowDone = false
      ∧ s.reg CAL.STATUS.CAL_ROW / 64 = g then
    let s2 := { s1 with cal := { s1.cal with rowDone := true } }
    if (s.group g).drive = .fallback then s2 else measureRow s2 units
  else s1

/-- PWM_PERIOD_START: the swap, then the in-service measurement, then the op slot of the group's period start (R39, R272, R311). -/
def execPwmPeriodStart (g : Nat) (samples : List PixelSample) (units : List UnitReading) (s : State) : Out :=
  if g < 16 ∧ clocksRun s then .next (opSlot (calPeriod (groupPeriod s g) g units) g samples) else .next s

/-! ### Dose (R316 to R320) -/

/-- The acceleration band of a zone temperature in quarter degrees (R316). -/
def accelBand (t4 : Int) : Nat := min 15 ((t4 + 160) / 50).toNat

/-- Acceleration factor AF of zone `z`. -/
def State.accelOf (s : State) (z : Nat) : Nat := s.cal.accel.getD (accelBand (sext 12 (s.reg (THM.ZONE.T z)))) 256

/-- floor(Δ × 4096) of the dose increment (R316): `ipk` in 0.1 µA, `d` on a 12-bit scale, `pc` of `p` passes clear, frame length
`f` in CLK_PIX cycles. -/
def doseStep (ipk d pc p f af : Nat) : Nat :=
  divFree (ipk * d * pc * f * 128000 * af) (10 * p * 600000000 * 3600 * 256)

/-- The four bits of `n` in reverse order. -/
def bitrev4 (n : Nat) : Nat := b2n (bit n 3) + 2 * b2n (bit n 2) + 4 * b2n (bit n 1) + 8 * b2n (bit n 0)

/-- DITH of the frame (R317). -/
def dither (frame : Nat) : Nat := 256 * bitrev4 (frame % 16)

/-- A dose word after one frame (R316, R317). -/
def doseAdd (word step dith : Nat) : Nat := min 0xFFFFFFFF (word + (step + dith) / 4096)

/-- The lit code of pixel (c, r) on a 12-bit scale; 0 where its group lights no PWM. -/
def litCode (s : State) (c r : Nat) : Nat :=
  let g := s.group (r / 64)
  if g.drive = .pwm then (if g.n11 then 2 else 1) * planeGet 0 s.pix.front c r else 0

/-- K_DOSE over the frame period that ends (R316 to R320). The increment of a band that lost its engine is dropped (R217). -/
def runDose (s : State) : State :=
  if pwmLit s then
    let dith := dither (s.reg SCAN.FRAME_NUM.FRAME_NUM)
    let f := modeF s.mode
    let p := s.shd.passes
    let step (c r : Nat) : Nat :=
      doseStep (popcount8 (planeGet 0 s.pix.trim c r) * s.iref (zoneOf c r)) (litCode s c r)
        (planeGet 0 s.shd.clearPasses c r) p f (s.accelOf (zoneOf c r))
    let dose := s.pix.front.foldl (fun m row => if bit s.eng.lostBands (row.1 / 64) then m else
      planeSetRow 0 m row.1 ((planeRow 0 m row.1).mapIdx (fun c w => doseAdd w (step c row.1) dith))) s.cal.dose
    let lit := sumNat (s.pix.front.map (fun row => sumNat ((List.range 1024).map (fun c =>
      litCode s c row.1 * planeGet 0 s.shd.clearPasses c row.1))))
    let unit := sumNat ((List.range 64).map s.iref) / 64
    let witStep (i : Nat) : Nat :=
      doseStep (6 * unit) (min 4095 (divFree (2 ^ (i / 16) * lit) (p * 2097152))) 1 1 f (Config.witnessAf i)
    let wits := s.cal.witnesses.mapIdx (fun i w => { w with dose := doseAdd w.dose (witStep i) dith })
    { s with cal := { s.cal with dose := dose, witnesses := wits }, eng := { s.eng with lostBands := 0 } }
  else { s with eng := { s.eng with lostBands := 0 } }

/-! ### Witnesses and the lumen model (R319 to R322) -/

/-- L_rel of a measured witness in Q16 (R321): (P - P_dark) / P0 corrected to 25 °C. -/
def witnessRel (w : Witness) (t4 : Int) (x : Int × Int) : Nat :=
  Config.witnessCorrect (if w.p0 = 0 then (Config.divZero 0 : Int) else (x.1 - x.2) * 65536 / w.p0) w.tempCoef t4

/-- The witnesses after one hourly measurement; one outside 0.30 to 1.05, or more than 5 % from its tier's median, is excluded
(R321). -/
def measureWitnesses (s : State) (photo : List (Int × Int)) : List Witness :=
  let rel := s.cal.witnesses.mapIdx (fun i w => witnessRel w (sext 12 (s.reg THM.STATUS.TJ)) (photo.getD i (0, 0)))
  let med (k : Nat) : Nat := median ((rel.drop (16 * k)).take 16)
  s.cal.witnesses.mapIdx (fun i w =>
    let l := rel.getD i 0
    { w with
        lrel := l
        valid := decide (30 * 65536 ≤ l * 100 ∧ l * 100 ≤ 105 * 65536 ∧ dist l (med (i / 16)) * 100 ≤ 5 * med (i / 16)) })

/-- The point (mean dose, median L_rel) of tier `k`, when at least 8 of its witnesses are valid (R321, R322). -/
def tierPoint (ws : List Witness) (k : Nat) : Option (Nat × Nat) :=
  let v := ((ws.drop (16 * k)).take 16).filter (·.valid)
  if v.length < 8 then none else some (sumNat (v.map (·.dose)) / v.length, median (v.map (·.lrel)))

/-- Points in dose order. -/
def insPoint (p : Nat × Nat) : List (Nat × Nat) → List (Nat × Nat)
  | [] => [p]
  | q :: t => if p.1 ≤ q.1 then p :: q :: t else q :: insPoint p t

/-- The line through two points at dose `d`, rounded toward minus infinity; two points of one dose leave the value open. -/
def lineAt (p q : Nat × Nat) (d : Nat) : Int :=
  if p.1 = q.1 then (Config.divZero p.2 : Int)
  else (p.2 : Int) + ((q.2 : Int) - p.2) * ((d : Int) - p.1) / ((q.1 : Int) - p.1)

/-- The piecewise line through the points at dose `d`, continued along its last segment (R322). -/
def pointsAt (d : Nat) : List (Nat × Nat) → Int
  | [] => 65536
  | [p] => (p.2 : Int)
  | [p, q] => lineAt p q d
  | p :: q :: t => if d ≤ q.1 then lineAt p q d else pointsAt d (q :: t)

/-- A table forced non-increasing, from the value `m` on. -/
def nonIncreasing (m : Nat) : List Nat → List Nat
  | [] => []
  | v :: t => min m v :: nonIncreasing (min m v) t

/-- The lumen model rebuilt from the contributing tiers (R322). -/
def rebuildModel (s : State) (pts : List (Nat × Nat)) : List Nat :=
  let ps := (0, 65536) :: pts.foldr insPoint []
  (nonIncreasing 65536 ((List.range 32).map (fun i => (pointsAt (i * s.cal.dstep) ps).toNat))).map (max 32768)

/-- HOURLY_CHECKPOINT: the witnesses are measured, the model is rebuilt or WITNESS_LOW reported, and every dose word is
checkpointed (R319, R321, R322). -/
def execHourlyCheckpoint (photo : List (Int × Int)) (s : State) : Out :=
  if supUp s = false then .next s else
  let ws := measureWitnesses s photo
  let s1 := { s with cal := { s.cal with witnesses := ws } }
  let pts := (List.range 4).filterMap (tierPoint ws)
  let s2 := if pts.length < 2 then raiseFault (s1.setFlag CAL.STATUS.WITNESS_LOW true) 50 1
    else ({ s1 with cal := { s1.cal with model := rebuildModel s pts } }).wrapBy CAL.AG_STATUS.MODEL_GEN 1
  .next (checkpointOrWait s2)

/-! ### VCORE (R324) -/

/-- Index and value of the smallest margin of the 24 monitors. -/
def worstMargin (m : List Nat) : Nat × Nat :=
  ((List.range 24).map (fun i => (i, m.getD i 0))).foldl
    (fun (b : Nat × Nat) p => if p.2 < b.2 then p else b) (0, m.getD 0 0)

/-- The lowest and highest VCORE code allowed; a minimum above the maximum acts as the maximum. -/
def State.vcMax (s : State) : Nat := min 10 (s.reg CAL.VM_CFG.VC_MAX)
def State.vcMin (s : State) : Nat := min s.vcMax (s.reg CAL.VM_CFG.VC_MIN)

/-- DELAY_MONITOR_READING: the smallest margin raises VCORE by one step at once, or lowers it after 24 high readings (R324). The step
is a VOUT_COMMAND that the PMBus host sends (R401). -/
def delayReading (s : State) (margins : List Nat) : State :=
  let w := worstMargin margins
  let s1 := (s.setReg CAL.VM_STATUS.WORST_MON w.1).setReg CAL.VM_STATUS.MARGIN_MIN w.2
  if s.flag CAL.CTRL.VM_EN then
    let cur := s.cal.vcPlan
    let high := if s.reg CAL.VM_CFG.M_HIGH < w.2 then s.cal.highHours + 1 else 0
    let s2 := if w.2 < 10 ∧ s.vcMax ≤ cur then raiseFault s1 51 2 else s1
    if w.2 < s.reg CAL.VM_CFG.M_LOW then
      { s2 with cal := { s2.cal with vcPlan := clampN s.vcMin s.vcMax (cur + 1), highHours := 0 } }
    else if 24 ≤ high then
      { s2 with cal := { s2.cal with vcPlan := clampN s.vcMin s.vcMax (cur - 1), highHours := 0 } }
    else { s2 with cal := { s2.cal with highHours := high } }
  else s1

def execDelayMonitorReading (margins : List Nat) (s : State) : Out :=
  .next (delayReading { s with io := { s.io with triesVcore := 0 } } margins)

end Sys2Proof.Machine
end

