-- ==== Sys2Proof/Machine/Scan.lean ====
section
/-! DEFINITION. Scan.lean: raster enable, the frame grid, row slots, row delivery, underruns and what happens at a frame start
(03_scan_modes_and_frame_timing.md). -/

namespace Sys2Proof.Machine

/-! ### The grid (R90, R91, R93) -/

/-- A 64-bit value kept in two registers. -/
def pair64 (lo hi : Nat) : Nat := lo + 2 ^ 32 * hi

def State.origin (s : State) : Nat := pair64 (s.reg SCAN.ORIGIN_LO.ORIGIN) (s.reg SCAN.ORIGIN_HI.ORIGIN)
def State.originAct (s : State) : Nat := pair64 (s.reg SCAN.ORIGIN_ACT_LO.ORIGIN_ACT) (s.reg SCAN.ORIGIN_ACT_HI.ORIGIN_ACT)

/-- ORIGIN_ACT takes lamp time `t`. -/
def setOriginAct (s : State) (t : Nat) : State :=
  (s.setReg SCAN.ORIGIN_ACT_LO.ORIGIN_ACT t).setReg SCAN.ORIGIN_ACT_HI.ORIGIN_ACT (t / 2 ^ 32)

/-- The first grid point of mode `m` with origin `o` that lies more than 10 µs after `now` (R90, R91). -/
def firstGridPoint (m o now : Nat) : Nat :=
  let f2 : Int := 2 * modeF m
  let d : Int := now + 4000 - o
  let k := (3 * (d + 1) + f2 - 1) / f2
  (o + k * f2 / 3).toNat

/-- What the running frame start is off the grid, in CLK_PIX cycles: positive lengthens the frame (R93). Up to one cycle is the
rounding of R90. -/
def gridError (s : State) : Int :=
  let f2 : Int := modeThirds s.mode
  let res := (3 * ((s.now : Int) - s.originAct)) % f2
  let d := if 2 * res < f2 then -res else f2 - res
  if d.natAbs ≤ 2 then 0 else d.tdiv 2

/-- The correction of this frame, at most 64 cycles (R93). -/
def alignFrame (s : State) : State :=
  let e := gridError s
  { s with scan := { s.scan with idleAdj := max (-64) (min 64 e) } }.setFlag SCAN.RASTER.ALIGNING (e != 0)

/-! ### Enable, disable, commit (R91, R92, R96 to R98) -/

/-- EN changes from 0 to 1 (R91). While M7 is still the active mode, its fallback request is back at once (R86). -/
def scanEnable (s : State) : State :=
  let s1 := setOriginAct ((s.setFlag SCAN.CTRL.EN true).setReg SCAN.FRAME_NUM.FRAME_NUM 0) s.origin
  let s2 := { s1 with scan := { s1.scan with startAt := some (firstGridPoint (s.reg SCAN.MODE.MODE) s.origin s.now) } }
  if s.mode = 7 then raiseCause s2 SAFE.FB_CAUSE.M7 else s2

/-- The raster stops: the frame in load is discarded and counts nowhere (R92, R458, R462). -/
def stopRaster (s : State) : State :=
  let s1 := discardLoad s
  { s1 with
    scan := { s1.scan with
      running := false, startAt := none, passOn := false, demandAcc := List.replicate 64 0
      groups := s1.scan.groups.map (fun g => { g with swapDue := false, darkDue := true }) }
    shd := { s1.shd with softReq := [], softReady := [], soft := [], blankReady := none } }

/-- EN changes from 1 to 0 (R92); the fallback request of M7 ends with EN (R86). -/
def scanDisable (s : State) : State :=
  clearCause (stopRaster (s.setFlag SCAN.CTRL.EN false)) SAFE.FB_CAUSE.M7

/-- SCAN_EN_SET (R91). -/
def execScanEnSet (s : State) : Out := .next (if s.flag SCAN.CTRL.EN then s else scanEnable s)

/-- SCAN_EN_CLEAR (R92). -/
def execScanEnClear (s : State) : Out := .next (if s.flag SCAN.CTRL.EN then scanDisable s else s)

/-- SCAN_COMMIT_BIT (R96 to R98). -/
def execScanCommitBit (s : State) : Out := .next (requestCommit s)

/-! ### Underruns (R100, R101) -/

/-- The frame in load is aborted because row `r` missed its deadline. -/
def underrun (s : State) (r : Nat) (inj : Bool) : State :=
  let s1 := discardLoad { s with stats := { s.stats with underruns := s.stats.underruns + 1 } }
  let s2 := ((s1.setFlag SCAN.UR_STATUS.UNDERRUN true).setReg SCAN.UR_STATUS.UR_ROW r).bump SCAN.UR_COUNT.UR_COUNT
  raiseEither s2 inj 16 2

/-- ROW_DEADLINE: the deadline of row `r` expires while it is the next row not delivered (R100). -/
def execRowDeadline (r : Nat) (s : State) : Out :=
  .next (if s.scan.running ∧ s.scan.loading ∧ s.scan.nextRow = r ∧ r < 1024 ∧ clocksRun s then underrun s r false else s)

/-! ### Row slots (R87, R88, R103) -/

/-- CLK_PIX cycle at which slot `k` begins (R87). -/
def slotStart (f k : Nat) : Nat := k * f / 1088

/-- The fetch start of the earliest undelivered row that needs DRAM, in cycles from the frame start; without one, that of row 0 of
the next frame (R103). -/
def nextFetch (s : State) : Nat :=
  let f := modeF s.mode
  let rows := if s.scan.loading then (List.range 1024).filter (fun r => decide (s.scan.nextRow ≤ r)) else []
  match rows.find? (rowNeedsDram s) with
  | some r => slotStart f (56 + r)
  | none => f + slotStart f 56

/-- The tolerance code at the start of slot `k` (R103): 20 µs are 12,000 cycles and 1.6 µs are 960. -/
def tolCode (s : State) (k : Nat) : Nat := min 255 ((nextFetch s - slotStart (modeF s.mode) k - 12000) / 960)

/-- Composed row whose soft-mask row is requested at the fetch start of physical row `r` (R181, R183); none where no such row
exists. -/
def softRowOf (s : State) (r : Nat) : Option Nat :=
  if s.mode = 3 then (if r % 2 = 0 then some (r / 2) else none)
  else if s.topRow ≤ r ∧ r < s.endRow then some r else none

/-- The fetch of physical row `r` begins: its soft-mask row is requested (R88, R183). -/
def beginFetch (s : State) (r : Nat) : State :=
  match softRowOf s r with
  | some y =>
    if s.scan.loading ∧ s.flag SHD.CTRL.EN ∧ s.flag GAL.CTRL.EN ∧ s.scan.galStopped = false then
      { s with shd := { s.shd with softReq := s.shd.softReq ++ [y] } } else s
  | none => s

/-- ROW_SLOT_START (R87, R88, R103); slot 64 is the load start, where the Guard takes the permission mask (R236). -/
def execRowSlotStart (k : Nat) (s : State) : Out :=
  if s.scan.running ∧ k < 1088 ∧ clocksRun s then
    let c := tolCode s k
    let s1 := (s.setReg SCAN.RASTER.SLOT k).setReg SCAN.LAT_TOL.TOL c
    let s2 := s1.setReg SCAN.LAT_TOL.TOL_MIN (min c (s.reg SCAN.LAT_TOL.TOL_MIN))
    let s3 := if k = 64 ∧ s.scan.loading then takeLoadMask s2 else s2
    .next (if 56 ≤ k ∧ k - 56 < 1024 then beginFetch s3 (k - 56) else s3)
  else .next s

/-! ### Row delivery (R84, R85, R89, R239, R240) -/

/-- The soft-mask rows that row `r` needs are supplied: its own, and those that healing of the row uses (R181, R284). -/
def softSupplied (s : State) (r : Nat) : Bool :=
  !s.flag SHD.CTRL.EN ||
    (if s.mode = 3 then s.shd.softReady.contains (r / 2)
     else [r - 1, r, r + 1].all (fun y => !decide (s.topRow ≤ y ∧ y < s.endRow) || s.shd.softReady.contains y))

/-- Row `r` can be delivered: it is the next one, and everything its composition reads is there. -/
def canDeliver (s : State) (r : Nat) : Bool :=
  clocksRun s && s.scan.running && s.scan.loading && s.scan.nextRow == r && decide (r < 1024) && s.flag GAL.CTRL.EN
  && !s.scan.galStopped && softSupplied s r && (!rowNeedsDram s r || s.flag DDRC.STATUS.READY)

/-- The codes enter the back latches, or the hold area while the row's group has still to swap (R42, R89). -/
def placeRow (s : State) (r : Nat) (codes : List Nat) : State :=
  if (s.group (r / 64)).swapDue then
    { s with scan := { s.scan with hold := s.scan.hold ++ [(r, codes)], heldNow := s.scan.heldNow + 1 } }.setFlag
      SCAN.SWAP_STATUS.HOLD_USED true
  else { s with pix := { s.pix with back := planeSetRow 0 s.pix.back r codes } }

/-- Accumulator sets that disagree or an echo that differs fail the frame and raise their faults (R240, R241). -/
def rowChecks (s : State) (accBad echoBad inj9 inj10 : Bool) : State :=
  let s1 := if (accBad || inj9) && !s.guard.accBad then raiseEither s (!accBad) 9 2 else s
  let s2 := if echoBad || inj10 then raiseEither s1 (!echoBad) 10 2 else s1
  { s2 with guard := { s2.guard with
      accBad := s2.guard.accBad || accBad || inj9, echoBad := s2.guard.echoBad || echoBad || inj10 } }

/-- Row `r` is composed, summed, checked and written. A DRAM access wakes the DRAM from power-down or self-refresh (R506). -/
def deliverRow (s : State) (r : Nat) (echoGood accGood : Bool) : State :=
  let need := rowNeedsDram s r
  let row8 := codes8 s r
  let row9 := codes9 s r row8
  let s1 := guardRow (addDemand s r row8) r row9
  let i9 := s1.injWaits 9
  let i10 := s1.injWaits 10
  let s2 := if i9 then s1.takeInj 9 else s1
  let s3 := if i10 then s2.takeInj 10 else s2
  let s4 := placeRow (rowChecks s3 (!accGood) (!echoGood) i9 i10) r row9
  let s5 := { s4 with scan := { s4.scan with nextRow := r + 1 } }
  if need then dramExit s5 else s5

/-- ROW_DELIVERED; an injected underrun takes the place of the delivery (R89, R540). -/
def execRowDelivered (r : Nat) (echoGood accGood : Bool) (s : State) : Out :=
  if canDeliver s r then
    .next (if s.injWaits 16 then underrun (s.takeInj 16) r true else deliverRow s r echoGood accGood)
  else .next s

/-! ### Frame starts -/

/-- A frame still loading at its end missed the deadline of its next row (R100). -/
def closeLoad (s : State) : State :=
  if s.scan.loading ∧ s.scan.nextRow < 1024 then underrun s s.scan.nextRow false else s

/-- The verdict on a completely loaded frame, the swap gate, and the end of the M7 request (R17, R41, R86, R242). -/
def closeFrame (s : State) : State :=
  if s.scan.loading then
    let p := judge s
    let s1 := swapGate p.1 p.2
    if s.mode = 7 then s1 else clearCause s1 SAFE.FB_CAUSE.M7
  else s

/-- K_DOSE of the period that ends, while the engines run (R211, R224). -/
def closeDose (s : State) : State := if s.flag BE.CTRL.EN then runDose s else s

/-- A change of the active mode, `old` before (R86, R94, R107, R150): M7 requests the fallback beam and
has no passes (R169). -/
def enterMode (s : State) (old : Nat) (first : Bool) : State :=
  let s1 := if s.mode = old then s else discardKiln s
  let s2 := if s.mode = old ∨ first = true then s1 else setOriginAct s1 s.now
  let s3 := s2.setFlag SCAN.RASTER.SS_SUPPRESSED (decide (s.mode = 2 ∨ s.mode = 3))
  if s.mode = 7 then raiseCause { s3 with scan := { s3.scan with passOn := false } } SAFE.FB_CAUSE.M7 else s3

/-- A new load begins: nothing delivered, nothing held, sums and per-frame records cleared (R16, R45, R80, R236). -/
def openLoad (s : State) : State :=
  let s1 := ((s.setReg SCAN.SWAP_STATUS.HOLD_PEAK s.scan.heldNow).setReg SCAN.SWAP_STATUS.GRP_SWAPPED 0).setReg
    SCAN.RASTER.SLOT 0
  let s2 := { s1 with
    scan := { s1.scan with
      loading := decide (s.mode ≠ 7), nextRow := 0, galStopped := false, loadN11 := s.modeN11
      loadFrame := s.reg SCAN.FRAME_NUM.FRAME_NUM, frameLt := s.now, hold := [], heldNow := 0 }
    shd := { s1.shd with softReq := [], soft := [], softReady := [], clearPasses := [], passes := 0 }
    gal := { s1.gal with contentOpen := openContent s1 } }
  clearSums (if s2.gal.contentOpen then s2.tookFree else s2)

/-- Rows of the hold area that are left belong to a frame that is over; they reach the back latches (R42). -/
def flushHold (s : State) : State :=
  { s with
    pix := { s.pix with back := s.scan.hold.foldl (fun t p => planeSetRow 0 t p.1 p.2) s.pix.back }
    scan := { s.scan with hold := [] } }

/-- A strap change seen since the last frame start breaks the seal now (R261). -/
def strapFrameStart (s : State) : State :=
  if s.guard.breakDue then breakSeal { s with guard := { s.guard with breakDue := false } } 1 else s

/-- The grayscale spread in force: as written at the last frame start, and none in M2 and M3 (R107, R452, R473). -/
def takeSpread (s : State) : State :=
  { s with clk := { s.clk with ssGs :=
      if s.mode = 2 ∨ s.mode = 3 then (0, 0, 0)
      else (s.reg CLK.SS_GS.EN, s.regIn CLK.SS_GS.DEPTH 0 20, s.regIn CLK.SS_GS.RATE 1 50) } }

/-- The frame start itself: commit, flips, governor, mode, engines, and the frame that loads next (R87, R99). `first` is the
start of the raster, which commits in any case (R91). -/
def beginFrame (s : State) (load : Nat) (first : Bool) : State :=
  let old := s.mode
  let s1 := s.wrapBy SCAN.FRAME_NUM.FRAME_NUM 1
  let s2 := (galFrameStart s1 first).setFlag SCAN.COMMIT_STATUS.COMMIT_PEND false
  let s3 := enterMode { s2 with eng := { s2.eng with stepMode := none } } old first
  let s4 := engFrameStart (governor s3) load
  let s5 := calFrameStart (diagFrameStart (pathFrameStart (openLoad s4)))
  alignFrame (takeSpread { s5 with pins := { s5.pins with frameSync := some s5.now } })

/-- FRAME_START: the frame that loaded ends, and the next one begins (R16, R87). -/
def execFrameStart (load : Nat) (s : State) : Out :=
  if s.scan.running ∧ clocksRun s then
    .next (beginFrame (strapFrameStart (flushHold (closeFrame (closeDose (closeLoad s))))) load false)
  else .next s

/-- RASTER_START: the enabled raster reaches its first frame start (R91). -/
def execRasterStart (s : State) : Out :=
  if s.flag SCAN.CTRL.EN ∧ s.scan.running = false ∧ s.scan.startAt.isSome ∧ clocksRun s then
    .next (beginFrame (strapFrameStart { s with scan := { s.scan with running := true, startAt := none } }) 0 true)
  else .next s

end Sys2Proof.Machine
end

