-- ==== Sys2Proof/Machine/Clocks.lean ====
section
/-! DEFINITION. Clocks.lean: the reference choice, the PLL, the Staircase ramp, the clock monitors and gating
(14_clocks_and_power_states.md R448 to R460). -/

namespace Sys2Proof.Machine

/-! ### Reference and PLL (R448, R449) -/

/-- The choice of the reference: OTP REF_FORCE first, then REFCLK_IN when it counted good, else the crystal (R448). -/
def chooseRef (s : State) (good : Bool) : State :=
  let src := if s.clk.refForce = 1 ∨ s.clk.refForce = 2 then s.clk.refForce else if good then 1 else 2
  s.setReg CLK.STATUS.SRC src

/-- REFCLK_DETECT_WINDOW: on the cold-boot path, before a choice has been made (R448). -/
def execRefclkDetectWindow (good : Bool) (s : State) : Out :=
  .next (if s.boot.cold = true ∧ domainsHeld s = false ∧ s.reg CLK.STATUS.SRC = 0 then chooseRef s good else s)

/-- CRYSTAL_DELAY_EXPIRY: the chosen crystal may be used (R449). -/
def execCrystalDelayExpiry (s : State) : Out :=
  .next (if domainsHeld s = false ∧ s.reg CLK.STATUS.SRC = 2 then { s with clk := { s.clk with crystal := true } } else s)

/-- A reference is chosen and usable (R448, R449). -/
def refUsable (s : State) : Bool := s.reg CLK.STATUS.SRC == 1 || (s.reg CLK.STATUS.SRC == 2 && s.clk.crystal)

/-- The PLL locks; from the first lock on the monitors watch it (R448, R459, R469). -/
def lockPll (s : State) : State :=
  ({ s with clk := { s.clk with everLocked := true } }.setFlag CLK.STATUS.PLL_LOCK true).setFlag CLK.STATUS.CLOCK_OK (!s.clk.lost)

/-- PLL_LOCK (R448). -/
def execPllLock (s : State) : Out :=
  .next (if refUsable s ∧ domainsHeld s = false ∧ s.power ≠ 2 ∧ s.power ≠ 3 then lockPll s else s)

/-! ### The Staircase ramp (R453, R454) -/

/-- Division that domain `d` ends at, in the order of R454: BUS, PER, PIX, CORE, DDR, GS (R472). -/
def rampTarget (s : State) (d : Nat) : Nat :=
  match d with
  | 0 => max 6 (s.reg CLK.DIV.BUS)
  | 1 => max 6 (s.reg CLK.DIV.PER)
  | 2 => max 6 (s.reg CLK.DIV.PIX)
  | 3 => max 6 (s.reg CLK.DIV.CORE)
  | 4 => 6
  | _ => 1000

/-- The divisions that a domain with target `t` passes (R454). -/
def rampDivisions (t : Nat) : List Nat := [96, 48, 32, 24, 16].filter (fun n => decide (t < n)) ++ [t]

/-- The division after `cur` on the way to `t`; 0 is the RC oscillator. -/
def nextDivision (cur t : Nat) : Nat :=
  ((rampDivisions t).find? (fun n => cur == 0 || decide (n < cur))).getD t

/-- The domain whose turn it is: the first that has not reached its target (R454). -/
def rampingDomain (s : State) : Option Nat :=
  (List.range 6).find? (fun d => s.clk.div.getD d 0 != rampTarget s d)

/-- RAMP_DWELL_STEP: the ramping domain steps to its next division (R454). -/
def rampStep (s : State) : State :=
  match rampingDomain s with
  | none => s
  | some d => { s with clk := { s.clk with div := s.clk.div.set d (nextDivision (s.clk.div.getD d 0) (rampTarget s d)) } }
def execRampDwellStep (s : State) : Out :=
  .next (if s.flag CLK.STATUS.PLL_LOCK ∧ clocksRun s then rampStep s else s)

/-- The whole ramp, as boot and wake run it (R454). -/
def rampAll (s : State) : State := { s with clk := { s.clk with div := (List.range 6).map (rampTarget s) } }

/-- CLKSW_FORCED: a multiplexer switches without an edge of the old clock (R453). -/
def execClkswForced (d : Nat) (s : State) : Out :=
  .next (if d < 6 then raiseFault ((s.setFlag CLK.STATUS.CLKSW_FORCED true).bump CLK.FORCED_COUNT.COUNT) 4 1 else s)

/-! ### Clock monitors (R457 to R459) -/

/-- The failed clocks that are watched: not the reference and the PLL before the first lock, and not what the power state stops
(R457, R459). -/
def watchedClocks (s : State) (clks : Nat) : Nat :=
  bitsOf 10 (fun k => bit clks k
    && (decide (2 ≤ k) || s.clk.everLocked)
    && (k == 9 || !(s.power == 2 || s.power == 3))
    && !(k == 4 && s.power == 1))

/-- A port's transmit lanes go to electrical idle, and an up port loses its link (R367, R458). -/
def portTrip (s : State) (p : Nat) : State :=
  let s1 := linkLost s p false
  if s.reg (TX.STATUS.STATE p) = 2 ∨ s.reg (TX.STATUS.STATE p) = 3 then
    (s1.setReg (TX.STATUS.STATE p) 1).setPort p (fun x => { x with phase := 0 })
  else s1

/-- The frame in load and a frame that has not swapped in every row group are discarded; neither counts anywhere (R458). -/
def dropFrames (s : State) : State :=
  let s1 := { s with scan := { s.scan with
    loading := false, hold := [], passOn := false, groups := s.scan.groups.map (fun (g : Group) => { g with swapDue := false, gap := false }) } }
  { s1 with
    pix := { s1.pix with back := [] }, guard := { s1.guard with cand := none }
    stats := { s1.stats with swapOpen := false }, shd := { s1.shd with blankReady := none } }

/-- The first trip: fallback, dark aux outputs, idle lanes, RC oscillator, lamp time unsynchronized (R458). -/
def clockTrip (s : State) (clks : Nat) : State :=
  let s1 := auxForce (raiseCause s SAFE.FB_CAUSE.CLOCK) true
  let s2 := dropFrames (portTrip (portTrip s1 0) 1)
  let s3 := { s2 with
    clk := { s2.clk with lost := true, div := List.replicate 6 0 }, synced := false
    net := { s2.net with stepped := false } }
  s3.setFlag CLK.STATUS.PLL_LOCK (s.flag CLK.STATUS.PLL_LOCK && clks % 4 == 0)

/-- CLOCK_MONITOR_TRIP: a further trip while the clocks are lost only latches and restarts the wait (R458, R459). -/
def clockMonitor (s : State) (clks : Nat) : State :=
  let w := watchedClocks s clks
  if w = 0 ∨ domainsHeld s = true then s
  else
    let s1 := (s.orReg CLK.MON_FAIL.CLK w).setFlag CLK.STATUS.CLOCK_OK false
    if s.clk.lost then s1 else clockTrip s1 w
def execClockMonitorTrip (clks : BitVec 10) (s : State) : Out := .next (clockMonitor s clks.toNat)

/-- A port that is enabled and idle trains again (R342, R458). -/
def retrainIdle (s : State) (p : Nat) : State :=
  if s.flag (TX.CTRL.EN p) ∧ s.reg (TX.STATUS.STATE p) = 1 then startTraining s p else s

/-- CLOCKS_GOOD: 100 µs of good sources end the wait; the domains ramp back and the FATAL fault is reported (R458). -/
def clocksBack (s : State) : State :=
  let s1 := { s with clk := { s.clk with lost := false } }
  let s2 := auxForce ((s1.setFlag CLK.STATUS.CLOCK_OK true).setFlag CLK.STATUS.PLL_LOCK s.clk.everLocked) false
  raiseFault (retrainIdle (retrainIdle s2 0) 1) 3 3
def execClocksGood (s : State) : Out := .next (if s.clk.lost then clocksBack s else s)

/-! ### Divisions, spread and gating (R451, R456, R460) -/

/-- Every block of the list is gated. -/
def allGated (s : State) (blocks : List Nat) : Bool := blocks.all (fun n => !s.flag (CLK.GATE.EN n))

/-- CLK ignored a write: its own bit and SYS.WIGN (R556). -/
def clkIgnored (s : State) : State := wign (s.setFlag CLK.STATUS.WIGN true) 1

/-- The fields of CLK.DIV with the blocks that their clock feeds (R25). The BUS clock feeds blocks that are never gated. -/
def divFields : List (Field × List Nat × Nat) :=
  [(CLK.DIV.CORE, [14, 16], 3), (CLK.DIV.PIX, [13, 15], 2), (CLK.DIV.BUS, [0], 0), (CLK.DIV.PER, [11, 12, 20], 1)]

/-- One field of a CLK.DIV write: it applies at once, without a ramp, to a domain on the PLL (R456). -/
def divWrite (w : Word) (s : State) (x : Field × List Nat × Nat) : State :=
  if allGated s x.2.1 then
    let s1 := s.setReg x.1 (fromWord x.1 w)
    if s.clk.div.getD x.2.2 0 = 0 then s1
    else { s1 with clk := { s1.clk with div := s1.clk.div.set x.2.2 (rampTarget s1 x.2.2) } }
  else clkIgnored s

/-- CLK_DIV_WRITE (R456). -/
def clkDivWrite (s : State) (w : Word) : State := divFields.foldl (divWrite w) s
def execClkDivWrite (w : Word) (s : State) : Out := .next (clkDivWrite s w)

/-- SS_REF_WRITE (R451). -/
def ssRefWrite (s : State) (w : Word) : State :=
  if s.flag (TX.CTRL.EN 0) ∨ s.flag (TX.CTRL.EN 1) then clkIgnored s
  else [CLK.SS_REF.EN, CLK.SS_REF.DEPTH, CLK.SS_REF.RATE].foldl (fun t f => t.setReg f (fromWord f w)) s
def execSsRefWrite (w : Word) (s : State) : Out := .next (ssRefWrite s w)

/-- One bit of CLK.GATE: fixed for the blocks that are never gated; an enabled block stays clocked (R460, R471). -/
def gateBit (b : Bool) (s : State) (n : Nat) : State :=
  if n ≤ 3 ∨ n = 5 then s
  else if b then s.setFlag (CLK.GATE.EN n) true
  else match blockEn n with
    | some f => if s.flag f then clkIgnored s else s.setFlag (CLK.GATE.EN n) false
    | none => s.setFlag (CLK.GATE.EN n) false

/-- CLK_GATE_WRITE (R460). -/
def clkGateWrite (s : State) (w : Nat) : State := (List.range 21).foldl (fun t n => gateBit (bit w n) t n) s
def execClkGateWrite (w : Word) (s : State) : Out := .next (clkGateWrite s w.toNat)

end Sys2Proof.Machine
end

