-- ==== Sys2Proof/Machine/Thermal.lean ====
section
/-! DEFINITION. Thermal.lean: sensors, thresholds, pause control and the orderly stop (15_thermal_management.md R480 to R486; R438
for the aux derating). -/

namespace Sys2Proof.Machine

/-! ### NTC conversion (R481) -/

/-- atanh of `z`, all in units of 2^-60: the sum of z^(2i + 1) / (2i + 1). -/
def atanhQ (z : Int) : Int :=
  ((List.range 32).foldl (fun (a : Int × Int) i => (a.1 + a.2 / (2 * i + 1), a.2 * (z * z / 2 ^ 60) / 2 ^ 60)) (0, z)).1

/-- ln (num / den) in units of 2^-60. -/
def lnQ (num den : Nat) : Int :=
  let k : Int := (Nat.log2 num : Int) - Nat.log2 den
  let n : Int := num * 2 ^ (Nat.log2 den)
  let d : Int := den * 2 ^ (Nat.log2 num)
  2 * atanhQ ((n - d) * 2 ^ 60 / (n + d)) + 2 * k * atanhQ (2 ^ 60 / 3)

/-- The temperature of an NTC code, rounded to 0.25 °C (R481): 1 / 298.15 is 20 / 5963. -/
def ntcT4 (rnom beta code : Nat) : Int :=
  let n : Int := 5963 * beta * 2 ^ 60
  let d : Int := 20 * beta * 2 ^ 60 + 5963 * lnQ (10000 * code) ((4096 - code) * rnom)
  if rnom = 0 ∨ beta = 0 ∨ d ≤ 0 then Config.ntcOpen code else (40 * n - 10921 * d) / (10 * d)

/-- A temperature held in 12 signed bits. -/
def t12 (t : Int) : Nat := toBits 12 (max (-2048) (min 2047 t))

/-! ### Sensor plausibility (R482) -/

/-- A continuous sensor's sample is implausible (R482). -/
def implausible (t : List Int) (i : Nat) : Bool :=
  let v := t.getD i 0
  decide (v < -220 ∨ 860 < v)
  || (decide (i < 64) && (zoneNeighbours i).all (fun n => decide (100 < (v - t.getD n 0).natAbs)))

/-- The run of a condition, counted to 3. -/
def runOf (b : Bool) (n : Nat) : Nat := if b then min 3 (n + 1) else 0

/-- Plausibility of all sensors: three samples fail a sensor or bring it back (R482). -/
def judgeSensors (s : State) (t : List Int) : State :=
  let bad := s.thm.bad.mapIdx (fun i n => runOf (implausible t i) n)
  let good := s.thm.good.mapIdx (fun i n => runOf (!implausible t i) n)
  let fails (i : Nat) (f : Bool) : Bool := if f then decide (good.getD i 0 < 3) else bad.getD i 0 == 3
  let failed := s.thm.failed.mapIdx fails
  let fresh := (List.range 68).filter (fun i => failed.getD i false && !s.thm.failed.getD i false)
  let s1 := { s with thm := { s.thm with bad := bad, good := good, failed := failed } }
  if fresh = [] then s1 else raiseFaultN (s1.setFlag THM.STATUS.SENSOR_FAIL true) 55 1 fresh.length

/-! ### Thresholds (R483, R485, R486, R490) -/

/-- Threshold `k` in 0.25 °C: 0 WARN, 1 THROTTLE, 2 SOFT_STOP; one below the one before it acts as that one (R488, R490). -/
def threshold (s : State) (k : Nat) : Int :=
  let w := s.regIn THM.THRESH.WARN 60 165
  let t := max w (s.regIn THM.THRESH.THROTTLE 60 165)
  let x := max t (s.regIn THM.THRESH.SOFT_STOP 60 165)
  4 * ((if k = 0 then w else if k = 1 then t else x : Nat) : Int)

/-- The THERMAL event (R483). -/
def thermalEvent (s : State) (thr sensor : Nat) (t4 : Int) : State :=
  raiseEvent s 0x0106 (toLe 1 thr ++ toLe 1 sensor ++ toLe 2 (toBits 16 t4))

/-- SOFT_STOP is entered: fallback at half current (R485), the counter and the CONT fault. -/
def enterSoftStop (s : State) : State :=
  raiseFault (((raiseCause s SAFE.FB_CAUSE.SOFT_STOP).setFlag SCAN.FB_CTRL.FB_HALF true).bump THM.SOFT_STOP_COUNT.COUNT) 53 2

/-- SOFT_STOP is no longer in force for either reason: the cause clears, and a waiting checkpoint runs at once (R486). -/
def leaveSoftStop (s : State) : State :=
  if s.thm.entered.getD 2 false ∨ s.thm.failSoft.isSome then s
  else
    let s1 := clearCause s SAFE.FB_CAUSE.SOFT_STOP
    if s1.cal.ckptDue then checkpointOrWait s1 else s1

/-- What entering threshold `k` does beside its event (R483). -/
def enterThreshold (s : State) (k : Nat) : State :=
  match k with
  | 1 => raiseFault (s.bump THM.THROTTLE_COUNT.COUNT) 52 1
  | 2 => enterSoftStop s
  | _ => s

/-- One sample at TJ judged against threshold `k` (R483). -/
def judgeThreshold (tj : Int) (hot : Nat) (s : State) (k : Nat) : State :=
  let up := runOf (decide (threshold s k ≤ tj)) (s.thm.rises.getD k 0)
  let down := runOf (decide (tj < threshold s k - 20)) (s.thm.falls.getD k 0)
  let s1 := { s with thm := { s.thm with rises := s.thm.rises.set k up, falls := s.thm.falls.set k down } }
  let was := s.thm.entered.getD k false
  if was = false ∧ up = 3 then
    thermalEvent (enterThreshold { s1 with thm := { s1.thm with entered := s1.thm.entered.set k true } } k) k hot tj
  else if was = true ∧ down = 3 then
    let s2 := { s1 with thm := { s1.thm with entered := s1.thm.entered.set k false } }
    thermalEvent (if k = 2 then leaveSoftStop s2 else s2) (k + 128) hot tj
  else s1

/-- SOFT_STOP for more than eight failed sensors: entered and left (R482). The sensor is the ninth that was not failed before. -/
def judgeFailures (s : State) (before : List Bool) (tj : Int) : State :=
  let n := s.thm.failed.count true
  match s.thm.failSoft with
  | none =>
    if 8 < n then
      let fresh := (List.range 68).filter (fun i => s.thm.failed.getD i false && !before.getD i false)
      let kept := n - fresh.length
      let i := fresh.getD (8 - kept) 0
      thermalEvent (enterSoftStop { s with thm := { s.thm with failSoft := some i } }) 66 i tj
    else s
  | some i => if n ≤ 8 then thermalEvent (leaveSoftStop { s with thm := { s.thm with failSoft := none } }) 194 i tj else s

/-- The level in force (R483, R492). -/
def thermalLevel (s : State) : Nat :=
  if s.thm.entered.getD 2 false ∨ s.thm.failSoft.isSome then 3
  else if s.thm.entered.getD 1 false then 2
  else if s.thm.entered.getD 0 false then 1
  else 0

/-- The hottest good sensor, the lowest-numbered on a tie (R483). -/
def hottest (s : State) (t : List Int) : Option (Nat × Int) :=
  (List.range 68).foldl (fun m i =>
    if s.thm.failed.getD i false then m
    else match m with
      | none => some (i, t.getD i 0)
      | some (_, v) => if v < t.getD i 0 then some (i, t.getD i 0) else m) none

/-- The threshold logic of one sample (R482, R483). -/
def thermalLogic (s : State) (t : List Int) : State :=
  let s1 := judgeSensors s t
  let s2 := match hottest s1 t with
    | none => s1
    | some (i, v) =>
      (List.range 3).foldl (judgeThreshold v i) ((s1.setReg THM.STATUS.TJ (t12 v)).setReg THM.STATUS.HOT_SENSOR i)
  let s3 := judgeFailures s2 s.thm.failed (sext 12 (s2.reg THM.STATUS.TJ))
  s3.setReg THM.STATUS.LEVEL (thermalLevel s3)

/-- The threshold logic runs: THM clocked and EN 1 (R488). -/
def thermalOn (s : State) : Bool := s.flag (CLK.GATE.EN 4) && s.flag THM.CTRL.EN

/-- THERMAL_SAMPLE: the continuous sensors read in RUN and LANDING, whatever the gate and the PLL (R480, R483, R488). -/
def thermalSample (s : State) (t : List Int) : State :=
  let s1 := (List.range 68).foldl (fun u i => u.setReg (THM.ZONE.T i) (t12 (t.getD i 0))) s
  if thermalOn s then thermalLogic s1 t else s1
def execThermalSample (t : List Int) (s : State) : Out :=
  .next (if domainsHeld s = true ∨ s.power = 2 ∨ s.power = 3 then s else thermalSample s t)

/-! ### Housekeeping (R481, R484, R501) -/

/-- Sensor 68 + k read as `v`; a failed read keeps the value and clears VALID (R481). -/
def hkRead (s : State) (k : Nat) (v : Option Int) : State :=
  let m := s.reg THM.HK_VALID.VALID
  match v with
  | some t => (s.setReg (THM.HK.T k) (t12 t)).setReg THM.HK_VALID.VALID (m ||| 2 ^ k)
  | none => s.setReg THM.HK_VALID.VALID (if bit m k then m - 2 ^ k else m)

/-- An NTC code as a reading; outside 40 to 4,055 the read fails (R481). -/
def ntcRead (s : State) (code : Option Nat) : Option Int :=
  let b := boardRecord s
  match code with
  | some c => if 40 ≤ c ∧ c ≤ 4055 then some (ntcT4 (leAt b 4 4) (leAt b 8 2) c) else none
  | none => none

/-- The DRAM's status read as sensor 70; HOT follows it, and a change into the 2x rate is a CORR fault (R501). -/
def dramTempRead (s : State) (twice : Option Bool) : State :=
  match (if s.flag DDRC.STATUS.SELF_REFRESH then none else twice) with
  | none => hkRead s 2 none
  | some b =>
    let s1 := (hkRead s 2 (some (if b then 380 else 340))).setFlag DDRC.STATUS.HOT b
    if b ∧ s.flag DDRC.STATUS.HOT = false then raiseFault s1 57 1 else s1

/-- The Guard-domain reading checked against the nearest die-corner reading, three rounds in a row (R482). -/
def guardPlausible (s : State) (g : Option Int) : State :=
  match g with
  | none => s
  | some v =>
    let off := [64, 65, 66, 67].all (fun i => decide (40 < (v - sensorT4 s i).natAbs))
    let n := if off then s.thm.guardRuns + 1 else 0
    let s1 := { s with thm := { s.thm with guardRuns := min 4 n } }
    if n = 3 then raiseFault s1 55 1 else s1

/-- The pause level of this round (R484). -/
def pauseRound (s : State) : State :=
  let p := s.thm.pause
  let q := if s.thm.entered.getD 1 false then
      (if threshold s 1 ≤ sext 12 (s.reg THM.STATUS.TJ) then max p (min (s.reg THM.CFG.P_MAX) (p + 1)) else p)
    else p - 1
  { s with thm := { s.thm with pause := q } }

/-- The temperature that derates the aux outputs; none while the selected sensor fails (R438, R446). -/
def auxT4 (s : State) : Option Int :=
  if s.reg AUX.DR_CFG.SRC = 0 then
    (if bit (s.reg THM.HK_VALID.VALID) 1 then some (sext 12 (s.reg (THM.HK.T 1))) else none)
  else
    match [64, 65, 66, 67].filter (fun i => !s.thm.failed.getD i false) with
    | [] => none
    | i :: t => some (t.foldl (fun m k => max m (sensorT4 s k)) (sensorT4 s i))

/-- The aux derating of this round (R438, R446, R447). -/
def auxDerate (s : State) : State :=
  let f (t : Int) : Nat :=
    derateBy (s.regIn AUX.DR_CFG.KNEE 40 140) (s.regIn AUX.DR_CFG.SLOPE 5 100) (s.regIn AUX.DR_CFG.FLOOR 10 100) t
  let v := if 2 ≤ s.reg AUX.DR_CFG.SRC then 4096 else match auxT4 s with
    | some t => f t
    | none => s.reg AUX.STATUS.F
  (s.setReg AUX.STATUS.F v).setFlag AUX.STATUS.DERATING (decide (v < 4096))

/-- HOUSEKEEPING_ROUND: sensors 68 to 72 in order, then the pause level and the aux derating (R438, R481, R484). -/
def housekeeping (s : State) (h : HkReadings) : State :=
  let s1 := hkRead (hkRead s 0 (ntcRead s h.ntc0)) 1 (ntcRead s h.ntc1)
  let s2 := hkRead (hkRead (dramTempRead s1 h.dramTwiceRate) 3 h.regulator) 4 h.guard
  let s3 := if thermalOn s then pauseRound (guardPlausible s2 h.guard) else s2
  auxDerate s3
def execHousekeepingRound (h : HkReadings) (s : State) : Out :=
  .next (if clocksRun s = true ∧ s.power ≠ 1 ∧ supUp s then housekeeping s h else s)

end Sys2Proof.Machine
end

