-- ==== Sys2Proof/Machine/Reset.lean ====
section
/-! DEFINITION. Reset.lean: what a reset, a power-down and a hard trip leave, and what holds the domains in reset
(19_startup_reset_and_bringup.md R572 to R576; 14_clocks_and_power_states.md R461, R463; 15_thermal_management.md R487;
07_safety_functions.md R246). -/

namespace Sys2Proof.Machine

/-! ### What a reset leaves -/

/-- The fields of `l` carried over from `s`. -/
def keepRegs (l : List Field) (s base : State) : State := l.foldl (fun t f => t.setReg f (s.reg f)) base

/-- The registers that RESET_N leaves untouched (R574), with the cause of the last start (R589). -/
def resetKeeps : List Field :=
  [THM.HT_COUNT.COUNT, THM.STATUS.HT_LAST, PWR.REFUSE_COUNT.COUNT, PWR.ABORT_COUNT.COUNT, PWR.WAKE_FAIL_COUNT.COUNT,
    SYS.RESET_CAUSE.CAUSE, SYS.RESET_CAUSE.RESET_LONG, SYS.RESET_CAUSE.HELD_S]

/-- LOWBEAM_REQ is high while the domains are off: the pin lights the ROM pattern without them (R246, R463, R573). A hard trip
darkens that too (R487). -/
def lightRom (s : State) : State :=
  if s.pins.lowbeam ∧ s.thm.trip = false then
    allFallback ((s.setFlag SAFE.FB_CAUSE.LOWBEAM true).setFlag SCAN.FB_CTRL.RESET_LONG_ROM true)
  else s

/-- OTP, MRAM, flash, the pins and what waits outside: nothing the device does loses them. The commit allowance starts afresh. -/
def bareDevice (s : State) : State :=
  { State.reset with
    pending := s.pending, free := s.free, mram := { s.mram with used := [] }, flash := s.flash
    guard := { Guard.reset with otp := s.guard.otp, key := s.guard.key, hostKey := s.guard.hostKey }
    clk := { Clk.reset with refForce := s.clk.refForce, oscdlyOtp := s.clk.oscdlyOtp }
    pins := { frameSync := none, ltMark := none, lowbeam := s.pins.lowbeam } }

/-- Every domain but the always-on one reset, and of that one everything but the records of R574. -/
def afterReset (s : State) : State :=
  let b := bareDevice s
  lightRom (keepRegs resetKeeps s { b with
    boot := { b.boot with held := s.boot.held, longDue := s.boot.longDue, tripDue := s.boot.tripDue }
    thm := { b.thm with trip := s.thm.trip } })

/-! ### Power-down (R461, R539) -/

/-- What the always-on domain holds in every power state: the PWR registers, the clock choices, the causes of reset, the trip record
and the wake address. -/
def sleepKeeps : List Field :=
  PWR.fields ++ (CLK.fields.filter (fun f => f.access != .ro || f == CLK.STATUS.SRC || f == CLK.STATUS.OSCDLY || f == CLK.STATUS.OSCDLY_OTP))
  ++ [THM.HT_COUNT.COUNT, THM.STATUS.HT_LAST, SYS.RESET_CAUSE.CAUSE, SYS.RESET_CAUSE.RESET_LONG, SYS.RESET_CAUSE.HELD_S]

/-- The always-on domain alone is left: DEEP (R461). The ERR_N hold latch survives (R539). -/
def enterDeep (s : State) : State :=
  let b := bareDevice s
  let t := keepRegs sleepKeeps s { b with
    boot := { b.boot with longDue := s.boot.longDue, tripDue := s.boot.tripDue }
    pwr := { s.pwr with coreEn := false, corePg := false }
    guard := { b.guard with straps := s.guard.straps }
    flt := { b.flt with
      errReal := s.flt.errReal, errInj := s.flt.errInj, errAsync := s.flt.errAsync, errWake := s.flt.errWake
      errMin := s.flt.errMin } }
  lightRom (t.setAct IOMUX.BOARD.WAKE_ADDR (s.actReg IOMUX.BOARD.WAKE_ADDR))

/-- Besides the always-on domain, CELLAR keeps Jorosh in its retained banks and the DRAM in self-refresh (R461): the calibration and
dose data, the pattern tables and the optics model, and the node's address and topology. -/
def enterCellar (s : State) : State :=
  let d := enterDeep s
  let t := keepRegs ([TXLA.NODE.ADDR, TXLA.NODE.ADDR_VALID, TXLA.NODE.TOPO, TXLA.NODE.NODES, BE.OPTICS.SOURCE, BE.OPTICS.RESID,
      CAL.AG_STATUS.FB_HOURS, CAL.AG_STATUS.MODEL_GEN, CAL.AG_STATUS.GEN, CAL.VM_STATUS.VC_SET, SCAN.IFB_STATUS.IFB_NA,
      DDRC.STATUS.READY, DDRC.STATUS.DRAM_FAIL] ++ SYS.fields) s d
  { t with
    dram := s.dram, boot := s.boot, pwr := s.pwr
    cal := { s.cal with darkRow := none, rowDone := false, gainReady := none }
    eng := { t.eng with
      patterns := s.eng.patterns, patNext := s.eng.patNext, patOpen := s.eng.patOpen, patDue := s.eng.patDue, patGen := s.eng.patGen
      symGen := s.eng.symGen, symGlyphs := s.eng.symGlyphs, symSize := s.eng.symSize, symDue := s.eng.symDue
      lensP := s.eng.lensP, lensKt := s.eng.lensKt } }

/-! ### LOWBEAM_REQ (R246, R463, R466, R467) -/

/-- No clock runs that could raise an event: the domains are held, or the device is in CELLAR or DEEP. -/
def domainsOff (s : State) : Bool := domainsHeld s || s.power == 2 || s.power == 3

/-- LOWBEAM_REQ_ASSERT: the filtered level raises the LOWBEAM cause, and is a wake source (R246, R467). -/
def lowbeamRise (s : State) : State :=
  let s1 := { s with pins := { s.pins with lowbeam := true } }
  if domainsOff s then wakeBy (lightRom s1) 3 else wakeBy (raiseCause s1 SAFE.FB_CAUSE.LOWBEAM) 3
def execLowbeamReqAssert (s : State) : Out := .next (if s.pins.lowbeam then s else lowbeamRise s)

/-- LOWBEAM_REQ_RELEASE: the cause falls with the pin (R245, R246); without domains the array goes dark with it. -/
def lowbeamFall (s : State) : State :=
  let s1 := { s with pins := { s.pins with lowbeam := false } }
  if domainsOff s then
    let s2 := s1.setFlag SAFE.FB_CAUSE.LOWBEAM false
    if fbActive s2 then s2
    else { s2 with scan := { s2.scan with groups := s2.scan.groups.map (fun (g : Group) => { g with drive := .dark }) } }
  else clearCause s1 SAFE.FB_CAUSE.LOWBEAM
def execLowbeamReqRelease (s : State) : Out := .next (if s.pins.lowbeam then lowbeamFall s else s)

/-! ### RESET_N and the supplies (R571 to R575) -/

/-- RESET_N_ASSERT: every domain but the always-on one is held in reset (R573). -/
def resetAssert (s : State) : State := afterReset { s with boot := { s.boot with held := true } }
def execResetNAssert (s : State) : Out := .next (if s.boot.held then s else resetAssert s)

/-- A hold of `n` cycles of the 16 MHz RC oscillator: one longer than 1 s is recorded (R575). -/
def recordHold (s : State) (n : Nat) : State :=
  if 16000000 < n then
    let s1 := (s.setFlag SYS.RESET_CAUSE.RESET_LONG true).setReg SYS.RESET_CAUSE.HELD_S (min 65535 (n / 16000000))
    { s1 with boot := { s1.boot with longDue := true } }
  else s

/-- RESET_N_RELEASE: the cold-boot path starts (R573, R576). -/
def resetRelease (s : State) (n : Nat) : State :=
  (recordHold { s with boot := { s.boot with held := false, cold := true } } n).setReg SYS.RESET_CAUSE.CAUSE 1
def execResetNRelease (held : Nat) (s : State) : Out := .next (if s.boot.held then resetRelease s held else s)

/-- SUPPLY_FAIL: in RUN or LANDING a falling rail or CORE_PG acts as a RESET_N assertion with cause SUPPLY; the cold-boot path follows
once the rails are good (R572). -/
def execSupplyFail (s : State) : Out :=
  .next (if (s.power = 0 ∨ s.power = 1) ∧ domainsHeld s = false then (afterReset s).setReg SYS.RESET_CAUSE.CAUSE 2 else s)

/-- VSYS33_POWER_ON: nothing but the non-volatile memories is left (R571, R572, R576). -/
def execVsys33PowerOn (s : State) : Out :=
  .next (lightRom { bareDevice s with boot := { Boot.reset with held := s.boot.held } })

/-! ### Hard trip (R487) -/

/-- HARD_TRIP: the array goes dark, the domains are held, and the always-on domain records the trip (R487). -/
def hardTrip (s : State) (sensor : Nat) : State :=
  let s1 := afterReset { s with thm := { s.thm with trip := true }, boot := { s.boot with tripDue := sensor + 1 } }
  (s1.bump THM.HT_COUNT.COUNT).setFlag THM.STATUS.HT_LAST true
def execHardTrip (sensor : Nat) (s : State) : Out :=
  .next (if sensor < 68 ∧ s.thm.trip = false then hardTrip s sensor else s)

/-- HARD_TRIP_RELEASE: reset releases into the cold-boot path (R487, R576). -/
def hardTripRelease (s : State) : State :=
  lightRom ({ s with thm := { s.thm with trip := false }, boot := { s.boot with cold := true } }.setReg SYS.RESET_CAUSE.CAUSE 4)
def execHardTripRelease (s : State) : Out := .next (if s.thm.trip then hardTripRelease s else s)

end Sys2Proof.Machine
end

