-- ==== Sys2Proof/Machine/Dram.lean ====
section
/-! DEFINITION. Dram.lean: the DRAM controller: organization and bank map, refresh, row disturbance, parity alerts, SECDED errors and
power states (16_memory.md R496 to R508). -/

namespace Sys2Proof.Machine

/-! ### Organization and bank map (R496, R498) -/

/-- The organization in ORG is one that the controller accepts (R496). -/
def orgOk (s : State) : Bool := s.dramSize != 0

/-- Bits of an address inside one rank: 2^n bytes. -/
def rankBits (s : State) : Nat := Nat.log2 (s.dramSize / (1 + s.reg DDRC.ORG.RANKS))

/-- The lowest row bit of R496. -/
def firstRowBit (s : State) : Nat := if s.reg DDRC.ORG.WIDTH = 0 then 17 else 16

/-- Bit `b` is a row or a rank bit (R496). -/
def rowOrRank (s : State) (b : Nat) : Bool :=
  decide (firstRowBit s ≤ b ∧ b < rankBits s) || (s.flag DDRC.ORG.RANKS && b == rankBits s)

/-- The address bits that the enabled selectors of a map register name (R523); a bit outside 13 to 33 acts as the nearest limit
(R521). -/
def selectors (s : State) (field : Nat → Field) (en : Nat → Field) : List Nat :=
  ((List.range 4).filter (fun j => s.flag (en j))).map (fun j => s.regIn (field j) 13 33)

/-- A selector set is valid: it includes its bit's own position and otherwise row and rank bits alone (R498). -/
def selectorOk (s : State) (own : Nat) (l : List Nat) : Bool := l.contains own && l.all (fun b => b == own || rowOrRank s b)

/-- Every selector set is valid; x16 organizations have no BG1 (R498). -/
def mapOk (s : State) : Bool :=
  let x16 := s.flag DDRC.ORG.WIDTH
  selectorOk s 13 (selectors s DDRC.MAP_BG0.BIT DDRC.MAP_BG0.SEL_EN)
  && (x16 || selectorOk s 14 (selectors s DDRC.MAP_BG1.BIT DDRC.MAP_BG1.SEL_EN))
  && selectorOk s (if x16 then 14 else 15) (selectors s DDRC.MAP_BA0.BIT DDRC.MAP_BA0.SEL_EN)
  && selectorOk s (if x16 then 15 else 16) (selectors s DDRC.MAP_BA1.BIT DDRC.MAP_BA1.SEL_EN)

/-- EN of the controller changes from 0 to 1 if its checks pass (R496, R498). -/
def ddrcEnable (s : State) : State :=
  if orgOk s = false then s.setFlag DDRC.STATUS.ORG_ERR true
  else if mapOk s = false then s.setFlag DDRC.STATUS.MAP_ERR true
  else s.setFlag DDRC.CTRL.EN true

/-- DDRC_EN_SET (R498). -/
def execDdrcEnSet (s : State) : Out := .next (if s.flag DDRC.CTRL.EN then s else ddrcEnable s)

/-! ### Refresh and row disturbance (R497, R501, R502) -/

/-- The controller runs and the DRAM is not in self-refresh. -/
def dramAwake (s : State) : Bool := clocksRun s && s.flag DDRC.CTRL.EN && !s.flag DDRC.STATUS.SELF_REFRESH

/-- DRAM_REFRESH: an all-bank refresh; power-down is left for it and returned to (R501, R506). -/
def execDramRefresh (s : State) : Out :=
  .next (if dramAwake s then { s with ddr := { s.ddr with refreshed := some s.now } } else s)

/-- ZQ_CALIBRATION (R497). -/
def execZqCalibration (s : State) : Out :=
  .next (if dramAwake s then { s with ddr := { s.ddr with zqDone := some s.now } } else s)

/-- An activate: a drawn value of 0 refreshes the neighbour rows (R502). -/
def activateRow (s : State) : State :=
  let s1 := (dramExit s).tookFree
  if Config.rhpDraw s.free % 2 ^ (s.regIn DDRC.RHP.RHP_K 8 16) = 0 then s1.bump DDRC.RHP_COUNT.COUNT else s1

/-- DRAM_ACTIVATE (R502). -/
def execDramActivate (_bank _row : Nat) (s : State) : Out :=
  .next (if clocksRun s ∧ s.flag DDRC.CTRL.EN then activateRow s else s)

/-! ### Errors (R504, R505) -/

/-- A corrected error counts; the first beyond CE_TH within one second raises a CORR fault (R505). -/
def correctedError (s : State) : State :=
  let sec := s.now / 400000000
  let n := if s.ddr.ceSec = sec then s.ddr.ceCount + 1 else 1
  let s1 := { s with ddr := { s.ddr with ceSec := sec, ceCount := n } }.bump DDRC.CE_COUNT.COUNT
  if n = s.reg DDRC.PWR.CE_TH + 1 then raiseFault s1 58 1 else s1

/-- An uncorrectable read is logged (R505, R527). -/
def logUncorrectable (s : State) (classS : Bool) (addr : Nat) : State :=
  let s1 := (s.bump DDRC.UE_COUNT.COUNT).setReg DDRC.UE_ADDR_LO.ADDR addr
  (s1.setReg DDRC.UE_ADDR_HI.ADDR (addr / 2 ^ 32)).setFlag DDRC.UE_ADDR_HI.CLASS_S classS

/-- A class S read that stays uncorrectable: fault and frame abort, unless the frame has ended already (R505). -/
def safetyReadFails (s : State) (addr : Nat) : State :=
  let s1 := logUncorrectable s true addr
  if s.scan.loading then abortFrame (raiseFault s1 59 2) else s1

/-- The entries that engine `n` renders are abandoned (R504, R505). -/
def abandonBands (s : State) (n : Nat) : State := abandonEntries s (bandsOf s n)

/-- What the requester does about an error response to a class G read (R505). -/
def clientReacts (s : State) (client : DramClient) : State :=
  match client with
  | .engine n => abandonBands s n
  | .dose band =>
    if band < 16 then
      { s with eng := { s.eng with lostBands := s.eng.lostBands ||| 2 ^ band } }.setFlag BE.STATUS.DOSE_LOST true
    else s
  | _ => s

/-- A read with a SECDED error (R505). -/
def readError (s : State) (cls : DramClass) (addr : Nat) (kind : DramErrorKind) (client : DramClient) : State :=
  match kind, cls with
  | .corrected, _ => correctedError s
  | .rereadGood, .s => s.bump DDRC.CE_COUNT.COUNT
  | .uncorrectable, .s => safetyReadFails s addr
  | _, .g => clientReacts (logUncorrectable s false addr) client

/-- DRAM_READ_ERROR (R505). -/
def execDramReadError (cls : DramClass) (addr : Nat) (kind : DramErrorKind) (client : DramClient) (s : State) : Out :=
  .next (if clocksRun s ∧ s.flag DDRC.CTRL.EN then readError s cls addr kind client else s)

/-- DDR_ALERT: buffered class S commands are replayed; one whose replay fails counts as uncorrectable or abandons its entry (R504). -/
def alert (s : State) (replay : ReplayEnd) : State :=
  let s1 := s.bump DDRC.REPLAY_COUNT.COUNT
  match replay with
  | .good => s1
  | .readFails a => safetyReadFails s1 a
  | .writeFails n => abandonBands s1 n
def execDdrAlert (replay : ReplayEnd) (s : State) : Out :=
  .next (if clocksRun s ∧ s.flag DDRC.CTRL.EN then alert s replay else s)

/-- PATROL_SCRUB: the corrected blocks are counted (R505). -/
def execPatrolScrub (corrected : Nat) (s : State) : Out :=
  .next (if supUp s ∧ dramAwake s then s.bumpBy DDRC.CE_COUNT.COUNT corrected else s)

/-! ### Power states (R461, R506) -/

/-- SR_MIN in force: below PD_MIN it acts as PD_MIN (R524). -/
def srMin (s : State) : Nat := max (s.regIn DDRC.PWR.PD_MIN 1 255) (s.regIn DDRC.PWR.SR_MIN 4 255)

/-- The controller manages power by the tolerance code: in RUN, with LAT_EN (R506). -/
def latRuns (s : State) : Bool := clocksRun s && s.power != 1 && s.flag DDRC.CTRL.EN && s.flag DDRC.CTRL.LAT_EN

/-- DRAM_IDLE_POWER_STATE: with no request pending the state follows the tolerance code (R506). -/
def idlePower (s : State) : State :=
  let c := s.reg SCAN.LAT_TOL.TOL
  if srMin s ≤ c then dramSelfRefresh s
  else if s.regIn DDRC.PWR.PD_MIN 1 255 ≤ c ∧ s.flag DDRC.STATUS.SELF_REFRESH = false then s.setFlag DDRC.STATUS.POWER_DOWN true
  else s
def execDramIdlePowerState (s : State) : Out := .next (if latRuns s then idlePower s else s)

/-- TOL_COUNTDOWN_EXPIRY: the exit from power-down or self-refresh starts (R506). -/
def execTolCountdownExpiry (s : State) : Out := .next (if latRuns s then dramExit s else s)

/-- DRAM_IDLE_SELF_REFRESH: in LANDING the DRAM returns to self-refresh (R461). -/
def execDramIdleSelfRefresh (s : State) : Out :=
  .next (if s.power = 1 ∧ clocksRun s ∧ s.flag DDRC.CTRL.EN then dramSelfRefresh s else s)

end Sys2Proof.Machine
end

