-- ==== Sys2Proof/Machine/Boot.lean ====
section
/-! DEFINITION. Boot.lean: the boot flash, slot choice, the cold-boot path, sleep entry and wake (19_startup_reset_and_bringup.md R576
to R586; 14_clocks_and_power_states.md R462 to R468). -/

namespace Sys2Proof.Machine

/-! ### Boot flash (R403, R580, R581) -/

/-- A byte of the boot flash. -/
def State.flashByte (s : State) (a : Nat) : Byte := sparseGet 0 s.flash.cells a ^^^ Config.flashByte a

/-- `n` bytes of the boot flash from address `a`. -/
def State.flashBytes (s : State) (a n : Nat) : List Byte := (List.range n).map (fun i => s.flashByte (a + i))

/-- The cells after the bytes `v` have been written from address `a`. -/
def flashCells (m : List Host.Cell) (a : Nat) : List Byte → List Host.Cell
  | [] => m
  | b :: t => flashCells (sparseSet 0 m a (b ^^^ Config.flashByte a)) (a + 1) t

/-- The flash with the bytes `v` written from address `a`. -/
def State.flashPut (s : State) (a : Nat) (v : List Byte) : State := { s with flash := { cells := flashCells s.flash.cells a v } }

/-- Addresses of the directory and of its copy (R403). -/
def dirPrimary : Nat := 0
def dirCopy : Nat := 0x10000

/-- The directory at `a` has its MAGIC and a good CHECK over the fields before it (R403). -/
def dirOk (s : State) (a : Nat) : Bool :=
  let b := s.flashBytes a 0x24
  leAt b 0 4 == 0x4C424C41 && leAt b 0x20 4 == (crc32c 0 (b.take 0x20)).toNat

/-- The directory that the boot ROM uses (R580). -/
def directory (s : State) : Option Nat :=
  if dirOk s dirPrimary then some dirPrimary else if dirOk s dirCopy then some dirCopy else none

/-- PREFER names slot B in the directory at `a` (R580). -/
def prefersB (s : State) (a : Nat) : Bool := bit (leAt (s.flashBytes (a + 4) 4) 0 4) 16

/-- Offset and size of entry `k` of the directory at `a`: 0 slot A, 1 slot B, 2 the symbol library (R403). -/
def dirEntry (s : State) (a k : Nat) : Nat × Nat :=
  let b := s.flashBytes (a + 8 + 8 * k) 8
  (leAt b 0 4, leAt b 4 4)

/-! ### Slot choice (R582, R583) -/

/-- The FAIL bit of a slot, B or A. -/
def slotFail (b : Bool) : Field := if b then SYS.BOOT.B_FAIL else SYS.BOOT.A_FAIL

/-- One slot is tried: a failure sets its FAIL bit and REASON (R588). -/
def trySlot (s : State) (b : Bool) (v : SlotVerdict) : State × Option (Bool × Nat) :=
  match v with
  | .pass ver => (s, some (b, ver.toNat))
  | .fail r => ((s.setFlag (slotFail b) true).setReg SYS.BOOT.REASON r.val, none)

/-- The slot `b` first and the other one second, with the verdicts of A and B (R582). -/
def trySlots (s : State) (b : Bool) (va vb : SlotVerdict) : State × Option (Bool × Nat) :=
  let r := trySlot s b (if b then vb else va)
  match r.2 with
  | some x => (r.1, some x)
  | none => trySlot r.1 (!b) (if b then va else vb)

/-- Jorosh starts from slot `b` with firmware `ver`; `pref` is the slot that PREFER names (R582, R588). -/
def startJorosh (s : State) (pref : Bool) (x : Bool × Nat) : State :=
  let s1 := (s.setFlag SYS.BOOT.SLOT x.1).setFlag SYS.BOOT.PREFERRED (x.1 == pref)
  { s1 with boot := { s1.boot with jorosh := true, fwVer := x.2 } }

/-- The boot halts: the FATAL cause, ERR_N low, BOOT_HALT (R583). -/
def bootHalt (s : State) : State :=
  let s1 := (raiseCause s SAFE.FB_CAUSE.FATAL).setFlag SYS.BOOT.BOOT_HALT true
  assertErr { s1 with boot := { s1.boot with jorosh := false } } (fun f => { f with errReal := f.errReal ||| 4 })

/-- The boot ROM: directory, flash mode, choice, its repeat at 25 MHz, and the halt (R402, R580 to R583). -/
def bootRom (s : State) (e : BootEnv) : State :=
  match directory s with
  | none => bootHalt (s.setFlag SYS.BOOT.DIR_COPY true)
  | some a =>
    let pref := prefersB s a
    let s1 := (s.setFlag SYS.BOOT.DIR_COPY (a != dirPrimary)).setReg SYS.BOOT.FLASH_MODE e.flashMode.val
    let r := trySlots s1 pref e.slotA e.slotB
    match r.2 with
    | some x => startJorosh r.1 pref x
    | none =>
      let r2 := trySlots (r.1.setReg SYS.BOOT.FLASH_MODE 0) pref e.slotA2 e.slotB2
      match r2.2 with
      | some x => startJorosh r2.1 pref x
      | none => bootHalt r2.1

/-! ### Steps of the cold boot (R577) -/

/-- The OSCDLY level and its source (R449, R469). -/
def oscLevel (s : State) (pad : Strap) : State :=
  let o := s.clk.oscdlyOtp
  let otp := decide (1 ≤ o ∧ o ≤ 4)
  let l := match pad with
    | .level l => l.val
    | .invalid => 3
  (s.setReg CLK.STATUS.OSCDLY (if otp then o - 1 else l)).setFlag CLK.STATUS.OSCDLY_OTP otp

/-- The reference, the PLL and the ramp, as far as they have not been reached (R448, R449, R454). -/
def bootClocks (s : State) (refGood : Bool) : State :=
  let s1 := if s.reg CLK.STATUS.SRC = 0 then chooseRef s refGood else s
  rampAll (lockPll { s1 with
    clk := { s1.clk with crystal := s1.clk.crystal || s1.reg CLK.STATUS.SRC == 2 }
    pwr := { s1.pwr with coreEn := true, corePg := true } })

/-- One block clocked and, where it has an EN bit, enabled (R586). -/
def enableBlock (s : State) (n : Nat) : State :=
  let s1 := s.setFlag (CLK.GATE.EN n) true
  match n with
  | 9 => portEnable s1 0
  | 10 => portEnable s1 1
  | 19 => s1.setFlag MRAM.CTRL.EN true
  | _ => match blockEn n with
    | some f => s1.setFlag f true
    | none => s1

/-- DDR_TIMING loaded and the controller enabled; then the pattern check's answer decides (R499, R500). -/
def dramTry (s : State) (timing : List Byte) (good : Bool) : State :=
  let s1 := applyTiming (s.setFlag (CLK.GATE.EN 8) true) timing
  let s2 := ddrcEnable s1
  if s2.flag DDRC.CTRL.EN then (if good then s2.setFlag DDRC.STATUS.READY true else s2.setFlag DDRC.CTRL.EN false) else s2

/-- The DRAM check with the board's record, then once more with the factory default (R496, R500). -/
def dramStart (s : State) (e : BootEnv) : State :=
  let s1 := dramTry (s.setFlag DDRC.STATUS.READY false) (payloadOf s 2).2 e.dramGood
  let s2 := if s1.flag DDRC.STATUS.READY then s1 else dramTry s1 (recDefault 2) e.dramGoodDefault
  if s2.flag DDRC.STATUS.READY then s2 else raiseFault (s2.setFlag DDRC.STATUS.DRAM_FAIL true) 56 2

/-- The first healing generation of the restored map is in force, and VLED goes to VLED_MAX (R65, R291). -/
def adoptMap (s : State) : State :=
  { s with
    diag := { s.diag with heal := s.diag.map, healReady := none, healGen := s.diag.healGen + 1 }
    scan := { s.scan with vledAsk := vledMax s } }

/-- Masks, map and first healing generation come back from MRAM, and VLED goes to VLED_MAX (R31, R65, R288, R303). -/
def restoreArray (s : State) : State := queueRead (queueRead (adoptMap (restoreMasks (restoreMap s))) 0 0x20) 1 0x20

/-- The planned VCORE code is written once the first reading confirms a margin of M_LOW at the power-on voltage; otherwise VCORE rises
at once (R324). -/
def startVcore (s : State) (margins : List Nat) : State :=
  let on := min 10 Config.vcorePowerOn
  let s1 := delayReading ({ s with cal := { s.cal with vcPlan := on } }.setReg CAL.VM_STATUS.VC_SET on) margins
  if (worstMargin margins).2 < s.reg CAL.VM_CFG.M_LOW then s1 else restorePlan s1

/-- Calibration data restored and start-up calibration run; without DRAM the restored masks stay (R303, R304, R309). -/
def bootCalibrate (s : State) (e : BootEnv) : State :=
  if s.flag DDRC.STATUS.READY then calibrateOrAbort s e.readings e.badMaskRows else s

/-- After a DRAM failure Jorosh clocks the SCAN block, writes MODE 7 and enables it (R500). -/
def scanM7 (s : State) : State :=
  let s1 := (s.setFlag (CLK.GATE.EN 13) true).setReg SCAN.MODE.MODE 7
  if s.flag SCAN.CTRL.EN then s1 else scanEnable s1

/-- The blocks that Jorosh enables before BOOT_DONE, and the M7 of a failed DRAM (R500, R586). -/
def bringUp (s : State) : State :=
  let s1 := [4, 9, 10, 16, 17, 18, 19, 20].foldl enableBlock s
  if s.flag DDRC.STATUS.READY then enableBlock s1 8
  else if s.flag DDRC.STATUS.DRAM_FAIL then scanM7 s1
  else s1

/-- The WAKE event, and the wake failure reported at the first successful wake (R428, R468, R538). -/
def wakeDone (s : State) (from_ : Nat) : State :=
  let s1 := raiseEvent (s.setReg PWR.STATE.STATE 0) 0x0901
    (toLe 1 (s.reg PWR.STATE.WAKE_SRC) ++ toLe 1 (s.reg PWR.STATE.WAKE_CODE) ++ toLe 1 from_)
  if s.pwr.failed then raiseFault { s1 with pwr := { s1.pwr with failed := false, repeats := 0 } } 7 2
  else { s1 with pwr := { s1.pwr with repeats := 0 } }

/-- What Jorosh reports directly after BOOT_DONE: a slot that is not preferred, a long hold, a hard trip (R487, R575, R582). -/
def bootReports (s : State) : State :=
  let s1 := if s.flag SYS.BOOT.PREFERRED then s else raiseFault s 65 1
  let s2 := if s.boot.longDue then
      raiseEvent { s1 with boot := { s1.boot with longDue := false } } 0x0103 (toLe 2 (s.reg SYS.RESET_CAUSE.HELD_S))
    else s1
  if s.boot.tripDue = 0 then s2
  else
    raiseFault (thermalEvent { (s2.tookFree) with boot := { s2.boot with tripDue := 0 } } 3 (s.boot.tripDue - 1)
      ((Config.tripT4 s2.free : Nat) : Int)) 54 2

/-- BOOT_DONE (R577 step 15); a restart that runs ends with it (R537), and one that an injected fault asked for is marked INJ (R540). -/
def bootDone (s : State) : State :=
  let s1 := raiseEventInj s 0x0101 s.boot.injRestart (toLe 1 (s.reg SYS.BOOT.SLOT) ++ [0, 0, 0] ++ toLe 4 s.boot.fwVer)
  let s2 := { s1 with boot := { s1.boot with done := true, cold := false, injRestart := false } }.setFlag FLT.STATUS.RESTARTING false
  bootReports s2

/-- Records, DRAM and the data that MRAM holds, steps 11 to 13 (R577). -/
def bootData (s : State) (e : BootEnv) : State :=
  restoreArray (restoreDose (restoreCal (dramStart (enableBlock (applyBoard (judgeRecords s)) 4) e)))

/-- The optics model, start-up calibration and the core voltage, step 14 (R577). -/
def bootModel (s : State) (e : BootEnv) : State :=
  startVcore (bootCalibrate (applyLens (s.setReg SCAN.IFB_STATUS.IFB_NA e.ifbNa) e.lens) e) e.margins

/-- A boot from DEEP ends the wake with it (R467). -/
def wakeEnds (s : State) (wake : Bool) : State := if wake then wakeDone s 3 else s

/-- Jorosh's part of the cold boot, steps 11 to 15 (R577). -/
def joroshBoot (s : State) (e : BootEnv) : State :=
  wakeEnds (bootDone (bringUp (bootModel (bootData s e) e))) (s.power == 5)

/-- The cold-boot path may run: it was triggered, nothing holds the domains, and neither a halt nor a supervisor halt stops it
(R537, R576, R583). -/
def mayBoot (s : State) : Bool :=
  s.boot.cold && !domainsHeld s && !s.clk.lost && (s.power == 0 || s.power == 5)
    && !s.flag SYS.BOOT.BOOT_HALT && !s.flag FLT.STATUS.SUP_HALTED

/-- COLD_BOOT: the whole path from the trigger to BOOT_DONE (R577). -/
def coldBoot (s : State) (e : BootEnv) : State :=
  let s1 := bootClocks (oscLevel (sealAtReset s e.straps) e.oscdly) e.refclkGood
  let s2 := bootRom s1 e
  if s2.boot.jorosh then joroshBoot s2 e else s2
def execColdBoot (env : BootEnv) (s : State) : Out := .next (if mayBoot s then coldBoot s env else s)

/-- CORE_PG_RISE: the on-die domains may be powered (R577). -/
def execCorePgRise (s : State) : Out :=
  .next (if s.pwr.coreEn then { s with pwr := { s.pwr with corePg := true } } else s)

/-! ### Sleep entry (R462, R464, R465) -/

/-- The latency in ms of a wake-port code (R394). -/
def wakeCodeMs (c : Nat) : Nat := [2, 5, 10, 20, 40, 100, 250].getD c 250

/-- The sleep state for a tolerated latency in ms; none for 1 ms (R464). -/
def sleepFor (ms : Nat) : Option Nat :=
  if ms < 2 then none else if ms < 40 then some 1 else if ms < 250 then some 2 else some 3

/-- PWR_SLEEP: the response names the state chosen, and the entry begins after it (R423, R464). -/
def pwrSleep (mb : Nat) (srAck : Bool) (s : State) (p : List Byte) : State :=
  let l := leAt p 0 2
  let t := sleepFor (if l = 0 then wakeCodeMs (s.reg PWR.STATE.WAKE_CODE) else l)
  needLen s mb (p.length == 4)
    (match t with
     | none => respond s mb 4 []
     | some t =>
       if s.power ≠ 0 then respond s mb 7 []
       else
         let s1 := respond s mb 0 (toLe 1 t)
         { s1.setReg PWR.STATE.STATE 4 with pwr := { s1.pwr with target := t, sources := leAt p 2 1 % 8, srAck := srAck } })
def execPwrSleep (mb : Nat) (srAck : Bool) (s : State) : Out := .next (command s mb 0x0901 (pwrSleep mb srAck))

/-- Block that refuses the entry, in the order of R465: the engines, CAN, the mailboxes, the Tatex ports, the DRAM controller. -/
def entryRefuser (s : State) : Option Nat :=
  let deep := decide (2 ≤ s.pwr.target)
  if s.eng.running.isSome then some 16
  else if deep ∧ (s.mb 7).busy then some 11
  else if deep ∧ (List.range 8).any (fun n => (s.mb n).busy) then some 5
  else if deep ∧ tatexRefuses s then some 9
  else if s.flag DDRC.CTRL.EN ∧ s.pwr.srAck = false then some 8
  else none

/-- The SCAN block stops as a write of 0 to its EN does (R462). -/
def stopScan (s : State) : State := if s.flag SCAN.CTRL.EN then scanDisable s else s

/-- A refused entry: the blocks stopped before the refuser restart, the raster under R91 (R465). -/
def refuseEntry (s : State) (block : Nat) : State :=
  let s1 := if s.flag SCAN.CTRL.EN then scanEnable (scanDisable s) else s
  let s2 := if 2 ≤ s.pwr.target then auxForce (auxForce s1 true) false else s1
  let s3 := ((s2.setReg PWR.STATE.STATE 0).setFlag PWR.STATUS.REFUSED true).setReg PWR.STATUS.LAST_REFUSER block
  sleepRefused (s3.bump PWR.REFUSE_COUNT.COUNT) false

/-- LANDING: the scan is off, CLK_CORE runs at /24 and the DRAM rests in self-refresh (R461, R462). -/
def enterLanding (s : State) : State :=
  let s1 := { stopScan s with pwr := { s.pwr with scanEn := s.flag SCAN.CTRL.EN } }
  let s2 := { s1 with clk := { s1.clk with div := if s1.clk.div.getD 3 0 = 0 then s1.clk.div else s1.clk.div.set 3 24 } }
  (if s.flag DDRC.CTRL.EN then dramSelfRefresh s2 else s2).setReg PWR.STATE.STATE 1

/-- The entry runs to its end: refused, or in the state chosen (R465). -/
def finishEntry (s : State) : State :=
  match entryRefuser s with
  | some b => refuseEntry s b
  | none =>
    if s.pwr.target = 1 then enterLanding s
    else
      let s1 := (tatexSleep (stopScan s)).setReg PWR.STATE.STATE s.pwr.target
      if s.pwr.target = 2 then enterCellar s1 else enterDeep s1

/-- Number of a wake source in WAKE_SRC (R475). -/
def wakeNo : WakeSource → Nat
  | .wakePort => 1
  | .wakePin => 2
  | .lowbeam => 3
  | .mailbox => 4

/-- SLEEP_ENTRY_ABORT: a selected source that fires during the entry aborts it (R466). -/
def execSleepEntryAbort (src : WakeSource) (s : State) : Out :=
  .next (if s.power = 4 ∧ wakeSelected s (wakeNo src) then abortEntry s else s)

/-! ### Wake (R467, R468) -/

/-- WAKE_PIN (R467). -/
def execWakePin (s : State) : Out := .next (wakeBy s 2)

/-- The wake from LANDING: clocks and DRAM as before, VLED from VLED_MAX, the scan as it was (R461, R462, R513). -/
def wakeLanding (s : State) : State :=
  let s1 := judgeRecords (dramExit { s with
    clk := { s.clk with div := if s.clk.div.getD 3 0 = 0 then s.clk.div else s.clk.div.set 3 (rampTarget s 3) }
    scan := { s.scan with vledAsk := vledMax s } })
  wakeDone (if s.pwr.scanEn ∧ s1.flag SCAN.CTRL.EN = false then scanEnable s1 else s1) 1

/-- The wake from CELLAR: clocks, seal, records, DRAM delays, the array, the ports (R467, R507). -/
def wakeCellar (s : State) : State :=
  wakeDone (bringUp (restoreArray (applyTiming (applyBoard (judgeRecords (bootClocks (sealAtReset s s.guard.straps) false)))
    (payloadOf s 2).2))) 2

/-- WAKE_SEQUENCE: the device returns to RUN (R467). From DEEP the cold-boot path does it. -/
def execWakeSequence (s : State) : Out :=
  .next (if s.power = 5 ∧ domainsHeld s = false then
    (if s.pwr.wakeFrom = 1 then wakeLanding s else if s.pwr.wakeFrom = 2 then wakeCellar s else s) else s)

/-- A failed step is repeated: CORE_EN low and high again, or the crystal restarted (R468). -/
def repeatStep (s : State) (w : ReadyWait) : State :=
  let s1 := { s with pwr := { s.pwr with repeats := s.pwr.repeats + 1 } }
  match w with
  | .corePg => { s1 with pwr := { s1.pwr with coreEn := true, corePg := false } }
  | .oscillator => { s1 with clk := { s1.clk with crystal := false } }
  | _ => s1

/-- The wake fails: WAKE_FAIL, its count, ERR_N, and the device back in CELLAR, or in DEEP on the cold-boot path (R468, R578). -/
def wakeFails (s : State) : State :=
  let deep := s.boot.cold || s.pwr.wakeFrom == 3
  let s1 := (s.setFlag PWR.STATUS.WAKE_FAIL true).bump PWR.WAKE_FAIL_COUNT.COUNT
  let s2 := if deep then enterDeep (s1.setReg PWR.STATE.STATE 3) else s1.setReg PWR.STATE.STATE 2
  assertErr { s2 with pwr := { s2.pwr with
    repeats := 0, failed := true, sources := if s.pwr.sources = 0 then 7 else s.pwr.sources } } (fun f => { f with errWake := true })

/-- WAKE_READINESS_TIMEOUT: up to RETRIES repeats, then the wake fails (R468). -/
def execWakeReadinessTimeout (w : ReadyWait) (s : State) : Out :=
  .next (if domainsHeld s = false ∧ ((s.power = 5 ∧ s.pwr.wakeFrom ≠ 1) ∨ mayBoot s = true) then
    (if s.pwr.repeats < s.reg PWR.CFG.RETRIES then repeatStep s w else wakeFails s) else s)

end Sys2Proof.Machine
end

