-- ==== Sys2Proof/Machine/Faults.lean ====
section
/-! DEFINITION. Faults.lean: detection, the arbiter, escalation, acknowledgement, ERR_N, the supervisor restart and fault injection
(17_faults_and_reactions.md R530 to R542). -/

namespace Sys2Proof.Machine

/-! ### Detection (R530, R532) -/

/-- What a detection degrades beside the collector's reaction, for the sources that no command of their own serves: line buffers, LUT
memory and DRAM reads abort the frame in load, the Kiln loses its image, an engine faults (R530). -/
def degrade (s : State) (src cls : Nat) : State :=
  if cls < 2 then s
  else if src = 18 ∨ src = 19 ∨ src = 59 then abortFrame s
  else if src = 20 then discardKiln s
  else s

/-- An OTP word that cannot be corrected: a seal word breaks the seal, a key word leaves its key unprogrammed until reset (R530). -/
def otpFails (s : State) (w : OtpWord) : State :=
  let lose (k : Nat) : State := { s with guard := { s.guard with lostKeys := s.guard.lostKeys ||| 2 ^ k } }
  match w with
  | .seal => breakSeal s 0
  | .hostKey => lose 0
  | .serviceKey => lose 1
  | .safeKey => lose 2

/-- FAULT_DETECT: source `src` detects a fault of a class it lists (R530, R532). -/
def detect (s : State) (src cls : Nat) (w : OtpWord) : State :=
  if cls ∉ sourceClasses src then s
  else if 25 ≤ src ∧ src ≤ 42 ∧ cls = 2 then faultEngine s (src - 25) false
  else
    let s1 := degrade (raiseFault s src cls) src cls
    if src = 12 then otpFails s1 w else s1
def execFaultDetect (src : Nat) (cls : FaultClass) (word : OtpWord) (s : State) : Out :=
  .next (if domainsOff s then s else detect s src (classCode cls) word)

/-! ### The grant (R531 to R534, R536 to R538) -/

/-- A request waits at position `p` (R532). -/
def waitsAt (s : State) (p : Nat) : Bool :=
  if p < 96 then (sparseGet none s.flt.real p).isSome || (sparseGet none s.flt.inj p).isSome
  else if p = 96 then s.flt.jorosh != []
  else s.flt.aon != []

/-- The position granted next: the lowest waiting one above the last, wrapping from 97 to 0 (R532). -/
def nextGrant (s : State) : Option Nat :=
  ((List.range 98).map (fun i => (s.flt.last + 1 + i) % 98)).find? (waitsAt s)

/-- The pending bit of a class, real or injected (R533, R541). -/
def pendBit (inj : Bool) (cls : Nat) : Field :=
  match inj, cls with
  | false, 1 => FLT.STATUS.PEND_CORR
  | false, 2 => FLT.STATUS.PEND_CONT
  | false, _ => FLT.STATUS.PEND_FATAL
  | true, 1 => FLT.STATUS.INJ_CORR
  | true, 2 => FLT.STATUS.INJ_CONT
  | true, _ => FLT.STATUS.INJ_FATAL

/-- The class in force and whether the fault escalated (R533). -/
def classInForce (s : State) (inj : Bool) (cls : Nat) : Nat × Bool :=
  if s.flag (pendBit inj cls) ∧ cls < 3 then (cls + 1, true) else (cls, false)

/-- The first real fault while FIRST is free is latched; later ones only set OVERFLOW (R534). -/
def latchFirst (s : State) (src cls lt : Nat) (esc : Bool) : State :=
  if s.flag FLT.FIRST.VALID then s.setFlag FLT.FIRST.OVERFLOW true
  else
    let s1 := ((s.setReg FLT.FIRST.SRC src).setReg FLT.FIRST.CLASS cls).setFlag FLT.FIRST.ESCALATED esc
    ((s1.setFlag FLT.FIRST.VALID true).setReg FLT.FIRST_LT_LO.LT lt).setReg FLT.FIRST_LT_HI.LT (lt / 2 ^ 32)

/-- The same for injected faults (R541, R546). -/
def latchInjFirst (s : State) (src cls : Nat) (esc : Bool) : State :=
  if s.flag FLT.INJ_FIRST.VALID then s.setFlag FLT.INJ_FIRST.OVERFLOW true
  else
    let s1 := ((s.setReg FLT.INJ_FIRST.SRC src).setReg FLT.INJ_FIRST.CLASS cls).setFlag FLT.INJ_FIRST.ESCALATED esc
    s1.setFlag FLT.INJ_FIRST.VALID true

/-- A granted FATAL fault of `src` asks for a supervisor restart: while clocks are good, not a second time during a restart and not
before BOOT_DONE unless its source is 0, 1 or 2 (R537). -/
def askRestart (s : State) (src : Nat) (inj : Bool) : State :=
  let own := decide (src ≤ 2)
  if s.clk.lost ∨ s.flag FLT.STATUS.SUP_HALTED = true ∨ s.flag SYS.BOOT.BOOT_HALT = true
      ∨ ((s.flag FLT.STATUS.RESTARTING ∨ s.boot.cold = true) ∧ own = false) then s
  else { s with flt := { s.flt with restartDue := some (inj && s.flt.restartDue.getD true) } }

/-- ERR_N goes low for a class in force (R531, R538). -/
def errForClass (s : State) (inj : Bool) (cls : Nat) : State :=
  if cls = 1 ∧ s.flag FLT.CFG.ERR_CORR = false then s
  else assertErr s (fun f => if inj then { f with errInj := f.errInj ||| 2 ^ (cls - 1) } else { f with errReal := f.errReal ||| 2 ^ (cls - 1) })

/-- The reaction of the class in force (R531, R536, R537). -/
def react (s : State) (src cls : Nat) (inj : Bool) : State :=
  let s1 := errForClass s inj cls
  if cls = 3 then askRestart (raiseCauseInj s1 SAFE.FB_CAUSE.FATAL inj) src inj else s1

/-- A fault is granted: its class becomes pending, the latches and LAST take it, the FAULT event takes its ESEQ, its class reacts
(R532 to R534, R541, R549). -/
def grantFault (s : State) (src : Nat) (w : FaultWait) (inj : Bool) : State :=
  let c := classInForce s inj w.cls
  let s1 := s.setFlag (pendBit inj c.1) true
  let s2 := if inj then latchInjFirst s1 src c.1 c.2 else latchFirst s1 src c.1 w.lt c.2
  let s3 := ((s2.setReg FLT.LAST.SRC src).setFlag FLT.LAST.INJ inj).setReg FLT.LAST.CLASS c.1
  let s4 := enqueueEvent (s3.setFlag FLT.LAST.ESCALATED c.2)
    { code := 0x0C01, node := s.reg TXLA.NODE.ADDR, eseq := 0, lt := w.lt % 2 ^ 48, inj := inj
      args := padTo 16 (toLe 2 src ++ toLe 1 (c.1 + 4 * b2n c.2)) }
  react s4 src c.1 inj

/-- The grant of position `p`: a real request before an injected one (R532). -/
def grantAt (s : State) (p : Nat) : State :=
  let s1 := { s with flt := { s.flt with last := p } }
  if p = 96 then
    match s.flt.jorosh with
    | [] => s1
    | e :: t => enqueueEvent { s1 with flt := { s1.flt with jorosh := t } } e
  else if p = 97 then
    match s.flt.aon with
    | [] => s1
    | e :: t => enqueueEvent { s1 with flt := { s1.flt with aon := t } } e
  else
    match sparseGet none s.flt.real p, sparseGet none s.flt.inj p with
    | some w, _ => grantFault { s1 with flt := { s1.flt with real := sparseSet none s1.flt.real p none } } p w false
    | none, some w => grantFault { s1 with flt := { s1.flt with inj := sparseSet none s1.flt.inj p none } } p w true
    | none, none => s1

/-- FAULT_GRANT: the arbiter grants one request (R532). -/
def faultGrant (s : State) : State :=
  match nextGrant s with
  | some p => grantAt s p
  | none => s
def execFaultGrant (s : State) : Out := .next (if domainsOff s then s else faultGrant s)

/-! ### Acknowledgement (R535, R538, R541) -/

/-- One class acknowledged, real or injected: its pending bit clears and ERR_N loses that reason. CONT also ends a WAKE_FAIL
assertion, and a reported FATAL a CLOCK or GUARD one (R538). -/
def ackClass (inj : Bool) (w : Nat) (s : State) (cls : Nat) : State :=
  if bit w (cls - 1 + if inj then 4 else 0) = false then s
  else
    let f := s.flt
    let f' := if inj then { f with errInj := clearBit f.errInj (cls - 1) }
      else { f with
        errReal := clearBit f.errReal (cls - 1), errWake := f.errWake && cls != 2
        errAsync := f.errAsync && !(cls == 3 && s.flag FLT.STATUS.PEND_FATAL) }
    { s with flt := f' }.setFlag (pendBit inj cls) false

/-- The FIRST bit of FLT.ACK (R534, R545). -/
def clearFirst (s : State) : State :=
  [FLT.FIRST.SRC, FLT.FIRST.CLASS, FLT.FIRST.ESCALATED, FLT.FIRST.VALID, FLT.FIRST.OVERFLOW, FLT.FIRST_LT_LO.LT, FLT.FIRST_LT_HI.LT,
    FLT.INJ_FIRST.SRC, FLT.INJ_FIRST.CLASS, FLT.INJ_FIRST.ESCALATED, FLT.INJ_FIRST.VALID, FLT.INJ_FIRST.OVERFLOW].foldl
    (fun t f => t.setReg f 0) s

/-- FLT_ACK (R535). -/
def fltAck (s : State) (w : Nat) : State :=
  let s1 := [1, 2, 3].foldl (ackClass true w) ([1, 2, 3].foldl (ackClass false w) s)
  if bit w 8 then clearFirst s1 else s1
def execFltAck (w : Word) (s : State) : Out := .next (fltAck s w.toNat)

/-- ERR_N_MIN_WIDTH_EXPIRY: the pin stays low only for classes that are not acknowledged (R538). -/
def execErrNMinWidthExpiry (s : State) : Out := .next { s with flt := { s.flt with errMin := false } }

/-! ### The supervisor restart (R418, R537, R584) -/

/-- Restarts of the last 10 s of lamp time that count toward RESTART_MAX. -/
def recentRestarts (s : State) : List Nat := s.flt.restarts.filter (fun t => decide (s.now ≤ t + 4000000000))

/-- Render sets, pending, submitted and running, are lost (R537). -/
def dropRenderSets (s : State) : State :=
  { s with eng := { s.eng with building := [], submitted := none, latched := none, running := none } }

/-- The restart begins: BUSY mailboxes complete with ABORTED, sessions close, render sets are lost (R418, R537). On the cold-boot path
waiting rings stay for the boot (R578). -/
def beginRestart (s : State) (inj : Bool) : State :=
  let s1 := if s.boot.cold then s else abortBusy s
  let s2 := ((dropRenderSets s1).bump FLT.STATUS.RESTARTS).setFlag FLT.STATUS.RESTARTING true
  { s2 with boot := { s2.boot with jorosh := false, injRestart := inj } }

/-- SUPERVISOR_RESTART: the restart, or the halt once too many have run within 10 s (R537). -/
def supervisorRestart (s : State) (inj : Bool) : State :=
  let s1 := { s with flt := { s.flt with restartDue := none } }
  if inj then beginRestart s1 true
  else
    let l := s.now :: recentRestarts s
    let s2 := { s1 with flt := { s1.flt with restarts := l } }
    if s.regIn FLT.CFG.RESTART_MAX 1 15 < l.length then
      { s2 with boot := { s2.boot with jorosh := false } }.setFlag FLT.STATUS.SUP_HALTED true
    else beginRestart s2 false
def execSupervisorRestart (s : State) : Out :=
  .next (match s.flt.restartDue with
    | some inj => if domainsOff s then s else supervisorRestart s inj
    | none => s)

/-- Jorosh runs again: its own records come back from MRAM and BOOT_DONE is raised (R537). -/
def restarted (s : State) (pref : Bool) (x : Bool × Nat) : State :=
  bootDone (restorePlan (restoreMap (startJorosh s pref x)))

/-- RESTART_COMPLETE: the slot it ran from, then the other one; a halt when both fail (R583, R584). -/
def restartComplete (s : State) (own other : SlotVerdict) : State :=
  let b := s.flag SYS.BOOT.SLOT
  let pref := if s.flag SYS.BOOT.PREFERRED then b else !b
  let r := trySlot s b own
  match r.2 with
  | some x => restarted r.1 pref x
  | none =>
    let r2 := trySlot r.1 (!b) other
    match r2.2 with
    | some x => restarted r2.1 pref x
    | none => bootHalt (r2.1.setFlag FLT.STATUS.RESTARTING false)
def execRestartComplete (own other : SlotVerdict) (s : State) : Out :=
  .next (if s.flag FLT.STATUS.RESTARTING ∧ s.boot.cold = false ∧ s.boot.jorosh = false ∧ domainsOff s = false
    then restartComplete s own other else s)

/-! ### Injection (R540, R541) -/

/-- The sources whose injected fault of class `cls` waits for their detector's next event, because it acts on that event: echo and
accumulator checks, the shadow engine, context memory, the underrun, the SAFETY check, the pixel sweep (R540). -/
def waitsAtDetector (src cls : Nat) : Bool :=
  decide ((src, cls) ∈ [(9, 2), (10, 2), (13, 2), (14, 3), (15, 2), (16, 2), (17, 2), (43, 1)])

/-- The degradation of an injected fault beside those of `degrade`, where the source's rule gives one that acts at once: the GUARD cause
(R244), a broken seal (R260), a PMBus loop in error (R66, R324), SOFT_STOP entered (R485). The others run the collector's reaction
alone. -/
def degradeInjected (s : State) (src cls : Nat) : State :=
  if src = 8 ∧ cls = 3 then raiseCauseInj s SAFE.FB_CAUSE.GUARD true
  else if cls < 2 then s
  else if src = 11 then raiseEventInj (applyLimits s (limitsOf s true)) 0x0601 true (toLe 1 0 ++ toLe 1 (slotShown s))
  else if src = 22 then
    { s with scan := { s.scan with hrSuspended := true } }.setFlag SCAN.VLED_STATUS.PMBUS_ERR true
  else if src = 23 then s.setFlag CAL.VM_STATUS.PMBUS_ERR true
  else if src = 53 then
    { ((raiseCauseInj s SAFE.FB_CAUSE.SOFT_STOP true).setFlag SCAN.FB_CTRL.FB_HALF true).bump THM.SOFT_STOP_COUNT.COUNT with
      thm := { s.thm with entered := s.thm.entered.set 2 true, falls := s.thm.falls.set 2 0 } }
  else degrade s src cls

/-- One injected fault enters at its source's detector (R540). -/
def injectOne (s : State) (src cls : Nat) : State :=
  if waitsAtDetector src cls then
    { s with flt := { s.flt with injDue := sparseSet 0 s.flt.injDue src (sparseGet 0 s.flt.injDue src + 1) } }
  else if 25 ≤ src ∧ src ≤ 42 ∧ cls = 2 ∧ (isActive s (src - 25) = true ∨ isSpare s (src - 25) = true) then
    faultEngine s (src - 25) true
  else degradeInjected (raiseInjected s src cls) src cls

/-- FAULT_INJECT (R540). -/
def faultInject (mb : Nat) (s : State) (p : List Byte) : State :=
  let src := leAt p 0 2
  let n := leAt p 3 1
  let classes := sourceClasses src
  needLen s mb (p.length == 4)
    (if classes = [] ∨ 3 < leAt p 2 1 ∨ n = 0 then respond s mb 4 []
     else
       let cls := if leAt p 2 1 = 0 then classes.getD 0 1 else leAt p 2 1
       let s1 := injectOne (respond s mb 0 []) src cls
       if n = 1 then s1 else { s1 with flt := { s1.flt with inject := s1.flt.inject ++ [(src, cls, n - 1)] } })
def execFaultInject (mb : Nat) (s : State) : Out := .next (command s mb 0x0704 (faultInject mb))

/-- INJECT_REPEAT: the injection whose turn it is raises its next fault (R540). -/
def injectRepeat (s : State) : State :=
  match s.flt.inject with
  | [] => s
  | (src, cls, n) :: t =>
    injectOne { s with flt := { s.flt with inject := if n ≤ 1 then t else t ++ [(src, cls, n - 1)] } } src cls
def execInjectRepeat (s : State) : Out := .next (if domainsOff s then s else injectRepeat s)

end Sys2Proof.Machine
end

