-- ==== Sys2Proof/Machine/RegAccess.lean ====
section
/-! DEFINITION. RegAccess.lean: what a read or a write of a register word or of a bit alias does, the check units and the SPI slave
(18_registers_and_check_units.md R551 to R570; 11_host_and_side_ports.md R385 to R389). -/

namespace Sys2Proof.Machine

/-! ### Fields that show state held elsewhere -/

/-- Word `k` of the oldest queued event record; 0 when the queue is empty (R429). -/
def eventWord (s : State) (k : Nat) : Nat :=
  match s.evt.queue with
  | [] => 0
  | e :: _ => leAt (eventBytes e) (4 * k) 4

/-- Fields whose value is other state, with that value. -/
def derivedFields : List (Field × (State → Nat)) :=
  [(SCAN.FB_CTRL.FB_ACTIVE, fun s => b2n (fbActive s)), (SCAN.RASTER.MODE_ACT, fun s => s.mode),
    (SCAN.RASTER.N11, fun s => b2n (s.scan.groups.any (fun g => g.n11))),
    (SCAN.N11_MAP.N11, fun s => bitsOf 16 (fun g => (s.group g).n11)),
    (SHD.STATUS.LT_UNSYNC, fun s => b2n (!s.synced)), (SHD.STATUS.BATCH_OPEN, fun s => b2n (batchOpen s)),
    (SHD.STATUS.ACTIVE, fun s => (activeCtxs s).length), (SAFE.STATUS.FB_ACTIVE, fun s => b2n (fbActive s)),
    (SAFE.STATUS.FB_PERMIT, fun s => b2n (!fbActive s)), (SAFE.STATUS.HB_EFFECTIVE, fun s => b2n (effMask s != 0)),
    (SAFE.STATUS.BLOCK_RUN, fun s => min 15 s.guard.blockRun), (SAFE.EFFECTIVE.WINDOW, fun s => s.windowMs)]
  ++ [(SAFE.HB_MASK.MASK, fun s => effMask s), (DIAG.STATUS.MAP_FULL, fun s => b2n (decide (4096 ≤ s.diag.map.length))),
    (DIAG.STATUS.MAPPED, fun s => s.diag.map.length), (DIAG.AGE.MAX_AGE, fun s => (oldestAge s).1),
    (DIAG.AGE.AGE_ROW, fun s => (oldestAge s).2), (AUX.STATUS.STRETCHED, fun s => bitsOf 4 (auxStretched s)),
    (AUX.STATUS.ENGINES, fun s => auxEngines s), (FLT.STATUS.ERR_HELD, fun s => b2n (errHeld s)),
    (TXLA.SYNC_STATUS.SYNCED, fun s => b2n s.synced), (MBX.STATE.STATE, fun s => sumNat ((List.range 8).map (fun n => (s.mb n).code * 4 ^ n))),
    (MBX.EVT_COUNT.QUEUED, fun s => s.evt.queue.length)]
  ++ [(GAL.L.CTRL.EN 0, fun _ => 1), (GAL.L.CTRL.BLEND 0, fun _ => 0), (GAL.L.POS.X 0, fun _ => 0), (GAL.L.POS.Y 0, fun _ => 0),
    (GAL.L.SIZE.W 0, fun s => if s.mode = 3 then 512 else 1024), (GAL.L.SIZE.H 0, fun s => if s.mode = 3 then 512 else 1024)]
  ++ (List.range 8).map (fun k => (MBX.EVT_HEAD.RECORD k, fun s => eventWord s k))
  ++ (List.range 4).map (fun u => (CRC.U.RESULT u, fun s => 2 ^ 32 - 1 - s.reg (CRC.U.RUNNING u)))
  ++ (List.range 16).map (fun n => (IOMUX.PIN.IN n, fun s =>
      if s.actReg (IOMUX.PIN.FUNC n) = 1 then s.reg (IOMUX.PIN.OUT n) else b2n (Config.pinLevel s.free n)))

/-- What a field reads as: WO fields read 0 (R554). -/
def fieldNow (s : State) (f : Field) : Nat :=
  if f.access = .wo then 0
  else match derivedFields.find? (fun p => p.1 == f) with
    | some p => p.2 s
    | none => s.reg f

/-! ### Windows without fields: mailbox areas and context readback (R196, R410, R429) -/

/-- The mailbox whose area holds address `a`, whether it is the response area, and the offset in it. -/
def mbxArea (a : Nat) : Option (Nat × Bool × Nat) :=
  if 0x50000 ≤ a ∧ a < 0x51000 then
    some ((a - 0x50000) / 0x200, bit (a - 0x50000) 8, (a - 0x50000) % 0x100)
  else none

/-- The word at `a` of a mailbox area: the response area of a BUSY mailbox is undefined. -/
def areaWord (s : State) (n : Nat) (rsp : Bool) (o a : Nat) : Nat :=
  if rsp then (if (s.mb n).busy then (Config.busyWord s.free a).toNat else leAt (s.mb n).rsp o 4) else leAt (s.mb n).req o 4

/-- A word of the request area written; while BUSY it is ignored and WR_IGN sets (R410). -/
def areaWrite (s : State) (n : Nat) (rsp : Bool) (o : Nat) (w : Word) : State :=
  if rsp then s
  else if (s.mb n).busy then s.setFlag MBX.STATUS.WR_IGN true
  else s.setMb n (fun m => { m with req := putAt m.req o (toLe 4 w.toNat) })

/-- The word at `a` of the context readback window: a free slot reads as zeros (R196). -/
def contextWord (s : State) (a : Nat) : Nat :=
  match (s.ctxSlot ((a - 0xF1000) / 64)).active with
  | some c => leAt c.raw ((a - 0xF1000) % 64) 4
  | none => 0

/-- What the word at `a` reads as, before any effect of the read (R552). -/
def wordNow (s : State) (a : Nat) : Word :=
  BitVec.ofNat 32 (match mbxArea a with
    | some (n, rsp, o) => areaWord s n rsp o a
    | none =>
      if 0xF1000 ≤ a ∧ a < 0xF5000 then contextWord s a
      else sumNat ((fieldsAt a).map (fun f => inWord f (fieldNow s f))))

/-! ### Reads (R554, R559) -/

/-- A field after a direct read of its word: RC bits clear, extremes reload (R554). -/
def readEffect (s : State) (f : Field) : State :=
  match f.access with
  | .rc => s.setReg f 0
  | .rcExt => s.setReg f f.reset.toNat
  | _ => s

/-- A direct read of the word at `a`. A read of a pin or of an undefined area takes a free value. -/
def wordRead (s : State) (a : Nat) : State × Word :=
  if a = GAL.LUT_DATA.ENTRY.addr then (lutRead s, wordNow (lutRead s) a)
  else (((fieldsAt a).foldl readEffect s).tookFree, wordNow s a)

/-- An alias read of bit `k` at `a`: an RC bit clears alone, an extreme is not reloaded (R559). -/
def bitRead (s : State) (a k : Nat) : State × Word :=
  if a % 4 ≠ 0 then (s, 0)
  else if a = GAL.LUT_DATA.ENTRY.addr then (lutRead s, BitVec.ofNat 32 (b2n ((wordNow (lutRead s) a).getLsbD k)))
  else
    let v : Word := BitVec.ofNat 32 (b2n ((wordNow s a).getLsbD k))
    match (fieldsAt a).find? (fun f => holdsBit f k && f.access == .rc) with
    | some f => ((s.setReg f (clearBit (s.reg f) (k - f.lo))).tookFree, v)
    | none => (s.tookFree, v)

/-! ### Check units (R563) -/

/-- A write to a check unit that takes effect only while EN is 1 (R563). -/
def crcGuard (s : State) (f : State) : State := if s.flag CRC.CTRL.EN then f else wign s 7

/-- INIT of unit `u`. -/
def crcStart (s : State) (u : Nat) : State :=
  crcGuard s ((s.setReg (CRC.U.RUNNING u) (0xFFFFFFFF ^^^ s.reg (CRC.U.FOLD u))).setReg (CRC.U.COUNT u) 0)

/-- Bytes fed to unit `u`. -/
def crcFeed (s : State) (u : Nat) (l : List Byte) : State :=
  crcGuard s ((s.setReg (CRC.U.RUNNING u) (crcRun (BitVec.ofNat 32 (s.reg (CRC.U.RUNNING u))) l).toNat).wrapBy (CRC.U.COUNT u) l.length)

/-- The write that unit `u` takes at offset `o` of its registers. -/
def crcWrite (s : State) (u o : Nat) (w : Word) : State :=
  match o with
  | 4 => crcStart s u
  | 8 => crcFeed s u (toLe 4 w.toNat)
  | 12 => crcFeed s u (toLe 1 w.toNat)
  | _ => s

/-! ### Writes (R555, R559) -/

/-- The host writes SCAN.MODE: a step that Jorosh wrote and that has not been sampled is void (R223). -/
def hostMode (s : State) : State :=
  if s.eng.stepMode.isSome then { s with eng := { s.eng with stepMode := none, late := [] } } else s

/-- A plain write of field `f`. BOARD's wake address also reaches the always-on domain (R409). -/
def plainWrite (s : State) (f : Field) (v : Nat) : State :=
  let s1 := s.setReg f v
  if f = SCAN.MODE.MODE then hostMode s1
  else if f = IOMUX.BOARD.WAKE_ADDR then s1.setAct f v
  else s1

/-- EN of block `n` written with `b`: a change does what the block says (R91, R92, R152, R342, R345, R440, R441, R498). -/
def enWrite (s : State) (n : Nat) (f : Field) (b : Bool) : State :=
  if s.flag f = b then s
  else match n, b with
    | 8, true => ddrcEnable s
    | 9, true => portEnable s 0
    | 9, false => portDisable s 0
    | 10, true => portEnable s 1
    | 10, false => portDisable s 1
    | 12, true => auxEnable s
    | 12, false => auxDisable s
    | 13, true => scanEnable s
    | 13, false => scanDisable s
    | 14, false => galDisable s
    | _, _ => s.setFlag f b

/-- One field of block `n` written with `v`; `on` is the block's EN at the start of the write (R451, R456, R460, R554, R555). -/
def fieldWrite (s : State) (n : Nat) (on : Bool) (f : Field) (v : Nat) : State :=
  if f.addr = 0x10008 then gateBit (v != 0) s f.lo
  else if f.addr = 0x10010 then
    (match divFields.find? (fun x => x.1 == f) with
     | some x => divWrite (BitVec.ofNat 32 (inWord f v)) s x
     | none => s)
  else if f.addr = 0x10014 ∧ (s.flag (TX.CTRL.EN 0) ∨ s.flag (TX.CTRL.EN 1)) then clkIgnored s
  else if f = GAL.LUT_DATA.ENTRY then (lutPut s (s.reg GAL.LUT_ADDR.TABLE) (s.reg GAL.LUT_ADDR.INDEX) v).1.wrapBy GAL.LUT_ADDR.INDEX 1
  else match f.access with
    | .rw | .shadowed | .staged => plainWrite s f v
    | .rwd => if on then wign s n else plainWrite s f v
    | _ => s

/-- What the WO fields of the register at `a` do with the word `w` (R554, R559). -/
def commandWrite (s : State) (a : Nat) (w : Word) : State :=
  let b (k : Nat) : Bool := w.getLsbD k
  if a = FLT.ACK.CLASS.addr then fltAck s w.toNat
  else if a = MBX.DOORBELL.RING.addr then doorbell s w.toNat
  else if a = MBX.ACK.ACK.addr then mbxAck s w.toNat
  else if a = MBX.EVT_POP.POP.addr then (if b 0 ∧ s.evt.queue ≠ [] then dropEvents s 1 else s)
  else if a = SCAN.CTRL.COMMIT.addr then (if b 1 then requestCommit s else s)
  else if a = SHD.CTRL.BATCH_COMMIT.addr then (if b 1 then batchCommit s else s)
  else if a = GAL.FENCE_INC.INDEX.addr then fenceAdd s (fromWord GAL.FENCE_INC.INDEX w) (fromWord GAL.FENCE_INC.AMOUNT w)
  else if a = IOMUX.CTRL.APPLY.addr then (if b 0 then iomuxApply s else s)
  else if a = (TX.CTRL.RETRAIN 0).addr ∨ a = (TX.CTRL.RETRAIN 1).addr then
    let p := if a = (TX.CTRL.RETRAIN 0).addr then 0 else 1
    let s1 := if b 4 then portDown s p else s
    if b 5 ∧ s1.reg (TX.STATUS.STATE p) = 5 then startTraining s1 p else s1
  else if 0x70100 ≤ a ∧ a < 0x70180 then crcWrite s ((a - 0x70100) / 0x20) ((a - 0x70100) % 0x20) w
  else s

/-- A direct write of the word at `a`: RWD fields are judged by EN as it was, EN itself changes last, then the WO fields act (R555). -/
def wordWrite (s : State) (a : Nat) (w : Word) : State :=
  match mbxArea a with
  | some (n, rsp, o) => areaWrite s n rsp o w
  | none =>
    let n := a / 0x10000
    let en := blockEn n
    let on := en.any s.flag
    let s1 := ((fieldsAt a).filter (fun f => some f != en)).foldl (fun t f => fieldWrite t n on f (fromWord f w)) s
    let s2 := match en with
      | some f => if f.addr = a then enWrite s1 n f (w.getLsbD f.lo) else s1
      | none => s1
    commandWrite s2 a w

/-- A field's value with bit `k` of its word replaced. -/
def withBit (s : State) (f : Field) (k : Nat) (b : Bool) : Nat :=
  clearBit (s.reg f % 2 ^ f.width) (k - f.lo) + if b then 2 ^ (k - f.lo) else 0

/-- An alias write of `b` to bit `k` at `a` (R559). -/
def bitWrite (s : State) (a k : Nat) (b : Bool) : State :=
  if a % 4 ≠ 0 then s
  else match mbxArea a with
    | some (n, rsp, o) =>
      let w := leAt (s.mb n).req o 4
      areaWrite s n rsp o (BitVec.ofNat 32 (clearBit w k + if b then 2 ^ k else 0))
    | none =>
      let n := a / 0x10000
      match (fieldsAt a).find? (fun f => holdsBit f k) with
      | none => s
      | some f =>
        if f.access = .wo then commandWrite s a (BitVec.ofNat 32 (if b then 2 ^ k else 0))
        else if blockEn n = some f then enWrite s n f b
        else if f = GAL.LUT_DATA.ENTRY then
          let e := lutEntry s (s.reg GAL.LUT_ADDR.TABLE) (s.reg GAL.LUT_ADDR.INDEX)
          fieldWrite s n false f (clearBit e k + if b then 2 ^ k else 0)
        else fieldWrite s n ((blockEn n).any s.flag) f (withBit s f k b)

/-! ### Accesses of a bus master (R460, R552, R553, R558) -/

/-- The register address behind an address, direct or alias. -/
def underlying (x : Nat) : Nat :=
  match aliasOf x with
  | some (a, _) => a
  | none => x

/-- The address names a word of a mapped block or one of its bits (R551, R558). -/
def mapped? (x : Nat) : Bool := x % 4 == 0 && addrMapped (underlying x)

/-- The block behind the address is gated (R460). -/
def gatedAt (s : State) (x : Nat) : Bool := !s.flag (CLK.GATE.EN (underlying x / 0x10000))

/-- The interconnect runs: no domain held, and not asleep or waking. -/
def busUp (s : State) : Bool := !domainsHeld s && (s.power == 0 || s.power == 1 || s.power == 4)

/-- One read access; none for a bus error (R460, R552). -/
def busRead (s : State) (x : Nat) : State × Option Word :=
  if busUp s = false ∨ mapped? x = false ∨ gatedAt s x then (s, none)
  else
    let r := match aliasOf x with
      | some (a, k) => bitRead s a k
      | none => wordRead s x
    (r.1, some r.2)

/-- One write access; none for a bus error. -/
def busWrite? (s : State) (x : Nat) (w : Word) : Option State :=
  if busUp s = false ∨ mapped? x = false ∨ gatedAt s x then none
  else some (match aliasOf x with
    | some (a, k) => bitWrite s a k (w.getLsbD 0)
    | none => wordWrite s x w)

/-- One write access; a bus error changes nothing. -/
def busWrite (s : State) (x : Nat) (w : Word) : State := (busWrite? s x w).getD s

/-- A read whose result the master takes. -/
def readAccess (s : State) (x : Nat) : State :=
  let r := busRead s x
  { r.1 with io := { r.1.io with bus := r.2 } }

/-- RC_FIELD_READ: a direct read (R554). -/
def execRcFieldRead (addr : Word) (s : State) : Out := .next (readAccess s addr.toNat)

/-- REGISTER_WRITE: a direct write (R555). -/
def execRegisterWrite (addr w : Word) (s : State) : Out := .next (busWrite s addr.toNat w)

/-- ALIAS_READ (R559). -/
def execAliasRead (addr : Word) (s : State) : Out :=
  .next (if (aliasOf addr.toNat).isSome then readAccess s addr.toNat else s)

/-- ALIAS_WRITE (R559). -/
def execAliasWrite (addr w : Word) (s : State) : Out :=
  .next (if (aliasOf addr.toNat).isSome then busWrite s addr.toNat w else s)

/-- CRC_INIT (R563). -/
def execCrcInit (u : Nat) (w : Word) (s : State) : Out := .next (if u < 4 then busWrite s (CRC.U.INIT u).addr w else s)

/-- CRC_DATA (R563). -/
def execCrcData (u : Nat) (w : Word) (s : State) : Out := .next (if u < 4 then busWrite s (CRC.U.DATA u).addr w else s)

/-- CRC_DATA8 (R563). -/
def execCrcData8 (u : Nat) (w : Word) (s : State) : Out := .next (if u < 4 then busWrite s (CRC.U.DATA8 u).addr w else s)

/-! ### Bursts -/

/-- Words from address `x` on, up to the first bus error (R388, R560). -/
def readBurst (s : State) (x : Nat) : Nat → State × List Word
  | 0 => (s, [])
  | n + 1 =>
    match busRead s x with
    | (t, some w) =>
      let r := readBurst t (x + 4) n
      (r.1, w :: r.2)
    | (_, none) => (s, [])

/-- Words written from address `x` on, up to the first bus error; the second result is how many. -/
def writeBurst (s : State) (x : Nat) : List Word → State × Nat
  | [] => (s, 0)
  | w :: t =>
    match busWrite? s x w with
    | some s1 =>
      let r := writeBurst s1 (x + 4) t
      (r.1, r.2 + 1)
    | none => (s, 0)

/-- A burst of `n` words starts aligned and mapped and stays inside one block (R387, R560). -/
def burstOk (x n : Nat) : Bool :=
  mapped? x && mapped? (x + 4 * (n - 1)) && underlying x / 0x10000 == underlying (x + 4 * (n - 1)) / 0x10000
    && (aliasOf x).isSome == (aliasOf (x + 4 * (n - 1))).isSome

/-! ### SPI (R385 to R389) -/

/-- The slave answers: in RUN and LANDING, from the PLL's first lock on (R389, R577 step 7). -/
def spiUp (s : State) : Bool := busUp s && s.clk.everLocked

/-- The bytes of an SPI header (R386). -/
def spiHeader (op len : Nat) (addr : Word) : List Byte := toLe 1 op ++ toLe 1 len ++ [0, 0] ++ toLe 4 addr.toNat

/-- STATUS of the header's checks: 0 when they pass (R387). -/
def spiCheck (op len : Nat) (addr hcrc : Word) : Nat :=
  if hcrc ≠ crc32c 0 (spiHeader op len addr) then 1
  else if len = 0 ∨ 64 < len then 5
  else if burstOk addr.toNat len = false then 4
  else 0

/-- Response bytes (R386). -/
def spiResponse (status done : Nat) : List Byte := toLe 1 status ++ toLe 1 done ++ [0, 0]

/-- Response, read data and DCRC of a read of `len` words that brought `ws`; words not read are 0 (R386, R387). -/
def spiReadBytes (status len : Nat) (addr : Word) (ws : List Word) : List Byte :=
  let data := padTo (4 * len) (ws.flatMap (fun w => toLe 4 w.toNat))
  spiResponse status ws.length ++ data ++ toLe 4 (crc32c addr data).toNat

/-- What MISO returned in the last frame. -/
def spiSend (s : State) (l : List Byte) : State := { s with io := { s.io with miso := l } }

/-- An unpowered slave leaves MISO to its pull-up (R389). -/
def spiSilent (s : State) (n : Nat) : State := spiSend s (List.replicate n 0xFF)

/-- SPI_READ (R386 to R388). -/
def spiRead (s : State) (addr : Word) (len : Nat) (hcrc : Word) : State :=
  let c := spiCheck 1 len addr hcrc
  if c ≠ 0 then
    let l := spiReadBytes c len addr []
    let s1 := spiSend s l
    if c = 1 then s1 else { s1 with io := { s1.io with reread := some l } }
  else
    let r := readBurst s addr.toNat len
    let l := spiReadBytes (if r.2.length = len then 0 else 3) len addr r.2
    { r.1 with io := { r.1.io with miso := l, reread := some l } }
def execSpiRead (addr : Word) (len : Nat) (hcrc : Word) (s : State) : Out :=
  .next (if spiUp s then spiRead s addr len hcrc else spiSilent s (8 + 4 * len))

/-- SPI_WRITE (R386 to R388). -/
def spiWrite (s : State) (addr : Word) (len : Nat) (hcrc : Word) (data : List Word) (dcrc : Word) : State :=
  let c := spiCheck 2 len addr hcrc
  if c ≠ 0 then spiSend s (spiResponse c 0)
  else if data.length ≠ len ∨ dcrc ≠ crc32c addr (data.flatMap (fun w => toLe 4 w.toNat)) then spiSend s (spiResponse 2 0)
  else
    let r := writeBurst s addr.toNat data
    spiSend r.1 (spiResponse (if r.2 = len then 0 else 3) r.2)
def execSpiWrite (addr : Word) (len : Nat) (hcrc : Word) (data : List Word) (dcrc : Word) (s : State) : Out :=
  .next (if spiUp s then spiWrite s addr len hcrc data dcrc else spiSilent s 4)

/-- SPI_REREAD: the response and data of the last READ again (R386, R387). -/
def spiReread (s : State) (len : Nat) (addr hcrc : Word) : State :=
  if hcrc ≠ crc32c 0 (spiHeader 3 len addr) then spiSend s (spiResponse 1 0)
  else spiSend s (s.io.reread.getD (spiResponse 7 0))
def execSpiReread (len : Nat) (addr hcrc : Word) (s : State) : Out :=
  .next (if spiUp s then spiReread s len addr hcrc else spiSilent s (8 + 4 * len))

/-- SPI_FRAME_ABORT: a write writes nothing; a read keeps the clears of the words fetched and is not stored (R388). -/
def execSpiFrameAbort (addr : Word) (len : Nat) (hcrc : Word) (isRead : Bool) (fetched : Nat) (s : State) : Out :=
  .next (if spiUp s ∧ isRead ∧ spiCheck 1 len addr hcrc = 0 then (readBurst s addr.toNat (min fetched len)).1 else s)

end Sys2Proof.Machine
end

