-- ==== Sys2Proof/Machine/MailSystem.lean ====
section
/-! DEFINITION. MailSystem.lean: the mailbox commands of groups 0x01xx to 0x04xx: system, sessions, scan and mode, layers and fences,
objects (12_mailbox_command_set.md R419, R423, R424). -/

namespace Sys2Proof.Machine

/-! ### System (R423, R424) -/

/-- The identity record (R424). -/
def identityRecord (s : State) : List Byte :=
  let slot := match slotInForce s with
    | some (n, _) => n
    | none => 0xFF
  toLe 2 0x1024 ++ toLe 1 Config.variant ++ toLe 1 1 ++ toLe 2 Config.siRev.toNat ++ toLe 2 Config.romVersion
  ++ toLe 8 Config.serial.toNat ++ toLe 4 s.boot.fwVer ++ toLe 1 (s.reg SYS.BOOT.SLOT) ++ toLe 1 slot
  ++ toLe 1 (bitsOf 3 (fun n => (otpKey s n).isSome)) ++ toLe 1 (1 + s.reg DDRC.ORG.RANKS)
  ++ toLe 2 (s.dramSize / 2 ^ 30) ++ List.replicate 6 0

/-- IDENTIFY (R424). -/
def execIdentify (mb : Nat) (s : State) : Out :=
  .next (command s mb 0x0101 (fun t p => needLen t mb (p.length == 0) (respond t mb 0 (identityRecord t))))

/-- SET_LT: lamp time loads, is synchronized, and a TIME_ROOT device becomes a source (R21, R362, R423). -/
def setLt (mb : Nat) (s : State) (p : List Byte) : State :=
  needLen s mb (p.length == 8)
    (respond { s with lt := BitVec.ofNat 64 (leAt p 0 8), synced := true, net := { s.net with rootSet := true, frac := 0, slew := 0 } }
      mb 0 (toLe 8 s.now))
def execSetLt (mb : Nat) (s : State) : Out := .next (command s mb 0x0105 (setLt mb))

/-- A register burst of a command: aligned, mapped, inside one block, and not in the MBX block (R423). -/
def cmdBurstOk (x n : Nat) : Bool := burstOk x n && underlying x / 0x10000 != 5

/-- REG_READ: words in ascending order with their RC clears, up to a gated block (R388, R423). -/
def regRead (mb : Nat) (s : State) (p : List Byte) : State :=
  let x := leAt p 0 4
  let n := leAt p 4 1
  needLen s mb (p.length == 8)
    (if n = 0 ∨ 60 < n ∨ cmdBurstOk x n = false then respond s mb 4 []
     else
       let r := readBurst s x n
       if r.2.length = n then respond r.1 mb 0 (r.2.flatMap (fun w => toLe 4 w.toNat)) else respond r.1 mb 0x0E [])
def execRegRead (mb : Nat) (s : State) : Out := .next (command s mb 0x0106 (regRead mb))

/-- REG_WRITE: words in ascending order, up to a gated block (R388, R423). -/
def regWrite (mb : Nat) (s : State) (p : List Byte) : State :=
  let x := leAt p 0 4
  let n := leAt p 4 1
  needLen s mb (p.length == 8 + 4 * n)
    (if n = 0 ∨ 57 < n ∨ cmdBurstOk x n = false then respond s mb 4 []
     else
       let r := writeBurst s x ((List.range n).map (fun i => BitVec.ofNat 32 (leAt p (8 + 4 * i) 4)))
       respond r.1 mb (if r.2 = n then 0 else 0x0E) [])
def execRegWrite (mb : Nat) (s : State) : Out := .next (command s mb 0x0107 (regWrite mb))

/-- ECHO (R423). -/
def execEcho (mb : Nat) (s : State) : Out := .next (command s mb 0x0108 (fun t p => respond t mb 0 p))

/-! ### Sessions (R419, R420) -/

/-- The last counted SESSION_OPEN of the opener of mailbox `m`: by path, and on the Tatex link by SRC (R419). -/
def sameOpener (m : Mb) (o : Nat × Nat × Nat) : Bool := o.1 == m.path && (m.path != 1 || o.2.1 == m.src)

/-- Less than 100 ms have passed since the opener's last counted SESSION_OPEN (R419). -/
def openTooSoon (s : State) (m : Mb) : Bool :=
  s.mbx.opens.any (fun o => sameOpener m o && decide ((m.rungAt + 2 ^ 64 - o.2.2) % 2 ^ 64 < 40000000))

/-- A session number that no session has, from the next one on. -/
def freshSession (s : State) : Nat :=
  (((List.range 5).map (fun i => (s.mbx.nextSession + i) % 65536)).find? (fun n => !s.mbx.sessions.any (fun x => x.num == n))).getD 0

/-- A half-open session with the host nonce `hn` and the next device nonce (R419). -/
def addSession (s : State) (m : Mb) (key : Nat) (hn : List Byte) : State × Session :=
  let x : Session := { num := freshSession s, key := key, path := m.path, src := m.src, hn := hn,
                       dn := toLe 8 (Config.nonce s.free).toNat, ks := none, ctr := none, fails := 0 }
  ({ s with mbx := { s.mbx with sessions := s.mbx.sessions ++ [x], nextSession := (x.num + 1) % 65536 } }.tookFree, x)

/-- SESSION_OPEN: first the rate, then the length, the key and the room for a session (R419). -/
def sessionOpen (mb : Nat) (s : State) (p : List Byte) : State :=
  let m := s.mb mb
  let key := leAt p 0 1
  if openTooSoon s m then respond s mb 7 []
  else
    let s1 := { s with mbx := { s.mbx with
      opens := (m.path, m.src, m.rungAt) :: s.mbx.opens.filter (fun o => !sameOpener m o) } }
    needLen s1 mb (p.length == 12)
      (if 1 < key then respond s1 mb 4 []
       else if (keyOf s1 key).isNone then respond s1 mb 7 []
       else if 4 ≤ s1.mbx.sessions.length then respond s1 mb 8 []
       else
         let r := addSession s1 m key (bytesAt p 4 8)
         respond r.1 mb 0 (toLe 2 r.2.num ++ [0, 0] ++ r.2.dn))
def execSessionOpen (mb : Nat) (s : State) : Out := .next (command s mb 0x0102 (sessionOpen mb))

/-- The session that a request of mailbox `m` names, bound to its path (R419). -/
def ownSession (s : State) (m : Mb) (num : Nat) : Option Session :=
  s.mbx.sessions.find? (fun x => x.num == num && x.boundTo m.path m.src)

/-- SESSION_AUTH: a good proof makes the session key; a wrong one closes the half-open session (R419). -/
def sessionAuth (mb : Nat) (s : State) (p : List Byte) : State :=
  needLen s mb (p.length == 12)
    (match ownSession s (s.mb mb) (leAt p 0 2) with
     | none => respond s mb 0x0F []
     | some x =>
       let k := (keyOf s x.key).getD []
       if x.ks.isSome then respond s mb 7 []
       else if (keyOf s x.key).isNone ∨ (cmac k ([1] ++ x.dn ++ x.hn)).take 8 ≠ bytesAt p 4 8 then
         respond (closeSession s x.num) mb 6 []
       else
         respond { s with mbx := { s.mbx with sessions := s.mbx.sessions.map (fun y =>
             if y.num = x.num then { y with ks := some (cmac k ([3] ++ x.dn ++ x.hn)) } else y) } } mb 0
           ((cmac k ([2] ++ x.hn ++ x.dn)).take 8))
def execSessionAuth (mb : Nat) (s : State) : Out := .next (command s mb 0x0103 (sessionAuth mb))

/-- SESSION_CLOSE (R420). -/
def sessionClose (mb : Nat) (s : State) (p : List Byte) : State :=
  needLen s mb (p.length == 2)
    (match ownSession s (s.mb mb) (leAt p 0 2) with
     | none => respond s mb 0x0F []
     | some x => respond (closeSession s x.num) mb 0 [])
def execSessionClose (mb : Nat) (s : State) : Out := .next (command s mb 0x0104 (sessionClose mb))

/-! ### Scan and mode (R98, R223, R423) -/

/-- Jorosh's access to block `n` fails with BUS_ERROR while the block is gated (R421, R460). -/
def needBlock (s : State) (mb n : Nat) (f : State) : State := if s.flag (CLK.GATE.EN n) then f else respond s mb 0x0E []

/-- The response that names the commit's frame start (R98). -/
def targetFrame (s : State) : List Byte := toLe 2 (s.reg SCAN.COMMIT_STATUS.TARGET_FRAME)

/-- SET_MODE: MODE is written as by the host, and committed when COMMIT is 1 (R223, R423). -/
def setMode (mb : Nat) (s : State) (p : List Byte) : State :=
  let m := leAt p 0 1
  let c := leAt p 1 1
  needLen s mb (p.length == 4)
    (if 7 < m ∨ 1 < c then respond s mb 4 []
     else needBlock s mb 13
       (let s1 := hostMode (s.setReg SCAN.MODE.MODE m)
        let s2 := if c = 1 then requestCommit s1 else s1
        respond s2 mb 0 (targetFrame s2)))
def execSetMode (mb : Nat) (s : State) : Out := .next (command s mb 0x0201 (setMode mb))

/-- COMMIT (R98, R423). -/
def commitCmd (mb : Nat) (s : State) (p : List Byte) : State :=
  needLen s mb (p.length == 0) (needBlock s mb 13 (respond (requestCommit s) mb 0 (targetFrame (requestCommit s))))
def execCommit (mb : Nat) (s : State) : Out := .next (command s mb 0x0202 (commitCmd mb))

/-- The data of FRAME_STATS (R423). -/
def statsData (s : State) : List Byte :=
  let t := s.stats
  [s.reg SCAN.FRAME_NUM.FRAME_NUM, t.latched, t.rendered, t.skipped, t.underruns, t.aborts, t.blocked, t.swapped].flatMap (toLe 4)

/-- FRAME_STATS: the counts, then cleared with CLEAR = 1 (R423). -/
def frameStats (mb : Nat) (s : State) (p : List Byte) : State :=
  needLen s mb (p.length == 1)
    (let s1 := if leAt p 0 1 = 1 then { s with stats := { Stats.reset with swapOpen := s.stats.swapOpen } } else s
     respond s1 mb 0 (statsData s))
def execFrameStats (mb : Nat) (s : State) : Out := .next (command s mb 0x0203 (frameStats mb))

/-! ### Layers and fences (R138 to R140, R350, R423, R508) -/

/-- The `n` bytes from `a` touch Jorosh's region, the top 64 MB of the populated DRAM (R508). -/
def touchesTop (s : State) (a n : Nat) : Bool := rangesMeet a n (s.dramSize - 2 ^ 26) (2 ^ 26)

/-- Bytes of a buffer of slot `n` by the written copies of its description (R129, R423). -/
def flipSpan (s : State) (n : Nat) : Nat :=
  let w := if n = 0 then s.side else s.reg (GAL.L.SIZE.W n)
  let h := if n = 0 then s.side else s.reg (GAL.L.SIZE.H n)
  (h - 1) * (64 * s.reg (GAL.L.STRIDE.STRIDE n)) + rowBytes (s.reg (GAL.L.CTRL.FORMAT n)) w

/-- A flip of slot `n` armed in one action (R139, R423). -/
def armFlip (s : State) (n flags fence retire next crc val : Nat) : State :=
  let s1 := (s.setReg (GAL.L.NEXT_LO.NEXT n) (next / 64)).setReg (GAL.L.NEXT_HI.NEXT n) (next / 2 ^ 32)
  let s2 := (s1.setReg (GAL.L.NEXT_CRC.NEXT_CRC n) crc).setReg (GAL.L.FENCE_VAL.FENCE_VAL n) val
  let s3 := (s2.setFlag (GAL.L.FLIP.FENCE_EN n) (bit flags 0)).setReg (GAL.L.FLIP.FENCE_SEL n) fence
  ((s3.setFlag (GAL.L.FLIP.RETIRE_EN n) (bit flags 1)).setReg (GAL.L.FLIP.RETIRE_SEL n) retire).setFlag (GAL.L.FLIP.ARM n) true

/-- LAYER_FLIP (R423, R508). -/
def layerFlip (mb : Nat) (s : State) (p : List Byte) : State :=
  let n := leAt p 0 1
  let fence := leAt p 2 1
  let retire := leAt p 3 1
  let next := leAt p 4 8
  needLen s mb (p.length == 20)
    (if 6 < n ∨ 63 < fence ∨ 63 < retire ∨ next % 64 ≠ 0 ∨ 2 ^ 34 ≤ next ∨ touchesTop s next (flipSpan s n) then respond s mb 4 []
     else needBlock s mb 14 (respond (armFlip s n (leAt p 1 1) fence retire next (leAt p 12 4) (leAt p 16 4)) mb 0 []))
def execLayerFlip (mb : Nat) (s : State) : Out := .next (command s mb 0x0301 (layerFlip mb))

/-- FENCE_WAIT as it stands: judged, and complete when its fence is reached; with `expired`, complete in any case (R138, R423). -/
def fenceWait (mb : Nat) (expired : Bool) (s : State) (p : List Byte) : State :=
  let k := leAt p 0 1
  let t := leAt p 2 2
  needLen s mb (p.length == 8)
    (if 63 < k ∨ t = 0 ∨ 1000 < t then respond s mb 4 []
     else if fenceReached s k (leAt p 4 4) then respond s mb 0 (toLe 4 (s.reg (GAL.FENCE.FENCE k)))
     else if expired then respond s mb 0x0C []
     else s)
def execFenceWait (mb : Nat) (s : State) : Out := .next (command s mb 0x0302 (fenceWait mb false))

/-- FENCE_WAIT_TIMEOUT (R423). -/
def execFenceWaitTimeout (mb : Nat) (s : State) : Out := .next (command s mb 0x0302 (fenceWait mb true))

/-- Entries written one by one from index `i` of table `t`; the second result says that one was ignored (R134). -/
def lutPutAll (t : Nat) : State → Nat → List Nat → State × Bool
  | s, _, [] => (s, false)
  | s, i, v :: l =>
    let a := lutPut s t i v
    let b := lutPutAll t a.1 (i + 1) l
    (b.1, a.2 || b.2)

/-- LUT_LOAD (R134, R423). -/
def lutLoad (mb : Nat) (s : State) (p : List Byte) : State :=
  let t := leAt p 0 1
  let n := leAt p 4 2
  needLen s mb (p.length == 8 + 2 * n)
    (if 15 < t ∨ n = 0 ∨ 120 < n then respond s mb 4 []
     else needBlock s mb 14
       (let r := lutPutAll t s (leAt p 2 2) (wordsAt p 8 n)
        respond r.1 mb (if r.2 then 7 else 0) []))
def execLutLoad (mb : Nat) (s : State) : Out := .next (command s mb 0x0303 (lutLoad mb))

/-- VIDEO_WINDOW: window WIN is opened for SRC, or closed by SIZE 0 (R350, R423, R508). -/
def videoWindow (mb : Nat) (s : State) (p : List Byte) : State :=
  let w := leAt p 0 1
  let src := leAt p 2 2
  let base := leAt p 4 8
  let size := leAt p 12 4
  needLen s mb (p.length == 16)
    (if 3 < w ∨ 1023 < src ∨ (size ≠ 0 ∧ touchesTop s base size = true) then respond s mb 4 []
     else respond { s with net := { s.net with
       windows := s.net.windows.set w (if size = 0 then (0, 0, 0) else (src, base, size)) } } mb 0 [])
def execVideoWindow (mb : Nat) (s : State) : Out := .next (command s mb 0x0304 (videoWindow mb))

/-! ### Objects (R165 to R168, R254, R423) -/

/-- OBJ_WRITE: records, then the commit; one reason for each record (R168, R423). -/
def objWrite (mb : Nat) (s : State) (p : List Byte) : State :=
  let f := leAt p 0 1
  let n := leAt p 1 1
  needLen s mb (p.length == 4 + 64 * n)
    (let r := applyRecords (bit f 0) s 0 ((List.range n).map (fun i => bytesAt p (4 + 64 * i) 64))
     let s1 := if bit f 1 then batchCommit r.1 else r.1
     let reason (i : Nat) : Nat := ((r.2.find? (fun x => x.1 == i)).map (fun x => x.2)).getD 0
     respond s1 mb (if r.2 = [] then 0 else 0x10)
       (toLe 1 (n - r.2.length) ++ [0] ++ (List.range n).flatMap (fun i => toLe 1 (reason i))))
def execObjWrite (mb : Nat) (s : State) : Out := .next (command s mb 0x0401 (objWrite mb))

/-- The active record that OBJ_READ names, with its slot (R423). -/
def namedContext (s : State) (by_ key : Nat) : Option (Nat × Ctx) :=
  (activeCtxs s).find? (fun x => if by_ = 0 then x.1 == key else x.2.id == key)

/-- OBJ_READ (R423). -/
def objRead (mb : Nat) (s : State) (p : List Byte) : State :=
  let by_ := leAt p 0 1
  let key := leAt p 2 2
  needLen s mb (p.length == 4)
    (if 1 < by_ ∨ (by_ = 0 ∧ 255 < key) then respond s mb 4 []
     else match namedContext s by_ key with
       | none => respond s mb 0x0F []
       | some (n, c) => respond s mb 0 (toLe 1 n ++ [0, 0, 0] ++ c.raw))
def execObjRead (mb : Nat) (s : State) : Out := .next (command s mb 0x0402 (objRead mb))

/-- A context's record with VALID = 0. -/
def deletion (c : Ctx) : Ctx := { c with raw := putAt c.raw 3 (toLe 1 (clearBit (leAt c.raw 3 1) 0)) }

/-- The deletion of the active context in slot `n` staged, with the counts of deletions and deferrals (R254). -/
def clearContext (a : State × Nat × Nat) (x : Nat × Ctx) : State × Nat × Nat :=
  let r := stageIn a.1 x.1 (deletion x.2) false
  if r.2 ≠ 0 then (r.1, a.2)
  else if x.2.glare a.1 = true ∧ a.1.reg SAFE.STATUS.PATH_STATE ≠ 2 then (r.1, a.2.1, a.2.2 + 1)
  else (r.1, a.2.1 + 1, a.2.2)

/-- OBJ_CLEAR (R254, R423). -/
def objClear (mb : Nat) (s : State) (p : List Byte) : State :=
  needLen s mb (p.length == 0)
    (let r := (activeCtxs s).foldl clearContext (s, 0, 0)
     respond r.1 mb 0 (toLe 2 r.2.1 ++ toLe 2 r.2.2))
def execObjClear (mb : Nat) (s : State) : Out := .next (command s mb 0x0403 (objClear mb))

end Sys2Proof.Machine
end

