-- ==== Sys2Proof/Machine/MailCommands.lean ====
section
/-! DEFINITION. MailCommands.lean: the mailbox commands of groups 0x05xx to 0x0Dxx that no other file holds: kernels and symbols,
safety and seal, diagnostics, calibration, power, ring, logs and non-volatile memory (12_mailbox_command_set.md R423, R425). -/

namespace Sys2Proof.Machine

/-! ### Access to DRAM -/

/-- A command that works on DRAM gets STATE while no DRAM is ready; otherwise its access wakes the DRAM (R500, R506). -/
def needDram (s : State) (mb : Nat) (f : State → State) : State :=
  if s.flag DDRC.STATUS.READY then f (dramExit s) else respond s mb 7 []

/-- A command that reads `n` bytes of DRAM from `a`: beyond the populated DRAM the read is refused with RANGE_ERR (R496). -/
def withDram (s : State) (mb a n : Nat) (f : State → List Byte → State) : State :=
  needDram s mb (fun t =>
    if t.dramSize < a + n then respond (t.setFlag DDRC.STATUS.RANGE_ERR true) mb 4 [] else f t (t.dramBytes a n))

/-! ### Render sets (R200 to R210, R425) -/

/-- Bytes that a parameter block of its kernel needs (R207 to R210). -/
def blkNeeds (b : List Byte) : Nat :=
  match blkKernel b with
  | 1 => 0x28
  | 2 => 0x54
  | 3 => 0x28 + 16 * leAt b 0x26 1
  | 4 => 0x3C
  | _ => 0x20

/-- The header of a parameter block is in range (R200, R206). -/
def blkHeaderOk (b : List Byte) : Bool :=
  decide (1 ≤ blkKernel b ∧ blkKernel b ≤ 4) && (decide (blkSlot b ≤ 6) || blkSlot b == 0xFF)
  && (decide (blkFormat b ≤ 2) || (blkKernel b == 3 && (blkFormat b == 3 || blkFormat b == 5)))
  && blkStride b % 64 == 0

/-- The kernel's own parameters are in range (R207 to R210). -/
def blkParamsOk (b : List Byte) : Bool :=
  match blkKernel b with
  | 1 => decide (leAt b 0x20 1 ≤ 4)
  | 2 => decide (leAt b 0x2C 1 ≤ 2 ∧ leAt b 0x2D 1 ≤ 2) && leAt b 0x24 4 % 64 == 0
  | 3 => decide (1 ≤ leAt b 0x26 1 ∧ leAt b 0x26 1 ≤ 11)
      && (List.range (leAt b 0x26 1)).all (fun k => decide (100 ≤ leAt b (instanceAt k + 2) 2))
  | _ => (leAt b 0x2C 1 == 0 || leAt b 0x2C 1 == 2) && decide (leAt b 0x2D 1 ≤ 1) && leAt b 0x24 4 % 64 == 0

/-- An output of the block touches Jorosh's region (R508). -/
def blkTouchesTop (s : State) (b : List Byte) : Bool :=
  touchesTop s (blkOut b 0) (blkSpan b) || (blkFlag b 3 && touchesTop s (blkOut b 1) (blkSpan b))

/-- The index of the entry of the pending set that a block for the same SLOT replaces (R202). -/
def replacedEntry (s : State) (b : List Byte) : Option Nat :=
  if blkSlot b = 0xFF then none else s.eng.building.findIdx? (fun x => blkSlot x == blkSlot b)

/-- The block names a pattern table whose new generation is unfinished (R205). -/
def namesStale (s : State) (b : List Byte) : Bool := blkKernel b == 1 && s.eng.patOpen.contains (leAt b 0x20 1)

/-- RSET_ENTRY (R202, R206, R425, R508). -/
def rsetEntry (mb : Nat) (s : State) (b : List Byte) : State :=
  let put (l : List (List Byte)) : State := { s with eng := { s.eng with building := l } }
  let flags := b2n (namesStale s b)
  needLen s mb (decide (32 ≤ b.length ∧ b.length ≤ 224 ∧ blkNeeds b ≤ b.length))
    (if (blkHeaderOk b && blkParamsOk b) = false ∨ blkTouchesTop s b = true then respond s mb 4 []
     else match replacedEntry s b with
       | some i => respondWith flags (put (s.eng.building.set i b)) mb 0 (toLe 1 i)
       | none =>
         if 16 ≤ s.eng.building.length then respond s mb 8 []
         else respondWith flags (put (s.eng.building ++ [b])) mb 0 (toLe 1 s.eng.building.length))
def execRsetEntry (mb : Nat) (s : State) : Out := .next (command s mb 0x0501 (rsetEntry mb))

/-- RSET_DELETE (R202, R423). -/
def rsetDelete (mb : Nat) (s : State) (p : List Byte) : State :=
  let n := leAt p 0 1
  let keep := s.eng.building.filter (fun b => !(n == 0xFF || blkSlot b == n))
  needLen s mb (p.length == 1)
    (if 6 < n ∧ n ≠ 0xFF then respond s mb 4 []
     else respond { s with eng := { s.eng with building := keep } } mb 0 (toLe 1 (s.eng.building.length - keep.length)))
def execRsetDelete (mb : Nat) (s : State) : Out := .next (command s mb 0x0502 (rsetDelete mb))

/-- FRAME_NUM that the next frame start will produce (R91, R98). -/
def nextFrameNum (s : State) : Nat := if s.scan.running then (s.reg SCAN.FRAME_NUM.FRAME_NUM + 1) % 2 ^ 32 else 1

/-- RSET_SUBMIT: the pending set becomes the newest scene set, and its REPEAT entries begin the next one; refused while the engines
are off (R202, R224, R425). -/
def rsetSubmit (mb : Nat) (s : State) (p : List Byte) : State :=
  needLen s mb (p.length == 0)
    (if s.flag BE.CTRL.EN then
       respond { s with eng := { s.eng with
         submitted := some s.eng.building, building := s.eng.building.filter (fun b => blkFlag b 1) } } mb 0
         (toLe 4 (nextFrameNum s) ++ toLe 1 s.eng.building.length)
     else respond s mb 7 [])
def execRsetSubmit (mb : Nat) (s : State) : Out := .next (command s mb 0x0503 (rsetSubmit mb))

/-! ### Tables (R205, R207, R215, R425) -/

/-- Bytes from offset `o` of the inactive generation of pattern `n`. -/
def putPattern (m : Sparse Nat) (n o : Nat) : List Byte → Sparse Nat
  | [] => m
  | b :: t => putPattern (sparseSet 0 m (n * 262144 + o) b.toNat) n (o + 1) t

/-- PATTERN_LOAD: LAST makes the generation due (R205, R425). -/
def patternLoad (mb : Nat) (s : State) (p : List Byte) : State :=
  let n := leAt p 0 1
  let o := leAt p 4 4
  let c := leAt p 8 2
  let without (l : List Nat) : List Nat := l.filter (· != n)
  needLen s mb (p.length == 12 + c)
    (if 4 < n ∨ c < 2 ∨ 236 < c ∨ c % 2 = 1 ∨ 132098 < o + c then respond s mb 4 []
     else needDram s mb (fun t =>
       let last := leAt p 1 1 == 1
       respond { t with eng := { t.eng with
           patNext := putPattern t.eng.patNext n o (bytesAt p 12 c)
           patOpen := if last then without t.eng.patOpen else n :: without t.eng.patOpen
           patDue := if last then n :: without t.eng.patDue else without t.eng.patDue } } mb 0
         (toLe 1 ((t.eng.patGen.getD n 0 + 1) % 256))))
def execPatternLoad (mb : Nat) (s : State) : Out := .next (command s mb 0x0504 (patternLoad mb))

/-- The symbol library of the boot flash is accepted (R215). -/
def symlibOk (s : State) (a : Nat) : Bool :=
  let h := s.flashBytes a 32
  let size := leAt h 0xC 4
  let image := (List.range size).map (fun i => if 0x10 ≤ i ∧ i < 0x14 then 0 else s.flashByte (a + i))
  leAt h 0 4 == 0x59534C41 && leAt h 0x10 4 == (crc32c (BitVec.ofNat 32 size) image).toNat

/-- SYMLIB_LOAD: an accepted library is due at the next frame start (R205, R215, R425). -/
def symlibLoad (mb : Nat) (s : State) (p : List Byte) : State :=
  needLen s mb (p.length == 0)
    (needDram s mb (fun t => match directory t with
      | none => respond t mb 0x0D []
      | some d =>
        let a := (dirEntry t d 2).1
        let glyphs := leAt (t.flashBytes (a + 6) 2) 0 2
        let size := leAt (t.flashBytes (a + 0xC) 4) 0 4
        if symlibOk t a then
          respond { t with eng := { t.eng with symDue := some (glyphs, size) } } mb 0
            (toLe 1 ((t.eng.symGen + 1) % 256) ++ [0] ++ toLe 2 glyphs ++ toLe 4 size)
        else respond t mb 0x0D []))
def execSymlibLoad (mb : Nat) (s : State) : Out := .next (command s mb 0x0505 (symlibLoad mb))

/-- The data of LENS_READ after the lens memory gave `lens`; without a valid record the spec states no MODEL and SERIAL (R397,
R425). -/
def lensData (s : State) (lens : Option (List Byte)) : List Byte :=
  let id := if s.flag BE.OPTICS.SOURCE then bytesAt (lens.getD []) 8 24 else (List.range 24).map (Config.lensByte s.free)
  toLe 1 (s.reg BE.OPTICS.SOURCE) ++ toLe 1 (s.reg BE.OPTICS.RESID) ++ toLe 2 (toBits 16 s.eng.lensKt) ++ id

/-- LENS_READ (R212, R398, R425). -/
def lensRead (mb : Nat) (lens : Option (List Byte)) (s : State) (p : List Byte) : State :=
  needLen s mb (p.length == 0) (respond (applyLens s lens).tookFree mb 0 (lensData (applyLens s lens) lens))
def execLensRead (mb : Nat) (lens : Option (List Byte)) (s : State) : Out := .next (command s mb 0x0506 (lensRead mb lens))

/-! ### Safety and seal (R54, R55, R245, R248, R249, R256, R262) -/

/-- The latched causes (R245). -/
def latchedCauses : List Field := [SAFE.FB_CAUSE.BLOCK, SAFE.FB_CAUSE.FATAL, SAFE.FB_CAUSE.CLOCK, SAFE.FB_CAUSE.GUARD]

/-- CLOCK or GUARD is latched and still reports failure (R248). -/
def stillFails (s : State) : Bool := s.clk.lost || s.guard.guardFail

/-- FB_RELEASE (R248, R423). -/
def fbRelease (mb : Nat) (s : State) (p : List Byte) : State :=
  needLen s mb (p.length == 0)
    (if stillFails s then respond s mb 0x0D []
     else
       let s1 := latchedCauses.foldl clearCause s
       respond s1 mb 0 (toLe 4 (fbCauseWord s1)))
def execFbRelease (mb : Nat) (s : State) : Out := .next (command s mb 0x0601 (fbRelease mb))

/-- SAFE_WINDOW (R256). -/
def safeWindow (mb : Nat) (s : State) (p : List Byte) : State :=
  needLen s mb (p.length == 1)
    (let s1 := { s with guard := { s.guard with window := leAt p 0 1 } }
     respond s1 mb 0 (toLe 1 s1.windowMs))
def execSafeWindow (mb : Nat) (s : State) : Out := .next (command s mb 0x0602 (safeWindow mb))

/-- Lit pixels of a plane of 128 bytes per row. -/
def litCount (b : List Byte) : Nat := sumNat (b.map (fun x => popcount8 x.toNat))

/-- Row `r` of a plane of 128 bytes per row: column 0 in bit 0 of byte 0 (R423). -/
def planeBits (b : List Byte) (r : Nat) : List Nat :=
  (List.range 1024).map (fun c => b2n (bit (b.getD (128 * r + c / 8) 0).toNat (c % 8)))

/-- The fallback plane as it reads back (R54). -/
def readBackPlane (b : List Byte) (readBack : List (Nat × List Byte)) : List Byte :=
  (List.range 1024).flatMap (fun r => match readBack.find? (fun x => x.1 == r) with
    | some x => padTo 128 x.2
    | none => bytesAt b (128 * r) 128)

/-- No lit bit above the cutoff of any segment (R249). -/
def belowCutoff (s : State) (b : List Byte) : Bool :=
  (List.range 32).all (fun t => (List.range (min 1024 (s.guard.limits.env.getD t 0))).all (fun r =>
    bytesAt b (128 * r + 4 * t) 4 == [0, 0, 0, 0]))

/-- The plane is written, read back and put into use when it is good (R54, R249). -/
def loadFallback (s : State) (back : List Byte) (check count : Nat) : State :=
  let plane := (List.range 1024).foldr (fun r m => planeSetRow 0 m r (planeBits back r)) []
  let ok := (crc32c 0 back).toNat == check && belowCutoff s back
  ({ s with pix := { s.pix with fb := plane } }.setReg SCAN.FB_COUNT.COUNT count).setFlag SCAN.FB_CTRL.FB_VALID ok

/-- FB_PATTERN (R54, R55, R249, R423). -/
def fbPattern (mb : Nat) (readBack : List (Nat × List Byte)) (s : State) (p : List Byte) : State :=
  needLen s mb (p.length == 12)
    (if s.guard.limits.fbSel = 0 ∨ s.guard.limits.fbSel = 3 then respond s mb 0x0D []
     else withDram s mb (leAt p 0 8) 131072 (fun t b =>
       if 12000000000 < litCount b * t.reg SCAN.IFB_STATUS.IFB_NA then respond t mb 0x0D []
       else
         let t1 := loadFallback t (readBackPlane b readBack) (leAt p 8 4) (litCount b)
         respond t1 mb 0 (toLe 4 (litCount b) ++ toLe 1 (t1.reg SCAN.FB_CTRL.FB_VALID))))
def execFbPattern (mb : Nat) (readBack : List (Nat × List Byte)) (s : State) : Out :=
  .next (command s mb 0x0603 (fbPattern mb readBack))

/-- A slot image is programmed as slot `n`; the keys come with the first seal (R251, R262, R419). -/
def programSlot (s : State) (n : Nat) (b : List Byte) : State :=
  { s with guard := { s.guard with
      otp := s.guard.otp ++ [(n, b)], key := some (s.guard.key.getD Config.safeKey)
      hostKey := some (s.guard.hostKey.getD Config.hostKey) } }.setReg SAFE.SEAL.SLOTS_FREE (15 - n)

/-- A slot whose programming or verification fails is used up; its bytes are open (R262). -/
def tornSlot (s : State) (n : Nat) : State :=
  { s with guard := { s.guard with otp := s.guard.otp ++ [(n, (List.range 1024).map (Config.sealTorn s.free))] } }.tookFree.setReg
    SAFE.SEAL.SLOTS_FREE (15 - n)

/-- RESEAL is refused for this image (R262). -/
def sealRefused (s : State) (b : List Byte) : Bool :=
  decide (16 ≤ s.guard.otp.length) || leAt b 4 2 % 4096 != strapWord s.guard.strapsNow || !sealInRange b
  || (s.flag SCAN.CTRL.EN && s.mode != 7)

/-- RESEAL (R262, R423). The new slot takes effect at the next reset. -/
def reseal (mb : Nat) (verified : Bool) (s : State) (p : List Byte) : State :=
  needLen s mb (p.length == 8)
    (withDram s mb (leAt p 0 8) 1024 (fun t b =>
      let n := t.guard.otp.length
      if sealRefused t b then respond t mb 0x0D []
      else if verified then respond (programSlot t n b) mb 0 (toLe 1 n)
      else respond (tornSlot t n) mb 0x0B []))
def execReseal (mb : Nat) (verified : Bool) (s : State) : Out := .next (command s mb 0x0604 (reseal mb verified))

/-! ### Diagnostics (R278, R288, R289) -/

/-- A run of `n` pixels of a row from column `c`: ROW, COL and COUNT in range (R423). -/
def pixelRunOk (p : List Byte) (most : Nat) : Bool :=
  let n := leAt p 4 1
  decide (leAt p 0 2 ≤ 1023 ∧ 1 ≤ n ∧ n ≤ most ∧ leAt p 2 2 + n ≤ 1024)

/-- One value for each pixel of the run. -/
def pixelRun (p : List Byte) (f : Nat → Nat → List Byte) : List Byte :=
  (List.range (leAt p 4 1)).flatMap (fun i => f (leAt p 2 2 + i) (leAt p 0 2))

/-- Diagnostic age of a pixel in ms, saturating; 0xFFFF for a mapped one (R278, R423). -/
def ageMs (s : State) (c r : Nat) : Nat := if mapped s c r then 0xFFFF else min 0xFFFF (pixelAgeTicks s c r / 400000)

/-- PIXEL_AGE. -/
def pixelAge (mb : Nat) (s : State) (p : List Byte) : State :=
  needLen s mb (p.length == 8)
    (if pixelRunOk p 120 then respond s mb 0 (pixelRun p (fun c r => toLe 2 (ageMs s c r))) else respond s mb 4 [])
def execPixelAge (mb : Nat) (s : State) : Out := .next (command s mb 0x0701 (pixelAge mb))

/-- MAP_READ: TOTAL and the entries that exist from INDEX on (R288, R423). -/
def mapRead (mb : Nat) (s : State) (p : List Byte) : State :=
  let n := leAt p 2 1
  needLen s mb (p.length == 4)
    (if n = 0 ∨ 60 < n then respond s mb 4 []
     else respond s mb 0 (toLe 2 s.diag.map.length ++ [0, 0] ++ ((s.diag.map.drop (leAt p 0 2)).take n).flatMap mapEntryBytes))
def execMapRead (mb : Nat) (s : State) : Out := .next (command s mb 0x0702 (mapRead mb))

/-- Pixel (c, r) leaves the map: its calibrated mask returns, its age is 0 and it is judged again (R289). -/
def unmapPixel (s : State) (c r : Nat) : State :=
  let other (x : Nat × Nat) : Bool := !(x.1 == c && x.2 == r)
  writeTrim { s with diag := { s.diag with
      map := s.diag.map.filter (fun e => other (e.col, e.row)), uncommitted := s.diag.uncommitted.filter (fun e => other (e.col, e.row))
      suspects := s.diag.suspects.filter (fun x => other (x.col, x.row)), stuckDue := s.diag.stuckDue.filter other
      checkedAt := planeSet 0 s.diag.checkedAt c r s.now } } c r (planeGet 0 s.cal.masks c r)

/-- One position of MAP_CLEAR, with the count of those cleared (R289). -/
def clearPosition (a : State × Nat) (x : Nat × Nat) : State × Nat :=
  if mapped a.1 x.1 x.2 then (unmapPixel a.1 x.1 x.2, a.2 + 1) else a

/-- MAP_CLEAR: the entries go and the map is committed (R289, R423). -/
def mapClear (mb : Nat) (s : State) (p : List Byte) : State :=
  let n := leAt p 0 1
  needLen s mb (p.length == 4 + 4 * n)
    (if n = 0 ∨ 32 < n then respond s mb 4 []
     else
       let r := ((List.range n).map (fun i => (leAt p (4 + 4 * i) 2, leAt p (6 + 4 * i) 2))).foldl clearPosition (s, 0)
       respond (if r.2 ≠ 0 ∧ mayCommit r.1 0x11 then commitMap r.1 else r.1) mb 0 (toLe 1 r.2))
def execMapClear (mb : Nat) (s : State) : Out := .next (command s mb 0x0703 (mapClear mb))

/-! ### Calibration (R304, R306, R315, R316, R321) -/

/-- ZONE_RATIO: t_z / M_g in Q12 (R306). -/
def zoneRatio (mb : Nat) (s : State) (p : List Byte) : State :=
  needLen s mb (p.length == 0)
    (respond s mb 0 ((List.range 64).flatMap (fun z =>
      toLe 2 (min 65535 (divFree (4096 * s.cal.target.getD z 0) (s.reg CAL.START_STATS.GLOBAL_MED))))))
def execZoneRatio (mb : Nat) (s : State) : Out := .next (command s mb 0x0801 (zoneRatio mb))

/-- VF_READ: codes of a run of pixels, or the zone means (R315). -/
def vfRead (mb : Nat) (s : State) (p : List Byte) : State :=
  let z := leAt p 5 1
  needLen s mb (p.length == 8)
    (if z = 1 then respond s mb 0 (s.cal.vfZone.flatMap (toLe 1))
     else if z = 0 ∧ pixelRunOk p 240 = true then respond s mb 0 (pixelRun p (fun c r => toLe 1 (planeGet 0 s.cal.vf c r)))
     else respond s mb 4 [])
def execVfRead (mb : Nat) (s : State) : Out := .next (command s mb 0x0802 (vfRead mb))

/-- DOSE_READ (R316). -/
def doseRead (mb : Nat) (s : State) (p : List Byte) : State :=
  needLen s mb (p.length == 8)
    (if pixelRunOk p 60 then respond s mb 0 (pixelRun p (fun c r => toLe 4 (planeGet 0 s.cal.dose c r))) else respond s mb 4 [])
def execDoseRead (mb : Nat) (s : State) : Out := .next (command s mb 0x0803 (doseRead mb))

/-- WITNESS_READ: L_rel in Q12, 0 if excluded, and MODEL_GEN (R321). -/
def witnessRead (mb : Nat) (s : State) (p : List Byte) : State :=
  needLen s mb (p.length == 0)
    (respond s mb 0 (s.cal.witnesses.flatMap (fun w => toLe 2 (if w.valid then min 65535 (w.lrel / 16) else 0))
      ++ toLe 1 (s.reg CAL.AG_STATUS.MODEL_GEN)))
def execWitnessRead (mb : Nat) (s : State) : Out := .next (command s mb 0x0804 (witnessRead mb))

/-- RECALIBRATE: start-up calibration runs while the scan is off and no fallback cause is active (R304, R423). -/
def recalibrate (mb : Nat) (readings : List UnitReading) (badRows : List Nat) (s : State) (p : List Byte) : State :=
  needLen s mb (p.length == 0)
    (if s.flag SCAN.CTRL.EN = true ∨ fbActive s = true then respond s mb 7 []
     else
       let s1 := startUpCalibration s readings badRows
       respond s1 mb 0 (toLe 2 (s1.reg CAL.START_STATS.GLOBAL_MED) ++ [0, 0] ++ toLe 4 (s1.reg CAL.TRIM_STATS.TRIMMED)))
def execRecalibrate (mb : Nat) (readings : List UnitReading) (badRows : List Nat) (s : State) : Out :=
  .next (command s mb 0x0805 (recalibrate mb readings badRows))

/-! ### Power and ring (R319, R357, R422, R423) -/

/-- POWER_DOWN: the dose checkpoint, the pending records, then SCAN.CTRL.EN (R319, R423). -/
def powerDown (mb : Nat) (s : State) (p : List Byte) : State :=
  needLen s mb (p.length == 0)
    (let s1 := [3, 0x10, 0x11].foldl recordCommit (checkpointOrWait s)
     respond (if s1.flag SCAN.CTRL.EN then scanDisable s1 else s1) mb 0 [])
def execPowerDown (mb : Nat) (s : State) : Out := .next (command s mb 0x0902 (powerDown mb))

/-- This device becomes the origin of a round: it takes the start address and sends ENUM out of port B (R357). -/
def beginEnum (s : State) (mb start : Nat) : State :=
  let e : EnumBody := { round := s.net.round, next := start + 1, count := 1, origin := start, ring := false, isPartial := false }
  let s1 := takeAddress s start
  let s2 := { s1 with net := { s1.net with
    origin := some s.net.round, enumMb := some mb, enumSeen := some s.net.round, round := (s.net.round + 1) % 65536 } }
  sendPortNew s2 1 0 1023 1 (enumBytes e)

/-- ENUMERATE completes at the TOPO broadcast; a second one while a round runs gets STATE (R357, R423). -/
def enumerateCmd (mb : Nat) (s : State) (p : List Byte) : State :=
  let a := leAt p 0 2
  needLen s mb (p.length == 2)
    (if 511 < a then respond s mb 4 []
     else if s.net.enumMb = some mb then s
     else if s.net.origin.isSome then respond s mb 7 []
     else beginEnum s mb a)
def execEnumerate (mb : Nat) (s : State) : Out := .next (command s mb 0x0A01 (enumerateCmd mb))

/-- ENUMERATE_TIMEOUT (R423). -/
def enumExpires (mb : Nat) (s : State) (_p : List Byte) : State :=
  if s.net.enumMb = some mb then
    respond { s with net := { s.net with enumMb := none, origin := none } } mb 0x0C []
  else s
def execEnumerateTimeout (mb : Nat) (s : State) : Out := .next (command s mb 0x0A01 (enumExpires mb))

/-- ASSIGN_ADDR: the device whose serial number is named takes the address (R356, R422). -/
def assignAddr (mb : Nat) (s : State) (p : List Byte) : State :=
  let a := leAt p 8 2
  needLen s mb (p.length == 10)
    (if 511 < a then respond s mb 4 []
     else if leAt p 0 8 ≠ Config.serial.toNat then respond s mb 0x0F []
     else respond (takeAddress s a) mb 0 (toLe 2 a))
def execAssignAddr (mb : Nat) (s : State) : Out := .next (command s mb 0x0A02 (assignAddr mb))

/-! ### Events (R423, R427) -/

/-- COUNT, 7 reserved bytes and the records. -/
def eventData (l : List EventRec) : List Byte := toLe 1 l.length ++ List.replicate 7 0 ++ l.flatMap eventBytes

/-- EVENTS_READ: the records returned leave the queue (R423, R427). -/
def eventsRead (mb : Nat) (s : State) (p : List Byte) : State :=
  let n := leAt p 0 1
  let l := s.evt.queue.take n
  needLen s mb (p.length == 1)
    (if n = 0 ∨ 7 < n then respond s mb 4 []
     else respond (if l = [] then s else dropEvents s l.length) mb 0 (eventData l))
def execEventsRead (mb : Nat) (s : State) : Out := .next (command s mb 0x0C01 (eventsRead mb))

/-- `a` is at or above `b` as a signed 32-bit difference. -/
def eseqAtOrAbove (a b : Nat) : Bool := decide ((a + 2 ^ 32 - b) % 2 ^ 32 < 2 ^ 31)

/-- ESEQ has left the history (R423). -/
def eseqGone (s : State) (q : Nat) : Bool :=
  !eseqAtOrAbove q ((s.evt.history.head?.map (fun e => e.eseq)).getD s.evt.eseq)

/-- EVENTS_HISTORY: records from ESEQ onward (R423). -/
def eventsHistory (mb : Nat) (s : State) (p : List Byte) : State :=
  let q := leAt p 0 4
  let n := leAt p 4 1
  needLen s mb (p.length == 5)
    (if n = 0 ∨ 7 < n then respond s mb 4 []
     else if eseqGone s q then respond s mb 0x0F []
     else respond s mb 0 (eventData ((s.evt.history.filter (fun e => eseqAtOrAbove e.eseq q)).take n)))
def execEventsHistory (mb : Nat) (s : State) : Out := .next (command s mb 0x0C02 (eventsHistory mb))

/-! ### Flash (R404, R423) -/

/-- The range touches the slot that runs or a copy of the directory (R404, R423). -/
def flashBarred (s : State) (a n : Nat) : Bool :=
  rangesMeet a n dirPrimary 64 || rangesMeet a n dirCopy 64
  || (match directory s with
      | some d => let e := dirEntry s d (s.reg SYS.BOOT.SLOT)
                  rangesMeet a n e.1 e.2
      | none => false)

/-- `v` written at `a`, or open bytes where the write or its verification fails. -/
def flashTry (s : State) (a : Nat) (v : List Byte) (ok : Bool) : State :=
  if ok then s.flashPut a v
  else (s.flashPut a ((List.range v.length).map (fun i => Config.flashTorn s.free (a + i)))).tookFree

/-- FLASH_WRITE (R404, R423). -/
def flashWrite (mb : Nat) (verified : Bool) (s : State) (p : List Byte) : State :=
  let a := leAt p 0 4
  let n := leAt p 4 2
  needLen s mb (p.length == 8 + n)
    (if n = 0 ∨ 224 < n then respond s mb 4 []
     else if flashBarred s a n then respond s mb 7 []
     else respond (flashTry s a (bytesAt p 8 n) verified) mb (if verified then 0 else 0x0B) [])
def execFlashWrite (mb : Nat) (verified : Bool) (s : State) : Out := .next (command s mb 0x0D01 (flashWrite mb verified))

/-- FLASH_ERASE: whole sectors from the one that holds OFFSET read 0xFF (R404, R423). -/
def flashErase (mb : Nat) (verified : Bool) (s : State) (p : List Byte) : State :=
  let a := leAt p 0 4 / Config.flashSector * Config.flashSector
  let n := leAt p 4 2 * Config.flashSector
  needLen s mb (p.length == 6)
    (if flashBarred s a n then respond s mb 7 []
     else respond (flashTry s a (List.replicate n 0xFF) verified) mb (if verified then 0 else 0x0B) [])
def execFlashErase (mb : Nat) (verified : Bool) (s : State) : Out := .next (command s mb 0x0D02 (flashErase mb verified))

/-- The directory at `a` with PREFER naming slot B or A (R403, R580). -/
def directoryWith (s : State) (a : Nat) (b : Bool) : List Byte :=
  let d := s.flashBytes a 64
  let body := putAt d 4 (toLe 4 (clearBit (leAt d 4 4) 16 + b2n b * 2 ^ 16))
  putAt body 0x20 (toLe 4 (crc32c 0 (body.take 0x20)).toNat)

/-- SLOT_SELECT: the signature, then the directory copy and the primary (R404, R423, R580). -/
def slotSelect (mb : Nat) (signature verified : Bool) (s : State) (p : List Byte) : State :=
  let n := leAt p 0 1
  needLen s mb (p.length == 1)
    (if 1 < n then respond s mb 4 []
     else if signature = false then respond s mb 0x0D []
     else match directory s with
       | none => respond s mb 7 []
       | some d =>
         let v := directoryWith s d (n == 1)
         if verified then respond ((s.flashPut dirCopy v).flashPut dirPrimary v) mb 0 []
         else respond (flashTry s dirCopy v false) mb 0x0B [])
def execSlotSelect (mb : Nat) (signature verified : Bool) (s : State) : Out :=
  .next (command s mb 0x0D03 (slotSelect mb signature verified))

/-! ### Configuration records (R518, R520) -/

/-- CFG_READ (R520). -/
def cfgRead (mb : Nat) (s : State) (p : List Byte) : State :=
  let num := leAt p 0 2
  let o := leAt p 2 2
  let n := leAt p 4 1
  let x := payloadOf s num
  needLen s mb (p.length == 8)
    (if n = 0 ∨ 240 < n then respond s mb 4 []
     else if num ∉ recNums then respond s mb 0x0F []
     else if x.2.length < o + n then respond s mb 4 []
     else respond s mb 0 (toLe 4 x.1 ++ [0, 0, 0, 0] ++ bytesAt x.2 o n))
def execCfgRead (mb : Nat) (s : State) : Out := .next (command s mb 0x0D04 (cfgRead mb))

/-- The payload maximum of a record that CFG_WRITE accepts; none for any other (R514, R520). -/
def cfgMax (num : Nat) : Option Nat :=
  if num = 1 then some 256 else if num = 2 then some 1024 else if 0x100 ≤ num ∧ num ≤ 0x10F then some 2048 else none

/-- The payload with `v` put at `o`; bytes between its old end and `o` are open. -/
def cfgPayload (free : Nat) (b : List Byte) (o : Nat) (v : List Byte) : List Byte :=
  putAt (b ++ (List.range (o - b.length)).map (Config.recGap free)) o v

/-- CFG_WRITE (R518, R520). -/
def cfgWrite (mb : Nat) (verified : Bool) (s : State) (p : List Byte) : State :=
  let num := leAt p 0 2
  let o := leAt p 2 2
  let n := leAt p 4 1
  needLen s mb (p.length == 8 + n)
    (match cfgMax num with
     | none => respond s mb 4 []
     | some m =>
       if n = 0 ∨ 224 < n ∨ m < o + n then respond s mb 4 []
       else if s.flag SAFE.FB_CAUSE.SOFT_STOP then respond s mb 7 []
       else if allowance s num = 0 then respond (s.setFlag MRAM.STATUS.WEAR_HOLD true) mb 8 []
       else
         let v := cfgPayload s.free (payloadOf s num).2 o (bytesAt p 8 n)
         let s1 := (commitRecord s num v verified).tookFree
         if verified then respond s1 mb 0 (toLe 4 (nextCopy (recOf s num)).2) else respond s1 mb 0x0B [])
def execCfgWrite (mb : Nat) (verified : Bool) (s : State) : Out := .next (command s mb 0x0D05 (cfgWrite mb verified))

end Sys2Proof.Machine
end

