-- ==== Sys2Proof/Machine/Dispatch.lean ====
section
/-! DEFINITION. Dispatch.lean: which meaning each command has. -/

namespace Sys2Proof.Machine

/-- The command's effect on everything but the queue. -/
def exec (i : Instr) (s : State) : Host.Outcome State Fault Refusal :=
  match i with
  | .frameStart load => Sys2Proof.Machine.execFrameStart load s
  | .rowSlotStart k => Sys2Proof.Machine.execRowSlotStart k s
  | .rowDelivered r echoGood accGood => Sys2Proof.Machine.execRowDelivered r echoGood accGood s
  | .rowDeadline r => Sys2Proof.Machine.execRowDeadline r s
  | .safetyLayerCheck n => Sys2Proof.Machine.execSafetyLayerCheck n s
  | .pwmPeriodStart g samples units => Sys2Proof.Machine.execPwmPeriodStart g samples units s
  | .blankPassStart => Sys2Proof.Machine.execBlankPassStart s
  | .blankRowSlot out ecc => Sys2Proof.Machine.execBlankRowSlot out ecc s
  | .publishTimer => Sys2Proof.Machine.execPublishTimer s
  | .scanEnSet => Sys2Proof.Machine.execScanEnSet s
  | .rasterStart => Sys2Proof.Machine.execRasterStart s
  | .scanEnClear => Sys2Proof.Machine.execScanEnClear s
  | .scanCommitBit => Sys2Proof.Machine.execScanCommitBit s
  | .galEnClear => Sys2Proof.Machine.execGalEnClear s
  | .fenceIncWrite w => Sys2Proof.Machine.execFenceIncWrite w s
  | .fenceDirectWrite k w => Sys2Proof.Machine.execFenceDirectWrite k w s
  | .flipArm n w => Sys2Proof.Machine.execFlipArm n w s
  | .lutDataWrite w => Sys2Proof.Machine.execLutDataWrite w s
  | .lutDataRead => Sys2Proof.Machine.execLutDataRead s
  | .bufferRetire n => Sys2Proof.Machine.execBufferRetire n s
  | .kilnBuildComplete => Sys2Proof.Machine.execKilnBuildComplete s
  | .batchCommit => Sys2Proof.Machine.execBatchCommit s
  | .bandComplete b => Sys2Proof.Machine.execBandComplete b s
  | .pingpongBufferFree b => Sys2Proof.Machine.execPingpongBufferFree b s
  | .videoInputReady b => Sys2Proof.Machine.execVideoInputReady b s
  | .engineFault n kind => Sys2Proof.Machine.execEngineFault n kind s
  | .bandTimeout b => Sys2Proof.Machine.execBandTimeout b s
  | .spareReady => Sys2Proof.Machine.execSpareReady s
  | .spareRotation => Sys2Proof.Machine.execSpareRotation s
  | .selfTestComplete n pass => Sys2Proof.Machine.execSelfTestComplete n pass s
  | .pausePeriodStart => Sys2Proof.Machine.execPausePeriodStart s
  | .computeRestored => Sys2Proof.Machine.execComputeRestored s
  | .lowbeamReqAssert => Sys2Proof.Machine.execLowbeamReqAssert s
  | .lowbeamReqRelease => Sys2Proof.Machine.execLowbeamReqRelease s
  | .guardWatchdogExpiry => Sys2Proof.Machine.execGuardWatchdogExpiry s
  | .guardOscFail => Sys2Proof.Machine.execGuardOscFail s
  | .safePacket p => Sys2Proof.Machine.execSafePacket p s
  | .canSafeFrame f => Sys2Proof.Machine.execCanSafeFrame f s
  | .safePartnerTimeout => Sys2Proof.Machine.execSafePartnerTimeout s
  | .agreedValidityEnd => Sys2Proof.Machine.execAgreedValidityEnd s
  | .strapReread pads => Sys2Proof.Machine.execStrapReread pads s
  | .mapEntryCommit => Sys2Proof.Machine.execMapEntryCommit s
  | .healingGenComplete => Sys2Proof.Machine.execHealingGenComplete s
  | .hourlyCheckpoint photo => Sys2Proof.Machine.execHourlyCheckpoint photo s
  | .delayMonitorReading margins => Sys2Proof.Machine.execDelayMonitorReading margins s
  | .gainmapGenComplete => Sys2Proof.Machine.execGainmapGenComplete s
  | .portEnSet p => Sys2Proof.Machine.execPortEnSet p s
  | .trn1Received p info => Sys2Proof.Machine.execTrn1Received p info s
  | .trn2Received p rate fom => Sys2Proof.Machine.execTrn2Received p rate fom s
  | .rateChange p => Sys2Proof.Machine.execRateChange p s
  | .adaptationComplete p lanes => Sys2Proof.Machine.execAdaptationComplete p lanes s
  | .trainingTimeout p => Sys2Proof.Machine.execTrainingTimeout p s
  | .trainingRestart p => Sys2Proof.Machine.execTrainingRestart p s
  | .fomMeasurement p lanes gains => Sys2Proof.Machine.execFomMeasurement p lanes gains s
  | .bitLockLoss p => Sys2Proof.Machine.execBitLockLoss p s
  | .codeErrorBurst p n => Sys2Proof.Machine.execCodeErrorBurst p n s
  | .retrain p => Sys2Proof.Machine.execRetrain p s
  | .portEnClear p => Sys2Proof.Machine.execPortEnClear p s
  | .quarantineRelease p => Sys2Proof.Machine.execQuarantineRelease p s
  | .packetHeaderArrival p h => Sys2Proof.Machine.execPacketHeaderArrival p h s
  | .packetEnd p payload crc ending => Sys2Proof.Machine.execPacketEnd p payload crc ending s
  | .vrowPacket p => Sys2Proof.Machine.execVrowPacket p s
  | .objPacket p => Sys2Proof.Machine.execObjPacket p s
  | .mboxReqPacket p => Sys2Proof.Machine.execMboxReqPacket p s
  | .nopEnum p => Sys2Proof.Machine.execNopEnum p s
  | .nopEnumEnd p => Sys2Proof.Machine.execNopEnumEnd p s
  | .nopTopo p => Sys2Proof.Machine.execNopTopo p s
  | .nopSleep p => Sys2Proof.Machine.execNopSleep p s
  | .syncTimer => Sys2Proof.Machine.execSyncTimer s
  | .syncReqPacket p => Sys2Proof.Machine.execSyncReqPacket p s
  | .syncAckPacket p t4 => Sys2Proof.Machine.execSyncAckPacket p t4 s
  | .syncAckTimeout p => Sys2Proof.Machine.execSyncAckTimeout p s
  | .timeSetSend => Sys2Proof.Machine.execTimeSetSend s
  | .timeSetReceived p lt => Sys2Proof.Machine.execTimeSetReceived p lt s
  | .wrapEndTimer => Sys2Proof.Machine.execWrapEndTimer s
  | .quarantineTimeout p => Sys2Proof.Machine.execQuarantineTimeout p s
  | .localPacketResend p => Sys2Proof.Machine.execLocalPacketResend p s
  | .spiRead addr len hcrc => Sys2Proof.Machine.execSpiRead addr len hcrc s
  | .spiWrite addr len hcrc data dcrc => Sys2Proof.Machine.execSpiWrite addr len hcrc data dcrc s
  | .spiReread len addr hcrc => Sys2Proof.Machine.execSpiReread len addr hcrc s
  | .spiFrameAbort addr len hcrc isRead fetched => Sys2Proof.Machine.execSpiFrameAbort addr len hcrc isRead fetched s
  | .canDiagSegment f => Sys2Proof.Machine.execCanDiagSegment f s
  | .busOffEntry => Sys2Proof.Machine.execBusOffEntry s
  | .wakePortWrite addr data => Sys2Proof.Machine.execWakePortWrite addr data s
  | .headroomLoop flags => Sys2Proof.Machine.execHeadroomLoop flags s
  | .pmbusTransaction ack reply => Sys2Proof.Machine.execPmbusTransaction ack reply s
  | .pmbusClockTimeout => Sys2Proof.Machine.execPmbusClockTimeout s
  | .iomuxApply => Sys2Proof.Machine.execIomuxApply s
  | .extEvtEdge pin => Sys2Proof.Machine.execExtEvtEdge pin s
  | .ltMark => Sys2Proof.Machine.execLtMark s
  | .ifbSetFault f => Sys2Proof.Machine.execIfbSetFault f s
  | .doorbell w => Sys2Proof.Machine.execDoorbell w s
  | .mbxAck w => Sys2Proof.Machine.execMbxAck w s
  | .evtPop => Sys2Proof.Machine.execEvtPop s
  | .commandAccept => Sys2Proof.Machine.execCommandAccept s
  | .commandStart mb => Sys2Proof.Machine.execCommandStart mb s
  | .mboxRspResend mb => Sys2Proof.Machine.execMboxRspResend mb s
  | .sessionIdleTimeout session => Sys2Proof.Machine.execSessionIdleTimeout session s
  | .eventPacketSend => Sys2Proof.Machine.execEventPacketSend s
  | .identify mb => Sys2Proof.Machine.execIdentify mb s
  | .sessionOpen mb => Sys2Proof.Machine.execSessionOpen mb s
  | .sessionAuth mb => Sys2Proof.Machine.execSessionAuth mb s
  | .sessionClose mb => Sys2Proof.Machine.execSessionClose mb s
  | .setLt mb => Sys2Proof.Machine.execSetLt mb s
  | .regRead mb => Sys2Proof.Machine.execRegRead mb s
  | .regWrite mb => Sys2Proof.Machine.execRegWrite mb s
  | .echo mb => Sys2Proof.Machine.execEcho mb s
  | .setMode mb => Sys2Proof.Machine.execSetMode mb s
  | .commit mb => Sys2Proof.Machine.execCommit mb s
  | .frameStats mb => Sys2Proof.Machine.execFrameStats mb s
  | .layerFlip mb => Sys2Proof.Machine.execLayerFlip mb s
  | .fenceWait mb => Sys2Proof.Machine.execFenceWait mb s
  | .fenceWaitTimeout mb => Sys2Proof.Machine.execFenceWaitTimeout mb s
  | .lutLoad mb => Sys2Proof.Machine.execLutLoad mb s
  | .videoWindow mb => Sys2Proof.Machine.execVideoWindow mb s
  | .objWrite mb => Sys2Proof.Machine.execObjWrite mb s
  | .objRead mb => Sys2Proof.Machine.execObjRead mb s
  | .objClear mb => Sys2Proof.Machine.execObjClear mb s
  | .rsetEntry mb => Sys2Proof.Machine.execRsetEntry mb s
  | .rsetDelete mb => Sys2Proof.Machine.execRsetDelete mb s
  | .rsetSubmit mb => Sys2Proof.Machine.execRsetSubmit mb s
  | .patternLoad mb => Sys2Proof.Machine.execPatternLoad mb s
  | .symlibLoad mb => Sys2Proof.Machine.execSymlibLoad mb s
  | .lensRead mb lens => Sys2Proof.Machine.execLensRead mb lens s
  | .fbRelease mb => Sys2Proof.Machine.execFbRelease mb s
  | .safeWindow mb => Sys2Proof.Machine.execSafeWindow mb s
  | .fbPattern mb readBack => Sys2Proof.Machine.execFbPattern mb readBack s
  | .reseal mb verified => Sys2Proof.Machine.execReseal mb verified s
  | .pixelAge mb => Sys2Proof.Machine.execPixelAge mb s
  | .mapRead mb => Sys2Proof.Machine.execMapRead mb s
  | .mapClear mb => Sys2Proof.Machine.execMapClear mb s
  | .faultInject mb => Sys2Proof.Machine.execFaultInject mb s
  | .injectRepeat => Sys2Proof.Machine.execInjectRepeat s
  | .zoneRatio mb => Sys2Proof.Machine.execZoneRatio mb s
  | .vfRead mb => Sys2Proof.Machine.execVfRead mb s
  | .doseRead mb => Sys2Proof.Machine.execDoseRead mb s
  | .witnessRead mb => Sys2Proof.Machine.execWitnessRead mb s
  | .recalibrate mb readings badRows => Sys2Proof.Machine.execRecalibrate mb readings badRows s
  | .pwrSleep mb srAck => Sys2Proof.Machine.execPwrSleep mb srAck s
  | .powerDown mb => Sys2Proof.Machine.execPowerDown mb s
  | .enumerate mb => Sys2Proof.Machine.execEnumerate mb s
  | .assignAddr mb => Sys2Proof.Machine.execAssignAddr mb s
  | .auxSet mb => Sys2Proof.Machine.execAuxSet mb s
  | .auxPattern mb => Sys2Proof.Machine.execAuxPattern mb s
  | .auxGamma mb => Sys2Proof.Machine.execAuxGamma mb s
  | .auxGate mb => Sys2Proof.Machine.execAuxGate mb s
  | .eventsRead mb => Sys2Proof.Machine.execEventsRead mb s
  | .eventsHistory mb => Sys2Proof.Machine.execEventsHistory mb s
  | .flashWrite mb verified => Sys2Proof.Machine.execFlashWrite mb verified s
  | .flashErase mb verified => Sys2Proof.Machine.execFlashErase mb verified s
  | .slotSelect mb signature verified => Sys2Proof.Machine.execSlotSelect mb signature verified s
  | .cfgRead mb => Sys2Proof.Machine.execCfgRead mb s
  | .cfgWrite mb verified => Sys2Proof.Machine.execCfgWrite mb verified s
  | .auxFrameGrid p => Sys2Proof.Machine.execAuxFrameGrid p s
  | .auxGatePeriodStart n => Sys2Proof.Machine.execAuxGatePeriodStart n s
  | .auxEnSet => Sys2Proof.Machine.execAuxEnSet s
  | .clockMonitorTrip clks => Sys2Proof.Machine.execClockMonitorTrip clks s
  | .clocksGood => Sys2Proof.Machine.execClocksGood s
  | .clkswForced d => Sys2Proof.Machine.execClkswForced d s
  | .rampDwellStep => Sys2Proof.Machine.execRampDwellStep s
  | .refclkDetectWindow good => Sys2Proof.Machine.execRefclkDetectWindow good s
  | .crystalDelayExpiry => Sys2Proof.Machine.execCrystalDelayExpiry s
  | .pllLock => Sys2Proof.Machine.execPllLock s
  | .clkDivWrite w => Sys2Proof.Machine.execClkDivWrite w s
  | .ssRefWrite w => Sys2Proof.Machine.execSsRefWrite w s
  | .clkGateWrite w => Sys2Proof.Machine.execClkGateWrite w s
  | .sleepEntryAbort src => Sys2Proof.Machine.execSleepEntryAbort src s
  | .wakePin => Sys2Proof.Machine.execWakePin s
  | .wakeSequence => Sys2Proof.Machine.execWakeSequence s
  | .wakeReadinessTimeout w => Sys2Proof.Machine.execWakeReadinessTimeout w s
  | .dramIdleSelfRefresh => Sys2Proof.Machine.execDramIdleSelfRefresh s
  | .thermalSample t => Sys2Proof.Machine.execThermalSample t s
  | .housekeepingRound h => Sys2Proof.Machine.execHousekeepingRound h s
  | .hardTrip sensor => Sys2Proof.Machine.execHardTrip sensor s
  | .hardTripRelease => Sys2Proof.Machine.execHardTripRelease s
  | .ddrcEnSet => Sys2Proof.Machine.execDdrcEnSet s
  | .dramRefresh => Sys2Proof.Machine.execDramRefresh s
  | .zqCalibration => Sys2Proof.Machine.execZqCalibration s
  | .dramActivate bank row => Sys2Proof.Machine.execDramActivate bank row s
  | .ddrAlert replay => Sys2Proof.Machine.execDdrAlert replay s
  | .dramReadError cls addr kind client => Sys2Proof.Machine.execDramReadError cls addr kind client s
  | .tolCountdownExpiry => Sys2Proof.Machine.execTolCountdownExpiry s
  | .dramIdlePowerState => Sys2Proof.Machine.execDramIdlePowerState s
  | .patrolScrub corrected => Sys2Proof.Machine.execPatrolScrub corrected s
  | .mramRecordCommit num => Sys2Proof.Machine.execMramRecordCommit num s
  | .mramCopyRepair num => Sys2Proof.Machine.execMramCopyRepair num s
  | .mramScrub corrected => Sys2Proof.Machine.execMramScrub corrected s
  | .wearAllowanceTick => Sys2Proof.Machine.execWearAllowanceTick s
  | .faultDetect src cls word => Sys2Proof.Machine.execFaultDetect src cls word s
  | .faultGrant => Sys2Proof.Machine.execFaultGrant s
  | .fltAck w => Sys2Proof.Machine.execFltAck w s
  | .errNMinWidthExpiry => Sys2Proof.Machine.execErrNMinWidthExpiry s
  | .supervisorRestart => Sys2Proof.Machine.execSupervisorRestart s
  | .restartComplete own other => Sys2Proof.Machine.execRestartComplete own other s
  | .aliasRead addr => Sys2Proof.Machine.execAliasRead addr s
  | .aliasWrite addr w => Sys2Proof.Machine.execAliasWrite addr w s
  | .rcFieldRead addr => Sys2Proof.Machine.execRcFieldRead addr s
  | .registerWrite addr w => Sys2Proof.Machine.execRegisterWrite addr w s
  | .crcInit u w => Sys2Proof.Machine.execCrcInit u w s
  | .crcData u w => Sys2Proof.Machine.execCrcData u w s
  | .crcData8 u w => Sys2Proof.Machine.execCrcData8 u w s
  | .vsys33PowerOn => Sys2Proof.Machine.execVsys33PowerOn s
  | .supplyFail => Sys2Proof.Machine.execSupplyFail s
  | .resetNAssert => Sys2Proof.Machine.execResetNAssert s
  | .resetNRelease held => Sys2Proof.Machine.execResetNRelease held s
  | .coldBoot env => Sys2Proof.Machine.execColdBoot env s
  | .corePgRise => Sys2Proof.Machine.execCorePgRise s
  | .canBusError k => Sys2Proof.Machine.execCanBusError k s
  | .canBusOffRecovery => Sys2Proof.Machine.execCanBusOffRecovery s
  | .elasticBufferSlip p => Sys2Proof.Machine.execElasticBufferSlip p s
  | .enumerateTimeout mb => Sys2Proof.Machine.execEnumerateTimeout mb s
  | .guardGood => Sys2Proof.Machine.execGuardGood s

end Sys2Proof.Machine
end

