-- ==== Sys2Proof/Machine/Tick.lean ====
section
/-! DEFINITION. Tick.lean: what time does while no command waits (R21, R35, R363, R465): the model's own choice of when (assumption 2). -/

namespace Sys2Proof.Machine

/-- The part of a pending slew that one CLK_BUS cycle takes, in 1/256 tick (R363). -/
def slewPart (slew : Int) : Int := max (-1) (min 1 slew)

/-- One cycle of 2.5 ns: lamp time advances with its slew (R21, R363), and the grayscale counter by 2.4 % of a count (R35). -/
def cycle (s : State) : State :=
  let d := slewPart s.net.slew
  let s1 := moveLt s (256 + d)
  { s1 with net := { s1.net with slew := s.net.slew - d }, scan := { s1.scan with gs := (s1.scan.gs + 3) % 512000 } }

/-- The block with no command waiting: an entry into sleep runs to its end (R465); otherwise one cycle passes while lamp time counts
(R21). -/
def idle (s : State) : State :=
  if s.power = 4 then finishEntry s
  else if clocksRun s ∧ s.clk.everLocked then cycle s
  else s

end Sys2Proof.Machine
end

