-- ==== Sys2Proof/Safety.lean ====
section
/-! DEFINITION. Safety.lean: the words the statements use: what each command may change, what it answers, and what they call a
safe state. -/

namespace Sys2Proof.Machine

/-! ### What may change -/

/-- The `n` fields of a family. -/
def allOf (n : Nat) (f : Nat → Field) : List Field := (List.range n).map f

/-- No field of `l` lies at place `k` of the register store. -/
def Outside (l : List Field) (k : Nat) : Prop := ∀ f ∈ l, fieldKey f ≠ k

/-- The parts of State beside the registers and the queue of commands. -/
inductive Part where
  | act | lt | synced | free | dram | scan | pix | gal | eng | stats | shd | guard | diag | cal | net | mbx | io | pins | aux | clk
  | pwr | boot | thm | ddr | mram | flash | flt | evt
  deriving DecidableEq, Repr

/-- Part `p` of `t` is that of `s`. -/
def Part.Same (s t : State) : Part → Prop
  | .act => t.act = s.act
  | .lt => t.lt = s.lt
  | .synced => t.synced = s.synced
  | .free => t.free = s.free
  | .dram => t.dram = s.dram
  | .scan => t.scan = s.scan
  | .pix => t.pix = s.pix
  | .gal => t.gal = s.gal
  | .eng => t.eng = s.eng
  | .stats => t.stats = s.stats
  | .shd => t.shd = s.shd
  | .guard => t.guard = s.guard
  | .diag => t.diag = s.diag
  | .cal => t.cal = s.cal
  | .net => t.net = s.net
  | .mbx => t.mbx = s.mbx
  | .io => t.io = s.io
  | .pins => t.pins = s.pins
  | .aux => t.aux = s.aux
  | .clk => t.clk = s.clk
  | .pwr => t.pwr = s.pwr
  | .boot => t.boot = s.boot
  | .thm => t.thm = s.thm
  | .ddr => t.ddr = s.ddr
  | .mram => t.mram = s.mram
  | .flash => t.flash = s.flash
  | .flt => t.flt = s.flt
  | .evt => t.evt = s.evt

/-! ### Registers that change together -/

/-- What raising a fault may change: its count, and what a fatal one does at its detection (R245, R533, R550). -/
def faultSet : List Field :=
  allOf 96 FLT.COUNT.COUNT ++ [FLT.INJ_COUNT.COUNT, SAFE.FB_CAUSE.FATAL, SAFE.FB_ENTRIES.VALUE, SCAN.FB_CTRL.RESET_LONG_ROM]

/-- What the start of the fallback beam changes beside its cause (R78, R271). -/
def entrySet : List Field := [SAFE.FB_ENTRIES.VALUE, SCAN.FB_CTRL.RESET_LONG_ROM]

/-- What reading the seal and the straps may change (R260, R261). -/
def sealSet : List Field := [SAFE.EFFECTIVE.BLOCK_LIMIT, SAFE.EFFECTIVE.CONSERVATIVE, SAFE.EFFECTIVE.CUTOFF,
  SAFE.EFFECTIVE.FB_SEL, SAFE.EFFECTIVE.GLARE_CLASS, SAFE.EFFECTIVE.LEFT, SAFE.EFFECTIVE.SWIVEL, SAFE.EFFECTIVE.WINDOW_MAX,
  SAFE.SEAL.NO_SLOT, SAFE.SEAL.SLOT, SAFE.SEAL.SLOTS_FREE, SAFE.STATUS.SEAL_BROKEN]

/-- What an engine fault may change (R216 to R218). -/
def engineLossSet : List Field := [BE.ACTIVE.ENG, BE.FAULT_COUNT.COUNT, BE.RETIRED.ENG, BE.SPARE.ENG, BE.STATUS.DEGRADED,
  BE.STATUS.DOSE_LOST, GAL.KILN_STATUS.ABANDONS, GAL.KILN_STATUS.BUILDING] ++ allOf 16 BE.BAND_MAP.ENGINE ++ allOf 16
  BE.BAND_MAP.SHARED

/-- What a wake source may change (R466, R467). -/
def wakeSet : List Field := [PWR.ABORT_COUNT.COUNT, PWR.STATE.STATE, PWR.STATE.WAKE_SRC, PWR.STATUS.ABORTED,
  SYS.RESET_CAUSE.CAUSE]

/-- What a port's quarantine may change (R345, R369). -/
def quarSet : List Field := allOf 2 TX.QUAR_COUNT ++ allOf 2 TX.STATUS.LINK_DOWN ++ allOf 2 TX.STATUS.QUAR ++ allOf 2
  TX.STATUS.STATE ++ allOf 2 TX.STATUS.WRAP

/-- What taking a port down may change (R345, R358). -/
def linkSet : List Field := allOf 2 TX.STATUS.LINK_DOWN ++ allOf 2 TX.STATUS.STATE ++ allOf 2 TX.STATUS.WRAP

/-- The first-fault latches (R534). -/
def firstSet : List Field := [FLT.FIRST.CLASS, FLT.FIRST.ESCALATED, FLT.FIRST.OVERFLOW, FLT.FIRST.SRC, FLT.FIRST.VALID,
  FLT.FIRST_LT_HI.LT, FLT.FIRST_LT_LO.LT, FLT.INJ_FIRST.CLASS, FLT.INJ_FIRST.ESCALATED, FLT.INJ_FIRST.OVERFLOW,
  FLT.INJ_FIRST.SRC, FLT.INJ_FIRST.VALID]

/-- The pending bits (R533). -/
def pendSet : List Field := [FLT.STATUS.INJ_CONT, FLT.STATUS.INJ_CORR, FLT.STATUS.INJ_FATAL, FLT.STATUS.PEND_CONT,
  FLT.STATUS.PEND_CORR, FLT.STATUS.PEND_FATAL]

/-- The enables that a boot or wake writes (R577). -/
def enableSet : List Field := [AUX.CTRL.EN, BE.CTRL.EN, CAL.CTRL.EN, CAN.CTRL.EN, CRC.CTRL.EN, DDRC.CTRL.EN, DIAG.CTRL.EN,
  GAL.CTRL.EN, MRAM.CTRL.EN, SCAN.CTRL.EN, SHD.CTRL.EN, THM.CTRL.EN] ++ allOf 21 CLK.GATE.EN ++ allOf 2 TX.CTRL.EN

/-- A layer's flip fields (R139). -/
def flipSet : List Field := allOf 7 GAL.L.FLIP.ARM ++ allOf 7 GAL.L.FLIP.FENCE_EN ++ allOf 7 GAL.L.FLIP.FENCE_SEL ++ allOf 7
  GAL.L.FLIP.RETIRE_EN ++ allOf 7 GAL.L.FLIP.RETIRE_SEL

/-- What an executed flip changes (R140). -/
def layerSet : List Field := allOf 7 GAL.L.ADDR_HI.ADDR ++ allOf 7 GAL.L.ADDR_LO.ADDR ++ allOf 7 GAL.L.CRC_EXP.CRC_EXP

/-- A layer's next buffer (R139). -/
def nextSet : List Field := allOf 7 GAL.L.FENCE_VAL.FENCE_VAL ++ allOf 7 GAL.L.NEXT_CRC.NEXT_CRC ++ allOf 7 GAL.L.NEXT_HI.NEXT
  ++ allOf 7 GAL.L.NEXT_LO.NEXT

/-- The SAFE path state (R255). -/
def pathSet : List Field := [SAFE.STATUS.PATH_CHANGE, SAFE.STATUS.PATH_STATE]

/-- What a SAFE record may change (R251). -/
def safeSet : List Field := [SAFE.REJECT_A.VALUE, SAFE.REJECT_B.VALUE, SAFE.SEQ_A.VALUE, SAFE.SEQ_B.VALUE]

/-- The verdict of a frame (R242). -/
def verdictSet : List Field := [SAFE.BLOCK_COUNT.VALUE, SAFE.STATUS.VERDICT_FAIL, SAFE.VERDICT.ACC_MISMATCH,
  SAFE.VERDICT.ECHO_ERR, SAFE.VERDICT.FRAME, SAFE.VERDICT.INCOMPLETE, SAFE.VERDICT.PASS, SAFE.VERDICT.SLC_FAIL,
  SAFE.VERDICT.SLC_SEG, SAFE.VERDICT.SLI_FAIL, SAFE.VERDICT.SLI_ZONE, SAFE.VERDICT.SLR_CENT, SAFE.VERDICT.SLR_FLUX,
  SAFE.VERDICT.SLS_FAIL]

/-- What an underrun records (R100). -/
def missSet : List Field := [SCAN.UR_COUNT.UR_COUNT, SCAN.UR_STATUS.UNDERRUN, SCAN.UR_STATUS.UR_ROW]

/-- The grid origin in force (R91). -/
def originSet : List Field := [SCAN.ORIGIN_ACT_HI.ORIGIN_ACT, SCAN.ORIGIN_ACT_LO.ORIGIN_ACT]

/-- The commit status (R97). -/
def commitSet : List Field := [SCAN.COMMIT_STATUS.COMMIT_PEND, SCAN.COMMIT_STATUS.TARGET_FRAME]

/-- What the governor reports (R73). -/
def governorSet : List Field := [SCAN.GOV_PRED.DEMAND_MA, SCAN.GOV_PRED.PRED_MA, SCAN.GOV_STATUS.DERATING, SCAN.GOV_STATUS.G,
  SCAN.GOV_STATUS.LIMITING]

/-- The Kiln status (R148). -/
def kilnSet : List Field := [GAL.KILN_STATUS.ABANDONS, GAL.KILN_STATUS.ACTIVE, GAL.KILN_STATUS.BUILDING, GAL.KILN_STATUS.GEN,
  GAL.KILN_STATUS.PREFIX]

/-- What leaving power-down or self-refresh changes (R506). -/
def dramSet : List Field := [DDRC.SR_TIME.TIME, DDRC.STATUS.POWER_DOWN, DDRC.STATUS.SELF_REFRESH]

/-- What the BOARD record gives (R409, R514). -/
def boardSet : List Field := [IOMUX.BOARD.LENS_ADDR, IOMUX.BOARD.VCORE_ADDR, IOMUX.BOARD.VLED_ADDR, IOMUX.BOARD.WAKE_ADDR]

/-- What firmware selection records (R584). -/
def bootSet : List Field := [SYS.BOOT.A_FAIL, SYS.BOOT.BOOT_HALT, SYS.BOOT.B_FAIL, SYS.BOOT.PREFERRED, SYS.BOOT.REASON,
  SYS.BOOT.SLOT]

/-- What declaring a pixel dead may change (R288 to R290). -/
def mapSet : List Field := [DIAG.STATUS.CLUSTER, DIAG.STATUS.NEW_DEAD, DIAG.STATUS.STUCK, DIAG.TRIM_REJ.COUNT,
  DIAG.UNMAPPED.COUNT]

/-- What judging the MRAM records may change (R512 to R515). -/
def mramSet : List Field := [MRAM.STATUS.CFG_DEFAULTED, MRAM.STATUS.DEF_RECORD, MRAM.STATUS.TORN, MRAM.TORN_COUNT.COUNT]

/-- The angle map of the optics model (R214). -/
def opticsSet : List Field := [SHD.MAP_H0.H0, SHD.MAP_HSTEP.HSTEP, SHD.MAP_V0.V0, SHD.MAP_VSTEP.VSTEP]

/-! ### Registers an access may change -/

/-- What a read at address `x` may change: fields of its word, and the index that a read of LUT_DATA advances (R134, R554). -/
def readRegs (x : Nat) : List Field :=
  fieldsAt (underlying x) ++ (if underlying x = GAL.LUT_DATA.ENTRY.addr then [GAL.LUT_ADDR.INDEX] else [])

/-- What a write to block `n` may change beside the fields of the word written (R91, R134, R138, R345, R407, R412, R456, R498, R535,
R563). -/
def blockRegs : Nat → List Field
  | 1 => [CLK.STATUS.WIGN]
  | 3 => firstSet ++ pendSet
  | 5 => [MBX.STATUS.RING_IGN, MBX.STATUS.WR_IGN] ++ wakeSet
  | 7 => allOf 4 CRC.U.RUNNING ++ allOf 4 CRC.U.COUNT
  | 8 => [DDRC.STATUS.MAP_ERR, DDRC.STATUS.ORG_ERR]
  | 9 => linkSet ++ faultSet
  | 10 => linkSet ++ faultSet
  | 13 => [SAFE.FB_CAUSE.M7, SCAN.FRAME_NUM.FRAME_NUM] ++ entrySet ++ originSet ++ commitSet
  | 14 => [GAL.LUT_ADDR.INDEX, GAL.STATUS.LUT_IGN] ++ allOf 64 GAL.FENCE.FENCE
  | 20 => [IOMUX.STATUS.CONFLICT, IOMUX.STATUS.CONF_PIN, IOMUX.STATUS.WIGN]
  | _ => []

/-- What a write at address `x` may change. -/
def writeRegs (x : Nat) : List Field :=
  SYS.WIGN.BLOCK :: fieldsAt (underlying x) ++ blockRegs (underlying x / 0x10000)

/-- What a write to check unit `u` may change (R563). -/
def checkRegs (u : Nat) : List Field := [CRC.U.RUNNING u, CRC.U.COUNT u, SYS.WIGN.BLOCK]

/-- What a burst of `n` words from address `x` may change. -/
def burstRegs (f : Nat → List Field) (x n : Nat) : List Field := (List.range n).flatMap (fun k => f (x + 4 * k))

/-! ### What each command may change -/

/-- A row of the table below: a chapter of the spec, the parts of State and the register fields that a command may change; no list
of fields stands for any register. -/
structure Touch where
  chapter : Nat
  parts : List Part
  regs : Option (List Field)

/-- The parameters of the request in mailbox `mb`. -/
def State.params (s : State) (mb : Nat) : List Byte := reqParams (s.mb mb).req

/-- What a reset may change: every part but the flash and the model's own free values (R404, R573). -/
def resetParts : List Part :=
  [.act, .lt, .synced, .dram, .scan, .pix, .gal, .eng, .stats, .shd, .guard, .diag, .cal, .net, .mbx, .io, .pins, .aux, .clk, .pwr,
    .boot, .thm, .ddr, .mram, .flt, .evt]

/-- What answering a mailbox command may change: the mailbox, the response packet and the event of a lost one (R412, R414). -/
def mailParts : List Part := [.mbx, .net, .flt]

/-- What command `i` may change in state `s`. The chapters: 1 frames, layers, pixels and calibration; 2 engines, contexts and the
Guard; 3 the Tatex link; 4 mailboxes; 5 side ports and auxiliary outputs; 6 clocks, power, memories, faults and boot; 7 register
access. -/
def mayChange (s : State) : Instr → Touch
  | .frameStart _ => ⟨1, [.act, .free, .scan, .pix, .gal, .eng, .stats, .shd, .guard, .diag, .cal, .pins, .clk, .flt], some
      (faultSet ++ sealSet ++ flipSet ++ layerSet ++ nextSet ++ pathSet ++ verdictSet ++ missSet ++ originSet ++ commitSet ++
      governorSet ++ kilnSet ++ [BE.ACTIVE.ENG, BE.LATE_COUNT.COUNT, BE.LOAD.LOAD, BE.LOAD.LOAD_PEAK, BE.OPTICS.SHIFT,
      BE.SPARE.ENG, BE.STATUS.DEGRADED, BE.STATUS.STEPPED, BE.STATUS.TAKEOVER, CAL.AG_STATUS.GEN, GAL.FLIP_SKIP_COUNT.COUNT,
      GAL.SAFE_STATUS.DROPPED, GAL.STATUS.PARAM_ERR, SAFE.FB_CAUSE.BLOCK, SAFE.FB_CAUSE.M7, SCAN.FRAME_NUM.FRAME_NUM,
      SCAN.MODE.MODE, SCAN.RASTER.ALIGNING, SCAN.RASTER.SLOT, SCAN.RASTER.SS_SUPPRESSED, SCAN.SWAP_STATUS.GRP_SWAPPED,
      SCAN.SWAP_STATUS.HOLD_PEAK] ++ allOf 16 BE.BAND_MAP.ENGINE ++ allOf 16 BE.BAND_MAP.SHARED ++ allOf 64 GAL.FENCE.FENCE)⟩
  | .rowSlotStart _ => ⟨1, [.shd, .guard], some [SCAN.LAT_TOL.TOL, SCAN.LAT_TOL.TOL_MIN, SCAN.RASTER.SLOT]⟩
  | .rowDelivered _ _ _ => ⟨1, [.scan, .pix, .stats, .guard, .ddr, .flt], some (faultSet ++ missSet ++ dramSet ++
      [SCAN.SWAP_STATUS.HOLD_USED])⟩
  | .rowDeadline _ => ⟨1, [.scan, .pix, .stats, .flt], some (faultSet ++ missSet)⟩
  | .safetyLayerCheck _ => ⟨1, [.scan, .pix, .gal, .stats, .flt], some (faultSet ++ [GAL.CRC_ERR_COUNT.COUNT,
      GAL.SAFE_STATUS.CRC_ERR, GAL.STATUS.CRC_ABORT] ++ allOf 7 GAL.L.CRC_ACT.CRC_ACT)⟩
  | .pwmPeriodStart _ _ _ => ⟨1, [.scan, .pix, .stats, .guard, .diag, .cal, .flt], some (faultSet ++ mapSet ++
      [CAL.RESEL_COUNT.COUNT, CAL.SKIP_COUNT.COUNT, CAL.START_STATS.GLOBAL_MED, CAL.STATUS.CAL_ROW, CAL.TRIM_STATS.TRIMMED,
      DIAG.DEFER_COUNT.COUNT, DIAG.LEAK_COUNT.COUNT, DIAG.LINE.COL_FAULTS, DIAG.LINE.FIRST_COL, DIAG.LINE.FIRST_ROW,
      DIAG.LINE.ROW_FAULTS, DIAG.PREEMPT_COUNT.COUNT, DIAG.STATUS.LINE_FAULT, SAFE.CENTROID.C_REF, SAFE.FLUX.F_REF,
      SCAN.SWAP_STATUS.GRP_SWAPPED])⟩
  | .blankPassStart => ⟨2, [.scan, .shd], some [SCAN.BLANK_STATUS.PASS]⟩
  | .blankRowSlot _ _ => ⟨2, [.scan, .pix, .shd, .guard, .flt], some (faultSet ++ pathSet ++ [SCAN.BLANK_STATUS.PASS_LATE,
      SHD.EXPIRE_COUNT.COUNT, SHD.MISMATCH_COUNT.COUNT, SHD.STATUS.CMP_MISMATCH, SHD.STATUS.ROW_SINGLE,
      SHD.WR_REJECT_COUNT.COUNT])⟩
  | .publishTimer => ⟨2, [.shd, .guard, .flt], some (pathSet ++ [SHD.EXPIRE_COUNT.COUNT])⟩
  | .scanEnSet => ⟨1, [.scan, .flt], some (entrySet ++ originSet ++ [SAFE.FB_CAUSE.M7, SCAN.CTRL.EN, SCAN.FRAME_NUM.FRAME_NUM])⟩
  | .rasterStart => ⟨1, [.act, .free, .scan, .gal, .eng, .stats, .shd, .guard, .diag, .cal, .pins, .clk, .flt], some (entrySet ++
      sealSet ++ flipSet ++ layerSet ++ nextSet ++ pathSet ++ originSet ++ commitSet ++ governorSet ++ kilnSet ++ [BE.ACTIVE.ENG,
      BE.LATE_COUNT.COUNT, BE.LOAD.LOAD, BE.LOAD.LOAD_PEAK, BE.OPTICS.SHIFT, BE.SPARE.ENG, BE.STATUS.DEGRADED, BE.STATUS.STEPPED,
      BE.STATUS.TAKEOVER, CAL.AG_STATUS.GEN, GAL.FLIP_SKIP_COUNT.COUNT, GAL.SAFE_STATUS.DROPPED, GAL.STATUS.PARAM_ERR,
      SAFE.FB_CAUSE.FATAL, SAFE.FB_CAUSE.M7, SCAN.FRAME_NUM.FRAME_NUM, SCAN.MODE.MODE, SCAN.RASTER.ALIGNING, SCAN.RASTER.SLOT,
      SCAN.RASTER.SS_SUPPRESSED, SCAN.SWAP_STATUS.GRP_SWAPPED, SCAN.SWAP_STATUS.HOLD_PEAK] ++ allOf 16 BE.BAND_MAP.ENGINE ++ allOf
      16 BE.BAND_MAP.SHARED ++ allOf 96 FLT.COUNT.COUNT ++ allOf 64 GAL.FENCE.FENCE)⟩
  | .scanEnClear => ⟨1, [.scan, .pix, .shd, .flt], some [SAFE.FB_CAUSE.M7, SCAN.CTRL.EN]⟩
  | .scanCommitBit => ⟨1, [], some commitSet⟩
  | .galEnClear => ⟨1, [.scan], some [GAL.CTRL.EN]⟩
  | .fenceIncWrite w => ⟨1, [], some [GAL.FENCE.FENCE (fromWord GAL.FENCE_INC.INDEX w)]⟩
  | .fenceDirectWrite k _ => ⟨1, [], some [GAL.FENCE.FENCE k]⟩
  | .flipArm n _ => ⟨1, [], some [GAL.L.FLIP.ARM n, GAL.L.FLIP.FENCE_EN n, GAL.L.FLIP.FENCE_SEL n, GAL.L.FLIP.RETIRE_EN n,
      GAL.L.FLIP.RETIRE_SEL n]⟩
  | .lutDataWrite _ => ⟨1, [.gal], some [GAL.LUT_ADDR.INDEX, GAL.STATUS.LUT_IGN]⟩
  | .lutDataRead => ⟨1, [.free], some [GAL.LUT_ADDR.INDEX, GAL.LUT_DATA.ENTRY]⟩
  | .bufferRetire _ => ⟨1, [.gal], some (allOf 64 GAL.FENCE.FENCE)⟩
  | .kilnBuildComplete => ⟨1, [.gal], some [GAL.KILN_STATUS.BUILDING]⟩
  | .batchCommit => ⟨2, [.shd], some []⟩
  | .bandComplete _ => ⟨2, [.free, .dram, .gal, .eng, .stats], some ([DDRC.STATUS.RANGE_ERR] ++ allOf 64 GAL.FENCE.FENCE ++ allOf
      7 GAL.L.NEXT_CRC.NEXT_CRC)⟩
  | .pingpongBufferFree _ => ⟨2, [.eng], some []⟩
  | .videoInputReady _ => ⟨2, [.eng], some []⟩
  | .engineFault _ _ => ⟨2, [.free, .scan, .pix, .eng, .stats, .flt], some (faultSet ++ engineLossSet)⟩
  | .bandTimeout _ => ⟨2, [.free, .scan, .pix, .eng, .stats, .flt], some (faultSet ++ engineLossSet)⟩
  | .spareReady => ⟨2, [.eng], some []⟩
  | .spareRotation => ⟨2, [.eng], some []⟩
  | .selfTestComplete _ _ => ⟨2, [.free, .scan, .pix, .eng, .stats, .flt], some (faultSet ++ engineLossSet)⟩
  | .pausePeriodStart => ⟨2, [], some [BE.LOAD.PAUSE]⟩
  | .computeRestored => ⟨2, [.eng, .flt], some []⟩
  | .lowbeamReqAssert => ⟨6, [.lt, .synced, .scan, .pins, .pwr, .boot, .flt], some (entrySet ++ wakeSet ++
      [SAFE.FB_CAUSE.LOWBEAM])⟩
  | .lowbeamReqRelease => ⟨6, [.scan, .pins, .flt], some [SAFE.FB_CAUSE.LOWBEAM]⟩
  | .guardWatchdogExpiry => ⟨2, [.scan, .guard, .flt], some (entrySet ++ [SAFE.FB_CAUSE.FATAL, SAFE.FB_CAUSE.GUARD] ++ allOf 96
      FLT.COUNT.COUNT)⟩
  | .guardOscFail => ⟨2, [.scan, .guard, .flt], some (entrySet ++ [SAFE.FB_CAUSE.FATAL, SAFE.FB_CAUSE.GUARD] ++ allOf 96
      FLT.COUNT.COUNT)⟩
  | .safePacket _ => ⟨3, [.guard, .net, .flt], some (pathSet ++ safeSet)⟩
  | .canSafeFrame _ => ⟨5, [.guard, .flt], some (pathSet ++ safeSet ++ [CAN.DROP.COUNT])⟩
  | .safePartnerTimeout => ⟨2, [.guard, .flt], some pathSet⟩
  | .agreedValidityEnd => ⟨2, [.guard, .flt], some pathSet⟩
  | .strapReread _ => ⟨2, [.scan, .guard, .flt], some (entrySet ++ sealSet ++ [SAFE.FB_CAUSE.FATAL, SAFE.SEAL.STRAP_CHANGED] ++
      allOf 96 FLT.COUNT.COUNT)⟩
  | .mapEntryCommit => ⟨6, [.diag, .mram], some []⟩
  | .healingGenComplete => ⟨1, [.diag], some []⟩
  | .hourlyCheckpoint _ => ⟨1, [.scan, .cal, .mram, .flt], some (entrySet ++ [CAL.AG_STATUS.MODEL_GEN, CAL.STATUS.WITNESS_LOW,
      SAFE.FB_CAUSE.FATAL] ++ allOf 96 FLT.COUNT.COUNT)⟩
  | .delayMonitorReading _ => ⟨1, [.scan, .cal, .io, .flt], some (entrySet ++ [CAL.VM_STATUS.MARGIN_MIN, CAL.VM_STATUS.WORST_MON,
      SAFE.FB_CAUSE.FATAL] ++ allOf 96 FLT.COUNT.COUNT)⟩
  | .gainmapGenComplete => ⟨1, [.cal], some [CAL.STATUS.A_CLAMPED]⟩
  | .portEnSet _ => ⟨3, [.net], some (allOf 2 TX.CTRL.EN ++ allOf 2 TX.STATUS.STATE)⟩
  | .trn1Received _ _ => ⟨3, [.scan, .net, .flt], some (entrySet ++ linkSet ++ [SAFE.FB_CAUSE.FATAL] ++ allOf 96 FLT.COUNT.COUNT
      ++ allOf 2 TX.STATUS.INVERTED ++ allOf 2 TX.STATUS.LANE_MAP)⟩
  | .trn2Received _ _ _ => ⟨3, [.net, .flt], some (allOf 2 TX.STATUS.RATE ++ allOf 2 TX.STATUS.STATE ++ allOf 2 TX.STATUS.WRAP ++
      allOf 2 TX.TRAIN_FAIL)⟩
  | .rateChange _ => ⟨3, [.net], some []⟩
  | .adaptationComplete _ _ => ⟨3, [.net], some (allOf 8 TX.EQ.CTLE ++ allOf 8 TX.EQ.H1 ++ allOf 8 TX.EQ.H2 ++ allOf 8 TX.EQ.H3)⟩
  | .trainingTimeout _ => ⟨3, [.net], some (allOf 2 TX.TRAIN_FAIL)⟩
  | .trainingRestart _ => ⟨3, [.net], some []⟩
  | .fomMeasurement _ _ _ => ⟨3, [.scan, .net, .flt], some (entrySet ++ linkSet ++ [SAFE.FB_CAUSE.FATAL] ++ allOf 96
      FLT.COUNT.COUNT ++ allOf 8 TX.EQ.H1 ++ allOf 8 TX.EQ.H2 ++ allOf 8 TX.EQ.H3 ++ allOf 8 TX.FOM.FOM ++ allOf 2
      TX.STATUS.FOM_LOW)⟩
  | .bitLockLoss _ => ⟨3, [.scan, .net, .flt], some (entrySet ++ linkSet ++ [SAFE.FB_CAUSE.FATAL] ++ allOf 96 FLT.COUNT.COUNT)⟩
  | .codeErrorBurst _ _ => ⟨3, [.scan, .net, .flt], some (entrySet ++ linkSet ++ [SAFE.FB_CAUSE.FATAL] ++ allOf 96 FLT.COUNT.COUNT
      ++ allOf 2 TX.CODE_ERR)⟩
  | .retrain _ => ⟨3, [.scan, .net, .flt], some (entrySet ++ linkSet ++ [SAFE.FB_CAUSE.FATAL] ++ allOf 96 FLT.COUNT.COUNT)⟩
  | .portEnClear _ => ⟨3, [.scan, .net, .flt], some (entrySet ++ linkSet ++ [SAFE.FB_CAUSE.FATAL] ++ allOf 96 FLT.COUNT.COUNT ++
      allOf 2 TX.CTRL.EN)⟩
  | .quarantineRelease _ => ⟨3, [.net], some (allOf 2 TX.STATUS.STATE)⟩
  | .packetHeaderArrival _ _ => ⟨3, [.scan, .net, .mbx, .flt], some (entrySet ++ quarSet ++ [MBX.RSP_LOST.COUNT,
      SAFE.FB_CAUSE.FATAL] ++ allOf 96 FLT.COUNT.COUNT ++ allOf 2 TX.FWD_DROP ++ allOf 2 TX.LOCAL_DROP ++ allOf 2 TX.MALFORMED ++
      allOf 2 TX.ORPHAN ++ allOf 2 TX.WRAP_DROP)⟩
  | .packetEnd _ _ _ _ => ⟨3, [.scan, .net, .flt], some (entrySet ++ quarSet ++ [SAFE.FB_CAUSE.FATAL] ++ allOf 96 FLT.COUNT.COUNT
      ++ allOf 2 TX.CRC_ERR ++ allOf 2 TX.MALFORMED ++ allOf 2 TX.RATE_DROP ++ allOf 2 TX.STOMP_RX ++ allOf 2 TX.UNTRUSTED)⟩
  | .vrowPacket _ => ⟨3, [.dram, .scan, .gal, .net, .flt], some (entrySet ++ quarSet ++ [DDRC.STATUS.RANGE_ERR,
      SAFE.FB_CAUSE.FATAL] ++ allOf 96 FLT.COUNT.COUNT ++ allOf 64 GAL.FENCE.FENCE ++ allOf 2 TX.UNTRUSTED)⟩
  | .objPacket _ => ⟨3, [.scan, .shd, .net, .flt], some (entrySet ++ [FLT.INJ_COUNT.COUNT, SAFE.FB_CAUSE.FATAL,
      SHD.EVICT_COUNT.COUNT, SHD.WR_REJECT_COUNT.COUNT])⟩
  | .mboxReqPacket _ => ⟨4, ([.lt, .synced, .scan, .pwr, .boot] ++ mailParts), some (entrySet ++ wakeSet ++ quarSet ++
      [SAFE.FB_CAUSE.FATAL] ++ allOf 96 FLT.COUNT.COUNT ++ allOf 2 TX.MALFORMED)⟩
  | .nopEnum _ => ⟨4, mailParts, some ([TXLA.NODE.ADDR, TXLA.NODE.ADDR_VALID, TXLA.NODE.NODES, TXLA.NODE.TOPO] ++ allOf 2
      TX.STATUS.WRAP)⟩
  | .nopEnumEnd _ => ⟨4, mailParts, some ([TXLA.NODE.NODES, TXLA.NODE.TOPO] ++ allOf 2 TX.STATUS.WRAP)⟩
  | .nopTopo _ => ⟨3, [.net, .flt], some ([TXLA.NODE.NODES, TXLA.NODE.TOPO] ++ allOf 2 TX.STATUS.WRAP)⟩
  | .nopSleep _ => ⟨3, [.net], some []⟩
  | .syncTimer => ⟨3, [.net], some []⟩
  | .syncReqPacket _ => ⟨3, [.net], some []⟩
  | .syncAckPacket _ _ => ⟨3, [.lt, .synced, .net, .flt], some ([TXLA.STEP_COUNT.COUNT, TXLA.SYNC_STATUS.LT_STEP,
      TXLA.SYNC_STATUS.OFFSET, TXLA.SYNC_STATUS.STRATUM, TXLA.SYNC_STATUS.SYNCED, TXLA.SYNC_STATUS.SYNC_PORT] ++ allOf 2
      TX.DELAY.DELAY)⟩
  | .syncAckTimeout _ => ⟨3, [.net], some []⟩
  | .timeSetSend => ⟨3, [.net], some []⟩
  | .timeSetReceived _ _ => ⟨3, [.scan, .net, .flt], some (entrySet ++ [SAFE.FB_CAUSE.FATAL, TXLA.SYNC_STATUS.LT_DIVERGE] ++ allOf
      96 FLT.COUNT.COUNT)⟩
  | .wrapEndTimer => ⟨3, [.net, .flt], some (allOf 2 TX.STATUS.WRAP)⟩
  | .quarantineTimeout _ => ⟨3, [.net], some (allOf 2 TX.STATUS.STATE)⟩
  | .localPacketResend _ => ⟨3, [.net], some []⟩
  | .spiRead addr len _ => ⟨7, [.free, .io], some (burstRegs readRegs addr.toNat len)⟩
  | .spiWrite addr len _ _ _ => ⟨7, [.act, .lt, .synced, .scan, .pix, .gal, .eng, .shd, .net, .mbx, .io, .aux, .clk, .pwr, .boot,
      .flt, .evt], some (burstRegs writeRegs addr.toNat len)⟩
  | .spiReread _ _ _ => ⟨7, [.io], some []⟩
  | .spiFrameAbort addr _ _ _ fetched => ⟨7, [.free], some (burstRegs readRegs addr.toNat fetched)⟩
  | .canDiagSegment _ => ⟨4, [.lt, .synced, .mbx, .pwr, .boot, .flt], some (wakeSet ++ [CAN.DROP.COUNT])⟩
  | .busOffEntry => ⟨5, [.scan, .flt], some (entrySet ++ [CAN.STATUS.BUS_OFF, CAN.STATUS.STATE, SAFE.FB_CAUSE.FATAL] ++ allOf 96
      FLT.COUNT.COUNT)⟩
  | .wakePortWrite _ _ => ⟨5, [.lt, .synced, .pwr, .boot, .flt], some (wakeSet ++ [PWR.STATE.WAKE_CODE])⟩
  | .headroomLoop _ => ⟨5, [.scan, .io], some [SCAN.VLED_STATUS.AT_MAX, SCAN.VLED_STATUS.HR_FLAGS]⟩
  | .pmbusTransaction _ _ => ⟨5, [.scan, .io, .flt], some (entrySet ++ [CAL.VM_STATUS.PMBUS_ERR, CAL.VM_STATUS.VC_SET,
      SAFE.FB_CAUSE.FATAL, SCAN.VLED_STATUS.PMBUS_ERR, SCAN.VLED_STATUS.VLED_SET] ++ allOf 96 FLT.COUNT.COUNT)⟩
  | .pmbusClockTimeout => ⟨5, [.scan, .io, .flt], some (entrySet ++ [CAL.VM_STATUS.PMBUS_ERR, CAL.VM_STATUS.VC_SET,
      SAFE.FB_CAUSE.FATAL, SCAN.VLED_STATUS.PMBUS_ERR, SCAN.VLED_STATUS.VLED_SET] ++ allOf 96 FLT.COUNT.COUNT)⟩
  | .iomuxApply => ⟨5, [.act], some [IOMUX.STATUS.CONFLICT, IOMUX.STATUS.CONF_PIN, IOMUX.STATUS.WIGN, SYS.WIGN.BLOCK]⟩
  | .extEvtEdge _ => ⟨5, [.flt], some []⟩
  | .ltMark => ⟨5, [.pins], some []⟩
  | .ifbSetFault _ => ⟨5, [.scan, .flt], some (entrySet ++ [SAFE.FB_CAUSE.FATAL, SCAN.IFB_STATUS.IFB_NA, SCAN.IFB_STATUS.IFB_OPEN,
      SCAN.IFB_STATUS.IFB_SHORT] ++ allOf 96 FLT.COUNT.COUNT)⟩
  | .doorbell _ => ⟨4, [.lt, .synced, .mbx, .pwr, .boot, .flt], some (wakeSet ++ [MBX.STATUS.RING_IGN])⟩
  | .mbxAck _ => ⟨4, [.mbx], some []⟩
  | .evtPop => ⟨4, [.flt, .evt], some []⟩
  | .commandAccept => ⟨4, [.mbx], some []⟩
  | .commandStart _ => ⟨4, mailParts, some []⟩
  | .mboxRspResend _ => ⟨4, [.net, .mbx], some []⟩
  | .sessionIdleTimeout _ => ⟨4, [.mbx], some []⟩
  | .eventPacketSend => ⟨4, [.net, .evt], some []⟩
  | .identify _ => ⟨4, mailParts, some []⟩
  | .sessionOpen _ => ⟨4, ([.free] ++ mailParts), some []⟩
  | .sessionAuth _ => ⟨4, mailParts, some []⟩
  | .sessionClose _ => ⟨4, mailParts, some []⟩
  | .setLt _ => ⟨4, ([.lt, .synced] ++ mailParts), some []⟩
  | .regRead mb => ⟨4, ([.free] ++ mailParts), some (burstRegs readRegs (leAt (s.params mb) 0 4) (leAt (s.params mb) 4 1))⟩
  | .regWrite mb => ⟨4, ([.act, .lt, .synced, .scan, .pix, .gal, .eng, .shd, .aux, .clk, .pwr, .boot, .evt] ++ mailParts), some
      (burstRegs writeRegs (leAt (s.params mb) 0 4) (leAt (s.params mb) 4 1))⟩
  | .echo _ => ⟨4, mailParts, some []⟩
  | .setMode _ => ⟨4, ([.eng] ++ mailParts), some (commitSet ++ [SCAN.MODE.MODE])⟩
  | .commit _ => ⟨4, mailParts, some commitSet⟩
  | .frameStats _ => ⟨4, ([.stats] ++ mailParts), some []⟩
  | .layerFlip _ => ⟨4, mailParts, some (flipSet ++ nextSet)⟩
  | .fenceWait _ => ⟨4, mailParts, some []⟩
  | .fenceWaitTimeout _ => ⟨4, mailParts, some []⟩
  | .lutLoad _ => ⟨4, ([.gal] ++ mailParts), some [GAL.STATUS.LUT_IGN]⟩
  | .videoWindow _ => ⟨4, mailParts, some []⟩
  | .objWrite _ => ⟨4, ([.scan, .shd] ++ mailParts), some (entrySet ++ [FLT.INJ_COUNT.COUNT, SAFE.FB_CAUSE.FATAL,
      SHD.EVICT_COUNT.COUNT, SHD.WR_REJECT_COUNT.COUNT])⟩
  | .objRead _ => ⟨4, mailParts, some []⟩
  | .objClear _ => ⟨4, ([.scan, .shd] ++ mailParts), some (entrySet ++ [FLT.INJ_COUNT.COUNT, SAFE.FB_CAUSE.FATAL,
      SHD.WR_REJECT_COUNT.COUNT])⟩
  | .rsetEntry _ => ⟨4, ([.eng] ++ mailParts), some []⟩
  | .rsetDelete _ => ⟨4, ([.eng] ++ mailParts), some []⟩
  | .rsetSubmit _ => ⟨4, ([.eng] ++ mailParts), some []⟩
  | .patternLoad _ => ⟨4, ([.eng, .ddr] ++ mailParts), some dramSet⟩
  | .symlibLoad _ => ⟨4, ([.eng, .ddr] ++ mailParts), some dramSet⟩
  | .lensRead _ _ => ⟨4, ([.free, .eng] ++ mailParts), some (opticsSet ++ [BE.OPTICS.RESID, BE.OPTICS.SOURCE])⟩
  | .fbRelease _ => ⟨4, mailParts, some [SAFE.FB_CAUSE.BLOCK, SAFE.FB_CAUSE.CLOCK, SAFE.FB_CAUSE.FATAL, SAFE.FB_CAUSE.GUARD]⟩
  | .safeWindow _ => ⟨4, ([.guard] ++ mailParts), some []⟩
  | .fbPattern _ _ => ⟨4, ([.pix, .ddr] ++ mailParts), some (dramSet ++ [DDRC.STATUS.RANGE_ERR, SCAN.FB_COUNT.COUNT,
      SCAN.FB_CTRL.FB_VALID])⟩
  | .reseal _ _ => ⟨4, ([.free, .guard, .ddr] ++ mailParts), some (dramSet ++ [DDRC.STATUS.RANGE_ERR, SAFE.SEAL.SLOTS_FREE])⟩
  | .pixelAge _ => ⟨4, mailParts, some []⟩
  | .mapRead _ => ⟨4, mailParts, some []⟩
  | .mapClear _ => ⟨4, ([.scan, .pix, .diag, .mram] ++ mailParts), some (entrySet ++ [DIAG.TRIM_REJ.COUNT, SAFE.FB_CAUSE.FATAL] ++
      allOf 96 FLT.COUNT.COUNT)⟩
  | .faultInject _ => ⟨6, [.free, .scan, .pix, .gal, .eng, .stats, .guard, .net, .mbx, .thm, .flt], some (faultSet ++ sealSet ++
      engineLossSet ++ [CAL.VM_STATUS.PMBUS_ERR, GAL.KILN_STATUS.ACTIVE, SAFE.FB_CAUSE.GUARD, SAFE.FB_CAUSE.SOFT_STOP,
      SCAN.FB_CTRL.FB_HALF, SCAN.VLED_STATUS.PMBUS_ERR, THM.SOFT_STOP_COUNT.COUNT])⟩
  | .injectRepeat => ⟨6, [.free, .scan, .pix, .gal, .eng, .stats, .guard, .thm, .flt], some (faultSet ++ sealSet ++ engineLossSet
      ++ [CAL.VM_STATUS.PMBUS_ERR, GAL.KILN_STATUS.ACTIVE, SAFE.FB_CAUSE.GUARD, SAFE.FB_CAUSE.SOFT_STOP, SCAN.FB_CTRL.FB_HALF,
      SCAN.VLED_STATUS.PMBUS_ERR, THM.SOFT_STOP_COUNT.COUNT])⟩
  | .zoneRatio _ => ⟨4, mailParts, some []⟩
  | .vfRead _ => ⟨4, mailParts, some []⟩
  | .doseRead _ => ⟨4, mailParts, some []⟩
  | .witnessRead _ => ⟨4, mailParts, some []⟩
  | .recalibrate _ _ _ => ⟨4, ([.scan, .pix, .diag, .cal] ++ mailParts), some (faultSet ++ mapSet ++ [CAL.START_STATS.DARK_US,
      CAL.START_STATS.GLOBAL_MED, CAL.STATUS.DONE, CAL.STATUS.WRITE_FAIL, CAL.TRIM_STATS.TRIMMED])⟩
  | .pwrSleep _ _ => ⟨6, [.net, .mbx, .pwr, .flt], some [PWR.STATE.STATE]⟩
  | .powerDown _ => ⟨4, ([.scan, .pix, .shd, .diag, .cal, .mram] ++ mailParts), some [SAFE.FB_CAUSE.M7, SCAN.CTRL.EN]⟩
  | .enumerate _ => ⟨4, ([.lt, .synced, .pwr, .boot] ++ mailParts), some (wakeSet ++ [TXLA.NODE.ADDR, TXLA.NODE.ADDR_VALID])⟩
  | .assignAddr _ => ⟨4, mailParts, some [TXLA.NODE.ADDR, TXLA.NODE.ADDR_VALID]⟩
  | .auxSet _ => ⟨5, [.net, .mbx, .aux, .flt], some []⟩
  | .auxPattern _ => ⟨5, [.net, .mbx, .aux, .flt], some []⟩
  | .auxGamma _ => ⟨5, [.net, .mbx, .aux, .flt], some []⟩
  | .auxGate _ => ⟨5, [.net, .mbx, .aux, .flt], some []⟩
  | .eventsRead _ => ⟨4, ([.evt] ++ mailParts), some []⟩
  | .eventsHistory _ => ⟨4, mailParts, some []⟩
  | .flashWrite _ _ => ⟨4, ([.free, .flash] ++ mailParts), some []⟩
  | .flashErase _ _ => ⟨4, ([.free, .flash] ++ mailParts), some []⟩
  | .slotSelect _ _ _ => ⟨4, ([.free, .flash] ++ mailParts), some []⟩
  | .cfgRead _ => ⟨4, mailParts, some []⟩
  | .cfgWrite _ _ => ⟨4, ([.free, .mram] ++ mailParts), some [MRAM.STATUS.WEAR_HOLD]⟩
  | .auxFrameGrid _ => ⟨5, [.aux], some []⟩
  | .auxGatePeriodStart _ => ⟨5, [.aux], some []⟩
  | .auxEnSet => ⟨5, [.aux], some [AUX.CTRL.EN]⟩
  | .clockMonitorTrip _ => ⟨6, [.synced, .scan, .pix, .stats, .shd, .guard, .net, .aux, .clk, .flt], some (entrySet ++ linkSet ++
      [CLK.MON_FAIL.CLK, CLK.STATUS.CLOCK_OK, CLK.STATUS.PLL_LOCK, SAFE.FB_CAUSE.CLOCK, SAFE.FB_CAUSE.FATAL] ++ allOf 96
      FLT.COUNT.COUNT)⟩
  | .clocksGood => ⟨6, [.scan, .net, .aux, .clk, .flt], some (entrySet ++ [CLK.STATUS.CLOCK_OK, CLK.STATUS.PLL_LOCK,
      SAFE.FB_CAUSE.FATAL] ++ allOf 96 FLT.COUNT.COUNT ++ allOf 2 TX.STATUS.STATE)⟩
  | .clkswForced _ => ⟨6, [.scan, .flt], some (entrySet ++ [CLK.FORCED_COUNT.COUNT, CLK.STATUS.CLKSW_FORCED, SAFE.FB_CAUSE.FATAL]
      ++ allOf 96 FLT.COUNT.COUNT)⟩
  | .rampDwellStep => ⟨6, [.clk], some []⟩
  | .refclkDetectWindow _ => ⟨6, [], some [CLK.STATUS.SRC]⟩
  | .crystalDelayExpiry => ⟨6, [.clk], some []⟩
  | .pllLock => ⟨6, [.clk], some [CLK.STATUS.CLOCK_OK, CLK.STATUS.PLL_LOCK]⟩
  | .clkDivWrite _ => ⟨6, [.clk], some [CLK.DIV.BUS, CLK.DIV.CORE, CLK.DIV.PER, CLK.DIV.PIX, CLK.STATUS.WIGN, SYS.WIGN.BLOCK]⟩
  | .ssRefWrite _ => ⟨6, [], some [CLK.SS_REF.DEPTH, CLK.SS_REF.EN, CLK.SS_REF.RATE, CLK.STATUS.WIGN, SYS.WIGN.BLOCK]⟩
  | .clkGateWrite _ => ⟨6, [], some ([CLK.STATUS.WIGN, SYS.WIGN.BLOCK] ++ allOf 21 CLK.GATE.EN)⟩
  | .sleepEntryAbort _ => ⟨6, [.flt], some [PWR.ABORT_COUNT.COUNT, PWR.STATE.STATE, PWR.STATUS.ABORTED]⟩
  | .wakePin => ⟨6, [.lt, .synced, .pwr, .boot, .flt], some wakeSet⟩
  | .wakeSequence => ⟨6, [.act, .scan, .pix, .guard, .diag, .cal, .net, .io, .clk, .pwr, .ddr, .flt], some (entrySet ++ sealSet ++
      enableSet ++ originSet ++ dramSet ++ boardSet ++ mramSet ++ [CLK.STATUS.CLOCK_OK, CLK.STATUS.PLL_LOCK, CLK.STATUS.SRC,
      DIAG.TRIM_REJ.COUNT, PWR.STATE.STATE, SAFE.EFFECTIVE.RING_ROLE, SAFE.FB_CAUSE.FATAL, SAFE.FB_CAUSE.M7, SAFE.SEAL.STRAP,
      SCAN.FRAME_NUM.FRAME_NUM, SCAN.MODE.MODE, SCAN.VLED_LIM.VLED_MAX, SCAN.VLED_LIM.VLED_MIN] ++ DDRC.fields ++ allOf 96
      FLT.COUNT.COUNT ++ allOf 2 TX.ASYM.ASYM ++ allOf 2 TX.STATUS.STATE)⟩
  | .wakeReadinessTimeout _ => ⟨6, resetParts, none⟩
  | .dramIdleSelfRefresh => ⟨6, [.ddr], some [DDRC.STATUS.POWER_DOWN, DDRC.STATUS.SELF_REFRESH]⟩
  | .thermalSample _ => ⟨6, [.scan, .cal, .thm, .mram, .flt], some (entrySet ++ [SAFE.FB_CAUSE.FATAL, SAFE.FB_CAUSE.SOFT_STOP,
      SCAN.FB_CTRL.FB_HALF, THM.SOFT_STOP_COUNT.COUNT, THM.STATUS.HOT_SENSOR, THM.STATUS.LEVEL, THM.STATUS.SENSOR_FAIL,
      THM.STATUS.TJ, THM.THROTTLE_COUNT.COUNT] ++ allOf 96 FLT.COUNT.COUNT ++ allOf 68 THM.ZONE.T)⟩
  | .housekeepingRound _ => ⟨6, [.scan, .thm, .flt], some (entrySet ++ [AUX.STATUS.DERATING, AUX.STATUS.F, DDRC.STATUS.HOT,
      SAFE.FB_CAUSE.FATAL, THM.HK_VALID.VALID] ++ allOf 96 FLT.COUNT.COUNT ++ allOf 5 THM.HK.T)⟩
  | .hardTrip _ => ⟨6, resetParts, none⟩
  | .hardTripRelease => ⟨6, [.scan, .boot, .thm], some [SAFE.FB_CAUSE.LOWBEAM, SCAN.FB_CTRL.RESET_LONG_ROM,
      SYS.RESET_CAUSE.CAUSE]⟩
  | .ddrcEnSet => ⟨6, [], some [DDRC.CTRL.EN, DDRC.STATUS.MAP_ERR, DDRC.STATUS.ORG_ERR]⟩
  | .dramRefresh => ⟨6, [.ddr], some []⟩
  | .zqCalibration => ⟨6, [.ddr], some []⟩
  | .dramActivate _ _ => ⟨6, [.free, .ddr], some (dramSet ++ [DDRC.RHP_COUNT.COUNT])⟩
  | .ddrAlert _ => ⟨6, [.scan, .pix, .eng, .stats, .flt], some (entrySet ++ [DDRC.REPLAY_COUNT.COUNT, DDRC.UE_ADDR_HI.ADDR,
      DDRC.UE_ADDR_HI.CLASS_S, DDRC.UE_ADDR_LO.ADDR, DDRC.UE_COUNT.COUNT, SAFE.FB_CAUSE.FATAL] ++ allOf 96 FLT.COUNT.COUNT)⟩
  | .dramReadError _ _ _ _ => ⟨6, [.scan, .pix, .eng, .stats, .ddr, .flt], some (entrySet ++ [BE.STATUS.DOSE_LOST,
      DDRC.CE_COUNT.COUNT, DDRC.UE_ADDR_HI.ADDR, DDRC.UE_ADDR_HI.CLASS_S, DDRC.UE_ADDR_LO.ADDR, DDRC.UE_COUNT.COUNT,
      SAFE.FB_CAUSE.FATAL] ++ allOf 96 FLT.COUNT.COUNT)⟩
  | .tolCountdownExpiry => ⟨6, [.ddr], some dramSet⟩
  | .dramIdlePowerState => ⟨6, [.ddr], some [DDRC.STATUS.POWER_DOWN, DDRC.STATUS.SELF_REFRESH]⟩
  | .patrolScrub _ => ⟨6, [], some [DDRC.CE_COUNT.COUNT]⟩
  | .mramRecordCommit _ => ⟨6, [.diag, .cal, .mram], some []⟩
  | .mramCopyRepair _ => ⟨6, [.mram], some []⟩
  | .mramScrub _ => ⟨6, [.scan, .mram, .flt], some (entrySet ++ [MRAM.CE_COUNT.COUNT, SAFE.FB_CAUSE.FATAL] ++ allOf 96
      FLT.COUNT.COUNT)⟩
  | .wearAllowanceTick => ⟨6, [.mram], some []⟩
  | .faultDetect _ _ _ => ⟨6, [.free, .scan, .pix, .gal, .eng, .stats, .guard, .flt], some (faultSet ++ sealSet ++ engineLossSet
      ++ [GAL.KILN_STATUS.ACTIVE])⟩
  | .faultGrant => ⟨6, [.scan, .flt, .evt], some (entrySet ++ firstSet ++ pendSet ++ [FLT.LAST.CLASS, FLT.LAST.ESCALATED,
      FLT.LAST.INJ, FLT.LAST.SRC, MBX.EVT_COUNT.LOST, SAFE.FB_CAUSE.FATAL])⟩
  | .fltAck _ => ⟨6, [.flt], some (firstSet ++ pendSet)⟩
  | .errNMinWidthExpiry => ⟨6, [.flt], some []⟩
  | .supervisorRestart => ⟨6, [.eng, .net, .mbx, .boot, .flt], some [FLT.STATUS.RESTARTING, FLT.STATUS.RESTARTS,
      FLT.STATUS.SUP_HALTED]⟩
  | .restartComplete _ _ => ⟨6, [.free, .scan, .diag, .cal, .boot, .flt], some (entrySet ++ bootSet ++ [FLT.STATUS.RESTARTING,
      SAFE.FB_CAUSE.FATAL] ++ allOf 96 FLT.COUNT.COUNT)⟩
  | .aliasRead addr => ⟨7, [.free, .io], some (readRegs addr.toNat)⟩
  | .aliasWrite addr _ => ⟨7, [.act, .lt, .synced, .scan, .pix, .gal, .eng, .shd, .net, .mbx, .aux, .clk, .pwr, .boot, .flt,
      .evt], some (writeRegs addr.toNat)⟩
  | .rcFieldRead addr => ⟨7, [.free, .io], some (readRegs addr.toNat)⟩
  | .registerWrite addr _ => ⟨7, [.act, .lt, .synced, .scan, .pix, .gal, .eng, .shd, .net, .mbx, .aux, .clk, .pwr, .boot, .flt,
      .evt], some (writeRegs addr.toNat)⟩
  | .crcInit u _ => ⟨7, [], some (checkRegs u)⟩
  | .crcData u _ => ⟨7, [], some (checkRegs u)⟩
  | .crcData8 u _ => ⟨7, [], some (checkRegs u)⟩
  | .vsys33PowerOn => ⟨6, resetParts, none⟩
  | .supplyFail => ⟨6, resetParts, none⟩
  | .resetNAssert => ⟨6, resetParts, none⟩
  | .resetNRelease _ => ⟨6, [.boot], some [SYS.RESET_CAUSE.CAUSE, SYS.RESET_CAUSE.HELD_S, SYS.RESET_CAUSE.RESET_LONG]⟩
  | .coldBoot _ => ⟨6, [.act, .free, .scan, .pix, .eng, .guard, .diag, .cal, .net, .io, .clk, .pwr, .boot, .flt], some (faultSet
      ++ sealSet ++ enableSet ++ originSet ++ boardSet ++ bootSet ++ mapSet ++ mramSet ++ opticsSet ++ [BE.OPTICS.RESID,
      BE.OPTICS.SOURCE, CAL.AG_STATUS.FB_HOURS, CAL.START_STATS.DARK_US, CAL.START_STATS.GLOBAL_MED, CAL.STATUS.DONE,
      CAL.STATUS.STARTUP_ABORT, CAL.STATUS.WRITE_FAIL, CAL.TRIM_STATS.TRIMMED, CAL.VM_STATUS.MARGIN_MIN, CAL.VM_STATUS.VC_SET,
      CAL.VM_STATUS.WORST_MON, CLK.STATUS.CLOCK_OK, CLK.STATUS.OSCDLY, CLK.STATUS.OSCDLY_OTP, CLK.STATUS.PLL_LOCK, CLK.STATUS.SRC,
      DDRC.STATUS.DRAM_FAIL, DDRC.STATUS.MAP_ERR, DDRC.STATUS.ORG_ERR, DDRC.STATUS.READY, FLT.STATUS.RESTARTING, PWR.STATE.STATE,
      SAFE.EFFECTIVE.RING_ROLE, SAFE.FB_CAUSE.M7, SAFE.SEAL.STRAP, SCAN.FRAME_NUM.FRAME_NUM, SCAN.IFB_STATUS.IFB_NA,
      SCAN.MODE.MODE, SCAN.VLED_LIM.VLED_MAX, SCAN.VLED_LIM.VLED_MIN, SYS.BOOT.DIR_COPY, SYS.BOOT.FLASH_MODE] ++ DDRC.fields ++
      allOf 2 TX.ASYM.ASYM ++ allOf 2 TX.STATUS.STATE)⟩
  | .corePgRise => ⟨6, [.pwr], some []⟩
  | .canBusError _ => ⟨5, [], some [CAN.STATUS.REC, CAN.STATUS.STATE, CAN.STATUS.TEC]⟩
  | .canBusOffRecovery => ⟨5, [], some [CAN.STATUS.REC, CAN.STATUS.STATE, CAN.STATUS.TEC]⟩
  | .elasticBufferSlip _ => ⟨3, [.scan, .net, .flt], some (entrySet ++ linkSet ++ [SAFE.FB_CAUSE.FATAL] ++ allOf 96
      FLT.COUNT.COUNT ++ allOf 2 TX.CODE_ERR)⟩
  | .enumerateTimeout _ => ⟨4, mailParts, some []⟩
  | .guardGood => ⟨2, [.guard], some []⟩

/-- From `s` to `t` nothing changes but what command `i` may change; the queue of commands stays. -/
def Framed (i : Instr) (s t : State) : Prop :=
  t.pending = s.pending ∧ (∀ p, p ∉ (mayChange s i).parts → p.Same s t)
    ∧ ∀ l, (mayChange s i).regs = some l → ∀ f, Outside l (fieldKey f) → t.reg f = s.reg f

/-! ### Safe states -/

/-- DRAM and flash list no byte twice, in address order, and none equal to what an unlisted address reads as (R403, R496). -/
def MemoryOk (s : State) : Prop := Memory.wf 0 s.dram ∧ Memory.wf 0 s.flash.cells

/-- The event queue holds at most 128 records and the history at most 256 (R427). -/
def EventsOk (s : State) : Prop := s.evt.queue.length ≤ 128 ∧ s.evt.history.length ≤ 256

/-- There are eight mailboxes and at most four sessions (R410, R419). -/
def MailOk (s : State) : Prop := s.mbx.boxes.length = 8 ∧ s.mbx.sessions.length ≤ 4

end Sys2Proof.Machine
end

