-- ==== Sys2Proof/Claims.lean ====
section
/-! DEFINITION. Claims.lean: what the statements say a command answers: its response, the faults and events it raises, and the effects
that several of them share. -/

namespace Sys2Proof.Machine

/-! ### What a command answers -/

/-- Command `c` goes on to a next state, of which `P` holds. -/
def Completes (c : Instr) (s : State) (P : State → Prop) : Prop := ∃ t, exec c s = .next t ∧ P t

/-- An event as raised in state `s` (R426). -/
def eventOf (s : State) (code : Nat) (args : List Byte) : EventRec :=
  { code := code, node := s.reg TXLA.NODE.ADDR, eseq := 0, lt := s.now % 2 ^ 48, inj := false, args := padTo 16 args }

/-- Exactly these events, with their arguments, were raised (R428, R532). -/
def Told (s t : State) (l : List (Nat × List Byte)) : Prop := t.flt.jorosh = s.flt.jorosh ++ l.map (fun x => eventOf s x.1 x.2)

/-- Source `src` detected a real fault of class `cls`: its count advanced, and a request of at least that class waits (R532, R550). -/
def Faulted (s t : State) (src cls : Nat) : Prop :=
  t.reg (FLT.COUNT.COUNT src) = min 0xFFFFFFFF (s.reg (FLT.COUNT.COUNT src) + 1)
    ∧ ∃ w, sparseGet none t.flt.real src = some w ∧ cls ≤ w.cls

/-- Mailbox `mb` runs command `op` with the parameters `p` (R416). -/
def Runs (s : State) (mb op : Nat) (p : List Byte) : Prop :=
  supUp s = true ∧ mb < 8 ∧ (s.mb mb).phase = .started ∧ reqOp (s.mb mb).req = op ∧ s.params mb = p

/-- Mailbox `mb` is DONE with the response of its request: opcode, tag, status, length and data (R410, R412, R417). Data is returned
with status OK or PARTIAL alone; the other mailboxes stand as they were. -/
def Answered (s t : State) (mb status : Nat) (data : List Byte) : Prop :=
  (t.mb mb).phase = .done ∧ mb ∉ t.mbx.accepted ∧ leAt (t.mb mb).rsp 0 2 = reqOp (s.mb mb).req
    ∧ leAt (t.mb mb).rsp 2 1 = reqTag (s.mb mb).req ∧ leAt (t.mb mb).rsp 3 1 = status
    ∧ leAt (t.mb mb).rsp 4 2 = data.length ∧ bytesAt (t.mb mb).rsp 8 data.length = data
    ∧ ∀ k, k ≠ mb → t.mb k = s.mb k

/-- Counter `f` advanced by `n`, saturating at its width. -/
def Counted (s t : State) (f : Field) (n : Nat) : Prop := t.reg f = min (2 ^ f.width - 1) (s.reg f + n)

/-- A frame start at lamp time `s.now` opened a new frame (R16, R87, R99, R406). COMMIT_PEND clears, unless the engines step down at
this very frame start and request the next commit (R222). -/
def NewFrame (s t : State) : Prop :=
  t.reg SCAN.FRAME_NUM.FRAME_NUM = (s.reg SCAN.FRAME_NUM.FRAME_NUM + 1) % 2 ^ 32
    ∧ t.flag SCAN.COMMIT_STATUS.COMMIT_PEND = t.eng.stepMode.isSome ∧ t.reg SCAN.RASTER.SLOT = 0 ∧ t.scan.nextRow = 0 ∧ t.scan.hold = []
    ∧ t.scan.frameLt = s.now ∧ t.pins.frameSync = some s.now ∧ t.scan.loading = decide (t.mode ≠ 7)

/-- The context slots are listed once each, in order, and none that is empty (R164). -/
def SlotsOk (s : State) : Prop := sparseWf (⟨none, none⟩ : CtxSlot) s.shd.slots = true

/-- A publish point from `s` to `t` (R168, R174, R252): staged records become active or delete, those of an uncommitted batch and
deferred deletions stay staged, expired contexts leave, no commit waits, and the Guard's digest is that of the contexts now active. -/
def Published (s t : State) : Prop :=
  (∀ n c, s.ctxSlot n = ⟨some c, none⟩ →
    t.ctxSlot n = if c.expired s (c.age s.now s.now) then ⟨none, none⟩ else ⟨some c, none⟩)
  ∧ (∀ n x, (s.ctxSlot n).staged = some x → (x.batch = true → s.shd.commitDue = true) → x.ctx.valid = true →
    t.ctxSlot n = if x.ctx.expired s (x.ctx.age s.now s.now) then ⟨none, none⟩ else ⟨some x.ctx, none⟩)
  ∧ (∀ n x, (s.ctxSlot n).staged = some x → (x.batch = true → s.shd.commitDue = true) → x.ctx.valid = false →
      (s.reg SAFE.STATUS.PATH_STATE = 2 ∨ ∀ c, (s.ctxSlot n).active = some c → c.glare s = false) →
    t.ctxSlot n = ⟨none, none⟩)
  ∧ (∀ n x, (s.ctxSlot n).staged = some x → x.batch = true → s.shd.commitDue = false → (t.ctxSlot n).staged = some x)
  ∧ (∀ n x c, (s.ctxSlot n).staged = some x → (x.batch = true → s.shd.commitDue = true) → x.ctx.valid = false →
      s.reg SAFE.STATUS.PATH_STATE ≠ 2 → (s.ctxSlot n).active = some c → c.glare s = true →
    (t.ctxSlot n).staged = some { x with batch := false })
  ∧ t.shd.commitDue = false ∧ t.guard.digest = digestOf t

/-- Engine `n` was retired by a fault: it is neither active nor spare, its fault is counted and raised, and with fewer than eight
healthy engines left source 24 raises FATAL (R216, R530). -/
def EngineRetired (s t : State) (n : Nat) : Prop :=
  isActive t n = false ∧ isSpare t n = false ∧ bit (t.reg BE.RETIRED.ENG) n = true ∧ Counted s t BE.FAULT_COUNT.COUNT 1
    ∧ Faulted s t (25 + n) 2
    ∧ ((List.range 18).countP (fun e => e != n && (isActive s e || isSpare s e)) < 8 →
      Faulted s t 24 3 ∧ t.flag SAFE.FB_CAUSE.FATAL = true)

/-- What the loss of the active engine `n` does beside its retirement (R217): the frame in load is aborted, the running set abandoned
and latched again, its bands' dose is lost, and a spare is asked for while one is left. -/
def EngineLost (s t : State) (n : Nat) : Prop :=
  EngineRetired s t n ∧ t.scan.loading = false ∧ (s.scan.loading = true → t.stats.aborts = s.stats.aborts + 1)
    ∧ t.eng.running = none ∧ (s.eng.running ≠ none → t.eng.latched ≠ none)
    ∧ (∀ b, b < 16 → s.reg (BE.BAND_MAP.ENGINE b) = n → bit t.eng.lostBands b = true) ∧ t.flag BE.STATUS.DOSE_LOST = true
    ∧ (isSpare s n = false → s.eng.orphans.length < (List.range 18).countP (isSpare s) → t.eng.orphans = s.eng.orphans ++ [n])

/-- A SAFE record was judged on path A or B (R251, R271): an accepted one shows its SEQ, a rejected one is counted and changes nothing
in the Guard. -/
def SafeJudged (s t : State) (pathB : Bool) (b : List Byte) : Prop :=
  (safeAccepted s pathB b = true →
    t.reg (if pathB then SAFE.SEQ_B.VALUE else SAFE.SEQ_A.VALUE) = leAt b 0 4
    ∧ lastSeq t pathB = some (leAt b 0 4))
  ∧ (safeAccepted s pathB b = false →
    t.guard = s.guard ∧ Counted s t (if pathB then SAFE.REJECT_B.VALUE else SAFE.REJECT_A.VALUE) 1)

/-- Something that ends an agreement (R254, R255): AGREED becomes MERGED; in WITHDRAWN the count of agreed pairs restarts; MERGED stays. -/
def AgreementEnds (s t : State) : Prop :=
  (s.reg SAFE.STATUS.PATH_STATE = 2 → t.reg SAFE.STATUS.PATH_STATE = 1 ∧ t.flag SAFE.STATUS.PATH_CHANGE = true
    ∧ Told s t [(0x0602, toLe 1 1)])
  ∧ (s.reg SAFE.STATUS.PATH_STATE = 0 → t.reg SAFE.STATUS.PATH_STATE = 0 ∧ t.guard.withdrawnPairs = 0)
  ∧ (s.reg SAFE.STATUS.PATH_STATE = 1 → t.reg SAFE.STATUS.PATH_STATE = 1 ∧ t.guard.mergedFrames = s.guard.mergedFrames)

/-- Every row group is on fallback drive. -/
def AllOnFallback (t : State) : Prop := ∀ g ∈ t.scan.groups, g.drive = .fallback

/-- Record `num` was committed with payload `data` from `s` to `t` (R512, R518): the copy that was not the newest holds it with the
next GEN, the other copy stands, the journal entry is DONE, and one commit of the allowance is used. -/
def Committed (s t : State) (num : Nat) (data : List Byte) : Prop :=
  recOf t num = (if (nextCopy (recOf s num)).1 = 0 then { recOf s num with a := some ⟨(nextCopy (recOf s num)).2, data⟩ }
    else { recOf s num with b := some ⟨(nextCopy (recOf s num)).2, data⟩ })
  ∧ sparseGet ⟨0, 0, 0, 0⟩ t.mram.journal s.mram.jnext = ⟨num, (nextCopy (recOf s num)).1, 2, (nextCopy (recOf s num)).2⟩
  ∧ t.mram.jnext = (s.mram.jnext + 1) % 8192 ∧ sparseGet 0 t.mram.used num = sparseGet 0 s.mram.used num + 1

/-- The parts that there are a fixed number of are all there: row groups, ports, video windows, pattern engines, gates and frames of
the auxiliary outputs, witnesses and sensors (R28, R321, R335, R350, R433, R435, R439, R480). -/
def ShapeOk (s : State) : Prop :=
  s.scan.groups.length = 16 ∧ s.net.ports.length = 2 ∧ s.net.windows.length = 4 ∧ s.aux.engines.length = 8 ∧ s.aux.due.length = 8
    ∧ s.aux.gates.length = 6 ∧ s.aux.frames.length = 4 ∧ s.cal.witnesses.length = 64 ∧ s.thm.failed.length = 68
    ∧ s.clk.div.length = 6

/-- Up port `p` went down from `s` to `t`, planned or not (R345, R358, R367): it trains again (or stays idle at the end of a chain),
LINK_DOWN shows it, the events tell it, an unplanned loss raises the port's source as CORR, and a ring node wraps. -/
def LinkWentDown (s t : State) (p : Nat) (planned : Bool) : Prop :=
  t.reg (TX.STATUS.STATE p) = (if ringRole s = 3 ∧ p = 1 then 1 else 2)
  ∧ t.flag (TX.STATUS.LINK_DOWN p) = true ∧ (t.port p).cur = none ∧ (t.port p).request = none
  ∧ (planned = false → Faulted s t (61 + p) 1)
  ∧ (planned = true → sparseGet none t.flt.real (61 + p) = sparseGet none s.flt.real (61 + p))
  ∧ (topoRing s = true → t.flag (TX.STATUS.WRAP p) = true)
  ∧ (topoRing s = false → t.flag (TX.STATUS.WRAP p) = s.flag (TX.STATUS.WRAP p))

/-- The events of a lost link (R428). -/
def lossEvents (s : State) (p : Nat) (planned : Bool) : List (Nat × List Byte) :=
  (0x0A02, toLe 1 p ++ toLe 1 (b2n planned))
    :: if topoRing s ∧ s.flag (TX.STATUS.WRAP p) = false then [(0x0A04, toLe 1 p)] else []

/-- WRAPPED of a packet as this node judges it (R352, R358). -/
def judgedWrapped (s : State) (p : Port) (h : Header) : Bool :=
  if p = .b ∧ turnsAtA s h.wrapped = true then !h.wrapped else h.wrapped

/-- θ of an exchange in 1/256 tick (R361, R378): request sent at `t1`, answer `b`, arrival at `t4`. -/
def thetaOf (s : State) (n t1 : Nat) (b : List Byte) (t4 : BitVec 64) : Int :=
  (diff64 (leAt b 8 8) t1 - diff64 t4.toNat (leAt b 0x10 8) - roundDiv (sext 16 (s.reg (TX.ASYM.ASYM n)) * 256) 2500) / 2

/-- The always-on records that a reset leaves untouched (R574). -/
def resetRecords : List Field :=
  [THM.HT_COUNT.COUNT, THM.STATUS.HT_LAST, PWR.REFUSE_COUNT.COUNT, PWR.ABORT_COUNT.COUNT, PWR.WAKE_FAIL_COUNT.COUNT,
    SYS.RESET_CAUSE.RESET_LONG, SYS.RESET_CAUSE.HELD_S]

/-- What a reset leaves of `s` in `t`: the records of `l`, the non-volatile memories, and nothing else but the cause of the reset
and the light that LOWBEAM_REQ asks for (R573, R574, R576). -/
def ResetLeaves (l : List Field) (s t : State) : Prop :=
  (∀ f ∈ l, t.reg f = s.reg f % 2 ^ f.width)
  ∧ (∀ f : Field, f.lo < 32 →
    fieldKey f ∉ (l ++ [SAFE.FB_CAUSE.LOWBEAM, SCAN.FB_CTRL.RESET_LONG_ROM, SYS.RESET_CAUSE.CAUSE]).map fieldKey →
    t.reg f = State.reset.reg f)
  ∧ t.mram.recs = s.mram.recs ∧ t.flash = s.flash ∧ t.guard.otp = s.guard.otp ∧ t.dram = State.reset.dram
  ∧ t.mbx = State.reset.mbx ∧ t.boot.jorosh = false ∧ t.now = 0 ∧ t.synced = false ∧ errHeld t = false
  ∧ (∀ g ∈ t.aux.gates, g.high = 0) ∧ t.pix = State.reset.pix ∧ t.shd = State.reset.shd

/-- The array after a reset: dark, or on the ROM pattern while LOWBEAM_REQ is high (R246, R573). -/
def RomLight (s t : State) : Prop :=
  (s.pins.lowbeam = true → AllOnFallback t ∧ t.flag SAFE.FB_CAUSE.LOWBEAM = true ∧ t.flag SCAN.FB_CTRL.RESET_LONG_ROM = true)
  ∧ (s.pins.lowbeam = false → ∀ g ∈ t.scan.groups, g.drive = .dark)

/-- The slot that the boot ROM starts, and its firmware version: the preferred one first, the other one second, and the same again at
25 MHz (R582, R583). -/
def SlotChosen (pref : Bool) (e : BootEnv) (slot : Bool) (ver : Word) : Prop :=
  let v1 (b : Bool) : SlotVerdict := if b then e.slotB else e.slotA
  let v2 (b : Bool) : SlotVerdict := if b then e.slotB2 else e.slotA2
  let fails (v : SlotVerdict) : Prop := ∃ r, v = .fail r
  (slot = pref ∧ v1 pref = .pass ver)
  ∨ (slot ≠ pref ∧ fails (v1 pref) ∧ v1 (!pref) = .pass ver)
  ∨ (slot = pref ∧ fails (v1 pref) ∧ fails (v1 (!pref)) ∧ v2 pref = .pass ver)
  ∨ (slot ≠ pref ∧ fails (v1 pref) ∧ fails (v1 (!pref)) ∧ fails (v2 pref) ∧ v2 (!pref) = .pass ver)

/-- The lists of the thermal logic have one entry per sensor and per threshold (R480, R483). -/
def ThmShape (s : State) : Prop :=
  s.thm.failed.length = 68 ∧ s.thm.bad.length = 68 ∧ s.thm.good.length = 68
    ∧ s.thm.entered.length = 3 ∧ s.thm.rises.length = 3 ∧ s.thm.falls.length = 3

/-- A sample of sensor `i` is plausible (R482): in range, and for a zone within 25 °C of some orthogonal neighbour. -/
def sensorOk (l : List Int) (i : Nat) : Bool :=
  decide (-220 ≤ l.getD i 0 ∧ l.getD i 0 ≤ 860)
  && (decide (64 ≤ i) || (zoneNeighbours i).any (fun n => decide ((l.getD i 0 - l.getD n 0).natAbs ≤ 100)))

/-- F of the aux derating at a temperature in 0.25 °C, with the limits of AUX.DR_CFG (R438, R446). -/
def auxFactor (s : State) (t4 : Int) : Nat :=
  derateBy (clampN 40 140 (s.reg AUX.DR_CFG.KNEE)) (clampN 5 100 (s.reg AUX.DR_CFG.SLOPE)) (clampN 10 100 (s.reg AUX.DR_CFG.FLOOR)) t4

/-! ### Memories -/

/-- The organizations that the controller accepts (R496): WIDTH 0 for x8 and 1 for x16, DENSITY 0, 1 and 2 for 4, 8 and 16 Gbit. -/
def OrgListed (s : State) : Prop :=
  s.reg DDRC.ORG.WIDTH = 0 ∧ s.reg DDRC.ORG.DENSITY ≤ 1 ∨ s.reg DDRC.ORG.WIDTH = 1 ∧ s.reg DDRC.ORG.DENSITY ≤ 2

/-- The rank bit of R496, one above the highest row bit. -/
def rankBit (s : State) : Nat :=
  (if s.reg DDRC.ORG.WIDTH = 0 then 32 else 31) + s.reg DDRC.ORG.DENSITY

/-- Bit `b` is a row bit or, with two ranks, the rank bit (R496). -/
def RowOrRank (s : State) (b : Nat) : Prop :=
  (if s.reg DDRC.ORG.WIDTH = 0 then 17 else 16) ≤ b ∧ b < rankBit s ∨ s.flag DDRC.ORG.RANKS = true ∧ b = rankBit s

/-- A selector set names its bit's own position and otherwise row and rank bits alone (R498); a selector outside 13 to 33 acts as the
nearest limit (R521). -/
def SelectorsOk (s : State) (own : Nat) (b en : Nat → Field) : Prop :=
  (∃ j < 4, s.flag (en j) = true ∧ clampN 13 33 (s.reg (b j)) = own)
  ∧ ∀ j < 4, s.flag (en j) = true → clampN 13 33 (s.reg (b j)) = own ∨ RowOrRank s (clampN 13 33 (s.reg (b j)))

/-- All selector sets are valid; MAP_BG1 is ignored for x16 (R498). -/
def MapListed (s : State) : Prop :=
  SelectorsOk s 13 DDRC.MAP_BG0.BIT DDRC.MAP_BG0.SEL_EN
  ∧ (s.reg DDRC.ORG.WIDTH = 0 → SelectorsOk s 14 DDRC.MAP_BG1.BIT DDRC.MAP_BG1.SEL_EN
    ∧ SelectorsOk s 15 DDRC.MAP_BA0.BIT DDRC.MAP_BA0.SEL_EN ∧ SelectorsOk s 16 DDRC.MAP_BA1.BIT DDRC.MAP_BA1.SEL_EN)
  ∧ (s.reg DDRC.ORG.WIDTH = 1 → SelectorsOk s 14 DDRC.MAP_BA0.BIT DDRC.MAP_BA0.SEL_EN
    ∧ SelectorsOk s 15 DDRC.MAP_BA1.BIT DDRC.MAP_BA1.SEL_EN)

/-- An uncorrectable read at `addr` was logged (R505, R527). -/
def UncorrectableLogged (s t : State) (classS : Bool) (addr : Nat) : Prop :=
  Counted s t DDRC.UE_COUNT.COUNT 1 ∧ t.reg DDRC.UE_ADDR_LO.ADDR = addr % 2 ^ 32
    ∧ t.reg DDRC.UE_ADDR_HI.ADDR = addr / 2 ^ 32 % 4 ∧ t.flag DDRC.UE_ADDR_HI.CLASS_S = classS

/-- A class S read stayed uncorrectable: logged, and the frame in load, if there is one, is aborted with source 59 as CONT; the abort is
no underrun and no blocked frame (R505). -/
def SafetyReadFailed (s t : State) (addr : Nat) : Prop :=
  UncorrectableLogged s t true addr ∧ t.scan.loading = false ∧ t.stats.underruns = s.stats.underruns
    ∧ t.stats.blocked = s.stats.blocked ∧ (s.scan.loading = true → Faulted s t 59 2 ∧ t.scan.hold = [])

/-- The entries that engine `n` renders were abandoned: they have no band left, and no fence advanced (R505, R140). -/
def EntriesAbandoned (s t : State) (n : Nat) : Prop :=
  (∀ k < 64, t.reg (GAL.FENCE.FENCE k) = s.reg (GAL.FENCE.FENCE k)) ∧ t.gal = s.gal
  ∧ ∀ r r', s.eng.running = some r → t.eng.running = some r' → ∀ b < 16, s.reg (BE.BAND_MAP.ENGINE b) = n →
    ∀ i e, currentEntry r b = some (i, e) → (r'.entries.getD i ⟨[], 0, 0, 0⟩).todo = 0

/-- Exactly one copy of record `num` is valid. -/
def OneCopy (s : State) (num : Nat) : Prop := (recOf s num).a.isSome ≠ (recOf s num).b.isSome

/-! ### Faults -/

/-- Event `e` entered the queue, or was lost to a full one, and the history, with the next ESEQ (R426, R427). -/
def EventQueued (s t : State) (e : EventRec) : Prop :=
  t.evt.eseq = (s.evt.eseq + 1) % 2 ^ 32 ∧ { e with eseq := s.evt.eseq } ∈ t.evt.history
  ∧ (s.evt.queue.length < 128 → t.evt.queue = s.evt.queue ++ [{ e with eseq := s.evt.eseq }])
  ∧ (128 ≤ s.evt.queue.length → t.evt.queue = s.evt.queue ∧ t.evt.lost = s.evt.lost + 1)

/-- A fault of `src`, detected first at `lt`, was granted with class `c` in force (R532 to R534, R536, R538, R541). -/
def Granted (s t : State) (inj : Bool) (src c : Nat) (escalated : Bool) (lt : Nat) : Prop :=
  t.flag (pendBit inj c) = true
  ∧ (∀ k, k = 1 ∨ k = 2 ∨ k = 3 → k ≠ c → t.reg (pendBit inj k) = s.reg (pendBit inj k))
  ∧ (∀ k, k = 1 ∨ k = 2 ∨ k = 3 → t.reg (pendBit (!inj) k) = s.reg (pendBit (!inj) k))
  ∧ (inj = false → s.flag FLT.FIRST.VALID = false → t.flag FLT.FIRST.VALID = true ∧ t.reg FLT.FIRST.SRC = src
    ∧ t.reg FLT.FIRST.CLASS = c ∧ t.flag FLT.FIRST.ESCALATED = escalated ∧ t.reg FLT.FIRST_LT_LO.LT = lt % 2 ^ 32)
  ∧ (inj = false → s.flag FLT.FIRST.VALID = true → t.flag FLT.FIRST.OVERFLOW = true ∧ t.reg FLT.FIRST.SRC = s.reg FLT.FIRST.SRC
    ∧ t.reg FLT.FIRST.CLASS = s.reg FLT.FIRST.CLASS)
  ∧ (inj = true → t.reg FLT.FIRST.VALID = s.reg FLT.FIRST.VALID ∧ t.reg FLT.FIRST.OVERFLOW = s.reg FLT.FIRST.OVERFLOW
    ∧ (s.flag FLT.INJ_FIRST.VALID = false → t.flag FLT.INJ_FIRST.VALID = true ∧ t.reg FLT.INJ_FIRST.SRC = src))
  ∧ t.reg FLT.LAST.SRC = src ∧ t.reg FLT.LAST.CLASS = c ∧ t.flag FLT.LAST.INJ = inj ∧ t.flag FLT.LAST.ESCALATED = escalated
  ∧ EventQueued s t ⟨0x0C01, s.reg TXLA.NODE.ADDR, 0, lt % 2 ^ 48, inj, padTo 16 (toLe 2 src ++ toLe 1 (c + 4 * b2n escalated))⟩
  ∧ (2 ≤ c ∨ s.flag FLT.CFG.ERR_CORR = true → errHeld t = true)
  ∧ (c = 3 → t.flag SAFE.FB_CAUSE.FATAL = true ∧ (fbActive s = false → AllOnFallback t))

/-! ### Register access -/

/-- A bus master reaches the word at `a`: the interconnect runs, the word is aligned and in a mapped block, and that block is clocked
(R460, R551, R552). -/
def Reaches (s : State) (a : Nat) : Prop := busUp s = true ∧ a % 4 = 0 ∧ a < 0x150000 ∧ s.flag (CLK.GATE.EN (a / 0x10000)) = true

/-- The word at `a` holds fields alone, and none of them commands its block: no WO field, no EN bit, no LUT entry, and it is none of
the CLK words, whose writes have rules of their own (R451, R456, R460). -/
def PlainWord (a : Nat) : Prop :=
  a / 0x10000 ≠ 1 ∧ mbxArea a = none ∧ a ≠ GAL.LUT_DATA.ENTRY.addr
    ∧ ∀ f ∈ fieldsAt a, f.access ≠ .wo ∧ blockEn (a / 0x10000) ≠ some f

/-- EN of block `n` is 1. -/
def BlockOn (s : State) (n : Nat) : Prop := ∃ e, blockEn n = some e ∧ s.flag e = true

/-- A write of a plain field as software sees it: a written copy, or a staged or shadowed one. -/
def SoftwareWrites (f : Field) : Prop := f.access = .rw ∨ f.access = .shadowed ∨ f.access = .staged

/-- A field that ignores writes (R554). -/
def IgnoresWrites (f : Field) : Prop := f.access = .ro ∨ f.access = .rc ∨ f.access = .rcExt ∨ f.access = .derived

/-- The bytes of a read's response, its data and DCRC (R386). -/
def readBytes (status done len : Nat) (addr : Word) (ws : List Word) : List Byte :=
  let data := padTo (4 * len) (ws.flatMap (fun w => toLe 4 w.toNat))
  toLe 1 status ++ toLe 1 done ++ [0, 0] ++ data ++ toLe 4 (crc32c addr data).toNat

/-- HCRC of a frame header (R386). -/
def headerCrc (op len : Nat) (addr : Word) : Word := crc32c 0 (toLe 1 op ++ toLe 1 len ++ [0, 0] ++ toLe 4 addr.toNat)

/-- Nothing changed but what MISO sends. -/
def OnlyMiso (s t : State) : Prop := t = { s with io := { s.io with miso := t.io.miso, reread := t.io.reread } }

end Sys2Proof.Machine
end

