-- ==== Sys2Proof/Certificates/Slice0/Obligations.lean ====
section
/-! DEFINITION. Obligations.lean: the statements about the model. Words they share are in Sys2Proof/Safety.lean. A statement that rests
on a choice of the model says so and names the log entry. -/

open Sys2Proof Sys2Proof.Machine

/-! ### The block as a whole -/

/-- One step runs the command at the front of the queue on the state with the rest of it (log entry 1). -/
def Obligations.StepRunsTheFrontCommand : Prop :=
  ∀ c rest s, s.pending = c :: rest → step s = exec c { s with pending := rest }

/-- An idle step is one cycle of lamp time (R21, R35, R363); when it happens is the model's choice (log entry 2). -/
def Obligations.IdleStepIsOneTick : Prop :=
  (∀ s, s.pending = [] → ∃ t, step s = .next t)
  ∧ (∀ s, s.pending = [] → s.power ≠ 4 → clocksRun s = true → s.clk.everLocked = true → s.net.slew = 0 →
    ∃ t, step s = .next t ∧ t.lt = s.lt + 1 + BitVec.ofNat 64 (s.net.frac / 256) ∧ t.scan.gs = (s.scan.gs + 3) % 512000 ∧ t.net.slew = 0 ∧ t.net.frac = s.net.frac % 256
      ∧ (∀ f, t.reg f = s.reg f) ∧ t.dram = s.dram ∧ t.pix = s.pix ∧ t.flt = s.flt ∧ t.evt = s.evt)
  ∧ ∀ s, s.pending = [] → s.power ≠ 4 → clocksRun s = false → step s = .next s

/-- State.reset holds what the spec says of reset (R260, R410, R427, R551, R576). -/
def Obligations.ResetState : Prop :=
  (∀ f, State.reset.reg f = f.reset.toNat ∧ State.reset.actReg f = f.reset.toNat)
  ∧ State.reset.pending = [] ∧ (∀ mb, mb < 8 → (State.reset.mb mb).phase = .idle) ∧ State.reset.mbx.sessions = []
  ∧ State.reset.mbx.rings = [] ∧ State.reset.mbx.accepted = []
  ∧ State.reset.evt.queue = [] ∧ State.reset.evt.history = [] ∧ State.reset.flt.jorosh = [] ∧ State.reset.flt.aon = []
  ∧ (∀ src, sparseGet none State.reset.flt.real src = none ∧ sparseGet none State.reset.flt.inj src = none)
  ∧ State.reset.guard.limits = Limits.rom ∧ State.reset.scan.running = false ∧ (∀ g, g < 16 → (State.reset.group g).drive = .dark)
  ∧ State.reset.boot.cold = true ∧ State.reset.boot.done = false ∧ (∀ a, State.reset.dramByte a = 0)

/-- No command faults and none is refused. -/
def Obligations.EveryCommandGoesOn : Prop := ∀ c s, ∃ t, exec c s = .next t

/-- Every step keeps the canonical form of DRAM, flash and the context slots (R164, R403, R496). -/
def Obligations.StepKeepsMemoriesOk : Prop :=
  ∀ s t, MemoryOk s → SlotsOk s → step s = .next t → MemoryOk t ∧ SlotsOk t

/-- Every step keeps the bounds of the event queue and the history, eight mailboxes and at most four sessions (R410, R419, R427). -/
def Obligations.StepKeepsBounds : Prop :=
  ∀ s t, EventsOk s → MailOk s → step s = .next t → EventsOk t ∧ MailOk t

/-- Every step keeps the number of row groups, ports, windows, engines, gates, frames, witnesses, sensors and clock domains. -/
def Obligations.StepKeepsShape : Prop := ∀ s t, ShapeOk s → step s = .next t → ShapeOk t

/-- The invariants hold at State.reset. -/
def Obligations.InvariantsHoldAtReset : Prop :=
  MemoryOk State.reset ∧ SlotsOk State.reset ∧ EventsOk State.reset ∧ MailOk State.reset ∧ ShapeOk State.reset

/-- The frame of frameStart, rowSlotStart, rowDelivered, rowDeadline, safetyLayerCheck, pwmPeriodStart, the scan, Gallery, diagnostics and calibration commands: only what `mayChange` names may differ. -/
def Obligations.FrameOfFrameCommands : Prop :=
  ∀ i s t, (mayChange s i).chapter = 1 → exec i s = .next t → Framed i s t

/-- The frame of the commands of the shadow engine, the beam engines and the Guard: only what `mayChange` names may differ. -/
def Obligations.FrameOfEngineAndGuardCommands : Prop :=
  ∀ i s t, (mayChange s i).chapter = 2 → exec i s = .next t → Framed i s t

/-- The frame of the commands of the Tatex link: only what `mayChange` names may differ. -/
def Obligations.FrameOfTatexCommands : Prop :=
  ∀ i s t, (mayChange s i).chapter = 3 → exec i s = .next t → Framed i s t

/-- The frame of the mailbox commands: only what `mayChange` names may differ. -/
def Obligations.FrameOfMailCommands : Prop :=
  ∀ i s t, (mayChange s i).chapter = 4 → exec i s = .next t → Framed i s t

/-- The frame of the commands of the side ports and of the auxiliary outputs: only what `mayChange` names may differ. -/
def Obligations.FrameOfPortCommands : Prop :=
  ∀ i s t, (mayChange s i).chapter = 5 → exec i s = .next t → Framed i s t

/-- The frame of the commands of the clocks, power states, thermal management, memories, fault collector and start-up: only what `mayChange` names may differ. -/
def Obligations.FrameOfSystemCommands : Prop :=
  ∀ i s t, (mayChange s i).chapter = 6 → exec i s = .next t → Framed i s t

/-- The frame of SPI_READ, SPI_WRITE, SPI_REREAD, SPI_FRAME_ABORT, the alias and register accesses and the check units: only what `mayChange` names may differ. -/
def Obligations.FrameOfRegisterAccess : Prop :=
  ∀ i s t, (mayChange s i).chapter = 7 → exec i s = .next t → Framed i s t

/-! ### Frames, rows and layers -/

/-- SCAN_EN_SET, SCAN_EN_CLEAR and SCAN_COMMIT_BIT complete with these effects (R86, R91, R92, R97). The first grid point is given as
ORIGIN + floor(2kF / 3) ticks, the first one beyond 4,000 ticks from now; the rounding down is the model's reading of R90. -/
def Obligations.EnablingTheRaster : Prop :=
  (∀ s, s.flag SCAN.CTRL.EN = false → Completes .scanEnSet s fun t =>
    t.flag SCAN.CTRL.EN = true ∧ t.reg SCAN.FRAME_NUM.FRAME_NUM = 0
    ∧ t.reg SCAN.ORIGIN_ACT_LO.ORIGIN_ACT = s.reg SCAN.ORIGIN_LO.ORIGIN
    ∧ t.reg SCAN.ORIGIN_ACT_HI.ORIGIN_ACT = s.reg SCAN.ORIGIN_HI.ORIGIN
    ∧ (s.mode = 7 → t.flag SAFE.FB_CAUSE.M7 = true)
    ∧ ∃ (k : Int) (g : Nat), t.scan.startAt = some g
      ∧ (g : Int) = s.origin + k * (2 * modeF (s.reg SCAN.MODE.MODE)) / 3
      ∧ (s.now : Int) + 4000 < g
      ∧ (s.origin : Int) + (k - 1) * (2 * modeF (s.reg SCAN.MODE.MODE)) / 3 ≤ s.now + 4000)
  ∧ (∀ s, s.flag SCAN.CTRL.EN = true → Completes .scanEnClear s fun t =>
    t.flag SCAN.CTRL.EN = false ∧ t.scan.running = false ∧ t.scan.startAt = none ∧ t.scan.loading = false
    ∧ t.scan.passOn = false ∧ t.flag SAFE.FB_CAUSE.M7 = false
    ∧ ∀ g ∈ t.scan.groups, g.darkDue = true ∧ g.swapDue = false)
  ∧ (∀ s, s.flag SCAN.COMMIT_STATUS.COMMIT_PEND = false → Completes .scanCommitBit s fun t =>
    t.flag SCAN.COMMIT_STATUS.COMMIT_PEND = true
    ∧ t.reg SCAN.COMMIT_STATUS.TARGET_FRAME
      = ((if s.scan.running then s.reg SCAN.FRAME_NUM.FRAME_NUM else 0) + 1) % 2 ^ 16)
  ∧ ∀ s, s.flag SCAN.COMMIT_STATUS.COMMIT_PEND = true → exec .scanCommitBit s = .next s

/-- FRAME_START and RASTER_START complete, and a new frame begins (R87, R91, R94, R96, R99, R406). -/
def Obligations.FrameStarts : Prop :=
  (∀ s load, s.scan.running = true → clocksRun s = true → Completes (.frameStart load) s fun t =>
    NewFrame s t ∧ t.scan.running = true
    ∧ t.mode = if s.flag SCAN.COMMIT_STATUS.COMMIT_PEND then s.reg SCAN.MODE.MODE % 8 else s.mode)
  ∧ ∀ s, s.flag SCAN.CTRL.EN = true → s.scan.running = false → s.scan.startAt ≠ none → clocksRun s = true →
    Completes .rasterStart s fun t =>
      NewFrame s t ∧ t.scan.running = true ∧ t.scan.startAt = none ∧ t.mode = s.reg SCAN.MODE.MODE % 8

/-- Only a complete frame within every limit of the Guard becomes due to swap at a frame start (R41, R234, R236, R239, R240, R242). -/
def Obligations.OnlyPassingFramesSwap : Prop :=
  ∀ s t load, exec (.frameStart load) s = .next t →
    (∃ g < 16, (s.group g).swapDue = false ∧ (t.group g).swapDue = true) →
    s.scan.loading = true ∧ 1024 ≤ s.scan.nextRow
    ∧ (∀ p ∈ List.zip s.guard.limits.rects s.guard.rectSums, p.2 ≤ p.1.limit)
    ∧ (∀ k < 32, (bit s.guard.loadMask k = true ∧ bit (effMask s) k = true) ∨ s.guard.segSums.getD k 0 ≤ s.guard.limits.allow)
    ∧ (s.guard.flux = 0 ∨ s.guard.limits.cMin * s.guard.flux ≤ 16 * s.guard.moment
        ∧ 16 * s.guard.moment ≤ s.guard.limits.cMax * s.guard.flux)
    ∧ s.guard.flux ≤ fRef s + max (fRef s * s.guard.limits.riseRel / 256) s.guard.limits.riseAbs
    ∧ s.guard.accBad = false ∧ s.guard.echoBad = false ∧ s.guard.guardFail = false

/-- ROW_SLOT_START, ROW_DELIVERED and ROW_DEADLINE complete with these effects (R42, R87, R89, R100, R101, R103, R236). -/
def Obligations.RowTiming : Prop :=
  (∀ s k, s.scan.running = true → k < 1088 → clocksRun s = true → Completes (.rowSlotStart k) s fun t =>
    t.reg SCAN.RASTER.SLOT = k ∧ t.reg SCAN.LAT_TOL.TOL = tolCode s k
    ∧ t.reg SCAN.LAT_TOL.TOL_MIN = min (tolCode s k) (s.reg SCAN.LAT_TOL.TOL_MIN)
    ∧ (k = 64 → s.scan.loading = true → t.guard.loadMask = effMask s))
  ∧ (∀ s r e a, clocksRun s = true → s.scan.running = true → s.scan.loading = true → s.scan.nextRow = r → r < 1024 →
    s.flag GAL.CTRL.EN = true → s.scan.galStopped = false → softSupplied s r = true →
    (rowNeedsDram s r = false ∨ s.flag DDRC.STATUS.READY = true) → s.injWaits 16 = false →
    Completes (.rowDelivered r e a) s fun t =>
      t.scan.nextRow = r + 1 ∧ t.scan.loading = true
      ∧ (if (s.group (r / 64)).swapDue then
          t.scan.hold = s.scan.hold ++ [(r, codes9 s r (codes8 s r))] ∧ t.flag SCAN.SWAP_STATUS.HOLD_USED = true
            ∧ t.pix.back = s.pix.back
        else t.pix.back = planeSetRow 0 s.pix.back r (codes9 s r (codes8 s r)) ∧ t.scan.hold = s.scan.hold)
      ∧ (a = false → t.guard.accBad = true) ∧ (e = false → t.guard.echoBad = true))
  ∧ ∀ s r, s.scan.running = true → s.scan.loading = true → s.scan.nextRow = r → r < 1024 → clocksRun s = true →
    Completes (.rowDeadline r) s fun t =>
      t.scan.loading = false ∧ t.scan.hold = [] ∧ t.flag SCAN.UR_STATUS.UNDERRUN = true ∧ t.reg SCAN.UR_STATUS.UR_ROW = r
      ∧ t.reg SCAN.UR_COUNT.UR_COUNT = min 0xFFFFFFFF (s.reg SCAN.UR_COUNT.UR_COUNT + 1)
      ∧ t.stats.underruns = s.stats.underruns + 1 ∧ Faulted s t 16 2

/-- PWM_PERIOD_START completes; the group's swap, dark interval or darkening (R29, R39, R44, R92, R95). -/
def Obligations.GroupPeriodStart : Prop :=
  ∀ s g samples units, g < 16 → s.scan.groups.length = 16 → clocksRun s = true →
    Completes (.pwmPeriodStart g samples units) s fun t =>
      ((s.group g).darkDue = true →
        (t.flag SAFE.FB_CAUSE.FATAL = s.flag SAFE.FB_CAUSE.FATAL →
          (t.group g).drive = (if (s.group g).drive = .fallback then .fallback else .dark))
        ∧ ∀ r < 1024, r / 64 = g → ∀ c < 1024, planeGet 0 t.pix.front c r = 0)
      ∧ ((s.group g).darkDue = false → (s.group g).swapDue = true →
          ((s.group g).hasFrame = false ∨ (s.group g).gap = true ∨ (s.group g).n11 = s.scan.swapN11) →
        (t.group g).swapDue = false ∧ (t.group g).hasFrame = true ∧ (t.group g).n11 = s.scan.swapN11
        ∧ (t.flag SAFE.FB_CAUSE.FATAL = s.flag SAFE.FB_CAUSE.FATAL →
          (t.group g).drive = (if (s.group g).drive = .fallback ∧ fbActive s = true then .fallback else .pwm))
        ∧ bit (t.reg SCAN.SWAP_STATUS.GRP_SWAPPED) g = true
        ∧ ∀ r < 1024, r / 64 = g → ∀ c < 1024, planeGet 0 t.pix.front c r = planeGet 0 s.pix.back c r)
      ∧ ((s.group g).darkDue = false → (s.group g).swapDue = true → (s.group g).hasFrame = true → (s.group g).gap = false →
          (s.group g).n11 ≠ s.scan.swapN11 →
        (t.flag SAFE.FB_CAUSE.FATAL = s.flag SAFE.FB_CAUSE.FATAL → (t.group g).gap = true) ∧ (t.group g).swapDue = true
        ∧ ∀ r < 1024, r / 64 = g → ∀ c < 1024, planeGet 0 t.pix.front c r = planeGet 0 s.pix.front c r)

/-! ### The Gallery -/

/-- FENCE_INC_WRITE, FENCE_DIRECT_WRITE, FLIP_ARM, LUT_DATA_WRITE, LUT_DATA_READ and GAL_EN_CLEAR complete with these effects; when
a fence is reached (R134, R138, R139, R152, R157). What a LUT read
beyond its table shows the spec leaves open, so only its INDEX is stated. -/
def Obligations.FencesFlipsAndLuts : Prop :=
  (∀ s w, Completes (.fenceIncWrite w) s fun t =>
    t.reg (GAL.FENCE.FENCE (w.toNat % 64)) = (s.reg (GAL.FENCE.FENCE (w.toNat % 64)) + w.toNat / 2 ^ 16) % 2 ^ 32)
  ∧ (∀ s k w, k < 64 → Completes (.fenceDirectWrite k w) s fun t => t.reg (GAL.FENCE.FENCE k) = w.toNat)
  ∧ (∀ s k v, fenceReached s k v = true ↔
      0 ≤ (BitVec.ofNat 32 (s.reg (GAL.FENCE.FENCE k)) - BitVec.ofNat 32 v).toInt)
  ∧ (∀ s n w, n < 7 → Completes (.flipArm n w) s fun t =>
    t.flag (GAL.L.FLIP.ARM n) = bit w.toNat 0 ∧ t.flag (GAL.L.FLIP.FENCE_EN n) = bit w.toNat 1
    ∧ t.reg (GAL.L.FLIP.FENCE_SEL n) = bits w.toNat 2 6 ∧ t.flag (GAL.L.FLIP.RETIRE_EN n) = bit w.toNat 8
    ∧ t.reg (GAL.L.FLIP.RETIRE_SEL n) = bits w.toNat 9 6)
  ∧ (∀ s w, Completes (.lutDataWrite w) s fun t =>
    t.reg GAL.LUT_ADDR.INDEX = (s.reg GAL.LUT_ADDR.INDEX + 1) % 2 ^ 13
    ∧ (lutSelected s (s.reg GAL.LUT_ADDR.TABLE) = false → s.reg GAL.LUT_ADDR.INDEX < lutSize (s.reg GAL.LUT_ADDR.TABLE) →
      (∀ k i, k < 16 → i < 8192 → s.reg GAL.LUT_ADDR.TABLE < 16 → lutEntry t k i
        = if k = s.reg GAL.LUT_ADDR.TABLE ∧ i = s.reg GAL.LUT_ADDR.INDEX then w.toNat % 65536 else lutEntry s k i)
      ∧ t.flag GAL.STATUS.LUT_IGN = s.flag GAL.STATUS.LUT_IGN)
    ∧ (lutSelected s (s.reg GAL.LUT_ADDR.TABLE) = true ∨ lutSize (s.reg GAL.LUT_ADDR.TABLE) ≤ s.reg GAL.LUT_ADDR.INDEX →
      t.gal.lut = s.gal.lut ∧ t.flag GAL.STATUS.LUT_IGN = true))
  ∧ (∀ s, Completes .lutDataRead s fun t =>
    t.reg GAL.LUT_ADDR.INDEX = (s.reg GAL.LUT_ADDR.INDEX + 1) % 2 ^ 13
    ∧ (s.reg GAL.LUT_ADDR.INDEX < lutSize (s.reg GAL.LUT_ADDR.TABLE) →
      t.reg GAL.LUT_DATA.ENTRY = lutEntry s (s.reg GAL.LUT_ADDR.TABLE) (s.reg GAL.LUT_ADDR.INDEX) % 65536))
  ∧ ∀ s, Completes .galEnClear s fun t =>
    t.flag GAL.CTRL.EN = false ∧ t.scan.nextRow = s.scan.nextRow
    ∧ (s.flag GAL.CTRL.EN = true → s.scan.loading = true → 56 ≤ s.reg SCAN.RASTER.SLOT → t.scan.galStopped = true)

/-- SAFETY_LAYER_CHECK, KILN_BUILD_COMPLETE and BUFFER_RETIRE complete with these effects (R142, R145, R146, R148). -/
def Obligations.SafetyLayersAndKiln : Prop :=
  (∀ s n, n < 7 → s.scan.loading = true → layerUsed s n = true → s.actFlag (GAL.L.CTRL.SAFETY n) = true →
      bit s.gal.checked n = false → s.injWaits 17 = false →
    Completes (.safetyLayerCheck n) s fun t =>
      t.reg (GAL.L.CRC_ACT.CRC_ACT n) = (layerCheck s n).toNat ∧ bit t.gal.checked n = true
      ∧ ((layerCheck s n).toNat = s.reg (GAL.L.CRC_EXP.CRC_EXP n) →
        t.scan = s.scan ∧ t.flt = s.flt ∧ t.reg GAL.SAFE_STATUS.CRC_ERR = s.reg GAL.SAFE_STATUS.CRC_ERR
        ∧ t.gal.dropNext = s.gal.dropNext)
      ∧ ((layerCheck s n).toNat ≠ s.reg (GAL.L.CRC_EXP.CRC_EXP n) →
        t.scan.loading = false ∧ t.scan.hold = [] ∧ t.guard.blockRun = s.guard.blockRun ∧ t.stats.aborts = s.stats.aborts + 1
        ∧ bit (t.reg GAL.SAFE_STATUS.CRC_ERR) n = true ∧ t.flag GAL.STATUS.CRC_ABORT = true
        ∧ Counted s t GAL.CRC_ERR_COUNT.COUNT 1 ∧ bit t.gal.dropNext n = true ∧ Faulted s t 17 2))
  ∧ (∀ s, s.flag GAL.KILN_STATUS.BUILDING = true → Completes .kilnBuildComplete s fun t =>
    t.flag GAL.KILN_STATUS.BUILDING = false ∧ t.gal.kilnReady = some s.gal.buildPrefix)
  ∧ ∀ s n k, s.gal.retireDue.find? (fun p => p.1 == n) = some (n, k) → k < 64 → Completes (.bufferRetire n) s fun t =>
    t.reg (GAL.FENCE.FENCE k) = (s.reg (GAL.FENCE.FENCE k) + 1) % 2 ^ 32 ∧ t.gal.retireDue = s.gal.retireDue.erase (n, k)

/-! ### The shadow engine -/

/-- BATCH_COMMIT, PUBLISH_TIMER, BLANK_PASS_START and BLANK_ROW_SLOT complete with these effects (R45, R48, R168, R169, R174, R182, R184 to
R186, R252). -/
def Obligations.PublishAndBlankPasses : Prop :=
  ((∀ s, Completes .batchCommit s fun t => t.shd.commitDue = true ∧ ∀ n, t.ctxSlot n = s.ctxSlot n)
    ∧ (∀ s, SlotsOk s → s.scan.passOn = false → timerRuns s = true → Completes .publishTimer s fun t => Published s t)
    ∧ ∀ s, s.scan.passOn = true → exec .publishTimer s = .next s)
  ∧ (∀ s, s.scan.running = true → s.mode ≠ 7 → clocksRun s = true → Completes .blankPassStart s fun t =>
    t.scan.passOn = true ∧ t.scan.passRow = 0 ∧ t.reg SCAN.BLANK_STATUS.PASS = s.shd.passes % 64
    ∧ t.shd.passes = s.shd.passes + 1 ∧ t.shd.passMismatch = false)
  ∧ (∀ s out ecc, s.scan.passOn = true → s.scan.passRow < 1024 → clocksRun s = true → s.injWaits 13 = false →
      s.injWaits 14 = false → Completes (.blankRowSlot out ecc) s fun t =>
    t.scan.passRow = s.scan.passRow + 1
    ∧ (∀ b, s.shd.blankReady = some (s.scan.passRow, b) → t.pix.blank = planeSetRow 0 s.pix.blank s.scan.passRow b)
    ∧ ((∀ b, s.shd.blankReady ≠ some (s.scan.passRow, b)) →
      t.pix.blank = s.pix.blank ∧ t.flag SCAN.BLANK_STATUS.PASS_LATE = true)
    ∧ (out = .agree → SlotsOk s → ecc = .none → Published s t)
    ∧ (out = .agree → t.shd.blankReady = some ((s.scan.passRow + 1) % 1024,
        blankRow t ((s.scan.passRow + 1) % 1024) (t.now + if (s.scan.passRow + 1) % 1024 = 0 then 323 else 203))
      ∧ t.reg SHD.MISMATCH_COUNT.COUNT = s.reg SHD.MISMATCH_COUNT.COUNT)
    ∧ (∀ eb lm, out = .differ eb lm →
      Counted s t SHD.MISMATCH_COUNT.COUNT (if eb ≠ [] ∧ lm ≠ [] ∧ s.shd.softReq ≠ [] then 2 else 1)
      ∧ t.flag SHD.STATUS.CMP_MISMATCH = true ∧ (s.shd.passMismatch = false → Faulted s t 13 2))
    ∧ (out = .single → Counted s t SHD.MISMATCH_COUNT.COUNT 1 ∧ t.flag SHD.STATUS.ROW_SINGLE = true ∧ Faulted s t 14 3
      ∧ t.flag SAFE.FB_CAUSE.FATAL = true)
    ∧ (out = .neither → t.shd.blankReady = none ∧ Faulted s t 14 3 ∧ t.flag SAFE.FB_CAUSE.FATAL = true)
    ∧ (ecc = .corrected → Faulted s t 15 1)
    ∧ (ecc = .activeDouble → Faulted s t 15 3 ∧ t.flag SAFE.FB_CAUSE.FATAL = true)
    ∧ (∀ n x, ecc = .stagedDouble n → (s.ctxSlot n).staged = some x →
      Counted s t SHD.WR_REJECT_COUNT.COUNT 1 ∧ Faulted s t 15 2))

/-! ### The beam engines -/

/-- BAND_COMPLETE completes: which bytes it stores and what the end of an entry does (R198, R202, R203). -/
def Obligations.BandCompletion : Prop :=
  ∀ s b r i e, s.flag BE.CTRL.EN = true → s.eng.running = some r → currentEntry r b = some (i, e) → mayWrite s e b = true →
    Completes (.bandComplete b) s fun t =>
      (∀ a, (∀ v, v < blkH e.block → rowBand r.mode e.block v = b →
          ¬ (e.out + v * blkStride e.block ≤ a ∧ a < e.out + v * blkStride e.block + (outputRow s r e.block v).length)) →
        t.dramByte a = s.dramByte a)
      ∧ ((∀ v, (outputRow s r e.block v).length ≤ blkStride e.block) →
        ∀ v, v < blkH e.block → rowBand r.mode e.block v = b →
          e.out + v * blkStride e.block + (outputRow s r e.block v).length ≤ s.dramSize →
          t.dramBytes (e.out + v * blkStride e.block) (outputRow s r e.block v).length = outputRow s r e.block v)
      ∧ (e.todo ≠ 2 ^ b →
        t.eng.running = some { r with entries := r.entries.set i { e with todo := e.todo - 2 ^ b } }
        ∧ ∀ k, t.reg (GAL.FENCE.FENCE k) = s.reg (GAL.FENCE.FENCE k))
      ∧ (e.todo = 2 ^ b →
        t.reg (GAL.FENCE.FENCE (blkFence e.block)) = (s.reg (GAL.FENCE.FENCE (blkFence e.block)) + 1) % 2 ^ 32
        ∧ (blkFlag e.block 2 = true → blkSlot e.block < 7 →
          t.reg (GAL.L.NEXT_CRC.NEXT_CRC (blkSlot e.block)) = (outputCheck t e).toNat)
        ∧ ((∀ x ∈ r.entries.eraseIdx i, x.todo = 0) →
          t.eng.running = none ∧ t.stats.rendered = s.stats.rendered + 1))

/-- ENGINE_FAULT, BAND_TIMEOUT and SELF_TEST_COMPLETE complete with these effects (R216, R217, R219). -/
def Obligations.EngineFaults : Prop :=
  (∀ s n k, n < 18 → s.flag BE.CTRL.EN = true → isActive s n = true →
    Completes (.engineFault n k) s fun t => EngineLost s t n)
  ∧ (∀ s n k, n < 18 → s.flag BE.CTRL.EN = true → isActive s n = false → isSpare s n = true →
    Completes (.engineFault n k) s fun t =>
      EngineRetired s t n ∧ t.eng.running = s.eng.running ∧ t.scan.loading = s.scan.loading)
  ∧ (∀ s b r, s.flag BE.CTRL.EN = true → s.eng.running = some r → (currentEntry r b).isSome = true →
      s.reg (BE.BAND_MAP.ENGINE b) < 18 → isActive s (s.reg (BE.BAND_MAP.ENGINE b)) = true →
    Completes (.bandTimeout b) s fun t => EngineLost s t (s.reg (BE.BAND_MAP.ENGINE b)))
  ∧ (∀ s n, n < 18 → bit s.eng.testing n = true → Completes (.selfTestComplete n true) s fun t =>
    bit t.eng.testing n = false ∧ t.flt = s.flt)
  ∧ ∀ s n, n < 18 → bit s.eng.testing n = true → isActive s n = false → isSpare s n = true →
    Completes (.selfTestComplete n false) s fun t => EngineRetired s t n ∧ bit t.eng.testing n = false

/-- PINGPONG_BUFFER_FREE, VIDEO_INPUT_READY, SPARE_READY, SPARE_ROTATION, PAUSE_PERIOD_START and COMPUTE_RESTORED complete with
these effects (R204, R210, R217, R219, R220, R222). -/
def Obligations.EngineEvents : Prop :=
  (∀ s b r i e, s.eng.running = some r → currentEntry r b = some (i, e) → s.flag BE.CTRL.EN = true → blkFlag e.block 3 = true →
      bufferFree s e = true → inputReady s e = true → Completes (.pingpongBufferFree b) s fun t =>
    t.eng.running = some { r with entries := r.entries.set i { e with started := e.started ||| 2 ^ b } })
  ∧ (∀ s b r i e, s.eng.running = some r → currentEntry r b = some (i, e) → s.flag BE.CTRL.EN = true → blkKernel e.block = 4 →
      bufferFree s e = true → fenceReached s (leAt e.block 0x2E 1 % 64) (leAt e.block 0x30 4) = true →
      Completes (.videoInputReady b) s fun t =>
    t.eng.running = some { r with entries := r.entries.set i { e with started := e.started ||| 2 ^ b } })
  ∧ (∀ s, s.eng.spares < s.eng.orphans.length → Completes .spareReady s fun t => t.eng.spares = s.eng.spares + 1)
  ∧ (∀ s, s.flag BE.CTRL.EN = true → s.flag BE.CTRL.ROTATE_EN = true → Completes .spareRotation s fun t => t.eng.rotateDue = true)
  ∧ (∀ s, Completes .pausePeriodStart s fun t => t.reg BE.LOAD.PAUSE = s.thm.pause % 16)
  ∧ ∀ s, s.eng.stepWatch = true → s.reg BE.LOAD.LOAD ≤ 45 → Completes .computeRestored s fun t =>
    t.eng.stepWatch = false ∧ Told s t [(0x0202, toLe 1 s.mode)]

/-! ### The Guard -/

/-- SAFE_PACKET and CAN_SAFE_FRAME complete; which records are accepted, and how they pair (R251, R253, R254, R391). -/
def Obligations.SafeRecords : Prop :=
  (∀ s p pkt rx, (s.port (portNo p)).pkt = some (pkt, rx) → pkt.hdr.type = 3 →
    Completes (.safePacket p) s fun t => SafeJudged s t false pkt.payload)
  ∧ (∀ s f, canOn s = true → canMatches f (s.flag CAN.SAFE_ID.IDE) (s.reg CAN.SAFE_ID.ID) = true →
    Completes (.canSafeFrame f) s fun t =>
      (f.fd = true → f.dlc = 13 → SafeJudged s t true f.data)
      ∧ (f.fd = false ∨ f.dlc ≠ 13 → t.guard = s.guard ∧ Counted s t CAN.DROP.COUNT 1))
  ∧ (∀ s pathB b, safeAccepted s pathB b = true ↔
    b.length = 32 ∧ (∃ k, otpKey s 2 = some k ∧ bytesAt b 0x18 8 = (cmac k (bytesAt b 0 0x18)).take 8)
    ∧ (leAt b 0x14 2 % 1024 = 1023
      ∨ s.flag TXLA.NODE.ADDR_VALID = true ∧ leAt b 0x14 2 % 1024 = s.reg TXLA.NODE.ADDR)
    ∧ leAt b 0xA 1 ≤ 4 ∧ s.synced = true
    ∧ (ltDiff (extend48 s.now (leAt b 4 6)) s.now).natAbs ≤ s.windowMs * 400000
    ∧ ∀ l, lastSeq s pathB = some l → 0 < (BitVec.ofNat 32 (leAt b 0 4) - BitVec.ofNat 32 l).toInt)
  ∧ ∀ s f o, canOn s = true → canMatches f (s.flag CAN.SAFE_ID.IDE) (s.reg CAN.SAFE_ID.ID) = true → f.fd = true → f.dlc = 13 →
    safeAccepted s true f.data = true → s.guard.recA.find? (fun x => x.seq == leAt f.data 0 4) = some o →
    Completes (.canSafeFrame f) s fun t =>
      ((ltDiff o.arrived s.now).natAbs ≤ s.windowMs * 400000 ∧ bytesAt o.bytes 0 0x18 = bytesAt f.data 0 0x18 →
        (t.guard.pair.map SafeRec.seq = some (leAt f.data 0 4)) ∧ (t.guard.pair.map SafeRec.digest = some (leAt f.data 0x10 4)))
      ∧ (¬ ((ltDiff o.arrived s.now).natAbs ≤ s.windowMs * 400000 ∧ bytesAt o.bytes 0 0x18 = bytesAt f.data 0 0x18) →
        AgreementEnds s t)

/-- SAFE_PARTNER_TIMEOUT, AGREED_VALIDITY_END and the publish point's settlement of a pair; the effective mask (R253 to R255). -/
def Obligations.PathStates : Prop :=
  (∀ s, s.guard.recA ≠ [] ∨ s.guard.recB ≠ [] → Completes .safePartnerTimeout s fun t =>
    AgreementEnds s t ∧ t.guard.recA.length + t.guard.recB.length + 1 = s.guard.recA.length + s.guard.recB.length)
  ∧ (∀ s, s.reg SAFE.STATUS.PATH_STATE = 2 → Completes .agreedValidityEnd s fun t => AgreementEnds s t)
  ∧ (∀ s r, s.scan.passOn = false → timerRuns s = true → s.guard.pair = some r → Completes .publishTimer s fun t =>
    t.guard.pair = none
    ∧ (r.digest = digestOf t →
      t.guard.agreedClass = r.cls ∧ t.guard.agreedMask = r.mask
      ∧ (s.reg SAFE.STATUS.PATH_STATE ≠ 0 ∨ 1 ≤ s.guard.withdrawnPairs → t.reg SAFE.STATUS.PATH_STATE = 2)
      ∧ (s.reg SAFE.STATUS.PATH_STATE = 0 → s.guard.withdrawnPairs = 0 →
        t.reg SAFE.STATUS.PATH_STATE = 0 ∧ t.guard.withdrawnPairs = 1))
    ∧ (r.digest ≠ digestOf t → s.reg SAFE.STATUS.PATH_STATE = 2 → t.reg SAFE.STATUS.PATH_STATE = 1)
    ∧ (r.digest ≠ digestOf t → s.reg SAFE.STATUS.PATH_STATE = 0 →
      t.reg SAFE.STATUS.PATH_STATE = 0 ∧ t.guard.withdrawnPairs = 0))
  ∧ ∀ s, s.guard.limits.broken = true ∨ s.reg SAFE.STATUS.PATH_STATE = 0 → effMask s = 0

/-- LOWBEAM_REQ_ASSERT, LOWBEAM_REQ_RELEASE, GUARD_WATCHDOG_EXPIRY, GUARD_OSC_FAIL, GUARD_GOOD and STRAP_REREAD complete with these effects
(R244 to R247, R260, R261, R538). -/
def Obligations.FallbackCausesAndStraps : Prop :=
  ((∀ s, s.pins.lowbeam = false → s.thm.trip = false → Completes .lowbeamReqAssert s fun t =>
      t.pins.lowbeam = true ∧ t.flag SAFE.FB_CAUSE.LOWBEAM = true ∧ (fbActive s = false → AllOnFallback t)
      ∧ (domainsOff s = false → fbActive s = false → Counted s t SAFE.FB_ENTRIES.VALUE 1))
    ∧ (∀ s, s.pins.lowbeam = false → s.thm.trip = true → Completes .lowbeamReqAssert s fun t =>
      t.pins.lowbeam = true ∧ t.scan = s.scan)
    ∧ (∀ s, s.pins.lowbeam = true → Completes .lowbeamReqRelease s fun t =>
      t.pins.lowbeam = false ∧ t.flag SAFE.FB_CAUSE.LOWBEAM = false ∧ (domainsOff s = false → t.scan = s.scan))
    ∧ (∀ s c, c = Instr.guardWatchdogExpiry ∨ c = Instr.guardOscFail → Completes c s fun t =>
      t.guard.guardFail = true ∧ t.flag SAFE.FB_CAUSE.GUARD = true ∧ t.flag SAFE.FB_CAUSE.FATAL = true ∧ Faulted s t 8 3
      ∧ (fbActive s = false → AllOnFallback t ∧ Counted s t SAFE.FB_ENTRIES.VALUE 1)
      ∧ (s.flag SAFE.FB_CAUSE.GUARD = false → t.flt.errAsync = true ∧ errHeld t = true))
    ∧ ∀ s, Completes .guardGood s fun t => t.guard.guardFail = false ∧ ∀ c, t.flag c = s.flag c)
  ∧ (∀ s pads, strapWord pads = strapWord s.guard.straps → Completes (.strapReread pads) s fun t =>
    (∀ f, t.reg f = s.reg f) ∧ t.guard.limits = s.guard.limits ∧ t.flt = s.flt ∧ t.guard.breakDue = s.guard.breakDue)
  ∧ (∀ s pads, strapWord pads ≠ strapWord s.guard.straps → s.guard.limits.broken = false → s.flag SCAN.CTRL.EN = false →
    Completes (.strapReread pads) s fun t =>
      t.flag SAFE.SEAL.STRAP_CHANGED = true ∧ t.guard.limits = limitsOf s true ∧ t.guard.limits.broken = true
      ∧ t.flag SAFE.STATUS.SEAL_BROKEN = true ∧ Told s t [(0x0601, toLe 1 1 ++ toLe 1 (slotShown s))] ∧ Faulted s t 11 2)
  ∧ (∀ s pads, strapWord pads ≠ strapWord s.guard.straps → s.guard.limits.broken = false → s.flag SCAN.CTRL.EN = true →
    Completes (.strapReread pads) s fun t =>
      t.flag SAFE.SEAL.STRAP_CHANGED = true ∧ t.guard.limits = s.guard.limits ∧ t.guard.breakDue = true ∧ t.flt = s.flt)
  ∧ ∀ s pads, strapWord pads ≠ strapWord s.guard.straps → s.guard.limits.broken = true →
    Completes (.strapReread pads) s fun t => t.flag SAFE.SEAL.STRAP_CHANGED = true ∧ t.guard.limits = s.guard.limits

/-! ### Diagnostics, calibration and ageing -/

/-- MAP_ENTRY_COMMIT, HEALING_GEN_COMPLETE and GAINMAP_GEN_COMPLETE complete with these effects (R289, R291, R300, R302). -/
def Obligations.GenerationsAndMap : Prop :=
  (∀ s, supUp s = true → s.diag.uncommitted ≠ [] → mayCommit s 0x11 = true → Completes .mapEntryCommit s fun t =>
    Committed s t 0x11 (mapPayload s) ∧ t.diag.uncommitted = [] ∧ t.diag.map = s.diag.map)
  ∧ (∀ s, Completes .healingGenComplete s fun t => t.diag.healReady = some s.diag.map ∧ t.diag.heal = s.diag.heal)
  ∧ ∀ s, Completes .gainmapGenComplete s fun t => t.cal.gain = s.cal.gain ∧ t.cal.dose = s.cal.dose
    ∧ ∃ g, t.cal.gainReady = some g ∧ ∀ c r, c < (planeRow 0 s.cal.dose r).length → r < 1024 →
      planeGet 8192 t.cal.age c r = ageFactor s (planeSum s.cal.dose / 1048576) (planeGet 0 s.cal.dose c r)
      ∧ planeGet 8192 g c r = if mapped s c r then 8192
          else min 65535 ((planeGet 8192 t.cal.age c r * planeGet 8192 s.cal.trims c r + 4096) / 8192)

/-- HOURLY_CHECKPOINT completes with these effects; the coding of dose words (R319, R321, R322). -/
def Obligations.HourlyCheckpoint : Prop :=
  (∀ s photo, supUp s = true → Completes (.hourlyCheckpoint photo) s fun t =>
    t.cal.witnesses = measureWitnesses s photo
    ∧ (((List.range 4).filterMap (tierPoint (measureWitnesses s photo))).length < 2 →
      t.flag CAL.STATUS.WITNESS_LOW = true ∧ Faulted s t 50 1 ∧ t.cal.model = s.cal.model)
    ∧ (2 ≤ ((List.range 4).filterMap (tierPoint (measureWitnesses s photo))).length →
      t.reg CAL.AG_STATUS.MODEL_GEN = (s.reg CAL.AG_STATUS.MODEL_GEN + 1) % 256 ∧ t.cal.model.length = 32
      ∧ (∀ i, i < 32 → 32768 ≤ t.cal.model.getD i 0 ∧ t.cal.model.getD i 0 ≤ 65536)
      ∧ ∀ i, i < 31 → t.cal.model.getD (i + 1) 0 ≤ t.cal.model.getD i 0)
    ∧ (mayCommit s 0x12 = true →
      (∃ data, Committed s t 0x12 data) ∧ t.cal.ckptRow = (s.cal.ckptRow + 64) % 1024 ∧ t.cal.ckptDue = false
      ∧ ∀ c r, planeGet 0 (if (nextCopy (recOf s 0x12)).1 = 0 then t.mram.doseA else t.mram.doseB) c r
          = doseEncode (planeGet 0 s.cal.dose c r))
    ∧ (mayCommit s 0x12 = false → t.cal.ckptDue = true ∧ t.mram = s.mram))
  ∧ ∀ d, d < 2 ^ 32 → doseEncode d < 2 ^ 16 ∧ doseDecode (doseEncode d) ≤ d ∧ (d - doseDecode (doseEncode d)) * 2048 ≤ d

/-- DELAY_MONITOR_READING completes with these effects (R324). -/
def Obligations.DelayMonitors : Prop :=
  ∀ s margins, margins.length = 24 → (∀ m ∈ margins, m < 65536) → Completes (.delayMonitorReading margins) s fun t =>
    (t.reg CAL.VM_STATUS.MARGIN_MIN ∈ margins ∧ ∀ m ∈ margins, t.reg CAL.VM_STATUS.MARGIN_MIN ≤ m)
    ∧ margins.getD (t.reg CAL.VM_STATUS.WORST_MON) 0 = t.reg CAL.VM_STATUS.MARGIN_MIN
    ∧ (s.flag CAL.CTRL.VM_EN = false → t.cal = s.cal)
    ∧ (s.flag CAL.CTRL.VM_EN = true →
      (t.reg CAL.VM_STATUS.MARGIN_MIN < s.reg CAL.VM_CFG.M_LOW →
        t.cal.vcPlan = clampN s.vcMin s.vcMax (s.cal.vcPlan + 1) ∧ t.cal.highHours = 0)
      ∧ (s.reg CAL.VM_CFG.M_LOW ≤ t.reg CAL.VM_STATUS.MARGIN_MIN → s.reg CAL.VM_CFG.M_HIGH < t.reg CAL.VM_STATUS.MARGIN_MIN →
        (if 23 ≤ s.cal.highHours then t.cal.vcPlan = clampN s.vcMin s.vcMax (s.cal.vcPlan - 1) ∧ t.cal.highHours = 0
          else t.cal.vcPlan = s.cal.vcPlan ∧ t.cal.highHours = s.cal.highHours + 1))
      ∧ (s.reg CAL.VM_CFG.M_LOW ≤ t.reg CAL.VM_STATUS.MARGIN_MIN → t.reg CAL.VM_STATUS.MARGIN_MIN ≤ s.reg CAL.VM_CFG.M_HIGH →
        t.cal.vcPlan = s.cal.vcPlan ∧ t.cal.highHours = 0)
      ∧ (t.reg CAL.VM_STATUS.MARGIN_MIN < 10 → s.vcMax ≤ s.cal.vcPlan → Faulted s t 51 2)
      ∧ clampN s.vcMin s.vcMax s.cal.vcPlan ≤ 10)

/-! ### The Tatex link -/

/-- PORT_EN_SET, TRN1_RECEIVED, TRN2_RECEIVED, RATE_CHANGE, ADAPTATION_COMPLETE, TRAINING_TIMEOUT and TRAINING_RESTART complete with
these effects (R342, R343). Step numbers are the model's `phase`. -/
def Obligations.LinkTraining : Prop :=
  (∀ s p, ShapeOk s → s.flag (TX.CTRL.EN (portNo p)) = false → Completes (.portEnSet p) s fun t =>
    t.flag (TX.CTRL.EN (portNo p)) = true
    ∧ (if ringRole s = 3 ∧ p = .b then t.reg (TX.STATUS.STATE (portNo p)) = 1 ∧ (t.port (portNo p)).phase = 0
       else t.reg (TX.STATUS.STATE (portNo p)) = 2 ∧ (t.port (portNo p)).phase = 1))
  ∧ (∀ s p i r, ShapeOk s → s.reg (TX.STATUS.STATE (portNo p)) = 2 → (s.port (portNo p)).phase = 1 → r ≤ rateMax s (portNo p) →
      bit i.rates.toNat r = true → (∀ q, r < q → q ≤ rateMax s (portNo p) → bit i.rates.toNat q = false) →
      Completes (.trn1Received p i) s fun t =>
    t.reg (TX.STATUS.LANE_MAP (portNo p)) = i.laneMap.toNat ∧ t.reg (TX.STATUS.INVERTED (portNo p)) = i.inverted.toNat
    ∧ (t.port (portNo p)).phase = 3 ∧ (t.port (portNo p)).choice = r ∧ (t.port (portNo p)).fomReq = i.fomReq)
  ∧ (∀ s p fom, ShapeOk s → s.reg (TX.STATUS.STATE (portNo p)) = 2 →
      Completes (.trn2Received p (s.port (portNo p)).choice fom) s fun t =>
    ((s.port (portNo p)).phase = 3 → (t.port (portNo p)).phase = 4)
    ∧ ((s.port (portNo p)).phase = 6 →
      (∀ l, l < 4 → (s.port (portNo p)).fomReq ≤ (s.port (portNo p)).fomAch.getD l 0
        ∧ s.reg (TX.CFG.FOM_MIN (portNo p)) ≤ fom.getD l 0) →
      t.reg (TX.STATUS.STATE (portNo p)) = 3 ∧ t.reg (TX.STATUS.RATE (portNo p)) = (s.port (portNo p)).choice % 4
      ∧ eventOf s 0x0A01 (toLe 1 (portNo p) ++ toLe 1 (s.port (portNo p)).choice) ∈ t.flt.jorosh)
    ∧ ((s.port (portNo p)).phase = 6 →
      (∃ l, l < 4 ∧ ((s.port (portNo p)).fomAch.getD l 0 < (s.port (portNo p)).fomReq
        ∨ fom.getD l 0 < s.reg (TX.CFG.FOM_MIN (portNo p)))) →
      if (s.port (portNo p)).choice = 0 then (t.port (portNo p)).phase = 7 ∧ Counted s t (TX.TRAIN_FAIL (portNo p)) 1
      else (t.port (portNo p)).phase = 4 ∧ (t.port (portNo p)).choice = (s.port (portNo p)).choice - 1))
  ∧ (∀ s p, ShapeOk s → s.reg (TX.STATUS.STATE (portNo p)) = 2 → (s.port (portNo p)).phase = 4 →
    Completes (.rateChange p) s fun t => (t.port (portNo p)).phase = 5)
  ∧ (∀ s p lanes, ShapeOk s → s.reg (TX.STATUS.STATE (portNo p)) = 2 → (s.port (portNo p)).phase = 5 →
    Completes (.adaptationComplete p lanes) s fun t =>
      (t.port (portNo p)).phase = 6 ∧ (t.port (portNo p)).fomAch = lanes.map (fun l => min 255 l.fom)
      ∧ ∀ l e, l < 4 → lanes[l]? = some e → t.reg (TX.EQ.CTLE (4 * portNo p + l)) = min 7 e.ctle
        ∧ t.reg (TX.EQ.H1 (4 * portNo p + l)) = min 63 e.h1)
  ∧ (∀ s p, ShapeOk s → s.reg (TX.STATUS.STATE (portNo p)) = 2 → (s.port (portNo p)).phase ≠ 7 →
    Completes (.trainingTimeout p) s fun t =>
      (t.port (portNo p)).phase = 1 ∧ Counted s t (TX.TRAIN_FAIL (portNo p)) 1)
  ∧ ∀ s p, ShapeOk s → s.reg (TX.STATUS.STATE (portNo p)) = 2 → (s.port (portNo p)).phase = 7 →
    Completes (.trainingRestart p) s fun t => (t.port (portNo p)).phase = 1

/-- BIT_LOCK_LOSS, RETRAIN, ELASTIC_BUFFER_SLIP, CODE_ERROR_BURST, FOM_MEASUREMENT, PORT_EN_CLEAR, QUARANTINE_TIMEOUT and
QUARANTINE_RELEASE complete with these effects (R336, R338, R344, R345, R369, R372). -/
def Obligations.LinkLoss : Prop :=
  (∀ s p c, c = Instr.bitLockLoss p ∨ c = Instr.retrain p → ShapeOk s → portUp s (portNo p) = true → Completes c s fun t =>
    LinkWentDown s t (portNo p) (s.port (portNo p)).sleepRx ∧ Told s t (lossEvents s (portNo p) (s.port (portNo p)).sleepRx))
  ∧ (∀ s p, ShapeOk s → portUp s (portNo p) = true → Completes (.elasticBufferSlip p) s fun t =>
    LinkWentDown s t (portNo p) (s.port (portNo p)).sleepRx ∧ Counted s t (TX.CODE_ERR (portNo p)) 1)
  ∧ (∀ s p n, ShapeOk s → Completes (.codeErrorBurst p n) s fun t =>
    Counted s t (TX.CODE_ERR (portNo p)) n
    ∧ (n ≤ 8 → t.reg (TX.STATUS.STATE (portNo p)) = s.reg (TX.STATUS.STATE (portNo p)) ∧ t.flt = s.flt)
    ∧ (8 < n → portUp s (portNo p) = true → LinkWentDown s t (portNo p) (s.port (portNo p)).sleepRx))
  ∧ (∀ s p lanes gains, ShapeOk s → portUp s (portNo p) = true → s.flag (TX.CTRL.EQ_FREEZE (portNo p)) = false →
    Completes (.fomMeasurement p lanes gains) s fun t =>
      (∀ l e, l < 4 → lanes[l]? = some e → t.reg (TX.FOM.FOM (4 * portNo p + l)) = min 255 e.fom)
      ∧ ((∃ l e, l < 4 ∧ lanes[l]? = some e ∧ min 255 e.fom < s.reg (TX.CFG.FOM_DOWN (portNo p))
          ∧ 1 ≤ (s.port (portNo p)).downRuns.getD l 0) →
        portUp t (portNo p) = false ∧ t.flag (TX.STATUS.LINK_DOWN (portNo p)) = true ∧ (t.port (portNo p)).cur = none)
      ∧ ((∃ l e, l < 4 ∧ lanes[l]? = some e ∧ min 255 e.fom < s.reg (TX.CFG.FOM_WARN (portNo p))
          ∧ (s.port (portNo p)).warnRuns.getD l 0 = 2) →
        t.flag (TX.STATUS.FOM_LOW (portNo p)) = true))
  ∧ (∀ s p, ShapeOk s → s.flag (TX.CTRL.EN (portNo p)) = true → Completes (.portEnClear p) s fun t =>
    t.flag (TX.CTRL.EN (portNo p)) = false ∧ t.reg (TX.STATUS.STATE (portNo p)) = 0 ∧ (t.port (portNo p)).phase = 0
    ∧ (portUp s (portNo p) = true → t.flag (TX.STATUS.LINK_DOWN (portNo p)) = true ∧ Told s t (lossEvents s (portNo p) true)))
  ∧ ∀ s p c, ShapeOk s → (c = Instr.quarantineTimeout p ∧ s.reg (TX.STATUS.STATE (portNo p)) = 4)
      ∨ (c = Instr.quarantineRelease p ∧ s.reg (TX.STATUS.STATE (portNo p)) = 5) → Completes c s fun t =>
    ¬ (ringRole s = 3 ∧ p = .b) → t.reg (TX.STATUS.STATE (portNo p)) = 2 ∧ (t.port (portNo p)).phase = 1

/-- PACKET_HEADER_ARRIVAL, PACKET_END and LOCAL_PACKET_RESEND complete with these effects (R349, R352, R353, R368, R369). -/
def Obligations.Packets : Prop :=
  (∀ s p h, ShapeOk s → portUp s (portNo p) = true → Completes (.packetHeaderArrival p h) s fun t =>
    (9 ≤ h.type ∨ 512 < h.len →
      Counted s t (TX.MALFORMED (portNo p)) 1 ∧ ∃ a, (t.port (portNo p)).cur = some a ∧ a.consume = false ∧ a.out = none)
    ∧ (h.type < 9 → h.len ≤ 512 → p = .a → h.wrapped = true →
      Counted s t (TX.WRAP_DROP 0) 1 ∧ ∃ a, (t.port 0).cur = some a ∧ a.consume = false ∧ a.out = none)
    ∧ (h.type < 9 → h.len ≤ 512 → p = .a → h.wrapped = false → s.flag TXLA.RING_CFG.MONITOR = true → h.mon = true →
      Counted s t (TX.ORPHAN 0) 1 ∧ ∃ a, (t.port 0).cur = some a ∧ a.consume = false ∧ a.out = none)
    ∧ (h.type < 9 → h.len ≤ 512 → judgedWrapped s p h = false → (s.flag TXLA.RING_CFG.MONITOR = false ∨ h.mon = false) →
        s.flag TXLA.NODE.ADDR_VALID = true → h.src = s.reg TXLA.NODE.ADDR →
      (∀ f, t.reg f = s.reg f) ∧ ∃ a, (t.port (portNo p)).cur = some a ∧ a.consume = false ∧ a.out = none)
    ∧ (h.type < 9 → h.len ≤ 512 → ¬ (p = .a ∧ h.wrapped = true) →
        (s.flag TXLA.RING_CFG.MONITOR = false ∨ h.mon = false) → (s.flag TXLA.NODE.ADDR_VALID = false ∨ h.src ≠ s.reg TXLA.NODE.ADDR) →
      ∃ a, (t.port (portNo p)).cur = some a ∧ a.hdr = h ∧ a.rx = s.now
        ∧ (a.consume = true ↔ h.type = 7 ∨ h.type = 8 ∨ nopActs h = true ∨ judgedWrapped s p h = false
            ∧ (h.dest = 1023 ∨ s.flag TXLA.NODE.ADDR_VALID = true ∧ h.dest = s.reg TXLA.NODE.ADDR))
        ∧ (h.type = 7 ∨ h.type = 8 ∨ nopActs h = true ∨ s.flag TXLA.NODE.ADDR_VALID = true ∧ h.dest = s.reg TXLA.NODE.ADDR →
          a.out = none)
        ∧ (topoRing s = false → ∀ o, a.out = some o → o = (1 - portNo p, h.wrapped) ∧ portUp s (1 - portNo p) = true)
        ∧ (topoRing s = false → h.type ≠ 7 → h.type ≠ 8 → nopActs h = false → portUp s (1 - portNo p) = true →
            (s.flag TXLA.NODE.ADDR_VALID = false ∨ h.dest ≠ s.reg TXLA.NODE.ADDR) →
            s.reg (TX.STATUS.RATE (portNo p)) ≤ s.reg (TX.STATUS.RATE (1 - portNo p)) →
          a.out = some (1 - portNo p, h.wrapped))
        ∧ (topoRing s = true → p = .a → portUp s 1 = false → h.type ≠ 7 → h.type ≠ 8 → nopActs h = false →
            (s.flag TXLA.NODE.ADDR_VALID = false ∨ h.dest ≠ s.reg TXLA.NODE.ADDR) →
          a.out = some (0, true))))
  ∧ (∀ s p a payload crc e, ShapeOk s → portUp s (portNo p) = true → (s.port (portNo p)).cur = some a → a.hdr.type < 9 →
      a.hdr.len ≤ 512 → Completes (.packetEnd p payload crc e) s fun t =>
    (t.port (portNo p)).cur = none
    ∧ (e = .eopBad → Counted s t (TX.STOMP_RX (portNo p)) 1 ∧ (t.port (portNo p)).pkt = (s.port (portNo p)).pkt)
    ∧ (e ≠ .eopBad → (e ≠ .eop ∨ payload.length ≠ 4 * a.hdr.len) →
      Counted s t (TX.MALFORMED (portNo p)) 1 ∧ (t.port (portNo p)).pkt = (s.port (portNo p)).pkt)
    ∧ (e = .eop → payload.length = 4 * a.hdr.len → crc ≠ packetCrc a.hdr payload →
      Counted s t (TX.CRC_ERR (portNo p)) 1 ∧ (t.port (portNo p)).pkt = (s.port (portNo p)).pkt)
    ∧ (∀ q w, a.out = some (q, w) → q < 2 → (t.port q).lastFwd.map Prod.snd
        = some (!decide (e = .eop ∧ payload.length = 4 * a.hdr.len ∧ crc = packetCrc a.hdr payload)))
    ∧ (e = .eop → payload.length = 4 * a.hdr.len → crc = packetCrc a.hdr payload → a.consume = true →
      (typeLenOk a.hdr payload = false → Counted s t (TX.MALFORMED (portNo p)) 1)
      ∧ (typeLenOk a.hdr payload = true → trusted s a.hdr = false → Counted s t (TX.UNTRUSTED (portNo p)) 1)
      ∧ (typeLenOk a.hdr payload = true → trusted s a.hdr = true → rateLimit s a.hdr = none →
        Counted s t (TX.RATE_DROP (portNo p)) 1)
      ∧ (typeLenOk a.hdr payload = true → trusted s a.hdr = true → rateLimit s a.hdr ≠ none →
        (t.port (portNo p)).pkt = some (⟨a.hdr, payload⟩, a.rx)))
    ∧ (e = .eop → payload.length = 4 * a.hdr.len → crc = packetCrc a.hdr payload → a.consume = false →
      (t.port (portNo p)).pkt = (s.port (portNo p)).pkt ∧ ∀ f, t.reg f = s.reg f))
  ∧ ∀ s p x l, ShapeOk s → (s.port (portNo p)).waiting = x :: l → portUp s (portNo p) = true → fwdBusy s (portNo p) = false →
    localBusy s (portNo p) = false → Completes (.localPacketResend p) s fun t =>
      (t.port (portNo p)).sending = some { x with start := s.now } ∧ (t.port (portNo p)).waiting = l

/-- VROW_PACKET, OBJ_PACKET, NOP_ENUM, NOP_ENUM_END, NOP_TOPO and NOP_SLEEP complete with these effects (R350, R351, R357, R372). -/
def Obligations.ConsumedPackets : Prop :=
  (∀ s p pkt rx, ShapeOk s → (s.port (portNo p)).pkt = some (pkt, rx) → pkt.hdr.type = 1 →
    Completes (.vrowPacket p) s fun t =>
      (∀ b, b < 4 * leAt pkt.payload 0 4 ∨ 4 * leAt pkt.payload 0 4 + (pkt.payload.length - 8) ≤ b → t.dramByte b = s.dramByte b)
      ∧ (inWindow s pkt.hdr.src (4 * leAt pkt.payload 0 4) (pkt.payload.length - 8) = false →
        t.dram = s.dram ∧ Counted s t (TX.UNTRUSTED (portNo p)) 1)
      ∧ (inWindow s pkt.hdr.src (4 * leAt pkt.payload 0 4) (pkt.payload.length - 8) = true →
        (if s.dramSize < 4 * leAt pkt.payload 0 4 + (pkt.payload.length - 8) then
          t.dram = s.dram ∧ t.flag DDRC.STATUS.RANGE_ERR = true
         else t.dramBytes (4 * leAt pkt.payload 0 4) (pkt.payload.length - 8) = pkt.payload.drop 8)
        ∧ (bit (leAt pkt.payload 4 1) 7 = true → t.reg (GAL.FENCE.FENCE (leAt pkt.payload 4 1 % 64))
          = (s.reg (GAL.FENCE.FENCE (leAt pkt.payload 4 1 % 64)) + leAt pkt.payload 6 2) % 2 ^ 32)))
  ∧ (∀ s p pkt rx, ShapeOk s → (s.port (portNo p)).pkt = some (pkt, rx) → pkt.hdr.type = 2 →
    Completes (.objPacket p) s fun t =>
      (∀ n, t.ctxSlot n = (applyRecords (bit pkt.hdr.tspec 0) (s.setPort (portNo p) (fun y => { y with pkt := none })) 0
        ((List.range (leAt pkt.payload 0 1)).map (fun i => bytesAt pkt.payload (4 + 64 * i) 64))).1.ctxSlot n)
      ∧ t.shd.commitDue = (s.shd.commitDue || bit pkt.hdr.tspec 1))
  ∧ (∀ s pkt rx, ShapeOk s → (s.port 0).pkt = some (pkt, rx) → pkt.hdr.type = 0 → pkt.hdr.tspec = 1 → s.net.enumMb = none →
    Completes (.nopEnum .a) s fun t =>
      (s.net.origin = some (leAt pkt.payload 0 2) →
        t.reg TXLA.NODE.TOPO = 2 ∧ t.reg TXLA.NODE.NODES = leAt pkt.payload 4 2 % 1024 ∧ t.net.origin = none)
      ∧ (s.net.origin ≠ some (leAt pkt.payload 0 2) → s.net.enumSeen ≠ some (leAt pkt.payload 0 2) →
        t.net.enumSeen = some (leAt pkt.payload 0 2)
        ∧ (ringRole s ≠ 2 → leAt pkt.payload 2 2 ≤ 511 →
          t.reg TXLA.NODE.ADDR = leAt pkt.payload 2 2 ∧ t.flag TXLA.NODE.ADDR_VALID = true)
        ∧ (ringRole s = 2 ∨ 511 < leAt pkt.payload 2 2 → t.reg TXLA.NODE.ADDR = s.reg TXLA.NODE.ADDR)))
  ∧ (∀ s p pkt rx, ShapeOk s → (s.port (portNo p)).pkt = some (pkt, rx) → pkt.hdr.type = 0 → pkt.hdr.tspec = 2 →
      s.net.origin = some (leAt pkt.payload 0 2) → s.net.enumMb = none → Completes (.nopEnumEnd p) s fun t =>
    t.reg TXLA.NODE.TOPO = (if bit (leAt pkt.payload 8 2) 1 then 2 else 1)
    ∧ t.reg TXLA.NODE.NODES = leAt pkt.payload 4 2 % 1024 ∧ t.net.origin = none)
  ∧ (∀ s p pkt rx, ShapeOk s → (s.port (portNo p)).pkt = some (pkt, rx) → pkt.hdr.type = 0 → pkt.hdr.tspec = 3 →
    Completes (.nopTopo p) s fun t =>
      (s.net.topoSeen = some (leAt pkt.payload 0 2) → ∀ f, t.reg f = s.reg f)
      ∧ (s.net.topoSeen ≠ some (leAt pkt.payload 0 2) →
        t.reg TXLA.NODE.TOPO = (if bit (leAt pkt.payload 8 2) 0 then 2 else 1)
        ∧ t.reg TXLA.NODE.NODES = leAt pkt.payload 4 2 % 1024 ∧ t.net.topoSeen = some (leAt pkt.payload 0 2)))
  ∧ ∀ s p pkt rx, ShapeOk s → (s.port (portNo p)).pkt = some (pkt, rx) → pkt.hdr.type = 0 → pkt.hdr.tspec = 4 →
    Completes (.nopSleep p) s fun t => (t.port (portNo p)).sleepRx = true ∧ (t.port (portNo p)).pkt = none

/-- SYNC_TIMER, SYNC_REQ_PACKET, SYNC_ACK_PACKET, SYNC_ACK_TIMEOUT, TIME_SET_SEND, TIME_SET_RECEIVED and WRAP_END_TIMER complete with
these effects (R340, R358, R361 to R365). -/
def Obligations.LampTimeSync : Prop :=
  (∀ s, ShapeOk s → Completes .syncTimer s fun t =>
    (portUp s 0 = true → (t.port 0).request
      = if fwdBusy s 0 || localBusy s 0 then none else some (stamp s s.now, s.net.seq))
    ∧ (portUp s 0 = false → portUp s 1 = true → (t.port 1).request
      = if fwdBusy s 1 || localBusy s 1 then none else some (stamp s s.now, s.net.seq))
    ∧ t.lt = s.lt)
  ∧ (∀ s p pkt rx, ShapeOk s → (s.port (portNo p)).pkt = some (pkt, rx) → pkt.hdr.type = 7 → portUp s (portNo p) = true →
      fwdBusy s (portNo p) = false → localBusy s (portNo p) = false → Completes (.syncReqPacket p) s fun t =>
    ∃ x, (t.port (portNo p)).sending = some x ∧ x.pkt.hdr.type = 8 ∧ leAt x.pkt.payload 0 2 = pkt.hdr.seq.toNat
      ∧ leAt x.pkt.payload 8 8 = stamp s rx % 2 ^ 64 ∧ leAt x.pkt.payload 0x10 8 = stamp s s.now % 2 ^ 64)
  ∧ (∀ s p t4 pkt rx t1 seq, ShapeOk s → (s.port (portNo p)).pkt = some (pkt, rx) → pkt.hdr.type = 8 →
      (s.port (portNo p)).request = some (t1, seq) → Completes (.syncAckPacket p t4) s fun t =>
    (leAt pkt.payload 0 2 ≠ seq → (t.port (portNo p)).request = some (t1, seq) ∧ t.lt = s.lt)
    ∧ (leAt pkt.payload 0 2 = seq →
      (t.port (portNo p)).request = none ∧ (t.port (portNo p)).stratum = leAt pkt.payload 2 2 % 1024
      ∧ t.reg (TX.DELAY.DELAY (portNo p))
        = toBits 24 ((diff64 (leAt pkt.payload 8 8) t1 + diff64 t4.toNat (leAt pkt.payload 0x10 8)) / 2)
      ∧ (t.reg TXLA.SYNC_STATUS.SYNC_PORT ≠ portNo p ∨ ringRole s = 1 ∨ leAt pkt.payload 2 2 % 1024 = 0x3FF → t.lt = s.lt)
      ∧ (t.reg TXLA.SYNC_STATUS.SYNC_PORT = portNo p → ringRole s ≠ 1 → leAt pkt.payload 2 2 % 1024 ≠ 0x3FF →
          s.synced = false → s.net.stepped = false →
        t.lt = BitVec.ofInt 64 (((s.lt.toNat * 256 + s.net.frac : Nat) + thetaOf s (portNo p) t1 pkt.payload t4) / 256)
        ∧ t.net.stepped = true)
      ∧ (t.reg TXLA.SYNC_STATUS.SYNC_PORT = portNo p → ringRole s ≠ 1 → leAt pkt.payload 2 2 % 1024 ≠ 0x3FF → s.synced = true →
          (medianInt ((thetaOf s (portNo p) t1 pkt.payload t4 :: (s.port (portNo p)).thetas).take 8)).natAbs ≤ 4096 * 256 →
        t.lt = s.lt
        ∧ t.net.slew = medianInt ((thetaOf s (portNo p) t1 pkt.payload t4 :: (s.port (portNo p)).thetas).take 8))))
  ∧ (∀ s p, ShapeOk s → Completes (.syncAckTimeout p) s fun t => (t.port (portNo p)).request = none)
  ∧ (∀ s, ShapeOk s → Completes .timeSetSend s fun t =>
    ∀ p, p < 2 → (t.port p).timeSent = if portUp s p then some s.now else (s.port p).timeSent)
  ∧ (∀ s p lt d, portUp s (portNo p) = true → s.reg TXLA.SYNC_STATUS.SYNC_PORT = portNo p →
      d = diff64 (lt.toNat * 256 + s.reg (TX.DELAY.DELAY (portNo p))) (s.lt.toNat * 256 + s.net.frac) →
      Completes (.timeSetReceived p lt) s fun t =>
    t.net.divergeRuns = (if 8 * 256 < d.natAbs then s.net.divergeRuns + 1 else 0)
    ∧ (8 * 256 < d.natAbs → s.net.divergeRuns = 2 → t.flag TXLA.SYNC_STATUS.LT_DIVERGE = true ∧ Faulted s t 63 1)
    ∧ (d.natAbs ≤ 8 * 256 → t.flt = s.flt))
  ∧ ∀ s, ShapeOk s → (s.port 0).toggling = true → Completes .wrapEndTimer s fun t =>
    (t.port 0).toggling = false ∧ t.flag (TX.STATUS.WRAP 0) = false ∧ Told s t [(0x0A05, toLe 1 0)]

/-! ### Host and side ports -/

/-- CAN_DIAG_SEGMENT, CAN_BUS_ERROR, BUS_OFF_ENTRY and CAN_BUS_OFF_RECOVERY complete with these effects (R390, R392). The error counts
and the thresholds are those of ISO 11898-1, a presumption of the model (log entry 26). -/
def Obligations.CanPort : Prop :=
  (∀ s f, s.flag CAN.CTRL.EN = true → s.flag CAN.CTRL.DIAG_EN = true →
      canMatches f (s.flag CAN.DIAG_RX_ID.IDE) (s.reg CAN.DIAG_RX_ID.ID) = true →
    Completes (.canDiagSegment f) s fun t =>
      (f.fd = false → Counted s t CAN.DROP.COUNT 1 ∧ t.mbx = s.mbx)
      ∧ (f.fd = true → bit (leAt f.data 0 1) 7 = false →
          (∀ k acc, s.mbx.canRx = some (k, acc) → leAt f.data 0 1 % 64 ≠ k) →
        Counted s t CAN.DROP.COUNT 1 ∧ t.mbx = { s.mbx with canRx := none })
      ∧ (f.fd = true → bit (leAt f.data 0 1) 7 = true → s.mbx.canRx = none → leAt f.data 0 1 % 64 ≠ 0 →
        Counted s t CAN.DROP.COUNT 1 ∧ t.mbx = s.mbx)
      ∧ (f.fd = true → bit (leAt f.data 0 1) 7 = true → s.mbx.canRx = none → leAt f.data 0 1 % 64 = 0 →
          bit (leAt f.data 0 1) 6 = false →
        t.mbx = { s.mbx with canRx := some (1, f.data.drop 1) } ∧ t.regs = s.regs)
      ∧ (∀ k acc, f.fd = true → bit (leAt f.data 0 1) 7 = false → s.mbx.canRx = some (k, acc) → leAt f.data 0 1 % 64 = k →
          bit (leAt f.data 0 1) 6 = false →
        t.mbx = { s.mbx with canRx := some ((k + 1) % 64, acc ++ f.data.drop 1) } ∧ t.regs = s.regs)
      ∧ (∀ b, f.fd = true → s.mbx.boxes.length = 8 → bit (leAt f.data 0 1) 6 = true →
          (bit (leAt f.data 0 1) 7 = true ∧ s.mbx.canRx = none ∧ leAt f.data 0 1 % 64 = 0 ∧ b = f.data.drop 1
            ∨ bit (leAt f.data 0 1) 7 = false ∧ ∃ k acc, s.mbx.canRx = some (k, acc) ∧ leAt f.data 0 1 % 64 = k
              ∧ b = acc ++ f.data.drop 1) →
        t.mbx.canRx = none
        ∧ ((s.mb 7).busy = true → t.mb 7 = s.mb 7 ∧ t.mbx.canTx = canSegments 0 8 (rspBody (reqOp b) (reqTag b) 2 0 []))
        ∧ ((s.mb 7).busy = false → (t.mb 7).phase = .rung ∧ (t.mb 7).req = padTo 256 b ∧ (t.mb 7).path = 2
          ∧ t.mbx.rings = s.mbx.rings ++ [7])))
  ∧ (∀ s k, canOn s = true → Completes (.canBusError k) s fun t =>
    (k = .transmit → Counted s t CAN.STATUS.TEC 8 ∧ t.reg CAN.STATUS.REC = s.reg CAN.STATUS.REC)
    ∧ (k = .receive → Counted s t CAN.STATUS.REC 1 ∧ t.reg CAN.STATUS.TEC = s.reg CAN.STATUS.TEC)
    ∧ t.reg CAN.STATUS.STATE = if 127 < t.reg CAN.STATUS.TEC ∨ 127 < t.reg CAN.STATUS.REC then 1 else 0)
  ∧ (∀ s, canOn s = true → Completes .busOffEntry s fun t =>
    t.reg CAN.STATUS.STATE = 2 ∧ t.flag CAN.STATUS.BUS_OFF = true ∧ Told s t [(0x0A0B, toLe 1 2)] ∧ Faulted s t 64 1)
  ∧ ∀ s, s.flag CAN.CTRL.EN = true → s.reg CAN.STATUS.STATE = 2 → Completes .canBusOffRecovery s fun t =>
    t.reg CAN.STATUS.STATE = 0 ∧ t.reg CAN.STATUS.TEC = 0 ∧ t.reg CAN.STATUS.REC = 0

/-- HEADROOM_LOOP, PMBUS_TRANSACTION, PMBUS_CLOCK_TIMEOUT, IOMUX_APPLY, EXT_EVT_EDGE, LT_MARK and IFB_SET_FAULT complete with these
effects (R53, R64 to R67, R399 to R401, R406, R407). -/
def Obligations.HeadroomPmbusPins : Prop :=
  (∀ s flags, Completes (.headroomLoop flags) s fun t =>
    (headroomRuns s = false → t.scan = s.scan)
    ∧ (headroomRuns s = true → t.reg SCAN.VLED_STATUS.HR_FLAGS = min 65535 flags
      ∧ (s.reg SCAN.HR_CFG.HR_LIMIT < flags →
        t.scan.vledAsk = (if s.scan.vledAsk < vledMax s then s.scan.vledAsk + 1 else s.scan.vledAsk)
        ∧ t.scan.hrHold = (if s.scan.hrDown then 100 else s.scan.hrHold) ∧ t.scan.hrQuiet = 0 ∧ t.scan.hrDown = false)
      ∧ (flags ≤ s.reg SCAN.HR_CFG.HR_LIMIT → 0 < s.scan.hrHold →
        t.scan = { s.scan with hrHold := s.scan.hrHold - 1 })
      ∧ (flags ≤ s.reg SCAN.HR_CFG.HR_LIMIT → s.scan.hrHold = 0 → max 1 (s.reg SCAN.HR_CFG.HR_QUIET) ≤ s.scan.hrQuiet + 1 →
        t.scan.hrQuiet = 0 ∧ t.scan.vledAsk = (if vledMin s < s.scan.vledAsk then s.scan.vledAsk - 1 else s.scan.vledAsk)
        ∧ t.scan.hrDown = (s.scan.hrDown || decide (vledMin s < s.scan.vledAsk)))
      ∧ (flags ≤ s.reg SCAN.HR_CFG.HR_LIMIT → s.scan.hrHold = 0 → s.scan.hrQuiet + 1 < max 1 (s.reg SCAN.HR_CFG.HR_QUIET) →
        t.scan = { s.scan with hrQuiet := s.scan.hrQuiet + 1 })))
  ∧ (∀ s c ack reply, s.clk.lost = false → c = Instr.pmbusTransaction ack reply ∨ c = Instr.pmbusClockTimeout ∧ ack = false →
    Completes c s fun t =>
      (vledDue s = true → ack = true → t.reg SCAN.VLED_STATUS.VLED_SET = s.scan.vledAsk % 2 ^ 8 ∧ t.scan.hrSuspended = false
        ∧ t.io.tries = 0 ∧ t.io.mantVled = s.io.expVled.map (pmMantissa (3000 + 25 * s.scan.vledAsk))
        ∧ t.io.reads = s.io.reads ++ [(0, 0x79)])
      ∧ (vledDue s = true → ack = false → s.io.tries < 3 → t = { s with io := { s.io with tries := s.io.tries + 1 } })
      ∧ (vledDue s = true → ack = false → s.io.tries = 3 → t.scan.hrSuspended = true ∧ t.flag SCAN.VLED_STATUS.PMBUS_ERR = true
        ∧ Faulted s t 22 2 ∧ t.reg SCAN.VLED_STATUS.VLED_SET = s.reg SCAN.VLED_STATUS.VLED_SET)
      ∧ (vledDue s = false → vcoreDue s = true → ack = true → t.reg CAL.VM_STATUS.VC_SET = s.cal.vcPlan % 2 ^ 5
        ∧ t.io.mantVcore = s.io.expVcore.map (pmMantissa (780 + 10 * s.cal.vcPlan)) ∧ t.io.reads = s.io.reads ++ [(1, 0x79)])
      ∧ (vledDue s = false → vcoreDue s = true → ack = false → s.io.triesVcore = 3 →
        t.flag CAL.VM_STATUS.PMBUS_ERR = true ∧ Faulted s t 23 2)
      ∧ (∀ reg code l, vledDue s = false → vcoreDue s = false → s.io.reads = (reg, code) :: l → t.io.reads = l
        ∧ (reg = 0 → code = 0x20 → ack = true → t.io.expVled = voutExponent (reply.toNat % 256)
          ∧ (t.io.expVled = none → t.flag SCAN.VLED_STATUS.PMBUS_ERR = true))
        ∧ (reg = 0 → code = 0x20 → ack = false → t.io.expVled = none ∧ t.flag SCAN.VLED_STATUS.PMBUS_ERR = true)
        ∧ (code = 0x79 → ack = true → reply ≠ 0 → Told s t [(0x0903, toLe 1 reg ++ [0] ++ toLe 2 reply.toNat)])))
  ∧ (∀ s, Completes .iomuxApply s fun t =>
    ((∀ n < 16, pinConflict s n = false) → ∀ n < 16, t.actReg (IOMUX.PIN.FUNC n) = s.reg (IOMUX.PIN.FUNC n) % 2 ^ 3
      ∧ t.actReg (IOMUX.PIN.PULL n) = s.reg (IOMUX.PIN.PULL n) % 2 ^ 2
      ∧ t.actReg (IOMUX.PIN.DRIVE n) = s.reg (IOMUX.PIN.DRIVE n) % 2 ^ 2)
    ∧ (∀ n < 16, pinConflict s n = true → (∀ k < n, pinConflict s k = false) →
      t.act = s.act ∧ t.flag IOMUX.STATUS.CONFLICT = true ∧ t.flag IOMUX.STATUS.WIGN = true ∧ t.reg IOMUX.STATUS.CONF_PIN = n))
  ∧ (∀ s pin, pin < 16 → s.actReg (IOMUX.PIN.FUNC pin) = 5 →
    Completes (.extEvtEdge pin) s fun t => Told s t [(0x0104, toLe 1 pin)])
  ∧ (∀ s, s.clk.lost = false → exec .ltMark s = .next { s with pins := { s.pins with ltMark := some s.now } })
  ∧ ∀ s f, Completes (.ifbSetFault f) s fun t => Faulted s t 21 2
    ∧ (f = .short → t.flag SCAN.IFB_STATUS.IFB_SHORT = true ∧ t.reg SCAN.IFB_STATUS.IFB_NA = 16000)
    ∧ (f = .openPad → t.flag SCAN.IFB_STATUS.IFB_OPEN = true ∧ t.reg SCAN.IFB_STATUS.IFB_NA = 8000)

/-! ### Mailboxes -/

/-- DOORBELL, MBX_ACK and MBOX_REQ_PACKET complete with these effects (R411, R412, R413, R415, R422). -/
def Obligations.MailboxRings : Prop :=
  (∀ s w, MailOk s → Completes (.doorbell w) s fun t =>
    (∀ n < 8, bit w.toNat n = true → mayRing s 0 n = true → (s.mb n).busy = false →
      (t.mb n).phase = .rung ∧ (t.mb n).path = 0 ∧ (t.mb n).req = (s.mb n).req ∧ (t.mb n).auth = none)
    ∧ (∀ n < 8, bit w.toNat n = true → mayRing s 0 n = false ∨ (s.mb n).busy = true →
      t.mb n = s.mb n ∧ t.flag MBX.STATUS.RING_IGN = true)
    ∧ (∀ n < 8, bit w.toNat n = false → t.mb n = s.mb n)
    ∧ t.mbx.rings = s.mbx.rings ++ (List.range 8).filter (fun n => bit w.toNat n && mayRing s 0 n && !(s.mb n).busy)
    ∧ t.mbx.accepted = s.mbx.accepted
    ∧ (s.power = 1 → (∃ n < 8, bit w.toNat n = true ∧ mayRing s 0 n = true ∧ (s.mb n).busy = false) →
      t.power = 5 ∧ t.reg PWR.STATE.WAKE_SRC = 4))
  ∧ (∀ s w, MailOk s → Completes (.mbxAck w) s fun t =>
    (∀ n, n < 8 → t.mb n
      = if bit w.toNat n = true ∧ (s.mb n).phase = .done then { s.mb n with phase := .idle } else s.mb n)
    ∧ t.regs = s.regs ∧ t.mbx.rings = s.mbx.rings ∧ t.mbx.accepted = s.mbx.accepted)
  ∧ ∀ s p pkt rx n b bcast, MailOk s → (s.port (portNo p)).pkt = some (pkt, rx) → pkt.hdr.type = 4 →
      n = leAt pkt.payload 0 1 % 8 → b = pkt.payload.drop 4 → bcast = decide (pkt.hdr.dest = 1023) →
    Completes (.mboxReqPacket p) s fun t =>
      (∀ k, k ≠ n → t.mb k = s.mb k)
      ∧ (bcast = true → reqOp b ∉ [0x0201, 0x0202, 0x0401, 0x0901, 0x0A02] →
        t.mbx = s.mbx ∧ Counted s t (TX.MALFORMED (portNo p)) 1)
      ∧ (bcast = true → reqOp b = 0x0A02 → leAt b 8 8 ≠ Config.serial.toNat → t.mbx = s.mbx ∧ t.regs = s.regs)
      ∧ ((bcast = true → reqOp b ∈ [0x0201, 0x0202, 0x0401, 0x0901, 0x0A02]
          ∧ (reqOp b = 0x0A02 → leAt b 8 8 = Config.serial.toNat)) →
        (mayRing s 1 n = false → t.mbx = s.mbx)
        ∧ (mayRing s 1 n = true → (s.mb n).busy = true → t.mbx = s.mbx)
        ∧ (mayRing s 1 n = true → (s.mb n).phase = .done → (s.mb n).path = 1 → (s.mb n).src = pkt.hdr.src →
          (s.mb n).last = some b → t.mbx = s.mbx)
        ∧ (mayRing s 1 n = true → (s.mb n).busy = false →
            ¬ ((s.mb n).phase = .done ∧ (s.mb n).path = 1 ∧ (s.mb n).src = pkt.hdr.src ∧ (s.mb n).last = some b) →
          (t.mb n).phase = .rung ∧ (t.mb n).req = padTo 256 b ∧ (t.mb n).path = 1 ∧ (t.mb n).src = pkt.hdr.src
          ∧ (t.mb n).bcast = bcast ∧ t.mbx.rings = s.mbx.rings ++ [n]))

/-- COMMAND_ACCEPT, COMMAND_START and SESSION_IDLE_TIMEOUT complete with these effects (R413, R416, R420, R421, R578). -/
def Obligations.AcceptanceAndStart : Prop :=
  (∀ s, MailOk s → (∀ n ∈ s.mbx.rings, n < 8) → supUp s = true → Completes .commandAccept s fun t =>
    t.mbx.rings = [] ∧ t.mbx.accepted = s.mbx.accepted ++ s.mbx.rings
    ∧ ∀ n < 8, (n ∈ s.mbx.rings → t.mb n = { s.mb n with phase := .accepted }) ∧ (n ∉ s.mbx.rings → t.mb n = s.mb n))
  ∧ (∀ s mb, supUp s = true → mb ∈ s.mbx.accepted → (s.mb mb).phase = .accepted →
      (∃ k ∈ s.mbx.accepted.takeWhile (· != mb),
        bit (reqFlags (s.mb mb).req) 0 = true
        ∨ bit (reqFlags (s.mb mb).req) 1 = true ∧ bit (reqFlags (s.mb k).req) 1 = true
          ∧ bits (reqFlags (s.mb mb).req) 3 3 = bits (reqFlags (s.mb k).req) 3 3
        ∨ cmdsClash (s.mb k).req (s.mb mb).req = true) →
    exec (.commandStart mb) s = .next s)
  ∧ (∀ s mb b, MailOk s → mb < 8 → supUp s = true → mb ∈ s.mbx.accepted → (s.mb mb).phase = .accepted → mayStart s mb = true →
      b = (s.mb mb).req → Completes (.commandStart mb) s fun t =>
    (s.boot.done = false → reqOp b ≠ 0x0101 → reqOp b ≠ 0x0108 → Answered s t mb 7 [])
    ∧ (s.boot.done = true → bit (reqFlags b) 2 = false →
      (248 < reqLen b → reqOp b ≠ 0x0102 → Answered s t mb 3 [])
      ∧ (reqLen b ≤ 248 → cmdAuth (reqOp b) = none → Answered s t mb 1 [])
      ∧ (reqLen b ≤ 248 → cmdAuth (reqOp b) = some 1 → otpKey s 0 ≠ none → Answered s t mb 5 [])
      ∧ (reqLen b ≤ 248 → cmdAuth (reqOp b) = some 2 → Answered s t mb 5 [])
      ∧ (reqLen b ≤ 248 → cmdAuth (reqOp b) = some 0 ∨ cmdAuth (reqOp b) = some 1 ∧ otpKey s 0 = none →
        (t.mb mb).phase = .started ∧ (t.mb mb).req = b ∧ (t.mb mb).auth = none ∧ t.mbx.sessions = s.mbx.sessions
        ∧ t.mbx.accepted = s.mbx.accepted ∧ t.regs = s.regs))
    ∧ (s.boot.done = true → bit (reqFlags b) 2 = true → reqLen b ≤ 236 → s.mbx.sessions = [] → Answered s t mb 6 []))
  ∧ ∀ s n, Completes (.sessionIdleTimeout n) s fun t =>
    t.mbx.sessions = s.mbx.sessions.filter (fun x => decide (x.num ≠ n)) ∧ ∀ k, t.mb k = s.mb k

/-- EVT_POP, EVENT_PACKET_SEND, MBOX_RSP_RESEND, FENCE_WAIT_TIMEOUT and ENUMERATE_TIMEOUT complete with these effects (R414, R423,
R427). -/
def Obligations.EventsAndTimeouts : Prop :=
  (∀ s e l, s.evt.queue = e :: l → Completes .evtPop s fun t =>
    t.evt.queue = l ∧ t.evt.history = s.evt.history ∧ t.evt.eseq = s.evt.eseq
    ∧ (s.evt.lost = 0 → Told s t [])
    ∧ (0 < s.evt.lost → l.length < 128 → t.evt.lost = 0 ∧ Told s t [(0x0C02, toLe 4 s.evt.lost)]))
  ∧ (∀ s, s.evt.queue = [] → exec .evtPop s = .next s)
  ∧ (∀ s, s.flag TXLA.EVT.EVT_EN = true → supUp s = true → 0 < s.evt.unsent → s.evt.unsent ≤ s.evt.queue.length →
      Completes .eventPacketSend s fun t =>
    t.evt.unsent = s.evt.unsent - min 64 s.evt.unsent ∧ t.evt.queue = s.evt.queue
    ∧ t = sendLocal { s with evt := t.evt } 6 (s.reg TXLA.EVT.EVT_DEST) 0
        (((s.evt.queue.drop (s.evt.queue.length - s.evt.unsent)).take 64).flatMap eventBytes))
  ∧ (∀ s mb, MailOk s → mb < 8 → mb ∈ s.mbx.dropped → (s.mb mb).phase = .done → (s.mb mb).path = 1 →
    Completes (.mboxRspResend mb) s fun t =>
      mb ∉ t.mbx.dropped ∧ (t.mb mb).resent = (s.mb mb).resent + 1 ∧ (t.mb mb).phase = .done ∧ (t.mb mb).rsp = (s.mb mb).rsp
      ∧ t.net.seq = (s.net.seq + 1) % 65536)
  ∧ (∀ s mb p, MailOk s → Runs s mb 0x0302 p → p.length = 8 → leAt p 0 1 < 64 → 1 ≤ leAt p 2 2 → leAt p 2 2 ≤ 1000 →
    Completes (.fenceWaitTimeout mb) s fun t =>
      Answered s t mb (if fenceReached s (leAt p 0 1) (leAt p 4 4) then 0 else 0x0C)
        (if fenceReached s (leAt p 0 1) (leAt p 4 4) then toLe 4 (s.reg (GAL.FENCE.FENCE (leAt p 0 1))) else []))
  ∧ ∀ s mb p, MailOk s → Runs s mb 0x0A01 p → s.net.enumMb = some mb →
    Completes (.enumerateTimeout mb) s fun t =>
      Answered s t mb 0x0C [] ∧ t.net.enumMb = none ∧ t.net.origin = none

/-! ### Mailbox commands -/

/-- The length checks of the mailbox commands with a fixed request length (R421, R423). -/
def Obligations.CommandLengths : Prop :=
  ∀ lens readBack ok signed readings badRows, ∀ e ∈ ([(Instr.identify, 0x0101, 0), (Instr.sessionAuth, 0x0103, 12), (Instr.sessionClose, 0x0104, 2), (Instr.setLt, 0x0105, 8),
      (Instr.regRead, 0x0106, 8), (Instr.setMode, 0x0201, 4), (Instr.commit, 0x0202, 0), (Instr.frameStats, 0x0203, 1),
      (Instr.layerFlip, 0x0301, 20), (Instr.fenceWait, 0x0302, 8), (Instr.videoWindow, 0x0304, 16), (Instr.objRead, 0x0402, 4),
      (Instr.objClear, 0x0403, 0), (Instr.rsetDelete, 0x0502, 1), (Instr.rsetSubmit, 0x0503, 0), (Instr.symlibLoad, 0x0505, 0),
      (fun mb => Instr.lensRead mb lens, 0x0506, 0), (Instr.fbRelease, 0x0601, 0), (Instr.safeWindow, 0x0602, 1),
      (fun mb => Instr.fbPattern mb readBack, 0x0603, 12), (fun mb => Instr.reseal mb ok, 0x0604, 8), (Instr.pixelAge, 0x0701, 8),
      (Instr.mapRead, 0x0702, 4), (Instr.faultInject, 0x0704, 4), (Instr.zoneRatio, 0x0801, 0), (Instr.vfRead, 0x0802, 8),
      (Instr.doseRead, 0x0803, 8), (Instr.witnessRead, 0x0804, 0), (fun mb => Instr.recalibrate mb readings badRows, 0x0805, 0),
      (fun mb => Instr.pwrSleep mb ok, 0x0901, 4), (Instr.powerDown, 0x0902, 0), (Instr.enumerate, 0x0A01, 2),
      (Instr.assignAddr, 0x0A02, 10), (Instr.auxPattern, 0x0B02, 16), (Instr.auxGate, 0x0B04, 6), (Instr.eventsRead, 0x0C01, 1),
      (Instr.eventsHistory, 0x0C02, 5), (fun mb => Instr.flashErase mb ok, 0x0D02, 6),
      (fun mb => Instr.slotSelect mb signed ok, 0x0D03, 1), (Instr.cfgRead, 0x0D04, 8)] : List ((Nat → Instr) × Nat × Nat)),
    (∀ s mb p, MailOk s → Runs s mb e.2.1 p → p.length ≠ e.2.2 → Completes (e.1 mb) s fun t =>
      Answered s t mb 3 [] ∧ t.regs = s.regs ∧ t.dram = s.dram ∧ t.boot = s.boot ∧ t.mram = s.mram)
    ∧ ∀ s mb, runs s mb e.2.1 = false → exec (e.1 mb) s = .next s

/-- IDENTIFY, SET_LT, REG_READ, REG_WRITE, ECHO, SESSION_OPEN, SESSION_AUTH and SESSION_CLOSE complete with these effects (R388, R419,
R420, R423, R424). The device nonce is a free value. -/
def Obligations.SystemCommands : Prop :=
  (∀ s mb, MailOk s → Runs s mb 0x0101 [] → Completes (.identify mb) s fun t =>
    ∃ d : List Byte, Answered s t mb 0 d ∧ d.length = 32 ∧ leAt d 0 2 = 0x1024 ∧ leAt d 3 1 = 1
      ∧ leAt d 8 8 = Config.serial.toNat ∧ leAt d 0x10 4 = s.boot.fwVer % 2 ^ 32
      ∧ ∀ n < 3, bit (leAt d 0x16 1) n = (otpKey s n).isSome)
  ∧ (∀ s mb p, MailOk s → Runs s mb 0x0105 p → p.length = 8 → Completes (.setLt mb) s fun t =>
    Answered s t mb 0 (toLe 8 s.now) ∧ t.lt.toNat = leAt p 0 8 ∧ t.synced = true ∧ t.net.rootSet = true ∧ t.regs = s.regs)
  ∧ (∀ s mb p n x, MailOk s → Runs s mb 0x0106 p → p.length = 8 → x = leAt p 0 4 → n = leAt p 4 1 →
    Completes (.regRead mb) s fun t =>
      (n = 0 ∨ 60 < n ∨ cmdBurstOk x n = false → Answered s t mb 4 [])
      ∧ (1 ≤ n → n ≤ 60 → cmdBurstOk x n = true → t.regs = (readBurst s x n).1.regs
        ∧ ((readBurst s x n).2.length = n → Answered s t mb 0 ((readBurst s x n).2.flatMap (fun w => toLe 4 w.toNat)))
        ∧ ((readBurst s x n).2.length ≠ n → Answered s t mb 0x0E [])))
  ∧ (∀ s mb p n x ws, MailOk s → Runs s mb 0x0107 p → x = leAt p 0 4 → n = leAt p 4 1 → p.length = 8 + 4 * n →
      ws = (List.range n).map (fun i => BitVec.ofNat 32 (leAt p (8 + 4 * i) 4)) → Completes (.regWrite mb) s fun t =>
    (n = 0 ∨ 57 < n ∨ cmdBurstOk x n = false → Answered s t mb 4 [] ∧ t.regs = s.regs)
    ∧ (1 ≤ n → n ≤ 57 → cmdBurstOk x n = true →
      Answered s t mb (if (writeBurst s x ws).2 = n then 0 else 0x0E) [] ∧ t.regs = (writeBurst s x ws).1.regs))
  ∧ (∀ s mb p, MailOk s → Runs s mb 0x0108 p → p.length ≤ 248 → Completes (.echo mb) s fun t =>
    Answered s t mb 0 p ∧ t.regs = s.regs)
  ∧ (∀ s mb p, MailOk s → Runs s mb 0x0102 p → p.length = 12 → Completes (.sessionOpen mb) s fun t =>
    (openTooSoon s (s.mb mb) = true → Answered s t mb 7 [] ∧ t.mbx.sessions = s.mbx.sessions ∧ t.mbx.opens = s.mbx.opens)
    ∧ (openTooSoon s (s.mb mb) = false →
      ((s.mb mb).path, (s.mb mb).src, (s.mb mb).rungAt) ∈ t.mbx.opens
      ∧ (1 < leAt p 0 1 → Answered s t mb 4 [] ∧ t.mbx.sessions = s.mbx.sessions)
      ∧ (leAt p 0 1 ≤ 1 → keyOf s (leAt p 0 1) = none → Answered s t mb 7 [] ∧ t.mbx.sessions = s.mbx.sessions)
      ∧ (leAt p 0 1 ≤ 1 → keyOf s (leAt p 0 1) ≠ none → s.mbx.sessions.length = 4 →
        Answered s t mb 8 [] ∧ t.mbx.sessions = s.mbx.sessions)
      ∧ (leAt p 0 1 ≤ 1 → keyOf s (leAt p 0 1) ≠ none → s.mbx.sessions.length < 4 →
        ∃ x : Session, t.mbx.sessions = s.mbx.sessions ++ [x] ∧ Answered s t mb 0 (toLe 2 x.num ++ [0, 0] ++ x.dn)
          ∧ x.num < 65536 ∧ (∀ y ∈ s.mbx.sessions, y.num ≠ x.num) ∧ x.key = leAt p 0 1 ∧ x.path = (s.mb mb).path
          ∧ x.src = (s.mb mb).src ∧ x.hn = bytesAt p 4 8 ∧ x.dn.length = 8 ∧ x.ks = none)))
  ∧ (∀ s mb p, MailOk s → Runs s mb 0x0103 p → p.length = 12 → Completes (.sessionAuth mb) s fun t =>
    (ownSession s (s.mb mb) (leAt p 0 2) = none → Answered s t mb 0x0F [] ∧ t.mbx.sessions = s.mbx.sessions)
    ∧ ∀ x k, ownSession s (s.mb mb) (leAt p 0 2) = some x → keyOf s x.key = some k →
      (x.ks ≠ none → Answered s t mb 7 [])
      ∧ (x.ks = none → bytesAt p 4 8 = (cmac k ([1] ++ x.dn ++ x.hn)).take 8 →
        Answered s t mb 0 ((cmac k ([2] ++ x.hn ++ x.dn)).take 8)
        ∧ t.mbx.sessions = s.mbx.sessions.map (fun y =>
            if y.num = x.num then { y with ks := some (cmac k ([3] ++ x.dn ++ x.hn)) } else y))
      ∧ (x.ks = none → bytesAt p 4 8 ≠ (cmac k ([1] ++ x.dn ++ x.hn)).take 8 →
        Answered s t mb 6 [] ∧ t.mbx.sessions = s.mbx.sessions.filter (fun y => decide (y.num ≠ x.num))))
  ∧ ∀ s mb p x, MailOk s → Runs s mb 0x0104 p → p.length = 2 → ownSession s (s.mb mb) (leAt p 0 2) = some x →
    Completes (.sessionClose mb) s fun t =>
      Answered s t mb 0 [] ∧ t.mbx.sessions = s.mbx.sessions.filter (fun y => decide (y.num ≠ x.num))

/-- SET_MODE, COMMIT, FRAME_STATS, LAYER_FLIP, FENCE_WAIT, LUT_LOAD, VIDEO_WINDOW, OBJ_WRITE, OBJ_READ and OBJ_CLEAR complete with these
effects (R98, R134, R138, R139, R168, R223, R254, R350, R423, R508). -/
def Obligations.SceneCommands : Prop :=
  (∀ s mb p, MailOk s → Runs s mb 0x0201 p → p.length = 4 → leAt p 0 1 ≤ 7 → leAt p 1 1 ≤ 1 →
      s.flag (CLK.GATE.EN 13) = true → Completes (.setMode mb) s fun t =>
    t.reg SCAN.MODE.MODE = leAt p 0 1 ∧ t.eng.stepMode = none ∧ t.mode = s.mode
    ∧ Answered s t mb 0 (toLe 2 (t.reg SCAN.COMMIT_STATUS.TARGET_FRAME))
    ∧ t.flag SCAN.COMMIT_STATUS.COMMIT_PEND = (s.flag SCAN.COMMIT_STATUS.COMMIT_PEND || decide (leAt p 1 1 = 1)))
  ∧ (∀ s mb, MailOk s → Runs s mb 0x0202 [] → s.flag (CLK.GATE.EN 13) = true → Completes (.commit mb) s fun t =>
    t.flag SCAN.COMMIT_STATUS.COMMIT_PEND = true ∧ Answered s t mb 0 (toLe 2 (t.reg SCAN.COMMIT_STATUS.TARGET_FRAME))
    ∧ (s.flag SCAN.COMMIT_STATUS.COMMIT_PEND = false → t.reg SCAN.COMMIT_STATUS.TARGET_FRAME
      = ((if s.scan.running then s.reg SCAN.FRAME_NUM.FRAME_NUM else 0) + 1) % 2 ^ 16))
  ∧ (∀ s mb p, MailOk s → Runs s mb 0x0203 p → p.length = 1 → Completes (.frameStats mb) s fun t =>
    Answered s t mb 0 (toLe 4 (s.reg SCAN.FRAME_NUM.FRAME_NUM) ++ toLe 4 s.stats.latched ++ toLe 4 s.stats.rendered
      ++ toLe 4 s.stats.skipped ++ toLe 4 s.stats.underruns ++ toLe 4 s.stats.aborts ++ toLe 4 s.stats.blocked ++ toLe 4 s.stats.swapped)
    ∧ (leAt p 0 1 = 1 → t.stats.latched = 0 ∧ t.stats.rendered = 0 ∧ t.stats.skipped = 0 ∧ t.stats.underruns = 0
      ∧ t.stats.aborts = 0 ∧ t.stats.blocked = 0 ∧ t.stats.swapped = 0)
    ∧ (leAt p 0 1 ≠ 1 → t.stats = s.stats) ∧ t.regs = s.regs)
  ∧ (∀ s mb p n, MailOk s → Runs s mb 0x0301 p → p.length = 20 → n = leAt p 0 1 → n ≤ 6 → leAt p 2 1 ≤ 63 → leAt p 3 1 ≤ 63 →
      leAt p 4 8 % 64 = 0 → leAt p 4 8 < 2 ^ 34 → touchesTop s (leAt p 4 8) (flipSpan s n) = false →
      s.flag (CLK.GATE.EN 14) = true → Completes (.layerFlip mb) s fun t =>
    Answered s t mb 0 [] ∧ t.flag (GAL.L.FLIP.ARM n) = true
    ∧ t.reg (GAL.L.NEXT_LO.NEXT n) = leAt p 4 8 % 2 ^ 32 / 64 ∧ t.reg (GAL.L.NEXT_HI.NEXT n) = leAt p 4 8 / 2 ^ 32
    ∧ t.reg (GAL.L.NEXT_CRC.NEXT_CRC n) = leAt p 12 4 ∧ t.reg (GAL.L.FENCE_VAL.FENCE_VAL n) = leAt p 16 4
    ∧ t.flag (GAL.L.FLIP.FENCE_EN n) = bit (leAt p 1 1) 0 ∧ t.reg (GAL.L.FLIP.FENCE_SEL n) = leAt p 2 1
    ∧ t.flag (GAL.L.FLIP.RETIRE_EN n) = bit (leAt p 1 1) 1 ∧ t.reg (GAL.L.FLIP.RETIRE_SEL n) = leAt p 3 1)
  ∧ (∀ s mb p, MailOk s → Runs s mb 0x0302 p → p.length = 8 → leAt p 0 1 ≤ 63 → 1 ≤ leAt p 2 2 → leAt p 2 2 ≤ 1000 →
    Completes (.fenceWait mb) s fun t =>
      (fenceReached s (leAt p 0 1) (leAt p 4 4) = true → Answered s t mb 0 (toLe 4 (s.reg (GAL.FENCE.FENCE (leAt p 0 1)))))
      ∧ (fenceReached s (leAt p 0 1) (leAt p 4 4) = false → t = s))
  ∧ (∀ s mb p n k i, MailOk s → Runs s mb 0x0303 p → n = leAt p 4 2 → k = leAt p 0 1 → i = leAt p 2 2 → p.length = 8 + 2 * n →
      k ≤ 15 → 1 ≤ n → n ≤ 120 → s.flag (CLK.GATE.EN 14) = true → Completes (.lutLoad mb) s fun t =>
    (lutSelected s k = true ∨ lutSize k < i + n → Answered s t mb 7 [] ∧ t.flag GAL.STATUS.LUT_IGN = true)
    ∧ (lutSelected s k = true → t.gal.lut = s.gal.lut)
    ∧ (lutSelected s k = false → i + n ≤ lutSize k → Answered s t mb 0 [])
    ∧ (lutSelected s k = false → ∀ j, j < lutSize k →
      lutEntry t k j = if i ≤ j ∧ j < i + n then leAt p (8 + 2 * (j - i)) 2 else lutEntry s k j))
  ∧ (∀ s mb p, MailOk s → ShapeOk s → Runs s mb 0x0304 p → p.length = 16 → leAt p 0 1 ≤ 3 → leAt p 2 2 ≤ 1023 →
      leAt p 12 4 = 0 ∨ touchesTop s (leAt p 4 8) (leAt p 12 4) = false → Completes (.videoWindow mb) s fun t =>
    Answered s t mb 0 [] ∧ ∀ k < 4, t.net.windows.getD k (0, 0, 0) = if k = leAt p 0 1 then
      (if leAt p 12 4 = 0 then (0, 0, 0) else (leAt p 2 2, leAt p 4 8, leAt p 12 4)) else s.net.windows.getD k (0, 0, 0))
  ∧ (∀ s mb p n r, MailOk s → Runs s mb 0x0401 p → n = leAt p 1 1 → n ≤ 3 → p.length = 4 + 64 * n →
      r = applyRecords (bit (leAt p 0 1) 0) s 0 ((List.range n).map (fun i => bytesAt p (4 + 64 * i) 64)) →
    Completes (.objWrite mb) s fun t =>
      (∀ k, t.ctxSlot k = r.1.ctxSlot k) ∧ t.shd.commitDue = (s.shd.commitDue || bit (leAt p 0 1) 1)
      ∧ ∃ d, Answered s t mb (if r.2 = [] then 0 else 0x10) d ∧ d.length = 2 + n ∧ leAt d 0 1 = n - r.2.length
        ∧ ∀ i < n, (∀ q, (i, q) ∈ r.2 → leAt d (2 + i) 1 = q) ∧ ((∀ q, (i, q) ∉ r.2) → leAt d (2 + i) 1 = 0))
  ∧ (∀ s mb p, MailOk s → Runs s mb 0x0402 p → p.length = 4 → leAt p 0 1 ≤ 1 → leAt p 0 1 = 1 ∨ leAt p 2 2 ≤ 255 →
    Completes (.objRead mb) s fun t =>
      (namedContext s (leAt p 0 1) (leAt p 2 2) = none → Answered s t mb 0x0F [])
      ∧ ∀ n c, namedContext s (leAt p 0 1) (leAt p 2 2) = some (n, c) → c.raw.length = 64 →
        Answered s t mb 0 (toLe 1 n ++ [0, 0, 0] ++ c.raw))
  ∧ ∀ s mb, MailOk s → SlotsOk s → Runs s mb 0x0403 [] → s.injWaits 15 = false → Completes (.objClear mb) s fun t =>
    (∀ n c, (s.ctxSlot n).active = some c → (t.ctxSlot n).active = some c
      ∧ (t.ctxSlot n).staged = some ⟨{ c with raw := putAt c.raw 3 (toLe 1 (clearBit (leAt c.raw 3 1) 0)) }, false⟩)
    ∧ (∀ n, (s.ctxSlot n).active = none → t.ctxSlot n = s.ctxSlot n)
    ∧ Answered s t mb 0
      (toLe 2 ((activeCtxs s).countP (fun x => !(x.2.glare s) || s.reg SAFE.STATUS.PATH_STATE == 2))
        ++ toLe 2 ((activeCtxs s).countP (fun x => x.2.glare s && s.reg SAFE.STATUS.PATH_STATE != 2)))

/-- RSET_ENTRY, RSET_DELETE, RSET_SUBMIT, PATTERN_LOAD, SYMLIB_LOAD and LENS_READ complete with these effects (R200, R202, R205, R206,
R212, R215, R398, R425). That submission needs the engines on is the model's reading of R224 (log entry 27). -/
def Obligations.KernelCommands : Prop :=
  (∀ s mb b, MailOk s → Runs s mb 0x0501 b → 32 ≤ b.length → b.length ≤ 224 → blkNeeds b ≤ b.length →
    Completes (.rsetEntry mb) s fun t =>
      (blkHeaderOk b = false ∨ blkParamsOk b = false ∨ blkTouchesTop s b = true →
        Answered s t mb 4 [] ∧ t.eng.building = s.eng.building)
      ∧ (blkHeaderOk b = true → blkParamsOk b = true → blkTouchesTop s b = false →
        (∀ i, replacedEntry s b = some i → Answered s t mb 0 (toLe 1 i) ∧ t.eng.building = s.eng.building.set i b)
        ∧ (replacedEntry s b = none → s.eng.building.length < 16 →
          Answered s t mb 0 (toLe 1 s.eng.building.length) ∧ t.eng.building = s.eng.building ++ [b]
          ∧ leAt (t.mb mb).rsp 6 2 % 2 = b2n (blkKernel b == 1 && s.eng.patOpen.contains (leAt b 0x20 1)))
        ∧ (replacedEntry s b = none → 16 ≤ s.eng.building.length →
          Answered s t mb 8 [] ∧ t.eng.building = s.eng.building)))
  ∧ (∀ s mb p n, MailOk s → Runs s mb 0x0502 p → p.length = 1 → n = leAt p 0 1 → n ≤ 6 ∨ n = 0xFF →
    Completes (.rsetDelete mb) s fun t =>
      t.eng.building = s.eng.building.filter (fun b => decide (n ≠ 0xFF ∧ blkSlot b ≠ n))
      ∧ Answered s t mb 0 (toLe 1 (s.eng.building.length - t.eng.building.length)))
  ∧ (∀ s mb, MailOk s → Runs s mb 0x0503 [] → Completes (.rsetSubmit mb) s fun t =>
    (s.flag BE.CTRL.EN = true → t.eng.submitted = some s.eng.building
      ∧ t.eng.building = s.eng.building.filter (fun b => blkFlag b 1)
      ∧ Answered s t mb 0 (toLe 4 ((if s.scan.running then s.reg SCAN.FRAME_NUM.FRAME_NUM + 1 else 1) % 2 ^ 32)
        ++ toLe 1 s.eng.building.length))
    ∧ (s.flag BE.CTRL.EN = false → Answered s t mb 7 [] ∧ t.eng = s.eng))
  ∧ (∀ s mb p n o c, MailOk s → Runs s mb 0x0504 p → n = leAt p 0 1 → o = leAt p 4 4 → c = leAt p 8 2 → p.length = 12 + c →
      n ≤ 4 → 2 ≤ c → c ≤ 236 → c % 2 = 0 → o + c ≤ 132098 → Completes (.patternLoad mb) s fun t =>
    (s.flag DDRC.STATUS.READY = false → Answered s t mb 7 [] ∧ t.eng = s.eng)
    ∧ (s.flag DDRC.STATUS.READY = true → Answered s t mb 0 (toLe 1 ((s.eng.patGen.getD n 0 + 1) % 256))
      ∧ (∀ j, j < 262144 → sparseGet 0 t.eng.patNext (n * 262144 + j)
        = if o ≤ j ∧ j < o + c then leAt p (12 + (j - o)) 1 else sparseGet 0 s.eng.patNext (n * 262144 + j))
      ∧ (leAt p 1 1 = 1 → n ∈ t.eng.patDue ∧ n ∉ t.eng.patOpen)
      ∧ (leAt p 1 1 ≠ 1 → n ∉ t.eng.patDue ∧ n ∈ t.eng.patOpen)
      ∧ ∀ k, k ≠ n → (k ∈ t.eng.patDue ↔ k ∈ s.eng.patDue) ∧ (k ∈ t.eng.patOpen ↔ k ∈ s.eng.patOpen)))
  ∧ (∀ s mb d a, MailOk s → Runs s mb 0x0505 [] → s.flag DDRC.STATUS.READY = true → directory s = some d →
      a = (dirEntry s d 2).1 → Completes (.symlibLoad mb) s fun t =>
    (symlibOk s a = true → t.eng.symDue = some (leAt (s.flashBytes (a + 6) 2) 0 2, leAt (s.flashBytes (a + 0xC) 4) 0 4)
      ∧ Answered s t mb 0 (toLe 1 ((s.eng.symGen + 1) % 256) ++ [0] ++ toLe 2 (leAt (s.flashBytes (a + 6) 2) 0 2)
        ++ toLe 4 (leAt (s.flashBytes (a + 0xC) 4) 0 4)))
    ∧ (symlibOk s a = false → Answered s t mb 0x0D [] ∧ t.eng = s.eng))
  ∧ ∀ s mb lens, MailOk s → Runs s mb 0x0506 [] → Completes (.lensRead mb lens) s fun t =>
    (∃ d : List Byte, Answered s t mb 0 d ∧ d.length = 28 ∧ leAt d 0 1 = t.reg BE.OPTICS.SOURCE
      ∧ leAt d 1 1 = t.reg BE.OPTICS.RESID ∧ sext 16 (leAt d 2 2) = sext 16 (toBits 16 t.eng.lensKt)
      ∧ ∀ b, lens = some b → lensValid b = true → bytesAt d 4 24 = bytesAt b 8 24)
    ∧ (∀ b, lens = some b → lensValid b = true → t.flag BE.OPTICS.SOURCE = true
      ∧ t.eng.lensP = some ((List.range 9).map (warpH b 0x20)))
    ∧ ((lens = none ∨ ∃ b, lens = some b ∧ lensValid b = false) →
      t.flag BE.OPTICS.SOURCE = false ∧ t.eng.lensP = none
      ∧ eventOf s 0x0102 (toLe 1 (b2n lens.isSome)) ∈ t.flt.jorosh)

/-- FB_RELEASE, SAFE_WINDOW, FB_PATTERN, RESEAL, PIXEL_AGE, MAP_READ, MAP_CLEAR and FAULT_INJECT complete with these effects (R54, R55,
R248, R249, R256, R262, R278, R288, R289, R540, R541). Which injected faults wait for their detector's next event is the model's reading
of R540 (log entry 28). -/
def Obligations.SafetyCommands : Prop :=
  (∀ s mb, MailOk s → Runs s mb 0x0601 [] → Completes (.fbRelease mb) s fun t =>
    (s.clk.lost = true ∨ s.guard.guardFail = true → Answered s t mb 0x0D [] ∧ t.regs = s.regs)
    ∧ (s.clk.lost = false → s.guard.guardFail = false →
      t.flag SAFE.FB_CAUSE.BLOCK = false ∧ t.flag SAFE.FB_CAUSE.FATAL = false ∧ t.flag SAFE.FB_CAUSE.CLOCK = false
      ∧ t.flag SAFE.FB_CAUSE.GUARD = false ∧ t.flag SAFE.FB_CAUSE.LOWBEAM = s.flag SAFE.FB_CAUSE.LOWBEAM
      ∧ t.flag SAFE.FB_CAUSE.M7 = s.flag SAFE.FB_CAUSE.M7 ∧ t.flag SAFE.FB_CAUSE.SOFT_STOP = s.flag SAFE.FB_CAUSE.SOFT_STOP
      ∧ t.scan = s.scan ∧ Answered s t mb 0 (toLe 4 (fbCauseWord t))))
  ∧ (∀ s mb p, MailOk s → Runs s mb 0x0602 p → p.length = 1 → Completes (.safeWindow mb) s fun t =>
    t.windowMs = max 1 (min s.guard.limits.windowMax (leAt p 0 1)) ∧ Answered s t mb 0 (toLe 1 t.windowMs))
  ∧ (∀ s mb readBack p b rb, MailOk s → Runs s mb 0x0603 p → p.length = 12 → s.flag DDRC.STATUS.READY = true →
      leAt p 0 8 + 131072 ≤ s.dramSize → b = s.dramBytes (leAt p 0 8) 131072 → rb = readBackPlane b readBack →
      Completes (.fbPattern mb readBack) s fun t =>
    (s.guard.limits.fbSel = 0 ∨ s.guard.limits.fbSel = 3 → Answered s t mb 0x0D [] ∧ t.pix = s.pix ∧ t.regs = s.regs)
    ∧ (s.guard.limits.fbSel ≠ 0 → s.guard.limits.fbSel ≠ 3 →
      (12000000000 < litCount b * s.reg SCAN.IFB_STATUS.IFB_NA → Answered s t mb 0x0D [] ∧ t.pix = s.pix)
      ∧ (litCount b * s.reg SCAN.IFB_STATUS.IFB_NA ≤ 12000000000 →
        t.flag SCAN.FB_CTRL.FB_VALID = decide ((crc32c 0 rb).toNat = leAt p 8 4 ∧ belowCutoff s rb = true)
        ∧ t.reg SCAN.FB_COUNT.COUNT = litCount b
        ∧ (∀ c r, c < 1024 → r < 1024 → planeGet 0 t.pix.fb c r = b2n (bit (rb.getD (128 * r + c / 8) 0).toNat (c % 8)))
        ∧ Answered s t mb 0 (toLe 4 (litCount b) ++ toLe 1 (t.reg SCAN.FB_CTRL.FB_VALID)))))
  ∧ (∀ s mb ok p b, MailOk s → Runs s mb 0x0604 p → p.length = 8 → s.flag DDRC.STATUS.READY = true →
      leAt p 0 8 + 1024 ≤ s.dramSize → b = s.dramBytes (leAt p 0 8) 1024 → Completes (.reseal mb ok) s fun t =>
    t.guard.limits = s.guard.limits
    ∧ (16 ≤ s.guard.otp.length ∨ leAt b 4 2 % 4096 ≠ strapWord s.guard.strapsNow ∨ sealInRange b = false
        ∨ s.flag SCAN.CTRL.EN = true ∧ s.mode ≠ 7 → Answered s t mb 0x0D [] ∧ t.guard = s.guard)
    ∧ (s.guard.otp.length < 16 → leAt b 4 2 % 4096 = strapWord s.guard.strapsNow → sealInRange b = true →
        (s.flag SCAN.CTRL.EN = false ∨ s.mode = 7) →
      t.reg SAFE.SEAL.SLOTS_FREE = 15 - s.guard.otp.length
      ∧ (ok = true → Answered s t mb 0 (toLe 1 s.guard.otp.length) ∧ t.guard.otp = s.guard.otp ++ [(s.guard.otp.length, b)]
        ∧ t.guard.key.isSome ∧ t.guard.hostKey.isSome)
      ∧ (ok = false → Answered s t mb 0x0B [] ∧ ∃ x, t.guard.otp = s.guard.otp ++ [(s.guard.otp.length, x)])))
  ∧ (∀ s mb p n r c, MailOk s → Runs s mb 0x0701 p → p.length = 8 → r = leAt p 0 2 → c = leAt p 2 2 → n = leAt p 4 1 →
      r ≤ 1023 → 1 ≤ n → n ≤ 120 → c + n ≤ 1024 → Completes (.pixelAge mb) s fun t =>
    ∃ d : List Byte, Answered s t mb 0 d ∧ d.length = 2 * n ∧ ∀ i < n, leAt d (2 * i) 2
      = if mapped s (c + i) r then 0xFFFF else min 0xFFFF (pixelAgeTicks s (c + i) r / 400000))
  ∧ (∀ s mb p, MailOk s → Runs s mb 0x0702 p → p.length = 4 → 1 ≤ leAt p 2 1 → leAt p 2 1 ≤ 60 → Completes (.mapRead mb) s fun t =>
    Answered s t mb 0 (toLe 2 s.diag.map.length ++ [0, 0]
      ++ ((s.diag.map.drop (leAt p 0 2)).take (leAt p 2 1)).flatMap mapEntryBytes))
  ∧ (∀ s mb p n l, MailOk s → Runs s mb 0x0703 p → n = leAt p 0 1 → 1 ≤ n → n ≤ 32 → p.length = 4 + 4 * n →
      l = (List.range n).map (fun i => (leAt p (4 + 4 * i) 2, leAt p (6 + 4 * i) 2)) → Completes (.mapClear mb) s fun t =>
    t.diag.map = s.diag.map.filter (fun e => !l.contains (e.col, e.row))
    ∧ Answered s t mb 0 (toLe 1 (l.eraseDups.countP (fun x => mapped s x.1 x.2)))
    ∧ (mayCommit s 0x11 = true → (∃ x ∈ l, mapped s x.1 x.2 = true) → Committed s t 0x11 (mapPayload t))
    ∧ ((∀ x ∈ l, mapped s x.1 x.2 = false) → t.mram = s.mram ∧ t.pix = s.pix))
  ∧ ∀ s mb p src cls n, MailOk s → Runs s mb 0x0704 p → p.length = 4 → src = leAt p 0 2 → n = leAt p 3 1 →
      cls = (if leAt p 2 1 = 0 then (sourceClasses src).headD 0 else leAt p 2 1) → Completes (.faultInject mb) s fun t =>
    (sourceClasses src = [] ∨ 3 < leAt p 2 1 ∨ n = 0 → Answered s t mb 4 [] ∧ t.regs = s.regs)
    ∧ (sourceClasses src ≠ [] → leAt p 2 1 ≤ 3 → 1 ≤ n → Answered s t mb 0 []
      ∧ t.flt.inject = s.flt.inject ++ (if n = 1 then [] else [(src, cls, n - 1)])
      ∧ (waitsAtDetector src cls = true → t.regs = s.regs
        ∧ sparseGet 0 t.flt.injDue src = sparseGet 0 s.flt.injDue src + 1)
      ∧ (waitsAtDetector src cls = false → (∃ w, sparseGet none t.flt.inj src = some w ∧ cls ≤ w.cls)
        ∧ t.reg (FLT.COUNT.COUNT src) = s.reg (FLT.COUNT.COUNT src)
        ∧ (s.reg FLT.INJ_COUNT.COUNT < 0xFFFFFFFF → s.reg FLT.INJ_COUNT.COUNT < t.reg FLT.INJ_COUNT.COUNT)
        ∧ (cls = 3 → 3 ∈ sourceClasses src → t.flag SAFE.FB_CAUSE.FATAL = true)))

/-- ZONE_RATIO, VF_READ, DOSE_READ, WITNESS_READ, RECALIBRATE, PWR_SLEEP, POWER_DOWN, ENUMERATE and ASSIGN_ADDR complete with these
effects (R304, R306, R315, R316, R319, R321, R356, R357, R394, R464). A zone ratio over a global median of 0 is a free value. -/
def Obligations.CalibrationAndPowerCommands : Prop :=
  (∀ s mb, MailOk s → Runs s mb 0x0801 [] → s.reg CAL.START_STATS.GLOBAL_MED ≠ 0 → Completes (.zoneRatio mb) s fun t =>
    ∃ d : List Byte, Answered s t mb 0 d ∧ d.length = 128 ∧ ∀ z < 64, leAt d (2 * z) 2
      = min 65535 (4096 * s.cal.target.getD z 0 / s.reg CAL.START_STATS.GLOBAL_MED))
  ∧ (∀ s mb, MailOk s → Runs s mb 0x0801 [] → Completes (.zoneRatio mb) s fun t => (t.mb mb).phase = .done ∧ t.regs = s.regs)
  ∧ (∀ s mb p n r c, MailOk s → Runs s mb 0x0802 p → p.length = 8 → r = leAt p 0 2 → c = leAt p 2 2 → n = leAt p 4 1 →
      Completes (.vfRead mb) s fun t =>
    (leAt p 5 1 = 1 → s.cal.vfZone.length = 64 → Answered s t mb 0 (s.cal.vfZone.flatMap (toLe 1)))
    ∧ (leAt p 5 1 = 0 → r ≤ 1023 → 1 ≤ n → n ≤ 240 → c + n ≤ 1024 →
      Answered s t mb 0 ((List.range n).flatMap (fun i => toLe 1 (planeGet 0 s.cal.vf (c + i) r)))))
  ∧ (∀ s mb p n r c, MailOk s → Runs s mb 0x0803 p → p.length = 8 → r = leAt p 0 2 → c = leAt p 2 2 → n = leAt p 4 1 →
      r ≤ 1023 → 1 ≤ n → n ≤ 60 → c + n ≤ 1024 → Completes (.doseRead mb) s fun t =>
    Answered s t mb 0 ((List.range n).flatMap (fun i => toLe 4 (planeGet 0 s.cal.dose (c + i) r))))
  ∧ (∀ s mb, MailOk s → ShapeOk s → Runs s mb 0x0804 [] → Completes (.witnessRead mb) s fun t =>
    ∃ d : List Byte, Answered s t mb 0 d ∧ d.length = 129 ∧ leAt d 128 1 = s.reg CAL.AG_STATUS.MODEL_GEN % 256
      ∧ ∀ i w, s.cal.witnesses[i]? = some w → leAt d (2 * i) 2 = if w.valid then min 65535 (w.lrel / 16) else 0)
  ∧ (∀ s mb rd br, MailOk s → Runs s mb 0x0805 [] → Completes (.recalibrate mb rd br) s fun t =>
    (s.flag SCAN.CTRL.EN = true ∨ fbActive s = true → Answered s t mb 7 [] ∧ t.cal = s.cal ∧ t.regs = s.regs)
    ∧ (s.flag SCAN.CTRL.EN = false → fbActive s = false → t.flag CAL.STATUS.DONE = true
      ∧ Answered s t mb 0 (toLe 2 (t.reg CAL.START_STATS.GLOBAL_MED) ++ [0, 0] ++ toLe 4 (t.reg CAL.TRIM_STATS.TRIMMED))))
  ∧ (∀ s mb ack p l, MailOk s → Runs s mb 0x0901 p → p.length = 4 → s.power = 0 →
      l = (if leAt p 0 2 = 0 then [2, 5, 10, 20, 40, 100, 250].getD (s.reg PWR.STATE.WAKE_CODE) 250 else leAt p 0 2) →
      Completes (.pwrSleep mb ack) s fun t =>
    (l = 1 → Answered s t mb 4 [] ∧ t.power = 0)
    ∧ (l ≠ 1 → t.power = 4 ∧ t.pwr.sources = leAt p 2 1 % 8 ∧ Answered s t mb 0 (toLe 1 t.pwr.target)
      ∧ t.pwr.target = if l < 40 then 1 else if l < 250 then 2 else 3))
  ∧ (∀ s mb, MailOk s → Runs s mb 0x0902 [] → Completes (.powerDown mb) s fun t =>
    Answered s t mb 0 [] ∧ t.flag SCAN.CTRL.EN = false
    ∧ t.mram = ([3, 0x10, 0x11].foldl recordCommit (checkpointOrWait s)).mram
    ∧ t.cal.ckptDue = !mayCommit s 0x12
    ∧ (mayCommit s 0x12 = true → sparseGet 0 t.mram.used 0x12 = sparseGet 0 s.mram.used 0x12 + 1)
    ∧ (mayCommit s 0x12 = false → recOf t 0x12 = recOf s 0x12))
  ∧ (∀ s mb p a, MailOk s → Runs s mb 0x0A01 p → p.length = 2 → a = leAt p 0 2 → Completes (.enumerate mb) s fun t =>
    (511 < a → Answered s t mb 4 [])
    ∧ (a ≤ 511 → s.net.enumMb = none → s.net.origin = none →
      t.reg TXLA.NODE.ADDR = a ∧ t.flag TXLA.NODE.ADDR_VALID = true ∧ t.net.origin = some s.net.round
      ∧ t.net.enumMb = some mb ∧ t.mb mb = s.mb mb)
    ∧ (a ≤ 511 → s.net.enumMb ≠ some mb → s.net.origin ≠ none → Answered s t mb 7 [] ∧ t.net.origin = s.net.origin)
    ∧ (s.net.enumMb = some mb → a ≤ 511 → t = s))
  ∧ (∀ s p pkt rx n, MailOk s → (s.port (portNo p)).pkt = some (pkt, rx) → pkt.hdr.type = 0 → pkt.hdr.tspec = 2 →
      s.net.origin = some (leAt pkt.payload 0 2) → s.net.enumMb = some n → n < 8 → Completes (.nopEnumEnd p) s fun t =>
    Answered s t n 0 (toLe 2 (t.reg TXLA.NODE.NODES) ++ toLe 1 (t.reg TXLA.NODE.TOPO)) ∧ t.net.enumMb = none)
  ∧ ∀ s mb p, MailOk s → Runs s mb 0x0A02 p → p.length = 10 → leAt p 8 2 ≤ 511 → Completes (.assignAddr mb) s fun t =>
    (leAt p 0 8 = Config.serial.toNat → t.reg TXLA.NODE.ADDR = leAt p 8 2 ∧ t.flag TXLA.NODE.ADDR_VALID = true
      ∧ Answered s t mb 0 (toLe 2 (leAt p 8 2)))
    ∧ (leAt p 0 8 ≠ Config.serial.toNat → Answered s t mb 0x0F [] ∧ t.regs = s.regs)

/-- AUX_SET, AUX_GAMMA, AUX_GATE, EVENTS_READ, EVENTS_HISTORY, FLASH_WRITE, FLASH_ERASE, SLOT_SELECT, CFG_READ and CFG_WRITE
complete with these effects (R403, R404, R423, R427, R434, R439, R512, R518, R520). -/
def Obligations.AuxEventAndRecordCommands : Prop :=
  (∀ s mb p n k o, MailOk s → Runs s mb 0x0B01 p → k = leAt p 0 1 → o = leAt p 2 2 → n = leAt p 4 1 → p.length = 8 + 6 * n →
      k ≤ 3 → 1 ≤ n → n ≤ 40 → o + n ≤ 256 → Completes (.auxSet mb) s fun t =>
    Answered s t mb 0 [] ∧ ∀ k' < 4, ∀ m < 256, ∀ c < 3, auxValue t k' m c
      = if k' = k ∧ o ≤ m ∧ m < o + n then leAt p (8 + 2 * (3 * (m - o) + c)) 2 else auxValue s k' m c)
  ∧ (∀ s mb p n g i, MailOk s → Runs s mb 0x0B03 p → g = leAt p 0 1 → i = leAt p 2 2 → n = leAt p 4 2 → p.length = 8 + 2 * n →
      g ≤ 3 → 1 ≤ n → n ≤ 120 → i + n ≤ 257 → Completes (.auxGamma mb) s fun t =>
    Answered s t mb 0 [] ∧ ∀ g' < 4, ∀ j < 257, gammaEntry t g' j
      = if g' = g ∧ i ≤ j ∧ j < i + n then leAt p (8 + 2 * (j - i)) 2 else gammaEntry s g' j)
  ∧ (∀ s mb p n, MailOk s → ShapeOk s → Runs s mb 0x0B04 p → p.length = 6 → n = leAt p 0 1 → n ≤ 5 → Completes (.auxGate mb) s fun t =>
    (leAt p 4 2 < 100 ∨ 20000 < leAt p 4 2 → Answered s t mb 4 [] ∧ t.aux = s.aux)
    ∧ (100 ≤ leAt p 4 2 → leAt p 4 2 ≤ 20000 → Answered s t mb 0 []
      ∧ ∀ k g, s.aux.gates[k]? = some g → t.aux.gates[k]? = some (if k = n then { g with duty := leAt p 2 2, freq := leAt p 4 2 } else g)))
  ∧ (∀ s mb p n, MailOk s → Runs s mb 0x0C01 p → p.length = 1 → n = leAt p 0 1 → 1 ≤ n → n ≤ 7 → Completes (.eventsRead mb) s fun t =>
    t.evt.queue = s.evt.queue.drop n ∧ t.evt.history = s.evt.history
    ∧ Answered s t mb 0 (toLe 1 (min n s.evt.queue.length) ++ List.replicate 7 0 ++ (s.evt.queue.take n).flatMap eventBytes))
  ∧ (∀ s mb p n, MailOk s → Runs s mb 0x0C02 p → p.length = 5 → n = leAt p 4 1 → 1 ≤ n → n ≤ 7 →
      Completes (.eventsHistory mb) s fun t =>
    t.evt = s.evt
    ∧ (∀ e l, s.evt.history = e :: l → e.eseq < 2 ^ 32 →
        (BitVec.ofNat 32 (leAt p 0 4) - BitVec.ofNat 32 e.eseq).toInt < 0 → Answered s t mb 0x0F [])
    ∧ (eseqGone s (leAt p 0 4) = false →
      Answered s t mb 0 (eventData ((s.evt.history.filter (fun e => eseqAtOrAbove e.eseq (leAt p 0 4))).take n))))
  ∧ (∀ s mb ok p a n, MailOk s → Runs s mb 0x0D01 p → a = leAt p 0 4 → n = leAt p 4 2 → p.length = 8 + n → 1 ≤ n → n ≤ 224 →
      Completes (.flashWrite mb ok) s fun t =>
    (flashBarred s a n = true → Answered s t mb 7 [] ∧ t.flash = s.flash)
    ∧ (flashBarred s a n = false → Answered s t mb (if ok then 0 else 0x0B) []
      ∧ (∀ x, x < a ∨ a + n ≤ x → t.flashByte x = s.flashByte x)
      ∧ (ok = true → t.flashBytes a n = bytesAt p 8 n)))
  ∧ (∀ s mb ok p a n, MailOk s → Runs s mb 0x0D02 p → p.length = 6 →
      a = leAt p 0 4 / Config.flashSector * Config.flashSector → n = leAt p 4 2 * Config.flashSector →
      Completes (.flashErase mb ok) s fun t =>
    (flashBarred s a n = true → Answered s t mb 7 [] ∧ t.flash = s.flash)
    ∧ (flashBarred s a n = false → Answered s t mb (if ok then 0 else 0x0B) []
      ∧ (∀ x, x < a ∨ a + n ≤ x → t.flashByte x = s.flashByte x)
      ∧ (ok = true → ∀ x, a ≤ x → x < a + n → t.flashByte x = 0xFF)))
  ∧ (∀ s mb signed ok p d, MailOk s → Runs s mb 0x0D03 p → p.length = 1 → leAt p 0 1 ≤ 1 → directory s = some d →
      Completes (.slotSelect mb signed ok) s fun t =>
    (signed = false → Answered s t mb 0x0D [] ∧ t.flash = s.flash)
    ∧ (signed = true → ok = false → Answered s t mb 0x0B []
      ∧ ∀ x, x < dirCopy ∨ dirCopy + 64 ≤ x → t.flashByte x = s.flashByte x)
    ∧ (signed = true → ok = true → Answered s t mb 0 []
      ∧ t.flashBytes dirPrimary 64 = directoryWith s d (leAt p 0 1 == 1)
      ∧ t.flashBytes dirCopy 64 = directoryWith s d (leAt p 0 1 == 1)
      ∧ bit (leAt (t.flashBytes dirPrimary 64) 4 4) 16 = decide (leAt p 0 1 = 1)
      ∧ dirOk t dirPrimary = true))
  ∧ (∀ s mb p num o n, MailOk s → Runs s mb 0x0D04 p → p.length = 8 → num = leAt p 0 2 → o = leAt p 2 2 → n = leAt p 4 1 →
      1 ≤ n → n ≤ 240 → Completes (.cfgRead mb) s fun t =>
    (num ∉ recNums → Answered s t mb 0x0F [])
    ∧ (num ∈ recNums → o + n ≤ (payloadOf s num).2.length →
      Answered s t mb 0 (toLe 4 (payloadOf s num).1 ++ [0, 0, 0, 0] ++ bytesAt (payloadOf s num).2 o n)))
  ∧ ∀ s mb ok p num o n m, MailOk s → Runs s mb 0x0D05 p → num = leAt p 0 2 → o = leAt p 2 2 → n = leAt p 4 1 →
      p.length = 8 + n → cfgMax num = some m → 1 ≤ n → n ≤ 224 → o + n ≤ m → Completes (.cfgWrite mb ok) s fun t =>
    (s.flag SAFE.FB_CAUSE.SOFT_STOP = true → Answered s t mb 7 [] ∧ t.mram = s.mram)
    ∧ (s.flag SAFE.FB_CAUSE.SOFT_STOP = false → allowance s num = 0 →
      Answered s t mb 8 [] ∧ t.flag MRAM.STATUS.WEAR_HOLD = true ∧ t.mram = s.mram)
    ∧ (s.flag SAFE.FB_CAUSE.SOFT_STOP = false → 0 < allowance s num →
      (ok = true → Answered s t mb 0 (toLe 4 (nextCopy (recOf s num)).2) ∧ ∃ data, Committed s t num data
        ∧ bytesAt data o n = bytesAt p 8 n ∧ data.length = max (payloadOf s num).2.length (o + n)
        ∧ ∀ i, i < (payloadOf s num).2.length → i < o ∨ o + n ≤ i → data.getD i 0 = (payloadOf s num).2.getD i 0)
      ∧ (ok = false → Answered s t mb 0x0B []
        ∧ recOf t num = if (nextCopy (recOf s num)).1 = 0 then { recOf s num with a := none } else { recOf s num with b := none }))

/-! ### Auxiliary lighting and clocks -/

/-- AUX_PATTERN's refusals and the moment a setting takes effect (R436); AUX_FRAME_GRID, AUX_GATE_PERIOD_START and AUX_EN_SET complete
with these effects (R430, R433, R439, R441). -/
def Obligations.AuxOutputs : Prop :=
  (∀ s mb p n (e : AuxEng), MailOk s → Runs s mb 0x0B02 p → p.length = 16 → n = leAt p 0 1 → e = patternOf p → Completes (.auxPattern mb) s fun t =>
    (e.period = 0 ∨ e.port ≤ 3 ∧ e.count = 0 → Answered s t mb 4 [] ∧ t.aux = s.aux)
    ∧ (patternOk n e = true → (∃ k < 8, k ≠ n ∧ (auxNewest s k).type ≠ 0 ∧ (auxNewest s k).port = e.port
        ∧ (4 ≤ e.port ∨ e.node < (auxNewest s k).node + (auxNewest s k).count ∧ (auxNewest s k).node < e.node + e.count)) →
      Answered s t mb 7 [] ∧ t.aux = s.aux)
    ∧ (patternOk n e = true → (∀ k < 8, k ≠ n → (auxNewest s k).type = 0 ∨ (auxNewest s k).port ≠ e.port
        ∨ e.port ≤ 3 ∧ ((auxNewest s k).node + (auxNewest s k).count ≤ e.node ∨ e.node + e.count ≤ (auxNewest s k).node)) →
      Answered s t mb 0 [] ∧ t.aux = { s.aux with due := s.aux.due.set n (some e) }))
  ∧ (∀ (s : State) p, ShapeOk s → p < 4 → auxRuns s = true → auxLen s p ≠ 0 → s.aux.since + 20000 < s.now → Completes (.auxFrameGrid p) s fun t =>
    (∀ (n : Nat) (e : AuxEng), s.aux.due[n]? = some (some e) → e.type ≠ 0 → e.port = p → t.aux.engines[n]? = some e ∧ t.aux.due[n]? = some none)
    ∧ (∀ (n : Nat) (e x : AuxEng), s.aux.due[n]? = some (some e) → e.type = 0 → s.aux.engines[n]? = some x → x.type ≠ 0 → x.port = p →
      t.aux.engines[n]? = some e ∧ t.aux.due[n]? = some none)
    ∧ (∀ n : Nat, s.aux.due[n]? = some none → t.aux.engines[n]? = s.aux.engines[n]?)
    ∧ (∃ v, t.aux.frames[p]? = some (s.now, v) ∧ v.length = 3 * auxLen s p
      ∧ ∀ k c, k < auxLen s p → c < 3 → v.getD (3 * k + c) 0 = stage3 t (stage2 t p k (stage1 t p c (auxValue t p k c))))
    ∧ (∀ q : Nat, q ≠ p → t.aux.frames[q]? = s.aux.frames[q]?) ∧ t.aux.values = s.aux.values ∧ t.regs = s.regs)
  ∧ (∀ s p, p < 4 → auxRuns s = false ∨ auxLen s p = 0 ∨ s.now ≤ s.aux.since + 20000 → exec (.auxFrameGrid p) s = .next s)
  ∧ (∀ (s : State) n (g : AuxGate), ShapeOk s → s.aux.gates[n]? = some g → auxRuns s = true → g.freq ≠ 0 → Completes (.auxGatePeriodStart n) s fun t =>
    (∀ (k : Nat) (e : AuxEng), s.aux.due[k]? = some (some e) → e.type ≠ 0 → e.port = 4 + n → t.aux.engines[k]? = some e ∧ t.aux.due[k]? = some none)
    ∧ t.aux.gates[n]? = some { g with period := 400000000 / g.freq, since := s.now
                                      high := 400000000 / g.freq * stage3 t (stage2 t (4 + n) 0 g.duty) / 65536 }
    ∧ (∀ k : Nat, k ≠ n → t.aux.gates[k]? = s.aux.gates[k]?) ∧ t.regs = s.regs)
  ∧ (∀ (s : State) n (g : AuxGate), s.aux.gates[n]? = some g → auxRuns s = false ∨ g.freq = 0 → exec (.auxGatePeriodStart n) s = .next s)
  ∧ (∀ s, s.flag AUX.CTRL.EN = false → Completes .auxEnSet s fun t =>
    t.flag AUX.CTRL.EN = true ∧ t.aux = { s.aux with since := s.now })
  ∧ ∀ s, s.flag AUX.CTRL.EN = true → exec .auxEnSet s = .next s

/-- SYS.SCRATCH (R568) and CLK.FORCED_COUNT (R474) by REGISTER_WRITE, RC_FIELD_READ and CLKSW_FORCED. -/
def Obligations.ScratchAndForcedSwitches : Prop :=
  State.reset.reg SYS.SCRATCH.DATA = 0 ∧ State.reset.reg CLK.FORCED_COUNT.COUNT = 0
  ∧ (∀ s w, busUp s = true → s.flag (CLK.GATE.EN 0) = true →
    exec (.registerWrite 0x00000010 w) s = .next (s.setReg SYS.SCRATCH.DATA w.toNat)
    ∧ (s.setReg SYS.SCRATCH.DATA w.toNat).reg SYS.SCRATCH.DATA = w.toNat
    ∧ ∀ f, f.addr ≠ 0x10 → f.lo < 32 → (s.setReg SYS.SCRATCH.DATA w.toNat).reg f = s.reg f)
  ∧ (∀ s w, busUp s = true → s.flag (CLK.GATE.EN 1) = true → Completes (.registerWrite 0x0001001C w) s fun t =>
    t.reg CLK.FORCED_COUNT.COUNT = w.toNat)
  ∧ (∀ s, busUp s = true → s.flag (CLK.GATE.EN 0) = true → Completes (.rcFieldRead 0x00000010) s fun t =>
    t.io.bus = some (BitVec.ofNat 32 (s.reg SYS.SCRATCH.DATA)) ∧ t.regs = s.regs)
  ∧ (∀ s, busUp s = true → s.flag (CLK.GATE.EN 1) = true → Completes (.rcFieldRead 0x0001001C) s fun t =>
    t.io.bus = some (BitVec.ofNat 32 (s.reg CLK.FORCED_COUNT.COUNT)) ∧ t.regs = s.regs)
  ∧ ∀ s d, d < 6 → Completes (.clkswForced d) s fun t =>
    t.reg CLK.FORCED_COUNT.COUNT = min 0xFFFFFFFF (s.reg CLK.FORCED_COUNT.COUNT + 1)
    ∧ t.flag CLK.STATUS.CLKSW_FORCED = true ∧ Faulted s t 4 1

/-- REFCLK_DETECT_WINDOW, CRYSTAL_DELAY_EXPIRY, PLL_LOCK, RAMP_DWELL_STEP, CLOCK_MONITOR_TRIP, CLOCKS_GOOD, CLK_DIV_WRITE,
SS_REF_WRITE and CLK_GATE_WRITE complete with these effects (R448, R449, R451, R454, R456 to R460). Which blocks a clock feeds is R25. -/
def Obligations.Clocks : Prop :=
  (∀ s good, s.boot.cold = true → domainsHeld s = false → s.reg CLK.STATUS.SRC = 0 → Completes (.refclkDetectWindow good) s fun t =>
    t.reg CLK.STATUS.SRC = if s.clk.refForce = 1 ∨ s.clk.refForce = 2 then s.clk.refForce else if good then 1 else 2)
  ∧ (∀ s, domainsHeld s = false → s.reg CLK.STATUS.SRC = 2 →
    exec .crystalDelayExpiry s = .next { s with clk := { s.clk with crystal := true } })
  ∧ (∀ s, domainsHeld s = false → s.power ≠ 2 → s.power ≠ 3 →
      s.reg CLK.STATUS.SRC = 1 ∨ s.reg CLK.STATUS.SRC = 2 ∧ s.clk.crystal = true → Completes .pllLock s fun t =>
    t.flag CLK.STATUS.PLL_LOCK = true ∧ t.clk.everLocked = true ∧ t.flag CLK.STATUS.CLOCK_OK = !s.clk.lost)
  ∧ (∀ s d, ShapeOk s → s.flag CLK.STATUS.PLL_LOCK = true → clocksRun s = true → d < 6 →
      (∀ e < d, s.clk.div.getD e 0 = rampTarget s e) → s.clk.div.getD d 0 ≠ rampTarget s d → Completes .rampDwellStep s fun t =>
    (∀ e, e ≠ d → t.clk.div.getD e 0 = s.clk.div.getD e 0)
    ∧ (s.clk.div.getD d 0 = 0 → t.clk.div.getD d 0 = max 96 (rampTarget s d))
    ∧ (s.clk.div.getD d 0 ≠ 0 → rampTarget s d < s.clk.div.getD d 0 →
      t.clk.div.getD d 0 < s.clk.div.getD d 0 ∧ t.clk.div.getD d 0 ∈ [96, 48, 32, 24, 16, rampTarget s d]
      ∧ rampTarget s d ≤ t.clk.div.getD d 0
      ∧ ∀ m ∈ [96, 48, 32, 24, 16], rampTarget s d < m → m < s.clk.div.getD d 0 → m ≤ t.clk.div.getD d 0))
  ∧ (∀ s, (∀ d < 6, s.clk.div.getD d 0 = rampTarget s d) → exec .rampDwellStep s = .next s)
  ∧ (∀ s (clks : BitVec 10) k, k < 10 → (bit (watchedClocks s clks.toNat) k = true ↔ clks.getLsbD k = true
    ∧ (2 ≤ k ∨ s.clk.everLocked = true) ∧ (k = 9 ∨ s.power ≠ 2 ∧ s.power ≠ 3) ∧ ¬ (k = 4 ∧ s.power = 1)))
  ∧ (∀ s (clks : BitVec 10), domainsHeld s = false → watchedClocks s clks.toNat ≠ 0 → Completes (.clockMonitorTrip clks) s fun t =>
    (∀ k < 10, bit (t.reg CLK.MON_FAIL.CLK) k = (bit (s.reg CLK.MON_FAIL.CLK) k || bit (watchedClocks s clks.toNat) k))
    ∧ t.flag CLK.STATUS.CLOCK_OK = false ∧ t.stats.underruns = s.stats.underruns ∧ t.stats.aborts = s.stats.aborts
    ∧ t.stats.blocked = s.stats.blocked ∧ t.guard.blockRun = s.guard.blockRun
    ∧ (s.clk.lost = true → t.clk = s.clk ∧ t.scan = s.scan ∧ t.net = s.net ∧ t.flt = s.flt)
    ∧ (s.clk.lost = false → t.clk.lost = true ∧ t.clk.div = List.replicate 6 0 ∧ t.synced = false
      ∧ t.flag SAFE.FB_CAUSE.CLOCK = true ∧ (fbActive s = false → AllOnFallback t ∧ Counted s t SAFE.FB_ENTRIES.VALUE 1)
      ∧ t.aux.forced = true ∧ (∀ g ∈ t.aux.gates, g.high = 0)
      ∧ t.scan.loading = false ∧ t.scan.hold = [] ∧ t.pix.back = [] ∧ (∀ g ∈ t.scan.groups, g.swapDue = false)
      ∧ ∀ p < 2, t.reg (TX.STATUS.STATE p) ≠ 2 ∧ t.reg (TX.STATUS.STATE p) ≠ 3))
  ∧ (∀ s, s.clk.lost = true → Completes .clocksGood s fun t =>
    t.clk.lost = false ∧ t.flag CLK.STATUS.CLOCK_OK = true ∧ t.flag CLK.STATUS.PLL_LOCK = s.clk.everLocked ∧ t.aux.forced = false
    ∧ Faulted s t 3 3 ∧ t.flag SAFE.FB_CAUSE.FATAL = true ∧ t.flag SAFE.FB_CAUSE.CLOCK = s.flag SAFE.FB_CAUSE.CLOCK)
  ∧ (∀ s w, Completes (.clkDivWrite w) s fun t =>
    ∀ x ∈ [(CLK.DIV.CORE, [14, 16]), (CLK.DIV.PIX, [13, 15]), (CLK.DIV.PER, [11, 12, 20])],
      ((∀ n ∈ x.2, s.flag (CLK.GATE.EN n) = false) → t.reg x.1 = fromWord x.1 w)
      ∧ ((∃ n ∈ x.2, s.flag (CLK.GATE.EN n) = true) → t.reg x.1 = s.reg x.1 ∧ t.flag CLK.STATUS.WIGN = true
        ∧ bit (t.reg SYS.WIGN.BLOCK) 1 = true))
  ∧ (∀ s w, Completes (.ssRefWrite w) s fun t =>
    (s.flag (TX.CTRL.EN 0) = true ∨ s.flag (TX.CTRL.EN 1) = true → t.flag CLK.STATUS.WIGN = true
      ∧ bit (t.reg SYS.WIGN.BLOCK) 1 = true ∧ ∀ f ∈ [CLK.SS_REF.EN, CLK.SS_REF.DEPTH, CLK.SS_REF.RATE], t.reg f = s.reg f)
    ∧ (s.flag (TX.CTRL.EN 0) = false → s.flag (TX.CTRL.EN 1) = false →
      ∀ f ∈ [CLK.SS_REF.EN, CLK.SS_REF.DEPTH, CLK.SS_REF.RATE], t.reg f = fromWord f w))
  ∧ ∀ s w, Completes (.clkGateWrite w) s fun t => ∀ n < 21,
    (n ≤ 3 ∨ n = 5 → t.flag (CLK.GATE.EN n) = s.flag (CLK.GATE.EN n))
    ∧ (3 < n → n ≠ 5 → w.getLsbD n = true → t.flag (CLK.GATE.EN n) = true)
    ∧ (3 < n → n ≠ 5 → w.getLsbD n = false → (∀ f, blockEn n = some f → s.flag f = false) → t.flag (CLK.GATE.EN n) = false)
    ∧ (∀ f, 3 < n → n ≠ 5 → w.getLsbD n = false → blockEn n = some f → s.flag f = true →
      t.flag (CLK.GATE.EN n) = s.flag (CLK.GATE.EN n) ∧ t.flag CLK.STATUS.WIGN = true)

/-- WAKE_PORT_WRITE, WAKE_PIN, SLEEP_ENTRY_ABORT, WAKE_SEQUENCE, WAKE_READINESS_TIMEOUT and CORE_PG_RISE complete with these effects
(R395, R464 to R468), and the idle tick ends an entry (R461, R462, R465). That an entry is one idle tick is the model's choice, log
entry 2; that a match in LANDING changes no state is its reading of R395. -/
def Obligations.SleepAndWake : Prop :=
  (∀ (s : State) addr data, addr.toNat = s.actReg IOMUX.BOARD.WAKE_ADDR → s.power = 0 ∨ s.power = 1 ∨ s.power = 5 →
    exec (.wakePortWrite addr data) s = .next (s.setReg PWR.STATE.WAKE_CODE (data.toNat % 16)))
  ∧ (∀ (s : State) addr data, addr.toNat = s.actReg IOMUX.BOARD.WAKE_ADDR → s.power = 4 → wakeSelected s 1 = true →
    exec (.wakePortWrite addr data) s
      = .next (abortEntry (s.setReg PWR.STATE.WAKE_CODE (data.toNat % 16))))
  ∧ (∀ (s : State) (src : WakeSource), s.power = 4 → wakeSelected s (wakeNo src) = true →
    exec (.sleepEntryAbort src) s = .next (abortEntry s))
  ∧ (∀ s : State, s.power = 4 → wakeSelected s 2 = true → exec .wakePin s = .next (abortEntry s))
  ∧ (∀ s : State, (abortEntry s).power = 0 ∧ (abortEntry s).flag PWR.STATUS.ABORTED = true
    ∧ Counted s (abortEntry s) PWR.ABORT_COUNT.COUNT 1
    ∧ Told s (abortEntry s) [(0x0902, toLe 1 (s.reg PWR.STATUS.LAST_REFUSER) ++ toLe 1 s.pwr.target ++ toLe 1 1)])
  ∧ (∀ s : State, wakeSelected s 2 = true → s.power = 1 ∨ s.power = 2 ∨ s.power = 3 → Completes .wakePin s fun t =>
    t.power = 5 ∧ t.reg PWR.STATE.WAKE_SRC = 2 ∧ t.pwr.wakeFrom = s.power
    ∧ (s.power = 3 → t.boot.cold = true ∧ t.now = 0 ∧ t.synced = false ∧ t.reg SYS.RESET_CAUSE.CAUSE = 3)
    ∧ (s.power ≠ 3 → t.lt = s.lt ∧ t.boot = s.boot))
  ∧ (∀ s : State, wakeSelected s 2 = false ∨ s.power = 0 ∨ s.power = 5 → exec .wakePin s = .next s)
  ∧ (∀ s : State, s.pending = [] → s.power = 4 → ∃ t, step s = .next t
    ∧ (∀ b, entryRefuser s = some b → t.power = 0 ∧ t.flag PWR.STATUS.REFUSED = true ∧ t.reg PWR.STATUS.LAST_REFUSER = b
      ∧ Counted s t PWR.REFUSE_COUNT.COUNT 1 ∧ t.flag SCAN.CTRL.EN = s.flag SCAN.CTRL.EN
      ∧ ∃ e ∈ t.flt.jorosh, e.code = 0x0902 ∧ e.args = padTo 16 (toLe 1 b ++ toLe 1 s.pwr.target ++ toLe 1 0))
    ∧ (entryRefuser s = none → s.pwr.target = 1 ∨ s.pwr.target = 2 ∨ s.pwr.target = 3 →
      t.power = s.pwr.target ∧ t.flag SCAN.CTRL.EN = false ∧ (s.flag SCAN.CTRL.EN = true → t.scan.running = false)
      ∧ (s.pwr.target = 1 → t.pwr.scanEn = s.flag SCAN.CTRL.EN ∧ (s.flag DDRC.CTRL.EN = true → t.flag DDRC.STATUS.SELF_REFRESH = true)
        ∧ t.shd.slots = s.shd.slots)
      ∧ (s.pwr.target = 2 → t.dram = s.dram ∧ t.now = 0 ∧ t.synced = false ∧ t.boot.jorosh = s.boot.jorosh
        ∧ t.flag SCAN.FB_CTRL.FB_VALID = false)
      ∧ (s.pwr.target = 3 → t.dram = [] ∧ t.now = 0 ∧ t.synced = false ∧ t.boot.jorosh = false)))
  ∧ (∀ s : State, s.power = 5 → domainsHeld s = false → s.pwr.wakeFrom = 1 ∨ s.pwr.wakeFrom = 2 → Completes .wakeSequence s fun t =>
    t.power = 0 ∧ t.dram = s.dram
    ∧ (∃ e ∈ t.flt.jorosh, e.code = 0x0901 ∧ e.args = padTo 16 (toLe 1 (s.reg PWR.STATE.WAKE_SRC)
      ++ toLe 1 (s.reg PWR.STATE.WAKE_CODE) ++ toLe 1 s.pwr.wakeFrom))
    ∧ (s.pwr.failed = true → Faulted s t 7 2 ∧ t.pwr.failed = false)
    ∧ (s.pwr.wakeFrom = 1 → t.scan.vledAsk = vledMax s ∧ t.flag DDRC.STATUS.SELF_REFRESH = false
      ∧ t.flag SCAN.CTRL.EN = (s.flag SCAN.CTRL.EN || s.pwr.scanEn))
    ∧ (s.pwr.wakeFrom = 2 → t.flag CLK.STATUS.PLL_LOCK = true ∧ t.clk.div.getD 5 0 = 1000))
  ∧ (∀ (s : State) w, domainsHeld s = false → s.power = 5 → s.pwr.wakeFrom = 2 ∨ s.pwr.wakeFrom = 3 →
      Completes (.wakeReadinessTimeout w) s fun t =>
    (s.pwr.repeats < s.reg PWR.CFG.RETRIES → t.pwr.repeats = s.pwr.repeats + 1 ∧ t.power = 5 ∧ t.regs = s.regs)
    ∧ (s.reg PWR.CFG.RETRIES ≤ s.pwr.repeats →
      t.power = (if s.boot.cold = true ∨ s.pwr.wakeFrom = 3 then 3 else 2)
      ∧ t.flag PWR.STATUS.WAKE_FAIL = true ∧ Counted s t PWR.WAKE_FAIL_COUNT.COUNT 1 ∧ t.flt.errWake = true ∧ errHeld t = true
      ∧ t.pwr.failed = true))
  ∧ ∀ s : State, s.pwr.coreEn = true → exec .corePgRise s = .next { s with pwr := { s.pwr with corePg := true } }

/-- THERMAL_SAMPLE completes with these effects (R480, R482, R483, R485, R486, R488). That a tie names the lowest-numbered sensor is the
model's choice (log entry 29). -/
def Obligations.ThermalSample : Prop :=
  (∀ s t, domainsHeld s = true ∨ s.power = 2 ∨ s.power = 3 → exec (.thermalSample t) s = .next s)
  ∧ ∀ s l, domainsHeld s = false → s.power ≠ 2 → s.power ≠ 3 → Completes (.thermalSample l) s fun t =>
    (∀ i < 68, t.reg (THM.ZONE.T i) = toBits 12 (max (-2048) (min 2047 (l.getD i 0))))
    ∧ (s.flag (CLK.GATE.EN 4) = false ∨ s.flag THM.CTRL.EN = false → t.thm = s.thm ∧ t.flt = s.flt
      ∧ t.reg THM.STATUS.LEVEL = s.reg THM.STATUS.LEVEL)
    ∧ (s.flag (CLK.GATE.EN 4) = true → s.flag THM.CTRL.EN = true → ThmShape s →
      (∀ i < 68, t.thm.failed.getD i false = if s.thm.failed.getD i false = true then
          !(sensorOk l i && decide (2 ≤ s.thm.good.getD i 0)) else !sensorOk l i && decide (2 ≤ s.thm.bad.getD i 0))
      ∧ ((∃ i < 68, s.thm.failed.getD i false = false ∧ t.thm.failed.getD i false = true) →
        t.flag THM.STATUS.SENSOR_FAIL = true ∧ ∃ w, sparseGet none t.flt.real 55 = some w)
      ∧ (∀ i < 68, t.thm.failed.getD i false = false →
          (∀ j < 68, t.thm.failed.getD j false = false → l.getD j 0 ≤ l.getD i 0 ∧ (j < i → l.getD j 0 < l.getD i 0)) →
        t.reg THM.STATUS.TJ = toBits 12 (max (-2048) (min 2047 (l.getD i 0))) ∧ t.reg THM.STATUS.HOT_SENSOR = i
        ∧ ∀ k < 3,
          (s.thm.entered.getD k false = false → 2 ≤ s.thm.rises.getD k 0 → threshold s k ≤ l.getD i 0 →
            t.thm.entered.getD k false = true
            ∧ eventOf s 0x0106 (toLe 1 k ++ toLe 1 i ++ toLe 2 (toBits 16 (l.getD i 0))) ∈ t.flt.jorosh
            ∧ (k = 1 → Faulted s t 52 1 ∧ Counted s t THM.THROTTLE_COUNT.COUNT 1)
            ∧ (k = 2 → t.flag SAFE.FB_CAUSE.SOFT_STOP = true ∧ t.flag SCAN.FB_CTRL.FB_HALF = true
              ∧ (s.thm.failSoft = none → t.thm.failSoft = none → Faulted s t 53 2 ∧ Counted s t THM.SOFT_STOP_COUNT.COUNT 1)))
          ∧ (s.thm.entered.getD k false = true → 2 ≤ s.thm.falls.getD k 0 → l.getD i 0 < threshold s k - 20 →
            t.thm.entered.getD k false = false
            ∧ eventOf s 0x0106 (toLe 1 (k + 128) ++ toLe 1 i ++ toLe 2 (toBits 16 (l.getD i 0))) ∈ t.flt.jorosh)
          ∧ (threshold s k - 20 ≤ l.getD i 0 → l.getD i 0 < threshold s k →
            t.thm.entered.getD k false = s.thm.entered.getD k false ∧ t.thm.rises.getD k 0 = 0 ∧ t.thm.falls.getD k 0 = 0))
      ∧ (s.thm.failSoft = none → 8 < t.thm.failed.count true → t.thm.failSoft.isSome = true
        ∧ t.flag SAFE.FB_CAUSE.SOFT_STOP = true ∧ t.flag SCAN.FB_CTRL.FB_HALF = true
        ∧ ∃ e ∈ t.flt.jorosh, e.code = 0x0106 ∧ leAt e.args 0 1 = 0x42)
      ∧ (s.thm.failSoft.isSome = true → t.thm.failed.count true ≤ 8 → t.thm.failSoft = none
        ∧ ∃ e ∈ t.flt.jorosh, e.code = 0x0106 ∧ leAt e.args 0 1 = 0xC2)
      ∧ (t.thm.entered.getD 2 false = false → t.thm.failSoft = none → s.thm.entered.getD 2 false = true ∨ s.thm.failSoft.isSome = true →
        t.flag SAFE.FB_CAUSE.SOFT_STOP = false)
      ∧ t.reg THM.STATUS.LEVEL = (if t.thm.entered.getD 2 false = true ∨ t.thm.failSoft.isSome = true then 3
        else if t.thm.entered.getD 1 false = true then 2 else if t.thm.entered.getD 0 false = true then 1 else 0))

/-- HOUSEKEEPING_ROUND completes with these effects (R438, R481, R482, R484, R501). -/
def Obligations.HousekeepingRound : Prop :=
  ∀ s h, clocksRun s = true → s.power ≠ 1 → supUp s = true → Completes (.housekeepingRound h) s fun t =>
    (∀ k < 2, ∀ c, (if k = 0 then h.ntc0 else h.ntc1) = some c → 40 ≤ c → c ≤ 4055 →
      bit (t.reg THM.HK_VALID.VALID) k = true
      ∧ t.reg (THM.HK.T k) = t12 (ntcT4 (leAt (boardRecord s) 4 4) (leAt (boardRecord s) 8 2) c))
    ∧ (∀ k < 2, (∀ c, (if k = 0 then h.ntc0 else h.ntc1) = some c → c < 40 ∨ 4055 < c) →
      bit (t.reg THM.HK_VALID.VALID) k = false ∧ t.reg (THM.HK.T k) = s.reg (THM.HK.T k))
    ∧ (s.flag DDRC.STATUS.SELF_REFRESH = true ∨ h.dramTwiceRate = none →
      bit (t.reg THM.HK_VALID.VALID) 2 = false ∧ t.reg (THM.HK.T 2) = s.reg (THM.HK.T 2)
      ∧ t.reg DDRC.STATUS.HOT = s.reg DDRC.STATUS.HOT)
    ∧ (∀ b, s.flag DDRC.STATUS.SELF_REFRESH = false → h.dramTwiceRate = some b →
      bit (t.reg THM.HK_VALID.VALID) 2 = true ∧ t.reg (THM.HK.T 2) = (if b then 380 else 340) ∧ t.flag DDRC.STATUS.HOT = b
      ∧ (b = true → s.flag DDRC.STATUS.HOT = false → Faulted s t 57 1))
    ∧ (∀ k, k = 3 ∨ k = 4 →
      (∀ v, (if k = 3 then h.regulator else h.guard) = some v → bit (t.reg THM.HK_VALID.VALID) k = true ∧ t.reg (THM.HK.T k) = t12 v)
      ∧ ((if k = 3 then h.regulator else h.guard) = none →
        bit (t.reg THM.HK_VALID.VALID) k = false ∧ t.reg (THM.HK.T k) = s.reg (THM.HK.T k)))
    ∧ (s.flag (CLK.GATE.EN 4) = false ∨ s.flag THM.CTRL.EN = false → t.thm = s.thm)
    ∧ (s.flag (CLK.GATE.EN 4) = true → s.flag THM.CTRL.EN = true →
      (s.thm.entered.getD 1 false = true → threshold s 1 ≤ sext 12 (s.reg THM.STATUS.TJ) → s.thm.pause ≤ s.reg THM.CFG.P_MAX →
        t.thm.pause = min (s.reg THM.CFG.P_MAX) (s.thm.pause + 1))
      ∧ (s.thm.entered.getD 1 false = true → sext 12 (s.reg THM.STATUS.TJ) < threshold s 1 → t.thm.pause = s.thm.pause)
      ∧ (s.thm.entered.getD 1 false = false → t.thm.pause = s.thm.pause - 1)
      ∧ (∀ v, h.guard = some v → (∀ i ∈ [64, 65, 66, 67], 40 < (v - sensorT4 s i).natAbs) → s.thm.guardRuns = 2 → Faulted s t 55 1)
      ∧ (∀ v, h.guard = some v → (∃ i ∈ [64, 65, 66, 67], (v - sensorT4 s i).natAbs ≤ 40) → t.thm.guardRuns = 0))
    ∧ (2 ≤ s.reg AUX.DR_CFG.SRC → t.reg AUX.STATUS.F = 4096)
    ∧ (s.reg AUX.DR_CFG.SRC = 0 → bit (t.reg THM.HK_VALID.VALID) 1 = true → t.reg AUX.STATUS.F = auxFactor s (sext 12 (t.reg (THM.HK.T 1))))
    ∧ (s.reg AUX.DR_CFG.SRC = 1 → ∀ i ∈ [64, 65, 66, 67], s.thm.failed.getD i false = false →
        (∀ j ∈ [64, 65, 66, 67], s.thm.failed.getD j false = false → sensorT4 s j ≤ sensorT4 s i) →
      t.reg AUX.STATUS.F = auxFactor s (sensorT4 s i))
    ∧ (s.reg AUX.DR_CFG.SRC = 0 ∧ bit (t.reg THM.HK_VALID.VALID) 1 = false
        ∨ s.reg AUX.DR_CFG.SRC = 1 ∧ (∀ i ∈ [64, 65, 66, 67], s.thm.failed.getD i false = true) →
      s.reg AUX.STATUS.F < 8192 → t.reg AUX.STATUS.F = s.reg AUX.STATUS.F)
    ∧ (s.reg AUX.STATUS.F < 8192 → t.flag AUX.STATUS.DERATING = decide (t.reg AUX.STATUS.F < 4096))

/-- DDRC_EN_SET, DRAM_REFRESH, ZQ_CALIBRATION, DRAM_ACTIVATE, DDR_ALERT, DRAM_READ_ERROR, PATROL_SCRUB, DRAM_IDLE_POWER_STATE,
TOL_COUNTDOWN_EXPIRY, DRAM_IDLE_SELF_REFRESH, MRAM_RECORD_COMMIT, MRAM_COPY_REPAIR, MRAM_SCRUB and WEAR_ALLOWANCE_TICK complete with
these effects (R461, R496 to R506, R512, R513, R518, R519). The value drawn at an activate is free (log entry 4). -/
def Obligations.Memories : Prop :=
  (∀ s, s.flag DDRC.CTRL.EN = false → Completes .ddrcEnSet s fun t =>
    (t.flag DDRC.CTRL.EN = true ↔ OrgListed s ∧ MapListed s)
    ∧ (¬ OrgListed s → t.flag DDRC.STATUS.ORG_ERR = true) ∧ (OrgListed s → ¬ MapListed s → t.flag DDRC.STATUS.MAP_ERR = true))
  ∧ (∀ s, dramAwake s = true →
    exec .dramRefresh s = .next { s with ddr := { s.ddr with refreshed := some s.now } }
    ∧ exec .zqCalibration s = .next { s with ddr := { s.ddr with zqDone := some s.now } })
  ∧ (∀ s bank row, clocksRun s = true → s.flag DDRC.CTRL.EN = true → Completes (.dramActivate bank row) s fun t =>
    t.flag DDRC.STATUS.SELF_REFRESH = false ∧ t.flag DDRC.STATUS.POWER_DOWN = false
    ∧ (Config.rhpDraw s.free % 2 ^ clampN 8 16 (s.reg DDRC.RHP.RHP_K) = 0 → Counted s t DDRC.RHP_COUNT.COUNT 1)
    ∧ (Config.rhpDraw s.free % 2 ^ clampN 8 16 (s.reg DDRC.RHP.RHP_K) ≠ 0 → t.reg DDRC.RHP_COUNT.COUNT = s.reg DDRC.RHP_COUNT.COUNT))
  ∧ (∀ s e, clocksRun s = true → s.flag DDRC.CTRL.EN = true → Completes (.ddrAlert e) s fun t =>
    Counted s t DDRC.REPLAY_COUNT.COUNT 1
    ∧ (∀ a, e = .readFails a → SafetyReadFailed s t a) ∧ (∀ n, e = .writeFails n → EntriesAbandoned s t n)
    ∧ (e = .good → t.eng = s.eng ∧ t.scan = s.scan ∧ t.flt = s.flt))
  ∧ (∀ s cls a kind cl, clocksRun s = true → s.flag DDRC.CTRL.EN = true → Completes (.dramReadError cls a kind cl) s fun t =>
    (kind = .corrected → Counted s t DDRC.CE_COUNT.COUNT 1 ∧ t.ddr.ceSec = s.now / 400000000
      ∧ t.ddr.ceCount = (if s.ddr.ceSec = s.now / 400000000 then s.ddr.ceCount + 1 else 1)
      ∧ (t.ddr.ceCount = s.reg DDRC.PWR.CE_TH + 1 → Faulted s t 58 1) ∧ (t.ddr.ceCount ≠ s.reg DDRC.PWR.CE_TH + 1 → t.flt = s.flt))
    ∧ (kind = .rereadGood → cls = .s → Counted s t DDRC.CE_COUNT.COUNT 1 ∧ t.flt = s.flt ∧ t.scan = s.scan)
    ∧ (kind = .uncorrectable → cls = .s → SafetyReadFailed s t a)
    ∧ (kind = .uncorrectable → cls = .g → UncorrectableLogged s t false a ∧ t.scan = s.scan ∧ t.flt = s.flt
      ∧ (∀ n, cl = .engine n → EntriesAbandoned s t n)
      ∧ (∀ b, cl = .dose b → b < 16 → bit t.eng.lostBands b = true ∧ t.flag BE.STATUS.DOSE_LOST = true)))
  ∧ (∀ s n, supUp s = true → dramAwake s = true → Completes (.patrolScrub n) s fun t => Counted s t DDRC.CE_COUNT.COUNT n)
  ∧ (∀ s, clocksRun s = true → s.power ≠ 1 → s.flag DDRC.CTRL.EN = true → s.flag DDRC.CTRL.LAT_EN = true →
    (Completes .tolCountdownExpiry s fun t => t.flag DDRC.STATUS.SELF_REFRESH = false ∧ t.flag DDRC.STATUS.POWER_DOWN = false
      ∧ ∀ a, s.ddr.srSince = some a → a ≤ s.now →
        t.reg DDRC.SR_TIME.TIME = (s.reg DDRC.SR_TIME.TIME + (s.ddr.srTicks + (s.now - a)) / 400) % 2 ^ 32
        ∧ t.ddr.srTicks = (s.ddr.srTicks + (s.now - a)) % 400)
    ∧ Completes .dramIdlePowerState s fun t =>
      (srMin s ≤ s.reg SCAN.LAT_TOL.TOL → t.flag DDRC.STATUS.SELF_REFRESH = true ∧ t.ddr.srSince.isSome = true)
      ∧ (clampN 1 255 (s.reg DDRC.PWR.PD_MIN) ≤ s.reg SCAN.LAT_TOL.TOL → s.reg SCAN.LAT_TOL.TOL < srMin s →
        s.flag DDRC.STATUS.SELF_REFRESH = false → t.flag DDRC.STATUS.POWER_DOWN = true ∧ t.flag DDRC.STATUS.SELF_REFRESH = false)
      ∧ (s.reg SCAN.LAT_TOL.TOL < clampN 1 255 (s.reg DDRC.PWR.PD_MIN) → t = s))
  ∧ (∀ s, s.power = 1 → clocksRun s = true → s.flag DDRC.CTRL.EN = true → Completes .dramIdleSelfRefresh s fun t =>
    t.flag DDRC.STATUS.SELF_REFRESH = true ∧ t.flag DDRC.STATUS.POWER_DOWN = false
    ∧ t.ddr.srSince = some (s.ddr.srSince.getD s.now))
  ∧ (∀ s num, supUp s = true → mayCommit s num = false → exec (.mramRecordCommit num) s = .next s)
  ∧ (∀ s, supUp s = true → mayCommit s 3 = true → newestCopy (recOf s 3) ≠ none → (payloadOf s 3).2 ≠ toLe 1 s.cal.vcPlan →
    Completes (.mramRecordCommit 3) s fun t => Committed s t 3 (toLe 1 s.cal.vcPlan))
  ∧ (∀ s, supUp s = true → mayCommit s 0x11 = true → (payloadOf s 0x11).2 ≠ mapPayload s →
    Completes (.mramRecordCommit 0x11) s fun t => Committed s t 0x11 (mapPayload s) ∧ t.diag.uncommitted = [])
  ∧ (∀ s, supUp s = true → mayCommit s 0x10 = true → calDue s = true → Completes (.mramRecordCommit 0x10) s fun t =>
    Committed s t 0x10 (calPayload s (nextCopy (recOf s 0x10)).1 (nextCopy (recOf s 0x10)).2)
    ∧ (if (nextCopy (recOf s 0x10)).1 = 0 then t.mram.maskA = s.cal.masks ∧ t.mram.maskB = s.mram.maskB ∧ t.mram.trimB = s.mram.trimB
      else t.mram.maskB = s.cal.masks ∧ t.mram.maskA = s.mram.maskA ∧ t.mram.trimA = s.mram.trimA))
  ∧ (∀ s, supUp s = true → mayCommit s 0x12 = true → s.cal.ckptDue = true → Completes (.mramRecordCommit 0x12) s fun t =>
    (∃ data, Committed s t 0x12 data) ∧ t.cal.ckptDue = false)
  ∧ (∀ s num, supUp s = true → OneCopy s num → Completes (.mramCopyRepair num) s fun t =>
    newestCopy (recOf t num) = some ((0 : Nat), ((recOf s num).a.or (recOf s num).b).getD ⟨0, []⟩) ∧ (recOf t num).a = (recOf t num).b
    ∧ ∀ k, k ≠ num → recOf t k = recOf s k)
  ∧ (∀ s n, supUp s = true → Completes (.mramScrub n) s fun t =>
    Counted s t MRAM.CE_COUNT.COUNT n
    ∧ ∀ num, num ∈ [1, 2, 3, 0x10, 0x11, 0x12] ∨ 0x100 ≤ num ∧ num ≤ 0x10F → (OneCopy s num → (recOf t num).a = (recOf t num).b
        ∧ (recOf t num).a = (recOf s num).a.or (recOf s num).b ∧ ∃ w, sparseGet none t.flt.real 60 = some w)
      ∧ (¬ OneCopy s num → recOf t num = recOf s num))
  ∧ ∀ s num, sparseWf 0 s.mram.used = true → sparseGet 0 s.mram.used num ≤ 60 → Completes .wearAllowanceTick s fun t =>
    allowance t num = min 60 (allowance s num + 1)

/-- FAULT_DETECT, FAULT_GRANT, FLT_ACK, ERR_N_MIN_WIDTH_EXPIRY, SUPERVISOR_RESTART, RESTART_COMPLETE and INJECT_REPEAT complete with
these effects (R418, R532 to R541). -/
def Obligations.Faults : Prop :=
  (∀ s src cls w, domainsOff s = false → classCode cls ∈ sourceClasses src → ¬ (25 ≤ src ∧ src ≤ 42 ∧ cls = .cont) →
      Completes (.faultDetect src cls w) s fun t =>
    Faulted s t src (classCode cls) ∧ (cls = .fatal → t.flag SAFE.FB_CAUSE.FATAL = true ∧ (fbActive s = false → AllOnFallback t))
    ∧ (src = 18 ∨ src = 19 ∨ src = 59 → cls = .cont → t.scan.loading = false)
    ∧ (src = 12 → (w = .hostKey → otpKey t 0 = none) ∧ (w = .serviceKey → otpKey t 1 = none) ∧ (w = .safeKey → otpKey t 2 = none)
      ∧ (w = .seal → t.guard.limits.broken = true)))
  ∧ (∀ s n w, domainsOff s = false → n < 18 → isActive s n = true →
    Completes (.faultDetect (25 + n) .cont w) s fun t => EngineLost s t n)
  ∧ (∀ s src cls w, classCode cls ∉ sourceClasses src → exec (.faultDetect src cls w) s = .next s)
  ∧ (∀ s p, domainsOff s = false → s.flt.last < 98 → p < 98 → waitsAt s p = true →
      (∀ q < 98, waitsAt s q = true → (p + 97 - s.flt.last) % 98 ≤ (q + 97 - s.flt.last) % 98) → Completes .faultGrant s fun t =>
    t.flt.last = p
    ∧ (∀ e l, p = 96 → s.flt.jorosh = e :: l → t.flt.jorosh = l ∧ EventQueued s t e)
    ∧ (∀ e l, p = 97 → s.flt.aon = e :: l → t.flt.aon = l ∧ EventQueued s t e)
    ∧ (∀ w, sparseGet none s.flt.real p = some w → p < 96 → 1 ≤ w.cls → w.cls ≤ 3 →
      Granted s t false p (if s.flag (pendBit false w.cls) = true ∧ w.cls < 3 then w.cls + 1 else w.cls)
        (decide (s.flag (pendBit false w.cls) = true ∧ w.cls < 3)) w.lt ∧ sparseGet none t.flt.real p = none
      ∧ t.flt.inj = s.flt.inj)
    ∧ (∀ w, sparseGet none s.flt.real p = none → sparseGet none s.flt.inj p = some w → p < 96 → 1 ≤ w.cls → w.cls ≤ 3 →
      Granted s t true p (if s.flag (pendBit true w.cls) = true ∧ w.cls < 3 then w.cls + 1 else w.cls)
        (decide (s.flag (pendBit true w.cls) = true ∧ w.cls < 3)) w.lt ∧ sparseGet none t.flt.inj p = none
      ∧ t.flt.real = s.flt.real))
  ∧ (∀ s, (∀ p < 98, waitsAt s p = false) → exec .faultGrant s = .next s)
  ∧ (∀ s w, Completes (.fltAck w) s fun t =>
    (∀ c, c = 1 ∨ c = 2 ∨ c = 3 →
      t.flag (pendBit false c) = (s.flag (pendBit false c) && !w.getLsbD (c - 1))
      ∧ t.flag (pendBit true c) = (s.flag (pendBit true c) && !w.getLsbD (c + 3)))
    ∧ (w.getLsbD 8 = true → t.flag FLT.FIRST.VALID = false ∧ t.flag FLT.FIRST.OVERFLOW = false ∧ t.flag FLT.INJ_FIRST.VALID = false
      ∧ t.reg FLT.FIRST_LT_LO.LT = 0 ∧ t.reg FLT.FIRST_LT_HI.LT = 0)
    ∧ (w.getLsbD 8 = false → ∀ f : Field, f.addr = FLT.FIRST.SRC.addr ∨ f.addr = FLT.INJ_FIRST.SRC.addr → f.lo < 32 → t.reg f = s.reg f)
    ∧ (∀ k < 96, t.reg (FLT.COUNT.COUNT k) = s.reg (FLT.COUNT.COUNT k)) ∧ t.evt = s.evt ∧ t.flt.real = s.flt.real
    ∧ (s.flt.errReal % 8 = s.flt.errReal → s.flt.errInj % 8 = s.flt.errInj → w.toNat % 128 = 0x77 → s.flag FLT.STATUS.PEND_FATAL = true →
      errHeld t = s.flt.errMin))
  ∧ (∀ s, exec .errNMinWidthExpiry s = .next { s with flt := { s.flt with errMin := false } })
  ∧ (∀ s inj, domainsOff s = false → s.flt.restartDue = some inj → s.mbx.boxes.length = 8 → Completes .supervisorRestart s fun t =>
    t.flt.restartDue = none ∧ t.boot.jorosh = false
    ∧ (inj = false → s.regIn FLT.CFG.RESTART_MAX 1 15 < (s.flt.restarts.filter (fun r => decide (s.now ≤ r + 4000000000))).length + 1 →
      t.flag FLT.STATUS.SUP_HALTED = true ∧ t.mbx = s.mbx ∧ t.scan = s.scan)
    ∧ (inj = true ∨ (s.flt.restarts.filter (fun r => decide (s.now ≤ r + 4000000000))).length + 1 ≤ s.regIn FLT.CFG.RESTART_MAX 1 15 →
      t.flag FLT.STATUS.RESTARTING = true ∧ Counted s t FLT.STATUS.RESTARTS 1 ∧ t.eng.submitted = none ∧ t.eng.running = none
      ∧ t.eng.latched = none ∧ t.scan = s.scan ∧ t.shd = s.shd ∧ t.guard = s.guard
      ∧ (s.boot.cold = false → t.mbx.sessions = [] ∧ ∀ n < 8, n ∈ s.mbx.accepted ∨ n ∈ s.mbx.rings →
        (t.mb n).phase = .done ∧ leAt (t.mb n).rsp 3 1 = 0x0A)))
  ∧ (∀ s own other, s.flag FLT.STATUS.RESTARTING = true → s.boot.cold = false → s.boot.jorosh = false → domainsOff s = false →
      Completes (.restartComplete own other) s fun t =>
    (∀ slot ver, slot = s.flag SYS.BOOT.SLOT ∧ own = .pass ver ∨ slot ≠ s.flag SYS.BOOT.SLOT ∧ (∃ r, own = .fail r) ∧ other = .pass ver →
      t.boot.jorosh = true ∧ t.boot.fwVer = ver.toNat ∧ t.flag SYS.BOOT.SLOT = slot ∧ t.flag FLT.STATUS.RESTARTING = false
      ∧ t.boot.done = true
      ∧ ∃ e ∈ t.flt.jorosh, e.code = 0x0101 ∧ e.inj = s.boot.injRestart
        ∧ e.args = padTo 16 (toLe 1 (b2n slot) ++ [0, 0, 0] ++ toLe 4 ver.toNat))
    ∧ ((∃ r, own = .fail r) → (∃ r, other = .fail r) → t.flag SYS.BOOT.BOOT_HALT = true ∧ t.flag SAFE.FB_CAUSE.FATAL = true
      ∧ t.boot.jorosh = false ∧ errHeld t = true))
  ∧ (∀ s src cls n l, domainsOff s = false → s.flt.inject = (src, cls, n) :: l → ¬ (25 ≤ src ∧ src ≤ 42 ∧ cls = 2) →
      Completes .injectRepeat s fun t =>
    t.flt.inject = (if n ≤ 1 then l else l ++ [(src, cls, n - 1)])
    ∧ (∀ k < 96, t.reg (FLT.COUNT.COUNT k) = s.reg (FLT.COUNT.COUNT k)) ∧ t.flt.real = s.flt.real
    ∧ (waitsAtDetector src cls = false → Counted s t FLT.INJ_COUNT.COUNT 1
      ∧ ∃ w, sparseGet none t.flt.inj src = some w ∧ cls ≤ w.cls)
    ∧ (waitsAtDetector src cls = true → sparseGet 0 t.flt.injDue src = sparseGet 0 s.flt.injDue src + 1))
  ∧ ∀ s, s.flt.inject = [] → exec .injectRepeat s = .next s

/-- RC_FIELD_READ, REGISTER_WRITE, ALIAS_READ, ALIAS_WRITE, CRC_INIT, CRC_DATA, CRC_DATA8, SPI_READ, SPI_WRITE, SPI_REREAD and
SPI_FRAME_ABORT complete with these effects (R385 to R389, R410, R551 to R559, R563). The order of the checks of an SPI header is the
model's reading (log entry 30). -/
def Obligations.RegisterAccess : Prop :=
  (∀ s (x : Word), Reaches s x.toNat → Completes (.rcFieldRead x) s fun t =>
    (x.toNat ≠ GAL.LUT_DATA.ENTRY.addr → t.io.bus = some (wordNow s x.toNat)
      ∧ ∀ f ∈ fieldsAt x.toNat, t.reg f = if f.access = .rc then 0 else if f.access = .rcExt then f.reset.toNat % 2 ^ f.width else s.reg f)
    ∧ (mbxArea x.toNat = none → fieldsAt x.toNat = [] → (x.toNat < 0xF1000 ∨ 0xF5000 ≤ x.toNat) →
      t.io.bus = some 0 ∧ t.regs = s.regs)
    ∧ (t.pix = s.pix ∧ t.gal = s.gal ∧ t.mbx = s.mbx ∧ t.evt = s.evt))
  ∧ (∀ s (x : Word), aliasOf x.toNat = none → ¬ Reaches s x.toNat →
    exec (.rcFieldRead x) s = .next { s with io := { s.io with bus := none } } ∧ ∀ w, exec (.registerWrite x w) s = .next s)
  ∧ (∀ s (x w : Word), Reaches s x.toNat → PlainWord x.toNat → Completes (.registerWrite x w) s fun t =>
    ∀ f ∈ fieldsAt x.toNat,
      (SoftwareWrites f → t.reg f = fromWord f w) ∧ (IgnoresWrites f → f.addr ≠ SYS.WIGN.BLOCK.addr → t.reg f = s.reg f)
      ∧ (f.access = .rwd → ¬ BlockOn s (x.toNat / 0x10000) → t.reg f = fromWord f w)
      ∧ (f.access = .rwd → BlockOn s (x.toNat / 0x10000) → t.reg f = s.reg f ∧ bit (t.reg SYS.WIGN.BLOCK) (x.toNat / 0x10000) = true))
  ∧ (∀ s w, Reaches s 0x80000 → OrgListed s → MapListed s → Completes (.registerWrite 0x80000 w) s fun t =>
    (s.flag DDRC.CTRL.EN = false → t.flag DDRC.CTRL.EN = w.getLsbD 0 ∧ t.flag DDRC.CTRL.LAT_EN = w.getLsbD 1)
    ∧ (s.flag DDRC.CTRL.EN = true → t.flag DDRC.CTRL.EN = w.getLsbD 0 ∧ t.reg DDRC.CTRL.LAT_EN = s.reg DDRC.CTRL.LAT_EN
      ∧ bit (t.reg SYS.WIGN.BLOCK) 8 = true))
  ∧ (∀ s, Reaches s 0xD0000 → Completes (.registerWrite 0xD0000 3) s fun t =>
    t.flag SCAN.CTRL.EN = true ∧ t.flag SCAN.COMMIT_STATUS.COMMIT_PEND = true)
  ∧ (∀ s (x w : Word) n o, Reaches s x.toNat → mbxArea x.toNat = some (n, false, o) → s.mbx.boxes.length = 8 →
      Completes (.registerWrite x w) s fun t =>
    ((s.mb n).busy = false → (t.mb n).req = putAt (s.mb n).req o (toLe 4 w.toNat) ∧ (t.mb n).phase = (s.mb n).phase ∧ t.regs = s.regs)
    ∧ ((s.mb n).busy = true → t.mbx = s.mbx ∧ t.flag MBX.STATUS.WR_IGN = true))
  ∧ (∀ s (x : Word) a k, aliasOf x.toNat = some (a, k) → Reaches s a → a ≠ GAL.LUT_DATA.ENTRY.addr → Completes (.aliasRead x) s fun t =>
    t.io.bus = some (BitVec.ofNat 32 (b2n ((wordNow s a).getLsbD k)))
    ∧ ∀ f ∈ fieldsAt a, (f.access = .rc → holdsBit f k = true →
        ∀ j < f.width, bit (t.reg f) j = (bit (s.reg f) j && decide (j ≠ k - f.lo)))
      ∧ (f.access ≠ .rc ∨ holdsBit f k = false → t.reg f = s.reg f))
  ∧ (∀ s (x w : Word) a k, aliasOf x.toNat = some (a, k) → Reaches s a → a / 0x10000 ≠ 1 → mbxArea a = none →
      a ≠ GAL.LUT_DATA.ENTRY.addr → Completes (.aliasWrite x w) s fun t =>
    ∀ f ∈ fieldsAt a, holdsBit f k = true → blockEn (a / 0x10000) ≠ some f →
      (SoftwareWrites f ∨ f.access = .rwd ∧ ¬ BlockOn s (a / 0x10000) →
        (∀ j < f.width, bit (t.reg f) j = if j = k - f.lo then w.getLsbD 0 else bit (s.reg f) j)
        ∧ ∀ g ∈ fieldsAt a, g ≠ f → t.reg g = s.reg g)
      ∧ (f.access = .rwd → BlockOn s (a / 0x10000) → t.reg f = s.reg f ∧ bit (t.reg SYS.WIGN.BLOCK) (a / 0x10000) = true)
      ∧ (IgnoresWrites f → t = s))
  ∧ (∀ s (x w : Word), aliasOf x.toNat = some (FLT.ACK.CLASS.addr, 1) → Reaches s FLT.ACK.CLASS.addr → w.getLsbD 0 = true →
    exec (.aliasWrite x w) s = exec (.fltAck 2) s)
  ∧ (∀ s (x w : Word), aliasOf x.toNat = some (SCAN.CTRL.COMMIT.addr, 1) → Reaches s SCAN.CTRL.COMMIT.addr → w.getLsbD 0 = true →
    exec (.aliasWrite x w) s = exec .scanCommitBit s)
  ∧ (∀ s u w, u < 4 → Reaches s 0x70000 → s.flag CRC.CTRL.EN = true →
    (Completes (.crcInit u w) s fun t =>
      t.reg (CRC.U.RUNNING u) = (0xFFFFFFFF ^^^ s.reg (CRC.U.FOLD u)) % 2 ^ 32 ∧ t.reg (CRC.U.COUNT u) = 0)
    ∧ (Completes (.crcData u w) s fun t =>
      t.reg (CRC.U.RUNNING u) = (crcRun (BitVec.ofNat 32 (s.reg (CRC.U.RUNNING u))) (toLe 4 w.toNat)).toNat
      ∧ t.reg (CRC.U.COUNT u) = (s.reg (CRC.U.COUNT u) + 4) % 2 ^ 32 ∧ t.reg (CRC.U.FOLD u) = s.reg (CRC.U.FOLD u))
    ∧ Completes (.crcData8 u w) s fun t =>
      t.reg (CRC.U.RUNNING u) = (crcRun (BitVec.ofNat 32 (s.reg (CRC.U.RUNNING u))) (toLe 1 w.toNat)).toNat
      ∧ t.reg (CRC.U.COUNT u) = (s.reg (CRC.U.COUNT u) + 1) % 2 ^ 32)
  ∧ (∀ s u w c, u < 4 → Reaches s 0x70000 → s.flag CRC.CTRL.EN = false → c = Instr.crcInit u w ∨ c = Instr.crcData u w ∨ c = Instr.crcData8 u w →
    Completes c s fun t => bit (t.reg SYS.WIGN.BLOCK) 7 = true ∧ t.reg (CRC.U.RUNNING u) = s.reg (CRC.U.RUNNING u)
      ∧ t.reg (CRC.U.COUNT u) = s.reg (CRC.U.COUNT u))
  ∧ (∀ s x len hcrc, spiUp s = true → Completes (.spiRead x len hcrc) s fun t =>
    (hcrc ≠ headerCrc 1 len x → OnlyMiso s t ∧ t.io.miso = readBytes 1 0 len x [] ∧ t.io.reread = s.io.reread)
    ∧ (hcrc = headerCrc 1 len x → t.io.reread = some t.io.miso)
    ∧ (hcrc = headerCrc 1 len x → len = 0 ∨ 64 < len → OnlyMiso s t ∧ t.io.miso = readBytes 5 0 len x [])
    ∧ (hcrc = headerCrc 1 len x → 0 < len → len ≤ 64 → burstOk x.toNat len = false → OnlyMiso s t ∧ t.io.miso = readBytes 4 0 len x [])
    ∧ (hcrc = headerCrc 1 len x → 0 < len → len ≤ 64 → burstOk x.toNat len = true →
      t.io.miso = readBytes (if (readBurst s x.toNat len).2.length = len then 0 else 3) (readBurst s x.toNat len).2.length len x
        (readBurst s x.toNat len).2
      ∧ t.regs = (readBurst s x.toNat len).1.regs))
  ∧ (∀ s x len hcrc data dcrc, spiUp s = true → Completes (.spiWrite x len hcrc data dcrc) s fun t =>
    t.io.reread = s.io.reread
    ∧ (hcrc ≠ headerCrc 2 len x → OnlyMiso s t ∧ t.io.miso = [1, 0, 0, 0])
    ∧ (hcrc = headerCrc 2 len x → len = 0 ∨ 64 < len → OnlyMiso s t ∧ t.io.miso = [5, 0, 0, 0])
    ∧ (hcrc = headerCrc 2 len x → 0 < len → len ≤ 64 → burstOk x.toNat len = false → OnlyMiso s t ∧ t.io.miso = [4, 0, 0, 0])
    ∧ (hcrc = headerCrc 2 len x → 0 < len → len ≤ 64 → burstOk x.toNat len = true → data.length = len →
      (dcrc ≠ crc32c x (data.flatMap (fun w => toLe 4 w.toNat)) → OnlyMiso s t ∧ t.io.miso = [2, 0, 0, 0])
      ∧ (dcrc = crc32c x (data.flatMap (fun w => toLe 4 w.toNat)) →
        t = { (writeBurst s x.toNat data).1 with io := { (writeBurst s x.toNat data).1.io with miso := t.io.miso } }
        ∧ t.io.miso = toLe 1 (if (writeBurst s x.toNat data).2 = len then 0 else 3) ++ toLe 1 (writeBurst s x.toNat data).2 ++ [0, 0])))
  ∧ (∀ s (x w : Word), exec (.registerWrite x w) s = .next (writeBurst s x.toNat [w]).1)
  ∧ (∀ s len x hcrc, spiUp s = true → Completes (.spiReread len x hcrc) s fun t =>
    OnlyMiso s t ∧ t.io.reread = s.io.reread
    ∧ (hcrc = headerCrc 3 len x → t.io.miso = s.io.reread.getD [7, 0, 0, 0]) ∧ (hcrc ≠ headerCrc 3 len x → t.io.miso = [1, 0, 0, 0]))
  ∧ (∀ s x len hcrc fetched, (spiUp s = true → exec (.spiFrameAbort x len hcrc false fetched) s = .next s)
    ∧ (spiUp s = true → hcrc = headerCrc 1 len x → 0 < len → len ≤ 64 → burstOk x.toNat len = true →
      Completes (.spiFrameAbort x len hcrc true fetched) s fun t =>
        t = (readBurst s x.toNat (min fetched len)).1 ∧ t.io.reread = s.io.reread))
  ∧ ∀ s x len hcrc data dcrc, spiUp s = false →
    (Completes (.spiRead x len hcrc) s fun t => OnlyMiso s t ∧ t.io.miso = List.replicate (8 + 4 * len) 0xFF)
    ∧ Completes (.spiWrite x len hcrc data dcrc) s fun t => OnlyMiso s t ∧ t.io.miso = List.replicate 4 0xFF

/-- VSYS33_POWER_ON, SUPPLY_FAIL, RESET_N_ASSERT, RESET_N_RELEASE, HARD_TRIP and HARD_TRIP_RELEASE complete with these effects (R487,
R572 to R576, R589). -/
def Obligations.ResetsAndHardTrip : Prop :=
  (∀ s, Completes .vsys33PowerOn s fun t => ResetLeaves [] s t ∧ t.reg SYS.RESET_CAUSE.CAUSE = 0 ∧ t.thm.trip = false ∧ t.boot.cold = true
    ∧ RomLight s t)
  ∧ (∀ s, s.power = 0 ∨ s.power = 1 → domainsHeld s = false → Completes .supplyFail s fun t =>
    ResetLeaves resetRecords s t ∧ t.reg SYS.RESET_CAUSE.CAUSE = 2 ∧ t.boot.cold = true ∧ RomLight s t)
  ∧ (∀ s, s.boot.held = false → Completes .resetNAssert s fun t =>
    ResetLeaves resetRecords s t ∧ t.boot.held = true ∧ (s.thm.trip = false → RomLight s t))
  ∧ (∀ s n, s.boot.held = true → Completes (.resetNRelease n) s fun t =>
    t.boot.held = false ∧ t.boot.cold = true ∧ t.reg SYS.RESET_CAUSE.CAUSE = 1
    ∧ (16000000 < n → t.flag SYS.RESET_CAUSE.RESET_LONG = true ∧ t.reg SYS.RESET_CAUSE.HELD_S = min 65535 (n / 16000000)
      ∧ t.boot.longDue = true)
    ∧ (n ≤ 16000000 → t.reg SYS.RESET_CAUSE.RESET_LONG = s.reg SYS.RESET_CAUSE.RESET_LONG
      ∧ t.reg SYS.RESET_CAUSE.HELD_S = s.reg SYS.RESET_CAUSE.HELD_S ∧ t.boot.longDue = s.boot.longDue)
    ∧ t.mram = s.mram ∧ t.scan = s.scan)
  ∧ (∀ s sensor, sensor < 68 → s.thm.trip = false → Completes (.hardTrip sensor) s fun t =>
    (ResetLeaves (resetRecords.drop 2) s (t.setReg THM.HT_COUNT.COUNT 0 |>.setReg THM.STATUS.HT_LAST 0))
    ∧ Counted s t THM.HT_COUNT.COUNT 1 ∧ t.flag THM.STATUS.HT_LAST = true ∧ t.thm.trip = true ∧ t.boot.tripDue = sensor + 1
    ∧ ∀ g ∈ t.scan.groups, g.drive = .dark)
  ∧ ∀ s, s.thm.trip = true → Completes .hardTripRelease s fun t =>
    t.thm.trip = false ∧ t.boot.cold = true ∧ t.reg SYS.RESET_CAUSE.CAUSE = 4 ∧ t.reg THM.HT_COUNT.COUNT = s.reg THM.HT_COUNT.COUNT
    ∧ (s.pins.lowbeam = true → AllOnFallback t ∧ t.flag SAFE.FB_CAUSE.LOWBEAM = true) ∧ (s.pins.lowbeam = false → t.scan = s.scan)

/-- COLD_BOOT completes with these effects (R500, R577 to R583, R586). The whole path is one command, as its row says. -/
def Obligations.ColdBoot : Prop :=
  (∀ s e, mayBoot s = true →
      directory s = none ∨ (∃ r1 r2 r3 r4, e.slotA = .fail r1 ∧ e.slotB = .fail r2 ∧ e.slotA2 = .fail r3 ∧ e.slotB2 = .fail r4) →
      Completes (.coldBoot e) s fun t =>
    t.flag SYS.BOOT.BOOT_HALT = true ∧ t.flag SAFE.FB_CAUSE.FATAL = true ∧ errHeld t = true ∧ t.boot.jorosh = false
    ∧ t.mbx = s.mbx ∧ t.mram = s.mram ∧ (fbActive s = false → AllOnFallback t)
    ∧ (directory s ≠ none → t.flag SYS.BOOT.A_FAIL = true ∧ t.flag SYS.BOOT.B_FAIL = true ∧ t.reg SYS.BOOT.FLASH_MODE = 0))
  ∧ (∀ s e a slot ver, mayBoot s = true → directory s = some a →
      SlotChosen (prefersB s a) e slot ver → Completes (.coldBoot e) s fun t =>
    t.boot.jorosh = true ∧ t.boot.done = true ∧ t.boot.cold = false ∧ t.boot.fwVer = ver.toNat ∧ t.power = 0
    ∧ t.flag SYS.BOOT.SLOT = slot ∧ t.flag SYS.BOOT.PREFERRED = (slot == prefersB s a)
    ∧ t.flag SYS.BOOT.DIR_COPY = (a != 0) ∧ t.flag CLK.STATUS.PLL_LOCK = true ∧ t.flag FLT.STATUS.RESTARTING = false
    ∧ (slot ≠ prefersB s a → Faulted s t 65 1)
    ∧ (∀ n ∈ [4, 8, 9, 10, 16, 17, 18, 19, 20], t.flag (CLK.GATE.EN n) = true)
    ∧ (∃ v ∈ t.flt.jorosh, v.code = 0x0101 ∧ v.args = padTo 16 (toLe 1 (b2n slot) ++ [0, 0, 0] ++ toLe 4 ver.toNat))
    ∧ (s.boot.longDue = true → t.boot.longDue = false ∧ ∃ v ∈ t.flt.jorosh, v.code = 0x0103
      ∧ v.args = padTo 16 (toLe 2 (s.reg SYS.RESET_CAUSE.HELD_S)))
    ∧ (s.boot.tripDue ≠ 0 → t.boot.tripDue = 0 ∧ Faulted s t 54 2 ∧ ∃ v ∈ t.flt.jorosh, v.code = 0x0106
      ∧ leAt v.args 0 2 = 3 + 256 * ((s.boot.tripDue - 1) % 256))
    ∧ (t.flag DDRC.STATUS.READY = true → (e.dramGood = true ∨ e.dramGoodDefault = true) ∧ t.flag DDRC.CTRL.EN = true)
    ∧ (t.flag DDRC.STATUS.READY = false → t.flag DDRC.STATUS.DRAM_FAIL = true ∧ Faulted s t 56 2
      ∧ t.reg SCAN.MODE.MODE = 7 ∧ t.flag SCAN.CTRL.EN = true)
    ∧ (e.dramGood = false → e.dramGoodDefault = false → t.flag DDRC.STATUS.READY = false))
  ∧ ∀ s e, mayBoot s = false → exec (.coldBoot e) s = .next s
end

