-- ==== Sys2Proof/Laws/FrameBase.lean ====
section
/-! SUPPORT. FrameBase.lean: what setting a register field does to the stores, and how frames pass through conditionals and folds. -/

namespace Sys2Proof.Machine

set_option Elab.async false

/-! ### Sparse arrays -/

theorem sparseGet_erase {α : Type} (d : α) (m : Sparse α) (k j : Nat) (h : k ≠ j) :
    sparseGet d (sparseErase m k) j = sparseGet d m j := by
  induction m with
  | nil => rfl
  | cons p t ih =>
    obtain ⟨n, v⟩ := p
    by_cases hn : n = k
    · subst hn; simp [sparseErase, sparseGet, ih, h]
    · simp [sparseErase, sparseGet, hn, ih]

theorem sparseGet_erase_self {α : Type} (d : α) (m : Sparse α) (k : Nat) : sparseGet d (sparseErase m k) k = d := by
  induction m with
  | nil => rfl
  | cons p t ih =>
    obtain ⟨n, v⟩ := p
    by_cases hn : n = k
    · simp [sparseErase, hn, ih]
    · simp [sparseErase, sparseGet, hn, ih]

theorem sparseGet_insert {α : Type} (d : α) (m : Sparse α) (k j : Nat) (v : α) (h : k ≠ j) :
    sparseGet d (sparseInsert k v m) j = sparseGet d m j := by
  induction m with
  | nil => simp [sparseInsert, sparseGet, h]
  | cons p t ih =>
    obtain ⟨n, w⟩ := p
    simp only [sparseInsert]
    split
    · simp [sparseGet, h]
    · simp [sparseGet, ih]

theorem sparseGet_insert_self {α : Type} (d : α) (m : Sparse α) (k : Nat) (v : α) (hm : ∀ p ∈ m, p.1 ≠ k) :
    sparseGet d (sparseInsert k v m) k = v := by
  induction m with
  | nil => simp [sparseInsert, sparseGet]
  | cons p t ih =>
    obtain ⟨n, w⟩ := p
    have hn : n ≠ k := hm _ List.mem_cons_self
    simp only [sparseInsert]
    split
    · simp [sparseGet]
    · simp [sparseGet, hn, ih (fun q hq => hm q (List.mem_cons_of_mem _ hq))]

theorem mem_sparseErase {α : Type} (m : Sparse α) (k : Nat) : ∀ p ∈ sparseErase m k, p.1 ≠ k := by
  induction m with
  | nil => simp [sparseErase]
  | cons p t ih =>
    obtain ⟨n, v⟩ := p
    by_cases hn : n = k
    · simpa [sparseErase, hn] using ih
    · simpa [sparseErase, hn] using ih

/-- Read after write: the value written. -/
@[simp] theorem sparseGet_set_self {α : Type} [DecidableEq α] (d : α) (m : Sparse α) (k : Nat) (v : α) :
    sparseGet d (sparseSet d m k v) k = v := by
  unfold sparseSet
  split
  · next h => rw [h, sparseGet_erase_self]
  · exact sparseGet_insert_self d _ k v (mem_sparseErase m k)

/-- A write leaves every other key alone. -/
theorem sparseGet_set_ne {α : Type} [DecidableEq α] (d : α) (m : Sparse α) (k j : Nat) (v : α) (h : k ≠ j) :
    sparseGet d (sparseSet d m k v) j = sparseGet d m j := by
  unfold sparseSet
  split
  · exact sparseGet_erase d m k j h
  · rw [sparseGet_insert d _ k j v h, sparseGet_erase d m k j h]

theorem sparseSorted_erase {α : Type} (m : Sparse α) (k lo : Nat) (h : sparseSorted lo m = true) :
    sparseSorted lo (sparseErase m k) = true := by
  induction m generalizing lo with
  | nil => rfl
  | cons p t ih =>
    obtain ⟨n, v⟩ := p
    simp only [sparseSorted, Bool.and_eq_true, decide_eq_true_eq] at h
    by_cases hn : n = k
    · simp only [sparseErase, hn, if_true]
      refine ih lo ?_
      exact sparseSorted_mono h.2 (by omega)
    · simp [sparseErase, sparseSorted, hn, h.1, ih _ h.2]
where
  sparseSorted_mono {α : Type} {m : Sparse α} {a b : Nat} (h : sparseSorted a m = true) (hab : b ≤ a) :
      sparseSorted b m = true := by
    cases m with
    | nil => rfl
    | cons p t =>
      obtain ⟨n, v⟩ := p
      simp only [sparseSorted, Bool.and_eq_true, decide_eq_true_eq] at h ⊢
      exact ⟨by omega, h.2⟩

theorem sparseSorted_insert {α : Type} (m : Sparse α) (k lo : Nat) (v : α) (h : sparseSorted lo m = true) (hk : lo ≤ k)
    (hm : ∀ p ∈ m, p.1 ≠ k) : sparseSorted lo (sparseInsert k v m) = true := by
  induction m generalizing lo with
  | nil => simp [sparseInsert, sparseSorted, hk]
  | cons p t ih =>
    obtain ⟨n, w⟩ := p
    have hn : n ≠ k := hm _ List.mem_cons_self
    simp only [sparseSorted, Bool.and_eq_true, decide_eq_true_eq] at h
    simp only [sparseInsert]
    split
    · next hlt => simp [sparseSorted, hk, h.2]; omega
    · next hlt =>
      simp only [sparseSorted, Bool.and_eq_true, decide_eq_true_eq]
      exact ⟨h.1, ih (n + 1) h.2 (by omega) (fun q hq => hm q (List.mem_cons_of_mem _ hq))⟩

theorem all_sparseErase {α : Type} (q : Nat × α → Bool) (m : Sparse α) (k : Nat) (h : m.all q = true) :
    (sparseErase m k).all q = true := by
  induction m with
  | nil => rfl
  | cons p t ih =>
    obtain ⟨n, v⟩ := p
    simp only [List.all_cons, Bool.and_eq_true] at h
    by_cases hn : n = k
    · simp [sparseErase, hn, ih h.2]
    · simp [sparseErase, hn, ih h.2, h.1]

theorem all_sparseInsert {α : Type} (q : Nat × α → Bool) (m : Sparse α) (k : Nat) (v : α) (h : m.all q = true)
    (hq : q (k, v) = true) : (sparseInsert k v m).all q = true := by
  induction m with
  | nil => simp [sparseInsert, hq]
  | cons p t ih =>
    obtain ⟨n, w⟩ := p
    simp only [List.all_cons, Bool.and_eq_true] at h
    simp only [sparseInsert]
    split
    · simp [hq, h.1, h.2]
    · simp [h.1, ih h.2]

/-- Every write keeps the canonical form. -/
theorem sparseWf_set {α : Type} [DecidableEq α] (d : α) (m : Sparse α) (k : Nat) (v : α) (h : sparseWf d m = true) :
    sparseWf d (sparseSet d m k v) = true := by
  simp only [sparseWf, Bool.and_eq_true] at h ⊢
  unfold sparseSet
  split
  · exact ⟨sparseSorted_erase m k 0 h.1, all_sparseErase _ m k h.2⟩
  · next hv =>
    exact ⟨sparseSorted_insert _ k 0 v (sparseSorted_erase m k 0 h.1) (by omega) (mem_sparseErase m k),
      all_sparseInsert _ _ k v (all_sparseErase _ m k h.2) (by simpa using hv)⟩

/-- Writing bytes keeps a memory's canonical form. -/
theorem cellsPut_wf (d : Byte) (m : List Host.Cell) (a : Nat) (v : List Byte) (h : Memory.wf d m) :
    Memory.wf d (cellsPut d m a v) := by
  induction v generalizing m a with
  | nil => exact h
  | cons b t ih => exact ih _ _ (sparseWf_set d m a b h)

/-- A write of bytes leaves every byte outside it alone. -/
theorem cellsPut_ne (d : Byte) (m : List Host.Cell) (a : Nat) (v : List Byte) (x : Nat) (h : x < a ∨ a + v.length ≤ x) :
    sparseGet d (cellsPut d m a v) x = sparseGet d m x := by
  induction v generalizing m a with
  | nil => rfl
  | cons b t ih =>
    simp only [List.length_cons] at h
    rw [cellsPut, ih _ _ (by omega), sparseGet_set_ne d m a x b (by omega)]

/-- The bytes written are read back. -/
theorem cellsPut_read (d : Byte) (m : List Host.Cell) (a : Nat) (v : List Byte) (j : Nat) (h : j < v.length) :
    sparseGet d (cellsPut d m a v) (a + j) = v[j] := by
  induction v generalizing m a j with
  | nil => simp at h
  | cons b t ih =>
    cases j with
    | zero => rw [cellsPut, cellsPut_ne _ _ _ _ _ (by omega)]; simp
    | succ j =>
      have := ih (sparseSet d m a b) (a + 1) j (by simpa using h)
      simpa [cellsPut, Nat.add_assoc, Nat.add_comm 1 j] using this

/-! ### Register fields -/

/-- The word at place `k` of a register store. -/
def wordAt (m : Sparse Word) (k : Nat) : Word := sparseGet 0 m k

theorem reg_eq_word (s : State) (f : Field) : s.reg f = (wordAt s.regs (fieldKey f) ^^^ f.reset).toNat := rfl


/-- A field reads back what was set, cut to its width. -/
theorem reg_setReg_self (s : State) (f : Field) (v : Nat) (hw : f.width ≤ 32) : (s.setReg f v).reg f = v % 2 ^ f.width := by
  have : v % 2 ^ f.width < 2 ^ 32 :=
    Nat.lt_of_lt_of_le (Nat.mod_lt _ (Nat.two_pow_pos _)) (Nat.pow_le_pow_right (by omega) hw)
  simp [State.reg, State.setReg]
  simpa using this

/-- Setting a field leaves every other place of the store alone. -/
@[simp] theorem setReg_word {k : Nat} (s : State) (f : Field) (v : Nat) (h : fieldKey f ≠ k) :
    wordAt (s.setReg f v).regs k = wordAt s.regs k := sparseGet_set_ne 0 s.regs _ _ _ h

/-- Setting a field leaves every other field alone. -/
theorem reg_setReg_ne (s : State) (f g : Field) (v : Nat) (h : fieldKey f ≠ fieldKey g) : (s.setReg f v).reg g = s.reg g := by
  simp only [reg_eq_word, setReg_word s f v h]

theorem reg_eq_of_word {s t : State} {f : Field} (h : wordAt t.regs (fieldKey f) = wordAt s.regs (fieldKey f)) :
    t.reg f = s.reg f := by simp only [reg_eq_word, h]

@[simp] theorem setFlag_word {k : Nat} (s : State) (f : Field) (b : Bool) (h : fieldKey f ≠ k) :
    wordAt (s.setFlag f b).regs k = wordAt s.regs k := setReg_word s f _ h

@[simp] theorem bumpBy_word {k : Nat} (s : State) (f : Field) (n : Nat) (h : fieldKey f ≠ k) :
    wordAt (s.bumpBy f n).regs k = wordAt s.regs k := setReg_word s f _ h

@[simp] theorem bump_word {k : Nat} (s : State) (f : Field) (h : fieldKey f ≠ k) :
    wordAt (s.bump f).regs k = wordAt s.regs k := setReg_word s f _ h

@[simp] theorem wrapBy_word {k : Nat} (s : State) (f : Field) (n : Nat) (h : fieldKey f ≠ k) :
    wordAt (s.wrapBy f n).regs k = wordAt s.regs k := setReg_word s f _ h

@[simp] theorem orReg_word {k : Nat} (s : State) (f : Field) (n : Nat) (h : fieldKey f ≠ k) :
    wordAt (s.orReg f n).regs k = wordAt s.regs k := setReg_word s f _ h

/-! ### Places outside a list of fields -/

theorem outside_nil (k : Nat) : Outside [] k ↔ True := by simp [Outside]

theorem outside_cons (f : Field) (l : List Field) (k : Nat) : Outside (f :: l) k ↔ fieldKey f ≠ k ∧ Outside l k := by
  simp [Outside]

theorem outside_append (l m : List Field) (k : Nat) : Outside (l ++ m) k ↔ Outside l k ∧ Outside m k := by
  simp [Outside, or_imp, forall_and]

theorem Outside.mono {l m : List Field} {k : Nat} (h : Outside m k) (hs : l.all (fun f => m.any (fun g => fieldKey f == fieldKey g))) :
    Outside l k := by
  intro f hf e
  have := List.all_eq_true.mp hs f hf
  obtain ⟨g, hg, hk⟩ := List.any_eq_true.mp this
  exact h g hg ((beq_iff_eq.mp hk).symm.trans e)

theorem outside_allOf (n : Nat) (f : Nat → Field) (k : Nat) (hn : 0 < n) (hf : ∀ i, f (i % n) = f i) :
    Outside (allOf n f) k ↔ ∀ i, fieldKey (f i) ≠ k := by
  constructor
  · intro h i
    rw [← hf i]
    exact h _ (List.mem_map_of_mem (List.mem_range.mpr (Nat.mod_lt _ hn)))
  · intro h g hg
    obtain ⟨i, _, rfl⟩ := List.mem_map.mp hg
    exact h i

theorem outside_CLK_GATE_EN (k : Nat) : Outside (allOf 21 CLK.GATE.EN) k ↔ ∀ i, fieldKey (CLK.GATE.EN i) ≠ k :=
  outside_allOf _ _ _ (by omega) (fun i => by simp [CLK.GATE.EN])
theorem outside_SCAN_IREF (k : Nat) : Outside (allOf 64 SCAN.IREF) k ↔ ∀ i, fieldKey (SCAN.IREF i) ≠ k :=
  outside_allOf _ _ _ (by omega) (fun i => by simp [SCAN.IREF])
theorem outside_GAL_L_CTRL_EN (k : Nat) : Outside (allOf 7 GAL.L.CTRL.EN) k ↔ ∀ i, fieldKey (GAL.L.CTRL.EN i) ≠ k :=
  outside_allOf _ _ _ (by omega) (fun i => by simp [GAL.L.CTRL.EN])
theorem outside_GAL_L_CTRL_FORMAT (k : Nat) : Outside (allOf 7 GAL.L.CTRL.FORMAT) k ↔ ∀ i, fieldKey (GAL.L.CTRL.FORMAT i) ≠ k :=
  outside_allOf _ _ _ (by omega) (fun i => by simp [GAL.L.CTRL.FORMAT])
theorem outside_GAL_L_CTRL_BLEND (k : Nat) : Outside (allOf 7 GAL.L.CTRL.BLEND) k ↔ ∀ i, fieldKey (GAL.L.CTRL.BLEND i) ≠ k :=
  outside_allOf _ _ _ (by omega) (fun i => by simp [GAL.L.CTRL.BLEND])
theorem outside_GAL_L_CTRL_PRE_LUT_EN (k : Nat) : Outside (allOf 7 GAL.L.CTRL.PRE_LUT_EN) k ↔ ∀ i, fieldKey (GAL.L.CTRL.PRE_LUT_EN i) ≠ k :=
  outside_allOf _ _ _ (by omega) (fun i => by simp [GAL.L.CTRL.PRE_LUT_EN])
theorem outside_GAL_L_CTRL_STATIC (k : Nat) : Outside (allOf 7 GAL.L.CTRL.STATIC) k ↔ ∀ i, fieldKey (GAL.L.CTRL.STATIC i) ≠ k :=
  outside_allOf _ _ _ (by omega) (fun i => by simp [GAL.L.CTRL.STATIC])
theorem outside_GAL_L_CTRL_SAFETY (k : Nat) : Outside (allOf 7 GAL.L.CTRL.SAFETY) k ↔ ∀ i, fieldKey (GAL.L.CTRL.SAFETY i) ≠ k :=
  outside_allOf _ _ _ (by omega) (fun i => by simp [GAL.L.CTRL.SAFETY])
theorem outside_GAL_L_CTRL_CA (k : Nat) : Outside (allOf 7 GAL.L.CTRL.CA) k ↔ ∀ i, fieldKey (GAL.L.CTRL.CA i) ≠ k :=
  outside_allOf _ _ _ (by omega) (fun i => by simp [GAL.L.CTRL.CA])
theorem outside_GAL_L_POS_X (k : Nat) : Outside (allOf 7 GAL.L.POS.X) k ↔ ∀ i, fieldKey (GAL.L.POS.X i) ≠ k :=
  outside_allOf _ _ _ (by omega) (fun i => by simp [GAL.L.POS.X])
theorem outside_GAL_L_POS_Y (k : Nat) : Outside (allOf 7 GAL.L.POS.Y) k ↔ ∀ i, fieldKey (GAL.L.POS.Y i) ≠ k :=
  outside_allOf _ _ _ (by omega) (fun i => by simp [GAL.L.POS.Y])
theorem outside_GAL_L_SIZE_W (k : Nat) : Outside (allOf 7 GAL.L.SIZE.W) k ↔ ∀ i, fieldKey (GAL.L.SIZE.W i) ≠ k :=
  outside_allOf _ _ _ (by omega) (fun i => by simp [GAL.L.SIZE.W])
theorem outside_GAL_L_SIZE_H (k : Nat) : Outside (allOf 7 GAL.L.SIZE.H) k ↔ ∀ i, fieldKey (GAL.L.SIZE.H i) ≠ k :=
  outside_allOf _ _ _ (by omega) (fun i => by simp [GAL.L.SIZE.H])
theorem outside_GAL_L_STRIDE_STRIDE (k : Nat) : Outside (allOf 7 GAL.L.STRIDE.STRIDE) k ↔ ∀ i, fieldKey (GAL.L.STRIDE.STRIDE i) ≠ k :=
  outside_allOf _ _ _ (by omega) (fun i => by simp [GAL.L.STRIDE.STRIDE])
theorem outside_GAL_L_CONST_I_CONST_I (k : Nat) : Outside (allOf 7 GAL.L.CONST_I.CONST_I) k ↔ ∀ i, fieldKey (GAL.L.CONST_I.CONST_I i) ≠ k :=
  outside_allOf _ _ _ (by omega) (fun i => by simp [GAL.L.CONST_I.CONST_I])
theorem outside_GAL_L_ADDR_LO_ADDR (k : Nat) : Outside (allOf 7 GAL.L.ADDR_LO.ADDR) k ↔ ∀ i, fieldKey (GAL.L.ADDR_LO.ADDR i) ≠ k :=
  outside_allOf _ _ _ (by omega) (fun i => by simp [GAL.L.ADDR_LO.ADDR])
theorem outside_GAL_L_ADDR_HI_ADDR (k : Nat) : Outside (allOf 7 GAL.L.ADDR_HI.ADDR) k ↔ ∀ i, fieldKey (GAL.L.ADDR_HI.ADDR i) ≠ k :=
  outside_allOf _ _ _ (by omega) (fun i => by simp [GAL.L.ADDR_HI.ADDR])
theorem outside_GAL_L_NEXT_LO_NEXT (k : Nat) : Outside (allOf 7 GAL.L.NEXT_LO.NEXT) k ↔ ∀ i, fieldKey (GAL.L.NEXT_LO.NEXT i) ≠ k :=
  outside_allOf _ _ _ (by omega) (fun i => by simp [GAL.L.NEXT_LO.NEXT])
theorem outside_GAL_L_NEXT_HI_NEXT (k : Nat) : Outside (allOf 7 GAL.L.NEXT_HI.NEXT) k ↔ ∀ i, fieldKey (GAL.L.NEXT_HI.NEXT i) ≠ k :=
  outside_allOf _ _ _ (by omega) (fun i => by simp [GAL.L.NEXT_HI.NEXT])
theorem outside_GAL_L_NEXT_CRC_NEXT_CRC (k : Nat) : Outside (allOf 7 GAL.L.NEXT_CRC.NEXT_CRC) k ↔ ∀ i, fieldKey (GAL.L.NEXT_CRC.NEXT_CRC i) ≠ k :=
  outside_allOf _ _ _ (by omega) (fun i => by simp [GAL.L.NEXT_CRC.NEXT_CRC])
theorem outside_GAL_L_FLIP_ARM (k : Nat) : Outside (allOf 7 GAL.L.FLIP.ARM) k ↔ ∀ i, fieldKey (GAL.L.FLIP.ARM i) ≠ k :=
  outside_allOf _ _ _ (by omega) (fun i => by simp [GAL.L.FLIP.ARM])
theorem outside_GAL_L_FLIP_FENCE_EN (k : Nat) : Outside (allOf 7 GAL.L.FLIP.FENCE_EN) k ↔ ∀ i, fieldKey (GAL.L.FLIP.FENCE_EN i) ≠ k :=
  outside_allOf _ _ _ (by omega) (fun i => by simp [GAL.L.FLIP.FENCE_EN])
theorem outside_GAL_L_FLIP_FENCE_SEL (k : Nat) : Outside (allOf 7 GAL.L.FLIP.FENCE_SEL) k ↔ ∀ i, fieldKey (GAL.L.FLIP.FENCE_SEL i) ≠ k :=
  outside_allOf _ _ _ (by omega) (fun i => by simp [GAL.L.FLIP.FENCE_SEL])
theorem outside_GAL_L_FLIP_RETIRE_EN (k : Nat) : Outside (allOf 7 GAL.L.FLIP.RETIRE_EN) k ↔ ∀ i, fieldKey (GAL.L.FLIP.RETIRE_EN i) ≠ k :=
  outside_allOf _ _ _ (by omega) (fun i => by simp [GAL.L.FLIP.RETIRE_EN])
theorem outside_GAL_L_FLIP_RETIRE_SEL (k : Nat) : Outside (allOf 7 GAL.L.FLIP.RETIRE_SEL) k ↔ ∀ i, fieldKey (GAL.L.FLIP.RETIRE_SEL i) ≠ k :=
  outside_allOf _ _ _ (by omega) (fun i => by simp [GAL.L.FLIP.RETIRE_SEL])
theorem outside_GAL_L_FENCE_VAL_FENCE_VAL (k : Nat) : Outside (allOf 7 GAL.L.FENCE_VAL.FENCE_VAL) k ↔ ∀ i, fieldKey (GAL.L.FENCE_VAL.FENCE_VAL i) ≠ k :=
  outside_allOf _ _ _ (by omega) (fun i => by simp [GAL.L.FENCE_VAL.FENCE_VAL])
theorem outside_GAL_L_CRC_ACT_CRC_ACT (k : Nat) : Outside (allOf 7 GAL.L.CRC_ACT.CRC_ACT) k ↔ ∀ i, fieldKey (GAL.L.CRC_ACT.CRC_ACT i) ≠ k :=
  outside_allOf _ _ _ (by omega) (fun i => by simp [GAL.L.CRC_ACT.CRC_ACT])
theorem outside_GAL_L_CRC_EXP_CRC_EXP (k : Nat) : Outside (allOf 7 GAL.L.CRC_EXP.CRC_EXP) k ↔ ∀ i, fieldKey (GAL.L.CRC_EXP.CRC_EXP i) ≠ k :=
  outside_allOf _ _ _ (by omega) (fun i => by simp [GAL.L.CRC_EXP.CRC_EXP])
theorem outside_GAL_FENCE_FENCE (k : Nat) : Outside (allOf 64 GAL.FENCE.FENCE) k ↔ ∀ i, fieldKey (GAL.FENCE.FENCE i) ≠ k :=
  outside_allOf _ _ _ (by omega) (fun i => by simp [GAL.FENCE.FENCE])
theorem outside_SHD_CLASS_CFG_MIN_MARGIN (k : Nat) : Outside (allOf 8 SHD.CLASS_CFG.MIN_MARGIN) k ↔ ∀ i, fieldKey (SHD.CLASS_CFG.MIN_MARGIN i) ≠ k :=
  outside_allOf _ _ _ (by omega) (fun i => by simp [SHD.CLASS_CFG.MIN_MARGIN])
theorem outside_SHD_CLASS_CFG_FORCE_GR (k : Nat) : Outside (allOf 8 SHD.CLASS_CFG.FORCE_GR) k ↔ ∀ i, fieldKey (SHD.CLASS_CFG.FORCE_GR i) ≠ k :=
  outside_allOf _ _ _ (by omega) (fun i => by simp [SHD.CLASS_CFG.FORCE_GR])
theorem outside_BE_BAND_MAP_ENGINE (k : Nat) : Outside (allOf 16 BE.BAND_MAP.ENGINE) k ↔ ∀ i, fieldKey (BE.BAND_MAP.ENGINE i) ≠ k :=
  outside_allOf _ _ _ (by omega) (fun i => by simp [BE.BAND_MAP.ENGINE])
theorem outside_BE_BAND_MAP_SHARED (k : Nat) : Outside (allOf 16 BE.BAND_MAP.SHARED) k ↔ ∀ i, fieldKey (BE.BAND_MAP.SHARED i) ≠ k :=
  outside_allOf _ _ _ (by omega) (fun i => by simp [BE.BAND_MAP.SHARED])
theorem outside_IOMUX_PIN_FUNC (k : Nat) : Outside (allOf 16 IOMUX.PIN.FUNC) k ↔ ∀ i, fieldKey (IOMUX.PIN.FUNC i) ≠ k :=
  outside_allOf _ _ _ (by omega) (fun i => by simp [IOMUX.PIN.FUNC])
theorem outside_IOMUX_PIN_PULL (k : Nat) : Outside (allOf 16 IOMUX.PIN.PULL) k ↔ ∀ i, fieldKey (IOMUX.PIN.PULL i) ≠ k :=
  outside_allOf _ _ _ (by omega) (fun i => by simp [IOMUX.PIN.PULL])
theorem outside_IOMUX_PIN_DRIVE (k : Nat) : Outside (allOf 16 IOMUX.PIN.DRIVE) k ↔ ∀ i, fieldKey (IOMUX.PIN.DRIVE i) ≠ k :=
  outside_allOf _ _ _ (by omega) (fun i => by simp [IOMUX.PIN.DRIVE])
theorem outside_IOMUX_PIN_OUT (k : Nat) : Outside (allOf 16 IOMUX.PIN.OUT) k ↔ ∀ i, fieldKey (IOMUX.PIN.OUT i) ≠ k :=
  outside_allOf _ _ _ (by omega) (fun i => by simp [IOMUX.PIN.OUT])
theorem outside_IOMUX_PIN_IN (k : Nat) : Outside (allOf 16 IOMUX.PIN.IN) k ↔ ∀ i, fieldKey (IOMUX.PIN.IN i) ≠ k :=
  outside_allOf _ _ _ (by omega) (fun i => by simp [IOMUX.PIN.IN])
theorem outside_MBX_EVT_HEAD_RECORD (k : Nat) : Outside (allOf 8 MBX.EVT_HEAD.RECORD) k ↔ ∀ i, fieldKey (MBX.EVT_HEAD.RECORD i) ≠ k :=
  outside_allOf _ _ _ (by omega) (fun i => by simp [MBX.EVT_HEAD.RECORD])
theorem outside_AUX_PORT_CFG_LEN (k : Nat) : Outside (allOf 4 AUX.PORT_CFG.LEN) k ↔ ∀ i, fieldKey (AUX.PORT_CFG.LEN i) ≠ k :=
  outside_allOf _ _ _ (by omega) (fun i => by simp [AUX.PORT_CFG.LEN])
theorem outside_AUX_PORT_CFG_FPER (k : Nat) : Outside (allOf 4 AUX.PORT_CFG.FPER) k ↔ ∀ i, fieldKey (AUX.PORT_CFG.FPER i) ≠ k :=
  outside_allOf _ _ _ (by omega) (fun i => by simp [AUX.PORT_CFG.FPER])
theorem outside_AUX_GAMMA_SEL_TBL (k : Nat) : Outside (allOf 12 AUX.GAMMA_SEL.TBL) k ↔ ∀ i, fieldKey (AUX.GAMMA_SEL.TBL i) ≠ k :=
  outside_allOf _ _ _ (by omega) (fun i => by simp [AUX.GAMMA_SEL.TBL])
theorem outside_AUX_GAMMA_SEL_BYPASS (k : Nat) : Outside (allOf 4 AUX.GAMMA_SEL.BYPASS) k ↔ ∀ i, fieldKey (AUX.GAMMA_SEL.BYPASS i) ≠ k :=
  outside_allOf _ _ _ (by omega) (fun i => by simp [AUX.GAMMA_SEL.BYPASS])
theorem outside_THM_ZONE_T (k : Nat) : Outside (allOf 68 THM.ZONE.T) k ↔ ∀ i, fieldKey (THM.ZONE.T i) ≠ k :=
  outside_allOf _ _ _ (by omega) (fun i => by simp [THM.ZONE.T])
theorem outside_THM_HK_T (k : Nat) : Outside (allOf 5 THM.HK.T) k ↔ ∀ i, fieldKey (THM.HK.T i) ≠ k :=
  outside_allOf _ _ _ (by omega) (fun i => by simp [THM.HK.T])
theorem outside_DDRC_MAP_BG0_BIT (k : Nat) : Outside (allOf 4 DDRC.MAP_BG0.BIT) k ↔ ∀ i, fieldKey (DDRC.MAP_BG0.BIT i) ≠ k :=
  outside_allOf _ _ _ (by omega) (fun i => by simp [DDRC.MAP_BG0.BIT])
theorem outside_DDRC_MAP_BG0_SEL_EN (k : Nat) : Outside (allOf 4 DDRC.MAP_BG0.SEL_EN) k ↔ ∀ i, fieldKey (DDRC.MAP_BG0.SEL_EN i) ≠ k :=
  outside_allOf _ _ _ (by omega) (fun i => by simp [DDRC.MAP_BG0.SEL_EN])
theorem outside_DDRC_MAP_BG1_BIT (k : Nat) : Outside (allOf 4 DDRC.MAP_BG1.BIT) k ↔ ∀ i, fieldKey (DDRC.MAP_BG1.BIT i) ≠ k :=
  outside_allOf _ _ _ (by omega) (fun i => by simp [DDRC.MAP_BG1.BIT])
theorem outside_DDRC_MAP_BG1_SEL_EN (k : Nat) : Outside (allOf 4 DDRC.MAP_BG1.SEL_EN) k ↔ ∀ i, fieldKey (DDRC.MAP_BG1.SEL_EN i) ≠ k :=
  outside_allOf _ _ _ (by omega) (fun i => by simp [DDRC.MAP_BG1.SEL_EN])
theorem outside_DDRC_MAP_BA0_BIT (k : Nat) : Outside (allOf 4 DDRC.MAP_BA0.BIT) k ↔ ∀ i, fieldKey (DDRC.MAP_BA0.BIT i) ≠ k :=
  outside_allOf _ _ _ (by omega) (fun i => by simp [DDRC.MAP_BA0.BIT])
theorem outside_DDRC_MAP_BA0_SEL_EN (k : Nat) : Outside (allOf 4 DDRC.MAP_BA0.SEL_EN) k ↔ ∀ i, fieldKey (DDRC.MAP_BA0.SEL_EN i) ≠ k :=
  outside_allOf _ _ _ (by omega) (fun i => by simp [DDRC.MAP_BA0.SEL_EN])
theorem outside_DDRC_MAP_BA1_BIT (k : Nat) : Outside (allOf 4 DDRC.MAP_BA1.BIT) k ↔ ∀ i, fieldKey (DDRC.MAP_BA1.BIT i) ≠ k :=
  outside_allOf _ _ _ (by omega) (fun i => by simp [DDRC.MAP_BA1.BIT])
theorem outside_DDRC_MAP_BA1_SEL_EN (k : Nat) : Outside (allOf 4 DDRC.MAP_BA1.SEL_EN) k ↔ ∀ i, fieldKey (DDRC.MAP_BA1.SEL_EN i) ≠ k :=
  outside_allOf _ _ _ (by omega) (fun i => by simp [DDRC.MAP_BA1.SEL_EN])
theorem outside_DDRC_TIM (k : Nat) : Outside (allOf 8 DDRC.TIM) k ↔ ∀ i, fieldKey (DDRC.TIM i) ≠ k :=
  outside_allOf _ _ _ (by omega) (fun i => by simp [DDRC.TIM])
theorem outside_DDRC_DLY (k : Nat) : Outside (allOf 18 DDRC.DLY) k ↔ ∀ i, fieldKey (DDRC.DLY i) ≠ k :=
  outside_allOf _ _ _ (by omega) (fun i => by simp [DDRC.DLY])
theorem outside_DDRC_CA (k : Nat) : Outside (allOf 2 DDRC.CA) k ↔ ∀ i, fieldKey (DDRC.CA i) ≠ k :=
  outside_allOf _ _ _ (by omega) (fun i => by simp [DDRC.CA])
theorem outside_FLT_COUNT_COUNT (k : Nat) : Outside (allOf 96 FLT.COUNT.COUNT) k ↔ ∀ i, fieldKey (FLT.COUNT.COUNT i) ≠ k :=
  outside_allOf _ _ _ (by omega) (fun i => by simp [FLT.COUNT.COUNT])
theorem outside_CRC_U_FOLD (k : Nat) : Outside (allOf 4 CRC.U.FOLD) k ↔ ∀ i, fieldKey (CRC.U.FOLD i) ≠ k :=
  outside_allOf _ _ _ (by omega) (fun i => by simp [CRC.U.FOLD])
theorem outside_CRC_U_INIT (k : Nat) : Outside (allOf 4 CRC.U.INIT) k ↔ ∀ i, fieldKey (CRC.U.INIT i) ≠ k :=
  outside_allOf _ _ _ (by omega) (fun i => by simp [CRC.U.INIT])
theorem outside_CRC_U_DATA (k : Nat) : Outside (allOf 4 CRC.U.DATA) k ↔ ∀ i, fieldKey (CRC.U.DATA i) ≠ k :=
  outside_allOf _ _ _ (by omega) (fun i => by simp [CRC.U.DATA])
theorem outside_CRC_U_DATA8 (k : Nat) : Outside (allOf 4 CRC.U.DATA8) k ↔ ∀ i, fieldKey (CRC.U.DATA8 i) ≠ k :=
  outside_allOf _ _ _ (by omega) (fun i => by simp [CRC.U.DATA8])
theorem outside_CRC_U_RUNNING (k : Nat) : Outside (allOf 4 CRC.U.RUNNING) k ↔ ∀ i, fieldKey (CRC.U.RUNNING i) ≠ k :=
  outside_allOf _ _ _ (by omega) (fun i => by simp [CRC.U.RUNNING])
theorem outside_CRC_U_RESULT (k : Nat) : Outside (allOf 4 CRC.U.RESULT) k ↔ ∀ i, fieldKey (CRC.U.RESULT i) ≠ k :=
  outside_allOf _ _ _ (by omega) (fun i => by simp [CRC.U.RESULT])
theorem outside_CRC_U_COUNT (k : Nat) : Outside (allOf 4 CRC.U.COUNT) k ↔ ∀ i, fieldKey (CRC.U.COUNT i) ≠ k :=
  outside_allOf _ _ _ (by omega) (fun i => by simp [CRC.U.COUNT])
theorem outside_TX_CTRL_EN (k : Nat) : Outside (allOf 2 TX.CTRL.EN) k ↔ ∀ i, fieldKey (TX.CTRL.EN i) ≠ k :=
  outside_allOf _ _ _ (by omega) (fun i => by simp [TX.CTRL.EN])
theorem outside_TX_CTRL_RATE_MAX (k : Nat) : Outside (allOf 2 TX.CTRL.RATE_MAX) k ↔ ∀ i, fieldKey (TX.CTRL.RATE_MAX i) ≠ k :=
  outside_allOf _ _ _ (by omega) (fun i => by simp [TX.CTRL.RATE_MAX])
theorem outside_TX_CTRL_EQ_FREEZE (k : Nat) : Outside (allOf 2 TX.CTRL.EQ_FREEZE) k ↔ ∀ i, fieldKey (TX.CTRL.EQ_FREEZE i) ≠ k :=
  outside_allOf _ _ _ (by omega) (fun i => by simp [TX.CTRL.EQ_FREEZE])
theorem outside_TX_CTRL_RETRAIN (k : Nat) : Outside (allOf 2 TX.CTRL.RETRAIN) k ↔ ∀ i, fieldKey (TX.CTRL.RETRAIN i) ≠ k :=
  outside_allOf _ _ _ (by omega) (fun i => by simp [TX.CTRL.RETRAIN])
theorem outside_TX_CTRL_RELEASE (k : Nat) : Outside (allOf 2 TX.CTRL.RELEASE) k ↔ ∀ i, fieldKey (TX.CTRL.RELEASE i) ≠ k :=
  outside_allOf _ _ _ (by omega) (fun i => by simp [TX.CTRL.RELEASE])
theorem outside_TX_CFG_FOM_MIN (k : Nat) : Outside (allOf 2 TX.CFG.FOM_MIN) k ↔ ∀ i, fieldKey (TX.CFG.FOM_MIN i) ≠ k :=
  outside_allOf _ _ _ (by omega) (fun i => by simp [TX.CFG.FOM_MIN])
theorem outside_TX_CFG_FOM_WARN (k : Nat) : Outside (allOf 2 TX.CFG.FOM_WARN) k ↔ ∀ i, fieldKey (TX.CFG.FOM_WARN i) ≠ k :=
  outside_allOf _ _ _ (by omega) (fun i => by simp [TX.CFG.FOM_WARN])
theorem outside_TX_CFG_FOM_DOWN (k : Nat) : Outside (allOf 2 TX.CFG.FOM_DOWN) k ↔ ∀ i, fieldKey (TX.CFG.FOM_DOWN i) ≠ k :=
  outside_allOf _ _ _ (by omega) (fun i => by simp [TX.CFG.FOM_DOWN])
theorem outside_TX_STATUS_STATE (k : Nat) : Outside (allOf 2 TX.STATUS.STATE) k ↔ ∀ i, fieldKey (TX.STATUS.STATE i) ≠ k :=
  outside_allOf _ _ _ (by omega) (fun i => by simp [TX.STATUS.STATE])
theorem outside_TX_STATUS_RATE (k : Nat) : Outside (allOf 2 TX.STATUS.RATE) k ↔ ∀ i, fieldKey (TX.STATUS.RATE i) ≠ k :=
  outside_allOf _ _ _ (by omega) (fun i => by simp [TX.STATUS.RATE])
theorem outside_TX_STATUS_WRAP (k : Nat) : Outside (allOf 2 TX.STATUS.WRAP) k ↔ ∀ i, fieldKey (TX.STATUS.WRAP i) ≠ k :=
  outside_allOf _ _ _ (by omega) (fun i => by simp [TX.STATUS.WRAP])
theorem outside_TX_STATUS_LANE_MAP (k : Nat) : Outside (allOf 2 TX.STATUS.LANE_MAP) k ↔ ∀ i, fieldKey (TX.STATUS.LANE_MAP i) ≠ k :=
  outside_allOf _ _ _ (by omega) (fun i => by simp [TX.STATUS.LANE_MAP])
theorem outside_TX_STATUS_INVERTED (k : Nat) : Outside (allOf 2 TX.STATUS.INVERTED) k ↔ ∀ i, fieldKey (TX.STATUS.INVERTED i) ≠ k :=
  outside_allOf _ _ _ (by omega) (fun i => by simp [TX.STATUS.INVERTED])
theorem outside_TX_STATUS_LINK_DOWN (k : Nat) : Outside (allOf 2 TX.STATUS.LINK_DOWN) k ↔ ∀ i, fieldKey (TX.STATUS.LINK_DOWN i) ≠ k :=
  outside_allOf _ _ _ (by omega) (fun i => by simp [TX.STATUS.LINK_DOWN])
theorem outside_TX_STATUS_FOM_LOW (k : Nat) : Outside (allOf 2 TX.STATUS.FOM_LOW) k ↔ ∀ i, fieldKey (TX.STATUS.FOM_LOW i) ≠ k :=
  outside_allOf _ _ _ (by omega) (fun i => by simp [TX.STATUS.FOM_LOW])
theorem outside_TX_STATUS_QUAR (k : Nat) : Outside (allOf 2 TX.STATUS.QUAR) k ↔ ∀ i, fieldKey (TX.STATUS.QUAR i) ≠ k :=
  outside_allOf _ _ _ (by omega) (fun i => by simp [TX.STATUS.QUAR])
theorem outside_TX_ASYM_ASYM (k : Nat) : Outside (allOf 2 TX.ASYM.ASYM) k ↔ ∀ i, fieldKey (TX.ASYM.ASYM i) ≠ k :=
  outside_allOf _ _ _ (by omega) (fun i => by simp [TX.ASYM.ASYM])
theorem outside_TX_DELAY_DELAY (k : Nat) : Outside (allOf 2 TX.DELAY.DELAY) k ↔ ∀ i, fieldKey (TX.DELAY.DELAY i) ≠ k :=
  outside_allOf _ _ _ (by omega) (fun i => by simp [TX.DELAY.DELAY])
theorem outside_TX_FOM_FOM (k : Nat) : Outside (allOf 8 TX.FOM.FOM) k ↔ ∀ i, fieldKey (TX.FOM.FOM i) ≠ k :=
  outside_allOf _ _ _ (by omega) (fun i => by simp [TX.FOM.FOM])
theorem outside_TX_EQ_CTLE (k : Nat) : Outside (allOf 8 TX.EQ.CTLE) k ↔ ∀ i, fieldKey (TX.EQ.CTLE i) ≠ k :=
  outside_allOf _ _ _ (by omega) (fun i => by simp [TX.EQ.CTLE])
theorem outside_TX_EQ_H1 (k : Nat) : Outside (allOf 8 TX.EQ.H1) k ↔ ∀ i, fieldKey (TX.EQ.H1 i) ≠ k :=
  outside_allOf _ _ _ (by omega) (fun i => by simp [TX.EQ.H1])
theorem outside_TX_EQ_H2 (k : Nat) : Outside (allOf 8 TX.EQ.H2) k ↔ ∀ i, fieldKey (TX.EQ.H2 i) ≠ k :=
  outside_allOf _ _ _ (by omega) (fun i => by simp [TX.EQ.H2])
theorem outside_TX_EQ_H3 (k : Nat) : Outside (allOf 8 TX.EQ.H3) k ↔ ∀ i, fieldKey (TX.EQ.H3 i) ≠ k :=
  outside_allOf _ _ _ (by omega) (fun i => by simp [TX.EQ.H3])
theorem outside_TX_CODE_ERR (k : Nat) : Outside (allOf 2 TX.CODE_ERR) k ↔ ∀ i, fieldKey (TX.CODE_ERR i) ≠ k :=
  outside_allOf _ _ _ (by omega) (fun i => by simp [TX.CODE_ERR])
theorem outside_TX_CRC_ERR (k : Nat) : Outside (allOf 2 TX.CRC_ERR) k ↔ ∀ i, fieldKey (TX.CRC_ERR i) ≠ k :=
  outside_allOf _ _ _ (by omega) (fun i => by simp [TX.CRC_ERR])
theorem outside_TX_MALFORMED (k : Nat) : Outside (allOf 2 TX.MALFORMED) k ↔ ∀ i, fieldKey (TX.MALFORMED i) ≠ k :=
  outside_allOf _ _ _ (by omega) (fun i => by simp [TX.MALFORMED])
theorem outside_TX_STOMP_RX (k : Nat) : Outside (allOf 2 TX.STOMP_RX) k ↔ ∀ i, fieldKey (TX.STOMP_RX i) ≠ k :=
  outside_allOf _ _ _ (by omega) (fun i => by simp [TX.STOMP_RX])
theorem outside_TX_UNTRUSTED (k : Nat) : Outside (allOf 2 TX.UNTRUSTED) k ↔ ∀ i, fieldKey (TX.UNTRUSTED i) ≠ k :=
  outside_allOf _ _ _ (by omega) (fun i => by simp [TX.UNTRUSTED])
theorem outside_TX_RATE_DROP (k : Nat) : Outside (allOf 2 TX.RATE_DROP) k ↔ ∀ i, fieldKey (TX.RATE_DROP i) ≠ k :=
  outside_allOf _ _ _ (by omega) (fun i => by simp [TX.RATE_DROP])
theorem outside_TX_FWD_DROP (k : Nat) : Outside (allOf 2 TX.FWD_DROP) k ↔ ∀ i, fieldKey (TX.FWD_DROP i) ≠ k :=
  outside_allOf _ _ _ (by omega) (fun i => by simp [TX.FWD_DROP])
theorem outside_TX_LOCAL_DROP (k : Nat) : Outside (allOf 2 TX.LOCAL_DROP) k ↔ ∀ i, fieldKey (TX.LOCAL_DROP i) ≠ k :=
  outside_allOf _ _ _ (by omega) (fun i => by simp [TX.LOCAL_DROP])
theorem outside_TX_WRAP_DROP (k : Nat) : Outside (allOf 2 TX.WRAP_DROP) k ↔ ∀ i, fieldKey (TX.WRAP_DROP i) ≠ k :=
  outside_allOf _ _ _ (by omega) (fun i => by simp [TX.WRAP_DROP])
theorem outside_TX_ORPHAN (k : Nat) : Outside (allOf 2 TX.ORPHAN) k ↔ ∀ i, fieldKey (TX.ORPHAN i) ≠ k :=
  outside_allOf _ _ _ (by omega) (fun i => by simp [TX.ORPHAN])
theorem outside_TX_TRAIN_FAIL (k : Nat) : Outside (allOf 2 TX.TRAIN_FAIL) k ↔ ∀ i, fieldKey (TX.TRAIN_FAIL i) ≠ k :=
  outside_allOf _ _ _ (by omega) (fun i => by simp [TX.TRAIN_FAIL])
theorem outside_TX_QUAR_COUNT (k : Nat) : Outside (allOf 2 TX.QUAR_COUNT) k ↔ ∀ i, fieldKey (TX.QUAR_COUNT i) ≠ k :=
  outside_allOf _ _ _ (by omega) (fun i => by simp [TX.QUAR_COUNT])

/-! ### Conditionals and folds -/

@[simp] theorem wordAt_ite (c : Prop) [Decidable c] (a b : Sparse Word) (k : Nat) :
    wordAt (if c then a else b) k = if c then wordAt a k else wordAt b k := by split <;> rfl

@[simp] theorem foldl_word {α : Type} {k : Nat} (g : State → α → State) (hg : ∀ t x, wordAt (g t x).regs k = wordAt t.regs k)
    (l : List α) (s : State) : wordAt (l.foldl g s).regs k = wordAt s.regs k := by
  induction l generalizing s with
  | nil => rfl
  | cons x t ih => exact (ih _).trans (hg _ _)

theorem foldl_word_mem {α : Type} {key : Nat} (g : State → α → State) (l : List α)
    (hg : ∀ x ∈ l, ∀ t, wordAt (g t x).regs key = wordAt t.regs key) (s : State) :
    wordAt (l.foldl g s).regs key = wordAt s.regs key := by
  induction l generalizing s with
  | nil => rfl
  | cons x t ih => exact (ih (fun y hy => hg y (List.mem_cons_of_mem _ hy)) _).trans (hg x List.mem_cons_self s)

theorem foldl_fields_word {key : Nat} (l : List Field) (h : ∀ f ∈ l, fieldKey f ≠ key) (v : State → Field → Nat) (s : State) :
    wordAt (l.foldl (fun t f => t.setReg f (v t f)) s).regs key = wordAt s.regs key := by
  induction l generalizing s with
  | nil => rfl
  | cons f t ih =>
    refine (ih (fun g hg => h g (List.mem_cons_of_mem _ hg)) _).trans ?_
    exact setReg_word s f _ (h f List.mem_cons_self)

@[simp] theorem ite_pending (c : Prop) [Decidable c] (a b : State) : (if c then a else b).pending = if c then a.pending else b.pending := by
  split <;> rfl

@[simp] theorem foldl_pending {α : Type} (g : State → α → State) (hg : ∀ t x, (g t x).pending = t.pending) (l : List α) (s : State) :
    (l.foldl g s).pending = s.pending := by
  induction l generalizing s with
  | nil => rfl
  | cons x t ih => exact (ih _).trans (hg _ _)

@[simp] theorem ite_regs (c : Prop) [Decidable c] (a b : State) : (if c then a else b).regs = if c then a.regs else b.regs := by
  split <;> rfl

@[simp] theorem foldl_regs {α : Type} (g : State → α → State) (hg : ∀ t x, (g t x).regs = t.regs) (l : List α) (s : State) :
    (l.foldl g s).regs = s.regs := by
  induction l generalizing s with
  | nil => rfl
  | cons x t ih => exact (ih _).trans (hg _ _)

@[simp] theorem ite_act (c : Prop) [Decidable c] (a b : State) : (if c then a else b).act = if c then a.act else b.act := by
  split <;> rfl

@[simp] theorem foldl_act {α : Type} (g : State → α → State) (hg : ∀ t x, (g t x).act = t.act) (l : List α) (s : State) :
    (l.foldl g s).act = s.act := by
  induction l generalizing s with
  | nil => rfl
  | cons x t ih => exact (ih _).trans (hg _ _)

@[simp] theorem ite_lt (c : Prop) [Decidable c] (a b : State) : (if c then a else b).lt = if c then a.lt else b.lt := by
  split <;> rfl

@[simp] theorem foldl_lt {α : Type} (g : State → α → State) (hg : ∀ t x, (g t x).lt = t.lt) (l : List α) (s : State) :
    (l.foldl g s).lt = s.lt := by
  induction l generalizing s with
  | nil => rfl
  | cons x t ih => exact (ih _).trans (hg _ _)

@[simp] theorem ite_synced (c : Prop) [Decidable c] (a b : State) : (if c then a else b).synced = if c then a.synced else b.synced := by
  split <;> rfl

@[simp] theorem foldl_synced {α : Type} (g : State → α → State) (hg : ∀ t x, (g t x).synced = t.synced) (l : List α) (s : State) :
    (l.foldl g s).synced = s.synced := by
  induction l generalizing s with
  | nil => rfl
  | cons x t ih => exact (ih _).trans (hg _ _)

@[simp] theorem ite_free (c : Prop) [Decidable c] (a b : State) : (if c then a else b).free = if c then a.free else b.free := by
  split <;> rfl

@[simp] theorem foldl_free {α : Type} (g : State → α → State) (hg : ∀ t x, (g t x).free = t.free) (l : List α) (s : State) :
    (l.foldl g s).free = s.free := by
  induction l generalizing s with
  | nil => rfl
  | cons x t ih => exact (ih _).trans (hg _ _)

@[simp] theorem ite_dram (c : Prop) [Decidable c] (a b : State) : (if c then a else b).dram = if c then a.dram else b.dram := by
  split <;> rfl

@[simp] theorem foldl_dram {α : Type} (g : State → α → State) (hg : ∀ t x, (g t x).dram = t.dram) (l : List α) (s : State) :
    (l.foldl g s).dram = s.dram := by
  induction l generalizing s with
  | nil => rfl
  | cons x t ih => exact (ih _).trans (hg _ _)

@[simp] theorem ite_scan (c : Prop) [Decidable c] (a b : State) : (if c then a else b).scan = if c then a.scan else b.scan := by
  split <;> rfl

@[simp] theorem foldl_scan {α : Type} (g : State → α → State) (hg : ∀ t x, (g t x).scan = t.scan) (l : List α) (s : State) :
    (l.foldl g s).scan = s.scan := by
  induction l generalizing s with
  | nil => rfl
  | cons x t ih => exact (ih _).trans (hg _ _)

@[simp] theorem ite_pix (c : Prop) [Decidable c] (a b : State) : (if c then a else b).pix = if c then a.pix else b.pix := by
  split <;> rfl

@[simp] theorem foldl_pix {α : Type} (g : State → α → State) (hg : ∀ t x, (g t x).pix = t.pix) (l : List α) (s : State) :
    (l.foldl g s).pix = s.pix := by
  induction l generalizing s with
  | nil => rfl
  | cons x t ih => exact (ih _).trans (hg _ _)

@[simp] theorem ite_gal (c : Prop) [Decidable c] (a b : State) : (if c then a else b).gal = if c then a.gal else b.gal := by
  split <;> rfl

@[simp] theorem foldl_gal {α : Type} (g : State → α → State) (hg : ∀ t x, (g t x).gal = t.gal) (l : List α) (s : State) :
    (l.foldl g s).gal = s.gal := by
  induction l generalizing s with
  | nil => rfl
  | cons x t ih => exact (ih _).trans (hg _ _)

@[simp] theorem ite_eng (c : Prop) [Decidable c] (a b : State) : (if c then a else b).eng = if c then a.eng else b.eng := by
  split <;> rfl

@[simp] theorem foldl_eng {α : Type} (g : State → α → State) (hg : ∀ t x, (g t x).eng = t.eng) (l : List α) (s : State) :
    (l.foldl g s).eng = s.eng := by
  induction l generalizing s with
  | nil => rfl
  | cons x t ih => exact (ih _).trans (hg _ _)

@[simp] theorem ite_stats (c : Prop) [Decidable c] (a b : State) : (if c then a else b).stats = if c then a.stats else b.stats := by
  split <;> rfl

@[simp] theorem foldl_stats {α : Type} (g : State → α → State) (hg : ∀ t x, (g t x).stats = t.stats) (l : List α) (s : State) :
    (l.foldl g s).stats = s.stats := by
  induction l generalizing s with
  | nil => rfl
  | cons x t ih => exact (ih _).trans (hg _ _)

@[simp] theorem ite_shd (c : Prop) [Decidable c] (a b : State) : (if c then a else b).shd = if c then a.shd else b.shd := by
  split <;> rfl

@[simp] theorem foldl_shd {α : Type} (g : State → α → State) (hg : ∀ t x, (g t x).shd = t.shd) (l : List α) (s : State) :
    (l.foldl g s).shd = s.shd := by
  induction l generalizing s with
  | nil => rfl
  | cons x t ih => exact (ih _).trans (hg _ _)

@[simp] theorem ite_guard (c : Prop) [Decidable c] (a b : State) : (if c then a else b).guard = if c then a.guard else b.guard := by
  split <;> rfl

@[simp] theorem foldl_guard {α : Type} (g : State → α → State) (hg : ∀ t x, (g t x).guard = t.guard) (l : List α) (s : State) :
    (l.foldl g s).guard = s.guard := by
  induction l generalizing s with
  | nil => rfl
  | cons x t ih => exact (ih _).trans (hg _ _)

@[simp] theorem ite_diag (c : Prop) [Decidable c] (a b : State) : (if c then a else b).diag = if c then a.diag else b.diag := by
  split <;> rfl

@[simp] theorem foldl_diag {α : Type} (g : State → α → State) (hg : ∀ t x, (g t x).diag = t.diag) (l : List α) (s : State) :
    (l.foldl g s).diag = s.diag := by
  induction l generalizing s with
  | nil => rfl
  | cons x t ih => exact (ih _).trans (hg _ _)

@[simp] theorem ite_cal (c : Prop) [Decidable c] (a b : State) : (if c then a else b).cal = if c then a.cal else b.cal := by
  split <;> rfl

@[simp] theorem foldl_cal {α : Type} (g : State → α → State) (hg : ∀ t x, (g t x).cal = t.cal) (l : List α) (s : State) :
    (l.foldl g s).cal = s.cal := by
  induction l generalizing s with
  | nil => rfl
  | cons x t ih => exact (ih _).trans (hg _ _)

@[simp] theorem ite_net (c : Prop) [Decidable c] (a b : State) : (if c then a else b).net = if c then a.net else b.net := by
  split <;> rfl

@[simp] theorem foldl_net {α : Type} (g : State → α → State) (hg : ∀ t x, (g t x).net = t.net) (l : List α) (s : State) :
    (l.foldl g s).net = s.net := by
  induction l generalizing s with
  | nil => rfl
  | cons x t ih => exact (ih _).trans (hg _ _)

@[simp] theorem ite_mbx (c : Prop) [Decidable c] (a b : State) : (if c then a else b).mbx = if c then a.mbx else b.mbx := by
  split <;> rfl

@[simp] theorem foldl_mbx {α : Type} (g : State → α → State) (hg : ∀ t x, (g t x).mbx = t.mbx) (l : List α) (s : State) :
    (l.foldl g s).mbx = s.mbx := by
  induction l generalizing s with
  | nil => rfl
  | cons x t ih => exact (ih _).trans (hg _ _)

@[simp] theorem ite_io (c : Prop) [Decidable c] (a b : State) : (if c then a else b).io = if c then a.io else b.io := by
  split <;> rfl

@[simp] theorem foldl_io {α : Type} (g : State → α → State) (hg : ∀ t x, (g t x).io = t.io) (l : List α) (s : State) :
    (l.foldl g s).io = s.io := by
  induction l generalizing s with
  | nil => rfl
  | cons x t ih => exact (ih _).trans (hg _ _)

@[simp] theorem ite_pins (c : Prop) [Decidable c] (a b : State) : (if c then a else b).pins = if c then a.pins else b.pins := by
  split <;> rfl

@[simp] theorem foldl_pins {α : Type} (g : State → α → State) (hg : ∀ t x, (g t x).pins = t.pins) (l : List α) (s : State) :
    (l.foldl g s).pins = s.pins := by
  induction l generalizing s with
  | nil => rfl
  | cons x t ih => exact (ih _).trans (hg _ _)

@[simp] theorem ite_aux (c : Prop) [Decidable c] (a b : State) : (if c then a else b).aux = if c then a.aux else b.aux := by
  split <;> rfl

@[simp] theorem foldl_aux {α : Type} (g : State → α → State) (hg : ∀ t x, (g t x).aux = t.aux) (l : List α) (s : State) :
    (l.foldl g s).aux = s.aux := by
  induction l generalizing s with
  | nil => rfl
  | cons x t ih => exact (ih _).trans (hg _ _)

@[simp] theorem ite_clk (c : Prop) [Decidable c] (a b : State) : (if c then a else b).clk = if c then a.clk else b.clk := by
  split <;> rfl

@[simp] theorem foldl_clk {α : Type} (g : State → α → State) (hg : ∀ t x, (g t x).clk = t.clk) (l : List α) (s : State) :
    (l.foldl g s).clk = s.clk := by
  induction l generalizing s with
  | nil => rfl
  | cons x t ih => exact (ih _).trans (hg _ _)

@[simp] theorem ite_pwr (c : Prop) [Decidable c] (a b : State) : (if c then a else b).pwr = if c then a.pwr else b.pwr := by
  split <;> rfl

@[simp] theorem foldl_pwr {α : Type} (g : State → α → State) (hg : ∀ t x, (g t x).pwr = t.pwr) (l : List α) (s : State) :
    (l.foldl g s).pwr = s.pwr := by
  induction l generalizing s with
  | nil => rfl
  | cons x t ih => exact (ih _).trans (hg _ _)

@[simp] theorem ite_boot (c : Prop) [Decidable c] (a b : State) : (if c then a else b).boot = if c then a.boot else b.boot := by
  split <;> rfl

@[simp] theorem foldl_boot {α : Type} (g : State → α → State) (hg : ∀ t x, (g t x).boot = t.boot) (l : List α) (s : State) :
    (l.foldl g s).boot = s.boot := by
  induction l generalizing s with
  | nil => rfl
  | cons x t ih => exact (ih _).trans (hg _ _)

@[simp] theorem ite_thm (c : Prop) [Decidable c] (a b : State) : (if c then a else b).thm = if c then a.thm else b.thm := by
  split <;> rfl

@[simp] theorem foldl_thm {α : Type} (g : State → α → State) (hg : ∀ t x, (g t x).thm = t.thm) (l : List α) (s : State) :
    (l.foldl g s).thm = s.thm := by
  induction l generalizing s with
  | nil => rfl
  | cons x t ih => exact (ih _).trans (hg _ _)

@[simp] theorem ite_ddr (c : Prop) [Decidable c] (a b : State) : (if c then a else b).ddr = if c then a.ddr else b.ddr := by
  split <;> rfl

@[simp] theorem foldl_ddr {α : Type} (g : State → α → State) (hg : ∀ t x, (g t x).ddr = t.ddr) (l : List α) (s : State) :
    (l.foldl g s).ddr = s.ddr := by
  induction l generalizing s with
  | nil => rfl
  | cons x t ih => exact (ih _).trans (hg _ _)

@[simp] theorem ite_mram (c : Prop) [Decidable c] (a b : State) : (if c then a else b).mram = if c then a.mram else b.mram := by
  split <;> rfl

@[simp] theorem foldl_mram {α : Type} (g : State → α → State) (hg : ∀ t x, (g t x).mram = t.mram) (l : List α) (s : State) :
    (l.foldl g s).mram = s.mram := by
  induction l generalizing s with
  | nil => rfl
  | cons x t ih => exact (ih _).trans (hg _ _)

@[simp] theorem ite_flash (c : Prop) [Decidable c] (a b : State) : (if c then a else b).flash = if c then a.flash else b.flash := by
  split <;> rfl

@[simp] theorem foldl_flash {α : Type} (g : State → α → State) (hg : ∀ t x, (g t x).flash = t.flash) (l : List α) (s : State) :
    (l.foldl g s).flash = s.flash := by
  induction l generalizing s with
  | nil => rfl
  | cons x t ih => exact (ih _).trans (hg _ _)

@[simp] theorem ite_flt (c : Prop) [Decidable c] (a b : State) : (if c then a else b).flt = if c then a.flt else b.flt := by
  split <;> rfl

@[simp] theorem foldl_flt {α : Type} (g : State → α → State) (hg : ∀ t x, (g t x).flt = t.flt) (l : List α) (s : State) :
    (l.foldl g s).flt = s.flt := by
  induction l generalizing s with
  | nil => rfl
  | cons x t ih => exact (ih _).trans (hg _ _)

@[simp] theorem ite_evt (c : Prop) [Decidable c] (a b : State) : (if c then a else b).evt = if c then a.evt else b.evt := by
  split <;> rfl

@[simp] theorem foldl_evt {α : Type} (g : State → α → State) (hg : ∀ t x, (g t x).evt = t.evt) (l : List α) (s : State) :
    (l.foldl g s).evt = s.evt := by
  induction l generalizing s with
  | nil => rfl
  | cons x t ih => exact (ih _).trans (hg _ _)

end Sys2Proof.Machine
end

