-- ==== Sys2Proof/Laws/FrameOps.lean ====
section
/-! SUPPORT. FrameOps.lean: for each operation of Machine/Ops.lean, the parts of State that it leaves alone and the register
fields outside which it changes none. -/

set_option linter.unusedSimpArgs false

namespace Sys2Proof.Machine

set_option Elab.async false

@[simp] theorem state_setReg_keep (s : State) (f : Field) (v : Nat) : (State.setReg s f v).pending = s.pending ∧
    (State.setReg s f v).act = s.act ∧ (State.setReg s f v).lt = s.lt ∧ (State.setReg s f v).synced = s.synced ∧
    (State.setReg s f v).free = s.free ∧ (State.setReg s f v).dram = s.dram ∧ (State.setReg s f v).scan = s.scan ∧
    (State.setReg s f v).pix = s.pix ∧ (State.setReg s f v).gal = s.gal ∧ (State.setReg s f v).eng = s.eng ∧
    (State.setReg s f v).stats = s.stats ∧ (State.setReg s f v).shd = s.shd ∧ (State.setReg s f v).guard = s.guard ∧
    (State.setReg s f v).diag = s.diag ∧ (State.setReg s f v).cal = s.cal ∧ (State.setReg s f v).net = s.net ∧
    (State.setReg s f v).mbx = s.mbx ∧ (State.setReg s f v).io = s.io ∧ (State.setReg s f v).pins = s.pins ∧
    (State.setReg s f v).aux = s.aux ∧ (State.setReg s f v).clk = s.clk ∧ (State.setReg s f v).pwr = s.pwr ∧
    (State.setReg s f v).boot = s.boot ∧ (State.setReg s f v).thm = s.thm ∧ (State.setReg s f v).ddr = s.ddr ∧
    (State.setReg s f v).mram = s.mram ∧ (State.setReg s f v).flash = s.flash ∧ (State.setReg s f v).flt = s.flt ∧
    (State.setReg s f v).evt = s.evt := by
  unfold State.setReg
  simp
@[simp] theorem state_setFlag_keep (s : State) (f : Field) (b : Bool) : (State.setFlag s f b).pending = s.pending ∧
    (State.setFlag s f b).act = s.act ∧ (State.setFlag s f b).lt = s.lt ∧ (State.setFlag s f b).synced = s.synced ∧
    (State.setFlag s f b).free = s.free ∧ (State.setFlag s f b).dram = s.dram ∧ (State.setFlag s f b).scan = s.scan ∧
    (State.setFlag s f b).pix = s.pix ∧ (State.setFlag s f b).gal = s.gal ∧ (State.setFlag s f b).eng = s.eng ∧
    (State.setFlag s f b).stats = s.stats ∧ (State.setFlag s f b).shd = s.shd ∧ (State.setFlag s f b).guard = s.guard
    ∧ (State.setFlag s f b).diag = s.diag ∧ (State.setFlag s f b).cal = s.cal ∧ (State.setFlag s f b).net = s.net ∧
    (State.setFlag s f b).mbx = s.mbx ∧ (State.setFlag s f b).io = s.io ∧ (State.setFlag s f b).pins = s.pins ∧
    (State.setFlag s f b).aux = s.aux ∧ (State.setFlag s f b).clk = s.clk ∧ (State.setFlag s f b).pwr = s.pwr ∧
    (State.setFlag s f b).boot = s.boot ∧ (State.setFlag s f b).thm = s.thm ∧ (State.setFlag s f b).ddr = s.ddr ∧
    (State.setFlag s f b).mram = s.mram ∧ (State.setFlag s f b).flash = s.flash ∧ (State.setFlag s f b).flt = s.flt ∧
    (State.setFlag s f b).evt = s.evt := by
  unfold State.setFlag
  simp
@[simp] theorem state_setAct_keep (s : State) (f : Field) (v : Nat) : (State.setAct s f v).pending = s.pending ∧
    (State.setAct s f v).regs = s.regs ∧ (State.setAct s f v).lt = s.lt ∧ (State.setAct s f v).synced = s.synced ∧
    (State.setAct s f v).free = s.free ∧ (State.setAct s f v).dram = s.dram ∧ (State.setAct s f v).scan = s.scan ∧
    (State.setAct s f v).pix = s.pix ∧ (State.setAct s f v).gal = s.gal ∧ (State.setAct s f v).eng = s.eng ∧
    (State.setAct s f v).stats = s.stats ∧ (State.setAct s f v).shd = s.shd ∧ (State.setAct s f v).guard = s.guard ∧
    (State.setAct s f v).diag = s.diag ∧ (State.setAct s f v).cal = s.cal ∧ (State.setAct s f v).net = s.net ∧
    (State.setAct s f v).mbx = s.mbx ∧ (State.setAct s f v).io = s.io ∧ (State.setAct s f v).pins = s.pins ∧
    (State.setAct s f v).aux = s.aux ∧ (State.setAct s f v).clk = s.clk ∧ (State.setAct s f v).pwr = s.pwr ∧
    (State.setAct s f v).boot = s.boot ∧ (State.setAct s f v).thm = s.thm ∧ (State.setAct s f v).ddr = s.ddr ∧
    (State.setAct s f v).mram = s.mram ∧ (State.setAct s f v).flash = s.flash ∧ (State.setAct s f v).flt = s.flt ∧
    (State.setAct s f v).evt = s.evt := by
  unfold State.setAct
  simp
@[simp] theorem state_bumpBy_keep (s : State) (f : Field) (n : Nat) : (State.bumpBy s f n).pending = s.pending ∧
    (State.bumpBy s f n).act = s.act ∧ (State.bumpBy s f n).lt = s.lt ∧ (State.bumpBy s f n).synced = s.synced ∧
    (State.bumpBy s f n).free = s.free ∧ (State.bumpBy s f n).dram = s.dram ∧ (State.bumpBy s f n).scan = s.scan ∧
    (State.bumpBy s f n).pix = s.pix ∧ (State.bumpBy s f n).gal = s.gal ∧ (State.bumpBy s f n).eng = s.eng ∧
    (State.bumpBy s f n).stats = s.stats ∧ (State.bumpBy s f n).shd = s.shd ∧ (State.bumpBy s f n).guard = s.guard ∧
    (State.bumpBy s f n).diag = s.diag ∧ (State.bumpBy s f n).cal = s.cal ∧ (State.bumpBy s f n).net = s.net ∧
    (State.bumpBy s f n).mbx = s.mbx ∧ (State.bumpBy s f n).io = s.io ∧ (State.bumpBy s f n).pins = s.pins ∧
    (State.bumpBy s f n).aux = s.aux ∧ (State.bumpBy s f n).clk = s.clk ∧ (State.bumpBy s f n).pwr = s.pwr ∧
    (State.bumpBy s f n).boot = s.boot ∧ (State.bumpBy s f n).thm = s.thm ∧ (State.bumpBy s f n).ddr = s.ddr ∧
    (State.bumpBy s f n).mram = s.mram ∧ (State.bumpBy s f n).flash = s.flash ∧ (State.bumpBy s f n).flt = s.flt ∧
    (State.bumpBy s f n).evt = s.evt := by
  unfold State.bumpBy
  simp
@[simp] theorem state_bump_keep (s : State) (f : Field) : (State.bump s f).pending = s.pending ∧ (State.bump s f).act
    = s.act ∧ (State.bump s f).lt = s.lt ∧ (State.bump s f).synced = s.synced ∧ (State.bump s f).free = s.free ∧
    (State.bump s f).dram = s.dram ∧ (State.bump s f).scan = s.scan ∧ (State.bump s f).pix = s.pix ∧ (State.bump s
    f).gal = s.gal ∧ (State.bump s f).eng = s.eng ∧ (State.bump s f).stats = s.stats ∧ (State.bump s f).shd = s.shd ∧
    (State.bump s f).guard = s.guard ∧ (State.bump s f).diag = s.diag ∧ (State.bump s f).cal = s.cal ∧ (State.bump s
    f).net = s.net ∧ (State.bump s f).mbx = s.mbx ∧ (State.bump s f).io = s.io ∧ (State.bump s f).pins = s.pins ∧
    (State.bump s f).aux = s.aux ∧ (State.bump s f).clk = s.clk ∧ (State.bump s f).pwr = s.pwr ∧ (State.bump s f).boot
    = s.boot ∧ (State.bump s f).thm = s.thm ∧ (State.bump s f).ddr = s.ddr ∧ (State.bump s f).mram = s.mram ∧
    (State.bump s f).flash = s.flash ∧ (State.bump s f).flt = s.flt ∧ (State.bump s f).evt = s.evt := by
  unfold State.bump
  simp
@[simp] theorem state_wrapBy_keep (s : State) (f : Field) (n : Nat) : (State.wrapBy s f n).pending = s.pending ∧
    (State.wrapBy s f n).act = s.act ∧ (State.wrapBy s f n).lt = s.lt ∧ (State.wrapBy s f n).synced = s.synced ∧
    (State.wrapBy s f n).free = s.free ∧ (State.wrapBy s f n).dram = s.dram ∧ (State.wrapBy s f n).scan = s.scan ∧
    (State.wrapBy s f n).pix = s.pix ∧ (State.wrapBy s f n).gal = s.gal ∧ (State.wrapBy s f n).eng = s.eng ∧
    (State.wrapBy s f n).stats = s.stats ∧ (State.wrapBy s f n).shd = s.shd ∧ (State.wrapBy s f n).guard = s.guard ∧
    (State.wrapBy s f n).diag = s.diag ∧ (State.wrapBy s f n).cal = s.cal ∧ (State.wrapBy s f n).net = s.net ∧
    (State.wrapBy s f n).mbx = s.mbx ∧ (State.wrapBy s f n).io = s.io ∧ (State.wrapBy s f n).pins = s.pins ∧
    (State.wrapBy s f n).aux = s.aux ∧ (State.wrapBy s f n).clk = s.clk ∧ (State.wrapBy s f n).pwr = s.pwr ∧
    (State.wrapBy s f n).boot = s.boot ∧ (State.wrapBy s f n).thm = s.thm ∧ (State.wrapBy s f n).ddr = s.ddr ∧
    (State.wrapBy s f n).mram = s.mram ∧ (State.wrapBy s f n).flash = s.flash ∧ (State.wrapBy s f n).flt = s.flt ∧
    (State.wrapBy s f n).evt = s.evt := by
  unfold State.wrapBy
  simp
@[simp] theorem state_orReg_keep (s : State) (f : Field) (v : Nat) : (State.orReg s f v).pending = s.pending ∧
    (State.orReg s f v).act = s.act ∧ (State.orReg s f v).lt = s.lt ∧ (State.orReg s f v).synced = s.synced ∧
    (State.orReg s f v).free = s.free ∧ (State.orReg s f v).dram = s.dram ∧ (State.orReg s f v).scan = s.scan ∧
    (State.orReg s f v).pix = s.pix ∧ (State.orReg s f v).gal = s.gal ∧ (State.orReg s f v).eng = s.eng ∧ (State.orReg
    s f v).stats = s.stats ∧ (State.orReg s f v).shd = s.shd ∧ (State.orReg s f v).guard = s.guard ∧ (State.orReg s f
    v).diag = s.diag ∧ (State.orReg s f v).cal = s.cal ∧ (State.orReg s f v).net = s.net ∧ (State.orReg s f v).mbx =
    s.mbx ∧ (State.orReg s f v).io = s.io ∧ (State.orReg s f v).pins = s.pins ∧ (State.orReg s f v).aux = s.aux ∧
    (State.orReg s f v).clk = s.clk ∧ (State.orReg s f v).pwr = s.pwr ∧ (State.orReg s f v).boot = s.boot ∧
    (State.orReg s f v).thm = s.thm ∧ (State.orReg s f v).ddr = s.ddr ∧ (State.orReg s f v).mram = s.mram ∧
    (State.orReg s f v).flash = s.flash ∧ (State.orReg s f v).flt = s.flt ∧ (State.orReg s f v).evt = s.evt := by
  unfold State.orReg
  simp
@[simp] theorem state_tookFree_keep (s : State) : (State.tookFree s).pending = s.pending ∧ (State.tookFree s).regs =
    s.regs ∧ (State.tookFree s).act = s.act ∧ (State.tookFree s).lt = s.lt ∧ (State.tookFree s).synced = s.synced ∧
    (State.tookFree s).dram = s.dram ∧ (State.tookFree s).scan = s.scan ∧ (State.tookFree s).pix = s.pix ∧
    (State.tookFree s).gal = s.gal ∧ (State.tookFree s).eng = s.eng ∧ (State.tookFree s).stats = s.stats ∧
    (State.tookFree s).shd = s.shd ∧ (State.tookFree s).guard = s.guard ∧ (State.tookFree s).diag = s.diag ∧
    (State.tookFree s).cal = s.cal ∧ (State.tookFree s).net = s.net ∧ (State.tookFree s).mbx = s.mbx ∧ (State.tookFree
    s).io = s.io ∧ (State.tookFree s).pins = s.pins ∧ (State.tookFree s).aux = s.aux ∧ (State.tookFree s).clk = s.clk
    ∧ (State.tookFree s).pwr = s.pwr ∧ (State.tookFree s).boot = s.boot ∧ (State.tookFree s).thm = s.thm ∧
    (State.tookFree s).ddr = s.ddr ∧ (State.tookFree s).mram = s.mram ∧ (State.tookFree s).flash = s.flash ∧
    (State.tookFree s).flt = s.flt ∧ (State.tookFree s).evt = s.evt := by
  unfold State.tookFree
  simp
@[simp] theorem state_dramPut_keep (s : State) (a : Nat) (v : List Byte) : (State.dramPut s a v).pending = s.pending ∧
    (State.dramPut s a v).regs = s.regs ∧ (State.dramPut s a v).act = s.act ∧ (State.dramPut s a v).lt = s.lt ∧
    (State.dramPut s a v).synced = s.synced ∧ (State.dramPut s a v).free = s.free ∧ (State.dramPut s a v).scan =
    s.scan ∧ (State.dramPut s a v).pix = s.pix ∧ (State.dramPut s a v).gal = s.gal ∧ (State.dramPut s a v).eng = s.eng
    ∧ (State.dramPut s a v).stats = s.stats ∧ (State.dramPut s a v).shd = s.shd ∧ (State.dramPut s a v).guard =
    s.guard ∧ (State.dramPut s a v).diag = s.diag ∧ (State.dramPut s a v).cal = s.cal ∧ (State.dramPut s a v).net =
    s.net ∧ (State.dramPut s a v).mbx = s.mbx ∧ (State.dramPut s a v).io = s.io ∧ (State.dramPut s a v).pins = s.pins
    ∧ (State.dramPut s a v).aux = s.aux ∧ (State.dramPut s a v).clk = s.clk ∧ (State.dramPut s a v).pwr = s.pwr ∧
    (State.dramPut s a v).boot = s.boot ∧ (State.dramPut s a v).thm = s.thm ∧ (State.dramPut s a v).ddr = s.ddr ∧
    (State.dramPut s a v).mram = s.mram ∧ (State.dramPut s a v).flash = s.flash ∧ (State.dramPut s a v).flt = s.flt ∧
    (State.dramPut s a v).evt = s.evt := by
  unfold State.dramPut
  simp
@[simp] theorem dramExit_keep (s : State) : (dramExit s).pending = s.pending ∧ (dramExit s).act = s.act ∧ (dramExit
    s).lt = s.lt ∧ (dramExit s).synced = s.synced ∧ (dramExit s).free = s.free ∧ (dramExit s).dram = s.dram ∧
    (dramExit s).scan = s.scan ∧ (dramExit s).pix = s.pix ∧ (dramExit s).gal = s.gal ∧ (dramExit s).eng = s.eng ∧
    (dramExit s).stats = s.stats ∧ (dramExit s).shd = s.shd ∧ (dramExit s).guard = s.guard ∧ (dramExit s).diag =
    s.diag ∧ (dramExit s).cal = s.cal ∧ (dramExit s).net = s.net ∧ (dramExit s).mbx = s.mbx ∧ (dramExit s).io = s.io ∧
    (dramExit s).pins = s.pins ∧ (dramExit s).aux = s.aux ∧ (dramExit s).clk = s.clk ∧ (dramExit s).pwr = s.pwr ∧
    (dramExit s).boot = s.boot ∧ (dramExit s).thm = s.thm ∧ (dramExit s).mram = s.mram ∧ (dramExit s).flash = s.flash
    ∧ (dramExit s).flt = s.flt ∧ (dramExit s).evt = s.evt := by
  unfold dramExit
  simp
def dramExitRegs : List Field := [DDRC.SR_TIME.TIME, DDRC.STATUS.POWER_DOWN, DDRC.STATUS.SELF_REFRESH]
@[simp] theorem dramExit_word {key : Nat} (hk : Outside dramExitRegs key) (s : State)  : wordAt (dramExit s).regs key
    = wordAt s.regs key := by
  simp only [dramExitRegs, outside_append, outside_cons, outside_nil, and_true] at hk
  unfold dramExit
  simp [hk]
@[simp] theorem dramSelfRefresh_keep (s : State) : (dramSelfRefresh s).pending = s.pending ∧ (dramSelfRefresh s).act =
    s.act ∧ (dramSelfRefresh s).lt = s.lt ∧ (dramSelfRefresh s).synced = s.synced ∧ (dramSelfRefresh s).free = s.free
    ∧ (dramSelfRefresh s).dram = s.dram ∧ (dramSelfRefresh s).scan = s.scan ∧ (dramSelfRefresh s).pix = s.pix ∧
    (dramSelfRefresh s).gal = s.gal ∧ (dramSelfRefresh s).eng = s.eng ∧ (dramSelfRefresh s).stats = s.stats ∧
    (dramSelfRefresh s).shd = s.shd ∧ (dramSelfRefresh s).guard = s.guard ∧ (dramSelfRefresh s).diag = s.diag ∧
    (dramSelfRefresh s).cal = s.cal ∧ (dramSelfRefresh s).net = s.net ∧ (dramSelfRefresh s).mbx = s.mbx ∧
    (dramSelfRefresh s).io = s.io ∧ (dramSelfRefresh s).pins = s.pins ∧ (dramSelfRefresh s).aux = s.aux ∧
    (dramSelfRefresh s).clk = s.clk ∧ (dramSelfRefresh s).pwr = s.pwr ∧ (dramSelfRefresh s).boot = s.boot ∧
    (dramSelfRefresh s).thm = s.thm ∧ (dramSelfRefresh s).mram = s.mram ∧ (dramSelfRefresh s).flash = s.flash ∧
    (dramSelfRefresh s).flt = s.flt ∧ (dramSelfRefresh s).evt = s.evt := by
  unfold dramSelfRefresh
  simp
def dramSelfRefreshRegs : List Field := [DDRC.STATUS.POWER_DOWN, DDRC.STATUS.SELF_REFRESH]
@[simp] theorem dramSelfRefresh_word {key : Nat} (hk : Outside dramSelfRefreshRegs key) (s : State)  : wordAt
    (dramSelfRefresh s).regs key = wordAt s.regs key := by
  simp only [dramSelfRefreshRegs, outside_append, outside_cons, outside_nil, and_true] at hk
  unfold dramSelfRefresh
  simp [hk]
@[simp] theorem state_setGroup_keep (s : State) (g : Nat) (v : Group) : (State.setGroup s g v).pending = s.pending ∧
    (State.setGroup s g v).regs = s.regs ∧ (State.setGroup s g v).act = s.act ∧ (State.setGroup s g v).lt = s.lt ∧
    (State.setGroup s g v).synced = s.synced ∧ (State.setGroup s g v).free = s.free ∧ (State.setGroup s g v).dram =
    s.dram ∧ (State.setGroup s g v).pix = s.pix ∧ (State.setGroup s g v).gal = s.gal ∧ (State.setGroup s g v).eng =
    s.eng ∧ (State.setGroup s g v).stats = s.stats ∧ (State.setGroup s g v).shd = s.shd ∧ (State.setGroup s g v).guard
    = s.guard ∧ (State.setGroup s g v).diag = s.diag ∧ (State.setGroup s g v).cal = s.cal ∧ (State.setGroup s g v).net
    = s.net ∧ (State.setGroup s g v).mbx = s.mbx ∧ (State.setGroup s g v).io = s.io ∧ (State.setGroup s g v).pins =
    s.pins ∧ (State.setGroup s g v).aux = s.aux ∧ (State.setGroup s g v).clk = s.clk ∧ (State.setGroup s g v).pwr =
    s.pwr ∧ (State.setGroup s g v).boot = s.boot ∧ (State.setGroup s g v).thm = s.thm ∧ (State.setGroup s g v).ddr =
    s.ddr ∧ (State.setGroup s g v).mram = s.mram ∧ (State.setGroup s g v).flash = s.flash ∧ (State.setGroup s g v).flt
    = s.flt ∧ (State.setGroup s g v).evt = s.evt := by
  unfold State.setGroup
  simp

end Sys2Proof.Machine
end

