-- ==== Sys2Proof/Laws/FrameFlags.lean ====
section
/-! SUPPORT. FrameFlags.lean: for each operation of Machine/Flags.lean, the parts of State that it leaves alone and the register
fields outside which it changes none. -/

set_option linter.unusedSimpArgs false

namespace Sys2Proof.Machine

set_option Elab.async false

@[simp] theorem raiseEventInj_keep (s : State) (code : Nat) (inj : Bool) (args : List Byte) : (raiseEventInj s code
    inj args).pending = s.pending ∧ (raiseEventInj s code inj args).regs = s.regs ∧ (raiseEventInj s code inj
    args).act = s.act ∧ (raiseEventInj s code inj args).lt = s.lt ∧ (raiseEventInj s code inj args).synced = s.synced
    ∧ (raiseEventInj s code inj args).free = s.free ∧ (raiseEventInj s code inj args).dram = s.dram ∧ (raiseEventInj s
    code inj args).scan = s.scan ∧ (raiseEventInj s code inj args).pix = s.pix ∧ (raiseEventInj s code inj args).gal =
    s.gal ∧ (raiseEventInj s code inj args).eng = s.eng ∧ (raiseEventInj s code inj args).stats = s.stats ∧
    (raiseEventInj s code inj args).shd = s.shd ∧ (raiseEventInj s code inj args).guard = s.guard ∧ (raiseEventInj s
    code inj args).diag = s.diag ∧ (raiseEventInj s code inj args).cal = s.cal ∧ (raiseEventInj s code inj args).net =
    s.net ∧ (raiseEventInj s code inj args).mbx = s.mbx ∧ (raiseEventInj s code inj args).io = s.io ∧ (raiseEventInj s
    code inj args).pins = s.pins ∧ (raiseEventInj s code inj args).aux = s.aux ∧ (raiseEventInj s code inj args).clk =
    s.clk ∧ (raiseEventInj s code inj args).pwr = s.pwr ∧ (raiseEventInj s code inj args).boot = s.boot ∧
    (raiseEventInj s code inj args).thm = s.thm ∧ (raiseEventInj s code inj args).ddr = s.ddr ∧ (raiseEventInj s code
    inj args).mram = s.mram ∧ (raiseEventInj s code inj args).flash = s.flash ∧ (raiseEventInj s code inj args).evt =
    s.evt := by
  unfold raiseEventInj
  simp
@[simp] theorem raiseEvent_keep (s : State) (code : Nat) (args : List Byte) : (raiseEvent s code args).pending =
    s.pending ∧ (raiseEvent s code args).regs = s.regs ∧ (raiseEvent s code args).act = s.act ∧ (raiseEvent s code
    args).lt = s.lt ∧ (raiseEvent s code args).synced = s.synced ∧ (raiseEvent s code args).free = s.free ∧
    (raiseEvent s code args).dram = s.dram ∧ (raiseEvent s code args).scan = s.scan ∧ (raiseEvent s code args).pix =
    s.pix ∧ (raiseEvent s code args).gal = s.gal ∧ (raiseEvent s code args).eng = s.eng ∧ (raiseEvent s code
    args).stats = s.stats ∧ (raiseEvent s code args).shd = s.shd ∧ (raiseEvent s code args).guard = s.guard ∧
    (raiseEvent s code args).diag = s.diag ∧ (raiseEvent s code args).cal = s.cal ∧ (raiseEvent s code args).net =
    s.net ∧ (raiseEvent s code args).mbx = s.mbx ∧ (raiseEvent s code args).io = s.io ∧ (raiseEvent s code args).pins
    = s.pins ∧ (raiseEvent s code args).aux = s.aux ∧ (raiseEvent s code args).clk = s.clk ∧ (raiseEvent s code
    args).pwr = s.pwr ∧ (raiseEvent s code args).boot = s.boot ∧ (raiseEvent s code args).thm = s.thm ∧ (raiseEvent s
    code args).ddr = s.ddr ∧ (raiseEvent s code args).mram = s.mram ∧ (raiseEvent s code args).flash = s.flash ∧
    (raiseEvent s code args).evt = s.evt := by
  unfold raiseEvent
  simp
@[simp] theorem raiseAonEvent_keep (s : State) (code : Nat) (args : List Byte) : (raiseAonEvent s code args).pending =
    s.pending ∧ (raiseAonEvent s code args).regs = s.regs ∧ (raiseAonEvent s code args).act = s.act ∧ (raiseAonEvent s
    code args).lt = s.lt ∧ (raiseAonEvent s code args).synced = s.synced ∧ (raiseAonEvent s code args).free = s.free ∧
    (raiseAonEvent s code args).dram = s.dram ∧ (raiseAonEvent s code args).scan = s.scan ∧ (raiseAonEvent s code
    args).pix = s.pix ∧ (raiseAonEvent s code args).gal = s.gal ∧ (raiseAonEvent s code args).eng = s.eng ∧
    (raiseAonEvent s code args).stats = s.stats ∧ (raiseAonEvent s code args).shd = s.shd ∧ (raiseAonEvent s code
    args).guard = s.guard ∧ (raiseAonEvent s code args).diag = s.diag ∧ (raiseAonEvent s code args).cal = s.cal ∧
    (raiseAonEvent s code args).net = s.net ∧ (raiseAonEvent s code args).mbx = s.mbx ∧ (raiseAonEvent s code args).io
    = s.io ∧ (raiseAonEvent s code args).pins = s.pins ∧ (raiseAonEvent s code args).aux = s.aux ∧ (raiseAonEvent s
    code args).clk = s.clk ∧ (raiseAonEvent s code args).pwr = s.pwr ∧ (raiseAonEvent s code args).boot = s.boot ∧
    (raiseAonEvent s code args).thm = s.thm ∧ (raiseAonEvent s code args).ddr = s.ddr ∧ (raiseAonEvent s code
    args).mram = s.mram ∧ (raiseAonEvent s code args).flash = s.flash ∧ (raiseAonEvent s code args).evt = s.evt := by
  unfold raiseAonEvent
  simp
@[simp] theorem enqueueEvent_keep (s : State) (e : EventRec) : (enqueueEvent s e).pending = s.pending ∧ (enqueueEvent
    s e).act = s.act ∧ (enqueueEvent s e).lt = s.lt ∧ (enqueueEvent s e).synced = s.synced ∧ (enqueueEvent s e).free =
    s.free ∧ (enqueueEvent s e).dram = s.dram ∧ (enqueueEvent s e).scan = s.scan ∧ (enqueueEvent s e).pix = s.pix ∧
    (enqueueEvent s e).gal = s.gal ∧ (enqueueEvent s e).eng = s.eng ∧ (enqueueEvent s e).stats = s.stats ∧
    (enqueueEvent s e).shd = s.shd ∧ (enqueueEvent s e).guard = s.guard ∧ (enqueueEvent s e).diag = s.diag ∧
    (enqueueEvent s e).cal = s.cal ∧ (enqueueEvent s e).net = s.net ∧ (enqueueEvent s e).mbx = s.mbx ∧ (enqueueEvent s
    e).io = s.io ∧ (enqueueEvent s e).pins = s.pins ∧ (enqueueEvent s e).aux = s.aux ∧ (enqueueEvent s e).clk = s.clk
    ∧ (enqueueEvent s e).pwr = s.pwr ∧ (enqueueEvent s e).boot = s.boot ∧ (enqueueEvent s e).thm = s.thm ∧
    (enqueueEvent s e).ddr = s.ddr ∧ (enqueueEvent s e).mram = s.mram ∧ (enqueueEvent s e).flash = s.flash ∧
    (enqueueEvent s e).flt = s.flt := by
  unfold enqueueEvent
  simp
def enqueueEventRegs : List Field := [MBX.EVT_COUNT.LOST]
@[simp] theorem enqueueEvent_word {key : Nat} (hk : Outside enqueueEventRegs key) (s : State) (e : EventRec)  : wordAt
    (enqueueEvent s e).regs key = wordAt s.regs key := by
  simp only [enqueueEventRegs, outside_append, outside_cons, outside_nil, and_true] at hk
  unfold enqueueEvent
  simp [hk]
@[simp] theorem dropEvents_keep (s : State) (n : Nat) : (dropEvents s n).pending = s.pending ∧ (dropEvents s n).regs =
    s.regs ∧ (dropEvents s n).act = s.act ∧ (dropEvents s n).lt = s.lt ∧ (dropEvents s n).synced = s.synced ∧
    (dropEvents s n).free = s.free ∧ (dropEvents s n).dram = s.dram ∧ (dropEvents s n).scan = s.scan ∧ (dropEvents s
    n).pix = s.pix ∧ (dropEvents s n).gal = s.gal ∧ (dropEvents s n).eng = s.eng ∧ (dropEvents s n).stats = s.stats ∧
    (dropEvents s n).shd = s.shd ∧ (dropEvents s n).guard = s.guard ∧ (dropEvents s n).diag = s.diag ∧ (dropEvents s
    n).cal = s.cal ∧ (dropEvents s n).net = s.net ∧ (dropEvents s n).mbx = s.mbx ∧ (dropEvents s n).io = s.io ∧
    (dropEvents s n).pins = s.pins ∧ (dropEvents s n).aux = s.aux ∧ (dropEvents s n).clk = s.clk ∧ (dropEvents s
    n).pwr = s.pwr ∧ (dropEvents s n).boot = s.boot ∧ (dropEvents s n).thm = s.thm ∧ (dropEvents s n).ddr = s.ddr ∧
    (dropEvents s n).mram = s.mram ∧ (dropEvents s n).flash = s.flash := by
  unfold dropEvents
  simp
@[simp] theorem allFallback_keep (s : State) : (allFallback s).pending = s.pending ∧ (allFallback s).regs = s.regs ∧
    (allFallback s).act = s.act ∧ (allFallback s).lt = s.lt ∧ (allFallback s).synced = s.synced ∧ (allFallback s).free
    = s.free ∧ (allFallback s).dram = s.dram ∧ (allFallback s).pix = s.pix ∧ (allFallback s).gal = s.gal ∧
    (allFallback s).eng = s.eng ∧ (allFallback s).stats = s.stats ∧ (allFallback s).shd = s.shd ∧ (allFallback
    s).guard = s.guard ∧ (allFallback s).diag = s.diag ∧ (allFallback s).cal = s.cal ∧ (allFallback s).net = s.net ∧
    (allFallback s).mbx = s.mbx ∧ (allFallback s).io = s.io ∧ (allFallback s).pins = s.pins ∧ (allFallback s).aux =
    s.aux ∧ (allFallback s).clk = s.clk ∧ (allFallback s).pwr = s.pwr ∧ (allFallback s).boot = s.boot ∧ (allFallback
    s).thm = s.thm ∧ (allFallback s).ddr = s.ddr ∧ (allFallback s).mram = s.mram ∧ (allFallback s).flash = s.flash ∧
    (allFallback s).flt = s.flt ∧ (allFallback s).evt = s.evt := by
  unfold allFallback
  simp
@[simp] theorem enterFallback_keep (s : State) (inj : Bool) : (enterFallback s inj).pending = s.pending ∧
    (enterFallback s inj).act = s.act ∧ (enterFallback s inj).lt = s.lt ∧ (enterFallback s inj).synced = s.synced ∧
    (enterFallback s inj).free = s.free ∧ (enterFallback s inj).dram = s.dram ∧ (enterFallback s inj).pix = s.pix ∧
    (enterFallback s inj).gal = s.gal ∧ (enterFallback s inj).eng = s.eng ∧ (enterFallback s inj).stats = s.stats ∧
    (enterFallback s inj).shd = s.shd ∧ (enterFallback s inj).guard = s.guard ∧ (enterFallback s inj).diag = s.diag ∧
    (enterFallback s inj).cal = s.cal ∧ (enterFallback s inj).net = s.net ∧ (enterFallback s inj).mbx = s.mbx ∧
    (enterFallback s inj).io = s.io ∧ (enterFallback s inj).pins = s.pins ∧ (enterFallback s inj).aux = s.aux ∧
    (enterFallback s inj).clk = s.clk ∧ (enterFallback s inj).pwr = s.pwr ∧ (enterFallback s inj).boot = s.boot ∧
    (enterFallback s inj).thm = s.thm ∧ (enterFallback s inj).ddr = s.ddr ∧ (enterFallback s inj).mram = s.mram ∧
    (enterFallback s inj).flash = s.flash ∧ (enterFallback s inj).evt = s.evt := by
  unfold enterFallback
  simp
def enterFallbackRegs : List Field := [SAFE.FB_ENTRIES.VALUE, SCAN.FB_CTRL.RESET_LONG_ROM]
@[simp] theorem enterFallback_word {key : Nat} (hk : Outside enterFallbackRegs key) (s : State) (inj : Bool)  : wordAt
    (enterFallback s inj).regs key = wordAt s.regs key := by
  simp only [enterFallbackRegs, outside_append, outside_cons, outside_nil, and_true] at hk
  unfold enterFallback
  simp [hk]
@[simp] theorem assertErr_keep (s : State) (f : Flt → Flt) : (assertErr s f).pending = s.pending ∧ (assertErr s
    f).regs = s.regs ∧ (assertErr s f).act = s.act ∧ (assertErr s f).lt = s.lt ∧ (assertErr s f).synced = s.synced ∧
    (assertErr s f).free = s.free ∧ (assertErr s f).dram = s.dram ∧ (assertErr s f).scan = s.scan ∧ (assertErr s
    f).pix = s.pix ∧ (assertErr s f).gal = s.gal ∧ (assertErr s f).eng = s.eng ∧ (assertErr s f).stats = s.stats ∧
    (assertErr s f).shd = s.shd ∧ (assertErr s f).guard = s.guard ∧ (assertErr s f).diag = s.diag ∧ (assertErr s
    f).cal = s.cal ∧ (assertErr s f).net = s.net ∧ (assertErr s f).mbx = s.mbx ∧ (assertErr s f).io = s.io ∧
    (assertErr s f).pins = s.pins ∧ (assertErr s f).aux = s.aux ∧ (assertErr s f).clk = s.clk ∧ (assertErr s f).pwr =
    s.pwr ∧ (assertErr s f).boot = s.boot ∧ (assertErr s f).thm = s.thm ∧ (assertErr s f).ddr = s.ddr ∧ (assertErr s
    f).mram = s.mram ∧ (assertErr s f).flash = s.flash ∧ (assertErr s f).evt = s.evt := by
  unfold assertErr
  simp
@[simp] theorem raiseCauseInj_keep (s : State) (c : Field) (inj : Bool) : (raiseCauseInj s c inj).pending = s.pending
    ∧ (raiseCauseInj s c inj).act = s.act ∧ (raiseCauseInj s c inj).lt = s.lt ∧ (raiseCauseInj s c inj).synced =
    s.synced ∧ (raiseCauseInj s c inj).free = s.free ∧ (raiseCauseInj s c inj).dram = s.dram ∧ (raiseCauseInj s c
    inj).pix = s.pix ∧ (raiseCauseInj s c inj).gal = s.gal ∧ (raiseCauseInj s c inj).eng = s.eng ∧ (raiseCauseInj s c
    inj).stats = s.stats ∧ (raiseCauseInj s c inj).shd = s.shd ∧ (raiseCauseInj s c inj).guard = s.guard ∧
    (raiseCauseInj s c inj).diag = s.diag ∧ (raiseCauseInj s c inj).cal = s.cal ∧ (raiseCauseInj s c inj).net = s.net
    ∧ (raiseCauseInj s c inj).mbx = s.mbx ∧ (raiseCauseInj s c inj).io = s.io ∧ (raiseCauseInj s c inj).pins = s.pins
    ∧ (raiseCauseInj s c inj).aux = s.aux ∧ (raiseCauseInj s c inj).clk = s.clk ∧ (raiseCauseInj s c inj).pwr = s.pwr
    ∧ (raiseCauseInj s c inj).boot = s.boot ∧ (raiseCauseInj s c inj).thm = s.thm ∧ (raiseCauseInj s c inj).ddr =
    s.ddr ∧ (raiseCauseInj s c inj).mram = s.mram ∧ (raiseCauseInj s c inj).flash = s.flash ∧ (raiseCauseInj s c
    inj).evt = s.evt := by
  unfold raiseCauseInj
  simp
def raiseCauseInjRegs : List Field := enterFallbackRegs
@[simp] theorem raiseCauseInj_word {key : Nat} (hk : Outside raiseCauseInjRegs key) (s : State) (c : Field) (inj :
    Bool) (hc : fieldKey c ≠ key) : wordAt (raiseCauseInj s c inj).regs key = wordAt s.regs key := by
  unfold raiseCauseInj
  (repeat' split) <;> simp [enterFallback_word hk, hc]
@[simp] theorem raiseCause_keep (s : State) (c : Field) : (raiseCause s c).pending = s.pending ∧ (raiseCause s c).act
    = s.act ∧ (raiseCause s c).lt = s.lt ∧ (raiseCause s c).synced = s.synced ∧ (raiseCause s c).free = s.free ∧
    (raiseCause s c).dram = s.dram ∧ (raiseCause s c).pix = s.pix ∧ (raiseCause s c).gal = s.gal ∧ (raiseCause s
    c).eng = s.eng ∧ (raiseCause s c).stats = s.stats ∧ (raiseCause s c).shd = s.shd ∧ (raiseCause s c).guard =
    s.guard ∧ (raiseCause s c).diag = s.diag ∧ (raiseCause s c).cal = s.cal ∧ (raiseCause s c).net = s.net ∧
    (raiseCause s c).mbx = s.mbx ∧ (raiseCause s c).io = s.io ∧ (raiseCause s c).pins = s.pins ∧ (raiseCause s c).aux
    = s.aux ∧ (raiseCause s c).clk = s.clk ∧ (raiseCause s c).pwr = s.pwr ∧ (raiseCause s c).boot = s.boot ∧
    (raiseCause s c).thm = s.thm ∧ (raiseCause s c).ddr = s.ddr ∧ (raiseCause s c).mram = s.mram ∧ (raiseCause s
    c).flash = s.flash ∧ (raiseCause s c).evt = s.evt := by
  unfold raiseCause
  simp
def raiseCauseRegs : List Field := raiseCauseInjRegs
@[simp] theorem raiseCause_word {key : Nat} (hk : Outside raiseCauseRegs key) (s : State) (c : Field) (hc : fieldKey c
    ≠ key) : wordAt (raiseCause s c).regs key = wordAt s.regs key := by
  unfold raiseCause
  simp [raiseCauseInj_word hk, hc]
@[simp] theorem clearCause_keep (s : State) (c : Field) : (clearCause s c).pending = s.pending ∧ (clearCause s c).act
    = s.act ∧ (clearCause s c).lt = s.lt ∧ (clearCause s c).synced = s.synced ∧ (clearCause s c).free = s.free ∧
    (clearCause s c).dram = s.dram ∧ (clearCause s c).scan = s.scan ∧ (clearCause s c).pix = s.pix ∧ (clearCause s
    c).gal = s.gal ∧ (clearCause s c).eng = s.eng ∧ (clearCause s c).stats = s.stats ∧ (clearCause s c).shd = s.shd ∧
    (clearCause s c).guard = s.guard ∧ (clearCause s c).diag = s.diag ∧ (clearCause s c).cal = s.cal ∧ (clearCause s
    c).net = s.net ∧ (clearCause s c).mbx = s.mbx ∧ (clearCause s c).io = s.io ∧ (clearCause s c).pins = s.pins ∧
    (clearCause s c).aux = s.aux ∧ (clearCause s c).clk = s.clk ∧ (clearCause s c).pwr = s.pwr ∧ (clearCause s c).boot
    = s.boot ∧ (clearCause s c).thm = s.thm ∧ (clearCause s c).ddr = s.ddr ∧ (clearCause s c).mram = s.mram ∧
    (clearCause s c).flash = s.flash ∧ (clearCause s c).evt = s.evt := by
  unfold clearCause
  simp
def clearCauseRegs : List Field := []
@[simp] theorem clearCause_word {key : Nat} (hk : Outside clearCauseRegs key) (s : State) (c : Field) (hc : fieldKey c
    ≠ key) : wordAt (clearCause s c).regs key = wordAt s.regs key := by
  unfold clearCause
  (repeat' split) <;> simp [hc]
@[simp] theorem fatalAtDetection_keep (s : State) (src cls : Nat) (inj : Bool) : (fatalAtDetection s src cls
    inj).pending = s.pending ∧ (fatalAtDetection s src cls inj).act = s.act ∧ (fatalAtDetection s src cls inj).lt =
    s.lt ∧ (fatalAtDetection s src cls inj).synced = s.synced ∧ (fatalAtDetection s src cls inj).free = s.free ∧
    (fatalAtDetection s src cls inj).dram = s.dram ∧ (fatalAtDetection s src cls inj).pix = s.pix ∧ (fatalAtDetection
    s src cls inj).gal = s.gal ∧ (fatalAtDetection s src cls inj).eng = s.eng ∧ (fatalAtDetection s src cls inj).stats
    = s.stats ∧ (fatalAtDetection s src cls inj).shd = s.shd ∧ (fatalAtDetection s src cls inj).guard = s.guard ∧
    (fatalAtDetection s src cls inj).diag = s.diag ∧ (fatalAtDetection s src cls inj).cal = s.cal ∧ (fatalAtDetection
    s src cls inj).net = s.net ∧ (fatalAtDetection s src cls inj).mbx = s.mbx ∧ (fatalAtDetection s src cls inj).io =
    s.io ∧ (fatalAtDetection s src cls inj).pins = s.pins ∧ (fatalAtDetection s src cls inj).aux = s.aux ∧
    (fatalAtDetection s src cls inj).clk = s.clk ∧ (fatalAtDetection s src cls inj).pwr = s.pwr ∧ (fatalAtDetection s
    src cls inj).boot = s.boot ∧ (fatalAtDetection s src cls inj).thm = s.thm ∧ (fatalAtDetection s src cls inj).ddr =
    s.ddr ∧ (fatalAtDetection s src cls inj).mram = s.mram ∧ (fatalAtDetection s src cls inj).flash = s.flash ∧
    (fatalAtDetection s src cls inj).evt = s.evt := by
  unfold fatalAtDetection
  simp
def fatalAtDetectionRegs : List Field := raiseCauseInjRegs ++ [SAFE.FB_CAUSE.FATAL]
@[simp] theorem fatalAtDetection_word {key : Nat} (hk : Outside fatalAtDetectionRegs key) (s : State) (src cls : Nat)
    (inj : Bool)  : wordAt (fatalAtDetection s src cls inj).regs key = wordAt s.regs key := by
  simp only [fatalAtDetectionRegs, outside_append, outside_cons, outside_nil, and_true] at hk
  unfold fatalAtDetection
  simp [hk]
@[simp] theorem raiseFault_keep (s : State) (src cls : Nat) : (raiseFault s src cls).pending = s.pending ∧ (raiseFault
    s src cls).act = s.act ∧ (raiseFault s src cls).lt = s.lt ∧ (raiseFault s src cls).synced = s.synced ∧ (raiseFault
    s src cls).free = s.free ∧ (raiseFault s src cls).dram = s.dram ∧ (raiseFault s src cls).pix = s.pix ∧ (raiseFault
    s src cls).gal = s.gal ∧ (raiseFault s src cls).eng = s.eng ∧ (raiseFault s src cls).stats = s.stats ∧ (raiseFault
    s src cls).shd = s.shd ∧ (raiseFault s src cls).guard = s.guard ∧ (raiseFault s src cls).diag = s.diag ∧
    (raiseFault s src cls).cal = s.cal ∧ (raiseFault s src cls).net = s.net ∧ (raiseFault s src cls).mbx = s.mbx ∧
    (raiseFault s src cls).io = s.io ∧ (raiseFault s src cls).pins = s.pins ∧ (raiseFault s src cls).aux = s.aux ∧
    (raiseFault s src cls).clk = s.clk ∧ (raiseFault s src cls).pwr = s.pwr ∧ (raiseFault s src cls).boot = s.boot ∧
    (raiseFault s src cls).thm = s.thm ∧ (raiseFault s src cls).ddr = s.ddr ∧ (raiseFault s src cls).mram = s.mram ∧
    (raiseFault s src cls).flash = s.flash ∧ (raiseFault s src cls).evt = s.evt := by
  unfold raiseFault
  simp
def raiseFaultRegs : List Field := fatalAtDetectionRegs ++ allOf 96 FLT.COUNT.COUNT
@[simp] theorem raiseFault_word {key : Nat} (hk : Outside raiseFaultRegs key) (s : State) (src cls : Nat)  : wordAt
    (raiseFault s src cls).regs key = wordAt s.regs key := by
  simp only [raiseFaultRegs, outside_append, outside_cons, outside_nil, and_true, outside_FLT_COUNT_COUNT] at hk
  unfold raiseFault
  simp [hk]
@[simp] theorem raiseInjected_keep (s : State) (src cls : Nat) : (raiseInjected s src cls).pending = s.pending ∧
    (raiseInjected s src cls).act = s.act ∧ (raiseInjected s src cls).lt = s.lt ∧ (raiseInjected s src cls).synced =
    s.synced ∧ (raiseInjected s src cls).free = s.free ∧ (raiseInjected s src cls).dram = s.dram ∧ (raiseInjected s
    src cls).pix = s.pix ∧ (raiseInjected s src cls).gal = s.gal ∧ (raiseInjected s src cls).eng = s.eng ∧
    (raiseInjected s src cls).stats = s.stats ∧ (raiseInjected s src cls).shd = s.shd ∧ (raiseInjected s src
    cls).guard = s.guard ∧ (raiseInjected s src cls).diag = s.diag ∧ (raiseInjected s src cls).cal = s.cal ∧
    (raiseInjected s src cls).net = s.net ∧ (raiseInjected s src cls).mbx = s.mbx ∧ (raiseInjected s src cls).io =
    s.io ∧ (raiseInjected s src cls).pins = s.pins ∧ (raiseInjected s src cls).aux = s.aux ∧ (raiseInjected s src
    cls).clk = s.clk ∧ (raiseInjected s src cls).pwr = s.pwr ∧ (raiseInjected s src cls).boot = s.boot ∧
    (raiseInjected s src cls).thm = s.thm ∧ (raiseInjected s src cls).ddr = s.ddr ∧ (raiseInjected s src cls).mram =
    s.mram ∧ (raiseInjected s src cls).flash = s.flash ∧ (raiseInjected s src cls).evt = s.evt := by
  unfold raiseInjected
  simp
def raiseInjectedRegs : List Field := fatalAtDetectionRegs ++ [FLT.INJ_COUNT.COUNT]
@[simp] theorem raiseInjected_word {key : Nat} (hk : Outside raiseInjectedRegs key) (s : State) (src cls : Nat)  :
    wordAt (raiseInjected s src cls).regs key = wordAt s.regs key := by
  simp only [raiseInjectedRegs, outside_append, outside_cons, outside_nil, and_true] at hk
  unfold raiseInjected
  simp [hk]
@[simp] theorem raiseEither_keep (s : State) (inj : Bool) (src cls : Nat) : (raiseEither s inj src cls).pending =
    s.pending ∧ (raiseEither s inj src cls).act = s.act ∧ (raiseEither s inj src cls).lt = s.lt ∧ (raiseEither s inj
    src cls).synced = s.synced ∧ (raiseEither s inj src cls).free = s.free ∧ (raiseEither s inj src cls).dram = s.dram
    ∧ (raiseEither s inj src cls).pix = s.pix ∧ (raiseEither s inj src cls).gal = s.gal ∧ (raiseEither s inj src
    cls).eng = s.eng ∧ (raiseEither s inj src cls).stats = s.stats ∧ (raiseEither s inj src cls).shd = s.shd ∧
    (raiseEither s inj src cls).guard = s.guard ∧ (raiseEither s inj src cls).diag = s.diag ∧ (raiseEither s inj src
    cls).cal = s.cal ∧ (raiseEither s inj src cls).net = s.net ∧ (raiseEither s inj src cls).mbx = s.mbx ∧
    (raiseEither s inj src cls).io = s.io ∧ (raiseEither s inj src cls).pins = s.pins ∧ (raiseEither s inj src
    cls).aux = s.aux ∧ (raiseEither s inj src cls).clk = s.clk ∧ (raiseEither s inj src cls).pwr = s.pwr ∧
    (raiseEither s inj src cls).boot = s.boot ∧ (raiseEither s inj src cls).thm = s.thm ∧ (raiseEither s inj src
    cls).ddr = s.ddr ∧ (raiseEither s inj src cls).mram = s.mram ∧ (raiseEither s inj src cls).flash = s.flash ∧
    (raiseEither s inj src cls).evt = s.evt := by
  unfold raiseEither
  simp
def raiseEitherRegs : List Field := raiseInjectedRegs ++ raiseFaultRegs
@[simp] theorem raiseEither_word {key : Nat} (hk : Outside raiseEitherRegs key) (s : State) (inj : Bool) (src cls :
    Nat)  : wordAt (raiseEither s inj src cls).regs key = wordAt s.regs key := by
  simp only [raiseEitherRegs, outside_append, outside_cons, outside_nil, and_true] at hk
  unfold raiseEither
  simp [hk]
@[simp] theorem state_takeInj_keep (s : State) (src : Nat) : (State.takeInj s src).pending = s.pending ∧
    (State.takeInj s src).regs = s.regs ∧ (State.takeInj s src).act = s.act ∧ (State.takeInj s src).lt = s.lt ∧
    (State.takeInj s src).synced = s.synced ∧ (State.takeInj s src).free = s.free ∧ (State.takeInj s src).dram =
    s.dram ∧ (State.takeInj s src).scan = s.scan ∧ (State.takeInj s src).pix = s.pix ∧ (State.takeInj s src).gal =
    s.gal ∧ (State.takeInj s src).eng = s.eng ∧ (State.takeInj s src).stats = s.stats ∧ (State.takeInj s src).shd =
    s.shd ∧ (State.takeInj s src).guard = s.guard ∧ (State.takeInj s src).diag = s.diag ∧ (State.takeInj s src).cal =
    s.cal ∧ (State.takeInj s src).net = s.net ∧ (State.takeInj s src).mbx = s.mbx ∧ (State.takeInj s src).io = s.io ∧
    (State.takeInj s src).pins = s.pins ∧ (State.takeInj s src).aux = s.aux ∧ (State.takeInj s src).clk = s.clk ∧
    (State.takeInj s src).pwr = s.pwr ∧ (State.takeInj s src).boot = s.boot ∧ (State.takeInj s src).thm = s.thm ∧
    (State.takeInj s src).ddr = s.ddr ∧ (State.takeInj s src).mram = s.mram ∧ (State.takeInj s src).flash = s.flash ∧
    (State.takeInj s src).evt = s.evt := by
  unfold State.takeInj
  simp
@[simp] theorem wign_keep (s : State) (n : Nat) : (wign s n).pending = s.pending ∧ (wign s n).act = s.act ∧ (wign s
    n).lt = s.lt ∧ (wign s n).synced = s.synced ∧ (wign s n).free = s.free ∧ (wign s n).dram = s.dram ∧ (wign s
    n).scan = s.scan ∧ (wign s n).pix = s.pix ∧ (wign s n).gal = s.gal ∧ (wign s n).eng = s.eng ∧ (wign s n).stats =
    s.stats ∧ (wign s n).shd = s.shd ∧ (wign s n).guard = s.guard ∧ (wign s n).diag = s.diag ∧ (wign s n).cal = s.cal
    ∧ (wign s n).net = s.net ∧ (wign s n).mbx = s.mbx ∧ (wign s n).io = s.io ∧ (wign s n).pins = s.pins ∧ (wign s
    n).aux = s.aux ∧ (wign s n).clk = s.clk ∧ (wign s n).pwr = s.pwr ∧ (wign s n).boot = s.boot ∧ (wign s n).thm =
    s.thm ∧ (wign s n).ddr = s.ddr ∧ (wign s n).mram = s.mram ∧ (wign s n).flash = s.flash ∧ (wign s n).flt = s.flt ∧
    (wign s n).evt = s.evt := by
  unfold wign
  simp
def wignRegs : List Field := [SYS.WIGN.BLOCK]
@[simp] theorem wign_word {key : Nat} (hk : Outside wignRegs key) (s : State) (n : Nat)  : wordAt (wign s n).regs key
    = wordAt s.regs key := by
  simp only [wignRegs, outside_append, outside_cons, outside_nil, and_true] at hk
  unfold wign
  simp [hk]

end Sys2Proof.Machine
end

