-- ==== Sys2Proof/Laws/FramePower.lean ====
section
/-! SUPPORT. FramePower.lean: for each operation of Machine/Power.lean, the parts of State that it leaves alone and the register
fields outside which it changes none. -/

set_option linter.unusedSimpArgs false

namespace Sys2Proof.Machine

set_option Elab.async false

@[simp] theorem sleepRefused_keep (s : State) (aborted : Bool) : (sleepRefused s aborted).pending = s.pending ∧
    (sleepRefused s aborted).regs = s.regs ∧ (sleepRefused s aborted).act = s.act ∧ (sleepRefused s aborted).lt = s.lt
    ∧ (sleepRefused s aborted).synced = s.synced ∧ (sleepRefused s aborted).free = s.free ∧ (sleepRefused s
    aborted).dram = s.dram ∧ (sleepRefused s aborted).scan = s.scan ∧ (sleepRefused s aborted).pix = s.pix ∧
    (sleepRefused s aborted).gal = s.gal ∧ (sleepRefused s aborted).eng = s.eng ∧ (sleepRefused s aborted).stats =
    s.stats ∧ (sleepRefused s aborted).shd = s.shd ∧ (sleepRefused s aborted).guard = s.guard ∧ (sleepRefused s
    aborted).diag = s.diag ∧ (sleepRefused s aborted).cal = s.cal ∧ (sleepRefused s aborted).net = s.net ∧
    (sleepRefused s aborted).mbx = s.mbx ∧ (sleepRefused s aborted).io = s.io ∧ (sleepRefused s aborted).pins = s.pins
    ∧ (sleepRefused s aborted).aux = s.aux ∧ (sleepRefused s aborted).clk = s.clk ∧ (sleepRefused s aborted).pwr =
    s.pwr ∧ (sleepRefused s aborted).boot = s.boot ∧ (sleepRefused s aborted).thm = s.thm ∧ (sleepRefused s
    aborted).ddr = s.ddr ∧ (sleepRefused s aborted).mram = s.mram ∧ (sleepRefused s aborted).flash = s.flash ∧
    (sleepRefused s aborted).evt = s.evt := by
  unfold sleepRefused
  simp
@[simp] theorem abortEntry_keep (s : State) : (abortEntry s).pending = s.pending ∧ (abortEntry s).act = s.act ∧
    (abortEntry s).lt = s.lt ∧ (abortEntry s).synced = s.synced ∧ (abortEntry s).free = s.free ∧ (abortEntry s).dram =
    s.dram ∧ (abortEntry s).scan = s.scan ∧ (abortEntry s).pix = s.pix ∧ (abortEntry s).gal = s.gal ∧ (abortEntry
    s).eng = s.eng ∧ (abortEntry s).stats = s.stats ∧ (abortEntry s).shd = s.shd ∧ (abortEntry s).guard = s.guard ∧
    (abortEntry s).diag = s.diag ∧ (abortEntry s).cal = s.cal ∧ (abortEntry s).net = s.net ∧ (abortEntry s).mbx =
    s.mbx ∧ (abortEntry s).io = s.io ∧ (abortEntry s).pins = s.pins ∧ (abortEntry s).aux = s.aux ∧ (abortEntry s).clk
    = s.clk ∧ (abortEntry s).pwr = s.pwr ∧ (abortEntry s).boot = s.boot ∧ (abortEntry s).thm = s.thm ∧ (abortEntry
    s).ddr = s.ddr ∧ (abortEntry s).mram = s.mram ∧ (abortEntry s).flash = s.flash ∧ (abortEntry s).evt = s.evt := by
  unfold abortEntry
  simp
def abortEntryRegs : List Field := [PWR.ABORT_COUNT.COUNT, PWR.STATE.STATE, PWR.STATUS.ABORTED]
@[simp] theorem abortEntry_word {key : Nat} (hk : Outside abortEntryRegs key) (s : State)  : wordAt (abortEntry
    s).regs key = wordAt s.regs key := by
  simp only [abortEntryRegs, outside_append, outside_cons, outside_nil, and_true] at hk
  unfold abortEntry
  simp [hk]
@[simp] theorem startWake_keep (s : State) (src : Nat) : (startWake s src).pending = s.pending ∧ (startWake s src).act
    = s.act ∧ (startWake s src).free = s.free ∧ (startWake s src).dram = s.dram ∧ (startWake s src).scan = s.scan ∧
    (startWake s src).pix = s.pix ∧ (startWake s src).gal = s.gal ∧ (startWake s src).eng = s.eng ∧ (startWake s
    src).stats = s.stats ∧ (startWake s src).shd = s.shd ∧ (startWake s src).guard = s.guard ∧ (startWake s src).diag
    = s.diag ∧ (startWake s src).cal = s.cal ∧ (startWake s src).net = s.net ∧ (startWake s src).mbx = s.mbx ∧
    (startWake s src).io = s.io ∧ (startWake s src).pins = s.pins ∧ (startWake s src).aux = s.aux ∧ (startWake s
    src).clk = s.clk ∧ (startWake s src).thm = s.thm ∧ (startWake s src).ddr = s.ddr ∧ (startWake s src).mram = s.mram
    ∧ (startWake s src).flash = s.flash ∧ (startWake s src).flt = s.flt ∧ (startWake s src).evt = s.evt := by
  unfold startWake
  simp
def startWakeRegs : List Field := [PWR.STATE.STATE, PWR.STATE.WAKE_SRC, SYS.RESET_CAUSE.CAUSE]
@[simp] theorem startWake_word {key : Nat} (hk : Outside startWakeRegs key) (s : State) (src : Nat)  : wordAt
    (startWake s src).regs key = wordAt s.regs key := by
  simp only [startWakeRegs, outside_append, outside_cons, outside_nil, and_true] at hk
  unfold startWake
  simp [hk]
@[simp] theorem wakeBy_keep (s : State) (src : Nat) : (wakeBy s src).pending = s.pending ∧ (wakeBy s src).act = s.act
    ∧ (wakeBy s src).free = s.free ∧ (wakeBy s src).dram = s.dram ∧ (wakeBy s src).scan = s.scan ∧ (wakeBy s src).pix
    = s.pix ∧ (wakeBy s src).gal = s.gal ∧ (wakeBy s src).eng = s.eng ∧ (wakeBy s src).stats = s.stats ∧ (wakeBy s
    src).shd = s.shd ∧ (wakeBy s src).guard = s.guard ∧ (wakeBy s src).diag = s.diag ∧ (wakeBy s src).cal = s.cal ∧
    (wakeBy s src).net = s.net ∧ (wakeBy s src).mbx = s.mbx ∧ (wakeBy s src).io = s.io ∧ (wakeBy s src).pins = s.pins
    ∧ (wakeBy s src).aux = s.aux ∧ (wakeBy s src).clk = s.clk ∧ (wakeBy s src).thm = s.thm ∧ (wakeBy s src).ddr =
    s.ddr ∧ (wakeBy s src).mram = s.mram ∧ (wakeBy s src).flash = s.flash ∧ (wakeBy s src).evt = s.evt := by
  unfold wakeBy
  split <;> simp
def wakeByRegs : List Field := abortEntryRegs ++ startWakeRegs
@[simp] theorem wakeBy_word {key : Nat} (hk : Outside wakeByRegs key) (s : State) (src : Nat)  : wordAt (wakeBy s
    src).regs key = wordAt s.regs key := by
  simp only [wakeByRegs, outside_append, outside_cons, outside_nil, and_true] at hk
  unfold wakeBy
  split <;> simp [hk]

end Sys2Proof.Machine
end

