-- ==== Sys2Proof/Laws/FramePixel.lean ====
section
/-! SUPPORT. FramePixel.lean: for each operation of Machine/Pixel.lean, the parts of State that it leaves alone and the register
fields outside which it changes none. -/

set_option linter.unusedSimpArgs false

namespace Sys2Proof.Machine

set_option Elab.async false

@[simp] theorem raiseFaultN_keep (s : State) (src cls n : Nat) : (raiseFaultN s src cls n).pending = s.pending ∧
    (raiseFaultN s src cls n).act = s.act ∧ (raiseFaultN s src cls n).lt = s.lt ∧ (raiseFaultN s src cls n).synced =
    s.synced ∧ (raiseFaultN s src cls n).free = s.free ∧ (raiseFaultN s src cls n).dram = s.dram ∧ (raiseFaultN s src
    cls n).pix = s.pix ∧ (raiseFaultN s src cls n).gal = s.gal ∧ (raiseFaultN s src cls n).eng = s.eng ∧ (raiseFaultN
    s src cls n).stats = s.stats ∧ (raiseFaultN s src cls n).shd = s.shd ∧ (raiseFaultN s src cls n).guard = s.guard ∧
    (raiseFaultN s src cls n).diag = s.diag ∧ (raiseFaultN s src cls n).cal = s.cal ∧ (raiseFaultN s src cls n).net =
    s.net ∧ (raiseFaultN s src cls n).mbx = s.mbx ∧ (raiseFaultN s src cls n).io = s.io ∧ (raiseFaultN s src cls
    n).pins = s.pins ∧ (raiseFaultN s src cls n).aux = s.aux ∧ (raiseFaultN s src cls n).clk = s.clk ∧ (raiseFaultN s
    src cls n).pwr = s.pwr ∧ (raiseFaultN s src cls n).boot = s.boot ∧ (raiseFaultN s src cls n).thm = s.thm ∧
    (raiseFaultN s src cls n).ddr = s.ddr ∧ (raiseFaultN s src cls n).mram = s.mram ∧ (raiseFaultN s src cls n).flash
    = s.flash ∧ (raiseFaultN s src cls n).evt = s.evt := by
  unfold raiseFaultN
  simp
def raiseFaultNRegs : List Field := raiseFaultRegs ++ allOf 96 FLT.COUNT.COUNT
@[simp] theorem raiseFaultN_word {key : Nat} (hk : Outside raiseFaultNRegs key) (s : State) (src cls n : Nat)  :
    wordAt (raiseFaultN s src cls n).regs key = wordAt s.regs key := by
  simp only [raiseFaultNRegs, outside_append, outside_cons, outside_nil, and_true, outside_FLT_COUNT_COUNT] at hk
  unfold raiseFaultN
  simp [hk]
@[simp] theorem writeTrimRow_keep (s : State) (r : Nat) (masks : List Nat) : (writeTrimRow s r masks).pending =
    s.pending ∧ (writeTrimRow s r masks).act = s.act ∧ (writeTrimRow s r masks).lt = s.lt ∧ (writeTrimRow s r
    masks).synced = s.synced ∧ (writeTrimRow s r masks).free = s.free ∧ (writeTrimRow s r masks).dram = s.dram ∧
    (writeTrimRow s r masks).gal = s.gal ∧ (writeTrimRow s r masks).eng = s.eng ∧ (writeTrimRow s r masks).stats =
    s.stats ∧ (writeTrimRow s r masks).shd = s.shd ∧ (writeTrimRow s r masks).guard = s.guard ∧ (writeTrimRow s r
    masks).diag = s.diag ∧ (writeTrimRow s r masks).cal = s.cal ∧ (writeTrimRow s r masks).net = s.net ∧ (writeTrimRow
    s r masks).mbx = s.mbx ∧ (writeTrimRow s r masks).io = s.io ∧ (writeTrimRow s r masks).pins = s.pins ∧
    (writeTrimRow s r masks).aux = s.aux ∧ (writeTrimRow s r masks).clk = s.clk ∧ (writeTrimRow s r masks).pwr = s.pwr
    ∧ (writeTrimRow s r masks).boot = s.boot ∧ (writeTrimRow s r masks).thm = s.thm ∧ (writeTrimRow s r masks).ddr =
    s.ddr ∧ (writeTrimRow s r masks).mram = s.mram ∧ (writeTrimRow s r masks).flash = s.flash ∧ (writeTrimRow s r
    masks).evt = s.evt := by
  unfold writeTrimRow
  simp
def writeTrimRowRegs : List Field := raiseFaultNRegs ++ [DIAG.TRIM_REJ.COUNT]
@[simp] theorem writeTrimRow_word {key : Nat} (hk : Outside writeTrimRowRegs key) (s : State) (r : Nat) (masks : List
    Nat)  : wordAt (writeTrimRow s r masks).regs key = wordAt s.regs key := by
  simp only [writeTrimRowRegs, outside_append, outside_cons, outside_nil, and_true] at hk
  unfold writeTrimRow
  simp [hk]
@[simp] theorem writeTrim_keep (s : State) (c r m : Nat) : (writeTrim s c r m).pending = s.pending ∧ (writeTrim s c r
    m).act = s.act ∧ (writeTrim s c r m).lt = s.lt ∧ (writeTrim s c r m).synced = s.synced ∧ (writeTrim s c r m).free
    = s.free ∧ (writeTrim s c r m).dram = s.dram ∧ (writeTrim s c r m).gal = s.gal ∧ (writeTrim s c r m).eng = s.eng ∧
    (writeTrim s c r m).stats = s.stats ∧ (writeTrim s c r m).shd = s.shd ∧ (writeTrim s c r m).guard = s.guard ∧
    (writeTrim s c r m).diag = s.diag ∧ (writeTrim s c r m).cal = s.cal ∧ (writeTrim s c r m).net = s.net ∧ (writeTrim
    s c r m).mbx = s.mbx ∧ (writeTrim s c r m).io = s.io ∧ (writeTrim s c r m).pins = s.pins ∧ (writeTrim s c r m).aux
    = s.aux ∧ (writeTrim s c r m).clk = s.clk ∧ (writeTrim s c r m).pwr = s.pwr ∧ (writeTrim s c r m).boot = s.boot ∧
    (writeTrim s c r m).thm = s.thm ∧ (writeTrim s c r m).ddr = s.ddr ∧ (writeTrim s c r m).mram = s.mram ∧ (writeTrim
    s c r m).flash = s.flash ∧ (writeTrim s c r m).evt = s.evt := by
  unfold writeTrim
  simp
def writeTrimRegs : List Field := writeTrimRowRegs
@[simp] theorem writeTrim_word {key : Nat} (hk : Outside writeTrimRegs key) (s : State) (c r m : Nat)  : wordAt
    (writeTrim s c r m).regs key = wordAt s.regs key := by
  simp only [writeTrimRegs, outside_append, outside_cons, outside_nil, and_true] at hk
  unfold writeTrim
  simp [hk]
@[simp] theorem applyTrim_keep (s : State) (g : Nat) : (applyTrim s g).pending = s.pending ∧ (applyTrim s g).regs =
    s.regs ∧ (applyTrim s g).act = s.act ∧ (applyTrim s g).lt = s.lt ∧ (applyTrim s g).synced = s.synced ∧ (applyTrim
    s g).free = s.free ∧ (applyTrim s g).dram = s.dram ∧ (applyTrim s g).scan = s.scan ∧ (applyTrim s g).gal = s.gal ∧
    (applyTrim s g).eng = s.eng ∧ (applyTrim s g).stats = s.stats ∧ (applyTrim s g).shd = s.shd ∧ (applyTrim s
    g).guard = s.guard ∧ (applyTrim s g).diag = s.diag ∧ (applyTrim s g).cal = s.cal ∧ (applyTrim s g).net = s.net ∧
    (applyTrim s g).mbx = s.mbx ∧ (applyTrim s g).io = s.io ∧ (applyTrim s g).pins = s.pins ∧ (applyTrim s g).aux =
    s.aux ∧ (applyTrim s g).clk = s.clk ∧ (applyTrim s g).pwr = s.pwr ∧ (applyTrim s g).boot = s.boot ∧ (applyTrim s
    g).thm = s.thm ∧ (applyTrim s g).ddr = s.ddr ∧ (applyTrim s g).mram = s.mram ∧ (applyTrim s g).flash = s.flash ∧
    (applyTrim s g).flt = s.flt ∧ (applyTrim s g).evt = s.evt := by
  unfold applyTrim
  simp
@[simp] theorem drainHold_keep (s : State) (g : Nat) : (drainHold s g).pending = s.pending ∧ (drainHold s g).regs =
    s.regs ∧ (drainHold s g).act = s.act ∧ (drainHold s g).lt = s.lt ∧ (drainHold s g).synced = s.synced ∧ (drainHold
    s g).free = s.free ∧ (drainHold s g).dram = s.dram ∧ (drainHold s g).gal = s.gal ∧ (drainHold s g).eng = s.eng ∧
    (drainHold s g).stats = s.stats ∧ (drainHold s g).shd = s.shd ∧ (drainHold s g).guard = s.guard ∧ (drainHold s
    g).diag = s.diag ∧ (drainHold s g).cal = s.cal ∧ (drainHold s g).net = s.net ∧ (drainHold s g).mbx = s.mbx ∧
    (drainHold s g).io = s.io ∧ (drainHold s g).pins = s.pins ∧ (drainHold s g).aux = s.aux ∧ (drainHold s g).clk =
    s.clk ∧ (drainHold s g).pwr = s.pwr ∧ (drainHold s g).boot = s.boot ∧ (drainHold s g).thm = s.thm ∧ (drainHold s
    g).ddr = s.ddr ∧ (drainHold s g).mram = s.mram ∧ (drainHold s g).flash = s.flash ∧ (drainHold s g).flt = s.flt ∧
    (drainHold s g).evt = s.evt := by
  unfold drainHold
  simp
@[simp] theorem takeRef_keep (s : State) : (takeRef s).pending = s.pending ∧ (takeRef s).act = s.act ∧ (takeRef s).lt
    = s.lt ∧ (takeRef s).synced = s.synced ∧ (takeRef s).free = s.free ∧ (takeRef s).dram = s.dram ∧ (takeRef s).scan
    = s.scan ∧ (takeRef s).pix = s.pix ∧ (takeRef s).gal = s.gal ∧ (takeRef s).eng = s.eng ∧ (takeRef s).stats =
    s.stats ∧ (takeRef s).shd = s.shd ∧ (takeRef s).diag = s.diag ∧ (takeRef s).cal = s.cal ∧ (takeRef s).net = s.net
    ∧ (takeRef s).mbx = s.mbx ∧ (takeRef s).io = s.io ∧ (takeRef s).pins = s.pins ∧ (takeRef s).aux = s.aux ∧ (takeRef
    s).clk = s.clk ∧ (takeRef s).pwr = s.pwr ∧ (takeRef s).boot = s.boot ∧ (takeRef s).thm = s.thm ∧ (takeRef s).ddr =
    s.ddr ∧ (takeRef s).mram = s.mram ∧ (takeRef s).flash = s.flash ∧ (takeRef s).flt = s.flt ∧ (takeRef s).evt =
    s.evt := by
  unfold takeRef
  split <;> simp
def takeRefRegs : List Field := [SAFE.CENTROID.C_REF, SAFE.FLUX.F_REF]
@[simp] theorem takeRef_word {key : Nat} (hk : Outside takeRefRegs key) (s : State)  : wordAt (takeRef s).regs key =
    wordAt s.regs key := by
  simp only [takeRefRegs, outside_append, outside_cons, outside_nil, and_true] at hk
  unfold takeRef
  split <;> simp [hk]
@[simp] theorem swapGroup_keep (s : State) (g : Nat) : (swapGroup s g).pending = s.pending ∧ (swapGroup s g).act =
    s.act ∧ (swapGroup s g).lt = s.lt ∧ (swapGroup s g).synced = s.synced ∧ (swapGroup s g).free = s.free ∧ (swapGroup
    s g).dram = s.dram ∧ (swapGroup s g).gal = s.gal ∧ (swapGroup s g).eng = s.eng ∧ (swapGroup s g).shd = s.shd ∧
    (swapGroup s g).diag = s.diag ∧ (swapGroup s g).cal = s.cal ∧ (swapGroup s g).net = s.net ∧ (swapGroup s g).mbx =
    s.mbx ∧ (swapGroup s g).io = s.io ∧ (swapGroup s g).pins = s.pins ∧ (swapGroup s g).aux = s.aux ∧ (swapGroup s
    g).clk = s.clk ∧ (swapGroup s g).pwr = s.pwr ∧ (swapGroup s g).boot = s.boot ∧ (swapGroup s g).thm = s.thm ∧
    (swapGroup s g).ddr = s.ddr ∧ (swapGroup s g).mram = s.mram ∧ (swapGroup s g).flash = s.flash ∧ (swapGroup s
    g).flt = s.flt ∧ (swapGroup s g).evt = s.evt := by
  unfold swapGroup
  simp
def swapGroupRegs : List Field := takeRefRegs ++ [SCAN.SWAP_STATUS.GRP_SWAPPED]
@[simp] theorem swapGroup_word {key : Nat} (hk : Outside swapGroupRegs key) (s : State) (g : Nat)  : wordAt (swapGroup
    s g).regs key = wordAt s.regs key := by
  simp only [swapGroupRegs, outside_append, outside_cons, outside_nil, and_true] at hk
  unfold swapGroup
  simp [hk]
@[simp] theorem darkenGroup_keep (s : State) (g : Nat) : (darkenGroup s g).pending = s.pending ∧ (darkenGroup s
    g).regs = s.regs ∧ (darkenGroup s g).act = s.act ∧ (darkenGroup s g).lt = s.lt ∧ (darkenGroup s g).synced =
    s.synced ∧ (darkenGroup s g).free = s.free ∧ (darkenGroup s g).dram = s.dram ∧ (darkenGroup s g).gal = s.gal ∧
    (darkenGroup s g).eng = s.eng ∧ (darkenGroup s g).stats = s.stats ∧ (darkenGroup s g).shd = s.shd ∧ (darkenGroup s
    g).guard = s.guard ∧ (darkenGroup s g).diag = s.diag ∧ (darkenGroup s g).cal = s.cal ∧ (darkenGroup s g).net =
    s.net ∧ (darkenGroup s g).mbx = s.mbx ∧ (darkenGroup s g).io = s.io ∧ (darkenGroup s g).pins = s.pins ∧
    (darkenGroup s g).aux = s.aux ∧ (darkenGroup s g).clk = s.clk ∧ (darkenGroup s g).pwr = s.pwr ∧ (darkenGroup s
    g).boot = s.boot ∧ (darkenGroup s g).thm = s.thm ∧ (darkenGroup s g).ddr = s.ddr ∧ (darkenGroup s g).mram = s.mram
    ∧ (darkenGroup s g).flash = s.flash ∧ (darkenGroup s g).flt = s.flt ∧ (darkenGroup s g).evt = s.evt := by
  unfold darkenGroup
  simp
@[simp] theorem groupPeriod_keep (s : State) (g : Nat) : (groupPeriod s g).pending = s.pending ∧ (groupPeriod s g).act
    = s.act ∧ (groupPeriod s g).lt = s.lt ∧ (groupPeriod s g).synced = s.synced ∧ (groupPeriod s g).free = s.free ∧
    (groupPeriod s g).dram = s.dram ∧ (groupPeriod s g).gal = s.gal ∧ (groupPeriod s g).eng = s.eng ∧ (groupPeriod s
    g).shd = s.shd ∧ (groupPeriod s g).diag = s.diag ∧ (groupPeriod s g).cal = s.cal ∧ (groupPeriod s g).net = s.net ∧
    (groupPeriod s g).mbx = s.mbx ∧ (groupPeriod s g).io = s.io ∧ (groupPeriod s g).pins = s.pins ∧ (groupPeriod s
    g).aux = s.aux ∧ (groupPeriod s g).clk = s.clk ∧ (groupPeriod s g).pwr = s.pwr ∧ (groupPeriod s g).boot = s.boot ∧
    (groupPeriod s g).thm = s.thm ∧ (groupPeriod s g).ddr = s.ddr ∧ (groupPeriod s g).mram = s.mram ∧ (groupPeriod s
    g).flash = s.flash ∧ (groupPeriod s g).flt = s.flt ∧ (groupPeriod s g).evt = s.evt := by
  unfold groupPeriod
  simp
def groupPeriodRegs : List Field := swapGroupRegs
@[simp] theorem groupPeriod_word {key : Nat} (hk : Outside groupPeriodRegs key) (s : State) (g : Nat)  : wordAt
    (groupPeriod s g).regs key = wordAt s.regs key := by
  simp only [groupPeriodRegs, outside_append, outside_cons, outside_nil, and_true] at hk
  unfold groupPeriod
  simp [hk]
@[simp] theorem governor_keep (s : State) : (governor s).pending = s.pending ∧ (governor s).act = s.act ∧ (governor
    s).lt = s.lt ∧ (governor s).synced = s.synced ∧ (governor s).free = s.free ∧ (governor s).dram = s.dram ∧
    (governor s).pix = s.pix ∧ (governor s).gal = s.gal ∧ (governor s).eng = s.eng ∧ (governor s).stats = s.stats ∧
    (governor s).shd = s.shd ∧ (governor s).guard = s.guard ∧ (governor s).diag = s.diag ∧ (governor s).cal = s.cal ∧
    (governor s).net = s.net ∧ (governor s).mbx = s.mbx ∧ (governor s).io = s.io ∧ (governor s).pins = s.pins ∧
    (governor s).aux = s.aux ∧ (governor s).clk = s.clk ∧ (governor s).pwr = s.pwr ∧ (governor s).boot = s.boot ∧
    (governor s).thm = s.thm ∧ (governor s).ddr = s.ddr ∧ (governor s).mram = s.mram ∧ (governor s).flash = s.flash ∧
    (governor s).flt = s.flt ∧ (governor s).evt = s.evt := by
  unfold governor
  simp
def governorRegs : List Field := [SCAN.GOV_PRED.DEMAND_MA, SCAN.GOV_PRED.PRED_MA, SCAN.GOV_STATUS.DERATING,
    SCAN.GOV_STATUS.G, SCAN.GOV_STATUS.LIMITING]
@[simp] theorem governor_word {key : Nat} (hk : Outside governorRegs key) (s : State)  : wordAt (governor s).regs key
    = wordAt s.regs key := by
  simp only [governorRegs, outside_append, outside_cons, outside_nil, and_true] at hk
  unfold governor
  simp [hk]

end Sys2Proof.Machine
end

