-- ==== Sys2Proof/Laws/FrameCompose.lean ====
section
/-! SUPPORT. FrameCompose.lean: for each operation of Machine/Compose.lean, the parts of State that it leaves alone and the register
fields outside which it changes none. -/

set_option linter.unusedSimpArgs false

namespace Sys2Proof.Machine

set_option Elab.async false

@[simp] theorem addDemand_keep (s : State) (r : Nat) (row8 : List Nat) : (addDemand s r row8).pending = s.pending ∧
    (addDemand s r row8).regs = s.regs ∧ (addDemand s r row8).act = s.act ∧ (addDemand s r row8).lt = s.lt ∧
    (addDemand s r row8).synced = s.synced ∧ (addDemand s r row8).free = s.free ∧ (addDemand s r row8).dram = s.dram ∧
    (addDemand s r row8).pix = s.pix ∧ (addDemand s r row8).gal = s.gal ∧ (addDemand s r row8).eng = s.eng ∧
    (addDemand s r row8).stats = s.stats ∧ (addDemand s r row8).shd = s.shd ∧ (addDemand s r row8).guard = s.guard ∧
    (addDemand s r row8).diag = s.diag ∧ (addDemand s r row8).cal = s.cal ∧ (addDemand s r row8).net = s.net ∧
    (addDemand s r row8).mbx = s.mbx ∧ (addDemand s r row8).io = s.io ∧ (addDemand s r row8).pins = s.pins ∧
    (addDemand s r row8).aux = s.aux ∧ (addDemand s r row8).clk = s.clk ∧ (addDemand s r row8).pwr = s.pwr ∧
    (addDemand s r row8).boot = s.boot ∧ (addDemand s r row8).thm = s.thm ∧ (addDemand s r row8).ddr = s.ddr ∧
    (addDemand s r row8).mram = s.mram ∧ (addDemand s r row8).flash = s.flash ∧ (addDemand s r row8).flt = s.flt ∧
    (addDemand s r row8).evt = s.evt := by
  unfold addDemand
  simp

end Sys2Proof.Machine
end

