-- ==== Sys2Proof/Laws/FrameGuard.lean ====
section
/-! SUPPORT. FrameGuard.lean: for each operation of Machine/Guard.lean, the parts of State that it leaves alone and the register
fields outside which it changes none. -/

set_option linter.unusedSimpArgs false

namespace Sys2Proof.Machine

set_option Elab.async false

@[simp] theorem applyLimits_keep (s : State) (l : Limits) : (applyLimits s l).pending = s.pending ∧ (applyLimits s
    l).act = s.act ∧ (applyLimits s l).lt = s.lt ∧ (applyLimits s l).synced = s.synced ∧ (applyLimits s l).free =
    s.free ∧ (applyLimits s l).dram = s.dram ∧ (applyLimits s l).scan = s.scan ∧ (applyLimits s l).pix = s.pix ∧
    (applyLimits s l).gal = s.gal ∧ (applyLimits s l).eng = s.eng ∧ (applyLimits s l).stats = s.stats ∧ (applyLimits s
    l).shd = s.shd ∧ (applyLimits s l).diag = s.diag ∧ (applyLimits s l).cal = s.cal ∧ (applyLimits s l).net = s.net ∧
    (applyLimits s l).mbx = s.mbx ∧ (applyLimits s l).io = s.io ∧ (applyLimits s l).pins = s.pins ∧ (applyLimits s
    l).aux = s.aux ∧ (applyLimits s l).clk = s.clk ∧ (applyLimits s l).pwr = s.pwr ∧ (applyLimits s l).boot = s.boot ∧
    (applyLimits s l).thm = s.thm ∧ (applyLimits s l).ddr = s.ddr ∧ (applyLimits s l).mram = s.mram ∧ (applyLimits s
    l).flash = s.flash ∧ (applyLimits s l).flt = s.flt ∧ (applyLimits s l).evt = s.evt := by
  unfold applyLimits
  simp
def applyLimitsRegs : List Field := [SAFE.EFFECTIVE.BLOCK_LIMIT, SAFE.EFFECTIVE.CONSERVATIVE, SAFE.EFFECTIVE.CUTOFF,
    SAFE.EFFECTIVE.FB_SEL, SAFE.EFFECTIVE.GLARE_CLASS, SAFE.EFFECTIVE.LEFT, SAFE.EFFECTIVE.SWIVEL,
    SAFE.EFFECTIVE.WINDOW_MAX, SAFE.SEAL.NO_SLOT, SAFE.SEAL.SLOT, SAFE.SEAL.SLOTS_FREE, SAFE.STATUS.SEAL_BROKEN]
@[simp] theorem applyLimits_word {key : Nat} (hk : Outside applyLimitsRegs key) (s : State) (l : Limits)  : wordAt
    (applyLimits s l).regs key = wordAt s.regs key := by
  simp only [applyLimitsRegs, outside_append, outside_cons, outside_nil, and_true] at hk
  unfold applyLimits
  simp [hk]
@[simp] theorem breakSeal_keep (s : State) (reason : Nat) : (breakSeal s reason).pending = s.pending ∧ (breakSeal s
    reason).act = s.act ∧ (breakSeal s reason).lt = s.lt ∧ (breakSeal s reason).synced = s.synced ∧ (breakSeal s
    reason).free = s.free ∧ (breakSeal s reason).dram = s.dram ∧ (breakSeal s reason).pix = s.pix ∧ (breakSeal s
    reason).gal = s.gal ∧ (breakSeal s reason).eng = s.eng ∧ (breakSeal s reason).stats = s.stats ∧ (breakSeal s
    reason).shd = s.shd ∧ (breakSeal s reason).diag = s.diag ∧ (breakSeal s reason).cal = s.cal ∧ (breakSeal s
    reason).net = s.net ∧ (breakSeal s reason).mbx = s.mbx ∧ (breakSeal s reason).io = s.io ∧ (breakSeal s
    reason).pins = s.pins ∧ (breakSeal s reason).aux = s.aux ∧ (breakSeal s reason).clk = s.clk ∧ (breakSeal s
    reason).pwr = s.pwr ∧ (breakSeal s reason).boot = s.boot ∧ (breakSeal s reason).thm = s.thm ∧ (breakSeal s
    reason).ddr = s.ddr ∧ (breakSeal s reason).mram = s.mram ∧ (breakSeal s reason).flash = s.flash ∧ (breakSeal s
    reason).evt = s.evt := by
  unfold breakSeal
  simp
def breakSealRegs : List Field := applyLimitsRegs ++ raiseFaultRegs
@[simp] theorem breakSeal_word {key : Nat} (hk : Outside breakSealRegs key) (s : State) (reason : Nat)  : wordAt
    (breakSeal s reason).regs key = wordAt s.regs key := by
  simp only [breakSealRegs, outside_append, outside_cons, outside_nil, and_true] at hk
  unfold breakSeal
  simp [hk]
@[simp] theorem sealAtReset_keep (s : State) (pads : List Strap) : (sealAtReset s pads).pending = s.pending ∧
    (sealAtReset s pads).act = s.act ∧ (sealAtReset s pads).lt = s.lt ∧ (sealAtReset s pads).synced = s.synced ∧
    (sealAtReset s pads).free = s.free ∧ (sealAtReset s pads).dram = s.dram ∧ (sealAtReset s pads).pix = s.pix ∧
    (sealAtReset s pads).gal = s.gal ∧ (sealAtReset s pads).eng = s.eng ∧ (sealAtReset s pads).stats = s.stats ∧
    (sealAtReset s pads).shd = s.shd ∧ (sealAtReset s pads).diag = s.diag ∧ (sealAtReset s pads).cal = s.cal ∧
    (sealAtReset s pads).net = s.net ∧ (sealAtReset s pads).mbx = s.mbx ∧ (sealAtReset s pads).io = s.io ∧
    (sealAtReset s pads).pins = s.pins ∧ (sealAtReset s pads).aux = s.aux ∧ (sealAtReset s pads).clk = s.clk ∧
    (sealAtReset s pads).pwr = s.pwr ∧ (sealAtReset s pads).boot = s.boot ∧ (sealAtReset s pads).thm = s.thm ∧
    (sealAtReset s pads).ddr = s.ddr ∧ (sealAtReset s pads).mram = s.mram ∧ (sealAtReset s pads).flash = s.flash ∧
    (sealAtReset s pads).evt = s.evt := by
  unfold sealAtReset
  simp
def sealAtResetRegs : List Field := breakSealRegs ++ applyLimitsRegs ++ [SAFE.EFFECTIVE.RING_ROLE, SAFE.SEAL.STRAP]
@[simp] theorem sealAtReset_word {key : Nat} (hk : Outside sealAtResetRegs key) (s : State) (pads : List Strap)  :
    wordAt (sealAtReset s pads).regs key = wordAt s.regs key := by
  simp only [sealAtResetRegs, outside_append, outside_cons, outside_nil, and_true] at hk
  unfold sealAtReset
  simp [hk]
@[simp] theorem setPath_keep (s : State) (p : Nat) : (setPath s p).pending = s.pending ∧ (setPath s p).act = s.act ∧
    (setPath s p).lt = s.lt ∧ (setPath s p).synced = s.synced ∧ (setPath s p).free = s.free ∧ (setPath s p).dram =
    s.dram ∧ (setPath s p).scan = s.scan ∧ (setPath s p).pix = s.pix ∧ (setPath s p).gal = s.gal ∧ (setPath s p).eng =
    s.eng ∧ (setPath s p).stats = s.stats ∧ (setPath s p).shd = s.shd ∧ (setPath s p).guard = s.guard ∧ (setPath s
    p).diag = s.diag ∧ (setPath s p).cal = s.cal ∧ (setPath s p).net = s.net ∧ (setPath s p).mbx = s.mbx ∧ (setPath s
    p).io = s.io ∧ (setPath s p).pins = s.pins ∧ (setPath s p).aux = s.aux ∧ (setPath s p).clk = s.clk ∧ (setPath s
    p).pwr = s.pwr ∧ (setPath s p).boot = s.boot ∧ (setPath s p).thm = s.thm ∧ (setPath s p).ddr = s.ddr ∧ (setPath s
    p).mram = s.mram ∧ (setPath s p).flash = s.flash ∧ (setPath s p).evt = s.evt := by
  unfold setPath
  simp
def setPathRegs : List Field := [SAFE.STATUS.PATH_CHANGE, SAFE.STATUS.PATH_STATE]
@[simp] theorem setPath_word {key : Nat} (hk : Outside setPathRegs key) (s : State) (p : Nat)  : wordAt (setPath s
    p).regs key = wordAt s.regs key := by
  simp only [setPathRegs, outside_append, outside_cons, outside_nil, and_true] at hk
  unfold setPath
  simp [hk]
@[simp] theorem mergedTrigger_keep (s : State) : (mergedTrigger s).pending = s.pending ∧ (mergedTrigger s).act = s.act
    ∧ (mergedTrigger s).lt = s.lt ∧ (mergedTrigger s).synced = s.synced ∧ (mergedTrigger s).free = s.free ∧
    (mergedTrigger s).dram = s.dram ∧ (mergedTrigger s).scan = s.scan ∧ (mergedTrigger s).pix = s.pix ∧ (mergedTrigger
    s).gal = s.gal ∧ (mergedTrigger s).eng = s.eng ∧ (mergedTrigger s).stats = s.stats ∧ (mergedTrigger s).shd = s.shd
    ∧ (mergedTrigger s).diag = s.diag ∧ (mergedTrigger s).cal = s.cal ∧ (mergedTrigger s).net = s.net ∧ (mergedTrigger
    s).mbx = s.mbx ∧ (mergedTrigger s).io = s.io ∧ (mergedTrigger s).pins = s.pins ∧ (mergedTrigger s).aux = s.aux ∧
    (mergedTrigger s).clk = s.clk ∧ (mergedTrigger s).pwr = s.pwr ∧ (mergedTrigger s).boot = s.boot ∧ (mergedTrigger
    s).thm = s.thm ∧ (mergedTrigger s).ddr = s.ddr ∧ (mergedTrigger s).mram = s.mram ∧ (mergedTrigger s).flash =
    s.flash ∧ (mergedTrigger s).evt = s.evt := by
  unfold mergedTrigger
  split <;> simp
def mergedTriggerRegs : List Field := setPathRegs
@[simp] theorem mergedTrigger_word {key : Nat} (hk : Outside mergedTriggerRegs key) (s : State)  : wordAt
    (mergedTrigger s).regs key = wordAt s.regs key := by
  simp only [mergedTriggerRegs, outside_append, outside_cons, outside_nil, and_true] at hk
  unfold mergedTrigger
  split <;> simp [hk]
@[simp] theorem agreePair_keep (s : State) (r : SafeRec) : (agreePair s r).pending = s.pending ∧ (agreePair s r).act =
    s.act ∧ (agreePair s r).lt = s.lt ∧ (agreePair s r).synced = s.synced ∧ (agreePair s r).free = s.free ∧ (agreePair
    s r).dram = s.dram ∧ (agreePair s r).scan = s.scan ∧ (agreePair s r).pix = s.pix ∧ (agreePair s r).gal = s.gal ∧
    (agreePair s r).eng = s.eng ∧ (agreePair s r).stats = s.stats ∧ (agreePair s r).shd = s.shd ∧ (agreePair s r).diag
    = s.diag ∧ (agreePair s r).cal = s.cal ∧ (agreePair s r).net = s.net ∧ (agreePair s r).mbx = s.mbx ∧ (agreePair s
    r).io = s.io ∧ (agreePair s r).pins = s.pins ∧ (agreePair s r).aux = s.aux ∧ (agreePair s r).clk = s.clk ∧
    (agreePair s r).pwr = s.pwr ∧ (agreePair s r).boot = s.boot ∧ (agreePair s r).thm = s.thm ∧ (agreePair s r).ddr =
    s.ddr ∧ (agreePair s r).mram = s.mram ∧ (agreePair s r).flash = s.flash ∧ (agreePair s r).evt = s.evt := by
  unfold agreePair
  simp
def agreePairRegs : List Field := setPathRegs
@[simp] theorem agreePair_word {key : Nat} (hk : Outside agreePairRegs key) (s : State) (r : SafeRec)  : wordAt
    (agreePair s r).regs key = wordAt s.regs key := by
  simp only [agreePairRegs, outside_append, outside_cons, outside_nil, and_true] at hk
  unfold agreePair
  simp [hk]
@[simp] theorem guardSample_keep (s : State) (digest : Nat) : (guardSample s digest).pending = s.pending ∧
    (guardSample s digest).act = s.act ∧ (guardSample s digest).lt = s.lt ∧ (guardSample s digest).synced = s.synced ∧
    (guardSample s digest).free = s.free ∧ (guardSample s digest).dram = s.dram ∧ (guardSample s digest).scan = s.scan
    ∧ (guardSample s digest).pix = s.pix ∧ (guardSample s digest).gal = s.gal ∧ (guardSample s digest).eng = s.eng ∧
    (guardSample s digest).stats = s.stats ∧ (guardSample s digest).shd = s.shd ∧ (guardSample s digest).diag = s.diag
    ∧ (guardSample s digest).cal = s.cal ∧ (guardSample s digest).net = s.net ∧ (guardSample s digest).mbx = s.mbx ∧
    (guardSample s digest).io = s.io ∧ (guardSample s digest).pins = s.pins ∧ (guardSample s digest).aux = s.aux ∧
    (guardSample s digest).clk = s.clk ∧ (guardSample s digest).pwr = s.pwr ∧ (guardSample s digest).boot = s.boot ∧
    (guardSample s digest).thm = s.thm ∧ (guardSample s digest).ddr = s.ddr ∧ (guardSample s digest).mram = s.mram ∧
    (guardSample s digest).flash = s.flash ∧ (guardSample s digest).evt = s.evt := by
  unfold guardSample
  split <;> simp
def guardSampleRegs : List Field := agreePairRegs ++ mergedTriggerRegs
@[simp] theorem guardSample_word {key : Nat} (hk : Outside guardSampleRegs key) (s : State) (digest : Nat)  : wordAt
    (guardSample s digest).regs key = wordAt s.regs key := by
  simp only [guardSampleRegs, outside_append, outside_cons, outside_nil, and_true] at hk
  unfold guardSample
  split <;> simp [hk]
@[simp] theorem pathFrameStart_keep (s : State) : (pathFrameStart s).pending = s.pending ∧ (pathFrameStart s).act =
    s.act ∧ (pathFrameStart s).lt = s.lt ∧ (pathFrameStart s).synced = s.synced ∧ (pathFrameStart s).free = s.free ∧
    (pathFrameStart s).dram = s.dram ∧ (pathFrameStart s).scan = s.scan ∧ (pathFrameStart s).pix = s.pix ∧
    (pathFrameStart s).gal = s.gal ∧ (pathFrameStart s).eng = s.eng ∧ (pathFrameStart s).stats = s.stats ∧
    (pathFrameStart s).shd = s.shd ∧ (pathFrameStart s).diag = s.diag ∧ (pathFrameStart s).cal = s.cal ∧
    (pathFrameStart s).net = s.net ∧ (pathFrameStart s).mbx = s.mbx ∧ (pathFrameStart s).io = s.io ∧ (pathFrameStart
    s).pins = s.pins ∧ (pathFrameStart s).aux = s.aux ∧ (pathFrameStart s).clk = s.clk ∧ (pathFrameStart s).pwr =
    s.pwr ∧ (pathFrameStart s).boot = s.boot ∧ (pathFrameStart s).thm = s.thm ∧ (pathFrameStart s).ddr = s.ddr ∧
    (pathFrameStart s).mram = s.mram ∧ (pathFrameStart s).flash = s.flash ∧ (pathFrameStart s).evt = s.evt := by
  unfold pathFrameStart
  simp
def pathFrameStartRegs : List Field := setPathRegs
@[simp] theorem pathFrameStart_word {key : Nat} (hk : Outside pathFrameStartRegs key) (s : State)  : wordAt
    (pathFrameStart s).regs key = wordAt s.regs key := by
  simp only [pathFrameStartRegs, outside_append, outside_cons, outside_nil, and_true] at hk
  unfold pathFrameStart
  simp [hk]
@[simp] theorem pairRecord_keep (s : State) (pathB : Bool) (r : SafeRec) : (pairRecord s pathB r).pending = s.pending
    ∧ (pairRecord s pathB r).act = s.act ∧ (pairRecord s pathB r).lt = s.lt ∧ (pairRecord s pathB r).synced = s.synced
    ∧ (pairRecord s pathB r).free = s.free ∧ (pairRecord s pathB r).dram = s.dram ∧ (pairRecord s pathB r).scan =
    s.scan ∧ (pairRecord s pathB r).pix = s.pix ∧ (pairRecord s pathB r).gal = s.gal ∧ (pairRecord s pathB r).eng =
    s.eng ∧ (pairRecord s pathB r).stats = s.stats ∧ (pairRecord s pathB r).shd = s.shd ∧ (pairRecord s pathB r).diag
    = s.diag ∧ (pairRecord s pathB r).cal = s.cal ∧ (pairRecord s pathB r).net = s.net ∧ (pairRecord s pathB r).mbx =
    s.mbx ∧ (pairRecord s pathB r).io = s.io ∧ (pairRecord s pathB r).pins = s.pins ∧ (pairRecord s pathB r).aux =
    s.aux ∧ (pairRecord s pathB r).clk = s.clk ∧ (pairRecord s pathB r).pwr = s.pwr ∧ (pairRecord s pathB r).boot =
    s.boot ∧ (pairRecord s pathB r).thm = s.thm ∧ (pairRecord s pathB r).ddr = s.ddr ∧ (pairRecord s pathB r).mram =
    s.mram ∧ (pairRecord s pathB r).flash = s.flash ∧ (pairRecord s pathB r).evt = s.evt := by
  unfold pairRecord
  (try simp) <;> (repeat' apply And.intro) <;> (repeat' split) <;> (try simp)
def pairRecordRegs : List Field := mergedTriggerRegs
@[simp] theorem pairRecord_word {key : Nat} (hk : Outside pairRecordRegs key) (s : State) (pathB : Bool) (r : SafeRec)
     : wordAt (pairRecord s pathB r).regs key = wordAt s.regs key := by
  simp only [pairRecordRegs, outside_append, outside_cons, outside_nil, and_true] at hk
  unfold pairRecord
  simp only []; (repeat' split) <;> (try simp [hk])
@[simp] theorem safeRecord_keep (s : State) (pathB : Bool) (rec : List Byte) : (safeRecord s pathB rec).pending =
    s.pending ∧ (safeRecord s pathB rec).act = s.act ∧ (safeRecord s pathB rec).lt = s.lt ∧ (safeRecord s pathB
    rec).synced = s.synced ∧ (safeRecord s pathB rec).free = s.free ∧ (safeRecord s pathB rec).dram = s.dram ∧
    (safeRecord s pathB rec).scan = s.scan ∧ (safeRecord s pathB rec).pix = s.pix ∧ (safeRecord s pathB rec).gal =
    s.gal ∧ (safeRecord s pathB rec).eng = s.eng ∧ (safeRecord s pathB rec).stats = s.stats ∧ (safeRecord s pathB
    rec).shd = s.shd ∧ (safeRecord s pathB rec).diag = s.diag ∧ (safeRecord s pathB rec).cal = s.cal ∧ (safeRecord s
    pathB rec).net = s.net ∧ (safeRecord s pathB rec).mbx = s.mbx ∧ (safeRecord s pathB rec).io = s.io ∧ (safeRecord s
    pathB rec).pins = s.pins ∧ (safeRecord s pathB rec).aux = s.aux ∧ (safeRecord s pathB rec).clk = s.clk ∧
    (safeRecord s pathB rec).pwr = s.pwr ∧ (safeRecord s pathB rec).boot = s.boot ∧ (safeRecord s pathB rec).thm =
    s.thm ∧ (safeRecord s pathB rec).ddr = s.ddr ∧ (safeRecord s pathB rec).mram = s.mram ∧ (safeRecord s pathB
    rec).flash = s.flash ∧ (safeRecord s pathB rec).evt = s.evt := by
  unfold safeRecord
  simp
def safeRecordRegs : List Field := pairRecordRegs ++ [SAFE.REJECT_A.VALUE, SAFE.REJECT_B.VALUE, SAFE.SEQ_A.VALUE,
    SAFE.SEQ_B.VALUE]
@[simp] theorem safeRecord_word {key : Nat} (hk : Outside safeRecordRegs key) (s : State) (pathB : Bool) (rec : List
    Byte)  : wordAt (safeRecord s pathB rec).regs key = wordAt s.regs key := by
  simp only [safeRecordRegs, outside_append, outside_cons, outside_nil, and_true] at hk
  unfold safeRecord
  (repeat' split) <;> (try simp [hk])
@[simp] theorem takeLoadMask_keep (s : State) : (takeLoadMask s).pending = s.pending ∧ (takeLoadMask s).regs = s.regs
    ∧ (takeLoadMask s).act = s.act ∧ (takeLoadMask s).lt = s.lt ∧ (takeLoadMask s).synced = s.synced ∧ (takeLoadMask
    s).free = s.free ∧ (takeLoadMask s).dram = s.dram ∧ (takeLoadMask s).scan = s.scan ∧ (takeLoadMask s).pix = s.pix
    ∧ (takeLoadMask s).gal = s.gal ∧ (takeLoadMask s).eng = s.eng ∧ (takeLoadMask s).stats = s.stats ∧ (takeLoadMask
    s).shd = s.shd ∧ (takeLoadMask s).diag = s.diag ∧ (takeLoadMask s).cal = s.cal ∧ (takeLoadMask s).net = s.net ∧
    (takeLoadMask s).mbx = s.mbx ∧ (takeLoadMask s).io = s.io ∧ (takeLoadMask s).pins = s.pins ∧ (takeLoadMask s).aux
    = s.aux ∧ (takeLoadMask s).clk = s.clk ∧ (takeLoadMask s).pwr = s.pwr ∧ (takeLoadMask s).boot = s.boot ∧
    (takeLoadMask s).thm = s.thm ∧ (takeLoadMask s).ddr = s.ddr ∧ (takeLoadMask s).mram = s.mram ∧ (takeLoadMask
    s).flash = s.flash ∧ (takeLoadMask s).flt = s.flt ∧ (takeLoadMask s).evt = s.evt := by
  unfold takeLoadMask
  simp
@[simp] theorem clearSums_keep (s : State) : (clearSums s).pending = s.pending ∧ (clearSums s).regs = s.regs ∧
    (clearSums s).act = s.act ∧ (clearSums s).lt = s.lt ∧ (clearSums s).synced = s.synced ∧ (clearSums s).free =
    s.free ∧ (clearSums s).dram = s.dram ∧ (clearSums s).scan = s.scan ∧ (clearSums s).pix = s.pix ∧ (clearSums s).gal
    = s.gal ∧ (clearSums s).eng = s.eng ∧ (clearSums s).stats = s.stats ∧ (clearSums s).shd = s.shd ∧ (clearSums
    s).diag = s.diag ∧ (clearSums s).cal = s.cal ∧ (clearSums s).net = s.net ∧ (clearSums s).mbx = s.mbx ∧ (clearSums
    s).io = s.io ∧ (clearSums s).pins = s.pins ∧ (clearSums s).aux = s.aux ∧ (clearSums s).clk = s.clk ∧ (clearSums
    s).pwr = s.pwr ∧ (clearSums s).boot = s.boot ∧ (clearSums s).thm = s.thm ∧ (clearSums s).ddr = s.ddr ∧ (clearSums
    s).mram = s.mram ∧ (clearSums s).flash = s.flash ∧ (clearSums s).flt = s.flt ∧ (clearSums s).evt = s.evt := by
  unfold clearSums
  simp
@[simp] theorem guardRow_keep (s : State) (r : Nat) (codes : List Nat) : (guardRow s r codes).pending = s.pending ∧
    (guardRow s r codes).regs = s.regs ∧ (guardRow s r codes).act = s.act ∧ (guardRow s r codes).lt = s.lt ∧ (guardRow
    s r codes).synced = s.synced ∧ (guardRow s r codes).free = s.free ∧ (guardRow s r codes).dram = s.dram ∧ (guardRow
    s r codes).scan = s.scan ∧ (guardRow s r codes).pix = s.pix ∧ (guardRow s r codes).gal = s.gal ∧ (guardRow s r
    codes).eng = s.eng ∧ (guardRow s r codes).stats = s.stats ∧ (guardRow s r codes).shd = s.shd ∧ (guardRow s r
    codes).diag = s.diag ∧ (guardRow s r codes).cal = s.cal ∧ (guardRow s r codes).net = s.net ∧ (guardRow s r
    codes).mbx = s.mbx ∧ (guardRow s r codes).io = s.io ∧ (guardRow s r codes).pins = s.pins ∧ (guardRow s r
    codes).aux = s.aux ∧ (guardRow s r codes).clk = s.clk ∧ (guardRow s r codes).pwr = s.pwr ∧ (guardRow s r
    codes).boot = s.boot ∧ (guardRow s r codes).thm = s.thm ∧ (guardRow s r codes).ddr = s.ddr ∧ (guardRow s r
    codes).mram = s.mram ∧ (guardRow s r codes).flash = s.flash ∧ (guardRow s r codes).flt = s.flt ∧ (guardRow s r
    codes).evt = s.evt := by
  unfold guardRow
  simp
@[simp] theorem judge_keep (s : State) : (judge s).1.pending = s.pending ∧ (judge s).1.act = s.act ∧ (judge s).1.lt =
    s.lt ∧ (judge s).1.synced = s.synced ∧ (judge s).1.free = s.free ∧ (judge s).1.dram = s.dram ∧ (judge s).1.scan =
    s.scan ∧ (judge s).1.pix = s.pix ∧ (judge s).1.gal = s.gal ∧ (judge s).1.eng = s.eng ∧ (judge s).1.stats = s.stats
    ∧ (judge s).1.shd = s.shd ∧ (judge s).1.guard = s.guard ∧ (judge s).1.diag = s.diag ∧ (judge s).1.cal = s.cal ∧
    (judge s).1.net = s.net ∧ (judge s).1.mbx = s.mbx ∧ (judge s).1.io = s.io ∧ (judge s).1.pins = s.pins ∧ (judge
    s).1.aux = s.aux ∧ (judge s).1.clk = s.clk ∧ (judge s).1.pwr = s.pwr ∧ (judge s).1.boot = s.boot ∧ (judge s).1.thm
    = s.thm ∧ (judge s).1.ddr = s.ddr ∧ (judge s).1.mram = s.mram ∧ (judge s).1.flash = s.flash ∧ (judge s).1.flt =
    s.flt ∧ (judge s).1.evt = s.evt := by
  unfold judge
  simp
def judgeRegs : List Field := [SAFE.VERDICT.ACC_MISMATCH, SAFE.VERDICT.ECHO_ERR, SAFE.VERDICT.FRAME,
    SAFE.VERDICT.INCOMPLETE, SAFE.VERDICT.PASS, SAFE.VERDICT.SLC_FAIL, SAFE.VERDICT.SLC_SEG, SAFE.VERDICT.SLI_FAIL,
    SAFE.VERDICT.SLI_ZONE, SAFE.VERDICT.SLR_CENT, SAFE.VERDICT.SLR_FLUX, SAFE.VERDICT.SLS_FAIL]
@[simp] theorem judge_word {key : Nat} (hk : Outside judgeRegs key) (s : State)  : wordAt (judge s).1.regs key =
    wordAt s.regs key := by
  simp only [judgeRegs, outside_append, outside_cons, outside_nil, and_true] at hk
  unfold judge
  simp [hk]
@[simp] theorem swapGate_keep (s : State) (pass : Bool) : (swapGate s pass).pending = s.pending ∧ (swapGate s
    pass).act = s.act ∧ (swapGate s pass).lt = s.lt ∧ (swapGate s pass).synced = s.synced ∧ (swapGate s pass).free =
    s.free ∧ (swapGate s pass).dram = s.dram ∧ (swapGate s pass).pix = s.pix ∧ (swapGate s pass).gal = s.gal ∧
    (swapGate s pass).eng = s.eng ∧ (swapGate s pass).shd = s.shd ∧ (swapGate s pass).diag = s.diag ∧ (swapGate s
    pass).cal = s.cal ∧ (swapGate s pass).net = s.net ∧ (swapGate s pass).mbx = s.mbx ∧ (swapGate s pass).io = s.io ∧
    (swapGate s pass).pins = s.pins ∧ (swapGate s pass).aux = s.aux ∧ (swapGate s pass).clk = s.clk ∧ (swapGate s
    pass).pwr = s.pwr ∧ (swapGate s pass).boot = s.boot ∧ (swapGate s pass).thm = s.thm ∧ (swapGate s pass).ddr =
    s.ddr ∧ (swapGate s pass).mram = s.mram ∧ (swapGate s pass).flash = s.flash ∧ (swapGate s pass).evt = s.evt := by
  unfold swapGate
  simp
def swapGateRegs : List Field := raiseCauseRegs ++ [SAFE.BLOCK_COUNT.VALUE, SAFE.FB_CAUSE.BLOCK,
    SAFE.STATUS.VERDICT_FAIL]
@[simp] theorem swapGate_word {key : Nat} (hk : Outside swapGateRegs key) (s : State) (pass : Bool)  : wordAt
    (swapGate s pass).regs key = wordAt s.regs key := by
  simp only [swapGateRegs, outside_append, outside_cons, outside_nil, and_true] at hk
  unfold swapGate
  simp [hk]
@[simp] theorem guardFails_keep (s : State) : (guardFails s).pending = s.pending ∧ (guardFails s).act = s.act ∧
    (guardFails s).lt = s.lt ∧ (guardFails s).synced = s.synced ∧ (guardFails s).free = s.free ∧ (guardFails s).dram =
    s.dram ∧ (guardFails s).pix = s.pix ∧ (guardFails s).gal = s.gal ∧ (guardFails s).eng = s.eng ∧ (guardFails
    s).stats = s.stats ∧ (guardFails s).shd = s.shd ∧ (guardFails s).diag = s.diag ∧ (guardFails s).cal = s.cal ∧
    (guardFails s).net = s.net ∧ (guardFails s).mbx = s.mbx ∧ (guardFails s).io = s.io ∧ (guardFails s).pins = s.pins
    ∧ (guardFails s).aux = s.aux ∧ (guardFails s).clk = s.clk ∧ (guardFails s).pwr = s.pwr ∧ (guardFails s).boot =
    s.boot ∧ (guardFails s).thm = s.thm ∧ (guardFails s).ddr = s.ddr ∧ (guardFails s).mram = s.mram ∧ (guardFails
    s).flash = s.flash ∧ (guardFails s).evt = s.evt := by
  unfold guardFails
  simp
def guardFailsRegs : List Field := raiseFaultRegs ++ raiseCauseRegs ++ [SAFE.FB_CAUSE.GUARD]
@[simp] theorem guardFails_word {key : Nat} (hk : Outside guardFailsRegs key) (s : State)  : wordAt (guardFails
    s).regs key = wordAt s.regs key := by
  simp only [guardFailsRegs, outside_append, outside_cons, outside_nil, and_true] at hk
  unfold guardFails
  simp [hk]

end Sys2Proof.Machine
end

