-- ==== Sys2Proof/Laws/FrameOperands.lean ====
section
/-! SUPPORT. FrameOperands.lean: for each operation of Machine/Operands.lean, the parts of State that it leaves alone and the register
fields outside which it changes none. -/

set_option linter.unusedSimpArgs false

namespace Sys2Proof.Machine

set_option Elab.async false

@[simp] theorem fenceAdd_keep (s : State) (k n : Nat) : (fenceAdd s k n).pending = s.pending ∧ (fenceAdd s k n).act =
    s.act ∧ (fenceAdd s k n).lt = s.lt ∧ (fenceAdd s k n).synced = s.synced ∧ (fenceAdd s k n).free = s.free ∧
    (fenceAdd s k n).dram = s.dram ∧ (fenceAdd s k n).scan = s.scan ∧ (fenceAdd s k n).pix = s.pix ∧ (fenceAdd s k
    n).gal = s.gal ∧ (fenceAdd s k n).eng = s.eng ∧ (fenceAdd s k n).stats = s.stats ∧ (fenceAdd s k n).shd = s.shd ∧
    (fenceAdd s k n).guard = s.guard ∧ (fenceAdd s k n).diag = s.diag ∧ (fenceAdd s k n).cal = s.cal ∧ (fenceAdd s k
    n).net = s.net ∧ (fenceAdd s k n).mbx = s.mbx ∧ (fenceAdd s k n).io = s.io ∧ (fenceAdd s k n).pins = s.pins ∧
    (fenceAdd s k n).aux = s.aux ∧ (fenceAdd s k n).clk = s.clk ∧ (fenceAdd s k n).pwr = s.pwr ∧ (fenceAdd s k n).boot
    = s.boot ∧ (fenceAdd s k n).thm = s.thm ∧ (fenceAdd s k n).ddr = s.ddr ∧ (fenceAdd s k n).mram = s.mram ∧
    (fenceAdd s k n).flash = s.flash ∧ (fenceAdd s k n).flt = s.flt ∧ (fenceAdd s k n).evt = s.evt := by
  unfold fenceAdd
  simp
def fenceAddRegs : List Field := allOf 64 GAL.FENCE.FENCE
@[simp] theorem fenceAdd_word {key : Nat} (hk : Outside fenceAddRegs key) (s : State) (k n : Nat)  : wordAt (fenceAdd
    s k n).regs key = wordAt s.regs key := by
  simp only [fenceAddRegs, outside_append, outside_cons, outside_nil, and_true, outside_GAL_FENCE_FENCE] at hk
  unfold fenceAdd
  simp [hk]

end Sys2Proof.Machine
end

