-- ==== Sys2Proof/Laws/FrameGallery.lean ====
section
/-! SUPPORT. FrameGallery.lean: for each operation of Machine/Gallery.lean, the parts of State that it leaves alone and the register
fields outside which it changes none. -/

set_option linter.unusedSimpArgs false

namespace Sys2Proof.Machine

set_option Elab.async false

@[simp] theorem discardLoad_keep (s : State) : (discardLoad s).pending = s.pending ∧ (discardLoad s).regs = s.regs ∧
    (discardLoad s).act = s.act ∧ (discardLoad s).lt = s.lt ∧ (discardLoad s).synced = s.synced ∧ (discardLoad s).free
    = s.free ∧ (discardLoad s).dram = s.dram ∧ (discardLoad s).gal = s.gal ∧ (discardLoad s).eng = s.eng ∧
    (discardLoad s).stats = s.stats ∧ (discardLoad s).shd = s.shd ∧ (discardLoad s).guard = s.guard ∧ (discardLoad
    s).diag = s.diag ∧ (discardLoad s).cal = s.cal ∧ (discardLoad s).net = s.net ∧ (discardLoad s).mbx = s.mbx ∧
    (discardLoad s).io = s.io ∧ (discardLoad s).pins = s.pins ∧ (discardLoad s).aux = s.aux ∧ (discardLoad s).clk =
    s.clk ∧ (discardLoad s).pwr = s.pwr ∧ (discardLoad s).boot = s.boot ∧ (discardLoad s).thm = s.thm ∧ (discardLoad
    s).ddr = s.ddr ∧ (discardLoad s).mram = s.mram ∧ (discardLoad s).flash = s.flash ∧ (discardLoad s).flt = s.flt ∧
    (discardLoad s).evt = s.evt := by
  unfold discardLoad
  simp
@[simp] theorem abortFrame_keep (s : State) : (abortFrame s).pending = s.pending ∧ (abortFrame s).regs = s.regs ∧
    (abortFrame s).act = s.act ∧ (abortFrame s).lt = s.lt ∧ (abortFrame s).synced = s.synced ∧ (abortFrame s).free =
    s.free ∧ (abortFrame s).dram = s.dram ∧ (abortFrame s).gal = s.gal ∧ (abortFrame s).eng = s.eng ∧ (abortFrame
    s).shd = s.shd ∧ (abortFrame s).guard = s.guard ∧ (abortFrame s).diag = s.diag ∧ (abortFrame s).cal = s.cal ∧
    (abortFrame s).net = s.net ∧ (abortFrame s).mbx = s.mbx ∧ (abortFrame s).io = s.io ∧ (abortFrame s).pins = s.pins
    ∧ (abortFrame s).aux = s.aux ∧ (abortFrame s).clk = s.clk ∧ (abortFrame s).pwr = s.pwr ∧ (abortFrame s).boot =
    s.boot ∧ (abortFrame s).thm = s.thm ∧ (abortFrame s).ddr = s.ddr ∧ (abortFrame s).mram = s.mram ∧ (abortFrame
    s).flash = s.flash ∧ (abortFrame s).flt = s.flt ∧ (abortFrame s).evt = s.evt := by
  unfold abortFrame
  simp
@[simp] theorem dramWrite_keep (s : State) (a : Nat) (v : List Byte) : (dramWrite s a v).pending = s.pending ∧
    (dramWrite s a v).act = s.act ∧ (dramWrite s a v).lt = s.lt ∧ (dramWrite s a v).synced = s.synced ∧ (dramWrite s a
    v).free = s.free ∧ (dramWrite s a v).scan = s.scan ∧ (dramWrite s a v).pix = s.pix ∧ (dramWrite s a v).eng = s.eng
    ∧ (dramWrite s a v).stats = s.stats ∧ (dramWrite s a v).shd = s.shd ∧ (dramWrite s a v).guard = s.guard ∧
    (dramWrite s a v).diag = s.diag ∧ (dramWrite s a v).cal = s.cal ∧ (dramWrite s a v).net = s.net ∧ (dramWrite s a
    v).mbx = s.mbx ∧ (dramWrite s a v).io = s.io ∧ (dramWrite s a v).pins = s.pins ∧ (dramWrite s a v).aux = s.aux ∧
    (dramWrite s a v).clk = s.clk ∧ (dramWrite s a v).pwr = s.pwr ∧ (dramWrite s a v).boot = s.boot ∧ (dramWrite s a
    v).thm = s.thm ∧ (dramWrite s a v).ddr = s.ddr ∧ (dramWrite s a v).mram = s.mram ∧ (dramWrite s a v).flash =
    s.flash ∧ (dramWrite s a v).flt = s.flt ∧ (dramWrite s a v).evt = s.evt := by
  unfold dramWrite
  simp
def dramWriteRegs : List Field := [DDRC.STATUS.RANGE_ERR]
@[simp] theorem dramWrite_word {key : Nat} (hk : Outside dramWriteRegs key) (s : State) (a : Nat) (v : List Byte)  :
    wordAt (dramWrite s a v).regs key = wordAt s.regs key := by
  simp only [dramWriteRegs, outside_append, outside_cons, outside_nil, and_true] at hk
  unfold dramWrite
  simp [hk]
@[simp] theorem activate_keep (s : State) (f : Field) : (activate s f).pending = s.pending ∧ (activate s f).regs =
    s.regs ∧ (activate s f).lt = s.lt ∧ (activate s f).synced = s.synced ∧ (activate s f).free = s.free ∧ (activate s
    f).dram = s.dram ∧ (activate s f).scan = s.scan ∧ (activate s f).pix = s.pix ∧ (activate s f).gal = s.gal ∧
    (activate s f).eng = s.eng ∧ (activate s f).stats = s.stats ∧ (activate s f).shd = s.shd ∧ (activate s f).guard =
    s.guard ∧ (activate s f).diag = s.diag ∧ (activate s f).cal = s.cal ∧ (activate s f).net = s.net ∧ (activate s
    f).mbx = s.mbx ∧ (activate s f).io = s.io ∧ (activate s f).pins = s.pins ∧ (activate s f).aux = s.aux ∧ (activate
    s f).clk = s.clk ∧ (activate s f).pwr = s.pwr ∧ (activate s f).boot = s.boot ∧ (activate s f).thm = s.thm ∧
    (activate s f).ddr = s.ddr ∧ (activate s f).mram = s.mram ∧ (activate s f).flash = s.flash ∧ (activate s f).flt =
    s.flt ∧ (activate s f).evt = s.evt := by
  unfold activate
  simp
@[simp] theorem applyHeld_keep (s : State) (n : Nat) : (applyHeld s n).pending = s.pending ∧ (applyHeld s n).regs =
    s.regs ∧ (applyHeld s n).lt = s.lt ∧ (applyHeld s n).synced = s.synced ∧ (applyHeld s n).free = s.free ∧
    (applyHeld s n).dram = s.dram ∧ (applyHeld s n).scan = s.scan ∧ (applyHeld s n).pix = s.pix ∧ (applyHeld s n).eng
    = s.eng ∧ (applyHeld s n).stats = s.stats ∧ (applyHeld s n).shd = s.shd ∧ (applyHeld s n).guard = s.guard ∧
    (applyHeld s n).diag = s.diag ∧ (applyHeld s n).cal = s.cal ∧ (applyHeld s n).net = s.net ∧ (applyHeld s n).mbx =
    s.mbx ∧ (applyHeld s n).io = s.io ∧ (applyHeld s n).pins = s.pins ∧ (applyHeld s n).aux = s.aux ∧ (applyHeld s
    n).clk = s.clk ∧ (applyHeld s n).pwr = s.pwr ∧ (applyHeld s n).boot = s.boot ∧ (applyHeld s n).thm = s.thm ∧
    (applyHeld s n).ddr = s.ddr ∧ (applyHeld s n).mram = s.mram ∧ (applyHeld s n).flash = s.flash ∧ (applyHeld s
    n).flt = s.flt ∧ (applyHeld s n).evt = s.evt := by
  unfold applyHeld
  split <;> simp
@[simp] theorem commitFields_keep (s : State) (keep : List Nat) : (commitFields s keep).pending = s.pending ∧
    (commitFields s keep).regs = s.regs ∧ (commitFields s keep).lt = s.lt ∧ (commitFields s keep).synced = s.synced ∧
    (commitFields s keep).free = s.free ∧ (commitFields s keep).dram = s.dram ∧ (commitFields s keep).scan = s.scan ∧
    (commitFields s keep).pix = s.pix ∧ (commitFields s keep).eng = s.eng ∧ (commitFields s keep).stats = s.stats ∧
    (commitFields s keep).shd = s.shd ∧ (commitFields s keep).guard = s.guard ∧ (commitFields s keep).diag = s.diag ∧
    (commitFields s keep).cal = s.cal ∧ (commitFields s keep).net = s.net ∧ (commitFields s keep).mbx = s.mbx ∧
    (commitFields s keep).io = s.io ∧ (commitFields s keep).pins = s.pins ∧ (commitFields s keep).aux = s.aux ∧
    (commitFields s keep).clk = s.clk ∧ (commitFields s keep).pwr = s.pwr ∧ (commitFields s keep).boot = s.boot ∧
    (commitFields s keep).thm = s.thm ∧ (commitFields s keep).ddr = s.ddr ∧ (commitFields s keep).mram = s.mram ∧
    (commitFields s keep).flash = s.flash ∧ (commitFields s keep).flt = s.flt ∧ (commitFields s keep).evt = s.evt := by
  unfold commitFields
  simp
@[simp] theorem doFlip_keep (s : State) (n : Nat) : (doFlip s n).pending = s.pending ∧ (doFlip s n).act = s.act ∧
    (doFlip s n).lt = s.lt ∧ (doFlip s n).synced = s.synced ∧ (doFlip s n).free = s.free ∧ (doFlip s n).dram = s.dram
    ∧ (doFlip s n).scan = s.scan ∧ (doFlip s n).pix = s.pix ∧ (doFlip s n).eng = s.eng ∧ (doFlip s n).stats = s.stats
    ∧ (doFlip s n).shd = s.shd ∧ (doFlip s n).guard = s.guard ∧ (doFlip s n).diag = s.diag ∧ (doFlip s n).cal = s.cal
    ∧ (doFlip s n).net = s.net ∧ (doFlip s n).mbx = s.mbx ∧ (doFlip s n).io = s.io ∧ (doFlip s n).pins = s.pins ∧
    (doFlip s n).aux = s.aux ∧ (doFlip s n).clk = s.clk ∧ (doFlip s n).pwr = s.pwr ∧ (doFlip s n).boot = s.boot ∧
    (doFlip s n).thm = s.thm ∧ (doFlip s n).ddr = s.ddr ∧ (doFlip s n).mram = s.mram ∧ (doFlip s n).flash = s.flash ∧
    (doFlip s n).flt = s.flt ∧ (doFlip s n).evt = s.evt := by
  unfold doFlip
  simp
def doFlipRegs : List Field := fenceAddRegs ++ [GAL.SAFE_STATUS.DROPPED] ++ allOf 7 GAL.L.ADDR_HI.ADDR ++ allOf 7
    GAL.L.ADDR_LO.ADDR ++ allOf 7 GAL.L.CRC_EXP.CRC_EXP ++ allOf 7 GAL.L.FLIP.ARM
@[simp] theorem doFlip_word {key : Nat} (hk : Outside doFlipRegs key) (s : State) (n : Nat)  : wordAt (doFlip s
    n).regs key = wordAt s.regs key := by
  simp only [doFlipRegs, outside_append, outside_cons, outside_nil, and_true, outside_GAL_L_ADDR_HI_ADDR, outside_GAL_L_ADDR_LO_ADDR, outside_GAL_L_CRC_EXP_CRC_EXP, outside_GAL_L_FLIP_ARM] at hk
  unfold doFlip
  simp [hk]
@[simp] theorem abandonBuild_keep (s : State) : (abandonBuild s).pending = s.pending ∧ (abandonBuild s).act = s.act ∧
    (abandonBuild s).lt = s.lt ∧ (abandonBuild s).synced = s.synced ∧ (abandonBuild s).free = s.free ∧ (abandonBuild
    s).dram = s.dram ∧ (abandonBuild s).scan = s.scan ∧ (abandonBuild s).pix = s.pix ∧ (abandonBuild s).gal = s.gal ∧
    (abandonBuild s).eng = s.eng ∧ (abandonBuild s).stats = s.stats ∧ (abandonBuild s).shd = s.shd ∧ (abandonBuild
    s).guard = s.guard ∧ (abandonBuild s).diag = s.diag ∧ (abandonBuild s).cal = s.cal ∧ (abandonBuild s).net = s.net
    ∧ (abandonBuild s).mbx = s.mbx ∧ (abandonBuild s).io = s.io ∧ (abandonBuild s).pins = s.pins ∧ (abandonBuild
    s).aux = s.aux ∧ (abandonBuild s).clk = s.clk ∧ (abandonBuild s).pwr = s.pwr ∧ (abandonBuild s).boot = s.boot ∧
    (abandonBuild s).thm = s.thm ∧ (abandonBuild s).ddr = s.ddr ∧ (abandonBuild s).mram = s.mram ∧ (abandonBuild
    s).flash = s.flash ∧ (abandonBuild s).flt = s.flt ∧ (abandonBuild s).evt = s.evt := by
  unfold abandonBuild
  simp
def abandonBuildRegs : List Field := [GAL.KILN_STATUS.ABANDONS, GAL.KILN_STATUS.BUILDING]
@[simp] theorem abandonBuild_word {key : Nat} (hk : Outside abandonBuildRegs key) (s : State)  : wordAt (abandonBuild
    s).regs key = wordAt s.regs key := by
  simp only [abandonBuildRegs, outside_append, outside_cons, outside_nil, and_true] at hk
  unfold abandonBuild
  simp [hk]
@[simp] theorem discardKiln_keep (s : State) : (discardKiln s).pending = s.pending ∧ (discardKiln s).act = s.act ∧
    (discardKiln s).lt = s.lt ∧ (discardKiln s).synced = s.synced ∧ (discardKiln s).free = s.free ∧ (discardKiln
    s).dram = s.dram ∧ (discardKiln s).scan = s.scan ∧ (discardKiln s).pix = s.pix ∧ (discardKiln s).eng = s.eng ∧
    (discardKiln s).stats = s.stats ∧ (discardKiln s).shd = s.shd ∧ (discardKiln s).guard = s.guard ∧ (discardKiln
    s).diag = s.diag ∧ (discardKiln s).cal = s.cal ∧ (discardKiln s).net = s.net ∧ (discardKiln s).mbx = s.mbx ∧
    (discardKiln s).io = s.io ∧ (discardKiln s).pins = s.pins ∧ (discardKiln s).aux = s.aux ∧ (discardKiln s).clk =
    s.clk ∧ (discardKiln s).pwr = s.pwr ∧ (discardKiln s).boot = s.boot ∧ (discardKiln s).thm = s.thm ∧ (discardKiln
    s).ddr = s.ddr ∧ (discardKiln s).mram = s.mram ∧ (discardKiln s).flash = s.flash ∧ (discardKiln s).flt = s.flt ∧
    (discardKiln s).evt = s.evt := by
  unfold discardKiln
  simp
def discardKilnRegs : List Field := abandonBuildRegs ++ [GAL.KILN_STATUS.ACTIVE]
@[simp] theorem discardKiln_word {key : Nat} (hk : Outside discardKilnRegs key) (s : State)  : wordAt (discardKiln
    s).regs key = wordAt s.regs key := by
  simp only [discardKilnRegs, outside_append, outside_cons, outside_nil, and_true] at hk
  unfold discardKiln
  simp [hk]
@[simp] theorem kilnChanges_keep (s : State) (changed : List Nat) : (kilnChanges s changed).pending = s.pending ∧
    (kilnChanges s changed).act = s.act ∧ (kilnChanges s changed).lt = s.lt ∧ (kilnChanges s changed).synced =
    s.synced ∧ (kilnChanges s changed).free = s.free ∧ (kilnChanges s changed).dram = s.dram ∧ (kilnChanges s
    changed).scan = s.scan ∧ (kilnChanges s changed).pix = s.pix ∧ (kilnChanges s changed).eng = s.eng ∧ (kilnChanges
    s changed).stats = s.stats ∧ (kilnChanges s changed).shd = s.shd ∧ (kilnChanges s changed).guard = s.guard ∧
    (kilnChanges s changed).diag = s.diag ∧ (kilnChanges s changed).cal = s.cal ∧ (kilnChanges s changed).net = s.net
    ∧ (kilnChanges s changed).mbx = s.mbx ∧ (kilnChanges s changed).io = s.io ∧ (kilnChanges s changed).pins = s.pins
    ∧ (kilnChanges s changed).aux = s.aux ∧ (kilnChanges s changed).clk = s.clk ∧ (kilnChanges s changed).pwr = s.pwr
    ∧ (kilnChanges s changed).boot = s.boot ∧ (kilnChanges s changed).thm = s.thm ∧ (kilnChanges s changed).ddr =
    s.ddr ∧ (kilnChanges s changed).mram = s.mram ∧ (kilnChanges s changed).flash = s.flash ∧ (kilnChanges s
    changed).flt = s.flt ∧ (kilnChanges s changed).evt = s.evt := by
  unfold kilnChanges
  simp
def kilnChangesRegs : List Field := abandonBuildRegs ++ [GAL.KILN_STATUS.ACTIVE]
@[simp] theorem kilnChanges_word {key : Nat} (hk : Outside kilnChangesRegs key) (s : State) (changed : List Nat)  :
    wordAt (kilnChanges s changed).regs key = wordAt s.regs key := by
  simp only [kilnChangesRegs, outside_append, outside_cons, outside_nil, and_true] at hk
  unfold kilnChanges
  simp [hk]
@[simp] theorem kilnSwap_keep (s : State) (changed : List Nat) : (kilnSwap s changed).pending = s.pending ∧ (kilnSwap
    s changed).act = s.act ∧ (kilnSwap s changed).lt = s.lt ∧ (kilnSwap s changed).synced = s.synced ∧ (kilnSwap s
    changed).free = s.free ∧ (kilnSwap s changed).dram = s.dram ∧ (kilnSwap s changed).scan = s.scan ∧ (kilnSwap s
    changed).pix = s.pix ∧ (kilnSwap s changed).eng = s.eng ∧ (kilnSwap s changed).stats = s.stats ∧ (kilnSwap s
    changed).shd = s.shd ∧ (kilnSwap s changed).guard = s.guard ∧ (kilnSwap s changed).diag = s.diag ∧ (kilnSwap s
    changed).cal = s.cal ∧ (kilnSwap s changed).net = s.net ∧ (kilnSwap s changed).mbx = s.mbx ∧ (kilnSwap s
    changed).io = s.io ∧ (kilnSwap s changed).pins = s.pins ∧ (kilnSwap s changed).aux = s.aux ∧ (kilnSwap s
    changed).clk = s.clk ∧ (kilnSwap s changed).pwr = s.pwr ∧ (kilnSwap s changed).boot = s.boot ∧ (kilnSwap s
    changed).thm = s.thm ∧ (kilnSwap s changed).ddr = s.ddr ∧ (kilnSwap s changed).mram = s.mram ∧ (kilnSwap s
    changed).flash = s.flash ∧ (kilnSwap s changed).flt = s.flt ∧ (kilnSwap s changed).evt = s.evt := by
  unfold kilnSwap
  split <;> simp
def kilnSwapRegs : List Field := [GAL.KILN_STATUS.ACTIVE, GAL.KILN_STATUS.GEN, GAL.KILN_STATUS.PREFIX]
@[simp] theorem kilnSwap_word {key : Nat} (hk : Outside kilnSwapRegs key) (s : State) (changed : List Nat)  : wordAt
    (kilnSwap s changed).regs key = wordAt s.regs key := by
  simp only [kilnSwapRegs, outside_append, outside_cons, outside_nil, and_true] at hk
  unfold kilnSwap
  split <;> simp [hk]
@[simp] theorem kilnBegin_keep (s : State) : (kilnBegin s).pending = s.pending ∧ (kilnBegin s).act = s.act ∧
    (kilnBegin s).lt = s.lt ∧ (kilnBegin s).synced = s.synced ∧ (kilnBegin s).free = s.free ∧ (kilnBegin s).dram =
    s.dram ∧ (kilnBegin s).scan = s.scan ∧ (kilnBegin s).pix = s.pix ∧ (kilnBegin s).eng = s.eng ∧ (kilnBegin s).stats
    = s.stats ∧ (kilnBegin s).shd = s.shd ∧ (kilnBegin s).guard = s.guard ∧ (kilnBegin s).diag = s.diag ∧ (kilnBegin
    s).cal = s.cal ∧ (kilnBegin s).net = s.net ∧ (kilnBegin s).mbx = s.mbx ∧ (kilnBegin s).io = s.io ∧ (kilnBegin
    s).pins = s.pins ∧ (kilnBegin s).aux = s.aux ∧ (kilnBegin s).clk = s.clk ∧ (kilnBegin s).pwr = s.pwr ∧ (kilnBegin
    s).boot = s.boot ∧ (kilnBegin s).thm = s.thm ∧ (kilnBegin s).ddr = s.ddr ∧ (kilnBegin s).mram = s.mram ∧
    (kilnBegin s).flash = s.flash ∧ (kilnBegin s).flt = s.flt ∧ (kilnBegin s).evt = s.evt := by
  unfold kilnBegin
  split <;> simp
def kilnBeginRegs : List Field := [GAL.KILN_STATUS.BUILDING]
@[simp] theorem kilnBegin_word {key : Nat} (hk : Outside kilnBeginRegs key) (s : State)  : wordAt (kilnBegin s).regs
    key = wordAt s.regs key := by
  simp only [kilnBeginRegs, outside_append, outside_cons, outside_nil, and_true] at hk
  unfold kilnBegin
  split <;> simp [hk]
@[simp] theorem kilnFrameStart_keep (s : State) (changed : List Nat) : (kilnFrameStart s changed).pending = s.pending
    ∧ (kilnFrameStart s changed).act = s.act ∧ (kilnFrameStart s changed).lt = s.lt ∧ (kilnFrameStart s
    changed).synced = s.synced ∧ (kilnFrameStart s changed).free = s.free ∧ (kilnFrameStart s changed).dram = s.dram ∧
    (kilnFrameStart s changed).scan = s.scan ∧ (kilnFrameStart s changed).pix = s.pix ∧ (kilnFrameStart s changed).eng
    = s.eng ∧ (kilnFrameStart s changed).stats = s.stats ∧ (kilnFrameStart s changed).shd = s.shd ∧ (kilnFrameStart s
    changed).guard = s.guard ∧ (kilnFrameStart s changed).diag = s.diag ∧ (kilnFrameStart s changed).cal = s.cal ∧
    (kilnFrameStart s changed).net = s.net ∧ (kilnFrameStart s changed).mbx = s.mbx ∧ (kilnFrameStart s changed).io =
    s.io ∧ (kilnFrameStart s changed).pins = s.pins ∧ (kilnFrameStart s changed).aux = s.aux ∧ (kilnFrameStart s
    changed).clk = s.clk ∧ (kilnFrameStart s changed).pwr = s.pwr ∧ (kilnFrameStart s changed).boot = s.boot ∧
    (kilnFrameStart s changed).thm = s.thm ∧ (kilnFrameStart s changed).ddr = s.ddr ∧ (kilnFrameStart s changed).mram
    = s.mram ∧ (kilnFrameStart s changed).flash = s.flash ∧ (kilnFrameStart s changed).flt = s.flt ∧ (kilnFrameStart s
    changed).evt = s.evt := by
  unfold kilnFrameStart
  simp
def kilnFrameStartRegs : List Field := kilnBeginRegs ++ kilnSwapRegs ++ kilnChangesRegs
@[simp] theorem kilnFrameStart_word {key : Nat} (hk : Outside kilnFrameStartRegs key) (s : State) (changed : List Nat)
     : wordAt (kilnFrameStart s changed).regs key = wordAt s.regs key := by
  simp only [kilnFrameStartRegs, outside_append, outside_cons, outside_nil, and_true] at hk
  unfold kilnFrameStart
  simp [hk]
@[simp] theorem galFrameStart_keep (s : State) (force : Bool) : (galFrameStart s force).pending = s.pending ∧
    (galFrameStart s force).lt = s.lt ∧ (galFrameStart s force).synced = s.synced ∧ (galFrameStart s force).free =
    s.free ∧ (galFrameStart s force).dram = s.dram ∧ (galFrameStart s force).scan = s.scan ∧ (galFrameStart s
    force).pix = s.pix ∧ (galFrameStart s force).eng = s.eng ∧ (galFrameStart s force).stats = s.stats ∧
    (galFrameStart s force).shd = s.shd ∧ (galFrameStart s force).guard = s.guard ∧ (galFrameStart s force).diag =
    s.diag ∧ (galFrameStart s force).cal = s.cal ∧ (galFrameStart s force).net = s.net ∧ (galFrameStart s force).mbx =
    s.mbx ∧ (galFrameStart s force).io = s.io ∧ (galFrameStart s force).pins = s.pins ∧ (galFrameStart s force).aux =
    s.aux ∧ (galFrameStart s force).clk = s.clk ∧ (galFrameStart s force).pwr = s.pwr ∧ (galFrameStart s force).boot =
    s.boot ∧ (galFrameStart s force).thm = s.thm ∧ (galFrameStart s force).ddr = s.ddr ∧ (galFrameStart s force).mram
    = s.mram ∧ (galFrameStart s force).flash = s.flash ∧ (galFrameStart s force).flt = s.flt ∧ (galFrameStart s
    force).evt = s.evt := by
  unfold galFrameStart
  simp
def galFrameStartRegs : List Field := doFlipRegs ++ kilnFrameStartRegs ++ [GAL.FLIP_SKIP_COUNT.COUNT,
    GAL.SAFE_STATUS.DROPPED, GAL.STATUS.PARAM_ERR]
@[simp] theorem galFrameStart_word {key : Nat} (hk : Outside galFrameStartRegs key) (s : State) (force : Bool)  :
    wordAt (galFrameStart s force).regs key = wordAt s.regs key := by
  simp only [galFrameStartRegs, outside_append, outside_cons, outside_nil, and_true] at hk
  unfold galFrameStart
  simp [hk]
@[simp] theorem writeFlip_keep (s : State) (n : Nat) (w : Word) : (writeFlip s n w).pending = s.pending ∧ (writeFlip s
    n w).act = s.act ∧ (writeFlip s n w).lt = s.lt ∧ (writeFlip s n w).synced = s.synced ∧ (writeFlip s n w).free =
    s.free ∧ (writeFlip s n w).dram = s.dram ∧ (writeFlip s n w).scan = s.scan ∧ (writeFlip s n w).pix = s.pix ∧
    (writeFlip s n w).gal = s.gal ∧ (writeFlip s n w).eng = s.eng ∧ (writeFlip s n w).stats = s.stats ∧ (writeFlip s n
    w).shd = s.shd ∧ (writeFlip s n w).guard = s.guard ∧ (writeFlip s n w).diag = s.diag ∧ (writeFlip s n w).cal =
    s.cal ∧ (writeFlip s n w).net = s.net ∧ (writeFlip s n w).mbx = s.mbx ∧ (writeFlip s n w).io = s.io ∧ (writeFlip s
    n w).pins = s.pins ∧ (writeFlip s n w).aux = s.aux ∧ (writeFlip s n w).clk = s.clk ∧ (writeFlip s n w).pwr = s.pwr
    ∧ (writeFlip s n w).boot = s.boot ∧ (writeFlip s n w).thm = s.thm ∧ (writeFlip s n w).ddr = s.ddr ∧ (writeFlip s n
    w).mram = s.mram ∧ (writeFlip s n w).flash = s.flash ∧ (writeFlip s n w).flt = s.flt ∧ (writeFlip s n w).evt =
    s.evt := by
  unfold writeFlip
  simp
def writeFlipRegs : List Field := allOf 7 GAL.L.FLIP.ARM ++ allOf 7 GAL.L.FLIP.FENCE_EN ++ allOf 7
    GAL.L.FLIP.FENCE_SEL ++ allOf 7 GAL.L.FLIP.RETIRE_EN ++ allOf 7 GAL.L.FLIP.RETIRE_SEL
@[simp] theorem writeFlip_word {key : Nat} (hk : Outside writeFlipRegs key) (s : State) (n : Nat) (w : Word)  : wordAt
    (writeFlip s n w).regs key = wordAt s.regs key := by
  have h' : ∀ f ∈ [GAL.L.FLIP.ARM n, GAL.L.FLIP.FENCE_EN n, GAL.L.FLIP.FENCE_SEL n, GAL.L.FLIP.RETIRE_EN n, GAL.L.FLIP.RETIRE_SEL n], fieldKey f ≠ key := by
    simp only [writeFlipRegs, outside_append, outside_cons, outside_nil, and_true, outside_GAL_L_FLIP_ARM, outside_GAL_L_FLIP_FENCE_EN, outside_GAL_L_FLIP_FENCE_SEL, outside_GAL_L_FLIP_RETIRE_EN, outside_GAL_L_FLIP_RETIRE_SEL] at hk
    simp [hk]
  exact foldl_fields_word _ h' _ _
@[simp] theorem lutPut_keep (s : State) (t i v : Nat) : (lutPut s t i v).1.pending = s.pending ∧ (lutPut s t i
    v).1.act = s.act ∧ (lutPut s t i v).1.lt = s.lt ∧ (lutPut s t i v).1.synced = s.synced ∧ (lutPut s t i v).1.free =
    s.free ∧ (lutPut s t i v).1.dram = s.dram ∧ (lutPut s t i v).1.scan = s.scan ∧ (lutPut s t i v).1.pix = s.pix ∧
    (lutPut s t i v).1.eng = s.eng ∧ (lutPut s t i v).1.stats = s.stats ∧ (lutPut s t i v).1.shd = s.shd ∧ (lutPut s t
    i v).1.guard = s.guard ∧ (lutPut s t i v).1.diag = s.diag ∧ (lutPut s t i v).1.cal = s.cal ∧ (lutPut s t i
    v).1.net = s.net ∧ (lutPut s t i v).1.mbx = s.mbx ∧ (lutPut s t i v).1.io = s.io ∧ (lutPut s t i v).1.pins =
    s.pins ∧ (lutPut s t i v).1.aux = s.aux ∧ (lutPut s t i v).1.clk = s.clk ∧ (lutPut s t i v).1.pwr = s.pwr ∧
    (lutPut s t i v).1.boot = s.boot ∧ (lutPut s t i v).1.thm = s.thm ∧ (lutPut s t i v).1.ddr = s.ddr ∧ (lutPut s t i
    v).1.mram = s.mram ∧ (lutPut s t i v).1.flash = s.flash ∧ (lutPut s t i v).1.flt = s.flt ∧ (lutPut s t i v).1.evt
    = s.evt := by
  unfold lutPut
  split <;> simp
def lutPutRegs : List Field := [GAL.STATUS.LUT_IGN]
@[simp] theorem lutPut_word {key : Nat} (hk : Outside lutPutRegs key) (s : State) (t i v : Nat)  : wordAt (lutPut s t
    i v).1.regs key = wordAt s.regs key := by
  simp only [lutPutRegs, outside_append, outside_cons, outside_nil, and_true] at hk
  unfold lutPut
  split <;> simp [hk]
@[simp] theorem lutRead_keep (s : State) : (lutRead s).pending = s.pending ∧ (lutRead s).act = s.act ∧ (lutRead s).lt
    = s.lt ∧ (lutRead s).synced = s.synced ∧ (lutRead s).dram = s.dram ∧ (lutRead s).scan = s.scan ∧ (lutRead s).pix =
    s.pix ∧ (lutRead s).gal = s.gal ∧ (lutRead s).eng = s.eng ∧ (lutRead s).stats = s.stats ∧ (lutRead s).shd = s.shd
    ∧ (lutRead s).guard = s.guard ∧ (lutRead s).diag = s.diag ∧ (lutRead s).cal = s.cal ∧ (lutRead s).net = s.net ∧
    (lutRead s).mbx = s.mbx ∧ (lutRead s).io = s.io ∧ (lutRead s).pins = s.pins ∧ (lutRead s).aux = s.aux ∧ (lutRead
    s).clk = s.clk ∧ (lutRead s).pwr = s.pwr ∧ (lutRead s).boot = s.boot ∧ (lutRead s).thm = s.thm ∧ (lutRead s).ddr =
    s.ddr ∧ (lutRead s).mram = s.mram ∧ (lutRead s).flash = s.flash ∧ (lutRead s).flt = s.flt ∧ (lutRead s).evt =
    s.evt := by
  unfold lutRead
  simp
def lutReadRegs : List Field := [GAL.LUT_ADDR.INDEX, GAL.LUT_DATA.ENTRY]
@[simp] theorem lutRead_word {key : Nat} (hk : Outside lutReadRegs key) (s : State)  : wordAt (lutRead s).regs key =
    wordAt s.regs key := by
  simp only [lutReadRegs, outside_append, outside_cons, outside_nil, and_true] at hk
  unfold lutRead
  simp [hk]
@[simp] theorem galDisable_keep (s : State) : (galDisable s).pending = s.pending ∧ (galDisable s).act = s.act ∧
    (galDisable s).lt = s.lt ∧ (galDisable s).synced = s.synced ∧ (galDisable s).free = s.free ∧ (galDisable s).dram =
    s.dram ∧ (galDisable s).pix = s.pix ∧ (galDisable s).gal = s.gal ∧ (galDisable s).eng = s.eng ∧ (galDisable
    s).stats = s.stats ∧ (galDisable s).shd = s.shd ∧ (galDisable s).guard = s.guard ∧ (galDisable s).diag = s.diag ∧
    (galDisable s).cal = s.cal ∧ (galDisable s).net = s.net ∧ (galDisable s).mbx = s.mbx ∧ (galDisable s).io = s.io ∧
    (galDisable s).pins = s.pins ∧ (galDisable s).aux = s.aux ∧ (galDisable s).clk = s.clk ∧ (galDisable s).pwr =
    s.pwr ∧ (galDisable s).boot = s.boot ∧ (galDisable s).thm = s.thm ∧ (galDisable s).ddr = s.ddr ∧ (galDisable
    s).mram = s.mram ∧ (galDisable s).flash = s.flash ∧ (galDisable s).flt = s.flt ∧ (galDisable s).evt = s.evt := by
  unfold galDisable
  simp
def galDisableRegs : List Field := [GAL.CTRL.EN]
@[simp] theorem galDisable_word {key : Nat} (hk : Outside galDisableRegs key) (s : State)  : wordAt (galDisable
    s).regs key = wordAt s.regs key := by
  simp only [galDisableRegs, outside_append, outside_cons, outside_nil, and_true] at hk
  unfold galDisable
  simp [hk]
@[simp] theorem safetyCheck_keep (s : State) (n : Nat) : (safetyCheck s n).pending = s.pending ∧ (safetyCheck s n).act
    = s.act ∧ (safetyCheck s n).lt = s.lt ∧ (safetyCheck s n).synced = s.synced ∧ (safetyCheck s n).free = s.free ∧
    (safetyCheck s n).dram = s.dram ∧ (safetyCheck s n).eng = s.eng ∧ (safetyCheck s n).shd = s.shd ∧ (safetyCheck s
    n).guard = s.guard ∧ (safetyCheck s n).diag = s.diag ∧ (safetyCheck s n).cal = s.cal ∧ (safetyCheck s n).net =
    s.net ∧ (safetyCheck s n).mbx = s.mbx ∧ (safetyCheck s n).io = s.io ∧ (safetyCheck s n).pins = s.pins ∧
    (safetyCheck s n).aux = s.aux ∧ (safetyCheck s n).clk = s.clk ∧ (safetyCheck s n).pwr = s.pwr ∧ (safetyCheck s
    n).boot = s.boot ∧ (safetyCheck s n).thm = s.thm ∧ (safetyCheck s n).ddr = s.ddr ∧ (safetyCheck s n).mram = s.mram
    ∧ (safetyCheck s n).flash = s.flash ∧ (safetyCheck s n).evt = s.evt := by
  unfold safetyCheck
  simp
def safetyCheckRegs : List Field := raiseEitherRegs ++ [GAL.CRC_ERR_COUNT.COUNT, GAL.SAFE_STATUS.CRC_ERR,
    GAL.STATUS.CRC_ABORT] ++ allOf 7 GAL.L.CRC_ACT.CRC_ACT
@[simp] theorem safetyCheck_word {key : Nat} (hk : Outside safetyCheckRegs key) (s : State) (n : Nat)  : wordAt
    (safetyCheck s n).regs key = wordAt s.regs key := by
  simp only [safetyCheckRegs, outside_append, outside_cons, outside_nil, and_true, outside_GAL_L_CRC_ACT_CRC_ACT] at hk
  unfold safetyCheck
  simp [hk]

end Sys2Proof.Machine
end

