-- ==== Sys2Proof/Laws/FrameEngines.lean ====
section
/-! SUPPORT. FrameEngines.lean: for each operation of Machine/Engines.lean, the parts of State that it leaves alone and the register
fields outside which it changes none. -/

set_option linter.unusedSimpArgs false

namespace Sys2Proof.Machine

set_option Elab.async false

@[simp] theorem renderBand_keep (s : State) (r : RunSet) (e : RunEntry) (band : Nat) : (renderBand s r e band).pending
    = s.pending ∧ (renderBand s r e band).act = s.act ∧ (renderBand s r e band).lt = s.lt ∧ (renderBand s r e
    band).synced = s.synced ∧ (renderBand s r e band).scan = s.scan ∧ (renderBand s r e band).pix = s.pix ∧
    (renderBand s r e band).eng = s.eng ∧ (renderBand s r e band).stats = s.stats ∧ (renderBand s r e band).shd =
    s.shd ∧ (renderBand s r e band).guard = s.guard ∧ (renderBand s r e band).diag = s.diag ∧ (renderBand s r e
    band).cal = s.cal ∧ (renderBand s r e band).net = s.net ∧ (renderBand s r e band).mbx = s.mbx ∧ (renderBand s r e
    band).io = s.io ∧ (renderBand s r e band).pins = s.pins ∧ (renderBand s r e band).aux = s.aux ∧ (renderBand s r e
    band).clk = s.clk ∧ (renderBand s r e band).pwr = s.pwr ∧ (renderBand s r e band).boot = s.boot ∧ (renderBand s r
    e band).thm = s.thm ∧ (renderBand s r e band).ddr = s.ddr ∧ (renderBand s r e band).mram = s.mram ∧ (renderBand s
    r e band).flash = s.flash ∧ (renderBand s r e band).flt = s.flt ∧ (renderBand s r e band).evt = s.evt := by
  unfold renderBand
  simp
def renderBandRegs : List Field := dramWriteRegs
@[simp] theorem renderBand_word {key : Nat} (hk : Outside renderBandRegs key) (s : State) (r : RunSet) (e : RunEntry)
    (band : Nat)  : wordAt (renderBand s r e band).regs key = wordAt s.regs key := by
  simp only [renderBandRegs, outside_append, outside_cons, outside_nil, and_true] at hk
  unfold renderBand
  simp [hk]
@[simp] theorem setEntry_keep (s : State) (r : RunSet) (i : Nat) (e : RunEntry) : (setEntry s r i e).pending =
    s.pending ∧ (setEntry s r i e).regs = s.regs ∧ (setEntry s r i e).act = s.act ∧ (setEntry s r i e).lt = s.lt ∧
    (setEntry s r i e).synced = s.synced ∧ (setEntry s r i e).free = s.free ∧ (setEntry s r i e).dram = s.dram ∧
    (setEntry s r i e).scan = s.scan ∧ (setEntry s r i e).pix = s.pix ∧ (setEntry s r i e).gal = s.gal ∧ (setEntry s r
    i e).stats = s.stats ∧ (setEntry s r i e).shd = s.shd ∧ (setEntry s r i e).guard = s.guard ∧ (setEntry s r i
    e).diag = s.diag ∧ (setEntry s r i e).cal = s.cal ∧ (setEntry s r i e).net = s.net ∧ (setEntry s r i e).mbx =
    s.mbx ∧ (setEntry s r i e).io = s.io ∧ (setEntry s r i e).pins = s.pins ∧ (setEntry s r i e).aux = s.aux ∧
    (setEntry s r i e).clk = s.clk ∧ (setEntry s r i e).pwr = s.pwr ∧ (setEntry s r i e).boot = s.boot ∧ (setEntry s r
    i e).thm = s.thm ∧ (setEntry s r i e).ddr = s.ddr ∧ (setEntry s r i e).mram = s.mram ∧ (setEntry s r i e).flash =
    s.flash ∧ (setEntry s r i e).flt = s.flt ∧ (setEntry s r i e).evt = s.evt := by
  unfold setEntry
  simp
@[simp] theorem startBand_keep (s : State) (band : Nat) (ok : RunEntry → Bool) : (startBand s band ok).pending =
    s.pending ∧ (startBand s band ok).regs = s.regs ∧ (startBand s band ok).act = s.act ∧ (startBand s band ok).lt =
    s.lt ∧ (startBand s band ok).synced = s.synced ∧ (startBand s band ok).free = s.free ∧ (startBand s band ok).dram
    = s.dram ∧ (startBand s band ok).scan = s.scan ∧ (startBand s band ok).pix = s.pix ∧ (startBand s band ok).gal =
    s.gal ∧ (startBand s band ok).stats = s.stats ∧ (startBand s band ok).shd = s.shd ∧ (startBand s band ok).guard =
    s.guard ∧ (startBand s band ok).diag = s.diag ∧ (startBand s band ok).cal = s.cal ∧ (startBand s band ok).net =
    s.net ∧ (startBand s band ok).mbx = s.mbx ∧ (startBand s band ok).io = s.io ∧ (startBand s band ok).pins = s.pins
    ∧ (startBand s band ok).aux = s.aux ∧ (startBand s band ok).clk = s.clk ∧ (startBand s band ok).pwr = s.pwr ∧
    (startBand s band ok).boot = s.boot ∧ (startBand s band ok).thm = s.thm ∧ (startBand s band ok).ddr = s.ddr ∧
    (startBand s band ok).mram = s.mram ∧ (startBand s band ok).flash = s.flash ∧ (startBand s band ok).flt = s.flt ∧
    (startBand s band ok).evt = s.evt := by
  unfold startBand
  (try simp) <;> (repeat' apply And.intro) <;> (repeat' split) <;> (try simp)
@[simp] theorem entryDone_keep (s : State) (e : RunEntry) : (entryDone s e).pending = s.pending ∧ (entryDone s e).act
    = s.act ∧ (entryDone s e).lt = s.lt ∧ (entryDone s e).synced = s.synced ∧ (entryDone s e).free = s.free ∧
    (entryDone s e).dram = s.dram ∧ (entryDone s e).scan = s.scan ∧ (entryDone s e).pix = s.pix ∧ (entryDone s e).gal
    = s.gal ∧ (entryDone s e).eng = s.eng ∧ (entryDone s e).stats = s.stats ∧ (entryDone s e).shd = s.shd ∧ (entryDone
    s e).guard = s.guard ∧ (entryDone s e).diag = s.diag ∧ (entryDone s e).cal = s.cal ∧ (entryDone s e).net = s.net ∧
    (entryDone s e).mbx = s.mbx ∧ (entryDone s e).io = s.io ∧ (entryDone s e).pins = s.pins ∧ (entryDone s e).aux =
    s.aux ∧ (entryDone s e).clk = s.clk ∧ (entryDone s e).pwr = s.pwr ∧ (entryDone s e).boot = s.boot ∧ (entryDone s
    e).thm = s.thm ∧ (entryDone s e).ddr = s.ddr ∧ (entryDone s e).mram = s.mram ∧ (entryDone s e).flash = s.flash ∧
    (entryDone s e).flt = s.flt ∧ (entryDone s e).evt = s.evt := by
  unfold entryDone
  simp
def entryDoneRegs : List Field := fenceAddRegs ++ allOf 7 GAL.L.NEXT_CRC.NEXT_CRC
@[simp] theorem entryDone_word {key : Nat} (hk : Outside entryDoneRegs key) (s : State) (e : RunEntry)  : wordAt
    (entryDone s e).regs key = wordAt s.regs key := by
  simp only [entryDoneRegs, outside_append, outside_cons, outside_nil, and_true, outside_GAL_L_NEXT_CRC_NEXT_CRC] at hk
  unfold entryDone
  simp [hk]
@[simp] theorem closeSet_keep (s : State) : (closeSet s).pending = s.pending ∧ (closeSet s).regs = s.regs ∧ (closeSet
    s).act = s.act ∧ (closeSet s).lt = s.lt ∧ (closeSet s).synced = s.synced ∧ (closeSet s).free = s.free ∧ (closeSet
    s).dram = s.dram ∧ (closeSet s).scan = s.scan ∧ (closeSet s).pix = s.pix ∧ (closeSet s).gal = s.gal ∧ (closeSet
    s).shd = s.shd ∧ (closeSet s).guard = s.guard ∧ (closeSet s).diag = s.diag ∧ (closeSet s).cal = s.cal ∧ (closeSet
    s).net = s.net ∧ (closeSet s).mbx = s.mbx ∧ (closeSet s).io = s.io ∧ (closeSet s).pins = s.pins ∧ (closeSet s).aux
    = s.aux ∧ (closeSet s).clk = s.clk ∧ (closeSet s).pwr = s.pwr ∧ (closeSet s).boot = s.boot ∧ (closeSet s).thm =
    s.thm ∧ (closeSet s).ddr = s.ddr ∧ (closeSet s).mram = s.mram ∧ (closeSet s).flash = s.flash ∧ (closeSet s).flt =
    s.flt ∧ (closeSet s).evt = s.evt := by
  unfold closeSet
  split <;> simp
@[simp] theorem completeBand_keep (s : State) (b : Nat) : (completeBand s b).pending = s.pending ∧ (completeBand s
    b).act = s.act ∧ (completeBand s b).lt = s.lt ∧ (completeBand s b).synced = s.synced ∧ (completeBand s b).scan =
    s.scan ∧ (completeBand s b).pix = s.pix ∧ (completeBand s b).shd = s.shd ∧ (completeBand s b).guard = s.guard ∧
    (completeBand s b).diag = s.diag ∧ (completeBand s b).cal = s.cal ∧ (completeBand s b).net = s.net ∧ (completeBand
    s b).mbx = s.mbx ∧ (completeBand s b).io = s.io ∧ (completeBand s b).pins = s.pins ∧ (completeBand s b).aux =
    s.aux ∧ (completeBand s b).clk = s.clk ∧ (completeBand s b).pwr = s.pwr ∧ (completeBand s b).boot = s.boot ∧
    (completeBand s b).thm = s.thm ∧ (completeBand s b).ddr = s.ddr ∧ (completeBand s b).mram = s.mram ∧ (completeBand
    s b).flash = s.flash ∧ (completeBand s b).flt = s.flt ∧ (completeBand s b).evt = s.evt := by
  unfold completeBand
  (try simp) <;> (repeat' apply And.intro) <;> (repeat' split) <;> (try simp)
def completeBandRegs : List Field := renderBandRegs ++ entryDoneRegs
@[simp] theorem completeBand_word {key : Nat} (hk : Outside completeBandRegs key) (s : State) (b : Nat)  : wordAt
    (completeBand s b).regs key = wordAt s.regs key := by
  simp only [completeBandRegs, outside_append, outside_cons, outside_nil, and_true] at hk
  unfold completeBand
  (repeat' split) <;> (try simp [hk])
@[simp] theorem abandonEntries_keep (s : State) (bands : List Nat) : (abandonEntries s bands).pending = s.pending ∧ (abandonEntries
    s bands).regs = s.regs ∧ (abandonEntries s bands).act = s.act ∧ (abandonEntries s bands).lt = s.lt ∧ (abandonEntries s
    bands).synced = s.synced ∧ (abandonEntries s bands).free = s.free ∧ (abandonEntries s bands).dram = s.dram ∧
    (abandonEntries s bands).scan = s.scan ∧ (abandonEntries s bands).pix = s.pix ∧ (abandonEntries s bands).gal = s.gal ∧
    (abandonEntries s bands).shd = s.shd ∧ (abandonEntries s bands).guard = s.guard ∧ (abandonEntries s bands).diag = s.diag ∧
    (abandonEntries s bands).cal = s.cal ∧ (abandonEntries s bands).net = s.net ∧ (abandonEntries s bands).mbx = s.mbx ∧
    (abandonEntries s bands).io = s.io ∧ (abandonEntries s bands).pins = s.pins ∧ (abandonEntries s bands).aux = s.aux ∧
    (abandonEntries s bands).clk = s.clk ∧ (abandonEntries s bands).pwr = s.pwr ∧ (abandonEntries s bands).boot = s.boot ∧
    (abandonEntries s bands).thm = s.thm ∧ (abandonEntries s bands).ddr = s.ddr ∧ (abandonEntries s bands).mram = s.mram ∧
    (abandonEntries s bands).flash = s.flash ∧ (abandonEntries s bands).flt = s.flt ∧ (abandonEntries s bands).evt = s.evt := by
  unfold abandonEntries
  (try simp) <;> (repeat' apply And.intro) <;> (repeat' split) <;> (try simp)
@[simp] theorem dispatchEntry_keep (s : State) (mode i before : Nat) (b : List Byte) : (dispatchEntry s mode i before
    b).1.pending = s.pending ∧ (dispatchEntry s mode i before b).1.act = s.act ∧ (dispatchEntry s mode i before
    b).1.lt = s.lt ∧ (dispatchEntry s mode i before b).1.synced = s.synced ∧ (dispatchEntry s mode i before b).1.free
    = s.free ∧ (dispatchEntry s mode i before b).1.dram = s.dram ∧ (dispatchEntry s mode i before b).1.scan = s.scan ∧
    (dispatchEntry s mode i before b).1.pix = s.pix ∧ (dispatchEntry s mode i before b).1.gal = s.gal ∧ (dispatchEntry
    s mode i before b).1.stats = s.stats ∧ (dispatchEntry s mode i before b).1.shd = s.shd ∧ (dispatchEntry s mode i
    before b).1.guard = s.guard ∧ (dispatchEntry s mode i before b).1.diag = s.diag ∧ (dispatchEntry s mode i before
    b).1.cal = s.cal ∧ (dispatchEntry s mode i before b).1.net = s.net ∧ (dispatchEntry s mode i before b).1.mbx =
    s.mbx ∧ (dispatchEntry s mode i before b).1.io = s.io ∧ (dispatchEntry s mode i before b).1.pins = s.pins ∧
    (dispatchEntry s mode i before b).1.aux = s.aux ∧ (dispatchEntry s mode i before b).1.clk = s.clk ∧ (dispatchEntry
    s mode i before b).1.pwr = s.pwr ∧ (dispatchEntry s mode i before b).1.boot = s.boot ∧ (dispatchEntry s mode i
    before b).1.thm = s.thm ∧ (dispatchEntry s mode i before b).1.ddr = s.ddr ∧ (dispatchEntry s mode i before
    b).1.mram = s.mram ∧ (dispatchEntry s mode i before b).1.flash = s.flash ∧ (dispatchEntry s mode i before b).1.flt
    = s.flt ∧ (dispatchEntry s mode i before b).1.evt = s.evt := by
  unfold dispatchEntry
  simp
def dispatchEntryRegs : List Field := allOf 7 GAL.L.FENCE_VAL.FENCE_VAL ++ allOf 7 GAL.L.FLIP.ARM ++ allOf 7
    GAL.L.FLIP.FENCE_EN ++ allOf 7 GAL.L.FLIP.FENCE_SEL ++ allOf 7 GAL.L.FLIP.RETIRE_EN ++ allOf 7
    GAL.L.FLIP.RETIRE_SEL ++ allOf 7 GAL.L.NEXT_HI.NEXT ++ allOf 7 GAL.L.NEXT_LO.NEXT
@[simp] theorem dispatchEntry_word {key : Nat} (hk : Outside dispatchEntryRegs key) (s : State) (mode i before : Nat)
    (b : List Byte)  : wordAt (dispatchEntry s mode i before b).1.regs key = wordAt s.regs key := by
  simp only [dispatchEntryRegs, outside_append, outside_cons, outside_nil, and_true, outside_GAL_L_FENCE_VAL_FENCE_VAL, outside_GAL_L_FLIP_ARM, outside_GAL_L_FLIP_FENCE_EN, outside_GAL_L_FLIP_FENCE_SEL, outside_GAL_L_FLIP_RETIRE_EN, outside_GAL_L_FLIP_RETIRE_SEL, outside_GAL_L_NEXT_HI_NEXT, outside_GAL_L_NEXT_LO_NEXT] at hk
  unfold dispatchEntry
  simp [hk]
@[simp] theorem dispatchAll_keep (mode : Nat) (s : State) (done : List RunEntry) (l : List (List Byte)) : (dispatchAll
    mode s done l).1.pending = s.pending ∧ (dispatchAll mode s done l).1.act = s.act ∧ (dispatchAll mode s done
    l).1.lt = s.lt ∧ (dispatchAll mode s done l).1.synced = s.synced ∧ (dispatchAll mode s done l).1.free = s.free ∧
    (dispatchAll mode s done l).1.dram = s.dram ∧ (dispatchAll mode s done l).1.scan = s.scan ∧ (dispatchAll mode s
    done l).1.pix = s.pix ∧ (dispatchAll mode s done l).1.gal = s.gal ∧ (dispatchAll mode s done l).1.stats = s.stats
    ∧ (dispatchAll mode s done l).1.shd = s.shd ∧ (dispatchAll mode s done l).1.guard = s.guard ∧ (dispatchAll mode s
    done l).1.diag = s.diag ∧ (dispatchAll mode s done l).1.cal = s.cal ∧ (dispatchAll mode s done l).1.net = s.net ∧
    (dispatchAll mode s done l).1.mbx = s.mbx ∧ (dispatchAll mode s done l).1.io = s.io ∧ (dispatchAll mode s done
    l).1.pins = s.pins ∧ (dispatchAll mode s done l).1.aux = s.aux ∧ (dispatchAll mode s done l).1.clk = s.clk ∧
    (dispatchAll mode s done l).1.pwr = s.pwr ∧ (dispatchAll mode s done l).1.boot = s.boot ∧ (dispatchAll mode s done
    l).1.thm = s.thm ∧ (dispatchAll mode s done l).1.ddr = s.ddr ∧ (dispatchAll mode s done l).1.mram = s.mram ∧
    (dispatchAll mode s done l).1.flash = s.flash ∧ (dispatchAll mode s done l).1.flt = s.flt ∧ (dispatchAll mode s
    done l).1.evt = s.evt := by
  induction l generalizing s done with
  | nil => simp [dispatchAll]
  | cons b t ih => simp [dispatchAll, ih]

theorem dispatchAll_word {key : Nat} (h : Outside dispatchEntryRegs key) (mode : Nat) (s : State) (done : List RunEntry)
    (l : List (List Byte)) : wordAt (dispatchAll mode s done l).1.regs key = wordAt s.regs key := by
  induction l generalizing s done with
  | nil => rfl
  | cons b t ih => simp [dispatchAll, ih, h]
@[simp] theorem dispatchSet_keep (s : State) (set : List (List Byte)) : (dispatchSet s set).pending = s.pending ∧
    (dispatchSet s set).act = s.act ∧ (dispatchSet s set).lt = s.lt ∧ (dispatchSet s set).synced = s.synced ∧
    (dispatchSet s set).free = s.free ∧ (dispatchSet s set).dram = s.dram ∧ (dispatchSet s set).scan = s.scan ∧
    (dispatchSet s set).pix = s.pix ∧ (dispatchSet s set).gal = s.gal ∧ (dispatchSet s set).shd = s.shd ∧ (dispatchSet
    s set).guard = s.guard ∧ (dispatchSet s set).diag = s.diag ∧ (dispatchSet s set).cal = s.cal ∧ (dispatchSet s
    set).net = s.net ∧ (dispatchSet s set).mbx = s.mbx ∧ (dispatchSet s set).io = s.io ∧ (dispatchSet s set).pins =
    s.pins ∧ (dispatchSet s set).aux = s.aux ∧ (dispatchSet s set).clk = s.clk ∧ (dispatchSet s set).pwr = s.pwr ∧
    (dispatchSet s set).boot = s.boot ∧ (dispatchSet s set).thm = s.thm ∧ (dispatchSet s set).ddr = s.ddr ∧
    (dispatchSet s set).mram = s.mram ∧ (dispatchSet s set).flash = s.flash ∧ (dispatchSet s set).flt = s.flt ∧
    (dispatchSet s set).evt = s.evt := by
  unfold dispatchSet
  simp
def dispatchSetRegs : List Field := dispatchEntryRegs ++ entryDoneRegs ++ [BE.OPTICS.SHIFT]
@[simp] theorem dispatchSet_word {key : Nat} (hk : Outside dispatchSetRegs key) (s : State) (set : List (List Byte))
    : wordAt (dispatchSet s set).regs key = wordAt s.regs key := by
  simp only [dispatchSetRegs, outside_append, outside_cons, outside_nil, and_true] at hk
  unfold dispatchSet
  simp [hk, dispatchAll_word]
@[simp] theorem giveBands_keep (s : State) (bs : List Nat) (e : Nat) : (giveBands s bs e).pending = s.pending ∧
    (giveBands s bs e).act = s.act ∧ (giveBands s bs e).lt = s.lt ∧ (giveBands s bs e).synced = s.synced ∧ (giveBands
    s bs e).free = s.free ∧ (giveBands s bs e).dram = s.dram ∧ (giveBands s bs e).scan = s.scan ∧ (giveBands s bs
    e).pix = s.pix ∧ (giveBands s bs e).gal = s.gal ∧ (giveBands s bs e).eng = s.eng ∧ (giveBands s bs e).stats =
    s.stats ∧ (giveBands s bs e).shd = s.shd ∧ (giveBands s bs e).guard = s.guard ∧ (giveBands s bs e).diag = s.diag ∧
    (giveBands s bs e).cal = s.cal ∧ (giveBands s bs e).net = s.net ∧ (giveBands s bs e).mbx = s.mbx ∧ (giveBands s bs
    e).io = s.io ∧ (giveBands s bs e).pins = s.pins ∧ (giveBands s bs e).aux = s.aux ∧ (giveBands s bs e).clk = s.clk
    ∧ (giveBands s bs e).pwr = s.pwr ∧ (giveBands s bs e).boot = s.boot ∧ (giveBands s bs e).thm = s.thm ∧ (giveBands
    s bs e).ddr = s.ddr ∧ (giveBands s bs e).mram = s.mram ∧ (giveBands s bs e).flash = s.flash ∧ (giveBands s bs
    e).flt = s.flt ∧ (giveBands s bs e).evt = s.evt := by
  unfold giveBands
  simp
def giveBandsRegs : List Field := [BE.STATUS.DEGRADED] ++ allOf 16 BE.BAND_MAP.ENGINE ++ allOf 16 BE.BAND_MAP.SHARED
@[simp] theorem giveBands_word {key : Nat} (hk : Outside giveBandsRegs key) (s : State) (bs : List Nat) (e : Nat)  :
    wordAt (giveBands s bs e).regs key = wordAt s.regs key := by
  simp only [giveBandsRegs, outside_append, outside_cons, outside_nil, and_true, outside_BE_BAND_MAP_ENGINE, outside_BE_BAND_MAP_SHARED] at hk
  unfold giveBands
  simp [hk]
@[simp] theorem makeActive_keep (s : State) (e : Nat) : (makeActive s e).pending = s.pending ∧ (makeActive s e).act =
    s.act ∧ (makeActive s e).lt = s.lt ∧ (makeActive s e).synced = s.synced ∧ (makeActive s e).free = s.free ∧
    (makeActive s e).dram = s.dram ∧ (makeActive s e).scan = s.scan ∧ (makeActive s e).pix = s.pix ∧ (makeActive s
    e).gal = s.gal ∧ (makeActive s e).eng = s.eng ∧ (makeActive s e).stats = s.stats ∧ (makeActive s e).shd = s.shd ∧
    (makeActive s e).guard = s.guard ∧ (makeActive s e).diag = s.diag ∧ (makeActive s e).cal = s.cal ∧ (makeActive s
    e).net = s.net ∧ (makeActive s e).mbx = s.mbx ∧ (makeActive s e).io = s.io ∧ (makeActive s e).pins = s.pins ∧
    (makeActive s e).aux = s.aux ∧ (makeActive s e).clk = s.clk ∧ (makeActive s e).pwr = s.pwr ∧ (makeActive s e).boot
    = s.boot ∧ (makeActive s e).thm = s.thm ∧ (makeActive s e).ddr = s.ddr ∧ (makeActive s e).mram = s.mram ∧
    (makeActive s e).flash = s.flash ∧ (makeActive s e).flt = s.flt ∧ (makeActive s e).evt = s.evt := by
  unfold makeActive
  simp
def makeActiveRegs : List Field := [BE.ACTIVE.ENG, BE.SPARE.ENG]
@[simp] theorem makeActive_word {key : Nat} (hk : Outside makeActiveRegs key) (s : State) (e : Nat)  : wordAt
    (makeActive s e).regs key = wordAt s.regs key := by
  simp only [makeActiveRegs, outside_append, outside_cons, outside_nil, and_true] at hk
  unfold makeActive
  simp [hk]
@[simp] theorem takeOver_keep (s : State) (n : Nat) : (takeOver s n).pending = s.pending ∧ (takeOver s n).act = s.act
    ∧ (takeOver s n).lt = s.lt ∧ (takeOver s n).synced = s.synced ∧ (takeOver s n).free = s.free ∧ (takeOver s n).dram
    = s.dram ∧ (takeOver s n).scan = s.scan ∧ (takeOver s n).pix = s.pix ∧ (takeOver s n).gal = s.gal ∧ (takeOver s
    n).eng = s.eng ∧ (takeOver s n).stats = s.stats ∧ (takeOver s n).shd = s.shd ∧ (takeOver s n).guard = s.guard ∧
    (takeOver s n).diag = s.diag ∧ (takeOver s n).cal = s.cal ∧ (takeOver s n).net = s.net ∧ (takeOver s n).mbx =
    s.mbx ∧ (takeOver s n).io = s.io ∧ (takeOver s n).pins = s.pins ∧ (takeOver s n).aux = s.aux ∧ (takeOver s n).clk
    = s.clk ∧ (takeOver s n).pwr = s.pwr ∧ (takeOver s n).boot = s.boot ∧ (takeOver s n).thm = s.thm ∧ (takeOver s
    n).ddr = s.ddr ∧ (takeOver s n).mram = s.mram ∧ (takeOver s n).flash = s.flash ∧ (takeOver s n).flt = s.flt ∧
    (takeOver s n).evt = s.evt := by
  unfold takeOver
  split <;> simp
def takeOverRegs : List Field := giveBandsRegs ++ makeActiveRegs ++ [BE.STATUS.TAKEOVER]
@[simp] theorem takeOver_word {key : Nat} (hk : Outside takeOverRegs key) (s : State) (n : Nat)  : wordAt (takeOver s
    n).regs key = wordAt s.regs key := by
  simp only [takeOverRegs, outside_append, outside_cons, outside_nil, and_true] at hk
  unfold takeOver
  split <;> simp [hk]
@[simp] theorem spareFrameStart_keep (s : State) : (spareFrameStart s).pending = s.pending ∧ (spareFrameStart s).act =
    s.act ∧ (spareFrameStart s).lt = s.lt ∧ (spareFrameStart s).synced = s.synced ∧ (spareFrameStart s).free = s.free
    ∧ (spareFrameStart s).dram = s.dram ∧ (spareFrameStart s).scan = s.scan ∧ (spareFrameStart s).pix = s.pix ∧
    (spareFrameStart s).gal = s.gal ∧ (spareFrameStart s).stats = s.stats ∧ (spareFrameStart s).shd = s.shd ∧
    (spareFrameStart s).guard = s.guard ∧ (spareFrameStart s).diag = s.diag ∧ (spareFrameStart s).cal = s.cal ∧
    (spareFrameStart s).net = s.net ∧ (spareFrameStart s).mbx = s.mbx ∧ (spareFrameStart s).io = s.io ∧
    (spareFrameStart s).pins = s.pins ∧ (spareFrameStart s).aux = s.aux ∧ (spareFrameStart s).clk = s.clk ∧
    (spareFrameStart s).pwr = s.pwr ∧ (spareFrameStart s).boot = s.boot ∧ (spareFrameStart s).thm = s.thm ∧
    (spareFrameStart s).ddr = s.ddr ∧ (spareFrameStart s).mram = s.mram ∧ (spareFrameStart s).flash = s.flash ∧
    (spareFrameStart s).flt = s.flt ∧ (spareFrameStart s).evt = s.evt := by
  unfold spareFrameStart
  simp
def spareFrameStartRegs : List Field := takeOverRegs
@[simp] theorem spareFrameStart_word {key : Nat} (hk : Outside spareFrameStartRegs key) (s : State)  : wordAt
    (spareFrameStart s).regs key = wordAt s.regs key := by
  simp only [spareFrameStartRegs, outside_append, outside_cons, outside_nil, and_true] at hk
  unfold spareFrameStart
  simp [hk]
@[simp] theorem rotateFrameStart_keep (s : State) : (rotateFrameStart s).pending = s.pending ∧ (rotateFrameStart
    s).act = s.act ∧ (rotateFrameStart s).lt = s.lt ∧ (rotateFrameStart s).synced = s.synced ∧ (rotateFrameStart
    s).free = s.free ∧ (rotateFrameStart s).dram = s.dram ∧ (rotateFrameStart s).scan = s.scan ∧ (rotateFrameStart
    s).pix = s.pix ∧ (rotateFrameStart s).gal = s.gal ∧ (rotateFrameStart s).stats = s.stats ∧ (rotateFrameStart
    s).shd = s.shd ∧ (rotateFrameStart s).guard = s.guard ∧ (rotateFrameStart s).diag = s.diag ∧ (rotateFrameStart
    s).cal = s.cal ∧ (rotateFrameStart s).net = s.net ∧ (rotateFrameStart s).mbx = s.mbx ∧ (rotateFrameStart s).io =
    s.io ∧ (rotateFrameStart s).pins = s.pins ∧ (rotateFrameStart s).aux = s.aux ∧ (rotateFrameStart s).clk = s.clk ∧
    (rotateFrameStart s).pwr = s.pwr ∧ (rotateFrameStart s).boot = s.boot ∧ (rotateFrameStart s).thm = s.thm ∧
    (rotateFrameStart s).ddr = s.ddr ∧ (rotateFrameStart s).mram = s.mram ∧ (rotateFrameStart s).flash = s.flash ∧
    (rotateFrameStart s).flt = s.flt ∧ (rotateFrameStart s).evt = s.evt := by
  unfold rotateFrameStart
  (try simp) <;> (repeat' apply And.intro) <;> (repeat' split) <;> (try simp)
def rotateFrameStartRegs : List Field := giveBandsRegs ++ makeActiveRegs ++ [BE.ACTIVE.ENG, BE.SPARE.ENG]
@[simp] theorem rotateFrameStart_word {key : Nat} (hk : Outside rotateFrameStartRegs key) (s : State)  : wordAt
    (rotateFrameStart s).regs key = wordAt s.regs key := by
  simp only [rotateFrameStartRegs, outside_append, outside_cons, outside_nil, and_true] at hk
  unfold rotateFrameStart
  (repeat' split) <;> (try simp [hk])
@[simp] theorem tablesFrameStart_keep (s : State) : (tablesFrameStart s).pending = s.pending ∧ (tablesFrameStart
    s).regs = s.regs ∧ (tablesFrameStart s).act = s.act ∧ (tablesFrameStart s).lt = s.lt ∧ (tablesFrameStart s).synced
    = s.synced ∧ (tablesFrameStart s).free = s.free ∧ (tablesFrameStart s).dram = s.dram ∧ (tablesFrameStart s).scan =
    s.scan ∧ (tablesFrameStart s).pix = s.pix ∧ (tablesFrameStart s).gal = s.gal ∧ (tablesFrameStart s).stats =
    s.stats ∧ (tablesFrameStart s).shd = s.shd ∧ (tablesFrameStart s).guard = s.guard ∧ (tablesFrameStart s).diag =
    s.diag ∧ (tablesFrameStart s).cal = s.cal ∧ (tablesFrameStart s).net = s.net ∧ (tablesFrameStart s).mbx = s.mbx ∧
    (tablesFrameStart s).io = s.io ∧ (tablesFrameStart s).pins = s.pins ∧ (tablesFrameStart s).aux = s.aux ∧
    (tablesFrameStart s).clk = s.clk ∧ (tablesFrameStart s).pwr = s.pwr ∧ (tablesFrameStart s).boot = s.boot ∧
    (tablesFrameStart s).thm = s.thm ∧ (tablesFrameStart s).ddr = s.ddr ∧ (tablesFrameStart s).mram = s.mram ∧
    (tablesFrameStart s).flash = s.flash ∧ (tablesFrameStart s).flt = s.flt ∧ (tablesFrameStart s).evt = s.evt := by
  unfold tablesFrameStart
  (try simp) <;> (repeat' apply And.intro) <;> (repeat' split) <;> (try simp)
@[simp] theorem requestCommit_keep (s : State) : (requestCommit s).pending = s.pending ∧ (requestCommit s).act = s.act
    ∧ (requestCommit s).lt = s.lt ∧ (requestCommit s).synced = s.synced ∧ (requestCommit s).free = s.free ∧
    (requestCommit s).dram = s.dram ∧ (requestCommit s).scan = s.scan ∧ (requestCommit s).pix = s.pix ∧ (requestCommit
    s).gal = s.gal ∧ (requestCommit s).eng = s.eng ∧ (requestCommit s).stats = s.stats ∧ (requestCommit s).shd = s.shd
    ∧ (requestCommit s).guard = s.guard ∧ (requestCommit s).diag = s.diag ∧ (requestCommit s).cal = s.cal ∧
    (requestCommit s).net = s.net ∧ (requestCommit s).mbx = s.mbx ∧ (requestCommit s).io = s.io ∧ (requestCommit
    s).pins = s.pins ∧ (requestCommit s).aux = s.aux ∧ (requestCommit s).clk = s.clk ∧ (requestCommit s).pwr = s.pwr ∧
    (requestCommit s).boot = s.boot ∧ (requestCommit s).thm = s.thm ∧ (requestCommit s).ddr = s.ddr ∧ (requestCommit
    s).mram = s.mram ∧ (requestCommit s).flash = s.flash ∧ (requestCommit s).flt = s.flt ∧ (requestCommit s).evt =
    s.evt := by
  unfold requestCommit
  simp
def requestCommitRegs : List Field := [SCAN.COMMIT_STATUS.COMMIT_PEND, SCAN.COMMIT_STATUS.TARGET_FRAME]
@[simp] theorem requestCommit_word {key : Nat} (hk : Outside requestCommitRegs key) (s : State)  : wordAt
    (requestCommit s).regs key = wordAt s.regs key := by
  simp only [requestCommitRegs, outside_append, outside_cons, outside_nil, and_true] at hk
  unfold requestCommit
  simp [hk]
@[simp] theorem lateFrameStart_keep (s : State) (late : Bool) : (lateFrameStart s late).pending = s.pending ∧
    (lateFrameStart s late).act = s.act ∧ (lateFrameStart s late).lt = s.lt ∧ (lateFrameStart s late).synced =
    s.synced ∧ (lateFrameStart s late).free = s.free ∧ (lateFrameStart s late).dram = s.dram ∧ (lateFrameStart s
    late).scan = s.scan ∧ (lateFrameStart s late).pix = s.pix ∧ (lateFrameStart s late).gal = s.gal ∧ (lateFrameStart
    s late).stats = s.stats ∧ (lateFrameStart s late).shd = s.shd ∧ (lateFrameStart s late).guard = s.guard ∧
    (lateFrameStart s late).diag = s.diag ∧ (lateFrameStart s late).cal = s.cal ∧ (lateFrameStart s late).net = s.net
    ∧ (lateFrameStart s late).mbx = s.mbx ∧ (lateFrameStart s late).io = s.io ∧ (lateFrameStart s late).pins = s.pins
    ∧ (lateFrameStart s late).aux = s.aux ∧ (lateFrameStart s late).clk = s.clk ∧ (lateFrameStart s late).pwr = s.pwr
    ∧ (lateFrameStart s late).boot = s.boot ∧ (lateFrameStart s late).thm = s.thm ∧ (lateFrameStart s late).ddr =
    s.ddr ∧ (lateFrameStart s late).mram = s.mram ∧ (lateFrameStart s late).flash = s.flash ∧ (lateFrameStart s
    late).evt = s.evt := by
  unfold lateFrameStart
  simp
def lateFrameStartRegs : List Field := requestCommitRegs ++ [BE.LATE_COUNT.COUNT, BE.STATUS.STEPPED, SCAN.MODE.MODE]
@[simp] theorem lateFrameStart_word {key : Nat} (hk : Outside lateFrameStartRegs key) (s : State) (late : Bool)  :
    wordAt (lateFrameStart s late).regs key = wordAt s.regs key := by
  simp only [lateFrameStartRegs, outside_append, outside_cons, outside_nil, and_true] at hk
  unfold lateFrameStart
  simp [hk]
@[simp] theorem latchFrameStart_keep (s : State) : (latchFrameStart s).pending = s.pending ∧ (latchFrameStart s).regs
    = s.regs ∧ (latchFrameStart s).act = s.act ∧ (latchFrameStart s).lt = s.lt ∧ (latchFrameStart s).synced = s.synced
    ∧ (latchFrameStart s).free = s.free ∧ (latchFrameStart s).dram = s.dram ∧ (latchFrameStart s).scan = s.scan ∧
    (latchFrameStart s).pix = s.pix ∧ (latchFrameStart s).gal = s.gal ∧ (latchFrameStart s).shd = s.shd ∧
    (latchFrameStart s).guard = s.guard ∧ (latchFrameStart s).diag = s.diag ∧ (latchFrameStart s).cal = s.cal ∧
    (latchFrameStart s).net = s.net ∧ (latchFrameStart s).mbx = s.mbx ∧ (latchFrameStart s).io = s.io ∧
    (latchFrameStart s).pins = s.pins ∧ (latchFrameStart s).aux = s.aux ∧ (latchFrameStart s).clk = s.clk ∧
    (latchFrameStart s).pwr = s.pwr ∧ (latchFrameStart s).boot = s.boot ∧ (latchFrameStart s).thm = s.thm ∧
    (latchFrameStart s).ddr = s.ddr ∧ (latchFrameStart s).mram = s.mram ∧ (latchFrameStart s).flash = s.flash ∧
    (latchFrameStart s).flt = s.flt ∧ (latchFrameStart s).evt = s.evt := by
  unfold latchFrameStart
  split <;> simp
@[simp] theorem dispatchDue_keep (s : State) : (dispatchDue s).pending = s.pending ∧ (dispatchDue s).act = s.act ∧
    (dispatchDue s).lt = s.lt ∧ (dispatchDue s).synced = s.synced ∧ (dispatchDue s).free = s.free ∧ (dispatchDue
    s).dram = s.dram ∧ (dispatchDue s).scan = s.scan ∧ (dispatchDue s).pix = s.pix ∧ (dispatchDue s).gal = s.gal ∧
    (dispatchDue s).shd = s.shd ∧ (dispatchDue s).guard = s.guard ∧ (dispatchDue s).diag = s.diag ∧ (dispatchDue
    s).cal = s.cal ∧ (dispatchDue s).net = s.net ∧ (dispatchDue s).mbx = s.mbx ∧ (dispatchDue s).io = s.io ∧
    (dispatchDue s).pins = s.pins ∧ (dispatchDue s).aux = s.aux ∧ (dispatchDue s).clk = s.clk ∧ (dispatchDue s).pwr =
    s.pwr ∧ (dispatchDue s).boot = s.boot ∧ (dispatchDue s).thm = s.thm ∧ (dispatchDue s).ddr = s.ddr ∧ (dispatchDue
    s).mram = s.mram ∧ (dispatchDue s).flash = s.flash ∧ (dispatchDue s).flt = s.flt ∧ (dispatchDue s).evt = s.evt := by
  unfold dispatchDue
  split <;> simp
def dispatchDueRegs : List Field := dispatchSetRegs
@[simp] theorem dispatchDue_word {key : Nat} (hk : Outside dispatchDueRegs key) (s : State)  : wordAt (dispatchDue
    s).regs key = wordAt s.regs key := by
  simp only [dispatchDueRegs, outside_append, outside_cons, outside_nil, and_true] at hk
  unfold dispatchDue
  split <;> simp [hk]
@[simp] theorem engFrameStart_keep (s : State) (load : Nat) : (engFrameStart s load).pending = s.pending ∧
    (engFrameStart s load).act = s.act ∧ (engFrameStart s load).lt = s.lt ∧ (engFrameStart s load).synced = s.synced ∧
    (engFrameStart s load).free = s.free ∧ (engFrameStart s load).dram = s.dram ∧ (engFrameStart s load).scan = s.scan
    ∧ (engFrameStart s load).pix = s.pix ∧ (engFrameStart s load).gal = s.gal ∧ (engFrameStart s load).shd = s.shd ∧
    (engFrameStart s load).guard = s.guard ∧ (engFrameStart s load).diag = s.diag ∧ (engFrameStart s load).cal = s.cal
    ∧ (engFrameStart s load).net = s.net ∧ (engFrameStart s load).mbx = s.mbx ∧ (engFrameStart s load).io = s.io ∧
    (engFrameStart s load).pins = s.pins ∧ (engFrameStart s load).aux = s.aux ∧ (engFrameStart s load).clk = s.clk ∧
    (engFrameStart s load).pwr = s.pwr ∧ (engFrameStart s load).boot = s.boot ∧ (engFrameStart s load).thm = s.thm ∧
    (engFrameStart s load).ddr = s.ddr ∧ (engFrameStart s load).mram = s.mram ∧ (engFrameStart s load).flash = s.flash
    ∧ (engFrameStart s load).evt = s.evt := by
  unfold engFrameStart
  simp
def engFrameStartRegs : List Field := lateFrameStartRegs ++ dispatchDueRegs ++ rotateFrameStartRegs ++
    spareFrameStartRegs ++ [BE.LOAD.LOAD, BE.LOAD.LOAD_PEAK]
@[simp] theorem engFrameStart_word {key : Nat} (hk : Outside engFrameStartRegs key) (s : State) (load : Nat)  : wordAt
    (engFrameStart s load).regs key = wordAt s.regs key := by
  simp only [engFrameStartRegs, outside_append, outside_cons, outside_nil, and_true] at hk
  unfold engFrameStart
  simp [hk]
@[simp] theorem abandonSet_keep (s : State) : (abandonSet s).pending = s.pending ∧ (abandonSet s).regs = s.regs ∧
    (abandonSet s).act = s.act ∧ (abandonSet s).lt = s.lt ∧ (abandonSet s).synced = s.synced ∧ (abandonSet s).free =
    s.free ∧ (abandonSet s).dram = s.dram ∧ (abandonSet s).scan = s.scan ∧ (abandonSet s).pix = s.pix ∧ (abandonSet
    s).gal = s.gal ∧ (abandonSet s).stats = s.stats ∧ (abandonSet s).shd = s.shd ∧ (abandonSet s).guard = s.guard ∧
    (abandonSet s).diag = s.diag ∧ (abandonSet s).cal = s.cal ∧ (abandonSet s).net = s.net ∧ (abandonSet s).mbx =
    s.mbx ∧ (abandonSet s).io = s.io ∧ (abandonSet s).pins = s.pins ∧ (abandonSet s).aux = s.aux ∧ (abandonSet s).clk
    = s.clk ∧ (abandonSet s).pwr = s.pwr ∧ (abandonSet s).boot = s.boot ∧ (abandonSet s).thm = s.thm ∧ (abandonSet
    s).ddr = s.ddr ∧ (abandonSet s).mram = s.mram ∧ (abandonSet s).flash = s.flash ∧ (abandonSet s).flt = s.flt ∧
    (abandonSet s).evt = s.evt := by
  unfold abandonSet
  split <;> simp
@[simp] theorem retireEngine_keep (s : State) (n : Nat) (inj : Bool) : (retireEngine s n inj).pending = s.pending ∧
    (retireEngine s n inj).act = s.act ∧ (retireEngine s n inj).lt = s.lt ∧ (retireEngine s n inj).synced = s.synced ∧
    (retireEngine s n inj).free = s.free ∧ (retireEngine s n inj).dram = s.dram ∧ (retireEngine s n inj).pix = s.pix ∧
    (retireEngine s n inj).gal = s.gal ∧ (retireEngine s n inj).stats = s.stats ∧ (retireEngine s n inj).shd = s.shd ∧
    (retireEngine s n inj).guard = s.guard ∧ (retireEngine s n inj).diag = s.diag ∧ (retireEngine s n inj).cal = s.cal
    ∧ (retireEngine s n inj).net = s.net ∧ (retireEngine s n inj).mbx = s.mbx ∧ (retireEngine s n inj).io = s.io ∧
    (retireEngine s n inj).pins = s.pins ∧ (retireEngine s n inj).aux = s.aux ∧ (retireEngine s n inj).clk = s.clk ∧
    (retireEngine s n inj).pwr = s.pwr ∧ (retireEngine s n inj).boot = s.boot ∧ (retireEngine s n inj).thm = s.thm ∧
    (retireEngine s n inj).ddr = s.ddr ∧ (retireEngine s n inj).mram = s.mram ∧ (retireEngine s n inj).flash = s.flash
    ∧ (retireEngine s n inj).evt = s.evt := by
  unfold retireEngine
  simp
def retireEngineRegs : List Field := raiseEitherRegs ++ [BE.ACTIVE.ENG, BE.FAULT_COUNT.COUNT, BE.RETIRED.ENG,
    BE.SPARE.ENG]
@[simp] theorem retireEngine_word {key : Nat} (hk : Outside retireEngineRegs key) (s : State) (n : Nat) (inj : Bool)
    : wordAt (retireEngine s n inj).regs key = wordAt s.regs key := by
  simp only [retireEngineRegs, outside_append, outside_cons, outside_nil, and_true] at hk
  unfold retireEngine
  simp [hk]
@[simp] theorem shareBands_keep (s : State) (n : Nat) : (shareBands s n).pending = s.pending ∧ (shareBands s n).act =
    s.act ∧ (shareBands s n).lt = s.lt ∧ (shareBands s n).synced = s.synced ∧ (shareBands s n).dram = s.dram ∧
    (shareBands s n).scan = s.scan ∧ (shareBands s n).pix = s.pix ∧ (shareBands s n).gal = s.gal ∧ (shareBands s
    n).eng = s.eng ∧ (shareBands s n).stats = s.stats ∧ (shareBands s n).shd = s.shd ∧ (shareBands s n).guard =
    s.guard ∧ (shareBands s n).diag = s.diag ∧ (shareBands s n).cal = s.cal ∧ (shareBands s n).net = s.net ∧
    (shareBands s n).mbx = s.mbx ∧ (shareBands s n).io = s.io ∧ (shareBands s n).pins = s.pins ∧ (shareBands s n).aux
    = s.aux ∧ (shareBands s n).clk = s.clk ∧ (shareBands s n).pwr = s.pwr ∧ (shareBands s n).boot = s.boot ∧
    (shareBands s n).thm = s.thm ∧ (shareBands s n).ddr = s.ddr ∧ (shareBands s n).mram = s.mram ∧ (shareBands s
    n).flash = s.flash ∧ (shareBands s n).flt = s.flt ∧ (shareBands s n).evt = s.evt := by
  unfold shareBands
  simp
def shareBandsRegs : List Field := giveBandsRegs
@[simp] theorem shareBands_word {key : Nat} (hk : Outside shareBandsRegs key) (s : State) (n : Nat)  : wordAt
    (shareBands s n).regs key = wordAt s.regs key := by
  simp only [shareBandsRegs, outside_append, outside_cons, outside_nil, and_true] at hk
  unfold shareBands
  simp [hk]
@[simp] theorem faultEngine_keep (s : State) (n : Nat) (inj : Bool) : (faultEngine s n inj).pending = s.pending ∧
    (faultEngine s n inj).act = s.act ∧ (faultEngine s n inj).lt = s.lt ∧ (faultEngine s n inj).synced = s.synced ∧
    (faultEngine s n inj).dram = s.dram ∧ (faultEngine s n inj).gal = s.gal ∧ (faultEngine s n inj).shd = s.shd ∧
    (faultEngine s n inj).guard = s.guard ∧ (faultEngine s n inj).diag = s.diag ∧ (faultEngine s n inj).cal = s.cal ∧
    (faultEngine s n inj).net = s.net ∧ (faultEngine s n inj).mbx = s.mbx ∧ (faultEngine s n inj).io = s.io ∧
    (faultEngine s n inj).pins = s.pins ∧ (faultEngine s n inj).aux = s.aux ∧ (faultEngine s n inj).clk = s.clk ∧
    (faultEngine s n inj).pwr = s.pwr ∧ (faultEngine s n inj).boot = s.boot ∧ (faultEngine s n inj).thm = s.thm ∧
    (faultEngine s n inj).ddr = s.ddr ∧ (faultEngine s n inj).mram = s.mram ∧ (faultEngine s n inj).flash = s.flash ∧
    (faultEngine s n inj).evt = s.evt := by
  unfold faultEngine
  simp
def faultEngineRegs : List Field := abandonBuildRegs ++ retireEngineRegs ++ shareBandsRegs ++ [BE.STATUS.DOSE_LOST]
@[simp] theorem faultEngine_word {key : Nat} (hk : Outside faultEngineRegs key) (s : State) (n : Nat) (inj : Bool)  :
    wordAt (faultEngine s n inj).regs key = wordAt s.regs key := by
  simp only [faultEngineRegs, outside_append, outside_cons, outside_nil, and_true] at hk
  unfold faultEngine
  simp [hk]
@[simp] theorem writeShadowMap_keep (s : State) : (writeShadowMap s).pending = s.pending ∧ (writeShadowMap s).act =
    s.act ∧ (writeShadowMap s).lt = s.lt ∧ (writeShadowMap s).synced = s.synced ∧ (writeShadowMap s).free = s.free ∧
    (writeShadowMap s).dram = s.dram ∧ (writeShadowMap s).scan = s.scan ∧ (writeShadowMap s).pix = s.pix ∧
    (writeShadowMap s).gal = s.gal ∧ (writeShadowMap s).eng = s.eng ∧ (writeShadowMap s).stats = s.stats ∧
    (writeShadowMap s).shd = s.shd ∧ (writeShadowMap s).guard = s.guard ∧ (writeShadowMap s).diag = s.diag ∧
    (writeShadowMap s).cal = s.cal ∧ (writeShadowMap s).net = s.net ∧ (writeShadowMap s).mbx = s.mbx ∧ (writeShadowMap
    s).io = s.io ∧ (writeShadowMap s).pins = s.pins ∧ (writeShadowMap s).aux = s.aux ∧ (writeShadowMap s).clk = s.clk
    ∧ (writeShadowMap s).pwr = s.pwr ∧ (writeShadowMap s).boot = s.boot ∧ (writeShadowMap s).thm = s.thm ∧
    (writeShadowMap s).ddr = s.ddr ∧ (writeShadowMap s).mram = s.mram ∧ (writeShadowMap s).flash = s.flash ∧
    (writeShadowMap s).flt = s.flt ∧ (writeShadowMap s).evt = s.evt := by
  unfold writeShadowMap
  simp
def writeShadowMapRegs : List Field := [SHD.MAP_H0.H0, SHD.MAP_HSTEP.HSTEP, SHD.MAP_V0.V0, SHD.MAP_VSTEP.VSTEP]
@[simp] theorem writeShadowMap_word {key : Nat} (hk : Outside writeShadowMapRegs key) (s : State)  : wordAt
    (writeShadowMap s).regs key = wordAt s.regs key := by
  simp only [writeShadowMapRegs, outside_append, outside_cons, outside_nil, and_true] at hk
  unfold writeShadowMap
  simp [hk]
@[simp] theorem applyLens_keep (s : State) (lens : Option (List Byte)) : (applyLens s lens).pending = s.pending ∧
    (applyLens s lens).act = s.act ∧ (applyLens s lens).lt = s.lt ∧ (applyLens s lens).synced = s.synced ∧ (applyLens
    s lens).free = s.free ∧ (applyLens s lens).dram = s.dram ∧ (applyLens s lens).scan = s.scan ∧ (applyLens s
    lens).pix = s.pix ∧ (applyLens s lens).gal = s.gal ∧ (applyLens s lens).stats = s.stats ∧ (applyLens s lens).shd =
    s.shd ∧ (applyLens s lens).guard = s.guard ∧ (applyLens s lens).diag = s.diag ∧ (applyLens s lens).cal = s.cal ∧
    (applyLens s lens).net = s.net ∧ (applyLens s lens).mbx = s.mbx ∧ (applyLens s lens).io = s.io ∧ (applyLens s
    lens).pins = s.pins ∧ (applyLens s lens).aux = s.aux ∧ (applyLens s lens).clk = s.clk ∧ (applyLens s lens).pwr =
    s.pwr ∧ (applyLens s lens).boot = s.boot ∧ (applyLens s lens).thm = s.thm ∧ (applyLens s lens).ddr = s.ddr ∧
    (applyLens s lens).mram = s.mram ∧ (applyLens s lens).flash = s.flash ∧ (applyLens s lens).evt = s.evt := by
  unfold applyLens
  simp
def applyLensRegs : List Field := writeShadowMapRegs ++ [BE.OPTICS.RESID, BE.OPTICS.SOURCE]
@[simp] theorem applyLens_word {key : Nat} (hk : Outside applyLensRegs key) (s : State) (lens : Option (List Byte))  :
    wordAt (applyLens s lens).regs key = wordAt s.regs key := by
  simp only [applyLensRegs, outside_append, outside_cons, outside_nil, and_true] at hk
  unfold applyLens
  simp [hk]

end Sys2Proof.Machine
end

