-- ==== Sys2Proof/Laws/FrameShadow.lean ====
section
/-! SUPPORT. FrameShadow.lean: for each operation of Machine/Shadow.lean, the parts of State that it leaves alone and the register
fields outside which it changes none. -/

set_option linter.unusedSimpArgs false

namespace Sys2Proof.Machine

set_option Elab.async false

@[simp] theorem state_setSlot_keep (s : State) (n : Nat) (v : CtxSlot) : (State.setSlot s n v).pending = s.pending ∧
    (State.setSlot s n v).regs = s.regs ∧ (State.setSlot s n v).act = s.act ∧ (State.setSlot s n v).lt = s.lt ∧
    (State.setSlot s n v).synced = s.synced ∧ (State.setSlot s n v).free = s.free ∧ (State.setSlot s n v).dram =
    s.dram ∧ (State.setSlot s n v).scan = s.scan ∧ (State.setSlot s n v).pix = s.pix ∧ (State.setSlot s n v).gal =
    s.gal ∧ (State.setSlot s n v).eng = s.eng ∧ (State.setSlot s n v).stats = s.stats ∧ (State.setSlot s n v).guard =
    s.guard ∧ (State.setSlot s n v).diag = s.diag ∧ (State.setSlot s n v).cal = s.cal ∧ (State.setSlot s n v).net =
    s.net ∧ (State.setSlot s n v).mbx = s.mbx ∧ (State.setSlot s n v).io = s.io ∧ (State.setSlot s n v).pins = s.pins
    ∧ (State.setSlot s n v).aux = s.aux ∧ (State.setSlot s n v).clk = s.clk ∧ (State.setSlot s n v).pwr = s.pwr ∧
    (State.setSlot s n v).boot = s.boot ∧ (State.setSlot s n v).thm = s.thm ∧ (State.setSlot s n v).ddr = s.ddr ∧
    (State.setSlot s n v).mram = s.mram ∧ (State.setSlot s n v).flash = s.flash ∧ (State.setSlot s n v).flt = s.flt ∧
    (State.setSlot s n v).evt = s.evt := by
  unfold State.setSlot
  simp
@[simp] theorem stageIn_keep (s : State) (n : Nat) (c : Ctx) (batch : Bool) : (stageIn s n c batch).1.pending =
    s.pending ∧ (stageIn s n c batch).1.act = s.act ∧ (stageIn s n c batch).1.lt = s.lt ∧ (stageIn s n c
    batch).1.synced = s.synced ∧ (stageIn s n c batch).1.free = s.free ∧ (stageIn s n c batch).1.dram = s.dram ∧
    (stageIn s n c batch).1.pix = s.pix ∧ (stageIn s n c batch).1.gal = s.gal ∧ (stageIn s n c batch).1.eng = s.eng ∧
    (stageIn s n c batch).1.stats = s.stats ∧ (stageIn s n c batch).1.guard = s.guard ∧ (stageIn s n c batch).1.diag =
    s.diag ∧ (stageIn s n c batch).1.cal = s.cal ∧ (stageIn s n c batch).1.net = s.net ∧ (stageIn s n c batch).1.mbx =
    s.mbx ∧ (stageIn s n c batch).1.io = s.io ∧ (stageIn s n c batch).1.pins = s.pins ∧ (stageIn s n c batch).1.aux =
    s.aux ∧ (stageIn s n c batch).1.clk = s.clk ∧ (stageIn s n c batch).1.pwr = s.pwr ∧ (stageIn s n c batch).1.boot =
    s.boot ∧ (stageIn s n c batch).1.thm = s.thm ∧ (stageIn s n c batch).1.ddr = s.ddr ∧ (stageIn s n c batch).1.mram
    = s.mram ∧ (stageIn s n c batch).1.flash = s.flash ∧ (stageIn s n c batch).1.evt = s.evt := by
  unfold stageIn
  split <;> simp
def stageInRegs : List Field := raiseInjectedRegs ++ [SHD.WR_REJECT_COUNT.COUNT]
@[simp] theorem stageIn_word {key : Nat} (hk : Outside stageInRegs key) (s : State) (n : Nat) (c : Ctx) (batch : Bool)
     : wordAt (stageIn s n c batch).1.regs key = wordAt s.regs key := by
  simp only [stageInRegs, outside_append, outside_cons, outside_nil, and_true] at hk
  unfold stageIn
  split <;> simp [hk]
@[simp] theorem refuseRecord_keep (s : State) (reason : Nat) : (refuseRecord s reason).1.pending = s.pending ∧
    (refuseRecord s reason).1.act = s.act ∧ (refuseRecord s reason).1.lt = s.lt ∧ (refuseRecord s reason).1.synced =
    s.synced ∧ (refuseRecord s reason).1.free = s.free ∧ (refuseRecord s reason).1.dram = s.dram ∧ (refuseRecord s
    reason).1.scan = s.scan ∧ (refuseRecord s reason).1.pix = s.pix ∧ (refuseRecord s reason).1.gal = s.gal ∧
    (refuseRecord s reason).1.eng = s.eng ∧ (refuseRecord s reason).1.stats = s.stats ∧ (refuseRecord s reason).1.shd
    = s.shd ∧ (refuseRecord s reason).1.guard = s.guard ∧ (refuseRecord s reason).1.diag = s.diag ∧ (refuseRecord s
    reason).1.cal = s.cal ∧ (refuseRecord s reason).1.net = s.net ∧ (refuseRecord s reason).1.mbx = s.mbx ∧
    (refuseRecord s reason).1.io = s.io ∧ (refuseRecord s reason).1.pins = s.pins ∧ (refuseRecord s reason).1.aux =
    s.aux ∧ (refuseRecord s reason).1.clk = s.clk ∧ (refuseRecord s reason).1.pwr = s.pwr ∧ (refuseRecord s
    reason).1.boot = s.boot ∧ (refuseRecord s reason).1.thm = s.thm ∧ (refuseRecord s reason).1.ddr = s.ddr ∧
    (refuseRecord s reason).1.mram = s.mram ∧ (refuseRecord s reason).1.flash = s.flash ∧ (refuseRecord s
    reason).1.flt = s.flt ∧ (refuseRecord s reason).1.evt = s.evt := by
  unfold refuseRecord
  simp
def refuseRecordRegs : List Field := [SHD.WR_REJECT_COUNT.COUNT]
@[simp] theorem refuseRecord_word {key : Nat} (hk : Outside refuseRecordRegs key) (s : State) (reason : Nat)  : wordAt
    (refuseRecord s reason).1.regs key = wordAt s.regs key := by
  simp only [refuseRecordRegs, outside_append, outside_cons, outside_nil, and_true] at hk
  unfold refuseRecord
  simp [hk]
@[simp] theorem placeRecord_keep (s : State) (c : Ctx) (batch : Bool) : (placeRecord s c batch).1.pending = s.pending
    ∧ (placeRecord s c batch).1.act = s.act ∧ (placeRecord s c batch).1.lt = s.lt ∧ (placeRecord s c batch).1.synced =
    s.synced ∧ (placeRecord s c batch).1.free = s.free ∧ (placeRecord s c batch).1.dram = s.dram ∧ (placeRecord s c
    batch).1.pix = s.pix ∧ (placeRecord s c batch).1.gal = s.gal ∧ (placeRecord s c batch).1.eng = s.eng ∧
    (placeRecord s c batch).1.stats = s.stats ∧ (placeRecord s c batch).1.guard = s.guard ∧ (placeRecord s c
    batch).1.diag = s.diag ∧ (placeRecord s c batch).1.cal = s.cal ∧ (placeRecord s c batch).1.net = s.net ∧
    (placeRecord s c batch).1.mbx = s.mbx ∧ (placeRecord s c batch).1.io = s.io ∧ (placeRecord s c batch).1.pins =
    s.pins ∧ (placeRecord s c batch).1.aux = s.aux ∧ (placeRecord s c batch).1.clk = s.clk ∧ (placeRecord s c
    batch).1.pwr = s.pwr ∧ (placeRecord s c batch).1.boot = s.boot ∧ (placeRecord s c batch).1.thm = s.thm ∧
    (placeRecord s c batch).1.ddr = s.ddr ∧ (placeRecord s c batch).1.mram = s.mram ∧ (placeRecord s c batch).1.flash
    = s.flash ∧ (placeRecord s c batch).1.evt = s.evt := by
  unfold placeRecord
  (try simp) <;> (repeat' apply And.intro) <;> (repeat' split) <;> (try simp)
def placeRecordRegs : List Field := stageInRegs ++ refuseRecordRegs ++ [SHD.EVICT_COUNT.COUNT]
@[simp] theorem placeRecord_word {key : Nat} (hk : Outside placeRecordRegs key) (s : State) (c : Ctx) (batch : Bool)
    : wordAt (placeRecord s c batch).1.regs key = wordAt s.regs key := by
  simp only [placeRecordRegs, outside_append, outside_cons, outside_nil, and_true] at hk
  unfold placeRecord
  (repeat' split) <;> (try simp [hk])
@[simp] theorem acceptRecord_keep (s : State) (raw : List Byte) (batch : Bool) : (acceptRecord s raw batch).1.pending
    = s.pending ∧ (acceptRecord s raw batch).1.act = s.act ∧ (acceptRecord s raw batch).1.lt = s.lt ∧ (acceptRecord s
    raw batch).1.synced = s.synced ∧ (acceptRecord s raw batch).1.free = s.free ∧ (acceptRecord s raw batch).1.dram =
    s.dram ∧ (acceptRecord s raw batch).1.pix = s.pix ∧ (acceptRecord s raw batch).1.gal = s.gal ∧ (acceptRecord s raw
    batch).1.eng = s.eng ∧ (acceptRecord s raw batch).1.stats = s.stats ∧ (acceptRecord s raw batch).1.guard = s.guard
    ∧ (acceptRecord s raw batch).1.diag = s.diag ∧ (acceptRecord s raw batch).1.cal = s.cal ∧ (acceptRecord s raw
    batch).1.net = s.net ∧ (acceptRecord s raw batch).1.mbx = s.mbx ∧ (acceptRecord s raw batch).1.io = s.io ∧
    (acceptRecord s raw batch).1.pins = s.pins ∧ (acceptRecord s raw batch).1.aux = s.aux ∧ (acceptRecord s raw
    batch).1.clk = s.clk ∧ (acceptRecord s raw batch).1.pwr = s.pwr ∧ (acceptRecord s raw batch).1.boot = s.boot ∧
    (acceptRecord s raw batch).1.thm = s.thm ∧ (acceptRecord s raw batch).1.ddr = s.ddr ∧ (acceptRecord s raw
    batch).1.mram = s.mram ∧ (acceptRecord s raw batch).1.flash = s.flash ∧ (acceptRecord s raw batch).1.evt = s.evt
    := by
  unfold acceptRecord
  (try simp) <;> (repeat' apply And.intro) <;> (repeat' split) <;> (try simp)
def acceptRecordRegs : List Field := refuseRecordRegs ++ stageInRegs ++ placeRecordRegs
@[simp] theorem acceptRecord_word {key : Nat} (hk : Outside acceptRecordRegs key) (s : State) (raw : List Byte) (batch
    : Bool)  : wordAt (acceptRecord s raw batch).1.regs key = wordAt s.regs key := by
  simp only [acceptRecordRegs, outside_append, outside_cons, outside_nil, and_true] at hk
  unfold acceptRecord
  extract_lets; (repeat' split) <;> (try simp [hk])
@[simp] theorem expireSlot_keep (s : State) (n : Nat) : (expireSlot s n).pending = s.pending ∧ (expireSlot s n).act =
    s.act ∧ (expireSlot s n).lt = s.lt ∧ (expireSlot s n).synced = s.synced ∧ (expireSlot s n).free = s.free ∧
    (expireSlot s n).dram = s.dram ∧ (expireSlot s n).scan = s.scan ∧ (expireSlot s n).pix = s.pix ∧ (expireSlot s
    n).gal = s.gal ∧ (expireSlot s n).eng = s.eng ∧ (expireSlot s n).stats = s.stats ∧ (expireSlot s n).guard =
    s.guard ∧ (expireSlot s n).diag = s.diag ∧ (expireSlot s n).cal = s.cal ∧ (expireSlot s n).net = s.net ∧
    (expireSlot s n).mbx = s.mbx ∧ (expireSlot s n).io = s.io ∧ (expireSlot s n).pins = s.pins ∧ (expireSlot s n).aux
    = s.aux ∧ (expireSlot s n).clk = s.clk ∧ (expireSlot s n).pwr = s.pwr ∧ (expireSlot s n).boot = s.boot ∧
    (expireSlot s n).thm = s.thm ∧ (expireSlot s n).ddr = s.ddr ∧ (expireSlot s n).mram = s.mram ∧ (expireSlot s
    n).flash = s.flash ∧ (expireSlot s n).evt = s.evt := by
  unfold expireSlot
  (try simp) <;> (repeat' apply And.intro) <;> (repeat' split) <;> (try simp)
def expireSlotRegs : List Field := [SHD.EXPIRE_COUNT.COUNT]
@[simp] theorem expireSlot_word {key : Nat} (hk : Outside expireSlotRegs key) (s : State) (n : Nat)  : wordAt
    (expireSlot s n).regs key = wordAt s.regs key := by
  simp only [expireSlotRegs, outside_append, outside_cons, outside_nil, and_true] at hk
  unfold expireSlot
  extract_lets; (repeat' split) <;> (try simp [hk])
@[simp] theorem publishPoint_keep (s : State) : (publishPoint s).pending = s.pending ∧ (publishPoint s).act = s.act ∧
    (publishPoint s).lt = s.lt ∧ (publishPoint s).synced = s.synced ∧ (publishPoint s).free = s.free ∧ (publishPoint
    s).dram = s.dram ∧ (publishPoint s).scan = s.scan ∧ (publishPoint s).pix = s.pix ∧ (publishPoint s).gal = s.gal ∧
    (publishPoint s).eng = s.eng ∧ (publishPoint s).stats = s.stats ∧ (publishPoint s).diag = s.diag ∧ (publishPoint
    s).cal = s.cal ∧ (publishPoint s).net = s.net ∧ (publishPoint s).mbx = s.mbx ∧ (publishPoint s).io = s.io ∧
    (publishPoint s).pins = s.pins ∧ (publishPoint s).aux = s.aux ∧ (publishPoint s).clk = s.clk ∧ (publishPoint
    s).pwr = s.pwr ∧ (publishPoint s).boot = s.boot ∧ (publishPoint s).thm = s.thm ∧ (publishPoint s).ddr = s.ddr ∧
    (publishPoint s).mram = s.mram ∧ (publishPoint s).flash = s.flash ∧ (publishPoint s).evt = s.evt := by
  unfold publishPoint
  simp
def publishPointRegs : List Field := expireSlotRegs ++ guardSampleRegs
@[simp] theorem publishPoint_word {key : Nat} (hk : Outside publishPointRegs key) (s : State)  : wordAt (publishPoint
    s).regs key = wordAt s.regs key := by
  simp only [publishPointRegs, outside_append, outside_cons, outside_nil, and_true] at hk
  unfold publishPoint
  simp [hk]
@[simp] theorem batchCommit_keep (s : State) : (batchCommit s).pending = s.pending ∧ (batchCommit s).regs = s.regs ∧
    (batchCommit s).act = s.act ∧ (batchCommit s).lt = s.lt ∧ (batchCommit s).synced = s.synced ∧ (batchCommit s).free
    = s.free ∧ (batchCommit s).dram = s.dram ∧ (batchCommit s).scan = s.scan ∧ (batchCommit s).pix = s.pix ∧
    (batchCommit s).gal = s.gal ∧ (batchCommit s).eng = s.eng ∧ (batchCommit s).stats = s.stats ∧ (batchCommit
    s).guard = s.guard ∧ (batchCommit s).diag = s.diag ∧ (batchCommit s).cal = s.cal ∧ (batchCommit s).net = s.net ∧
    (batchCommit s).mbx = s.mbx ∧ (batchCommit s).io = s.io ∧ (batchCommit s).pins = s.pins ∧ (batchCommit s).aux =
    s.aux ∧ (batchCommit s).clk = s.clk ∧ (batchCommit s).pwr = s.pwr ∧ (batchCommit s).boot = s.boot ∧ (batchCommit
    s).thm = s.thm ∧ (batchCommit s).ddr = s.ddr ∧ (batchCommit s).mram = s.mram ∧ (batchCommit s).flash = s.flash ∧
    (batchCommit s).flt = s.flt ∧ (batchCommit s).evt = s.evt := by
  unfold batchCommit
  simp
@[simp] theorem contextEcc_keep (s : State) (e : ContextEcc) : (contextEcc s e).pending = s.pending ∧ (contextEcc s
    e).act = s.act ∧ (contextEcc s e).lt = s.lt ∧ (contextEcc s e).synced = s.synced ∧ (contextEcc s e).free = s.free
    ∧ (contextEcc s e).dram = s.dram ∧ (contextEcc s e).pix = s.pix ∧ (contextEcc s e).gal = s.gal ∧ (contextEcc s
    e).eng = s.eng ∧ (contextEcc s e).stats = s.stats ∧ (contextEcc s e).guard = s.guard ∧ (contextEcc s e).diag =
    s.diag ∧ (contextEcc s e).cal = s.cal ∧ (contextEcc s e).net = s.net ∧ (contextEcc s e).mbx = s.mbx ∧ (contextEcc
    s e).io = s.io ∧ (contextEcc s e).pins = s.pins ∧ (contextEcc s e).aux = s.aux ∧ (contextEcc s e).clk = s.clk ∧
    (contextEcc s e).pwr = s.pwr ∧ (contextEcc s e).boot = s.boot ∧ (contextEcc s e).thm = s.thm ∧ (contextEcc s
    e).ddr = s.ddr ∧ (contextEcc s e).mram = s.mram ∧ (contextEcc s e).flash = s.flash ∧ (contextEcc s e).evt = s.evt
    := by
  unfold contextEcc
  (try simp) <;> (repeat' apply And.intro) <;> (repeat' split) <;> (try simp)
def contextEccRegs : List Field := raiseFaultRegs ++ [SHD.WR_REJECT_COUNT.COUNT]
@[simp] theorem contextEcc_word {key : Nat} (hk : Outside contextEccRegs key) (s : State) (e : ContextEcc)  : wordAt
    (contextEcc s e).regs key = wordAt s.regs key := by
  simp only [contextEccRegs, outside_append, outside_cons, outside_nil, and_true] at hk
  unfold contextEcc
  (repeat' split) <;> (try simp [hk])
@[simp] theorem writeBlank_keep (s : State) (p : Nat) : (writeBlank s p).pending = s.pending ∧ (writeBlank s p).act =
    s.act ∧ (writeBlank s p).lt = s.lt ∧ (writeBlank s p).synced = s.synced ∧ (writeBlank s p).free = s.free ∧
    (writeBlank s p).dram = s.dram ∧ (writeBlank s p).scan = s.scan ∧ (writeBlank s p).gal = s.gal ∧ (writeBlank s
    p).eng = s.eng ∧ (writeBlank s p).stats = s.stats ∧ (writeBlank s p).guard = s.guard ∧ (writeBlank s p).diag =
    s.diag ∧ (writeBlank s p).cal = s.cal ∧ (writeBlank s p).net = s.net ∧ (writeBlank s p).mbx = s.mbx ∧ (writeBlank
    s p).io = s.io ∧ (writeBlank s p).pins = s.pins ∧ (writeBlank s p).aux = s.aux ∧ (writeBlank s p).clk = s.clk ∧
    (writeBlank s p).pwr = s.pwr ∧ (writeBlank s p).boot = s.boot ∧ (writeBlank s p).thm = s.thm ∧ (writeBlank s
    p).ddr = s.ddr ∧ (writeBlank s p).mram = s.mram ∧ (writeBlank s p).flash = s.flash ∧ (writeBlank s p).flt = s.flt
    ∧ (writeBlank s p).evt = s.evt := by
  unfold writeBlank
  split <;> simp
def writeBlankRegs : List Field := [SCAN.BLANK_STATUS.PASS_LATE]
@[simp] theorem writeBlank_word {key : Nat} (hk : Outside writeBlankRegs key) (s : State) (p : Nat)  : wordAt
    (writeBlank s p).regs key = wordAt s.regs key := by
  simp only [writeBlankRegs, outside_append, outside_cons, outside_nil, and_true] at hk
  unfold writeBlank
  split <;> simp [hk]
@[simp] theorem mismatch_keep (s : State) (inj : Bool) (n : Nat) : (mismatch s inj n).pending = s.pending ∧ (mismatch
    s inj n).act = s.act ∧ (mismatch s inj n).lt = s.lt ∧ (mismatch s inj n).synced = s.synced ∧ (mismatch s inj
    n).free = s.free ∧ (mismatch s inj n).dram = s.dram ∧ (mismatch s inj n).pix = s.pix ∧ (mismatch s inj n).gal =
    s.gal ∧ (mismatch s inj n).eng = s.eng ∧ (mismatch s inj n).stats = s.stats ∧ (mismatch s inj n).guard = s.guard ∧
    (mismatch s inj n).diag = s.diag ∧ (mismatch s inj n).cal = s.cal ∧ (mismatch s inj n).net = s.net ∧ (mismatch s
    inj n).mbx = s.mbx ∧ (mismatch s inj n).io = s.io ∧ (mismatch s inj n).pins = s.pins ∧ (mismatch s inj n).aux =
    s.aux ∧ (mismatch s inj n).clk = s.clk ∧ (mismatch s inj n).pwr = s.pwr ∧ (mismatch s inj n).boot = s.boot ∧
    (mismatch s inj n).thm = s.thm ∧ (mismatch s inj n).ddr = s.ddr ∧ (mismatch s inj n).mram = s.mram ∧ (mismatch s
    inj n).flash = s.flash ∧ (mismatch s inj n).evt = s.evt := by
  unfold mismatch
  simp
def mismatchRegs : List Field := raiseInjectedRegs ++ raiseFaultRegs ++ [SHD.MISMATCH_COUNT.COUNT,
    SHD.STATUS.CMP_MISMATCH]
@[simp] theorem mismatch_word {key : Nat} (hk : Outside mismatchRegs key) (s : State) (inj : Bool) (n : Nat)  : wordAt
    (mismatch s inj n).regs key = wordAt s.regs key := by
  simp only [mismatchRegs, outside_append, outside_cons, outside_nil, and_true] at hk
  unfold mismatch
  simp [hk]
@[simp] theorem takeRows_keep (s : State) (r : Nat) (b : List Nat) (soft : Option (Nat × List Nat)) : (takeRows s r b
    soft).pending = s.pending ∧ (takeRows s r b soft).regs = s.regs ∧ (takeRows s r b soft).act = s.act ∧ (takeRows s
    r b soft).lt = s.lt ∧ (takeRows s r b soft).synced = s.synced ∧ (takeRows s r b soft).free = s.free ∧ (takeRows s
    r b soft).dram = s.dram ∧ (takeRows s r b soft).scan = s.scan ∧ (takeRows s r b soft).pix = s.pix ∧ (takeRows s r
    b soft).gal = s.gal ∧ (takeRows s r b soft).eng = s.eng ∧ (takeRows s r b soft).stats = s.stats ∧ (takeRows s r b
    soft).guard = s.guard ∧ (takeRows s r b soft).diag = s.diag ∧ (takeRows s r b soft).cal = s.cal ∧ (takeRows s r b
    soft).net = s.net ∧ (takeRows s r b soft).mbx = s.mbx ∧ (takeRows s r b soft).io = s.io ∧ (takeRows s r b
    soft).pins = s.pins ∧ (takeRows s r b soft).aux = s.aux ∧ (takeRows s r b soft).clk = s.clk ∧ (takeRows s r b
    soft).pwr = s.pwr ∧ (takeRows s r b soft).boot = s.boot ∧ (takeRows s r b soft).thm = s.thm ∧ (takeRows s r b
    soft).ddr = s.ddr ∧ (takeRows s r b soft).mram = s.mram ∧ (takeRows s r b soft).flash = s.flash ∧ (takeRows s r b
    soft).flt = s.flt ∧ (takeRows s r b soft).evt = s.evt := by
  unfold takeRows
  split <;> simp
@[simp] theorem handover_keep (s : State) (out : RasterOutcome) (r : Nat) (b old : List Nat) (soft : Option (Nat ×
    List Nat)) : (handover s out r b old soft).pending = s.pending ∧ (handover s out r b old soft).act = s.act ∧
    (handover s out r b old soft).lt = s.lt ∧ (handover s out r b old soft).synced = s.synced ∧ (handover s out r b
    old soft).free = s.free ∧ (handover s out r b old soft).dram = s.dram ∧ (handover s out r b old soft).pix = s.pix
    ∧ (handover s out r b old soft).gal = s.gal ∧ (handover s out r b old soft).eng = s.eng ∧ (handover s out r b old
    soft).stats = s.stats ∧ (handover s out r b old soft).guard = s.guard ∧ (handover s out r b old soft).diag =
    s.diag ∧ (handover s out r b old soft).cal = s.cal ∧ (handover s out r b old soft).net = s.net ∧ (handover s out r
    b old soft).mbx = s.mbx ∧ (handover s out r b old soft).io = s.io ∧ (handover s out r b old soft).pins = s.pins ∧
    (handover s out r b old soft).aux = s.aux ∧ (handover s out r b old soft).clk = s.clk ∧ (handover s out r b old
    soft).pwr = s.pwr ∧ (handover s out r b old soft).boot = s.boot ∧ (handover s out r b old soft).thm = s.thm ∧
    (handover s out r b old soft).ddr = s.ddr ∧ (handover s out r b old soft).mram = s.mram ∧ (handover s out r b old
    soft).flash = s.flash ∧ (handover s out r b old soft).evt = s.evt := by
  unfold handover
  split <;> simp
def handoverRegs : List Field := mismatchRegs ++ raiseFaultRegs ++ [SHD.STATUS.ROW_SINGLE]
@[simp] theorem handover_word {key : Nat} (hk : Outside handoverRegs key) (s : State) (out : RasterOutcome) (r : Nat)
    (b old : List Nat) (soft : Option (Nat × List Nat))  : wordAt (handover s out r b old soft).regs key = wordAt
    s.regs key := by
  simp only [handoverRegs, outside_append, outside_cons, outside_nil, and_true] at hk
  unfold handover
  split <;> simp [hk]

end Sys2Proof.Machine
end

