-- ==== Sys2Proof/Laws/FrameTatex.lean ====
section
/-! SUPPORT. FrameTatex.lean: for each operation of Machine/Tatex.lean, the parts of State that it leaves alone and the register
fields outside which it changes none. -/

set_option linter.unusedSimpArgs false

namespace Sys2Proof.Machine

set_option Elab.async false

@[simp] theorem state_setPort_keep (s : State) (p : Nat) (f : PortSt → PortSt) : (State.setPort s p f).pending =
    s.pending ∧ (State.setPort s p f).regs = s.regs ∧ (State.setPort s p f).act = s.act ∧ (State.setPort s p f).lt =
    s.lt ∧ (State.setPort s p f).synced = s.synced ∧ (State.setPort s p f).free = s.free ∧ (State.setPort s p f).dram
    = s.dram ∧ (State.setPort s p f).scan = s.scan ∧ (State.setPort s p f).pix = s.pix ∧ (State.setPort s p f).gal =
    s.gal ∧ (State.setPort s p f).eng = s.eng ∧ (State.setPort s p f).stats = s.stats ∧ (State.setPort s p f).shd =
    s.shd ∧ (State.setPort s p f).guard = s.guard ∧ (State.setPort s p f).diag = s.diag ∧ (State.setPort s p f).cal =
    s.cal ∧ (State.setPort s p f).mbx = s.mbx ∧ (State.setPort s p f).io = s.io ∧ (State.setPort s p f).pins = s.pins
    ∧ (State.setPort s p f).aux = s.aux ∧ (State.setPort s p f).clk = s.clk ∧ (State.setPort s p f).pwr = s.pwr ∧
    (State.setPort s p f).boot = s.boot ∧ (State.setPort s p f).thm = s.thm ∧ (State.setPort s p f).ddr = s.ddr ∧
    (State.setPort s p f).mram = s.mram ∧ (State.setPort s p f).flash = s.flash ∧ (State.setPort s p f).flt = s.flt ∧
    (State.setPort s p f).evt = s.evt := by
  unfold State.setPort
  simp
@[simp] theorem startTraining_keep (s : State) (p : Nat) : (startTraining s p).pending = s.pending ∧ (startTraining s
    p).act = s.act ∧ (startTraining s p).lt = s.lt ∧ (startTraining s p).synced = s.synced ∧ (startTraining s p).free
    = s.free ∧ (startTraining s p).dram = s.dram ∧ (startTraining s p).scan = s.scan ∧ (startTraining s p).pix = s.pix
    ∧ (startTraining s p).gal = s.gal ∧ (startTraining s p).eng = s.eng ∧ (startTraining s p).stats = s.stats ∧
    (startTraining s p).shd = s.shd ∧ (startTraining s p).guard = s.guard ∧ (startTraining s p).diag = s.diag ∧
    (startTraining s p).cal = s.cal ∧ (startTraining s p).mbx = s.mbx ∧ (startTraining s p).io = s.io ∧ (startTraining
    s p).pins = s.pins ∧ (startTraining s p).aux = s.aux ∧ (startTraining s p).clk = s.clk ∧ (startTraining s p).pwr =
    s.pwr ∧ (startTraining s p).boot = s.boot ∧ (startTraining s p).thm = s.thm ∧ (startTraining s p).ddr = s.ddr ∧
    (startTraining s p).mram = s.mram ∧ (startTraining s p).flash = s.flash ∧ (startTraining s p).flt = s.flt ∧
    (startTraining s p).evt = s.evt := by
  unfold startTraining
  simp
def startTrainingRegs : List Field := allOf 2 TX.STATUS.STATE
@[simp] theorem startTraining_word {key : Nat} (hk : Outside startTrainingRegs key) (s : State) (p : Nat)  : wordAt
    (startTraining s p).regs key = wordAt s.regs key := by
  simp only [startTrainingRegs, outside_append, outside_cons, outside_nil, and_true, outside_TX_STATUS_STATE] at hk
  unfold startTraining
  simp [hk]
@[simp] theorem linkLost_keep (s : State) (p : Nat) (planned : Bool) : (linkLost s p planned).pending = s.pending ∧
    (linkLost s p planned).act = s.act ∧ (linkLost s p planned).lt = s.lt ∧ (linkLost s p planned).synced = s.synced ∧
    (linkLost s p planned).free = s.free ∧ (linkLost s p planned).dram = s.dram ∧ (linkLost s p planned).pix = s.pix ∧
    (linkLost s p planned).gal = s.gal ∧ (linkLost s p planned).eng = s.eng ∧ (linkLost s p planned).stats = s.stats ∧
    (linkLost s p planned).shd = s.shd ∧ (linkLost s p planned).guard = s.guard ∧ (linkLost s p planned).diag = s.diag
    ∧ (linkLost s p planned).cal = s.cal ∧ (linkLost s p planned).mbx = s.mbx ∧ (linkLost s p planned).io = s.io ∧
    (linkLost s p planned).pins = s.pins ∧ (linkLost s p planned).aux = s.aux ∧ (linkLost s p planned).clk = s.clk ∧
    (linkLost s p planned).pwr = s.pwr ∧ (linkLost s p planned).boot = s.boot ∧ (linkLost s p planned).thm = s.thm ∧
    (linkLost s p planned).ddr = s.ddr ∧ (linkLost s p planned).mram = s.mram ∧ (linkLost s p planned).flash = s.flash
    ∧ (linkLost s p planned).evt = s.evt := by
  unfold linkLost
  simp
def linkLostRegs : List Field := raiseFaultRegs ++ allOf 2 TX.STATUS.LINK_DOWN ++ allOf 2 TX.STATUS.WRAP
@[simp] theorem linkLost_word {key : Nat} (hk : Outside linkLostRegs key) (s : State) (p : Nat) (planned : Bool)  :
    wordAt (linkLost s p planned).regs key = wordAt s.regs key := by
  simp only [linkLostRegs, outside_append, outside_cons, outside_nil, and_true, outside_TX_STATUS_LINK_DOWN, outside_TX_STATUS_WRAP] at hk
  unfold linkLost
  simp [hk]
@[simp] theorem portDown_keep (s : State) (p : Nat) : (portDown s p).pending = s.pending ∧ (portDown s p).act = s.act
    ∧ (portDown s p).lt = s.lt ∧ (portDown s p).synced = s.synced ∧ (portDown s p).free = s.free ∧ (portDown s p).dram
    = s.dram ∧ (portDown s p).pix = s.pix ∧ (portDown s p).gal = s.gal ∧ (portDown s p).eng = s.eng ∧ (portDown s
    p).stats = s.stats ∧ (portDown s p).shd = s.shd ∧ (portDown s p).guard = s.guard ∧ (portDown s p).diag = s.diag ∧
    (portDown s p).cal = s.cal ∧ (portDown s p).mbx = s.mbx ∧ (portDown s p).io = s.io ∧ (portDown s p).pins = s.pins
    ∧ (portDown s p).aux = s.aux ∧ (portDown s p).clk = s.clk ∧ (portDown s p).pwr = s.pwr ∧ (portDown s p).boot =
    s.boot ∧ (portDown s p).thm = s.thm ∧ (portDown s p).ddr = s.ddr ∧ (portDown s p).mram = s.mram ∧ (portDown s
    p).flash = s.flash ∧ (portDown s p).evt = s.evt := by
  unfold portDown
  simp
def portDownRegs : List Field := startTrainingRegs ++ linkLostRegs ++ allOf 2 TX.STATUS.STATE
@[simp] theorem portDown_word {key : Nat} (hk : Outside portDownRegs key) (s : State) (p : Nat)  : wordAt (portDown s
    p).regs key = wordAt s.regs key := by
  simp only [portDownRegs, outside_append, outside_cons, outside_nil, and_true, outside_TX_STATUS_STATE] at hk
  unfold portDown
  simp [hk]
@[simp] theorem portComesUp_keep (s : State) (p rate : Nat) : (portComesUp s p rate).pending = s.pending ∧
    (portComesUp s p rate).act = s.act ∧ (portComesUp s p rate).lt = s.lt ∧ (portComesUp s p rate).synced = s.synced ∧
    (portComesUp s p rate).free = s.free ∧ (portComesUp s p rate).dram = s.dram ∧ (portComesUp s p rate).scan = s.scan
    ∧ (portComesUp s p rate).pix = s.pix ∧ (portComesUp s p rate).gal = s.gal ∧ (portComesUp s p rate).eng = s.eng ∧
    (portComesUp s p rate).stats = s.stats ∧ (portComesUp s p rate).shd = s.shd ∧ (portComesUp s p rate).guard =
    s.guard ∧ (portComesUp s p rate).diag = s.diag ∧ (portComesUp s p rate).cal = s.cal ∧ (portComesUp s p rate).mbx =
    s.mbx ∧ (portComesUp s p rate).io = s.io ∧ (portComesUp s p rate).pins = s.pins ∧ (portComesUp s p rate).aux =
    s.aux ∧ (portComesUp s p rate).clk = s.clk ∧ (portComesUp s p rate).pwr = s.pwr ∧ (portComesUp s p rate).boot =
    s.boot ∧ (portComesUp s p rate).thm = s.thm ∧ (portComesUp s p rate).ddr = s.ddr ∧ (portComesUp s p rate).mram =
    s.mram ∧ (portComesUp s p rate).flash = s.flash ∧ (portComesUp s p rate).evt = s.evt := by
  unfold portComesUp
  simp
def portComesUpRegs : List Field := allOf 2 TX.STATUS.RATE ++ allOf 2 TX.STATUS.STATE ++ allOf 2 TX.STATUS.WRAP
@[simp] theorem portComesUp_word {key : Nat} (hk : Outside portComesUpRegs key) (s : State) (p rate : Nat)  : wordAt
    (portComesUp s p rate).regs key = wordAt s.regs key := by
  simp only [portComesUpRegs, outside_append, outside_cons, outside_nil, and_true, outside_TX_STATUS_RATE, outside_TX_STATUS_STATE, outside_TX_STATUS_WRAP] at hk
  unfold portComesUp
  simp [hk]
@[simp] theorem trainFail_keep (s : State) (p next : Nat) : (trainFail s p next).pending = s.pending ∧ (trainFail s p
    next).act = s.act ∧ (trainFail s p next).lt = s.lt ∧ (trainFail s p next).synced = s.synced ∧ (trainFail s p
    next).free = s.free ∧ (trainFail s p next).dram = s.dram ∧ (trainFail s p next).scan = s.scan ∧ (trainFail s p
    next).pix = s.pix ∧ (trainFail s p next).gal = s.gal ∧ (trainFail s p next).eng = s.eng ∧ (trainFail s p
    next).stats = s.stats ∧ (trainFail s p next).shd = s.shd ∧ (trainFail s p next).guard = s.guard ∧ (trainFail s p
    next).diag = s.diag ∧ (trainFail s p next).cal = s.cal ∧ (trainFail s p next).mbx = s.mbx ∧ (trainFail s p
    next).io = s.io ∧ (trainFail s p next).pins = s.pins ∧ (trainFail s p next).aux = s.aux ∧ (trainFail s p next).clk
    = s.clk ∧ (trainFail s p next).pwr = s.pwr ∧ (trainFail s p next).boot = s.boot ∧ (trainFail s p next).thm = s.thm
    ∧ (trainFail s p next).ddr = s.ddr ∧ (trainFail s p next).mram = s.mram ∧ (trainFail s p next).flash = s.flash ∧
    (trainFail s p next).flt = s.flt ∧ (trainFail s p next).evt = s.evt := by
  unfold trainFail
  simp
def trainFailRegs : List Field := allOf 2 TX.TRAIN_FAIL
@[simp] theorem trainFail_word {key : Nat} (hk : Outside trainFailRegs key) (s : State) (p next : Nat)  : wordAt
    (trainFail s p next).regs key = wordAt s.regs key := by
  simp only [trainFailRegs, outside_append, outside_cons, outside_nil, and_true, outside_TX_TRAIN_FAIL] at hk
  unfold trainFail
  simp [hk]
@[simp] theorem portEnable_keep (s : State) (p : Nat) : (portEnable s p).pending = s.pending ∧ (portEnable s p).act =
    s.act ∧ (portEnable s p).lt = s.lt ∧ (portEnable s p).synced = s.synced ∧ (portEnable s p).free = s.free ∧
    (portEnable s p).dram = s.dram ∧ (portEnable s p).scan = s.scan ∧ (portEnable s p).pix = s.pix ∧ (portEnable s
    p).gal = s.gal ∧ (portEnable s p).eng = s.eng ∧ (portEnable s p).stats = s.stats ∧ (portEnable s p).shd = s.shd ∧
    (portEnable s p).guard = s.guard ∧ (portEnable s p).diag = s.diag ∧ (portEnable s p).cal = s.cal ∧ (portEnable s
    p).mbx = s.mbx ∧ (portEnable s p).io = s.io ∧ (portEnable s p).pins = s.pins ∧ (portEnable s p).aux = s.aux ∧
    (portEnable s p).clk = s.clk ∧ (portEnable s p).pwr = s.pwr ∧ (portEnable s p).boot = s.boot ∧ (portEnable s
    p).thm = s.thm ∧ (portEnable s p).ddr = s.ddr ∧ (portEnable s p).mram = s.mram ∧ (portEnable s p).flash = s.flash
    ∧ (portEnable s p).flt = s.flt ∧ (portEnable s p).evt = s.evt := by
  unfold portEnable
  simp
def portEnableRegs : List Field := startTrainingRegs ++ allOf 2 TX.CTRL.EN
@[simp] theorem portEnable_word {key : Nat} (hk : Outside portEnableRegs key) (s : State) (p : Nat)  : wordAt
    (portEnable s p).regs key = wordAt s.regs key := by
  simp only [portEnableRegs, outside_append, outside_cons, outside_nil, and_true, outside_TX_CTRL_EN] at hk
  unfold portEnable
  simp [hk]
@[simp] theorem gotTrn1_keep (s : State) (p : Nat) (i : Trn1Info) : (gotTrn1 s p i).pending = s.pending ∧ (gotTrn1 s p
    i).act = s.act ∧ (gotTrn1 s p i).lt = s.lt ∧ (gotTrn1 s p i).synced = s.synced ∧ (gotTrn1 s p i).free = s.free ∧
    (gotTrn1 s p i).dram = s.dram ∧ (gotTrn1 s p i).scan = s.scan ∧ (gotTrn1 s p i).pix = s.pix ∧ (gotTrn1 s p i).gal
    = s.gal ∧ (gotTrn1 s p i).eng = s.eng ∧ (gotTrn1 s p i).stats = s.stats ∧ (gotTrn1 s p i).shd = s.shd ∧ (gotTrn1 s
    p i).guard = s.guard ∧ (gotTrn1 s p i).diag = s.diag ∧ (gotTrn1 s p i).cal = s.cal ∧ (gotTrn1 s p i).mbx = s.mbx ∧
    (gotTrn1 s p i).io = s.io ∧ (gotTrn1 s p i).pins = s.pins ∧ (gotTrn1 s p i).aux = s.aux ∧ (gotTrn1 s p i).clk =
    s.clk ∧ (gotTrn1 s p i).pwr = s.pwr ∧ (gotTrn1 s p i).boot = s.boot ∧ (gotTrn1 s p i).thm = s.thm ∧ (gotTrn1 s p
    i).ddr = s.ddr ∧ (gotTrn1 s p i).mram = s.mram ∧ (gotTrn1 s p i).flash = s.flash ∧ (gotTrn1 s p i).flt = s.flt ∧
    (gotTrn1 s p i).evt = s.evt := by
  unfold gotTrn1
  split <;> simp
def gotTrn1Regs : List Field := allOf 2 TX.STATUS.INVERTED ++ allOf 2 TX.STATUS.LANE_MAP
@[simp] theorem gotTrn1_word {key : Nat} (hk : Outside gotTrn1Regs key) (s : State) (p : Nat) (i : Trn1Info)  : wordAt
    (gotTrn1 s p i).regs key = wordAt s.regs key := by
  simp only [gotTrn1Regs, outside_append, outside_cons, outside_nil, and_true, outside_TX_STATUS_INVERTED, outside_TX_STATUS_LANE_MAP] at hk
  unfold gotTrn1
  split <;> simp [hk]
@[simp] theorem rateDecision_keep (s : State) (p : Nat) (fom : List Nat) : (rateDecision s p fom).pending = s.pending
    ∧ (rateDecision s p fom).act = s.act ∧ (rateDecision s p fom).lt = s.lt ∧ (rateDecision s p fom).synced = s.synced
    ∧ (rateDecision s p fom).free = s.free ∧ (rateDecision s p fom).dram = s.dram ∧ (rateDecision s p fom).scan =
    s.scan ∧ (rateDecision s p fom).pix = s.pix ∧ (rateDecision s p fom).gal = s.gal ∧ (rateDecision s p fom).eng =
    s.eng ∧ (rateDecision s p fom).stats = s.stats ∧ (rateDecision s p fom).shd = s.shd ∧ (rateDecision s p fom).guard
    = s.guard ∧ (rateDecision s p fom).diag = s.diag ∧ (rateDecision s p fom).cal = s.cal ∧ (rateDecision s p fom).mbx
    = s.mbx ∧ (rateDecision s p fom).io = s.io ∧ (rateDecision s p fom).pins = s.pins ∧ (rateDecision s p fom).aux =
    s.aux ∧ (rateDecision s p fom).clk = s.clk ∧ (rateDecision s p fom).pwr = s.pwr ∧ (rateDecision s p fom).boot =
    s.boot ∧ (rateDecision s p fom).thm = s.thm ∧ (rateDecision s p fom).ddr = s.ddr ∧ (rateDecision s p fom).mram =
    s.mram ∧ (rateDecision s p fom).flash = s.flash ∧ (rateDecision s p fom).evt = s.evt := by
  unfold rateDecision
  simp
def rateDecisionRegs : List Field := portComesUpRegs ++ trainFailRegs
@[simp] theorem rateDecision_word {key : Nat} (hk : Outside rateDecisionRegs key) (s : State) (p : Nat) (fom : List
    Nat)  : wordAt (rateDecision s p fom).regs key = wordAt s.regs key := by
  simp only [rateDecisionRegs, outside_append, outside_cons, outside_nil, and_true] at hk
  unfold rateDecision
  simp [hk]
@[simp] theorem setEq_keep (s : State) (p : Nat) (x : Nat × LaneEq) : (setEq s p x).pending = s.pending ∧ (setEq s p
    x).act = s.act ∧ (setEq s p x).lt = s.lt ∧ (setEq s p x).synced = s.synced ∧ (setEq s p x).free = s.free ∧ (setEq
    s p x).dram = s.dram ∧ (setEq s p x).scan = s.scan ∧ (setEq s p x).pix = s.pix ∧ (setEq s p x).gal = s.gal ∧
    (setEq s p x).eng = s.eng ∧ (setEq s p x).stats = s.stats ∧ (setEq s p x).shd = s.shd ∧ (setEq s p x).guard =
    s.guard ∧ (setEq s p x).diag = s.diag ∧ (setEq s p x).cal = s.cal ∧ (setEq s p x).net = s.net ∧ (setEq s p x).mbx
    = s.mbx ∧ (setEq s p x).io = s.io ∧ (setEq s p x).pins = s.pins ∧ (setEq s p x).aux = s.aux ∧ (setEq s p x).clk =
    s.clk ∧ (setEq s p x).pwr = s.pwr ∧ (setEq s p x).boot = s.boot ∧ (setEq s p x).thm = s.thm ∧ (setEq s p x).ddr =
    s.ddr ∧ (setEq s p x).mram = s.mram ∧ (setEq s p x).flash = s.flash ∧ (setEq s p x).flt = s.flt ∧ (setEq s p
    x).evt = s.evt := by
  unfold setEq
  simp
def setEqRegs : List Field := allOf 8 TX.EQ.CTLE ++ allOf 8 TX.EQ.H1 ++ allOf 8 TX.EQ.H2 ++ allOf 8 TX.EQ.H3
@[simp] theorem setEq_word {key : Nat} (hk : Outside setEqRegs key) (s : State) (p : Nat) (x : Nat × LaneEq)  : wordAt
    (setEq s p x).regs key = wordAt s.regs key := by
  simp only [setEqRegs, outside_append, outside_cons, outside_nil, and_true, outside_TX_EQ_CTLE, outside_TX_EQ_H1, outside_TX_EQ_H2, outside_TX_EQ_H3] at hk
  unfold setEq
  simp [hk]
@[simp] theorem keepTap_keep (s : State) (p : Nat) (g : Nat × Nat × Int) : (keepTap s p g).pending = s.pending ∧
    (keepTap s p g).act = s.act ∧ (keepTap s p g).lt = s.lt ∧ (keepTap s p g).synced = s.synced ∧ (keepTap s p g).free
    = s.free ∧ (keepTap s p g).dram = s.dram ∧ (keepTap s p g).scan = s.scan ∧ (keepTap s p g).pix = s.pix ∧ (keepTap
    s p g).gal = s.gal ∧ (keepTap s p g).eng = s.eng ∧ (keepTap s p g).stats = s.stats ∧ (keepTap s p g).shd = s.shd ∧
    (keepTap s p g).guard = s.guard ∧ (keepTap s p g).diag = s.diag ∧ (keepTap s p g).cal = s.cal ∧ (keepTap s p
    g).net = s.net ∧ (keepTap s p g).mbx = s.mbx ∧ (keepTap s p g).io = s.io ∧ (keepTap s p g).pins = s.pins ∧
    (keepTap s p g).aux = s.aux ∧ (keepTap s p g).clk = s.clk ∧ (keepTap s p g).pwr = s.pwr ∧ (keepTap s p g).boot =
    s.boot ∧ (keepTap s p g).thm = s.thm ∧ (keepTap s p g).ddr = s.ddr ∧ (keepTap s p g).mram = s.mram ∧ (keepTap s p
    g).flash = s.flash ∧ (keepTap s p g).flt = s.flt ∧ (keepTap s p g).evt = s.evt := by
  unfold keepTap
  (try simp) <;> (repeat' apply And.intro) <;> (repeat' split) <;> (try simp)
def keepTapRegs : List Field := allOf 8 TX.EQ.H1 ++ allOf 8 TX.EQ.H2 ++ allOf 8 TX.EQ.H3
@[simp] theorem keepTap_word {key : Nat} (hk : Outside keepTapRegs key) (s : State) (p : Nat) (g : Nat × Nat × Int)  :
    wordAt (keepTap s p g).regs key = wordAt s.regs key := by
  simp only [keepTapRegs, outside_append, outside_cons, outside_nil, and_true, outside_TX_EQ_H1, outside_TX_EQ_H2, outside_TX_EQ_H3] at hk
  unfold keepTap
  (repeat' split) <;> (try simp [hk])
@[simp] theorem fomWarn_keep (p : Nat) (fom : List Nat) (s : State) (l : Nat) : (fomWarn p fom s l).pending =
    s.pending ∧ (fomWarn p fom s l).act = s.act ∧ (fomWarn p fom s l).lt = s.lt ∧ (fomWarn p fom s l).synced =
    s.synced ∧ (fomWarn p fom s l).free = s.free ∧ (fomWarn p fom s l).dram = s.dram ∧ (fomWarn p fom s l).pix = s.pix
    ∧ (fomWarn p fom s l).gal = s.gal ∧ (fomWarn p fom s l).eng = s.eng ∧ (fomWarn p fom s l).stats = s.stats ∧
    (fomWarn p fom s l).shd = s.shd ∧ (fomWarn p fom s l).guard = s.guard ∧ (fomWarn p fom s l).diag = s.diag ∧
    (fomWarn p fom s l).cal = s.cal ∧ (fomWarn p fom s l).net = s.net ∧ (fomWarn p fom s l).mbx = s.mbx ∧ (fomWarn p
    fom s l).io = s.io ∧ (fomWarn p fom s l).pins = s.pins ∧ (fomWarn p fom s l).aux = s.aux ∧ (fomWarn p fom s l).clk
    = s.clk ∧ (fomWarn p fom s l).pwr = s.pwr ∧ (fomWarn p fom s l).boot = s.boot ∧ (fomWarn p fom s l).thm = s.thm ∧
    (fomWarn p fom s l).ddr = s.ddr ∧ (fomWarn p fom s l).mram = s.mram ∧ (fomWarn p fom s l).flash = s.flash ∧
    (fomWarn p fom s l).evt = s.evt := by
  unfold fomWarn
  simp
def fomWarnRegs : List Field := raiseFaultRegs ++ allOf 2 TX.STATUS.FOM_LOW
@[simp] theorem fomWarn_word {key : Nat} (hk : Outside fomWarnRegs key) (p : Nat) (fom : List Nat) (s : State) (l :
    Nat)  : wordAt (fomWarn p fom s l).regs key = wordAt s.regs key := by
  simp only [fomWarnRegs, outside_append, outside_cons, outside_nil, and_true, outside_TX_STATUS_FOM_LOW] at hk
  unfold fomWarn
  simp [hk]
@[simp] theorem measureFom_keep (s : State) (p : Nat) (lanes : List LaneEq) (gains : List (Nat × Nat × Int)) :
    (measureFom s p lanes gains).pending = s.pending ∧ (measureFom s p lanes gains).act = s.act ∧ (measureFom s p
    lanes gains).lt = s.lt ∧ (measureFom s p lanes gains).synced = s.synced ∧ (measureFom s p lanes gains).free =
    s.free ∧ (measureFom s p lanes gains).dram = s.dram ∧ (measureFom s p lanes gains).pix = s.pix ∧ (measureFom s p
    lanes gains).gal = s.gal ∧ (measureFom s p lanes gains).eng = s.eng ∧ (measureFom s p lanes gains).stats = s.stats
    ∧ (measureFom s p lanes gains).shd = s.shd ∧ (measureFom s p lanes gains).guard = s.guard ∧ (measureFom s p lanes
    gains).diag = s.diag ∧ (measureFom s p lanes gains).cal = s.cal ∧ (measureFom s p lanes gains).mbx = s.mbx ∧
    (measureFom s p lanes gains).io = s.io ∧ (measureFom s p lanes gains).pins = s.pins ∧ (measureFom s p lanes
    gains).aux = s.aux ∧ (measureFom s p lanes gains).clk = s.clk ∧ (measureFom s p lanes gains).pwr = s.pwr ∧
    (measureFom s p lanes gains).boot = s.boot ∧ (measureFom s p lanes gains).thm = s.thm ∧ (measureFom s p lanes
    gains).ddr = s.ddr ∧ (measureFom s p lanes gains).mram = s.mram ∧ (measureFom s p lanes gains).flash = s.flash ∧
    (measureFom s p lanes gains).evt = s.evt := by
  unfold measureFom
  simp
def measureFomRegs : List Field := keepTapRegs ++ fomWarnRegs ++ portDownRegs ++ allOf 8 TX.FOM.FOM
@[simp] theorem measureFom_word {key : Nat} (hk : Outside measureFomRegs key) (s : State) (p : Nat) (lanes : List
    LaneEq) (gains : List (Nat × Nat × Int))  : wordAt (measureFom s p lanes gains).regs key = wordAt s.regs key := by
  simp only [measureFomRegs, outside_append, outside_cons, outside_nil, and_true, outside_TX_FOM_FOM] at hk
  unfold measureFom
  simp [hk]
@[simp] theorem sendOn_keep (s : State) (p : Nat) (pkt : Packet) : (sendOn s p pkt).pending = s.pending ∧ (sendOn s p
    pkt).regs = s.regs ∧ (sendOn s p pkt).act = s.act ∧ (sendOn s p pkt).lt = s.lt ∧ (sendOn s p pkt).synced =
    s.synced ∧ (sendOn s p pkt).free = s.free ∧ (sendOn s p pkt).dram = s.dram ∧ (sendOn s p pkt).scan = s.scan ∧
    (sendOn s p pkt).pix = s.pix ∧ (sendOn s p pkt).gal = s.gal ∧ (sendOn s p pkt).eng = s.eng ∧ (sendOn s p
    pkt).stats = s.stats ∧ (sendOn s p pkt).shd = s.shd ∧ (sendOn s p pkt).guard = s.guard ∧ (sendOn s p pkt).diag =
    s.diag ∧ (sendOn s p pkt).cal = s.cal ∧ (sendOn s p pkt).mbx = s.mbx ∧ (sendOn s p pkt).io = s.io ∧ (sendOn s p
    pkt).pins = s.pins ∧ (sendOn s p pkt).aux = s.aux ∧ (sendOn s p pkt).clk = s.clk ∧ (sendOn s p pkt).pwr = s.pwr ∧
    (sendOn s p pkt).boot = s.boot ∧ (sendOn s p pkt).thm = s.thm ∧ (sendOn s p pkt).ddr = s.ddr ∧ (sendOn s p
    pkt).mram = s.mram ∧ (sendOn s p pkt).flash = s.flash ∧ (sendOn s p pkt).flt = s.flt ∧ (sendOn s p pkt).evt =
    s.evt := by
  unfold sendOn
  simp
@[simp] theorem newPacket_keep (s : State) (type dest tspec : Nat) (payload : List Byte) : (newPacket s type dest
    tspec payload).1.pending = s.pending ∧ (newPacket s type dest tspec payload).1.regs = s.regs ∧ (newPacket s type
    dest tspec payload).1.act = s.act ∧ (newPacket s type dest tspec payload).1.lt = s.lt ∧ (newPacket s type dest
    tspec payload).1.synced = s.synced ∧ (newPacket s type dest tspec payload).1.free = s.free ∧ (newPacket s type
    dest tspec payload).1.dram = s.dram ∧ (newPacket s type dest tspec payload).1.scan = s.scan ∧ (newPacket s type
    dest tspec payload).1.pix = s.pix ∧ (newPacket s type dest tspec payload).1.gal = s.gal ∧ (newPacket s type dest
    tspec payload).1.eng = s.eng ∧ (newPacket s type dest tspec payload).1.stats = s.stats ∧ (newPacket s type dest
    tspec payload).1.shd = s.shd ∧ (newPacket s type dest tspec payload).1.guard = s.guard ∧ (newPacket s type dest
    tspec payload).1.diag = s.diag ∧ (newPacket s type dest tspec payload).1.cal = s.cal ∧ (newPacket s type dest
    tspec payload).1.mbx = s.mbx ∧ (newPacket s type dest tspec payload).1.io = s.io ∧ (newPacket s type dest tspec
    payload).1.pins = s.pins ∧ (newPacket s type dest tspec payload).1.aux = s.aux ∧ (newPacket s type dest tspec
    payload).1.clk = s.clk ∧ (newPacket s type dest tspec payload).1.pwr = s.pwr ∧ (newPacket s type dest tspec
    payload).1.boot = s.boot ∧ (newPacket s type dest tspec payload).1.thm = s.thm ∧ (newPacket s type dest tspec
    payload).1.ddr = s.ddr ∧ (newPacket s type dest tspec payload).1.mram = s.mram ∧ (newPacket s type dest tspec
    payload).1.flash = s.flash ∧ (newPacket s type dest tspec payload).1.flt = s.flt ∧ (newPacket s type dest tspec
    payload).1.evt = s.evt := by
  unfold newPacket
  simp
@[simp] theorem sendPort_keep (s : State) (p : Nat) (pkt : Packet) : (sendPort s p pkt).pending = s.pending ∧
    (sendPort s p pkt).regs = s.regs ∧ (sendPort s p pkt).act = s.act ∧ (sendPort s p pkt).lt = s.lt ∧ (sendPort s p
    pkt).synced = s.synced ∧ (sendPort s p pkt).free = s.free ∧ (sendPort s p pkt).dram = s.dram ∧ (sendPort s p
    pkt).scan = s.scan ∧ (sendPort s p pkt).pix = s.pix ∧ (sendPort s p pkt).gal = s.gal ∧ (sendPort s p pkt).eng =
    s.eng ∧ (sendPort s p pkt).stats = s.stats ∧ (sendPort s p pkt).shd = s.shd ∧ (sendPort s p pkt).guard = s.guard ∧
    (sendPort s p pkt).diag = s.diag ∧ (sendPort s p pkt).cal = s.cal ∧ (sendPort s p pkt).mbx = s.mbx ∧ (sendPort s p
    pkt).io = s.io ∧ (sendPort s p pkt).pins = s.pins ∧ (sendPort s p pkt).aux = s.aux ∧ (sendPort s p pkt).clk =
    s.clk ∧ (sendPort s p pkt).pwr = s.pwr ∧ (sendPort s p pkt).boot = s.boot ∧ (sendPort s p pkt).thm = s.thm ∧
    (sendPort s p pkt).ddr = s.ddr ∧ (sendPort s p pkt).mram = s.mram ∧ (sendPort s p pkt).flash = s.flash ∧ (sendPort
    s p pkt).flt = s.flt ∧ (sendPort s p pkt).evt = s.evt := by
  unfold sendPort
  simp
@[simp] theorem routeLocal_keep (s : State) (pkt : Packet) : (routeLocal s pkt).pending = s.pending ∧ (routeLocal s
    pkt).regs = s.regs ∧ (routeLocal s pkt).act = s.act ∧ (routeLocal s pkt).lt = s.lt ∧ (routeLocal s pkt).synced =
    s.synced ∧ (routeLocal s pkt).free = s.free ∧ (routeLocal s pkt).dram = s.dram ∧ (routeLocal s pkt).scan = s.scan
    ∧ (routeLocal s pkt).pix = s.pix ∧ (routeLocal s pkt).gal = s.gal ∧ (routeLocal s pkt).eng = s.eng ∧ (routeLocal s
    pkt).stats = s.stats ∧ (routeLocal s pkt).shd = s.shd ∧ (routeLocal s pkt).guard = s.guard ∧ (routeLocal s
    pkt).diag = s.diag ∧ (routeLocal s pkt).cal = s.cal ∧ (routeLocal s pkt).mbx = s.mbx ∧ (routeLocal s pkt).io =
    s.io ∧ (routeLocal s pkt).pins = s.pins ∧ (routeLocal s pkt).aux = s.aux ∧ (routeLocal s pkt).clk = s.clk ∧
    (routeLocal s pkt).pwr = s.pwr ∧ (routeLocal s pkt).boot = s.boot ∧ (routeLocal s pkt).thm = s.thm ∧ (routeLocal s
    pkt).ddr = s.ddr ∧ (routeLocal s pkt).mram = s.mram ∧ (routeLocal s pkt).flash = s.flash ∧ (routeLocal s pkt).flt
    = s.flt ∧ (routeLocal s pkt).evt = s.evt := by
  unfold routeLocal
  simp
@[simp] theorem sendLocal_keep (s : State) (type dest tspec : Nat) (payload : List Byte) : (sendLocal s type dest
    tspec payload).pending = s.pending ∧ (sendLocal s type dest tspec payload).regs = s.regs ∧ (sendLocal s type dest
    tspec payload).act = s.act ∧ (sendLocal s type dest tspec payload).lt = s.lt ∧ (sendLocal s type dest tspec
    payload).synced = s.synced ∧ (sendLocal s type dest tspec payload).free = s.free ∧ (sendLocal s type dest tspec
    payload).dram = s.dram ∧ (sendLocal s type dest tspec payload).scan = s.scan ∧ (sendLocal s type dest tspec
    payload).pix = s.pix ∧ (sendLocal s type dest tspec payload).gal = s.gal ∧ (sendLocal s type dest tspec
    payload).eng = s.eng ∧ (sendLocal s type dest tspec payload).stats = s.stats ∧ (sendLocal s type dest tspec
    payload).shd = s.shd ∧ (sendLocal s type dest tspec payload).guard = s.guard ∧ (sendLocal s type dest tspec
    payload).diag = s.diag ∧ (sendLocal s type dest tspec payload).cal = s.cal ∧ (sendLocal s type dest tspec
    payload).mbx = s.mbx ∧ (sendLocal s type dest tspec payload).io = s.io ∧ (sendLocal s type dest tspec
    payload).pins = s.pins ∧ (sendLocal s type dest tspec payload).aux = s.aux ∧ (sendLocal s type dest tspec
    payload).clk = s.clk ∧ (sendLocal s type dest tspec payload).pwr = s.pwr ∧ (sendLocal s type dest tspec
    payload).boot = s.boot ∧ (sendLocal s type dest tspec payload).thm = s.thm ∧ (sendLocal s type dest tspec
    payload).ddr = s.ddr ∧ (sendLocal s type dest tspec payload).mram = s.mram ∧ (sendLocal s type dest tspec
    payload).flash = s.flash ∧ (sendLocal s type dest tspec payload).flt = s.flt ∧ (sendLocal s type dest tspec
    payload).evt = s.evt := by
  unfold sendLocal
  simp
@[simp] theorem sendPortNew_keep (s : State) (p type dest tspec : Nat) (payload : List Byte) : (sendPortNew s p type
    dest tspec payload).pending = s.pending ∧ (sendPortNew s p type dest tspec payload).regs = s.regs ∧ (sendPortNew s
    p type dest tspec payload).act = s.act ∧ (sendPortNew s p type dest tspec payload).lt = s.lt ∧ (sendPortNew s p
    type dest tspec payload).synced = s.synced ∧ (sendPortNew s p type dest tspec payload).free = s.free ∧
    (sendPortNew s p type dest tspec payload).dram = s.dram ∧ (sendPortNew s p type dest tspec payload).scan = s.scan
    ∧ (sendPortNew s p type dest tspec payload).pix = s.pix ∧ (sendPortNew s p type dest tspec payload).gal = s.gal ∧
    (sendPortNew s p type dest tspec payload).eng = s.eng ∧ (sendPortNew s p type dest tspec payload).stats = s.stats
    ∧ (sendPortNew s p type dest tspec payload).shd = s.shd ∧ (sendPortNew s p type dest tspec payload).guard =
    s.guard ∧ (sendPortNew s p type dest tspec payload).diag = s.diag ∧ (sendPortNew s p type dest tspec payload).cal
    = s.cal ∧ (sendPortNew s p type dest tspec payload).mbx = s.mbx ∧ (sendPortNew s p type dest tspec payload).io =
    s.io ∧ (sendPortNew s p type dest tspec payload).pins = s.pins ∧ (sendPortNew s p type dest tspec payload).aux =
    s.aux ∧ (sendPortNew s p type dest tspec payload).clk = s.clk ∧ (sendPortNew s p type dest tspec payload).pwr =
    s.pwr ∧ (sendPortNew s p type dest tspec payload).boot = s.boot ∧ (sendPortNew s p type dest tspec payload).thm =
    s.thm ∧ (sendPortNew s p type dest tspec payload).ddr = s.ddr ∧ (sendPortNew s p type dest tspec payload).mram =
    s.mram ∧ (sendPortNew s p type dest tspec payload).flash = s.flash ∧ (sendPortNew s p type dest tspec payload).flt
    = s.flt ∧ (sendPortNew s p type dest tspec payload).evt = s.evt := by
  unfold sendPortNew
  simp
@[simp] theorem rspDropped_keep (s : State) (pkt : Packet) : (rspDropped s pkt).pending = s.pending ∧ (rspDropped s
    pkt).act = s.act ∧ (rspDropped s pkt).lt = s.lt ∧ (rspDropped s pkt).synced = s.synced ∧ (rspDropped s pkt).free =
    s.free ∧ (rspDropped s pkt).dram = s.dram ∧ (rspDropped s pkt).scan = s.scan ∧ (rspDropped s pkt).pix = s.pix ∧
    (rspDropped s pkt).gal = s.gal ∧ (rspDropped s pkt).eng = s.eng ∧ (rspDropped s pkt).stats = s.stats ∧ (rspDropped
    s pkt).shd = s.shd ∧ (rspDropped s pkt).guard = s.guard ∧ (rspDropped s pkt).diag = s.diag ∧ (rspDropped s
    pkt).cal = s.cal ∧ (rspDropped s pkt).net = s.net ∧ (rspDropped s pkt).io = s.io ∧ (rspDropped s pkt).pins =
    s.pins ∧ (rspDropped s pkt).aux = s.aux ∧ (rspDropped s pkt).clk = s.clk ∧ (rspDropped s pkt).pwr = s.pwr ∧
    (rspDropped s pkt).boot = s.boot ∧ (rspDropped s pkt).thm = s.thm ∧ (rspDropped s pkt).ddr = s.ddr ∧ (rspDropped s
    pkt).mram = s.mram ∧ (rspDropped s pkt).flash = s.flash ∧ (rspDropped s pkt).flt = s.flt ∧ (rspDropped s pkt).evt
    = s.evt := by
  unfold rspDropped
  simp
def rspDroppedRegs : List Field := [MBX.RSP_LOST.COUNT]
@[simp] theorem rspDropped_word {key : Nat} (hk : Outside rspDroppedRegs key) (s : State) (pkt : Packet)  : wordAt
    (rspDropped s pkt).regs key = wordAt s.regs key := by
  simp only [rspDroppedRegs, outside_append, outside_cons, outside_nil, and_true] at hk
  unfold rspDropped
  simp [hk]
@[simp] theorem stompLocal_keep (s : State) (p : Nat) : (stompLocal s p).pending = s.pending ∧ (stompLocal s p).act =
    s.act ∧ (stompLocal s p).lt = s.lt ∧ (stompLocal s p).synced = s.synced ∧ (stompLocal s p).free = s.free ∧
    (stompLocal s p).dram = s.dram ∧ (stompLocal s p).scan = s.scan ∧ (stompLocal s p).pix = s.pix ∧ (stompLocal s
    p).gal = s.gal ∧ (stompLocal s p).eng = s.eng ∧ (stompLocal s p).stats = s.stats ∧ (stompLocal s p).shd = s.shd ∧
    (stompLocal s p).guard = s.guard ∧ (stompLocal s p).diag = s.diag ∧ (stompLocal s p).cal = s.cal ∧ (stompLocal s
    p).io = s.io ∧ (stompLocal s p).pins = s.pins ∧ (stompLocal s p).aux = s.aux ∧ (stompLocal s p).clk = s.clk ∧
    (stompLocal s p).pwr = s.pwr ∧ (stompLocal s p).boot = s.boot ∧ (stompLocal s p).thm = s.thm ∧ (stompLocal s
    p).ddr = s.ddr ∧ (stompLocal s p).mram = s.mram ∧ (stompLocal s p).flash = s.flash ∧ (stompLocal s p).flt = s.flt
    ∧ (stompLocal s p).evt = s.evt := by
  unfold stompLocal
  split <;> simp
def stompLocalRegs : List Field := rspDroppedRegs ++ allOf 2 TX.LOCAL_DROP
@[simp] theorem stompLocal_word {key : Nat} (hk : Outside stompLocalRegs key) (s : State) (p : Nat)  : wordAt
    (stompLocal s p).regs key = wordAt s.regs key := by
  simp only [stompLocalRegs, outside_append, outside_cons, outside_nil, and_true, outside_TX_LOCAL_DROP] at hk
  unfold stompLocal
  split <;> simp [hk]
@[simp] theorem portDisable_keep (s : State) (p : Nat) : (portDisable s p).pending = s.pending ∧ (portDisable s p).act
    = s.act ∧ (portDisable s p).lt = s.lt ∧ (portDisable s p).synced = s.synced ∧ (portDisable s p).free = s.free ∧
    (portDisable s p).dram = s.dram ∧ (portDisable s p).pix = s.pix ∧ (portDisable s p).gal = s.gal ∧ (portDisable s
    p).eng = s.eng ∧ (portDisable s p).stats = s.stats ∧ (portDisable s p).shd = s.shd ∧ (portDisable s p).guard =
    s.guard ∧ (portDisable s p).diag = s.diag ∧ (portDisable s p).cal = s.cal ∧ (portDisable s p).mbx = s.mbx ∧
    (portDisable s p).io = s.io ∧ (portDisable s p).pins = s.pins ∧ (portDisable s p).aux = s.aux ∧ (portDisable s
    p).clk = s.clk ∧ (portDisable s p).pwr = s.pwr ∧ (portDisable s p).boot = s.boot ∧ (portDisable s p).thm = s.thm ∧
    (portDisable s p).ddr = s.ddr ∧ (portDisable s p).mram = s.mram ∧ (portDisable s p).flash = s.flash ∧ (portDisable
    s p).evt = s.evt := by
  unfold portDisable
  simp
def portDisableRegs : List Field := linkLostRegs ++ allOf 2 TX.CTRL.EN ++ allOf 2 TX.STATUS.STATE
@[simp] theorem portDisable_word {key : Nat} (hk : Outside portDisableRegs key) (s : State) (p : Nat)  : wordAt
    (portDisable s p).regs key = wordAt s.regs key := by
  simp only [portDisableRegs, outside_append, outside_cons, outside_nil, and_true, outside_TX_CTRL_EN, outside_TX_STATUS_STATE] at hk
  unfold portDisable
  simp [hk]
@[simp] theorem quarantine_keep (s : State) (p : Nat) : (quarantine s p).pending = s.pending ∧ (quarantine s p).act =
    s.act ∧ (quarantine s p).lt = s.lt ∧ (quarantine s p).synced = s.synced ∧ (quarantine s p).free = s.free ∧
    (quarantine s p).dram = s.dram ∧ (quarantine s p).pix = s.pix ∧ (quarantine s p).gal = s.gal ∧ (quarantine s
    p).eng = s.eng ∧ (quarantine s p).stats = s.stats ∧ (quarantine s p).shd = s.shd ∧ (quarantine s p).guard =
    s.guard ∧ (quarantine s p).diag = s.diag ∧ (quarantine s p).cal = s.cal ∧ (quarantine s p).mbx = s.mbx ∧
    (quarantine s p).io = s.io ∧ (quarantine s p).pins = s.pins ∧ (quarantine s p).aux = s.aux ∧ (quarantine s p).clk
    = s.clk ∧ (quarantine s p).pwr = s.pwr ∧ (quarantine s p).boot = s.boot ∧ (quarantine s p).thm = s.thm ∧
    (quarantine s p).ddr = s.ddr ∧ (quarantine s p).mram = s.mram ∧ (quarantine s p).flash = s.flash ∧ (quarantine s
    p).evt = s.evt := by
  unfold quarantine
  simp
def quarantineRegs : List Field := linkLostRegs ++ raiseFaultRegs ++ allOf 2 TX.QUAR_COUNT ++ allOf 2 TX.STATUS.QUAR
    ++ allOf 2 TX.STATUS.STATE
@[simp] theorem quarantine_word {key : Nat} (hk : Outside quarantineRegs key) (s : State) (p : Nat)  : wordAt
    (quarantine s p).regs key = wordAt s.regs key := by
  simp only [quarantineRegs, outside_append, outside_cons, outside_nil, and_true, outside_TX_QUAR_COUNT, outside_TX_STATUS_QUAR, outside_TX_STATUS_STATE] at hk
  unfold quarantine
  simp [hk]
@[simp] theorem badPacket_keep (s : State) (p : Nat) : (badPacket s p).pending = s.pending ∧ (badPacket s p).act =
    s.act ∧ (badPacket s p).lt = s.lt ∧ (badPacket s p).synced = s.synced ∧ (badPacket s p).free = s.free ∧ (badPacket
    s p).dram = s.dram ∧ (badPacket s p).pix = s.pix ∧ (badPacket s p).gal = s.gal ∧ (badPacket s p).eng = s.eng ∧
    (badPacket s p).stats = s.stats ∧ (badPacket s p).shd = s.shd ∧ (badPacket s p).guard = s.guard ∧ (badPacket s
    p).diag = s.diag ∧ (badPacket s p).cal = s.cal ∧ (badPacket s p).mbx = s.mbx ∧ (badPacket s p).io = s.io ∧
    (badPacket s p).pins = s.pins ∧ (badPacket s p).aux = s.aux ∧ (badPacket s p).clk = s.clk ∧ (badPacket s p).pwr =
    s.pwr ∧ (badPacket s p).boot = s.boot ∧ (badPacket s p).thm = s.thm ∧ (badPacket s p).ddr = s.ddr ∧ (badPacket s
    p).mram = s.mram ∧ (badPacket s p).flash = s.flash ∧ (badPacket s p).evt = s.evt := by
  unfold badPacket
  simp
def badPacketRegs : List Field := quarantineRegs
@[simp] theorem badPacket_word {key : Nat} (hk : Outside badPacketRegs key) (s : State) (p : Nat)  : wordAt (badPacket
    s p).regs key = wordAt s.regs key := by
  simp only [badPacketRegs, outside_append, outside_cons, outside_nil, and_true] at hk
  unfold badPacket
  simp [hk]
@[simp] theorem note_keep (s : State) (p : Nat) (a : Arrival) : (note s p a).pending = s.pending ∧ (note s p a).regs =
    s.regs ∧ (note s p a).act = s.act ∧ (note s p a).lt = s.lt ∧ (note s p a).synced = s.synced ∧ (note s p a).free =
    s.free ∧ (note s p a).dram = s.dram ∧ (note s p a).scan = s.scan ∧ (note s p a).pix = s.pix ∧ (note s p a).gal =
    s.gal ∧ (note s p a).eng = s.eng ∧ (note s p a).stats = s.stats ∧ (note s p a).shd = s.shd ∧ (note s p a).guard =
    s.guard ∧ (note s p a).diag = s.diag ∧ (note s p a).cal = s.cal ∧ (note s p a).mbx = s.mbx ∧ (note s p a).io =
    s.io ∧ (note s p a).pins = s.pins ∧ (note s p a).aux = s.aux ∧ (note s p a).clk = s.clk ∧ (note s p a).pwr = s.pwr
    ∧ (note s p a).boot = s.boot ∧ (note s p a).thm = s.thm ∧ (note s p a).ddr = s.ddr ∧ (note s p a).mram = s.mram ∧
    (note s p a).flash = s.flash ∧ (note s p a).flt = s.flt ∧ (note s p a).evt = s.evt := by
  unfold note
  simp
@[simp] theorem beginForward_keep (s : State) (p q len : Nat) : (beginForward s p q len).pending = s.pending ∧
    (beginForward s p q len).act = s.act ∧ (beginForward s p q len).lt = s.lt ∧ (beginForward s p q len).synced =
    s.synced ∧ (beginForward s p q len).free = s.free ∧ (beginForward s p q len).dram = s.dram ∧ (beginForward s p q
    len).scan = s.scan ∧ (beginForward s p q len).pix = s.pix ∧ (beginForward s p q len).gal = s.gal ∧ (beginForward s
    p q len).eng = s.eng ∧ (beginForward s p q len).stats = s.stats ∧ (beginForward s p q len).shd = s.shd ∧
    (beginForward s p q len).guard = s.guard ∧ (beginForward s p q len).diag = s.diag ∧ (beginForward s p q len).cal =
    s.cal ∧ (beginForward s p q len).io = s.io ∧ (beginForward s p q len).pins = s.pins ∧ (beginForward s p q len).aux
    = s.aux ∧ (beginForward s p q len).clk = s.clk ∧ (beginForward s p q len).pwr = s.pwr ∧ (beginForward s p q
    len).boot = s.boot ∧ (beginForward s p q len).thm = s.thm ∧ (beginForward s p q len).ddr = s.ddr ∧ (beginForward s
    p q len).mram = s.mram ∧ (beginForward s p q len).flash = s.flash ∧ (beginForward s p q len).flt = s.flt ∧
    (beginForward s p q len).evt = s.evt := by
  unfold beginForward
  simp
def beginForwardRegs : List Field := stompLocalRegs
@[simp] theorem beginForward_word {key : Nat} (hk : Outside beginForwardRegs key) (s : State) (p q len : Nat)  :
    wordAt (beginForward s p q len).regs key = wordAt s.regs key := by
  simp only [beginForwardRegs, outside_append, outside_cons, outside_nil, and_true] at hk
  unfold beginForward
  simp [hk]
@[simp] theorem judgeHeader_keep (s : State) (p : Nat) (h : Header) : (judgeHeader s p h).pending = s.pending ∧
    (judgeHeader s p h).act = s.act ∧ (judgeHeader s p h).lt = s.lt ∧ (judgeHeader s p h).synced = s.synced ∧
    (judgeHeader s p h).free = s.free ∧ (judgeHeader s p h).dram = s.dram ∧ (judgeHeader s p h).pix = s.pix ∧
    (judgeHeader s p h).gal = s.gal ∧ (judgeHeader s p h).eng = s.eng ∧ (judgeHeader s p h).stats = s.stats ∧
    (judgeHeader s p h).shd = s.shd ∧ (judgeHeader s p h).guard = s.guard ∧ (judgeHeader s p h).diag = s.diag ∧
    (judgeHeader s p h).cal = s.cal ∧ (judgeHeader s p h).io = s.io ∧ (judgeHeader s p h).pins = s.pins ∧ (judgeHeader
    s p h).aux = s.aux ∧ (judgeHeader s p h).clk = s.clk ∧ (judgeHeader s p h).pwr = s.pwr ∧ (judgeHeader s p h).boot
    = s.boot ∧ (judgeHeader s p h).thm = s.thm ∧ (judgeHeader s p h).ddr = s.ddr ∧ (judgeHeader s p h).mram = s.mram ∧
    (judgeHeader s p h).flash = s.flash ∧ (judgeHeader s p h).evt = s.evt := by
  unfold judgeHeader
  (try simp) <;> (repeat' apply And.intro) <;> (repeat' split) <;> (try simp)
def judgeHeaderRegs : List Field := badPacketRegs ++ beginForwardRegs ++ allOf 2 TX.FWD_DROP ++ allOf 2 TX.MALFORMED
    ++ allOf 2 TX.ORPHAN ++ allOf 2 TX.WRAP_DROP
@[simp] theorem judgeHeader_word {key : Nat} (hk : Outside judgeHeaderRegs key) (s : State) (p : Nat) (h : Header)  :
    wordAt (judgeHeader s p h).regs key = wordAt s.regs key := by
  simp only [judgeHeaderRegs, outside_append, outside_cons, outside_nil, and_true, outside_TX_FWD_DROP, outside_TX_MALFORMED, outside_TX_ORPHAN, outside_TX_WRAP_DROP] at hk
  unfold judgeHeader
  simp only []; (repeat' split) <;> (try simp [hk])
@[simp] theorem consumePacket_keep (s : State) (p : Nat) (h : Header) (payload : List Byte) (rx : Nat) :
    (consumePacket s p h payload rx).pending = s.pending ∧ (consumePacket s p h payload rx).act = s.act ∧
    (consumePacket s p h payload rx).lt = s.lt ∧ (consumePacket s p h payload rx).synced = s.synced ∧ (consumePacket s
    p h payload rx).free = s.free ∧ (consumePacket s p h payload rx).dram = s.dram ∧ (consumePacket s p h payload
    rx).pix = s.pix ∧ (consumePacket s p h payload rx).gal = s.gal ∧ (consumePacket s p h payload rx).eng = s.eng ∧
    (consumePacket s p h payload rx).stats = s.stats ∧ (consumePacket s p h payload rx).shd = s.shd ∧ (consumePacket s
    p h payload rx).guard = s.guard ∧ (consumePacket s p h payload rx).diag = s.diag ∧ (consumePacket s p h payload
    rx).cal = s.cal ∧ (consumePacket s p h payload rx).mbx = s.mbx ∧ (consumePacket s p h payload rx).io = s.io ∧
    (consumePacket s p h payload rx).pins = s.pins ∧ (consumePacket s p h payload rx).aux = s.aux ∧ (consumePacket s p
    h payload rx).clk = s.clk ∧ (consumePacket s p h payload rx).pwr = s.pwr ∧ (consumePacket s p h payload rx).boot =
    s.boot ∧ (consumePacket s p h payload rx).thm = s.thm ∧ (consumePacket s p h payload rx).ddr = s.ddr ∧
    (consumePacket s p h payload rx).mram = s.mram ∧ (consumePacket s p h payload rx).flash = s.flash ∧ (consumePacket
    s p h payload rx).evt = s.evt := by
  unfold consumePacket
  (try simp) <;> (repeat' apply And.intro) <;> (repeat' split) <;> (try simp)
def consumePacketRegs : List Field := badPacketRegs ++ allOf 2 TX.MALFORMED ++ allOf 2 TX.RATE_DROP ++ allOf 2
    TX.UNTRUSTED
@[simp] theorem consumePacket_word {key : Nat} (hk : Outside consumePacketRegs key) (s : State) (p : Nat) (h : Header)
    (payload : List Byte) (rx : Nat)  : wordAt (consumePacket s p h payload rx).regs key = wordAt s.regs key := by
  simp only [consumePacketRegs, outside_append, outside_cons, outside_nil, and_true, outside_TX_MALFORMED, outside_TX_RATE_DROP, outside_TX_UNTRUSTED] at hk
  unfold consumePacket
  (repeat' split) <;> (try simp [hk])
@[simp] theorem endForward_keep (s : State) (a : Arrival) (payload : List Byte) (bad : Bool) : (endForward s a payload
    bad).pending = s.pending ∧ (endForward s a payload bad).regs = s.regs ∧ (endForward s a payload bad).act = s.act ∧
    (endForward s a payload bad).lt = s.lt ∧ (endForward s a payload bad).synced = s.synced ∧ (endForward s a payload
    bad).free = s.free ∧ (endForward s a payload bad).dram = s.dram ∧ (endForward s a payload bad).scan = s.scan ∧
    (endForward s a payload bad).pix = s.pix ∧ (endForward s a payload bad).gal = s.gal ∧ (endForward s a payload
    bad).eng = s.eng ∧ (endForward s a payload bad).stats = s.stats ∧ (endForward s a payload bad).shd = s.shd ∧
    (endForward s a payload bad).guard = s.guard ∧ (endForward s a payload bad).diag = s.diag ∧ (endForward s a
    payload bad).cal = s.cal ∧ (endForward s a payload bad).mbx = s.mbx ∧ (endForward s a payload bad).io = s.io ∧
    (endForward s a payload bad).pins = s.pins ∧ (endForward s a payload bad).aux = s.aux ∧ (endForward s a payload
    bad).clk = s.clk ∧ (endForward s a payload bad).pwr = s.pwr ∧ (endForward s a payload bad).boot = s.boot ∧
    (endForward s a payload bad).thm = s.thm ∧ (endForward s a payload bad).ddr = s.ddr ∧ (endForward s a payload
    bad).mram = s.mram ∧ (endForward s a payload bad).flash = s.flash ∧ (endForward s a payload bad).flt = s.flt ∧
    (endForward s a payload bad).evt = s.evt := by
  unfold endForward
  split <;> simp
@[simp] theorem endPacket_keep (s : State) (p : Nat) (payload : List Byte) (crc : Word) (ending : PacketEnding) :
    (endPacket s p payload crc ending).pending = s.pending ∧ (endPacket s p payload crc ending).act = s.act ∧
    (endPacket s p payload crc ending).lt = s.lt ∧ (endPacket s p payload crc ending).synced = s.synced ∧ (endPacket s
    p payload crc ending).free = s.free ∧ (endPacket s p payload crc ending).dram = s.dram ∧ (endPacket s p payload
    crc ending).pix = s.pix ∧ (endPacket s p payload crc ending).gal = s.gal ∧ (endPacket s p payload crc ending).eng
    = s.eng ∧ (endPacket s p payload crc ending).stats = s.stats ∧ (endPacket s p payload crc ending).shd = s.shd ∧
    (endPacket s p payload crc ending).guard = s.guard ∧ (endPacket s p payload crc ending).diag = s.diag ∧ (endPacket
    s p payload crc ending).cal = s.cal ∧ (endPacket s p payload crc ending).mbx = s.mbx ∧ (endPacket s p payload crc
    ending).io = s.io ∧ (endPacket s p payload crc ending).pins = s.pins ∧ (endPacket s p payload crc ending).aux =
    s.aux ∧ (endPacket s p payload crc ending).clk = s.clk ∧ (endPacket s p payload crc ending).pwr = s.pwr ∧
    (endPacket s p payload crc ending).boot = s.boot ∧ (endPacket s p payload crc ending).thm = s.thm ∧ (endPacket s p
    payload crc ending).ddr = s.ddr ∧ (endPacket s p payload crc ending).mram = s.mram ∧ (endPacket s p payload crc
    ending).flash = s.flash ∧ (endPacket s p payload crc ending).evt = s.evt := by
  unfold endPacket
  split <;> simp
def endPacketRegs : List Field := badPacketRegs ++ consumePacketRegs ++ allOf 2 TX.CRC_ERR ++ allOf 2 TX.MALFORMED ++
    allOf 2 TX.STOMP_RX
@[simp] theorem endPacket_word {key : Nat} (hk : Outside endPacketRegs key) (s : State) (p : Nat) (payload : List
    Byte) (crc : Word) (ending : PacketEnding)  : wordAt (endPacket s p payload crc ending).regs key = wordAt s.regs
    key := by
  simp only [endPacketRegs, outside_append, outside_cons, outside_nil, and_true, outside_TX_CRC_ERR, outside_TX_MALFORMED, outside_TX_STOMP_RX] at hk
  unfold endPacket
  split <;> simp [hk]
@[simp] theorem applyRecords_keep (batch : Bool) (s : State) (i : Nat) (l : List (List Byte)) : (applyRecords batch s
    i l).1.pending = s.pending ∧ (applyRecords batch s i l).1.act = s.act ∧ (applyRecords batch s i l).1.lt = s.lt ∧
    (applyRecords batch s i l).1.synced = s.synced ∧ (applyRecords batch s i l).1.free = s.free ∧ (applyRecords batch
    s i l).1.dram = s.dram ∧ (applyRecords batch s i l).1.pix = s.pix ∧ (applyRecords batch s i l).1.gal = s.gal ∧
    (applyRecords batch s i l).1.eng = s.eng ∧ (applyRecords batch s i l).1.stats = s.stats ∧ (applyRecords batch s i
    l).1.guard = s.guard ∧ (applyRecords batch s i l).1.diag = s.diag ∧ (applyRecords batch s i l).1.cal = s.cal ∧
    (applyRecords batch s i l).1.net = s.net ∧ (applyRecords batch s i l).1.mbx = s.mbx ∧ (applyRecords batch s i
    l).1.io = s.io ∧ (applyRecords batch s i l).1.pins = s.pins ∧ (applyRecords batch s i l).1.aux = s.aux ∧
    (applyRecords batch s i l).1.clk = s.clk ∧ (applyRecords batch s i l).1.pwr = s.pwr ∧ (applyRecords batch s i
    l).1.boot = s.boot ∧ (applyRecords batch s i l).1.thm = s.thm ∧ (applyRecords batch s i l).1.ddr = s.ddr ∧
    (applyRecords batch s i l).1.mram = s.mram ∧ (applyRecords batch s i l).1.flash = s.flash ∧ (applyRecords batch s
    i l).1.evt = s.evt := by
  induction l generalizing s i with
  | nil => simp [applyRecords]
  | cons b t ih =>
    simp only [applyRecords]
    (repeat' split) <;> simp [ih]

def applyRecordsRegs : List Field := acceptRecordRegs

@[simp] theorem applyRecords_word {key : Nat} (hk : Outside applyRecordsRegs key) (batch : Bool) (s : State) (i : Nat)
    (l : List (List Byte)) : wordAt (applyRecords batch s i l).1.regs key = wordAt s.regs key := by
  have h1 : Outside acceptRecordRegs key := hk
  induction l generalizing s i with
  | nil => simp [applyRecords]
  | cons b t ih =>
    simp only [applyRecords]
    (repeat' split) <;> simp [ih, h1]
theorem takePacket_net {s t : State} {p n : Nat} {k : Packet} {r : Nat} (e : takePacket s p n = some (t, k, r)) :
    t = { s with net := t.net } := by
  unfold takePacket at e
  (repeat' split at e) <;> first | (cases e; rfl) | cases e

@[simp] theorem takeAddress_keep (s : State) (a : Nat) : (takeAddress s a).pending = s.pending ∧ (takeAddress s a).act
    = s.act ∧ (takeAddress s a).lt = s.lt ∧ (takeAddress s a).synced = s.synced ∧ (takeAddress s a).free = s.free ∧
    (takeAddress s a).dram = s.dram ∧ (takeAddress s a).scan = s.scan ∧ (takeAddress s a).pix = s.pix ∧ (takeAddress s
    a).gal = s.gal ∧ (takeAddress s a).eng = s.eng ∧ (takeAddress s a).stats = s.stats ∧ (takeAddress s a).shd = s.shd
    ∧ (takeAddress s a).guard = s.guard ∧ (takeAddress s a).diag = s.diag ∧ (takeAddress s a).cal = s.cal ∧
    (takeAddress s a).net = s.net ∧ (takeAddress s a).mbx = s.mbx ∧ (takeAddress s a).io = s.io ∧ (takeAddress s
    a).pins = s.pins ∧ (takeAddress s a).aux = s.aux ∧ (takeAddress s a).clk = s.clk ∧ (takeAddress s a).pwr = s.pwr ∧
    (takeAddress s a).boot = s.boot ∧ (takeAddress s a).thm = s.thm ∧ (takeAddress s a).ddr = s.ddr ∧ (takeAddress s
    a).mram = s.mram ∧ (takeAddress s a).flash = s.flash ∧ (takeAddress s a).flt = s.flt ∧ (takeAddress s a).evt =
    s.evt := by
  unfold takeAddress
  simp
def takeAddressRegs : List Field := [TXLA.NODE.ADDR, TXLA.NODE.ADDR_VALID]
@[simp] theorem takeAddress_word {key : Nat} (hk : Outside takeAddressRegs key) (s : State) (a : Nat)  : wordAt
    (takeAddress s a).regs key = wordAt s.regs key := by
  simp only [takeAddressRegs, outside_append, outside_cons, outside_nil, and_true] at hk
  unfold takeAddress
  simp [hk]
@[simp] theorem wrapFor_keep (ring : Bool) (s : State) (p : Nat) : (wrapFor ring s p).pending = s.pending ∧ (wrapFor
    ring s p).act = s.act ∧ (wrapFor ring s p).lt = s.lt ∧ (wrapFor ring s p).synced = s.synced ∧ (wrapFor ring s
    p).free = s.free ∧ (wrapFor ring s p).dram = s.dram ∧ (wrapFor ring s p).scan = s.scan ∧ (wrapFor ring s p).pix =
    s.pix ∧ (wrapFor ring s p).gal = s.gal ∧ (wrapFor ring s p).eng = s.eng ∧ (wrapFor ring s p).stats = s.stats ∧
    (wrapFor ring s p).shd = s.shd ∧ (wrapFor ring s p).guard = s.guard ∧ (wrapFor ring s p).diag = s.diag ∧ (wrapFor
    ring s p).cal = s.cal ∧ (wrapFor ring s p).net = s.net ∧ (wrapFor ring s p).mbx = s.mbx ∧ (wrapFor ring s p).io =
    s.io ∧ (wrapFor ring s p).pins = s.pins ∧ (wrapFor ring s p).aux = s.aux ∧ (wrapFor ring s p).clk = s.clk ∧
    (wrapFor ring s p).pwr = s.pwr ∧ (wrapFor ring s p).boot = s.boot ∧ (wrapFor ring s p).thm = s.thm ∧ (wrapFor ring
    s p).ddr = s.ddr ∧ (wrapFor ring s p).mram = s.mram ∧ (wrapFor ring s p).flash = s.flash ∧ (wrapFor ring s p).evt
    = s.evt := by
  unfold wrapFor
  simp
def wrapForRegs : List Field := allOf 2 TX.STATUS.WRAP
@[simp] theorem wrapFor_word {key : Nat} (hk : Outside wrapForRegs key) (ring : Bool) (s : State) (p : Nat)  : wordAt
    (wrapFor ring s p).regs key = wordAt s.regs key := by
  simp only [wrapForRegs, outside_append, outside_cons, outside_nil, and_true, outside_TX_STATUS_WRAP] at hk
  unfold wrapFor
  simp [hk]
@[simp] theorem recordTopo_keep (s : State) (e : EnumBody) : (recordTopo s e).pending = s.pending ∧ (recordTopo s
    e).act = s.act ∧ (recordTopo s e).lt = s.lt ∧ (recordTopo s e).synced = s.synced ∧ (recordTopo s e).free = s.free
    ∧ (recordTopo s e).dram = s.dram ∧ (recordTopo s e).scan = s.scan ∧ (recordTopo s e).pix = s.pix ∧ (recordTopo s
    e).gal = s.gal ∧ (recordTopo s e).eng = s.eng ∧ (recordTopo s e).stats = s.stats ∧ (recordTopo s e).shd = s.shd ∧
    (recordTopo s e).guard = s.guard ∧ (recordTopo s e).diag = s.diag ∧ (recordTopo s e).cal = s.cal ∧ (recordTopo s
    e).mbx = s.mbx ∧ (recordTopo s e).io = s.io ∧ (recordTopo s e).pins = s.pins ∧ (recordTopo s e).aux = s.aux ∧
    (recordTopo s e).clk = s.clk ∧ (recordTopo s e).pwr = s.pwr ∧ (recordTopo s e).boot = s.boot ∧ (recordTopo s
    e).thm = s.thm ∧ (recordTopo s e).ddr = s.ddr ∧ (recordTopo s e).mram = s.mram ∧ (recordTopo s e).flash = s.flash
    ∧ (recordTopo s e).evt = s.evt := by
  unfold recordTopo
  simp
def recordTopoRegs : List Field := wrapForRegs ++ [TXLA.NODE.NODES, TXLA.NODE.TOPO]
@[simp] theorem recordTopo_word {key : Nat} (hk : Outside recordTopoRegs key) (s : State) (e : EnumBody)  : wordAt
    (recordTopo s e).regs key = wordAt s.regs key := by
  simp only [recordTopoRegs, outside_append, outside_cons, outside_nil, and_true] at hk
  unfold recordTopo
  simp [hk]
@[simp] theorem broadcastTopo_keep (s : State) (e : EnumBody) : (broadcastTopo s e).pending = s.pending ∧
    (broadcastTopo s e).act = s.act ∧ (broadcastTopo s e).lt = s.lt ∧ (broadcastTopo s e).synced = s.synced ∧
    (broadcastTopo s e).free = s.free ∧ (broadcastTopo s e).dram = s.dram ∧ (broadcastTopo s e).scan = s.scan ∧
    (broadcastTopo s e).pix = s.pix ∧ (broadcastTopo s e).gal = s.gal ∧ (broadcastTopo s e).eng = s.eng ∧
    (broadcastTopo s e).stats = s.stats ∧ (broadcastTopo s e).shd = s.shd ∧ (broadcastTopo s e).guard = s.guard ∧
    (broadcastTopo s e).diag = s.diag ∧ (broadcastTopo s e).cal = s.cal ∧ (broadcastTopo s e).mbx = s.mbx ∧
    (broadcastTopo s e).io = s.io ∧ (broadcastTopo s e).pins = s.pins ∧ (broadcastTopo s e).aux = s.aux ∧
    (broadcastTopo s e).clk = s.clk ∧ (broadcastTopo s e).pwr = s.pwr ∧ (broadcastTopo s e).boot = s.boot ∧
    (broadcastTopo s e).thm = s.thm ∧ (broadcastTopo s e).ddr = s.ddr ∧ (broadcastTopo s e).mram = s.mram ∧
    (broadcastTopo s e).flash = s.flash ∧ (broadcastTopo s e).evt = s.evt := by
  unfold broadcastTopo
  simp
def broadcastTopoRegs : List Field := recordTopoRegs
@[simp] theorem broadcastTopo_word {key : Nat} (hk : Outside broadcastTopoRegs key) (s : State) (e : EnumBody)  :
    wordAt (broadcastTopo s e).regs key = wordAt s.regs key := by
  simp only [broadcastTopoRegs, outside_append, outside_cons, outside_nil, and_true] at hk
  unfold broadcastTopo
  simp [hk]
@[simp] theorem passEnum_keep (s : State) (e : EnumBody) : (passEnum s e).pending = s.pending ∧ (passEnum s e).regs =
    s.regs ∧ (passEnum s e).act = s.act ∧ (passEnum s e).lt = s.lt ∧ (passEnum s e).synced = s.synced ∧ (passEnum s
    e).free = s.free ∧ (passEnum s e).dram = s.dram ∧ (passEnum s e).scan = s.scan ∧ (passEnum s e).pix = s.pix ∧
    (passEnum s e).gal = s.gal ∧ (passEnum s e).eng = s.eng ∧ (passEnum s e).stats = s.stats ∧ (passEnum s e).shd =
    s.shd ∧ (passEnum s e).guard = s.guard ∧ (passEnum s e).diag = s.diag ∧ (passEnum s e).cal = s.cal ∧ (passEnum s
    e).mbx = s.mbx ∧ (passEnum s e).io = s.io ∧ (passEnum s e).pins = s.pins ∧ (passEnum s e).aux = s.aux ∧ (passEnum
    s e).clk = s.clk ∧ (passEnum s e).pwr = s.pwr ∧ (passEnum s e).boot = s.boot ∧ (passEnum s e).thm = s.thm ∧
    (passEnum s e).ddr = s.ddr ∧ (passEnum s e).mram = s.mram ∧ (passEnum s e).flash = s.flash ∧ (passEnum s e).flt =
    s.flt ∧ (passEnum s e).evt = s.evt := by
  unfold passEnum
  simp
@[simp] theorem takeEnum_keep (s : State) (e : EnumBody) : (takeEnum s e).pending = s.pending ∧ (takeEnum s e).act =
    s.act ∧ (takeEnum s e).lt = s.lt ∧ (takeEnum s e).synced = s.synced ∧ (takeEnum s e).free = s.free ∧ (takeEnum s
    e).dram = s.dram ∧ (takeEnum s e).scan = s.scan ∧ (takeEnum s e).pix = s.pix ∧ (takeEnum s e).gal = s.gal ∧
    (takeEnum s e).eng = s.eng ∧ (takeEnum s e).stats = s.stats ∧ (takeEnum s e).shd = s.shd ∧ (takeEnum s e).guard =
    s.guard ∧ (takeEnum s e).diag = s.diag ∧ (takeEnum s e).cal = s.cal ∧ (takeEnum s e).mbx = s.mbx ∧ (takeEnum s
    e).io = s.io ∧ (takeEnum s e).pins = s.pins ∧ (takeEnum s e).aux = s.aux ∧ (takeEnum s e).clk = s.clk ∧ (takeEnum
    s e).pwr = s.pwr ∧ (takeEnum s e).boot = s.boot ∧ (takeEnum s e).thm = s.thm ∧ (takeEnum s e).ddr = s.ddr ∧
    (takeEnum s e).mram = s.mram ∧ (takeEnum s e).flash = s.flash ∧ (takeEnum s e).evt = s.evt := by
  unfold takeEnum
  simp
def takeEnumRegs : List Field := takeAddressRegs
@[simp] theorem takeEnum_word {key : Nat} (hk : Outside takeEnumRegs key) (s : State) (e : EnumBody)  : wordAt
    (takeEnum s e).regs key = wordAt s.regs key := by
  simp only [takeEnumRegs, outside_append, outside_cons, outside_nil, and_true] at hk
  unfold takeEnum
  simp [hk]
@[simp] theorem nopEnum_keep (p : Port) (s : State) : (nopEnum p s).pending = s.pending ∧ (nopEnum p s).act = s.act ∧
    (nopEnum p s).lt = s.lt ∧ (nopEnum p s).synced = s.synced ∧ (nopEnum p s).free = s.free ∧ (nopEnum p s).dram =
    s.dram ∧ (nopEnum p s).scan = s.scan ∧ (nopEnum p s).pix = s.pix ∧ (nopEnum p s).gal = s.gal ∧ (nopEnum p s).eng =
    s.eng ∧ (nopEnum p s).stats = s.stats ∧ (nopEnum p s).shd = s.shd ∧ (nopEnum p s).guard = s.guard ∧ (nopEnum p
    s).diag = s.diag ∧ (nopEnum p s).cal = s.cal ∧ (nopEnum p s).mbx = s.mbx ∧ (nopEnum p s).io = s.io ∧ (nopEnum p
    s).pins = s.pins ∧ (nopEnum p s).aux = s.aux ∧ (nopEnum p s).clk = s.clk ∧ (nopEnum p s).pwr = s.pwr ∧ (nopEnum p
    s).boot = s.boot ∧ (nopEnum p s).thm = s.thm ∧ (nopEnum p s).ddr = s.ddr ∧ (nopEnum p s).mram = s.mram ∧ (nopEnum
    p s).flash = s.flash ∧ (nopEnum p s).evt = s.evt := by
  unfold nopEnum
  split
  · simp
  · next e =>
    rw [takePacket_net e]
    (repeat' apply And.intro) <;> (repeat' split) <;> simp
def nopEnumRegs : List Field := broadcastTopoRegs ++ takeEnumRegs
@[simp] theorem nopEnum_word {key : Nat} (hk : Outside nopEnumRegs key) (p : Port) (s : State)  : wordAt (nopEnum p
    s).regs key = wordAt s.regs key := by
  simp only [nopEnumRegs, outside_append, outside_cons, outside_nil, and_true] at hk
  unfold nopEnum
  split
  · rfl
  · next e =>
    rw [takePacket_net e]
    (repeat' split) <;> simp [hk]
@[simp] theorem nopEnumEnd_keep (p : Port) (s : State) : (nopEnumEnd p s).pending = s.pending ∧ (nopEnumEnd p s).act =
    s.act ∧ (nopEnumEnd p s).lt = s.lt ∧ (nopEnumEnd p s).synced = s.synced ∧ (nopEnumEnd p s).free = s.free ∧
    (nopEnumEnd p s).dram = s.dram ∧ (nopEnumEnd p s).scan = s.scan ∧ (nopEnumEnd p s).pix = s.pix ∧ (nopEnumEnd p
    s).gal = s.gal ∧ (nopEnumEnd p s).eng = s.eng ∧ (nopEnumEnd p s).stats = s.stats ∧ (nopEnumEnd p s).shd = s.shd ∧
    (nopEnumEnd p s).guard = s.guard ∧ (nopEnumEnd p s).diag = s.diag ∧ (nopEnumEnd p s).cal = s.cal ∧ (nopEnumEnd p
    s).mbx = s.mbx ∧ (nopEnumEnd p s).io = s.io ∧ (nopEnumEnd p s).pins = s.pins ∧ (nopEnumEnd p s).aux = s.aux ∧
    (nopEnumEnd p s).clk = s.clk ∧ (nopEnumEnd p s).pwr = s.pwr ∧ (nopEnumEnd p s).boot = s.boot ∧ (nopEnumEnd p
    s).thm = s.thm ∧ (nopEnumEnd p s).ddr = s.ddr ∧ (nopEnumEnd p s).mram = s.mram ∧ (nopEnumEnd p s).flash = s.flash
    ∧ (nopEnumEnd p s).evt = s.evt := by
  unfold nopEnumEnd
  split
  · simp
  · next e =>
    rw [takePacket_net e]
    (repeat' apply And.intro) <;> (repeat' split) <;> simp
def nopEnumEndRegs : List Field := broadcastTopoRegs
@[simp] theorem nopEnumEnd_word {key : Nat} (hk : Outside nopEnumEndRegs key) (p : Port) (s : State)  : wordAt
    (nopEnumEnd p s).regs key = wordAt s.regs key := by
  simp only [nopEnumEndRegs, outside_append, outside_cons, outside_nil, and_true] at hk
  unfold nopEnumEnd
  split
  · rfl
  · next e =>
    rw [takePacket_net e]
    (repeat' split) <;> simp [hk]
@[simp] theorem sendSync_keep (s : State) (p : Nat) : (sendSync s p).pending = s.pending ∧ (sendSync s p).regs =
    s.regs ∧ (sendSync s p).act = s.act ∧ (sendSync s p).lt = s.lt ∧ (sendSync s p).synced = s.synced ∧ (sendSync s
    p).free = s.free ∧ (sendSync s p).dram = s.dram ∧ (sendSync s p).scan = s.scan ∧ (sendSync s p).pix = s.pix ∧
    (sendSync s p).gal = s.gal ∧ (sendSync s p).eng = s.eng ∧ (sendSync s p).stats = s.stats ∧ (sendSync s p).shd =
    s.shd ∧ (sendSync s p).guard = s.guard ∧ (sendSync s p).diag = s.diag ∧ (sendSync s p).cal = s.cal ∧ (sendSync s
    p).mbx = s.mbx ∧ (sendSync s p).io = s.io ∧ (sendSync s p).pins = s.pins ∧ (sendSync s p).aux = s.aux ∧ (sendSync
    s p).clk = s.clk ∧ (sendSync s p).pwr = s.pwr ∧ (sendSync s p).boot = s.boot ∧ (sendSync s p).thm = s.thm ∧
    (sendSync s p).ddr = s.ddr ∧ (sendSync s p).mram = s.mram ∧ (sendSync s p).flash = s.flash ∧ (sendSync s p).flt =
    s.flt ∧ (sendSync s p).evt = s.evt := by
  unfold sendSync
  simp
@[simp] theorem moveLt_keep (s : State) (d : Int) : (moveLt s d).pending = s.pending ∧ (moveLt s d).regs = s.regs ∧
    (moveLt s d).act = s.act ∧ (moveLt s d).synced = s.synced ∧ (moveLt s d).free = s.free ∧ (moveLt s d).dram =
    s.dram ∧ (moveLt s d).scan = s.scan ∧ (moveLt s d).pix = s.pix ∧ (moveLt s d).gal = s.gal ∧ (moveLt s d).eng =
    s.eng ∧ (moveLt s d).stats = s.stats ∧ (moveLt s d).shd = s.shd ∧ (moveLt s d).guard = s.guard ∧ (moveLt s d).diag
    = s.diag ∧ (moveLt s d).cal = s.cal ∧ (moveLt s d).mbx = s.mbx ∧ (moveLt s d).io = s.io ∧ (moveLt s d).pins =
    s.pins ∧ (moveLt s d).aux = s.aux ∧ (moveLt s d).clk = s.clk ∧ (moveLt s d).pwr = s.pwr ∧ (moveLt s d).boot =
    s.boot ∧ (moveLt s d).thm = s.thm ∧ (moveLt s d).ddr = s.ddr ∧ (moveLt s d).mram = s.mram ∧ (moveLt s d).flash =
    s.flash ∧ (moveLt s d).flt = s.flt ∧ (moveLt s d).evt = s.evt := by
  unfold moveLt
  simp
@[simp] theorem chooseSync_keep (s : State) : (chooseSync s).pending = s.pending ∧ (chooseSync s).act = s.act ∧
    (chooseSync s).lt = s.lt ∧ (chooseSync s).synced = s.synced ∧ (chooseSync s).free = s.free ∧ (chooseSync s).dram =
    s.dram ∧ (chooseSync s).scan = s.scan ∧ (chooseSync s).pix = s.pix ∧ (chooseSync s).gal = s.gal ∧ (chooseSync
    s).eng = s.eng ∧ (chooseSync s).stats = s.stats ∧ (chooseSync s).shd = s.shd ∧ (chooseSync s).guard = s.guard ∧
    (chooseSync s).diag = s.diag ∧ (chooseSync s).cal = s.cal ∧ (chooseSync s).net = s.net ∧ (chooseSync s).mbx =
    s.mbx ∧ (chooseSync s).io = s.io ∧ (chooseSync s).pins = s.pins ∧ (chooseSync s).aux = s.aux ∧ (chooseSync s).clk
    = s.clk ∧ (chooseSync s).pwr = s.pwr ∧ (chooseSync s).boot = s.boot ∧ (chooseSync s).thm = s.thm ∧ (chooseSync
    s).ddr = s.ddr ∧ (chooseSync s).mram = s.mram ∧ (chooseSync s).flash = s.flash ∧ (chooseSync s).flt = s.flt ∧
    (chooseSync s).evt = s.evt := by
  unfold chooseSync
  simp
def chooseSyncRegs : List Field := [TXLA.SYNC_STATUS.STRATUM, TXLA.SYNC_STATUS.SYNC_PORT]
@[simp] theorem chooseSync_word {key : Nat} (hk : Outside chooseSyncRegs key) (s : State)  : wordAt (chooseSync
    s).regs key = wordAt s.regs key := by
  simp only [chooseSyncRegs, outside_append, outside_cons, outside_nil, and_true] at hk
  unfold chooseSync
  simp [hk]
@[simp] theorem correct_keep (s : State) (p : Nat) (theta : Int) : (correct s p theta).pending = s.pending ∧ (correct
    s p theta).act = s.act ∧ (correct s p theta).free = s.free ∧ (correct s p theta).dram = s.dram ∧ (correct s p
    theta).scan = s.scan ∧ (correct s p theta).pix = s.pix ∧ (correct s p theta).gal = s.gal ∧ (correct s p theta).eng
    = s.eng ∧ (correct s p theta).stats = s.stats ∧ (correct s p theta).shd = s.shd ∧ (correct s p theta).guard =
    s.guard ∧ (correct s p theta).diag = s.diag ∧ (correct s p theta).cal = s.cal ∧ (correct s p theta).mbx = s.mbx ∧
    (correct s p theta).io = s.io ∧ (correct s p theta).pins = s.pins ∧ (correct s p theta).aux = s.aux ∧ (correct s p
    theta).clk = s.clk ∧ (correct s p theta).pwr = s.pwr ∧ (correct s p theta).boot = s.boot ∧ (correct s p theta).thm
    = s.thm ∧ (correct s p theta).ddr = s.ddr ∧ (correct s p theta).mram = s.mram ∧ (correct s p theta).flash =
    s.flash ∧ (correct s p theta).evt = s.evt := by
  unfold correct
  simp
def correctRegs : List Field := [TXLA.STEP_COUNT.COUNT, TXLA.SYNC_STATUS.LT_STEP, TXLA.SYNC_STATUS.OFFSET,
    TXLA.SYNC_STATUS.SYNCED]
@[simp] theorem correct_word {key : Nat} (hk : Outside correctRegs key) (s : State) (p : Nat) (theta : Int)  : wordAt
    (correct s p theta).regs key = wordAt s.regs key := by
  simp only [correctRegs, outside_append, outside_cons, outside_nil, and_true] at hk
  unfold correct
  simp [hk]
@[simp] theorem tatexSleep_keep (s : State) : (tatexSleep s).pending = s.pending ∧ (tatexSleep s).act = s.act ∧
    (tatexSleep s).lt = s.lt ∧ (tatexSleep s).synced = s.synced ∧ (tatexSleep s).free = s.free ∧ (tatexSleep s).dram =
    s.dram ∧ (tatexSleep s).pix = s.pix ∧ (tatexSleep s).gal = s.gal ∧ (tatexSleep s).eng = s.eng ∧ (tatexSleep
    s).stats = s.stats ∧ (tatexSleep s).shd = s.shd ∧ (tatexSleep s).guard = s.guard ∧ (tatexSleep s).diag = s.diag ∧
    (tatexSleep s).cal = s.cal ∧ (tatexSleep s).mbx = s.mbx ∧ (tatexSleep s).io = s.io ∧ (tatexSleep s).pins = s.pins
    ∧ (tatexSleep s).aux = s.aux ∧ (tatexSleep s).clk = s.clk ∧ (tatexSleep s).pwr = s.pwr ∧ (tatexSleep s).boot =
    s.boot ∧ (tatexSleep s).thm = s.thm ∧ (tatexSleep s).ddr = s.ddr ∧ (tatexSleep s).mram = s.mram ∧ (tatexSleep
    s).flash = s.flash ∧ (tatexSleep s).evt = s.evt := by
  unfold tatexSleep
  simp
def tatexSleepRegs : List Field := linkLostRegs ++ allOf 2 TX.STATUS.STATE
@[simp] theorem tatexSleep_word {key : Nat} (hk : Outside tatexSleepRegs key) (s : State)  : wordAt (tatexSleep
    s).regs key = wordAt s.regs key := by
  simp only [tatexSleepRegs, outside_append, outside_cons, outside_nil, and_true, outside_TX_STATUS_STATE] at hk
  unfold tatexSleep
  simp [hk]

end Sys2Proof.Machine
end

