-- ==== Sys2Proof/Laws/FrameMailbox.lean ====
section
/-! SUPPORT. FrameMailbox.lean: for each operation of Machine/Mailbox.lean, the parts of State that it leaves alone and the register
fields outside which it changes none. -/

set_option linter.unusedSimpArgs false

namespace Sys2Proof.Machine

set_option Elab.async false

@[simp] theorem state_setMb_keep (s : State) (n : Nat) (f : Mb → Mb) : (State.setMb s n f).pending = s.pending ∧
    (State.setMb s n f).regs = s.regs ∧ (State.setMb s n f).act = s.act ∧ (State.setMb s n f).lt = s.lt ∧ (State.setMb
    s n f).synced = s.synced ∧ (State.setMb s n f).free = s.free ∧ (State.setMb s n f).dram = s.dram ∧ (State.setMb s
    n f).scan = s.scan ∧ (State.setMb s n f).pix = s.pix ∧ (State.setMb s n f).gal = s.gal ∧ (State.setMb s n f).eng =
    s.eng ∧ (State.setMb s n f).stats = s.stats ∧ (State.setMb s n f).shd = s.shd ∧ (State.setMb s n f).guard =
    s.guard ∧ (State.setMb s n f).diag = s.diag ∧ (State.setMb s n f).cal = s.cal ∧ (State.setMb s n f).net = s.net ∧
    (State.setMb s n f).io = s.io ∧ (State.setMb s n f).pins = s.pins ∧ (State.setMb s n f).aux = s.aux ∧ (State.setMb
    s n f).clk = s.clk ∧ (State.setMb s n f).pwr = s.pwr ∧ (State.setMb s n f).boot = s.boot ∧ (State.setMb s n f).thm
    = s.thm ∧ (State.setMb s n f).ddr = s.ddr ∧ (State.setMb s n f).mram = s.mram ∧ (State.setMb s n f).flash =
    s.flash ∧ (State.setMb s n f).flt = s.flt ∧ (State.setMb s n f).evt = s.evt := by
  unfold State.setMb
  simp
@[simp] theorem ring_keep (s : State) (n path src : Nat) (bcast : Bool) (last : Option (List Byte)) : (ring s n path
    src bcast last).pending = s.pending ∧ (ring s n path src bcast last).act = s.act ∧ (ring s n path src bcast
    last).free = s.free ∧ (ring s n path src bcast last).dram = s.dram ∧ (ring s n path src bcast last).scan = s.scan
    ∧ (ring s n path src bcast last).pix = s.pix ∧ (ring s n path src bcast last).gal = s.gal ∧ (ring s n path src
    bcast last).eng = s.eng ∧ (ring s n path src bcast last).stats = s.stats ∧ (ring s n path src bcast last).shd =
    s.shd ∧ (ring s n path src bcast last).guard = s.guard ∧ (ring s n path src bcast last).diag = s.diag ∧ (ring s n
    path src bcast last).cal = s.cal ∧ (ring s n path src bcast last).net = s.net ∧ (ring s n path src bcast last).io
    = s.io ∧ (ring s n path src bcast last).pins = s.pins ∧ (ring s n path src bcast last).aux = s.aux ∧ (ring s n
    path src bcast last).clk = s.clk ∧ (ring s n path src bcast last).thm = s.thm ∧ (ring s n path src bcast last).ddr
    = s.ddr ∧ (ring s n path src bcast last).mram = s.mram ∧ (ring s n path src bcast last).flash = s.flash ∧ (ring s
    n path src bcast last).evt = s.evt := by
  unfold ring
  simp
def ringRegs : List Field := wakeByRegs
@[simp] theorem ring_word {key : Nat} (hk : Outside ringRegs key) (s : State) (n path src : Nat) (bcast : Bool) (last
    : Option (List Byte))  : wordAt (ring s n path src bcast last).regs key = wordAt s.regs key := by
  simp only [ringRegs, outside_append, outside_cons, outside_nil, and_true] at hk
  unfold ring
  simp [hk]
@[simp] theorem sendRsp_keep (s : State) (src n : Nat) (rsp : List Byte) : (sendRsp s src n rsp).pending = s.pending ∧
    (sendRsp s src n rsp).regs = s.regs ∧ (sendRsp s src n rsp).act = s.act ∧ (sendRsp s src n rsp).lt = s.lt ∧
    (sendRsp s src n rsp).synced = s.synced ∧ (sendRsp s src n rsp).free = s.free ∧ (sendRsp s src n rsp).dram =
    s.dram ∧ (sendRsp s src n rsp).scan = s.scan ∧ (sendRsp s src n rsp).pix = s.pix ∧ (sendRsp s src n rsp).gal =
    s.gal ∧ (sendRsp s src n rsp).eng = s.eng ∧ (sendRsp s src n rsp).stats = s.stats ∧ (sendRsp s src n rsp).shd =
    s.shd ∧ (sendRsp s src n rsp).guard = s.guard ∧ (sendRsp s src n rsp).diag = s.diag ∧ (sendRsp s src n rsp).cal =
    s.cal ∧ (sendRsp s src n rsp).mbx = s.mbx ∧ (sendRsp s src n rsp).io = s.io ∧ (sendRsp s src n rsp).pins = s.pins
    ∧ (sendRsp s src n rsp).aux = s.aux ∧ (sendRsp s src n rsp).clk = s.clk ∧ (sendRsp s src n rsp).pwr = s.pwr ∧
    (sendRsp s src n rsp).boot = s.boot ∧ (sendRsp s src n rsp).thm = s.thm ∧ (sendRsp s src n rsp).ddr = s.ddr ∧
    (sendRsp s src n rsp).mram = s.mram ∧ (sendRsp s src n rsp).flash = s.flash ∧ (sendRsp s src n rsp).flt = s.flt ∧
    (sendRsp s src n rsp).evt = s.evt := by
  unfold sendRsp
  simp
@[simp] theorem canRespond_keep (s : State) (rsp : List Byte) : (canRespond s rsp).pending = s.pending ∧ (canRespond s
    rsp).regs = s.regs ∧ (canRespond s rsp).act = s.act ∧ (canRespond s rsp).lt = s.lt ∧ (canRespond s rsp).synced =
    s.synced ∧ (canRespond s rsp).free = s.free ∧ (canRespond s rsp).dram = s.dram ∧ (canRespond s rsp).scan = s.scan
    ∧ (canRespond s rsp).pix = s.pix ∧ (canRespond s rsp).gal = s.gal ∧ (canRespond s rsp).eng = s.eng ∧ (canRespond s
    rsp).stats = s.stats ∧ (canRespond s rsp).shd = s.shd ∧ (canRespond s rsp).guard = s.guard ∧ (canRespond s
    rsp).diag = s.diag ∧ (canRespond s rsp).cal = s.cal ∧ (canRespond s rsp).net = s.net ∧ (canRespond s rsp).io =
    s.io ∧ (canRespond s rsp).pins = s.pins ∧ (canRespond s rsp).aux = s.aux ∧ (canRespond s rsp).clk = s.clk ∧
    (canRespond s rsp).pwr = s.pwr ∧ (canRespond s rsp).boot = s.boot ∧ (canRespond s rsp).thm = s.thm ∧ (canRespond s
    rsp).ddr = s.ddr ∧ (canRespond s rsp).mram = s.mram ∧ (canRespond s rsp).flash = s.flash ∧ (canRespond s rsp).flt
    = s.flt ∧ (canRespond s rsp).evt = s.evt := by
  unfold canRespond
  simp
@[simp] theorem tellOwner_keep (s : State) (n status : Nat) (rsp : List Byte) : (tellOwner s n status rsp).pending =
    s.pending ∧ (tellOwner s n status rsp).regs = s.regs ∧ (tellOwner s n status rsp).act = s.act ∧ (tellOwner s n
    status rsp).lt = s.lt ∧ (tellOwner s n status rsp).synced = s.synced ∧ (tellOwner s n status rsp).free = s.free ∧
    (tellOwner s n status rsp).dram = s.dram ∧ (tellOwner s n status rsp).scan = s.scan ∧ (tellOwner s n status
    rsp).pix = s.pix ∧ (tellOwner s n status rsp).gal = s.gal ∧ (tellOwner s n status rsp).eng = s.eng ∧ (tellOwner s
    n status rsp).stats = s.stats ∧ (tellOwner s n status rsp).shd = s.shd ∧ (tellOwner s n status rsp).guard =
    s.guard ∧ (tellOwner s n status rsp).diag = s.diag ∧ (tellOwner s n status rsp).cal = s.cal ∧ (tellOwner s n
    status rsp).io = s.io ∧ (tellOwner s n status rsp).pins = s.pins ∧ (tellOwner s n status rsp).aux = s.aux ∧
    (tellOwner s n status rsp).clk = s.clk ∧ (tellOwner s n status rsp).pwr = s.pwr ∧ (tellOwner s n status rsp).boot
    = s.boot ∧ (tellOwner s n status rsp).thm = s.thm ∧ (tellOwner s n status rsp).ddr = s.ddr ∧ (tellOwner s n status
    rsp).mram = s.mram ∧ (tellOwner s n status rsp).flash = s.flash ∧ (tellOwner s n status rsp).evt = s.evt := by
  unfold tellOwner
  (try simp) <;> (repeat' apply And.intro) <;> (repeat' split) <;> (try simp)
@[simp] theorem respondWith_keep (flags : Nat) (s : State) (n status : Nat) (data : List Byte) : (respondWith flags s
    n status data).pending = s.pending ∧ (respondWith flags s n status data).regs = s.regs ∧ (respondWith flags s n
    status data).act = s.act ∧ (respondWith flags s n status data).lt = s.lt ∧ (respondWith flags s n status
    data).synced = s.synced ∧ (respondWith flags s n status data).free = s.free ∧ (respondWith flags s n status
    data).dram = s.dram ∧ (respondWith flags s n status data).scan = s.scan ∧ (respondWith flags s n status data).pix
    = s.pix ∧ (respondWith flags s n status data).gal = s.gal ∧ (respondWith flags s n status data).eng = s.eng ∧
    (respondWith flags s n status data).stats = s.stats ∧ (respondWith flags s n status data).shd = s.shd ∧
    (respondWith flags s n status data).guard = s.guard ∧ (respondWith flags s n status data).diag = s.diag ∧
    (respondWith flags s n status data).cal = s.cal ∧ (respondWith flags s n status data).io = s.io ∧ (respondWith
    flags s n status data).pins = s.pins ∧ (respondWith flags s n status data).aux = s.aux ∧ (respondWith flags s n
    status data).clk = s.clk ∧ (respondWith flags s n status data).pwr = s.pwr ∧ (respondWith flags s n status
    data).boot = s.boot ∧ (respondWith flags s n status data).thm = s.thm ∧ (respondWith flags s n status data).ddr =
    s.ddr ∧ (respondWith flags s n status data).mram = s.mram ∧ (respondWith flags s n status data).flash = s.flash ∧
    (respondWith flags s n status data).evt = s.evt := by
  unfold respondWith
  simp
@[simp] theorem respond_keep (s : State) (n status : Nat) (data : List Byte) : (respond s n status data).pending =
    s.pending ∧ (respond s n status data).regs = s.regs ∧ (respond s n status data).act = s.act ∧ (respond s n status
    data).lt = s.lt ∧ (respond s n status data).synced = s.synced ∧ (respond s n status data).free = s.free ∧ (respond
    s n status data).dram = s.dram ∧ (respond s n status data).scan = s.scan ∧ (respond s n status data).pix = s.pix ∧
    (respond s n status data).gal = s.gal ∧ (respond s n status data).eng = s.eng ∧ (respond s n status data).stats =
    s.stats ∧ (respond s n status data).shd = s.shd ∧ (respond s n status data).guard = s.guard ∧ (respond s n status
    data).diag = s.diag ∧ (respond s n status data).cal = s.cal ∧ (respond s n status data).io = s.io ∧ (respond s n
    status data).pins = s.pins ∧ (respond s n status data).aux = s.aux ∧ (respond s n status data).clk = s.clk ∧
    (respond s n status data).pwr = s.pwr ∧ (respond s n status data).boot = s.boot ∧ (respond s n status data).thm =
    s.thm ∧ (respond s n status data).ddr = s.ddr ∧ (respond s n status data).mram = s.mram ∧ (respond s n status
    data).flash = s.flash ∧ (respond s n status data).evt = s.evt := by
  unfold respond
  simp
@[simp] theorem resendRsp_keep (s : State) (n : Nat) : (resendRsp s n).pending = s.pending ∧ (resendRsp s n).regs =
    s.regs ∧ (resendRsp s n).act = s.act ∧ (resendRsp s n).lt = s.lt ∧ (resendRsp s n).synced = s.synced ∧ (resendRsp
    s n).free = s.free ∧ (resendRsp s n).dram = s.dram ∧ (resendRsp s n).scan = s.scan ∧ (resendRsp s n).pix = s.pix ∧
    (resendRsp s n).gal = s.gal ∧ (resendRsp s n).eng = s.eng ∧ (resendRsp s n).stats = s.stats ∧ (resendRsp s n).shd
    = s.shd ∧ (resendRsp s n).guard = s.guard ∧ (resendRsp s n).diag = s.diag ∧ (resendRsp s n).cal = s.cal ∧
    (resendRsp s n).io = s.io ∧ (resendRsp s n).pins = s.pins ∧ (resendRsp s n).aux = s.aux ∧ (resendRsp s n).clk =
    s.clk ∧ (resendRsp s n).pwr = s.pwr ∧ (resendRsp s n).boot = s.boot ∧ (resendRsp s n).thm = s.thm ∧ (resendRsp s
    n).ddr = s.ddr ∧ (resendRsp s n).mram = s.mram ∧ (resendRsp s n).flash = s.flash ∧ (resendRsp s n).flt = s.flt ∧
    (resendRsp s n).evt = s.evt := by
  unfold resendRsp
  simp
@[simp] theorem spiRing_keep (s : State) (n : Nat) : (spiRing s n).pending = s.pending ∧ (spiRing s n).act = s.act ∧
    (spiRing s n).free = s.free ∧ (spiRing s n).dram = s.dram ∧ (spiRing s n).scan = s.scan ∧ (spiRing s n).pix =
    s.pix ∧ (spiRing s n).gal = s.gal ∧ (spiRing s n).eng = s.eng ∧ (spiRing s n).stats = s.stats ∧ (spiRing s n).shd
    = s.shd ∧ (spiRing s n).guard = s.guard ∧ (spiRing s n).diag = s.diag ∧ (spiRing s n).cal = s.cal ∧ (spiRing s
    n).net = s.net ∧ (spiRing s n).io = s.io ∧ (spiRing s n).pins = s.pins ∧ (spiRing s n).aux = s.aux ∧ (spiRing s
    n).clk = s.clk ∧ (spiRing s n).thm = s.thm ∧ (spiRing s n).ddr = s.ddr ∧ (spiRing s n).mram = s.mram ∧ (spiRing s
    n).flash = s.flash ∧ (spiRing s n).evt = s.evt := by
  unfold spiRing
  simp
def spiRingRegs : List Field := ringRegs ++ [MBX.STATUS.RING_IGN]
@[simp] theorem spiRing_word {key : Nat} (hk : Outside spiRingRegs key) (s : State) (n : Nat)  : wordAt (spiRing s
    n).regs key = wordAt s.regs key := by
  simp only [spiRingRegs, outside_append, outside_cons, outside_nil, and_true] at hk
  unfold spiRing
  simp [hk]
@[simp] theorem doorbell_keep (s : State) (w : Nat) : (doorbell s w).pending = s.pending ∧ (doorbell s w).act = s.act
    ∧ (doorbell s w).free = s.free ∧ (doorbell s w).dram = s.dram ∧ (doorbell s w).scan = s.scan ∧ (doorbell s w).pix
    = s.pix ∧ (doorbell s w).gal = s.gal ∧ (doorbell s w).eng = s.eng ∧ (doorbell s w).stats = s.stats ∧ (doorbell s
    w).shd = s.shd ∧ (doorbell s w).guard = s.guard ∧ (doorbell s w).diag = s.diag ∧ (doorbell s w).cal = s.cal ∧
    (doorbell s w).net = s.net ∧ (doorbell s w).io = s.io ∧ (doorbell s w).pins = s.pins ∧ (doorbell s w).aux = s.aux
    ∧ (doorbell s w).clk = s.clk ∧ (doorbell s w).thm = s.thm ∧ (doorbell s w).ddr = s.ddr ∧ (doorbell s w).mram =
    s.mram ∧ (doorbell s w).flash = s.flash ∧ (doorbell s w).evt = s.evt := by
  unfold doorbell
  simp
def doorbellRegs : List Field := spiRingRegs
@[simp] theorem doorbell_word {key : Nat} (hk : Outside doorbellRegs key) (s : State) (w : Nat)  : wordAt (doorbell s
    w).regs key = wordAt s.regs key := by
  simp only [doorbellRegs, outside_append, outside_cons, outside_nil, and_true] at hk
  unfold doorbell
  simp [hk]
@[simp] theorem mbxAck_keep (s : State) (w : Nat) : (mbxAck s w).pending = s.pending ∧ (mbxAck s w).regs = s.regs ∧
    (mbxAck s w).act = s.act ∧ (mbxAck s w).lt = s.lt ∧ (mbxAck s w).synced = s.synced ∧ (mbxAck s w).free = s.free ∧
    (mbxAck s w).dram = s.dram ∧ (mbxAck s w).scan = s.scan ∧ (mbxAck s w).pix = s.pix ∧ (mbxAck s w).gal = s.gal ∧
    (mbxAck s w).eng = s.eng ∧ (mbxAck s w).stats = s.stats ∧ (mbxAck s w).shd = s.shd ∧ (mbxAck s w).guard = s.guard
    ∧ (mbxAck s w).diag = s.diag ∧ (mbxAck s w).cal = s.cal ∧ (mbxAck s w).net = s.net ∧ (mbxAck s w).io = s.io ∧
    (mbxAck s w).pins = s.pins ∧ (mbxAck s w).aux = s.aux ∧ (mbxAck s w).clk = s.clk ∧ (mbxAck s w).pwr = s.pwr ∧
    (mbxAck s w).boot = s.boot ∧ (mbxAck s w).thm = s.thm ∧ (mbxAck s w).ddr = s.ddr ∧ (mbxAck s w).mram = s.mram ∧
    (mbxAck s w).flash = s.flash ∧ (mbxAck s w).flt = s.flt ∧ (mbxAck s w).evt = s.evt := by
  unfold mbxAck
  simp
@[simp] theorem tatexRequest_keep (s : State) (p n src : Nat) (bcast : Bool) (b : List Byte) : (tatexRequest s p n src
    bcast b).pending = s.pending ∧ (tatexRequest s p n src bcast b).act = s.act ∧ (tatexRequest s p n src bcast
    b).free = s.free ∧ (tatexRequest s p n src bcast b).dram = s.dram ∧ (tatexRequest s p n src bcast b).pix = s.pix ∧
    (tatexRequest s p n src bcast b).gal = s.gal ∧ (tatexRequest s p n src bcast b).eng = s.eng ∧ (tatexRequest s p n
    src bcast b).stats = s.stats ∧ (tatexRequest s p n src bcast b).shd = s.shd ∧ (tatexRequest s p n src bcast
    b).guard = s.guard ∧ (tatexRequest s p n src bcast b).diag = s.diag ∧ (tatexRequest s p n src bcast b).cal = s.cal
    ∧ (tatexRequest s p n src bcast b).io = s.io ∧ (tatexRequest s p n src bcast b).pins = s.pins ∧ (tatexRequest s p
    n src bcast b).aux = s.aux ∧ (tatexRequest s p n src bcast b).clk = s.clk ∧ (tatexRequest s p n src bcast b).thm =
    s.thm ∧ (tatexRequest s p n src bcast b).ddr = s.ddr ∧ (tatexRequest s p n src bcast b).mram = s.mram ∧
    (tatexRequest s p n src bcast b).flash = s.flash ∧ (tatexRequest s p n src bcast b).evt = s.evt := by
  unfold tatexRequest
  simp
def tatexRequestRegs : List Field := badPacketRegs ++ ringRegs ++ allOf 2 TX.MALFORMED
@[simp] theorem tatexRequest_word {key : Nat} (hk : Outside tatexRequestRegs key) (s : State) (p n src : Nat) (bcast :
    Bool) (b : List Byte)  : wordAt (tatexRequest s p n src bcast b).regs key = wordAt s.regs key := by
  simp only [tatexRequestRegs, outside_append, outside_cons, outside_nil, and_true, outside_TX_MALFORMED] at hk
  unfold tatexRequest
  simp [hk]
@[simp] theorem canRequest_keep (s : State) (b : List Byte) : (canRequest s b).pending = s.pending ∧ (canRequest s
    b).act = s.act ∧ (canRequest s b).free = s.free ∧ (canRequest s b).dram = s.dram ∧ (canRequest s b).scan = s.scan
    ∧ (canRequest s b).pix = s.pix ∧ (canRequest s b).gal = s.gal ∧ (canRequest s b).eng = s.eng ∧ (canRequest s
    b).stats = s.stats ∧ (canRequest s b).shd = s.shd ∧ (canRequest s b).guard = s.guard ∧ (canRequest s b).diag =
    s.diag ∧ (canRequest s b).cal = s.cal ∧ (canRequest s b).net = s.net ∧ (canRequest s b).io = s.io ∧ (canRequest s
    b).pins = s.pins ∧ (canRequest s b).aux = s.aux ∧ (canRequest s b).clk = s.clk ∧ (canRequest s b).thm = s.thm ∧
    (canRequest s b).ddr = s.ddr ∧ (canRequest s b).mram = s.mram ∧ (canRequest s b).flash = s.flash ∧ (canRequest s
    b).evt = s.evt := by
  unfold canRequest
  simp
def canRequestRegs : List Field := ringRegs
@[simp] theorem canRequest_word {key : Nat} (hk : Outside canRequestRegs key) (s : State) (b : List Byte)  : wordAt
    (canRequest s b).regs key = wordAt s.regs key := by
  simp only [canRequestRegs, outside_append, outside_cons, outside_nil, and_true] at hk
  unfold canRequest
  simp [hk]
@[simp] theorem canSegment_keep (s : State) (data : List Byte) : (canSegment s data).pending = s.pending ∧ (canSegment
    s data).act = s.act ∧ (canSegment s data).free = s.free ∧ (canSegment s data).dram = s.dram ∧ (canSegment s
    data).scan = s.scan ∧ (canSegment s data).pix = s.pix ∧ (canSegment s data).gal = s.gal ∧ (canSegment s data).eng
    = s.eng ∧ (canSegment s data).stats = s.stats ∧ (canSegment s data).shd = s.shd ∧ (canSegment s data).guard =
    s.guard ∧ (canSegment s data).diag = s.diag ∧ (canSegment s data).cal = s.cal ∧ (canSegment s data).net = s.net ∧
    (canSegment s data).io = s.io ∧ (canSegment s data).pins = s.pins ∧ (canSegment s data).aux = s.aux ∧ (canSegment
    s data).clk = s.clk ∧ (canSegment s data).thm = s.thm ∧ (canSegment s data).ddr = s.ddr ∧ (canSegment s data).mram
    = s.mram ∧ (canSegment s data).flash = s.flash ∧ (canSegment s data).evt = s.evt := by
  unfold canSegment
  split <;> simp
def canSegmentRegs : List Field := canRequestRegs ++ [CAN.DROP.COUNT]
@[simp] theorem canSegment_word {key : Nat} (hk : Outside canSegmentRegs key) (s : State) (data : List Byte)  : wordAt
    (canSegment s data).regs key = wordAt s.regs key := by
  simp only [canSegmentRegs, outside_append, outside_cons, outside_nil, and_true] at hk
  unfold canSegment
  split <;> simp [hk]
@[simp] theorem acceptRings_keep (s : State) : (acceptRings s).pending = s.pending ∧ (acceptRings s).regs = s.regs ∧
    (acceptRings s).act = s.act ∧ (acceptRings s).lt = s.lt ∧ (acceptRings s).synced = s.synced ∧ (acceptRings s).free
    = s.free ∧ (acceptRings s).dram = s.dram ∧ (acceptRings s).scan = s.scan ∧ (acceptRings s).pix = s.pix ∧
    (acceptRings s).gal = s.gal ∧ (acceptRings s).eng = s.eng ∧ (acceptRings s).stats = s.stats ∧ (acceptRings s).shd
    = s.shd ∧ (acceptRings s).guard = s.guard ∧ (acceptRings s).diag = s.diag ∧ (acceptRings s).cal = s.cal ∧
    (acceptRings s).net = s.net ∧ (acceptRings s).io = s.io ∧ (acceptRings s).pins = s.pins ∧ (acceptRings s).aux =
    s.aux ∧ (acceptRings s).clk = s.clk ∧ (acceptRings s).pwr = s.pwr ∧ (acceptRings s).boot = s.boot ∧ (acceptRings
    s).thm = s.thm ∧ (acceptRings s).ddr = s.ddr ∧ (acceptRings s).mram = s.mram ∧ (acceptRings s).flash = s.flash ∧
    (acceptRings s).flt = s.flt ∧ (acceptRings s).evt = s.evt := by
  unfold acceptRings
  simp
@[simp] theorem authFail_keep (s : State) (hit : Session → Bool) : (authFail s hit).pending = s.pending ∧ (authFail s
    hit).regs = s.regs ∧ (authFail s hit).act = s.act ∧ (authFail s hit).lt = s.lt ∧ (authFail s hit).synced =
    s.synced ∧ (authFail s hit).free = s.free ∧ (authFail s hit).dram = s.dram ∧ (authFail s hit).scan = s.scan ∧
    (authFail s hit).pix = s.pix ∧ (authFail s hit).gal = s.gal ∧ (authFail s hit).eng = s.eng ∧ (authFail s
    hit).stats = s.stats ∧ (authFail s hit).shd = s.shd ∧ (authFail s hit).guard = s.guard ∧ (authFail s hit).diag =
    s.diag ∧ (authFail s hit).cal = s.cal ∧ (authFail s hit).net = s.net ∧ (authFail s hit).io = s.io ∧ (authFail s
    hit).pins = s.pins ∧ (authFail s hit).aux = s.aux ∧ (authFail s hit).clk = s.clk ∧ (authFail s hit).pwr = s.pwr ∧
    (authFail s hit).boot = s.boot ∧ (authFail s hit).thm = s.thm ∧ (authFail s hit).ddr = s.ddr ∧ (authFail s
    hit).mram = s.mram ∧ (authFail s hit).flash = s.flash ∧ (authFail s hit).flt = s.flt ∧ (authFail s hit).evt =
    s.evt := by
  unfold authFail
  simp
@[simp] theorem authenticate_keep (s : State) (n : Nat) : (authenticate s n).1.pending = s.pending ∧ (authenticate s
    n).1.regs = s.regs ∧ (authenticate s n).1.act = s.act ∧ (authenticate s n).1.lt = s.lt ∧ (authenticate s
    n).1.synced = s.synced ∧ (authenticate s n).1.free = s.free ∧ (authenticate s n).1.dram = s.dram ∧ (authenticate s
    n).1.scan = s.scan ∧ (authenticate s n).1.pix = s.pix ∧ (authenticate s n).1.gal = s.gal ∧ (authenticate s
    n).1.eng = s.eng ∧ (authenticate s n).1.stats = s.stats ∧ (authenticate s n).1.shd = s.shd ∧ (authenticate s
    n).1.guard = s.guard ∧ (authenticate s n).1.diag = s.diag ∧ (authenticate s n).1.cal = s.cal ∧ (authenticate s
    n).1.net = s.net ∧ (authenticate s n).1.io = s.io ∧ (authenticate s n).1.pins = s.pins ∧ (authenticate s n).1.aux
    = s.aux ∧ (authenticate s n).1.clk = s.clk ∧ (authenticate s n).1.pwr = s.pwr ∧ (authenticate s n).1.boot = s.boot
    ∧ (authenticate s n).1.thm = s.thm ∧ (authenticate s n).1.ddr = s.ddr ∧ (authenticate s n).1.mram = s.mram ∧
    (authenticate s n).1.flash = s.flash ∧ (authenticate s n).1.flt = s.flt ∧ (authenticate s n).1.evt = s.evt := by
  unfold authenticate
  (try simp) <;> (repeat' apply And.intro) <;> (repeat' split) <;> (try simp)
@[simp] theorem closeSession_keep (s : State) (num : Nat) : (closeSession s num).pending = s.pending ∧ (closeSession s
    num).regs = s.regs ∧ (closeSession s num).act = s.act ∧ (closeSession s num).lt = s.lt ∧ (closeSession s
    num).synced = s.synced ∧ (closeSession s num).free = s.free ∧ (closeSession s num).dram = s.dram ∧ (closeSession s
    num).scan = s.scan ∧ (closeSession s num).pix = s.pix ∧ (closeSession s num).gal = s.gal ∧ (closeSession s
    num).eng = s.eng ∧ (closeSession s num).stats = s.stats ∧ (closeSession s num).shd = s.shd ∧ (closeSession s
    num).guard = s.guard ∧ (closeSession s num).diag = s.diag ∧ (closeSession s num).cal = s.cal ∧ (closeSession s
    num).net = s.net ∧ (closeSession s num).io = s.io ∧ (closeSession s num).pins = s.pins ∧ (closeSession s num).aux
    = s.aux ∧ (closeSession s num).clk = s.clk ∧ (closeSession s num).pwr = s.pwr ∧ (closeSession s num).boot = s.boot
    ∧ (closeSession s num).thm = s.thm ∧ (closeSession s num).ddr = s.ddr ∧ (closeSession s num).mram = s.mram ∧
    (closeSession s num).flash = s.flash ∧ (closeSession s num).flt = s.flt ∧ (closeSession s num).evt = s.evt := by
  unfold closeSession
  simp
@[simp] theorem startCommand_keep (s : State) (n : Nat) : (startCommand s n).pending = s.pending ∧ (startCommand s
    n).regs = s.regs ∧ (startCommand s n).act = s.act ∧ (startCommand s n).lt = s.lt ∧ (startCommand s n).synced =
    s.synced ∧ (startCommand s n).free = s.free ∧ (startCommand s n).dram = s.dram ∧ (startCommand s n).scan = s.scan
    ∧ (startCommand s n).pix = s.pix ∧ (startCommand s n).gal = s.gal ∧ (startCommand s n).eng = s.eng ∧ (startCommand
    s n).stats = s.stats ∧ (startCommand s n).shd = s.shd ∧ (startCommand s n).guard = s.guard ∧ (startCommand s
    n).diag = s.diag ∧ (startCommand s n).cal = s.cal ∧ (startCommand s n).io = s.io ∧ (startCommand s n).pins =
    s.pins ∧ (startCommand s n).aux = s.aux ∧ (startCommand s n).clk = s.clk ∧ (startCommand s n).pwr = s.pwr ∧
    (startCommand s n).boot = s.boot ∧ (startCommand s n).thm = s.thm ∧ (startCommand s n).ddr = s.ddr ∧ (startCommand
    s n).mram = s.mram ∧ (startCommand s n).flash = s.flash ∧ (startCommand s n).evt = s.evt := by
  unfold startCommand
  (try simp) <;> (repeat' apply And.intro) <;> (repeat' split) <;> (try simp)
@[simp] theorem command_eq (s : State) (n op : Nat) (f : State → List Byte → State) :
    command s n op f = if runs s n op then f s (reqParams (s.mb n).req) else s := rfl

@[simp] theorem needLen_eq (s : State) (n : Nat) (ok : Bool) (f : State) :
    needLen s n ok f = if ok then f else respond s n 3 [] := rfl

@[simp] theorem abortBusy_keep (s : State) : (abortBusy s).pending = s.pending ∧ (abortBusy s).regs = s.regs ∧
    (abortBusy s).act = s.act ∧ (abortBusy s).lt = s.lt ∧ (abortBusy s).synced = s.synced ∧ (abortBusy s).free =
    s.free ∧ (abortBusy s).dram = s.dram ∧ (abortBusy s).scan = s.scan ∧ (abortBusy s).pix = s.pix ∧ (abortBusy s).gal
    = s.gal ∧ (abortBusy s).eng = s.eng ∧ (abortBusy s).stats = s.stats ∧ (abortBusy s).shd = s.shd ∧ (abortBusy
    s).guard = s.guard ∧ (abortBusy s).diag = s.diag ∧ (abortBusy s).cal = s.cal ∧ (abortBusy s).io = s.io ∧
    (abortBusy s).pins = s.pins ∧ (abortBusy s).aux = s.aux ∧ (abortBusy s).clk = s.clk ∧ (abortBusy s).pwr = s.pwr ∧
    (abortBusy s).boot = s.boot ∧ (abortBusy s).thm = s.thm ∧ (abortBusy s).ddr = s.ddr ∧ (abortBusy s).mram = s.mram
    ∧ (abortBusy s).flash = s.flash ∧ (abortBusy s).evt = s.evt := by
  unfold abortBusy
  simp
@[simp] theorem finishEnum_keep (s : State) : (finishEnum s).pending = s.pending ∧ (finishEnum s).regs = s.regs ∧
    (finishEnum s).act = s.act ∧ (finishEnum s).lt = s.lt ∧ (finishEnum s).synced = s.synced ∧ (finishEnum s).free =
    s.free ∧ (finishEnum s).dram = s.dram ∧ (finishEnum s).scan = s.scan ∧ (finishEnum s).pix = s.pix ∧ (finishEnum
    s).gal = s.gal ∧ (finishEnum s).eng = s.eng ∧ (finishEnum s).stats = s.stats ∧ (finishEnum s).shd = s.shd ∧
    (finishEnum s).guard = s.guard ∧ (finishEnum s).diag = s.diag ∧ (finishEnum s).cal = s.cal ∧ (finishEnum s).io =
    s.io ∧ (finishEnum s).pins = s.pins ∧ (finishEnum s).aux = s.aux ∧ (finishEnum s).clk = s.clk ∧ (finishEnum s).pwr
    = s.pwr ∧ (finishEnum s).boot = s.boot ∧ (finishEnum s).thm = s.thm ∧ (finishEnum s).ddr = s.ddr ∧ (finishEnum
    s).mram = s.mram ∧ (finishEnum s).flash = s.flash ∧ (finishEnum s).evt = s.evt := by
  unfold finishEnum
  split <;> simp

end Sys2Proof.Machine
end

