-- ==== Sys2Proof/Laws/FrameAuxLight.lean ====
section
/-! SUPPORT. FrameAuxLight.lean: for each operation of Machine/AuxLight.lean, the parts of State that it leaves alone and the register
fields outside which it changes none. -/

set_option linter.unusedSimpArgs false

namespace Sys2Proof.Machine

set_option Elab.async false

@[simp] theorem auxTake_keep (s : State) (o : Nat) : (auxTake s o).pending = s.pending ∧ (auxTake s o).regs = s.regs ∧
    (auxTake s o).act = s.act ∧ (auxTake s o).lt = s.lt ∧ (auxTake s o).synced = s.synced ∧ (auxTake s o).free =
    s.free ∧ (auxTake s o).dram = s.dram ∧ (auxTake s o).scan = s.scan ∧ (auxTake s o).pix = s.pix ∧ (auxTake s o).gal
    = s.gal ∧ (auxTake s o).eng = s.eng ∧ (auxTake s o).stats = s.stats ∧ (auxTake s o).shd = s.shd ∧ (auxTake s
    o).guard = s.guard ∧ (auxTake s o).diag = s.diag ∧ (auxTake s o).cal = s.cal ∧ (auxTake s o).net = s.net ∧
    (auxTake s o).mbx = s.mbx ∧ (auxTake s o).io = s.io ∧ (auxTake s o).pins = s.pins ∧ (auxTake s o).clk = s.clk ∧
    (auxTake s o).pwr = s.pwr ∧ (auxTake s o).boot = s.boot ∧ (auxTake s o).thm = s.thm ∧ (auxTake s o).ddr = s.ddr ∧
    (auxTake s o).mram = s.mram ∧ (auxTake s o).flash = s.flash ∧ (auxTake s o).flt = s.flt ∧ (auxTake s o).evt =
    s.evt := by
  unfold auxTake
  simp
@[simp] theorem auxEnable_keep (s : State) : (auxEnable s).pending = s.pending ∧ (auxEnable s).act = s.act ∧
    (auxEnable s).lt = s.lt ∧ (auxEnable s).synced = s.synced ∧ (auxEnable s).free = s.free ∧ (auxEnable s).dram =
    s.dram ∧ (auxEnable s).scan = s.scan ∧ (auxEnable s).pix = s.pix ∧ (auxEnable s).gal = s.gal ∧ (auxEnable s).eng =
    s.eng ∧ (auxEnable s).stats = s.stats ∧ (auxEnable s).shd = s.shd ∧ (auxEnable s).guard = s.guard ∧ (auxEnable
    s).diag = s.diag ∧ (auxEnable s).cal = s.cal ∧ (auxEnable s).net = s.net ∧ (auxEnable s).mbx = s.mbx ∧ (auxEnable
    s).io = s.io ∧ (auxEnable s).pins = s.pins ∧ (auxEnable s).clk = s.clk ∧ (auxEnable s).pwr = s.pwr ∧ (auxEnable
    s).boot = s.boot ∧ (auxEnable s).thm = s.thm ∧ (auxEnable s).ddr = s.ddr ∧ (auxEnable s).mram = s.mram ∧
    (auxEnable s).flash = s.flash ∧ (auxEnable s).flt = s.flt ∧ (auxEnable s).evt = s.evt := by
  unfold auxEnable
  simp
def auxEnableRegs : List Field := [AUX.CTRL.EN]
@[simp] theorem auxEnable_word {key : Nat} (hk : Outside auxEnableRegs key) (s : State)  : wordAt (auxEnable s).regs
    key = wordAt s.regs key := by
  simp only [auxEnableRegs, outside_append, outside_cons, outside_nil, and_true] at hk
  unfold auxEnable
  simp [hk]
@[simp] theorem auxDisable_keep (s : State) : (auxDisable s).pending = s.pending ∧ (auxDisable s).act = s.act ∧
    (auxDisable s).lt = s.lt ∧ (auxDisable s).synced = s.synced ∧ (auxDisable s).free = s.free ∧ (auxDisable s).dram =
    s.dram ∧ (auxDisable s).scan = s.scan ∧ (auxDisable s).pix = s.pix ∧ (auxDisable s).gal = s.gal ∧ (auxDisable
    s).eng = s.eng ∧ (auxDisable s).stats = s.stats ∧ (auxDisable s).shd = s.shd ∧ (auxDisable s).guard = s.guard ∧
    (auxDisable s).diag = s.diag ∧ (auxDisable s).cal = s.cal ∧ (auxDisable s).net = s.net ∧ (auxDisable s).mbx =
    s.mbx ∧ (auxDisable s).io = s.io ∧ (auxDisable s).pins = s.pins ∧ (auxDisable s).clk = s.clk ∧ (auxDisable s).pwr
    = s.pwr ∧ (auxDisable s).boot = s.boot ∧ (auxDisable s).thm = s.thm ∧ (auxDisable s).ddr = s.ddr ∧ (auxDisable
    s).mram = s.mram ∧ (auxDisable s).flash = s.flash ∧ (auxDisable s).flt = s.flt ∧ (auxDisable s).evt = s.evt := by
  unfold auxDisable
  simp
def auxDisableRegs : List Field := [AUX.CTRL.EN]
@[simp] theorem auxDisable_word {key : Nat} (hk : Outside auxDisableRegs key) (s : State)  : wordAt (auxDisable
    s).regs key = wordAt s.regs key := by
  simp only [auxDisableRegs, outside_append, outside_cons, outside_nil, and_true] at hk
  unfold auxDisable
  simp [hk]
@[simp] theorem auxForce_keep (s : State) (b : Bool) : (auxForce s b).pending = s.pending ∧ (auxForce s b).regs =
    s.regs ∧ (auxForce s b).act = s.act ∧ (auxForce s b).lt = s.lt ∧ (auxForce s b).synced = s.synced ∧ (auxForce s
    b).free = s.free ∧ (auxForce s b).dram = s.dram ∧ (auxForce s b).scan = s.scan ∧ (auxForce s b).pix = s.pix ∧
    (auxForce s b).gal = s.gal ∧ (auxForce s b).eng = s.eng ∧ (auxForce s b).stats = s.stats ∧ (auxForce s b).shd =
    s.shd ∧ (auxForce s b).guard = s.guard ∧ (auxForce s b).diag = s.diag ∧ (auxForce s b).cal = s.cal ∧ (auxForce s
    b).net = s.net ∧ (auxForce s b).mbx = s.mbx ∧ (auxForce s b).io = s.io ∧ (auxForce s b).pins = s.pins ∧ (auxForce
    s b).clk = s.clk ∧ (auxForce s b).pwr = s.pwr ∧ (auxForce s b).boot = s.boot ∧ (auxForce s b).thm = s.thm ∧
    (auxForce s b).ddr = s.ddr ∧ (auxForce s b).mram = s.mram ∧ (auxForce s b).flash = s.flash ∧ (auxForce s b).flt =
    s.flt ∧ (auxForce s b).evt = s.evt := by
  unfold auxForce
  simp
@[simp] theorem auxSet_keep (mb : Nat) (s : State) (p : List Byte) : (auxSet mb s p).pending = s.pending ∧ (auxSet mb
    s p).regs = s.regs ∧ (auxSet mb s p).act = s.act ∧ (auxSet mb s p).lt = s.lt ∧ (auxSet mb s p).synced = s.synced ∧
    (auxSet mb s p).free = s.free ∧ (auxSet mb s p).dram = s.dram ∧ (auxSet mb s p).scan = s.scan ∧ (auxSet mb s
    p).pix = s.pix ∧ (auxSet mb s p).gal = s.gal ∧ (auxSet mb s p).eng = s.eng ∧ (auxSet mb s p).stats = s.stats ∧
    (auxSet mb s p).shd = s.shd ∧ (auxSet mb s p).guard = s.guard ∧ (auxSet mb s p).diag = s.diag ∧ (auxSet mb s
    p).cal = s.cal ∧ (auxSet mb s p).io = s.io ∧ (auxSet mb s p).pins = s.pins ∧ (auxSet mb s p).clk = s.clk ∧ (auxSet
    mb s p).pwr = s.pwr ∧ (auxSet mb s p).boot = s.boot ∧ (auxSet mb s p).thm = s.thm ∧ (auxSet mb s p).ddr = s.ddr ∧
    (auxSet mb s p).mram = s.mram ∧ (auxSet mb s p).flash = s.flash ∧ (auxSet mb s p).evt = s.evt := by
  unfold auxSet
  simp
@[simp] theorem auxPattern_keep (mb : Nat) (s : State) (p : List Byte) : (auxPattern mb s p).pending = s.pending ∧
    (auxPattern mb s p).regs = s.regs ∧ (auxPattern mb s p).act = s.act ∧ (auxPattern mb s p).lt = s.lt ∧ (auxPattern
    mb s p).synced = s.synced ∧ (auxPattern mb s p).free = s.free ∧ (auxPattern mb s p).dram = s.dram ∧ (auxPattern mb
    s p).scan = s.scan ∧ (auxPattern mb s p).pix = s.pix ∧ (auxPattern mb s p).gal = s.gal ∧ (auxPattern mb s p).eng =
    s.eng ∧ (auxPattern mb s p).stats = s.stats ∧ (auxPattern mb s p).shd = s.shd ∧ (auxPattern mb s p).guard =
    s.guard ∧ (auxPattern mb s p).diag = s.diag ∧ (auxPattern mb s p).cal = s.cal ∧ (auxPattern mb s p).io = s.io ∧
    (auxPattern mb s p).pins = s.pins ∧ (auxPattern mb s p).clk = s.clk ∧ (auxPattern mb s p).pwr = s.pwr ∧
    (auxPattern mb s p).boot = s.boot ∧ (auxPattern mb s p).thm = s.thm ∧ (auxPattern mb s p).ddr = s.ddr ∧
    (auxPattern mb s p).mram = s.mram ∧ (auxPattern mb s p).flash = s.flash ∧ (auxPattern mb s p).evt = s.evt := by
  unfold auxPattern
  simp
@[simp] theorem auxGamma_keep (mb : Nat) (s : State) (p : List Byte) : (auxGamma mb s p).pending = s.pending ∧
    (auxGamma mb s p).regs = s.regs ∧ (auxGamma mb s p).act = s.act ∧ (auxGamma mb s p).lt = s.lt ∧ (auxGamma mb s
    p).synced = s.synced ∧ (auxGamma mb s p).free = s.free ∧ (auxGamma mb s p).dram = s.dram ∧ (auxGamma mb s p).scan
    = s.scan ∧ (auxGamma mb s p).pix = s.pix ∧ (auxGamma mb s p).gal = s.gal ∧ (auxGamma mb s p).eng = s.eng ∧
    (auxGamma mb s p).stats = s.stats ∧ (auxGamma mb s p).shd = s.shd ∧ (auxGamma mb s p).guard = s.guard ∧ (auxGamma
    mb s p).diag = s.diag ∧ (auxGamma mb s p).cal = s.cal ∧ (auxGamma mb s p).io = s.io ∧ (auxGamma mb s p).pins =
    s.pins ∧ (auxGamma mb s p).clk = s.clk ∧ (auxGamma mb s p).pwr = s.pwr ∧ (auxGamma mb s p).boot = s.boot ∧
    (auxGamma mb s p).thm = s.thm ∧ (auxGamma mb s p).ddr = s.ddr ∧ (auxGamma mb s p).mram = s.mram ∧ (auxGamma mb s
    p).flash = s.flash ∧ (auxGamma mb s p).evt = s.evt := by
  unfold auxGamma
  simp
@[simp] theorem auxGate_keep (mb : Nat) (s : State) (p : List Byte) : (auxGate mb s p).pending = s.pending ∧ (auxGate
    mb s p).regs = s.regs ∧ (auxGate mb s p).act = s.act ∧ (auxGate mb s p).lt = s.lt ∧ (auxGate mb s p).synced =
    s.synced ∧ (auxGate mb s p).free = s.free ∧ (auxGate mb s p).dram = s.dram ∧ (auxGate mb s p).scan = s.scan ∧
    (auxGate mb s p).pix = s.pix ∧ (auxGate mb s p).gal = s.gal ∧ (auxGate mb s p).eng = s.eng ∧ (auxGate mb s
    p).stats = s.stats ∧ (auxGate mb s p).shd = s.shd ∧ (auxGate mb s p).guard = s.guard ∧ (auxGate mb s p).diag =
    s.diag ∧ (auxGate mb s p).cal = s.cal ∧ (auxGate mb s p).io = s.io ∧ (auxGate mb s p).pins = s.pins ∧ (auxGate mb
    s p).clk = s.clk ∧ (auxGate mb s p).pwr = s.pwr ∧ (auxGate mb s p).boot = s.boot ∧ (auxGate mb s p).thm = s.thm ∧
    (auxGate mb s p).ddr = s.ddr ∧ (auxGate mb s p).mram = s.mram ∧ (auxGate mb s p).flash = s.flash ∧ (auxGate mb s
    p).evt = s.evt := by
  unfold auxGate
  simp

end Sys2Proof.Machine
end

