-- ==== Sys2Proof/Laws/FramePorts.lean ====
section
/-! SUPPORT. FramePorts.lean: for each operation of Machine/Ports.lean, the parts of State that it leaves alone and the register
fields outside which it changes none. -/

set_option linter.unusedSimpArgs false

namespace Sys2Proof.Machine

set_option Elab.async false

@[simp] theorem canSafe_keep (s : State) (f : CanFrame) : (canSafe s f).pending = s.pending ∧ (canSafe s f).act =
    s.act ∧ (canSafe s f).lt = s.lt ∧ (canSafe s f).synced = s.synced ∧ (canSafe s f).free = s.free ∧ (canSafe s
    f).dram = s.dram ∧ (canSafe s f).scan = s.scan ∧ (canSafe s f).pix = s.pix ∧ (canSafe s f).gal = s.gal ∧ (canSafe
    s f).eng = s.eng ∧ (canSafe s f).stats = s.stats ∧ (canSafe s f).shd = s.shd ∧ (canSafe s f).diag = s.diag ∧
    (canSafe s f).cal = s.cal ∧ (canSafe s f).net = s.net ∧ (canSafe s f).mbx = s.mbx ∧ (canSafe s f).io = s.io ∧
    (canSafe s f).pins = s.pins ∧ (canSafe s f).aux = s.aux ∧ (canSafe s f).clk = s.clk ∧ (canSafe s f).pwr = s.pwr ∧
    (canSafe s f).boot = s.boot ∧ (canSafe s f).thm = s.thm ∧ (canSafe s f).ddr = s.ddr ∧ (canSafe s f).mram = s.mram
    ∧ (canSafe s f).flash = s.flash ∧ (canSafe s f).evt = s.evt := by
  unfold canSafe
  simp
def canSafeRegs : List Field := safeRecordRegs ++ [CAN.DROP.COUNT]
@[simp] theorem canSafe_word {key : Nat} (hk : Outside canSafeRegs key) (s : State) (f : CanFrame)  : wordAt (canSafe
    s f).regs key = wordAt s.regs key := by
  simp only [canSafeRegs, outside_append, outside_cons, outside_nil, and_true] at hk
  unfold canSafe
  simp [hk]
@[simp] theorem busOff_keep (s : State) : (busOff s).pending = s.pending ∧ (busOff s).act = s.act ∧ (busOff s).lt =
    s.lt ∧ (busOff s).synced = s.synced ∧ (busOff s).free = s.free ∧ (busOff s).dram = s.dram ∧ (busOff s).pix = s.pix
    ∧ (busOff s).gal = s.gal ∧ (busOff s).eng = s.eng ∧ (busOff s).stats = s.stats ∧ (busOff s).shd = s.shd ∧ (busOff
    s).guard = s.guard ∧ (busOff s).diag = s.diag ∧ (busOff s).cal = s.cal ∧ (busOff s).net = s.net ∧ (busOff s).mbx =
    s.mbx ∧ (busOff s).io = s.io ∧ (busOff s).pins = s.pins ∧ (busOff s).aux = s.aux ∧ (busOff s).clk = s.clk ∧
    (busOff s).pwr = s.pwr ∧ (busOff s).boot = s.boot ∧ (busOff s).thm = s.thm ∧ (busOff s).ddr = s.ddr ∧ (busOff
    s).mram = s.mram ∧ (busOff s).flash = s.flash ∧ (busOff s).evt = s.evt := by
  unfold busOff
  simp
def busOffRegs : List Field := raiseFaultRegs ++ [CAN.STATUS.BUS_OFF, CAN.STATUS.STATE]
@[simp] theorem busOff_word {key : Nat} (hk : Outside busOffRegs key) (s : State)  : wordAt (busOff s).regs key =
    wordAt s.regs key := by
  simp only [busOffRegs, outside_append, outside_cons, outside_nil, and_true] at hk
  unfold busOff
  simp [hk]
@[simp] theorem canError_keep (s : State) (k : CanErrorKind) : (canError s k).pending = s.pending ∧ (canError s k).act
    = s.act ∧ (canError s k).lt = s.lt ∧ (canError s k).synced = s.synced ∧ (canError s k).free = s.free ∧ (canError s
    k).dram = s.dram ∧ (canError s k).scan = s.scan ∧ (canError s k).pix = s.pix ∧ (canError s k).gal = s.gal ∧
    (canError s k).eng = s.eng ∧ (canError s k).stats = s.stats ∧ (canError s k).shd = s.shd ∧ (canError s k).guard =
    s.guard ∧ (canError s k).diag = s.diag ∧ (canError s k).cal = s.cal ∧ (canError s k).net = s.net ∧ (canError s
    k).mbx = s.mbx ∧ (canError s k).io = s.io ∧ (canError s k).pins = s.pins ∧ (canError s k).aux = s.aux ∧ (canError
    s k).clk = s.clk ∧ (canError s k).pwr = s.pwr ∧ (canError s k).boot = s.boot ∧ (canError s k).thm = s.thm ∧
    (canError s k).ddr = s.ddr ∧ (canError s k).mram = s.mram ∧ (canError s k).flash = s.flash ∧ (canError s k).flt =
    s.flt ∧ (canError s k).evt = s.evt := by
  unfold canError
  split <;> simp
def canErrorRegs : List Field := [CAN.STATUS.REC, CAN.STATUS.STATE, CAN.STATUS.TEC]
@[simp] theorem canError_word {key : Nat} (hk : Outside canErrorRegs key) (s : State) (k : CanErrorKind)  : wordAt
    (canError s k).regs key = wordAt s.regs key := by
  simp only [canErrorRegs, outside_append, outside_cons, outside_nil, and_true] at hk
  unfold canError
  split <;> simp [hk]
@[simp] theorem headroomStep_keep (s : State) (flags : Nat) : (headroomStep s flags).pending = s.pending ∧
    (headroomStep s flags).regs = s.regs ∧ (headroomStep s flags).act = s.act ∧ (headroomStep s flags).lt = s.lt ∧
    (headroomStep s flags).synced = s.synced ∧ (headroomStep s flags).free = s.free ∧ (headroomStep s flags).dram =
    s.dram ∧ (headroomStep s flags).pix = s.pix ∧ (headroomStep s flags).gal = s.gal ∧ (headroomStep s flags).eng =
    s.eng ∧ (headroomStep s flags).stats = s.stats ∧ (headroomStep s flags).shd = s.shd ∧ (headroomStep s flags).guard
    = s.guard ∧ (headroomStep s flags).diag = s.diag ∧ (headroomStep s flags).cal = s.cal ∧ (headroomStep s flags).net
    = s.net ∧ (headroomStep s flags).mbx = s.mbx ∧ (headroomStep s flags).io = s.io ∧ (headroomStep s flags).pins =
    s.pins ∧ (headroomStep s flags).aux = s.aux ∧ (headroomStep s flags).clk = s.clk ∧ (headroomStep s flags).pwr =
    s.pwr ∧ (headroomStep s flags).boot = s.boot ∧ (headroomStep s flags).thm = s.thm ∧ (headroomStep s flags).ddr =
    s.ddr ∧ (headroomStep s flags).mram = s.mram ∧ (headroomStep s flags).flash = s.flash ∧ (headroomStep s flags).flt
    = s.flt ∧ (headroomStep s flags).evt = s.evt := by
  unfold headroomStep
  simp
@[simp] theorem headroom_keep (s : State) (flags : Nat) : (headroom s flags).pending = s.pending ∧ (headroom s
    flags).act = s.act ∧ (headroom s flags).lt = s.lt ∧ (headroom s flags).synced = s.synced ∧ (headroom s flags).free
    = s.free ∧ (headroom s flags).dram = s.dram ∧ (headroom s flags).pix = s.pix ∧ (headroom s flags).gal = s.gal ∧
    (headroom s flags).eng = s.eng ∧ (headroom s flags).stats = s.stats ∧ (headroom s flags).shd = s.shd ∧ (headroom s
    flags).guard = s.guard ∧ (headroom s flags).diag = s.diag ∧ (headroom s flags).cal = s.cal ∧ (headroom s
    flags).net = s.net ∧ (headroom s flags).mbx = s.mbx ∧ (headroom s flags).pins = s.pins ∧ (headroom s flags).aux =
    s.aux ∧ (headroom s flags).clk = s.clk ∧ (headroom s flags).pwr = s.pwr ∧ (headroom s flags).boot = s.boot ∧
    (headroom s flags).thm = s.thm ∧ (headroom s flags).ddr = s.ddr ∧ (headroom s flags).mram = s.mram ∧ (headroom s
    flags).flash = s.flash ∧ (headroom s flags).flt = s.flt ∧ (headroom s flags).evt = s.evt := by
  unfold headroom
  simp
def headroomRegs : List Field := [SCAN.VLED_STATUS.AT_MAX, SCAN.VLED_STATUS.HR_FLAGS]
@[simp] theorem headroom_word {key : Nat} (hk : Outside headroomRegs key) (s : State) (flags : Nat)  : wordAt
    (headroom s flags).regs key = wordAt s.regs key := by
  simp only [headroomRegs, outside_append, outside_cons, outside_nil, and_true] at hk
  unfold headroom
  simp [hk]
@[simp] theorem queueRead_keep (s : State) (reg code : Nat) : (queueRead s reg code).pending = s.pending ∧ (queueRead
    s reg code).regs = s.regs ∧ (queueRead s reg code).act = s.act ∧ (queueRead s reg code).lt = s.lt ∧ (queueRead s
    reg code).synced = s.synced ∧ (queueRead s reg code).free = s.free ∧ (queueRead s reg code).dram = s.dram ∧
    (queueRead s reg code).scan = s.scan ∧ (queueRead s reg code).pix = s.pix ∧ (queueRead s reg code).gal = s.gal ∧
    (queueRead s reg code).eng = s.eng ∧ (queueRead s reg code).stats = s.stats ∧ (queueRead s reg code).shd = s.shd ∧
    (queueRead s reg code).guard = s.guard ∧ (queueRead s reg code).diag = s.diag ∧ (queueRead s reg code).cal = s.cal
    ∧ (queueRead s reg code).net = s.net ∧ (queueRead s reg code).mbx = s.mbx ∧ (queueRead s reg code).pins = s.pins ∧
    (queueRead s reg code).aux = s.aux ∧ (queueRead s reg code).clk = s.clk ∧ (queueRead s reg code).pwr = s.pwr ∧
    (queueRead s reg code).boot = s.boot ∧ (queueRead s reg code).thm = s.thm ∧ (queueRead s reg code).ddr = s.ddr ∧
    (queueRead s reg code).mram = s.mram ∧ (queueRead s reg code).flash = s.flash ∧ (queueRead s reg code).flt = s.flt
    ∧ (queueRead s reg code).evt = s.evt := by
  unfold queueRead
  simp
@[simp] theorem vledWrite_keep (s : State) (ack : Bool) : (vledWrite s ack).pending = s.pending ∧ (vledWrite s
    ack).act = s.act ∧ (vledWrite s ack).lt = s.lt ∧ (vledWrite s ack).synced = s.synced ∧ (vledWrite s ack).free =
    s.free ∧ (vledWrite s ack).dram = s.dram ∧ (vledWrite s ack).pix = s.pix ∧ (vledWrite s ack).gal = s.gal ∧
    (vledWrite s ack).eng = s.eng ∧ (vledWrite s ack).stats = s.stats ∧ (vledWrite s ack).shd = s.shd ∧ (vledWrite s
    ack).guard = s.guard ∧ (vledWrite s ack).diag = s.diag ∧ (vledWrite s ack).cal = s.cal ∧ (vledWrite s ack).net =
    s.net ∧ (vledWrite s ack).mbx = s.mbx ∧ (vledWrite s ack).pins = s.pins ∧ (vledWrite s ack).aux = s.aux ∧
    (vledWrite s ack).clk = s.clk ∧ (vledWrite s ack).pwr = s.pwr ∧ (vledWrite s ack).boot = s.boot ∧ (vledWrite s
    ack).thm = s.thm ∧ (vledWrite s ack).ddr = s.ddr ∧ (vledWrite s ack).mram = s.mram ∧ (vledWrite s ack).flash =
    s.flash ∧ (vledWrite s ack).evt = s.evt := by
  unfold vledWrite
  simp
def vledWriteRegs : List Field := raiseFaultRegs ++ [SCAN.VLED_STATUS.PMBUS_ERR, SCAN.VLED_STATUS.VLED_SET]
@[simp] theorem vledWrite_word {key : Nat} (hk : Outside vledWriteRegs key) (s : State) (ack : Bool)  : wordAt
    (vledWrite s ack).regs key = wordAt s.regs key := by
  simp only [vledWriteRegs, outside_append, outside_cons, outside_nil, and_true] at hk
  unfold vledWrite
  simp [hk]
@[simp] theorem vcoreWrite_keep (s : State) (ack : Bool) : (vcoreWrite s ack).pending = s.pending ∧ (vcoreWrite s
    ack).act = s.act ∧ (vcoreWrite s ack).lt = s.lt ∧ (vcoreWrite s ack).synced = s.synced ∧ (vcoreWrite s ack).free =
    s.free ∧ (vcoreWrite s ack).dram = s.dram ∧ (vcoreWrite s ack).pix = s.pix ∧ (vcoreWrite s ack).gal = s.gal ∧
    (vcoreWrite s ack).eng = s.eng ∧ (vcoreWrite s ack).stats = s.stats ∧ (vcoreWrite s ack).shd = s.shd ∧ (vcoreWrite
    s ack).guard = s.guard ∧ (vcoreWrite s ack).diag = s.diag ∧ (vcoreWrite s ack).cal = s.cal ∧ (vcoreWrite s
    ack).net = s.net ∧ (vcoreWrite s ack).mbx = s.mbx ∧ (vcoreWrite s ack).pins = s.pins ∧ (vcoreWrite s ack).aux =
    s.aux ∧ (vcoreWrite s ack).clk = s.clk ∧ (vcoreWrite s ack).pwr = s.pwr ∧ (vcoreWrite s ack).boot = s.boot ∧
    (vcoreWrite s ack).thm = s.thm ∧ (vcoreWrite s ack).ddr = s.ddr ∧ (vcoreWrite s ack).mram = s.mram ∧ (vcoreWrite s
    ack).flash = s.flash ∧ (vcoreWrite s ack).evt = s.evt := by
  unfold vcoreWrite
  simp
def vcoreWriteRegs : List Field := raiseFaultRegs ++ [CAL.VM_STATUS.PMBUS_ERR, CAL.VM_STATUS.VC_SET]
@[simp] theorem vcoreWrite_word {key : Nat} (hk : Outside vcoreWriteRegs key) (s : State) (ack : Bool)  : wordAt
    (vcoreWrite s ack).regs key = wordAt s.regs key := by
  simp only [vcoreWriteRegs, outside_append, outside_cons, outside_nil, and_true] at hk
  unfold vcoreWrite
  simp [hk]
@[simp] theorem pmbusErr_keep (s : State) (reg : Nat) : (pmbusErr s reg).pending = s.pending ∧ (pmbusErr s reg).act =
    s.act ∧ (pmbusErr s reg).lt = s.lt ∧ (pmbusErr s reg).synced = s.synced ∧ (pmbusErr s reg).free = s.free ∧
    (pmbusErr s reg).dram = s.dram ∧ (pmbusErr s reg).scan = s.scan ∧ (pmbusErr s reg).pix = s.pix ∧ (pmbusErr s
    reg).gal = s.gal ∧ (pmbusErr s reg).eng = s.eng ∧ (pmbusErr s reg).stats = s.stats ∧ (pmbusErr s reg).shd = s.shd
    ∧ (pmbusErr s reg).guard = s.guard ∧ (pmbusErr s reg).diag = s.diag ∧ (pmbusErr s reg).cal = s.cal ∧ (pmbusErr s
    reg).net = s.net ∧ (pmbusErr s reg).mbx = s.mbx ∧ (pmbusErr s reg).io = s.io ∧ (pmbusErr s reg).pins = s.pins ∧
    (pmbusErr s reg).aux = s.aux ∧ (pmbusErr s reg).clk = s.clk ∧ (pmbusErr s reg).pwr = s.pwr ∧ (pmbusErr s reg).boot
    = s.boot ∧ (pmbusErr s reg).thm = s.thm ∧ (pmbusErr s reg).ddr = s.ddr ∧ (pmbusErr s reg).mram = s.mram ∧
    (pmbusErr s reg).flash = s.flash ∧ (pmbusErr s reg).flt = s.flt ∧ (pmbusErr s reg).evt = s.evt := by
  unfold pmbusErr
  simp
def pmbusErrRegs : List Field := [CAL.VM_STATUS.PMBUS_ERR, SCAN.VLED_STATUS.PMBUS_ERR]
@[simp] theorem pmbusErr_word {key : Nat} (hk : Outside pmbusErrRegs key) (s : State) (reg : Nat)  : wordAt (pmbusErr
    s reg).regs key = wordAt s.regs key := by
  simp only [pmbusErrRegs, outside_append, outside_cons, outside_nil, and_true] at hk
  unfold pmbusErr
  split <;> simp [hk]
@[simp] theorem pmbusRead_keep (s : State) (reg code : Nat) (ack : Bool) (reply : Nat) : (pmbusRead s reg code ack
    reply).pending = s.pending ∧ (pmbusRead s reg code ack reply).act = s.act ∧ (pmbusRead s reg code ack reply).lt =
    s.lt ∧ (pmbusRead s reg code ack reply).synced = s.synced ∧ (pmbusRead s reg code ack reply).free = s.free ∧
    (pmbusRead s reg code ack reply).dram = s.dram ∧ (pmbusRead s reg code ack reply).scan = s.scan ∧ (pmbusRead s reg
    code ack reply).pix = s.pix ∧ (pmbusRead s reg code ack reply).gal = s.gal ∧ (pmbusRead s reg code ack reply).eng
    = s.eng ∧ (pmbusRead s reg code ack reply).stats = s.stats ∧ (pmbusRead s reg code ack reply).shd = s.shd ∧
    (pmbusRead s reg code ack reply).guard = s.guard ∧ (pmbusRead s reg code ack reply).diag = s.diag ∧ (pmbusRead s
    reg code ack reply).cal = s.cal ∧ (pmbusRead s reg code ack reply).net = s.net ∧ (pmbusRead s reg code ack
    reply).mbx = s.mbx ∧ (pmbusRead s reg code ack reply).pins = s.pins ∧ (pmbusRead s reg code ack reply).aux = s.aux
    ∧ (pmbusRead s reg code ack reply).clk = s.clk ∧ (pmbusRead s reg code ack reply).pwr = s.pwr ∧ (pmbusRead s reg
    code ack reply).boot = s.boot ∧ (pmbusRead s reg code ack reply).thm = s.thm ∧ (pmbusRead s reg code ack
    reply).ddr = s.ddr ∧ (pmbusRead s reg code ack reply).mram = s.mram ∧ (pmbusRead s reg code ack reply).flash =
    s.flash ∧ (pmbusRead s reg code ack reply).evt = s.evt := by
  unfold pmbusRead
  simp
def pmbusReadRegs : List Field := pmbusErrRegs
@[simp] theorem pmbusRead_word {key : Nat} (hk : Outside pmbusReadRegs key) (s : State) (reg code : Nat) (ack : Bool)
    (reply : Nat)  : wordAt (pmbusRead s reg code ack reply).regs key = wordAt s.regs key := by
  simp only [pmbusReadRegs, outside_append, outside_cons, outside_nil, and_true] at hk
  unfold pmbusRead
  simp [hk]
@[simp] theorem pmbus_keep (s : State) (ack : Bool) (reply : Nat) : (pmbus s ack reply).pending = s.pending ∧ (pmbus s
    ack reply).act = s.act ∧ (pmbus s ack reply).lt = s.lt ∧ (pmbus s ack reply).synced = s.synced ∧ (pmbus s ack
    reply).free = s.free ∧ (pmbus s ack reply).dram = s.dram ∧ (pmbus s ack reply).pix = s.pix ∧ (pmbus s ack
    reply).gal = s.gal ∧ (pmbus s ack reply).eng = s.eng ∧ (pmbus s ack reply).stats = s.stats ∧ (pmbus s ack
    reply).shd = s.shd ∧ (pmbus s ack reply).guard = s.guard ∧ (pmbus s ack reply).diag = s.diag ∧ (pmbus s ack
    reply).cal = s.cal ∧ (pmbus s ack reply).net = s.net ∧ (pmbus s ack reply).mbx = s.mbx ∧ (pmbus s ack reply).pins
    = s.pins ∧ (pmbus s ack reply).aux = s.aux ∧ (pmbus s ack reply).clk = s.clk ∧ (pmbus s ack reply).pwr = s.pwr ∧
    (pmbus s ack reply).boot = s.boot ∧ (pmbus s ack reply).thm = s.thm ∧ (pmbus s ack reply).ddr = s.ddr ∧ (pmbus s
    ack reply).mram = s.mram ∧ (pmbus s ack reply).flash = s.flash ∧ (pmbus s ack reply).evt = s.evt := by
  unfold pmbus
  (try simp) <;> (repeat' apply And.intro) <;> (repeat' split) <;> (try simp)
def pmbusRegs : List Field := vledWriteRegs ++ vcoreWriteRegs ++ pmbusReadRegs
@[simp] theorem pmbus_word {key : Nat} (hk : Outside pmbusRegs key) (s : State) (ack : Bool) (reply : Nat)  : wordAt
    (pmbus s ack reply).regs key = wordAt s.regs key := by
  simp only [pmbusRegs, outside_append, outside_cons, outside_nil, and_true] at hk
  unfold pmbus
  (repeat' split) <;> (try simp [hk])
@[simp] theorem applyPin_keep (s : State) (n : Nat) : (applyPin s n).pending = s.pending ∧ (applyPin s n).regs =
    s.regs ∧ (applyPin s n).lt = s.lt ∧ (applyPin s n).synced = s.synced ∧ (applyPin s n).free = s.free ∧ (applyPin s
    n).dram = s.dram ∧ (applyPin s n).scan = s.scan ∧ (applyPin s n).pix = s.pix ∧ (applyPin s n).gal = s.gal ∧
    (applyPin s n).eng = s.eng ∧ (applyPin s n).stats = s.stats ∧ (applyPin s n).shd = s.shd ∧ (applyPin s n).guard =
    s.guard ∧ (applyPin s n).diag = s.diag ∧ (applyPin s n).cal = s.cal ∧ (applyPin s n).net = s.net ∧ (applyPin s
    n).mbx = s.mbx ∧ (applyPin s n).io = s.io ∧ (applyPin s n).pins = s.pins ∧ (applyPin s n).aux = s.aux ∧ (applyPin
    s n).clk = s.clk ∧ (applyPin s n).pwr = s.pwr ∧ (applyPin s n).boot = s.boot ∧ (applyPin s n).thm = s.thm ∧
    (applyPin s n).ddr = s.ddr ∧ (applyPin s n).mram = s.mram ∧ (applyPin s n).flash = s.flash ∧ (applyPin s n).flt =
    s.flt ∧ (applyPin s n).evt = s.evt := by
  unfold applyPin
  simp
@[simp] theorem iomuxApply_keep (s : State) : (iomuxApply s).pending = s.pending ∧ (iomuxApply s).lt = s.lt ∧
    (iomuxApply s).synced = s.synced ∧ (iomuxApply s).free = s.free ∧ (iomuxApply s).dram = s.dram ∧ (iomuxApply
    s).scan = s.scan ∧ (iomuxApply s).pix = s.pix ∧ (iomuxApply s).gal = s.gal ∧ (iomuxApply s).eng = s.eng ∧
    (iomuxApply s).stats = s.stats ∧ (iomuxApply s).shd = s.shd ∧ (iomuxApply s).guard = s.guard ∧ (iomuxApply s).diag
    = s.diag ∧ (iomuxApply s).cal = s.cal ∧ (iomuxApply s).net = s.net ∧ (iomuxApply s).mbx = s.mbx ∧ (iomuxApply
    s).io = s.io ∧ (iomuxApply s).pins = s.pins ∧ (iomuxApply s).aux = s.aux ∧ (iomuxApply s).clk = s.clk ∧
    (iomuxApply s).pwr = s.pwr ∧ (iomuxApply s).boot = s.boot ∧ (iomuxApply s).thm = s.thm ∧ (iomuxApply s).ddr =
    s.ddr ∧ (iomuxApply s).mram = s.mram ∧ (iomuxApply s).flash = s.flash ∧ (iomuxApply s).flt = s.flt ∧ (iomuxApply
    s).evt = s.evt := by
  unfold iomuxApply
  split <;> simp
def iomuxApplyRegs : List Field := wignRegs ++ [IOMUX.STATUS.CONFLICT, IOMUX.STATUS.CONF_PIN, IOMUX.STATUS.WIGN]
@[simp] theorem iomuxApply_word {key : Nat} (hk : Outside iomuxApplyRegs key) (s : State)  : wordAt (iomuxApply
    s).regs key = wordAt s.regs key := by
  simp only [iomuxApplyRegs, outside_append, outside_cons, outside_nil, and_true] at hk
  unfold iomuxApply
  split <;> simp [hk]

end Sys2Proof.Machine
end

