-- ==== Sys2Proof/Laws/FrameDiag.lean ====
section
/-! SUPPORT. FrameDiag.lean: for each operation of Machine/Diag.lean, the parts of State that it leaves alone and the register
fields outside which it changes none. -/

set_option linter.unusedSimpArgs false

namespace Sys2Proof.Machine

set_option Elab.async false

@[simp] theorem addToMap_keep (s : State) (c r kind : Nat) (inj : Bool) : (addToMap s c r kind inj).pending =
    s.pending ∧ (addToMap s c r kind inj).act = s.act ∧ (addToMap s c r kind inj).lt = s.lt ∧ (addToMap s c r kind
    inj).synced = s.synced ∧ (addToMap s c r kind inj).free = s.free ∧ (addToMap s c r kind inj).dram = s.dram ∧
    (addToMap s c r kind inj).pix = s.pix ∧ (addToMap s c r kind inj).gal = s.gal ∧ (addToMap s c r kind inj).eng =
    s.eng ∧ (addToMap s c r kind inj).stats = s.stats ∧ (addToMap s c r kind inj).shd = s.shd ∧ (addToMap s c r kind
    inj).guard = s.guard ∧ (addToMap s c r kind inj).cal = s.cal ∧ (addToMap s c r kind inj).net = s.net ∧ (addToMap s
    c r kind inj).mbx = s.mbx ∧ (addToMap s c r kind inj).io = s.io ∧ (addToMap s c r kind inj).pins = s.pins ∧
    (addToMap s c r kind inj).aux = s.aux ∧ (addToMap s c r kind inj).clk = s.clk ∧ (addToMap s c r kind inj).pwr =
    s.pwr ∧ (addToMap s c r kind inj).boot = s.boot ∧ (addToMap s c r kind inj).thm = s.thm ∧ (addToMap s c r kind
    inj).ddr = s.ddr ∧ (addToMap s c r kind inj).mram = s.mram ∧ (addToMap s c r kind inj).flash = s.flash ∧ (addToMap
    s c r kind inj).evt = s.evt := by
  unfold addToMap
  simp
def addToMapRegs : List Field := raiseFaultRegs ++ [DIAG.STATUS.CLUSTER, DIAG.UNMAPPED.COUNT]
@[simp] theorem addToMap_word {key : Nat} (hk : Outside addToMapRegs key) (s : State) (c r kind : Nat) (inj : Bool)  :
    wordAt (addToMap s c r kind inj).regs key = wordAt s.regs key := by
  simp only [addToMapRegs, outside_append, outside_cons, outside_nil, and_true] at hk
  unfold addToMap
  simp [hk]
@[simp] theorem isolateAndMap_keep (s : State) (c r kind : Nat) (inj : Bool) : (isolateAndMap s c r kind inj).pending
    = s.pending ∧ (isolateAndMap s c r kind inj).act = s.act ∧ (isolateAndMap s c r kind inj).lt = s.lt ∧
    (isolateAndMap s c r kind inj).synced = s.synced ∧ (isolateAndMap s c r kind inj).free = s.free ∧ (isolateAndMap s
    c r kind inj).dram = s.dram ∧ (isolateAndMap s c r kind inj).gal = s.gal ∧ (isolateAndMap s c r kind inj).eng =
    s.eng ∧ (isolateAndMap s c r kind inj).stats = s.stats ∧ (isolateAndMap s c r kind inj).shd = s.shd ∧
    (isolateAndMap s c r kind inj).guard = s.guard ∧ (isolateAndMap s c r kind inj).cal = s.cal ∧ (isolateAndMap s c r
    kind inj).net = s.net ∧ (isolateAndMap s c r kind inj).mbx = s.mbx ∧ (isolateAndMap s c r kind inj).io = s.io ∧
    (isolateAndMap s c r kind inj).pins = s.pins ∧ (isolateAndMap s c r kind inj).aux = s.aux ∧ (isolateAndMap s c r
    kind inj).clk = s.clk ∧ (isolateAndMap s c r kind inj).pwr = s.pwr ∧ (isolateAndMap s c r kind inj).boot = s.boot
    ∧ (isolateAndMap s c r kind inj).thm = s.thm ∧ (isolateAndMap s c r kind inj).ddr = s.ddr ∧ (isolateAndMap s c r
    kind inj).mram = s.mram ∧ (isolateAndMap s c r kind inj).flash = s.flash ∧ (isolateAndMap s c r kind inj).evt =
    s.evt := by
  unfold isolateAndMap
  simp
def isolateAndMapRegs : List Field := writeTrimRegs ++ addToMapRegs ++ [DIAG.STATUS.STUCK]
@[simp] theorem isolateAndMap_word {key : Nat} (hk : Outside isolateAndMapRegs key) (s : State) (c r kind : Nat) (inj
    : Bool)  : wordAt (isolateAndMap s c r kind inj).regs key = wordAt s.regs key := by
  simp only [isolateAndMapRegs, outside_append, outside_cons, outside_nil, and_true] at hk
  unfold isolateAndMap
  simp [hk]
@[simp] theorem declare_keep (s : State) (c r kind : Nat) (other : Option (Nat × Nat)) (inj : Bool) : (declare s c r
    kind other inj).pending = s.pending ∧ (declare s c r kind other inj).act = s.act ∧ (declare s c r kind other
    inj).lt = s.lt ∧ (declare s c r kind other inj).synced = s.synced ∧ (declare s c r kind other inj).free = s.free ∧
    (declare s c r kind other inj).dram = s.dram ∧ (declare s c r kind other inj).gal = s.gal ∧ (declare s c r kind
    other inj).eng = s.eng ∧ (declare s c r kind other inj).stats = s.stats ∧ (declare s c r kind other inj).shd =
    s.shd ∧ (declare s c r kind other inj).guard = s.guard ∧ (declare s c r kind other inj).cal = s.cal ∧ (declare s c
    r kind other inj).net = s.net ∧ (declare s c r kind other inj).mbx = s.mbx ∧ (declare s c r kind other inj).io =
    s.io ∧ (declare s c r kind other inj).pins = s.pins ∧ (declare s c r kind other inj).aux = s.aux ∧ (declare s c r
    kind other inj).clk = s.clk ∧ (declare s c r kind other inj).pwr = s.pwr ∧ (declare s c r kind other inj).boot =
    s.boot ∧ (declare s c r kind other inj).thm = s.thm ∧ (declare s c r kind other inj).ddr = s.ddr ∧ (declare s c r
    kind other inj).mram = s.mram ∧ (declare s c r kind other inj).flash = s.flash ∧ (declare s c r kind other
    inj).evt = s.evt := by
  unfold declare
  split <;> simp
def declareRegs : List Field := isolateAndMapRegs ++ raiseEitherRegs ++ [DIAG.STATUS.NEW_DEAD]
@[simp] theorem declare_word {key : Nat} (hk : Outside declareRegs key) (s : State) (c r kind : Nat) (other : Option
    (Nat × Nat)) (inj : Bool)  : wordAt (declare s c r kind other inj).regs key = wordAt s.regs key := by
  simp only [declareRegs, outside_append, outside_cons, outside_nil, and_true] at hk
  unfold declare
  split <;> simp [hk]
@[simp] theorem lineFault_keep (s : State) (isCol : Bool) (n kind : Nat) : (lineFault s isCol n kind).pending =
    s.pending ∧ (lineFault s isCol n kind).act = s.act ∧ (lineFault s isCol n kind).lt = s.lt ∧ (lineFault s isCol n
    kind).synced = s.synced ∧ (lineFault s isCol n kind).free = s.free ∧ (lineFault s isCol n kind).dram = s.dram ∧
    (lineFault s isCol n kind).gal = s.gal ∧ (lineFault s isCol n kind).eng = s.eng ∧ (lineFault s isCol n kind).stats
    = s.stats ∧ (lineFault s isCol n kind).shd = s.shd ∧ (lineFault s isCol n kind).guard = s.guard ∧ (lineFault s
    isCol n kind).cal = s.cal ∧ (lineFault s isCol n kind).net = s.net ∧ (lineFault s isCol n kind).mbx = s.mbx ∧
    (lineFault s isCol n kind).io = s.io ∧ (lineFault s isCol n kind).pins = s.pins ∧ (lineFault s isCol n kind).aux =
    s.aux ∧ (lineFault s isCol n kind).clk = s.clk ∧ (lineFault s isCol n kind).pwr = s.pwr ∧ (lineFault s isCol n
    kind).boot = s.boot ∧ (lineFault s isCol n kind).thm = s.thm ∧ (lineFault s isCol n kind).ddr = s.ddr ∧ (lineFault
    s isCol n kind).mram = s.mram ∧ (lineFault s isCol n kind).flash = s.flash ∧ (lineFault s isCol n kind).evt =
    s.evt := by
  unfold lineFault
  simp [-List.reduceReplicate]
def lineFaultRegs : List Field := raiseFaultRegs ++ writeTrimRowRegs ++ [DIAG.LINE.COL_FAULTS, DIAG.LINE.FIRST_COL,
    DIAG.LINE.FIRST_ROW, DIAG.LINE.ROW_FAULTS, DIAG.STATUS.LINE_FAULT]
@[simp] theorem lineFault_word {key : Nat} (hk : Outside lineFaultRegs key) (s : State) (isCol : Bool) (n kind : Nat)
    : wordAt (lineFault s isCol n kind).regs key = wordAt s.regs key := by
  simp only [lineFaultRegs, outside_append, outside_cons, outside_nil, and_true] at hk
  unfold lineFault
  simp [hk, -List.reduceReplicate]
@[simp] theorem checkStuck_keep (s : State) (r : Nat) (samples : List PixelSample) : (checkStuck s r samples).pending
    = s.pending ∧ (checkStuck s r samples).act = s.act ∧ (checkStuck s r samples).lt = s.lt ∧ (checkStuck s r
    samples).synced = s.synced ∧ (checkStuck s r samples).free = s.free ∧ (checkStuck s r samples).dram = s.dram ∧
    (checkStuck s r samples).pix = s.pix ∧ (checkStuck s r samples).gal = s.gal ∧ (checkStuck s r samples).eng = s.eng
    ∧ (checkStuck s r samples).stats = s.stats ∧ (checkStuck s r samples).shd = s.shd ∧ (checkStuck s r samples).guard
    = s.guard ∧ (checkStuck s r samples).cal = s.cal ∧ (checkStuck s r samples).net = s.net ∧ (checkStuck s r
    samples).mbx = s.mbx ∧ (checkStuck s r samples).io = s.io ∧ (checkStuck s r samples).pins = s.pins ∧ (checkStuck s
    r samples).aux = s.aux ∧ (checkStuck s r samples).clk = s.clk ∧ (checkStuck s r samples).pwr = s.pwr ∧ (checkStuck
    s r samples).boot = s.boot ∧ (checkStuck s r samples).thm = s.thm ∧ (checkStuck s r samples).ddr = s.ddr ∧
    (checkStuck s r samples).mram = s.mram ∧ (checkStuck s r samples).flash = s.flash ∧ (checkStuck s r samples).evt =
    s.evt := by
  unfold checkStuck
  simp
def checkStuckRegs : List Field := raiseFaultRegs
@[simp] theorem checkStuck_word {key : Nat} (hk : Outside checkStuckRegs key) (s : State) (r : Nat) (samples : List
    PixelSample)  : wordAt (checkStuck s r samples).regs key = wordAt s.regs key := by
  simp only [checkStuckRegs, outside_append, outside_cons, outside_nil, and_true] at hk
  unfold checkStuck
  simp [hk]
@[simp] theorem noteVisit_keep (s : State) (onlyStuck : Bool) (c r : Nat) : (noteVisit s onlyStuck c r).pending =
    s.pending ∧ (noteVisit s onlyStuck c r).regs = s.regs ∧ (noteVisit s onlyStuck c r).act = s.act ∧ (noteVisit s
    onlyStuck c r).lt = s.lt ∧ (noteVisit s onlyStuck c r).synced = s.synced ∧ (noteVisit s onlyStuck c r).free =
    s.free ∧ (noteVisit s onlyStuck c r).dram = s.dram ∧ (noteVisit s onlyStuck c r).scan = s.scan ∧ (noteVisit s
    onlyStuck c r).pix = s.pix ∧ (noteVisit s onlyStuck c r).gal = s.gal ∧ (noteVisit s onlyStuck c r).eng = s.eng ∧
    (noteVisit s onlyStuck c r).stats = s.stats ∧ (noteVisit s onlyStuck c r).shd = s.shd ∧ (noteVisit s onlyStuck c
    r).guard = s.guard ∧ (noteVisit s onlyStuck c r).cal = s.cal ∧ (noteVisit s onlyStuck c r).net = s.net ∧
    (noteVisit s onlyStuck c r).mbx = s.mbx ∧ (noteVisit s onlyStuck c r).io = s.io ∧ (noteVisit s onlyStuck c r).pins
    = s.pins ∧ (noteVisit s onlyStuck c r).aux = s.aux ∧ (noteVisit s onlyStuck c r).clk = s.clk ∧ (noteVisit s
    onlyStuck c r).pwr = s.pwr ∧ (noteVisit s onlyStuck c r).boot = s.boot ∧ (noteVisit s onlyStuck c r).thm = s.thm ∧
    (noteVisit s onlyStuck c r).ddr = s.ddr ∧ (noteVisit s onlyStuck c r).mram = s.mram ∧ (noteVisit s onlyStuck c
    r).flash = s.flash ∧ (noteVisit s onlyStuck c r).flt = s.flt ∧ (noteVisit s onlyStuck c r).evt = s.evt := by
  unfold noteVisit
  simp
@[simp] theorem suspectPixel_keep (s : State) (r parity c kind : Nat) (other : Option (Nat × Nat)) : (suspectPixel s r
    parity c kind other).pending = s.pending ∧ (suspectPixel s r parity c kind other).act = s.act ∧ (suspectPixel s r
    parity c kind other).lt = s.lt ∧ (suspectPixel s r parity c kind other).synced = s.synced ∧ (suspectPixel s r
    parity c kind other).free = s.free ∧ (suspectPixel s r parity c kind other).dram = s.dram ∧ (suspectPixel s r
    parity c kind other).gal = s.gal ∧ (suspectPixel s r parity c kind other).eng = s.eng ∧ (suspectPixel s r parity c
    kind other).stats = s.stats ∧ (suspectPixel s r parity c kind other).shd = s.shd ∧ (suspectPixel s r parity c kind
    other).guard = s.guard ∧ (suspectPixel s r parity c kind other).cal = s.cal ∧ (suspectPixel s r parity c kind
    other).net = s.net ∧ (suspectPixel s r parity c kind other).mbx = s.mbx ∧ (suspectPixel s r parity c kind
    other).io = s.io ∧ (suspectPixel s r parity c kind other).pins = s.pins ∧ (suspectPixel s r parity c kind
    other).aux = s.aux ∧ (suspectPixel s r parity c kind other).clk = s.clk ∧ (suspectPixel s r parity c kind
    other).pwr = s.pwr ∧ (suspectPixel s r parity c kind other).boot = s.boot ∧ (suspectPixel s r parity c kind
    other).thm = s.thm ∧ (suspectPixel s r parity c kind other).ddr = s.ddr ∧ (suspectPixel s r parity c kind
    other).mram = s.mram ∧ (suspectPixel s r parity c kind other).flash = s.flash ∧ (suspectPixel s r parity c kind
    other).evt = s.evt := by
  unfold suspectPixel
  simp
def suspectPixelRegs : List Field := declareRegs
@[simp] theorem suspectPixel_word {key : Nat} (hk : Outside suspectPixelRegs key) (s : State) (r parity c kind : Nat)
    (other : Option (Nat × Nat))  : wordAt (suspectPixel s r parity c kind other).regs key = wordAt s.regs key := by
  simp only [suspectPixelRegs, outside_append, outside_cons, outside_nil, and_true] at hk
  unfold suspectPixel
  simp [hk]
@[simp] theorem countFailure_keep (s : State) (r parity c kind : Nat) (other : Option (Nat × Nat)) : (countFailure s r
    parity c kind other).pending = s.pending ∧ (countFailure s r parity c kind other).act = s.act ∧ (countFailure s r
    parity c kind other).lt = s.lt ∧ (countFailure s r parity c kind other).synced = s.synced ∧ (countFailure s r
    parity c kind other).free = s.free ∧ (countFailure s r parity c kind other).dram = s.dram ∧ (countFailure s r
    parity c kind other).gal = s.gal ∧ (countFailure s r parity c kind other).eng = s.eng ∧ (countFailure s r parity c
    kind other).stats = s.stats ∧ (countFailure s r parity c kind other).shd = s.shd ∧ (countFailure s r parity c kind
    other).guard = s.guard ∧ (countFailure s r parity c kind other).cal = s.cal ∧ (countFailure s r parity c kind
    other).net = s.net ∧ (countFailure s r parity c kind other).mbx = s.mbx ∧ (countFailure s r parity c kind
    other).io = s.io ∧ (countFailure s r parity c kind other).pins = s.pins ∧ (countFailure s r parity c kind
    other).aux = s.aux ∧ (countFailure s r parity c kind other).clk = s.clk ∧ (countFailure s r parity c kind
    other).pwr = s.pwr ∧ (countFailure s r parity c kind other).boot = s.boot ∧ (countFailure s r parity c kind
    other).thm = s.thm ∧ (countFailure s r parity c kind other).ddr = s.ddr ∧ (countFailure s r parity c kind
    other).mram = s.mram ∧ (countFailure s r parity c kind other).flash = s.flash ∧ (countFailure s r parity c kind
    other).evt = s.evt := by
  unfold countFailure
  simp
def countFailureRegs : List Field := lineFaultRegs ++ suspectPixelRegs
@[simp] theorem countFailure_word {key : Nat} (hk : Outside countFailureRegs key) (s : State) (r parity c kind : Nat)
    (other : Option (Nat × Nat))  : wordAt (countFailure s r parity c kind other).regs key = wordAt s.regs key := by
  simp only [countFailureRegs, outside_append, outside_cons, outside_nil, and_true] at hk
  unfold countFailure
  simp [hk]
@[simp] theorem countFinding_keep (r parity : Nat) (s : State) (p : Nat × Option (Nat × Option (Nat × Nat))) :
    (countFinding r parity s p).pending = s.pending ∧ (countFinding r parity s p).act = s.act ∧ (countFinding r parity
    s p).lt = s.lt ∧ (countFinding r parity s p).synced = s.synced ∧ (countFinding r parity s p).free = s.free ∧
    (countFinding r parity s p).dram = s.dram ∧ (countFinding r parity s p).gal = s.gal ∧ (countFinding r parity s
    p).eng = s.eng ∧ (countFinding r parity s p).stats = s.stats ∧ (countFinding r parity s p).shd = s.shd ∧
    (countFinding r parity s p).guard = s.guard ∧ (countFinding r parity s p).cal = s.cal ∧ (countFinding r parity s
    p).net = s.net ∧ (countFinding r parity s p).mbx = s.mbx ∧ (countFinding r parity s p).io = s.io ∧ (countFinding r
    parity s p).pins = s.pins ∧ (countFinding r parity s p).aux = s.aux ∧ (countFinding r parity s p).clk = s.clk ∧
    (countFinding r parity s p).pwr = s.pwr ∧ (countFinding r parity s p).boot = s.boot ∧ (countFinding r parity s
    p).thm = s.thm ∧ (countFinding r parity s p).ddr = s.ddr ∧ (countFinding r parity s p).mram = s.mram ∧
    (countFinding r parity s p).flash = s.flash ∧ (countFinding r parity s p).evt = s.evt := by
  unfold countFinding
  split <;> simp
def countFindingRegs : List Field := countFailureRegs
@[simp] theorem countFinding_word {key : Nat} (hk : Outside countFindingRegs key) (r parity : Nat) (s : State) (p :
    Nat × Option (Nat × Option (Nat × Nat)))  : wordAt (countFinding r parity s p).regs key = wordAt s.regs key := by
  simp only [countFindingRegs, outside_append, outside_cons, outside_nil, and_true] at hk
  unfold countFinding
  split <;> simp [hk]
@[simp] theorem senseVisit_keep (s : State) (r parity : Nat) (samples : List PixelSample) : (senseVisit s r parity
    samples).pending = s.pending ∧ (senseVisit s r parity samples).act = s.act ∧ (senseVisit s r parity samples).lt =
    s.lt ∧ (senseVisit s r parity samples).synced = s.synced ∧ (senseVisit s r parity samples).free = s.free ∧
    (senseVisit s r parity samples).dram = s.dram ∧ (senseVisit s r parity samples).gal = s.gal ∧ (senseVisit s r
    parity samples).eng = s.eng ∧ (senseVisit s r parity samples).stats = s.stats ∧ (senseVisit s r parity
    samples).shd = s.shd ∧ (senseVisit s r parity samples).guard = s.guard ∧ (senseVisit s r parity samples).cal =
    s.cal ∧ (senseVisit s r parity samples).net = s.net ∧ (senseVisit s r parity samples).mbx = s.mbx ∧ (senseVisit s
    r parity samples).io = s.io ∧ (senseVisit s r parity samples).pins = s.pins ∧ (senseVisit s r parity samples).aux
    = s.aux ∧ (senseVisit s r parity samples).clk = s.clk ∧ (senseVisit s r parity samples).pwr = s.pwr ∧ (senseVisit
    s r parity samples).boot = s.boot ∧ (senseVisit s r parity samples).thm = s.thm ∧ (senseVisit s r parity
    samples).ddr = s.ddr ∧ (senseVisit s r parity samples).mram = s.mram ∧ (senseVisit s r parity samples).flash =
    s.flash ∧ (senseVisit s r parity samples).evt = s.evt := by
  unfold senseVisit
  (try simp) <;> (repeat' apply And.intro) <;> (repeat' split) <;> (try simp)
def senseVisitRegs : List Field := checkStuckRegs ++ declareRegs ++ lineFaultRegs ++ countFindingRegs ++
    [DIAG.DEFER_COUNT.COUNT, DIAG.LEAK_COUNT.COUNT]
@[simp] theorem senseVisit_word {key : Nat} (hk : Outside senseVisitRegs key) (s : State) (r parity : Nat) (samples :
    List PixelSample)  : wordAt (senseVisit s r parity samples).regs key = wordAt s.regs key := by
  simp only [senseVisitRegs, outside_append, outside_cons, outside_nil, and_true] at hk
  unfold senseVisit
  simp only []; (repeat' split) <;> (try simp [hk])
@[simp] theorem opSlot_keep (s : State) (g : Nat) (samples : List PixelSample) : (opSlot s g samples).pending =
    s.pending ∧ (opSlot s g samples).act = s.act ∧ (opSlot s g samples).lt = s.lt ∧ (opSlot s g samples).synced =
    s.synced ∧ (opSlot s g samples).free = s.free ∧ (opSlot s g samples).dram = s.dram ∧ (opSlot s g samples).gal =
    s.gal ∧ (opSlot s g samples).eng = s.eng ∧ (opSlot s g samples).stats = s.stats ∧ (opSlot s g samples).shd = s.shd
    ∧ (opSlot s g samples).guard = s.guard ∧ (opSlot s g samples).cal = s.cal ∧ (opSlot s g samples).net = s.net ∧
    (opSlot s g samples).mbx = s.mbx ∧ (opSlot s g samples).io = s.io ∧ (opSlot s g samples).pins = s.pins ∧ (opSlot s
    g samples).aux = s.aux ∧ (opSlot s g samples).clk = s.clk ∧ (opSlot s g samples).pwr = s.pwr ∧ (opSlot s g
    samples).boot = s.boot ∧ (opSlot s g samples).thm = s.thm ∧ (opSlot s g samples).ddr = s.ddr ∧ (opSlot s g
    samples).mram = s.mram ∧ (opSlot s g samples).flash = s.flash ∧ (opSlot s g samples).evt = s.evt := by
  unfold opSlot
  (try simp) <;> (repeat' apply And.intro) <;> (repeat' split) <;> (try simp)
def opSlotRegs : List Field := senseVisitRegs ++ [DIAG.PREEMPT_COUNT.COUNT]
@[simp] theorem opSlot_word {key : Nat} (hk : Outside opSlotRegs key) (s : State) (g : Nat) (samples : List
    PixelSample)  : wordAt (opSlot s g samples).regs key = wordAt s.regs key := by
  simp only [opSlotRegs, outside_append, outside_cons, outside_nil, and_true] at hk
  unfold opSlot
  (repeat' split) <;> (try simp [hk])
@[simp] theorem diagFrameStart_keep (s : State) : (diagFrameStart s).pending = s.pending ∧ (diagFrameStart s).regs =
    s.regs ∧ (diagFrameStart s).act = s.act ∧ (diagFrameStart s).lt = s.lt ∧ (diagFrameStart s).synced = s.synced ∧
    (diagFrameStart s).free = s.free ∧ (diagFrameStart s).dram = s.dram ∧ (diagFrameStart s).scan = s.scan ∧
    (diagFrameStart s).pix = s.pix ∧ (diagFrameStart s).gal = s.gal ∧ (diagFrameStart s).eng = s.eng ∧ (diagFrameStart
    s).stats = s.stats ∧ (diagFrameStart s).shd = s.shd ∧ (diagFrameStart s).guard = s.guard ∧ (diagFrameStart s).cal
    = s.cal ∧ (diagFrameStart s).net = s.net ∧ (diagFrameStart s).mbx = s.mbx ∧ (diagFrameStart s).io = s.io ∧
    (diagFrameStart s).pins = s.pins ∧ (diagFrameStart s).aux = s.aux ∧ (diagFrameStart s).clk = s.clk ∧
    (diagFrameStart s).pwr = s.pwr ∧ (diagFrameStart s).boot = s.boot ∧ (diagFrameStart s).thm = s.thm ∧
    (diagFrameStart s).ddr = s.ddr ∧ (diagFrameStart s).mram = s.mram ∧ (diagFrameStart s).flash = s.flash ∧
    (diagFrameStart s).flt = s.flt ∧ (diagFrameStart s).evt = s.evt := by
  unfold diagFrameStart
  (try simp) <;> (repeat' apply And.intro) <;> (repeat' split) <;> (try simp)

end Sys2Proof.Machine
end

