-- ==== Sys2Proof/Laws/FrameMram.lean ====
section
/-! SUPPORT. FrameMram.lean: for each operation of Machine/Mram.lean, the parts of State that it leaves alone and the register
fields outside which it changes none. -/

set_option linter.unusedSimpArgs false

namespace Sys2Proof.Machine

set_option Elab.async false

@[simp] theorem commitRecord_keep (s : State) (num : Nat) (data : List Byte) (verified : Bool) : (commitRecord s num
    data verified).pending = s.pending ∧ (commitRecord s num data verified).regs = s.regs ∧ (commitRecord s num data
    verified).act = s.act ∧ (commitRecord s num data verified).lt = s.lt ∧ (commitRecord s num data verified).synced =
    s.synced ∧ (commitRecord s num data verified).free = s.free ∧ (commitRecord s num data verified).dram = s.dram ∧
    (commitRecord s num data verified).scan = s.scan ∧ (commitRecord s num data verified).pix = s.pix ∧ (commitRecord
    s num data verified).gal = s.gal ∧ (commitRecord s num data verified).eng = s.eng ∧ (commitRecord s num data
    verified).stats = s.stats ∧ (commitRecord s num data verified).shd = s.shd ∧ (commitRecord s num data
    verified).guard = s.guard ∧ (commitRecord s num data verified).diag = s.diag ∧ (commitRecord s num data
    verified).cal = s.cal ∧ (commitRecord s num data verified).net = s.net ∧ (commitRecord s num data verified).mbx =
    s.mbx ∧ (commitRecord s num data verified).io = s.io ∧ (commitRecord s num data verified).pins = s.pins ∧
    (commitRecord s num data verified).aux = s.aux ∧ (commitRecord s num data verified).clk = s.clk ∧ (commitRecord s
    num data verified).pwr = s.pwr ∧ (commitRecord s num data verified).boot = s.boot ∧ (commitRecord s num data
    verified).thm = s.thm ∧ (commitRecord s num data verified).ddr = s.ddr ∧ (commitRecord s num data verified).flash
    = s.flash ∧ (commitRecord s num data verified).flt = s.flt ∧ (commitRecord s num data verified).evt = s.evt := by
  unfold commitRecord
  simp
@[simp] theorem commitCal_keep (s : State) : (commitCal s).pending = s.pending ∧ (commitCal s).regs = s.regs ∧
    (commitCal s).act = s.act ∧ (commitCal s).lt = s.lt ∧ (commitCal s).synced = s.synced ∧ (commitCal s).free =
    s.free ∧ (commitCal s).dram = s.dram ∧ (commitCal s).scan = s.scan ∧ (commitCal s).pix = s.pix ∧ (commitCal s).gal
    = s.gal ∧ (commitCal s).eng = s.eng ∧ (commitCal s).stats = s.stats ∧ (commitCal s).shd = s.shd ∧ (commitCal
    s).guard = s.guard ∧ (commitCal s).diag = s.diag ∧ (commitCal s).cal = s.cal ∧ (commitCal s).net = s.net ∧
    (commitCal s).mbx = s.mbx ∧ (commitCal s).io = s.io ∧ (commitCal s).pins = s.pins ∧ (commitCal s).aux = s.aux ∧
    (commitCal s).clk = s.clk ∧ (commitCal s).pwr = s.pwr ∧ (commitCal s).boot = s.boot ∧ (commitCal s).thm = s.thm ∧
    (commitCal s).ddr = s.ddr ∧ (commitCal s).flash = s.flash ∧ (commitCal s).flt = s.flt ∧ (commitCal s).evt = s.evt
    := by
  unfold commitCal
  simp
@[simp] theorem checkpoint_keep (s : State) : (checkpoint s).pending = s.pending ∧ (checkpoint s).regs = s.regs ∧
    (checkpoint s).act = s.act ∧ (checkpoint s).lt = s.lt ∧ (checkpoint s).synced = s.synced ∧ (checkpoint s).free =
    s.free ∧ (checkpoint s).dram = s.dram ∧ (checkpoint s).scan = s.scan ∧ (checkpoint s).pix = s.pix ∧ (checkpoint
    s).gal = s.gal ∧ (checkpoint s).eng = s.eng ∧ (checkpoint s).stats = s.stats ∧ (checkpoint s).shd = s.shd ∧
    (checkpoint s).guard = s.guard ∧ (checkpoint s).diag = s.diag ∧ (checkpoint s).net = s.net ∧ (checkpoint s).mbx =
    s.mbx ∧ (checkpoint s).io = s.io ∧ (checkpoint s).pins = s.pins ∧ (checkpoint s).aux = s.aux ∧ (checkpoint s).clk
    = s.clk ∧ (checkpoint s).pwr = s.pwr ∧ (checkpoint s).boot = s.boot ∧ (checkpoint s).thm = s.thm ∧ (checkpoint
    s).ddr = s.ddr ∧ (checkpoint s).flash = s.flash ∧ (checkpoint s).flt = s.flt ∧ (checkpoint s).evt = s.evt := by
  unfold checkpoint
  simp
@[simp] theorem checkpointOrWait_keep (s : State) : (checkpointOrWait s).pending = s.pending ∧ (checkpointOrWait
    s).regs = s.regs ∧ (checkpointOrWait s).act = s.act ∧ (checkpointOrWait s).lt = s.lt ∧ (checkpointOrWait s).synced
    = s.synced ∧ (checkpointOrWait s).free = s.free ∧ (checkpointOrWait s).dram = s.dram ∧ (checkpointOrWait s).scan =
    s.scan ∧ (checkpointOrWait s).pix = s.pix ∧ (checkpointOrWait s).gal = s.gal ∧ (checkpointOrWait s).eng = s.eng ∧
    (checkpointOrWait s).stats = s.stats ∧ (checkpointOrWait s).shd = s.shd ∧ (checkpointOrWait s).guard = s.guard ∧
    (checkpointOrWait s).diag = s.diag ∧ (checkpointOrWait s).net = s.net ∧ (checkpointOrWait s).mbx = s.mbx ∧
    (checkpointOrWait s).io = s.io ∧ (checkpointOrWait s).pins = s.pins ∧ (checkpointOrWait s).aux = s.aux ∧
    (checkpointOrWait s).clk = s.clk ∧ (checkpointOrWait s).pwr = s.pwr ∧ (checkpointOrWait s).boot = s.boot ∧
    (checkpointOrWait s).thm = s.thm ∧ (checkpointOrWait s).ddr = s.ddr ∧ (checkpointOrWait s).flash = s.flash ∧
    (checkpointOrWait s).flt = s.flt ∧ (checkpointOrWait s).evt = s.evt := by
  unfold checkpointOrWait
  simp
@[simp] theorem commitMap_keep (s : State) : (commitMap s).pending = s.pending ∧ (commitMap s).regs = s.regs ∧
    (commitMap s).act = s.act ∧ (commitMap s).lt = s.lt ∧ (commitMap s).synced = s.synced ∧ (commitMap s).free =
    s.free ∧ (commitMap s).dram = s.dram ∧ (commitMap s).scan = s.scan ∧ (commitMap s).pix = s.pix ∧ (commitMap s).gal
    = s.gal ∧ (commitMap s).eng = s.eng ∧ (commitMap s).stats = s.stats ∧ (commitMap s).shd = s.shd ∧ (commitMap
    s).guard = s.guard ∧ (commitMap s).cal = s.cal ∧ (commitMap s).net = s.net ∧ (commitMap s).mbx = s.mbx ∧
    (commitMap s).io = s.io ∧ (commitMap s).pins = s.pins ∧ (commitMap s).aux = s.aux ∧ (commitMap s).clk = s.clk ∧
    (commitMap s).pwr = s.pwr ∧ (commitMap s).boot = s.boot ∧ (commitMap s).thm = s.thm ∧ (commitMap s).ddr = s.ddr ∧
    (commitMap s).flash = s.flash ∧ (commitMap s).flt = s.flt ∧ (commitMap s).evt = s.evt := by
  unfold commitMap
  simp
@[simp] theorem recordCommit_keep (s : State) (num : Nat) : (recordCommit s num).pending = s.pending ∧ (recordCommit s
    num).regs = s.regs ∧ (recordCommit s num).act = s.act ∧ (recordCommit s num).lt = s.lt ∧ (recordCommit s
    num).synced = s.synced ∧ (recordCommit s num).free = s.free ∧ (recordCommit s num).dram = s.dram ∧ (recordCommit s
    num).scan = s.scan ∧ (recordCommit s num).pix = s.pix ∧ (recordCommit s num).gal = s.gal ∧ (recordCommit s
    num).eng = s.eng ∧ (recordCommit s num).stats = s.stats ∧ (recordCommit s num).shd = s.shd ∧ (recordCommit s
    num).guard = s.guard ∧ (recordCommit s num).net = s.net ∧ (recordCommit s num).mbx = s.mbx ∧ (recordCommit s
    num).io = s.io ∧ (recordCommit s num).pins = s.pins ∧ (recordCommit s num).aux = s.aux ∧ (recordCommit s num).clk
    = s.clk ∧ (recordCommit s num).pwr = s.pwr ∧ (recordCommit s num).boot = s.boot ∧ (recordCommit s num).thm = s.thm
    ∧ (recordCommit s num).ddr = s.ddr ∧ (recordCommit s num).flash = s.flash ∧ (recordCommit s num).flt = s.flt ∧
    (recordCommit s num).evt = s.evt := by
  unfold recordCommit
  simp
@[simp] theorem judgeRecord_keep (s : State) (num : Nat) : (judgeRecord s num).pending = s.pending ∧ (judgeRecord s
    num).act = s.act ∧ (judgeRecord s num).lt = s.lt ∧ (judgeRecord s num).synced = s.synced ∧ (judgeRecord s
    num).free = s.free ∧ (judgeRecord s num).dram = s.dram ∧ (judgeRecord s num).pix = s.pix ∧ (judgeRecord s num).gal
    = s.gal ∧ (judgeRecord s num).eng = s.eng ∧ (judgeRecord s num).stats = s.stats ∧ (judgeRecord s num).shd = s.shd
    ∧ (judgeRecord s num).guard = s.guard ∧ (judgeRecord s num).diag = s.diag ∧ (judgeRecord s num).cal = s.cal ∧
    (judgeRecord s num).net = s.net ∧ (judgeRecord s num).mbx = s.mbx ∧ (judgeRecord s num).io = s.io ∧ (judgeRecord s
    num).pins = s.pins ∧ (judgeRecord s num).aux = s.aux ∧ (judgeRecord s num).clk = s.clk ∧ (judgeRecord s num).pwr =
    s.pwr ∧ (judgeRecord s num).boot = s.boot ∧ (judgeRecord s num).thm = s.thm ∧ (judgeRecord s num).ddr = s.ddr ∧
    (judgeRecord s num).mram = s.mram ∧ (judgeRecord s num).flash = s.flash ∧ (judgeRecord s num).evt = s.evt := by
  unfold judgeRecord
  split <;> simp
def judgeRecordRegs : List Field := raiseFaultRegs ++ [MRAM.STATUS.CFG_DEFAULTED, MRAM.STATUS.DEF_RECORD]
@[simp] theorem judgeRecord_word {key : Nat} (hk : Outside judgeRecordRegs key) (s : State) (num : Nat)  : wordAt
    (judgeRecord s num).regs key = wordAt s.regs key := by
  simp only [judgeRecordRegs, outside_append, outside_cons, outside_nil, and_true] at hk
  unfold judgeRecord
  split <;> simp [hk]
@[simp] theorem judgeRecords_keep (s : State) : (judgeRecords s).pending = s.pending ∧ (judgeRecords s).act = s.act ∧
    (judgeRecords s).lt = s.lt ∧ (judgeRecords s).synced = s.synced ∧ (judgeRecords s).free = s.free ∧ (judgeRecords
    s).dram = s.dram ∧ (judgeRecords s).pix = s.pix ∧ (judgeRecords s).gal = s.gal ∧ (judgeRecords s).eng = s.eng ∧
    (judgeRecords s).stats = s.stats ∧ (judgeRecords s).shd = s.shd ∧ (judgeRecords s).guard = s.guard ∧ (judgeRecords
    s).diag = s.diag ∧ (judgeRecords s).cal = s.cal ∧ (judgeRecords s).net = s.net ∧ (judgeRecords s).mbx = s.mbx ∧
    (judgeRecords s).io = s.io ∧ (judgeRecords s).pins = s.pins ∧ (judgeRecords s).aux = s.aux ∧ (judgeRecords s).clk
    = s.clk ∧ (judgeRecords s).pwr = s.pwr ∧ (judgeRecords s).boot = s.boot ∧ (judgeRecords s).thm = s.thm ∧
    (judgeRecords s).ddr = s.ddr ∧ (judgeRecords s).mram = s.mram ∧ (judgeRecords s).flash = s.flash ∧ (judgeRecords
    s).evt = s.evt := by
  unfold judgeRecords
  simp
def judgeRecordsRegs : List Field := judgeRecordRegs ++ [MRAM.STATUS.TORN, MRAM.TORN_COUNT.COUNT]
@[simp] theorem judgeRecords_word {key : Nat} (hk : Outside judgeRecordsRegs key) (s : State)  : wordAt (judgeRecords
    s).regs key = wordAt s.regs key := by
  simp only [judgeRecordsRegs, outside_append, outside_cons, outside_nil, and_true] at hk
  unfold judgeRecords
  simp [hk]
@[simp] theorem repairCopy_keep (s : State) (num : Nat) : (repairCopy s num).pending = s.pending ∧ (repairCopy s
    num).regs = s.regs ∧ (repairCopy s num).act = s.act ∧ (repairCopy s num).lt = s.lt ∧ (repairCopy s num).synced =
    s.synced ∧ (repairCopy s num).free = s.free ∧ (repairCopy s num).dram = s.dram ∧ (repairCopy s num).scan = s.scan
    ∧ (repairCopy s num).pix = s.pix ∧ (repairCopy s num).gal = s.gal ∧ (repairCopy s num).eng = s.eng ∧ (repairCopy s
    num).stats = s.stats ∧ (repairCopy s num).shd = s.shd ∧ (repairCopy s num).guard = s.guard ∧ (repairCopy s
    num).diag = s.diag ∧ (repairCopy s num).cal = s.cal ∧ (repairCopy s num).net = s.net ∧ (repairCopy s num).mbx =
    s.mbx ∧ (repairCopy s num).io = s.io ∧ (repairCopy s num).pins = s.pins ∧ (repairCopy s num).aux = s.aux ∧
    (repairCopy s num).clk = s.clk ∧ (repairCopy s num).pwr = s.pwr ∧ (repairCopy s num).boot = s.boot ∧ (repairCopy s
    num).thm = s.thm ∧ (repairCopy s num).ddr = s.ddr ∧ (repairCopy s num).flash = s.flash ∧ (repairCopy s num).flt =
    s.flt ∧ (repairCopy s num).evt = s.evt := by
  unfold repairCopy
  (try simp) <;> (repeat' apply And.intro) <;> (repeat' split) <;> (try simp)
@[simp] theorem scrubRecord_keep (s : State) (num : Nat) : (scrubRecord s num).pending = s.pending ∧ (scrubRecord s
    num).act = s.act ∧ (scrubRecord s num).lt = s.lt ∧ (scrubRecord s num).synced = s.synced ∧ (scrubRecord s
    num).free = s.free ∧ (scrubRecord s num).dram = s.dram ∧ (scrubRecord s num).pix = s.pix ∧ (scrubRecord s num).gal
    = s.gal ∧ (scrubRecord s num).eng = s.eng ∧ (scrubRecord s num).stats = s.stats ∧ (scrubRecord s num).shd = s.shd
    ∧ (scrubRecord s num).guard = s.guard ∧ (scrubRecord s num).diag = s.diag ∧ (scrubRecord s num).cal = s.cal ∧
    (scrubRecord s num).net = s.net ∧ (scrubRecord s num).mbx = s.mbx ∧ (scrubRecord s num).io = s.io ∧ (scrubRecord s
    num).pins = s.pins ∧ (scrubRecord s num).aux = s.aux ∧ (scrubRecord s num).clk = s.clk ∧ (scrubRecord s num).pwr =
    s.pwr ∧ (scrubRecord s num).boot = s.boot ∧ (scrubRecord s num).thm = s.thm ∧ (scrubRecord s num).ddr = s.ddr ∧
    (scrubRecord s num).flash = s.flash ∧ (scrubRecord s num).evt = s.evt := by
  unfold scrubRecord
  simp
def scrubRecordRegs : List Field := raiseFaultRegs
@[simp] theorem scrubRecord_word {key : Nat} (hk : Outside scrubRecordRegs key) (s : State) (num : Nat)  : wordAt
    (scrubRecord s num).regs key = wordAt s.regs key := by
  simp only [scrubRecordRegs, outside_append, outside_cons, outside_nil, and_true] at hk
  unfold scrubRecord
  simp [hk]
@[simp] theorem applyBoard_keep (s : State) : (applyBoard s).pending = s.pending ∧ (applyBoard s).lt = s.lt ∧
    (applyBoard s).synced = s.synced ∧ (applyBoard s).free = s.free ∧ (applyBoard s).dram = s.dram ∧ (applyBoard
    s).scan = s.scan ∧ (applyBoard s).pix = s.pix ∧ (applyBoard s).gal = s.gal ∧ (applyBoard s).eng = s.eng ∧
    (applyBoard s).stats = s.stats ∧ (applyBoard s).shd = s.shd ∧ (applyBoard s).guard = s.guard ∧ (applyBoard s).diag
    = s.diag ∧ (applyBoard s).cal = s.cal ∧ (applyBoard s).net = s.net ∧ (applyBoard s).mbx = s.mbx ∧ (applyBoard
    s).io = s.io ∧ (applyBoard s).pins = s.pins ∧ (applyBoard s).aux = s.aux ∧ (applyBoard s).clk = s.clk ∧
    (applyBoard s).pwr = s.pwr ∧ (applyBoard s).boot = s.boot ∧ (applyBoard s).thm = s.thm ∧ (applyBoard s).ddr =
    s.ddr ∧ (applyBoard s).mram = s.mram ∧ (applyBoard s).flash = s.flash ∧ (applyBoard s).flt = s.flt ∧ (applyBoard
    s).evt = s.evt := by
  unfold applyBoard
  simp
def applyBoardRegs : List Field := [IOMUX.BOARD.LENS_ADDR, IOMUX.BOARD.VCORE_ADDR, IOMUX.BOARD.VLED_ADDR,
    IOMUX.BOARD.WAKE_ADDR, SCAN.VLED_LIM.VLED_MAX, SCAN.VLED_LIM.VLED_MIN] ++ allOf 2 TX.ASYM.ASYM
@[simp] theorem applyBoard_word {key : Nat} (hk : Outside applyBoardRegs key) (s : State)  : wordAt (applyBoard
    s).regs key = wordAt s.regs key := by
  simp only [applyBoardRegs, outside_append, outside_cons, outside_nil, and_true, outside_TX_ASYM_ASYM] at hk
  unfold applyBoard
  simp [hk]
@[simp] theorem restoreCal_keep (s : State) : (restoreCal s).pending = s.pending ∧ (restoreCal s).regs = s.regs ∧
    (restoreCal s).act = s.act ∧ (restoreCal s).lt = s.lt ∧ (restoreCal s).synced = s.synced ∧ (restoreCal s).free =
    s.free ∧ (restoreCal s).dram = s.dram ∧ (restoreCal s).scan = s.scan ∧ (restoreCal s).pix = s.pix ∧ (restoreCal
    s).gal = s.gal ∧ (restoreCal s).eng = s.eng ∧ (restoreCal s).stats = s.stats ∧ (restoreCal s).shd = s.shd ∧
    (restoreCal s).guard = s.guard ∧ (restoreCal s).diag = s.diag ∧ (restoreCal s).net = s.net ∧ (restoreCal s).mbx =
    s.mbx ∧ (restoreCal s).io = s.io ∧ (restoreCal s).pins = s.pins ∧ (restoreCal s).aux = s.aux ∧ (restoreCal s).clk
    = s.clk ∧ (restoreCal s).pwr = s.pwr ∧ (restoreCal s).boot = s.boot ∧ (restoreCal s).thm = s.thm ∧ (restoreCal
    s).ddr = s.ddr ∧ (restoreCal s).mram = s.mram ∧ (restoreCal s).flash = s.flash ∧ (restoreCal s).flt = s.flt ∧
    (restoreCal s).evt = s.evt := by
  unfold restoreCal
  split <;> simp
@[simp] theorem restoreMap_keep (s : State) : (restoreMap s).pending = s.pending ∧ (restoreMap s).regs = s.regs ∧
    (restoreMap s).act = s.act ∧ (restoreMap s).lt = s.lt ∧ (restoreMap s).synced = s.synced ∧ (restoreMap s).free =
    s.free ∧ (restoreMap s).dram = s.dram ∧ (restoreMap s).scan = s.scan ∧ (restoreMap s).pix = s.pix ∧ (restoreMap
    s).gal = s.gal ∧ (restoreMap s).eng = s.eng ∧ (restoreMap s).stats = s.stats ∧ (restoreMap s).shd = s.shd ∧
    (restoreMap s).guard = s.guard ∧ (restoreMap s).cal = s.cal ∧ (restoreMap s).net = s.net ∧ (restoreMap s).mbx =
    s.mbx ∧ (restoreMap s).io = s.io ∧ (restoreMap s).pins = s.pins ∧ (restoreMap s).aux = s.aux ∧ (restoreMap s).clk
    = s.clk ∧ (restoreMap s).pwr = s.pwr ∧ (restoreMap s).boot = s.boot ∧ (restoreMap s).thm = s.thm ∧ (restoreMap
    s).ddr = s.ddr ∧ (restoreMap s).mram = s.mram ∧ (restoreMap s).flash = s.flash ∧ (restoreMap s).flt = s.flt ∧
    (restoreMap s).evt = s.evt := by
  unfold restoreMap
  simp
@[simp] theorem restoreDose_keep (s : State) : (restoreDose s).pending = s.pending ∧ (restoreDose s).act = s.act ∧
    (restoreDose s).lt = s.lt ∧ (restoreDose s).synced = s.synced ∧ (restoreDose s).free = s.free ∧ (restoreDose
    s).dram = s.dram ∧ (restoreDose s).scan = s.scan ∧ (restoreDose s).pix = s.pix ∧ (restoreDose s).gal = s.gal ∧
    (restoreDose s).eng = s.eng ∧ (restoreDose s).stats = s.stats ∧ (restoreDose s).shd = s.shd ∧ (restoreDose
    s).guard = s.guard ∧ (restoreDose s).diag = s.diag ∧ (restoreDose s).net = s.net ∧ (restoreDose s).mbx = s.mbx ∧
    (restoreDose s).io = s.io ∧ (restoreDose s).pins = s.pins ∧ (restoreDose s).aux = s.aux ∧ (restoreDose s).clk =
    s.clk ∧ (restoreDose s).pwr = s.pwr ∧ (restoreDose s).boot = s.boot ∧ (restoreDose s).thm = s.thm ∧ (restoreDose
    s).ddr = s.ddr ∧ (restoreDose s).mram = s.mram ∧ (restoreDose s).flash = s.flash ∧ (restoreDose s).flt = s.flt ∧
    (restoreDose s).evt = s.evt := by
  unfold restoreDose
  split <;> simp
def restoreDoseRegs : List Field := [CAL.AG_STATUS.FB_HOURS]
@[simp] theorem restoreDose_word {key : Nat} (hk : Outside restoreDoseRegs key) (s : State)  : wordAt (restoreDose
    s).regs key = wordAt s.regs key := by
  simp only [restoreDoseRegs, outside_append, outside_cons, outside_nil, and_true] at hk
  unfold restoreDose
  split <;> simp [hk]
@[simp] theorem restorePlan_keep (s : State) : (restorePlan s).pending = s.pending ∧ (restorePlan s).regs = s.regs ∧
    (restorePlan s).act = s.act ∧ (restorePlan s).lt = s.lt ∧ (restorePlan s).synced = s.synced ∧ (restorePlan s).free
    = s.free ∧ (restorePlan s).dram = s.dram ∧ (restorePlan s).scan = s.scan ∧ (restorePlan s).pix = s.pix ∧
    (restorePlan s).gal = s.gal ∧ (restorePlan s).eng = s.eng ∧ (restorePlan s).stats = s.stats ∧ (restorePlan s).shd
    = s.shd ∧ (restorePlan s).guard = s.guard ∧ (restorePlan s).diag = s.diag ∧ (restorePlan s).net = s.net ∧
    (restorePlan s).mbx = s.mbx ∧ (restorePlan s).io = s.io ∧ (restorePlan s).pins = s.pins ∧ (restorePlan s).aux =
    s.aux ∧ (restorePlan s).clk = s.clk ∧ (restorePlan s).pwr = s.pwr ∧ (restorePlan s).boot = s.boot ∧ (restorePlan
    s).thm = s.thm ∧ (restorePlan s).ddr = s.ddr ∧ (restorePlan s).mram = s.mram ∧ (restorePlan s).flash = s.flash ∧
    (restorePlan s).flt = s.flt ∧ (restorePlan s).evt = s.evt := by
  unfold restorePlan
  split <;> simp
theorem mem_ddrWords {k n : Nat} {fs : List Field} {f : Field} (h : (n, fs) ∈ ddrWords.mapIdx (fun k fs => (k, fs)))
    (hf : f ∈ fs) (hk : Outside DDRC.fields k) : fieldKey f ≠ k := by
  refine hk f ?_
  have h1 : fs ∈ ddrWords := by
    obtain ⟨i, hi, e⟩ := List.mem_mapIdx.mp h
    cases e
    exact List.getElem_mem hi
  obtain ⟨⟨j, hj, rfl⟩, -⟩ := by simpa [ddrWords] using h1
  have h2 : (0x80004 + 4 * j) / 0x10000 = 8 := by omega
  have := (List.mem_filter.mp hf).1
  rwa [h2] at this

@[simp] theorem applyTiming_keep (s : State) (b : List Byte) : (applyTiming s b).pending = s.pending ∧ (applyTiming s
    b).act = s.act ∧ (applyTiming s b).lt = s.lt ∧ (applyTiming s b).synced = s.synced ∧ (applyTiming s b).free =
    s.free ∧ (applyTiming s b).dram = s.dram ∧ (applyTiming s b).scan = s.scan ∧ (applyTiming s b).pix = s.pix ∧
    (applyTiming s b).gal = s.gal ∧ (applyTiming s b).eng = s.eng ∧ (applyTiming s b).stats = s.stats ∧ (applyTiming s
    b).shd = s.shd ∧ (applyTiming s b).guard = s.guard ∧ (applyTiming s b).diag = s.diag ∧ (applyTiming s b).cal =
    s.cal ∧ (applyTiming s b).net = s.net ∧ (applyTiming s b).mbx = s.mbx ∧ (applyTiming s b).io = s.io ∧ (applyTiming
    s b).pins = s.pins ∧ (applyTiming s b).aux = s.aux ∧ (applyTiming s b).clk = s.clk ∧ (applyTiming s b).pwr = s.pwr
    ∧ (applyTiming s b).boot = s.boot ∧ (applyTiming s b).thm = s.thm ∧ (applyTiming s b).ddr = s.ddr ∧ (applyTiming s
    b).mram = s.mram ∧ (applyTiming s b).flash = s.flash ∧ (applyTiming s b).flt = s.flt ∧ (applyTiming s b).evt =
    s.evt := by
  unfold applyTiming
  simp
def applyTimingRegs : List Field := DDRC.fields
@[simp] theorem applyTiming_word {key : Nat} (hk : Outside applyTimingRegs key) (s : State) (b : List Byte)  : wordAt
    (applyTiming s b).regs key = wordAt s.regs key := by
  unfold applyTiming
  refine foldl_word_mem _ _ (fun x hx t => ?_) _
  refine foldl_fields_word _ (fun f hf => ?_) _ _
  exact mem_ddrWords (List.mem_filter.mp hx).1 (List.mem_filter.mp hf).1 hk

end Sys2Proof.Machine
end

