-- ==== Sys2Proof/Laws/FrameCalib.lean ====
section
/-! SUPPORT. FrameCalib.lean: for each operation of Machine/Calib.lean, the parts of State that it leaves alone and the register
fields outside which it changes none. -/

set_option linter.unusedSimpArgs false

namespace Sys2Proof.Machine

set_option Elab.async false

@[simp] theorem sweepStats_keep (s : State) : (sweepStats s).pending = s.pending ∧ (sweepStats s).act = s.act ∧
    (sweepStats s).lt = s.lt ∧ (sweepStats s).synced = s.synced ∧ (sweepStats s).free = s.free ∧ (sweepStats s).dram =
    s.dram ∧ (sweepStats s).scan = s.scan ∧ (sweepStats s).pix = s.pix ∧ (sweepStats s).gal = s.gal ∧ (sweepStats
    s).eng = s.eng ∧ (sweepStats s).stats = s.stats ∧ (sweepStats s).shd = s.shd ∧ (sweepStats s).guard = s.guard ∧
    (sweepStats s).diag = s.diag ∧ (sweepStats s).net = s.net ∧ (sweepStats s).mbx = s.mbx ∧ (sweepStats s).io = s.io
    ∧ (sweepStats s).pins = s.pins ∧ (sweepStats s).aux = s.aux ∧ (sweepStats s).clk = s.clk ∧ (sweepStats s).pwr =
    s.pwr ∧ (sweepStats s).boot = s.boot ∧ (sweepStats s).thm = s.thm ∧ (sweepStats s).ddr = s.ddr ∧ (sweepStats
    s).mram = s.mram ∧ (sweepStats s).flash = s.flash ∧ (sweepStats s).flt = s.flt ∧ (sweepStats s).evt = s.evt := by
  unfold sweepStats
  simp
def sweepStatsRegs : List Field := [CAL.START_STATS.GLOBAL_MED]
@[simp] theorem sweepStats_word {key : Nat} (hk : Outside sweepStatsRegs key) (s : State)  : wordAt (sweepStats
    s).regs key = wordAt s.regs key := by
  simp only [sweepStatsRegs, outside_append, outside_cons, outside_nil, and_true] at hk
  unfold sweepStats
  simp [hk]
@[simp] theorem takeReading_keep (s : State) (x : UnitReading) : (takeReading s x).pending = s.pending ∧ (takeReading
    s x).regs = s.regs ∧ (takeReading s x).act = s.act ∧ (takeReading s x).lt = s.lt ∧ (takeReading s x).synced =
    s.synced ∧ (takeReading s x).free = s.free ∧ (takeReading s x).dram = s.dram ∧ (takeReading s x).scan = s.scan ∧
    (takeReading s x).pix = s.pix ∧ (takeReading s x).gal = s.gal ∧ (takeReading s x).eng = s.eng ∧ (takeReading s
    x).stats = s.stats ∧ (takeReading s x).shd = s.shd ∧ (takeReading s x).guard = s.guard ∧ (takeReading s x).diag =
    s.diag ∧ (takeReading s x).net = s.net ∧ (takeReading s x).mbx = s.mbx ∧ (takeReading s x).io = s.io ∧
    (takeReading s x).pins = s.pins ∧ (takeReading s x).aux = s.aux ∧ (takeReading s x).clk = s.clk ∧ (takeReading s
    x).pwr = s.pwr ∧ (takeReading s x).boot = s.boot ∧ (takeReading s x).thm = s.thm ∧ (takeReading s x).ddr = s.ddr ∧
    (takeReading s x).mram = s.mram ∧ (takeReading s x).flash = s.flash ∧ (takeReading s x).flt = s.flt ∧ (takeReading
    s x).evt = s.evt := by
  unfold takeReading
  simp
@[simp] theorem calFrameStart_keep (s : State) : (calFrameStart s).pending = s.pending ∧ (calFrameStart s).act = s.act
    ∧ (calFrameStart s).lt = s.lt ∧ (calFrameStart s).synced = s.synced ∧ (calFrameStart s).free = s.free ∧
    (calFrameStart s).dram = s.dram ∧ (calFrameStart s).scan = s.scan ∧ (calFrameStart s).pix = s.pix ∧ (calFrameStart
    s).gal = s.gal ∧ (calFrameStart s).eng = s.eng ∧ (calFrameStart s).stats = s.stats ∧ (calFrameStart s).shd = s.shd
    ∧ (calFrameStart s).guard = s.guard ∧ (calFrameStart s).diag = s.diag ∧ (calFrameStart s).net = s.net ∧
    (calFrameStart s).mbx = s.mbx ∧ (calFrameStart s).io = s.io ∧ (calFrameStart s).pins = s.pins ∧ (calFrameStart
    s).aux = s.aux ∧ (calFrameStart s).clk = s.clk ∧ (calFrameStart s).pwr = s.pwr ∧ (calFrameStart s).boot = s.boot ∧
    (calFrameStart s).thm = s.thm ∧ (calFrameStart s).ddr = s.ddr ∧ (calFrameStart s).mram = s.mram ∧ (calFrameStart
    s).flash = s.flash ∧ (calFrameStart s).flt = s.flt ∧ (calFrameStart s).evt = s.evt := by
  unfold calFrameStart
  split <;> simp
def calFrameStartRegs : List Field := [CAL.AG_STATUS.GEN]
@[simp] theorem calFrameStart_word {key : Nat} (hk : Outside calFrameStartRegs key) (s : State)  : wordAt
    (calFrameStart s).regs key = wordAt s.regs key := by
  simp only [calFrameStartRegs, outside_append, outside_cons, outside_nil, and_true] at hk
  unfold calFrameStart
  split <;> simp [hk]
@[simp] theorem calibrateRow_keep (vfs : List (Nat × List Nat)) (bad : List Nat) (s : State) (r : Nat) : (calibrateRow
    vfs bad s r).pending = s.pending ∧ (calibrateRow vfs bad s r).act = s.act ∧ (calibrateRow vfs bad s r).lt = s.lt ∧
    (calibrateRow vfs bad s r).synced = s.synced ∧ (calibrateRow vfs bad s r).free = s.free ∧ (calibrateRow vfs bad s
    r).dram = s.dram ∧ (calibrateRow vfs bad s r).gal = s.gal ∧ (calibrateRow vfs bad s r).eng = s.eng ∧ (calibrateRow
    vfs bad s r).stats = s.stats ∧ (calibrateRow vfs bad s r).shd = s.shd ∧ (calibrateRow vfs bad s r).guard = s.guard
    ∧ (calibrateRow vfs bad s r).net = s.net ∧ (calibrateRow vfs bad s r).mbx = s.mbx ∧ (calibrateRow vfs bad s r).io
    = s.io ∧ (calibrateRow vfs bad s r).pins = s.pins ∧ (calibrateRow vfs bad s r).aux = s.aux ∧ (calibrateRow vfs bad
    s r).clk = s.clk ∧ (calibrateRow vfs bad s r).pwr = s.pwr ∧ (calibrateRow vfs bad s r).boot = s.boot ∧
    (calibrateRow vfs bad s r).thm = s.thm ∧ (calibrateRow vfs bad s r).ddr = s.ddr ∧ (calibrateRow vfs bad s r).mram
    = s.mram ∧ (calibrateRow vfs bad s r).flash = s.flash ∧ (calibrateRow vfs bad s r).evt = s.evt := by
  unfold calibrateRow
  simp
def calibrateRowRegs : List Field := writeTrimRowRegs ++ declareRegs
@[simp] theorem calibrateRow_word {key : Nat} (hk : Outside calibrateRowRegs key) (vfs : List (Nat × List Nat)) (bad :
    List Nat) (s : State) (r : Nat)  : wordAt (calibrateRow vfs bad s r).regs key = wordAt s.regs key := by
  simp only [calibrateRowRegs, outside_append, outside_cons, outside_nil, and_true] at hk
  unfold calibrateRow
  simp [hk]
@[simp] theorem startMeasure_keep (s : State) (readings : List UnitReading) (badRows : List Nat) : (startMeasure s
    readings badRows).pending = s.pending ∧ (startMeasure s readings badRows).act = s.act ∧ (startMeasure s readings
    badRows).lt = s.lt ∧ (startMeasure s readings badRows).synced = s.synced ∧ (startMeasure s readings badRows).free
    = s.free ∧ (startMeasure s readings badRows).dram = s.dram ∧ (startMeasure s readings badRows).gal = s.gal ∧
    (startMeasure s readings badRows).eng = s.eng ∧ (startMeasure s readings badRows).stats = s.stats ∧ (startMeasure
    s readings badRows).shd = s.shd ∧ (startMeasure s readings badRows).guard = s.guard ∧ (startMeasure s readings
    badRows).net = s.net ∧ (startMeasure s readings badRows).mbx = s.mbx ∧ (startMeasure s readings badRows).io = s.io
    ∧ (startMeasure s readings badRows).pins = s.pins ∧ (startMeasure s readings badRows).aux = s.aux ∧ (startMeasure
    s readings badRows).clk = s.clk ∧ (startMeasure s readings badRows).pwr = s.pwr ∧ (startMeasure s readings
    badRows).boot = s.boot ∧ (startMeasure s readings badRows).thm = s.thm ∧ (startMeasure s readings badRows).ddr =
    s.ddr ∧ (startMeasure s readings badRows).mram = s.mram ∧ (startMeasure s readings badRows).flash = s.flash ∧
    (startMeasure s readings badRows).evt = s.evt := by
  unfold startMeasure
  simp
def startMeasureRegs : List Field := calibrateRowRegs ++ sweepStatsRegs
@[simp] theorem startMeasure_word {key : Nat} (hk : Outside startMeasureRegs key) (s : State) (readings : List
    UnitReading) (badRows : List Nat)  : wordAt (startMeasure s readings badRows).regs key = wordAt s.regs key := by
  simp only [startMeasureRegs, outside_append, outside_cons, outside_nil, and_true] at hk
  unfold startMeasure
  simp [hk]
@[simp] theorem startVerify_keep (s : State) (badRows : List Nat) : (startVerify s badRows).pending = s.pending ∧
    (startVerify s badRows).act = s.act ∧ (startVerify s badRows).lt = s.lt ∧ (startVerify s badRows).synced =
    s.synced ∧ (startVerify s badRows).free = s.free ∧ (startVerify s badRows).dram = s.dram ∧ (startVerify s
    badRows).pix = s.pix ∧ (startVerify s badRows).gal = s.gal ∧ (startVerify s badRows).eng = s.eng ∧ (startVerify s
    badRows).stats = s.stats ∧ (startVerify s badRows).shd = s.shd ∧ (startVerify s badRows).guard = s.guard ∧
    (startVerify s badRows).diag = s.diag ∧ (startVerify s badRows).cal = s.cal ∧ (startVerify s badRows).net = s.net
    ∧ (startVerify s badRows).mbx = s.mbx ∧ (startVerify s badRows).io = s.io ∧ (startVerify s badRows).pins = s.pins
    ∧ (startVerify s badRows).aux = s.aux ∧ (startVerify s badRows).clk = s.clk ∧ (startVerify s badRows).pwr = s.pwr
    ∧ (startVerify s badRows).boot = s.boot ∧ (startVerify s badRows).thm = s.thm ∧ (startVerify s badRows).ddr =
    s.ddr ∧ (startVerify s badRows).mram = s.mram ∧ (startVerify s badRows).flash = s.flash ∧ (startVerify s
    badRows).evt = s.evt := by
  unfold startVerify
  simp
def startVerifyRegs : List Field := raiseFaultNRegs ++ [CAL.STATUS.WRITE_FAIL]
@[simp] theorem startVerify_word {key : Nat} (hk : Outside startVerifyRegs key) (s : State) (badRows : List Nat)  :
    wordAt (startVerify s badRows).regs key = wordAt s.regs key := by
  simp only [startVerifyRegs, outside_append, outside_cons, outside_nil, and_true] at hk
  unfold startVerify
  simp [hk]
@[simp] theorem startGains_keep (s : State) : (startGains s).pending = s.pending ∧ (startGains s).regs = s.regs ∧
    (startGains s).act = s.act ∧ (startGains s).lt = s.lt ∧ (startGains s).synced = s.synced ∧ (startGains s).free =
    s.free ∧ (startGains s).dram = s.dram ∧ (startGains s).scan = s.scan ∧ (startGains s).pix = s.pix ∧ (startGains
    s).gal = s.gal ∧ (startGains s).eng = s.eng ∧ (startGains s).stats = s.stats ∧ (startGains s).shd = s.shd ∧
    (startGains s).guard = s.guard ∧ (startGains s).diag = s.diag ∧ (startGains s).net = s.net ∧ (startGains s).mbx =
    s.mbx ∧ (startGains s).io = s.io ∧ (startGains s).pins = s.pins ∧ (startGains s).aux = s.aux ∧ (startGains s).clk
    = s.clk ∧ (startGains s).pwr = s.pwr ∧ (startGains s).boot = s.boot ∧ (startGains s).thm = s.thm ∧ (startGains
    s).ddr = s.ddr ∧ (startGains s).mram = s.mram ∧ (startGains s).flash = s.flash ∧ (startGains s).flt = s.flt ∧
    (startGains s).evt = s.evt := by
  unfold startGains
  simp
@[simp] theorem startReport_keep (s : State) : (startReport s).pending = s.pending ∧ (startReport s).act = s.act ∧
    (startReport s).lt = s.lt ∧ (startReport s).synced = s.synced ∧ (startReport s).free = s.free ∧ (startReport
    s).dram = s.dram ∧ (startReport s).scan = s.scan ∧ (startReport s).pix = s.pix ∧ (startReport s).gal = s.gal ∧
    (startReport s).eng = s.eng ∧ (startReport s).stats = s.stats ∧ (startReport s).shd = s.shd ∧ (startReport
    s).guard = s.guard ∧ (startReport s).cal = s.cal ∧ (startReport s).net = s.net ∧ (startReport s).mbx = s.mbx ∧
    (startReport s).io = s.io ∧ (startReport s).pins = s.pins ∧ (startReport s).aux = s.aux ∧ (startReport s).clk =
    s.clk ∧ (startReport s).pwr = s.pwr ∧ (startReport s).boot = s.boot ∧ (startReport s).thm = s.thm ∧ (startReport
    s).ddr = s.ddr ∧ (startReport s).mram = s.mram ∧ (startReport s).flash = s.flash ∧ (startReport s).flt = s.flt ∧
    (startReport s).evt = s.evt := by
  unfold startReport
  simp
def startReportRegs : List Field := [CAL.START_STATS.DARK_US, CAL.STATUS.DONE, CAL.TRIM_STATS.TRIMMED]
@[simp] theorem startReport_word {key : Nat} (hk : Outside startReportRegs key) (s : State)  : wordAt (startReport
    s).regs key = wordAt s.regs key := by
  simp only [startReportRegs, outside_append, outside_cons, outside_nil, and_true] at hk
  unfold startReport
  simp [hk]
@[simp] theorem startUpCalibration_keep (s : State) (readings : List UnitReading) (badRows : List Nat) :
    (startUpCalibration s readings badRows).pending = s.pending ∧ (startUpCalibration s readings badRows).act = s.act
    ∧ (startUpCalibration s readings badRows).lt = s.lt ∧ (startUpCalibration s readings badRows).synced = s.synced ∧
    (startUpCalibration s readings badRows).free = s.free ∧ (startUpCalibration s readings badRows).dram = s.dram ∧
    (startUpCalibration s readings badRows).gal = s.gal ∧ (startUpCalibration s readings badRows).eng = s.eng ∧
    (startUpCalibration s readings badRows).stats = s.stats ∧ (startUpCalibration s readings badRows).shd = s.shd ∧
    (startUpCalibration s readings badRows).guard = s.guard ∧ (startUpCalibration s readings badRows).net = s.net ∧
    (startUpCalibration s readings badRows).mbx = s.mbx ∧ (startUpCalibration s readings badRows).io = s.io ∧
    (startUpCalibration s readings badRows).pins = s.pins ∧ (startUpCalibration s readings badRows).aux = s.aux ∧
    (startUpCalibration s readings badRows).clk = s.clk ∧ (startUpCalibration s readings badRows).pwr = s.pwr ∧
    (startUpCalibration s readings badRows).boot = s.boot ∧ (startUpCalibration s readings badRows).thm = s.thm ∧
    (startUpCalibration s readings badRows).ddr = s.ddr ∧ (startUpCalibration s readings badRows).mram = s.mram ∧
    (startUpCalibration s readings badRows).flash = s.flash ∧ (startUpCalibration s readings badRows).evt = s.evt := by
  unfold startUpCalibration
  simp
def startUpCalibrationRegs : List Field := startReportRegs ++ startVerifyRegs ++ startMeasureRegs
@[simp] theorem startUpCalibration_word {key : Nat} (hk : Outside startUpCalibrationRegs key) (s : State) (readings :
    List UnitReading) (badRows : List Nat)  : wordAt (startUpCalibration s readings badRows).regs key = wordAt s.regs
    key := by
  simp only [startUpCalibrationRegs, outside_append, outside_cons, outside_nil, and_true] at hk
  unfold startUpCalibration
  simp [hk]
@[simp] theorem restoreMasks_keep (s : State) : (restoreMasks s).pending = s.pending ∧ (restoreMasks s).act = s.act ∧
    (restoreMasks s).lt = s.lt ∧ (restoreMasks s).synced = s.synced ∧ (restoreMasks s).free = s.free ∧ (restoreMasks
    s).dram = s.dram ∧ (restoreMasks s).gal = s.gal ∧ (restoreMasks s).eng = s.eng ∧ (restoreMasks s).stats = s.stats
    ∧ (restoreMasks s).shd = s.shd ∧ (restoreMasks s).guard = s.guard ∧ (restoreMasks s).diag = s.diag ∧ (restoreMasks
    s).net = s.net ∧ (restoreMasks s).mbx = s.mbx ∧ (restoreMasks s).io = s.io ∧ (restoreMasks s).pins = s.pins ∧
    (restoreMasks s).aux = s.aux ∧ (restoreMasks s).clk = s.clk ∧ (restoreMasks s).pwr = s.pwr ∧ (restoreMasks s).boot
    = s.boot ∧ (restoreMasks s).thm = s.thm ∧ (restoreMasks s).ddr = s.ddr ∧ (restoreMasks s).mram = s.mram ∧
    (restoreMasks s).flash = s.flash ∧ (restoreMasks s).evt = s.evt := by
  unfold restoreMasks
  simp
def restoreMasksRegs : List Field := writeTrimRowRegs
@[simp] theorem restoreMasks_word {key : Nat} (hk : Outside restoreMasksRegs key) (s : State)  : wordAt (restoreMasks
    s).regs key = wordAt s.regs key := by
  simp only [restoreMasksRegs, outside_append, outside_cons, outside_nil, and_true] at hk
  unfold restoreMasks
  simp [hk]
@[simp] theorem calibrateOrAbort_keep (s : State) (readings : List UnitReading) (badRows : List Nat) :
    (calibrateOrAbort s readings badRows).pending = s.pending ∧ (calibrateOrAbort s readings badRows).act = s.act ∧
    (calibrateOrAbort s readings badRows).lt = s.lt ∧ (calibrateOrAbort s readings badRows).synced = s.synced ∧
    (calibrateOrAbort s readings badRows).free = s.free ∧ (calibrateOrAbort s readings badRows).dram = s.dram ∧
    (calibrateOrAbort s readings badRows).gal = s.gal ∧ (calibrateOrAbort s readings badRows).eng = s.eng ∧
    (calibrateOrAbort s readings badRows).stats = s.stats ∧ (calibrateOrAbort s readings badRows).shd = s.shd ∧
    (calibrateOrAbort s readings badRows).guard = s.guard ∧ (calibrateOrAbort s readings badRows).net = s.net ∧
    (calibrateOrAbort s readings badRows).mbx = s.mbx ∧ (calibrateOrAbort s readings badRows).io = s.io ∧
    (calibrateOrAbort s readings badRows).pins = s.pins ∧ (calibrateOrAbort s readings badRows).aux = s.aux ∧
    (calibrateOrAbort s readings badRows).clk = s.clk ∧ (calibrateOrAbort s readings badRows).pwr = s.pwr ∧
    (calibrateOrAbort s readings badRows).boot = s.boot ∧ (calibrateOrAbort s readings badRows).thm = s.thm ∧
    (calibrateOrAbort s readings badRows).ddr = s.ddr ∧ (calibrateOrAbort s readings badRows).mram = s.mram ∧
    (calibrateOrAbort s readings badRows).flash = s.flash ∧ (calibrateOrAbort s readings badRows).evt = s.evt := by
  unfold calibrateOrAbort
  simp
def calibrateOrAbortRegs : List Field := restoreMasksRegs ++ startUpCalibrationRegs ++ [CAL.STATUS.STARTUP_ABORT]
@[simp] theorem calibrateOrAbort_word {key : Nat} (hk : Outside calibrateOrAbortRegs key) (s : State) (readings : List
    UnitReading) (badRows : List Nat)  : wordAt (calibrateOrAbort s readings badRows).regs key = wordAt s.regs key := by
  simp only [calibrateOrAbortRegs, outside_append, outside_cons, outside_nil, and_true] at hk
  unfold calibrateOrAbort
  simp [hk]
@[simp] theorem judgeInService_keep (r : Nat) (s : State) (c : Nat) : (judgeInService r s c).pending = s.pending ∧
    (judgeInService r s c).act = s.act ∧ (judgeInService r s c).lt = s.lt ∧ (judgeInService r s c).synced = s.synced ∧
    (judgeInService r s c).free = s.free ∧ (judgeInService r s c).dram = s.dram ∧ (judgeInService r s c).gal = s.gal ∧
    (judgeInService r s c).eng = s.eng ∧ (judgeInService r s c).stats = s.stats ∧ (judgeInService r s c).shd = s.shd ∧
    (judgeInService r s c).guard = s.guard ∧ (judgeInService r s c).diag = s.diag ∧ (judgeInService r s c).net = s.net
    ∧ (judgeInService r s c).mbx = s.mbx ∧ (judgeInService r s c).io = s.io ∧ (judgeInService r s c).pins = s.pins ∧
    (judgeInService r s c).aux = s.aux ∧ (judgeInService r s c).clk = s.clk ∧ (judgeInService r s c).pwr = s.pwr ∧
    (judgeInService r s c).boot = s.boot ∧ (judgeInService r s c).thm = s.thm ∧ (judgeInService r s c).ddr = s.ddr ∧
    (judgeInService r s c).mram = s.mram ∧ (judgeInService r s c).flash = s.flash ∧ (judgeInService r s c).evt = s.evt
    := by
  unfold judgeInService
  (try simp) <;> (repeat' apply And.intro) <;> (repeat' split) <;> (try simp)
def judgeInServiceRegs : List Field := writeTrimRegs ++ [CAL.RESEL_COUNT.COUNT]
@[simp] theorem judgeInService_word {key : Nat} (hk : Outside judgeInServiceRegs key) (r : Nat) (s : State) (c : Nat)
    : wordAt (judgeInService r s c).regs key = wordAt s.regs key := by
  simp only [judgeInServiceRegs, outside_append, outside_cons, outside_nil, and_true] at hk
  unfold judgeInService
  extract_lets; (repeat' split) <;> (try simp [hk])
@[simp] theorem takeRow_keep (s : State) (r : Nat) (units : List UnitReading) : (takeRow s r units).pending =
    s.pending ∧ (takeRow s r units).act = s.act ∧ (takeRow s r units).lt = s.lt ∧ (takeRow s r units).synced =
    s.synced ∧ (takeRow s r units).free = s.free ∧ (takeRow s r units).dram = s.dram ∧ (takeRow s r units).scan =
    s.scan ∧ (takeRow s r units).pix = s.pix ∧ (takeRow s r units).gal = s.gal ∧ (takeRow s r units).eng = s.eng ∧
    (takeRow s r units).stats = s.stats ∧ (takeRow s r units).shd = s.shd ∧ (takeRow s r units).guard = s.guard ∧
    (takeRow s r units).diag = s.diag ∧ (takeRow s r units).net = s.net ∧ (takeRow s r units).mbx = s.mbx ∧ (takeRow s
    r units).io = s.io ∧ (takeRow s r units).pins = s.pins ∧ (takeRow s r units).aux = s.aux ∧ (takeRow s r units).clk
    = s.clk ∧ (takeRow s r units).pwr = s.pwr ∧ (takeRow s r units).boot = s.boot ∧ (takeRow s r units).thm = s.thm ∧
    (takeRow s r units).ddr = s.ddr ∧ (takeRow s r units).mram = s.mram ∧ (takeRow s r units).flash = s.flash ∧
    (takeRow s r units).flt = s.flt ∧ (takeRow s r units).evt = s.evt := by
  unfold takeRow
  simp
def takeRowRegs : List Field := [CAL.SKIP_COUNT.COUNT]
@[simp] theorem takeRow_word {key : Nat} (hk : Outside takeRowRegs key) (s : State) (r : Nat) (units : List
    UnitReading)  : wordAt (takeRow s r units).regs key = wordAt s.regs key := by
  simp only [takeRowRegs, outside_append, outside_cons, outside_nil, and_true] at hk
  unfold takeRow
  simp [hk]
@[simp] theorem measurePixels_keep (s : State) (r : Nat) (units : List UnitReading) : (measurePixels s r
    units).pending = s.pending ∧ (measurePixels s r units).act = s.act ∧ (measurePixels s r units).lt = s.lt ∧
    (measurePixels s r units).synced = s.synced ∧ (measurePixels s r units).free = s.free ∧ (measurePixels s r
    units).dram = s.dram ∧ (measurePixels s r units).gal = s.gal ∧ (measurePixels s r units).eng = s.eng ∧
    (measurePixels s r units).stats = s.stats ∧ (measurePixels s r units).shd = s.shd ∧ (measurePixels s r
    units).guard = s.guard ∧ (measurePixels s r units).diag = s.diag ∧ (measurePixels s r units).net = s.net ∧
    (measurePixels s r units).mbx = s.mbx ∧ (measurePixels s r units).io = s.io ∧ (measurePixels s r units).pins =
    s.pins ∧ (measurePixels s r units).aux = s.aux ∧ (measurePixels s r units).clk = s.clk ∧ (measurePixels s r
    units).pwr = s.pwr ∧ (measurePixels s r units).boot = s.boot ∧ (measurePixels s r units).thm = s.thm ∧
    (measurePixels s r units).ddr = s.ddr ∧ (measurePixels s r units).mram = s.mram ∧ (measurePixels s r units).flash
    = s.flash ∧ (measurePixels s r units).evt = s.evt := by
  unfold measurePixels
  simp
def measurePixelsRegs : List Field := judgeInServiceRegs ++ takeRowRegs
@[simp] theorem measurePixels_word {key : Nat} (hk : Outside measurePixelsRegs key) (s : State) (r : Nat) (units :
    List UnitReading)  : wordAt (measurePixels s r units).regs key = wordAt s.regs key := by
  simp only [measurePixelsRegs, outside_append, outside_cons, outside_nil, and_true] at hk
  unfold measurePixels
  simp [hk]
@[simp] theorem advanceRow_keep (s : State) (r n : Nat) : (advanceRow s r n).pending = s.pending ∧ (advanceRow s r
    n).act = s.act ∧ (advanceRow s r n).lt = s.lt ∧ (advanceRow s r n).synced = s.synced ∧ (advanceRow s r n).free =
    s.free ∧ (advanceRow s r n).dram = s.dram ∧ (advanceRow s r n).scan = s.scan ∧ (advanceRow s r n).pix = s.pix ∧
    (advanceRow s r n).gal = s.gal ∧ (advanceRow s r n).eng = s.eng ∧ (advanceRow s r n).stats = s.stats ∧ (advanceRow
    s r n).shd = s.shd ∧ (advanceRow s r n).guard = s.guard ∧ (advanceRow s r n).diag = s.diag ∧ (advanceRow s r
    n).net = s.net ∧ (advanceRow s r n).mbx = s.mbx ∧ (advanceRow s r n).io = s.io ∧ (advanceRow s r n).pins = s.pins
    ∧ (advanceRow s r n).aux = s.aux ∧ (advanceRow s r n).clk = s.clk ∧ (advanceRow s r n).pwr = s.pwr ∧ (advanceRow s
    r n).boot = s.boot ∧ (advanceRow s r n).thm = s.thm ∧ (advanceRow s r n).ddr = s.ddr ∧ (advanceRow s r n).mram =
    s.mram ∧ (advanceRow s r n).flash = s.flash ∧ (advanceRow s r n).flt = s.flt ∧ (advanceRow s r n).evt = s.evt := by
  unfold advanceRow
  simp
def advanceRowRegs : List Field := sweepStatsRegs ++ [CAL.STATUS.CAL_ROW]
@[simp] theorem advanceRow_word {key : Nat} (hk : Outside advanceRowRegs key) (s : State) (r n : Nat)  : wordAt
    (advanceRow s r n).regs key = wordAt s.regs key := by
  simp only [advanceRowRegs, outside_append, outside_cons, outside_nil, and_true] at hk
  unfold advanceRow
  simp [hk]
@[simp] theorem reportRow_keep (s : State) (ops : Nat) : (reportRow s ops).pending = s.pending ∧ (reportRow s ops).act
    = s.act ∧ (reportRow s ops).lt = s.lt ∧ (reportRow s ops).synced = s.synced ∧ (reportRow s ops).free = s.free ∧
    (reportRow s ops).dram = s.dram ∧ (reportRow s ops).scan = s.scan ∧ (reportRow s ops).pix = s.pix ∧ (reportRow s
    ops).gal = s.gal ∧ (reportRow s ops).eng = s.eng ∧ (reportRow s ops).stats = s.stats ∧ (reportRow s ops).shd =
    s.shd ∧ (reportRow s ops).guard = s.guard ∧ (reportRow s ops).cal = s.cal ∧ (reportRow s ops).net = s.net ∧
    (reportRow s ops).mbx = s.mbx ∧ (reportRow s ops).io = s.io ∧ (reportRow s ops).pins = s.pins ∧ (reportRow s
    ops).aux = s.aux ∧ (reportRow s ops).clk = s.clk ∧ (reportRow s ops).pwr = s.pwr ∧ (reportRow s ops).boot = s.boot
    ∧ (reportRow s ops).thm = s.thm ∧ (reportRow s ops).ddr = s.ddr ∧ (reportRow s ops).mram = s.mram ∧ (reportRow s
    ops).flash = s.flash ∧ (reportRow s ops).flt = s.flt ∧ (reportRow s ops).evt = s.evt := by
  unfold reportRow
  simp
def reportRowRegs : List Field := [CAL.TRIM_STATS.TRIMMED]
@[simp] theorem reportRow_word {key : Nat} (hk : Outside reportRowRegs key) (s : State) (ops : Nat)  : wordAt
    (reportRow s ops).regs key = wordAt s.regs key := by
  simp only [reportRowRegs, outside_append, outside_cons, outside_nil, and_true] at hk
  unfold reportRow
  simp [hk]
@[simp] theorem measureRow_keep (s : State) (units : List UnitReading) : (measureRow s units).pending = s.pending ∧
    (measureRow s units).act = s.act ∧ (measureRow s units).lt = s.lt ∧ (measureRow s units).synced = s.synced ∧
    (measureRow s units).free = s.free ∧ (measureRow s units).dram = s.dram ∧ (measureRow s units).gal = s.gal ∧
    (measureRow s units).eng = s.eng ∧ (measureRow s units).stats = s.stats ∧ (measureRow s units).shd = s.shd ∧
    (measureRow s units).guard = s.guard ∧ (measureRow s units).net = s.net ∧ (measureRow s units).mbx = s.mbx ∧
    (measureRow s units).io = s.io ∧ (measureRow s units).pins = s.pins ∧ (measureRow s units).aux = s.aux ∧
    (measureRow s units).clk = s.clk ∧ (measureRow s units).pwr = s.pwr ∧ (measureRow s units).boot = s.boot ∧
    (measureRow s units).thm = s.thm ∧ (measureRow s units).ddr = s.ddr ∧ (measureRow s units).mram = s.mram ∧
    (measureRow s units).flash = s.flash ∧ (measureRow s units).evt = s.evt := by
  unfold measureRow
  simp
def measureRowRegs : List Field := reportRowRegs ++ advanceRowRegs ++ measurePixelsRegs
@[simp] theorem measureRow_word {key : Nat} (hk : Outside measureRowRegs key) (s : State) (units : List UnitReading)
    : wordAt (measureRow s units).regs key = wordAt s.regs key := by
  simp only [measureRowRegs, outside_append, outside_cons, outside_nil, and_true] at hk
  unfold measureRow
  simp [hk]
@[simp] theorem calPeriod_keep (s : State) (g : Nat) (units : List UnitReading) : (calPeriod s g units).pending =
    s.pending ∧ (calPeriod s g units).act = s.act ∧ (calPeriod s g units).lt = s.lt ∧ (calPeriod s g units).synced =
    s.synced ∧ (calPeriod s g units).free = s.free ∧ (calPeriod s g units).dram = s.dram ∧ (calPeriod s g units).gal =
    s.gal ∧ (calPeriod s g units).eng = s.eng ∧ (calPeriod s g units).stats = s.stats ∧ (calPeriod s g units).shd =
    s.shd ∧ (calPeriod s g units).guard = s.guard ∧ (calPeriod s g units).net = s.net ∧ (calPeriod s g units).mbx =
    s.mbx ∧ (calPeriod s g units).io = s.io ∧ (calPeriod s g units).pins = s.pins ∧ (calPeriod s g units).aux = s.aux
    ∧ (calPeriod s g units).clk = s.clk ∧ (calPeriod s g units).pwr = s.pwr ∧ (calPeriod s g units).boot = s.boot ∧
    (calPeriod s g units).thm = s.thm ∧ (calPeriod s g units).ddr = s.ddr ∧ (calPeriod s g units).mram = s.mram ∧
    (calPeriod s g units).flash = s.flash ∧ (calPeriod s g units).evt = s.evt := by
  unfold calPeriod
  split <;> simp
def calPeriodRegs : List Field := measureRowRegs
@[simp] theorem calPeriod_word {key : Nat} (hk : Outside calPeriodRegs key) (s : State) (g : Nat) (units : List
    UnitReading)  : wordAt (calPeriod s g units).regs key = wordAt s.regs key := by
  simp only [calPeriodRegs, outside_append, outside_cons, outside_nil, and_true] at hk
  unfold calPeriod
  split <;> simp [hk]
@[simp] theorem runDose_keep (s : State) : (runDose s).pending = s.pending ∧ (runDose s).regs = s.regs ∧ (runDose
    s).act = s.act ∧ (runDose s).lt = s.lt ∧ (runDose s).synced = s.synced ∧ (runDose s).free = s.free ∧ (runDose
    s).dram = s.dram ∧ (runDose s).scan = s.scan ∧ (runDose s).pix = s.pix ∧ (runDose s).gal = s.gal ∧ (runDose
    s).stats = s.stats ∧ (runDose s).shd = s.shd ∧ (runDose s).guard = s.guard ∧ (runDose s).diag = s.diag ∧ (runDose
    s).net = s.net ∧ (runDose s).mbx = s.mbx ∧ (runDose s).io = s.io ∧ (runDose s).pins = s.pins ∧ (runDose s).aux =
    s.aux ∧ (runDose s).clk = s.clk ∧ (runDose s).pwr = s.pwr ∧ (runDose s).boot = s.boot ∧ (runDose s).thm = s.thm ∧
    (runDose s).ddr = s.ddr ∧ (runDose s).mram = s.mram ∧ (runDose s).flash = s.flash ∧ (runDose s).flt = s.flt ∧
    (runDose s).evt = s.evt := by
  unfold runDose
  simp
@[simp] theorem delayReading_keep (s : State) (margins : List Nat) : (delayReading s margins).pending = s.pending ∧
    (delayReading s margins).act = s.act ∧ (delayReading s margins).lt = s.lt ∧ (delayReading s margins).synced =
    s.synced ∧ (delayReading s margins).free = s.free ∧ (delayReading s margins).dram = s.dram ∧ (delayReading s
    margins).pix = s.pix ∧ (delayReading s margins).gal = s.gal ∧ (delayReading s margins).eng = s.eng ∧ (delayReading
    s margins).stats = s.stats ∧ (delayReading s margins).shd = s.shd ∧ (delayReading s margins).guard = s.guard ∧
    (delayReading s margins).diag = s.diag ∧ (delayReading s margins).net = s.net ∧ (delayReading s margins).mbx =
    s.mbx ∧ (delayReading s margins).io = s.io ∧ (delayReading s margins).pins = s.pins ∧ (delayReading s margins).aux
    = s.aux ∧ (delayReading s margins).clk = s.clk ∧ (delayReading s margins).pwr = s.pwr ∧ (delayReading s
    margins).boot = s.boot ∧ (delayReading s margins).thm = s.thm ∧ (delayReading s margins).ddr = s.ddr ∧
    (delayReading s margins).mram = s.mram ∧ (delayReading s margins).flash = s.flash ∧ (delayReading s margins).evt =
    s.evt := by
  unfold delayReading
  simp
def delayReadingRegs : List Field := raiseFaultRegs ++ [CAL.VM_STATUS.MARGIN_MIN, CAL.VM_STATUS.WORST_MON]
@[simp] theorem delayReading_word {key : Nat} (hk : Outside delayReadingRegs key) (s : State) (margins : List Nat)  :
    wordAt (delayReading s margins).regs key = wordAt s.regs key := by
  simp only [delayReadingRegs, outside_append, outside_cons, outside_nil, and_true] at hk
  unfold delayReading
  simp [hk]

end Sys2Proof.Machine
end

