-- ==== Sys2Proof/Laws/FrameScan.lean ====
section
/-! SUPPORT. FrameScan.lean: for each operation of Machine/Scan.lean, the parts of State that it leaves alone and the register
fields outside which it changes none. -/

set_option linter.unusedSimpArgs false

namespace Sys2Proof.Machine

set_option Elab.async false

@[simp] theorem setOriginAct_keep (s : State) (t : Nat) : (setOriginAct s t).pending = s.pending ∧ (setOriginAct s
    t).act = s.act ∧ (setOriginAct s t).lt = s.lt ∧ (setOriginAct s t).synced = s.synced ∧ (setOriginAct s t).free =
    s.free ∧ (setOriginAct s t).dram = s.dram ∧ (setOriginAct s t).scan = s.scan ∧ (setOriginAct s t).pix = s.pix ∧
    (setOriginAct s t).gal = s.gal ∧ (setOriginAct s t).eng = s.eng ∧ (setOriginAct s t).stats = s.stats ∧
    (setOriginAct s t).shd = s.shd ∧ (setOriginAct s t).guard = s.guard ∧ (setOriginAct s t).diag = s.diag ∧
    (setOriginAct s t).cal = s.cal ∧ (setOriginAct s t).net = s.net ∧ (setOriginAct s t).mbx = s.mbx ∧ (setOriginAct s
    t).io = s.io ∧ (setOriginAct s t).pins = s.pins ∧ (setOriginAct s t).aux = s.aux ∧ (setOriginAct s t).clk = s.clk
    ∧ (setOriginAct s t).pwr = s.pwr ∧ (setOriginAct s t).boot = s.boot ∧ (setOriginAct s t).thm = s.thm ∧
    (setOriginAct s t).ddr = s.ddr ∧ (setOriginAct s t).mram = s.mram ∧ (setOriginAct s t).flash = s.flash ∧
    (setOriginAct s t).flt = s.flt ∧ (setOriginAct s t).evt = s.evt := by
  unfold setOriginAct
  simp
def setOriginActRegs : List Field := [SCAN.ORIGIN_ACT_HI.ORIGIN_ACT, SCAN.ORIGIN_ACT_LO.ORIGIN_ACT]
@[simp] theorem setOriginAct_word {key : Nat} (hk : Outside setOriginActRegs key) (s : State) (t : Nat)  : wordAt
    (setOriginAct s t).regs key = wordAt s.regs key := by
  simp only [setOriginActRegs, outside_append, outside_cons, outside_nil, and_true] at hk
  unfold setOriginAct
  simp [hk]
@[simp] theorem alignFrame_keep (s : State) : (alignFrame s).pending = s.pending ∧ (alignFrame s).act = s.act ∧
    (alignFrame s).lt = s.lt ∧ (alignFrame s).synced = s.synced ∧ (alignFrame s).free = s.free ∧ (alignFrame s).dram =
    s.dram ∧ (alignFrame s).pix = s.pix ∧ (alignFrame s).gal = s.gal ∧ (alignFrame s).eng = s.eng ∧ (alignFrame
    s).stats = s.stats ∧ (alignFrame s).shd = s.shd ∧ (alignFrame s).guard = s.guard ∧ (alignFrame s).diag = s.diag ∧
    (alignFrame s).cal = s.cal ∧ (alignFrame s).net = s.net ∧ (alignFrame s).mbx = s.mbx ∧ (alignFrame s).io = s.io ∧
    (alignFrame s).pins = s.pins ∧ (alignFrame s).aux = s.aux ∧ (alignFrame s).clk = s.clk ∧ (alignFrame s).pwr =
    s.pwr ∧ (alignFrame s).boot = s.boot ∧ (alignFrame s).thm = s.thm ∧ (alignFrame s).ddr = s.ddr ∧ (alignFrame
    s).mram = s.mram ∧ (alignFrame s).flash = s.flash ∧ (alignFrame s).flt = s.flt ∧ (alignFrame s).evt = s.evt := by
  unfold alignFrame
  simp
def alignFrameRegs : List Field := [SCAN.RASTER.ALIGNING]
@[simp] theorem alignFrame_word {key : Nat} (hk : Outside alignFrameRegs key) (s : State)  : wordAt (alignFrame
    s).regs key = wordAt s.regs key := by
  simp only [alignFrameRegs, outside_append, outside_cons, outside_nil, and_true] at hk
  unfold alignFrame
  simp [hk]
@[simp] theorem scanEnable_keep (s : State) : (scanEnable s).pending = s.pending ∧ (scanEnable s).act = s.act ∧
    (scanEnable s).lt = s.lt ∧ (scanEnable s).synced = s.synced ∧ (scanEnable s).free = s.free ∧ (scanEnable s).dram =
    s.dram ∧ (scanEnable s).pix = s.pix ∧ (scanEnable s).gal = s.gal ∧ (scanEnable s).eng = s.eng ∧ (scanEnable
    s).stats = s.stats ∧ (scanEnable s).shd = s.shd ∧ (scanEnable s).guard = s.guard ∧ (scanEnable s).diag = s.diag ∧
    (scanEnable s).cal = s.cal ∧ (scanEnable s).net = s.net ∧ (scanEnable s).mbx = s.mbx ∧ (scanEnable s).io = s.io ∧
    (scanEnable s).pins = s.pins ∧ (scanEnable s).aux = s.aux ∧ (scanEnable s).clk = s.clk ∧ (scanEnable s).pwr =
    s.pwr ∧ (scanEnable s).boot = s.boot ∧ (scanEnable s).thm = s.thm ∧ (scanEnable s).ddr = s.ddr ∧ (scanEnable
    s).mram = s.mram ∧ (scanEnable s).flash = s.flash ∧ (scanEnable s).evt = s.evt := by
  unfold scanEnable
  simp
def scanEnableRegs : List Field := setOriginActRegs ++ raiseCauseRegs ++ [SAFE.FB_CAUSE.M7, SCAN.CTRL.EN,
    SCAN.FRAME_NUM.FRAME_NUM]
@[simp] theorem scanEnable_word {key : Nat} (hk : Outside scanEnableRegs key) (s : State)  : wordAt (scanEnable
    s).regs key = wordAt s.regs key := by
  simp only [scanEnableRegs, outside_append, outside_cons, outside_nil, and_true] at hk
  unfold scanEnable
  simp [hk]
@[simp] theorem stopRaster_keep (s : State) : (stopRaster s).pending = s.pending ∧ (stopRaster s).regs = s.regs ∧
    (stopRaster s).act = s.act ∧ (stopRaster s).lt = s.lt ∧ (stopRaster s).synced = s.synced ∧ (stopRaster s).free =
    s.free ∧ (stopRaster s).dram = s.dram ∧ (stopRaster s).gal = s.gal ∧ (stopRaster s).eng = s.eng ∧ (stopRaster
    s).stats = s.stats ∧ (stopRaster s).guard = s.guard ∧ (stopRaster s).diag = s.diag ∧ (stopRaster s).cal = s.cal ∧
    (stopRaster s).net = s.net ∧ (stopRaster s).mbx = s.mbx ∧ (stopRaster s).io = s.io ∧ (stopRaster s).pins = s.pins
    ∧ (stopRaster s).aux = s.aux ∧ (stopRaster s).clk = s.clk ∧ (stopRaster s).pwr = s.pwr ∧ (stopRaster s).boot =
    s.boot ∧ (stopRaster s).thm = s.thm ∧ (stopRaster s).ddr = s.ddr ∧ (stopRaster s).mram = s.mram ∧ (stopRaster
    s).flash = s.flash ∧ (stopRaster s).flt = s.flt ∧ (stopRaster s).evt = s.evt := by
  unfold stopRaster
  simp [-List.reduceReplicate]
@[simp] theorem scanDisable_keep (s : State) : (scanDisable s).pending = s.pending ∧ (scanDisable s).act = s.act ∧
    (scanDisable s).lt = s.lt ∧ (scanDisable s).synced = s.synced ∧ (scanDisable s).free = s.free ∧ (scanDisable
    s).dram = s.dram ∧ (scanDisable s).gal = s.gal ∧ (scanDisable s).eng = s.eng ∧ (scanDisable s).stats = s.stats ∧
    (scanDisable s).guard = s.guard ∧ (scanDisable s).diag = s.diag ∧ (scanDisable s).cal = s.cal ∧ (scanDisable
    s).net = s.net ∧ (scanDisable s).mbx = s.mbx ∧ (scanDisable s).io = s.io ∧ (scanDisable s).pins = s.pins ∧
    (scanDisable s).aux = s.aux ∧ (scanDisable s).clk = s.clk ∧ (scanDisable s).pwr = s.pwr ∧ (scanDisable s).boot =
    s.boot ∧ (scanDisable s).thm = s.thm ∧ (scanDisable s).ddr = s.ddr ∧ (scanDisable s).mram = s.mram ∧ (scanDisable
    s).flash = s.flash ∧ (scanDisable s).evt = s.evt := by
  unfold scanDisable
  simp
def scanDisableRegs : List Field := clearCauseRegs ++ [SAFE.FB_CAUSE.M7, SCAN.CTRL.EN]
@[simp] theorem scanDisable_word {key : Nat} (hk : Outside scanDisableRegs key) (s : State)  : wordAt (scanDisable
    s).regs key = wordAt s.regs key := by
  simp only [scanDisableRegs, outside_append, outside_cons, outside_nil, and_true] at hk
  unfold scanDisable
  simp [hk]
@[simp] theorem underrun_keep (s : State) (r : Nat) (inj : Bool) : (underrun s r inj).pending = s.pending ∧ (underrun
    s r inj).act = s.act ∧ (underrun s r inj).lt = s.lt ∧ (underrun s r inj).synced = s.synced ∧ (underrun s r
    inj).free = s.free ∧ (underrun s r inj).dram = s.dram ∧ (underrun s r inj).gal = s.gal ∧ (underrun s r inj).eng =
    s.eng ∧ (underrun s r inj).shd = s.shd ∧ (underrun s r inj).guard = s.guard ∧ (underrun s r inj).diag = s.diag ∧
    (underrun s r inj).cal = s.cal ∧ (underrun s r inj).net = s.net ∧ (underrun s r inj).mbx = s.mbx ∧ (underrun s r
    inj).io = s.io ∧ (underrun s r inj).pins = s.pins ∧ (underrun s r inj).aux = s.aux ∧ (underrun s r inj).clk =
    s.clk ∧ (underrun s r inj).pwr = s.pwr ∧ (underrun s r inj).boot = s.boot ∧ (underrun s r inj).thm = s.thm ∧
    (underrun s r inj).ddr = s.ddr ∧ (underrun s r inj).mram = s.mram ∧ (underrun s r inj).flash = s.flash ∧ (underrun
    s r inj).evt = s.evt := by
  unfold underrun
  simp
def underrunRegs : List Field := raiseEitherRegs ++ [SCAN.UR_COUNT.UR_COUNT, SCAN.UR_STATUS.UNDERRUN,
    SCAN.UR_STATUS.UR_ROW]
@[simp] theorem underrun_word {key : Nat} (hk : Outside underrunRegs key) (s : State) (r : Nat) (inj : Bool)  : wordAt
    (underrun s r inj).regs key = wordAt s.regs key := by
  simp only [underrunRegs, outside_append, outside_cons, outside_nil, and_true] at hk
  unfold underrun
  simp [hk]
@[simp] theorem beginFetch_keep (s : State) (r : Nat) : (beginFetch s r).pending = s.pending ∧ (beginFetch s r).regs =
    s.regs ∧ (beginFetch s r).act = s.act ∧ (beginFetch s r).lt = s.lt ∧ (beginFetch s r).synced = s.synced ∧
    (beginFetch s r).free = s.free ∧ (beginFetch s r).dram = s.dram ∧ (beginFetch s r).scan = s.scan ∧ (beginFetch s
    r).pix = s.pix ∧ (beginFetch s r).gal = s.gal ∧ (beginFetch s r).eng = s.eng ∧ (beginFetch s r).stats = s.stats ∧
    (beginFetch s r).guard = s.guard ∧ (beginFetch s r).diag = s.diag ∧ (beginFetch s r).cal = s.cal ∧ (beginFetch s
    r).net = s.net ∧ (beginFetch s r).mbx = s.mbx ∧ (beginFetch s r).io = s.io ∧ (beginFetch s r).pins = s.pins ∧
    (beginFetch s r).aux = s.aux ∧ (beginFetch s r).clk = s.clk ∧ (beginFetch s r).pwr = s.pwr ∧ (beginFetch s r).boot
    = s.boot ∧ (beginFetch s r).thm = s.thm ∧ (beginFetch s r).ddr = s.ddr ∧ (beginFetch s r).mram = s.mram ∧
    (beginFetch s r).flash = s.flash ∧ (beginFetch s r).flt = s.flt ∧ (beginFetch s r).evt = s.evt := by
  unfold beginFetch
  split <;> simp
@[simp] theorem placeRow_keep (s : State) (r : Nat) (codes : List Nat) : (placeRow s r codes).pending = s.pending ∧
    (placeRow s r codes).act = s.act ∧ (placeRow s r codes).lt = s.lt ∧ (placeRow s r codes).synced = s.synced ∧
    (placeRow s r codes).free = s.free ∧ (placeRow s r codes).dram = s.dram ∧ (placeRow s r codes).gal = s.gal ∧
    (placeRow s r codes).eng = s.eng ∧ (placeRow s r codes).stats = s.stats ∧ (placeRow s r codes).shd = s.shd ∧
    (placeRow s r codes).guard = s.guard ∧ (placeRow s r codes).diag = s.diag ∧ (placeRow s r codes).cal = s.cal ∧
    (placeRow s r codes).net = s.net ∧ (placeRow s r codes).mbx = s.mbx ∧ (placeRow s r codes).io = s.io ∧ (placeRow s
    r codes).pins = s.pins ∧ (placeRow s r codes).aux = s.aux ∧ (placeRow s r codes).clk = s.clk ∧ (placeRow s r
    codes).pwr = s.pwr ∧ (placeRow s r codes).boot = s.boot ∧ (placeRow s r codes).thm = s.thm ∧ (placeRow s r
    codes).ddr = s.ddr ∧ (placeRow s r codes).mram = s.mram ∧ (placeRow s r codes).flash = s.flash ∧ (placeRow s r
    codes).flt = s.flt ∧ (placeRow s r codes).evt = s.evt := by
  unfold placeRow
  simp
def placeRowRegs : List Field := [SCAN.SWAP_STATUS.HOLD_USED]
@[simp] theorem placeRow_word {key : Nat} (hk : Outside placeRowRegs key) (s : State) (r : Nat) (codes : List Nat)  :
    wordAt (placeRow s r codes).regs key = wordAt s.regs key := by
  simp only [placeRowRegs, outside_append, outside_cons, outside_nil, and_true] at hk
  unfold placeRow
  simp [hk]
@[simp] theorem rowChecks_keep (s : State) (accBad echoBad inj9 inj10 : Bool) : (rowChecks s accBad echoBad inj9
    inj10).pending = s.pending ∧ (rowChecks s accBad echoBad inj9 inj10).act = s.act ∧ (rowChecks s accBad echoBad
    inj9 inj10).lt = s.lt ∧ (rowChecks s accBad echoBad inj9 inj10).synced = s.synced ∧ (rowChecks s accBad echoBad
    inj9 inj10).free = s.free ∧ (rowChecks s accBad echoBad inj9 inj10).dram = s.dram ∧ (rowChecks s accBad echoBad
    inj9 inj10).pix = s.pix ∧ (rowChecks s accBad echoBad inj9 inj10).gal = s.gal ∧ (rowChecks s accBad echoBad inj9
    inj10).eng = s.eng ∧ (rowChecks s accBad echoBad inj9 inj10).stats = s.stats ∧ (rowChecks s accBad echoBad inj9
    inj10).shd = s.shd ∧ (rowChecks s accBad echoBad inj9 inj10).diag = s.diag ∧ (rowChecks s accBad echoBad inj9
    inj10).cal = s.cal ∧ (rowChecks s accBad echoBad inj9 inj10).net = s.net ∧ (rowChecks s accBad echoBad inj9
    inj10).mbx = s.mbx ∧ (rowChecks s accBad echoBad inj9 inj10).io = s.io ∧ (rowChecks s accBad echoBad inj9
    inj10).pins = s.pins ∧ (rowChecks s accBad echoBad inj9 inj10).aux = s.aux ∧ (rowChecks s accBad echoBad inj9
    inj10).clk = s.clk ∧ (rowChecks s accBad echoBad inj9 inj10).pwr = s.pwr ∧ (rowChecks s accBad echoBad inj9
    inj10).boot = s.boot ∧ (rowChecks s accBad echoBad inj9 inj10).thm = s.thm ∧ (rowChecks s accBad echoBad inj9
    inj10).ddr = s.ddr ∧ (rowChecks s accBad echoBad inj9 inj10).mram = s.mram ∧ (rowChecks s accBad echoBad inj9
    inj10).flash = s.flash ∧ (rowChecks s accBad echoBad inj9 inj10).evt = s.evt := by
  unfold rowChecks
  simp
def rowChecksRegs : List Field := raiseEitherRegs
@[simp] theorem rowChecks_word {key : Nat} (hk : Outside rowChecksRegs key) (s : State) (accBad echoBad inj9 inj10 :
    Bool)  : wordAt (rowChecks s accBad echoBad inj9 inj10).regs key = wordAt s.regs key := by
  simp only [rowChecksRegs, outside_append, outside_cons, outside_nil, and_true] at hk
  unfold rowChecks
  simp [hk]
@[simp] theorem deliverRow_keep (s : State) (r : Nat) (echoGood accGood : Bool) : (deliverRow s r echoGood
    accGood).pending = s.pending ∧ (deliverRow s r echoGood accGood).act = s.act ∧ (deliverRow s r echoGood
    accGood).lt = s.lt ∧ (deliverRow s r echoGood accGood).synced = s.synced ∧ (deliverRow s r echoGood accGood).free
    = s.free ∧ (deliverRow s r echoGood accGood).dram = s.dram ∧ (deliverRow s r echoGood accGood).gal = s.gal ∧
    (deliverRow s r echoGood accGood).eng = s.eng ∧ (deliverRow s r echoGood accGood).stats = s.stats ∧ (deliverRow s
    r echoGood accGood).shd = s.shd ∧ (deliverRow s r echoGood accGood).diag = s.diag ∧ (deliverRow s r echoGood
    accGood).cal = s.cal ∧ (deliverRow s r echoGood accGood).net = s.net ∧ (deliverRow s r echoGood accGood).mbx =
    s.mbx ∧ (deliverRow s r echoGood accGood).io = s.io ∧ (deliverRow s r echoGood accGood).pins = s.pins ∧
    (deliverRow s r echoGood accGood).aux = s.aux ∧ (deliverRow s r echoGood accGood).clk = s.clk ∧ (deliverRow s r
    echoGood accGood).pwr = s.pwr ∧ (deliverRow s r echoGood accGood).boot = s.boot ∧ (deliverRow s r echoGood
    accGood).thm = s.thm ∧ (deliverRow s r echoGood accGood).mram = s.mram ∧ (deliverRow s r echoGood accGood).flash =
    s.flash ∧ (deliverRow s r echoGood accGood).evt = s.evt := by
  unfold deliverRow
  simp
def deliverRowRegs : List Field := placeRowRegs ++ rowChecksRegs ++ dramExitRegs
@[simp] theorem deliverRow_word {key : Nat} (hk : Outside deliverRowRegs key) (s : State) (r : Nat) (echoGood accGood
    : Bool)  : wordAt (deliverRow s r echoGood accGood).regs key = wordAt s.regs key := by
  simp only [deliverRowRegs, outside_append, outside_cons, outside_nil, and_true] at hk
  unfold deliverRow
  simp [hk]
@[simp] theorem closeLoad_keep (s : State) : (closeLoad s).pending = s.pending ∧ (closeLoad s).act = s.act ∧
    (closeLoad s).lt = s.lt ∧ (closeLoad s).synced = s.synced ∧ (closeLoad s).free = s.free ∧ (closeLoad s).dram =
    s.dram ∧ (closeLoad s).gal = s.gal ∧ (closeLoad s).eng = s.eng ∧ (closeLoad s).shd = s.shd ∧ (closeLoad s).guard =
    s.guard ∧ (closeLoad s).diag = s.diag ∧ (closeLoad s).cal = s.cal ∧ (closeLoad s).net = s.net ∧ (closeLoad s).mbx
    = s.mbx ∧ (closeLoad s).io = s.io ∧ (closeLoad s).pins = s.pins ∧ (closeLoad s).aux = s.aux ∧ (closeLoad s).clk =
    s.clk ∧ (closeLoad s).pwr = s.pwr ∧ (closeLoad s).boot = s.boot ∧ (closeLoad s).thm = s.thm ∧ (closeLoad s).ddr =
    s.ddr ∧ (closeLoad s).mram = s.mram ∧ (closeLoad s).flash = s.flash ∧ (closeLoad s).evt = s.evt := by
  unfold closeLoad
  simp
def closeLoadRegs : List Field := underrunRegs
@[simp] theorem closeLoad_word {key : Nat} (hk : Outside closeLoadRegs key) (s : State)  : wordAt (closeLoad s).regs
    key = wordAt s.regs key := by
  simp only [closeLoadRegs, outside_append, outside_cons, outside_nil, and_true] at hk
  unfold closeLoad
  simp [hk]
@[simp] theorem closeFrame_keep (s : State) : (closeFrame s).pending = s.pending ∧ (closeFrame s).act = s.act ∧
    (closeFrame s).lt = s.lt ∧ (closeFrame s).synced = s.synced ∧ (closeFrame s).free = s.free ∧ (closeFrame s).dram =
    s.dram ∧ (closeFrame s).pix = s.pix ∧ (closeFrame s).gal = s.gal ∧ (closeFrame s).eng = s.eng ∧ (closeFrame s).shd
    = s.shd ∧ (closeFrame s).diag = s.diag ∧ (closeFrame s).cal = s.cal ∧ (closeFrame s).net = s.net ∧ (closeFrame
    s).mbx = s.mbx ∧ (closeFrame s).io = s.io ∧ (closeFrame s).pins = s.pins ∧ (closeFrame s).aux = s.aux ∧
    (closeFrame s).clk = s.clk ∧ (closeFrame s).pwr = s.pwr ∧ (closeFrame s).boot = s.boot ∧ (closeFrame s).thm =
    s.thm ∧ (closeFrame s).ddr = s.ddr ∧ (closeFrame s).mram = s.mram ∧ (closeFrame s).flash = s.flash ∧ (closeFrame
    s).evt = s.evt := by
  unfold closeFrame
  simp
def closeFrameRegs : List Field := judgeRegs ++ swapGateRegs ++ clearCauseRegs ++ [SAFE.FB_CAUSE.M7]
@[simp] theorem closeFrame_word {key : Nat} (hk : Outside closeFrameRegs key) (s : State)  : wordAt (closeFrame
    s).regs key = wordAt s.regs key := by
  simp only [closeFrameRegs, outside_append, outside_cons, outside_nil, and_true] at hk
  unfold closeFrame
  simp [hk]
@[simp] theorem closeDose_keep (s : State) : (closeDose s).pending = s.pending ∧ (closeDose s).regs = s.regs ∧
    (closeDose s).act = s.act ∧ (closeDose s).lt = s.lt ∧ (closeDose s).synced = s.synced ∧ (closeDose s).free =
    s.free ∧ (closeDose s).dram = s.dram ∧ (closeDose s).scan = s.scan ∧ (closeDose s).pix = s.pix ∧ (closeDose s).gal
    = s.gal ∧ (closeDose s).stats = s.stats ∧ (closeDose s).shd = s.shd ∧ (closeDose s).guard = s.guard ∧ (closeDose
    s).diag = s.diag ∧ (closeDose s).net = s.net ∧ (closeDose s).mbx = s.mbx ∧ (closeDose s).io = s.io ∧ (closeDose
    s).pins = s.pins ∧ (closeDose s).aux = s.aux ∧ (closeDose s).clk = s.clk ∧ (closeDose s).pwr = s.pwr ∧ (closeDose
    s).boot = s.boot ∧ (closeDose s).thm = s.thm ∧ (closeDose s).ddr = s.ddr ∧ (closeDose s).mram = s.mram ∧
    (closeDose s).flash = s.flash ∧ (closeDose s).flt = s.flt ∧ (closeDose s).evt = s.evt := by
  unfold closeDose
  simp
@[simp] theorem enterMode_keep (s : State) (old : Nat) (first : Bool) : (enterMode s old first).pending = s.pending ∧
    (enterMode s old first).act = s.act ∧ (enterMode s old first).lt = s.lt ∧ (enterMode s old first).synced =
    s.synced ∧ (enterMode s old first).free = s.free ∧ (enterMode s old first).dram = s.dram ∧ (enterMode s old
    first).pix = s.pix ∧ (enterMode s old first).eng = s.eng ∧ (enterMode s old first).stats = s.stats ∧ (enterMode s
    old first).shd = s.shd ∧ (enterMode s old first).guard = s.guard ∧ (enterMode s old first).diag = s.diag ∧
    (enterMode s old first).cal = s.cal ∧ (enterMode s old first).net = s.net ∧ (enterMode s old first).mbx = s.mbx ∧
    (enterMode s old first).io = s.io ∧ (enterMode s old first).pins = s.pins ∧ (enterMode s old first).aux = s.aux ∧
    (enterMode s old first).clk = s.clk ∧ (enterMode s old first).pwr = s.pwr ∧ (enterMode s old first).boot = s.boot
    ∧ (enterMode s old first).thm = s.thm ∧ (enterMode s old first).ddr = s.ddr ∧ (enterMode s old first).mram =
    s.mram ∧ (enterMode s old first).flash = s.flash ∧ (enterMode s old first).evt = s.evt := by
  unfold enterMode
  simp
def enterModeRegs : List Field := discardKilnRegs ++ setOriginActRegs ++ raiseCauseRegs ++ [SAFE.FB_CAUSE.M7,
    SCAN.RASTER.SS_SUPPRESSED]
@[simp] theorem enterMode_word {key : Nat} (hk : Outside enterModeRegs key) (s : State) (old : Nat) (first : Bool)  :
    wordAt (enterMode s old first).regs key = wordAt s.regs key := by
  simp only [enterModeRegs, outside_append, outside_cons, outside_nil, and_true] at hk
  unfold enterMode
  simp [hk]
@[simp] theorem openLoad_keep (s : State) : (openLoad s).pending = s.pending ∧ (openLoad s).act = s.act ∧ (openLoad
    s).lt = s.lt ∧ (openLoad s).synced = s.synced ∧ (openLoad s).dram = s.dram ∧ (openLoad s).pix = s.pix ∧ (openLoad
    s).eng = s.eng ∧ (openLoad s).stats = s.stats ∧ (openLoad s).diag = s.diag ∧ (openLoad s).cal = s.cal ∧ (openLoad
    s).net = s.net ∧ (openLoad s).mbx = s.mbx ∧ (openLoad s).io = s.io ∧ (openLoad s).pins = s.pins ∧ (openLoad s).aux
    = s.aux ∧ (openLoad s).clk = s.clk ∧ (openLoad s).pwr = s.pwr ∧ (openLoad s).boot = s.boot ∧ (openLoad s).thm =
    s.thm ∧ (openLoad s).ddr = s.ddr ∧ (openLoad s).mram = s.mram ∧ (openLoad s).flash = s.flash ∧ (openLoad s).flt =
    s.flt ∧ (openLoad s).evt = s.evt := by
  unfold openLoad
  simp
def openLoadRegs : List Field := [SCAN.RASTER.SLOT, SCAN.SWAP_STATUS.GRP_SWAPPED, SCAN.SWAP_STATUS.HOLD_PEAK]
@[simp] theorem openLoad_word {key : Nat} (hk : Outside openLoadRegs key) (s : State)  : wordAt (openLoad s).regs key
    = wordAt s.regs key := by
  simp only [openLoadRegs, outside_append, outside_cons, outside_nil, and_true] at hk
  unfold openLoad
  simp [hk]
@[simp] theorem flushHold_keep (s : State) : (flushHold s).pending = s.pending ∧ (flushHold s).regs = s.regs ∧
    (flushHold s).act = s.act ∧ (flushHold s).lt = s.lt ∧ (flushHold s).synced = s.synced ∧ (flushHold s).free =
    s.free ∧ (flushHold s).dram = s.dram ∧ (flushHold s).gal = s.gal ∧ (flushHold s).eng = s.eng ∧ (flushHold s).stats
    = s.stats ∧ (flushHold s).shd = s.shd ∧ (flushHold s).guard = s.guard ∧ (flushHold s).diag = s.diag ∧ (flushHold
    s).cal = s.cal ∧ (flushHold s).net = s.net ∧ (flushHold s).mbx = s.mbx ∧ (flushHold s).io = s.io ∧ (flushHold
    s).pins = s.pins ∧ (flushHold s).aux = s.aux ∧ (flushHold s).clk = s.clk ∧ (flushHold s).pwr = s.pwr ∧ (flushHold
    s).boot = s.boot ∧ (flushHold s).thm = s.thm ∧ (flushHold s).ddr = s.ddr ∧ (flushHold s).mram = s.mram ∧
    (flushHold s).flash = s.flash ∧ (flushHold s).flt = s.flt ∧ (flushHold s).evt = s.evt := by
  unfold flushHold
  simp
@[simp] theorem strapFrameStart_keep (s : State) : (strapFrameStart s).pending = s.pending ∧ (strapFrameStart s).act =
    s.act ∧ (strapFrameStart s).lt = s.lt ∧ (strapFrameStart s).synced = s.synced ∧ (strapFrameStart s).free = s.free
    ∧ (strapFrameStart s).dram = s.dram ∧ (strapFrameStart s).pix = s.pix ∧ (strapFrameStart s).gal = s.gal ∧
    (strapFrameStart s).eng = s.eng ∧ (strapFrameStart s).stats = s.stats ∧ (strapFrameStart s).shd = s.shd ∧
    (strapFrameStart s).diag = s.diag ∧ (strapFrameStart s).cal = s.cal ∧ (strapFrameStart s).net = s.net ∧
    (strapFrameStart s).mbx = s.mbx ∧ (strapFrameStart s).io = s.io ∧ (strapFrameStart s).pins = s.pins ∧
    (strapFrameStart s).aux = s.aux ∧ (strapFrameStart s).clk = s.clk ∧ (strapFrameStart s).pwr = s.pwr ∧
    (strapFrameStart s).boot = s.boot ∧ (strapFrameStart s).thm = s.thm ∧ (strapFrameStart s).ddr = s.ddr ∧
    (strapFrameStart s).mram = s.mram ∧ (strapFrameStart s).flash = s.flash ∧ (strapFrameStart s).evt = s.evt := by
  unfold strapFrameStart
  simp
def strapFrameStartRegs : List Field := breakSealRegs
@[simp] theorem strapFrameStart_word {key : Nat} (hk : Outside strapFrameStartRegs key) (s : State)  : wordAt
    (strapFrameStart s).regs key = wordAt s.regs key := by
  simp only [strapFrameStartRegs, outside_append, outside_cons, outside_nil, and_true] at hk
  unfold strapFrameStart
  simp [hk]
@[simp] theorem takeSpread_keep (s : State) : (takeSpread s).pending = s.pending ∧ (takeSpread s).regs = s.regs ∧
    (takeSpread s).act = s.act ∧ (takeSpread s).lt = s.lt ∧ (takeSpread s).synced = s.synced ∧ (takeSpread s).free =
    s.free ∧ (takeSpread s).dram = s.dram ∧ (takeSpread s).scan = s.scan ∧ (takeSpread s).pix = s.pix ∧ (takeSpread
    s).gal = s.gal ∧ (takeSpread s).eng = s.eng ∧ (takeSpread s).stats = s.stats ∧ (takeSpread s).shd = s.shd ∧
    (takeSpread s).guard = s.guard ∧ (takeSpread s).diag = s.diag ∧ (takeSpread s).cal = s.cal ∧ (takeSpread s).net =
    s.net ∧ (takeSpread s).mbx = s.mbx ∧ (takeSpread s).io = s.io ∧ (takeSpread s).pins = s.pins ∧ (takeSpread s).aux
    = s.aux ∧ (takeSpread s).pwr = s.pwr ∧ (takeSpread s).boot = s.boot ∧ (takeSpread s).thm = s.thm ∧ (takeSpread
    s).ddr = s.ddr ∧ (takeSpread s).mram = s.mram ∧ (takeSpread s).flash = s.flash ∧ (takeSpread s).flt = s.flt ∧
    (takeSpread s).evt = s.evt := by
  unfold takeSpread
  simp
@[simp] theorem beginFrame_keep (s : State) (load : Nat) (first : Bool) : (beginFrame s load first).pending =
    s.pending ∧ (beginFrame s load first).lt = s.lt ∧ (beginFrame s load first).synced = s.synced ∧ (beginFrame s load
    first).dram = s.dram ∧ (beginFrame s load first).pix = s.pix ∧ (beginFrame s load first).net = s.net ∧ (beginFrame
    s load first).mbx = s.mbx ∧ (beginFrame s load first).io = s.io ∧ (beginFrame s load first).aux = s.aux ∧
    (beginFrame s load first).pwr = s.pwr ∧ (beginFrame s load first).boot = s.boot ∧ (beginFrame s load first).thm =
    s.thm ∧ (beginFrame s load first).ddr = s.ddr ∧ (beginFrame s load first).mram = s.mram ∧ (beginFrame s load
    first).flash = s.flash ∧ (beginFrame s load first).evt = s.evt := by
  unfold beginFrame
  simp
def beginFrameRegs : List Field := galFrameStartRegs ++ enterModeRegs ++ engFrameStartRegs ++ governorRegs ++
    calFrameStartRegs ++ pathFrameStartRegs ++ openLoadRegs ++ alignFrameRegs ++ [SCAN.COMMIT_STATUS.COMMIT_PEND,
    SCAN.FRAME_NUM.FRAME_NUM]
@[simp] theorem beginFrame_word {key : Nat} (hk : Outside beginFrameRegs key) (s : State) (load : Nat) (first : Bool)
    : wordAt (beginFrame s load first).regs key = wordAt s.regs key := by
  simp only [beginFrameRegs, outside_append, outside_cons, outside_nil, and_true] at hk
  unfold beginFrame
  simp [hk]

end Sys2Proof.Machine
end

