-- ==== Sys2Proof/Laws/FrameClocks.lean ====
section
/-! SUPPORT. FrameClocks.lean: for each operation of Machine/Clocks.lean, the parts of State that it leaves alone and the register
fields outside which it changes none. -/

set_option linter.unusedSimpArgs false

namespace Sys2Proof.Machine

set_option Elab.async false

@[simp] theorem chooseRef_keep (s : State) (good : Bool) : (chooseRef s good).pending = s.pending ∧ (chooseRef s
    good).act = s.act ∧ (chooseRef s good).lt = s.lt ∧ (chooseRef s good).synced = s.synced ∧ (chooseRef s good).free
    = s.free ∧ (chooseRef s good).dram = s.dram ∧ (chooseRef s good).scan = s.scan ∧ (chooseRef s good).pix = s.pix ∧
    (chooseRef s good).gal = s.gal ∧ (chooseRef s good).eng = s.eng ∧ (chooseRef s good).stats = s.stats ∧ (chooseRef
    s good).shd = s.shd ∧ (chooseRef s good).guard = s.guard ∧ (chooseRef s good).diag = s.diag ∧ (chooseRef s
    good).cal = s.cal ∧ (chooseRef s good).net = s.net ∧ (chooseRef s good).mbx = s.mbx ∧ (chooseRef s good).io = s.io
    ∧ (chooseRef s good).pins = s.pins ∧ (chooseRef s good).aux = s.aux ∧ (chooseRef s good).clk = s.clk ∧ (chooseRef
    s good).pwr = s.pwr ∧ (chooseRef s good).boot = s.boot ∧ (chooseRef s good).thm = s.thm ∧ (chooseRef s good).ddr =
    s.ddr ∧ (chooseRef s good).mram = s.mram ∧ (chooseRef s good).flash = s.flash ∧ (chooseRef s good).flt = s.flt ∧
    (chooseRef s good).evt = s.evt := by
  unfold chooseRef
  simp
def chooseRefRegs : List Field := [CLK.STATUS.SRC]
@[simp] theorem chooseRef_word {key : Nat} (hk : Outside chooseRefRegs key) (s : State) (good : Bool)  : wordAt
    (chooseRef s good).regs key = wordAt s.regs key := by
  simp only [chooseRefRegs, outside_append, outside_cons, outside_nil, and_true] at hk
  unfold chooseRef
  simp [hk]
@[simp] theorem lockPll_keep (s : State) : (lockPll s).pending = s.pending ∧ (lockPll s).act = s.act ∧ (lockPll s).lt
    = s.lt ∧ (lockPll s).synced = s.synced ∧ (lockPll s).free = s.free ∧ (lockPll s).dram = s.dram ∧ (lockPll s).scan
    = s.scan ∧ (lockPll s).pix = s.pix ∧ (lockPll s).gal = s.gal ∧ (lockPll s).eng = s.eng ∧ (lockPll s).stats =
    s.stats ∧ (lockPll s).shd = s.shd ∧ (lockPll s).guard = s.guard ∧ (lockPll s).diag = s.diag ∧ (lockPll s).cal =
    s.cal ∧ (lockPll s).net = s.net ∧ (lockPll s).mbx = s.mbx ∧ (lockPll s).io = s.io ∧ (lockPll s).pins = s.pins ∧
    (lockPll s).aux = s.aux ∧ (lockPll s).pwr = s.pwr ∧ (lockPll s).boot = s.boot ∧ (lockPll s).thm = s.thm ∧ (lockPll
    s).ddr = s.ddr ∧ (lockPll s).mram = s.mram ∧ (lockPll s).flash = s.flash ∧ (lockPll s).flt = s.flt ∧ (lockPll
    s).evt = s.evt := by
  unfold lockPll
  simp
def lockPllRegs : List Field := [CLK.STATUS.CLOCK_OK, CLK.STATUS.PLL_LOCK]
@[simp] theorem lockPll_word {key : Nat} (hk : Outside lockPllRegs key) (s : State)  : wordAt (lockPll s).regs key =
    wordAt s.regs key := by
  simp only [lockPllRegs, outside_append, outside_cons, outside_nil, and_true] at hk
  unfold lockPll
  simp [hk]
@[simp] theorem rampStep_keep (s : State) : (rampStep s).pending = s.pending ∧ (rampStep s).regs = s.regs ∧ (rampStep
    s).act = s.act ∧ (rampStep s).lt = s.lt ∧ (rampStep s).synced = s.synced ∧ (rampStep s).free = s.free ∧ (rampStep
    s).dram = s.dram ∧ (rampStep s).scan = s.scan ∧ (rampStep s).pix = s.pix ∧ (rampStep s).gal = s.gal ∧ (rampStep
    s).eng = s.eng ∧ (rampStep s).stats = s.stats ∧ (rampStep s).shd = s.shd ∧ (rampStep s).guard = s.guard ∧
    (rampStep s).diag = s.diag ∧ (rampStep s).cal = s.cal ∧ (rampStep s).net = s.net ∧ (rampStep s).mbx = s.mbx ∧
    (rampStep s).io = s.io ∧ (rampStep s).pins = s.pins ∧ (rampStep s).aux = s.aux ∧ (rampStep s).pwr = s.pwr ∧
    (rampStep s).boot = s.boot ∧ (rampStep s).thm = s.thm ∧ (rampStep s).ddr = s.ddr ∧ (rampStep s).mram = s.mram ∧
    (rampStep s).flash = s.flash ∧ (rampStep s).flt = s.flt ∧ (rampStep s).evt = s.evt := by
  unfold rampStep
  split <;> simp
@[simp] theorem rampAll_keep (s : State) : (rampAll s).pending = s.pending ∧ (rampAll s).regs = s.regs ∧ (rampAll
    s).act = s.act ∧ (rampAll s).lt = s.lt ∧ (rampAll s).synced = s.synced ∧ (rampAll s).free = s.free ∧ (rampAll
    s).dram = s.dram ∧ (rampAll s).scan = s.scan ∧ (rampAll s).pix = s.pix ∧ (rampAll s).gal = s.gal ∧ (rampAll s).eng
    = s.eng ∧ (rampAll s).stats = s.stats ∧ (rampAll s).shd = s.shd ∧ (rampAll s).guard = s.guard ∧ (rampAll s).diag =
    s.diag ∧ (rampAll s).cal = s.cal ∧ (rampAll s).net = s.net ∧ (rampAll s).mbx = s.mbx ∧ (rampAll s).io = s.io ∧
    (rampAll s).pins = s.pins ∧ (rampAll s).aux = s.aux ∧ (rampAll s).pwr = s.pwr ∧ (rampAll s).boot = s.boot ∧
    (rampAll s).thm = s.thm ∧ (rampAll s).ddr = s.ddr ∧ (rampAll s).mram = s.mram ∧ (rampAll s).flash = s.flash ∧
    (rampAll s).flt = s.flt ∧ (rampAll s).evt = s.evt := by
  unfold rampAll
  simp
@[simp] theorem portTrip_keep (s : State) (p : Nat) : (portTrip s p).pending = s.pending ∧ (portTrip s p).act = s.act
    ∧ (portTrip s p).lt = s.lt ∧ (portTrip s p).synced = s.synced ∧ (portTrip s p).free = s.free ∧ (portTrip s p).dram
    = s.dram ∧ (portTrip s p).pix = s.pix ∧ (portTrip s p).gal = s.gal ∧ (portTrip s p).eng = s.eng ∧ (portTrip s
    p).stats = s.stats ∧ (portTrip s p).shd = s.shd ∧ (portTrip s p).guard = s.guard ∧ (portTrip s p).diag = s.diag ∧
    (portTrip s p).cal = s.cal ∧ (portTrip s p).mbx = s.mbx ∧ (portTrip s p).io = s.io ∧ (portTrip s p).pins = s.pins
    ∧ (portTrip s p).aux = s.aux ∧ (portTrip s p).clk = s.clk ∧ (portTrip s p).pwr = s.pwr ∧ (portTrip s p).boot =
    s.boot ∧ (portTrip s p).thm = s.thm ∧ (portTrip s p).ddr = s.ddr ∧ (portTrip s p).mram = s.mram ∧ (portTrip s
    p).flash = s.flash ∧ (portTrip s p).evt = s.evt := by
  unfold portTrip
  simp
def portTripRegs : List Field := linkLostRegs ++ allOf 2 TX.STATUS.STATE
@[simp] theorem portTrip_word {key : Nat} (hk : Outside portTripRegs key) (s : State) (p : Nat)  : wordAt (portTrip s
    p).regs key = wordAt s.regs key := by
  simp only [portTripRegs, outside_append, outside_cons, outside_nil, and_true, outside_TX_STATUS_STATE] at hk
  unfold portTrip
  simp [hk]
@[simp] theorem dropFrames_keep (s : State) : (dropFrames s).pending = s.pending ∧ (dropFrames s).regs = s.regs ∧
    (dropFrames s).act = s.act ∧ (dropFrames s).lt = s.lt ∧ (dropFrames s).synced = s.synced ∧ (dropFrames s).free =
    s.free ∧ (dropFrames s).dram = s.dram ∧ (dropFrames s).gal = s.gal ∧ (dropFrames s).eng = s.eng ∧ (dropFrames
    s).diag = s.diag ∧ (dropFrames s).cal = s.cal ∧ (dropFrames s).net = s.net ∧ (dropFrames s).mbx = s.mbx ∧
    (dropFrames s).io = s.io ∧ (dropFrames s).pins = s.pins ∧ (dropFrames s).aux = s.aux ∧ (dropFrames s).clk = s.clk
    ∧ (dropFrames s).pwr = s.pwr ∧ (dropFrames s).boot = s.boot ∧ (dropFrames s).thm = s.thm ∧ (dropFrames s).ddr =
    s.ddr ∧ (dropFrames s).mram = s.mram ∧ (dropFrames s).flash = s.flash ∧ (dropFrames s).flt = s.flt ∧ (dropFrames
    s).evt = s.evt := by
  unfold dropFrames
  simp
@[simp] theorem clockTrip_keep (s : State) (clks : Nat) : (clockTrip s clks).pending = s.pending ∧ (clockTrip s
    clks).act = s.act ∧ (clockTrip s clks).lt = s.lt ∧ (clockTrip s clks).free = s.free ∧ (clockTrip s clks).dram =
    s.dram ∧ (clockTrip s clks).gal = s.gal ∧ (clockTrip s clks).eng = s.eng ∧ (clockTrip s clks).diag = s.diag ∧
    (clockTrip s clks).cal = s.cal ∧ (clockTrip s clks).mbx = s.mbx ∧ (clockTrip s clks).io = s.io ∧ (clockTrip s
    clks).pins = s.pins ∧ (clockTrip s clks).pwr = s.pwr ∧ (clockTrip s clks).boot = s.boot ∧ (clockTrip s clks).thm =
    s.thm ∧ (clockTrip s clks).ddr = s.ddr ∧ (clockTrip s clks).mram = s.mram ∧ (clockTrip s clks).flash = s.flash ∧
    (clockTrip s clks).evt = s.evt := by
  unfold clockTrip
  simp [-List.reduceReplicate]
def clockTripRegs : List Field := raiseCauseRegs ++ portTripRegs ++ [CLK.STATUS.PLL_LOCK, SAFE.FB_CAUSE.CLOCK]
@[simp] theorem clockTrip_word {key : Nat} (hk : Outside clockTripRegs key) (s : State) (clks : Nat)  : wordAt
    (clockTrip s clks).regs key = wordAt s.regs key := by
  simp only [clockTripRegs, outside_append, outside_cons, outside_nil, and_true] at hk
  unfold clockTrip
  simp [hk, -List.reduceReplicate]
@[simp] theorem clockMonitor_keep (s : State) (clks : Nat) : (clockMonitor s clks).pending = s.pending ∧ (clockMonitor
    s clks).act = s.act ∧ (clockMonitor s clks).lt = s.lt ∧ (clockMonitor s clks).free = s.free ∧ (clockMonitor s
    clks).dram = s.dram ∧ (clockMonitor s clks).gal = s.gal ∧ (clockMonitor s clks).eng = s.eng ∧ (clockMonitor s
    clks).diag = s.diag ∧ (clockMonitor s clks).cal = s.cal ∧ (clockMonitor s clks).mbx = s.mbx ∧ (clockMonitor s
    clks).io = s.io ∧ (clockMonitor s clks).pins = s.pins ∧ (clockMonitor s clks).pwr = s.pwr ∧ (clockMonitor s
    clks).boot = s.boot ∧ (clockMonitor s clks).thm = s.thm ∧ (clockMonitor s clks).ddr = s.ddr ∧ (clockMonitor s
    clks).mram = s.mram ∧ (clockMonitor s clks).flash = s.flash ∧ (clockMonitor s clks).evt = s.evt := by
  unfold clockMonitor
  simp
def clockMonitorRegs : List Field := clockTripRegs ++ [CLK.MON_FAIL.CLK, CLK.STATUS.CLOCK_OK]
@[simp] theorem clockMonitor_word {key : Nat} (hk : Outside clockMonitorRegs key) (s : State) (clks : Nat)  : wordAt
    (clockMonitor s clks).regs key = wordAt s.regs key := by
  simp only [clockMonitorRegs, outside_append, outside_cons, outside_nil, and_true] at hk
  unfold clockMonitor
  simp [hk]
@[simp] theorem retrainIdle_keep (s : State) (p : Nat) : (retrainIdle s p).pending = s.pending ∧ (retrainIdle s p).act
    = s.act ∧ (retrainIdle s p).lt = s.lt ∧ (retrainIdle s p).synced = s.synced ∧ (retrainIdle s p).free = s.free ∧
    (retrainIdle s p).dram = s.dram ∧ (retrainIdle s p).scan = s.scan ∧ (retrainIdle s p).pix = s.pix ∧ (retrainIdle s
    p).gal = s.gal ∧ (retrainIdle s p).eng = s.eng ∧ (retrainIdle s p).stats = s.stats ∧ (retrainIdle s p).shd = s.shd
    ∧ (retrainIdle s p).guard = s.guard ∧ (retrainIdle s p).diag = s.diag ∧ (retrainIdle s p).cal = s.cal ∧
    (retrainIdle s p).mbx = s.mbx ∧ (retrainIdle s p).io = s.io ∧ (retrainIdle s p).pins = s.pins ∧ (retrainIdle s
    p).aux = s.aux ∧ (retrainIdle s p).clk = s.clk ∧ (retrainIdle s p).pwr = s.pwr ∧ (retrainIdle s p).boot = s.boot ∧
    (retrainIdle s p).thm = s.thm ∧ (retrainIdle s p).ddr = s.ddr ∧ (retrainIdle s p).mram = s.mram ∧ (retrainIdle s
    p).flash = s.flash ∧ (retrainIdle s p).flt = s.flt ∧ (retrainIdle s p).evt = s.evt := by
  unfold retrainIdle
  simp
def retrainIdleRegs : List Field := startTrainingRegs
@[simp] theorem retrainIdle_word {key : Nat} (hk : Outside retrainIdleRegs key) (s : State) (p : Nat)  : wordAt
    (retrainIdle s p).regs key = wordAt s.regs key := by
  simp only [retrainIdleRegs, outside_append, outside_cons, outside_nil, and_true] at hk
  unfold retrainIdle
  simp [hk]
@[simp] theorem clocksBack_keep (s : State) : (clocksBack s).pending = s.pending ∧ (clocksBack s).act = s.act ∧
    (clocksBack s).lt = s.lt ∧ (clocksBack s).synced = s.synced ∧ (clocksBack s).free = s.free ∧ (clocksBack s).dram =
    s.dram ∧ (clocksBack s).pix = s.pix ∧ (clocksBack s).gal = s.gal ∧ (clocksBack s).eng = s.eng ∧ (clocksBack
    s).stats = s.stats ∧ (clocksBack s).shd = s.shd ∧ (clocksBack s).guard = s.guard ∧ (clocksBack s).diag = s.diag ∧
    (clocksBack s).cal = s.cal ∧ (clocksBack s).mbx = s.mbx ∧ (clocksBack s).io = s.io ∧ (clocksBack s).pins = s.pins
    ∧ (clocksBack s).pwr = s.pwr ∧ (clocksBack s).boot = s.boot ∧ (clocksBack s).thm = s.thm ∧ (clocksBack s).ddr =
    s.ddr ∧ (clocksBack s).mram = s.mram ∧ (clocksBack s).flash = s.flash ∧ (clocksBack s).evt = s.evt := by
  unfold clocksBack
  simp
def clocksBackRegs : List Field := raiseFaultRegs ++ retrainIdleRegs ++ [CLK.STATUS.CLOCK_OK, CLK.STATUS.PLL_LOCK]
@[simp] theorem clocksBack_word {key : Nat} (hk : Outside clocksBackRegs key) (s : State)  : wordAt (clocksBack
    s).regs key = wordAt s.regs key := by
  simp only [clocksBackRegs, outside_append, outside_cons, outside_nil, and_true] at hk
  unfold clocksBack
  simp [hk]
@[simp] theorem clkIgnored_keep (s : State) : (clkIgnored s).pending = s.pending ∧ (clkIgnored s).act = s.act ∧
    (clkIgnored s).lt = s.lt ∧ (clkIgnored s).synced = s.synced ∧ (clkIgnored s).free = s.free ∧ (clkIgnored s).dram =
    s.dram ∧ (clkIgnored s).scan = s.scan ∧ (clkIgnored s).pix = s.pix ∧ (clkIgnored s).gal = s.gal ∧ (clkIgnored
    s).eng = s.eng ∧ (clkIgnored s).stats = s.stats ∧ (clkIgnored s).shd = s.shd ∧ (clkIgnored s).guard = s.guard ∧
    (clkIgnored s).diag = s.diag ∧ (clkIgnored s).cal = s.cal ∧ (clkIgnored s).net = s.net ∧ (clkIgnored s).mbx =
    s.mbx ∧ (clkIgnored s).io = s.io ∧ (clkIgnored s).pins = s.pins ∧ (clkIgnored s).aux = s.aux ∧ (clkIgnored s).clk
    = s.clk ∧ (clkIgnored s).pwr = s.pwr ∧ (clkIgnored s).boot = s.boot ∧ (clkIgnored s).thm = s.thm ∧ (clkIgnored
    s).ddr = s.ddr ∧ (clkIgnored s).mram = s.mram ∧ (clkIgnored s).flash = s.flash ∧ (clkIgnored s).flt = s.flt ∧
    (clkIgnored s).evt = s.evt := by
  unfold clkIgnored
  simp
def clkIgnoredRegs : List Field := wignRegs ++ [CLK.STATUS.WIGN]
@[simp] theorem clkIgnored_word {key : Nat} (hk : Outside clkIgnoredRegs key) (s : State)  : wordAt (clkIgnored
    s).regs key = wordAt s.regs key := by
  simp only [clkIgnoredRegs, outside_append, outside_cons, outside_nil, and_true] at hk
  unfold clkIgnored
  simp [hk]
@[simp] theorem divWrite_keep (w : Word) (s : State) (x : Field × List Nat × Nat) : (divWrite w s x).pending =
    s.pending ∧ (divWrite w s x).act = s.act ∧ (divWrite w s x).lt = s.lt ∧ (divWrite w s x).synced = s.synced ∧
    (divWrite w s x).free = s.free ∧ (divWrite w s x).dram = s.dram ∧ (divWrite w s x).scan = s.scan ∧ (divWrite w s
    x).pix = s.pix ∧ (divWrite w s x).gal = s.gal ∧ (divWrite w s x).eng = s.eng ∧ (divWrite w s x).stats = s.stats ∧
    (divWrite w s x).shd = s.shd ∧ (divWrite w s x).guard = s.guard ∧ (divWrite w s x).diag = s.diag ∧ (divWrite w s
    x).cal = s.cal ∧ (divWrite w s x).net = s.net ∧ (divWrite w s x).mbx = s.mbx ∧ (divWrite w s x).io = s.io ∧
    (divWrite w s x).pins = s.pins ∧ (divWrite w s x).aux = s.aux ∧ (divWrite w s x).pwr = s.pwr ∧ (divWrite w s
    x).boot = s.boot ∧ (divWrite w s x).thm = s.thm ∧ (divWrite w s x).ddr = s.ddr ∧ (divWrite w s x).mram = s.mram ∧
    (divWrite w s x).flash = s.flash ∧ (divWrite w s x).flt = s.flt ∧ (divWrite w s x).evt = s.evt := by
  unfold divWrite
  simp
def divWriteRegs : List Field := clkIgnoredRegs
@[simp] theorem divWrite_word {key : Nat} (hk : Outside divWriteRegs key) (w : Word) (s : State) (x : Field × List Nat
    × Nat) (hx : fieldKey x.1 ≠ key) : wordAt (divWrite w s x).regs key = wordAt s.regs key := by
  unfold divWrite
  have h1 : Outside clkIgnoredRegs key := hk
  (repeat' split) <;> simp [h1, hx]
@[simp] theorem clkDivWrite_keep (s : State) (w : Word) : (clkDivWrite s w).pending = s.pending ∧ (clkDivWrite s
    w).act = s.act ∧ (clkDivWrite s w).lt = s.lt ∧ (clkDivWrite s w).synced = s.synced ∧ (clkDivWrite s w).free =
    s.free ∧ (clkDivWrite s w).dram = s.dram ∧ (clkDivWrite s w).scan = s.scan ∧ (clkDivWrite s w).pix = s.pix ∧
    (clkDivWrite s w).gal = s.gal ∧ (clkDivWrite s w).eng = s.eng ∧ (clkDivWrite s w).stats = s.stats ∧ (clkDivWrite s
    w).shd = s.shd ∧ (clkDivWrite s w).guard = s.guard ∧ (clkDivWrite s w).diag = s.diag ∧ (clkDivWrite s w).cal =
    s.cal ∧ (clkDivWrite s w).net = s.net ∧ (clkDivWrite s w).mbx = s.mbx ∧ (clkDivWrite s w).io = s.io ∧ (clkDivWrite
    s w).pins = s.pins ∧ (clkDivWrite s w).aux = s.aux ∧ (clkDivWrite s w).pwr = s.pwr ∧ (clkDivWrite s w).boot =
    s.boot ∧ (clkDivWrite s w).thm = s.thm ∧ (clkDivWrite s w).ddr = s.ddr ∧ (clkDivWrite s w).mram = s.mram ∧
    (clkDivWrite s w).flash = s.flash ∧ (clkDivWrite s w).flt = s.flt ∧ (clkDivWrite s w).evt = s.evt := by
  unfold clkDivWrite
  simp
def clkDivWriteRegs : List Field := clkIgnoredRegs ++ [CLK.DIV.CORE, CLK.DIV.PIX, CLK.DIV.BUS, CLK.DIV.PER]
@[simp] theorem clkDivWrite_word {key : Nat} (hk : Outside clkDivWriteRegs key) (s : State) (w : Word)  : wordAt
    (clkDivWrite s w).regs key = wordAt s.regs key := by
  simp only [clkDivWriteRegs, outside_append, outside_cons, outside_nil, and_true] at hk
  unfold clkDivWrite divFields
  have h1 : Outside divWriteRegs key := hk.1
  simp [h1, hk]
@[simp] theorem ssRefWrite_keep (s : State) (w : Word) : (ssRefWrite s w).pending = s.pending ∧ (ssRefWrite s w).act =
    s.act ∧ (ssRefWrite s w).lt = s.lt ∧ (ssRefWrite s w).synced = s.synced ∧ (ssRefWrite s w).free = s.free ∧
    (ssRefWrite s w).dram = s.dram ∧ (ssRefWrite s w).scan = s.scan ∧ (ssRefWrite s w).pix = s.pix ∧ (ssRefWrite s
    w).gal = s.gal ∧ (ssRefWrite s w).eng = s.eng ∧ (ssRefWrite s w).stats = s.stats ∧ (ssRefWrite s w).shd = s.shd ∧
    (ssRefWrite s w).guard = s.guard ∧ (ssRefWrite s w).diag = s.diag ∧ (ssRefWrite s w).cal = s.cal ∧ (ssRefWrite s
    w).net = s.net ∧ (ssRefWrite s w).mbx = s.mbx ∧ (ssRefWrite s w).io = s.io ∧ (ssRefWrite s w).pins = s.pins ∧
    (ssRefWrite s w).aux = s.aux ∧ (ssRefWrite s w).clk = s.clk ∧ (ssRefWrite s w).pwr = s.pwr ∧ (ssRefWrite s w).boot
    = s.boot ∧ (ssRefWrite s w).thm = s.thm ∧ (ssRefWrite s w).ddr = s.ddr ∧ (ssRefWrite s w).mram = s.mram ∧
    (ssRefWrite s w).flash = s.flash ∧ (ssRefWrite s w).flt = s.flt ∧ (ssRefWrite s w).evt = s.evt := by
  unfold ssRefWrite
  simp
def ssRefWriteRegs : List Field := clkIgnoredRegs ++ [CLK.SS_REF.EN, CLK.SS_REF.DEPTH, CLK.SS_REF.RATE]
@[simp] theorem ssRefWrite_word {key : Nat} (hk : Outside ssRefWriteRegs key) (s : State) (w : Word)  : wordAt
    (ssRefWrite s w).regs key = wordAt s.regs key := by
  simp only [ssRefWriteRegs, outside_append, outside_cons, outside_nil, and_true] at hk
  unfold ssRefWrite
  split <;> simp [hk]
@[simp] theorem gateBit_keep (b : Bool) (s : State) (n : Nat) : (gateBit b s n).pending = s.pending ∧ (gateBit b s
    n).act = s.act ∧ (gateBit b s n).lt = s.lt ∧ (gateBit b s n).synced = s.synced ∧ (gateBit b s n).free = s.free ∧
    (gateBit b s n).dram = s.dram ∧ (gateBit b s n).scan = s.scan ∧ (gateBit b s n).pix = s.pix ∧ (gateBit b s n).gal
    = s.gal ∧ (gateBit b s n).eng = s.eng ∧ (gateBit b s n).stats = s.stats ∧ (gateBit b s n).shd = s.shd ∧ (gateBit b
    s n).guard = s.guard ∧ (gateBit b s n).diag = s.diag ∧ (gateBit b s n).cal = s.cal ∧ (gateBit b s n).net = s.net ∧
    (gateBit b s n).mbx = s.mbx ∧ (gateBit b s n).io = s.io ∧ (gateBit b s n).pins = s.pins ∧ (gateBit b s n).aux =
    s.aux ∧ (gateBit b s n).clk = s.clk ∧ (gateBit b s n).pwr = s.pwr ∧ (gateBit b s n).boot = s.boot ∧ (gateBit b s
    n).thm = s.thm ∧ (gateBit b s n).ddr = s.ddr ∧ (gateBit b s n).mram = s.mram ∧ (gateBit b s n).flash = s.flash ∧
    (gateBit b s n).flt = s.flt ∧ (gateBit b s n).evt = s.evt := by
  unfold gateBit
  (try simp) <;> (repeat' apply And.intro) <;> (repeat' split) <;> (try simp)
def gateBitRegs : List Field := clkIgnoredRegs ++ allOf 21 CLK.GATE.EN
@[simp] theorem gateBit_word {key : Nat} (hk : Outside gateBitRegs key) (b : Bool) (s : State) (n : Nat)  : wordAt
    (gateBit b s n).regs key = wordAt s.regs key := by
  simp only [gateBitRegs, outside_append, outside_cons, outside_nil, and_true, outside_CLK_GATE_EN] at hk
  unfold gateBit
  (repeat' split) <;> (try simp [hk])
@[simp] theorem clkGateWrite_keep (s : State) (w : Nat) : (clkGateWrite s w).pending = s.pending ∧ (clkGateWrite s
    w).act = s.act ∧ (clkGateWrite s w).lt = s.lt ∧ (clkGateWrite s w).synced = s.synced ∧ (clkGateWrite s w).free =
    s.free ∧ (clkGateWrite s w).dram = s.dram ∧ (clkGateWrite s w).scan = s.scan ∧ (clkGateWrite s w).pix = s.pix ∧
    (clkGateWrite s w).gal = s.gal ∧ (clkGateWrite s w).eng = s.eng ∧ (clkGateWrite s w).stats = s.stats ∧
    (clkGateWrite s w).shd = s.shd ∧ (clkGateWrite s w).guard = s.guard ∧ (clkGateWrite s w).diag = s.diag ∧
    (clkGateWrite s w).cal = s.cal ∧ (clkGateWrite s w).net = s.net ∧ (clkGateWrite s w).mbx = s.mbx ∧ (clkGateWrite s
    w).io = s.io ∧ (clkGateWrite s w).pins = s.pins ∧ (clkGateWrite s w).aux = s.aux ∧ (clkGateWrite s w).clk = s.clk
    ∧ (clkGateWrite s w).pwr = s.pwr ∧ (clkGateWrite s w).boot = s.boot ∧ (clkGateWrite s w).thm = s.thm ∧
    (clkGateWrite s w).ddr = s.ddr ∧ (clkGateWrite s w).mram = s.mram ∧ (clkGateWrite s w).flash = s.flash ∧
    (clkGateWrite s w).flt = s.flt ∧ (clkGateWrite s w).evt = s.evt := by
  unfold clkGateWrite
  simp
def clkGateWriteRegs : List Field := gateBitRegs
@[simp] theorem clkGateWrite_word {key : Nat} (hk : Outside clkGateWriteRegs key) (s : State) (w : Nat)  : wordAt
    (clkGateWrite s w).regs key = wordAt s.regs key := by
  simp only [clkGateWriteRegs, outside_append, outside_cons, outside_nil, and_true] at hk
  unfold clkGateWrite
  simp [hk]

end Sys2Proof.Machine
end

