-- ==== Sys2Proof/Laws/FrameThermal.lean ====
section
/-! SUPPORT. FrameThermal.lean: for each operation of Machine/Thermal.lean, the parts of State that it leaves alone and the register
fields outside which it changes none. -/

set_option linter.unusedSimpArgs false

namespace Sys2Proof.Machine

set_option Elab.async false

@[simp] theorem judgeSensors_keep (s : State) (t : List Int) : (judgeSensors s t).pending = s.pending ∧ (judgeSensors
    s t).act = s.act ∧ (judgeSensors s t).lt = s.lt ∧ (judgeSensors s t).synced = s.synced ∧ (judgeSensors s t).free =
    s.free ∧ (judgeSensors s t).dram = s.dram ∧ (judgeSensors s t).pix = s.pix ∧ (judgeSensors s t).gal = s.gal ∧
    (judgeSensors s t).eng = s.eng ∧ (judgeSensors s t).stats = s.stats ∧ (judgeSensors s t).shd = s.shd ∧
    (judgeSensors s t).guard = s.guard ∧ (judgeSensors s t).diag = s.diag ∧ (judgeSensors s t).cal = s.cal ∧
    (judgeSensors s t).net = s.net ∧ (judgeSensors s t).mbx = s.mbx ∧ (judgeSensors s t).io = s.io ∧ (judgeSensors s
    t).pins = s.pins ∧ (judgeSensors s t).aux = s.aux ∧ (judgeSensors s t).clk = s.clk ∧ (judgeSensors s t).pwr =
    s.pwr ∧ (judgeSensors s t).boot = s.boot ∧ (judgeSensors s t).ddr = s.ddr ∧ (judgeSensors s t).mram = s.mram ∧
    (judgeSensors s t).flash = s.flash ∧ (judgeSensors s t).evt = s.evt := by
  unfold judgeSensors
  simp
def judgeSensorsRegs : List Field := raiseFaultNRegs ++ [THM.STATUS.SENSOR_FAIL]
@[simp] theorem judgeSensors_word {key : Nat} (hk : Outside judgeSensorsRegs key) (s : State) (t : List Int)  : wordAt
    (judgeSensors s t).regs key = wordAt s.regs key := by
  simp only [judgeSensorsRegs, outside_append, outside_cons, outside_nil, and_true] at hk
  unfold judgeSensors
  simp [hk]
@[simp] theorem thermalEvent_keep (s : State) (thr sensor : Nat) (t4 : Int) : (thermalEvent s thr sensor t4).pending =
    s.pending ∧ (thermalEvent s thr sensor t4).regs = s.regs ∧ (thermalEvent s thr sensor t4).act = s.act ∧
    (thermalEvent s thr sensor t4).lt = s.lt ∧ (thermalEvent s thr sensor t4).synced = s.synced ∧ (thermalEvent s thr
    sensor t4).free = s.free ∧ (thermalEvent s thr sensor t4).dram = s.dram ∧ (thermalEvent s thr sensor t4).scan =
    s.scan ∧ (thermalEvent s thr sensor t4).pix = s.pix ∧ (thermalEvent s thr sensor t4).gal = s.gal ∧ (thermalEvent s
    thr sensor t4).eng = s.eng ∧ (thermalEvent s thr sensor t4).stats = s.stats ∧ (thermalEvent s thr sensor t4).shd =
    s.shd ∧ (thermalEvent s thr sensor t4).guard = s.guard ∧ (thermalEvent s thr sensor t4).diag = s.diag ∧
    (thermalEvent s thr sensor t4).cal = s.cal ∧ (thermalEvent s thr sensor t4).net = s.net ∧ (thermalEvent s thr
    sensor t4).mbx = s.mbx ∧ (thermalEvent s thr sensor t4).io = s.io ∧ (thermalEvent s thr sensor t4).pins = s.pins ∧
    (thermalEvent s thr sensor t4).aux = s.aux ∧ (thermalEvent s thr sensor t4).clk = s.clk ∧ (thermalEvent s thr
    sensor t4).pwr = s.pwr ∧ (thermalEvent s thr sensor t4).boot = s.boot ∧ (thermalEvent s thr sensor t4).thm = s.thm
    ∧ (thermalEvent s thr sensor t4).ddr = s.ddr ∧ (thermalEvent s thr sensor t4).mram = s.mram ∧ (thermalEvent s thr
    sensor t4).flash = s.flash ∧ (thermalEvent s thr sensor t4).evt = s.evt := by
  unfold thermalEvent
  simp
@[simp] theorem enterSoftStop_keep (s : State) : (enterSoftStop s).pending = s.pending ∧ (enterSoftStop s).act = s.act
    ∧ (enterSoftStop s).lt = s.lt ∧ (enterSoftStop s).synced = s.synced ∧ (enterSoftStop s).free = s.free ∧
    (enterSoftStop s).dram = s.dram ∧ (enterSoftStop s).pix = s.pix ∧ (enterSoftStop s).gal = s.gal ∧ (enterSoftStop
    s).eng = s.eng ∧ (enterSoftStop s).stats = s.stats ∧ (enterSoftStop s).shd = s.shd ∧ (enterSoftStop s).guard =
    s.guard ∧ (enterSoftStop s).diag = s.diag ∧ (enterSoftStop s).cal = s.cal ∧ (enterSoftStop s).net = s.net ∧
    (enterSoftStop s).mbx = s.mbx ∧ (enterSoftStop s).io = s.io ∧ (enterSoftStop s).pins = s.pins ∧ (enterSoftStop
    s).aux = s.aux ∧ (enterSoftStop s).clk = s.clk ∧ (enterSoftStop s).pwr = s.pwr ∧ (enterSoftStop s).boot = s.boot ∧
    (enterSoftStop s).thm = s.thm ∧ (enterSoftStop s).ddr = s.ddr ∧ (enterSoftStop s).mram = s.mram ∧ (enterSoftStop
    s).flash = s.flash ∧ (enterSoftStop s).evt = s.evt := by
  unfold enterSoftStop
  simp
def enterSoftStopRegs : List Field := raiseFaultRegs ++ raiseCauseRegs ++ [SAFE.FB_CAUSE.SOFT_STOP,
    SCAN.FB_CTRL.FB_HALF, THM.SOFT_STOP_COUNT.COUNT]
@[simp] theorem enterSoftStop_word {key : Nat} (hk : Outside enterSoftStopRegs key) (s : State)  : wordAt
    (enterSoftStop s).regs key = wordAt s.regs key := by
  simp only [enterSoftStopRegs, outside_append, outside_cons, outside_nil, and_true] at hk
  unfold enterSoftStop
  simp [hk]
@[simp] theorem leaveSoftStop_keep (s : State) : (leaveSoftStop s).pending = s.pending ∧ (leaveSoftStop s).act = s.act
    ∧ (leaveSoftStop s).lt = s.lt ∧ (leaveSoftStop s).synced = s.synced ∧ (leaveSoftStop s).free = s.free ∧
    (leaveSoftStop s).dram = s.dram ∧ (leaveSoftStop s).scan = s.scan ∧ (leaveSoftStop s).pix = s.pix ∧ (leaveSoftStop
    s).gal = s.gal ∧ (leaveSoftStop s).eng = s.eng ∧ (leaveSoftStop s).stats = s.stats ∧ (leaveSoftStop s).shd = s.shd
    ∧ (leaveSoftStop s).guard = s.guard ∧ (leaveSoftStop s).diag = s.diag ∧ (leaveSoftStop s).net = s.net ∧
    (leaveSoftStop s).mbx = s.mbx ∧ (leaveSoftStop s).io = s.io ∧ (leaveSoftStop s).pins = s.pins ∧ (leaveSoftStop
    s).aux = s.aux ∧ (leaveSoftStop s).clk = s.clk ∧ (leaveSoftStop s).pwr = s.pwr ∧ (leaveSoftStop s).boot = s.boot ∧
    (leaveSoftStop s).thm = s.thm ∧ (leaveSoftStop s).ddr = s.ddr ∧ (leaveSoftStop s).flash = s.flash ∧ (leaveSoftStop
    s).evt = s.evt := by
  unfold leaveSoftStop
  simp
def leaveSoftStopRegs : List Field := clearCauseRegs ++ [SAFE.FB_CAUSE.SOFT_STOP]
@[simp] theorem leaveSoftStop_word {key : Nat} (hk : Outside leaveSoftStopRegs key) (s : State)  : wordAt
    (leaveSoftStop s).regs key = wordAt s.regs key := by
  simp only [leaveSoftStopRegs, outside_append, outside_cons, outside_nil, and_true] at hk
  unfold leaveSoftStop
  simp [hk]
@[simp] theorem enterThreshold_keep (s : State) (k : Nat) : (enterThreshold s k).pending = s.pending ∧ (enterThreshold
    s k).act = s.act ∧ (enterThreshold s k).lt = s.lt ∧ (enterThreshold s k).synced = s.synced ∧ (enterThreshold s
    k).free = s.free ∧ (enterThreshold s k).dram = s.dram ∧ (enterThreshold s k).pix = s.pix ∧ (enterThreshold s
    k).gal = s.gal ∧ (enterThreshold s k).eng = s.eng ∧ (enterThreshold s k).stats = s.stats ∧ (enterThreshold s
    k).shd = s.shd ∧ (enterThreshold s k).guard = s.guard ∧ (enterThreshold s k).diag = s.diag ∧ (enterThreshold s
    k).cal = s.cal ∧ (enterThreshold s k).net = s.net ∧ (enterThreshold s k).mbx = s.mbx ∧ (enterThreshold s k).io =
    s.io ∧ (enterThreshold s k).pins = s.pins ∧ (enterThreshold s k).aux = s.aux ∧ (enterThreshold s k).clk = s.clk ∧
    (enterThreshold s k).pwr = s.pwr ∧ (enterThreshold s k).boot = s.boot ∧ (enterThreshold s k).thm = s.thm ∧
    (enterThreshold s k).ddr = s.ddr ∧ (enterThreshold s k).mram = s.mram ∧ (enterThreshold s k).flash = s.flash ∧
    (enterThreshold s k).evt = s.evt := by
  unfold enterThreshold
  split <;> simp
def enterThresholdRegs : List Field := raiseFaultRegs ++ enterSoftStopRegs ++ [THM.THROTTLE_COUNT.COUNT]
@[simp] theorem enterThreshold_word {key : Nat} (hk : Outside enterThresholdRegs key) (s : State) (k : Nat)  : wordAt
    (enterThreshold s k).regs key = wordAt s.regs key := by
  simp only [enterThresholdRegs, outside_append, outside_cons, outside_nil, and_true] at hk
  unfold enterThreshold
  split <;> simp [hk]
@[simp] theorem judgeThreshold_keep (tj : Int) (hot : Nat) (s : State) (k : Nat) : (judgeThreshold tj hot s k).pending
    = s.pending ∧ (judgeThreshold tj hot s k).act = s.act ∧ (judgeThreshold tj hot s k).lt = s.lt ∧ (judgeThreshold tj
    hot s k).synced = s.synced ∧ (judgeThreshold tj hot s k).free = s.free ∧ (judgeThreshold tj hot s k).dram = s.dram
    ∧ (judgeThreshold tj hot s k).pix = s.pix ∧ (judgeThreshold tj hot s k).gal = s.gal ∧ (judgeThreshold tj hot s
    k).eng = s.eng ∧ (judgeThreshold tj hot s k).stats = s.stats ∧ (judgeThreshold tj hot s k).shd = s.shd ∧
    (judgeThreshold tj hot s k).guard = s.guard ∧ (judgeThreshold tj hot s k).diag = s.diag ∧ (judgeThreshold tj hot s
    k).net = s.net ∧ (judgeThreshold tj hot s k).mbx = s.mbx ∧ (judgeThreshold tj hot s k).io = s.io ∧ (judgeThreshold
    tj hot s k).pins = s.pins ∧ (judgeThreshold tj hot s k).aux = s.aux ∧ (judgeThreshold tj hot s k).clk = s.clk ∧
    (judgeThreshold tj hot s k).pwr = s.pwr ∧ (judgeThreshold tj hot s k).boot = s.boot ∧ (judgeThreshold tj hot s
    k).ddr = s.ddr ∧ (judgeThreshold tj hot s k).flash = s.flash ∧ (judgeThreshold tj hot s k).evt = s.evt := by
  unfold judgeThreshold
  simp
def judgeThresholdRegs : List Field := enterThresholdRegs ++ leaveSoftStopRegs
@[simp] theorem judgeThreshold_word {key : Nat} (hk : Outside judgeThresholdRegs key) (tj : Int) (hot : Nat) (s :
    State) (k : Nat)  : wordAt (judgeThreshold tj hot s k).regs key = wordAt s.regs key := by
  simp only [judgeThresholdRegs, outside_append, outside_cons, outside_nil, and_true] at hk
  unfold judgeThreshold
  simp [hk]
@[simp] theorem judgeFailures_keep (s : State) (before : List Bool) (tj : Int) : (judgeFailures s before tj).pending =
    s.pending ∧ (judgeFailures s before tj).act = s.act ∧ (judgeFailures s before tj).lt = s.lt ∧ (judgeFailures s
    before tj).synced = s.synced ∧ (judgeFailures s before tj).free = s.free ∧ (judgeFailures s before tj).dram =
    s.dram ∧ (judgeFailures s before tj).pix = s.pix ∧ (judgeFailures s before tj).gal = s.gal ∧ (judgeFailures s
    before tj).eng = s.eng ∧ (judgeFailures s before tj).stats = s.stats ∧ (judgeFailures s before tj).shd = s.shd ∧
    (judgeFailures s before tj).guard = s.guard ∧ (judgeFailures s before tj).diag = s.diag ∧ (judgeFailures s before
    tj).net = s.net ∧ (judgeFailures s before tj).mbx = s.mbx ∧ (judgeFailures s before tj).io = s.io ∧ (judgeFailures
    s before tj).pins = s.pins ∧ (judgeFailures s before tj).aux = s.aux ∧ (judgeFailures s before tj).clk = s.clk ∧
    (judgeFailures s before tj).pwr = s.pwr ∧ (judgeFailures s before tj).boot = s.boot ∧ (judgeFailures s before
    tj).ddr = s.ddr ∧ (judgeFailures s before tj).flash = s.flash ∧ (judgeFailures s before tj).evt = s.evt := by
  unfold judgeFailures
  split <;> simp
def judgeFailuresRegs : List Field := enterSoftStopRegs ++ leaveSoftStopRegs
@[simp] theorem judgeFailures_word {key : Nat} (hk : Outside judgeFailuresRegs key) (s : State) (before : List Bool)
    (tj : Int)  : wordAt (judgeFailures s before tj).regs key = wordAt s.regs key := by
  simp only [judgeFailuresRegs, outside_append, outside_cons, outside_nil, and_true] at hk
  unfold judgeFailures
  split <;> simp [hk]
@[simp] theorem thermalLogic_keep (s : State) (t : List Int) : (thermalLogic s t).pending = s.pending ∧ (thermalLogic
    s t).act = s.act ∧ (thermalLogic s t).lt = s.lt ∧ (thermalLogic s t).synced = s.synced ∧ (thermalLogic s t).free =
    s.free ∧ (thermalLogic s t).dram = s.dram ∧ (thermalLogic s t).pix = s.pix ∧ (thermalLogic s t).gal = s.gal ∧
    (thermalLogic s t).eng = s.eng ∧ (thermalLogic s t).stats = s.stats ∧ (thermalLogic s t).shd = s.shd ∧
    (thermalLogic s t).guard = s.guard ∧ (thermalLogic s t).diag = s.diag ∧ (thermalLogic s t).net = s.net ∧
    (thermalLogic s t).mbx = s.mbx ∧ (thermalLogic s t).io = s.io ∧ (thermalLogic s t).pins = s.pins ∧ (thermalLogic s
    t).aux = s.aux ∧ (thermalLogic s t).clk = s.clk ∧ (thermalLogic s t).pwr = s.pwr ∧ (thermalLogic s t).boot =
    s.boot ∧ (thermalLogic s t).ddr = s.ddr ∧ (thermalLogic s t).flash = s.flash ∧ (thermalLogic s t).evt = s.evt := by
  unfold thermalLogic
  (try simp) <;> (repeat' apply And.intro) <;> (repeat' split) <;> (try simp)
def thermalLogicRegs : List Field := judgeSensorsRegs ++ judgeThresholdRegs ++ judgeFailuresRegs ++
    [THM.STATUS.HOT_SENSOR, THM.STATUS.LEVEL, THM.STATUS.TJ]
@[simp] theorem thermalLogic_word {key : Nat} (hk : Outside thermalLogicRegs key) (s : State) (t : List Int)  : wordAt
    (thermalLogic s t).regs key = wordAt s.regs key := by
  simp only [thermalLogicRegs, outside_append, outside_cons, outside_nil, and_true] at hk
  unfold thermalLogic
  simp only []; (repeat' split) <;> (try simp [hk])
@[simp] theorem thermalSample_keep (s : State) (t : List Int) : (thermalSample s t).pending = s.pending ∧
    (thermalSample s t).act = s.act ∧ (thermalSample s t).lt = s.lt ∧ (thermalSample s t).synced = s.synced ∧
    (thermalSample s t).free = s.free ∧ (thermalSample s t).dram = s.dram ∧ (thermalSample s t).pix = s.pix ∧
    (thermalSample s t).gal = s.gal ∧ (thermalSample s t).eng = s.eng ∧ (thermalSample s t).stats = s.stats ∧
    (thermalSample s t).shd = s.shd ∧ (thermalSample s t).guard = s.guard ∧ (thermalSample s t).diag = s.diag ∧
    (thermalSample s t).net = s.net ∧ (thermalSample s t).mbx = s.mbx ∧ (thermalSample s t).io = s.io ∧ (thermalSample
    s t).pins = s.pins ∧ (thermalSample s t).aux = s.aux ∧ (thermalSample s t).clk = s.clk ∧ (thermalSample s t).pwr =
    s.pwr ∧ (thermalSample s t).boot = s.boot ∧ (thermalSample s t).ddr = s.ddr ∧ (thermalSample s t).flash = s.flash
    ∧ (thermalSample s t).evt = s.evt := by
  unfold thermalSample
  simp
def thermalSampleRegs : List Field := thermalLogicRegs ++ allOf 68 THM.ZONE.T
@[simp] theorem thermalSample_word {key : Nat} (hk : Outside thermalSampleRegs key) (s : State) (t : List Int)  :
    wordAt (thermalSample s t).regs key = wordAt s.regs key := by
  simp only [thermalSampleRegs, outside_append, outside_cons, outside_nil, and_true, outside_THM_ZONE_T] at hk
  unfold thermalSample
  simp [hk]
@[simp] theorem hkRead_keep (s : State) (k : Nat) (v : Option Int) : (hkRead s k v).pending = s.pending ∧ (hkRead s k
    v).act = s.act ∧ (hkRead s k v).lt = s.lt ∧ (hkRead s k v).synced = s.synced ∧ (hkRead s k v).free = s.free ∧
    (hkRead s k v).dram = s.dram ∧ (hkRead s k v).scan = s.scan ∧ (hkRead s k v).pix = s.pix ∧ (hkRead s k v).gal =
    s.gal ∧ (hkRead s k v).eng = s.eng ∧ (hkRead s k v).stats = s.stats ∧ (hkRead s k v).shd = s.shd ∧ (hkRead s k
    v).guard = s.guard ∧ (hkRead s k v).diag = s.diag ∧ (hkRead s k v).cal = s.cal ∧ (hkRead s k v).net = s.net ∧
    (hkRead s k v).mbx = s.mbx ∧ (hkRead s k v).io = s.io ∧ (hkRead s k v).pins = s.pins ∧ (hkRead s k v).aux = s.aux
    ∧ (hkRead s k v).clk = s.clk ∧ (hkRead s k v).pwr = s.pwr ∧ (hkRead s k v).boot = s.boot ∧ (hkRead s k v).thm =
    s.thm ∧ (hkRead s k v).ddr = s.ddr ∧ (hkRead s k v).mram = s.mram ∧ (hkRead s k v).flash = s.flash ∧ (hkRead s k
    v).flt = s.flt ∧ (hkRead s k v).evt = s.evt := by
  unfold hkRead
  split <;> simp
def hkReadRegs : List Field := [THM.HK_VALID.VALID] ++ allOf 5 THM.HK.T
@[simp] theorem hkRead_word {key : Nat} (hk : Outside hkReadRegs key) (s : State) (k : Nat) (v : Option Int)  : wordAt
    (hkRead s k v).regs key = wordAt s.regs key := by
  simp only [hkReadRegs, outside_append, outside_cons, outside_nil, and_true, outside_THM_HK_T] at hk
  unfold hkRead
  split <;> simp [hk]
@[simp] theorem dramTempRead_keep (s : State) (twice : Option Bool) : (dramTempRead s twice).pending = s.pending ∧
    (dramTempRead s twice).act = s.act ∧ (dramTempRead s twice).lt = s.lt ∧ (dramTempRead s twice).synced = s.synced ∧
    (dramTempRead s twice).free = s.free ∧ (dramTempRead s twice).dram = s.dram ∧ (dramTempRead s twice).pix = s.pix ∧
    (dramTempRead s twice).gal = s.gal ∧ (dramTempRead s twice).eng = s.eng ∧ (dramTempRead s twice).stats = s.stats ∧
    (dramTempRead s twice).shd = s.shd ∧ (dramTempRead s twice).guard = s.guard ∧ (dramTempRead s twice).diag = s.diag
    ∧ (dramTempRead s twice).cal = s.cal ∧ (dramTempRead s twice).net = s.net ∧ (dramTempRead s twice).mbx = s.mbx ∧
    (dramTempRead s twice).io = s.io ∧ (dramTempRead s twice).pins = s.pins ∧ (dramTempRead s twice).aux = s.aux ∧
    (dramTempRead s twice).clk = s.clk ∧ (dramTempRead s twice).pwr = s.pwr ∧ (dramTempRead s twice).boot = s.boot ∧
    (dramTempRead s twice).thm = s.thm ∧ (dramTempRead s twice).ddr = s.ddr ∧ (dramTempRead s twice).mram = s.mram ∧
    (dramTempRead s twice).flash = s.flash ∧ (dramTempRead s twice).evt = s.evt := by
  unfold dramTempRead
  split <;> simp
def dramTempReadRegs : List Field := hkReadRegs ++ raiseFaultRegs ++ [DDRC.STATUS.HOT]
@[simp] theorem dramTempRead_word {key : Nat} (hk : Outside dramTempReadRegs key) (s : State) (twice : Option Bool)  :
    wordAt (dramTempRead s twice).regs key = wordAt s.regs key := by
  simp only [dramTempReadRegs, outside_append, outside_cons, outside_nil, and_true] at hk
  unfold dramTempRead
  split <;> simp [hk]
@[simp] theorem guardPlausible_keep (s : State) (g : Option Int) : (guardPlausible s g).pending = s.pending ∧
    (guardPlausible s g).act = s.act ∧ (guardPlausible s g).lt = s.lt ∧ (guardPlausible s g).synced = s.synced ∧
    (guardPlausible s g).free = s.free ∧ (guardPlausible s g).dram = s.dram ∧ (guardPlausible s g).pix = s.pix ∧
    (guardPlausible s g).gal = s.gal ∧ (guardPlausible s g).eng = s.eng ∧ (guardPlausible s g).stats = s.stats ∧
    (guardPlausible s g).shd = s.shd ∧ (guardPlausible s g).guard = s.guard ∧ (guardPlausible s g).diag = s.diag ∧
    (guardPlausible s g).cal = s.cal ∧ (guardPlausible s g).net = s.net ∧ (guardPlausible s g).mbx = s.mbx ∧
    (guardPlausible s g).io = s.io ∧ (guardPlausible s g).pins = s.pins ∧ (guardPlausible s g).aux = s.aux ∧
    (guardPlausible s g).clk = s.clk ∧ (guardPlausible s g).pwr = s.pwr ∧ (guardPlausible s g).boot = s.boot ∧
    (guardPlausible s g).ddr = s.ddr ∧ (guardPlausible s g).mram = s.mram ∧ (guardPlausible s g).flash = s.flash ∧
    (guardPlausible s g).evt = s.evt := by
  unfold guardPlausible
  split <;> simp
def guardPlausibleRegs : List Field := raiseFaultRegs
@[simp] theorem guardPlausible_word {key : Nat} (hk : Outside guardPlausibleRegs key) (s : State) (g : Option Int)  :
    wordAt (guardPlausible s g).regs key = wordAt s.regs key := by
  simp only [guardPlausibleRegs, outside_append, outside_cons, outside_nil, and_true] at hk
  unfold guardPlausible
  split <;> simp [hk]
@[simp] theorem pauseRound_keep (s : State) : (pauseRound s).pending = s.pending ∧ (pauseRound s).regs = s.regs ∧
    (pauseRound s).act = s.act ∧ (pauseRound s).lt = s.lt ∧ (pauseRound s).synced = s.synced ∧ (pauseRound s).free =
    s.free ∧ (pauseRound s).dram = s.dram ∧ (pauseRound s).scan = s.scan ∧ (pauseRound s).pix = s.pix ∧ (pauseRound
    s).gal = s.gal ∧ (pauseRound s).eng = s.eng ∧ (pauseRound s).stats = s.stats ∧ (pauseRound s).shd = s.shd ∧
    (pauseRound s).guard = s.guard ∧ (pauseRound s).diag = s.diag ∧ (pauseRound s).cal = s.cal ∧ (pauseRound s).net =
    s.net ∧ (pauseRound s).mbx = s.mbx ∧ (pauseRound s).io = s.io ∧ (pauseRound s).pins = s.pins ∧ (pauseRound s).aux
    = s.aux ∧ (pauseRound s).clk = s.clk ∧ (pauseRound s).pwr = s.pwr ∧ (pauseRound s).boot = s.boot ∧ (pauseRound
    s).ddr = s.ddr ∧ (pauseRound s).mram = s.mram ∧ (pauseRound s).flash = s.flash ∧ (pauseRound s).flt = s.flt ∧
    (pauseRound s).evt = s.evt := by
  unfold pauseRound
  simp
@[simp] theorem auxDerate_keep (s : State) : (auxDerate s).pending = s.pending ∧ (auxDerate s).act = s.act ∧
    (auxDerate s).lt = s.lt ∧ (auxDerate s).synced = s.synced ∧ (auxDerate s).free = s.free ∧ (auxDerate s).dram =
    s.dram ∧ (auxDerate s).scan = s.scan ∧ (auxDerate s).pix = s.pix ∧ (auxDerate s).gal = s.gal ∧ (auxDerate s).eng =
    s.eng ∧ (auxDerate s).stats = s.stats ∧ (auxDerate s).shd = s.shd ∧ (auxDerate s).guard = s.guard ∧ (auxDerate
    s).diag = s.diag ∧ (auxDerate s).cal = s.cal ∧ (auxDerate s).net = s.net ∧ (auxDerate s).mbx = s.mbx ∧ (auxDerate
    s).io = s.io ∧ (auxDerate s).pins = s.pins ∧ (auxDerate s).aux = s.aux ∧ (auxDerate s).clk = s.clk ∧ (auxDerate
    s).pwr = s.pwr ∧ (auxDerate s).boot = s.boot ∧ (auxDerate s).thm = s.thm ∧ (auxDerate s).ddr = s.ddr ∧ (auxDerate
    s).mram = s.mram ∧ (auxDerate s).flash = s.flash ∧ (auxDerate s).flt = s.flt ∧ (auxDerate s).evt = s.evt := by
  unfold auxDerate
  simp
def auxDerateRegs : List Field := [AUX.STATUS.DERATING, AUX.STATUS.F]
@[simp] theorem auxDerate_word {key : Nat} (hk : Outside auxDerateRegs key) (s : State)  : wordAt (auxDerate s).regs
    key = wordAt s.regs key := by
  simp only [auxDerateRegs, outside_append, outside_cons, outside_nil, and_true] at hk
  unfold auxDerate
  simp [hk]
@[simp] theorem housekeeping_keep (s : State) (h : HkReadings) : (housekeeping s h).pending = s.pending ∧
    (housekeeping s h).act = s.act ∧ (housekeeping s h).lt = s.lt ∧ (housekeeping s h).synced = s.synced ∧
    (housekeeping s h).free = s.free ∧ (housekeeping s h).dram = s.dram ∧ (housekeeping s h).pix = s.pix ∧
    (housekeeping s h).gal = s.gal ∧ (housekeeping s h).eng = s.eng ∧ (housekeeping s h).stats = s.stats ∧
    (housekeeping s h).shd = s.shd ∧ (housekeeping s h).guard = s.guard ∧ (housekeeping s h).diag = s.diag ∧
    (housekeeping s h).cal = s.cal ∧ (housekeeping s h).net = s.net ∧ (housekeeping s h).mbx = s.mbx ∧ (housekeeping s
    h).io = s.io ∧ (housekeeping s h).pins = s.pins ∧ (housekeeping s h).aux = s.aux ∧ (housekeeping s h).clk = s.clk
    ∧ (housekeeping s h).pwr = s.pwr ∧ (housekeeping s h).boot = s.boot ∧ (housekeeping s h).ddr = s.ddr ∧
    (housekeeping s h).mram = s.mram ∧ (housekeeping s h).flash = s.flash ∧ (housekeeping s h).evt = s.evt := by
  unfold housekeeping
  simp
def housekeepingRegs : List Field := hkReadRegs ++ dramTempReadRegs ++ guardPlausibleRegs ++ auxDerateRegs
@[simp] theorem housekeeping_word {key : Nat} (hk : Outside housekeepingRegs key) (s : State) (h : HkReadings)  :
    wordAt (housekeeping s h).regs key = wordAt s.regs key := by
  simp only [housekeepingRegs, outside_append, outside_cons, outside_nil, and_true] at hk
  unfold housekeeping
  simp [hk]

end Sys2Proof.Machine
end

