-- ==== Sys2Proof/Laws/FrameReset.lean ====
section
/-! SUPPORT. FrameReset.lean: for each operation of Machine/Reset.lean, the parts of State that it leaves alone and the register
fields outside which it changes none. -/

set_option linter.unusedSimpArgs false

namespace Sys2Proof.Machine

set_option Elab.async false

@[simp] theorem keepRegs_keep (l : List Field) (s base : State) : (keepRegs l s base).pending = base.pending ∧
    (keepRegs l s base).act = base.act ∧ (keepRegs l s base).lt = base.lt ∧ (keepRegs l s base).synced = base.synced ∧
    (keepRegs l s base).free = base.free ∧ (keepRegs l s base).dram = base.dram ∧ (keepRegs l s base).scan = base.scan
    ∧ (keepRegs l s base).pix = base.pix ∧ (keepRegs l s base).gal = base.gal ∧ (keepRegs l s base).eng = base.eng ∧
    (keepRegs l s base).stats = base.stats ∧ (keepRegs l s base).shd = base.shd ∧ (keepRegs l s base).guard =
    base.guard ∧ (keepRegs l s base).diag = base.diag ∧ (keepRegs l s base).cal = base.cal ∧ (keepRegs l s base).net =
    base.net ∧ (keepRegs l s base).mbx = base.mbx ∧ (keepRegs l s base).io = base.io ∧ (keepRegs l s base).pins =
    base.pins ∧ (keepRegs l s base).aux = base.aux ∧ (keepRegs l s base).clk = base.clk ∧ (keepRegs l s base).pwr =
    base.pwr ∧ (keepRegs l s base).boot = base.boot ∧ (keepRegs l s base).thm = base.thm ∧ (keepRegs l s base).ddr =
    base.ddr ∧ (keepRegs l s base).mram = base.mram ∧ (keepRegs l s base).flash = base.flash ∧ (keepRegs l s base).flt
    = base.flt ∧ (keepRegs l s base).evt = base.evt := by
  unfold keepRegs
  simp
@[simp] theorem lightRom_keep (s : State) : (lightRom s).pending = s.pending ∧ (lightRom s).act = s.act ∧ (lightRom
    s).lt = s.lt ∧ (lightRom s).synced = s.synced ∧ (lightRom s).free = s.free ∧ (lightRom s).dram = s.dram ∧
    (lightRom s).pix = s.pix ∧ (lightRom s).gal = s.gal ∧ (lightRom s).eng = s.eng ∧ (lightRom s).stats = s.stats ∧
    (lightRom s).shd = s.shd ∧ (lightRom s).guard = s.guard ∧ (lightRom s).diag = s.diag ∧ (lightRom s).cal = s.cal ∧
    (lightRom s).net = s.net ∧ (lightRom s).mbx = s.mbx ∧ (lightRom s).io = s.io ∧ (lightRom s).pins = s.pins ∧
    (lightRom s).aux = s.aux ∧ (lightRom s).clk = s.clk ∧ (lightRom s).pwr = s.pwr ∧ (lightRom s).boot = s.boot ∧
    (lightRom s).thm = s.thm ∧ (lightRom s).ddr = s.ddr ∧ (lightRom s).mram = s.mram ∧ (lightRom s).flash = s.flash ∧
    (lightRom s).flt = s.flt ∧ (lightRom s).evt = s.evt := by
  unfold lightRom
  simp
def lightRomRegs : List Field := [SAFE.FB_CAUSE.LOWBEAM, SCAN.FB_CTRL.RESET_LONG_ROM]
@[simp] theorem lightRom_word {key : Nat} (hk : Outside lightRomRegs key) (s : State)  : wordAt (lightRom s).regs key
    = wordAt s.regs key := by
  simp only [lightRomRegs, outside_append, outside_cons, outside_nil, and_true] at hk
  unfold lightRom
  simp [hk]
@[simp] theorem bareDevice_keep (s : State) : (bareDevice s).pending = s.pending ∧ (bareDevice s).free = s.free ∧
    (bareDevice s).flash = s.flash := by
  unfold bareDevice
  simp
@[simp] theorem afterReset_keep (s : State) : (afterReset s).pending = s.pending ∧ (afterReset s).free = s.free ∧
    (afterReset s).flash = s.flash := by
  unfold afterReset
  simp
@[simp] theorem enterDeep_keep (s : State) : (enterDeep s).pending = s.pending ∧ (enterDeep s).free = s.free ∧
    (enterDeep s).flash = s.flash := by
  unfold enterDeep
  simp
@[simp] theorem enterCellar_keep (s : State) : (enterCellar s).pending = s.pending ∧ (enterCellar s).free = s.free ∧
    (enterCellar s).flash = s.flash := by
  unfold enterCellar
  simp
@[simp] theorem lowbeamRise_keep (s : State) : (lowbeamRise s).pending = s.pending ∧ (lowbeamRise s).act = s.act ∧
    (lowbeamRise s).free = s.free ∧ (lowbeamRise s).dram = s.dram ∧ (lowbeamRise s).pix = s.pix ∧ (lowbeamRise s).gal
    = s.gal ∧ (lowbeamRise s).eng = s.eng ∧ (lowbeamRise s).stats = s.stats ∧ (lowbeamRise s).shd = s.shd ∧
    (lowbeamRise s).guard = s.guard ∧ (lowbeamRise s).diag = s.diag ∧ (lowbeamRise s).cal = s.cal ∧ (lowbeamRise
    s).net = s.net ∧ (lowbeamRise s).mbx = s.mbx ∧ (lowbeamRise s).io = s.io ∧ (lowbeamRise s).aux = s.aux ∧
    (lowbeamRise s).clk = s.clk ∧ (lowbeamRise s).thm = s.thm ∧ (lowbeamRise s).ddr = s.ddr ∧ (lowbeamRise s).mram =
    s.mram ∧ (lowbeamRise s).flash = s.flash ∧ (lowbeamRise s).evt = s.evt := by
  unfold lowbeamRise
  simp
def lowbeamRiseRegs : List Field := wakeByRegs ++ lightRomRegs ++ raiseCauseRegs ++ [SAFE.FB_CAUSE.LOWBEAM]
@[simp] theorem lowbeamRise_word {key : Nat} (hk : Outside lowbeamRiseRegs key) (s : State)  : wordAt (lowbeamRise
    s).regs key = wordAt s.regs key := by
  simp only [lowbeamRiseRegs, outside_append, outside_cons, outside_nil, and_true] at hk
  unfold lowbeamRise
  simp [hk]
@[simp] theorem lowbeamFall_keep (s : State) : (lowbeamFall s).pending = s.pending ∧ (lowbeamFall s).act = s.act ∧
    (lowbeamFall s).lt = s.lt ∧ (lowbeamFall s).synced = s.synced ∧ (lowbeamFall s).free = s.free ∧ (lowbeamFall
    s).dram = s.dram ∧ (lowbeamFall s).pix = s.pix ∧ (lowbeamFall s).gal = s.gal ∧ (lowbeamFall s).eng = s.eng ∧
    (lowbeamFall s).stats = s.stats ∧ (lowbeamFall s).shd = s.shd ∧ (lowbeamFall s).guard = s.guard ∧ (lowbeamFall
    s).diag = s.diag ∧ (lowbeamFall s).cal = s.cal ∧ (lowbeamFall s).net = s.net ∧ (lowbeamFall s).mbx = s.mbx ∧
    (lowbeamFall s).io = s.io ∧ (lowbeamFall s).aux = s.aux ∧ (lowbeamFall s).clk = s.clk ∧ (lowbeamFall s).pwr =
    s.pwr ∧ (lowbeamFall s).boot = s.boot ∧ (lowbeamFall s).thm = s.thm ∧ (lowbeamFall s).ddr = s.ddr ∧ (lowbeamFall
    s).mram = s.mram ∧ (lowbeamFall s).flash = s.flash ∧ (lowbeamFall s).evt = s.evt := by
  unfold lowbeamFall
  simp
def lowbeamFallRegs : List Field := clearCauseRegs ++ [SAFE.FB_CAUSE.LOWBEAM]
@[simp] theorem lowbeamFall_word {key : Nat} (hk : Outside lowbeamFallRegs key) (s : State)  : wordAt (lowbeamFall
    s).regs key = wordAt s.regs key := by
  simp only [lowbeamFallRegs, outside_append, outside_cons, outside_nil, and_true] at hk
  unfold lowbeamFall
  simp [hk]
@[simp] theorem resetAssert_keep (s : State) : (resetAssert s).pending = s.pending ∧ (resetAssert s).free = s.free ∧
    (resetAssert s).flash = s.flash := by
  unfold resetAssert
  simp
@[simp] theorem recordHold_keep (s : State) (n : Nat) : (recordHold s n).pending = s.pending ∧ (recordHold s n).act =
    s.act ∧ (recordHold s n).lt = s.lt ∧ (recordHold s n).synced = s.synced ∧ (recordHold s n).free = s.free ∧
    (recordHold s n).dram = s.dram ∧ (recordHold s n).scan = s.scan ∧ (recordHold s n).pix = s.pix ∧ (recordHold s
    n).gal = s.gal ∧ (recordHold s n).eng = s.eng ∧ (recordHold s n).stats = s.stats ∧ (recordHold s n).shd = s.shd ∧
    (recordHold s n).guard = s.guard ∧ (recordHold s n).diag = s.diag ∧ (recordHold s n).cal = s.cal ∧ (recordHold s
    n).net = s.net ∧ (recordHold s n).mbx = s.mbx ∧ (recordHold s n).io = s.io ∧ (recordHold s n).pins = s.pins ∧
    (recordHold s n).aux = s.aux ∧ (recordHold s n).clk = s.clk ∧ (recordHold s n).pwr = s.pwr ∧ (recordHold s n).thm
    = s.thm ∧ (recordHold s n).ddr = s.ddr ∧ (recordHold s n).mram = s.mram ∧ (recordHold s n).flash = s.flash ∧
    (recordHold s n).flt = s.flt ∧ (recordHold s n).evt = s.evt := by
  unfold recordHold
  simp
def recordHoldRegs : List Field := [SYS.RESET_CAUSE.HELD_S, SYS.RESET_CAUSE.RESET_LONG]
@[simp] theorem recordHold_word {key : Nat} (hk : Outside recordHoldRegs key) (s : State) (n : Nat)  : wordAt
    (recordHold s n).regs key = wordAt s.regs key := by
  simp only [recordHoldRegs, outside_append, outside_cons, outside_nil, and_true] at hk
  unfold recordHold
  simp [hk]
@[simp] theorem resetRelease_keep (s : State) (n : Nat) : (resetRelease s n).pending = s.pending ∧ (resetRelease s
    n).act = s.act ∧ (resetRelease s n).lt = s.lt ∧ (resetRelease s n).synced = s.synced ∧ (resetRelease s n).free =
    s.free ∧ (resetRelease s n).dram = s.dram ∧ (resetRelease s n).scan = s.scan ∧ (resetRelease s n).pix = s.pix ∧
    (resetRelease s n).gal = s.gal ∧ (resetRelease s n).eng = s.eng ∧ (resetRelease s n).stats = s.stats ∧
    (resetRelease s n).shd = s.shd ∧ (resetRelease s n).guard = s.guard ∧ (resetRelease s n).diag = s.diag ∧
    (resetRelease s n).cal = s.cal ∧ (resetRelease s n).net = s.net ∧ (resetRelease s n).mbx = s.mbx ∧ (resetRelease s
    n).io = s.io ∧ (resetRelease s n).pins = s.pins ∧ (resetRelease s n).aux = s.aux ∧ (resetRelease s n).clk = s.clk
    ∧ (resetRelease s n).pwr = s.pwr ∧ (resetRelease s n).thm = s.thm ∧ (resetRelease s n).ddr = s.ddr ∧ (resetRelease
    s n).mram = s.mram ∧ (resetRelease s n).flash = s.flash ∧ (resetRelease s n).flt = s.flt ∧ (resetRelease s n).evt
    = s.evt := by
  unfold resetRelease
  simp
def resetReleaseRegs : List Field := recordHoldRegs ++ [SYS.RESET_CAUSE.CAUSE]
@[simp] theorem resetRelease_word {key : Nat} (hk : Outside resetReleaseRegs key) (s : State) (n : Nat)  : wordAt
    (resetRelease s n).regs key = wordAt s.regs key := by
  simp only [resetReleaseRegs, outside_append, outside_cons, outside_nil, and_true] at hk
  unfold resetRelease
  simp [hk]
@[simp] theorem hardTrip_keep (s : State) (sensor : Nat) : (hardTrip s sensor).pending = s.pending ∧ (hardTrip s
    sensor).free = s.free ∧ (hardTrip s sensor).flash = s.flash := by
  unfold hardTrip
  simp
@[simp] theorem hardTripRelease_keep (s : State) : (hardTripRelease s).pending = s.pending ∧ (hardTripRelease s).act =
    s.act ∧ (hardTripRelease s).lt = s.lt ∧ (hardTripRelease s).synced = s.synced ∧ (hardTripRelease s).free = s.free
    ∧ (hardTripRelease s).dram = s.dram ∧ (hardTripRelease s).pix = s.pix ∧ (hardTripRelease s).gal = s.gal ∧
    (hardTripRelease s).eng = s.eng ∧ (hardTripRelease s).stats = s.stats ∧ (hardTripRelease s).shd = s.shd ∧
    (hardTripRelease s).guard = s.guard ∧ (hardTripRelease s).diag = s.diag ∧ (hardTripRelease s).cal = s.cal ∧
    (hardTripRelease s).net = s.net ∧ (hardTripRelease s).mbx = s.mbx ∧ (hardTripRelease s).io = s.io ∧
    (hardTripRelease s).pins = s.pins ∧ (hardTripRelease s).aux = s.aux ∧ (hardTripRelease s).clk = s.clk ∧
    (hardTripRelease s).pwr = s.pwr ∧ (hardTripRelease s).ddr = s.ddr ∧ (hardTripRelease s).mram = s.mram ∧
    (hardTripRelease s).flash = s.flash ∧ (hardTripRelease s).flt = s.flt ∧ (hardTripRelease s).evt = s.evt := by
  unfold hardTripRelease
  simp
def hardTripReleaseRegs : List Field := lightRomRegs ++ [SYS.RESET_CAUSE.CAUSE]
@[simp] theorem hardTripRelease_word {key : Nat} (hk : Outside hardTripReleaseRegs key) (s : State)  : wordAt
    (hardTripRelease s).regs key = wordAt s.regs key := by
  simp only [hardTripReleaseRegs, outside_append, outside_cons, outside_nil, and_true] at hk
  unfold hardTripRelease
  simp [hk]

end Sys2Proof.Machine
end

