-- ==== Sys2Proof/Laws/FrameDram.lean ====
section
/-! SUPPORT. FrameDram.lean: for each operation of Machine/Dram.lean, the parts of State that it leaves alone and the register
fields outside which it changes none. -/

set_option linter.unusedSimpArgs false

namespace Sys2Proof.Machine

set_option Elab.async false

@[simp] theorem ddrcEnable_keep (s : State) : (ddrcEnable s).pending = s.pending ∧ (ddrcEnable s).act = s.act ∧
    (ddrcEnable s).lt = s.lt ∧ (ddrcEnable s).synced = s.synced ∧ (ddrcEnable s).free = s.free ∧ (ddrcEnable s).dram =
    s.dram ∧ (ddrcEnable s).scan = s.scan ∧ (ddrcEnable s).pix = s.pix ∧ (ddrcEnable s).gal = s.gal ∧ (ddrcEnable
    s).eng = s.eng ∧ (ddrcEnable s).stats = s.stats ∧ (ddrcEnable s).shd = s.shd ∧ (ddrcEnable s).guard = s.guard ∧
    (ddrcEnable s).diag = s.diag ∧ (ddrcEnable s).cal = s.cal ∧ (ddrcEnable s).net = s.net ∧ (ddrcEnable s).mbx =
    s.mbx ∧ (ddrcEnable s).io = s.io ∧ (ddrcEnable s).pins = s.pins ∧ (ddrcEnable s).aux = s.aux ∧ (ddrcEnable s).clk
    = s.clk ∧ (ddrcEnable s).pwr = s.pwr ∧ (ddrcEnable s).boot = s.boot ∧ (ddrcEnable s).thm = s.thm ∧ (ddrcEnable
    s).ddr = s.ddr ∧ (ddrcEnable s).mram = s.mram ∧ (ddrcEnable s).flash = s.flash ∧ (ddrcEnable s).flt = s.flt ∧
    (ddrcEnable s).evt = s.evt := by
  unfold ddrcEnable
  simp
def ddrcEnableRegs : List Field := [DDRC.CTRL.EN, DDRC.STATUS.MAP_ERR, DDRC.STATUS.ORG_ERR]
@[simp] theorem ddrcEnable_word {key : Nat} (hk : Outside ddrcEnableRegs key) (s : State)  : wordAt (ddrcEnable
    s).regs key = wordAt s.regs key := by
  simp only [ddrcEnableRegs, outside_append, outside_cons, outside_nil, and_true] at hk
  unfold ddrcEnable
  simp [hk]
@[simp] theorem activateRow_keep (s : State) : (activateRow s).pending = s.pending ∧ (activateRow s).act = s.act ∧
    (activateRow s).lt = s.lt ∧ (activateRow s).synced = s.synced ∧ (activateRow s).dram = s.dram ∧ (activateRow
    s).scan = s.scan ∧ (activateRow s).pix = s.pix ∧ (activateRow s).gal = s.gal ∧ (activateRow s).eng = s.eng ∧
    (activateRow s).stats = s.stats ∧ (activateRow s).shd = s.shd ∧ (activateRow s).guard = s.guard ∧ (activateRow
    s).diag = s.diag ∧ (activateRow s).cal = s.cal ∧ (activateRow s).net = s.net ∧ (activateRow s).mbx = s.mbx ∧
    (activateRow s).io = s.io ∧ (activateRow s).pins = s.pins ∧ (activateRow s).aux = s.aux ∧ (activateRow s).clk =
    s.clk ∧ (activateRow s).pwr = s.pwr ∧ (activateRow s).boot = s.boot ∧ (activateRow s).thm = s.thm ∧ (activateRow
    s).mram = s.mram ∧ (activateRow s).flash = s.flash ∧ (activateRow s).flt = s.flt ∧ (activateRow s).evt = s.evt := by
  unfold activateRow
  simp
def activateRowRegs : List Field := dramExitRegs ++ [DDRC.RHP_COUNT.COUNT]
@[simp] theorem activateRow_word {key : Nat} (hk : Outside activateRowRegs key) (s : State)  : wordAt (activateRow
    s).regs key = wordAt s.regs key := by
  simp only [activateRowRegs, outside_append, outside_cons, outside_nil, and_true] at hk
  unfold activateRow
  simp [hk]
@[simp] theorem correctedError_keep (s : State) : (correctedError s).pending = s.pending ∧ (correctedError s).act =
    s.act ∧ (correctedError s).lt = s.lt ∧ (correctedError s).synced = s.synced ∧ (correctedError s).free = s.free ∧
    (correctedError s).dram = s.dram ∧ (correctedError s).pix = s.pix ∧ (correctedError s).gal = s.gal ∧
    (correctedError s).eng = s.eng ∧ (correctedError s).stats = s.stats ∧ (correctedError s).shd = s.shd ∧
    (correctedError s).guard = s.guard ∧ (correctedError s).diag = s.diag ∧ (correctedError s).cal = s.cal ∧
    (correctedError s).net = s.net ∧ (correctedError s).mbx = s.mbx ∧ (correctedError s).io = s.io ∧ (correctedError
    s).pins = s.pins ∧ (correctedError s).aux = s.aux ∧ (correctedError s).clk = s.clk ∧ (correctedError s).pwr =
    s.pwr ∧ (correctedError s).boot = s.boot ∧ (correctedError s).thm = s.thm ∧ (correctedError s).mram = s.mram ∧
    (correctedError s).flash = s.flash ∧ (correctedError s).evt = s.evt := by
  unfold correctedError
  simp
def correctedErrorRegs : List Field := raiseFaultRegs ++ [DDRC.CE_COUNT.COUNT]
@[simp] theorem correctedError_word {key : Nat} (hk : Outside correctedErrorRegs key) (s : State)  : wordAt
    (correctedError s).regs key = wordAt s.regs key := by
  simp only [correctedErrorRegs, outside_append, outside_cons, outside_nil, and_true] at hk
  unfold correctedError
  simp [hk]
@[simp] theorem logUncorrectable_keep (s : State) (classS : Bool) (addr : Nat) : (logUncorrectable s classS
    addr).pending = s.pending ∧ (logUncorrectable s classS addr).act = s.act ∧ (logUncorrectable s classS addr).lt =
    s.lt ∧ (logUncorrectable s classS addr).synced = s.synced ∧ (logUncorrectable s classS addr).free = s.free ∧
    (logUncorrectable s classS addr).dram = s.dram ∧ (logUncorrectable s classS addr).scan = s.scan ∧
    (logUncorrectable s classS addr).pix = s.pix ∧ (logUncorrectable s classS addr).gal = s.gal ∧ (logUncorrectable s
    classS addr).eng = s.eng ∧ (logUncorrectable s classS addr).stats = s.stats ∧ (logUncorrectable s classS addr).shd
    = s.shd ∧ (logUncorrectable s classS addr).guard = s.guard ∧ (logUncorrectable s classS addr).diag = s.diag ∧
    (logUncorrectable s classS addr).cal = s.cal ∧ (logUncorrectable s classS addr).net = s.net ∧ (logUncorrectable s
    classS addr).mbx = s.mbx ∧ (logUncorrectable s classS addr).io = s.io ∧ (logUncorrectable s classS addr).pins =
    s.pins ∧ (logUncorrectable s classS addr).aux = s.aux ∧ (logUncorrectable s classS addr).clk = s.clk ∧
    (logUncorrectable s classS addr).pwr = s.pwr ∧ (logUncorrectable s classS addr).boot = s.boot ∧ (logUncorrectable
    s classS addr).thm = s.thm ∧ (logUncorrectable s classS addr).ddr = s.ddr ∧ (logUncorrectable s classS addr).mram
    = s.mram ∧ (logUncorrectable s classS addr).flash = s.flash ∧ (logUncorrectable s classS addr).flt = s.flt ∧
    (logUncorrectable s classS addr).evt = s.evt := by
  unfold logUncorrectable
  simp
def logUncorrectableRegs : List Field := [DDRC.UE_ADDR_HI.ADDR, DDRC.UE_ADDR_HI.CLASS_S, DDRC.UE_ADDR_LO.ADDR,
    DDRC.UE_COUNT.COUNT]
@[simp] theorem logUncorrectable_word {key : Nat} (hk : Outside logUncorrectableRegs key) (s : State) (classS : Bool)
    (addr : Nat)  : wordAt (logUncorrectable s classS addr).regs key = wordAt s.regs key := by
  simp only [logUncorrectableRegs, outside_append, outside_cons, outside_nil, and_true] at hk
  unfold logUncorrectable
  simp [hk]
@[simp] theorem safetyReadFails_keep (s : State) (addr : Nat) : (safetyReadFails s addr).pending = s.pending ∧
    (safetyReadFails s addr).act = s.act ∧ (safetyReadFails s addr).lt = s.lt ∧ (safetyReadFails s addr).synced =
    s.synced ∧ (safetyReadFails s addr).free = s.free ∧ (safetyReadFails s addr).dram = s.dram ∧ (safetyReadFails s
    addr).gal = s.gal ∧ (safetyReadFails s addr).eng = s.eng ∧ (safetyReadFails s addr).shd = s.shd ∧ (safetyReadFails
    s addr).guard = s.guard ∧ (safetyReadFails s addr).diag = s.diag ∧ (safetyReadFails s addr).cal = s.cal ∧
    (safetyReadFails s addr).net = s.net ∧ (safetyReadFails s addr).mbx = s.mbx ∧ (safetyReadFails s addr).io = s.io ∧
    (safetyReadFails s addr).pins = s.pins ∧ (safetyReadFails s addr).aux = s.aux ∧ (safetyReadFails s addr).clk =
    s.clk ∧ (safetyReadFails s addr).pwr = s.pwr ∧ (safetyReadFails s addr).boot = s.boot ∧ (safetyReadFails s
    addr).thm = s.thm ∧ (safetyReadFails s addr).ddr = s.ddr ∧ (safetyReadFails s addr).mram = s.mram ∧
    (safetyReadFails s addr).flash = s.flash ∧ (safetyReadFails s addr).evt = s.evt := by
  unfold safetyReadFails
  simp
def safetyReadFailsRegs : List Field := logUncorrectableRegs ++ raiseFaultRegs
@[simp] theorem safetyReadFails_word {key : Nat} (hk : Outside safetyReadFailsRegs key) (s : State) (addr : Nat)  :
    wordAt (safetyReadFails s addr).regs key = wordAt s.regs key := by
  simp only [safetyReadFailsRegs, outside_append, outside_cons, outside_nil, and_true] at hk
  unfold safetyReadFails
  simp [hk]
@[simp] theorem abandonBands_keep (s : State) (n : Nat) : (abandonBands s n).pending = s.pending ∧ (abandonBands s
    n).regs = s.regs ∧ (abandonBands s n).act = s.act ∧ (abandonBands s n).lt = s.lt ∧ (abandonBands s n).synced =
    s.synced ∧ (abandonBands s n).free = s.free ∧ (abandonBands s n).dram = s.dram ∧ (abandonBands s n).scan = s.scan
    ∧ (abandonBands s n).pix = s.pix ∧ (abandonBands s n).gal = s.gal ∧ (abandonBands s n).shd = s.shd ∧ (abandonBands
    s n).guard = s.guard ∧ (abandonBands s n).diag = s.diag ∧ (abandonBands s n).cal = s.cal ∧ (abandonBands s n).net
    = s.net ∧ (abandonBands s n).mbx = s.mbx ∧ (abandonBands s n).io = s.io ∧ (abandonBands s n).pins = s.pins ∧
    (abandonBands s n).aux = s.aux ∧ (abandonBands s n).clk = s.clk ∧ (abandonBands s n).pwr = s.pwr ∧ (abandonBands s
    n).boot = s.boot ∧ (abandonBands s n).thm = s.thm ∧ (abandonBands s n).ddr = s.ddr ∧ (abandonBands s n).mram =
    s.mram ∧ (abandonBands s n).flash = s.flash ∧ (abandonBands s n).flt = s.flt ∧ (abandonBands s n).evt = s.evt := by
  unfold abandonBands
  simp
@[simp] theorem clientReacts_keep (s : State) (client : DramClient) : (clientReacts s client).pending = s.pending ∧
    (clientReacts s client).act = s.act ∧ (clientReacts s client).lt = s.lt ∧ (clientReacts s client).synced =
    s.synced ∧ (clientReacts s client).free = s.free ∧ (clientReacts s client).dram = s.dram ∧ (clientReacts s
    client).scan = s.scan ∧ (clientReacts s client).pix = s.pix ∧ (clientReacts s client).gal = s.gal ∧ (clientReacts
    s client).shd = s.shd ∧ (clientReacts s client).guard = s.guard ∧ (clientReacts s client).diag = s.diag ∧
    (clientReacts s client).cal = s.cal ∧ (clientReacts s client).net = s.net ∧ (clientReacts s client).mbx = s.mbx ∧
    (clientReacts s client).io = s.io ∧ (clientReacts s client).pins = s.pins ∧ (clientReacts s client).aux = s.aux ∧
    (clientReacts s client).clk = s.clk ∧ (clientReacts s client).pwr = s.pwr ∧ (clientReacts s client).boot = s.boot
    ∧ (clientReacts s client).thm = s.thm ∧ (clientReacts s client).ddr = s.ddr ∧ (clientReacts s client).mram =
    s.mram ∧ (clientReacts s client).flash = s.flash ∧ (clientReacts s client).flt = s.flt ∧ (clientReacts s
    client).evt = s.evt := by
  unfold clientReacts
  split <;> simp
def clientReactsRegs : List Field := [BE.STATUS.DOSE_LOST]
@[simp] theorem clientReacts_word {key : Nat} (hk : Outside clientReactsRegs key) (s : State) (client : DramClient)  :
    wordAt (clientReacts s client).regs key = wordAt s.regs key := by
  simp only [clientReactsRegs, outside_append, outside_cons, outside_nil, and_true] at hk
  unfold clientReacts
  split <;> simp [hk]
@[simp] theorem readError_keep (s : State) (cls : DramClass) (addr : Nat) (kind : DramErrorKind) (client : DramClient)
    : (readError s cls addr kind client).pending = s.pending ∧ (readError s cls addr kind client).act = s.act ∧
    (readError s cls addr kind client).lt = s.lt ∧ (readError s cls addr kind client).synced = s.synced ∧ (readError s
    cls addr kind client).free = s.free ∧ (readError s cls addr kind client).dram = s.dram ∧ (readError s cls addr
    kind client).gal = s.gal ∧ (readError s cls addr kind client).shd = s.shd ∧ (readError s cls addr kind
    client).guard = s.guard ∧ (readError s cls addr kind client).diag = s.diag ∧ (readError s cls addr kind
    client).cal = s.cal ∧ (readError s cls addr kind client).net = s.net ∧ (readError s cls addr kind client).mbx =
    s.mbx ∧ (readError s cls addr kind client).io = s.io ∧ (readError s cls addr kind client).pins = s.pins ∧
    (readError s cls addr kind client).aux = s.aux ∧ (readError s cls addr kind client).clk = s.clk ∧ (readError s cls
    addr kind client).pwr = s.pwr ∧ (readError s cls addr kind client).boot = s.boot ∧ (readError s cls addr kind
    client).thm = s.thm ∧ (readError s cls addr kind client).mram = s.mram ∧ (readError s cls addr kind client).flash
    = s.flash ∧ (readError s cls addr kind client).evt = s.evt := by
  unfold readError
  split <;> simp
def readErrorRegs : List Field := correctedErrorRegs ++ safetyReadFailsRegs ++ clientReactsRegs ++
    logUncorrectableRegs ++ [DDRC.CE_COUNT.COUNT]
@[simp] theorem readError_word {key : Nat} (hk : Outside readErrorRegs key) (s : State) (cls : DramClass) (addr : Nat)
    (kind : DramErrorKind) (client : DramClient)  : wordAt (readError s cls addr kind client).regs key = wordAt s.regs
    key := by
  simp only [readErrorRegs, outside_append, outside_cons, outside_nil, and_true] at hk
  unfold readError
  split <;> simp [hk]
@[simp] theorem alert_keep (s : State) (replay : ReplayEnd) : (alert s replay).pending = s.pending ∧ (alert s
    replay).act = s.act ∧ (alert s replay).lt = s.lt ∧ (alert s replay).synced = s.synced ∧ (alert s replay).free =
    s.free ∧ (alert s replay).dram = s.dram ∧ (alert s replay).gal = s.gal ∧ (alert s replay).shd = s.shd ∧ (alert s
    replay).guard = s.guard ∧ (alert s replay).diag = s.diag ∧ (alert s replay).cal = s.cal ∧ (alert s replay).net =
    s.net ∧ (alert s replay).mbx = s.mbx ∧ (alert s replay).io = s.io ∧ (alert s replay).pins = s.pins ∧ (alert s
    replay).aux = s.aux ∧ (alert s replay).clk = s.clk ∧ (alert s replay).pwr = s.pwr ∧ (alert s replay).boot = s.boot
    ∧ (alert s replay).thm = s.thm ∧ (alert s replay).ddr = s.ddr ∧ (alert s replay).mram = s.mram ∧ (alert s
    replay).flash = s.flash ∧ (alert s replay).evt = s.evt := by
  unfold alert
  split <;> simp
def alertRegs : List Field := safetyReadFailsRegs ++ [DDRC.REPLAY_COUNT.COUNT]
@[simp] theorem alert_word {key : Nat} (hk : Outside alertRegs key) (s : State) (replay : ReplayEnd)  : wordAt (alert
    s replay).regs key = wordAt s.regs key := by
  simp only [alertRegs, outside_append, outside_cons, outside_nil, and_true] at hk
  unfold alert
  split <;> simp [hk]
@[simp] theorem idlePower_keep (s : State) : (idlePower s).pending = s.pending ∧ (idlePower s).act = s.act ∧
    (idlePower s).lt = s.lt ∧ (idlePower s).synced = s.synced ∧ (idlePower s).free = s.free ∧ (idlePower s).dram =
    s.dram ∧ (idlePower s).scan = s.scan ∧ (idlePower s).pix = s.pix ∧ (idlePower s).gal = s.gal ∧ (idlePower s).eng =
    s.eng ∧ (idlePower s).stats = s.stats ∧ (idlePower s).shd = s.shd ∧ (idlePower s).guard = s.guard ∧ (idlePower
    s).diag = s.diag ∧ (idlePower s).cal = s.cal ∧ (idlePower s).net = s.net ∧ (idlePower s).mbx = s.mbx ∧ (idlePower
    s).io = s.io ∧ (idlePower s).pins = s.pins ∧ (idlePower s).aux = s.aux ∧ (idlePower s).clk = s.clk ∧ (idlePower
    s).pwr = s.pwr ∧ (idlePower s).boot = s.boot ∧ (idlePower s).thm = s.thm ∧ (idlePower s).mram = s.mram ∧
    (idlePower s).flash = s.flash ∧ (idlePower s).flt = s.flt ∧ (idlePower s).evt = s.evt := by
  unfold idlePower
  simp
def idlePowerRegs : List Field := dramSelfRefreshRegs ++ [DDRC.STATUS.POWER_DOWN]
@[simp] theorem idlePower_word {key : Nat} (hk : Outside idlePowerRegs key) (s : State)  : wordAt (idlePower s).regs
    key = wordAt s.regs key := by
  simp only [idlePowerRegs, outside_append, outside_cons, outside_nil, and_true] at hk
  unfold idlePower
  simp [hk]

end Sys2Proof.Machine
end

