-- ==== Sys2Proof/Laws/FrameBoot.lean ====
section
/-! SUPPORT. FrameBoot.lean: for each operation of Machine/Boot.lean, the parts of State that it leaves alone and the register
fields outside which it changes none. -/

set_option linter.unusedSimpArgs false

namespace Sys2Proof.Machine

set_option Elab.async false

@[simp] theorem state_flashPut_keep (s : State) (a : Nat) (v : List Byte) : (State.flashPut s a v).pending = s.pending
    ∧ (State.flashPut s a v).regs = s.regs ∧ (State.flashPut s a v).act = s.act ∧ (State.flashPut s a v).lt = s.lt ∧
    (State.flashPut s a v).synced = s.synced ∧ (State.flashPut s a v).free = s.free ∧ (State.flashPut s a v).dram =
    s.dram ∧ (State.flashPut s a v).scan = s.scan ∧ (State.flashPut s a v).pix = s.pix ∧ (State.flashPut s a v).gal =
    s.gal ∧ (State.flashPut s a v).eng = s.eng ∧ (State.flashPut s a v).stats = s.stats ∧ (State.flashPut s a v).shd =
    s.shd ∧ (State.flashPut s a v).guard = s.guard ∧ (State.flashPut s a v).diag = s.diag ∧ (State.flashPut s a v).cal
    = s.cal ∧ (State.flashPut s a v).net = s.net ∧ (State.flashPut s a v).mbx = s.mbx ∧ (State.flashPut s a v).io =
    s.io ∧ (State.flashPut s a v).pins = s.pins ∧ (State.flashPut s a v).aux = s.aux ∧ (State.flashPut s a v).clk =
    s.clk ∧ (State.flashPut s a v).pwr = s.pwr ∧ (State.flashPut s a v).boot = s.boot ∧ (State.flashPut s a v).thm =
    s.thm ∧ (State.flashPut s a v).ddr = s.ddr ∧ (State.flashPut s a v).mram = s.mram ∧ (State.flashPut s a v).flt =
    s.flt ∧ (State.flashPut s a v).evt = s.evt := by
  unfold State.flashPut
  simp
@[simp] theorem trySlot_keep (s : State) (b : Bool) (v : SlotVerdict) : (trySlot s b v).1.pending = s.pending ∧
    (trySlot s b v).1.act = s.act ∧ (trySlot s b v).1.lt = s.lt ∧ (trySlot s b v).1.synced = s.synced ∧ (trySlot s b
    v).1.free = s.free ∧ (trySlot s b v).1.dram = s.dram ∧ (trySlot s b v).1.scan = s.scan ∧ (trySlot s b v).1.pix =
    s.pix ∧ (trySlot s b v).1.gal = s.gal ∧ (trySlot s b v).1.eng = s.eng ∧ (trySlot s b v).1.stats = s.stats ∧
    (trySlot s b v).1.shd = s.shd ∧ (trySlot s b v).1.guard = s.guard ∧ (trySlot s b v).1.diag = s.diag ∧ (trySlot s b
    v).1.cal = s.cal ∧ (trySlot s b v).1.net = s.net ∧ (trySlot s b v).1.mbx = s.mbx ∧ (trySlot s b v).1.io = s.io ∧
    (trySlot s b v).1.pins = s.pins ∧ (trySlot s b v).1.aux = s.aux ∧ (trySlot s b v).1.clk = s.clk ∧ (trySlot s b
    v).1.pwr = s.pwr ∧ (trySlot s b v).1.boot = s.boot ∧ (trySlot s b v).1.thm = s.thm ∧ (trySlot s b v).1.ddr = s.ddr
    ∧ (trySlot s b v).1.mram = s.mram ∧ (trySlot s b v).1.flash = s.flash ∧ (trySlot s b v).1.flt = s.flt ∧ (trySlot s
    b v).1.evt = s.evt := by
  unfold trySlot
  split <;> simp
def trySlotRegs : List Field := [SYS.BOOT.A_FAIL, SYS.BOOT.B_FAIL, SYS.BOOT.REASON]
@[simp] theorem trySlot_word {key : Nat} (hk : Outside trySlotRegs key) (s : State) (b : Bool) (v : SlotVerdict)  :
    wordAt (trySlot s b v).1.regs key = wordAt s.regs key := by
  simp only [trySlotRegs, outside_cons, outside_nil, and_true] at hk
  unfold trySlot slotFail
  cases b <;> (repeat' split) <;> simp_all
@[simp] theorem trySlots_keep (s : State) (b : Bool) (va vb : SlotVerdict) : (trySlots s b va vb).1.pending =
    s.pending ∧ (trySlots s b va vb).1.act = s.act ∧ (trySlots s b va vb).1.lt = s.lt ∧ (trySlots s b va vb).1.synced
    = s.synced ∧ (trySlots s b va vb).1.free = s.free ∧ (trySlots s b va vb).1.dram = s.dram ∧ (trySlots s b va
    vb).1.scan = s.scan ∧ (trySlots s b va vb).1.pix = s.pix ∧ (trySlots s b va vb).1.gal = s.gal ∧ (trySlots s b va
    vb).1.eng = s.eng ∧ (trySlots s b va vb).1.stats = s.stats ∧ (trySlots s b va vb).1.shd = s.shd ∧ (trySlots s b va
    vb).1.guard = s.guard ∧ (trySlots s b va vb).1.diag = s.diag ∧ (trySlots s b va vb).1.cal = s.cal ∧ (trySlots s b
    va vb).1.net = s.net ∧ (trySlots s b va vb).1.mbx = s.mbx ∧ (trySlots s b va vb).1.io = s.io ∧ (trySlots s b va
    vb).1.pins = s.pins ∧ (trySlots s b va vb).1.aux = s.aux ∧ (trySlots s b va vb).1.clk = s.clk ∧ (trySlots s b va
    vb).1.pwr = s.pwr ∧ (trySlots s b va vb).1.boot = s.boot ∧ (trySlots s b va vb).1.thm = s.thm ∧ (trySlots s b va
    vb).1.ddr = s.ddr ∧ (trySlots s b va vb).1.mram = s.mram ∧ (trySlots s b va vb).1.flash = s.flash ∧ (trySlots s b
    va vb).1.flt = s.flt ∧ (trySlots s b va vb).1.evt = s.evt := by
  unfold trySlots
  (try simp) <;> (repeat' apply And.intro) <;> (repeat' split) <;> (try simp)
def trySlotsRegs : List Field := trySlotRegs
@[simp] theorem trySlots_word {key : Nat} (hk : Outside trySlotsRegs key) (s : State) (b : Bool) (va vb : SlotVerdict)
     : wordAt (trySlots s b va vb).1.regs key = wordAt s.regs key := by
  simp only [trySlotsRegs, outside_append, outside_cons, outside_nil, and_true] at hk
  unfold trySlots
  simp only []; (repeat' split) <;> (try simp [hk])
@[simp] theorem startJorosh_keep (s : State) (pref : Bool) (x : Bool × Nat) : (startJorosh s pref x).pending =
    s.pending ∧ (startJorosh s pref x).act = s.act ∧ (startJorosh s pref x).lt = s.lt ∧ (startJorosh s pref x).synced
    = s.synced ∧ (startJorosh s pref x).free = s.free ∧ (startJorosh s pref x).dram = s.dram ∧ (startJorosh s pref
    x).scan = s.scan ∧ (startJorosh s pref x).pix = s.pix ∧ (startJorosh s pref x).gal = s.gal ∧ (startJorosh s pref
    x).eng = s.eng ∧ (startJorosh s pref x).stats = s.stats ∧ (startJorosh s pref x).shd = s.shd ∧ (startJorosh s pref
    x).guard = s.guard ∧ (startJorosh s pref x).diag = s.diag ∧ (startJorosh s pref x).cal = s.cal ∧ (startJorosh s
    pref x).net = s.net ∧ (startJorosh s pref x).mbx = s.mbx ∧ (startJorosh s pref x).io = s.io ∧ (startJorosh s pref
    x).pins = s.pins ∧ (startJorosh s pref x).aux = s.aux ∧ (startJorosh s pref x).clk = s.clk ∧ (startJorosh s pref
    x).pwr = s.pwr ∧ (startJorosh s pref x).thm = s.thm ∧ (startJorosh s pref x).ddr = s.ddr ∧ (startJorosh s pref
    x).mram = s.mram ∧ (startJorosh s pref x).flash = s.flash ∧ (startJorosh s pref x).flt = s.flt ∧ (startJorosh s
    pref x).evt = s.evt := by
  unfold startJorosh
  simp
def startJoroshRegs : List Field := [SYS.BOOT.PREFERRED, SYS.BOOT.SLOT]
@[simp] theorem startJorosh_word {key : Nat} (hk : Outside startJoroshRegs key) (s : State) (pref : Bool) (x : Bool ×
    Nat)  : wordAt (startJorosh s pref x).regs key = wordAt s.regs key := by
  simp only [startJoroshRegs, outside_append, outside_cons, outside_nil, and_true] at hk
  unfold startJorosh
  simp [hk]
@[simp] theorem bootHalt_keep (s : State) : (bootHalt s).pending = s.pending ∧ (bootHalt s).act = s.act ∧ (bootHalt
    s).lt = s.lt ∧ (bootHalt s).synced = s.synced ∧ (bootHalt s).free = s.free ∧ (bootHalt s).dram = s.dram ∧
    (bootHalt s).pix = s.pix ∧ (bootHalt s).gal = s.gal ∧ (bootHalt s).eng = s.eng ∧ (bootHalt s).stats = s.stats ∧
    (bootHalt s).shd = s.shd ∧ (bootHalt s).guard = s.guard ∧ (bootHalt s).diag = s.diag ∧ (bootHalt s).cal = s.cal ∧
    (bootHalt s).net = s.net ∧ (bootHalt s).mbx = s.mbx ∧ (bootHalt s).io = s.io ∧ (bootHalt s).pins = s.pins ∧
    (bootHalt s).aux = s.aux ∧ (bootHalt s).clk = s.clk ∧ (bootHalt s).pwr = s.pwr ∧ (bootHalt s).thm = s.thm ∧
    (bootHalt s).ddr = s.ddr ∧ (bootHalt s).mram = s.mram ∧ (bootHalt s).flash = s.flash ∧ (bootHalt s).evt = s.evt := by
  unfold bootHalt
  simp
def bootHaltRegs : List Field := raiseCauseRegs ++ [SAFE.FB_CAUSE.FATAL, SYS.BOOT.BOOT_HALT]
@[simp] theorem bootHalt_word {key : Nat} (hk : Outside bootHaltRegs key) (s : State)  : wordAt (bootHalt s).regs key
    = wordAt s.regs key := by
  simp only [bootHaltRegs, outside_append, outside_cons, outside_nil, and_true] at hk
  unfold bootHalt
  simp [hk]
@[simp] theorem bootRom_keep (s : State) (e : BootEnv) : (bootRom s e).pending = s.pending ∧ (bootRom s e).act = s.act
    ∧ (bootRom s e).lt = s.lt ∧ (bootRom s e).synced = s.synced ∧ (bootRom s e).free = s.free ∧ (bootRom s e).dram =
    s.dram ∧ (bootRom s e).pix = s.pix ∧ (bootRom s e).gal = s.gal ∧ (bootRom s e).eng = s.eng ∧ (bootRom s e).stats =
    s.stats ∧ (bootRom s e).shd = s.shd ∧ (bootRom s e).guard = s.guard ∧ (bootRom s e).diag = s.diag ∧ (bootRom s
    e).cal = s.cal ∧ (bootRom s e).net = s.net ∧ (bootRom s e).mbx = s.mbx ∧ (bootRom s e).io = s.io ∧ (bootRom s
    e).pins = s.pins ∧ (bootRom s e).aux = s.aux ∧ (bootRom s e).clk = s.clk ∧ (bootRom s e).pwr = s.pwr ∧ (bootRom s
    e).thm = s.thm ∧ (bootRom s e).ddr = s.ddr ∧ (bootRom s e).mram = s.mram ∧ (bootRom s e).flash = s.flash ∧
    (bootRom s e).evt = s.evt := by
  unfold bootRom
  (try simp) <;> (repeat' apply And.intro) <;> (repeat' split) <;> (try simp)
def bootRomRegs : List Field := bootHaltRegs ++ trySlotsRegs ++ startJoroshRegs ++ [SYS.BOOT.DIR_COPY,
    SYS.BOOT.FLASH_MODE]
@[simp] theorem bootRom_word {key : Nat} (hk : Outside bootRomRegs key) (s : State) (e : BootEnv)  : wordAt (bootRom s
    e).regs key = wordAt s.regs key := by
  simp only [bootRomRegs, outside_append, outside_cons, outside_nil, and_true] at hk
  unfold bootRom
  simp only []; (repeat' split) <;> (try simp [hk])
@[simp] theorem oscLevel_keep (s : State) (pad : Strap) : (oscLevel s pad).pending = s.pending ∧ (oscLevel s pad).act
    = s.act ∧ (oscLevel s pad).lt = s.lt ∧ (oscLevel s pad).synced = s.synced ∧ (oscLevel s pad).free = s.free ∧
    (oscLevel s pad).dram = s.dram ∧ (oscLevel s pad).scan = s.scan ∧ (oscLevel s pad).pix = s.pix ∧ (oscLevel s
    pad).gal = s.gal ∧ (oscLevel s pad).eng = s.eng ∧ (oscLevel s pad).stats = s.stats ∧ (oscLevel s pad).shd = s.shd
    ∧ (oscLevel s pad).guard = s.guard ∧ (oscLevel s pad).diag = s.diag ∧ (oscLevel s pad).cal = s.cal ∧ (oscLevel s
    pad).net = s.net ∧ (oscLevel s pad).mbx = s.mbx ∧ (oscLevel s pad).io = s.io ∧ (oscLevel s pad).pins = s.pins ∧
    (oscLevel s pad).aux = s.aux ∧ (oscLevel s pad).clk = s.clk ∧ (oscLevel s pad).pwr = s.pwr ∧ (oscLevel s pad).boot
    = s.boot ∧ (oscLevel s pad).thm = s.thm ∧ (oscLevel s pad).ddr = s.ddr ∧ (oscLevel s pad).mram = s.mram ∧
    (oscLevel s pad).flash = s.flash ∧ (oscLevel s pad).flt = s.flt ∧ (oscLevel s pad).evt = s.evt := by
  unfold oscLevel
  simp
def oscLevelRegs : List Field := [CLK.STATUS.OSCDLY, CLK.STATUS.OSCDLY_OTP]
@[simp] theorem oscLevel_word {key : Nat} (hk : Outside oscLevelRegs key) (s : State) (pad : Strap)  : wordAt
    (oscLevel s pad).regs key = wordAt s.regs key := by
  simp only [oscLevelRegs, outside_append, outside_cons, outside_nil, and_true] at hk
  unfold oscLevel
  simp [hk]
@[simp] theorem bootClocks_keep (s : State) (refGood : Bool) : (bootClocks s refGood).pending = s.pending ∧
    (bootClocks s refGood).act = s.act ∧ (bootClocks s refGood).lt = s.lt ∧ (bootClocks s refGood).synced = s.synced ∧
    (bootClocks s refGood).free = s.free ∧ (bootClocks s refGood).dram = s.dram ∧ (bootClocks s refGood).scan = s.scan
    ∧ (bootClocks s refGood).pix = s.pix ∧ (bootClocks s refGood).gal = s.gal ∧ (bootClocks s refGood).eng = s.eng ∧
    (bootClocks s refGood).stats = s.stats ∧ (bootClocks s refGood).shd = s.shd ∧ (bootClocks s refGood).guard =
    s.guard ∧ (bootClocks s refGood).diag = s.diag ∧ (bootClocks s refGood).cal = s.cal ∧ (bootClocks s refGood).net =
    s.net ∧ (bootClocks s refGood).mbx = s.mbx ∧ (bootClocks s refGood).io = s.io ∧ (bootClocks s refGood).pins =
    s.pins ∧ (bootClocks s refGood).aux = s.aux ∧ (bootClocks s refGood).boot = s.boot ∧ (bootClocks s refGood).thm =
    s.thm ∧ (bootClocks s refGood).ddr = s.ddr ∧ (bootClocks s refGood).mram = s.mram ∧ (bootClocks s refGood).flash =
    s.flash ∧ (bootClocks s refGood).flt = s.flt ∧ (bootClocks s refGood).evt = s.evt := by
  unfold bootClocks
  simp
def bootClocksRegs : List Field := chooseRefRegs ++ lockPllRegs
@[simp] theorem bootClocks_word {key : Nat} (hk : Outside bootClocksRegs key) (s : State) (refGood : Bool)  : wordAt
    (bootClocks s refGood).regs key = wordAt s.regs key := by
  simp only [bootClocksRegs, outside_append, outside_cons, outside_nil, and_true] at hk
  unfold bootClocks
  simp [hk]
@[simp] theorem enableBlock_keep (s : State) (n : Nat) : (enableBlock s n).pending = s.pending ∧ (enableBlock s n).act
    = s.act ∧ (enableBlock s n).lt = s.lt ∧ (enableBlock s n).synced = s.synced ∧ (enableBlock s n).free = s.free ∧
    (enableBlock s n).dram = s.dram ∧ (enableBlock s n).scan = s.scan ∧ (enableBlock s n).pix = s.pix ∧ (enableBlock s
    n).gal = s.gal ∧ (enableBlock s n).eng = s.eng ∧ (enableBlock s n).stats = s.stats ∧ (enableBlock s n).shd = s.shd
    ∧ (enableBlock s n).guard = s.guard ∧ (enableBlock s n).diag = s.diag ∧ (enableBlock s n).cal = s.cal ∧
    (enableBlock s n).mbx = s.mbx ∧ (enableBlock s n).io = s.io ∧ (enableBlock s n).pins = s.pins ∧ (enableBlock s
    n).aux = s.aux ∧ (enableBlock s n).clk = s.clk ∧ (enableBlock s n).pwr = s.pwr ∧ (enableBlock s n).boot = s.boot ∧
    (enableBlock s n).thm = s.thm ∧ (enableBlock s n).ddr = s.ddr ∧ (enableBlock s n).mram = s.mram ∧ (enableBlock s
    n).flash = s.flash ∧ (enableBlock s n).flt = s.flt ∧ (enableBlock s n).evt = s.evt := by
  unfold enableBlock
  (try simp) <;> (repeat' apply And.intro) <;> (repeat' split) <;> (try simp)
def enableBlockRegs : List Field := portEnableRegs ++ allOf 21 CLK.GATE.EN ++ [THM.CTRL.EN, CRC.CTRL.EN, DDRC.CTRL.EN,
    CAN.CTRL.EN, AUX.CTRL.EN, SCAN.CTRL.EN, GAL.CTRL.EN, SHD.CTRL.EN, BE.CTRL.EN, DIAG.CTRL.EN, CAL.CTRL.EN,
    MRAM.CTRL.EN] ++ allOf 2 TX.CTRL.EN
@[simp] theorem enableBlock_word {key : Nat} (hk : Outside enableBlockRegs key) (s : State) (n : Nat)  : wordAt
    (enableBlock s n).regs key = wordAt s.regs key := by
  simp only [enableBlockRegs, outside_append, outside_cons, outside_nil, and_true, outside_CLK_GATE_EN, outside_TX_CTRL_EN] at hk
  obtain ⟨⟨⟨h1, h2⟩, h3⟩, h4⟩ := hk
  have hf (f : Field) (e : blockEn n = some f) : fieldKey f ≠ key := by
    unfold blockEn at e
    split at e <;> cases e <;> simp [h3, h4]
  unfold enableBlock
  (repeat' split) <;> first | (simp [h1, h2, h3, h4]; done) | (next e => simp [h2, hf _ e])
@[simp] theorem dramTry_keep (s : State) (timing : List Byte) (good : Bool) : (dramTry s timing good).pending =
    s.pending ∧ (dramTry s timing good).act = s.act ∧ (dramTry s timing good).lt = s.lt ∧ (dramTry s timing
    good).synced = s.synced ∧ (dramTry s timing good).free = s.free ∧ (dramTry s timing good).dram = s.dram ∧ (dramTry
    s timing good).scan = s.scan ∧ (dramTry s timing good).pix = s.pix ∧ (dramTry s timing good).gal = s.gal ∧
    (dramTry s timing good).eng = s.eng ∧ (dramTry s timing good).stats = s.stats ∧ (dramTry s timing good).shd =
    s.shd ∧ (dramTry s timing good).guard = s.guard ∧ (dramTry s timing good).diag = s.diag ∧ (dramTry s timing
    good).cal = s.cal ∧ (dramTry s timing good).net = s.net ∧ (dramTry s timing good).mbx = s.mbx ∧ (dramTry s timing
    good).io = s.io ∧ (dramTry s timing good).pins = s.pins ∧ (dramTry s timing good).aux = s.aux ∧ (dramTry s timing
    good).clk = s.clk ∧ (dramTry s timing good).pwr = s.pwr ∧ (dramTry s timing good).boot = s.boot ∧ (dramTry s
    timing good).thm = s.thm ∧ (dramTry s timing good).ddr = s.ddr ∧ (dramTry s timing good).mram = s.mram ∧ (dramTry
    s timing good).flash = s.flash ∧ (dramTry s timing good).flt = s.flt ∧ (dramTry s timing good).evt = s.evt := by
  unfold dramTry
  simp
def dramTryRegs : List Field := applyTimingRegs ++ ddrcEnableRegs ++ [DDRC.CTRL.EN, DDRC.STATUS.READY] ++ allOf 21
    CLK.GATE.EN
@[simp] theorem dramTry_word {key : Nat} (hk : Outside dramTryRegs key) (s : State) (timing : List Byte) (good : Bool)
     : wordAt (dramTry s timing good).regs key = wordAt s.regs key := by
  simp only [dramTryRegs, outside_append, outside_cons, outside_nil, and_true, outside_CLK_GATE_EN] at hk
  unfold dramTry
  simp [hk]
@[simp] theorem dramStart_keep (s : State) (e : BootEnv) : (dramStart s e).pending = s.pending ∧ (dramStart s e).act =
    s.act ∧ (dramStart s e).lt = s.lt ∧ (dramStart s e).synced = s.synced ∧ (dramStart s e).free = s.free ∧ (dramStart
    s e).dram = s.dram ∧ (dramStart s e).pix = s.pix ∧ (dramStart s e).gal = s.gal ∧ (dramStart s e).eng = s.eng ∧
    (dramStart s e).stats = s.stats ∧ (dramStart s e).shd = s.shd ∧ (dramStart s e).guard = s.guard ∧ (dramStart s
    e).diag = s.diag ∧ (dramStart s e).cal = s.cal ∧ (dramStart s e).net = s.net ∧ (dramStart s e).mbx = s.mbx ∧
    (dramStart s e).io = s.io ∧ (dramStart s e).pins = s.pins ∧ (dramStart s e).aux = s.aux ∧ (dramStart s e).clk =
    s.clk ∧ (dramStart s e).pwr = s.pwr ∧ (dramStart s e).boot = s.boot ∧ (dramStart s e).thm = s.thm ∧ (dramStart s
    e).ddr = s.ddr ∧ (dramStart s e).mram = s.mram ∧ (dramStart s e).flash = s.flash ∧ (dramStart s e).evt = s.evt := by
  unfold dramStart
  simp
def dramStartRegs : List Field := dramTryRegs ++ raiseFaultRegs ++ [DDRC.STATUS.DRAM_FAIL, DDRC.STATUS.READY]
@[simp] theorem dramStart_word {key : Nat} (hk : Outside dramStartRegs key) (s : State) (e : BootEnv)  : wordAt
    (dramStart s e).regs key = wordAt s.regs key := by
  simp only [dramStartRegs, outside_append, outside_cons, outside_nil, and_true] at hk
  unfold dramStart
  simp [hk]
@[simp] theorem adoptMap_keep (s : State) : (adoptMap s).pending = s.pending ∧ (adoptMap s).regs = s.regs ∧ (adoptMap
    s).act = s.act ∧ (adoptMap s).lt = s.lt ∧ (adoptMap s).synced = s.synced ∧ (adoptMap s).free = s.free ∧ (adoptMap
    s).dram = s.dram ∧ (adoptMap s).pix = s.pix ∧ (adoptMap s).gal = s.gal ∧ (adoptMap s).eng = s.eng ∧ (adoptMap
    s).stats = s.stats ∧ (adoptMap s).shd = s.shd ∧ (adoptMap s).guard = s.guard ∧ (adoptMap s).cal = s.cal ∧
    (adoptMap s).net = s.net ∧ (adoptMap s).mbx = s.mbx ∧ (adoptMap s).io = s.io ∧ (adoptMap s).pins = s.pins ∧
    (adoptMap s).aux = s.aux ∧ (adoptMap s).clk = s.clk ∧ (adoptMap s).pwr = s.pwr ∧ (adoptMap s).boot = s.boot ∧
    (adoptMap s).thm = s.thm ∧ (adoptMap s).ddr = s.ddr ∧ (adoptMap s).mram = s.mram ∧ (adoptMap s).flash = s.flash ∧
    (adoptMap s).flt = s.flt ∧ (adoptMap s).evt = s.evt := by
  unfold adoptMap
  simp
@[simp] theorem restoreArray_keep (s : State) : (restoreArray s).pending = s.pending ∧ (restoreArray s).act = s.act ∧
    (restoreArray s).lt = s.lt ∧ (restoreArray s).synced = s.synced ∧ (restoreArray s).free = s.free ∧ (restoreArray
    s).dram = s.dram ∧ (restoreArray s).gal = s.gal ∧ (restoreArray s).eng = s.eng ∧ (restoreArray s).stats = s.stats
    ∧ (restoreArray s).shd = s.shd ∧ (restoreArray s).guard = s.guard ∧ (restoreArray s).net = s.net ∧ (restoreArray
    s).mbx = s.mbx ∧ (restoreArray s).pins = s.pins ∧ (restoreArray s).aux = s.aux ∧ (restoreArray s).clk = s.clk ∧
    (restoreArray s).pwr = s.pwr ∧ (restoreArray s).boot = s.boot ∧ (restoreArray s).thm = s.thm ∧ (restoreArray
    s).ddr = s.ddr ∧ (restoreArray s).mram = s.mram ∧ (restoreArray s).flash = s.flash ∧ (restoreArray s).evt = s.evt
    := by
  unfold restoreArray
  simp
def restoreArrayRegs : List Field := restoreMasksRegs
@[simp] theorem restoreArray_word {key : Nat} (hk : Outside restoreArrayRegs key) (s : State)  : wordAt (restoreArray
    s).regs key = wordAt s.regs key := by
  simp only [restoreArrayRegs, outside_append, outside_cons, outside_nil, and_true] at hk
  unfold restoreArray
  simp [hk]
@[simp] theorem startVcore_keep (s : State) (margins : List Nat) : (startVcore s margins).pending = s.pending ∧
    (startVcore s margins).act = s.act ∧ (startVcore s margins).lt = s.lt ∧ (startVcore s margins).synced = s.synced ∧
    (startVcore s margins).free = s.free ∧ (startVcore s margins).dram = s.dram ∧ (startVcore s margins).pix = s.pix ∧
    (startVcore s margins).gal = s.gal ∧ (startVcore s margins).eng = s.eng ∧ (startVcore s margins).stats = s.stats ∧
    (startVcore s margins).shd = s.shd ∧ (startVcore s margins).guard = s.guard ∧ (startVcore s margins).diag = s.diag
    ∧ (startVcore s margins).net = s.net ∧ (startVcore s margins).mbx = s.mbx ∧ (startVcore s margins).io = s.io ∧
    (startVcore s margins).pins = s.pins ∧ (startVcore s margins).aux = s.aux ∧ (startVcore s margins).clk = s.clk ∧
    (startVcore s margins).pwr = s.pwr ∧ (startVcore s margins).boot = s.boot ∧ (startVcore s margins).thm = s.thm ∧
    (startVcore s margins).ddr = s.ddr ∧ (startVcore s margins).mram = s.mram ∧ (startVcore s margins).flash = s.flash
    ∧ (startVcore s margins).evt = s.evt := by
  unfold startVcore
  simp
def startVcoreRegs : List Field := delayReadingRegs ++ [CAL.VM_STATUS.VC_SET]
@[simp] theorem startVcore_word {key : Nat} (hk : Outside startVcoreRegs key) (s : State) (margins : List Nat)  :
    wordAt (startVcore s margins).regs key = wordAt s.regs key := by
  simp only [startVcoreRegs, outside_append, outside_cons, outside_nil, and_true] at hk
  unfold startVcore
  simp [hk]
@[simp] theorem bootCalibrate_keep (s : State) (e : BootEnv) : (bootCalibrate s e).pending = s.pending ∧
    (bootCalibrate s e).act = s.act ∧ (bootCalibrate s e).lt = s.lt ∧ (bootCalibrate s e).synced = s.synced ∧
    (bootCalibrate s e).free = s.free ∧ (bootCalibrate s e).dram = s.dram ∧ (bootCalibrate s e).gal = s.gal ∧
    (bootCalibrate s e).eng = s.eng ∧ (bootCalibrate s e).stats = s.stats ∧ (bootCalibrate s e).shd = s.shd ∧
    (bootCalibrate s e).guard = s.guard ∧ (bootCalibrate s e).net = s.net ∧ (bootCalibrate s e).mbx = s.mbx ∧
    (bootCalibrate s e).io = s.io ∧ (bootCalibrate s e).pins = s.pins ∧ (bootCalibrate s e).aux = s.aux ∧
    (bootCalibrate s e).clk = s.clk ∧ (bootCalibrate s e).pwr = s.pwr ∧ (bootCalibrate s e).boot = s.boot ∧
    (bootCalibrate s e).thm = s.thm ∧ (bootCalibrate s e).ddr = s.ddr ∧ (bootCalibrate s e).mram = s.mram ∧
    (bootCalibrate s e).flash = s.flash ∧ (bootCalibrate s e).evt = s.evt := by
  unfold bootCalibrate
  simp
def bootCalibrateRegs : List Field := calibrateOrAbortRegs
@[simp] theorem bootCalibrate_word {key : Nat} (hk : Outside bootCalibrateRegs key) (s : State) (e : BootEnv)  :
    wordAt (bootCalibrate s e).regs key = wordAt s.regs key := by
  simp only [bootCalibrateRegs, outside_append, outside_cons, outside_nil, and_true] at hk
  unfold bootCalibrate
  simp [hk]
@[simp] theorem scanM7_keep (s : State) : (scanM7 s).pending = s.pending ∧ (scanM7 s).act = s.act ∧ (scanM7 s).lt =
    s.lt ∧ (scanM7 s).synced = s.synced ∧ (scanM7 s).free = s.free ∧ (scanM7 s).dram = s.dram ∧ (scanM7 s).pix = s.pix
    ∧ (scanM7 s).gal = s.gal ∧ (scanM7 s).eng = s.eng ∧ (scanM7 s).stats = s.stats ∧ (scanM7 s).shd = s.shd ∧ (scanM7
    s).guard = s.guard ∧ (scanM7 s).diag = s.diag ∧ (scanM7 s).cal = s.cal ∧ (scanM7 s).net = s.net ∧ (scanM7 s).mbx =
    s.mbx ∧ (scanM7 s).io = s.io ∧ (scanM7 s).pins = s.pins ∧ (scanM7 s).aux = s.aux ∧ (scanM7 s).clk = s.clk ∧
    (scanM7 s).pwr = s.pwr ∧ (scanM7 s).boot = s.boot ∧ (scanM7 s).thm = s.thm ∧ (scanM7 s).ddr = s.ddr ∧ (scanM7
    s).mram = s.mram ∧ (scanM7 s).flash = s.flash ∧ (scanM7 s).evt = s.evt := by
  unfold scanM7
  simp
def scanM7Regs : List Field := scanEnableRegs ++ [SCAN.MODE.MODE] ++ allOf 21 CLK.GATE.EN
@[simp] theorem scanM7_word {key : Nat} (hk : Outside scanM7Regs key) (s : State)  : wordAt (scanM7 s).regs key =
    wordAt s.regs key := by
  simp only [scanM7Regs, outside_append, outside_cons, outside_nil, and_true, outside_CLK_GATE_EN] at hk
  unfold scanM7
  simp [hk]
@[simp] theorem bringUp_keep (s : State) : (bringUp s).pending = s.pending ∧ (bringUp s).act = s.act ∧ (bringUp s).lt
    = s.lt ∧ (bringUp s).synced = s.synced ∧ (bringUp s).free = s.free ∧ (bringUp s).dram = s.dram ∧ (bringUp s).pix =
    s.pix ∧ (bringUp s).gal = s.gal ∧ (bringUp s).eng = s.eng ∧ (bringUp s).stats = s.stats ∧ (bringUp s).shd = s.shd
    ∧ (bringUp s).guard = s.guard ∧ (bringUp s).diag = s.diag ∧ (bringUp s).cal = s.cal ∧ (bringUp s).mbx = s.mbx ∧
    (bringUp s).io = s.io ∧ (bringUp s).pins = s.pins ∧ (bringUp s).aux = s.aux ∧ (bringUp s).clk = s.clk ∧ (bringUp
    s).pwr = s.pwr ∧ (bringUp s).boot = s.boot ∧ (bringUp s).thm = s.thm ∧ (bringUp s).ddr = s.ddr ∧ (bringUp s).mram
    = s.mram ∧ (bringUp s).flash = s.flash ∧ (bringUp s).evt = s.evt := by
  unfold bringUp
  simp
def bringUpRegs : List Field := enableBlockRegs ++ scanM7Regs
@[simp] theorem bringUp_word {key : Nat} (hk : Outside bringUpRegs key) (s : State)  : wordAt (bringUp s).regs key =
    wordAt s.regs key := by
  simp only [bringUpRegs, outside_append, outside_cons, outside_nil, and_true] at hk
  unfold bringUp
  simp [hk]
@[simp] theorem wakeDone_keep (s : State) (from_ : Nat) : (wakeDone s from_).pending = s.pending ∧ (wakeDone s
    from_).act = s.act ∧ (wakeDone s from_).lt = s.lt ∧ (wakeDone s from_).synced = s.synced ∧ (wakeDone s from_).free
    = s.free ∧ (wakeDone s from_).dram = s.dram ∧ (wakeDone s from_).pix = s.pix ∧ (wakeDone s from_).gal = s.gal ∧
    (wakeDone s from_).eng = s.eng ∧ (wakeDone s from_).stats = s.stats ∧ (wakeDone s from_).shd = s.shd ∧ (wakeDone s
    from_).guard = s.guard ∧ (wakeDone s from_).diag = s.diag ∧ (wakeDone s from_).cal = s.cal ∧ (wakeDone s
    from_).net = s.net ∧ (wakeDone s from_).mbx = s.mbx ∧ (wakeDone s from_).io = s.io ∧ (wakeDone s from_).pins =
    s.pins ∧ (wakeDone s from_).aux = s.aux ∧ (wakeDone s from_).clk = s.clk ∧ (wakeDone s from_).boot = s.boot ∧
    (wakeDone s from_).thm = s.thm ∧ (wakeDone s from_).ddr = s.ddr ∧ (wakeDone s from_).mram = s.mram ∧ (wakeDone s
    from_).flash = s.flash ∧ (wakeDone s from_).evt = s.evt := by
  unfold wakeDone
  simp
def wakeDoneRegs : List Field := raiseFaultRegs ++ [PWR.STATE.STATE]
@[simp] theorem wakeDone_word {key : Nat} (hk : Outside wakeDoneRegs key) (s : State) (from_ : Nat)  : wordAt
    (wakeDone s from_).regs key = wordAt s.regs key := by
  simp only [wakeDoneRegs, outside_append, outside_cons, outside_nil, and_true] at hk
  unfold wakeDone
  simp [hk]
@[simp] theorem bootReports_keep (s : State) : (bootReports s).pending = s.pending ∧ (bootReports s).act = s.act ∧
    (bootReports s).lt = s.lt ∧ (bootReports s).synced = s.synced ∧ (bootReports s).dram = s.dram ∧ (bootReports
    s).pix = s.pix ∧ (bootReports s).gal = s.gal ∧ (bootReports s).eng = s.eng ∧ (bootReports s).stats = s.stats ∧
    (bootReports s).shd = s.shd ∧ (bootReports s).guard = s.guard ∧ (bootReports s).diag = s.diag ∧ (bootReports
    s).cal = s.cal ∧ (bootReports s).net = s.net ∧ (bootReports s).mbx = s.mbx ∧ (bootReports s).io = s.io ∧
    (bootReports s).pins = s.pins ∧ (bootReports s).aux = s.aux ∧ (bootReports s).clk = s.clk ∧ (bootReports s).pwr =
    s.pwr ∧ (bootReports s).thm = s.thm ∧ (bootReports s).ddr = s.ddr ∧ (bootReports s).mram = s.mram ∧ (bootReports
    s).flash = s.flash ∧ (bootReports s).evt = s.evt := by
  unfold bootReports
  simp
def bootReportsRegs : List Field := raiseFaultRegs
@[simp] theorem bootReports_word {key : Nat} (hk : Outside bootReportsRegs key) (s : State)  : wordAt (bootReports
    s).regs key = wordAt s.regs key := by
  simp only [bootReportsRegs, outside_append, outside_cons, outside_nil, and_true] at hk
  unfold bootReports
  simp [hk]
@[simp] theorem bootDone_keep (s : State) : (bootDone s).pending = s.pending ∧ (bootDone s).act = s.act ∧ (bootDone
    s).lt = s.lt ∧ (bootDone s).synced = s.synced ∧ (bootDone s).dram = s.dram ∧ (bootDone s).pix = s.pix ∧ (bootDone
    s).gal = s.gal ∧ (bootDone s).eng = s.eng ∧ (bootDone s).stats = s.stats ∧ (bootDone s).shd = s.shd ∧ (bootDone
    s).guard = s.guard ∧ (bootDone s).diag = s.diag ∧ (bootDone s).cal = s.cal ∧ (bootDone s).net = s.net ∧ (bootDone
    s).mbx = s.mbx ∧ (bootDone s).io = s.io ∧ (bootDone s).pins = s.pins ∧ (bootDone s).aux = s.aux ∧ (bootDone s).clk
    = s.clk ∧ (bootDone s).pwr = s.pwr ∧ (bootDone s).thm = s.thm ∧ (bootDone s).ddr = s.ddr ∧ (bootDone s).mram =
    s.mram ∧ (bootDone s).flash = s.flash ∧ (bootDone s).evt = s.evt := by
  unfold bootDone
  simp
def bootDoneRegs : List Field := bootReportsRegs ++ [FLT.STATUS.RESTARTING]
@[simp] theorem bootDone_word {key : Nat} (hk : Outside bootDoneRegs key) (s : State)  : wordAt (bootDone s).regs key
    = wordAt s.regs key := by
  simp only [bootDoneRegs, outside_append, outside_cons, outside_nil, and_true] at hk
  unfold bootDone
  simp [hk]
@[simp] theorem bootData_keep (s : State) (e : BootEnv) : (bootData s e).pending = s.pending ∧ (bootData s e).lt =
    s.lt ∧ (bootData s e).synced = s.synced ∧ (bootData s e).free = s.free ∧ (bootData s e).dram = s.dram ∧ (bootData
    s e).gal = s.gal ∧ (bootData s e).eng = s.eng ∧ (bootData s e).stats = s.stats ∧ (bootData s e).shd = s.shd ∧
    (bootData s e).guard = s.guard ∧ (bootData s e).mbx = s.mbx ∧ (bootData s e).pins = s.pins ∧ (bootData s e).aux =
    s.aux ∧ (bootData s e).clk = s.clk ∧ (bootData s e).pwr = s.pwr ∧ (bootData s e).boot = s.boot ∧ (bootData s
    e).thm = s.thm ∧ (bootData s e).ddr = s.ddr ∧ (bootData s e).mram = s.mram ∧ (bootData s e).flash = s.flash ∧
    (bootData s e).evt = s.evt := by
  unfold bootData
  simp
def bootDataRegs : List Field := restoreArrayRegs ++ restoreDoseRegs ++ dramStartRegs ++ enableBlockRegs ++
    applyBoardRegs ++ judgeRecordsRegs
@[simp] theorem bootData_word {key : Nat} (hk : Outside bootDataRegs key) (s : State) (e : BootEnv)  : wordAt
    (bootData s e).regs key = wordAt s.regs key := by
  simp only [bootDataRegs, outside_append, outside_cons, outside_nil, and_true] at hk
  unfold bootData
  simp [hk]
@[simp] theorem bootModel_keep (s : State) (e : BootEnv) : (bootModel s e).pending = s.pending ∧ (bootModel s e).act =
    s.act ∧ (bootModel s e).lt = s.lt ∧ (bootModel s e).synced = s.synced ∧ (bootModel s e).free = s.free ∧ (bootModel
    s e).dram = s.dram ∧ (bootModel s e).gal = s.gal ∧ (bootModel s e).stats = s.stats ∧ (bootModel s e).shd = s.shd ∧
    (bootModel s e).guard = s.guard ∧ (bootModel s e).net = s.net ∧ (bootModel s e).mbx = s.mbx ∧ (bootModel s e).io =
    s.io ∧ (bootModel s e).pins = s.pins ∧ (bootModel s e).aux = s.aux ∧ (bootModel s e).clk = s.clk ∧ (bootModel s
    e).pwr = s.pwr ∧ (bootModel s e).boot = s.boot ∧ (bootModel s e).thm = s.thm ∧ (bootModel s e).ddr = s.ddr ∧
    (bootModel s e).mram = s.mram ∧ (bootModel s e).flash = s.flash ∧ (bootModel s e).evt = s.evt := by
  unfold bootModel
  simp
def bootModelRegs : List Field := startVcoreRegs ++ bootCalibrateRegs ++ applyLensRegs ++ [SCAN.IFB_STATUS.IFB_NA]
@[simp] theorem bootModel_word {key : Nat} (hk : Outside bootModelRegs key) (s : State) (e : BootEnv)  : wordAt
    (bootModel s e).regs key = wordAt s.regs key := by
  simp only [bootModelRegs, outside_append, outside_cons, outside_nil, and_true] at hk
  unfold bootModel
  simp [hk]
@[simp] theorem wakeEnds_keep (s : State) (wake : Bool) : (wakeEnds s wake).pending = s.pending ∧ (wakeEnds s
    wake).act = s.act ∧ (wakeEnds s wake).lt = s.lt ∧ (wakeEnds s wake).synced = s.synced ∧ (wakeEnds s wake).free =
    s.free ∧ (wakeEnds s wake).dram = s.dram ∧ (wakeEnds s wake).pix = s.pix ∧ (wakeEnds s wake).gal = s.gal ∧
    (wakeEnds s wake).eng = s.eng ∧ (wakeEnds s wake).stats = s.stats ∧ (wakeEnds s wake).shd = s.shd ∧ (wakeEnds s
    wake).guard = s.guard ∧ (wakeEnds s wake).diag = s.diag ∧ (wakeEnds s wake).cal = s.cal ∧ (wakeEnds s wake).net =
    s.net ∧ (wakeEnds s wake).mbx = s.mbx ∧ (wakeEnds s wake).io = s.io ∧ (wakeEnds s wake).pins = s.pins ∧ (wakeEnds
    s wake).aux = s.aux ∧ (wakeEnds s wake).clk = s.clk ∧ (wakeEnds s wake).boot = s.boot ∧ (wakeEnds s wake).thm =
    s.thm ∧ (wakeEnds s wake).ddr = s.ddr ∧ (wakeEnds s wake).mram = s.mram ∧ (wakeEnds s wake).flash = s.flash ∧
    (wakeEnds s wake).evt = s.evt := by
  unfold wakeEnds
  simp
def wakeEndsRegs : List Field := wakeDoneRegs
@[simp] theorem wakeEnds_word {key : Nat} (hk : Outside wakeEndsRegs key) (s : State) (wake : Bool)  : wordAt
    (wakeEnds s wake).regs key = wordAt s.regs key := by
  simp only [wakeEndsRegs, outside_append, outside_cons, outside_nil, and_true] at hk
  unfold wakeEnds
  simp [hk]
@[simp] theorem joroshBoot_keep (s : State) (e : BootEnv) : (joroshBoot s e).pending = s.pending ∧ (joroshBoot s e).lt
    = s.lt ∧ (joroshBoot s e).synced = s.synced ∧ (joroshBoot s e).dram = s.dram ∧ (joroshBoot s e).gal = s.gal ∧
    (joroshBoot s e).stats = s.stats ∧ (joroshBoot s e).shd = s.shd ∧ (joroshBoot s e).guard = s.guard ∧ (joroshBoot s
    e).mbx = s.mbx ∧ (joroshBoot s e).pins = s.pins ∧ (joroshBoot s e).aux = s.aux ∧ (joroshBoot s e).clk = s.clk ∧
    (joroshBoot s e).thm = s.thm ∧ (joroshBoot s e).ddr = s.ddr ∧ (joroshBoot s e).mram = s.mram ∧ (joroshBoot s
    e).flash = s.flash ∧ (joroshBoot s e).evt = s.evt := by
  unfold joroshBoot
  simp
def joroshBootRegs : List Field := wakeEndsRegs ++ bootDoneRegs ++ bringUpRegs ++ bootModelRegs ++ bootDataRegs
@[simp] theorem joroshBoot_word {key : Nat} (hk : Outside joroshBootRegs key) (s : State) (e : BootEnv)  : wordAt
    (joroshBoot s e).regs key = wordAt s.regs key := by
  simp only [joroshBootRegs, outside_append, outside_cons, outside_nil, and_true] at hk
  unfold joroshBoot
  simp [hk]
@[simp] theorem coldBoot_keep (s : State) (e : BootEnv) : (coldBoot s e).pending = s.pending ∧ (coldBoot s e).lt =
    s.lt ∧ (coldBoot s e).synced = s.synced ∧ (coldBoot s e).dram = s.dram ∧ (coldBoot s e).gal = s.gal ∧ (coldBoot s
    e).stats = s.stats ∧ (coldBoot s e).shd = s.shd ∧ (coldBoot s e).mbx = s.mbx ∧ (coldBoot s e).pins = s.pins ∧
    (coldBoot s e).aux = s.aux ∧ (coldBoot s e).thm = s.thm ∧ (coldBoot s e).ddr = s.ddr ∧ (coldBoot s e).mram =
    s.mram ∧ (coldBoot s e).flash = s.flash ∧ (coldBoot s e).evt = s.evt := by
  unfold coldBoot
  simp
def coldBootRegs : List Field := bootClocksRegs ++ oscLevelRegs ++ sealAtResetRegs ++ bootRomRegs ++ joroshBootRegs
@[simp] theorem coldBoot_word {key : Nat} (hk : Outside coldBootRegs key) (s : State) (e : BootEnv)  : wordAt
    (coldBoot s e).regs key = wordAt s.regs key := by
  simp only [coldBootRegs, outside_append, outside_cons, outside_nil, and_true] at hk
  unfold coldBoot
  simp [hk]
@[simp] theorem pwrSleep_keep (mb : Nat) (srAck : Bool) (s : State) (p : List Byte) : (pwrSleep mb srAck s p).pending
    = s.pending ∧ (pwrSleep mb srAck s p).act = s.act ∧ (pwrSleep mb srAck s p).lt = s.lt ∧ (pwrSleep mb srAck s
    p).synced = s.synced ∧ (pwrSleep mb srAck s p).free = s.free ∧ (pwrSleep mb srAck s p).dram = s.dram ∧ (pwrSleep
    mb srAck s p).scan = s.scan ∧ (pwrSleep mb srAck s p).pix = s.pix ∧ (pwrSleep mb srAck s p).gal = s.gal ∧
    (pwrSleep mb srAck s p).eng = s.eng ∧ (pwrSleep mb srAck s p).stats = s.stats ∧ (pwrSleep mb srAck s p).shd =
    s.shd ∧ (pwrSleep mb srAck s p).guard = s.guard ∧ (pwrSleep mb srAck s p).diag = s.diag ∧ (pwrSleep mb srAck s
    p).cal = s.cal ∧ (pwrSleep mb srAck s p).io = s.io ∧ (pwrSleep mb srAck s p).pins = s.pins ∧ (pwrSleep mb srAck s
    p).aux = s.aux ∧ (pwrSleep mb srAck s p).clk = s.clk ∧ (pwrSleep mb srAck s p).boot = s.boot ∧ (pwrSleep mb srAck
    s p).thm = s.thm ∧ (pwrSleep mb srAck s p).ddr = s.ddr ∧ (pwrSleep mb srAck s p).mram = s.mram ∧ (pwrSleep mb
    srAck s p).flash = s.flash ∧ (pwrSleep mb srAck s p).evt = s.evt := by
  unfold pwrSleep
  (try simp) <;> (repeat' apply And.intro) <;> (repeat' split) <;> (try simp)
def pwrSleepRegs : List Field := [PWR.STATE.STATE]
@[simp] theorem pwrSleep_word {key : Nat} (hk : Outside pwrSleepRegs key) (mb : Nat) (srAck : Bool) (s : State) (p :
    List Byte)  : wordAt (pwrSleep mb srAck s p).regs key = wordAt s.regs key := by
  simp only [pwrSleepRegs, outside_append, outside_cons, outside_nil, and_true] at hk
  unfold pwrSleep
  simp only []; (repeat' split) <;> (try simp [hk])
@[simp] theorem stopScan_keep (s : State) : (stopScan s).pending = s.pending ∧ (stopScan s).act = s.act ∧ (stopScan
    s).lt = s.lt ∧ (stopScan s).synced = s.synced ∧ (stopScan s).free = s.free ∧ (stopScan s).dram = s.dram ∧
    (stopScan s).gal = s.gal ∧ (stopScan s).eng = s.eng ∧ (stopScan s).stats = s.stats ∧ (stopScan s).guard = s.guard
    ∧ (stopScan s).diag = s.diag ∧ (stopScan s).cal = s.cal ∧ (stopScan s).net = s.net ∧ (stopScan s).mbx = s.mbx ∧
    (stopScan s).io = s.io ∧ (stopScan s).pins = s.pins ∧ (stopScan s).aux = s.aux ∧ (stopScan s).clk = s.clk ∧
    (stopScan s).pwr = s.pwr ∧ (stopScan s).boot = s.boot ∧ (stopScan s).thm = s.thm ∧ (stopScan s).ddr = s.ddr ∧
    (stopScan s).mram = s.mram ∧ (stopScan s).flash = s.flash ∧ (stopScan s).evt = s.evt := by
  unfold stopScan
  simp
def stopScanRegs : List Field := scanDisableRegs
@[simp] theorem stopScan_word {key : Nat} (hk : Outside stopScanRegs key) (s : State)  : wordAt (stopScan s).regs key
    = wordAt s.regs key := by
  simp only [stopScanRegs, outside_append, outside_cons, outside_nil, and_true] at hk
  unfold stopScan
  simp [hk]
@[simp] theorem refuseEntry_keep (s : State) (block : Nat) : (refuseEntry s block).pending = s.pending ∧ (refuseEntry
    s block).act = s.act ∧ (refuseEntry s block).lt = s.lt ∧ (refuseEntry s block).synced = s.synced ∧ (refuseEntry s
    block).free = s.free ∧ (refuseEntry s block).dram = s.dram ∧ (refuseEntry s block).gal = s.gal ∧ (refuseEntry s
    block).eng = s.eng ∧ (refuseEntry s block).stats = s.stats ∧ (refuseEntry s block).guard = s.guard ∧ (refuseEntry
    s block).diag = s.diag ∧ (refuseEntry s block).cal = s.cal ∧ (refuseEntry s block).net = s.net ∧ (refuseEntry s
    block).mbx = s.mbx ∧ (refuseEntry s block).io = s.io ∧ (refuseEntry s block).pins = s.pins ∧ (refuseEntry s
    block).clk = s.clk ∧ (refuseEntry s block).pwr = s.pwr ∧ (refuseEntry s block).boot = s.boot ∧ (refuseEntry s
    block).thm = s.thm ∧ (refuseEntry s block).ddr = s.ddr ∧ (refuseEntry s block).mram = s.mram ∧ (refuseEntry s
    block).flash = s.flash ∧ (refuseEntry s block).evt = s.evt := by
  unfold refuseEntry
  simp
def refuseEntryRegs : List Field := scanEnableRegs ++ scanDisableRegs ++ [PWR.REFUSE_COUNT.COUNT, PWR.STATE.STATE,
    PWR.STATUS.LAST_REFUSER, PWR.STATUS.REFUSED]
@[simp] theorem refuseEntry_word {key : Nat} (hk : Outside refuseEntryRegs key) (s : State) (block : Nat)  : wordAt
    (refuseEntry s block).regs key = wordAt s.regs key := by
  simp only [refuseEntryRegs, outside_append, outside_cons, outside_nil, and_true] at hk
  unfold refuseEntry
  simp [hk]
@[simp] theorem enterLanding_keep (s : State) : (enterLanding s).pending = s.pending ∧ (enterLanding s).act = s.act ∧
    (enterLanding s).lt = s.lt ∧ (enterLanding s).synced = s.synced ∧ (enterLanding s).free = s.free ∧ (enterLanding
    s).dram = s.dram ∧ (enterLanding s).gal = s.gal ∧ (enterLanding s).eng = s.eng ∧ (enterLanding s).stats = s.stats
    ∧ (enterLanding s).guard = s.guard ∧ (enterLanding s).diag = s.diag ∧ (enterLanding s).cal = s.cal ∧ (enterLanding
    s).net = s.net ∧ (enterLanding s).mbx = s.mbx ∧ (enterLanding s).io = s.io ∧ (enterLanding s).pins = s.pins ∧
    (enterLanding s).aux = s.aux ∧ (enterLanding s).boot = s.boot ∧ (enterLanding s).thm = s.thm ∧ (enterLanding
    s).mram = s.mram ∧ (enterLanding s).flash = s.flash ∧ (enterLanding s).evt = s.evt := by
  unfold enterLanding
  simp
def enterLandingRegs : List Field := stopScanRegs ++ dramSelfRefreshRegs ++ [PWR.STATE.STATE]
@[simp] theorem enterLanding_word {key : Nat} (hk : Outside enterLandingRegs key) (s : State)  : wordAt (enterLanding
    s).regs key = wordAt s.regs key := by
  simp only [enterLandingRegs, outside_append, outside_cons, outside_nil, and_true] at hk
  unfold enterLanding
  simp [hk]
@[simp] theorem finishEntry_keep (s : State) : (finishEntry s).pending = s.pending ∧ (finishEntry s).free = s.free ∧
    (finishEntry s).flash = s.flash := by
  unfold finishEntry
  split <;> simp
@[simp] theorem wakeLanding_keep (s : State) : (wakeLanding s).pending = s.pending ∧ (wakeLanding s).act = s.act ∧
    (wakeLanding s).lt = s.lt ∧ (wakeLanding s).synced = s.synced ∧ (wakeLanding s).free = s.free ∧ (wakeLanding
    s).dram = s.dram ∧ (wakeLanding s).pix = s.pix ∧ (wakeLanding s).gal = s.gal ∧ (wakeLanding s).eng = s.eng ∧
    (wakeLanding s).stats = s.stats ∧ (wakeLanding s).shd = s.shd ∧ (wakeLanding s).guard = s.guard ∧ (wakeLanding
    s).diag = s.diag ∧ (wakeLanding s).cal = s.cal ∧ (wakeLanding s).net = s.net ∧ (wakeLanding s).mbx = s.mbx ∧
    (wakeLanding s).io = s.io ∧ (wakeLanding s).pins = s.pins ∧ (wakeLanding s).aux = s.aux ∧ (wakeLanding s).boot =
    s.boot ∧ (wakeLanding s).thm = s.thm ∧ (wakeLanding s).mram = s.mram ∧ (wakeLanding s).flash = s.flash ∧
    (wakeLanding s).evt = s.evt := by
  unfold wakeLanding
  simp
def wakeLandingRegs : List Field := judgeRecordsRegs ++ dramExitRegs ++ wakeDoneRegs ++ scanEnableRegs
@[simp] theorem wakeLanding_word {key : Nat} (hk : Outside wakeLandingRegs key) (s : State)  : wordAt (wakeLanding
    s).regs key = wordAt s.regs key := by
  simp only [wakeLandingRegs, outside_append, outside_cons, outside_nil, and_true] at hk
  unfold wakeLanding
  simp [hk]
@[simp] theorem wakeCellar_keep (s : State) : (wakeCellar s).pending = s.pending ∧ (wakeCellar s).lt = s.lt ∧
    (wakeCellar s).synced = s.synced ∧ (wakeCellar s).free = s.free ∧ (wakeCellar s).dram = s.dram ∧ (wakeCellar
    s).gal = s.gal ∧ (wakeCellar s).eng = s.eng ∧ (wakeCellar s).stats = s.stats ∧ (wakeCellar s).shd = s.shd ∧
    (wakeCellar s).mbx = s.mbx ∧ (wakeCellar s).pins = s.pins ∧ (wakeCellar s).aux = s.aux ∧ (wakeCellar s).boot =
    s.boot ∧ (wakeCellar s).thm = s.thm ∧ (wakeCellar s).ddr = s.ddr ∧ (wakeCellar s).mram = s.mram ∧ (wakeCellar
    s).flash = s.flash ∧ (wakeCellar s).evt = s.evt := by
  unfold wakeCellar
  simp
def wakeCellarRegs : List Field := wakeDoneRegs ++ bringUpRegs ++ restoreArrayRegs ++ applyTimingRegs ++
    applyBoardRegs ++ judgeRecordsRegs ++ bootClocksRegs ++ sealAtResetRegs
@[simp] theorem wakeCellar_word {key : Nat} (hk : Outside wakeCellarRegs key) (s : State)  : wordAt (wakeCellar
    s).regs key = wordAt s.regs key := by
  simp only [wakeCellarRegs, outside_append, outside_cons, outside_nil, and_true] at hk
  unfold wakeCellar
  simp [hk]
@[simp] theorem repeatStep_keep (s : State) (w : ReadyWait) : (repeatStep s w).pending = s.pending ∧ (repeatStep s
    w).regs = s.regs ∧ (repeatStep s w).act = s.act ∧ (repeatStep s w).lt = s.lt ∧ (repeatStep s w).synced = s.synced
    ∧ (repeatStep s w).free = s.free ∧ (repeatStep s w).dram = s.dram ∧ (repeatStep s w).scan = s.scan ∧ (repeatStep s
    w).pix = s.pix ∧ (repeatStep s w).gal = s.gal ∧ (repeatStep s w).eng = s.eng ∧ (repeatStep s w).stats = s.stats ∧
    (repeatStep s w).shd = s.shd ∧ (repeatStep s w).guard = s.guard ∧ (repeatStep s w).diag = s.diag ∧ (repeatStep s
    w).cal = s.cal ∧ (repeatStep s w).net = s.net ∧ (repeatStep s w).mbx = s.mbx ∧ (repeatStep s w).io = s.io ∧
    (repeatStep s w).pins = s.pins ∧ (repeatStep s w).aux = s.aux ∧ (repeatStep s w).boot = s.boot ∧ (repeatStep s
    w).thm = s.thm ∧ (repeatStep s w).ddr = s.ddr ∧ (repeatStep s w).mram = s.mram ∧ (repeatStep s w).flash = s.flash
    ∧ (repeatStep s w).flt = s.flt ∧ (repeatStep s w).evt = s.evt := by
  unfold repeatStep
  split <;> simp
@[simp] theorem wakeFails_keep (s : State) : (wakeFails s).pending = s.pending ∧ (wakeFails s).free = s.free ∧
    (wakeFails s).flash = s.flash := by
  unfold wakeFails
  simp

end Sys2Proof.Machine
end

