-- ==== Sys2Proof/Laws/FrameFaults.lean ====
section
/-! SUPPORT. FrameFaults.lean: for each operation of Machine/Faults.lean, the parts of State that it leaves alone and the register
fields outside which it changes none. -/

set_option linter.unusedSimpArgs false

namespace Sys2Proof.Machine

set_option Elab.async false

@[simp] theorem degrade_keep (s : State) (src cls : Nat) : (degrade s src cls).pending = s.pending ∧ (degrade s src
    cls).act = s.act ∧ (degrade s src cls).lt = s.lt ∧ (degrade s src cls).synced = s.synced ∧ (degrade s src
    cls).free = s.free ∧ (degrade s src cls).dram = s.dram ∧ (degrade s src cls).eng = s.eng ∧ (degrade s src cls).shd
    = s.shd ∧ (degrade s src cls).guard = s.guard ∧ (degrade s src cls).diag = s.diag ∧ (degrade s src cls).cal =
    s.cal ∧ (degrade s src cls).net = s.net ∧ (degrade s src cls).mbx = s.mbx ∧ (degrade s src cls).io = s.io ∧
    (degrade s src cls).pins = s.pins ∧ (degrade s src cls).aux = s.aux ∧ (degrade s src cls).clk = s.clk ∧ (degrade s
    src cls).pwr = s.pwr ∧ (degrade s src cls).boot = s.boot ∧ (degrade s src cls).thm = s.thm ∧ (degrade s src
    cls).ddr = s.ddr ∧ (degrade s src cls).mram = s.mram ∧ (degrade s src cls).flash = s.flash ∧ (degrade s src
    cls).flt = s.flt ∧ (degrade s src cls).evt = s.evt := by
  unfold degrade
  simp
def degradeRegs : List Field := discardKilnRegs
@[simp] theorem degrade_word {key : Nat} (hk : Outside degradeRegs key) (s : State) (src cls : Nat)  : wordAt (degrade
    s src cls).regs key = wordAt s.regs key := by
  simp only [degradeRegs, outside_append, outside_cons, outside_nil, and_true] at hk
  unfold degrade
  simp [hk]
@[simp] theorem otpFails_keep (s : State) (w : OtpWord) : (otpFails s w).pending = s.pending ∧ (otpFails s w).act =
    s.act ∧ (otpFails s w).lt = s.lt ∧ (otpFails s w).synced = s.synced ∧ (otpFails s w).free = s.free ∧ (otpFails s
    w).dram = s.dram ∧ (otpFails s w).pix = s.pix ∧ (otpFails s w).gal = s.gal ∧ (otpFails s w).eng = s.eng ∧
    (otpFails s w).stats = s.stats ∧ (otpFails s w).shd = s.shd ∧ (otpFails s w).diag = s.diag ∧ (otpFails s w).cal =
    s.cal ∧ (otpFails s w).net = s.net ∧ (otpFails s w).mbx = s.mbx ∧ (otpFails s w).io = s.io ∧ (otpFails s w).pins =
    s.pins ∧ (otpFails s w).aux = s.aux ∧ (otpFails s w).clk = s.clk ∧ (otpFails s w).pwr = s.pwr ∧ (otpFails s
    w).boot = s.boot ∧ (otpFails s w).thm = s.thm ∧ (otpFails s w).ddr = s.ddr ∧ (otpFails s w).mram = s.mram ∧
    (otpFails s w).flash = s.flash ∧ (otpFails s w).evt = s.evt := by
  unfold otpFails
  split <;> simp
def otpFailsRegs : List Field := breakSealRegs
@[simp] theorem otpFails_word {key : Nat} (hk : Outside otpFailsRegs key) (s : State) (w : OtpWord)  : wordAt
    (otpFails s w).regs key = wordAt s.regs key := by
  simp only [otpFailsRegs, outside_append, outside_cons, outside_nil, and_true] at hk
  unfold otpFails
  split <;> simp [hk]
@[simp] theorem detect_keep (s : State) (src cls : Nat) (w : OtpWord) : (detect s src cls w).pending = s.pending ∧
    (detect s src cls w).act = s.act ∧ (detect s src cls w).lt = s.lt ∧ (detect s src cls w).synced = s.synced ∧
    (detect s src cls w).dram = s.dram ∧ (detect s src cls w).shd = s.shd ∧ (detect s src cls w).diag = s.diag ∧
    (detect s src cls w).cal = s.cal ∧ (detect s src cls w).net = s.net ∧ (detect s src cls w).mbx = s.mbx ∧ (detect s
    src cls w).io = s.io ∧ (detect s src cls w).pins = s.pins ∧ (detect s src cls w).aux = s.aux ∧ (detect s src cls
    w).clk = s.clk ∧ (detect s src cls w).pwr = s.pwr ∧ (detect s src cls w).boot = s.boot ∧ (detect s src cls w).thm
    = s.thm ∧ (detect s src cls w).ddr = s.ddr ∧ (detect s src cls w).mram = s.mram ∧ (detect s src cls w).flash =
    s.flash ∧ (detect s src cls w).evt = s.evt := by
  unfold detect
  simp
def detectRegs : List Field := faultEngineRegs ++ degradeRegs ++ raiseFaultRegs ++ otpFailsRegs
@[simp] theorem detect_word {key : Nat} (hk : Outside detectRegs key) (s : State) (src cls : Nat) (w : OtpWord)  :
    wordAt (detect s src cls w).regs key = wordAt s.regs key := by
  simp only [detectRegs, outside_append, outside_cons, outside_nil, and_true] at hk
  unfold detect
  simp [hk]
@[simp] theorem latchFirst_keep (s : State) (src cls lt : Nat) (esc : Bool) : (latchFirst s src cls lt esc).pending =
    s.pending ∧ (latchFirst s src cls lt esc).act = s.act ∧ (latchFirst s src cls lt esc).lt = s.lt ∧ (latchFirst s
    src cls lt esc).synced = s.synced ∧ (latchFirst s src cls lt esc).free = s.free ∧ (latchFirst s src cls lt
    esc).dram = s.dram ∧ (latchFirst s src cls lt esc).scan = s.scan ∧ (latchFirst s src cls lt esc).pix = s.pix ∧
    (latchFirst s src cls lt esc).gal = s.gal ∧ (latchFirst s src cls lt esc).eng = s.eng ∧ (latchFirst s src cls lt
    esc).stats = s.stats ∧ (latchFirst s src cls lt esc).shd = s.shd ∧ (latchFirst s src cls lt esc).guard = s.guard ∧
    (latchFirst s src cls lt esc).diag = s.diag ∧ (latchFirst s src cls lt esc).cal = s.cal ∧ (latchFirst s src cls lt
    esc).net = s.net ∧ (latchFirst s src cls lt esc).mbx = s.mbx ∧ (latchFirst s src cls lt esc).io = s.io ∧
    (latchFirst s src cls lt esc).pins = s.pins ∧ (latchFirst s src cls lt esc).aux = s.aux ∧ (latchFirst s src cls lt
    esc).clk = s.clk ∧ (latchFirst s src cls lt esc).pwr = s.pwr ∧ (latchFirst s src cls lt esc).boot = s.boot ∧
    (latchFirst s src cls lt esc).thm = s.thm ∧ (latchFirst s src cls lt esc).ddr = s.ddr ∧ (latchFirst s src cls lt
    esc).mram = s.mram ∧ (latchFirst s src cls lt esc).flash = s.flash ∧ (latchFirst s src cls lt esc).flt = s.flt ∧
    (latchFirst s src cls lt esc).evt = s.evt := by
  unfold latchFirst
  simp
def latchFirstRegs : List Field := [FLT.FIRST.CLASS, FLT.FIRST.ESCALATED, FLT.FIRST.OVERFLOW, FLT.FIRST.SRC,
    FLT.FIRST.VALID, FLT.FIRST_LT_HI.LT, FLT.FIRST_LT_LO.LT]
@[simp] theorem latchFirst_word {key : Nat} (hk : Outside latchFirstRegs key) (s : State) (src cls lt : Nat) (esc :
    Bool)  : wordAt (latchFirst s src cls lt esc).regs key = wordAt s.regs key := by
  simp only [latchFirstRegs, outside_append, outside_cons, outside_nil, and_true] at hk
  unfold latchFirst
  simp [hk]
@[simp] theorem latchInjFirst_keep (s : State) (src cls : Nat) (esc : Bool) : (latchInjFirst s src cls esc).pending =
    s.pending ∧ (latchInjFirst s src cls esc).act = s.act ∧ (latchInjFirst s src cls esc).lt = s.lt ∧ (latchInjFirst s
    src cls esc).synced = s.synced ∧ (latchInjFirst s src cls esc).free = s.free ∧ (latchInjFirst s src cls esc).dram
    = s.dram ∧ (latchInjFirst s src cls esc).scan = s.scan ∧ (latchInjFirst s src cls esc).pix = s.pix ∧
    (latchInjFirst s src cls esc).gal = s.gal ∧ (latchInjFirst s src cls esc).eng = s.eng ∧ (latchInjFirst s src cls
    esc).stats = s.stats ∧ (latchInjFirst s src cls esc).shd = s.shd ∧ (latchInjFirst s src cls esc).guard = s.guard ∧
    (latchInjFirst s src cls esc).diag = s.diag ∧ (latchInjFirst s src cls esc).cal = s.cal ∧ (latchInjFirst s src cls
    esc).net = s.net ∧ (latchInjFirst s src cls esc).mbx = s.mbx ∧ (latchInjFirst s src cls esc).io = s.io ∧
    (latchInjFirst s src cls esc).pins = s.pins ∧ (latchInjFirst s src cls esc).aux = s.aux ∧ (latchInjFirst s src cls
    esc).clk = s.clk ∧ (latchInjFirst s src cls esc).pwr = s.pwr ∧ (latchInjFirst s src cls esc).boot = s.boot ∧
    (latchInjFirst s src cls esc).thm = s.thm ∧ (latchInjFirst s src cls esc).ddr = s.ddr ∧ (latchInjFirst s src cls
    esc).mram = s.mram ∧ (latchInjFirst s src cls esc).flash = s.flash ∧ (latchInjFirst s src cls esc).flt = s.flt ∧
    (latchInjFirst s src cls esc).evt = s.evt := by
  unfold latchInjFirst
  simp
def latchInjFirstRegs : List Field := [FLT.INJ_FIRST.CLASS, FLT.INJ_FIRST.ESCALATED, FLT.INJ_FIRST.OVERFLOW,
    FLT.INJ_FIRST.SRC, FLT.INJ_FIRST.VALID]
@[simp] theorem latchInjFirst_word {key : Nat} (hk : Outside latchInjFirstRegs key) (s : State) (src cls : Nat) (esc :
    Bool)  : wordAt (latchInjFirst s src cls esc).regs key = wordAt s.regs key := by
  simp only [latchInjFirstRegs, outside_append, outside_cons, outside_nil, and_true] at hk
  unfold latchInjFirst
  simp [hk]
@[simp] theorem askRestart_keep (s : State) (src : Nat) (inj : Bool) : (askRestart s src inj).pending = s.pending ∧
    (askRestart s src inj).regs = s.regs ∧ (askRestart s src inj).act = s.act ∧ (askRestart s src inj).lt = s.lt ∧
    (askRestart s src inj).synced = s.synced ∧ (askRestart s src inj).free = s.free ∧ (askRestart s src inj).dram =
    s.dram ∧ (askRestart s src inj).scan = s.scan ∧ (askRestart s src inj).pix = s.pix ∧ (askRestart s src inj).gal =
    s.gal ∧ (askRestart s src inj).eng = s.eng ∧ (askRestart s src inj).stats = s.stats ∧ (askRestart s src inj).shd =
    s.shd ∧ (askRestart s src inj).guard = s.guard ∧ (askRestart s src inj).diag = s.diag ∧ (askRestart s src inj).cal
    = s.cal ∧ (askRestart s src inj).net = s.net ∧ (askRestart s src inj).mbx = s.mbx ∧ (askRestart s src inj).io =
    s.io ∧ (askRestart s src inj).pins = s.pins ∧ (askRestart s src inj).aux = s.aux ∧ (askRestart s src inj).clk =
    s.clk ∧ (askRestart s src inj).pwr = s.pwr ∧ (askRestart s src inj).boot = s.boot ∧ (askRestart s src inj).thm =
    s.thm ∧ (askRestart s src inj).ddr = s.ddr ∧ (askRestart s src inj).mram = s.mram ∧ (askRestart s src inj).flash =
    s.flash ∧ (askRestart s src inj).evt = s.evt := by
  unfold askRestart
  simp
@[simp] theorem errForClass_keep (s : State) (inj : Bool) (cls : Nat) : (errForClass s inj cls).pending = s.pending ∧
    (errForClass s inj cls).regs = s.regs ∧ (errForClass s inj cls).act = s.act ∧ (errForClass s inj cls).lt = s.lt ∧
    (errForClass s inj cls).synced = s.synced ∧ (errForClass s inj cls).free = s.free ∧ (errForClass s inj cls).dram =
    s.dram ∧ (errForClass s inj cls).scan = s.scan ∧ (errForClass s inj cls).pix = s.pix ∧ (errForClass s inj cls).gal
    = s.gal ∧ (errForClass s inj cls).eng = s.eng ∧ (errForClass s inj cls).stats = s.stats ∧ (errForClass s inj
    cls).shd = s.shd ∧ (errForClass s inj cls).guard = s.guard ∧ (errForClass s inj cls).diag = s.diag ∧ (errForClass
    s inj cls).cal = s.cal ∧ (errForClass s inj cls).net = s.net ∧ (errForClass s inj cls).mbx = s.mbx ∧ (errForClass
    s inj cls).io = s.io ∧ (errForClass s inj cls).pins = s.pins ∧ (errForClass s inj cls).aux = s.aux ∧ (errForClass
    s inj cls).clk = s.clk ∧ (errForClass s inj cls).pwr = s.pwr ∧ (errForClass s inj cls).boot = s.boot ∧
    (errForClass s inj cls).thm = s.thm ∧ (errForClass s inj cls).ddr = s.ddr ∧ (errForClass s inj cls).mram = s.mram
    ∧ (errForClass s inj cls).flash = s.flash ∧ (errForClass s inj cls).evt = s.evt := by
  unfold errForClass
  simp
@[simp] theorem react_keep (s : State) (src cls : Nat) (inj : Bool) : (react s src cls inj).pending = s.pending ∧
    (react s src cls inj).act = s.act ∧ (react s src cls inj).lt = s.lt ∧ (react s src cls inj).synced = s.synced ∧
    (react s src cls inj).free = s.free ∧ (react s src cls inj).dram = s.dram ∧ (react s src cls inj).pix = s.pix ∧
    (react s src cls inj).gal = s.gal ∧ (react s src cls inj).eng = s.eng ∧ (react s src cls inj).stats = s.stats ∧
    (react s src cls inj).shd = s.shd ∧ (react s src cls inj).guard = s.guard ∧ (react s src cls inj).diag = s.diag ∧
    (react s src cls inj).cal = s.cal ∧ (react s src cls inj).net = s.net ∧ (react s src cls inj).mbx = s.mbx ∧ (react
    s src cls inj).io = s.io ∧ (react s src cls inj).pins = s.pins ∧ (react s src cls inj).aux = s.aux ∧ (react s src
    cls inj).clk = s.clk ∧ (react s src cls inj).pwr = s.pwr ∧ (react s src cls inj).boot = s.boot ∧ (react s src cls
    inj).thm = s.thm ∧ (react s src cls inj).ddr = s.ddr ∧ (react s src cls inj).mram = s.mram ∧ (react s src cls
    inj).flash = s.flash ∧ (react s src cls inj).evt = s.evt := by
  unfold react
  simp
def reactRegs : List Field := raiseCauseInjRegs ++ [SAFE.FB_CAUSE.FATAL]
@[simp] theorem react_word {key : Nat} (hk : Outside reactRegs key) (s : State) (src cls : Nat) (inj : Bool)  : wordAt
    (react s src cls inj).regs key = wordAt s.regs key := by
  simp only [reactRegs, outside_append, outside_cons, outside_nil, and_true] at hk
  unfold react
  simp [hk]
def ackClassRegs : List Field :=
  [FLT.STATUS.PEND_CORR, FLT.STATUS.PEND_CONT, FLT.STATUS.PEND_FATAL, FLT.STATUS.INJ_CORR, FLT.STATUS.INJ_CONT, FLT.STATUS.INJ_FATAL]

theorem pendBit_outside {key : Nat} (hk : Outside ackClassRegs key) (inj : Bool) (c : Nat) : fieldKey (pendBit inj c) ≠ key := by
  refine hk _ ?_
  unfold pendBit
  split <;> simp [ackClassRegs]

@[simp] theorem grantFault_keep (s : State) (src : Nat) (w : FaultWait) (inj : Bool) : (grantFault s src w
    inj).pending = s.pending ∧ (grantFault s src w inj).act = s.act ∧ (grantFault s src w inj).lt = s.lt ∧ (grantFault
    s src w inj).synced = s.synced ∧ (grantFault s src w inj).free = s.free ∧ (grantFault s src w inj).dram = s.dram ∧
    (grantFault s src w inj).pix = s.pix ∧ (grantFault s src w inj).gal = s.gal ∧ (grantFault s src w inj).eng = s.eng
    ∧ (grantFault s src w inj).stats = s.stats ∧ (grantFault s src w inj).shd = s.shd ∧ (grantFault s src w inj).guard
    = s.guard ∧ (grantFault s src w inj).diag = s.diag ∧ (grantFault s src w inj).cal = s.cal ∧ (grantFault s src w
    inj).net = s.net ∧ (grantFault s src w inj).mbx = s.mbx ∧ (grantFault s src w inj).io = s.io ∧ (grantFault s src w
    inj).pins = s.pins ∧ (grantFault s src w inj).aux = s.aux ∧ (grantFault s src w inj).clk = s.clk ∧ (grantFault s
    src w inj).pwr = s.pwr ∧ (grantFault s src w inj).boot = s.boot ∧ (grantFault s src w inj).thm = s.thm ∧
    (grantFault s src w inj).ddr = s.ddr ∧ (grantFault s src w inj).mram = s.mram ∧ (grantFault s src w inj).flash =
    s.flash := by
  unfold grantFault
  simp
def grantFaultRegs : List Field := latchInjFirstRegs ++ latchFirstRegs ++ enqueueEventRegs ++ reactRegs ++
    ackClassRegs ++ [FLT.LAST.CLASS, FLT.LAST.ESCALATED, FLT.LAST.INJ, FLT.LAST.SRC]
@[simp] theorem grantFault_word {key : Nat} (hk : Outside grantFaultRegs key) (s : State) (src : Nat) (w : FaultWait)
    (inj : Bool)  : wordAt (grantFault s src w inj).regs key = wordAt s.regs key := by
  simp only [grantFaultRegs, outside_append, outside_cons, outside_nil, and_true] at hk
  obtain ⟨⟨⟨⟨⟨h1, h2⟩, h3⟩, h4⟩, h5⟩, h6⟩ := hk
  have hp (c : Nat) : fieldKey (pendBit inj c) ≠ key := pendBit_outside h5 inj c
  unfold grantFault
  cases inj <;> simp [h1, h2, h3, h4, h6, hp]
@[simp] theorem grantAt_keep (s : State) (p : Nat) : (grantAt s p).pending = s.pending ∧ (grantAt s p).act = s.act ∧
    (grantAt s p).lt = s.lt ∧ (grantAt s p).synced = s.synced ∧ (grantAt s p).free = s.free ∧ (grantAt s p).dram =
    s.dram ∧ (grantAt s p).pix = s.pix ∧ (grantAt s p).gal = s.gal ∧ (grantAt s p).eng = s.eng ∧ (grantAt s p).stats =
    s.stats ∧ (grantAt s p).shd = s.shd ∧ (grantAt s p).guard = s.guard ∧ (grantAt s p).diag = s.diag ∧ (grantAt s
    p).cal = s.cal ∧ (grantAt s p).net = s.net ∧ (grantAt s p).mbx = s.mbx ∧ (grantAt s p).io = s.io ∧ (grantAt s
    p).pins = s.pins ∧ (grantAt s p).aux = s.aux ∧ (grantAt s p).clk = s.clk ∧ (grantAt s p).pwr = s.pwr ∧ (grantAt s
    p).boot = s.boot ∧ (grantAt s p).thm = s.thm ∧ (grantAt s p).ddr = s.ddr ∧ (grantAt s p).mram = s.mram ∧ (grantAt
    s p).flash = s.flash := by
  unfold grantAt
  (try simp) <;> (repeat' apply And.intro) <;> (repeat' split) <;> (try simp)
def grantAtRegs : List Field := enqueueEventRegs ++ grantFaultRegs
@[simp] theorem grantAt_word {key : Nat} (hk : Outside grantAtRegs key) (s : State) (p : Nat)  : wordAt (grantAt s
    p).regs key = wordAt s.regs key := by
  simp only [grantAtRegs, outside_append, outside_cons, outside_nil, and_true] at hk
  unfold grantAt
  (repeat' split) <;> (try simp [hk])
@[simp] theorem faultGrant_keep (s : State) : (faultGrant s).pending = s.pending ∧ (faultGrant s).act = s.act ∧
    (faultGrant s).lt = s.lt ∧ (faultGrant s).synced = s.synced ∧ (faultGrant s).free = s.free ∧ (faultGrant s).dram =
    s.dram ∧ (faultGrant s).pix = s.pix ∧ (faultGrant s).gal = s.gal ∧ (faultGrant s).eng = s.eng ∧ (faultGrant
    s).stats = s.stats ∧ (faultGrant s).shd = s.shd ∧ (faultGrant s).guard = s.guard ∧ (faultGrant s).diag = s.diag ∧
    (faultGrant s).cal = s.cal ∧ (faultGrant s).net = s.net ∧ (faultGrant s).mbx = s.mbx ∧ (faultGrant s).io = s.io ∧
    (faultGrant s).pins = s.pins ∧ (faultGrant s).aux = s.aux ∧ (faultGrant s).clk = s.clk ∧ (faultGrant s).pwr =
    s.pwr ∧ (faultGrant s).boot = s.boot ∧ (faultGrant s).thm = s.thm ∧ (faultGrant s).ddr = s.ddr ∧ (faultGrant
    s).mram = s.mram ∧ (faultGrant s).flash = s.flash := by
  unfold faultGrant
  split <;> simp
def faultGrantRegs : List Field := grantAtRegs
@[simp] theorem faultGrant_word {key : Nat} (hk : Outside faultGrantRegs key) (s : State)  : wordAt (faultGrant
    s).regs key = wordAt s.regs key := by
  simp only [faultGrantRegs, outside_append, outside_cons, outside_nil, and_true] at hk
  unfold faultGrant
  split <;> simp [hk]
@[simp] theorem ackClass_keep (inj : Bool) (w : Nat) (s : State) (cls : Nat) : (ackClass inj w s cls).pending =
    s.pending ∧ (ackClass inj w s cls).act = s.act ∧ (ackClass inj w s cls).lt = s.lt ∧ (ackClass inj w s cls).synced
    = s.synced ∧ (ackClass inj w s cls).free = s.free ∧ (ackClass inj w s cls).dram = s.dram ∧ (ackClass inj w s
    cls).scan = s.scan ∧ (ackClass inj w s cls).pix = s.pix ∧ (ackClass inj w s cls).gal = s.gal ∧ (ackClass inj w s
    cls).eng = s.eng ∧ (ackClass inj w s cls).stats = s.stats ∧ (ackClass inj w s cls).shd = s.shd ∧ (ackClass inj w s
    cls).guard = s.guard ∧ (ackClass inj w s cls).diag = s.diag ∧ (ackClass inj w s cls).cal = s.cal ∧ (ackClass inj w
    s cls).net = s.net ∧ (ackClass inj w s cls).mbx = s.mbx ∧ (ackClass inj w s cls).io = s.io ∧ (ackClass inj w s
    cls).pins = s.pins ∧ (ackClass inj w s cls).aux = s.aux ∧ (ackClass inj w s cls).clk = s.clk ∧ (ackClass inj w s
    cls).pwr = s.pwr ∧ (ackClass inj w s cls).boot = s.boot ∧ (ackClass inj w s cls).thm = s.thm ∧ (ackClass inj w s
    cls).ddr = s.ddr ∧ (ackClass inj w s cls).mram = s.mram ∧ (ackClass inj w s cls).flash = s.flash ∧ (ackClass inj w
    s cls).evt = s.evt := by
  unfold ackClass
  simp
@[simp] theorem ackClass_word {key : Nat} (hk : Outside ackClassRegs key) (inj : Bool) (w : Nat) (s : State) (cls :
    Nat)  : wordAt (ackClass inj w s cls).regs key = wordAt s.regs key := by
  have hp := pendBit_outside hk inj cls
  unfold ackClass
  split <;> simp [hp]
@[simp] theorem clearFirst_keep (s : State) : (clearFirst s).pending = s.pending ∧ (clearFirst s).act = s.act ∧
    (clearFirst s).lt = s.lt ∧ (clearFirst s).synced = s.synced ∧ (clearFirst s).free = s.free ∧ (clearFirst s).dram =
    s.dram ∧ (clearFirst s).scan = s.scan ∧ (clearFirst s).pix = s.pix ∧ (clearFirst s).gal = s.gal ∧ (clearFirst
    s).eng = s.eng ∧ (clearFirst s).stats = s.stats ∧ (clearFirst s).shd = s.shd ∧ (clearFirst s).guard = s.guard ∧
    (clearFirst s).diag = s.diag ∧ (clearFirst s).cal = s.cal ∧ (clearFirst s).net = s.net ∧ (clearFirst s).mbx =
    s.mbx ∧ (clearFirst s).io = s.io ∧ (clearFirst s).pins = s.pins ∧ (clearFirst s).aux = s.aux ∧ (clearFirst s).clk
    = s.clk ∧ (clearFirst s).pwr = s.pwr ∧ (clearFirst s).boot = s.boot ∧ (clearFirst s).thm = s.thm ∧ (clearFirst
    s).ddr = s.ddr ∧ (clearFirst s).mram = s.mram ∧ (clearFirst s).flash = s.flash ∧ (clearFirst s).flt = s.flt ∧
    (clearFirst s).evt = s.evt := by
  unfold clearFirst
  simp
def clearFirstRegs : List Field := [FLT.FIRST.SRC, FLT.FIRST.CLASS, FLT.FIRST.ESCALATED, FLT.FIRST.VALID,
    FLT.FIRST.OVERFLOW, FLT.FIRST_LT_LO.LT, FLT.FIRST_LT_HI.LT, FLT.INJ_FIRST.SRC, FLT.INJ_FIRST.CLASS,
    FLT.INJ_FIRST.ESCALATED, FLT.INJ_FIRST.VALID, FLT.INJ_FIRST.OVERFLOW]
@[simp] theorem clearFirst_word {key : Nat} (hk : Outside clearFirstRegs key) (s : State)  : wordAt (clearFirst
    s).regs key = wordAt s.regs key := by
  exact foldl_fields_word _ hk (fun _ _ => 0) s
@[simp] theorem fltAck_keep (s : State) (w : Nat) : (fltAck s w).pending = s.pending ∧ (fltAck s w).act = s.act ∧
    (fltAck s w).lt = s.lt ∧ (fltAck s w).synced = s.synced ∧ (fltAck s w).free = s.free ∧ (fltAck s w).dram = s.dram
    ∧ (fltAck s w).scan = s.scan ∧ (fltAck s w).pix = s.pix ∧ (fltAck s w).gal = s.gal ∧ (fltAck s w).eng = s.eng ∧
    (fltAck s w).stats = s.stats ∧ (fltAck s w).shd = s.shd ∧ (fltAck s w).guard = s.guard ∧ (fltAck s w).diag =
    s.diag ∧ (fltAck s w).cal = s.cal ∧ (fltAck s w).net = s.net ∧ (fltAck s w).mbx = s.mbx ∧ (fltAck s w).io = s.io ∧
    (fltAck s w).pins = s.pins ∧ (fltAck s w).aux = s.aux ∧ (fltAck s w).clk = s.clk ∧ (fltAck s w).pwr = s.pwr ∧
    (fltAck s w).boot = s.boot ∧ (fltAck s w).thm = s.thm ∧ (fltAck s w).ddr = s.ddr ∧ (fltAck s w).mram = s.mram ∧
    (fltAck s w).flash = s.flash ∧ (fltAck s w).evt = s.evt := by
  unfold fltAck
  simp
def fltAckRegs : List Field := ackClassRegs ++ clearFirstRegs
@[simp] theorem fltAck_word {key : Nat} (hk : Outside fltAckRegs key) (s : State) (w : Nat)  : wordAt (fltAck s
    w).regs key = wordAt s.regs key := by
  simp only [fltAckRegs, outside_append, outside_cons, outside_nil, and_true] at hk
  unfold fltAck
  simp [hk]
@[simp] theorem dropRenderSets_keep (s : State) : (dropRenderSets s).pending = s.pending ∧ (dropRenderSets s).regs =
    s.regs ∧ (dropRenderSets s).act = s.act ∧ (dropRenderSets s).lt = s.lt ∧ (dropRenderSets s).synced = s.synced ∧
    (dropRenderSets s).free = s.free ∧ (dropRenderSets s).dram = s.dram ∧ (dropRenderSets s).scan = s.scan ∧
    (dropRenderSets s).pix = s.pix ∧ (dropRenderSets s).gal = s.gal ∧ (dropRenderSets s).stats = s.stats ∧
    (dropRenderSets s).shd = s.shd ∧ (dropRenderSets s).guard = s.guard ∧ (dropRenderSets s).diag = s.diag ∧
    (dropRenderSets s).cal = s.cal ∧ (dropRenderSets s).net = s.net ∧ (dropRenderSets s).mbx = s.mbx ∧ (dropRenderSets
    s).io = s.io ∧ (dropRenderSets s).pins = s.pins ∧ (dropRenderSets s).aux = s.aux ∧ (dropRenderSets s).clk = s.clk
    ∧ (dropRenderSets s).pwr = s.pwr ∧ (dropRenderSets s).boot = s.boot ∧ (dropRenderSets s).thm = s.thm ∧
    (dropRenderSets s).ddr = s.ddr ∧ (dropRenderSets s).mram = s.mram ∧ (dropRenderSets s).flash = s.flash ∧
    (dropRenderSets s).flt = s.flt ∧ (dropRenderSets s).evt = s.evt := by
  unfold dropRenderSets
  simp
@[simp] theorem beginRestart_keep (s : State) (inj : Bool) : (beginRestart s inj).pending = s.pending ∧ (beginRestart
    s inj).act = s.act ∧ (beginRestart s inj).lt = s.lt ∧ (beginRestart s inj).synced = s.synced ∧ (beginRestart s
    inj).free = s.free ∧ (beginRestart s inj).dram = s.dram ∧ (beginRestart s inj).scan = s.scan ∧ (beginRestart s
    inj).pix = s.pix ∧ (beginRestart s inj).gal = s.gal ∧ (beginRestart s inj).stats = s.stats ∧ (beginRestart s
    inj).shd = s.shd ∧ (beginRestart s inj).guard = s.guard ∧ (beginRestart s inj).diag = s.diag ∧ (beginRestart s
    inj).cal = s.cal ∧ (beginRestart s inj).io = s.io ∧ (beginRestart s inj).pins = s.pins ∧ (beginRestart s inj).aux
    = s.aux ∧ (beginRestart s inj).clk = s.clk ∧ (beginRestart s inj).pwr = s.pwr ∧ (beginRestart s inj).thm = s.thm ∧
    (beginRestart s inj).ddr = s.ddr ∧ (beginRestart s inj).mram = s.mram ∧ (beginRestart s inj).flash = s.flash ∧
    (beginRestart s inj).evt = s.evt := by
  unfold beginRestart
  simp
def beginRestartRegs : List Field := [FLT.STATUS.RESTARTING, FLT.STATUS.RESTARTS]
@[simp] theorem beginRestart_word {key : Nat} (hk : Outside beginRestartRegs key) (s : State) (inj : Bool)  : wordAt
    (beginRestart s inj).regs key = wordAt s.regs key := by
  simp only [beginRestartRegs, outside_append, outside_cons, outside_nil, and_true] at hk
  unfold beginRestart
  simp [hk]
@[simp] theorem supervisorRestart_keep (s : State) (inj : Bool) : (supervisorRestart s inj).pending = s.pending ∧
    (supervisorRestart s inj).act = s.act ∧ (supervisorRestart s inj).lt = s.lt ∧ (supervisorRestart s inj).synced =
    s.synced ∧ (supervisorRestart s inj).free = s.free ∧ (supervisorRestart s inj).dram = s.dram ∧ (supervisorRestart
    s inj).scan = s.scan ∧ (supervisorRestart s inj).pix = s.pix ∧ (supervisorRestart s inj).gal = s.gal ∧
    (supervisorRestart s inj).stats = s.stats ∧ (supervisorRestart s inj).shd = s.shd ∧ (supervisorRestart s
    inj).guard = s.guard ∧ (supervisorRestart s inj).diag = s.diag ∧ (supervisorRestart s inj).cal = s.cal ∧
    (supervisorRestart s inj).io = s.io ∧ (supervisorRestart s inj).pins = s.pins ∧ (supervisorRestart s inj).aux =
    s.aux ∧ (supervisorRestart s inj).clk = s.clk ∧ (supervisorRestart s inj).pwr = s.pwr ∧ (supervisorRestart s
    inj).thm = s.thm ∧ (supervisorRestart s inj).ddr = s.ddr ∧ (supervisorRestart s inj).mram = s.mram ∧
    (supervisorRestart s inj).flash = s.flash ∧ (supervisorRestart s inj).evt = s.evt := by
  unfold supervisorRestart
  simp
def supervisorRestartRegs : List Field := beginRestartRegs ++ [FLT.STATUS.SUP_HALTED]
@[simp] theorem supervisorRestart_word {key : Nat} (hk : Outside supervisorRestartRegs key) (s : State) (inj : Bool)
    : wordAt (supervisorRestart s inj).regs key = wordAt s.regs key := by
  simp only [supervisorRestartRegs, outside_append, outside_cons, outside_nil, and_true] at hk
  unfold supervisorRestart
  simp [hk]
@[simp] theorem restarted_keep (s : State) (pref : Bool) (x : Bool × Nat) : (restarted s pref x).pending = s.pending ∧
    (restarted s pref x).act = s.act ∧ (restarted s pref x).lt = s.lt ∧ (restarted s pref x).synced = s.synced ∧
    (restarted s pref x).dram = s.dram ∧ (restarted s pref x).pix = s.pix ∧ (restarted s pref x).gal = s.gal ∧
    (restarted s pref x).eng = s.eng ∧ (restarted s pref x).stats = s.stats ∧ (restarted s pref x).shd = s.shd ∧
    (restarted s pref x).guard = s.guard ∧ (restarted s pref x).net = s.net ∧ (restarted s pref x).mbx = s.mbx ∧
    (restarted s pref x).io = s.io ∧ (restarted s pref x).pins = s.pins ∧ (restarted s pref x).aux = s.aux ∧
    (restarted s pref x).clk = s.clk ∧ (restarted s pref x).pwr = s.pwr ∧ (restarted s pref x).thm = s.thm ∧
    (restarted s pref x).ddr = s.ddr ∧ (restarted s pref x).mram = s.mram ∧ (restarted s pref x).flash = s.flash ∧
    (restarted s pref x).evt = s.evt := by
  unfold restarted
  simp
def restartedRegs : List Field := bootDoneRegs ++ startJoroshRegs
@[simp] theorem restarted_word {key : Nat} (hk : Outside restartedRegs key) (s : State) (pref : Bool) (x : Bool × Nat)
     : wordAt (restarted s pref x).regs key = wordAt s.regs key := by
  simp only [restartedRegs, outside_append, outside_cons, outside_nil, and_true] at hk
  unfold restarted
  simp [hk]
@[simp] theorem restartComplete_keep (s : State) (own other : SlotVerdict) : (restartComplete s own other).pending =
    s.pending ∧ (restartComplete s own other).act = s.act ∧ (restartComplete s own other).lt = s.lt ∧ (restartComplete
    s own other).synced = s.synced ∧ (restartComplete s own other).dram = s.dram ∧ (restartComplete s own other).pix =
    s.pix ∧ (restartComplete s own other).gal = s.gal ∧ (restartComplete s own other).eng = s.eng ∧ (restartComplete s
    own other).stats = s.stats ∧ (restartComplete s own other).shd = s.shd ∧ (restartComplete s own other).guard =
    s.guard ∧ (restartComplete s own other).net = s.net ∧ (restartComplete s own other).mbx = s.mbx ∧ (restartComplete
    s own other).io = s.io ∧ (restartComplete s own other).pins = s.pins ∧ (restartComplete s own other).aux = s.aux ∧
    (restartComplete s own other).clk = s.clk ∧ (restartComplete s own other).pwr = s.pwr ∧ (restartComplete s own
    other).thm = s.thm ∧ (restartComplete s own other).ddr = s.ddr ∧ (restartComplete s own other).mram = s.mram ∧
    (restartComplete s own other).flash = s.flash ∧ (restartComplete s own other).evt = s.evt := by
  unfold restartComplete
  (try simp) <;> (repeat' apply And.intro) <;> (repeat' split) <;> (try simp)
def restartCompleteRegs : List Field := trySlotRegs ++ restartedRegs ++ bootHaltRegs ++ [FLT.STATUS.RESTARTING]
@[simp] theorem restartComplete_word {key : Nat} (hk : Outside restartCompleteRegs key) (s : State) (own other :
    SlotVerdict)  : wordAt (restartComplete s own other).regs key = wordAt s.regs key := by
  simp only [restartCompleteRegs, outside_append, outside_cons, outside_nil, and_true] at hk
  unfold restartComplete
  simp only []; (repeat' split) <;> (try simp [hk])
@[simp] theorem degradeInjected_keep (s : State) (src cls : Nat) : (degradeInjected s src cls).pending = s.pending ∧
    (degradeInjected s src cls).act = s.act ∧ (degradeInjected s src cls).lt = s.lt ∧ (degradeInjected s src
    cls).synced = s.synced ∧ (degradeInjected s src cls).free = s.free ∧ (degradeInjected s src cls).dram = s.dram ∧
    (degradeInjected s src cls).eng = s.eng ∧ (degradeInjected s src cls).shd = s.shd ∧ (degradeInjected s src
    cls).diag = s.diag ∧ (degradeInjected s src cls).cal = s.cal ∧ (degradeInjected s src cls).net = s.net ∧
    (degradeInjected s src cls).mbx = s.mbx ∧ (degradeInjected s src cls).io = s.io ∧ (degradeInjected s src cls).pins
    = s.pins ∧ (degradeInjected s src cls).aux = s.aux ∧ (degradeInjected s src cls).clk = s.clk ∧ (degradeInjected s
    src cls).pwr = s.pwr ∧ (degradeInjected s src cls).boot = s.boot ∧ (degradeInjected s src cls).ddr = s.ddr ∧
    (degradeInjected s src cls).mram = s.mram ∧ (degradeInjected s src cls).flash = s.flash ∧ (degradeInjected s src
    cls).evt = s.evt := by
  unfold degradeInjected
  simp
def degradeInjectedRegs : List Field := raiseCauseInjRegs ++ applyLimitsRegs ++ degradeRegs ++
    [CAL.VM_STATUS.PMBUS_ERR, SAFE.FB_CAUSE.GUARD, SAFE.FB_CAUSE.SOFT_STOP, SCAN.FB_CTRL.FB_HALF,
    SCAN.VLED_STATUS.PMBUS_ERR, THM.SOFT_STOP_COUNT.COUNT]
@[simp] theorem degradeInjected_word {key : Nat} (hk : Outside degradeInjectedRegs key) (s : State) (src cls : Nat)  :
    wordAt (degradeInjected s src cls).regs key = wordAt s.regs key := by
  simp only [degradeInjectedRegs, outside_append, outside_cons, outside_nil, and_true] at hk
  unfold degradeInjected
  simp [hk]
@[simp] theorem injectOne_keep (s : State) (src cls : Nat) : (injectOne s src cls).pending = s.pending ∧ (injectOne s
    src cls).act = s.act ∧ (injectOne s src cls).lt = s.lt ∧ (injectOne s src cls).synced = s.synced ∧ (injectOne s
    src cls).dram = s.dram ∧ (injectOne s src cls).shd = s.shd ∧ (injectOne s src cls).diag = s.diag ∧ (injectOne s
    src cls).cal = s.cal ∧ (injectOne s src cls).net = s.net ∧ (injectOne s src cls).mbx = s.mbx ∧ (injectOne s src
    cls).io = s.io ∧ (injectOne s src cls).pins = s.pins ∧ (injectOne s src cls).aux = s.aux ∧ (injectOne s src
    cls).clk = s.clk ∧ (injectOne s src cls).pwr = s.pwr ∧ (injectOne s src cls).boot = s.boot ∧ (injectOne s src
    cls).ddr = s.ddr ∧ (injectOne s src cls).mram = s.mram ∧ (injectOne s src cls).flash = s.flash ∧ (injectOne s src
    cls).evt = s.evt := by
  unfold injectOne
  simp
def injectOneRegs : List Field := faultEngineRegs ++ degradeInjectedRegs ++ raiseInjectedRegs
@[simp] theorem injectOne_word {key : Nat} (hk : Outside injectOneRegs key) (s : State) (src cls : Nat)  : wordAt
    (injectOne s src cls).regs key = wordAt s.regs key := by
  simp only [injectOneRegs, outside_append, outside_cons, outside_nil, and_true] at hk
  unfold injectOne
  simp [hk]
@[simp] theorem faultInject_keep (mb : Nat) (s : State) (p : List Byte) : (faultInject mb s p).pending = s.pending ∧
    (faultInject mb s p).act = s.act ∧ (faultInject mb s p).lt = s.lt ∧ (faultInject mb s p).synced = s.synced ∧
    (faultInject mb s p).dram = s.dram ∧ (faultInject mb s p).shd = s.shd ∧ (faultInject mb s p).diag = s.diag ∧
    (faultInject mb s p).cal = s.cal ∧ (faultInject mb s p).io = s.io ∧ (faultInject mb s p).pins = s.pins ∧
    (faultInject mb s p).aux = s.aux ∧ (faultInject mb s p).clk = s.clk ∧ (faultInject mb s p).pwr = s.pwr ∧
    (faultInject mb s p).boot = s.boot ∧ (faultInject mb s p).ddr = s.ddr ∧ (faultInject mb s p).mram = s.mram ∧
    (faultInject mb s p).flash = s.flash ∧ (faultInject mb s p).evt = s.evt := by
  unfold faultInject
  simp
def faultInjectRegs : List Field := injectOneRegs
@[simp] theorem faultInject_word {key : Nat} (hk : Outside faultInjectRegs key) (mb : Nat) (s : State) (p : List Byte)
     : wordAt (faultInject mb s p).regs key = wordAt s.regs key := by
  simp only [faultInjectRegs, outside_append, outside_cons, outside_nil, and_true] at hk
  unfold faultInject
  simp [hk]
@[simp] theorem injectRepeat_keep (s : State) : (injectRepeat s).pending = s.pending ∧ (injectRepeat s).act = s.act ∧
    (injectRepeat s).lt = s.lt ∧ (injectRepeat s).synced = s.synced ∧ (injectRepeat s).dram = s.dram ∧ (injectRepeat
    s).shd = s.shd ∧ (injectRepeat s).diag = s.diag ∧ (injectRepeat s).cal = s.cal ∧ (injectRepeat s).net = s.net ∧
    (injectRepeat s).mbx = s.mbx ∧ (injectRepeat s).io = s.io ∧ (injectRepeat s).pins = s.pins ∧ (injectRepeat s).aux
    = s.aux ∧ (injectRepeat s).clk = s.clk ∧ (injectRepeat s).pwr = s.pwr ∧ (injectRepeat s).boot = s.boot ∧
    (injectRepeat s).ddr = s.ddr ∧ (injectRepeat s).mram = s.mram ∧ (injectRepeat s).flash = s.flash ∧ (injectRepeat
    s).evt = s.evt := by
  unfold injectRepeat
  split <;> simp
def injectRepeatRegs : List Field := injectOneRegs
@[simp] theorem injectRepeat_word {key : Nat} (hk : Outside injectRepeatRegs key) (s : State)  : wordAt (injectRepeat
    s).regs key = wordAt s.regs key := by
  simp only [injectRepeatRegs, outside_append, outside_cons, outside_nil, and_true] at hk
  unfold injectRepeat
  split <;> simp [hk]

end Sys2Proof.Machine
end

