-- ==== Sys2Proof/Laws/FrameRegAccess.lean ====
section
/-! SUPPORT. FrameRegAccess.lean: for each operation of Machine/RegAccess.lean, the parts of State that it leaves alone and the register
fields outside which it changes none. -/

set_option linter.unusedSimpArgs false

namespace Sys2Proof.Machine

set_option Elab.async false

@[simp] theorem areaWrite_keep (s : State) (n : Nat) (rsp : Bool) (o : Nat) (w : Word) : (areaWrite s n rsp o
    w).pending = s.pending ∧ (areaWrite s n rsp o w).act = s.act ∧ (areaWrite s n rsp o w).lt = s.lt ∧ (areaWrite s n
    rsp o w).synced = s.synced ∧ (areaWrite s n rsp o w).free = s.free ∧ (areaWrite s n rsp o w).dram = s.dram ∧
    (areaWrite s n rsp o w).scan = s.scan ∧ (areaWrite s n rsp o w).pix = s.pix ∧ (areaWrite s n rsp o w).gal = s.gal
    ∧ (areaWrite s n rsp o w).eng = s.eng ∧ (areaWrite s n rsp o w).stats = s.stats ∧ (areaWrite s n rsp o w).shd =
    s.shd ∧ (areaWrite s n rsp o w).guard = s.guard ∧ (areaWrite s n rsp o w).diag = s.diag ∧ (areaWrite s n rsp o
    w).cal = s.cal ∧ (areaWrite s n rsp o w).net = s.net ∧ (areaWrite s n rsp o w).io = s.io ∧ (areaWrite s n rsp o
    w).pins = s.pins ∧ (areaWrite s n rsp o w).aux = s.aux ∧ (areaWrite s n rsp o w).clk = s.clk ∧ (areaWrite s n rsp
    o w).pwr = s.pwr ∧ (areaWrite s n rsp o w).boot = s.boot ∧ (areaWrite s n rsp o w).thm = s.thm ∧ (areaWrite s n
    rsp o w).ddr = s.ddr ∧ (areaWrite s n rsp o w).mram = s.mram ∧ (areaWrite s n rsp o w).flash = s.flash ∧
    (areaWrite s n rsp o w).flt = s.flt ∧ (areaWrite s n rsp o w).evt = s.evt := by
  unfold areaWrite
  simp
def areaWriteRegs : List Field := [MBX.STATUS.WR_IGN]
@[simp] theorem areaWrite_word {key : Nat} (hk : Outside areaWriteRegs key) (s : State) (n : Nat) (rsp : Bool) (o :
    Nat) (w : Word)  : wordAt (areaWrite s n rsp o w).regs key = wordAt s.regs key := by
  simp only [areaWriteRegs, outside_append, outside_cons, outside_nil, and_true] at hk
  unfold areaWrite
  simp [hk]
@[simp] theorem readEffect_keep (s : State) (f : Field) : (readEffect s f).pending = s.pending ∧ (readEffect s f).act
    = s.act ∧ (readEffect s f).lt = s.lt ∧ (readEffect s f).synced = s.synced ∧ (readEffect s f).free = s.free ∧
    (readEffect s f).dram = s.dram ∧ (readEffect s f).scan = s.scan ∧ (readEffect s f).pix = s.pix ∧ (readEffect s
    f).gal = s.gal ∧ (readEffect s f).eng = s.eng ∧ (readEffect s f).stats = s.stats ∧ (readEffect s f).shd = s.shd ∧
    (readEffect s f).guard = s.guard ∧ (readEffect s f).diag = s.diag ∧ (readEffect s f).cal = s.cal ∧ (readEffect s
    f).net = s.net ∧ (readEffect s f).mbx = s.mbx ∧ (readEffect s f).io = s.io ∧ (readEffect s f).pins = s.pins ∧
    (readEffect s f).aux = s.aux ∧ (readEffect s f).clk = s.clk ∧ (readEffect s f).pwr = s.pwr ∧ (readEffect s f).boot
    = s.boot ∧ (readEffect s f).thm = s.thm ∧ (readEffect s f).ddr = s.ddr ∧ (readEffect s f).mram = s.mram ∧
    (readEffect s f).flash = s.flash ∧ (readEffect s f).flt = s.flt ∧ (readEffect s f).evt = s.evt := by
  unfold readEffect
  split <;> simp
@[simp] theorem wordRead_keep (s : State) (a : Nat) : (wordRead s a).1.pending = s.pending ∧ (wordRead s a).1.act =
    s.act ∧ (wordRead s a).1.lt = s.lt ∧ (wordRead s a).1.synced = s.synced ∧ (wordRead s a).1.dram = s.dram ∧
    (wordRead s a).1.scan = s.scan ∧ (wordRead s a).1.pix = s.pix ∧ (wordRead s a).1.gal = s.gal ∧ (wordRead s
    a).1.eng = s.eng ∧ (wordRead s a).1.stats = s.stats ∧ (wordRead s a).1.shd = s.shd ∧ (wordRead s a).1.guard =
    s.guard ∧ (wordRead s a).1.diag = s.diag ∧ (wordRead s a).1.cal = s.cal ∧ (wordRead s a).1.net = s.net ∧ (wordRead
    s a).1.mbx = s.mbx ∧ (wordRead s a).1.io = s.io ∧ (wordRead s a).1.pins = s.pins ∧ (wordRead s a).1.aux = s.aux ∧
    (wordRead s a).1.clk = s.clk ∧ (wordRead s a).1.pwr = s.pwr ∧ (wordRead s a).1.boot = s.boot ∧ (wordRead s
    a).1.thm = s.thm ∧ (wordRead s a).1.ddr = s.ddr ∧ (wordRead s a).1.mram = s.mram ∧ (wordRead s a).1.flash =
    s.flash ∧ (wordRead s a).1.flt = s.flt ∧ (wordRead s a).1.evt = s.evt := by
  unfold wordRead
  split <;> simp
@[simp] theorem bitRead_keep (s : State) (a k : Nat) : (bitRead s a k).1.pending = s.pending ∧ (bitRead s a k).1.act =
    s.act ∧ (bitRead s a k).1.lt = s.lt ∧ (bitRead s a k).1.synced = s.synced ∧ (bitRead s a k).1.dram = s.dram ∧
    (bitRead s a k).1.scan = s.scan ∧ (bitRead s a k).1.pix = s.pix ∧ (bitRead s a k).1.gal = s.gal ∧ (bitRead s a
    k).1.eng = s.eng ∧ (bitRead s a k).1.stats = s.stats ∧ (bitRead s a k).1.shd = s.shd ∧ (bitRead s a k).1.guard =
    s.guard ∧ (bitRead s a k).1.diag = s.diag ∧ (bitRead s a k).1.cal = s.cal ∧ (bitRead s a k).1.net = s.net ∧
    (bitRead s a k).1.mbx = s.mbx ∧ (bitRead s a k).1.io = s.io ∧ (bitRead s a k).1.pins = s.pins ∧ (bitRead s a
    k).1.aux = s.aux ∧ (bitRead s a k).1.clk = s.clk ∧ (bitRead s a k).1.pwr = s.pwr ∧ (bitRead s a k).1.boot = s.boot
    ∧ (bitRead s a k).1.thm = s.thm ∧ (bitRead s a k).1.ddr = s.ddr ∧ (bitRead s a k).1.mram = s.mram ∧ (bitRead s a
    k).1.flash = s.flash ∧ (bitRead s a k).1.flt = s.flt ∧ (bitRead s a k).1.evt = s.evt := by
  unfold bitRead
  (try simp) <;> (repeat' apply And.intro) <;> (repeat' split) <;> (try simp)
@[simp] theorem crcGuard_eq (s : State) (f : State) : crcGuard s f = if s.flag CRC.CTRL.EN then f else wign s 7 := rfl

@[simp] theorem crcStart_keep (s : State) (u : Nat) : (crcStart s u).pending = s.pending ∧ (crcStart s u).act = s.act
    ∧ (crcStart s u).lt = s.lt ∧ (crcStart s u).synced = s.synced ∧ (crcStart s u).free = s.free ∧ (crcStart s u).dram
    = s.dram ∧ (crcStart s u).scan = s.scan ∧ (crcStart s u).pix = s.pix ∧ (crcStart s u).gal = s.gal ∧ (crcStart s
    u).eng = s.eng ∧ (crcStart s u).stats = s.stats ∧ (crcStart s u).shd = s.shd ∧ (crcStart s u).guard = s.guard ∧
    (crcStart s u).diag = s.diag ∧ (crcStart s u).cal = s.cal ∧ (crcStart s u).net = s.net ∧ (crcStart s u).mbx =
    s.mbx ∧ (crcStart s u).io = s.io ∧ (crcStart s u).pins = s.pins ∧ (crcStart s u).aux = s.aux ∧ (crcStart s u).clk
    = s.clk ∧ (crcStart s u).pwr = s.pwr ∧ (crcStart s u).boot = s.boot ∧ (crcStart s u).thm = s.thm ∧ (crcStart s
    u).ddr = s.ddr ∧ (crcStart s u).mram = s.mram ∧ (crcStart s u).flash = s.flash ∧ (crcStart s u).flt = s.flt ∧
    (crcStart s u).evt = s.evt := by
  unfold crcStart
  simp
def crcStartRegs : List Field := wignRegs ++ allOf 4 CRC.U.COUNT ++ allOf 4 CRC.U.RUNNING
@[simp] theorem crcStart_word {key : Nat} (hk : Outside crcStartRegs key) (s : State) (u : Nat)  : wordAt (crcStart s
    u).regs key = wordAt s.regs key := by
  simp only [crcStartRegs, outside_append, outside_cons, outside_nil, and_true, outside_CRC_U_COUNT, outside_CRC_U_RUNNING] at hk
  unfold crcStart
  simp [hk]
@[simp] theorem crcFeed_keep (s : State) (u : Nat) (l : List Byte) : (crcFeed s u l).pending = s.pending ∧ (crcFeed s
    u l).act = s.act ∧ (crcFeed s u l).lt = s.lt ∧ (crcFeed s u l).synced = s.synced ∧ (crcFeed s u l).free = s.free ∧
    (crcFeed s u l).dram = s.dram ∧ (crcFeed s u l).scan = s.scan ∧ (crcFeed s u l).pix = s.pix ∧ (crcFeed s u l).gal
    = s.gal ∧ (crcFeed s u l).eng = s.eng ∧ (crcFeed s u l).stats = s.stats ∧ (crcFeed s u l).shd = s.shd ∧ (crcFeed s
    u l).guard = s.guard ∧ (crcFeed s u l).diag = s.diag ∧ (crcFeed s u l).cal = s.cal ∧ (crcFeed s u l).net = s.net ∧
    (crcFeed s u l).mbx = s.mbx ∧ (crcFeed s u l).io = s.io ∧ (crcFeed s u l).pins = s.pins ∧ (crcFeed s u l).aux =
    s.aux ∧ (crcFeed s u l).clk = s.clk ∧ (crcFeed s u l).pwr = s.pwr ∧ (crcFeed s u l).boot = s.boot ∧ (crcFeed s u
    l).thm = s.thm ∧ (crcFeed s u l).ddr = s.ddr ∧ (crcFeed s u l).mram = s.mram ∧ (crcFeed s u l).flash = s.flash ∧
    (crcFeed s u l).flt = s.flt ∧ (crcFeed s u l).evt = s.evt := by
  unfold crcFeed
  simp
def crcFeedRegs : List Field := wignRegs ++ allOf 4 CRC.U.COUNT ++ allOf 4 CRC.U.RUNNING
@[simp] theorem crcFeed_word {key : Nat} (hk : Outside crcFeedRegs key) (s : State) (u : Nat) (l : List Byte)  :
    wordAt (crcFeed s u l).regs key = wordAt s.regs key := by
  simp only [crcFeedRegs, outside_append, outside_cons, outside_nil, and_true, outside_CRC_U_COUNT, outside_CRC_U_RUNNING] at hk
  unfold crcFeed
  simp [hk]
@[simp] theorem crcWrite_keep (s : State) (u o : Nat) (w : Word) : (crcWrite s u o w).pending = s.pending ∧ (crcWrite
    s u o w).act = s.act ∧ (crcWrite s u o w).lt = s.lt ∧ (crcWrite s u o w).synced = s.synced ∧ (crcWrite s u o
    w).free = s.free ∧ (crcWrite s u o w).dram = s.dram ∧ (crcWrite s u o w).scan = s.scan ∧ (crcWrite s u o w).pix =
    s.pix ∧ (crcWrite s u o w).gal = s.gal ∧ (crcWrite s u o w).eng = s.eng ∧ (crcWrite s u o w).stats = s.stats ∧
    (crcWrite s u o w).shd = s.shd ∧ (crcWrite s u o w).guard = s.guard ∧ (crcWrite s u o w).diag = s.diag ∧ (crcWrite
    s u o w).cal = s.cal ∧ (crcWrite s u o w).net = s.net ∧ (crcWrite s u o w).mbx = s.mbx ∧ (crcWrite s u o w).io =
    s.io ∧ (crcWrite s u o w).pins = s.pins ∧ (crcWrite s u o w).aux = s.aux ∧ (crcWrite s u o w).clk = s.clk ∧
    (crcWrite s u o w).pwr = s.pwr ∧ (crcWrite s u o w).boot = s.boot ∧ (crcWrite s u o w).thm = s.thm ∧ (crcWrite s u
    o w).ddr = s.ddr ∧ (crcWrite s u o w).mram = s.mram ∧ (crcWrite s u o w).flash = s.flash ∧ (crcWrite s u o w).flt
    = s.flt ∧ (crcWrite s u o w).evt = s.evt := by
  unfold crcWrite
  split <;> simp
def crcWriteRegs : List Field := crcStartRegs ++ crcFeedRegs
@[simp] theorem crcWrite_word {key : Nat} (hk : Outside crcWriteRegs key) (s : State) (u o : Nat) (w : Word)  : wordAt
    (crcWrite s u o w).regs key = wordAt s.regs key := by
  simp only [crcWriteRegs, outside_append, outside_cons, outside_nil, and_true] at hk
  unfold crcWrite
  split <;> simp [hk]
@[simp] theorem hostMode_keep (s : State) : (hostMode s).pending = s.pending ∧ (hostMode s).regs = s.regs ∧ (hostMode
    s).act = s.act ∧ (hostMode s).lt = s.lt ∧ (hostMode s).synced = s.synced ∧ (hostMode s).free = s.free ∧ (hostMode
    s).dram = s.dram ∧ (hostMode s).scan = s.scan ∧ (hostMode s).pix = s.pix ∧ (hostMode s).gal = s.gal ∧ (hostMode
    s).stats = s.stats ∧ (hostMode s).shd = s.shd ∧ (hostMode s).guard = s.guard ∧ (hostMode s).diag = s.diag ∧
    (hostMode s).cal = s.cal ∧ (hostMode s).net = s.net ∧ (hostMode s).mbx = s.mbx ∧ (hostMode s).io = s.io ∧
    (hostMode s).pins = s.pins ∧ (hostMode s).aux = s.aux ∧ (hostMode s).clk = s.clk ∧ (hostMode s).pwr = s.pwr ∧
    (hostMode s).boot = s.boot ∧ (hostMode s).thm = s.thm ∧ (hostMode s).ddr = s.ddr ∧ (hostMode s).mram = s.mram ∧
    (hostMode s).flash = s.flash ∧ (hostMode s).flt = s.flt ∧ (hostMode s).evt = s.evt := by
  unfold hostMode
  simp
@[simp] theorem plainWrite_keep (s : State) (f : Field) (v : Nat) : (plainWrite s f v).pending = s.pending ∧
    (plainWrite s f v).lt = s.lt ∧ (plainWrite s f v).synced = s.synced ∧ (plainWrite s f v).free = s.free ∧
    (plainWrite s f v).dram = s.dram ∧ (plainWrite s f v).scan = s.scan ∧ (plainWrite s f v).pix = s.pix ∧ (plainWrite
    s f v).gal = s.gal ∧ (plainWrite s f v).stats = s.stats ∧ (plainWrite s f v).shd = s.shd ∧ (plainWrite s f
    v).guard = s.guard ∧ (plainWrite s f v).diag = s.diag ∧ (plainWrite s f v).cal = s.cal ∧ (plainWrite s f v).net =
    s.net ∧ (plainWrite s f v).mbx = s.mbx ∧ (plainWrite s f v).io = s.io ∧ (plainWrite s f v).pins = s.pins ∧
    (plainWrite s f v).aux = s.aux ∧ (plainWrite s f v).clk = s.clk ∧ (plainWrite s f v).pwr = s.pwr ∧ (plainWrite s f
    v).boot = s.boot ∧ (plainWrite s f v).thm = s.thm ∧ (plainWrite s f v).ddr = s.ddr ∧ (plainWrite s f v).mram =
    s.mram ∧ (plainWrite s f v).flash = s.flash ∧ (plainWrite s f v).flt = s.flt ∧ (plainWrite s f v).evt = s.evt := by
  unfold plainWrite
  simp
@[simp] theorem enWrite_keep (s : State) (n : Nat) (f : Field) (b : Bool) : (enWrite s n f b).pending = s.pending ∧
    (enWrite s n f b).act = s.act ∧ (enWrite s n f b).lt = s.lt ∧ (enWrite s n f b).synced = s.synced ∧ (enWrite s n f
    b).free = s.free ∧ (enWrite s n f b).dram = s.dram ∧ (enWrite s n f b).gal = s.gal ∧ (enWrite s n f b).eng = s.eng
    ∧ (enWrite s n f b).stats = s.stats ∧ (enWrite s n f b).guard = s.guard ∧ (enWrite s n f b).diag = s.diag ∧
    (enWrite s n f b).cal = s.cal ∧ (enWrite s n f b).mbx = s.mbx ∧ (enWrite s n f b).io = s.io ∧ (enWrite s n f
    b).pins = s.pins ∧ (enWrite s n f b).clk = s.clk ∧ (enWrite s n f b).pwr = s.pwr ∧ (enWrite s n f b).boot = s.boot
    ∧ (enWrite s n f b).thm = s.thm ∧ (enWrite s n f b).ddr = s.ddr ∧ (enWrite s n f b).mram = s.mram ∧ (enWrite s n f
    b).flash = s.flash ∧ (enWrite s n f b).evt = s.evt := by
  unfold enWrite
  (try simp) <;> (repeat' apply And.intro) <;> (repeat' split) <;> (try simp)
@[simp] theorem fieldWrite_keep (s : State) (n : Nat) (on : Bool) (f : Field) (v : Nat) : (fieldWrite s n on f
    v).pending = s.pending ∧ (fieldWrite s n on f v).lt = s.lt ∧ (fieldWrite s n on f v).synced = s.synced ∧
    (fieldWrite s n on f v).free = s.free ∧ (fieldWrite s n on f v).dram = s.dram ∧ (fieldWrite s n on f v).scan =
    s.scan ∧ (fieldWrite s n on f v).pix = s.pix ∧ (fieldWrite s n on f v).stats = s.stats ∧ (fieldWrite s n on f
    v).shd = s.shd ∧ (fieldWrite s n on f v).guard = s.guard ∧ (fieldWrite s n on f v).diag = s.diag ∧ (fieldWrite s n
    on f v).cal = s.cal ∧ (fieldWrite s n on f v).net = s.net ∧ (fieldWrite s n on f v).mbx = s.mbx ∧ (fieldWrite s n
    on f v).io = s.io ∧ (fieldWrite s n on f v).pins = s.pins ∧ (fieldWrite s n on f v).aux = s.aux ∧ (fieldWrite s n
    on f v).pwr = s.pwr ∧ (fieldWrite s n on f v).boot = s.boot ∧ (fieldWrite s n on f v).thm = s.thm ∧ (fieldWrite s
    n on f v).ddr = s.ddr ∧ (fieldWrite s n on f v).mram = s.mram ∧ (fieldWrite s n on f v).flash = s.flash ∧
    (fieldWrite s n on f v).flt = s.flt ∧ (fieldWrite s n on f v).evt = s.evt := by
  unfold fieldWrite
  (try simp) <;> (repeat' apply And.intro) <;> (repeat' split) <;> (try simp)
@[simp] theorem commandWrite_keep (s : State) (a : Nat) (w : Word) : (commandWrite s a w).pending = s.pending ∧
    (commandWrite s a w).free = s.free ∧ (commandWrite s a w).dram = s.dram ∧ (commandWrite s a w).pix = s.pix ∧
    (commandWrite s a w).gal = s.gal ∧ (commandWrite s a w).eng = s.eng ∧ (commandWrite s a w).stats = s.stats ∧
    (commandWrite s a w).guard = s.guard ∧ (commandWrite s a w).diag = s.diag ∧ (commandWrite s a w).cal = s.cal ∧
    (commandWrite s a w).io = s.io ∧ (commandWrite s a w).pins = s.pins ∧ (commandWrite s a w).aux = s.aux ∧
    (commandWrite s a w).clk = s.clk ∧ (commandWrite s a w).thm = s.thm ∧ (commandWrite s a w).ddr = s.ddr ∧
    (commandWrite s a w).mram = s.mram ∧ (commandWrite s a w).flash = s.flash := by
  unfold commandWrite
  simp
def commandWriteRegs : List Field := fltAckRegs ++ doorbellRegs ++ requestCommitRegs ++ fenceAddRegs ++ iomuxApplyRegs
    ++ portDownRegs ++ startTrainingRegs ++ crcWriteRegs
@[simp] theorem commandWrite_word {key : Nat} (hk : Outside commandWriteRegs key) (s : State) (a : Nat) (w : Word)  :
    wordAt (commandWrite s a w).regs key = wordAt s.regs key := by
  simp only [commandWriteRegs, outside_append, outside_cons, outside_nil, and_true] at hk
  unfold commandWrite
  simp [hk]
@[simp] theorem wordWrite_keep (s : State) (a : Nat) (w : Word) : (wordWrite s a w).pending = s.pending ∧ (wordWrite s
    a w).free = s.free ∧ (wordWrite s a w).dram = s.dram ∧ (wordWrite s a w).stats = s.stats ∧ (wordWrite s a w).guard
    = s.guard ∧ (wordWrite s a w).diag = s.diag ∧ (wordWrite s a w).cal = s.cal ∧ (wordWrite s a w).io = s.io ∧
    (wordWrite s a w).pins = s.pins ∧ (wordWrite s a w).thm = s.thm ∧ (wordWrite s a w).ddr = s.ddr ∧ (wordWrite s a
    w).mram = s.mram ∧ (wordWrite s a w).flash = s.flash := by
  unfold wordWrite
  (try simp) <;> (repeat' apply And.intro) <;> (repeat' split) <;> (try simp)
@[simp] theorem bitWrite_keep (s : State) (a k : Nat) (b : Bool) : (bitWrite s a k b).pending = s.pending ∧ (bitWrite
    s a k b).free = s.free ∧ (bitWrite s a k b).dram = s.dram ∧ (bitWrite s a k b).stats = s.stats ∧ (bitWrite s a k
    b).guard = s.guard ∧ (bitWrite s a k b).diag = s.diag ∧ (bitWrite s a k b).cal = s.cal ∧ (bitWrite s a k b).io =
    s.io ∧ (bitWrite s a k b).pins = s.pins ∧ (bitWrite s a k b).thm = s.thm ∧ (bitWrite s a k b).ddr = s.ddr ∧
    (bitWrite s a k b).mram = s.mram ∧ (bitWrite s a k b).flash = s.flash := by
  unfold bitWrite
  (try simp) <;> (repeat' apply And.intro) <;> (repeat' split) <;> (try simp)
@[simp] theorem busRead_keep (s : State) (x : Nat) : (busRead s x).1.pending = s.pending ∧ (busRead s x).1.act = s.act
    ∧ (busRead s x).1.lt = s.lt ∧ (busRead s x).1.synced = s.synced ∧ (busRead s x).1.dram = s.dram ∧ (busRead s
    x).1.scan = s.scan ∧ (busRead s x).1.pix = s.pix ∧ (busRead s x).1.gal = s.gal ∧ (busRead s x).1.eng = s.eng ∧
    (busRead s x).1.stats = s.stats ∧ (busRead s x).1.shd = s.shd ∧ (busRead s x).1.guard = s.guard ∧ (busRead s
    x).1.diag = s.diag ∧ (busRead s x).1.cal = s.cal ∧ (busRead s x).1.net = s.net ∧ (busRead s x).1.mbx = s.mbx ∧
    (busRead s x).1.io = s.io ∧ (busRead s x).1.pins = s.pins ∧ (busRead s x).1.aux = s.aux ∧ (busRead s x).1.clk =
    s.clk ∧ (busRead s x).1.pwr = s.pwr ∧ (busRead s x).1.boot = s.boot ∧ (busRead s x).1.thm = s.thm ∧ (busRead s
    x).1.ddr = s.ddr ∧ (busRead s x).1.mram = s.mram ∧ (busRead s x).1.flash = s.flash ∧ (busRead s x).1.flt = s.flt ∧
    (busRead s x).1.evt = s.evt := by
  unfold busRead
  (try simp) <;> (repeat' apply And.intro) <;> (repeat' split) <;> (try simp)
theorem busWriteQ_keep {s t : State} {x : Nat} {w : Word} (h : busWrite? s x w = some t) : t.pending = s.pending ∧
    t.free = s.free ∧ t.dram = s.dram ∧ t.stats = s.stats ∧ t.guard = s.guard ∧ t.diag = s.diag ∧ t.cal = s.cal ∧ t.io
    = s.io ∧ t.pins = s.pins ∧ t.thm = s.thm ∧ t.ddr = s.ddr ∧ t.mram = s.mram ∧ t.flash = s.flash := by
  unfold busWrite? at h
  split at h
  · cases h
  · cases h
    (repeat' apply And.intro) <;> split <;> simp
@[simp] theorem busWrite_keep (s : State) (x : Nat) (w : Word) : (busWrite s x w).pending = s.pending ∧ (busWrite s x
    w).free = s.free ∧ (busWrite s x w).dram = s.dram ∧ (busWrite s x w).stats = s.stats ∧ (busWrite s x w).guard =
    s.guard ∧ (busWrite s x w).diag = s.diag ∧ (busWrite s x w).cal = s.cal ∧ (busWrite s x w).io = s.io ∧ (busWrite s
    x w).pins = s.pins ∧ (busWrite s x w).thm = s.thm ∧ (busWrite s x w).ddr = s.ddr ∧ (busWrite s x w).mram = s.mram
    ∧ (busWrite s x w).flash = s.flash := by
  unfold busWrite
  cases h : busWrite? s x w with
  | none => simp
  | some t => simpa using busWriteQ_keep h
@[simp] theorem readAccess_keep (s : State) (x : Nat) : (readAccess s x).pending = s.pending ∧ (readAccess s x).act =
    s.act ∧ (readAccess s x).lt = s.lt ∧ (readAccess s x).synced = s.synced ∧ (readAccess s x).dram = s.dram ∧
    (readAccess s x).scan = s.scan ∧ (readAccess s x).pix = s.pix ∧ (readAccess s x).gal = s.gal ∧ (readAccess s
    x).eng = s.eng ∧ (readAccess s x).stats = s.stats ∧ (readAccess s x).shd = s.shd ∧ (readAccess s x).guard =
    s.guard ∧ (readAccess s x).diag = s.diag ∧ (readAccess s x).cal = s.cal ∧ (readAccess s x).net = s.net ∧
    (readAccess s x).mbx = s.mbx ∧ (readAccess s x).pins = s.pins ∧ (readAccess s x).aux = s.aux ∧ (readAccess s
    x).clk = s.clk ∧ (readAccess s x).pwr = s.pwr ∧ (readAccess s x).boot = s.boot ∧ (readAccess s x).thm = s.thm ∧
    (readAccess s x).ddr = s.ddr ∧ (readAccess s x).mram = s.mram ∧ (readAccess s x).flash = s.flash ∧ (readAccess s
    x).flt = s.flt ∧ (readAccess s x).evt = s.evt := by
  unfold readAccess
  simp
@[simp] theorem readBurst_keep (s : State) (x n : Nat) : (readBurst s x n).1.pending = s.pending ∧ (readBurst s x
    n).1.act = s.act ∧ (readBurst s x n).1.lt = s.lt ∧ (readBurst s x n).1.synced = s.synced ∧ (readBurst s x
    n).1.dram = s.dram ∧ (readBurst s x n).1.scan = s.scan ∧ (readBurst s x n).1.pix = s.pix ∧ (readBurst s x n).1.gal
    = s.gal ∧ (readBurst s x n).1.eng = s.eng ∧ (readBurst s x n).1.stats = s.stats ∧ (readBurst s x n).1.shd = s.shd
    ∧ (readBurst s x n).1.guard = s.guard ∧ (readBurst s x n).1.diag = s.diag ∧ (readBurst s x n).1.cal = s.cal ∧
    (readBurst s x n).1.net = s.net ∧ (readBurst s x n).1.mbx = s.mbx ∧ (readBurst s x n).1.io = s.io ∧ (readBurst s x
    n).1.pins = s.pins ∧ (readBurst s x n).1.aux = s.aux ∧ (readBurst s x n).1.clk = s.clk ∧ (readBurst s x n).1.pwr =
    s.pwr ∧ (readBurst s x n).1.boot = s.boot ∧ (readBurst s x n).1.thm = s.thm ∧ (readBurst s x n).1.ddr = s.ddr ∧
    (readBurst s x n).1.mram = s.mram ∧ (readBurst s x n).1.flash = s.flash ∧ (readBurst s x n).1.flt = s.flt ∧
    (readBurst s x n).1.evt = s.evt := by
  induction n generalizing s x with
  | zero => simp [readBurst]
  | succ n ih =>
    have hb := busRead_keep s x
    simp only [readBurst]
    split
    · next e => simp only [e] at hb; simp [ih, hb]
    · simp
@[simp] theorem writeBurst_keep (s : State) (x : Nat) (l : List Word) : (writeBurst s x l).1.pending = s.pending ∧
    (writeBurst s x l).1.free = s.free ∧ (writeBurst s x l).1.dram = s.dram ∧ (writeBurst s x l).1.stats = s.stats ∧
    (writeBurst s x l).1.guard = s.guard ∧ (writeBurst s x l).1.diag = s.diag ∧ (writeBurst s x l).1.cal = s.cal ∧
    (writeBurst s x l).1.io = s.io ∧ (writeBurst s x l).1.pins = s.pins ∧ (writeBurst s x l).1.thm = s.thm ∧
    (writeBurst s x l).1.ddr = s.ddr ∧ (writeBurst s x l).1.mram = s.mram ∧ (writeBurst s x l).1.flash = s.flash := by
  induction l generalizing s x with
  | nil => simp [writeBurst]
  | cons w t ih =>
    simp only [writeBurst]
    split
    · next e => have hb := busWriteQ_keep e; simp [ih, hb]
    · simp
@[simp] theorem spiSend_keep (s : State) (l : List Byte) : (spiSend s l).pending = s.pending ∧ (spiSend s l).regs =
    s.regs ∧ (spiSend s l).act = s.act ∧ (spiSend s l).lt = s.lt ∧ (spiSend s l).synced = s.synced ∧ (spiSend s
    l).free = s.free ∧ (spiSend s l).dram = s.dram ∧ (spiSend s l).scan = s.scan ∧ (spiSend s l).pix = s.pix ∧
    (spiSend s l).gal = s.gal ∧ (spiSend s l).eng = s.eng ∧ (spiSend s l).stats = s.stats ∧ (spiSend s l).shd = s.shd
    ∧ (spiSend s l).guard = s.guard ∧ (spiSend s l).diag = s.diag ∧ (spiSend s l).cal = s.cal ∧ (spiSend s l).net =
    s.net ∧ (spiSend s l).mbx = s.mbx ∧ (spiSend s l).pins = s.pins ∧ (spiSend s l).aux = s.aux ∧ (spiSend s l).clk =
    s.clk ∧ (spiSend s l).pwr = s.pwr ∧ (spiSend s l).boot = s.boot ∧ (spiSend s l).thm = s.thm ∧ (spiSend s l).ddr =
    s.ddr ∧ (spiSend s l).mram = s.mram ∧ (spiSend s l).flash = s.flash ∧ (spiSend s l).flt = s.flt ∧ (spiSend s
    l).evt = s.evt := by
  unfold spiSend
  simp
@[simp] theorem spiSilent_keep (s : State) (n : Nat) : (spiSilent s n).pending = s.pending ∧ (spiSilent s n).regs =
    s.regs ∧ (spiSilent s n).act = s.act ∧ (spiSilent s n).lt = s.lt ∧ (spiSilent s n).synced = s.synced ∧ (spiSilent
    s n).free = s.free ∧ (spiSilent s n).dram = s.dram ∧ (spiSilent s n).scan = s.scan ∧ (spiSilent s n).pix = s.pix ∧
    (spiSilent s n).gal = s.gal ∧ (spiSilent s n).eng = s.eng ∧ (spiSilent s n).stats = s.stats ∧ (spiSilent s n).shd
    = s.shd ∧ (spiSilent s n).guard = s.guard ∧ (spiSilent s n).diag = s.diag ∧ (spiSilent s n).cal = s.cal ∧
    (spiSilent s n).net = s.net ∧ (spiSilent s n).mbx = s.mbx ∧ (spiSilent s n).pins = s.pins ∧ (spiSilent s n).aux =
    s.aux ∧ (spiSilent s n).clk = s.clk ∧ (spiSilent s n).pwr = s.pwr ∧ (spiSilent s n).boot = s.boot ∧ (spiSilent s
    n).thm = s.thm ∧ (spiSilent s n).ddr = s.ddr ∧ (spiSilent s n).mram = s.mram ∧ (spiSilent s n).flash = s.flash ∧
    (spiSilent s n).flt = s.flt ∧ (spiSilent s n).evt = s.evt := by
  unfold spiSilent
  simp [-List.reduceReplicate]
@[simp] theorem spiRead_keep (s : State) (addr : Word) (len : Nat) (hcrc : Word) : (spiRead s addr len hcrc).pending =
    s.pending ∧ (spiRead s addr len hcrc).act = s.act ∧ (spiRead s addr len hcrc).lt = s.lt ∧ (spiRead s addr len
    hcrc).synced = s.synced ∧ (spiRead s addr len hcrc).dram = s.dram ∧ (spiRead s addr len hcrc).scan = s.scan ∧
    (spiRead s addr len hcrc).pix = s.pix ∧ (spiRead s addr len hcrc).gal = s.gal ∧ (spiRead s addr len hcrc).eng =
    s.eng ∧ (spiRead s addr len hcrc).stats = s.stats ∧ (spiRead s addr len hcrc).shd = s.shd ∧ (spiRead s addr len
    hcrc).guard = s.guard ∧ (spiRead s addr len hcrc).diag = s.diag ∧ (spiRead s addr len hcrc).cal = s.cal ∧ (spiRead
    s addr len hcrc).net = s.net ∧ (spiRead s addr len hcrc).mbx = s.mbx ∧ (spiRead s addr len hcrc).pins = s.pins ∧
    (spiRead s addr len hcrc).aux = s.aux ∧ (spiRead s addr len hcrc).clk = s.clk ∧ (spiRead s addr len hcrc).pwr =
    s.pwr ∧ (spiRead s addr len hcrc).boot = s.boot ∧ (spiRead s addr len hcrc).thm = s.thm ∧ (spiRead s addr len
    hcrc).ddr = s.ddr ∧ (spiRead s addr len hcrc).mram = s.mram ∧ (spiRead s addr len hcrc).flash = s.flash ∧ (spiRead
    s addr len hcrc).flt = s.flt ∧ (spiRead s addr len hcrc).evt = s.evt := by
  unfold spiRead
  simp
@[simp] theorem spiWrite_keep (s : State) (addr : Word) (len : Nat) (hcrc : Word) (data : List Word) (dcrc : Word) :
    (spiWrite s addr len hcrc data dcrc).pending = s.pending ∧ (spiWrite s addr len hcrc data dcrc).free = s.free ∧
    (spiWrite s addr len hcrc data dcrc).dram = s.dram ∧ (spiWrite s addr len hcrc data dcrc).stats = s.stats ∧
    (spiWrite s addr len hcrc data dcrc).guard = s.guard ∧ (spiWrite s addr len hcrc data dcrc).diag = s.diag ∧
    (spiWrite s addr len hcrc data dcrc).cal = s.cal ∧ (spiWrite s addr len hcrc data dcrc).pins = s.pins ∧ (spiWrite
    s addr len hcrc data dcrc).thm = s.thm ∧ (spiWrite s addr len hcrc data dcrc).ddr = s.ddr ∧ (spiWrite s addr len
    hcrc data dcrc).mram = s.mram ∧ (spiWrite s addr len hcrc data dcrc).flash = s.flash := by
  unfold spiWrite
  simp
@[simp] theorem spiReread_keep (s : State) (len : Nat) (addr hcrc : Word) : (spiReread s len addr hcrc).pending =
    s.pending ∧ (spiReread s len addr hcrc).regs = s.regs ∧ (spiReread s len addr hcrc).act = s.act ∧ (spiReread s len
    addr hcrc).lt = s.lt ∧ (spiReread s len addr hcrc).synced = s.synced ∧ (spiReread s len addr hcrc).free = s.free ∧
    (spiReread s len addr hcrc).dram = s.dram ∧ (spiReread s len addr hcrc).scan = s.scan ∧ (spiReread s len addr
    hcrc).pix = s.pix ∧ (spiReread s len addr hcrc).gal = s.gal ∧ (spiReread s len addr hcrc).eng = s.eng ∧ (spiReread
    s len addr hcrc).stats = s.stats ∧ (spiReread s len addr hcrc).shd = s.shd ∧ (spiReread s len addr hcrc).guard =
    s.guard ∧ (spiReread s len addr hcrc).diag = s.diag ∧ (spiReread s len addr hcrc).cal = s.cal ∧ (spiReread s len
    addr hcrc).net = s.net ∧ (spiReread s len addr hcrc).mbx = s.mbx ∧ (spiReread s len addr hcrc).pins = s.pins ∧
    (spiReread s len addr hcrc).aux = s.aux ∧ (spiReread s len addr hcrc).clk = s.clk ∧ (spiReread s len addr
    hcrc).pwr = s.pwr ∧ (spiReread s len addr hcrc).boot = s.boot ∧ (spiReread s len addr hcrc).thm = s.thm ∧
    (spiReread s len addr hcrc).ddr = s.ddr ∧ (spiReread s len addr hcrc).mram = s.mram ∧ (spiReread s len addr
    hcrc).flash = s.flash ∧ (spiReread s len addr hcrc).flt = s.flt ∧ (spiReread s len addr hcrc).evt = s.evt := by
  unfold spiReread
  simp

end Sys2Proof.Machine
end

