-- ==== Sys2Proof/Laws/FrameMailSystem.lean ====
section
/-! SUPPORT. FrameMailSystem.lean: for each operation of Machine/MailSystem.lean, the parts of State that it leaves alone and the register
fields outside which it changes none. -/

set_option linter.unusedSimpArgs false

namespace Sys2Proof.Machine

set_option Elab.async false

@[simp] theorem setLt_keep (mb : Nat) (s : State) (p : List Byte) : (setLt mb s p).pending = s.pending ∧ (setLt mb s
    p).regs = s.regs ∧ (setLt mb s p).act = s.act ∧ (setLt mb s p).free = s.free ∧ (setLt mb s p).dram = s.dram ∧
    (setLt mb s p).scan = s.scan ∧ (setLt mb s p).pix = s.pix ∧ (setLt mb s p).gal = s.gal ∧ (setLt mb s p).eng =
    s.eng ∧ (setLt mb s p).stats = s.stats ∧ (setLt mb s p).shd = s.shd ∧ (setLt mb s p).guard = s.guard ∧ (setLt mb s
    p).diag = s.diag ∧ (setLt mb s p).cal = s.cal ∧ (setLt mb s p).io = s.io ∧ (setLt mb s p).pins = s.pins ∧ (setLt
    mb s p).aux = s.aux ∧ (setLt mb s p).clk = s.clk ∧ (setLt mb s p).pwr = s.pwr ∧ (setLt mb s p).boot = s.boot ∧
    (setLt mb s p).thm = s.thm ∧ (setLt mb s p).ddr = s.ddr ∧ (setLt mb s p).mram = s.mram ∧ (setLt mb s p).flash =
    s.flash ∧ (setLt mb s p).evt = s.evt := by
  unfold setLt
  simp
@[simp] theorem regRead_keep (mb : Nat) (s : State) (p : List Byte) : (regRead mb s p).pending = s.pending ∧ (regRead
    mb s p).act = s.act ∧ (regRead mb s p).lt = s.lt ∧ (regRead mb s p).synced = s.synced ∧ (regRead mb s p).dram =
    s.dram ∧ (regRead mb s p).scan = s.scan ∧ (regRead mb s p).pix = s.pix ∧ (regRead mb s p).gal = s.gal ∧ (regRead
    mb s p).eng = s.eng ∧ (regRead mb s p).stats = s.stats ∧ (regRead mb s p).shd = s.shd ∧ (regRead mb s p).guard =
    s.guard ∧ (regRead mb s p).diag = s.diag ∧ (regRead mb s p).cal = s.cal ∧ (regRead mb s p).io = s.io ∧ (regRead mb
    s p).pins = s.pins ∧ (regRead mb s p).aux = s.aux ∧ (regRead mb s p).clk = s.clk ∧ (regRead mb s p).pwr = s.pwr ∧
    (regRead mb s p).boot = s.boot ∧ (regRead mb s p).thm = s.thm ∧ (regRead mb s p).ddr = s.ddr ∧ (regRead mb s
    p).mram = s.mram ∧ (regRead mb s p).flash = s.flash ∧ (regRead mb s p).evt = s.evt := by
  unfold regRead
  simp
@[simp] theorem regWrite_keep (mb : Nat) (s : State) (p : List Byte) : (regWrite mb s p).pending = s.pending ∧
    (regWrite mb s p).free = s.free ∧ (regWrite mb s p).dram = s.dram ∧ (regWrite mb s p).stats = s.stats ∧ (regWrite
    mb s p).guard = s.guard ∧ (regWrite mb s p).diag = s.diag ∧ (regWrite mb s p).cal = s.cal ∧ (regWrite mb s p).io =
    s.io ∧ (regWrite mb s p).pins = s.pins ∧ (regWrite mb s p).thm = s.thm ∧ (regWrite mb s p).ddr = s.ddr ∧ (regWrite
    mb s p).mram = s.mram ∧ (regWrite mb s p).flash = s.flash := by
  unfold regWrite
  simp
@[simp] theorem addSession_keep (s : State) (m : Mb) (key : Nat) (hn : List Byte) : (addSession s m key hn).1.pending
    = s.pending ∧ (addSession s m key hn).1.regs = s.regs ∧ (addSession s m key hn).1.act = s.act ∧ (addSession s m
    key hn).1.lt = s.lt ∧ (addSession s m key hn).1.synced = s.synced ∧ (addSession s m key hn).1.dram = s.dram ∧
    (addSession s m key hn).1.scan = s.scan ∧ (addSession s m key hn).1.pix = s.pix ∧ (addSession s m key hn).1.gal =
    s.gal ∧ (addSession s m key hn).1.eng = s.eng ∧ (addSession s m key hn).1.stats = s.stats ∧ (addSession s m key
    hn).1.shd = s.shd ∧ (addSession s m key hn).1.guard = s.guard ∧ (addSession s m key hn).1.diag = s.diag ∧
    (addSession s m key hn).1.cal = s.cal ∧ (addSession s m key hn).1.net = s.net ∧ (addSession s m key hn).1.io =
    s.io ∧ (addSession s m key hn).1.pins = s.pins ∧ (addSession s m key hn).1.aux = s.aux ∧ (addSession s m key
    hn).1.clk = s.clk ∧ (addSession s m key hn).1.pwr = s.pwr ∧ (addSession s m key hn).1.boot = s.boot ∧ (addSession
    s m key hn).1.thm = s.thm ∧ (addSession s m key hn).1.ddr = s.ddr ∧ (addSession s m key hn).1.mram = s.mram ∧
    (addSession s m key hn).1.flash = s.flash ∧ (addSession s m key hn).1.flt = s.flt ∧ (addSession s m key hn).1.evt
    = s.evt := by
  unfold addSession
  simp
@[simp] theorem sessionOpen_keep (mb : Nat) (s : State) (p : List Byte) : (sessionOpen mb s p).pending = s.pending ∧
    (sessionOpen mb s p).regs = s.regs ∧ (sessionOpen mb s p).act = s.act ∧ (sessionOpen mb s p).lt = s.lt ∧
    (sessionOpen mb s p).synced = s.synced ∧ (sessionOpen mb s p).dram = s.dram ∧ (sessionOpen mb s p).scan = s.scan ∧
    (sessionOpen mb s p).pix = s.pix ∧ (sessionOpen mb s p).gal = s.gal ∧ (sessionOpen mb s p).eng = s.eng ∧
    (sessionOpen mb s p).stats = s.stats ∧ (sessionOpen mb s p).shd = s.shd ∧ (sessionOpen mb s p).guard = s.guard ∧
    (sessionOpen mb s p).diag = s.diag ∧ (sessionOpen mb s p).cal = s.cal ∧ (sessionOpen mb s p).io = s.io ∧
    (sessionOpen mb s p).pins = s.pins ∧ (sessionOpen mb s p).aux = s.aux ∧ (sessionOpen mb s p).clk = s.clk ∧
    (sessionOpen mb s p).pwr = s.pwr ∧ (sessionOpen mb s p).boot = s.boot ∧ (sessionOpen mb s p).thm = s.thm ∧
    (sessionOpen mb s p).ddr = s.ddr ∧ (sessionOpen mb s p).mram = s.mram ∧ (sessionOpen mb s p).flash = s.flash ∧
    (sessionOpen mb s p).evt = s.evt := by
  unfold sessionOpen
  simp
@[simp] theorem sessionAuth_keep (mb : Nat) (s : State) (p : List Byte) : (sessionAuth mb s p).pending = s.pending ∧
    (sessionAuth mb s p).regs = s.regs ∧ (sessionAuth mb s p).act = s.act ∧ (sessionAuth mb s p).lt = s.lt ∧
    (sessionAuth mb s p).synced = s.synced ∧ (sessionAuth mb s p).free = s.free ∧ (sessionAuth mb s p).dram = s.dram ∧
    (sessionAuth mb s p).scan = s.scan ∧ (sessionAuth mb s p).pix = s.pix ∧ (sessionAuth mb s p).gal = s.gal ∧
    (sessionAuth mb s p).eng = s.eng ∧ (sessionAuth mb s p).stats = s.stats ∧ (sessionAuth mb s p).shd = s.shd ∧
    (sessionAuth mb s p).guard = s.guard ∧ (sessionAuth mb s p).diag = s.diag ∧ (sessionAuth mb s p).cal = s.cal ∧
    (sessionAuth mb s p).io = s.io ∧ (sessionAuth mb s p).pins = s.pins ∧ (sessionAuth mb s p).aux = s.aux ∧
    (sessionAuth mb s p).clk = s.clk ∧ (sessionAuth mb s p).pwr = s.pwr ∧ (sessionAuth mb s p).boot = s.boot ∧
    (sessionAuth mb s p).thm = s.thm ∧ (sessionAuth mb s p).ddr = s.ddr ∧ (sessionAuth mb s p).mram = s.mram ∧
    (sessionAuth mb s p).flash = s.flash ∧ (sessionAuth mb s p).evt = s.evt := by
  unfold sessionAuth
  split <;> simp
@[simp] theorem sessionClose_keep (mb : Nat) (s : State) (p : List Byte) : (sessionClose mb s p).pending = s.pending ∧
    (sessionClose mb s p).regs = s.regs ∧ (sessionClose mb s p).act = s.act ∧ (sessionClose mb s p).lt = s.lt ∧
    (sessionClose mb s p).synced = s.synced ∧ (sessionClose mb s p).free = s.free ∧ (sessionClose mb s p).dram =
    s.dram ∧ (sessionClose mb s p).scan = s.scan ∧ (sessionClose mb s p).pix = s.pix ∧ (sessionClose mb s p).gal =
    s.gal ∧ (sessionClose mb s p).eng = s.eng ∧ (sessionClose mb s p).stats = s.stats ∧ (sessionClose mb s p).shd =
    s.shd ∧ (sessionClose mb s p).guard = s.guard ∧ (sessionClose mb s p).diag = s.diag ∧ (sessionClose mb s p).cal =
    s.cal ∧ (sessionClose mb s p).io = s.io ∧ (sessionClose mb s p).pins = s.pins ∧ (sessionClose mb s p).aux = s.aux
    ∧ (sessionClose mb s p).clk = s.clk ∧ (sessionClose mb s p).pwr = s.pwr ∧ (sessionClose mb s p).boot = s.boot ∧
    (sessionClose mb s p).thm = s.thm ∧ (sessionClose mb s p).ddr = s.ddr ∧ (sessionClose mb s p).mram = s.mram ∧
    (sessionClose mb s p).flash = s.flash ∧ (sessionClose mb s p).evt = s.evt := by
  unfold sessionClose
  split <;> simp
@[simp] theorem needBlock_eq (s : State) (mb n : Nat) (f : State) :
    needBlock s mb n f = if s.flag (CLK.GATE.EN n) then f else respond s mb 0x0E [] := rfl

@[simp] theorem setMode_keep (mb : Nat) (s : State) (p : List Byte) : (setMode mb s p).pending = s.pending ∧ (setMode
    mb s p).act = s.act ∧ (setMode mb s p).lt = s.lt ∧ (setMode mb s p).synced = s.synced ∧ (setMode mb s p).free =
    s.free ∧ (setMode mb s p).dram = s.dram ∧ (setMode mb s p).scan = s.scan ∧ (setMode mb s p).pix = s.pix ∧ (setMode
    mb s p).gal = s.gal ∧ (setMode mb s p).stats = s.stats ∧ (setMode mb s p).shd = s.shd ∧ (setMode mb s p).guard =
    s.guard ∧ (setMode mb s p).diag = s.diag ∧ (setMode mb s p).cal = s.cal ∧ (setMode mb s p).io = s.io ∧ (setMode mb
    s p).pins = s.pins ∧ (setMode mb s p).aux = s.aux ∧ (setMode mb s p).clk = s.clk ∧ (setMode mb s p).pwr = s.pwr ∧
    (setMode mb s p).boot = s.boot ∧ (setMode mb s p).thm = s.thm ∧ (setMode mb s p).ddr = s.ddr ∧ (setMode mb s
    p).mram = s.mram ∧ (setMode mb s p).flash = s.flash ∧ (setMode mb s p).evt = s.evt := by
  unfold setMode
  simp
def setModeRegs : List Field := requestCommitRegs ++ [SCAN.MODE.MODE]
@[simp] theorem setMode_word {key : Nat} (hk : Outside setModeRegs key) (mb : Nat) (s : State) (p : List Byte)  :
    wordAt (setMode mb s p).regs key = wordAt s.regs key := by
  simp only [setModeRegs, outside_append, outside_cons, outside_nil, and_true] at hk
  unfold setMode
  simp [hk]
@[simp] theorem commitCmd_keep (mb : Nat) (s : State) (p : List Byte) : (commitCmd mb s p).pending = s.pending ∧
    (commitCmd mb s p).act = s.act ∧ (commitCmd mb s p).lt = s.lt ∧ (commitCmd mb s p).synced = s.synced ∧ (commitCmd
    mb s p).free = s.free ∧ (commitCmd mb s p).dram = s.dram ∧ (commitCmd mb s p).scan = s.scan ∧ (commitCmd mb s
    p).pix = s.pix ∧ (commitCmd mb s p).gal = s.gal ∧ (commitCmd mb s p).eng = s.eng ∧ (commitCmd mb s p).stats =
    s.stats ∧ (commitCmd mb s p).shd = s.shd ∧ (commitCmd mb s p).guard = s.guard ∧ (commitCmd mb s p).diag = s.diag ∧
    (commitCmd mb s p).cal = s.cal ∧ (commitCmd mb s p).io = s.io ∧ (commitCmd mb s p).pins = s.pins ∧ (commitCmd mb s
    p).aux = s.aux ∧ (commitCmd mb s p).clk = s.clk ∧ (commitCmd mb s p).pwr = s.pwr ∧ (commitCmd mb s p).boot =
    s.boot ∧ (commitCmd mb s p).thm = s.thm ∧ (commitCmd mb s p).ddr = s.ddr ∧ (commitCmd mb s p).mram = s.mram ∧
    (commitCmd mb s p).flash = s.flash ∧ (commitCmd mb s p).evt = s.evt := by
  unfold commitCmd
  simp
def commitCmdRegs : List Field := requestCommitRegs
@[simp] theorem commitCmd_word {key : Nat} (hk : Outside commitCmdRegs key) (mb : Nat) (s : State) (p : List Byte)  :
    wordAt (commitCmd mb s p).regs key = wordAt s.regs key := by
  simp only [commitCmdRegs, outside_append, outside_cons, outside_nil, and_true] at hk
  unfold commitCmd
  simp [hk]
@[simp] theorem frameStats_keep (mb : Nat) (s : State) (p : List Byte) : (frameStats mb s p).pending = s.pending ∧
    (frameStats mb s p).regs = s.regs ∧ (frameStats mb s p).act = s.act ∧ (frameStats mb s p).lt = s.lt ∧ (frameStats
    mb s p).synced = s.synced ∧ (frameStats mb s p).free = s.free ∧ (frameStats mb s p).dram = s.dram ∧ (frameStats mb
    s p).scan = s.scan ∧ (frameStats mb s p).pix = s.pix ∧ (frameStats mb s p).gal = s.gal ∧ (frameStats mb s p).eng =
    s.eng ∧ (frameStats mb s p).shd = s.shd ∧ (frameStats mb s p).guard = s.guard ∧ (frameStats mb s p).diag = s.diag
    ∧ (frameStats mb s p).cal = s.cal ∧ (frameStats mb s p).io = s.io ∧ (frameStats mb s p).pins = s.pins ∧
    (frameStats mb s p).aux = s.aux ∧ (frameStats mb s p).clk = s.clk ∧ (frameStats mb s p).pwr = s.pwr ∧ (frameStats
    mb s p).boot = s.boot ∧ (frameStats mb s p).thm = s.thm ∧ (frameStats mb s p).ddr = s.ddr ∧ (frameStats mb s
    p).mram = s.mram ∧ (frameStats mb s p).flash = s.flash ∧ (frameStats mb s p).evt = s.evt := by
  unfold frameStats
  simp
@[simp] theorem armFlip_keep (s : State) (n flags fence retire next crc val : Nat) : (armFlip s n flags fence retire
    next crc val).pending = s.pending ∧ (armFlip s n flags fence retire next crc val).act = s.act ∧ (armFlip s n flags
    fence retire next crc val).lt = s.lt ∧ (armFlip s n flags fence retire next crc val).synced = s.synced ∧ (armFlip
    s n flags fence retire next crc val).free = s.free ∧ (armFlip s n flags fence retire next crc val).dram = s.dram ∧
    (armFlip s n flags fence retire next crc val).scan = s.scan ∧ (armFlip s n flags fence retire next crc val).pix =
    s.pix ∧ (armFlip s n flags fence retire next crc val).gal = s.gal ∧ (armFlip s n flags fence retire next crc
    val).eng = s.eng ∧ (armFlip s n flags fence retire next crc val).stats = s.stats ∧ (armFlip s n flags fence retire
    next crc val).shd = s.shd ∧ (armFlip s n flags fence retire next crc val).guard = s.guard ∧ (armFlip s n flags
    fence retire next crc val).diag = s.diag ∧ (armFlip s n flags fence retire next crc val).cal = s.cal ∧ (armFlip s
    n flags fence retire next crc val).net = s.net ∧ (armFlip s n flags fence retire next crc val).mbx = s.mbx ∧
    (armFlip s n flags fence retire next crc val).io = s.io ∧ (armFlip s n flags fence retire next crc val).pins =
    s.pins ∧ (armFlip s n flags fence retire next crc val).aux = s.aux ∧ (armFlip s n flags fence retire next crc
    val).clk = s.clk ∧ (armFlip s n flags fence retire next crc val).pwr = s.pwr ∧ (armFlip s n flags fence retire
    next crc val).boot = s.boot ∧ (armFlip s n flags fence retire next crc val).thm = s.thm ∧ (armFlip s n flags fence
    retire next crc val).ddr = s.ddr ∧ (armFlip s n flags fence retire next crc val).mram = s.mram ∧ (armFlip s n
    flags fence retire next crc val).flash = s.flash ∧ (armFlip s n flags fence retire next crc val).flt = s.flt ∧
    (armFlip s n flags fence retire next crc val).evt = s.evt := by
  unfold armFlip
  simp
def armFlipRegs : List Field := allOf 7 GAL.L.FENCE_VAL.FENCE_VAL ++ allOf 7 GAL.L.FLIP.ARM ++ allOf 7
    GAL.L.FLIP.FENCE_EN ++ allOf 7 GAL.L.FLIP.FENCE_SEL ++ allOf 7 GAL.L.FLIP.RETIRE_EN ++ allOf 7
    GAL.L.FLIP.RETIRE_SEL ++ allOf 7 GAL.L.NEXT_CRC.NEXT_CRC ++ allOf 7 GAL.L.NEXT_HI.NEXT ++ allOf 7
    GAL.L.NEXT_LO.NEXT
@[simp] theorem armFlip_word {key : Nat} (hk : Outside armFlipRegs key) (s : State) (n flags fence retire next crc val
    : Nat)  : wordAt (armFlip s n flags fence retire next crc val).regs key = wordAt s.regs key := by
  simp only [armFlipRegs, outside_append, outside_cons, outside_nil, and_true, outside_GAL_L_FENCE_VAL_FENCE_VAL, outside_GAL_L_FLIP_ARM, outside_GAL_L_FLIP_FENCE_EN, outside_GAL_L_FLIP_FENCE_SEL, outside_GAL_L_FLIP_RETIRE_EN, outside_GAL_L_FLIP_RETIRE_SEL, outside_GAL_L_NEXT_CRC_NEXT_CRC, outside_GAL_L_NEXT_HI_NEXT, outside_GAL_L_NEXT_LO_NEXT] at hk
  unfold armFlip
  simp [hk]
@[simp] theorem layerFlip_keep (mb : Nat) (s : State) (p : List Byte) : (layerFlip mb s p).pending = s.pending ∧
    (layerFlip mb s p).act = s.act ∧ (layerFlip mb s p).lt = s.lt ∧ (layerFlip mb s p).synced = s.synced ∧ (layerFlip
    mb s p).free = s.free ∧ (layerFlip mb s p).dram = s.dram ∧ (layerFlip mb s p).scan = s.scan ∧ (layerFlip mb s
    p).pix = s.pix ∧ (layerFlip mb s p).gal = s.gal ∧ (layerFlip mb s p).eng = s.eng ∧ (layerFlip mb s p).stats =
    s.stats ∧ (layerFlip mb s p).shd = s.shd ∧ (layerFlip mb s p).guard = s.guard ∧ (layerFlip mb s p).diag = s.diag ∧
    (layerFlip mb s p).cal = s.cal ∧ (layerFlip mb s p).io = s.io ∧ (layerFlip mb s p).pins = s.pins ∧ (layerFlip mb s
    p).aux = s.aux ∧ (layerFlip mb s p).clk = s.clk ∧ (layerFlip mb s p).pwr = s.pwr ∧ (layerFlip mb s p).boot =
    s.boot ∧ (layerFlip mb s p).thm = s.thm ∧ (layerFlip mb s p).ddr = s.ddr ∧ (layerFlip mb s p).mram = s.mram ∧
    (layerFlip mb s p).flash = s.flash ∧ (layerFlip mb s p).evt = s.evt := by
  unfold layerFlip
  simp
def layerFlipRegs : List Field := armFlipRegs
@[simp] theorem layerFlip_word {key : Nat} (hk : Outside layerFlipRegs key) (mb : Nat) (s : State) (p : List Byte)  :
    wordAt (layerFlip mb s p).regs key = wordAt s.regs key := by
  simp only [layerFlipRegs, outside_append, outside_cons, outside_nil, and_true] at hk
  unfold layerFlip
  simp [hk]
@[simp] theorem fenceWait_keep (mb : Nat) (expired : Bool) (s : State) (p : List Byte) : (fenceWait mb expired s
    p).pending = s.pending ∧ (fenceWait mb expired s p).regs = s.regs ∧ (fenceWait mb expired s p).act = s.act ∧
    (fenceWait mb expired s p).lt = s.lt ∧ (fenceWait mb expired s p).synced = s.synced ∧ (fenceWait mb expired s
    p).free = s.free ∧ (fenceWait mb expired s p).dram = s.dram ∧ (fenceWait mb expired s p).scan = s.scan ∧
    (fenceWait mb expired s p).pix = s.pix ∧ (fenceWait mb expired s p).gal = s.gal ∧ (fenceWait mb expired s p).eng =
    s.eng ∧ (fenceWait mb expired s p).stats = s.stats ∧ (fenceWait mb expired s p).shd = s.shd ∧ (fenceWait mb
    expired s p).guard = s.guard ∧ (fenceWait mb expired s p).diag = s.diag ∧ (fenceWait mb expired s p).cal = s.cal ∧
    (fenceWait mb expired s p).io = s.io ∧ (fenceWait mb expired s p).pins = s.pins ∧ (fenceWait mb expired s p).aux =
    s.aux ∧ (fenceWait mb expired s p).clk = s.clk ∧ (fenceWait mb expired s p).pwr = s.pwr ∧ (fenceWait mb expired s
    p).boot = s.boot ∧ (fenceWait mb expired s p).thm = s.thm ∧ (fenceWait mb expired s p).ddr = s.ddr ∧ (fenceWait mb
    expired s p).mram = s.mram ∧ (fenceWait mb expired s p).flash = s.flash ∧ (fenceWait mb expired s p).evt = s.evt
    := by
  unfold fenceWait
  simp
@[simp] theorem lutPutAll_keep (n : Nat) (s : State) (i : Nat) (l : List Nat) : (lutPutAll n s i l).1.pending =
    s.pending ∧ (lutPutAll n s i l).1.act = s.act ∧ (lutPutAll n s i l).1.lt = s.lt ∧ (lutPutAll n s i l).1.synced =
    s.synced ∧ (lutPutAll n s i l).1.free = s.free ∧ (lutPutAll n s i l).1.dram = s.dram ∧ (lutPutAll n s i l).1.scan
    = s.scan ∧ (lutPutAll n s i l).1.pix = s.pix ∧ (lutPutAll n s i l).1.eng = s.eng ∧ (lutPutAll n s i l).1.stats =
    s.stats ∧ (lutPutAll n s i l).1.shd = s.shd ∧ (lutPutAll n s i l).1.guard = s.guard ∧ (lutPutAll n s i l).1.diag =
    s.diag ∧ (lutPutAll n s i l).1.cal = s.cal ∧ (lutPutAll n s i l).1.net = s.net ∧ (lutPutAll n s i l).1.mbx = s.mbx
    ∧ (lutPutAll n s i l).1.io = s.io ∧ (lutPutAll n s i l).1.pins = s.pins ∧ (lutPutAll n s i l).1.aux = s.aux ∧
    (lutPutAll n s i l).1.clk = s.clk ∧ (lutPutAll n s i l).1.pwr = s.pwr ∧ (lutPutAll n s i l).1.boot = s.boot ∧
    (lutPutAll n s i l).1.thm = s.thm ∧ (lutPutAll n s i l).1.ddr = s.ddr ∧ (lutPutAll n s i l).1.mram = s.mram ∧
    (lutPutAll n s i l).1.flash = s.flash ∧ (lutPutAll n s i l).1.flt = s.flt ∧ (lutPutAll n s i l).1.evt = s.evt := by
  induction l generalizing s i with
  | nil => simp [lutPutAll]
  | cons b t ih => simp [lutPutAll, ih]

def lutPutAllRegs : List Field := lutPutRegs

@[simp] theorem lutPutAll_word {key : Nat} (hk : Outside lutPutAllRegs key) (n : Nat) (s : State) (i : Nat) (l : List Nat) :
    wordAt (lutPutAll n s i l).1.regs key = wordAt s.regs key := by
  have h1 : Outside lutPutRegs key := hk
  induction l generalizing s i with
  | nil => simp [lutPutAll]
  | cons b t ih => simp [lutPutAll, ih, h1]
@[simp] theorem lutLoad_keep (mb : Nat) (s : State) (p : List Byte) : (lutLoad mb s p).pending = s.pending ∧ (lutLoad
    mb s p).act = s.act ∧ (lutLoad mb s p).lt = s.lt ∧ (lutLoad mb s p).synced = s.synced ∧ (lutLoad mb s p).free =
    s.free ∧ (lutLoad mb s p).dram = s.dram ∧ (lutLoad mb s p).scan = s.scan ∧ (lutLoad mb s p).pix = s.pix ∧ (lutLoad
    mb s p).eng = s.eng ∧ (lutLoad mb s p).stats = s.stats ∧ (lutLoad mb s p).shd = s.shd ∧ (lutLoad mb s p).guard =
    s.guard ∧ (lutLoad mb s p).diag = s.diag ∧ (lutLoad mb s p).cal = s.cal ∧ (lutLoad mb s p).io = s.io ∧ (lutLoad mb
    s p).pins = s.pins ∧ (lutLoad mb s p).aux = s.aux ∧ (lutLoad mb s p).clk = s.clk ∧ (lutLoad mb s p).pwr = s.pwr ∧
    (lutLoad mb s p).boot = s.boot ∧ (lutLoad mb s p).thm = s.thm ∧ (lutLoad mb s p).ddr = s.ddr ∧ (lutLoad mb s
    p).mram = s.mram ∧ (lutLoad mb s p).flash = s.flash ∧ (lutLoad mb s p).evt = s.evt := by
  unfold lutLoad
  simp
def lutLoadRegs : List Field := lutPutAllRegs
@[simp] theorem lutLoad_word {key : Nat} (hk : Outside lutLoadRegs key) (mb : Nat) (s : State) (p : List Byte)  :
    wordAt (lutLoad mb s p).regs key = wordAt s.regs key := by
  simp only [lutLoadRegs, outside_append, outside_cons, outside_nil, and_true] at hk
  unfold lutLoad
  simp [hk]
@[simp] theorem videoWindow_keep (mb : Nat) (s : State) (p : List Byte) : (videoWindow mb s p).pending = s.pending ∧
    (videoWindow mb s p).regs = s.regs ∧ (videoWindow mb s p).act = s.act ∧ (videoWindow mb s p).lt = s.lt ∧
    (videoWindow mb s p).synced = s.synced ∧ (videoWindow mb s p).free = s.free ∧ (videoWindow mb s p).dram = s.dram ∧
    (videoWindow mb s p).scan = s.scan ∧ (videoWindow mb s p).pix = s.pix ∧ (videoWindow mb s p).gal = s.gal ∧
    (videoWindow mb s p).eng = s.eng ∧ (videoWindow mb s p).stats = s.stats ∧ (videoWindow mb s p).shd = s.shd ∧
    (videoWindow mb s p).guard = s.guard ∧ (videoWindow mb s p).diag = s.diag ∧ (videoWindow mb s p).cal = s.cal ∧
    (videoWindow mb s p).io = s.io ∧ (videoWindow mb s p).pins = s.pins ∧ (videoWindow mb s p).aux = s.aux ∧
    (videoWindow mb s p).clk = s.clk ∧ (videoWindow mb s p).pwr = s.pwr ∧ (videoWindow mb s p).boot = s.boot ∧
    (videoWindow mb s p).thm = s.thm ∧ (videoWindow mb s p).ddr = s.ddr ∧ (videoWindow mb s p).mram = s.mram ∧
    (videoWindow mb s p).flash = s.flash ∧ (videoWindow mb s p).evt = s.evt := by
  unfold videoWindow
  simp
@[simp] theorem objWrite_keep (mb : Nat) (s : State) (p : List Byte) : (objWrite mb s p).pending = s.pending ∧
    (objWrite mb s p).act = s.act ∧ (objWrite mb s p).lt = s.lt ∧ (objWrite mb s p).synced = s.synced ∧ (objWrite mb s
    p).free = s.free ∧ (objWrite mb s p).dram = s.dram ∧ (objWrite mb s p).pix = s.pix ∧ (objWrite mb s p).gal = s.gal
    ∧ (objWrite mb s p).eng = s.eng ∧ (objWrite mb s p).stats = s.stats ∧ (objWrite mb s p).guard = s.guard ∧
    (objWrite mb s p).diag = s.diag ∧ (objWrite mb s p).cal = s.cal ∧ (objWrite mb s p).io = s.io ∧ (objWrite mb s
    p).pins = s.pins ∧ (objWrite mb s p).aux = s.aux ∧ (objWrite mb s p).clk = s.clk ∧ (objWrite mb s p).pwr = s.pwr ∧
    (objWrite mb s p).boot = s.boot ∧ (objWrite mb s p).thm = s.thm ∧ (objWrite mb s p).ddr = s.ddr ∧ (objWrite mb s
    p).mram = s.mram ∧ (objWrite mb s p).flash = s.flash ∧ (objWrite mb s p).evt = s.evt := by
  unfold objWrite
  simp
def objWriteRegs : List Field := applyRecordsRegs
@[simp] theorem objWrite_word {key : Nat} (hk : Outside objWriteRegs key) (mb : Nat) (s : State) (p : List Byte)  :
    wordAt (objWrite mb s p).regs key = wordAt s.regs key := by
  simp only [objWriteRegs, outside_append, outside_cons, outside_nil, and_true] at hk
  unfold objWrite
  simp [hk]
@[simp] theorem objRead_keep (mb : Nat) (s : State) (p : List Byte) : (objRead mb s p).pending = s.pending ∧ (objRead
    mb s p).regs = s.regs ∧ (objRead mb s p).act = s.act ∧ (objRead mb s p).lt = s.lt ∧ (objRead mb s p).synced =
    s.synced ∧ (objRead mb s p).free = s.free ∧ (objRead mb s p).dram = s.dram ∧ (objRead mb s p).scan = s.scan ∧
    (objRead mb s p).pix = s.pix ∧ (objRead mb s p).gal = s.gal ∧ (objRead mb s p).eng = s.eng ∧ (objRead mb s
    p).stats = s.stats ∧ (objRead mb s p).shd = s.shd ∧ (objRead mb s p).guard = s.guard ∧ (objRead mb s p).diag =
    s.diag ∧ (objRead mb s p).cal = s.cal ∧ (objRead mb s p).io = s.io ∧ (objRead mb s p).pins = s.pins ∧ (objRead mb
    s p).aux = s.aux ∧ (objRead mb s p).clk = s.clk ∧ (objRead mb s p).pwr = s.pwr ∧ (objRead mb s p).boot = s.boot ∧
    (objRead mb s p).thm = s.thm ∧ (objRead mb s p).ddr = s.ddr ∧ (objRead mb s p).mram = s.mram ∧ (objRead mb s
    p).flash = s.flash ∧ (objRead mb s p).evt = s.evt := by
  unfold objRead
  (try simp) <;> (repeat' apply And.intro) <;> (repeat' split) <;> (try simp)
@[simp] theorem clearContext_keep (a : State × Nat × Nat) (x : Nat × Ctx) : (clearContext a x).1.pending = a.1.pending
    ∧ (clearContext a x).1.act = a.1.act ∧ (clearContext a x).1.lt = a.1.lt ∧ (clearContext a x).1.synced = a.1.synced
    ∧ (clearContext a x).1.free = a.1.free ∧ (clearContext a x).1.dram = a.1.dram ∧ (clearContext a x).1.pix = a.1.pix
    ∧ (clearContext a x).1.gal = a.1.gal ∧ (clearContext a x).1.eng = a.1.eng ∧ (clearContext a x).1.stats = a.1.stats
    ∧ (clearContext a x).1.guard = a.1.guard ∧ (clearContext a x).1.diag = a.1.diag ∧ (clearContext a x).1.cal =
    a.1.cal ∧ (clearContext a x).1.net = a.1.net ∧ (clearContext a x).1.mbx = a.1.mbx ∧ (clearContext a x).1.io =
    a.1.io ∧ (clearContext a x).1.pins = a.1.pins ∧ (clearContext a x).1.aux = a.1.aux ∧ (clearContext a x).1.clk =
    a.1.clk ∧ (clearContext a x).1.pwr = a.1.pwr ∧ (clearContext a x).1.boot = a.1.boot ∧ (clearContext a x).1.thm =
    a.1.thm ∧ (clearContext a x).1.ddr = a.1.ddr ∧ (clearContext a x).1.mram = a.1.mram ∧ (clearContext a x).1.flash =
    a.1.flash ∧ (clearContext a x).1.evt = a.1.evt := by
  simp only [clearContext]
  (repeat' apply And.intro) <;> (repeat' split) <;> simp

def clearContextRegs : List Field := stageInRegs

@[simp] theorem clearContext_word {key : Nat} (hk : Outside clearContextRegs key) (a : State × Nat × Nat) (x : Nat × Ctx) :
    wordAt (clearContext a x).1.regs key = wordAt a.1.regs key := by
  have h1 : Outside stageInRegs key := hk
  simp only [clearContext]
  (repeat' split) <;> simp [h1]

@[simp] theorem clearContext_fold_keep (l : List (Nat × Ctx)) (a : State × Nat × Nat) : (l.foldl clearContext
    a).1.pending = a.1.pending ∧ (l.foldl clearContext a).1.act = a.1.act ∧ (l.foldl clearContext a).1.lt = a.1.lt ∧
    (l.foldl clearContext a).1.synced = a.1.synced ∧ (l.foldl clearContext a).1.free = a.1.free ∧ (l.foldl
    clearContext a).1.dram = a.1.dram ∧ (l.foldl clearContext a).1.pix = a.1.pix ∧ (l.foldl clearContext a).1.gal =
    a.1.gal ∧ (l.foldl clearContext a).1.eng = a.1.eng ∧ (l.foldl clearContext a).1.stats = a.1.stats ∧ (l.foldl
    clearContext a).1.guard = a.1.guard ∧ (l.foldl clearContext a).1.diag = a.1.diag ∧ (l.foldl clearContext a).1.cal
    = a.1.cal ∧ (l.foldl clearContext a).1.net = a.1.net ∧ (l.foldl clearContext a).1.mbx = a.1.mbx ∧ (l.foldl
    clearContext a).1.io = a.1.io ∧ (l.foldl clearContext a).1.pins = a.1.pins ∧ (l.foldl clearContext a).1.aux =
    a.1.aux ∧ (l.foldl clearContext a).1.clk = a.1.clk ∧ (l.foldl clearContext a).1.pwr = a.1.pwr ∧ (l.foldl
    clearContext a).1.boot = a.1.boot ∧ (l.foldl clearContext a).1.thm = a.1.thm ∧ (l.foldl clearContext a).1.ddr =
    a.1.ddr ∧ (l.foldl clearContext a).1.mram = a.1.mram ∧ (l.foldl clearContext a).1.flash = a.1.flash ∧ (l.foldl
    clearContext a).1.evt = a.1.evt := by
  induction l generalizing a with
  | nil => simp
  | cons x t ih => simp [ih]

@[simp] theorem clearContext_fold_word {key : Nat} (hk : Outside clearContextRegs key) (l : List (Nat × Ctx)) (a : State × Nat × Nat) :
    wordAt (l.foldl clearContext a).1.regs key = wordAt a.1.regs key := by
  induction l generalizing a with
  | nil => simp
  | cons x t ih => simp [ih, hk]
@[simp] theorem objClear_keep (mb : Nat) (s : State) (p : List Byte) : (objClear mb s p).pending = s.pending ∧
    (objClear mb s p).act = s.act ∧ (objClear mb s p).lt = s.lt ∧ (objClear mb s p).synced = s.synced ∧ (objClear mb s
    p).free = s.free ∧ (objClear mb s p).dram = s.dram ∧ (objClear mb s p).pix = s.pix ∧ (objClear mb s p).gal = s.gal
    ∧ (objClear mb s p).eng = s.eng ∧ (objClear mb s p).stats = s.stats ∧ (objClear mb s p).guard = s.guard ∧
    (objClear mb s p).diag = s.diag ∧ (objClear mb s p).cal = s.cal ∧ (objClear mb s p).io = s.io ∧ (objClear mb s
    p).pins = s.pins ∧ (objClear mb s p).aux = s.aux ∧ (objClear mb s p).clk = s.clk ∧ (objClear mb s p).pwr = s.pwr ∧
    (objClear mb s p).boot = s.boot ∧ (objClear mb s p).thm = s.thm ∧ (objClear mb s p).ddr = s.ddr ∧ (objClear mb s
    p).mram = s.mram ∧ (objClear mb s p).flash = s.flash ∧ (objClear mb s p).evt = s.evt := by
  unfold objClear
  (repeat' apply And.intro) <;> simp <;> split <;> simp
def objClearRegs : List Field := clearContextRegs
@[simp] theorem objClear_word {key : Nat} (hk : Outside objClearRegs key) (mb : Nat) (s : State) (p : List Byte)  :
    wordAt (objClear mb s p).regs key = wordAt s.regs key := by
  simp only [objClearRegs, outside_append, outside_cons, outside_nil, and_true] at hk
  unfold objClear
  simp [hk]

end Sys2Proof.Machine
end

