-- ==== Sys2Proof/Laws/FrameMailCommands.lean ====
section
/-! SUPPORT. FrameMailCommands.lean: for each operation of Machine/MailCommands.lean, the parts of State that it leaves alone and the register
fields outside which it changes none. -/

set_option linter.unusedSimpArgs false

namespace Sys2Proof.Machine

set_option Elab.async false

@[simp] theorem needDram_eq (s : State) (mb : Nat) (f : State → State) :
    needDram s mb f = if s.flag DDRC.STATUS.READY then f (dramExit s) else respond s mb 7 [] := rfl

@[simp] theorem withDram_eq (s : State) (mb a n : Nat) (f : State → List Byte → State) :
    withDram s mb a n f = needDram s mb (fun t =>
      if t.dramSize < a + n then respond (t.setFlag DDRC.STATUS.RANGE_ERR true) mb 4 [] else f t (t.dramBytes a n)) := rfl

@[simp] theorem rsetEntry_keep (mb : Nat) (s : State) (b : List Byte) : (rsetEntry mb s b).pending = s.pending ∧
    (rsetEntry mb s b).regs = s.regs ∧ (rsetEntry mb s b).act = s.act ∧ (rsetEntry mb s b).lt = s.lt ∧ (rsetEntry mb s
    b).synced = s.synced ∧ (rsetEntry mb s b).free = s.free ∧ (rsetEntry mb s b).dram = s.dram ∧ (rsetEntry mb s
    b).scan = s.scan ∧ (rsetEntry mb s b).pix = s.pix ∧ (rsetEntry mb s b).gal = s.gal ∧ (rsetEntry mb s b).stats =
    s.stats ∧ (rsetEntry mb s b).shd = s.shd ∧ (rsetEntry mb s b).guard = s.guard ∧ (rsetEntry mb s b).diag = s.diag ∧
    (rsetEntry mb s b).cal = s.cal ∧ (rsetEntry mb s b).io = s.io ∧ (rsetEntry mb s b).pins = s.pins ∧ (rsetEntry mb s
    b).aux = s.aux ∧ (rsetEntry mb s b).clk = s.clk ∧ (rsetEntry mb s b).pwr = s.pwr ∧ (rsetEntry mb s b).boot =
    s.boot ∧ (rsetEntry mb s b).thm = s.thm ∧ (rsetEntry mb s b).ddr = s.ddr ∧ (rsetEntry mb s b).mram = s.mram ∧
    (rsetEntry mb s b).flash = s.flash ∧ (rsetEntry mb s b).evt = s.evt := by
  unfold rsetEntry
  (try simp) <;> (repeat' apply And.intro) <;> (repeat' split) <;> (try simp)
@[simp] theorem rsetDelete_keep (mb : Nat) (s : State) (p : List Byte) : (rsetDelete mb s p).pending = s.pending ∧
    (rsetDelete mb s p).regs = s.regs ∧ (rsetDelete mb s p).act = s.act ∧ (rsetDelete mb s p).lt = s.lt ∧ (rsetDelete
    mb s p).synced = s.synced ∧ (rsetDelete mb s p).free = s.free ∧ (rsetDelete mb s p).dram = s.dram ∧ (rsetDelete mb
    s p).scan = s.scan ∧ (rsetDelete mb s p).pix = s.pix ∧ (rsetDelete mb s p).gal = s.gal ∧ (rsetDelete mb s p).stats
    = s.stats ∧ (rsetDelete mb s p).shd = s.shd ∧ (rsetDelete mb s p).guard = s.guard ∧ (rsetDelete mb s p).diag =
    s.diag ∧ (rsetDelete mb s p).cal = s.cal ∧ (rsetDelete mb s p).io = s.io ∧ (rsetDelete mb s p).pins = s.pins ∧
    (rsetDelete mb s p).aux = s.aux ∧ (rsetDelete mb s p).clk = s.clk ∧ (rsetDelete mb s p).pwr = s.pwr ∧ (rsetDelete
    mb s p).boot = s.boot ∧ (rsetDelete mb s p).thm = s.thm ∧ (rsetDelete mb s p).ddr = s.ddr ∧ (rsetDelete mb s
    p).mram = s.mram ∧ (rsetDelete mb s p).flash = s.flash ∧ (rsetDelete mb s p).evt = s.evt := by
  unfold rsetDelete
  simp
@[simp] theorem rsetSubmit_keep (mb : Nat) (s : State) (p : List Byte) : (rsetSubmit mb s p).pending = s.pending ∧
    (rsetSubmit mb s p).regs = s.regs ∧ (rsetSubmit mb s p).act = s.act ∧ (rsetSubmit mb s p).lt = s.lt ∧ (rsetSubmit
    mb s p).synced = s.synced ∧ (rsetSubmit mb s p).free = s.free ∧ (rsetSubmit mb s p).dram = s.dram ∧ (rsetSubmit mb
    s p).scan = s.scan ∧ (rsetSubmit mb s p).pix = s.pix ∧ (rsetSubmit mb s p).gal = s.gal ∧ (rsetSubmit mb s p).stats
    = s.stats ∧ (rsetSubmit mb s p).shd = s.shd ∧ (rsetSubmit mb s p).guard = s.guard ∧ (rsetSubmit mb s p).diag =
    s.diag ∧ (rsetSubmit mb s p).cal = s.cal ∧ (rsetSubmit mb s p).io = s.io ∧ (rsetSubmit mb s p).pins = s.pins ∧
    (rsetSubmit mb s p).aux = s.aux ∧ (rsetSubmit mb s p).clk = s.clk ∧ (rsetSubmit mb s p).pwr = s.pwr ∧ (rsetSubmit
    mb s p).boot = s.boot ∧ (rsetSubmit mb s p).thm = s.thm ∧ (rsetSubmit mb s p).ddr = s.ddr ∧ (rsetSubmit mb s
    p).mram = s.mram ∧ (rsetSubmit mb s p).flash = s.flash ∧ (rsetSubmit mb s p).evt = s.evt := by
  unfold rsetSubmit
  simp
@[simp] theorem patternLoad_keep (mb : Nat) (s : State) (p : List Byte) : (patternLoad mb s p).pending = s.pending ∧
    (patternLoad mb s p).act = s.act ∧ (patternLoad mb s p).lt = s.lt ∧ (patternLoad mb s p).synced = s.synced ∧
    (patternLoad mb s p).free = s.free ∧ (patternLoad mb s p).dram = s.dram ∧ (patternLoad mb s p).scan = s.scan ∧
    (patternLoad mb s p).pix = s.pix ∧ (patternLoad mb s p).gal = s.gal ∧ (patternLoad mb s p).stats = s.stats ∧
    (patternLoad mb s p).shd = s.shd ∧ (patternLoad mb s p).guard = s.guard ∧ (patternLoad mb s p).diag = s.diag ∧
    (patternLoad mb s p).cal = s.cal ∧ (patternLoad mb s p).io = s.io ∧ (patternLoad mb s p).pins = s.pins ∧
    (patternLoad mb s p).aux = s.aux ∧ (patternLoad mb s p).clk = s.clk ∧ (patternLoad mb s p).pwr = s.pwr ∧
    (patternLoad mb s p).boot = s.boot ∧ (patternLoad mb s p).thm = s.thm ∧ (patternLoad mb s p).mram = s.mram ∧
    (patternLoad mb s p).flash = s.flash ∧ (patternLoad mb s p).evt = s.evt := by
  unfold patternLoad
  simp
def patternLoadRegs : List Field := dramExitRegs
@[simp] theorem patternLoad_word {key : Nat} (hk : Outside patternLoadRegs key) (mb : Nat) (s : State) (p : List Byte)
     : wordAt (patternLoad mb s p).regs key = wordAt s.regs key := by
  simp only [patternLoadRegs, outside_append, outside_cons, outside_nil, and_true] at hk
  unfold patternLoad
  simp [hk]
@[simp] theorem symlibLoad_keep (mb : Nat) (s : State) (p : List Byte) : (symlibLoad mb s p).pending = s.pending ∧
    (symlibLoad mb s p).act = s.act ∧ (symlibLoad mb s p).lt = s.lt ∧ (symlibLoad mb s p).synced = s.synced ∧
    (symlibLoad mb s p).free = s.free ∧ (symlibLoad mb s p).dram = s.dram ∧ (symlibLoad mb s p).scan = s.scan ∧
    (symlibLoad mb s p).pix = s.pix ∧ (symlibLoad mb s p).gal = s.gal ∧ (symlibLoad mb s p).stats = s.stats ∧
    (symlibLoad mb s p).shd = s.shd ∧ (symlibLoad mb s p).guard = s.guard ∧ (symlibLoad mb s p).diag = s.diag ∧
    (symlibLoad mb s p).cal = s.cal ∧ (symlibLoad mb s p).io = s.io ∧ (symlibLoad mb s p).pins = s.pins ∧ (symlibLoad
    mb s p).aux = s.aux ∧ (symlibLoad mb s p).clk = s.clk ∧ (symlibLoad mb s p).pwr = s.pwr ∧ (symlibLoad mb s p).boot
    = s.boot ∧ (symlibLoad mb s p).thm = s.thm ∧ (symlibLoad mb s p).mram = s.mram ∧ (symlibLoad mb s p).flash =
    s.flash ∧ (symlibLoad mb s p).evt = s.evt := by
  unfold symlibLoad
  (try simp) <;> (repeat' apply And.intro) <;> (repeat' split) <;> (try simp)
def symlibLoadRegs : List Field := dramExitRegs
@[simp] theorem symlibLoad_word {key : Nat} (hk : Outside symlibLoadRegs key) (mb : Nat) (s : State) (p : List Byte)
    : wordAt (symlibLoad mb s p).regs key = wordAt s.regs key := by
  simp only [symlibLoadRegs, outside_append, outside_cons, outside_nil, and_true] at hk
  unfold symlibLoad
  simp only [needLen_eq, needDram_eq]
  (repeat' split) <;> simp [hk]
@[simp] theorem lensRead_keep (mb : Nat) (lens : Option (List Byte)) (s : State) (p : List Byte) : (lensRead mb lens s
    p).pending = s.pending ∧ (lensRead mb lens s p).act = s.act ∧ (lensRead mb lens s p).lt = s.lt ∧ (lensRead mb lens
    s p).synced = s.synced ∧ (lensRead mb lens s p).dram = s.dram ∧ (lensRead mb lens s p).scan = s.scan ∧ (lensRead
    mb lens s p).pix = s.pix ∧ (lensRead mb lens s p).gal = s.gal ∧ (lensRead mb lens s p).stats = s.stats ∧ (lensRead
    mb lens s p).shd = s.shd ∧ (lensRead mb lens s p).guard = s.guard ∧ (lensRead mb lens s p).diag = s.diag ∧
    (lensRead mb lens s p).cal = s.cal ∧ (lensRead mb lens s p).io = s.io ∧ (lensRead mb lens s p).pins = s.pins ∧
    (lensRead mb lens s p).aux = s.aux ∧ (lensRead mb lens s p).clk = s.clk ∧ (lensRead mb lens s p).pwr = s.pwr ∧
    (lensRead mb lens s p).boot = s.boot ∧ (lensRead mb lens s p).thm = s.thm ∧ (lensRead mb lens s p).ddr = s.ddr ∧
    (lensRead mb lens s p).mram = s.mram ∧ (lensRead mb lens s p).flash = s.flash ∧ (lensRead mb lens s p).evt = s.evt
    := by
  unfold lensRead
  simp
def lensReadRegs : List Field := applyLensRegs
@[simp] theorem lensRead_word {key : Nat} (hk : Outside lensReadRegs key) (mb : Nat) (lens : Option (List Byte)) (s :
    State) (p : List Byte)  : wordAt (lensRead mb lens s p).regs key = wordAt s.regs key := by
  simp only [lensReadRegs, outside_append, outside_cons, outside_nil, and_true] at hk
  unfold lensRead
  simp [hk]
@[simp] theorem fbRelease_keep (mb : Nat) (s : State) (p : List Byte) : (fbRelease mb s p).pending = s.pending ∧
    (fbRelease mb s p).act = s.act ∧ (fbRelease mb s p).lt = s.lt ∧ (fbRelease mb s p).synced = s.synced ∧ (fbRelease
    mb s p).free = s.free ∧ (fbRelease mb s p).dram = s.dram ∧ (fbRelease mb s p).scan = s.scan ∧ (fbRelease mb s
    p).pix = s.pix ∧ (fbRelease mb s p).gal = s.gal ∧ (fbRelease mb s p).eng = s.eng ∧ (fbRelease mb s p).stats =
    s.stats ∧ (fbRelease mb s p).shd = s.shd ∧ (fbRelease mb s p).guard = s.guard ∧ (fbRelease mb s p).diag = s.diag ∧
    (fbRelease mb s p).cal = s.cal ∧ (fbRelease mb s p).io = s.io ∧ (fbRelease mb s p).pins = s.pins ∧ (fbRelease mb s
    p).aux = s.aux ∧ (fbRelease mb s p).clk = s.clk ∧ (fbRelease mb s p).pwr = s.pwr ∧ (fbRelease mb s p).boot =
    s.boot ∧ (fbRelease mb s p).thm = s.thm ∧ (fbRelease mb s p).ddr = s.ddr ∧ (fbRelease mb s p).mram = s.mram ∧
    (fbRelease mb s p).flash = s.flash ∧ (fbRelease mb s p).evt = s.evt := by
  unfold fbRelease
  simp
def fbReleaseRegs : List Field := clearCauseRegs ++ [SAFE.FB_CAUSE.BLOCK, SAFE.FB_CAUSE.FATAL, SAFE.FB_CAUSE.CLOCK,
    SAFE.FB_CAUSE.GUARD]
@[simp] theorem fbRelease_word {key : Nat} (hk : Outside fbReleaseRegs key) (mb : Nat) (s : State) (p : List Byte)  :
    wordAt (fbRelease mb s p).regs key = wordAt s.regs key := by
  simp only [fbReleaseRegs, outside_append, outside_cons, outside_nil, and_true] at hk
  unfold fbRelease latchedCauses
  simp only [needLen_eq, List.foldl_cons, List.foldl_nil]
  (repeat' split) <;> simp [hk]
@[simp] theorem safeWindow_keep (mb : Nat) (s : State) (p : List Byte) : (safeWindow mb s p).pending = s.pending ∧
    (safeWindow mb s p).regs = s.regs ∧ (safeWindow mb s p).act = s.act ∧ (safeWindow mb s p).lt = s.lt ∧ (safeWindow
    mb s p).synced = s.synced ∧ (safeWindow mb s p).free = s.free ∧ (safeWindow mb s p).dram = s.dram ∧ (safeWindow mb
    s p).scan = s.scan ∧ (safeWindow mb s p).pix = s.pix ∧ (safeWindow mb s p).gal = s.gal ∧ (safeWindow mb s p).eng =
    s.eng ∧ (safeWindow mb s p).stats = s.stats ∧ (safeWindow mb s p).shd = s.shd ∧ (safeWindow mb s p).diag = s.diag
    ∧ (safeWindow mb s p).cal = s.cal ∧ (safeWindow mb s p).io = s.io ∧ (safeWindow mb s p).pins = s.pins ∧
    (safeWindow mb s p).aux = s.aux ∧ (safeWindow mb s p).clk = s.clk ∧ (safeWindow mb s p).pwr = s.pwr ∧ (safeWindow
    mb s p).boot = s.boot ∧ (safeWindow mb s p).thm = s.thm ∧ (safeWindow mb s p).ddr = s.ddr ∧ (safeWindow mb s
    p).mram = s.mram ∧ (safeWindow mb s p).flash = s.flash ∧ (safeWindow mb s p).evt = s.evt := by
  unfold safeWindow
  simp
@[simp] theorem loadFallback_keep (s : State) (back : List Byte) (check count : Nat) : (loadFallback s back check
    count).pending = s.pending ∧ (loadFallback s back check count).act = s.act ∧ (loadFallback s back check count).lt
    = s.lt ∧ (loadFallback s back check count).synced = s.synced ∧ (loadFallback s back check count).free = s.free ∧
    (loadFallback s back check count).dram = s.dram ∧ (loadFallback s back check count).scan = s.scan ∧ (loadFallback
    s back check count).gal = s.gal ∧ (loadFallback s back check count).eng = s.eng ∧ (loadFallback s back check
    count).stats = s.stats ∧ (loadFallback s back check count).shd = s.shd ∧ (loadFallback s back check count).guard =
    s.guard ∧ (loadFallback s back check count).diag = s.diag ∧ (loadFallback s back check count).cal = s.cal ∧
    (loadFallback s back check count).net = s.net ∧ (loadFallback s back check count).mbx = s.mbx ∧ (loadFallback s
    back check count).io = s.io ∧ (loadFallback s back check count).pins = s.pins ∧ (loadFallback s back check
    count).aux = s.aux ∧ (loadFallback s back check count).clk = s.clk ∧ (loadFallback s back check count).pwr = s.pwr
    ∧ (loadFallback s back check count).boot = s.boot ∧ (loadFallback s back check count).thm = s.thm ∧ (loadFallback
    s back check count).ddr = s.ddr ∧ (loadFallback s back check count).mram = s.mram ∧ (loadFallback s back check
    count).flash = s.flash ∧ (loadFallback s back check count).flt = s.flt ∧ (loadFallback s back check count).evt =
    s.evt := by
  unfold loadFallback
  simp
def loadFallbackRegs : List Field := [SCAN.FB_COUNT.COUNT, SCAN.FB_CTRL.FB_VALID]
@[simp] theorem loadFallback_word {key : Nat} (hk : Outside loadFallbackRegs key) (s : State) (back : List Byte)
    (check count : Nat)  : wordAt (loadFallback s back check count).regs key = wordAt s.regs key := by
  simp only [loadFallbackRegs, outside_append, outside_cons, outside_nil, and_true] at hk
  unfold loadFallback
  simp [hk]
@[simp] theorem fbPattern_keep (mb : Nat) (readBack : List (Nat × List Byte)) (s : State) (p : List Byte) : (fbPattern
    mb readBack s p).pending = s.pending ∧ (fbPattern mb readBack s p).act = s.act ∧ (fbPattern mb readBack s p).lt =
    s.lt ∧ (fbPattern mb readBack s p).synced = s.synced ∧ (fbPattern mb readBack s p).free = s.free ∧ (fbPattern mb
    readBack s p).dram = s.dram ∧ (fbPattern mb readBack s p).scan = s.scan ∧ (fbPattern mb readBack s p).gal = s.gal
    ∧ (fbPattern mb readBack s p).eng = s.eng ∧ (fbPattern mb readBack s p).stats = s.stats ∧ (fbPattern mb readBack s
    p).shd = s.shd ∧ (fbPattern mb readBack s p).guard = s.guard ∧ (fbPattern mb readBack s p).diag = s.diag ∧
    (fbPattern mb readBack s p).cal = s.cal ∧ (fbPattern mb readBack s p).io = s.io ∧ (fbPattern mb readBack s p).pins
    = s.pins ∧ (fbPattern mb readBack s p).aux = s.aux ∧ (fbPattern mb readBack s p).clk = s.clk ∧ (fbPattern mb
    readBack s p).pwr = s.pwr ∧ (fbPattern mb readBack s p).boot = s.boot ∧ (fbPattern mb readBack s p).thm = s.thm ∧
    (fbPattern mb readBack s p).mram = s.mram ∧ (fbPattern mb readBack s p).flash = s.flash ∧ (fbPattern mb readBack s
    p).evt = s.evt := by
  unfold fbPattern
  simp
def fbPatternRegs : List Field := dramExitRegs ++ loadFallbackRegs ++ [DDRC.STATUS.RANGE_ERR]
@[simp] theorem fbPattern_word {key : Nat} (hk : Outside fbPatternRegs key) (mb : Nat) (readBack : List (Nat × List
    Byte)) (s : State) (p : List Byte)  : wordAt (fbPattern mb readBack s p).regs key = wordAt s.regs key := by
  simp only [fbPatternRegs, outside_append, outside_cons, outside_nil, and_true] at hk
  unfold fbPattern
  simp [hk]
@[simp] theorem programSlot_keep (s : State) (n : Nat) (b : List Byte) : (programSlot s n b).pending = s.pending ∧
    (programSlot s n b).act = s.act ∧ (programSlot s n b).lt = s.lt ∧ (programSlot s n b).synced = s.synced ∧
    (programSlot s n b).free = s.free ∧ (programSlot s n b).dram = s.dram ∧ (programSlot s n b).scan = s.scan ∧
    (programSlot s n b).pix = s.pix ∧ (programSlot s n b).gal = s.gal ∧ (programSlot s n b).eng = s.eng ∧ (programSlot
    s n b).stats = s.stats ∧ (programSlot s n b).shd = s.shd ∧ (programSlot s n b).diag = s.diag ∧ (programSlot s n
    b).cal = s.cal ∧ (programSlot s n b).net = s.net ∧ (programSlot s n b).mbx = s.mbx ∧ (programSlot s n b).io = s.io
    ∧ (programSlot s n b).pins = s.pins ∧ (programSlot s n b).aux = s.aux ∧ (programSlot s n b).clk = s.clk ∧
    (programSlot s n b).pwr = s.pwr ∧ (programSlot s n b).boot = s.boot ∧ (programSlot s n b).thm = s.thm ∧
    (programSlot s n b).ddr = s.ddr ∧ (programSlot s n b).mram = s.mram ∧ (programSlot s n b).flash = s.flash ∧
    (programSlot s n b).flt = s.flt ∧ (programSlot s n b).evt = s.evt := by
  unfold programSlot
  simp
def programSlotRegs : List Field := [SAFE.SEAL.SLOTS_FREE]
@[simp] theorem programSlot_word {key : Nat} (hk : Outside programSlotRegs key) (s : State) (n : Nat) (b : List Byte)
    : wordAt (programSlot s n b).regs key = wordAt s.regs key := by
  simp only [programSlotRegs, outside_append, outside_cons, outside_nil, and_true] at hk
  unfold programSlot
  simp [hk]
@[simp] theorem tornSlot_keep (s : State) (n : Nat) : (tornSlot s n).pending = s.pending ∧ (tornSlot s n).act = s.act
    ∧ (tornSlot s n).lt = s.lt ∧ (tornSlot s n).synced = s.synced ∧ (tornSlot s n).dram = s.dram ∧ (tornSlot s n).scan
    = s.scan ∧ (tornSlot s n).pix = s.pix ∧ (tornSlot s n).gal = s.gal ∧ (tornSlot s n).eng = s.eng ∧ (tornSlot s
    n).stats = s.stats ∧ (tornSlot s n).shd = s.shd ∧ (tornSlot s n).diag = s.diag ∧ (tornSlot s n).cal = s.cal ∧
    (tornSlot s n).net = s.net ∧ (tornSlot s n).mbx = s.mbx ∧ (tornSlot s n).io = s.io ∧ (tornSlot s n).pins = s.pins
    ∧ (tornSlot s n).aux = s.aux ∧ (tornSlot s n).clk = s.clk ∧ (tornSlot s n).pwr = s.pwr ∧ (tornSlot s n).boot =
    s.boot ∧ (tornSlot s n).thm = s.thm ∧ (tornSlot s n).ddr = s.ddr ∧ (tornSlot s n).mram = s.mram ∧ (tornSlot s
    n).flash = s.flash ∧ (tornSlot s n).flt = s.flt ∧ (tornSlot s n).evt = s.evt := by
  unfold tornSlot
  simp
def tornSlotRegs : List Field := [SAFE.SEAL.SLOTS_FREE]
@[simp] theorem tornSlot_word {key : Nat} (hk : Outside tornSlotRegs key) (s : State) (n : Nat)  : wordAt (tornSlot s
    n).regs key = wordAt s.regs key := by
  simp only [tornSlotRegs, outside_append, outside_cons, outside_nil, and_true] at hk
  unfold tornSlot
  simp [hk]
@[simp] theorem reseal_keep (mb : Nat) (verified : Bool) (s : State) (p : List Byte) : (reseal mb verified s
    p).pending = s.pending ∧ (reseal mb verified s p).act = s.act ∧ (reseal mb verified s p).lt = s.lt ∧ (reseal mb
    verified s p).synced = s.synced ∧ (reseal mb verified s p).dram = s.dram ∧ (reseal mb verified s p).scan = s.scan
    ∧ (reseal mb verified s p).pix = s.pix ∧ (reseal mb verified s p).gal = s.gal ∧ (reseal mb verified s p).eng =
    s.eng ∧ (reseal mb verified s p).stats = s.stats ∧ (reseal mb verified s p).shd = s.shd ∧ (reseal mb verified s
    p).diag = s.diag ∧ (reseal mb verified s p).cal = s.cal ∧ (reseal mb verified s p).io = s.io ∧ (reseal mb verified
    s p).pins = s.pins ∧ (reseal mb verified s p).aux = s.aux ∧ (reseal mb verified s p).clk = s.clk ∧ (reseal mb
    verified s p).pwr = s.pwr ∧ (reseal mb verified s p).boot = s.boot ∧ (reseal mb verified s p).thm = s.thm ∧
    (reseal mb verified s p).mram = s.mram ∧ (reseal mb verified s p).flash = s.flash ∧ (reseal mb verified s p).evt =
    s.evt := by
  unfold reseal
  simp
def resealRegs : List Field := dramExitRegs ++ programSlotRegs ++ tornSlotRegs ++ [DDRC.STATUS.RANGE_ERR]
@[simp] theorem reseal_word {key : Nat} (hk : Outside resealRegs key) (mb : Nat) (verified : Bool) (s : State) (p :
    List Byte)  : wordAt (reseal mb verified s p).regs key = wordAt s.regs key := by
  simp only [resealRegs, outside_append, outside_cons, outside_nil, and_true] at hk
  unfold reseal
  simp [hk]
@[simp] theorem pixelAge_keep (mb : Nat) (s : State) (p : List Byte) : (pixelAge mb s p).pending = s.pending ∧
    (pixelAge mb s p).regs = s.regs ∧ (pixelAge mb s p).act = s.act ∧ (pixelAge mb s p).lt = s.lt ∧ (pixelAge mb s
    p).synced = s.synced ∧ (pixelAge mb s p).free = s.free ∧ (pixelAge mb s p).dram = s.dram ∧ (pixelAge mb s p).scan
    = s.scan ∧ (pixelAge mb s p).pix = s.pix ∧ (pixelAge mb s p).gal = s.gal ∧ (pixelAge mb s p).eng = s.eng ∧
    (pixelAge mb s p).stats = s.stats ∧ (pixelAge mb s p).shd = s.shd ∧ (pixelAge mb s p).guard = s.guard ∧ (pixelAge
    mb s p).diag = s.diag ∧ (pixelAge mb s p).cal = s.cal ∧ (pixelAge mb s p).io = s.io ∧ (pixelAge mb s p).pins =
    s.pins ∧ (pixelAge mb s p).aux = s.aux ∧ (pixelAge mb s p).clk = s.clk ∧ (pixelAge mb s p).pwr = s.pwr ∧ (pixelAge
    mb s p).boot = s.boot ∧ (pixelAge mb s p).thm = s.thm ∧ (pixelAge mb s p).ddr = s.ddr ∧ (pixelAge mb s p).mram =
    s.mram ∧ (pixelAge mb s p).flash = s.flash ∧ (pixelAge mb s p).evt = s.evt := by
  unfold pixelAge
  simp
@[simp] theorem mapRead_keep (mb : Nat) (s : State) (p : List Byte) : (mapRead mb s p).pending = s.pending ∧ (mapRead
    mb s p).regs = s.regs ∧ (mapRead mb s p).act = s.act ∧ (mapRead mb s p).lt = s.lt ∧ (mapRead mb s p).synced =
    s.synced ∧ (mapRead mb s p).free = s.free ∧ (mapRead mb s p).dram = s.dram ∧ (mapRead mb s p).scan = s.scan ∧
    (mapRead mb s p).pix = s.pix ∧ (mapRead mb s p).gal = s.gal ∧ (mapRead mb s p).eng = s.eng ∧ (mapRead mb s
    p).stats = s.stats ∧ (mapRead mb s p).shd = s.shd ∧ (mapRead mb s p).guard = s.guard ∧ (mapRead mb s p).diag =
    s.diag ∧ (mapRead mb s p).cal = s.cal ∧ (mapRead mb s p).io = s.io ∧ (mapRead mb s p).pins = s.pins ∧ (mapRead mb
    s p).aux = s.aux ∧ (mapRead mb s p).clk = s.clk ∧ (mapRead mb s p).pwr = s.pwr ∧ (mapRead mb s p).boot = s.boot ∧
    (mapRead mb s p).thm = s.thm ∧ (mapRead mb s p).ddr = s.ddr ∧ (mapRead mb s p).mram = s.mram ∧ (mapRead mb s
    p).flash = s.flash ∧ (mapRead mb s p).evt = s.evt := by
  unfold mapRead
  simp
@[simp] theorem unmapPixel_keep (s : State) (c r : Nat) : (unmapPixel s c r).pending = s.pending ∧ (unmapPixel s c
    r).act = s.act ∧ (unmapPixel s c r).lt = s.lt ∧ (unmapPixel s c r).synced = s.synced ∧ (unmapPixel s c r).free =
    s.free ∧ (unmapPixel s c r).dram = s.dram ∧ (unmapPixel s c r).gal = s.gal ∧ (unmapPixel s c r).eng = s.eng ∧
    (unmapPixel s c r).stats = s.stats ∧ (unmapPixel s c r).shd = s.shd ∧ (unmapPixel s c r).guard = s.guard ∧
    (unmapPixel s c r).cal = s.cal ∧ (unmapPixel s c r).net = s.net ∧ (unmapPixel s c r).mbx = s.mbx ∧ (unmapPixel s c
    r).io = s.io ∧ (unmapPixel s c r).pins = s.pins ∧ (unmapPixel s c r).aux = s.aux ∧ (unmapPixel s c r).clk = s.clk
    ∧ (unmapPixel s c r).pwr = s.pwr ∧ (unmapPixel s c r).boot = s.boot ∧ (unmapPixel s c r).thm = s.thm ∧ (unmapPixel
    s c r).ddr = s.ddr ∧ (unmapPixel s c r).mram = s.mram ∧ (unmapPixel s c r).flash = s.flash ∧ (unmapPixel s c
    r).evt = s.evt := by
  unfold unmapPixel
  simp
def unmapPixelRegs : List Field := writeTrimRegs
@[simp] theorem unmapPixel_word {key : Nat} (hk : Outside unmapPixelRegs key) (s : State) (c r : Nat)  : wordAt
    (unmapPixel s c r).regs key = wordAt s.regs key := by
  simp only [unmapPixelRegs, outside_append, outside_cons, outside_nil, and_true] at hk
  unfold unmapPixel
  simp [hk]
@[simp] theorem clearPosition_keep (a : State × Nat) (x : Nat × Nat) : (clearPosition a x).1.pending = a.1.pending ∧
    (clearPosition a x).1.act = a.1.act ∧ (clearPosition a x).1.lt = a.1.lt ∧ (clearPosition a x).1.synced =
    a.1.synced ∧ (clearPosition a x).1.free = a.1.free ∧ (clearPosition a x).1.dram = a.1.dram ∧ (clearPosition a
    x).1.gal = a.1.gal ∧ (clearPosition a x).1.eng = a.1.eng ∧ (clearPosition a x).1.stats = a.1.stats ∧
    (clearPosition a x).1.shd = a.1.shd ∧ (clearPosition a x).1.guard = a.1.guard ∧ (clearPosition a x).1.cal =
    a.1.cal ∧ (clearPosition a x).1.net = a.1.net ∧ (clearPosition a x).1.mbx = a.1.mbx ∧ (clearPosition a x).1.io =
    a.1.io ∧ (clearPosition a x).1.pins = a.1.pins ∧ (clearPosition a x).1.aux = a.1.aux ∧ (clearPosition a x).1.clk =
    a.1.clk ∧ (clearPosition a x).1.pwr = a.1.pwr ∧ (clearPosition a x).1.boot = a.1.boot ∧ (clearPosition a x).1.thm
    = a.1.thm ∧ (clearPosition a x).1.ddr = a.1.ddr ∧ (clearPosition a x).1.mram = a.1.mram ∧ (clearPosition a
    x).1.flash = a.1.flash ∧ (clearPosition a x).1.evt = a.1.evt := by
  simp only [clearPosition]
  (repeat' apply And.intro) <;> (repeat' split) <;> simp

def clearPositionRegs : List Field := unmapPixelRegs

@[simp] theorem clearPosition_word {key : Nat} (hk : Outside clearPositionRegs key) (a : State × Nat) (x : Nat × Nat) :
    wordAt (clearPosition a x).1.regs key = wordAt a.1.regs key := by
  have h1 : Outside unmapPixelRegs key := hk
  simp only [clearPosition]
  (repeat' split) <;> simp [h1]

@[simp] theorem clearPosition_fold_keep (l : List (Nat × Nat)) (a : State × Nat) : (l.foldl clearPosition a).1.pending
    = a.1.pending ∧ (l.foldl clearPosition a).1.act = a.1.act ∧ (l.foldl clearPosition a).1.lt = a.1.lt ∧ (l.foldl
    clearPosition a).1.synced = a.1.synced ∧ (l.foldl clearPosition a).1.free = a.1.free ∧ (l.foldl clearPosition
    a).1.dram = a.1.dram ∧ (l.foldl clearPosition a).1.gal = a.1.gal ∧ (l.foldl clearPosition a).1.eng = a.1.eng ∧
    (l.foldl clearPosition a).1.stats = a.1.stats ∧ (l.foldl clearPosition a).1.shd = a.1.shd ∧ (l.foldl clearPosition
    a).1.guard = a.1.guard ∧ (l.foldl clearPosition a).1.cal = a.1.cal ∧ (l.foldl clearPosition a).1.net = a.1.net ∧
    (l.foldl clearPosition a).1.mbx = a.1.mbx ∧ (l.foldl clearPosition a).1.io = a.1.io ∧ (l.foldl clearPosition
    a).1.pins = a.1.pins ∧ (l.foldl clearPosition a).1.aux = a.1.aux ∧ (l.foldl clearPosition a).1.clk = a.1.clk ∧
    (l.foldl clearPosition a).1.pwr = a.1.pwr ∧ (l.foldl clearPosition a).1.boot = a.1.boot ∧ (l.foldl clearPosition
    a).1.thm = a.1.thm ∧ (l.foldl clearPosition a).1.ddr = a.1.ddr ∧ (l.foldl clearPosition a).1.mram = a.1.mram ∧
    (l.foldl clearPosition a).1.flash = a.1.flash ∧ (l.foldl clearPosition a).1.evt = a.1.evt := by
  induction l generalizing a with
  | nil => simp
  | cons x t ih => simp [ih]

@[simp] theorem clearPosition_fold_word {key : Nat} (hk : Outside clearPositionRegs key) (l : List (Nat × Nat)) (a : State × Nat) :
    wordAt (l.foldl clearPosition a).1.regs key = wordAt a.1.regs key := by
  induction l generalizing a with
  | nil => simp
  | cons x t ih => simp [ih, hk]
@[simp] theorem mapClear_keep (mb : Nat) (s : State) (p : List Byte) : (mapClear mb s p).pending = s.pending ∧
    (mapClear mb s p).act = s.act ∧ (mapClear mb s p).lt = s.lt ∧ (mapClear mb s p).synced = s.synced ∧ (mapClear mb s
    p).free = s.free ∧ (mapClear mb s p).dram = s.dram ∧ (mapClear mb s p).gal = s.gal ∧ (mapClear mb s p).eng = s.eng
    ∧ (mapClear mb s p).stats = s.stats ∧ (mapClear mb s p).shd = s.shd ∧ (mapClear mb s p).guard = s.guard ∧
    (mapClear mb s p).cal = s.cal ∧ (mapClear mb s p).io = s.io ∧ (mapClear mb s p).pins = s.pins ∧ (mapClear mb s
    p).aux = s.aux ∧ (mapClear mb s p).clk = s.clk ∧ (mapClear mb s p).pwr = s.pwr ∧ (mapClear mb s p).boot = s.boot ∧
    (mapClear mb s p).thm = s.thm ∧ (mapClear mb s p).ddr = s.ddr ∧ (mapClear mb s p).flash = s.flash ∧ (mapClear mb s
    p).evt = s.evt := by
  unfold mapClear
  simp
def mapClearRegs : List Field := clearPositionRegs
@[simp] theorem mapClear_word {key : Nat} (hk : Outside mapClearRegs key) (mb : Nat) (s : State) (p : List Byte)  :
    wordAt (mapClear mb s p).regs key = wordAt s.regs key := by
  simp only [mapClearRegs, outside_append, outside_cons, outside_nil, and_true] at hk
  unfold mapClear
  simp [hk]
@[simp] theorem zoneRatio_keep (mb : Nat) (s : State) (p : List Byte) : (zoneRatio mb s p).pending = s.pending ∧
    (zoneRatio mb s p).regs = s.regs ∧ (zoneRatio mb s p).act = s.act ∧ (zoneRatio mb s p).lt = s.lt ∧ (zoneRatio mb s
    p).synced = s.synced ∧ (zoneRatio mb s p).free = s.free ∧ (zoneRatio mb s p).dram = s.dram ∧ (zoneRatio mb s
    p).scan = s.scan ∧ (zoneRatio mb s p).pix = s.pix ∧ (zoneRatio mb s p).gal = s.gal ∧ (zoneRatio mb s p).eng =
    s.eng ∧ (zoneRatio mb s p).stats = s.stats ∧ (zoneRatio mb s p).shd = s.shd ∧ (zoneRatio mb s p).guard = s.guard ∧
    (zoneRatio mb s p).diag = s.diag ∧ (zoneRatio mb s p).cal = s.cal ∧ (zoneRatio mb s p).io = s.io ∧ (zoneRatio mb s
    p).pins = s.pins ∧ (zoneRatio mb s p).aux = s.aux ∧ (zoneRatio mb s p).clk = s.clk ∧ (zoneRatio mb s p).pwr =
    s.pwr ∧ (zoneRatio mb s p).boot = s.boot ∧ (zoneRatio mb s p).thm = s.thm ∧ (zoneRatio mb s p).ddr = s.ddr ∧
    (zoneRatio mb s p).mram = s.mram ∧ (zoneRatio mb s p).flash = s.flash ∧ (zoneRatio mb s p).evt = s.evt := by
  unfold zoneRatio
  simp
@[simp] theorem vfRead_keep (mb : Nat) (s : State) (p : List Byte) : (vfRead mb s p).pending = s.pending ∧ (vfRead mb
    s p).regs = s.regs ∧ (vfRead mb s p).act = s.act ∧ (vfRead mb s p).lt = s.lt ∧ (vfRead mb s p).synced = s.synced ∧
    (vfRead mb s p).free = s.free ∧ (vfRead mb s p).dram = s.dram ∧ (vfRead mb s p).scan = s.scan ∧ (vfRead mb s
    p).pix = s.pix ∧ (vfRead mb s p).gal = s.gal ∧ (vfRead mb s p).eng = s.eng ∧ (vfRead mb s p).stats = s.stats ∧
    (vfRead mb s p).shd = s.shd ∧ (vfRead mb s p).guard = s.guard ∧ (vfRead mb s p).diag = s.diag ∧ (vfRead mb s
    p).cal = s.cal ∧ (vfRead mb s p).io = s.io ∧ (vfRead mb s p).pins = s.pins ∧ (vfRead mb s p).aux = s.aux ∧ (vfRead
    mb s p).clk = s.clk ∧ (vfRead mb s p).pwr = s.pwr ∧ (vfRead mb s p).boot = s.boot ∧ (vfRead mb s p).thm = s.thm ∧
    (vfRead mb s p).ddr = s.ddr ∧ (vfRead mb s p).mram = s.mram ∧ (vfRead mb s p).flash = s.flash ∧ (vfRead mb s
    p).evt = s.evt := by
  unfold vfRead
  simp
@[simp] theorem doseRead_keep (mb : Nat) (s : State) (p : List Byte) : (doseRead mb s p).pending = s.pending ∧
    (doseRead mb s p).regs = s.regs ∧ (doseRead mb s p).act = s.act ∧ (doseRead mb s p).lt = s.lt ∧ (doseRead mb s
    p).synced = s.synced ∧ (doseRead mb s p).free = s.free ∧ (doseRead mb s p).dram = s.dram ∧ (doseRead mb s p).scan
    = s.scan ∧ (doseRead mb s p).pix = s.pix ∧ (doseRead mb s p).gal = s.gal ∧ (doseRead mb s p).eng = s.eng ∧
    (doseRead mb s p).stats = s.stats ∧ (doseRead mb s p).shd = s.shd ∧ (doseRead mb s p).guard = s.guard ∧ (doseRead
    mb s p).diag = s.diag ∧ (doseRead mb s p).cal = s.cal ∧ (doseRead mb s p).io = s.io ∧ (doseRead mb s p).pins =
    s.pins ∧ (doseRead mb s p).aux = s.aux ∧ (doseRead mb s p).clk = s.clk ∧ (doseRead mb s p).pwr = s.pwr ∧ (doseRead
    mb s p).boot = s.boot ∧ (doseRead mb s p).thm = s.thm ∧ (doseRead mb s p).ddr = s.ddr ∧ (doseRead mb s p).mram =
    s.mram ∧ (doseRead mb s p).flash = s.flash ∧ (doseRead mb s p).evt = s.evt := by
  unfold doseRead
  simp
@[simp] theorem witnessRead_keep (mb : Nat) (s : State) (p : List Byte) : (witnessRead mb s p).pending = s.pending ∧
    (witnessRead mb s p).regs = s.regs ∧ (witnessRead mb s p).act = s.act ∧ (witnessRead mb s p).lt = s.lt ∧
    (witnessRead mb s p).synced = s.synced ∧ (witnessRead mb s p).free = s.free ∧ (witnessRead mb s p).dram = s.dram ∧
    (witnessRead mb s p).scan = s.scan ∧ (witnessRead mb s p).pix = s.pix ∧ (witnessRead mb s p).gal = s.gal ∧
    (witnessRead mb s p).eng = s.eng ∧ (witnessRead mb s p).stats = s.stats ∧ (witnessRead mb s p).shd = s.shd ∧
    (witnessRead mb s p).guard = s.guard ∧ (witnessRead mb s p).diag = s.diag ∧ (witnessRead mb s p).cal = s.cal ∧
    (witnessRead mb s p).io = s.io ∧ (witnessRead mb s p).pins = s.pins ∧ (witnessRead mb s p).aux = s.aux ∧
    (witnessRead mb s p).clk = s.clk ∧ (witnessRead mb s p).pwr = s.pwr ∧ (witnessRead mb s p).boot = s.boot ∧
    (witnessRead mb s p).thm = s.thm ∧ (witnessRead mb s p).ddr = s.ddr ∧ (witnessRead mb s p).mram = s.mram ∧
    (witnessRead mb s p).flash = s.flash ∧ (witnessRead mb s p).evt = s.evt := by
  unfold witnessRead
  simp
@[simp] theorem recalibrate_keep (mb : Nat) (readings : List UnitReading) (badRows : List Nat) (s : State) (p : List
    Byte) : (recalibrate mb readings badRows s p).pending = s.pending ∧ (recalibrate mb readings badRows s p).act =
    s.act ∧ (recalibrate mb readings badRows s p).lt = s.lt ∧ (recalibrate mb readings badRows s p).synced = s.synced
    ∧ (recalibrate mb readings badRows s p).free = s.free ∧ (recalibrate mb readings badRows s p).dram = s.dram ∧
    (recalibrate mb readings badRows s p).gal = s.gal ∧ (recalibrate mb readings badRows s p).eng = s.eng ∧
    (recalibrate mb readings badRows s p).stats = s.stats ∧ (recalibrate mb readings badRows s p).shd = s.shd ∧
    (recalibrate mb readings badRows s p).guard = s.guard ∧ (recalibrate mb readings badRows s p).io = s.io ∧
    (recalibrate mb readings badRows s p).pins = s.pins ∧ (recalibrate mb readings badRows s p).aux = s.aux ∧
    (recalibrate mb readings badRows s p).clk = s.clk ∧ (recalibrate mb readings badRows s p).pwr = s.pwr ∧
    (recalibrate mb readings badRows s p).boot = s.boot ∧ (recalibrate mb readings badRows s p).thm = s.thm ∧
    (recalibrate mb readings badRows s p).ddr = s.ddr ∧ (recalibrate mb readings badRows s p).mram = s.mram ∧
    (recalibrate mb readings badRows s p).flash = s.flash ∧ (recalibrate mb readings badRows s p).evt = s.evt := by
  unfold recalibrate
  simp
def recalibrateRegs : List Field := startUpCalibrationRegs
@[simp] theorem recalibrate_word {key : Nat} (hk : Outside recalibrateRegs key) (mb : Nat) (readings : List
    UnitReading) (badRows : List Nat) (s : State) (p : List Byte)  : wordAt (recalibrate mb readings badRows s p).regs
    key = wordAt s.regs key := by
  simp only [recalibrateRegs, outside_append, outside_cons, outside_nil, and_true] at hk
  unfold recalibrate
  simp [hk]
@[simp] theorem powerDown_keep (mb : Nat) (s : State) (p : List Byte) : (powerDown mb s p).pending = s.pending ∧
    (powerDown mb s p).act = s.act ∧ (powerDown mb s p).lt = s.lt ∧ (powerDown mb s p).synced = s.synced ∧ (powerDown
    mb s p).free = s.free ∧ (powerDown mb s p).dram = s.dram ∧ (powerDown mb s p).gal = s.gal ∧ (powerDown mb s p).eng
    = s.eng ∧ (powerDown mb s p).stats = s.stats ∧ (powerDown mb s p).guard = s.guard ∧ (powerDown mb s p).io = s.io ∧
    (powerDown mb s p).pins = s.pins ∧ (powerDown mb s p).aux = s.aux ∧ (powerDown mb s p).clk = s.clk ∧ (powerDown mb
    s p).pwr = s.pwr ∧ (powerDown mb s p).boot = s.boot ∧ (powerDown mb s p).thm = s.thm ∧ (powerDown mb s p).ddr =
    s.ddr ∧ (powerDown mb s p).flash = s.flash ∧ (powerDown mb s p).evt = s.evt := by
  unfold powerDown
  simp only []; (repeat' split) <;> simp
def powerDownRegs : List Field := scanDisableRegs
@[simp] theorem powerDown_word {key : Nat} (hk : Outside powerDownRegs key) (mb : Nat) (s : State) (p : List Byte)  :
    wordAt (powerDown mb s p).regs key = wordAt s.regs key := by
  simp only [powerDownRegs, outside_append, outside_cons, outside_nil, and_true] at hk
  unfold powerDown
  simp only []; (repeat' split) <;> (try simp [hk])
@[simp] theorem beginEnum_keep (s : State) (mb start : Nat) : (beginEnum s mb start).pending = s.pending ∧ (beginEnum
    s mb start).act = s.act ∧ (beginEnum s mb start).free = s.free ∧ (beginEnum s mb start).dram = s.dram ∧ (beginEnum
    s mb start).scan = s.scan ∧ (beginEnum s mb start).pix = s.pix ∧ (beginEnum s mb start).gal = s.gal ∧ (beginEnum s
    mb start).eng = s.eng ∧ (beginEnum s mb start).stats = s.stats ∧ (beginEnum s mb start).shd = s.shd ∧ (beginEnum s
    mb start).guard = s.guard ∧ (beginEnum s mb start).diag = s.diag ∧ (beginEnum s mb start).cal = s.cal ∧ (beginEnum
    s mb start).io = s.io ∧ (beginEnum s mb start).pins = s.pins ∧ (beginEnum s mb start).aux = s.aux ∧ (beginEnum s
    mb start).clk = s.clk ∧ (beginEnum s mb start).thm = s.thm ∧ (beginEnum s mb start).ddr = s.ddr ∧ (beginEnum s mb
    start).mram = s.mram ∧ (beginEnum s mb start).flash = s.flash ∧ (beginEnum s mb start).evt = s.evt := by
  unfold beginEnum
  simp
def beginEnumRegs : List Field := ringRegs ++ takeAddressRegs
@[simp] theorem beginEnum_word {key : Nat} (hk : Outside beginEnumRegs key) (s : State) (mb start : Nat)  : wordAt
    (beginEnum s mb start).regs key = wordAt s.regs key := by
  simp only [beginEnumRegs, outside_append, outside_cons, outside_nil, and_true] at hk
  unfold beginEnum
  simp [hk]
@[simp] theorem enumerateCmd_keep (mb : Nat) (s : State) (p : List Byte) : (enumerateCmd mb s p).pending = s.pending ∧
    (enumerateCmd mb s p).act = s.act ∧ (enumerateCmd mb s p).free = s.free ∧ (enumerateCmd mb s p).dram = s.dram ∧
    (enumerateCmd mb s p).scan = s.scan ∧ (enumerateCmd mb s p).pix = s.pix ∧ (enumerateCmd mb s p).gal = s.gal ∧
    (enumerateCmd mb s p).eng = s.eng ∧ (enumerateCmd mb s p).stats = s.stats ∧ (enumerateCmd mb s p).shd = s.shd ∧
    (enumerateCmd mb s p).guard = s.guard ∧ (enumerateCmd mb s p).diag = s.diag ∧ (enumerateCmd mb s p).cal = s.cal ∧
    (enumerateCmd mb s p).io = s.io ∧ (enumerateCmd mb s p).pins = s.pins ∧ (enumerateCmd mb s p).aux = s.aux ∧
    (enumerateCmd mb s p).clk = s.clk ∧ (enumerateCmd mb s p).thm = s.thm ∧ (enumerateCmd mb s p).ddr = s.ddr ∧
    (enumerateCmd mb s p).mram = s.mram ∧ (enumerateCmd mb s p).flash = s.flash ∧ (enumerateCmd mb s p).evt = s.evt := by
  unfold enumerateCmd
  simp
def enumerateCmdRegs : List Field := beginEnumRegs
@[simp] theorem enumerateCmd_word {key : Nat} (hk : Outside enumerateCmdRegs key) (mb : Nat) (s : State) (p : List
    Byte)  : wordAt (enumerateCmd mb s p).regs key = wordAt s.regs key := by
  simp only [enumerateCmdRegs, outside_append, outside_cons, outside_nil, and_true] at hk
  unfold enumerateCmd
  simp [hk]
@[simp] theorem enumExpires_keep (mb : Nat) (s : State) (u1 : List Byte) : (enumExpires mb s u1).pending = s.pending ∧
    (enumExpires mb s u1).regs = s.regs ∧ (enumExpires mb s u1).act = s.act ∧ (enumExpires mb s u1).lt = s.lt ∧
    (enumExpires mb s u1).synced = s.synced ∧ (enumExpires mb s u1).free = s.free ∧ (enumExpires mb s u1).dram =
    s.dram ∧ (enumExpires mb s u1).scan = s.scan ∧ (enumExpires mb s u1).pix = s.pix ∧ (enumExpires mb s u1).gal =
    s.gal ∧ (enumExpires mb s u1).eng = s.eng ∧ (enumExpires mb s u1).stats = s.stats ∧ (enumExpires mb s u1).shd =
    s.shd ∧ (enumExpires mb s u1).guard = s.guard ∧ (enumExpires mb s u1).diag = s.diag ∧ (enumExpires mb s u1).cal =
    s.cal ∧ (enumExpires mb s u1).io = s.io ∧ (enumExpires mb s u1).pins = s.pins ∧ (enumExpires mb s u1).aux = s.aux
    ∧ (enumExpires mb s u1).clk = s.clk ∧ (enumExpires mb s u1).pwr = s.pwr ∧ (enumExpires mb s u1).boot = s.boot ∧
    (enumExpires mb s u1).thm = s.thm ∧ (enumExpires mb s u1).ddr = s.ddr ∧ (enumExpires mb s u1).mram = s.mram ∧
    (enumExpires mb s u1).flash = s.flash ∧ (enumExpires mb s u1).evt = s.evt := by
  unfold enumExpires
  simp
@[simp] theorem assignAddr_keep (mb : Nat) (s : State) (p : List Byte) : (assignAddr mb s p).pending = s.pending ∧
    (assignAddr mb s p).act = s.act ∧ (assignAddr mb s p).lt = s.lt ∧ (assignAddr mb s p).synced = s.synced ∧
    (assignAddr mb s p).free = s.free ∧ (assignAddr mb s p).dram = s.dram ∧ (assignAddr mb s p).scan = s.scan ∧
    (assignAddr mb s p).pix = s.pix ∧ (assignAddr mb s p).gal = s.gal ∧ (assignAddr mb s p).eng = s.eng ∧ (assignAddr
    mb s p).stats = s.stats ∧ (assignAddr mb s p).shd = s.shd ∧ (assignAddr mb s p).guard = s.guard ∧ (assignAddr mb s
    p).diag = s.diag ∧ (assignAddr mb s p).cal = s.cal ∧ (assignAddr mb s p).io = s.io ∧ (assignAddr mb s p).pins =
    s.pins ∧ (assignAddr mb s p).aux = s.aux ∧ (assignAddr mb s p).clk = s.clk ∧ (assignAddr mb s p).pwr = s.pwr ∧
    (assignAddr mb s p).boot = s.boot ∧ (assignAddr mb s p).thm = s.thm ∧ (assignAddr mb s p).ddr = s.ddr ∧
    (assignAddr mb s p).mram = s.mram ∧ (assignAddr mb s p).flash = s.flash ∧ (assignAddr mb s p).evt = s.evt := by
  unfold assignAddr
  simp
def assignAddrRegs : List Field := takeAddressRegs
@[simp] theorem assignAddr_word {key : Nat} (hk : Outside assignAddrRegs key) (mb : Nat) (s : State) (p : List Byte)
    : wordAt (assignAddr mb s p).regs key = wordAt s.regs key := by
  simp only [assignAddrRegs, outside_append, outside_cons, outside_nil, and_true] at hk
  unfold assignAddr
  simp [hk]
@[simp] theorem eventsRead_keep (mb : Nat) (s : State) (p : List Byte) : (eventsRead mb s p).pending = s.pending ∧
    (eventsRead mb s p).regs = s.regs ∧ (eventsRead mb s p).act = s.act ∧ (eventsRead mb s p).lt = s.lt ∧ (eventsRead
    mb s p).synced = s.synced ∧ (eventsRead mb s p).free = s.free ∧ (eventsRead mb s p).dram = s.dram ∧ (eventsRead mb
    s p).scan = s.scan ∧ (eventsRead mb s p).pix = s.pix ∧ (eventsRead mb s p).gal = s.gal ∧ (eventsRead mb s p).eng =
    s.eng ∧ (eventsRead mb s p).stats = s.stats ∧ (eventsRead mb s p).shd = s.shd ∧ (eventsRead mb s p).guard =
    s.guard ∧ (eventsRead mb s p).diag = s.diag ∧ (eventsRead mb s p).cal = s.cal ∧ (eventsRead mb s p).io = s.io ∧
    (eventsRead mb s p).pins = s.pins ∧ (eventsRead mb s p).aux = s.aux ∧ (eventsRead mb s p).clk = s.clk ∧
    (eventsRead mb s p).pwr = s.pwr ∧ (eventsRead mb s p).boot = s.boot ∧ (eventsRead mb s p).thm = s.thm ∧
    (eventsRead mb s p).ddr = s.ddr ∧ (eventsRead mb s p).mram = s.mram ∧ (eventsRead mb s p).flash = s.flash := by
  unfold eventsRead
  simp
@[simp] theorem eventsHistory_keep (mb : Nat) (s : State) (p : List Byte) : (eventsHistory mb s p).pending = s.pending
    ∧ (eventsHistory mb s p).regs = s.regs ∧ (eventsHistory mb s p).act = s.act ∧ (eventsHistory mb s p).lt = s.lt ∧
    (eventsHistory mb s p).synced = s.synced ∧ (eventsHistory mb s p).free = s.free ∧ (eventsHistory mb s p).dram =
    s.dram ∧ (eventsHistory mb s p).scan = s.scan ∧ (eventsHistory mb s p).pix = s.pix ∧ (eventsHistory mb s p).gal =
    s.gal ∧ (eventsHistory mb s p).eng = s.eng ∧ (eventsHistory mb s p).stats = s.stats ∧ (eventsHistory mb s p).shd =
    s.shd ∧ (eventsHistory mb s p).guard = s.guard ∧ (eventsHistory mb s p).diag = s.diag ∧ (eventsHistory mb s p).cal
    = s.cal ∧ (eventsHistory mb s p).io = s.io ∧ (eventsHistory mb s p).pins = s.pins ∧ (eventsHistory mb s p).aux =
    s.aux ∧ (eventsHistory mb s p).clk = s.clk ∧ (eventsHistory mb s p).pwr = s.pwr ∧ (eventsHistory mb s p).boot =
    s.boot ∧ (eventsHistory mb s p).thm = s.thm ∧ (eventsHistory mb s p).ddr = s.ddr ∧ (eventsHistory mb s p).mram =
    s.mram ∧ (eventsHistory mb s p).flash = s.flash ∧ (eventsHistory mb s p).evt = s.evt := by
  unfold eventsHistory
  simp
@[simp] theorem flashTry_keep (s : State) (a : Nat) (v : List Byte) (ok : Bool) : (flashTry s a v ok).pending =
    s.pending ∧ (flashTry s a v ok).regs = s.regs ∧ (flashTry s a v ok).act = s.act ∧ (flashTry s a v ok).lt = s.lt ∧
    (flashTry s a v ok).synced = s.synced ∧ (flashTry s a v ok).dram = s.dram ∧ (flashTry s a v ok).scan = s.scan ∧
    (flashTry s a v ok).pix = s.pix ∧ (flashTry s a v ok).gal = s.gal ∧ (flashTry s a v ok).eng = s.eng ∧ (flashTry s
    a v ok).stats = s.stats ∧ (flashTry s a v ok).shd = s.shd ∧ (flashTry s a v ok).guard = s.guard ∧ (flashTry s a v
    ok).diag = s.diag ∧ (flashTry s a v ok).cal = s.cal ∧ (flashTry s a v ok).net = s.net ∧ (flashTry s a v ok).mbx =
    s.mbx ∧ (flashTry s a v ok).io = s.io ∧ (flashTry s a v ok).pins = s.pins ∧ (flashTry s a v ok).aux = s.aux ∧
    (flashTry s a v ok).clk = s.clk ∧ (flashTry s a v ok).pwr = s.pwr ∧ (flashTry s a v ok).boot = s.boot ∧ (flashTry
    s a v ok).thm = s.thm ∧ (flashTry s a v ok).ddr = s.ddr ∧ (flashTry s a v ok).mram = s.mram ∧ (flashTry s a v
    ok).flt = s.flt ∧ (flashTry s a v ok).evt = s.evt := by
  unfold flashTry
  simp
@[simp] theorem flashWrite_keep (mb : Nat) (verified : Bool) (s : State) (p : List Byte) : (flashWrite mb verified s
    p).pending = s.pending ∧ (flashWrite mb verified s p).regs = s.regs ∧ (flashWrite mb verified s p).act = s.act ∧
    (flashWrite mb verified s p).lt = s.lt ∧ (flashWrite mb verified s p).synced = s.synced ∧ (flashWrite mb verified
    s p).dram = s.dram ∧ (flashWrite mb verified s p).scan = s.scan ∧ (flashWrite mb verified s p).pix = s.pix ∧
    (flashWrite mb verified s p).gal = s.gal ∧ (flashWrite mb verified s p).eng = s.eng ∧ (flashWrite mb verified s
    p).stats = s.stats ∧ (flashWrite mb verified s p).shd = s.shd ∧ (flashWrite mb verified s p).guard = s.guard ∧
    (flashWrite mb verified s p).diag = s.diag ∧ (flashWrite mb verified s p).cal = s.cal ∧ (flashWrite mb verified s
    p).io = s.io ∧ (flashWrite mb verified s p).pins = s.pins ∧ (flashWrite mb verified s p).aux = s.aux ∧ (flashWrite
    mb verified s p).clk = s.clk ∧ (flashWrite mb verified s p).pwr = s.pwr ∧ (flashWrite mb verified s p).boot =
    s.boot ∧ (flashWrite mb verified s p).thm = s.thm ∧ (flashWrite mb verified s p).ddr = s.ddr ∧ (flashWrite mb
    verified s p).mram = s.mram ∧ (flashWrite mb verified s p).evt = s.evt := by
  unfold flashWrite
  simp
@[simp] theorem flashErase_keep (mb : Nat) (verified : Bool) (s : State) (p : List Byte) : (flashErase mb verified s
    p).pending = s.pending ∧ (flashErase mb verified s p).regs = s.regs ∧ (flashErase mb verified s p).act = s.act ∧
    (flashErase mb verified s p).lt = s.lt ∧ (flashErase mb verified s p).synced = s.synced ∧ (flashErase mb verified
    s p).dram = s.dram ∧ (flashErase mb verified s p).scan = s.scan ∧ (flashErase mb verified s p).pix = s.pix ∧
    (flashErase mb verified s p).gal = s.gal ∧ (flashErase mb verified s p).eng = s.eng ∧ (flashErase mb verified s
    p).stats = s.stats ∧ (flashErase mb verified s p).shd = s.shd ∧ (flashErase mb verified s p).guard = s.guard ∧
    (flashErase mb verified s p).diag = s.diag ∧ (flashErase mb verified s p).cal = s.cal ∧ (flashErase mb verified s
    p).io = s.io ∧ (flashErase mb verified s p).pins = s.pins ∧ (flashErase mb verified s p).aux = s.aux ∧ (flashErase
    mb verified s p).clk = s.clk ∧ (flashErase mb verified s p).pwr = s.pwr ∧ (flashErase mb verified s p).boot =
    s.boot ∧ (flashErase mb verified s p).thm = s.thm ∧ (flashErase mb verified s p).ddr = s.ddr ∧ (flashErase mb
    verified s p).mram = s.mram ∧ (flashErase mb verified s p).evt = s.evt := by
  unfold flashErase
  simp [-List.reduceReplicate]
@[simp] theorem slotSelect_keep (mb : Nat) (signature verified : Bool) (s : State) (p : List Byte) : (slotSelect mb
    signature verified s p).pending = s.pending ∧ (slotSelect mb signature verified s p).regs = s.regs ∧ (slotSelect
    mb signature verified s p).act = s.act ∧ (slotSelect mb signature verified s p).lt = s.lt ∧ (slotSelect mb
    signature verified s p).synced = s.synced ∧ (slotSelect mb signature verified s p).dram = s.dram ∧ (slotSelect mb
    signature verified s p).scan = s.scan ∧ (slotSelect mb signature verified s p).pix = s.pix ∧ (slotSelect mb
    signature verified s p).gal = s.gal ∧ (slotSelect mb signature verified s p).eng = s.eng ∧ (slotSelect mb
    signature verified s p).stats = s.stats ∧ (slotSelect mb signature verified s p).shd = s.shd ∧ (slotSelect mb
    signature verified s p).guard = s.guard ∧ (slotSelect mb signature verified s p).diag = s.diag ∧ (slotSelect mb
    signature verified s p).cal = s.cal ∧ (slotSelect mb signature verified s p).io = s.io ∧ (slotSelect mb signature
    verified s p).pins = s.pins ∧ (slotSelect mb signature verified s p).aux = s.aux ∧ (slotSelect mb signature
    verified s p).clk = s.clk ∧ (slotSelect mb signature verified s p).pwr = s.pwr ∧ (slotSelect mb signature verified
    s p).boot = s.boot ∧ (slotSelect mb signature verified s p).thm = s.thm ∧ (slotSelect mb signature verified s
    p).ddr = s.ddr ∧ (slotSelect mb signature verified s p).mram = s.mram ∧ (slotSelect mb signature verified s p).evt
    = s.evt := by
  unfold slotSelect
  (try simp) <;> (repeat' apply And.intro) <;> (repeat' split) <;> (try simp)
@[simp] theorem cfgRead_keep (mb : Nat) (s : State) (p : List Byte) : (cfgRead mb s p).pending = s.pending ∧ (cfgRead
    mb s p).regs = s.regs ∧ (cfgRead mb s p).act = s.act ∧ (cfgRead mb s p).lt = s.lt ∧ (cfgRead mb s p).synced =
    s.synced ∧ (cfgRead mb s p).free = s.free ∧ (cfgRead mb s p).dram = s.dram ∧ (cfgRead mb s p).scan = s.scan ∧
    (cfgRead mb s p).pix = s.pix ∧ (cfgRead mb s p).gal = s.gal ∧ (cfgRead mb s p).eng = s.eng ∧ (cfgRead mb s
    p).stats = s.stats ∧ (cfgRead mb s p).shd = s.shd ∧ (cfgRead mb s p).guard = s.guard ∧ (cfgRead mb s p).diag =
    s.diag ∧ (cfgRead mb s p).cal = s.cal ∧ (cfgRead mb s p).io = s.io ∧ (cfgRead mb s p).pins = s.pins ∧ (cfgRead mb
    s p).aux = s.aux ∧ (cfgRead mb s p).clk = s.clk ∧ (cfgRead mb s p).pwr = s.pwr ∧ (cfgRead mb s p).boot = s.boot ∧
    (cfgRead mb s p).thm = s.thm ∧ (cfgRead mb s p).ddr = s.ddr ∧ (cfgRead mb s p).mram = s.mram ∧ (cfgRead mb s
    p).flash = s.flash ∧ (cfgRead mb s p).evt = s.evt := by
  unfold cfgRead
  simp
@[simp] theorem cfgWrite_keep (mb : Nat) (verified : Bool) (s : State) (p : List Byte) : (cfgWrite mb verified s
    p).pending = s.pending ∧ (cfgWrite mb verified s p).act = s.act ∧ (cfgWrite mb verified s p).lt = s.lt ∧ (cfgWrite
    mb verified s p).synced = s.synced ∧ (cfgWrite mb verified s p).dram = s.dram ∧ (cfgWrite mb verified s p).scan =
    s.scan ∧ (cfgWrite mb verified s p).pix = s.pix ∧ (cfgWrite mb verified s p).gal = s.gal ∧ (cfgWrite mb verified s
    p).eng = s.eng ∧ (cfgWrite mb verified s p).stats = s.stats ∧ (cfgWrite mb verified s p).shd = s.shd ∧ (cfgWrite
    mb verified s p).guard = s.guard ∧ (cfgWrite mb verified s p).diag = s.diag ∧ (cfgWrite mb verified s p).cal =
    s.cal ∧ (cfgWrite mb verified s p).io = s.io ∧ (cfgWrite mb verified s p).pins = s.pins ∧ (cfgWrite mb verified s
    p).aux = s.aux ∧ (cfgWrite mb verified s p).clk = s.clk ∧ (cfgWrite mb verified s p).pwr = s.pwr ∧ (cfgWrite mb
    verified s p).boot = s.boot ∧ (cfgWrite mb verified s p).thm = s.thm ∧ (cfgWrite mb verified s p).ddr = s.ddr ∧
    (cfgWrite mb verified s p).flash = s.flash ∧ (cfgWrite mb verified s p).evt = s.evt := by
  unfold cfgWrite
  (try simp) <;> (repeat' apply And.intro) <;> (repeat' split) <;> (try simp)
def cfgWriteRegs : List Field := [MRAM.STATUS.WEAR_HOLD]
@[simp] theorem cfgWrite_word {key : Nat} (hk : Outside cfgWriteRegs key) (mb : Nat) (verified : Bool) (s : State) (p
    : List Byte)  : wordAt (cfgWrite mb verified s p).regs key = wordAt s.regs key := by
  simp only [cfgWriteRegs, outside_append, outside_cons, outside_nil, and_true] at hk
  unfold cfgWrite
  simp only []; (repeat' split) <;> (try simp [hk])

end Sys2Proof.Machine
end

