-- ==== Sys2Proof/Laws/FrameTick.lean ====
section
/-! SUPPORT. FrameTick.lean: for each operation of Machine/Tick.lean, the parts of State that it leaves alone and the register
fields outside which it changes none. -/

set_option linter.unusedSimpArgs false

namespace Sys2Proof.Machine

set_option Elab.async false

@[simp] theorem cycle_keep (s : State) : (cycle s).pending = s.pending ∧ (cycle s).regs = s.regs ∧ (cycle s).act =
    s.act ∧ (cycle s).synced = s.synced ∧ (cycle s).free = s.free ∧ (cycle s).dram = s.dram ∧ (cycle s).pix = s.pix ∧
    (cycle s).gal = s.gal ∧ (cycle s).eng = s.eng ∧ (cycle s).stats = s.stats ∧ (cycle s).shd = s.shd ∧ (cycle
    s).guard = s.guard ∧ (cycle s).diag = s.diag ∧ (cycle s).cal = s.cal ∧ (cycle s).mbx = s.mbx ∧ (cycle s).io = s.io
    ∧ (cycle s).pins = s.pins ∧ (cycle s).aux = s.aux ∧ (cycle s).clk = s.clk ∧ (cycle s).pwr = s.pwr ∧ (cycle s).boot
    = s.boot ∧ (cycle s).thm = s.thm ∧ (cycle s).ddr = s.ddr ∧ (cycle s).mram = s.mram ∧ (cycle s).flash = s.flash ∧
    (cycle s).flt = s.flt ∧ (cycle s).evt = s.evt := by
  unfold cycle
  simp
@[simp] theorem idle_keep (s : State) : (idle s).pending = s.pending ∧ (idle s).free = s.free ∧ (idle s).flash =
    s.flash := by
  unfold idle
  simp

end Sys2Proof.Machine
end

