-- ==== Sys2Proof/Laws/FrameStep.lean ====
section
/-! SUPPORT. FrameStep.lean: for each operation of Machine/Step.lean, the parts of State that it leaves alone and the register
fields outside which it changes none. -/

set_option linter.unusedSimpArgs false

namespace Sys2Proof.Machine

set_option Elab.async false

@[simp] theorem state_withFetchWord_keep (s : State) (nbits w : Nat) : (State.withFetchWord s nbits w).regs = s.regs ∧
    (State.withFetchWord s nbits w).act = s.act ∧ (State.withFetchWord s nbits w).lt = s.lt ∧ (State.withFetchWord s
    nbits w).synced = s.synced ∧ (State.withFetchWord s nbits w).free = s.free ∧ (State.withFetchWord s nbits w).dram
    = s.dram ∧ (State.withFetchWord s nbits w).scan = s.scan ∧ (State.withFetchWord s nbits w).pix = s.pix ∧
    (State.withFetchWord s nbits w).gal = s.gal ∧ (State.withFetchWord s nbits w).eng = s.eng ∧ (State.withFetchWord s
    nbits w).stats = s.stats ∧ (State.withFetchWord s nbits w).shd = s.shd ∧ (State.withFetchWord s nbits w).guard =
    s.guard ∧ (State.withFetchWord s nbits w).diag = s.diag ∧ (State.withFetchWord s nbits w).cal = s.cal ∧
    (State.withFetchWord s nbits w).net = s.net ∧ (State.withFetchWord s nbits w).mbx = s.mbx ∧ (State.withFetchWord s
    nbits w).io = s.io ∧ (State.withFetchWord s nbits w).pins = s.pins ∧ (State.withFetchWord s nbits w).aux = s.aux ∧
    (State.withFetchWord s nbits w).clk = s.clk ∧ (State.withFetchWord s nbits w).pwr = s.pwr ∧ (State.withFetchWord s
    nbits w).boot = s.boot ∧ (State.withFetchWord s nbits w).thm = s.thm ∧ (State.withFetchWord s nbits w).ddr = s.ddr
    ∧ (State.withFetchWord s nbits w).mram = s.mram ∧ (State.withFetchWord s nbits w).flash = s.flash ∧
    (State.withFetchWord s nbits w).flt = s.flt ∧ (State.withFetchWord s nbits w).evt = s.evt := by
  unfold State.withFetchWord
  split <;> simp

end Sys2Proof.Machine
end

