-- ==== Sys2Proof/Laws/Access.lean ====
section
/-! SUPPORT. Access.lean: outside which register fields a read, a write or a burst over the bus changes none, and what taking a
received packet leaves alone. -/

set_option linter.unusedSimpArgs false

namespace Sys2Proof.Machine

set_option Elab.async false

theorem takePacket_all {s t : State} {p n : Nat} {k : Packet} {r : Nat} (e : takePacket s p n = some (t, k, r)) :
    t.pending = s.pending ∧ t.regs = s.regs ∧ t.act = s.act ∧ t.lt = s.lt ∧ t.synced = s.synced ∧ t.free = s.free ∧
    t.dram = s.dram ∧ t.scan = s.scan ∧ t.pix = s.pix ∧ t.gal = s.gal ∧ t.eng = s.eng ∧ t.stats = s.stats ∧ t.shd =
    s.shd ∧ t.guard = s.guard ∧ t.diag = s.diag ∧ t.cal = s.cal ∧ t.mbx = s.mbx ∧ t.io = s.io ∧ t.pins = s.pins ∧ t.aux
    = s.aux ∧ t.clk = s.clk ∧ t.pwr = s.pwr ∧ t.boot = s.boot ∧ t.thm = s.thm ∧ t.ddr = s.ddr ∧ t.mram = s.mram ∧
    t.flash = s.flash ∧ t.flt = s.flt ∧ t.evt = s.evt := by
  rw [takePacket_net e]; simp

theorem mem_fieldsAt {a : Nat} {f : Field} (h : f ∈ fieldsAt a) : f.addr = a := by
  simp only [fieldsAt, List.mem_filter, beq_iff_eq] at h; exact h.2

theorem readEffect_word {k : Nat} (s : State) (f : Field) (h : fieldKey f ≠ k) :
    wordAt (readEffect s f).regs k = wordAt s.regs k := by
  unfold readEffect; split <;> simp [h]

theorem wordRead_word {k : Nat} (s : State) (a : Nat)
    (h : Outside (fieldsAt a ++ (if a = GAL.LUT_DATA.ENTRY.addr then [GAL.LUT_ADDR.INDEX] else [])) k) :
    wordAt (wordRead s a).1.regs k = wordAt s.regs k := by
  unfold wordRead
  split
  · rename_i e
    have h' : Outside lutReadRegs k := by
      subst e
      simp only [if_true] at h
      exact h.mono (by decide +kernel)
    simp [h']
  · simp only [outside_append] at h
    simp
    exact foldl_word_mem _ _ (fun f hf t => readEffect_word t f (h.1 f hf)) _

theorem bitRead_word {k : Nat} (s : State) (a j : Nat)
    (h : Outside (fieldsAt a ++ (if a = GAL.LUT_DATA.ENTRY.addr then [GAL.LUT_ADDR.INDEX] else [])) k) :
    wordAt (bitRead s a j).1.regs k = wordAt s.regs k := by
  unfold bitRead
  split
  · rfl
  · split
    · rename_i e
      have h' : Outside lutReadRegs k := by
        subst e
        simp only [if_true] at h
        exact h.mono (by decide +kernel)
      simp [h']
    · dsimp only
      split
      · rename_i f hf
        have := h f (by simp [List.mem_of_find?_eq_some hf])
        simp [this]
      · simp

theorem busRead_word {k : Nat} (s : State) (x : Nat) (h : Outside (readRegs x) k) :
    wordAt (busRead s x).1.regs k = wordAt s.regs k := by
  unfold busRead
  split
  · rfl
  · dsimp only
    split
    · rename_i a j e
      have : underlying x = a := by simp [underlying, e]
      exact bitRead_word s a j (by simpa [readRegs, this] using h)
    · rename_i e
      have : underlying x = x := by unfold underlying; split <;> simp_all
      exact wordRead_word s x (by simpa [readRegs, this] using h)

theorem fieldWrite_word {k : Nat} (s : State) (n : Nat) (on : Bool) (f : Field) (v : Nat) (hf : f ∈ fieldsAt f.addr)
    (h : Outside (SYS.WIGN.BLOCK :: fieldsAt f.addr ++ blockRegs (f.addr / 0x10000)) k) :
    wordAt (fieldWrite s n on f v).regs k = wordAt s.regs k := by
  have hfk : fieldKey f ≠ k := h f (by simp [hf])
  have hw : Outside wignRegs k := h.mono (by simp [wignRegs])
  unfold fieldWrite
  split
  · rename_i e
    have : Outside gateBitRegs k := by
      rw [e] at h; exact h.mono (by decide +kernel)
    exact gateBit_word this _ _ _
  · split
    · rename_i e
      have : Outside divWriteRegs k := by
        rw [e] at h; exact h.mono (by decide +kernel)
      split
      · rename_i x hx
        have h1 := List.find?_some hx
        simp only [beq_iff_eq] at h1
        exact divWrite_word this _ _ _ (by rw [h1]; exact hfk)
      · rfl
    · split
      · rename_i e
        have : Outside clkIgnoredRegs k := by
          rw [e.1] at h; exact h.mono (by decide +kernel)
        exact clkIgnored_word this _
      · split
        · rename_i e
          have h1 : Outside lutPutRegs k := by rw [e] at h; exact h.mono (by decide +kernel)
          have h2 : Outside [GAL.LUT_ADDR.INDEX] k := by rw [e] at h; exact h.mono (by decide +kernel)
          simp only [outside_cons, outside_nil, and_true, outside_TX_STATUS_STATE, outside_GAL_FENCE_FENCE, ne_eq] at h2
          simp [h1, h2]
        · split <;> (try split) <;> simp [hfk, hw, plainWrite, hostMode]

theorem enWrite_word {k : Nat} (s : State) (n : Nat) (f : Field) (b : Bool) (he : blockEn n = some f)
    (h : Outside (SYS.WIGN.BLOCK :: fieldsAt f.addr ++ blockRegs (f.addr / 0x10000)) k) :
    wordAt (enWrite s n f b).regs k = wordAt s.regs k := by
  unfold enWrite
  split
  · rfl
  · split <;> (try (simp [blockEn] at he; subst he))
    · have : Outside ddrcEnableRegs k := h.mono (by decide +kernel)
      simp [this]
    · have h1 : Outside startTrainingRegs k := h.mono (by decide +kernel)
      have h2 : Outside [TX.CTRL.EN 0] k := h.mono (by decide +kernel)
      simp only [outside_cons, outside_nil, and_true, outside_TX_STATUS_STATE, outside_GAL_FENCE_FENCE, ne_eq] at h2
      simp [portEnable, h1, h2]
    · have h1 : Outside linkLostRegs k := h.mono (by decide +kernel)
      have h3 : Outside (allOf 2 TX.STATUS.STATE) k := h.mono (by decide +kernel)
      have h2 : Outside [TX.CTRL.EN 0] k := h.mono (by decide +kernel)
      simp only [outside_cons, outside_nil, and_true, outside_TX_STATUS_STATE, outside_GAL_FENCE_FENCE, ne_eq] at h2 h3
      simp [portDisable, h1, h2, h3]
    · have h1 : Outside startTrainingRegs k := h.mono (by decide +kernel)
      have h2 : Outside [TX.CTRL.EN 1] k := h.mono (by decide +kernel)
      simp only [outside_cons, outside_nil, and_true, outside_TX_STATUS_STATE, outside_GAL_FENCE_FENCE, ne_eq] at h2
      simp [portEnable, h1, h2]
    · have h1 : Outside linkLostRegs k := h.mono (by decide +kernel)
      have h3 : Outside (allOf 2 TX.STATUS.STATE) k := h.mono (by decide +kernel)
      have h2 : Outside [TX.CTRL.EN 1] k := h.mono (by decide +kernel)
      simp only [outside_cons, outside_nil, and_true, outside_TX_STATUS_STATE, outside_GAL_FENCE_FENCE, ne_eq] at h2 h3
      simp [portDisable, h1, h2, h3]
    · have : Outside auxEnableRegs k := h.mono (by decide +kernel)
      simp [this]
    · have : Outside auxDisableRegs k := h.mono (by decide +kernel)
      simp [this]
    · have : Outside scanEnableRegs k := h.mono (by decide +kernel)
      simp [this]
    · have : Outside scanDisableRegs k := h.mono (by decide +kernel)
      simp [this]
    · have : Outside galDisableRegs k := h.mono (by decide +kernel)
      simp [this]
    · have hm : f ∈ fieldsAt f.addr := by
        unfold blockEn at he; split at he <;> first | (cases he; decide +kernel) | cases he
      have hfk : fieldKey f ≠ k := h f (by simp [hm])
      simp [hfk]


theorem wordAt_ite_of {c : Prop} [Decidable c] {A B : State} {k : Nat} {W : Word}
    (h1 : c → wordAt A.regs k = W) (h2 : ¬c → wordAt B.regs k = W) :
    wordAt (if c then A else B).regs k = W := by
  by_cases hc : c
  · rw [if_pos hc]; exact h1 hc
  · rw [if_neg hc]; exact h2 hc

theorem commandWrite_at {k : Nat} (s : State) (a : Nat) (w : Word)
    (h : Outside (SYS.WIGN.BLOCK :: fieldsAt a ++ blockRegs (a / 0x10000)) k) :
    wordAt (commandWrite s a w).regs k = wordAt s.regs k := by
  unfold commandWrite
  dsimp only
  refine wordAt_ite_of (fun e => ?_) (fun _ => ?_)
  · subst e
    exact fltAck_word (h.mono (by decide +kernel)) _ _
  refine wordAt_ite_of (fun e => ?_) (fun _ => ?_)
  · subst e
    exact doorbell_word (h.mono (by decide +kernel)) _ _
  refine wordAt_ite_of (fun e => ?_) (fun _ => ?_)
  · simp
  refine wordAt_ite_of (fun e => ?_) (fun _ => ?_)
  · exact wordAt_ite_of (fun _ => by simp) (fun _ => rfl)
  refine wordAt_ite_of (fun e => ?_) (fun _ => ?_)
  · subst e
    exact wordAt_ite_of (fun _ => requestCommit_word (h.mono (by decide +kernel)) _) (fun _ => rfl)
  refine wordAt_ite_of (fun e => ?_) (fun _ => ?_)
  · exact wordAt_ite_of (fun _ => by simp) (fun _ => rfl)
  refine wordAt_ite_of (fun e => ?_) (fun _ => ?_)
  · subst e
    have : Outside (allOf 64 GAL.FENCE.FENCE) k := h.mono (by decide +kernel)
    simp only [outside_cons, outside_nil, and_true, outside_TX_STATUS_STATE, outside_GAL_FENCE_FENCE, ne_eq] at this
    simp [fenceAdd, this]
  refine wordAt_ite_of (fun e => ?_) (fun _ => ?_)
  · subst e
    exact wordAt_ite_of (fun _ => iomuxApply_word (h.mono (by decide +kernel)) _) (fun _ => rfl)
  refine wordAt_ite_of (fun e => ?_) (fun _ => ?_)
  · have h1 : Outside portDownRegs k := by rcases e with e | e <;> (subst e; exact h.mono (by decide +kernel))
    have h2 : Outside startTrainingRegs k := by rcases e with e | e <;> (subst e; exact h.mono (by decide +kernel))
    refine wordAt_ite_of (fun _ => ?_) (fun _ => ?_)
    · rw [startTraining_word h2]; exact wordAt_ite_of (fun _ => portDown_word h1 _ _) (fun _ => rfl)
    · exact wordAt_ite_of (fun _ => portDown_word h1 _ _) (fun _ => rfl)
  refine wordAt_ite_of (fun e => ?_) (fun _ => rfl)
  have hb : a / 0x10000 = 7 := by omega
  rw [hb] at h
  have h1 : Outside crcStartRegs k := by
    refine Outside.mono (m := SYS.WIGN.BLOCK :: blockRegs 7) ?_ (by decide +kernel)
    intro f hf; refine h f ?_
    simp only [List.mem_cons, List.mem_append, List.cons_append] at hf ⊢; tauto
  have h2 : Outside crcFeedRegs k := h1
  unfold crcWrite; split <;> simp [h1, h2]

theorem mbxArea_block {a n o : Nat} {r : Bool} (h : mbxArea a = some (n, r, o)) : a / 0x10000 = 5 := by
  unfold mbxArea at h; split at h
  · omega
  · cases h

theorem wordWrite_word {k : Nat} (s : State) (a : Nat) (w : Word)
    (h : Outside (SYS.WIGN.BLOCK :: fieldsAt a ++ blockRegs (a / 0x10000)) k) :
    wordAt (wordWrite s a w).regs k = wordAt s.regs k := by
  unfold wordWrite
  split
  · rename_i e
    rw [mbxArea_block e] at h
    have : Outside areaWriteRegs k := by
      refine Outside.mono (m := blockRegs 5) ?_ (by decide +kernel)
      intro f hf; exact h f (by simp [hf])
    simp [this]
  · dsimp only
    rw [commandWrite_at _ _ _ h]
    have hf : ∀ t : State, wordAt (((fieldsAt a).filter (fun f => some f != blockEn (a / 0x10000))).foldl
        (fun t f => fieldWrite t (a / 0x10000) ((blockEn (a / 0x10000)).any s.flag) f (fromWord f w)) t).regs k = wordAt t.regs k := by
      intro t
      refine foldl_word_mem _ _ (fun f hf t => ?_) _
      have hm := (List.mem_filter.mp hf).1
      have ha := mem_fieldsAt hm
      exact fieldWrite_word _ _ _ _ _ (by rw [ha]; exact hm) (by rw [ha]; exact h)
    split
    · rename_i f he
      split
      · rename_i ha
        rw [enWrite_word _ _ _ _ he (by rw [ha]; exact h)]
        simpa [he] using hf s
      · simpa [he] using hf s
    · rename_i he
      simpa [he] using hf s

theorem bitWrite_word {k : Nat} (s : State) (a j : Nat) (b : Bool)
    (h : Outside (SYS.WIGN.BLOCK :: fieldsAt a ++ blockRegs (a / 0x10000)) k) :
    wordAt (bitWrite s a j b).regs k = wordAt s.regs k := by
  unfold bitWrite
  split
  · rfl
  split
  · rename_i e
    rw [mbxArea_block e] at h
    have : Outside areaWriteRegs k := by
      refine Outside.mono (m := blockRegs 5) ?_ (by decide +kernel)
      intro f hf; exact h f (by simp [hf])
    simp [this]
  · dsimp only
    split
    · rfl
    · rename_i f hf
      have hm := List.mem_of_find?_eq_some hf
      have ha := mem_fieldsAt hm
      split
      · exact commandWrite_at _ _ _ h
      split
      · rename_i he
        exact enWrite_word _ _ _ _ he (by rw [ha]; exact h)
      split
      · exact fieldWrite_word _ _ _ _ _ (by rw [ha]; exact hm) (by rw [ha]; exact h)
      · exact fieldWrite_word _ _ _ _ _ (by rw [ha]; exact hm) (by rw [ha]; exact h)

theorem busWriteQ_word {k : Nat} {s t : State} {x : Nat} {w : Word} (e : busWrite? s x w = some t) (h : Outside (writeRegs x) k) :
    wordAt t.regs k = wordAt s.regs k := by
  unfold busWrite? at e
  split at e
  · cases e
  · injection e with e; subst e
    split
    · rename_i a j e
      have : underlying x = a := by simp [underlying, e]
      exact bitWrite_word s a j _ (by simpa [writeRegs, this] using h)
    · rename_i e
      have : underlying x = x := by unfold underlying; split <;> simp_all
      exact wordWrite_word s x _ (by simpa [writeRegs, this] using h)

theorem busWrite_word {k : Nat} (s : State) (x : Nat) (w : Word) (h : Outside (writeRegs x) k) :
    wordAt (busWrite s x w).regs k = wordAt s.regs k := by
  unfold busWrite
  cases e : busWrite? s x w with
  | none => rfl
  | some t => exact busWriteQ_word e h

theorem readBurst_word {k : Nat} (s : State) (x n : Nat) (h : ∀ i < n, Outside (readRegs (x + 4 * i)) k) :
    wordAt (readBurst s x n).1.regs k = wordAt s.regs k := by
  induction n generalizing s x with
  | zero => rfl
  | succ n ih =>
    unfold readBurst
    split
    · rename_i t w e
      dsimp only
      rw [ih]
      · have := busRead_word (k := k) s x (by simpa using h 0 (by omega))
        rw [e] at this; exact this
      · intro i hi
        have := h (i + 1) (by omega)
        have e2 : x + 4 * (i + 1) = x + 4 + 4 * i := by omega
        rwa [e2] at this
    · rfl

theorem writeBurst_word {k : Nat} (s : State) (x : Nat) (l : List Word) (h : ∀ i < l.length, Outside (writeRegs (x + 4 * i)) k) :
    wordAt (writeBurst s x l).1.regs k = wordAt s.regs k := by
  induction l generalizing s x with
  | nil => rfl
  | cons w l ih =>
    unfold writeBurst
    split
    · rename_i t e
      dsimp only
      rw [ih]
      · exact busWriteQ_word e (by simpa using h 0 (by simp))
      · intro i hi
        have := h (i + 1) (by simp; omega)
        have e2 : x + 4 * (i + 1) = x + 4 + 4 * i := by omega
        rwa [e2] at this
    · rfl

theorem burst_out {k : Nat} {g : Nat → List Field} {x n : Nat} (h : Outside (burstRegs g x n) k) :
    ∀ i < n, Outside (g (x + 4 * i)) k := by
  intro i hi f hf
  exact h f (by simp only [burstRegs, List.mem_flatMap, List.mem_range]; exact ⟨i, hi, hf⟩)

end Sys2Proof.Machine
end

