-- ==== Sys2Proof/Laws/State.lean ====
section
/-! SUPPORT. Laws/State.lean: what each named update of the state leaves alone, one lemma per field. -/

namespace Sys2Proof.Machine

set_option Elab.async false

/-! ### State.setReg -/

@[simp] theorem State.setReg_pending (s : State) (f : Field) (v : Nat) : (s.setReg f v).pending = s.pending := rfl
@[simp] theorem State.setReg_act (s : State) (f : Field) (v : Nat) : (s.setReg f v).act = s.act := rfl
@[simp] theorem State.setReg_lt (s : State) (f : Field) (v : Nat) : (s.setReg f v).lt = s.lt := rfl
@[simp] theorem State.setReg_synced (s : State) (f : Field) (v : Nat) : (s.setReg f v).synced = s.synced := rfl
@[simp] theorem State.setReg_free (s : State) (f : Field) (v : Nat) : (s.setReg f v).free = s.free := rfl
@[simp] theorem State.setReg_dram (s : State) (f : Field) (v : Nat) : (s.setReg f v).dram = s.dram := rfl
@[simp] theorem State.setReg_scan (s : State) (f : Field) (v : Nat) : (s.setReg f v).scan = s.scan := rfl
@[simp] theorem State.setReg_pix (s : State) (f : Field) (v : Nat) : (s.setReg f v).pix = s.pix := rfl
@[simp] theorem State.setReg_gal (s : State) (f : Field) (v : Nat) : (s.setReg f v).gal = s.gal := rfl
@[simp] theorem State.setReg_eng (s : State) (f : Field) (v : Nat) : (s.setReg f v).eng = s.eng := rfl
@[simp] theorem State.setReg_stats (s : State) (f : Field) (v : Nat) : (s.setReg f v).stats = s.stats := rfl
@[simp] theorem State.setReg_shd (s : State) (f : Field) (v : Nat) : (s.setReg f v).shd = s.shd := rfl
@[simp] theorem State.setReg_guard (s : State) (f : Field) (v : Nat) : (s.setReg f v).guard = s.guard := rfl
@[simp] theorem State.setReg_diag (s : State) (f : Field) (v : Nat) : (s.setReg f v).diag = s.diag := rfl
@[simp] theorem State.setReg_cal (s : State) (f : Field) (v : Nat) : (s.setReg f v).cal = s.cal := rfl
@[simp] theorem State.setReg_net (s : State) (f : Field) (v : Nat) : (s.setReg f v).net = s.net := rfl
@[simp] theorem State.setReg_mbx (s : State) (f : Field) (v : Nat) : (s.setReg f v).mbx = s.mbx := rfl
@[simp] theorem State.setReg_io (s : State) (f : Field) (v : Nat) : (s.setReg f v).io = s.io := rfl
@[simp] theorem State.setReg_pins (s : State) (f : Field) (v : Nat) : (s.setReg f v).pins = s.pins := rfl
@[simp] theorem State.setReg_aux (s : State) (f : Field) (v : Nat) : (s.setReg f v).aux = s.aux := rfl
@[simp] theorem State.setReg_clk (s : State) (f : Field) (v : Nat) : (s.setReg f v).clk = s.clk := rfl
@[simp] theorem State.setReg_pwr (s : State) (f : Field) (v : Nat) : (s.setReg f v).pwr = s.pwr := rfl
@[simp] theorem State.setReg_boot (s : State) (f : Field) (v : Nat) : (s.setReg f v).boot = s.boot := rfl
@[simp] theorem State.setReg_thm (s : State) (f : Field) (v : Nat) : (s.setReg f v).thm = s.thm := rfl
@[simp] theorem State.setReg_ddr (s : State) (f : Field) (v : Nat) : (s.setReg f v).ddr = s.ddr := rfl
@[simp] theorem State.setReg_mram (s : State) (f : Field) (v : Nat) : (s.setReg f v).mram = s.mram := rfl
@[simp] theorem State.setReg_flash (s : State) (f : Field) (v : Nat) : (s.setReg f v).flash = s.flash := rfl
@[simp] theorem State.setReg_flt (s : State) (f : Field) (v : Nat) : (s.setReg f v).flt = s.flt := rfl
@[simp] theorem State.setReg_evt (s : State) (f : Field) (v : Nat) : (s.setReg f v).evt = s.evt := rfl

/-! ### State.setFlag -/

@[simp] theorem State.setFlag_pending (s : State) (f : Field) (b : Bool) : (s.setFlag f b).pending = s.pending := rfl
@[simp] theorem State.setFlag_act (s : State) (f : Field) (b : Bool) : (s.setFlag f b).act = s.act := rfl
@[simp] theorem State.setFlag_lt (s : State) (f : Field) (b : Bool) : (s.setFlag f b).lt = s.lt := rfl
@[simp] theorem State.setFlag_synced (s : State) (f : Field) (b : Bool) : (s.setFlag f b).synced = s.synced := rfl
@[simp] theorem State.setFlag_free (s : State) (f : Field) (b : Bool) : (s.setFlag f b).free = s.free := rfl
@[simp] theorem State.setFlag_dram (s : State) (f : Field) (b : Bool) : (s.setFlag f b).dram = s.dram := rfl
@[simp] theorem State.setFlag_scan (s : State) (f : Field) (b : Bool) : (s.setFlag f b).scan = s.scan := rfl
@[simp] theorem State.setFlag_pix (s : State) (f : Field) (b : Bool) : (s.setFlag f b).pix = s.pix := rfl
@[simp] theorem State.setFlag_gal (s : State) (f : Field) (b : Bool) : (s.setFlag f b).gal = s.gal := rfl
@[simp] theorem State.setFlag_eng (s : State) (f : Field) (b : Bool) : (s.setFlag f b).eng = s.eng := rfl
@[simp] theorem State.setFlag_stats (s : State) (f : Field) (b : Bool) : (s.setFlag f b).stats = s.stats := rfl
@[simp] theorem State.setFlag_shd (s : State) (f : Field) (b : Bool) : (s.setFlag f b).shd = s.shd := rfl
@[simp] theorem State.setFlag_guard (s : State) (f : Field) (b : Bool) : (s.setFlag f b).guard = s.guard := rfl
@[simp] theorem State.setFlag_diag (s : State) (f : Field) (b : Bool) : (s.setFlag f b).diag = s.diag := rfl
@[simp] theorem State.setFlag_cal (s : State) (f : Field) (b : Bool) : (s.setFlag f b).cal = s.cal := rfl
@[simp] theorem State.setFlag_net (s : State) (f : Field) (b : Bool) : (s.setFlag f b).net = s.net := rfl
@[simp] theorem State.setFlag_mbx (s : State) (f : Field) (b : Bool) : (s.setFlag f b).mbx = s.mbx := rfl
@[simp] theorem State.setFlag_io (s : State) (f : Field) (b : Bool) : (s.setFlag f b).io = s.io := rfl
@[simp] theorem State.setFlag_pins (s : State) (f : Field) (b : Bool) : (s.setFlag f b).pins = s.pins := rfl
@[simp] theorem State.setFlag_aux (s : State) (f : Field) (b : Bool) : (s.setFlag f b).aux = s.aux := rfl
@[simp] theorem State.setFlag_clk (s : State) (f : Field) (b : Bool) : (s.setFlag f b).clk = s.clk := rfl
@[simp] theorem State.setFlag_pwr (s : State) (f : Field) (b : Bool) : (s.setFlag f b).pwr = s.pwr := rfl
@[simp] theorem State.setFlag_boot (s : State) (f : Field) (b : Bool) : (s.setFlag f b).boot = s.boot := rfl
@[simp] theorem State.setFlag_thm (s : State) (f : Field) (b : Bool) : (s.setFlag f b).thm = s.thm := rfl
@[simp] theorem State.setFlag_ddr (s : State) (f : Field) (b : Bool) : (s.setFlag f b).ddr = s.ddr := rfl
@[simp] theorem State.setFlag_mram (s : State) (f : Field) (b : Bool) : (s.setFlag f b).mram = s.mram := rfl
@[simp] theorem State.setFlag_flash (s : State) (f : Field) (b : Bool) : (s.setFlag f b).flash = s.flash := rfl
@[simp] theorem State.setFlag_flt (s : State) (f : Field) (b : Bool) : (s.setFlag f b).flt = s.flt := rfl
@[simp] theorem State.setFlag_evt (s : State) (f : Field) (b : Bool) : (s.setFlag f b).evt = s.evt := rfl

/-! ### State.bumpBy -/

@[simp] theorem State.bumpBy_pending (s : State) (f : Field) (n : Nat) : (s.bumpBy f n).pending = s.pending := rfl
@[simp] theorem State.bumpBy_act (s : State) (f : Field) (n : Nat) : (s.bumpBy f n).act = s.act := rfl
@[simp] theorem State.bumpBy_lt (s : State) (f : Field) (n : Nat) : (s.bumpBy f n).lt = s.lt := rfl
@[simp] theorem State.bumpBy_synced (s : State) (f : Field) (n : Nat) : (s.bumpBy f n).synced = s.synced := rfl
@[simp] theorem State.bumpBy_free (s : State) (f : Field) (n : Nat) : (s.bumpBy f n).free = s.free := rfl
@[simp] theorem State.bumpBy_dram (s : State) (f : Field) (n : Nat) : (s.bumpBy f n).dram = s.dram := rfl
@[simp] theorem State.bumpBy_scan (s : State) (f : Field) (n : Nat) : (s.bumpBy f n).scan = s.scan := rfl
@[simp] theorem State.bumpBy_pix (s : State) (f : Field) (n : Nat) : (s.bumpBy f n).pix = s.pix := rfl
@[simp] theorem State.bumpBy_gal (s : State) (f : Field) (n : Nat) : (s.bumpBy f n).gal = s.gal := rfl
@[simp] theorem State.bumpBy_eng (s : State) (f : Field) (n : Nat) : (s.bumpBy f n).eng = s.eng := rfl
@[simp] theorem State.bumpBy_stats (s : State) (f : Field) (n : Nat) : (s.bumpBy f n).stats = s.stats := rfl
@[simp] theorem State.bumpBy_shd (s : State) (f : Field) (n : Nat) : (s.bumpBy f n).shd = s.shd := rfl
@[simp] theorem State.bumpBy_guard (s : State) (f : Field) (n : Nat) : (s.bumpBy f n).guard = s.guard := rfl
@[simp] theorem State.bumpBy_diag (s : State) (f : Field) (n : Nat) : (s.bumpBy f n).diag = s.diag := rfl
@[simp] theorem State.bumpBy_cal (s : State) (f : Field) (n : Nat) : (s.bumpBy f n).cal = s.cal := rfl
@[simp] theorem State.bumpBy_net (s : State) (f : Field) (n : Nat) : (s.bumpBy f n).net = s.net := rfl
@[simp] theorem State.bumpBy_mbx (s : State) (f : Field) (n : Nat) : (s.bumpBy f n).mbx = s.mbx := rfl
@[simp] theorem State.bumpBy_io (s : State) (f : Field) (n : Nat) : (s.bumpBy f n).io = s.io := rfl
@[simp] theorem State.bumpBy_pins (s : State) (f : Field) (n : Nat) : (s.bumpBy f n).pins = s.pins := rfl
@[simp] theorem State.bumpBy_aux (s : State) (f : Field) (n : Nat) : (s.bumpBy f n).aux = s.aux := rfl
@[simp] theorem State.bumpBy_clk (s : State) (f : Field) (n : Nat) : (s.bumpBy f n).clk = s.clk := rfl
@[simp] theorem State.bumpBy_pwr (s : State) (f : Field) (n : Nat) : (s.bumpBy f n).pwr = s.pwr := rfl
@[simp] theorem State.bumpBy_boot (s : State) (f : Field) (n : Nat) : (s.bumpBy f n).boot = s.boot := rfl
@[simp] theorem State.bumpBy_thm (s : State) (f : Field) (n : Nat) : (s.bumpBy f n).thm = s.thm := rfl
@[simp] theorem State.bumpBy_ddr (s : State) (f : Field) (n : Nat) : (s.bumpBy f n).ddr = s.ddr := rfl
@[simp] theorem State.bumpBy_mram (s : State) (f : Field) (n : Nat) : (s.bumpBy f n).mram = s.mram := rfl
@[simp] theorem State.bumpBy_flash (s : State) (f : Field) (n : Nat) : (s.bumpBy f n).flash = s.flash := rfl
@[simp] theorem State.bumpBy_flt (s : State) (f : Field) (n : Nat) : (s.bumpBy f n).flt = s.flt := rfl
@[simp] theorem State.bumpBy_evt (s : State) (f : Field) (n : Nat) : (s.bumpBy f n).evt = s.evt := rfl

/-! ### State.bump -/

@[simp] theorem State.bump_pending (s : State) (f : Field) : (s.bump f).pending = s.pending := rfl
@[simp] theorem State.bump_act (s : State) (f : Field) : (s.bump f).act = s.act := rfl
@[simp] theorem State.bump_lt (s : State) (f : Field) : (s.bump f).lt = s.lt := rfl
@[simp] theorem State.bump_synced (s : State) (f : Field) : (s.bump f).synced = s.synced := rfl
@[simp] theorem State.bump_free (s : State) (f : Field) : (s.bump f).free = s.free := rfl
@[simp] theorem State.bump_dram (s : State) (f : Field) : (s.bump f).dram = s.dram := rfl
@[simp] theorem State.bump_scan (s : State) (f : Field) : (s.bump f).scan = s.scan := rfl
@[simp] theorem State.bump_pix (s : State) (f : Field) : (s.bump f).pix = s.pix := rfl
@[simp] theorem State.bump_gal (s : State) (f : Field) : (s.bump f).gal = s.gal := rfl
@[simp] theorem State.bump_eng (s : State) (f : Field) : (s.bump f).eng = s.eng := rfl
@[simp] theorem State.bump_stats (s : State) (f : Field) : (s.bump f).stats = s.stats := rfl
@[simp] theorem State.bump_shd (s : State) (f : Field) : (s.bump f).shd = s.shd := rfl
@[simp] theorem State.bump_guard (s : State) (f : Field) : (s.bump f).guard = s.guard := rfl
@[simp] theorem State.bump_diag (s : State) (f : Field) : (s.bump f).diag = s.diag := rfl
@[simp] theorem State.bump_cal (s : State) (f : Field) : (s.bump f).cal = s.cal := rfl
@[simp] theorem State.bump_net (s : State) (f : Field) : (s.bump f).net = s.net := rfl
@[simp] theorem State.bump_mbx (s : State) (f : Field) : (s.bump f).mbx = s.mbx := rfl
@[simp] theorem State.bump_io (s : State) (f : Field) : (s.bump f).io = s.io := rfl
@[simp] theorem State.bump_pins (s : State) (f : Field) : (s.bump f).pins = s.pins := rfl
@[simp] theorem State.bump_aux (s : State) (f : Field) : (s.bump f).aux = s.aux := rfl
@[simp] theorem State.bump_clk (s : State) (f : Field) : (s.bump f).clk = s.clk := rfl
@[simp] theorem State.bump_pwr (s : State) (f : Field) : (s.bump f).pwr = s.pwr := rfl
@[simp] theorem State.bump_boot (s : State) (f : Field) : (s.bump f).boot = s.boot := rfl
@[simp] theorem State.bump_thm (s : State) (f : Field) : (s.bump f).thm = s.thm := rfl
@[simp] theorem State.bump_ddr (s : State) (f : Field) : (s.bump f).ddr = s.ddr := rfl
@[simp] theorem State.bump_mram (s : State) (f : Field) : (s.bump f).mram = s.mram := rfl
@[simp] theorem State.bump_flash (s : State) (f : Field) : (s.bump f).flash = s.flash := rfl
@[simp] theorem State.bump_flt (s : State) (f : Field) : (s.bump f).flt = s.flt := rfl
@[simp] theorem State.bump_evt (s : State) (f : Field) : (s.bump f).evt = s.evt := rfl

/-! ### State.wrapBy -/

@[simp] theorem State.wrapBy_pending (s : State) (f : Field) (n : Nat) : (s.wrapBy f n).pending = s.pending := rfl
@[simp] theorem State.wrapBy_act (s : State) (f : Field) (n : Nat) : (s.wrapBy f n).act = s.act := rfl
@[simp] theorem State.wrapBy_lt (s : State) (f : Field) (n : Nat) : (s.wrapBy f n).lt = s.lt := rfl
@[simp] theorem State.wrapBy_synced (s : State) (f : Field) (n : Nat) : (s.wrapBy f n).synced = s.synced := rfl
@[simp] theorem State.wrapBy_free (s : State) (f : Field) (n : Nat) : (s.wrapBy f n).free = s.free := rfl
@[simp] theorem State.wrapBy_dram (s : State) (f : Field) (n : Nat) : (s.wrapBy f n).dram = s.dram := rfl
@[simp] theorem State.wrapBy_scan (s : State) (f : Field) (n : Nat) : (s.wrapBy f n).scan = s.scan := rfl
@[simp] theorem State.wrapBy_pix (s : State) (f : Field) (n : Nat) : (s.wrapBy f n).pix = s.pix := rfl
@[simp] theorem State.wrapBy_gal (s : State) (f : Field) (n : Nat) : (s.wrapBy f n).gal = s.gal := rfl
@[simp] theorem State.wrapBy_eng (s : State) (f : Field) (n : Nat) : (s.wrapBy f n).eng = s.eng := rfl
@[simp] theorem State.wrapBy_stats (s : State) (f : Field) (n : Nat) : (s.wrapBy f n).stats = s.stats := rfl
@[simp] theorem State.wrapBy_shd (s : State) (f : Field) (n : Nat) : (s.wrapBy f n).shd = s.shd := rfl
@[simp] theorem State.wrapBy_guard (s : State) (f : Field) (n : Nat) : (s.wrapBy f n).guard = s.guard := rfl
@[simp] theorem State.wrapBy_diag (s : State) (f : Field) (n : Nat) : (s.wrapBy f n).diag = s.diag := rfl
@[simp] theorem State.wrapBy_cal (s : State) (f : Field) (n : Nat) : (s.wrapBy f n).cal = s.cal := rfl
@[simp] theorem State.wrapBy_net (s : State) (f : Field) (n : Nat) : (s.wrapBy f n).net = s.net := rfl
@[simp] theorem State.wrapBy_mbx (s : State) (f : Field) (n : Nat) : (s.wrapBy f n).mbx = s.mbx := rfl
@[simp] theorem State.wrapBy_io (s : State) (f : Field) (n : Nat) : (s.wrapBy f n).io = s.io := rfl
@[simp] theorem State.wrapBy_pins (s : State) (f : Field) (n : Nat) : (s.wrapBy f n).pins = s.pins := rfl
@[simp] theorem State.wrapBy_aux (s : State) (f : Field) (n : Nat) : (s.wrapBy f n).aux = s.aux := rfl
@[simp] theorem State.wrapBy_clk (s : State) (f : Field) (n : Nat) : (s.wrapBy f n).clk = s.clk := rfl
@[simp] theorem State.wrapBy_pwr (s : State) (f : Field) (n : Nat) : (s.wrapBy f n).pwr = s.pwr := rfl
@[simp] theorem State.wrapBy_boot (s : State) (f : Field) (n : Nat) : (s.wrapBy f n).boot = s.boot := rfl
@[simp] theorem State.wrapBy_thm (s : State) (f : Field) (n : Nat) : (s.wrapBy f n).thm = s.thm := rfl
@[simp] theorem State.wrapBy_ddr (s : State) (f : Field) (n : Nat) : (s.wrapBy f n).ddr = s.ddr := rfl
@[simp] theorem State.wrapBy_mram (s : State) (f : Field) (n : Nat) : (s.wrapBy f n).mram = s.mram := rfl
@[simp] theorem State.wrapBy_flash (s : State) (f : Field) (n : Nat) : (s.wrapBy f n).flash = s.flash := rfl
@[simp] theorem State.wrapBy_flt (s : State) (f : Field) (n : Nat) : (s.wrapBy f n).flt = s.flt := rfl
@[simp] theorem State.wrapBy_evt (s : State) (f : Field) (n : Nat) : (s.wrapBy f n).evt = s.evt := rfl

/-! ### State.orReg -/

@[simp] theorem State.orReg_pending (s : State) (f : Field) (v : Nat) : (s.orReg f v).pending = s.pending := rfl
@[simp] theorem State.orReg_act (s : State) (f : Field) (v : Nat) : (s.orReg f v).act = s.act := rfl
@[simp] theorem State.orReg_lt (s : State) (f : Field) (v : Nat) : (s.orReg f v).lt = s.lt := rfl
@[simp] theorem State.orReg_synced (s : State) (f : Field) (v : Nat) : (s.orReg f v).synced = s.synced := rfl
@[simp] theorem State.orReg_free (s : State) (f : Field) (v : Nat) : (s.orReg f v).free = s.free := rfl
@[simp] theorem State.orReg_dram (s : State) (f : Field) (v : Nat) : (s.orReg f v).dram = s.dram := rfl
@[simp] theorem State.orReg_scan (s : State) (f : Field) (v : Nat) : (s.orReg f v).scan = s.scan := rfl
@[simp] theorem State.orReg_pix (s : State) (f : Field) (v : Nat) : (s.orReg f v).pix = s.pix := rfl
@[simp] theorem State.orReg_gal (s : State) (f : Field) (v : Nat) : (s.orReg f v).gal = s.gal := rfl
@[simp] theorem State.orReg_eng (s : State) (f : Field) (v : Nat) : (s.orReg f v).eng = s.eng := rfl
@[simp] theorem State.orReg_stats (s : State) (f : Field) (v : Nat) : (s.orReg f v).stats = s.stats := rfl
@[simp] theorem State.orReg_shd (s : State) (f : Field) (v : Nat) : (s.orReg f v).shd = s.shd := rfl
@[simp] theorem State.orReg_guard (s : State) (f : Field) (v : Nat) : (s.orReg f v).guard = s.guard := rfl
@[simp] theorem State.orReg_diag (s : State) (f : Field) (v : Nat) : (s.orReg f v).diag = s.diag := rfl
@[simp] theorem State.orReg_cal (s : State) (f : Field) (v : Nat) : (s.orReg f v).cal = s.cal := rfl
@[simp] theorem State.orReg_net (s : State) (f : Field) (v : Nat) : (s.orReg f v).net = s.net := rfl
@[simp] theorem State.orReg_mbx (s : State) (f : Field) (v : Nat) : (s.orReg f v).mbx = s.mbx := rfl
@[simp] theorem State.orReg_io (s : State) (f : Field) (v : Nat) : (s.orReg f v).io = s.io := rfl
@[simp] theorem State.orReg_pins (s : State) (f : Field) (v : Nat) : (s.orReg f v).pins = s.pins := rfl
@[simp] theorem State.orReg_aux (s : State) (f : Field) (v : Nat) : (s.orReg f v).aux = s.aux := rfl
@[simp] theorem State.orReg_clk (s : State) (f : Field) (v : Nat) : (s.orReg f v).clk = s.clk := rfl
@[simp] theorem State.orReg_pwr (s : State) (f : Field) (v : Nat) : (s.orReg f v).pwr = s.pwr := rfl
@[simp] theorem State.orReg_boot (s : State) (f : Field) (v : Nat) : (s.orReg f v).boot = s.boot := rfl
@[simp] theorem State.orReg_thm (s : State) (f : Field) (v : Nat) : (s.orReg f v).thm = s.thm := rfl
@[simp] theorem State.orReg_ddr (s : State) (f : Field) (v : Nat) : (s.orReg f v).ddr = s.ddr := rfl
@[simp] theorem State.orReg_mram (s : State) (f : Field) (v : Nat) : (s.orReg f v).mram = s.mram := rfl
@[simp] theorem State.orReg_flash (s : State) (f : Field) (v : Nat) : (s.orReg f v).flash = s.flash := rfl
@[simp] theorem State.orReg_flt (s : State) (f : Field) (v : Nat) : (s.orReg f v).flt = s.flt := rfl
@[simp] theorem State.orReg_evt (s : State) (f : Field) (v : Nat) : (s.orReg f v).evt = s.evt := rfl

/-! ### State.setAct -/

@[simp] theorem State.setAct_pending (s : State) (f : Field) (v : Nat) : (s.setAct f v).pending = s.pending := rfl
@[simp] theorem State.setAct_regs (s : State) (f : Field) (v : Nat) : (s.setAct f v).regs = s.regs := rfl
@[simp] theorem State.setAct_lt (s : State) (f : Field) (v : Nat) : (s.setAct f v).lt = s.lt := rfl
@[simp] theorem State.setAct_synced (s : State) (f : Field) (v : Nat) : (s.setAct f v).synced = s.synced := rfl
@[simp] theorem State.setAct_free (s : State) (f : Field) (v : Nat) : (s.setAct f v).free = s.free := rfl
@[simp] theorem State.setAct_dram (s : State) (f : Field) (v : Nat) : (s.setAct f v).dram = s.dram := rfl
@[simp] theorem State.setAct_scan (s : State) (f : Field) (v : Nat) : (s.setAct f v).scan = s.scan := rfl
@[simp] theorem State.setAct_pix (s : State) (f : Field) (v : Nat) : (s.setAct f v).pix = s.pix := rfl
@[simp] theorem State.setAct_gal (s : State) (f : Field) (v : Nat) : (s.setAct f v).gal = s.gal := rfl
@[simp] theorem State.setAct_eng (s : State) (f : Field) (v : Nat) : (s.setAct f v).eng = s.eng := rfl
@[simp] theorem State.setAct_stats (s : State) (f : Field) (v : Nat) : (s.setAct f v).stats = s.stats := rfl
@[simp] theorem State.setAct_shd (s : State) (f : Field) (v : Nat) : (s.setAct f v).shd = s.shd := rfl
@[simp] theorem State.setAct_guard (s : State) (f : Field) (v : Nat) : (s.setAct f v).guard = s.guard := rfl
@[simp] theorem State.setAct_diag (s : State) (f : Field) (v : Nat) : (s.setAct f v).diag = s.diag := rfl
@[simp] theorem State.setAct_cal (s : State) (f : Field) (v : Nat) : (s.setAct f v).cal = s.cal := rfl
@[simp] theorem State.setAct_net (s : State) (f : Field) (v : Nat) : (s.setAct f v).net = s.net := rfl
@[simp] theorem State.setAct_mbx (s : State) (f : Field) (v : Nat) : (s.setAct f v).mbx = s.mbx := rfl
@[simp] theorem State.setAct_io (s : State) (f : Field) (v : Nat) : (s.setAct f v).io = s.io := rfl
@[simp] theorem State.setAct_pins (s : State) (f : Field) (v : Nat) : (s.setAct f v).pins = s.pins := rfl
@[simp] theorem State.setAct_aux (s : State) (f : Field) (v : Nat) : (s.setAct f v).aux = s.aux := rfl
@[simp] theorem State.setAct_clk (s : State) (f : Field) (v : Nat) : (s.setAct f v).clk = s.clk := rfl
@[simp] theorem State.setAct_pwr (s : State) (f : Field) (v : Nat) : (s.setAct f v).pwr = s.pwr := rfl
@[simp] theorem State.setAct_boot (s : State) (f : Field) (v : Nat) : (s.setAct f v).boot = s.boot := rfl
@[simp] theorem State.setAct_thm (s : State) (f : Field) (v : Nat) : (s.setAct f v).thm = s.thm := rfl
@[simp] theorem State.setAct_ddr (s : State) (f : Field) (v : Nat) : (s.setAct f v).ddr = s.ddr := rfl
@[simp] theorem State.setAct_mram (s : State) (f : Field) (v : Nat) : (s.setAct f v).mram = s.mram := rfl
@[simp] theorem State.setAct_flash (s : State) (f : Field) (v : Nat) : (s.setAct f v).flash = s.flash := rfl
@[simp] theorem State.setAct_flt (s : State) (f : Field) (v : Nat) : (s.setAct f v).flt = s.flt := rfl
@[simp] theorem State.setAct_evt (s : State) (f : Field) (v : Nat) : (s.setAct f v).evt = s.evt := rfl

/-! ### State.tookFree -/

@[simp] theorem State.tookFree_pending (s : State) : (s.tookFree).pending = s.pending := rfl
@[simp] theorem State.tookFree_regs (s : State) : (s.tookFree).regs = s.regs := rfl
@[simp] theorem State.tookFree_act (s : State) : (s.tookFree).act = s.act := rfl
@[simp] theorem State.tookFree_lt (s : State) : (s.tookFree).lt = s.lt := rfl
@[simp] theorem State.tookFree_synced (s : State) : (s.tookFree).synced = s.synced := rfl
@[simp] theorem State.tookFree_dram (s : State) : (s.tookFree).dram = s.dram := rfl
@[simp] theorem State.tookFree_scan (s : State) : (s.tookFree).scan = s.scan := rfl
@[simp] theorem State.tookFree_pix (s : State) : (s.tookFree).pix = s.pix := rfl
@[simp] theorem State.tookFree_gal (s : State) : (s.tookFree).gal = s.gal := rfl
@[simp] theorem State.tookFree_eng (s : State) : (s.tookFree).eng = s.eng := rfl
@[simp] theorem State.tookFree_stats (s : State) : (s.tookFree).stats = s.stats := rfl
@[simp] theorem State.tookFree_shd (s : State) : (s.tookFree).shd = s.shd := rfl
@[simp] theorem State.tookFree_guard (s : State) : (s.tookFree).guard = s.guard := rfl
@[simp] theorem State.tookFree_diag (s : State) : (s.tookFree).diag = s.diag := rfl
@[simp] theorem State.tookFree_cal (s : State) : (s.tookFree).cal = s.cal := rfl
@[simp] theorem State.tookFree_net (s : State) : (s.tookFree).net = s.net := rfl
@[simp] theorem State.tookFree_mbx (s : State) : (s.tookFree).mbx = s.mbx := rfl
@[simp] theorem State.tookFree_io (s : State) : (s.tookFree).io = s.io := rfl
@[simp] theorem State.tookFree_pins (s : State) : (s.tookFree).pins = s.pins := rfl
@[simp] theorem State.tookFree_aux (s : State) : (s.tookFree).aux = s.aux := rfl
@[simp] theorem State.tookFree_clk (s : State) : (s.tookFree).clk = s.clk := rfl
@[simp] theorem State.tookFree_pwr (s : State) : (s.tookFree).pwr = s.pwr := rfl
@[simp] theorem State.tookFree_boot (s : State) : (s.tookFree).boot = s.boot := rfl
@[simp] theorem State.tookFree_thm (s : State) : (s.tookFree).thm = s.thm := rfl
@[simp] theorem State.tookFree_ddr (s : State) : (s.tookFree).ddr = s.ddr := rfl
@[simp] theorem State.tookFree_mram (s : State) : (s.tookFree).mram = s.mram := rfl
@[simp] theorem State.tookFree_flash (s : State) : (s.tookFree).flash = s.flash := rfl
@[simp] theorem State.tookFree_flt (s : State) : (s.tookFree).flt = s.flt := rfl
@[simp] theorem State.tookFree_evt (s : State) : (s.tookFree).evt = s.evt := rfl

/-! ### State.setGroup -/

@[simp] theorem State.setGroup_pending (s : State) (g : Nat) (v : Group) : (s.setGroup g v).pending = s.pending := rfl
@[simp] theorem State.setGroup_regs (s : State) (g : Nat) (v : Group) : (s.setGroup g v).regs = s.regs := rfl
@[simp] theorem State.setGroup_act (s : State) (g : Nat) (v : Group) : (s.setGroup g v).act = s.act := rfl
@[simp] theorem State.setGroup_lt (s : State) (g : Nat) (v : Group) : (s.setGroup g v).lt = s.lt := rfl
@[simp] theorem State.setGroup_synced (s : State) (g : Nat) (v : Group) : (s.setGroup g v).synced = s.synced := rfl
@[simp] theorem State.setGroup_free (s : State) (g : Nat) (v : Group) : (s.setGroup g v).free = s.free := rfl
@[simp] theorem State.setGroup_dram (s : State) (g : Nat) (v : Group) : (s.setGroup g v).dram = s.dram := rfl
@[simp] theorem State.setGroup_pix (s : State) (g : Nat) (v : Group) : (s.setGroup g v).pix = s.pix := rfl
@[simp] theorem State.setGroup_gal (s : State) (g : Nat) (v : Group) : (s.setGroup g v).gal = s.gal := rfl
@[simp] theorem State.setGroup_eng (s : State) (g : Nat) (v : Group) : (s.setGroup g v).eng = s.eng := rfl
@[simp] theorem State.setGroup_stats (s : State) (g : Nat) (v : Group) : (s.setGroup g v).stats = s.stats := rfl
@[simp] theorem State.setGroup_shd (s : State) (g : Nat) (v : Group) : (s.setGroup g v).shd = s.shd := rfl
@[simp] theorem State.setGroup_guard (s : State) (g : Nat) (v : Group) : (s.setGroup g v).guard = s.guard := rfl
@[simp] theorem State.setGroup_diag (s : State) (g : Nat) (v : Group) : (s.setGroup g v).diag = s.diag := rfl
@[simp] theorem State.setGroup_cal (s : State) (g : Nat) (v : Group) : (s.setGroup g v).cal = s.cal := rfl
@[simp] theorem State.setGroup_net (s : State) (g : Nat) (v : Group) : (s.setGroup g v).net = s.net := rfl
@[simp] theorem State.setGroup_mbx (s : State) (g : Nat) (v : Group) : (s.setGroup g v).mbx = s.mbx := rfl
@[simp] theorem State.setGroup_io (s : State) (g : Nat) (v : Group) : (s.setGroup g v).io = s.io := rfl
@[simp] theorem State.setGroup_pins (s : State) (g : Nat) (v : Group) : (s.setGroup g v).pins = s.pins := rfl
@[simp] theorem State.setGroup_aux (s : State) (g : Nat) (v : Group) : (s.setGroup g v).aux = s.aux := rfl
@[simp] theorem State.setGroup_clk (s : State) (g : Nat) (v : Group) : (s.setGroup g v).clk = s.clk := rfl
@[simp] theorem State.setGroup_pwr (s : State) (g : Nat) (v : Group) : (s.setGroup g v).pwr = s.pwr := rfl
@[simp] theorem State.setGroup_boot (s : State) (g : Nat) (v : Group) : (s.setGroup g v).boot = s.boot := rfl
@[simp] theorem State.setGroup_thm (s : State) (g : Nat) (v : Group) : (s.setGroup g v).thm = s.thm := rfl
@[simp] theorem State.setGroup_ddr (s : State) (g : Nat) (v : Group) : (s.setGroup g v).ddr = s.ddr := rfl
@[simp] theorem State.setGroup_mram (s : State) (g : Nat) (v : Group) : (s.setGroup g v).mram = s.mram := rfl
@[simp] theorem State.setGroup_flash (s : State) (g : Nat) (v : Group) : (s.setGroup g v).flash = s.flash := rfl
@[simp] theorem State.setGroup_flt (s : State) (g : Nat) (v : Group) : (s.setGroup g v).flt = s.flt := rfl
@[simp] theorem State.setGroup_evt (s : State) (g : Nat) (v : Group) : (s.setGroup g v).evt = s.evt := rfl

/-! ### State.setMb -/

@[simp] theorem State.setMb_pending (s : State) (n : Nat) (f : Mb → Mb) : (s.setMb n f).pending = s.pending := rfl
@[simp] theorem State.setMb_regs (s : State) (n : Nat) (f : Mb → Mb) : (s.setMb n f).regs = s.regs := rfl
@[simp] theorem State.setMb_act (s : State) (n : Nat) (f : Mb → Mb) : (s.setMb n f).act = s.act := rfl
@[simp] theorem State.setMb_lt (s : State) (n : Nat) (f : Mb → Mb) : (s.setMb n f).lt = s.lt := rfl
@[simp] theorem State.setMb_synced (s : State) (n : Nat) (f : Mb → Mb) : (s.setMb n f).synced = s.synced := rfl
@[simp] theorem State.setMb_free (s : State) (n : Nat) (f : Mb → Mb) : (s.setMb n f).free = s.free := rfl
@[simp] theorem State.setMb_dram (s : State) (n : Nat) (f : Mb → Mb) : (s.setMb n f).dram = s.dram := rfl
@[simp] theorem State.setMb_scan (s : State) (n : Nat) (f : Mb → Mb) : (s.setMb n f).scan = s.scan := rfl
@[simp] theorem State.setMb_pix (s : State) (n : Nat) (f : Mb → Mb) : (s.setMb n f).pix = s.pix := rfl
@[simp] theorem State.setMb_gal (s : State) (n : Nat) (f : Mb → Mb) : (s.setMb n f).gal = s.gal := rfl
@[simp] theorem State.setMb_eng (s : State) (n : Nat) (f : Mb → Mb) : (s.setMb n f).eng = s.eng := rfl
@[simp] theorem State.setMb_stats (s : State) (n : Nat) (f : Mb → Mb) : (s.setMb n f).stats = s.stats := rfl
@[simp] theorem State.setMb_shd (s : State) (n : Nat) (f : Mb → Mb) : (s.setMb n f).shd = s.shd := rfl
@[simp] theorem State.setMb_guard (s : State) (n : Nat) (f : Mb → Mb) : (s.setMb n f).guard = s.guard := rfl
@[simp] theorem State.setMb_diag (s : State) (n : Nat) (f : Mb → Mb) : (s.setMb n f).diag = s.diag := rfl
@[simp] theorem State.setMb_cal (s : State) (n : Nat) (f : Mb → Mb) : (s.setMb n f).cal = s.cal := rfl
@[simp] theorem State.setMb_net (s : State) (n : Nat) (f : Mb → Mb) : (s.setMb n f).net = s.net := rfl
@[simp] theorem State.setMb_io (s : State) (n : Nat) (f : Mb → Mb) : (s.setMb n f).io = s.io := rfl
@[simp] theorem State.setMb_pins (s : State) (n : Nat) (f : Mb → Mb) : (s.setMb n f).pins = s.pins := rfl
@[simp] theorem State.setMb_aux (s : State) (n : Nat) (f : Mb → Mb) : (s.setMb n f).aux = s.aux := rfl
@[simp] theorem State.setMb_clk (s : State) (n : Nat) (f : Mb → Mb) : (s.setMb n f).clk = s.clk := rfl
@[simp] theorem State.setMb_pwr (s : State) (n : Nat) (f : Mb → Mb) : (s.setMb n f).pwr = s.pwr := rfl
@[simp] theorem State.setMb_boot (s : State) (n : Nat) (f : Mb → Mb) : (s.setMb n f).boot = s.boot := rfl
@[simp] theorem State.setMb_thm (s : State) (n : Nat) (f : Mb → Mb) : (s.setMb n f).thm = s.thm := rfl
@[simp] theorem State.setMb_ddr (s : State) (n : Nat) (f : Mb → Mb) : (s.setMb n f).ddr = s.ddr := rfl
@[simp] theorem State.setMb_mram (s : State) (n : Nat) (f : Mb → Mb) : (s.setMb n f).mram = s.mram := rfl
@[simp] theorem State.setMb_flash (s : State) (n : Nat) (f : Mb → Mb) : (s.setMb n f).flash = s.flash := rfl
@[simp] theorem State.setMb_flt (s : State) (n : Nat) (f : Mb → Mb) : (s.setMb n f).flt = s.flt := rfl
@[simp] theorem State.setMb_evt (s : State) (n : Nat) (f : Mb → Mb) : (s.setMb n f).evt = s.evt := rfl

/-! ### State.setSlot -/

@[simp] theorem State.setSlot_pending (s : State) (n : Nat) (v : CtxSlot) : (s.setSlot n v).pending = s.pending := rfl
@[simp] theorem State.setSlot_regs (s : State) (n : Nat) (v : CtxSlot) : (s.setSlot n v).regs = s.regs := rfl
@[simp] theorem State.setSlot_act (s : State) (n : Nat) (v : CtxSlot) : (s.setSlot n v).act = s.act := rfl
@[simp] theorem State.setSlot_lt (s : State) (n : Nat) (v : CtxSlot) : (s.setSlot n v).lt = s.lt := rfl
@[simp] theorem State.setSlot_synced (s : State) (n : Nat) (v : CtxSlot) : (s.setSlot n v).synced = s.synced := rfl
@[simp] theorem State.setSlot_free (s : State) (n : Nat) (v : CtxSlot) : (s.setSlot n v).free = s.free := rfl
@[simp] theorem State.setSlot_dram (s : State) (n : Nat) (v : CtxSlot) : (s.setSlot n v).dram = s.dram := rfl
@[simp] theorem State.setSlot_scan (s : State) (n : Nat) (v : CtxSlot) : (s.setSlot n v).scan = s.scan := rfl
@[simp] theorem State.setSlot_pix (s : State) (n : Nat) (v : CtxSlot) : (s.setSlot n v).pix = s.pix := rfl
@[simp] theorem State.setSlot_gal (s : State) (n : Nat) (v : CtxSlot) : (s.setSlot n v).gal = s.gal := rfl
@[simp] theorem State.setSlot_eng (s : State) (n : Nat) (v : CtxSlot) : (s.setSlot n v).eng = s.eng := rfl
@[simp] theorem State.setSlot_stats (s : State) (n : Nat) (v : CtxSlot) : (s.setSlot n v).stats = s.stats := rfl
@[simp] theorem State.setSlot_guard (s : State) (n : Nat) (v : CtxSlot) : (s.setSlot n v).guard = s.guard := rfl
@[simp] theorem State.setSlot_diag (s : State) (n : Nat) (v : CtxSlot) : (s.setSlot n v).diag = s.diag := rfl
@[simp] theorem State.setSlot_cal (s : State) (n : Nat) (v : CtxSlot) : (s.setSlot n v).cal = s.cal := rfl
@[simp] theorem State.setSlot_net (s : State) (n : Nat) (v : CtxSlot) : (s.setSlot n v).net = s.net := rfl
@[simp] theorem State.setSlot_mbx (s : State) (n : Nat) (v : CtxSlot) : (s.setSlot n v).mbx = s.mbx := rfl
@[simp] theorem State.setSlot_io (s : State) (n : Nat) (v : CtxSlot) : (s.setSlot n v).io = s.io := rfl
@[simp] theorem State.setSlot_pins (s : State) (n : Nat) (v : CtxSlot) : (s.setSlot n v).pins = s.pins := rfl
@[simp] theorem State.setSlot_aux (s : State) (n : Nat) (v : CtxSlot) : (s.setSlot n v).aux = s.aux := rfl
@[simp] theorem State.setSlot_clk (s : State) (n : Nat) (v : CtxSlot) : (s.setSlot n v).clk = s.clk := rfl
@[simp] theorem State.setSlot_pwr (s : State) (n : Nat) (v : CtxSlot) : (s.setSlot n v).pwr = s.pwr := rfl
@[simp] theorem State.setSlot_boot (s : State) (n : Nat) (v : CtxSlot) : (s.setSlot n v).boot = s.boot := rfl
@[simp] theorem State.setSlot_thm (s : State) (n : Nat) (v : CtxSlot) : (s.setSlot n v).thm = s.thm := rfl
@[simp] theorem State.setSlot_ddr (s : State) (n : Nat) (v : CtxSlot) : (s.setSlot n v).ddr = s.ddr := rfl
@[simp] theorem State.setSlot_mram (s : State) (n : Nat) (v : CtxSlot) : (s.setSlot n v).mram = s.mram := rfl
@[simp] theorem State.setSlot_flash (s : State) (n : Nat) (v : CtxSlot) : (s.setSlot n v).flash = s.flash := rfl
@[simp] theorem State.setSlot_flt (s : State) (n : Nat) (v : CtxSlot) : (s.setSlot n v).flt = s.flt := rfl
@[simp] theorem State.setSlot_evt (s : State) (n : Nat) (v : CtxSlot) : (s.setSlot n v).evt = s.evt := rfl

/-! ### State.setPort -/

@[simp] theorem State.setPort_pending (s : State) (p : Nat) (f : PortSt → PortSt) : (s.setPort p f).pending = s.pending := rfl
@[simp] theorem State.setPort_regs (s : State) (p : Nat) (f : PortSt → PortSt) : (s.setPort p f).regs = s.regs := rfl
@[simp] theorem State.setPort_act (s : State) (p : Nat) (f : PortSt → PortSt) : (s.setPort p f).act = s.act := rfl
@[simp] theorem State.setPort_lt (s : State) (p : Nat) (f : PortSt → PortSt) : (s.setPort p f).lt = s.lt := rfl
@[simp] theorem State.setPort_synced (s : State) (p : Nat) (f : PortSt → PortSt) : (s.setPort p f).synced = s.synced := rfl
@[simp] theorem State.setPort_free (s : State) (p : Nat) (f : PortSt → PortSt) : (s.setPort p f).free = s.free := rfl
@[simp] theorem State.setPort_dram (s : State) (p : Nat) (f : PortSt → PortSt) : (s.setPort p f).dram = s.dram := rfl
@[simp] theorem State.setPort_scan (s : State) (p : Nat) (f : PortSt → PortSt) : (s.setPort p f).scan = s.scan := rfl
@[simp] theorem State.setPort_pix (s : State) (p : Nat) (f : PortSt → PortSt) : (s.setPort p f).pix = s.pix := rfl
@[simp] theorem State.setPort_gal (s : State) (p : Nat) (f : PortSt → PortSt) : (s.setPort p f).gal = s.gal := rfl
@[simp] theorem State.setPort_eng (s : State) (p : Nat) (f : PortSt → PortSt) : (s.setPort p f).eng = s.eng := rfl
@[simp] theorem State.setPort_stats (s : State) (p : Nat) (f : PortSt → PortSt) : (s.setPort p f).stats = s.stats := rfl
@[simp] theorem State.setPort_shd (s : State) (p : Nat) (f : PortSt → PortSt) : (s.setPort p f).shd = s.shd := rfl
@[simp] theorem State.setPort_guard (s : State) (p : Nat) (f : PortSt → PortSt) : (s.setPort p f).guard = s.guard := rfl
@[simp] theorem State.setPort_diag (s : State) (p : Nat) (f : PortSt → PortSt) : (s.setPort p f).diag = s.diag := rfl
@[simp] theorem State.setPort_cal (s : State) (p : Nat) (f : PortSt → PortSt) : (s.setPort p f).cal = s.cal := rfl
@[simp] theorem State.setPort_mbx (s : State) (p : Nat) (f : PortSt → PortSt) : (s.setPort p f).mbx = s.mbx := rfl
@[simp] theorem State.setPort_io (s : State) (p : Nat) (f : PortSt → PortSt) : (s.setPort p f).io = s.io := rfl
@[simp] theorem State.setPort_pins (s : State) (p : Nat) (f : PortSt → PortSt) : (s.setPort p f).pins = s.pins := rfl
@[simp] theorem State.setPort_aux (s : State) (p : Nat) (f : PortSt → PortSt) : (s.setPort p f).aux = s.aux := rfl
@[simp] theorem State.setPort_clk (s : State) (p : Nat) (f : PortSt → PortSt) : (s.setPort p f).clk = s.clk := rfl
@[simp] theorem State.setPort_pwr (s : State) (p : Nat) (f : PortSt → PortSt) : (s.setPort p f).pwr = s.pwr := rfl
@[simp] theorem State.setPort_boot (s : State) (p : Nat) (f : PortSt → PortSt) : (s.setPort p f).boot = s.boot := rfl
@[simp] theorem State.setPort_thm (s : State) (p : Nat) (f : PortSt → PortSt) : (s.setPort p f).thm = s.thm := rfl
@[simp] theorem State.setPort_ddr (s : State) (p : Nat) (f : PortSt → PortSt) : (s.setPort p f).ddr = s.ddr := rfl
@[simp] theorem State.setPort_mram (s : State) (p : Nat) (f : PortSt → PortSt) : (s.setPort p f).mram = s.mram := rfl
@[simp] theorem State.setPort_flash (s : State) (p : Nat) (f : PortSt → PortSt) : (s.setPort p f).flash = s.flash := rfl
@[simp] theorem State.setPort_flt (s : State) (p : Nat) (f : PortSt → PortSt) : (s.setPort p f).flt = s.flt := rfl
@[simp] theorem State.setPort_evt (s : State) (p : Nat) (f : PortSt → PortSt) : (s.setPort p f).evt = s.evt := rfl

/-! ### State.dramPut -/

@[simp] theorem State.dramPut_pending (s : State) (a : Nat) (v : List Byte) : (s.dramPut a v).pending = s.pending := rfl
@[simp] theorem State.dramPut_regs (s : State) (a : Nat) (v : List Byte) : (s.dramPut a v).regs = s.regs := rfl
@[simp] theorem State.dramPut_act (s : State) (a : Nat) (v : List Byte) : (s.dramPut a v).act = s.act := rfl
@[simp] theorem State.dramPut_lt (s : State) (a : Nat) (v : List Byte) : (s.dramPut a v).lt = s.lt := rfl
@[simp] theorem State.dramPut_synced (s : State) (a : Nat) (v : List Byte) : (s.dramPut a v).synced = s.synced := rfl
@[simp] theorem State.dramPut_free (s : State) (a : Nat) (v : List Byte) : (s.dramPut a v).free = s.free := rfl
@[simp] theorem State.dramPut_scan (s : State) (a : Nat) (v : List Byte) : (s.dramPut a v).scan = s.scan := rfl
@[simp] theorem State.dramPut_pix (s : State) (a : Nat) (v : List Byte) : (s.dramPut a v).pix = s.pix := rfl
@[simp] theorem State.dramPut_gal (s : State) (a : Nat) (v : List Byte) : (s.dramPut a v).gal = s.gal := rfl
@[simp] theorem State.dramPut_eng (s : State) (a : Nat) (v : List Byte) : (s.dramPut a v).eng = s.eng := rfl
@[simp] theorem State.dramPut_stats (s : State) (a : Nat) (v : List Byte) : (s.dramPut a v).stats = s.stats := rfl
@[simp] theorem State.dramPut_shd (s : State) (a : Nat) (v : List Byte) : (s.dramPut a v).shd = s.shd := rfl
@[simp] theorem State.dramPut_guard (s : State) (a : Nat) (v : List Byte) : (s.dramPut a v).guard = s.guard := rfl
@[simp] theorem State.dramPut_diag (s : State) (a : Nat) (v : List Byte) : (s.dramPut a v).diag = s.diag := rfl
@[simp] theorem State.dramPut_cal (s : State) (a : Nat) (v : List Byte) : (s.dramPut a v).cal = s.cal := rfl
@[simp] theorem State.dramPut_net (s : State) (a : Nat) (v : List Byte) : (s.dramPut a v).net = s.net := rfl
@[simp] theorem State.dramPut_mbx (s : State) (a : Nat) (v : List Byte) : (s.dramPut a v).mbx = s.mbx := rfl
@[simp] theorem State.dramPut_io (s : State) (a : Nat) (v : List Byte) : (s.dramPut a v).io = s.io := rfl
@[simp] theorem State.dramPut_pins (s : State) (a : Nat) (v : List Byte) : (s.dramPut a v).pins = s.pins := rfl
@[simp] theorem State.dramPut_aux (s : State) (a : Nat) (v : List Byte) : (s.dramPut a v).aux = s.aux := rfl
@[simp] theorem State.dramPut_clk (s : State) (a : Nat) (v : List Byte) : (s.dramPut a v).clk = s.clk := rfl
@[simp] theorem State.dramPut_pwr (s : State) (a : Nat) (v : List Byte) : (s.dramPut a v).pwr = s.pwr := rfl
@[simp] theorem State.dramPut_boot (s : State) (a : Nat) (v : List Byte) : (s.dramPut a v).boot = s.boot := rfl
@[simp] theorem State.dramPut_thm (s : State) (a : Nat) (v : List Byte) : (s.dramPut a v).thm = s.thm := rfl
@[simp] theorem State.dramPut_ddr (s : State) (a : Nat) (v : List Byte) : (s.dramPut a v).ddr = s.ddr := rfl
@[simp] theorem State.dramPut_mram (s : State) (a : Nat) (v : List Byte) : (s.dramPut a v).mram = s.mram := rfl
@[simp] theorem State.dramPut_flash (s : State) (a : Nat) (v : List Byte) : (s.dramPut a v).flash = s.flash := rfl
@[simp] theorem State.dramPut_flt (s : State) (a : Nat) (v : List Byte) : (s.dramPut a v).flt = s.flt := rfl
@[simp] theorem State.dramPut_evt (s : State) (a : Nat) (v : List Byte) : (s.dramPut a v).evt = s.evt := rfl

/-! ### State.flashPut -/

@[simp] theorem State.flashPut_pending (s : State) (a : Nat) (v : List Byte) : (s.flashPut a v).pending = s.pending := rfl
@[simp] theorem State.flashPut_regs (s : State) (a : Nat) (v : List Byte) : (s.flashPut a v).regs = s.regs := rfl
@[simp] theorem State.flashPut_act (s : State) (a : Nat) (v : List Byte) : (s.flashPut a v).act = s.act := rfl
@[simp] theorem State.flashPut_lt (s : State) (a : Nat) (v : List Byte) : (s.flashPut a v).lt = s.lt := rfl
@[simp] theorem State.flashPut_synced (s : State) (a : Nat) (v : List Byte) : (s.flashPut a v).synced = s.synced := rfl
@[simp] theorem State.flashPut_free (s : State) (a : Nat) (v : List Byte) : (s.flashPut a v).free = s.free := rfl
@[simp] theorem State.flashPut_dram (s : State) (a : Nat) (v : List Byte) : (s.flashPut a v).dram = s.dram := rfl
@[simp] theorem State.flashPut_scan (s : State) (a : Nat) (v : List Byte) : (s.flashPut a v).scan = s.scan := rfl
@[simp] theorem State.flashPut_pix (s : State) (a : Nat) (v : List Byte) : (s.flashPut a v).pix = s.pix := rfl
@[simp] theorem State.flashPut_gal (s : State) (a : Nat) (v : List Byte) : (s.flashPut a v).gal = s.gal := rfl
@[simp] theorem State.flashPut_eng (s : State) (a : Nat) (v : List Byte) : (s.flashPut a v).eng = s.eng := rfl
@[simp] theorem State.flashPut_stats (s : State) (a : Nat) (v : List Byte) : (s.flashPut a v).stats = s.stats := rfl
@[simp] theorem State.flashPut_shd (s : State) (a : Nat) (v : List Byte) : (s.flashPut a v).shd = s.shd := rfl
@[simp] theorem State.flashPut_guard (s : State) (a : Nat) (v : List Byte) : (s.flashPut a v).guard = s.guard := rfl
@[simp] theorem State.flashPut_diag (s : State) (a : Nat) (v : List Byte) : (s.flashPut a v).diag = s.diag := rfl
@[simp] theorem State.flashPut_cal (s : State) (a : Nat) (v : List Byte) : (s.flashPut a v).cal = s.cal := rfl
@[simp] theorem State.flashPut_net (s : State) (a : Nat) (v : List Byte) : (s.flashPut a v).net = s.net := rfl
@[simp] theorem State.flashPut_mbx (s : State) (a : Nat) (v : List Byte) : (s.flashPut a v).mbx = s.mbx := rfl
@[simp] theorem State.flashPut_io (s : State) (a : Nat) (v : List Byte) : (s.flashPut a v).io = s.io := rfl
@[simp] theorem State.flashPut_pins (s : State) (a : Nat) (v : List Byte) : (s.flashPut a v).pins = s.pins := rfl
@[simp] theorem State.flashPut_aux (s : State) (a : Nat) (v : List Byte) : (s.flashPut a v).aux = s.aux := rfl
@[simp] theorem State.flashPut_clk (s : State) (a : Nat) (v : List Byte) : (s.flashPut a v).clk = s.clk := rfl
@[simp] theorem State.flashPut_pwr (s : State) (a : Nat) (v : List Byte) : (s.flashPut a v).pwr = s.pwr := rfl
@[simp] theorem State.flashPut_boot (s : State) (a : Nat) (v : List Byte) : (s.flashPut a v).boot = s.boot := rfl
@[simp] theorem State.flashPut_thm (s : State) (a : Nat) (v : List Byte) : (s.flashPut a v).thm = s.thm := rfl
@[simp] theorem State.flashPut_ddr (s : State) (a : Nat) (v : List Byte) : (s.flashPut a v).ddr = s.ddr := rfl
@[simp] theorem State.flashPut_mram (s : State) (a : Nat) (v : List Byte) : (s.flashPut a v).mram = s.mram := rfl
@[simp] theorem State.flashPut_flt (s : State) (a : Nat) (v : List Byte) : (s.flashPut a v).flt = s.flt := rfl
@[simp] theorem State.flashPut_evt (s : State) (a : Nat) (v : List Byte) : (s.flashPut a v).evt = s.evt := rfl

end Sys2Proof.Machine
end

