-- ==== Sys2Proof/Laws/Reads.lean ====
section
/-! SUPPORT. Laws/Reads.lean: what a field reads as after the named updates, and the read laws of the memories. -/

namespace Sys2Proof.Machine

set_option Elab.async false

/-! ### Fields -/

theorem outside_of {l : List Field} {k : Nat} (h : l.all (fun f => fieldKey f != k) = true) : Outside l k := by
  intro f hf
  simpa using List.all_eq_true.mp h f hf

theorem reg_setFlag_self (s : State) (f : Field) (b : Bool) (hw : f.width ≤ 32) (h1 : 0 < f.width) :
    (s.setFlag f b).reg f = b2n b := by
  unfold State.setFlag
  rw [reg_setReg_self _ _ _ hw]
  refine Nat.mod_eq_of_lt ?_
  have : 2 ^ 1 ≤ 2 ^ f.width := Nat.pow_le_pow_right (by omega) h1
  unfold b2n
  split <;> omega

theorem flag_setFlag_self (s : State) (f : Field) (b : Bool) (hw : f.width ≤ 32) (h1 : 0 < f.width) :
    (s.setFlag f b).flag f = b := by
  simp only [State.flag, reg_setFlag_self s f b hw h1]
  cases b <;> rfl

theorem reg_setFlag_ne (s : State) (f g : Field) (b : Bool) (h : fieldKey f ≠ fieldKey g) : (s.setFlag f b).reg g = s.reg g :=
  reg_setReg_ne _ _ _ _ h

theorem flag_setFlag_ne (s : State) (f g : Field) (b : Bool) (h : fieldKey f ≠ fieldKey g) : (s.setFlag f b).flag g = s.flag g := by
  simp only [State.flag, reg_setFlag_ne s f g b h]

theorem flag_setReg_ne (s : State) (f g : Field) (v : Nat) (h : fieldKey f ≠ fieldKey g) : (s.setReg f v).flag g = s.flag g := by
  simp only [State.flag, reg_setReg_ne s f g v h]

theorem reg_bumpBy_self (s : State) (f : Field) (n : Nat) (hw : f.width ≤ 32) :
    (s.bumpBy f n).reg f = min (2 ^ f.width - 1) (s.reg f + n) := by
  unfold State.bumpBy
  rw [reg_setReg_self _ _ _ hw]
  have : 0 < 2 ^ f.width := Nat.two_pow_pos _
  refine Nat.mod_eq_of_lt ?_
  unfold satAdd
  omega

theorem reg_bump_self (s : State) (f : Field) (hw : f.width ≤ 32) : (s.bump f).reg f = min (2 ^ f.width - 1) (s.reg f + 1) :=
  reg_bumpBy_self s f 1 hw

theorem reg_bumpBy_ne (s : State) (f g : Field) (n : Nat) (h : fieldKey f ≠ fieldKey g) : (s.bumpBy f n).reg g = s.reg g :=
  reg_setReg_ne _ _ _ _ h

theorem reg_bump_ne (s : State) (f g : Field) (h : fieldKey f ≠ fieldKey g) : (s.bump f).reg g = s.reg g := reg_setReg_ne _ _ _ _ h

theorem reg_of_regs {s t : State} (f : Field) (h : t.regs = s.regs) : t.reg f = s.reg f := by unfold State.reg; rw [h]

theorem flag_of_regs {s t : State} (f : Field) (h : t.regs = s.regs) : t.flag f = s.flag f := by simp only [State.flag, reg_of_regs f h]

/-- The active copy of a shadowed field reads back what was set. -/
theorem actReg_setAct_self (s : State) (f : Field) (v : Nat) (hw : f.width ≤ 32) : (s.setAct f v).actReg f = v % 2 ^ f.width := by
  have : v % 2 ^ f.width < 2 ^ 32 :=
    Nat.lt_of_lt_of_le (Nat.mod_lt _ (Nat.two_pow_pos _)) (Nat.pow_le_pow_right (by omega) hw)
  simp [State.actReg, State.setAct]
  simpa using this

theorem actReg_setAct_ne (s : State) (f g : Field) (v : Nat) (h : fieldKey f ≠ fieldKey g) : (s.setAct f v).actReg g = s.actReg g := by
  simp only [State.actReg, State.setAct, sparseGet_set_ne 0 s.act _ _ _ h]

/-! ### Memories -/

/-- A DRAM write keeps the canonical form. -/
theorem dramPut_wf (s : State) (a : Nat) (v : List Byte) (h : Memory.wf 0 s.dram) : Memory.wf 0 (s.dramPut a v).dram :=
  cellsPut_wf 0 s.dram a v h

/-- A DRAM byte written reads back. -/
theorem dramByte_dramPut (s : State) (a : Nat) (v : List Byte) (j : Nat) (h : j < v.length) : (s.dramPut a v).dramByte (a + j) = v[j] :=
  cellsPut_read 0 s.dram a v j h

/-- A DRAM write leaves every byte outside it alone. -/
theorem dramByte_dramPut_ne (s : State) (a : Nat) (v : List Byte) (x : Nat) (h : x < a ∨ a + v.length ≤ x) :
    (s.dramPut a v).dramByte x = s.dramByte x := cellsPut_ne 0 s.dram a v x h

theorem flashCells_wf (m : List Host.Cell) (a : Nat) (v : List Byte) (h : Memory.wf 0 m) : Memory.wf 0 (flashCells m a v) := by
  induction v generalizing m a with
  | nil => exact h
  | cons b t ih => exact ih _ _ (sparseWf_set 0 m a _ h)

/-- A flash write keeps the canonical form. -/
theorem flashPut_wf (s : State) (a : Nat) (v : List Byte) (h : Memory.wf 0 s.flash.cells) : Memory.wf 0 (s.flashPut a v).flash.cells :=
  flashCells_wf s.flash.cells a v h

theorem flashCells_ne (m : List Host.Cell) (a : Nat) (v : List Byte) (x : Nat) (h : x < a ∨ a + v.length ≤ x) :
    sparseGet 0 (flashCells m a v) x = sparseGet 0 m x := by
  induction v generalizing m a with
  | nil => rfl
  | cons b t ih =>
    simp only [List.length_cons] at h
    rw [flashCells, ih _ _ (by omega), sparseGet_set_ne _ _ _ _ _ (by omega)]

theorem flashCells_read (m : List Host.Cell) (a : Nat) (v : List Byte) (j : Nat) (h : j < v.length) :
    sparseGet 0 (flashCells m a v) (a + j) = v[j] ^^^ Config.flashByte (a + j) := by
  induction v generalizing m a j with
  | nil => simp at h
  | cons b t ih =>
    cases j with
    | zero => rw [flashCells, flashCells_ne _ _ _ _ (by omega)]; simp
    | succ j =>
      have := ih (sparseSet 0 m a (b ^^^ Config.flashByte a)) (a + 1) j (by simpa using h)
      simpa [flashCells, Nat.add_assoc, Nat.add_comm 1 j] using this

/-- A flash byte written reads back. -/
theorem flashByte_flashPut (s : State) (a : Nat) (v : List Byte) (j : Nat) (h : j < v.length) :
    (s.flashPut a v).flashByte (a + j) = v[j] := by
  simp only [State.flashByte, State.flashPut, flashCells_read s.flash.cells a v j h]
  rw [BitVec.xor_assoc, BitVec.xor_self, BitVec.xor_zero]

/-- A flash write leaves every byte outside it alone. -/
theorem flashByte_flashPut_ne (s : State) (a : Nat) (v : List Byte) (x : Nat) (h : x < a ∨ a + v.length ≤ x) :
    (s.flashPut a v).flashByte x = s.flashByte x := by
  simp only [State.flashByte, State.flashPut, flashCells_ne s.flash.cells a v x h]

/-! ### Bytes -/

@[simp] theorem length_bytesAt (l : List Byte) (o n : Nat) : (bytesAt l o n).length = n := by simp [bytesAt]

@[simp] theorem length_padTo (l : List Byte) (n : Nat) : (padTo n l).length = n := by simp [padTo]

@[simp] theorem length_toLe (n v : Nat) : (toLe n v).length = n := by
  induction n generalizing v with
  | zero => rfl
  | succ n ih => simp [toLe, ih]

/-- A field inside the padded part of a list reads what the list holds there. -/
theorem bytesAt_padTo (l : List Byte) (n o k : Nat) (h : o + k ≤ n) : bytesAt (padTo n l) o k = bytesAt l o k := by
  unfold bytesAt
  refine List.map_congr_left fun i hi => ?_
  have : o + i < n := by have := List.mem_range.mp hi; omega
  simp [padTo, bytesAt, List.getD_eq_getElem?_getD, this]

theorem leAt_padTo (l : List Byte) (n o k : Nat) (h : o + k ≤ n) : leAt (padTo n l) o k = leAt l o k := by
  simp only [leAt, bytesAt_padTo l n o k h]

theorem ofLe_toLe (n v : Nat) : ofLe (toLe n v) = v % 256 ^ n := by
  induction n generalizing v with
  | zero => simp [toLe, ofLe, Nat.mod_one]
  | succ n ih =>
    have h : (BitVec.ofNat 8 (v % 256)).toNat = v % 256 := by simp
    simp only [toLe, ofLe, ih, h, Nat.pow_succ]
    rw [Nat.mul_comm (256 ^ n) 256, Nat.mod_mul]

end Sys2Proof.Machine
end

