-- ==== Sys2Proof/Laws/Outcomes.lean ====
section
/-! SUPPORT. Laws/Outcomes.lean: everything a raised event, a raised fault and a response do, in the words of the statements. -/

namespace Sys2Proof.Machine

set_option Elab.async false

theorem completes_of {c : Instr} {s t : State} {P : State → Prop} (h : exec c s = .next t) (p : P t) : Completes c s P := ⟨t, h, p⟩

/-! ### Events and faults -/

/-- A raised event is the one new record that waits for its grant. -/
theorem raiseEvent_told (s : State) (code : Nat) (args : List Byte) : Told s (raiseEvent s code args) [(code, args)] := by
  simp [Told, raiseEvent, raiseEventInj, mkEvent, eventOf]

/-- Raising the FATAL cause at a detection places no request. -/
theorem fatalAtDetection_real (s : State) (src cls : Nat) (inj : Bool) : (fatalAtDetection s src cls inj).flt.real = s.flt.real := by
  unfold fatalAtDetection
  split
  · unfold raiseCauseInj
    split
    · rfl
    · dsimp only
      split <;> (try split) <;> rfl
  · rfl

/-- A raised fault counts, and its request waits with at least its class. -/
theorem raiseFault_faulted (s : State) (src cls : Nat) : Faulted s (raiseFault s src cls) src cls := by
  refine ⟨?_, ?_⟩
  · have hk : Outside fatalAtDetectionRegs (fieldKey (FLT.COUNT.COUNT src)) := by
      have := Nat.mod_lt src (by omega : 0 < 96)
      simp [fatalAtDetectionRegs, raiseCauseInjRegs, enterFallbackRegs, fieldKey, FLT.COUNT.COUNT, SAFE.FB_ENTRIES.VALUE,
        SCAN.FB_CTRL.RESET_LONG_ROM, SAFE.FB_CAUSE.FATAL, outside_cons, outside_nil]
      omega
    refine (reg_eq_of_word (fatalAtDetection_word hk _ src cls false)).trans ?_
    exact reg_bump_self s (FLT.COUNT.COUNT src) (by simp [FLT.COUNT.COUNT])
  · unfold raiseFault
    simp only [fatalAtDetection_real, sparseGet_set_self]
    unfold mergeWait
    split
    · exact ⟨_, rfl, Nat.le_refl _⟩
    · exact ⟨_, rfl, Nat.le_max_right _ _⟩

/-! ### Responses -/

/-- Telling the owner touches no mailbox. -/
theorem tellOwner_boxes (s : State) (n status : Nat) (rsp : List Byte) :
    (tellOwner s n status rsp).mbx.boxes = s.mbx.boxes ∧ (tellOwner s n status rsp).mbx.accepted = s.mbx.accepted := by
  unfold tellOwner
  dsimp only
  split
  · simp
  · split <;> simp [sendRsp]
  · simp [canRespond]

/-- The body of a response begins with its header, and its data follow. -/
theorem withTrailer_prefix (a : Option (List Byte × Nat)) (req body : List Byte) : ∃ l, withTrailer a req body = body ++ l := by
  unfold withTrailer
  cases a with
  | none => exact ⟨[], by simp⟩
  | some k => exact ⟨bytesAt req (8 + reqLen req) 4 ++ (cmac k.1 (body ++ bytesAt req (8 + reqLen req) 4)).take 8, by simp⟩

theorem bytesAt_append (l m : List Byte) (o k : Nat) (h : o + k ≤ l.length) : bytesAt (l ++ m) o k = bytesAt l o k := by
  unfold bytesAt
  refine List.map_congr_left fun i hi => ?_
  have : o + i < l.length := by have := List.mem_range.mp hi; omega
  simp [List.getD_eq_getElem?_getD, List.getElem?_append_left this]

theorem bytesAt_after (l m : List Byte) (k : Nat) (h : k = m.length) : bytesAt (l ++ m) l.length k = m := by
  subst h
  refine List.ext_getElem (by simp) fun i h1 h2 => ?_
  simp [bytesAt, List.getD_eq_getElem?_getD, List.getElem?_append_right, h2]

/-- What a response is, as its area shows it: DONE, its header and its data; the other mailboxes stand. -/
theorem respond_answered (s : State) (n status : Nat) (data : List Byte) (hn : n < s.mbx.boxes.length) (hd : data.length ≤ 248)
    (hs : status < 256) (ho : reqOp (s.mb n).req < 65536) (ht : reqTag (s.mb n).req < 256)
    (hdata : status = 0 ∨ status = 0x10 ∨ data = []) : Answered s (respond s n status data) n status data := by
  have hlet : (if status = 0 ∨ status = 0x10 then data else []) = data := by
    rcases hdata with h | h | h <;> simp [h]
  obtain ⟨l, hl⟩ := withTrailer_prefix (s.mb n).auth (s.mb n).req
    (rspBody (reqOp (s.mb n).req) (reqTag (s.mb n).req) status (0 + 2 * b2n (s.mb n).auth.isSome) data)
  have hb : (respond s n status data).mbx.boxes = s.mbx.boxes.set n { s.mb n with
      rsp := padTo 256 (rspBody (reqOp (s.mb n).req) (reqTag (s.mb n).req) status (0 + 2 * b2n (s.mb n).auth.isSome) data ++ l)
      phase := .done } := by
    unfold respond respondWith
    rw [(tellOwner_boxes _ _ _ _).1]
    simp only [hlet, hl]
    rfl
  have hm : (respond s n status data).mb n = { s.mb n with
      rsp := padTo 256 (rspBody (reqOp (s.mb n).req) (reqTag (s.mb n).req) status (0 + 2 * b2n (s.mb n).auth.isSome) data ++ l)
      phase := .done } := by
    unfold State.mb
    rw [hb, List.getD_eq_getElem?_getD, List.getElem?_set_self hn]
    rfl
  have hacc : (respond s n status data).mbx.accepted = s.mbx.accepted.filter (· != n) := by
    unfold respond respondWith
    rw [(tellOwner_boxes _ _ _ _).2]
    rfl
  have hlen : (rspBody (reqOp (s.mb n).req) (reqTag (s.mb n).req) status (0 + 2 * b2n (s.mb n).auth.isSome) data).length
      = 8 + data.length := by simp [rspBody]; omega
  have get (o k : Nat) (h : o + k ≤ 8 + data.length) : bytesAt ((respond s n status data).mb n).rsp o k
      = bytesAt (rspBody (reqOp (s.mb n).req) (reqTag (s.mb n).req) status (0 + 2 * b2n (s.mb n).auth.isSome) data) o k := by
    rw [hm]
    simp only
    rw [bytesAt_padTo _ _ _ _ (by omega), bytesAt_append _ _ _ _ (by omega)]
  have fld (o k v : Nat) (pre post : List Byte) (hp : pre.length = o) (hv : v < 256 ^ k) (h : o + k ≤ 8 + data.length)
      (e : rspBody (reqOp (s.mb n).req) (reqTag (s.mb n).req) status (0 + 2 * b2n (s.mb n).auth.isSome) data
        = pre ++ (toLe k v ++ post)) : leAt ((respond s n status data).mb n).rsp o k = v := by
    unfold leAt
    rw [get o k h, e, ← List.append_assoc, bytesAt_append _ _ _ _ (by simp [hp]), ← hp, bytesAt_after _ _ _ (by simp), ofLe_toLe,
      Nat.mod_eq_of_lt hv]
  refine ⟨?_, ?_, ?_, ?_, ?_, ?_, ?_, ?_⟩
  · rw [hm]
  · rw [hacc]; simp
  · exact fld 0 2 _ [] _ rfl (by simpa using ho) (by omega) (by simp only [rspBody, List.append_assoc, List.nil_append]; rfl)
  · exact fld 2 1 _ (toLe 2 (reqOp (s.mb n).req)) _ (by simp) (by simpa using ht) (by omega) (by simp only [rspBody, List.append_assoc, List.nil_append]; rfl)
  · exact fld 3 1 _ (toLe 2 (reqOp (s.mb n).req) ++ toLe 1 (reqTag (s.mb n).req)) _ (by simp) (by simpa using hs) (by omega)
      (by simp only [rspBody, List.append_assoc, List.nil_append]; rfl)
  · exact fld 4 2 _ (toLe 2 (reqOp (s.mb n).req) ++ toLe 1 (reqTag (s.mb n).req) ++ toLe 1 status) _ (by simp) (by omega) (by omega)
      (by simp only [rspBody, List.append_assoc, List.nil_append]; rfl)
  · rw [get 8 _ (by omega)]
    have e : rspBody (reqOp (s.mb n).req) (reqTag (s.mb n).req) status (0 + 2 * b2n (s.mb n).auth.isSome) data
        = (toLe 2 (reqOp (s.mb n).req) ++ toLe 1 (reqTag (s.mb n).req) ++ toLe 1 status ++ toLe 2 data.length
          ++ toLe 2 (0 + 2 * b2n (s.mb n).auth.isSome)) ++ data := by simp [rspBody]
    rw [e]
    have := bytesAt_after (toLe 2 (reqOp (s.mb n).req) ++ toLe 1 (reqTag (s.mb n).req) ++ toLe 1 status ++ toLe 2 data.length
      ++ toLe 2 (0 + 2 * b2n (s.mb n).auth.isSome)) data data.length rfl
    simpa using this
  · intro k hk
    unfold State.mb
    rw [hb, List.getD_eq_getElem?_getD, List.getElem?_set_ne (Ne.symm hk), ← List.getD_eq_getElem?_getD]

end Sys2Proof.Machine
end

