-- ==== Sys2Proof/WellFormed.lean ====
section
/-! DEFINITION. WellFormed.lean: the operand values that a command can carry. Every meaning is total all the same. -/

namespace Sys2Proof

/-- A calibration reading names a pixel and has eight units (R304). -/
def readingOk (x : UnitReading) : Bool :=
  decide (x.col < 1024 ∧ x.row < 1024) && x.units.length == 8 && x.vf.length == 8

/-- A CAN frame has an identifier of its width and at most 64 bytes, 8 in a classic frame (R390). -/
def canFrameOk (f : CanFrame) : Bool :=
  decide (f.id < if f.ide then 2 ^ 29 else 2 ^ 11) && decide (f.data.length ≤ if f.fd then 64 else 8) && decide (f.dlc < 16)

/-- The fields of a packet header fit their widths (R346). -/
def headerOk (h : Header) : Bool :=
  decide (h.type < 16 ∧ h.dest < 1024 ∧ h.src < 1024 ∧ h.tspec < 16 ∧ h.len < 1024)

/-- The operands of a command are in range. -/
def wellFormed : Instr → Bool
  | .frameStart _ => true
  | .rowSlotStart k => decide (k < 1088)
  | .rowDelivered r _ _ => decide (r < 1024)
  | .rowDeadline r => decide (r < 1024)
  | .safetyLayerCheck n => decide (n < 7)
  | .pwmPeriodStart g samples units => decide (g < 16) && samples.all (fun x => decide (x.col < 1024)) && units.all readingOk
  | .blankPassStart => true
  | .blankRowSlot _ _ => true
  | .publishTimer => true
  | .scanEnSet => true
  | .rasterStart => true
  | .scanEnClear => true
  | .scanCommitBit => true
  | .galEnClear => true
  | .fenceIncWrite _ => true
  | .fenceDirectWrite k _ => decide (k < 64)
  | .flipArm n _ => decide (n < 7)
  | .lutDataWrite _ => true
  | .lutDataRead => true
  | .bufferRetire n => decide (n < 7)
  | .kilnBuildComplete => true
  | .batchCommit => true
  | .bandComplete b => decide (b < 16)
  | .pingpongBufferFree b => decide (b < 16)
  | .videoInputReady b => decide (b < 16)
  | .engineFault n _ => decide (n < 18)
  | .bandTimeout b => decide (b < 16)
  | .spareReady => true
  | .spareRotation => true
  | .selfTestComplete n _ => decide (n < 18)
  | .pausePeriodStart => true
  | .computeRestored => true
  | .lowbeamReqAssert => true
  | .lowbeamReqRelease => true
  | .guardWatchdogExpiry => true
  | .guardOscFail => true
  | .safePacket _ => true
  | .canSafeFrame f => canFrameOk f
  | .safePartnerTimeout => true
  | .agreedValidityEnd => true
  | .strapReread pads => pads.length == 6
  | .mapEntryCommit => true
  | .healingGenComplete => true
  | .hourlyCheckpoint photo => photo.length == 64
  | .delayMonitorReading margins => margins.length == 24
  | .gainmapGenComplete => true
  | .portEnSet _ => true
  | .trn1Received _ _ => true
  | .trn2Received _ rate fom => decide (rate < 3) && fom.length == 4
  | .rateChange _ => true
  | .adaptationComplete _ lanes => lanes.length == 4
  | .trainingTimeout _ => true
  | .trainingRestart _ => true
  | .fomMeasurement _ lanes gains => lanes.length == 4 && gains.all (fun x => decide (x.1 < 4 ∧ 1 ≤ x.2.1 ∧ x.2.1 ≤ 3))
  | .bitLockLoss _ => true
  | .codeErrorBurst _ _ => true
  | .retrain _ => true
  | .portEnClear _ => true
  | .quarantineRelease _ => true
  | .packetHeaderArrival _ h => headerOk h
  | .packetEnd _ payload _ _ => payload.length % 4 == 0
  | .vrowPacket _ => true
  | .objPacket _ => true
  | .mboxReqPacket _ => true
  | .nopEnum _ => true
  | .nopEnumEnd _ => true
  | .nopTopo _ => true
  | .nopSleep _ => true
  | .syncTimer => true
  | .syncReqPacket _ => true
  | .syncAckPacket _ _ => true
  | .syncAckTimeout _ => true
  | .timeSetSend => true
  | .timeSetReceived _ _ => true
  | .wrapEndTimer => true
  | .quarantineTimeout _ => true
  | .localPacketResend _ => true
  | .spiRead _ len _ => decide (len < 256)
  | .spiWrite _ len _ _ _ => decide (len < 256)
  | .spiReread len _ _ => decide (len < 256)
  | .spiFrameAbort _ len _ _ fetched => decide (len < 256) && decide (fetched ≤ len)
  | .canDiagSegment f => canFrameOk f
  | .busOffEntry => true
  | .wakePortWrite _ _ => true
  | .headroomLoop flags => decide (flags ≤ 1048576)
  | .pmbusTransaction _ _ => true
  | .pmbusClockTimeout => true
  | .iomuxApply => true
  | .extEvtEdge pin => decide (pin < 16)
  | .ltMark => true
  | .ifbSetFault _ => true
  | .doorbell _ => true
  | .mbxAck _ => true
  | .evtPop => true
  | .commandAccept => true
  | .commandStart mb => decide (mb < 8)
  | .mboxRspResend mb => decide (mb < 8)
  | .sessionIdleTimeout session => decide (session < 65536)
  | .eventPacketSend => true
  | .identify mb => decide (mb < 8)
  | .sessionOpen mb => decide (mb < 8)
  | .sessionAuth mb => decide (mb < 8)
  | .sessionClose mb => decide (mb < 8)
  | .setLt mb => decide (mb < 8)
  | .regRead mb => decide (mb < 8)
  | .regWrite mb => decide (mb < 8)
  | .echo mb => decide (mb < 8)
  | .setMode mb => decide (mb < 8)
  | .commit mb => decide (mb < 8)
  | .frameStats mb => decide (mb < 8)
  | .layerFlip mb => decide (mb < 8)
  | .fenceWait mb => decide (mb < 8)
  | .fenceWaitTimeout mb => decide (mb < 8)
  | .lutLoad mb => decide (mb < 8)
  | .videoWindow mb => decide (mb < 8)
  | .objWrite mb => decide (mb < 8)
  | .objRead mb => decide (mb < 8)
  | .objClear mb => decide (mb < 8)
  | .rsetEntry mb => decide (mb < 8)
  | .rsetDelete mb => decide (mb < 8)
  | .rsetSubmit mb => decide (mb < 8)
  | .patternLoad mb => decide (mb < 8)
  | .symlibLoad mb => decide (mb < 8)
  | .lensRead mb lens => decide (mb < 8) && (lens.all (fun b => b.length == 128))
  | .fbRelease mb => decide (mb < 8)
  | .safeWindow mb => decide (mb < 8)
  | .fbPattern mb readBack => decide (mb < 8) && readBack.all (fun x => decide (x.1 < 1024) && x.2.length == 128)
  | .reseal mb _ => decide (mb < 8)
  | .pixelAge mb => decide (mb < 8)
  | .mapRead mb => decide (mb < 8)
  | .mapClear mb => decide (mb < 8)
  | .faultInject mb => decide (mb < 8)
  | .injectRepeat => true
  | .zoneRatio mb => decide (mb < 8)
  | .vfRead mb => decide (mb < 8)
  | .doseRead mb => decide (mb < 8)
  | .witnessRead mb => decide (mb < 8)
  | .recalibrate mb readings badRows => decide (mb < 8) && readings.all readingOk && badRows.all (fun r => decide (r < 1024))
  | .pwrSleep mb _ => decide (mb < 8)
  | .powerDown mb => decide (mb < 8)
  | .enumerate mb => decide (mb < 8)
  | .assignAddr mb => decide (mb < 8)
  | .auxSet mb => decide (mb < 8)
  | .auxPattern mb => decide (mb < 8)
  | .auxGamma mb => decide (mb < 8)
  | .auxGate mb => decide (mb < 8)
  | .eventsRead mb => decide (mb < 8)
  | .eventsHistory mb => decide (mb < 8)
  | .flashWrite mb _ => decide (mb < 8)
  | .flashErase mb _ => decide (mb < 8)
  | .slotSelect mb _ _ => decide (mb < 8)
  | .cfgRead mb => decide (mb < 8)
  | .cfgWrite mb _ => decide (mb < 8)
  | .auxFrameGrid p => decide (p < 4)
  | .auxGatePeriodStart n => decide (n < 6)
  | .auxEnSet => true
  | .clockMonitorTrip _ => true
  | .clocksGood => true
  | .clkswForced d => decide (d < 6)
  | .rampDwellStep => true
  | .refclkDetectWindow _ => true
  | .crystalDelayExpiry => true
  | .pllLock => true
  | .clkDivWrite _ => true
  | .ssRefWrite _ => true
  | .clkGateWrite _ => true
  | .sleepEntryAbort _ => true
  | .wakePin => true
  | .wakeSequence => true
  | .wakeReadinessTimeout _ => true
  | .dramIdleSelfRefresh => true
  | .thermalSample t => t.length == 68
  | .housekeepingRound _ => true
  | .hardTrip sensor => decide (sensor < 68)
  | .hardTripRelease => true
  | .ddrcEnSet => true
  | .dramRefresh => true
  | .zqCalibration => true
  | .dramActivate bank row => decide (bank < 32) && decide (row < 131072)
  | .ddrAlert _ => true
  | .dramReadError _ _ _ _ => true
  | .tolCountdownExpiry => true
  | .dramIdlePowerState => true
  | .patrolScrub _ => true
  | .mramRecordCommit num => decide (num < 65536)
  | .mramCopyRepair num => decide (num < 65536)
  | .mramScrub _ => true
  | .wearAllowanceTick => true
  | .faultDetect src _ _ => decide (src < 66)
  | .faultGrant => true
  | .fltAck _ => true
  | .errNMinWidthExpiry => true
  | .supervisorRestart => true
  | .restartComplete _ _ => true
  | .aliasRead _ => true
  | .aliasWrite _ _ => true
  | .rcFieldRead _ => true
  | .registerWrite _ _ => true
  | .crcInit u _ => decide (u < 4)
  | .crcData u _ => decide (u < 4)
  | .crcData8 u _ => decide (u < 4)
  | .vsys33PowerOn => true
  | .supplyFail => true
  | .resetNAssert => true
  | .resetNRelease _ => true
  | .coldBoot env => env.straps.length == 6 && env.readings.all readingOk && env.badMaskRows.all (fun r => decide (r < 1024)) && env.margins.length == 24 && (env.lens.all (fun b => b.length == 128))
  | .corePgRise => true
  | .canBusError _ => true
  | .canBusOffRecovery => true
  | .elasticBufferSlip _ => true
  | .enumerateTimeout mb => decide (mb < 8)
  | .guardGood => true

end Sys2Proof
end

