-- ==== Sys2Proof/Tests/Slice0.lean ====
section
/-! SUPPORT. Slice0.lean: small tests. Each statement with hypotheses has a witness that meets them; the expected values of the other
tests are worked out by hand from the rule each cites. -/

namespace Sys2Proof
namespace Tests
open Sys2Proof Sys2Proof.Machine

/-! ### Small states -/

end Tests

namespace Machine

set_option Elab.async false

/-- A state with some register fields set. -/
def State.having (s : State) (l : List (Field × Nat)) : State := l.foldl (fun s x => s.setReg x.1 x.2) s

/-- A state with some active copies set. -/
def State.acting (s : State) (l : List (Field × Nat)) : State := l.foldl (fun s x => s.setAct x.1 x.2) s

/-- A state with row group `g` as given. -/
def State.grouped (s : State) (g : Nat) (v : Group) : State := s.setGroup g v

/-- A state whose frame in load has rows 0 to `r` - 1 delivered. -/
def State.loadedTo (s : State) (r : Nat) : State := { s with scan := { s.scan with nextRow := r } }

/-- A packet waits at port `p` of `s` for its action. -/
def State.holding (s : State) (p : Nat) (k : Packet) (rx : Nat) : State := s.setPort p (fun y => { y with pkt := some (k, rx) })

/-- A request block. -/
def request (op flags : Nat) (p : List Byte) : List Byte := toLe 2 op ++ [0x5A] ++ toLe 1 flags ++ toLe 2 p.length ++ [0, 0] ++ p

/-- Mailbox `mb` of `s` runs command `op` with the parameters `p`. -/
def State.asked (s : State) (mb op : Nat) (p : List Byte) : State :=
  s.setMb mb (fun m => { m with phase := .started, req := padTo 256 (request op 0 p) })

end Machine

namespace Tests
open Machine

set_option Elab.async false

/-- The block as it stands after a boot: clocks locked, every block clocked, Jorosh running. -/
def up : State :=
  State.having { State.reset with boot := { Boot.reset with cold := false, jorosh := true, done := true }
                                  clk := { Clk.reset with everLocked := true }, lt := 1000000000 }
    ((List.range 21).map (fun n => (CLK.GATE.EN n, 1)))

/-- The raster runs and a frame is in load. -/
def scanning : State :=
  State.having { up with scan := { Scan.reset with running := true, loading := true } } [(SCAN.CTRL.EN, 1), (GAL.CTRL.EN, 1)]

/-- A context record with its CHECK, at lamp time 0: `v` is the byte with VALID, GR, MERGE and SHAPE. -/
def ctxRaw (id v life : Nat) : List Byte :=
  let b := toLe 2 id ++ [0] ++ toLe 1 v ++ List.replicate 0x1C 0 ++ toLe 2 100 ++ toLe 2 life ++ List.replicate 0x18 0
  b ++ toLe 4 (crc32c (BitVec.ofNat 32 id) b).toNat

def ctxFar : Ctx := ⟨ctxRaw 7 1 4000, some 999000000⟩
def ctxGlare : Ctx := ⟨ctxRaw 8 3 4000, some 999000000⟩
def ctxOld : Ctx := ⟨ctxRaw 9 1 0, some 0⟩
def ctxGone (c : Ctx) : Ctx := { c with raw := putAt c.raw 3 [0] }

/-- The next state of a command. -/
def after (c : Instr) (s : State) : State := match exec c s with
  | .next t => t
  | _ => s

/-- A whole frame is in load and waits for its verdict. -/
def fullFrame : State := scanning.loadedTo 1024
def fullLit : State := { fullFrame with guard := { Guard.reset with flux := 1000000, moment := 512000000, limits := { Limits.rom with allow := 100 } } }
/-- A parameter block: kernel, slot, flags, fence, output address, stride, width, height and first row. -/
def block (kernel slot flags fence out stride w h y0 : Nat) : List Byte :=
  padTo 0x60 (toLe 2 kernel ++ toLe 1 slot ++ toLe 1 flags ++ toLe 1 fence ++ [0, 0, 0] ++ toLe 4 (out / 64) ++ toLe 4 (out / 64 + 64)
    ++ toLe 4 stride ++ toLe 2 w ++ toLe 2 h ++ toLe 2 y0)

/-- A running set of one entry, with the bands `todo` left and `started` begun. -/
def entryOf (b : List Byte) (todo started : Nat) : RunEntry := ⟨b, 4096, todo, started⟩
def setOf (b : List Byte) (todo started : Nat) : RunSet :=
  { entries := [entryOf b todo started], mode := 0, since := 5, patterns := [], optics := none, shift := 0, glyphs := 0 }

/-- The engines run that set. -/
def rendering (b : List Byte) (todo started : Nat) : State :=
  State.having { up with eng := { Eng.reset with running := some (setOf b todo started) } } [(BE.CTRL.EN, 1)]

/-- A batch of staged records: slot 0 active, 1 new, 2 deleted, 3 glare deleted, 4 marked as batch, 5 expired. -/
def stagedSlots (due : Bool) : State :=
  { up with shd := { Shd.reset with commitDue := due,
                                    slots := [(0, ⟨some ctxFar, none⟩), (1, ⟨none, some ⟨ctxGlare, false⟩⟩), (2, ⟨some ctxFar, some ⟨ctxGone ctxFar, false⟩⟩),
      (3, ⟨some ctxGlare, some ⟨ctxGone ctxGlare, false⟩⟩), (4, ⟨some ctxFar, some ⟨ctxGlare, true⟩⟩), (5, ⟨some ctxOld, none⟩),
      (255, ⟨some ctxGlare, some ⟨ctxGone ctxGlare, true⟩⟩)] } }

/-- A SAFE record with its MAC under the key of sixteen bytes 1, for every node. -/
def safeBytes (seq lt cls mask digest : Nat) : List Byte :=
  let b := toLe 4 seq ++ toLe 6 lt ++ toLe 1 cls ++ [0] ++ toLe 4 mask ++ toLe 4 digest ++ toLe 2 1023 ++ [0, 0]
  b ++ (cmac (List.replicate 16 1) b).take 8

/-- That key is programmed, lamp time is synchronized, and CAN runs. -/
def keyed : State :=
  State.having { up with synced := true, guard := { Guard.reset with key := some (List.replicate 16 1) } } [(CAN.CTRL.EN, 1)]

/-- A CAN frame with the SAFE identifier of reset. -/
def safeFrame (b : List Byte) : CanFrame := ⟨true, up.flag CAN.SAFE_ID.IDE, up.reg CAN.SAFE_ID.ID, 13, b⟩

def packet (type dest src tspec : Nat) (payload : List Byte) : Packet :=
  ⟨⟨type, dest, src, false, false, tspec, 7, (payload.length + 3) / 4⟩, payload⟩

def recAt (b : List Byte) (arrived : Nat) : SafeRec := ⟨b, leAt b 0 4, leAt b 0xA 1, leAt b 0xC 4, leAt b 0x10 4, arrived⟩

/-- Both ports are up on a chain of two nodes. -/
def linked : State :=
  up.having [(TX.CTRL.EN 0, 1), (TX.CTRL.EN 1, 1), (TX.STATUS.STATE 0, 3), (TX.STATUS.STATE 1, 3), (TXLA.NODE.TOPO, 1), (TXLA.NODE.ADDR, 5),
    (TXLA.NODE.ADDR_VALID, 1)]

/-- Port `p` trains in step `n`. -/
def training (p n : Nat) : State :=
  State.having (up.setPort p (fun y => { y with phase := n, choice := 1, fomReq := 40, fomAch := [40, 41, 50, 60] }))
    [(TX.CTRL.EN p, 1), (TX.STATUS.STATE p, 2)]

def header (type dest src len : Nat) (mon wrapped : Bool) (tspec : Nat) : Header := ⟨type, dest, src, mon, wrapped, tspec, 7, len⟩

/-- A packet arrives at port `p`. -/
def arriving (p : Nat) (h : Header) (consume : Bool) (out : Option (Nat × Bool)) : State :=
  linked.setPort p (fun y => { y with cur := some ⟨h, 9, false, consume, out⟩ })

/-- The VLED loop runs. -/
def tracking (hold quiet ask : Nat) : State :=
  State.having { up with scan := { Scan.reset with hrHold := hold, hrQuiet := quiet, vledAsk := ask }, io := { Side.reset with expVled := some 9 } }
    [(SCAN.HR_CFG.HR_EN, 1)]

/-- Mailbox `mb` of `s` stands in `phase` with the request `b`. -/
def boxed (s : State) (mb : Nat) (phase : MbPhase) (b : List Byte) : State := s.setMb mb (fun m => { m with phase := phase, req := padTo 256 b })

/-- Mailboxes 0 and 1 are accepted, 0 first, with the requests `a` and `b`. -/
def queued (a b : List Byte) : State :=
  let s := boxed (boxed up 0 .accepted a) 1 .accepted b
  { s with mbx := { s.mbx with accepted := [0, 1] } }

def eventNo (n : Nat) : EventRec := ⟨0x0101, 0, n, 0, false, List.replicate 16 0⟩

/-- A lens record with its CHECK. -/
def lensRecord : List Byte :=
  let b := toLe 4 0x534E454C ++ toLe 2 1 ++ List.replicate 118 1
  b ++ toLe 4 (crc32c (BitVec.ofNat 32 (leAt b 0x18 4) ^^^ BitVec.ofNat 32 (leAt b 0x1C 4)) b).toNat

/-- A boot directory with its CHECK: flags, slots A and B at 0x20000 and 0x40000 and the symbol library at 0x60000. -/
def dirBytes (flags : Nat) : List Byte :=
  let b := toLe 4 0x4C424C41 ++ toLe 4 flags ++ toLe 4 0x20000 ++ toLe 4 0x20000 ++ toLe 4 0x40000 ++ toLe 4 0x20000 ++ toLe 4 0x60000 ++ toLe 4 0x100
  b ++ toLe 4 (crc32c 0 b).toNat ++ List.replicate 28 0

/-- A symbol library of 32 bytes with its CHECK. -/
def symBytes : List Byte :=
  let b := toLe 4 0x59534C41 ++ [1, 0] ++ toLe 2 9 ++ [0, 0, 0, 0] ++ toLe 4 32 ++ List.replicate 16 0
  putAt b 0x10 (toLe 4 (crc32c 32 b).toNat)

/-- The flash holds that directory and library. -/
def flashed (s : State) (flags : Nat) : State := (s.flashPut 0 (dirBytes flags)).flashPut 0x60000 symBytes

/-- Pixel plane bytes in DRAM at 0: the first byte is `b`. -/
def dramPlane (b : Byte) : State := ({ up with dram := if b = 0 then [] else [(0, b)] }).having [(DDRC.STATUS.READY, 1)]

/-- A seal image in range for straps of level 0 lies in DRAM at 0, and `n` slots are programmed. -/
def sealReady (n : Nat) : State :=
  State.having { up with dram := [(8, 1), (9, 1)]
                         guard := { Guard.reset with otp := (List.range n).map (fun k => (k, List.replicate 1024 0)) } }
    [(DDRC.STATUS.READY, 1)]


/-! ### The flash of the small states -/

theorem dirBytes_length (f : Nat) : (dirBytes f).length = 64 := by simp [dirBytes]

theorem flashed_bytes (s : State) (f o n : Nat) (h : o + n ≤ 64) : (flashed s f).flashBytes o n = ((dirBytes f).drop o).take n := by
  refine List.ext_getElem (by simp [State.flashBytes, dirBytes_length]; omega) fun i h1 h2 => ?_
  have hi : i < n := by simpa [State.flashBytes] using h1
  simp only [State.flashBytes, List.getElem_map, List.getElem_range, List.getElem_take, List.getElem_drop]
  have h3 := flashByte_flashPut s 0 (dirBytes f) (o + i) (by rw [dirBytes_length]; omega)
  rw [Nat.zero_add] at h3
  rw [flashed, flashByte_flashPut_ne _ _ _ _ (Or.inl (by omega)), h3]

theorem flashed_directory (s : State) (f : Nat)
    (h : (let b := ((dirBytes f).drop 0).take 0x24
          leAt b 0 4 == 0x4C424C41 && leAt b 0x20 4 == (crc32c 0 (b.take 0x20)).toNat) = true) :
    directory (flashed s f) = some 0 := by
  unfold directory dirOk dirPrimary
  rw [flashed_bytes s f 0 0x24 (by omega)]
  exact if_pos h

theorem flashed_directoryA {s : State} : directory (flashed s 0) = some 0 := flashed_directory s 0 (by decide +kernel)

theorem flashed_directoryB {s : State} : directory (flashed s 65536) = some 0 := flashed_directory s 65536 (by decide +kernel)

theorem flashed_chosen {s : State} {e : BootEnv} (h : e.slotA = .pass 7) : SlotChosen (prefersB (flashed s 0) 0) e false 7 := by
  have hp : prefersB (flashed s 0) 0 = false := by
    unfold prefersB
    rw [flashed_bytes s 0 (0 + 4) 4 (by omega)]
    decide +kernel
  rw [hp]
  exact Or.inl ⟨rfl, h⟩

theorem low_rate (q : Nat) (h1 : 0 < q) (h2 : q ≤ rateMax (training 0 1) (portNo .a)) : bit (1 : BitVec 3).toNat q = false := by
  have h3 : q ≤ 2 := Nat.le_trans h2 (Nat.min_le_left _ _)
  have h4 : q = 1 ∨ q = 2 := by omega
  rcases h4 with rfl | rfl <;> decide

theorem asked_directory (s : State) (mb op : Nat) (p : List Byte) : directory (s.asked mb op p) = directory s := rfl

/-! ### Ill-formed commands are refused -/

/-- The commands whose one checked operand is a mailbox. -/
def mailCommands : List (Nat → Instr) := [
    .commandStart, .mboxRspResend, .identify, .sessionOpen, .sessionAuth, .sessionClose, .setLt, .regRead, .regWrite, .echo, .setMode,
    .commit, .frameStats, .layerFlip, .fenceWait, .fenceWaitTimeout, .lutLoad, .videoWindow, .objWrite, .objRead, .objClear, .rsetEntry,
    .rsetDelete, .rsetSubmit, .patternLoad, .symlibLoad] ++ [
    .fbRelease, .safeWindow, (.reseal · true), .pixelAge, .mapRead, .mapClear, .faultInject, .zoneRatio, .vfRead, .doseRead, .witnessRead,
    (.pwrSleep · true), .powerDown, .enumerate, .assignAddr, .auxSet, .auxPattern, .auxGamma, .auxGate, .eventsRead, .eventsHistory,
    (.flashWrite · true), (.flashErase · true), (.slotSelect · true true), .cfgRead, (.cfgWrite · true), .enumerateTimeout]

theorem test_wellFormed_mailbox : mailCommands.all (fun f => wellFormed (f 7) && !wellFormed (f 8)) = true := by decide +kernel

/-- A command with its operand one beyond the range, and with the last value in range. -/
def rangeChecks : List (Instr × Instr) := [
    (.rowSlotStart 1088, .rowSlotStart 1087), (.rowDelivered 1024 true true, .rowDelivered 1023 true true),
    (.rowDeadline 1024, .rowDeadline 1023), (.safetyLayerCheck 7, .safetyLayerCheck 6), (.fenceDirectWrite 64 0, .fenceDirectWrite 63 0),
    (.flipArm 7 0, .flipArm 6 0), (.bufferRetire 7, .bufferRetire 6), (.bandComplete 16, .bandComplete 15),
    (.pingpongBufferFree 16, .pingpongBufferFree 15), (.videoInputReady 16, .videoInputReady 15),
    (.engineFault 18 .memory, .engineFault 17 .memory), (.bandTimeout 16, .bandTimeout 15),
    (.selfTestComplete 18 true, .selfTestComplete 17 true), (.spiRead 0 256 0, .spiRead 0 255 0),
    (.spiWrite 0 256 0 [] 0, .spiWrite 0 255 0 [] 0), (.spiReread 256 0 0, .spiReread 255 0 0), (.extEvtEdge 16, .extEvtEdge 15),
    (.sessionIdleTimeout 65536, .sessionIdleTimeout 65535), (.auxFrameGrid 4, .auxFrameGrid 3),
    (.auxGatePeriodStart 6, .auxGatePeriodStart 5), (.clkswForced 6, .clkswForced 5), (.hardTrip 68, .hardTrip 67),
    (.mramRecordCommit 65536, .mramRecordCommit 65535), (.mramCopyRepair 65536, .mramCopyRepair 65535),
    (.faultDetect 66 .corr .seal, .faultDetect 65 .corr .seal), (.crcInit 4 0, .crcInit 3 0), (.crcData 4 0, .crcData 3 0),
    (.crcData8 4 0, .crcData8 3 0)]

theorem test_wellFormed_range : rangeChecks.all (fun x => !wellFormed x.1 && wellFormed x.2) = true := by decide +kernel

/-- A calibration reading, a CAN frame, a header and the outside of a boot, all in range. -/
def reading : UnitReading := ⟨1023, 1023, List.replicate 8 100, List.replicate 8 300, false⟩
def frame8 : CanFrame := ⟨false, false, 0x7FF, 8, List.replicate 8 0⟩
def lanes4 : List LaneEq := List.replicate 4 ⟨0, 0, 0, 0, 0⟩
def outside : BootEnv :=
  { straps := List.replicate 6 (.level 0), oscdly := .level 0, refclkGood := true, flashMode := 0, slotA := .pass 7, slotB := .pass 8,
    slotA2 := .fail 0, slotB2 := .fail 0, ifbNa := 12000, dramGood := true, dramGoodDefault := true, readings := [reading],
    badMaskRows := [1023], lens := some (List.replicate 128 0), margins := List.replicate 24 100 }

theorem test_wellFormed_shapes_allowed :
    [Instr.pwmPeriodStart 15 [⟨1023, 0, 0, false, 0, [], 0, 0⟩] [reading], .canSafeFrame frame8, .canDiagSegment ⟨true, true, 2 ^ 29 - 1, 15,
        List.replicate 64 0⟩, .strapReread (List.replicate 6 (.level 0)), .hourlyCheckpoint (List.replicate 64 (0, 0)),
      .delayMonitorReading (List.replicate 24 0), .trn2Received .a 2 [1, 2, 3, 4], .adaptationComplete .a lanes4,
      .fomMeasurement .a lanes4 [(3, 3, 0)], .packetHeaderArrival .a (header 15 1023 1023 1023 true true 15), .packetEnd .a [] 0 .eop,
      .spiFrameAbort 0 255 0 true 255, .headroomLoop 1048576, .lensRead 7 (some (List.replicate 128 0)),
      .fbPattern 7 [(1023, List.replicate 128 0)], .recalibrate 7 [reading] [1023], .thermalSample (List.replicate 68 0),
      .dramActivate 31 131071, .coldBoot outside].all wellFormed = true := by decide +kernel

theorem test_wellFormed_shapes_refused :
    [Instr.pwmPeriodStart 16 [] [], .pwmPeriodStart 0 [⟨1024, 0, 0, false, 0, [], 0, 0⟩] [], .pwmPeriodStart 0 [] [{ reading with col := 1024 }],
      .pwmPeriodStart 0 [] [{ reading with row := 1024 }], .pwmPeriodStart 0 [] [{ reading with units := [] }],
      .pwmPeriodStart 0 [] [{ reading with vf := [] }], .canSafeFrame { frame8 with id := 0x800 }, .canSafeFrame { frame8 with dlc := 16 },
      .canDiagSegment { frame8 with data := List.replicate 9 0 }, .canDiagSegment { frame8 with fd := true, data := List.replicate 65 0 },
      .canDiagSegment { frame8 with ide := true, id := 2 ^ 29 }, .strapReread [], .hourlyCheckpoint [], .delayMonitorReading [],
      .trn2Received .a 3 [1, 2, 3, 4], .trn2Received .a 0 [], .adaptationComplete .a [], .fomMeasurement .a [] [],
      .fomMeasurement .a lanes4 [(4, 1, 0)], .fomMeasurement .a lanes4 [(0, 0, 0)], .fomMeasurement .a lanes4 [(0, 4, 0)],
      .packetEnd .a [0] 0 .eop, .spiFrameAbort 0 256 0 true 0, .spiFrameAbort 0 1 0 true 2].all (fun i => !wellFormed i) = true := by
  decide +kernel

theorem test_wellFormed_shapes_refused_too :
    [Instr.packetHeaderArrival .a (header 16 0 0 0 false false 0), .packetHeaderArrival .a (header 0 1024 0 0 false false 0),
      .packetHeaderArrival .a (header 0 0 1024 0 false false 0), .packetHeaderArrival .a (header 0 0 0 0 false false 16),
      .packetHeaderArrival .a (header 0 0 0 1024 false false 0), .headroomLoop 1048577, .lensRead 8 none, .lensRead 0 (some []),
      .fbPattern 8 [], .fbPattern 0 [(1024, List.replicate 128 0)], .fbPattern 0 [(0, [])], .recalibrate 8 [] [],
      .recalibrate 0 [{ reading with col := 1024 }] [], .recalibrate 0 [] [1024], .thermalSample [], .dramActivate 32 0, .dramActivate 0 131072,
      .coldBoot { outside with straps := [] }, .coldBoot { outside with readings := [{ reading with row := 1024 }] },
      .coldBoot { outside with badMaskRows := [1024] }, .coldBoot { outside with margins := [] },
      .coldBoot { outside with lens := some [] }].all (fun i => !wellFormed i) = true := by decide +kernel

/-! ### Values of the spec's own examples -/

/-- R561: the check value of CRC-32C over the nine digits. -/
theorem test_crc32c : crc32c 0 [0x31, 0x32, 0x33, 0x34, 0x35, 0x36, 0x37, 0x38, 0x39] = 0xE3069283 := by decide +kernel

/-- R80 and R438: 103 °C over a knee of 95 °C, and 93 °C over a knee of 85 °C, at 2.5 % per °C. -/
theorem test_derate : derateBy 95 25 20 412 = 3276 ∧ derateBy 85 25 20 372 = 3276 ∧ derateBy 85 25 20 340 = 4096 := by decide +kernel

/-- R481: code 1,260 of a 10 kΩ thermistor with beta 3,435 is 47.50 °C. -/
theorem test_ntc : ntcT4 10000 3435 1260 = 190 := by decide +kernel

/-- R558: bit 1 of register 0xD0000, and bit 16 of register 0xE0018. -/
theorem test_alias : aliasAddr 0xD0000 1 = 0x26800004 ∧ aliasOf 0x27000C40 = some (0xE0018, 16) ∧ aliasOf 0x1FFFFFFC = none := by
  decide +kernel

/-! ### The queue, the frames and the invariants -/

theorem test_decode_none : decodeTableWord 32 0x12345678 = none := rfl

def goesOn (o : Host.Outcome State Fault Refusal) : Bool := match o with
  | .next _ => true
  | _ => false

theorem next_of_goesOn {o : Host.Outcome State Fault Refusal} (h : goesOn o = true) : ∃ t, o = .next t := by
  cases o with
  | next t => exact ⟨t, rfl⟩
  | _ => cases h

theorem test_witness_StepRunsTheFrontCommand :
    ∃ (c : Instr) (rest : List Instr) (s : State), s.pending = c :: rest ∧ rest ≠ [] :=
  ⟨.publishTimer, [.ltMark], { up with pending := [.publishTimer, .ltMark] }, rfl, by decide⟩

theorem test_witness_StepKeepsMemoriesOk : ∃ s t, MemoryOk s ∧ SlotsOk s ∧ step s = .next t := by
  obtain ⟨t, h⟩ := next_of_goesOn (o := step up) (by decide +kernel)
  exact ⟨up, t, by unfold MemoryOk; decide +kernel, by unfold SlotsOk; decide +kernel, h⟩

theorem test_witness_StepKeepsBounds : ∃ s t, EventsOk s ∧ MailOk s ∧ step s = .next t := by
  obtain ⟨t, h⟩ := next_of_goesOn (o := step up) (by decide +kernel)
  exact ⟨up, t, by unfold EventsOk; decide +kernel, by unfold MailOk; decide +kernel, h⟩

theorem test_witness_StepKeepsShape : ∃ s t, ShapeOk s ∧ step s = .next t := by
  obtain ⟨t, h⟩ := next_of_goesOn (o := step up) (by decide +kernel)
  exact ⟨up, t, by unfold ShapeOk; decide +kernel, h⟩

/-- One command of each frame statement goes on. -/
theorem test_witness_Frames : ∀ x ∈ ([(1, .scanCommitBit), (2, .batchCommit), (3, .nopSleep .a), (4, .doorbell 1), (5, .extEvtEdge 3),
    (6, .faultGrant), (7, .registerWrite 0x10 5)] : List (Nat × Instr)),
    ∃ t, (mayChange up x.2).chapter = x.1 ∧ exec x.2 up = .next t := by
  have h : ∀ x ∈ ([(1, .scanCommitBit), (2, .batchCommit), (3, .nopSleep .a), (4, .doorbell 1), (5, .extEvtEdge 3),
      (6, .faultGrant), (7, .registerWrite 0x10 5)] : List (Nat × Instr)),
      ((mayChange up x.2).chapter == x.1 && goesOn (exec x.2 up)) = true := by decide +kernel
  intro x hx
  have h1 := h x hx
  rw [Bool.and_eq_true, beq_iff_eq] at h1
  obtain ⟨t, ht⟩ := next_of_goesOn h1.2
  exact ⟨t, h1.1, ht⟩

/-- A whole frame within the limits becomes due to swap. -/
theorem test_witness_OnlyPassingFramesSwap : ∃ s t, exec (.frameStart 0) s = .next t
    ∧ ∃ g < 16, (s.group g).swapDue = false ∧ (t.group g).swapDue = true := by
  have h : (goesOn (exec (.frameStart 0) fullFrame) && !(fullFrame.group 3).swapDue
      && ((after (.frameStart 0) fullFrame).group 3).swapDue) = true := by decide +kernel
  rw [Bool.and_eq_true, Bool.and_eq_true, Bool.not_eq_true'] at h
  obtain ⟨t, ht⟩ := next_of_goesOn h.1.1
  have ha : after (.frameStart 0) fullFrame = t := by unfold after; rw [ht]
  exact ⟨fullFrame, t, ht, 3, by decide, h.1.2, ha ▸ h.2⟩

/-- SET_LT with one byte has the wrong length, and mailbox 1 runs nothing. -/
theorem test_witness_CommandLengths : ∃ s mb p, MailOk s ∧ Runs s mb 0x0105 p ∧ p.length ≠ 8 ∧ runs s 1 0x0105 = false :=
  ⟨up.asked 0 0x0105 [1], 0, [1], by unfold MailOk; decide +kernel, by unfold Runs; decide +kernel, by decide +kernel, by decide +kernel⟩

/-! ### Witnesses of the hypotheses -/

theorem test_witness_IdleStepIsOneTick :
    (∃ (s : State), s.pending = [])
    ∧ (∃ (s : State), s.pending = [] ∧ s.power ≠ 4 ∧ clocksRun s = true ∧ s.clk.everLocked = true ∧ s.net.slew = 0) :=
  ⟨⟨up, by decide +kernel⟩,
    ⟨up, by decide +kernel⟩⟩

theorem test_witness_EnablingTheRaster :
    (∃ (s : State), s.flag SCAN.CTRL.EN = false)
    ∧ (∃ (s : State), s.flag SCAN.CTRL.EN = true)
    ∧ (∃ (s : State), s.flag SCAN.COMMIT_STATUS.COMMIT_PEND = false)
    ∧ (∃ (s : State), s.flag SCAN.COMMIT_STATUS.COMMIT_PEND = true) :=
  ⟨⟨up, by decide +kernel⟩,
    ⟨scanning, by decide +kernel⟩,
    ⟨scanning.having [(SCAN.FRAME_NUM.FRAME_NUM, 65535)], by decide +kernel⟩,
    ⟨scanning.having [(SCAN.COMMIT_STATUS.COMMIT_PEND, 1)], by decide +kernel⟩⟩

theorem test_witness_FrameStarts :
    (∃ (s : State), s.scan.running = true ∧ clocksRun s = true)
    ∧ (∃ (s : State), s.flag SCAN.CTRL.EN = true ∧ s.scan.running = false ∧ s.scan.startAt ≠ none ∧ clocksRun s = true) :=
  ⟨⟨scanning, by decide +kernel⟩,
    ⟨{ scanning with scan := { scanning.scan with running := false, loading := false, startAt := some 1000000000 } }, by decide +kernel⟩⟩

theorem test_witness_RowTiming :
    (∃ (s : State) (k : Nat), k = 1087 ∧ s.scan.running = true ∧ k < 1088 ∧ clocksRun s = true)
    ∧ (∃ (s : State) (k : Nat), k = 64 ∧ s.scan.running = true ∧ k < 1088 ∧ clocksRun s = true)
    ∧ (∃ (s : State) (r : Nat), clocksRun s = true ∧ s.scan.running = true ∧ s.scan.loading = true ∧ s.scan.nextRow = r ∧ r < 1024 ∧ s.flag GAL.CTRL.EN = true ∧ s.scan.galStopped = false ∧ softSupplied s r = true ∧ (rowNeedsDram s r = false ∨ s.flag DDRC.STATUS.READY = true) ∧ s.injWaits 16 = false)
    ∧ (∃ (s : State) (r : Nat), clocksRun s = true ∧ s.scan.running = true ∧ s.scan.loading = true ∧ s.scan.nextRow = r ∧ r < 1024 ∧ s.flag GAL.CTRL.EN = true ∧ s.scan.galStopped = false ∧ softSupplied s r = true ∧ (rowNeedsDram s r = false ∨ s.flag DDRC.STATUS.READY = true) ∧ s.injWaits 16 = false)
    ∧ (∃ (s : State) (r : Nat), r = 0 ∧ s.scan.running = true ∧ s.scan.loading = true ∧ s.scan.nextRow = r ∧ r < 1024 ∧ clocksRun s = true)
    ∧ (∃ (s : State) (r : Nat), r = 1023 ∧ s.scan.running = true ∧ s.scan.loading = true ∧ s.scan.nextRow = r ∧ r < 1024 ∧ clocksRun s = true) :=
  ⟨⟨scanning, 1087, rfl, by decide +kernel⟩,
    ⟨scanning, 64, rfl, by decide +kernel⟩,
    ⟨(scanning.having [(DDRC.STATUS.READY,1)]), 0, by decide +kernel⟩,
    ⟨(((scanning.having [(DDRC.STATUS.READY,1)]).grouped 15 ⟨.pwm, false, true, true, false, false⟩).loadedTo 1023), 1023, by decide +kernel⟩,
    ⟨scanning, 0, rfl, by decide +kernel⟩,
    ⟨scanning.loadedTo 1023, 1023, rfl, by decide +kernel⟩⟩

theorem test_witness_GroupPeriodStart :
    (∃ (s : State) (g : Nat), g = 0 ∧ g < 16 ∧ s.scan.groups.length = 16 ∧ clocksRun s = true)
    ∧ (∃ (s : State) (g : Nat), g = 15 ∧ g < 16 ∧ s.scan.groups.length = 16 ∧ clocksRun s = true)
    ∧ (∃ (s : State) (g : Nat), g = 15 ∧ g < 16 ∧ s.scan.groups.length = 16 ∧ clocksRun s = true) :=
  ⟨⟨scanning.grouped 0 ⟨.pwm, false, true, false, false, true⟩, 0, rfl, by decide +kernel⟩,
    ⟨scanning.grouped 15 ⟨.dark, false, false, true, false, false⟩, 15, rfl, by decide +kernel⟩,
    ⟨scanning.grouped 15 ⟨.pwm, true, true, true, false, false⟩, 15, rfl, by decide +kernel⟩⟩

theorem test_witness_FencesFlipsAndLuts :
    (∃ (k : Nat), k = 63 ∧ k < 64)
    ∧ (∃ (n : Nat), n = 6 ∧ n < 7) :=
  ⟨⟨63, rfl, by decide +kernel⟩,
    ⟨6, rfl, by decide +kernel⟩⟩

theorem test_witness_SafetyLayersAndKiln :
    (∃ (s : State) (n : Nat), n < 7 ∧ s.scan.loading = true ∧ layerUsed s n = true ∧ s.actFlag (GAL.L.CTRL.SAFETY n) = true ∧ bit s.gal.checked n = false ∧ s.injWaits 17 = false)
    ∧ (∃ (s : State) (n : Nat), n < 7 ∧ s.scan.loading = true ∧ layerUsed s n = true ∧ s.actFlag (GAL.L.CTRL.SAFETY n) = true ∧ bit s.gal.checked n = false ∧ s.injWaits 17 = false)
    ∧ (∃ (s : State), s.flag GAL.KILN_STATUS.BUILDING = true)
    ∧ (∃ (s : State) (n : Nat) (k : Nat), n = 6 ∧ k = 63 ∧ s.gal.retireDue.find? (fun p => p.1 == n) = some (n, k) ∧ k < 64)
    ∧ (∃ (s : State) (n : Nat) (k : Nat), n = 0 ∧ k = 0 ∧ s.gal.retireDue.find? (fun p => p.1 == n) = some (n, k) ∧ k < 64) :=
  ⟨⟨(scanning.acting [(GAL.L.CTRL.SAFETY 0,1),(GAL.L.CTRL.EN 0,1)]), 0, by decide +kernel⟩,
    ⟨(scanning.acting [(GAL.L.CTRL.SAFETY 6,1),(GAL.L.CTRL.EN 6,1)]).having [(GAL.L.CRC_EXP.CRC_EXP 6, 1)], 6, by decide +kernel⟩,
    ⟨scanning.having [(GAL.KILN_STATUS.BUILDING,1)], by decide +kernel⟩,
    ⟨{ up with gal := { Gal.reset with retireDue := [(6,63),(0,0)] } }, 6, 63, rfl, rfl, by decide +kernel⟩,
    ⟨{ up with gal := { Gal.reset with retireDue := [(6,63),(0,0)] } }, 0, 0, rfl, rfl, by decide +kernel⟩⟩

theorem test_witness_PublishAndBlankPasses :
    (∃ (s : State), SlotsOk s ∧ s.scan.passOn = false ∧ timerRuns s = true)
    ∧ (∃ (s : State), SlotsOk s ∧ s.scan.passOn = false ∧ timerRuns s = true)
    ∧ (∃ (s : State), s.scan.passOn = true)
    ∧ (∃ (s : State), s.scan.running = true ∧ s.mode ≠ 7 ∧ clocksRun s = true)
    ∧ (∃ (s : State), s.scan.passOn = true ∧ s.scan.passRow < 1024 ∧ clocksRun s = true ∧ s.injWaits 13 = false ∧ s.injWaits 14 = false)
    ∧ (∃ (s : State), s.scan.passOn = true ∧ s.scan.passRow < 1024 ∧ clocksRun s = true ∧ s.injWaits 13 = false ∧ s.injWaits 14 = false)
    ∧ (∃ (s : State), s.scan.passOn = true ∧ s.scan.passRow < 1024 ∧ clocksRun s = true ∧ s.injWaits 13 = false ∧ s.injWaits 14 = false) :=
  ⟨⟨stagedSlots true, by unfold SlotsOk; decide +kernel⟩,
    ⟨stagedSlots false, by unfold SlotsOk; decide +kernel⟩,
    ⟨{ scanning with scan := { scanning.scan with passOn := true } }, by decide +kernel⟩,
    ⟨scanning, by decide +kernel⟩,
    ⟨{ scanning with scan := { scanning.scan with passOn := true, passRow := 0 }, shd := { (stagedSlots true).shd with blankReady := some (0, List.replicate 1024 1) } }, by decide +kernel⟩,
    ⟨{ scanning with scan := { scanning.scan with passOn := true, passRow := 1023 }, shd := { (stagedSlots true).shd with blankReady := none } }, by decide +kernel⟩,
    ⟨{ scanning with scan := { scanning.scan with passOn := true, passRow := 7 }, shd := { (stagedSlots true).shd with blankReady := none } }, by decide +kernel⟩⟩

theorem test_witness_BandCompletion :
    (∃ (s : State) (b : Nat) (r : RunSet) (i : Nat) (e : RunEntry), i = 0 ∧ s.flag BE.CTRL.EN = true ∧ s.eng.running = some r ∧ currentEntry r b = some (i, e) ∧ mayWrite s e b = true)
    ∧ (∃ (s : State) (b : Nat) (r : RunSet) (i : Nat) (e : RunEntry), i = 0 ∧ s.flag BE.CTRL.EN = true ∧ s.eng.running = some r ∧ currentEntry r b = some (i, e) ∧ mayWrite s e b = true) :=
  ⟨⟨rendering (block 2 0 0 63 4096 128 8 3 62) 3 3, 0, setOf (block 2 0 0 63 4096 128 8 3 62) 3 3, 0, entryOf (block 2 0 0 63 4096 128 8 3 62) 3 3, rfl, by decide +kernel⟩,
    ⟨rendering (block 4 255 4 0 4096 64 40 2 64) 2 2, 1, setOf (block 4 255 4 0 4096 64 40 2 64) 2 2, 0, entryOf (block 4 255 4 0 4096 64 40 2 64) 2 2, rfl, by decide +kernel⟩⟩

theorem test_witness_EngineFaults :
    (∃ (s : State) (n : Nat), n < 18 ∧ s.flag BE.CTRL.EN = true ∧ isActive s n = true)
    ∧ (∃ (s : State) (n : Nat), n < 18 ∧ s.flag BE.CTRL.EN = true ∧ isActive s n = false ∧ isSpare s n = true)
    ∧ (∃ (s : State) (b : Nat) (r : RunSet), b = 0 ∧ s.flag BE.CTRL.EN = true ∧ s.eng.running = some r ∧ (currentEntry r b).isSome = true ∧ s.reg (BE.BAND_MAP.ENGINE b) < 18 ∧ isActive s (s.reg (BE.BAND_MAP.ENGINE b)) = true)
    ∧ (∃ (s : State) (n : Nat), n < 18 ∧ bit s.eng.testing n = true)
    ∧ (∃ (s : State) (n : Nat), n < 18 ∧ bit s.eng.testing n = true ∧ isActive s n = false ∧ isSpare s n = true) :=
  ⟨⟨(rendering (block 2 0 0 63 4096 128 8 3 62) 1 1).having [(BE.ACTIVE.ENG, 0x3FFFF)], 17, by decide +kernel⟩,
    ⟨(rendering (block 2 0 0 63 4096 128 8 3 62) 1 1).having [(BE.ACTIVE.ENG, 0x7F),(BE.SPARE.ENG,0x20000)], 17, by decide +kernel⟩,
    ⟨(rendering (block 2 0 0 63 4096 128 8 3 62) 1 1).having [(BE.ACTIVE.ENG, 0x1FF),(BE.BAND_MAP.ENGINE 0,8)], 0, setOf (block 2 0 0 63 4096 128 8 3 62) 1 1, rfl, by decide +kernel⟩,
    ⟨{ up with eng := { Eng.reset with testing := 0x20001 } }, 17, by decide +kernel⟩,
    ⟨State.having { up with eng := { Eng.reset with testing := 0x20001 } } [(BE.ACTIVE.ENG,0xFF),(BE.SPARE.ENG,0x20000)], 17, by decide +kernel⟩⟩

theorem test_witness_EngineEvents :
    (∃ (s : State) (b : Nat) (r : RunSet) (i : Nat) (e : RunEntry), i = 0 ∧ s.eng.running = some r ∧ currentEntry r b = some (i, e) ∧ s.flag BE.CTRL.EN = true ∧ blkFlag e.block 3 = true ∧ bufferFree s e = true ∧ inputReady s e = true)
    ∧ (∃ (s : State) (b : Nat) (r : RunSet) (i : Nat) (e : RunEntry), i = 0 ∧ s.eng.running = some r ∧ currentEntry r b = some (i, e) ∧ s.flag BE.CTRL.EN = true ∧ blkKernel e.block = 4 ∧ bufferFree s e = true ∧ fenceReached s (leAt e.block 0x2E 1 % 64) (leAt e.block 0x30 4) = true)
    ∧ (∃ (s : State), s.eng.spares < s.eng.orphans.length)
    ∧ (∃ (s : State), s.flag BE.CTRL.EN = true ∧ s.flag BE.CTRL.ROTATE_EN = true)
    ∧ (∃ (s : State), s.eng.stepWatch = true ∧ s.reg BE.LOAD.LOAD ≤ 45) :=
  ⟨⟨rendering (block 2 0 8 63 4096 128 8 3 62) 3 0, 0, setOf (block 2 0 8 63 4096 128 8 3 62) 3 0, 0, entryOf (block 2 0 8 63 4096 128 8 3 62) 3 0, rfl, by decide +kernel⟩,
    ⟨rendering (block 4 255 8 63 4096 128 8 3 62) 2 1, 1, setOf (block 4 255 8 63 4096 128 8 3 62) 2 1, 0, entryOf (block 4 255 8 63 4096 128 8 3 62) 2 1, rfl, by decide +kernel⟩,
    ⟨{ up with eng := { Eng.reset with orphans := [3, 4], spares := 1 } }, by decide +kernel⟩,
    ⟨up.having [(BE.CTRL.EN,1),(BE.CTRL.ROTATE_EN,1)], by decide +kernel⟩,
    ⟨State.having { up with eng := { Eng.reset with stepWatch := true } } [(BE.LOAD.LOAD, 45)], by decide +kernel⟩⟩

theorem test_witness_SafeRecords :
    (∃ (s : State) (p : Port) (pkt : Packet) (rx : Nat), p = .a ∧ rx = 9 ∧ (s.port (portNo p)).pkt = some (pkt, rx) ∧ pkt.hdr.type = 3)
    ∧ (∃ (s : State) (p : Port) (pkt : Packet) (rx : Nat), p = .b ∧ rx = 9 ∧ (s.port (portNo p)).pkt = some (pkt, rx) ∧ pkt.hdr.type = 3)
    ∧ (∃ (s : State) (f : CanFrame), canOn s = true ∧ canMatches f (s.flag CAN.SAFE_ID.IDE) (s.reg CAN.SAFE_ID.ID) = true)
    ∧ (∃ (s : State) (f : CanFrame), canOn s = true ∧ canMatches f (s.flag CAN.SAFE_ID.IDE) (s.reg CAN.SAFE_ID.ID) = true)
    ∧ (∃ (s : State) (f : CanFrame) (o : SafeRec), canOn s = true ∧ canMatches f (s.flag CAN.SAFE_ID.IDE) (s.reg CAN.SAFE_ID.ID) = true ∧ f.fd = true ∧ f.dlc = 13 ∧ safeAccepted s true f.data = true ∧ s.guard.recA.find? (fun x => x.seq == leAt f.data 0 4) = some o)
    ∧ (∃ (s : State) (f : CanFrame) (o : SafeRec), canOn s = true ∧ canMatches f (s.flag CAN.SAFE_ID.IDE) (s.reg CAN.SAFE_ID.ID) = true ∧ f.fd = true ∧ f.dlc = 13 ∧ safeAccepted s true f.data = true ∧ s.guard.recA.find? (fun x => x.seq == leAt f.data 0 4) = some o) :=
  ⟨⟨keyed.holding 0 (packet 3 1023 5 0 (safeBytes 5 999999999 4 0xFF 0)) 9, .a, packet 3 1023 5 0 (safeBytes 5 999999999 4 0xFF 0), 9, rfl, rfl, by decide +kernel⟩,
    ⟨keyed.holding 1 (packet 3 1023 5 0 (safeBytes 5 999999999 5 0xFF 0)) 9, .b, packet 3 1023 5 0 (safeBytes 5 999999999 5 0xFF 0), 9, rfl, rfl, by decide +kernel⟩,
    ⟨keyed, safeFrame (safeBytes 5 999999999 4 0xFF 0), by decide +kernel⟩,
    ⟨keyed, { safeFrame [] with dlc := 12 }, by decide +kernel⟩,
    ⟨{ keyed with guard := { keyed.guard with recA := [recAt (safeBytes 5 999999999 4 0xFF 0) 996000000] } }, safeFrame (safeBytes 5 999999999 4 0xFF 0), recAt (safeBytes 5 999999999 4 0xFF 0) 996000000, by decide +kernel⟩,
    ⟨{ keyed with guard := { keyed.guard with recA := [recAt (safeBytes 5 999999999 4 0xFF 0) 995999999] } }, safeFrame (safeBytes 5 999999999 4 0xFF 0), recAt (safeBytes 5 999999999 4 0xFF 0) 995999999, by decide +kernel⟩⟩

theorem test_witness_PathStates :
    (∃ (s : State), (s.guard.recA ≠ [] ∨ s.guard.recB ≠ []))
    ∧ (∃ (s : State), (s.guard.recA ≠ [] ∨ s.guard.recB ≠ []))
    ∧ (∃ (s : State), s.reg SAFE.STATUS.PATH_STATE = 2)
    ∧ (∃ (s : State) (r : SafeRec), s.scan.passOn = false ∧ timerRuns s = true ∧ s.guard.pair = some r)
    ∧ (∃ (s : State) (r : SafeRec), s.scan.passOn = false ∧ timerRuns s = true ∧ s.guard.pair = some r)
    ∧ (∃ (s : State) (r : SafeRec), s.scan.passOn = false ∧ timerRuns s = true ∧ s.guard.pair = some r) :=
  ⟨⟨{ keyed with guard := { keyed.guard with recA := [recAt (safeBytes 5 999999999 4 0xFF 0) 5] } }, by decide +kernel⟩,
    ⟨State.having { keyed with guard := { keyed.guard with recB := [recAt (safeBytes 5 999999999 4 0xFF 0) 5] } } [(SAFE.STATUS.PATH_STATE, 2)], by decide +kernel⟩,
    ⟨keyed.having [(SAFE.STATUS.PATH_STATE, 2)], by decide +kernel⟩,
    ⟨State.having { keyed with guard := { keyed.guard with pair := some (recAt (safeBytes 5 999999999 4 0xFF 0) 5), withdrawnPairs := 0, mergedFrames := 2 } } [(SAFE.STATUS.PATH_STATE, 0)], recAt (safeBytes 5 999999999 4 0xFF 0) 5, by decide +kernel⟩,
    ⟨State.having { keyed with guard := { keyed.guard with pair := some (recAt (safeBytes 5 999999999 4 0xFF 0) 5), withdrawnPairs := 1, mergedFrames := 2 } } [(SAFE.STATUS.PATH_STATE, 0)], recAt (safeBytes 5 999999999 4 0xFF 0) 5, by decide +kernel⟩,
    ⟨State.having { keyed with guard := { keyed.guard with pair := some (recAt (safeBytes 5 0 1 1 9) 5), withdrawnPairs := 0, mergedFrames := 2 } } [(SAFE.STATUS.PATH_STATE, 2)], recAt (safeBytes 5 0 1 1 9) 5, by decide +kernel⟩⟩

theorem test_witness_FallbackCausesAndStraps :
    (∃ (s : State), s.pins.lowbeam = false ∧ s.thm.trip = false)
    ∧ (∃ (s : State), s.pins.lowbeam = false ∧ s.thm.trip = true)
    ∧ (∃ (s : State), s.pins.lowbeam = true)
    ∧ (∃ (c : Instr), (c = Instr.guardWatchdogExpiry ∨ c = Instr.guardOscFail))
    ∧ (∃ (c : Instr), (c = Instr.guardWatchdogExpiry ∨ c = Instr.guardOscFail))
    ∧ (∃ (s : State) (pads : List Strap), strapWord pads = strapWord s.guard.straps)
    ∧ (∃ (s : State) (pads : List Strap), strapWord pads ≠ strapWord s.guard.straps ∧ s.guard.limits.broken = false ∧ s.flag SCAN.CTRL.EN = false)
    ∧ (∃ (s : State) (pads : List Strap), strapWord pads ≠ strapWord s.guard.straps ∧ s.guard.limits.broken = false ∧ s.flag SCAN.CTRL.EN = true)
    ∧ (∃ (s : State) (pads : List Strap), strapWord pads ≠ strapWord s.guard.straps ∧ s.guard.limits.broken = true) :=
  ⟨⟨{ up with pins := { up.pins with lowbeam := false }, thm := { Thm.reset with trip := false } }, by decide +kernel⟩,
    ⟨{ up with pins := { up.pins with lowbeam := false }, thm := { Thm.reset with trip := true } }, by decide +kernel⟩,
    ⟨{ up with pins := { up.pins with lowbeam := true }, thm := { Thm.reset with trip := false } }, by decide +kernel⟩,
    ⟨.guardWatchdogExpiry, by decide +kernel⟩,
    ⟨.guardOscFail, by decide +kernel⟩,
    ⟨{ up with guard := { Guard.reset with limits := { Limits.rom with broken := false, noSlot := false } } }, List.replicate 6 (.level 0), by decide +kernel⟩,
    ⟨{ up with guard := { Guard.reset with limits := { Limits.rom with broken := false, noSlot := false } } }, [.level 3, .level 2, .level 1, .level 0, .level 0, .level 0], by decide +kernel⟩,
    ⟨State.having { up with guard := { Guard.reset with limits := { Limits.rom with broken := false, noSlot := false } } } [(SCAN.CTRL.EN, 1)], [.level 3, .level 2, .level 1, .level 0, .level 0, .level 0], by decide +kernel⟩,
    ⟨up, [.level 3, .level 2, .level 1, .level 0, .level 0, .level 0], by decide +kernel⟩⟩

theorem test_witness_GenerationsAndMap :
    (∃ (s : State), supUp s = true ∧ s.diag.uncommitted ≠ [] ∧ mayCommit s 0x11 = true) :=
  ⟨{ up with diag := { Diag.reset with map := [⟨5, 6, 1, false, false⟩], uncommitted := [⟨5, 6, 1, false, false⟩] } }, by decide +kernel⟩

theorem test_witness_HourlyCheckpoint :
    (∃ (s : State), supUp s = true)
    ∧ (∃ (s : State), supUp s = true) :=
  ⟨⟨up, by decide +kernel⟩,
    ⟨State.having up [(SAFE.FB_CAUSE.SOFT_STOP, 1)], by decide +kernel⟩⟩

theorem test_witness_DelayMonitors :
    (∃ (margins : List Nat), margins.length = 24 ∧ (∀ m ∈ margins, m < 65536))
    ∧ (∃ (margins : List Nat), margins.length = 24 ∧ (∀ m ∈ margins, m < 65536))
    ∧ (∃ (margins : List Nat), margins.length = 24 ∧ (∀ m ∈ margins, m < 65536)) :=
  ⟨⟨List.replicate 23 14 ++ [9], by decide +kernel⟩,
    ⟨List.replicate 23 65535 ++ [65530], by decide +kernel⟩,
    ⟨List.replicate 23 5 ++ [0], by decide +kernel⟩⟩

theorem test_witness_LinkTraining :
    (∃ (s : State) (p : Port), p = .a ∧ ShapeOk s ∧ s.flag (TX.CTRL.EN (portNo p)) = false)
    ∧ (∃ (s : State) (p : Port), p = .b ∧ ShapeOk s ∧ s.flag (TX.CTRL.EN (portNo p)) = false)
    ∧ (∃ (s : State) (p : Port) (i : Trn1Info) (r : Nat), p = .b ∧ ShapeOk s ∧ s.reg (TX.STATUS.STATE (portNo p)) = 2 ∧ (s.port (portNo p)).phase = 1 ∧ r ≤ rateMax s (portNo p) ∧ bit i.rates.toNat r = true ∧ (∀ q, r < q → q ≤ rateMax s (portNo p) → bit i.rates.toNat q = false))
    ∧ (∃ (s : State) (p : Port) (i : Trn1Info) (r : Nat), p = .a ∧ ShapeOk s ∧ s.reg (TX.STATUS.STATE (portNo p)) = 2 ∧ (s.port (portNo p)).phase = 1 ∧ r ≤ rateMax s (portNo p) ∧ bit i.rates.toNat r = true ∧ (∀ q, r < q → q ≤ rateMax s (portNo p) → bit i.rates.toNat q = false))
    ∧ (∃ (s : State) (p : Port), p = .a ∧ ShapeOk s ∧ s.reg (TX.STATUS.STATE (portNo p)) = 2)
    ∧ (∃ (s : State) (p : Port), p = .b ∧ ShapeOk s ∧ s.reg (TX.STATUS.STATE (portNo p)) = 2)
    ∧ (∃ (s : State) (p : Port), p = .a ∧ ShapeOk s ∧ s.reg (TX.STATUS.STATE (portNo p)) = 2)
    ∧ (∃ (s : State) (p : Port), p = .b ∧ ShapeOk s ∧ s.reg (TX.STATUS.STATE (portNo p)) = 2 ∧ (s.port (portNo p)).phase = 4)
    ∧ (∃ (s : State) (p : Port), p = .a ∧ ShapeOk s ∧ s.reg (TX.STATUS.STATE (portNo p)) = 2 ∧ (s.port (portNo p)).phase = 4)
    ∧ (∃ (s : State) (p : Port), p = .b ∧ ShapeOk s ∧ s.reg (TX.STATUS.STATE (portNo p)) = 2 ∧ (s.port (portNo p)).phase = 5)
    ∧ (∃ (s : State) (p : Port), p = .a ∧ ShapeOk s ∧ s.reg (TX.STATUS.STATE (portNo p)) = 2 ∧ (s.port (portNo p)).phase = 5)
    ∧ (∃ (s : State) (p : Port), p = .b ∧ ShapeOk s ∧ s.reg (TX.STATUS.STATE (portNo p)) = 2 ∧ (s.port (portNo p)).phase ≠ 7)
    ∧ (∃ (s : State) (p : Port), p = .a ∧ ShapeOk s ∧ s.reg (TX.STATUS.STATE (portNo p)) = 2 ∧ (s.port (portNo p)).phase ≠ 7)
    ∧ (∃ (s : State) (p : Port), p = .b ∧ ShapeOk s ∧ s.reg (TX.STATUS.STATE (portNo p)) = 2 ∧ (s.port (portNo p)).phase = 7)
    ∧ (∃ (s : State) (p : Port), p = .a ∧ ShapeOk s ∧ s.reg (TX.STATUS.STATE (portNo p)) = 2 ∧ (s.port (portNo p)).phase = 7) :=
  ⟨⟨up, .a, rfl, by unfold ShapeOk; decide +kernel⟩,
    ⟨up.having [(TXLA.NODE.ROLE, 3)], .b, rfl, by unfold ShapeOk; decide +kernel⟩,
    ⟨training 1 1, .b, ⟨7, 40, 0xE4, 5⟩, rateMax (training 1 1) 1, rfl, by refine ⟨by unfold ShapeOk; decide +kernel, by decide +kernel, by decide +kernel, by decide +kernel, by decide +kernel, fun q h1 h2 => absurd h2 (Nat.not_le_of_lt h1)⟩⟩,
    ⟨training 0 1, .a, ⟨1, 40, 0xE4, 5⟩, 0, rfl, by exact ⟨by unfold ShapeOk; decide +kernel, by decide +kernel, by decide +kernel, by decide +kernel, by decide +kernel, fun q h1 h2 => low_rate q h1 h2⟩⟩,
    ⟨training 0 3, .a, rfl, by unfold ShapeOk; decide +kernel⟩,
    ⟨training 1 6, .b, rfl, by unfold ShapeOk; decide +kernel⟩,
    ⟨training 0 6, .a, rfl, by unfold ShapeOk; decide +kernel⟩,
    ⟨training 1 4, .b, rfl, by unfold ShapeOk; decide +kernel⟩,
    ⟨training 0 4, .a, rfl, by unfold ShapeOk; decide +kernel⟩,
    ⟨training 1 5, .b, rfl, by unfold ShapeOk; decide +kernel⟩,
    ⟨training 0 5, .a, rfl, by unfold ShapeOk; decide +kernel⟩,
    ⟨training 1 1, .b, rfl, by unfold ShapeOk; decide +kernel⟩,
    ⟨training 0 6, .a, rfl, by unfold ShapeOk; decide +kernel⟩,
    ⟨training 1 7, .b, rfl, by unfold ShapeOk; decide +kernel⟩,
    ⟨training 0 7, .a, rfl, by unfold ShapeOk; decide +kernel⟩⟩

theorem test_witness_LinkLoss :
    (∃ (s : State) (p : Port) (c : Instr), p = .a ∧ (c = Instr.bitLockLoss p ∨ c = Instr.retrain p) ∧ ShapeOk s ∧ portUp s (portNo p) = true)
    ∧ (∃ (s : State) (p : Port) (c : Instr), p = .b ∧ (c = Instr.bitLockLoss p ∨ c = Instr.retrain p) ∧ ShapeOk s ∧ portUp s (portNo p) = true)
    ∧ (∃ (s : State) (p : Port), p = .a ∧ ShapeOk s ∧ portUp s (portNo p) = true)
    ∧ (∃ (s : State) (p : Port), p = .b ∧ ShapeOk s ∧ portUp s (portNo p) = true)
    ∧ (∃ (s : State), ShapeOk s)
    ∧ (∃ (s : State) (p : Port), p = .a ∧ ShapeOk s ∧ portUp s (portNo p) = true ∧ s.flag (TX.CTRL.EQ_FREEZE (portNo p)) = false)
    ∧ (∃ (s : State) (p : Port), p = .b ∧ ShapeOk s ∧ portUp s (portNo p) = true ∧ s.flag (TX.CTRL.EQ_FREEZE (portNo p)) = false)
    ∧ (∃ (s : State) (p : Port), p = .b ∧ ShapeOk s ∧ s.flag (TX.CTRL.EN (portNo p)) = true)
    ∧ (∃ (s : State) (p : Port), p = .a ∧ ShapeOk s ∧ s.flag (TX.CTRL.EN (portNo p)) = true)
    ∧ (∃ (s : State) (p : Port) (c : Instr), p = .a ∧ ShapeOk s ∧ ((c = Instr.quarantineTimeout p ∧ s.reg (TX.STATUS.STATE (portNo p)) = 4) ∨ (c = Instr.quarantineRelease p ∧ s.reg (TX.STATUS.STATE (portNo p)) = 5)))
    ∧ (∃ (s : State) (p : Port) (c : Instr), p = .b ∧ ShapeOk s ∧ ((c = Instr.quarantineTimeout p ∧ s.reg (TX.STATUS.STATE (portNo p)) = 4) ∨ (c = Instr.quarantineRelease p ∧ s.reg (TX.STATUS.STATE (portNo p)) = 5))) :=
  ⟨⟨linked, .a, .bitLockLoss .a, rfl, by unfold ShapeOk; decide +kernel⟩,
    ⟨linked.setPort 1 (fun y => { y with sleepRx := true }), .b, .retrain .b, rfl, by unfold ShapeOk; decide +kernel⟩,
    ⟨linked, .a, rfl, by unfold ShapeOk; decide +kernel⟩,
    ⟨linked.setPort 1 (fun y => { y with sleepRx := true }), .b, rfl, by unfold ShapeOk; decide +kernel⟩,
    ⟨linked, by unfold ShapeOk; decide +kernel⟩,
    ⟨linked.setPort 0 (fun y => { y with downRuns := [1, 0, 0, 0] }), .a, rfl, by unfold ShapeOk; decide +kernel⟩,
    ⟨linked.setPort 1 (fun y => { y with warnRuns := [2, 0, 0, 0] }), .b, rfl, by unfold ShapeOk; decide +kernel⟩,
    ⟨linked, .b, rfl, by unfold ShapeOk; decide +kernel⟩,
    ⟨training 0 1, .a, rfl, by unfold ShapeOk; decide +kernel⟩,
    ⟨up.having [(TX.CTRL.EN 0, 1), (TX.STATUS.STATE 0, 4)], .a, .quarantineTimeout .a, rfl, by unfold ShapeOk; decide +kernel⟩,
    ⟨up.having [(TX.CTRL.EN 1, 1), (TX.STATUS.STATE 1, 5)], .b, .quarantineRelease .b, rfl, by unfold ShapeOk; decide +kernel⟩⟩

theorem test_witness_Packets :
    (∃ (s : State) (p : Port), p = .a ∧ ShapeOk s ∧ portUp s (portNo p) = true)
    ∧ (∃ (s : State) (p : Port), p = .a ∧ ShapeOk s ∧ portUp s (portNo p) = true)
    ∧ (∃ (s : State) (p : Port), p = .b ∧ ShapeOk s ∧ portUp s (portNo p) = true)
    ∧ (∃ (s : State) (p : Port), p = .a ∧ ShapeOk s ∧ portUp s (portNo p) = true)
    ∧ (∃ (s : State) (p : Port) (a : Arrival), p = .a ∧ ShapeOk s ∧ portUp s (portNo p) = true ∧ (s.port (portNo p)).cur = some a ∧ a.hdr.type < 9 ∧ a.hdr.len ≤ 512)
    ∧ (∃ (s : State) (p : Port) (a : Arrival), p = .b ∧ ShapeOk s ∧ portUp s (portNo p) = true ∧ (s.port (portNo p)).cur = some a ∧ a.hdr.type < 9 ∧ a.hdr.len ≤ 512)
    ∧ (∃ (s : State) (p : Port) (a : Arrival), p = .a ∧ ShapeOk s ∧ portUp s (portNo p) = true ∧ (s.port (portNo p)).cur = some a ∧ a.hdr.type < 9 ∧ a.hdr.len ≤ 512)
    ∧ (∃ (s : State) (p : Port) (a : Arrival), p = .a ∧ ShapeOk s ∧ portUp s (portNo p) = true ∧ (s.port (portNo p)).cur = some a ∧ a.hdr.type < 9 ∧ a.hdr.len ≤ 512)
    ∧ (∃ (s : State) (p : Port) (x : LocalTx) (l : List LocalTx), p = .a ∧ ShapeOk s ∧ (s.port (portNo p)).waiting = x :: l ∧ portUp s (portNo p) = true ∧ fwdBusy s (portNo p) = false ∧ localBusy s (portNo p) = false) :=
  ⟨⟨linked, .a, rfl, by unfold ShapeOk; decide +kernel⟩,
    ⟨linked.having [(TXLA.RING_CFG.MONITOR, 1)], .a, rfl, by unfold ShapeOk; decide +kernel⟩,
    ⟨linked, .b, rfl, by unfold ShapeOk; decide +kernel⟩,
    ⟨linked.having [(TXLA.NODE.TOPO, 2), (TX.STATUS.STATE 1, 2)], .a, rfl, by unfold ShapeOk; decide +kernel⟩,
    ⟨arriving 0 (header 3 1023 6 8 false false 0) true (none), .a, ⟨header 3 1023 6 8 false false 0, 9, false, true, none⟩, rfl, by unfold ShapeOk; decide +kernel⟩,
    ⟨arriving 1 (header 3 1023 6 8 false false 0) true (some (0, false)), .b, ⟨header 3 1023 6 8 false false 0, 9, false, true, some (0, false)⟩, rfl, by unfold ShapeOk; decide +kernel⟩,
    ⟨arriving 0 (header 3 1023 6 8 false false 0) false (some (1, false)), .a, ⟨header 3 1023 6 8 false false 0, 9, false, false, some (1, false)⟩, rfl, by unfold ShapeOk; decide +kernel⟩,
    ⟨arriving 0 (header 8 1023 6 512 false false 0) true (none), .a, ⟨header 8 1023 6 512 false false 0, 9, false, true, none⟩, rfl, by unfold ShapeOk; decide +kernel⟩,
    ⟨{ linked with net := { linked.net with ports := [{ PortSt.idle with waiting := [⟨packet 4 6 5 0 [1, 2, 3, 4], 0, 1⟩, ⟨packet 4 6 5 0 [1, 2, 3, 4], 5, 2⟩] }, PortSt.idle] } }, .a, ⟨packet 4 6 5 0 [1, 2, 3, 4], 0, 1⟩, [⟨packet 4 6 5 0 [1, 2, 3, 4], 5, 2⟩], rfl, by unfold ShapeOk; decide +kernel⟩⟩

theorem test_witness_ConsumedPackets :
    (∃ (s : State) (p : Port) (pkt : Packet) (rx : Nat), p = .a ∧ rx = 999999000 ∧ ShapeOk s ∧ (s.port (portNo p)).pkt = some (pkt, rx) ∧ pkt.hdr.type = 1)
    ∧ (∃ (s : State) (p : Port) (pkt : Packet) (rx : Nat), p = .b ∧ rx = 999999000 ∧ ShapeOk s ∧ (s.port (portNo p)).pkt = some (pkt, rx) ∧ pkt.hdr.type = 1)
    ∧ (∃ (s : State) (p : Port) (pkt : Packet) (rx : Nat), p = .a ∧ rx = 999999000 ∧ ShapeOk s ∧ (s.port (portNo p)).pkt = some (pkt, rx) ∧ pkt.hdr.type = 2)
    ∧ (∃ (s : State) (p : Port) (pkt : Packet) (rx : Nat), p = .b ∧ rx = 999999000 ∧ ShapeOk s ∧ (s.port (portNo p)).pkt = some (pkt, rx) ∧ pkt.hdr.type = 2)
    ∧ (∃ (s : State) (pkt : Packet) (rx : Nat), rx = 999999000 ∧ ShapeOk s ∧ (s.port 0).pkt = some (pkt, rx) ∧ pkt.hdr.type = 0 ∧ pkt.hdr.tspec = 1 ∧ s.net.enumMb = none)
    ∧ (∃ (s : State) (pkt : Packet) (rx : Nat), rx = 999999000 ∧ ShapeOk s ∧ (s.port 0).pkt = some (pkt, rx) ∧ pkt.hdr.type = 0 ∧ pkt.hdr.tspec = 1 ∧ s.net.enumMb = none)
    ∧ (∃ (s : State) (pkt : Packet) (rx : Nat), rx = 999999000 ∧ ShapeOk s ∧ (s.port 0).pkt = some (pkt, rx) ∧ pkt.hdr.type = 0 ∧ pkt.hdr.tspec = 1 ∧ s.net.enumMb = none)
    ∧ (∃ (s : State) (p : Port) (pkt : Packet) (rx : Nat), p = .b ∧ rx = 999999000 ∧ ShapeOk s ∧ (s.port (portNo p)).pkt = some (pkt, rx) ∧ pkt.hdr.type = 0 ∧ pkt.hdr.tspec = 2 ∧ s.net.origin = some (leAt pkt.payload 0 2) ∧ s.net.enumMb = none)
    ∧ (∃ (s : State) (p : Port) (pkt : Packet) (rx : Nat), p = .a ∧ rx = 999999000 ∧ ShapeOk s ∧ (s.port (portNo p)).pkt = some (pkt, rx) ∧ pkt.hdr.type = 0 ∧ pkt.hdr.tspec = 2 ∧ s.net.origin = some (leAt pkt.payload 0 2) ∧ s.net.enumMb = none)
    ∧ (∃ (s : State) (p : Port) (pkt : Packet) (rx : Nat), p = .b ∧ rx = 999999000 ∧ ShapeOk s ∧ (s.port (portNo p)).pkt = some (pkt, rx) ∧ pkt.hdr.type = 0 ∧ pkt.hdr.tspec = 3)
    ∧ (∃ (s : State) (p : Port) (pkt : Packet) (rx : Nat), p = .a ∧ rx = 999999000 ∧ ShapeOk s ∧ (s.port (portNo p)).pkt = some (pkt, rx) ∧ pkt.hdr.type = 0 ∧ pkt.hdr.tspec = 3)
    ∧ (∃ (s : State) (p : Port) (pkt : Packet) (rx : Nat), p = .b ∧ rx = 999999000 ∧ ShapeOk s ∧ (s.port (portNo p)).pkt = some (pkt, rx) ∧ pkt.hdr.type = 0 ∧ pkt.hdr.tspec = 4) :=
  ⟨⟨{ linked with net := { linked.net with windows := [(6, 4096, 64), (0, 0, 0), (0, 0, 0), (0, 0, 0)] } }.holding 0 (packet 1 1023 6 0 (toLe 4 1024 ++ [0xBF, 0] ++ toLe 2 3 ++ List.replicate 64 9)) 999999000, .a, packet 1 1023 6 0 (toLe 4 1024 ++ [0xBF, 0] ++ toLe 2 3 ++ List.replicate 64 9), 999999000, rfl, rfl, by unfold ShapeOk; decide +kernel⟩,
    ⟨{ linked with net := { linked.net with windows := [(6, 4096, 64), (0, 0, 0), (0, 0, 0), (0, 0, 0)] } }.holding 1 (packet 1 1023 6 0 (toLe 4 1024 ++ [0xBF, 0] ++ toLe 2 3 ++ List.replicate 68 9)) 999999000, .b, packet 1 1023 6 0 (toLe 4 1024 ++ [0xBF, 0] ++ toLe 2 3 ++ List.replicate 68 9), 999999000, rfl, rfl, by unfold ShapeOk; decide +kernel⟩,
    ⟨linked.holding 0 (packet 2 1023 6 2 ([1, 0, 0, 0] ++ ctxRaw 7 1 50)) 999999000, .a, packet 2 1023 6 2 ([1, 0, 0, 0] ++ ctxRaw 7 1 50), 999999000, rfl, rfl, by unfold ShapeOk; decide +kernel⟩,
    ⟨linked.holding 1 (packet 2 1023 6 0 ([0,0,0,0])) 999999000, .b, packet 2 1023 6 0 ([0,0,0,0]), 999999000, rfl, rfl, by unfold ShapeOk; decide +kernel⟩,
    ⟨{ linked with net := { linked.net with origin := some 4, enumSeen := some 3, topoSeen := some 3 } }.holding 0 (packet 0 1023 6 1 (toLe 2 4 ++ toLe 2 3 ++ toLe 2 2 ++ toLe 2 5 ++ toLe 2 0 ++ [0, 0])) 999999000, packet 0 1023 6 1 (toLe 2 4 ++ toLe 2 3 ++ toLe 2 2 ++ toLe 2 5 ++ toLe 2 0 ++ [0, 0]), 999999000, rfl, by unfold ShapeOk; decide +kernel⟩,
    ⟨linked.holding 0 (packet 0 1023 6 1 (toLe 2 4 ++ toLe 2 511 ++ toLe 2 2 ++ toLe 2 5 ++ toLe 2 0 ++ [0, 0])) 999999000, packet 0 1023 6 1 (toLe 2 4 ++ toLe 2 511 ++ toLe 2 2 ++ toLe 2 5 ++ toLe 2 0 ++ [0, 0]), 999999000, rfl, by unfold ShapeOk; decide +kernel⟩,
    ⟨(linked.having [(TXLA.NODE.ROLE, 2)]).holding 0 (packet 0 1023 6 1 (toLe 2 4 ++ toLe 2 0 ++ toLe 2 2 ++ toLe 2 5 ++ toLe 2 0 ++ [0, 0])) 999999000, packet 0 1023 6 1 (toLe 2 4 ++ toLe 2 0 ++ toLe 2 2 ++ toLe 2 5 ++ toLe 2 0 ++ [0, 0]), 999999000, rfl, by unfold ShapeOk; decide +kernel⟩,
    ⟨{ linked with net := { linked.net with origin := some 4, enumSeen := some 3, topoSeen := some 3 } }.holding 1 (packet 0 1023 6 2 (toLe 2 4 ++ toLe 2 3 ++ toLe 2 2 ++ toLe 2 5 ++ toLe 2 2 ++ [0, 0])) 999999000, .b, packet 0 1023 6 2 (toLe 2 4 ++ toLe 2 3 ++ toLe 2 2 ++ toLe 2 5 ++ toLe 2 2 ++ [0, 0]), 999999000, rfl, rfl, by unfold ShapeOk; decide +kernel⟩,
    ⟨{ linked with net := { linked.net with origin := some 4, enumSeen := some 3, topoSeen := some 3 } }.holding 0 (packet 0 1023 6 2 (toLe 2 4 ++ toLe 2 3 ++ toLe 2 2047 ++ toLe 2 5 ++ toLe 2 1 ++ [0, 0])) 999999000, .a, packet 0 1023 6 2 (toLe 2 4 ++ toLe 2 3 ++ toLe 2 2047 ++ toLe 2 5 ++ toLe 2 1 ++ [0, 0]), 999999000, rfl, rfl, by unfold ShapeOk; decide +kernel⟩,
    ⟨{ linked with net := { linked.net with origin := some 9, enumSeen := some 3, topoSeen := some 3 } }.holding 1 (packet 0 1023 6 3 (toLe 2 3 ++ toLe 2 3 ++ toLe 2 2 ++ toLe 2 5 ++ toLe 2 2 ++ [0, 0])) 999999000, .b, packet 0 1023 6 3 (toLe 2 3 ++ toLe 2 3 ++ toLe 2 2 ++ toLe 2 5 ++ toLe 2 2 ++ [0, 0]), 999999000, rfl, rfl, by unfold ShapeOk; decide +kernel⟩,
    ⟨{ linked with net := { linked.net with origin := some 9, enumSeen := some 3, topoSeen := some 3 } }.holding 0 (packet 0 1023 6 3 (toLe 2 4 ++ toLe 2 3 ++ toLe 2 2047 ++ toLe 2 5 ++ toLe 2 1 ++ [0, 0])) 999999000, .a, packet 0 1023 6 3 (toLe 2 4 ++ toLe 2 3 ++ toLe 2 2047 ++ toLe 2 5 ++ toLe 2 1 ++ [0, 0]), 999999000, rfl, rfl, by unfold ShapeOk; decide +kernel⟩,
    ⟨linked.holding 1 (packet 0 1023 6 4 (toLe 2 3 ++ toLe 2 3 ++ toLe 2 2 ++ toLe 2 5 ++ toLe 2 2 ++ [0, 0])) 999999000, .b, packet 0 1023 6 4 (toLe 2 3 ++ toLe 2 3 ++ toLe 2 2 ++ toLe 2 5 ++ toLe 2 2 ++ [0, 0]), 999999000, rfl, rfl, by unfold ShapeOk; decide +kernel⟩⟩

theorem test_witness_LampTimeSync :
    (∃ (s : State), ShapeOk s)
    ∧ (∃ (s : State) (p : Port) (pkt : Packet) (rx : Nat), p = .a ∧ rx = 999999000 ∧ ShapeOk s ∧ (s.port (portNo p)).pkt = some (pkt, rx) ∧ pkt.hdr.type = 7 ∧ portUp s (portNo p) = true ∧ fwdBusy s (portNo p) = false ∧ localBusy s (portNo p) = false)
    ∧ (∃ (s : State) (p : Port) (pkt : Packet) (rx : Nat) (t1 : Nat) (seq : Nat), p = .a ∧ rx = 9 ∧ t1 = 255999997000 ∧ seq = 5 ∧ ShapeOk s ∧ (s.port (portNo p)).pkt = some (pkt, rx) ∧ pkt.hdr.type = 8 ∧ (s.port (portNo p)).request = some (t1, seq))
    ∧ (∃ (s : State) (p : Port) (pkt : Packet) (rx : Nat) (t1 : Nat) (seq : Nat), p = .a ∧ rx = 9 ∧ t1 = 255999997000 ∧ seq = 5 ∧ ShapeOk s ∧ (s.port (portNo p)).pkt = some (pkt, rx) ∧ pkt.hdr.type = 8 ∧ (s.port (portNo p)).request = some (t1, seq))
    ∧ (∃ (s : State) (p : Port) (pkt : Packet) (rx : Nat) (t1 : Nat) (seq : Nat), p = .a ∧ rx = 9 ∧ t1 = 255999997000 ∧ seq = 5 ∧ ShapeOk s ∧ (s.port (portNo p)).pkt = some (pkt, rx) ∧ pkt.hdr.type = 8 ∧ (s.port (portNo p)).request = some (t1, seq))
    ∧ (∃ (s : State), ShapeOk s)
    ∧ (∃ (s : State), ShapeOk s)
    ∧ (∃ (s : State) (p : Port) (lt : LampTime) (d : Int), p = .a ∧ portUp s (portNo p) = true ∧ s.reg TXLA.SYNC_STATUS.SYNC_PORT = portNo p ∧ d = diff64 (lt.toNat * 256 + s.reg (TX.DELAY.DELAY (portNo p))) (s.lt.toNat * 256 + s.net.frac))
    ∧ (∃ (s : State) (p : Port) (lt : LampTime) (d : Int), p = .a ∧ portUp s (portNo p) = true ∧ s.reg TXLA.SYNC_STATUS.SYNC_PORT = portNo p ∧ d = diff64 (lt.toNat * 256 + s.reg (TX.DELAY.DELAY (portNo p))) (s.lt.toNat * 256 + s.net.frac))
    ∧ (∃ (s : State), ShapeOk s ∧ (s.port 0).toggling = true) :=
  ⟨⟨linked, by unfold ShapeOk; decide +kernel⟩,
    ⟨linked.holding 0 (packet 7 1023 6 0 ([])) 999999000, .a, packet 7 1023 6 0 ([]), 999999000, rfl, rfl, by unfold ShapeOk; decide +kernel⟩,
    ⟨((linked).holding 0 (packet 8 5 6 0 (toLe 2 4 ++ toLe 2 2 ++ [0, 0, 0, 0] ++ toLe 8 256000000000 ++ toLe 8 256000000100)) 9).setPort 0 (fun y => { y with request := some (255999997000, 5) }), .a, packet 8 5 6 0 (toLe 2 4 ++ toLe 2 2 ++ [0, 0, 0, 0] ++ toLe 8 256000000000 ++ toLe 8 256000000100), 9, 255999997000, 5, rfl, rfl, rfl, rfl, by unfold ShapeOk; decide +kernel⟩,
    ⟨((linked).holding 0 (packet 8 5 6 0 (toLe 2 5 ++ toLe 2 2 ++ [0, 0, 0, 0] ++ toLe 8 256000000000 ++ toLe 8 256000000100)) 9).setPort 0 (fun y => { y with request := some (255999997000, 5) }), .a, packet 8 5 6 0 (toLe 2 5 ++ toLe 2 2 ++ [0, 0, 0, 0] ++ toLe 8 256000000000 ++ toLe 8 256000000100), 9, 255999997000, 5, rfl, rfl, rfl, rfl, by unfold ShapeOk; decide +kernel⟩,
    ⟨(({ linked with synced := true }).holding 0 (packet 8 5 6 0 (toLe 2 5 ++ toLe 2 2 ++ [0, 0, 0, 0] ++ toLe 8 256000000000 ++ toLe 8 256000000100)) 9).setPort 0 (fun y => { y with request := some (255999997000, 5) }), .a, packet 8 5 6 0 (toLe 2 5 ++ toLe 2 2 ++ [0, 0, 0, 0] ++ toLe 8 256000000000 ++ toLe 8 256000000100), 9, 255999997000, 5, rfl, rfl, rfl, rfl, by unfold ShapeOk; decide +kernel⟩,
    ⟨linked.setPort 1 (fun y => { y with request := some (4, 5) }), by unfold ShapeOk; decide +kernel⟩,
    ⟨linked.having [(TX.STATUS.STATE 0, 2)], by unfold ShapeOk; decide +kernel⟩,
    ⟨linked, .a, 1000000008, diff64 ((1000000008 : BitVec 64).toNat * 256 + (linked).reg (TX.DELAY.DELAY (portNo .a))) ((linked).lt.toNat * 256 + (linked).net.frac), rfl, by decide +kernel⟩,
    ⟨{ linked with net := { linked.net with divergeRuns := 2 } }, .a, 1000000009, diff64 ((1000000009 : BitVec 64).toNat * 256 + ({ linked with net := { linked.net with divergeRuns := 2 } }).reg (TX.DELAY.DELAY (portNo .a))) (({ linked with net := { linked.net with divergeRuns := 2 } }).lt.toNat * 256 + ({ linked with net := { linked.net with divergeRuns := 2 } }).net.frac), rfl, by decide +kernel⟩,
    ⟨State.having (linked.setPort 0 (fun y => { y with toggling := true })) [(TX.STATUS.WRAP 0, 1)], by unfold ShapeOk; decide +kernel⟩⟩

theorem test_witness_CanPort :
    (∃ (s : State) (f : CanFrame), s.flag CAN.CTRL.EN = true ∧ s.flag CAN.CTRL.DIAG_EN = true ∧ canMatches f (s.flag CAN.DIAG_RX_ID.IDE) (s.reg CAN.DIAG_RX_ID.ID) = true)
    ∧ (∃ (s : State) (f : CanFrame), s.flag CAN.CTRL.EN = true ∧ s.flag CAN.CTRL.DIAG_EN = true ∧ canMatches f (s.flag CAN.DIAG_RX_ID.IDE) (s.reg CAN.DIAG_RX_ID.ID) = true)
    ∧ (∃ (s : State) (f : CanFrame), s.flag CAN.CTRL.EN = true ∧ s.flag CAN.CTRL.DIAG_EN = true ∧ canMatches f (s.flag CAN.DIAG_RX_ID.IDE) (s.reg CAN.DIAG_RX_ID.ID) = true)
    ∧ (∃ (s : State) (f : CanFrame), s.flag CAN.CTRL.EN = true ∧ s.flag CAN.CTRL.DIAG_EN = true ∧ canMatches f (s.flag CAN.DIAG_RX_ID.IDE) (s.reg CAN.DIAG_RX_ID.ID) = true)
    ∧ (∃ (s : State) (f : CanFrame), s.flag CAN.CTRL.EN = true ∧ s.flag CAN.CTRL.DIAG_EN = true ∧ canMatches f (s.flag CAN.DIAG_RX_ID.IDE) (s.reg CAN.DIAG_RX_ID.ID) = true)
    ∧ (∃ (s : State) (f : CanFrame), s.flag CAN.CTRL.EN = true ∧ s.flag CAN.CTRL.DIAG_EN = true ∧ canMatches f (s.flag CAN.DIAG_RX_ID.IDE) (s.reg CAN.DIAG_RX_ID.ID) = true)
    ∧ (∃ (s : State) (f : CanFrame), s.flag CAN.CTRL.EN = true ∧ s.flag CAN.CTRL.DIAG_EN = true ∧ canMatches f (s.flag CAN.DIAG_RX_ID.IDE) (s.reg CAN.DIAG_RX_ID.ID) = true)
    ∧ (∃ (s : State), canOn s = true)
    ∧ (∃ (s : State), canOn s = true)
    ∧ (∃ (s : State), canOn s = true)
    ∧ (∃ (s : State), s.flag CAN.CTRL.EN = true ∧ s.reg CAN.STATUS.STATE = 2) :=
  ⟨⟨up.having [(CAN.CTRL.EN, 1), (CAN.CTRL.DIAG_EN, 1)], ⟨false, (up.having [(CAN.CTRL.EN, 1), (CAN.CTRL.DIAG_EN, 1)]).flag CAN.DIAG_RX_ID.IDE, (up.having [(CAN.CTRL.EN, 1), (CAN.CTRL.DIAG_EN, 1)]).reg CAN.DIAG_RX_ID.ID, 8, [0xC0]⟩, by decide +kernel⟩,
    ⟨up.having [(CAN.CTRL.EN, 1), (CAN.CTRL.DIAG_EN, 1)], ⟨true, (up.having [(CAN.CTRL.EN, 1), (CAN.CTRL.DIAG_EN, 1)]).flag CAN.DIAG_RX_ID.IDE, (up.having [(CAN.CTRL.EN, 1), (CAN.CTRL.DIAG_EN, 1)]).reg CAN.DIAG_RX_ID.ID, 8, [0x00]⟩, by decide +kernel⟩,
    ⟨up.having [(CAN.CTRL.EN, 1), (CAN.CTRL.DIAG_EN, 1)], ⟨true, (up.having [(CAN.CTRL.EN, 1), (CAN.CTRL.DIAG_EN, 1)]).flag CAN.DIAG_RX_ID.IDE, (up.having [(CAN.CTRL.EN, 1), (CAN.CTRL.DIAG_EN, 1)]).reg CAN.DIAG_RX_ID.ID, 8, [0x81]⟩, by decide +kernel⟩,
    ⟨up.having [(CAN.CTRL.EN, 1), (CAN.CTRL.DIAG_EN, 1)], ⟨true, (up.having [(CAN.CTRL.EN, 1), (CAN.CTRL.DIAG_EN, 1)]).flag CAN.DIAG_RX_ID.IDE, (up.having [(CAN.CTRL.EN, 1), (CAN.CTRL.DIAG_EN, 1)]).reg CAN.DIAG_RX_ID.ID, 8, [0x80, 1, 2]⟩, by decide +kernel⟩,
    ⟨{ up.having [(CAN.CTRL.EN, 1), (CAN.CTRL.DIAG_EN, 1)] with mbx := { Mbx.reset with canRx := some (63, [1]) } }, ⟨true, (up.having [(CAN.CTRL.EN, 1), (CAN.CTRL.DIAG_EN, 1)]).flag CAN.DIAG_RX_ID.IDE, (up.having [(CAN.CTRL.EN, 1), (CAN.CTRL.DIAG_EN, 1)]).reg CAN.DIAG_RX_ID.ID, 8, [0x3F, 2]⟩, by decide +kernel⟩,
    ⟨{ up.having [(CAN.CTRL.EN, 1), (CAN.CTRL.DIAG_EN, 1)] with mbx := { Mbx.reset with canRx := some (1, [1]) } }, ⟨true, (up.having [(CAN.CTRL.EN, 1), (CAN.CTRL.DIAG_EN, 1)]).flag CAN.DIAG_RX_ID.IDE, (up.having [(CAN.CTRL.EN, 1), (CAN.CTRL.DIAG_EN, 1)]).reg CAN.DIAG_RX_ID.ID, 8, [0x41, 2]⟩, by decide +kernel⟩,
    ⟨up.having [(CAN.CTRL.EN, 1), (CAN.CTRL.DIAG_EN, 1)], ⟨true, (up.having [(CAN.CTRL.EN, 1), (CAN.CTRL.DIAG_EN, 1)]).flag CAN.DIAG_RX_ID.IDE, (up.having [(CAN.CTRL.EN, 1), (CAN.CTRL.DIAG_EN, 1)]).reg CAN.DIAG_RX_ID.ID, 8, [0xC0] ++ toLe 2 0x0108 ++ [9, 0, 1, 0, 0, 0, 7]⟩, by decide +kernel⟩,
    ⟨up.having [(CAN.CTRL.EN, 1), (CAN.CTRL.DIAG_EN, 1)], by decide +kernel⟩,
    ⟨(up.having [(CAN.CTRL.EN, 1), (CAN.CTRL.DIAG_EN, 1)]).having [(CAN.STATUS.REC, 127)], by decide +kernel⟩,
    ⟨up.having [(CAN.CTRL.EN, 1), (CAN.CTRL.DIAG_EN, 1)], by decide +kernel⟩,
    ⟨(up.having [(CAN.CTRL.EN, 1), (CAN.CTRL.DIAG_EN, 1)]).having [(CAN.STATUS.STATE, 2)], by decide +kernel⟩⟩

theorem test_witness_HeadroomPmbusPins :
    (∃ (s : State) (c : Instr) (ack : Bool) (reply : BitVec 16), s.clk.lost = false ∧ (c = Instr.pmbusTransaction ack reply ∨ c = Instr.pmbusClockTimeout ∧ ack = false))
    ∧ (∃ (s : State) (c : Instr) (ack : Bool) (reply : BitVec 16), s.clk.lost = false ∧ (c = Instr.pmbusTransaction ack reply ∨ c = Instr.pmbusClockTimeout ∧ ack = false))
    ∧ (∃ (s : State) (c : Instr) (ack : Bool) (reply : BitVec 16), s.clk.lost = false ∧ (c = Instr.pmbusTransaction ack reply ∨ c = Instr.pmbusClockTimeout ∧ ack = false))
    ∧ (∃ (s : State) (c : Instr) (ack : Bool) (reply : BitVec 16), s.clk.lost = false ∧ (c = Instr.pmbusTransaction ack reply ∨ c = Instr.pmbusClockTimeout ∧ ack = false))
    ∧ (∃ (s : State) (c : Instr) (ack : Bool) (reply : BitVec 16), s.clk.lost = false ∧ (c = Instr.pmbusTransaction ack reply ∨ c = Instr.pmbusClockTimeout ∧ ack = false))
    ∧ (∃ (s : State) (c : Instr) (ack : Bool) (reply : BitVec 16), s.clk.lost = false ∧ (c = Instr.pmbusTransaction ack reply ∨ c = Instr.pmbusClockTimeout ∧ ack = false))
    ∧ (∃ (s : State) (pin : Nat), pin = 15 ∧ pin < 16 ∧ s.actReg (IOMUX.PIN.FUNC pin) = 5)
    ∧ (∃ (s : State), s.clk.lost = false) :=
  ⟨⟨{ up with scan := { Scan.reset with vledAsk := 81 }, io := { Side.reset with expVled := some 9, tries := 0, mantVled := none, expVcore := none, triesVcore := 0, reads := [] }, cal := { Cal.reset with vcPlan := 2 } }, .pmbusTransaction true 0, true, 0, by decide +kernel⟩,
    ⟨{ up with scan := { Scan.reset with vledAsk := 81 }, io := { Side.reset with expVled := some 9, tries := 3, mantVled := none, expVcore := none, triesVcore := 0, reads := [] }, cal := { Cal.reset with vcPlan := 2 } }, .pmbusClockTimeout, false, 0, by decide +kernel⟩,
    ⟨{ up with scan := { Scan.reset with vledAsk := 80 }, io := { Side.reset with expVled := none, tries := 0, mantVled := none, expVcore := some 12, triesVcore := 0, reads := [] }, cal := { Cal.reset with vcPlan := 5 } }, .pmbusTransaction true 0, true, 0, by decide +kernel⟩,
    ⟨{ up with scan := { Scan.reset with vledAsk := 80 }, io := { Side.reset with expVled := none, tries := 0, mantVled := none, expVcore := some 12, triesVcore := 3, reads := [] }, cal := { Cal.reset with vcPlan := 5 } }, .pmbusTransaction false 0, false, 0, by decide +kernel⟩,
    ⟨{ up with scan := { Scan.reset with vledAsk := 80 }, io := { Side.reset with expVled := none, tries := 0, mantVled := none, expVcore := none, triesVcore := 0, reads := [(0, 0x20)] }, cal := { Cal.reset with vcPlan := 2 } }, .pmbusTransaction true 0x17, true, 0x17, by decide +kernel⟩,
    ⟨{ up with scan := { Scan.reset with vledAsk := 80 }, io := { Side.reset with expVled := none, tries := 0, mantVled := none, expVcore := none, triesVcore := 0, reads := [(1, 0x79)] }, cal := { Cal.reset with vcPlan := 2 } }, .pmbusTransaction true 0x8000, true, 0x8000, by decide +kernel⟩,
    ⟨up.acting [(IOMUX.PIN.FUNC 15, 5)], 15, rfl, by decide +kernel⟩,
    ⟨up, by decide +kernel⟩⟩

theorem test_witness_MailboxRings :
    (∃ (s : State), MailOk s)
    ∧ (∃ (s : State), MailOk s)
    ∧ (∃ (s : State), MailOk s)
    ∧ (∃ (s : State) (p : Port) (pkt : Packet) (rx : Nat) (n : Nat) (b : List Byte) (bcast : Bool), p = .a ∧ rx = 9 ∧ MailOk s ∧ (s.port (portNo p)).pkt = some (pkt, rx) ∧ pkt.hdr.type = 4 ∧ n = leAt pkt.payload 0 1 % 8 ∧ b = pkt.payload.drop 4 ∧ bcast = decide (pkt.hdr.dest = 1023))
    ∧ (∃ (s : State) (p : Port) (pkt : Packet) (rx : Nat) (n : Nat) (b : List Byte) (bcast : Bool), p = .b ∧ rx = 9 ∧ MailOk s ∧ (s.port (portNo p)).pkt = some (pkt, rx) ∧ pkt.hdr.type = 4 ∧ n = leAt pkt.payload 0 1 % 8 ∧ b = pkt.payload.drop 4 ∧ bcast = decide (pkt.hdr.dest = 1023))
    ∧ (∃ (s : State) (p : Port) (pkt : Packet) (rx : Nat) (n : Nat) (b : List Byte) (bcast : Bool), p = .b ∧ rx = 9 ∧ MailOk s ∧ (s.port (portNo p)).pkt = some (pkt, rx) ∧ pkt.hdr.type = 4 ∧ n = leAt pkt.payload 0 1 % 8 ∧ b = pkt.payload.drop 4 ∧ bcast = decide (pkt.hdr.dest = 1023))
    ∧ (∃ (s : State) (p : Port) (pkt : Packet) (rx : Nat) (n : Nat) (b : List Byte) (bcast : Bool), p = .b ∧ rx = 9 ∧ MailOk s ∧ (s.port (portNo p)).pkt = some (pkt, rx) ∧ pkt.hdr.type = 4 ∧ n = leAt pkt.payload 0 1 % 8 ∧ b = pkt.payload.drop 4 ∧ bcast = decide (pkt.hdr.dest = 1023))
    ∧ (∃ (s : State) (p : Port) (pkt : Packet) (rx : Nat) (n : Nat) (b : List Byte) (bcast : Bool), p = .b ∧ rx = 9 ∧ MailOk s ∧ (s.port (portNo p)).pkt = some (pkt, rx) ∧ pkt.hdr.type = 4 ∧ n = leAt pkt.payload 0 1 % 8 ∧ b = pkt.payload.drop 4 ∧ bcast = decide (pkt.hdr.dest = 1023))
    ∧ (∃ (s : State) (p : Port) (pkt : Packet) (rx : Nat) (n : Nat) (b : List Byte) (bcast : Bool), p = .a ∧ rx = 9 ∧ MailOk s ∧ (s.port (portNo p)).pkt = some (pkt, rx) ∧ pkt.hdr.type = 4 ∧ n = leAt pkt.payload 0 1 % 8 ∧ b = pkt.payload.drop 4 ∧ bcast = decide (pkt.hdr.dest = 1023)) :=
  ⟨⟨up, by unfold MailOk; decide +kernel⟩,
    ⟨(boxed (boxed (boxed (boxed (boxed (boxed (boxed (up.having [(MBX.PATH.PATH, 0xE4E4)]) 7 .idle ([3])) 5 .done ([1, 2])) 4 .accepted ([])) 3 .started ([])) 2 .rung ([])) 1 .done ([])) 0 .idle ([])).having [(PWR.STATE.STATE, 1)], by unfold MailOk; decide +kernel⟩,
    ⟨boxed (boxed (boxed (boxed (boxed (boxed (boxed (up.having [(MBX.PATH.PATH, 0xE4E4)]) 7 .idle ([3])) 5 .done ([1, 2])) 4 .accepted ([])) 3 .started ([])) 2 .rung ([])) 1 .done ([])) 0 .idle ([]), by unfold MailOk; decide +kernel⟩,
    ⟨(linked.having [(MBX.PATH.PATH, 0xAAAA)]).holding 0 (packet 4 5 6 0 ([0, 0, 0, 0] ++ (request 0x0108 0 [1, 2]))) 9, .a, packet 4 5 6 0 ([0, 0, 0, 0] ++ (request 0x0108 0 [1, 2])), 9, leAt ((packet 4 5 6 0 ([0, 0, 0, 0] ++ (request 0x0108 0 [1, 2]))).payload) 0 1 % 8, (packet 4 5 6 0 ([0, 0, 0, 0] ++ (request 0x0108 0 [1, 2]))).payload.drop 4, false, rfl, rfl, by unfold MailOk; decide +kernel⟩,
    ⟨(linked.having [(MBX.PATH.PATH, 0xAAAA)]).holding 1 (packet 4 1023 6 0 ([7, 0, 0, 0] ++ (request 0x0201 0 [1, 0, 0, 0]))) 9, .b, packet 4 1023 6 0 ([7, 0, 0, 0] ++ (request 0x0201 0 [1, 0, 0, 0])), 9, leAt ((packet 4 1023 6 0 ([7, 0, 0, 0] ++ (request 0x0201 0 [1, 0, 0, 0]))).payload) 0 1 % 8, (packet 4 1023 6 0 ([7, 0, 0, 0] ++ (request 0x0201 0 [1, 0, 0, 0]))).payload.drop 4, true, rfl, rfl, by unfold MailOk; decide +kernel⟩,
    ⟨(linked.having [(MBX.PATH.PATH, 0xAAAA)]).holding 1 (packet 4 1023 6 0 ([7, 0, 0, 0] ++ (request 0x0108 0 [1, 2]))) 9, .b, packet 4 1023 6 0 ([7, 0, 0, 0] ++ (request 0x0108 0 [1, 2])), 9, leAt ((packet 4 1023 6 0 ([7, 0, 0, 0] ++ (request 0x0108 0 [1, 2]))).payload) 0 1 % 8, (packet 4 1023 6 0 ([7, 0, 0, 0] ++ (request 0x0108 0 [1, 2]))).payload.drop 4, true, rfl, rfl, by unfold MailOk; decide +kernel⟩,
    ⟨((linked.having [(MBX.PATH.PATH, 0xAAAA)]).setMb 3 (fun m => { m with phase := .done, path := 1, src := 6, last := some (request 0x0108 0 [1, 2]) })).holding 1 (packet 4 5 6 0 ([3, 0, 0, 0] ++ (request 0x0108 0 [1, 2]))) 9, .b, packet 4 5 6 0 ([3, 0, 0, 0] ++ (request 0x0108 0 [1, 2])), 9, leAt ((packet 4 5 6 0 ([3, 0, 0, 0] ++ (request 0x0108 0 [1, 2]))).payload) 0 1 % 8, (packet 4 5 6 0 ([3, 0, 0, 0] ++ (request 0x0108 0 [1, 2]))).payload.drop 4, false, rfl, rfl, by unfold MailOk; decide +kernel⟩,
    ⟨(boxed (linked.having [(MBX.PATH.PATH, 0xAAAA)]) 3 .accepted []).holding 1 (packet 4 5 6 0 ([3, 0, 0, 0] ++ (request 0x0108 0 [1, 2]))) 9, .b, packet 4 5 6 0 ([3, 0, 0, 0] ++ (request 0x0108 0 [1, 2])), 9, leAt ((packet 4 5 6 0 ([3, 0, 0, 0] ++ (request 0x0108 0 [1, 2]))).payload) 0 1 % 8, (packet 4 5 6 0 ([3, 0, 0, 0] ++ (request 0x0108 0 [1, 2]))).payload.drop 4, false, rfl, rfl, by unfold MailOk; decide +kernel⟩,
    ⟨(linked).holding 0 (packet 4 5 6 0 ([0, 0, 0, 0] ++ (request 0x0108 0 [1, 2]))) 9, .a, packet 4 5 6 0 ([0, 0, 0, 0] ++ (request 0x0108 0 [1, 2])), 9, leAt ((packet 4 5 6 0 ([0, 0, 0, 0] ++ (request 0x0108 0 [1, 2]))).payload) 0 1 % 8, (packet 4 5 6 0 ([0, 0, 0, 0] ++ (request 0x0108 0 [1, 2]))).payload.drop 4, false, rfl, rfl, by unfold MailOk; decide +kernel⟩⟩

theorem test_witness_AcceptanceAndStart :
    (∃ (s : State), MailOk s ∧ (∀ n ∈ s.mbx.rings, n < 8) ∧ supUp s = true)
    ∧ (∃ (s : State) (mb : Nat), mb = 1 ∧ supUp s = true ∧ mb ∈ s.mbx.accepted ∧ (s.mb mb).phase = .accepted ∧ (∃ k ∈ s.mbx.accepted.takeWhile (· != mb), bit (reqFlags (s.mb mb).req) 0 = true ∨ bit (reqFlags (s.mb mb).req) 1 = true ∧ bit (reqFlags (s.mb k).req) 1 = true ∧ bits (reqFlags (s.mb mb).req) 3 3 = bits (reqFlags (s.mb k).req) 3 3 ∨ cmdsClash (s.mb k).req (s.mb mb).req = true))
    ∧ (∃ (s : State) (mb : Nat), mb = 1 ∧ supUp s = true ∧ mb ∈ s.mbx.accepted ∧ (s.mb mb).phase = .accepted ∧ (∃ k ∈ s.mbx.accepted.takeWhile (· != mb), bit (reqFlags (s.mb mb).req) 0 = true ∨ bit (reqFlags (s.mb mb).req) 1 = true ∧ bit (reqFlags (s.mb k).req) 1 = true ∧ bits (reqFlags (s.mb mb).req) 3 3 = bits (reqFlags (s.mb k).req) 3 3 ∨ cmdsClash (s.mb k).req (s.mb mb).req = true))
    ∧ (∃ (s : State) (mb : Nat), mb = 1 ∧ supUp s = true ∧ mb ∈ s.mbx.accepted ∧ (s.mb mb).phase = .accepted ∧ (∃ k ∈ s.mbx.accepted.takeWhile (· != mb), bit (reqFlags (s.mb mb).req) 0 = true ∨ bit (reqFlags (s.mb mb).req) 1 = true ∧ bit (reqFlags (s.mb k).req) 1 = true ∧ bits (reqFlags (s.mb mb).req) 3 3 = bits (reqFlags (s.mb k).req) 3 3 ∨ cmdsClash (s.mb k).req (s.mb mb).req = true))
    ∧ (∃ (s : State) (mb : Nat) (b : List Byte), MailOk s ∧ mb < 8 ∧ supUp s = true ∧ mb ∈ s.mbx.accepted ∧ (s.mb mb).phase = .accepted ∧ mayStart s mb = true ∧ b = (s.mb mb).req)
    ∧ (∃ (s : State) (mb : Nat) (b : List Byte), MailOk s ∧ mb < 8 ∧ supUp s = true ∧ mb ∈ s.mbx.accepted ∧ (s.mb mb).phase = .accepted ∧ mayStart s mb = true ∧ b = (s.mb mb).req)
    ∧ (∃ (s : State) (mb : Nat) (b : List Byte), MailOk s ∧ mb < 8 ∧ supUp s = true ∧ mb ∈ s.mbx.accepted ∧ (s.mb mb).phase = .accepted ∧ mayStart s mb = true ∧ b = (s.mb mb).req)
    ∧ (∃ (s : State) (mb : Nat) (b : List Byte), MailOk s ∧ mb < 8 ∧ supUp s = true ∧ mb ∈ s.mbx.accepted ∧ (s.mb mb).phase = .accepted ∧ mayStart s mb = true ∧ b = (s.mb mb).req)
    ∧ (∃ (s : State) (mb : Nat) (b : List Byte), MailOk s ∧ mb < 8 ∧ supUp s = true ∧ mb ∈ s.mbx.accepted ∧ (s.mb mb).phase = .accepted ∧ mayStart s mb = true ∧ b = (s.mb mb).req)
    ∧ (∃ (s : State) (mb : Nat) (b : List Byte), MailOk s ∧ mb < 8 ∧ supUp s = true ∧ mb ∈ s.mbx.accepted ∧ (s.mb mb).phase = .accepted ∧ mayStart s mb = true ∧ b = (s.mb mb).req)
    ∧ (∃ (s : State) (mb : Nat) (b : List Byte), MailOk s ∧ mb < 8 ∧ supUp s = true ∧ mb ∈ s.mbx.accepted ∧ (s.mb mb).phase = .accepted ∧ mayStart s mb = true ∧ b = (s.mb mb).req) :=
  ⟨⟨{ up with mbx := { Mbx.reset with rings := [0, 7], accepted := [3] } }, by unfold MailOk; decide +kernel⟩,
    ⟨queued (request 0x0108 0 [1]) (request 0x0108 1 [1]), 1, rfl, by decide +kernel⟩,
    ⟨queued (request 0x0108 0x3A [1]) (request 0x0108 0x3A [1]), 1, rfl, by decide +kernel⟩,
    ⟨queued (request 0x0501 0 []) (request 0x0503 0 []), 1, rfl, by decide +kernel⟩,
    ⟨(queued (request 0x0108 0 [1]) (request 0x0108 0 [1])), 0, ((queued (request 0x0108 0 [1]) (request 0x0108 0 [1])).mb 0).req, by unfold MailOk; decide +kernel⟩,
    ⟨(queued (request 0x0105 0 [1]) (request 0x0108 0 [1])), 0, ((queued (request 0x0105 0 [1]) (request 0x0108 0 [1])).mb 0).req, by unfold MailOk; decide +kernel⟩,
    ⟨(queued (request 0x0704 0 [1]) (request 0x0108 0 [1])), 0, ((queued (request 0x0704 0 [1]) (request 0x0108 0 [1])).mb 0).req, by unfold MailOk; decide +kernel⟩,
    ⟨(queued (request 0x0FFF 0 [1]) (request 0x0108 0 [1])), 0, ((queued (request 0x0FFF 0 [1]) (request 0x0108 0 [1])).mb 0).req, by unfold MailOk; decide +kernel⟩,
    ⟨(queued (request 0x0108 4 [1]) (request 0x0108 0 [1])), 0, ((queued (request 0x0108 4 [1]) (request 0x0108 0 [1])).mb 0).req, by unfold MailOk; decide +kernel⟩,
    ⟨(queued (request 0x0108 0 (List.replicate 248 0)) (request 0x0108 0 [1])), 0, ((queued (request 0x0108 0 (List.replicate 248 0)) (request 0x0108 0 [1])).mb 0).req, by unfold MailOk; decide +kernel⟩,
    ⟨{ queued (request 0x0201 0 []) (request 0x0108 0 [1]) with boot := { up.boot with done := false } }, 0, ((queued (request 0x0201 0 []) (request 0x0108 0 [1])).mb 0).req, by unfold MailOk; decide +kernel⟩⟩

theorem test_witness_EventsAndTimeouts :
    (∃ (s : State) (e : EventRec) (l : List EventRec), s.evt.queue = e :: l)
    ∧ (∃ (s : State) (e : EventRec) (l : List EventRec), s.evt.queue = e :: l)
    ∧ (∃ (s : State), s.evt.queue = [])
    ∧ (∃ (s : State), s.flag TXLA.EVT.EVT_EN = true ∧ supUp s = true ∧ 0 < s.evt.unsent ∧ s.evt.unsent ≤ s.evt.queue.length)
    ∧ (∃ (s : State) (mb : Nat), mb = 7 ∧ MailOk s ∧ mb < 8 ∧ mb ∈ s.mbx.dropped ∧ (s.mb mb).phase = .done ∧ (s.mb mb).path = 1)
    ∧ (∃ (s : State) (mb : Nat) (p : List Byte), mb = 0 ∧ MailOk s ∧ Runs s mb 0x0302 p ∧ p.length = 8 ∧ leAt p 0 1 < 64 ∧ 1 ≤ leAt p 2 2 ∧ leAt p 2 2 ≤ 1000)
    ∧ (∃ (s : State) (mb : Nat) (p : List Byte), mb = 7 ∧ MailOk s ∧ Runs s mb 0x0302 p ∧ p.length = 8 ∧ leAt p 0 1 < 64 ∧ 1 ≤ leAt p 2 2 ∧ leAt p 2 2 ≤ 1000)
    ∧ (∃ (s : State) (mb : Nat) (p : List Byte), mb = 3 ∧ MailOk s ∧ Runs s mb 0x0A01 p ∧ s.net.enumMb = some mb) :=
  ⟨⟨{ up with evt := ⟨[eventNo 4, eventNo 5], [eventNo 4, eventNo 5], 9, 0, 0⟩ }, eventNo 4, [eventNo 5], by decide +kernel⟩,
    ⟨{ up with evt := ⟨[eventNo 4, eventNo 5], [eventNo 4, eventNo 5], 9, 3, 0⟩ }, eventNo 4, [eventNo 5], by decide +kernel⟩,
    ⟨up, by decide +kernel⟩,
    ⟨State.having { up with evt := ⟨[eventNo 4, eventNo 5], [eventNo 4, eventNo 5], 9, 0, 2⟩ } [(TXLA.EVT.EVT_EN, 1)], by decide +kernel⟩,
    ⟨{ (up.setMb 7 (fun m => { m with phase := .done, path := 1, resent := 3 })) with mbx := { (up.setMb 7 (fun m => { m with phase := .done, path := 1, resent := 3 })).mbx with dropped := [7, 1] } }, 7, rfl, by unfold MailOk; decide +kernel⟩,
    ⟨up.asked 0 0x0302 ([63, 0] ++ toLe 2 1000 ++ toLe 4 1), 0, ([63, 0] ++ toLe 2 1000 ++ toLe 4 1), rfl, by unfold MailOk Runs; decide +kernel⟩,
    ⟨up.asked 7 0x0302 ([0, 0] ++ toLe 2 1 ++ toLe 4 0), 7, ([0, 0] ++ toLe 2 1 ++ toLe 4 0), rfl, by unfold MailOk Runs; decide +kernel⟩,
    ⟨State.asked { up with net := { up.net with enumMb := some 3, origin := some 0 } } 3 0x0A01 [5, 0], 3, [5, 0], rfl, by unfold MailOk Runs; decide +kernel⟩⟩

theorem test_witness_SystemCommands :
    (∃ (s : State) (mb : Nat), mb = 7 ∧ MailOk s ∧ Runs s mb 0x0101 [])
    ∧ (∃ (s : State) (mb : Nat) (p : List Byte), mb = 7 ∧ MailOk s ∧ Runs s mb 0x0105 p ∧ p.length = 8)
    ∧ (∃ (s : State) (mb : Nat) (p : List Byte) (n : Nat) (x : Nat), mb = 0 ∧ MailOk s ∧ Runs s mb 0x0106 p ∧ p.length = 8 ∧ x = leAt p 0 4 ∧ n = leAt p 4 1)
    ∧ (∃ (s : State) (mb : Nat) (p : List Byte) (n : Nat) (x : Nat), mb = 0 ∧ MailOk s ∧ Runs s mb 0x0106 p ∧ p.length = 8 ∧ x = leAt p 0 4 ∧ n = leAt p 4 1)
    ∧ (∃ (s : State) (mb : Nat) (p : List Byte) (n : Nat) (x : Nat), mb = 0 ∧ MailOk s ∧ Runs s mb 0x0106 p ∧ p.length = 8 ∧ x = leAt p 0 4 ∧ n = leAt p 4 1)
    ∧ (∃ (s : State) (mb : Nat) (p : List Byte) (n : Nat) (x : Nat), mb = 0 ∧ MailOk s ∧ Runs s mb 0x0106 p ∧ p.length = 8 ∧ x = leAt p 0 4 ∧ n = leAt p 4 1)
    ∧ (∃ (s : State) (mb : Nat) (p : List Byte) (n : Nat) (x : Nat) (ws : List Word), mb = 0 ∧ MailOk s ∧ Runs s mb 0x0107 p ∧ x = leAt p 0 4 ∧ n = leAt p 4 1 ∧ p.length = 8 + 4 * n ∧ ws = (List.range n).map (fun i => BitVec.ofNat 32 (leAt p (8 + 4 * i) 4)))
    ∧ (∃ (s : State) (mb : Nat) (p : List Byte) (n : Nat) (x : Nat) (ws : List Word), mb = 0 ∧ MailOk s ∧ Runs s mb 0x0107 p ∧ x = leAt p 0 4 ∧ n = leAt p 4 1 ∧ p.length = 8 + 4 * n ∧ ws = (List.range n).map (fun i => BitVec.ofNat 32 (leAt p (8 + 4 * i) 4)))
    ∧ (∃ (s : State) (mb : Nat) (p : List Byte) (n : Nat) (x : Nat) (ws : List Word), mb = 0 ∧ MailOk s ∧ Runs s mb 0x0107 p ∧ x = leAt p 0 4 ∧ n = leAt p 4 1 ∧ p.length = 8 + 4 * n ∧ ws = (List.range n).map (fun i => BitVec.ofNat 32 (leAt p (8 + 4 * i) 4)))
    ∧ (∃ (s : State) (mb : Nat) (p : List Byte), mb = 0 ∧ MailOk s ∧ Runs s mb 0x0108 p ∧ p.length ≤ 248)
    ∧ (∃ (s : State) (mb : Nat) (p : List Byte), mb = 0 ∧ MailOk s ∧ Runs s mb 0x0108 p ∧ p.length ≤ 248)
    ∧ (∃ (s : State) (mb : Nat) (p : List Byte), mb = 0 ∧ MailOk s ∧ Runs s mb 0x0102 p ∧ p.length = 12)
    ∧ (∃ (s : State) (mb : Nat) (p : List Byte), mb = 0 ∧ MailOk s ∧ Runs s mb 0x0102 p ∧ p.length = 12)
    ∧ (∃ (s : State) (mb : Nat) (p : List Byte), mb = 0 ∧ MailOk s ∧ Runs s mb 0x0102 p ∧ p.length = 12)
    ∧ (∃ (s : State) (mb : Nat) (p : List Byte), mb = 0 ∧ MailOk s ∧ Runs s mb 0x0102 p ∧ p.length = 12)
    ∧ (∃ (s : State) (mb : Nat) (p : List Byte), mb = 0 ∧ MailOk s ∧ Runs s mb 0x0102 p ∧ p.length = 12)
    ∧ (∃ (s : State) (mb : Nat) (p : List Byte), mb = 0 ∧ MailOk s ∧ Runs s mb 0x0103 p ∧ p.length = 12)
    ∧ (∃ (s : State) (mb : Nat) (p : List Byte), mb = 0 ∧ MailOk s ∧ Runs s mb 0x0103 p ∧ p.length = 12)
    ∧ (∃ (s : State) (mb : Nat) (p : List Byte), mb = 0 ∧ MailOk s ∧ Runs s mb 0x0103 p ∧ p.length = 12)
    ∧ (∃ (s : State) (mb : Nat) (p : List Byte), mb = 0 ∧ MailOk s ∧ Runs s mb 0x0103 p ∧ p.length = 12)
    ∧ (∃ (s : State) (mb : Nat) (p : List Byte) (x : Session), mb = 0 ∧ MailOk s ∧ Runs s mb 0x0104 p ∧ p.length = 2 ∧ ownSession s (s.mb mb) (leAt p 0 2) = some x) :=
  ⟨⟨up.asked 7 0x0101 [], 7, rfl, by unfold MailOk Runs; decide +kernel⟩,
    ⟨up.asked 7 0x0105 (toLe 8 0xFFFFFFFFFFFFFFFF), 7, toLe 8 0xFFFFFFFFFFFFFFFF, rfl, by unfold MailOk Runs; decide +kernel⟩,
    ⟨up.asked 0 0x0106 (toLe 4 16 ++ [0, 0, 0, 0]), 0, toLe 4 16 ++ [0, 0, 0, 0], 0, 16, rfl, by unfold MailOk Runs; decide +kernel⟩,
    ⟨up.asked 0 0x0106 (toLe 4 16 ++ [61, 0, 0, 0]), 0, toLe 4 16 ++ [61, 0, 0, 0], 61, 16, rfl, by unfold MailOk Runs; decide +kernel⟩,
    ⟨up.asked 0 0x0106 (toLe 4 536871424 ++ [1, 0, 0, 0]), 0, toLe 4 536871424 ++ [1, 0, 0, 0], 1, 536871424, rfl, by unfold MailOk Runs; decide +kernel⟩,
    ⟨up.asked 0 0x0106 (toLe 4 786432 ++ [1, 0, 0, 0]), 0, toLe 4 786432 ++ [1, 0, 0, 0], 1, 786432, rfl, by unfold MailOk Runs; decide +kernel⟩,
    ⟨up.asked 0 0x0107 (toLe 4 16 ++ [0, 0, 0, 0] ++ List.replicate 0 0xA5), 0, toLe 4 16 ++ [0, 0, 0, 0] ++ List.replicate 0 0xA5, 0, 16, List.replicate 0 0xA5A5A5A5, rfl, by unfold MailOk Runs; decide +kernel⟩,
    ⟨up.asked 0 0x0107 (toLe 4 16 ++ [1, 0, 0, 0] ++ List.replicate 4 0xA5), 0, toLe 4 16 ++ [1, 0, 0, 0] ++ List.replicate 4 0xA5, 1, 16, List.replicate 1 0xA5A5A5A5, rfl, by unfold MailOk Runs; decide +kernel⟩,
    ⟨up.asked 0 0x0107 (toLe 4 786432 ++ [57, 0, 0, 0] ++ List.replicate 228 0xA5), 0, toLe 4 786432 ++ [57, 0, 0, 0] ++ List.replicate 228 0xA5, 57, 786432, List.replicate 57 0xA5A5A5A5, rfl, by unfold MailOk Runs; decide +kernel⟩,
    ⟨up.asked 0 0x0108 (List.replicate 248 7), 0, List.replicate 248 7, rfl, by unfold MailOk Runs; decide +kernel⟩,
    ⟨up.asked 0 0x0108 ([]), 0, [], rfl, by unfold MailOk Runs; decide +kernel⟩,
    ⟨up.asked 0 0x0102 ([1, 0, 0, 0, 1, 2, 3, 4, 5, 6, 7, 8]), 0, [1, 0, 0, 0, 1, 2, 3, 4, 5, 6, 7, 8], rfl, by unfold MailOk Runs; decide +kernel⟩,
    ⟨up.asked 0 0x0102 ([2, 0, 0, 0, 1, 2, 3, 4, 5, 6, 7, 8]), 0, [2, 0, 0, 0, 1, 2, 3, 4, 5, 6, 7, 8], rfl, by unfold MailOk Runs; decide +kernel⟩,
    ⟨up.asked 0 0x0102 ([0, 0, 0, 0, 1, 2, 3, 4, 5, 6, 7, 8]), 0, [0, 0, 0, 0, 1, 2, 3, 4, 5, 6, 7, 8], rfl, by unfold MailOk Runs; decide +kernel⟩,
    ⟨({ keyed with mbx := { Mbx.reset with sessions := [⟨0, 0, 0, 0, List.replicate 8 1, List.replicate 8 2, none, none, 0⟩, ⟨1, 0, 0, 0, List.replicate 8 1, List.replicate 8 2, none, none, 0⟩, ⟨2, 0, 0, 0, List.replicate 8 1, List.replicate 8 2, none, none, 0⟩, ⟨3, 0, 0, 0, List.replicate 8 1, List.replicate 8 2, none, none, 0⟩] } }).asked 0 0x0102 ([1, 0, 0, 0, 1, 2, 3, 4, 5, 6, 7, 8]), 0, [1, 0, 0, 0, 1, 2, 3, 4, 5, 6, 7, 8], rfl, by unfold MailOk Runs; decide +kernel⟩,
    ⟨({ up with mbx := { Mbx.reset with opens := [(0, 0, 0)] }, lt := 39999999 }).asked 0 0x0102 ([1, 0, 0, 0, 1, 2, 3, 4, 5, 6, 7, 8]), 0, [1, 0, 0, 0, 1, 2, 3, 4, 5, 6, 7, 8], rfl, by unfold MailOk Runs; decide +kernel⟩,
    ⟨({ up with guard := { Guard.reset with hostKey := some (List.replicate 16 3) }, mbx := { Mbx.reset with sessions := [⟨5, 0, 0, 0, List.replicate 8 1, List.replicate 8 2, none, none, 0⟩] } }).asked 0 0x0103 (toLe 2 5 ++ [0, 0] ++ (cmac (List.replicate 16 3) ([1] ++ List.replicate 8 2 ++ List.replicate 8 1)).take 8), 0, toLe 2 5 ++ [0, 0] ++ (cmac (List.replicate 16 3) ([1] ++ List.replicate 8 2 ++ List.replicate 8 1)).take 8, rfl, by unfold MailOk Runs; decide +kernel⟩,
    ⟨({ up with guard := { Guard.reset with hostKey := some (List.replicate 16 3) }, mbx := { Mbx.reset with sessions := [⟨5, 0, 0, 0, List.replicate 8 1, List.replicate 8 2, none, none, 0⟩] } }).asked 0 0x0103 (toLe 2 5 ++ [0, 0] ++ List.replicate 8 0), 0, toLe 2 5 ++ [0, 0] ++ List.replicate 8 0, rfl, by unfold MailOk Runs; decide +kernel⟩,
    ⟨({ up with guard := { Guard.reset with hostKey := some (List.replicate 16 3) }, mbx := { Mbx.reset with sessions := [⟨5, 0, 0, 0, List.replicate 8 1, List.replicate 8 2, some [], none, 0⟩] } }).asked 0 0x0103 (toLe 2 5 ++ [0, 0] ++ (cmac (List.replicate 16 3) ([1] ++ List.replicate 8 2 ++ List.replicate 8 1)).take 8), 0, toLe 2 5 ++ [0, 0] ++ (cmac (List.replicate 16 3) ([1] ++ List.replicate 8 2 ++ List.replicate 8 1)).take 8, rfl, by unfold MailOk Runs; decide +kernel⟩,
    ⟨({ up with guard := { Guard.reset with hostKey := some (List.replicate 16 3) }, mbx := { Mbx.reset with sessions := [⟨5, 0, 0, 0, List.replicate 8 1, List.replicate 8 2, none, none, 0⟩] } }).asked 0 0x0103 (toLe 2 6 ++ [0, 0] ++ (cmac (List.replicate 16 3) ([1] ++ List.replicate 8 2 ++ List.replicate 8 1)).take 8), 0, toLe 2 6 ++ [0, 0] ++ (cmac (List.replicate 16 3) ([1] ++ List.replicate 8 2 ++ List.replicate 8 1)).take 8, rfl, by unfold MailOk Runs; decide +kernel⟩,
    ⟨({ up with guard := { Guard.reset with hostKey := some (List.replicate 16 3) }, mbx := { Mbx.reset with sessions := [⟨5, 0, 0, 0, List.replicate 8 1, List.replicate 8 2, none, none, 0⟩] } }).asked 0 0x0104 ([5, 0]), 0, [5, 0], ⟨5, 0, 0, 0, List.replicate 8 1, List.replicate 8 2, none, none, 0⟩, rfl, by unfold MailOk Runs; decide +kernel⟩⟩

theorem test_witness_SceneCommands :
    (∃ (s : State) (mb : Nat) (p : List Byte), mb = 7 ∧ MailOk s ∧ Runs s mb 0x0201 p ∧ p.length = 4 ∧ leAt p 0 1 ≤ 7 ∧ leAt p 1 1 ≤ 1 ∧ s.flag (CLK.GATE.EN 13) = true)
    ∧ (∃ (s : State) (mb : Nat) (p : List Byte), mb = 0 ∧ MailOk s ∧ Runs s mb 0x0201 p ∧ p.length = 4 ∧ leAt p 0 1 ≤ 7 ∧ leAt p 1 1 ≤ 1 ∧ s.flag (CLK.GATE.EN 13) = true)
    ∧ (∃ (s : State) (mb : Nat), mb = 0 ∧ MailOk s ∧ Runs s mb 0x0202 [] ∧ s.flag (CLK.GATE.EN 13) = true)
    ∧ (∃ (s : State) (mb : Nat), mb = 3 ∧ MailOk s ∧ Runs s mb 0x0202 [] ∧ s.flag (CLK.GATE.EN 13) = true)
    ∧ (∃ (s : State) (mb : Nat) (p : List Byte), mb = 0 ∧ MailOk s ∧ Runs s mb 0x0203 p ∧ p.length = 1)
    ∧ (∃ (s : State) (mb : Nat) (p : List Byte), mb = 0 ∧ MailOk s ∧ Runs s mb 0x0203 p ∧ p.length = 1)
    ∧ (∃ (s : State) (mb : Nat) (p : List Byte) (n : Nat), mb = 0 ∧ MailOk s ∧ Runs s mb 0x0301 p ∧ p.length = 20 ∧ n = leAt p 0 1 ∧ n ≤ 6 ∧ leAt p 2 1 ≤ 63 ∧ leAt p 3 1 ≤ 63 ∧ leAt p 4 8 % 64 = 0 ∧ leAt p 4 8 < 2 ^ 34 ∧ touchesTop s (leAt p 4 8) (flipSpan s n) = false ∧ s.flag (CLK.GATE.EN 14) = true)
    ∧ (∃ (s : State) (mb : Nat) (p : List Byte) (n : Nat), mb = 0 ∧ MailOk s ∧ Runs s mb 0x0301 p ∧ p.length = 20 ∧ n = leAt p 0 1 ∧ n ≤ 6 ∧ leAt p 2 1 ≤ 63 ∧ leAt p 3 1 ≤ 63 ∧ leAt p 4 8 % 64 = 0 ∧ leAt p 4 8 < 2 ^ 34 ∧ touchesTop s (leAt p 4 8) (flipSpan s n) = false ∧ s.flag (CLK.GATE.EN 14) = true)
    ∧ (∃ (s : State) (mb : Nat) (p : List Byte), mb = 0 ∧ MailOk s ∧ Runs s mb 0x0302 p ∧ p.length = 8 ∧ leAt p 0 1 ≤ 63 ∧ 1 ≤ leAt p 2 2 ∧ leAt p 2 2 ≤ 1000)
    ∧ (∃ (s : State) (mb : Nat) (p : List Byte), mb = 7 ∧ MailOk s ∧ Runs s mb 0x0302 p ∧ p.length = 8 ∧ leAt p 0 1 ≤ 63 ∧ 1 ≤ leAt p 2 2 ∧ leAt p 2 2 ≤ 1000)
    ∧ (∃ (s : State) (mb : Nat) (p : List Byte) (n : Nat) (k : Nat) (i : Nat), mb = 0 ∧ MailOk s ∧ Runs s mb 0x0303 p ∧ n = leAt p 4 2 ∧ k = leAt p 0 1 ∧ i = leAt p 2 2 ∧ p.length = 8 + 2 * n ∧ k ≤ 15 ∧ 1 ≤ n ∧ n ≤ 120 ∧ s.flag (CLK.GATE.EN 14) = true)
    ∧ (∃ (s : State) (mb : Nat) (p : List Byte) (n : Nat) (k : Nat) (i : Nat), mb = 0 ∧ MailOk s ∧ Runs s mb 0x0303 p ∧ n = leAt p 4 2 ∧ k = leAt p 0 1 ∧ i = leAt p 2 2 ∧ p.length = 8 + 2 * n ∧ k ≤ 15 ∧ 1 ≤ n ∧ n ≤ 120 ∧ s.flag (CLK.GATE.EN 14) = true)
    ∧ (∃ (s : State) (mb : Nat) (p : List Byte) (n : Nat) (k : Nat) (i : Nat), mb = 0 ∧ MailOk s ∧ Runs s mb 0x0303 p ∧ n = leAt p 4 2 ∧ k = leAt p 0 1 ∧ i = leAt p 2 2 ∧ p.length = 8 + 2 * n ∧ k ≤ 15 ∧ 1 ≤ n ∧ n ≤ 120 ∧ s.flag (CLK.GATE.EN 14) = true)
    ∧ (∃ (s : State) (mb : Nat) (p : List Byte) (n : Nat) (k : Nat) (i : Nat), mb = 0 ∧ MailOk s ∧ Runs s mb 0x0303 p ∧ n = leAt p 4 2 ∧ k = leAt p 0 1 ∧ i = leAt p 2 2 ∧ p.length = 8 + 2 * n ∧ k ≤ 15 ∧ 1 ≤ n ∧ n ≤ 120 ∧ s.flag (CLK.GATE.EN 14) = true)
    ∧ (∃ (s : State) (mb : Nat) (p : List Byte), mb = 0 ∧ MailOk s ∧ ShapeOk s ∧ Runs s mb 0x0304 p ∧ p.length = 16 ∧ leAt p 0 1 ≤ 3 ∧ leAt p 2 2 ≤ 1023 ∧ (leAt p 12 4 = 0 ∨ touchesTop s (leAt p 4 8) (leAt p 12 4) = false))
    ∧ (∃ (s : State) (mb : Nat) (p : List Byte), mb = 0 ∧ MailOk s ∧ ShapeOk s ∧ Runs s mb 0x0304 p ∧ p.length = 16 ∧ leAt p 0 1 ≤ 3 ∧ leAt p 2 2 ≤ 1023 ∧ (leAt p 12 4 = 0 ∨ touchesTop s (leAt p 4 8) (leAt p 12 4) = false))
    ∧ (∃ (s : State) (mb : Nat) (p : List Byte) (n : Nat) (r : State × List (Nat × Nat)), mb = 0 ∧ MailOk s ∧ Runs s mb 0x0401 p ∧ n = leAt p 1 1 ∧ n ≤ 3 ∧ p.length = 4 + 64 * n ∧ r = applyRecords (bit (leAt p 0 1) 0) s 0 ((List.range n).map (fun i => bytesAt p (4 + 64 * i) 64)))
    ∧ (∃ (s : State) (mb : Nat) (p : List Byte) (n : Nat) (r : State × List (Nat × Nat)), mb = 0 ∧ MailOk s ∧ Runs s mb 0x0401 p ∧ n = leAt p 1 1 ∧ n ≤ 3 ∧ p.length = 4 + 64 * n ∧ r = applyRecords (bit (leAt p 0 1) 0) s 0 ((List.range n).map (fun i => bytesAt p (4 + 64 * i) 64)))
    ∧ (∃ (s : State) (mb : Nat) (p : List Byte), mb = 0 ∧ MailOk s ∧ Runs s mb 0x0402 p ∧ p.length = 4 ∧ leAt p 0 1 ≤ 1 ∧ (leAt p 0 1 = 1 ∨ leAt p 2 2 ≤ 255))
    ∧ (∃ (s : State) (mb : Nat) (p : List Byte), mb = 0 ∧ MailOk s ∧ Runs s mb 0x0402 p ∧ p.length = 4 ∧ leAt p 0 1 ≤ 1 ∧ (leAt p 0 1 = 1 ∨ leAt p 2 2 ≤ 255))
    ∧ (∃ (s : State) (mb : Nat), mb = 0 ∧ MailOk s ∧ SlotsOk s ∧ Runs s mb 0x0403 [] ∧ s.injWaits 15 = false) :=
  ⟨⟨up.asked 7 0x0201 ([7, 1, 0, 0]), 7, [7, 1, 0, 0], rfl, by unfold MailOk Runs; decide +kernel⟩,
    ⟨(scanning).asked 0 0x0201 ([0, 0, 0, 0]), 0, [0, 0, 0, 0], rfl, by unfold MailOk Runs; decide +kernel⟩,
    ⟨scanning.asked 0 0x0202 [], 0, rfl, by unfold MailOk Runs; decide +kernel⟩,
    ⟨State.asked (up.having [(SCAN.COMMIT_STATUS.COMMIT_PEND, 1)]) 3 0x0202 [], 3, rfl, by unfold MailOk Runs; decide +kernel⟩,
    ⟨({ up with stats := ⟨1, 2, 3, 4, 5, 6, 7, true⟩ }).asked 0 0x0203 ([1]), 0, [1], rfl, by unfold MailOk Runs; decide +kernel⟩,
    ⟨({ up with stats := ⟨1, 2, 3, 4, 5, 6, 7, true⟩ }).asked 0 0x0203 ([0]), 0, [0], rfl, by unfold MailOk Runs; decide +kernel⟩,
    ⟨up.asked 0 0x0301 ([6, 3, 63, 63] ++ toLe 8 17179869120 ++ toLe 4 5 ++ toLe 4 6), 0, [6, 3, 63, 63] ++ toLe 8 17179869120 ++ toLe 4 5 ++ toLe 4 6, 6, rfl, by unfold MailOk Runs; decide +kernel⟩,
    ⟨up.asked 0 0x0301 ([0, 0, 0, 0] ++ toLe 8 0 ++ toLe 4 5 ++ toLe 4 6), 0, [0, 0, 0, 0] ++ toLe 8 0 ++ toLe 4 5 ++ toLe 4 6, 0, rfl, by unfold MailOk Runs; decide +kernel⟩,
    ⟨up.asked 0 0x0302 (([63, 0] ++ toLe 2 1000 ++ toLe 4 0)), 0, ([63, 0] ++ toLe 2 1000 ++ toLe 4 0), rfl, by unfold MailOk Runs; decide +kernel⟩,
    ⟨up.asked 7 0x0302 (([0, 0] ++ toLe 2 1 ++ toLe 4 1)), 7, ([0, 0] ++ toLe 2 1 ++ toLe 4 1), rfl, by unfold MailOk Runs; decide +kernel⟩,
    ⟨up.asked 0 0x0303 ([1, 0] ++ toLe 2 0 ++ toLe 2 1 ++ [0, 0] ++ List.replicate 2 9), 0, [1, 0] ++ toLe 2 0 ++ toLe 2 1 ++ [0, 0] ++ List.replicate 2 9, 1, 1, 0, rfl, by unfold MailOk Runs; decide +kernel⟩,
    ⟨up.asked 0 0x0303 ([0, 0] ++ toLe 2 0 ++ toLe 2 120 ++ [0, 0] ++ List.replicate 240 9), 0, [0, 0] ++ toLe 2 0 ++ toLe 2 120 ++ [0, 0] ++ List.replicate 240 9, 120, 0, 0, rfl, by unfold MailOk Runs; decide +kernel⟩,
    ⟨up.asked 0 0x0303 ([15, 0] ++ toLe 2 0 ++ toLe 2 1 ++ [0, 0] ++ List.replicate 2 9), 0, [15, 0] ++ toLe 2 0 ++ toLe 2 1 ++ [0, 0] ++ List.replicate 2 9, 1, 15, 0, rfl, by unfold MailOk Runs; decide +kernel⟩,
    ⟨up.asked 0 0x0303 ([1, 0] ++ toLe 2 65535 ++ toLe 2 120 ++ [0, 0] ++ List.replicate 240 9), 0, [1, 0] ++ toLe 2 65535 ++ toLe 2 120 ++ [0, 0] ++ List.replicate 240 9, 120, 1, 65535, rfl, by unfold MailOk Runs; decide +kernel⟩,
    ⟨up.asked 0 0x0304 ([3, 0] ++ toLe 2 1023 ++ toLe 8 0 ++ toLe 4 0), 0, [3, 0] ++ toLe 2 1023 ++ toLe 8 0 ++ toLe 4 0, rfl, by unfold MailOk ShapeOk Runs; decide +kernel⟩,
    ⟨up.asked 0 0x0304 ([0, 0] ++ toLe 2 0 ++ toLe 8 4096 ++ toLe 4 64), 0, [0, 0] ++ toLe 2 0 ++ toLe 8 4096 ++ toLe 4 64, rfl, by unfold MailOk ShapeOk Runs; decide +kernel⟩,
    ⟨up.asked 0 0x0401 ([3, 3, 0, 0] ++ ctxRaw 7 1 50 ++ ctxRaw 8 3 9 ++ List.replicate 64 0), 0, [3, 3, 0, 0] ++ ctxRaw 7 1 50 ++ ctxRaw 8 3 9 ++ List.replicate 64 0, 3, _, rfl, by unfold MailOk; decide +kernel, by unfold Runs; decide +kernel, by decide +kernel, by decide +kernel, by decide +kernel, rfl⟩,
    ⟨up.asked 0 0x0401 ([0, 0, 0, 0]), 0, [0, 0, 0, 0], 0, _, rfl, by unfold MailOk; decide +kernel, by unfold Runs; decide +kernel, by decide +kernel, by decide +kernel, by decide +kernel, rfl⟩,
    ⟨(stagedSlots true).asked 0 0x0402 ([0, 0] ++ toLe 2 255), 0, [0, 0] ++ toLe 2 255, rfl, by unfold MailOk Runs; decide +kernel⟩,
    ⟨(stagedSlots true).asked 0 0x0402 ([1, 0] ++ toLe 2 7), 0, [1, 0] ++ toLe 2 7, rfl, by unfold MailOk Runs; decide +kernel⟩,
    ⟨(stagedSlots true).asked 0 0x0403 [], 0, rfl, by unfold MailOk SlotsOk Runs; decide +kernel⟩⟩

theorem test_witness_KernelCommands :
    (∃ (s : State) (mb : Nat) (b : List Byte), mb = 0 ∧ MailOk s ∧ Runs s mb 0x0501 b ∧ 32 ≤ b.length ∧ b.length ≤ 224 ∧ blkNeeds b ≤ b.length)
    ∧ (∃ (s : State) (mb : Nat) (b : List Byte), mb = 0 ∧ MailOk s ∧ Runs s mb 0x0501 b ∧ 32 ≤ b.length ∧ b.length ≤ 224 ∧ blkNeeds b ≤ b.length)
    ∧ (∃ (s : State) (mb : Nat) (b : List Byte), mb = 0 ∧ MailOk s ∧ Runs s mb 0x0501 b ∧ 32 ≤ b.length ∧ b.length ≤ 224 ∧ blkNeeds b ≤ b.length)
    ∧ (∃ (s : State) (mb : Nat) (b : List Byte), mb = 0 ∧ MailOk s ∧ Runs s mb 0x0501 b ∧ 32 ≤ b.length ∧ b.length ≤ 224 ∧ blkNeeds b ≤ b.length)
    ∧ (∃ (s : State) (mb : Nat) (b : List Byte), mb = 0 ∧ MailOk s ∧ Runs s mb 0x0501 b ∧ 32 ≤ b.length ∧ b.length ≤ 224 ∧ blkNeeds b ≤ b.length)
    ∧ (∃ (s : State) (mb : Nat) (p : List Byte) (n : Nat), mb = 0 ∧ MailOk s ∧ Runs s mb 0x0502 p ∧ p.length = 1 ∧ n = leAt p 0 1 ∧ (n ≤ 6 ∨ n = 0xFF))
    ∧ (∃ (s : State) (mb : Nat) (p : List Byte) (n : Nat), mb = 0 ∧ MailOk s ∧ Runs s mb 0x0502 p ∧ p.length = 1 ∧ n = leAt p 0 1 ∧ (n ≤ 6 ∨ n = 0xFF))
    ∧ (∃ (s : State) (mb : Nat), mb = 0 ∧ MailOk s ∧ Runs s mb 0x0503 [])
    ∧ (∃ (s : State) (mb : Nat), mb = 0 ∧ MailOk s ∧ Runs s mb 0x0503 [])
    ∧ (∃ (s : State) (mb : Nat) (p : List Byte) (n : Nat) (o : Nat) (c : Nat), mb = 0 ∧ MailOk s ∧ Runs s mb 0x0504 p ∧ n = leAt p 0 1 ∧ o = leAt p 4 4 ∧ c = leAt p 8 2 ∧ p.length = 12 + c ∧ n ≤ 4 ∧ 2 ≤ c ∧ c ≤ 236 ∧ c % 2 = 0 ∧ o + c ≤ 132098)
    ∧ (∃ (s : State) (mb : Nat) (p : List Byte) (n : Nat) (o : Nat) (c : Nat), mb = 0 ∧ MailOk s ∧ Runs s mb 0x0504 p ∧ n = leAt p 0 1 ∧ o = leAt p 4 4 ∧ c = leAt p 8 2 ∧ p.length = 12 + c ∧ n ≤ 4 ∧ 2 ≤ c ∧ c ≤ 236 ∧ c % 2 = 0 ∧ o + c ≤ 132098)
    ∧ (∃ (s : State) (mb : Nat) (p : List Byte) (n : Nat) (o : Nat) (c : Nat), mb = 0 ∧ MailOk s ∧ Runs s mb 0x0504 p ∧ n = leAt p 0 1 ∧ o = leAt p 4 4 ∧ c = leAt p 8 2 ∧ p.length = 12 + c ∧ n ≤ 4 ∧ 2 ≤ c ∧ c ≤ 236 ∧ c % 2 = 0 ∧ o + c ≤ 132098)
    ∧ (∃ (s : State) (mb : Nat) (d : Nat) (a : Nat), mb = 0 ∧ d = 0 ∧ MailOk s ∧ Runs s mb 0x0505 [] ∧ s.flag DDRC.STATUS.READY = true ∧ directory s = some d ∧ a = (dirEntry s d 2).1)
    ∧ (∃ (s : State) (mb : Nat), mb = 0 ∧ MailOk s ∧ Runs s mb 0x0506 []) :=
  ⟨⟨State.asked (up) 0 0x0501 (block 2 6 0 63 4096 128 8 3 62), 0, block 2 6 0 63 4096 128 8 3 62, rfl, by unfold MailOk Runs; decide +kernel⟩,
    ⟨State.asked ({ up with eng := { Eng.reset with building := [block 1 255 2 0 4096 64 8 3 0, block 2 6 0 63 4096 128 8 3 62] } }) 0 0x0501 (block 2 6 0 63 4096 128 8 3 62), 0, block 2 6 0 63 4096 128 8 3 62, rfl, by unfold MailOk Runs; decide +kernel⟩,
    ⟨State.asked ({ up with eng := { Eng.reset with building := List.replicate 16 (block 1 255 2 0 4096 64 8 3 0), patOpen := [0] } }) 0 0x0501 (block 2 6 0 63 4096 128 8 3 62), 0, block 2 6 0 63 4096 128 8 3 62, rfl, by unfold MailOk Runs; decide +kernel⟩,
    ⟨State.asked (up) 0 0x0501 (block 5 6 0 63 4096 128 8 3 62), 0, block 5 6 0 63 4096 128 8 3 62, rfl, by unfold MailOk Runs; decide +kernel⟩,
    ⟨State.asked (up) 0 0x0501 ((block 1 6 0 63 4096 128 8 3 62).take 0x28), 0, (block 1 6 0 63 4096 128 8 3 62).take 0x28, rfl, by unfold MailOk Runs; decide +kernel⟩,
    ⟨({ up with eng := { Eng.reset with building := [block 1 255 2 0 4096 64 8 3 0, block 2 6 0 63 4096 128 8 3 62, block 2 0 2 1 0 64 1 1 0] } }).asked 0 0x0502 ([6]), 0, [6], 6, rfl, by unfold MailOk Runs; decide +kernel⟩,
    ⟨({ up with eng := { Eng.reset with building := [block 1 255 2 0 4096 64 8 3 0, block 2 6 0 63 4096 128 8 3 62, block 2 0 2 1 0 64 1 1 0] } }).asked 0 0x0502 ([0xFF]), 0, [0xFF], 0xFF, rfl, by unfold MailOk Runs; decide +kernel⟩,
    ⟨({ up with eng := { Eng.reset with building := [block 1 255 2 0 4096 64 8 3 0, block 2 6 0 63 4096 128 8 3 62, block 2 0 2 1 0 64 1 1 0] } }).asked 0 0x0503 [], 0, rfl, by unfold MailOk Runs; decide +kernel⟩,
    ⟨State.asked (({ up with eng := { Eng.reset with building := [block 1 255 2 0 4096 64 8 3 0, block 2 6 0 63 4096 128 8 3 62, block 2 0 2 1 0 64 1 1 0] } }).having [(BE.CTRL.EN, 1), (SCAN.FRAME_NUM.FRAME_NUM, 0xFFFFFFFF)]) 0 0x0503 [], 0, rfl, by unfold MailOk Runs; decide +kernel⟩,
    ⟨({ up with eng := { Eng.reset with patOpen := [0, 2], patDue := [1, 4], patGen := 255 :: List.replicate 255 0, patNext := [(0, 5), (262146, 6)] } }.having [(DDRC.STATUS.READY, 1)]).asked 0 0x0504 ([4, 1, 0, 0] ++ toLe 4 131862 ++ toLe 2 236 ++ [0, 0] ++ List.replicate 236 9), 0, [4, 1, 0, 0] ++ toLe 4 131862 ++ toLe 2 236 ++ [0, 0] ++ List.replicate 236 9, 4, 131862, 236, rfl, by unfold MailOk Runs; decide +kernel⟩,
    ⟨({ up with eng := { Eng.reset with patOpen := [0, 2], patDue := [1, 4], patGen := 255 :: List.replicate 255 0, patNext := [(0, 5), (262146, 6)] } }.having [(DDRC.STATUS.READY, 1)]).asked 0 0x0504 ([0, 0, 0, 0] ++ toLe 4 0 ++ toLe 2 2 ++ [0, 0] ++ List.replicate 2 9), 0, [0, 0, 0, 0] ++ toLe 4 0 ++ toLe 2 2 ++ [0, 0] ++ List.replicate 2 9, 0, 0, 2, rfl, by unfold MailOk Runs; decide +kernel⟩,
    ⟨up.asked 0 0x0504 ([0, 1, 0, 0] ++ toLe 4 0 ++ toLe 2 2 ++ [0, 0] ++ List.replicate 2 9), 0, [0, 1, 0, 0] ++ toLe 4 0 ++ toLe 2 2 ++ [0, 0] ++ List.replicate 2 9, 0, 0, 2, rfl, by unfold MailOk Runs; decide +kernel⟩,
    ⟨(flashed (up.having [(DDRC.STATUS.READY, 1)]) 0).asked 0 0x0505 [], 0, 0, _, rfl, rfl, by unfold MailOk; decide +kernel, by unfold Runs; decide +kernel, by decide +kernel, (asked_directory _ _ _ _).trans flashed_directoryA, rfl⟩,
    ⟨up.asked 0 0x0506 [], 0, rfl, by unfold MailOk Runs; decide +kernel⟩⟩

theorem test_witness_SafetyCommands :
    (∃ (s : State) (mb : Nat), mb = 0 ∧ MailOk s ∧ Runs s mb 0x0601 [])
    ∧ (∃ (s : State) (mb : Nat), mb = 7 ∧ MailOk s ∧ Runs s mb 0x0601 [])
    ∧ (∃ (s : State) (mb : Nat) (p : List Byte), mb = 0 ∧ MailOk s ∧ Runs s mb 0x0602 p ∧ p.length = 1)
    ∧ (∃ (s : State) (mb : Nat) (p : List Byte), mb = 0 ∧ MailOk s ∧ Runs s mb 0x0602 p ∧ p.length = 1)
    ∧ (∃ (s : State) (mb : Nat) (readBack : List (Nat × List Byte)) (p : List Byte) (b : List Byte) (rb : List Byte), mb = 0 ∧ MailOk s ∧ Runs s mb 0x0603 p ∧ p.length = 12 ∧ s.flag DDRC.STATUS.READY = true ∧ leAt p 0 8 + 131072 ≤ s.dramSize ∧ b = s.dramBytes (leAt p 0 8) 131072 ∧ rb = readBackPlane b readBack)
    ∧ (∃ (s : State) (mb : Nat) (readBack : List (Nat × List Byte)) (p : List Byte) (b : List Byte) (rb : List Byte), mb = 0 ∧ MailOk s ∧ Runs s mb 0x0603 p ∧ p.length = 12 ∧ s.flag DDRC.STATUS.READY = true ∧ leAt p 0 8 + 131072 ≤ s.dramSize ∧ b = s.dramBytes (leAt p 0 8) 131072 ∧ rb = readBackPlane b readBack)
    ∧ (∃ (s : State) (mb : Nat) (p : List Byte) (b : List Byte), mb = 0 ∧ MailOk s ∧ Runs s mb 0x0604 p ∧ p.length = 8 ∧ s.flag DDRC.STATUS.READY = true ∧ leAt p 0 8 + 1024 ≤ s.dramSize ∧ b = s.dramBytes (leAt p 0 8) 1024)
    ∧ (∃ (s : State) (mb : Nat) (p : List Byte) (b : List Byte), mb = 0 ∧ MailOk s ∧ Runs s mb 0x0604 p ∧ p.length = 8 ∧ s.flag DDRC.STATUS.READY = true ∧ leAt p 0 8 + 1024 ≤ s.dramSize ∧ b = s.dramBytes (leAt p 0 8) 1024)
    ∧ (∃ (s : State) (mb : Nat) (p : List Byte) (b : List Byte), mb = 0 ∧ MailOk s ∧ Runs s mb 0x0604 p ∧ p.length = 8 ∧ s.flag DDRC.STATUS.READY = true ∧ leAt p 0 8 + 1024 ≤ s.dramSize ∧ b = s.dramBytes (leAt p 0 8) 1024)
    ∧ (∃ (s : State) (mb : Nat) (p : List Byte) (n : Nat) (r : Nat) (c : Nat), mb = 0 ∧ MailOk s ∧ Runs s mb 0x0701 p ∧ p.length = 8 ∧ r = leAt p 0 2 ∧ c = leAt p 2 2 ∧ n = leAt p 4 1 ∧ r ≤ 1023 ∧ 1 ≤ n ∧ n ≤ 120 ∧ c + n ≤ 1024)
    ∧ (∃ (s : State) (mb : Nat) (p : List Byte) (n : Nat) (r : Nat) (c : Nat), mb = 0 ∧ MailOk s ∧ Runs s mb 0x0701 p ∧ p.length = 8 ∧ r = leAt p 0 2 ∧ c = leAt p 2 2 ∧ n = leAt p 4 1 ∧ r ≤ 1023 ∧ 1 ≤ n ∧ n ≤ 120 ∧ c + n ≤ 1024)
    ∧ (∃ (s : State) (mb : Nat) (p : List Byte), mb = 0 ∧ MailOk s ∧ Runs s mb 0x0702 p ∧ p.length = 4 ∧ 1 ≤ leAt p 2 1 ∧ leAt p 2 1 ≤ 60)
    ∧ (∃ (s : State) (mb : Nat) (p : List Byte), mb = 0 ∧ MailOk s ∧ Runs s mb 0x0702 p ∧ p.length = 4 ∧ 1 ≤ leAt p 2 1 ∧ leAt p 2 1 ≤ 60)
    ∧ (∃ (s : State) (mb : Nat) (p : List Byte) (n : Nat) (l : List (Nat × Nat)), mb = 0 ∧ MailOk s ∧ Runs s mb 0x0703 p ∧ n = leAt p 0 1 ∧ 1 ≤ n ∧ n ≤ 32 ∧ p.length = 4 + 4 * n ∧ l = (List.range n).map (fun i => (leAt p (4 + 4 * i) 2, leAt p (6 + 4 * i) 2)))
    ∧ (∃ (s : State) (mb : Nat) (p : List Byte) (n : Nat) (l : List (Nat × Nat)), mb = 0 ∧ MailOk s ∧ Runs s mb 0x0703 p ∧ n = leAt p 0 1 ∧ 1 ≤ n ∧ n ≤ 32 ∧ p.length = 4 + 4 * n ∧ l = (List.range n).map (fun i => (leAt p (4 + 4 * i) 2, leAt p (6 + 4 * i) 2)))
    ∧ (∃ (s : State) (mb : Nat) (p : List Byte) (src : Nat) (cls : Nat) (n : Nat), mb = 0 ∧ MailOk s ∧ Runs s mb 0x0704 p ∧ p.length = 4 ∧ src = leAt p 0 2 ∧ n = leAt p 3 1 ∧ cls = (if leAt p 2 1 = 0 then (sourceClasses src).headD 0 else leAt p 2 1))
    ∧ (∃ (s : State) (mb : Nat) (p : List Byte) (src : Nat) (cls : Nat) (n : Nat), mb = 0 ∧ MailOk s ∧ Runs s mb 0x0704 p ∧ p.length = 4 ∧ src = leAt p 0 2 ∧ n = leAt p 3 1 ∧ cls = (if leAt p 2 1 = 0 then (sourceClasses src).headD 0 else leAt p 2 1))
    ∧ (∃ (s : State) (mb : Nat) (p : List Byte) (src : Nat) (cls : Nat) (n : Nat), mb = 0 ∧ MailOk s ∧ Runs s mb 0x0704 p ∧ p.length = 4 ∧ src = leAt p 0 2 ∧ n = leAt p 3 1 ∧ cls = (if leAt p 2 1 = 0 then (sourceClasses src).headD 0 else leAt p 2 1))
    ∧ (∃ (s : State) (mb : Nat) (p : List Byte) (src : Nat) (cls : Nat) (n : Nat), mb = 0 ∧ MailOk s ∧ Runs s mb 0x0704 p ∧ p.length = 4 ∧ src = leAt p 0 2 ∧ n = leAt p 3 1 ∧ cls = (if leAt p 2 1 = 0 then (sourceClasses src).headD 0 else leAt p 2 1))
    ∧ (∃ (s : State) (mb : Nat) (p : List Byte) (src : Nat) (cls : Nat) (n : Nat), mb = 0 ∧ MailOk s ∧ Runs s mb 0x0704 p ∧ p.length = 4 ∧ src = leAt p 0 2 ∧ n = leAt p 3 1 ∧ cls = (if leAt p 2 1 = 0 then (sourceClasses src).headD 0 else leAt p 2 1)) :=
  ⟨⟨up.asked 0 0x0601 [], 0, rfl, by unfold MailOk Runs; decide +kernel⟩,
    ⟨{ up with guard := { Guard.reset with guardFail := true } }.asked 7 0x0601 [], 7, rfl, by unfold MailOk Runs; decide +kernel⟩,
    ⟨up.asked 0 0x0602 ([0]), 0, [0], rfl, by unfold MailOk Runs; decide +kernel⟩,
    ⟨up.asked 0 0x0602 ([255]), 0, [255], rfl, by unfold MailOk Runs; decide +kernel⟩,
    ⟨(dramPlane 0).asked 0 0x0603 (toLe 8 0 ++ toLe 4 5), 0, [], toLe 8 0 ++ toLe 4 5, _, _, rfl, by unfold MailOk; decide +kernel, by unfold Runs; decide +kernel, by decide +kernel, by decide +kernel, by decide +kernel, rfl, rfl⟩,
    ⟨({ dramPlane 0 with guard := { Guard.reset with limits := { Limits.rom with fbSel := 1 } } }).asked 0 0x0603 (toLe 8 0 ++ toLe 4 5), 0, [], toLe 8 0 ++ toLe 4 5, _, _, rfl, by unfold MailOk; decide +kernel, by unfold Runs; decide +kernel, by decide +kernel, by decide +kernel, by decide +kernel, rfl, rfl⟩,
    ⟨(dramPlane 0).asked 0 0x0604 (toLe 8 0), 0, toLe 8 0, _, rfl, by unfold MailOk; decide +kernel, by unfold Runs; decide +kernel, by decide +kernel, by decide +kernel, by decide +kernel, rfl⟩,
    ⟨(sealReady 0).asked 0 0x0604 (toLe 8 0), 0, toLe 8 0, _, rfl, by unfold MailOk; decide +kernel, by unfold Runs; decide +kernel, by decide +kernel, by decide +kernel, by decide +kernel, rfl⟩,
    ⟨(sealReady 15).asked 0 0x0604 (toLe 8 0), 0, toLe 8 0, _, rfl, by unfold MailOk; decide +kernel, by unfold Runs; decide +kernel, by decide +kernel, by decide +kernel, by decide +kernel, rfl⟩,
    ⟨up.asked 0 0x0701 (toLe 2 1023 ++ toLe 2 1023 ++ [1, 0, 0, 0]), 0, toLe 2 1023 ++ toLe 2 1023 ++ [1, 0, 0, 0], 1, 1023, 1023, rfl, by unfold MailOk Runs; decide +kernel⟩,
    ⟨up.asked 0 0x0701 (toLe 2 0 ++ toLe 2 0 ++ [120, 0, 0, 0]), 0, toLe 2 0 ++ toLe 2 0 ++ [120, 0, 0, 0], 120, 0, 0, rfl, by unfold MailOk Runs; decide +kernel⟩,
    ⟨up.asked 0 0x0702 ([0, 0, 60, 0]), 0, [0, 0, 60, 0], rfl, by unfold MailOk Runs; decide +kernel⟩,
    ⟨({ up with diag := { Diag.reset with map := [⟨1000, 1023, 1, false, false⟩, ⟨5, 6, 2, true, true⟩, ⟨7, 6, 3, false, false⟩], checkedAt := [(3, List.replicate 1024 999000000)], ageFrom := 7 } }).asked 0 0x0702 ([1, 0, 1, 0]), 0, [1, 0, 1, 0], rfl, by unfold MailOk Runs; decide +kernel⟩,
    ⟨({ up with diag := { Diag.reset with map := [⟨1000, 1023, 1, false, false⟩, ⟨5, 6, 2, true, true⟩, ⟨7, 6, 3, false, false⟩], checkedAt := [(3, List.replicate 1024 999000000)], ageFrom := 7 } }).asked 0 0x0703 ([1, 0, 0, 0] ++ toLe 2 5 ++ toLe 2 6), 0, [1, 0, 0, 0] ++ toLe 2 5 ++ toLe 2 6, 1, [(5, 6)], rfl, by unfold MailOk Runs; decide +kernel⟩,
    ⟨up.asked 0 0x0703 ([32, 0, 0, 0] ++ toLe 2 9 ++ toLe 2 9 ++ toLe 2 9 ++ toLe 2 9 ++ toLe 2 9 ++ toLe 2 9 ++ toLe 2 9 ++ toLe 2 9 ++ toLe 2 9 ++ toLe 2 9 ++ toLe 2 9 ++ toLe 2 9 ++ toLe 2 9 ++ toLe 2 9 ++ toLe 2 9 ++ toLe 2 9 ++ toLe 2 9 ++ toLe 2 9 ++ toLe 2 9 ++ toLe 2 9 ++ toLe 2 9 ++ toLe 2 9 ++ toLe 2 9 ++ toLe 2 9 ++ toLe 2 9 ++ toLe 2 9 ++ toLe 2 9 ++ toLe 2 9 ++ toLe 2 9 ++ toLe 2 9 ++ toLe 2 9 ++ toLe 2 9 ++ toLe 2 9 ++ toLe 2 9 ++ toLe 2 9 ++ toLe 2 9 ++ toLe 2 9 ++ toLe 2 9 ++ toLe 2 9 ++ toLe 2 9 ++ toLe 2 9 ++ toLe 2 9 ++ toLe 2 9 ++ toLe 2 9 ++ toLe 2 9 ++ toLe 2 9 ++ toLe 2 9 ++ toLe 2 9 ++ toLe 2 9 ++ toLe 2 9 ++ toLe 2 9 ++ toLe 2 9 ++ toLe 2 9 ++ toLe 2 9 ++ toLe 2 9 ++ toLe 2 9 ++ toLe 2 9 ++ toLe 2 9 ++ toLe 2 9 ++ toLe 2 9 ++ toLe 2 9 ++ toLe 2 9 ++ toLe 2 9 ++ toLe 2 9), 0, [32, 0, 0, 0] ++ toLe 2 9 ++ toLe 2 9 ++ toLe 2 9 ++ toLe 2 9 ++ toLe 2 9 ++ toLe 2 9 ++ toLe 2 9 ++ toLe 2 9 ++ toLe 2 9 ++ toLe 2 9 ++ toLe 2 9 ++ toLe 2 9 ++ toLe 2 9 ++ toLe 2 9 ++ toLe 2 9 ++ toLe 2 9 ++ toLe 2 9 ++ toLe 2 9 ++ toLe 2 9 ++ toLe 2 9 ++ toLe 2 9 ++ toLe 2 9 ++ toLe 2 9 ++ toLe 2 9 ++ toLe 2 9 ++ toLe 2 9 ++ toLe 2 9 ++ toLe 2 9 ++ toLe 2 9 ++ toLe 2 9 ++ toLe 2 9 ++ toLe 2 9 ++ toLe 2 9 ++ toLe 2 9 ++ toLe 2 9 ++ toLe 2 9 ++ toLe 2 9 ++ toLe 2 9 ++ toLe 2 9 ++ toLe 2 9 ++ toLe 2 9 ++ toLe 2 9 ++ toLe 2 9 ++ toLe 2 9 ++ toLe 2 9 ++ toLe 2 9 ++ toLe 2 9 ++ toLe 2 9 ++ toLe 2 9 ++ toLe 2 9 ++ toLe 2 9 ++ toLe 2 9 ++ toLe 2 9 ++ toLe 2 9 ++ toLe 2 9 ++ toLe 2 9 ++ toLe 2 9 ++ toLe 2 9 ++ toLe 2 9 ++ toLe 2 9 ++ toLe 2 9 ++ toLe 2 9 ++ toLe 2 9 ++ toLe 2 9, 32, [(9, 9), (9, 9), (9, 9), (9, 9), (9, 9), (9, 9), (9, 9), (9, 9), (9, 9), (9, 9), (9, 9), (9, 9), (9, 9), (9, 9), (9, 9), (9, 9), (9, 9), (9, 9), (9, 9), (9, 9), (9, 9), (9, 9), (9, 9), (9, 9), (9, 9), (9, 9), (9, 9), (9, 9), (9, 9), (9, 9), (9, 9), (9, 9)], rfl, by unfold MailOk Runs; decide +kernel⟩,
    ⟨up.asked 0 0x0704 (toLe 2 0 ++ [0, 1]), 0, toLe 2 0 ++ [0, 1], 0, (if 0 = 0 then (sourceClasses 0).headD 0 else 0), 1, rfl, by unfold MailOk Runs; decide +kernel⟩,
    ⟨up.asked 0 0x0704 (toLe 2 65 ++ [3, 255]), 0, toLe 2 65 ++ [3, 255], 65, (if 3 = 0 then (sourceClasses 65).headD 0 else 3), 255, rfl, by unfold MailOk Runs; decide +kernel⟩,
    ⟨up.asked 0 0x0704 (toLe 2 66 ++ [1, 1]), 0, toLe 2 66 ++ [1, 1], 66, (if 1 = 0 then (sourceClasses 66).headD 0 else 1), 1, rfl, by unfold MailOk Runs; decide +kernel⟩,
    ⟨up.asked 0 0x0704 (toLe 2 13 ++ [2, 3]), 0, toLe 2 13 ++ [2, 3], 13, (if 2 = 0 then (sourceClasses 13).headD 0 else 2), 3, rfl, by unfold MailOk Runs; decide +kernel⟩,
    ⟨up.asked 0 0x0704 (toLe 2 5 ++ [4, 1]), 0, toLe 2 5 ++ [4, 1], 5, (if 4 = 0 then (sourceClasses 5).headD 0 else 4), 1, rfl, by unfold MailOk Runs; decide +kernel⟩⟩

theorem test_witness_CalibrationAndPowerCommands :
    (∃ (s : State) (mb : Nat), mb = 0 ∧ MailOk s ∧ Runs s mb 0x0801 [] ∧ s.reg CAL.START_STATS.GLOBAL_MED ≠ 0)
    ∧ (∃ (s : State) (mb : Nat), mb = 7 ∧ MailOk s ∧ Runs s mb 0x0801 [])
    ∧ (∃ (s : State) (mb : Nat) (p : List Byte) (n : Nat) (r : Nat) (c : Nat), mb = 0 ∧ MailOk s ∧ Runs s mb 0x0802 p ∧ p.length = 8 ∧ r = leAt p 0 2 ∧ c = leAt p 2 2 ∧ n = leAt p 4 1)
    ∧ (∃ (s : State) (mb : Nat) (p : List Byte) (n : Nat) (r : Nat) (c : Nat), mb = 0 ∧ MailOk s ∧ Runs s mb 0x0802 p ∧ p.length = 8 ∧ r = leAt p 0 2 ∧ c = leAt p 2 2 ∧ n = leAt p 4 1)
    ∧ (∃ (s : State) (mb : Nat) (p : List Byte) (n : Nat) (r : Nat) (c : Nat), mb = 0 ∧ MailOk s ∧ Runs s mb 0x0802 p ∧ p.length = 8 ∧ r = leAt p 0 2 ∧ c = leAt p 2 2 ∧ n = leAt p 4 1)
    ∧ (∃ (s : State) (mb : Nat) (p : List Byte) (n : Nat) (r : Nat) (c : Nat), mb = 0 ∧ MailOk s ∧ Runs s mb 0x0803 p ∧ p.length = 8 ∧ r = leAt p 0 2 ∧ c = leAt p 2 2 ∧ n = leAt p 4 1 ∧ r ≤ 1023 ∧ 1 ≤ n ∧ n ≤ 60 ∧ c + n ≤ 1024)
    ∧ (∃ (s : State) (mb : Nat) (p : List Byte) (n : Nat) (r : Nat) (c : Nat), mb = 0 ∧ MailOk s ∧ Runs s mb 0x0803 p ∧ p.length = 8 ∧ r = leAt p 0 2 ∧ c = leAt p 2 2 ∧ n = leAt p 4 1 ∧ r ≤ 1023 ∧ 1 ≤ n ∧ n ≤ 60 ∧ c + n ≤ 1024)
    ∧ (∃ (s : State) (mb : Nat), mb = 0 ∧ MailOk s ∧ ShapeOk s ∧ Runs s mb 0x0804 [])
    ∧ (∃ (s : State) (mb : Nat), mb = 0 ∧ MailOk s ∧ Runs s mb 0x0805 [])
    ∧ (∃ (s : State) (mb : Nat), mb = 0 ∧ MailOk s ∧ Runs s mb 0x0805 [])
    ∧ (∃ (s : State) (mb : Nat) (p : List Byte) (l : Nat), mb = 0 ∧ MailOk s ∧ Runs s mb 0x0901 p ∧ p.length = 4 ∧ s.power = 0 ∧ l = (if leAt p 0 2 = 0 then [2, 5, 10, 20, 40, 100, 250].getD (s.reg PWR.STATE.WAKE_CODE) 250 else leAt p 0 2))
    ∧ (∃ (s : State) (mb : Nat) (p : List Byte) (l : Nat), mb = 0 ∧ MailOk s ∧ Runs s mb 0x0901 p ∧ p.length = 4 ∧ s.power = 0 ∧ l = (if leAt p 0 2 = 0 then [2, 5, 10, 20, 40, 100, 250].getD (s.reg PWR.STATE.WAKE_CODE) 250 else leAt p 0 2))
    ∧ (∃ (s : State) (mb : Nat) (p : List Byte) (l : Nat), mb = 0 ∧ MailOk s ∧ Runs s mb 0x0901 p ∧ p.length = 4 ∧ s.power = 0 ∧ l = (if leAt p 0 2 = 0 then [2, 5, 10, 20, 40, 100, 250].getD (s.reg PWR.STATE.WAKE_CODE) 250 else leAt p 0 2))
    ∧ (∃ (s : State) (mb : Nat) (p : List Byte) (l : Nat), mb = 0 ∧ MailOk s ∧ Runs s mb 0x0901 p ∧ p.length = 4 ∧ s.power = 0 ∧ l = (if leAt p 0 2 = 0 then [2, 5, 10, 20, 40, 100, 250].getD (s.reg PWR.STATE.WAKE_CODE) 250 else leAt p 0 2))
    ∧ (∃ (s : State) (mb : Nat), mb = 0 ∧ MailOk s ∧ Runs s mb 0x0902 [])
    ∧ (∃ (s : State) (mb : Nat), mb = 0 ∧ MailOk s ∧ Runs s mb 0x0902 [])
    ∧ (∃ (s : State) (mb : Nat) (p : List Byte) (a : Nat), mb = 0 ∧ MailOk s ∧ Runs s mb 0x0A01 p ∧ p.length = 2 ∧ a = leAt p 0 2)
    ∧ (∃ (s : State) (mb : Nat) (p : List Byte) (a : Nat), mb = 0 ∧ MailOk s ∧ Runs s mb 0x0A01 p ∧ p.length = 2 ∧ a = leAt p 0 2)
    ∧ (∃ (s : State) (mb : Nat) (p : List Byte) (a : Nat), mb = 0 ∧ MailOk s ∧ Runs s mb 0x0A01 p ∧ p.length = 2 ∧ a = leAt p 0 2)
    ∧ (∃ (s : State) (mb : Nat) (p : List Byte) (a : Nat), mb = 3 ∧ MailOk s ∧ Runs s mb 0x0A01 p ∧ p.length = 2 ∧ a = leAt p 0 2)
    ∧ (∃ (s : State) (p : Port) (pkt : Packet) (rx : Nat) (n : Nat), p = .b ∧ rx = 999999000 ∧ n = 7 ∧ MailOk s ∧ (s.port (portNo p)).pkt = some (pkt, rx) ∧ pkt.hdr.type = 0 ∧ pkt.hdr.tspec = 2 ∧ s.net.origin = some (leAt pkt.payload 0 2) ∧ s.net.enumMb = some n ∧ n < 8)
    ∧ (∃ (s : State) (mb : Nat) (p : List Byte), mb = 0 ∧ MailOk s ∧ Runs s mb 0x0A02 p ∧ p.length = 10 ∧ leAt p 8 2 ≤ 511) :=
  ⟨⟨({ up with cal := { Cal.reset with target := (List.range 64).map (fun z => 1000 * z) } }.having [(CAL.START_STATS.GLOBAL_MED, 1)]).asked 0 0x0801 [], 0, rfl, by unfold MailOk Runs; decide +kernel⟩,
    ⟨up.asked 7 0x0801 [], 7, rfl, by unfold MailOk Runs; decide +kernel⟩,
    ⟨up.asked 0 0x0802 (toLe 2 0 ++ toLe 2 0 ++ [0, 1, 0, 0]), 0, toLe 2 0 ++ toLe 2 0 ++ [0, 1, 0, 0], 0, 0, 0, rfl, by unfold MailOk Runs; decide +kernel⟩,
    ⟨up.asked 0 0x0802 (toLe 2 1023 ++ toLe 2 1023 ++ [1, 0, 0, 0]), 0, toLe 2 1023 ++ toLe 2 1023 ++ [1, 0, 0, 0], 1, 1023, 1023, rfl, by unfold MailOk Runs; decide +kernel⟩,
    ⟨up.asked 0 0x0802 (toLe 2 0 ++ toLe 2 784 ++ [240, 0, 0, 0]), 0, toLe 2 0 ++ toLe 2 784 ++ [240, 0, 0, 0], 240, 0, 784, rfl, by unfold MailOk Runs; decide +kernel⟩,
    ⟨up.asked 0 0x0803 (toLe 2 1023 ++ toLe 2 1023 ++ [1, 0, 0, 0]), 0, toLe 2 1023 ++ toLe 2 1023 ++ [1, 0, 0, 0], 1, 1023, 1023, rfl, by unfold MailOk Runs; decide +kernel⟩,
    ⟨up.asked 0 0x0803 (toLe 2 0 ++ toLe 2 0 ++ [60, 0, 0, 0]), 0, toLe 2 0 ++ toLe 2 0 ++ [60, 0, 0, 0], 60, 0, 0, rfl, by unfold MailOk Runs; decide +kernel⟩,
    ⟨up.asked 0 0x0804 [], 0, rfl, by unfold MailOk ShapeOk Runs; decide +kernel⟩,
    ⟨up.asked 0 0x0805 [], 0, rfl, by unfold MailOk Runs; decide +kernel⟩,
    ⟨scanning.asked 0 0x0805 [], 0, rfl, by unfold MailOk Runs; decide +kernel⟩,
    ⟨up.asked 0 0x0901 (toLe 2 1 ++ [7, 0]), 0, toLe 2 1 ++ [7, 0], (if 1 = 0 then [2, 5, 10, 20, 40, 100, 250].getD ((up.asked 0 0x0901 (toLe 2 1 ++ [7, 0])).reg PWR.STATE.WAKE_CODE) 250 else 1), rfl, by unfold MailOk Runs; decide +kernel⟩,
    ⟨up.asked 0 0x0901 (toLe 2 2 ++ [0, 0]), 0, toLe 2 2 ++ [0, 0], (if 2 = 0 then [2, 5, 10, 20, 40, 100, 250].getD ((up.asked 0 0x0901 (toLe 2 2 ++ [0, 0])).reg PWR.STATE.WAKE_CODE) 250 else 2), rfl, by unfold MailOk Runs; decide +kernel⟩,
    ⟨up.asked 0 0x0901 (toLe 2 250 ++ [7, 0]), 0, toLe 2 250 ++ [7, 0], (if 250 = 0 then [2, 5, 10, 20, 40, 100, 250].getD ((up.asked 0 0x0901 (toLe 2 250 ++ [7, 0])).reg PWR.STATE.WAKE_CODE) 250 else 250), rfl, by unfold MailOk Runs; decide +kernel⟩,
    ⟨up.asked 0 0x0901 (toLe 2 0 ++ [3, 0]), 0, toLe 2 0 ++ [3, 0], (if 0 = 0 then [2, 5, 10, 20, 40, 100, 250].getD ((up.asked 0 0x0901 (toLe 2 0 ++ [3, 0])).reg PWR.STATE.WAKE_CODE) 250 else 0), rfl, by unfold MailOk Runs; decide +kernel⟩,
    ⟨up.asked 0 0x0902 [], 0, rfl, by unfold MailOk Runs; decide +kernel⟩,
    ⟨{ scanning with mram := { up.mram with used := [(0x12, 60)] } }.asked 0 0x0902 [], 0, rfl, by unfold MailOk Runs; decide +kernel⟩,
    ⟨up.asked 0 0x0A01 (toLe 2 512), 0, toLe 2 512, 512, rfl, by unfold MailOk Runs; decide +kernel⟩,
    ⟨up.asked 0 0x0A01 (toLe 2 511), 0, toLe 2 511, 511, rfl, by unfold MailOk Runs; decide +kernel⟩,
    ⟨({ up with net := { up.net with enumMb := some 3, origin := some 4 } }).asked 0 0x0A01 (toLe 2 0), 0, toLe 2 0, 0, rfl, by unfold MailOk Runs; decide +kernel⟩,
    ⟨({ up with net := { up.net with enumMb := some 3, origin := some 4 } }).asked 3 0x0A01 (toLe 2 7), 3, toLe 2 7, 7, rfl, by unfold MailOk Runs; decide +kernel⟩,
    ⟨(({ linked with net := { linked.net with origin := some 4, enumMb := some 7 } }.setMb 7 (fun m => { m with phase := .started }))).holding 1 (packet 0 1023 6 2 (toLe 2 4 ++ toLe 2 3 ++ toLe 2 2 ++ toLe 2 5 ++ toLe 2 2 ++ [0, 0])) 999999000, .b, packet 0 1023 6 2 (toLe 2 4 ++ toLe 2 3 ++ toLe 2 2 ++ toLe 2 5 ++ toLe 2 2 ++ [0, 0]), 999999000, 7, rfl, rfl, rfl, by unfold MailOk; decide +kernel⟩,
    ⟨up.asked 0 0x0A02 (toLe 8 0 ++ toLe 2 511), 0, toLe 8 0 ++ toLe 2 511, rfl, by unfold MailOk Runs; decide +kernel⟩⟩

theorem test_witness_AuxEventAndRecordCommands :
    (∃ (s : State) (mb : Nat) (p : List Byte) (n : Nat) (k : Nat) (o : Nat), mb = 0 ∧ MailOk s ∧ Runs s mb 0x0B01 p ∧ k = leAt p 0 1 ∧ o = leAt p 2 2 ∧ n = leAt p 4 1 ∧ p.length = 8 + 6 * n ∧ k ≤ 3 ∧ 1 ≤ n ∧ n ≤ 40 ∧ o + n ≤ 256)
    ∧ (∃ (s : State) (mb : Nat) (p : List Byte) (n : Nat) (k : Nat) (o : Nat), mb = 0 ∧ MailOk s ∧ Runs s mb 0x0B01 p ∧ k = leAt p 0 1 ∧ o = leAt p 2 2 ∧ n = leAt p 4 1 ∧ p.length = 8 + 6 * n ∧ k ≤ 3 ∧ 1 ≤ n ∧ n ≤ 40 ∧ o + n ≤ 256)
    ∧ (∃ (s : State) (mb : Nat) (p : List Byte) (n : Nat) (g : Nat) (i : Nat), mb = 0 ∧ MailOk s ∧ Runs s mb 0x0B03 p ∧ g = leAt p 0 1 ∧ i = leAt p 2 2 ∧ n = leAt p 4 2 ∧ p.length = 8 + 2 * n ∧ g ≤ 3 ∧ 1 ≤ n ∧ n ≤ 120 ∧ i + n ≤ 257)
    ∧ (∃ (s : State) (mb : Nat) (p : List Byte) (n : Nat) (g : Nat) (i : Nat), mb = 0 ∧ MailOk s ∧ Runs s mb 0x0B03 p ∧ g = leAt p 0 1 ∧ i = leAt p 2 2 ∧ n = leAt p 4 2 ∧ p.length = 8 + 2 * n ∧ g ≤ 3 ∧ 1 ≤ n ∧ n ≤ 120 ∧ i + n ≤ 257)
    ∧ (∃ (s : State) (mb : Nat) (p : List Byte) (n : Nat), mb = 0 ∧ MailOk s ∧ ShapeOk s ∧ Runs s mb 0x0B04 p ∧ p.length = 6 ∧ n = leAt p 0 1 ∧ n ≤ 5)
    ∧ (∃ (s : State) (mb : Nat) (p : List Byte) (n : Nat), mb = 0 ∧ MailOk s ∧ ShapeOk s ∧ Runs s mb 0x0B04 p ∧ p.length = 6 ∧ n = leAt p 0 1 ∧ n ≤ 5)
    ∧ (∃ (s : State) (mb : Nat) (p : List Byte) (n : Nat), mb = 0 ∧ MailOk s ∧ ShapeOk s ∧ Runs s mb 0x0B04 p ∧ p.length = 6 ∧ n = leAt p 0 1 ∧ n ≤ 5)
    ∧ (∃ (s : State) (mb : Nat) (p : List Byte) (n : Nat), mb = 0 ∧ MailOk s ∧ Runs s mb 0x0C01 p ∧ p.length = 1 ∧ n = leAt p 0 1 ∧ 1 ≤ n ∧ n ≤ 7)
    ∧ (∃ (s : State) (mb : Nat) (p : List Byte) (n : Nat), mb = 0 ∧ MailOk s ∧ Runs s mb 0x0C01 p ∧ p.length = 1 ∧ n = leAt p 0 1 ∧ 1 ≤ n ∧ n ≤ 7)
    ∧ (∃ (s : State) (mb : Nat) (p : List Byte) (n : Nat), mb = 0 ∧ MailOk s ∧ Runs s mb 0x0C02 p ∧ p.length = 5 ∧ n = leAt p 4 1 ∧ 1 ≤ n ∧ n ≤ 7)
    ∧ (∃ (s : State) (mb : Nat) (p : List Byte) (n : Nat), mb = 0 ∧ MailOk s ∧ Runs s mb 0x0C02 p ∧ p.length = 5 ∧ n = leAt p 4 1 ∧ 1 ≤ n ∧ n ≤ 7)
    ∧ (∃ (s : State) (mb : Nat) (p : List Byte) (a : Nat) (n : Nat), mb = 0 ∧ MailOk s ∧ Runs s mb 0x0D01 p ∧ a = leAt p 0 4 ∧ n = leAt p 4 2 ∧ p.length = 8 + n ∧ 1 ≤ n ∧ n ≤ 224)
    ∧ (∃ (s : State) (mb : Nat) (p : List Byte) (a : Nat) (n : Nat), mb = 0 ∧ MailOk s ∧ Runs s mb 0x0D01 p ∧ a = leAt p 0 4 ∧ n = leAt p 4 2 ∧ p.length = 8 + n ∧ 1 ≤ n ∧ n ≤ 224)
    ∧ (∃ (s : State) (mb : Nat) (p : List Byte) (a : Nat) (n : Nat), mb = 0 ∧ MailOk s ∧ Runs s mb 0x0D01 p ∧ a = leAt p 0 4 ∧ n = leAt p 4 2 ∧ p.length = 8 + n ∧ 1 ≤ n ∧ n ≤ 224)
    ∧ (∃ (s : State) (mb : Nat) (p : List Byte) (a : Nat) (n : Nat), mb = 0 ∧ MailOk s ∧ Runs s mb 0x0D02 p ∧ p.length = 6 ∧ a = leAt p 0 4 / Config.flashSector * Config.flashSector ∧ n = leAt p 4 2 * Config.flashSector)
    ∧ (∃ (s : State) (mb : Nat) (p : List Byte) (d : Nat), mb = 0 ∧ d = 0 ∧ MailOk s ∧ Runs s mb 0x0D03 p ∧ p.length = 1 ∧ leAt p 0 1 ≤ 1 ∧ directory s = some d)
    ∧ (∃ (s : State) (mb : Nat) (p : List Byte) (d : Nat), mb = 0 ∧ d = 0 ∧ MailOk s ∧ Runs s mb 0x0D03 p ∧ p.length = 1 ∧ leAt p 0 1 ≤ 1 ∧ directory s = some d)
    ∧ (∃ (s : State) (mb : Nat) (p : List Byte) (d : Nat), mb = 0 ∧ d = 0 ∧ MailOk s ∧ Runs s mb 0x0D03 p ∧ p.length = 1 ∧ leAt p 0 1 ≤ 1 ∧ directory s = some d)
    ∧ (∃ (s : State) (mb : Nat) (p : List Byte) (num : Nat) (o : Nat) (n : Nat), mb = 0 ∧ MailOk s ∧ Runs s mb 0x0D04 p ∧ p.length = 8 ∧ num = leAt p 0 2 ∧ o = leAt p 2 2 ∧ n = leAt p 4 1 ∧ 1 ≤ n ∧ n ≤ 240)
    ∧ (∃ (s : State) (mb : Nat) (p : List Byte) (num : Nat) (o : Nat) (n : Nat), mb = 0 ∧ MailOk s ∧ Runs s mb 0x0D04 p ∧ p.length = 8 ∧ num = leAt p 0 2 ∧ o = leAt p 2 2 ∧ n = leAt p 4 1 ∧ 1 ≤ n ∧ n ≤ 240)
    ∧ (∃ (s : State) (mb : Nat) (p : List Byte) (num : Nat) (o : Nat) (n : Nat) (m : Nat), mb = 0 ∧ m = (cfgMax 256).get! ∧ MailOk s ∧ Runs s mb 0x0D05 p ∧ num = leAt p 0 2 ∧ o = leAt p 2 2 ∧ n = leAt p 4 1 ∧ p.length = 8 + n ∧ cfgMax num = some m ∧ 1 ≤ n ∧ n ≤ 224 ∧ o + n ≤ m)
    ∧ (∃ (s : State) (mb : Nat) (p : List Byte) (num : Nat) (o : Nat) (n : Nat) (m : Nat), mb = 0 ∧ m = (cfgMax 271).get! ∧ MailOk s ∧ Runs s mb 0x0D05 p ∧ num = leAt p 0 2 ∧ o = leAt p 2 2 ∧ n = leAt p 4 1 ∧ p.length = 8 + n ∧ cfgMax num = some m ∧ 1 ≤ n ∧ n ≤ 224 ∧ o + n ≤ m)
    ∧ (∃ (s : State) (mb : Nat) (p : List Byte) (num : Nat) (o : Nat) (n : Nat) (m : Nat), mb = 0 ∧ m = (cfgMax 2).get! ∧ MailOk s ∧ Runs s mb 0x0D05 p ∧ num = leAt p 0 2 ∧ o = leAt p 2 2 ∧ n = leAt p 4 1 ∧ p.length = 8 + n ∧ cfgMax num = some m ∧ 1 ≤ n ∧ n ≤ 224 ∧ o + n ≤ m)
    ∧ (∃ (s : State) (mb : Nat) (p : List Byte) (num : Nat) (o : Nat) (n : Nat) (m : Nat), mb = 0 ∧ m = (cfgMax 1).get! ∧ MailOk s ∧ Runs s mb 0x0D05 p ∧ num = leAt p 0 2 ∧ o = leAt p 2 2 ∧ n = leAt p 4 1 ∧ p.length = 8 + n ∧ cfgMax num = some m ∧ 1 ≤ n ∧ n ≤ 224 ∧ o + n ≤ m) :=
  ⟨⟨up.asked 0 0x0B01 ([3, 0] ++ toLe 2 216 ++ [40, 0, 0, 0] ++ List.replicate 240 9), 0, [3, 0] ++ toLe 2 216 ++ [40, 0, 0, 0] ++ List.replicate 240 9, 40, 3, 216, rfl, by unfold MailOk Runs; decide +kernel⟩,
    ⟨up.asked 0 0x0B01 ([0, 0] ++ toLe 2 0 ++ [1, 0, 0, 0] ++ List.replicate 6 9), 0, [0, 0] ++ toLe 2 0 ++ [1, 0, 0, 0] ++ List.replicate 6 9, 1, 0, 0, rfl, by unfold MailOk Runs; decide +kernel⟩,
    ⟨up.asked 0 0x0B03 ([3, 0] ++ toLe 2 137 ++ toLe 2 120 ++ [0, 0] ++ (List.range 240).map (BitVec.ofNat 8)), 0, [3, 0] ++ toLe 2 137 ++ toLe 2 120 ++ [0, 0] ++ (List.range 240).map (BitVec.ofNat 8), 120, 3, 137, rfl, by unfold MailOk Runs; decide +kernel⟩,
    ⟨up.asked 0 0x0B03 ([0, 0] ++ toLe 2 0 ++ toLe 2 1 ++ [0, 0] ++ (List.range 2).map (BitVec.ofNat 8)), 0, [0, 0] ++ toLe 2 0 ++ toLe 2 1 ++ [0, 0] ++ (List.range 2).map (BitVec.ofNat 8), 1, 0, 0, rfl, by unfold MailOk Runs; decide +kernel⟩,
    ⟨up.asked 0 0x0B04 ([5, 0] ++ toLe 2 65535 ++ toLe 2 100), 0, [5, 0] ++ toLe 2 65535 ++ toLe 2 100, 5, rfl, by unfold MailOk ShapeOk Runs; decide +kernel⟩,
    ⟨up.asked 0 0x0B04 ([0, 0] ++ toLe 2 0 ++ toLe 2 99), 0, [0, 0] ++ toLe 2 0 ++ toLe 2 99, 0, rfl, by unfold MailOk ShapeOk Runs; decide +kernel⟩,
    ⟨up.asked 0 0x0B04 ([0, 0] ++ toLe 2 0 ++ toLe 2 20000), 0, [0, 0] ++ toLe 2 0 ++ toLe 2 20000, 0, rfl, by unfold MailOk ShapeOk Runs; decide +kernel⟩,
    ⟨({ up with evt := ⟨(List.range 9).map eventNo, (List.range 9).map (fun n => eventNo (n + 0)), 9, 0, 0⟩ }).asked 0 0x0C01 ([7]), 0, [7], 7, rfl, by unfold MailOk Runs; decide +kernel⟩,
    ⟨up.asked 0 0x0C01 ([1]), 0, [1], 1, rfl, by unfold MailOk Runs; decide +kernel⟩,
    ⟨({ up with evt := ⟨(List.range 9).map eventNo, (List.range 9).map (fun n => eventNo (n + 5)), 9, 0, 0⟩ }).asked 0 0x0C02 (toLe 4 4 ++ [7]), 0, toLe 4 4 ++ [7], 7, rfl, by unfold MailOk Runs; decide +kernel⟩,
    ⟨({ up with evt := ⟨(List.range 9).map eventNo, (List.range 9).map (fun n => eventNo (n + 5)), 9, 0, 0⟩ }).asked 0 0x0C02 (toLe 4 5 ++ [1]), 0, toLe 4 5 ++ [1], 1, rfl, by unfold MailOk Runs; decide +kernel⟩,
    ⟨up.asked 0 0x0D01 (toLe 4 63 ++ toLe 2 1 ++ [0, 0] ++ List.replicate 1 0x5A), 0, toLe 4 63 ++ toLe 2 1 ++ [0, 0] ++ List.replicate 1 0x5A, 63, 1, rfl, by unfold MailOk; decide +kernel, by unfold Runs; decide +kernel, by decide +kernel, by decide +kernel, by decide +kernel, by decide +kernel, by decide +kernel⟩,
    ⟨((flashed (up.having [(DDRC.STATUS.READY, 1)]) 0)).asked 0 0x0D01 (toLe 4 64 ++ toLe 2 224 ++ [0, 0] ++ List.replicate 224 0x5A), 0, toLe 4 64 ++ toLe 2 224 ++ [0, 0] ++ List.replicate 224 0x5A, 64, 224, rfl, by unfold MailOk; decide +kernel, by unfold Runs; decide +kernel, by decide +kernel, by decide +kernel, by decide +kernel, by decide +kernel, by decide +kernel⟩,
    ⟨((flashed (up.having [(DDRC.STATUS.READY, 1)]) 0)).asked 0 0x0D01 (toLe 4 64 ++ toLe 2 1 ++ [0, 0] ++ List.replicate 1 0x5A), 0, toLe 4 64 ++ toLe 2 1 ++ [0, 0] ++ List.replicate 1 0x5A, 64, 1, rfl, by unfold MailOk; decide +kernel, by unfold Runs; decide +kernel, by decide +kernel, by decide +kernel, by decide +kernel, by decide +kernel, by decide +kernel⟩,
    ⟨up.asked 0 0x0D02 (toLe 4 0 ++ toLe 2 0), 0, toLe 4 0 ++ toLe 2 0, _, _, rfl, by unfold MailOk; decide +kernel, by unfold Runs; decide +kernel, by decide +kernel, rfl, rfl⟩,
    ⟨((flashed (up.having [(DDRC.STATUS.READY, 1)]) 0)).asked 0 0x0D03 ([1]), 0, [1], 0, rfl, rfl, by unfold MailOk; decide +kernel, by unfold Runs; decide +kernel, by decide +kernel, by decide +kernel, (asked_directory _ _ _ _).trans flashed_directoryA⟩,
    ⟨((flashed (up.having [(DDRC.STATUS.READY, 1)]) 65536)).asked 0 0x0D03 ([0]), 0, [0], 0, rfl, rfl, by unfold MailOk; decide +kernel, by unfold Runs; decide +kernel, by decide +kernel, by decide +kernel, (asked_directory _ _ _ _).trans flashed_directoryB⟩,
    ⟨((flashed (up.having [(DDRC.STATUS.READY, 1)]) 0)).asked 0 0x0D03 ([0]), 0, [0], 0, rfl, rfl, by unfold MailOk; decide +kernel, by unfold Runs; decide +kernel, by decide +kernel, by decide +kernel, (asked_directory _ _ _ _).trans flashed_directoryA⟩,
    ⟨up.asked 0 0x0D04 (toLe 2 4 ++ toLe 2 0 ++ [1, 0, 0, 0]), 0, toLe 2 4 ++ toLe 2 0 ++ [1, 0, 0, 0], 4, 0, 1, rfl, by unfold MailOk Runs; decide +kernel⟩,
    ⟨({ up with mram := { up.mram with recs := [(2, ⟨some ⟨4, [1, 2, 3]⟩, some ⟨5, [4, 5, 6]⟩⟩), (0x11, ⟨none, some ⟨9, [1]⟩⟩)], used := [(2, 60)] } }).asked 0 0x0D04 (toLe 2 2 ++ toLe 2 2 ++ [1, 0, 0, 0]), 0, toLe 2 2 ++ toLe 2 2 ++ [1, 0, 0, 0], 2, 2, 1, rfl, by unfold MailOk Runs; decide +kernel⟩,
    ⟨up.asked 0 0x0D05 (toLe 2 256 ++ toLe 2 0 ++ [1, 0, 0, 0] ++ List.replicate 1 0x77), 0, toLe 2 256 ++ toLe 2 0 ++ [1, 0, 0, 0] ++ List.replicate 1 0x77, 256, 0, 1, (cfgMax 256).get!, rfl, rfl, by unfold MailOk Runs; decide +kernel⟩,
    ⟨up.asked 0 0x0D05 (toLe 2 271 ++ toLe 2 0 ++ [224, 0, 0, 0] ++ List.replicate 224 0x77), 0, toLe 2 271 ++ toLe 2 0 ++ [224, 0, 0, 0] ++ List.replicate 224 0x77, 271, 0, 224, (cfgMax 271).get!, rfl, rfl, by unfold MailOk Runs; decide +kernel⟩,
    ⟨({ up with mram := { up.mram with recs := [(2, ⟨some ⟨4, [1, 2, 3]⟩, some ⟨5, [4, 5, 6]⟩⟩), (0x11, ⟨none, some ⟨9, [1]⟩⟩)], used := [(2, 60)] } }).asked 0 0x0D05 (toLe 2 2 ++ toLe 2 0 ++ [1, 0, 0, 0] ++ List.replicate 1 0x77), 0, toLe 2 2 ++ toLe 2 0 ++ [1, 0, 0, 0] ++ List.replicate 1 0x77, 2, 0, 1, (cfgMax 2).get!, rfl, rfl, by unfold MailOk Runs; decide +kernel⟩,
    ⟨(up.having [(SAFE.FB_CAUSE.SOFT_STOP, 1)]).asked 0 0x0D05 (toLe 2 1 ++ toLe 2 0 ++ [1, 0, 0, 0] ++ List.replicate 1 0x77), 0, toLe 2 1 ++ toLe 2 0 ++ [1, 0, 0, 0] ++ List.replicate 1 0x77, 1, 0, 1, (cfgMax 1).get!, rfl, rfl, by unfold MailOk Runs; decide +kernel⟩⟩

theorem test_witness_AuxOutputs :
    (∃ (s : State) (mb : Nat) (p : List Byte) (n : Nat) (e : AuxEng), mb = 0 ∧ MailOk s ∧ Runs s mb 0x0B02 p ∧ p.length = 16 ∧ n = leAt p 0 1 ∧ e = patternOf p)
    ∧ (∃ (s : State) (mb : Nat) (p : List Byte) (n : Nat) (e : AuxEng), mb = 0 ∧ MailOk s ∧ Runs s mb 0x0B02 p ∧ p.length = 16 ∧ n = leAt p 0 1 ∧ e = patternOf p)
    ∧ (∃ (s : State) (mb : Nat) (p : List Byte) (n : Nat) (e : AuxEng), mb = 0 ∧ MailOk s ∧ Runs s mb 0x0B02 p ∧ p.length = 16 ∧ n = leAt p 0 1 ∧ e = patternOf p)
    ∧ (∃ (s : State) (mb : Nat) (p : List Byte) (n : Nat) (e : AuxEng), mb = 0 ∧ MailOk s ∧ Runs s mb 0x0B02 p ∧ p.length = 16 ∧ n = leAt p 0 1 ∧ e = patternOf p)
    ∧ (∃ (s : State) (p : Nat), p = 3 ∧ ShapeOk s ∧ p < 4 ∧ auxRuns s = true ∧ auxLen s p ≠ 0 ∧ s.aux.since + 20000 < s.now)
    ∧ (∃ (s : State) (p : Nat), p = 0 ∧ ShapeOk s ∧ p < 4 ∧ auxRuns s = true ∧ auxLen s p ≠ 0 ∧ s.aux.since + 20000 < s.now)
    ∧ (∃ (s : State) (p : Nat), p < 4 ∧ (auxRuns s = false ∨ auxLen s p = 0 ∨ s.now ≤ s.aux.since + 20000))
    ∧ (∃ (s : State) (p : Nat), p < 4 ∧ (auxRuns s = false ∨ auxLen s p = 0 ∨ s.now ≤ s.aux.since + 20000))
    ∧ (∃ (s : State) (n : Nat) (g : AuxGate), n = 0 ∧ ShapeOk s ∧ s.aux.gates[n]? = some g ∧ auxRuns s = true ∧ g.freq ≠ 0)
    ∧ (∃ (s : State) (n : Nat) (g : AuxGate), n = 5 ∧ ShapeOk s ∧ s.aux.gates[n]? = some g ∧ auxRuns s = true ∧ g.freq ≠ 0)
    ∧ (∃ (s : State) (n : Nat) (g : AuxGate), n = 0 ∧ s.aux.gates[n]? = some g ∧ (auxRuns s = false ∨ g.freq = 0))
    ∧ (∃ (s : State) (n : Nat) (g : AuxGate), n = 5 ∧ s.aux.gates[n]? = some g ∧ (auxRuns s = false ∨ g.freq = 0))
    ∧ (∃ (s : State), s.flag AUX.CTRL.EN = false)
    ∧ (∃ (s : State), s.flag AUX.CTRL.EN = true) :=
  ⟨⟨up.asked 0 0x0B02 ([7, 4, 3, 0] ++ toLe 2 255 ++ toLe 2 1 ++ toLe 2 1 ++ List.replicate 6 0), 0, [7, 4, 3, 0] ++ toLe 2 255 ++ toLe 2 1 ++ toLe 2 1 ++ List.replicate 6 0, 7, ⟨4, 3, 255, 1, 1, 0, 0, 0⟩, rfl, by unfold MailOk Runs; decide +kernel⟩,
    ⟨up.asked 0 0x0B02 ([0, 0, 9, 0] ++ toLe 2 0 ++ toLe 2 1 ++ toLe 2 0 ++ List.replicate 6 0), 0, [0, 0, 9, 0] ++ toLe 2 0 ++ toLe 2 1 ++ toLe 2 0 ++ List.replicate 6 0, 0, ⟨0, 9, 0, 1, 0, 0, 0, 0⟩, rfl, by unfold MailOk Runs; decide +kernel⟩,
    ⟨({ up with aux := { Aux.reset with engines := AuxEng.off :: ⟨1, 3, 100, 20, 50, 0, 0, 0⟩ :: List.replicate 6 AuxEng.off } }).asked 0 0x0B02 ([0, 1, 3, 0] ++ toLe 2 119 ++ toLe 2 1 ++ toLe 2 5 ++ List.replicate 6 0), 0, [0, 1, 3, 0] ++ toLe 2 119 ++ toLe 2 1 ++ toLe 2 5 ++ List.replicate 6 0, 0, ⟨1, 3, 119, 1, 5, 0, 0, 0⟩, rfl, by unfold MailOk Runs; decide +kernel⟩,
    ⟨({ up with aux := { Aux.reset with engines := AuxEng.off :: ⟨1, 3, 100, 20, 50, 0, 0, 0⟩ :: List.replicate 6 AuxEng.off } }).asked 0 0x0B02 ([0, 1, 3, 0] ++ toLe 2 120 ++ toLe 2 1 ++ toLe 2 5 ++ List.replicate 6 0), 0, [0, 1, 3, 0] ++ toLe 2 120 ++ toLe 2 1 ++ toLe 2 5 ++ List.replicate 6 0, 0, ⟨1, 3, 120, 1, 5, 0, 0, 0⟩, rfl, by unfold MailOk Runs; decide +kernel⟩,
    ⟨({ up with aux := { Aux.reset with due := some ⟨1, 3, 0, 2, 50, 0, 7, 9⟩ :: some ⟨0, 3, 0, 1, 5, 0, 0, 0⟩ :: List.replicate 6 none, engines := AuxEng.off :: ⟨4, 3, 1, 3, 8, 0, 5, 4000⟩ :: List.replicate 6 AuxEng.off, gates := List.replicate 6 ⟨30000, 1000, 0, 0, 0⟩, since := 999979999 } }.having [(AUX.CTRL.EN, 1), (AUX.PORT_CFG.LEN 3, 4), (AUX.PORT_CFG.LEN 0, 1)]), 3, rfl, by unfold ShapeOk; decide +kernel⟩,
    ⟨({ up with aux := { Aux.reset with due := some ⟨1, 3, 0, 2, 50, 0, 7, 9⟩ :: some ⟨0, 3, 0, 1, 5, 0, 0, 0⟩ :: List.replicate 6 none, engines := AuxEng.off :: ⟨4, 0, 1, 3, 8, 0, 5, 4000⟩ :: List.replicate 6 AuxEng.off, gates := List.replicate 6 ⟨30000, 1000, 0, 0, 0⟩, since := 999979999 } }.having [(AUX.CTRL.EN, 1), (AUX.PORT_CFG.LEN 3, 4), (AUX.PORT_CFG.LEN 0, 1)]), 0, rfl, by unfold ShapeOk; decide +kernel⟩,
    ⟨up, 3, by decide +kernel⟩,
    ⟨{ ({ up with aux := { Aux.reset with due := some ⟨1, 3, 0, 2, 50, 0, 7, 9⟩ :: some ⟨0, 3, 0, 1, 5, 0, 0, 0⟩ :: List.replicate 6 none, engines := AuxEng.off :: ⟨4, 3, 1, 3, 8, 0, 5, 4000⟩ :: List.replicate 6 AuxEng.off, gates := List.replicate 6 ⟨30000, 1000, 0, 0, 0⟩, since := 999979999 } }.having [(AUX.CTRL.EN, 1), (AUX.PORT_CFG.LEN 3, 4), (AUX.PORT_CFG.LEN 0, 1)]) with lt := 999999999 }, 0, by decide +kernel⟩,
    ⟨({ up with aux := { Aux.reset with due := some ⟨1, 3, 0, 2, 50, 0, 7, 9⟩ :: some ⟨0, 3, 0, 1, 5, 0, 0, 0⟩ :: List.replicate 6 none, engines := AuxEng.off :: ⟨4, 4, 1, 3, 8, 0, 5, 4000⟩ :: List.replicate 6 AuxEng.off, gates := List.replicate 6 ⟨30000, 1000, 0, 0, 0⟩, since := 999979999 } }.having [(AUX.CTRL.EN, 1), (AUX.PORT_CFG.LEN 3, 4), (AUX.PORT_CFG.LEN 0, 1)]), 0, ⟨30000, 1000, 0, 0, 0⟩, rfl, by unfold ShapeOk; decide +kernel⟩,
    ⟨({ up with aux := { Aux.reset with due := some ⟨1, 3, 0, 2, 50, 0, 7, 9⟩ :: some ⟨0, 3, 0, 1, 5, 0, 0, 0⟩ :: List.replicate 6 none, engines := AuxEng.off :: ⟨4, 9, 1, 3, 8, 0, 5, 4000⟩ :: List.replicate 6 AuxEng.off, gates := List.replicate 6 ⟨30000, 1000, 0, 0, 0⟩, since := 999979999 } }.having [(AUX.CTRL.EN, 1), (AUX.PORT_CFG.LEN 3, 4), (AUX.PORT_CFG.LEN 0, 1)]), 5, ⟨30000, 1000, 0, 0, 0⟩, rfl, by unfold ShapeOk; decide +kernel⟩,
    ⟨up, 0, ⟨0, 0, 0, 0, 0⟩, rfl, by decide +kernel⟩,
    ⟨({ up with aux := { Aux.reset with due := some ⟨1, 3, 0, 2, 50, 0, 7, 9⟩ :: some ⟨0, 3, 0, 1, 5, 0, 0, 0⟩ :: List.replicate 6 none, engines := AuxEng.off :: ⟨4, 4, 1, 3, 8, 0, 5, 4000⟩ :: List.replicate 6 AuxEng.off, gates := List.replicate 6 ⟨30000, 1000, 0, 0, 0⟩, since := 999979999 } }.having [(AUX.CTRL.EN, 1), (AUX.PORT_CFG.LEN 3, 4), (AUX.PORT_CFG.LEN 0, 1)]).having [(AUX.CTRL.EN, 0)], 5, ⟨30000, 1000, 0, 0, 0⟩, rfl, by decide +kernel⟩,
    ⟨up, by decide +kernel⟩,
    ⟨up.having [(AUX.CTRL.EN, 1)], by decide +kernel⟩⟩

theorem test_witness_ScratchAndForcedSwitches :
    (∃ (s : State), busUp s = true ∧ s.flag (CLK.GATE.EN 0) = true)
    ∧ (∃ (s : State), busUp s = true ∧ s.flag (CLK.GATE.EN 1) = true)
    ∧ (∃ (s : State), busUp s = true ∧ s.flag (CLK.GATE.EN 0) = true)
    ∧ (∃ (s : State), busUp s = true ∧ s.flag (CLK.GATE.EN 1) = true)
    ∧ (∃ (d : Nat), d = 0 ∧ d < 6)
    ∧ (∃ (d : Nat), d = 5 ∧ d < 6) :=
  ⟨⟨up, by decide +kernel⟩,
    ⟨up, by decide +kernel⟩,
    ⟨up, by decide +kernel⟩,
    ⟨up, by decide +kernel⟩,
    ⟨0, rfl, by decide +kernel⟩,
    ⟨5, rfl, by decide +kernel⟩⟩

theorem test_witness_Clocks :
    (∃ (s : State), s.boot.cold = true ∧ domainsHeld s = false ∧ s.reg CLK.STATUS.SRC = 0)
    ∧ (∃ (s : State), s.boot.cold = true ∧ domainsHeld s = false ∧ s.reg CLK.STATUS.SRC = 0)
    ∧ (∃ (s : State), domainsHeld s = false ∧ s.reg CLK.STATUS.SRC = 2)
    ∧ (∃ (s : State), domainsHeld s = false ∧ s.power ≠ 2 ∧ s.power ≠ 3 ∧ (s.reg CLK.STATUS.SRC = 1 ∨ s.reg CLK.STATUS.SRC = 2 ∧ s.clk.crystal = true))
    ∧ (∃ (s : State), domainsHeld s = false ∧ s.power ≠ 2 ∧ s.power ≠ 3 ∧ (s.reg CLK.STATUS.SRC = 1 ∨ s.reg CLK.STATUS.SRC = 2 ∧ s.clk.crystal = true))
    ∧ (∃ (s : State) (d : Nat), d = 0 ∧ ShapeOk s ∧ s.flag CLK.STATUS.PLL_LOCK = true ∧ clocksRun s = true ∧ d < 6 ∧ (∀ e < d, s.clk.div.getD e 0 = rampTarget s e) ∧ s.clk.div.getD d 0 ≠ rampTarget s d)
    ∧ (∃ (s : State) (d : Nat), d = 5 ∧ ShapeOk s ∧ s.flag CLK.STATUS.PLL_LOCK = true ∧ clocksRun s = true ∧ d < 6 ∧ (∀ e < d, s.clk.div.getD e 0 = rampTarget s e) ∧ s.clk.div.getD d 0 ≠ rampTarget s d)
    ∧ (∃ (s : State) (d : Nat), d = 3 ∧ ShapeOk s ∧ s.flag CLK.STATUS.PLL_LOCK = true ∧ clocksRun s = true ∧ d < 6 ∧ (∀ e < d, s.clk.div.getD e 0 = rampTarget s e) ∧ s.clk.div.getD d 0 ≠ rampTarget s d)
    ∧ (∃ (s : State), (∀ d < 6, s.clk.div.getD d 0 = rampTarget s d))
    ∧ (∃ (s : State) (clks : BitVec 10), domainsHeld s = false ∧ watchedClocks s clks.toNat ≠ 0)
    ∧ (∃ (s : State) (clks : BitVec 10), domainsHeld s = false ∧ watchedClocks s clks.toNat ≠ 0)
    ∧ (∃ (s : State), s.clk.lost = true) :=
  ⟨⟨{ up with boot := Boot.reset, clk := { Clk.reset with refForce := 0 } }, by decide +kernel⟩,
    ⟨{ up with boot := Boot.reset, clk := { Clk.reset with refForce := 2 } }, by decide +kernel⟩,
    ⟨up.having [(CLK.STATUS.SRC, 2)], by decide +kernel⟩,
    ⟨up.having [(CLK.STATUS.SRC, 1)], by decide +kernel⟩,
    ⟨State.having { up with clk := { up.clk with crystal := true } } [(CLK.STATUS.SRC, 2)], by decide +kernel⟩,
    ⟨State.having { up with clk := { up.clk with div := [0, 0, 0, 0, 0, 0] } } [(CLK.STATUS.PLL_LOCK, 1)], 0, rfl, by unfold ShapeOk; decide +kernel⟩,
    ⟨State.having { up with clk := { up.clk with div := [24, 96, 16, 12, 6, 96] } } [(CLK.STATUS.PLL_LOCK, 1)], 5, rfl, by unfold ShapeOk; decide +kernel⟩,
    ⟨State.having { up with clk := { up.clk with div := [24, 96, 16, 96, 0, 0] } } [(CLK.STATUS.PLL_LOCK, 1)], 3, rfl, by unfold ShapeOk; decide +kernel⟩,
    ⟨State.having { up with clk := { up.clk with div := [24, 96, 16, 12, 6, 1000] } } [(CLK.STATUS.PLL_LOCK, 1)], by decide +kernel⟩,
    ⟨up, 0x3FF, by decide +kernel⟩,
    ⟨{ scanning with clk := { up.clk with lost := true } }, 0x200, by decide +kernel⟩,
    ⟨{ up with clk := { up.clk with lost := true } }, by decide +kernel⟩⟩

theorem test_witness_SleepAndWake :
    (∃ (s : State) (addr : BitVec 7), addr.toNat = s.actReg IOMUX.BOARD.WAKE_ADDR ∧ (s.power = 0 ∨ s.power = 1 ∨ s.power = 5))
    ∧ (∃ (s : State) (addr : BitVec 7), addr.toNat = s.actReg IOMUX.BOARD.WAKE_ADDR ∧ (s.power = 0 ∨ s.power = 1 ∨ s.power = 5))
    ∧ (∃ (s : State) (addr : BitVec 7), addr.toNat = s.actReg IOMUX.BOARD.WAKE_ADDR ∧ s.power = 4 ∧ wakeSelected s 1 = true)
    ∧ (∃ (s : State) (src : WakeSource), s.power = 4 ∧ wakeSelected s (wakeNo src) = true)
    ∧ (∃ (s : State) (src : WakeSource), s.power = 4 ∧ wakeSelected s (wakeNo src) = true)
    ∧ (∃ (s : State), s.power = 4 ∧ wakeSelected s 2 = true)
    ∧ (∃ (s : State), wakeSelected s 2 = true ∧ (s.power = 1 ∨ s.power = 2 ∨ s.power = 3))
    ∧ (∃ (s : State), wakeSelected s 2 = true ∧ (s.power = 1 ∨ s.power = 2 ∨ s.power = 3))
    ∧ (∃ (s : State), wakeSelected s 2 = true ∧ (s.power = 1 ∨ s.power = 2 ∨ s.power = 3))
    ∧ (∃ (s : State), (wakeSelected s 2 = false ∨ s.power = 0 ∨ s.power = 5))
    ∧ (∃ (s : State), (wakeSelected s 2 = false ∨ s.power = 0 ∨ s.power = 5))
    ∧ (∃ (s : State), (wakeSelected s 2 = false ∨ s.power = 0 ∨ s.power = 5))
    ∧ (∃ (s : State), s.pending = [] ∧ s.power = 4)
    ∧ (∃ (s : State), s.pending = [] ∧ s.power = 4)
    ∧ (∃ (s : State), s.pending = [] ∧ s.power = 4)
    ∧ (∃ (s : State), s.pending = [] ∧ s.power = 4)
    ∧ (∃ (s : State), s.power = 5 ∧ domainsHeld s = false ∧ (s.pwr.wakeFrom = 1 ∨ s.pwr.wakeFrom = 2))
    ∧ (∃ (s : State), s.power = 5 ∧ domainsHeld s = false ∧ (s.pwr.wakeFrom = 1 ∨ s.pwr.wakeFrom = 2))
    ∧ (∃ (s : State), s.power = 5 ∧ domainsHeld s = false ∧ (s.pwr.wakeFrom = 1 ∨ s.pwr.wakeFrom = 2))
    ∧ (∃ (s : State), domainsHeld s = false ∧ s.power = 5 ∧ (s.pwr.wakeFrom = 2 ∨ s.pwr.wakeFrom = 3))
    ∧ (∃ (s : State), domainsHeld s = false ∧ s.power = 5 ∧ (s.pwr.wakeFrom = 2 ∨ s.pwr.wakeFrom = 3))
    ∧ (∃ (s : State), domainsHeld s = false ∧ s.power = 5 ∧ (s.pwr.wakeFrom = 2 ∨ s.pwr.wakeFrom = 3))
    ∧ (∃ (s : State), s.pwr.coreEn = true) :=
  ⟨⟨State.having { up with pwr := { Pwr.reset with sources := 7 } } [(PWR.STATE.STATE, 0)], BitVec.ofNat _ (up.actReg IOMUX.BOARD.WAKE_ADDR), by decide +kernel⟩,
    ⟨State.having { up with pwr := { Pwr.reset with sources := 7 } } [(PWR.STATE.STATE, 5)], BitVec.ofNat _ (up.actReg IOMUX.BOARD.WAKE_ADDR), by decide +kernel⟩,
    ⟨State.having { up with pwr := { Pwr.reset with sources := 1 } } [(PWR.STATE.STATE, 4)], BitVec.ofNat _ (up.actReg IOMUX.BOARD.WAKE_ADDR), by decide +kernel⟩,
    ⟨State.having { up with pwr := { Pwr.reset with sources := 1 } } [(PWR.STATE.STATE, 4)], .wakePort, by decide +kernel⟩,
    ⟨State.having { up with pwr := { Pwr.reset with sources := 4 } } [(PWR.STATE.STATE, 4)], .lowbeam, by decide +kernel⟩,
    ⟨State.having { up with pwr := { Pwr.reset with sources := 2 } } [(PWR.STATE.STATE, 4)], by decide +kernel⟩,
    ⟨State.having { up with pwr := { Pwr.reset with sources := 7 } } [(PWR.STATE.STATE, 1)], by decide +kernel⟩,
    ⟨State.having { up with pwr := { Pwr.reset with sources := 7 } } [(PWR.STATE.STATE, 2)], by decide +kernel⟩,
    ⟨State.having { up with pwr := { Pwr.reset with sources := 7 } } [(PWR.STATE.STATE, 3)], by decide +kernel⟩,
    ⟨up, by decide +kernel⟩,
    ⟨State.having { up with pwr := { Pwr.reset with sources := 5 } } [(PWR.STATE.STATE, 2)], by decide +kernel⟩,
    ⟨State.having { up with pwr := { Pwr.reset with sources := 7 } } [(PWR.STATE.STATE, 5)], by decide +kernel⟩,
    ⟨State.having { up with pwr := { Pwr.reset with target := 1, sources := 7, srAck := true } } [(PWR.STATE.STATE, 4)], by decide +kernel⟩,
    ⟨State.having { up with pwr := { Pwr.reset with target := 2, sources := 7, srAck := true } } [(PWR.STATE.STATE, 4)], by decide +kernel⟩,
    ⟨State.having { up with pwr := { Pwr.reset with target := 3, sources := 7, srAck := true } } [(PWR.STATE.STATE, 4)], by decide +kernel⟩,
    ⟨State.having { rendering (block 2 6 0 63 4096 128 8 3 62) 1 1 with pwr := { Pwr.reset with target := 2, sources := 7, srAck := true } } [(PWR.STATE.STATE, 4)], by decide +kernel⟩,
    ⟨State.having { { up with boot := { up.boot with done := true } } with pwr := { Pwr.reset with wakeFrom := 1 } } [(PWR.STATE.STATE, 5)], by decide +kernel⟩,
    ⟨State.having { up with pwr := { Pwr.reset with wakeFrom := 2 } } [(PWR.STATE.STATE, 5)], by decide +kernel⟩,
    ⟨State.having { scanning with pwr := { Pwr.reset with wakeFrom := 2, failed := true } } [(PWR.STATE.STATE, 5)], by decide +kernel⟩,
    ⟨State.having { up with pwr := { Pwr.reset with wakeFrom := 2 } } [(PWR.STATE.STATE, 5)], by decide +kernel⟩,
    ⟨State.having { up with pwr := { Pwr.reset with wakeFrom := 2, repeats := 15 } } [(PWR.STATE.STATE, 5)], by decide +kernel⟩,
    ⟨State.having { up with pwr := { Pwr.reset with wakeFrom := 3, repeats := 15 } } [(PWR.STATE.STATE, 5)], by decide +kernel⟩,
    ⟨{ up with pwr := { Pwr.reset with coreEn := true } }, by decide +kernel⟩⟩

theorem test_witness_ThermalSample :
    (∃ (s : State), (domainsHeld s = true ∨ s.power = 2 ∨ s.power = 3))
    ∧ (∃ (s : State), (domainsHeld s = true ∨ s.power = 2 ∨ s.power = 3))
    ∧ (∃ (s : State), domainsHeld s = false ∧ s.power ≠ 2 ∧ s.power ≠ 3)
    ∧ (∃ (s : State), domainsHeld s = false ∧ s.power ≠ 2 ∧ s.power ≠ 3) :=
  ⟨⟨State.having { up with pwr := { Pwr.reset with sources := 7 } } [(PWR.STATE.STATE, 2)], by decide +kernel⟩,
    ⟨{ up with boot := { up.boot with held := true } }, by decide +kernel⟩,
    ⟨(State.having { up with thm := { Thm.reset with pause := 0 } } [(THM.CTRL.EN, 1)]), by decide +kernel⟩,
    ⟨up, by decide +kernel⟩⟩

theorem test_witness_HousekeepingRound :
    (∃ (s : State), clocksRun s = true ∧ s.power ≠ 1 ∧ supUp s = true)
    ∧ (∃ (s : State), clocksRun s = true ∧ s.power ≠ 1 ∧ supUp s = true) :=
  ⟨⟨up, by decide +kernel⟩,
    ⟨(State.having { up with thm := { Thm.reset with pause := 0 } } [(THM.CTRL.EN, 1)]), by decide +kernel⟩⟩

theorem test_witness_Memories :
    (∃ (s : State), s.flag DDRC.CTRL.EN = false)
    ∧ (∃ (s : State), s.flag DDRC.CTRL.EN = false)
    ∧ (∃ (s : State), dramAwake s = true)
    ∧ (∃ (s : State), clocksRun s = true ∧ s.flag DDRC.CTRL.EN = true)
    ∧ (∃ (s : State), clocksRun s = true ∧ s.flag DDRC.CTRL.EN = true)
    ∧ (∃ (s : State), clocksRun s = true ∧ s.flag DDRC.CTRL.EN = true)
    ∧ (∃ (s : State), clocksRun s = true ∧ s.flag DDRC.CTRL.EN = true)
    ∧ (∃ (s : State), clocksRun s = true ∧ s.flag DDRC.CTRL.EN = true)
    ∧ (∃ (s : State), supUp s = true ∧ dramAwake s = true)
    ∧ (∃ (s : State), clocksRun s = true ∧ s.power ≠ 1 ∧ s.flag DDRC.CTRL.EN = true ∧ s.flag DDRC.CTRL.LAT_EN = true)
    ∧ (∃ (s : State), s.power = 1 ∧ clocksRun s = true ∧ s.flag DDRC.CTRL.EN = true)
    ∧ (∃ (s : State) (num : Nat), supUp s = true ∧ mayCommit s num = false)
    ∧ (∃ (s : State) (num : Nat), supUp s = true ∧ mayCommit s num = false)
    ∧ (∃ (s : State), supUp s = true ∧ mayCommit s 3 = true ∧ newestCopy (recOf s 3) ≠ none ∧ (payloadOf s 3).2 ≠ toLe 1 s.cal.vcPlan)
    ∧ (∃ (s : State), supUp s = true ∧ mayCommit s 0x11 = true ∧ (payloadOf s 0x11).2 ≠ mapPayload s)
    ∧ (∃ (s : State), supUp s = true ∧ mayCommit s 0x10 = true ∧ calDue s = true)
    ∧ (∃ (s : State), supUp s = true ∧ mayCommit s 0x12 = true ∧ s.cal.ckptDue = true)
    ∧ (∃ (s : State) (num : Nat), num = 3 ∧ supUp s = true ∧ OneCopy s num)
    ∧ (∃ (s : State) (num : Nat), num = 3 ∧ supUp s = true ∧ OneCopy s num)
    ∧ (∃ (s : State), supUp s = true)
    ∧ (∃ (s : State) (num : Nat), num = 3 ∧ sparseWf 0 s.mram.used = true ∧ sparseGet 0 s.mram.used num ≤ 60)
    ∧ (∃ (s : State) (num : Nat), num = 0 ∧ sparseWf 0 s.mram.used = true ∧ sparseGet 0 s.mram.used num ≤ 60) :=
  ⟨⟨up, by decide +kernel⟩,
    ⟨(up.having [(DDRC.ORG.WIDTH, 1), (DDRC.ORG.DENSITY, 3), (DDRC.ORG.RANKS, 0)]), by decide +kernel⟩,
    ⟨(up.having [(DDRC.CTRL.EN, 1), (DDRC.CTRL.LAT_EN, 1)]), by decide +kernel⟩,
    ⟨(up.having [(DDRC.CTRL.EN, 1), (DDRC.CTRL.LAT_EN, 1)]), by decide +kernel⟩,
    ⟨(up.having [(DDRC.CTRL.EN, 1), (DDRC.CTRL.LAT_EN, 1)]), by decide +kernel⟩,
    ⟨((rendering (block 2 6 0 63 4096 128 8 3 62) 7 1).having [(DDRC.CTRL.EN, 1), (SCAN.CTRL.EN, 1)]), by decide +kernel⟩,
    ⟨(up.having [(DDRC.CTRL.EN, 1), (DDRC.CTRL.LAT_EN, 1)]), by decide +kernel⟩,
    ⟨((rendering (block 2 6 0 63 4096 128 8 3 62) 7 1).having [(DDRC.CTRL.EN, 1), (SCAN.CTRL.EN, 1)]), by decide +kernel⟩,
    ⟨(up.having [(DDRC.CTRL.EN, 1), (DDRC.CTRL.LAT_EN, 1)]), by decide +kernel⟩,
    ⟨(up.having [(DDRC.CTRL.EN, 1), (DDRC.CTRL.LAT_EN, 1)]), by decide +kernel⟩,
    ⟨(up.having [(DDRC.CTRL.EN, 1), (DDRC.CTRL.LAT_EN, 1)]).having [(PWR.STATE.STATE, 1)], by decide +kernel⟩,
    ⟨{ up with mram := { up.mram with used := [(3, 60)] } }, 3, by decide +kernel⟩,
    ⟨up.having [(SAFE.FB_CAUSE.SOFT_STOP, 1)], 0x12, by decide +kernel⟩,
    ⟨{ up with mram := { up.mram with recs := [(3, ⟨some ⟨4, [9]⟩, none⟩)] } }, by decide +kernel⟩,
    ⟨{ up with diag := { Diag.reset with map := [⟨5, 6, 2, false, false⟩] } }, by decide +kernel⟩,
    ⟨{ up with cal := { Cal.reset with recordValid := true } }, by decide +kernel⟩,
    ⟨{ up with cal := { Cal.reset with ckptDue := true } }, by decide +kernel⟩,
    ⟨{ up with mram := { up.mram with recs := [(3, ⟨some ⟨4, [9]⟩, none⟩)] } }, 3, rfl, by unfold OneCopy; decide +kernel⟩,
    ⟨{ up with mram := { up.mram with recs := [(3, ⟨none, some ⟨4, [9]⟩⟩)] } }, 3, rfl, by unfold OneCopy; decide +kernel⟩,
    ⟨{ up with mram := { up.mram with recs := [(3, ⟨some ⟨4, [9]⟩, none⟩)] } }, by decide +kernel⟩,
    ⟨{ up with mram := { up.mram with used := [(3, 60)] } }, 3, rfl, by decide +kernel⟩,
    ⟨up, 0, rfl, by decide +kernel⟩⟩

theorem test_witness_Faults :
    (∃ (s : State) (src : Nat) (cls : FaultClass), src = 58 ∧ domainsOff s = false ∧ classCode cls ∈ sourceClasses src ∧ (¬ (25 ≤ src ∧ src ≤ 42 ∧ cls = .cont)))
    ∧ (∃ (s : State) (src : Nat) (cls : FaultClass), src = 19 ∧ domainsOff s = false ∧ classCode cls ∈ sourceClasses src ∧ (¬ (25 ≤ src ∧ src ≤ 42 ∧ cls = .cont)))
    ∧ (∃ (s : State) (src : Nat) (cls : FaultClass), src = 12 ∧ domainsOff s = false ∧ classCode cls ∈ sourceClasses src ∧ (¬ (25 ≤ src ∧ src ≤ 42 ∧ cls = .cont)))
    ∧ (∃ (s : State) (src : Nat) (cls : FaultClass), src = 14 ∧ domainsOff s = false ∧ classCode cls ∈ sourceClasses src ∧ (¬ (25 ≤ src ∧ src ≤ 42 ∧ cls = .cont)))
    ∧ (∃ (s : State) (n : Nat), domainsOff s = false ∧ n < 18 ∧ isActive s n = true)
    ∧ (∃ (s : State) (n : Nat), domainsOff s = false ∧ n < 18 ∧ isActive s n = true)
    ∧ (∃ (src : Nat) (cls : FaultClass), src = 58 ∧ cls = .fatal ∧ classCode cls ∉ sourceClasses src)
    ∧ (∃ (src : Nat) (cls : FaultClass), src = 96 ∧ cls = .corr ∧ classCode cls ∉ sourceClasses src)
    ∧ (∃ (s : State) (p : Nat), domainsOff s = false ∧ s.flt.last < 98 ∧ p < 98 ∧ waitsAt s p = true ∧ (∀ q < 98, waitsAt s q = true → (p + 97 - s.flt.last) % 98 ≤ (q + 97 - s.flt.last) % 98))
    ∧ (∃ (s : State) (p : Nat), domainsOff s = false ∧ s.flt.last < 98 ∧ p < 98 ∧ waitsAt s p = true ∧ (∀ q < 98, waitsAt s q = true → (p + 97 - s.flt.last) % 98 ≤ (q + 97 - s.flt.last) % 98))
    ∧ (∃ (s : State) (p : Nat), domainsOff s = false ∧ s.flt.last < 98 ∧ p < 98 ∧ waitsAt s p = true ∧ (∀ q < 98, waitsAt s q = true → (p + 97 - s.flt.last) % 98 ≤ (q + 97 - s.flt.last) % 98))
    ∧ (∃ (s : State) (p : Nat), domainsOff s = false ∧ s.flt.last < 98 ∧ p < 98 ∧ waitsAt s p = true ∧ (∀ q < 98, waitsAt s q = true → (p + 97 - s.flt.last) % 98 ≤ (q + 97 - s.flt.last) % 98))
    ∧ (∃ (s : State), (∀ p < 98, waitsAt s p = false))
    ∧ (∃ (s : State) (inj : Bool), inj = false ∧ domainsOff s = false ∧ s.flt.restartDue = some inj ∧ s.mbx.boxes.length = 8)
    ∧ (∃ (s : State) (inj : Bool), inj = false ∧ domainsOff s = false ∧ s.flt.restartDue = some inj ∧ s.mbx.boxes.length = 8)
    ∧ (∃ (s : State) (inj : Bool), inj = true ∧ domainsOff s = false ∧ s.flt.restartDue = some inj ∧ s.mbx.boxes.length = 8)
    ∧ (∃ (s : State), s.flag FLT.STATUS.RESTARTING = true ∧ s.boot.cold = false ∧ s.boot.jorosh = false ∧ domainsOff s = false)
    ∧ (∃ (s : State), s.flag FLT.STATUS.RESTARTING = true ∧ s.boot.cold = false ∧ s.boot.jorosh = false ∧ domainsOff s = false)
    ∧ (∃ (s : State) (src : Nat) (cls : Nat) (n : Nat) (l : List (Nat × Nat × Nat)), src = 0 ∧ n = 1 ∧ domainsOff s = false ∧ s.flt.inject = (src, cls, n) :: l ∧ (¬ (25 ≤ src ∧ src ≤ 42 ∧ cls = 2)))
    ∧ (∃ (s : State) (src : Nat) (cls : Nat) (n : Nat) (l : List (Nat × Nat × Nat)), src = 13 ∧ n = 2 ∧ domainsOff s = false ∧ s.flt.inject = (src, cls, n) :: l ∧ (¬ (25 ≤ src ∧ src ≤ 42 ∧ cls = 2)))
    ∧ (∃ (s : State) (src : Nat) (cls : Nat) (n : Nat) (l : List (Nat × Nat × Nat)), src = 65 ∧ n = 0 ∧ domainsOff s = false ∧ s.flt.inject = (src, cls, n) :: l ∧ (¬ (25 ≤ src ∧ src ≤ 42 ∧ cls = 2)))
    ∧ (∃ (s : State), s.flt.inject = []) :=
  ⟨⟨up, 58, .corr, rfl, by decide +kernel⟩,
    ⟨scanning, 19, .cont, rfl, by decide +kernel⟩,
    ⟨up, 12, .cont, rfl, by decide +kernel⟩,
    ⟨up, 14, .fatal, rfl, by decide +kernel⟩,
    ⟨up, 0, by decide +kernel⟩,
    ⟨up, 15, by decide +kernel⟩,
    ⟨58, .fatal, rfl, rfl, by decide +kernel⟩,
    ⟨96, .corr, rfl, rfl, by decide +kernel⟩,
    ⟨{ up with flt := { Flt.reset with real := [(0, some ⟨1, 77⟩)], inj := [], last := 97, jorosh := [], aon := [] } }, 0, by decide +kernel⟩,
    ⟨{ up with flt := { Flt.reset with real := [], inj := [(95, some ⟨3, 77⟩)], last := 97, jorosh := [], aon := [] } }, 95, by decide +kernel⟩,
    ⟨{ up with flt := { Flt.reset with real := [], inj := [], last := 5, jorosh := [eventNo 3], aon := [] } }, 96, by decide +kernel⟩,
    ⟨{ up with flt := { Flt.reset with real := [], inj := [], last := 5, jorosh := [], aon := [eventNo 3] } }, 97, by decide +kernel⟩,
    ⟨up, by decide +kernel⟩,
    ⟨{ up with flt := { Flt.reset with restartDue := some false, restarts := [] } }, false, rfl, by decide +kernel⟩,
    ⟨{ up with flt := { Flt.reset with restartDue := some false, restarts := List.replicate 15 1000000000 } }, false, rfl, by decide +kernel⟩,
    ⟨{ up with flt := { Flt.reset with restartDue := some true, restarts := [] } }, true, rfl, by decide +kernel⟩,
    ⟨State.having { up with boot := { up.boot with jorosh := false } } [(FLT.STATUS.RESTARTING, 1), (SYS.BOOT.SLOT, 0)], by decide +kernel⟩,
    ⟨State.having { up with boot := { up.boot with jorosh := false } } [(FLT.STATUS.RESTARTING, 1), (SYS.BOOT.SLOT, 1)], by decide +kernel⟩,
    ⟨{ up with flt := { Flt.reset with inject := (0, 1, 1) :: [] } }, 0, 1, 1, [], rfl, rfl, by decide +kernel⟩,
    ⟨{ up with flt := { Flt.reset with inject := (13, 2, 2) :: [] } }, 13, 2, 2, [], rfl, rfl, by decide +kernel⟩,
    ⟨{ up with flt := { Flt.reset with inject := (65, 3, 0) :: [] } }, 65, 3, 0, [], rfl, rfl, by decide +kernel⟩,
    ⟨up, by decide +kernel⟩⟩

theorem test_witness_RegisterAccess :
    (∃ (s : State) (x : Word), Reaches s x.toNat)
    ∧ (∃ (s : State) (x : Word), Reaches s x.toNat)
    ∧ (∃ (s : State) (x : Word), Reaches s x.toNat)
    ∧ (∃ (s : State) (x : Word), aliasOf x.toNat = none ∧ ¬ Reaches s x.toNat)
    ∧ (∃ (s : State) (x : Word), aliasOf x.toNat = none ∧ ¬ Reaches s x.toNat)
    ∧ (∃ (s : State) (x : Word), aliasOf x.toNat = none ∧ ¬ Reaches s x.toNat)
    ∧ (∃ (s : State) (x : Word), Reaches s x.toNat ∧ PlainWord x.toNat)
    ∧ (∃ (s : State) (x : Word), Reaches s x.toNat ∧ PlainWord x.toNat)
    ∧ (∃ (s : State) (x : Word), Reaches s x.toNat ∧ PlainWord x.toNat)
    ∧ (∃ (s : State), Reaches s 0x80000 ∧ OrgListed s ∧ MapListed s)
    ∧ (∃ (s : State), Reaches s 0x80000 ∧ OrgListed s ∧ MapListed s)
    ∧ (∃ (s : State), Reaches s 0xD0000)
    ∧ (∃ (s : State) (x : Word) (n : Nat) (o : Nat), n = 7 ∧ o = 252 ∧ Reaches s x.toNat ∧ mbxArea x.toNat = some (n, false, o) ∧ s.mbx.boxes.length = 8)
    ∧ (∃ (s : State) (x : Word) (n : Nat) (o : Nat), n = 0 ∧ o = 0 ∧ Reaches s x.toNat ∧ mbxArea x.toNat = some (n, false, o) ∧ s.mbx.boxes.length = 8)
    ∧ (∃ (s : State) (x : Word) (a : Nat) (k : Nat), a = 0x10 ∧ k = 31 ∧ aliasOf x.toNat = some (a, k) ∧ Reaches s a ∧ a ≠ GAL.LUT_DATA.ENTRY.addr)
    ∧ (∃ (s : State) (x : Word) (a : Nat) (k : Nat), a = 0x90008 ∧ k = 24 ∧ aliasOf x.toNat = some (a, k) ∧ Reaches s a ∧ a ≠ GAL.LUT_DATA.ENTRY.addr)
    ∧ (∃ (s : State) (x : Word) (a : Nat) (k : Nat), k = 31 ∧ aliasOf x.toNat = some (a, k) ∧ Reaches s a ∧ a / 0x10000 ≠ 1 ∧ mbxArea a = none ∧ a ≠ GAL.LUT_DATA.ENTRY.addr)
    ∧ (∃ (s : State) (x : Word) (a : Nat) (k : Nat), k = 0 ∧ aliasOf x.toNat = some (a, k) ∧ Reaches s a ∧ a / 0x10000 ≠ 1 ∧ mbxArea a = none ∧ a ≠ GAL.LUT_DATA.ENTRY.addr)
    ∧ (∃ (s : State) (x : Word) (a : Nat) (k : Nat), k = 0 ∧ aliasOf x.toNat = some (a, k) ∧ Reaches s a ∧ a / 0x10000 ≠ 1 ∧ mbxArea a = none ∧ a ≠ GAL.LUT_DATA.ENTRY.addr)
    ∧ (∃ (s : State) (x : Word) (w : Word), aliasOf x.toNat = some (FLT.ACK.CLASS.addr, 1) ∧ Reaches s FLT.ACK.CLASS.addr ∧ w.getLsbD 0 = true)
    ∧ (∃ (s : State) (x : Word) (w : Word), aliasOf x.toNat = some (SCAN.CTRL.COMMIT.addr, 1) ∧ Reaches s SCAN.CTRL.COMMIT.addr ∧ w.getLsbD 0 = true)
    ∧ (∃ (s : State) (x : Word) (w : Word), aliasOf x.toNat = some (SCAN.CTRL.COMMIT.addr, 1) ∧ Reaches s SCAN.CTRL.COMMIT.addr ∧ w.getLsbD 0 = true)
    ∧ (∃ (s : State) (u : Nat), u = 3 ∧ u < 4 ∧ Reaches s 0x70000 ∧ s.flag CRC.CTRL.EN = true)
    ∧ (∃ (s : State) (u : Nat) (w : Word) (c : Instr), u = 3 ∧ u < 4 ∧ Reaches s 0x70000 ∧ s.flag CRC.CTRL.EN = false ∧ (c = Instr.crcInit u w ∨ c = Instr.crcData u w ∨ c = Instr.crcData8 u w))
    ∧ (∃ (s : State) (u : Nat) (w : Word) (c : Instr), u = 0 ∧ u < 4 ∧ Reaches s 0x70000 ∧ s.flag CRC.CTRL.EN = false ∧ (c = Instr.crcInit u w ∨ c = Instr.crcData u w ∨ c = Instr.crcData8 u w))
    ∧ (∃ (s : State), spiUp s = true)
    ∧ (∃ (s : State), spiUp s = true)
    ∧ (∃ (s : State), spiUp s = true)
    ∧ (∃ (s : State), spiUp s = false) :=
  ⟨⟨up, (0x10 : Word), by unfold Reaches; decide +kernel⟩,
    ⟨up, (0x14fffc : Word), by unfold Reaches; decide +kernel⟩,
    ⟨up, (0x90008 : Word), by unfold Reaches; decide +kernel⟩,
    ⟨up, (0x150000 : Word), by unfold Reaches; decide +kernel⟩,
    ⟨up, (0xc2 : Word), by unfold Reaches; decide +kernel⟩,
    ⟨State.reset, (0xd0000 : Word), by unfold Reaches; decide +kernel⟩,
    ⟨up, (0x10 : Word), by unfold Reaches PlainWord; decide +kernel⟩,
    ⟨up, (0x140100 : Word), by unfold Reaches PlainWord; decide +kernel⟩,
    ⟨scanning, (0xd0008 : Word), by unfold Reaches PlainWord; decide +kernel⟩,
    ⟨up, by exact ⟨by unfold Reaches; decide +kernel, by unfold OrgListed; decide +kernel, by unfold MapListed; exact ⟨by unfold SelectorsOk RowOrRank; decide +kernel, fun _ => ⟨by unfold SelectorsOk RowOrRank; decide +kernel, by unfold SelectorsOk RowOrRank; decide +kernel, by unfold SelectorsOk RowOrRank; decide +kernel⟩, fun h => absurd h (by decide +kernel)⟩⟩⟩,
    ⟨(up.having [(DDRC.CTRL.EN, 1), (DDRC.CTRL.LAT_EN, 1)]), by exact ⟨by unfold Reaches; decide +kernel, by unfold OrgListed; decide +kernel, by unfold MapListed; exact ⟨by unfold SelectorsOk RowOrRank; decide +kernel, fun _ => ⟨by unfold SelectorsOk RowOrRank; decide +kernel, by unfold SelectorsOk RowOrRank; decide +kernel, by unfold SelectorsOk RowOrRank; decide +kernel⟩, fun h => absurd h (by decide +kernel)⟩⟩⟩,
    ⟨up, by unfold Reaches; decide +kernel⟩,
    ⟨up, (0x50efc : Word), 7, 252, rfl, rfl, by unfold Reaches; decide +kernel⟩,
    ⟨boxed up 0 .rung [], (0x50000 : Word), 0, 0, rfl, rfl, by unfold Reaches; decide +kernel⟩,
    ⟨up, (BitVec.ofNat 32 (aliasAddr 0x10 31) : Word), 0x10, 31, rfl, rfl, by unfold Reaches; decide +kernel⟩,
    ⟨scanning.having [(TX.STATUS.LINK_DOWN 0, 1)], (BitVec.ofNat 32 (aliasAddr 0x90008 24) : Word), 0x90008, 24, rfl, rfl, by unfold Reaches; decide +kernel⟩,
    ⟨up, (BitVec.ofNat 32 (aliasAddr 0x10 31) : Word), 0x10, 31, rfl, by unfold Reaches; decide +kernel⟩,
    ⟨scanning, (BitVec.ofNat 32 (aliasAddr 0xD0004 0) : Word), 0xD0004, 0, rfl, by unfold Reaches; decide +kernel⟩,
    ⟨up, (BitVec.ofNat 32 (aliasAddr 0x140100 0) : Word), 0x140100, 0, rfl, by unfold Reaches; decide +kernel⟩,
    ⟨up.having [(FLT.STATUS.PEND_CONT, 1)], (BitVec.ofNat 32 (aliasAddr FLT.ACK.CLASS.addr 1) : Word), 1, by unfold Reaches; decide +kernel⟩,
    ⟨up, (BitVec.ofNat 32 (aliasAddr SCAN.CTRL.COMMIT.addr 1) : Word), 1, by unfold Reaches; decide +kernel⟩,
    ⟨scanning, (BitVec.ofNat 32 (aliasAddr SCAN.CTRL.COMMIT.addr 1) : Word), 0xFFFFFFFF, by unfold Reaches; decide +kernel⟩,
    ⟨up.having [(CRC.CTRL.EN, 1)], 3, rfl, by unfold Reaches; decide +kernel⟩,
    ⟨up, 3, 1, .crcInit 3 1, rfl, by unfold Reaches; decide +kernel⟩,
    ⟨up, 0, 1, .crcData8 0 1, rfl, by unfold Reaches; decide +kernel⟩,
    ⟨up, by decide +kernel⟩,
    ⟨up, by decide +kernel⟩,
    ⟨up, by decide +kernel⟩,
    ⟨State.reset, by decide +kernel⟩⟩

theorem test_witness_ResetsAndHardTrip :
    (∃ (s : State), (s.power = 0 ∨ s.power = 1) ∧ domainsHeld s = false)
    ∧ (∃ (s : State), s.boot.held = false)
    ∧ (∃ (s : State), s.boot.held = true)
    ∧ (∃ (s : State) (sensor : Nat), sensor = 67 ∧ sensor < 68 ∧ s.thm.trip = false)
    ∧ (∃ (s : State) (sensor : Nat), sensor = 0 ∧ sensor < 68 ∧ s.thm.trip = false)
    ∧ (∃ (s : State), s.thm.trip = true) :=
  ⟨⟨up, by decide +kernel⟩,
    ⟨up, by decide +kernel⟩,
    ⟨{ up with boot := { up.boot with held := true } }, by decide +kernel⟩,
    ⟨up, 67, rfl, by decide +kernel⟩,
    ⟨up, 0, rfl, by decide +kernel⟩,
    ⟨{ up with thm := { Thm.reset with trip := true } }, by decide +kernel⟩⟩

theorem test_witness_ColdBoot :
    (∃ (s : State) (e : BootEnv), mayBoot s = true ∧ (directory s = none ∨ (∃ r1 r2 r3 r4, e.slotA = .fail r1 ∧ e.slotB = .fail r2 ∧ e.slotA2 = .fail r3 ∧ e.slotB2 = .fail r4)))
    ∧ (∃ (s : State) (e : BootEnv) (a : Nat) (slot : Bool) (ver : Word), a = 0 ∧ slot = false ∧ mayBoot s = true ∧ directory s = some a ∧ SlotChosen (prefersB s a) e slot ver)
    ∧ (∃ (s : State), mayBoot s = false) :=
  ⟨⟨State.reset, { straps := List.replicate 6 (.level 0), oscdly := .level 0, refclkGood := true, flashMode := 0, slotA := .fail 0, slotB := .fail 1, slotA2 := .fail 2, slotB2 := .fail 3, ifbNa := 12000, dramGood := true, dramGoodDefault := true, readings := [], badMaskRows := [], lens := none, margins := List.replicate 24 100 }, by exact ⟨by decide +kernel, Or.inr ⟨0, 1, 2, 3, rfl, rfl, rfl, rfl⟩⟩⟩,
    ⟨(flashed State.reset 0), { straps := List.replicate 6 (.level 0), oscdly := .level 0, refclkGood := true, flashMode := 0, slotA := .pass 7, slotB := .pass 8, slotA2 := .fail 0, slotB2 := .fail 0, ifbNa := 12000, dramGood := true, dramGoodDefault := true, readings := [], badMaskRows := [], lens := none, margins := List.replicate 24 100 }, 0, false, 7, rfl, rfl, by decide +kernel, flashed_directoryA, flashed_chosen rfl⟩,
    ⟨up, by decide +kernel⟩⟩

end Tests
end Sys2Proof
end

