-- ==== Sys2Proof/Proofs/IdleStep.lean ====
section
/-! PROOF. Proofs/IdleStep.lean: what one step does while no command waits (R21, R35, R363; log entry 2). -/

namespace Sys2Proof.Machine

/-! ### Which case of `idle` a step takes -/

theorem step_of_empty {s : State} (h : s.pending = []) : step s = .next (idle s) := by simp [step, h]

theorem idle_of_running {s : State} (hp : s.power ≠ 4) (hc : clocksRun s = true) (hl : s.clk.everLocked = true) :
    idle s = cycle s := by simp [idle, hp, hc, hl]

theorem idle_of_stopped {s : State} (hp : s.power ≠ 4) (hc : clocksRun s = false) : idle s = s := by simp [idle, hp, hc]

/-! ### Lamp time moved by one whole tick -/

theorem moveLt_tick_lt (s : State) : (moveLt s 256).lt = s.lt + 1 + BitVec.ofNat 64 (s.net.frac / 256) := by
  have hq : ((s.lt.toNat * 256 + s.net.frac : Nat) + 256 : Int) / 256 = (s.lt.toNat + 1 + s.net.frac / 256 : Nat) := by omega
  change BitVec.ofInt 64 (((s.lt.toNat * 256 + s.net.frac : Nat) + 256 : Int) / 256) = _
  rw [hq, BitVec.ofInt_natCast, BitVec.ofNat_add, BitVec.ofNat_add, BitVec.ofNat_toNat, BitVec.setWidth_eq]
  rfl

theorem moveLt_tick_frac (s : State) : (moveLt s 256).net.frac = s.net.frac % 256 := by
  change (((s.lt.toNat * 256 + s.net.frac : Nat) + 256 : Int) % 256).toNat = _
  omega

/-! ### One cycle -/

theorem cycle_gs (s : State) : (cycle s).scan.gs = (s.scan.gs + 3) % 512000 := rfl

/-- With nothing left to slew, a cycle moves lamp time by its own length only. -/
theorem cycle_time_of_no_slew {s : State} (h : s.net.slew = 0) :
    (cycle s).lt = (moveLt s 256).lt ∧ (cycle s).net.frac = (moveLt s 256).net.frac ∧ (cycle s).net.slew = 0 := by
  simp [cycle, slewPart, h]

/-! ### The statement -/

/-- Settles O2: an empty queue leaves the step to `idle`, which is one cycle while lamp time counts and nothing while the clocks
stand; a cycle without slew is one whole tick. -/
theorem idleStepIsOneTick : Obligations.IdleStepIsOneTick := by
  unfold Obligations.IdleStepIsOneTick
  refine ⟨fun s hq => ⟨idle s, step_of_empty hq⟩, ?_, ?_⟩
  · intro s hq hp hc hl hs
    obtain ⟨hlt, hfrac, hslew⟩ := cycle_time_of_no_slew hs
    have hstep : step s = .next (cycle s) := by rw [step_of_empty hq, idle_of_running hp hc hl]
    exact ⟨cycle s, hstep, hlt.trans (moveLt_tick_lt s), cycle_gs s, hslew, hfrac.trans (moveLt_tick_frac s),
      fun f => reg_of_regs f (by simp), by simp⟩
  · intro s hq hp hc
    rw [step_of_empty hq, idle_of_stopped hp hc]

end Sys2Proof.Machine
end

section
/-! PROOF. FrameTiming: enabling the raster, frame starts and row timing (03_scan_modes_and_frame_timing.md). -/

namespace Sys2Proof.Machine.FrameTiming

/-! ### Register fields -/

theorem flag_eq_of_word {s t : State} {f : Field} (h : wordAt t.regs (fieldKey f) = wordAt s.regs (fieldKey f)) :
    t.flag f = s.flag f := by simp only [State.flag, reg_eq_of_word h]

theorem reg_lt (s : State) (f : Field) : s.reg f < 2 ^ 32 := BitVec.isLt _

/-- A value that fits its field reads back as it is. -/
theorem reg_setReg_of_lt (s : State) (f : Field) (v : Nat) (hw : f.width ≤ 32) (hv : v < 2 ^ f.width) :
    (s.setReg f v).reg f = v := by rw [reg_setReg_self s f v hw, Nat.mod_eq_of_lt hv]

/-! ### Fallback causes -/

/-- A rising cause changes nothing of the scan state but the row groups, which take fallback drive. -/
theorem raiseCause_scan (s : State) (c : Field) :
    (raiseCause s c).scan = { s.scan with groups := (raiseCause s c).scan.groups } := by
  unfold raiseCause raiseCauseInj
  split
  · rfl
  · dsimp only
    split <;> split <;> simp [enterFallback, allFallback]

theorem raiseCause_running (s : State) (c : Field) : (raiseCause s c).scan.running = s.scan.running := by
  rw [raiseCause_scan]

theorem raiseCause_startAt (s : State) (c : Field) : (raiseCause s c).scan.startAt = s.scan.startAt := by
  rw [raiseCause_scan]

/-- A raised cause shows in its flag. -/
theorem raiseCause_flag_self (s : State) (c : Field) (hk : Outside enterFallbackRegs (fieldKey c)) (hw : c.width ≤ 32)
    (h1 : 0 < c.width) : (raiseCause s c).flag c = true := by
  unfold raiseCause raiseCauseInj
  split
  · assumption
  · have hset : (s.setFlag c true).flag c = true := flag_setFlag_self s c true hw h1
    have henter : (enterFallback (s.setFlag c true) false).flag c = true :=
      (flag_eq_of_word (enterFallback_word hk _ _)).trans hset
    dsimp only
    split <;> split
    · exact hset
    · exact henter
    · exact hset
    · exact henter

theorem clearCause_flag_self (s : State) (c : Field) (hw : c.width ≤ 32) (h1 : 0 < c.width) :
    (clearCause s c).flag c = false := by
  unfold clearCause
  split
  · have hset : (s.setFlag c false).flag c = false := flag_setFlag_self s c false hw h1
    dsimp only
    split
    · exact hset
    · exact (flag_of_regs c (by simp)).trans hset
  · next h => simpa using h

/-! ### The grid -/

theorem modeF_pos (m : Nat) : 0 < modeF m := by unfold modeF; split <;> omega

/-- The quotient rounded up is the first factor that reaches `x`. -/
theorem ceil_bounds (x f : Int) (hf : 0 < f) : ∃ k, k = (x + f - 1) / f ∧ x ≤ k * f ∧ (k - 1) * f < x := by
  have hdiv := Int.mul_ediv_add_emod (x + f - 1) f
  have hlo := Int.emod_nonneg (x + f - 1) (ne_of_gt hf)
  have hhi := Int.emod_lt_of_pos (x + f - 1) hf
  rw [Int.mul_comm] at hdiv
  exact ⟨_, rfl, by omega, by rw [Int.sub_mul]; omega⟩

/-- The scheduled grid point is the first one more than 10 µs ahead: it lies on the grid, and the grid point before it does not lie
that far ahead (R90, R91). -/
theorem firstGridPoint_spec (m o now : Nat) : ∃ k : Int,
    (firstGridPoint m o now : Int) = o + k * (2 * modeF m) / 3 ∧ (now : Int) + 4000 < firstGridPoint m o now
      ∧ (o : Int) + (k - 1) * (2 * modeF m) / 3 ≤ now + 4000 := by
  have hf : (0 : Int) < 2 * modeF m := by have := modeF_pos m; omega
  obtain ⟨k, hk, hlo, hhi⟩ := ceil_bounds (3 * ((now : Int) + 4000 - o + 1)) (2 * modeF m) hf
  have hlater : (now : Int) + 4000 < o + k * (2 * modeF m) / 3 := by omega
  have hpoint : (firstGridPoint m o now : Int) = o + k * (2 * modeF m) / 3 := by
    dsimp only [firstGridPoint]
    rw [← hk]
    exact Int.toNat_of_nonneg (by omega)
  exact ⟨k, hpoint, by omega, by omega⟩

/-! ### Enabling, disabling, committing -/

theorem origin_lo (s : State) : s.origin % 2 ^ 32 = s.reg SCAN.ORIGIN_LO.ORIGIN := by
  have := reg_lt s SCAN.ORIGIN_LO.ORIGIN
  unfold State.origin pair64
  omega

theorem origin_hi (s : State) : s.origin / 2 ^ 32 % 2 ^ 32 = s.reg SCAN.ORIGIN_HI.ORIGIN := by
  have := reg_lt s SCAN.ORIGIN_LO.ORIGIN
  have := reg_lt s SCAN.ORIGIN_HI.ORIGIN
  unfold State.origin pair64
  omega

theorem reg_setOriginAct_lo (s : State) (o : Nat) :
    (setOriginAct s o).reg SCAN.ORIGIN_ACT_LO.ORIGIN_ACT = o % 2 ^ 32 := by
  unfold setOriginAct
  rw [reg_setReg_ne _ _ _ _ (by decide)]
  exact reg_setReg_self _ _ _ (by decide)

theorem reg_setOriginAct_hi (s : State) (o : Nat) :
    (setOriginAct s o).reg SCAN.ORIGIN_ACT_HI.ORIGIN_ACT = o / 2 ^ 32 % 2 ^ 32 := reg_setReg_self _ _ _ (by decide)

/-- EN from 0 to 1 before M7's fallback request: EN, FRAME_NUM, ORIGIN_ACT and the scheduled start (R91). -/
def enabled (s : State) : State :=
  let s1 := setOriginAct ((s.setFlag SCAN.CTRL.EN true).setReg SCAN.FRAME_NUM.FRAME_NUM 0) s.origin
  { s1 with scan := { s1.scan with startAt := some (firstGridPoint (s.reg SCAN.MODE.MODE) s.origin s.now) } }

theorem scanEnable_eq (s : State) :
    scanEnable s = if s.mode = 7 then raiseCause (enabled s) SAFE.FB_CAUSE.M7 else enabled s := rfl

/-- M7's request changes none of the fields that enabling sets. -/
theorem reg_scanEnable (s : State) (f : Field) (hk : Outside (SAFE.FB_CAUSE.M7 :: raiseCauseRegs) (fieldKey f)) :
    (scanEnable s).reg f = (enabled s).reg f := by
  rw [outside_cons] at hk
  rw [scanEnable_eq]
  split
  · exact reg_eq_of_word (raiseCause_word hk.2 _ _ hk.1)
  · rfl

theorem scanEnable_startAt (s : State) :
    (scanEnable s).scan.startAt = some (firstGridPoint (s.reg SCAN.MODE.MODE) s.origin s.now) := by
  rw [scanEnable_eq]
  split
  · exact raiseCause_startAt _ _
  · rfl

theorem enabled_flag_en (s : State) : (enabled s).flag SCAN.CTRL.EN = true := by
  have hkeep : (enabled s).flag SCAN.CTRL.EN = (s.setFlag SCAN.CTRL.EN true).flag SCAN.CTRL.EN :=
    (flag_eq_of_word (setOriginAct_word (outside_of (by decide)) _ _)).trans (flag_setReg_ne _ _ _ _ (by decide))
  exact hkeep.trans (flag_setFlag_self _ _ _ (by decide) (by decide))

theorem enabled_frameNum (s : State) : (enabled s).reg SCAN.FRAME_NUM.FRAME_NUM = 0 :=
  (reg_eq_of_word (setOriginAct_word (outside_of (by decide)) _ _)).trans (reg_setReg_self _ _ _ (by decide))

/-- SCAN_EN_SET's effects (R91), with M7's fallback request (R86). -/
theorem scanEnable_effects (s : State) :
    (scanEnable s).flag SCAN.CTRL.EN = true ∧ (scanEnable s).reg SCAN.FRAME_NUM.FRAME_NUM = 0
    ∧ (scanEnable s).reg SCAN.ORIGIN_ACT_LO.ORIGIN_ACT = s.reg SCAN.ORIGIN_LO.ORIGIN
    ∧ (scanEnable s).reg SCAN.ORIGIN_ACT_HI.ORIGIN_ACT = s.reg SCAN.ORIGIN_HI.ORIGIN
    ∧ (s.mode = 7 → (scanEnable s).flag SAFE.FB_CAUSE.M7 = true) := by
  refine ⟨?_, ?_, ?_, ?_, fun h => ?_⟩
  · simp only [State.flag, reg_scanEnable s SCAN.CTRL.EN (outside_of (by decide))]
    exact enabled_flag_en s
  · rw [reg_scanEnable s _ (outside_of (by decide)), enabled_frameNum]
  · rw [reg_scanEnable s _ (outside_of (by decide)), ← origin_lo]
    exact reg_setOriginAct_lo _ _
  · rw [reg_scanEnable s _ (outside_of (by decide)), ← origin_hi]
    exact reg_setOriginAct_hi _ _
  · rw [scanEnable_eq, if_pos h]
    exact raiseCause_flag_self _ _ (outside_of (by decide)) (by decide) (by decide)

/-- SCAN_EN_CLEAR's effects (R92), with the end of M7's request (R86). -/
theorem scanDisable_effects (s : State) :
    (scanDisable s).flag SCAN.CTRL.EN = false ∧ (scanDisable s).scan.running = false
    ∧ (scanDisable s).scan.startAt = none ∧ (scanDisable s).scan.loading = false
    ∧ (scanDisable s).scan.passOn = false ∧ (scanDisable s).flag SAFE.FB_CAUSE.M7 = false
    ∧ ∀ g ∈ (scanDisable s).scan.groups, g.darkDue = true ∧ g.swapDue = false := by
  have hscan : (scanDisable s).scan = (stopRaster (s.setFlag SCAN.CTRL.EN false)).scan := by simp [scanDisable]
  have hen : (scanDisable s).flag SCAN.CTRL.EN = (s.setFlag SCAN.CTRL.EN false).flag SCAN.CTRL.EN :=
    (flag_eq_of_word (clearCause_word (outside_of (by decide)) _ _ (by decide))).trans (flag_of_regs _ (by simp))
  rw [hscan, hen, flag_setFlag_self _ _ _ (by decide) (by decide)]
  refine ⟨rfl, rfl, rfl, rfl, rfl, clearCause_flag_self _ _ (by decide) (by decide), fun g hg => ?_⟩
  obtain ⟨g', -, rfl⟩ := List.mem_map.mp hg
  exact ⟨rfl, rfl⟩

theorem requestCommit_of_pending {s : State} (h : s.flag SCAN.COMMIT_STATUS.COMMIT_PEND = true) : requestCommit s = s :=
  if_pos h

theorem requestCommit_pending (s : State) : (requestCommit s).flag SCAN.COMMIT_STATUS.COMMIT_PEND = true := by
  unfold requestCommit
  split
  · assumption
  · exact (flag_setReg_ne _ _ _ _ (by decide)).trans (flag_setFlag_self _ _ _ (by decide) (by decide))

theorem requestCommit_target {s : State} (h : s.flag SCAN.COMMIT_STATUS.COMMIT_PEND = false) :
    (requestCommit s).reg SCAN.COMMIT_STATUS.TARGET_FRAME
      = ((if s.scan.running then s.reg SCAN.FRAME_NUM.FRAME_NUM else 0) + 1) % 2 ^ 16 := by
  unfold requestCommit
  rw [if_neg (by simp [h])]
  refine (reg_setReg_self _ _ _ (by decide)).trans ?_
  cases s.scan.running <;> rfl

/-- Settles O16: enabling, disabling and requesting a commit, each by what its operation does. -/
theorem enablingTheRaster : Obligations.EnablingTheRaster := by
  unfold Obligations.EnablingTheRaster
  refine ⟨fun s hen => ?_, fun s hen => ?_, fun s hc => ?_, fun s hc => ?_⟩
  · have hexec : exec .scanEnSet s = .next (scanEnable s) := congrArg Host.Outcome.next (if_neg (by simp [hen]))
    obtain ⟨hflag, hnum, hlo, hhi, hm7⟩ := scanEnable_effects s
    obtain ⟨k, hgrid⟩ := firstGridPoint_spec (s.reg SCAN.MODE.MODE) s.origin s.now
    exact completes_of hexec ⟨hflag, hnum, hlo, hhi, hm7, k, _, scanEnable_startAt s, hgrid⟩
  · have hexec : exec .scanEnClear s = .next (scanDisable s) := congrArg Host.Outcome.next (if_pos hen)
    exact completes_of hexec (scanDisable_effects s)
  · exact completes_of rfl ⟨requestCommit_pending s, requestCommit_target hc⟩
  · exact congrArg Host.Outcome.next (requestCommit_of_pending hc)

/-! ### Faults below FATAL -/

/-- Only a FATAL detection raises a cause at once (R536). -/
theorem fatalAtDetection_of_ne {cls : Nat} (h : cls ≠ 3) (s : State) (src : Nat) (inj : Bool) :
    fatalAtDetection s src cls inj = s := if_neg (fun hc => h hc.1)

theorem raiseFault_scan {cls : Nat} (h : cls ≠ 3) (s : State) (src : Nat) : (raiseFault s src cls).scan = s.scan := by
  unfold raiseFault
  rw [fatalAtDetection_of_ne h]
  rfl

/-- A detection below FATAL leaves the scan state alone. -/
theorem raiseEither_scan {cls : Nat} (h : cls ≠ 3) (s : State) (inj : Bool) (src : Nat) :
    (raiseEither s inj src cls).scan = s.scan := by
  unfold raiseEither
  split
  · unfold raiseInjected
    rw [fatalAtDetection_of_ne h]
    rfl
  · exact raiseFault_scan h s src

/-! ### Row slots -/

/-- The slot and the tolerance code shown at the start of slot `k` (R87, R103). -/
def showSlot (s : State) (k : Nat) : State :=
  ((s.setReg SCAN.RASTER.SLOT k).setReg SCAN.LAT_TOL.TOL (tolCode s k)).setReg SCAN.LAT_TOL.TOL_MIN
    (min (tolCode s k) (s.reg SCAN.LAT_TOL.TOL_MIN))

theorem tolCode_lt (s : State) (k : Nat) : tolCode s k < 2 ^ 8 := by unfold tolCode; omega

theorem showSlot_slot (s : State) {k : Nat} (h : k < 1088) : (showSlot s k).reg SCAN.RASTER.SLOT = k := by
  unfold showSlot
  rw [reg_setReg_ne _ _ _ _ (by decide), reg_setReg_ne _ _ _ _ (by decide)]
  exact reg_setReg_of_lt _ _ _ (by decide) (Nat.lt_trans h (by decide))

theorem showSlot_tol (s : State) (k : Nat) : (showSlot s k).reg SCAN.LAT_TOL.TOL = tolCode s k := by
  unfold showSlot
  rw [reg_setReg_ne _ _ _ _ (by decide)]
  exact reg_setReg_of_lt _ _ _ (by decide) (tolCode_lt s k)

theorem showSlot_tolMin (s : State) (k : Nat) :
    (showSlot s k).reg SCAN.LAT_TOL.TOL_MIN = min (tolCode s k) (s.reg SCAN.LAT_TOL.TOL_MIN) :=
  reg_setReg_of_lt _ _ _ (by decide) (Nat.lt_of_le_of_lt (Nat.min_le_left _ _) (tolCode_lt s k))

/-- The permission in effect depends on the Guard and on the path state alone (R236). -/
theorem effMask_congr {s t : State} (hg : t.guard = s.guard)
    (hp : t.reg SAFE.STATUS.PATH_STATE = s.reg SAFE.STATUS.PATH_STATE) : effMask t = effMask s := by
  unfold effMask
  rw [hg, hp]

theorem effMask_showSlot (s : State) (k : Nat) : effMask (showSlot s k) = effMask s := by
  refine effMask_congr (by simp [showSlot]) ?_
  unfold showSlot
  rw [reg_setReg_ne _ _ _ _ (by decide), reg_setReg_ne _ _ _ _ (by decide), reg_setReg_ne _ _ _ _ (by decide)]

/-- Slot `k` begins: its registers show it, and the load start takes the permission mask (R87, R103, R236). -/
theorem rowSlotStart_next {s : State} {k : Nat} (hr : s.scan.running = true) (hk : k < 1088) (hc : clocksRun s = true) :
    ∃ t, exec (.rowSlotStart k) s = .next t ∧ t.regs = (showSlot s k).regs
      ∧ (k = 64 → s.scan.loading = true → t.guard.loadMask = effMask s) := by
  refine ⟨_, if_pos ⟨hr, hk, hc⟩, ?_, fun h64 hl => ?_⟩
  · simp [showSlot]
  · simp only [h64, hl, ite_guard, beginFetch_keep, ite_self, and_self, if_true]
    exact effMask_showSlot s 64

/-! ### Row delivery -/

theorem rowChecks_scan (s : State) (accBad echoBad inj9 inj10 : Bool) :
    (rowChecks s accBad echoBad inj9 inj10).scan = s.scan := by
  have h2 : (2 : Nat) ≠ 3 := by decide
  simp [rowChecks, raiseEither_scan h2]

theorem rowChecks_bad (s : State) (accBad echoBad inj9 inj10 : Bool) :
    (rowChecks s accBad echoBad inj9 inj10).guard.accBad = (s.guard.accBad || accBad || inj9)
    ∧ (rowChecks s accBad echoBad inj9 inj10).guard.echoBad = (s.guard.echoBad || echoBad || inj10) := by
  simp [rowChecks]

theorem placeRow_holdUsed {s : State} {r : Nat} (h : (s.group (r / 64)).swapDue = true) (codes : List Nat) :
    (placeRow s r codes).flag SCAN.SWAP_STATUS.HOLD_USED = true := by
  unfold placeRow
  rw [if_pos h]
  exact flag_setFlag_self _ _ _ (by decide) (by decide)

/-- Row `r` composed, summed and checked, before it is written anywhere (R57, R233, R240, R241). -/
def checkedRow (s : State) (r : Nat) (echoGood accGood : Bool) : State :=
  let s1 := guardRow (addDemand s r (codes8 s r)) r (codes9 s r (codes8 s r))
  let s2 := if s1.injWaits 9 then s1.takeInj 9 else s1
  let s3 := if s1.injWaits 10 then s2.takeInj 10 else s2
  rowChecks s3 (!accGood) (!echoGood) (s1.injWaits 9) (s1.injWaits 10)

/-- The checked row written where it belongs and counted (R42, R89). -/
def placedRow (s : State) (r : Nat) (echoGood accGood : Bool) : State :=
  let s4 := placeRow (checkedRow s r echoGood accGood) r (codes9 s r (codes8 s r))
  { s4 with scan := { s4.scan with nextRow := r + 1 } }

theorem deliverRow_eq (s : State) (r : Nat) (echoGood accGood : Bool) :
    deliverRow s r echoGood accGood
      = if rowNeedsDram s r then dramExit (placedRow s r echoGood accGood) else placedRow s r echoGood accGood := rfl

section
variable (s : State) (r : Nat) (e a : Bool)

/-- Composing, summing and checking a row leave the scan state alone but for the demand sums. -/
theorem checkedRow_scan : (checkedRow s r e a).scan = (addDemand s r (codes8 s r)).scan := by
  simp [checkedRow, rowChecks_scan]

theorem checkedRow_pix : (checkedRow s r e a).pix = s.pix := by simp [checkedRow]

theorem checkedRow_bad :
    (a = false → (checkedRow s r e a).guard.accBad = true) ∧ (e = false → (checkedRow s r e a).guard.echoBad = true) := by
  simp only [checkedRow, rowChecks_bad]
  constructor
  · rintro rfl; simp
  · rintro rfl; simp

/-- Waking the DRAM leaves what a delivery writes alone. -/
theorem deliverRow_placed : (deliverRow s r e a).scan = (placedRow s r e a).scan
    ∧ (deliverRow s r e a).pix = (placedRow s r e a).pix ∧ (deliverRow s r e a).guard = (checkedRow s r e a).guard
    ∧ (deliverRow s r e a).flag SCAN.SWAP_STATUS.HOLD_USED = (placedRow s r e a).flag SCAN.SWAP_STATUS.HOLD_USED := by
  have hguard : (placedRow s r e a).guard = (checkedRow s r e a).guard := by simp [placedRow]
  rw [deliverRow_eq]
  split
  · exact ⟨by simp, by simp, by simp [hguard], flag_eq_of_word (dramExit_word (outside_of (by decide)) _)⟩
  · exact ⟨rfl, rfl, hguard, rfl⟩

theorem placedRow_nextRow : (placedRow s r e a).scan.nextRow = r + 1 := rfl

/-- A row of a group that has still to swap waits in the hold area (R42). -/
theorem placedRow_of_swapDue (h : (s.group (r / 64)).swapDue = true) :
    (placedRow s r e a).scan.loading = s.scan.loading
    ∧ (placedRow s r e a).scan.hold = s.scan.hold ++ [(r, codes9 s r (codes8 s r))]
    ∧ (placedRow s r e a).flag SCAN.SWAP_STATUS.HOLD_USED = true ∧ (placedRow s r e a).pix.back = s.pix.back := by
  have hdue : ((checkedRow s r e a).group (r / 64)).swapDue = true := by
    unfold State.group; rw [checkedRow_scan]; exact h
  have hused := (flag_of_regs (t := placedRow s r e a) SCAN.SWAP_STATUS.HOLD_USED rfl).trans (placeRow_holdUsed hdue _)
  refine ⟨?_, ?_, hused, ?_⟩
  · simp [placedRow, placeRow, hdue, checkedRow_scan, addDemand]
  · simp [placedRow, placeRow, hdue, checkedRow_scan, addDemand]
  · simp [placedRow, placeRow, hdue, checkedRow_pix]

/-- A row of any other group enters the back latches (R89). -/
theorem placedRow_of_not_swapDue (h : ¬ (s.group (r / 64)).swapDue = true) :
    (placedRow s r e a).scan.loading = s.scan.loading ∧ (placedRow s r e a).scan.hold = s.scan.hold
    ∧ (placedRow s r e a).pix.back = planeSetRow 0 s.pix.back r (codes9 s r (codes8 s r)) := by
  have hdue : ¬ ((checkedRow s r e a).group (r / 64)).swapDue = true := by
    unfold State.group; rw [checkedRow_scan]; exact h
  simp [placedRow, placeRow, hdue, checkedRow_scan, checkedRow_pix, addDemand]

end

/-! ### Missed deadlines -/

/-- The registers and counters of an underrun, before its fault (R100, R101). -/
def underrunShown (s : State) (r : Nat) : State :=
  let s1 := discardLoad { s with stats := { s.stats with underruns := s.stats.underruns + 1 } }
  ((s1.setFlag SCAN.UR_STATUS.UNDERRUN true).setReg SCAN.UR_STATUS.UR_ROW r).bump SCAN.UR_COUNT.UR_COUNT

theorem underrun_eq (s : State) (r : Nat) : underrun s r false = raiseFault (underrunShown s r) 16 2 := rfl

theorem reg_underrunShown (s : State) (r : Nat) (f : Field)
    (hk : Outside [SCAN.UR_STATUS.UNDERRUN, SCAN.UR_STATUS.UR_ROW, SCAN.UR_COUNT.UR_COUNT] (fieldKey f)) :
    (underrunShown s r).reg f = s.reg f := by
  simp only [outside_cons, outside_nil, and_true] at hk
  obtain ⟨h1, h2, h3⟩ := hk
  unfold underrunShown
  rw [reg_bump_ne _ _ _ h3, reg_setReg_ne _ _ _ _ h2, reg_setFlag_ne _ _ _ _ h1]
  exact reg_of_regs f (by simp)

theorem underrunShown_underrun (s : State) (r : Nat) : (underrunShown s r).flag SCAN.UR_STATUS.UNDERRUN = true := by
  unfold underrunShown
  simp only [State.flag, reg_bump_ne _ SCAN.UR_COUNT.UR_COUNT SCAN.UR_STATUS.UNDERRUN (by decide),
    reg_setReg_ne _ SCAN.UR_STATUS.UR_ROW SCAN.UR_STATUS.UNDERRUN _ (by decide)]
  exact flag_setFlag_self _ _ _ (by decide) (by decide)

theorem underrunShown_row (s : State) {r : Nat} (h : r < 1024) : (underrunShown s r).reg SCAN.UR_STATUS.UR_ROW = r := by
  unfold underrunShown
  rw [reg_bump_ne _ _ _ (by decide)]
  exact reg_setReg_of_lt _ _ _ (by decide) h

theorem underrunShown_count (s : State) (r : Nat) :
    (underrunShown s r).reg SCAN.UR_COUNT.UR_COUNT = min 0xFFFFFFFF (s.reg SCAN.UR_COUNT.UR_COUNT + 1) := by
  unfold underrunShown
  rw [reg_bump_self _ _ (by decide), reg_setReg_ne _ _ _ _ (by decide), reg_setFlag_ne _ _ _ _ (by decide)]
  exact congrArg (fun v => min 0xFFFFFFFF (v + 1)) (reg_of_regs _ (by simp))

/-- A missed deadline ends the load, shows and counts the underrun and raises source 16 (R100, R101). -/
theorem underrun_effects (s : State) {r : Nat} (h : r < 1024) :
    (underrun s r false).scan.loading = false ∧ (underrun s r false).scan.hold = []
    ∧ (underrun s r false).flag SCAN.UR_STATUS.UNDERRUN = true ∧ (underrun s r false).reg SCAN.UR_STATUS.UR_ROW = r
    ∧ (underrun s r false).reg SCAN.UR_COUNT.UR_COUNT = min 0xFFFFFFFF (s.reg SCAN.UR_COUNT.UR_COUNT + 1)
    ∧ (underrun s r false).stats.underruns = s.stats.underruns + 1 ∧ Faulted s (underrun s r false) 16 2 := by
  have hscan : (underrun s r false).scan = (underrunShown s r).scan := by
    rw [underrun_eq, raiseFault_scan (by decide)]
  have hkeep (f : Field) (hk : Outside raiseFaultRegs (fieldKey f)) : (underrun s r false).reg f = (underrunShown s r).reg f :=
    reg_eq_of_word (raiseFault_word hk _ 16 2)
  obtain ⟨hcount, hwait⟩ := raiseFault_faulted (underrunShown s r) 16 2
  rw [reg_underrunShown _ _ _ (outside_of (by decide))] at hcount
  refine ⟨?_, ?_, ?_, ?_, ?_, ?_, hcount, hwait⟩
  · rw [hscan]; rfl
  · rw [hscan]; rfl
  · simp only [State.flag, hkeep SCAN.UR_STATUS.UNDERRUN (outside_of (by decide +kernel))]
    exact underrunShown_underrun s r
  · rw [hkeep _ (outside_of (by decide +kernel)), underrunShown_row s h]
  · rw [hkeep _ (outside_of (by decide +kernel)), underrunShown_count]
  · simp [underrun_eq, underrunShown]

/-- Settles O19: what a slot shows, where a delivered row goes, and what a missed deadline does. -/
theorem rowTiming : Obligations.RowTiming := by
  unfold Obligations.RowTiming
  refine ⟨fun s k hr hk hc => ?_, fun s r e a hc hr hl hn hlt hen hgal hsoft hdram hinj => ?_,
    fun s r hr hl hn hlt hc => ?_⟩
  · obtain ⟨t, hexec, hregs, hmask⟩ := rowSlotStart_next hr hk hc
    refine completes_of hexec ⟨?_, ?_, ?_, hmask⟩
    · rw [reg_of_regs _ hregs, showSlot_slot s hk]
    · rw [reg_of_regs _ hregs, showSlot_tol]
    · rw [reg_of_regs _ hregs, showSlot_tolMin]
  · have hcan : canDeliver s r = true := by
      rcases hdram with h | h <;> simp [canDeliver, hc, hr, hl, hn, hlt, hen, hgal, hsoft, h]
    have hexec : exec (.rowDelivered r e a) s = .next (deliverRow s r e a) :=
      (if_pos hcan).trans (congrArg Host.Outcome.next (if_neg (by simp [hinj])))
    obtain ⟨hscan, hpix, hguard, hused⟩ := deliverRow_placed s r e a
    refine completes_of hexec ?_
    rw [hscan, hpix, hguard, hused, placedRow_nextRow]
    split
    · next hdue =>
      obtain ⟨hload, hhold, hflag, hback⟩ := placedRow_of_swapDue s r e a hdue
      exact ⟨rfl, hload.trans hl, ⟨hhold, hflag, hback⟩, checkedRow_bad s r e a⟩
    · next hdue =>
      obtain ⟨hload, hhold, hback⟩ := placedRow_of_not_swapDue s r e a hdue
      exact ⟨rfl, hload.trans hl, ⟨hback, hhold⟩, checkedRow_bad s r e a⟩
  · have hexec : exec (.rowDeadline r) s = .next (underrun s r false) :=
      congrArg Host.Outcome.next (if_pos ⟨hr, hl, hn, hlt, hc⟩)
    exact completes_of hexec (underrun_effects s hlt)

/-! ### The frame that ends -/

theorem closeLoad_running (s : State) : (closeLoad s).scan.running = s.scan.running := by
  unfold closeLoad
  split
  · rw [underrun_eq, raiseFault_scan (by decide)]
    rfl
  · rfl

theorem swapGate_running (s : State) (pass : Bool) : (swapGate s pass).scan.running = s.scan.running := by
  unfold swapGate
  split
  · rfl
  · dsimp only
    split
    · exact raiseCause_running _ _
    · rfl

theorem closeFrame_running (s : State) : (closeFrame s).scan.running = s.scan.running := by
  unfold closeFrame
  split
  · dsimp only
    split
    · simp [swapGate_running]
    · simp [swapGate_running]
  · rfl

theorem strapFrameStart_scan (s : State) : (strapFrameStart s).scan = s.scan := by
  unfold strapFrameStart breakSeal
  split
  · rw [raiseFault_scan (by decide)]
    simp
  · rfl

/-- The frame that ends: its missed deadline, dose, verdict, held rows and a strap change (R16, R42, R100, R242, R261). -/
def frameEnd (s : State) : State := strapFrameStart (flushHold (closeFrame (closeDose (closeLoad s))))

theorem frameEnd_running (s : State) : (frameEnd s).scan.running = s.scan.running := by
  have hflush (u : State) : (flushHold u).scan.running = u.scan.running := rfl
  simp [frameEnd, strapFrameStart_scan, hflush, closeFrame_running, closeLoad_running]

theorem frameEnd_keep (s : State) : (frameEnd s).act = s.act ∧ (frameEnd s).lt = s.lt := by simp [frameEnd]

theorem reg_frameEnd (s : State) (f : Field)
    (hk : Outside (closeLoadRegs ++ closeFrameRegs ++ strapFrameStartRegs) (fieldKey f)) : (frameEnd s).reg f = s.reg f := by
  simp only [outside_append] at hk
  refine reg_eq_of_word ?_
  simp [frameEnd, hk]

/-! ### The commit -/

theorem actReg_of_act {s t : State} (f : Field) (h : t.act = s.act) : t.actReg f = s.actReg f := by
  unfold State.actReg; rw [h]

/-- MODE is shadowed, and no other shadowed field shares its place. -/
theorem mode_shadowed : SCAN.MODE.MODE ∈ shadowedFields
    ∧ ∀ f ∈ shadowedFields, fieldKey f = fieldKey SCAN.MODE.MODE → f = SCAN.MODE.MODE := by decide +kernel

/-- The buffer descriptions of the slots lie apart from MODE. -/
theorem heldFields_ne_mode (n : Nat) : ∀ f ∈ heldFields n, fieldKey f ≠ fieldKey SCAN.MODE.MODE := by
  have := Nat.mod_lt n (by decide : 0 < 7)
  simp [heldFields, fieldKey, SCAN.MODE.MODE, GAL.L.CTRL.FORMAT, GAL.L.SIZE.W, GAL.L.SIZE.H, GAL.L.STRIDE.STRIDE,
    GAL.L.CTRL.SAFETY]
  omega

/-- Activating fields makes each of them its written copy, where no other field of the list shares its place. -/
theorem actReg_foldl_activate (l : List Field) (g : Field) (hw : g.width ≤ 32)
    (hl : ∀ f ∈ l, fieldKey f = fieldKey g → f = g) (s : State) :
    (l.foldl activate s).actReg g = if g ∈ l then s.reg g % 2 ^ g.width else s.actReg g := by
  induction l generalizing s with
  | nil => simp
  | cons f l ih =>
    have hl' : ∀ x ∈ l, fieldKey x = fieldKey g → x = g := fun x hx => hl x (List.mem_cons_of_mem _ hx)
    have hreg : (activate s f).reg g = s.reg g := reg_of_regs g (by simp)
    rw [List.foldl_cons, ih hl', hreg]
    by_cases hfg : f = g
    · subst hfg
      simp [activate, actReg_setAct_self _ _ _ hw]
    · have hne : fieldKey f ≠ fieldKey g := fun h => hfg (hl f List.mem_cons_self h)
      simp [activate, actReg_setAct_ne _ _ _ _ hne, Ne.symm hfg]

theorem actReg_foldl_setAct_ne (l : List (Field × Nat)) (g : Field) (hl : ∀ p ∈ l, fieldKey p.1 ≠ fieldKey g) (s : State) :
    (l.foldl (fun s p => s.setAct p.1 p.2) s).actReg g = s.actReg g := by
  induction l generalizing s with
  | nil => rfl
  | cons p l ih =>
    rw [List.foldl_cons, ih (fun q hq => hl q (List.mem_cons_of_mem _ hq))]
    exact actReg_setAct_ne _ _ _ _ (hl p List.mem_cons_self)

theorem applyHeld_mode (s : State) (n : Nat) : (applyHeld s n).mode = s.mode := by
  unfold applyHeld
  split
  · rfl
  · exact actReg_foldl_setAct_ne _ _ (fun p hp => heldFields_ne_mode n p.1 (List.of_mem_zip hp).1) _

theorem foldl_applyHeld_mode (l : List Nat) (s : State) : (l.foldl applyHeld s).mode = s.mode := by
  induction l generalizing s with
  | nil => rfl
  | cons n l ih => exact (ih _).trans (applyHeld_mode s n)

/-- A commit makes MODE the active mode, whatever buffer descriptions it holds back (R96, R127). -/
theorem commitFields_mode (s : State) (keep : List Nat) : (commitFields s keep).mode = s.reg SCAN.MODE.MODE % 8 := by
  have hmem : SCAN.MODE.MODE ∈ shadowedFields.filter (fun f => !keep.any (fun n => (heldFields n).contains f)) := by
    refine List.mem_filter.mpr ⟨mode_shadowed.1, ?_⟩
    simp only [Bool.not_eq_true', List.any_eq_false, List.contains_iff_mem]
    exact fun n _ h => heldFields_ne_mode n _ h rfl
  have hfold := actReg_foldl_activate
    (shadowedFields.filter (fun f => !keep.any (fun n => (heldFields n).contains f))) SCAN.MODE.MODE (by decide)
    (fun f hf => mode_shadowed.2 f (List.mem_filter.mp hf).1) s
  rw [if_pos hmem] at hfold
  exact hfold

/-- Only held-back fields and the commit change active copies at the Gallery's frame start (R96, R127). -/
theorem galFrameStart_act (s : State) (force : Bool) : ∃ freed waiting : List Nat, (galFrameStart s force).act
    = (if (force || s.flag SCAN.COMMIT_STATUS.COMMIT_PEND) = true then commitFields (freed.foldl applyHeld s) waiting
      else freed.foldl applyHeld s).act := by
  apply Exists.intro
  apply Exists.intro
  simp only [galFrameStart, kilnFrameStart_keep, State.setReg_act, State.bumpBy_act, foldl_act, doFlip_keep, implies_true]
  rfl

/-- The active mode after the Gallery's frame start: MODE on a commit, the one before without (R96). -/
theorem galFrameStart_mode (s : State) (force : Bool) : (galFrameStart s force).mode
    = if (force || s.flag SCAN.COMMIT_STATUS.COMMIT_PEND) = true then s.reg SCAN.MODE.MODE % 8 else s.mode := by
  obtain ⟨freed, waiting, hact⟩ := galFrameStart_act s force
  refine (actReg_of_act SCAN.MODE.MODE hact).trans ?_
  split
  · refine (commitFields_mode _ waiting).trans ?_
    rw [reg_of_regs SCAN.MODE.MODE (by simp : (freed.foldl applyHeld s).regs = s.regs)]
  · exact foldl_applyHeld_mode freed s

/-! ### The step-down of the engines -/

theorem spareFrameStart_stepMode (s : State) : (spareFrameStart s).eng.stepMode = s.eng.stepMode := by
  simp [spareFrameStart]

theorem rotateFrameStart_stepMode (s : State) : (rotateFrameStart s).eng.stepMode = s.eng.stepMode := by
  unfold rotateFrameStart
  split
  · split
    · simp
    · rfl
  · rfl

theorem tablesFrameStart_stepMode (s : State) : (tablesFrameStart s).eng.stepMode = s.eng.stepMode := by
  unfold tablesFrameStart
  dsimp only
  split <;> rfl

theorem latchFrameStart_stepMode (s : State) : (latchFrameStart s).eng.stepMode = s.eng.stepMode := by
  unfold latchFrameStart
  split <;> rfl

theorem dispatchEntry_stepMode (s : State) (mode i before : Nat) (b : List Byte) :
    (dispatchEntry s mode i before b).1.eng.stepMode = s.eng.stepMode := by
  unfold dispatchEntry
  dsimp only
  split <;> split <;> rfl

theorem dispatchAll_stepMode (mode : Nat) (l : List (List Byte)) (s : State) (done : List RunEntry) :
    (dispatchAll mode s done l).1.eng.stepMode = s.eng.stepMode := by
  induction l generalizing s done with
  | nil => rfl
  | cons b l ih => exact (ih _ _).trans (dispatchEntry_stepMode _ _ _ _ _)

theorem closeSet_stepMode (s : State) : (closeSet s).eng.stepMode = s.eng.stepMode := by
  unfold closeSet
  split
  · split <;> rfl
  · rfl

theorem dispatchDue_stepMode (s : State) : (dispatchDue s).eng.stepMode = s.eng.stepMode := by
  unfold dispatchDue
  split
  · split
    · simp [dispatchSet, closeSet_stepMode, dispatchAll_stepMode]
    · rfl
  · rfl

/-- The late flag of a frame start, counted and remembered (R221). -/
def lateNoted (s : State) (late : Bool) : State :=
  let s1 := if late then s.bump BE.LATE_COUNT.COUNT else s
  { s1 with eng := { s1.eng with late := (late :: s.eng.late).take 16 } }

/-- The step-down to the next slower mode: it is written to MODE, a commit is requested and the event tells it (R222). -/
def stepDown (s : State) : State :=
  let s3 := { s with eng := { s.eng with late := [], stepMode := some (s.mode - 1), stepWatch := true } }
  let s4 := requestCommit ((s3.setReg SCAN.MODE.MODE (s.mode - 1)).setFlag BE.STATUS.STEPPED true)
  raiseEvent s4 0x0201 (toLe 1 s.mode ++ toLe 1 (s.mode - 1))

/-- The late flag is noted, and the engines step down or go on (R221, R222). -/
theorem lateFrameStart_cases (s : State) (late : Bool) :
    lateFrameStart s late = stepDown (lateNoted s late) ∨ lateFrameStart s late = lateNoted s late := ite_eq_or_eq _ _ _

theorem flag_raiseEvent (s : State) (code : Nat) (args : List Byte) (f : Field) :
    (raiseEvent s code args).flag f = s.flag f := flag_of_regs f (by simp)

theorem stepDown_commit (s : State) :
    (stepDown s).flag SCAN.COMMIT_STATUS.COMMIT_PEND = true ∧ (stepDown s).eng.stepMode = some (s.mode - 1) := by
  constructor
  · unfold stepDown
    rw [flag_raiseEvent, requestCommit_pending]
  · simp [stepDown]

theorem lateNoted_stepMode (s : State) (late : Bool) : (lateNoted s late).eng.stepMode = s.eng.stepMode := by
  cases late <;> rfl

theorem lateNoted_commitPend (s : State) (late : Bool) :
    (lateNoted s late).flag SCAN.COMMIT_STATUS.COMMIT_PEND = s.flag SCAN.COMMIT_STATUS.COMMIT_PEND := by
  refine flag_eq_of_word ?_
  cases late
  · rfl
  · exact bump_word _ _ (by decide)

/-- The engines request the next commit exactly when they step down (R222). -/
theorem lateFrameStart_commit {s : State} (late : Bool) (hstep : s.eng.stepMode = none)
    (hpend : s.flag SCAN.COMMIT_STATUS.COMMIT_PEND = false) :
    (lateFrameStart s late).flag SCAN.COMMIT_STATUS.COMMIT_PEND = (lateFrameStart s late).eng.stepMode.isSome := by
  rcases lateFrameStart_cases s late with h | h
  · obtain ⟨hflag, hmode⟩ := stepDown_commit (lateNoted s late)
    rw [h, hflag, hmode]
    rfl
  · rw [h, lateNoted_commitPend, lateNoted_stepMode, hpend, hstep]
    rfl

/-- Spares, rotation, tables, latch and dispatch, which follow the step-down (R16, R19, R205, R217, R219). -/
def engineWork (s : State) : State :=
  dispatchDue (latchFrameStart (tablesFrameStart (rotateFrameStart (spareFrameStart s))))

theorem engineWork_stepMode (s : State) : (engineWork s).eng.stepMode = s.eng.stepMode := by
  unfold engineWork
  rw [dispatchDue_stepMode, latchFrameStart_stepMode, tablesFrameStart_stepMode, rotateFrameStart_stepMode,
    spareFrameStart_stepMode]

theorem engineWork_commitPend (s : State) :
    (engineWork s).flag SCAN.COMMIT_STATUS.COMMIT_PEND = s.flag SCAN.COMMIT_STATUS.COMMIT_PEND := by
  have hdue : Outside dispatchDueRegs (fieldKey SCAN.COMMIT_STATUS.COMMIT_PEND) := outside_of (by decide +kernel)
  have hrotate : Outside rotateFrameStartRegs (fieldKey SCAN.COMMIT_STATUS.COMMIT_PEND) := outside_of (by decide +kernel)
  have hspare : Outside spareFrameStartRegs (fieldKey SCAN.COMMIT_STATUS.COMMIT_PEND) := outside_of (by decide +kernel)
  refine flag_eq_of_word ?_
  simp [engineWork, hdue, hrotate, hspare]

/-- LOAD and its peak of the frame that ends (R221). -/
def loadShown (s : State) (load : Nat) : State :=
  (s.setReg BE.LOAD.LOAD (min 255 load)).setReg BE.LOAD.LOAD_PEAK (max (min 255 load) (s.reg BE.LOAD.LOAD_PEAK))

theorem engFrameStart_eq (s : State) (load : Nat) : engFrameStart s load
    = if (loadShown s load).flag BE.CTRL.EN then
        engineWork (lateFrameStart (loadShown s load) (loadShown s load).eng.running.isSome)
      else loadShown s load := rfl

/-- Of the engines' part of a frame start only the step-down touches COMMIT_PEND (R222). -/
theorem engFrameStart_commit {s : State} (load : Nat) (hstep : s.eng.stepMode = none)
    (hpend : s.flag SCAN.COMMIT_STATUS.COMMIT_PEND = false) :
    (engFrameStart s load).flag SCAN.COMMIT_STATUS.COMMIT_PEND = (engFrameStart s load).eng.stepMode.isSome := by
  have hshown : (loadShown s load).flag SCAN.COMMIT_STATUS.COMMIT_PEND = false := by
    unfold loadShown
    rw [flag_setReg_ne _ _ _ _ (by decide), flag_setReg_ne _ _ _ _ (by decide), hpend]
  have hnone : (loadShown s load).eng.stepMode = none := hstep
  rw [engFrameStart_eq]
  split
  · rw [engineWork_commitPend, engineWork_stepMode]
    exact lateFrameStart_commit _ hnone hshown
  · rw [hshown, hnone]
    rfl

/-! ### The frame that begins -/

/-- The frame start up to the commit: FRAME_NUM advanced, flips and commit made, no step-down requested yet (R87, R96, R99). -/
def sampled (s : State) (first : Bool) : State :=
  let s2 := (galFrameStart (s.wrapBy SCAN.FRAME_NUM.FRAME_NUM 1) first).setFlag SCAN.COMMIT_STATUS.COMMIT_PEND false
  { s2 with eng := { s2.eng with stepMode := none } }

/-- The frame start up to the new load: mode, governor and engines follow the commit. -/
def beforeLoad (s : State) (load : Nat) (first : Bool) : State :=
  engFrameStart (governor (enterMode (sampled s first) s.mode first)) load

/-- The rest of a frame start, once the load is open: path state, diagnostics, calibration, FRAME_SYNC, spread and alignment
(R93, R107, R255, R272, R302, R406). -/
def afterLoad (s : State) : State :=
  let s5 := calFrameStart (diagFrameStart (pathFrameStart s))
  alignFrame (takeSpread { s5 with pins := { s5.pins with frameSync := some s5.now } })

section
variable (s : State) (first : Bool)

theorem sampled_regs : (sampled s first).regs
    = ((galFrameStart (s.wrapBy SCAN.FRAME_NUM.FRAME_NUM 1) first).setFlag SCAN.COMMIT_STATUS.COMMIT_PEND false).regs := rfl

theorem sampled_frameNum : (sampled s first).reg SCAN.FRAME_NUM.FRAME_NUM = (s.reg SCAN.FRAME_NUM.FRAME_NUM + 1) % 2 ^ 32 := by
  have hgal := galFrameStart_word (key := fieldKey SCAN.FRAME_NUM.FRAME_NUM) (outside_of (by decide +kernel))
    (s.wrapBy SCAN.FRAME_NUM.FRAME_NUM 1) first
  have hnum : (s.wrapBy SCAN.FRAME_NUM.FRAME_NUM 1).reg SCAN.FRAME_NUM.FRAME_NUM
      = (s.reg SCAN.FRAME_NUM.FRAME_NUM + 1) % 2 ^ 32 := reg_setReg_self _ _ _ (by decide)
  rw [reg_of_regs _ (sampled_regs s first), reg_setFlag_ne _ _ _ _ (by decide), reg_eq_of_word hgal, hnum]

theorem sampled_commitPend : (sampled s first).flag SCAN.COMMIT_STATUS.COMMIT_PEND = false := by
  rw [flag_of_regs _ (sampled_regs s first), flag_setFlag_self _ _ _ (by decide) (by decide)]

theorem sampled_mode : (sampled s first).mode
    = if (first || s.flag SCAN.COMMIT_STATUS.COMMIT_PEND) = true then s.reg SCAN.MODE.MODE % 8 else s.mode := by
  have hpend : (s.wrapBy SCAN.FRAME_NUM.FRAME_NUM 1).flag SCAN.COMMIT_STATUS.COMMIT_PEND
      = s.flag SCAN.COMMIT_STATUS.COMMIT_PEND := flag_setReg_ne _ _ _ _ (by decide)
  have hmode : (s.wrapBy SCAN.FRAME_NUM.FRAME_NUM 1).reg SCAN.MODE.MODE = s.reg SCAN.MODE.MODE :=
    reg_setReg_ne _ _ _ _ (by decide)
  have hgal := galFrameStart_mode (s.wrapBy SCAN.FRAME_NUM.FRAME_NUM 1) first
  rw [hpend, hmode] at hgal
  exact hgal

theorem sampled_scan : (sampled s first).scan = s.scan := by simp [sampled]

/-- Entering a mode leaves the raster running and its start as they are. -/
theorem enterMode_raster (old : Nat) : (enterMode s old first).scan.running = s.scan.running
    ∧ (enterMode s old first).scan.startAt = s.scan.startAt := by
  unfold enterMode
  dsimp only
  split
  · rw [raiseCause_running, raiseCause_startAt]
    simp
  · simp

variable (load : Nat)

theorem beforeLoad_raster : (beforeLoad s load first).scan.running = s.scan.running
    ∧ (beforeLoad s load first).scan.startAt = s.scan.startAt := by
  have hgov (u : State) : (governor u).scan.running = u.scan.running ∧ (governor u).scan.startAt = u.scan.startAt :=
    ⟨rfl, rfl⟩
  have heng : (beforeLoad s load first).scan = (governor (enterMode (sampled s first) s.mode first)).scan := by
    simp [beforeLoad]
  obtain ⟨hrun, hat⟩ := enterMode_raster (sampled s first) first s.mode
  rw [heng, (hgov _).1, (hgov _).2, hrun, hat, sampled_scan]
  exact ⟨rfl, rfl⟩

theorem beforeLoad_frameNum :
    (beforeLoad s load first).reg SCAN.FRAME_NUM.FRAME_NUM = (s.reg SCAN.FRAME_NUM.FRAME_NUM + 1) % 2 ^ 32 := by
  have heng : Outside engFrameStartRegs (fieldKey SCAN.FRAME_NUM.FRAME_NUM) := outside_of (by decide +kernel)
  have hgov : Outside governorRegs (fieldKey SCAN.FRAME_NUM.FRAME_NUM) := outside_of (by decide +kernel)
  have hmode : Outside enterModeRegs (fieldKey SCAN.FRAME_NUM.FRAME_NUM) := outside_of (by decide +kernel)
  refine Eq.trans (reg_eq_of_word ?_) (sampled_frameNum s first)
  simp [beforeLoad, heng, hgov, hmode]

theorem beforeLoad_commit : (beforeLoad s load first).flag SCAN.COMMIT_STATUS.COMMIT_PEND
    = (beforeLoad s load first).eng.stepMode.isSome := by
  have hgov : Outside governorRegs (fieldKey SCAN.COMMIT_STATUS.COMMIT_PEND) := outside_of (by decide +kernel)
  have hmode : Outside enterModeRegs (fieldKey SCAN.COMMIT_STATUS.COMMIT_PEND) := outside_of (by decide +kernel)
  refine engFrameStart_commit load ?_ (Eq.trans (flag_eq_of_word ?_) (sampled_commitPend s first))
  · simp [sampled]
  · simp [hgov, hmode]

theorem beforeLoad_mode : (beforeLoad s load first).mode
    = if (first || s.flag SCAN.COMMIT_STATUS.COMMIT_PEND) = true then s.reg SCAN.MODE.MODE % 8 else s.mode :=
  (actReg_of_act SCAN.MODE.MODE (by simp [beforeLoad])).trans (sampled_mode s first)

theorem beforeLoad_now : (beforeLoad s load first).now = s.now :=
  congrArg BitVec.toNat (by simp [beforeLoad, sampled])

end

/-- A load opens at row 0 with nothing held, unless the mode is M7; the raster runs on (R16, R87, R99). -/
theorem openLoad_scan (s : State) : (openLoad s).scan.nextRow = 0 ∧ (openLoad s).scan.hold = []
    ∧ (openLoad s).scan.frameLt = s.now ∧ (openLoad s).scan.loading = decide (s.mode ≠ 7)
    ∧ (openLoad s).scan.running = s.scan.running ∧ (openLoad s).scan.startAt = s.scan.startAt := by
  simp [openLoad]

theorem openLoad_slot (s : State) : (openLoad s).reg SCAN.RASTER.SLOT = 0 := by
  have hslot : (openLoad s).regs = (((s.setReg SCAN.SWAP_STATUS.HOLD_PEAK s.scan.heldNow).setReg
      SCAN.SWAP_STATUS.GRP_SWAPPED 0).setReg SCAN.RASTER.SLOT 0).regs := by simp [openLoad]
  rw [reg_of_regs _ hslot, reg_setReg_of_lt _ _ _ (by decide) (by decide)]

/-- Once the load is open, a frame start changes nothing of the scan state but the last pass's idle interval (R93). -/
theorem afterLoad_scan (s : State) :
    (afterLoad s).scan = { s.scan with idleAdj := (afterLoad s).scan.idleAdj } := by
  simp [afterLoad, alignFrame]

theorem afterLoad_keep (s : State) : (afterLoad s).act = s.act ∧ (afterLoad s).eng = s.eng
    ∧ (afterLoad s).pins.frameSync = some s.now := by
  have hnow (u : State) (h : u.lt = s.lt) : u.now = s.now := congrArg BitVec.toNat h
  simp [afterLoad, hnow]

theorem reg_afterLoad (s : State) (f : Field)
    (hk : Outside (alignFrameRegs ++ calFrameStartRegs ++ pathFrameStartRegs) (fieldKey f)) :
    (afterLoad s).reg f = s.reg f := by
  simp only [outside_append] at hk
  refine reg_eq_of_word ?_
  simp [afterLoad, hk]

/-- The rest of a frame start, from the new load on. -/
def opened (s : State) : State := afterLoad (openLoad s)

theorem opened_mode (s : State) : (opened s).mode = s.mode :=
  actReg_of_act SCAN.MODE.MODE ((afterLoad_keep _).1.trans (by simp))

theorem opened_eng (s : State) : (opened s).eng = s.eng := by
  simp [opened, afterLoad_keep]

theorem opened_frameSync (s : State) : (opened s).pins.frameSync = some s.now := by
  have hnow : (openLoad s).now = s.now := congrArg BitVec.toNat (by simp)
  simp [opened, afterLoad_keep, hnow]

theorem reg_opened (s : State) (f : Field)
    (hk : Outside (alignFrameRegs ++ calFrameStartRegs ++ pathFrameStartRegs ++ openLoadRegs) (fieldKey f)) :
    (opened s).reg f = s.reg f := by
  rw [outside_append] at hk
  exact (reg_afterLoad _ f hk.1).trans (reg_eq_of_word (openLoad_word hk.2 s))

theorem opened_slot (s : State) : (opened s).reg SCAN.RASTER.SLOT = 0 :=
  (reg_afterLoad _ _ (outside_of (by decide))).trans (openLoad_slot s)

theorem opened_scan (s : State) : (opened s).scan.nextRow = 0 ∧ (opened s).scan.hold = []
    ∧ (opened s).scan.frameLt = s.now ∧ (opened s).scan.loading = decide (s.mode ≠ 7)
    ∧ (opened s).scan.running = s.scan.running ∧ (opened s).scan.startAt = s.scan.startAt := by
  unfold opened
  rw [afterLoad_scan]
  exact openLoad_scan s

theorem beginFrame_eq (s : State) (load : Nat) (first : Bool) :
    beginFrame s load first = opened (beforeLoad s load first) := rfl

section
variable (s : State) (load : Nat) (first : Bool)

/-- The active mode of the new frame is the one its commit leaves (R94, R96). -/
theorem beginFrame_mode : (beginFrame s load first).mode
    = if (first || s.flag SCAN.COMMIT_STATUS.COMMIT_PEND) = true then s.reg SCAN.MODE.MODE % 8 else s.mode :=
  (opened_mode _).trans (beforeLoad_mode s first load)

/-- Opening a frame neither stops nor schedules the raster. -/
theorem beginFrame_raster : (beginFrame s load first).scan.running = s.scan.running
    ∧ (beginFrame s load first).scan.startAt = s.scan.startAt := by
  obtain ⟨-, -, -, -, hrun, hat⟩ := opened_scan (beforeLoad s load first)
  obtain ⟨hbrun, hbat⟩ := beforeLoad_raster s first load
  exact ⟨hrun.trans hbrun, hat.trans hbat⟩

/-- A frame start opens the next frame (R87, R99, R406). -/
theorem beginFrame_newFrame : NewFrame s (beginFrame s load first) := by
  rw [beginFrame_eq]
  obtain ⟨hrow, hhold, hlt, hloading, -, -⟩ := opened_scan (beforeLoad s load first)
  refine ⟨?_, ?_, opened_slot _, hrow, hhold, hlt.trans (beforeLoad_now s first load), ?_, ?_⟩
  · rw [reg_opened _ _ (outside_of (by decide)), beforeLoad_frameNum]
  · rw [opened_eng, ← beforeLoad_commit]
    simp only [State.flag, reg_opened _ SCAN.COMMIT_STATUS.COMMIT_PEND (outside_of (by decide))]
  · rw [opened_frameSync, beforeLoad_now]
  · rw [hloading, opened_mode]

end

/-! ### Frame start and raster start -/

/-- The raster runs and waits for no start; a strap change breaks the seal (R91, R261). -/
def rasterOn (s : State) : State := strapFrameStart { s with scan := { s.scan with running := true, startAt := none } }

theorem rasterOn_scan (s : State) : (rasterOn s).scan = { s.scan with running := true, startAt := none } :=
  strapFrameStart_scan _

theorem rasterOn_lt (s : State) : (rasterOn s).lt = s.lt := by simp [rasterOn]

theorem reg_rasterOn (s : State) (f : Field) (hk : Outside strapFrameStartRegs (fieldKey f)) :
    (rasterOn s).reg f = s.reg f := reg_eq_of_word (strapFrameStart_word hk _)

/-- A new frame counted from a state that agrees in the frame number and in lamp time. -/
theorem newFrame_congr {s u t : State} (hnum : u.reg SCAN.FRAME_NUM.FRAME_NUM = s.reg SCAN.FRAME_NUM.FRAME_NUM)
    (hlt : u.lt = s.lt) (h : NewFrame u t) : NewFrame s t := by
  have hnow : u.now = s.now := congrArg BitVec.toNat hlt
  unfold NewFrame at h ⊢
  rwa [hnum, hnow] at h

/-- Settles O17: the frame that ends leaves number, commit and mode as they are, and the one that begins reads them. -/
theorem frameStarts : Obligations.FrameStarts := by
  unfold Obligations.FrameStarts
  refine ⟨fun s load hr hc => ?_, fun s hen hr hat hc => ?_⟩
  · have hexec : exec (.frameStart load) s = .next (beginFrame (frameEnd s) load false) := if_pos ⟨hr, hc⟩
    obtain ⟨hact, hlt⟩ := frameEnd_keep s
    have hmode : (frameEnd s).mode = s.mode := actReg_of_act _ hact
    have hnew := beginFrame_newFrame (frameEnd s) load false
    refine completes_of hexec ⟨newFrame_congr (reg_frameEnd s _ (outside_of (by decide +kernel))) hlt hnew, ?_, ?_⟩
    · rw [(beginFrame_raster _ _ _).1, frameEnd_running, hr]
    · rw [beginFrame_mode, Bool.false_or, State.flag, reg_frameEnd s _ (outside_of (by decide +kernel)),
        reg_frameEnd s _ (outside_of (by decide +kernel)), hmode]
      rfl
  · have hexec : exec .rasterStart s = .next (beginFrame (rasterOn s) 0 true) :=
      if_pos ⟨hen, hr, Option.isSome_iff_ne_none.mpr hat, hc⟩
    have hnew := beginFrame_newFrame (rasterOn s) 0 true
    obtain ⟨hrun, hstart⟩ := beginFrame_raster (rasterOn s) 0 true
    refine completes_of hexec
      ⟨newFrame_congr (reg_rasterOn s _ (outside_of (by decide +kernel))) (rasterOn_lt s) hnew, ?_, ?_, ?_⟩
    · rw [hrun, rasterOn_scan]
    · rw [hstart, rasterOn_scan]
    · rw [beginFrame_mode, Bool.true_or, if_pos rfl, reg_rasterOn s _ (outside_of (by decide +kernel))]

end Sys2Proof.Machine.FrameTiming
end

section
/-! PROOF. GalleryComposition: fences, flips, LUT access, disabling the Gallery, SAFETY layer checks, Kiln builds and retired buffers
(04_gallery_composition.md). -/

namespace Sys2Proof.Machine.GalleryComposition

open FrameTiming (reg_lt reg_setReg_of_lt flag_eq_of_word raiseFault_scan)

/-! ### Fields -/

theorem bits_lt (n lo w : Nat) : bits n lo w < 2 ^ w := Nat.mod_lt _ (Nat.two_pow_pos w)

/-- One bit of a word, read as a number, is the bit. -/
theorem bits_one_ne_zero (n lo : Nat) : (bits n lo 1 != 0) = bit n lo := by
  rw [bit, Nat.testBit, Nat.one_and_eq_mod_two]
  rfl

/-- Setting bit `k` of a number sets it. -/
theorem bit_or_two_pow_self (n k : Nat) : bit (n ||| 2 ^ k) k = true := by simp [bit]

theorem reg_wrapBy_self (s : State) (f : Field) (n : Nat) (hw : f.width ≤ 32) :
    (s.wrapBy f n).reg f = (s.reg f + n) % 2 ^ f.width := reg_setReg_self s f _ hw

theorem reg_wrapBy_ne (s : State) (f g : Field) (n : Nat) (h : fieldKey f ≠ fieldKey g) : (s.wrapBy f n).reg g = s.reg g :=
  reg_setReg_ne s f g _ h

theorem flag_wrapBy_ne (s : State) (f g : Field) (n : Nat) (h : fieldKey f ≠ fieldKey g) : (s.wrapBy f n).flag g = s.flag g :=
  flag_setReg_ne s f g _ h

/-- Fields of distinct places, each loaded from its part of a word, read that part. -/
theorem reg_foldl_fromWord (w : Word) (l : List Field) (hl : (l.map fieldKey).Nodup) (s : State) {f : Field} (hf : f ∈ l)
    (hw : f.width ≤ 32) : (l.foldl (fun t g => t.setReg g (fromWord g w)) s).reg f = fromWord f w := by
  induction l generalizing s with
  | nil => exact absurd hf List.not_mem_nil
  | cons g l ih =>
    rw [List.map_cons, List.nodup_cons] at hl
    obtain ⟨hg, hl⟩ := hl
    rw [List.foldl_cons]
    rcases List.mem_cons.mp hf with rfl | hf
    · have hne : ∀ x ∈ l, fieldKey x ≠ fieldKey f := fun x hx h => hg (h ▸ List.mem_map_of_mem hx)
      exact (reg_eq_of_word (foldl_fields_word l hne _ _)).trans (reg_setReg_of_lt s f _ hw (bits_lt _ _ _))
    · exact ih hl _ hf

/-! ### Fences (R138) -/

theorem reg_fenceAdd (s : State) (k n : Nat) :
    (fenceAdd s k n).reg (GAL.FENCE.FENCE k) = (s.reg (GAL.FENCE.FENCE k) + n) % 2 ^ 32 :=
  reg_wrapBy_self s _ n (Nat.le_refl 32)

/-- FENCE_INC_WRITE names the fence by bits 5:0 and the amount by bits 31:16. -/
theorem fenceInc_parts (w : Word) :
    fromWord GAL.FENCE_INC.INDEX w = w.toNat % 64 ∧ fromWord GAL.FENCE_INC.AMOUNT w = w.toNat / 2 ^ 16 := by
  have hw : w.toNat < 2 ^ 32 := w.isLt
  simp only [fromWord, bits, GAL.FENCE_INC.INDEX, GAL.FENCE_INC.AMOUNT, Nat.shiftRight_eq_div_pow]
  omega

/-- The wrapped difference reads as 0 or more exactly when it lies in the lower half. -/
theorem fenceReached_iff (s : State) (k v : Nat) : fenceReached s k v = true ↔
    0 ≤ (BitVec.ofNat 32 (s.reg (GAL.FENCE.FENCE k)) - BitVec.ofNat 32 v).toInt := by
  have hlt := reg_lt s (GAL.FENCE.FENCE k)
  have hdiff : (BitVec.ofNat 32 (s.reg (GAL.FENCE.FENCE k)) - BitVec.ofNat 32 v).toNat
      = (s.reg (GAL.FENCE.FENCE k) + 2 ^ 32 - v % 2 ^ 32) % 2 ^ 32 := by
    rw [BitVec.toNat_sub, BitVec.toNat_ofNat, BitVec.toNat_ofNat]
    omega
  rw [fenceReached, decide_eq_true_iff, ← hdiff, BitVec.toInt_eq_toNat_cond]
  split <;> omega

/-! ### Flips (R139) -/

/-- The five fields of Ln_FLIP lie at different places. -/
theorem flip_keys_nodup (n : Nat) : (List.map fieldKey
    [GAL.L.FLIP.ARM n, GAL.L.FLIP.FENCE_EN n, GAL.L.FLIP.FENCE_SEL n, GAL.L.FLIP.RETIRE_EN n, GAL.L.FLIP.RETIRE_SEL n]).Nodup := by
  simp [fieldKey, GAL.L.FLIP.ARM, GAL.L.FLIP.FENCE_EN, GAL.L.FLIP.FENCE_SEL, GAL.L.FLIP.RETIRE_EN, GAL.L.FLIP.RETIRE_SEL]

/-- A write of Ln_FLIP loads every field from its part of the word. -/
theorem writeFlip_effects (s : State) (n : Nat) (w : Word) :
    (writeFlip s n w).flag (GAL.L.FLIP.ARM n) = bit w.toNat 0 ∧ (writeFlip s n w).flag (GAL.L.FLIP.FENCE_EN n) = bit w.toNat 1
    ∧ (writeFlip s n w).reg (GAL.L.FLIP.FENCE_SEL n) = bits w.toNat 2 6
    ∧ (writeFlip s n w).flag (GAL.L.FLIP.RETIRE_EN n) = bit w.toNat 8
    ∧ (writeFlip s n w).reg (GAL.L.FLIP.RETIRE_SEL n) = bits w.toNat 9 6 := by
  have hload := fun f hf hw => reg_foldl_fromWord w _ (flip_keys_nodup n) s (f := f) hf hw
  have hflag (f : Field) (hreg : (writeFlip s n w).reg f = bits w.toNat f.lo 1) : (writeFlip s n w).flag f = bit w.toNat f.lo := by
    rw [State.flag, hreg, bits_one_ne_zero]
  refine ⟨hflag _ (hload _ ?_ ?_), hflag _ (hload _ ?_ ?_), hload _ ?_ ?_, hflag _ (hload _ ?_ ?_), hload _ ?_ ?_⟩
  all_goals simp [GAL.L.FLIP.ARM, GAL.L.FLIP.FENCE_EN, GAL.L.FLIP.FENCE_SEL, GAL.L.FLIP.RETIRE_EN, GAL.L.FLIP.RETIRE_SEL]

/-! ### LUT access (R134, R157) -/

theorem lutPut_of_ignored {s : State} {t i : Nat} (v : Nat) (h : lutSelected s t = true ∨ lutSize t ≤ i) :
    (lutPut s t i v).1 = s.setFlag GAL.STATUS.LUT_IGN true := by rw [lutPut, if_pos h]

theorem lutPut_of_taken {s : State} {t i : Nat} (v : Nat) (hsel : lutSelected s t = false) (hi : i < lutSize t) :
    (lutPut s t i v).1 = { s with gal := { s.gal with lut := sparseSet 0 s.gal.lut (t * 8192 + i) (v % 65536) } } := by
  rw [lutPut, if_neg (by simp [hsel, hi])]

theorem lutSize_le (t : Nat) : lutSize t ≤ 4096 := by unfold lutSize; split <;> omega

/-- A taken write changes the entry it names and no other. -/
theorem lutEntry_lutPut {s : State} {t i : Nat} (v : Nat) (hsel : lutSelected s t = false) (hi : i < lutSize t) {k j : Nat}
    (hj : j < 8192) : lutEntry (lutPut s t i v).1 k j = if k = t ∧ j = i then v % 65536 else lutEntry s k j := by
  have := lutSize_le t
  rw [lutPut_of_taken v hsel hi]
  unfold lutEntry
  split
  · next h => rw [h.1, h.2, sparseGet_set_self]
  · next h => exact sparseGet_set_ne 0 _ _ _ _ (by omega)

/-- INDEX advances past the entry written or ignored, wrapping at 13 bits. -/
theorem lutWrite_index (s : State) (t i v : Nat) : ((lutPut s t i v).1.wrapBy GAL.LUT_ADDR.INDEX 1).reg GAL.LUT_ADDR.INDEX
    = (s.reg GAL.LUT_ADDR.INDEX + 1) % 2 ^ 13 := by
  refine (reg_wrapBy_self _ _ _ (by decide)).trans ?_
  rw [reg_eq_of_word (lutPut_word (outside_of (by decide)) s t i v)]
  rfl

/-- INDEX advances past the entry read, whether the table holds it or not. -/
theorem lutRead_index (s : State) : (lutRead s).reg GAL.LUT_ADDR.INDEX = (s.reg GAL.LUT_ADDR.INDEX + 1) % 2 ^ 13 := by
  have hadvance (u : State) (h : u.reg GAL.LUT_ADDR.INDEX = s.reg GAL.LUT_ADDR.INDEX) :
      (u.wrapBy GAL.LUT_ADDR.INDEX 1).reg GAL.LUT_ADDR.INDEX = (s.reg GAL.LUT_ADDR.INDEX + 1) % 2 ^ 13 := by
    rw [← h]
    exact reg_wrapBy_self u _ 1 (by decide)
  unfold lutRead
  dsimp only
  split
  · exact hadvance _ (reg_setReg_ne s _ _ _ (by decide))
  · exact hadvance _ (reg_setReg_ne s _ _ _ (by decide))

/-- An entry inside its table shows in LUT_DATA. -/
theorem lutRead_entry {s : State} (h : s.reg GAL.LUT_ADDR.INDEX < lutSize (s.reg GAL.LUT_ADDR.TABLE)) :
    (lutRead s).reg GAL.LUT_DATA.ENTRY
      = lutEntry s (s.reg GAL.LUT_ADDR.TABLE) (s.reg GAL.LUT_ADDR.INDEX) % 65536 := by
  unfold lutRead
  dsimp only
  rw [if_neg (Nat.not_le.mpr h), reg_wrapBy_ne _ _ _ _ (by decide)]
  exact reg_setReg_self _ _ _ (by decide)

/-! ### Disabling the Gallery (R152) -/

theorem galDisable_en (s : State) : (galDisable s).flag GAL.CTRL.EN = false := by
  have hregs : (galDisable s).regs = (s.setFlag GAL.CTRL.EN false).regs := by simp [galDisable]
  rw [flag_of_regs _ hregs, flag_setFlag_self _ _ _ (by decide) (by decide)]

/-- Of the scan state only the note that the Gallery stopped may change. -/
theorem galDisable_scan (s : State) : (galDisable s).scan
    = if s.flag GAL.CTRL.EN ∧ s.scan.loading ∧ 56 ≤ s.reg SCAN.RASTER.SLOT then { s.scan with galStopped := true } else s.scan := by
  unfold galDisable
  dsimp only
  split
  · rfl
  · rfl

/-! ### The statement about fences, flips and LUTs -/

/-- Settles O21: each command by what its operation does. -/
theorem fencesFlipsAndLuts : Obligations.FencesFlipsAndLuts := by
  unfold Obligations.FencesFlipsAndLuts
  refine ⟨fun s w => ?_, fun s k w hk => ?_, fenceReached_iff, fun s n w hn => ?_, fun s w => ?_, fun s => ?_, fun s => ?_⟩
  · have hexec : exec (.fenceIncWrite w) s = .next (fenceAdd s (w.toNat % 64) (w.toNat / 2 ^ 16)) := by
      rw [← (fenceInc_parts w).1, ← (fenceInc_parts w).2]
      rfl
    exact completes_of hexec (reg_fenceAdd s _ _)
  · have hexec : exec (.fenceDirectWrite k w) s = .next (s.setReg (GAL.FENCE.FENCE k) w.toNat) :=
      congrArg Host.Outcome.next (if_pos hk)
    exact completes_of hexec (reg_setReg_of_lt s _ _ (Nat.le_refl 32) w.isLt)
  · have hexec : exec (.flipArm n w) s = .next (writeFlip s n w) := congrArg Host.Outcome.next (if_pos hn)
    exact completes_of hexec (writeFlip_effects s n w)
  · refine completes_of rfl ⟨lutWrite_index s _ _ _, fun hsel hi => ⟨fun k i _ hi' _ => ?_, ?_⟩, fun hign => ?_⟩
    · exact (lutEntry_lutPut _ hsel hi hi').trans (by simp [fromWord, bits, GAL.LUT_DATA.ENTRY])
    · rw [flag_wrapBy_ne _ _ _ _ (by decide), lutPut_of_taken _ hsel hi]
      rfl
    · rw [flag_wrapBy_ne _ _ _ _ (by decide), State.wrapBy_gal, lutPut_of_ignored _ hign,
        flag_setFlag_self _ _ _ (by decide) (by decide)]
      exact ⟨rfl, rfl⟩
  · exact completes_of rfl ⟨lutRead_index s, lutRead_entry⟩
  · refine completes_of rfl ⟨galDisable_en s, ?_, fun hen hl hslot => ?_⟩
    · rw [galDisable_scan]
      split
      · rfl
      · rfl
    · rw [galDisable_scan, if_pos ⟨hen, hl, hslot⟩]

/-! ### SAFETY layers (R145, R146) -/

theorem abortFrame_of_loading {s : State} (h : s.scan.loading = true) :
    (abortFrame s).scan.loading = false ∧ (abortFrame s).scan.hold = []
    ∧ (abortFrame s).stats.aborts = s.stats.aborts + 1 := by
  rw [abortFrame, if_pos h]
  exact ⟨rfl, rfl, rfl⟩

/-- Slot `n` counts as checked and shows its computed value (R145). -/
def checkShown (s : State) (n : Nat) : State :=
  { s with gal := { s.gal with checked := s.gal.checked ||| 2 ^ n } }.setReg (GAL.L.CRC_ACT.CRC_ACT n) (layerCheck s n).toNat

/-- The abort of a SAFETY mismatch with its flags and counter, before its fault (R146). -/
def mismatchShown (s : State) (n : Nat) : State :=
  let s3 := (((abortFrame (checkShown s n)).orReg GAL.SAFE_STATUS.CRC_ERR (2 ^ n)).setFlag GAL.STATUS.CRC_ABORT true).bump
    GAL.CRC_ERR_COUNT.COUNT
  { s3 with gal := { s3.gal with dropNext := s3.gal.dropNext ||| 2 ^ n } }

section
variable (s : State) (n : Nat)

/-- Without an injected fault the computed value alone decides between a shown check and a mismatch. -/
theorem safetyCheck_eq (hinj : s.injWaits 17 = false) : safetyCheck s n
    = if (layerCheck s n).toNat = s.reg (GAL.L.CRC_EXP.CRC_EXP n) then checkShown s n else raiseFault (mismatchShown s n) 17 2 := by
  by_cases heq : (layerCheck s n).toNat = s.reg (GAL.L.CRC_EXP.CRC_EXP n)
  · simp only [safetyCheck, heq, hinj, bne_self_eq_false, Bool.or_false, Bool.false_eq_true, if_false, if_true, checkShown]
  · have hreal : ((layerCheck s n).toNat != s.reg (GAL.L.CRC_EXP.CRC_EXP n)) = true := bne_iff_ne.mpr heq
    simp only [safetyCheck, hreal, heq, Bool.true_or, if_true, if_false, Bool.not_true, raiseEither, Bool.false_eq_true,
      mismatchShown, checkShown]

theorem checkShown_crcAct : (checkShown s n).reg (GAL.L.CRC_ACT.CRC_ACT n) = (layerCheck s n).toNat :=
  reg_setReg_of_lt _ _ _ (Nat.le_refl 32) (layerCheck s n).isLt

/-- CRC_ACT of a slot lies apart from a field of another register block. -/
theorem crcAct_key_ne {f : Field} (h : f.addr < 0xE0100) (hlo : f.lo < 32) : fieldKey (GAL.L.CRC_ACT.CRC_ACT n) ≠ fieldKey f := by
  simp only [fieldKey, GAL.L.CRC_ACT.CRC_ACT]
  omega

theorem reg_checkShown {f : Field} (h : f.addr < 0xE0100) (hlo : f.lo < 32) : (checkShown s n).reg f = s.reg f :=
  reg_setReg_ne _ _ _ _ (crcAct_key_ne n h hlo)

/-- Outside the flags and the counter of a mismatch its abort changes no field. -/
theorem reg_mismatchShown {f : Field}
    (hk : Outside [GAL.SAFE_STATUS.CRC_ERR, GAL.STATUS.CRC_ABORT, GAL.CRC_ERR_COUNT.COUNT] (fieldKey f)) :
    (mismatchShown s n).reg f = (checkShown s n).reg f := by
  simp only [outside_cons, outside_nil, and_true] at hk
  obtain ⟨herr, habort, hcount⟩ := hk
  refine reg_eq_of_word ?_
  simp [mismatchShown, herr, habort, hcount]

theorem mismatchShown_crcErr (hn : n < 7) : bit ((mismatchShown s n).reg GAL.SAFE_STATUS.CRC_ERR) n = true := by
  have hreg : (mismatchShown s n).reg GAL.SAFE_STATUS.CRC_ERR
      = ((abortFrame (checkShown s n)).reg GAL.SAFE_STATUS.CRC_ERR ||| 2 ^ n) % 2 ^ 7 := by
    refine (reg_bump_ne _ _ _ (by decide)).trans ((reg_setFlag_ne _ _ _ _ (by decide)).trans ?_)
    exact reg_setReg_self _ _ _ (by decide)
  rw [hreg, bit, Nat.testBit_mod_two_pow]
  simp [hn]

theorem mismatchShown_crcAbort : (mismatchShown s n).flag GAL.STATUS.CRC_ABORT = true :=
  (flag_setReg_ne _ _ _ _ (by decide)).trans (flag_setFlag_self _ _ _ (by decide) (by decide))

theorem mismatchShown_count : Counted s (mismatchShown s n) GAL.CRC_ERR_COUNT.COUNT 1 := by
  refine (reg_bump_self _ _ (by decide)).trans ?_
  rw [reg_setFlag_ne _ _ _ _ (by decide), State.orReg, reg_setReg_ne _ _ _ _ (by decide),
    reg_of_regs _ (by simp : (abortFrame (checkShown s n)).regs = (checkShown s n).regs),
    reg_checkShown s n (by decide) (by decide)]

theorem mismatchShown_gal : bit (mismatchShown s n).gal.checked n = true ∧ bit (mismatchShown s n).gal.dropNext n = true := by
  simp [mismatchShown, checkShown, bit_or_two_pow_self]

/-- CRC_ACT lies outside every field that a fault or a mismatch touches. -/
theorem crcAct_outside : Outside
    (raiseFaultRegs ++ [GAL.SAFE_STATUS.CRC_ERR, GAL.STATUS.CRC_ABORT, GAL.CRC_ERR_COUNT.COUNT])
    (fieldKey (GAL.L.CRC_ACT.CRC_ACT n)) := by
  have hlow : (raiseFaultRegs ++ [GAL.SAFE_STATUS.CRC_ERR, GAL.STATUS.CRC_ABORT, GAL.CRC_ERR_COUNT.COUNT]).all
      (fun f => decide (f.addr < 0xE0100 ∧ f.lo < 32)) = true := by decide +kernel
  intro f hf
  obtain ⟨haddr, hlo⟩ := of_decide_eq_true (List.all_eq_true.mp hlow f hf)
  exact (crcAct_key_ne n haddr hlo).symm

/-- What a mismatch does to the frame in load, the SAFETY registers and the fault (R146). -/
theorem mismatch_effects (hn : n < 7) (hl : s.scan.loading = true) (t : State) (ht : t = raiseFault (mismatchShown s n) 17 2) :
    t.reg (GAL.L.CRC_ACT.CRC_ACT n) = (layerCheck s n).toNat ∧ bit t.gal.checked n = true
    ∧ t.scan.loading = false ∧ t.scan.hold = [] ∧ t.guard.blockRun = s.guard.blockRun ∧ t.stats.aborts = s.stats.aborts + 1
    ∧ bit (t.reg GAL.SAFE_STATUS.CRC_ERR) n = true ∧ t.flag GAL.STATUS.CRC_ABORT = true
    ∧ Counted s t GAL.CRC_ERR_COUNT.COUNT 1 ∧ bit t.gal.dropNext n = true ∧ Faulted s t 17 2 := by
  subst ht
  have hkeep (f : Field) (hk : Outside raiseFaultRegs (fieldKey f)) :
      (raiseFault (mismatchShown s n) 17 2).reg f = (mismatchShown s n).reg f := reg_eq_of_word (raiseFault_word hk _ 17 2)
  have hscan : (raiseFault (mismatchShown s n) 17 2).scan = (abortFrame (checkShown s n)).scan := by
    rw [raiseFault_scan (by decide)]
    rfl
  have hstats : (raiseFault (mismatchShown s n) 17 2).stats = (abortFrame (checkShown s n)).stats := by simp [mismatchShown]
  have hgal : (raiseFault (mismatchShown s n) 17 2).gal = (mismatchShown s n).gal := by simp
  obtain ⟨hload, hhold, haborts⟩ := abortFrame_of_loading (s := checkShown s n) hl
  obtain ⟨hchecked, hdrop⟩ := mismatchShown_gal s n
  have hact := (outside_append _ _ _).mp (crcAct_outside n)
  obtain ⟨hcount, hwait⟩ := raiseFault_faulted (mismatchShown s n) 17 2
  rw [reg_mismatchShown s n (outside_of (by decide)), reg_checkShown s n (by decide) (by decide)] at hcount
  rw [hscan, hstats, hgal, hload, hhold, haborts]
  refine ⟨?_, hchecked, rfl, rfl, by simp [mismatchShown, checkShown], rfl, ?_, ?_, ?_, hdrop, hcount, hwait⟩
  · rw [hkeep _ hact.1, reg_mismatchShown s n hact.2, checkShown_crcAct]
  · rw [hkeep _ (outside_of (by decide +kernel)), mismatchShown_crcErr s n hn]
  · rw [flag_eq_of_word (raiseFault_word (outside_of (by decide +kernel)) _ 17 2), mismatchShown_crcAbort]
  · rw [Counted, hkeep _ (outside_of (by decide +kernel)), mismatchShown_count]

end

/-! ### Retired buffers (R142) -/

theorem execBufferRetire_of_due {s : State} {n : Nat} {p : Nat × Nat}
    (h : s.gal.retireDue.find? (fun q => q.1 == n) = some p) : execBufferRetire n s
      = .next (fenceAdd { s with gal := { s.gal with retireDue := s.gal.retireDue.erase p } } p.2 1) := by
  rw [execBufferRetire, h]

/-- Settles O22: the two outcomes of a check, the end of a build and the deferred retire, each by what its operation does. -/
theorem safetyLayersAndKiln : Obligations.SafetyLayersAndKiln := by
  unfold Obligations.SafetyLayersAndKiln
  refine ⟨fun s n hn hl hused hsafe hchk hinj => ?_, fun s hb => ?_, fun s n k hdue hk => ?_⟩
  · have hexec : exec (.safetyLayerCheck n) s = .next (safetyCheck s n) :=
      congrArg Host.Outcome.next (if_pos ⟨hn, hl, hused, hsafe, hchk⟩)
    refine completes_of hexec ?_
    rw [safetyCheck_eq s n hinj]
    split
    · next heq =>
      exact ⟨checkShown_crcAct s n, bit_or_two_pow_self _ n,
        fun _ => ⟨rfl, rfl, reg_checkShown s n (by decide) (by decide), rfl⟩, fun hne => absurd heq hne⟩
    · next hne =>
      obtain ⟨hact, hchecked, heffects⟩ := mismatch_effects s n hn hl _ rfl
      exact ⟨hact, hchecked, fun heq => absurd heq hne, fun _ => heffects⟩
  · have hexec : exec .kilnBuildComplete s = .next ({ s with gal :=
        { s.gal with kilnReady := some s.gal.buildPrefix } }.setFlag GAL.KILN_STATUS.BUILDING false) := if_pos hb
    exact completes_of hexec ⟨flag_setFlag_self _ _ _ (by decide) (by decide), rfl⟩
  · exact completes_of (execBufferRetire_of_due hdue) ⟨reg_fenceAdd _ k 1, rfl⟩

end Sys2Proof.Machine.GalleryComposition
end

section
/-! PROOF. EngineFrames: what the commands of the shadow engine, the beam engines and the Guard leave unchanged
(05_object_shadowing.md, 06_beam_engines_and_kernels.md, 07_safety_functions.md). -/

namespace Sys2Proof.Machine.EngineFrames

/-! ### Changes within parts and fields -/

/-- From `s` to `t` the queue stays, no part outside `P` changes, and no register field outside `L` does. -/
structure Changes (P : List Part) (L : List Field) (s t : State) : Prop where
  pending : t.pending = s.pending
  parts : ∀ p, p ∉ P → p.Same s t
  words : ∀ k, Outside L k → wordAt t.regs k = wordAt s.regs k

theorem same_refl (s : State) (p : Part) : p.Same s s := by cases p <;> rfl

theorem same_trans {s t u : State} {p : Part} (h : p.Same s t) (k : p.Same t u) : p.Same s u := by
  cases p <;> exact Eq.trans k h

section
variable {P P' : List Part} {L L' : List Field} {s t u : State}

theorem Changes.refl (P : List Part) (L : List Field) (s : State) : Changes P L s s :=
  ⟨rfl, fun p _ => same_refl s p, fun _ _ => rfl⟩

/-- Two changes in a row stay within the parts and fields of both. -/
theorem Changes.trans (h : Changes P L s t) (k : Changes P' L' t u) : Changes (P ++ P') (L ++ L') s u where
  pending := k.pending.trans h.pending
  parts p hp := by
    obtain ⟨hP, hP'⟩ := not_or.mp (mt List.mem_append.mpr hp)
    exact same_trans (h.parts p hP) (k.parts p hP')
  words key hk := by
    obtain ⟨hL, hL'⟩ := (outside_append L L' key).mp hk
    exact (k.words key hL').trans (h.words key hL)

theorem Changes.mono (h : Changes P L s t) (hP : P ⊆ P')
    (hL : L.all (fun f => L'.any (fun g => fieldKey f == fieldKey g)) = true) : Changes P' L' s t :=
  ⟨h.pending, fun p hp => h.parts p (fun hm => hp (hP hm)), fun k hk => h.words k (hk.mono hL)⟩

theorem Changes.ite {c : Prop} [Decidable c] (ht : c → Changes P L s t) (hu : ¬ c → Changes P L s u) :
    Changes P L s (if c then t else u) := by
  split
  · next h => exact ht h
  · next h => exact hu h

/-- A change within the row of the table is the frame of the command. -/
theorem Changes.framed {i : Instr} {c : Nat} (hrow : mayChange s i = ⟨c, P, some L⟩) (h : Changes P L s t) : Framed i s t := by
  unfold Framed
  rw [hrow]
  exact ⟨h.pending, h.parts, fun l hl f hf => reg_eq_of_word (h.words _ (Option.some.inj hl ▸ hf))⟩

end

/-! ### What the operations change -/

section
variable (s : State)

theorem setReg_changes (f : Field) (v : Nat) : Changes [] [f] s (s.setReg f v) :=
  ⟨rfl, fun p _ => by cases p <;> rfl, fun _ hk => setReg_word s f v (hk f List.mem_cons_self)⟩

theorem setFlag_changes (f : Field) (b : Bool) : Changes [] [f] s (s.setFlag f b) := setReg_changes s f _

theorem setScan_changes (v : Scan) : Changes [.scan] [] s { s with scan := v } :=
  ⟨rfl, fun p hp => by cases p <;> simp [Part.Same] at hp ⊢, fun _ _ => rfl⟩

theorem setShd_changes (v : Shd) : Changes [.shd] [] s { s with shd := v } :=
  ⟨rfl, fun p hp => by cases p <;> simp [Part.Same] at hp ⊢, fun _ _ => rfl⟩

theorem setEng_changes (v : Eng) : Changes [.eng] [] s { s with eng := v } :=
  ⟨rfl, fun p hp => by cases p <;> simp [Part.Same] at hp ⊢, fun _ _ => rfl⟩

theorem setGuard_changes (v : Guard) : Changes [.guard] [] s { s with guard := v } :=
  ⟨rfl, fun p hp => by cases p <;> simp [Part.Same] at hp ⊢, fun _ _ => rfl⟩

theorem setFlt_changes (v : Flt) : Changes [.flt] [] s { s with flt := v } :=
  ⟨rfl, fun p hp => by cases p <;> simp [Part.Same] at hp ⊢, fun _ _ => rfl⟩

theorem raiseEvent_changes (code : Nat) (args : List Byte) : Changes [.flt] [] s (raiseEvent s code args) :=
  setFlt_changes s _

theorem raiseInjected_changes (src cls : Nat) : Changes [.scan, .flt] raiseInjectedRegs s (raiseInjected s src cls) :=
  ⟨by simp, fun p hp => by cases p <;> simp [Part.Same] at hp ⊢, fun _ hk => raiseInjected_word hk s src cls⟩

theorem publishPoint_changes : Changes [.shd, .guard, .flt] publishPointRegs s (publishPoint s) :=
  ⟨by simp, fun p hp => by cases p <;> simp [Part.Same] at hp ⊢, fun _ hk => publishPoint_word hk s⟩

theorem contextEcc_changes (e : ContextEcc) : Changes [.scan, .shd, .flt] contextEccRegs s (contextEcc s e) :=
  ⟨by simp, fun p hp => by cases p <;> simp [Part.Same] at hp ⊢, fun _ hk => contextEcc_word hk s e⟩

theorem writeBlank_changes (p : Nat) : Changes [.pix, .shd] writeBlankRegs s (writeBlank s p) :=
  ⟨by simp, fun p hp => by cases p <;> simp [Part.Same] at hp ⊢, fun _ hk => writeBlank_word hk s p⟩

theorem mismatch_changes (inj : Bool) (n : Nat) : Changes [.scan, .shd, .flt] mismatchRegs s (mismatch s inj n) :=
  ⟨by simp, fun p hp => by cases p <;> simp [Part.Same] at hp ⊢, fun _ hk => mismatch_word hk s inj n⟩

theorem handover_changes (out : RasterOutcome) (r : Nat) (b old : List Nat) (soft : Option (Nat × List Nat)) :
    Changes [.scan, .shd, .flt] handoverRegs s (handover s out r b old soft) :=
  ⟨by simp, fun p hp => by cases p <;> simp [Part.Same] at hp ⊢, fun _ hk => handover_word hk s out r b old soft⟩

theorem completeBand_changes (b : Nat) :
    Changes [.free, .dram, .gal, .eng, .stats] completeBandRegs s (completeBand s b) :=
  ⟨by simp, fun p hp => by cases p <;> simp [Part.Same] at hp ⊢, fun _ hk => completeBand_word hk s b⟩

theorem startBand_changes (b : Nat) (ok : RunEntry → Bool) : Changes [.eng] [] s (startBand s b ok) :=
  ⟨by simp, fun p hp => by cases p <;> simp [Part.Same] at hp ⊢, fun _ _ => by simp⟩

/-- The loss of engine `n` stays within what the table names for ENGINE_FAULT (R216 to R218). -/
theorem faultEngine_changes (n : Nat) (inj : Bool) :
    Changes [.free, .scan, .pix, .eng, .stats, .flt] (faultSet ++ engineLossSet) s (faultEngine s n inj) := by
  have h : Changes [.free, .scan, .pix, .eng, .stats, .flt] faultEngineRegs s (faultEngine s n inj) :=
    ⟨by simp, fun p hp => by cases p <;> simp [Part.Same] at hp ⊢, fun _ hk => faultEngine_word hk s n inj⟩
  exact h.mono (by decide) (by decide +kernel)

theorem mergedTrigger_changes : Changes [.guard, .flt] pathSet s (mergedTrigger s) := by
  have h : Changes [.guard, .flt] mergedTriggerRegs s (mergedTrigger s) :=
    ⟨by simp, fun p hp => by cases p <;> simp [Part.Same] at hp ⊢, fun _ hk => mergedTrigger_word hk s⟩
  exact h.mono (by decide) (by decide)

theorem breakSeal_changes (reason : Nat) : Changes [.scan, .guard, .flt] breakSealRegs s (breakSeal s reason) :=
  ⟨by simp, fun p hp => by cases p <;> simp [Part.Same] at hp ⊢, fun _ hk => breakSeal_word hk s reason⟩

theorem guardFails_changes : Changes [.scan, .guard, .flt]
    (entrySet ++ [SAFE.FB_CAUSE.FATAL, SAFE.FB_CAUSE.GUARD] ++ allOf 96 FLT.COUNT.COUNT) s (guardFails s) := by
  have h : Changes [.scan, .guard, .flt] guardFailsRegs s (guardFails s) :=
    ⟨by simp, fun p hp => by cases p <;> simp [Part.Same] at hp ⊢, fun _ hk => guardFails_word hk s⟩
  exact h.mono (by decide) (by decide +kernel)

end

/-! ### What the commands change -/

section
variable {s t : State}

/-- A pass begins in the scan state, the shadow engine and PASS alone (R45, R182). -/
theorem blankPassStart_changes (h : execBlankPassStart s = .next t) :
    Changes [.scan, .shd] [SCAN.BLANK_STATUS.PASS] s t := by
  have hshown := (setReg_changes s SCAN.BLANK_STATUS.PASS s.shd.passes).trans
    (setScan_changes _ { s.scan with passOn := true, passRow := 0 })
  unfold execBlankPassStart at h
  split at h
  · cases h
    exact (hshown.trans (setShd_changes _ _)).mono (by decide) (by decide)
  · cases h
    exact Changes.refl _ _ _

/-- The fields of BLANK_ROW_SLOT. -/
def blankSlotSet : List Field := faultSet ++ pathSet ++ [SCAN.BLANK_STATUS.PASS_LATE,
  SHD.EXPIRE_COUNT.COUNT, SHD.MISMATCH_COUNT.COUNT, SHD.STATUS.CMP_MISMATCH, SHD.STATUS.ROW_SINGLE,
  SHD.WR_REJECT_COUNT.COUNT]

/-- A row slot up to the handover: the ECC event, the publish point, the row written and the next row taken (R182, R186). -/
def slotBefore (s : State) (ecc : ContextEcc) : State :=
  let s2 := writeBlank (publishPoint (contextEcc s ecc)) s.scan.passRow
  { s2 with scan := { s2.scan with passRow := s.scan.passRow + 1 } }

theorem slotBefore_changes (s : State) (ecc : ContextEcc) :
    Changes [.scan, .pix, .shd, .guard, .flt] blankSlotSet s (slotBefore s ecc) :=
  ((contextEcc_changes s ecc).trans ((publishPoint_changes _).trans
    ((writeBlank_changes _ s.scan.passRow).trans (setScan_changes _ _)))).mono (by decide) (by decide +kernel)

theorem Changes.intoSlot {P : List Part} {L : List Field} {u v : State}
    (h : Changes [.scan, .pix, .shd, .guard, .flt] blankSlotSet s u) (k : Changes P L u v)
    (hP : P ⊆ [.scan, .pix, .shd, .guard, .flt])
    (hL : L.all (fun f => blankSlotSet.any (fun g => fieldKey f == fieldKey g)) = true) :
    Changes [.scan, .pix, .shd, .guard, .flt] blankSlotSet s v :=
  (h.trans (k.mono hP hL)).mono (by decide) (by decide +kernel)

/-- A row slot ends in the injected loss of both deliveries, an injected mismatch or the handover (R184, R185). -/
theorem blankRowSlot_changes {out : RasterOutcome} {ecc : ContextEcc} (h : execBlankRowSlot out ecc s = .next t) :
    Changes [.scan, .pix, .shd, .guard, .flt] blankSlotSet s t := by
  have hbefore := slotBefore_changes s ecc
  unfold execBlankRowSlot at h
  dsimp only at h
  split at h
  · split at h
    · cases h
      exact hbefore.intoSlot ((setFlt_changes _ _).trans ((setShd_changes _ _).trans (raiseInjected_changes _ 14 3)))
        (by decide) (by decide +kernel)
    · split at h
      · cases h
        exact hbefore.intoSlot ((setFlt_changes _ _).trans ((handover_changes _ _ _ _ _ _).trans (mismatch_changes _ true 1)))
          (by decide) (by decide +kernel)
      · cases h
        exact hbefore.intoSlot (handover_changes _ out _ _ _ _) (by decide) (by decide +kernel)
  · cases h
    exact Changes.refl _ _ _

theorem publishTimer_changes (h : execPublishTimer s = .next t) :
    Changes [.shd, .guard, .flt] (pathSet ++ [SHD.EXPIRE_COUNT.COUNT]) s t := by
  cases h
  exact Changes.ite (fun _ => Changes.refl _ _ _) (fun _ => (publishPoint_changes s).mono (by decide) (by decide))

theorem bandComplete_changes {b : Nat} (h : execBandComplete b s = .next t) : Changes [.free, .dram, .gal, .eng, .stats]
    ([DDRC.STATUS.RANGE_ERR] ++ allOf 64 GAL.FENCE.FENCE ++ allOf 7 GAL.L.NEXT_CRC.NEXT_CRC) s t := by
  cases h
  exact Changes.ite (fun _ => (completeBand_changes s b).mono (by decide) (by decide +kernel)) (fun _ => Changes.refl _ _ _)

theorem engineFault_changes {n : Nat} (k : EngineFaultKind) (h : execEngineFault n k s = .next t) :
    Changes [.free, .scan, .pix, .eng, .stats, .flt] (faultSet ++ engineLossSet) s t := by
  cases h
  exact Changes.ite (fun _ => faultEngine_changes s n false) (fun _ => Changes.refl _ _ _)

theorem bandTimeout_changes {b : Nat} (h : execBandTimeout b s = .next t) :
    Changes [.free, .scan, .pix, .eng, .stats, .flt] (faultSet ++ engineLossSet) s t := by
  unfold execBandTimeout at h
  split at h
  · cases h
    exact Changes.refl _ _ _
  · cases h
    exact Changes.ite (fun _ => faultEngine_changes s _ false) (fun _ => Changes.refl _ _ _)

theorem selfTestComplete_changes {n : Nat} {pass : Bool} (h : execSelfTestComplete n pass s = .next t) :
    Changes [.free, .scan, .pix, .eng, .stats, .flt] (faultSet ++ engineLossSet) s t := by
  have htested : Changes [.eng] [] s { s with eng := { s.eng with testing := clearBit s.eng.testing n } } :=
    setEng_changes s _
  unfold execSelfTestComplete at h
  split at h
  · cases h
    exact Changes.ite (fun _ => htested.mono (by decide) rfl)
      (fun _ => (htested.trans (faultEngine_changes _ n false)).mono (by decide) (by decide +kernel))
  · cases h
    exact Changes.refl _ _ _

theorem spareReady_changes (h : execSpareReady s = .next t) : Changes [.eng] [] s t := by
  cases h
  exact Changes.ite (fun _ => setEng_changes s _) (fun _ => Changes.refl _ _ _)

theorem spareRotation_changes (h : execSpareRotation s = .next t) : Changes [.eng] [] s t := by
  cases h
  exact Changes.ite (fun _ => setEng_changes s _) (fun _ => Changes.refl _ _ _)

theorem computeRestored_changes (h : execComputeRestored s = .next t) : Changes [.eng, .flt] [] s t := by
  unfold execComputeRestored at h
  split at h
  · cases h
    exact (setEng_changes s _).trans (raiseEvent_changes _ 0x0202 _)
  · cases h
    exact Changes.refl _ _ _

/-- The longest waiting record leaves, and its absence is a trigger of R254. -/
theorem safePartnerTimeout_changes (h : execSafePartnerTimeout s = .next t) : Changes [.guard, .flt] pathSet s t := by
  have hdrop (g : Guard) : Changes [.guard, .flt] pathSet s (mergedTrigger { s with guard := g }) :=
    ((setGuard_changes s g).trans (mergedTrigger_changes _)).mono (by decide) (by decide)
  unfold execSafePartnerTimeout at h
  split at h
  · cases h
    exact Changes.refl _ _ _
  · cases h
    exact hdrop _
  · cases h
    exact hdrop _
  · split at h
    · cases h
      exact hdrop _
    · cases h
      exact hdrop _

theorem agreedValidityEnd_changes (h : execAgreedValidityEnd s = .next t) : Changes [.guard, .flt] pathSet s t := by
  cases h
  exact Changes.ite (fun _ => mergedTrigger_changes s) (fun _ => Changes.refl _ _ _)

/-- The straps read are noted; a change shows in STRAP_CHANGED and breaks an unbroken seal at once or later (R261). -/
theorem strapReread_changes {pads : List Strap} (h : execStrapReread pads s = .next t) : Changes [.scan, .guard, .flt]
    (entrySet ++ sealSet ++ [SAFE.FB_CAUSE.FATAL, SAFE.SEAL.STRAP_CHANGED] ++ allOf 96 FLT.COUNT.COUNT) s t := by
  have hread := setGuard_changes s { s.guard with strapsNow := pads }
  have hshown := hread.trans (setFlag_changes _ SAFE.SEAL.STRAP_CHANGED true)
  unfold execStrapReread at h
  dsimp only at h
  split at h
  · cases h
    exact hread.mono (by decide) rfl
  · split at h
    · cases h
      exact hshown.mono (by decide) (by decide +kernel)
    · split at h
      · cases h
        exact (hshown.trans (setGuard_changes _ _)).mono (by decide) (by decide +kernel)
      · cases h
        exact (hshown.trans (breakSeal_changes _ 1)).mono (by decide) (by decide +kernel)

end

/-- Settles O10: the changes of each command of the shadow engine, the beam engines and the Guard lie within its row of the table. -/
theorem frameOfEngineAndGuardCommands : Obligations.FrameOfEngineAndGuardCommands := by
  unfold Obligations.FrameOfEngineAndGuardCommands
  intro i s t hchapter h
  cases i with
  | blankPassStart => exact (blankPassStart_changes h).framed rfl
  | blankRowSlot out ecc => exact (blankRowSlot_changes h).framed rfl
  | publishTimer => exact (publishTimer_changes h).framed rfl
  | batchCommit => cases h; exact (setShd_changes s _).framed rfl
  | bandComplete b => exact (bandComplete_changes h).framed rfl
  | pingpongBufferFree b => cases h; exact (startBand_changes s b _).framed rfl
  | videoInputReady b => cases h; exact (startBand_changes s b _).framed rfl
  | engineFault n k => exact (engineFault_changes k h).framed rfl
  | bandTimeout b => exact (bandTimeout_changes h).framed rfl
  | spareReady => exact (spareReady_changes h).framed rfl
  | spareRotation => exact (spareRotation_changes h).framed rfl
  | selfTestComplete n pass => exact (selfTestComplete_changes h).framed rfl
  | pausePeriodStart => cases h; exact (setReg_changes s BE.LOAD.PAUSE _).framed rfl
  | computeRestored => exact (computeRestored_changes h).framed rfl
  | guardWatchdogExpiry => cases h; exact (guardFails_changes s).framed rfl
  | guardOscFail => cases h; exact (guardFails_changes s).framed rfl
  | safePartnerTimeout => exact (safePartnerTimeout_changes h).framed rfl
  | agreedValidityEnd => exact (agreedValidityEnd_changes h).framed rfl
  | strapReread pads => exact (strapReread_changes h).framed rfl
  | guardGood => cases h; exact (setGuard_changes s _).framed rfl
  | _ => simp [mayChange] at hchapter

end Sys2Proof.Machine.EngineFrames
end

section
/-! PROOF. ShadowPublish: publish points, blank-plane passes and their row slots (05_object_shadowing.md). -/

namespace Sys2Proof.Machine.ShadowPublish

/-! ### Sparse arrays rewritten key by key -/

section
variable {α : Type} (d : α)

theorem le_key_of_sparseSorted {m : Sparse α} {lo : Nat} (h : sparseSorted lo m = true) : ∀ n ∈ m.map Prod.fst, lo ≤ n := by
  induction m generalizing lo with
  | nil => simp
  | cons p m ih =>
    obtain ⟨k, v⟩ := p
    simp only [sparseSorted, Bool.and_eq_true, decide_eq_true_eq] at h
    rw [List.map_cons, List.forall_mem_cons]
    exact ⟨h.1, fun n hn => by have := ih h.2 n hn; omega⟩

theorem keys_nodup_of_sparseSorted {m : Sparse α} {lo : Nat} (h : sparseSorted lo m = true) : (m.map Prod.fst).Nodup := by
  induction m generalizing lo with
  | nil => exact List.nodup_nil
  | cons p m ih =>
    obtain ⟨k, v⟩ := p
    simp only [sparseSorted, Bool.and_eq_true, decide_eq_true_eq] at h
    rw [List.map_cons, List.nodup_cons]
    exact ⟨fun hk => by have := le_key_of_sparseSorted h.2 k hk; omega, ih h.2⟩

theorem sparseGet_of_not_mem {m : Sparse α} {n : Nat} (h : n ∉ m.map Prod.fst) : sparseGet d m n = d := by
  induction m with
  | nil => rfl
  | cons p m ih =>
    rw [List.map_cons, List.mem_cons, not_or] at h
    exact (if_neg (Ne.symm h.1)).trans (ih h.2)

/-- The rewriting of the keys listed in `l` gives each of them the image of its value in `l`. -/
theorem sparseGet_foldl_set [DecidableEq α] (f : α → α) {l : Sparse α} (hl : (l.map Prod.fst).Nodup) (m : Sparse α) (n : Nat) :
    sparseGet d (l.foldl (fun m p => sparseSet d m p.1 (f p.2)) m) n
      = if n ∈ l.map Prod.fst then f (sparseGet d l n) else sparseGet d m n := by
  induction l generalizing m with
  | nil => rfl
  | cons p l ih =>
    obtain ⟨k, v⟩ := p
    rw [List.map_cons, List.nodup_cons] at hl
    obtain ⟨hk, hl⟩ := hl
    rw [List.foldl_cons, ih hl]
    by_cases hn : k = n
    · subst hn
      simp [hk, sparseGet]
    · rw [List.map_cons, sparseGet_set_ne d m k n _ hn]
      simp only [List.mem_cons, Ne.symm hn, false_or, sparseGet, hn, if_false]

/-- A rewriting that leaves the common value alone rewrites every key. -/
theorem sparseGet_foldl_set_self [DecidableEq α] (f : α → α) (hf : f d = d) {m : Sparse α} (hm : (m.map Prod.fst).Nodup)
    (n : Nat) : sparseGet d (m.foldl (fun m p => sparseSet d m p.1 (f p.2)) m) n = f (sparseGet d m n) := by
  rw [sparseGet_foldl_set d f hm]
  split
  · rfl
  · next hn => rw [sparseGet_of_not_mem d hn, hf]

theorem sparseWf_foldl_set [DecidableEq α] (f : α → α) (l : Sparse α) {m : Sparse α} (h : sparseWf d m = true) :
    sparseWf d (l.foldl (fun m p => sparseSet d m p.1 (f p.2)) m) = true := by
  induction l generalizing m with
  | nil => exact h
  | cons p l ih => exact ih (sparseWf_set d m _ _ h)

theorem keys_nodup_of_sparseWf [DecidableEq α] {m : Sparse α} (h : sparseWf d m = true) : (m.map Prod.fst).Nodup :=
  keys_nodup_of_sparseSorted ((Bool.and_eq_true _ _).mp h).1

end

/-! ### Slots at a publish point (R168, R174) -/

/-- A slot once its active context has left it if expired (R174). -/
def expireOf (s : State) (v : CtxSlot) : CtxSlot :=
  match v.active with
  | none => v
  | some c => if c.expired s (c.age s.now s.now) then { v with active := none } else v

theorem expireOf_of_inactive (s : State) {v : CtxSlot} (h : v.active = none) : expireOf s v = v := by
  unfold expireOf
  rw [h]

theorem expireOf_of_active (s : State) {v : CtxSlot} {c : Ctx} (h : v.active = some c) :
    expireOf s v = if c.expired s (c.age s.now s.now) then { v with active := none } else v := by
  unfold expireOf
  rw [h]

theorem expireOf_active (s : State) (c : Ctx) (x : Option Staged) :
    expireOf s ⟨some c, x⟩ = if c.expired s (c.age s.now s.now) then ⟨none, x⟩ else ⟨some c, x⟩ :=
  expireOf_of_active s rfl

theorem expireOf_staged (s : State) (v : CtxSlot) : (expireOf s v).staged = v.staged := by
  unfold expireOf
  split
  · rfl
  · split <;> rfl

/-- Expiry reads lamp time and the defaults of horizon and life alone (R165, R174). -/
theorem expireOf_congr {s t : State} (hlt : t.lt = s.lt)
    (hh : t.reg SHD.CTX_DEF.HORIZON = s.reg SHD.CTX_DEF.HORIZON) (hl : t.reg SHD.CTX_DEF.LIFE = s.reg SHD.CTX_DEF.LIFE) :
    expireOf t = expireOf s := by
  funext v
  unfold expireOf Ctx.expired Ctx.horizon Ctx.life State.now
  rw [hlt, hh, hl]

/-- An expiry changes the slots of the shadow engine alone, and of those only its own. -/
theorem expireSlot_shd (s : State) (n : Nat) :
    (expireSlot s n).shd = { s.shd with slots := (expireSlot s n).shd.slots } := by
  unfold expireSlot
  dsimp only
  split
  · rfl
  · split <;> rfl

theorem ctxSlot_setSlot (s : State) (n k : Nat) (v : CtxSlot) :
    (s.setSlot n v).ctxSlot k = if k = n then v else s.ctxSlot k := by
  unfold State.ctxSlot State.setSlot
  split
  · next h => rw [h]; exact sparseGet_set_self _ _ _ _
  · next h => exact sparseGet_set_ne _ _ _ _ _ (Ne.symm h)

/-- An expiry puts the slot as expired, and leaves every other slot alone. -/
theorem expireSlot_ctxSlot (s : State) (n k : Nat) :
    (expireSlot s n).ctxSlot k = if k = n then expireOf s (s.ctxSlot n) else s.ctxSlot k := by
  have hkept : s.ctxSlot k = if k = n then s.ctxSlot n else s.ctxSlot k := by
    split
    · next h => rw [h]
    · rfl
  unfold expireSlot
  dsimp only
  split
  · next hnone => rwa [expireOf_of_inactive s hnone]
  · next c hc =>
    rw [expireOf_of_active s hc]
    split
    · exact ctxSlot_setSlot s n k _
    · exact hkept

theorem expireOf_expireSlot (s : State) (n : Nat) : expireOf (expireSlot s n) = expireOf s :=
  expireOf_congr (by simp) (reg_eq_of_word (expireSlot_word (outside_of (by decide)) s n))
    (reg_eq_of_word (expireSlot_word (outside_of (by decide)) s n))

/-- All slots of a list expire, each by its own context. -/
theorem foldl_expireSlot_ctxSlot {l : Sparse CtxSlot} (hl : (l.map Prod.fst).Nodup) (s : State) (n : Nat) :
    (l.foldl (fun t p => expireSlot t p.1) s).ctxSlot n
      = if n ∈ l.map Prod.fst then expireOf s (s.ctxSlot n) else s.ctxSlot n := by
  induction l generalizing s with
  | nil => rfl
  | cons p l ih =>
    rw [List.map_cons, List.nodup_cons] at hl
    obtain ⟨hp, hl⟩ := hl
    rw [List.foldl_cons, ih hl, expireOf_expireSlot, expireSlot_ctxSlot]
    by_cases hn : n = p.1
    · subst hn
      simp [hp]
    · rw [List.map_cons]
      simp only [List.mem_cons, hn, false_or, if_false]

theorem foldl_expireSlot_shd (l : Sparse CtxSlot) (s : State) : (l.foldl (fun t p => expireSlot t p.1) s).shd
    = { s.shd with slots := (l.foldl (fun t p => expireSlot t p.1) s).shd.slots } := by
  induction l generalizing s with
  | nil => rfl
  | cons p l ih =>
    have hfirst := expireSlot_shd s p.1
    rw [List.foldl_cons, ih, hfirst]

/-- The staged records of all slots settled together (R168). -/
def settled (s : State) : State :=
  { s with shd := { s.shd with
      slots := s.shd.slots.foldl (fun m p => sparseSet ⟨none, none⟩ m p.1 (publishSlot s p.2)) s.shd.slots
      commitDue := false } }

/-- The slots after a publish point, before the Guard takes their digest (R168, R174). -/
def slotsPublished (s : State) : State := (settled s).shd.slots.foldl (fun t p => expireSlot t p.1) (settled s)

theorem publishPoint_eq (s : State) : publishPoint s = guardSample (slotsPublished s) (digestOf (slotsPublished s)) := rfl

theorem publishPoint_shd (s : State) :
    (publishPoint s).shd = { s.shd with slots := (publishPoint s).shd.slots, commitDue := false } := by
  have hguard : (publishPoint s).shd = (slotsPublished s).shd := by simp [publishPoint_eq]
  rw [hguard]
  exact foldl_expireSlot_shd _ _

/-- Every slot takes its staged record first and loses an expired context then. -/
theorem publishPoint_ctxSlot {s : State} (hs : SlotsOk s) (n : Nat) :
    (publishPoint s).ctxSlot n = expireOf s (publishSlot s (s.ctxSlot n)) := by
  have hguard : (publishPoint s).ctxSlot n = (slotsPublished s).ctxSlot n := by
    unfold State.ctxSlot
    simp [publishPoint_eq]
  have hset : (settled s).ctxSlot n = publishSlot s (s.ctxSlot n) :=
    sparseGet_foldl_set_self _ (publishSlot s) rfl (keys_nodup_of_sparseWf _ hs) n
  have hexp : expireOf (settled s) = expireOf s := expireOf_congr rfl rfl rfl
  have hkeys := keys_nodup_of_sparseWf _ (sparseWf_foldl_set _ (publishSlot s) s.shd.slots hs)
  rw [hguard, ← hset, ← hexp]
  refine (foldl_expireSlot_ctxSlot hkeys _ n).trans ?_
  split
  · rfl
  · next hn =>
    have hempty : (settled s).ctxSlot n = ⟨none, none⟩ := sparseGet_of_not_mem _ hn
    rw [hempty]
    rfl

/-! ### One slot at a publish point (R168, R254) -/

theorem publishSlot_of_unstaged (s : State) {v : CtxSlot} (h : v.staged = none) : publishSlot s v = v := by
  unfold publishSlot
  rw [h]

theorem publishSlot_of_uncommitted {s : State} {v : CtxSlot} {x : Staged} (h : v.staged = some x) (hb : x.batch = true)
    (hd : s.shd.commitDue = false) : publishSlot s v = v := by
  unfold publishSlot
  rw [h]
  exact if_pos ⟨hb, hd⟩

/-- A record outside a batch, or of a batch whose commit is due, is deferred or settles its slot. -/
theorem publishSlot_of_due {s : State} {v : CtxSlot} {x : Staged} (h : v.staged = some x)
    (hd : x.batch = true → s.shd.commitDue = true) :
    publishSlot s v = if deferred s v x then { v with staged := some { x with batch := false } }
      else { active := if x.ctx.valid then some x.ctx else none, staged := none } := by
  unfold publishSlot
  rw [h]
  exact if_neg (fun hc => by simp [hd hc.1] at hc)

theorem not_deferred_of_valid (s : State) (v : CtxSlot) {x : Staged} (h : x.ctx.valid = true) : deferred s v x = false := by
  simp [deferred, h]

theorem not_deferred_of_agreed (s : State) (v : CtxSlot) (x : Staged)
    (h : s.reg SAFE.STATUS.PATH_STATE = 2 ∨ ∀ c, v.active = some c → c.glare s = false) : deferred s v x = false := by
  rcases h with h | h
  · simp [deferred, h]
  · unfold deferred
    split
    · next c hc => simp [h c hc]
    · simp

theorem deferred_of_glare {s : State} {v : CtxSlot} {x : Staged} {c : Ctx} (hx : x.ctx.valid = false)
    (hp : s.reg SAFE.STATUS.PATH_STATE ≠ 2) (hc : v.active = some c) (hg : c.glare s = true) : deferred s v x = true := by
  simp [deferred, hx, hp, hc, hg]

/-! ### The Guard's digest (R252) -/

theorem foldl_mergeRecord_digest (l : List SafeRec) (g : Guard) : (l.foldl mergeRecord g).digest = g.digest := by
  induction l generalizing g with
  | nil => rfl
  | cons r l ih => exact ih _

theorem setPath_guard (s : State) (p : Nat) : (setPath s p).guard = s.guard := by simp

theorem mergedTrigger_digest (s : State) : (mergedTrigger s).guard.digest = s.guard.digest := by
  unfold mergedTrigger
  split
  · rw [setPath_guard]
  · rfl
  · rfl

theorem agreePair_digest (s : State) (r : SafeRec) : (agreePair s r).guard.digest = s.guard.digest := by
  unfold agreePair
  dsimp only
  split
  · split
    · rw [setPath_guard]
      exact foldl_mergeRecord_digest _ _
    · exact foldl_mergeRecord_digest _ _
  · rw [setPath_guard]
    exact foldl_mergeRecord_digest _ _

theorem guardSample_digest (s : State) (d : Nat) : (guardSample s d).guard.digest = d := by
  unfold guardSample
  dsimp only
  split
  · rfl
  · split
    · rw [agreePair_digest]
    · rw [mergedTrigger_digest]

/-- The digest reads the slots and the classes forced to be glare-relevant alone (R172, R252). -/
theorem digestOf_congr {s t : State} (hslots : t.shd.slots = s.shd.slots)
    (hforce : ∀ k, t.reg (SHD.CLASS_CFG.FORCE_GR k) = s.reg (SHD.CLASS_CFG.FORCE_GR k)) : digestOf t = digestOf s := by
  have hglare : ∀ c : Ctx, c.glare t = c.glare s := fun c => by unfold Ctx.glare State.flag; rw [hforce]
  unfold digestOf activeCtxs
  simp only [hslots, hglare]

theorem guardSample_force (s : State) (d k : Nat) :
    (guardSample s d).reg (SHD.CLASS_CFG.FORCE_GR k) = s.reg (SHD.CLASS_CFG.FORCE_GR k) := by
  have := Nat.mod_lt k (by decide : 0 < 8)
  have hk : Outside guardSampleRegs (fieldKey (SHD.CLASS_CFG.FORCE_GR k)) := by
    simp [guardSampleRegs, agreePairRegs, mergedTriggerRegs, setPathRegs, outside_cons, outside_nil, fieldKey,
      SHD.CLASS_CFG.FORCE_GR, SAFE.STATUS.PATH_CHANGE, SAFE.STATUS.PATH_STATE]
    omega
  exact reg_eq_of_word (guardSample_word hk s d)

theorem publishPoint_digest (s : State) : (publishPoint s).guard.digest = digestOf (publishPoint s) := by
  rw [publishPoint_eq, guardSample_digest]
  exact (digestOf_congr (by simp) (guardSample_force _ _)).symm

/-! ### The publish point (R168, R174, R252) -/

theorem publishPoint_published {s : State} (hs : SlotsOk s) : Published s (publishPoint s) := by
  have hslot := publishPoint_ctxSlot hs
  refine ⟨fun n c h => ?_, fun n x h hd hv => ?_, fun n x h hd hv hpath => ?_, fun n x h hb hd => ?_,
    fun n x c h hd hv hp hc hg => ?_, ?_, publishPoint_digest s⟩
  · rw [hslot, publishSlot_of_unstaged s (by rw [h]), h, expireOf_active]
  · rw [hslot, publishSlot_of_due h hd, not_deferred_of_valid s _ hv, hv]
    exact expireOf_active s x.ctx none
  · rw [hslot, publishSlot_of_due h hd, not_deferred_of_agreed s _ x hpath, hv]
    exact expireOf_of_inactive s rfl
  · rw [hslot, expireOf_staged, publishSlot_of_uncommitted h hb hd, h]
  · rw [hslot, expireOf_staged, publishSlot_of_due h hd, deferred_of_glare hv hp hc hg]
    rfl
  · rw [publishPoint_shd]

/-- What follows a publish point keeps its effect while slots, commit, Guard and forced classes stay. -/
theorem published_after {s t u : State} (h : Published s t) (hslots : u.shd.slots = t.shd.slots)
    (hdue : u.shd.commitDue = t.shd.commitDue) (hguard : u.guard = t.guard)
    (hforce : ∀ k, u.reg (SHD.CLASS_CFG.FORCE_GR k) = t.reg (SHD.CLASS_CFG.FORCE_GR k)) : Published s u := by
  have hctx : u.ctxSlot = t.ctxSlot := by unfold State.ctxSlot; rw [hslots]
  unfold Published at h ⊢
  rwa [hctx, hdue, hguard, digestOf_congr hslots hforce]

end Sys2Proof.Machine.ShadowPublish
end

section
/-! PROOF. BlankPasses: blank-plane passes, their row slots and the faults these raise (05_object_shadowing.md). -/

namespace Sys2Proof.Machine.BlankPasses

open FrameTiming (flag_eq_of_word raiseCause_flag_self raiseCause_scan)
open EngineFrames (slotBefore)
open ShadowPublish (publishPoint_shd publishPoint_published published_after)

/-! ### Faults of one source and of another -/

/-- The count and the waiting request of source `k` stay. -/
def SourceKept (k : Nat) (s t : State) : Prop :=
  t.reg (FLT.COUNT.COUNT k) = s.reg (FLT.COUNT.COUNT k) ∧ sparseGet none t.flt.real k = sparseGet none s.flt.real k

theorem SourceKept.trans {k : Nat} {s t u : State} (h : SourceKept k s t) (h' : SourceKept k t u) : SourceKept k s u :=
  ⟨h'.1.trans h.1, h'.2.trans h.2⟩

/-- A change of registers that spares a source's count, with the requests unchanged. -/
theorem sourceKept_of {k : Nat} {s t : State}
    (hword : wordAt t.regs (fieldKey (FLT.COUNT.COUNT k)) = wordAt s.regs (fieldKey (FLT.COUNT.COUNT k)))
    (hreal : t.flt.real = s.flt.real) : SourceKept k s t := ⟨reg_eq_of_word hword, by rw [hreal]⟩

theorem faulted_after {s t u : State} {src cls : Nat} (h : Faulted s t src cls) (k : SourceKept src t u) :
    Faulted s u src cls := by
  obtain ⟨hcount, w, hw, hcls⟩ := h
  exact ⟨k.1.trans hcount, w, k.2.trans hw, hcls⟩

theorem faulted_before {s t u : State} {src cls : Nat} (k : SourceKept src s t) (h : Faulted t u src cls) :
    Faulted s u src cls := by
  obtain ⟨hcount, hwait⟩ := h
  rw [k.1] at hcount
  exact ⟨hcount, hwait⟩

theorem count_outside_fatal (k : Nat) : Outside fatalAtDetectionRegs (fieldKey (FLT.COUNT.COUNT k)) := by
  have := Nat.mod_lt k (by decide : 0 < 96)
  simp [fatalAtDetectionRegs, raiseCauseInjRegs, enterFallbackRegs, fieldKey, FLT.COUNT.COUNT, SAFE.FB_ENTRIES.VALUE,
    SCAN.FB_CTRL.RESET_LONG_ROM, SAFE.FB_CAUSE.FATAL, outside_cons, outside_nil]
  omega

/-- A detection concerns its own source alone (R532). -/
theorem raiseFault_sourceKept {src k : Nat} (hkey : fieldKey (FLT.COUNT.COUNT src) ≠ fieldKey (FLT.COUNT.COUNT k))
    (hne : src ≠ k) (s : State) (cls : Nat) : SourceKept k s (raiseFault s src cls) := by
  constructor
  · exact (reg_eq_of_word (fatalAtDetection_word (count_outside_fatal k) _ src cls false)).trans (reg_bump_ne s _ _ hkey)
  · unfold raiseFault
    rw [fatalAtDetection_real]
    exact sparseGet_set_ne none _ _ _ _ hne

/-- A real detection raises the FATAL cause or leaves the state as it is (R536). -/
theorem fatalAtDetection_cases (s : State) (src cls : Nat) :
    fatalAtDetection s src cls false = raiseCause s SAFE.FB_CAUSE.FATAL ∨ fatalAtDetection s src cls false = s :=
  ite_eq_or_eq _ _ _

theorem raiseCause_injDue (s : State) (c : Field) : (raiseCause s c).flt.injDue = s.flt.injDue := by
  unfold raiseCause raiseCauseInj
  split
  · rfl
  · dsimp only
    split <;> split <;> rfl

theorem fatalAtDetection_injDue (s : State) (src cls : Nat) :
    (fatalAtDetection s src cls false).flt.injDue = s.flt.injDue := by
  rcases fatalAtDetection_cases s src cls with h | h
  · rw [h, raiseCause_injDue]
  · rw [h]

theorem raiseFault_injDue (s : State) (src cls : Nat) : (raiseFault s src cls).flt.injDue = s.flt.injDue :=
  fatalAtDetection_injDue _ src cls

theorem fatalAtDetection_passRow (s : State) (src cls : Nat) :
    (fatalAtDetection s src cls false).scan.passRow = s.scan.passRow := by
  rcases fatalAtDetection_cases s src cls with h | h
  · rw [h, raiseCause_scan]
  · rw [h]

theorem raiseFault_passRow (s : State) (src cls : Nat) : (raiseFault s src cls).scan.passRow = s.scan.passRow :=
  fatalAtDetection_passRow _ src cls

/-- A FATAL detection of a source that lists FATAL sets the cause at once (R536). -/
theorem raiseFault_fatal {src : Nat} (h : 3 ∈ sourceClasses src) (s : State) :
    (raiseFault s src 3).flag SAFE.FB_CAUSE.FATAL = true := by
  unfold raiseFault fatalAtDetection
  rw [if_pos ⟨rfl, h⟩]
  exact raiseCause_flag_self _ _ (outside_of (by decide)) (by decide) (by decide)

/-- A detection never clears the FATAL cause. -/
theorem raiseFault_fatal_stays {s : State} (h : s.flag SAFE.FB_CAUSE.FATAL = true) (src cls : Nat) :
    (raiseFault s src cls).flag SAFE.FB_CAUSE.FATAL = true := by
  have hne : fieldKey (FLT.COUNT.COUNT src) ≠ fieldKey SAFE.FB_CAUSE.FATAL := by
    have := Nat.mod_lt src (by decide : 0 < 96)
    simp [fieldKey, FLT.COUNT.COUNT, SAFE.FB_CAUSE.FATAL]
    omega
  unfold raiseFault fatalAtDetection
  split
  · exact raiseCause_flag_self _ _ (outside_of (by decide)) (by decide) (by decide)
  · exact (flag_setReg_ne s _ _ _ hne).trans h

theorem counted_of_reg {s t u : State} {f : Field} {n : Nat} (hreg : t.reg f = s.reg f) (h : Counted t u f n) :
    Counted s u f n := by
  unfold Counted at h ⊢
  rwa [hreg] at h

/-! ### The publish point leaves faults alone -/

/-- The requests and the injected faults still due stay. -/
def RequestsKept (s t : State) : Prop := t.flt.real = s.flt.real ∧ t.flt.injDue = s.flt.injDue

theorem requestsKept_of_flt {s t : State} (h : t.flt = s.flt) : RequestsKept s t := ⟨by rw [h], by rw [h]⟩

theorem RequestsKept.trans {s t u : State} (h : RequestsKept s t) (h' : RequestsKept t u) : RequestsKept s u :=
  ⟨h'.1.trans h.1, h'.2.trans h.2⟩

theorem expireSlot_requests (s : State) (n : Nat) : RequestsKept s (expireSlot s n) := by
  unfold expireSlot
  dsimp only
  split
  · exact ⟨rfl, rfl⟩
  · split <;> exact ⟨rfl, rfl⟩

theorem foldl_expireSlot_requests (l : Sparse CtxSlot) (s : State) :
    RequestsKept s (l.foldl (fun t p => expireSlot t p.1) s) := by
  induction l generalizing s with
  | nil => exact ⟨rfl, rfl⟩
  | cons p l ih => exact (expireSlot_requests s p.1).trans (ih _)

theorem setPath_requests (s : State) (p : Nat) : RequestsKept s (setPath s p) := by
  unfold setPath
  split <;> exact ⟨rfl, rfl⟩

theorem mergedTrigger_requests (s : State) : RequestsKept s (mergedTrigger s) := by
  unfold mergedTrigger
  split
  · refine RequestsKept.trans ?_ (setPath_requests _ 1)
    exact requestsKept_of_flt rfl
  · exact ⟨rfl, rfl⟩
  · exact ⟨rfl, rfl⟩

theorem agreePair_requests (s : State) (r : SafeRec) : RequestsKept s (agreePair s r) := by
  unfold agreePair
  dsimp only
  split
  · split
    · refine RequestsKept.trans ?_ (setPath_requests _ 2)
      exact requestsKept_of_flt rfl
    · exact requestsKept_of_flt rfl
  · refine RequestsKept.trans ?_ (setPath_requests _ 2)
    exact requestsKept_of_flt rfl

theorem guardSample_requests (s : State) (d : Nat) : RequestsKept s (guardSample s d) := by
  unfold guardSample
  dsimp only
  split
  · exact requestsKept_of_flt rfl
  · split
    · refine RequestsKept.trans ?_ (agreePair_requests _ _)
      exact requestsKept_of_flt rfl
    · refine RequestsKept.trans ?_ (mergedTrigger_requests _)
      exact requestsKept_of_flt rfl

theorem publishPoint_requests (s : State) : RequestsKept s (publishPoint s) :=
  (foldl_expireSlot_requests _ (ShadowPublish.settled s)).trans (guardSample_requests _ _)

/-! ### The ECC event of a slot (R186) -/

theorem contextEcc_shd (s : State) (e : ContextEcc) :
    (contextEcc s e).shd = { s.shd with slots := (contextEcc s e).shd.slots } := by
  unfold contextEcc
  split
  · rfl
  · simp
  · split
    · rfl
    · simp [State.setSlot]
  · simp

theorem contextEcc_injDue (s : State) (e : ContextEcc) : (contextEcc s e).flt.injDue = s.flt.injDue := by
  unfold contextEcc
  split
  · rfl
  · exact raiseFault_injDue s 15 1
  · split
    · rfl
    · exact raiseFault_injDue _ 15 2
  · exact raiseFault_injDue s 15 3

/-- The context memory raises source 15 and no other. -/
theorem contextEcc_sourceKept {k : Nat} (hkey : fieldKey (FLT.COUNT.COUNT 15) ≠ fieldKey (FLT.COUNT.COUNT k)) (hne : 15 ≠ k)
    (hrej : fieldKey SHD.WR_REJECT_COUNT.COUNT ≠ fieldKey (FLT.COUNT.COUNT k)) (s : State) (e : ContextEcc) :
    SourceKept k s (contextEcc s e) := by
  unfold contextEcc
  split
  · exact ⟨rfl, rfl⟩
  · exact raiseFault_sourceKept hkey hne s 1
  · split
    · exact ⟨rfl, rfl⟩
    · exact (sourceKept_of (bump_word _ _ hrej) rfl).trans (raiseFault_sourceKept hkey hne _ 2)
  · exact raiseFault_sourceKept hkey hne s 3

theorem contextEcc_of_staged {s : State} {n : Nat} {x : Staged} (h : (s.ctxSlot n).staged = some x) :
    contextEcc s (.stagedDouble n)
      = raiseFault ((s.setSlot n { s.ctxSlot n with staged := none }).bump SHD.WR_REJECT_COUNT.COUNT) 15 2 := by
  unfold contextEcc
  dsimp only
  rw [h]

/-- A staged record lost to a double-bit error is counted as rejected and raises source 15 as CONT. -/
theorem contextEcc_stagedDouble {s : State} {n : Nat} {x : Staged} (h : (s.ctxSlot n).staged = some x) :
    Counted s (contextEcc s (.stagedDouble n)) SHD.WR_REJECT_COUNT.COUNT 1
      ∧ Faulted s (contextEcc s (.stagedDouble n)) 15 2 := by
  rw [contextEcc_of_staged h]
  have hkept : SourceKept 15 s ((s.setSlot n { s.ctxSlot n with staged := none }).bump SHD.WR_REJECT_COUNT.COUNT) :=
    sourceKept_of (bump_word _ _ (by decide)) rfl
  refine ⟨?_, faulted_before hkept (raiseFault_faulted _ 15 2)⟩
  exact (reg_eq_of_word (raiseFault_word (outside_of (by decide +kernel)) _ 15 2)).trans (reg_bump_self _ _ (by decide))

/-! ### A row slot up to the handover (R45, R48, R182) -/

section
variable (s : State) (ecc : ContextEcc)

/-- The state after the publish point of a row slot. -/
def slotPublished : State := publishPoint (contextEcc s ecc)

theorem slotPublished_shd :
    (slotPublished s ecc).shd = { s.shd with slots := (slotPublished s ecc).shd.slots, commitDue := false } := by
  have h := publishPoint_shd (contextEcc s ecc)
  rw [contextEcc_shd] at h
  exact h

theorem slotPublished_pix : (slotPublished s ecc).pix = s.pix := by simp [slotPublished]

theorem writeBlank_of_ready {u : State} {p : Nat} {b : List Nat} (h : u.shd.blankReady = some (p, b)) :
    (writeBlank u p).pix.blank = planeSetRow 0 u.pix.blank p b := by
  unfold writeBlank
  rw [h]
  simp

theorem writeBlank_of_late {u : State} {p : Nat} (h : ∀ b, u.shd.blankReady ≠ some (p, b)) :
    writeBlank u p = u.setFlag SCAN.BLANK_STATUS.PASS_LATE true := by
  unfold writeBlank
  split
  · rfl
  · next r b hr => exact if_neg (fun hrp => h b (by rw [hr, hrp]))

/-- Writing a row touches of the shadow engine the row that waited and the clear passes. -/
theorem writeBlank_shd (u : State) (p : Nat) : (writeBlank u p).shd = { u.shd with
    blankReady := (writeBlank u p).shd.blankReady, clearPasses := (writeBlank u p).shd.clearPasses } := by
  unfold writeBlank
  split
  · rfl
  · split <;> rfl

theorem slotBefore_eq : slotBefore s ecc = { writeBlank (slotPublished s ecc) s.scan.passRow with
    scan := { (writeBlank (slotPublished s ecc) s.scan.passRow).scan with passRow := s.scan.passRow + 1 } } := rfl

theorem slotBefore_regs : (slotBefore s ecc).regs = (writeBlank (slotPublished s ecc) s.scan.passRow).regs := rfl

theorem slotBefore_pix : (slotBefore s ecc).pix = (writeBlank (slotPublished s ecc) s.scan.passRow).pix := rfl

theorem slotBefore_shd : (slotBefore s ecc).shd = (writeBlank (slotPublished s ecc) s.scan.passRow).shd := rfl

/-- What the handover reads of the shadow engine is as before the slot. -/
theorem slotBefore_handed : (slotBefore s ecc).shd.passMismatch = s.shd.passMismatch
    ∧ (slotBefore s ecc).shd.softReq = s.shd.softReq := by
  rw [slotBefore_shd, writeBlank_shd, slotPublished_shd]
  exact ⟨rfl, rfl⟩

theorem slotBefore_flt : (slotBefore s ecc).flt = (slotPublished s ecc).flt := by simp [slotBefore_eq]

theorem slotBefore_injWaits (src : Nat) : (slotBefore s ecc).injWaits src = s.injWaits src := by
  unfold State.injWaits
  rw [slotBefore_flt, slotPublished, (publishPoint_requests _).2, contextEcc_injDue]

theorem slotBefore_word {key : Nat} (hk : Outside (publishPointRegs ++ writeBlankRegs) key) :
    wordAt (slotBefore s ecc).regs key = wordAt (contextEcc s ecc).regs key := by
  obtain ⟨hpub, hblank⟩ := (outside_append _ _ _).mp hk
  exact (writeBlank_word hblank _ _).trans (publishPoint_word hpub _)

theorem slotBefore_reg {f : Field} (hk : Outside (publishPointRegs ++ writeBlankRegs ++ contextEccRegs) (fieldKey f)) :
    (slotBefore s ecc).reg f = s.reg f := by
  obtain ⟨hslot, hecc⟩ := (outside_append _ _ _).mp hk
  exact reg_eq_of_word ((slotBefore_word s ecc hslot).trans (contextEcc_word hecc s ecc))

/-- After its ECC event, a row slot raises nothing until the handover. -/
theorem slotBefore_sourceKept_ecc {k : Nat} (hk : Outside (publishPointRegs ++ writeBlankRegs) (fieldKey (FLT.COUNT.COUNT k))) :
    SourceKept k (contextEcc s ecc) (slotBefore s ecc) :=
  sourceKept_of (slotBefore_word s ecc hk) (by rw [slotBefore_flt, slotPublished, (publishPoint_requests _).1])

theorem slotBefore_sourceKept_13 : SourceKept 13 s (slotBefore s ecc) :=
  (contextEcc_sourceKept (by decide) (by decide) (by decide) s ecc).trans
    (slotBefore_sourceKept_ecc s ecc (outside_of (by decide)))

theorem slotBefore_sourceKept_14 : SourceKept 14 s (slotBefore s ecc) :=
  (contextEcc_sourceKept (by decide) (by decide) (by decide) s ecc).trans
    (slotBefore_sourceKept_ecc s ecc (outside_of (by decide)))

theorem slotBefore_written {b : List Nat} (h : s.shd.blankReady = some (s.scan.passRow, b)) :
    (slotBefore s ecc).pix.blank = planeSetRow 0 s.pix.blank s.scan.passRow b := by
  have hready : (slotPublished s ecc).shd.blankReady = some (s.scan.passRow, b) := by rw [slotPublished_shd]; exact h
  rw [← slotPublished_pix s ecc]
  exact writeBlank_of_ready hready

theorem slotBefore_late (h : ∀ b, s.shd.blankReady ≠ some (s.scan.passRow, b)) :
    (slotBefore s ecc).pix.blank = s.pix.blank ∧ (slotBefore s ecc).flag SCAN.BLANK_STATUS.PASS_LATE = true := by
  have hready : ∀ b, (slotPublished s ecc).shd.blankReady ≠ some (s.scan.passRow, b) := by rw [slotPublished_shd]; exact h
  constructor
  · rw [slotBefore_pix, writeBlank_of_late hready, State.setFlag_pix, slotPublished_pix]
  · rw [flag_of_regs _ (slotBefore_regs s ecc), writeBlank_of_late hready]
    exact flag_setFlag_self _ _ _ (by decide) (by decide)

theorem force_outside_writeBlank (k : Nat) : Outside writeBlankRegs (fieldKey (SHD.CLASS_CFG.FORCE_GR k)) := by
  have := Nat.mod_lt k (by decide : 0 < 8)
  simp [writeBlankRegs, outside_cons, outside_nil, fieldKey, SHD.CLASS_CFG.FORCE_GR, SCAN.BLANK_STATUS.PASS_LATE]
  omega

/-- Without an ECC event the slot's publish point is that of its first state. -/
theorem slotBefore_published (hs : SlotsOk s) : Published s (slotBefore s .none) := by
  refine published_after (publishPoint_published hs) ?_ ?_ ?_ fun k =>
    reg_eq_of_word (writeBlank_word (force_outside_writeBlank k) (publishPoint s) s.scan.passRow)
  · rw [slotBefore_shd, writeBlank_shd]
    rfl
  · rw [slotBefore_shd, writeBlank_shd]
    rfl
  · simp [slotBefore_eq, slotPublished, contextEcc]

end

/-! ### Mismatches (R184) -/

/-- A mismatch of `n` rows as counted, shown and remembered for the pass. -/
def mismatchNoted (s : State) (n : Nat) : State :=
  { (s.bumpBy SHD.MISMATCH_COUNT.COUNT n).setFlag SHD.STATUS.CMP_MISMATCH true with
    shd := { s.shd with passMismatch := true } }

theorem mismatchNoted_regs (s : State) (n : Nat) : (mismatchNoted s n).regs
    = ((s.bumpBy SHD.MISMATCH_COUNT.COUNT n).setFlag SHD.STATUS.CMP_MISMATCH true).regs := rfl

/-- The first mismatch of a pass is reported, a later one only noted. -/
theorem mismatch_eq (s : State) (n : Nat) : mismatch s false n
    = if s.shd.passMismatch then mismatchNoted s n else raiseFault (mismatchNoted s n) 13 2 := by
  unfold mismatch
  dsimp only
  rw [if_neg Bool.false_ne_true]
  split
  · next h =>
    have hshd : { s.shd with passMismatch := true } = s.shd := by rw [← h]
    unfold mismatchNoted
    rw [hshd]
    rfl
  · rfl

/-- What holds of a noted mismatch, and of a fault raised on it, holds of the mismatch. -/
theorem mismatch_cases (s : State) (n : Nat) {P : State → Prop} (hnoted : P (mismatchNoted s n))
    (hraised : P (raiseFault (mismatchNoted s n) 13 2)) : P (mismatch s false n) := by
  rw [mismatch_eq]
  split
  · exact hnoted
  · exact hraised

section
variable (s : State) (n : Nat)

theorem mismatch_word_noted {key : Nat} (hk : Outside raiseFaultRegs key) :
    wordAt (mismatch s false n).regs key = wordAt (mismatchNoted s n).regs key :=
  mismatch_cases s n (P := fun t => wordAt t.regs key = wordAt (mismatchNoted s n).regs key) rfl (raiseFault_word hk _ 13 2)

theorem mismatch_counted : Counted s (mismatch s false n) SHD.MISMATCH_COUNT.COUNT n :=
  calc (mismatch s false n).reg SHD.MISMATCH_COUNT.COUNT
      = (mismatchNoted s n).reg SHD.MISMATCH_COUNT.COUNT :=
        reg_eq_of_word (mismatch_word_noted s n (outside_of (by decide +kernel)))
    _ = (s.bumpBy SHD.MISMATCH_COUNT.COUNT n).reg SHD.MISMATCH_COUNT.COUNT :=
        (reg_of_regs _ (mismatchNoted_regs s n)).trans (reg_setFlag_ne _ _ _ _ (by decide))
    _ = _ := reg_bumpBy_self _ _ _ (by decide)

theorem mismatch_shown : (mismatch s false n).flag SHD.STATUS.CMP_MISMATCH = true := by
  rw [flag_eq_of_word (mismatch_word_noted s n (outside_of (by decide +kernel))), flag_of_regs _ (mismatchNoted_regs s n)]
  exact flag_setFlag_self _ _ _ (by decide) (by decide)

theorem mismatch_passRow : (mismatch s false n).scan.passRow = s.scan.passRow :=
  mismatch_cases s n (P := fun t => t.scan.passRow = s.scan.passRow) rfl (raiseFault_passRow _ 13 2)

theorem mismatchNoted_word {key : Nat} (hk : Outside [SHD.MISMATCH_COUNT.COUNT, SHD.STATUS.CMP_MISMATCH] key) :
    wordAt (mismatchNoted s n).regs key = wordAt s.regs key := by
  simp only [outside_cons, outside_nil, and_true] at hk
  rw [mismatchNoted_regs, setFlag_word _ _ _ hk.2, bumpBy_word _ _ _ hk.1]

theorem mismatchNoted_sourceKept {k : Nat}
    (hk : Outside [SHD.MISMATCH_COUNT.COUNT, SHD.STATUS.CMP_MISMATCH] (fieldKey (FLT.COUNT.COUNT k))) :
    SourceKept k s (mismatchNoted s n) := sourceKept_of (mismatchNoted_word s n hk) rfl

/-- A mismatch concerns source 13 alone. -/
theorem mismatch_sourceKept {k : Nat}
    (hk : Outside [SHD.MISMATCH_COUNT.COUNT, SHD.STATUS.CMP_MISMATCH] (fieldKey (FLT.COUNT.COUNT k)))
    (hkey : fieldKey (FLT.COUNT.COUNT 13) ≠ fieldKey (FLT.COUNT.COUNT k)) (hne : 13 ≠ k) :
    SourceKept k s (mismatch s false n) :=
  have hnoted := mismatchNoted_sourceKept s n hk
  mismatch_cases s n hnoted (hnoted.trans (raiseFault_sourceKept hkey hne _ 2))

theorem mismatch_faulted (h : s.shd.passMismatch = false) : Faulted s (mismatch s false n) 13 2 := by
  rw [mismatch_eq, if_neg (by simp [h])]
  exact faulted_before (mismatchNoted_sourceKept s n (outside_of (by decide))) (raiseFault_faulted _ 13 2)

theorem mismatch_fatal_stays (h : s.flag SAFE.FB_CAUSE.FATAL = true) :
    (mismatch s false n).flag SAFE.FB_CAUSE.FATAL = true :=
  have hnoted : (mismatchNoted s n).flag SAFE.FB_CAUSE.FATAL = true :=
    (flag_eq_of_word (mismatchNoted_word s n (outside_of (by decide)))).trans h
  mismatch_cases s n (P := fun t => t.flag SAFE.FB_CAUSE.FATAL = true) hnoted (raiseFault_fatal_stays hnoted 13 2)

end

/-! ### The handover (R182, R184, R185) -/

/-- The rows taken change nothing but the shadow engine, and there neither slots nor commit. -/
theorem takeRows_eq (s : State) (r : Nat) (b : List Nat) (soft : Option (Nat × List Nat)) : takeRows s r b soft
    = { s with shd := { s.shd with blankReady := some (r, b), softReq := s.shd.softReq.drop 1,
                                   soft := (takeRows s r b soft).shd.soft
                                   softReady := (takeRows s r b soft).shd.softReady } } := by
  unfold takeRows
  split <;> rfl

/-- A row evaluated after the rows are taken is the one evaluated before. -/
theorem blankRow_takeRows (s : State) (r : Nat) (b : List Nat) (soft : Option (Nat × List Nat)) (r' t : Nat) :
    blankRow (takeRows s r b soft) r' t = blankRow s r' t := by
  rw [takeRows_eq]
  rfl

/-- One delivery alone, counted and shown as a mismatch (R185). -/
def singleNoted (s : State) : State := (mismatch s false 1).setFlag SHD.STATUS.ROW_SINGLE true

section
variable (u : State) (r : Nat) (b old : List Nat) (soft : Option (Nat × List Nat))

/-- What holds of the state with the rows taken or lost, and of every detection on it, holds of the handover. -/
theorem handover_cases {P : State → Prop} (out : RasterOutcome)
    (htake : ∀ b soft, P (takeRows u r b soft)) (hmiss : ∀ v n, P v → P (mismatch v false n))
    (hsingle : ∀ v, P v → P (v.setFlag SHD.STATUS.ROW_SINGLE true)) (hfault : ∀ v, P v → P (raiseFault v 14 3))
    (hlost : P { u with shd := { u.shd with blankReady := none, softReq := u.shd.softReq.drop 1 } }) :
    P (handover u out r b old soft) := by
  cases out with
  | agree => exact htake b soft
  | differ eb lm => exact hmiss _ _ (htake _ _)
  | single => exact hfault _ (hsingle _ (hmiss _ _ (htake _ _)))
  | neither => exact hfault _ hlost

theorem handover_passRow (out : RasterOutcome) : (handover u out r b old soft).scan.passRow = u.scan.passRow :=
  handover_cases u r b old soft (P := fun v => v.scan.passRow = u.scan.passRow) out (fun _ _ => by rw [takeRows_eq])
    (fun v n h => (mismatch_passRow v n).trans h) (fun _ h => h) (fun v h => (raiseFault_passRow v 14 3).trans h) rfl

/-- The handover raises sources 13 and 14 alone. -/
theorem handover_sourceKept_15 (out : RasterOutcome) : SourceKept 15 u (handover u out r b old soft) :=
  handover_cases u r b old soft (P := SourceKept 15 u) out (fun _ _ => by rw [takeRows_eq]; exact ⟨rfl, rfl⟩)
    (fun v n h => h.trans (mismatch_sourceKept v n (outside_of (by decide)) (by decide) (by decide)))
    (fun v h => h.trans (sourceKept_of (setFlag_word v _ _ (by decide)) rfl))
    (fun v h => h.trans (raiseFault_sourceKept (by decide) (by decide) v 3)) ⟨rfl, rfl⟩

/-- The handover never clears the FATAL cause. -/
theorem handover_fatal_stays (out : RasterOutcome) (h : u.flag SAFE.FB_CAUSE.FATAL = true) :
    (handover u out r b old soft).flag SAFE.FB_CAUSE.FATAL = true :=
  handover_cases u r b old soft (P := fun v => v.flag SAFE.FB_CAUSE.FATAL = true) out
    (fun _ _ => by rw [takeRows_eq]; exact h) (fun v n hv => mismatch_fatal_stays v n hv)
    (fun v hv => (flag_setFlag_ne v _ _ _ (by decide)).trans hv) (fun v hv => raiseFault_fatal_stays hv 14 3) h

/-- Rows that differ (R184): one or two mismatches counted and shown, the first of the pass raised. -/
theorem handover_differ (eb : List Nat) (lm : List (Nat × Nat)) :
    let t := handover u (.differ eb lm) r b old soft
    Counted u t SHD.MISMATCH_COUNT.COUNT (if eb ≠ [] ∧ lm ≠ [] ∧ soft.isSome then 2 else 1)
      ∧ t.flag SHD.STATUS.CMP_MISMATCH = true ∧ (u.shd.passMismatch = false → Faulted u t 13 2) := by
  intro t
  have htake (b soft) : SourceKept 13 u (takeRows u r b soft) := by rw [takeRows_eq]; exact ⟨rfl, rfl⟩
  refine ⟨counted_of_reg ?_ (mismatch_counted _ _), mismatch_shown _ _,
    fun h => faulted_before (htake _ _) (mismatch_faulted _ _ ?_)⟩
  · rw [takeRows_eq]
    rfl
  · rw [takeRows_eq]
    exact h

/-- A single delivery is a mismatch that raises source 14 as FATAL (R185). -/
theorem handover_single :
    let t := handover u .single r b old soft
    Counted u t SHD.MISMATCH_COUNT.COUNT 1 ∧ t.flag SHD.STATUS.ROW_SINGLE = true ∧ Faulted u t 14 3
      ∧ t.flag SAFE.FB_CAUSE.FATAL = true := by
  intro t
  have hcount (v : State) : Counted v (raiseFault (singleNoted v) 14 3) SHD.MISMATCH_COUNT.COUNT 1 := by
    have hfault := raiseFault_word (key := fieldKey SHD.MISMATCH_COUNT.COUNT) (outside_of (by decide +kernel)) (singleNoted v) 14 3
    exact (reg_eq_of_word hfault).trans ((reg_setFlag_ne _ _ _ _ (by decide)).trans (mismatch_counted v 1))
  have hkept (v : State) : SourceKept 14 v (singleNoted v) :=
    (mismatch_sourceKept v 1 (outside_of (by decide)) (by decide) (by decide)).trans
      (sourceKept_of (setFlag_word _ _ _ (by decide)) rfl)
  have htake (l : List Nat) : SourceKept 14 u (takeRows u r l soft) := by rw [takeRows_eq]; exact ⟨rfl, rfl⟩
  refine ⟨counted_of_reg ?_ (hcount _), ?_, faulted_before ((htake _).trans (hkept _)) (raiseFault_faulted _ 14 3),
    raiseFault_fatal (by decide) _⟩
  · rw [takeRows_eq]
    rfl
  · refine (flag_eq_of_word (raiseFault_word (outside_of (by decide +kernel)) _ 14 3)).trans ?_
    exact flag_setFlag_self _ _ _ (by decide) (by decide)

/-- Neither delivers: no row waits, and source 14 raises FATAL (R185). -/
theorem handover_neither :
    let t := handover u .neither r b old soft
    t.shd.blankReady = none ∧ Faulted u t 14 3 ∧ t.flag SAFE.FB_CAUSE.FATAL = true := by
  refine ⟨?_, faulted_before ⟨rfl, rfl⟩ (raiseFault_faulted _ 14 3), raiseFault_fatal (by decide) _⟩
  simp [handover]

end

/-! ### Row slots (R182) -/

/-- The soft-mask row that a slot evaluates, the first one requested. -/
def slotSoft (u : State) : Option (Nat × List Nat) :=
  u.shd.softReq.head?.map (fun y => (y, softRow u y (displayMidpoint u (if u.mode = 3 then 2 * y else y))))

/-- The row that a slot evaluates for the next one: the lead of row 0 of a pass is longer. -/
def slotRow (u : State) (r : Nat) : List Nat := blankRow u r (u.now + if r = 0 then 323 else 203)

/-- The end of a row slot of the pass, with no injected fault at the rasterizers. -/
def slotAfter (s : State) (out : RasterOutcome) (ecc : ContextEcc) : State :=
  let r := (s.scan.passRow + 1) % 1024
  handover (slotBefore s ecc) out r (slotRow (slotBefore s ecc) r) (planeRow 0 (slotBefore s ecc).pix.blank r)
    (slotSoft (slotBefore s ecc))

section
variable (s : State) (out : RasterOutcome) (ecc : ContextEcc)

theorem exec_blankRowSlot (hon : s.scan.passOn = true) (hrow : s.scan.passRow < 1024) (hc : clocksRun s = true)
    (h13 : s.injWaits 13 = false) (h14 : s.injWaits 14 = false) :
    exec (.blankRowSlot out ecc) s = .next (slotAfter s out ecc) := by
  have hn14 : ¬ (slotBefore s ecc).injWaits 14 = true := by simp [slotBefore_injWaits, h14]
  have hn13 : ¬ (slotBefore s ecc).injWaits 13 = true := by simp [slotBefore_injWaits, h13]
  exact (if_pos ⟨hon, hrow, hc⟩).trans ((if_neg hn14).trans (if_neg hn13))

theorem slotSoft_isSome : (slotSoft (slotBefore s ecc)).isSome = true ↔ s.shd.softReq ≠ [] := by
  rw [slotSoft, (slotBefore_handed s ecc).2]
  simp

/-- The handover leaves the fields outside its own as the slot found them. -/
theorem slotAfter_word {key : Nat} (hk : Outside handoverRegs key) :
    wordAt (slotAfter s out ecc).regs key = wordAt (slotBefore s ecc).regs key := handover_word hk _ _ _ _ _ _

theorem slotAfter_passRow : (slotAfter s out ecc).scan.passRow = s.scan.passRow + 1 := handover_passRow _ _ _ _ _ out

theorem slotAfter_pix : (slotAfter s out ecc).pix = (slotBefore s ecc).pix := by simp [slotAfter]

theorem slotAfter_late (h : ∀ b, s.shd.blankReady ≠ some (s.scan.passRow, b)) :
    (slotAfter s out ecc).pix.blank = s.pix.blank ∧ (slotAfter s out ecc).flag SCAN.BLANK_STATUS.PASS_LATE = true := by
  rw [slotAfter_pix, flag_eq_of_word (slotAfter_word s out ecc (outside_of (by decide +kernel)))]
  exact slotBefore_late s ecc h

theorem slotBefore_mismatchCount :
    (slotBefore s ecc).reg SHD.MISMATCH_COUNT.COUNT = s.reg SHD.MISMATCH_COUNT.COUNT :=
  slotBefore_reg s ecc (outside_of (by decide +kernel))

theorem slotAfter_agree_published (hs : SlotsOk s) : Published s (slotAfter s .agree .none) := by
  have h := slotBefore_published s hs
  unfold slotAfter handover
  dsimp only
  rw [takeRows_eq]
  exact published_after h rfl rfl rfl (fun _ => rfl)

/-- Agreeing rows: the row evaluated for the next slot waits, and no mismatch is counted (R182). -/
theorem slotAfter_agree :
    let t := slotAfter s .agree ecc
    let r := (s.scan.passRow + 1) % 1024
    t.shd.blankReady = some (r, blankRow t r (t.now + if r = 0 then 323 else 203))
      ∧ t.reg SHD.MISMATCH_COUNT.COUNT = s.reg SHD.MISMATCH_COUNT.COUNT := by
  intro t r
  have ht : t = takeRows (slotBefore s ecc) r (slotRow (slotBefore s ecc) r) (slotSoft (slotBefore s ecc)) := rfl
  have hnow : t.now = (slotBefore s ecc).now := by rw [ht, takeRows_eq]; rfl
  constructor
  · rw [hnow, ht, blankRow_takeRows, takeRows_eq]
    rfl
  · rw [← slotBefore_mismatchCount s ecc, ht, takeRows_eq]
    rfl

theorem slotAfter_differ (eb : List Nat) (lm : List (Nat × Nat)) :
    let t := slotAfter s (.differ eb lm) ecc
    Counted s t SHD.MISMATCH_COUNT.COUNT (if eb ≠ [] ∧ lm ≠ [] ∧ s.shd.softReq ≠ [] then 2 else 1)
      ∧ t.flag SHD.STATUS.CMP_MISMATCH = true ∧ (s.shd.passMismatch = false → Faulted s t 13 2) := by
  intro t
  let r := (s.scan.passRow + 1) % 1024
  obtain ⟨hcount, hshown, hfault⟩ := handover_differ (slotBefore s ecc) r (slotRow (slotBefore s ecc) r)
    (planeRow 0 (slotBefore s ecc).pix.blank r) (slotSoft (slotBefore s ecc)) eb lm
  simp only [slotSoft_isSome] at hcount
  rw [(slotBefore_handed s ecc).1] at hfault
  exact ⟨counted_of_reg (slotBefore_mismatchCount s ecc) hcount, hshown,
    fun h => faulted_before (slotBefore_sourceKept_13 s ecc) (hfault h)⟩

theorem slotAfter_single :
    let t := slotAfter s .single ecc
    Counted s t SHD.MISMATCH_COUNT.COUNT 1 ∧ t.flag SHD.STATUS.ROW_SINGLE = true ∧ Faulted s t 14 3
      ∧ t.flag SAFE.FB_CAUSE.FATAL = true := by
  intro t
  let r := (s.scan.passRow + 1) % 1024
  obtain ⟨hcount, hshown, hfault, hfatal⟩ := handover_single (slotBefore s ecc) r (slotRow (slotBefore s ecc) r)
    (planeRow 0 (slotBefore s ecc).pix.blank r) (slotSoft (slotBefore s ecc))
  exact ⟨counted_of_reg (slotBefore_mismatchCount s ecc) hcount, hshown,
    faulted_before (slotBefore_sourceKept_14 s ecc) hfault, hfatal⟩

theorem slotAfter_neither :
    let t := slotAfter s .neither ecc
    t.shd.blankReady = none ∧ Faulted s t 14 3 ∧ t.flag SAFE.FB_CAUSE.FATAL = true := by
  intro t
  let r := (s.scan.passRow + 1) % 1024
  obtain ⟨hnone, hfault, hfatal⟩ := handover_neither (slotBefore s ecc) r (slotRow (slotBefore s ecc) r)
    (planeRow 0 (slotBefore s ecc).pix.blank r) (slotSoft (slotBefore s ecc))
  exact ⟨hnone, faulted_before (slotBefore_sourceKept_14 s ecc) hfault, hfatal⟩

/-- What the ECC event of a slot raised still waits at its end. -/
theorem slotAfter_faulted_ecc {cls : Nat} (h : Faulted s (contextEcc s ecc) 15 cls) : Faulted s (slotAfter s out ecc) 15 cls :=
  faulted_after h ((slotBefore_sourceKept_ecc s ecc (outside_of (by decide))).trans (handover_sourceKept_15 _ _ _ _ _ out))

theorem slotAfter_fatal_ecc (h : (contextEcc s ecc).flag SAFE.FB_CAUSE.FATAL = true) :
    (slotAfter s out ecc).flag SAFE.FB_CAUSE.FATAL = true :=
  handover_fatal_stays _ _ _ _ _ out ((flag_eq_of_word (slotBefore_word s ecc (outside_of (by decide)))).trans h)

theorem slotAfter_counted_ecc (h : Counted s (contextEcc s ecc) SHD.WR_REJECT_COUNT.COUNT 1) :
    Counted s (slotAfter s out ecc) SHD.WR_REJECT_COUNT.COUNT 1 :=
  (reg_eq_of_word ((slotAfter_word s out ecc (outside_of (by decide +kernel))).trans
    (slotBefore_word s ecc (outside_of (by decide))))).trans h

end

/-! ### Passes begin (R45) -/

/-- BLANK_PASS_START shows the number of the pass and begins it at row 0. -/
theorem blankPassStart_completes {s : State} (hr : s.scan.running = true) (hm : s.mode ≠ 7) (hc : clocksRun s = true) :
    Completes .blankPassStart s fun t => t.scan.passOn = true ∧ t.scan.passRow = 0
      ∧ t.reg SCAN.BLANK_STATUS.PASS = s.shd.passes % 64 ∧ t.shd.passes = s.shd.passes + 1 ∧ t.shd.passMismatch = false :=
  completes_of (if_pos ⟨hr, hm, hc⟩) ⟨rfl, rfl, reg_setReg_self s SCAN.BLANK_STATUS.PASS _ (by decide), rfl, rfl⟩

/-- Settles O23: a publish point slot by slot, and a row slot through its ECC event, its publish point, its write and its
handover. -/
theorem publishAndBlankPasses : Obligations.PublishAndBlankPasses := by
  unfold Obligations.PublishAndBlankPasses
  refine ⟨⟨fun s => completes_of rfl ⟨rfl, fun _ => rfl⟩, fun s hs hoff hrun => ?_, fun s hon => ?_⟩,
    fun s hr hm hc => blankPassStart_completes hr hm hc, fun s out ecc hon hrow hc h13 h14 => ?_⟩
  · have hexec : exec .publishTimer s = .next (publishPoint s) :=
      congrArg Host.Outcome.next (if_neg (by simp [hoff, hrun]))
    exact completes_of hexec (publishPoint_published hs)
  · exact congrArg Host.Outcome.next (if_pos (Or.inl hon))
  · refine completes_of (exec_blankRowSlot s out ecc hon hrow hc h13 h14) ⟨slotAfter_passRow s out ecc, fun b hb => ?_,
      slotAfter_late s out ecc, ?_, ?_, ?_, ?_, ?_, ?_, ?_, ?_⟩
    · rw [slotAfter_pix, slotBefore_written s ecc hb]
    · rintro rfl hs rfl
      exact slotAfter_agree_published s hs
    · rintro rfl
      exact slotAfter_agree s ecc
    · rintro eb lm rfl
      exact slotAfter_differ s ecc eb lm
    · rintro rfl
      exact slotAfter_single s ecc
    · rintro rfl
      exact slotAfter_neither s ecc
    · rintro rfl
      exact slotAfter_faulted_ecc s out _ (raiseFault_faulted s 15 1)
    · rintro rfl
      exact ⟨slotAfter_faulted_ecc s out _ (raiseFault_faulted s 15 3),
        slotAfter_fatal_ecc s out _ (raiseFault_fatal (by decide) s)⟩
    · rintro n x rfl hx
      obtain ⟨hcount, hfault⟩ := contextEcc_stagedDouble hx
      exact ⟨slotAfter_counted_ecc s out _ hcount, slotAfter_faulted_ecc s out _ hfault⟩

end Sys2Proof.Machine.BlankPasses
end

section
/-! PROOF. EngineBands: bands that complete, bands that waited, spares, the pause level and restored compute power
(06_beam_engines_and_kernels.md). -/

namespace Sys2Proof.Machine.EngineBands

open GalleryComposition (reg_fenceAdd reg_wrapBy_ne)

/-! ### The entry a band renders (R202) -/

/-- The current entry of a band stands at its index and has the band left. -/
theorem currentEntry_spec {r : RunSet} {b i : Nat} {e : RunEntry} (h : currentEntry r b = some (i, e)) :
    r.entries[i]? = some e ∧ bit e.todo b = true := by
  obtain ⟨⟨e', i'⟩, hfind, hp⟩ := Option.map_eq_some_iff.mp h
  cases hp
  have hleft := List.find?_some hfind
  exact ⟨List.mem_zipIdx_iff_getElem?.mp (List.mem_of_find?_eq_some hfind), hleft⟩

/-- Entry `i` after band `b`: without that band. -/
def withoutBand (e : RunEntry) (b : Nat) : RunEntry := { e with todo := e.todo - 2 ^ b }

/-- An entry replaced is itself or one of the others. -/
theorem eq_or_mem_eraseIdx_of_mem_set {α : Type} {l : List α} {i : Nat} {a x : α} (h : x ∈ l.set i a) :
    x = a ∨ x ∈ l.eraseIdx i := by
  obtain ⟨j, hj⟩ := List.mem_iff_getElem?.mp h
  rw [List.getElem?_set] at hj
  split at hj
  · split at hj
    · exact .inl (Option.some.inj hj).symm
    · cases hj
  · next hne => exact .inr (List.mem_eraseIdx_iff_getElem?.mpr ⟨j, Ne.symm hne, hj⟩)

/-! ### Rows written to DRAM (R198, R496) -/

theorem dramByte_of_dram {s t : State} (h : t.dram = s.dram) (a : Nat) : t.dramByte a = s.dramByte a := by
  unfold State.dramByte
  rw [h]

/-- A write stores its bytes, or nothing where they do not all lie in the populated DRAM. -/
theorem dramWrite_dram (s : State) (a : Nat) (v : List Byte) :
    (dramWrite s a v).dram = if s.dramSize < a + v.length then s.dram else (s.dramPut a v).dram := by
  unfold dramWrite
  split
  · rfl
  · simp

theorem dramByte_dramWrite_ne (s : State) {a x : Nat} {v : List Byte} (h : ¬ (a ≤ x ∧ x < a + v.length)) :
    (dramWrite s a v).dramByte x = s.dramByte x := by
  have hput : (s.dramPut a v).dramByte x = s.dramByte x := dramByte_dramPut_ne s a v x (by omega)
  unfold State.dramByte at hput ⊢
  rw [dramWrite_dram]
  split
  · rfl
  · exact hput

theorem dramByte_dramWrite {s : State} {a j : Nat} {v : List Byte} (hfit : a + v.length ≤ s.dramSize) (hj : j < v.length) :
    (dramWrite s a v).dramByte (a + j) = v[j] := by
  have hput := dramByte_dramPut s a v j hj
  unfold State.dramByte at hput ⊢
  rwa [dramWrite_dram, if_neg (Nat.not_lt.mpr hfit)]

theorem dramSize_dramWrite (s : State) (a : Nat) (v : List Byte) : (dramWrite s a v).dramSize = s.dramSize := by
  have horg (f : Field) (hk : Outside dramWriteRegs (fieldKey f)) : (dramWrite s a v).reg f = s.reg f :=
    reg_eq_of_word (dramWrite_word hk s a v)
  unfold State.dramSize
  rw [horg _ (outside_of (by decide)), horg _ (outside_of (by decide)), horg _ (outside_of (by decide))]

/-- The rows `l` written in order, each row `v` as the bytes `f v` from address `p v`. -/
def writeRows (p : Nat → Nat) (f : Nat → List Byte) (s : State) (l : List Nat) : State :=
  l.foldl (fun t v => dramWrite t (p v) (f v)) s

section
variable (p : Nat → Nat) (f : Nat → List Byte)

theorem writeRows_dramByte_ne (x : Nat) (l : List Nat) (hx : ∀ v ∈ l, ¬ (p v ≤ x ∧ x < p v + (f v).length)) (s : State) :
    (writeRows p f s l).dramByte x = s.dramByte x := by
  induction l generalizing s with
  | nil => rfl
  | cons v l ih =>
    obtain ⟨hv, hl⟩ := List.forall_mem_cons.mp hx
    exact (ih hl _).trans (dramByte_dramWrite_ne s hv)

/-- A row that no other row overlaps reads back as written. -/
theorem writeRows_dramByte {v j : Nat} (hj : j < (f v).length) (l : List Nat) (hnd : l.Nodup) (hv : v ∈ l)
    (hapart : ∀ u ∈ l, u ≠ v → ¬ (p u ≤ p v + j ∧ p v + j < p u + (f u).length)) (s : State)
    (hfit : p v + (f v).length ≤ s.dramSize) : (writeRows p f s l).dramByte (p v + j) = (f v)[j] := by
  induction l generalizing s with
  | nil => exact absurd hv List.not_mem_nil
  | cons u l ih =>
    obtain ⟨hu, hnd⟩ := List.nodup_cons.mp hnd
    obtain ⟨-, hrest⟩ := List.forall_mem_cons.mp hapart
    rcases List.mem_cons.mp hv with rfl | hv
    · have hne : ∀ w ∈ l, w ≠ v := fun w hw h => hu (h ▸ hw)
      exact (writeRows_dramByte_ne p f _ l (fun w hw => hrest w hw (hne w hw)) _).trans (dramByte_dramWrite hfit hj)
    · exact ih hnd hv hrest _ (by rwa [dramSize_dramWrite])

end

/-- Rows no longer than the stride between them do not overlap. -/
theorem rows_apart {d u v m n j o : Nat} (hne : u ≠ v) (hm : m ≤ d) (hn : n ≤ d) (hj : j < n) :
    ¬ (o + u * d ≤ o + v * d + j ∧ o + v * d + j < o + u * d + m) := by
  rcases Nat.lt_or_gt_of_ne hne with h | h
  · have := Nat.mul_le_mul_right d (Nat.succ_le_of_lt h)
    rw [Nat.succ_mul] at this
    omega
  · have := Nat.mul_le_mul_right d (Nat.succ_le_of_lt h)
    rw [Nat.succ_mul] at this
    omega

/-! ### The rows of one band -/

/-- The output rows of an entry that band `b` renders (R201). -/
def bandRows (r : RunSet) (e : RunEntry) (b : Nat) : List Nat :=
  (List.range (blkH e.block)).filter (fun v => rowBand r.mode e.block v == b)

theorem mem_bandRows {r : RunSet} {e : RunEntry} {b v : Nat} :
    v ∈ bandRows r e b ↔ v < blkH e.block ∧ rowBand r.mode e.block v = b := by
  simp [bandRows]

theorem renderBand_eq (s : State) (r : RunSet) (e : RunEntry) (b : Nat) : renderBand s r e b
    = (writeRows (fun v => e.out + v * blkStride e.block) (outputRow s r e.block) s (bandRows r e b)).tookFree := rfl

section
variable (s : State) (r : RunSet) (e : RunEntry) (b : Nat)

theorem renderBand_dramByte_ne {a : Nat} (h : ∀ v, v < blkH e.block → rowBand r.mode e.block v = b →
      ¬ (e.out + v * blkStride e.block ≤ a ∧ a < e.out + v * blkStride e.block + (outputRow s r e.block v).length)) :
    (renderBand s r e b).dramByte a = s.dramByte a := by
  rw [renderBand_eq]
  exact writeRows_dramByte_ne (fun v => e.out + v * blkStride e.block) _ a _
    (fun v hv => h v (mem_bandRows.mp hv).1 (mem_bandRows.mp hv).2) s

theorem renderBand_dramBytes (hlen : ∀ v, (outputRow s r e.block v).length ≤ blkStride e.block) {v : Nat}
    (hv : v < blkH e.block) (hb : rowBand r.mode e.block v = b)
    (hfit : e.out + v * blkStride e.block + (outputRow s r e.block v).length ≤ s.dramSize) :
    (renderBand s r e b).dramBytes (e.out + v * blkStride e.block) (outputRow s r e.block v).length
      = outputRow s r e.block v := by
  refine List.ext_getElem (by simp [State.dramBytes]) fun j _ hj => ?_
  have hnd : (bandRows r e b).Nodup := List.nodup_range.filter _
  have hread := writeRows_dramByte (fun v => e.out + v * blkStride e.block) _ hj _ hnd (mem_bandRows.mpr ⟨hv, hb⟩)
    (fun u _ hne => rows_apart hne (hlen u) (hlen v) hj) s hfit
  simpa [State.dramBytes, renderBand_eq, State.dramByte] using hread

theorem renderBand_fence (k : Nat) : (renderBand s r e b).reg (GAL.FENCE.FENCE k) = s.reg (GAL.FENCE.FENCE k) := by
  refine reg_eq_of_word (renderBand_word ?_ s r e b)
  have := Nat.mod_lt k (by decide : 0 < 64)
  simp [renderBandRegs, dramWriteRegs, outside_cons, outside_nil, fieldKey, GAL.FENCE.FENCE, DDRC.STATUS.RANGE_ERR]
  omega

end

/-! ### The end of an entry (R203) -/

/-- The read-back check value depends on the stored bytes and on the entry's buffer alone. -/
theorem outputCheck_congr {s t : State} {e e' : RunEntry} (hdram : t.dram = s.dram) (hblock : e'.block = e.block)
    (hout : e'.out = e.out) : outputCheck t e' = outputCheck s e := by
  unfold outputCheck State.dramBytes State.dramByte
  rw [hdram, hblock, hout]

theorem nextCrc_key_ne_fence (n k : Nat) : fieldKey (GAL.L.NEXT_CRC.NEXT_CRC n) ≠ fieldKey (GAL.FENCE.FENCE k) := by
  have := Nat.mod_lt n (by decide : 0 < 7)
  simp only [fieldKey, GAL.L.NEXT_CRC.NEXT_CRC, GAL.FENCE.FENCE]
  omega

theorem entryDone_fence (s : State) (e : RunEntry) : (entryDone s e).reg (GAL.FENCE.FENCE (blkFence e.block))
    = (s.reg (GAL.FENCE.FENCE (blkFence e.block)) + 1) % 2 ^ 32 := by
  refine (reg_fenceAdd _ _ 1).trans ?_
  split
  · rw [reg_setReg_ne _ _ _ _ (nextCrc_key_ne_fence _ _)]
  · rfl

theorem entryDone_nextCrc {s : State} {e : RunEntry} (hsafe : blkFlag e.block 2 = true) (hslot : blkSlot e.block < 7) :
    (entryDone s e).reg (GAL.L.NEXT_CRC.NEXT_CRC (blkSlot e.block)) = (outputCheck s e).toNat := by
  unfold entryDone
  dsimp only
  rw [if_pos ⟨hsafe, hslot⟩]
  refine (reg_wrapBy_ne _ _ _ 1 (nextCrc_key_ne_fence _ _).symm).trans ?_
  exact FrameTiming.reg_setReg_of_lt s _ _ (Nat.le_refl 32) (outputCheck s e).isLt

/-! ### The end of a set (R423) -/

theorem closeSet_of_left {s : State} {r : RunSet} (h : s.eng.running = some r) {e : RunEntry} (he : e ∈ r.entries)
    (hleft : e.todo ≠ 0) : closeSet s = s := by
  have hall : ¬ r.entries.all (fun x => x.todo == 0) = true :=
    fun hall => hleft (by simpa using List.all_eq_true.mp hall e he)
  unfold closeSet
  rw [h]
  exact if_neg hall

theorem closeSet_of_done {s : State} {r : RunSet} (h : s.eng.running = some r) (hdone : ∀ x ∈ r.entries, x.todo = 0) :
    (closeSet s).eng.running = none ∧ (closeSet s).stats.rendered = s.stats.rendered + 1 := by
  have hall : r.entries.all (fun x => x.todo == 0) = true := by simpa using hdone
  unfold closeSet
  rw [h]
  dsimp only
  rw [if_pos hall]
  exact ⟨rfl, rfl⟩

/-! ### A completed band -/

section
variable {s : State} {r : RunSet} {e : RunEntry} {b i : Nat}

/-- Band `b` of entry `i` rendered, written and taken off the entry (R202). -/
def bandDone (s : State) (r : RunSet) (i : Nat) (e : RunEntry) (b : Nat) : State :=
  setEntry (renderBand s r e b) r i (withoutBand e b)

/-- A completed band ends its entry where it was the last one, and then the set may be over. -/
theorem completeBand_eq (hrun : s.eng.running = some r) (hcur : currentEntry r b = some (i, e))
    (hw : mayWrite s e b = true) : completeBand s b
      = closeSet (if e.todo - 2 ^ b = 0 then entryDone (bandDone s r i e b) (withoutBand e b) else bandDone s r i e b) := by
  unfold completeBand
  rw [hrun]
  dsimp only
  rw [hcur]
  exact if_pos hw

theorem completeBand_dram (hrun : s.eng.running = some r) (hcur : currentEntry r b = some (i, e))
    (hw : mayWrite s e b = true) : (completeBand s b).dram = (renderBand s r e b).dram := by
  rw [completeBand_eq hrun hcur hw]
  split
  · simp [bandDone]
  · simp [bandDone]

/-- While the entry has another band left, only the band's mark leaves the running set, and no fence moves (R203). -/
theorem completeBand_of_more (hrun : s.eng.running = some r) (hcur : currentEntry r b = some (i, e))
    (hw : mayWrite s e b = true) (hmore : e.todo ≠ 2 ^ b) :
    (completeBand s b).eng.running = some { r with entries := r.entries.set i (withoutBand e b) }
    ∧ ∀ k, (completeBand s b).reg (GAL.FENCE.FENCE k) = s.reg (GAL.FENCE.FENCE k) := by
  obtain ⟨hi, hbit⟩ := currentEntry_spec hcur
  have hle : 2 ^ b ≤ e.todo := Nat.ge_two_pow_of_testBit hbit
  have hleft : e.todo - 2 ^ b ≠ 0 := by omega
  have hmem : withoutBand e b ∈ r.entries.set i (withoutBand e b) :=
    List.mem_set (List.getElem?_eq_some_iff.mp hi).1 _
  have heq : completeBand s b = bandDone s r i e b := by
    rw [completeBand_eq hrun hcur hw, if_neg hleft]
    exact closeSet_of_left rfl hmem hleft
  rw [heq]
  exact ⟨rfl, renderBand_fence s r e b⟩

/-- The last band of an entry gives its check value, advances its fence, and ends the set where nothing is left (R203). -/
theorem completeBand_of_last (hrun : s.eng.running = some r) (hcur : currentEntry r b = some (i, e))
    (hw : mayWrite s e b = true) (hlast : e.todo = 2 ^ b) :
    (completeBand s b).reg (GAL.FENCE.FENCE (blkFence e.block))
      = (s.reg (GAL.FENCE.FENCE (blkFence e.block)) + 1) % 2 ^ 32
    ∧ (blkFlag e.block 2 = true → blkSlot e.block < 7 →
      (completeBand s b).reg (GAL.L.NEXT_CRC.NEXT_CRC (blkSlot e.block)) = (outputCheck (completeBand s b) e).toNat)
    ∧ ((∀ x ∈ r.entries.eraseIdx i, x.todo = 0) →
      (completeBand s b).eng.running = none ∧ (completeBand s b).stats.rendered = s.stats.rendered + 1) := by
  have hnone : e.todo - 2 ^ b = 0 := by omega
  have heq : completeBand s b = closeSet (entryDone (bandDone s r i e b) (withoutBand e b)) := by
    rw [completeBand_eq hrun hcur hw, if_pos hnone]
  have hreg (f : Field) : (completeBand s b).reg f = (entryDone (bandDone s r i e b) (withoutBand e b)).reg f :=
    reg_of_regs f (by rw [heq]; simp)
  have hdram : (completeBand s b).dram = (bandDone s r i e b).dram := by rw [heq]; simp
  refine ⟨?_, fun hsafe hslot => ?_, fun hrest => ?_⟩
  · rw [hreg, ← renderBand_fence s r e b]
    exact entryDone_fence (bandDone s r i e b) (withoutBand e b)
  · rw [hreg, outputCheck_congr (e := withoutBand e b) (e' := e) hdram rfl rfl]
    exact entryDone_nextCrc (e := withoutBand e b) hsafe hslot
  · have hrunning : (entryDone (bandDone s r i e b) (withoutBand e b)).eng.running
        = some { r with entries := r.entries.set i (withoutBand e b) } := by simp [bandDone, setEntry]
    have hdone : ∀ x ∈ r.entries.set i (withoutBand e b), x.todo = 0 := by
      intro x hx
      rcases eq_or_mem_eraseIdx_of_mem_set hx with rfl | hx
      · exact hnone
      · exact hrest x hx
    obtain ⟨hover, hcount⟩ := closeSet_of_done hrunning hdone
    rw [heq]
    exact ⟨hover, hcount.trans (by simp [bandDone])⟩

end

/-- Settles O24: the band's rows are the only stores, and the end of its entry depends on what the entry has left. -/
theorem bandCompletion : Obligations.BandCompletion := by
  unfold Obligations.BandCompletion
  intro s b r i e hen hrun hcur hw
  have hexec : exec (.bandComplete b) s = .next (completeBand s b) := congrArg Host.Outcome.next (if_pos hen)
  have hdram := completeBand_dram hrun hcur hw
  refine completes_of hexec ⟨fun a ha => ?_, fun hlen v hv hb hfit => ?_, ?_, ?_⟩
  · exact (dramByte_of_dram hdram a).trans (renderBand_dramByte_ne s r e b ha)
  · refine Eq.trans ?_ (renderBand_dramBytes s r e b hlen hv hb hfit)
    exact List.map_congr_left fun j _ => dramByte_of_dram hdram _
  · exact completeBand_of_more hrun hcur hw
  · exact completeBand_of_last hrun hcur hw

/-! ### Bands that waited (R204, R210) -/

/-- A band that waits starts once its entry is one that `ok` names and both its buffer and its input allow it. -/
theorem startBand_running {s : State} {r : RunSet} {b i : Nat} {e : RunEntry} {ok : RunEntry → Bool}
    (hrun : s.eng.running = some r) (hcur : currentEntry r b = some (i, e)) (hen : s.flag BE.CTRL.EN = true)
    (hok : ok e = true) (hfree : bufferFree s e = true) (hin : inputReady s e = true) :
    (startBand s b ok).eng.running
      = some { r with entries := r.entries.set i { e with started := e.started ||| 2 ^ b } } := by
  unfold startBand
  rw [hrun]
  dsimp only
  rw [hcur]
  dsimp only
  rw [if_pos ⟨hen, hok, hfree, hin⟩]
  rfl

/-! ### Restored compute power (R222) -/

/-- An event told from a state that agrees in node address, lamp time and waiting events. -/
theorem told_of_raiseEvent {s u : State} (hnode : u.reg TXLA.NODE.ADDR = s.reg TXLA.NODE.ADDR) (hlt : u.lt = s.lt)
    (hflt : u.flt = s.flt) (code : Nat) (args : List Byte) : Told s (raiseEvent u code args) [(code, args)] := by
  have htold := raiseEvent_told u code args
  have hnow : u.now = s.now := congrArg BitVec.toNat hlt
  unfold Told eventOf at htold ⊢
  rwa [hflt, hnow, hnode] at htold

/-- Settles O26: each event by the guard it meets and the one part it writes. -/
theorem engineEvents : Obligations.EngineEvents := by
  unfold Obligations.EngineEvents
  refine ⟨fun s b r i e hrun hcur hen hpong hfree hin => ?_, fun s b r i e hrun hcur hen hvideo hfree hfence => ?_,
    fun s hleft => ?_, fun s hen hrot => ?_, fun s => ?_, fun s hwatch hload => ?_⟩
  · exact completes_of rfl (startBand_running hrun hcur hen hpong hfree hin)
  · have hin : inputReady s e = true := by simp [inputReady, hfence]
    exact completes_of rfl (startBand_running hrun hcur hen (beq_iff_eq.mpr hvideo) hfree hin)
  · have hexec : exec .spareReady s = .next { s with eng := { s.eng with spares := s.eng.spares + 1 } } :=
      congrArg Host.Outcome.next (if_pos hleft)
    exact completes_of hexec rfl
  · have hexec : exec .spareRotation s = .next { s with eng := { s.eng with rotateDue := true } } :=
      congrArg Host.Outcome.next (if_pos ⟨hen, hrot⟩)
    exact completes_of hexec rfl
  · exact completes_of rfl (reg_setReg_self s BE.LOAD.PAUSE _ (by decide))
  · have hexec : exec .computeRestored s
        = .next (raiseEvent { s with eng := { s.eng with stepWatch := false } } 0x0202 (toLe 1 s.mode)) :=
      if_pos ⟨hwatch, hload⟩
    exact completes_of hexec ⟨rfl, told_of_raiseEvent rfl rfl rfl _ _⟩

end Sys2Proof.Machine.EngineBands
end

section
/-! PROOF. EngineLoss: engine faults, timed-out bands and failed self-tests (06_beam_engines_and_kernels.md). -/

namespace Sys2Proof.Machine.EngineLoss

open FrameTiming (raiseCause_scan)
open GalleryComposition (abortFrame_of_loading)
open BlankPasses (SourceKept sourceKept_of faulted_after faulted_before raiseFault_sourceKept raiseFault_fatal
  fatalAtDetection_cases)

/-! ### Bits of sets of engines and bands -/

/-- Adding a power of two that a number does not hold sets that bit and no other. -/
theorem testBit_two_pow_add {n x : Nat} (hx : x.testBit n = false) (k : Nat) :
    (2 ^ n + x).testBit k = (x.testBit k || decide (k = n)) := by
  rcases Nat.lt_trichotomy k n with hk | rfl | hk
  · rw [Nat.testBit_two_pow_add_gt hk]
    simp [Nat.ne_of_lt hk]
  · rw [Nat.testBit_two_pow_add_eq, hx]
    simp
  · have heven : x / 2 ^ n % 2 = 0 := by simpa [Nat.testBit_eq_decide_div_mod_eq] using hx
    have hhigh : (2 ^ n + x) / 2 ^ (n + 1) = x / 2 ^ (n + 1) := by
      rw [Nat.pow_succ, ← Nat.div_div_eq_div_mul, ← Nat.div_div_eq_div_mul, Nat.add_div_left _ (Nat.two_pow_pos n)]
      omega
    obtain ⟨d, rfl⟩ := Nat.exists_eq_add_of_lt hk
    have hsplit (y : Nat) : y.testBit (n + d + 1) = (y / 2 ^ (n + 1)).testBit d := by
      rw [Nat.testBit_div_two_pow]
      congr 1
      omega
    rw [hsplit, hsplit, hhigh, decide_eq_false (by omega), Bool.or_false]

theorem bit_clearBit (m n k : Nat) : bit (clearBit m n) k = (bit m k && k != n) := by
  unfold clearBit
  split
  · next h =>
    obtain ⟨x, rfl⟩ := Nat.exists_eq_add_of_le (Nat.ge_two_pow_of_testBit h)
    have hx : x.testBit n = false := by simpa [bit, Nat.testBit_two_pow_add_eq] using h
    rw [Nat.add_sub_cancel_left, bit, bit, testBit_two_pow_add hx]
    by_cases hk : k = n
    · simp [hk, hx]
    · simp [hk]
  · next h =>
    by_cases hk : k = n
    · simp [hk, Bool.eq_false_of_not_eq_true h]
    · simp [hk]

theorem bit_bitsOf (n : Nat) (f : Nat → Bool) (k : Nat) : bit (bitsOf n f) k = (decide (k < n) && f k) := by
  induction n generalizing k with
  | zero => simp [bitsOf, bit]
  | succ n ih =>
    have hstep : bitsOf (n + 1) f = bitsOf n f + b2n (f n) * 2 ^ n := by simp [bitsOf, List.range_succ]
    have hclear : (bitsOf n f).testBit n = false := (ih n).trans (by simp)
    rw [hstep]
    cases hf : f n with
    | false =>
      rw [b2n, if_neg Bool.false_ne_true, Nat.zero_mul, Nat.add_zero, ih]
      by_cases hk : k = n
      · simp [hk, hf]
      · have hiff : k < n + 1 ↔ k < n := by omega
        simp [hiff]
    | true =>
      rw [b2n, if_pos rfl, Nat.one_mul, Nat.add_comm, bit, testBit_two_pow_add hclear, ← bit, ih]
      by_cases hk : k = n
      · simp [hk, hf]
      · have hiff : k < n + 1 ↔ k < n := by omega
        simp [hk, hiff]

/-! ### An engine retired (R216) -/

/-- The registers of engine `n` taken out of service and counted. -/
def outOfService (s : State) (n : Nat) : State :=
  let s1 := (s.setReg BE.ACTIVE.ENG (clearBit (s.reg BE.ACTIVE.ENG) n)).setReg BE.SPARE.ENG
    (clearBit (s.reg BE.SPARE.ENG) n)
  (s1.setReg BE.RETIRED.ENG (s1.reg BE.RETIRED.ENG ||| 2 ^ n)).bump BE.FAULT_COUNT.COUNT

/-- Engine `n` out of service and no longer in its self-test, before its fault is raised. -/
def retiredShown (s : State) (n : Nat) : State :=
  { outOfService s n with eng := { s.eng with testing := clearBit s.eng.testing n } }

/-- Engine `n` retired with its own fault raised. -/
def retiredFaulted (s : State) (n : Nat) : State := raiseFault (retiredShown s n) (25 + n) 2

/-- The healthy engines: active or spare. -/
def healthy (s : State) : Nat := (List.range 18).countP (fun e => isActive s e || isSpare s e)

/-- With fewer than eight healthy engines left source 24 follows the engine's own. -/
theorem retireEngine_eq (s : State) (n : Nat) : retireEngine s n false
    = if healthy (retiredFaulted s n) < 8 then raiseFault (retiredFaulted s n) 24 3 else retiredFaulted s n := rfl

/-- A retirement ends with the engine's own fault, or with FATAL of source 24 after it. -/
theorem retireEngine_cases (s : State) (n : Nat) : retireEngine s n false = raiseFault (retiredFaulted s n) 24 3
    ∨ retireEngine s n false = retiredFaulted s n := by
  rw [retireEngine_eq]
  exact ite_eq_or_eq _ _ _

section
variable (s : State) (n : Nat)

theorem outOfService_active : (outOfService s n).reg BE.ACTIVE.ENG = clearBit (s.reg BE.ACTIVE.ENG) n % 2 ^ 18 := by
  unfold outOfService
  rw [reg_bump_ne _ _ _ (by decide), reg_setReg_ne _ _ _ _ (by decide), reg_setReg_ne _ _ _ _ (by decide)]
  exact reg_setReg_self _ _ _ (by decide)

theorem outOfService_spare : (outOfService s n).reg BE.SPARE.ENG = clearBit (s.reg BE.SPARE.ENG) n % 2 ^ 18 := by
  unfold outOfService
  rw [reg_bump_ne _ _ _ (by decide), reg_setReg_ne _ _ _ _ (by decide)]
  exact reg_setReg_self _ _ _ (by decide)

theorem outOfService_retired : (outOfService s n).reg BE.RETIRED.ENG = (s.reg BE.RETIRED.ENG ||| 2 ^ n) % 2 ^ 18 := by
  unfold outOfService
  rw [reg_bump_ne _ _ _ (by decide)]
  refine (reg_setReg_self _ BE.RETIRED.ENG _ (by decide)).trans ?_
  rw [reg_setReg_ne _ _ _ _ (by decide), reg_setReg_ne _ _ _ _ (by decide)]
  rfl

theorem outOfService_counted : Counted s (outOfService s n) BE.FAULT_COUNT.COUNT 1 := by
  refine (reg_bump_self _ _ (by decide)).trans ?_
  rw [reg_setReg_ne _ _ _ _ (by decide), reg_setReg_ne _ _ _ _ (by decide), reg_setReg_ne _ _ _ _ (by decide)]

/-- Taking an engine out of service raises nothing of itself. -/
theorem retiredShown_sourceKept (k : Nat) : SourceKept k s (retiredShown s n) := by
  have hk : Outside [BE.ACTIVE.ENG, BE.SPARE.ENG, BE.RETIRED.ENG, BE.FAULT_COUNT.COUNT] (fieldKey (FLT.COUNT.COUNT k)) := by
    have := Nat.mod_lt k (by decide : 0 < 96)
    simp [outside_cons, outside_nil, fieldKey, FLT.COUNT.COUNT, BE.ACTIVE.ENG, BE.SPARE.ENG, BE.RETIRED.ENG,
      BE.FAULT_COUNT.COUNT]
    omega
  simp only [outside_cons, outside_nil, and_true] at hk
  obtain ⟨hactive, hspare, hretired, hcount⟩ := hk
  refine sourceKept_of ?_ rfl
  simp [retiredShown, outOfService, hactive, hspare, hretired, hcount]

/-- The faults of a retirement change no engine register. -/
theorem reg_retiredFaulted {f : Field} (hf : Outside raiseFaultRegs (fieldKey f)) :
    (retiredFaulted s n).reg f = (outOfService s n).reg f :=
  (reg_eq_of_word (raiseFault_word hf _ _ _)).trans (reg_of_regs f rfl)

theorem reg_retireEngine {f : Field} (hf : Outside raiseFaultRegs (fieldKey f)) :
    (retireEngine s n false).reg f = (outOfService s n).reg f := by
  rcases retireEngine_cases s n with h | h
  · rw [h, ← reg_retiredFaulted s n hf]
    exact reg_eq_of_word (raiseFault_word hf _ 24 3)
  · rw [h, reg_retiredFaulted s n hf]

theorem engineRegs_outside : Outside raiseFaultRegs (fieldKey BE.ACTIVE.ENG) ∧ Outside raiseFaultRegs (fieldKey BE.SPARE.ENG)
    ∧ Outside raiseFaultRegs (fieldKey BE.RETIRED.ENG) ∧ Outside raiseFaultRegs (fieldKey BE.FAULT_COUNT.COUNT) :=
  ⟨outside_of (by decide +kernel), outside_of (by decide +kernel), outside_of (by decide +kernel),
    outside_of (by decide +kernel)⟩

end

/-- The engines in service are the ones before without the retired one. -/
theorem inService_of_regs {s t : State} {n e : Nat} (he : e < 18)
    (hactive : t.reg BE.ACTIVE.ENG = (outOfService s n).reg BE.ACTIVE.ENG)
    (hspare : t.reg BE.SPARE.ENG = (outOfService s n).reg BE.SPARE.ENG) :
    isActive t e = (isActive s e && e != n) ∧ isSpare t e = (isSpare s e && e != n) := by
  have hcut (m : Nat) : bit (clearBit m n % 2 ^ 18) e = (bit m e && e != n) := by
    rw [← bit_clearBit, bit, Nat.testBit_mod_two_pow]
    simp [he, bit]
  unfold isActive isSpare
  rw [hactive, hspare, outOfService_active, outOfService_spare, hcut, hcut]
  exact ⟨rfl, rfl⟩

theorem inService_retireEngine (s : State) (n : Nat) {e : Nat} (he : e < 18) :
    isActive (retireEngine s n false) e = (isActive s e && e != n)
    ∧ isSpare (retireEngine s n false) e = (isSpare s e && e != n) := by
  obtain ⟨hactive, hspare, -, -⟩ := engineRegs_outside
  exact inService_of_regs he (reg_retireEngine s n hactive) (reg_retireEngine s n hspare)

theorem healthy_retiredFaulted (s : State) (n : Nat) : healthy (retiredFaulted s n)
    = (List.range 18).countP (fun e => e != n && (isActive s e || isSpare s e)) := by
  obtain ⟨hactive, hspare, -, -⟩ := engineRegs_outside
  refine List.countP_congr fun e he => ?_
  obtain ⟨ha, hs⟩ := inService_of_regs (t := retiredFaulted s n) (List.mem_range.mp he) (reg_retiredFaulted s n hactive)
    (reg_retiredFaulted s n hspare)
  rw [ha, hs, ← Bool.and_or_distrib_right, Bool.and_comm]

/-- The counts of source 24 and of an engine's source are different fields. -/
theorem count24_key_ne {n : Nat} (hn : n < 18) : fieldKey (FLT.COUNT.COUNT 24) ≠ fieldKey (FLT.COUNT.COUNT (25 + n)) := by
  simp only [fieldKey, FLT.COUNT.COUNT]
  omega

theorem retiredFaulted_faulted (s : State) (n : Nat) : Faulted s (retiredFaulted s n) (25 + n) 2 :=
  faulted_before (retiredShown_sourceKept s n _) (raiseFault_faulted _ _ 2)

/-- The retirement of an engine (R216, R530). -/
theorem retireEngine_retired (s : State) {n : Nat} (hn : n < 18) : EngineRetired s (retireEngine s n false) n := by
  obtain ⟨-, -, hretired, hcount⟩ := engineRegs_outside
  obtain ⟨ha, hs⟩ := inService_retireEngine s n hn
  refine ⟨by simp [ha], by simp [hs], ?_, ?_, ?_, fun hfew => ?_⟩
  · rw [reg_retireEngine s n hretired, outOfService_retired, bit, Nat.testBit_mod_two_pow]
    simp [hn]
  · rw [Counted, reg_retireEngine s n hcount, outOfService_counted]
  · rcases retireEngine_cases s n with h | h
    · rw [h]
      exact faulted_after (retiredFaulted_faulted s n) (raiseFault_sourceKept (count24_key_ne hn) (by omega) _ 3)
    · rw [h]
      exact retiredFaulted_faulted s n
  · rw [retireEngine_eq, healthy_retiredFaulted, if_pos hfew]
    have hkept : SourceKept 24 s (retiredFaulted s n) := (retiredShown_sourceKept s n 24).trans
      (raiseFault_sourceKept (count24_key_ne hn).symm (by omega) _ 2)
    exact ⟨faulted_before hkept (raiseFault_faulted _ 24 3), raiseFault_fatal (by decide) _⟩

theorem raiseFault_loading (s : State) (src cls : Nat) : (raiseFault s src cls).scan.loading = s.scan.loading := by
  unfold raiseFault
  rcases fatalAtDetection_cases _ src cls with h | h
  · rw [h, raiseCause_scan]
    rfl
  · rw [h]
    rfl

theorem retireEngine_loading (s : State) (n : Nat) : (retireEngine s n false).scan.loading = s.scan.loading := by
  have hfaulted : (retiredFaulted s n).scan.loading = s.scan.loading := raiseFault_loading _ _ 2
  rcases retireEngine_cases s n with h | h
  · rw [h, raiseFault_loading, hfaulted]
  · rw [h, hfaulted]

/-- Of the engines' state a retirement changes the self-tests alone. -/
theorem retireEngine_eng (s : State) (n : Nat) :
    (retireEngine s n false).eng = { s.eng with testing := clearBit s.eng.testing n } := by
  have hfaulted : (retiredFaulted s n).eng = { s.eng with testing := clearBit s.eng.testing n } := by
    simp [retiredFaulted, retiredShown]
  rcases retireEngine_cases s n with h | h
  · rw [h]
    simpa using hfaulted
  · rw [h, hfaulted]

/-! ### What the loss of an active engine adds (R217) -/

/-- The frame aborted, the set and a Kiln build abandoned, and the dose of `bands` lost. -/
def lossShown (u : State) (bands : List Nat) : State :=
  let s1 := abandonBuild (abandonSet (abortFrame u))
  { s1 with eng := { s1.eng with
    lostBands := s1.eng.lostBands ||| bitsOf 16 (fun b => bands.contains b) } }.setFlag BE.STATUS.DOSE_LOST true

/-- A spare is asked for while one is left; otherwise the bands of engine `n` are shared (R217, R218). -/
def spareAsked (u : State) (n : Nat) : State :=
  if u.eng.orphans.length < (List.range 18).countP (isSpare u) then
    { u with eng := { u.eng with orphans := u.eng.orphans ++ [n] } }
  else shareBands u n

theorem faultEngine_of_active {s : State} {n : Nat} (h : isActive s n = true) :
    faultEngine s n false = spareAsked (lossShown (retireEngine s n false) (bandsOf s n)) n := if_pos h

/-- A faulted spare is only retired. -/
theorem faultEngine_of_spare {s : State} {n : Nat} (hactive : isActive s n = false) (hspare : isSpare s n = true) :
    faultEngine s n false = retireEngine s n false :=
  (if_neg (by simp [hactive])).trans (if_pos hspare)

theorem abortFrame_loading (u : State) : (abortFrame u).scan.loading = false := by
  unfold abortFrame
  split
  · rfl
  · next h => exact Bool.eq_false_of_not_eq_true h

/-- An abandoned set is latched again, unless a newer one is (R217). -/
theorem abandonSet_eng (u : State) : (abandonSet u).eng.running = none
    ∧ (u.eng.running ≠ none → (abandonSet u).eng.latched ≠ none)
    ∧ (abandonSet u).eng.lostBands = u.eng.lostBands ∧ (abandonSet u).eng.orphans = u.eng.orphans := by
  unfold abandonSet
  split
  · next h => exact ⟨h, fun hne => absurd h hne, rfl, rfl⟩
  · refine ⟨rfl, fun _ => ?_, rfl, rfl⟩
    dsimp only
    split
    · exact Option.some_ne_none _
    · exact Option.some_ne_none _

section
variable (u : State) (bands : List Nat)

theorem lossShown_keep : (lossShown u bands).scan = (abortFrame u).scan ∧ (lossShown u bands).stats = (abortFrame u).stats
    ∧ (lossShown u bands).flt = u.flt := by simp [lossShown]

/-- The running set is latched again, the orphans stay, and the bands of the lost engine are marked. -/
theorem lossShown_eng : (lossShown u bands).eng.running = none
    ∧ (u.eng.running ≠ none → (lossShown u bands).eng.latched ≠ none)
    ∧ (lossShown u bands).eng.orphans = u.eng.orphans
    ∧ ∀ b, b < 16 → b ∈ bands → bit (lossShown u bands).eng.lostBands b = true := by
  have heng : (lossShown u bands).eng = { (abandonSet (abortFrame u)).eng with
      lostBands := (abandonSet (abortFrame u)).eng.lostBands ||| bitsOf 16 (fun b => bands.contains b) } := by
    simp [lossShown]
  obtain ⟨hrun, hlatched, -, horphans⟩ := abandonSet_eng (abortFrame u)
  have hbefore : (abortFrame u).eng = u.eng := by simp
  rw [hbefore] at hlatched horphans
  rw [heng]
  refine ⟨hrun, hlatched, horphans, fun b hb hmem => ?_⟩
  have hmarked : bit (bitsOf 16 (fun b => bands.contains b)) b = true := by simp [bit_bitsOf, hb, hmem]
  rw [bit, Nat.testBit_or, ← bit, ← bit, hmarked, Bool.or_true]

theorem lossShown_doseLost : (lossShown u bands).flag BE.STATUS.DOSE_LOST = true :=
  flag_setFlag_self _ _ _ (by decide) (by decide)

theorem reg_lossShown {f : Field} (hf : Outside (abandonBuildRegs ++ [BE.STATUS.DOSE_LOST]) (fieldKey f)) :
    (lossShown u bands).reg f = u.reg f := by
  simp only [outside_append, outside_cons, outside_nil, and_true] at hf
  obtain ⟨hbuild, hdose⟩ := hf
  refine reg_eq_of_word ?_
  simp [lossShown, hbuild, hdose]

variable (n : Nat)

theorem reg_spareAsked {f : Field} (hf : Outside shareBandsRegs (fieldKey f)) : (spareAsked u n).reg f = u.reg f := by
  unfold spareAsked
  split
  · rfl
  · exact reg_eq_of_word (shareBands_word hf u n)

theorem spareAsked_keep : (spareAsked u n).scan = u.scan ∧ (spareAsked u n).stats = u.stats ∧ (spareAsked u n).flt = u.flt
    ∧ (spareAsked u n).eng = { u.eng with orphans := (spareAsked u n).eng.orphans } := by
  unfold spareAsked
  split
  · exact ⟨rfl, rfl, rfl, rfl⟩
  · simp

theorem spareAsked_orphans (h : u.eng.orphans.length < (List.range 18).countP (isSpare u)) :
    (spareAsked u n).eng.orphans = u.eng.orphans ++ [n] := by
  rw [spareAsked, if_pos h]

end

/-- A retirement stays one after changes that touch neither faults nor the registers it shows. -/
theorem engineRetired_after {s u t : State} {n : Nat} (h : EngineRetired s u n) (hflt : t.flt = u.flt)
    (hreg : ∀ f, f ∈ [BE.ACTIVE.ENG, BE.SPARE.ENG, BE.RETIRED.ENG, BE.FAULT_COUNT.COUNT, FLT.COUNT.COUNT (25 + n),
      FLT.COUNT.COUNT 24, SAFE.FB_CAUSE.FATAL] → t.reg f = u.reg f) : EngineRetired s t n := by
  simp only [List.forall_mem_cons, List.not_mem_nil, false_implies, implies_true, and_true] at hreg
  obtain ⟨hactive, hspare, hretired, hcount, hsource, hfatal, hcause⟩ := hreg
  unfold EngineRetired isActive isSpare Counted Faulted State.flag at h ⊢
  rwa [hflt, hactive, hspare, hretired, hcount, hsource, hfatal, hcause]

/-- The fields that the loss of an engine touches beside its retirement. -/
def lossRegs : List Field := abandonBuildRegs ++ [BE.STATUS.DOSE_LOST] ++ shareBandsRegs

theorem count_outside_loss (k : Nat) : Outside lossRegs (fieldKey (FLT.COUNT.COUNT k)) := by
  have hhigh : lossRegs.all (fun f => decide (0x40000 ≤ f.addr)) = true := by decide +kernel
  intro f hf
  have haddr := of_decide_eq_true (List.all_eq_true.mp hhigh f hf)
  have := Nat.mod_lt k (by decide : 0 < 96)
  simp only [fieldKey, FLT.COUNT.COUNT]
  omega

/-- The loss of an active engine: its retirement, and what R217 adds. -/
theorem faultEngine_lost {s : State} {n : Nat} (hn : n < 18) (h : isActive s n = true) : EngineLost s (faultEngine s n false) n := by
  rw [faultEngine_of_active h]
  have hretired := retireEngine_retired s hn
  have hload := retireEngine_loading s n
  have heng := retireEngine_eng s n
  have hstats : (retireEngine s n false).stats = s.stats := by simp
  have hspares (e : Nat) (he : e < 18) := (inService_retireEngine s n he).2
  generalize retireEngine s n false = u at hretired hload heng hstats hspares ⊢
  obtain ⟨hscan, hlstats, hflt⟩ := lossShown_keep u (bandsOf s n)
  obtain ⟨hrun, hlatched, horphans, hbands⟩ := lossShown_eng u (bandsOf s n)
  obtain ⟨hascan, hastats, haflt, haeng⟩ := spareAsked_keep (lossShown u (bandsOf s n)) n
  have hreg (f : Field) (hf : Outside lossRegs (fieldKey f)) : (spareAsked (lossShown u (bandsOf s n)) n).reg f = u.reg f := by
    rw [lossRegs, outside_append] at hf
    rw [reg_spareAsked _ _ hf.2, reg_lossShown _ _ hf.1]
  refine ⟨engineRetired_after hretired (haflt.trans hflt) ?_, ?_, fun hl => ?_, ?_, fun hne => ?_, fun b hb hown => ?_, ?_,
    fun hactive hfree => ?_⟩
  · simp only [List.forall_mem_cons, List.not_mem_nil, false_implies, implies_true, and_true]
    exact ⟨hreg _ (outside_of (by decide +kernel)), hreg _ (outside_of (by decide +kernel)),
      hreg _ (outside_of (by decide +kernel)), hreg _ (outside_of (by decide +kernel)), hreg _ (count_outside_loss _),
      hreg _ (count_outside_loss _), hreg _ (outside_of (by decide +kernel))⟩
  · rw [hascan, hscan, abortFrame_loading]
  · rw [hastats, hlstats, (abortFrame_of_loading (hload.trans hl)).2.2, hstats]
  · rw [haeng, hrun]
  · rw [haeng]
    exact hlatched (by rwa [heng])
  · rw [haeng]
    exact hbands b hb (List.mem_filter.mpr ⟨List.mem_range.mpr hb, beq_iff_eq.mpr hown⟩)
  · simp only [State.flag, reg_spareAsked _ n (outside_of (by decide +kernel) : Outside shareBandsRegs (fieldKey BE.STATUS.DOSE_LOST))]
    exact lossShown_doseLost u _
  · have hlen : (lossShown u (bandsOf s n)).eng.orphans = s.eng.orphans := by rw [horphans, heng]
    have hcountEq : (List.range 18).countP (isSpare (lossShown u (bandsOf s n))) = (List.range 18).countP (isSpare s) := by
      refine List.countP_congr fun e he => ?_
      have hsame : isSpare (lossShown u (bandsOf s n)) e = isSpare u e := by
        unfold isSpare
        rw [reg_lossShown _ _ (outside_of (by decide +kernel))]
      rw [hsame, hspares e (List.mem_range.mp he)]
      by_cases hen : e = n
      · simp [hen, hactive]
      · simp [hen]
    rw [spareAsked_orphans _ _ (by rw [hlen, hcountEq]; exact hfree), hlen]

/-- Engine `n` is past its self-test. -/
def tested (s : State) (n : Nat) : State := { s with eng := { s.eng with testing := clearBit s.eng.testing n } }

/-- Settles O25: every form ends in the loss of an active engine, in the retirement of a spare, or in a passed test. -/
theorem engineFaults : Obligations.EngineFaults := by
  unfold Obligations.EngineFaults
  refine ⟨fun s n k hn hen hactive => ?_, fun s n k hn hen hactive hspare => ?_, fun s b r hen hrun hcur hn hactive => ?_,
    fun s n hn htest => ?_, fun s n hn htest hactive hspare => ?_⟩
  · have hexec : exec (.engineFault n k) s = .next (faultEngine s n false) := congrArg Host.Outcome.next (if_pos ⟨hn, hen⟩)
    exact completes_of hexec (faultEngine_lost hn hactive)
  · have hexec : exec (.engineFault n k) s = .next (retireEngine s n false) := by
      rw [← faultEngine_of_spare hactive hspare]
      exact congrArg Host.Outcome.next (if_pos ⟨hn, hen⟩)
    exact completes_of hexec ⟨retireEngine_retired s hn, by rw [retireEngine_eng], retireEngine_loading s n⟩
  · have hexec : exec (.bandTimeout b) s = .next (faultEngine s (s.reg (BE.BAND_MAP.ENGINE b)) false) := by
      change execBandTimeout b s = _
      unfold execBandTimeout
      rw [hrun]
      exact congrArg Host.Outcome.next (if_pos ⟨hen, hcur⟩)
    exact completes_of hexec (faultEngine_lost hn hactive)
  · have hexec : exec (.selfTestComplete n true) s = .next (tested s n) := if_pos ⟨hn, htest⟩
    exact completes_of hexec ⟨by simp [tested, bit_clearBit], rfl⟩
  · have hexec : exec (.selfTestComplete n false) s = .next (retireEngine (tested s n) n false) := by
      rw [← faultEngine_of_spare (s := tested s n) hactive hspare]
      exact if_pos ⟨hn, htest⟩
    have hretired : EngineRetired s (retireEngine (tested s n) n false) n := retireEngine_retired (tested s n) hn
    exact completes_of hexec ⟨hretired, by simp [retireEngine_eng, bit_clearBit]⟩

end Sys2Proof.Machine.EngineLoss
end

section
/-! PROOF. KernelMail: render sets, pattern and symbol tables and the lens memory by mailbox (12_mailbox_command_set.md,
06_beam_engines_and_kernels.md). -/

namespace Sys2Proof.Machine.KernelMail

open EngineBands (told_of_raiseEvent)

/-! ### Fields of a response (R417) -/

theorem ofLe_lt (l : List Byte) : ofLe l < 256 ^ l.length := by
  induction l with
  | nil => simp [ofLe]
  | cons b l ih =>
    have hb : b.toNat < 256 := b.isLt
    rw [ofLe, List.length_cons, Nat.pow_succ]
    omega

theorem leAt_lt (l : List Byte) (o n : Nat) : leAt l o n < 256 ^ n := by
  simpa [leAt] using ofLe_lt (bytesAt l o n)

theorem leAt_one (l : List Byte) (o : Nat) : leAt l o 1 = (l.getD o 0).toNat := by
  simp [leAt, bytesAt, ofLe]

/-- A part between two others reads back. -/
theorem bytesAt_middle (pre m post : List Byte) : bytesAt (pre ++ (m ++ post)) pre.length m.length = m := by
  rw [← List.append_assoc, bytesAt_append _ _ _ _ (by simp), bytesAt_after _ _ _ rfl]

/-- A number between two parts reads back, cut to its length. -/
theorem leAt_middle (pre post : List Byte) (k v : Nat) : leAt (pre ++ (toLe k v ++ post)) pre.length k = v % 256 ^ k := by
  have hbytes := bytesAt_middle pre (toLe k v) post
  rw [length_toLe] at hbytes
  rw [leAt, hbytes, ofLe_toLe]

/-- What the area of a response shows of its body. -/
theorem rspBody_fields (op tag status flags : Nat) (data l : List Byte) (hd : data.length ≤ 248) (b : List Byte)
    (hb : b = padTo 256 (rspBody op tag status flags data ++ l)) :
    leAt b 0 2 = op % 256 ^ 2 ∧ leAt b 2 1 = tag % 256 ^ 1 ∧ leAt b 3 1 = status % 256 ^ 1
      ∧ leAt b 4 2 = data.length % 256 ^ 2 ∧ leAt b 6 2 = flags % 256 ^ 2 ∧ bytesAt b 8 data.length = data := by
  have hbody : rspBody op tag status flags data ++ l = toLe 2 op ++ (toLe 1 tag ++ (toLe 1 status
      ++ (toLe 2 data.length ++ (toLe 2 flags ++ (data ++ l))))) := by simp only [rspBody, List.append_assoc]
  rw [hb, leAt_padTo _ _ _ _ (by omega), leAt_padTo _ _ _ _ (by omega), leAt_padTo _ _ _ _ (by omega),
    leAt_padTo _ _ _ _ (by omega), leAt_padTo _ _ _ _ (by omega), bytesAt_padTo _ _ _ _ (by omega), hbody]
  refine ⟨leAt_middle [] _ 2 op, leAt_middle (toLe 2 op) _ 1 tag, ?_, ?_, ?_, ?_⟩
  · simpa using leAt_middle (toLe 2 op ++ toLe 1 tag) (toLe 2 data.length ++ (toLe 2 flags ++ (data ++ l))) 1 status
  · simpa using leAt_middle (toLe 2 op ++ toLe 1 tag ++ toLe 1 status) (toLe 2 flags ++ (data ++ l)) 2 data.length
  · simpa using leAt_middle (toLe 2 op ++ toLe 1 tag ++ toLe 1 status ++ toLe 2 data.length) (data ++ l) 2 flags
  · simpa using bytesAt_middle (toLe 2 op ++ toLe 1 tag ++ toLe 1 status ++ toLe 2 data.length ++ toLe 2 flags) data l

/-! ### Responses with flags (R414, R417) -/

/-- The flags of a response: its own and TRAILER where a session authenticated the request. -/
def rspFlags (m : Mb) (flags : Nat) : Nat := flags + 2 * b2n m.auth.isSome

section
variable (s : State) (n flags : Nat) {status : Nat} {data : List Byte} (hdata : status = 0 ∨ status = 0x10 ∨ data = [])
include hdata

/-- A response fills its own mailbox and leaves the others as they are. -/
theorem respondWith_boxes : ∃ l, (respondWith flags s n status data).mbx.boxes = s.mbx.boxes.set n { s.mb n with
    rsp := padTo 256 (rspBody (reqOp (s.mb n).req) (reqTag (s.mb n).req) status (rspFlags (s.mb n) flags) data ++ l)
    phase := .done } := by
  have hsent : (if status = 0 ∨ status = 0x10 then data else []) = data := by
    rcases hdata with h | h | h <;> simp [h]
  obtain ⟨l, hl⟩ := withTrailer_prefix (s.mb n).auth (s.mb n).req
    (rspBody (reqOp (s.mb n).req) (reqTag (s.mb n).req) status (rspFlags (s.mb n) flags) data)
  refine ⟨l, ?_⟩
  rw [← hl]
  unfold respondWith
  rw [(tellOwner_boxes _ _ _ _).1]
  dsimp only
  rw [hsent]
  rfl

/-- A response as its mailbox shows it: what the statements ask of an answer, and its flags. -/
theorem respondWith_answered (hn : n < s.mbx.boxes.length) (hd : data.length ≤ 248) (hs : status < 256) :
    Answered s (respondWith flags s n status data) n status data
    ∧ leAt ((respondWith flags s n status data).mb n).rsp 6 2 = rspFlags (s.mb n) flags % 256 ^ 2 := by
  obtain ⟨l, hboxes⟩ := respondWith_boxes s n flags hdata
  have hacc : (respondWith flags s n status data).mbx.accepted = s.mbx.accepted.filter (· != n) := by
    unfold respondWith
    rw [(tellOwner_boxes _ _ _ _).2]
    rfl
  have hbox : (respondWith flags s n status data).mb n = { s.mb n with
      rsp := padTo 256 (rspBody (reqOp (s.mb n).req) (reqTag (s.mb n).req) status (rspFlags (s.mb n) flags) data ++ l)
      phase := .done } := by
    unfold State.mb
    rw [hboxes, List.getD_eq_getElem?_getD, List.getElem?_set_self hn]
    rfl
  obtain ⟨hop, htag, hstatus, hlen, hflags, hbytes⟩ :=
    rspBody_fields (reqOp (s.mb n).req) (reqTag (s.mb n).req) status (rspFlags (s.mb n) flags) data l hd _ rfl
  unfold Answered
  rw [hbox, hacc]
  refine ⟨⟨rfl, by simp, hop.trans ?_, htag.trans ?_, hstatus.trans ?_, hlen.trans ?_, hbytes, fun k hk => ?_⟩, hflags⟩
  · exact Nat.mod_eq_of_lt (leAt_lt _ 0 2)
  · exact Nat.mod_eq_of_lt (leAt_lt _ 2 1)
  · exact Nat.mod_eq_of_lt (by omega)
  · exact Nat.mod_eq_of_lt (by omega)
  · unfold State.mb
    rw [hboxes, List.getD_eq_getElem?_getD, List.getElem?_set_ne (Ne.symm hk), ← List.getD_eq_getElem?_getD]

end

/-- The other waiting events stay when the owner is told of a response. -/
theorem respond_jorosh (s : State) (n status : Nat) (data : List Byte) :
    ∃ l, (respond s n status data).flt.jorosh = s.flt.jorosh ++ l := by
  have htold (u : State) (rsp : List Byte) (hu : u.flt = s.flt) :
      ∃ l, (tellOwner u n status rsp).flt.jorosh = s.flt.jorosh ++ l := by
    unfold tellOwner
    dsimp only
    split
    · exact ⟨_, congrArg (fun f => f.jorosh ++ _) hu⟩
    · split
      · exact ⟨[], by simp [hu]⟩
      · exact ⟨[], by simp [hu]⟩
    · exact ⟨[], by simp [hu]⟩
  exact htold _ _ rfl

/-! ### Commands that a mailbox runs (R416) -/

section
variable {s : State} {mb op : Nat} {p : List Byte}

theorem command_of_runs (h : Runs s mb op p) (f : State → List Byte → State) : command s mb op f = f s p := by
  obtain ⟨hup, hmb, hphase, hop, hp⟩ := h
  have hruns : runs s mb op = true := by simp [runs, hup, hmb, hphase, hop]
  rw [command_eq, if_pos hruns, ← hp]
  rfl

/-- A command that changed no mailbox before it responded has answered its request. -/
theorem answered_of_runs (hm : MailOk s) (h : Runs s mb op p) (u : State) (hu : u.mbx = s.mbx) (flags : Nat) {status : Nat}
    {data : List Byte} (hdata : status = 0 ∨ status = 0x10 ∨ data = []) (hd : data.length ≤ 248) (hs : status < 256) :
    Answered s (respondWith flags u mb status data) mb status data
    ∧ leAt ((respondWith flags u mb status data).mb mb).rsp 6 2 = rspFlags (s.mb mb) flags % 256 ^ 2 := by
  obtain ⟨-, hmb, -⟩ := h
  have hn : mb < u.mbx.boxes.length := by rw [hu, hm.1]; exact hmb
  have hboxes (k : Nat) : u.mb k = s.mb k := by unfold State.mb; rw [hu]
  have hans := respondWith_answered u mb flags hdata hn hd hs
  unfold Answered at hans ⊢
  simpa only [hboxes] using hans

/-- An error answer carries no data. -/
theorem refused_of_runs (hm : MailOk s) (h : Runs s mb op p) (u : State) (hu : u.mbx = s.mbx) {status : Nat} (hs : status < 256) :
    Answered s (respond u mb status []) mb status [] :=
  (answered_of_runs hm h u hu 0 (.inr (.inr rfl)) (by simp) hs).1

/-- A command done answers its data. -/
theorem ok_of_runs (hm : MailOk s) (h : Runs s mb op p) (u : State) (hu : u.mbx = s.mbx) {data : List Byte}
    (hd : data.length ≤ 248) : Answered s (respond u mb 0 data) mb 0 data :=
  (answered_of_runs hm h u hu 0 (.inl rfl) hd (by omega)).1

end

/-! ### Render sets (R202, R425) -/

/-- The pending set replaced. -/
def withBuilding (s : State) (l : List (List Byte)) : State := { s with eng := { s.eng with building := l } }

section
variable (mb : Nat) {s : State} {b : List Byte} (hlen : 32 ≤ b.length ∧ b.length ≤ 224 ∧ blkNeeds b ≤ b.length)
include hlen

theorem rsetEntry_of_bad (hbad : (blkHeaderOk b && blkParamsOk b) = false ∨ blkTouchesTop s b = true) :
    rsetEntry mb s b = respond s mb 4 [] := (if_pos (decide_eq_true hlen)).trans (if_pos hbad)

variable (hgood : ¬ ((blkHeaderOk b && blkParamsOk b) = false ∨ blkTouchesTop s b = true))
include hgood

/-- A block for a SLOT of the pending set replaces the entry of that slot. -/
theorem rsetEntry_of_replaced {i : Nat} (hi : replacedEntry s b = some i) : rsetEntry mb s b
    = respondWith (b2n (namesStale s b)) (withBuilding s (s.eng.building.set i b)) mb 0 (toLe 1 i) := by
  refine (if_pos (decide_eq_true hlen)).trans ((if_neg hgood).trans ?_)
  rw [hi]
  rfl

/-- Any other block becomes the last entry, while there is room. -/
theorem rsetEntry_of_new (hnone : replacedEntry s b = none) : rsetEntry mb s b
    = if 16 ≤ s.eng.building.length then respond s mb 8 []
      else respondWith (b2n (namesStale s b)) (withBuilding s (s.eng.building ++ [b])) mb 0
        (toLe 1 s.eng.building.length) := by
  refine (if_pos (decide_eq_true hlen)).trans ((if_neg hgood).trans ?_)
  rw [hnone]
  rfl

end

theorem rsetDelete_eq (mb : Nat) (s : State) {p : List Byte} (hp : p.length = 1) (hn : leAt p 0 1 ≤ 6 ∨ leAt p 0 1 = 0xFF) :
    rsetDelete mb s p = respond (withBuilding s (s.eng.building.filter
        (fun b => !(leAt p 0 1 == 0xFF || blkSlot b == leAt p 0 1)))) mb 0
      (toLe 1 (s.eng.building.length - (s.eng.building.filter
        (fun b => !(leAt p 0 1 == 0xFF || blkSlot b == leAt p 0 1))).length)) :=
  (if_pos (beq_iff_eq.mpr hp)).trans (if_neg (by omega))

/-- The pending set submitted, and the next one begun from its REPEAT entries. -/
def submitted (s : State) : State :=
  { s with eng := { s.eng with
    submitted := some s.eng.building, building := s.eng.building.filter (fun b => blkFlag b 1) } }

theorem rsetSubmit_eq (mb : Nat) (s : State) : rsetSubmit mb s []
    = if s.flag BE.CTRL.EN then respond (submitted s) mb 0 (toLe 4 (nextFrameNum s) ++ toLe 1 s.eng.building.length)
      else respond s mb 7 [] := rfl

theorem nextFrameNum_eq (s : State) : nextFrameNum s
    = (if s.scan.running then s.reg SCAN.FRAME_NUM.FRAME_NUM + 1 else 1) % 2 ^ 32 := by
  unfold nextFrameNum
  split
  · rfl
  · rfl

/-! ### Pattern tables (R205, R207) -/

/-- Bytes put into a pattern's table read back, and the rest of the table stays. -/
theorem sparseGet_putPattern (n : Nat) (l : List Byte) (m : Sparse Nat) (o j : Nat) :
    sparseGet 0 (putPattern m n o l) (n * 262144 + j)
      = if o ≤ j ∧ j < o + l.length then (l.getD (j - o) 0).toNat else sparseGet 0 m (n * 262144 + j) := by
  induction l generalizing m o with
  | nil => simp [putPattern]
  | cons b l ih =>
    rw [putPattern, ih, List.length_cons]
    by_cases hj : j = o
    · subst hj
      simp
    · rw [sparseGet_set_ne _ _ _ _ _ (by omega)]
      by_cases hin : o + 1 ≤ j ∧ j < o + 1 + l.length
      · rw [if_pos hin, if_pos (by omega), (by omega : j - o = (j - (o + 1)) + 1), List.getD_cons_succ]
      · rw [if_neg hin, if_neg (by omega)]

theorem getD_bytesAt (l : List Byte) {o n i : Nat} (hi : i < n) : (bytesAt l o n).getD i 0 = l.getD (o + i) 0 := by
  simp [bytesAt, hi]

/-- The bytes `o` to `o + c - 1` of pattern `n` taken from a request, with the generation due after the last of them. -/
def patternPut (s : State) (n o c : Nat) (last : Bool) (p : List Byte) : State :=
  { s with eng := { s.eng with
    patNext := putPattern s.eng.patNext n o (bytesAt p 12 c)
    patOpen := if last then s.eng.patOpen.filter (· != n) else n :: s.eng.patOpen.filter (· != n)
    patDue := if last then n :: s.eng.patDue.filter (· != n) else s.eng.patDue.filter (· != n) } }

section
variable (s : State) (n o c : Nat) (last : Bool) (p : List Byte)

theorem patternPut_patNext (j : Nat) : sparseGet 0 (patternPut s n o c last p).eng.patNext (n * 262144 + j)
    = if o ≤ j ∧ j < o + c then leAt p (12 + (j - o)) 1 else sparseGet 0 s.eng.patNext (n * 262144 + j) := by
  have hput := sparseGet_putPattern n (bytesAt p 12 c) s.eng.patNext o j
  rw [length_bytesAt] at hput
  refine hput.trans ?_
  split
  · rw [getD_bytesAt p (by omega), leAt_one]
  · rfl

theorem patternPut_due : (last = true → n ∈ (patternPut s n o c last p).eng.patDue ∧ n ∉ (patternPut s n o c last p).eng.patOpen)
    ∧ (last = false → n ∉ (patternPut s n o c last p).eng.patDue ∧ n ∈ (patternPut s n o c last p).eng.patOpen)
    ∧ ∀ k, k ≠ n → (k ∈ (patternPut s n o c last p).eng.patDue ↔ k ∈ s.eng.patDue)
      ∧ (k ∈ (patternPut s n o c last p).eng.patOpen ↔ k ∈ s.eng.patOpen) := by
  refine ⟨fun h => ?_, fun h => ?_, fun k hk => ?_⟩
  · simp [patternPut, h]
  · simp [patternPut, h]
  · cases last <;> simp [patternPut, hk]

end

theorem patternLoad_eq (mb : Nat) (s : State) {p : List Byte} (hlen : p.length = 12 + leAt p 8 2) (hn : leAt p 0 1 ≤ 4)
    (hlo : 2 ≤ leAt p 8 2) (hhi : leAt p 8 2 ≤ 236) (heven : leAt p 8 2 % 2 = 0) (hend : leAt p 4 4 + leAt p 8 2 ≤ 132098) :
    patternLoad mb s p = if s.flag DDRC.STATUS.READY then
      respond (patternPut (dramExit s) (leAt p 0 1) (leAt p 4 4) (leAt p 8 2) (leAt p 1 1 == 1) p) mb 0
        (toLe 1 (((dramExit s).eng.patGen.getD (leAt p 0 1) 0 + 1) % 256)) else respond s mb 7 [] :=
  (if_pos (beq_iff_eq.mpr hlen)).trans (if_neg (by omega))

/-! ### The symbol library (R215) -/

theorem flashByte_of_flash {s t : State} (h : t.flash = s.flash) (a : Nat) : t.flashByte a = s.flashByte a := by
  unfold State.flashByte
  rw [h]

theorem flashBytes_of_flash {s t : State} (h : t.flash = s.flash) (a n : Nat) : t.flashBytes a n = s.flashBytes a n :=
  List.map_congr_left fun _ _ => flashByte_of_flash h _

/-- The library is found and judged by the flash alone. -/
theorem library_of_flash {s t : State} (h : t.flash = s.flash) (d k a : Nat) :
    directory t = directory s ∧ dirEntry t d k = dirEntry s d k ∧ symlibOk t a = symlibOk s a := by
  have hdir (x : Nat) : dirOk t x = dirOk s x := by simp only [dirOk, flashBytes_of_flash h]
  refine ⟨?_, ?_, ?_⟩
  · rw [directory, hdir, hdir]
    rfl
  · simp only [dirEntry, flashBytes_of_flash h]
  · simp only [symlibOk, flashBytes_of_flash h, flashByte_of_flash h]

/-- A library of `g` glyphs and `z` bytes is due. -/
def libraryDue (s : State) (g z : Nat) : State := { s with eng := { s.eng with symDue := some (g, z) } }

theorem symlibLoad_eq (mb : Nat) {s : State} {d : Nat} (hready : s.flag DDRC.STATUS.READY = true) (hdir : directory s = some d) :
    symlibLoad mb s [] =
      if symlibOk s (dirEntry s d 2).1 then
        respond (libraryDue (dramExit s) (leAt (s.flashBytes ((dirEntry s d 2).1 + 6) 2) 0 2)
            (leAt (s.flashBytes ((dirEntry s d 2).1 + 0xC) 4) 0 4)) mb 0
          (toLe 1 ((s.eng.symGen + 1) % 256) ++ [0] ++ toLe 2 (leAt (s.flashBytes ((dirEntry s d 2).1 + 6) 2) 0 2)
            ++ toLe 4 (leAt (s.flashBytes ((dirEntry s d 2).1 + 0xC) 4) 0 4))
      else respond (dramExit s) mb 0x0D [] := by
  have hflash : (dramExit s).flash = s.flash := by simp
  have heng : (dramExit s).eng = s.eng := by simp
  obtain ⟨hdirs, hentry, hok⟩ := library_of_flash hflash d 2 (dirEntry s d 2).1
  have hempty : (([] : List Byte).length == 0) = true := rfl
  unfold symlibLoad
  rw [needLen_eq, if_pos hempty, needDram_eq, if_pos hready]
  dsimp only
  rw [hdirs, hdir]
  dsimp only
  rw [hentry, hok, heng, flashBytes_of_flash hflash, flashBytes_of_flash hflash]
  rfl

/-! ### The lens memory (R212, R397) -/

/-- The engines' optics after the lens memory gave `lens`. -/
def lensEng (s : State) (lens : Option (List Byte)) : Eng :=
  if lens.any lensValid then
    { s.eng with lensP := some ((List.range 9).map (warpH (lens.getD []) 0x20)),
                 lensKt := if bit (leAt (lens.getD []) 6 2) 0 then sext 16 (leAt (lens.getD []) 0x44 2) else 0 }
  else { s.eng with lensP := none, lensKt := 0 }

/-- The source of the model and the shadow engine's map after the lens memory gave `lens`. -/
def lensMapped (s : State) (lens : Option (List Byte)) : State :=
  writeShadowMap ({ s with eng := lensEng s lens }.setFlag BE.OPTICS.SOURCE (lens.any lensValid))

/-- The model with its residual shown. -/
def lensShown (s : State) (lens : Option (List Byte)) : State :=
  (lensMapped s lens).setReg BE.OPTICS.RESID (min 255 (worstResidual (lensMapped s lens)))

theorem applyLens_eq (s : State) (lens : Option (List Byte)) : applyLens s lens
    = if lens.any lensValid then lensShown s lens
      else raiseEvent (lensShown s lens) 0x0102 (toLe 1 (b2n lens.isSome)) := by
  cases lens with
  | none => rfl
  | some b => rfl

section
variable (s : State) (lens : Option (List Byte))

theorem lensShown_eng : (lensShown s lens).eng = lensEng s lens := by simp [lensShown, lensMapped]

theorem lensShown_source : (lensShown s lens).reg BE.OPTICS.SOURCE = b2n (lens.any lensValid) := by
  have hmap : (lensMapped s lens).reg BE.OPTICS.SOURCE
      = ({ s with eng := lensEng s lens }.setFlag BE.OPTICS.SOURCE (lens.any lensValid)).reg BE.OPTICS.SOURCE :=
    reg_eq_of_word (writeShadowMap_word (outside_of (by decide)) _)
  unfold lensShown
  rw [reg_setReg_ne _ _ _ _ (by decide), hmap, reg_setFlag_self _ _ _ (by decide) (by decide)]

theorem lensShown_resid_lt : (lensShown s lens).reg BE.OPTICS.RESID < 256 := by
  unfold lensShown
  rw [reg_setReg_self _ _ _ (by decide)]
  exact Nat.mod_lt _ (by decide)

/-- The event of an unread or invalid record changes neither the registers nor the optics. -/
theorem applyLens_shown : (applyLens s lens).regs = (lensShown s lens).regs ∧ (applyLens s lens).eng = (lensShown s lens).eng := by
  rw [applyLens_eq]
  split
  · exact ⟨rfl, rfl⟩
  · simp

theorem applyLens_source : (applyLens s lens).reg BE.OPTICS.SOURCE = b2n (lens.any lensValid) :=
  (reg_of_regs _ (applyLens_shown s lens).1).trans (lensShown_source s lens)

theorem applyLens_sourceFlag : (applyLens s lens).flag BE.OPTICS.SOURCE = lens.any lensValid := by
  rw [State.flag, applyLens_source]
  cases lens.any lensValid <;> rfl

/-- A valid record gives the model. -/
theorem applyLens_of_valid (h : lens.any lensValid = true) :
    (applyLens s lens).eng.lensP = some ((List.range 9).map (warpH (lens.getD []) 0x20)) := by
  rw [(applyLens_shown s lens).2, lensShown_eng, lensEng, if_pos h]

/-- Without a valid record the model is the default one, and the event tells whether a record was read. -/
theorem applyLens_of_invalid (h : lens.any lensValid = false) : (applyLens s lens).eng.lensP = none
    ∧ eventOf s 0x0102 (toLe 1 (b2n lens.isSome)) ∈ (applyLens s lens).flt.jorosh := by
  refine ⟨?_, ?_⟩
  · rw [(applyLens_shown s lens).2, lensShown_eng, lensEng, if_neg (by simp [h])]
  · have hnode : (lensShown s lens).reg TXLA.NODE.ADDR = s.reg TXLA.NODE.ADDR := by
      refine (reg_setReg_ne _ _ _ _ (by decide)).trans (reg_eq_of_word ?_)
      exact (writeShadowMap_word (outside_of (by decide)) _).trans (setFlag_word _ _ _ (by decide))
    have htold : Told s (raiseEvent (lensShown s lens) 0x0102 (toLe 1 (b2n lens.isSome))) _ :=
      told_of_raiseEvent hnode (by simp [lensShown, lensMapped]) (by simp [lensShown, lensMapped]) _ _
    rw [applyLens_eq, if_neg (by simp [h]), htold]
    exact List.mem_append_right _ List.mem_cons_self

/-- The data of LENS_READ: source, residual, temperature coefficient and the record's model and serial (R425). -/
theorem lensData_fields {u : State} (hsource : u.reg BE.OPTICS.SOURCE < 256) (hresid : u.reg BE.OPTICS.RESID < 256) :
    (lensData u lens).length = 28 ∧ leAt (lensData u lens) 0 1 = u.reg BE.OPTICS.SOURCE
    ∧ leAt (lensData u lens) 1 1 = u.reg BE.OPTICS.RESID
    ∧ leAt (lensData u lens) 2 2 = toBits 16 u.eng.lensKt % 256 ^ 2
    ∧ (u.flag BE.OPTICS.SOURCE = true → bytesAt (lensData u lens) 4 24 = bytesAt (lens.getD []) 8 24) := by
  obtain ⟨id, hid, hlen, hsame⟩ : ∃ id : List Byte, lensData u lens
        = toLe 1 (u.reg BE.OPTICS.SOURCE) ++ toLe 1 (u.reg BE.OPTICS.RESID) ++ toLe 2 (toBits 16 u.eng.lensKt) ++ id
      ∧ id.length = 24 ∧ (u.flag BE.OPTICS.SOURCE = true → id = bytesAt (lens.getD []) 8 24) := by
    refine ⟨_, rfl, ?_, fun h => if_pos h⟩
    split
    · simp
    · simp
  have hsplit : lensData u lens = toLe 1 (u.reg BE.OPTICS.SOURCE) ++ (toLe 1 (u.reg BE.OPTICS.RESID)
      ++ (toLe 2 (toBits 16 u.eng.lensKt) ++ id)) := by simp only [hid, List.append_assoc]
  have hkt := leAt_middle (toLe 1 (u.reg BE.OPTICS.SOURCE) ++ toLe 1 (u.reg BE.OPTICS.RESID)) id 2 (toBits 16 u.eng.lensKt)
  have hrecord := bytesAt_after (toLe 1 (u.reg BE.OPTICS.SOURCE) ++ toLe 1 (u.reg BE.OPTICS.RESID)
    ++ toLe 2 (toBits 16 u.eng.lensKt)) id 24 hlen.symm
  rw [← List.append_assoc, ← hid] at hkt
  rw [← hid] at hrecord
  refine ⟨by simp [hid, hlen], ?_, ?_, hkt, fun h => hrecord.trans (hsame h)⟩
  · rw [hsplit]
    exact (leAt_middle [] _ 1 _).trans (Nat.mod_eq_of_lt hsource)
  · rw [hsplit]
    exact (leAt_middle (toLe 1 _) _ 1 _).trans (Nat.mod_eq_of_lt hresid)

end

theorem sext16_mod (v : Nat) : sext 16 (v % 256 ^ 2) = sext 16 v := by
  simp [sext]

/-! ### The statement -/

theorem rspFlags_odd (m : Mb) (x : Bool) : rspFlags m (b2n x) % 256 ^ 2 % 2 = b2n x := by
  have hx : b2n x < 2 := by cases x <;> decide
  unfold rspFlags
  omega

/-- RSET_ENTRY refuses a bad block, replaces the entry of a slot, or adds one while there is room. -/
theorem rsetEntry_effects {s : State} {mb : Nat} {b : List Byte} (hm : MailOk s) (hr : Runs s mb 0x0501 b)
    (hlen : 32 ≤ b.length ∧ b.length ≤ 224 ∧ blkNeeds b ≤ b.length) :
    (blkHeaderOk b = false ∨ blkParamsOk b = false ∨ blkTouchesTop s b = true →
      Answered s (rsetEntry mb s b) mb 4 [] ∧ (rsetEntry mb s b).eng.building = s.eng.building)
    ∧ (blkHeaderOk b = true → blkParamsOk b = true → blkTouchesTop s b = false →
      (∀ i, replacedEntry s b = some i → Answered s (rsetEntry mb s b) mb 0 (toLe 1 i)
        ∧ (rsetEntry mb s b).eng.building = s.eng.building.set i b)
      ∧ (replacedEntry s b = none → s.eng.building.length < 16 →
        Answered s (rsetEntry mb s b) mb 0 (toLe 1 s.eng.building.length)
        ∧ (rsetEntry mb s b).eng.building = s.eng.building ++ [b]
        ∧ leAt ((rsetEntry mb s b).mb mb).rsp 6 2 % 2 = b2n (namesStale s b))
      ∧ (replacedEntry s b = none → 16 ≤ s.eng.building.length →
        Answered s (rsetEntry mb s b) mb 8 [] ∧ (rsetEntry mb s b).eng.building = s.eng.building)) := by
  refine ⟨fun hbad => ?_, fun hhead hpar htop => ?_⟩
  · have hbad' : (blkHeaderOk b && blkParamsOk b) = false ∨ blkTouchesTop s b = true := by
      rcases hbad with h | h | h <;> simp [h]
    rw [rsetEntry_of_bad mb hlen hbad']
    exact ⟨refused_of_runs hm hr _ rfl (by decide), by simp⟩
  · have hgood : ¬ ((blkHeaderOk b && blkParamsOk b) = false ∨ blkTouchesTop s b = true) := by simp [hhead, hpar, htop]
    refine ⟨fun i hi => ?_, fun hnone hroom => ?_, fun hnone hfull => ?_⟩
    · rw [rsetEntry_of_replaced mb hlen hgood hi]
      obtain ⟨hans, -⟩ := answered_of_runs hm hr (withBuilding s (s.eng.building.set i b)) rfl
        (b2n (namesStale s b)) (data := toLe 1 i) (.inl rfl) (by simp) (by decide)
      exact ⟨hans, by simp [withBuilding]⟩
    · rw [rsetEntry_of_new mb hlen hgood hnone, if_neg (by omega)]
      obtain ⟨hans, hflags⟩ := answered_of_runs hm hr (withBuilding s (s.eng.building ++ [b])) rfl
        (b2n (namesStale s b)) (data := toLe 1 s.eng.building.length) (.inl rfl) (by simp) (by decide)
      exact ⟨hans, by simp [withBuilding], by rw [hflags, rspFlags_odd]⟩
    · rw [rsetEntry_of_new mb hlen hgood hnone, if_pos hfull]
      exact ⟨refused_of_runs hm hr _ rfl (by decide), by simp⟩

/-- RSET_DELETE removes the entries of a slot, or all, and tells how many. -/
theorem rsetDelete_effects {s : State} {mb : Nat} {p : List Byte} (hm : MailOk s) (hr : Runs s mb 0x0502 p) (hp : p.length = 1)
    (hn : leAt p 0 1 ≤ 6 ∨ leAt p 0 1 = 0xFF) :
    (rsetDelete mb s p).eng.building
      = s.eng.building.filter (fun b => decide (leAt p 0 1 ≠ 0xFF ∧ blkSlot b ≠ leAt p 0 1))
    ∧ Answered s (rsetDelete mb s p) mb 0 (toLe 1 (s.eng.building.length - (rsetDelete mb s p).eng.building.length)) := by
  have hkept : s.eng.building.filter (fun b => !(leAt p 0 1 == 0xFF || blkSlot b == leAt p 0 1))
      = s.eng.building.filter (fun b => decide (leAt p 0 1 ≠ 0xFF ∧ blkSlot b ≠ leAt p 0 1)) :=
    List.filter_congr fun b _ => by simp [beq_eq_decide]
  have hbuilding : (rsetDelete mb s p).eng.building
      = s.eng.building.filter (fun b => decide (leAt p 0 1 ≠ 0xFF ∧ blkSlot b ≠ leAt p 0 1)) := by
    rw [rsetDelete_eq mb s hp hn, ← hkept]
    simp [withBuilding]
  refine ⟨hbuilding, ?_⟩
  rw [hbuilding, rsetDelete_eq mb s hp hn, hkept]
  refine ok_of_runs hm hr _ ?_ ?_
  · rfl
  · simp

/-- RSET_SUBMIT hands the pending set on, or answers STATE while the engines are off. -/
theorem rsetSubmit_effects {s : State} {mb : Nat} (hm : MailOk s) (hr : Runs s mb 0x0503 []) :
    (s.flag BE.CTRL.EN = true → (rsetSubmit mb s []).eng.submitted = some s.eng.building
      ∧ (rsetSubmit mb s []).eng.building = s.eng.building.filter (fun b => blkFlag b 1)
      ∧ Answered s (rsetSubmit mb s []) mb 0 (toLe 4 (nextFrameNum s) ++ toLe 1 s.eng.building.length))
    ∧ (s.flag BE.CTRL.EN = false → Answered s (rsetSubmit mb s []) mb 7 [] ∧ (rsetSubmit mb s []).eng = s.eng) := by
  rw [rsetSubmit_eq]
  refine ⟨fun hen => ?_, fun hen => ?_⟩
  · rw [if_pos hen]
    exact ⟨by simp [submitted], by simp [submitted], ok_of_runs hm hr (submitted s) rfl (by simp)⟩
  · rw [if_neg (by simp [hen])]
    exact ⟨refused_of_runs hm hr _ rfl (by decide), by simp⟩

/-- PATTERN_LOAD writes its bytes and marks the generation due or open, or answers STATE while no DRAM is ready. -/
theorem patternLoad_effects {s : State} {mb : Nat} {p : List Byte} (hm : MailOk s) (hr : Runs s mb 0x0504 p)
    (hlen : p.length = 12 + leAt p 8 2) (hn : leAt p 0 1 ≤ 4) (hlo : 2 ≤ leAt p 8 2) (hhi : leAt p 8 2 ≤ 236)
    (heven : leAt p 8 2 % 2 = 0) (hend : leAt p 4 4 + leAt p 8 2 ≤ 132098) :
    (s.flag DDRC.STATUS.READY = false → Answered s (patternLoad mb s p) mb 7 [] ∧ (patternLoad mb s p).eng = s.eng)
    ∧ (s.flag DDRC.STATUS.READY = true →
      Answered s (patternLoad mb s p) mb 0 (toLe 1 ((s.eng.patGen.getD (leAt p 0 1) 0 + 1) % 256))
      ∧ (patternLoad mb s p).eng = (patternPut s (leAt p 0 1) (leAt p 4 4) (leAt p 8 2) (leAt p 1 1 == 1) p).eng) := by
  have heng : (dramExit s).eng = s.eng := by simp
  rw [patternLoad_eq mb s hlen hn hlo hhi heven hend]
  refine ⟨fun hready => ?_, fun hready => ?_⟩
  · rw [if_neg (by simp [hready])]
    exact ⟨refused_of_runs hm hr _ rfl (by decide), by simp⟩
  · rw [if_pos hready, heng]
    exact ⟨ok_of_runs hm hr _ (by simp [patternPut]) (by simp), by simp [patternPut]⟩

/-- SYMLIB_LOAD makes an accepted library due and refuses any other. -/
theorem symlibLoad_effects {s : State} {mb d : Nat} (hm : MailOk s) (hr : Runs s mb 0x0505 [])
    (hready : s.flag DDRC.STATUS.READY = true) (hdir : directory s = some d) :
    (symlibOk s (dirEntry s d 2).1 = true →
      (symlibLoad mb s []).eng.symDue = some (leAt (s.flashBytes ((dirEntry s d 2).1 + 6) 2) 0 2,
        leAt (s.flashBytes ((dirEntry s d 2).1 + 0xC) 4) 0 4)
      ∧ Answered s (symlibLoad mb s []) mb 0 (toLe 1 ((s.eng.symGen + 1) % 256) ++ [0]
        ++ toLe 2 (leAt (s.flashBytes ((dirEntry s d 2).1 + 6) 2) 0 2)
        ++ toLe 4 (leAt (s.flashBytes ((dirEntry s d 2).1 + 0xC) 4) 0 4)))
    ∧ (symlibOk s (dirEntry s d 2).1 = false →
      Answered s (symlibLoad mb s []) mb 0x0D [] ∧ (symlibLoad mb s []).eng = s.eng) := by
  rw [symlibLoad_eq mb hready hdir]
  refine ⟨fun hok => ?_, fun hbad => ?_⟩
  · rw [if_pos hok]
    exact ⟨by simp [libraryDue], ok_of_runs hm hr _ (by simp [libraryDue]) (by simp)⟩
  · rw [if_neg (by simp [hbad])]
    exact ⟨refused_of_runs hm hr _ (by simp) (by decide), by simp⟩

theorem lensRead_eq (mb : Nat) (lens : Option (List Byte)) (s : State) : lensRead mb lens s []
    = respond (applyLens s lens).tookFree mb 0 (lensData (applyLens s lens) lens) := rfl

/-- LENS_READ shows and answers what the lens memory left in force: source, residual, coefficient, and a valid record's model and
serial. -/
theorem lensRead_effects {s : State} {mb : Nat} (lens : Option (List Byte)) (hm : MailOk s) (hr : Runs s mb 0x0506 []) :
    (lensRead mb lens s []).regs = (applyLens s lens).regs ∧ (lensRead mb lens s []).eng = (applyLens s lens).eng
    ∧ (∃ l, (lensRead mb lens s []).flt.jorosh = (applyLens s lens).flt.jorosh ++ l)
    ∧ Answered s (lensRead mb lens s []) mb 0 (lensData (applyLens s lens) lens)
    ∧ (lensData (applyLens s lens) lens).length = 28
    ∧ leAt (lensData (applyLens s lens) lens) 0 1 = (applyLens s lens).reg BE.OPTICS.SOURCE
    ∧ leAt (lensData (applyLens s lens) lens) 1 1 = (applyLens s lens).reg BE.OPTICS.RESID
    ∧ leAt (lensData (applyLens s lens) lens) 2 2 = toBits 16 (applyLens s lens).eng.lensKt % 256 ^ 2
    ∧ (lens.any lensValid = true → bytesAt (lensData (applyLens s lens) lens) 4 24 = bytesAt (lens.getD []) 8 24) := by
  have hsource : (applyLens s lens).reg BE.OPTICS.SOURCE < 256 := by
    rw [applyLens_source]
    cases lens.any lensValid <;> decide
  have hresid : (applyLens s lens).reg BE.OPTICS.RESID < 256 := by
    rw [reg_of_regs _ (applyLens_shown s lens).1]
    exact lensShown_resid_lt s lens
  obtain ⟨hlen, h0, h1, h2, hrecord⟩ := lensData_fields lens hsource hresid
  rw [applyLens_sourceFlag] at hrecord
  rw [lensRead_eq]
  refine ⟨by simp, by simp, respond_jorosh _ _ _ _, ?_, hlen, h0, h1, h2, hrecord⟩
  refine ok_of_runs hm hr _ ?_ ?_
  · simp
  · rw [hlen]
    decide

/-- Settles O46: each command runs its operation on the parameters of the request. -/
theorem kernelCommands : Obligations.KernelCommands := by
  unfold Obligations.KernelCommands
  refine ⟨fun s mb b hm hr h32 h224 hneeds => ?_, fun s mb p n hm hr hp hn hslot => ?_, fun s mb hm hr => ?_,
    fun s mb p n o c hm hr hn ho hc hp hn4 hlo hhi heven hend => ?_, fun s mb d a hm hr hready hdir ha => ?_,
    fun s mb lens hm hr => ?_⟩
  · exact completes_of (congrArg Host.Outcome.next (command_of_runs hr _)) (rsetEntry_effects hm hr ⟨h32, h224, hneeds⟩)
  · subst hn
    exact completes_of (congrArg Host.Outcome.next (command_of_runs hr _)) (rsetDelete_effects hm hr hp hslot)
  · have hsubmit := rsetSubmit_effects hm hr
    rw [nextFrameNum_eq] at hsubmit
    exact completes_of (congrArg Host.Outcome.next (command_of_runs hr _)) hsubmit
  · subst hn ho hc
    obtain ⟨hnot, hready⟩ := patternLoad_effects hm hr hp hn4 hlo hhi heven hend
    refine completes_of (congrArg Host.Outcome.next (command_of_runs hr _)) ⟨hnot, fun h => ?_⟩
    obtain ⟨hans, heng⟩ := hready h
    obtain ⟨hlast, hopen, hothers⟩ := patternPut_due s (leAt p 0 1) (leAt p 4 4) (leAt p 8 2) (leAt p 1 1 == 1) p
    rw [heng]
    exact ⟨hans, fun j _ => patternPut_patNext s _ _ _ _ p j, fun h1 => hlast (beq_iff_eq.mpr h1),
      fun h1 => hopen (beq_eq_false_iff_ne.mpr h1), hothers⟩
  · subst ha
    exact completes_of (congrArg Host.Outcome.next (command_of_runs hr _)) (symlibLoad_effects hm hr hready hdir)
  · obtain ⟨hregs, heng, ⟨l, hevents⟩, hans, hlen, h0, h1, h2, hrecord⟩ := lensRead_effects lens hm hr
    refine completes_of (congrArg Host.Outcome.next (command_of_runs hr _)) ⟨⟨_, hans, hlen, ?_, ?_, ?_, ?_⟩, ?_, ?_⟩
    · rw [h0, reg_of_regs _ hregs]
    · rw [h1, reg_of_regs _ hregs]
    · rw [h2, sext16_mod, heng]
    · rintro b rfl hb
      exact hrecord hb
    · rintro b rfl hb
      rw [flag_of_regs _ hregs, heng, applyLens_sourceFlag]
      exact ⟨hb, applyLens_of_valid s (some b) hb⟩
    · intro hnone
      have hinvalid : lens.any lensValid = false := by
        rcases hnone with rfl | ⟨b, rfl, hb⟩
        · rfl
        · exact hb
      obtain ⟨hp, hevent⟩ := applyLens_of_invalid s lens hinvalid
      rw [flag_of_regs _ hregs, heng, hevents, applyLens_sourceFlag]
      exact ⟨hinvalid, hp, List.mem_append_left _ hevent⟩

end Sys2Proof.Machine.KernelMail
end

section
/-! PROOF. SwapGate: at a frame start only a complete frame within the Guard's limits becomes due to swap (07_safety_functions.md). -/

namespace Sys2Proof.Machine.SwapGate

open FrameTiming (underrun_eq raiseFault_scan strapFrameStart_scan frameEnd sampled sampled_scan beforeLoad opened afterLoad_scan
  beginFrame_eq effMask_congr)

/-! ### Which row groups are due to swap (R39) -/

/-- For each row group, whether a passed frame waits in its back latches. -/
def swapsDue (s : State) : List Bool := s.scan.groups.map (·.swapDue)

theorem group_swapDue (s : State) (g : Nat) : (s.group g).swapDue = (swapsDue s).getD g false := by
  unfold State.group swapsDue
  rw [List.getD_eq_getElem?_getD, List.getD_eq_getElem?_getD, List.getElem?_map]
  cases s.scan.groups[g]? <;> rfl

theorem swapsDue_of_groups {s t : State} (h : t.scan.groups = s.scan.groups) : swapsDue t = swapsDue s := by
  unfold swapsDue
  rw [h]

theorem swapsDue_of_scan {s t : State} (h : t.scan = s.scan) : swapsDue t = swapsDue s :=
  swapsDue_of_groups (congrArg Scan.groups h)

/-- Fallback drive leaves what waits to swap alone (R51). -/
theorem swapsDue_enterFallback (s : State) (inj : Bool) : swapsDue (enterFallback s inj) = swapsDue s := by
  simp [swapsDue, enterFallback, allFallback]

theorem swapsDue_raiseCause (s : State) (c : Field) : swapsDue (raiseCause s c) = swapsDue s := by
  unfold raiseCause raiseCauseInj
  split
  · rfl
  · dsimp only
    split <;> split
    · rfl
    · exact swapsDue_enterFallback (s.setFlag c true) false
    · rfl
    · exact swapsDue_enterFallback (s.setFlag c true) false

/-! ### The frame that ends (R41, R100, R242) -/

theorem swapsDue_closeLoad (s : State) : swapsDue (closeLoad s) = swapsDue s := by
  unfold closeLoad
  split
  · rw [underrun_eq, swapsDue_of_scan (raiseFault_scan (by decide) _ _)]
    rfl
  · rfl

/-- A failing verdict makes no row group due (R242). -/
theorem swapsDue_swapGate_of_fail (s : State) : swapsDue (swapGate s false) = swapsDue s := by
  unfold swapGate
  rw [if_neg Bool.false_ne_true]
  dsimp only
  split
  · rw [swapsDue_raiseCause]
    rfl
  · rfl

/-- Only the end of a load with a passing verdict makes row groups due (R41). -/
theorem swapsDue_closeFrame_of_not_passed {s : State} (h : ¬ (s.scan.loading = true ∧ (judge s).2 = true)) :
    swapsDue (closeFrame s) = swapsDue s := by
  unfold closeFrame
  split
  · next hload =>
    have hfail : (judge s).2 = false := Bool.eq_false_iff.mpr fun hp => h ⟨hload, hp⟩
    have hgate : swapsDue (swapGate (judge s).1 (judge s).2) = swapsDue s := by
      rw [hfail, swapsDue_swapGate_of_fail]
      exact swapsDue_of_scan (by simp)
    dsimp only
    split
    · exact hgate
    · exact (swapsDue_of_scan (by simp)).trans hgate
  · rfl

theorem swapsDue_frameEnd (s : State) : swapsDue (frameEnd s) = swapsDue (closeFrame (closeDose (closeLoad s))) :=
  (swapsDue_of_scan (strapFrameStart_scan _)).trans rfl

/-! ### The frame that begins -/

theorem swapsDue_enterMode (s : State) (old : Nat) (first : Bool) : swapsDue (enterMode s old first) = swapsDue s := by
  unfold enterMode
  dsimp only
  split
  · rw [swapsDue_raiseCause]
    exact swapsDue_of_groups (by simp)
  · exact swapsDue_of_groups (by simp)

theorem swapsDue_beforeLoad (s : State) (load : Nat) (first : Bool) : swapsDue (beforeLoad s load first) = swapsDue s := by
  have hgovernor (u : State) : (governor u).scan.groups = u.scan.groups := rfl
  have hmode : swapsDue (beforeLoad s load first) = swapsDue (enterMode (sampled s first) s.mode first) :=
    swapsDue_of_groups (by simp [beforeLoad, hgovernor])
  rw [hmode, swapsDue_enterMode, swapsDue_of_scan (sampled_scan s first)]

/-- The opening of a frame makes no row group due. -/
theorem swapsDue_beginFrame (s : State) (load : Nat) (first : Bool) : swapsDue (beginFrame s load first) = swapsDue s := by
  have hopened (u : State) : (opened u).scan.groups = u.scan.groups := by
    unfold opened
    rw [afterLoad_scan]
    simp [openLoad]
  rw [beginFrame_eq, swapsDue_of_groups (hopened _), swapsDue_beforeLoad]

/-- Row groups become due at a frame start only where the load that ends passes its verdict. -/
theorem passed_of_newly_due {s t : State} {load g : Nat} (h : exec (.frameStart load) s = .next t)
    (hs : (s.group g).swapDue = false) (ht : (t.group g).swapDue = true) :
    (closeLoad s).scan.loading = true ∧ (judge (closeDose (closeLoad s))).2 = true := by
  have hload : (closeDose (closeLoad s)).scan.loading = (closeLoad s).scan.loading := by simp
  rw [← hload]
  by_contra hnot
  have hdose : swapsDue (closeDose (closeLoad s)) = swapsDue (closeLoad s) := swapsDue_of_scan (by simp)
  have hdue : swapsDue t = swapsDue s := by
    replace h : execFrameStart load s = .next t := h
    unfold execFrameStart at h
    split at h
    · cases h
      rw [swapsDue_beginFrame, ← frameEnd, swapsDue_frameEnd, swapsDue_closeFrame_of_not_passed hnot, hdose,
        swapsDue_closeLoad]
    · cases h
      rfl
  rw [group_swapDue, hdue, ← group_swapDue, hs] at ht
  exact Bool.false_ne_true ht

/-- A load that outlives its frame is complete (R100). -/
theorem closeLoad_of_loading {s : State} (h : (closeLoad s).scan.loading = true) :
    closeLoad s = s ∧ s.scan.loading = true ∧ 1024 ≤ s.scan.nextRow := by
  unfold closeLoad at h ⊢
  split at h
  · rw [underrun_eq, raiseFault_scan (by decide)] at h
    cases h
  · next hnot => exact ⟨if_neg hnot, h, by rw [not_and] at hnot; exact Nat.le_of_not_lt (hnot h)⟩

/-! ### The limits (R234, R236, R239 to R241) -/

/-- What the Guard's sums of a passing frame satisfy. -/
def WithinLimits (s : State) : Prop :=
  (∀ p ∈ List.zip s.guard.limits.rects s.guard.rectSums, p.2 ≤ p.1.limit)
  ∧ (∀ k < 32, (bit s.guard.loadMask k = true ∧ bit (effMask s) k = true) ∨ s.guard.segSums.getD k 0 ≤ s.guard.limits.allow)
  ∧ (s.guard.flux = 0 ∨ s.guard.limits.cMin * s.guard.flux ≤ 16 * s.guard.moment
      ∧ 16 * s.guard.moment ≤ s.guard.limits.cMax * s.guard.flux)
  ∧ s.guard.flux ≤ fRef s + max (fRef s * s.guard.limits.riseRel / 256) s.guard.limits.riseAbs
  ∧ s.guard.accBad = false ∧ s.guard.echoBad = false ∧ s.guard.guardFail = false

theorem rects_of_sliZone {s : State} (h : sliZone s = none) :
    ∀ p ∈ List.zip s.guard.limits.rects s.guard.rectSums, p.2 ≤ p.1.limit := by
  intro p hp
  simpa using List.find?_eq_none.mp (Option.map_eq_none_iff.mp h) p hp

theorem segments_of_slcSeg {s : State} (h : slcSeg s = none) : ∀ k < 32,
    (bit s.guard.loadMask k = true ∧ bit (effMask s) k = true) ∨ s.guard.segSums.getD k 0 ≤ s.guard.limits.allow := by
  intro k hk
  have hand : bit (s.guard.loadMask &&& effMask s) k = (bit s.guard.loadMask k && bit (effMask s) k) := Nat.testBit_and _ _ k
  have hseg := List.find?_eq_none.mp h k (List.mem_range.mpr hk)
  rw [hand, Bool.and_eq_true, Bool.not_eq_true', decide_eq_true_eq, not_and] at hseg
  rcases Bool.eq_false_or_eq_true (bit s.guard.loadMask k && bit (effMask s) k) with hboth | hnot
  · exact .inl (Bool.and_eq_true_iff.mp hboth)
  · exact .inr (Nat.le_of_not_lt (hseg hnot))

theorem centroid_of_slsPass {s : State} (h : slsPass s = true) :
    s.guard.flux = 0 ∨ s.guard.limits.cMin * s.guard.flux ≤ 16 * s.guard.moment
      ∧ 16 * s.guard.moment ≤ s.guard.limits.cMax * s.guard.flux := by
  simpa [slsPass] using h

/-- A passing verdict says that the frame is within its limits. -/
theorem withinLimits_of_pass {s : State} (h : (judge s).2 = true) : WithinLimits s := by
  have hparts : (((((((!s.guard.guardFail && (sliZone s).isNone) && (slcSeg s).isNone) && slsPass s) && slrFluxPass s)
      && slrCentPass s) && !s.guard.accBad) && !s.guard.echoBad) = true := h
  simp only [Bool.and_eq_true, Bool.not_eq_true', Option.isNone_iff_eq_none] at hparts
  obtain ⟨⟨⟨⟨⟨⟨⟨hguard, hsli⟩, hslc⟩, hsls⟩, hflux⟩, -⟩, hacc⟩, hecho⟩ := hparts
  exact ⟨rects_of_sliZone hsli, segments_of_slcSeg hslc, centroid_of_slsPass hsls, of_decide_eq_true hflux, hacc, hecho, hguard⟩

/-- The limits read the Guard, the drive of the groups and the path state alone. -/
theorem withinLimits_congr {s t : State} (hguard : t.guard = s.guard) (hscan : t.scan = s.scan) (hregs : t.regs = s.regs)
    (h : WithinLimits t) : WithinLimits s := by
  have hmask : effMask t = effMask s := effMask_congr hguard (reg_of_regs _ hregs)
  have href : fRef t = fRef s := by unfold fRef pwmLit; rw [hguard, hscan]
  unfold WithinLimits at h ⊢
  rwa [hmask, href, hguard] at h

/-- Settles O18: a row group newly due shows that the load passed its verdict, and the verdict read the state as the frame start
found it. -/
theorem onlyPassingFramesSwap : Obligations.OnlyPassingFramesSwap := by
  unfold Obligations.OnlyPassingFramesSwap
  rintro s t load hexec ⟨g, -, hs, ht⟩
  obtain ⟨hload, hpass⟩ := passed_of_newly_due hexec hs ht
  obtain ⟨hsame, hloading, hcomplete⟩ := closeLoad_of_loading hload
  rw [hsame] at hpass
  exact ⟨hloading, hcomplete, withinLimits_congr (by simp) (by simp) (by simp) (withinLimits_of_pass hpass)⟩

end Sys2Proof.Machine.SwapGate
end

section
/-! PROOF. PathState: how the path state moves at a timeout, a validity end and a publish point (07_safety_functions.md). -/

namespace Sys2Proof.Machine.PathState

open EngineBands (told_of_raiseEvent)
open ShadowPublish (setPath_guard guardSample_digest publishPoint_digest publishPoint_eq slotsPublished settled)

/-! ### A change of the path state (R265) -/

/-- The registers of a change of the path state. -/
def pathShown (s : State) (p : Nat) : State := (s.setReg SAFE.STATUS.PATH_STATE p).setFlag SAFE.STATUS.PATH_CHANGE true

theorem setPath_of_ne {s : State} {p : Nat} (h : s.reg SAFE.STATUS.PATH_STATE ≠ p) :
    setPath s p = raiseEvent (pathShown s p) 0x0602 (toLe 1 p) := if_neg h

theorem pathShown_path (s : State) {p : Nat} (hp : p < 4) : (pathShown s p).reg SAFE.STATUS.PATH_STATE = p :=
  (reg_setFlag_ne _ _ _ _ (by decide)).trans (FrameTiming.reg_setReg_of_lt _ _ _ (by decide) hp)

theorem setPath_path (s : State) {p : Nat} (hp : p < 4) : (setPath s p).reg SAFE.STATUS.PATH_STATE = p := by
  by_cases h : s.reg SAFE.STATUS.PATH_STATE = p
  · rw [setPath, if_pos h, h]
  · rw [setPath_of_ne h, reg_of_regs _ (by simp : (raiseEvent (pathShown s p) 0x0602 (toLe 1 p)).regs = (pathShown s p).regs),
      pathShown_path s hp]

/-- A new path state shows PATH_CHANGE and is told. -/
theorem setPath_effects {s : State} {p : Nat} (hp : p < 4) (h : s.reg SAFE.STATUS.PATH_STATE ≠ p) :
    (setPath s p).reg SAFE.STATUS.PATH_STATE = p ∧ (setPath s p).flag SAFE.STATUS.PATH_CHANGE = true
    ∧ Told s (setPath s p) [(0x0602, toLe 1 p)] := by
  refine ⟨setPath_path s hp, ?_, ?_⟩
  · rw [setPath_of_ne h, FrameTiming.flag_raiseEvent]
    exact flag_setFlag_self _ _ _ (by decide) (by decide)
  · rw [setPath_of_ne h]
    have hnode : (pathShown s p).reg TXLA.NODE.ADDR = s.reg TXLA.NODE.ADDR :=
      (reg_setFlag_ne _ _ _ _ (by decide)).trans (reg_setReg_ne _ _ _ _ (by decide))
    exact told_of_raiseEvent hnode rfl rfl _ _

/-! ### What ends an agreement (R254, R255) -/

theorem mergedTrigger_of_agreed {s : State} (h : s.reg SAFE.STATUS.PATH_STATE = 2) :
    mergedTrigger s = setPath { s with guard := { s.guard with mergedFrames := 0 } } 1 := by
  simp only [mergedTrigger, h]

theorem mergedTrigger_of_withdrawn {s : State} (h : s.reg SAFE.STATUS.PATH_STATE = 0) :
    mergedTrigger s = { s with guard := { s.guard with withdrawnPairs := 0 } } := by
  simp only [mergedTrigger, h]

theorem mergedTrigger_of_merged {s : State} (h : s.reg SAFE.STATUS.PATH_STATE = 1) : mergedTrigger s = s := by
  simp only [mergedTrigger, h]

/-- A trigger ends the agreement, whatever the Guard forgot just before it. -/
theorem mergedTrigger_ends {s : State} {g : Guard} (hframes : g.mergedFrames = s.guard.mergedFrames) :
    AgreementEnds s (mergedTrigger { s with guard := g }) := by
  refine ⟨fun h => ?_, fun h => ?_, fun h => ?_⟩
  · rw [mergedTrigger_of_agreed (s := { s with guard := g }) h]
    have hne : s.reg SAFE.STATUS.PATH_STATE ≠ 1 := by rw [h]; decide
    exact setPath_effects (s := { s with guard := { g with mergedFrames := 0 } }) (by decide) hne
  · rw [mergedTrigger_of_withdrawn (s := { s with guard := g }) h]
    exact ⟨h, rfl⟩
  · rw [mergedTrigger_of_merged (s := { s with guard := g }) h]
    exact ⟨h, hframes⟩

/-- The records that wait stay when an agreement ends. -/
theorem mergedTrigger_waiting (s : State) :
    (mergedTrigger s).guard.recA = s.guard.recA ∧ (mergedTrigger s).guard.recB = s.guard.recB := by
  unfold mergedTrigger
  split
  · rw [setPath_guard]
    exact ⟨rfl, rfl⟩
  · exact ⟨rfl, rfl⟩
  · exact ⟨rfl, rfl⟩

theorem mergedTrigger_pair (s : State) : (mergedTrigger s).guard.pair = s.guard.pair := by
  unfold mergedTrigger
  split
  · rw [setPath_guard]
  · rfl
  · rfl

/-- The record that waited longest leaves, whichever path it came on, and the agreement ends. -/
theorem safePartnerTimeout_next {s : State} (h : s.guard.recA ≠ [] ∨ s.guard.recB ≠ []) : ∃ g : Guard,
    exec .safePartnerTimeout s = .next (mergedTrigger { s with guard := g }) ∧ g.mergedFrames = s.guard.mergedFrames
      ∧ g.recA.length + g.recB.length + 1 = s.guard.recA.length + s.guard.recB.length := by
  show ∃ g : Guard, execSafePartnerTimeout s = _ ∧ _
  unfold execSafePartnerTimeout
  split
  · next hA hB => simp [hA, hB] at h
  · next a ta hA hB => exact ⟨{ s.guard with recA := ta }, rfl, rfl, by simp [hA, hB]⟩
  · next b tb hA hB => exact ⟨{ s.guard with recB := tb }, rfl, rfl, by simp [hA, hB]⟩
  · next a ta b tb hA hB =>
    split
    · exact ⟨{ s.guard with recA := ta }, rfl, rfl, by simp [hA, hB]; omega⟩
    · exact ⟨{ s.guard with recB := tb }, rfl, rfl, by simp [hA, hB]; omega⟩

/-! ### Agreed pairs (R253, R255) -/

theorem foldl_mergeRecord_keep (l : List SafeRec) (g : Guard) :
    (l.foldl mergeRecord g).agreedClass = g.agreedClass ∧ (l.foldl mergeRecord g).agreedMask = g.agreedMask
    ∧ (l.foldl mergeRecord g).pair = g.pair := by
  induction l generalizing g with
  | nil => exact ⟨rfl, rfl, rfl⟩
  | cons r l ih => exact ih (mergeRecord g r)

/-- The Guard with an agreed pair's class and mask, and the records accepted since merged into them. -/
def agreedGuard (s : State) (r : SafeRec) : Guard :=
  (s.guard.recA ++ s.guard.recB).foldl mergeRecord { s.guard with
    agreedClass := r.cls, agreedMask := r.mask, mergedClass := if r.cls = 1 then 1 else 0, mergedMask := r.mask }

theorem agreedGuard_keep (s : State) (r : SafeRec) : (agreedGuard s r).agreedClass = r.cls
    ∧ (agreedGuard s r).agreedMask = r.mask ∧ (agreedGuard s r).pair = s.guard.pair := foldl_mergeRecord_keep _ _

section
variable {s : State} (r : SafeRec)

theorem agreePair_of_permitted (h : s.reg SAFE.STATUS.PATH_STATE ≠ 0) :
    agreePair s r = setPath { s with guard := agreedGuard s r } 2 := if_neg h

theorem agreePair_of_second (h : s.reg SAFE.STATUS.PATH_STATE = 0) (hp : 1 ≤ s.guard.withdrawnPairs) :
    agreePair s r = setPath { s with guard := { agreedGuard s r with withdrawnPairs := 0 } } 2 :=
  (if_pos h).trans (if_pos hp)

theorem agreePair_of_first (h : s.reg SAFE.STATUS.PATH_STATE = 0) (hp : s.guard.withdrawnPairs = 0) :
    agreePair s r = { s with guard := { agreedGuard s r with withdrawnPairs := 1 } } := by
  refine (if_pos h).trans ((if_neg (by omega)).trans ?_)
  rw [hp]
  rfl

/-- An agreed pair sets class and mask, and no pair waits where none did. -/
theorem agreePair_guard : (agreePair s r).guard.agreedClass = r.cls ∧ (agreePair s r).guard.agreedMask = r.mask
    ∧ (agreePair s r).guard.pair = s.guard.pair := by
  by_cases h0 : s.reg SAFE.STATUS.PATH_STATE = 0
  · by_cases h1 : 1 ≤ s.guard.withdrawnPairs
    · rw [agreePair_of_second r h0 h1, setPath_guard]
      exact agreedGuard_keep s r
    · rw [agreePair_of_first r h0 (by omega)]
      exact agreedGuard_keep s r
  · rw [agreePair_of_permitted r h0, setPath_guard]
    exact agreedGuard_keep s r

/-- An agreed pair gives AGREED, from WITHDRAWN only as the second one in a row. -/
theorem agreePair_path :
    (s.reg SAFE.STATUS.PATH_STATE ≠ 0 ∨ 1 ≤ s.guard.withdrawnPairs → (agreePair s r).reg SAFE.STATUS.PATH_STATE = 2)
    ∧ (s.reg SAFE.STATUS.PATH_STATE = 0 → s.guard.withdrawnPairs = 0 →
      (agreePair s r).reg SAFE.STATUS.PATH_STATE = 0 ∧ (agreePair s r).guard.withdrawnPairs = 1) := by
  refine ⟨fun h => ?_, fun h0 h1 => ?_⟩
  · by_cases h0 : s.reg SAFE.STATUS.PATH_STATE = 0
    · rw [agreePair_of_second r h0 (h.resolve_left (not_not_intro h0)), setPath_path _ (by decide)]
    · rw [agreePair_of_permitted r h0, setPath_path _ (by decide)]
  · rw [agreePair_of_first r h0 h1]
    exact ⟨h0, rfl⟩

end

/-! ### The publish point (R252, R253) -/

/-- The Guard takes the digest and the pair that waited for it. -/
def digested (s : State) : State :=
  { slotsPublished s with guard :=
    { (slotsPublished s).guard with digest := digestOf (slotsPublished s), pair := none } }

theorem foldl_expireSlot_path (l : Sparse CtxSlot) (s : State) :
    (l.foldl (fun t p => expireSlot t p.1) s).reg SAFE.STATUS.PATH_STATE = s.reg SAFE.STATUS.PATH_STATE := by
  induction l generalizing s with
  | nil => rfl
  | cons p l ih => exact (ih _).trans (reg_eq_of_word (expireSlot_word (outside_of (by decide)) s p.1))

theorem slotsPublished_guard (s : State) : (slotsPublished s).guard = s.guard := by
  simp [slotsPublished, settled]

/-- Path state and pair count are those before the publish point. -/
theorem digested_keep (s : State) : (digested s).reg SAFE.STATUS.PATH_STATE = s.reg SAFE.STATUS.PATH_STATE
    ∧ (digested s).guard.withdrawnPairs = s.guard.withdrawnPairs ∧ (digested s).guard.pair = none :=
  ⟨foldl_expireSlot_path _ (settled s), congrArg (fun g => g.withdrawnPairs) (slotsPublished_guard s), rfl⟩

/-- The digest of the device after a publish point is the one the pair was compared with. -/
theorem digestOf_publishPoint (s : State) : digestOf (publishPoint s) = digestOf (slotsPublished s) := by
  rw [← publishPoint_digest, publishPoint_eq, guardSample_digest]

/-- A waiting pair agrees when it carries the digest of the device, and ends the agreement otherwise. -/
theorem publishPoint_of_pair {s : State} {r : SafeRec} (h : s.guard.pair = some r) : publishPoint s
    = if r.digest = digestOf (publishPoint s) then agreePair (digested s) r else mergedTrigger (digested s) := by
  rw [digestOf_publishPoint, publishPoint_eq, guardSample, slotsPublished_guard, h]
  dsimp only
  rw [← slotsPublished_guard s]
  rfl

theorem effMask_of_withdrawn {s : State} (h : s.guard.limits.broken = true ∨ s.reg SAFE.STATUS.PATH_STATE = 0) :
    effMask s = 0 := by
  unfold effMask
  rcases h with h | h
  · exact if_pos h
  · simp only [h, ite_self]

/-- Settles O28: a lost partner or an expired agreement is one trigger; a publish point compares the pair's digest with its own. -/
theorem pathStates : Obligations.PathStates := by
  unfold Obligations.PathStates
  refine ⟨fun s hwait => ?_, fun s hpath => ?_, fun s r hpass htimer hpair => ?_, fun s => effMask_of_withdrawn⟩
  · obtain ⟨g, hexec, hframes, hcount⟩ := safePartnerTimeout_next hwait
    obtain ⟨hA, hB⟩ := mergedTrigger_waiting { s with guard := g }
    refine completes_of hexec ⟨mergedTrigger_ends hframes, ?_⟩
    rw [hA, hB]
    exact hcount
  · have hexec : exec .agreedValidityEnd s = .next (mergedTrigger s) := congrArg Host.Outcome.next (if_pos hpath)
    exact completes_of hexec (mergedTrigger_ends (g := s.guard) rfl)
  · have hexec : exec .publishTimer s = .next (publishPoint s) :=
      congrArg Host.Outcome.next (if_neg (by simp [hpass, htimer]))
    obtain ⟨hpath, hpairs, hnone⟩ := digested_keep s
    refine completes_of hexec ?_
    rw [← hpath, ← hpairs]
    by_cases hd : r.digest = digestOf (publishPoint s)
    · have hpoint := (publishPoint_of_pair hpair).trans (if_pos hd)
      obtain ⟨hcls, hmask, hp⟩ := agreePair_guard (s := digested s) r
      obtain ⟨hagreed, hfirst⟩ := agreePair_path (s := digested s) r
      rw [← hpoint] at hcls hmask hp hagreed hfirst
      exact ⟨hp.trans hnone, fun _ => ⟨hcls, hmask, hagreed, hfirst⟩, fun hne => absurd hd hne, fun hne => absurd hd hne⟩
    · have hpoint := (publishPoint_of_pair hpair).trans (if_neg hd)
      obtain ⟨hmerged, hwithdrawn, -⟩ := mergedTrigger_ends (s := digested s) (g := (digested s).guard) rfl
      have hp := mergedTrigger_pair (digested s)
      rw [← hpoint] at hmerged hwithdrawn hp
      exact ⟨hp.trans hnone, fun he => absurd he hd, fun _ h => (hmerged h).1, fun _ => hwithdrawn⟩

end Sys2Proof.Machine.PathState
end

section
/-! PROOF. FallbackCauses: the LOWBEAM_REQ pin, the Guard's own failure and the strap re-reads (07_safety_functions.md). -/

namespace Sys2Proof.Machine.FallbackCauses

open FrameTiming (flag_eq_of_word raiseCause_flag_self clearCause_flag_self fatalAtDetection_of_ne)
open BlankPasses (sourceKept_of faulted_before raiseFault_fatal)
open EngineBands (told_of_raiseEvent)

/-! ### A rising cause (R245, R247, R271) -/

/-- The fallback beam is entered with cause `c` (R51, R271). -/
def entered (s : State) (c : Field) : State := enterFallback (s.setFlag c true) false

theorem fbActive_of_regs {s t : State} (h : t.regs = s.regs) : fbActive t = fbActive s := by
  have hflag : t.flag = s.flag := funext fun c => flag_of_regs c h
  unfold fbActive
  rw [hflag]

theorem flag_of_inactive {s : State} {c : Field} (hc : c ∈ fbCauses) (h : fbActive s = false) : s.flag c = false := by
  simpa using List.any_eq_false.mp h c hc

theorem raiseCause_of_inactive {s : State} {c : Field} (hc : c ∈ fbCauses) (h : fbActive s = false) : raiseCause s c
    = if c = SAFE.FB_CAUSE.CLOCK ∨ c = SAFE.FB_CAUSE.GUARD then assertErr (entered s c) (fun f => { f with errAsync := true })
      else entered s c := by
  have hunset : ¬ s.flag c = true := by simp [flag_of_inactive hc h]
  have hnone : ¬ fbActive s = true := by simp [h]
  unfold raiseCause raiseCauseInj
  rw [if_neg hunset]
  dsimp only
  rw [if_neg hnone]
  rfl

theorem flag_allFallback (s : State) (f : Field) : (allFallback s).flag f = s.flag f := flag_of_regs f (by simp)

theorem allFallback_drive (s : State) : AllOnFallback (allFallback s) := by
  intro g hg
  obtain ⟨g', -, rfl⟩ := List.mem_map.mp hg
  rfl

/-- Where no cause was active in the registers, the first one puts every row group on fallback drive and counts the entry. -/
theorem raiseCause_enters {s u : State} {c : Field} (hc : c ∈ fbCauses) (h : fbActive s = false) (hu : u.regs = s.regs) :
    AllOnFallback (raiseCause u c) ∧ Counted s (raiseCause u c) SAFE.FB_ENTRIES.VALUE 1 := by
  have hnone : fbActive u = false := (fbActive_of_regs hu).trans h
  have hscan : (raiseCause u c).scan = (allFallback u).scan := by
    rw [raiseCause_of_inactive hc hnone]
    split <;> rfl
  have hregs : (raiseCause u c).regs = (entered u c).regs := by
    rw [raiseCause_of_inactive hc hnone]
    split
    · simp
    · rfl
  have hne : fieldKey c ≠ fieldKey SAFE.FB_ENTRIES.VALUE :=
    (by decide : ∀ c ∈ fbCauses, fieldKey c ≠ fieldKey SAFE.FB_ENTRIES.VALUE) c hc
  refine ⟨?_, ?_⟩
  · unfold AllOnFallback
    rw [hscan]
    exact allFallback_drive u
  · have hcount : (entered u c).reg SAFE.FB_ENTRIES.VALUE
        = ((allFallback (u.setFlag c true)).bump SAFE.FB_ENTRIES.VALUE).reg SAFE.FB_ENTRIES.VALUE :=
      reg_setFlag_ne _ _ _ _ (by decide)
    have hbefore : (allFallback (u.setFlag c true)).reg SAFE.FB_ENTRIES.VALUE = s.reg SAFE.FB_ENTRIES.VALUE :=
      (reg_setFlag_ne u c SAFE.FB_ENTRIES.VALUE true hne).trans (reg_of_regs _ hu)
    unfold Counted
    rw [reg_of_regs _ hregs, hcount, reg_bump_self _ _ (by decide), hbefore]

/-- While a cause is active a further one starts no beam. -/
theorem raiseCause_of_active {s : State} (h : fbActive s = true) (c : Field) :
    (raiseCause s c).scan = s.scan ∧ (s.flag c = true ∨ (raiseCause s c).regs = (s.setFlag c true).regs) := by
  unfold raiseCause raiseCauseInj
  split
  · next hc => exact ⟨rfl, .inl hc⟩
  · dsimp only
    split <;> exact ⟨rfl, .inr rfl⟩

theorem raiseCause_real (s : State) (c : Field) : (raiseCause s c).flt.real = s.flt.real := by
  unfold raiseCause raiseCauseInj
  split
  · rfl
  · dsimp only
    split <;> split <;> rfl

/-- A new GUARD cause holds ERR_N at once (R538). -/
theorem raiseCause_guard_errAsync {s : State} (h : s.flag SAFE.FB_CAUSE.GUARD = false) :
    (raiseCause s SAFE.FB_CAUSE.GUARD).flt.errAsync = true := by
  have hunset : ¬ s.flag SAFE.FB_CAUSE.GUARD = true := by simp [h]
  unfold raiseCause raiseCauseInj
  rw [if_neg hunset]
  dsimp only
  rw [if_pos (.inr rfl)]
  rfl

/-- A cause that rises never releases ERR_N. -/
theorem raiseCause_errAsync {s : State} (h : s.flt.errAsync = true) (c : Field) : (raiseCause s c).flt.errAsync = true := by
  unfold raiseCause raiseCauseInj
  split
  · exact h
  · dsimp only
    split <;> split
    · rfl
    · rfl
    · exact h
    · exact h

theorem fbActive_of_flag {s : State} {c : Field} (hc : c ∈ fbCauses) (h : s.flag c = true) : fbActive s = true :=
  List.any_eq_true.mpr ⟨c, hc, h⟩

/-! ### The Guard's own failure (R244) -/

/-- The Guard has failed: its cause stands, and its fault is not yet raised. -/
def guardCaused (s : State) : State :=
  raiseCause { s with guard := { s.guard with guardFail := true } } SAFE.FB_CAUSE.GUARD

theorem guardCaused_flag (s : State) : (guardCaused s).flag SAFE.FB_CAUSE.GUARD = true :=
  raiseCause_flag_self _ _ (outside_of (by decide)) (by decide) (by decide)

/-- A detection counted and its request placed, before FATAL rises (R532). -/
def detected (s : State) (src cls : Nat) : State :=
  let s1 := s.bump (FLT.COUNT.COUNT src)
  { s1 with flt := { s1.flt with
    real := sparseSet none s1.flt.real src (mergeWait (sparseGet none s1.flt.real src) cls s.now) } }

theorem raiseFault_of_fatal {src : Nat} (h : 3 ∈ sourceClasses src) (s : State) :
    raiseFault s src 3 = raiseCause (detected s src 3) SAFE.FB_CAUSE.FATAL := by
  show fatalAtDetection (detected s src 3) src 3 false = _
  exact if_pos ⟨rfl, h⟩

theorem detected_scan (s : State) (src cls : Nat) : (detected s src cls).scan = s.scan := rfl

theorem detected_errAsync (s : State) (src cls : Nat) : (detected s src cls).flt.errAsync = s.flt.errAsync := rfl

theorem detected_regs (s : State) (src cls : Nat) : (detected s src cls).regs = (s.bump (FLT.COUNT.COUNT src)).regs := rfl

theorem guardFails_eq_raiseCause (s : State) :
    guardFails s = raiseCause (detected (guardCaused s) 8 3) SAFE.FB_CAUSE.FATAL := raiseFault_of_fatal (by decide) _

theorem detected_guardCaused_active (s : State) : fbActive (detected (guardCaused s) 8 3) = true := by
  refine fbActive_of_flag (c := SAFE.FB_CAUSE.GUARD) (by decide) ?_
  rw [flag_of_regs _ (detected_regs _ _ _), ← guardCaused_flag s]
  exact flag_eq_of_word (bump_word _ _ (by decide))

/-- The FATAL cause that follows the GUARD cause starts no second beam. -/
theorem guardFails_keep_caused (s : State) : (guardFails s).scan = (guardCaused s).scan
    ∧ (guardFails s).reg SAFE.FB_ENTRIES.VALUE = (guardCaused s).reg SAFE.FB_ENTRIES.VALUE := by
  obtain ⟨hscan, hregs⟩ := raiseCause_of_active (detected_guardCaused_active s) SAFE.FB_CAUSE.FATAL
  have hdetected : (detected (guardCaused s) 8 3).reg SAFE.FB_ENTRIES.VALUE = (guardCaused s).reg SAFE.FB_ENTRIES.VALUE :=
    (reg_of_regs _ (detected_regs _ _ _)).trans (reg_bump_ne _ _ _ (by decide))
  rw [guardFails_eq_raiseCause]
  refine ⟨hscan.trans (detected_scan _ _ _), ?_⟩
  rw [← hdetected]
  rcases hregs with hset | hregs
  · rw [raiseCause, raiseCauseInj, if_pos hset]
  · rw [reg_of_regs _ hregs, reg_setFlag_ne _ _ _ _ (by decide)]

theorem guardFails_causes (s : State) : (guardFails s).guard.guardFail = true
    ∧ (guardFails s).flag SAFE.FB_CAUSE.GUARD = true ∧ (guardFails s).flag SAFE.FB_CAUSE.FATAL = true := by
  have hguard : (guardFails s).guard = { s.guard with guardFail := true } := by simp [guardFails]
  refine ⟨by rw [hguard], ?_, raiseFault_fatal (by decide) (guardCaused s)⟩
  exact (flag_eq_of_word (raiseFault_word (outside_of (by decide +kernel)) (guardCaused s) 8 3)).trans (guardCaused_flag s)

theorem guardFails_faulted (s : State) : Faulted s (guardFails s) 8 3 := by
  have hword : wordAt (guardCaused s).regs (fieldKey (FLT.COUNT.COUNT 8)) = wordAt s.regs (fieldKey (FLT.COUNT.COUNT 8)) :=
    raiseCause_word (outside_of (by decide)) _ _ (by decide)
  exact faulted_before (sourceKept_of hword (raiseCause_real _ _)) (raiseFault_faulted (guardCaused s) 8 3)

theorem guardFails_enters {s : State} (h : fbActive s = false) :
    AllOnFallback (guardFails s) ∧ Counted s (guardFails s) SAFE.FB_ENTRIES.VALUE 1 := by
  obtain ⟨hscan, hentries⟩ := guardFails_keep_caused s
  have henters : AllOnFallback (guardCaused s) ∧ Counted s (guardCaused s) SAFE.FB_ENTRIES.VALUE 1 :=
    raiseCause_enters (by decide) h rfl
  unfold AllOnFallback Counted at henters ⊢
  rwa [hscan, hentries]

theorem guardFails_errHeld {s : State} (h : s.flag SAFE.FB_CAUSE.GUARD = false) :
    (guardFails s).flt.errAsync = true ∧ errHeld (guardFails s) = true := by
  have hunset : ({ s with guard := { s.guard with guardFail := true } } : State).flag SAFE.FB_CAUSE.GUARD = false :=
    (flag_of_regs _ rfl).trans h
  have hcaused : (guardCaused s).flt.errAsync = true := raiseCause_guard_errAsync hunset
  have hasync : (guardFails s).flt.errAsync = true := by
    rw [guardFails_eq_raiseCause]
    exact raiseCause_errAsync ((detected_errAsync _ _ _).trans hcaused) _
  exact ⟨hasync, by simp [errHeld, hasync]⟩

/-! ### The LOWBEAM_REQ pin (R246) -/

/-- The pin's level as the device takes it. -/
def pinAt (s : State) (high : Bool) : State := { s with pins := { s.pins with lowbeam := high } }

/-- The high level acts through the domains where they run, and lights the ROM pattern without them. -/
theorem lowbeamRise_eq (s : State) : lowbeamRise s
    = wakeBy (if domainsOff s then lightRom (pinAt s true) else raiseCause (pinAt s true) SAFE.FB_CAUSE.LOWBEAM) 3 := by
  unfold lowbeamRise
  split <;> rfl

theorem lightRom_of_high {s : State} (h : s.thm.trip = false) : lightRom (pinAt s true)
    = allFallback (((pinAt s true).setFlag SAFE.FB_CAUSE.LOWBEAM true).setFlag SCAN.FB_CTRL.RESET_LONG_ROM true) :=
  if_pos ⟨rfl, h⟩

theorem lightRom_of_trip {s : State} (h : s.thm.trip = true) : lightRom (pinAt s true) = pinAt s true :=
  if_neg (fun hc => by simp [pinAt, h] at hc)

theorem domainsOff_of_trip {s : State} (h : s.thm.trip = true) : domainsOff s = true := by
  simp [domainsOff, domainsHeld, h]

/-- A wake source changes no pin, drives no pixel and counts no entry. -/
theorem wakeBy_light (s : State) (src : Nat) : (wakeBy s src).scan = s.scan ∧ (wakeBy s src).pins = s.pins
    ∧ (wakeBy s src).flag SAFE.FB_CAUSE.LOWBEAM = s.flag SAFE.FB_CAUSE.LOWBEAM
    ∧ (wakeBy s src).reg SAFE.FB_ENTRIES.VALUE = s.reg SAFE.FB_ENTRIES.VALUE :=
  ⟨by simp, by simp, flag_eq_of_word (wakeBy_word (outside_of (by decide)) s src),
    reg_eq_of_word (wakeBy_word (outside_of (by decide)) s src)⟩

theorem lowbeamRise_effects {s : State} (h : s.thm.trip = false) :
    (lowbeamRise s).pins.lowbeam = true ∧ (lowbeamRise s).flag SAFE.FB_CAUSE.LOWBEAM = true
    ∧ (fbActive s = false → AllOnFallback (lowbeamRise s))
    ∧ (domainsOff s = false → fbActive s = false → Counted s (lowbeamRise s) SAFE.FB_ENTRIES.VALUE 1) := by
  unfold AllOnFallback Counted
  rw [lowbeamRise_eq]
  obtain ⟨hscan, hpins, hflag, hentries⟩ := wakeBy_light
    (if domainsOff s then lightRom (pinAt s true) else raiseCause (pinAt s true) SAFE.FB_CAUSE.LOWBEAM) 3
  rw [hscan, hpins, hflag, hentries]
  by_cases hoff : domainsOff s = true
  · rw [if_pos hoff, lightRom_of_high h]
    refine ⟨rfl, ?_, fun _ => allFallback_drive _, fun hon => absurd hoff (by simp [hon])⟩
    rw [flag_allFallback, flag_setFlag_ne _ _ _ _ (by decide)]
    exact flag_setFlag_self _ _ _ (by decide) (by decide)
  · rw [if_neg hoff]
    have henters (hb : fbActive s = false) :=
      raiseCause_enters (u := pinAt s true) (c := SAFE.FB_CAUSE.LOWBEAM) (by decide) hb rfl
    exact ⟨by simp [pinAt], raiseCause_flag_self _ _ (outside_of (by decide)) (by decide) (by decide),
      fun hb => (henters hb).1, fun _ hb => (henters hb).2⟩

/-- A hard trip keeps the array dark whatever the pin asks for (R487). -/
theorem lowbeamRise_of_trip {s : State} (h : s.thm.trip = true) :
    (lowbeamRise s).pins.lowbeam = true ∧ (lowbeamRise s).scan = s.scan := by
  rw [lowbeamRise_eq, if_pos (domainsOff_of_trip h), lightRom_of_trip h]
  obtain ⟨hscan, hpins, -⟩ := wakeBy_light (pinAt s true) 3
  rw [hscan, hpins]
  exact ⟨rfl, rfl⟩

theorem lowbeamFall_effects (s : State) : (lowbeamFall s).pins.lowbeam = false
    ∧ (lowbeamFall s).flag SAFE.FB_CAUSE.LOWBEAM = false ∧ (domainsOff s = false → (lowbeamFall s).scan = s.scan) := by
  have hcleared : ((pinAt s false).setFlag SAFE.FB_CAUSE.LOWBEAM false).flag SAFE.FB_CAUSE.LOWBEAM = false :=
    flag_setFlag_self _ _ _ (by decide) (by decide)
  unfold lowbeamFall
  dsimp only
  split
  · next hoff =>
    refine ⟨?_, ?_, fun hon => absurd hoff (by simp [hon])⟩
    · split <;> rfl
    · split
      · exact hcleared
      · exact hcleared
  · exact ⟨by simp, clearCause_flag_self _ _ (by decide) (by decide), fun _ => by simp⟩

/-! ### Strap re-reads (R260, R261) -/

/-- The straps as read now. -/
def strapsRead (s : State) (pads : List Strap) : State := { s with guard := { s.guard with strapsNow := pads } }

/-- A different strap word seen: STRAP_CHANGED shows it (R261). -/
def strapsDiffer (s : State) (pads : List Strap) : State := (strapsRead s pads).setFlag SAFE.SEAL.STRAP_CHANGED true

section
variable {s : State} {pads : List Strap}

theorem strapReread_of_same (h : strapWord pads = strapWord s.guard.straps) :
    exec (.strapReread pads) s = .next (strapsRead s pads) := if_pos h

variable (h : strapWord pads ≠ strapWord s.guard.straps)
include h

theorem strapReread_of_broken (hb : s.guard.limits.broken = true) :
    exec (.strapReread pads) s = .next (strapsDiffer s pads) := (if_neg h).trans (if_pos hb)

variable (hb : s.guard.limits.broken = false)
include hb

theorem strapReread_of_scanning (hen : s.flag SCAN.CTRL.EN = true) : exec (.strapReread pads) s
    = .next { strapsDiffer s pads with guard := { (strapsDiffer s pads).guard with breakDue := true } } :=
  (if_neg h).trans ((if_neg (by simp [hb])).trans (if_pos hen))

theorem strapReread_of_idle (hen : s.flag SCAN.CTRL.EN = false) :
    exec (.strapReread pads) s = .next (breakSeal (strapsDiffer s pads) 1) :=
  (if_neg h).trans ((if_neg (by simp [hb])).trans (if_neg (by simp [hen])))

end

theorem strapsDiffer_shown (s : State) (pads : List Strap) : (strapsDiffer s pads).flag SAFE.SEAL.STRAP_CHANGED = true :=
  flag_setFlag_self _ _ _ (by decide) (by decide)

/-- Limits forced to break are the broken ones, whatever the slot (R260). -/
theorem limitsOf_broken (s : State) : (limitsOf s true).broken = true := by
  unfold limitsOf
  split
  · rfl
  · split <;> rfl

/-- New limits show in SEAL_BROKEN whether they are the broken ones (R268). -/
theorem applyLimits_effects (s : State) (l : Limits) : (applyLimits s l).guard.limits = l
    ∧ (applyLimits s l).flag SAFE.STATUS.SEAL_BROKEN = l.broken := by
  refine ⟨rfl, ?_⟩
  unfold applyLimits
  dsimp only
  rw [flag_setReg_ne _ _ _ _ (by decide), flag_setReg_ne _ _ _ _ (by decide), flag_setFlag_ne _ _ _ _ (by decide),
    flag_setReg_ne _ _ _ _ (by decide), flag_setReg_ne _ _ _ _ (by decide), flag_setReg_ne _ _ _ _ (by decide),
    flag_setReg_ne _ _ _ _ (by decide), flag_setReg_ne _ _ _ _ (by decide), flag_setReg_ne _ _ _ _ (by decide),
    flag_setFlag_ne _ _ _ _ (by decide), flag_setFlag_ne _ _ _ _ (by decide)]
  exact flag_setFlag_self _ _ _ (by decide) (by decide)

/-- The broken limits in force and told, before source 11's fault. -/
def sealTold (s : State) (reason : Nat) : State :=
  raiseEvent (applyLimits s (limitsOf s true)) 0x0601 (toLe 1 reason ++ toLe 1 (slotShown s))

theorem breakSeal_eq (s : State) (reason : Nat) : breakSeal s reason = raiseFault (sealTold s reason) 11 2 := rfl

theorem breakSeal_limits (s : State) (reason : Nat) : (breakSeal s reason).guard.limits = limitsOf s true := by
  have hguard : (breakSeal s reason).guard = (applyLimits s (limitsOf s true)).guard := by simp [breakSeal_eq, sealTold]
  rw [hguard, (applyLimits_effects s _).1]

theorem breakSeal_sealBroken (s : State) (reason : Nat) : (breakSeal s reason).flag SAFE.STATUS.SEAL_BROKEN = true := by
  have hfault : (breakSeal s reason).flag SAFE.STATUS.SEAL_BROKEN = (sealTold s reason).flag SAFE.STATUS.SEAL_BROKEN :=
    flag_eq_of_word (raiseFault_word (outside_of (by decide +kernel)) _ 11 2)
  rw [hfault, sealTold, FrameTiming.flag_raiseEvent, (applyLimits_effects s _).2, limitsOf_broken]

/-- A broken seal tells its reason and slot, and raises source 11 as CONT. -/
theorem breakSeal_told (s : State) (reason : Nat) :
    Told s (breakSeal s reason) [(0x0601, toLe 1 reason ++ toLe 1 (slotShown s))] ∧ Faulted s (breakSeal s reason) 11 2 := by
  have hlimits (f : Field) (hf : Outside applyLimitsRegs (fieldKey f)) : (applyLimits s (limitsOf s true)).reg f = s.reg f :=
    reg_eq_of_word (applyLimits_word hf _ _)
  have htold : Told s (sealTold s reason) [(0x0601, toLe 1 reason ++ toLe 1 (slotShown s))] :=
    told_of_raiseEvent (hlimits _ (outside_of (by decide))) (by simp) (by simp) _ _
  have hjorosh : (breakSeal s reason).flt.jorosh = (sealTold s reason).flt.jorosh := by
    rw [breakSeal_eq, raiseFault, fatalAtDetection_of_ne (by decide)]
    rfl
  have hcount : wordAt (sealTold s reason).regs (fieldKey (FLT.COUNT.COUNT 11)) = wordAt s.regs (fieldKey (FLT.COUNT.COUNT 11)) :=
    (congrArg (fun m => wordAt m _) (by simp [sealTold])).trans (applyLimits_word (outside_of (by decide)) s (limitsOf s true))
  refine ⟨?_, faulted_before (sourceKept_of hcount rfl) (raiseFault_faulted _ 11 2)⟩
  unfold Told at htold ⊢
  rw [hjorosh, htold]

/-- Seeing a different strap word changes nothing that the limits, the event or the fault are taken from. -/
theorem breakSeal_of_strapsDiffer (s : State) (pads : List Strap) :
    Told s (breakSeal (strapsDiffer s pads) 1) [(0x0601, toLe 1 1 ++ toLe 1 (slotShown s))]
    ∧ Faulted s (breakSeal (strapsDiffer s pads) 1) 11 2 := by
  obtain ⟨htold, hfault⟩ := breakSeal_told (strapsDiffer s pads) 1
  have hnode : (strapsDiffer s pads).reg TXLA.NODE.ADDR = s.reg TXLA.NODE.ADDR := reg_setFlag_ne _ _ _ _ (by decide)
  refine ⟨?_, faulted_before (sourceKept_of (setFlag_word _ _ _ (by decide)) rfl) hfault⟩
  unfold Told eventOf at htold ⊢
  rw [hnode] at htold
  exact htold

/-- Settles O29: the pin, the Guard's failure and the straps, each by what its operation does to causes, drive and limits. -/
theorem fallbackCausesAndStraps : Obligations.FallbackCausesAndStraps := by
  unfold Obligations.FallbackCausesAndStraps
  refine ⟨⟨fun s hpin htrip => ?_, fun s hpin htrip => ?_, fun s hpin => ?_, fun s c hc => ?_, fun s => ?_⟩,
    fun s pads h => ?_, fun s pads h hb hen => ?_, fun s pads h hb hen => ?_, fun s pads h hb => ?_⟩
  · exact completes_of (congrArg Host.Outcome.next (if_neg (by simp [hpin]))) (lowbeamRise_effects htrip)
  · exact completes_of (congrArg Host.Outcome.next (if_neg (by simp [hpin]))) (lowbeamRise_of_trip htrip)
  · exact completes_of (congrArg Host.Outcome.next (if_pos hpin)) (lowbeamFall_effects s)
  · have hexec : exec c s = .next (guardFails s) := by rcases hc with rfl | rfl <;> rfl
    obtain ⟨hfail, hguard, hfatal⟩ := guardFails_causes s
    exact completes_of hexec ⟨hfail, hguard, hfatal, guardFails_faulted s, guardFails_enters, guardFails_errHeld⟩
  · exact completes_of rfl ⟨rfl, fun c => flag_of_regs c rfl⟩
  · exact completes_of (strapReread_of_same h) ⟨fun f => reg_of_regs f rfl, rfl, rfl, rfl⟩
  · obtain ⟨htold, hfault⟩ := breakSeal_of_strapsDiffer s pads
    have hlimits : (breakSeal (strapsDiffer s pads) 1).guard.limits = limitsOf s true := breakSeal_limits _ 1
    have hshown : (breakSeal (strapsDiffer s pads) 1).flag SAFE.SEAL.STRAP_CHANGED = true :=
      (flag_eq_of_word (breakSeal_word (outside_of (by decide +kernel)) _ 1)).trans (strapsDiffer_shown s pads)
    refine completes_of (strapReread_of_idle h hb hen) ⟨hshown, hlimits, ?_, breakSeal_sealBroken _ 1, htold, hfault⟩
    rw [hlimits, limitsOf_broken]
  · exact completes_of (strapReread_of_scanning h hb hen) ⟨strapsDiffer_shown s pads, rfl, rfl, rfl⟩
  · exact completes_of (strapReread_of_broken h hb) ⟨strapsDiffer_shown s pads, rfl⟩

end Sys2Proof.Machine.FallbackCauses
end

section
/-! PROOF. GuardCommands: FB_RELEASE, SAFE_WINDOW, FB_PATTERN and RESEAL (07_safety_functions.md, 02_pixel_array_and_drive.md). -/

namespace Sys2Proof.Machine.GuardCommands

open FrameTiming (flag_eq_of_word clearCause_flag_self reg_setReg_of_lt)
open KernelMail (command_of_runs refused_of_runs ok_of_runs)

/-! ### The causes released (R245, R248) -/

theorem clearCause_flag_ne (s : State) {c f : Field} (h : fieldKey c ≠ fieldKey f) : (clearCause s c).flag f = s.flag f :=
  flag_eq_of_word (clearCause_word ((outside_nil _).mpr trivial) s c h)

/-- The latched causes are down. -/
def released (s : State) : State := latchedCauses.foldl clearCause s

theorem released_keep (s : State) : (released s).mbx = s.mbx ∧ (released s).scan = s.scan := by
  simp [released, latchedCauses]

theorem released_down (s : State) : (released s).flag SAFE.FB_CAUSE.BLOCK = false
    ∧ (released s).flag SAFE.FB_CAUSE.FATAL = false ∧ (released s).flag SAFE.FB_CAUSE.CLOCK = false
    ∧ (released s).flag SAFE.FB_CAUSE.GUARD = false := by
  simp (disch := decide) [released, latchedCauses, clearCause_flag_ne, clearCause_flag_self]

theorem released_kept (s : State) : (released s).flag SAFE.FB_CAUSE.LOWBEAM = s.flag SAFE.FB_CAUSE.LOWBEAM
    ∧ (released s).flag SAFE.FB_CAUSE.M7 = s.flag SAFE.FB_CAUSE.M7
    ∧ (released s).flag SAFE.FB_CAUSE.SOFT_STOP = s.flag SAFE.FB_CAUSE.SOFT_STOP := by
  simp (disch := decide) [released, latchedCauses, clearCause_flag_ne]

theorem fbRelease_eq (mb : Nat) (s : State) : fbRelease mb s [] =
    if stillFails s then respond s mb 0x0D [] else respond (released s) mb 0 (toLe 4 (fbCauseWord (released s))) := rfl

theorem fbCauseWord_of_regs {s t : State} (h : t.regs = s.regs) : fbCauseWord t = fbCauseWord s := by
  simp only [fbCauseWord, State.flag, reg_of_regs _ h]

/-- The window that the host sets (R256). -/
def windowSet (s : State) (w : Nat) : State := { s with guard := { s.guard with window := w } }

theorem windowSet_windowMs (s : State) (w : Nat) : (windowSet s w).windowMs = max 1 (min s.guard.limits.windowMax w) := rfl

section
variable {s : State} {mb : Nat} (hm : MailOk s)
include hm

theorem fbRelease_completes (hr : Runs s mb 0x0601 []) : Completes (.fbRelease mb) s fun t =>
    (s.clk.lost = true ∨ s.guard.guardFail = true → Answered s t mb 0x0D [] ∧ t.regs = s.regs)
    ∧ (s.clk.lost = false → s.guard.guardFail = false →
      t.flag SAFE.FB_CAUSE.BLOCK = false ∧ t.flag SAFE.FB_CAUSE.FATAL = false ∧ t.flag SAFE.FB_CAUSE.CLOCK = false
      ∧ t.flag SAFE.FB_CAUSE.GUARD = false ∧ t.flag SAFE.FB_CAUSE.LOWBEAM = s.flag SAFE.FB_CAUSE.LOWBEAM
      ∧ t.flag SAFE.FB_CAUSE.M7 = s.flag SAFE.FB_CAUSE.M7 ∧ t.flag SAFE.FB_CAUSE.SOFT_STOP = s.flag SAFE.FB_CAUSE.SOFT_STOP
      ∧ t.scan = s.scan ∧ Answered s t mb 0 (toLe 4 (fbCauseWord t))) := by
  have hrun : exec (.fbRelease mb) s = .next (fbRelease mb s []) := congrArg Host.Outcome.next (command_of_runs hr _)
  by_cases hfail : stillFails s = true
  · rw [fbRelease_eq, if_pos hfail] at hrun
    refine completes_of hrun ⟨fun _ => ⟨refused_of_runs hm hr s rfl (by decide), by simp⟩, fun hlost hguard => ?_⟩
    simp [stillFails, hlost, hguard] at hfail
  · rw [fbRelease_eq, if_neg hfail] at hrun
    obtain ⟨hmbx, hscan⟩ := released_keep s
    obtain ⟨hblock, hfatal, hclock, hguard⟩ := released_down s
    obtain ⟨hlow, hm7, hsoft⟩ := released_kept s
    have hregs : (respond (released s) mb 0 (toLe 4 (fbCauseWord (released s)))).regs = (released s).regs := by simp
    refine completes_of hrun ⟨fun h => absurd (by simpa [stillFails] using h) hfail, fun _ _ => ?_⟩
    simp only [flag_of_regs _ hregs, fbCauseWord_of_regs hregs]
    exact ⟨hblock, hfatal, hclock, hguard, hlow, hm7, hsoft, by simp [hscan], ok_of_runs hm hr _ hmbx (by simp)⟩

/-! ### The window (R256) -/

theorem safeWindow_completes {p : List Byte} (hr : Runs s mb 0x0602 p) (hlen : p.length = 1) :
    Completes (.safeWindow mb) s fun t => t.windowMs = max 1 (min s.guard.limits.windowMax (leAt p 0 1))
      ∧ Answered s t mb 0 (toLe 1 t.windowMs) := by
  have hrun : exec (.safeWindow mb) s = .next (safeWindow mb s p) := congrArg Host.Outcome.next (command_of_runs hr _)
  have hset : safeWindow mb s p = respond (windowSet s (leAt p 0 1)) mb 0 (toLe 1 (windowSet s (leAt p 0 1)).windowMs) :=
    if_pos (beq_iff_eq.mpr hlen)
  rw [hset] at hrun
  have hwindow (d : List Byte) :
      (respond (windowSet s (leAt p 0 1)) mb 0 d).windowMs = (windowSet s (leAt p 0 1)).windowMs := by simp [State.windowMs]
  refine completes_of hrun ⟨(hwindow _).trans (windowSet_windowMs _ _), ?_⟩
  rw [hwindow]
  exact ok_of_runs hm hr (windowSet s (leAt p 0 1)) rfl (by simp)

end

/-! ### Commands that read DRAM (R496, R500, R506) -/

theorem dramExit_dramBytes (s : State) (a n : Nat) : (dramExit s).dramBytes a n = s.dramBytes a n := by
  simp [State.dramBytes, State.dramByte]

theorem dramExit_dramSize (s : State) : (dramExit s).dramSize = s.dramSize := by
  have hreg (f : Field) (h : Outside dramExitRegs (fieldKey f)) : (dramExit s).reg f = s.reg f :=
    reg_eq_of_word (dramExit_word h s)
  unfold State.dramSize
  rw [hreg DDRC.ORG.WIDTH (outside_of (by decide)), hreg DDRC.ORG.DENSITY (outside_of (by decide)),
    hreg DDRC.ORG.RANKS (outside_of (by decide))]

/-- With a good DRAM that holds the whole range, the command works on its bytes. -/
theorem withDram_of_ready {s : State} (mb : Nat) {a n : Nat} (f : State → List Byte → State)
    (hready : s.flag DDRC.STATUS.READY = true) (hfit : a + n ≤ s.dramSize) :
    withDram s mb a n f = f (dramExit s) (s.dramBytes a n) := by
  rw [withDram_eq, needDram_eq, if_pos hready, dramExit_dramSize, if_neg (by omega), dramExit_dramBytes]

/-! ### The fallback plane (R54, R249) -/

theorem popcount8_le (m : Nat) : popcount8 m ≤ 8 := by
  have hbit (k : Nat) : b2n (bit m k) ≤ 1 := by unfold b2n; split <;> omega
  have hsum : popcount8 m = b2n (bit m 0) + b2n (bit m 1) + b2n (bit m 2) + b2n (bit m 3) + b2n (bit m 4)
      + b2n (bit m 5) + b2n (bit m 6) + b2n (bit m 7) := by
    unfold popcount8
    rw [(by decide : List.range 8 = [0, 1, 2, 3, 4, 5, 6, 7])]
    simp only [List.foldl_cons, List.foldl_nil, Nat.zero_add]
  have := hbit 0; have := hbit 1; have := hbit 2; have := hbit 3
  have := hbit 4; have := hbit 5; have := hbit 6; have := hbit 7
  omega

/-- A byte lights at most eight pixels. -/
theorem litCount_le (b : List Byte) : litCount b ≤ b.length * 8 := by
  have hsum : litCount b = (b.map fun x => popcount8 x.toNat).sum := List.sum_eq_foldl.symm
  have hmost := List.sum_le_card_nsmul (b.map fun x => popcount8 x.toNat) 8 (by
    simp only [List.forall_mem_map]
    exact fun x _ => popcount8_le _)
  rw [hsum]
  simpa using hmost

theorem planeGet_planeSetRow_self (d : Nat) (m : Plane) (c r : Nat) (v : List Nat) :
    planeGet d (planeSetRow d m r v) c r = v.getD c d := by
  unfold planeGet planeSetRow
  rw [sparseGet_set_self]
  split
  · next hcommon =>
    rw [List.getD_nil, List.getD_eq_getElem?_getD]
    cases hv : v[c]? with
    | none => rfl
    | some x => exact (beq_iff_eq.mp (List.all_eq_true.mp hcommon x (List.mem_of_getElem? hv))).symm
  · rfl

theorem planeGet_planeSetRow_ne (d : Nat) (m : Plane) (c : Nat) {r x : Nat} (h : x ≠ r) (v : List Nat) :
    planeGet d (planeSetRow d m x v) c r = planeGet d m c r := by
  unfold planeGet planeSetRow
  rw [sparseGet_set_ne _ _ _ _ _ h]

/-- A plane written row by row reads back. -/
theorem planeGet_rows (f : Nat → List Nat) (rows : List Nat) (c : Nat) {r : Nat} (h : r ∈ rows) :
    planeGet 0 (rows.foldr (fun r m => planeSetRow 0 m r (f r)) []) c r = (f r).getD c 0 := by
  induction rows with
  | nil => exact absurd h (by simp)
  | cons x rows ih =>
    rw [List.foldr_cons]
    by_cases hx : x = r
    · rw [hx, planeGet_planeSetRow_self]
    · rw [planeGet_planeSetRow_ne 0 _ c hx, ih ((List.mem_cons.mp h).resolve_left (Ne.symm hx))]

theorem planeBits_getD (b : List Byte) (r : Nat) {c : Nat} (hc : c < 1024) :
    (planeBits b r).getD c 0 = b2n (bit (b.getD (128 * r + c / 8) 0).toNat (c % 8)) := by
  simp [planeBits, hc]

theorem belowCutoff_of_guard {s t : State} (h : t.guard = s.guard) (b : List Byte) : belowCutoff t b = belowCutoff s b := by
  unfold belowCutoff
  rw [h]

theorem loadFallback_mbx (s : State) (back : List Byte) (check count : Nat) :
    (loadFallback s back check count).mbx = s.mbx := rfl

theorem loadFallback_valid (s : State) (back : List Byte) (check count : Nat) :
    (loadFallback s back check count).flag SCAN.FB_CTRL.FB_VALID
      = decide ((crc32c 0 back).toNat = check ∧ belowCutoff s back = true) := by
  refine (flag_setFlag_self _ _ _ (by decide) (by decide)).trans ?_
  rw [Bool.eq_iff_iff]
  simp

theorem loadFallback_count (s : State) (back : List Byte) (check : Nat) {count : Nat} (h : count < 2 ^ 21) :
    (loadFallback s back check count).reg SCAN.FB_COUNT.COUNT = count :=
  (reg_setFlag_ne _ _ _ _ (by decide)).trans (reg_setReg_of_lt _ _ _ (by decide) h)

theorem loadFallback_plane (s : State) (back : List Byte) (check count : Nat) {c r : Nat} (hc : c < 1024) (hr : r < 1024) :
    planeGet 0 (loadFallback s back check count).pix.fb c r = b2n (bit (back.getD (128 * r + c / 8) 0).toNat (c % 8)) := by
  simp only [loadFallback, State.setFlag_pix, State.setReg_pix]
  rw [planeGet_rows (planeBits back) _ c (List.mem_range.mpr hr), planeBits_getD back r hc]

/-- FB_PATTERN with a good DRAM that holds its plane. -/
theorem fbPattern_eq (mb : Nat) (readBack : List (Nat × List Byte)) {s : State} {p : List Byte} (hlen : p.length = 12)
    (hready : s.flag DDRC.STATUS.READY = true) (hfit : leAt p 0 8 + 131072 ≤ s.dramSize) {b : List Byte}
    (hb : b = s.dramBytes (leAt p 0 8) 131072) {t : State}
    (ht : t = loadFallback (dramExit s) (readBackPlane b readBack) (leAt p 8 4) (litCount b)) :
    fbPattern mb readBack s p =
      if s.guard.limits.fbSel = 0 ∨ s.guard.limits.fbSel = 3 then respond s mb 0x0D []
      else if 12000000000 < litCount b * s.reg SCAN.IFB_STATUS.IFB_NA then respond (dramExit s) mb 0x0D []
      else respond t mb 0 (toLe 4 (litCount b) ++ toLe 1 (t.reg SCAN.FB_CTRL.FB_VALID)) := by
  have hcurrent : (dramExit s).reg SCAN.IFB_STATUS.IFB_NA = s.reg SCAN.IFB_STATUS.IFB_NA :=
    reg_eq_of_word (dramExit_word (outside_of (by decide)) s)
  unfold fbPattern
  rw [needLen_eq, if_pos (beq_iff_eq.mpr hlen), withDram_of_ready mb _ hready hfit, ← hb, hcurrent, ht]

section
variable {s : State} {mb : Nat} {p : List Byte} (hm : MailOk s)
include hm

theorem fbPattern_completes {b : List Byte} (readBack : List (Nat × List Byte)) (hr : Runs s mb 0x0603 p) (hlen : p.length = 12)
    (hready : s.flag DDRC.STATUS.READY = true) (hfit : leAt p 0 8 + 131072 ≤ s.dramSize)
    (hb : b = s.dramBytes (leAt p 0 8) 131072) {rb : List Byte} (hback : rb = readBackPlane b readBack) :
    Completes (.fbPattern mb readBack) s fun t =>
    (s.guard.limits.fbSel = 0 ∨ s.guard.limits.fbSel = 3 → Answered s t mb 0x0D [] ∧ t.pix = s.pix ∧ t.regs = s.regs)
    ∧ (s.guard.limits.fbSel ≠ 0 → s.guard.limits.fbSel ≠ 3 →
      (12000000000 < litCount b * s.reg SCAN.IFB_STATUS.IFB_NA → Answered s t mb 0x0D [] ∧ t.pix = s.pix)
      ∧ (litCount b * s.reg SCAN.IFB_STATUS.IFB_NA ≤ 12000000000 →
        t.flag SCAN.FB_CTRL.FB_VALID = decide ((crc32c 0 rb).toNat = leAt p 8 4 ∧ belowCutoff s rb = true)
        ∧ t.reg SCAN.FB_COUNT.COUNT = litCount b
        ∧ (∀ c r, c < 1024 → r < 1024 → planeGet 0 t.pix.fb c r = b2n (bit (rb.getD (128 * r + c / 8) 0).toNat (c % 8)))
        ∧ Answered s t mb 0 (toLe 4 (litCount b) ++ toLe 1 (t.reg SCAN.FB_CTRL.FB_VALID)))) := by
  have hrun : exec (.fbPattern mb readBack) s = .next (fbPattern mb readBack s p) :=
    congrArg Host.Outcome.next (command_of_runs hr _)
  obtain ⟨u, hu⟩ : ∃ u, u = loadFallback (dramExit s) (readBackPlane b readBack) (leAt p 8 4) (litCount b) := ⟨_, rfl⟩
  rw [fbPattern_eq mb readBack hlen hready hfit hb hu] at hrun
  by_cases hsel : s.guard.limits.fbSel = 0 ∨ s.guard.limits.fbSel = 3
  · rw [if_pos hsel] at hrun
    exact completes_of hrun ⟨fun _ => ⟨refused_of_runs hm hr s rfl (by decide), by simp, by simp⟩,
      fun h0 h3 => absurd hsel (by omega)⟩
  rw [if_neg hsel] at hrun
  by_cases hover : 12000000000 < litCount b * s.reg SCAN.IFB_STATUS.IFB_NA
  · rw [if_pos hover] at hrun
    exact completes_of hrun ⟨fun h => absurd h hsel, fun _ _ =>
      ⟨fun _ => ⟨refused_of_runs hm hr _ (by simp) (by decide), by simp⟩, fun h => absurd hover (by omega)⟩⟩
  · rw [if_neg hover] at hrun
    have hcount : litCount b < 2 ^ 21 := by
      have hmost := litCount_le b
      have hlit : b.length = 131072 := by rw [hb, State.dramBytes, List.length_map, List.length_range]
      omega
    have hguard : (dramExit s).guard = s.guard := by simp
    have hmbx : u.mbx = s.mbx := by rw [hu, loadFallback_mbx]; simp
    refine completes_of hrun ⟨fun h => absurd h hsel, fun _ _ => ⟨fun h => absurd h hover, fun _ => ?_⟩⟩
    obtain ⟨t, ht⟩ : ∃ t, t = respond u mb 0 (toLe 4 (litCount b) ++ toLe 1 (u.reg SCAN.FB_CTRL.FB_VALID)) := ⟨_, rfl⟩
    have hregs : t.regs = u.regs := by rw [ht]; simp
    have hpix : t.pix = u.pix := by rw [ht]; simp
    rw [← ht, flag_of_regs _ hregs, reg_of_regs _ hregs, reg_of_regs _ hregs, hpix]
    refine ⟨?_, ?_, fun c r hc hrow => ?_, ?_⟩
    · rw [hu, loadFallback_valid, hback, belowCutoff_of_guard hguard]
    · rw [hu, loadFallback_count _ _ _ hcount]
    · rw [hu, loadFallback_plane _ _ _ _ hc hrow, hback]
    · rw [ht]
      exact ok_of_runs hm hr u hmbx (by simp)

end

/-! ### A new seal (R262) -/

theorem sealRefused_dramExit (s : State) (b : List Byte) : sealRefused (dramExit s) b = sealRefused s b := by
  have hguard : (dramExit s).guard = s.guard := by simp
  have henable : (dramExit s).flag SCAN.CTRL.EN = s.flag SCAN.CTRL.EN := flag_eq_of_word (dramExit_word (outside_of (by decide)) s)
  have hmode : (dramExit s).mode = s.mode := by simp [State.mode, State.actReg]
  unfold sealRefused
  rw [hguard, henable, hmode]

theorem sealRefused_iff (s : State) (b : List Byte) : sealRefused s b = true ↔
    16 ≤ s.guard.otp.length ∨ leAt b 4 2 % 4096 ≠ strapWord s.guard.strapsNow ∨ sealInRange b = false
      ∨ s.flag SCAN.CTRL.EN = true ∧ s.mode ≠ 7 := by
  simp [sealRefused, or_assoc]

/-- RESEAL with a good DRAM that holds its image. -/
theorem reseal_eq (mb : Nat) (ok : Bool) {s : State} {p : List Byte} (hlen : p.length = 8)
    (hready : s.flag DDRC.STATUS.READY = true) (hfit : leAt p 0 8 + 1024 ≤ s.dramSize) {b : List Byte}
    (hb : b = s.dramBytes (leAt p 0 8) 1024) : reseal mb ok s p =
      if sealRefused s b then respond (dramExit s) mb 0x0D []
      else if ok then respond (programSlot (dramExit s) s.guard.otp.length b) mb 0 (toLe 1 s.guard.otp.length)
      else respond (tornSlot (dramExit s) s.guard.otp.length) mb 0x0B [] := by
  have hguard : (dramExit s).guard = s.guard := by simp
  unfold reseal
  rw [needLen_eq, if_pos (beq_iff_eq.mpr hlen), withDram_of_ready mb _ hready hfit, ← hb]
  dsimp only
  rw [sealRefused_dramExit, hguard]

theorem programSlot_spec (s : State) (n : Nat) (b : List Byte) : (programSlot s n b).mbx = s.mbx
    ∧ (programSlot s n b).guard.limits = s.guard.limits ∧ (programSlot s n b).guard.otp = s.guard.otp ++ [(n, b)]
    ∧ (programSlot s n b).guard.key.isSome ∧ (programSlot s n b).guard.hostKey.isSome
    ∧ (programSlot s n b).reg SAFE.SEAL.SLOTS_FREE = 15 - n :=
  ⟨rfl, rfl, rfl, rfl, rfl, reg_setReg_of_lt _ _ _ (by decide) (Nat.lt_of_le_of_lt (Nat.sub_le 15 n) (by decide))⟩

theorem tornSlot_spec (s : State) (n : Nat) : (tornSlot s n).mbx = s.mbx
    ∧ (tornSlot s n).guard.limits = s.guard.limits ∧ (∃ x, (tornSlot s n).guard.otp = s.guard.otp ++ [(n, x)])
    ∧ (tornSlot s n).reg SAFE.SEAL.SLOTS_FREE = 15 - n :=
  ⟨rfl, rfl, ⟨_, rfl⟩, reg_setReg_of_lt _ _ _ (by decide) (Nat.lt_of_le_of_lt (Nat.sub_le 15 n) (by decide))⟩

section
variable {s : State} {mb : Nat} {p : List Byte} (hm : MailOk s)
include hm

theorem reseal_completes {b : List Byte} (ok : Bool) (hr : Runs s mb 0x0604 p) (hlen : p.length = 8)
    (hready : s.flag DDRC.STATUS.READY = true) (hfit : leAt p 0 8 + 1024 ≤ s.dramSize)
    (hb : b = s.dramBytes (leAt p 0 8) 1024) : Completes (.reseal mb ok) s fun t =>
    t.guard.limits = s.guard.limits
    ∧ (16 ≤ s.guard.otp.length ∨ leAt b 4 2 % 4096 ≠ strapWord s.guard.strapsNow ∨ sealInRange b = false
        ∨ s.flag SCAN.CTRL.EN = true ∧ s.mode ≠ 7 → Answered s t mb 0x0D [] ∧ t.guard = s.guard)
    ∧ (s.guard.otp.length < 16 → leAt b 4 2 % 4096 = strapWord s.guard.strapsNow → sealInRange b = true →
        (s.flag SCAN.CTRL.EN = false ∨ s.mode = 7) →
      t.reg SAFE.SEAL.SLOTS_FREE = 15 - s.guard.otp.length
      ∧ (ok = true → Answered s t mb 0 (toLe 1 s.guard.otp.length) ∧ t.guard.otp = s.guard.otp ++ [(s.guard.otp.length, b)]
        ∧ t.guard.key.isSome ∧ t.guard.hostKey.isSome)
      ∧ (ok = false → Answered s t mb 0x0B [] ∧ ∃ x, t.guard.otp = s.guard.otp ++ [(s.guard.otp.length, x)])) := by
  have hrun : exec (.reseal mb ok) s = .next (reseal mb ok s p) := congrArg Host.Outcome.next (command_of_runs hr _)
  have hguard : (dramExit s).guard = s.guard := by simp
  have hmbx : (dramExit s).mbx = s.mbx := by simp
  rw [reseal_eq mb ok hlen hready hfit hb] at hrun
  by_cases href : sealRefused s b = true
  · rw [if_pos href] at hrun
    refine completes_of hrun ⟨by simp, fun _ => ⟨refused_of_runs hm hr _ hmbx (by decide), by simp⟩,
      fun hfree hstraps hrange hidle => ?_⟩
    rcases (sealRefused_iff s b).mp href with h | h | h | ⟨hen, hmode⟩
    · exact absurd h (by omega)
    · exact absurd hstraps h
    · exact absurd hrange (by simp [h])
    · exact absurd hidle (by simp [hen, hmode])
  rw [if_neg href] at hrun
  cases ok with
  | true =>
    rw [if_pos rfl] at hrun
    obtain ⟨hbox, hlimits, hotp, hkey, hhost, hslots⟩ := programSlot_spec (dramExit s) s.guard.otp.length b
    rw [hguard] at hlimits hotp
    refine completes_of hrun ⟨by simp [hlimits], fun h => absurd ((sealRefused_iff s b).mpr h) href,
      fun _ _ _ _ => ⟨?_, fun _ => ?_, nofun⟩⟩
    · exact (reg_of_regs _ (by simp)).trans hslots
    · exact ⟨ok_of_runs hm hr _ (hbox.trans hmbx) (by simp), by simp [hotp], by simp [hkey], by simp [hhost]⟩
  | false =>
    rw [if_neg Bool.false_ne_true] at hrun
    obtain ⟨hbox, hlimits, hotp, hslots⟩ := tornSlot_spec (dramExit s) s.guard.otp.length
    rw [hguard] at hlimits hotp
    refine completes_of hrun ⟨by simp [hlimits], fun h => absurd ((sealRefused_iff s b).mpr h) href,
      fun _ _ _ _ => ⟨?_, nofun, fun _ => ?_⟩⟩
    · exact (reg_of_regs _ (by simp)).trans hslots
    · exact ⟨refused_of_runs hm hr _ (hbox.trans hmbx) (by decide), by simp [hotp]⟩

end

end Sys2Proof.Machine.GuardCommands
end

section
/-! PROOF. PixelMapCommands: PIXEL_AGE, MAP_READ and MAP_CLEAR (08_pixel_diagnostics_and_healing.md). -/

namespace Sys2Proof.Machine.PixelMapCommands

open FrameTiming (flag_eq_of_word)
open KernelMail (command_of_runs ok_of_runs leAt_middle)

/-! ### One number for each element of a list -/

theorem length_flatMap_toLe {α : Type} (l : List α) (g : α → Nat) (k : Nat) :
    (l.flatMap fun x => toLe k (g x)).length = l.length * k := by simp [List.length_flatMap]

/-- The numbers read back from their places. -/
theorem leAt_flatMap_toLe {α : Type} (l : List α) (g : α → Nat) (k : Nat) {i : Nat} (hi : i < l.length) :
    leAt (l.flatMap fun x => toLe k (g x)) (i * k) k = g l[i] % 256 ^ k := by
  have hlist : l.take i ++ l[i] :: l.drop (i + 1) = l := by rw [← List.drop_eq_getElem_cons hi, List.take_append_drop]
  have hsplit := congrArg (List.flatMap fun x => toLe k (g x)) hlist
  have hpre : ((l.take i).flatMap fun x => toLe k (g x)).length = i * k := by
    rw [length_flatMap_toLe, List.length_take, Nat.min_eq_left (by omega)]
  have hread := leAt_middle ((l.take i).flatMap fun x => toLe k (g x)) ((l.drop (i + 1)).flatMap fun x => toLe k (g x)) k (g l[i])
  rw [hpre] at hread
  rw [List.flatMap_append, List.flatMap_cons] at hsplit
  rw [← hsplit]
  exact hread

/-! ### Ages and entries (R278, R288) -/

theorem ageMs_lt (s : State) (c r : Nat) : ageMs s c r < 65536 := by
  unfold ageMs
  split <;> omega

section
variable {s : State} {mb : Nat} {p : List Byte} (hm : MailOk s)
include hm

theorem pixelAge_completes {n r c : Nat} (hr : Runs s mb 0x0701 p) (hlen : p.length = 8) (hrow : r = leAt p 0 2)
    (hcol : c = leAt p 2 2) (hn : n = leAt p 4 1) (hrmax : r ≤ 1023) (hlo : 1 ≤ n) (hhi : n ≤ 120) (hend : c + n ≤ 1024) :
    Completes (.pixelAge mb) s fun t => ∃ d : List Byte, Answered s t mb 0 d ∧ d.length = 2 * n
      ∧ ∀ i < n, leAt d (2 * i) 2 = if mapped s (c + i) r then 0xFFFF else min 0xFFFF (pixelAgeTicks s (c + i) r / 400000) := by
  have hok : pixelRunOk p 120 = true := decide_eq_true (by omega)
  have hage : pixelAge mb s p = respond s mb 0 ((List.range n).flatMap fun i => toLe 2 (ageMs s (c + i) r)) := by
    unfold pixelAge
    rw [needLen_eq, if_pos (beq_iff_eq.mpr hlen), if_pos hok, pixelRun, ← hrow, ← hcol, ← hn]
  have hrun : exec (.pixelAge mb) s = .next (pixelAge mb s p) := congrArg Host.Outcome.next (command_of_runs hr _)
  rw [hage] at hrun
  have hdata := length_flatMap_toLe (List.range n) (fun i => ageMs s (c + i) r) 2
  rw [List.length_range] at hdata
  refine completes_of hrun ⟨_, ok_of_runs hm hr s rfl (by omega), by omega, fun i hi => ?_⟩
  have hread := leAt_flatMap_toLe (List.range n) (fun i => ageMs s (c + i) r) 2 (i := i) (by simpa using hi)
  rw [List.getElem_range, Nat.mod_eq_of_lt (b := 256 ^ 2) (ageMs_lt _ _ _), Nat.mul_comm] at hread
  exact hread

theorem mapRead_completes (hr : Runs s mb 0x0702 p) (hlen : p.length = 4) (hlo : 1 ≤ leAt p 2 1) (hhi : leAt p 2 1 ≤ 60) :
    Completes (.mapRead mb) s fun t => Answered s t mb 0 (toLe 2 s.diag.map.length ++ [0, 0]
      ++ ((s.diag.map.drop (leAt p 0 2)).take (leAt p 2 1)).flatMap mapEntryBytes) := by
  have hread : mapRead mb s p = respond s mb 0 (toLe 2 s.diag.map.length ++ [0, 0]
      ++ ((s.diag.map.drop (leAt p 0 2)).take (leAt p 2 1)).flatMap mapEntryBytes) :=
    (if_pos (beq_iff_eq.mpr hlen)).trans (if_neg (by omega))
  have hrun : exec (.mapRead mb) s = .next (mapRead mb s p) := congrArg Host.Outcome.next (command_of_runs hr _)
  rw [hread] at hrun
  refine completes_of hrun (ok_of_runs hm hr s rfl ?_)
  have hentries (l : List MapEntry) : (l.flatMap mapEntryBytes).length = l.length * 4 := by
    simp [List.length_flatMap, mapEntryBytes]
  have htaken := List.length_take_le (leAt p 2 1) (s.diag.map.drop (leAt p 0 2))
  rw [List.length_append, List.length_append, length_toLe, hentries]
  simp only [List.length_cons, List.length_nil]
  omega

end

/-! ### Pixels that leave the map (R289) -/

theorem unmapPixel_map (s : State) (c r : Nat) :
    (unmapPixel s c r).diag.map = s.diag.map.filter (fun e => (e.col, e.row) != (c, r)) := by
  simp only [unmapPixel, writeTrim_keep]
  rfl

theorem mapped_iff (s : State) (c r : Nat) : mapped s c r = true ↔ ∃ e ∈ s.diag.map, (e.col, e.row) = (c, r) := by
  simp [mapped]

/-- A position cleared is out of the map, and every other entry stays. -/
theorem clearPosition_map (a : State × Nat) (x : Nat × Nat) :
    (clearPosition a x).1.diag.map = a.1.diag.map.filter (fun e => (e.col, e.row) != x) := by
  unfold clearPosition
  split
  · exact unmapPixel_map a.1 x.1 x.2
  · next h =>
    refine (List.filter_eq_self.mpr fun e he => ?_).symm
    exact bne_iff_ne.mpr fun hx => h ((mapped_iff _ _ _).mpr ⟨e, he, hx⟩)

theorem clearPosition_mapped (a : State × Nat) (x y : Nat × Nat) :
    mapped (clearPosition a x).1 y.1 y.2 = (mapped a.1 y.1 y.2 && y != x) := by
  rw [Bool.eq_iff_iff, Bool.and_eq_true, mapped_iff, mapped_iff, clearPosition_map]
  simp only [List.mem_filter, bne_iff_ne]
  exact ⟨fun ⟨e, ⟨he, hne⟩, hy⟩ => ⟨⟨e, he, hy⟩, fun h => hne (hy.trans h)⟩,
    fun ⟨⟨e, he, hy⟩, hne⟩ => ⟨e, ⟨he, fun h => hne (hy.symm.trans h)⟩, hy⟩⟩

theorem clearPosition_of_unmapped {a : State × Nat} {x : Nat × Nat} (h : mapped a.1 x.1 x.2 = false) : clearPosition a x = a := by
  unfold clearPosition
  rw [if_neg (by simp [h])]

theorem clearPosition_count (a : State × Nat) (x : Nat × Nat) : (clearPosition a x).2 = a.2 + b2n (mapped a.1 x.1 x.2) := by
  unfold clearPosition
  split
  · next h => rw [h]; rfl
  · next h => rw [Bool.eq_false_iff.mpr h]; rfl

theorem clearPositions_map (l : List (Nat × Nat)) (a : State × Nat) :
    (l.foldl clearPosition a).1.diag.map = a.1.diag.map.filter (fun e => !l.contains (e.col, e.row)) := by
  induction l generalizing a with
  | nil => simp
  | cons x l ih =>
    rw [List.foldl_cons, ih, clearPosition_map, List.filter_filter]
    refine List.filter_congr fun e _ => ?_
    rw [List.contains_cons, Bool.not_or, Bool.and_comm]
    rfl

/-- Where no position is mapped nothing changes. -/
theorem clearPositions_of_unmapped {l : List (Nat × Nat)} {a : State × Nat} (h : ∀ x ∈ l, mapped a.1 x.1 x.2 = false) :
    l.foldl clearPosition a = a := by
  induction l with
  | nil => rfl
  | cons x l ih =>
    rw [List.foldl_cons, clearPosition_of_unmapped (h x (by simp))]
    exact ih fun y hy => h y (List.mem_cons_of_mem x hy)

/-- A position that is out of the map may be named again without effect. -/
theorem clearPositions_skip {x : Nat × Nat} (l : List (Nat × Nat)) {a : State × Nat} (h : mapped a.1 x.1 x.2 = false) :
    (l.filter (fun y => !y == x)).foldl clearPosition a = l.foldl clearPosition a := by
  induction l generalizing a with
  | nil => rfl
  | cons y l ih =>
    by_cases hy : y = x
    · rw [List.filter_cons_of_neg (by simp [hy]), List.foldl_cons, hy, clearPosition_of_unmapped h, ih h]
    · rw [List.filter_cons_of_pos (by simp [hy]), List.foldl_cons, List.foldl_cons, ih]
      rw [clearPosition_mapped, h, Bool.false_and]

/-- The count is of the mapped positions, each taken once however often it is named. -/
theorem clearPositions_count (l : List (Nat × Nat)) (a : State × Nat) :
    (l.foldl clearPosition a).2 = a.2 + l.eraseDups.countP (fun x => mapped a.1 x.1 x.2) := by
  induction hn : l.length using Nat.strong_induction_on generalizing l a with
  | h n ih =>
    cases l with
    | nil => simp
    | cons x l =>
      have hout : mapped (clearPosition a x).1 x.1 x.2 = false := by simp [clearPosition_mapped]
      have hshorter : (l.filter (fun y => !y == x)).length < n := by
        have := List.length_filter_le (fun y => !y == x) l
        rw [List.length_cons] at hn
        omega
      have hsame : (l.filter (fun y => !y == x)).eraseDups.countP (fun y => mapped (clearPosition a x).1 y.1 y.2)
          = (l.filter (fun y => !y == x)).eraseDups.countP (fun y => mapped a.1 y.1 y.2) := by
        refine List.countP_congr fun y hy => ?_
        have hne : y ≠ x := by simpa using (List.mem_filter.mp (List.mem_eraseDups.mp hy)).2
        simp [clearPosition_mapped, hne]
      rw [List.foldl_cons, ← clearPositions_skip l hout, ih _ hshorter _ _ rfl, hsame, List.eraseDups_cons, List.countP_cons,
        clearPosition_count, b2n]
      omega

/-! ### The map committed (R289, R512) -/

theorem committed_of_mram {s t u : State} {num : Nat} {data : List Byte} (hu : u.mram = s.mram)
    (ht : t.mram = (commitRecord u num data true).mram) : Committed s t num data := by
  have hrec (v : State) : recOf v num = sparseGet ⟨none, none⟩ v.mram.recs num := rfl
  have hsame : recOf u num = recOf s num := by rw [hrec, hrec, hu]
  unfold Committed
  rw [hrec t, ht, ← hu, ← hsame]
  simp [commitRecord]

theorem mapPayload_of_map {s t : State} (h : t.diag.map = s.diag.map) : mapPayload t = mapPayload s := by
  unfold mapPayload
  rw [h]

theorem mayCommit_of {s t : State} (num : Nat) (hmram : t.mram = s.mram)
    (hsoft : t.flag SAFE.FB_CAUSE.SOFT_STOP = s.flag SAFE.FB_CAUSE.SOFT_STOP) : mayCommit t num = mayCommit s num := by
  unfold mayCommit allowance
  rw [hmram, hsoft]

theorem clearPositions_mayCommit (l : List (Nat × Nat)) (s : State) :
    mayCommit (l.foldl clearPosition (s, 0)).1 0x11 = mayCommit s 0x11 :=
  mayCommit_of 0x11 (by simp) (flag_eq_of_word (clearPosition_fold_word (outside_of (by decide)) l (s, 0)))

/-- The map cleared of the positions of `l`, and committed where a position left it and a commit may be made. -/
def mapCleared (s : State) (l : List (Nat × Nat)) : State :=
  if (l.foldl clearPosition (s, 0)).2 ≠ 0 ∧ mayCommit (l.foldl clearPosition (s, 0)).1 0x11 then
    commitMap (l.foldl clearPosition (s, 0)).1 else (l.foldl clearPosition (s, 0)).1

section
variable (s : State) (l : List (Nat × Nat))

theorem mapCleared_mbx : (mapCleared s l).mbx = s.mbx := by
  unfold mapCleared
  split <;> simp

theorem mapCleared_map : (mapCleared s l).diag.map = s.diag.map.filter (fun e => !l.contains (e.col, e.row)) := by
  have hmap := clearPositions_map l (s, 0)
  unfold mapCleared
  split
  · simpa [commitMap] using hmap
  · exact hmap

theorem mapCleared_of_unmapped (h : ∀ x ∈ l, mapped s x.1 x.2 = false) : mapCleared s l = s := by
  have hnone : l.foldl clearPosition (s, 0) = (s, 0) := clearPositions_of_unmapped h
  unfold mapCleared
  rw [hnone, if_neg (by simp)]

theorem mapCleared_mram (hmay : mayCommit s 0x11 = true) (h : ∃ x ∈ l, mapped s x.1 x.2 = true) :
    (mapCleared s l).mram = (commitRecord (l.foldl clearPosition (s, 0)).1 0x11 (mapPayload (mapCleared s l)) true).mram := by
  obtain ⟨x, hx, hmapped⟩ := h
  have hcount : (l.foldl clearPosition (s, 0)).2 ≠ 0 := by
    have hpos : 0 < l.eraseDups.countP (fun x => mapped s x.1 x.2) :=
      List.countP_pos_iff.mpr ⟨x, List.mem_eraseDups.mpr hx, hmapped⟩
    rw [clearPositions_count]
    simp only
    omega
  have hpayload : mapPayload (mapCleared s l) = mapPayload (l.foldl clearPosition (s, 0)).1 :=
    mapPayload_of_map ((mapCleared_map s l).trans (clearPositions_map l (s, 0)).symm)
  rw [hpayload]
  unfold mapCleared
  rw [if_pos ⟨hcount, (clearPositions_mayCommit l s).trans hmay⟩]
  rfl

end

theorem mapClear_eq (mb : Nat) (s : State) {p : List Byte} {n : Nat} {l : List (Nat × Nat)} (hn : n = leAt p 0 1) (hlo : 1 ≤ n)
    (hhi : n ≤ 32) (hlen : p.length = 4 + 4 * n)
    (hl : l = (List.range n).map (fun i => (leAt p (4 + 4 * i) 2, leAt p (6 + 4 * i) 2))) :
    mapClear mb s p = respond (mapCleared s l) mb 0 (toLe 1 (l.eraseDups.countP (fun x => mapped s x.1 x.2))) := by
  have hcount := clearPositions_count l (s, 0)
  rw [Nat.zero_add] at hcount
  unfold mapClear
  dsimp only
  rw [← hn, needLen_eq, if_pos (beq_iff_eq.mpr hlen), if_neg (by omega), ← hl, hcount]
  unfold mapCleared
  rw [hcount]

theorem mapClear_completes {s : State} {mb n : Nat} {p : List Byte} {l : List (Nat × Nat)} (hm : MailOk s)
    (hr : Runs s mb 0x0703 p) (hn : n = leAt p 0 1) (hlo : 1 ≤ n) (hhi : n ≤ 32) (hlen : p.length = 4 + 4 * n)
    (hl : l = (List.range n).map (fun i => (leAt p (4 + 4 * i) 2, leAt p (6 + 4 * i) 2))) : Completes (.mapClear mb) s fun t =>
    t.diag.map = s.diag.map.filter (fun e => !l.contains (e.col, e.row))
    ∧ Answered s t mb 0 (toLe 1 (l.eraseDups.countP (fun x => mapped s x.1 x.2)))
    ∧ (mayCommit s 0x11 = true → (∃ x ∈ l, mapped s x.1 x.2 = true) → Committed s t 0x11 (mapPayload t))
    ∧ ((∀ x ∈ l, mapped s x.1 x.2 = false) → t.mram = s.mram ∧ t.pix = s.pix) := by
  have hrun : exec (.mapClear mb) s = .next (mapClear mb s p) := congrArg Host.Outcome.next (command_of_runs hr _)
  rw [mapClear_eq mb s hn hlo hhi hlen hl] at hrun
  refine completes_of hrun ⟨by simp [mapCleared_map], ok_of_runs hm hr _ (mapCleared_mbx s l) (by simp), fun hmay hsome => ?_,
    fun hnone => by simp [mapCleared_of_unmapped s l hnone]⟩
  refine committed_of_mram (u := (l.foldl clearPosition (s, 0)).1) (by simp) ?_
  rw [mapPayload_of_map (s := mapCleared s l) (by simp), ← mapCleared_mram s l hmay hsome]
  simp

end Sys2Proof.Machine.PixelMapCommands
end

section
/-! PROOF. FaultInjection: an injected fault at its source's detector, and the ones queued behind it (17_faults_and_reactions.md). -/

namespace Sys2Proof.Machine.FaultInjection

open FrameTiming (flag_eq_of_word reg_lt)
open EngineLoss (healthy outOfService retiredShown lossShown lossShown_keep reg_lossShown spareAsked spareAsked_keep reg_spareAsked)
open KernelMail (command_of_runs refused_of_runs ok_of_runs)

/-! ### The registers of an injection (R541, R550) -/

/-- The fault counts are a block of words of their own. -/
theorem count_outside {l : List Field}
    (h : l.all (fun f => decide (fieldKey f < 0x30100 * 32 ∨ 0x30280 * 32 ≤ fieldKey f)) = true) (src : Nat) :
    Outside l (fieldKey (FLT.COUNT.COUNT src)) := by
  intro f hf
  have hfar := of_decide_eq_true (List.all_eq_true.mp h f hf)
  have hkey : fieldKey (FLT.COUNT.COUNT src) = (0x30100 + 4 * (src % 96)) * 32 := rfl
  omega

theorem count_ne {f : Field} (h : fieldKey f < 0x30100 * 32 ∨ 0x30280 * 32 ≤ fieldKey f) (src : Nat) :
    fieldKey f ≠ fieldKey (FLT.COUNT.COUNT src) := by
  have hkey : fieldKey (FLT.COUNT.COUNT src) = (0x30100 + 4 * (src % 96)) * 32 := rfl
  omega

/-! ### The FATAL cause of an injected fault (R536) -/

theorem raiseCauseInj_injections (s : State) (c : Field) (inj : Bool) : (raiseCauseInj s c inj).flt.inj = s.flt.inj
    ∧ (raiseCauseInj s c inj).flt.inject = s.flt.inject := by
  unfold raiseCauseInj
  split
  · exact ⟨rfl, rfl⟩
  · dsimp only
    split <;> split <;> exact ⟨rfl, rfl⟩

/-- A cause raised by an injected fault shows in its flag too. -/
theorem raiseCauseInj_flag_self (s : State) (c : Field) (inj : Bool) (hk : Outside enterFallbackRegs (fieldKey c)) (hw : c.width ≤ 32)
    (h1 : 0 < c.width) : (raiseCauseInj s c inj).flag c = true := by
  have hset : (s.setFlag c true).flag c = true := flag_setFlag_self s c true hw h1
  have henter : (enterFallback (s.setFlag c true) inj).flag c = true := (flag_eq_of_word (enterFallback_word hk _ _)).trans hset
  have hup : (if fbActive s then s.setFlag c true else enterFallback (s.setFlag c true) inj).flag c = true := by
    split
    · exact hset
    · exact henter
  unfold raiseCauseInj
  split
  · assumption
  · dsimp only
    split
    · exact hup
    · exact hup

theorem raiseCauseInj_fatal (s : State) (inj : Bool) : (raiseCauseInj s SAFE.FB_CAUSE.FATAL inj).flag SAFE.FB_CAUSE.FATAL = true :=
  raiseCauseInj_flag_self s _ inj (outside_of (by decide)) (by decide) (by decide)

theorem fatalAtDetection_injections (s : State) (src cls : Nat) (inj : Bool) :
    (fatalAtDetection s src cls inj).flt.inj = s.flt.inj ∧ (fatalAtDetection s src cls inj).flt.inject = s.flt.inject := by
  unfold fatalAtDetection
  split
  · exact raiseCauseInj_injections s _ inj
  · exact ⟨rfl, rfl⟩

theorem fatalAtDetection_stays {s : State} (h : s.flag SAFE.FB_CAUSE.FATAL = true) (src cls : Nat) (inj : Bool) :
    (fatalAtDetection s src cls inj).flag SAFE.FB_CAUSE.FATAL = true := by
  unfold fatalAtDetection
  split
  · exact raiseCauseInj_fatal s inj
  · exact h

/-! ### What stays of an injected fault while more follows -/

/-- What was injected at source `src` in state `s` still stands in `t`. -/
structure InjectionKept (src : Nat) (s t : State) : Prop where
  waiting : sparseGet none t.flt.inj src = sparseGet none s.flt.inj src
  queued : t.flt.inject = s.flt.inject
  real : t.reg (FLT.COUNT.COUNT src) = s.reg (FLT.COUNT.COUNT src)
  counted : s.reg FLT.INJ_COUNT.COUNT ≤ t.reg FLT.INJ_COUNT.COUNT
  fatal : s.flag SAFE.FB_CAUSE.FATAL = true → t.flag SAFE.FB_CAUSE.FATAL = true

theorem InjectionKept.trans {src : Nat} {s t u : State} (h : InjectionKept src s t) (k : InjectionKept src t u) :
    InjectionKept src s u where
  waiting := k.waiting.trans h.waiting
  queued := k.queued.trans h.queued
  real := k.real.trans h.real
  counted := h.counted.trans k.counted
  fatal hf := k.fatal (h.fatal hf)

/-- What touches neither the injections nor the three registers keeps them. -/
theorem injectionKept_of {src : Nat} {s t : State} (hinj : t.flt.inj = s.flt.inj ∧ t.flt.inject = s.flt.inject)
    (hreal : t.reg (FLT.COUNT.COUNT src) = s.reg (FLT.COUNT.COUNT src))
    (hcount : t.reg FLT.INJ_COUNT.COUNT = s.reg FLT.INJ_COUNT.COUNT)
    (hfatal : t.reg SAFE.FB_CAUSE.FATAL = s.reg SAFE.FB_CAUSE.FATAL) : InjectionKept src s t where
  waiting := by rw [hinj.1]
  queued := hinj.2
  real := hreal
  counted := hcount.ge
  fatal hf := by simpa only [State.flag, hfatal] using hf

/-- A fault of class `cls` was injected at source `src` (R536, R540, R541). -/
structure Injected (s t : State) (src cls : Nat) : Prop where
  waiting : ∃ w, sparseGet none t.flt.inj src = some w ∧ cls ≤ w.cls
  queued : t.flt.inject = s.flt.inject
  real : t.reg (FLT.COUNT.COUNT src) = s.reg (FLT.COUNT.COUNT src)
  counted : s.reg FLT.INJ_COUNT.COUNT < 0xFFFFFFFF → s.reg FLT.INJ_COUNT.COUNT < t.reg FLT.INJ_COUNT.COUNT
  fatal : cls = 3 → 3 ∈ sourceClasses src → t.flag SAFE.FB_CAUSE.FATAL = true

theorem Injected.after {s t u : State} {src cls : Nat} (h : Injected s t src cls) (k : InjectionKept src t u) :
    Injected s u src cls where
  waiting := by rw [k.waiting]; exact h.waiting
  queued := k.queued.trans h.queued
  real := k.real.trans h.real
  counted hlt := (h.counted hlt).trans_le k.counted
  fatal hcls hsrc := k.fatal (h.fatal hcls hsrc)

theorem Injected.before {s t u : State} {src cls : Nat} (h : Injected t u src cls) (hqueued : t.flt.inject = s.flt.inject)
    (hreal : t.reg (FLT.COUNT.COUNT src) = s.reg (FLT.COUNT.COUNT src))
    (hcount : t.reg FLT.INJ_COUNT.COUNT = s.reg FLT.INJ_COUNT.COUNT) : Injected s u src cls where
  waiting := h.waiting
  queued := h.queued.trans hqueued
  real := h.real.trans hreal
  counted := by rw [← hcount]; exact h.counted
  fatal := h.fatal

/-! ### One detection (R540, R541) -/

/-- The request and the count of an injected fault, before the FATAL cause. -/
def injectedShown (s : State) (src cls : Nat) : State :=
  { s.bump FLT.INJ_COUNT.COUNT with flt := { s.flt with
    inj := sparseSet none s.flt.inj src (mergeWait (sparseGet none s.flt.inj src) cls s.now) } }

theorem raiseInjected_eq (s : State) (src cls : Nat) :
    raiseInjected s src cls = fatalAtDetection (injectedShown s src cls) src cls true := rfl

theorem injectedShown_reg (s : State) (src cls : Nat) {f : Field} (h : fieldKey FLT.INJ_COUNT.COUNT ≠ fieldKey f) :
    (injectedShown s src cls).reg f = s.reg f :=
  (reg_of_regs f rfl).trans (reg_bump_ne s _ f h)

theorem raiseInjected_count (s : State) (src cls : Nat) :
    (raiseInjected s src cls).reg FLT.INJ_COUNT.COUNT = min 0xFFFFFFFF (s.reg FLT.INJ_COUNT.COUNT + 1) := by
  rw [raiseInjected_eq]
  exact (reg_eq_of_word (fatalAtDetection_word (outside_of (by decide)) _ src cls true)).trans
    ((reg_of_regs _ rfl).trans (reg_bump_self s _ (by decide)))

theorem raiseInjected_real (s : State) (src cls k : Nat) :
    (raiseInjected s src cls).reg (FLT.COUNT.COUNT k) = s.reg (FLT.COUNT.COUNT k) := by
  rw [raiseInjected_eq]
  exact (reg_eq_of_word (fatalAtDetection_word (count_outside (by decide) k) _ src cls true)).trans
    (injectedShown_reg s src cls (count_ne (by decide) k))

theorem raiseInjected_injected (s : State) (src cls : Nat) : Injected s (raiseInjected s src cls) src cls where
  waiting := by
    rw [raiseInjected_eq, (fatalAtDetection_injections _ src cls true).1]
    simp only [injectedShown, sparseGet_set_self]
    unfold mergeWait
    split
    · exact ⟨_, rfl, Nat.le_refl _⟩
    · exact ⟨_, rfl, Nat.le_max_right _ _⟩
  queued := (fatalAtDetection_injections _ src cls true).2
  real := raiseInjected_real s src cls src
  counted hlt := by
    rw [raiseInjected_count]
    omega
  fatal hcls hsrc := by
    rw [raiseInjected_eq, fatalAtDetection, if_pos ⟨hcls, hsrc⟩]
    exact raiseCauseInj_fatal _ true

/-- An injected fault leaves the other sources' alone. -/
theorem raiseInjected_kept {src k : Nat} (hne : src ≠ k) (s : State) (cls : Nat) : InjectionKept k s (raiseInjected s src cls) where
  waiting := by
    rw [raiseInjected_eq, (fatalAtDetection_injections _ src cls true).1]
    exact sparseGet_set_ne none _ _ _ _ hne
  queued := (fatalAtDetection_injections _ src cls true).2
  real := raiseInjected_real s src cls k
  counted := by
    have := reg_lt s FLT.INJ_COUNT.COUNT
    rw [raiseInjected_count]
    omega
  fatal hf := by
    have hshown : (injectedShown s src cls).reg SAFE.FB_CAUSE.FATAL = s.reg SAFE.FB_CAUSE.FATAL :=
      injectedShown_reg s src cls (by decide)
    rw [raiseInjected_eq]
    exact fatalAtDetection_stays (by simpa only [State.flag, hshown] using hf) src cls true

/-! ### What an injected fault degrades (R540) -/

theorem raiseEventInj_injections (s : State) (code : Nat) (inj : Bool) (args : List Byte) :
    (raiseEventInj s code inj args).flt.inj = s.flt.inj ∧ (raiseEventInj s code inj args).flt.inject = s.flt.inject := ⟨rfl, rfl⟩

theorem degrade_flt (s : State) (src cls : Nat) : (degrade s src cls).flt = s.flt := by simp

theorem degradeInjected_injections (s : State) (src cls : Nat) : (degradeInjected s src cls).flt.inj = s.flt.inj
    ∧ (degradeInjected s src cls).flt.inject = s.flt.inject := by
  unfold degradeInjected
  split
  · exact raiseCauseInj_injections s _ true
  split
  · exact ⟨rfl, rfl⟩
  split
  · simp [raiseEventInj_injections]
  split
  · exact ⟨rfl, rfl⟩
  split
  · exact ⟨rfl, rfl⟩
  split
  · exact raiseCauseInj_injections s _ true
  · rw [degrade_flt]
    exact ⟨rfl, rfl⟩

theorem degradeInjected_kept (s : State) (src cls k : Nat) : InjectionKept k s (degradeInjected s src cls) :=
  injectionKept_of (degradeInjected_injections s src cls)
    (reg_eq_of_word (degradeInjected_word (count_outside (by decide +kernel) k) s src cls))
    (reg_eq_of_word (degradeInjected_word (outside_of (by decide +kernel)) s src cls))
    (reg_eq_of_word (degradeInjected_word (outside_of (by decide +kernel)) s src cls))

/-! ### An engine fault injected (R216 to R218, R540) -/

theorem retiredShown_reg (s : State) (n : Nat) {f : Field}
    (h : Outside [BE.ACTIVE.ENG, BE.SPARE.ENG, BE.RETIRED.ENG, BE.FAULT_COUNT.COUNT] (fieldKey f)) :
    (retiredShown s n).reg f = s.reg f := by
  simp only [outside_cons, outside_nil, and_true] at h
  obtain ⟨hactive, hspare, hretired, hcount⟩ := h
  refine reg_eq_of_word ?_
  simp [retiredShown, outOfService, hactive, hspare, hretired, hcount]

theorem retireEngine_injected_eq (s : State) (n : Nat) : retireEngine s n true
    = if healthy (raiseInjected (retiredShown s n) (25 + n) 2) < 8
      then raiseInjected (raiseInjected (retiredShown s n) (25 + n) 2) 24 3
      else raiseInjected (retiredShown s n) (25 + n) 2 := rfl

theorem retireEngine_injected (s : State) (n : Nat) : Injected s (retireEngine s n true) (25 + n) 2 := by
  have hown : Injected s (raiseInjected (retiredShown s n) (25 + n) 2) (25 + n) 2 :=
    (raiseInjected_injected _ _ _).before rfl (retiredShown_reg s n (count_outside (by decide) _))
      (retiredShown_reg s n (outside_of (by decide)))
  rw [retireEngine_injected_eq]
  split
  · exact hown.after (raiseInjected_kept (by omega) _ 3)
  · exact hown

theorem lossShown_kept (u : State) (bands : List Nat) (k : Nat) : InjectionKept k u (lossShown u bands) := by
  have hflt : (lossShown u bands).flt = u.flt := (lossShown_keep u bands).2.2
  exact injectionKept_of (by rw [hflt]; exact ⟨rfl, rfl⟩) (reg_lossShown u bands (count_outside (by decide) k))
    (reg_lossShown u bands (outside_of (by decide))) (reg_lossShown u bands (outside_of (by decide)))

theorem spareAsked_kept (u : State) (n k : Nat) : InjectionKept k u (spareAsked u n) := by
  have hflt : (spareAsked u n).flt = u.flt := (spareAsked_keep u n).2.2.1
  exact injectionKept_of (by rw [hflt]; exact ⟨rfl, rfl⟩) (reg_spareAsked u n (count_outside (by decide) k))
    (reg_spareAsked u n (outside_of (by decide))) (reg_spareAsked u n (outside_of (by decide)))

theorem faultEngine_injected {s : State} {n : Nat} (h : isActive s n = true ∨ isSpare s n = true) :
    Injected s (faultEngine s n true) (25 + n) 2 := by
  by_cases hactive : isActive s n = true
  · have hlost : faultEngine s n true = spareAsked (lossShown (retireEngine s n true) (bandsOf s n)) n := if_pos hactive
    rw [hlost]
    exact (retireEngine_injected s n).after ((lossShown_kept _ _ _).trans (spareAsked_kept _ n _))
  · have hretired : faultEngine s n true = retireEngine s n true := (if_neg hactive).trans (if_pos (h.resolve_left hactive))
    rw [hretired]
    exact retireEngine_injected s n

/-! ### One injected fault (R540) -/

theorem injectOne_of_waits {src cls : Nat} (h : waitsAtDetector src cls = true) (s : State) :
    (injectOne s src cls).regs = s.regs ∧ (injectOne s src cls).flt.inject = s.flt.inject
    ∧ sparseGet 0 (injectOne s src cls).flt.injDue src = sparseGet 0 s.flt.injDue src + 1 := by
  unfold injectOne
  rw [if_pos h]
  exact ⟨rfl, rfl, by simp⟩

theorem injectOne_injected {src cls : Nat} (h : waitsAtDetector src cls = false) (s : State) :
    Injected s (injectOne s src cls) src cls := by
  unfold injectOne
  rw [if_neg (by simp [h])]
  split
  · next hengine =>
    obtain ⟨hlo, -, hcls, hin⟩ := hengine
    have hsrc : 25 + (src - 25) = src := by omega
    have hfault := faultEngine_injected hin
    rw [hsrc] at hfault
    rw [hcls]
    exact hfault
  · exact (raiseInjected_injected s src cls).after (degradeInjected_kept _ src cls src)

/-! ### FAULT_INJECT (R540) -/

/-- Telling the owner changes none but the waiting events of what the collector holds. -/
theorem tellOwner_flt (s : State) (n status : Nat) (rsp : List Byte) :
    (tellOwner s n status rsp).flt = { s.flt with jorosh := (tellOwner s n status rsp).flt.jorosh } := by
  unfold tellOwner
  dsimp only
  split
  · rfl
  · split
    · rfl
    · simp [sendRsp]
  · simp [canRespond]

theorem respond_injections (s : State) (n status : Nat) (data : List Byte) : (respond s n status data).flt.inject = s.flt.inject
    ∧ (respond s n status data).flt.injDue = s.flt.injDue := by
  unfold respond respondWith
  rw [tellOwner_flt]
  exact ⟨rfl, rfl⟩

/-- What follows the first fault waits behind the injections already queued. -/
def queuedBehind (s : State) (src cls n : Nat) : State :=
  if n = 1 then s else { s with flt := { s.flt with inject := s.flt.inject ++ [(src, cls, n - 1)] } }

theorem queuedBehind_inject (s : State) (src cls n : Nat) : (queuedBehind s src cls n).flt.inject
    = s.flt.inject ++ (if n = 1 then [] else [(src, cls, n - 1)]) := by
  unfold queuedBehind
  split
  · rw [List.append_nil]
  · rfl

theorem queuedBehind_keep (s : State) (src cls n : Nat) : (queuedBehind s src cls n).regs = s.regs
    ∧ (queuedBehind s src cls n).mbx = s.mbx ∧ (queuedBehind s src cls n).flt.inj = s.flt.inj
    ∧ (queuedBehind s src cls n).flt.injDue = s.flt.injDue := by
  unfold queuedBehind
  split <;> exact ⟨rfl, rfl, rfl, rfl⟩

theorem faultInject_eq (mb : Nat) (s : State) {p : List Byte} (hlen : p.length = 4) {src n cls : Nat} (hsrc : src = leAt p 0 2)
    (hn : n = leAt p 3 1) (hcls : cls = if leAt p 2 1 = 0 then (sourceClasses src).headD 0 else leAt p 2 1) :
    faultInject mb s p = if sourceClasses src = [] ∨ 3 < leAt p 2 1 ∨ n = 0 then respond s mb 4 []
      else queuedBehind (injectOne (respond s mb 0 []) src cls) src cls n := by
  have hclass (h : sourceClasses src ≠ []) : cls = if leAt p 2 1 = 0 then (sourceClasses src).getD 0 1 else leAt p 2 1 := by
    rw [hcls]
    cases hlist : sourceClasses src with
    | nil => exact absurd hlist h
    | cons c l => rfl
  unfold faultInject
  dsimp only
  rw [← hsrc, ← hn, needLen_eq, if_pos (beq_iff_eq.mpr hlen)]
  by_cases hbad : sourceClasses src = [] ∨ 3 < leAt p 2 1 ∨ n = 0
  · rw [if_pos hbad, if_pos hbad]
  · rw [if_neg hbad, if_neg hbad, ← hclass fun h => hbad (.inl h)]
    rfl

theorem answered_of_mbx {s t u : State} {mb status : Nat} {data : List Byte} (h : Answered s u mb status data)
    (hmbx : t.mbx = u.mbx) : Answered s t mb status data := by
  have hboxes (k : Nat) : t.mb k = u.mb k := by unfold State.mb; rw [hmbx]
  unfold Answered at h ⊢
  simpa only [hboxes, hmbx] using h

theorem faultInject_completes {s : State} {mb src cls n : Nat} {p : List Byte} (hm : MailOk s) (hr : Runs s mb 0x0704 p)
    (hlen : p.length = 4) (hsrc : src = leAt p 0 2) (hn : n = leAt p 3 1)
    (hcls : cls = if leAt p 2 1 = 0 then (sourceClasses src).headD 0 else leAt p 2 1) : Completes (.faultInject mb) s fun t =>
    (sourceClasses src = [] ∨ 3 < leAt p 2 1 ∨ n = 0 → Answered s t mb 4 [] ∧ t.regs = s.regs)
    ∧ (sourceClasses src ≠ [] → leAt p 2 1 ≤ 3 → 1 ≤ n → Answered s t mb 0 []
      ∧ t.flt.inject = s.flt.inject ++ (if n = 1 then [] else [(src, cls, n - 1)])
      ∧ (waitsAtDetector src cls = true → t.regs = s.regs
        ∧ sparseGet 0 t.flt.injDue src = sparseGet 0 s.flt.injDue src + 1)
      ∧ (waitsAtDetector src cls = false → (∃ w, sparseGet none t.flt.inj src = some w ∧ cls ≤ w.cls)
        ∧ t.reg (FLT.COUNT.COUNT src) = s.reg (FLT.COUNT.COUNT src)
        ∧ (s.reg FLT.INJ_COUNT.COUNT < 0xFFFFFFFF → s.reg FLT.INJ_COUNT.COUNT < t.reg FLT.INJ_COUNT.COUNT)
        ∧ (cls = 3 → 3 ∈ sourceClasses src → t.flag SAFE.FB_CAUSE.FATAL = true))) := by
  have hrun : exec (.faultInject mb) s = .next (faultInject mb s p) := congrArg Host.Outcome.next (command_of_runs hr _)
  rw [faultInject_eq mb s hlen hsrc hn hcls] at hrun
  by_cases hbad : sourceClasses src = [] ∨ 3 < leAt p 2 1 ∨ n = 0
  · rw [if_pos hbad] at hrun
    refine completes_of hrun ⟨fun _ => ⟨refused_of_runs hm hr s rfl (by decide), by simp⟩, fun hlist hmost hone => ?_⟩
    rcases hbad with h | h | h
    · exact absurd h hlist
    · omega
    · omega
  rw [if_neg hbad] at hrun
  refine completes_of hrun ⟨fun h => absurd h hbad, fun _ _ _ => ?_⟩
  obtain ⟨u, hu⟩ : ∃ u, u = respond s mb 0 [] := ⟨_, rfl⟩
  have hregs : u.regs = s.regs := by rw [hu]; simp
  obtain ⟨hinject, hdue⟩ : u.flt.inject = s.flt.inject ∧ u.flt.injDue = s.flt.injDue := by
    rw [hu]
    exact respond_injections s mb 0 []
  have hanswer : Answered s u mb 0 [] := by rw [hu]; exact ok_of_runs hm hr s rfl (by simp)
  rw [← hu]
  obtain ⟨hqregs, hqmbx, hqinj, hqdue⟩ := queuedBehind_keep (injectOne u src cls) src cls n
  rw [queuedBehind_inject, hqregs, hqinj, hqdue, reg_of_regs _ hqregs, reg_of_regs _ hqregs, flag_of_regs _ hqregs]
  refine ⟨answered_of_mbx hanswer (hqmbx.trans (by simp)), ?_⟩
  cases hwait : waitsAtDetector src cls with
  | true =>
    obtain ⟨hsame, hqueued, hwaits⟩ := injectOne_of_waits hwait u
    exact ⟨by rw [hqueued, hinject], fun _ => ⟨hsame.trans hregs, by rw [hwaits, hdue]⟩, nofun⟩
  | false =>
    obtain ⟨hwaiting, hqueued, hreal, hcounted, hfatal⟩ := injectOne_injected hwait u
    rw [reg_of_regs _ hregs] at hreal hcounted
    exact ⟨by rw [hqueued, hinject], nofun, fun _ => ⟨hwaiting, hreal, hcounted, hfatal⟩⟩

end Sys2Proof.Machine.FaultInjection
end

section
/-! PROOF. SafetyMail: the mailbox commands of the safety functions together (07_safety_functions.md, 12_mailbox_command_set.md). -/

namespace Sys2Proof.Machine.SafetyMail

open GuardCommands (fbRelease_completes safeWindow_completes fbPattern_completes reseal_completes)
open PixelMapCommands (pixelAge_completes mapRead_completes mapClear_completes)
open FaultInjection (faultInject_completes)

/-- Settles O47, command by command. -/
theorem safetyCommands : Obligations.SafetyCommands := by
  unfold Obligations.SafetyCommands
  refine ⟨fun s mb hm hr => fbRelease_completes hm hr, fun s mb p hm hr hlen => safeWindow_completes hm hr hlen,
    fun s mb readBack p b rb hm hr hlen hready hfit hb hrb => fbPattern_completes hm readBack hr hlen hready hfit hb hrb,
    fun s mb ok p b hm hr hlen hready hfit hb => reseal_completes hm ok hr hlen hready hfit hb,
    fun s mb p n r c hm hr hlen hrow hcol hn hmax hlo hhi hend => pixelAge_completes hm hr hlen hrow hcol hn hmax hlo hhi hend,
    fun s mb p hm hr hlen hlo hhi => mapRead_completes hm hr hlen hlo hhi,
    fun s mb p n l hm hr hn hlo hhi hlen hl => mapClear_completes hm hr hn hlo hhi hlen hl,
    fun s mb p src cls n hm hr hlen hsrc hn hcls => faultInject_completes hm hr hlen hsrc hn hcls⟩

end Sys2Proof.Machine.SafetyMail
end

section
/-! PROOF. MapAndGainGenerations: the dead-pixel map committed, and the healing and gain generations that wait for a frame start
(08_pixel_diagnostics_and_healing.md, 09_calibration_and_ageing.md). -/

namespace Sys2Proof.Machine.MapAndGainGenerations

open GuardCommands (planeGet_planeSetRow_self planeGet_planeSetRow_ne)
open PixelMapCommands (committed_of_mram)

/-! ### Rows of a plane -/

/-- A row read as 1024 values agrees with the plane pixel by pixel, listed or not. -/
theorem planeRow_getD (d : Nat) (m : Plane) (c r : Nat) : (planeRow d m r).getD c d = planeGet d m c r := by
  unfold planeRow planeGet
  split
  · next hunlisted => rw [hunlisted, List.getD_nil, List.getD_eq_getElem?_getD,
      List.getElem?_getD_replicate_default_eq]
  · rfl

/-- `GuardCommands.planeGet_rows` for every common value: the gain map's is 8192. -/
theorem planeGet_foldr_planeSetRow (d : Nat) (f : Nat → List Nat) {rows : List Nat} (c : Nat) {r : Nat} (h : r ∈ rows) :
    planeGet d (rows.foldr (fun r p => planeSetRow d p r (f r)) []) c r = (f r).getD c d := by
  induction rows with
  | nil => exact absurd h List.not_mem_nil
  | cons x rows ih =>
    rw [List.foldr_cons]
    by_cases hx : x = r
    · rw [hx, planeGet_planeSetRow_self]
    · rw [planeGet_planeSetRow_ne d _ c hx, ih ((List.mem_cons.mp h).resolve_left (Ne.symm hx))]

/-! ### A generation of the gain map (R300, R323) -/

section
variable (s : State) {c r : Nat} (hc : c < (planeRow 0 s.cal.dose r).length) (hr : r < 1024)
include hc hr

/-- The ageing factor of a pixel is that of its own dose against the array's average. -/
theorem buildGain_age :
    planeGet 8192 (buildGain s).2 c r = ageFactor s (planeSum s.cal.dose / 1048576) (planeGet 0 s.cal.dose c r) := by
  unfold buildGain
  dsimp only
  rw [← planeRow_getD 0, planeGet_foldr_planeSetRow 8192 _ c (List.mem_range.mpr hr)]
  simp [hc]

theorem buildGain_gain :
    planeGet 8192 (buildGain s).1 c r
      = if mapped s c r then 8192 else gainEntry (planeGet 8192 (buildGain s).2 c r) (planeGet 8192 s.cal.trims c r) := by
  rw [buildGain_age s hc hr, ← planeRow_getD 0]
  unfold buildGain
  dsimp only
  rw [planeGet_foldr_planeSetRow 8192 _ c (List.mem_range.mpr hr)]
  simp [hc]

end

/-! ### The three commands -/

section
variable (s : State)

theorem mapEntryCommit_completes (hup : supUp s = true) (hwait : s.diag.uncommitted ≠ []) (hmay : mayCommit s 0x11 = true) :
    Completes .mapEntryCommit s fun t =>
      Committed s t 0x11 (mapPayload s) ∧ t.diag.uncommitted = [] ∧ t.diag.map = s.diag.map := by
  have hrun : exec .mapEntryCommit s = .next (commitMap s) := congrArg Host.Outcome.next (if_pos ⟨hup, hwait, hmay⟩)
  exact completes_of hrun ⟨committed_of_mram rfl rfl, rfl, rfl⟩

/-- The generation waits in `healReady`; the table in force is another field. -/
theorem healingGenComplete_completes :
    Completes .healingGenComplete s fun t => t.diag.healReady = some s.diag.map ∧ t.diag.heal = s.diag.heal :=
  completes_of (t := { s with diag := { s.diag with healReady := some s.diag.map } }) rfl ⟨rfl, rfl⟩

/-- The new map waits in `gainReady` for a frame start; the ageing factors it was built with show at once (R302, R323). -/
theorem gainmapGenComplete_completes :
    Completes .gainmapGenComplete s fun t => t.cal.gain = s.cal.gain ∧ t.cal.dose = s.cal.dose
      ∧ t.cal.gainReady = some (buildGain s).1 ∧ t.cal.age = (buildGain s).2 := by
  have hrun : exec .gainmapGenComplete s = execGainmapGenComplete s := rfl
  unfold execGainmapGenComplete at hrun
  exact completes_of hrun (by simp only [State.setFlag_cal, and_self])

end

/-- Settles O30: the commit, then the two generations, the gain map's entries by `buildGain_age` and `buildGain_gain`. -/
theorem generationsAndMap : Obligations.GenerationsAndMap := by
  unfold Obligations.GenerationsAndMap
  refine ⟨mapEntryCommit_completes, healingGenComplete_completes, fun s => ?_⟩
  obtain ⟨t, hrun, hgain, hdose, hready, hage⟩ := gainmapGenComplete_completes s
  refine completes_of hrun ⟨hgain, hdose, _, hready, fun c r hc hr => ?_⟩
  rw [hage]
  exact ⟨buildGain_age s hc hr, buildGain_gain s hc hr⟩

end Sys2Proof.Machine.MapAndGainGenerations
end

section
/-! PROOF. DoseCheckpoint: the hourly measurement of the witnesses, the lumen model and the checkpoint of doses
(09_calibration_and_ageing.md R319 to R322). -/

namespace Sys2Proof.Machine.DoseCheckpoint

open BlankPasses (sourceKept_of faulted_after faulted_before)
open FrameTiming (flag_eq_of_word)
open GalleryComposition (reg_wrapBy_self)
open PixelMapCommands (committed_of_mram mayCommit_of)

/-! ### The code of a dose word (R319) -/

/-- A dose of at least 2048 has an exponent `e` and the 12 leading bits `d / 2 ^ e`, of which the code keeps the lower eleven. -/
theorem doseEncode_of_large {d : Nat} (h : 2048 ≤ d) : ∃ e, 2 ^ e * 2048 ≤ d ∧ 2048 ≤ d / 2 ^ e ∧ d / 2 ^ e < 4096
    ∧ doseEncode d = (e + 1) * 2048 + (d / 2 ^ e - 2048) := by
  have hlog : 11 ≤ Nat.log2 d := (Nat.le_log2 (by omega)).mpr h
  obtain ⟨e, he⟩ : ∃ e, Nat.log2 d = e + 11 := ⟨Nat.log2 d - 11, by omega⟩
  have hlo : 2 ^ e * 2048 ≤ d := by
    have := Nat.log2_self_le (n := d) (by omega)
    rwa [he, Nat.pow_add] at this
  have hhi : d < 2 ^ e * 4096 := by
    have := Nat.lt_log2_self (n := d)
    rwa [he, Nat.add_assoc, Nat.pow_add] at this
  have hpos : 0 < 2 ^ e := Nat.two_pow_pos e
  refine ⟨e, hlo, ?_, ?_, ?_⟩
  · rwa [Nat.le_div_iff_mul_le hpos, Nat.mul_comm]
  · rwa [Nat.div_lt_iff_lt_mul hpos, Nat.mul_comm]
  · unfold doseEncode
    rw [if_neg (by omega), he, (by omega : e + 11 - 10 = e + 1)]
    rfl

theorem doseDecode_of_large {e m : Nat} (hlo : 2048 ≤ m) (hhi : m < 4096) :
    doseDecode ((e + 1) * 2048 + (m - 2048)) = m * 2 ^ e := by
  have hexp : ((e + 1) * 2048 + (m - 2048)) / 2048 = e + 1 := by omega
  have hman : ((e + 1) * 2048 + (m - 2048)) % 2048 = m - 2048 := by omega
  unfold doseDecode
  rw [if_neg (by omega), hexp, hman, Nat.add_sub_cancel, (by omega : 2048 + (m - 2048) = m)]

/-- A 32-bit dose has a 16-bit code; it reads back no higher and within 1/2048. -/
theorem doseEncode_accuracy {d : Nat} (hd : d < 2 ^ 32) :
    doseEncode d < 2 ^ 16 ∧ doseDecode (doseEncode d) ≤ d ∧ (d - doseDecode (doseEncode d)) * 2048 ≤ d := by
  by_cases hsmall : d < 2048
  · have hcode : doseEncode d = d := if_pos hsmall
    have hback : doseDecode d = d := by
      unfold doseDecode
      rw [if_pos (by omega), Nat.mod_eq_of_lt hsmall]
    rw [hcode, hback]
    omega
  · obtain ⟨e, hmost, hlo, hhi, hcode⟩ := doseEncode_of_large (Nat.le_of_not_lt hsmall)
    have hexp : e < 21 := (Nat.pow_lt_pow_iff_right Nat.one_lt_two).mp (by omega : 2 ^ e < 2 ^ 21)
    have hlost : d - d / 2 ^ e * 2 ^ e = d % 2 ^ e := Nat.sub_eq_of_eq_add (Nat.mod_add_div' d (2 ^ e)).symm
    have hpart : d % 2 ^ e ≤ 2 ^ e := (Nat.mod_lt _ (Nat.two_pow_pos e)).le
    rw [hcode, doseDecode_of_large hlo hhi, hlost]
    exact ⟨by omega, Nat.div_mul_le_self d _, (Nat.mul_le_mul_right 2048 hpart).trans hmost⟩

/-! ### Checkpointed planes -/

theorem sparseGet_map {α : Type} (f : α → α) {d : α} (hd : f d = d) (m : Sparse α) (k : Nat) :
    sparseGet d (m.map fun p => (p.1, f p.2)) k = f (sparseGet d m k) := by
  induction m with
  | nil => exact hd.symm
  | cons p m ih =>
    rw [List.map_cons, sparseGet, sparseGet, ih]
    split
    · rfl
    · rfl

/-- A plane whose rows are mapped by a function that keeps the common value is mapped pixel by pixel. -/
theorem planeGet_map (f : Nat → Nat) {d : Nat} (hd : f d = d) (m : Plane) (c r : Nat) :
    planeGet d (m.map fun p => (p.1, p.2.map f)) c r = f (planeGet d m c r) := by
  unfold planeGet
  rw [sparseGet_map (List.map f) rfl, List.getD_eq_getElem?_getD, List.getD_eq_getElem?_getD, List.getElem?_map]
  cases (sparseGet [] m r)[c]? with
  | none => exact hd.symm
  | some v => rfl

/-! ### The checkpoint (R319, R512, R515) -/

/-- What a commit did is seen in the records, the journal and the allowance alone; the planes of a record lie beside them. -/
theorem committed_of_records {s u t : State} {num : Nat} {data : List Byte} (h : Committed s u num data)
    (hrecs : t.mram.recs = u.mram.recs) (hjournal : t.mram.journal = u.mram.journal) (hnext : t.mram.jnext = u.mram.jnext)
    (hused : t.mram.used = u.mram.used) : Committed s t num data := by
  have hrec : recOf t num = recOf u num := by unfold recOf; rw [hrecs]
  unfold Committed at h ⊢
  rwa [hrec, hjournal, hnext, hused]

section
variable (s : State)

/-- Beside the record, a checkpoint writes the area of the copy that the record replaces. -/
theorem checkpoint_mram : ∃ data, (checkpoint s).mram = if (nextCopy (recOf s 0x12)).1 = 0
    then { (commitRecord s 0x12 data true).mram with doseA := s.cal.dose.map fun p => (p.1, p.2.map doseEncode) }
    else { (commitRecord s 0x12 data true).mram with doseB := s.cal.dose.map fun p => (p.1, p.2.map doseEncode) } := ⟨_, rfl⟩

theorem checkpoint_committed : ∃ data, Committed s (checkpoint s) 0x12 data := by
  obtain ⟨data, hmram⟩ := checkpoint_mram s
  have hcommit : Committed s (commitRecord s 0x12 data true) 0x12 data := committed_of_mram rfl rfl
  refine ⟨data, committed_of_records hcommit ?_ ?_ ?_ ?_⟩
  all_goals
    rw [hmram]
    split
    · rfl
    · rfl

theorem checkpoint_cal : (checkpoint s).cal.ckptRow = (s.cal.ckptRow + 64) % 1024 ∧ (checkpoint s).cal.ckptDue = false
    ∧ (checkpoint s).cal.witnesses = s.cal.witnesses ∧ (checkpoint s).cal.model = s.cal.model := ⟨rfl, rfl, rfl, rfl⟩

/-- The area of the copy replaced holds the code of every dose word. -/
theorem checkpoint_doses (c r : Nat) :
    planeGet 0 (if (nextCopy (recOf s 0x12)).1 = 0 then (checkpoint s).mram.doseA else (checkpoint s).mram.doseB) c r
      = doseEncode (planeGet 0 s.cal.dose c r) := by
  obtain ⟨data, hmram⟩ := checkpoint_mram s
  rw [hmram, ← planeGet_map doseEncode rfl]
  split
  · rfl
  · rfl

theorem checkpointOrWait_of_may (h : mayCommit s 0x12 = true) : checkpointOrWait s = checkpoint s := if_pos h

theorem checkpointOrWait_of_not (h : mayCommit s 0x12 = false) :
    (checkpointOrWait s).cal.ckptDue = true ∧ (checkpointOrWait s).mram = s.mram := by
  have hwait : checkpointOrWait s = { s with cal := { s.cal with ckptDue := true } } := if_neg (by simp [h])
  rw [hwait]
  exact ⟨rfl, rfl⟩

/-- The checkpoint measures nothing. -/
theorem checkpointOrWait_cal : (checkpointOrWait s).cal.witnesses = s.cal.witnesses
    ∧ (checkpointOrWait s).cal.model = s.cal.model := by
  unfold checkpointOrWait
  split
  · exact (checkpoint_cal s).2.2
  · exact ⟨rfl, rfl⟩

end

/-! ### The lumen model (R322) -/

theorem length_nonIncreasing (m : Nat) (l : List Nat) : (nonIncreasing m l).length = l.length := by
  induction l generalizing m with
  | nil => rfl
  | cons v l ih => rw [nonIncreasing, List.length_cons, List.length_cons, ih]

theorem nonIncreasing_le (m : Nat) (l : List Nat) : ∀ v ∈ nonIncreasing m l, v ≤ m := by
  induction l generalizing m with
  | nil => exact fun v hv => absurd hv List.not_mem_nil
  | cons x l ih =>
    intro v hv
    rcases List.mem_cons.mp hv with rfl | hv
    · exact Nat.min_le_left m x
    · exact Nat.le_trans (ih _ v hv) (Nat.min_le_left m x)

theorem nonIncreasing_falls (m : Nat) (l : List Nat) : (nonIncreasing m l).Pairwise (fun a b => b ≤ a) := by
  induction l generalizing m with
  | nil => exact List.Pairwise.nil
  | cons x l ih => exact List.Pairwise.cons (nonIncreasing_le _ l) (ih _)

section
variable (s : State) (pts : List (Nat × Nat))

theorem length_rebuildModel : (rebuildModel s pts).length = 32 := by
  unfold rebuildModel
  dsimp only
  rw [List.length_map, length_nonIncreasing, List.length_map, List.length_range]

theorem mem_rebuildModel : ∀ v ∈ rebuildModel s pts, 32768 ≤ v ∧ v ≤ 65536 := by
  intro v hv
  obtain ⟨x, hx, rfl⟩ := List.mem_map.mp hv
  have := nonIncreasing_le _ _ x hx
  omega

theorem rebuildModel_falls : (rebuildModel s pts).Pairwise (fun a b => b ≤ a) :=
  (nonIncreasing_falls _ _).map _ fun _ _ h => max_le_max_left 32768 h

/-- The model's 32 points lie in its range, and none is above the one before. -/
theorem rebuildModel_range : (rebuildModel s pts).length = 32
    ∧ (∀ i, i < 32 → 32768 ≤ (rebuildModel s pts).getD i 0 ∧ (rebuildModel s pts).getD i 0 ≤ 65536)
    ∧ ∀ i, i < 31 → (rebuildModel s pts).getD (i + 1) 0 ≤ (rebuildModel s pts).getD i 0 := by
  have hlen := length_rebuildModel s pts
  refine ⟨hlen, fun i hi => ?_, fun i hi => ?_⟩
  · rw [List.getD_eq_getElem _ 0 (by omega)]
    exact mem_rebuildModel s pts _ (List.getElem_mem _)
  · rw [List.getD_eq_getElem _ 0 (by omega), List.getD_eq_getElem _ 0 (by omega)]
    exact List.pairwise_iff_getElem.mp (rebuildModel_falls s pts) i (i + 1) _ _ (Nat.lt_succ_self i)

end

/-! ### The measurement (R321, R322) -/

section
variable (s : State) (photo : List (Int × Int))

/-- The points of the tiers that contribute. -/
def tierPoints : List (Nat × Nat) := (List.range 4).filterMap (tierPoint (measureWitnesses s photo))

/-- The witnesses are measured. -/
def measured : State := { s with cal := { s.cal with witnesses := measureWitnesses s photo } }

/-- Too few tiers contribute: WITNESS_LOW, and its fault. -/
def witnessLow : State := raiseFault ((measured s photo).setFlag CAL.STATUS.WITNESS_LOW true) 50 1

/-- The model is rebuilt, with the next MODEL_GEN. -/
def modelRebuilt : State :=
  { s with cal := { s.cal with witnesses := measureWitnesses s photo, model := rebuildModel s (tierPoints s photo) } }.wrapBy
    CAL.AG_STATUS.MODEL_GEN 1

/-- The hour's measurement before the checkpoint. -/
def hourMeasured : State := if (tierPoints s photo).length < 2 then witnessLow s photo else modelRebuilt s photo

theorem hourlyCheckpoint_of_up (h : supUp s = true) :
    exec (.hourlyCheckpoint photo) s = .next (checkpointOrWait (hourMeasured s photo)) := if_neg (by simp [h])

/-- The measurement concerns witnesses and model alone: doses, records and what bars a commit stay. -/
theorem hourMeasured_keep : (hourMeasured s photo).cal.witnesses = measureWitnesses s photo
    ∧ (hourMeasured s photo).cal.dose = s.cal.dose ∧ (hourMeasured s photo).cal.ckptRow = s.cal.ckptRow
    ∧ (hourMeasured s photo).mram = s.mram
    ∧ (hourMeasured s photo).flag SAFE.FB_CAUSE.SOFT_STOP = s.flag SAFE.FB_CAUSE.SOFT_STOP := by
  unfold hourMeasured
  split
  · refine ⟨by simp [witnessLow, measured], by simp [witnessLow, measured], by simp [witnessLow, measured],
      by simp [witnessLow, measured], ?_⟩
    exact (flag_eq_of_word (raiseFault_word (outside_of (by decide +kernel)) _ 50 1)).trans
      (flag_setFlag_ne _ _ _ _ (by decide))
  · exact ⟨rfl, rfl, rfl, rfl, flag_setReg_ne _ _ _ _ (by decide)⟩

theorem witnessLow_effects : (witnessLow s photo).flag CAL.STATUS.WITNESS_LOW = true ∧ Faulted s (witnessLow s photo) 50 1
    ∧ (witnessLow s photo).cal.model = s.cal.model := by
  refine ⟨?_, ?_, by simp [witnessLow, measured]⟩
  · exact (flag_eq_of_word (raiseFault_word (outside_of (by decide +kernel)) _ 50 1)).trans
      (flag_setFlag_self _ _ _ (by decide) (by decide))
  · exact faulted_before (sourceKept_of (setFlag_word _ _ _ (by decide)) rfl) (raiseFault_faulted _ 50 1)

theorem modelRebuilt_gen :
    (modelRebuilt s photo).reg CAL.AG_STATUS.MODEL_GEN = (s.reg CAL.AG_STATUS.MODEL_GEN + 1) % 256 :=
  reg_wrapBy_self _ _ 1 (by decide)

end

theorem hourMeasured_mayCommit (s : State) (photo : List (Int × Int)) :
    mayCommit (hourMeasured s photo) 0x12 = mayCommit s 0x12 := by
  obtain ⟨-, -, -, hmram, hsoft⟩ := hourMeasured_keep s photo
  exact mayCommit_of 0x12 hmram hsoft

/-! ### The statement -/

/-- A commit is told from the records of the state before it. -/
theorem committed_before {s u t : State} {num : Nat} {data : List Byte} (hu : u.mram = s.mram) (h : Committed u t num data) :
    Committed s t num data := by
  unfold Committed recOf at h ⊢
  rwa [hu] at h

theorem hourlyCheckpoint_completes {s : State} (photo : List (Int × Int)) (hup : supUp s = true) :
    Completes (.hourlyCheckpoint photo) s fun t =>
    t.cal.witnesses = measureWitnesses s photo
    ∧ ((tierPoints s photo).length < 2 →
      t.flag CAL.STATUS.WITNESS_LOW = true ∧ Faulted s t 50 1 ∧ t.cal.model = s.cal.model)
    ∧ (2 ≤ (tierPoints s photo).length →
      t.reg CAL.AG_STATUS.MODEL_GEN = (s.reg CAL.AG_STATUS.MODEL_GEN + 1) % 256 ∧ t.cal.model.length = 32
      ∧ (∀ i, i < 32 → 32768 ≤ t.cal.model.getD i 0 ∧ t.cal.model.getD i 0 ≤ 65536)
      ∧ ∀ i, i < 31 → t.cal.model.getD (i + 1) 0 ≤ t.cal.model.getD i 0)
    ∧ (mayCommit s 0x12 = true →
      (∃ data, Committed s t 0x12 data) ∧ t.cal.ckptRow = (s.cal.ckptRow + 64) % 1024 ∧ t.cal.ckptDue = false
      ∧ ∀ c r, planeGet 0 (if (nextCopy (recOf s 0x12)).1 = 0 then t.mram.doseA else t.mram.doseB) c r
          = doseEncode (planeGet 0 s.cal.dose c r))
    ∧ (mayCommit s 0x12 = false → t.cal.ckptDue = true ∧ t.mram = s.mram) := by
  refine completes_of (hourlyCheckpoint_of_up s photo hup) ?_
  obtain ⟨hwitnesses, hdose, hrow, hmram, -⟩ := hourMeasured_keep s photo
  obtain ⟨hwit, hmodel⟩ := checkpointOrWait_cal (hourMeasured s photo)
  have hregs : (checkpointOrWait (hourMeasured s photo)).regs = (hourMeasured s photo).regs := by simp
  refine ⟨hwit.trans hwitnesses, fun hfew => ?_, fun henough => ?_, fun hmay => ?_, fun hnot => ?_⟩
  · have hlow : hourMeasured s photo = witnessLow s photo := if_pos hfew
    obtain ⟨hflag, hfault, hold⟩ := witnessLow_effects s photo
    rw [flag_of_regs _ hregs, hmodel, hlow]
    exact ⟨hflag, faulted_after hfault (sourceKept_of (by simp) (by simp)), hold⟩
  · have hnew : hourMeasured s photo = modelRebuilt s photo := if_neg (by omega)
    rw [reg_of_regs _ hregs, hmodel, hnew]
    exact ⟨modelRebuilt_gen s photo, rebuildModel_range s _⟩
  · have hrec : recOf (hourMeasured s photo) 0x12 = recOf s 0x12 := by unfold recOf; rw [hmram]
    obtain ⟨data, hcommit⟩ := checkpoint_committed (hourMeasured s photo)
    rw [checkpointOrWait_of_may _ (by rw [hourMeasured_mayCommit, hmay]), ← hrow, ← hdose, ← hrec]
    exact ⟨⟨data, committed_before hmram hcommit⟩, rfl, rfl, checkpoint_doses _⟩
  · obtain ⟨hdue, hsame⟩ := checkpointOrWait_of_not (hourMeasured s photo) (by rw [hourMeasured_mayCommit, hnot])
    exact ⟨hdue, hsame.trans hmram⟩

/-- Settles O31: the measurement by the tiers that contribute, then the checkpoint or its wait, and the accuracy of the code. -/
theorem hourlyCheckpoint : Obligations.HourlyCheckpoint := by
  unfold Obligations.HourlyCheckpoint
  exact ⟨fun s photo hup => hourlyCheckpoint_completes photo hup, fun d hd => doseEncode_accuracy hd⟩

end Sys2Proof.Machine.DoseCheckpoint
end

section
/-! PROOF. CoreVoltage: the delay monitors and the planned core voltage (09_calibration_and_ageing.md R324, R333). -/

namespace Sys2Proof.Machine.CoreVoltage

open BlankPasses (sourceKept_of faulted_after faulted_before)
open FrameTiming (reg_setReg_of_lt)

/-! ### The smallest margin -/

/-- The one of two readings with the smaller margin, the first on a tie. -/
def lesser (b p : Nat × Nat) : Nat × Nat := if p.2 < b.2 then p else b

theorem lesser_spec (b p : Nat × Nat) : (lesser b p = b ∨ lesser b p = p) ∧ (lesser b p).2 ≤ b.2 ∧ (lesser b p).2 ≤ p.2 := by
  unfold lesser
  split
  · next h => exact ⟨.inr rfl, h.le, le_rfl⟩
  · next h => exact ⟨.inl rfl, le_rfl, Nat.le_of_not_lt h⟩

/-- The least of a list of readings is one of them, and no margin is smaller. -/
theorem foldl_lesser_spec (l : List (Nat × Nat)) (b : Nat × Nat) :
    l.foldl lesser b ∈ b :: l ∧ ∀ p ∈ b :: l, (l.foldl lesser b).2 ≤ p.2 := by
  induction l generalizing b with
  | nil => simp
  | cons q l ih =>
    obtain ⟨hmem, hleast⟩ := ih (lesser b q)
    obtain ⟨hone, hb, hq⟩ := lesser_spec b q
    have hfirst := hleast _ List.mem_cons_self
    rw [List.foldl_cons]
    refine ⟨?_, fun p hp => ?_⟩
    · rcases List.mem_cons.mp hmem with h | h
      · rw [h]
        rcases hone with h | h <;> simp [h]
      · exact List.mem_cons_of_mem _ (List.mem_cons_of_mem _ h)
    · rcases List.mem_cons.mp hp with rfl | hp
      · exact hfirst.trans hb
      · rcases List.mem_cons.mp hp with rfl | hp
        · exact hfirst.trans hq
        · exact hleast p (List.mem_cons_of_mem _ hp)

theorem worstMargin_eq (m : List Nat) :
    worstMargin m = ((List.range 24).map fun i => (i, m.getD i 0)).foldl lesser (0, m.getD 0 0) := rfl

/-- The worst monitor is one of the 24, with its own margin, and no monitor shows a smaller one. -/
theorem worstMargin_spec (m : List Nat) : (worstMargin m).1 < 24 ∧ m.getD (worstMargin m).1 0 = (worstMargin m).2
    ∧ ∀ i < 24, (worstMargin m).2 ≤ m.getD i 0 := by
  obtain ⟨hmem, hleast⟩ := foldl_lesser_spec ((List.range 24).map fun i => (i, m.getD i 0)) (0, m.getD 0 0)
  rw [← worstMargin_eq] at hmem hleast
  have hone : ∃ i < 24, (i, m.getD i 0) = worstMargin m := by
    rcases List.mem_cons.mp hmem with h | h
    · exact ⟨0, by decide, h.symm⟩
    · obtain ⟨i, hi, h⟩ := List.mem_map.mp h
      exact ⟨i, List.mem_range.mp hi, h⟩
  obtain ⟨i, hi, h⟩ := hone
  refine ⟨?_, ?_, fun j hj => hleast (j, m.getD j 0) ?_⟩
  · rw [← h]
    exact hi
  · rw [← h]
  · exact List.mem_cons_of_mem _ (List.mem_map.mpr ⟨j, List.mem_range.mpr hj, rfl⟩)

theorem worstMargin_mem {m : List Nat} (hlen : m.length = 24) :
    (worstMargin m).2 ∈ m ∧ ∀ x ∈ m, (worstMargin m).2 ≤ x := by
  obtain ⟨hi, hval, hleast⟩ := worstMargin_spec m
  refine ⟨?_, fun x hx => ?_⟩
  · rw [← hval, List.getD_eq_getElem _ 0 (by omega)]
    exact List.getElem_mem _
  · obtain ⟨j, hj, rfl⟩ := List.mem_iff_getElem.mp hx
    have := hleast j (by omega)
    rwa [List.getD_eq_getElem _ 0 hj] at this

/-! ### The plan (R324) -/

section
variable (s : State) (margins : List Nat)

/-- The worst monitor and its margin shown. -/
def marginShown : State :=
  (s.setReg CAL.VM_STATUS.WORST_MON (worstMargin margins).1).setReg CAL.VM_STATUS.MARGIN_MIN (worstMargin margins).2

/-- A margin below 1.0 % that no higher voltage can mend is a fault. -/
def marginJudged : State :=
  if (worstMargin margins).2 < 10 ∧ s.vcMax ≤ s.cal.vcPlan then raiseFault (marginShown s margins) 51 2
  else marginShown s margins

/-- Consecutive margins above M_HIGH after a reading of `w`. -/
def highRun (w : Nat) : Nat := if s.reg CAL.VM_CFG.M_HIGH < w then s.cal.highHours + 1 else 0

/-- The planned code and the count of high margins after a reading of `w`. -/
def nextPlan (w : Nat) : Nat × Nat :=
  if w < s.reg CAL.VM_CFG.M_LOW then (clampN s.vcMin s.vcMax (s.cal.vcPlan + 1), 0)
  else if 24 ≤ highRun s w then (clampN s.vcMin s.vcMax (s.cal.vcPlan - 1), 0)
  else (s.cal.vcPlan, highRun s w)

/-- The state with a plan and a count of high margins. -/
def withPlan (x : Nat × Nat) : State := { s with cal := { s.cal with vcPlan := x.1, highHours := x.2 } }

theorem delayReading_of_off (h : s.flag CAL.CTRL.VM_EN = false) : delayReading s margins = marginShown s margins :=
  if_neg (by simp [h])

theorem marginJudged_plan : (marginJudged s margins).cal.vcPlan = s.cal.vcPlan := by
  unfold marginJudged
  split
  · simp [marginShown]
  · rfl

theorem delayReading_of_on (h : s.flag CAL.CTRL.VM_EN = true) :
    delayReading s margins = withPlan (marginJudged s margins) (nextPlan s (worstMargin margins).2) := by
  have hcases : delayReading s margins = if (worstMargin margins).2 < s.reg CAL.VM_CFG.M_LOW then
        withPlan (marginJudged s margins) (clampN s.vcMin s.vcMax (s.cal.vcPlan + 1), 0)
      else if 24 ≤ highRun s (worstMargin margins).2 then
        withPlan (marginJudged s margins) (clampN s.vcMin s.vcMax (s.cal.vcPlan - 1), 0)
      else withPlan (marginJudged s margins) ((marginJudged s margins).cal.vcPlan, highRun s (worstMargin margins).2) := by
    unfold delayReading withPlan highRun marginJudged marginShown
    dsimp only
    rw [if_pos h]
  rw [hcases, marginJudged_plan]
  unfold nextPlan
  split
  · rfl
  · split
    · rfl
    · rfl

theorem reg_withPlan (x : Nat × Nat) (f : Field) : (withPlan s x).reg f = s.reg f := reg_of_regs f rfl

theorem marginShown_worst : (marginShown s margins).reg CAL.VM_STATUS.WORST_MON = (worstMargin margins).1 := by
  have hi := (worstMargin_spec margins).1
  exact (reg_setReg_ne _ _ _ _ (by decide)).trans (reg_setReg_of_lt _ _ _ (by decide) (hi.trans (by decide)))

theorem marginShown_least (h : (worstMargin margins).2 < 65536) :
    (marginShown s margins).reg CAL.VM_STATUS.MARGIN_MIN = (worstMargin margins).2 :=
  reg_setReg_of_lt _ _ _ (by decide) h

theorem reg_delayReading {f : Field} (hf : Outside raiseFaultRegs (fieldKey f)) :
    (delayReading s margins).reg f = (marginShown s margins).reg f := by
  cases h : s.flag CAL.CTRL.VM_EN with
  | false => rw [delayReading_of_off s margins h]
  | true =>
    rw [delayReading_of_on s margins h, reg_withPlan]
    unfold marginJudged
    split
    · exact reg_eq_of_word (raiseFault_word hf _ 51 2)
    · rfl

theorem marginShown_count :
    wordAt (marginShown s margins).regs (fieldKey (FLT.COUNT.COUNT 51)) = wordAt s.regs (fieldKey (FLT.COUNT.COUNT 51)) :=
  (setReg_word _ _ _ (by decide)).trans (setReg_word _ _ _ (by decide))

/-- A margin below 1.0 % at the highest code allowed is counted and raised. -/
theorem delayReading_faulted (hon : s.flag CAL.CTRL.VM_EN = true) (hw : (worstMargin margins).2 < 10)
    (hmax : s.vcMax ≤ s.cal.vcPlan) : Faulted s (delayReading s margins) 51 2 := by
  have hjudged : marginJudged s margins = raiseFault (marginShown s margins) 51 2 := if_pos ⟨hw, hmax⟩
  rw [delayReading_of_on s margins hon, hjudged]
  exact faulted_after (faulted_before (sourceKept_of (marginShown_count s margins) rfl) (raiseFault_faulted _ 51 2))
    (sourceKept_of rfl rfl)

theorem delayReading_plan (hon : s.flag CAL.CTRL.VM_EN = true) :
    (delayReading s margins).cal.vcPlan = (nextPlan s (worstMargin margins).2).1
    ∧ (delayReading s margins).cal.highHours = (nextPlan s (worstMargin margins).2).2 := by
  rw [delayReading_of_on s margins hon]
  exact ⟨rfl, rfl⟩

theorem clampN_vc_le (v : Nat) : clampN s.vcMin s.vcMax v ≤ 10 := by
  unfold clampN State.vcMin State.vcMax
  omega

variable {s} {w : Nat}

theorem nextPlan_of_low (h : w < s.reg CAL.VM_CFG.M_LOW) :
    nextPlan s w = (clampN s.vcMin s.vcMax (s.cal.vcPlan + 1), 0) := if_pos h

/-- The 24th consecutive margin above M_HIGH takes the step down. -/
theorem nextPlan_of_run (hlow : s.reg CAL.VM_CFG.M_LOW ≤ w) (hhigh : s.reg CAL.VM_CFG.M_HIGH < w)
    (hrun : 23 ≤ s.cal.highHours) :
    nextPlan s w = (clampN s.vcMin s.vcMax (s.cal.vcPlan - 1), 0) := by
  have hcount : highRun s w = s.cal.highHours + 1 := if_pos hhigh
  unfold nextPlan
  rw [if_neg (by omega), hcount, if_pos (by omega)]

theorem nextPlan_of_high (hlow : s.reg CAL.VM_CFG.M_LOW ≤ w) (hhigh : s.reg CAL.VM_CFG.M_HIGH < w)
    (hrun : ¬ 23 ≤ s.cal.highHours) :
    nextPlan s w = (s.cal.vcPlan, s.cal.highHours + 1) := by
  have hcount : highRun s w = s.cal.highHours + 1 := if_pos hhigh
  unfold nextPlan
  rw [if_neg (by omega), hcount, if_neg (by omega)]

theorem nextPlan_of_mid (hlow : s.reg CAL.VM_CFG.M_LOW ≤ w) (hhigh : w ≤ s.reg CAL.VM_CFG.M_HIGH) :
    nextPlan s w = (s.cal.vcPlan, 0) := by
  have hrun : highRun s w = 0 := if_neg (by omega)
  unfold nextPlan
  rw [if_neg (by omega), hrun, if_neg (by omega)]

end

/-! ### The statement -/

/-- The reading ends the attempts to set the voltage planned before. -/
def attemptsEnded (s : State) : State := { s with io := { s.io with triesVcore := 0 } }

theorem execDelayMonitorReading_eq (margins : List Nat) (s : State) :
    exec (.delayMonitorReading margins) s = .next (delayReading (attemptsEnded s) margins) := rfl

/-- Settles O32: the registers show the least margin; the plan is `nextPlan` while VM_EN is 1 and stays otherwise. -/
theorem delayMonitors : Obligations.DelayMonitors := by
  unfold Obligations.DelayMonitors
  intro s margins hlen hbound
  obtain ⟨hmem, hleast⟩ := worstMargin_mem hlen
  obtain ⟨-, hvalue, -⟩ := worstMargin_spec margins
  have hshown : (delayReading (attemptsEnded s) margins).reg CAL.VM_STATUS.MARGIN_MIN = (worstMargin margins).2 :=
    (reg_delayReading _ _ (outside_of (by decide +kernel))).trans (marginShown_least _ _ (hbound _ hmem))
  have hworst : (delayReading (attemptsEnded s) margins).reg CAL.VM_STATUS.WORST_MON = (worstMargin margins).1 :=
    (reg_delayReading _ _ (outside_of (by decide +kernel))).trans (marginShown_worst _ _)
  refine completes_of (execDelayMonitorReading_eq margins s) ?_
  rw [hshown, hworst]
  refine ⟨⟨hmem, hleast⟩, hvalue, fun hoff => ?_, fun hon => ?_⟩
  · rw [delayReading_of_off (attemptsEnded s) margins hoff]
    rfl
  · obtain ⟨hplan, hhours⟩ := delayReading_plan (attemptsEnded s) margins hon
    rw [hplan, hhours]
    refine ⟨fun hlow => ?_, fun hlow hhigh => ?_, fun hlow hhigh => ?_, fun hten hmax => ?_, clampN_vc_le s _⟩
    · rw [nextPlan_of_low (s := attemptsEnded s) hlow]
      exact ⟨rfl, rfl⟩
    · split
      · next hrun =>
        rw [nextPlan_of_run (s := attemptsEnded s) hlow hhigh hrun]
        exact ⟨rfl, rfl⟩
      · next hrun =>
        rw [nextPlan_of_high (s := attemptsEnded s) hlow hhigh hrun]
        exact ⟨rfl, rfl⟩
    · rw [nextPlan_of_mid (s := attemptsEnded s) hlow hhigh]
      exact ⟨rfl, rfl⟩
    · exact delayReading_faulted (attemptsEnded s) margins hon hten hmax

end Sys2Proof.Machine.CoreVoltage
end

section
/-! PROOF. CalibrationMail: the calibration reads and RECALIBRATE by mailbox (09_calibration_and_ageing.md,
12_mailbox_command_set.md). -/

namespace Sys2Proof.Machine.CalibrationMail

open KernelMail (command_of_runs refused_of_runs ok_of_runs leAt_middle)
open PixelMapCommands (length_flatMap_toLe leAt_flatMap_toLe)

/-- A number inside the first part of a list reads what the part holds there. -/
theorem leAt_append (l m : List Byte) (o k : Nat) (h : o + k ≤ l.length) : leAt (l ++ m) o k = leAt l o k := by
  unfold leAt
  rw [bytesAt_append l m o k h]

section
variable {s : State} {mb : Nat} {p : List Byte}

/-! ### Zone ratios (R306) -/

/-- The ratio of zone `z` as the response gives it. -/
def zoneShare (s : State) (z : Nat) : Nat := min 65535 (divFree (4096 * s.cal.target.getD z 0) (s.reg CAL.START_STATS.GLOBAL_MED))

theorem zoneShare_lt (s : State) (z : Nat) : zoneShare s z < 256 ^ 2 := by
  unfold zoneShare
  omega

theorem zoneShare_of_median {s : State} (h : s.reg CAL.START_STATS.GLOBAL_MED ≠ 0) (z : Nat) :
    zoneShare s z = min 65535 (4096 * s.cal.target.getD z 0 / s.reg CAL.START_STATS.GLOBAL_MED) := by
  have hquot : divFree (4096 * s.cal.target.getD z 0) (s.reg CAL.START_STATS.GLOBAL_MED)
      = 4096 * s.cal.target.getD z 0 / s.reg CAL.START_STATS.GLOBAL_MED := if_neg h
  rw [zoneShare, hquot]

/-- The data of ZONE_RATIO. -/
def zoneData (s : State) : List Byte := (List.range 64).flatMap fun z => toLe 2 (zoneShare s z)

theorem length_zoneData (s : State) : (zoneData s).length = 128 := length_flatMap_toLe (List.range 64) (zoneShare s) 2

theorem leAt_zoneData (s : State) {z : Nat} (hz : z < 64) : leAt (zoneData s) (2 * z) 2 = zoneShare s z := by
  have hread := leAt_flatMap_toLe (List.range 64) (zoneShare s) 2 (i := z) (by simpa using hz)
  rw [List.getElem_range, Nat.mod_eq_of_lt (zoneShare_lt s z), Nat.mul_comm] at hread
  exact hread

theorem zoneRatio_runs (hr : Runs s mb 0x0801 []) : exec (.zoneRatio mb) s = .next (respond s mb 0 (zoneData s)) :=
  congrArg Host.Outcome.next (command_of_runs hr _)

theorem zoneRatio_completes (hm : MailOk s) (hr : Runs s mb 0x0801 []) (hmed : s.reg CAL.START_STATS.GLOBAL_MED ≠ 0) :
    Completes (.zoneRatio mb) s fun t => ∃ d : List Byte, Answered s t mb 0 d ∧ d.length = 128
      ∧ ∀ z < 64, leAt d (2 * z) 2 = min 65535 (4096 * s.cal.target.getD z 0 / s.reg CAL.START_STATS.GLOBAL_MED) := by
  have hlen := length_zoneData s
  refine completes_of (zoneRatio_runs hr) ⟨zoneData s, ok_of_runs hm hr s rfl (by omega), hlen, fun z hz => ?_⟩
  rw [leAt_zoneData s hz, zoneShare_of_median hmed]

/-- With the median open too, ZONE_RATIO answers and changes no register. -/
theorem zoneRatio_done (hm : MailOk s) (hr : Runs s mb 0x0801 []) :
    Completes (.zoneRatio mb) s fun t => (t.mb mb).phase = .done ∧ t.regs = s.regs := by
  have hlen := length_zoneData s
  have hans : Answered s (respond s mb 0 (zoneData s)) mb 0 (zoneData s) := ok_of_runs hm hr s rfl (by omega)
  exact completes_of (zoneRatio_runs hr) ⟨hans.1, by simp⟩

/-! ### Values of a run of pixels (R315, R316) -/

theorem vfRead_completes {n r c : Nat} (hm : MailOk s) (hr : Runs s mb 0x0802 p) (hlen : p.length = 8) (hrow : r = leAt p 0 2)
    (hcol : c = leAt p 2 2) (hn : n = leAt p 4 1) : Completes (.vfRead mb) s fun t =>
    (leAt p 5 1 = 1 → s.cal.vfZone.length = 64 → Answered s t mb 0 (s.cal.vfZone.flatMap (toLe 1)))
    ∧ (leAt p 5 1 = 0 → r ≤ 1023 → 1 ≤ n → n ≤ 240 → c + n ≤ 1024 →
      Answered s t mb 0 ((List.range n).flatMap (fun i => toLe 1 (planeGet 0 s.cal.vf (c + i) r)))) := by
  have hrun : exec (.vfRead mb) s = .next (vfRead mb s p) := congrArg Host.Outcome.next (command_of_runs hr _)
  refine completes_of hrun ⟨fun hzones hcount => ?_, fun hzones hrmax hlo hhi hend => ?_⟩
  · have hread : vfRead mb s p = respond s mb 0 (s.cal.vfZone.flatMap (toLe 1)) :=
      (if_pos (beq_iff_eq.mpr hlen)).trans (if_pos hzones)
    have hdata : (s.cal.vfZone.flatMap (toLe 1)).length = s.cal.vfZone.length * 1 := length_flatMap_toLe s.cal.vfZone id 1
    rw [hread]
    exact ok_of_runs hm hr s rfl (by omega)
  · have hok : pixelRunOk p 240 = true := decide_eq_true (by omega)
    have hread : vfRead mb s p = respond s mb 0 (pixelRun p fun c r => toLe 1 (planeGet 0 s.cal.vf c r)) :=
      (if_pos (beq_iff_eq.mpr hlen)).trans ((if_neg (by omega)).trans (if_pos ⟨hzones, hok⟩))
    have hdata := length_flatMap_toLe (List.range n) (fun i => planeGet 0 s.cal.vf (c + i) r) 1
    rw [List.length_range] at hdata
    rw [hread, pixelRun, ← hrow, ← hcol, ← hn]
    exact ok_of_runs hm hr s rfl (by omega)

theorem doseRead_completes {n r c : Nat} (hm : MailOk s) (hr : Runs s mb 0x0803 p) (hlen : p.length = 8) (hrow : r = leAt p 0 2)
    (hcol : c = leAt p 2 2) (hn : n = leAt p 4 1) (hrmax : r ≤ 1023) (hlo : 1 ≤ n) (hhi : n ≤ 60) (hend : c + n ≤ 1024) :
    Completes (.doseRead mb) s fun t =>
      Answered s t mb 0 ((List.range n).flatMap (fun i => toLe 4 (planeGet 0 s.cal.dose (c + i) r))) := by
  have hok : pixelRunOk p 60 = true := decide_eq_true (by omega)
  have hread : doseRead mb s p = respond s mb 0 (pixelRun p fun c r => toLe 4 (planeGet 0 s.cal.dose c r)) :=
    (if_pos (beq_iff_eq.mpr hlen)).trans (if_pos hok)
  have hrun : exec (.doseRead mb) s = .next (doseRead mb s p) := congrArg Host.Outcome.next (command_of_runs hr _)
  have hdata := length_flatMap_toLe (List.range n) (fun i => planeGet 0 s.cal.dose (c + i) r) 4
  rw [List.length_range] at hdata
  rw [hread, pixelRun, ← hrow, ← hcol, ← hn] at hrun
  exact completes_of hrun (ok_of_runs hm hr s rfl (by omega))

/-! ### Witness readings (R321) -/

/-- A witness as the response gives it: L_rel in Q12, 0 for one that is excluded. -/
def witnessShown (w : Witness) : Nat := if w.valid then min 65535 (w.lrel / 16) else 0

theorem witnessShown_lt (w : Witness) : witnessShown w < 256 ^ 2 := by
  unfold witnessShown
  split
  · omega
  · omega

theorem witnessRead_completes (hm : MailOk s) (hs : ShapeOk s) (hr : Runs s mb 0x0804 []) : Completes (.witnessRead mb) s fun t =>
    ∃ d : List Byte, Answered s t mb 0 d ∧ d.length = 129 ∧ leAt d 128 1 = s.reg CAL.AG_STATUS.MODEL_GEN % 256
      ∧ ∀ i w, s.cal.witnesses[i]? = some w → leAt d (2 * i) 2 = if w.valid then min 65535 (w.lrel / 16) else 0 := by
  obtain ⟨-, -, -, -, -, -, -, hcount, -⟩ := hs
  have hrun : exec (.witnessRead mb) s = .next (respond s mb 0 (s.cal.witnesses.flatMap (fun w => toLe 2 (witnessShown w))
      ++ toLe 1 (s.reg CAL.AG_STATUS.MODEL_GEN))) := congrArg Host.Outcome.next (command_of_runs hr _)
  have hlist : (s.cal.witnesses.flatMap fun w => toLe 2 (witnessShown w)).length = 128 := by
    rw [length_flatMap_toLe, hcount]
  have hlen : (s.cal.witnesses.flatMap (fun w => toLe 2 (witnessShown w))
      ++ toLe 1 (s.reg CAL.AG_STATUS.MODEL_GEN)).length = 129 := by
    rw [List.length_append, hlist, length_toLe]
  refine completes_of hrun ⟨_, ok_of_runs hm hr s rfl (by omega), hlen, ?_, fun i w hw => ?_⟩
  · have hgen := leAt_middle (s.cal.witnesses.flatMap fun w => toLe 2 (witnessShown w)) [] 1 (s.reg CAL.AG_STATUS.MODEL_GEN)
    rwa [hlist, List.append_nil] at hgen
  · obtain ⟨hi, rfl⟩ := List.getElem?_eq_some_iff.mp hw
    have hread := leAt_flatMap_toLe s.cal.witnesses witnessShown 2 hi
    rw [Nat.mod_eq_of_lt (witnessShown_lt _), Nat.mul_comm] at hread
    rw [leAt_append _ _ _ _ (by omega)]
    exact hread

/-! ### RECALIBRATE (R304) -/

theorem startUpCalibration_done (s : State) (readings : List UnitReading) (badRows : List Nat) :
    (startUpCalibration s readings badRows).flag CAL.STATUS.DONE = true :=
  flag_setFlag_self _ _ _ (by decide) (by decide)

/-- The statistics that RECALIBRATE answers. -/
def startStats (s : State) : List Byte :=
  toLe 2 (s.reg CAL.START_STATS.GLOBAL_MED) ++ [0, 0] ++ toLe 4 (s.reg CAL.TRIM_STATS.TRIMMED)

theorem recalibrate_eq (mb : Nat) (readings : List UnitReading) (badRows : List Nat) (s : State) :
    recalibrate mb readings badRows s [] = if s.flag SCAN.CTRL.EN = true ∨ fbActive s = true then respond s mb 7 []
      else respond (startUpCalibration s readings badRows) mb 0 (startStats (startUpCalibration s readings badRows)) := rfl

theorem recalibrate_completes (readings : List UnitReading) (badRows : List Nat) (hm : MailOk s) (hr : Runs s mb 0x0805 []) :
    Completes (.recalibrate mb readings badRows) s fun t =>
    (s.flag SCAN.CTRL.EN = true ∨ fbActive s = true → Answered s t mb 7 [] ∧ t.cal = s.cal ∧ t.regs = s.regs)
    ∧ (s.flag SCAN.CTRL.EN = false → fbActive s = false → t.flag CAL.STATUS.DONE = true
      ∧ Answered s t mb 0 (toLe 2 (t.reg CAL.START_STATS.GLOBAL_MED) ++ [0, 0] ++ toLe 4 (t.reg CAL.TRIM_STATS.TRIMMED))) := by
  have hrun : exec (.recalibrate mb readings badRows) s = .next (recalibrate mb readings badRows s []) :=
    congrArg Host.Outcome.next (command_of_runs hr _)
  rw [recalibrate_eq] at hrun
  by_cases hbar : s.flag SCAN.CTRL.EN = true ∨ fbActive s = true
  · rw [if_pos hbar] at hrun
    refine completes_of hrun ⟨fun _ => ⟨refused_of_runs hm hr s rfl (by decide), by simp, by simp⟩, fun hen hfb => ?_⟩
    simp [hen, hfb] at hbar
  · rw [if_neg hbar] at hrun
    refine completes_of hrun ⟨fun h => absurd h hbar, fun _ _ => ?_⟩
    obtain ⟨u, hu⟩ : ∃ u, u = startUpCalibration s readings badRows := ⟨_, rfl⟩
    have hmbx : u.mbx = s.mbx := by rw [hu]; simp
    rw [← hu]
    have hregs : (respond u mb 0 (startStats u)).regs = u.regs := by simp
    rw [flag_of_regs _ hregs, reg_of_regs _ hregs, reg_of_regs _ hregs]
    exact ⟨by rw [hu, startUpCalibration_done], ok_of_runs hm hr u hmbx (by simp [startStats])⟩

end

end Sys2Proof.Machine.CalibrationMail
end

section
/-! PROOF. PowerMail: sleep and power-down by mailbox (12_mailbox_command_set.md R423, 09_calibration_and_ageing.md R319,
14_clocks_and_power_states.md R464). -/

namespace Sys2Proof.Machine.PowerMail

open DoseCheckpoint (checkpoint_committed checkpoint_cal checkpointOrWait_of_may checkpointOrWait_of_not)
open FrameTiming (reg_setReg_of_lt scanDisable_effects)
open KernelMail (command_of_runs refused_of_runs ok_of_runs)
open FaultInjection (answered_of_mbx)

/-! ### PWR_SLEEP (R464) -/

/-- The deepest state whose bound fits a tolerated latency of `l` ms. -/
theorem sleepFor_of_ne_one {l : Nat} (h0 : l ≠ 0) (h1 : l ≠ 1) :
    sleepFor l = some (if l < 40 then 1 else if l < 250 then 2 else 3) := by
  unfold sleepFor
  rw [if_neg (by omega)]
  split
  · rfl
  · split
    · rfl
    · rfl

/-- The latency that a request asks for: its own, or that of the wake code. -/
def latency (s : State) (p : List Byte) : Nat :=
  if leAt p 0 2 = 0 then wakeCodeMs (s.reg PWR.STATE.WAKE_CODE) else leAt p 0 2

theorem wakeCodeMs_pos (c : Nat) : wakeCodeMs c ≠ 0 := by
  have hall : ∀ x ∈ ([2, 5, 10, 20, 40, 100, 250] : List Nat), x ≠ 0 := by decide
  unfold wakeCodeMs
  rw [List.getD_eq_getElem?_getD]
  cases h : ([2, 5, 10, 20, 40, 100, 250] : List Nat)[c]? with
  | none => decide
  | some x => exact hall x (List.mem_of_getElem? h)

theorem latency_ne_zero (s : State) (p : List Byte) : latency s p ≠ 0 := by
  unfold latency
  split
  · exact wakeCodeMs_pos _
  · assumption

/-- The entry into sleep state `n` begun. -/
def sleepBegun (s : State) (n sources : Nat) (ack : Bool) : State :=
  { s.setReg PWR.STATE.STATE 4 with pwr := { s.pwr with target := n, sources := sources, srAck := ack } }

theorem sleepBegun_power (s : State) (n sources : Nat) (ack : Bool) : (sleepBegun s n sources ack).power = 4 :=
  reg_setReg_of_lt s PWR.STATE.STATE 4 (by decide) (by decide)

section
variable {s : State} {mb : Nat} {p : List Byte} (ack : Bool) (hlen : p.length = 4)
include hlen

theorem pwrSleep_of_none (h : sleepFor (latency s p) = none) : pwrSleep mb ack s p = respond s mb 4 [] := by
  unfold latency at h
  unfold pwrSleep
  dsimp only
  rw [needLen_eq, if_pos (beq_iff_eq.mpr hlen), h]

theorem pwrSleep_of_some {n : Nat} (h : sleepFor (latency s p) = some n) (hrun : s.power = 0) :
    pwrSleep mb ack s p = sleepBegun (respond s mb 0 (toLe 1 n)) n (leAt p 2 1 % 8) ack := by
  unfold latency at h
  unfold pwrSleep
  dsimp only
  rw [needLen_eq, if_pos (beq_iff_eq.mpr hlen), h]
  exact if_neg (by simp [hrun])

theorem pwrSleep_completes {l : Nat} (hm : MailOk s) (hr : Runs s mb 0x0901 p) (hpower : s.power = 0) (hl : l = latency s p) :
    Completes (.pwrSleep mb ack) s fun t =>
    (l = 1 → Answered s t mb 4 [] ∧ t.power = 0)
    ∧ (l ≠ 1 → t.power = 4 ∧ t.pwr.sources = leAt p 2 1 % 8 ∧ Answered s t mb 0 (toLe 1 t.pwr.target)
      ∧ t.pwr.target = if l < 40 then 1 else if l < 250 then 2 else 3) := by
  have hrun : exec (.pwrSleep mb ack) s = .next (pwrSleep mb ack s p) := congrArg Host.Outcome.next (command_of_runs hr _)
  subst hl
  by_cases hone : latency s p = 1
  · rw [pwrSleep_of_none ack hlen (by rw [hone]; rfl)] at hrun
    have hregs : (respond s mb 4 []).regs = s.regs := by simp
    exact completes_of hrun ⟨fun _ => ⟨refused_of_runs hm hr s rfl (by decide), (reg_of_regs _ hregs).trans hpower⟩,
      fun h => absurd hone h⟩
  · rw [pwrSleep_of_some ack hlen (sleepFor_of_ne_one (latency_ne_zero s p) hone) hpower] at hrun
    refine completes_of hrun ⟨fun h => absurd h hone, fun _ => ⟨sleepBegun_power _ _ _ _, rfl, ?_, rfl⟩⟩
    exact answered_of_mbx (ok_of_runs hm hr s rfl (by simp)) rfl

end

/-! ### POWER_DOWN (R319, R423) -/

/-- The calibration data and the record of doses, 0x12, stand as they were. -/
def DosesKept (s t : State) : Prop :=
  t.cal = s.cal ∧ recOf t 0x12 = recOf s 0x12 ∧ sparseGet 0 t.mram.used 0x12 = sparseGet 0 s.mram.used 0x12

theorem DosesKept.refl (s : State) : DosesKept s s := ⟨rfl, rfl, rfl⟩

theorem DosesKept.trans {s t u : State} (h : DosesKept s t) (h' : DosesKept t u) : DosesKept s u :=
  ⟨h'.1.trans h.1, h'.2.1.trans h.2.1, h'.2.2.trans h.2.2⟩

theorem commitRecord_dosesKept (s : State) {num : Nat} (hne : num ≠ 0x12) (data : List Byte) (ok : Bool) :
    DosesKept s (commitRecord s num data ok) :=
  ⟨rfl, sparseGet_set_ne _ _ _ _ _ hne, sparseGet_set_ne 0 s.mram.used _ _ (sparseGet 0 s.mram.used num + 1) hne⟩

theorem commitCal_dosesKept (s : State) : DosesKept s (commitCal s) := by
  have hkept := commitRecord_dosesKept s (num := 0x10) (by decide)
    (calPayload s (nextCopy (recOf s 0x10)).1 (nextCopy (recOf s 0x10)).2) true
  obtain ⟨hcal, hrec, hused⟩ := hkept
  refine ⟨hcal, ?_, ?_⟩
  all_goals
    unfold commitCal
    dsimp only
    split
    · assumption
    · assumption

/-- Jorosh's other records are committed without touching the doses. -/
theorem recordCommit_dosesKept (s : State) {num : Nat} (hne : num ≠ 0x12) : DosesKept s (recordCommit s num) := by
  unfold recordCommit
  split
  · exact DosesKept.refl s
  · split
    · split
      · exact DosesKept.refl s
      · exact commitRecord_dosesKept s (by decide) _ _
    · split
      · split
        · exact commitCal_dosesKept s
        · exact DosesKept.refl s
      · split
        · split
          · exact DosesKept.refl s
          · exact commitRecord_dosesKept s (by decide) _ _
        · exact DosesKept.refl s

/-- The checkpoint, or its wait, and the records that wait. -/
def recordsSaved (s : State) : State := [3, 0x10, 0x11].foldl recordCommit (checkpointOrWait s)

theorem recordsSaved_dosesKept (s : State) : DosesKept (checkpointOrWait s) (recordsSaved s) := by
  have hone (num : Nat) (hne : num ≠ 0x12) (u : State) : DosesKept u (recordCommit u num) := recordCommit_dosesKept u hne
  unfold recordsSaved
  rw [List.foldl_cons, List.foldl_cons, List.foldl_cons, List.foldl_nil]
  exact ((hone 3 (by decide) _).trans (hone 0x10 (by decide) _)).trans (hone 0x11 (by decide) _)

/-- A checkpoint made is no longer due and used one commit; one that waits is due and changed no record. -/
theorem recordsSaved_effects (s : State) : (recordsSaved s).cal.ckptDue = !mayCommit s 0x12
    ∧ (mayCommit s 0x12 = true → sparseGet 0 (recordsSaved s).mram.used 0x12 = sparseGet 0 s.mram.used 0x12 + 1)
    ∧ (mayCommit s 0x12 = false → recOf (recordsSaved s) 0x12 = recOf s 0x12) := by
  obtain ⟨hcal, hrec, hused⟩ := recordsSaved_dosesKept s
  rw [hcal, hrec, hused]
  cases hmay : mayCommit s 0x12 with
  | true =>
    obtain ⟨-, hdue, -⟩ := checkpoint_cal s
    obtain ⟨data, -, -, -, hone⟩ := checkpoint_committed s
    rw [checkpointOrWait_of_may s hmay]
    exact ⟨hdue, fun _ => hone, nofun⟩
  | false =>
    obtain ⟨hdue, hmram⟩ := checkpointOrWait_of_not s hmay
    refine ⟨hdue, nofun, fun _ => ?_⟩
    unfold recOf
    rw [hmram]

/-- The raster is off. -/
def rasterOff (s : State) : State := if s.flag SCAN.CTRL.EN then scanDisable s else s

theorem rasterOff_effects (s : State) : (rasterOff s).flag SCAN.CTRL.EN = false ∧ (rasterOff s).mram = s.mram
    ∧ (rasterOff s).cal = s.cal ∧ (rasterOff s).mbx = s.mbx := by
  unfold rasterOff
  split
  · exact ⟨(scanDisable_effects s).1, by simp, by simp, by simp⟩
  · next h => exact ⟨Bool.eq_false_iff.mpr h, rfl, rfl, rfl⟩

theorem powerDown_eq (mb : Nat) (s : State) : powerDown mb s [] = respond (rasterOff (recordsSaved s)) mb 0 [] := rfl

theorem powerDown_completes {s : State} {mb : Nat} (hm : MailOk s) (hr : Runs s mb 0x0902 []) :
    Completes (.powerDown mb) s fun t =>
    Answered s t mb 0 [] ∧ t.flag SCAN.CTRL.EN = false
    ∧ t.mram = ([3, 0x10, 0x11].foldl recordCommit (checkpointOrWait s)).mram
    ∧ t.cal.ckptDue = !mayCommit s 0x12
    ∧ (mayCommit s 0x12 = true → sparseGet 0 t.mram.used 0x12 = sparseGet 0 s.mram.used 0x12 + 1)
    ∧ (mayCommit s 0x12 = false → recOf t 0x12 = recOf s 0x12) := by
  have hrun : exec (.powerDown mb) s = .next (powerDown mb s []) := congrArg Host.Outcome.next (command_of_runs hr _)
  rw [powerDown_eq] at hrun
  obtain ⟨u, hu⟩ : ∃ u, u = rasterOff (recordsSaved s) := ⟨_, rfl⟩
  obtain ⟨hoff, hmram, hcal, hmbx⟩ := rasterOff_effects (recordsSaved s)
  obtain ⟨hdue, hused, hrec⟩ := recordsSaved_effects s
  have hsaved : (recordsSaved s).mbx = s.mbx := by simp [recordsSaved]
  rw [← hu] at hrun hoff hmram hcal hmbx
  obtain ⟨t, ht⟩ : ∃ t, t = respond u mb 0 [] := ⟨_, rfl⟩
  have hans : Answered s t mb 0 [] := by
    rw [ht]
    exact ok_of_runs hm hr u (hmbx.trans hsaved) (by simp)
  have htregs : t.regs = u.regs := by rw [ht]; simp
  have htmram : t.mram = (recordsSaved s).mram := by rw [ht, ← hmram]; simp
  have htcal : t.cal = (recordsSaved s).cal := by rw [ht, ← hcal]; simp
  have htrec : recOf t 0x12 = recOf (recordsSaved s) 0x12 := by unfold recOf; rw [htmram]
  rw [← ht] at hrun
  refine completes_of hrun ⟨hans, (flag_of_regs _ htregs).trans hoff, htmram, by rw [htcal, hdue], ?_, ?_⟩
  · rw [htmram]
    exact hused
  · rw [htrec]
    exact hrec

end Sys2Proof.Machine.PowerMail
end

section
/-! PROOF. EnumerationMail: enumeration and addresses by mailbox (10_tatex_link.md R356, R357; 12_mailbox_command_set.md R423). -/

namespace Sys2Proof.Machine.EnumerationMail

open FrameTiming (reg_setReg_of_lt)
open KernelMail (command_of_runs refused_of_runs ok_of_runs respondWith_answered)

/-! ### The round that this device originates (R357) -/

/-- The round under way from here, and the mailbox that waits for it, stand as they were. -/
def RoundKept (s t : State) : Prop := t.net.origin = s.net.origin ∧ t.net.enumMb = s.net.enumMb

theorem RoundKept.of_net {s t : State} (h : t.net = s.net) : RoundKept s t := by
  unfold RoundKept
  rw [h]
  exact ⟨rfl, rfl⟩

theorem RoundKept.trans {s t u : State} (h : RoundKept s t) (h' : RoundKept t u) : RoundKept s u :=
  ⟨h'.1.trans h.1, h'.2.trans h.2⟩

section
variable (s : State)

/-- A packet sent concerns the ports alone. -/
theorem sendPort_roundKept (p : Nat) (pkt : Packet) : RoundKept s (sendPort s p pkt) := by
  unfold sendPort sendOn
  split
  · dsimp only
    split
    · exact ⟨rfl, rfl⟩
    · exact ⟨rfl, rfl⟩
  · exact ⟨rfl, rfl⟩

theorem routeLocal_roundKept (pkt : Packet) : RoundKept s (routeLocal s pkt) := by
  unfold routeLocal
  dsimp only
  split
  · split
    · exact sendPort_roundKept s _ _
    · exact sendPort_roundKept s _ _
  · split
    · exact (sendPort_roundKept s _ _).trans (sendPort_roundKept _ _ _)
    · split
      · exact sendPort_roundKept s _ _
      · split
        · exact sendPort_roundKept s _ _
        · split
          · exact ⟨rfl, rfl⟩
          · exact sendPort_roundKept s _ _

theorem sendLocal_roundKept (type dest tspec : Nat) (payload : List Byte) : RoundKept s (sendLocal s type dest tspec payload) :=
  routeLocal_roundKept (newPacket s type dest tspec payload).1 _

theorem sendPortNew_roundKept (p type dest tspec : Nat) (payload : List Byte) :
    RoundKept s (sendPortNew s p type dest tspec payload) :=
  sendPort_roundKept (newPacket s type dest tspec payload).1 p _

theorem tellOwner_roundKept (n status : Nat) (rsp : List Byte) : RoundKept s (tellOwner s n status rsp) := by
  unfold tellOwner
  dsimp only
  split
  · exact ⟨rfl, rfl⟩
  · split
    · exact ⟨rfl, rfl⟩
    · exact sendLocal_roundKept s _ _ _ _
  · exact ⟨rfl, rfl⟩

theorem respond_roundKept (n status : Nat) (data : List Byte) : RoundKept s (respond s n status data) :=
  tellOwner_roundKept _ n status _

end

/-! ### Addresses (R356, R357) -/

theorem takeAddress_addr (s : State) {a : Nat} (ha : a ≤ 511) : (takeAddress s a).reg TXLA.NODE.ADDR = a :=
  (reg_setFlag_ne _ _ _ _ (by decide)).trans (reg_setReg_of_lt _ _ _ (by decide) (Nat.lt_of_le_of_lt ha (by decide)))

theorem takeAddress_valid (s : State) (a : Nat) : (takeAddress s a).flag TXLA.NODE.ADDR_VALID = true :=
  flag_setFlag_self _ _ _ (by decide) (by decide)

/-! ### ENUMERATE (R357, R423) -/

/-- The start address taken, and the round begun that mailbox `mb` waits for. -/
def roundBegun (s : State) (mb start : Nat) : State :=
  { takeAddress s start with net := { s.net with
    origin := some s.net.round, enumMb := some mb, enumSeen := some s.net.round, round := (s.net.round + 1) % 65536 } }

/-- The ENUM that begins a round. -/
def firstEnum (s : State) (start : Nat) : EnumBody :=
  { round := s.net.round, next := start + 1, count := 1, origin := start, ring := false, isPartial := false }

theorem beginEnum_eq (s : State) (mb start : Nat) :
    beginEnum s mb start = sendPortNew (roundBegun s mb start) 1 0 1023 1 (enumBytes (firstEnum s start)) := rfl

theorem beginEnum_effects (s : State) (mb : Nat) {start : Nat} (h : start ≤ 511) :
    (beginEnum s mb start).reg TXLA.NODE.ADDR = start ∧ (beginEnum s mb start).flag TXLA.NODE.ADDR_VALID = true
    ∧ (beginEnum s mb start).net.origin = some s.net.round ∧ (beginEnum s mb start).net.enumMb = some mb
    ∧ (beginEnum s mb start).mb mb = s.mb mb := by
  rw [beginEnum_eq]
  obtain ⟨t, ht⟩ : ∃ t, t = sendPortNew (roundBegun s mb start) 1 0 1023 1 (enumBytes (firstEnum s start)) := ⟨_, rfl⟩
  have hregs : t.regs = (takeAddress s start).regs := by rw [ht]; simp [roundBegun]
  have hmbx : t.mbx = s.mbx := by rw [ht]; simp [roundBegun]
  obtain ⟨horigin, hmb⟩ : RoundKept (roundBegun s mb start) t := by rw [ht]; exact sendPortNew_roundKept _ _ _ _ _ _
  rw [← ht, reg_of_regs _ hregs, flag_of_regs _ hregs, horigin, hmb]
  exact ⟨takeAddress_addr s h, takeAddress_valid s start, rfl, rfl, by unfold State.mb; rw [hmbx]⟩

section
variable {s : State} {mb a : Nat} {p : List Byte}

theorem enumerateCmd_eq (mb : Nat) (s : State) (hlen : p.length = 2) (ha : a = leAt p 0 2) : enumerateCmd mb s p =
    if 511 < a then respond s mb 4 [] else if s.net.enumMb = some mb then s
    else if s.net.origin.isSome then respond s mb 7 [] else beginEnum s mb a := by
  subst ha
  exact if_pos (beq_iff_eq.mpr hlen)

theorem enumerate_completes (hm : MailOk s) (hr : Runs s mb 0x0A01 p) (hlen : p.length = 2) (ha : a = leAt p 0 2) :
    Completes (.enumerate mb) s fun t =>
    (511 < a → Answered s t mb 4 [])
    ∧ (a ≤ 511 → s.net.enumMb = none → s.net.origin = none →
      t.reg TXLA.NODE.ADDR = a ∧ t.flag TXLA.NODE.ADDR_VALID = true ∧ t.net.origin = some s.net.round
      ∧ t.net.enumMb = some mb ∧ t.mb mb = s.mb mb)
    ∧ (a ≤ 511 → s.net.enumMb ≠ some mb → s.net.origin ≠ none → Answered s t mb 7 [] ∧ t.net.origin = s.net.origin)
    ∧ (s.net.enumMb = some mb → a ≤ 511 → t = s) := by
  have hrun : exec (.enumerate mb) s = .next (enumerateCmd mb s p) := congrArg Host.Outcome.next (command_of_runs hr _)
  have hcmd := enumerateCmd_eq mb s hlen ha
  refine completes_of hrun ⟨fun hbig => ?_, fun hfit hfree hidle => ?_, fun hfit hother hround => ?_, fun hsame hfit => ?_⟩
  · rw [hcmd, if_pos hbig]
    exact refused_of_runs hm hr s rfl (by decide)
  · rw [hcmd, if_neg (by omega), if_neg (by simp [hfree]), if_neg (by simp [hidle])]
    exact beginEnum_effects s mb hfit
  · rw [hcmd, if_neg (by omega), if_neg hother, if_pos (Option.isSome_iff_ne_none.mpr hround)]
    exact ⟨refused_of_runs hm hr s rfl (by decide), (respond_roundKept s mb 7 []).1⟩
  · rw [hcmd, if_neg (by omega), if_pos hsame]

/-! ### ASSIGN_ADDR (R356, R422) -/

theorem assignAddr_eq (mb : Nat) (s : State) (hlen : p.length = 10) (ha : leAt p 8 2 ≤ 511) : assignAddr mb s p =
    if leAt p 0 8 ≠ Config.serial.toNat then respond s mb 0x0F []
    else respond (takeAddress s (leAt p 8 2)) mb 0 (toLe 2 (leAt p 8 2)) :=
  (if_pos (beq_iff_eq.mpr hlen)).trans (if_neg (by omega))

theorem assignAddr_completes (hm : MailOk s) (hr : Runs s mb 0x0A02 p) (hlen : p.length = 10) (ha : leAt p 8 2 ≤ 511) :
    Completes (.assignAddr mb) s fun t =>
    (leAt p 0 8 = Config.serial.toNat → t.reg TXLA.NODE.ADDR = leAt p 8 2 ∧ t.flag TXLA.NODE.ADDR_VALID = true
      ∧ Answered s t mb 0 (toLe 2 (leAt p 8 2)))
    ∧ (leAt p 0 8 ≠ Config.serial.toNat → Answered s t mb 0x0F [] ∧ t.regs = s.regs) := by
  have hrun : exec (.assignAddr mb) s = .next (assignAddr mb s p) := congrArg Host.Outcome.next (command_of_runs hr _)
  rw [assignAddr_eq mb s hlen ha] at hrun
  by_cases hserial : leAt p 0 8 = Config.serial.toNat
  · rw [if_neg (not_not_intro hserial)] at hrun
    have hregs : (respond (takeAddress s (leAt p 8 2)) mb 0 (toLe 2 (leAt p 8 2))).regs
        = (takeAddress s (leAt p 8 2)).regs := by simp
    refine completes_of hrun ⟨fun _ => ?_, fun h => absurd hserial h⟩
    rw [reg_of_regs _ hregs, flag_of_regs _ hregs]
    exact ⟨takeAddress_addr s ha, takeAddress_valid s _, ok_of_runs hm hr _ (by simp) (by simp)⟩
  · rw [if_pos hserial] at hrun
    exact completes_of hrun ⟨fun h => absurd h hserial, fun _ => ⟨refused_of_runs hm hr s rfl (by decide), by simp⟩⟩

end

/-! ### The end of a round (R357) -/

section
variable {s : State} {p : Port} {pkt : Packet} {rx : Nat}

/-- The consumed packet is taken from its port. -/
def packetTaken (s : State) (p : Port) : State := s.setPort (portNo p) (fun y => { y with pkt := none })

/-- Its ENUM_END back at the origin ends the round and leads to TOPO. -/
def roundEnded (s : State) (p : Port) (pkt : Packet) : State :=
  broadcastTopo (packetTaken s p) { enumBody pkt.payload with ring := (enumBody pkt.payload).isPartial }

theorem nopEnumEnd_of_origin (hpkt : (s.port (portNo p)).pkt = some (pkt, rx)) (htype : pkt.hdr.type = 0)
    (htspec : pkt.hdr.tspec = 2) (horigin : s.net.origin = some (leAt pkt.payload 0 2)) :
    nopEnumEnd p s = roundEnded s p pkt := by
  have htake : takePacket s (portNo p) 0 = some (packetTaken s p, pkt, rx) := by
    unfold takePacket
    rw [hpkt]
    exact if_pos htype
  unfold nopEnumEnd
  rw [htake]
  exact (if_neg (not_not_intro htspec)).trans (if_pos horigin)

theorem recordTopo_roundKept (s : State) (e : EnumBody) : RoundKept s (recordTopo s e) := by
  have hwrap (u : State) (q : Nat) : RoundKept u (wrapFor e.ring u q) := RoundKept.of_net (by simp)
  unfold recordTopo
  exact RoundKept.trans (t := { s with net := { s.net with topoSeen := some e.round } }) ⟨rfl, rfl⟩
    ((hwrap _ 0).trans (hwrap _ 1))

theorem broadcastTopo_net (s : State) (e : EnumBody) :
    (broadcastTopo s e).net.origin = none ∧ (broadcastTopo s e).net.enumMb = s.net.enumMb :=
  (recordTopo_roundKept { s with net := { s.net with origin := none } } e).trans (sendLocal_roundKept _ _ _ _ _)

/-- With its round over, the mailbox that waits is answered with the count of nodes and the topology. -/
theorem finishEnum_of_waiting {n : Nat} (hmb : s.net.enumMb = some n) (horigin : s.net.origin = none) :
    finishEnum s = respond { s with net := { s.net with enumMb := none } } n 0
      (toLe 2 (s.reg TXLA.NODE.NODES) ++ toLe 1 (s.reg TXLA.NODE.TOPO)) := by
  unfold finishEnum
  rw [hmb, horigin]

/-- An answer is judged by the mailboxes before it. -/
theorem answered_before {u t : State} {mb status : Nat} {data : List Byte} (hu : u.mbx = s.mbx)
    (h : Answered u t mb status data) : Answered s t mb status data := by
  have hboxes (k : Nat) : u.mb k = s.mb k := by unfold State.mb; rw [hu]
  unfold Answered at h ⊢
  simpa only [hboxes] using h

theorem nopEnumEnd_completes {n : Nat} (hm : MailOk s) (hpkt : (s.port (portNo p)).pkt = some (pkt, rx)) (htype : pkt.hdr.type = 0)
    (htspec : pkt.hdr.tspec = 2) (horigin : s.net.origin = some (leAt pkt.payload 0 2)) (hmb : s.net.enumMb = some n)
    (hn : n < 8) : Completes (.nopEnumEnd p) s fun t =>
    Answered s t n 0 (toLe 2 (t.reg TXLA.NODE.NODES) ++ toLe 1 (t.reg TXLA.NODE.TOPO)) ∧ t.net.enumMb = none := by
  have hrun : exec (.nopEnumEnd p) s = .next (finishEnum (nopEnumEnd p s)) := rfl
  obtain ⟨u, hu⟩ : ∃ u, u = roundEnded s p pkt := ⟨_, rfl⟩
  have hmbx : u.mbx = s.mbx := by rw [hu, roundEnded]; simp [packetTaken, State.setPort]
  obtain ⟨hover, hwaits⟩ : u.net.origin = none ∧ u.net.enumMb = some n := by
    rw [hu, ← hmb]
    exact broadcastTopo_net _ _
  rw [nopEnumEnd_of_origin hpkt htype htspec horigin, ← hu, finishEnum_of_waiting hwaits hover] at hrun
  obtain ⟨v, hv⟩ : ∃ v : State, v = { u with net := { u.net with enumMb := none } } := ⟨_, rfl⟩
  have hvmbx : v.mbx = s.mbx := by rw [hv]; exact hmbx
  have hregs (data : List Byte) : (respond v n 0 data).regs = u.regs := by rw [hv]; simp
  have hdone (data : List Byte) : (respond v n 0 data).net.enumMb = none := by
    rw [(respond_roundKept v n 0 data).2, hv]
  rw [← hv] at hrun
  refine completes_of hrun ⟨?_, hdone _⟩
  rw [reg_of_regs _ (hregs _), reg_of_regs _ (hregs _)]
  exact answered_before hvmbx (respondWith_answered v n 0 (.inl rfl) (by rw [hvmbx, hm.1]; exact hn) (by simp) (by decide)).1

end

end Sys2Proof.Machine.EnumerationMail
end

section
/-! PROOF. CalibrationAndPower: the calibration, power and ring commands together (12_mailbox_command_set.md R423). -/

namespace Sys2Proof.Machine.CalibrationAndPower

open CalibrationMail (zoneRatio_completes zoneRatio_done vfRead_completes doseRead_completes witnessRead_completes
  recalibrate_completes)
open EnumerationMail (enumerate_completes nopEnumEnd_completes assignAddr_completes)
open PowerMail (pwrSleep_completes powerDown_completes)

/-- Settles O48, command by command. -/
theorem calibrationAndPowerCommands : Obligations.CalibrationAndPowerCommands := by
  unfold Obligations.CalibrationAndPowerCommands
  refine ⟨fun s mb hm hr hmed => zoneRatio_completes hm hr hmed, fun s mb hm hr => zoneRatio_done hm hr,
    fun s mb p n r c hm hr hlen hrow hcol hn => vfRead_completes hm hr hlen hrow hcol hn,
    fun s mb p n r c hm hr hlen hrow hcol hn hrmax hlo hhi hend => doseRead_completes hm hr hlen hrow hcol hn hrmax hlo hhi hend,
    fun s mb hm hs hr => witnessRead_completes hm hs hr, fun s mb rd br hm hr => recalibrate_completes rd br hm hr,
    fun s mb ack p l hm hr hlen hpower hl => pwrSleep_completes ack hlen hm hr hpower hl,
    fun s mb hm hr => powerDown_completes hm hr, fun s mb p a hm hr hlen ha => enumerate_completes hm hr hlen ha,
    fun s p pkt rx n hm hpkt htype htspec horigin hmb hn => nopEnumEnd_completes hm hpkt htype htspec horigin hmb hn,
    fun s mb p hm hr hlen ha => assignAddr_completes hm hr hlen ha⟩

end Sys2Proof.Machine.CalibrationAndPower
end

section
/-! PROOF. TatexFrames: what the commands of the Tatex link leave unchanged (10_tatex_link.md). -/

namespace Sys2Proof.Machine.TatexFrames

open EngineFrames (Changes setReg_changes setFlag_changes setGuard_changes setFlt_changes raiseEvent_changes setShd_changes)

/-! ### What the operations change -/

/-- The fields of a lost link (R345, R358): the port's status and what its fault changes. -/
def lossSet : List Field := entrySet ++ linkSet ++ [SAFE.FB_CAUSE.FATAL] ++ allOf 96 FLT.COUNT.COUNT

section
variable (s : State)

theorem setNet_changes (v : Net) : Changes [.net] [] s { s with net := v } :=
  ⟨rfl, fun p hp => by cases p <;> simp [Part.Same] at hp ⊢, fun _ _ => rfl⟩

theorem setPort_changes (n : Nat) (f : PortSt → PortSt) : Changes [.net] [] s (s.setPort n f) := setNet_changes s _

theorem raiseFault_changes (src cls : Nat) : Changes [.scan, .flt] raiseFaultRegs s (raiseFault s src cls) :=
  ⟨by simp, fun p hp => by cases p <;> simp [Part.Same] at hp ⊢, fun _ hk => raiseFault_word hk s src cls⟩

theorem startTraining_changes (n : Nat) : Changes [.net] (allOf 2 TX.STATUS.STATE) s (startTraining s n) :=
  ⟨by simp, fun p hp => by cases p <;> simp [Part.Same] at hp ⊢, fun _ hk => startTraining_word hk s n⟩

theorem portDown_changes (n : Nat) : Changes [.scan, .net, .flt] lossSet s (portDown s n) := by
  have h : Changes [.scan, .net, .flt] portDownRegs s (portDown s n) :=
    ⟨by simp, fun p hp => by cases p <;> simp [Part.Same] at hp ⊢, fun _ hk => portDown_word hk s n⟩
  exact h.mono (by decide) (by decide +kernel)

theorem portDisable_changes (n : Nat) :
    Changes [.scan, .net, .flt] (lossSet ++ allOf 2 TX.CTRL.EN) s (portDisable s n) := by
  have h : Changes [.scan, .net, .flt] portDisableRegs s (portDisable s n) :=
    ⟨by simp, fun p hp => by cases p <;> simp [Part.Same] at hp ⊢, fun _ hk => portDisable_word hk s n⟩
  exact h.mono (by decide) (by decide +kernel)

theorem rateDecision_changes (n : Nat) (fom : List Nat) :
    Changes [.net, .flt] rateDecisionRegs s (rateDecision s n fom) :=
  ⟨by simp, fun p hp => by cases p <;> simp [Part.Same] at hp ⊢, fun _ hk => rateDecision_word hk s n fom⟩

theorem measureFom_changes (n : Nat) (lanes : List LaneEq) (gains : List (Nat × Nat × Int)) :
    Changes [.scan, .net, .flt] measureFomRegs s (measureFom s n lanes gains) :=
  ⟨by simp, fun p hp => by cases p <;> simp [Part.Same] at hp ⊢, fun _ hk => measureFom_word hk s n lanes gains⟩

theorem gotTrn1_changes (n : Nat) (i : Trn1Info) : Changes [.net] gotTrn1Regs s (gotTrn1 s n i) :=
  ⟨by simp, fun p hp => by cases p <;> simp [Part.Same] at hp ⊢, fun _ hk => gotTrn1_word hk s n i⟩

theorem foldl_setEq_changes (n : Nat) (l : List (Nat × LaneEq)) :
    Changes [] setEqRegs s (l.foldl (fun t x => setEq t n x) s) :=
  ⟨by simp, fun p _ => by cases p <;> simp [Part.Same], fun _ hk => by simp [hk]⟩

theorem badPacket_changes (n : Nat) : Changes [.scan, .net, .flt] badPacketRegs s (badPacket s n) :=
  ⟨by simp, fun p hp => by cases p <;> simp [Part.Same] at hp ⊢, fun _ hk => badPacket_word hk s n⟩

theorem judgeHeader_changes (n : Nat) (h : Header) :
    Changes [.scan, .net, .mbx, .flt] judgeHeaderRegs s (judgeHeader s n h) :=
  ⟨by simp, fun p hp => by cases p <;> simp [Part.Same] at hp ⊢, fun _ hk => judgeHeader_word hk s n h⟩

theorem endPacket_changes (n : Nat) (payload : List Byte) (crc : Word) (e : PacketEnding) :
    Changes [.scan, .net, .flt] endPacketRegs s (endPacket s n payload crc e) :=
  ⟨by simp, fun p hp => by cases p <;> simp [Part.Same] at hp ⊢, fun _ hk => endPacket_word hk s n payload crc e⟩

theorem safeRecord_changes (pathB : Bool) (rec : List Byte) :
    Changes [.guard, .flt] safeRecordRegs s (safeRecord s pathB rec) :=
  ⟨by simp, fun p hp => by cases p <;> simp [Part.Same] at hp ⊢, fun _ hk => safeRecord_word hk s pathB rec⟩

theorem dramWrite_changes (a : Nat) (v : List Byte) : Changes [.dram, .gal] dramWriteRegs s (dramWrite s a v) :=
  ⟨by simp, fun p hp => by cases p <;> simp [Part.Same] at hp ⊢, fun _ hk => dramWrite_word hk s a v⟩

theorem applyRecords_changes (batch : Bool) (i : Nat) (l : List (List Byte)) :
    Changes [.scan, .shd, .flt] applyRecordsRegs s (applyRecords batch s i l).1 :=
  ⟨by simp, fun p hp => by cases p <;> simp [Part.Same] at hp ⊢, fun _ hk => applyRecords_word hk batch s i l⟩

theorem sendLocal_changes (type dest tspec : Nat) (payload : List Byte) :
    Changes [.net] [] s (sendLocal s type dest tspec payload) :=
  ⟨by simp, fun p hp => by cases p <;> simp [Part.Same] at hp ⊢, fun _ _ => by simp⟩

theorem sendPortNew_changes (n type dest tspec : Nat) (payload : List Byte) :
    Changes [.net] [] s (sendPortNew s n type dest tspec payload) :=
  ⟨by simp, fun p hp => by cases p <;> simp [Part.Same] at hp ⊢, fun _ _ => by simp⟩

theorem recordTopo_changes (e : EnumBody) : Changes [.net, .flt] recordTopoRegs s (recordTopo s e) :=
  ⟨by simp, fun p hp => by cases p <;> simp [Part.Same] at hp ⊢, fun _ hk => recordTopo_word hk s e⟩

theorem sendSync_changes (n : Nat) : Changes [.net] [] s (sendSync s n) :=
  ⟨by simp, fun p hp => by cases p <;> simp [Part.Same] at hp ⊢, fun _ _ => by simp⟩

theorem chooseSync_changes : Changes [] chooseSyncRegs s (chooseSync s) :=
  ⟨by simp, fun p _ => by cases p <;> simp [Part.Same], fun _ hk => chooseSync_word hk s⟩

theorem correct_changes (n : Nat) (theta : Int) :
    Changes [.lt, .synced, .net, .flt] correctRegs s (correct s n theta) :=
  ⟨by simp, fun p hp => by cases p <;> simp [Part.Same] at hp ⊢, fun _ hk => correct_word hk s n theta⟩

end

/-- A packet taken for its action changes the Tatex state alone. -/
theorem takePacket_changes {s t : State} {n k : Nat} {pkt : Packet} {rx : Nat}
    (h : takePacket s n k = some (t, pkt, rx)) : Changes [.net] [] s t := by
  rw [takePacket_net h]
  exact setNet_changes s _

/-! ### What the commands change -/

section
variable {s t : State} {p : Port}

theorem portEnSet_changes (h : execPortEnSet p s = .next t) :
    Changes [.net] (allOf 2 TX.CTRL.EN ++ allOf 2 TX.STATUS.STATE) s t := by
  cases h
  exact Changes.ite (fun _ => Changes.refl _ _ _)
    (fun _ => ((setFlag_changes s (TX.CTRL.EN (portNo p)) true).trans (startTraining_changes _ _)).mono (by decide)
      (by cases p <;> decide))

theorem trn1Received_changes {i : Trn1Info} (h : execTrn1Received p i s = .next t) : Changes [.scan, .net, .flt]
    (lossSet ++ allOf 2 TX.STATUS.INVERTED ++ allOf 2 TX.STATUS.LANE_MAP) s t := by
  cases h
  exact Changes.ite (fun _ => (portDown_changes s _).mono (by decide) (by decide +kernel))
    (fun _ => Changes.ite (fun _ => (gotTrn1_changes s _ i).mono (by decide) (by decide +kernel))
      (fun _ => Changes.refl _ _ _))

theorem trn2Received_changes {rate : Nat} {fom : List Nat} (h : execTrn2Received p rate fom s = .next t) :
    Changes [.net, .flt] (allOf 2 TX.STATUS.RATE ++ allOf 2 TX.STATUS.STATE ++ allOf 2 TX.STATUS.WRAP ++ allOf 2
      TX.TRAIN_FAIL) s t := by
  cases h
  exact Changes.ite
    (fun _ => Changes.ite (fun _ => (setPort_changes s _ _).mono (by decide) rfl)
      (fun _ => Changes.ite (fun _ => (rateDecision_changes s _ fom).mono (by decide) (by decide))
        (fun _ => Changes.refl _ _ _)))
    (fun _ => Changes.refl _ _ _)

theorem rateChange_changes (h : execRateChange p s = .next t) : Changes [.net] [] s t := by
  cases h
  exact Changes.ite (fun _ => setPort_changes s _ _) (fun _ => Changes.refl _ _ _)

theorem adaptationComplete_changes {lanes : List LaneEq} (h : execAdaptationComplete p lanes s = .next t) :
    Changes [.net] (allOf 8 TX.EQ.CTLE ++ allOf 8 TX.EQ.H1 ++ allOf 8 TX.EQ.H2 ++ allOf 8 TX.EQ.H3) s t := by
  cases h
  exact Changes.ite
    (fun _ => ((foldl_setEq_changes s (portNo p) _).trans (setPort_changes _ _ _)).mono (by decide) (by decide))
    (fun _ => Changes.refl _ _ _)

theorem trainingTimeout_changes (h : execTrainingTimeout p s = .next t) : Changes [.net] (allOf 2 TX.TRAIN_FAIL) s t := by
  cases h
  exact Changes.ite
    (fun _ => ((setReg_changes s (TX.TRAIN_FAIL (portNo p)) _).trans (setPort_changes _ _ _)).mono (by decide)
      (by cases p <;> decide))
    (fun _ => Changes.refl _ _ _)

theorem trainingRestart_changes (h : execTrainingRestart p s = .next t) : Changes [.net] [] s t := by
  cases h
  exact Changes.ite (fun _ => setPort_changes s _ _) (fun _ => Changes.refl _ _ _)

theorem fomMeasurement_changes {lanes : List LaneEq} {gains : List (Nat × Nat × Int)}
    (h : execFomMeasurement p lanes gains s = .next t) : Changes [.scan, .net, .flt]
    (lossSet ++ allOf 8 TX.EQ.H1 ++ allOf 8 TX.EQ.H2 ++ allOf 8 TX.EQ.H3 ++ allOf 8 TX.FOM.FOM ++ allOf 2
      TX.STATUS.FOM_LOW) s t := by
  cases h
  exact Changes.ite (fun _ => (measureFom_changes s _ lanes gains).mono (by decide) (by decide +kernel))
    (fun _ => Changes.refl _ _ _)

theorem codeErrorBurst_changes {n : Nat} (h : execCodeErrorBurst p n s = .next t) :
    Changes [.scan, .net, .flt] (lossSet ++ allOf 2 TX.CODE_ERR) s t := by
  have hcounted := setReg_changes s (TX.CODE_ERR (portNo p)) (satAdd 32 (s.reg (TX.CODE_ERR (portNo p))) n)
  cases h
  exact Changes.ite
    (fun _ => (hcounted.trans (portDown_changes _ _)).mono (by decide) (by cases p <;> decide +kernel))
    (fun _ => hcounted.mono (by decide) (by cases p <;> decide +kernel))

theorem elasticBufferSlip_changes (h : execElasticBufferSlip p s = .next t) :
    Changes [.scan, .net, .flt] (lossSet ++ allOf 2 TX.CODE_ERR) s t := by
  cases h
  exact ((setReg_changes s (TX.CODE_ERR (portNo p)) _).trans (portDown_changes _ _)).mono (by decide)
    (by cases p <;> decide +kernel)

theorem portEnClear_changes (h : execPortEnClear p s = .next t) :
    Changes [.scan, .net, .flt] (lossSet ++ allOf 2 TX.CTRL.EN) s t := by
  cases h
  exact Changes.ite (fun _ => portDisable_changes s _) (fun _ => Changes.refl _ _ _)

theorem quarantineTimeout_changes (h : execQuarantineTimeout p s = .next t) :
    Changes [.net] (allOf 2 TX.STATUS.STATE) s t := by
  cases h
  exact Changes.ite (fun _ => startTraining_changes s _) (fun _ => Changes.refl _ _ _)

theorem quarantineRelease_changes (h : execQuarantineRelease p s = .next t) :
    Changes [.net] (allOf 2 TX.STATUS.STATE) s t := by
  cases h
  exact Changes.ite (fun _ => startTraining_changes s _) (fun _ => Changes.refl _ _ _)

theorem packetHeaderArrival_changes {hdr : Header} (h : execPacketHeaderArrival p hdr s = .next t) :
    Changes [.scan, .net, .mbx, .flt] (entrySet ++ quarSet ++ [MBX.RSP_LOST.COUNT, SAFE.FB_CAUSE.FATAL] ++ allOf 96
      FLT.COUNT.COUNT ++ allOf 2 TX.FWD_DROP ++ allOf 2 TX.LOCAL_DROP ++ allOf 2 TX.MALFORMED ++ allOf 2 TX.ORPHAN
      ++ allOf 2 TX.WRAP_DROP) s t := by
  cases h
  exact Changes.ite (fun _ => (judgeHeader_changes s _ hdr).mono (by decide) (by decide +kernel))
    (fun _ => Changes.refl _ _ _)

theorem packetEnd_changes {payload : List Byte} {crc : Word} {e : PacketEnding}
    (h : execPacketEnd p payload crc e s = .next t) :
    Changes [.scan, .net, .flt] (entrySet ++ quarSet ++ [SAFE.FB_CAUSE.FATAL] ++ allOf 96 FLT.COUNT.COUNT ++ allOf 2
      TX.CRC_ERR ++ allOf 2 TX.MALFORMED ++ allOf 2 TX.RATE_DROP ++ allOf 2 TX.STOMP_RX ++ allOf 2 TX.UNTRUSTED) s t := by
  cases h
  exact Changes.ite (fun _ => (endPacket_changes s _ payload crc e).mono (by decide) (by decide +kernel))
    (fun _ => Changes.refl _ _ _)

theorem localPacketResend_changes (h : execLocalPacketResend p s = .next t) : Changes [.net] [] s t := by
  unfold execLocalPacketResend at h
  dsimp only at h
  split at h
  · cases h
    exact Changes.refl _ _ _
  · cases h
    exact Changes.ite (fun _ => setPort_changes s _ _) (fun _ => Changes.refl _ _ _)

theorem safePacket_changes (h : execSafePacket p s = .next t) :
    Changes [.guard, .net, .flt] (pathSet ++ safeSet) s t := by
  unfold execSafePacket at h
  split at h
  · cases h
    exact Changes.refl _ _ _
  · next htake =>
    cases h
    exact ((takePacket_changes htake).trans (safeRecord_changes _ false _)).mono (by decide) (by decide)

theorem vrowPacket_changes (h : execVrowPacket p s = .next t) : Changes [.dram, .scan, .gal, .net, .flt] (entrySet ++
    quarSet ++ [DDRC.STATUS.RANGE_ERR, SAFE.FB_CAUSE.FATAL] ++ allOf 96 FLT.COUNT.COUNT ++ allOf 64 GAL.FENCE.FENCE ++
    allOf 2 TX.UNTRUSTED) s t := by
  unfold execVrowPacket at h
  split at h
  · cases h
    exact Changes.refl _ _ _
  · next s1 pkt _ htake =>
    have htaken := takePacket_changes htake
    have hwritten := htaken.trans (dramWrite_changes s1 (4 * leAt pkt.payload 0 4) (pkt.payload.drop 8))
    dsimp only at h
    split at h
    · cases h
      refine Changes.ite (fun _ => ?_) (fun _ => hwritten.mono (by decide) (by decide +kernel))
      have hfence (k n : Nat) (u : State) : Changes [] (allOf 64 GAL.FENCE.FENCE) u (fenceAdd u k n) :=
        ⟨rfl, fun q _ => by cases q <;> rfl, fun _ hk => by
          simp only [outside_GAL_FENCE_FENCE] at hk
          exact wrapBy_word u _ n (hk k)⟩
      exact (hwritten.trans (hfence _ _ _)).mono (by decide) (by decide +kernel)
    · cases h
      exact (htaken.trans ((setReg_changes _ (TX.UNTRUSTED (portNo p)) _).trans (badPacket_changes _ _))).mono
        (by decide) (by cases p <;> decide +kernel)

/-- Its records, the commit and the report of the refused ones are all an OBJ packet touches (R351). -/
theorem objPacket_changes (h : execObjPacket p s = .next t) : Changes [.scan, .shd, .net, .flt]
    (entrySet ++ [FLT.INJ_COUNT.COUNT, SAFE.FB_CAUSE.FATAL, SHD.EVICT_COUNT.COUNT, SHD.WR_REJECT_COUNT.COUNT]) s t := by
  unfold execObjPacket at h
  split at h
  · cases h
    exact Changes.refl _ _ _
  · next s1 pkt _ htake =>
    dsimp only at h
    have hcommit (u : State) : Changes [.shd] [] u (if bit pkt.hdr.tspec 1 then batchCommit u else u) :=
      Changes.ite (fun _ => setShd_changes u _) (fun _ => Changes.refl _ _ _)
    have hstored (recs : List (List Byte)) := (takePacket_changes htake).trans
      ((applyRecords_changes s1 (bit pkt.hdr.tspec 0) 0 recs).trans (hcommit _))
    split at h
    · cases h
      exact ((hstored _).trans (sendLocal_changes _ _ _ _ _)).mono (by decide) (by decide)
    · cases h
      exact (hstored _).mono (by decide) (by decide)

theorem nopTopo_changes (h : execNopTopo p s = .next t) :
    Changes [.net, .flt] ([TXLA.NODE.NODES, TXLA.NODE.TOPO] ++ allOf 2 TX.STATUS.WRAP) s t := by
  unfold execNopTopo at h
  split at h
  · cases h
    exact Changes.refl _ _ _
  · next htake =>
    dsimp only at h
    split at h
    · cases h
      exact (takePacket_changes htake).mono (by decide) rfl
    · cases h
      exact ((takePacket_changes htake).trans ((recordTopo_changes _ _).trans
        (sendPortNew_changes _ _ _ _ _ _))).mono (by decide) (by decide)

theorem nopSleep_changes (h : execNopSleep p s = .next t) : Changes [.net] [] s t := by
  unfold execNopSleep at h
  split at h
  · cases h
    exact Changes.refl _ _ _
  · next htake =>
    cases h
    exact Changes.ite (fun _ => ((takePacket_changes htake).trans (setPort_changes _ _ _)).mono (by decide) rfl)
      (fun _ => takePacket_changes htake)

theorem syncReqPacket_changes (h : execSyncReqPacket p s = .next t) : Changes [.net] [] s t := by
  unfold execSyncReqPacket at h
  split at h
  · cases h
    exact Changes.refl _ _ _
  · next htake =>
    cases h
    exact ((takePacket_changes htake).trans (sendPortNew_changes _ _ _ _ _ _)).mono (by decide) rfl

/-- An exchange that ends shows its delay, the sync port chosen and, on that port, the correction (R361 to R364). -/
theorem syncAckPacket_changes {t4 : BitVec 64} (h : execSyncAckPacket p t4 s = .next t) :
    Changes [.lt, .synced, .net, .flt] ([TXLA.STEP_COUNT.COUNT, TXLA.SYNC_STATUS.LT_STEP,
      TXLA.SYNC_STATUS.OFFSET, TXLA.SYNC_STATUS.STRATUM, TXLA.SYNC_STATUS.SYNCED, TXLA.SYNC_STATUS.SYNC_PORT] ++ allOf 2
      TX.DELAY.DELAY) s t := by
  unfold execSyncAckPacket at h
  dsimp only at h
  split at h
  · cases h
    exact Changes.refl _ _ _
  · next htake =>
    have htaken := takePacket_changes htake
    split at h
    · cases h
      exact htaken.mono (by decide) rfl
    · split at h
      · cases h
        exact htaken.mono (by decide) rfl
      · have hchosen (v : Nat) (f : PortSt → PortSt) := htaken.trans ((setPort_changes _ (portNo p) f).trans
          ((setReg_changes _ (TX.DELAY.DELAY (portNo p)) v).trans (chooseSync_changes _)))
        cases h
        exact Changes.ite
          (fun _ => ((hchosen _ _).trans (correct_changes _ _ _)).mono (by decide) (by cases p <;> decide))
          (fun _ => (hchosen _ _).mono (by decide) (by cases p <;> decide))

theorem timeSetSend_changes (h : execTimeSetSend s = .next t) : Changes [.net] [] s t := by
  have hsend (u : State) (n : Nat) : Changes [.net] [] u
      (if portUp u n then u.setPort n (fun x => { x with timeSent := some u.now }) else u) :=
    Changes.ite (fun _ => setPort_changes u _ _) (fun _ => Changes.refl _ _ _)
  cases h
  exact ((hsend s 0).trans (hsend _ 1)).mono (by decide) rfl

theorem timeSetReceived_changes {lt : LampTime} (h : execTimeSetReceived p lt s = .next t) :
    Changes [.scan, .net, .flt] (entrySet ++ [SAFE.FB_CAUSE.FATAL, TXLA.SYNC_STATUS.LT_DIVERGE] ++ allOf 96
      FLT.COUNT.COUNT) s t := by
  unfold execTimeSetReceived at h
  dsimp only at h
  split at h
  · cases h
    exact Changes.ite
      (fun _ => ((setNet_changes s _).trans ((setFlag_changes _ TXLA.SYNC_STATUS.LT_DIVERGE true).trans
        ((raiseEvent_changes _ _ _).trans (raiseFault_changes _ 63 1)))).mono (by decide) (by decide +kernel))
      (fun _ => (setNet_changes s _).mono (by decide) rfl)
  · cases h
    exact Changes.refl _ _ _

theorem wrapEndTimer_changes (h : execWrapEndTimer s = .next t) : Changes [.net, .flt] (allOf 2 TX.STATUS.WRAP) s t := by
  unfold execWrapEndTimer at h
  split at h
  · cases h
    exact ((setPort_changes s 0 _).trans ((setFlag_changes _ (TX.STATUS.WRAP 0) false).trans
      (raiseEvent_changes _ _ _))).mono (by decide) (by decide)
  · cases h
    exact Changes.refl _ _ _

end

/-- Settles O11: the changes of each command of the Tatex link lie within its row of the table. -/
theorem frameOfTatexCommands : Obligations.FrameOfTatexCommands := by
  unfold Obligations.FrameOfTatexCommands
  intro i s t hchapter h
  cases i with
  | safePacket p => exact (safePacket_changes h).framed rfl
  | portEnSet p => exact (portEnSet_changes h).framed rfl
  | trn1Received p i => exact (trn1Received_changes h).framed rfl
  | trn2Received p rate fom => exact (trn2Received_changes h).framed rfl
  | rateChange p => exact (rateChange_changes h).framed rfl
  | adaptationComplete p lanes => exact (adaptationComplete_changes h).framed rfl
  | trainingTimeout p => exact (trainingTimeout_changes h).framed rfl
  | trainingRestart p => exact (trainingRestart_changes h).framed rfl
  | fomMeasurement p lanes gains => exact (fomMeasurement_changes h).framed rfl
  | bitLockLoss p => cases h; exact (portDown_changes s _).framed rfl
  | codeErrorBurst p n => exact (codeErrorBurst_changes h).framed rfl
  | elasticBufferSlip p => exact (elasticBufferSlip_changes h).framed rfl
  | retrain p => cases h; exact (portDown_changes s _).framed rfl
  | portEnClear p => exact (portEnClear_changes h).framed rfl
  | quarantineTimeout p => exact (quarantineTimeout_changes h).framed rfl
  | quarantineRelease p => exact (quarantineRelease_changes h).framed rfl
  | packetHeaderArrival p hdr => exact (packetHeaderArrival_changes h).framed rfl
  | packetEnd p payload crc e => exact (packetEnd_changes h).framed rfl
  | localPacketResend p => exact (localPacketResend_changes h).framed rfl
  | vrowPacket p => exact (vrowPacket_changes h).framed rfl
  | objPacket p => exact (objPacket_changes h).framed rfl
  | nopTopo p => exact (nopTopo_changes h).framed rfl
  | nopSleep p => exact (nopSleep_changes h).framed rfl
  | syncTimer => cases h; exact (((sendSync_changes s 0).trans (sendSync_changes _ 1)).mono (by decide) rfl).framed rfl
  | syncReqPacket p => exact (syncReqPacket_changes h).framed rfl
  | syncAckPacket p t4 => exact (syncAckPacket_changes h).framed rfl
  | syncAckTimeout p => cases h; exact (setPort_changes s _ _).framed rfl
  | timeSetSend => exact (timeSetSend_changes h).framed rfl
  | timeSetReceived p lt => exact (timeSetReceived_changes h).framed rfl
  | wrapEndTimer => exact (wrapEndTimer_changes h).framed rfl
  | _ => simp [mayChange] at hchapter

end Sys2Proof.Machine.TatexFrames
end

section
/-! PROOF. TatexPorts: what the updates of a Tatex port and of its registers leave and show (10_tatex_link.md). -/

namespace Sys2Proof.Machine.TatexPorts

open FrameTiming (reg_setReg_of_lt fatalAtDetection_of_ne)

/-! ### Ports (R335) -/

theorem portNo_lt (p : Port) : portNo p < 2 := by cases p <;> decide

theorem portNo_lt_ports {s : State} (hs : ShapeOk s) (p : Port) : portNo p < s.net.ports.length := by
  obtain ⟨_, hports, _⟩ := hs
  rw [hports]
  exact portNo_lt p

theorem portNo_eq_one_iff (p : Port) : portNo p = 1 ↔ p = .b := by cases p <;> decide

section
variable (s : State) (m n : Nat) (f : PortSt → PortSt) (g : Field)

theorem port_setPort_self {s : State} {n : Nat} (hn : n < s.net.ports.length) (f : PortSt → PortSt) :
    (s.setPort n f).port n = f (s.port n) := by
  simp [State.port, State.setPort, List.getD_eq_getElem?_getD, hn]

theorem port_setPort_ne {m n : Nat} (h : m ≠ n) (s : State) (f : PortSt → PortSt) : (s.setPort m f).port n = s.port n := by
  simp [State.port, State.setPort, List.getD_eq_getElem?_getD, List.getElem?_set_ne h]

theorem port_of_net {s t : State} (h : t.net = s.net) (n : Nat) : t.port n = s.port n := by
  unfold State.port
  rw [h]

@[simp] theorem length_ports_setPort : (s.setPort m f).net.ports.length = s.net.ports.length := by
  simp [State.setPort]

@[simp] theorem port_setReg (v : Nat) : (s.setReg g v).port n = s.port n := rfl

@[simp] theorem port_setFlag (b : Bool) : (s.setFlag g b).port n = s.port n := rfl

@[simp] theorem port_raiseEvent (code : Nat) (args : List Byte) : (raiseEvent s code args).port n = s.port n := rfl

@[simp] theorem port_raiseFault (src cls : Nat) : (raiseFault s src cls).port n = s.port n := port_of_net (by simp) n

@[simp] theorem reg_setPort : (s.setPort m f).reg g = s.reg g := rfl

@[simp] theorem flag_setPort : (s.setPort m f).flag g = s.flag g := rfl

@[simp] theorem reg_raiseEvent (code : Nat) (args : List Byte) : (raiseEvent s code args).reg g = s.reg g := rfl

end

/-! ### Fields -/

/-- The state of a port is shown as it is set. -/
theorem reg_setReg_state {v : Nat} (hv : v < 8) (s : State) (n : Nat) :
    (s.setReg (TX.STATUS.STATE n) v).reg (TX.STATUS.STATE n) = v :=
  reg_setReg_of_lt s _ v (by show 3 ≤ 32; decide) hv

/-- Of the updates of a fold, those of the one kind show `v` in a field that the others leave. -/
theorem reg_foldl_of_hit {α : Type} {step : State → α → State} {f : Field} {v : Nat} {hit : α → Prop} {l : List α}
    (hset : ∀ u, ∀ x ∈ l, hit x → (step u x).reg f = v) (hkeep : ∀ u, ∀ x ∈ l, ¬ hit x → (step u x).reg f = u.reg f)
    (hex : ∃ x ∈ l, hit x) (s : State) : (l.foldl step s).reg f = v := by
  induction l using List.reverseRecOn with
  | nil => simp at hex
  | append_singleton l x ih =>
    rw [List.foldl_append]
    by_cases hx : hit x
    · exact hset _ x (by simp) hx
    · refine (hkeep _ x (by simp) hx).trans (ih (fun u y hy => hset u y (by simp [hy]))
        (fun u y hy => hkeep u y (by simp [hy])) ?_)
      obtain ⟨y, hy, hhit⟩ := hex
      rcases List.mem_append.mp hy with hl | hy
      · exact ⟨y, hl, hhit⟩
      · exact absurd (List.mem_singleton.mp hy ▸ hhit) hx

/-- A later update that leaves a counter keeps its advance. -/
theorem counted_after {s t u : State} {f : Field} {n : Nat} (h : Counted s t f n) (hreg : u.reg f = t.reg f) :
    Counted s u f n := hreg.trans h

theorem bumpBy_counted (s : State) {f : Field} (hw : f.width ≤ 32) (n : Nat) : Counted s (s.bumpBy f n) f n :=
  reg_bumpBy_self s f n hw

/-! ### Faults of class CORR (R530) -/

/-- A CORR fault counts and places its request, and that is all. -/
theorem raiseFault_corr_eq (s : State) (src : Nat) : raiseFault s src 1 = { s.bump (FLT.COUNT.COUNT src) with
    flt := { s.flt with
      real := sparseSet none s.flt.real src (mergeWait (sparseGet none s.flt.real src) 1 s.now) } } :=
  fatalAtDetection_of_ne (by decide) _ _ _

theorem raiseFault_corr_jorosh (s : State) (src : Nat) : (raiseFault s src 1).flt.jorosh = s.flt.jorosh := by
  rw [raiseFault_corr_eq]

/-- Fields above the fault counts stand as they were. -/
theorem reg_raiseFault_corr (s : State) (src : Nat) {f : Field} (h : 0x30280 * 32 ≤ fieldKey f) :
    (raiseFault s src 1).reg f = s.reg f := by
  rw [raiseFault_corr_eq]
  exact reg_bump_ne s _ _ (FaultInjection.count_ne (.inr h) src).symm

/-! ### Events told one after the other (R428) -/

/-- One more event is told from a state that agrees in node address, lamp time and waiting events. -/
theorem told_snoc {s t u : State} {l : List (Nat × List Byte)} (h : Told s t l)
    (hnode : u.reg TXLA.NODE.ADDR = s.reg TXLA.NODE.ADDR) (hlt : u.lt = s.lt) (hjorosh : u.flt.jorosh = t.flt.jorosh)
    (code : Nat) (args : List Byte) : Told s (raiseEvent u code args) (l ++ [(code, args)]) := by
  have hnow : u.now = s.now := congrArg BitVec.toNat hlt
  have htold := raiseEvent_told u code args
  unfold Told eventOf at h htold ⊢
  rw [htold, hjorosh, h, hnow, hnode]
  simp

theorem told_after {s t u : State} {l : List (Nat × List Byte)} (h : Told s t l)
    (hjorosh : u.flt.jorosh = t.flt.jorosh) : Told s u l := by
  unfold Told at h ⊢
  rw [hjorosh, h]

theorem told_before {s u t : State} {l : List (Nat × List Byte)} (hregs : u.regs = s.regs) (hlt : u.lt = s.lt)
    (hflt : u.flt = s.flt) (h : Told u t l) : Told s t l := by
  have hnow : u.now = s.now := congrArg BitVec.toNat hlt
  unfold Told eventOf at h ⊢
  rwa [hflt, hnow, reg_of_regs _ hregs] at h

/-! ### Sending (R346, R352, R353) -/

/-- A packet handed to port `n` is not left on another one, and leaves the number of ports. -/
theorem sendOn_ports (s : State) (n : Nat) (pkt : Packet) : (sendOn s n pkt).net.ports.length = s.net.ports.length
    ∧ ∀ m, n ≠ m → (sendOn s n pkt).port m = s.port m := by
  unfold sendOn
  dsimp only
  split
  · split
    · exact ⟨length_ports_setPort _ _ _, fun m hm => port_setPort_ne hm _ _⟩
    · exact ⟨length_ports_setPort _ _ _, fun m hm => port_setPort_ne hm _ _⟩
  · exact ⟨rfl, fun _ _ => rfl⟩

theorem length_ports_sendPortNew (s : State) (n type dest tspec : Nat) (payload : List Byte) :
    (sendPortNew s n type dest tspec payload).net.ports.length = s.net.ports.length :=
  (sendOn_ports (newPacket s type dest tspec payload).1 n _).1

/-! ### Training begins (R342, R356) -/

/-- Training starts at step 1, but port B of a CHAIN_END stays idle. -/
theorem startTraining_effects {s : State} {p : Port} (hp : portNo p < s.net.ports.length) :
    if ringRole s = 3 ∧ p = .b then (startTraining s (portNo p)).reg (TX.STATUS.STATE (portNo p)) = 1
      ∧ ((startTraining s (portNo p)).port (portNo p)).phase = 0
    else (startTraining s (portNo p)).reg (TX.STATUS.STATE (portNo p)) = 2
      ∧ ((startTraining s (portNo p)).port (portNo p)).phase = 1 := by
  by_cases h : ringRole s = 3 ∧ p = .b
  · have hidle : startTraining s (portNo p)
        = (s.setPort (portNo p) (fun x => { x with phase := 0 })).setReg (TX.STATUS.STATE (portNo p)) 1 :=
      if_pos ⟨h.1, (portNo_eq_one_iff p).mpr h.2⟩
    rw [if_pos h, hidle, port_setReg, port_setPort_self hp]
    exact ⟨reg_setReg_state (by decide) _ _, rfl⟩
  · have htrains : startTraining s (portNo p) = (s.setPort (portNo p) (fun x =>
        { x with phase := 1, warnRuns := [0, 0, 0, 0], downRuns := [0, 0, 0, 0] })).setReg (TX.STATUS.STATE (portNo p)) 2 :=
      if_neg (fun hi => h ⟨hi.1, (portNo_eq_one_iff p).mp hi.2⟩)
    rw [if_neg h, htrains, port_setReg, port_setPort_self hp]
    exact ⟨reg_setReg_state (by decide) _ _, rfl⟩

end Sys2Proof.Machine.TatexPorts
end

section
/-! PROOF. LinkTraining: training a Tatex port, step by step (10_tatex_link.md R342, R343, R356). -/

namespace Sys2Proof.Machine.LinkTraining

open FrameTiming (reg_setReg_of_lt)
open TatexPorts

/-! ### The steps of training -/

section
variable {s : State} {p : Port}

theorem portEnSet_completes (hs : ShapeOk s) (hen : s.flag (TX.CTRL.EN (portNo p)) = false) :
    Completes (.portEnSet p) s fun t => t.flag (TX.CTRL.EN (portNo p)) = true
    ∧ (if ringRole s = 3 ∧ p = .b then t.reg (TX.STATUS.STATE (portNo p)) = 1 ∧ (t.port (portNo p)).phase = 0
       else t.reg (TX.STATUS.STATE (portNo p)) = 2 ∧ (t.port (portNo p)).phase = 1) := by
  have hrun : exec (.portEnSet p) s = .next (portEnable s (portNo p)) := congrArg Host.Outcome.next (if_neg (by simp [hen]))
  have hrole : ringRole (s.setFlag (TX.CTRL.EN (portNo p)) true) = ringRole s :=
    reg_setFlag_ne _ _ _ _ (by cases p <;> decide)
  have hflag : (portEnable s (portNo p)).flag (TX.CTRL.EN (portNo p))
      = (s.setFlag (TX.CTRL.EN (portNo p)) true).flag (TX.CTRL.EN (portNo p)) :=
    FrameTiming.flag_eq_of_word (startTraining_word (outside_of (by cases p <;> decide)) _ _)
  refine completes_of hrun ⟨hflag.trans (flag_setFlag_self _ _ _ (by cases p <;> decide) (by cases p <;> decide)), ?_⟩
  rw [← hrole]
  exact startTraining_effects (portNo_lt_ports hs p)

/-! ### TRN1: the common rate (R342) -/

/-- Rate `q` is in both masks. -/
def rateCommon (s : State) (n mask q : Nat) : Bool := decide (q ≤ rateMax s n) && bit mask q

/-- The highest rate that both masks hold is the one chosen. -/
theorem commonRate_of_highest {n mask r : Nat} (hr : r ≤ rateMax s n) (hbit : bit mask r = true)
    (hmax : ∀ q, r < q → q ≤ rateMax s n → bit mask q = false) : commonRate s n mask = some r := by
  have hpass : rateCommon s n mask r = true := by simp [rateCommon, hr, hbit]
  have hfail (q : Nat) (hq : r < q) : rateCommon s n mask q = false := by
    by_cases hle : q ≤ rateMax s n
    · simp [rateCommon, hmax q hq hle]
    · simp [rateCommon, hle]
  have htwo : r ≤ 2 := hr.trans (Nat.min_le_left _ _)
  show [2, 1, 0].find? (rateCommon s n mask) = some r
  obtain rfl | rfl | rfl : r = 0 ∨ r = 1 ∨ r = 2 := by omega
  · rw [List.find?_cons_of_neg (by simp [hfail]), List.find?_cons_of_neg (by simp [hfail]), List.find?_cons_of_pos hpass]
  · rw [List.find?_cons_of_neg (by simp [hfail]), List.find?_cons_of_pos hpass]
  · rw [List.find?_cons_of_pos hpass]

/-- The lanes and polarities that TRN1 shows, before its rate is chosen. -/
def lanesShown (s : State) (n : Nat) (i : Trn1Info) : State :=
  (s.setReg (TX.STATUS.LANE_MAP n) i.laneMap.toNat).setReg (TX.STATUS.INVERTED n) i.inverted.toNat

theorem gotTrn1_of_common {n r : Nat} {i : Trn1Info} (h : commonRate s n i.rates.toNat = some r) :
    gotTrn1 s n i = (lanesShown s n i).setPort n
      (fun x => { x with phase := 3, rates := i.rates.toNat, fomReq := i.fomReq, choice := r }) := by
  unfold gotTrn1
  rw [h]
  rfl

theorem lanesShown_regs (s : State) (p : Port) (i : Trn1Info) :
    (lanesShown s (portNo p) i).reg (TX.STATUS.LANE_MAP (portNo p)) = i.laneMap.toNat
    ∧ (lanesShown s (portNo p) i).reg (TX.STATUS.INVERTED (portNo p)) = i.inverted.toNat := by
  refine ⟨(reg_setReg_ne _ _ _ _ (by cases p <;> decide)).trans ?_, ?_⟩
  · exact reg_setReg_of_lt _ _ _ (by cases p <;> decide) i.laneMap.isLt
  · exact reg_setReg_of_lt _ _ _ (by cases p <;> decide) i.inverted.isLt

theorem trn1Received_completes {i : Trn1Info} {r : Nat} (hs : ShapeOk s) (hstate : s.reg (TX.STATUS.STATE (portNo p)) = 2)
    (hphase : (s.port (portNo p)).phase = 1) (hr : r ≤ rateMax s (portNo p)) (hbit : bit i.rates.toNat r = true)
    (hmax : ∀ q, r < q → q ≤ rateMax s (portNo p) → bit i.rates.toNat q = false) : Completes (.trn1Received p i) s fun t =>
    t.reg (TX.STATUS.LANE_MAP (portNo p)) = i.laneMap.toNat ∧ t.reg (TX.STATUS.INVERTED (portNo p)) = i.inverted.toNat
    ∧ (t.port (portNo p)).phase = 3 ∧ (t.port (portNo p)).choice = r ∧ (t.port (portNo p)).fomReq = i.fomReq := by
  have hdown : portUp s (portNo p) = false := by simp [portUp, hstate]
  have hrun : exec (.trn1Received p i) s = .next (gotTrn1 s (portNo p) i) :=
    congrArg Host.Outcome.next ((if_neg (by simp [hdown])).trans (if_pos ⟨hstate, hphase⟩))
  rw [gotTrn1_of_common (commonRate_of_highest hr hbit hmax)] at hrun
  obtain ⟨hmap, hinverted⟩ := lanesShown_regs s p i
  have hport : portNo p < (lanesShown s (portNo p) i).net.ports.length := portNo_lt_ports hs p
  refine completes_of hrun ⟨hmap, hinverted, ?_⟩
  rw [port_setPort_self hport]
  exact ⟨rfl, rfl, rfl⟩

/-! ### TRN2: the rate decision (R342) -/

theorem ratePasses_iff (n : Nat) (fom : List Nat) : ratePasses s n fom = true ↔
    ∀ l, l < 4 → (s.port n).fomReq ≤ (s.port n).fomAch.getD l 0 ∧ s.reg (TX.CFG.FOM_MIN n) ≤ fom.getD l 0 := by
  simp [ratePasses, List.all_eq_true]

/-- The port is up, shows its rate and has told of it, before port B ends its wrap. -/
def cameUp (s : State) (n rate : Nat) : State :=
  let trained := s.setPort n (fun x => { x with phase := 0, sleepRx := false, thetas := [], stratum := 0x3FF,
                                                toggling := n == 0 && s.flag (TX.STATUS.WRAP 0) })
  raiseEvent ((trained.setReg (TX.STATUS.STATE n) 3).setReg (TX.STATUS.RATE n) rate) 0x0A01 (toLe 1 n ++ toLe 1 rate)

theorem portComesUp_eq (s : State) (n rate : Nat) : portComesUp s n rate =
    if n = 1 ∧ s.flag (TX.STATUS.WRAP 1) then raiseEvent ((cameUp s n rate).setFlag (TX.STATUS.WRAP 1) false) 0x0A05 (toLe 1 1)
    else cameUp s n rate := rfl

theorem reg_portComesUp (s : State) (n rate : Nat) {f : Field} (hf : fieldKey (TX.STATUS.WRAP 1) ≠ fieldKey f) :
    (portComesUp s n rate).reg f = (cameUp s n rate).reg f := by
  rw [portComesUp_eq]
  split
  · rw [reg_raiseEvent, reg_setFlag_ne _ _ _ _ hf]
  · rfl

theorem cameUp_told (s : State) (p : Port) (rate : Nat) :
    Told s (cameUp s (portNo p) rate) [(0x0A01, toLe 1 (portNo p) ++ toLe 1 rate)] :=
  EngineBands.told_of_raiseEvent ((reg_setReg_ne _ _ _ _ (by cases p <;> decide)).trans
    (reg_setReg_ne _ _ _ _ (by cases p <;> decide))) rfl rfl _ _

theorem portComesUp_effects (s : State) (p : Port) (rate : Nat) :
    (portComesUp s (portNo p) rate).reg (TX.STATUS.STATE (portNo p)) = 3
    ∧ (portComesUp s (portNo p) rate).reg (TX.STATUS.RATE (portNo p)) = rate % 4
    ∧ eventOf s 0x0A01 (toLe 1 (portNo p) ++ toLe 1 rate) ∈ (portComesUp s (portNo p) rate).flt.jorosh := by
  have htold : eventOf s 0x0A01 (toLe 1 (portNo p) ++ toLe 1 rate) ∈ (cameUp s (portNo p) rate).flt.jorosh := by
    rw [cameUp_told]
    simp
  refine ⟨?_, ?_, ?_⟩
  · rw [reg_portComesUp _ _ _ (by cases p <;> decide)]
    exact (reg_setReg_ne _ _ _ _ (by cases p <;> decide)).trans (reg_setReg_state (by decide) _ _)
  · rw [reg_portComesUp _ _ _ (by cases p <;> decide)]
    exact reg_setReg_self _ (TX.STATUS.RATE (portNo p)) _ (by cases p <;> decide)
  · rw [portComesUp_eq]
    split
    · exact List.mem_append_left _ htold
    · exact htold

theorem trainFail_effects (hp : portNo p < s.net.ports.length) (next : Nat) :
    ((trainFail s (portNo p) next).port (portNo p)).phase = next
    ∧ Counted s (trainFail s (portNo p) next) (TX.TRAIN_FAIL (portNo p)) 1 := by
  refine ⟨?_, bumpBy_counted s (by cases p <;> decide) 1⟩
  exact congrArg PortSt.phase (port_setPort_self (s := s.bump (TX.TRAIN_FAIL (portNo p))) hp _)

/-- The decision of step 6: the port comes up, its training fails at 2.4 Gbaud, or it tries the next lower rate. -/
theorem rateDecision_effects (hp : portNo p < s.net.ports.length) (fom : List Nat) :
    (ratePasses s (portNo p) fom = true → rateDecision s (portNo p) fom
      = portComesUp s (portNo p) (s.port (portNo p)).choice)
    ∧ (ratePasses s (portNo p) fom = false →
      if (s.port (portNo p)).choice = 0 then ((rateDecision s (portNo p) fom).port (portNo p)).phase = 7
        ∧ Counted s (rateDecision s (portNo p) fom) (TX.TRAIN_FAIL (portNo p)) 1
      else ((rateDecision s (portNo p) fom).port (portNo p)).phase = 4
        ∧ ((rateDecision s (portNo p) fom).port (portNo p)).choice = (s.port (portNo p)).choice - 1) := by
  refine ⟨fun h => if_pos h, fun h => ?_⟩
  have hfail : rateDecision s (portNo p) fom = if (s.port (portNo p)).choice = 0 then trainFail s (portNo p) 7
      else s.setPort (portNo p) (fun x => { x with phase := 4, choice := (s.port (portNo p)).choice - 1 }) :=
    if_neg (by simp [h])
  rw [hfail]
  split
  · exact trainFail_effects hp 7
  · rw [port_setPort_self hp]
    exact ⟨rfl, rfl⟩

theorem trn2Received_completes {fom : List Nat} (hs : ShapeOk s) (hstate : s.reg (TX.STATUS.STATE (portNo p)) = 2) :
    Completes (.trn2Received p (s.port (portNo p)).choice fom) s fun t =>
    ((s.port (portNo p)).phase = 3 → (t.port (portNo p)).phase = 4)
    ∧ ((s.port (portNo p)).phase = 6 →
      (∀ l, l < 4 → (s.port (portNo p)).fomReq ≤ (s.port (portNo p)).fomAch.getD l 0
        ∧ s.reg (TX.CFG.FOM_MIN (portNo p)) ≤ fom.getD l 0) →
      t.reg (TX.STATUS.STATE (portNo p)) = 3 ∧ t.reg (TX.STATUS.RATE (portNo p)) = (s.port (portNo p)).choice % 4
      ∧ eventOf s 0x0A01 (toLe 1 (portNo p) ++ toLe 1 (s.port (portNo p)).choice) ∈ t.flt.jorosh)
    ∧ ((s.port (portNo p)).phase = 6 →
      (∃ l, l < 4 ∧ ((s.port (portNo p)).fomAch.getD l 0 < (s.port (portNo p)).fomReq
        ∨ fom.getD l 0 < s.reg (TX.CFG.FOM_MIN (portNo p)))) →
      if (s.port (portNo p)).choice = 0 then (t.port (portNo p)).phase = 7 ∧ Counted s t (TX.TRAIN_FAIL (portNo p)) 1
      else (t.port (portNo p)).phase = 4 ∧ (t.port (portNo p)).choice = (s.port (portNo p)).choice - 1) := by
  have hp := portNo_lt_ports hs p
  obtain ⟨hpass, hfail⟩ := rateDecision_effects hp fom
  have hrun : exec (.trn2Received p (s.port (portNo p)).choice fom) s = .next
      (if (s.port (portNo p)).phase = 3 then s.setPort (portNo p) (fun y => { y with phase := 4 })
       else if (s.port (portNo p)).phase = 6 then rateDecision s (portNo p) fom else s) :=
    congrArg Host.Outcome.next (if_pos ⟨hstate, rfl⟩)
  refine completes_of hrun ⟨fun h3 => ?_, fun h6 hall => ?_, fun h6 hlow => ?_⟩
  · rw [if_pos h3, port_setPort_self hp]
  · have h3 : (s.port (portNo p)).phase ≠ 3 := by omega
    rw [if_neg h3, if_pos h6, hpass ((ratePasses_iff _ _).mpr hall)]
    exact portComesUp_effects s p _
  · have hnot : ratePasses s (portNo p) fom = false := by
      rw [Bool.eq_false_iff, Ne, ratePasses_iff]
      intro hall
      obtain ⟨l, hl, hbelow⟩ := hlow
      obtain ⟨hown, hfar⟩ := hall l hl
      omega
    have h3 : (s.port (portNo p)).phase ≠ 3 := by omega
    rw [if_neg h3, if_pos h6]
    exact hfail hnot

/-! ### Adaptation (R342, R343) -/

theorem lane_of_mem_zip {lanes : List LaneEq} {x : Nat × LaneEq} (h : x ∈ (List.range 4).zip lanes) :
    x.1 < 4 ∧ lanes[x.1]? = some x.2 := by
  obtain ⟨i, hi⟩ := List.mem_iff_getElem?.mp h
  obtain ⟨hlane, he⟩ := List.getElem?_zip_eq_some.mp hi
  obtain ⟨hlt, heq⟩ := List.getElem?_eq_some_iff.mp hlane
  simp only [List.length_range, List.getElem_range] at hlt heq
  exact ⟨heq ▸ hlt, heq ▸ he⟩

theorem mem_zip_of_lane {lanes : List LaneEq} {l : Nat} {e : LaneEq} (hl : l < 4) (he : lanes[l]? = some e) :
    (l, e) ∈ (List.range 4).zip lanes :=
  List.mem_iff_getElem?.mpr ⟨l, List.getElem?_zip_eq_some.mpr ⟨by simp [hl], he⟩⟩

/-- A lane's equalizer as it is set. -/
theorem setEq_self (s : State) (n l : Nat) (e : LaneEq) :
    (setEq s n (l, e)).reg (TX.EQ.CTLE (4 * n + l)) = min 7 e.ctle
    ∧ (setEq s n (l, e)).reg (TX.EQ.H1 (4 * n + l)) = min 63 e.h1 := by
  have hctle : min 7 e.ctle < 8 := by omega
  have hh1 : min 63 e.h1 < 64 := by omega
  constructor
  · refine (reg_setReg_ne _ _ _ _ ?_).trans ((reg_setReg_ne _ _ _ _ ?_).trans ((reg_setReg_ne _ _ _ _ ?_).trans
      (reg_setReg_of_lt _ _ _ (by show 3 ≤ 32; decide) hctle)))
    all_goals simp [fieldKey, TX.EQ.CTLE, TX.EQ.H1, TX.EQ.H2, TX.EQ.H3]
  · refine (reg_setReg_ne _ _ _ _ ?_).trans ((reg_setReg_ne _ _ _ _ ?_).trans
      (reg_setReg_of_lt _ _ _ (by show 6 ≤ 32; decide) hh1))
    all_goals simp [fieldKey, TX.EQ.H1, TX.EQ.H2, TX.EQ.H3]

/-- The equalizer words of a port's lanes are apart. -/
theorem setEq_ne (s : State) {n l : Nat} {x : Nat × LaneEq} (hl : l < 4) (hx : x.1 < 4) (hne : x.1 ≠ l) :
    (setEq s n x).reg (TX.EQ.CTLE (4 * n + l)) = s.reg (TX.EQ.CTLE (4 * n + l))
    ∧ (setEq s n x).reg (TX.EQ.H1 (4 * n + l)) = s.reg (TX.EQ.H1 (4 * n + l)) := by
  constructor
  · refine (reg_setReg_ne _ _ _ _ ?_).trans ((reg_setReg_ne _ _ _ _ ?_).trans ((reg_setReg_ne _ _ _ _ ?_).trans
      (reg_setReg_ne _ _ _ _ ?_)))
    all_goals simp only [fieldKey, TX.EQ.CTLE, TX.EQ.H1, TX.EQ.H2, TX.EQ.H3]; omega
  · refine (reg_setReg_ne _ _ _ _ ?_).trans ((reg_setReg_ne _ _ _ _ ?_).trans ((reg_setReg_ne _ _ _ _ ?_).trans
      (reg_setReg_ne _ _ _ _ ?_)))
    all_goals simp only [fieldKey, TX.EQ.CTLE, TX.EQ.H1, TX.EQ.H2, TX.EQ.H3]; omega

theorem foldl_setEq_lane {lanes : List LaneEq} (n : Nat) {l : Nat} {e : LaneEq} (hl : l < 4) (he : lanes[l]? = some e)
    (s : State) :
    (((List.range 4).zip lanes).foldl (fun t x => setEq t n x) s).reg (TX.EQ.CTLE (4 * n + l)) = min 7 e.ctle
    ∧ (((List.range 4).zip lanes).foldl (fun t x => setEq t n x) s).reg (TX.EQ.H1 (4 * n + l)) = min 63 e.h1 := by
  have hsame : ∀ x ∈ (List.range 4).zip lanes, x.1 = l → x = (l, e) := by
    rintro ⟨k, e'⟩ hx rfl
    obtain ⟨-, he'⟩ := lane_of_mem_zip hx
    obtain rfl : e' = e := Option.some.inj (he'.symm.trans he)
    rfl
  have hex : ∃ x ∈ (List.range 4).zip lanes, x.1 = l := ⟨(l, e), mem_zip_of_lane hl he, rfl⟩
  constructor
  · exact reg_foldl_of_hit (fun u x hx hhit => hsame x hx hhit ▸ (setEq_self u n l e).1)
      (fun u x hx hne => (setEq_ne u hl (lane_of_mem_zip hx).1 hne).1) hex s
  · exact reg_foldl_of_hit (fun u x hx hhit => hsame x hx hhit ▸ (setEq_self u n l e).2)
      (fun u x hx hne => (setEq_ne u hl (lane_of_mem_zip hx).1 hne).2) hex s

theorem adaptationComplete_completes {lanes : List LaneEq} (hs : ShapeOk s)
    (hstate : s.reg (TX.STATUS.STATE (portNo p)) = 2) (hphase : (s.port (portNo p)).phase = 5) :
    Completes (.adaptationComplete p lanes) s fun t =>
      (t.port (portNo p)).phase = 6 ∧ (t.port (portNo p)).fomAch = lanes.map (fun l => min 255 l.fom)
      ∧ ∀ l e, l < 4 → lanes[l]? = some e → t.reg (TX.EQ.CTLE (4 * portNo p + l)) = min 7 e.ctle
        ∧ t.reg (TX.EQ.H1 (4 * portNo p + l)) = min 63 e.h1 := by
  obtain ⟨u, hu⟩ : ∃ u, u = ((List.range 4).zip lanes).foldl (fun t x => setEq t (portNo p) x) s := ⟨_, rfl⟩
  have hrun : exec (.adaptationComplete p lanes) s = .next (u.setPort (portNo p)
      (fun y => { y with phase := 6, fomAch := lanes.map (fun l => min 255 l.fom) })) := by
    rw [hu]
    exact congrArg Host.Outcome.next (if_pos ⟨hstate, hphase⟩)
  have hp : portNo p < u.net.ports.length := by
    have hnet : u.net = s.net := by rw [hu]; simp
    rw [hnet]
    exact portNo_lt_ports hs p
  refine completes_of hrun ?_
  rw [port_setPort_self hp]
  refine ⟨rfl, rfl, fun l e hl he => ?_⟩
  rw [reg_setPort, reg_setPort, hu]
  exact foldl_setEq_lane (portNo p) hl he s

/-! ### The rate change, and steps without progress (R342) -/

theorem rateChange_completes (hs : ShapeOk s) (hstate : s.reg (TX.STATUS.STATE (portNo p)) = 2)
    (hphase : (s.port (portNo p)).phase = 4) : Completes (.rateChange p) s fun t => (t.port (portNo p)).phase = 5 := by
  have hrun : exec (.rateChange p) s = .next (s.setPort (portNo p) (fun y => { y with phase := 5 })) :=
    congrArg Host.Outcome.next (if_pos ⟨hstate, hphase⟩)
  exact completes_of hrun (congrArg PortSt.phase (port_setPort_self (portNo_lt_ports hs p) _))

theorem trainingTimeout_completes (hs : ShapeOk s) (hstate : s.reg (TX.STATUS.STATE (portNo p)) = 2)
    (hphase : (s.port (portNo p)).phase ≠ 7) : Completes (.trainingTimeout p) s fun t =>
      (t.port (portNo p)).phase = 1 ∧ Counted s t (TX.TRAIN_FAIL (portNo p)) 1 := by
  have hrun : exec (.trainingTimeout p) s = .next (trainFail s (portNo p) 1) :=
    congrArg Host.Outcome.next (if_pos ⟨hstate, hphase⟩)
  exact completes_of hrun (trainFail_effects (portNo_lt_ports hs p) 1)

theorem trainingRestart_completes (hs : ShapeOk s) (hstate : s.reg (TX.STATUS.STATE (portNo p)) = 2)
    (hphase : (s.port (portNo p)).phase = 7) : Completes (.trainingRestart p) s fun t => (t.port (portNo p)).phase = 1 := by
  have hrun : exec (.trainingRestart p) s = .next (s.setPort (portNo p) (fun y => { y with phase := 1 })) :=
    congrArg Host.Outcome.next (if_pos ⟨hstate, hphase⟩)
  exact completes_of hrun (congrArg PortSt.phase (port_setPort_self (portNo_lt_ports hs p) _))

end

/-- Settles O33, step by step of the training. -/
theorem linkTraining : Obligations.LinkTraining := by
  unfold Obligations.LinkTraining
  exact ⟨fun s p hs hen => portEnSet_completes hs hen,
    fun s p i r hs hstate hphase hr hbit hmax => trn1Received_completes hs hstate hphase hr hbit hmax,
    fun s p fom hs hstate => trn2Received_completes hs hstate,
    fun s p hs hstate hphase => rateChange_completes hs hstate hphase,
    fun s p lanes hs hstate hphase => adaptationComplete_completes hs hstate hphase,
    fun s p hs hstate hphase => trainingTimeout_completes hs hstate hphase,
    fun s p hs hstate hphase => trainingRestart_completes hs hstate hphase⟩

end Sys2Proof.Machine.LinkTraining
end

section
/-! PROOF. LinkLoss: how a Tatex link is lost, quarantined and measured (10_tatex_link.md R336, R344, R345, R369, R372). -/

namespace Sys2Proof.Machine.LinkLoss

open FrameTiming (reg_setReg_of_lt)
open BlankPasses (SourceKept faulted_after faulted_before)
open TatexPorts

/-! ### The loss of a link (R345, R358, R367) -/

/-- What the loss of port `n` leaves in `t`, whatever becomes of the port. -/
structure LinkLost (s t : State) (n : Nat) (planned : Bool) : Prop where
  shown : t.flag (TX.STATUS.LINK_DOWN n) = true
  gone : (t.port n).cur = none ∧ (t.port n).request = none
  faulted : planned = false → Faulted s t (61 + n) 1
  spared : planned = true → sparseGet none t.flt.real (61 + n) = sparseGet none s.flt.real (61 + n)
  wraps : topoRing s = true → t.flag (TX.STATUS.WRAP n) = true
  unwrapped : topoRing s = false → t.flag (TX.STATUS.WRAP n) = s.flag (TX.STATUS.WRAP n)
  told : Told s t (lossEvents s n planned)

/-- A later change that spares the fault, the port's flags and its arrival leaves the loss as it is. -/
theorem LinkLost.after {s t u : State} {n : Nat} {planned : Bool} (h : LinkLost s t n planned) (hflt : u.flt = t.flt)
    (hreg : ∀ f ∈ [TX.STATUS.LINK_DOWN n, TX.STATUS.WRAP n, FLT.COUNT.COUNT (61 + n)], u.reg f = t.reg f)
    (hcur : (u.port n).cur = (t.port n).cur) (hrequest : (u.port n).request = (t.port n).request) :
    LinkLost s u n planned := by
  have hflag (f : Field) (hf : u.reg f = t.reg f) : u.flag f = t.flag f := by simp only [State.flag, hf]
  have hwrap : u.flag (TX.STATUS.WRAP n) = t.flag (TX.STATUS.WRAP n) := hflag _ (hreg _ (by simp))
  exact {
    shown := (hflag _ (hreg _ (by simp))).trans h.shown
    gone := ⟨hcur.trans h.gone.1, hrequest.trans h.gone.2⟩
    faulted := fun hp => faulted_after (h.faulted hp) ⟨hreg _ (by simp), by rw [hflt]⟩
    spared := fun hp => by rw [hflt, h.spared hp]
    wraps := fun hr => hwrap.trans (h.wraps hr)
    unwrapped := fun hr => hwrap.trans (h.unwrapped hr)
    told := told_after h.told (by rw [hflt]) }

/-- A port whose packets are gone. -/
def emptied (x : PortSt) : PortSt := { x with sleepRx := false, cur := none, request := none, toggling := false }

/-- The port's packets are gone, LINK_DOWN shows the loss and the event tells it. -/
def lossShown (s : State) (n : Nat) (planned : Bool) : State :=
  raiseEvent ((s.setPort n emptied).setFlag (TX.STATUS.LINK_DOWN n) true) 0x0A02 (toLe 1 n ++ toLe 1 (b2n planned))

/-- A loss that is not planned is a CORR fault too. -/
def lossFaulted (s : State) (n : Nat) (planned : Bool) : State :=
  if planned then lossShown s n planned else raiseFault (lossShown s n planned) (61 + n) 1

theorem linkLost_of_up {s : State} {n : Nat} (h : portUp s n = true) (planned : Bool) : linkLost s n planned =
    if topoRing s ∧ s.flag (TX.STATUS.WRAP n) = false then
      raiseEvent ((lossFaulted s n planned).setFlag (TX.STATUS.WRAP n) true) 0x0A04 (toLe 1 n)
    else lossFaulted s n planned := if_pos h

section
variable {s : State} {p : Port} {planned : Bool}

theorem reg_lossFaulted {f : Field} (hf : 0x30280 * 32 ≤ fieldKey f) :
    (lossFaulted s (portNo p) planned).reg f = (lossShown s (portNo p) planned).reg f := by
  unfold lossFaulted
  split
  · rfl
  · exact reg_raiseFault_corr _ _ hf

theorem port_lossFaulted (n : Nat) : (lossFaulted s n planned).port n = (lossShown s n planned).port n := by
  unfold lossFaulted
  split
  · rfl
  · exact port_raiseFault _ _ _ _

theorem lossFaulted_jorosh (n : Nat) :
    (lossFaulted s n planned).flt.jorosh = (lossShown s n planned).flt.jorosh := by
  unfold lossFaulted
  split
  · rfl
  · exact raiseFault_corr_jorosh _ _

theorem lossFaulted_lt (n : Nat) : (lossFaulted s n planned).lt = s.lt := by
  unfold lossFaulted
  split
  · rfl
  · simp [lossShown]

theorem lossFaulted_node : (lossFaulted s (portNo p) planned).reg TXLA.NODE.ADDR = s.reg TXLA.NODE.ADDR :=
  (reg_lossFaulted (by decide)).trans (reg_setFlag_ne _ _ _ _ (by cases p <;> decide))

theorem flag_lossShown_wrap :
    (lossShown s (portNo p) planned).flag (TX.STATUS.WRAP (portNo p)) = s.flag (TX.STATUS.WRAP (portNo p)) :=
  flag_setFlag_ne _ _ _ _ (by cases p <;> decide)

/-- The loss of a link outside a ring, or of a port that wraps already. -/
theorem lossFaulted_told : Told s (lossFaulted s (portNo p) planned)
    [(0x0A02, toLe 1 (portNo p) ++ toLe 1 (b2n planned))] :=
  told_after (EngineBands.told_of_raiseEvent (reg_setFlag_ne _ _ _ _ (by cases p <;> decide)) rfl rfl _ _)
    (lossFaulted_jorosh _)

theorem lossFaulted_shown : (lossFaulted s (portNo p) planned).flag (TX.STATUS.LINK_DOWN (portNo p)) = true := by
  have hshown : (lossShown s (portNo p) planned).flag (TX.STATUS.LINK_DOWN (portNo p)) = true :=
    flag_setFlag_self _ _ _ (by cases p <;> decide) (by cases p <;> decide)
  rw [State.flag, reg_lossFaulted (by cases p <;> decide)]
  exact hshown

theorem lossFaulted_wrap :
    (lossFaulted s (portNo p) planned).flag (TX.STATUS.WRAP (portNo p)) = s.flag (TX.STATUS.WRAP (portNo p)) := by
  rw [State.flag, reg_lossFaulted (by cases p <;> decide)]
  exact flag_lossShown_wrap

theorem lossShown_sourceKept : SourceKept (61 + portNo p) s (lossShown s (portNo p) planned) :=
  ⟨reg_setFlag_ne _ _ _ _ (by cases p <;> decide), rfl⟩

theorem lossFaulted_request : (planned = false → Faulted s (lossFaulted s (portNo p) planned) (61 + portNo p) 1)
    ∧ (planned = true → sparseGet none (lossFaulted s (portNo p) planned).flt.real (61 + portNo p)
      = sparseGet none s.flt.real (61 + portNo p)) := by
  refine ⟨fun h => ?_, fun h => ?_⟩
  · have hraised : lossFaulted s (portNo p) planned = raiseFault (lossShown s (portNo p) planned) (61 + portNo p) 1 :=
      if_neg (by simp [h])
    rw [hraised]
    exact faulted_before lossShown_sourceKept (raiseFault_faulted _ _ _)
  · have hplain : lossFaulted s (portNo p) planned = lossShown s (portNo p) planned := if_pos h
    rw [hplain]
    exact lossShown_sourceKept.2

theorem lossFaulted_gone (hp : portNo p < s.net.ports.length) :
    ((lossFaulted s (portNo p) planned).port (portNo p)).cur = none
    ∧ ((lossFaulted s (portNo p) planned).port (portNo p)).request = none := by
  have hport : (lossShown s (portNo p) planned).port (portNo p) = emptied (s.port (portNo p)) := port_setPort_self hp _
  rw [port_lossFaulted, hport]
  exact ⟨rfl, rfl⟩

/-- The loss of an up port, step by step: its fault first, then the wrap of a ring node. -/
theorem linkLost_lost (hp : portNo p < s.net.ports.length) (hup : portUp s (portNo p) = true) (planned : Bool) :
    LinkLost s (linkLost s (portNo p) planned) (portNo p) planned := by
  obtain ⟨hcur, hrequest⟩ := lossFaulted_gone (planned := planned) hp
  obtain ⟨hfault, hspare⟩ := lossFaulted_request (s := s) (p := p) (planned := planned)
  by_cases hwrap : topoRing s ∧ s.flag (TX.STATUS.WRAP (portNo p)) = false
  · have hevents : lossEvents s (portNo p) planned
        = [(0x0A02, toLe 1 (portNo p) ++ toLe 1 (b2n planned))] ++ [(0x0A04, toLe 1 (portNo p))] := by
      simp [lossEvents, hwrap]
    have hkept (f : Field) (hf : fieldKey (TX.STATUS.WRAP (portNo p)) ≠ fieldKey f) :=
      reg_setFlag_ne (lossFaulted s (portNo p) planned) _ f true hf
    rw [linkLost_of_up hup, if_pos hwrap]
    exact {
      shown := (flag_setFlag_ne (lossFaulted s (portNo p) planned) _ _ true (by cases p <;> decide)).trans lossFaulted_shown
      gone := ⟨hcur, hrequest⟩
      faulted := fun h => faulted_after (hfault h) ⟨hkept _ (by cases p <;> decide), rfl⟩
      spared := hspare
      wraps := fun _ => flag_setFlag_self _ _ _ (by cases p <;> decide) (by cases p <;> decide)
      unwrapped := fun h => absurd hwrap.1 (by simp [h])
      told := hevents ▸ told_snoc lossFaulted_told ((hkept _ (by cases p <;> decide)).trans lossFaulted_node)
        (lossFaulted_lt _) rfl _ _ }
  · have hevents : lossEvents s (portNo p) planned = [(0x0A02, toLe 1 (portNo p) ++ toLe 1 (b2n planned))] := by
      simp [lossEvents, hwrap]
    rw [linkLost_of_up hup, if_neg hwrap]
    exact {
      shown := lossFaulted_shown
      gone := ⟨hcur, hrequest⟩
      faulted := hfault
      spared := hspare
      wraps := fun h => lossFaulted_wrap.trans (by simpa [h] using hwrap)
      unwrapped := fun _ => lossFaulted_wrap
      told := hevents ▸ lossFaulted_told }

theorem length_ports_linkLost (hup : portUp s (portNo p) = true) (planned : Bool) :
    (linkLost s (portNo p) planned).net.ports.length = s.net.ports.length := by
  have hnet : (lossFaulted s (portNo p) planned).net = (lossShown s (portNo p) planned).net := by
    unfold lossFaulted
    split
    · rfl
    · simp
  have hlength : (lossFaulted s (portNo p) planned).net.ports.length = s.net.ports.length := by
    rw [hnet]
    exact length_ports_setPort s _ emptied
  rw [linkLost_of_up hup]
  split
  · exact hlength
  · exact hlength

/-! ### A port goes down and trains again (R345) -/

/-- Port `n` is lost and about to train. -/
def downing (s : State) (n : Nat) : State := (linkLost s n (s.port n).sleepRx).setReg (TX.STATUS.STATE n) 2

theorem portDown_of_up {n : Nat} (h : portUp s n = true) : portDown s n = startTraining (downing s n) n := if_pos h

theorem startTraining_gone {n : Nat} (hn : n < s.net.ports.length) : ((startTraining s n).port n).cur = (s.port n).cur
    ∧ ((startTraining s n).port n).request = (s.port n).request := by
  unfold startTraining
  split
  · rw [port_setReg, port_setPort_self hn]
    exact ⟨rfl, rfl⟩
  · rw [port_setReg, port_setPort_self hn]
    exact ⟨rfl, rfl⟩

theorem ringRole_downing : ringRole (downing s (portNo p)) = ringRole s :=
  (reg_setReg_ne _ _ _ _ (by cases p <;> decide)).trans
    (reg_eq_of_word (linkLost_word (outside_of (by decide +kernel)) _ _ _))

theorem portDown_lost (hp : portNo p < s.net.ports.length) (hup : portUp s (portNo p) = true) :
    LinkLost s (portDown s (portNo p)) (portNo p) (s.port (portNo p)).sleepRx := by
  have hports : portNo p < (downing s (portNo p)).net.ports.length := (length_ports_linkLost hup _).symm ▸ hp
  obtain ⟨hcur, hrequest⟩ := startTraining_gone hports
  rw [portDown_of_up hup]
  refine (linkLost_lost hp hup _).after (by simp [downing]) ?_ hcur hrequest
  intro f hf
  have hkeys : ∀ f ∈ [TX.STATUS.LINK_DOWN (portNo p), TX.STATUS.WRAP (portNo p), FLT.COUNT.COUNT (61 + portNo p)],
      (startTrainingRegs ++ [TX.STATUS.STATE (portNo p)]).all (fun g => fieldKey g != fieldKey f) = true := by
    cases p <;> decide
  obtain ⟨htraining, hstate⟩ := (outside_append _ _ _).mp (outside_of (hkeys f hf))
  exact (reg_eq_of_word (startTraining_word htraining _ _)).trans
    (reg_setReg_ne _ _ _ _ (hstate _ List.mem_cons_self))

theorem portDown_state (hp : portNo p < s.net.ports.length) (hup : portUp s (portNo p) = true) :
    (portDown s (portNo p)).reg (TX.STATUS.STATE (portNo p)) = if ringRole s = 3 ∧ portNo p = 1 then 1 else 2 := by
  have hports : portNo p < (downing s (portNo p)).net.ports.length := (length_ports_linkLost hup _).symm ▸ hp
  have htrains := startTraining_effects hports
  rw [ringRole_downing, ← portDown_of_up hup] at htrains
  by_cases hend : ringRole s = 3 ∧ p = .b
  · rw [if_pos hend] at htrains
    rw [if_pos ⟨hend.1, (portNo_eq_one_iff p).mpr hend.2⟩]
    exact htrains.1
  · rw [if_neg hend] at htrains
    rw [if_neg (fun h => hend ⟨h.1, (portNo_eq_one_iff p).mp h.2⟩)]
    exact htrains.1

theorem portDown_wentDown (hp : portNo p < s.net.ports.length) (hup : portUp s (portNo p) = true) :
    LinkWentDown s (portDown s (portNo p)) (portNo p) (s.port (portNo p)).sleepRx := by
  have hlost := portDown_lost hp hup
  exact ⟨portDown_state hp hup, hlost.shown, hlost.gone.1, hlost.gone.2, hlost.faulted, hlost.spared, hlost.wraps,
    hlost.unwrapped⟩

/-- A port that went down is not up. -/
theorem portUp_of_wentDown {t : State} {n : Nat} (h : LinkWentDown s t n planned) : portUp t n = false := by
  have hstate := h.1
  unfold portUp
  rw [hstate]
  split <;> rfl

/-- A loss seen from an earlier state that differs in a counter alone. -/
theorem wentDown_before {s' t : State} {f : Field} (hreg : ∀ g, fieldKey f ≠ fieldKey g → s'.reg g = s.reg g)
    (hflt : s'.flt = s.flt) (hkeys : [TXLA.NODE.ROLE, TXLA.NODE.TOPO, TX.STATUS.WRAP (portNo p),
      FLT.COUNT.COUNT (61 + portNo p)].all (fun g => fieldKey f != fieldKey g) = true)
    (h : LinkWentDown s' t (portNo p) planned) : LinkWentDown s t (portNo p) planned := by
  simp only [List.all_cons, List.all_nil, bne_iff_ne, Bool.and_eq_true, and_true] at hkeys
  obtain ⟨hrole, htopo, hwrap, hcount⟩ := hkeys
  have hrole' : ringRole s' = ringRole s := hreg _ hrole
  have htopo' : topoRing s' = topoRing s := by unfold topoRing; rw [hreg _ htopo]
  have hwrap' : s'.flag (TX.STATUS.WRAP (portNo p)) = s.flag (TX.STATUS.WRAP (portNo p)) := by
    simp only [State.flag, hreg _ hwrap]
  unfold LinkWentDown at h ⊢
  rw [hrole', htopo', hwrap', hflt] at h
  obtain ⟨hstate, hshown, hcur, hrequest, hfault, hspare, hwraps, hunwrapped⟩ := h
  exact ⟨hstate, hshown, hcur, hrequest, fun hp => faulted_before ⟨hreg _ hcount, by rw [hflt]⟩ (hfault hp), hspare,
    hwraps, hunwrapped⟩

/-! ### Code errors (R336, R338) -/

/-- Port `p` with `k` more code errors. -/
def errorsCounted (s : State) (p : Port) (k : Nat) : State := s.bumpBy (TX.CODE_ERR (portNo p)) k

theorem errorsCounted_counted (k : Nat) : Counted s (errorsCounted s p k) (TX.CODE_ERR (portNo p)) k :=
  bumpBy_counted s (by cases p <;> decide) k

theorem errorsCounted_down (hs : ShapeOk s) (hup : portUp s (portNo p) = true) (k : Nat) :
    LinkWentDown s (portDown (errorsCounted s p k) (portNo p)) (portNo p) (s.port (portNo p)).sleepRx := by
  have hup' : portUp (errorsCounted s p k) (portNo p) = true := by
    unfold portUp errorsCounted
    rw [reg_bumpBy_ne _ _ _ _ (by cases p <;> decide)]
    exact hup
  exact wentDown_before (fun g hg => reg_bumpBy_ne s _ g k hg) rfl (by cases p <;> decide)
    (portDown_wentDown (s := errorsCounted s p k) (portNo_lt_ports hs p) hup')

theorem portDown_codeErr (u : State) :
    (portDown u (portNo p)).reg (TX.CODE_ERR (portNo p)) = u.reg (TX.CODE_ERR (portNo p)) :=
  reg_eq_of_word (portDown_word (outside_of (by cases p <;> decide +kernel)) u _)

theorem elasticBufferSlip_completes (hs : ShapeOk s) (hup : portUp s (portNo p) = true) :
    Completes (.elasticBufferSlip p) s fun t => LinkWentDown s t (portNo p) (s.port (portNo p)).sleepRx
      ∧ Counted s t (TX.CODE_ERR (portNo p)) 1 :=
  completes_of rfl ⟨errorsCounted_down hs hup 1, counted_after (errorsCounted_counted 1) (portDown_codeErr _)⟩

theorem codeErrorBurst_completes {k : Nat} (hs : ShapeOk s) : Completes (.codeErrorBurst p k) s fun t =>
    Counted s t (TX.CODE_ERR (portNo p)) k
    ∧ (k ≤ 8 → t.reg (TX.STATUS.STATE (portNo p)) = s.reg (TX.STATUS.STATE (portNo p)) ∧ t.flt = s.flt)
    ∧ (8 < k → portUp s (portNo p) = true → LinkWentDown s t (portNo p) (s.port (portNo p)).sleepRx) := by
  have hrun : exec (.codeErrorBurst p k) s = .next
      (if 8 < k then portDown (errorsCounted s p k) (portNo p) else errorsCounted s p k) := rfl
  by_cases hburst : 8 < k
  · rw [if_pos hburst] at hrun
    exact completes_of hrun ⟨counted_after (errorsCounted_counted k) (portDown_codeErr _), fun h => absurd h (by omega),
      fun _ hup => errorsCounted_down hs hup k⟩
  · rw [if_neg hburst] at hrun
    exact completes_of hrun ⟨errorsCounted_counted k, fun _ => ⟨reg_bumpBy_ne _ _ _ _ (by cases p <;> decide), rfl⟩,
      fun h => absurd h hburst⟩

/-! ### The service measurement of FOM (R344) -/

/-- The FOM that the lanes show. -/
def fomOf (lanes : List LaneEq) : List Nat := lanes.map (fun l => min 255 l.fom)

theorem fomOf_getD {lanes : List LaneEq} {l : Nat} {e : LaneEq} (h : lanes[l]? = some e) :
    (fomOf lanes).getD l 0 = min 255 e.fom := by
  simp [fomOf, List.getD_eq_getElem?_getD, h]

/-- FOM as shown by lane. -/
def fomShown (s : State) (n : Nat) (fom : List Nat) : State :=
  (List.range 4).foldl (fun t l => t.setReg (TX.FOM.FOM (4 * n + l)) (fom.getD l 0)) s

/-- The lanes below FOM_WARN for the third time. -/
def lanesWarned (s : State) (n : Nat) (fom : List Nat) : List Nat :=
  (List.range 4).filter (fun l => (lowRuns (s.reg (TX.CFG.FOM_WARN n)) (s.port n).warnRuns fom).getD l 0 == 3)

/-- FOM shown, the trials kept and the runs of low readings noted. -/
def runsNoted (s : State) (n : Nat) (fom : List Nat) (gains : List (Nat × Nat × Int)) : State :=
  (gains.foldl (fun t g => keepTap t n g) (fomShown s n fom)).setPort n (fun x =>
    { x with warnRuns := lowRuns (s.reg (TX.CFG.FOM_WARN n)) (s.port n).warnRuns fom,
             downRuns := lowRuns (s.reg (TX.CFG.FOM_DOWN n)) (s.port n).downRuns fom })

/-- The measurement up to the decision to take the port down. -/
def measured (s : State) (n : Nat) (fom : List Nat) (gains : List (Nat × Nat × Int)) : State :=
  (lanesWarned s n fom).foldl (fomWarn n fom) (runsNoted s n fom gains)

theorem measureFom_eq (s : State) (n : Nat) (lanes : List LaneEq) (gains : List (Nat × Nat × Int)) :
    measureFom s n lanes gains =
      if (lowRuns (s.reg (TX.CFG.FOM_DOWN n)) (s.port n).downRuns (fomOf lanes)).any (fun k => decide (2 ≤ k)) then
        portDown (measured s n (fomOf lanes) gains) n
      else measured s n (fomOf lanes) gains := rfl

theorem lowRuns_getD {th l : Nat} {runs fom : List Nat} (hl : l < 4) (hlow : fom.getD l 0 < th) :
    (lowRuns th runs fom).getD l 0 = runs.getD l 0 + 1 := by
  simp [lowRuns, List.getD_eq_getElem?_getD, hl] at hlow ⊢
  simp [hlow]

theorem mem_lowRuns {th l : Nat} {runs fom : List Nat} (hl : l < 4) (hlow : fom.getD l 0 < th) :
    runs.getD l 0 + 1 ∈ lowRuns th runs fom :=
  List.mem_map.mpr ⟨l, List.mem_range.mpr hl, if_pos hlow⟩

section
variable {fom : List Nat} {gains : List (Nat × Nat × Int)}

theorem fomShown_lane {l : Nat} (n : Nat) (hl : l < 4) (hfit : fom.getD l 0 < 256) :
    (fomShown s n fom).reg (TX.FOM.FOM (4 * n + l)) = fom.getD l 0 := by
  refine reg_foldl_of_hit (hit := fun k => k = l) (fun u k _ hk => ?_) (fun u k hk hne => ?_)
    ⟨l, List.mem_range.mpr hl, rfl⟩ s
  · rw [hk]
    exact reg_setReg_of_lt _ _ _ (by show 8 ≤ 32; decide) hfit
  · have hk4 := List.mem_range.mp hk
    refine reg_setReg_ne _ _ _ _ ?_
    simp only [fieldKey, TX.FOM.FOM]
    omega

theorem measured_word {key : Nat} {n : Nat} (hk : Outside (keepTapRegs ++ fomWarnRegs) key) :
    wordAt (measured s n fom gains).regs key = wordAt (fomShown s n fom).regs key := by
  rw [outside_append] at hk
  simp [measured, runsNoted, hk]

theorem measured_length {n : Nat} : (measured s n fom gains).net.ports.length = s.net.ports.length := by
  simp [measured, runsNoted, fomShown]

/-- The FOM words lie apart from what follows in the measurement. -/
theorem fom_outside {i : Nat} (hi : i < 8) :
    Outside (keepTapRegs ++ fomWarnRegs ++ portDownRegs) (fieldKey (TX.FOM.FOM i)) := by
  have hall : ∀ i < 8, (keepTapRegs ++ fomWarnRegs ++ portDownRegs).all
      (fun f => fieldKey f != fieldKey (TX.FOM.FOM i)) = true := by decide +kernel
  exact outside_of (hall i hi)

theorem portUp_measured (s : State) (p : Port) (fom : List Nat) (gains : List (Nat × Nat × Int)) :
    portUp (measured s (portNo p) fom gains) (portNo p) = portUp s (portNo p) := by
  have hshown : (fomShown s (portNo p) fom).reg (TX.STATUS.STATE (portNo p)) = s.reg (TX.STATUS.STATE (portNo p)) := by
    have hne (l : Nat) : fieldKey (TX.FOM.FOM (4 * portNo p + l)) ≠ fieldKey (TX.STATUS.STATE (portNo p)) := by
      simp only [fieldKey, TX.FOM.FOM, TX.STATUS.STATE]
      omega
    exact reg_eq_of_word (by simp [fomShown, hne])
  have hword := measured_word (s := s) (n := portNo p) (fom := fom) (gains := gains)
    (key := fieldKey (TX.STATUS.STATE (portNo p))) (outside_of (by cases p <;> decide +kernel))
  unfold portUp
  rw [reg_eq_of_word hword, hshown]

/-- One lane that warns sets FOM_LOW, and the next ones leave it set. -/
theorem measured_fomLow (h : lanesWarned s (portNo p) fom ≠ []) :
    (measured s (portNo p) fom gains).reg (TX.STATUS.FOM_LOW (portNo p)) = 1 := by
  obtain ⟨l, hl⟩ := List.exists_mem_of_ne_nil _ h
  refine reg_foldl_of_hit (hit := fun _ => True) (fun u k _ _ => ?_) (fun _ _ _ hn => absurd trivial hn)
    ⟨l, hl, trivial⟩ _
  unfold fomWarn
  rw [reg_raiseFault_corr _ _ (by cases p <;> decide), reg_raiseEvent]
  exact reg_setFlag_self _ _ true (by cases p <;> decide) (by cases p <;> decide)

end

theorem fomMeasurement_completes {lanes : List LaneEq} {gains : List (Nat × Nat × Int)} (hs : ShapeOk s)
    (hup : portUp s (portNo p) = true) (hfree : s.flag (TX.CTRL.EQ_FREEZE (portNo p)) = false) :
    Completes (.fomMeasurement p lanes gains) s fun t =>
      (∀ l e, l < 4 → lanes[l]? = some e → t.reg (TX.FOM.FOM (4 * portNo p + l)) = min 255 e.fom)
      ∧ ((∃ l e, l < 4 ∧ lanes[l]? = some e ∧ min 255 e.fom < s.reg (TX.CFG.FOM_DOWN (portNo p))
          ∧ 1 ≤ (s.port (portNo p)).downRuns.getD l 0) →
        portUp t (portNo p) = false ∧ t.flag (TX.STATUS.LINK_DOWN (portNo p)) = true ∧ (t.port (portNo p)).cur = none)
      ∧ ((∃ l e, l < 4 ∧ lanes[l]? = some e ∧ min 255 e.fom < s.reg (TX.CFG.FOM_WARN (portNo p))
          ∧ (s.port (portNo p)).warnRuns.getD l 0 = 2) →
        t.flag (TX.STATUS.FOM_LOW (portNo p)) = true) := by
  have hrun : exec (.fomMeasurement p lanes gains) s = .next (measureFom s (portNo p) lanes gains) :=
    congrArg Host.Outcome.next (if_pos ⟨hup, hfree⟩)
  have hkeep {f : Field} (hf : Outside portDownRegs (fieldKey f)) : (measureFom s (portNo p) lanes gains).reg f
      = (measured s (portNo p) (fomOf lanes) gains).reg f := by
    rw [measureFom_eq]
    split
    · exact reg_eq_of_word (portDown_word hf _ _)
    · rfl
  refine completes_of hrun ⟨fun l e hl he => ?_, ?_, ?_⟩
  · have hfom := fomOf_getD he
    obtain ⟨hmeasured, hdown⟩ := (outside_append _ _ _).mp
      (fom_outside (i := 4 * portNo p + l) (by have := portNo_lt p; omega))
    rw [hkeep hdown, reg_eq_of_word (measured_word hmeasured), fomShown_lane _ hl (by omega), hfom]
  · rintro ⟨l, e, hl, he, hlow, hrun1⟩
    have hany : (lowRuns (s.reg (TX.CFG.FOM_DOWN (portNo p))) (s.port (portNo p)).downRuns (fomOf lanes)).any
        (fun k => decide (2 ≤ k)) = true :=
      List.any_eq_true.mpr ⟨_, mem_lowRuns hl (fomOf_getD he ▸ hlow), decide_eq_true (by omega)⟩
    have hports : portNo p < (measured s (portNo p) (fomOf lanes) gains).net.ports.length := by
      rw [measured_length]
      exact portNo_lt_ports hs p
    have hdown := portDown_wentDown hports ((portUp_measured s p (fomOf lanes) gains).trans hup)
    rw [measureFom_eq, if_pos hany]
    obtain ⟨-, hshown, hcur, -⟩ := id hdown
    exact ⟨portUp_of_wentDown hdown, hshown, hcur⟩
  · rintro ⟨l, e, hl, he, hlow, hrun2⟩
    have hwarned : l ∈ lanesWarned s (portNo p) (fomOf lanes) := by
      refine List.mem_filter.mpr ⟨List.mem_range.mpr hl, ?_⟩
      rw [lowRuns_getD hl (fomOf_getD he ▸ hlow), hrun2]
      rfl
    have hlow1 := (hkeep (f := TX.STATUS.FOM_LOW (portNo p)) (outside_of (by cases p <;> decide +kernel))).trans
      (measured_fomLow (List.ne_nil_of_mem hwarned))
    simp [State.flag, hlow1]

/-! ### Ports disabled and quarantines ended (R345, R369, R372) -/

/-- A SLEEP NOP goes out of an up port before its planned loss. -/
def sleepSent (s : State) (n : Nat) : State := sendPortNew s n 0 1023 4 []

/-- The loss that disabling brings an up port. -/
def loggedOff (s : State) (n : Nat) : State := if portUp s n then linkLost (sleepSent s n) n true else s

theorem portDisable_eq (s : State) (n : Nat) : portDisable s n =
    (((loggedOff s n).setFlag (TX.CTRL.EN n) false).setReg (TX.STATUS.STATE n) 0).setPort n (fun x => { x with phase := 0 }) :=
  rfl

theorem sleepSent_regs (s : State) (n : Nat) : (sleepSent s n).regs = s.regs := by simp [sleepSent]

theorem portUp_sleepSent (s : State) (n : Nat) : portUp (sleepSent s n) n = portUp s n := by
  unfold portUp
  rw [reg_of_regs _ (sleepSent_regs s n)]

theorem length_ports_loggedOff : (loggedOff s (portNo p)).net.ports.length = s.net.ports.length := by
  unfold loggedOff
  split
  · next hup =>
    rw [length_ports_linkLost ((portUp_sleepSent s _).trans hup)]
    exact length_ports_sendPortNew s _ _ _ _ _
  · rfl

theorem loggedOff_told (hp : portNo p < s.net.ports.length) (hup : portUp s (portNo p) = true) :
    (loggedOff s (portNo p)).flag (TX.STATUS.LINK_DOWN (portNo p)) = true
    ∧ Told s (loggedOff s (portNo p)) (lossEvents s (portNo p) true) := by
  have hports : portNo p < (sleepSent s (portNo p)).net.ports.length :=
    (length_ports_sendPortNew s _ _ _ _ _).symm ▸ hp
  have hlost := linkLost_lost hports ((portUp_sleepSent s _).trans hup) true
  have hregs := sleepSent_regs s (portNo p)
  have hevents : lossEvents (sleepSent s (portNo p)) (portNo p) true = lossEvents s (portNo p) true := by
    unfold lossEvents topoRing
    rw [reg_of_regs _ hregs, flag_of_regs _ hregs]
  have hlogged : loggedOff s (portNo p) = linkLost (sleepSent s (portNo p)) (portNo p) true := if_pos hup
  rw [hlogged]
  exact ⟨hlost.shown, told_before hregs (by simp [sleepSent]) (by simp [sleepSent]) (hevents ▸ hlost.told)⟩

theorem portEnClear_completes (hs : ShapeOk s) (hen : s.flag (TX.CTRL.EN (portNo p)) = true) :
    Completes (.portEnClear p) s fun t =>
    t.flag (TX.CTRL.EN (portNo p)) = false ∧ t.reg (TX.STATUS.STATE (portNo p)) = 0 ∧ (t.port (portNo p)).phase = 0
    ∧ (portUp s (portNo p) = true → t.flag (TX.STATUS.LINK_DOWN (portNo p)) = true
      ∧ Told s t (lossEvents s (portNo p) true)) := by
  have hrun : exec (.portEnClear p) s = .next (portDisable s (portNo p)) := congrArg Host.Outcome.next (if_pos hen)
  have hp := portNo_lt_ports hs p
  have hports : portNo p < (((loggedOff s (portNo p)).setFlag (TX.CTRL.EN (portNo p)) false).setReg
      (TX.STATUS.STATE (portNo p)) 0).net.ports.length := length_ports_loggedOff.symm ▸ hp
  rw [portDisable_eq] at hrun
  refine completes_of hrun ⟨?_, ?_, ?_, fun hup => ?_⟩
  · rw [flag_setPort, flag_setReg_ne _ _ _ _ (by cases p <;> decide)]
    exact flag_setFlag_self _ _ _ (by cases p <;> decide) (by cases p <;> decide)
  · rw [reg_setPort]
    exact reg_setReg_state (by decide) _ _
  · rw [port_setPort_self hports]
  · obtain ⟨hshown, htold⟩ := loggedOff_told hp hup
    rw [flag_setPort, flag_setReg_ne _ _ _ _ (by cases p <;> decide), flag_setFlag_ne _ _ _ _ (by cases p <;> decide)]
    exact ⟨hshown, htold⟩

theorem quarantineEnd_completes {c : Instr} (hs : ShapeOk s)
    (hc : (c = .quarantineTimeout p ∧ s.reg (TX.STATUS.STATE (portNo p)) = 4)
      ∨ (c = .quarantineRelease p ∧ s.reg (TX.STATUS.STATE (portNo p)) = 5)) : Completes c s fun t =>
    ¬ (ringRole s = 3 ∧ p = .b) → t.reg (TX.STATUS.STATE (portNo p)) = 2 ∧ (t.port (portNo p)).phase = 1 := by
  have hrun : exec c s = .next (startTraining s (portNo p)) := by
    rcases hc with ⟨rfl, hstate⟩ | ⟨rfl, hstate⟩
    · exact congrArg Host.Outcome.next (if_pos hstate)
    · exact congrArg Host.Outcome.next (if_pos hstate)
  refine completes_of hrun fun hnot => ?_
  have htrains := startTraining_effects (portNo_lt_ports hs p)
  rwa [if_neg hnot] at htrains

theorem portLost_completes {c : Instr} (hc : c = .bitLockLoss p ∨ c = .retrain p) (hs : ShapeOk s)
    (hup : portUp s (portNo p) = true) : Completes c s fun t =>
    LinkWentDown s t (portNo p) (s.port (portNo p)).sleepRx
    ∧ Told s t (lossEvents s (portNo p) (s.port (portNo p)).sleepRx) := by
  have hrun : exec c s = .next (portDown s (portNo p)) := by
    rcases hc with rfl | rfl
    · rfl
    · rfl
  have hp := portNo_lt_ports hs p
  exact completes_of hrun ⟨portDown_wentDown hp hup, (portDown_lost hp hup).told⟩

end

/-- Settles O34: the ways a link is lost, by the one description of a lost link. -/
theorem linkLoss : Obligations.LinkLoss := by
  unfold Obligations.LinkLoss
  exact ⟨fun s p c hc hs hup => portLost_completes hc hs hup, fun s p hs hup => elasticBufferSlip_completes hs hup,
    fun s p k hs => codeErrorBurst_completes hs,
    fun s p lanes gains hs hup hfree => fomMeasurement_completes hs hup hfree,
    fun s p hs hen => portEnClear_completes hs hen, fun s p c hs hc => quarantineEnd_completes hs hc⟩

end Sys2Proof.Machine.LinkLoss
end

section
/-! PROOF. ConsumedPackets: consumed packets: video rows, context records and enumeration (10_tatex_link.md R350, R351, R357, R372). -/

namespace Sys2Proof.Machine.ConsumedPackets

open GalleryComposition (reg_fenceAdd flag_wrapBy_ne)
open EngineBands (dramByte_dramWrite_ne dramByte_dramWrite)
open EnumerationMail (packetTaken roundEnded nopEnumEnd_of_origin broadcastTopo_net takeAddress_addr takeAddress_valid
  sendPortNew_roundKept)
open TatexPorts

/-! ### Packets taken for their action -/

section
variable {s : State} {p : Port} {pkt : Packet} {rx : Nat}

theorem takePacket_of_type {k : Nat} (hpkt : (s.port (portNo p)).pkt = some (pkt, rx)) (htype : pkt.hdr.type = k) :
    takePacket s (portNo p) k = some (packetTaken s p, pkt, rx) := by
  unfold takePacket
  rw [hpkt]
  exact if_pos htype

/-! ### VROW (R350) -/

/-- The row written at its address, or refused beyond the populated DRAM. -/
def rowWritten (s : State) (p : Port) (pkt : Packet) : State :=
  dramWrite (packetTaken s p) (4 * leAt pkt.payload 0 4) (pkt.payload.drop 8)

/-- The row written and the fence it names advanced. -/
def rowFenced (s : State) (p : Port) (pkt : Packet) : State :=
  if bit (leAt pkt.payload 4 1) 7 then fenceAdd (rowWritten s p pkt) (leAt pkt.payload 4 1 % 64) (leAt pkt.payload 6 2)
  else rowWritten s p pkt

/-- A row outside every window of its source is a bad packet. -/
def rowBarred (s : State) (p : Port) : State :=
  badPacket ((packetTaken s p).bump (TX.UNTRUSTED (portNo p))) (portNo p)

theorem vrowPacket_run (hpkt : (s.port (portNo p)).pkt = some (pkt, rx)) (htype : pkt.hdr.type = 1) :
    exec (.vrowPacket p) s = .next (if inWindow s pkt.hdr.src (4 * leAt pkt.payload 0 4) (pkt.payload.length - 8) then
      rowFenced s p pkt else rowBarred s p) := by
  have hwindow : inWindow (packetTaken s p) pkt.hdr.src (4 * leAt pkt.payload 0 4) (pkt.payload.drop 8).length
      = inWindow s pkt.hdr.src (4 * leAt pkt.payload 0 4) (pkt.payload.length - 8) := by
    rw [List.length_drop]
    rfl
  show execVrowPacket p s = _
  unfold execVrowPacket
  rw [takePacket_of_type hpkt htype]
  dsimp only
  rw [hwindow]
  split
  · rfl
  · rfl

theorem rowFenced_dram : (rowFenced s p pkt).dram = (rowWritten s p pkt).dram := by
  unfold rowFenced
  split
  · rfl
  · rfl

theorem rowBarred_dram : (rowBarred s p).dram = s.dram := by simp [rowBarred, packetTaken]

theorem rowBarred_counted : Counted s (rowBarred s p) (TX.UNTRUSTED (portNo p)) 1 :=
  counted_after (bumpBy_counted (packetTaken s p) (by cases p <;> decide) 1)
    (reg_eq_of_word (badPacket_word (outside_of (by cases p <;> decide +kernel)) _ _))

theorem rowWritten_dramByte_ne {b : Nat}
    (hb : b < 4 * leAt pkt.payload 0 4 ∨ 4 * leAt pkt.payload 0 4 + (pkt.payload.length - 8) ≤ b) :
    (rowWritten s p pkt).dramByte b = s.dramByte b :=
  dramByte_dramWrite_ne (packetTaken s p) (by rw [List.length_drop]; omega)

theorem rowWritten_beyond (h : s.dramSize < 4 * leAt pkt.payload 0 4 + (pkt.payload.length - 8)) :
    rowWritten s p pkt = (packetTaken s p).setFlag DDRC.STATUS.RANGE_ERR true :=
  if_pos (by rw [List.length_drop]; exact h)

theorem rowWritten_dramBytes (h : 4 * leAt pkt.payload 0 4 + (pkt.payload.length - 8) ≤ s.dramSize) :
    (rowWritten s p pkt).dramBytes (4 * leAt pkt.payload 0 4) (pkt.payload.length - 8) = pkt.payload.drop 8 := by
  refine List.ext_getElem (by simp [State.dramBytes]) fun i hi hi' => ?_
  simp only [State.dramBytes, List.getElem_map, List.getElem_range]
  exact dramByte_dramWrite (s := packetTaken s p) (by rw [List.length_drop]; exact h) hi'

theorem rowFenced_rangeErr (h : (rowWritten s p pkt).flag DDRC.STATUS.RANGE_ERR = true) :
    (rowFenced s p pkt).flag DDRC.STATUS.RANGE_ERR = true := by
  unfold rowFenced
  split
  · refine (flag_wrapBy_ne _ _ _ _ ?_).trans h
    simp only [fieldKey, GAL.FENCE.FENCE, DDRC.STATUS.RANGE_ERR]
    omega
  · exact h

theorem rowFenced_fence (h : bit (leAt pkt.payload 4 1) 7 = true) :
    (rowFenced s p pkt).reg (GAL.FENCE.FENCE (leAt pkt.payload 4 1 % 64))
      = (s.reg (GAL.FENCE.FENCE (leAt pkt.payload 4 1 % 64)) + leAt pkt.payload 6 2) % 2 ^ 32 := by
  have hfenced : rowFenced s p pkt
      = fenceAdd (rowWritten s p pkt) (leAt pkt.payload 4 1 % 64) (leAt pkt.payload 6 2) := if_pos h
  have hkept (k : Nat) : (rowWritten s p pkt).reg (GAL.FENCE.FENCE k) = s.reg (GAL.FENCE.FENCE k) := by
    refine (reg_eq_of_word (dramWrite_word ?_ _ _ _)).trans rfl
    simp only [dramWriteRegs, outside_cons, outside_nil, and_true, fieldKey, GAL.FENCE.FENCE, DDRC.STATUS.RANGE_ERR]
    omega
  rw [hfenced, reg_fenceAdd, hkept]

theorem vrowPacket_completes (hpkt : (s.port (portNo p)).pkt = some (pkt, rx)) (htype : pkt.hdr.type = 1) :
    Completes (.vrowPacket p) s fun t =>
      (∀ b, b < 4 * leAt pkt.payload 0 4 ∨ 4 * leAt pkt.payload 0 4 + (pkt.payload.length - 8) ≤ b →
        t.dramByte b = s.dramByte b)
      ∧ (inWindow s pkt.hdr.src (4 * leAt pkt.payload 0 4) (pkt.payload.length - 8) = false →
        t.dram = s.dram ∧ Counted s t (TX.UNTRUSTED (portNo p)) 1)
      ∧ (inWindow s pkt.hdr.src (4 * leAt pkt.payload 0 4) (pkt.payload.length - 8) = true →
        (if s.dramSize < 4 * leAt pkt.payload 0 4 + (pkt.payload.length - 8) then
          t.dram = s.dram ∧ t.flag DDRC.STATUS.RANGE_ERR = true
         else t.dramBytes (4 * leAt pkt.payload 0 4) (pkt.payload.length - 8) = pkt.payload.drop 8)
        ∧ (bit (leAt pkt.payload 4 1) 7 = true → t.reg (GAL.FENCE.FENCE (leAt pkt.payload 4 1 % 64))
          = (s.reg (GAL.FENCE.FENCE (leAt pkt.payload 4 1 % 64)) + leAt pkt.payload 6 2) % 2 ^ 32)) := by
  have hrun := vrowPacket_run hpkt htype
  by_cases hwindow : inWindow s pkt.hdr.src (4 * leAt pkt.payload 0 4) (pkt.payload.length - 8) = true
  · rw [if_pos hwindow] at hrun
    refine completes_of hrun ⟨fun b hb => ?_, fun h => absurd hwindow (by simp [h]), fun _ => ⟨?_, rowFenced_fence⟩⟩
    · exact (EngineBands.dramByte_of_dram rowFenced_dram b).trans (rowWritten_dramByte_ne hb)
    · split
      · next hbeyond =>
        have hwritten := rowWritten_beyond (p := p) hbeyond
        refine ⟨rowFenced_dram.trans (by rw [hwritten]; rfl), rowFenced_rangeErr ?_⟩
        rw [hwritten]
        exact flag_setFlag_self _ _ _ (by decide) (by decide)
      · next hfits =>
        have hbytes := rowWritten_dramBytes (p := p) (Nat.le_of_not_lt hfits)
        unfold State.dramBytes State.dramByte at hbytes ⊢
        rwa [rowFenced_dram]
  · rw [if_neg hwindow] at hrun
    exact completes_of hrun ⟨fun b _ => EngineBands.dramByte_of_dram rowBarred_dram b,
      fun _ => ⟨rowBarred_dram, rowBarred_counted⟩, fun h => absurd h hwindow⟩

/-! ### OBJ (R168, R351) -/

theorem stageIn_commitDue (s : State) (n : Nat) (c : Ctx) (batch : Bool) :
    (stageIn s n c batch).1.shd.commitDue = s.shd.commitDue := by
  unfold stageIn
  split
  · simp [State.takeInj]
  · rfl

theorem placeRecord_commitDue (s : State) (c : Ctx) (batch : Bool) :
    (placeRecord s c batch).1.shd.commitDue = s.shd.commitDue := by
  unfold placeRecord
  split
  · exact stageIn_commitDue s _ c batch
  · split
    · rfl
    · split
      · exact stageIn_commitDue _ _ c batch
      · rfl

/-- A record with what it is received at. -/
def received (s : State) (raw : List Byte) : Ctx := { raw := raw, t0 := if s.synced then none else some s.now }

theorem acceptRecord_commitDue (s : State) (raw : List Byte) (batch : Bool) :
    (acceptRecord s raw batch).1.shd.commitDue = s.shd.commitDue := by
  obtain ⟨c, hc⟩ : ∃ c, c = received s raw := ⟨_, rfl⟩
  unfold acceptRecord
  dsimp only
  rw [← received, ← hc]
  split
  · rfl
  · split
    · exact stageIn_commitDue s _ _ batch
    · split
      · exact placeRecord_commitDue s _ batch
      · rfl

/-- Records alone commit no batch. -/
theorem applyRecords_commitDue (batch : Bool) (l : List (List Byte)) (s : State) (i : Nat) :
    (applyRecords batch s i l).1.shd.commitDue = s.shd.commitDue := by
  induction l generalizing s i with
  | nil => rfl
  | cons r l ih => exact (ih _ _).trans (acceptRecord_commitDue s r batch)

/-- The records of an OBJ packet applied in their order. -/
def recordsApplied (s : State) (p : Port) (pkt : Packet) : State × List (Nat × Nat) :=
  applyRecords (bit pkt.hdr.tspec 0) (packetTaken s p) 0
    ((List.range (leAt pkt.payload 0 1)).map (fun i => bytesAt pkt.payload (4 + 64 * i) 64))

/-- The batch committed where TSPEC bit 1 asks for it. -/
def recordsCommitted (s : State) (p : Port) (pkt : Packet) : State :=
  if bit pkt.hdr.tspec 1 then batchCommit (recordsApplied s p pkt).1 else (recordsApplied s p pkt).1

theorem recordsCommitted_shd : (∀ n, (recordsCommitted s p pkt).ctxSlot n = (recordsApplied s p pkt).1.ctxSlot n)
    ∧ (recordsCommitted s p pkt).shd.commitDue = (s.shd.commitDue || bit pkt.hdr.tspec 1) := by
  have hdue : (recordsApplied s p pkt).1.shd.commitDue = s.shd.commitDue := applyRecords_commitDue _ _ _ _
  unfold recordsCommitted
  split
  · next hcommit => exact ⟨fun _ => rfl, by rw [hcommit, Bool.or_true]; rfl⟩
  · next hcommit => exact ⟨fun _ => rfl, by rw [hdue, Bool.eq_false_iff.mpr hcommit, Bool.or_false]⟩

/-- What is reported of the records leaves the contexts as they are. -/
theorem objPacket_run (hpkt : (s.port (portNo p)).pkt = some (pkt, rx)) (htype : pkt.hdr.type = 2) :
    ∃ t, exec (.objPacket p) s = .next t ∧ t.shd = (recordsCommitted s p pkt).shd := by
  show ∃ t, execObjPacket p s = .next t ∧ t.shd = (recordsCommitted s p pkt).shd
  unfold execObjPacket
  rw [takePacket_of_type hpkt htype]
  dsimp only
  split
  · exact ⟨_, rfl, by simp [recordsCommitted, recordsApplied]⟩
  · exact ⟨_, rfl, rfl⟩

theorem objPacket_completes (hpkt : (s.port (portNo p)).pkt = some (pkt, rx)) (htype : pkt.hdr.type = 2) :
    Completes (.objPacket p) s fun t =>
      (∀ n, t.ctxSlot n = (applyRecords (bit pkt.hdr.tspec 0) (s.setPort (portNo p) (fun y => { y with pkt := none })) 0
        ((List.range (leAt pkt.payload 0 1)).map (fun i => bytesAt pkt.payload (4 + 64 * i) 64))).1.ctxSlot n)
      ∧ t.shd.commitDue = (s.shd.commitDue || bit pkt.hdr.tspec 1) := by
  obtain ⟨t, hrun, hshd⟩ := objPacket_run hpkt htype
  obtain ⟨hslots, hdue⟩ := recordsCommitted_shd (s := s) (p := p) (pkt := pkt)
  have hslot (n : Nat) : t.ctxSlot n = (recordsCommitted s p pkt).ctxSlot n := by
    unfold State.ctxSlot
    rw [hshd]
  exact completes_of hrun ⟨fun n => (hslot n).trans (hslots n), by rw [hshd, hdue]⟩

/-! ### The rounds seen (R357) -/

/-- The rounds acted on and recorded stand as they were. -/
def SeenKept (s t : State) : Prop := t.net.enumSeen = s.net.enumSeen ∧ t.net.topoSeen = s.net.topoSeen

theorem sendPortNew_seenKept (s : State) (n type dest tspec : Nat) (payload : List Byte) :
    SeenKept s (sendPortNew s n type dest tspec payload) := by
  unfold sendPortNew sendPort sendOn
  dsimp only
  split
  · split
    · exact ⟨rfl, rfl⟩
    · exact ⟨rfl, rfl⟩
  · exact ⟨rfl, rfl⟩

/-- The wraps adjusted to a recorded topology. -/
def wrapsAdjusted (s : State) (e : EnumBody) : State :=
  [0, 1].foldl (wrapFor e.ring) { s with net := { s.net with topoSeen := some e.round } }

theorem recordTopo_eq (s : State) (e : EnumBody) : recordTopo s e =
    raiseEvent (((wrapsAdjusted s e).setReg TXLA.NODE.TOPO (if e.ring then 2 else 1)).setReg TXLA.NODE.NODES e.count) 0x0A06
      (toLe 2 e.count ++ toLe 1 (if e.ring then 2 else 1)) := rfl

theorem recordTopo_shown (s : State) (e : EnumBody) : (recordTopo s e).reg TXLA.NODE.TOPO = (if e.ring then 2 else 1)
    ∧ (recordTopo s e).reg TXLA.NODE.NODES = e.count % 1024 ∧ (recordTopo s e).net.topoSeen = some e.round := by
  have htopo : (if e.ring then 2 else 1) < 2 ^ 2 := by split <;> decide
  rw [recordTopo_eq]
  refine ⟨?_, reg_setReg_self _ TXLA.NODE.NODES _ (by decide), ?_⟩
  · rw [reg_raiseEvent, reg_setReg_ne _ _ _ _ (by decide)]
    exact FrameTiming.reg_setReg_of_lt _ _ _ (by decide) htopo
  · show (wrapsAdjusted s e).net.topoSeen = some e.round
    simp [wrapsAdjusted]

theorem broadcastTopo_shown (s : State) (e : EnumBody) :
    (broadcastTopo s e).reg TXLA.NODE.TOPO = (if e.ring then 2 else 1)
    ∧ (broadcastTopo s e).reg TXLA.NODE.NODES = e.count % 1024 := by
  obtain ⟨htopo, hnodes, -⟩ := recordTopo_shown { s with net := { s.net with origin := none } } e
  unfold broadcastTopo
  dsimp only
  rw [reg_of_regs TXLA.NODE.TOPO (sendLocal_keep _ 0 1023 3 _).2.1, reg_of_regs TXLA.NODE.NODES (sendLocal_keep _ 0 1023 3 _).2.1]
  exact ⟨htopo, hnodes⟩

/-! ### ENUM (R356, R357) -/

/-- An ENUM is sent on, or answered with ENUM_END. -/
theorem passEnum_cases (s : State) (e : EnumBody) :
    ∃ n dest tspec payload, passEnum s e = sendPortNew s n 0 dest tspec payload := by
  unfold passEnum
  split
  · exact ⟨_, _, _, _, rfl⟩
  · exact ⟨_, _, _, _, rfl⟩

theorem passEnum_effects (s : State) (e : EnumBody) : (passEnum s e).regs = s.regs
    ∧ (passEnum s e).net.enumSeen = s.net.enumSeen ∧ (passEnum s e).net.enumMb = s.net.enumMb := by
  obtain ⟨n, dest, tspec, payload, hsent⟩ := passEnum_cases s e
  rw [hsent]
  exact ⟨by simp, (sendPortNew_seenKept _ _ _ _ _ _).1, (sendPortNew_roundKept _ _ _ _ _ _).2⟩

/-- The round of an ENUM noted as acted on. -/
def enumNoted (s : State) (e : EnumBody) : State := { s with net := { s.net with enumSeen := some e.round } }

/-- A node without an assigned role takes the next address while one is left. -/
theorem takeEnum_effects (s : State) (e : EnumBody) : (takeEnum s e).net.enumSeen = some e.round
    ∧ (takeEnum s e).net.enumMb = s.net.enumMb
    ∧ (ringRole s ≠ 2 → e.next ≤ 511 →
      (takeEnum s e).reg TXLA.NODE.ADDR = e.next ∧ (takeEnum s e).flag TXLA.NODE.ADDR_VALID = true)
    ∧ (ringRole s = 2 ∨ 511 < e.next → (takeEnum s e).reg TXLA.NODE.ADDR = s.reg TXLA.NODE.ADDR) := by
  have hrole : ringRole (enumNoted s e) = ringRole s := rfl
  unfold takeEnum
  dsimp only
  split
  · next hassigned =>
    obtain ⟨hregs, hseen, hmb⟩ := passEnum_effects (enumNoted s e) { e with count := e.count + 1 }
    exact ⟨hseen, hmb, fun h => absurd (hrole.symm.trans hassigned) h, fun _ => reg_of_regs _ hregs⟩
  · next hfree =>
    split
    · next hnext =>
      obtain ⟨hregs, hseen, hmb⟩ :=
        passEnum_effects (takeAddress (enumNoted s e) e.next) { e with count := e.count + 1, next := e.next + 1 }
      refine ⟨hseen, hmb, fun _ _ => ⟨?_, ?_⟩, fun h => ?_⟩
      · exact (reg_of_regs _ hregs).trans (takeAddress_addr _ hnext)
      · exact (flag_of_regs _ hregs).trans (takeAddress_valid _ _)
      · rcases h with h | h
        · exact absurd h hfree
        · omega
    · next hlast =>
      obtain ⟨hregs, hseen, hmb⟩ := passEnum_effects (raiseEvent (enumNoted s e) 0x0A07 []) { e with count := e.count + 1 }
      exact ⟨hseen, hmb, fun _ h => absurd h hlast, fun _ => reg_of_regs _ hregs⟩

theorem finishEnum_of_none (h : s.net.enumMb = none) : finishEnum s = s := by
  unfold finishEnum
  rw [h]

theorem nopEnum_eq (hpkt : (s.port (portNo .a)).pkt = some (pkt, rx)) (htype : pkt.hdr.type = 0) (htspec : pkt.hdr.tspec = 1) :
    nopEnum .a s = if s.net.origin = some (leAt pkt.payload 0 2) then
        broadcastTopo (packetTaken s .a) { enumBody pkt.payload with ring := true }
      else if s.net.enumSeen = some (leAt pkt.payload 0 2) then packetTaken s .a
      else takeEnum (packetTaken s .a) (enumBody pkt.payload) := by
  unfold nopEnum
  rw [takePacket_of_type hpkt htype]
  exact if_neg (by simp [htspec])

theorem nopEnum_completes (hpkt : (s.port 0).pkt = some (pkt, rx)) (htype : pkt.hdr.type = 0) (htspec : pkt.hdr.tspec = 1)
    (hmb : s.net.enumMb = none) : Completes (.nopEnum .a) s fun t =>
      (s.net.origin = some (leAt pkt.payload 0 2) →
        t.reg TXLA.NODE.TOPO = 2 ∧ t.reg TXLA.NODE.NODES = leAt pkt.payload 4 2 % 1024 ∧ t.net.origin = none)
      ∧ (s.net.origin ≠ some (leAt pkt.payload 0 2) → s.net.enumSeen ≠ some (leAt pkt.payload 0 2) →
        t.net.enumSeen = some (leAt pkt.payload 0 2)
        ∧ (ringRole s ≠ 2 → leAt pkt.payload 2 2 ≤ 511 →
          t.reg TXLA.NODE.ADDR = leAt pkt.payload 2 2 ∧ t.flag TXLA.NODE.ADDR_VALID = true)
        ∧ (ringRole s = 2 ∨ 511 < leAt pkt.payload 2 2 → t.reg TXLA.NODE.ADDR = s.reg TXLA.NODE.ADDR)) := by
  have hrun : exec (.nopEnum .a) s = .next (finishEnum (nopEnum .a s)) := rfl
  rw [nopEnum_eq hpkt htype htspec] at hrun
  by_cases horigin : s.net.origin = some (leAt pkt.payload 0 2)
  · obtain ⟨hover, hkept⟩ := broadcastTopo_net (packetTaken s .a) { enumBody pkt.payload with ring := true }
    obtain ⟨htopo, hnodes⟩ := broadcastTopo_shown (packetTaken s .a) { enumBody pkt.payload with ring := true }
    rw [if_pos horigin, finishEnum_of_none (hkept.trans hmb)] at hrun
    exact completes_of hrun ⟨fun _ => ⟨htopo, hnodes, hover⟩, fun h => absurd horigin h⟩
  · rw [if_neg horigin] at hrun
    by_cases hseen : s.net.enumSeen = some (leAt pkt.payload 0 2)
    · rw [if_pos hseen, finishEnum_of_none (s := packetTaken s .a) hmb] at hrun
      exact completes_of hrun ⟨fun h => absurd h horigin, fun _ h => absurd hseen h⟩
    · obtain ⟨hnoted, hkept, htaken, hleft⟩ := takeEnum_effects (packetTaken s .a) (enumBody pkt.payload)
      rw [if_neg hseen, finishEnum_of_none (hkept.trans hmb)] at hrun
      exact completes_of hrun ⟨fun h => absurd h horigin, fun _ _ => ⟨hnoted, htaken, hleft⟩⟩

/-! ### ENUM_END, TOPO and SLEEP (R357, R372) -/

theorem nopEnumEnd_completes (hpkt : (s.port (portNo p)).pkt = some (pkt, rx)) (htype : pkt.hdr.type = 0)
    (htspec : pkt.hdr.tspec = 2) (horigin : s.net.origin = some (leAt pkt.payload 0 2)) (hmb : s.net.enumMb = none) :
    Completes (.nopEnumEnd p) s fun t => t.reg TXLA.NODE.TOPO = (if bit (leAt pkt.payload 8 2) 1 then 2 else 1)
      ∧ t.reg TXLA.NODE.NODES = leAt pkt.payload 4 2 % 1024 ∧ t.net.origin = none := by
  have hrun : exec (.nopEnumEnd p) s = .next (finishEnum (nopEnumEnd p s)) := rfl
  obtain ⟨hover, hkept⟩ :=
    broadcastTopo_net (packetTaken s p) { enumBody pkt.payload with ring := (enumBody pkt.payload).isPartial }
  obtain ⟨htopo, hnodes⟩ :=
    broadcastTopo_shown (packetTaken s p) { enumBody pkt.payload with ring := (enumBody pkt.payload).isPartial }
  rw [nopEnumEnd_of_origin hpkt htype htspec horigin, roundEnded, finishEnum_of_none (hkept.trans hmb)] at hrun
  exact completes_of hrun ⟨htopo, hnodes, hover⟩

/-- TOPO recorded and sent on to the next node. -/
def topoPassed (s : State) (p : Port) (pkt : Packet) : State :=
  sendPortNew (recordTopo (packetTaken s p) (enumBody pkt.payload)) (1 - portNo p) 0 1023 3 pkt.payload

theorem nopTopo_run (hpkt : (s.port (portNo p)).pkt = some (pkt, rx)) (htype : pkt.hdr.type = 0) (htspec : pkt.hdr.tspec = 3) :
    exec (.nopTopo p) s = .next (if s.net.topoSeen = some (leAt pkt.payload 0 2) then packetTaken s p
      else topoPassed s p pkt) := by
  show execNopTopo p s = _
  unfold execNopTopo
  rw [takePacket_of_type hpkt htype]
  dsimp only
  by_cases hseen : s.net.topoSeen = some (leAt pkt.payload 0 2)
  · rw [if_pos (.inr hseen), if_pos hseen]
  · rw [if_neg (by rintro (h | h); exacts [h htspec, hseen h]), if_neg hseen]
    rfl

theorem nopTopo_completes (hpkt : (s.port (portNo p)).pkt = some (pkt, rx)) (htype : pkt.hdr.type = 0)
    (htspec : pkt.hdr.tspec = 3) : Completes (.nopTopo p) s fun t =>
      (s.net.topoSeen = some (leAt pkt.payload 0 2) → ∀ f, t.reg f = s.reg f)
      ∧ (s.net.topoSeen ≠ some (leAt pkt.payload 0 2) →
        t.reg TXLA.NODE.TOPO = (if bit (leAt pkt.payload 8 2) 0 then 2 else 1)
        ∧ t.reg TXLA.NODE.NODES = leAt pkt.payload 4 2 % 1024 ∧ t.net.topoSeen = some (leAt pkt.payload 0 2)) := by
  have hrun := nopTopo_run hpkt htype htspec
  by_cases hseen : s.net.topoSeen = some (leAt pkt.payload 0 2)
  · rw [if_pos hseen] at hrun
    exact completes_of hrun ⟨fun _ _ => rfl, fun h => absurd hseen h⟩
  · rw [if_neg hseen] at hrun
    obtain ⟨htopo, hnodes, hnoted⟩ := recordTopo_shown (packetTaken s p) (enumBody pkt.payload)
    have hregs : (topoPassed s p pkt).regs = (recordTopo (packetTaken s p) (enumBody pkt.payload)).regs := by
      simp [topoPassed]
    refine completes_of hrun ⟨fun h => absurd h hseen, fun _ => ⟨?_, ?_, ?_⟩⟩
    · exact (reg_of_regs _ hregs).trans htopo
    · exact (reg_of_regs _ hregs).trans hnodes
    · exact (sendPortNew_seenKept _ _ _ _ _ _).2.trans hnoted

theorem nopSleep_completes (hs : ShapeOk s) (hpkt : (s.port (portNo p)).pkt = some (pkt, rx)) (htype : pkt.hdr.type = 0)
    (htspec : pkt.hdr.tspec = 4) :
    Completes (.nopSleep p) s fun t => (t.port (portNo p)).sleepRx = true ∧ (t.port (portNo p)).pkt = none := by
  have hrun : exec (.nopSleep p) s
      = .next ((packetTaken s p).setPort (portNo p) (fun x => { x with sleepRx := true })) := by
    show execNopSleep p s = _
    unfold execNopSleep
    rw [takePacket_of_type hpkt htype]
    exact congrArg Host.Outcome.next (if_pos htspec)
  have hp := portNo_lt_ports hs p
  have htaken : ((packetTaken s p).port (portNo p)).pkt = none := congrArg PortSt.pkt (port_setPort_self hp _)
  have hp' : portNo p < (packetTaken s p).net.ports.length := (length_ports_setPort s _ _).symm ▸ hp
  refine completes_of hrun ?_
  rw [port_setPort_self hp']
  exact ⟨rfl, htaken⟩

end

/-- Settles O36, packet type by packet type. -/
theorem consumedPackets : Obligations.ConsumedPackets := by
  unfold Obligations.ConsumedPackets
  exact ⟨fun s p pkt rx _ hpkt htype => vrowPacket_completes hpkt htype,
    fun s p pkt rx _ hpkt htype => objPacket_completes hpkt htype,
    fun s pkt rx _ hpkt htype htspec hmb => nopEnum_completes hpkt htype htspec hmb,
    fun s p pkt rx _ hpkt htype htspec horigin hmb => nopEnumEnd_completes hpkt htype htspec horigin hmb,
    fun s p pkt rx _ hpkt htype htspec => nopTopo_completes hpkt htype htspec,
    fun s p pkt rx hs hpkt htype htspec => nopSleep_completes hs hpkt htype htspec⟩

end Sys2Proof.Machine.ConsumedPackets
end

section
/-! PROOF. LampTimeSync: lamp-time synchronization (10_tatex_link.md R340, R358, R361 to R365). -/

namespace Sys2Proof.Machine.LampTimeSync

open FrameTiming (flag_raiseEvent)
open EnumerationMail (packetTaken)
open ConsumedPackets (takePacket_of_type)
open TatexPorts

/-! ### SYNC_TIMER (R361) -/

/-- A SYNC_REQ handed to a port leaves the number of ports and the other port. -/
theorem sendSync_ports (s : State) (n : Nat) : (sendSync s n).net.ports.length = s.net.ports.length
    ∧ ∀ m, n ≠ m → (sendSync s n).port m = s.port m := by
  unfold sendSync
  split
  · obtain ⟨hlength, hother⟩ := sendOn_ports (newPacket s 7 1023 0 []).1 n
      { (newPacket s 7 1023 0 []).2 with hdr := monMark (newPacket s 7 1023 0 []).1 n (newPacket s 7 1023 0 []).2.hdr }
    exact ⟨(length_ports_setPort _ _ _).trans hlength, fun m hm => (port_setPort_ne hm _ _).trans (hother m hm)⟩
  · exact ⟨rfl, fun _ _ => rfl⟩

theorem sendSync_of_down {s : State} {n : Nat} (h : portUp s n = false) : sendSync s n = s := if_neg (by simp [h])

theorem sendSync_request {s : State} {n : Nat} (hn : n < s.net.ports.length) (hup : portUp s n = true) :
    ((sendSync s n).port n).request
      = if fwdBusy s n || localBusy s n then none else some (stamp s s.now, s.net.seq) := by
  have hports : n < (sendPortNew s n 7 1023 0 []).net.ports.length := (length_ports_sendPortNew s n 7 1023 0 []).symm ▸ hn
  unfold sendSync
  rw [if_pos hup, port_setPort_self hports]
  cases fwdBusy s n || localBusy s n
  · rfl
  · rfl

theorem syncTimer_completes {s : State} (hs : ShapeOk s) : Completes .syncTimer s fun t =>
    (portUp s 0 = true → (t.port 0).request
      = if fwdBusy s 0 || localBusy s 0 then none else some (stamp s s.now, s.net.seq))
    ∧ (portUp s 0 = false → portUp s 1 = true → (t.port 1).request
      = if fwdBusy s 1 || localBusy s 1 then none else some (stamp s s.now, s.net.seq))
    ∧ t.lt = s.lt := by
  refine completes_of (t := sendSync (sendSync s 0) 1) rfl ⟨fun hup => ?_, fun hdown hup => ?_, by simp⟩
  · rw [(sendSync_ports _ 1).2 0 (by decide)]
    exact sendSync_request (portNo_lt_ports hs .a) hup
  · rw [sendSync_of_down hdown]
    exact sendSync_request (portNo_lt_ports hs .b) hup

/-! ### SYNC_REQ (R361) -/

section
variable {s : State} {p : Port} {pkt : Packet} {rx : Nat}

/-- Of its ports, taking a packet changes the one that held it, and there the packet alone. -/
theorem port_packetTaken (hs : ShapeOk s) (m : Nat) :
    (packetTaken s p).port m = { s.port m with pkt := ((packetTaken s p).port m).pkt } := by
  by_cases hm : portNo p = m
  · subst hm
    unfold packetTaken
    rw [port_setPort_self (portNo_lt_ports hs p)]
  · unfold packetTaken
    rw [port_setPort_ne hm]

theorem fwdBusy_packetTaken (hs : ShapeOk s) (n : Nat) : fwdBusy (packetTaken s p) n = fwdBusy s n := by
  unfold fwdBusy
  rw [port_packetTaken hs n, List.any_cons, List.any_cons, port_packetTaken hs 0, port_packetTaken hs 1]
  rfl

theorem localBusy_packetTaken (hs : ShapeOk s) (n : Nat) : localBusy (packetTaken s p) n = localBusy s n := by
  unfold localBusy
  rw [port_packetTaken hs n]
  rfl

/-- A packet with a free wire is sent at once. -/
theorem sendPortNew_sending {n : Nat} (hn : n < s.net.ports.length) (hup : portUp s n = true) (hfwd : fwdBusy s n = false)
    (hlocal : localBusy s n = false) (type dest tspec : Nat) (payload : List Byte) :
    ∃ x, ((sendPortNew s n type dest tspec payload).port n).sending = some x ∧ x.pkt.hdr.type = type
      ∧ x.pkt.payload = payload := by
  have hbusy : (fwdBusy s n || localBusy s n) = false := by rw [hfwd, hlocal]; rfl
  have hsent : sendPortNew s n type dest tspec payload = (newPacket s type dest tspec payload).1.setPort n (fun y =>
      { y with sending := some { pkt := { (newPacket s type dest tspec payload).2 with
                                          hdr := monMark (newPacket s type dest tspec payload).1 n
                                            (newPacket s type dest tspec payload).2.hdr },
                                 start := s.now, stomps := 0 } }) :=
    (if_pos hup).trans (if_neg (fun h => absurd (hbusy.symm.trans h) (by decide)))
  have hports : n < (newPacket s type dest tspec payload).1.net.ports.length := hn
  rw [hsent, port_setPort_self hports]
  exact ⟨_, rfl, rfl, rfl⟩

/-- The payload of SYNC_ACK. -/
def syncAckBytes (seq stratum t2 t3 : Nat) : List Byte :=
  toLe 2 seq ++ toLe 2 stratum ++ [0, 0, 0, 0] ++ toLe 8 t2 ++ toLe 8 t3

theorem leAt_syncAckBytes (seq stratum t2 t3 : Nat) : leAt (syncAckBytes seq stratum t2 t3) 0 2 = seq % 2 ^ 16
    ∧ leAt (syncAckBytes seq stratum t2 t3) 8 8 = t2 % 2 ^ 64
    ∧ leAt (syncAckBytes seq stratum t2 t3) 0x10 8 = t3 % 2 ^ 64 := by
  have hseq := KernelMail.leAt_middle [] (toLe 2 stratum ++ [0, 0, 0, 0] ++ toLe 8 t2 ++ toLe 8 t3) 2 seq
  have ht2 := KernelMail.leAt_middle (toLe 2 seq ++ toLe 2 stratum ++ [0, 0, 0, 0]) (toLe 8 t3) 8 t2
  have ht3 := KernelMail.leAt_middle (toLe 2 seq ++ toLe 2 stratum ++ [0, 0, 0, 0] ++ toLe 8 t2) [] 8 t3
  simp only [List.length_append, length_toLe, List.length_cons, List.length_nil, List.append_assoc, List.nil_append,
    List.append_nil] at hseq ht2 ht3
  simp only [syncAckBytes, List.append_assoc]
  exact ⟨hseq, ht2, ht3⟩

theorem syncReqPacket_completes (hs : ShapeOk s) (hpkt : (s.port (portNo p)).pkt = some (pkt, rx)) (htype : pkt.hdr.type = 7)
    (hup : portUp s (portNo p) = true) (hfwd : fwdBusy s (portNo p) = false) (hlocal : localBusy s (portNo p) = false) :
    Completes (.syncReqPacket p) s fun t =>
    ∃ x, (t.port (portNo p)).sending = some x ∧ x.pkt.hdr.type = 8 ∧ leAt x.pkt.payload 0 2 = pkt.hdr.seq.toNat
      ∧ leAt x.pkt.payload 8 8 = stamp s rx % 2 ^ 64 ∧ leAt x.pkt.payload 0x10 8 = stamp s s.now % 2 ^ 64 := by
  have hrun : exec (.syncReqPacket p) s = .next (sendPortNew (packetTaken s p) (portNo p) 8 1023 0
      (syncAckBytes pkt.hdr.seq.toNat (ownStratum (packetTaken s p)) (stamp s rx) (stamp s s.now))) := by
    show execSyncReqPacket p s = _
    unfold execSyncReqPacket
    rw [takePacket_of_type hpkt htype]
    rfl
  have hp : portNo p < (packetTaken s p).net.ports.length := (length_ports_setPort s _ _).symm ▸ portNo_lt_ports hs p
  obtain ⟨x, hsending, hanswer, hpayload⟩ := sendPortNew_sending hp hup ((fwdBusy_packetTaken hs _).trans hfwd)
    ((localBusy_packetTaken hs _).trans hlocal) 8 1023 0
    (syncAckBytes pkt.hdr.seq.toNat (ownStratum (packetTaken s p)) (stamp s rx) (stamp s s.now))
  obtain ⟨hseq, ht2, ht3⟩ :=
    leAt_syncAckBytes pkt.hdr.seq.toNat (ownStratum (packetTaken s p)) (stamp s rx) (stamp s s.now)
  refine completes_of hrun ⟨x, hsending, hanswer, ?_⟩
  rw [hpayload]
  exact ⟨hseq.trans (Nat.mod_eq_of_lt pkt.hdr.seq.isLt), ht2, ht3⟩

end

/-! ### The correction of lamp time (R363, R364) -/

section
variable {s : State} {n : Nat} {theta : Int}

/-- The exchange counted. -/
def exchangeCounted (s : State) : State := { s with net := { s.net with exchanges := s.net.exchanges + 1 } }

/-- The first step of an unsynchronized node. -/
theorem correct_of_first (hsynced : s.synced = false) (hstepped : s.net.stepped = false) :
    (correct s n theta).lt = BitVec.ofInt 64 (((s.lt.toNat * 256 + s.net.frac : Nat) + theta) / 256)
    ∧ (correct s n theta).net.stepped = true := by
  unfold correct
  dsimp only
  rw [if_pos ⟨hsynced, hstepped⟩]
  exact ⟨rfl, rfl⟩

/-- A small median is slewed. -/
theorem correct_of_small (hsynced : s.synced = true) (hsmall : (medianInt (s.port n).thetas).natAbs ≤ 4096 * 256) :
    (correct s n theta).lt = s.lt ∧ (correct s n theta).net.slew = medianInt (s.port n).thetas := by
  have hbig : ¬ 4096 * 256 < (medianInt (s.port n).thetas).natAbs := by omega
  unfold correct
  dsimp only
  rw [if_neg (by simp [hsynced]), if_neg (fun h => hbig h.1), if_neg hbig, if_neg (by simp [hsynced])]
  exact ⟨rfl, rfl⟩

/-- The request of a port and the stratum that its partner reported. -/
def RoundTripKept (n : Nat) (s t : State) : Prop :=
  (t.port n).request = (s.port n).request ∧ (t.port n).stratum = (s.port n).stratum

/-- A step clears the values of theta and nothing else of the port. -/
theorem stepped_roundTripKept (hn : n < s.net.ports.length) (d : Int) :
    RoundTripKept n s ((moveLt s d).setPort n (fun x => { x with thetas := [] })) := by
  have hmoved : n < (moveLt s d).net.ports.length := hn
  unfold RoundTripKept
  rw [port_setPort_self hmoved]
  exact ⟨rfl, rfl⟩

theorem correct_roundTripKept (hn : n < s.net.ports.length) : RoundTripKept n s (correct s n theta) := by
  unfold correct
  dsimp only
  split
  · exact stepped_roundTripKept (s := exchangeCounted s) hn theta
  · split
    · split
      · exact stepped_roundTripKept (s := exchangeCounted s) hn (medianInt (s.port n).thetas)
      · split
        · exact ⟨rfl, rfl⟩
        · exact ⟨rfl, rfl⟩
    · next hsmall =>
      split
      · next hstep => exact absurd hstep.1 hsmall
      · split
        · exact ⟨rfl, rfl⟩
        · exact ⟨rfl, rfl⟩

end

/-! ### SYNC_ACK (R361, R362) -/

section
variable {s : State} {p : Port} {pkt : Packet} {rx t1 seq : Nat} {t4 : BitVec 64}

/-- The exchange ended and the delay shown. -/
def exchangeEnded (s : State) (p : Port) (t1 : Nat) (t4 : BitVec 64) (pkt : Packet) : State :=
  ((packetTaken s p).setPort (portNo p) (fun x =>
    { x with request := none, stratum := leAt pkt.payload 2 2 % 1024,
             thetas := (thetaOf s (portNo p) t1 pkt.payload t4 :: x.thetas).take 8 })).setReg (TX.DELAY.DELAY (portNo p))
    (toBits 24 ((diff64 (leAt pkt.payload 8 8) t1 + diff64 t4.toNat (leAt pkt.payload 0x10 8)) / 2))

/-- The sync port chosen after the exchange. -/
def portChosen (s : State) (p : Port) (t1 : Nat) (t4 : BitVec 64) (pkt : Packet) : State :=
  chooseSync (exchangeEnded s p t1 t4 pkt)

/-- The exchange corrects lamp time: on the sync port, at a node that is not the root, from a partner with a stratum. -/
def Corrects (s : State) (p : Port) (t1 : Nat) (t4 : BitVec 64) (pkt : Packet) : Prop :=
  (portChosen s p t1 t4 pkt).reg TXLA.SYNC_STATUS.SYNC_PORT = portNo p ∧ ringRole s ≠ 1
    ∧ leAt pkt.payload 2 2 % 1024 ≠ 0x3FF

theorem port_exchangeEnded (hs : ShapeOk s) (t1 : Nat) (t4 : BitVec 64) (pkt : Packet) :
    ((exchangeEnded s p t1 t4 pkt).port (portNo p)).request = none
    ∧ ((exchangeEnded s p t1 t4 pkt).port (portNo p)).stratum = leAt pkt.payload 2 2 % 1024
    ∧ ((exchangeEnded s p t1 t4 pkt).port (portNo p)).thetas
      = (thetaOf s (portNo p) t1 pkt.payload t4 :: (s.port (portNo p)).thetas).take 8 := by
  have hp : portNo p < (packetTaken s p).net.ports.length := (length_ports_setPort s _ _).symm ▸ portNo_lt_ports hs p
  unfold exchangeEnded
  rw [port_setReg, port_setPort_self hp, port_packetTaken hs]
  exact ⟨rfl, rfl, rfl⟩

theorem port_portChosen (t1 : Nat) (t4 : BitVec 64) (pkt : Packet) (n : Nat) :
    (portChosen s p t1 t4 pkt).port n = (exchangeEnded s p t1 t4 pkt).port n :=
  port_of_net (by simp [portChosen]) n

theorem delay_portChosen (t1 : Nat) (t4 : BitVec 64) (pkt : Packet) :
    (portChosen s p t1 t4 pkt).reg (TX.DELAY.DELAY (portNo p))
      = toBits 24 ((diff64 (leAt pkt.payload 8 8) t1 + diff64 t4.toNat (leAt pkt.payload 0x10 8)) / 2) := by
  refine (reg_eq_of_word (chooseSync_word (outside_of (by cases p <;> decide)) _)).trans ?_
  refine FrameTiming.reg_setReg_of_lt _ _ _ (by show 24 ≤ 32; decide) ?_
  show toBits 24 _ < 2 ^ 24
  unfold toBits
  omega

/-- The exchange ended, with the correction it may bring. -/
def exchangeDone (s : State) (p : Port) (t1 : Nat) (t4 : BitVec 64) (pkt : Packet) : State :=
  if (portChosen s p t1 t4 pkt).reg TXLA.SYNC_STATUS.SYNC_PORT = portNo p ∧ ringRole s ≠ 1
      ∧ ((portChosen s p t1 t4 pkt).port (portNo p)).stratum ≠ 0x3FF then
    correct (portChosen s p t1 t4 pkt) (portNo p) (thetaOf s (portNo p) t1 pkt.payload t4)
  else portChosen s p t1 t4 pkt

theorem syncAckPacket_run (hs : ShapeOk s) (hpkt : (s.port (portNo p)).pkt = some (pkt, rx)) (htype : pkt.hdr.type = 8)
    (hreq : (s.port (portNo p)).request = some (t1, seq)) : exec (.syncAckPacket p t4) s
      = .next (if leAt pkt.payload 0 2 ≠ seq then packetTaken s p else exchangeDone s p t1 t4 pkt) := by
  have htaken : ((packetTaken s p).port (portNo p)).request = some (t1, seq) := by rw [port_packetTaken hs, hreq]
  show execSyncAckPacket p t4 s = _
  unfold execSyncAckPacket
  dsimp only
  rw [takePacket_of_type hpkt htype]
  dsimp only
  rw [htaken]
  dsimp only
  split
  · rfl
  · rfl

theorem exchangeDone_of_corrects (hs : ShapeOk s) (h : Corrects s p t1 t4 pkt) : exchangeDone s p t1 t4 pkt
    = correct (portChosen s p t1 t4 pkt) (portNo p) (thetaOf s (portNo p) t1 pkt.payload t4) := by
  obtain ⟨hport, hrole, hstratum⟩ := h
  obtain ⟨-, hreported, -⟩ := port_exchangeEnded (p := p) hs t1 t4 pkt
  refine if_pos ⟨hport, hrole, ?_⟩
  rwa [port_portChosen, hreported]

theorem exchangeDone_of_not_corrects (hs : ShapeOk s) (h : ¬ Corrects s p t1 t4 pkt) :
    exchangeDone s p t1 t4 pkt = portChosen s p t1 t4 pkt := by
  obtain ⟨-, hreported, -⟩ := port_exchangeEnded (p := p) hs t1 t4 pkt
  refine if_neg ?_
  rintro ⟨hport, hrole, hstratum⟩
  rw [port_portChosen, hreported] at hstratum
  exact h ⟨hport, hrole, hstratum⟩

/-- A correction leaves what the exchange shows. -/
theorem exchangeDone_reg {f : Field} (hf : Outside correctRegs (fieldKey f)) :
    (exchangeDone s p t1 t4 pkt).reg f = (portChosen s p t1 t4 pkt).reg f := by
  unfold exchangeDone
  split
  · exact reg_eq_of_word (correct_word hf _ _ _)
  · rfl

theorem exchangeDone_roundTripKept (hs : ShapeOk s) :
    RoundTripKept (portNo p) (portChosen s p t1 t4 pkt) (exchangeDone s p t1 t4 pkt) := by
  have hp : portNo p < (portChosen s p t1 t4 pkt).net.ports.length := by
    simpa [portChosen, exchangeEnded, packetTaken] using portNo_lt_ports hs p
  unfold exchangeDone
  split
  · exact correct_roundTripKept hp
  · exact ⟨rfl, rfl⟩

theorem exchangeDone_port (hs : ShapeOk s) (t1 : Nat) (t4 : BitVec 64) (pkt : Packet) :
    ((exchangeDone s p t1 t4 pkt).port (portNo p)).request = none
    ∧ ((exchangeDone s p t1 t4 pkt).port (portNo p)).stratum = leAt pkt.payload 2 2 % 1024 := by
  obtain ⟨hrequest, hstratum⟩ := exchangeDone_roundTripKept (p := p) (t1 := t1) (t4 := t4) (pkt := pkt) hs
  obtain ⟨hnone, hshown, -⟩ := port_exchangeEnded (p := p) hs t1 t4 pkt
  rw [port_portChosen] at hrequest hstratum
  exact ⟨hrequest.trans hnone, hstratum.trans hshown⟩

theorem setPort_clock (s : State) (n : Nat) (f : PortSt → PortSt) :
    (s.setPort n f).net.frac = s.net.frac ∧ (s.setPort n f).net.stepped = s.net.stepped := ⟨rfl, rfl⟩

/-- An exchange alone leaves the clock that its correction moves. -/
theorem portChosen_clock (t1 : Nat) (t4 : BitVec 64) (pkt : Packet) : (portChosen s p t1 t4 pkt).net.frac = s.net.frac
    ∧ (portChosen s p t1 t4 pkt).net.stepped = s.net.stepped ∧ (portChosen s p t1 t4 pkt).synced = s.synced := by
  simp [portChosen, exchangeEnded, packetTaken, setPort_clock]

theorem lt_portChosen (t1 : Nat) (t4 : BitVec 64) (pkt : Packet) : (portChosen s p t1 t4 pkt).lt = s.lt := by
  simp [portChosen, exchangeEnded, packetTaken]

theorem exchangeDone_of_first (hs : ShapeOk s) (hc : Corrects s p t1 t4 pkt) (hsynced : s.synced = false)
    (hstepped : s.net.stepped = false) : (exchangeDone s p t1 t4 pkt).lt
      = BitVec.ofInt 64 (((s.lt.toNat * 256 + s.net.frac : Nat) + thetaOf s (portNo p) t1 pkt.payload t4) / 256)
    ∧ (exchangeDone s p t1 t4 pkt).net.stepped = true := by
  obtain ⟨hfrac, hsteps, hsyncs⟩ := portChosen_clock (s := s) (p := p) t1 t4 pkt
  obtain ⟨hlt, hnow⟩ := correct_of_first (n := portNo p) (theta := thetaOf s (portNo p) t1 pkt.payload t4)
    (hsyncs.trans hsynced) (hsteps.trans hstepped)
  rw [lt_portChosen, hfrac] at hlt
  rw [exchangeDone_of_corrects hs hc]
  exact ⟨hlt, hnow⟩

theorem exchangeDone_of_small (hs : ShapeOk s) (hc : Corrects s p t1 t4 pkt) (hsynced : s.synced = true)
    (hsmall : (medianInt ((thetaOf s (portNo p) t1 pkt.payload t4 :: (s.port (portNo p)).thetas).take 8)).natAbs
      ≤ 4096 * 256) : (exchangeDone s p t1 t4 pkt).lt = s.lt ∧ (exchangeDone s p t1 t4 pkt).net.slew
      = medianInt ((thetaOf s (portNo p) t1 pkt.payload t4 :: (s.port (portNo p)).thetas).take 8) := by
  have hthetas : ((portChosen s p t1 t4 pkt).port (portNo p)).thetas
      = (thetaOf s (portNo p) t1 pkt.payload t4 :: (s.port (portNo p)).thetas).take 8 := by
    obtain ⟨-, -, hkept⟩ := port_exchangeEnded (p := p) hs t1 t4 pkt
    rw [port_portChosen, hkept]
  obtain ⟨-, -, hsyncs⟩ := portChosen_clock (s := s) (p := p) t1 t4 pkt
  rw [← hthetas] at hsmall ⊢
  rw [exchangeDone_of_corrects hs hc]
  obtain ⟨hlt, hslew⟩ := correct_of_small (theta := thetaOf s (portNo p) t1 pkt.payload t4)
    (hsyncs.trans hsynced) hsmall
  exact ⟨hlt.trans (lt_portChosen t1 t4 pkt), hslew⟩

theorem syncAckPacket_completes (hs : ShapeOk s) (hpkt : (s.port (portNo p)).pkt = some (pkt, rx)) (htype : pkt.hdr.type = 8)
    (hreq : (s.port (portNo p)).request = some (t1, seq)) : Completes (.syncAckPacket p t4) s fun t =>
    (leAt pkt.payload 0 2 ≠ seq → (t.port (portNo p)).request = some (t1, seq) ∧ t.lt = s.lt)
    ∧ (leAt pkt.payload 0 2 = seq →
      (t.port (portNo p)).request = none ∧ (t.port (portNo p)).stratum = leAt pkt.payload 2 2 % 1024
      ∧ t.reg (TX.DELAY.DELAY (portNo p))
        = toBits 24 ((diff64 (leAt pkt.payload 8 8) t1 + diff64 t4.toNat (leAt pkt.payload 0x10 8)) / 2)
      ∧ (t.reg TXLA.SYNC_STATUS.SYNC_PORT ≠ portNo p ∨ ringRole s = 1 ∨ leAt pkt.payload 2 2 % 1024 = 0x3FF → t.lt = s.lt)
      ∧ (t.reg TXLA.SYNC_STATUS.SYNC_PORT = portNo p → ringRole s ≠ 1 → leAt pkt.payload 2 2 % 1024 ≠ 0x3FF →
          s.synced = false → s.net.stepped = false →
        t.lt = BitVec.ofInt 64 (((s.lt.toNat * 256 + s.net.frac : Nat) + thetaOf s (portNo p) t1 pkt.payload t4) / 256)
        ∧ t.net.stepped = true)
      ∧ (t.reg TXLA.SYNC_STATUS.SYNC_PORT = portNo p → ringRole s ≠ 1 → leAt pkt.payload 2 2 % 1024 ≠ 0x3FF → s.synced = true →
          (medianInt ((thetaOf s (portNo p) t1 pkt.payload t4 :: (s.port (portNo p)).thetas).take 8)).natAbs ≤ 4096 * 256 →
        t.lt = s.lt
        ∧ t.net.slew = medianInt ((thetaOf s (portNo p) t1 pkt.payload t4 :: (s.port (portNo p)).thetas).take 8))) := by
  have hrun := syncAckPacket_run (t4 := t4) hs hpkt htype hreq
  by_cases hseq : leAt pkt.payload 0 2 = seq
  · rw [if_neg (not_not.mpr hseq)] at hrun
    have hsync : (exchangeDone s p t1 t4 pkt).reg TXLA.SYNC_STATUS.SYNC_PORT
        = (portChosen s p t1 t4 pkt).reg TXLA.SYNC_STATUS.SYNC_PORT := exchangeDone_reg (outside_of (by decide))
    obtain ⟨hnone, hstratum⟩ := exchangeDone_port (p := p) hs t1 t4 pkt
    refine completes_of hrun ⟨fun h => absurd hseq h, fun _ => ⟨hnone, hstratum, ?_, fun hno => ?_,
      fun hport hrole hst => exchangeDone_of_first hs ⟨hsync ▸ hport, hrole, hst⟩,
      fun hport hrole hst => exchangeDone_of_small hs ⟨hsync ▸ hport, hrole, hst⟩⟩⟩
    · exact (exchangeDone_reg (outside_of (by cases p <;> decide))).trans (delay_portChosen t1 t4 pkt)
    · rw [exchangeDone_of_not_corrects hs, lt_portChosen]
      rintro ⟨hport, hrole, hst⟩
      rcases hno with h | h | h
      · exact h (hsync.trans hport)
      · exact hrole h
      · exact hst h
  · rw [if_pos hseq] at hrun
    refine completes_of hrun ⟨fun _ => ⟨?_, rfl⟩, fun h => absurd h hseq⟩
    rw [port_packetTaken hs, hreq]

/-! ### The end of an exchange, TIME sets and the wrap (R340, R358, R365) -/

theorem syncAckTimeout_completes (hs : ShapeOk s) :
    Completes (.syncAckTimeout p) s fun t => (t.port (portNo p)).request = none := by
  refine completes_of rfl ?_
  rw [port_setPort_self (portNo_lt_ports hs p)]

end

/-- A TIME set noted as sent at an up port. -/
def timeNoted (s : State) (n : Nat) : State :=
  if portUp s n then s.setPort n (fun x => { x with timeSent := some s.now }) else s

theorem timeNoted_self {s : State} {n : Nat} (hn : n < s.net.ports.length) :
    ((timeNoted s n).port n).timeSent = if portUp s n then some s.now else (s.port n).timeSent := by
  unfold timeNoted
  split
  · rw [port_setPort_self hn]
  · rfl

theorem timeNoted_other {m n : Nat} (h : m ≠ n) (s : State) : (timeNoted s m).port n = s.port n := by
  unfold timeNoted
  split
  · exact port_setPort_ne h _ _
  · rfl

/-- The notes of one port leave what the other one's rest on. -/
theorem timeNoted_keep (s : State) (m : Nat) : (timeNoted s m).net.ports.length = s.net.ports.length
    ∧ (timeNoted s m).now = s.now ∧ ∀ n, portUp (timeNoted s m) n = portUp s n := by
  unfold timeNoted
  split
  · exact ⟨length_ports_setPort _ _ _, rfl, fun _ => rfl⟩
  · exact ⟨rfl, rfl, fun _ => rfl⟩

theorem timeSetSend_completes {s : State} (hs : ShapeOk s) : Completes .timeSetSend s fun t =>
    ∀ p, p < 2 → (t.port p).timeSent = if portUp s p then some s.now else (s.port p).timeSent := by
  have hrun : exec .timeSetSend s = .next (timeNoted (timeNoted s 0) 1) := rfl
  have hlength : s.net.ports.length = 2 := hs.2.1
  obtain ⟨hkept, hnow, hup⟩ := timeNoted_keep s 0
  refine completes_of hrun fun p hp => ?_
  obtain rfl | rfl : p = 0 ∨ p = 1 := by omega
  · rw [timeNoted_other (by decide), timeNoted_self (by omega)]
  · rw [timeNoted_self (by omega), hup, hnow, timeNoted_other (by decide)]

section
variable {s : State} {p : Port} {lt : LampTime} {d : Int}

/-- The runs of divergence after a TIME set that differs by `d`. -/
def runsAfter (s : State) (d : Int) : Nat := if 8 * 256 < d.natAbs then s.net.divergeRuns + 1 else 0

/-- The runs of divergence noted. -/
def divergeNoted (s : State) (d : Int) : State := { s with net := { s.net with divergeRuns := runsAfter s d } }

/-- The divergence shown and told, and the fault of the source 63 it raises. -/
def divergeTold (s : State) (d : Int) : State :=
  raiseEvent ((divergeNoted s d).setFlag TXLA.SYNC_STATUS.LT_DIVERGE true) 0x0A09 (toLe 4 (toBits 32 (d.tdiv 256)))

theorem timeSetReceived_run (hup : portUp s (portNo p) = true) (hport : s.reg TXLA.SYNC_STATUS.SYNC_PORT = portNo p)
    (hd : d = diff64 (lt.toNat * 256 + s.reg (TX.DELAY.DELAY (portNo p))) (s.lt.toNat * 256 + s.net.frac)) :
    exec (.timeSetReceived p lt) s
      = .next (if runsAfter s d = 3 then raiseFault (divergeTold s d) 63 1 else divergeNoted s d) := by
  subst hd
  exact if_pos ⟨hup, hport⟩

theorem divergeTold_flag : (raiseFault (divergeTold s d) 63 1).flag TXLA.SYNC_STATUS.LT_DIVERGE = true := by
  have hreg := reg_raiseFault_corr (divergeTold s d) 63 (f := TXLA.SYNC_STATUS.LT_DIVERGE) (by decide)
  have hshown : (divergeTold s d).flag TXLA.SYNC_STATUS.LT_DIVERGE = true := by
    unfold divergeTold
    rw [flag_raiseEvent]
    exact flag_setFlag_self _ _ _ (by decide) (by decide)
  unfold State.flag at hshown ⊢
  rwa [hreg]

theorem divergeTold_runs : (raiseFault (divergeTold s d) 63 1).net.divergeRuns = runsAfter s d := by
  simp [divergeTold, divergeNoted]

theorem divergeTold_sourceKept : BlankPasses.SourceKept 63 s (divergeTold s d) := by
  refine ⟨?_, rfl⟩
  unfold divergeTold
  rw [reg_raiseEvent]
  exact reg_setFlag_ne _ _ _ _ (by decide)

theorem timeSetReceived_completes (hup : portUp s (portNo p) = true) (hport : s.reg TXLA.SYNC_STATUS.SYNC_PORT = portNo p)
    (hd : d = diff64 (lt.toNat * 256 + s.reg (TX.DELAY.DELAY (portNo p))) (s.lt.toNat * 256 + s.net.frac)) :
    Completes (.timeSetReceived p lt) s fun t =>
    t.net.divergeRuns = (if 8 * 256 < d.natAbs then s.net.divergeRuns + 1 else 0)
    ∧ (8 * 256 < d.natAbs → s.net.divergeRuns = 2 → t.flag TXLA.SYNC_STATUS.LT_DIVERGE = true ∧ Faulted s t 63 1)
    ∧ (d.natAbs ≤ 8 * 256 → t.flt = s.flt) := by
  have hrun := timeSetReceived_run hup hport hd
  by_cases hthird : runsAfter s d = 3
  · rw [if_pos hthird] at hrun
    refine completes_of hrun ⟨divergeTold_runs, fun _ _ => ⟨divergeTold_flag, ?_⟩, fun hsmall => ?_⟩
    · exact BlankPasses.faulted_before divergeTold_sourceKept (raiseFault_faulted _ _ _)
    · have hnone : runsAfter s d = 0 := if_neg (by omega)
      omega
  · rw [if_neg hthird] at hrun
    refine completes_of hrun ⟨rfl, fun hbig htwo => ?_, fun _ => rfl⟩
    have hruns : runsAfter s d = s.net.divergeRuns + 1 := if_pos hbig
    omega

theorem wrapEndTimer_completes (hs : ShapeOk s) (htoggling : (s.port 0).toggling = true) : Completes .wrapEndTimer s fun t =>
    (t.port 0).toggling = false ∧ t.flag (TX.STATUS.WRAP 0) = false ∧ Told s t [(0x0A05, toLe 1 0)] := by
  have hrun : exec .wrapEndTimer s = .next (raiseEvent ((s.setPort 0 (fun x => { x with toggling := false })).setFlag
      (TX.STATUS.WRAP 0) false) 0x0A05 (toLe 1 0)) := if_pos htoggling
  refine completes_of hrun ⟨?_, ?_, EngineBands.told_of_raiseEvent (reg_setFlag_ne _ _ _ _ (by decide)) rfl rfl _ _⟩
  · rw [port_raiseEvent, port_setFlag, port_setPort_self (n := 0) (portNo_lt_ports hs .a)]
  · rw [flag_raiseEvent]
    exact flag_setFlag_self _ _ _ (by decide) (by decide)

end

/-- Settles O37, command by command: an exchange of SYNC_REQ and SYNC_ACK, TIME sets and the wrap timer. -/
theorem lampTimeSync : Obligations.LampTimeSync := by
  unfold Obligations.LampTimeSync
  exact ⟨fun s hs => syncTimer_completes hs,
    fun s p pkt rx hs hpkt htype hup hfwd hlocal => syncReqPacket_completes hs hpkt htype hup hfwd hlocal,
    fun s p t4 pkt rx t1 seq hs hpkt htype hreq => syncAckPacket_completes hs hpkt htype hreq,
    fun s p hs => syncAckTimeout_completes hs, fun s hs => timeSetSend_completes hs,
    fun s p lt d hup hport hd => timeSetReceived_completes hup hport hd,
    fun s hs htoggling => wrapEndTimer_completes hs htoggling⟩

end Sys2Proof.Machine.LampTimeSync
end

section
/-! PROOF. PortFrames: what the commands of the side ports and of the auxiliary outputs leave unchanged (11_host_and_side_ports.md,
13_auxiliary_lighting.md). -/

namespace Sys2Proof.Machine.PortFrames

open EngineFrames (Changes setReg_changes setFlag_changes raiseEvent_changes)
open TatexFrames (raiseFault_changes)

/-! ### What the operations change -/

/-- The fields of a PMBus transaction (R66, R399). -/
def pmbusSet : List Field := entrySet ++ [CAL.VM_STATUS.PMBUS_ERR, CAL.VM_STATUS.VC_SET, SAFE.FB_CAUSE.FATAL,
  SCAN.VLED_STATUS.PMBUS_ERR, SCAN.VLED_STATUS.VLED_SET] ++ allOf 96 FLT.COUNT.COUNT

section
variable (s : State)

theorem setAux_changes (v : Aux) : Changes [.aux] [] s { s with aux := v } :=
  ⟨rfl, fun p hp => by cases p <;> simp [Part.Same] at hp ⊢, fun _ _ => rfl⟩

theorem auxTake_changes (o : Nat) : Changes [.aux] [] s (auxTake s o) := setAux_changes s _

theorem canSafe_changes (f : CanFrame) : Changes [.guard, .flt] canSafeRegs s (canSafe s f) :=
  ⟨by simp, fun p hp => by cases p <;> simp [Part.Same] at hp ⊢, fun _ hk => canSafe_word hk s f⟩

theorem canError_changes (k : CanErrorKind) :
    Changes [] [CAN.STATUS.REC, CAN.STATUS.STATE, CAN.STATUS.TEC] s (canError s k) :=
  ⟨by simp, fun p _ => by cases p <;> simp [Part.Same], fun _ hk => canError_word hk s k⟩

theorem wakeBy_changes (src : Nat) : Changes [.lt, .synced, .pwr, .boot, .flt] wakeByRegs s (wakeBy s src) :=
  ⟨by simp, fun p hp => by cases p <;> simp [Part.Same] at hp ⊢, fun _ hk => wakeBy_word hk s src⟩

theorem headroom_changes (flags : Nat) :
    Changes [.scan, .io] [SCAN.VLED_STATUS.AT_MAX, SCAN.VLED_STATUS.HR_FLAGS] s (headroom s flags) :=
  ⟨by simp, fun p hp => by cases p <;> simp [Part.Same] at hp ⊢, fun _ hk => headroom_word hk s flags⟩

theorem pmbus_changes (ack : Bool) (reply : Nat) : Changes [.scan, .io, .flt] pmbusSet s (pmbus s ack reply) := by
  have h : Changes [.scan, .io, .flt] pmbusRegs s (pmbus s ack reply) :=
    ⟨by simp, fun p hp => by cases p <;> simp [Part.Same] at hp ⊢, fun _ hk => pmbus_word hk s ack reply⟩
  exact h.mono (by decide) (by decide +kernel)

theorem iomuxApply_changes : Changes [.act] iomuxApplyRegs s (iomuxApply s) :=
  ⟨by simp, fun p hp => by cases p <;> simp [Part.Same] at hp ⊢, fun _ hk => iomuxApply_word hk s⟩

theorem respond_changes (mb status : Nat) (data : List Byte) :
    Changes [.net, .mbx, .aux, .flt] [] s (respond s mb status data) :=
  ⟨by simp, fun p hp => by cases p <;> simp [Part.Same] at hp ⊢, fun _ _ => by simp⟩

/-- A command of the auxiliary outputs that is accepted changes their state and answers. -/
theorem respond_setAux_changes (v : Aux) (mb : Nat) :
    Changes [.net, .mbx, .aux, .flt] [] s (respond { s with aux := v } mb 0 []) :=
  ((setAux_changes s v).trans (respond_changes _ mb 0 [])).mono (by decide) rfl

/-- A command with parameters of a wrong length answers BAD_LENGTH alone (R417). -/
theorem needLen_changes {t : State} (mb : Nat) (ok : Bool) (ht : Changes [.net, .mbx, .aux, .flt] [] s t) :
    Changes [.net, .mbx, .aux, .flt] [] s (needLen s mb ok t) :=
  Changes.ite (fun _ => ht) (fun _ => respond_changes s mb 3 [])

theorem command_changes {f : State → List Byte → State} (mb op : Nat)
    (hf : ∀ p, Changes [.net, .mbx, .aux, .flt] [] s (f s p)) :
    Changes [.net, .mbx, .aux, .flt] [] s (command s mb op f) :=
  Changes.ite (fun _ => hf _) (fun _ => Changes.refl _ _ _)

theorem auxSet_changes (mb : Nat) (p : List Byte) : Changes [.net, .mbx, .aux, .flt] [] s (auxSet mb s p) :=
  needLen_changes s mb _ (Changes.ite (fun _ => respond_changes s mb 4 []) (fun _ => respond_setAux_changes s _ mb))

theorem auxPattern_changes (mb : Nat) (p : List Byte) : Changes [.net, .mbx, .aux, .flt] [] s (auxPattern mb s p) :=
  needLen_changes s mb _ (Changes.ite (fun _ => respond_changes s mb 4 [])
    (fun _ => Changes.ite (fun _ => respond_changes s mb 7 []) (fun _ => respond_setAux_changes s _ mb)))

theorem auxGamma_changes (mb : Nat) (p : List Byte) : Changes [.net, .mbx, .aux, .flt] [] s (auxGamma mb s p) :=
  needLen_changes s mb _ (Changes.ite (fun _ => respond_changes s mb 4 []) (fun _ => respond_setAux_changes s _ mb))

theorem auxGate_changes (mb : Nat) (p : List Byte) : Changes [.net, .mbx, .aux, .flt] [] s (auxGate mb s p) :=
  needLen_changes s mb _ (Changes.ite (fun _ => respond_changes s mb 4 []) (fun _ => respond_setAux_changes s _ mb))

end

/-! ### What the commands change -/

section
variable {s t : State}

theorem busOffEntry_changes (h : execBusOffEntry s = .next t) : Changes [.scan, .flt] (entrySet ++ [CAN.STATUS.BUS_OFF,
    CAN.STATUS.STATE, SAFE.FB_CAUSE.FATAL] ++ allOf 96 FLT.COUNT.COUNT) s t := by
  cases h
  exact Changes.ite
    (fun _ => ((setReg_changes s CAN.STATUS.STATE 2).trans ((setFlag_changes _ CAN.STATUS.BUS_OFF true).trans
      ((raiseEvent_changes _ _ _).trans (raiseFault_changes _ 64 1)))).mono (by decide) (by decide +kernel))
    (fun _ => Changes.refl _ _ _)

theorem canBusError_changes {k : CanErrorKind} (h : execCanBusError k s = .next t) :
    Changes [] [CAN.STATUS.REC, CAN.STATUS.STATE, CAN.STATUS.TEC] s t := by
  cases h
  exact Changes.ite (fun _ => canError_changes s k) (fun _ => Changes.refl _ _ _)

theorem canBusOffRecovery_changes (h : execCanBusOffRecovery s = .next t) :
    Changes [] [CAN.STATUS.REC, CAN.STATUS.STATE, CAN.STATUS.TEC] s t := by
  cases h
  exact Changes.ite
    (fun _ => ((setReg_changes s CAN.STATUS.STATE 0).trans ((setReg_changes _ CAN.STATUS.TEC 0).trans
      (setReg_changes _ CAN.STATUS.REC 0))).mono (by decide) (by decide))
    (fun _ => Changes.refl _ _ _)

theorem wakePortWrite_changes {addr : BitVec 7} {data : Byte} (h : execWakePortWrite addr data s = .next t) :
    Changes [.lt, .synced, .pwr, .boot, .flt] (wakeSet ++ [PWR.STATE.WAKE_CODE]) s t := by
  cases h
  exact Changes.ite
    (fun _ => ((setReg_changes s PWR.STATE.WAKE_CODE (data.toNat % 16)).trans (wakeBy_changes _ 1)).mono (by decide)
      (by decide))
    (fun _ => Changes.refl _ _ _)

theorem pmbusTransaction_changes {ack : Bool} {reply : BitVec 16} (h : execPmbusTransaction ack reply s = .next t) :
    Changes [.scan, .io, .flt] pmbusSet s t := by
  cases h
  exact Changes.ite (fun _ => Changes.refl _ _ _) (fun _ => pmbus_changes s _ _)

theorem pmbusClockTimeout_changes (h : execPmbusClockTimeout s = .next t) : Changes [.scan, .io, .flt] pmbusSet s t := by
  cases h
  exact Changes.ite (fun _ => Changes.refl _ _ _) (fun _ => pmbus_changes s _ _)

theorem extEvtEdge_changes {pin : Nat} (h : execExtEvtEdge pin s = .next t) : Changes [.flt] [] s t := by
  cases h
  exact Changes.ite (fun _ => raiseEvent_changes s _ _) (fun _ => Changes.refl _ _ _)

theorem ltMark_changes (h : execLtMark s = .next t) : Changes [.pins] [] s t := by
  cases h
  exact Changes.ite (fun _ => Changes.refl _ _ _)
    (fun _ => ⟨rfl, fun p hp => by cases p <;> simp [Part.Same] at hp ⊢, fun _ _ => rfl⟩)

/-- The substitute current of either fault shows in the same word, beside the bit of the fault (R53). -/
theorem ifbSetFault_changes {f : IfbFault} (h : execIfbSetFault f s = .next t) : Changes [.scan, .flt] (entrySet ++
    [SAFE.FB_CAUSE.FATAL, SCAN.IFB_STATUS.IFB_NA, SCAN.IFB_STATUS.IFB_OPEN, SCAN.IFB_STATUS.IFB_SHORT] ++ allOf 96
    FLT.COUNT.COUNT) s t := by
  have hshown (b : Field) (v : Nat) := (setFlag_changes s b true).trans
    ((setReg_changes _ SCAN.IFB_STATUS.IFB_NA v).trans (raiseFault_changes _ 21 2))
  cases h
  cases f with
  | short => exact (hshown SCAN.IFB_STATUS.IFB_SHORT 16000).mono (by decide) (by decide +kernel)
  | openPad => exact (hshown SCAN.IFB_STATUS.IFB_OPEN 8000).mono (by decide) (by decide +kernel)

theorem auxFrameGrid_changes {p : Nat} (h : execAuxFrameGrid p s = .next t) : Changes [.aux] [] s t := by
  unfold execAuxFrameGrid at h
  split at h
  · cases h
    exact ((auxTake_changes s p).trans (setAux_changes _ _)).mono (by decide) rfl
  · cases h
    exact Changes.refl _ _ _

theorem auxGatePeriodStart_changes {n : Nat} (h : execAuxGatePeriodStart n s = .next t) : Changes [.aux] [] s t := by
  unfold execAuxGatePeriodStart at h
  split at h
  · cases h
    exact Changes.refl _ _ _
  · split at h
    · cases h
      exact ((auxTake_changes s (4 + n)).trans (setAux_changes _ _)).mono (by decide) rfl
    · cases h
      exact Changes.refl _ _ _

theorem auxEnSet_changes (h : execAuxEnSet s = .next t) : Changes [.aux] [AUX.CTRL.EN] s t := by
  cases h
  exact Changes.ite (fun _ => Changes.refl _ _ _)
    (fun _ => ((setFlag_changes s AUX.CTRL.EN true).trans (setAux_changes _ _)).mono (by decide) (by decide))

end

/-- Settles O13: the changes of each command of the side ports and of the auxiliary outputs lie within its row of the table. -/
theorem frameOfPortCommands : Obligations.FrameOfPortCommands := by
  unfold Obligations.FrameOfPortCommands
  intro i s t hchapter h
  cases i with
  | canSafeFrame f => cases h; exact ((canSafe_changes s f).mono (by decide) (by decide)).framed rfl
  | busOffEntry => exact (busOffEntry_changes h).framed rfl
  | canBusError k => exact (canBusError_changes h).framed rfl
  | canBusOffRecovery => exact (canBusOffRecovery_changes h).framed rfl
  | wakePortWrite addr data => exact (wakePortWrite_changes h).framed rfl
  | headroomLoop flags => cases h; exact (headroom_changes s flags).framed rfl
  | pmbusTransaction ack reply => exact (pmbusTransaction_changes h).framed rfl
  | pmbusClockTimeout => exact (pmbusClockTimeout_changes h).framed rfl
  | iomuxApply => cases h; exact ((iomuxApply_changes s).mono (by decide) (by decide)).framed rfl
  | extEvtEdge pin => exact (extEvtEdge_changes h).framed rfl
  | ltMark => exact (ltMark_changes h).framed rfl
  | ifbSetFault f => exact (ifbSetFault_changes h).framed rfl
  | auxSet mb => cases h; exact (command_changes s mb _ (auxSet_changes s mb)).framed rfl
  | auxPattern mb => cases h; exact (command_changes s mb _ (auxPattern_changes s mb)).framed rfl
  | auxGamma mb => cases h; exact (command_changes s mb _ (auxGamma_changes s mb)).framed rfl
  | auxGate mb => cases h; exact (command_changes s mb _ (auxGate_changes s mb)).framed rfl
  | auxFrameGrid p => exact (auxFrameGrid_changes h).framed rfl
  | auxGatePeriodStart n => exact (auxGatePeriodStart_changes h).framed rfl
  | auxEnSet => exact (auxEnSet_changes h).framed rfl
  | _ => simp [mayChange] at hchapter

end Sys2Proof.Machine.PortFrames
end

section
/-! PROOF. CanPort: CAN requests segment by segment, the error counts, bus-off and its recovery (11_host_and_side_ports.md R390,
R392; 12_mailbox_command_set.md R411, R412). -/

namespace Sys2Proof.Machine.CanPort

open FrameTiming (reg_setReg_of_lt)
open TatexPorts (reg_raiseEvent raiseFault_corr_jorosh reg_raiseFault_corr told_after bumpBy_counted counted_after)

/-! ### Mailbox 7 (R392, R411, R412) -/

theorem mb_setMb_self {s : State} {n : Nat} (hn : n < s.mbx.boxes.length) (f : Mb → Mb) : (s.setMb n f).mb n = f (s.mb n) := by
  simp [State.mb, State.setMb, List.getD_eq_getElem?_getD, hn]

/-- What a ring changes of mailbox `m` of state `s` (R412, R413). -/
def rung (s : State) (path src : Nat) (bcast : Bool) (last : Option (List Byte)) (m : Mb) : Mb :=
  { m with phase := .rung, path := path, src := src, bcast := bcast, rungAt := s.now, auth := none, last := last, resent := 0 }

/-- Of the mailboxes' state a ring changes the mailbox, the waiting rings and the dropped responses. -/
theorem ring_mbx (s : State) (n path src : Nat) (bcast : Bool) (last : Option (List Byte)) :
    (ring s n path src bcast last).mbx = { (s.setMb n (rung s path src bcast last)).mbx with
      rings := s.mbx.rings ++ [n], dropped := s.mbx.dropped.filter (· != n) } := by
  have hwake (u : State) : (wakeBy u 4).mbx = u.mbx := by simp
  unfold ring
  rw [hwake]
  rfl

/-- The complete request `b` in MB7, with no unfinished one left, before the ring (R392). -/
def requestPlaced (s : State) (b : List Byte) : State :=
  State.setMb { s with mbx := { s.mbx with canRx := none } } 7 (fun x => { x with req := padTo 256 b })

section
variable {s : State} {b : List Byte}

theorem canRequest_of_busy (hbusy : (s.mb 7).busy = true) :
    canRequest s b = canRespond { s with mbx := { s.mbx with canRx := none } } (rspBody (reqOp b) (reqTag b) 2 0 []) :=
  if_pos hbusy

theorem canRequest_of_free (hfree : (s.mb 7).busy = false) :
    canRequest s b = ring (requestPlaced s b) 7 2 0 false none :=
  if_neg (ne_true_of_eq_false hfree)

/-- The mailbox after its ring is that of the request, rung over CAN. -/
theorem canRequest_mb (hlen : s.mbx.boxes.length = 8) (hfree : (s.mb 7).busy = false) :
    (canRequest s b).mb 7 = rung (requestPlaced s b) 2 0 false none { s.mb 7 with req := padTo 256 b } := by
  have h7 : 7 < s.mbx.boxes.length := by omega
  have hplaced : (requestPlaced s b).mb 7 = { s.mb 7 with req := padTo 256 b } :=
    mb_setMb_self (s := { s with mbx := { s.mbx with canRx := none } }) h7 _
  have hstill : 7 < (requestPlaced s b).mbx.boxes.length := by simpa [requestPlaced, State.setMb] using h7
  rw [canRequest_of_free hfree, ← hplaced, ← mb_setMb_self hstill (rung (requestPlaced s b) 2 0 false none)]
  unfold State.mb
  rw [ring_mbx]

/-- A complete request leaves no unfinished one; MB7 is rung with it, or BUSY is answered and MB7 stays (R392, R412). -/
theorem canRequest_rings_or_answers (hlen : s.mbx.boxes.length = 8) :
    (canRequest s b).mbx.canRx = none
    ∧ ((s.mb 7).busy = true → (canRequest s b).mb 7 = s.mb 7
      ∧ (canRequest s b).mbx.canTx = canSegments 0 8 (rspBody (reqOp b) (reqTag b) 2 0 []))
    ∧ ((s.mb 7).busy = false → ((canRequest s b).mb 7).phase = .rung ∧ ((canRequest s b).mb 7).req = padTo 256 b
      ∧ ((canRequest s b).mb 7).path = 2 ∧ (canRequest s b).mbx.rings = s.mbx.rings ++ [7]) := by
  cases hbusy : (s.mb 7).busy with
  | true =>
    rw [canRequest_of_busy hbusy]
    exact ⟨rfl, fun _ => ⟨rfl, rfl⟩, by simp⟩
  | false =>
    rw [canRequest_mb hlen hbusy, canRequest_of_free hbusy, ring_mbx]
    exact ⟨rfl, by simp, fun _ => ⟨rfl, rfl, rfl, rfl⟩⟩

end

/-! ### Segments (R392) -/

section
variable {s : State} {data acc : List Byte} {k : Nat}

theorem canSegment_of_outOfSequence (hfirst : bit (leAt data 0 1) 7 = false)
    (hseq : ∀ k acc, s.mbx.canRx = some (k, acc) → leAt data 0 1 % 64 ≠ k) :
    canSegment s data = State.bump { s with mbx := { s.mbx with canRx := none } } CAN.DROP.COUNT := by
  unfold canSegment
  cases hrx : s.mbx.canRx with
  | none =>
    have hsame : { s.mbx with canRx := none } = s.mbx := by rw [← hrx]
    simp [hfirst, hsame]
  | some x =>
    obtain ⟨k, acc⟩ := x
    simp [hfirst, hseq k acc hrx]

theorem canSegment_of_lateFirst (hfirst : bit (leAt data 0 1) 7 = true) (hrx : s.mbx.canRx = none)
    (hno : leAt data 0 1 % 64 ≠ 0) : canSegment s data = s.bump CAN.DROP.COUNT := by
  simp [canSegment, hrx, hfirst, hno]

theorem canSegment_of_first (hfirst : bit (leAt data 0 1) 7 = true) (hrx : s.mbx.canRx = none)
    (hno : leAt data 0 1 % 64 = 0) (hlast : bit (leAt data 0 1) 6 = false) :
    canSegment s data = { s with mbx := { s.mbx with canRx := some (1, data.drop 1) } } := by
  simp [canSegment, hrx, hfirst, hno, hlast]

theorem canSegment_of_only (hfirst : bit (leAt data 0 1) 7 = true) (hrx : s.mbx.canRx = none)
    (hno : leAt data 0 1 % 64 = 0) (hlast : bit (leAt data 0 1) 6 = true) :
    canSegment s data = canRequest s (data.drop 1) := by
  simp [canSegment, hrx, hfirst, hno, hlast]

theorem canSegment_of_middle (hfirst : bit (leAt data 0 1) 7 = false) (hrx : s.mbx.canRx = some (k, acc))
    (hno : leAt data 0 1 % 64 = k) (hlast : bit (leAt data 0 1) 6 = false) :
    canSegment s data = { s with mbx := { s.mbx with canRx := some ((k + 1) % 64, acc ++ data.drop 1) } } := by
  simp [canSegment, hrx, hfirst, hno, hlast]

theorem canSegment_of_last (hfirst : bit (leAt data 0 1) 7 = false) (hrx : s.mbx.canRx = some (k, acc))
    (hno : leAt data 0 1 % 64 = k) (hlast : bit (leAt data 0 1) 6 = true) :
    canSegment s data = canRequest s (acc ++ data.drop 1) := by
  simp [canSegment, hrx, hfirst, hno, hlast]

end

/-- A dropped frame is counted, whatever becomes of the unfinished request. -/
theorem drop_counted (s : State) (v : Mbx) : Counted s (State.bump { s with mbx := v } CAN.DROP.COUNT) CAN.DROP.COUNT 1 :=
  reg_bump_self { s with mbx := v } CAN.DROP.COUNT (by decide)

theorem canDiagSegment_completes {s : State} {f : CanFrame} (hen : s.flag CAN.CTRL.EN = true)
    (hdiag : s.flag CAN.CTRL.DIAG_EN = true)
    (hid : canMatches f (s.flag CAN.DIAG_RX_ID.IDE) (s.reg CAN.DIAG_RX_ID.ID) = true) :
    Completes (.canDiagSegment f) s fun t =>
      (f.fd = false → Counted s t CAN.DROP.COUNT 1 ∧ t.mbx = s.mbx)
      ∧ (f.fd = true → bit (leAt f.data 0 1) 7 = false →
          (∀ k acc, s.mbx.canRx = some (k, acc) → leAt f.data 0 1 % 64 ≠ k) →
        Counted s t CAN.DROP.COUNT 1 ∧ t.mbx = { s.mbx with canRx := none })
      ∧ (f.fd = true → bit (leAt f.data 0 1) 7 = true → s.mbx.canRx = none → leAt f.data 0 1 % 64 ≠ 0 →
        Counted s t CAN.DROP.COUNT 1 ∧ t.mbx = s.mbx)
      ∧ (f.fd = true → bit (leAt f.data 0 1) 7 = true → s.mbx.canRx = none → leAt f.data 0 1 % 64 = 0 →
          bit (leAt f.data 0 1) 6 = false →
        t.mbx = { s.mbx with canRx := some (1, f.data.drop 1) } ∧ t.regs = s.regs)
      ∧ (∀ k acc, f.fd = true → bit (leAt f.data 0 1) 7 = false → s.mbx.canRx = some (k, acc) → leAt f.data 0 1 % 64 = k →
          bit (leAt f.data 0 1) 6 = false →
        t.mbx = { s.mbx with canRx := some ((k + 1) % 64, acc ++ f.data.drop 1) } ∧ t.regs = s.regs)
      ∧ (∀ b, f.fd = true → s.mbx.boxes.length = 8 → bit (leAt f.data 0 1) 6 = true →
          (bit (leAt f.data 0 1) 7 = true ∧ s.mbx.canRx = none ∧ leAt f.data 0 1 % 64 = 0 ∧ b = f.data.drop 1
            ∨ bit (leAt f.data 0 1) 7 = false ∧ ∃ k acc, s.mbx.canRx = some (k, acc) ∧ leAt f.data 0 1 % 64 = k
              ∧ b = acc ++ f.data.drop 1) →
        t.mbx.canRx = none
        ∧ ((s.mb 7).busy = true → t.mb 7 = s.mb 7 ∧ t.mbx.canTx = canSegments 0 8 (rspBody (reqOp b) (reqTag b) 2 0 []))
        ∧ ((s.mb 7).busy = false → (t.mb 7).phase = .rung ∧ (t.mb 7).req = padTo 256 b ∧ (t.mb 7).path = 2
          ∧ t.mbx.rings = s.mbx.rings ++ [7])) := by
  have hrun : exec (.canDiagSegment f) s = .next (if f.fd then canSegment s f.data else s.bump CAN.DROP.COUNT) :=
    congrArg Host.Outcome.next (if_pos ⟨hen, hdiag, hid⟩)
  cases hfd : f.fd with
  | false =>
    rw [hfd] at hrun
    exact completes_of hrun ⟨fun _ => ⟨drop_counted s s.mbx, rfl⟩, by simp⟩
  | true =>
    rw [hfd] at hrun
    refine completes_of hrun ⟨by simp, fun _ hfirst hseq => ?_, fun _ hfirst hrx hno => ?_,
      fun _ hfirst hrx hno hlast => ?_, fun k acc _ hfirst hrx hno hlast => ?_, fun b _ hlen hlast hform => ?_⟩
    · rw [if_pos rfl, canSegment_of_outOfSequence hfirst hseq]
      exact ⟨drop_counted s _, rfl⟩
    · rw [if_pos rfl, canSegment_of_lateFirst hfirst hrx hno]
      exact ⟨drop_counted s s.mbx, rfl⟩
    · rw [if_pos rfl, canSegment_of_first hfirst hrx hno hlast]
      exact ⟨rfl, rfl⟩
    · rw [if_pos rfl, canSegment_of_middle hfirst hrx hno hlast]
      exact ⟨rfl, rfl⟩
    · have hcomplete : canSegment s f.data = canRequest s b := by
        rcases hform with ⟨hfirst, hrx, hno, rfl⟩ | ⟨hfirst, k, acc, hrx, hno, rfl⟩
        · exact canSegment_of_only hfirst hrx hno hlast
        · exact canSegment_of_last hfirst hrx hno hlast
      rw [if_pos rfl, hcomplete]
      exact canRequest_rings_or_answers hlen

/-! ### Error counts, bus-off and recovery (R390) -/

section
variable {s : State}

/-- The error counted, before the new STATE (ISO 11898-1, R390). -/
def errorCounted (s : State) : CanErrorKind → State
  | .transmit => s.bumpBy CAN.STATUS.TEC 8
  | .receive => s.bump CAN.STATUS.REC

theorem canError_eq (k : CanErrorKind) : canError s k = (errorCounted s k).setReg CAN.STATUS.STATE
    (b2n (decide (127 < (errorCounted s k).reg CAN.STATUS.TEC ∨ 127 < (errorCounted s k).reg CAN.STATUS.REC))) := by
  cases k <;> rfl

/-- Fields beside STATE stand as the counting left them. -/
theorem canError_reg (k : CanErrorKind) {f : Field} (hf : fieldKey CAN.STATUS.STATE ≠ fieldKey f) :
    (canError s k).reg f = (errorCounted s k).reg f := by
  rw [canError_eq]
  exact reg_setReg_ne _ _ _ _ hf

/-- The controller is error passive while either count is above 127. -/
theorem canError_state (k : CanErrorKind) : (canError s k).reg CAN.STATUS.STATE
    = if 127 < (canError s k).reg CAN.STATUS.TEC ∨ 127 < (canError s k).reg CAN.STATUS.REC then 1 else 0 := by
  have hfits (b : Bool) : b2n b < 2 ^ CAN.STATUS.STATE.width := by cases b <;> decide
  rw [canError_reg k (f := CAN.STATUS.TEC) (by decide), canError_reg k (f := CAN.STATUS.REC) (by decide), canError_eq,
    reg_setReg_of_lt _ _ _ (by decide) (hfits _)]
  simp [b2n]

theorem canBusError_completes (k : CanErrorKind) (hon : canOn s = true) : Completes (.canBusError k) s fun t =>
    (k = .transmit → Counted s t CAN.STATUS.TEC 8 ∧ t.reg CAN.STATUS.REC = s.reg CAN.STATUS.REC)
    ∧ (k = .receive → Counted s t CAN.STATUS.REC 1 ∧ t.reg CAN.STATUS.TEC = s.reg CAN.STATUS.TEC)
    ∧ t.reg CAN.STATUS.STATE = if 127 < t.reg CAN.STATUS.TEC ∨ 127 < t.reg CAN.STATUS.REC then 1 else 0 := by
  have hrun : exec (.canBusError k) s = .next (canError s k) := congrArg Host.Outcome.next (if_pos hon)
  refine completes_of hrun ⟨?_, ?_, canError_state k⟩
  · rintro rfl
    exact ⟨counted_after (bumpBy_counted s (by decide) 8) (canError_reg .transmit (by decide)),
      (canError_reg .transmit (by decide)).trans (reg_bumpBy_ne s _ _ 8 (by decide))⟩
  · rintro rfl
    exact ⟨counted_after (bumpBy_counted s (by decide) 1) (canError_reg .receive (by decide)),
      (canError_reg .receive (by decide)).trans (reg_bump_ne s _ _ (by decide))⟩

/-- The controller shown bus-off, before its event and its fault (R390). -/
def shownBusOff (s : State) : State := (s.setReg CAN.STATUS.STATE 2).setFlag CAN.STATUS.BUS_OFF true

theorem shownBusOff_reg {f : Field} (hstate : fieldKey CAN.STATUS.STATE ≠ fieldKey f)
    (hoff : fieldKey CAN.STATUS.BUS_OFF ≠ fieldKey f) : (shownBusOff s).reg f = s.reg f :=
  (reg_setFlag_ne _ _ _ _ hoff).trans (reg_setReg_ne _ _ _ _ hstate)

theorem busOffEntry_completes (hon : canOn s = true) : Completes .busOffEntry s fun t =>
    t.reg CAN.STATUS.STATE = 2 ∧ t.flag CAN.STATUS.BUS_OFF = true ∧ Told s t [(0x0A0B, toLe 1 2)] ∧ Faulted s t 64 1 := by
  have hrun : exec .busOffEntry s = .next (raiseFault (raiseEvent (shownBusOff s) 0x0A0B (toLe 1 2)) 64 1) :=
    congrArg Host.Outcome.next (if_pos hon)
  refine completes_of hrun ⟨?_, ?_, ?_, ?_⟩
  · rw [reg_raiseFault_corr _ _ (by decide), reg_raiseEvent]
    exact (reg_setFlag_ne _ _ _ _ (by decide)).trans (reg_setReg_of_lt s _ 2 (by decide) (by decide))
  · have hset : (shownBusOff s).flag CAN.STATUS.BUS_OFF = true :=
      flag_setFlag_self (s.setReg CAN.STATUS.STATE 2) CAN.STATUS.BUS_OFF true (by decide) (by decide)
    unfold State.flag at hset ⊢
    rw [reg_raiseFault_corr _ _ (by decide), reg_raiseEvent]
    exact hset
  · exact told_after (EngineBands.told_of_raiseEvent (shownBusOff_reg (by decide) (by decide)) rfl rfl _ _)
      (raiseFault_corr_jorosh _ 64)
  · have hkept : (shownBusOff s).reg (FLT.COUNT.COUNT 64) = s.reg (FLT.COUNT.COUNT 64) :=
      shownBusOff_reg (by decide) (by decide)
    exact BlankPasses.faulted_before ⟨(reg_raiseEvent _ _ _ _).trans hkept, rfl⟩ (raiseFault_faulted _ 64 1)

theorem canBusOffRecovery_completes (hen : s.flag CAN.CTRL.EN = true) (hoff : s.reg CAN.STATUS.STATE = 2) :
    Completes .canBusOffRecovery s fun t =>
    t.reg CAN.STATUS.STATE = 0 ∧ t.reg CAN.STATUS.TEC = 0 ∧ t.reg CAN.STATUS.REC = 0 := by
  have hrun : exec .canBusOffRecovery s
      = .next (((s.setReg CAN.STATUS.STATE 0).setReg CAN.STATUS.TEC 0).setReg CAN.STATUS.REC 0) :=
    congrArg Host.Outcome.next (if_pos ⟨hen, hoff⟩)
  have hzero (u : State) (f : Field) (hw : f.width ≤ 32) : (u.setReg f 0).reg f = 0 :=
    (reg_setReg_self u f 0 hw).trans (Nat.zero_mod _)
  refine completes_of hrun ⟨?_, ?_, hzero _ _ (by decide)⟩
  · rw [reg_setReg_ne _ _ _ _ (by decide), reg_setReg_ne _ _ _ _ (by decide)]
    exact hzero s _ (by decide)
  · rw [reg_setReg_ne _ _ _ _ (by decide)]
    exact hzero _ _ (by decide)

end

/-- Settles O38: the segment by its place in the request, the error counts, bus-off and its recovery. -/
theorem canPort : Obligations.CanPort := by
  unfold Obligations.CanPort
  exact ⟨fun s f hen hdiag hid => canDiagSegment_completes hen hdiag hid, fun s k hon => canBusError_completes k hon,
    fun s hon => busOffEntry_completes hon, fun s hen hoff => canBusOffRecovery_completes hen hoff⟩

end Sys2Proof.Machine.CanPort
end

section
/-! PROOF. WakeSources: what a wake source does in each power state (11_host_and_side_ports.md R395; 14_clocks_and_power_states.md
R466, R467). -/

namespace Sys2Proof.Machine.WakeSources

open FrameTiming (reg_setReg_of_lt)

/-! ### The power state -/

section
variable (s : State)

theorem power_setReg_ne {f : Field} (v : Nat) (h : fieldKey f ≠ fieldKey PWR.STATE.STATE) :
    (s.setReg f v).power = s.power := reg_setReg_ne _ _ _ _ h

theorem power_setReg_self {v : Nat} (hv : v < 8) : (s.setReg PWR.STATE.STATE v).power = v :=
  reg_setReg_of_lt s _ v (by decide) hv

/-! ### A source that fires, by power state (R395, R466, R467) -/

theorem wakeBy_of_entering {src : Nat} (hpower : s.power = 4) (hsel : wakeSelected s src = true) :
    wakeBy s src = abortEntry s := by
  unfold wakeBy
  rw [hpower]
  exact if_pos hsel

theorem wakeBy_of_awake (src : Nat) (hpower : s.power = 0 ∨ s.power = 5) : wakeBy s src = s := by
  unfold wakeBy
  rcases hpower with h | h <;> simp [h]

theorem wakeBy_of_asleep {src : Nat} (hsel : wakeSelected s src = true) (hsrc : src ≠ 1)
    (hpower : s.power = 1 ∨ s.power = 2 ∨ s.power = 3) : wakeBy s src = startWake s src := by
  unfold wakeBy
  rcases hpower with h | h | h <;> rw [h]
  · exact if_pos (.inl ⟨hsrc, hsel⟩)
  · exact if_pos hsel
  · exact if_pos hsel

theorem wakeBy_of_unselected {src : Nat} (hsel : wakeSelected s src = false) (hsrc : src ≠ 4) : wakeBy s src = s := by
  unfold wakeBy
  split <;> simp [hsel, hsrc]

theorem wakeBy_port_of_landing (hpower : s.power = 1) : wakeBy s 1 = s := by
  unfold wakeBy
  rw [hpower]
  exact if_neg (by simp)

/-! ### An entry aborted (R466) -/

/-- RUN and ABORTED shown and the abort counted, before SLEEP_REFUSED. -/
def abortShown : State := ((s.setReg PWR.STATE.STATE 0).setFlag PWR.STATUS.ABORTED true).bump PWR.ABORT_COUNT.COUNT

theorem abortShown_reg {f : Field} (hstate : fieldKey PWR.STATE.STATE ≠ fieldKey f)
    (haborted : fieldKey PWR.STATUS.ABORTED ≠ fieldKey f) (hcount : fieldKey PWR.ABORT_COUNT.COUNT ≠ fieldKey f) :
    (abortShown s).reg f = s.reg f :=
  (reg_bump_ne _ _ _ hcount).trans ((reg_setFlag_ne _ _ _ _ haborted).trans (reg_setReg_ne _ _ _ _ hstate))

theorem abortEntry_regs : (abortEntry s).regs = (abortShown s).regs := rfl

/-- The event of a refused or aborted entry, in the words of the state before it (R428). -/
theorem sleepRefused_told {u : State} (hnode : u.reg TXLA.NODE.ADDR = s.reg TXLA.NODE.ADDR) (hlt : u.lt = s.lt)
    (hflt : u.flt = s.flt) (aborted : Bool) : Told s (sleepRefused u aborted)
      [(0x0902, toLe 1 (u.reg PWR.STATUS.LAST_REFUSER) ++ toLe 1 u.pwr.target ++ toLe 1 (b2n aborted))] :=
  EngineBands.told_of_raiseEvent hnode hlt hflt _ _

theorem abortEntry_effects : (abortEntry s).power = 0 ∧ (abortEntry s).flag PWR.STATUS.ABORTED = true
    ∧ Counted s (abortEntry s) PWR.ABORT_COUNT.COUNT 1
    ∧ Told s (abortEntry s) [(0x0902, toLe 1 (s.reg PWR.STATUS.LAST_REFUSER) ++ toLe 1 s.pwr.target ++ toLe 1 1)] := by
  refine ⟨?_, ?_, ?_, ?_⟩
  · have hshown : (abortShown s).power = 0 :=
      (reg_bump_ne _ _ _ (by decide)).trans ((reg_setFlag_ne _ _ _ _ (by decide)).trans (power_setReg_self s (by decide)))
    exact (reg_of_regs _ (abortEntry_regs s)).trans hshown
  · have hshown : (abortShown s).flag PWR.STATUS.ABORTED = true :=
      (flag_setReg_ne _ _ _ _ (by decide)).trans (flag_setFlag_self _ _ _ (by decide) (by decide))
    exact (flag_of_regs _ (abortEntry_regs s)).trans hshown
  · have hcounted : (abortShown s).reg PWR.ABORT_COUNT.COUNT = min (2 ^ 32 - 1) (s.reg PWR.ABORT_COUNT.COUNT + 1) := by
      unfold abortShown
      rw [reg_bump_self _ _ (by decide), reg_setFlag_ne _ _ _ _ (by decide), reg_setReg_ne _ _ _ _ (by decide)]
      rfl
    exact (reg_of_regs _ (abortEntry_regs s)).trans hcounted
  · have htold := sleepRefused_told s (u := abortShown s) (abortShown_reg s (by decide) (by decide) (by decide)) rfl rfl true
    rwa [abortShown_reg s (by decide) (by decide) (by decide)] at htold

/-! ### A wake begun (R467, R576) -/

/-- The device shown waking by `src`, before the cold-boot path of a wake from DEEP. -/
def wakeBegun (src : Nat) : State :=
  let s1 := (s.setReg PWR.STATE.STATE 5).setReg PWR.STATE.WAKE_SRC src
  { s1 with pwr := { s1.pwr with wakeFrom := s.power, repeats := 0, coreEn := true } }

theorem wakeBegun_power (src : Nat) : (wakeBegun s src).power = 5 :=
  (power_setReg_ne _ src (by decide)).trans (power_setReg_self s (by decide))

theorem wakeBegun_source {src : Nat} (hsrc : src < 8) : (wakeBegun s src).reg PWR.STATE.WAKE_SRC = src :=
  reg_setReg_of_lt _ _ src (by decide) hsrc

/-- A wake from DEEP is the cold-boot path with cause 3; lamp time is lost. -/
def coldBegun (src : Nat) : State :=
  let u := wakeBegun s src
  { u with boot := { u.boot with cold := true }, lt := 0, synced := false }.setReg SYS.RESET_CAUSE.CAUSE 3

theorem startWake_of_deep {src : Nat} (hpower : s.power = 3) : startWake s src = coldBegun s src := if_pos hpower

theorem startWake_of_shallow {src : Nat} (hpower : s.power ≠ 3) : startWake s src = wakeBegun s src := if_neg hpower

theorem startWake_effects {src : Nat} (hsrc : src < 8) : (startWake s src).power = 5
    ∧ (startWake s src).reg PWR.STATE.WAKE_SRC = src ∧ (startWake s src).pwr.wakeFrom = s.power
    ∧ (s.power = 3 → (startWake s src).boot.cold = true ∧ (startWake s src).now = 0 ∧ (startWake s src).synced = false
      ∧ (startWake s src).reg SYS.RESET_CAUSE.CAUSE = 3)
    ∧ (s.power ≠ 3 → (startWake s src).lt = s.lt ∧ (startWake s src).boot = s.boot) := by
  by_cases hdeep : s.power = 3
  · rw [startWake_of_deep s hdeep]
    have hcause : (coldBegun s src).reg SYS.RESET_CAUSE.CAUSE = 3 := reg_setReg_of_lt _ _ 3 (by decide) (by decide)
    have hother {f : Field} (h : fieldKey SYS.RESET_CAUSE.CAUSE ≠ fieldKey f) :
        (coldBegun s src).reg f = (wakeBegun s src).reg f := reg_setReg_ne _ _ _ _ h
    exact ⟨(hother (by decide)).trans (wakeBegun_power s src), (hother (by decide)).trans (wakeBegun_source s hsrc), rfl,
      fun _ => ⟨rfl, rfl, rfl, hcause⟩, fun h => absurd hdeep h⟩
  · rw [startWake_of_shallow s hdeep]
    exact ⟨wakeBegun_power s src, wakeBegun_source s hsrc, rfl, fun h => absurd h hdeep, fun _ => ⟨rfl, rfl⟩⟩

end

/-! ### The commands (R395, R466, R467) -/

section
variable {s : State}

theorem wakePortWrite_run {addr : BitVec 7} (data : Byte) (haddr : addr.toNat = s.actReg IOMUX.BOARD.WAKE_ADDR) :
    exec (.wakePortWrite addr data) s = .next (wakeBy (s.setReg PWR.STATE.WAKE_CODE (data.toNat % 16)) 1) :=
  congrArg Host.Outcome.next (if_pos haddr)

theorem wakePortWrite_records {addr : BitVec 7} (data : Byte) (haddr : addr.toNat = s.actReg IOMUX.BOARD.WAKE_ADDR)
    (hpower : s.power = 0 ∨ s.power = 1 ∨ s.power = 5) :
    exec (.wakePortWrite addr data) s = .next (s.setReg PWR.STATE.WAKE_CODE (data.toNat % 16)) := by
  have hcode := power_setReg_ne s (f := PWR.STATE.WAKE_CODE) (data.toNat % 16) (by decide)
  rw [wakePortWrite_run data haddr]
  rcases hpower with h | h | h
  · rw [wakeBy_of_awake _ 1 (.inl (hcode.trans h))]
  · rw [wakeBy_port_of_landing _ (hcode.trans h)]
  · rw [wakeBy_of_awake _ 1 (.inr (hcode.trans h))]

theorem wakePortWrite_aborts {addr : BitVec 7} (data : Byte) (haddr : addr.toNat = s.actReg IOMUX.BOARD.WAKE_ADDR)
    (hpower : s.power = 4) (hsel : wakeSelected s 1 = true) :
    exec (.wakePortWrite addr data) s = .next (abortEntry (s.setReg PWR.STATE.WAKE_CODE (data.toNat % 16))) := by
  have hcode := power_setReg_ne s (f := PWR.STATE.WAKE_CODE) (data.toNat % 16) (by decide)
  rw [wakePortWrite_run data haddr, wakeBy_of_entering _ (hcode.trans hpower) hsel]

theorem wakePin_completes (hsel : wakeSelected s 2 = true) (hpower : s.power = 1 ∨ s.power = 2 ∨ s.power = 3) :
    Completes .wakePin s fun t =>
    t.power = 5 ∧ t.reg PWR.STATE.WAKE_SRC = 2 ∧ t.pwr.wakeFrom = s.power
    ∧ (s.power = 3 → t.boot.cold = true ∧ t.now = 0 ∧ t.synced = false ∧ t.reg SYS.RESET_CAUSE.CAUSE = 3)
    ∧ (s.power ≠ 3 → t.lt = s.lt ∧ t.boot = s.boot) := by
  have hrun : exec .wakePin s = .next (startWake s 2) :=
    congrArg Host.Outcome.next (wakeBy_of_asleep s hsel (by decide) hpower)
  exact completes_of hrun (startWake_effects s (by decide))

theorem wakePin_without_effect (h : wakeSelected s 2 = false ∨ s.power = 0 ∨ s.power = 5) : exec .wakePin s = .next s := by
  refine congrArg Host.Outcome.next ?_
  rcases h with hsel | hpower
  · exact wakeBy_of_unselected s hsel (by decide)
  · exact wakeBy_of_awake s 2 hpower

end

end Sys2Proof.Machine.WakeSources
end

section
/-! PROOF. SleepEntry: the end of an entry into sleep, refused or in the state chosen (14_clocks_and_power_states.md R461, R462,
R465). -/

namespace Sys2Proof.Machine.SleepEntry

open FrameTiming (flag_eq_of_word reg_setReg_of_lt scanEnable_effects scanDisable_effects)
open PowerMail (rasterOff_effects)
open TatexPorts (reg_foldl_of_hit)
open WakeSources (power_setReg_self)

/-! ### Which case of `idle` an entry takes -/

section
variable {s : State}

theorem step_of_entering (hempty : s.pending = []) (hpower : s.power = 4) : step s = .next (finishEntry s) :=
  (step_of_empty hempty).trans (congrArg Host.Outcome.next (if_pos hpower))

theorem finishEntry_of_refuser {b : Nat} (h : entryRefuser s = some b) : finishEntry s = refuseEntry s b := by
  unfold finishEntry
  rw [h]

/-- The state left for CELLAR and DEEP: the scan and the ports stopped, the sleep state shown (R372, R462). -/
def blocksAsleep (s : State) : State := (tatexSleep (stopScan s)).setReg PWR.STATE.STATE s.pwr.target

theorem finishEntry_landing (h : entryRefuser s = none) (htarget : s.pwr.target = 1) : finishEntry s = enterLanding s := by
  unfold finishEntry
  rw [h]
  exact if_pos htarget

theorem finishEntry_cellar (h : entryRefuser s = none) (htarget : s.pwr.target = 2) :
    finishEntry s = enterCellar (blocksAsleep s) := by
  unfold finishEntry
  rw [h]
  simp [htarget, blocksAsleep]

theorem finishEntry_deep (h : entryRefuser s = none) (htarget : s.pwr.target = 3) :
    finishEntry s = enterDeep (blocksAsleep s) := by
  unfold finishEntry
  rw [h]
  simp [htarget, blocksAsleep]

end

/-! ### An entry refused (R465) -/

section
variable (s : State)

theorem entryRefuser_lt {b : Nat} (h : entryRefuser s = some b) : b < 32 := by
  unfold entryRefuser at h
  dsimp only at h
  split_ifs at h <;> cases h <;> decide

/-- The raster started again where it ran (R91). -/
def rasterRestarted : State := if s.flag SCAN.CTRL.EN then scanEnable (scanDisable s) else s

/-- The blocks stopped before the refuser run again. -/
def blocksRestarted : State :=
  if 2 ≤ s.pwr.target then auxForce (auxForce (rasterRestarted s) true) false else rasterRestarted s

/-- RUN, REFUSED and the refuser shown and the refusal counted, before SLEEP_REFUSED. -/
def refusalShown (b : Nat) : State :=
  ((((blocksRestarted s).setReg PWR.STATE.STATE 0).setFlag PWR.STATUS.REFUSED true).setReg PWR.STATUS.LAST_REFUSER b).bump
    PWR.REFUSE_COUNT.COUNT

theorem blocksRestarted_regs : (blocksRestarted s).regs = (rasterRestarted s).regs := by
  unfold blocksRestarted
  split <;> simp

theorem rasterRestarted_en : (rasterRestarted s).flag SCAN.CTRL.EN = s.flag SCAN.CTRL.EN := by
  unfold rasterRestarted
  split
  · next hen => exact (scanEnable_effects _).1.trans hen.symm
  · rfl

theorem rasterRestarted_reg {f : Field} (h : Outside (scanEnableRegs ++ scanDisableRegs) (fieldKey f)) :
    (rasterRestarted s).reg f = s.reg f := by
  obtain ⟨hon, hoff⟩ := (outside_append _ _ _).mp h
  unfold rasterRestarted
  split
  · exact (reg_eq_of_word (scanEnable_word hon _)).trans (reg_eq_of_word (scanDisable_word hoff s))
  · rfl

theorem blocksRestarted_pwr : (blocksRestarted s).pwr = s.pwr := by
  simp [blocksRestarted, rasterRestarted]

/-- A refusal leads back to RUN and says who refused. -/
theorem refuseEntry_effects {b : Nat} (hb : b < 32) : (refuseEntry s b).power = 0
    ∧ (refuseEntry s b).flag PWR.STATUS.REFUSED = true ∧ (refuseEntry s b).reg PWR.STATUS.LAST_REFUSER = b
    ∧ Counted s (refuseEntry s b) PWR.REFUSE_COUNT.COUNT 1
    ∧ (refuseEntry s b).flag SCAN.CTRL.EN = s.flag SCAN.CTRL.EN
    ∧ ∃ e ∈ (refuseEntry s b).flt.jorosh, e.code = 0x0902
      ∧ e.args = padTo 16 (toLe 1 b ++ toLe 1 s.pwr.target ++ toLe 1 0) := by
  have hregs : (refuseEntry s b).regs = (refusalShown s b).regs := rfl
  have hrefuser : (refusalShown s b).reg PWR.STATUS.LAST_REFUSER = b :=
    (reg_bump_ne _ _ _ (by decide)).trans (reg_setReg_of_lt _ _ b (by decide) hb)
  have hcount : (blocksRestarted s).reg PWR.REFUSE_COUNT.COUNT = s.reg PWR.REFUSE_COUNT.COUNT :=
    (reg_of_regs _ (blocksRestarted_regs s)).trans (rasterRestarted_reg s (outside_of (by decide)))
  refine ⟨(reg_of_regs _ hregs).trans ?_, (flag_of_regs _ hregs).trans ?_, (reg_of_regs _ hregs).trans hrefuser,
    (reg_of_regs _ hregs).trans ?_, (flag_of_regs _ hregs).trans ?_, ?_⟩
  · unfold refusalShown
    rw [reg_bump_ne _ _ _ (by decide), reg_setReg_ne _ _ _ _ (by decide), reg_setFlag_ne _ _ _ _ (by decide)]
    exact power_setReg_self _ (by decide)
  · unfold refusalShown State.bump State.bumpBy
    rw [flag_setReg_ne _ _ _ _ (by decide), flag_setReg_ne _ _ _ _ (by decide)]
    exact flag_setFlag_self _ _ _ (by decide) (by decide)
  · unfold refusalShown
    rw [reg_bump_self _ _ (by decide), reg_setReg_ne _ _ _ _ (by decide), reg_setFlag_ne _ _ _ _ (by decide),
      reg_setReg_ne _ _ _ _ (by decide), hcount]
  · unfold refusalShown State.bump State.bumpBy
    rw [flag_setReg_ne _ _ _ _ (by decide), flag_setReg_ne _ _ _ _ (by decide), flag_setFlag_ne _ _ _ _ (by decide),
      flag_setReg_ne _ _ _ _ (by decide), flag_of_regs _ (blocksRestarted_regs s), rasterRestarted_en]
  · refine ⟨mkEvent (refusalShown s b) 0x0902 false (toLe 1 ((refusalShown s b).reg PWR.STATUS.LAST_REFUSER)
      ++ toLe 1 (refusalShown s b).pwr.target ++ toLe 1 0), List.mem_append_right _ (List.mem_singleton_self _), rfl, ?_⟩
    have hpwr : (refusalShown s b).pwr = s.pwr := blocksRestarted_pwr s
    rw [hrefuser, hpwr]
    rfl

/-! ### LANDING (R461, R462) -/

theorem stopScan_en : (stopScan s).flag SCAN.CTRL.EN = false := (rasterOff_effects s).1

theorem stopScan_running (h : s.flag SCAN.CTRL.EN = true) : (stopScan s).scan.running = false := by
  unfold stopScan
  rw [if_pos h]
  exact (scanDisable_effects s).2.1

theorem stopScan_slots : (stopScan s).shd.slots = s.shd.slots := by
  unfold stopScan
  split
  · simp [scanDisable, stopRaster, discardLoad]
  · rfl

/-- The scan off, its EN noted, CLK_CORE slowed; the DRAM and the power state still to come. -/
def scanRests : State :=
  let s1 := { stopScan s with pwr := { s.pwr with scanEn := s.flag SCAN.CTRL.EN } }
  { s1 with clk := { s1.clk with div := if s1.clk.div.getD 3 0 = 0 then s1.clk.div else s1.clk.div.set 3 24 } }

/-- The DRAM in self-refresh where its controller is enabled (R506). -/
def dramRests : State := if s.flag DDRC.CTRL.EN then dramSelfRefresh (scanRests s) else scanRests s

theorem scanRests_en : (scanRests s).flag SCAN.CTRL.EN = false := stopScan_en s

theorem dramRests_keep : (dramRests s).scan = (stopScan s).scan ∧ (dramRests s).shd = (stopScan s).shd
    ∧ (dramRests s).pwr = { s.pwr with scanEn := s.flag SCAN.CTRL.EN } := by
  unfold dramRests
  split <;> simp [scanRests]

theorem dramRests_en : (dramRests s).flag SCAN.CTRL.EN = false := by
  unfold dramRests
  split
  · exact (flag_eq_of_word (dramSelfRefresh_word (outside_of (by decide)) _)).trans (scanRests_en s)
  · exact scanRests_en s

theorem dramSelfRefresh_flag : (dramSelfRefresh s).flag DDRC.STATUS.SELF_REFRESH = true :=
  (flag_setFlag_ne _ _ _ _ (by decide)).trans (flag_setFlag_self _ _ _ (by decide) (by decide))

theorem enterLanding_effects : (enterLanding s).power = 1 ∧ (enterLanding s).flag SCAN.CTRL.EN = false
    ∧ (s.flag SCAN.CTRL.EN = true → (enterLanding s).scan.running = false)
    ∧ (enterLanding s).pwr.scanEn = s.flag SCAN.CTRL.EN
    ∧ (s.flag DDRC.CTRL.EN = true → (enterLanding s).flag DDRC.STATUS.SELF_REFRESH = true)
    ∧ (enterLanding s).shd.slots = s.shd.slots := by
  obtain ⟨hscan, hshd, hpwr⟩ := dramRests_keep s
  have hflag {f : Field} (h : fieldKey PWR.STATE.STATE ≠ fieldKey f) : (enterLanding s).flag f = (dramRests s).flag f :=
    flag_setReg_ne _ _ _ _ h
  refine ⟨power_setReg_self _ (by decide), (hflag (by decide)).trans (dramRests_en s), fun hen => ?_,
    congrArg Pwr.scanEn hpwr, fun hdram => ?_, (congrArg Shd.slots hshd).trans (stopScan_slots s)⟩
  · exact (congrArg Scan.running hscan).trans (stopScan_running s hen)
  · rw [hflag (by decide), dramRests, if_pos hdram]
    exact dramSelfRefresh_flag _

end

/-! ### Registers carried over a power-down (R461, R539) -/

/-- A carried field holds what it held, cut to its width. -/
theorem reg_keepRegs_of_mem {l : List Field} {f : Field} (hf : f ∈ l) (hl : ∀ g ∈ l, fieldKey g = fieldKey f → g = f)
    (hw : f.width ≤ 32) (s base : State) : (keepRegs l s base).reg f = s.reg f % 2 ^ f.width := by
  refine reg_foldl_of_hit (hit := (· = f)) (fun u g _ hg => ?_) (fun u g hg hne => ?_) ⟨f, hf, rfl⟩ base
  · rw [hg]
    exact reg_setReg_self u f _ hw
  · exact reg_setReg_ne u g f _ (fun hkey => hne (hl g hg hkey))

/-- A field that is not carried holds what the power-down left. -/
theorem reg_keepRegs_of_outside {l : List Field} {f : Field} (hf : Outside l (fieldKey f)) (s base : State) :
    (keepRegs l s base).reg f = base.reg f := by
  unfold keepRegs
  induction l generalizing base with
  | nil => rfl
  | cons g t ih =>
    obtain ⟨hg, ht⟩ := (outside_cons g t _).mp hf
    exact (ih ht _).trans (reg_setReg_ne base g f _ hg)

section
variable (s : State)

/-- The always-on domain alone, before the light of LOWBEAM_REQ (R461). -/
def aonLeft : State :=
  let b := bareDevice s
  keepRegs sleepKeeps s { b with
    boot := { b.boot with longDue := s.boot.longDue, tripDue := s.boot.tripDue }
    pwr := { s.pwr with coreEn := false, corePg := false }
    guard := { b.guard with straps := s.guard.straps }
    flt := { b.flt with
      errReal := s.flt.errReal, errInj := s.flt.errInj, errAsync := s.flt.errAsync, errWake := s.flt.errWake
      errMin := s.flt.errMin } }

theorem enterDeep_eq :
    enterDeep s = lightRom ((aonLeft s).setAct IOMUX.BOARD.WAKE_ADDR (s.actReg IOMUX.BOARD.WAKE_ADDR)) := rfl

theorem lightRom_running : (lightRom s).scan.running = s.scan.running := by
  unfold lightRom
  split <;> rfl

theorem enterDeep_reg {f : Field} (hlight : Outside lightRomRegs (fieldKey f)) :
    (enterDeep s).reg f = (aonLeft s).reg f :=
  reg_eq_of_word (lightRom_word hlight _)

/-- A field of the always-on domain that fits its width survives the power-down. -/
theorem enterDeep_reg_of_kept {f : Field} (hlight : Outside lightRomRegs (fieldKey f)) (hf : f ∈ sleepKeeps)
    (hl : ∀ g ∈ sleepKeeps, fieldKey g = fieldKey f → g = f) (hw : f.width ≤ 32) (hv : s.reg f < 2 ^ f.width) :
    (enterDeep s).reg f = s.reg f := by
  rw [enterDeep_reg s hlight]
  exact (reg_keepRegs_of_mem hf hl hw s _).trans (Nat.mod_eq_of_lt hv)

/-- Any other field holds its reset value. -/
theorem enterDeep_reg_of_lost {f : Field} (hlight : Outside lightRomRegs (fieldKey f))
    (hf : Outside sleepKeeps (fieldKey f)) : (enterDeep s).reg f = State.reset.reg f := by
  rw [enterDeep_reg s hlight]
  exact reg_keepRegs_of_outside hf s _

/-- DEEP keeps neither the DRAM's data, nor lamp time, nor Jorosh. -/
theorem enterDeep_parts : (enterDeep s).dram = [] ∧ (enterDeep s).now = 0 ∧ (enterDeep s).synced = false
    ∧ (enterDeep s).boot.jorosh = false ∧ (enterDeep s).scan.running = false := by
  rw [enterDeep_eq, lightRom_running]
  refine ⟨?_, ?_, ?_, ?_, ?_⟩ <;> simp [aonLeft, bareDevice, State.now, State.reset, Boot.reset, Scan.reset]

theorem enterDeep_power (hfits : s.power < 8) : (enterDeep s).power = s.power :=
  enterDeep_reg_of_kept s (outside_of (by decide)) (by decide) (by decide +kernel) (by decide) hfits

theorem enterDeep_en : (enterDeep s).flag SCAN.CTRL.EN = false := by
  unfold State.flag
  rw [enterDeep_reg_of_lost s (outside_of (by decide)) (outside_of (by decide +kernel))]
  rfl

theorem enterDeep_fbValid : (enterDeep s).flag SCAN.FB_CTRL.FB_VALID = false := by
  unfold State.flag
  rw [enterDeep_reg_of_lost s (outside_of (by decide)) (outside_of (by decide +kernel))]
  rfl

/-! ### CELLAR (R461) -/

/-- The registers of Jorosh's retained banks. -/
def cellarKeeps : List Field :=
  [TXLA.NODE.ADDR, TXLA.NODE.ADDR_VALID, TXLA.NODE.TOPO, TXLA.NODE.NODES, BE.OPTICS.SOURCE, BE.OPTICS.RESID,
    CAL.AG_STATUS.FB_HOURS, CAL.AG_STATUS.MODEL_GEN, CAL.AG_STATUS.GEN, CAL.VM_STATUS.VC_SET, SCAN.IFB_STATUS.IFB_NA,
    DDRC.STATUS.READY, DDRC.STATUS.DRAM_FAIL] ++ SYS.fields

theorem enterCellar_reg {f : Field} (hf : Outside cellarKeeps (fieldKey f)) : (enterCellar s).reg f = (enterDeep s).reg f := by
  have hregs : (enterCellar s).regs = (keepRegs cellarKeeps s (enterDeep s)).regs := rfl
  exact (reg_of_regs f hregs).trans (reg_keepRegs_of_outside hf s _)

/-- CELLAR is DEEP with the DRAM and Jorosh kept. -/
theorem enterCellar_effects (hfits : s.power < 8) : (enterCellar s).power = s.power
    ∧ (enterCellar s).flag SCAN.CTRL.EN = false ∧ (enterCellar s).scan.running = false
    ∧ (enterCellar s).dram = s.dram ∧ (enterCellar s).now = 0 ∧ (enterCellar s).synced = false
    ∧ (enterCellar s).boot = s.boot ∧ (enterCellar s).flag SCAN.FB_CTRL.FB_VALID = false := by
  have hflag {f : Field} (hf : Outside cellarKeeps (fieldKey f)) : (enterCellar s).flag f = (enterDeep s).flag f := by
    unfold State.flag
    rw [enterCellar_reg s hf]
  obtain ⟨-, hnow, hsynced, -, hrunning⟩ := enterDeep_parts s
  refine ⟨(enterCellar_reg s (outside_of (by decide +kernel))).trans (enterDeep_power s hfits),
    (hflag (outside_of (by decide +kernel))).trans (enterDeep_en s), ?_, rfl, ?_, ?_, rfl,
    (hflag (outside_of (by decide +kernel))).trans (enterDeep_fbValid s)⟩
  · simpa [enterCellar] using hrunning
  · simpa [enterCellar, State.now] using hnow
  · simpa [enterCellar] using hsynced

end

/-! ### The idle tick that ends an entry (R465; log entry 2) -/

section
variable {s : State}

theorem blocksAsleep_power (h : s.pwr.target < 8) : (blocksAsleep s).power = s.pwr.target := power_setReg_self _ h

theorem blocksAsleep_keep : (blocksAsleep s).dram = s.dram ∧ (blocksAsleep s).boot = s.boot := by
  simp [blocksAsleep]

theorem finishEntry_sleeps (hfree : entryRefuser s = none) (htarget : s.pwr.target = 1 ∨ s.pwr.target = 2 ∨ s.pwr.target = 3) :
    (finishEntry s).power = s.pwr.target ∧ (finishEntry s).flag SCAN.CTRL.EN = false
    ∧ (s.flag SCAN.CTRL.EN = true → (finishEntry s).scan.running = false)
    ∧ (s.pwr.target = 1 → (finishEntry s).pwr.scanEn = s.flag SCAN.CTRL.EN
      ∧ (s.flag DDRC.CTRL.EN = true → (finishEntry s).flag DDRC.STATUS.SELF_REFRESH = true)
      ∧ (finishEntry s).shd.slots = s.shd.slots)
    ∧ (s.pwr.target = 2 → (finishEntry s).dram = s.dram ∧ (finishEntry s).now = 0 ∧ (finishEntry s).synced = false
      ∧ (finishEntry s).boot.jorosh = s.boot.jorosh ∧ (finishEntry s).flag SCAN.FB_CTRL.FB_VALID = false)
    ∧ (s.pwr.target = 3 → (finishEntry s).dram = [] ∧ (finishEntry s).now = 0 ∧ (finishEntry s).synced = false
      ∧ (finishEntry s).boot.jorosh = false) := by
  obtain ⟨hdram, hboot⟩ := blocksAsleep_keep (s := s)
  rcases htarget with h | h | h
  · rw [finishEntry_landing hfree h]
    obtain ⟨hpower, hen, hrunning, hscanEn, hrefresh, hslots⟩ := enterLanding_effects s
    exact ⟨hpower.trans h.symm, hen, hrunning, fun _ => ⟨hscanEn, hrefresh, hslots⟩, by omega, by omega⟩
  · rw [finishEntry_cellar hfree h]
    have hasleep := blocksAsleep_power (s := s) (by omega)
    obtain ⟨hpower, hen, hrunning, hkept, hnow, hsynced, hjorosh, hvalid⟩ := enterCellar_effects (blocksAsleep s) (by omega)
    exact ⟨hpower.trans hasleep, hen, fun _ => hrunning, by omega, fun _ => ⟨hkept.trans hdram, hnow, hsynced,
      congrArg Boot.jorosh (hjorosh.trans hboot), hvalid⟩, by omega⟩
  · rw [finishEntry_deep hfree h]
    have hasleep := blocksAsleep_power (s := s) (by omega)
    obtain ⟨hlost, hnow, hsynced, hjorosh, hrunning⟩ := enterDeep_parts (blocksAsleep s)
    exact ⟨(enterDeep_power _ (by omega)).trans hasleep, enterDeep_en _, fun _ => hrunning, by omega, by omega,
      fun _ => ⟨hlost, hnow, hsynced, hjorosh⟩⟩

end

end Sys2Proof.Machine.SleepEntry
end

section
/-! PROOF. WakeSequences: the wakes that end in RUN and the readiness timeouts (14_clocks_and_power_states.md R461, R462, R467,
R468; 12_mailbox_command_set.md R428). -/

namespace Sys2Proof.Machine.WakeSequences

open BlankPasses (SourceKept raiseFault_sourceKept faulted_before)
open FrameTiming (flag_eq_of_word fatalAtDetection_of_ne scanEnable_effects scanEnable_eq raiseCause_scan)
open TatexPorts (counted_after)
open WakeSources (power_setReg_self)
open SleepEntry (enterDeep_reg_of_kept enterDeep_power)

/-! ### What the end of a wake reports -/

/-- From `s` to `u` the DRAM's data stays, and so does what the end of a wake reports: the wake's source and code, and the failure
of an earlier wake with source 7 (R428, R468). -/
structure ReportKept (s u : State) : Prop where
  fault : SourceKept 7 s u
  source : u.reg PWR.STATE.WAKE_SRC = s.reg PWR.STATE.WAKE_SRC
  code : u.reg PWR.STATE.WAKE_CODE = s.reg PWR.STATE.WAKE_CODE
  failed : u.pwr.failed = s.pwr.failed
  dram : u.dram = s.dram

/-- The fields among those that no change of `L` touches. -/
def SparesReport (L : List Field) : Prop :=
  Outside L (fieldKey (FLT.COUNT.COUNT 7)) ∧ Outside L (fieldKey PWR.STATE.WAKE_SRC)
    ∧ Outside L (fieldKey PWR.STATE.WAKE_CODE)

theorem sparesReport_of {L : List Field} (hfault : L.all (fun f => fieldKey f != fieldKey (FLT.COUNT.COUNT 7)) = true)
    (hsource : L.all (fun f => fieldKey f != fieldKey PWR.STATE.WAKE_SRC) = true)
    (hcode : L.all (fun f => fieldKey f != fieldKey PWR.STATE.WAKE_CODE) = true) : SparesReport L :=
  ⟨outside_of hfault, outside_of hsource, outside_of hcode⟩

section
variable {s t u : State}

theorem ReportKept.refl (s : State) : ReportKept s s := ⟨⟨rfl, rfl⟩, rfl, rfl, rfl, rfl⟩

theorem ReportKept.trans (h : ReportKept s t) (k : ReportKept t u) : ReportKept s u :=
  ⟨h.fault.trans k.fault, k.source.trans h.source, k.code.trans h.code, k.failed.trans h.failed, k.dram.trans h.dram⟩

theorem ReportKept.foldl {α : Type} {g : State → α → State} (hg : ∀ u x, ReportKept u (g u x)) (l : List α) (s : State) :
    ReportKept s (l.foldl g s) := by
  induction l generalizing s with
  | nil => exact ReportKept.refl s
  | cons x l ih => exact (hg s x).trans (ih _)

/-- A change of the fields of `L` that leaves the waiting faults. -/
theorem reportKept_of {L : List Field} (hL : SparesReport L) (hword : ∀ k, Outside L k → wordAt u.regs k = wordAt s.regs k)
    (hreal : u.flt.real = s.flt.real) (hfailed : u.pwr.failed = s.pwr.failed) (hdram : u.dram = s.dram) : ReportKept s u := by
  obtain ⟨hfault, hsource, hcode⟩ := hL
  exact ⟨BlankPasses.sourceKept_of (hword _ hfault) hreal, reg_eq_of_word (hword _ hsource),
    reg_eq_of_word (hword _ hcode), hfailed, hdram⟩

theorem reportKept_of_regs (hregs : u.regs = s.regs) (hreal : u.flt.real = s.flt.real) (hfailed : u.pwr.failed = s.pwr.failed)
    (hdram : u.dram = s.dram) : ReportKept s u :=
  ⟨⟨reg_of_regs _ hregs, by rw [hreal]⟩, reg_of_regs _ hregs, reg_of_regs _ hregs, hfailed, hdram⟩

theorem raiseEvent_reportKept (s : State) (code : Nat) (args : List Byte) : ReportKept s (raiseEvent s code args) :=
  reportKept_of_regs rfl rfl rfl rfl

theorem setReg_reportKept (s : State) (f : Field) (v : Nat) (hL : SparesReport [f]) : ReportKept s (s.setReg f v) :=
  reportKept_of hL (fun _ hk => setReg_word s f v (hk f List.mem_cons_self)) rfl rfl rfl

/-- A fault of another source. -/
theorem raiseFault_reportKept {src : Nat} (hkey : fieldKey (FLT.COUNT.COUNT src) ≠ fieldKey (FLT.COUNT.COUNT 7))
    (hne : src ≠ 7) (s : State) (cls : Nat) : ReportKept s (raiseFault s src cls) :=
  ⟨raiseFault_sourceKept hkey hne s cls, reg_eq_of_word (raiseFault_word (outside_of (by decide +kernel)) s src cls),
    reg_eq_of_word (raiseFault_word (outside_of (by decide +kernel)) s src cls), by simp, by simp⟩

end

/-! ### What the steps of a wake keep of it -/

section
variable (s : State)

theorem judgeRecord_reportKept (num : Nat) : ReportKept s (judgeRecord s num) := by
  unfold judgeRecord
  split
  · exact ReportKept.refl s
  · refine ReportKept.trans ?_ (raiseFault_reportKept (by decide) (by decide) _ 2)
    exact (setReg_reportKept s MRAM.STATUS.CFG_DEFAULTED 1 (sparesReport_of rfl rfl rfl)).trans
      ((setReg_reportKept _ MRAM.STATUS.DEF_RECORD num (sparesReport_of rfl rfl rfl)).trans (raiseEvent_reportKept _ _ _))
  · exact raiseFault_reportKept (by decide) (by decide) s 1

theorem judgeRecords_reportKept : ReportKept s (judgeRecords s) := by
  have hjudged : ReportKept s (recNums.foldl judgeRecord s) := ReportKept.foldl judgeRecord_reportKept recNums s
  unfold judgeRecords
  dsimp only
  split
  · exact hjudged
  · exact hjudged.trans ((setReg_reportKept _ MRAM.TORN_COUNT.COUNT _ (sparesReport_of rfl rfl rfl)).trans
      (setReg_reportKept _ MRAM.STATUS.TORN 1 (sparesReport_of rfl rfl rfl)))

theorem dramExit_reportKept : ReportKept s (dramExit s) :=
  reportKept_of (L := dramExitRegs) (sparesReport_of rfl rfl rfl) (fun _ hk => dramExit_word hk s) (by simp) (by simp)
    (by simp)

theorem scanEnable_real : (scanEnable s).flt.real = s.flt.real := by
  rw [scanEnable_eq]
  split
  · exact FallbackCauses.raiseCause_real _ _
  · rfl

theorem scanEnable_reportKept : ReportKept s (scanEnable s) :=
  reportKept_of (L := scanEnableRegs) (sparesReport_of rfl rfl rfl) (fun _ hk => scanEnable_word hk s) (scanEnable_real s)
    (by simp) (by simp)

theorem applyLimits_reportKept (l : Limits) : ReportKept s (applyLimits s l) :=
  reportKept_of (L := applyLimitsRegs) (sparesReport_of rfl rfl rfl) (fun _ hk => applyLimits_word hk s l) (by simp)
    (by simp) (by simp)

/-- A broken seal is a fault of source 11 (R260). -/
theorem breakSeal_reportKept (reason : Nat) : ReportKept s (breakSeal s reason) :=
  (applyLimits_reportKept s (limitsOf s true)).trans ((raiseEvent_reportKept _ _ _).trans
    (raiseFault_reportKept (by decide) (by decide) _ 2))

theorem sealAtReset_reportKept (pads : List Strap) : ReportKept s (sealAtReset s pads) := by
  have hread : ReportKept s { s with guard := { s.guard with straps := pads, strapsNow := pads, breakDue := false } } :=
    reportKept_of_regs rfl rfl rfl rfl
  have hshown := hread.trans ((setReg_reportKept _ SAFE.SEAL.STRAP (strapWord pads) (sparesReport_of rfl rfl rfl)).trans
    (setReg_reportKept _ SAFE.EFFECTIVE.RING_ROLE (strapLevel (pads.getD 5 .invalid)) (sparesReport_of rfl rfl rfl)))
  unfold sealAtReset
  dsimp only
  split
  · exact hshown.trans (breakSeal_reportKept _ 0)
  · exact hshown.trans (applyLimits_reportKept _ _)

theorem bootClocks_reportKept (good : Bool) : ReportKept s (bootClocks s good) := by
  refine reportKept_of (L := bootClocksRegs) (sparesReport_of rfl rfl rfl) (fun _ hk => bootClocks_word hk s good) (by simp)
    ?_ (by simp)
  unfold bootClocks
  split <;> simp [rampAll]

theorem applyBoard_reportKept : ReportKept s (applyBoard s) :=
  reportKept_of (L := applyBoardRegs) (sparesReport_of rfl rfl rfl) (fun _ hk => applyBoard_word hk s) (by simp) (by simp)
    (by simp)

theorem applyTiming_reportKept (b : List Byte) : ReportKept s (applyTiming s b) :=
  reportKept_of (L := applyTimingRegs) (sparesReport_of rfl rfl rfl) (fun _ hk => applyTiming_word hk s b) (by simp) (by simp)
    (by simp)

theorem raiseFaultN_reportKept (n : Nat) : ReportKept s (raiseFaultN s 48 1 n) := by
  unfold raiseFaultN
  split
  · exact ReportKept.refl s
  · exact (setReg_reportKept s (FLT.COUNT.COUNT 48) _ (sparesReport_of rfl rfl rfl)).trans
      (raiseFault_reportKept (by decide) (by decide) _ 1)

/-- Replaced masks are faults of source 48 (R30). -/
theorem writeTrimRow_reportKept (r : Nat) (masks : List Nat) : ReportKept s (writeTrimRow s r masks) := by
  have hdue : ReportKept s { s with pix := { s.pix with trimDue := sparseSet [] s.pix.trimDue r (masks.map cellMask) } } :=
    reportKept_of_regs rfl rfl rfl rfl
  exact hdue.trans ((setReg_reportKept _ DIAG.TRIM_REJ.COUNT _ (sparesReport_of rfl rfl rfl)).trans
    (raiseFaultN_reportKept _ _))

theorem restoreMasks_reportKept : ReportKept s (restoreMasks s) := by
  have hmasks (u : State) (v : Cal) : ReportKept u { u with cal := v } := reportKept_of_regs rfl rfl rfl rfl
  unfold restoreMasks
  exact ReportKept.foldl (fun u r => (hmasks u _).trans (writeTrimRow_reportKept _ r _)) (List.range 1024) s

theorem restoreArray_reportKept : ReportKept s (restoreArray s) := by
  have hmap : ReportKept s (restoreMap s) := reportKept_of_regs rfl rfl rfl rfl
  have hadopted (u : State) : ReportKept u (queueRead (queueRead (adoptMap u) 0 0x20) 1 0x20) :=
    reportKept_of_regs rfl rfl rfl rfl
  unfold restoreArray
  exact hmap.trans ((restoreMasks_reportKept _).trans (hadopted _))

theorem enableBlock_reportKept (n : Nat) : ReportKept s (enableBlock s n) :=
  reportKept_of (L := enableBlockRegs) (sparesReport_of rfl rfl rfl) (fun _ hk => enableBlock_word hk s n) (by simp) (by simp)
    (by simp)

theorem scanM7_reportKept : ReportKept s (scanM7 s) := by
  have hmode := (setReg_reportKept s (CLK.GATE.EN 13) 1 (sparesReport_of rfl rfl rfl)).trans
    (setReg_reportKept _ SCAN.MODE.MODE 7 (sparesReport_of rfl rfl rfl))
  unfold scanM7
  dsimp only
  split
  · exact hmode
  · exact hmode.trans (scanEnable_reportKept _)

theorem bringUp_reportKept : ReportKept s (bringUp s) := by
  have hblocks : ReportKept s ([4, 9, 10, 16, 17, 18, 19, 20].foldl enableBlock s) :=
    ReportKept.foldl enableBlock_reportKept _ s
  unfold bringUp
  dsimp only
  split
  · exact hblocks.trans (enableBlock_reportKept _ 8)
  · split
    · exact hblocks.trans (scanM7_reportKept _)
    · exact hblocks

end

/-! ### The end of a wake (R428, R468) -/

section
variable (u : State) (n : Nat)

/-- RUN shown and the WAKE event raised (R428). -/
def wakeTold : State :=
  raiseEvent (u.setReg PWR.STATE.STATE 0) 0x0901
    (toLe 1 (u.reg PWR.STATE.WAKE_SRC) ++ toLe 1 (u.reg PWR.STATE.WAKE_CODE) ++ toLe 1 n)

theorem wakeDone_of_failed (h : u.pwr.failed = true) :
    wakeDone u n = raiseFault { wakeTold u n with pwr := { (wakeTold u n).pwr with failed := false, repeats := 0 } } 7 2 :=
  if_pos h

theorem wakeDone_of_good (h : u.pwr.failed = false) :
    wakeDone u n = { wakeTold u n with pwr := { (wakeTold u n).pwr with repeats := 0 } } :=
  if_neg (ne_true_of_eq_false h)

/-- A fault below FATAL counts and places its request, and that is all (R532, R536). -/
theorem raiseFault_of_ne_fatal {cls : Nat} (h : cls ≠ 3) (s : State) (src : Nat) :
    raiseFault s src cls = { s.bump (FLT.COUNT.COUNT src) with flt := { s.flt with
      real := sparseSet none s.flt.real src (mergeWait (sparseGet none s.flt.real src) cls s.now) } } :=
  fatalAtDetection_of_ne h _ _ _

theorem wakeDone_keep : (wakeDone u n).dram = u.dram ∧ (wakeDone u n).scan = u.scan ∧ (wakeDone u n).clk = u.clk
    ∧ (wakeDone u n).flt.jorosh = (wakeTold u n).flt.jorosh := by
  cases h : u.pwr.failed with
  | true =>
    rw [wakeDone_of_failed u n h, raiseFault_of_ne_fatal (by decide)]
    exact ⟨rfl, rfl, rfl, rfl⟩
  | false =>
    rw [wakeDone_of_good u n h]
    exact ⟨rfl, rfl, rfl, rfl⟩

/-- Beside the count of source 7, the report of an earlier failure changes no register. -/
theorem wakeDone_reg_told {f : Field} (hcount : fieldKey (FLT.COUNT.COUNT 7) ≠ fieldKey f) :
    (wakeDone u n).reg f = (u.setReg PWR.STATE.STATE 0).reg f := by
  have htold : (wakeTold u n).reg f = (u.setReg PWR.STATE.STATE 0).reg f := rfl
  cases h : u.pwr.failed with
  | true =>
    rw [wakeDone_of_failed u n h, raiseFault_of_ne_fatal (by decide)]
    exact (reg_bump_ne _ _ _ hcount).trans htold
  | false =>
    rw [wakeDone_of_good u n h]
    exact htold

theorem wakeDone_reg {f : Field} (hstate : fieldKey PWR.STATE.STATE ≠ fieldKey f)
    (hcount : fieldKey (FLT.COUNT.COUNT 7) ≠ fieldKey f) : (wakeDone u n).reg f = u.reg f :=
  (wakeDone_reg_told u n hcount).trans (reg_setReg_ne u _ f 0 hstate)

theorem wakeDone_power : (wakeDone u n).power = 0 :=
  (wakeDone_reg_told u n (by decide)).trans (power_setReg_self u (by decide))

theorem wakeDone_flag {f : Field} (hstate : fieldKey PWR.STATE.STATE ≠ fieldKey f)
    (hcount : fieldKey (FLT.COUNT.COUNT 7) ≠ fieldKey f) : (wakeDone u n).flag f = u.flag f := by
  unfold State.flag
  rw [wakeDone_reg u n hstate hcount]

/-- The failure of an earlier wake is reported with source 7, and forgotten. -/
theorem wakeDone_reports (h : u.pwr.failed = true) :
    Faulted u (wakeDone u n) 7 2 ∧ (wakeDone u n).pwr.failed = false := by
  rw [wakeDone_of_failed u n h]
  refine ⟨?_, by simp⟩
  have hkept : SourceKept 7 u { wakeTold u n with pwr := { (wakeTold u n).pwr with failed := false, repeats := 0 } } :=
    ⟨reg_setReg_ne u PWR.STATE.STATE (FLT.COUNT.COUNT 7) 0 (by decide), rfl⟩
  exact faulted_before hkept (raiseFault_faulted _ 7 2)

end

/-- A wake from state `n` ends in RUN with the WAKE event of the device that woke. -/
theorem wakeDone_completes {s u : State} (h : ReportKept s u) (n : Nat) : (wakeDone u n).power = 0
    ∧ (wakeDone u n).dram = s.dram
    ∧ (∃ e ∈ (wakeDone u n).flt.jorosh, e.code = 0x0901 ∧ e.args = padTo 16 (toLe 1 (s.reg PWR.STATE.WAKE_SRC)
      ++ toLe 1 (s.reg PWR.STATE.WAKE_CODE) ++ toLe 1 n))
    ∧ (s.pwr.failed = true → Faulted s (wakeDone u n) 7 2 ∧ (wakeDone u n).pwr.failed = false) := by
  obtain ⟨hdram, -, -, hjorosh⟩ := wakeDone_keep u n
  refine ⟨wakeDone_power u n, hdram.trans h.dram, ?_, fun hfailed => ?_⟩
  · rw [hjorosh, ← h.source, ← h.code]
    exact ⟨_, List.mem_append_right _ (List.mem_singleton_self _), rfl, rfl⟩
  · obtain ⟨hfault, hforgotten⟩ := wakeDone_reports u n (h.failed.trans hfailed)
    exact ⟨faulted_before h.fault hfault, hforgotten⟩

/-! ### From LANDING (R461, R462, R513) -/

section
variable (s : State)

/-- CLK_CORE at its division again, VLED asked for at its maximum. -/
def landingClocked : State := { s with
  clk := { s.clk with div := if s.clk.div.getD 3 0 = 0 then s.clk.div else s.clk.div.set 3 (rampTarget s 3) }
  scan := { s.scan with vledAsk := vledMax s } }

/-- The DRAM awake and the records judged; the raster still to come. -/
def landingRestored : State := judgeRecords (dramExit (landingClocked s))

/-- The raster started where the entry stopped it. -/
def landingScans : State :=
  if s.pwr.scanEn ∧ (landingRestored s).flag SCAN.CTRL.EN = false then scanEnable (landingRestored s) else landingRestored s

theorem wakeLanding_eq : wakeLanding s = wakeDone (landingScans s) 1 := rfl

theorem landingRestored_reportKept : ReportKept s (landingRestored s) := by
  have hclocked : ReportKept s (landingClocked s) := reportKept_of_regs rfl rfl rfl rfl
  exact hclocked.trans ((dramExit_reportKept _).trans (judgeRecords_reportKept _))

theorem landingScans_reportKept : ReportKept s (landingScans s) := by
  unfold landingScans
  split
  · exact (landingRestored_reportKept s).trans (scanEnable_reportKept _)
  · exact landingRestored_reportKept s

theorem dramExit_selfRefresh : (dramExit s).flag DDRC.STATUS.SELF_REFRESH = false :=
  (flag_setFlag_ne _ _ _ _ (by decide)).trans (flag_setFlag_self _ _ _ (by decide) (by decide))

theorem landingRestored_flag {f : Field} (h : Outside judgeRecordsRegs (fieldKey f)) :
    (landingRestored s).flag f = (dramExit (landingClocked s)).flag f := flag_eq_of_word (judgeRecords_word h _)

theorem landingRestored_en : (landingRestored s).flag SCAN.CTRL.EN = s.flag SCAN.CTRL.EN :=
  (landingRestored_flag s (outside_of (by decide +kernel))).trans
    (flag_eq_of_word (dramExit_word (outside_of (by decide)) (landingClocked s)))

theorem landingRestored_selfRefresh : (landingRestored s).flag DDRC.STATUS.SELF_REFRESH = false :=
  (landingRestored_flag s (outside_of (by decide +kernel))).trans (dramExit_selfRefresh _)

theorem scanEnable_vledAsk : (scanEnable s).scan.vledAsk = s.scan.vledAsk := by
  rw [scanEnable_eq]
  split
  · rw [raiseCause_scan]
    rfl
  · rfl

/-- A fault or its absence leaves the code asked for. -/
theorem judgeRecord_vledAsk (num : Nat) : (judgeRecord s num).scan.vledAsk = s.scan.vledAsk := by
  unfold judgeRecord
  split
  · rfl
  · rw [raiseFault_of_ne_fatal (by decide)]
    rfl
  · rw [raiseFault_of_ne_fatal (by decide)]
    rfl

theorem judgeRecords_vledAsk : (judgeRecords s).scan.vledAsk = s.scan.vledAsk := by
  have hjudged (l : List Nat) (u : State) : (l.foldl judgeRecord u).scan.vledAsk = u.scan.vledAsk := by
    induction l generalizing u with
    | nil => rfl
    | cons x l ih => exact (ih _).trans (judgeRecord_vledAsk u x)
  have hall := hjudged recNums s
  unfold judgeRecords
  generalize recNums.foldl judgeRecord s = v at hall ⊢
  dsimp only
  split
  · exact hall
  · exact hall

theorem landingRestored_vledAsk : (landingRestored s).scan.vledAsk = vledMax s := by
  unfold landingRestored
  rw [judgeRecords_vledAsk]
  simp [landingClocked]

theorem landingScans_effects : (landingScans s).scan.vledAsk = vledMax s
    ∧ (landingScans s).flag DDRC.STATUS.SELF_REFRESH = false
    ∧ (landingScans s).flag SCAN.CTRL.EN = (s.flag SCAN.CTRL.EN || s.pwr.scanEn) := by
  unfold landingScans
  split
  · next h =>
    refine ⟨(scanEnable_vledAsk _).trans (landingRestored_vledAsk s), ?_, ?_⟩
    · exact (flag_eq_of_word (scanEnable_word (outside_of (by decide)) _)).trans (landingRestored_selfRefresh s)
    · rw [(scanEnable_effects _).1, h.1, Bool.or_true]
  · next h =>
    refine ⟨landingRestored_vledAsk s, landingRestored_selfRefresh s, ?_⟩
    rw [landingRestored_en] at h ⊢
    cases hen : s.flag SCAN.CTRL.EN with
    | true => rfl
    | false =>
      have hoff : s.pwr.scanEn = false := by simpa [hen] using h
      rw [hoff]
      rfl

theorem wakeLanding_effects : (wakeLanding s).scan.vledAsk = vledMax s
    ∧ (wakeLanding s).flag DDRC.STATUS.SELF_REFRESH = false
    ∧ (wakeLanding s).flag SCAN.CTRL.EN = (s.flag SCAN.CTRL.EN || s.pwr.scanEn) := by
  obtain ⟨hvled, hrefresh, hen⟩ := landingScans_effects s
  obtain ⟨-, hscan, -, -⟩ := wakeDone_keep (landingScans s) 1
  rw [wakeLanding_eq]
  exact ⟨(congrArg Scan.vledAsk hscan).trans hvled, (wakeDone_flag _ 1 (by decide) (by decide)).trans hrefresh,
    (wakeDone_flag _ 1 (by decide) (by decide)).trans hen⟩

/-! ### From CELLAR (R467, R507) -/

/-- The seal read again and the clocks up. -/
def cellarClocked : State := bootClocks (sealAtReset s s.guard.straps) false

/-- The records, the DRAM's delays, the array and the ports restored. -/
def cellarRestored : State :=
  bringUp (restoreArray (applyTiming (applyBoard (judgeRecords (cellarClocked s))) (payloadOf s 2).2))

theorem wakeCellar_eq : wakeCellar s = wakeDone (cellarRestored s) 2 := rfl

theorem cellarRestored_reportKept : ReportKept s (cellarRestored s) :=
  (sealAtReset_reportKept s _).trans ((bootClocks_reportKept _ false).trans ((judgeRecords_reportKept _).trans
    ((applyBoard_reportKept _).trans ((applyTiming_reportKept _ _).trans ((restoreArray_reportKept _).trans
      (bringUp_reportKept _))))))

theorem bootClocks_lock (good : Bool) : (bootClocks s good).flag CLK.STATUS.PLL_LOCK = true := by
  have hlock (u : State) : (lockPll u).flag CLK.STATUS.PLL_LOCK = true :=
    (flag_setFlag_ne _ _ _ _ (by decide)).trans (flag_setFlag_self _ _ _ (by decide) (by decide))
  exact hlock _

theorem bootClocks_gs (good : Bool) : (bootClocks s good).clk.div.getD 5 0 = 1000 := rfl

theorem cellarRestored_clocks : (cellarRestored s).clk = (cellarClocked s).clk := by
  simp [cellarRestored]

theorem cellarRestored_lock : (cellarRestored s).flag CLK.STATUS.PLL_LOCK = true := by
  refine Eq.trans (flag_eq_of_word ?_) (bootClocks_lock (sealAtReset s s.guard.straps) false)
  unfold cellarRestored
  rw [bringUp_word (outside_of (by decide +kernel)), restoreArray_word (outside_of (by decide +kernel)),
    applyTiming_word (outside_of (by decide +kernel)), applyBoard_word (outside_of (by decide +kernel)),
    judgeRecords_word (outside_of (by decide +kernel))]
  rfl

theorem wakeCellar_effects :
    (wakeCellar s).flag CLK.STATUS.PLL_LOCK = true ∧ (wakeCellar s).clk.div.getD 5 0 = 1000 := by
  obtain ⟨-, -, hclk, -⟩ := wakeDone_keep (cellarRestored s) 2
  rw [wakeCellar_eq]
  refine ⟨(wakeDone_flag _ 2 (by decide) (by decide)).trans (cellarRestored_lock s), ?_⟩
  rw [hclk, cellarRestored_clocks]
  exact bootClocks_gs _ false

end

section
variable {s : State}

theorem wakeSequence_completes (hpower : s.power = 5) (hheld : domainsHeld s = false)
    (hfrom : s.pwr.wakeFrom = 1 ∨ s.pwr.wakeFrom = 2) : Completes .wakeSequence s fun t =>
    t.power = 0 ∧ t.dram = s.dram
    ∧ (∃ e ∈ t.flt.jorosh, e.code = 0x0901 ∧ e.args = padTo 16 (toLe 1 (s.reg PWR.STATE.WAKE_SRC)
      ++ toLe 1 (s.reg PWR.STATE.WAKE_CODE) ++ toLe 1 s.pwr.wakeFrom))
    ∧ (s.pwr.failed = true → Faulted s t 7 2 ∧ t.pwr.failed = false)
    ∧ (s.pwr.wakeFrom = 1 → t.scan.vledAsk = vledMax s ∧ t.flag DDRC.STATUS.SELF_REFRESH = false
      ∧ t.flag SCAN.CTRL.EN = (s.flag SCAN.CTRL.EN || s.pwr.scanEn))
    ∧ (s.pwr.wakeFrom = 2 → t.flag CLK.STATUS.PLL_LOCK = true ∧ t.clk.div.getD 5 0 = 1000) := by
  have hwakes : exec .wakeSequence s = .next
      (if s.pwr.wakeFrom = 1 then wakeLanding s else if s.pwr.wakeFrom = 2 then wakeCellar s else s) :=
    congrArg Host.Outcome.next (if_pos ⟨hpower, hheld⟩)
  rcases hfrom with h | h
  · rw [if_pos h] at hwakes
    obtain ⟨hrun, hdram, hevent, hfault⟩ := wakeDone_completes (landingScans_reportKept s) 1
    rw [h]
    exact completes_of hwakes ⟨hrun, hdram, hevent, hfault, fun _ => wakeLanding_effects s, by simp⟩
  · rw [if_neg (by omega), if_pos h] at hwakes
    obtain ⟨hrun, hdram, hevent, hfault⟩ := wakeDone_completes (cellarRestored_reportKept s) 2
    rw [h]
    exact completes_of hwakes ⟨hrun, hdram, hevent, hfault, by simp, fun _ => wakeCellar_effects s⟩

end

/-! ### A readiness timeout (R468) -/

section
variable (s : State)

theorem repeatStep_effects (w : ReadyWait) : (repeatStep s w).pwr.repeats = s.pwr.repeats + 1
    ∧ (repeatStep s w).power = s.power ∧ (repeatStep s w).regs = s.regs := by
  cases w <;> exact ⟨rfl, rfl, rfl⟩

/-- The failure shown and counted, before the device falls back asleep. -/
def failureShown : State := (s.setFlag PWR.STATUS.WAKE_FAIL true).bump PWR.WAKE_FAIL_COUNT.COUNT

/-- A failed wake on the cold-boot path ends in DEEP, another one in CELLAR. -/
def failsToDeep : Bool := s.boot.cold || s.pwr.wakeFrom == 3

/-- The device asleep again (R468, R578). -/
def fallenBack : State :=
  if failsToDeep s then enterDeep ((failureShown s).setReg PWR.STATE.STATE 3) else (failureShown s).setReg PWR.STATE.STATE 2

theorem wakeFails_eq : wakeFails s = assertErr { fallenBack s with pwr := { (fallenBack s).pwr with
    repeats := 0, failed := true, sources := if s.pwr.sources = 0 then 7 else s.pwr.sources } }
    (fun f => { f with errWake := true }) := rfl

theorem failureShown_wakeFail : (failureShown s).reg PWR.STATUS.WAKE_FAIL = 1 :=
  (reg_bump_ne _ _ _ (by decide)).trans (reg_setFlag_self s _ true (by decide) (by decide))

theorem failureShown_counted : Counted s (failureShown s) PWR.WAKE_FAIL_COUNT.COUNT 1 := by
  have hcount : (s.setFlag PWR.STATUS.WAKE_FAIL true).reg PWR.WAKE_FAIL_COUNT.COUNT = s.reg PWR.WAKE_FAIL_COUNT.COUNT :=
    reg_setFlag_ne _ _ _ _ (by decide)
  unfold Counted failureShown
  rw [reg_bump_self _ _ (by decide), hcount]

/-- The always-on domain keeps the failure through the fall back to DEEP. -/
theorem fallenBack_reg {f : Field} (hstate : fieldKey PWR.STATE.STATE ≠ fieldKey f)
    (hlight : Outside lightRomRegs (fieldKey f)) (hf : f ∈ sleepKeeps)
    (hl : ∀ g ∈ sleepKeeps, fieldKey g = fieldKey f → g = f) (hw : f.width ≤ 32)
    (hv : (failureShown s).reg f < 2 ^ f.width) : (fallenBack s).reg f = (failureShown s).reg f := by
  have hshown (v : Nat) : ((failureShown s).setReg PWR.STATE.STATE v).reg f = (failureShown s).reg f :=
    reg_setReg_ne _ _ _ _ hstate
  unfold fallenBack
  split
  · exact (enterDeep_reg_of_kept _ hlight hf hl hw ((hshown 3).symm ▸ hv)).trans (hshown 3)
  · exact hshown 2

theorem fallenBack_power : (fallenBack s).power = if failsToDeep s then 3 else 2 := by
  have hshown {v : Nat} (hv : v < 8) : ((failureShown s).setReg PWR.STATE.STATE v).power = v := power_setReg_self _ hv
  unfold fallenBack
  split
  · have hdeep := hshown (v := 3) (by decide)
    exact (enterDeep_power _ (by omega)).trans hdeep
  · exact hshown (by decide)

theorem wakeFails_effects : (wakeFails s).power = (if s.boot.cold = true ∨ s.pwr.wakeFrom = 3 then 3 else 2)
    ∧ (wakeFails s).flag PWR.STATUS.WAKE_FAIL = true ∧ Counted s (wakeFails s) PWR.WAKE_FAIL_COUNT.COUNT 1
    ∧ (wakeFails s).flt.errWake = true ∧ errHeld (wakeFails s) = true ∧ (wakeFails s).pwr.failed = true := by
  have hregs : (wakeFails s).regs = (fallenBack s).regs := rfl
  have hflag : (fallenBack s).reg PWR.STATUS.WAKE_FAIL = 1 :=
    (fallenBack_reg s (by decide) (outside_of (by decide)) (by decide) (by decide +kernel) (by decide)
      (by rw [failureShown_wakeFail]; decide)).trans (failureShown_wakeFail s)
  have hcount : (fallenBack s).reg PWR.WAKE_FAIL_COUNT.COUNT = (failureShown s).reg PWR.WAKE_FAIL_COUNT.COUNT :=
    fallenBack_reg s (by decide) (outside_of (by decide)) (by decide) (by decide +kernel) (by decide)
      (FrameTiming.reg_lt _ _)
  refine ⟨?_, ?_, ?_, rfl, by simp [errHeld, wakeFails_eq, assertErr], rfl⟩
  · have hpower : (wakeFails s).power = if failsToDeep s then 3 else 2 :=
      (reg_of_regs _ hregs).trans (fallenBack_power s)
    simpa [failsToDeep] using hpower
  · unfold State.flag
    rw [reg_of_regs _ hregs, hflag]
    rfl
  · exact counted_after (failureShown_counted s) ((reg_of_regs _ hregs).trans hcount)

end

theorem wakeReadinessTimeout_completes {s : State} (w : ReadyWait) (hheld : domainsHeld s = false) (hpower : s.power = 5)
    (hfrom : s.pwr.wakeFrom = 2 ∨ s.pwr.wakeFrom = 3) : Completes (.wakeReadinessTimeout w) s fun t =>
    (s.pwr.repeats < s.reg PWR.CFG.RETRIES → t.pwr.repeats = s.pwr.repeats + 1 ∧ t.power = 5 ∧ t.regs = s.regs)
    ∧ (s.reg PWR.CFG.RETRIES ≤ s.pwr.repeats →
      t.power = (if s.boot.cold = true ∨ s.pwr.wakeFrom = 3 then 3 else 2)
      ∧ t.flag PWR.STATUS.WAKE_FAIL = true ∧ Counted s t PWR.WAKE_FAIL_COUNT.COUNT 1 ∧ t.flt.errWake = true ∧ errHeld t = true
      ∧ t.pwr.failed = true) := by
  have hrun : exec (.wakeReadinessTimeout w) s
      = .next (if s.pwr.repeats < s.reg PWR.CFG.RETRIES then repeatStep s w else wakeFails s) :=
    congrArg Host.Outcome.next (if_pos ⟨hheld, .inl ⟨hpower, by omega⟩⟩)
  by_cases hleft : s.pwr.repeats < s.reg PWR.CFG.RETRIES
  · rw [if_pos hleft] at hrun
    obtain ⟨hrepeats, hstill, hregs⟩ := repeatStep_effects s w
    exact completes_of hrun ⟨fun _ => ⟨hrepeats, hstill.trans hpower, hregs⟩, by omega⟩
  · rw [if_neg hleft] at hrun
    exact completes_of hrun ⟨by omega, fun _ => wakeFails_effects s⟩

end Sys2Proof.Machine.WakeSequences
end

section
/-! PROOF. SleepAndWake: wake sources, the end of a sleep entry, the wakes and their failure (11_host_and_side_ports.md R395;
14_clocks_and_power_states.md R461 to R468). -/

namespace Sys2Proof.Machine.SleepAndWake

open WakeSources SleepEntry WakeSequences

section
variable {s : State}

theorem sleepEntryAbort_aborts {src : WakeSource} (hpower : s.power = 4) (hsel : wakeSelected s (wakeNo src) = true) :
    exec (.sleepEntryAbort src) s = .next (abortEntry s) := congrArg Host.Outcome.next (if_pos ⟨hpower, hsel⟩)

theorem wakePin_aborts (hpower : s.power = 4) (hsel : wakeSelected s 2 = true) : exec .wakePin s = .next (abortEntry s) :=
  congrArg Host.Outcome.next (wakeBy_of_entering s hpower hsel)

/-- The idle tick that ends an entry: refused by a block, or in the state chosen. -/
theorem step_ends_entry (hempty : s.pending = []) (hpower : s.power = 4) : ∃ t, step s = .next t
    ∧ (∀ b, entryRefuser s = some b → t.power = 0 ∧ t.flag PWR.STATUS.REFUSED = true ∧ t.reg PWR.STATUS.LAST_REFUSER = b
      ∧ Counted s t PWR.REFUSE_COUNT.COUNT 1 ∧ t.flag SCAN.CTRL.EN = s.flag SCAN.CTRL.EN
      ∧ ∃ e ∈ t.flt.jorosh, e.code = 0x0902 ∧ e.args = padTo 16 (toLe 1 b ++ toLe 1 s.pwr.target ++ toLe 1 0))
    ∧ (entryRefuser s = none → s.pwr.target = 1 ∨ s.pwr.target = 2 ∨ s.pwr.target = 3 →
      t.power = s.pwr.target ∧ t.flag SCAN.CTRL.EN = false ∧ (s.flag SCAN.CTRL.EN = true → t.scan.running = false)
      ∧ (s.pwr.target = 1 → t.pwr.scanEn = s.flag SCAN.CTRL.EN ∧ (s.flag DDRC.CTRL.EN = true → t.flag DDRC.STATUS.SELF_REFRESH = true)
        ∧ t.shd.slots = s.shd.slots)
      ∧ (s.pwr.target = 2 → t.dram = s.dram ∧ t.now = 0 ∧ t.synced = false ∧ t.boot.jorosh = s.boot.jorosh
        ∧ t.flag SCAN.FB_CTRL.FB_VALID = false)
      ∧ (s.pwr.target = 3 → t.dram = [] ∧ t.now = 0 ∧ t.synced = false ∧ t.boot.jorosh = false)) := by
  refine ⟨finishEntry s, step_of_entering hempty hpower, fun b hrefuser => ?_, finishEntry_sleeps⟩
  rw [finishEntry_of_refuser hrefuser]
  exact refuseEntry_effects s (entryRefuser_lt s hrefuser)

theorem corePgRise_powers (h : s.pwr.coreEn = true) :
    exec .corePgRise s = .next { s with pwr := { s.pwr with corePg := true } } := congrArg Host.Outcome.next (if_pos h)

end

/-- Settles O53, command by command; the entry by the idle tick that ends it. -/
theorem sleepAndWake : Obligations.SleepAndWake := by
  unfold Obligations.SleepAndWake
  exact ⟨fun s addr data haddr hpower => wakePortWrite_records data haddr hpower,
    fun s addr data haddr hpower hsel => wakePortWrite_aborts data haddr hpower hsel,
    fun s src hpower hsel => sleepEntryAbort_aborts hpower hsel, fun s hpower hsel => wakePin_aborts hpower hsel,
    fun s => abortEntry_effects s, fun s hsel hpower => wakePin_completes hsel hpower, fun s h => wakePin_without_effect h,
    fun s hempty hpower => step_ends_entry hempty hpower,
    fun s hpower hheld hfrom => wakeSequence_completes hpower hheld hfrom,
    fun s w hheld hpower hfrom => wakeReadinessTimeout_completes w hheld hpower hfrom, fun s h => corePgRise_powers h⟩

end Sys2Proof.Machine.SleepAndWake
end

section
/-! PROOF. WholeBlock: the queue of commands, the outcomes of commands and the state after reset (95_what_each_step_holds.md,
18_registers_and_check_units.md R551). -/

namespace Sys2Proof.Machine.WholeBlock

/-- Settles O1: by the definition of a step on a queue that is not empty. -/
theorem stepRunsTheFrontCommand : Obligations.StepRunsTheFrontCommand := by
  unfold Obligations.StepRunsTheFrontCommand
  intro c rest s hpending
  unfold step
  rw [hpending]

/-- Settles O4: each meaning is a next state, or a choice of next states by the branches of its definition. -/
theorem everyCommandGoesOn : Obligations.EveryCommandGoesOn := by
  unfold Obligations.EveryCommandGoesOn
  intro c s
  cases c with
  | frameStart | rowSlotStart | rowDelivered | pwmPeriodStart | rasterStart | bufferRetire | kilnBuildComplete =>
    simp only [exec, execFrameStart, execRowSlotStart, execRowDelivered, execPwmPeriodStart, execRasterStart, execBufferRetire,
      execKilnBuildComplete]
    (repeat' split) <;> exact ⟨_, rfl⟩
  | blankPassStart | blankRowSlot | bandTimeout | selfTestComplete | computeRestored | safePacket | safePartnerTimeout
  | strapReread | hourlyCheckpoint =>
    simp only [exec, execBlankPassStart, execBlankRowSlot, execBandTimeout, execSelfTestComplete, execComputeRestored,
      execSafePacket, execSafePartnerTimeout, execStrapReread, execHourlyCheckpoint]
    (repeat' split) <;> exact ⟨_, rfl⟩
  | vrowPacket | objPacket | mboxReqPacket | nopTopo | nopSleep | syncReqPacket | syncAckPacket | timeSetReceived
  | wrapEndTimer | localPacketResend =>
    simp only [exec, execVrowPacket, execObjPacket, execMboxReqPacket, execNopTopo, execNopSleep, execSyncReqPacket,
      execSyncAckPacket, execTimeSetReceived, execWrapEndTimer, execLocalPacketResend]
    (repeat' split) <;> exact ⟨_, rfl⟩
  | eventPacketSend | auxFrameGrid | auxGatePeriodStart =>
    simp only [exec, execEventPacketSend, execAuxFrameGrid, execAuxGatePeriodStart]
    (repeat' split) <;> exact ⟨_, rfl⟩
  | _ => exact ⟨_, rfl⟩

/-- An empty store reads every field as its reset value (R551). -/
theorem reset_reads (f : Field) : State.reset.reg f = f.reset.toNat ∧ State.reset.actReg f = f.reset.toNat :=
  ⟨congrArg BitVec.toNat BitVec.zero_xor, congrArg BitVec.toNat BitVec.zero_xor⟩

/-- Settles O3: the fields by the empty stores, the rest by the value of `State.reset`. -/
theorem resetState : Obligations.ResetState := by
  unfold Obligations.ResetState
  exact ⟨reset_reads, rfl, by decide, rfl, rfl, rfl, rfl, rfl, rfl, rfl, fun src => ⟨rfl, rfl⟩, rfl, rfl, by decide, rfl, rfl,
    fun a => rfl⟩

/-- Settles O8: nothing is listed or queued after reset, and the parts of fixed number are all there. -/
theorem invariantsHoldAtReset : Obligations.InvariantsHoldAtReset := by
  unfold Obligations.InvariantsHoldAtReset
  have hmemory : MemoryOk State.reset := ⟨rfl, rfl⟩
  have hevents : EventsOk State.reset := ⟨Nat.zero_le _, Nat.zero_le _⟩
  have hmail : MailOk State.reset := ⟨rfl, Nat.zero_le _⟩
  exact ⟨hmemory, rfl, hevents, hmail, rfl, rfl, rfl, rfl, rfl, rfl, rfl, rfl, rfl, rfl⟩

end Sys2Proof.Machine.WholeBlock
end

section
/-! PROOF. MailFrames: what the mailboxes and their commands leave unchanged (12_mailbox_command_set.md). -/

namespace Sys2Proof.Machine.MailFrames

/-! ### Fields -/

section
variable {k : Nat} {s : State} {mb op : Nat}

/-- A command leaves the fields that its operation leaves, with the parameters of the request. -/
theorem command_word {f : State → List Byte → State} (hf : wordAt (f s (s.params mb)).regs k = wordAt s.regs k) :
    wordAt (command s mb op f).regs k = wordAt s.regs k := wordAt_ite_of (fun _ => hf) (fun _ => rfl)

theorem needLen_word {ok : Bool} {t : State} (ht : wordAt t.regs k = wordAt s.regs k) :
    wordAt (needLen s mb ok t).regs k = wordAt s.regs k := wordAt_ite_of (fun _ => ht) (fun _ => by simp)

/-- REG_READ leaves the fields outside the words of its burst (R388, R423). -/
theorem regRead_word (p : List Byte) (hk : Outside (burstRegs readRegs (leAt p 0 4) (leAt p 4 1)) k) :
    wordAt (regRead mb s p).regs k = wordAt s.regs k := by
  have hburst := readBurst_word s (leAt p 0 4) (leAt p 4 1) (burst_out hk)
  refine needLen_word (wordAt_ite_of (fun _ => by simp) (fun _ => wordAt_ite_of (fun _ => ?_) (fun _ => ?_)))
  · simpa using hburst
  · simpa using hburst

/-- REG_WRITE leaves the fields outside what writes to the words of its burst may change (R388, R423). -/
theorem regWrite_word (p : List Byte) (hk : Outside (burstRegs writeRegs (leAt p 0 4) (leAt p 4 1)) k) :
    wordAt (regWrite mb s p).regs k = wordAt s.regs k := by
  refine needLen_word (wordAt_ite_of (fun _ => by simp) (fun _ => ?_))
  simpa using writeBurst_word s (leAt p 0 4) ((List.range (leAt p 4 1)).map (fun i => BitVec.ofNat 32 (leAt p (8 + 4 * i) 4)))
    (by simpa using burst_out hk)

end

/-! ### Packets taken and sent (R412, R427) -/

section
variable {s t : State}

theorem mboxReqPacket_cases {p : Port} (h : execMboxReqPacket p s = .next t) : t = s ∨
    ∃ u k r n src b c, takePacket s (portNo p) 4 = some (u, k, r) ∧ tatexRequest u (portNo p) n src b c = t := by
  unfold execMboxReqPacket at h
  split at h
  · exact .inl (by cases h; rfl)
  · next u k r htake => exact .inr ⟨u, k, r, _, _, _, _, htake, Host.Outcome.next.inj h⟩

theorem eventPacketSend_cases (h : execEventPacketSend s = .next t) : t = s ∨ ∃ n l,
    sendLocal { s with evt := { s.evt with unsent := n } } 6 (s.reg TXLA.EVT.EVT_DEST) 0 l = t := by
  unfold execEventPacketSend at h
  dsimp only at h
  split at h
  · exact .inr ⟨_, _, Host.Outcome.next.inj h⟩
  · exact .inl (Host.Outcome.next.inj h).symm

end

/-! ### Commands -/

theorem parts_of_row {i : Instr} {s t : State} {c : Nat} {P : List Part} {L : Option (List Field)}
    (hrow : mayChange s i = ⟨c, P, L⟩) (h : ∀ p, p ∉ P → p.Same s t) : ∀ p, p ∉ (mayChange s i).parts → p.Same s t := by
  rw [hrow]
  exact h

section
variable {i : Instr} {s t : State} (hchapter : (mayChange s i).chapter = 4) (h : exec i s = .next t)
include hchapter h

/-- The parts of State that each command of the chapter leaves alone. -/
theorem mailCommands_parts : t.pending = s.pending ∧ ∀ p, p ∉ (mayChange s i).parts → p.Same s t := by
  cases i with
  | identify | sessionAuth | sessionClose | echo | fenceWait | fenceWaitTimeout | videoWindow | objRead | pixelAge
  | mapRead | zoneRatio | vfRead | doseRead | witnessRead | eventsHistory | cfgRead | enumerateTimeout |
  sessionOpen | setLt | frameStats | rsetEntry | rsetDelete | rsetSubmit | safeWindow | eventsRead | flashWrite
  | flashErase | slotSelect | setMode | commit | layerFlip | lutLoad | objWrite | objClear | patternLoad |
  symlibLoad | lensRead | fbRelease | fbPattern | reseal | mapClear | recalibrate | powerDown | enumerate |
  assignAddr | cfgWrite | mbxAck | evtPop | commandAccept | commandStart | mboxRspResend | sessionIdleTimeout |
  regRead | regWrite | nopEnum | nopEnumEnd | canDiagSegment | doorbell =>
    cases h
    exact ⟨by simp, parts_of_row rfl (fun p hp => by cases p <;> simp [mailParts, Part.Same] at hp ⊢)⟩
  | mboxReqPacket p =>
    rcases mboxReqPacket_cases h with rfl | ⟨u, k, r, n, src, b, c, htake, rfl⟩
    · exact ⟨rfl, fun p _ => EngineFrames.same_refl _ p⟩
    · have hall := takePacket_all htake
      exact ⟨by simp [hall], parts_of_row rfl (fun p hp => by cases p <;> simp [mailParts, Part.Same, hall] at hp ⊢)⟩
  | eventPacketSend =>
    rcases eventPacketSend_cases h with rfl | ⟨n, l, rfl⟩
    · exact ⟨rfl, fun p _ => EngineFrames.same_refl _ p⟩
    · exact ⟨by simp, parts_of_row rfl (fun p hp => by cases p <;> simp [Part.Same] at hp ⊢)⟩
  | _ => simp [mayChange] at hchapter

/-- The fields that each command of the chapter leaves alone. -/
theorem mailCommands_words {l : List Field} (hl : (mayChange s i).regs = some l) {k : Nat} (hk : Outside l k) :
    wordAt t.regs k = wordAt s.regs k := by
  cases i with
  | identify | sessionAuth | sessionClose | echo | fenceWait | fenceWaitTimeout | videoWindow | objRead | pixelAge
  | mapRead | zoneRatio | vfRead | doseRead | witnessRead | eventsHistory | cfgRead | enumerateTimeout |
  sessionOpen | setLt | frameStats | rsetEntry | rsetDelete | rsetSubmit | safeWindow | eventsRead | flashWrite
  | flashErase | slotSelect | mbxAck | evtPop | commandAccept | commandStart | mboxRspResend |
  sessionIdleTimeout =>
    cases h
    simp
  | setMode mb => cases hl; cases h; exact command_word (setMode_word (hk.mono (by decide +kernel)) mb s _)
  | commit mb => cases hl; cases h; exact command_word (commitCmd_word (hk.mono (by decide +kernel)) mb s _)
  | layerFlip mb => cases hl; cases h; exact command_word (layerFlip_word (hk.mono (by decide +kernel)) mb s _)
  | lutLoad mb => cases hl; cases h; exact command_word (lutLoad_word (hk.mono (by decide +kernel)) mb s _)
  | objWrite mb => cases hl; cases h; exact command_word (objWrite_word (hk.mono (by decide +kernel)) mb s _)
  | objClear mb => cases hl; cases h; exact command_word (objClear_word (hk.mono (by decide +kernel)) mb s _)
  | patternLoad mb => cases hl; cases h; exact command_word (patternLoad_word (hk.mono (by decide +kernel)) mb s _)
  | symlibLoad mb => cases hl; cases h; exact command_word (symlibLoad_word (hk.mono (by decide +kernel)) mb s _)
  | lensRead mb lens => cases hl; cases h; exact command_word (lensRead_word (hk.mono (by decide +kernel)) mb lens s _)
  | fbRelease mb => cases hl; cases h; exact command_word (fbRelease_word (hk.mono (by decide +kernel)) mb s _)
  | fbPattern mb readBack =>
    cases hl
    cases h
    exact command_word (fbPattern_word (hk.mono (by decide +kernel)) mb readBack s _)
  | reseal mb verified =>
    cases hl
    cases h
    exact command_word (reseal_word (hk.mono (by decide +kernel)) mb verified s _)
  | mapClear mb => cases hl; cases h; exact command_word (mapClear_word (hk.mono (by decide +kernel)) mb s _)
  | recalibrate mb readings badRows =>
    cases hl
    cases h
    exact command_word (recalibrate_word (hk.mono (by decide +kernel)) mb readings badRows s _)
  | powerDown mb => cases hl; cases h; exact command_word (powerDown_word (hk.mono (by decide +kernel)) mb s _)
  | enumerate mb => cases hl; cases h; exact command_word (enumerateCmd_word (hk.mono (by decide +kernel)) mb s _)
  | assignAddr mb => cases hl; cases h; exact command_word (assignAddr_word (hk.mono (by decide +kernel)) mb s _)
  | cfgWrite mb verified =>
    cases hl
    cases h
    exact command_word (cfgWrite_word (hk.mono (by decide +kernel)) mb verified s _)
  | regRead mb => cases hl; cases h; exact command_word (regRead_word _ hk)
  | regWrite mb => cases hl; cases h; exact command_word (regWrite_word _ hk)
  | mboxReqPacket p =>
    cases hl
    rcases mboxReqPacket_cases h with rfl | ⟨u, k, r, n, src, b, c, htake, rfl⟩
    · rfl
    · obtain ⟨-, hregs, -⟩ := takePacket_all htake
      rw [tatexRequest_word (hk.mono (by decide +kernel)), hregs]
  | eventPacketSend =>
    cases hl
    rcases eventPacketSend_cases h with rfl | ⟨n, l, rfl⟩
    · rfl
    · simp
  | nopEnum p => cases hl; cases h; simpa using nopEnum_word (hk.mono (by decide)) p s
  | nopEnumEnd p => cases hl; cases h; simpa using nopEnumEnd_word (hk.mono (by decide)) p s
  | canDiagSegment f =>
    cases hl
    cases h
    exact wordAt_ite_of (fun _ => wordAt_ite_of (fun _ => canSegment_word (hk.mono (by decide)) s _)
      (fun _ => bump_word s _ (hk _ (by simp)))) (fun _ => rfl)
  | doorbell w => cases hl; cases h; exact doorbell_word (hk.mono (by decide)) s _
  | _ => simp [mayChange] at hchapter

end

/-- Settles O12: by the parts and by the fields that each command leaves alone. -/
theorem frameOfMailCommands : Obligations.FrameOfMailCommands := by
  unfold Obligations.FrameOfMailCommands
  intro i s t hchapter h
  obtain ⟨hpending, hparts⟩ := mailCommands_parts hchapter h
  exact ⟨hpending, hparts, fun l hl f hf => reg_eq_of_word (mailCommands_words hchapter h hl hf)⟩

end Sys2Proof.Machine.MailFrames
end

section
/-! PROOF. RegFrames: what the register accesses, the check units and the SPI frames leave unchanged
(18_registers_and_check_units.md, 11_host_and_side_ports.md). -/

namespace Sys2Proof.Machine.RegFrames

open EngineFrames (Changes setReg_changes)

/-! ### The registers of a check unit (R563) -/

/-- A write of a word that holds one WO field of a check unit, and nothing else, is that command alone. -/
theorem wordWrite_of_command {s : State} {f : Field} {w : Word} (hfields : fieldsAt f.addr = [f]) (hwo : f.access = .wo)
    (haddr : 0x70100 ≤ f.addr ∧ f.addr < 0x70180) : wordWrite s f.addr w = commandWrite s f.addr w := by
  obtain ⟨hlo, hhi⟩ := haddr
  have hblock : f.addr / 0x10000 = 7 := by omega
  have hmbx : mbxArea f.addr = none := if_neg (by omega)
  have hen : CRC.CTRL.EN.addr ≠ f.addr := by
    intro h
    rw [← h] at hlo
    exact absurd hlo (by decide)
  have hwrite (on : Bool) (v : Nat) : fieldWrite s 7 on f v = s := by
    have hlut : f ≠ GAL.LUT_DATA.ENTRY := fun h => absurd (h ▸ hhi) (by decide)
    unfold fieldWrite
    rw [if_neg (by omega), if_neg (by omega), if_neg (by omega), if_neg hlut, hwo]
  unfold wordWrite
  rw [hmbx]
  dsimp only
  rw [hfields, hblock]
  simp only [blockEn, if_neg hen]
  congr 1
  rw [List.filter_cons]
  split <;> simp [hwrite]

theorem commandWrite_of_unit (s : State) {a : Nat} (ha : 0x70100 ≤ a ∧ a < 0x70180) (w : Word) :
    commandWrite s a w = crcWrite s ((a - 0x70100) / 0x20) ((a - 0x70100) % 0x20) w := by
  have hne {f : Field} (hf : f.addr < 0x70100 ∨ 0x70180 ≤ f.addr) : a ≠ f.addr := by omega
  unfold commandWrite
  dsimp only
  rw [if_neg (hne (by decide)), if_neg (hne (by decide)), if_neg (hne (by decide)), if_neg (hne (by decide)),
    if_neg (hne (by decide)), if_neg (hne (by decide)), if_neg (hne (by decide)), if_neg (hne (by decide)),
    if_neg (not_or.mpr ⟨hne (by decide), hne (by decide)⟩), if_pos ha]

section
variable (s : State) {u : Nat} (hu : u < 4) (w : Word)
include hu

theorem wordWrite_init : wordWrite s (CRC.U.INIT u).addr w = crcStart s u := by
  have hfields : fieldsAt (CRC.U.INIT u).addr = [CRC.U.INIT u] := by interval_cases u <;> decide +kernel
  have haddr : (CRC.U.INIT u).addr = 0x70104 + 0x20 * u := by simp [CRC.U.INIT]; omega
  rw [wordWrite_of_command hfields rfl (by omega), commandWrite_of_unit s (by omega), haddr,
    show (0x70104 + 0x20 * u - 0x70100) / 0x20 = u by omega, show (0x70104 + 0x20 * u - 0x70100) % 0x20 = 4 by omega]
  rfl

theorem wordWrite_data : wordWrite s (CRC.U.DATA u).addr w = crcFeed s u (toLe 4 w.toNat) := by
  have hfields : fieldsAt (CRC.U.DATA u).addr = [CRC.U.DATA u] := by interval_cases u <;> decide +kernel
  have haddr : (CRC.U.DATA u).addr = 0x70108 + 0x20 * u := by simp [CRC.U.DATA]; omega
  rw [wordWrite_of_command hfields rfl (by omega), commandWrite_of_unit s (by omega), haddr,
    show (0x70108 + 0x20 * u - 0x70100) / 0x20 = u by omega, show (0x70108 + 0x20 * u - 0x70100) % 0x20 = 8 by omega]
  rfl

theorem wordWrite_data8 : wordWrite s (CRC.U.DATA8 u).addr w = crcFeed s u (toLe 1 w.toNat) := by
  have hfields : fieldsAt (CRC.U.DATA8 u).addr = [CRC.U.DATA8 u] := by interval_cases u <;> decide +kernel
  have haddr : (CRC.U.DATA8 u).addr = 0x7010C + 0x20 * u := by simp [CRC.U.DATA8]; omega
  rw [wordWrite_of_command hfields rfl (by omega), commandWrite_of_unit s (by omega), haddr,
    show (0x7010C + 0x20 * u - 0x70100) / 0x20 = u by omega, show (0x7010C + 0x20 * u - 0x70100) % 0x20 = 12 by omega]
  rfl

end

/-- A write below the bit aliases is that of its word, or a bus error. -/
theorem busWrite_cases (s : State) {x : Nat} (hx : x < 0x20000000) (w : Word) :
    busWrite s x w = s ∨ busWrite s x w = wordWrite s x w := by
  have halias : aliasOf x = none := if_neg (by omega)
  unfold busWrite busWrite?
  split
  · exact .inl rfl
  · exact .inr (by rw [halias]; rfl)

section
variable {P : List Part} {L : List Field} {s : State}

/-- A check unit changes its own running value and count, or notes an ignored write (R556, R563). -/
theorem crcGuard_changes {u : Nat} {t : State} (ht : Changes [] [CRC.U.RUNNING u, CRC.U.COUNT u] s t) :
    Changes [] (checkRegs u) s (crcGuard s t) := by
  refine Changes.ite (fun _ => ⟨ht.pending, ht.parts, fun k hk => ht.words k ?_⟩)
    (fun _ => ⟨rfl, fun p _ => by cases p <;> rfl, fun k hk => ?_⟩)
  · exact fun f hf => hk f (List.mem_append_left [SYS.WIGN.BLOCK] hf)
  · exact orReg_word s _ _ (hk _ (by simp [checkRegs]))

theorem crcStart_changes (u : Nat) : Changes [] (checkRegs u) s (crcStart s u) :=
  crcGuard_changes ((setReg_changes s (CRC.U.RUNNING u) _).trans (setReg_changes _ (CRC.U.COUNT u) 0))

theorem crcFeed_changes (u : Nat) (l : List Byte) : Changes [] (checkRegs u) s (crcFeed s u l) :=
  crcGuard_changes ((setReg_changes s (CRC.U.RUNNING u) _).trans (setReg_changes _ (CRC.U.COUNT u) _))

theorem checkUnit_changes {u x : Nat} {w : Word} (hx : x < 0x20000000) (h : Changes [] (checkRegs u) s (wordWrite s x w)) :
    Changes [] (checkRegs u) s (busWrite s x w) := by
  rcases busWrite_cases s hx w with e | e
  · rw [e]; exact Changes.refl _ _ _
  · rw [e]; exact h

end

/-! ### Bursts (R388) -/

section
variable {k : Nat} {s : State}

theorem burst_mono {g : Nat → List Field} {x m n : Nat} (hmn : m ≤ n) (hk : Outside (burstRegs g x n) k) :
    Outside (burstRegs g x m) k := by
  intro f hf
  obtain ⟨i, hi, hf⟩ := List.mem_flatMap.mp hf
  exact hk f (List.mem_flatMap.mpr ⟨i, List.mem_range.mpr (by have := List.mem_range.mp hi; omega), hf⟩)

theorem spiRead_word {len : Nat} {addr hcrc : Word} (hk : Outside (burstRegs readRegs addr.toNat len) k) :
    wordAt (spiRead s addr len hcrc).regs k = wordAt s.regs k := by
  have hburst := readBurst_word s addr.toNat len (burst_out hk)
  refine wordAt_ite_of (fun _ => wordAt_ite_of (fun _ => rfl) (fun _ => rfl)) (fun _ => hburst)

theorem spiWrite_word {len : Nat} {addr hcrc dcrc : Word} {data : List Word}
    (hk : Outside (burstRegs writeRegs addr.toNat len) k) :
    wordAt (spiWrite s addr len hcrc data dcrc).regs k = wordAt s.regs k := by
  refine wordAt_ite_of (fun _ => rfl) (fun _ => wordAt_ite_of (fun _ => rfl) (fun hdata => ?_))
  obtain ⟨hlen, -⟩ := not_or.mp hdata
  rw [← not_not.mp hlen] at hk
  exact writeBurst_word s addr.toNat data (burst_out hk)

end

/-! ### Commands -/

section
variable {i : Instr} {s t : State} (hchapter : (mayChange s i).chapter = 7) (h : exec i s = .next t)
include hchapter h

/-- Each register access keeps within its row of the table. -/
theorem regCommands_framed : Framed i s t := by
  cases i with
  | spiRead addr len hcrc =>
    cases h
    refine Changes.framed rfl ⟨by simp, fun p hp => by cases p <;> simp [Part.Same] at hp ⊢, fun k hk => ?_⟩
    exact wordAt_ite_of (fun _ => spiRead_word hk) (fun _ => rfl)
  | spiWrite addr len hcrc data dcrc =>
    cases h
    refine Changes.framed rfl ⟨by simp, fun p hp => by cases p <;> simp [Part.Same] at hp ⊢, fun k hk => ?_⟩
    exact wordAt_ite_of (fun _ => spiWrite_word hk) (fun _ => rfl)
  | spiReread len addr hcrc =>
    cases h
    exact Changes.framed rfl ⟨by simp, fun p hp => by cases p <;> simp [Part.Same] at hp ⊢, fun k hk => by simp⟩
  | spiFrameAbort addr len hcrc isRead fetched =>
    cases h
    refine Changes.framed rfl ⟨by simp, fun p hp => by cases p <;> simp [Part.Same] at hp ⊢, fun k hk => ?_⟩
    exact wordAt_ite_of (fun _ => readBurst_word s _ _ (burst_out (burst_mono (Nat.min_le_left _ _) hk))) (fun _ => rfl)
  | rcFieldRead addr =>
    cases h
    exact Changes.framed rfl ⟨by simp, fun p hp => by cases p <;> simp [Part.Same] at hp ⊢, fun k hk => busRead_word s _ hk⟩
  | aliasRead addr =>
    cases h
    exact Changes.framed rfl (Changes.ite
      (fun _ => ⟨by simp, fun p hp => by cases p <;> simp [Part.Same] at hp ⊢, fun k hk => busRead_word s _ hk⟩)
      (fun _ => Changes.refl _ _ _))
  | registerWrite addr w =>
    cases h
    exact Changes.framed rfl ⟨by simp, fun p hp => by cases p <;> simp [Part.Same] at hp ⊢, fun k hk => busWrite_word s _ w hk⟩
  | aliasWrite addr w =>
    cases h
    exact Changes.framed rfl (Changes.ite
      (fun _ => ⟨by simp, fun p hp => by cases p <;> simp [Part.Same] at hp ⊢, fun k hk => busWrite_word s _ w hk⟩)
      (fun _ => Changes.refl _ _ _))
  | crcInit u w =>
    cases h
    refine Changes.framed rfl (Changes.ite (fun hu => checkUnit_changes ?_ ?_) (fun _ => Changes.refl _ _ _))
    · simp [CRC.U.INIT]; omega
    · rw [wordWrite_init s hu w]; exact crcStart_changes u
  | crcData u w =>
    cases h
    refine Changes.framed rfl (Changes.ite (fun hu => checkUnit_changes ?_ ?_) (fun _ => Changes.refl _ _ _))
    · simp [CRC.U.DATA]; omega
    · rw [wordWrite_data s hu w]; exact crcFeed_changes u _
  | crcData8 u w =>
    cases h
    refine Changes.framed rfl (Changes.ite (fun hu => checkUnit_changes ?_ ?_) (fun _ => Changes.refl _ _ _))
    · simp [CRC.U.DATA8]; omega
    · rw [wordWrite_data8 s hu w]; exact crcFeed_changes u _
  | _ => simp [mayChange] at hchapter

end

/-- Settles O15: each access lies within its row of the table. -/
theorem frameOfRegisterAccess : Obligations.FrameOfRegisterAccess := by
  unfold Obligations.FrameOfRegisterAccess
  exact fun i s t hchapter h => regCommands_framed hchapter h

end Sys2Proof.Machine.RegFrames
end

section
/-! PROOF. SystemFrames: what the commands of the clocks, power states, thermal management, memories, fault collector and start-up
leave unchanged (14_clocks_and_power_states.md to 19_startup_reset_and_bringup.md). -/

namespace Sys2Proof.Machine.SystemFrames

open MailFrames (command_word parts_of_row)

theorem supervisorRestart_cases {s t : State} (h : execSupervisorRestart s = .next t) :
    t = s ∨ ∃ inj, supervisorRestart s inj = t := by
  unfold execSupervisorRestart at h
  have ht := Host.Outcome.next.inj h
  split at ht
  · next inj _ =>
    split at ht
    · exact .inl ht.symm
    · exact .inr ⟨inj, ht⟩
  · exact .inl ht.symm

/-! ### Commands -/

section
variable {i : Instr} {s t : State} (hchapter : (mayChange s i).chapter = 6) (h : exec i s = .next t)
include hchapter h

/-- The parts of State that each command of the chapter leaves alone. -/
theorem systemCommands_parts : t.pending = s.pending ∧ ∀ p, p ∉ (mayChange s i).parts → p.Same s t := by
  cases i with
  | mapEntryCommit | rampDwellStep | crystalDelayExpiry | dramRefresh | zqCalibration | mramRecordCommit
  | mramCopyRepair | wearAllowanceTick | errNMinWidthExpiry | corePgRise | lowbeamReqAssert
  | lowbeamReqRelease | faultInject | injectRepeat | pwrSleep | clockMonitorTrip | clocksGood
  | refclkDetectWindow | pllLock | clkDivWrite | ssRefWrite | clkGateWrite | sleepEntryAbort | wakePin
  | dramIdleSelfRefresh | thermalSample | housekeepingRound | hardTripRelease | ddrcEnSet | dramActivate
  | ddrAlert | dramReadError | tolCountdownExpiry | dramIdlePowerState | faultDetect | faultGrant | fltAck
  | restartComplete | resetNRelease | coldBoot | wakeSequence | clkswForced | patrolScrub | mramScrub
  | wakeReadinessTimeout | hardTrip | vsys33PowerOn | supplyFail | resetNAssert =>
    cases h
    exact ⟨by simp, parts_of_row rfl (fun p hp => by cases p <;> simp [resetParts, Part.Same] at hp ⊢)⟩
  | supervisorRestart =>
    rcases supervisorRestart_cases h with rfl | ⟨inj, rfl⟩
    · exact ⟨rfl, fun p _ => EngineFrames.same_refl _ p⟩
    · exact ⟨by simp, parts_of_row rfl (fun p hp => by cases p <;> simp [Part.Same] at hp ⊢)⟩
  | _ => simp [mayChange] at hchapter

/-- The fields that each command of the chapter leaves alone. -/
theorem systemCommands_words {l : List Field} (hl : (mayChange s i).regs = some l) {k : Nat} (hk : Outside l k) :
    wordAt t.regs k = wordAt s.regs k := by
  cases i with
  | mapEntryCommit | rampDwellStep | crystalDelayExpiry | dramRefresh | zqCalibration | mramRecordCommit
  | mramCopyRepair | wearAllowanceTick | errNMinWidthExpiry | corePgRise =>
    cases h
    simp
  | lowbeamReqAssert =>
    cases hl
    cases h
    exact wordAt_ite_of (fun _ => rfl) (fun _ => lowbeamRise_word (hk.mono (by decide +kernel)) s)
  | lowbeamReqRelease =>
    cases hl
    cases h
    exact wordAt_ite_of (fun _ => lowbeamFall_word (hk.mono (by decide +kernel)) s) (fun _ => rfl)
  | faultInject mb => cases hl; cases h; exact command_word (faultInject_word (hk.mono (by decide +kernel)) mb s _)
  | injectRepeat =>
    cases hl
    cases h
    exact wordAt_ite_of (fun _ => rfl) (fun _ => injectRepeat_word (hk.mono (by decide +kernel)) s)
  | pwrSleep mb srAck =>
    cases hl
    cases h
    exact command_word (pwrSleep_word (hk.mono (by decide +kernel)) mb srAck s _)
  | clockMonitorTrip clks => cases hl; cases h; exact clockMonitor_word (hk.mono (by decide +kernel)) s _
  | clocksGood =>
    cases hl
    cases h
    exact wordAt_ite_of (fun _ => clocksBack_word (hk.mono (by decide +kernel)) s) (fun _ => rfl)
  | refclkDetectWindow good =>
    cases hl
    cases h
    exact wordAt_ite_of (fun _ => chooseRef_word (hk.mono (by decide +kernel)) s good) (fun _ => rfl)
  | pllLock =>
    cases hl
    cases h
    exact wordAt_ite_of (fun _ => lockPll_word (hk.mono (by decide +kernel)) s) (fun _ => rfl)
  | clkDivWrite w => cases hl; cases h; exact clkDivWrite_word (hk.mono (by decide +kernel)) s w
  | ssRefWrite w => cases hl; cases h; exact ssRefWrite_word (hk.mono (by decide +kernel)) s w
  | clkGateWrite w => cases hl; cases h; exact clkGateWrite_word (hk.mono (by decide +kernel)) s _
  | sleepEntryAbort src =>
    cases hl
    cases h
    exact wordAt_ite_of (fun _ => abortEntry_word (hk.mono (by decide +kernel)) s) (fun _ => rfl)
  | wakePin => cases hl; cases h; exact wakeBy_word (hk.mono (by decide +kernel)) s 2
  | dramIdleSelfRefresh =>
    cases hl
    cases h
    exact wordAt_ite_of (fun _ => dramSelfRefresh_word (hk.mono (by decide +kernel)) s) (fun _ => rfl)
  | thermalSample l =>
    cases hl
    cases h
    exact wordAt_ite_of (fun _ => rfl) (fun _ => thermalSample_word (hk.mono (by decide +kernel)) s l)
  | housekeepingRound r =>
    cases hl
    cases h
    exact wordAt_ite_of (fun _ => housekeeping_word (hk.mono (by decide +kernel)) s r) (fun _ => rfl)
  | hardTripRelease =>
    cases hl
    cases h
    exact wordAt_ite_of (fun _ => hardTripRelease_word (hk.mono (by decide +kernel)) s) (fun _ => rfl)
  | ddrcEnSet =>
    cases hl
    cases h
    exact wordAt_ite_of (fun _ => rfl) (fun _ => ddrcEnable_word (hk.mono (by decide +kernel)) s)
  | dramActivate bank row =>
    cases hl
    cases h
    exact wordAt_ite_of (fun _ => activateRow_word (hk.mono (by decide +kernel)) s) (fun _ => rfl)
  | ddrAlert replay =>
    cases hl
    cases h
    exact wordAt_ite_of (fun _ => alert_word (hk.mono (by decide +kernel)) s replay) (fun _ => rfl)
  | dramReadError cls addr kind client =>
    cases hl
    cases h
    exact wordAt_ite_of (fun _ => readError_word (hk.mono (by decide +kernel)) s cls addr kind client) (fun _ => rfl)
  | tolCountdownExpiry =>
    cases hl
    cases h
    exact wordAt_ite_of (fun _ => dramExit_word (hk.mono (by decide +kernel)) s) (fun _ => rfl)
  | dramIdlePowerState =>
    cases hl
    cases h
    exact wordAt_ite_of (fun _ => idlePower_word (hk.mono (by decide +kernel)) s) (fun _ => rfl)
  | faultDetect src cls word =>
    cases hl
    cases h
    exact wordAt_ite_of (fun _ => rfl) (fun _ => detect_word (hk.mono (by decide +kernel)) s src _ word)
  | faultGrant =>
    cases hl
    cases h
    exact wordAt_ite_of (fun _ => rfl) (fun _ => faultGrant_word (hk.mono (by decide +kernel)) s)
  | fltAck w => cases hl; cases h; exact fltAck_word (hk.mono (by decide +kernel)) s _
  | restartComplete own other =>
    cases hl
    cases h
    exact wordAt_ite_of (fun _ => restartComplete_word (hk.mono (by decide +kernel)) s own other) (fun _ => rfl)
  | resetNRelease n =>
    cases hl
    cases h
    exact wordAt_ite_of (fun _ => resetRelease_word (hk.mono (by decide +kernel)) s n) (fun _ => rfl)
  | coldBoot e =>
    cases hl
    cases h
    exact wordAt_ite_of (fun _ => coldBoot_word (hk.mono (by decide +kernel)) s e) (fun _ => rfl)
  | wakeSequence =>
    cases hl
    cases h
    exact wordAt_ite_of (fun _ => wordAt_ite_of (fun _ => wakeLanding_word (hk.mono (by decide +kernel)) s)
      (fun _ => wordAt_ite_of (fun _ => wakeCellar_word (hk.mono (by decide +kernel)) s) (fun _ => rfl))) (fun _ => rfl)
  | clkswForced d =>
    cases hl
    cases h
    refine wordAt_ite_of (fun _ => (raiseFault_word (hk.mono (by decide +kernel)) _ 4 1).trans ?_) (fun _ => rfl)
    rw [bump_word _ _ (hk _ (by simp)), setFlag_word _ _ _ (hk _ (by simp))]
  | patrolScrub n => cases hl; cases h; exact wordAt_ite_of (fun _ => bumpBy_word s _ n (hk _ (by simp))) (fun _ => rfl)
  | mramScrub n =>
    cases hl
    cases h
    have hfold (u : State) : wordAt (recNums.foldl scrubRecord u).regs k = wordAt u.regs k :=
      foldl_word scrubRecord (fun v num => scrubRecord_word (hk.mono (by decide +kernel)) v num) recNums u
    refine wordAt_ite_of (fun _ => (hfold _).trans ?_) (fun _ => rfl)
    exact bumpBy_word s _ n (hk _ (by simp))
  | supervisorRestart =>
    cases hl
    rcases supervisorRestart_cases h with rfl | ⟨inj, rfl⟩
    · rfl
    · exact supervisorRestart_word (hk.mono (by decide +kernel)) s inj
  | wakeReadinessTimeout | hardTrip | vsys33PowerOn | supplyFail | resetNAssert => cases hl
  | _ => simp [mayChange] at hchapter

end

/-- Settles O14: by the parts and by the fields that each command leaves alone. -/
theorem frameOfSystemCommands : Obligations.FrameOfSystemCommands := by
  unfold Obligations.FrameOfSystemCommands
  intro i s t hchapter h
  obtain ⟨hpending, hparts⟩ := systemCommands_parts hchapter h
  exact ⟨hpending, hparts, fun l hl f hf => reg_eq_of_word (systemCommands_words hchapter h hl hf)⟩

end Sys2Proof.Machine.SystemFrames
end

section
/-! PROOF. MailBounds: every operation keeps the eight mailboxes and adds no session but SESSION_OPEN (12_mailbox_command_set.md R410,
R419). -/

namespace Sys2Proof.Machine.MailBounds

/-! ### Mailboxes kept -/

/-- From `s` to `t` the number of mailboxes stays and that of sessions does not grow. -/
structure MailKept (s t : State) : Prop where
  boxes : t.mbx.boxes.length = s.mbx.boxes.length
  sessions : t.mbx.sessions.length ≤ s.mbx.sessions.length

section
variable {s t u : State}

theorem MailKept.refl (s : State) : MailKept s s := ⟨rfl, Nat.le_refl _⟩

theorem MailKept.trans (h : MailKept s t) (k : MailKept t u) : MailKept s u :=
  ⟨k.boxes.trans h.boxes, k.sessions.trans h.sessions⟩

theorem MailKept.of_mbx (h : t.mbx = s.mbx) : MailKept s t := by
  constructor <;> rw [h]

theorem MailKept.ite {c : Prop} [Decidable c] (ht : MailKept s t) (hu : MailKept s u) : MailKept s (if c then t else u) := by
  split
  · exact ht
  · exact hu

theorem MailKept.foldl {α : Type} {g : State → α → State} (hg : ∀ u x, MailKept u (g u x)) (l : List α) (s : State) :
    MailKept s (l.foldl g s) := by
  induction l generalizing s with
  | nil => exact .refl s
  | cons x l ih => exact (hg s x).trans (ih _)

theorem MailKept.mailOk (h : MailKept s t) (hs : MailOk s) : MailOk t :=
  ⟨h.boxes.trans hs.1, h.sessions.trans hs.2⟩

end

/-! ### Operations on mailboxes -/

section
variable (s : State) (n : Nat)

theorem setMb_kept (f : Mb → Mb) : MailKept s (s.setMb n f) := ⟨by simp [State.setMb], Nat.le_refl _⟩

theorem ring_kept (path src : Nat) (bcast : Bool) (last : Option (List Byte)) : MailKept s (ring s n path src bcast last) := by
  constructor <;> simp [ring, State.setMb]

theorem tellOwner_kept (status : Nat) (rsp : List Byte) : MailKept s (tellOwner s n status rsp) := by
  unfold tellOwner
  dsimp only
  split
  · exact .of_mbx (by simp)
  · exact .ite (.refl s) (.of_mbx (by simp))
  · exact ⟨rfl, Nat.le_refl _⟩

/-- A response fills its mailbox, ends its turn and tells the owner. -/
theorem respondWith_kept {u : State} (hu : u.mbx = s.mbx) (flags status : Nat) (data : List Byte) :
    MailKept s (respondWith flags u n status data) :=
  MailKept.trans (t := { u.setMb n _ with mbx := { (u.setMb n _).mbx with accepted := _, rings := _ } })
    ⟨by simp [State.setMb, hu], by simp [State.setMb, hu]⟩ (tellOwner_kept _ n status _)

theorem respond_kept {u : State} (hu : u.mbx = s.mbx) (status : Nat) (data : List Byte) : MailKept s (respond u n status data) :=
  respondWith_kept s n hu 0 status data

theorem resendRsp_kept : MailKept s (resendRsp s n) := by
  constructor <;> simp [resendRsp, State.setMb]

theorem spiRing_kept : MailKept s (spiRing s n) := .ite (.of_mbx (by simp)) (ring_kept s n 0 0 false none)

theorem doorbell_kept (w : Nat) : MailKept s (doorbell s w) := .foldl spiRing_kept _ s

theorem mbxAck_kept (w : Nat) : MailKept s (mbxAck s w) := .foldl (fun u k => .ite (setMb_kept u k _) (.refl u)) _ s

theorem tatexRequest_kept (p src : Nat) (bcast : Bool) (b : List Byte) : MailKept s (tatexRequest s p n src bcast b) := by
  unfold tatexRequest
  dsimp only
  have hsent (rsp : List Byte) : MailKept s (if bcast = true ∧ reqOp b ≠ 0x0A02 then s else sendRsp s src n rsp) :=
    .ite (.refl s) (.of_mbx (by simp))
  exact .ite (.of_mbx (by simp)) (.ite (.refl s) (.ite (hsent _) (.ite (hsent _) (.ite (hsent _)
    ((setMb_kept s n _).trans (ring_kept _ n 1 src bcast _))))))

theorem canRequest_kept (b : List Byte) : MailKept s (canRequest s b) :=
  have hdone : MailKept s { s with mbx := { s.mbx with canRx := none } } := ⟨rfl, Nat.le_refl _⟩
  hdone.trans (.ite ⟨rfl, Nat.le_refl _⟩ ((setMb_kept _ 7 _).trans (ring_kept _ 7 2 0 false none)))

theorem canSegment_kept (data : List Byte) : MailKept s (canSegment s data) := by
  have hrx (u : State) (r : Option (Nat × List Byte)) : MailKept u { u with mbx := { u.mbx with canRx := r } } :=
    ⟨rfl, Nat.le_refl _⟩
  have hbump (u : State) : MailKept u (u.bump CAN.DROP.COUNT) := .of_mbx (by simp)
  have hbegin (u : State) : MailKept u (if leAt data 0 1 % 64 ≠ 0 then u.bump CAN.DROP.COUNT
      else if bit (leAt data 0 1) 6 then canRequest u (data.drop 1)
      else { u with mbx := { u.mbx with canRx := some (1, data.drop 1) } }) :=
    .ite (hbump u) (.ite (canRequest_kept u _) (hrx u _))
  unfold canSegment
  dsimp only
  split
  · exact .ite (hbegin s) (hbump s)
  · have hgone := (hrx s none).trans (hbump _)
    exact .ite (hgone.trans (hbegin _)) (.ite hgone (.ite (canRequest_kept s _) (hrx s _)))

theorem acceptRings_kept : MailKept s (acceptRings s) :=
  MailKept.trans (MailKept.foldl (fun u k => setMb_kept u k _) s.mbx.rings s) ⟨rfl, Nat.le_refl _⟩

theorem authFail_kept (hit : Session → Bool) : MailKept s (authFail s hit) :=
  ⟨rfl, (List.length_filter_le _ _).trans (by simp)⟩

theorem closeSession_kept : MailKept s (closeSession s n) := ⟨rfl, List.length_filter_le _ _⟩

theorem authenticate_kept : MailKept s (authenticate s n).1 := by
  unfold authenticate
  dsimp only
  split
  · exact authFail_kept s _
  · rw [apply_ite Prod.fst]
    exact .ite ⟨rfl, by simp⟩ (authFail_kept s _)

/-- A command that starts may have used up a session; one that fails a check is answered (R420, R421). -/
theorem startCommand_kept : MailKept s (startCommand s n) := by
  have hauth : MailKept s (if bit (reqFlags (s.mb n).req) 2 then authenticate s n else (s, none)).1 := by
    split
    · exact authenticate_kept s n
    · exact .refl s
  have hanswer (status : Nat) := hauth.trans (respond_kept _ n rfl status [])
  unfold startCommand
  dsimp only
  exact .ite (respond_kept s n rfl 7 []) (.ite (respond_kept s n rfl 3 []) (.ite (hanswer 6) (.ite (hanswer 1)
    (.ite (hanswer 5) (hauth.trans (setMb_kept _ n _))))))

theorem abortBusy_kept : MailKept s (abortBusy s) :=
  have hclosed : MailKept s { s with mbx := { s.mbx with sessions := [] }, net := { s.net with enumMb := none, origin := none } } :=
    ⟨rfl, Nat.zero_le _⟩
  hclosed.trans (.foldl (fun u k => (setMb_kept u k _).trans (respond_kept _ k rfl 0x0A [])) _ _)

theorem finishEnum_kept : MailKept s (finishEnum s) := by
  unfold finishEnum
  split
  · exact respond_kept s _ (by rfl) 0 _
  · exact .refl s

end

/-! ### Commands that a mailbox runs -/

section
variable {s : State} {mb : Nat}

theorem command_kept {op : Nat} {f : State → List Byte → State} (hf : ∀ p, MailKept s (f s p)) : MailKept s (command s mb op f) :=
  .ite (hf _) (.refl s)

theorem needLen_kept {ok : Bool} {t : State} (ht : MailKept s t) : MailKept s (needLen s mb ok t) :=
  .ite ht (respond_kept s mb rfl 3 [])

theorem needBlock_kept {n : Nat} {t : State} (ht : MailKept s t) : MailKept s (needBlock s mb n t) :=
  .ite ht (respond_kept s mb rfl 0x0E [])

theorem needDram_kept {f : State → State} (hf : ∀ t, t.mbx = s.mbx → MailKept s (f t)) : MailKept s (needDram s mb f) :=
  .ite (hf _ (by simp)) (respond_kept s mb rfl 7 [])

theorem withDram_kept {a n : Nat} {f : State → List Byte → State} (hf : ∀ t b, t.mbx = s.mbx → MailKept s (f t b)) :
    MailKept s (withDram s mb a n f) :=
  needDram_kept (fun t ht => .ite (respond_kept s mb (by simpa using ht) 4 []) (hf t _ ht))

end

end Sys2Proof.Machine.MailBounds
end

section
/-! PROOF. StepParts: the stores that a command leaves alone, by its row of the table (95_what_each_step_holds.md). -/

namespace Sys2Proof.Machine.StepParts

/-! ### Commands of frames, pixels and calibration -/

section
variable {i : Instr} {s t : State}

/-- No command of chapter 1 touches a mailbox, an event, the DRAM or the flash. -/
theorem frameCommands_keep (hchapter : (mayChange s i).chapter = 1) (h : exec i s = .next t) :
    t.mbx = s.mbx ∧ t.evt = s.evt ∧ t.dram = s.dram ∧ t.flash = s.flash := by
  cases i with
  | frameStart | rowSlotStart | rowDelivered | pwmPeriodStart | rasterStart =>
    simp only [exec, execFrameStart, execRowSlotStart, execRowDelivered, execPwmPeriodStart, execRasterStart] at h
    (repeat' split at h) <;> cases h <;> simp
  | bufferRetire | kilnBuildComplete | hourlyCheckpoint =>
    simp only [exec, execBufferRetire, execKilnBuildComplete, execHourlyCheckpoint] at h
    (repeat' split at h) <;> cases h <;> simp
  | rowDeadline | safetyLayerCheck | scanEnSet | scanEnClear | scanCommitBit | galEnClear | fenceIncWrite | fenceDirectWrite
  | flipArm | lutDataWrite | lutDataRead | healingGenComplete | delayMonitorReading | gainmapGenComplete =>
    cases h
    simp
  | _ => simp [mayChange] at hchapter

theorem chapter_cases (s : State) (i : Instr) : (mayChange s i).chapter = 1 ∨ (mayChange s i).chapter = 2
    ∨ (mayChange s i).chapter = 3 ∨ (mayChange s i).chapter = 4 ∨ (mayChange s i).chapter = 5 ∨ (mayChange s i).chapter = 6
    ∨ (mayChange s i).chapter = 7 := by
  cases i <;> simp [mayChange]

/-- The mailboxes, the events, the DRAM and the flash stay under every command whose row does not name them. -/
theorem exec_same {p : Part} (hp : p ∈ [Part.mbx, .evt, .dram, .flash]) (hrow : p ∉ (mayChange s i).parts)
    (h : exec i s = .next t) : p.Same s t := by
  rcases chapter_cases s i with hc | hc | hc | hc | hc | hc | hc
  · obtain ⟨hmbx, hevt, hdram, hflash⟩ := frameCommands_keep hc h
    simp only [List.mem_cons, List.not_mem_nil, or_false] at hp
    rcases hp with rfl | rfl | rfl | rfl
    · exact hmbx
    · exact hevt
    · exact hdram
    · exact hflash
  · exact (EngineFrames.frameOfEngineAndGuardCommands i s t hc h).2.1 p hrow
  · exact (TatexFrames.frameOfTatexCommands i s t hc h).2.1 p hrow
  · exact (MailFrames.frameOfMailCommands i s t hc h).2.1 p hrow
  · exact (PortFrames.frameOfPortCommands i s t hc h).2.1 p hrow
  · exact (SystemFrames.frameOfSystemCommands i s t hc h).2.1 p hrow
  · exact (RegFrames.frameOfRegisterAccess i s t hc h).2.1 p hrow

end

/-! ### What a reset clears -/

/-- The domains below the always-on one are back at their reset values; the DRAM may keep itself in self-refresh (R461, R573). -/
structure Cleared (s t : State) : Prop where
  mbx : t.mbx = Mbx.reset
  evt : t.evt = Evt.reset
  shd : t.shd = Shd.reset
  flash : t.flash = s.flash
  dram : t.dram = [] ∨ t.dram = s.dram

/-- The mailboxes, events, contexts and memories stay. -/
structure Untouched (s t : State) : Prop where
  mbx : t.mbx = s.mbx
  evt : t.evt = s.evt
  shd : t.shd = s.shd
  flash : t.flash = s.flash
  dram : t.dram = s.dram

section
variable {s t u : State}

theorem Untouched.refl (s : State) : Untouched s s := ⟨rfl, rfl, rfl, rfl, rfl⟩

theorem Cleared.after (hflash : t.flash = s.flash) (hdram : t.dram = s.dram) (k : Cleared t u) : Cleared s u :=
  ⟨k.mbx, k.evt, k.shd, k.flash.trans hflash, k.dram.imp_right (·.trans hdram)⟩

theorem Cleared.before (h : Cleared s t) (k : Untouched t u) : Cleared s u :=
  ⟨k.mbx.trans h.mbx, k.evt.trans h.evt, k.shd.trans h.shd, k.flash.trans h.flash,
    h.dram.imp (k.dram.trans ·) (k.dram.trans ·)⟩

theorem bareDevice_cleared (s : State) : Cleared s (bareDevice s) := ⟨rfl, rfl, rfl, rfl, .inl rfl⟩

theorem afterReset_cleared (s : State) : Cleared s (afterReset s) := by
  unfold afterReset
  exact (bareDevice_cleared s).before (by constructor <;> simp)

theorem enterDeep_cleared (s : State) : Cleared s (enterDeep s) := by
  unfold enterDeep
  exact (bareDevice_cleared s).before (by constructor <;> simp)

theorem enterCellar_cleared (s : State) : Cleared s (enterCellar s) := by
  obtain ⟨hmbx, hevt, hshd, hflash, -⟩ := enterDeep_cleared s
  unfold enterCellar
  exact ⟨by simp [hmbx], by simp [hevt], by simp [hshd], by simp, .inr rfl⟩

/-- A reset from a state with the stores of `s` clears them. -/
theorem afterReset_clears (u : State) (h : Untouched s u) (k : Untouched (afterReset u) t) : Cleared s t :=
  .before (.after h.flash h.dram (afterReset_cleared u)) k

/-- A wake that fails for good takes the domains below the always-on one down, or leaves the cellar as it is (R470). -/
theorem wakeFails_cases (s : State) : Cleared s (wakeFails s) ∨ Untouched s (wakeFails s) := by
  unfold wakeFails
  dsimp only
  split
  · refine .inl (.before (.after (t := (((s.setFlag PWR.STATUS.WAKE_FAIL true).bump PWR.WAKE_FAIL_COUNT.COUNT).setReg
      PWR.STATE.STATE 3)) (by simp) (by simp) (enterDeep_cleared _)) ?_)
    constructor <;> simp
  · right
    constructor <;> simp

/-- A command that returns every register clears the stores, or does nothing (R573). -/
theorem resetCommand_cases {i : Instr} (hrow : (mayChange s i).regs = none) (h : exec i s = .next t) :
    Cleared s t ∨ Untouched s t := by
  cases i with
  | wakeReadinessTimeout w =>
    cases h
    split
    · split
      · right
        constructor <;> simp
      · exact wakeFails_cases s
    · exact .inr (.refl s)
  | hardTrip sensor =>
    cases h
    split
    · exact .inl (afterReset_clears { s with thm := { s.thm with trip := true }, boot := { s.boot with tripDue := sensor + 1 } }
        (by constructor <;> simp) (by unfold hardTrip; constructor <;> simp))
    · exact .inr (.refl s)
  | vsys33PowerOn =>
    cases h
    exact .inl ((bareDevice_cleared s).before (by constructor <;> simp))
  | supplyFail =>
    cases h
    split
    · exact .inl ((afterReset_cleared s).before (by constructor <;> simp))
    · exact .inr (.refl s)
  | resetNAssert =>
    cases h
    split
    · exact .inr (.refl s)
    · exact .inl (afterReset_clears { s with boot := { s.boot with held := true } } (by constructor <;> simp) (.refl _))
  | _ => simp [mayChange] at hrow

end

end Sys2Proof.Machine.StepParts
end

section
/-! PROOF. WritePaths: a property of the stores that each kind of register write keeps is kept by every access that writes
(11_host_and_side_ports.md R386 to R388, 18_registers_and_check_units.md R555, R559), and by a step (95_what_each_step_holds.md). -/

namespace Sys2Proof.Machine.WritePaths

open StepParts (Cleared Untouched)

/-! ### Register writes -/

/-- Each part of a register write keeps `Q`, which reads the mailboxes, the events and the context slots alone: a mailbox word, a
field, an enable, and the command bits (R554, R555). -/
structure KeptByWrites (Q : State → Prop) : Prop where
  same : ∀ {s t : State}, t.mbx = s.mbx → t.evt = s.evt → t.shd.slots = s.shd.slots → Q s → Q t
  area : ∀ {s} n rsp o w, Q s → Q (areaWrite s n rsp o w)
  field : ∀ {s} n on f v, Q s → Q (fieldWrite s n on f v)
  enable : ∀ {s} n f b, Q s → Q (enWrite s n f b)
  command : ∀ {s} a w, Q s → Q (commandWrite s a w)

section
variable {Q : State → Prop} (hQ : KeptByWrites Q) {s : State}
include hQ

theorem KeptByWrites.wordWrite (a : Nat) (w : Word) (hs : Q s) : Q (wordWrite s a w) := by
  have hfields (l : List Field) (g : Field → Nat) (n : Nat) (on : Bool) :
      Q (l.foldl (fun t f => fieldWrite t n on f (g f)) s) := by
    induction l generalizing s with
    | nil => exact hs
    | cons f l ih => exact ih (hQ.field n on f _ hs)
  unfold Machine.wordWrite
  split
  · exact hQ.area _ _ _ w hs
  · refine hQ.command a w ?_
    split
    · split
      · exact hQ.enable _ _ _ (hfields _ _ _ _)
      · exact hfields _ _ _ _
    · exact hfields _ _ _ _

theorem KeptByWrites.bitWrite (a k : Nat) (b : Bool) (hs : Q s) : Q (bitWrite s a k b) := by
  unfold Machine.bitWrite
  split
  · exact hs
  · split
    · exact hQ.area _ _ _ _ hs
    · split
      · exact hs
      · split
        · exact hQ.command a _ hs
        · dsimp only
          split
          · exact hQ.enable _ _ b hs
          · split <;> exact hQ.field _ _ _ _ hs

theorem KeptByWrites.busWriteQ {t : State} {x : Nat} {w : Word} (h : busWrite? s x w = some t) (hs : Q s) : Q t := by
  unfold busWrite? at h
  split at h
  · cases h
  · cases h
    split
    · exact hQ.bitWrite _ _ _ hs
    · exact hQ.wordWrite x w hs

theorem KeptByWrites.busWrite (x : Nat) (w : Word) (hs : Q s) : Q (busWrite s x w) := by
  unfold Machine.busWrite
  cases h : busWrite? s x w with
  | none => exact hs
  | some t => exact hQ.busWriteQ h hs

theorem KeptByWrites.writeBurst (l : List Word) (x : Nat) (hs : Q s) : Q (writeBurst s x l).1 := by
  induction l generalizing s x with
  | nil => exact hs
  | cons w l ih =>
    unfold Machine.writeBurst
    split
    · next t ht => exact ih (x + 4) (hQ.busWriteQ ht hs)
    · exact hs

/-- An SPI write runs its burst or none of it (R386 to R388). -/
theorem KeptByWrites.spiWrite (addr : Word) (len : Nat) (hcrc : Word) (data : List Word) (dcrc : Word) (hs : Q s) :
    Q (spiWrite s addr len hcrc data dcrc) := by
  have hsend (u : State) (l : List Byte) (hu : Q u) : Q (spiSend u l) := hQ.same (by rfl) (by rfl) (by rfl) hu
  unfold Machine.spiWrite
  dsimp only
  split
  · exact hsend _ _ hs
  · split
    · exact hsend _ _ hs
    · exact hsend _ _ (hQ.writeBurst data _ hs)

end

/-! ### Commands that a mailbox runs -/

section
variable (Q : State → Prop) {s t : State} {mb : Nat}

theorem command_of {op : Nat} {f : State → List Byte → State} (hf : ∀ p, Q (f s p)) (hs : Q s) : Q (command s mb op f) := by
  rw [command_eq]
  split
  · exact hf _
  · exact hs

theorem needLen_of {ok : Bool} (ht : Q t) (hrefused : Q (respond s mb 3 [])) : Q (needLen s mb ok t) := by
  rw [needLen_eq]
  split
  · exact ht
  · exact hrefused

end

/-! ### A step -/

@[simp] theorem scanDisable_slots (s : State) : (scanDisable s).shd.slots = s.shd.slots := by
  simp [scanDisable, stopRaster]

theorem refuseEntry_slots (s : State) (block : Nat) : (refuseEntry s block).shd.slots = s.shd.slots := by
  unfold refuseEntry
  dsimp only
  split <;> split <;> simp

theorem enterLanding_slots (s : State) : (enterLanding s).shd.slots = s.shd.slots := by
  unfold enterLanding
  simp [SleepEntry.stopScan_slots]

/-- The mailboxes, events, context slots, DRAM and flash stay. -/
structure SlotsStay (s t : State) : Prop where
  mbx : t.mbx = s.mbx
  evt : t.evt = s.evt
  slots : t.shd.slots = s.shd.slots
  flash : t.flash = s.flash
  dram : t.dram = s.dram

/-- The end of an entry into sleep clears the stores or leaves them (R465 to R470). -/
theorem finishEntry_cases (s : State) : Cleared s (finishEntry s) ∨ SlotsStay s (finishEntry s) := by
  unfold finishEntry
  split
  · exact .inr ⟨by simp, by simp, refuseEntry_slots s _, by simp, by simp⟩
  · split
    · exact .inr ⟨by simp, by simp, enterLanding_slots s, by simp, by simp⟩
    · left
      dsimp only
      split
      · exact (StepParts.enterCellar_cleared _).after (by simp) (by simp)
      · exact (StepParts.enterDeep_cleared _).after (by simp) (by simp)

/-- A step with no command waiting clears the stores or leaves them. -/
theorem idle_cases (s : State) : Cleared s (idle s) ∨ SlotsStay s (idle s) := by
  unfold idle
  split
  · exact finishEntry_cases s
  · split
    · right
      constructor <;> simp [cycle]
    · exact .inr ⟨rfl, rfl, rfl, rfl, rfl⟩

end Sys2Proof.Machine.WritePaths
end

section
/-! PROOF. StepBounds: a step keeps the bounds of the event queue and history, the mailboxes and the sessions
(12_mailbox_command_set.md R410, R419, R427). -/

namespace Sys2Proof.Machine.StepBounds

open StepParts (Cleared Untouched exec_same resetCommand_cases)
open WritePaths (KeptByWrites idle_cases command_of needLen_of)
open MailBounds

/-! ### Events (R427) -/

section
variable {s t : State}

theorem eventsOk_congr (h : t.evt = s.evt) (hs : EventsOk s) : EventsOk t := by
  unfold EventsOk
  rw [h]
  exact hs

theorem eventsOk_cleared (h : Cleared s t) : EventsOk t := by
  unfold EventsOk
  rw [h.evt]
  decide

theorem length_lastN_le {α : Type} (n : Nat) (l : List α) : (lastN n l).length ≤ n := by
  simp [lastN]
  omega

theorem enqueueEvent_history (s : State) (e : EventRec) :
    (enqueueEvent s e).evt.history = lastN 256 (s.evt.history ++ [{ e with eseq := s.evt.eseq }]) := by
  unfold enqueueEvent
  dsimp only
  split <;> simp only [State.setFlag_evt]

theorem enqueueEvent_queue (s : State) (e : EventRec) : (enqueueEvent s e).evt.queue
    = if s.evt.queue.length < 128 then s.evt.queue ++ [{ e with eseq := s.evt.eseq }] else s.evt.queue := by
  unfold enqueueEvent
  dsimp only
  split <;> simp only [State.setFlag_evt]

theorem enqueueEvent_eventsOk (e : EventRec) (hs : EventsOk s) : EventsOk (enqueueEvent s e) := by
  unfold EventsOk
  rw [enqueueEvent_history, enqueueEvent_queue]
  refine ⟨?_, length_lastN_le 256 _⟩
  split
  · next hroom => simpa using hroom
  · exact hs.1

theorem dropEvents_eventsOk (n : Nat) (hs : EventsOk s) : EventsOk (dropEvents s n) := by
  obtain ⟨hqueue, hhistory⟩ := hs
  unfold dropEvents
  dsimp only
  split
  · exact ⟨by simp; omega, by simpa using hhistory⟩
  · exact ⟨by simp; omega, hhistory⟩

theorem commandWrite_pop (s : State) (w : Word) : commandWrite s MBX.EVT_POP.POP.addr w
    = if w.getLsbD 0 = true ∧ s.evt.queue ≠ [] then dropEvents s 1 else s := rfl

theorem eventsOk_writes : KeptByWrites EventsOk where
  same _ h _ := eventsOk_congr h
  area n rsp o w hs := by
    refine eventsOk_congr ?_ hs
    unfold areaWrite
    (repeat' split) <;> simp [State.setMb]
  field n on f v hs := eventsOk_congr (by simp) hs
  enable n f b hs := eventsOk_congr (by simp) hs
  command a w hs := by
    by_cases hpop : a = MBX.EVT_POP.POP.addr
    · rw [hpop, commandWrite_pop]
      split
      · exact dropEvents_eventsOk 1 hs
      · exact hs
    · refine eventsOk_congr ?_ hs
      unfold commandWrite
      simp [hpop]

theorem respond_eventsOk (mb status : Nat) (data : List Byte) (hs : EventsOk s) : EventsOk (respond s mb status data) :=
  eventsOk_congr (by simp) hs

theorem grantFault_eventsOk (src : Nat) (w : FaultWait) (inj : Bool) (hs : EventsOk s) : EventsOk (grantFault s src w inj) := by
  unfold grantFault
  have hreact (u : State) (cls : Nat) : (react u src cls inj).evt = u.evt := by simp
  refine eventsOk_congr (hreact _ _) (enqueueEvent_eventsOk _ (eventsOk_congr ?_ hs))
  simp only [State.setFlag_evt, State.setReg_evt]
  split <;> simp

theorem grantAt_eventsOk (p : Nat) (hs : EventsOk s) : EventsOk (grantAt s p) := by
  unfold grantAt
  dsimp only
  split
  · split
    · exact hs
    · exact enqueueEvent_eventsOk _ hs
  · split
    · split
      · exact hs
      · exact enqueueEvent_eventsOk _ hs
    · split
      · exact grantFault_eventsOk _ _ _ hs
      · exact grantFault_eventsOk _ _ _ hs
      · exact hs

theorem faultGrant_eventsOk (hs : EventsOk s) : EventsOk (faultGrant s) := by
  unfold faultGrant
  split
  · exact grantAt_eventsOk _ hs
  · exact hs

/-- A command that may touch the events keeps their bounds. -/
theorem eventCommands_eventsOk {i : Instr} (hrow : Part.evt ∈ (mayChange s i).parts) (h : exec i s = .next t) (hs : EventsOk s) :
    EventsOk t := by
  cases i with
  | wakeReadinessTimeout _ | hardTrip _ | vsys33PowerOn | supplyFail | resetNAssert =>
    rcases resetCommand_cases (by rfl) h with hc | hc
    · exact eventsOk_cleared hc
    · exact eventsOk_congr hc.evt hs
  | registerWrite addr w =>
    cases h
    exact eventsOk_writes.busWrite _ w hs
  | aliasWrite addr w =>
    cases h
    split
    · exact eventsOk_writes.busWrite _ w hs
    · exact hs
  | spiWrite addr len hcrc data dcrc =>
    cases h
    split
    · exact eventsOk_writes.spiWrite _ _ _ _ _ hs
    · exact eventsOk_congr rfl hs
  | regWrite mb =>
    cases h
    refine command_of EventsOk (fun p => needLen_of EventsOk ?_ (respond_eventsOk _ _ _ hs)) hs
    split
    · exact respond_eventsOk _ _ _ hs
    · exact respond_eventsOk _ _ _ (eventsOk_writes.writeBurst _ _ hs)
  | faultGrant =>
    cases h
    split
    · exact hs
    · exact faultGrant_eventsOk hs
  | evtPop =>
    cases h
    split
    · exact hs
    · exact dropEvents_eventsOk 1 hs
  | eventPacketSend =>
    rcases MailFrames.eventPacketSend_cases h with rfl | ⟨n, l, rfl⟩
    · exact hs
    · exact eventsOk_congr (s := { s with evt := { s.evt with unsent := n } }) (by simp) hs
  | eventsRead mb =>
    cases h
    refine command_of EventsOk (fun p => needLen_of EventsOk ?_ (respond_eventsOk _ _ _ hs)) hs
    split
    · exact respond_eventsOk _ _ _ hs
    · split
      · exact respond_eventsOk _ _ _ hs
      · exact respond_eventsOk _ _ _ (dropEvents_eventsOk _ hs)
  | _ => simp [mayChange, mailParts] at hrow

theorem exec_eventsOk {i : Instr} (h : exec i s = .next t) (hs : EventsOk s) : EventsOk t := by
  by_cases hrow : Part.evt ∈ (mayChange s i).parts
  · exact eventCommands_eventsOk hrow h hs
  · exact eventsOk_congr (exec_same (by simp) hrow h) hs

end

/-! ### Mailboxes and sessions (R410, R419) -/

section
variable {s t : State}

theorem mailOk_cleared (h : Cleared s t) : MailOk t := by
  unfold MailOk
  rw [h.mbx]
  decide

theorem mailOk_congr (h : t.mbx = s.mbx) (hs : MailOk s) : MailOk t := (MailKept.of_mbx h).mailOk hs

theorem commandWrite_ring (s : State) (w : Word) : commandWrite s MBX.DOORBELL.RING.addr w = doorbell s w.toNat := rfl

theorem commandWrite_ack (s : State) (w : Word) : commandWrite s MBX.ACK.ACK.addr w = mbxAck s w.toNat := rfl

theorem mailOk_writes : KeptByWrites MailOk where
  same h _ _ := mailOk_congr h
  area n rsp o w hs := by
    unfold areaWrite
    split
    · exact hs
    · split
      · exact hs
      · exact (setMb_kept _ n _).mailOk hs
  field n on f v hs := mailOk_congr (by simp) hs
  enable n f b hs := mailOk_congr (by simp) hs
  command a w hs := by
    by_cases hring : a = MBX.DOORBELL.RING.addr
    · rw [hring, commandWrite_ring]
      exact (doorbell_kept _ _).mailOk hs
    · by_cases hack : a = MBX.ACK.ACK.addr
      · rw [hack, commandWrite_ack]
        exact (mbxAck_kept _ _).mailOk hs
      · refine mailOk_congr ?_ hs
        unfold commandWrite
        simp [hring, hack]

theorem respond_mailOk (mb status : Nat) (data : List Byte) (hs : MailOk s) : MailOk (respond s mb status data) :=
  (respond_kept s mb rfl status data).mailOk hs

/-- A session is added only while there are fewer than four (R419). -/
theorem sessionOpen_mailOk (mb : Nat) (p : List Byte) (hs : MailOk s) : MailOk (sessionOpen mb s p) := by
  unfold sessionOpen
  dsimp only
  split
  · exact respond_mailOk _ _ _ hs
  · refine needLen_of MailOk ?_ (respond_mailOk _ _ _ hs)
    split
    · exact respond_mailOk _ _ _ hs
    · split
      · exact respond_mailOk _ _ _ hs
      · split
        · exact respond_mailOk _ _ _ hs
        · next hroom => exact respond_mailOk _ _ _ ⟨hs.1, by simpa [addSession] using hroom⟩

theorem sessionAuth_kept (mb : Nat) (p : List Byte) : MailKept s (sessionAuth mb s p) := by
  refine needLen_kept ?_
  split
  · exact respond_kept s mb rfl _ _
  · dsimp only
    split
    · exact respond_kept s mb rfl _ _
    · split
      · exact (closeSession_kept s _).trans (respond_kept _ mb rfl _ _)
      · exact MailKept.trans (t := { s with mbx := { s.mbx with sessions := s.mbx.sessions.map _ } }) ⟨rfl, by simp⟩
          (respond_kept _ mb rfl _ _)

theorem sessionClose_kept (mb : Nat) (p : List Byte) : MailKept s (sessionClose mb s p) := by
  refine needLen_kept ?_
  split
  · exact respond_kept s mb rfl _ _
  · exact (closeSession_kept s _).trans (respond_kept _ mb rfl _ _)

theorem rsetEntry_kept (mb : Nat) (b : List Byte) : MailKept s (rsetEntry mb s b) := by
  refine needLen_kept (.ite (respond_kept s mb rfl _ _) ?_)
  split
  · exact respondWith_kept s mb (by rfl) _ _ _
  · exact .ite (respond_kept s mb rfl _ _) (respondWith_kept s mb (by rfl) _ _ _)

theorem fenceWait_kept (mb : Nat) (expired : Bool) (p : List Byte) : MailKept s (fenceWait mb expired s p) :=
  needLen_kept (.ite (respond_kept s mb rfl _ _) (.ite (respond_kept s mb rfl _ _) (.ite (respond_kept s mb rfl _ _) (.refl s))))

theorem beginEnum_kept (mb start : Nat) : MailKept s (beginEnum s mb start) := by
  unfold beginEnum
  exact .of_mbx (by simp)

theorem enumerateCmd_kept (mb : Nat) (p : List Byte) : MailKept s (enumerateCmd mb s p) :=
  needLen_kept (.ite (respond_kept s mb rfl _ _) (.ite (.refl s) (.ite (respond_kept s mb rfl _ _)
    (beginEnum_kept mb _))))

theorem rspDropped_kept (pkt : Packet) : MailKept s (rspDropped s pkt) :=
  .ite (.refl s) (.ite (.of_mbx (by simp)) ⟨rfl, Nat.le_refl _⟩)

theorem stompLocal_kept (p : Nat) : MailKept s (stompLocal s p) := by
  unfold stompLocal
  split
  · exact .refl s
  · exact .ite (.ite ((MailKept.of_mbx (by simp)).trans (rspDropped_kept _)) (.of_mbx (by simp))) (.refl s)

theorem beginForward_kept (p q len : Nat) : MailKept s (beginForward s p q len) :=
  .ite ((stompLocal_kept q).trans (.of_mbx (by simp))) (stompLocal_kept q)

/-- A header notes what becomes of its packet; the start of a forward may drop a response (R353, R369). -/
theorem judgeHeader_kept (p : Nat) (h : Header) : MailKept s (judgeHeader s p h) := by
  have hnote {u : State} (a : Arrival) (hu : MailKept s u) : MailKept s (note u p a) := hu.trans (.of_mbx (by simp))
  have hbump (f : Field) : MailKept s (s.bump f) := .of_mbx (by simp)
  unfold judgeHeader
  refine .ite (hnote _ (.of_mbx (by simp))) (.ite (hnote _ (hbump _)) (.ite (hnote _ (hbump _)) (.ite (hnote _ (.refl s)) ?_)))
  dsimp only
  split
  · exact hnote _ (.refl s)
  · exact .ite (hnote _ (beginForward_kept _ _ _)) (hnote _ (hbump _))

theorem faultInject_kept (mb : Nat) (p : List Byte) : MailKept s (faultInject mb s p) := by
  have hinject (src cls : Nat) : MailKept s (injectOne (respond s mb 0 []) src cls) :=
    (respond_kept s mb rfl 0 []).trans (.of_mbx (by simp))
  exact needLen_kept (.ite (respond_kept s mb rfl _ _) (.ite (hinject _ _) ((hinject _ _).trans (.of_mbx rfl))))

theorem pwrSleep_kept (mb : Nat) (ack : Bool) (p : List Byte) : MailKept s (pwrSleep mb ack s p) := by
  refine needLen_kept ?_
  split
  · exact respond_kept s mb rfl _ _
  · next l _ => exact .ite (respond_kept s mb rfl _ _) ((respond_kept s mb rfl 0 (toLe 1 l)).trans (.of_mbx (by simp)))

theorem beginRestart_kept (inj : Bool) : MailKept s (beginRestart s inj) :=
  MailKept.trans (t := if s.boot.cold then s else abortBusy s) (.ite (.refl s) (abortBusy_kept s))
    (.of_mbx (by simp [beginRestart]))

theorem supervisorRestart_kept (s : State) (inj : Bool) : MailKept s (supervisorRestart s inj) := by
  have hbegin {u : State} (hu : u.mbx = s.mbx) (b : Bool) : MailKept s (beginRestart u b) :=
    (MailKept.of_mbx hu).trans (beginRestart_kept b)
  exact .ite (hbegin (by rfl) true) (.ite (.of_mbx (by simp)) (hbegin (by rfl) false))

end

/-! ### Commands that may touch the mailboxes -/

section
variable {i : Instr} {s t : State}

/-- A command of the mailboxes keeps their number and adds no session. -/
theorem mailCommands_kept (hchapter : (mayChange s i).chapter = 4) (hopen : ∀ mb, i ≠ .sessionOpen mb)
    (hwrite : ∀ mb, i ≠ .regWrite mb) (h : exec i s = .next t) : MailKept s t := by
  cases i with
  | echo _ =>
    cases h
    exact command_kept fun p => respond_kept s _ rfl _ _
  | identify _ | setLt _ | frameStats _ | videoWindow _ | objWrite _ | objRead _ | objClear _ | rsetDelete _
  | rsetSubmit _ | lensRead _ _ | fbRelease _ | safeWindow _ | pixelAge _ | mapRead _ | mapClear _ | zoneRatio _ | vfRead _
  | doseRead _ | witnessRead _ | recalibrate _ _ _ | assignAddr _ | eventsRead _ | eventsHistory _ | flashWrite _ _
  | flashErase _ _ | slotSelect _ _ _ | cfgRead _ | cfgWrite _ _ =>
    cases h
    refine command_kept fun p => needLen_kept ?_
    (repeat' split) <;> exact respond_kept s _ (by simp) _ _
  | regRead _ | powerDown _ | setMode _ | commit _ | layerFlip _ | lutLoad _ | patternLoad _ | symlibLoad _ | fbPattern _ _
  | reseal _ _ =>
    cases h
    refine command_kept fun p => needLen_kept ?_
    dsimp only [needBlock, needDram, withDram]
    (repeat' split) <;> exact respond_kept s _ (by simp) _ _
  | rsetEntry mb =>
    cases h
    exact command_kept fun b => rsetEntry_kept mb b
  | sessionAuth mb =>
    cases h
    exact command_kept fun p => sessionAuth_kept mb p
  | sessionClose mb =>
    cases h
    exact command_kept fun p => sessionClose_kept mb p
  | fenceWait mb | fenceWaitTimeout mb =>
    cases h
    exact command_kept fun p => fenceWait_kept mb _ p
  | enumerate mb =>
    cases h
    exact command_kept fun p => enumerateCmd_kept mb p
  | enumerateTimeout mb =>
    cases h
    exact command_kept fun p => .ite (respond_kept s mb (by rfl) _ _) (.refl s)
  | mbxAck w =>
    cases h
    exact mbxAck_kept s _
  | evtPop =>
    cases h
    split
    · exact .refl s
    · exact .of_mbx (by simp)
  | commandAccept =>
    cases h
    exact .ite (acceptRings_kept s) (.refl s)
  | commandStart mb =>
    cases h
    exact .ite (startCommand_kept s mb) (.refl s)
  | mboxRspResend mb =>
    cases h
    exact .ite (resendRsp_kept s mb) (.refl s)
  | sessionIdleTimeout n =>
    cases h
    exact closeSession_kept s n
  | nopEnum p =>
    cases h
    exact (MailKept.of_mbx (t := nopEnum p s) (by simp)).trans (finishEnum_kept _)
  | nopEnumEnd p =>
    cases h
    exact (MailKept.of_mbx (t := nopEnumEnd p s) (by simp)).trans (finishEnum_kept _)
  | canDiagSegment f =>
    cases h
    exact .ite (.ite (canSegment_kept s _) (.of_mbx (by simp))) (.refl s)
  | doorbell w =>
    cases h
    exact doorbell_kept s _
  | mboxReqPacket p =>
    rcases MailFrames.mboxReqPacket_cases h with rfl | ⟨u, k, r, n, src, b, c, htake, rfl⟩
    · exact .refl _
    · exact (MailKept.of_mbx (by simp [takePacket_all htake])).trans (tatexRequest_kept _ _ _ _ _ _)
  | eventPacketSend =>
    rcases MailFrames.eventPacketSend_cases h with rfl | ⟨n, l, rfl⟩
    · exact .refl _
    · exact .of_mbx (by simp)
  | sessionOpen mb => exact absurd rfl (hopen mb)
  | regWrite mb => exact absurd rfl (hwrite mb)
  | _ => simp [mayChange] at hchapter
/-- A command of the ports, the auxiliary outputs, the supervisor or sleep that answers a request or aborts it. -/
theorem otherCommands_kept (hrow : Part.mbx ∈ (mayChange s i).parts) (hchapter : (mayChange s i).chapter ≠ 4)
    (hregs : (mayChange s i).regs ≠ none) (haccess : (mayChange s i).chapter ≠ 7) (h : exec i s = .next t) : MailKept s t := by
  cases i with
  | auxSet _ | auxPattern _ | auxGamma _ | auxGate _ =>
    cases h
    refine command_kept fun p => needLen_kept ?_
    (repeat' split) <;> exact respond_kept s _ (by simp) _ _
  | packetHeaderArrival p hdr =>
    cases h
    exact .ite (judgeHeader_kept _ _) (.refl s)
  | faultInject mb =>
    cases h
    exact command_kept fun p => faultInject_kept mb p
  | pwrSleep mb ack =>
    cases h
    exact command_kept fun p => pwrSleep_kept mb ack p
  | supervisorRestart =>
    rcases SystemFrames.supervisorRestart_cases h with rfl | ⟨inj, rfl⟩
    · exact .refl _
    · exact supervisorRestart_kept _ inj
  | wakeReadinessTimeout _ | hardTrip _ | vsys33PowerOn | supplyFail | resetNAssert => exact absurd rfl hregs
  | registerWrite _ _ | aliasWrite _ _ | spiWrite _ _ _ _ _ => exact absurd rfl haccess
  | _ => simp [mayChange] at hrow hchapter

/-- A command that writes registers keeps the mailboxes (R388, R555). -/
theorem writeCommands_mailOk (hchapter : (mayChange s i).chapter = 7) (hrow : Part.mbx ∈ (mayChange s i).parts)
    (h : exec i s = .next t) (hs : MailOk s) : MailOk t := by
  cases i with
  | registerWrite addr w =>
    cases h
    exact mailOk_writes.busWrite _ w hs
  | aliasWrite addr w =>
    cases h
    split
    · exact mailOk_writes.busWrite _ w hs
    · exact hs
  | spiWrite addr len hcrc data dcrc =>
    cases h
    split
    · exact mailOk_writes.spiWrite _ _ _ _ _ hs
    · exact mailOk_congr rfl hs
  | _ => simp [mayChange] at hrow hchapter

theorem regWrite_mailOk (mb : Nat) (p : List Byte) (hs : MailOk s) : MailOk (regWrite mb s p) := by
  refine needLen_of MailOk ?_ (respond_mailOk _ _ _ hs)
  split
  · exact respond_mailOk _ _ _ hs
  · exact respond_mailOk _ _ _ (mailOk_writes.writeBurst _ _ hs)

theorem exec_mailOk (h : exec i s = .next t) (hs : MailOk s) : MailOk t := by
  by_cases hrow : Part.mbx ∈ (mayChange s i).parts
  · by_cases hregs : (mayChange s i).regs = none
    · rcases resetCommand_cases hregs h with hc | hc
      · exact mailOk_cleared hc
      · exact mailOk_congr hc.mbx hs
    · by_cases hopen : ∃ mb, i = .sessionOpen mb
      · obtain ⟨mb, rfl⟩ := hopen
        cases h
        exact command_of MailOk (fun p => sessionOpen_mailOk mb p hs) hs
      · by_cases hwrite : ∃ mb, i = .regWrite mb
        · obtain ⟨mb, rfl⟩ := hwrite
          cases h
          exact command_of MailOk (fun p => regWrite_mailOk mb p hs) hs
        · by_cases hmail : (mayChange s i).chapter = 4
          · exact (mailCommands_kept hmail (not_exists.mp hopen) (not_exists.mp hwrite) h).mailOk hs
          · by_cases haccess : (mayChange s i).chapter = 7
            · exact writeCommands_mailOk haccess hrow h hs
            · exact (otherCommands_kept hrow hmail hregs haccess h).mailOk hs
  · exact mailOk_congr (exec_same (by simp) hrow h) hs

end

/-- Settles O6: by the commands that touch the events or the mailboxes, by what clears them, and by the idle step. -/
theorem stepKeepsBounds : Obligations.StepKeepsBounds := by
  unfold Obligations.StepKeepsBounds
  intro s t hevents hmail h
  unfold step at h
  split at h
  · cases h
    rcases idle_cases s with hc | hc
    · exact ⟨eventsOk_cleared hc, mailOk_cleared hc⟩
    · exact ⟨eventsOk_congr hc.evt hevents, mailOk_congr hc.mbx hmail⟩
  · next c rest _ => exact ⟨exec_eventsOk h hevents, exec_mailOk h hmail⟩
end Sys2Proof.Machine.StepBounds
end

section
/-! PROOF. StepMemories: a step keeps the canonical form of DRAM, flash and the context slots (16_memory.md R496,
11_host_and_side_ports.md R403, 05_object_shadowing.md R164). -/

namespace Sys2Proof.Machine.StepMemories

open StepParts (Cleared Untouched exec_same resetCommand_cases chapter_cases)
open WritePaths (KeptByWrites idle_cases command_of needLen_of)

/-! ### DRAM and flash -/

section
variable {s t : State}

theorem dramWrite_wf (a : Nat) (v : List Byte) (hs : Memory.wf 0 s.dram) : Memory.wf 0 (dramWrite s a v).dram := by
  unfold dramWrite
  dsimp only
  split
  · exact hs
  · rw [ite_dram, ite_self]
    exact dramPut_wf s a v hs

theorem renderBand_wf (r : RunSet) (e : RunEntry) (b : Nat) (hs : Memory.wf 0 s.dram) : Memory.wf 0 (renderBand s r e b).dram := by
  have hrows (l : List Nat) {u : State} (hu : Memory.wf 0 u.dram) :
      Memory.wf 0 (l.foldl (fun t v => dramWrite t (e.out + v * blkStride e.block) (outputRow s r e.block v)) u).dram := by
    induction l generalizing u with
    | nil => exact hu
    | cons v l ih => exact ih (dramWrite_wf _ _ hu)
  exact hrows _ hs

theorem completeBand_wf (b : Nat) (hs : Memory.wf 0 s.dram) : Memory.wf 0 (completeBand s b).dram := by
  cases hrun : s.eng.running with
  | none =>
    have hstay : completeBand s b = s := by simp [completeBand, hrun]
    rwa [hstay]
  | some r =>
    cases hcur : currentEntry r b with
    | none =>
      have hstay : completeBand s b = s := by simp [completeBand, hrun, hcur]
      rwa [hstay]
    | some x =>
      cases hw : mayWrite s x.2 b with
      | false =>
        have hstay : completeBand s b = s := by simp [completeBand, hrun, hcur, hw]
        rwa [hstay]
      | true =>
        rw [EngineBands.completeBand_dram hrun hcur hw]
        exact renderBand_wf r x.2 b hs

/-- A command that may write the DRAM keeps its form. -/
theorem dramCommands_wf {i : Instr} (hrow : Part.dram ∈ (mayChange s i).parts) (h : exec i s = .next t)
    (hs : Memory.wf 0 s.dram) : Memory.wf 0 t.dram := by
  cases i with
  | wakeReadinessTimeout _ | hardTrip _ | vsys33PowerOn | supplyFail | resetNAssert =>
    rcases resetCommand_cases (by rfl) h with hc | hc
    · rcases hc.dram with hd | hd <;> rw [hd]
      · rfl
      · exact hs
    · rw [hc.dram]
      exact hs
  | bandComplete b =>
    cases h
    split
    · exact completeBand_wf b hs
    · exact hs
  | vrowPacket p =>
    simp only [exec, execVrowPacket] at h
    split at h
    · cases h
      exact hs
    · next u pkt _ htake =>
      have hu : Memory.wf 0 u.dram := by rwa [(takePacket_all htake).2.2.2.2.2.2.1]
      split at h
      · cases h
        split
        · simpa using dramWrite_wf _ _ hu
        · exact dramWrite_wf _ _ hu
      · cases h
        simpa using hu
  | _ => simp [mayChange, mailParts] at hrow

theorem exec_dram {i : Instr} (h : exec i s = .next t) (hs : Memory.wf 0 s.dram) : Memory.wf 0 t.dram := by
  by_cases hrow : Part.dram ∈ (mayChange s i).parts
  · exact dramCommands_wf hrow h hs
  · have hsame : t.dram = s.dram := exec_same (by simp) hrow h
    rwa [hsame]

/-- The flash lists its bytes in canonical form (R403). -/
def FlashOk (u : State) : Prop := Memory.wf 0 u.flash.cells

theorem flashTry_wf (a : Nat) (v : List Byte) (ok : Bool) (hs : Memory.wf 0 s.flash.cells) :
    Memory.wf 0 (flashTry s a v ok).flash.cells := by
  unfold flashTry
  split
  · exact flashPut_wf s a v hs
  · exact flashPut_wf s a _ hs

/-- A command that may write the flash keeps its form. -/
theorem flashCommands_wf {i : Instr} (hrow : Part.flash ∈ (mayChange s i).parts) (h : exec i s = .next t)
    (hs : Memory.wf 0 s.flash.cells) : Memory.wf 0 t.flash.cells := by
  have hanswer {u : State} (hu : Memory.wf 0 u.flash.cells) (mb status : Nat) (data : List Byte) :
      Memory.wf 0 (respond u mb status data).flash.cells := by simpa using hu
  cases i with
  | flashWrite mb verified =>
    cases h
    refine command_of FlashOk (fun p => needLen_of FlashOk ?_ (hanswer hs _ _ _)) hs
    split
    · exact hanswer hs _ _ _
    · split
      · exact hanswer hs _ _ _
      · exact hanswer (flashTry_wf _ _ _ hs) _ _ _
  | flashErase mb verified =>
    cases h
    refine command_of FlashOk (fun p => needLen_of FlashOk ?_ (hanswer hs _ _ _)) hs
    split
    · exact hanswer hs _ _ _
    · exact hanswer (flashTry_wf _ _ _ hs) _ _ _
  | slotSelect mb signature verified =>
    cases h
    refine command_of FlashOk (fun p => needLen_of FlashOk ?_ (hanswer hs _ _ _)) hs
    split
    · exact hanswer hs _ _ _
    · split
      · exact hanswer hs _ _ _
      · split
        · exact hanswer hs _ _ _
        · dsimp only
          split
          · exact hanswer (flashPut_wf _ _ _ (flashPut_wf _ _ _ hs)) _ _ _
          · exact hanswer (flashTry_wf _ _ _ hs) _ _ _
  | _ => simp [mayChange, mailParts, resetParts] at hrow

theorem exec_flash {i : Instr} (h : exec i s = .next t) (hs : Memory.wf 0 s.flash.cells) : Memory.wf 0 t.flash.cells := by
  by_cases hrow : Part.flash ∈ (mayChange s i).parts
  · exact flashCommands_wf hrow h hs
  · have hsame : t.flash = s.flash := exec_same (by simp) hrow h
    rwa [hsame]

end

/-! ### Operations on context slots (R164) -/

section
variable {s t : State}

theorem slotsOk_congr (h : t.shd.slots = s.shd.slots) (hs : SlotsOk s) : SlotsOk t := by
  unfold SlotsOk
  rw [h]
  exact hs

theorem slotsOk_cleared (h : Cleared s t) : SlotsOk t := by
  unfold SlotsOk
  rw [h.shd]
  rfl

theorem setSlot_slotsOk (n : Nat) (v : CtxSlot) (hs : SlotsOk s) : SlotsOk (s.setSlot n v) := sparseWf_set _ _ n v hs

theorem stageIn_slotsOk (n : Nat) (c : Ctx) (batch : Bool) (hs : SlotsOk s) : SlotsOk (stageIn s n c batch).1 := by
  unfold stageIn
  split
  · exact slotsOk_congr (by simp) hs
  · exact setSlot_slotsOk n _ hs

theorem placeRecord_slotsOk (c : Ctx) (batch : Bool) (hs : SlotsOk s) : SlotsOk (placeRecord s c batch).1 := by
  unfold placeRecord
  split
  · exact stageIn_slotsOk _ c batch hs
  · split
    · exact slotsOk_congr rfl hs
    · split
      · next n _ _ _ => exact stageIn_slotsOk _ c batch (slotsOk_congr (s := s.setSlot n _) rfl (setSlot_slotsOk n _ hs))
      · exact slotsOk_congr rfl hs

theorem acceptRecord_slotsOk (raw : List Byte) (batch : Bool) (hs : SlotsOk s) : SlotsOk (acceptRecord s raw batch).1 := by
  unfold acceptRecord
  generalize ({ raw := raw, t0 := if s.synced then none else some s.now } : Ctx) = c
  dsimp only
  split
  · exact slotsOk_congr rfl hs
  · split
    · exact stageIn_slotsOk _ _ batch hs
    · split
      · exact placeRecord_slotsOk _ batch hs
      · exact hs

theorem applyRecords_slotsOk (batch : Bool) (l : List (List Byte)) (i : Nat) (hs : SlotsOk s) :
    SlotsOk (applyRecords batch s i l).1 := by
  induction l generalizing s i with
  | nil => exact hs
  | cons r l ih => exact ih (i + 1) (acceptRecord_slotsOk r batch hs)

theorem clearContext_slotsOk (a : State × Nat × Nat) (x : Nat × Ctx) (ha : SlotsOk a.1) : SlotsOk (clearContext a x).1 := by
  have hstage := stageIn_slotsOk x.1 (deletion x.2) false ha
  unfold clearContext
  dsimp only
  split
  · exact hstage
  · split <;> exact hstage

theorem clearContexts_slotsOk (l : List (Nat × Ctx)) (a : State × Nat × Nat) (ha : SlotsOk a.1) :
    SlotsOk (l.foldl clearContext a).1 := by
  induction l generalizing a with
  | nil => exact ha
  | cons x l ih => exact ih _ (clearContext_slotsOk a x ha)

theorem expireSlot_slotsOk (n : Nat) (hs : SlotsOk s) : SlotsOk (expireSlot s n) := by
  unfold expireSlot
  dsimp only
  split
  · exact hs
  · split
    · exact slotsOk_congr (s := s.setSlot n _) (by simp; rfl) (setSlot_slotsOk n _ hs)
    · exact hs

theorem expireSlots_slotsOk (l : Sparse CtxSlot) (hs : SlotsOk s) : SlotsOk (l.foldl (fun t p => expireSlot t p.1) s) := by
  induction l generalizing s with
  | nil => exact hs
  | cons p l ih => exact ih (expireSlot_slotsOk p.1 hs)

theorem publishPoint_slotsOk (hs : SlotsOk s) : SlotsOk (publishPoint s) := by
  unfold publishPoint
  refine slotsOk_congr (by simp; rfl) (expireSlots_slotsOk _ (?_ : SlotsOk (ShadowPublish.settled s)))
  exact ShadowPublish.sparseWf_foldl_set _ (publishSlot s) s.shd.slots hs

theorem contextEcc_slotsOk (e : ContextEcc) (hs : SlotsOk s) : SlotsOk (contextEcc s e) := by
  unfold contextEcc
  cases e with
  | none => exact hs
  | corrected | activeDouble => exact slotsOk_congr (by simp) hs
  | stagedDouble n =>
    dsimp only
    split
    · exact hs
    · exact slotsOk_congr (s := s.setSlot n _) (by simp; rfl) (setSlot_slotsOk n _ hs)

end

/-! ### Operations that leave the context slots -/

section
variable (s : State)

theorem takeRows_slots (r : Nat) (b : List Nat) (soft : Option (Nat × List Nat)) : (takeRows s r b soft).shd.slots = s.shd.slots := by
  unfold takeRows
  split <;> rfl

theorem mismatch_slots (inj : Bool) (n : Nat) : (mismatch s inj n).shd.slots = s.shd.slots := by
  unfold mismatch
  dsimp only
  split
  · simp
  · split <;> simp

theorem writeBlank_slots (p : Nat) : (writeBlank s p).shd.slots = s.shd.slots := by
  unfold writeBlank
  split
  · rfl
  · split <;> rfl

theorem handover_slots (out : RasterOutcome) (r : Nat) (b old : List Nat) (soft : Option (Nat × List Nat)) :
    (handover s out r b old soft).shd.slots = s.shd.slots := by
  unfold handover
  split <;> simp [takeRows_slots, mismatch_slots]

theorem openLoad_slots : (openLoad s).shd.slots = s.shd.slots := by
  unfold openLoad
  dsimp only
  simp [apply_ite State.shd]

theorem beginFrame_slots (load : Nat) (first : Bool) : (beginFrame s load first).shd.slots = s.shd.slots := by
  unfold beginFrame
  simp [openLoad_slots]

theorem beginFetch_slots (r : Nat) : (beginFetch s r).shd.slots = s.shd.slots := by
  unfold beginFetch
  split
  · split <;> rfl
  · rfl

theorem clockMonitor_slots (clks : Nat) : (clockMonitor s clks).shd.slots = s.shd.slots := by
  unfold clockMonitor
  dsimp only
  split
  · rfl
  · split
    · simp
    · simp [clockTrip, dropFrames]

end

/-! ### Commands that may touch the context slots -/

section
variable {i : Instr} {s t : State}

theorem slotsOk_writes : KeptByWrites SlotsOk where
  same _ _ h := slotsOk_congr h
  area n rsp o w hs := by
    refine slotsOk_congr ?_ hs
    unfold areaWrite
    (repeat' split) <;> rfl
  field n on f v hs := slotsOk_congr (by simp) hs
  enable n f b hs := by
    refine slotsOk_congr ?_ hs
    unfold enWrite
    split
    · rfl
    · split <;> simp
  command a w hs := by
    refine slotsOk_congr ?_ hs
    unfold commandWrite
    simp [apply_ite State.shd, apply_ite Shd.slots, batchCommit]

/-- The commands of frames and pixels that do not restart the loading of rows leave the shadow engine. -/
theorem frameCommands_shd (hchapter : (mayChange s i).chapter = 1) (hrow : Part.shd ∉ (mayChange s i).parts)
    (h : exec i s = .next t) : t.shd = s.shd := by
  cases i with
  | rowDelivered | pwmPeriodStart =>
    simp only [exec, execRowDelivered, execPwmPeriodStart] at h
    (repeat' split at h) <;> cases h <;> simp
  | bufferRetire | kilnBuildComplete | hourlyCheckpoint =>
    simp only [exec, execBufferRetire, execKilnBuildComplete, execHourlyCheckpoint] at h
    (repeat' split at h) <;> cases h <;> simp
  | rowDeadline | safetyLayerCheck | scanEnSet | scanCommitBit | galEnClear | fenceIncWrite | fenceDirectWrite
  | flipArm | lutDataWrite | lutDataRead | healingGenComplete | delayMonitorReading | gainmapGenComplete =>
    cases h
    simp
  | _ => simp [mayChange] at hchapter hrow

theorem exec_shd (hrow : Part.shd ∉ (mayChange s i).parts) (h : exec i s = .next t) : t.shd = s.shd := by
  rcases chapter_cases s i with hc | hc | hc | hc | hc | hc | hc
  · exact frameCommands_shd hc hrow h
  · exact (EngineFrames.frameOfEngineAndGuardCommands i s t hc h).2.1 .shd hrow
  · exact (TatexFrames.frameOfTatexCommands i s t hc h).2.1 .shd hrow
  · exact (MailFrames.frameOfMailCommands i s t hc h).2.1 .shd hrow
  · exact (PortFrames.frameOfPortCommands i s t hc h).2.1 .shd hrow
  · exact (SystemFrames.frameOfSystemCommands i s t hc h).2.1 .shd hrow
  · exact (RegFrames.frameOfRegisterAccess i s t hc h).2.1 .shd hrow

theorem respond_slotsOk (mb status : Nat) (data : List Byte) (hs : SlotsOk s) : SlotsOk (respond s mb status data) :=
  slotsOk_congr (by simp) hs

theorem blankRowSlot_slotsOk {out : RasterOutcome} {ecc : ContextEcc} (h : execBlankRowSlot out ecc s = .next t) (hs : SlotsOk s) :
    SlotsOk t := by
  have hpublished := publishPoint_slotsOk (contextEcc_slotsOk ecc hs)
  unfold execBlankRowSlot at h
  dsimp only at h
  split at h
  · split at h
    · cases h
      exact slotsOk_congr (by simp [writeBlank_slots]) hpublished
    · split at h
      · cases h
        exact slotsOk_congr (by rw [mismatch_slots, handover_slots]; simp [writeBlank_slots]) hpublished
      · cases h
        exact slotsOk_congr (by rw [handover_slots]; simp [writeBlank_slots]) hpublished
  · cases h
    exact hs

theorem objPacket_slotsOk {p : Port} (h : execObjPacket p s = .next t) (hs : SlotsOk s) : SlotsOk t := by
  unfold execObjPacket at h
  split at h
  · cases h
    exact hs
  · next u pkt _ htake =>
    have hu : SlotsOk u := slotsOk_congr (by simp [takePacket_all htake]) hs
    have hcommit (b : Bool) {v : State} (hv : SlotsOk v) : SlotsOk (if b then batchCommit v else v) := by
      split <;> exact hv
    have hrecords := hcommit (bit pkt.hdr.tspec 1) (applyRecords_slotsOk (bit pkt.hdr.tspec 0) ((List.range (leAt pkt.payload 0 1)).map
      (fun i => bytesAt pkt.payload (4 + 64 * i) 64)) 0 hu)
    dsimp only at h
    split at h
    · cases h
      exact slotsOk_congr (by simp) hrecords
    · cases h
      exact hrecords

/-- A command that may touch the context slots keeps their form. -/
theorem slotCommands_slotsOk (hrow : Part.shd ∈ (mayChange s i).parts) (h : exec i s = .next t) (hs : SlotsOk s) :
    SlotsOk t := by
  cases i with
  | wakeReadinessTimeout _ | hardTrip _ | vsys33PowerOn | supplyFail | resetNAssert =>
    rcases resetCommand_cases (by rfl) h with hc | hc
    · exact slotsOk_cleared hc
    · exact slotsOk_congr (congrArg Shd.slots hc.shd) hs
  | registerWrite addr w =>
    cases h
    exact slotsOk_writes.busWrite _ w hs
  | aliasWrite addr w =>
    cases h
    split
    · exact slotsOk_writes.busWrite _ w hs
    · exact hs
  | spiWrite addr len hcrc data dcrc =>
    cases h
    split
    · exact slotsOk_writes.spiWrite _ _ _ _ _ hs
    · exact slotsOk_congr rfl hs
  | regWrite mb =>
    cases h
    refine command_of SlotsOk (fun p => needLen_of SlotsOk ?_ (respond_slotsOk _ _ _ hs)) hs
    split
    · exact respond_slotsOk _ _ _ hs
    · exact respond_slotsOk _ _ _ (slotsOk_writes.writeBurst _ _ hs)
  | frameStart load =>
    simp only [exec, execFrameStart] at h
    split at h
    · cases h
      exact slotsOk_congr (by rw [beginFrame_slots]; simp) hs
    · cases h
      exact hs
  | rasterStart =>
    simp only [exec, execRasterStart] at h
    split at h
    · cases h
      exact slotsOk_congr (by rw [beginFrame_slots]; simp) hs
    · cases h
      exact hs
  | rowSlotStart k =>
    simp only [exec, execRowSlotStart] at h
    split at h
    · cases h
      refine slotsOk_congr ?_ hs
      split
      · rw [beginFetch_slots]
        split <;> simp
      · split <;> simp
    · cases h
      exact hs
  | scanEnClear =>
    cases h
    exact slotsOk_congr (by split <;> simp) hs
  | blankPassStart =>
    simp only [exec, execBlankPassStart] at h
    split at h <;> cases h <;> exact hs
  | blankRowSlot out ecc => exact blankRowSlot_slotsOk h hs
  | publishTimer =>
    cases h
    split
    · exact hs
    · exact publishPoint_slotsOk hs
  | batchCommit =>
    cases h
    exact hs
  | objPacket p => exact objPacket_slotsOk h hs
  | objWrite mb =>
    cases h
    refine command_of SlotsOk (fun p => needLen_of SlotsOk (respond_slotsOk _ _ _ ?_)
      (respond_slotsOk _ _ _ hs)) hs
    split <;> exact applyRecords_slotsOk _ _ _ hs
  | objClear mb =>
    cases h
    exact command_of SlotsOk (fun p => needLen_of SlotsOk (respond_slotsOk _ _ _ (clearContexts_slotsOk _ _ hs))
      (respond_slotsOk _ _ _ hs)) hs
  | powerDown mb =>
    cases h
    refine command_of SlotsOk (fun p => needLen_of SlotsOk (respond_slotsOk _ _ _ (slotsOk_congr ?_ hs))
      (respond_slotsOk _ _ _ hs)) hs
    split <;> simp
  | clockMonitorTrip clks =>
    cases h
    exact slotsOk_congr (clockMonitor_slots s _) hs
  | _ => simp [mayChange, mailParts] at hrow

theorem exec_slotsOk (h : exec i s = .next t) (hs : SlotsOk s) : SlotsOk t := by
  by_cases hrow : Part.shd ∈ (mayChange s i).parts
  · exact slotCommands_slotsOk hrow h hs
  · exact slotsOk_congr (congrArg Shd.slots (exec_shd hrow h)) hs

end

/-- Settles O5: by the commands that write DRAM, flash or context slots, by what clears them, and by the idle step. -/
theorem stepKeepsMemoriesOk : Obligations.StepKeepsMemoriesOk := by
  unfold Obligations.StepKeepsMemoriesOk
  rintro s t ⟨hdram, hflash⟩ hslots h
  unfold step at h
  split at h
  · cases h
    rcases idle_cases s with hc | hc
    · refine ⟨⟨?_, by rwa [hc.flash]⟩, slotsOk_cleared hc⟩
      rcases hc.dram with hd | hd <;> rw [hd]
      · rfl
      · exact hdram
    · exact ⟨⟨by rwa [hc.dram], by rwa [hc.flash]⟩, slotsOk_congr hc.slots hslots⟩
  · exact ⟨⟨exec_dram h hdram, exec_flash h hflash⟩, exec_slotsOk h hslots⟩

end Sys2Proof.Machine.StepMemories
end

section
/-! PROOF. MailRings: doorbells, acknowledges and mailbox requests of the Tatex link (12_mailbox_command_set.md R411 to R415, R422). -/

namespace Sys2Proof.Machine.MailRings

open CanPort (rung ring_mbx mb_setMb_self)
open FrameTiming (flag_eq_of_word)
open EnumerationMail (packetTaken)
open ConsumedPackets (takePacket_of_type)
open TatexPorts (counted_after bumpBy_counted)
open WakeSources (wakeBy_of_awake startWake_effects)

/-! ### One mailbox changed -/

section
variable {s t : State} {n k : Nat}

theorem mb_setMb_ne (h : k ≠ n) (f : Mb → Mb) : (s.setMb n f).mb k = s.mb k := by
  simp [State.mb, State.setMb, List.getD_eq_getElem?_getD, List.getElem?_set_ne (Ne.symm h)]

theorem mb_of_mbx (h : t.mbx = s.mbx) (k : Nat) : t.mb k = s.mb k := by
  unfold State.mb
  rw [h]

theorem mb_of_boxes (h : t.mbx.boxes = s.mbx.boxes) (k : Nat) : t.mb k = s.mb k := by
  unfold State.mb
  rw [h]

theorem setMb_boxes_length (f : Mb → Mb) : (s.setMb n f).mbx.boxes.length = s.mbx.boxes.length := by
  simp [State.setMb]

end

/-! ### One ring (R412, R413, R467) -/

section
variable {s : State} {n k path src : Nat} {bcast : Bool} {last : Option (List Byte)}

theorem ring_mb_self (hn : n < s.mbx.boxes.length) : (ring s n path src bcast last).mb n = rung s path src bcast last (s.mb n) := by
  rw [← mb_setMb_self hn (rung s path src bcast last)]
  exact mb_of_boxes (by rw [ring_mbx]) n

theorem ring_mb_ne (h : k ≠ n) : (ring s n path src bcast last).mb k = s.mb k := by
  rw [← mb_setMb_ne (s := s) h (rung s path src bcast last)]
  exact mb_of_boxes (by rw [ring_mbx]) k

theorem ring_rings : (ring s n path src bcast last).mbx.rings = s.mbx.rings ++ [n] := by rw [ring_mbx]

theorem ring_accepted : (ring s n path src bcast last).mbx.accepted = s.mbx.accepted := by
  rw [ring_mbx]
  rfl

theorem ring_boxes_length : (ring s n path src bcast last).mbx.boxes.length = s.mbx.boxes.length := by
  rw [ring_mbx]
  exact setMb_boxes_length _

/-- A ring changes the registers of a wake alone (R467). -/
theorem ring_flag {f : Field} (hf : Outside wakeByRegs (fieldKey f)) : (ring s n path src bcast last).flag f = s.flag f :=
  flag_eq_of_word (wakeBy_word hf _ 4)

theorem ring_reg {f : Field} (hf : Outside wakeByRegs (fieldKey f)) : (ring s n path src bcast last).reg f = s.reg f :=
  reg_eq_of_word (wakeBy_word hf _ 4)

end

/-! ### The doorbell (R411, R412) -/

section
variable {s : State} {n k : Nat}

theorem spiRing_of_barred (h : mayRing s 0 n = false ∨ (s.mb n).busy = true) :
    spiRing s n = s.setFlag MBX.STATUS.RING_IGN true := if_pos h

theorem spiRing_of_free (hring : mayRing s 0 n = true) (hfree : (s.mb n).busy = false) : spiRing s n = ring s n 0 0 false none :=
  if_neg (by simp [hring, hfree])

/-- A bit rings its mailbox, or is ignored (R411). -/
def canSpiRing (s : State) (n : Nat) : Bool := mayRing s 0 n && !(s.mb n).busy

theorem spiRing_of_not (h : canSpiRing s n = false) : spiRing s n = s.setFlag MBX.STATUS.RING_IGN true := by
  refine spiRing_of_barred ?_
  simp only [canSpiRing, Bool.and_eq_false_iff, Bool.not_eq_false'] at h
  exact h

theorem spiRing_of_can (h : canSpiRing s n = true) : spiRing s n = ring s n 0 0 false none := by
  simp only [canSpiRing, Bool.and_eq_true, Bool.not_eq_true'] at h
  exact spiRing_of_free h.1 h.2

theorem spiRing_mb_ne (h : k ≠ n) : (spiRing s n).mb k = s.mb k := by
  cases hc : canSpiRing s n with
  | true => rw [spiRing_of_can hc]; exact ring_mb_ne h
  | false => rw [spiRing_of_not hc]; rfl

theorem spiRing_boxes_length : (spiRing s n).mbx.boxes.length = s.mbx.boxes.length := (MailBounds.spiRing_kept s n).boxes

/-- A mailbox's owner is set by registers that no ring changes. -/
theorem spiRing_owner : mbOwner (spiRing s n) k = mbOwner s k := by
  have hflag : (spiRing s n).flag CAN.CTRL.DIAG_EN = s.flag CAN.CTRL.DIAG_EN := by
    cases hc : canSpiRing s n with
    | true => rw [spiRing_of_can hc]; exact ring_flag (outside_of (by decide))
    | false => rw [spiRing_of_not hc]; exact flag_setFlag_ne _ _ _ _ (by decide)
  have hpath : (spiRing s n).reg MBX.PATH.PATH = s.reg MBX.PATH.PATH := by
    cases hc : canSpiRing s n with
    | true => rw [spiRing_of_can hc]; exact ring_reg (outside_of (by decide))
    | false => rw [spiRing_of_not hc]; exact reg_setFlag_ne _ _ _ _ (by decide)
  unfold mbOwner
  rw [hflag, hpath]

theorem spiRing_canSpiRing (h : k ≠ n) : canSpiRing (spiRing s n) k = canSpiRing s k := by
  unfold canSpiRing mayRing
  rw [spiRing_owner, spiRing_mb_ne h]

theorem spiRing_ignored (h : s.flag MBX.STATUS.RING_IGN = true) : (spiRing s n).flag MBX.STATUS.RING_IGN = true := by
  cases hc : canSpiRing s n with
  | true => rw [spiRing_of_can hc, ring_flag (outside_of (by decide))]; exact h
  | false => rw [spiRing_of_not hc]; exact flag_setFlag_self _ _ _ (by decide) (by decide)

end

/-- What the bits of the list `l` did to the mailboxes between `s` and `t` (R411, R412). -/
structure RangBits (s t : State) (l : List Nat) : Prop where
  rang : ∀ n ∈ l, canSpiRing s n = true →
    (t.mb n).phase = .rung ∧ (t.mb n).path = 0 ∧ (t.mb n).req = (s.mb n).req ∧ (t.mb n).auth = none
  ignored : ∀ n ∈ l, canSpiRing s n = false → t.mb n = s.mb n ∧ t.flag MBX.STATUS.RING_IGN = true
  others : ∀ n, n ∉ l → t.mb n = s.mb n
  rings : t.mbx.rings = s.mbx.rings ++ l.filter (canSpiRing s)
  accepted : t.mbx.accepted = s.mbx.accepted

theorem foldl_spiRing_ignored (l : List Nat) {s : State} (h : s.flag MBX.STATUS.RING_IGN = true) :
    (l.foldl spiRing s).flag MBX.STATUS.RING_IGN = true := by
  induction l generalizing s with
  | nil => exact h
  | cons n l ih => exact ih (spiRing_ignored h)

theorem foldl_spiRing_rang (l : List Nat) (hnodup : l.Nodup) {s : State} (hlt : ∀ n ∈ l, n < s.mbx.boxes.length) :
    RangBits s (l.foldl spiRing s) l := by
  induction l generalizing s with
  | nil => exact ⟨by simp, by simp, fun _ _ => rfl, by simp, rfl⟩
  | cons n l ih =>
    obtain ⟨hn, hnodup⟩ := List.nodup_cons.mp hnodup
    have hne {k : Nat} (hk : k ∈ l) : k ≠ n := fun h => hn (h ▸ hk)
    have htail := ih hnodup (s := spiRing s n) (fun k hk => by rw [spiRing_boxes_length]; exact hlt k (List.mem_cons_of_mem n hk))
    have hself : (l.foldl spiRing (spiRing s n)).mb n = (spiRing s n).mb n := htail.others n hn
    have hcan : l.filter (canSpiRing (spiRing s n)) = l.filter (canSpiRing s) :=
      List.filter_congr (fun k hk => spiRing_canSpiRing (hne hk))
    refine ⟨fun k hk hc => ?_, fun k hk hc => ?_, fun k hk => ?_, ?_, ?_⟩
    · rcases List.mem_cons.mp hk with rfl | hk
      · rw [List.foldl_cons, hself, spiRing_of_can hc, ring_mb_self (hlt k (List.mem_cons_self ..))]
        exact ⟨rfl, rfl, rfl, rfl⟩
      · rw [← spiRing_mb_ne (s := s) (hne hk)]
        exact htail.rang k hk (by rwa [spiRing_canSpiRing (hne hk)])
    · rcases List.mem_cons.mp hk with rfl | hk
      · refine ⟨?_, foldl_spiRing_ignored l ?_⟩
        · rw [List.foldl_cons, hself, spiRing_of_not hc]
          rfl
        · rw [spiRing_of_not hc]
          exact flag_setFlag_self _ _ _ (by decide) (by decide)
      · rw [← spiRing_mb_ne (s := s) (hne hk)]
        exact htail.ignored k hk (by rwa [spiRing_canSpiRing (hne hk)])
    · obtain ⟨hkn, hkl⟩ := not_or.mp (fun h => hk (List.mem_cons.mpr h))
      rw [List.foldl_cons, htail.others k hkl, spiRing_mb_ne hkn]
    · rw [List.foldl_cons, htail.rings, hcan, List.filter_cons]
      cases hc : canSpiRing s n with
      | true => rw [spiRing_of_can hc, ring_rings]; simp
      | false => rw [spiRing_of_not hc]; simp
    · rw [List.foldl_cons, htail.accepted]
      cases hc : canSpiRing s n with
      | true => rw [spiRing_of_can hc, ring_accepted]
      | false => rw [spiRing_of_not hc]; rfl

/-! ### A ring in LANDING (R413, R467) -/

section
variable {s : State} {n : Nat}

/-- The block wakes for a ring. -/
def WokenByRing (s : State) : Prop := s.power = 5 ∧ s.reg PWR.STATE.WAKE_SRC = 4

theorem wakeBy_ring_of_landing (h : s.power = 1) : WokenByRing (wakeBy s 4) := by
  have hwake : wakeBy s 4 = startWake s 4 := by
    unfold wakeBy
    rw [h]
    exact if_pos (.inr rfl)
  rw [hwake]
  obtain ⟨hpower, hsrc, -⟩ := startWake_effects s (src := 4) (by decide)
  exact ⟨hpower, hsrc⟩

theorem wakeBy_ring_of_woken (h : WokenByRing s) : WokenByRing (wakeBy s 4) := by
  rwa [wakeBy_of_awake s 4 (.inr h.1)]

theorem spiRing_still_woken (h : WokenByRing s) : WokenByRing (spiRing s n) := by
  cases hc : canSpiRing s n with
  | true =>
    rw [spiRing_of_can hc]
    exact wakeBy_ring_of_woken h
  | false =>
    rw [spiRing_of_not hc]
    exact ⟨(reg_setFlag_ne _ _ _ _ (by decide)).trans h.1, (reg_setFlag_ne _ _ _ _ (by decide)).trans h.2⟩

theorem foldl_spiRing_still_woken (l : List Nat) {s : State} (h : WokenByRing s) : WokenByRing (l.foldl spiRing s) := by
  induction l generalizing s with
  | nil => exact h
  | cons n l ih => exact ih (spiRing_still_woken h)

theorem foldl_spiRing_wakes (l : List Nat) {s : State} (hpower : s.power = 1) (h : ∃ n ∈ l, canSpiRing s n = true) :
    WokenByRing (l.foldl spiRing s) := by
  induction l generalizing s with
  | nil => simp at h
  | cons n l ih =>
    cases hc : canSpiRing s n with
    | true =>
      rw [List.foldl_cons, spiRing_of_can hc]
      exact foldl_spiRing_still_woken l (wakeBy_ring_of_landing hpower)
    | false =>
      obtain ⟨k, hk, hring⟩ := h
      have hkn : k ≠ n := fun e => by simp [e, hc] at hring
      refine ih ?_ ⟨k, (List.mem_cons.mp hk).resolve_left hkn, by rwa [spiRing_canSpiRing hkn]⟩
      rw [spiRing_of_not hc]
      exact (reg_setFlag_ne _ _ _ _ (by decide)).trans hpower

end

theorem doorbell_completes {s : State} (w : Word) (hs : MailOk s) : Completes (.doorbell w) s fun t =>
    (∀ n < 8, bit w.toNat n = true → mayRing s 0 n = true → (s.mb n).busy = false →
      (t.mb n).phase = .rung ∧ (t.mb n).path = 0 ∧ (t.mb n).req = (s.mb n).req ∧ (t.mb n).auth = none)
    ∧ (∀ n < 8, bit w.toNat n = true → mayRing s 0 n = false ∨ (s.mb n).busy = true →
      t.mb n = s.mb n ∧ t.flag MBX.STATUS.RING_IGN = true)
    ∧ (∀ n < 8, bit w.toNat n = false → t.mb n = s.mb n)
    ∧ t.mbx.rings = s.mbx.rings ++ (List.range 8).filter (fun n => bit w.toNat n && mayRing s 0 n && !(s.mb n).busy)
    ∧ t.mbx.accepted = s.mbx.accepted
    ∧ (s.power = 1 → (∃ n < 8, bit w.toNat n = true ∧ mayRing s 0 n = true ∧ (s.mb n).busy = false) →
      t.power = 5 ∧ t.reg PWR.STATE.WAKE_SRC = 4) := by
  have hmem {n : Nat} : n ∈ (List.range 8).filter (bit w.toNat) ↔ n < 8 ∧ bit w.toNat n = true := by
    rw [List.mem_filter, List.mem_range]
  obtain ⟨hrang, hignored, hothers, hrings, haccepted⟩ := foldl_spiRing_rang ((List.range 8).filter (bit w.toNat))
    (List.nodup_range.filter _) (s := s) (fun n hn => by rw [hs.1]; exact (hmem.mp hn).1)
  refine completes_of rfl ⟨fun n hn hbit hmay hfree => hrang n (hmem.mpr ⟨hn, hbit⟩) (by simp [canSpiRing, hmay, hfree]),
    fun n hn hbit hbar => hignored n (hmem.mpr ⟨hn, hbit⟩) ?_, fun n _ hbit => hothers n ?_, ?_, haccepted, fun hpower h => ?_⟩
  · rcases hbar with h | h <;> simp [canSpiRing, h]
  · rw [hmem, hbit]
    simp
  · rw [doorbell, hrings, List.filter_filter]
    congr 2
    funext n
    simp only [canSpiRing]
    cases bit w.toNat n <;> simp
  · obtain ⟨n, hn, hbit, hmay, hfree⟩ := h
    exact foldl_spiRing_wakes _ hpower ⟨n, hmem.mpr ⟨hn, hbit⟩, by simp [canSpiRing, hmay, hfree]⟩

/-! ### Acknowledges (R412) -/

/-- One bit of MBX.ACK. -/
def ackOne (w : Nat) (t : State) (n : Nat) : State :=
  if bit w n ∧ (t.mb n).phase = .done then t.setMb n (fun m => { m with phase := .idle }) else t

theorem mbxAck_eq (s : State) (w : Nat) : mbxAck s w = (List.range 8).foldl (ackOne w) s := rfl

section
variable {s : State} {w n k : Nat}

theorem ackOne_mb_self (hn : n < s.mbx.boxes.length) : (ackOne w s n).mb n
    = if bit w n = true ∧ (s.mb n).phase = .done then { s.mb n with phase := .idle } else s.mb n := by
  unfold ackOne
  split
  · exact mb_setMb_self hn _
  · rfl

theorem ackOne_mb_ne (h : k ≠ n) : (ackOne w s n).mb k = s.mb k := by
  unfold ackOne
  split
  · exact mb_setMb_ne h _
  · rfl

theorem ackOne_boxes_length : (ackOne w s n).mbx.boxes.length = s.mbx.boxes.length := by
  unfold ackOne
  split
  · exact setMb_boxes_length _
  · rfl

theorem ackOne_rest : (ackOne w s n).regs = s.regs ∧ (ackOne w s n).mbx.rings = s.mbx.rings
    ∧ (ackOne w s n).mbx.accepted = s.mbx.accepted := by
  unfold ackOne
  split
  · exact ⟨rfl, rfl, rfl⟩
  · exact ⟨rfl, rfl, rfl⟩

theorem foldl_ackOne_rest (l : List Nat) (s : State) : (l.foldl (ackOne w) s).regs = s.regs
    ∧ (l.foldl (ackOne w) s).mbx.rings = s.mbx.rings ∧ (l.foldl (ackOne w) s).mbx.accepted = s.mbx.accepted := by
  induction l generalizing s with
  | nil => exact ⟨rfl, rfl, rfl⟩
  | cons n l ih =>
    obtain ⟨hregs, hrings, haccepted⟩ := ackOne_rest (s := s) (w := w) (n := n)
    obtain ⟨kregs, krings, kaccepted⟩ := ih (ackOne w s n)
    exact ⟨kregs.trans hregs, krings.trans hrings, kaccepted.trans haccepted⟩

theorem foldl_ackOne_mb_ne (l : List Nat) (h : k ∉ l) {s : State} : (l.foldl (ackOne w) s).mb k = s.mb k := by
  induction l generalizing s with
  | nil => rfl
  | cons n l ih =>
    obtain ⟨hkn, hkl⟩ := not_or.mp (fun e => h (List.mem_cons.mpr e))
    rw [List.foldl_cons, ih hkl, ackOne_mb_ne hkn]

theorem foldl_ackOne_mb (l : List Nat) (hnodup : l.Nodup) (hk : k ∈ l) {s : State} (hlt : k < s.mbx.boxes.length) :
    (l.foldl (ackOne w) s).mb k
      = if bit w k = true ∧ (s.mb k).phase = .done then { s.mb k with phase := .idle } else s.mb k := by
  induction l generalizing s with
  | nil => simp at hk
  | cons n l ih =>
    obtain ⟨hn, hnodup⟩ := List.nodup_cons.mp hnodup
    rw [List.foldl_cons]
    rcases List.mem_cons.mp hk with rfl | hk
    · rw [foldl_ackOne_mb_ne l hn, ackOne_mb_self hlt]
    · have hkn : k ≠ n := fun e => hn (e ▸ hk)
      rw [ih hnodup hk (by rwa [ackOne_boxes_length]), ackOne_mb_ne hkn]

end

theorem mbxAck_completes {s : State} (w : Word) (hs : MailOk s) : Completes (.mbxAck w) s fun t =>
    (∀ n, n < 8 → t.mb n
      = if bit w.toNat n = true ∧ (s.mb n).phase = .done then { s.mb n with phase := .idle } else s.mb n)
    ∧ t.regs = s.regs ∧ t.mbx.rings = s.mbx.rings ∧ t.mbx.accepted = s.mbx.accepted :=
  completes_of rfl ⟨fun _ hn => foldl_ackOne_mb _ List.nodup_range (List.mem_range.mpr hn) (by rwa [hs.1]),
    foldl_ackOne_rest _ s⟩

/-! ### Requests of the Tatex link (R412, R415, R422) -/

section
variable {s : State} {p n src : Nat} {bcast : Bool} {b : List Byte}

/-- A broadcast that may not be carried is malformed. -/
theorem tatexRequest_of_barred (hbcast : bcast = true) (hop : reqOp b ∉ broadcastOps) :
    tatexRequest s p n src bcast b = badPacket (s.bump (TX.MALFORMED p)) p := if_pos ⟨hbcast, hop⟩

/-- An ASSIGN_ADDR broadcast for another device does nothing. -/
theorem tatexRequest_of_other (hbcast : bcast = true) (hop : reqOp b = 0x0A02) (hserial : leAt b 8 8 ≠ Config.serial.toNat) :
    tatexRequest s p n src bcast b = s := by
  unfold tatexRequest
  dsimp only
  rw [if_neg (by simp [hop, broadcastOps]), if_pos ⟨hbcast, hop, hserial⟩]

/-- The request may be carried as it came (R422). -/
def Carried (bcast : Bool) (b : List Byte) : Prop :=
  bcast = true → reqOp b ∈ broadcastOps ∧ (reqOp b = 0x0A02 → leAt b 8 8 = Config.serial.toNat)

/-- The mailbox holds the answer of the same request (R415). -/
abbrev Repeated (s : State) (n src : Nat) (b : List Byte) : Prop :=
  (s.mb n).phase = .done ∧ (s.mb n).path = 1 ∧ (s.mb n).src = src ∧ (s.mb n).last = some b

variable (hcarried : Carried bcast b)
include hcarried

theorem tatexRequest_carried (s : State) (p n src : Nat) : tatexRequest s p n src bcast b
    = if mayRing s 1 n = false then
        (if bcast = true ∧ reqOp b ≠ 0x0A02 then s else sendRsp s src n (rspBody (reqOp b) (reqTag b) 9 0 []))
      else if Repeated s n src b then (if bcast = true ∧ reqOp b ≠ 0x0A02 then s else sendRsp s src n (storedRsp s n 4))
      else if (s.mb n).busy = true then
        (if bcast = true ∧ reqOp b ≠ 0x0A02 then s else sendRsp s src n (rspBody (reqOp b) (reqTag b) 2 0 []))
      else ring (s.setMb n (fun x => { x with req := padTo 256 b })) n 1 src bcast (some b) := by
  have hbarred : ¬ (bcast = true ∧ reqOp b ∉ broadcastOps) := fun h => h.2 (hcarried h.1).1
  have hother : ¬ (bcast = true ∧ reqOp b = 0x0A02 ∧ leAt b 8 8 ≠ Config.serial.toNat) :=
    fun h => h.2.2 ((hcarried h.1).2 h.2.1)
  unfold tatexRequest Repeated
  dsimp only
  rw [if_neg hbarred, if_neg hother]

/-- A request that does not ring leaves every mailbox as it is. -/
theorem tatexRequest_mbx_of_refused (h : mayRing s 1 n = false ∨ (s.mb n).busy = true ∨ Repeated s n src b) :
    (tatexRequest s p n src bcast b).mbx = s.mbx := by
  have hsent (rsp : List Byte) : (if bcast = true ∧ reqOp b ≠ 0x0A02 then s else sendRsp s src n rsp).mbx = s.mbx := by
    split
    · rfl
    · simp
  rw [tatexRequest_carried hcarried]
  split
  · exact hsent _
  · next hmay =>
    split
    · exact hsent _
    · next hnew =>
      split
      · exact hsent _
      · next hfree => exact absurd h (by simp [hmay, hfree, hnew])

theorem tatexRequest_of_free (hmay : mayRing s 1 n = true) (hfree : (s.mb n).busy = false) (hnew : ¬ Repeated s n src b) :
    tatexRequest s p n src bcast b = ring (s.setMb n (fun x => { x with req := padTo 256 b })) n 1 src bcast (some b) := by
  rw [tatexRequest_carried hcarried, if_neg (by simp [hmay]), if_neg hnew, if_neg (by simp [hfree])]

end

section
variable {s : State} {n src k : Nat} {bcast : Bool} {b : List Byte}

theorem ringFilled_mb (hn : n < s.mbx.boxes.length) :
    (ring (s.setMb n (fun x => { x with req := padTo 256 b })) n 1 src bcast (some b)).mb n
      = rung (s.setMb n (fun x => { x with req := padTo 256 b })) 1 src bcast (some b) { s.mb n with req := padTo 256 b } := by
  rw [ring_mb_self (by rwa [setMb_boxes_length]), mb_setMb_self hn]

/-- No request of the link changes another mailbox. -/
theorem tatexRequest_mb_ne {p : Nat} (h : k ≠ n) : (tatexRequest s p n src bcast b).mb k = s.mb k := by
  have hsent (rsp : List Byte) : (if bcast = true ∧ reqOp b ≠ 0x0A02 then s else sendRsp s src n rsp).mb k = s.mb k := by
    refine mb_of_mbx ?_ k
    split
    · rfl
    · simp
  by_cases hbarred : bcast = true ∧ reqOp b ∉ broadcastOps
  · rw [tatexRequest_of_barred hbarred.1 hbarred.2]
    exact mb_of_mbx (by simp) k
  · by_cases hother : bcast = true ∧ reqOp b = 0x0A02 ∧ leAt b 8 8 ≠ Config.serial.toNat
    · rw [tatexRequest_of_other hother.1 hother.2.1 hother.2.2]
    · have hcarried : Carried bcast b := fun hb => ⟨by_contra fun hop => hbarred ⟨hb, hop⟩,
        fun hop => by_contra fun hserial => hother ⟨hb, hop, hserial⟩⟩
      rw [tatexRequest_carried hcarried]
      split
      · exact hsent _
      · split
        · exact hsent _
        · split
          · exact hsent _
          · rw [ring_mb_ne h, mb_setMb_ne h]

end

section
variable {s : State} {p : Port} {pkt : Packet} {rx : Nat}

theorem mboxReqPacket_run (hpkt : (s.port (portNo p)).pkt = some (pkt, rx)) (htype : pkt.hdr.type = 4) :
    exec (.mboxReqPacket p) s = .next (tatexRequest (packetTaken s p) (portNo p) (leAt pkt.payload 0 1 % 8) pkt.hdr.src
      (pkt.hdr.dest == 1023) (pkt.payload.drop 4)) := by
  simp only [exec, execMboxReqPacket]
  rw [takePacket_of_type hpkt htype]

theorem mayRing_packetTaken (path n : Nat) : mayRing (packetTaken s p) path n = mayRing s path n := rfl

theorem mboxReqPacket_completes {n : Nat} {b : List Byte} {bcast : Bool} (hs : MailOk s)
    (hpkt : (s.port (portNo p)).pkt = some (pkt, rx)) (htype : pkt.hdr.type = 4) (hn : n = leAt pkt.payload 0 1 % 8)
    (hb : b = pkt.payload.drop 4) (hbcast : bcast = decide (pkt.hdr.dest = 1023)) :
    Completes (.mboxReqPacket p) s fun t =>
      (∀ k, k ≠ n → t.mb k = s.mb k)
      ∧ (bcast = true → reqOp b ∉ [0x0201, 0x0202, 0x0401, 0x0901, 0x0A02] →
        t.mbx = s.mbx ∧ Counted s t (TX.MALFORMED (portNo p)) 1)
      ∧ (bcast = true → reqOp b = 0x0A02 → leAt b 8 8 ≠ Config.serial.toNat → t.mbx = s.mbx ∧ t.regs = s.regs)
      ∧ ((bcast = true → reqOp b ∈ [0x0201, 0x0202, 0x0401, 0x0901, 0x0A02]
          ∧ (reqOp b = 0x0A02 → leAt b 8 8 = Config.serial.toNat)) →
        (mayRing s 1 n = false → t.mbx = s.mbx)
        ∧ (mayRing s 1 n = true → (s.mb n).busy = true → t.mbx = s.mbx)
        ∧ (mayRing s 1 n = true → (s.mb n).phase = .done → (s.mb n).path = 1 → (s.mb n).src = pkt.hdr.src →
          (s.mb n).last = some b → t.mbx = s.mbx)
        ∧ (mayRing s 1 n = true → (s.mb n).busy = false →
            ¬ ((s.mb n).phase = .done ∧ (s.mb n).path = 1 ∧ (s.mb n).src = pkt.hdr.src ∧ (s.mb n).last = some b) →
          (t.mb n).phase = .rung ∧ (t.mb n).req = padTo 256 b ∧ (t.mb n).path = 1 ∧ (t.mb n).src = pkt.hdr.src
          ∧ (t.mb n).bcast = bcast ∧ t.mbx.rings = s.mbx.rings ++ [n])) := by
  have hlt : n < s.mbx.boxes.length := by
    rw [hs.1, hn]
    exact Nat.mod_lt _ (by decide)
  have hrun := mboxReqPacket_run hpkt htype
  rw [← hn, ← hb, show (pkt.hdr.dest == 1023) = bcast by rw [hbcast]; rfl] at hrun
  refine completes_of hrun ⟨fun k hk => tatexRequest_mb_ne (s := packetTaken s p) hk, fun hbc hop => ?_, fun hbc hop hser => ?_,
    fun hcarried => ⟨fun h => ?_, fun _ h => ?_, fun _ hdone hpath hsrc hlast => ?_, fun hmay hfree hnew => ?_⟩⟩
  · rw [tatexRequest_of_barred hbc hop]
    exact ⟨by simp [packetTaken], counted_after (bumpBy_counted (packetTaken s p) (by cases p <;> decide) 1)
      (reg_eq_of_word (badPacket_word (outside_of (by cases p <;> decide +kernel)) _ _))⟩
  · rw [tatexRequest_of_other hbc hop hser]
    exact ⟨rfl, rfl⟩
  · exact tatexRequest_mbx_of_refused (s := packetTaken s p) hcarried (.inl h)
  · exact tatexRequest_mbx_of_refused (s := packetTaken s p) hcarried (.inr (.inl h))
  · exact tatexRequest_mbx_of_refused (s := packetTaken s p) hcarried (.inr (.inr ⟨hdone, hpath, hsrc, hlast⟩))
  · rw [tatexRequest_of_free (s := packetTaken s p) hcarried hmay hfree hnew, ringFilled_mb (s := packetTaken s p) hlt, ring_rings]
    exact ⟨rfl, rfl, rfl, rfl, rfl, rfl⟩

end

/-- Settles O40: doorbells by one ring after another, acknowledges by their bits, requests by the cases of their acceptance. -/
theorem mailboxRings : Obligations.MailboxRings := by
  unfold Obligations.MailboxRings
  exact ⟨fun _ w hs => doorbell_completes w hs, fun _ w hs => mbxAck_completes w hs,
    fun _ _ _ _ _ _ _ hs hpkt htype hn hb hbcast => mboxReqPacket_completes hs hpkt htype hn hb hbcast⟩

end Sys2Proof.Machine.MailRings
end

section
/-! PROOF. MailLengths: commands with a fixed request length (12_mailbox_command_set.md R416, R417, R421). -/

namespace Sys2Proof.Machine.MailLengths

open KernelMail (command_of_runs refused_of_runs)

/-- The command `c` carries opcode `op` and judges that its parameters are `n` bytes before anything else (R421). -/
def FixedLength (c : Nat → Instr) (op n : Nat) : Prop :=
  ∃ f : Nat → State → List Byte → State,
    ∀ s mb, exec (c mb) s = .next (command s mb op (fun t p => needLen t mb (p.length == n) (f mb t p)))

section
variable {c : Nat → Instr} {op n : Nat} {s : State} {mb : Nat} (h : FixedLength c op n)
include h

theorem FixedLength.badLength {p : List Byte} (hm : MailOk s) (hr : Runs s mb op p) (hp : p.length ≠ n) : Completes (c mb) s fun t =>
    Answered s t mb 3 [] ∧ t.regs = s.regs ∧ t.dram = s.dram ∧ t.boot = s.boot ∧ t.mram = s.mram := by
  obtain ⟨f, hexec⟩ := h
  have hrun : exec (c mb) s = .next (respond s mb 3 []) := by
    rw [hexec, command_of_runs hr, needLen_eq, if_neg (by simpa using hp)]
  exact completes_of hrun ⟨refused_of_runs hm hr s rfl (by decide), by simp, by simp, by simp, by simp⟩

theorem FixedLength.notRunning (hr : runs s mb op = false) : exec (c mb) s = .next s := by
  obtain ⟨f, hexec⟩ := h
  rw [hexec, command_eq, if_neg (by simp [hr])]

end

/-- Settles O43: each command of the list judges its length first. -/
theorem commandLengths : Obligations.CommandLengths := by
  unfold Obligations.CommandLengths
  intro lens readBack ok signed readings badRows e he
  have hfixed : FixedLength e.1 e.2.1 e.2.2 := by
    fin_cases he <;> exact ⟨_, fun _ _ => rfl⟩
  exact ⟨fun _ _ _ hm hr hp => hfixed.badLength hm hr hp, fun _ _ hr => hfixed.notRunning hr⟩

end Sys2Proof.Machine.MailLengths
end

section
/-! PROOF. MailStart: acceptance of rung mailboxes and what a command is refused for before it starts (12_mailbox_command_set.md R413,
R416, R420, R421). -/

namespace Sys2Proof.Machine.MailStart

open CanPort (mb_setMb_self)
open KernelMail (respondWith_answered)
open MailRings (mb_setMb_ne mb_of_boxes setMb_boxes_length)

/-! ### Acceptance (R413) -/

/-- A rung mailbox accepted. -/
def acceptOne (t : State) (n : Nat) : State := t.setMb n (fun m => { m with phase := .accepted })

theorem foldl_acceptOne_mb (l : List Nat) {s : State} {n : Nat} (hn : n < s.mbx.boxes.length) :
    (l.foldl acceptOne s).mb n = if n ∈ l then { s.mb n with phase := .accepted } else s.mb n := by
  induction l generalizing s with
  | nil => rfl
  | cons k l ih =>
    rw [List.foldl_cons, ih (by rwa [acceptOne, setMb_boxes_length])]
    by_cases hk : n = k
    · subst hk
      rw [acceptOne, mb_setMb_self hn]
      simp
    · rw [acceptOne, mb_setMb_ne hk]
      simp [hk]

theorem foldl_acceptOne_rest (l : List Nat) (s : State) :
    (l.foldl acceptOne s).mbx.accepted = s.mbx.accepted ∧ (l.foldl acceptOne s).mbx.rings = s.mbx.rings := by
  induction l generalizing s with
  | nil => exact ⟨rfl, rfl⟩
  | cons n l ih => exact ih (acceptOne s n)

theorem commandAccept_completes {s : State} (hm : MailOk s) (hup : supUp s = true) : Completes .commandAccept s fun t =>
    t.mbx.rings = [] ∧ t.mbx.accepted = s.mbx.accepted ++ s.mbx.rings
    ∧ ∀ n < 8, (n ∈ s.mbx.rings → t.mb n = { s.mb n with phase := .accepted }) ∧ (n ∉ s.mbx.rings → t.mb n = s.mb n) := by
  have hrun : exec .commandAccept s = .next (acceptRings s) := congrArg Host.Outcome.next (if_pos hup)
  obtain ⟨haccepted, hrings⟩ := foldl_acceptOne_rest s.mbx.rings s
  refine completes_of hrun ⟨rfl, congrArg₂ (· ++ ·) haccepted hrings, fun n hn => ?_⟩
  have hmb : (acceptRings s).mb n = _ := foldl_acceptOne_mb s.mbx.rings (s := s) (n := n) (by rw [hm.1]; exact hn)
  constructor
  · intro h
    rw [hmb, if_pos h]
  · intro h
    rw [hmb, if_neg h]

/-! ### The order of starts (R416) -/

section
variable {s : State} {mb : Nat}

theorem mayStart_of_earlier {k : Nat} (hk : k ∈ s.mbx.accepted.takeWhile (· != mb)) (h : bit (reqFlags (s.mb mb).req) 0 = true
      ∨ bit (reqFlags (s.mb mb).req) 1 = true ∧ bit (reqFlags (s.mb k).req) 1 = true
        ∧ bits (reqFlags (s.mb mb).req) 3 3 = bits (reqFlags (s.mb k).req) 3 3
      ∨ cmdsClash (s.mb k).req (s.mb mb).req = true) : mayStart s mb = false := by
  refine List.all_eq_false.mpr ⟨k, hk, ?_⟩
  rcases h with h | ⟨h, hk, hstream⟩ | h
  · simp [h]
  · simp [h, hk, hstream]
  · simp [h]

theorem commandStart_of_waiting (h : mayStart s mb = false) : exec (.commandStart mb) s = .next s :=
  congrArg Host.Outcome.next (if_neg (by simp [h]))

theorem commandStart_run (hup : supUp s = true) (hmem : mb ∈ s.mbx.accepted) (hphase : (s.mb mb).phase = .accepted)
    (hmay : mayStart s mb = true) : exec (.commandStart mb) s = .next (startCommand s mb) :=
  congrArg Host.Outcome.next (if_pos ⟨hup, hmem, hphase, hmay⟩)

end

/-! ### The checks of a command that starts (R416, R420, R421, R578) -/

section
variable {s : State} {mb : Nat}

/-- A command refused before it runs is answered with a status alone. -/
theorem refused_answered (hm : MailOk s) (hmb : mb < 8) {u : State} (hu : u.mbx.boxes = s.mbx.boxes) {status : Nat}
    (hs : status < 256) : Answered s (respond u mb status []) mb status [] := by
  have hans : Answered u (respond u mb status []) mb status [] :=
    (respondWith_answered u mb 0 (.inr (.inr rfl)) (by rw [hu, hm.1]; exact hmb) (by simp) hs).1
  unfold Answered at hans ⊢
  simpa only [mb_of_boxes hu] using hans

theorem startCommand_of_notBooted (hdone : s.boot.done = false) (hid : reqOp (s.mb mb).req ≠ 0x0101)
    (hecho : reqOp (s.mb mb).req ≠ 0x0108) : startCommand s mb = respond s mb 7 [] := if_pos ⟨hdone, hid, hecho⟩

section
variable (hdone : s.boot.done = true) (hauth : bit (reqFlags (s.mb mb).req) 2 = false)
include hdone hauth

theorem startCommand_of_tooLong (hlen : 248 < reqLen (s.mb mb).req) (hop : reqOp (s.mb mb).req ≠ 0x0102) :
    startCommand s mb = respond s mb 3 [] := by
  unfold startCommand
  dsimp only
  rw [if_neg (by simp [hdone]), hauth, if_pos ⟨by simpa using hlen, hop⟩]

theorem startCommand_unauthenticated (hlen : reqLen (s.mb mb).req ≤ 248) : startCommand s mb
    = if cmdAuth (reqOp (s.mb mb).req) = none then respond s mb 1 []
      else if authorized s (reqOp (s.mb mb).req) none = false then respond s mb 5 []
      else s.setMb mb (fun m => { m with phase := .started, auth := none }) := by
  unfold startCommand
  dsimp only
  rw [if_neg (by simp [hdone]), hauth, if_neg (by simp; omega)]
  simp

end

/-- With no session the trailer authenticates nothing (R420). -/
theorem authenticate_of_noSession (h : s.mbx.sessions = []) :
    (authenticate s mb).2 = none ∧ (authenticate s mb).1.mbx.boxes = s.mbx.boxes := by
  unfold authenticate
  simp [h, authFail]

theorem startCommand_of_noSession (hdone : s.boot.done = true) (hauth : bit (reqFlags (s.mb mb).req) 2 = true)
    (hlen : reqLen (s.mb mb).req ≤ 236) (h : s.mbx.sessions = []) : startCommand s mb = respond (authenticate s mb).1 mb 6 [] := by
  unfold startCommand
  dsimp only
  rw [if_neg (by simp [hdone]), hauth, if_neg (by simp; omega)]
  simp [authenticate_of_noSession h]

theorem authorized_without (op : Nat) : authorized s op none = (match cmdAuth op with
    | some 1 => (otpKey s 0).isNone
    | some 2 => false
    | _ => true) := by
  unfold authorized
  split <;> simp_all

end

theorem commandStart_completes {s : State} {mb : Nat} {b : List Byte} (hm : MailOk s) (hmb : mb < 8) (hup : supUp s = true)
    (hmem : mb ∈ s.mbx.accepted) (hphase : (s.mb mb).phase = .accepted) (hmay : mayStart s mb = true) (hb : b = (s.mb mb).req) :
    Completes (.commandStart mb) s fun t =>
    (s.boot.done = false → reqOp b ≠ 0x0101 → reqOp b ≠ 0x0108 → Answered s t mb 7 [])
    ∧ (s.boot.done = true → bit (reqFlags b) 2 = false →
      (248 < reqLen b → reqOp b ≠ 0x0102 → Answered s t mb 3 [])
      ∧ (reqLen b ≤ 248 → cmdAuth (reqOp b) = none → Answered s t mb 1 [])
      ∧ (reqLen b ≤ 248 → cmdAuth (reqOp b) = some 1 → otpKey s 0 ≠ none → Answered s t mb 5 [])
      ∧ (reqLen b ≤ 248 → cmdAuth (reqOp b) = some 2 → Answered s t mb 5 [])
      ∧ (reqLen b ≤ 248 → cmdAuth (reqOp b) = some 0 ∨ cmdAuth (reqOp b) = some 1 ∧ otpKey s 0 = none →
        (t.mb mb).phase = .started ∧ (t.mb mb).req = b ∧ (t.mb mb).auth = none ∧ t.mbx.sessions = s.mbx.sessions
        ∧ t.mbx.accepted = s.mbx.accepted ∧ t.regs = s.regs))
    ∧ (s.boot.done = true → bit (reqFlags b) 2 = true → reqLen b ≤ 236 → s.mbx.sessions = [] → Answered s t mb 6 []) := by
  subst hb
  have hrefused {status : Nat} (hs : status < 256) := refused_answered hm hmb (u := s) rfl hs
  refine completes_of (commandStart_run hup hmem hphase hmay) ⟨fun hdone hid hecho => ?_, fun hdone hauth =>
    ⟨fun hlen hop => ?_, fun hlen hop => ?_, fun hlen hop hkey => ?_, fun hlen hop => ?_, fun hlen hop => ?_⟩,
    fun hdone hauth hlen hnone => ?_⟩
  · rw [startCommand_of_notBooted hdone hid hecho]
    exact hrefused (by decide)
  · rw [startCommand_of_tooLong hdone hauth hlen hop]
    exact hrefused (by decide)
  · rw [startCommand_unauthenticated hdone hauth hlen, if_pos hop]
    exact hrefused (by decide)
  · rw [startCommand_unauthenticated hdone hauth hlen, if_neg (by simp [hop]),
      if_pos (by rw [authorized_without, hop]; simpa [Option.isNone_eq_false_iff, Option.isSome_iff_ne_none] using hkey)]
    exact hrefused (by decide)
  · rw [startCommand_unauthenticated hdone hauth hlen, if_neg (by simp [hop]), if_pos (by simp [authorized_without, hop])]
    exact hrefused (by decide)
  · have hallowed : cmdAuth (reqOp (s.mb mb).req) ≠ none ∧ authorized s (reqOp (s.mb mb).req) none = true := by
      rw [authorized_without]
      rcases hop with hop | ⟨hop, hkey⟩
      · simp [hop]
      · simp [hop, hkey]
    rw [startCommand_unauthenticated hdone hauth hlen, if_neg hallowed.1, if_neg (by simp [hallowed.2])]
    rw [mb_setMb_self (by rw [hm.1]; exact hmb)]
    exact ⟨rfl, rfl, rfl, rfl, rfl, rfl⟩
  · rw [startCommand_of_noSession hdone hauth hlen hnone]
    exact refused_answered hm hmb (authenticate_of_noSession hnone).2 (by decide)

theorem sessionIdleTimeout_completes (s : State) (n : Nat) : Completes (.sessionIdleTimeout n) s fun t =>
    t.mbx.sessions = s.mbx.sessions.filter (fun x => decide (x.num ≠ n)) ∧ ∀ k, t.mb k = s.mb k := by
  refine completes_of rfl ⟨List.filter_congr fun x _ => ?_, fun _ => rfl⟩
  simp [bne, beq_eq_decide]

/-- Settles O41: acceptance by the rings in order, a start by the checks in their order. -/
theorem acceptanceAndStart : Obligations.AcceptanceAndStart := by
  unfold Obligations.AcceptanceAndStart
  exact ⟨fun _ hm _ hup => commandAccept_completes hm hup,
    fun _ _ _ _ _ ⟨_, hk, h⟩ => commandStart_of_waiting (mayStart_of_earlier hk h),
    fun _ _ _ hm hmb hup hmem hphase hmay hb => commandStart_completes hm hmb hup hmem hphase hmay hb,
    sessionIdleTimeout_completes⟩

end Sys2Proof.Machine.MailStart
end

section
/-! PROOF. MailSinks: the event queue and its packets, dropped responses and the timeouts of running commands
(12_mailbox_command_set.md R414, R423, R427). -/

namespace Sys2Proof.Machine.MailSinks

open CanPort (mb_setMb_self)
open EnumerationMail (respond_roundKept)
open KernelMail (command_of_runs refused_of_runs ok_of_runs)
open MailRings (mb_of_mbx)

/-! ### The event queue (R427) -/

section
variable {s : State} {e : EventRec} {l : List EventRec}

/-- The queue without its first record, as the model's next event sees it. -/
def popped (s : State) (l : List EventRec) (lost : Nat) : State :=
  { s with evt := { s.evt with queue := l, unsent := min s.evt.unsent l.length, lost := lost } }

theorem dropEvents_one (h : s.evt.queue = e :: l) : dropEvents s 1
    = if 0 < s.evt.lost ∧ l.length < 128 then raiseEvent (popped s l 0) 0x0C02 (toLe 4 s.evt.lost) else popped s l s.evt.lost := by
  unfold dropEvents popped
  simp [h]

theorem evtPop_completes (h : s.evt.queue = e :: l) : Completes .evtPop s fun t =>
    t.evt.queue = l ∧ t.evt.history = s.evt.history ∧ t.evt.eseq = s.evt.eseq
    ∧ (s.evt.lost = 0 → Told s t [])
    ∧ (0 < s.evt.lost → l.length < 128 → t.evt.lost = 0 ∧ Told s t [(0x0C02, toLe 4 s.evt.lost)]) := by
  have hrun : exec .evtPop s = .next (dropEvents s 1) := congrArg Host.Outcome.next (if_neg (by simp [h]))
  rw [dropEvents_one h] at hrun
  refine completes_of hrun ?_
  split
  · next hlost => exact ⟨rfl, rfl, rfl, fun hnone => absurd hlost.1 (by omega), fun _ _ => ⟨rfl, rfl⟩⟩
  · next hkept => exact ⟨rfl, rfl, rfl, fun _ => by simp [Told, popped], fun hlost hroom => absurd ⟨hlost, hroom⟩ hkept⟩

theorem evtPop_of_empty (h : s.evt.queue = []) : exec .evtPop s = .next s := congrArg Host.Outcome.next (if_pos h)

/-- The records that leave in one EVENT packet. -/
def unsentRecords (s : State) : List EventRec := (s.evt.queue.drop (s.evt.queue.length - s.evt.unsent)).take 64

theorem length_unsentRecords (h : s.evt.unsent ≤ s.evt.queue.length) : (unsentRecords s).length = min 64 s.evt.unsent := by
  unfold unsentRecords
  rw [List.length_take, List.length_drop]
  omega

theorem eventPacketSend_completes (hen : s.flag TXLA.EVT.EVT_EN = true) (hup : supUp s = true) (hsome : 0 < s.evt.unsent)
    (hle : s.evt.unsent ≤ s.evt.queue.length) : Completes .eventPacketSend s fun t =>
    t.evt.unsent = s.evt.unsent - min 64 s.evt.unsent ∧ t.evt.queue = s.evt.queue
    ∧ t = sendLocal { s with evt := t.evt } 6 (s.reg TXLA.EVT.EVT_DEST) 0
        (((s.evt.queue.drop (s.evt.queue.length - s.evt.unsent)).take 64).flatMap eventBytes) := by
  have hlength := length_unsentRecords hle
  have hrecs : unsentRecords s ≠ [] := List.ne_nil_of_length_pos (by omega)
  have hrun : exec .eventPacketSend s = .next (sendLocal { s with evt := { s.evt with
      unsent := s.evt.unsent - (unsentRecords s).length } } 6 (s.reg TXLA.EVT.EVT_DEST) 0 ((unsentRecords s).flatMap eventBytes)) :=
    if_pos ⟨hen, hup, hrecs⟩
  rw [hlength] at hrun
  have hevt (u : State) (d : Nat) (b : List Byte) : (sendLocal u 6 d 0 b).evt = u.evt := by simp
  refine completes_of hrun ⟨?_, ?_, ?_⟩
  · rw [hevt]
  · rw [hevt]
  · rw [hevt]
    rfl

end

/-! ### Dropped responses (R414) -/

theorem sendPort_net (s : State) (p : Nat) (pkt : Packet) : ∃ l, (sendPort s p pkt).net = { s.net with ports := l } := by
  unfold sendPort sendOn
  dsimp only
  split
  · split <;> exact ⟨_, rfl⟩
  · exact ⟨_, rfl⟩

/-- A packet sent changes the ports alone. -/
theorem routeLocal_net (s : State) (pkt : Packet) : ∃ l, (routeLocal s pkt).net = { s.net with ports := l } := by
  unfold routeLocal
  dsimp only
  split
  · split <;> exact sendPort_net s _ _
  · split
    · obtain ⟨l, hfirst⟩ := sendPort_net s 0 pkt
      obtain ⟨m, hsecond⟩ := sendPort_net (sendPort s 0 pkt) 1 pkt
      exact ⟨m, by rw [hsecond, hfirst]⟩
    · split
      · exact sendPort_net s _ _
      · split
        · exact sendPort_net s _ _
        · split
          · exact ⟨_, rfl⟩
          · exact sendPort_net s _ _

/-- Each packet of this device takes the next number (R347). -/
theorem sendLocal_net (s : State) (type dest tspec : Nat) (payload : List Byte) :
    ∃ l, (sendLocal s type dest tspec payload).net = { s.net with seq := (s.net.seq + 1) % 65536, ports := l } :=
  routeLocal_net _ _

/-- A response concerns the ports and the packet number of the link alone. -/
theorem respond_net (s : State) (n status : Nat) (data : List Byte) :
    ∃ l q, (respond s n status data).net = { s.net with ports := l, seq := q } := by
  have htold (u : State) (rsp : List Byte) (hu : u.net = s.net) :
      ∃ l q, (tellOwner u n status rsp).net = { s.net with ports := l, seq := q } := by
    unfold tellOwner
    dsimp only
    split
    · exact ⟨_, _, hu⟩
    · split
      · exact ⟨_, _, hu⟩
      · obtain ⟨l, hsent⟩ := sendLocal_net u 5 (u.mb n).src 0 (padTo ((([BitVec.ofNat 8 n, 0, 0, 0] ++ rsp.take 256).length + 3) / 4 * 4)
          ([BitVec.ofNat 8 n, 0, 0, 0] ++ rsp.take 256))
        exact ⟨l, _, hsent.trans (by rw [hu])⟩
    · exact ⟨_, _, hu⟩
  exact htold _ _ rfl

theorem mboxRspResend_completes {s : State} {mb : Nat} (hm : MailOk s) (hmb : mb < 8) (hmem : mb ∈ s.mbx.dropped)
    (hphase : (s.mb mb).phase = .done) (hpath : (s.mb mb).path = 1) : Completes (.mboxRspResend mb) s fun t =>
      mb ∉ t.mbx.dropped ∧ (t.mb mb).resent = (s.mb mb).resent + 1 ∧ (t.mb mb).phase = .done ∧ (t.mb mb).rsp = (s.mb mb).rsp
      ∧ t.net.seq = (s.net.seq + 1) % 65536 := by
  have hrun : exec (.mboxRspResend mb) s = .next (resendRsp s mb) :=
    congrArg Host.Outcome.next (if_pos ⟨hmb, hmem, hphase, hpath⟩)
  have hmbx (u : State) (src : Nat) (rsp : List Byte) : (sendRsp u src mb rsp).mbx = u.mbx := by simp
  have hbox : (resendRsp s mb).mb mb = { s.mb mb with resent := (s.mb mb).resent + 1 } := by
    rw [resendRsp, mb_of_mbx (hmbx _ _ _)]
    exact mb_setMb_self (by rw [hm.1]; exact hmb) (fun x => { x with resent := x.resent + 1 })
  refine completes_of hrun ⟨?_, by rw [hbox], by rw [hbox]; exact hphase, by rw [hbox], ?_⟩
  · rw [resendRsp, hmbx]
    simp
  · obtain ⟨l, hsent⟩ : ∃ l, (resendRsp s mb).net = { s.net with seq := (s.net.seq + 1) % 65536, ports := l } := sendLocal_net _ _ _ _ _
    rw [hsent]

/-! ### Timeouts of running commands (R138, R357, R423) -/

section
variable {s : State} {mb : Nat} {p : List Byte}

theorem fenceWait_good (mb : Nat) (expired : Bool) (hp : p.length = 8) (hfence : leAt p 0 1 < 64) (hlow : 1 ≤ leAt p 2 2)
    (hhigh : leAt p 2 2 ≤ 1000) : fenceWait mb expired s p
    = if fenceReached s (leAt p 0 1) (leAt p 4 4) = true then respond s mb 0 (toLe 4 (s.reg (GAL.FENCE.FENCE (leAt p 0 1))))
      else if expired = true then respond s mb 0x0C [] else s := by
  unfold fenceWait
  dsimp only
  rw [needLen_eq, if_pos (by simp [hp]), if_neg (by omega)]

theorem fenceWaitTimeout_completes (hm : MailOk s) (hr : Runs s mb 0x0302 p) (hp : p.length = 8) (hfence : leAt p 0 1 < 64)
    (hlow : 1 ≤ leAt p 2 2) (hhigh : leAt p 2 2 ≤ 1000) : Completes (.fenceWaitTimeout mb) s fun t =>
      Answered s t mb (if fenceReached s (leAt p 0 1) (leAt p 4 4) then 0 else 0x0C)
        (if fenceReached s (leAt p 0 1) (leAt p 4 4) then toLe 4 (s.reg (GAL.FENCE.FENCE (leAt p 0 1))) else []) := by
  have hrun : exec (.fenceWaitTimeout mb) s = .next (fenceWait mb true s p) :=
    congrArg Host.Outcome.next (command_of_runs hr (fenceWait mb true))
  refine completes_of hrun ?_
  rw [fenceWait_good mb true hp hfence hlow hhigh]
  cases fenceReached s (leAt p 0 1) (leAt p 4 4) with
  | true => exact ok_of_runs hm hr s rfl (by simp)
  | false => exact refused_of_runs hm hr s rfl (by decide)

theorem enumerateTimeout_completes (hm : MailOk s) (hr : Runs s mb 0x0A01 p) (henum : s.net.enumMb = some mb) :
    Completes (.enumerateTimeout mb) s fun t => Answered s t mb 0x0C [] ∧ t.net.enumMb = none ∧ t.net.origin = none := by
  have hrun : exec (.enumerateTimeout mb) s
      = .next (respond { s with net := { s.net with enumMb := none, origin := none } } mb 0x0C []) := by
    refine congrArg Host.Outcome.next ((command_of_runs hr (enumExpires mb)).trans ?_)
    exact if_pos henum
  obtain ⟨horigin, hmb⟩ := respond_roundKept { s with net := { s.net with enumMb := none, origin := none } } mb 0x0C []
  exact completes_of hrun ⟨refused_of_runs hm hr _ (by rfl) (by decide), hmb, horigin⟩

end

/-- Settles O42: the queue and its packets by their records, the rest by the response of one mailbox. -/
theorem eventsAndTimeouts : Obligations.EventsAndTimeouts := by
  unfold Obligations.EventsAndTimeouts
  exact ⟨fun _ _ _ h => evtPop_completes h, fun _ h => evtPop_of_empty h,
    fun _ hen hup hsome hle => eventPacketSend_completes hen hup hsome hle,
    fun _ _ hm hmb hmem hphase hpath => mboxRspResend_completes hm hmb hmem hphase hpath,
    fun _ _ _ hm hr hp hfence hlow hhigh => fenceWaitTimeout_completes hm hr hp hfence hlow hhigh,
    fun _ _ _ hm hr henum => enumerateTimeout_completes hm hr henum⟩

end Sys2Proof.Machine.MailSinks
end

section
/-! PROOF. MailIdentity: identity, lamp time, register bursts and echo by mailbox (12_mailbox_command_set.md R423, R424). -/

namespace Sys2Proof.Machine.MailIdentity

open KernelMail (command_of_runs refused_of_runs ok_of_runs answered_of_runs leAt_lt leAt_middle)
open MailSinks (respond_net)

/-! ### The identity record (R424) -/

theorem leAt_at (pre post : List Byte) (k v : Nat) {o : Nat} (ho : pre.length = o) :
    leAt (pre ++ (toLe k v ++ post)) o k = v % 256 ^ k := by
  rw [← ho]
  exact leAt_middle pre post k v

/-- The identity record up to the programmed keys. -/
def identityHead (s : State) : List Byte :=
  toLe 2 0x1024 ++ toLe 1 Config.variant ++ toLe 1 1 ++ toLe 2 Config.siRev.toNat ++ toLe 2 Config.romVersion
  ++ toLe 8 Config.serial.toNat ++ toLe 4 s.boot.fwVer ++ toLe 1 (s.reg SYS.BOOT.SLOT)
  ++ toLe 1 (match slotInForce s with
    | some (n, _) => n
    | none => 0xFF)

theorem identityRecord_eq (s : State) : identityRecord s = identityHead s
    ++ (toLe 1 (bitsOf 3 (fun n => (otpKey s n).isSome)) ++ (toLe 1 (1 + s.reg DDRC.ORG.RANKS)
    ++ (toLe 2 (s.dramSize / 2 ^ 30) ++ List.replicate 6 0))) := by
  simp only [identityRecord, identityHead, List.append_assoc] <;> rfl

/-- Each field of the identity record, by what lies before it. -/
theorem identityRecord_fields (s : State) : (identityRecord s).length = 32 ∧ leAt (identityRecord s) 0 2 = 0x1024
    ∧ leAt (identityRecord s) 3 1 = 1 ∧ leAt (identityRecord s) 8 8 = Config.serial.toNat
    ∧ leAt (identityRecord s) 0x10 4 = s.boot.fwVer % 2 ^ 32
    ∧ leAt (identityRecord s) 0x16 1 = bitsOf 3 (fun n => (otpKey s n).isSome) % 2 ^ 8 := by
  have hserial : Config.serial.toNat % 256 ^ 8 = Config.serial.toNat := Nat.mod_eq_of_lt Config.serial.isLt
  rw [identityRecord_eq]
  refine ⟨by simp [identityHead], ?_, ?_, ?_, ?_, leAt_at (identityHead s) _ 1 _ (by simp [identityHead])⟩
  · refine Eq.trans ?_ (by decide : 0x1024 % 256 ^ 2 = 0x1024)
    simpa only [identityHead, List.append_assoc, List.nil_append] using leAt_at [] _ 2 0x1024 (o := 0) rfl
  · refine Eq.trans ?_ (by decide : 1 % 256 ^ 1 = 1)
    simpa only [identityHead, List.append_assoc] using leAt_at (toLe 2 0x1024 ++ toLe 1 Config.variant) _ 1 1 (o := 3) (by simp)
  · rw [← hserial]
    simpa only [identityHead, List.append_assoc] using leAt_at (toLe 2 0x1024 ++ toLe 1 Config.variant ++ toLe 1 1
      ++ toLe 2 Config.siRev.toNat ++ toLe 2 Config.romVersion) _ 8 Config.serial.toNat (o := 8) (by simp)
  · change _ = s.boot.fwVer % 256 ^ 4
    simpa only [identityHead, List.append_assoc] using leAt_at (toLe 2 0x1024 ++ toLe 1 Config.variant ++ toLe 1 1
      ++ toLe 2 Config.siRev.toNat ++ toLe 2 Config.romVersion ++ toLe 8 Config.serial.toNat) _ 4 s.boot.fwVer (o := 0x10) (by simp)

/-- Lamp time loaded and synchronized (R21, R362). -/
def ltLoaded (s : State) (p : List Byte) : State :=
  { s with lt := BitVec.ofNat 64 (leAt p 0 8), synced := true, net := { s.net with rootSet := true, frac := 0, slew := 0 } }

theorem ltLoaded_parts (s : State) (p : List Byte) : (ltLoaded s p).mbx = s.mbx ∧ (ltLoaded s p).lt.toNat = leAt p 0 8
    ∧ (ltLoaded s p).synced = true ∧ (ltLoaded s p).net.rootSet = true ∧ (ltLoaded s p).regs = s.regs := by
  have hlt := leAt_lt p 0 8
  refine ⟨by simp only [ltLoaded], ?_, by simp only [ltLoaded], by simp only [ltLoaded], by simp only [ltLoaded]⟩
  simp only [ltLoaded, BitVec.toNat_ofNat]
  omega

/-! ### Writes outside the mailbox block (R423) -/

section
variable {s t : State} {a x : Nat}

theorem commandWrite_mbx (w : Word) (ha : a / 0x10000 ≠ 5) : (commandWrite s a w).mbx = s.mbx := by
  have hring : a ≠ MBX.DOORBELL.RING.addr := fun h => ha (h ▸ by decide)
  have hack : a ≠ MBX.ACK.ACK.addr := fun h => ha (h ▸ by decide)
  unfold commandWrite
  simp [hring, hack]

theorem mbxArea_of_block (ha : a / 0x10000 ≠ 5) : mbxArea a = none := if_neg (by omega)

theorem foldl_fieldWrite_mbx (l : List Field) (g : Field → Nat) (n : Nat) (on : Bool) :
    (l.foldl (fun t f => fieldWrite t n on f (g f)) s).mbx = s.mbx := by
  induction l generalizing s with
  | nil => rfl
  | cons f l ih => exact ih.trans (by simp)

theorem enWrite_mbx (n : Nat) (f : Field) (b : Bool) : (enWrite s n f b).mbx = s.mbx := by simp

theorem wordWrite_mbx (w : Word) (ha : a / 0x10000 ≠ 5) : (wordWrite s a w).mbx = s.mbx := by
  simp only [wordWrite, mbxArea_of_block ha]
  rw [commandWrite_mbx w ha]
  split
  · split
    · rw [enWrite_mbx]
      exact foldl_fieldWrite_mbx _ _ _ _
    · exact foldl_fieldWrite_mbx _ _ _ _
  · exact foldl_fieldWrite_mbx _ _ _ _

theorem bitWrite_mbx (k : Nat) (b : Bool) (ha : a / 0x10000 ≠ 5) : (bitWrite s a k b).mbx = s.mbx := by
  unfold bitWrite
  simp only [mbxArea_of_block ha]
  split
  · rfl
  · split
    · rfl
    · split
      · exact commandWrite_mbx _ ha
      · split
        · simp
        · split <;> simp

/-- A write outside the mailbox block changes no mailbox. -/
theorem busWriteQ_mbx {w : Word} (hx : underlying x / 0x10000 ≠ 5) (h : busWrite? s x w = some t) : t.mbx = s.mbx := by
  unfold busWrite? at h
  unfold underlying at hx
  split at h
  · cases h
  · obtain rfl := Option.some.inj h
    split
    · next a k halias =>
      rw [halias] at hx
      exact bitWrite_mbx k _ hx
    · next halias =>
      rw [halias] at hx
      exact wordWrite_mbx w hx

theorem writeBurst_mbx (l : List Word) {x : Nat} (hx : ∀ i < l.length, underlying (x + 4 * i) / 0x10000 ≠ 5) :
    (writeBurst s x l).1.mbx = s.mbx := by
  induction l generalizing s x with
  | nil => rfl
  | cons w l ih =>
    unfold writeBurst
    split
    · next t ht =>
      refine (ih fun i hi => ?_).trans (busWriteQ_mbx (hx 0 (by simp)) ht)
      have hnext := hx (i + 1) (by simpa using hi)
      rwa [Nat.mul_add, ← Nat.add_assoc, Nat.add_right_comm] at hnext
    · rfl

/-- A word address in the space of the bit aliases. -/
def InAlias (x : Nat) : Prop := 0x20000000 ≤ x ∧ x < 0xA0000000

theorem aliasOf_cases (hx : x % 4 = 0) : (InAlias x ∧ (aliasOf x).isSome = true ∧ underlying x = (x - 0x20000000) / 128)
    ∨ (¬ InAlias x ∧ (aliasOf x).isSome = false ∧ underlying x = x) := by
  by_cases h : InAlias x
  · have halias : aliasOf x = some ((x - 0x20000000) / 4 / 32, (x - 0x20000000) / 4 % 32) := if_pos ⟨h.1, h.2, hx⟩
    refine .inl ⟨h, by rw [halias]; rfl, ?_⟩
    rw [underlying, halias]
    exact Nat.div_div_eq_div_mul _ 4 32
  · have halias : aliasOf x = none := if_neg fun hin => h ⟨hin.1, hin.2.1⟩
    exact .inr ⟨h, by rw [halias]; rfl, by rw [underlying, halias]⟩

/-- Between two addresses of one block and one form lie addresses of that block. -/
theorem underlying_between {y e : Nat} (hx : x % 4 = 0) (hy : y % 4 = 0) (he : e % 4 = 0) (hxy : x ≤ y) (hye : y ≤ e)
    (hform : (aliasOf x).isSome = (aliasOf e).isSome) (hhigh : underlying e < 0x150000)
    (hblock : underlying x / 0x10000 = underlying e / 0x10000) : underlying y / 0x10000 = underlying x / 0x10000 := by
  rcases aliasOf_cases hx with ⟨hxin, hxform, hxu⟩ | ⟨-, hxform, hxu⟩
  · obtain ⟨hein, -, heu⟩ := (aliasOf_cases he).resolve_right fun h => by simp [hxform, h.2.1] at hform
    obtain ⟨-, -, hyu⟩ := (aliasOf_cases hy).resolve_right fun h => h.1 ⟨hxin.1.trans hxy, hye.trans_lt hein.2⟩
    omega
  · obtain ⟨-, -, heu⟩ := (aliasOf_cases he).resolve_left fun h => by simp [hxform, h.2.1] at hform
    obtain ⟨-, -, hyu⟩ := (aliasOf_cases hy).resolve_left fun h => by
      have hyin := h.1.1
      omega
    omega

/-- A burst that its check passes stays outside the mailbox block. -/
theorem cmdBurstOk_block {n i : Nat} (h : cmdBurstOk x n = true) (hi : i < n) : underlying (x + 4 * i) / 0x10000 ≠ 5 := by
  simp only [cmdBurstOk, burstOk, mapped?, addrMapped, Bool.and_eq_true, beq_iff_eq, bne_iff_ne, decide_eq_true_eq] at h
  obtain ⟨⟨⟨⟨⟨hx, -⟩, hend, hhigh⟩, hblock⟩, hform⟩, hmbx⟩ := h
  rwa [underlying_between hx (by omega) hend (by omega) (by omega) hform hhigh hblock]

end

section
variable {s : State} {mb : Nat} {p : List Byte} (hm : MailOk s)
include hm

theorem identify_completes (hr : Runs s mb 0x0101 []) : Completes (.identify mb) s fun t =>
    ∃ d : List Byte, Answered s t mb 0 d ∧ d.length = 32 ∧ leAt d 0 2 = 0x1024 ∧ leAt d 3 1 = 1
      ∧ leAt d 8 8 = Config.serial.toNat ∧ leAt d 0x10 4 = s.boot.fwVer % 2 ^ 32
      ∧ ∀ n < 3, bit (leAt d 0x16 1) n = (otpKey s n).isSome := by
  have hrun : exec (.identify mb) s = .next (respond s mb 0 (identityRecord s)) :=
    congrArg Host.Outcome.next (command_of_runs hr _)
  obtain ⟨hlength, hpart, hfamily, hserial, hversion, hkeys⟩ := identityRecord_fields s
  refine completes_of hrun ⟨identityRecord s, ok_of_runs hm hr s rfl (by omega), hlength, hpart, hfamily, hserial, hversion,
    fun n hn => ?_⟩
  rw [hkeys, bit, Nat.testBit_mod_two_pow, decide_eq_true (by omega : n < 8), Bool.true_and]
  exact (EngineLoss.bit_bitsOf 3 (fun n => (otpKey s n).isSome) n).trans (by simp [hn])

/-! ### Lamp time and echo (R21, R423) -/

theorem setLt_completes (hr : Runs s mb 0x0105 p) (hp : p.length = 8) : Completes (.setLt mb) s fun t =>
    Answered s t mb 0 (toLe 8 s.now) ∧ t.lt.toNat = leAt p 0 8 ∧ t.synced = true ∧ t.net.rootSet = true ∧ t.regs = s.regs := by
  have hrun : exec (.setLt mb) s = .next (respond (ltLoaded s p) mb 0 (toLe 8 s.now)) := by
    refine congrArg Host.Outcome.next ((command_of_runs hr (setLt mb)).trans ?_)
    exact if_pos (by simp [hp])
  obtain ⟨hmbx, hlt, hsynced, hroot, hregs⟩ := ltLoaded_parts s p
  obtain ⟨l, q, hnet⟩ := respond_net (ltLoaded s p) mb 0 (toLe 8 s.now)
  refine completes_of hrun ⟨ok_of_runs hm hr (ltLoaded s p) hmbx (by simp), ?_, ?_, ?_, ?_⟩
  · simpa using hlt
  · simpa using hsynced
  · rw [hnet, hroot]
  · simpa using hregs

theorem echo_completes (hr : Runs s mb 0x0108 p) (hp : p.length ≤ 248) : Completes (.echo mb) s fun t =>
    Answered s t mb 0 p ∧ t.regs = s.regs := by
  have hrun : exec (.echo mb) s = .next (respond s mb 0 p) := congrArg Host.Outcome.next (command_of_runs hr _)
  exact completes_of hrun ⟨ok_of_runs hm hr s rfl hp, by simp⟩

/-! ### Register bursts (R388, R423) -/

omit hm in
theorem length_flatMap_word (l : List Word) : (l.flatMap (fun w => toLe 4 w.toNat)).length = 4 * l.length := by
  simp [List.length_flatMap, Nat.mul_comm]

theorem regRead_completes {n x : Nat} (hr : Runs s mb 0x0106 p) (hp : p.length = 8) (hx : x = leAt p 0 4) (hn : n = leAt p 4 1) :
    Completes (.regRead mb) s fun t =>
      (n = 0 ∨ 60 < n ∨ cmdBurstOk x n = false → Answered s t mb 4 [])
      ∧ (1 ≤ n → n ≤ 60 → cmdBurstOk x n = true → t.regs = (readBurst s x n).1.regs
        ∧ ((readBurst s x n).2.length = n → Answered s t mb 0 ((readBurst s x n).2.flatMap (fun w => toLe 4 w.toNat)))
        ∧ ((readBurst s x n).2.length ≠ n → Answered s t mb 0x0E [])) := by
  have hrun : exec (.regRead mb) s = .next (if n = 0 ∨ 60 < n ∨ cmdBurstOk x n = false then respond s mb 4 []
      else if (readBurst s x n).2.length = n then
        respond (readBurst s x n).1 mb 0 ((readBurst s x n).2.flatMap (fun w => toLe 4 w.toNat))
      else respond (readBurst s x n).1 mb 0x0E []) := by
    subst hx hn
    refine congrArg Host.Outcome.next ((command_of_runs hr (regRead mb)).trans ?_)
    exact if_pos (by simp [hp])
  have hmbx : (readBurst s x n).1.mbx = s.mbx := by simp
  have hregs (status : Nat) (data : List Byte) : (respond (readBurst s x n).1 mb status data).regs = (readBurst s x n).1.regs := by simp
  refine completes_of hrun ⟨fun hbad => ?_, fun hlow hhigh hok => ?_⟩
  · rw [if_pos hbad]
    exact refused_of_runs hm hr s rfl (by decide)
  · rw [if_neg (by simp [hok]; omega)]
    refine ⟨by split <;> exact hregs _ _, fun hall => ?_, fun hsome => ?_⟩
    · rw [if_pos hall]
      exact ok_of_runs hm hr _ hmbx (by rw [length_flatMap_word]; omega)
    · rw [if_neg hsome]
      exact refused_of_runs hm hr _ hmbx (by decide)

theorem regWrite_completes {n x : Nat} {ws : List Word} (hr : Runs s mb 0x0107 p) (hx : x = leAt p 0 4) (hn : n = leAt p 4 1)
    (hp : p.length = 8 + 4 * n) (hws : ws = (List.range n).map (fun i => BitVec.ofNat 32 (leAt p (8 + 4 * i) 4))) :
    Completes (.regWrite mb) s fun t =>
      (n = 0 ∨ 57 < n ∨ cmdBurstOk x n = false → Answered s t mb 4 [] ∧ t.regs = s.regs)
      ∧ (1 ≤ n → n ≤ 57 → cmdBurstOk x n = true →
        Answered s t mb (if (writeBurst s x ws).2 = n then 0 else 0x0E) [] ∧ t.regs = (writeBurst s x ws).1.regs) := by
  have hrun : exec (.regWrite mb) s = .next (if n = 0 ∨ 57 < n ∨ cmdBurstOk x n = false then respond s mb 4 []
      else respond (writeBurst s x ws).1 mb (if (writeBurst s x ws).2 = n then 0 else 0x0E) []) := by
    subst hx hn hws
    refine congrArg Host.Outcome.next ((command_of_runs hr (regWrite mb)).trans ?_)
    exact if_pos (by simp [hp])
  refine completes_of hrun ⟨fun hbad => ?_, fun hlow hhigh hok => ?_⟩
  · rw [if_pos hbad]
    exact ⟨refused_of_runs hm hr s rfl (by decide), by simp⟩
  · have hmbx : (writeBurst s x ws).1.mbx = s.mbx :=
      writeBurst_mbx ws fun i hi => cmdBurstOk_block hok (by simpa [hws] using hi)
    rw [if_neg (by simp [hok]; omega)]
    exact ⟨refused_of_runs hm hr _ hmbx (by split <;> decide), by simp⟩

end

end Sys2Proof.Machine.MailIdentity
end

section
/-! PROOF. MailSessions: sessions opened, authenticated and closed by mailbox (12_mailbox_command_set.md R419, R420). -/

namespace Sys2Proof.Machine.MailSessions

open KernelMail (command_of_runs refused_of_runs respondWith_answered)
open MailStart (refused_answered)
open MailRings (mb_of_boxes)
open MailIdentity (identify_completes setLt_completes regRead_completes regWrite_completes echo_completes)

/-! ### A number for a new session -/

/-- The five numbers from the next one on. -/
def candidates (s : State) : List Nat := (List.range 5).map (fun i => (s.mbx.nextSession + i) % 65536)

theorem candidates_nodup (s : State) : (candidates s).Nodup := by
  refine List.nodup_range.map_on ?_
  intro i hi j hj heq
  have hi := List.mem_range.mp hi
  have hj := List.mem_range.mp hj
  omega

/-- Fewer than four sessions leave one of the five numbers free. -/
theorem exists_free_number {s : State} (hroom : s.mbx.sessions.length < 4) :
    ∃ n ∈ candidates s, ∀ y ∈ s.mbx.sessions, y.num ≠ n := by
  by_contra hnone
  push Not at hnone
  have hsub : candidates s ⊆ s.mbx.sessions.map Session.num := fun n hn => by
    obtain ⟨y, hy, hnum⟩ := hnone n hn
    exact List.mem_map.mpr ⟨y, hy, hnum⟩
  have hle := (List.subperm_of_subset (candidates_nodup s) hsub).length_le
  simp only [candidates, List.length_map, List.length_range] at hle
  omega

theorem freshSession_free {s : State} (hroom : s.mbx.sessions.length < 4) :
    freshSession s < 65536 ∧ ∀ y ∈ s.mbx.sessions, y.num ≠ freshSession s := by
  obtain ⟨n, hn, hfree⟩ := exists_free_number hroom
  have hsome : ((candidates s).find? (fun n => !s.mbx.sessions.any (fun x => x.num == n))).isSome := by
    rw [List.find?_isSome]
    exact ⟨n, hn, by simpa using hfree⟩
  obtain ⟨k, hk⟩ := Option.isSome_iff_exists.mp hsome
  have hfresh : freshSession s = k := congrArg (Option.getD · 0) hk
  have hused := List.find?_some hk
  obtain ⟨i, -, hi⟩ := List.mem_map.mp (List.mem_of_find?_eq_some hk)
  rw [hfresh]
  exact ⟨by omega, by simpa using hused⟩

/-! ### Answers of the session commands -/

section
variable {s : State} {mb : Nat} {p : List Byte} (hm : MailOk s)

theorem respond_sessions (u : State) (mb status : Nat) (data : List Byte) :
    (respond u mb status data).mbx.sessions = u.mbx.sessions ∧ (respond u mb status data).mbx.opens = u.mbx.opens := by
  have htold (v : State) (rsp : List Byte) :
      (tellOwner v mb status rsp).mbx.sessions = v.mbx.sessions ∧ (tellOwner v mb status rsp).mbx.opens = v.mbx.opens := by
    unfold tellOwner
    dsimp only
    split
    · simp
    · split <;> simp [sendRsp]
    · exact ⟨rfl, rfl⟩
  exact htold _ _

include hm

/-- A command that changed no mailbox's areas before it responded has answered its data. -/
theorem data_answered (hmb : mb < 8) {u : State} (hu : u.mbx.boxes = s.mbx.boxes) {data : List Byte} (hd : data.length ≤ 248) :
    Answered s (respond u mb 0 data) mb 0 data := by
  have hans : Answered u (respond u mb 0 data) mb 0 data :=
    (respondWith_answered u mb 0 (.inl rfl) (by rw [hu, hm.1]; exact hmb) hd (by omega)).1
  unfold Answered at hans ⊢
  simpa only [mb_of_boxes hu] using hans

/-! ### SESSION_OPEN (R419) -/

/-- The open of mailbox `mb` counted for its opener's rate. -/
def openCounted (s : State) (mb : Nat) : State :=
  { s with mbx := { s.mbx with opens :=
      ((s.mb mb).path, (s.mb mb).src, (s.mb mb).rungAt) :: s.mbx.opens.filter (fun o => !sameOpener (s.mb mb) o) } }

omit hm in
theorem sessionOpen_tooSoon (h : openTooSoon s (s.mb mb) = true) : sessionOpen mb s p = respond s mb 7 [] := if_pos h

omit hm in
theorem sessionOpen_counted (h : openTooSoon s (s.mb mb) = false) (hp : p.length = 12) : sessionOpen mb s p =
    if 1 < leAt p 0 1 then respond (openCounted s mb) mb 4 []
    else if (keyOf s (leAt p 0 1)).isNone then respond (openCounted s mb) mb 7 []
    else if 4 ≤ s.mbx.sessions.length then respond (openCounted s mb) mb 8 []
    else respond (addSession (openCounted s mb) (s.mb mb) (leAt p 0 1) (bytesAt p 4 8)).1 mb 0
      (toLe 2 (addSession (openCounted s mb) (s.mb mb) (leAt p 0 1) (bytesAt p 4 8)).2.num ++ [0, 0]
        ++ (addSession (openCounted s mb) (s.mb mb) (leAt p 0 1) (bytesAt p 4 8)).2.dn) := by
  refine (if_neg (by simp [h])).trans ?_
  exact if_pos (by simp [hp])

omit hm in
theorem addSession_parts (u : State) (m : Mb) (key : Nat) (hn : List Byte) :
    (addSession u m key hn).1.mbx.boxes = u.mbx.boxes
    ∧ (addSession u m key hn).1.mbx.sessions = u.mbx.sessions ++ [(addSession u m key hn).2]
    ∧ (addSession u m key hn).2.num = freshSession u ∧ (addSession u m key hn).2.key = key
    ∧ (addSession u m key hn).2.path = m.path ∧ (addSession u m key hn).2.src = m.src ∧ (addSession u m key hn).2.hn = hn
    ∧ (addSession u m key hn).2.dn.length = 8 ∧ (addSession u m key hn).2.ks = none :=
  ⟨rfl, rfl, rfl, rfl, rfl, rfl, rfl, length_toLe _ _, rfl⟩

/-- A refused open is counted and opens nothing. -/
theorem openRefused (hmb : mb < 8) {status : Nat} (hs : status < 256) :
    Answered s (respond (openCounted s mb) mb status []) mb status []
    ∧ (respond (openCounted s mb) mb status []).mbx.sessions = s.mbx.sessions :=
  ⟨refused_answered (u := openCounted s mb) hm hmb rfl hs, (respond_sessions _ _ _ _).1⟩

theorem sessionOpen_completes (hr : Runs s mb 0x0102 p) (hp : p.length = 12) : Completes (.sessionOpen mb) s fun t =>
    (openTooSoon s (s.mb mb) = true → Answered s t mb 7 [] ∧ t.mbx.sessions = s.mbx.sessions ∧ t.mbx.opens = s.mbx.opens)
    ∧ (openTooSoon s (s.mb mb) = false →
      ((s.mb mb).path, (s.mb mb).src, (s.mb mb).rungAt) ∈ t.mbx.opens
      ∧ (1 < leAt p 0 1 → Answered s t mb 4 [] ∧ t.mbx.sessions = s.mbx.sessions)
      ∧ (leAt p 0 1 ≤ 1 → keyOf s (leAt p 0 1) = none → Answered s t mb 7 [] ∧ t.mbx.sessions = s.mbx.sessions)
      ∧ (leAt p 0 1 ≤ 1 → keyOf s (leAt p 0 1) ≠ none → s.mbx.sessions.length = 4 →
        Answered s t mb 8 [] ∧ t.mbx.sessions = s.mbx.sessions)
      ∧ (leAt p 0 1 ≤ 1 → keyOf s (leAt p 0 1) ≠ none → s.mbx.sessions.length < 4 →
        ∃ x : Session, t.mbx.sessions = s.mbx.sessions ++ [x] ∧ Answered s t mb 0 (toLe 2 x.num ++ [0, 0] ++ x.dn)
          ∧ x.num < 65536 ∧ (∀ y ∈ s.mbx.sessions, y.num ≠ x.num) ∧ x.key = leAt p 0 1 ∧ x.path = (s.mb mb).path
          ∧ x.src = (s.mb mb).src ∧ x.hn = bytesAt p 4 8 ∧ x.dn.length = 8 ∧ x.ks = none)) := by
  have hmb := hr.2.1
  have hrun : exec (.sessionOpen mb) s = .next (sessionOpen mb s p) := congrArg Host.Outcome.next (command_of_runs hr _)
  refine completes_of hrun ⟨fun hsoon => ?_, fun hlater => ?_⟩
  · rw [sessionOpen_tooSoon hsoon]
    exact ⟨refused_of_runs hm hr s rfl (by decide), respond_sessions s mb 7 []⟩
  rw [sessionOpen_counted hlater hp]
  refine ⟨?_, fun hkey => ?_, fun hkey hnone => ?_, fun hkey hsome hfull => ?_, fun hkey hsome hroom => ?_⟩
  · split_ifs <;> rw [(respond_sessions _ _ _ _).2] <;> exact List.mem_cons_self
  · rw [if_pos hkey]
    exact openRefused hm hmb (by decide)
  · rw [if_neg (by omega), if_pos (by simp [hnone])]
    exact openRefused hm hmb (by decide)
  · rw [if_neg (by omega), if_neg (by simpa using hsome), if_pos (by omega)]
    exact openRefused hm hmb (by decide)
  · rw [if_neg (by omega), if_neg (by simpa using hsome), if_neg (by omega)]
    obtain ⟨hlt, hfree⟩ := freshSession_free (s := openCounted s mb) hroom
    obtain ⟨hboxes, hsessions, hnum, hsession⟩ := addSession_parts (openCounted s mb) (s.mb mb) (leAt p 0 1) (bytesAt p 4 8)
    rw [← hnum] at hlt hfree
    exact ⟨_, (respond_sessions _ _ _ _).1.trans hsessions, data_answered hm hmb hboxes (by simp [addSession]), hlt, hfree, hsession⟩

/-! ### SESSION_AUTH and SESSION_CLOSE (R419, R420) -/

/-- The session made the authenticated one of its number, with the key of its nonces. -/
def sessionKeyed (s : State) (x : Session) (k : List Byte) : State :=
  { s with mbx := { s.mbx with sessions := s.mbx.sessions.map (fun y =>
      if y.num = x.num then { y with ks := some (cmac k ([3] ++ x.dn ++ x.hn)) } else y) } }

theorem closed_answered (hmb : mb < 8) (num : Nat) {status : Nat} (hs : status < 256) :
    Answered s (respond (closeSession s num) mb status []) mb status []
    ∧ (respond (closeSession s num) mb status []).mbx.sessions = s.mbx.sessions.filter (fun y => decide (y.num ≠ num)) := by
  refine ⟨refused_answered (u := closeSession s num) hm hmb rfl hs, (respond_sessions _ _ _ _).1.trans ?_⟩
  exact List.filter_congr fun y _ => by by_cases hy : y.num = num <;> simp [hy]

theorem sessionAuth_completes (hr : Runs s mb 0x0103 p) (hp : p.length = 12) : Completes (.sessionAuth mb) s fun t =>
    (ownSession s (s.mb mb) (leAt p 0 2) = none → Answered s t mb 0x0F [] ∧ t.mbx.sessions = s.mbx.sessions)
    ∧ ∀ x k, ownSession s (s.mb mb) (leAt p 0 2) = some x → keyOf s x.key = some k →
      (x.ks ≠ none → Answered s t mb 7 [])
      ∧ (x.ks = none → bytesAt p 4 8 = (cmac k ([1] ++ x.dn ++ x.hn)).take 8 →
        Answered s t mb 0 ((cmac k ([2] ++ x.hn ++ x.dn)).take 8)
        ∧ t.mbx.sessions = s.mbx.sessions.map (fun y =>
            if y.num = x.num then { y with ks := some (cmac k ([3] ++ x.dn ++ x.hn)) } else y))
      ∧ (x.ks = none → bytesAt p 4 8 ≠ (cmac k ([1] ++ x.dn ++ x.hn)).take 8 →
        Answered s t mb 6 [] ∧ t.mbx.sessions = s.mbx.sessions.filter (fun y => decide (y.num ≠ x.num))) := by
  have hmb := hr.2.1
  have hrun : exec (.sessionAuth mb) s = .next (sessionAuth mb s p) := congrArg Host.Outcome.next (command_of_runs hr _)
  have hlength (f : State) : needLen s mb (p.length == 12) f = f := if_pos (by simp [hp])
  refine completes_of hrun ⟨fun hnone => ?_, fun x k hown hkey => ?_⟩
  · simp only [sessionAuth, hlength, hnone]
    exact ⟨refused_of_runs hm hr s rfl (by decide), (respond_sessions _ _ _ _).1⟩
  simp only [sessionAuth, hlength, hown, hkey, Option.getD_some]
  refine ⟨fun hks => ?_, fun hks hproof => ?_, fun hks hproof => ?_⟩
  · rw [if_pos (by simpa [Option.isSome_iff_ne_none] using hks)]
    exact refused_of_runs hm hr s rfl (by decide)
  · rw [if_neg (by simp [hks]), if_neg (by simp [hproof])]
    exact ⟨data_answered (u := sessionKeyed s x k) hm hmb rfl (by simp), (respond_sessions _ _ _ _).1⟩
  · rw [if_neg (by simp [hks]), if_pos (.inr (Ne.symm hproof))]
    exact closed_answered hm hmb x.num (by decide)

theorem sessionClose_completes {x : Session} (hr : Runs s mb 0x0104 p) (hp : p.length = 2)
    (hown : ownSession s (s.mb mb) (leAt p 0 2) = some x) : Completes (.sessionClose mb) s fun t =>
      Answered s t mb 0 [] ∧ t.mbx.sessions = s.mbx.sessions.filter (fun y => decide (y.num ≠ x.num)) := by
  have hrun : exec (.sessionClose mb) s = .next (respond (closeSession s x.num) mb 0 []) := by
    refine congrArg Host.Outcome.next ((command_of_runs hr (sessionClose mb)).trans ((if_pos (by simp [hp])).trans ?_))
    rw [hown]
  exact completes_of hrun (closed_answered hm hr.2.1 x.num (by decide))

end

/-! ### The obligation -/

/-- Settles O44: each command of the system chapter runs on its mailbox and answers; a burst that its check passes stays outside the
mailbox block, and fewer than four sessions leave one of five numbers free. -/
theorem systemCommands : Obligations.SystemCommands :=
  ⟨fun _ _ hm hr => identify_completes hm hr, fun _ _ _ hm hr hp => setLt_completes hm hr hp,
    fun _ _ _ _ _ hm hr hp hx hn => regRead_completes hm hr hp hx hn,
    fun _ _ _ _ _ _ hm hr hx hn hp hws => regWrite_completes hm hr hx hn hp hws,
    fun _ _ _ hm hr hp => echo_completes hm hr hp, fun _ _ _ hm hr hp => sessionOpen_completes hm hr hp,
    fun _ _ _ hm hr hp => sessionAuth_completes hm hr hp, fun _ _ _ _ hm hr hp hown => sessionClose_completes hm hr hp hown⟩

end Sys2Proof.Machine.MailSessions
end

section
/-! PROOF. MailScene: mode, commit, statistics, flips, fence waits, LUT loads and video windows by mailbox (12_mailbox_command_set.md
R423; R98, R134, R138, R139, R223, R350). -/

namespace Sys2Proof.Machine.MailScene

open FrameTiming (requestCommit_pending requestCommit_target)
open GalleryComposition (lutPut_of_ignored lutPut_of_taken lutEntry_lutPut lutSize_le)
open KernelMail (command_of_runs refused_of_runs ok_of_runs leAt_lt)
open MailSinks (respond_net fenceWait_good)

/-! ### Mode and commit (R98, R223) -/

/-- MODE written as by the host. -/
def modeWritten (s : State) (m : Nat) : State := hostMode (s.setReg SCAN.MODE.MODE m)

theorem modeWritten_regs (s : State) (m : Nat) : (modeWritten s m).regs = (s.setReg SCAN.MODE.MODE m).regs := by
  unfold modeWritten
  simp

theorem modeWritten_stepMode (s : State) (m : Nat) : (modeWritten s m).eng.stepMode = none := by
  unfold modeWritten hostMode
  split
  · rfl
  · next h => simpa using h

/-- The commit that SET_MODE asks for with COMMIT. -/
def modeCommitted (s : State) (m c : Nat) : State := if c = 1 then requestCommit (modeWritten s m) else modeWritten s m

theorem modeCommitted_mode (s : State) {m : Nat} (c : Nat) (hm : m ≤ 7) : (modeCommitted s m c).reg SCAN.MODE.MODE = m := by
  have hwritten : (modeWritten s m).reg SCAN.MODE.MODE = m := by
    have hself : (s.setReg SCAN.MODE.MODE m).reg SCAN.MODE.MODE = m % 8 := reg_setReg_self s _ m (by decide)
    have heq : (modeWritten s m).reg SCAN.MODE.MODE = (s.setReg SCAN.MODE.MODE m).reg SCAN.MODE.MODE := by
      unfold State.reg
      rw [modeWritten_regs]
    rw [heq, hself]
    omega
  unfold modeCommitted
  split
  · rw [reg_eq_of_word (requestCommit_word (outside_of (by decide)) _), hwritten]
  · exact hwritten

theorem modeCommitted_pending (s : State) (m c : Nat) : (modeCommitted s m c).flag SCAN.COMMIT_STATUS.COMMIT_PEND
    = (s.flag SCAN.COMMIT_STATUS.COMMIT_PEND || decide (c = 1)) := by
  unfold modeCommitted
  split
  · next hc => rw [requestCommit_pending, decide_eq_true hc, Bool.or_true]
  · next hc =>
    rw [decide_eq_false hc, Bool.or_false, flag_of_regs _ (modeWritten_regs s m)]
    exact flag_setReg_ne _ _ _ _ (by decide)

section
variable {s : State} {mb : Nat} {p : List Byte} (hm : MailOk s)
include hm

theorem setMode_completes (hr : Runs s mb 0x0201 p) (hp : p.length = 4) (hmode : leAt p 0 1 ≤ 7) (hc : leAt p 1 1 ≤ 1)
    (hgate : s.flag (CLK.GATE.EN 13) = true) : Completes (.setMode mb) s fun t =>
      t.reg SCAN.MODE.MODE = leAt p 0 1 ∧ t.eng.stepMode = none ∧ t.mode = s.mode
      ∧ Answered s t mb 0 (toLe 2 (t.reg SCAN.COMMIT_STATUS.TARGET_FRAME))
      ∧ t.flag SCAN.COMMIT_STATUS.COMMIT_PEND = (s.flag SCAN.COMMIT_STATUS.COMMIT_PEND || decide (leAt p 1 1 = 1)) := by
  obtain ⟨u, hu⟩ : ∃ u, u = modeCommitted s (leAt p 0 1) (leAt p 1 1) := ⟨_, rfl⟩
  have hrun : exec (.setMode mb) s = .next (respond u mb 0 (targetFrame u)) := by
    subst hu
    refine congrArg Host.Outcome.next ((command_of_runs hr (setMode mb)).trans ((if_pos (by simp [hp])).trans ?_))
    rw [if_neg (by omega), needBlock_eq, if_pos hgate]
    rfl
  have hreg (f : Field) : (respond u mb 0 (targetFrame u)).reg f = u.reg f := by simp [State.reg]
  have hstep : u.eng.stepMode = none := by
    subst hu
    unfold modeCommitted
    split <;> simp [modeWritten_stepMode]
  have hact : u.act = s.act := by
    subst hu
    unfold modeCommitted modeWritten
    split <;> simp
  have hmbx : u.mbx = s.mbx := by
    subst hu
    unfold modeCommitted modeWritten
    split <;> simp
  refine completes_of hrun ⟨?_, ?_, ?_, ?_, ?_⟩
  · rw [hreg, hu]
    exact modeCommitted_mode s _ hmode
  · simpa using hstep
  · simp [State.mode, State.actReg, hact]
  · rw [hreg]
    exact ok_of_runs hm hr u hmbx (by simp [targetFrame])
  · rw [State.flag, hreg, hu]
    exact modeCommitted_pending s _ _

theorem commit_completes (hr : Runs s mb 0x0202 []) (hgate : s.flag (CLK.GATE.EN 13) = true) : Completes (.commit mb) s fun t =>
    t.flag SCAN.COMMIT_STATUS.COMMIT_PEND = true ∧ Answered s t mb 0 (toLe 2 (t.reg SCAN.COMMIT_STATUS.TARGET_FRAME))
    ∧ (s.flag SCAN.COMMIT_STATUS.COMMIT_PEND = false → t.reg SCAN.COMMIT_STATUS.TARGET_FRAME
      = ((if s.scan.running then s.reg SCAN.FRAME_NUM.FRAME_NUM else 0) + 1) % 2 ^ 16) := by
  have hrun : exec (.commit mb) s = .next (respond (requestCommit s) mb 0 (targetFrame (requestCommit s))) := by
    refine congrArg Host.Outcome.next ((command_of_runs hr (commitCmd mb)).trans ?_)
    rw [commitCmd, needLen_eq, if_pos (by rfl), needBlock_eq, if_pos hgate]
  have hreg (f : Field) : (respond (requestCommit s) mb 0 (targetFrame (requestCommit s))).reg f = (requestCommit s).reg f := by
    simp [State.reg]
  refine completes_of hrun ⟨?_, ?_, fun hpend => ?_⟩
  · rw [State.flag, hreg]
    exact requestCommit_pending s
  · rw [hreg]
    exact ok_of_runs hm hr _ (by simp) (by simp [targetFrame])
  · rw [hreg]
    exact requestCommit_target hpend

/-! ### Statistics (R423) -/

theorem frameStats_completes (hr : Runs s mb 0x0203 p) (hp : p.length = 1) : Completes (.frameStats mb) s fun t =>
    Answered s t mb 0 (toLe 4 (s.reg SCAN.FRAME_NUM.FRAME_NUM) ++ toLe 4 s.stats.latched ++ toLe 4 s.stats.rendered
      ++ toLe 4 s.stats.skipped ++ toLe 4 s.stats.underruns ++ toLe 4 s.stats.aborts ++ toLe 4 s.stats.blocked ++ toLe 4 s.stats.swapped)
    ∧ (leAt p 0 1 = 1 → t.stats.latched = 0 ∧ t.stats.rendered = 0 ∧ t.stats.skipped = 0 ∧ t.stats.underruns = 0
      ∧ t.stats.aborts = 0 ∧ t.stats.blocked = 0 ∧ t.stats.swapped = 0)
    ∧ (leAt p 0 1 ≠ 1 → t.stats = s.stats) ∧ t.regs = s.regs := by
  obtain ⟨u, hu⟩ : ∃ u, u = if leAt p 0 1 = 1 then { s with stats := { Stats.reset with swapOpen := s.stats.swapOpen } } else s := ⟨_, rfl⟩
  have hrun : exec (.frameStats mb) s = .next (respond u mb 0 (statsData s)) := by
    subst hu
    exact congrArg Host.Outcome.next ((command_of_runs hr (frameStats mb)).trans (if_pos (by simp [hp])))
  have hdata : statsData s = toLe 4 (s.reg SCAN.FRAME_NUM.FRAME_NUM) ++ toLe 4 s.stats.latched ++ toLe 4 s.stats.rendered
      ++ toLe 4 s.stats.skipped ++ toLe 4 s.stats.underruns ++ toLe 4 s.stats.aborts ++ toLe 4 s.stats.blocked
      ++ toLe 4 s.stats.swapped := by
    simp [statsData]
  have hstats : (respond u mb 0 (statsData s)).stats = u.stats := by simp
  have hmbx : u.mbx = s.mbx := by
    subst hu
    split <;> rfl
  have hregs : u.regs = s.regs := by
    subst hu
    split <;> rfl
  refine completes_of hrun ⟨?_, fun hclear => ?_, fun hkeep => ?_, ?_⟩
  · rw [← hdata]
    exact ok_of_runs hm hr u hmbx (by simp [hdata])
  · rw [hstats, hu, if_pos hclear]
    exact ⟨rfl, rfl, rfl, rfl, rfl, rfl, rfl⟩
  · rw [hstats, hu, if_neg hkeep]
  · simpa using hregs

end

/-! ### Flips (R139) -/

/-- The fields that an armed flip of slot `n` writes, with their values. -/
def flipWrites (n flags fence retire next crc val : Nat) : List (Field × Nat) :=
  [(GAL.L.NEXT_LO.NEXT n, next / 64), (GAL.L.NEXT_HI.NEXT n, next / 2 ^ 32), (GAL.L.NEXT_CRC.NEXT_CRC n, crc),
   (GAL.L.FENCE_VAL.FENCE_VAL n, val), (GAL.L.FLIP.FENCE_EN n, b2n (bit flags 0)), (GAL.L.FLIP.FENCE_SEL n, fence),
   (GAL.L.FLIP.RETIRE_EN n, b2n (bit flags 1)), (GAL.L.FLIP.RETIRE_SEL n, retire), (GAL.L.FLIP.ARM n, 1)]

theorem armFlip_eq (s : State) (n flags fence retire next crc val : Nat) : armFlip s n flags fence retire next crc val
    = (flipWrites n flags fence retire next crc val).foldl (fun t x => t.setReg x.1 x.2) s := rfl

/-- Of writes of different fields each one's value stands. -/
theorem reg_foldl_setReg {l : List (Field × Nat)} (hl : (l.map (fun x => fieldKey x.1)).Nodup) (s : State) {x : Field × Nat}
    (hx : x ∈ l) (hw : x.1.width ≤ 32) : (l.foldl (fun t x => t.setReg x.1 x.2) s).reg x.1 = x.2 % 2 ^ x.1.width := by
  induction l generalizing s with
  | nil => exact absurd hx List.not_mem_nil
  | cons y l ih =>
    rw [List.map_cons, List.nodup_cons] at hl
    obtain ⟨hy, hl⟩ := hl
    rw [List.foldl_cons]
    rcases List.mem_cons.mp hx with rfl | hx
    · have hkept (t : State) : (l.foldl (fun t x => t.setReg x.1 x.2) t).reg x.1 = t.reg x.1 := by
        clear ih hl
        induction l generalizing t with
        | nil => rfl
        | cons z l ihl =>
          rw [List.map_cons, List.mem_cons, not_or] at hy
          exact (ihl (by simp) hy.2 _).trans (reg_setReg_ne _ _ _ _ (Ne.symm hy.1))
      rw [hkept]
      exact reg_setReg_self s x.1 x.2 hw
    · exact ih hl _ hx

theorem flipWrites_nodup (n flags fence retire next crc val : Nat) :
    ((flipWrites n flags fence retire next crc val).map (fun x => fieldKey x.1)).Nodup := by
  simp [flipWrites, fieldKey, GAL.L.NEXT_LO.NEXT, GAL.L.NEXT_HI.NEXT, GAL.L.NEXT_CRC.NEXT_CRC, GAL.L.FENCE_VAL.FENCE_VAL,
    GAL.L.FLIP.ARM, GAL.L.FLIP.FENCE_EN, GAL.L.FLIP.FENCE_SEL, GAL.L.FLIP.RETIRE_EN, GAL.L.FLIP.RETIRE_SEL]
  omega

theorem foldl_setReg_mbx (l : List (Field × Nat)) (s : State) : (l.foldl (fun t x => t.setReg x.1 x.2) s).mbx = s.mbx := by
  induction l generalizing s with
  | nil => rfl
  | cons x l ih => exact ih _

section
variable (s : State) (n flags : Nat) {fence retire next crc val : Nat}

theorem armFlip_reg {x : Field × Nat} (hx : x ∈ flipWrites n flags fence retire next crc val) (hw : x.1.width ≤ 32) :
    (armFlip s n flags fence retire next crc val).reg x.1 = x.2 % 2 ^ x.1.width :=
  reg_foldl_setReg (flipWrites_nodup n flags fence retire next crc val) s hx hw

theorem armFlip_mbx : (armFlip s n flags fence retire next crc val).mbx = s.mbx := foldl_setReg_mbx (flipWrites n flags fence retire next crc val) s

/-- An armed flip holds each value it was given (R139). -/
theorem armFlip_values (hfence : fence < 64) (hretire : retire < 64) (hnext : next < 2 ^ 34) (hcrc : crc < 2 ^ 32)
    (hval : val < 2 ^ 32) {u : State} (hu : u = armFlip s n flags fence retire next crc val) :
    u.flag (GAL.L.FLIP.ARM n) = true
    ∧ u.reg (GAL.L.NEXT_LO.NEXT n) = next % 2 ^ 32 / 64 ∧ u.reg (GAL.L.NEXT_HI.NEXT n) = next / 2 ^ 32
    ∧ u.reg (GAL.L.NEXT_CRC.NEXT_CRC n) = crc ∧ u.reg (GAL.L.FENCE_VAL.FENCE_VAL n) = val
    ∧ u.flag (GAL.L.FLIP.FENCE_EN n) = bit flags 0 ∧ u.reg (GAL.L.FLIP.FENCE_SEL n) = fence
    ∧ u.flag (GAL.L.FLIP.RETIRE_EN n) = bit flags 1 ∧ u.reg (GAL.L.FLIP.RETIRE_SEL n) = retire := by
  have hvalue (f : Field) (v w : Nat) (hx : (f, v) ∈ flipWrites n flags fence retire next crc val) (hwidth : f.width = w)
      (hw : w ≤ 32) : u.reg f = v % 2 ^ w := by
    rw [hu, ← hwidth]
    exact armFlip_reg s n flags (x := (f, v)) hx (by rw [hwidth]; exact hw)
  have hflag (f : Field) (b : Bool) (hx : (f, b2n b) ∈ flipWrites n flags fence retire next crc val) (hwidth : f.width = 1) :
      u.flag f = b := by
    rw [State.flag, hvalue f _ 1 hx hwidth (by decide)]
    cases b <;> rfl
  have hlow := hvalue (GAL.L.NEXT_LO.NEXT n) (next / 64) 26 (by simp [flipWrites]) rfl (by decide)
  have hhigh := hvalue (GAL.L.NEXT_HI.NEXT n) (next / 2 ^ 32) 2 (by simp [flipWrites]) rfl (by decide)
  have hcheck := hvalue (GAL.L.NEXT_CRC.NEXT_CRC n) crc 32 (by simp [flipWrites]) rfl (by decide)
  have hwait := hvalue (GAL.L.FENCE_VAL.FENCE_VAL n) val 32 (by simp [flipWrites]) rfl (by decide)
  have hsel := hvalue (GAL.L.FLIP.FENCE_SEL n) fence 6 (by simp [flipWrites]) rfl (by decide)
  have hretired := hvalue (GAL.L.FLIP.RETIRE_SEL n) retire 6 (by simp [flipWrites]) rfl (by decide)
  exact ⟨hflag _ true (by simp [flipWrites, b2n]) rfl, by omega, by omega, by omega, by omega,
    hflag _ _ (by simp [flipWrites]) rfl, by omega, hflag _ _ (by simp [flipWrites]) rfl, by omega⟩

end

theorem layerFlip_completes {s : State} {mb n : Nat} {p : List Byte} (hm : MailOk s) (hr : Runs s mb 0x0301 p) (hp : p.length = 20)
    (hn : n = leAt p 0 1) (hslot : n ≤ 6) (hfence : leAt p 2 1 ≤ 63) (hretire : leAt p 3 1 ≤ 63) (halign : leAt p 4 8 % 64 = 0)
    (hrange : leAt p 4 8 < 2 ^ 34) (htop : touchesTop s (leAt p 4 8) (flipSpan s n) = false)
    (hgate : s.flag (CLK.GATE.EN 14) = true) : Completes (.layerFlip mb) s fun t =>
      Answered s t mb 0 [] ∧ t.flag (GAL.L.FLIP.ARM n) = true
      ∧ t.reg (GAL.L.NEXT_LO.NEXT n) = leAt p 4 8 % 2 ^ 32 / 64 ∧ t.reg (GAL.L.NEXT_HI.NEXT n) = leAt p 4 8 / 2 ^ 32
      ∧ t.reg (GAL.L.NEXT_CRC.NEXT_CRC n) = leAt p 12 4 ∧ t.reg (GAL.L.FENCE_VAL.FENCE_VAL n) = leAt p 16 4
      ∧ t.flag (GAL.L.FLIP.FENCE_EN n) = bit (leAt p 1 1) 0 ∧ t.reg (GAL.L.FLIP.FENCE_SEL n) = leAt p 2 1
      ∧ t.flag (GAL.L.FLIP.RETIRE_EN n) = bit (leAt p 1 1) 1 ∧ t.reg (GAL.L.FLIP.RETIRE_SEL n) = leAt p 3 1 := by
  obtain ⟨u, hu⟩ : ∃ u, u = armFlip s n (leAt p 1 1) (leAt p 2 1) (leAt p 3 1) (leAt p 4 8) (leAt p 12 4) (leAt p 16 4) := ⟨_, rfl⟩
  have hrun : exec (.layerFlip mb) s = .next (respond u mb 0 []) := by
    subst hu hn
    refine congrArg Host.Outcome.next ((command_of_runs hr (layerFlip mb)).trans ((if_pos (by simp [hp])).trans ?_))
    rw [if_neg (by simp [htop, halign]; omega), needBlock_eq, if_pos hgate]
  have hreg (f : Field) : (respond u mb 0 []).reg f = u.reg f := by simp [State.reg]
  have hcrc := leAt_lt p 12 4
  have hval := leAt_lt p 16 4
  refine completes_of hrun ⟨refused_of_runs hm hr u (hu ▸ armFlip_mbx s n _) (by decide), ?_⟩
  simp only [State.flag, hreg]
  exact armFlip_values s n _ (by omega) (by omega) hrange (by omega) (by omega) hu

/-! ### Fence waits (R138) -/

section
variable {s : State} {mb : Nat} {p : List Byte} (hm : MailOk s)
include hm

theorem fenceWait_completes (hr : Runs s mb 0x0302 p) (hp : p.length = 8) (hfence : leAt p 0 1 ≤ 63) (hlow : 1 ≤ leAt p 2 2)
    (hhigh : leAt p 2 2 ≤ 1000) : Completes (.fenceWait mb) s fun t =>
      (fenceReached s (leAt p 0 1) (leAt p 4 4) = true → Answered s t mb 0 (toLe 4 (s.reg (GAL.FENCE.FENCE (leAt p 0 1)))))
      ∧ (fenceReached s (leAt p 0 1) (leAt p 4 4) = false → t = s) := by
  have hrun : exec (.fenceWait mb) s = .next (fenceWait mb false s p) :=
    congrArg Host.Outcome.next (command_of_runs hr (fenceWait mb false))
  refine completes_of hrun ?_
  rw [fenceWait_good mb false hp (by omega) hlow hhigh]
  exact ⟨fun h => by rw [if_pos h]; exact ok_of_runs hm hr s rfl (by simp), fun h => by rw [if_neg (by simp [h]), if_neg (by simp)]⟩

/-! ### Video windows (R350) -/

theorem videoWindow_completes (hs : ShapeOk s) (hr : Runs s mb 0x0304 p) (hp : p.length = 16) (hwin : leAt p 0 1 ≤ 3)
    (hsrc : leAt p 2 2 ≤ 1023) (htop : leAt p 12 4 = 0 ∨ touchesTop s (leAt p 4 8) (leAt p 12 4) = false) :
    Completes (.videoWindow mb) s fun t =>
      Answered s t mb 0 [] ∧ ∀ k < 4, t.net.windows.getD k (0, 0, 0) = if k = leAt p 0 1 then
        (if leAt p 12 4 = 0 then (0, 0, 0) else (leAt p 2 2, leAt p 4 8, leAt p 12 4)) else s.net.windows.getD k (0, 0, 0) := by
  obtain ⟨w, hw⟩ : ∃ w, w = if leAt p 12 4 = 0 then (0, 0, 0) else (leAt p 2 2, leAt p 4 8, leAt p 12 4) := ⟨_, rfl⟩
  obtain ⟨u, hu⟩ : ∃ u, u = { s with net := { s.net with windows := s.net.windows.set (leAt p 0 1) w } } := ⟨_, rfl⟩
  have hrun : exec (.videoWindow mb) s = .next (respond u mb 0 []) := by
    subst hu hw
    refine congrArg Host.Outcome.next ((command_of_runs hr (videoWindow mb)).trans ((if_pos (by simp [hp])).trans ?_))
    exact if_neg (by rcases htop with h | h <;> simp [h] <;> omega)
  obtain ⟨l, q, hnet⟩ := respond_net u mb 0 []
  refine completes_of hrun ⟨refused_of_runs hm hr u (by rw [hu]) (by decide), fun k hk => ?_⟩
  have hlength : s.net.windows.length = 4 := hs.2.2.1
  rw [hnet, ← hw, hu]
  simp only [List.getD_eq_getElem?_getD, List.getElem?_set, hlength]
  by_cases hkw : k = leAt p 0 1
  · subst hkw
    simp [hk]
  · simp [hkw, Ne.symm hkw]

end

/-! ### LUT loads (R134) -/

section
variable {s : State} {k i : Nat} (l : List Nat)

/-- An entry written or ignored selects no table. -/
theorem lutSelected_lutPut (v t : Nat) : lutSelected (lutPut s k i v).1 t = lutSelected s t := by
  simp [lutSelected, postTable, State.actReg]

theorem lutPut_ignores (v : Nat) (h : lutSelected s k = true ∨ lutSize k ≤ i) : (lutPut s k i v).2 = true := by
  rw [lutPut, if_pos h]

theorem lutPut_takes (v : Nat) (hsel : lutSelected s k = false) (hi : i < lutSize k) : (lutPut s k i v).2 = false := by
  rw [lutPut, if_neg (by simp [hsel, hi])]

theorem lutPutAll_cons (v : Nat) : lutPutAll k s i (v :: l) = ((lutPutAll k (lutPut s k i v).1 (i + 1) l).1,
    (lutPut s k i v).2 || (lutPutAll k (lutPut s k i v).1 (i + 1) l).2) := rfl

/-- A load ignores an entry when the table is selected or it runs past its end. -/
theorem lutPutAll_ignores (hl : l ≠ []) (h : lutSelected s k = true ∨ lutSize k < i + l.length) : (lutPutAll k s i l).2 = true := by
  induction l generalizing s i with
  | nil => exact absurd rfl hl
  | cons v l ih =>
    rw [lutPutAll_cons]
    by_cases hnow : lutSelected s k = true ∨ lutSize k ≤ i
    · rw [lutPut_ignores v hnow, Bool.true_or]
    · obtain ⟨hsel, hi⟩ := not_or.mp hnow
      have hpast := h.resolve_left hsel
      rw [List.length_cons] at hpast
      have hrest : l ≠ [] := by
        rintro rfl
        simp at hpast
        omega
      rw [ih hrest (.inr (by omega)), Bool.or_true]

theorem lutPutAll_takes (hsel : lutSelected s k = false) (h : i + l.length ≤ lutSize k) : (lutPutAll k s i l).2 = false := by
  induction l generalizing s i with
  | nil => rfl
  | cons v l ih =>
    rw [List.length_cons] at h
    rw [lutPutAll_cons, lutPut_takes v hsel (by omega), ih (by rw [lutSelected_lutPut, hsel]) (by omega)]
    rfl

theorem lutPut_ign (v : Nat) (h : s.flag GAL.STATUS.LUT_IGN = true ∨ (lutPut s k i v).2 = true) :
    (lutPut s k i v).1.flag GAL.STATUS.LUT_IGN = true := by
  unfold lutPut at h ⊢
  split_ifs at h ⊢
  · exact flag_setFlag_self _ _ _ (by decide) (by decide)
  · exact h.resolve_right (by simp)

/-- An ignored entry shows in LUT_IGN, and the entries after it leave that set. -/
theorem lutPutAll_ign (h : s.flag GAL.STATUS.LUT_IGN = true ∨ (lutPutAll k s i l).2 = true) :
    (lutPutAll k s i l).1.flag GAL.STATUS.LUT_IGN = true := by
  induction l generalizing s i with
  | nil => exact h.resolve_right (by simp [lutPutAll])
  | cons v l ih =>
    rw [lutPutAll_cons] at h ⊢
    refine ih ?_
    rcases h with h | h
    · exact .inl (lutPut_ign v (.inl h))
    · rcases Bool.or_eq_true_iff.mp h with h | h
      · exact .inl (lutPut_ign v (.inr h))
      · exact .inr h

theorem lutPutAll_lut (hsel : lutSelected s k = true) : (lutPutAll k s i l).1.gal.lut = s.gal.lut := by
  induction l generalizing s i with
  | nil => rfl
  | cons v l ih =>
    rw [lutPutAll_cons, ih (by rw [lutSelected_lutPut, hsel]), lutPut_of_ignored v (.inl hsel)]
    rfl

/-- A load replaces the entries it names and no other; those past the end of the table are ignored. -/
theorem lutEntry_lutPutAll (hsel : lutSelected s k = false) (hl : ∀ v ∈ l, v < 65536) {j : Nat} (hj : j < lutSize k) :
    lutEntry (lutPutAll k s i l).1 k j = if i ≤ j ∧ j < i + l.length then l.getD (j - i) 0 else lutEntry s k j := by
  induction l generalizing s i with
  | nil => exact (if_neg (by simp)).symm
  | cons v l ih =>
    have hsize := lutSize_le k
    have hone : lutEntry (lutPut s k i v).1 k j = if j = i then v else lutEntry s k j := by
      by_cases hi : i < lutSize k
      · rw [lutEntry_lutPut v hsel hi (by omega), Nat.mod_eq_of_lt (hl v List.mem_cons_self)]
        simp
      · rw [lutPut_of_ignored v (.inr (by omega)), if_neg (by omega)]
        rfl
    rw [lutPutAll_cons, ih (by rw [lutSelected_lutPut, hsel]) fun v hv => hl v (List.mem_cons_of_mem _ hv), hone, List.length_cons]
    by_cases hji : j = i
    · subst hji
      simp
    · by_cases hin : i + 1 ≤ j ∧ j < i + 1 + l.length
      · rw [if_pos hin, if_pos (by omega), show j - i = j - (i + 1) + 1 by omega, List.getD_cons_succ]
      · rw [if_neg hin, if_neg hji, if_neg (by omega)]

end

theorem respond_regs (s : State) (mb status : Nat) (data : List Byte) : (respond s mb status data).regs = s.regs := by simp

theorem lutLoad_completes {s : State} {mb n k i : Nat} {p : List Byte} (hm : MailOk s) (hr : Runs s mb 0x0303 p) (hn : n = leAt p 4 2)
    (hk : k = leAt p 0 1) (hi : i = leAt p 2 2) (hp : p.length = 8 + 2 * n) (htable : k ≤ 15) (hlow : 1 ≤ n) (hhigh : n ≤ 120)
    (hgate : s.flag (CLK.GATE.EN 14) = true) : Completes (.lutLoad mb) s fun t =>
      (lutSelected s k = true ∨ lutSize k < i + n → Answered s t mb 7 [] ∧ t.flag GAL.STATUS.LUT_IGN = true)
      ∧ (lutSelected s k = true → t.gal.lut = s.gal.lut)
      ∧ (lutSelected s k = false → i + n ≤ lutSize k → Answered s t mb 0 [])
      ∧ (lutSelected s k = false → ∀ j, j < lutSize k →
        lutEntry t k j = if i ≤ j ∧ j < i + n then leAt p (8 + 2 * (j - i)) 2 else lutEntry s k j) := by
  obtain ⟨l, hl⟩ : ∃ l, l = wordsAt p 8 n := ⟨_, rfl⟩
  have hlength : l.length = n := by simp [hl, wordsAt]
  have hrun : exec (.lutLoad mb) s
      = .next (respond (lutPutAll k s i l).1 mb (if (lutPutAll k s i l).2 then 7 else 0) []) := by
    subst hl hn hk hi
    refine congrArg Host.Outcome.next ((command_of_runs hr (lutLoad mb)).trans ((if_pos (by simp [hp])).trans ?_))
    rw [if_neg (by omega), needBlock_eq, if_pos hgate]
  have hmbx : (lutPutAll k s i l).1.mbx = s.mbx := by simp
  have hgal (status : Nat) : (respond (lutPutAll k s i l).1 mb status []).gal = (lutPutAll k s i l).1.gal := by simp
  refine completes_of hrun ⟨fun hbad => ?_, fun hsel => ?_, fun hsel hfits => ?_, fun hsel j hj => ?_⟩
  · have hign := lutPutAll_ignores l (by rw [← List.length_pos_iff]; omega) (hlength.symm ▸ hbad)
    rw [hign, if_pos rfl]
    refine ⟨refused_of_runs hm hr _ hmbx (by decide), ?_⟩
    exact (flag_of_regs _ (respond_regs _ _ _ _)).trans (lutPutAll_ign l (.inr hign))
  · rw [hgal, lutPutAll_lut l hsel]
  · rw [lutPutAll_takes l hsel (by omega)]
    exact refused_of_runs hm hr _ hmbx (by decide)
  · have hvalues : ∀ v ∈ l, v < 65536 := by
      intro v hv
      rw [hl] at hv
      obtain ⟨q, -, rfl⟩ := List.mem_map.mp hv
      exact leAt_lt p _ 2
    unfold lutEntry
    rw [hgal]
    refine (lutEntry_lutPutAll l hsel hvalues hj).trans ?_
    rw [hlength]
    split
    · next hin =>
      rw [hl, wordsAt, List.getD_eq_getElem?_getD, List.getElem?_map, List.getElem?_range (by omega)]
      rfl
    · rfl

end Sys2Proof.Machine.MailScene
end

section
/-! PROOF. MailObjects: objects by mailbox (12_mailbox_command_set.md R423; R165 to R168, R254). -/

namespace Sys2Proof.Machine.MailObjects

open ConsumedPackets (applyRecords_commitDue)
open KernelMail (command_of_runs refused_of_runs ok_of_runs answered_of_runs leAt_one leAt_lt)
open MailScene (setMode_completes commit_completes frameStats_completes layerFlip_completes fenceWait_completes lutLoad_completes
  videoWindow_completes)
open ShadowPublish (ctxSlot_setSlot keys_nodup_of_sparseWf)

/-! ### The reasons of refused records (R351) -/

section
variable (s : State) (c : Ctx) (batch : Bool)

theorem stageIn_reason (n : Nat) : (stageIn s n c batch).2 ≤ 6 := by
  unfold stageIn
  split <;> simp

theorem recordFault_le : recordFault s c ≤ 4 := by
  unfold recordFault
  split_ifs <;> omega

theorem placeRecord_reason : (placeRecord s c batch).2 ≤ 6 := by
  unfold placeRecord
  split
  · exact stageIn_reason _ _ _ _
  · split
    · simp [refuseRecord]
    · split
      · exact stageIn_reason _ _ _ _
      · simp [refuseRecord]

theorem acceptRecord_reason (raw : List Byte) : (acceptRecord s raw batch).2 ≤ 6 := by
  unfold acceptRecord
  generalize ({ raw := raw, t0 := if s.synced then none else some s.now } : Ctx) = c
  have hfault := recordFault_le s c
  dsimp only
  split
  · simp only [refuseRecord]
    omega
  · split
    · exact stageIn_reason _ _ _ _
    · split
      · exact placeRecord_reason _ _ _
      · simp

end

/-- What a list of records refuses: each with its place among them and a reason. -/
theorem applyRecords_places (batch : Bool) (l : List (List Byte)) (s : State) (i : Nat) :
    (∀ x ∈ (applyRecords batch s i l).2, i ≤ x.1 ∧ x.2 ≤ 6) ∧ ((applyRecords batch s i l).2.map Prod.fst).Nodup
    ∧ (applyRecords batch s i l).2.length ≤ l.length := by
  induction l generalizing s i with
  | nil => simp [applyRecords]
  | cons r l ih =>
    obtain ⟨hplace, hnodup, hlength⟩ := ih (acceptRecord s r batch).1 (i + 1)
    have hreason := acceptRecord_reason s batch r
    have hlater : ∀ x ∈ (applyRecords batch (acceptRecord s r batch).1 (i + 1) l).2, i ≤ x.1 ∧ x.2 ≤ 6 :=
      fun x hx => ⟨by have := (hplace x hx).1; omega, (hplace x hx).2⟩
    simp only [applyRecords]
    split
    · exact ⟨hlater, hnodup, Nat.le_succ_of_le hlength⟩
    · refine ⟨List.forall_mem_cons.mpr ⟨⟨Nat.le_refl i, hreason⟩, hlater⟩, ?_, Nat.succ_le_succ hlength⟩
      rw [List.map_cons, List.nodup_cons]
      refine ⟨fun hmem => ?_, hnodup⟩
      obtain ⟨x, hx, hxi⟩ := List.mem_map.mp hmem
      have := (hplace x hx).1
      omega

/-- The reason that an answer gives for record `i`. -/
def reasonOf (l : List (Nat × Nat)) (i : Nat) : Nat := ((l.find? (fun x => x.1 == i)).map (fun x => x.2)).getD 0

theorem reasonOf_mem {l : List (Nat × Nat)} (hl : (l.map Prod.fst).Nodup) {i q : Nat} (h : (i, q) ∈ l) : reasonOf l i = q := by
  have hsome : (l.find? (fun x => x.1 == i)).isSome := by
    rw [List.find?_isSome]
    exact ⟨_, h, by simp⟩
  obtain ⟨x, hx⟩ := Option.isSome_iff_exists.mp hsome
  have hxi : x.1 = i := by simpa using List.find?_some hx
  have hsame : x = (i, q) := List.inj_on_of_nodup_map hl (List.mem_of_find?_eq_some hx) h hxi
  rw [reasonOf, hx, hsame]
  rfl

theorem reasonOf_not_mem {l : List (Nat × Nat)} {i : Nat} (h : ∀ q, (i, q) ∉ l) : reasonOf l i = 0 := by
  have hnone : l.find? (fun x => x.1 == i) = none := by
    rw [List.find?_eq_none]
    rintro ⟨j, q⟩ hx hj
    exact h q (by simpa [← (show j = i by simpa using hj)] using hx)
  rw [reasonOf, hnone]
  rfl

/-- The data of an OBJ_WRITE answer: how many records were taken, and a reason for each. -/
def writeAnswer (n : Nat) (l : List (Nat × Nat)) : List Byte :=
  toLe 1 (n - l.length) ++ [0] ++ (List.range n).flatMap (fun i => toLe 1 (reasonOf l i))

theorem toLe_one (v : Nat) : toLe 1 v = [BitVec.ofNat 8 v] := congrArg (· :: []) (BitVec.eq_of_toNat_eq (by simp))

theorem writeAnswer_eq (n : Nat) (l : List (Nat × Nat)) : writeAnswer n l
    = BitVec.ofNat 8 (n - l.length) :: 0 :: (List.range n).map (fun i => BitVec.ofNat 8 (reasonOf l i)) := by
  simp only [writeAnswer, toLe_one, List.map_eq_flatMap]
  rfl

theorem writeAnswer_parts {n : Nat} {l : List (Nat × Nat)} (hn : n < 256) (hl : ∀ x ∈ l, x.2 < 256) (hkeys : (l.map Prod.fst).Nodup) :
    (writeAnswer n l).length = 2 + n ∧ leAt (writeAnswer n l) 0 1 = n - l.length
    ∧ ∀ i < n, (∀ q, (i, q) ∈ l → leAt (writeAnswer n l) (2 + i) 1 = q)
      ∧ ((∀ q, (i, q) ∉ l) → leAt (writeAnswer n l) (2 + i) 1 = 0) := by
  rw [writeAnswer_eq]
  have hreason (i : Nat) (hi : i < n) : leAt (BitVec.ofNat 8 (n - l.length) :: 0
      :: (List.range n).map (fun i => BitVec.ofNat 8 (reasonOf l i))) (2 + i) 1 = reasonOf l i % 256 := by
    rw [leAt_one, Nat.add_comm 2 i, List.getD_cons_succ, List.getD_cons_succ]
    simp [hi]
  refine ⟨by simp; omega, ?_, fun i hi => ⟨fun q hq => ?_, fun hnone => ?_⟩⟩
  · rw [leAt_one]
    simp
    omega
  · rw [hreason i hi, reasonOf_mem hkeys hq]
    exact Nat.mod_eq_of_lt (hl _ hq)
  · rw [hreason i hi, reasonOf_not_mem hnone]

/-! ### OBJ_WRITE (R168) -/

section
variable {s : State} {mb : Nat} {p : List Byte} (hm : MailOk s)
include hm

theorem objWrite_completes {n : Nat} {r : State × List (Nat × Nat)} (hr : Runs s mb 0x0401 p) (hn : n = leAt p 1 1) (hmax : n ≤ 3)
    (hp : p.length = 4 + 64 * n)
    (hrec : r = applyRecords (bit (leAt p 0 1) 0) s 0 ((List.range n).map (fun i => bytesAt p (4 + 64 * i) 64))) :
    Completes (.objWrite mb) s fun t =>
      (∀ k, t.ctxSlot k = r.1.ctxSlot k) ∧ t.shd.commitDue = (s.shd.commitDue || bit (leAt p 0 1) 1)
      ∧ ∃ d, Answered s t mb (if r.2 = [] then 0 else 0x10) d ∧ d.length = 2 + n ∧ leAt d 0 1 = n - r.2.length
        ∧ ∀ i < n, (∀ q, (i, q) ∈ r.2 → leAt d (2 + i) 1 = q) ∧ ((∀ q, (i, q) ∉ r.2) → leAt d (2 + i) 1 = 0) := by
  obtain ⟨u, hu⟩ : ∃ u, u = if bit (leAt p 0 1) 1 then batchCommit r.1 else r.1 := ⟨_, rfl⟩
  have hrun : exec (.objWrite mb) s = .next (respond u mb (if r.2 = [] then 0 else 0x10) (writeAnswer n r.2)) := by
    subst hu hrec hn
    exact congrArg Host.Outcome.next ((command_of_runs hr (objWrite mb)).trans (if_pos (by simp [hp])))
  obtain ⟨hplaces, hkeys, -⟩ := applyRecords_places (bit (leAt p 0 1) 0)
    ((List.range n).map (fun i => bytesAt p (4 + 64 * i) 64)) s 0
  rw [← hrec] at hplaces hkeys
  obtain ⟨hlength, hparts⟩ := writeAnswer_parts (n := n) (by omega) (fun x hx => by have := (hplaces x hx).2; omega) hkeys
  have hmbx : u.mbx = s.mbx := by
    subst hu hrec
    split <;> simp
  have hshd (status : Nat) (d : List Byte) : (respond u mb status d).shd = u.shd := by simp
  refine completes_of hrun ⟨fun k => ?_, ?_, _, ?_, hlength, hparts⟩
  · unfold State.ctxSlot
    rw [hshd, hu]
    split <;> rfl
  · have hdue : r.1.shd.commitDue = s.shd.commitDue := by
      rw [hrec]
      exact applyRecords_commitDue _ _ _ _
    rw [hshd, hu]
    split
    · next hbit => rw [hbit, Bool.or_true]; rfl
    · next hbit => rw [hdue, Bool.eq_false_iff.mpr hbit, Bool.or_false]
  · split
    · exact (answered_of_runs hm hr u hmbx 0 (.inl rfl) (by omega) (by decide)).1
    · exact (answered_of_runs hm hr u hmbx 0 (.inr (.inl rfl)) (by omega) (by decide)).1

/-! ### OBJ_READ -/

theorem objRead_completes (hr : Runs s mb 0x0402 p) (hp : p.length = 4) (hby : leAt p 0 1 ≤ 1)
    (hkey : leAt p 0 1 = 1 ∨ leAt p 2 2 ≤ 255) : Completes (.objRead mb) s fun t =>
      (namedContext s (leAt p 0 1) (leAt p 2 2) = none → Answered s t mb 0x0F [])
      ∧ ∀ n c, namedContext s (leAt p 0 1) (leAt p 2 2) = some (n, c) → c.raw.length = 64 →
        Answered s t mb 0 (toLe 1 n ++ [0, 0, 0] ++ c.raw) := by
  have hrun : exec (.objRead mb) s = .next (match namedContext s (leAt p 0 1) (leAt p 2 2) with
      | none => respond s mb 0x0F []
      | some (n, c) => respond s mb 0 (toLe 1 n ++ [0, 0, 0] ++ c.raw)) := by
    refine congrArg Host.Outcome.next ((command_of_runs hr (objRead mb)).trans ((if_pos (by simp [hp])).trans ?_))
    exact (if_neg (by omega)).trans (by rfl)
  refine completes_of hrun ⟨fun hnone => ?_, fun n c hsome hraw => ?_⟩
  · rw [hnone]
    exact refused_of_runs hm hr s rfl (by decide)
  · rw [hsome]
    exact ok_of_runs hm hr s rfl (by simp [hraw])

end

/-! ### OBJ_CLEAR (R254) -/

/-- The deletion of the active context of slot `n` staged. -/
def deletionStaged (s : State) (n : Nat) (c : Ctx) : State :=
  s.setSlot n { s.ctxSlot n with staged := some ⟨deletion c, false⟩ }

/-- The deletion of a context waits for its frame: the path agreement does not hold it back (R254). -/
def deletes (s : State) (c : Ctx) : Bool := !c.glare s || s.reg SAFE.STATUS.PATH_STATE == 2

theorem clearContext_eq {s : State} (hinj : s.injWaits 15 = false) (d w : Nat) (x : Nat × Ctx) :
    clearContext (s, d, w) x = (deletionStaged s x.1 x.2, d + b2n (deletes s x.2), w + b2n (!deletes s x.2)) := by
  have hstage : stageIn s x.1 (deletion x.2) false = (deletionStaged s x.1 x.2, 0) := if_neg (by simp [hinj])
  unfold clearContext deletes
  simp only [hstage]
  by_cases hg : x.2.glare s <;> by_cases hp : s.reg SAFE.STATUS.PATH_STATE = 2 <;> simp [hg, hp, b2n]

/-- The contexts of a list deleted, each in its own slot, with the counts of deletions and deferrals. -/
theorem foldl_clearContext (l : List (Nat × Ctx)) {s : State} (hinj : s.injWaits 15 = false) (d w : Nat) :
    l.foldl clearContext (s, d, w) = (l.foldl (fun t x => deletionStaged t x.1 x.2) s, d + l.countP (fun x => deletes s x.2),
      w + l.countP (fun x => !deletes s x.2)) := by
  induction l generalizing s d w with
  | nil => rfl
  | cons x l ih =>
    have hsame (c : Ctx) : deletes (deletionStaged s x.1 x.2) c = deletes s c := rfl
    rw [List.foldl_cons, clearContext_eq hinj, ih (s := deletionStaged s x.1 x.2) hinj]
    simp only [hsame, List.countP_cons, List.foldl_cons]
    cases deletes s x.2 <;> simp [b2n, Nat.add_assoc, Nat.add_comm 1]

theorem foldl_deletionStaged_mbx (l : List (Nat × Ctx)) (s : State) :
    (l.foldl (fun t x => deletionStaged t x.1 x.2) s).mbx = s.mbx := by
  induction l generalizing s with
  | nil => rfl
  | cons x l ih => exact ih _

theorem foldl_deletionStaged_other {l : List (Nat × Ctx)} {n : Nat} (hn : n ∉ l.map Prod.fst) (s : State) :
    (l.foldl (fun t x => deletionStaged t x.1 x.2) s).ctxSlot n = s.ctxSlot n := by
  induction l generalizing s with
  | nil => rfl
  | cons x l ih =>
    rw [List.map_cons, List.mem_cons, not_or] at hn
    rw [List.foldl_cons, ih hn.2, deletionStaged, ctxSlot_setSlot, if_neg hn.1]

theorem foldl_deletionStaged_self {l : List (Nat × Ctx)} (hl : (l.map Prod.fst).Nodup) {n : Nat} {c : Ctx} (hmem : (n, c) ∈ l)
    (s : State) : (l.foldl (fun t x => deletionStaged t x.1 x.2) s).ctxSlot n
      = { s.ctxSlot n with staged := some ⟨deletion c, false⟩ } := by
  induction l generalizing s with
  | nil => exact absurd hmem List.not_mem_nil
  | cons x l ih =>
    rw [List.map_cons, List.nodup_cons] at hl
    obtain ⟨hx, hl⟩ := hl
    rw [List.foldl_cons]
    rcases List.mem_cons.mp hmem with rfl | hmem
    · rw [foldl_deletionStaged_other hx, deletionStaged, ctxSlot_setSlot, if_pos rfl]
    · have hne : n ≠ x.1 := fun h => hx (h ▸ List.mem_map_of_mem hmem)
      rw [ih hl hmem, deletionStaged, ctxSlot_setSlot, if_neg hne]

theorem mem_of_sparseGet {α : Type} {d v : α} {m : Sparse α} {n : Nat} (h : sparseGet d m n = v) (hv : v ≠ d) : (n, v) ∈ m := by
  induction m with
  | nil => exact absurd h.symm hv
  | cons p m ih =>
    obtain ⟨k, w⟩ := p
    rw [sparseGet] at h
    split at h
    · next hk =>
      rw [hk, h]
      exact List.mem_cons_self
    · exact List.mem_cons_of_mem _ (ih h)

theorem sparseGet_of_mem {α : Type} {d v : α} {m : Sparse α} (hm : (m.map Prod.fst).Nodup) {n : Nat} (h : (n, v) ∈ m) :
    sparseGet d m n = v := by
  induction m with
  | nil => exact absurd h List.not_mem_nil
  | cons p m ih =>
    obtain ⟨k, w⟩ := p
    rw [List.map_cons, List.nodup_cons] at hm
    obtain ⟨hk, hm⟩ := hm
    rcases List.mem_cons.mp h with heq | h
    · obtain ⟨rfl, rfl⟩ := Prod.mk.inj heq
      exact if_pos rfl
    · have hne : k ≠ n := fun hkn => hk (List.mem_map.mpr ⟨_, h, hkn.symm⟩)
      exact (if_neg hne).trans (ih hm h)

/-- The active contexts are those of the slots, one for each (R164). -/
theorem mem_activeCtxs {s : State} (hs : SlotsOk s) {n : Nat} {c : Ctx} : (n, c) ∈ activeCtxs s ↔ (s.ctxSlot n).active = some c := by
  unfold activeCtxs State.ctxSlot
  rw [List.mem_filterMap]
  constructor
  · rintro ⟨⟨k, v⟩, hmem, hv⟩
    obtain ⟨a, ha, hkc⟩ := Option.map_eq_some_iff.mp hv
    obtain ⟨rfl, rfl⟩ := Prod.mk.inj hkc
    rw [sparseGet_of_mem (keys_nodup_of_sparseWf _ hs) hmem]
    exact ha
  · intro hactive
    refine ⟨(n, sparseGet ⟨none, none⟩ s.shd.slots n), mem_of_sparseGet rfl fun hnone => ?_, by simp [hactive]⟩
    rw [hnone] at hactive
    cases hactive

theorem activeCtxs_nodup {s : State} (hs : SlotsOk s) : ((activeCtxs s).map Prod.fst).Nodup := by
  have hsub : ((activeCtxs s).map Prod.fst).Sublist (s.shd.slots.map Prod.fst) := by
    unfold activeCtxs
    induction s.shd.slots with
    | nil => exact List.Sublist.refl _
    | cons p l ih =>
      rw [List.filterMap_cons]
      cases p.2.active with
      | none => exact ih.cons _
      | some c => exact ih.cons_cons _
  exact hsub.nodup (keys_nodup_of_sparseWf _ hs)

theorem objClear_completes {s : State} {mb : Nat} (hm : MailOk s) (hs : SlotsOk s) (hr : Runs s mb 0x0403 [])
    (hinj : s.injWaits 15 = false) : Completes (.objClear mb) s fun t =>
      (∀ n c, (s.ctxSlot n).active = some c → (t.ctxSlot n).active = some c
        ∧ (t.ctxSlot n).staged = some ⟨{ c with raw := putAt c.raw 3 (toLe 1 (clearBit (leAt c.raw 3 1) 0)) }, false⟩)
      ∧ (∀ n, (s.ctxSlot n).active = none → t.ctxSlot n = s.ctxSlot n)
      ∧ Answered s t mb 0
        (toLe 2 ((activeCtxs s).countP (fun x => !(x.2.glare s) || s.reg SAFE.STATUS.PATH_STATE == 2))
          ++ toLe 2 ((activeCtxs s).countP (fun x => x.2.glare s && s.reg SAFE.STATUS.PATH_STATE != 2))) := by
  obtain ⟨u, hu⟩ : ∃ u, u = (activeCtxs s).foldl (fun t x => deletionStaged t x.1 x.2) s := ⟨_, rfl⟩
  have hdeferred : (fun x : Nat × Ctx => !deletes s x.2) = fun x => x.2.glare s && s.reg SAFE.STATUS.PATH_STATE != 2 := by
    funext x
    simp [deletes, Bool.not_or, bne]
  have hrun : exec (.objClear mb) s = .next (respond u mb 0
      (toLe 2 ((activeCtxs s).countP (fun x => deletes s x.2)) ++ toLe 2 ((activeCtxs s).countP (fun x => !deletes s x.2)))) := by
    refine congrArg Host.Outcome.next ((command_of_runs hr (objClear mb)).trans ?_)
    rw [objClear, needLen_eq, if_pos (by rfl), foldl_clearContext _ hinj, hu]
    simp only [Nat.zero_add]
  have hmbx : u.mbx = s.mbx := hu ▸ foldl_deletionStaged_mbx _ s
  have hshd (d : List Byte) : (respond u mb 0 d).shd = u.shd := by simp
  refine completes_of hrun ⟨fun n c hactive => ?_, fun n hnone => ?_, ?_⟩
  · unfold State.ctxSlot
    rw [hshd, hu]
    have hslot := foldl_deletionStaged_self (activeCtxs_nodup hs) ((mem_activeCtxs hs).mpr hactive) s
    unfold State.ctxSlot at hslot hactive
    rw [hslot]
    exact ⟨hactive, rfl⟩
  · unfold State.ctxSlot
    rw [hshd, hu]
    refine foldl_deletionStaged_other (fun hmem => ?_) s
    obtain ⟨⟨k, c⟩, hkc, rfl⟩ := List.mem_map.mp hmem
    rw [(mem_activeCtxs hs).mp hkc] at hnone
    cases hnone
  · rw [hdeferred]
    exact ok_of_runs hm hr u hmbx (by simp)

/-! ### The obligation -/

/-- Settles O45: each command of the scene chapter runs on its mailbox and answers; the objects' answers rest on the places of refused
records and on one slot for each context. -/
theorem sceneCommands : Obligations.SceneCommands :=
  ⟨fun _ _ _ hm hr hp hmode hc hgate => setMode_completes hm hr hp hmode hc hgate, fun _ _ hm hr hgate => commit_completes hm hr hgate,
    fun _ _ _ hm hr hp => frameStats_completes hm hr hp,
    fun _ _ _ _ hm hr hp hn hslot hfence hretire halign hrange htop hgate =>
      layerFlip_completes hm hr hp hn hslot hfence hretire halign hrange htop hgate,
    fun _ _ _ hm hr hp hfence hlow hhigh => fenceWait_completes hm hr hp hfence hlow hhigh,
    fun _ _ _ _ _ _ hm hr hn hk hi hp htable hlow hhigh hgate => lutLoad_completes hm hr hn hk hi hp htable hlow hhigh hgate,
    fun _ _ _ hm hs hr hp hwin hsrc htop => videoWindow_completes hm hs hr hp hwin hsrc htop,
    fun _ _ _ _ _ hm hr hn hmax hp hrec => objWrite_completes hm hr hn hmax hp hrec,
    fun _ _ _ hm hr hp hby hkey => objRead_completes hm hr hp hby hkey,
    fun _ _ hm hs hr hinj => objClear_completes hm hs hr hinj⟩

end Sys2Proof.Machine.MailObjects
end

section
/-! PROOF. MailAux: auxiliary values, gamma tables and gates, and the event records, by mailbox (12_mailbox_command_set.md R423, R427;
13_auxiliary_lighting.md R434, R439). -/

namespace Sys2Proof.Machine.MailAux

open KernelMail (command_of_runs refused_of_runs ok_of_runs leAt_lt)

/-! ### Words put one after the other -/

theorem length_wordsAt (p : List Byte) (o n : Nat) : (wordsAt p o n).length = n := by simp [wordsAt]

theorem getD_wordsAt (p : List Byte) (o : Nat) {n i : Nat} (hi : i < n) : (wordsAt p o n).getD i 0 = leAt p (o + 2 * i) 2 := by
  rw [wordsAt, List.getD_eq_getElem?_getD, List.getElem?_map, List.getElem?_range hi]
  rfl

theorem word_mod (p : List Byte) (o : Nat) : leAt p o 2 % 65536 = leAt p o 2 := Nat.mod_eq_of_lt (leAt_lt p o 2)

theorem sparseGet_putValues (l : List Nat) (m : Sparse Nat) (k j : Nat) :
    sparseGet 0 (putValues m k l) j = if k ≤ j ∧ j < k + l.length then l.getD (j - k) 0 % 65536 else sparseGet 0 m j := by
  induction l generalizing m k with
  | nil => exact (if_neg (by simp)).symm
  | cons v l ih =>
    rw [putValues, ih, List.length_cons]
    by_cases hj : j = k
    · subst hj
      rw [if_neg (by omega), if_pos (by omega), sparseGet_set_self, Nat.sub_self]
      rfl
    · by_cases hin : k + 1 ≤ j ∧ j < k + 1 + l.length
      · rw [if_pos hin, if_pos (by omega), show j - k = j - (k + 1) + 1 by omega, List.getD_cons_succ]
      · rw [if_neg hin, if_neg (by omega), sparseGet_set_ne _ _ _ _ _ (Ne.symm hj)]

theorem sparseGet_putGamma (l : List Nat) (m : Sparse Nat) (t i j : Nat) : sparseGet 0 (putGamma m t i l) j
    = if 257 * t + i ≤ j ∧ j < 257 * t + i + l.length
      then (l.getD (j - (257 * t + i)) 0 % 65536) ^^^ gammaIdentity (j - 257 * t) else sparseGet 0 m j := by
  induction l generalizing m i with
  | nil => exact (if_neg (by simp)).symm
  | cons v l ih =>
    rw [putGamma, ih, List.length_cons]
    by_cases hj : j = 257 * t + i
    · subst hj
      rw [if_neg (by omega), if_pos (by omega), sparseGet_set_self, Nat.sub_self, Nat.add_sub_cancel_left]
      rfl
    · by_cases hin : 257 * t + (i + 1) ≤ j ∧ j < 257 * t + (i + 1) + l.length
      · rw [if_pos hin, if_pos (by omega), show j - (257 * t + i) = j - (257 * t + (i + 1)) + 1 by omega, List.getD_cons_succ]
      · rw [if_neg hin, if_neg (by omega), sparseGet_set_ne _ _ _ _ _ (Ne.symm hj)]

/-! ### AUX_SET, AUX_GAMMA and AUX_GATE (R434, R439) -/

section
variable {s : State} {mb : Nat} {p : List Byte} (hm : MailOk s)
include hm

/-- A command that sets the auxiliary state alone. -/
theorem auxSet_answered {op : Nat} (hr : Runs s mb op p) (a : Aux) :
    Answered s (respond { s with aux := a } mb 0 []) mb 0 [] ∧ (respond { s with aux := a } mb 0 []).aux = a :=
  ⟨refused_of_runs hm hr { s with aux := a } rfl (by decide), by simp⟩

theorem auxSet_completes {n k o : Nat} (hr : Runs s mb 0x0B01 p) (hk : k = leAt p 0 1) (ho : o = leAt p 2 2) (hn : n = leAt p 4 1)
    (hp : p.length = 8 + 6 * n) (hport : k ≤ 3) (hlow : 1 ≤ n) (hhigh : n ≤ 40) (hfits : o + n ≤ 256) :
    Completes (.auxSet mb) s fun t => Answered s t mb 0 [] ∧ ∀ k' < 4, ∀ m < 256, ∀ c < 3, auxValue t k' m c
      = if k' = k ∧ o ≤ m ∧ m < o + n then leAt p (8 + 2 * (3 * (m - o) + c)) 2 else auxValue s k' m c := by
  obtain ⟨a, ha⟩ : ∃ a, a = { s.aux with values := putValues s.aux.values (768 * k + 3 * o) (wordsAt p 8 (3 * n)) } := ⟨_, rfl⟩
  have hrun : exec (.auxSet mb) s = .next (respond { s with aux := a } mb 0 []) := by
    subst ha hk ho hn
    refine congrArg Host.Outcome.next ((command_of_runs hr (auxSet mb)).trans ((if_pos (by simp [hp])).trans ?_))
    exact if_neg (by omega)
  obtain ⟨hans, haux⟩ := auxSet_answered hm hr a
  refine completes_of hrun ⟨hans, fun k' hk' m hm' c hc => ?_⟩
  unfold auxValue
  rw [haux, ha]
  refine (sparseGet_putValues _ _ _ _).trans ?_
  rw [length_wordsAt]
  by_cases hin : k' = k ∧ o ≤ m ∧ m < o + n
  · rw [if_pos (by omega), if_pos hin, getD_wordsAt p 8 (by omega), word_mod,
      show 768 * k' + 3 * m + c - (768 * k + 3 * o) = 3 * (m - o) + c by omega]
  · rw [if_neg (by omega), if_neg hin]

theorem auxGamma_completes {n g i : Nat} (hr : Runs s mb 0x0B03 p) (hg : g = leAt p 0 1) (hi : i = leAt p 2 2) (hn : n = leAt p 4 2)
    (hp : p.length = 8 + 2 * n) (htable : g ≤ 3) (hlow : 1 ≤ n) (hhigh : n ≤ 120) (hfits : i + n ≤ 257) :
    Completes (.auxGamma mb) s fun t => Answered s t mb 0 [] ∧ ∀ g' < 4, ∀ j < 257, gammaEntry t g' j
      = if g' = g ∧ i ≤ j ∧ j < i + n then leAt p (8 + 2 * (j - i)) 2 else gammaEntry s g' j := by
  obtain ⟨a, ha⟩ : ∃ a, a = { s.aux with gamma := putGamma s.aux.gamma g i (wordsAt p 8 n) } := ⟨_, rfl⟩
  have hrun : exec (.auxGamma mb) s = .next (respond { s with aux := a } mb 0 []) := by
    subst ha hg hi hn
    refine congrArg Host.Outcome.next ((command_of_runs hr (auxGamma mb)).trans ((if_pos (by simp [hp])).trans ?_))
    exact if_neg (by omega)
  obtain ⟨hans, haux⟩ := auxSet_answered hm hr a
  refine completes_of hrun ⟨hans, fun g' hg' j hj => ?_⟩
  unfold gammaEntry
  rw [haux, ha]
  simp only [sparseGet_putGamma, length_wordsAt]
  by_cases hin : g' = g ∧ i ≤ j ∧ j < i + n
  · obtain ⟨rfl, hij, hjn⟩ := hin
    rw [if_pos (by omega), if_pos ⟨rfl, hij, hjn⟩, Nat.add_sub_cancel_left, Nat.xor_assoc, Nat.xor_self, Nat.xor_zero,
      show 257 * g' + j - (257 * g' + i) = j - i by omega, getD_wordsAt p 8 (by omega), word_mod]
  · rw [if_neg (by omega), if_neg hin]

theorem auxGate_completes {n : Nat} (hr : Runs s mb 0x0B04 p) (hp : p.length = 6) (hn : n = leAt p 0 1) (hgate : n ≤ 5) :
    Completes (.auxGate mb) s fun t =>
      (leAt p 4 2 < 100 ∨ 20000 < leAt p 4 2 → Answered s t mb 4 [] ∧ t.aux = s.aux)
      ∧ (100 ≤ leAt p 4 2 → leAt p 4 2 ≤ 20000 → Answered s t mb 0 []
        ∧ ∀ k g, s.aux.gates[k]? = some g
          → t.aux.gates[k]? = some (if k = n then { g with duty := leAt p 2 2, freq := leAt p 4 2 } else g)) := by
  obtain ⟨a, ha⟩ : ∃ a, a = { s.aux with gates := s.aux.gates.mapIdx (fun k (g : AuxGate) =>
      if k = n then { g with duty := leAt p 2 2, freq := leAt p 4 2 } else g) } := ⟨_, rfl⟩
  have hrun : exec (.auxGate mb) s = .next (if 5 < n ∨ leAt p 4 2 < 100 ∨ 20000 < leAt p 4 2 then respond s mb 4 []
      else respond { s with aux := a } mb 0 []) := by
    subst ha hn
    exact congrArg Host.Outcome.next ((command_of_runs hr (auxGate mb)).trans (if_pos (by simp [hp])))
  obtain ⟨hans, haux⟩ := auxSet_answered hm hr a
  refine completes_of hrun ⟨fun hbad => ?_, fun hlow hhigh => ?_⟩
  · rw [if_pos (.inr hbad)]
    exact ⟨refused_of_runs hm hr s rfl (by decide), by simp⟩
  · rw [if_neg (by omega)]
    refine ⟨hans, fun k g hg => ?_⟩
    rw [haux, ha]
    simp [List.getElem?_mapIdx, hg]

end

/-! ### EVENTS_READ and EVENTS_HISTORY (R427) -/

theorem length_eventBytes (e : EventRec) : (eventBytes e).length = 32 := by simp [eventBytes]

theorem length_eventData (l : List EventRec) : (eventData l).length = 8 + 32 * l.length := by
  simp [eventData, List.length_flatMap, length_eventBytes, Nat.mul_comm]
  omega

theorem dropEvents_queue (s : State) (n : Nat) :
    (dropEvents s n).evt.queue = s.evt.queue.drop n ∧ (dropEvents s n).evt.history = s.evt.history := by
  unfold dropEvents
  dsimp only
  split
  · simp
  · exact ⟨rfl, rfl⟩

section
variable {s : State} {mb n : Nat} {p : List Byte} (hm : MailOk s)
include hm

theorem eventsRead_completes (hr : Runs s mb 0x0C01 p) (hp : p.length = 1) (hn : n = leAt p 0 1) (hlow : 1 ≤ n) (hhigh : n ≤ 7) :
    Completes (.eventsRead mb) s fun t => t.evt.queue = s.evt.queue.drop n ∧ t.evt.history = s.evt.history
      ∧ Answered s t mb 0 (toLe 1 (min n s.evt.queue.length) ++ List.replicate 7 0 ++ (s.evt.queue.take n).flatMap eventBytes) := by
  obtain ⟨u, hu⟩ : ∃ u, u = if s.evt.queue.take n = [] then s else dropEvents s (s.evt.queue.take n).length := ⟨_, rfl⟩
  have hrun : exec (.eventsRead mb) s = .next (respond u mb 0 (eventData (s.evt.queue.take n))) := by
    subst hu hn
    refine congrArg Host.Outcome.next ((command_of_runs hr (eventsRead mb)).trans ((if_pos (by simp [hp])).trans ?_))
    exact if_neg (by omega)
  have hqueue : u.evt.queue = s.evt.queue.drop n ∧ u.evt.history = s.evt.history := by
    rw [hu]
    split
    · next hempty =>
      have hnil : s.evt.queue = [] := by
        rcases List.take_eq_nil_iff.mp hempty with h | h
        · omega
        · exact h
      rw [hnil, List.drop_nil]
      exact ⟨rfl, rfl⟩
    · obtain ⟨hq, hh⟩ := dropEvents_queue s (s.evt.queue.take n).length
      refine ⟨?_, hh⟩
      rw [hq, List.length_take]
      rcases Nat.le_total n s.evt.queue.length with h | h
      · rw [Nat.min_eq_left h]
      · rw [Nat.min_eq_right h, List.drop_length, List.drop_eq_nil_of_le h]
  have hmbx : u.mbx = s.mbx := by
    rw [hu]
    split <;> simp
  have hlength : (s.evt.queue.take n).length = min n s.evt.queue.length := List.length_take
  refine completes_of hrun ⟨by simpa using hqueue.1, by simpa using hqueue.2, ?_⟩
  rw [← hlength]
  exact ok_of_runs hm hr u hmbx (by rw [length_eventData]; omega)

theorem eventsHistory_completes (hr : Runs s mb 0x0C02 p) (hp : p.length = 5) (hn : n = leAt p 4 1) (hlow : 1 ≤ n) (hhigh : n ≤ 7) :
    Completes (.eventsHistory mb) s fun t =>
      t.evt = s.evt
      ∧ (∀ e l, s.evt.history = e :: l → e.eseq < 2 ^ 32 →
          (BitVec.ofNat 32 (leAt p 0 4) - BitVec.ofNat 32 e.eseq).toInt < 0 → Answered s t mb 0x0F [])
      ∧ (eseqGone s (leAt p 0 4) = false →
        Answered s t mb 0 (eventData ((s.evt.history.filter (fun e => eseqAtOrAbove e.eseq (leAt p 0 4))).take n))) := by
  have hrun : exec (.eventsHistory mb) s = .next (if eseqGone s (leAt p 0 4) then respond s mb 0x0F []
      else respond s mb 0 (eventData ((s.evt.history.filter (fun e => eseqAtOrAbove e.eseq (leAt p 0 4))).take n))) := by
    subst hn
    refine congrArg Host.Outcome.next ((command_of_runs hr (eventsHistory mb)).trans ((if_pos (by simp [hp])).trans ?_))
    exact if_neg (by omega)
  refine completes_of hrun ⟨by split <;> simp, fun e l hhist he hneg => ?_, fun hhere => ?_⟩
  · have hgone : eseqGone s (leAt p 0 4) = true := by
      have hq := leAt_lt p 0 4
      have hdiff : (BitVec.ofNat 32 (leAt p 0 4) - BitVec.ofNat 32 e.eseq).toNat = (leAt p 0 4 + 2 ^ 32 - e.eseq) % 2 ^ 32 := by
        rw [BitVec.toNat_sub, BitVec.toNat_ofNat, BitVec.toNat_ofNat]
        omega
      rw [BitVec.toInt_eq_toNat_cond, hdiff] at hneg
      simp only [eseqGone, eseqAtOrAbove, hhist, List.head?_cons, Option.map_some, Option.getD_some, Bool.not_eq_true',
        decide_eq_false_iff_not]
      split at hneg <;> omega
    rw [if_pos hgone]
    exact refused_of_runs hm hr s rfl (by decide)
  · rw [if_neg (by simp [hhere])]
    refine ok_of_runs hm hr s rfl ?_
    rw [length_eventData, List.length_take]
    omega

end

end Sys2Proof.Machine.MailAux
end

section
/-! PROOF. MailFlash: the boot flash and its directory by mailbox (12_mailbox_command_set.md R423; 11_host_and_side_ports.md R403,
R404). -/

namespace Sys2Proof.Machine.MailFlash

open KernelMail (command_of_runs refused_of_runs ok_of_runs leAt_lt leAt_middle getD_bytesAt flashByte_of_flash flashBytes_of_flash)

/-! ### Bytes put into a list -/

section
variable (l v : List Byte) {o : Nat}

theorem length_putAt (ho : o ≤ l.length) : (putAt l o v).length = max l.length (o + v.length) := by
  simp only [putAt, List.length_append, List.length_take, List.length_drop]
  omega

theorem bytesAt_congr {l m : List Byte} {o n : Nat} (h : ∀ i < n, l.getD (o + i) 0 = m.getD (o + i) 0) :
    bytesAt l o n = bytesAt m o n := List.map_congr_left fun i hi => h i (List.mem_range.mp hi)

theorem getD_putAt_in (ho : o ≤ l.length) {i : Nat} (hi : i < v.length) : (putAt l o v).getD (o + i) 0 = v.getD i 0 := by
  have hlen : (l.take o).length = o := by rw [List.length_take]; omega
  rw [putAt, List.append_assoc, List.getD_append_right _ _ _ _ (by omega), hlen, Nat.add_sub_cancel_left,
    List.getD_append _ _ _ _ hi]

theorem getD_putAt_out (ho : o ≤ l.length) {i : Nat} (hi : i < o ∨ o + v.length ≤ i) : (putAt l o v).getD i 0 = l.getD i 0 := by
  have hlen : (l.take o).length = o := by rw [List.length_take]; omega
  rw [putAt, List.append_assoc]
  rcases hi with hi | hi
  · rw [List.getD_append _ _ _ _ (by omega), List.getD_eq_getElem?_getD, List.getElem?_take_of_lt hi, ← List.getD_eq_getElem?_getD]
  · rw [List.getD_append_right _ _ _ _ (by omega), hlen, List.getD_append_right _ _ _ _ (by omega), List.getD_eq_getElem?_getD,
      List.getElem?_drop, ← List.getD_eq_getElem?_getD, show o + v.length + (i - o - v.length) = i by omega]

theorem bytesAt_putAt (ho : o ≤ l.length) : bytesAt (putAt l o v) o v.length = v := by
  refine List.ext_getElem (by simp) fun i hi _ => ?_
  have hv : i < v.length := by simpa using hi
  have hread := getD_bytesAt (putAt l o v) (o := o) hv
  rw [getD_putAt_in l v ho hv, List.getD_eq_getElem _ _ hi, List.getD_eq_getElem _ _ hv] at hread
  exact hread

theorem leAt_putAt (ho : o ≤ l.length) (k x : Nat) : leAt (putAt l o (toLe k x)) o k = x % 256 ^ k := by
  have hbytes := bytesAt_putAt l (toLe k x) ho
  rw [length_toLe] at hbytes
  rw [leAt, hbytes, ofLe_toLe]

theorem bytesAt_putAt_out (ho : o ≤ l.length) {a n : Nat} (h : a + n ≤ o ∨ o + v.length ≤ a) :
    bytesAt (putAt l o v) a n = bytesAt l a n :=
  bytesAt_congr fun i hi => getD_putAt_out l v ho (by omega)

end

/-! ### Writes of the flash (R404) -/

section
variable (s : State) (a : Nat) (v : List Byte)

theorem flashPut_flashBytes : (s.flashPut a v).flashBytes a v.length = v := by
  refine List.ext_getElem (by simp [State.flashBytes]) fun i hi hv => ?_
  simp [State.flashBytes, flashByte_flashPut s a v i hv]

theorem flashPut_flashBytes_out {b n : Nat} (h : b + n ≤ a ∨ a + v.length ≤ b) : (s.flashPut a v).flashBytes b n = s.flashBytes b n :=
  List.map_congr_left fun i hi => flashByte_flashPut_ne s a v _ (by have := List.mem_range.mp hi; omega)

theorem flashTry_out (ok : Bool) {x : Nat} (hx : x < a ∨ a + v.length ≤ x) : (flashTry s a v ok).flashByte x = s.flashByte x := by
  unfold flashTry
  split
  · exact flashByte_flashPut_ne s a v x hx
  · exact flashByte_flashPut_ne s a _ x (by simpa using hx)

theorem flashTry_mbx (ok : Bool) : (flashTry s a v ok).mbx = s.mbx := by
  unfold flashTry
  split <;> rfl

end

section
variable {s : State} {mb : Nat} {p : List Byte} (hm : MailOk s)

theorem respond_flash (s : State) (mb status : Nat) (data : List Byte) : (respond s mb status data).flash = s.flash := by simp

include hm

/-- A write of the flash answered: it changed its range alone, and holds what was written when it verifies. -/
theorem flashTry_answered {op : Nat} (hr : Runs s mb op p) (ok : Bool) (a : Nat) (v : List Byte) {t : State}
    (ht : t = respond (flashTry s a v ok) mb (if ok then 0 else 0x0B) []) :
    Answered s t mb (if ok then 0 else 0x0B) [] ∧ (∀ x, x < a ∨ a + v.length ≤ x → t.flashByte x = s.flashByte x)
    ∧ (ok = true → t.flashBytes a v.length = v) := by
  have hflash : t.flash = (flashTry s a v ok).flash := ht ▸ respond_flash _ _ _ _
  refine ⟨ht ▸ refused_of_runs hm hr _ (flashTry_mbx s a v ok) (by split <;> decide), fun x hx => ?_, fun hok => ?_⟩
  · rw [flashByte_of_flash hflash, flashTry_out s a v ok hx]
  · rw [flashBytes_of_flash hflash, flashTry, if_pos hok, flashPut_flashBytes]

theorem flashWrite_completes {ok : Bool} {a n : Nat} (hr : Runs s mb 0x0D01 p) (ha : a = leAt p 0 4) (hn : n = leAt p 4 2)
    (hp : p.length = 8 + n) (hlow : 1 ≤ n) (hhigh : n ≤ 224) : Completes (.flashWrite mb ok) s fun t =>
      (flashBarred s a n = true → Answered s t mb 7 [] ∧ t.flash = s.flash)
      ∧ (flashBarred s a n = false → Answered s t mb (if ok then 0 else 0x0B) []
        ∧ (∀ x, x < a ∨ a + n ≤ x → t.flashByte x = s.flashByte x)
        ∧ (ok = true → t.flashBytes a n = bytesAt p 8 n)) := by
  have hrun : exec (.flashWrite mb ok) s = .next (if flashBarred s a n then respond s mb 7 []
      else respond (flashTry s a (bytesAt p 8 n) ok) mb (if ok then 0 else 0x0B) []) := by
    subst ha hn
    refine congrArg Host.Outcome.next ((command_of_runs hr (flashWrite mb ok)).trans ((if_pos (by simp [hp])).trans ?_))
    exact if_neg (by omega)
  refine completes_of hrun ⟨fun hbarred => ?_, fun hfree => ?_⟩
  · rw [if_pos hbarred]
    exact ⟨refused_of_runs hm hr s rfl (by decide), respond_flash _ _ _ _⟩
  · rw [if_neg (by simp [hfree])]
    obtain ⟨hans, hout, hin⟩ := flashTry_answered hm hr ok a (bytesAt p 8 n) rfl
    rw [length_bytesAt] at hout hin
    exact ⟨hans, hout, hin⟩

theorem flashErase_completes {ok : Bool} {a n : Nat} (hr : Runs s mb 0x0D02 p) (hp : p.length = 6)
    (ha : a = leAt p 0 4 / Config.flashSector * Config.flashSector) (hn : n = leAt p 4 2 * Config.flashSector) :
    Completes (.flashErase mb ok) s fun t =>
      (flashBarred s a n = true → Answered s t mb 7 [] ∧ t.flash = s.flash)
      ∧ (flashBarred s a n = false → Answered s t mb (if ok then 0 else 0x0B) []
        ∧ (∀ x, x < a ∨ a + n ≤ x → t.flashByte x = s.flashByte x)
        ∧ (ok = true → ∀ x, a ≤ x → x < a + n → t.flashByte x = 0xFF)) := by
  have hrun : exec (.flashErase mb ok) s = .next (if flashBarred s a n then respond s mb 7 []
      else respond (flashTry s a (List.replicate n 0xFF) ok) mb (if ok then 0 else 0x0B) []) := by
    subst ha hn
    exact congrArg Host.Outcome.next ((command_of_runs hr (flashErase mb ok)).trans (if_pos (by simp [hp])))
  refine completes_of hrun ⟨fun hbarred => ?_, fun hfree => ?_⟩
  · rw [if_pos hbarred]
    exact ⟨refused_of_runs hm hr s rfl (by decide), respond_flash _ _ _ _⟩
  · rw [if_neg (by simp [hfree])]
    obtain ⟨hans, hout, hin⟩ := flashTry_answered hm hr ok a (List.replicate n 0xFF) rfl
    rw [List.length_replicate] at hout hin
    refine ⟨hans, hout, fun hok x hlow hhigh => ?_⟩
    have hbyte := congrArg (fun l => l.getD (x - a) 0) (hin hok)
    simpa [State.flashBytes, show x - a < n by omega, Nat.add_sub_cancel' hlow] using hbyte

end

/-! ### SLOT_SELECT (R403, R580) -/

theorem leAt_take (l : List Byte) {n o k : Nat} (h : o + k ≤ n) : leAt (l.take n) o k = leAt l o k := by
  have hbytes : bytesAt (l.take n) o k = bytesAt l o k := bytesAt_congr fun i hi => by
    rw [List.getD_eq_getElem?_getD, List.getElem?_take_of_lt (by omega), ← List.getD_eq_getElem?_getD]
  rw [leAt, hbytes, leAt]

theorem flashBytes_take (s : State) (a : Nat) {n m : Nat} (h : n ≤ m) : s.flashBytes a n = (s.flashBytes a m).take n := by
  rw [State.flashBytes, State.flashBytes, ← List.map_take, List.take_range, Nat.min_eq_left h]

/-- The directory at `a` with its slot preference replaced, before its check is. -/
def preferring (s : State) (a : Nat) (b : Bool) : List Byte :=
  putAt (s.flashBytes a 64) 4 (toLe 4 (clearBit (leAt (s.flashBytes a 64) 4 4) 16 + b2n b * 2 ^ 16))

section
variable (s : State) (a : Nat) (b : Bool)

theorem length_preferring : (preferring s a b).length = 64 := by
  rw [preferring, length_putAt _ _ (by simp [State.flashBytes])]
  simp [State.flashBytes]

theorem directoryWith_eq : directoryWith s a b
    = putAt (preferring s a b) 0x20 (toLe 4 (crc32c 0 ((preferring s a b).take 0x20)).toNat) := rfl

theorem length_directoryWith : (directoryWith s a b).length = 64 := by
  rw [directoryWith_eq, length_putAt _ _ (by rw [length_preferring]; omega), length_preferring, length_toLe]
  rfl

theorem directoryWith_magic : leAt (directoryWith s a b) 0 4 = leAt (s.flashBytes a 64) 0 4 := by
  rw [directoryWith_eq, leAt, bytesAt_putAt_out _ _ (by rw [length_preferring]; omega) (.inl (by omega)), preferring,
    bytesAt_putAt_out _ _ (by simp [State.flashBytes]) (.inl (by omega)), leAt]

theorem directoryWith_prefer : bit (leAt (directoryWith s a b) 4 4) 16 = b := by
  have hword : leAt (directoryWith s a b) 4 4 = (clearBit (leAt (s.flashBytes a 64) 4 4) 16 + b2n b * 2 ^ 16) % 2 ^ 32 := by
    rw [directoryWith_eq, leAt, bytesAt_putAt_out _ _ (by rw [length_preferring]; omega) (.inl (by omega)), ← leAt, preferring,
      leAt_putAt _ (by simp [State.flashBytes]), (by norm_num : 256 ^ 4 = 2 ^ 32)]
  have hclear : (clearBit (leAt (s.flashBytes a 64) 4 4) 16).testBit 16 = false := by
    have hbit := EngineLoss.bit_clearBit (leAt (s.flashBytes a 64) 4 4) 16 16
    simpa [bit] using hbit
  rw [hword, bit, Nat.testBit_mod_two_pow, decide_eq_true (by decide : 16 < 32), Bool.true_and]
  cases b with
  | false => simpa [b2n] using hclear
  | true => rw [b2n, if_pos rfl, Nat.one_mul, Nat.add_comm, Nat.testBit_two_pow_add_eq, hclear]; rfl

theorem directoryWith_check : leAt (directoryWith s a b) 0x20 4 = (crc32c 0 ((directoryWith s a b).take 0x20)).toNat := by
  have hlen : ((preferring s a b).take 0x20).length = 0x20 := by rw [List.length_take, length_preferring]; rfl
  have htake : (directoryWith s a b).take 0x20 = (preferring s a b).take 0x20 := by
    rw [directoryWith_eq, putAt, List.append_assoc]
    exact List.take_left' hlen
  rw [htake, directoryWith_eq, leAt_putAt _ (by rw [length_preferring]; omega)]
  exact Nat.mod_eq_of_lt (crc32c 0 ((preferring s a b).take 0x20)).isLt

end

/-- A good directory with its preference replaced is good where it is written. -/
theorem dirOk_written {s t : State} {a d : Nat} {b : Bool} (hd : dirOk s d = true)
    (ht : t.flashBytes a 64 = directoryWith s d b) : dirOk t a = true := by
  have hmagic : leAt (s.flashBytes d 0x24) 0 4 = 0x4C424C41 := by
    have hboth := (Bool.and_eq_true _ _).mp hd
    simpa using hboth.1
  rw [flashBytes_take s d (by omega : 0x24 ≤ 64), leAt_take _ (by omega)] at hmagic
  unfold dirOk
  dsimp only
  rw [flashBytes_take t a (by omega : 0x24 ≤ 64), ht, leAt_take _ (by omega), leAt_take _ (by omega), List.take_take,
    directoryWith_magic, hmagic, directoryWith_check]
  simp

theorem directory_ok {s : State} {d : Nat} (h : directory s = some d) : dirOk s d = true := by
  unfold directory at h
  split at h
  · next hok => cases h; exact hok
  · split at h
    · next hok => cases h; exact hok
    · cases h

theorem slotSelect_completes {s : State} {mb d : Nat} {p : List Byte} {signed ok : Bool} (hm : MailOk s) (hr : Runs s mb 0x0D03 p)
    (hp : p.length = 1) (hslot : leAt p 0 1 ≤ 1) (hd : directory s = some d) : Completes (.slotSelect mb signed ok) s fun t =>
      (signed = false → Answered s t mb 0x0D [] ∧ t.flash = s.flash)
      ∧ (signed = true → ok = false → Answered s t mb 0x0B []
        ∧ ∀ x, x < dirCopy ∨ dirCopy + 64 ≤ x → t.flashByte x = s.flashByte x)
      ∧ (signed = true → ok = true → Answered s t mb 0 []
        ∧ t.flashBytes dirPrimary 64 = directoryWith s d (leAt p 0 1 == 1)
        ∧ t.flashBytes dirCopy 64 = directoryWith s d (leAt p 0 1 == 1)
        ∧ bit (leAt (t.flashBytes dirPrimary 64) 4 4) 16 = decide (leAt p 0 1 = 1)
        ∧ dirOk t dirPrimary = true) := by
  obtain ⟨v, hv⟩ : ∃ v, v = directoryWith s d (leAt p 0 1 == 1) := ⟨_, rfl⟩
  have hlength : v.length = 64 := hv ▸ length_directoryWith _ _ _
  have hrun : exec (.slotSelect mb signed ok) s = .next (if signed = false then respond s mb 0x0D []
      else if ok then respond ((s.flashPut dirCopy v).flashPut dirPrimary v) mb 0 []
      else respond (flashTry s dirCopy v false) mb 0x0B []) := by
    subst hv
    refine congrArg Host.Outcome.next ((command_of_runs hr (slotSelect mb signed ok)).trans ((if_pos (by simp [hp])).trans ?_))
    rw [if_neg (by omega), hd]
  refine completes_of hrun ⟨fun hunsigned => ?_, fun hsigned hbad => ?_, fun hsigned hgood => ?_⟩
  · rw [if_pos hunsigned]
    exact ⟨refused_of_runs hm hr s rfl (by decide), respond_flash _ _ _ _⟩
  · rw [if_neg (by simp [hsigned]), if_neg (by simp [hbad])]
    obtain ⟨hans, hout, -⟩ := flashTry_answered hm hr false dirCopy v rfl
    rw [hlength] at hout
    exact ⟨hans, hout⟩
  · rw [if_neg (by simp [hsigned]), if_pos hgood]
    have hfl := respond_flash ((s.flashPut dirCopy v).flashPut dirPrimary v) mb 0 []
    have hprimary := flashPut_flashBytes (s.flashPut dirCopy v) dirPrimary v
    have hcopy := flashPut_flashBytes s dirCopy v
    rw [← flashPut_flashBytes_out (s.flashPut dirCopy v) dirPrimary v (.inr (by rw [hlength]; decide))] at hcopy
    rw [hlength] at hprimary hcopy
    rw [flashBytes_of_flash hfl, flashBytes_of_flash hfl, hprimary, hcopy]
    refine ⟨refused_of_runs hm hr _ (by simp) (by decide), hv, hv, ?_, ?_⟩
    · rw [hv, directoryWith_prefer]
      rfl
    · exact dirOk_written (directory_ok hd) ((flashBytes_of_flash hfl _ _).trans (hprimary.trans hv))

end Sys2Proof.Machine.MailFlash
end

section
/-! PROOF. MailRecords: configuration records by mailbox (12_mailbox_command_set.md R423; 16_memory.md R512, R518, R520). -/

namespace Sys2Proof.Machine.MailRecords

open KernelMail (command_of_runs refused_of_runs ok_of_runs leAt_lt)
open MailFlash (length_putAt bytesAt_putAt getD_putAt_out flashWrite_completes flashErase_completes slotSelect_completes)
open MailAux (auxSet_completes auxGamma_completes auxGate_completes eventsRead_completes eventsHistory_completes)
open PixelMapCommands (committed_of_mram)

/-! ### Payloads (R520) -/

section
variable (f : Nat) (b v : List Byte) (o : Nat)

/-- A payload filled up to an offset. -/
def filledTo : List Byte := b ++ (List.range (o - b.length)).map (Config.recGap f)

theorem length_filledTo : (filledTo f b o).length = max b.length o := by
  simp only [filledTo, List.length_append, List.length_map, List.length_range]
  omega

theorem cfgPayload_eq : cfgPayload f b o v = putAt (filledTo f b o) o v := rfl

theorem length_cfgPayload : (cfgPayload f b o v).length = max b.length (o + v.length) := by
  rw [cfgPayload_eq, length_putAt _ _ (by rw [length_filledTo]; omega), length_filledTo]
  omega

theorem bytesAt_cfgPayload : bytesAt (cfgPayload f b o v) o v.length = v := by
  rw [cfgPayload_eq, bytesAt_putAt _ _ (by rw [length_filledTo]; omega)]

theorem getD_cfgPayload {i : Nat} (hi : i < b.length) (hout : i < o ∨ o + v.length ≤ i) :
    (cfgPayload f b o v).getD i 0 = b.getD i 0 := by
  rw [cfgPayload_eq, getD_putAt_out _ _ (by rw [length_filledTo]; omega) hout, filledTo, List.getD_append _ _ _ _ hi]

end

/-! ### CFG_READ and CFG_WRITE (R518, R520) -/

section
variable {s : State} {mb num o n : Nat} {p : List Byte} (hm : MailOk s)
include hm

theorem cfgRead_completes (hr : Runs s mb 0x0D04 p) (hp : p.length = 8) (hnum : num = leAt p 0 2) (ho : o = leAt p 2 2)
    (hn : n = leAt p 4 1) (hlow : 1 ≤ n) (hhigh : n ≤ 240) : Completes (.cfgRead mb) s fun t =>
      (num ∉ recNums → Answered s t mb 0x0F [])
      ∧ (num ∈ recNums → o + n ≤ (payloadOf s num).2.length →
        Answered s t mb 0 (toLe 4 (payloadOf s num).1 ++ [0, 0, 0, 0] ++ bytesAt (payloadOf s num).2 o n)) := by
  have hrun : exec (.cfgRead mb) s = .next (if num ∉ recNums then respond s mb 0x0F []
      else if (payloadOf s num).2.length < o + n then respond s mb 4 []
      else respond s mb 0 (toLe 4 (payloadOf s num).1 ++ [0, 0, 0, 0] ++ bytesAt (payloadOf s num).2 o n)) := by
    subst hnum ho hn
    refine congrArg Host.Outcome.next ((command_of_runs hr (cfgRead mb)).trans ((if_pos (by simp [hp])).trans ?_))
    exact if_neg (by omega)
  refine completes_of hrun ⟨fun hno => ?_, fun hyes hfits => ?_⟩
  · rw [if_pos hno]
    exact refused_of_runs hm hr s rfl (by decide)
  · rw [if_neg (not_not.mpr hyes), if_neg (by omega)]
    exact ok_of_runs hm hr s rfl (by simp; omega)

omit hm in
/-- The copy that a commit leaves when its check fails is not valid (R512). -/
theorem recOf_unverified {t : State} {data : List Byte} (ht : t.mram = (commitRecord s num data false).mram) :
    recOf t num = if (nextCopy (recOf s num)).1 = 0 then { recOf s num with a := none } else { recOf s num with b := none } := by
  have hrec : recOf t num = sparseGet ⟨none, none⟩ t.mram.recs num := rfl
  rw [hrec, ht]
  exact sparseGet_set_self _ _ _ _

theorem cfgWrite_completes {ok : Bool} {m : Nat} (hr : Runs s mb 0x0D05 p) (hnum : num = leAt p 0 2) (ho : o = leAt p 2 2)
    (hn : n = leAt p 4 1) (hp : p.length = 8 + n) (hmax : cfgMax num = some m) (hlow : 1 ≤ n) (hhigh : n ≤ 224) (hfits : o + n ≤ m) :
    Completes (.cfgWrite mb ok) s fun t =>
      (s.flag SAFE.FB_CAUSE.SOFT_STOP = true → Answered s t mb 7 [] ∧ t.mram = s.mram)
      ∧ (s.flag SAFE.FB_CAUSE.SOFT_STOP = false → allowance s num = 0 →
        Answered s t mb 8 [] ∧ t.flag MRAM.STATUS.WEAR_HOLD = true ∧ t.mram = s.mram)
      ∧ (s.flag SAFE.FB_CAUSE.SOFT_STOP = false → 0 < allowance s num →
        (ok = true → Answered s t mb 0 (toLe 4 (nextCopy (recOf s num)).2) ∧ ∃ data, Committed s t num data
          ∧ bytesAt data o n = bytesAt p 8 n ∧ data.length = max (payloadOf s num).2.length (o + n)
          ∧ ∀ i, i < (payloadOf s num).2.length → i < o ∨ o + n ≤ i → data.getD i 0 = (payloadOf s num).2.getD i 0)
        ∧ (ok = false → Answered s t mb 0x0B []
          ∧ recOf t num = if (nextCopy (recOf s num)).1 = 0 then { recOf s num with a := none } else { recOf s num with b := none })) := by
  obtain ⟨v, hv⟩ : ∃ v, v = bytesAt p 8 n := ⟨_, rfl⟩
  have hvlen : v.length = n := by rw [hv, length_bytesAt]
  obtain ⟨data, hdata⟩ : ∃ data, data = cfgPayload s.free (payloadOf s num).2 o v := ⟨_, rfl⟩
  have hrun : exec (.cfgWrite mb ok) s = .next (if s.flag SAFE.FB_CAUSE.SOFT_STOP then respond s mb 7 []
      else if allowance s num = 0 then respond (s.setFlag MRAM.STATUS.WEAR_HOLD true) mb 8 []
      else if ok then respond (commitRecord s num data true).tookFree mb 0 (toLe 4 (nextCopy (recOf s num)).2)
      else respond (commitRecord s num data false).tookFree mb 0x0B []) := by
    subst hdata hv hnum ho hn
    refine congrArg Host.Outcome.next ((command_of_runs hr (cfgWrite mb ok)).trans ((if_pos (by simp [hp])).trans ?_))
    rw [hmax]
    dsimp only
    rw [if_neg (by omega)]
    cases ok <;> rfl
  have hmram (u : State) (status : Nat) (d : List Byte) : (respond u mb status d).mram = u.mram := by simp
  refine completes_of hrun ⟨fun hsoft => ?_, fun hsoft hworn => ?_, fun hsoft hroom => ⟨fun hok => ?_, fun hok => ?_⟩⟩
  · rw [if_pos hsoft]
    exact ⟨refused_of_runs hm hr s rfl (by decide), hmram s _ _⟩
  · rw [if_neg (by simp [hsoft]), if_pos hworn]
    refine ⟨refused_of_runs hm hr _ (by rfl) (by decide), ?_, hmram _ _ _⟩
    exact (flag_of_regs _ (MailScene.respond_regs _ _ _ _)).trans (flag_setFlag_self _ _ _ (by decide) (by decide))
  · rw [if_neg (by simp [hsoft]), if_neg (by omega), if_pos hok]
    refine ⟨ok_of_runs hm hr _ (by simp) (by simp), data, committed_of_mram rfl (hmram _ _ _), ?_, ?_, fun i hi hout => ?_⟩
    · rw [hdata, ← hv]
      simpa only [hvlen] using bytesAt_cfgPayload s.free (payloadOf s num).2 v o
    · rw [hdata, length_cfgPayload, hvlen]
    · rw [hdata]
      exact getD_cfgPayload _ _ _ _ hi (by rw [hvlen]; exact hout)
  · rw [if_neg (by simp [hsoft]), if_neg (by omega), if_neg (by simp [hok])]
    exact ⟨refused_of_runs hm hr _ (by simp) (by decide), recOf_unverified (hmram _ _ _)⟩

end

/-! ### The obligation -/

/-- Settles O49: each command runs on its mailbox and answers; its effect is that of the bytes, values or records it puts. -/
theorem auxEventAndRecordCommands : Obligations.AuxEventAndRecordCommands :=
  ⟨fun _ _ _ _ _ _ hm hr hk ho hn hp hport hlow hhigh hfits => auxSet_completes hm hr hk ho hn hp hport hlow hhigh hfits,
    fun _ _ _ _ _ _ hm hr hg hi hn hp htable hlow hhigh hfits => auxGamma_completes hm hr hg hi hn hp htable hlow hhigh hfits,
    fun _ _ _ _ hm _ hr hp hn hgate => auxGate_completes hm hr hp hn hgate,
    fun _ _ _ _ hm hr hp hn hlow hhigh => eventsRead_completes hm hr hp hn hlow hhigh,
    fun _ _ _ _ hm hr hp hn hlow hhigh => eventsHistory_completes hm hr hp hn hlow hhigh,
    fun _ _ _ _ _ _ hm hr ha hn hp hlow hhigh => flashWrite_completes hm hr ha hn hp hlow hhigh,
    fun _ _ _ _ _ _ hm hr hp ha hn => flashErase_completes hm hr hp ha hn,
    fun _ _ _ _ _ _ hm hr hp hslot hd => slotSelect_completes hm hr hp hslot hd,
    fun _ _ _ _ _ _ hm hr hp hnum ho hn hlow hhigh => cfgRead_completes hm hr hp hnum ho hn hlow hhigh,
    fun _ _ _ _ _ _ _ _ hm hr hnum ho hn hp hmax hlow hhigh hfits =>
      cfgWrite_completes hm hr hnum ho hn hp hmax hlow hhigh hfits⟩

end Sys2Proof.Machine.MailRecords
end

section
/-! PROOF. AuxLighting: pattern settings, port frames, gate periods and the enable of the auxiliary outputs (13_auxiliary_lighting.md R430,
R433, R435, R436, R439, R441). -/

namespace Sys2Proof.Machine.AuxLighting

open KernelMail (command_of_runs refused_of_runs)
open MailAux (auxSet_answered)

/-! ### AUX_PATTERN (R436) -/

theorem auxOverlap_iff (a b : AuxEng) : auxOverlap a b = true ↔ b.type ≠ 0 ∧ b.port = a.port
    ∧ (4 ≤ a.port ∨ a.node < b.node + b.count ∧ b.node < a.node + a.count) := by
  rw [auxOverlap, eq_comm (a := b.port)]
  simp [and_assoc]

/-- The setting's target overlaps that of another engine that is on. -/
def overlaps (s : State) (n : Nat) (e : AuxEng) : Bool := (List.range 8).any (fun k => k != n && auxOverlap e (auxNewest s k))

theorem overlaps_iff (s : State) (n : Nat) (e : AuxEng) : overlaps s n e = true ↔ ∃ k < 8, k ≠ n ∧ (auxNewest s k).type ≠ 0
    ∧ (auxNewest s k).port = e.port
    ∧ (4 ≤ e.port ∨ e.node < (auxNewest s k).node + (auxNewest s k).count ∧ (auxNewest s k).node < e.node + e.count) := by
  simp [overlaps, auxOverlap_iff]

theorem auxPattern_completes {s : State} {mb n : Nat} {p : List Byte} {e : AuxEng} (hm : MailOk s) (hr : Runs s mb 0x0B02 p)
    (hp : p.length = 16) (hn : n = leAt p 0 1) (he : e = patternOf p) : Completes (.auxPattern mb) s fun t =>
      (e.period = 0 ∨ e.port ≤ 3 ∧ e.count = 0 → Answered s t mb 4 [] ∧ t.aux = s.aux)
      ∧ (patternOk n e = true → (∃ k < 8, k ≠ n ∧ (auxNewest s k).type ≠ 0 ∧ (auxNewest s k).port = e.port
          ∧ (4 ≤ e.port ∨ e.node < (auxNewest s k).node + (auxNewest s k).count ∧ (auxNewest s k).node < e.node + e.count)) →
        Answered s t mb 7 [] ∧ t.aux = s.aux)
      ∧ (patternOk n e = true → (∀ k < 8, k ≠ n → (auxNewest s k).type = 0 ∨ (auxNewest s k).port ≠ e.port
          ∨ e.port ≤ 3 ∧ ((auxNewest s k).node + (auxNewest s k).count ≤ e.node ∨ e.node + e.count ≤ (auxNewest s k).node)) →
        Answered s t mb 0 [] ∧ t.aux = { s.aux with due := s.aux.due.set n (some e) }) := by
  have hrun : exec (.auxPattern mb) s = .next (if patternOk n e = false then respond s mb 4 []
      else if overlaps s n e then respond s mb 7 []
      else respond { s with aux := { s.aux with due := s.aux.due.set n (some e) } } mb 0 []) := by
    subst hn he
    exact congrArg Host.Outcome.next ((command_of_runs hr (auxPattern mb)).trans (if_pos (by simp [hp])))
  have hrefused (status : Nat) (hs : status < 256) :
      Answered s (respond s mb status []) mb status [] ∧ (respond s mb status []).aux = s.aux :=
    ⟨refused_of_runs hm hr s rfl hs, by simp⟩
  refine completes_of hrun ⟨fun hbad => ?_, fun hok hmeets => ?_, fun hok hapart => ?_⟩
  · have hpattern : patternOk n e = false := by
      rcases hbad with h | ⟨hport, hcount⟩
      · simp [patternOk, h]
      · simp [patternOk, hport, hcount]
    rw [if_pos hpattern]
    exact hrefused 4 (by decide)
  · rw [if_neg (by simp [hok]), if_pos ((overlaps_iff s n e).mpr hmeets)]
    exact hrefused 7 (by decide)
  · have hno : ¬ overlaps s n e = true := by
      rw [overlaps_iff]
      rintro ⟨k, hk, hkn, htype, hport, hrange⟩
      rcases hapart k hk hkn with h | h | ⟨hlow, h⟩
      · exact htype h
      · exact h hport
      · omega
    rw [if_neg (by simp [hok]), if_neg hno]
    exact auxSet_answered hm hr _

/-! ### Settings taken at their output (R436) -/

/-- The setting that waits at engine `n` takes effect at output `o`. -/
def takesAt (s : State) (o n : Nat) : Bool := match s.aux.due.getD n none with
  | some e => (e.type != 0 && e.port == o) || ((s.aux.engines.getD n AuxEng.off).type != 0
      && (s.aux.engines.getD n AuxEng.off).port == o) || (e.type == 0 && (s.aux.engines.getD n AuxEng.off).type == 0)
  | none => false

section
variable {s : State} {o n : Nat}

theorem auxTake_engine : (auxTake s o).aux.engines[n]?
    = s.aux.engines[n]?.map (fun x => if takesAt s o n then auxNewest s n else x) := List.getElem?_mapIdx

theorem auxTake_due : (auxTake s o).aux.due[n]? = s.aux.due[n]?.map (fun x => if takesAt s o n then none else x) :=
  List.getElem?_mapIdx

/-- An engine whose waiting setting is for this output has it in force. -/
theorem auxTake_taken {e : AuxEng} (hs : ShapeOk s) (hdue : s.aux.due[n]? = some (some e)) (htakes : takesAt s o n = true) :
    (auxTake s o).aux.engines[n]? = some e ∧ (auxTake s o).aux.due[n]? = some none := by
  obtain ⟨-, -, -, hengines, hdues, -⟩ := hs
  obtain ⟨hn, -⟩ := List.getElem?_eq_some_iff.mp hdue
  have hnewest : auxNewest s n = e := by rw [auxNewest, List.getD_eq_getElem?_getD, hdue]; rfl
  rw [auxTake_engine, auxTake_due, htakes, hdue, hnewest, List.getElem?_eq_getElem (by omega)]
  exact ⟨rfl, rfl⟩

theorem takesAt_of_target {e : AuxEng} (hdue : s.aux.due[n]? = some (some e)) (htype : e.type ≠ 0) (hport : e.port = o) :
    takesAt s o n = true := by
  simp [takesAt, List.getD_eq_getElem?_getD, hdue, htype, hport]

theorem takesAt_of_source {e x : AuxEng} (hdue : s.aux.due[n]? = some (some e)) (hengine : s.aux.engines[n]? = some x)
    (htype : x.type ≠ 0) (hport : x.port = o) : takesAt s o n = true := by
  simp [takesAt, List.getD_eq_getElem?_getD, hdue, hengine, htype, hport]

theorem auxTake_kept (hdue : s.aux.due[n]? = some none) : (auxTake s o).aux.engines[n]? = s.aux.engines[n]? := by
  have hno : takesAt s o n = false := by simp [takesAt, List.getD_eq_getElem?_getD, hdue]
  rw [auxTake_engine, hno]
  cases s.aux.engines[n]? <;> rfl

end

/-! ### Port frames (R430, R433) -/

theorem getD_frameValues (s : State) (p : Nat) {k c : Nat} (hk : k < auxLen s p) (hc : c < 3) :
    (frameValues s p).getD (3 * k + c) 0 = stage3 s (stage2 s p k (stage1 s p c (auxValue s p k c))) := by
  rw [frameValues, List.getD_eq_getElem?_getD, List.getElem?_map, List.getElem?_range (by omega), Option.map_some, Option.getD_some,
    show (3 * k + c) / 3 = k by omega, show (3 * k + c) % 3 = c by omega]

/-- The frame of port `p` sampled and sent. -/
def framed (s : State) (p : Nat) : State :=
  { auxTake s p with aux := { (auxTake s p).aux with
      frames := (auxTake s p).aux.frames.set p (s.now, frameValues (auxTake s p) p) } }

theorem auxFrameGrid_completes {s : State} {p : Nat} (hs : ShapeOk s) (hp : p < 4) (hruns : auxRuns s = true) (hlen : auxLen s p ≠ 0)
    (hlater : s.aux.since + 20000 < s.now) : Completes (.auxFrameGrid p) s fun t =>
      (∀ (n : Nat) (e : AuxEng), s.aux.due[n]? = some (some e) → e.type ≠ 0 → e.port = p →
        t.aux.engines[n]? = some e ∧ t.aux.due[n]? = some none)
      ∧ (∀ (n : Nat) (e x : AuxEng), s.aux.due[n]? = some (some e) → e.type = 0 → s.aux.engines[n]? = some x → x.type ≠ 0 →
        x.port = p → t.aux.engines[n]? = some e ∧ t.aux.due[n]? = some none)
      ∧ (∀ n : Nat, s.aux.due[n]? = some none → t.aux.engines[n]? = s.aux.engines[n]?)
      ∧ (∃ v, t.aux.frames[p]? = some (s.now, v) ∧ v.length = 3 * auxLen s p
        ∧ ∀ k c, k < auxLen s p → c < 3 → v.getD (3 * k + c) 0 = stage3 t (stage2 t p k (stage1 t p c (auxValue t p k c))))
      ∧ (∀ q : Nat, q ≠ p → t.aux.frames[q]? = s.aux.frames[q]?) ∧ t.aux.values = s.aux.values ∧ t.regs = s.regs := by
  have hrun : exec (.auxFrameGrid p) s = .next (framed s p) := if_pos ⟨hruns, hp, hlen, hlater⟩
  have hframes : s.aux.frames.length = 4 := hs.2.2.2.2.2.2.1
  have hstages (k c : Nat) : stage3 (framed s p) (stage2 (framed s p) p k (stage1 (framed s p) p c (auxValue (framed s p) p k c)))
      = stage3 (auxTake s p) (stage2 (auxTake s p) p k (stage1 (auxTake s p) p c (auxValue (auxTake s p) p k c))) := rfl
  refine completes_of hrun ⟨fun n e hdue htype hport => auxTake_taken hs hdue (takesAt_of_target hdue htype hport),
    fun n e x hdue _ hengine htype hport => auxTake_taken hs hdue (takesAt_of_source hdue hengine htype hport),
    fun n hdue => auxTake_kept hdue, ⟨frameValues (auxTake s p) p, ?_, ?_, fun k c hk hc => ?_⟩, fun q hq => ?_, rfl, rfl⟩
  · exact List.getElem?_set_self (by change p < s.aux.frames.length; omega)
  · rw [frameValues, List.length_map, List.length_range]
    rfl
  · rw [hstages]
    exact getD_frameValues (auxTake s p) p hk hc
  · exact List.getElem?_set_ne (Ne.symm hq)

/-! ### Gate periods (R439) -/

/-- Gate `n` at its period start. -/
def gateStarted (s : State) (n : Nat) (g : AuxGate) : AuxGate :=
  { g with period := 400000000 / g.freq, since := s.now
           high := 400000000 / g.freq * stage3 (auxTake s (4 + n)) (stage2 (auxTake s (4 + n)) (4 + n) 0 g.duty) / 65536 }

/-- The state after the period start of gate `n`. -/
def gated (s : State) (n : Nat) (g : AuxGate) : State :=
  { auxTake s (4 + n) with aux := { (auxTake s (4 + n)).aux with gates := (auxTake s (4 + n)).aux.gates.set n (gateStarted s n g) } }

section
variable {s : State} {n : Nat} {g : AuxGate} (hgate : s.aux.gates[n]? = some g)
include hgate

theorem auxGatePeriodStart_run : exec (.auxGatePeriodStart n) s
    = if auxRuns s ∧ g.freq ≠ 0 then .next (gated s n g) else .next s := by
  show execAuxGatePeriodStart n s = _
  unfold execAuxGatePeriodStart
  rw [hgate]
  rfl

theorem auxGatePeriodStart_completes (hs : ShapeOk s) (hruns : auxRuns s = true) (hfreq : g.freq ≠ 0) :
    Completes (.auxGatePeriodStart n) s fun t =>
      (∀ (k : Nat) (e : AuxEng), s.aux.due[k]? = some (some e) → e.type ≠ 0 → e.port = 4 + n →
        t.aux.engines[k]? = some e ∧ t.aux.due[k]? = some none)
      ∧ t.aux.gates[n]? = some { g with period := 400000000 / g.freq, since := s.now
                                        high := 400000000 / g.freq * stage3 t (stage2 t (4 + n) 0 g.duty) / 65536 }
      ∧ (∀ k : Nat, k ≠ n → t.aux.gates[k]? = s.aux.gates[k]?) ∧ t.regs = s.regs := by
  have hrun : exec (.auxGatePeriodStart n) s = .next (gated s n g) :=
    (auxGatePeriodStart_run hgate).trans (if_pos ⟨hruns, hfreq⟩)
  have hstages : stage3 (gated s n g) (stage2 (gated s n g) (4 + n) 0 g.duty)
      = stage3 (auxTake s (4 + n)) (stage2 (auxTake s (4 + n)) (4 + n) 0 g.duty) := rfl
  obtain ⟨hn, -⟩ := List.getElem?_eq_some_iff.mp hgate
  refine completes_of hrun ⟨fun k e hdue htype hport => auxTake_taken hs hdue (takesAt_of_target hdue htype hport), ?_,
    fun k hk => List.getElem?_set_ne (Ne.symm hk), rfl⟩
  rw [hstages]
  exact List.getElem?_set_self hn

theorem auxGatePeriodStart_off (h : auxRuns s = false ∨ g.freq = 0) : exec (.auxGatePeriodStart n) s = .next s :=
  (auxGatePeriodStart_run hgate).trans (if_neg (by rcases h with h | h <;> simp [h]))

end

/-! ### The enable (R441) -/

theorem auxEnSet_completes {s : State} (hoff : s.flag AUX.CTRL.EN = false) : Completes .auxEnSet s fun t =>
    t.flag AUX.CTRL.EN = true ∧ t.aux = { s.aux with since := s.now } := by
  have hrun : exec .auxEnSet s = .next (auxEnable s) := congrArg Host.Outcome.next (if_neg (by simp [hoff]))
  exact completes_of hrun ⟨flag_setFlag_self s AUX.CTRL.EN true (by decide) (by decide), rfl⟩

/-- Settles O50: a setting waits unless its target overlaps another's; a frame and a gate period take what waits for them and then
sample their stages; the enable notes its time. -/
theorem auxOutputs : Obligations.AuxOutputs :=
  ⟨fun _ _ _ _ _ hm hr hp hn he => auxPattern_completes hm hr hp hn he,
    fun _ _ hs hp hruns hlen hlater => auxFrameGrid_completes hs hp hruns hlen hlater,
    fun s p _ h => if_neg (by
      rintro ⟨hruns, -, hlen, hlater⟩
      rcases h with h | h | h
      · simp [h] at hruns
      · exact hlen h
      · omega),
    fun _ _ _ hs hgate hruns hfreq => auxGatePeriodStart_completes hgate hs hruns hfreq,
    fun _ _ _ hgate h => auxGatePeriodStart_off hgate h, fun _ hoff => auxEnSet_completes hoff,
    fun _ hon => congrArg Host.Outcome.next (if_pos hon)⟩

end Sys2Proof.Machine.AuxLighting
end

section
/-! PROOF. RegWords: what a bus master's access to a register word comes to, and the words of one plain field
(18_registers_and_check_units.md R551, R552, R554, R555, R568; 14_clocks_and_power_states.md R453, R474). -/

namespace Sys2Proof.Machine.RegWords

open FrameTiming (reg_setReg_of_lt reg_lt flag_eq_of_word)
open BlankPasses (SourceKept faulted_before)

/-! ### Reached words (R460, R551, R552) -/

section
variable {s : State} {a : Nat}

theorem aliasOf_of_lt (ha : a < 0x20000000) : aliasOf a = none := if_neg (by omega)

theorem underlying_of_lt (ha : a < 0x20000000) : underlying a = a := by rw [underlying, aliasOf_of_lt ha]

/-- An address of the map is an error of the bus unless its word is reached. -/
theorem not_barred_iff (ha : aliasOf a = none) :
    (busUp s = false ∨ mapped? a = false ∨ gatedAt s a = true) ↔ ¬ Reaches s a := by
  have hu : underlying a = a := by rw [underlying, ha]
  simp only [Reaches, mapped?, gatedAt, addrMapped, hu, Bool.and_eq_false_iff, beq_eq_false_iff_ne, decide_eq_false_iff_not,
    Bool.not_eq_true', not_and_or, Bool.not_eq_true, or_assoc, ne_eq]

theorem busRead_of_reaches (h : Reaches s a) : busRead s a = ((wordRead s a).1, some (wordRead s a).2) := by
  have halias : aliasOf a = none := aliasOf_of_lt (by have := h.2.2.1; omega)
  rw [busRead, if_neg (by rw [not_barred_iff halias]; exact not_not.mpr h), halias]

theorem busWriteQ_of_reaches (h : Reaches s a) (w : Word) : busWrite? s a w = some (wordWrite s a w) := by
  have halias : aliasOf a = none := aliasOf_of_lt (by have := h.2.2.1; omega)
  rw [busWrite?, if_neg (by rw [not_barred_iff halias]; exact not_not.mpr h), halias]

theorem registerWrite_of_reaches {x : Word} (h : Reaches s x.toNat) (w : Word) :
    exec (.registerWrite x w) s = .next (wordWrite s x.toNat w) :=
  congrArg (fun r : Option State => Host.Outcome.next (r.getD s)) (busWriteQ_of_reaches h w)

theorem rcFieldRead_of_reaches {x : Word} (h : Reaches s x.toNat) : exec (.rcFieldRead x) s
    = .next { (wordRead s x.toNat).1 with io := { (wordRead s x.toNat).1.io with bus := some (wordRead s x.toNat).2 } } := by
  show execRcFieldRead x s = _
  rw [execRcFieldRead, readAccess, busRead_of_reaches h]

end

/-! ### Words of one plain field (R554) -/

/-- The word at `a` is field `f` alone, 32 bits that software reads and writes, in a block without an EN bit. -/
structure LoneWord (f : Field) : Prop where
  fields : fieldsAt f.addr = [f]
  access : f.access = .rw
  low : f.lo = 0
  width : f.width = 32
  block : f.addr < 0x20000
  plain : f.addr ≠ 0x10008 ∧ f.addr ≠ 0x10010 ∧ f.addr ≠ 0x10014

section
variable {f : Field} (hf : LoneWord f) (s : State)
include hf

theorem LoneWord.fromWord (w : Word) : fromWord f w = w.toNat := by
  rw [Machine.fromWord, hf.low, hf.width, bits]
  simpa using w.isLt

theorem LoneWord.fieldWrite (n : Nat) (on : Bool) (v : Nat) : fieldWrite s n on f v = s.setReg f v := by
  obtain ⟨hgate, hdiv, hspread⟩ := hf.plain
  have hblock := hf.block
  have hne {g : Field} (hg : 0x20000 ≤ g.addr) : f ≠ g := fun h => by
    rw [h] at hblock
    omega
  rw [Machine.fieldWrite, if_neg hgate, if_neg hdiv, if_neg (fun h => hspread h.1), if_neg (hne (by decide)), hf.access]
  exact (if_neg (hne (by decide))).trans (if_neg (hne (by decide)))

theorem LoneWord.commandWrite (w : Word) : commandWrite s f.addr w = s := by
  have hblock := hf.block
  have hne {g : Field} (hg : 0x20000 ≤ g.addr) : f.addr ≠ g.addr := by omega
  unfold Machine.commandWrite
  dsimp only
  rw [if_neg (hne (by decide)), if_neg (hne (by decide)), if_neg (hne (by decide)), if_neg (hne (by decide)),
    if_neg (hne (by decide)), if_neg (hne (by decide)), if_neg (hne (by decide)), if_neg (hne (by decide)),
    if_neg (not_or.mpr ⟨hne (by decide), hne (by decide)⟩), if_neg (by omega)]

/-- A direct write of such a word sets its field and nothing else. -/
theorem LoneWord.wordWrite (w : Word) : wordWrite s f.addr w = s.setReg f w.toNat := by
  have hblock := hf.block
  have hmbx : mbxArea f.addr = none := if_neg (by omega)
  have hen : blockEn (f.addr / 0x10000) = none := by
    have hn : f.addr / 0x10000 < 2 := by omega
    interval_cases f.addr / 0x10000 <;> rfl
  simp only [Machine.wordWrite, hmbx, hen, hf.fields, List.filter_cons, List.filter_nil]
  rw [hf.commandWrite]
  exact (hf.fieldWrite s _ _ _).trans (congrArg (s.setReg f) (hf.fromWord w))

/-- No such word shows state held elsewhere. -/
theorem LoneWord.fieldNow : fieldNow s f = s.reg f := by
  have hheld : (derivedFields.map Prod.fst).all (fun g => decide (0x20000 ≤ g.addr)) = true := by decide +kernel
  have hnone : derivedFields.find? (fun p => p.1 == f) = none := by
    rw [List.find?_eq_none]
    intro p hp h
    have hfar := List.all_eq_true.mp hheld p.1 (List.mem_map_of_mem hp)
    rw [beq_iff_eq.mp h, decide_eq_true_eq] at hfar
    have hblock := hf.block
    omega
  rw [Machine.fieldNow, if_neg (by rw [hf.access]; decide), hnone]

/-- A direct read of such a word answers its field and changes no register. -/
theorem LoneWord.wordRead : (wordRead s f.addr).1.regs = s.regs ∧ (wordRead s f.addr).2 = BitVec.ofNat 32 (s.reg f) := by
  have hblock := hf.block
  have hmbx : mbxArea f.addr = none := if_neg (by omega)
  have hlut : f.addr ≠ GAL.LUT_DATA.ENTRY.addr := fun h => by
    rw [h] at hblock
    exact absurd hblock (by decide)
  have hwidth : s.reg f < 2 ^ f.width := by
    rw [hf.width]
    exact reg_lt s f
  rw [Machine.wordRead, if_neg hlut]
  constructor
  · rw [hf.fields]
    simp [readEffect, hf.access]
  · show wordNow s f.addr = _
    simp only [wordNow, hmbx]
    rw [if_neg (by omega), hf.fields]
    simp [sumNat, inWord, hf.low, hf.fieldNow, Nat.mod_eq_of_lt hwidth]

end

/-! ### The scratch register and the count of forced switches (R453, R474, R568) -/

theorem scratch_lone : LoneWord SYS.SCRATCH.DATA := ⟨by decide +kernel, rfl, rfl, rfl, by decide, by decide⟩

theorem forcedCount_lone : LoneWord CLK.FORCED_COUNT.COUNT := ⟨by decide +kernel, rfl, rfl, rfl, by decide, by decide⟩

section
variable {s : State}

theorem loneWord_read {f : Field} (hf : LoneWord f) {x : Word} (hx : x.toNat = f.addr) (h : Reaches s x.toNat) :
    Completes (.rcFieldRead x) s fun t => t.io.bus = some (BitVec.ofNat 32 (s.reg f)) ∧ t.regs = s.regs := by
  obtain ⟨hregs, hword⟩ := hf.wordRead s
  rw [← hx] at hregs hword
  exact completes_of (rcFieldRead_of_reaches h) ⟨congrArg some hword, hregs⟩

variable (hup : busUp s = true)
include hup

theorem scratch_reached (hgate : s.flag (CLK.GATE.EN 0) = true) : Reaches s (BitVec.toNat (0x00000010 : Word)) :=
  ⟨hup, by decide, by decide, hgate⟩

theorem forcedCount_reached (hgate : s.flag (CLK.GATE.EN 1) = true) : Reaches s (BitVec.toNat (0x0001001C : Word)) :=
  ⟨hup, by decide, by decide, hgate⟩

end

/-- The state that shows a forced switch, before its fault. -/
def switchShown (s : State) : State := (s.setFlag CLK.STATUS.CLKSW_FORCED true).bump CLK.FORCED_COUNT.COUNT

theorem switchShown_count (s : State) :
    (switchShown s).reg CLK.FORCED_COUNT.COUNT = min 0xFFFFFFFF (s.reg CLK.FORCED_COUNT.COUNT + 1) := by
  refine (reg_bump_self _ _ (by decide)).trans ?_
  rw [reg_setFlag_ne _ _ _ _ (by decide)]
  rfl

theorem switchShown_forced (s : State) : (switchShown s).flag CLK.STATUS.CLKSW_FORCED = true := by
  unfold State.flag
  rw [switchShown, reg_bump_ne _ _ _ (by decide)]
  exact flag_setFlag_self _ _ _ (by decide) (by decide)

theorem clkswForced_completes (s : State) {d : Nat} (hd : d < 6) : Completes (.clkswForced d) s fun t =>
    t.reg CLK.FORCED_COUNT.COUNT = min 0xFFFFFFFF (s.reg CLK.FORCED_COUNT.COUNT + 1)
    ∧ t.flag CLK.STATUS.CLKSW_FORCED = true ∧ Faulted s t 4 1 := by
  have hrun : exec (.clkswForced d) s = .next (raiseFault (switchShown s) 4 1) := congrArg Host.Outcome.next (if_pos hd)
  have hkept : SourceKept 4 s (switchShown s) :=
    ⟨(reg_bump_ne _ _ _ (by decide)).trans (reg_setFlag_ne _ _ _ _ (by decide)), rfl⟩
  refine completes_of hrun ⟨?_, ?_, faulted_before hkept (raiseFault_faulted _ 4 1)⟩
  · rw [reg_eq_of_word (raiseFault_word (outside_of (by decide)) _ _ _), switchShown_count]
  · exact (flag_eq_of_word (raiseFault_word (outside_of (by decide)) _ _ _)).trans (switchShown_forced s)

/-- Settles O51: both words are one plain field, and a forced switch is counted, shown and reported. -/
theorem scratchAndForcedSwitches : Obligations.ScratchAndForcedSwitches := by
  refine ⟨by decide +kernel, by decide +kernel, fun s w hup hgate => ⟨?_, ?_, fun f haddr hlo => ?_⟩, fun s w hup hgate => ?_,
    fun s hup hgate => loneWord_read scratch_lone rfl (scratch_reached hup hgate),
    fun s hup hgate => loneWord_read forcedCount_lone rfl (forcedCount_reached hup hgate), fun s d hd => clkswForced_completes s hd⟩
  · exact (registerWrite_of_reaches (scratch_reached hup hgate) w).trans (congrArg Host.Outcome.next (scratch_lone.wordWrite s w))
  · exact reg_setReg_of_lt s _ _ (by decide) w.isLt
  · refine reg_setReg_ne s SYS.SCRATCH.DATA f _ fun h => haddr ?_
    simp only [fieldKey, SYS.SCRATCH.DATA] at h
    omega
  · exact completes_of ((registerWrite_of_reaches (forcedCount_reached hup hgate) w).trans
      (congrArg Host.Outcome.next (forcedCount_lone.wordWrite s w))) (reg_setReg_of_lt s _ _ (by decide) w.isLt)

end Sys2Proof.Machine.RegWords
end

section
/-! PROOF. ClockRamp: the reference, the PLL, the Staircase ramp, and the writes of CLK.DIV, CLK.SS_REF and CLK.GATE
(14_clocks_and_power_states.md R448, R449, R451, R454, R456, R460). -/

namespace Sys2Proof.Machine.ClockRamp

open FrameTiming (reg_setReg_of_lt flag_eq_of_word)
open GalleryComposition (bits_lt bits_one_ne_zero)

/-! ### Reference and PLL (R448, R449) -/

section
variable {s : State}

theorem refclkDetectWindow_completes (good : Bool) (hcold : s.boot.cold = true) (hheld : domainsHeld s = false)
    (hsrc : s.reg CLK.STATUS.SRC = 0) : Completes (.refclkDetectWindow good) s fun t =>
      t.reg CLK.STATUS.SRC = if s.clk.refForce = 1 ∨ s.clk.refForce = 2 then s.clk.refForce else if good then 1 else 2 := by
  have hrun : exec (.refclkDetectWindow good) s = .next (chooseRef s good) :=
    congrArg Host.Outcome.next (if_pos ⟨hcold, hheld, hsrc⟩)
  refine completes_of hrun (reg_setReg_of_lt s CLK.STATUS.SRC _ (by decide) ?_)
  show _ < 4
  split_ifs <;> omega

theorem crystalDelayExpiry_run (hheld : domainsHeld s = false) (hsrc : s.reg CLK.STATUS.SRC = 2) :
    exec .crystalDelayExpiry s = .next { s with clk := { s.clk with crystal := true } } :=
  congrArg Host.Outcome.next (if_pos ⟨hheld, hsrc⟩)

theorem pllLock_completes (hheld : domainsHeld s = false) (hcellar : s.power ≠ 2) (hdeep : s.power ≠ 3)
    (href : s.reg CLK.STATUS.SRC = 1 ∨ s.reg CLK.STATUS.SRC = 2 ∧ s.clk.crystal = true) : Completes .pllLock s fun t =>
      t.flag CLK.STATUS.PLL_LOCK = true ∧ t.clk.everLocked = true ∧ t.flag CLK.STATUS.CLOCK_OK = !s.clk.lost := by
  have husable : refUsable s = true := by
    rcases href with h | ⟨h, hc⟩
    · simp [refUsable, h]
    · simp [refUsable, h, hc]
  have hrun : exec .pllLock s = .next (lockPll s) := congrArg Host.Outcome.next (if_pos ⟨husable, hheld, hcellar, hdeep⟩)
  refine completes_of hrun ⟨?_, rfl, flag_setFlag_self _ _ _ (by decide) (by decide)⟩
  exact (flag_setFlag_ne _ _ _ _ (by decide)).trans (flag_setFlag_self _ _ _ (by decide) (by decide))

end

/-! ### The ramp (R454) -/

/-- From the RC oscillator a domain first takes the slowest division. -/
theorem nextDivision_of_rc (t : Nat) : nextDivision 0 t = max 96 t := by
  have hhead : nextDivision 0 t = (rampDivisions t).head?.getD t := by
    unfold nextDivision
    cases rampDivisions t <;> rfl
  rw [hhead, rampDivisions]
  by_cases h : t < 96
  · rw [List.filter_cons_of_pos (by simpa using h), Nat.max_eq_left (by omega)]
    rfl
  · have hnone : [96, 48, 32, 24, 16].filter (fun n => decide (t < n)) = [] := by
      rw [List.filter_eq_nil_iff]
      intro n hn
      simp only [List.mem_cons, List.not_mem_nil, or_false] at hn
      simp only [decide_eq_true_eq]
      omega
    rw [hnone, Nat.max_eq_right (by omega)]
    rfl

theorem mem_rampDivisions {t n : Nat} : n ∈ rampDivisions t ↔ n ∈ [96, 48, 32, 24, 16] ∧ t < n ∨ n = t := by
  simp [rampDivisions]

theorem rampDivisions_decreasing (t : Nat) : (rampDivisions t).Pairwise (· > ·) := by
  refine List.pairwise_append.mpr ⟨List.Pairwise.filter _ (by decide), List.pairwise_singleton _ _, fun a ha b hb => ?_⟩
  rw [List.mem_singleton.mp hb]
  simpa using (List.mem_filter.mp ha).2

/-- The first division below the present one is the greatest one below it. -/
theorem find?_of_decreasing {l : List Nat} (hl : l.Pairwise (· > ·)) {c n : Nat} (h : l.find? (fun n => decide (n < c)) = some n) :
    n ∈ l ∧ n < c ∧ ∀ m ∈ l, m < c → m ≤ n := by
  induction l with
  | nil => cases h
  | cons x l ih =>
    rw [List.pairwise_cons] at hl
    obtain ⟨hx, hl⟩ := hl
    rw [List.find?_cons] at h
    by_cases hxc : x < c
    · simp only [hxc, decide_true] at h
      cases h
      refine ⟨List.mem_cons_self, hxc, fun m hm _ => ?_⟩
      rcases List.mem_cons.mp hm with rfl | hm
      · exact Nat.le_refl _
      · exact Nat.le_of_lt (hx m hm)
    · simp only [hxc, decide_false] at h
      obtain ⟨hmem, hlt, hmax⟩ := ih hl h
      refine ⟨List.mem_cons_of_mem _ hmem, hlt, fun m hm hmc => ?_⟩
      rcases List.mem_cons.mp hm with rfl | hm
      · exact absurd hmc hxc
      · exact hmax m hm hmc

theorem nextDivision_steps {c t : Nat} (hc : c ≠ 0) (ht : t < c) : nextDivision c t < c
    ∧ nextDivision c t ∈ [96, 48, 32, 24, 16, t] ∧ t ≤ nextDivision c t
    ∧ ∀ m ∈ [96, 48, 32, 24, 16], t < m → m < c → m ≤ nextDivision c t := by
  have hfn : (fun n => c == 0 || decide (n < c)) = fun n => decide (n < c) :=
    funext fun n => by rw [beq_false_of_ne hc, Bool.false_or]
  obtain ⟨n, hn⟩ : ∃ n, (rampDivisions t).find? (fun n => decide (n < c)) = some n := by
    rw [← Option.isSome_iff_exists, List.find?_isSome]
    exact ⟨t, mem_rampDivisions.mpr (.inr rfl), by simpa using ht⟩
  have hnext : nextDivision c t = n := by rw [nextDivision, hfn, hn]; rfl
  obtain ⟨hmem, hlt, hmax⟩ := find?_of_decreasing (rampDivisions_decreasing t) hn
  rw [hnext]
  rw [mem_rampDivisions] at hmem
  refine ⟨hlt, ?_, by omega, fun m hm htm hmc => hmax m (mem_rampDivisions.mpr (.inl ⟨hm, htm⟩)) hmc⟩
  simp only [List.mem_cons, List.not_mem_nil, or_false] at hmem ⊢
  omega

section
variable {s : State}

theorem rampDwellStep_completes {d : Nat} (hs : ShapeOk s) (hlock : s.flag CLK.STATUS.PLL_LOCK = true) (hruns : clocksRun s = true)
    (hd : d < 6) (hbefore : ∀ e < d, s.clk.div.getD e 0 = rampTarget s e) (hramps : s.clk.div.getD d 0 ≠ rampTarget s d) :
    Completes .rampDwellStep s fun t =>
      (∀ e, e ≠ d → t.clk.div.getD e 0 = s.clk.div.getD e 0)
      ∧ (s.clk.div.getD d 0 = 0 → t.clk.div.getD d 0 = max 96 (rampTarget s d))
      ∧ (s.clk.div.getD d 0 ≠ 0 → rampTarget s d < s.clk.div.getD d 0 →
        t.clk.div.getD d 0 < s.clk.div.getD d 0 ∧ t.clk.div.getD d 0 ∈ [96, 48, 32, 24, 16, rampTarget s d]
        ∧ rampTarget s d ≤ t.clk.div.getD d 0
        ∧ ∀ m ∈ [96, 48, 32, 24, 16], rampTarget s d < m → m < s.clk.div.getD d 0 → m ≤ t.clk.div.getD d 0) := by
  obtain ⟨t, ht⟩ : ∃ t, t = { s with clk := { s.clk with
    div := s.clk.div.set d (nextDivision (s.clk.div.getD d 0) (rampTarget s d)) } } := ⟨_, rfl⟩
  have hfirst : rampingDomain s = some d := by
    rw [rampingDomain, List.find?_range_eq_some]
    exact ⟨by simpa using hramps, by simpa using hd, fun e he => by simpa using hbefore e he⟩
  have hrun : exec .rampDwellStep s = .next t := by
    refine congrArg Host.Outcome.next ((if_pos ⟨hlock, hruns⟩).trans ?_)
    rw [rampStep, hfirst, ht]
  have hlength : d < s.clk.div.length := by rw [hs.2.2.2.2.2.2.2.2.2]; exact hd
  have hstep : t.clk.div.getD d 0 = nextDivision (s.clk.div.getD d 0) (rampTarget s d) := by
    rw [ht, List.getD_eq_getElem?_getD, List.getElem?_set_self hlength]
    rfl
  refine completes_of hrun ⟨fun e he => ?_, fun hrc => ?_, fun hpll habove => ?_⟩
  · rw [ht, List.getD_eq_getElem?_getD, List.getElem?_set_ne (Ne.symm he), ← List.getD_eq_getElem?_getD]
  · rw [hstep, hrc, nextDivision_of_rc]
  · rw [hstep]
    exact nextDivision_steps hpll habove

theorem rampDwellStep_done (h : ∀ d < 6, s.clk.div.getD d 0 = rampTarget s d) : exec .rampDwellStep s = .next s := by
  have hnone : rampingDomain s = none := by
    rw [rampingDomain, List.find?_eq_none]
    intro d hd
    simpa using h d (List.mem_range.mp hd)
  refine congrArg Host.Outcome.next ?_
  split
  · rw [rampStep, hnone]
  · rfl

end

/-! ### Ignored writes (R556) -/

theorem clkIgnored_shown (s : State) :
    (clkIgnored s).flag CLK.STATUS.WIGN = true ∧ bit ((clkIgnored s).reg SYS.WIGN.BLOCK) 1 = true := by
  constructor
  · exact (flag_eq_of_word (orReg_word _ _ _ (by decide))).trans (flag_setFlag_self _ _ _ (by decide) (by decide))
  · have hreg : (clkIgnored s).reg SYS.WIGN.BLOCK = ((s.setFlag CLK.STATUS.WIGN true).reg SYS.WIGN.BLOCK ||| 2 ^ 1) % 2 ^ 21 :=
      reg_setReg_self _ _ _ (by decide)
    rw [hreg, bit, Nat.testBit_mod_two_pow, Nat.testBit_or, Nat.testBit_two_pow_self, Bool.or_true]
    rfl

/-- An ignored write changes its two notes alone. -/
theorem clkIgnored_reg (s : State) {f : Field} (hwign : fieldKey CLK.STATUS.WIGN ≠ fieldKey f)
    (hblock : fieldKey SYS.WIGN.BLOCK ≠ fieldKey f) : (clkIgnored s).reg f = s.reg f :=
  reg_eq_of_word ((orReg_word _ _ _ hblock).trans (setFlag_word _ _ _ hwign))

/-! ### CLK.DIV (R456) -/

/-- One field of CLK.DIV is written when its blocks are gated; else the write shows as ignored. -/
theorem divWrite_self (w : Word) (s : State) {x : Field × List Nat × Nat} (hx : x ∈ divFields) :
    (allGated s x.2.1 = true → (divWrite w s x).reg x.1 = fromWord x.1 w)
    ∧ (allGated s x.2.1 = false → (divWrite w s x).reg x.1 = s.reg x.1 ∧ (divWrite w s x).flag CLK.STATUS.WIGN = true
      ∧ bit ((divWrite w s x).reg SYS.WIGN.BLOCK) 1 = true) := by
  have hfields : ∀ x ∈ divFields, x.1.width ≤ 32 ∧ fieldKey CLK.STATUS.WIGN ≠ fieldKey x.1
      ∧ fieldKey SYS.WIGN.BLOCK ≠ fieldKey x.1 := by decide
  obtain ⟨hwidth, hwign, hblock⟩ := hfields x hx
  unfold divWrite
  constructor
  · intro hgated
    rw [if_pos hgated]
    have hset := reg_setReg_of_lt s x.1 (fromWord x.1 w) hwidth (bits_lt _ _ _)
    dsimp only
    split
    · exact hset
    · exact hset
  · intro hclocked
    rw [if_neg (by simp [hclocked])]
    exact ⟨clkIgnored_reg s hwign hblock, clkIgnored_shown s⟩

/-- It changes its own field and the two notes alone. -/
theorem divWrite_reg (w : Word) (s : State) (x : Field × List Nat × Nat) {f : Field} (hf : fieldKey x.1 ≠ fieldKey f)
    (hwign : fieldKey CLK.STATUS.WIGN ≠ fieldKey f) (hblock : fieldKey SYS.WIGN.BLOCK ≠ fieldKey f) :
    (divWrite w s x).reg f = s.reg f := by
  unfold divWrite
  split
  · dsimp only
    split
    · exact reg_setReg_ne _ _ _ _ hf
    · exact reg_setReg_ne _ _ _ _ hf
  · exact clkIgnored_reg s hwign hblock

/-- The notes of an ignored write stay set. -/
def NotesKept (s t : State) : Prop :=
  s.flag CLK.STATUS.WIGN = true ∧ bit (s.reg SYS.WIGN.BLOCK) 1 = true
    → t.flag CLK.STATUS.WIGN = true ∧ bit (t.reg SYS.WIGN.BLOCK) 1 = true

theorem divWrite_notes (w : Word) (s : State) {x : Field × List Nat × Nat} (hx : x ∈ divFields) : NotesKept s (divWrite w s x) := by
  have hfields : ∀ x ∈ divFields, fieldKey x.1 ≠ fieldKey CLK.STATUS.WIGN ∧ fieldKey x.1 ≠ fieldKey SYS.WIGN.BLOCK := by decide
  obtain ⟨hwign, hblock⟩ := hfields x hx
  intro h
  cases hgated : allGated s x.2.1 with
  | true =>
    have hword (f : Field) (hf : fieldKey x.1 ≠ fieldKey f) : (divWrite w s x).reg f = s.reg f := by
      unfold divWrite
      rw [if_pos hgated]
      dsimp only
      split
      · exact reg_setReg_ne _ _ _ _ hf
      · exact reg_setReg_ne _ _ _ _ hf
    unfold State.flag at h ⊢
    rwa [hword _ hwign, hword _ hblock]
  | false => exact ((divWrite_self w s hx).2 hgated).2

theorem gate_key (n : Nat) : fieldKey (CLK.GATE.EN n) = 0x10008 * 32 + n % 21 := rfl

/-- The gate bits are a word of their own. -/
theorem gate_key_ne {f : Field} (h : fieldKey f < 0x10008 * 32 ∨ 0x10009 * 32 ≤ fieldKey f) (n : Nat) :
    fieldKey f ≠ fieldKey (CLK.GATE.EN n) := by
  rw [gate_key]
  omega

theorem allGated_divWrite (w : Word) (s : State) {x : Field × List Nat × Nat} (hx : x ∈ divFields) (l : List Nat) :
    allGated (divWrite w s x) l = allGated s l := by
  have hfar : ∀ x ∈ divFields, 0x10009 * 32 ≤ fieldKey x.1 := by decide
  have hflag (n : Nat) : (divWrite w s x).flag (CLK.GATE.EN n) = s.flag (CLK.GATE.EN n) := by
    unfold State.flag
    rw [divWrite_reg w s x (gate_key_ne (.inr (hfar x hx)) n) (gate_key_ne (by decide) n) (gate_key_ne (by decide) n)]
  simp only [allGated, hflag]

/-- Each field of a list is written by its own gates: an ignored one leaves its notes. -/
theorem foldl_divWrite (w : Word) {l : List (Field × List Nat × Nat)} (hl : l ⊆ divFields) (hkeys : (l.map (fun x => fieldKey x.1)).Nodup)
    (s : State) : NotesKept s (l.foldl (divWrite w) s)
    ∧ (∀ f : Field, (∀ x ∈ l, fieldKey x.1 ≠ fieldKey f) → fieldKey CLK.STATUS.WIGN ≠ fieldKey f →
      fieldKey SYS.WIGN.BLOCK ≠ fieldKey f → (l.foldl (divWrite w) s).reg f = s.reg f)
    ∧ ∀ x ∈ l, (allGated s x.2.1 = true → (l.foldl (divWrite w) s).reg x.1 = fromWord x.1 w)
      ∧ (allGated s x.2.1 = false → (l.foldl (divWrite w) s).reg x.1 = s.reg x.1
        ∧ (l.foldl (divWrite w) s).flag CLK.STATUS.WIGN = true ∧ bit ((l.foldl (divWrite w) s).reg SYS.WIGN.BLOCK) 1 = true) := by
  induction l generalizing s with
  | nil => exact ⟨fun h => h, fun _ _ _ _ => rfl, fun x hx => absurd hx List.not_mem_nil⟩
  | cons y l ih =>
    obtain ⟨hy, hl⟩ := List.cons_subset.mp hl
    rw [List.map_cons, List.nodup_cons] at hkeys
    obtain ⟨hfresh, hkeys⟩ := hkeys
    obtain ⟨hnotes, hothers, hfields⟩ := ih hl hkeys (divWrite w s y)
    have hsame : ∀ x ∈ l, fieldKey x.1 ≠ fieldKey y.1 := fun x hx h => hfresh (List.mem_map.mpr ⟨x, hx, h⟩)
    have hapart : ∀ x ∈ divFields, fieldKey CLK.STATUS.WIGN ≠ fieldKey x.1 ∧ fieldKey SYS.WIGN.BLOCK ≠ fieldKey x.1 := by decide
    obtain ⟨hywign, hyblock⟩ := hapart y hy
    obtain ⟨hywritten, hyignored⟩ := divWrite_self w s hy
    refine ⟨fun h => hnotes (divWrite_notes w s hy h), fun f hf hwign hblock => ?_, fun x hx => ?_⟩
    · exact (hothers f (fun x hx => hf x (List.mem_cons_of_mem _ hx)) hwign hblock).trans
        (divWrite_reg w s y (hf y List.mem_cons_self) hwign hblock)
    · rcases List.mem_cons.mp hx with rfl | hx
      · have hkept := hothers x.1 hsame hywign hyblock
        refine ⟨fun h => hkept.trans (hywritten h), fun h => ?_⟩
        obtain ⟨hreg, hshown⟩ := hyignored h
        exact ⟨hkept.trans hreg, hnotes hshown⟩
      · obtain ⟨hxwign, hxblock⟩ := hapart x (hl hx)
        have hbefore := divWrite_reg w s y (f := x.1) (Ne.symm (hsame x hx)) hxwign hxblock
        have hgates := allGated_divWrite w s hy x.2.1
        obtain ⟨hwritten, hignored⟩ := hfields x hx
        rw [hgates] at hwritten hignored
        rw [hbefore] at hignored
        exact ⟨hwritten, hignored⟩

theorem allGated_iff (s : State) (l : List Nat) : allGated s l = true ↔ ∀ n ∈ l, s.flag (CLK.GATE.EN n) = false := by
  simp [allGated]

theorem clkDivWrite_completes (s : State) (w : Word) : Completes (.clkDivWrite w) s fun t =>
    ∀ x ∈ [(CLK.DIV.CORE, [14, 16]), (CLK.DIV.PIX, [13, 15]), (CLK.DIV.PER, [11, 12, 20])],
      ((∀ n ∈ x.2, s.flag (CLK.GATE.EN n) = false) → t.reg x.1 = fromWord x.1 w)
      ∧ ((∃ n ∈ x.2, s.flag (CLK.GATE.EN n) = true) → t.reg x.1 = s.reg x.1 ∧ t.flag CLK.STATUS.WIGN = true
        ∧ bit (t.reg SYS.WIGN.BLOCK) 1 = true) := by
  obtain ⟨-, -, hfields⟩ := foldl_divWrite w (List.Subset.refl divFields) (by decide) s
  refine completes_of rfl fun x hx => ?_
  obtain ⟨k, hmem⟩ : ∃ k, (x.1, x.2, k) ∈ divFields := by
    simp only [List.mem_cons, List.not_mem_nil, or_false] at hx
    rcases hx with rfl | rfl | rfl
    · exact ⟨3, by decide⟩
    · exact ⟨2, by decide⟩
    · exact ⟨1, by decide⟩
  obtain ⟨hwritten, hignored⟩ := hfields _ hmem
  refine ⟨fun hgated => hwritten ((allGated_iff s x.2).mpr hgated), fun ⟨n, hn, hclocked⟩ => hignored ?_⟩
  refine Bool.eq_false_iff.mpr fun h => ?_
  rw [(allGated_iff s x.2).mp h n hn] at hclocked
  cases hclocked

/-! ### CLK.SS_REF (R451) -/

theorem ssRefWrite_completes (s : State) (w : Word) : Completes (.ssRefWrite w) s fun t =>
    (s.flag (TX.CTRL.EN 0) = true ∨ s.flag (TX.CTRL.EN 1) = true → t.flag CLK.STATUS.WIGN = true
      ∧ bit (t.reg SYS.WIGN.BLOCK) 1 = true ∧ ∀ f ∈ [CLK.SS_REF.EN, CLK.SS_REF.DEPTH, CLK.SS_REF.RATE], t.reg f = s.reg f)
    ∧ (s.flag (TX.CTRL.EN 0) = false → s.flag (TX.CTRL.EN 1) = false →
      ∀ f ∈ [CLK.SS_REF.EN, CLK.SS_REF.DEPTH, CLK.SS_REF.RATE], t.reg f = fromWord f w) := by
  have hrun : exec (.ssRefWrite w) s = .next (if s.flag (TX.CTRL.EN 0) ∨ s.flag (TX.CTRL.EN 1) then clkIgnored s
      else [CLK.SS_REF.EN, CLK.SS_REF.DEPTH, CLK.SS_REF.RATE].foldl (fun t f => t.setReg f (fromWord f w)) s) := rfl
  have hfields : ∀ f ∈ [CLK.SS_REF.EN, CLK.SS_REF.DEPTH, CLK.SS_REF.RATE], f.width ≤ 32
      ∧ fieldKey CLK.STATUS.WIGN ≠ fieldKey f ∧ fieldKey SYS.WIGN.BLOCK ≠ fieldKey f := by decide
  refine completes_of hrun ⟨fun hup => ?_, fun hdown0 hdown1 f hf => ?_⟩
  · rw [if_pos hup]
    obtain ⟨hflag, hbit⟩ := clkIgnored_shown s
    exact ⟨hflag, hbit, fun f hf => clkIgnored_reg s (hfields f hf).2.1 (hfields f hf).2.2⟩
  · rw [if_neg (by simp [hdown0, hdown1])]
    exact GalleryComposition.reg_foldl_fromWord w _ (by decide) s hf (hfields f hf).1

/-! ### CLK.GATE (R460) -/

/-- A block that is never gated. -/
def neverGated (n : Nat) : Prop := n ≤ 3 ∨ n = 5

theorem gateBit_fixed (b : Bool) (s : State) {n : Nat} (h : neverGated n) : gateBit b s n = s := if_pos h

theorem gateBit_on (s : State) {n : Nat} (h : ¬ neverGated n) : gateBit true s n = s.setFlag (CLK.GATE.EN n) true :=
  (if_neg h).trans (if_pos rfl)

theorem gateBit_ignored (s : State) {n : Nat} {f : Field} (h : ¬ neverGated n) (hen : blockEn n = some f) (hon : s.flag f = true) :
    gateBit false s n = clkIgnored s := by
  refine (if_neg h).trans ((if_neg (by decide)).trans ?_)
  rw [hen]
  exact if_pos hon

theorem gateBit_off (s : State) {n : Nat} (h : ¬ neverGated n) (hoff : ∀ f, blockEn n = some f → s.flag f = false) :
    gateBit false s n = s.setFlag (CLK.GATE.EN n) false := by
  refine (if_neg h).trans ((if_neg (by decide)).trans ?_)
  cases hen : blockEn n with
  | none => rfl
  | some f => exact if_neg (by simp [hoff f hen])

/-- What a gate bit does: nothing, its own bit, or the notes of an ignored write. -/
theorem gateBit_cases (b : Bool) (s : State) (n : Nat) :
    gateBit b s n = s ∨ gateBit b s n = s.setFlag (CLK.GATE.EN n) b ∨ gateBit b s n = clkIgnored s := by
  by_cases h : neverGated n
  · exact .inl (gateBit_fixed b s h)
  · refine .inr ?_
    cases b with
    | true => exact .inl (gateBit_on s h)
    | false =>
      by_cases hoff : ∀ f, blockEn n = some f → s.flag f = false
      · exact .inl (gateBit_off s h hoff)
      · simp only [not_forall, Bool.not_eq_false] at hoff
        obtain ⟨f, hen, hon⟩ := hoff
        exact .inr (gateBit_ignored s h hen hon)

theorem gateBit_reg (b : Bool) (s : State) {n : Nat} {f : Field} (hf : fieldKey (CLK.GATE.EN n) ≠ fieldKey f)
    (hwign : fieldKey CLK.STATUS.WIGN ≠ fieldKey f) (hblock : fieldKey SYS.WIGN.BLOCK ≠ fieldKey f) :
    (gateBit b s n).reg f = s.reg f := by
  rcases gateBit_cases b s n with h | h | h
  · rw [h]
  · rw [h, State.setFlag, reg_setReg_ne _ _ _ _ hf]
  · rw [h, clkIgnored_reg s hwign hblock]

theorem gateBit_note (b : Bool) (s : State) (n : Nat) (h : s.flag CLK.STATUS.WIGN = true) :
    (gateBit b s n).flag CLK.STATUS.WIGN = true := by
  rcases gateBit_cases b s n with hc | hc | hc
  · rwa [hc]
  · rw [hc, flag_setFlag_ne _ _ _ _ (Ne.symm (gate_key_ne (by decide) n)), h]
  · rw [hc]
    exact (clkIgnored_shown s).1

/-- The enables of the blocks are no gate bits and no notes. -/
theorem blockEn_flag (b : Bool) (s : State) {n m : Nat} {f : Field} (hen : blockEn m = some f) : (gateBit b s n).flag f = s.flag f := by
  have hm : m < 21 := by
    unfold blockEn at hen
    split at hen
    case h_14 => cases hen
    all_goals decide
  have hfar : ∀ m < 21, ∀ f ∈ blockEn m, 0x10009 * 32 ≤ fieldKey f := by decide
  have hf := hfar m hm f hen
  have hwign : fieldKey CLK.STATUS.WIGN < 0x10009 * 32 := by decide
  have hblock : fieldKey SYS.WIGN.BLOCK < 0x10009 * 32 := by decide
  unfold State.flag
  rw [gateBit_reg b s (Ne.symm (gate_key_ne (.inr hf) n)) (by omega) (by omega)]

/-- What the bit of block `n` is after the write, and whether it was ignored. -/
def GateWritten (s t : State) (b : Bool) (n : Nat) : Prop :=
  (neverGated n → t.flag (CLK.GATE.EN n) = s.flag (CLK.GATE.EN n))
  ∧ (¬ neverGated n → b = true → t.flag (CLK.GATE.EN n) = true)
  ∧ (¬ neverGated n → b = false → (∀ f, blockEn n = some f → s.flag f = false) → t.flag (CLK.GATE.EN n) = false)
  ∧ (∀ f, ¬ neverGated n → b = false → blockEn n = some f → s.flag f = true →
    t.flag (CLK.GATE.EN n) = s.flag (CLK.GATE.EN n) ∧ t.flag CLK.STATUS.WIGN = true)

theorem gateBit_written (b : Bool) (s : State) (n : Nat) : GateWritten s (gateBit b s n) b n := by
  have hself (v : Bool) : (s.setFlag (CLK.GATE.EN n) v).flag (CLK.GATE.EN n) = v :=
    flag_setFlag_self s (CLK.GATE.EN n) v (by show 1 ≤ 32; decide) (by show 0 < 1; decide)
  refine ⟨fun h => by rw [gateBit_fixed b s h], fun h hb => ?_, fun h hb hoff => ?_, fun f h hb hen hon => ?_⟩
  · subst hb
    rw [gateBit_on s h, hself]
  · subst hb
    rw [gateBit_off s h hoff, hself]
  · subst hb
    rw [gateBit_ignored s h hen hon]
    refine ⟨?_, (clkIgnored_shown s).1⟩
    unfold State.flag
    rw [clkIgnored_reg s (gate_key_ne (by decide) n) (gate_key_ne (by decide) n)]

/-- Every bit of a list is written on its own. -/
theorem foldl_gateBit (g : Nat → Bool) {l : List Nat} (hl : ∀ n ∈ l, n < 21) (hnodup : l.Nodup) (s : State) :
    ((s.flag CLK.STATUS.WIGN = true → (l.foldl (fun t n => gateBit (g n) t n) s).flag CLK.STATUS.WIGN = true))
    ∧ (∀ n < 21, n ∉ l → (l.foldl (fun t n => gateBit (g n) t n) s).flag (CLK.GATE.EN n) = s.flag (CLK.GATE.EN n))
    ∧ ∀ n ∈ l, GateWritten s (l.foldl (fun t n => gateBit (g n) t n) s) (g n) n := by
  induction l generalizing s with
  | nil => exact ⟨fun h => h, fun _ _ _ => rfl, fun n hn => absurd hn List.not_mem_nil⟩
  | cons m l ih =>
    obtain ⟨hm, hl⟩ := List.forall_mem_cons.mp hl
    rw [List.nodup_cons] at hnodup
    obtain ⟨hfresh, hnodup⟩ := hnodup
    obtain ⟨hnote, hothers, hwritten⟩ := ih hl hnodup (gateBit (g m) s m)
    have hother (n : Nat) (hn : n < 21) (hne : n ≠ m) : (gateBit (g m) s m).flag (CLK.GATE.EN n) = s.flag (CLK.GATE.EN n) := by
      unfold State.flag
      rw [gateBit_reg (g m) s (by rw [gate_key, gate_key]; omega) (gate_key_ne (by decide) n) (gate_key_ne (by decide) n)]
    refine ⟨fun h => hnote (gateBit_note _ _ _ h), fun n hn hmem => ?_, fun n hn => ?_⟩
    · rw [List.mem_cons, not_or] at hmem
      exact (hothers n hn hmem.2).trans (hother n hn hmem.1)
    · rw [List.foldl_cons]
      rcases List.mem_cons.mp hn with rfl | hn
      · obtain ⟨hfixed, hon, hoff, hignored⟩ := gateBit_written (g n) s n
        have hkept := hothers n hm hfresh
        exact ⟨fun h => hkept.trans (hfixed h), fun h hb => hkept.trans (hon h hb), fun h hb hf => hkept.trans (hoff h hb hf),
          fun f h hb hen hf => ⟨hkept.trans (hignored f h hb hen hf).1, hnote (hignored f h hb hen hf).2⟩⟩
      · have hne : n ≠ m := fun h => hfresh (h ▸ hn)
        obtain ⟨hfixed, hon, hoff, hignored⟩ := hwritten n hn
        have hsame := hother n (hl n hn) hne
        rw [hsame] at hfixed
        refine ⟨hfixed, hon, fun h hb hf => hoff h hb fun f hen => ?_, fun f h hb hen hf => ?_⟩
        · rw [blockEn_flag (g m) s hen, hf f hen]
        · rw [← blockEn_flag (g m) s (n := m) hen] at hf
          exact hsame ▸ hignored f h hb hen hf

theorem clkGateWrite_completes (s : State) (w : Word) : Completes (.clkGateWrite w) s fun t => ∀ n < 21,
    (n ≤ 3 ∨ n = 5 → t.flag (CLK.GATE.EN n) = s.flag (CLK.GATE.EN n))
    ∧ (3 < n → n ≠ 5 → w.getLsbD n = true → t.flag (CLK.GATE.EN n) = true)
    ∧ (3 < n → n ≠ 5 → w.getLsbD n = false → (∀ f, blockEn n = some f → s.flag f = false) → t.flag (CLK.GATE.EN n) = false)
    ∧ (∀ f, 3 < n → n ≠ 5 → w.getLsbD n = false → blockEn n = some f → s.flag f = true →
      t.flag (CLK.GATE.EN n) = s.flag (CLK.GATE.EN n) ∧ t.flag CLK.STATUS.WIGN = true) := by
  obtain ⟨-, -, hwritten⟩ := foldl_gateBit (fun n => bit w.toNat n) (fun n hn => List.mem_range.mp hn) (List.nodup_range (n := 21)) s
  refine completes_of rfl fun n hn => ?_
  obtain ⟨hfixed, hon, hoff, hignored⟩ := hwritten n (List.mem_range.mpr hn)
  have hgated (hlow : 3 < n) (hne : n ≠ 5) : ¬ neverGated n := by
    unfold neverGated
    omega
  exact ⟨hfixed, fun hlow hne hb => hon (hgated hlow hne) hb, fun hlow hne hb hf => hoff (hgated hlow hne) hb hf,
    fun f hlow hne hb hen hf => hignored f (hgated hlow hne) hb hen hf⟩

end Sys2Proof.Machine.ClockRamp
end

section
/-! PROOF. ClockMonitors: a clock that fails, what the first trip does, and the clocks' return (14_clocks_and_power_states.md R457 to
R459). -/

namespace Sys2Proof.Machine.ClockMonitors

open FrameTiming (flag_eq_of_word raiseCause_flag_self raiseCause_scan)
open FallbackCauses (raiseCause_enters flag_of_inactive)
open BlankPasses (SourceKept faulted_before raiseFault_fatal sourceKept_of)
open WakeSequences (raiseFault_of_ne_fatal)
open EngineLoss (bit_bitsOf)
open ClockRamp

/-! ### Watched clocks (R457, R459) -/

theorem watchedClocks_bit (s : State) (clks : BitVec 10) {k : Nat} (hk : k < 10) :
    bit (watchedClocks s clks.toNat) k = true ↔ clks.getLsbD k = true
      ∧ (2 ≤ k ∨ s.clk.everLocked = true) ∧ (k = 9 ∨ s.power ≠ 2 ∧ s.power ≠ 3) ∧ ¬ (k = 4 ∧ s.power = 1) := by
  have hbit : bit clks.toNat k = clks.getLsbD k := rfl
  rw [watchedClocks, bit_bitsOf, decide_eq_true hk, Bool.true_and, hbit]
  simp only [Bool.and_eq_true, Bool.or_eq_true, decide_eq_true_eq, beq_iff_eq, Bool.not_eq_true', Bool.or_eq_false_iff,
    Bool.and_eq_false_iff, beq_eq_false_iff_ne, and_assoc, not_and_or, ne_eq]

/-! ### Fallback causes (R245) -/

theorem fbActive_congr {s t : State} (h : ∀ c ∈ fbCauses, t.flag c = s.flag c) : fbActive t = fbActive s := by
  unfold fbActive
  rw [Bool.eq_iff_iff, List.any_eq_true, List.any_eq_true]
  exact ⟨fun ⟨c, hc, hf⟩ => ⟨c, hc, h c hc ▸ hf⟩, fun ⟨c, hc, hf⟩ => ⟨c, hc, (h c hc).symm ▸ hf⟩⟩

/-! ### Ports (R367, R458) -/

/-- The loss of a link leaves the raster alone. -/
theorem linkLost_scan (s : State) (p : Nat) : (linkLost s p false).scan = s.scan := by
  unfold linkLost
  split
  · dsimp only
    rw [if_neg Bool.false_ne_true, raiseFault_of_ne_fatal (by decide)]
    split <;> rfl
  · rfl

theorem portTrip_scan (s : State) (p : Nat) : (portTrip s p).scan = s.scan := by
  unfold portTrip
  dsimp only
  split
  · exact linkLost_scan s p
  · exact linkLost_scan s p

theorem state_outside {p : Nat} (hp : p < 2) : Outside linkLostRegs (fieldKey (TX.STATUS.STATE p)) := by
  interval_cases p <;> exact outside_of (by decide)

/-- A tripped port is neither up nor in training. -/
theorem portTrip_state (s : State) {p : Nat} (hp : p < 2) :
    (portTrip s p).reg (TX.STATUS.STATE p) ≠ 2 ∧ (portTrip s p).reg (TX.STATUS.STATE p) ≠ 3 := by
  unfold portTrip
  dsimp only
  split
  · have hidle : ((linkLost s p false).setReg (TX.STATUS.STATE p) 1).reg (TX.STATUS.STATE p) = 1 :=
      TatexPorts.reg_setReg_state (by decide) _ _
    rw [TatexPorts.reg_setPort, hidle]
    decide
  · next hother =>
    rw [reg_eq_of_word (linkLost_word (state_outside hp) s p false)]
    exact not_or.mp hother

/-- A field of a block before the ports' that is no fault count. -/
def BeforePorts (f : Field) : Prop := fieldKey f < 0x30100 * 32 ∨ 0x30280 * 32 ≤ fieldKey f ∧ fieldKey f < 0x90000 * 32

theorem BeforePorts.count_ne {f : Field} (h : BeforePorts f) (src : Nat) : fieldKey (FLT.COUNT.COUNT src) ≠ fieldKey f :=
  (FaultInjection.count_ne (h.imp_right And.left) src).symm

theorem BeforePorts.outside {f : Field} (h : BeforePorts f) {l : List Field} (hl : ∀ x ∈ l, 0x90000 ≤ x.addr) :
    Outside l (fieldKey f) := by
  intro x hx
  have haddr := hl x hx
  have hkey : 0x90000 * 32 ≤ fieldKey x := by
    unfold fieldKey
    omega
  unfold BeforePorts at h
  omega

theorem raiseFault_corr_reg (s : State) (src : Nat) {f : Field} (hf : BeforePorts f) : (raiseFault s src 1).reg f = s.reg f := by
  rw [TatexPorts.raiseFault_corr_eq]
  exact reg_bump_ne s _ _ (hf.count_ne src)

/-- The loss of a link that is not planned is a CORR fault, which writes the fault's count beside the port's own fields. -/
theorem linkLost_reg (s : State) (p : Nat) {f : Field} (hf : BeforePorts f) : (linkLost s p false).reg f = s.reg f := by
  have hdown : fieldKey (TX.STATUS.LINK_DOWN p) ≠ fieldKey f :=
    (outside_TX_STATUS_LINK_DOWN _).mp (hf.outside (by decide)) p
  have hwrap : fieldKey (TX.STATUS.WRAP p) ≠ fieldKey f := (outside_TX_STATUS_WRAP _).mp (hf.outside (by decide)) p
  unfold linkLost
  split
  · dsimp only
    rw [if_neg Bool.false_ne_true]
    split
    · rw [TatexPorts.reg_raiseEvent, reg_setFlag_ne _ _ _ _ hwrap, raiseFault_corr_reg _ _ hf, TatexPorts.reg_raiseEvent,
        reg_setFlag_ne _ _ _ _ hdown, TatexPorts.reg_setPort]
    · rw [raiseFault_corr_reg _ _ hf, TatexPorts.reg_raiseEvent, reg_setFlag_ne _ _ _ _ hdown, TatexPorts.reg_setPort]
  · rfl

theorem portTrip_reg (s : State) (p : Nat) {f : Field} (hf : BeforePorts f) : (portTrip s p).reg f = s.reg f := by
  have hstate : fieldKey (TX.STATUS.STATE p) ≠ fieldKey f := (outside_TX_STATUS_STATE _).mp (hf.outside (by decide)) p
  unfold portTrip
  dsimp only
  split
  · rw [TatexPorts.reg_setPort, reg_setReg_ne _ _ _ _ hstate, linkLost_reg s p hf]
  · exact linkLost_reg s p hf

theorem portTrip_otherState (s : State) {p q : Nat} (hq : q < 2) (hne : fieldKey (TX.STATUS.STATE p) ≠ fieldKey (TX.STATUS.STATE q)) :
    (portTrip s p).reg (TX.STATUS.STATE q) = s.reg (TX.STATUS.STATE q) := by
  have hlost := reg_eq_of_word (linkLost_word (state_outside hq) s p false)
  unfold portTrip
  dsimp only
  split
  · rw [TatexPorts.reg_setPort, reg_setReg_ne _ _ _ _ hne, hlost]
  · exact hlost

/-! ### The first trip (R458) -/

section
variable (s : State) (w : Nat)

/-- Cause, outputs and ports of the first trip. -/
def tripped : State := portTrip (portTrip (auxForce (raiseCause s SAFE.FB_CAUSE.CLOCK) true) 0) 1

theorem tripped_scan : (tripped s).scan = (raiseCause s SAFE.FB_CAUSE.CLOCK).scan :=
  (portTrip_scan _ 1).trans (portTrip_scan _ 0)

/-- The trip's registers are those of the raised cause, but for the ports and PLL_LOCK. -/
theorem clockTrip_reg {f : Field} (hports : BeforePorts f) (hlock : fieldKey CLK.STATUS.PLL_LOCK ≠ fieldKey f) :
    (clockTrip s w).reg f = (raiseCause s SAFE.FB_CAUSE.CLOCK).reg f :=
  (reg_setFlag_ne _ _ _ _ hlock).trans ((portTrip_reg _ 1 hports).trans (portTrip_reg _ 0 hports))

theorem clockTrip_ports {p : Nat} (hp : p < 2) :
    (clockTrip s w).reg (TX.STATUS.STATE p) ≠ 2 ∧ (clockTrip s w).reg (TX.STATUS.STATE p) ≠ 3 := by
  have hlock : fieldKey CLK.STATUS.PLL_LOCK ≠ fieldKey (TX.STATUS.STATE p) := by
    interval_cases p <;> decide
  have hreg : (clockTrip s w).reg (TX.STATUS.STATE p) = (tripped s).reg (TX.STATUS.STATE p) := reg_setFlag_ne _ _ _ _ hlock
  rw [hreg]
  unfold tripped
  interval_cases p
  · rw [portTrip_otherState _ (by decide) (by decide)]
    exact portTrip_state _ (by decide)
  · exact portTrip_state _ (by decide)

theorem clockTrip_clocks : (clockTrip s w).clk.lost = true ∧ (clockTrip s w).clk.div = List.replicate 6 0
    ∧ (clockTrip s w).synced = false := ⟨rfl, rfl, rfl⟩

theorem clockTrip_frames : (clockTrip s w).scan.loading = false ∧ (clockTrip s w).scan.hold = [] ∧ (clockTrip s w).pix.back = []
    ∧ ∀ g ∈ (clockTrip s w).scan.groups, g.swapDue = false := by
  refine ⟨rfl, rfl, rfl, fun g hg => ?_⟩
  obtain ⟨g', -, rfl⟩ := List.mem_map.mp hg
  rfl

theorem clockTrip_aux : (clockTrip s w).aux.forced = true ∧ ∀ g ∈ (clockTrip s w).aux.gates, g.high = 0 := by
  have haux : (clockTrip s w).aux = (auxForce (raiseCause s SAFE.FB_CAUSE.CLOCK) true).aux := by
    show (tripped s).aux = _
    simp [tripped]
  rw [haux]
  refine ⟨rfl, fun g hg => ?_⟩
  obtain ⟨g', -, rfl⟩ := List.mem_map.mp hg
  rfl

theorem clockTrip_counts : (clockTrip s w).stats.underruns = s.stats.underruns ∧ (clockTrip s w).stats.aborts = s.stats.aborts
    ∧ (clockTrip s w).stats.blocked = s.stats.blocked ∧ (clockTrip s w).guard.blockRun = s.guard.blockRun := by
  have hstats : (tripped s).stats = s.stats := by simp [tripped, auxForce]
  have hguard : (tripped s).guard = s.guard := by simp [tripped, auxForce]
  refine ⟨?_, ?_, ?_, ?_⟩
  · show (tripped s).stats.underruns = _
    rw [hstats]
  · show (tripped s).stats.aborts = _
    rw [hstats]
  · show (tripped s).stats.blocked = _
    rw [hstats]
  · show (tripped s).guard.blockRun = _
    rw [hguard]

theorem clockTrip_fallback (h : fbActive s = false) :
    AllOnFallback (clockTrip s w) ∧ Counted s (clockTrip s w) SAFE.FB_ENTRIES.VALUE 1 := by
  obtain ⟨hdrive, hcount⟩ := raiseCause_enters (s := s) (u := s) (c := SAFE.FB_CAUSE.CLOCK) (by decide) h rfl
  refine ⟨fun g hg => ?_, (clockTrip_reg s w (by unfold BeforePorts; decide) (by decide)).trans hcount⟩
  have hgroups : (clockTrip s w).scan.groups
      = (tripped s).scan.groups.map (fun (g : Group) => { g with swapDue := false, gap := false }) := rfl
  rw [hgroups, tripped_scan] at hg
  obtain ⟨g', hg', rfl⟩ := List.mem_map.mp hg
  exact hdrive g' hg'

end

/-! ### CLOCK_MONITOR_TRIP -/

/-- The failed clocks latched and shown. -/
def latched (s : State) (w : Nat) : State := (s.orReg CLK.MON_FAIL.CLK w).setFlag CLK.STATUS.CLOCK_OK false

theorem latched_reg (s : State) (w : Nat) {f : Field} (hfail : fieldKey CLK.MON_FAIL.CLK ≠ fieldKey f)
    (hok : fieldKey CLK.STATUS.CLOCK_OK ≠ fieldKey f) : (latched s w).reg f = s.reg f :=
  reg_eq_of_word ((setFlag_word _ _ _ hok).trans (orReg_word _ _ _ hfail))

theorem latched_fail (s : State) (w : Nat) {k : Nat} (hk : k < 10) :
    bit ((latched s w).reg CLK.MON_FAIL.CLK) k = (bit (s.reg CLK.MON_FAIL.CLK) k || bit w k) := by
  have hreg : (latched s w).reg CLK.MON_FAIL.CLK = (s.reg CLK.MON_FAIL.CLK ||| w) % 2 ^ 10 :=
    (reg_setFlag_ne _ _ _ _ (by decide)).trans (reg_setReg_self _ _ _ (by decide))
  rw [hreg, bit, Nat.testBit_mod_two_pow, decide_eq_true hk, Bool.true_and, Nat.testBit_or]
  rfl

theorem latched_ok (s : State) (w : Nat) : (latched s w).flag CLK.STATUS.CLOCK_OK = false :=
  flag_setFlag_self _ _ _ (by decide) (by decide)

theorem latched_fbActive (s : State) (w : Nat) : fbActive (latched s w) = fbActive s := by
  have hfar : ∀ c ∈ fbCauses, fieldKey CLK.MON_FAIL.CLK ≠ fieldKey c ∧ fieldKey CLK.STATUS.CLOCK_OK ≠ fieldKey c := by decide
  refine fbActive_congr fun c hc => ?_
  unfold State.flag
  rw [latched_reg s w (hfar c hc).1 (hfar c hc).2]

theorem clockMonitorTrip_completes {s : State} (clks : BitVec 10) (hheld : domainsHeld s = false)
    (hw : watchedClocks s clks.toNat ≠ 0) : Completes (.clockMonitorTrip clks) s fun t =>
      (∀ k < 10, bit (t.reg CLK.MON_FAIL.CLK) k = (bit (s.reg CLK.MON_FAIL.CLK) k || bit (watchedClocks s clks.toNat) k))
      ∧ t.flag CLK.STATUS.CLOCK_OK = false ∧ t.stats.underruns = s.stats.underruns ∧ t.stats.aborts = s.stats.aborts
      ∧ t.stats.blocked = s.stats.blocked ∧ t.guard.blockRun = s.guard.blockRun
      ∧ (s.clk.lost = true → t.clk = s.clk ∧ t.scan = s.scan ∧ t.net = s.net ∧ t.flt = s.flt)
      ∧ (s.clk.lost = false → t.clk.lost = true ∧ t.clk.div = List.replicate 6 0 ∧ t.synced = false
        ∧ t.flag SAFE.FB_CAUSE.CLOCK = true ∧ (fbActive s = false → AllOnFallback t ∧ Counted s t SAFE.FB_ENTRIES.VALUE 1)
        ∧ t.aux.forced = true ∧ (∀ g ∈ t.aux.gates, g.high = 0)
        ∧ t.scan.loading = false ∧ t.scan.hold = [] ∧ t.pix.back = [] ∧ (∀ g ∈ t.scan.groups, g.swapDue = false)
        ∧ ∀ p < 2, t.reg (TX.STATUS.STATE p) ≠ 2 ∧ t.reg (TX.STATUS.STATE p) ≠ 3) := by
  obtain ⟨w, hwatched⟩ : ∃ w, w = watchedClocks s clks.toNat := ⟨_, rfl⟩
  rw [← hwatched] at hw ⊢
  obtain ⟨u, hu⟩ : ∃ u, u = latched s w := ⟨_, rfl⟩
  have hrun : exec (.clockMonitorTrip clks) s = .next (if s.clk.lost then u else clockTrip u w) := by
    subst hu hwatched
    exact congrArg Host.Outcome.next (if_neg (by simp [hw, hheld]))
  cases hlost : s.clk.lost with
  | true =>
    rw [hlost, if_pos rfl] at hrun
    refine completes_of hrun ⟨fun k hk => hu ▸ latched_fail s w hk, hu ▸ latched_ok s w, ?_, ?_, ?_, ?_, fun _ => ?_, by simp⟩
    all_goals
      rw [hu]
    exacts [rfl, rfl, rfl, rfl, ⟨rfl, rfl, rfl, rfl⟩]
  | false =>
    rw [hlost, if_neg Bool.false_ne_true] at hrun
    have hshown {f : Field} (hport : BeforePorts f) (hcause : Outside raiseCauseRegs (fieldKey f))
        (hclock : fieldKey SAFE.FB_CAUSE.CLOCK ≠ fieldKey f) (hlock : fieldKey CLK.STATUS.PLL_LOCK ≠ fieldKey f) :
        (clockTrip u w).reg f = u.reg f :=
      (clockTrip_reg u w hport hlock).trans (reg_eq_of_word (raiseCause_word hcause u _ hclock))
    obtain ⟨hunder, habort, hblocked, hrunning⟩ := clockTrip_counts u w
    obtain ⟨hclk, hdiv, hsynced⟩ := clockTrip_clocks u w
    obtain ⟨hload, hhold, hback, hswap⟩ := clockTrip_frames u w
    obtain ⟨hforced, hgates⟩ := clockTrip_aux u w
    refine completes_of hrun ⟨fun k hk => ?_, ?_, hunder.trans (hu ▸ rfl), habort.trans (hu ▸ rfl), hblocked.trans (hu ▸ rfl),
      hrunning.trans (hu ▸ rfl), by simp, fun _ => ⟨hclk, hdiv, hsynced, ?_, fun hinactive => ?_, hforced, hgates, hload, hhold,
        hback, hswap, fun p hp => clockTrip_ports u w hp⟩⟩
    · rw [hshown (by unfold BeforePorts; decide) (outside_of (by decide)) (by decide) (by decide), hu, latched_fail s w hk]
    · unfold State.flag
      rw [hshown (by unfold BeforePorts; decide) (outside_of (by decide)) (by decide) (by decide), hu]
      exact latched_ok s w
    · unfold State.flag
      rw [clockTrip_reg u w (by unfold BeforePorts; decide) (by decide)]
      exact raiseCause_flag_self u SAFE.FB_CAUSE.CLOCK (outside_of (by decide)) (by decide) (by decide)
    · obtain ⟨hdrive, hcount⟩ := clockTrip_fallback u w (by rw [hu, latched_fbActive, hinactive])
      refine ⟨hdrive, ?_⟩
      unfold Counted at hcount ⊢
      rwa [hu, latched_reg s w (by decide) (by decide), ← hu] at hcount

/-! ### CLOCKS_GOOD (R458) -/

section
variable (s : State)

/-- The clocks shown good and the outputs released. -/
def clocksShown : State :=
  auxForce ((({ s with clk := { s.clk with lost := false } } : State).setFlag CLK.STATUS.CLOCK_OK true).setFlag
    CLK.STATUS.PLL_LOCK s.clk.everLocked) false

/-- The idle ports that are enabled train again. -/
def portsBack : State := retrainIdle (retrainIdle (clocksShown s) 0) 1

theorem clocksBack_eq : clocksBack s = raiseFault (portsBack s) 3 3 := rfl

theorem portsBack_reg {f : Field} (hk : Outside retrainIdleRegs (fieldKey f)) : (portsBack s).reg f = (clocksShown s).reg f :=
  reg_eq_of_word ((retrainIdle_word hk _ 1).trans (retrainIdle_word hk _ 0))

theorem clocksShown_reg {f : Field} (hok : fieldKey CLK.STATUS.CLOCK_OK ≠ fieldKey f)
    (hlock : fieldKey CLK.STATUS.PLL_LOCK ≠ fieldKey f) : (clocksShown s).reg f = s.reg f :=
  reg_eq_of_word ((setFlag_word _ _ _ hlock).trans (setFlag_word _ _ _ hok))

theorem retrainIdle_real (u : State) (p : Nat) : (retrainIdle u p).flt = u.flt := by simp

theorem clocksGood_completes (hlost : s.clk.lost = true) : Completes .clocksGood s fun t =>
    t.clk.lost = false ∧ t.flag CLK.STATUS.CLOCK_OK = true ∧ t.flag CLK.STATUS.PLL_LOCK = s.clk.everLocked ∧ t.aux.forced = false
    ∧ Faulted s t 3 3 ∧ t.flag SAFE.FB_CAUSE.FATAL = true ∧ t.flag SAFE.FB_CAUSE.CLOCK = s.flag SAFE.FB_CAUSE.CLOCK := by
  have hrun : exec .clocksGood s = .next (clocksBack s) := congrArg Host.Outcome.next (if_pos hlost)
  have hback {f : Field} (hk : Outside raiseFaultRegs (fieldKey f)) (hr : Outside retrainIdleRegs (fieldKey f)) :
      (clocksBack s).reg f = (clocksShown s).reg f :=
    (reg_eq_of_word (raiseFault_word hk _ 3 3)).trans (portsBack_reg s hr)
  have hclk : (clocksBack s).clk = (clocksShown s).clk := by simp [clocksBack_eq, portsBack]
  have haux : (clocksBack s).aux = (clocksShown s).aux := by simp [clocksBack_eq, portsBack]
  have hkept : SourceKept 3 s (portsBack s) :=
    ⟨(portsBack_reg s (outside_of (by decide))).trans (clocksShown_reg s (by decide) (by decide)),
      congrArg (fun f : Flt => sparseGet none f.real 3) ((retrainIdle_real _ 1).trans (retrainIdle_real _ 0))⟩
  refine completes_of hrun ⟨hclk ▸ rfl, ?_, ?_, haux ▸ rfl, faulted_before hkept (raiseFault_faulted _ 3 3),
    raiseFault_fatal (by decide) _, ?_⟩
  · unfold State.flag
    rw [hback (outside_of (by decide)) (outside_of (by decide))]
    exact (flag_setFlag_ne _ _ _ _ (by decide)).trans (flag_setFlag_self _ _ _ (by decide) (by decide))
  · unfold State.flag
    rw [hback (outside_of (by decide)) (outside_of (by decide))]
    exact flag_setFlag_self _ _ _ (by decide) (by decide)
  · unfold State.flag
    rw [hback (outside_of (by decide)) (outside_of (by decide)), clocksShown_reg s (by decide) (by decide)]

end

/-- Settles O52: the reference, the ramp and the writes by their operations, the trip by its cause, ports, frames and outputs. -/
theorem clocks : Obligations.Clocks :=
  ⟨fun _ good hcold hheld hsrc => refclkDetectWindow_completes good hcold hheld hsrc,
    fun _ hheld hsrc => crystalDelayExpiry_run hheld hsrc,
    fun _ hheld hcellar hdeep href => pllLock_completes hheld hcellar hdeep href,
    fun _ _ hs hlock hruns hd hbefore hramps => rampDwellStep_completes hs hlock hruns hd hbefore hramps,
    fun _ h => rampDwellStep_done h, fun s clks _ hk => watchedClocks_bit s clks hk,
    fun _ clks hheld hw => clockMonitorTrip_completes clks hheld hw, fun s hlost => clocksGood_completes s hlost,
    clkDivWrite_completes, ssRefWrite_completes, clkGateWrite_completes⟩

end Sys2Proof.Machine.ClockMonitors
end

section
/-! PROOF. FaultDetection: what a detected fault counts, degrades and reports (17_faults_and_reactions.md R530, R532, R536). -/

namespace Sys2Proof.Machine.FaultDetection

open BlankPasses (SourceKept faulted_before faulted_after sourceKept_of raiseFault_fatal raiseFault_sourceKept)
open FallbackCauses (flag_of_inactive allFallback_drive)
open EngineLoss (faultEngine_lost abortFrame_loading)
open ClockMonitors (fbActive_congr)

/-! ### The FATAL cause (R245, R536) -/

/-- The first cause, injected or real, puts every row group on fallback drive. -/
theorem raiseCauseInj_drive {u : State} {c : Field} (hc : c ∈ fbCauses) (h : fbActive u = false) (inj : Bool) :
    AllOnFallback (raiseCauseInj u c inj) := by
  have hscan : (raiseCauseInj u c inj).scan = (allFallback u).scan := by
    unfold raiseCauseInj
    rw [if_neg (ne_true_of_eq_false (flag_of_inactive hc h))]
    dsimp only
    rw [if_neg (ne_true_of_eq_false h)]
    split <;> rfl
  unfold AllOnFallback
  rw [hscan]
  exact allFallback_drive u

/-- The count of a source is no fallback cause. -/
theorem fbActive_bump (s : State) (src : Nat) : fbActive (s.bump (FLT.COUNT.COUNT src)) = fbActive s := by
  have hfar : ∀ c ∈ fbCauses, fieldKey c < 0x30100 * 32 ∨ 0x30280 * 32 ≤ fieldKey c := by decide
  refine fbActive_congr fun c hc => ?_
  unfold State.flag
  rw [reg_bump_ne _ _ _ (FaultInjection.count_ne (hfar c hc) src).symm]

theorem raiseFault_drive {src : Nat} {s : State} (h : 3 ∈ sourceClasses src) (hnone : fbActive s = false) :
    AllOnFallback (raiseFault s src 3) := by
  unfold raiseFault fatalAtDetection
  rw [if_pos ⟨rfl, h⟩]
  refine raiseCauseInj_drive (by decide) ?_ false
  exact (FallbackCauses.fbActive_of_regs (s := s.bump (FLT.COUNT.COUNT src)) (by rfl)).trans ((fbActive_bump s src).trans hnone)

/-! ### What a detection degrades (R530) -/

section
variable (u : State) (src cls : Nat)

theorem degrade_sourceKept (k : Nat) : SourceKept k u (degrade u src cls) :=
  sourceKept_of (degrade_word (FaultInjection.count_outside (by decide +kernel) k) u src cls) (by simp)

/-- Sources that list FATAL have no degradation of their own here. -/
theorem degrade_fatal {src : Nat} (h : 3 ∈ sourceClasses src) (u : State) : degrade u src 3 = u := by
  have hnot : ∀ n ∈ [18, 19, 59, 20], 3 ∉ sourceClasses n := by decide
  have hne : ∀ n ∈ [18, 19, 59, 20], src ≠ n := fun n hn he => hnot n hn (he ▸ h)
  simp only [List.forall_mem_cons, List.not_mem_nil, false_implies, implies_true, and_true] at hne
  obtain ⟨h18, h19, h59, h20⟩ := hne
  unfold degrade
  rw [if_neg (by decide), if_neg (by simp [h18, h19, h59]), if_neg h20]

theorem degrade_abort {src : Nat} (h : src = 18 ∨ src = 19 ∨ src = 59) (u : State) :
    (degrade u src 2).scan.loading = false := by
  unfold degrade
  rw [if_neg (by decide), if_pos h]
  exact abortFrame_loading u

end

/-! ### OTP words (R530) -/

/-- A broken seal is a fault of source 11 and leaves the others. -/
theorem otpFails_sourceKept (u : State) (w : OtpWord) : SourceKept 12 u (otpFails u w) := by
  match w with
  | .seal =>
    have htold : SourceKept 12 u (FallbackCauses.sealTold u 0) :=
      sourceKept_of ((congrArg (fun m => wordAt m _) (by simp [FallbackCauses.sealTold])).trans
        (applyLimits_word (outside_of (by decide)) u (limitsOf u true))) rfl
    exact htold.trans (raiseFault_sourceKept (by decide) (by decide) _ 2)
  | .hostKey => exact ⟨rfl, rfl⟩
  | .serviceKey => exact ⟨rfl, rfl⟩
  | .safeKey => exact ⟨rfl, rfl⟩

theorem lostKeys_bit (m k : Nat) : bit (m ||| 2 ^ k) k = true := by simp [bit]

theorem otpFails_keys (u : State) (w : OtpWord) : (w = .hostKey → otpKey (otpFails u w) 0 = none)
    ∧ (w = .serviceKey → otpKey (otpFails u w) 1 = none) ∧ (w = .safeKey → otpKey (otpFails u w) 2 = none)
    ∧ (w = .seal → (otpFails u w).guard.limits.broken = true) := by
  refine ⟨fun h => ?_, fun h => ?_, fun h => ?_, fun h => ?_⟩
  · subst h
    exact if_pos (lostKeys_bit _ 0)
  · subst h
    exact if_pos (lostKeys_bit _ 1)
  · subst h
    exact if_pos (lostKeys_bit _ 2)
  · subst h
    exact (congrArg Limits.broken (FallbackCauses.breakSeal_limits u 0)).trans (FallbackCauses.limitsOf_broken u)

/-! ### FAULT_DETECT -/

theorem classCode_cont (cls : FaultClass) : classCode cls = 2 ↔ cls = .cont := by cases cls <;> decide

theorem detect_listed {s : State} {src c : Nat} (w : OtpWord) (h : c ∈ sourceClasses src) (hown : ¬ (25 ≤ src ∧ src ≤ 42 ∧ c = 2)) :
    detect s src c w = if src = 12 then otpFails (degrade (raiseFault s src c) src c) w else degrade (raiseFault s src c) src c := by
  unfold detect
  rw [if_neg (not_not_intro h), if_neg hown]

theorem faultDetect_run {s : State} (src : Nat) (cls : FaultClass) (w : OtpWord) (hon : domainsOff s = false) :
    exec (.faultDetect src cls w) s = .next (detect s src (classCode cls) w) :=
  congrArg Host.Outcome.next (if_neg (by simp [hon]))

theorem faultDetect_completes {s : State} {src : Nat} {cls : FaultClass} (w : OtpWord) (hon : domainsOff s = false)
    (hlist : classCode cls ∈ sourceClasses src) (hown : ¬ (25 ≤ src ∧ src ≤ 42 ∧ cls = .cont)) :
    Completes (.faultDetect src cls w) s fun t => Faulted s t src (classCode cls)
      ∧ (cls = .fatal → t.flag SAFE.FB_CAUSE.FATAL = true ∧ (fbActive s = false → AllOnFallback t))
      ∧ (src = 18 ∨ src = 19 ∨ src = 59 → cls = .cont → t.scan.loading = false)
      ∧ (src = 12 → (w = .hostKey → otpKey t 0 = none) ∧ (w = .serviceKey → otpKey t 1 = none)
        ∧ (w = .safeKey → otpKey t 2 = none) ∧ (w = .seal → t.guard.limits.broken = true)) := by
  have hrun := faultDetect_run src cls w hon
  rw [detect_listed w hlist (by rwa [classCode_cont])] at hrun
  have hdegraded : Faulted s (degrade (raiseFault s src (classCode cls)) src (classCode cls)) src (classCode cls) :=
    faulted_after (raiseFault_faulted s src _) (degrade_sourceKept _ src _ src)
  by_cases h12 : src = 12
  · subst h12
    have hcont : cls = .cont := by
      cases cls with
      | cont => rfl
      | corr => exact absurd hlist (by decide)
      | fatal => exact absurd hlist (by decide)
    rw [if_pos rfl] at hrun
    exact completes_of hrun ⟨faulted_after hdegraded (otpFails_sourceKept _ w), fun h => (by simp [hcont] at h),
      fun h => (by simp at h), fun _ => otpFails_keys _ w⟩
  · rw [if_neg h12] at hrun
    refine completes_of hrun ⟨hdegraded, fun h => ?_, fun h hc => ?_, fun h => absurd h h12⟩
    · subst h
      show (degrade (raiseFault s src 3) src 3).flag _ = true ∧ _
      rw [show classCode .fatal = 3 from rfl, degrade_fatal hlist]
      exact ⟨raiseFault_fatal hlist s, raiseFault_drive hlist⟩
    · subst hc
      exact degrade_abort h _

theorem faultDetect_engine {s : State} {n : Nat} (w : OtpWord) (hon : domainsOff s = false) (hn : n < 18)
    (hactive : isActive s n = true) : Completes (.faultDetect (25 + n) .cont w) s fun t => EngineLost s t n := by
  have hlist : 2 ∈ sourceClasses (25 + n) := by interval_cases n <;> decide
  have hdetect : detect s (25 + n) 2 w = faultEngine s n false := by
    unfold detect
    rw [if_neg (not_not_intro hlist), if_pos ⟨by omega, by omega, rfl⟩, Nat.add_sub_cancel_left]
  exact completes_of ((faultDetect_run (25 + n) .cont w hon).trans (congrArg Host.Outcome.next hdetect)) (faultEngine_lost hn hactive)

/-- A class that the source does not list changes nothing. -/
theorem faultDetect_unlisted {s : State} {src : Nat} {cls : FaultClass} (w : OtpWord) (h : classCode cls ∉ sourceClasses src) :
    exec (.faultDetect src cls w) s = .next s := by
  have hdetect : detect s src (classCode cls) w = s := if_pos h
  show Host.Outcome.next (if domainsOff s then s else detect s src (classCode cls) w) = _
  rw [hdetect, ite_self]

end Sys2Proof.Machine.FaultDetection
end

section
/-! PROOF. FaultGrant: which request the arbiter grants, and what a granted fault latches, reports and causes
(17_faults_and_reactions.md R532 to R534, R536, R538, R541). -/

namespace Sys2Proof.Machine.FaultGrant

open FaultInjection (raiseCauseInj_fatal)
open FaultDetection (raiseCauseInj_drive)
open ClockMonitors (fbActive_congr)
open FrameTiming (reg_setReg_of_lt flag_eq_of_word)

/-! ### The position granted next (R532) -/

/-- The waiting position that comes first after the last one granted. -/
theorem nextGrant_of_first {s : State} {p : Nat} (hlast : s.flt.last < 98) (hp : p < 98) (hwait : waitsAt s p = true)
    (hfirst : ∀ q < 98, waitsAt s q = true → (p + 97 - s.flt.last) % 98 ≤ (q + 97 - s.flt.last) % 98) : nextGrant s = some p := by
  have hfind : (List.range 98).find? (waitsAt s ∘ fun i => (s.flt.last + 1 + i) % 98) = some ((p + 97 - s.flt.last) % 98) := by
    have hat : (s.flt.last + 1 + (p + 97 - s.flt.last) % 98) % 98 = p := by omega
    refine List.find?_range_eq_some.mpr ⟨by simpa only [Function.comp, hat] using hwait,
      List.mem_range.mpr (Nat.mod_lt _ (by decide)), fun j hj => ?_⟩
    have hback : ((s.flt.last + 1 + j) % 98 + 97 - s.flt.last) % 98 = j := by omega
    rw [Function.comp, Bool.not_eq_true']
    by_contra hw
    have hle := hfirst _ (Nat.mod_lt _ (by decide)) (Bool.eq_true_of_not_eq_false hw)
    omega
  have hpos : (s.flt.last + 1 + (p + 97 - s.flt.last) % 98) % 98 = p := by omega
  unfold nextGrant
  rw [List.find?_map, hfind]
  exact congrArg some hpos

theorem nextGrant_of_none {s : State} (h : ∀ p < 98, waitsAt s p = false) : nextGrant s = none := by
  unfold nextGrant
  refine List.find?_eq_none.mpr fun p hp => ?_
  obtain ⟨i, -, rfl⟩ := List.mem_map.mp hp
  simp [h _ (Nat.mod_lt _ (by decide))]

/-! ### Events (R427) -/

theorem mem_lastN_append {α : Type} (l : List α) (x : α) : x ∈ lastN 256 (l ++ [x]) := by
  unfold lastN
  rw [List.drop_append_of_le_length (by simp)]
  exact List.mem_append_right _ List.mem_cons_self

theorem enqueueEvent_queued (u : State) (e : EventRec) : EventQueued u (enqueueEvent u e) e := by
  have hhistory : { e with eseq := u.evt.eseq } ∈ (enqueueEvent u e).evt.history :=
    StepBounds.enqueueEvent_history u e ▸ mem_lastN_append _ _
  by_cases hroom : u.evt.queue.length < 128
  · have hput : (enqueueEvent u e).evt = { u.evt with
        history := lastN 256 (u.evt.history ++ [{ e with eseq := u.evt.eseq }]), eseq := (u.evt.eseq + 1) % 2 ^ 32
        queue := u.evt.queue ++ [{ e with eseq := u.evt.eseq }], unsent := min 128 (u.evt.unsent + 1) } := by
      unfold enqueueEvent
      dsimp only
      rw [if_pos hroom]
    exact ⟨by simp only [hput], hhistory, fun _ => by simp only [hput], fun h => by omega⟩
  · have hlost : (enqueueEvent u e).evt = { u.evt with
        history := lastN 256 (u.evt.history ++ [{ e with eseq := u.evt.eseq }]), eseq := (u.evt.eseq + 1) % 2 ^ 32
        lost := u.evt.lost + 1 } := by
      unfold enqueueEvent
      dsimp only
      rw [if_neg hroom, State.setFlag_evt]
    exact ⟨by simp only [hlost], hhistory, fun h => absurd h hroom, fun _ => by simp only [hlost, and_self]⟩

theorem eventQueued_of_evt {s t u v : State} {e : EventRec} (h : EventQueued s t e) (hs : u.evt = s.evt) (ht : v.evt = t.evt) :
    EventQueued u v e := by
  unfold EventQueued at h ⊢
  rwa [hs, ht]

/-! ### What a granted fault shows (R533, R534, R541) -/

theorem pendBit_range (j : Bool) (k : Nat) : 0x30000 * 32 ≤ fieldKey (pendBit j k) ∧ fieldKey (pendBit j k) < 0x30000 * 32 + 8 := by
  unfold pendBit
  split <;> decide

/-- The six pending bits are different bits. -/
theorem pendBit_ne {i j : Bool} {c k : Nat} (hc : c = 1 ∨ c = 2 ∨ c = 3) (hk : k = 1 ∨ k = 2 ∨ k = 3) (h : i ≠ j ∨ c ≠ k) :
    fieldKey (pendBit i c) ≠ fieldKey (pendBit j k) := by
  rcases hc with rfl | rfl | rfl <;> rcases hk with rfl | rfl | rfl <;> revert i j <;> decide

theorem pendBit_width (j : Bool) (k : Nat) : (pendBit j k).width = 1 := by
  unfold pendBit
  split <;> rfl

/-- LAST names the fault granted. -/
def lastShown (u : State) (src c : Nat) (inj esc : Bool) : State :=
  (((u.setReg FLT.LAST.SRC src).setFlag FLT.LAST.INJ inj).setReg FLT.LAST.CLASS c).setFlag FLT.LAST.ESCALATED esc

def lastRegs : List Field := [FLT.LAST.SRC, FLT.LAST.INJ, FLT.LAST.CLASS, FLT.LAST.ESCALATED]

/-- The first fault while the latch of its kind is free. -/
def latched (u : State) (src c lt : Nat) (inj esc : Bool) : State :=
  if inj then latchInjFirst u src c esc else latchFirst u src c lt esc

/-- The class pending, the latch and LAST. -/
def shown (s : State) (src c lt : Nat) (inj esc : Bool) : State :=
  lastShown (latched (s.setFlag (pendBit inj c) true) src c lt inj esc) src c inj esc

def faultRecord (s : State) (src c lt : Nat) (inj esc : Bool) : EventRec :=
  ⟨0x0C01, s.reg TXLA.NODE.ADDR, 0, lt % 2 ^ 48, inj, padTo 16 (toLe 2 src ++ toLe 1 (c + 4 * b2n esc))⟩

/-- Everything of a grant before the reaction. -/
def reported (s : State) (src c lt : Nat) (inj esc : Bool) : State :=
  enqueueEvent (shown s src c lt inj esc) (faultRecord s src c lt inj esc)

theorem grantFault_eq (s : State) (src : Nat) (w : FaultWait) (inj : Bool) : grantFault s src w inj
    = react (reported s src (classInForce s inj w.cls).1 w.lt inj (classInForce s inj w.cls).2) src (classInForce s inj w.cls).1 inj :=
  rfl

section
variable (s : State) (src c lt : Nat) (inj esc : Bool)

theorem lastShown_reg (u : State) {f : Field} (h : Outside lastRegs (fieldKey f)) : (lastShown u src c inj esc).reg f = u.reg f := by
  simp only [lastRegs, outside_cons, outside_nil, and_true] at h
  obtain ⟨hsrc, hinj, hcls, hesc⟩ := h
  unfold lastShown
  rw [reg_setFlag_ne _ _ _ _ hesc, reg_setReg_ne _ _ _ _ hcls, reg_setFlag_ne _ _ _ _ hinj, reg_setReg_ne _ _ _ _ hsrc]

theorem latched_reg (u : State) {f : Field} (h : Outside (latchFirstRegs ++ latchInjFirstRegs) (fieldKey f)) :
    (latched u src c lt inj esc).reg f = u.reg f := by
  rw [outside_append] at h
  refine reg_eq_of_word ?_
  unfold latched
  split
  · exact latchInjFirst_word h.2 u src c esc
  · exact latchFirst_word h.1 u src c lt esc

/-- What lies apart from the latches, from LAST and from the pending bits. -/
theorem shown_reg {f : Field} (hlatch : Outside (latchFirstRegs ++ latchInjFirstRegs) (fieldKey f)) (hlast : Outside lastRegs (fieldKey f))
    (hpend : fieldKey f < 0x30000 * 32 ∨ 0x30000 * 32 + 8 ≤ fieldKey f) : (shown s src c lt inj esc).reg f = s.reg f := by
  unfold shown
  rw [lastShown_reg _ _ _ _ _ hlast, latched_reg _ _ _ _ _ _ hlatch]
  refine reg_setFlag_ne _ _ _ _ ?_
  have := pendBit_range inj c
  omega

/-- The pending bits are those of the class set. -/
theorem shown_pend (j : Bool) (k : Nat) :
    (shown s src c lt inj esc).reg (pendBit j k) = (s.setFlag (pendBit inj c) true).reg (pendBit j k) := by
  have hrange := pendBit_range j k
  have hfar : ∀ f ∈ latchFirstRegs ++ latchInjFirstRegs ++ lastRegs, 0x30000 * 32 + 8 ≤ fieldKey f := by decide
  have hout : Outside (latchFirstRegs ++ latchInjFirstRegs ++ lastRegs) (fieldKey (pendBit j k)) := by
    intro f hf
    have := hfar f hf
    omega
  rw [outside_append] at hout
  unfold shown
  rw [lastShown_reg _ _ _ _ _ hout.2, latched_reg _ _ _ _ _ _ hout.1]

theorem shown_evt : (shown s src c lt inj esc).evt = s.evt := by
  unfold shown lastShown latched
  split <;> simp

theorem shown_flt : (shown s src c lt inj esc).flt = s.flt := by
  unfold shown lastShown latched
  split <;> simp

theorem lastShown_last (u : State) (hsrc : src < 128) (hc : c < 4) : (lastShown u src c inj esc).reg FLT.LAST.SRC = src
    ∧ (lastShown u src c inj esc).reg FLT.LAST.CLASS = c ∧ (lastShown u src c inj esc).flag FLT.LAST.INJ = inj
    ∧ (lastShown u src c inj esc).flag FLT.LAST.ESCALATED = esc := by
  unfold lastShown
  refine ⟨?_, ?_, ?_, flag_setFlag_self _ _ _ (by decide) (by decide)⟩
  · rw [reg_setFlag_ne _ _ _ _ (by decide), reg_setReg_ne _ _ _ _ (by decide), reg_setFlag_ne _ _ _ _ (by decide)]
    exact reg_setReg_of_lt _ _ _ (by decide) hsrc
  · rw [reg_setFlag_ne _ _ _ _ (by decide)]
    exact reg_setReg_of_lt _ _ _ (by decide) hc
  · rw [flag_setFlag_ne _ _ _ _ (by decide), flag_setReg_ne _ _ _ _ (by decide)]
    exact flag_setFlag_self _ _ _ (by decide) (by decide)

/-- FIRST free: it takes the fault (R534). -/
theorem latchFirst_free {u : State} (h : u.flag FLT.FIRST.VALID = false) (hsrc : src < 128) (hc : c < 4) :
    (latchFirst u src c lt esc).flag FLT.FIRST.VALID = true ∧ (latchFirst u src c lt esc).reg FLT.FIRST.SRC = src
    ∧ (latchFirst u src c lt esc).reg FLT.FIRST.CLASS = c ∧ (latchFirst u src c lt esc).flag FLT.FIRST.ESCALATED = esc
    ∧ (latchFirst u src c lt esc).reg FLT.FIRST_LT_LO.LT = lt % 2 ^ 32 := by
  unfold latchFirst
  rw [if_neg (ne_true_of_eq_false h)]
  dsimp only
  refine ⟨?_, ?_, ?_, ?_, ?_⟩
  · rw [flag_setReg_ne _ _ _ _ (by decide), flag_setReg_ne _ _ _ _ (by decide)]
    exact flag_setFlag_self _ _ _ (by decide) (by decide)
  · rw [reg_setReg_ne _ _ _ _ (by decide), reg_setReg_ne _ _ _ _ (by decide), reg_setFlag_ne _ _ _ _ (by decide),
      reg_setFlag_ne _ _ _ _ (by decide), reg_setReg_ne _ _ _ _ (by decide)]
    exact reg_setReg_of_lt _ _ _ (by decide) hsrc
  · rw [reg_setReg_ne _ _ _ _ (by decide), reg_setReg_ne _ _ _ _ (by decide), reg_setFlag_ne _ _ _ _ (by decide),
      reg_setFlag_ne _ _ _ _ (by decide)]
    exact reg_setReg_of_lt _ _ _ (by decide) hc
  · rw [flag_setReg_ne _ _ _ _ (by decide), flag_setReg_ne _ _ _ _ (by decide), flag_setFlag_ne _ _ _ _ (by decide)]
    exact flag_setFlag_self _ _ _ (by decide) (by decide)
  · rw [reg_setReg_ne _ _ _ _ (by decide)]
    exact reg_setReg_self _ _ _ (by decide)

/-- FIRST taken: only OVERFLOW sets. -/
theorem latchFirst_taken {u : State} (h : u.flag FLT.FIRST.VALID = true) :
    (latchFirst u src c lt esc).flag FLT.FIRST.OVERFLOW = true
    ∧ (latchFirst u src c lt esc).reg FLT.FIRST.SRC = u.reg FLT.FIRST.SRC
    ∧ (latchFirst u src c lt esc).reg FLT.FIRST.CLASS = u.reg FLT.FIRST.CLASS := by
  unfold latchFirst
  rw [if_pos h]
  exact ⟨flag_setFlag_self _ _ _ (by decide) (by decide), reg_setFlag_ne _ _ _ _ (by decide), reg_setFlag_ne _ _ _ _ (by decide)⟩

theorem latchInjFirst_free {u : State} (h : u.flag FLT.INJ_FIRST.VALID = false) (hsrc : src < 128) :
    (latchInjFirst u src c esc).flag FLT.INJ_FIRST.VALID = true ∧ (latchInjFirst u src c esc).reg FLT.INJ_FIRST.SRC = src := by
  unfold latchInjFirst
  rw [if_neg (ne_true_of_eq_false h)]
  dsimp only
  refine ⟨flag_setFlag_self _ _ _ (by decide) (by decide), ?_⟩
  rw [reg_setFlag_ne _ _ _ _ (by decide), reg_setFlag_ne _ _ _ _ (by decide), reg_setReg_ne _ _ _ _ (by decide)]
  exact reg_setReg_of_lt _ _ _ (by decide) hsrc

/-! ### The reaction (R531, R536 to R538) -/

theorem reported_reg {f : Field} (h : fieldKey MBX.EVT_COUNT.LOST ≠ fieldKey f) :
    (reported s src c lt inj esc).reg f = (shown s src c lt inj esc).reg f :=
  reg_eq_of_word (enqueueEvent_word ((outside_cons _ _ _).mpr ⟨h, (outside_nil _).mpr trivial⟩) _ _)

theorem errForClass_held (u : State) (h : 2 ≤ c ∨ u.flag FLT.CFG.ERR_CORR = true) : errHeld (errForClass u inj c) = true := by
  have hon : ¬ (c = 1 ∧ u.flag FLT.CFG.ERR_CORR = false) := by
    rintro ⟨hc, hcorr⟩
    rcases h with h | h
    · omega
    · exact absurd h (ne_true_of_eq_false hcorr)
  unfold errForClass
  rw [if_neg hon]
  cases inj <;> simp [assertErr, errHeld]

theorem errForClass_requests (u : State) : (errForClass u inj c).flt.last = u.flt.last ∧ (errForClass u inj c).flt.real = u.flt.real
    ∧ (errForClass u inj c).flt.inj = u.flt.inj := by
  unfold errForClass
  split
  · exact ⟨rfl, rfl, rfl⟩
  · cases inj <;> exact ⟨rfl, rfl, rfl⟩

/-- The FATAL cause adds at most an event to what the collector holds. -/
theorem fatalCause_flt (u : State) : (raiseCauseInj u SAFE.FB_CAUSE.FATAL inj).flt
    = { u.flt with jorosh := (raiseCauseInj u SAFE.FB_CAUSE.FATAL inj).flt.jorosh } := by
  unfold raiseCauseInj
  split
  · rfl
  · dsimp only
    rw [if_neg (by decide)]
    split <;> rfl

theorem fatalCause_held (u : State) : errHeld (raiseCauseInj u SAFE.FB_CAUSE.FATAL inj) = errHeld u := by
  unfold errHeld
  rw [fatalCause_flt]

/-- A restart asked for is all that the request changes. -/
theorem askRestart_flt (u : State) : (askRestart u src inj).flt = { u.flt with restartDue := (askRestart u src inj).flt.restartDue } := by
  unfold askRestart
  dsimp only
  split <;> rfl

theorem askRestart_held (u : State) : errHeld (askRestart u src inj) = errHeld u := by
  unfold errHeld
  rw [askRestart_flt]

theorem react_fatal (u : State) :
    react u src 3 inj = askRestart (raiseCauseInj (errForClass u inj 3) SAFE.FB_CAUSE.FATAL inj) src inj := by
  unfold react
  rw [if_pos rfl]

theorem react_held (u : State) (h : 2 ≤ c ∨ u.flag FLT.CFG.ERR_CORR = true) : errHeld (react u src c inj) = true := by
  unfold react
  dsimp only
  split
  · rw [askRestart_held, fatalCause_held]
    exact errForClass_held c inj u h
  · exact errForClass_held c inj u h

theorem react_requests (u : State) : (react u src c inj).flt.last = u.flt.last ∧ (react u src c inj).flt.real = u.flt.real
    ∧ (react u src c inj).flt.inj = u.flt.inj := by
  have herr := errForClass_requests c inj u
  unfold react
  dsimp only
  split
  · rw [askRestart_flt, fatalCause_flt]
    exact herr
  · exact herr

theorem react_cause (u : State) : (react u src 3 inj).flag SAFE.FB_CAUSE.FATAL = true
    ∧ (fbActive u = false → AllOnFallback (react u src 3 inj)) := by
  rw [react_fatal]
  refine ⟨(flag_of_regs _ (by simp)).trans (raiseCauseInj_fatal (errForClass u inj 3) inj), fun h => ?_⟩
  have hscan : (askRestart (raiseCauseInj (errForClass u inj 3) SAFE.FB_CAUSE.FATAL inj) src inj).scan
      = (raiseCauseInj (errForClass u inj 3) SAFE.FB_CAUSE.FATAL inj).scan := by simp
  unfold AllOnFallback
  rw [hscan]
  exact raiseCauseInj_drive (by decide) ((FallbackCauses.fbActive_of_regs (by simp)).trans h) inj

end

/-! ### A fault granted -/

/-- The fields that a grant shows are none of those the queue and the reaction write. -/
def tailRegs : List Field := MBX.EVT_COUNT.LOST :: reactRegs

section
variable {s : State} {src c lt : Nat} {inj esc : Bool}

/-- What the whole grant leaves of what was shown. -/
theorem granted_reg {f : Field} (h : Outside tailRegs (fieldKey f)) :
    (react (reported s src c lt inj esc) src c inj).reg f = (shown s src c lt inj esc).reg f := by
  rw [tailRegs, outside_cons] at h
  exact (reg_eq_of_word (react_word h.2 _ src c inj)).trans (reported_reg s src c lt inj esc h.1)

theorem pend_outside_tail (j : Bool) (k : Nat) : Outside tailRegs (fieldKey (pendBit j k)) := by
  have hfar : ∀ f ∈ tailRegs, fieldKey f < 0x30000 * 32 ∨ 0x30000 * 32 + 8 ≤ fieldKey f := by decide
  intro f hf
  have := hfar f hf
  have := pendBit_range j k
  omega

theorem granted_pend (hc : c = 1 ∨ c = 2 ∨ c = 3) {j : Bool} {k : Nat} (hk : k = 1 ∨ k = 2 ∨ k = 3) (h : inj ≠ j ∨ c ≠ k) :
    (react (reported s src c lt inj esc) src c inj).reg (pendBit j k) = s.reg (pendBit j k) := by
  rw [granted_reg (pend_outside_tail j k), shown_pend]
  exact reg_setFlag_ne _ _ _ _ (pendBit_ne hc hk h)

theorem granted_pending : (react (reported s src c lt inj esc) src c inj).flag (pendBit inj c) = true := by
  unfold State.flag
  rw [granted_reg (pend_outside_tail inj c), shown_pend]
  exact flag_setFlag_self _ _ _ (by rw [pendBit_width]; decide) (by rw [pendBit_width]; decide)

/-- The latch of real faults is out of reach for an injected one, and the other way round. -/
theorem granted_latch {f : Field} (htail : Outside tailRegs (fieldKey f)) (hlast : Outside lastRegs (fieldKey f)) :
    (react (reported s src c lt inj esc) src c inj).reg f = (latched (s.setFlag (pendBit inj c) true) src c lt inj esc).reg f :=
  (granted_reg htail).trans (lastShown_reg _ _ _ _ _ hlast)

/-- A latch does not see the class become pending. -/
theorem pended_reg (s : State) (inj : Bool) (c : Nat) {f : Field} (h : 0x30000 * 32 + 8 ≤ fieldKey f) :
    (s.setFlag (pendBit inj c) true).reg f = s.reg f := by
  have := pendBit_range inj c
  exact reg_setFlag_ne _ _ _ _ (by omega)

theorem granted_flag {f : Field} {b : Bool} (htail : Outside tailRegs (fieldKey f)) (hlast : Outside lastRegs (fieldKey f))
    (h : (latched (s.setFlag (pendBit inj c) true) src c lt inj esc).flag f = b) :
    (react (reported s src c lt inj esc) src c inj).flag f = b := by
  unfold State.flag at h ⊢
  rw [granted_latch htail hlast, h]

theorem granted_of_class (hsrc : src < 96) (hc : c = 1 ∨ c = 2 ∨ c = 3) :
    Granted s (react (reported s src c lt inj esc) src c inj) inj src c esc lt := by
  have hfew : src < 128 ∧ c < 4 := by omega
  have hlast := lastShown_last src c inj esc (latched (s.setFlag (pendBit inj c) true) src c lt inj esc) hfew.1 hfew.2
  obtain ⟨hlsrc, hlcls, hlinj, hlesc⟩ := hlast
  have hpended (f : Field) (h : 0x30000 * 32 + 8 ≤ fieldKey f) {b : Bool} (hf : s.flag f = b) :
      (s.setFlag (pendBit inj c) true).flag f = b := by
    unfold State.flag at hf ⊢
    rwa [pended_reg s inj c h]
  refine ⟨granted_pending, fun k hk hne => granted_pend hc hk (.inr (Ne.symm hne)), fun k hk => granted_pend hc hk (.inl (by simp)),
    fun hreal hfree => ?_, fun hreal htaken => ?_, fun hinj => ⟨?_, ?_, fun hfree => ?_⟩, ?_, ?_, ?_, ?_, ?_, fun h => ?_, fun h => ?_⟩
  · subst hreal
    obtain ⟨hvalid, hs, hcl, he, hlt⟩ := latchFirst_free src c lt esc (hpended FLT.FIRST.VALID (by decide) hfree) hfew.1 hfew.2
    exact ⟨granted_flag (outside_of (by decide)) (outside_of (by decide)) hvalid,
      (granted_latch (outside_of (by decide)) (outside_of (by decide))).trans hs,
      (granted_latch (outside_of (by decide)) (outside_of (by decide))).trans hcl,
      granted_flag (outside_of (by decide)) (outside_of (by decide)) he,
      (granted_latch (outside_of (by decide)) (outside_of (by decide))).trans hlt⟩
  · subst hreal
    obtain ⟨hover, hs, hcl⟩ := latchFirst_taken src c lt esc (hpended FLT.FIRST.VALID (by decide) htaken)
    exact ⟨granted_flag (outside_of (by decide)) (outside_of (by decide)) hover,
      (granted_latch (outside_of (by decide)) (outside_of (by decide))).trans (hs.trans (pended_reg s false c (by decide))),
      (granted_latch (outside_of (by decide)) (outside_of (by decide))).trans (hcl.trans (pended_reg s false c (by decide)))⟩
  · subst hinj
    exact (granted_latch (outside_of (by decide)) (outside_of (by decide))).trans
      ((reg_eq_of_word (latchInjFirst_word (outside_of (by decide)) _ src c esc)).trans (pended_reg s true c (by decide)))
  · subst hinj
    exact (granted_latch (outside_of (by decide)) (outside_of (by decide))).trans
      ((reg_eq_of_word (latchInjFirst_word (outside_of (by decide)) _ src c esc)).trans (pended_reg s true c (by decide)))
  · subst hinj
    obtain ⟨hvalid, hs⟩ := latchInjFirst_free src c esc (hpended FLT.INJ_FIRST.VALID (by decide) hfree) hfew.1
    exact ⟨granted_flag (outside_of (by decide)) (outside_of (by decide)) hvalid,
      (granted_latch (outside_of (by decide)) (outside_of (by decide))).trans hs⟩
  · exact (granted_reg (outside_of (by decide))).trans hlsrc
  · exact (granted_reg (outside_of (by decide))).trans hlcls
  · exact (congrArg (· != 0) (granted_reg (outside_of (by decide)))).trans hlinj
  · exact (congrArg (· != 0) (granted_reg (outside_of (by decide)))).trans hlesc
  · exact eventQueued_of_evt (enqueueEvent_queued _ _) (shown_evt s src c lt inj esc).symm (by simp [reported, faultRecord])
  · refine react_held src c inj _ (h.imp_right fun hcorr => ?_)
    unfold State.flag at hcorr ⊢
    rwa [reported_reg _ _ _ _ _ _ (by decide), shown_reg _ _ _ _ _ _ (outside_of (by decide)) (outside_of (by decide)) (by decide)]
  · subst h
    obtain ⟨hcause, hdrive⟩ := react_cause src inj (reported s src 3 lt inj esc)
    refine ⟨hcause, fun hnone => hdrive ((fbActive_congr fun x hx => ?_).trans hnone)⟩
    have hfar : ∀ x ∈ fbCauses, 0x40000 * 32 ≤ fieldKey x ∧ fieldKey MBX.EVT_COUNT.LOST ≠ fieldKey x := by decide
    have hbelow : ∀ f ∈ latchFirstRegs ++ latchInjFirstRegs ++ lastRegs, fieldKey f < 0x40000 * 32 := by decide
    obtain ⟨hhigh, hlost⟩ := hfar x hx
    have hout : Outside (latchFirstRegs ++ latchInjFirstRegs ++ lastRegs) (fieldKey x) := by
      intro f hf
      have := hbelow f hf
      omega
    rw [outside_append] at hout
    unfold State.flag
    rw [reported_reg _ _ _ _ _ _ hlost, shown_reg _ _ _ _ _ _ hout.1 hout.2 (by omega)]

end

theorem classInForce_eq (s : State) (inj : Bool) (cls : Nat) : classInForce s inj cls
    = (if s.flag (pendBit inj cls) = true ∧ cls < 3 then cls + 1 else cls, decide (s.flag (pendBit inj cls) = true ∧ cls < 3)) := by
  unfold classInForce
  split
  · next h => simp [h]
  · next h => simp only [h, decide_false]

theorem grantFault_granted (s : State) {src : Nat} (w : FaultWait) (inj : Bool) (hsrc : src < 96) (hlo : 1 ≤ w.cls) (hhi : w.cls ≤ 3) :
    Granted s (grantFault s src w inj) inj src (if s.flag (pendBit inj w.cls) = true ∧ w.cls < 3 then w.cls + 1 else w.cls)
      (decide (s.flag (pendBit inj w.cls) = true ∧ w.cls < 3)) w.lt := by
  rw [grantFault_eq, classInForce_eq]
  refine granted_of_class hsrc ?_
  dsimp only
  split <;> omega

theorem grantFault_requests (s : State) (src : Nat) (w : FaultWait) (inj : Bool) : (grantFault s src w inj).flt.last = s.flt.last
    ∧ (grantFault s src w inj).flt.real = s.flt.real ∧ (grantFault s src w inj).flt.inj = s.flt.inj := by
  obtain ⟨hlast, hreal, hinj⟩ := react_requests src (classInForce s inj w.cls).1 inj
    (reported s src (classInForce s inj w.cls).1 w.lt inj (classInForce s inj w.cls).2)
  have hflt : (reported s src (classInForce s inj w.cls).1 w.lt inj (classInForce s inj w.cls).2).flt = s.flt := by
    simp [reported, shown_flt]
  rw [hflt] at hlast hreal hinj
  rw [grantFault_eq]
  exact ⟨hlast, hreal, hinj⟩

/-! ### FAULT_GRANT -/

section
variable {s : State} {p : Nat}

/-- Position `p` granted, with what leaves it: the waiting events of Jorosh or of the always-on domain, or a request. -/
def granting (s : State) (p : Nat) (f : Flt → Flt) : State := { s with flt := { f s.flt with last := p } }

theorem grantAt_jorosh {e : EventRec} {l : List EventRec} (h : s.flt.jorosh = e :: l) : grantAt s 96
    = enqueueEvent (granting s 96 fun f => { f with jorosh := l }) e := by
  unfold grantAt
  rw [if_pos rfl, h]
  rfl

theorem grantAt_aon {e : EventRec} {l : List EventRec} (h : s.flt.aon = e :: l) : grantAt s 97
    = enqueueEvent (granting s 97 fun f => { f with aon := l }) e := by
  unfold grantAt
  rw [if_neg (by decide), if_pos rfl, h]
  rfl

theorem grantAt_real {w : FaultWait} (hp : p < 96) (h : sparseGet none s.flt.real p = some w) : grantAt s p
    = grantFault (granting s p fun f => { f with real := sparseSet none f.real p none }) p w false := by
  unfold grantAt
  rw [if_neg (by omega), if_neg (by omega), h]
  rfl

theorem grantAt_inj {w : FaultWait} (hp : p < 96) (hreal : sparseGet none s.flt.real p = none)
    (h : sparseGet none s.flt.inj p = some w) : grantAt s p
    = grantFault (granting s p fun f => { f with inj := sparseSet none f.inj p none }) p w true := by
  unfold grantAt
  rw [if_neg (by omega), if_neg (by omega), hreal, h]
  rfl

/-- A grant shows and reports the same from states that differ in the collector's own notes alone. -/
theorem granted_of_flt {t : State} {v : Flt} {inj esc : Bool} {src c lt : Nat} (h : Granted { s with flt := v } t inj src c esc lt) :
    Granted s t inj src c esc lt := h

/-- Whatever waits at `p`, the grant stands there. -/
theorem grantAt_last (hp : p < 98) (hwait : waitsAt s p = true) : (grantAt s p).flt.last = p := by
  unfold waitsAt at hwait
  by_cases h96 : p < 96
  · rw [if_pos h96, Bool.or_eq_true, Option.isSome_iff_exists, Option.isSome_iff_exists] at hwait
    cases hreal : sparseGet none s.flt.real p with
    | some w =>
      rw [grantAt_real h96 hreal]
      exact (grantFault_requests _ p w false).1
    | none =>
      obtain ⟨w, hw⟩ := hwait.resolve_left (by simp [hreal])
      rw [grantAt_inj h96 hreal hw]
      exact (grantFault_requests _ p w true).1
  · rw [if_neg h96] at hwait
    by_cases h : p = 96
    · subst h
      obtain ⟨e, l, hl⟩ := List.exists_cons_of_ne_nil (by simpa using hwait)
      rw [grantAt_jorosh hl]
      simp [granting]
    · obtain rfl : p = 97 := by omega
      rw [if_neg h] at hwait
      obtain ⟨e, l, hl⟩ := List.exists_cons_of_ne_nil (by simpa using hwait)
      rw [grantAt_aon hl]
      simp [granting]

theorem faultGrant_completes (hon : domainsOff s = false) (hlast : s.flt.last < 98) (hp : p < 98) (hwait : waitsAt s p = true)
    (hfirst : ∀ q < 98, waitsAt s q = true → (p + 97 - s.flt.last) % 98 ≤ (q + 97 - s.flt.last) % 98) :
    Completes .faultGrant s fun t =>
      t.flt.last = p
      ∧ (∀ e l, p = 96 → s.flt.jorosh = e :: l → t.flt.jorosh = l ∧ EventQueued s t e)
      ∧ (∀ e l, p = 97 → s.flt.aon = e :: l → t.flt.aon = l ∧ EventQueued s t e)
      ∧ (∀ w, sparseGet none s.flt.real p = some w → p < 96 → 1 ≤ w.cls → w.cls ≤ 3 →
        Granted s t false p (if s.flag (pendBit false w.cls) = true ∧ w.cls < 3 then w.cls + 1 else w.cls)
          (decide (s.flag (pendBit false w.cls) = true ∧ w.cls < 3)) w.lt ∧ sparseGet none t.flt.real p = none
        ∧ t.flt.inj = s.flt.inj)
      ∧ (∀ w, sparseGet none s.flt.real p = none → sparseGet none s.flt.inj p = some w → p < 96 → 1 ≤ w.cls → w.cls ≤ 3 →
        Granted s t true p (if s.flag (pendBit true w.cls) = true ∧ w.cls < 3 then w.cls + 1 else w.cls)
          (decide (s.flag (pendBit true w.cls) = true ∧ w.cls < 3)) w.lt ∧ sparseGet none t.flt.inj p = none
        ∧ t.flt.real = s.flt.real) := by
  have hgrant : faultGrant s = grantAt s p := by
    unfold faultGrant
    rw [nextGrant_of_first hlast hp hwait hfirst]
  have hrun : exec .faultGrant s = .next (grantAt s p) :=
    congrArg Host.Outcome.next ((if_neg (ne_true_of_eq_false hon)).trans hgrant)
  refine completes_of hrun ⟨grantAt_last hp hwait, fun e l h hl => ?_, fun e l h hl => ?_, fun w hw h96 hlo hhi => ?_,
    fun w hreal hw h96 hlo hhi => ?_⟩
  · subst h
    rw [grantAt_jorosh hl]
    exact ⟨by simp [granting], eventQueued_of_evt (enqueueEvent_queued (granting s 96 fun f => { f with jorosh := l }) e) rfl rfl⟩
  · subst h
    rw [grantAt_aon hl]
    exact ⟨by simp [granting], eventQueued_of_evt (enqueueEvent_queued (granting s 97 fun f => { f with aon := l }) e) rfl rfl⟩
  · rw [grantAt_real h96 hw]
    obtain ⟨-, hrealKept, hinjKept⟩ := grantFault_requests
      (granting s p fun f => { f with real := sparseSet none f.real p none }) p w false
    exact ⟨granted_of_flt (grantFault_granted _ w false h96 hlo hhi), hrealKept ▸ sparseGet_set_self (none : Option FaultWait) s.flt.real p none, hinjKept⟩
  · rw [grantAt_inj h96 hreal hw]
    obtain ⟨-, hrealKept, hinjKept⟩ := grantFault_requests
      (granting s p fun f => { f with inj := sparseSet none f.inj p none }) p w true
    exact ⟨granted_of_flt (grantFault_granted _ w true h96 hlo hhi), hinjKept ▸ sparseGet_set_self (none : Option FaultWait) s.flt.inj p none, hrealKept⟩

end

/-- Where nothing waits, nothing is granted. -/
theorem faultGrant_none {s : State} (h : ∀ p < 98, waitsAt s p = false) : exec .faultGrant s = .next s := by
  have hgrant : faultGrant s = s := by
    unfold faultGrant
    rw [nextGrant_of_none h]
  show Host.Outcome.next (if domainsOff s then s else faultGrant s) = _
  rw [hgrant, ite_self]

end Sys2Proof.Machine.FaultGrant
end

section
/-! PROOF. BootReports: what Jorosh reports when it runs again, and the halt of a boot that finds no slot
(17_faults_and_reactions.md R537; 19_startup_reset_and_bringup.md R577, R582 to R584). -/

namespace Sys2Proof.Machine.BootReports

open FrameTiming (flag_eq_of_word fatalAtDetection_of_ne)
open WakeSequences (raiseFault_of_ne_fatal)
open FaultInjection (raiseCauseInj_fatal)

/-! ### The reports after BOOT_DONE (R487, R575, R582) -/

/-- A slot that is not the preferred one is source 65. -/
def slotReported (s : State) : State := if s.flag SYS.BOOT.PREFERRED then s else raiseFault s 65 1

/-- A long hold that waits. -/
def holdReported (u : State) : State :=
  if u.boot.longDue then
    raiseEvent { u with boot := { u.boot with longDue := false } } 0x0103 (toLe 2 (u.reg SYS.RESET_CAUSE.HELD_S))
  else u

/-- A hard trip that waits. -/
def tripReported (u : State) : State :=
  if u.boot.tripDue = 0 then u
  else
    raiseFault (thermalEvent { u.tookFree with boot := { u.boot with tripDue := 0 } } 3 (u.boot.tripDue - 1)
      ((Config.tripT4 u.free : Nat) : Int)) 54 2

theorem slotReported_boot (s : State) : (slotReported s).boot = s.boot := by
  unfold slotReported
  split <;> simp

theorem slotReported_held (s : State) : (slotReported s).reg SYS.RESET_CAUSE.HELD_S = s.reg SYS.RESET_CAUSE.HELD_S := by
  unfold slotReported
  split
  · rfl
  · exact reg_eq_of_word (raiseFault_word (outside_of (by decide +kernel)) s 65 1)

theorem holdReported_trip (u : State) : (holdReported u).boot.tripDue = u.boot.tripDue := by
  unfold holdReported
  split <;> rfl

theorem bootReports_eq (s : State) : bootReports s = tripReported (holdReported (slotReported s)) := by
  have hhold : holdReported (slotReported s) = if s.boot.longDue then
      raiseEvent { slotReported s with boot := { (slotReported s).boot with longDue := false } } 0x0103
        (toLe 2 (s.reg SYS.RESET_CAUSE.HELD_S)) else slotReported s := by
    unfold holdReported
    rw [slotReported_boot, slotReported_held]
  unfold tripReported
  rw [holdReported_trip, slotReported_boot, hhold]
  rfl

/-- The events that waited before still wait. -/
def EventsKept (s t : State) : Prop := ∃ l, t.flt.jorosh = s.flt.jorosh ++ l

theorem EventsKept.trans {s t u : State} (h : EventsKept s t) (k : EventsKept t u) : EventsKept s u := by
  obtain ⟨l, hl⟩ := h
  obtain ⟨m, hm⟩ := k
  exact ⟨l ++ m, by rw [hm, hl, List.append_assoc]⟩

theorem EventsKept.mem {s t : State} (h : EventsKept s t) {e : EventRec} (he : e ∈ s.flt.jorosh) : e ∈ t.flt.jorosh := by
  obtain ⟨l, hl⟩ := h
  rw [hl]
  exact List.mem_append_left l he

theorem eventsKept_of_eq {s t : State} (h : t.flt.jorosh = s.flt.jorosh) : EventsKept s t := ⟨[], by rw [h, List.append_nil]⟩

theorem raiseFault_events {cls : Nat} (h : cls ≠ 3) (s : State) (src : Nat) : EventsKept s (raiseFault s src cls) := by
  refine eventsKept_of_eq ?_
  rw [raiseFault_of_ne_fatal h]

theorem slotReported_events (s : State) : EventsKept s (slotReported s) := by
  unfold slotReported
  split
  · exact eventsKept_of_eq rfl
  · exact raiseFault_events (by decide) s 65

theorem holdReported_events (u : State) : EventsKept u (holdReported u) := by
  unfold holdReported
  split
  · exact ⟨_, rfl⟩
  · exact eventsKept_of_eq rfl

theorem tripReported_events (u : State) : EventsKept u (tripReported u) := by
  unfold tripReported
  split
  · exact eventsKept_of_eq rfl
  · exact EventsKept.trans ⟨_, rfl⟩ (raiseFault_events (by decide) _ 54)

theorem bootReports_events (s : State) : EventsKept s (bootReports s) := by
  rw [bootReports_eq]
  exact (slotReported_events s).trans ((holdReported_events _).trans (tripReported_events _))

/-- Of the boot's notes the reports change those that they report. -/
theorem bootReports_boot (s : State) : (bootReports s).boot = { s.boot with longDue := false, tripDue := 0 } := by
  have hhold (u : State) : (holdReported u).boot = { u.boot with longDue := false } := by
    unfold holdReported
    split
    · rfl
    · next h => rw [← Bool.eq_false_of_not_eq_true h]
  have htrip (u : State) : (tripReported u).boot = { u.boot with tripDue := 0 } := by
    unfold tripReported
    split
    · next h => rw [← h]
    · rw [raiseFault_of_ne_fatal (by decide)]
      rfl
  rw [bootReports_eq, htrip, hhold, slotReported_boot]

/-! ### BOOT_DONE (R537, R577) -/

/-- BOOT_DONE raised and the restart ended, before the reports. -/
def doneShown (s : State) : State :=
  let s1 := raiseEventInj s 0x0101 s.boot.injRestart (toLe 1 (s.reg SYS.BOOT.SLOT) ++ [0, 0, 0] ++ toLe 4 s.boot.fwVer)
  { s1 with boot := { s1.boot with done := true, cold := false, injRestart := false } }.setFlag FLT.STATUS.RESTARTING false

theorem bootDone_eq (s : State) : bootDone s = bootReports (doneShown s) := rfl

theorem bootDone_boot (s : State) : (bootDone s).boot
    = { s.boot with done := true, cold := false, injRestart := false, longDue := false, tripDue := 0 } := by
  rw [bootDone_eq, bootReports_boot]
  rfl

theorem bootDone_restarting (s : State) : (bootDone s).flag FLT.STATUS.RESTARTING = false := by
  have hshown : (doneShown s).flag FLT.STATUS.RESTARTING = false := flag_setFlag_self _ _ _ (by decide) (by decide)
  rw [bootDone_eq]
  exact (flag_eq_of_word (bootReports_word (outside_of (by decide +kernel)) (doneShown s))).trans hshown

theorem bootDone_reg (s : State) {f : Field} (h : Outside bootDoneRegs (fieldKey f)) : (bootDone s).reg f = s.reg f :=
  reg_eq_of_word (bootDone_word h s)

theorem bootDone_flag (s : State) {f : Field} (h : Outside bootDoneRegs (fieldKey f)) : (bootDone s).flag f = s.flag f :=
  flag_eq_of_word (bootDone_word h s)

theorem doneShown_events (s : State) : EventsKept s (doneShown s) := ⟨_, rfl⟩

/-- BOOT_DONE names the slot and the firmware. -/
theorem bootDone_told (s : State) : ∃ e ∈ (bootDone s).flt.jorosh, e.code = 0x0101 ∧ e.inj = s.boot.injRestart
    ∧ e.args = padTo 16 (toLe 1 (s.reg SYS.BOOT.SLOT) ++ [0, 0, 0] ++ toLe 4 s.boot.fwVer) := by
  have hraised : mkEvent s 0x0101 s.boot.injRestart (toLe 1 (s.reg SYS.BOOT.SLOT) ++ [0, 0, 0] ++ toLe 4 s.boot.fwVer)
      ∈ (doneShown s).flt.jorosh := List.mem_append_right _ List.mem_cons_self
  exact ⟨_, (bootReports_events _).mem hraised, rfl, rfl, rfl⟩

/-! ### A slot chosen, or none (R582, R583, R588) -/

theorem startJorosh_shown (s : State) (pref slot : Bool) (ver : Nat) : (startJorosh s pref (slot, ver)).flag SYS.BOOT.SLOT = slot
    ∧ (startJorosh s pref (slot, ver)).reg SYS.BOOT.SLOT = b2n slot
    ∧ (startJorosh s pref (slot, ver)).flag SYS.BOOT.PREFERRED = (slot == pref) := by
  have hslot : (startJorosh s pref (slot, ver)).reg SYS.BOOT.SLOT = b2n slot :=
    (reg_setFlag_ne _ _ _ _ (by decide)).trans (reg_setFlag_self _ _ _ (by decide) (by decide))
  refine ⟨?_, hslot, flag_setFlag_self _ _ _ (by decide) (by decide)⟩
  unfold State.flag
  rw [hslot]
  cases slot <;> rfl

theorem startJorosh_boot (s : State) (pref slot : Bool) (ver : Nat) :
    (startJorosh s pref (slot, ver)).boot = { s.boot with jorosh := true, fwVer := ver } := rfl

theorem trySlot_pass (s : State) (b : Bool) (ver : Word) : trySlot s b (.pass ver) = (s, some (b, ver.toNat)) := rfl

theorem trySlot_fail (s : State) (b : Bool) (r : Fin 6) :
    trySlot s b (.fail r) = ((s.setFlag (slotFail b) true).setReg SYS.BOOT.REASON r.val, none) := rfl

/-- A halted boot: FATAL, ERR_N low, and Jorosh does not run (R583). -/
theorem bootHalt_effects (s : State) : (bootHalt s).flag SYS.BOOT.BOOT_HALT = true ∧ (bootHalt s).flag SAFE.FB_CAUSE.FATAL = true
    ∧ (bootHalt s).boot.jorosh = false ∧ errHeld (bootHalt s) = true := by
  refine ⟨?_, ?_, rfl, ?_⟩
  · exact flag_setFlag_self (raiseCause s SAFE.FB_CAUSE.FATAL) SYS.BOOT.BOOT_HALT true (by decide) (by decide)
  · exact (flag_setFlag_ne (raiseCause s SAFE.FB_CAUSE.FATAL) SYS.BOOT.BOOT_HALT SAFE.FB_CAUSE.FATAL true (by decide)).trans
      (raiseCauseInj_fatal s false)
  · simp [bootHalt, assertErr, errHeld]

end Sys2Proof.Machine.BootReports
end

section
/-! PROOF. FaultRestart: acknowledged faults, the supervisor restart and repeated injections (17_faults_and_reactions.md R535 to R541;
12_mailbox_command_set.md R418). -/

namespace Sys2Proof.Machine.FaultRestart

open FrameTiming (flag_eq_of_word)
open EngineLoss (bit_clearBit)
open FaultInjection (raiseInjected_count raiseInjected_real injectOne_injected injectOne_of_waits)
open FaultGrant (pendBit_ne pendBit_width pendBit_range)
open FaultDetection (faultDetect_completes faultDetect_engine faultDetect_unlisted)
open KernelMail (respondWith_answered respondWith_boxes)
open BootReports

/-! ### Acknowledgement (R535, R538) -/

/-- The bit of FLT.ACK for a class, real or injected. -/
def ackBit (inj : Bool) (cls : Nat) : Nat := cls - 1 + if inj then 4 else 0

section
variable (s : State) (w : Nat)

theorem ackClass_pend (inj : Bool) {c k : Nat} {j : Bool} (hc : c = 1 ∨ c = 2 ∨ c = 3) (hk : k = 1 ∨ k = 2 ∨ k = 3) :
    (ackClass inj w s c).flag (pendBit j k)
      = (s.flag (pendBit j k) && !(decide (inj = j ∧ c = k) && bit w (ackBit inj c))) := by
  unfold ackClass
  by_cases hbit : bit w (ackBit inj c) = true
  · rw [if_neg (by rw [← ackBit, hbit]; decide)]
    by_cases hsame : inj = j ∧ c = k
    · obtain ⟨rfl, rfl⟩ := hsame
      simp only [hbit, and_self, decide_true, Bool.and_true, Bool.not_true, Bool.and_false]
      exact flag_setFlag_self _ _ _ (by rw [pendBit_width]; decide) (by rw [pendBit_width]; decide)
    · have hne : fieldKey (pendBit inj c) ≠ fieldKey (pendBit j k) := pendBit_ne hc hk (by tauto)
      simp only [hsame, decide_false, Bool.false_and, Bool.not_false, Bool.and_true]
      exact flag_setFlag_ne _ _ _ _ hne
  · have hclear := Bool.eq_false_of_not_eq_true hbit
    rw [if_pos (by rw [← ackBit, hclear])]
    simp [hclear]

/-- The classes acknowledged, before FIRST. -/
def acked : State := [1, 2, 3].foldl (ackClass true w) ([1, 2, 3].foldl (ackClass false w) s)

theorem acked_eq : acked s w = ackClass true w (ackClass true w (ackClass true w
    (ackClass false w (ackClass false w (ackClass false w s 1) 2) 3) 1) 2) 3 := rfl

theorem fltAck_eq : fltAck s w = if bit w 8 then clearFirst (acked s w) else acked s w := rfl

theorem acked_pend {k : Nat} (hk : k = 1 ∨ k = 2 ∨ k = 3) :
    (acked s w).flag (pendBit false k) = (s.flag (pendBit false k) && !bit w (k - 1))
    ∧ (acked s w).flag (pendBit true k) = (s.flag (pendBit true k) && !bit w (k + 3)) := by
  rw [acked_eq]
  simp only [ackClass_pend _ w _ (c := 1) (by decide) hk, ackClass_pend _ w _ (c := 2) (by decide) hk,
    ackClass_pend _ w _ (c := 3) (by decide) hk]
  rcases hk with rfl | rfl | rfl <;> simp [ackBit]

theorem acked_reg {f : Field} (h : Outside ackClassRegs (fieldKey f)) : (acked s w).reg f = s.reg f := by
  refine reg_eq_of_word ?_
  rw [acked_eq, ackClass_word h, ackClass_word h, ackClass_word h, ackClass_word h, ackClass_word h, ackClass_word h]

theorem ackClass_kept (inj : Bool) (u : State) (c : Nat) :
    (ackClass inj w u c).evt = u.evt ∧ (ackClass inj w u c).flt.real = u.flt.real := by
  unfold ackClass
  by_cases h : bit w (c - 1 + if inj then 4 else 0) = false
  · rw [if_pos h]
    exact ⟨rfl, rfl⟩
  · rw [if_neg h]
    cases inj <;> exact ⟨rfl, rfl⟩

theorem acked_kept : (acked s w).evt = s.evt ∧ (acked s w).flt.real = s.flt.real := by
  simp only [acked_eq, (ackClass_kept w _ _ _).1, (ackClass_kept w _ _ _).2, and_self]

theorem clearFirst_eq (u : State) :
    clearFirst u = (clearFirstRegs.map (fun f => (f, 0))).foldl (fun t x => t.setReg x.1 x.2) u := rfl

theorem clearFirst_reg (u : State) {f : Field} (hf : f ∈ clearFirstRegs) : (clearFirst u).reg f = 0 := by
  have hwidth : ∀ f ∈ clearFirstRegs, f.width ≤ 32 := by decide
  have hput := MailScene.reg_foldl_setReg (l := clearFirstRegs.map (fun f => (f, 0))) (x := (f, 0)) (by decide) u (List.mem_map.mpr ⟨f, hf, rfl⟩) (hwidth f hf)
  rw [clearFirst_eq]
  exact hput.trans (Nat.zero_mod _)

theorem clearFirst_flt (u : State) : (clearFirst u).flt = u.flt := by simp

/-- What an acknowledged class leaves of the reasons that hold ERR_N. -/
theorem ackClass_real {u : State} {c : Nat} (h : bit w (c - 1) = true) : (ackClass false w u c).flt = { u.flt with
    errReal := clearBit u.flt.errReal (c - 1), errWake := u.flt.errWake && c != 2
    errAsync := u.flt.errAsync && !(c == 3 && u.flag FLT.STATUS.PEND_FATAL) } := by
  have hone : ¬ bit w (c - 1 + if false = true then 4 else 0) = false := by simp [h]
  unfold ackClass
  rw [if_neg hone]
  rfl

theorem ackClass_inj {u : State} {c : Nat} (h : bit w (c + 3) = true) (hc : 1 ≤ c) :
    (ackClass true w u c).flt = { u.flt with errInj := clearBit u.flt.errInj (c - 1) } := by
  have hpos : c - 1 + 4 = c + 3 := by omega
  have hone : ¬ bit w (c - 1 + if true = true then 4 else 0) = false := by simp [hpos, h]
  unfold ackClass
  rw [if_neg hone]
  rfl

/-- Three class bits cleared one after the other leave none. -/
theorem clearBits_lt {x : Nat} (h : x % 8 = x) : clearBit (clearBit (clearBit x 0) 1) 2 = 0 := by
  have hlt : x < 8 := by omega
  interval_cases x <;> rfl

/-- All six classes acknowledged and FATAL reported: only the minimum width holds ERR_N (R538). -/
theorem acked_held {s : State} {w : Nat} (hreal : s.flt.errReal % 8 = s.flt.errReal) (hinj : s.flt.errInj % 8 = s.flt.errInj)
    (hw : w % 128 = 0x77) (hfatal : s.flag FLT.STATUS.PEND_FATAL = true) : errHeld (acked s w) = s.flt.errMin := by
  have hbits (k : Nat) (hk : k ∈ [0, 1, 2, 4, 5, 6]) : bit w k = true := by
    have hset : ∀ k ∈ [0, 1, 2, 4, 5, 6], k < 7 ∧ Nat.testBit 0x77 k = true := by decide
    obtain ⟨hlt, hone⟩ := hset k hk
    have hmod := Nat.testBit_mod_two_pow w 7 k
    rw [show w % 2 ^ 7 = 0x77 from hw, hone, decide_eq_true hlt, Bool.true_and] at hmod
    exact hmod.symm
  have hpend : (ackClass false w (ackClass false w s 1) 2).flag FLT.STATUS.PEND_FATAL = true := by
    have h2 := ackClass_pend (ackClass false w s 1) w false (c := 2) (k := 3) (j := false) (by decide) (by decide)
    have h1 := ackClass_pend s w false (c := 1) (k := 3) (j := false) (by decide) (by decide)
    simp only [Nat.reduceEqDiff, and_false, decide_false, Bool.false_and, Bool.not_false, Bool.and_true] at h1 h2
    exact h2.trans (h1.trans hfatal)
  unfold errHeld
  rw [acked_eq, ackClass_inj w (hbits 6 (by decide)) (by decide), ackClass_inj w (hbits 5 (by decide)) (by decide),
    ackClass_inj w (hbits 4 (by decide)) (by decide), ackClass_real w (hbits 2 (by decide)), hpend,
    ackClass_real w (hbits 1 (by decide)), ackClass_real w (hbits 0 (by decide))]
  simp [clearBits_lt hreal, clearBits_lt hinj]

end

theorem fltAck_reg (s : State) (w : Nat) {f : Field} (h : Outside clearFirstRegs (fieldKey f)) :
    (fltAck s w).reg f = (acked s w).reg f := by
  rw [fltAck_eq]
  split
  · exact reg_eq_of_word (clearFirst_word h _)
  · rfl

theorem pend_outside_first (j : Bool) (k : Nat) : Outside clearFirstRegs (fieldKey (pendBit j k)) := by
  have hfar : ∀ f ∈ clearFirstRegs, 0x30000 * 32 + 8 ≤ fieldKey f := by decide
  intro f hf
  have := hfar f hf
  have := pendBit_range j k
  omega

theorem fltAck_flt (s : State) (w : Nat) : (fltAck s w).flt = (acked s w).flt ∧ (fltAck s w).evt = (acked s w).evt := by
  rw [fltAck_eq]
  split <;> simp

theorem fltAck_completes (s : State) (w : Word) : Completes (.fltAck w) s fun t =>
    (∀ c, c = 1 ∨ c = 2 ∨ c = 3 →
      t.flag (pendBit false c) = (s.flag (pendBit false c) && !w.getLsbD (c - 1))
      ∧ t.flag (pendBit true c) = (s.flag (pendBit true c) && !w.getLsbD (c + 3)))
    ∧ (w.getLsbD 8 = true → t.flag FLT.FIRST.VALID = false ∧ t.flag FLT.FIRST.OVERFLOW = false ∧ t.flag FLT.INJ_FIRST.VALID = false
      ∧ t.reg FLT.FIRST_LT_LO.LT = 0 ∧ t.reg FLT.FIRST_LT_HI.LT = 0)
    ∧ (w.getLsbD 8 = false → ∀ f : Field, f.addr = FLT.FIRST.SRC.addr ∨ f.addr = FLT.INJ_FIRST.SRC.addr → f.lo < 32 → t.reg f = s.reg f)
    ∧ (∀ k < 96, t.reg (FLT.COUNT.COUNT k) = s.reg (FLT.COUNT.COUNT k)) ∧ t.evt = s.evt ∧ t.flt.real = s.flt.real
    ∧ (s.flt.errReal % 8 = s.flt.errReal → s.flt.errInj % 8 = s.flt.errInj → w.toNat % 128 = 0x77 → s.flag FLT.STATUS.PEND_FATAL = true →
      errHeld t = s.flt.errMin) := by
  have hrun : exec (.fltAck w) s = .next (fltAck s w.toNat) := rfl
  obtain ⟨hevt, hreal⟩ := acked_kept s w.toNat
  obtain ⟨hflt, hqueue⟩ := fltAck_flt s w.toNat
  refine completes_of hrun ⟨fun c hc => ?_, fun h8 => ?_, fun h8 f hf hlo => ?_, fun k _ => ?_, hqueue.trans hevt, by rw [hflt, hreal],
    fun hr hi hw hp => ?_⟩
  · obtain ⟨hown, hinj⟩ := acked_pend s w.toNat hc
    unfold State.flag at hown hinj ⊢
    rw [fltAck_reg s _ (pend_outside_first false c), fltAck_reg s _ (pend_outside_first true c)]
    exact ⟨hown, hinj⟩
  · have hcleared : fltAck s w.toNat = clearFirst (acked s w.toNat) := if_pos h8
    have hzero {f : Field} (hf : f ∈ clearFirstRegs) : (fltAck s w.toNat).reg f = 0 := by
      rw [hcleared]
      exact clearFirst_reg _ hf
    have hflag {f : Field} (hf : f ∈ clearFirstRegs) : (fltAck s w.toNat).flag f = false := by simp [State.flag, hzero hf]
    exact ⟨hflag (by decide), hflag (by decide), hflag (by decide), hzero (by decide), hzero (by decide)⟩
  · have hsame : fltAck s w.toNat = acked s w.toNat := if_neg (ne_true_of_eq_false h8)
    have hbelow : ∀ x ∈ ackClassRegs, fieldKey x < 0x30000 * 32 + 8 := by decide
    have hkey : 0x30008 * 32 ≤ fieldKey f := by
      have haddr : 0x30008 ≤ f.addr := by rcases hf with h | h <;> rw [h] <;> decide
      unfold fieldKey
      omega
    rw [hsame]
    refine acked_reg s _ fun x hx => ?_
    have := hbelow x hx
    omega
  · rw [fltAck_reg s _ (FaultInjection.count_outside (by decide) k)]
    exact acked_reg s _ (FaultInjection.count_outside (by decide) k)
  · have hheld := acked_held hr hi hw hp
    unfold errHeld at hheld ⊢
    rwa [hflt]

/-! ### SUPERVISOR_RESTART (R418, R537) -/

/-- A mailbox aborted: its session authentication dropped, and the answer. -/
def aborted (t : State) (n : Nat) : State := respond (t.setMb n (fun m => { m with auth := none })) n 0x0A []

theorem aborted_length (t : State) (n : Nat) : (aborted t n).mbx.boxes.length = t.mbx.boxes.length := by
  obtain ⟨l, hl⟩ := respondWith_boxes (t.setMb n (fun m => { m with auth := none })) n 0 (status := 0x0A) (data := []) (.inr (.inr rfl))
  have hset : (aborted t n).mbx.boxes.length = (t.setMb n (fun m => { m with auth := none })).mbx.boxes.length := by
    unfold aborted respond
    rw [hl, List.length_set]
  exact hset.trans (MailRings.setMb_boxes_length _)

theorem aborted_self {t : State} {n : Nat} (hn : n < t.mbx.boxes.length) :
    ((aborted t n).mb n).phase = .done ∧ leAt ((aborted t n).mb n).rsp 3 1 = 0x0A := by
  have hans := (respondWith_answered (t.setMb n (fun m => { m with auth := none })) n 0 (status := 0x0A) (data := []) (.inr (.inr rfl))
    (by rwa [MailRings.setMb_boxes_length]) (by decide) (by decide)).1
  obtain ⟨hphase, -, -, -, hstatus, -⟩ := hans
  exact ⟨hphase, hstatus⟩

theorem aborted_other {t : State} {n k : Nat} (h : k ≠ n) : (aborted t n).mb k = t.mb k := by
  obtain ⟨l, hl⟩ := respondWith_boxes (t.setMb n (fun m => { m with auth := none })) n 0 (status := 0x0A) (data := []) (.inr (.inr rfl))
  have hbox : (aborted t n).mb k = (t.setMb n (fun m => { m with auth := none })).mb k := by
    unfold aborted respond State.mb
    rw [hl, List.getD_eq_getElem?_getD, List.getElem?_set_ne (Ne.symm h), ← List.getD_eq_getElem?_getD]
  exact hbox.trans (MailRings.mb_setMb_ne h _)

/-- Every mailbox of the list ends with ABORTED. -/
theorem foldl_aborted {l : List Nat} (t : State) {n : Nat} (hn : n < t.mbx.boxes.length) (hmem : n ∈ l) :
    ((l.foldl aborted t).mb n).phase = .done ∧ leAt ((l.foldl aborted t).mb n).rsp 3 1 = 0x0A := by
  have hlength (l : List Nat) : (l.foldl aborted t).mbx.boxes.length = t.mbx.boxes.length := by
    induction l using List.reverseRecOn with
    | nil => rfl
    | append_singleton l x ih => rw [List.foldl_concat, aborted_length, ih]
  induction l using List.reverseRecOn with
  | nil => exact absurd hmem List.not_mem_nil
  | append_singleton l x ih =>
    rw [List.foldl_concat]
    by_cases hx : n = x
    · subst hx
      exact aborted_self (by rwa [hlength])
    · rw [aborted_other hx]
      exact ih ((List.mem_append.mp hmem).resolve_right (by simpa using hx))

/-- The sessions closed, before the mailboxes are aborted. -/
def sessionsClosed (s : State) : State :=
  { s with mbx := { s.mbx with sessions := [] }, net := { s.net with enumMb := none, origin := none } }

theorem abortBusy_eq (s : State) : abortBusy s = (s.mbx.accepted ++ s.mbx.rings).foldl aborted (sessionsClosed s) := rfl

theorem abortBusy_sessions (s : State) : (abortBusy s).mbx.sessions = [] := by
  have hfold (l : List Nat) (t : State) : (l.foldl aborted t).mbx.sessions = t.mbx.sessions := by
    induction l generalizing t with
    | nil => rfl
    | cons x l ih => rw [List.foldl_cons, ih]; exact (MailSessions.respond_sessions _ x 0x0A []).1
  rw [abortBusy_eq, hfold]
  rfl

/-- What a restart aborts: nothing on the cold-boot path, where the waiting rings stay for the boot (R578). -/
def restartAborts (s : State) : State := if s.boot.cold then s else abortBusy s

theorem restartAborts_keep (s : State) : (restartAborts s).regs = s.regs ∧ (restartAborts s).scan = s.scan
    ∧ (restartAborts s).shd = s.shd ∧ (restartAborts s).guard = s.guard
    ∧ (restartAborts s).flt.restartDue = s.flt.restartDue := by
  unfold restartAborts
  split
  · exact ⟨rfl, rfl, rfl, rfl, rfl⟩
  · refine ⟨by simp, by simp, by simp, by simp, ?_⟩
    have hfold (l : List Nat) (t : State) : (l.foldl aborted t).flt.restartDue = t.flt.restartDue := by
      induction l generalizing t with
      | nil => rfl
      | cons x l ih =>
        rw [List.foldl_cons, ih]
        unfold aborted respond respondWith
        rw [FaultInjection.tellOwner_flt]
        rfl
    rw [abortBusy_eq, hfold]
    rfl

theorem beginRestart_eq (s : State) (inj : Bool) : beginRestart s inj
    = { ((dropRenderSets (restartAborts s)).bump FLT.STATUS.RESTARTS).setFlag FLT.STATUS.RESTARTING true with
      boot := { (restartAborts s).boot with jorosh := false, injRestart := inj } } := rfl

theorem beginRestart_effects (s : State) (inj : Bool) : (beginRestart s inj).flt.restartDue = s.flt.restartDue
    ∧ (beginRestart s inj).boot.jorosh = false ∧ (beginRestart s inj).flag FLT.STATUS.RESTARTING = true
    ∧ Counted s (beginRestart s inj) FLT.STATUS.RESTARTS 1 ∧ (beginRestart s inj).eng.submitted = none
    ∧ (beginRestart s inj).eng.running = none ∧ (beginRestart s inj).eng.latched = none ∧ (beginRestart s inj).scan = s.scan
    ∧ (beginRestart s inj).shd = s.shd ∧ (beginRestart s inj).guard = s.guard
    ∧ (beginRestart s inj).mbx = (restartAborts s).mbx := by
  obtain ⟨hregs, hscan, hshd, hguard, hdue⟩ := restartAborts_keep s
  rw [beginRestart_eq]
  refine ⟨hdue, rfl, ?_, ?_, rfl, rfl, rfl, hscan, hshd, hguard, rfl⟩
  · exact flag_setFlag_self ((dropRenderSets (restartAborts s)).bump FLT.STATUS.RESTARTS) FLT.STATUS.RESTARTING true (by decide)
      (by decide)
  · have hbumped : ((dropRenderSets (restartAborts s)).bump FLT.STATUS.RESTARTS).reg FLT.STATUS.RESTARTS
        = min (2 ^ 8 - 1) ((restartAborts s).reg FLT.STATUS.RESTARTS + 1) := reg_bump_self _ _ (by decide)
    exact (reg_setFlag_ne ((dropRenderSets (restartAborts s)).bump FLT.STATUS.RESTARTS) FLT.STATUS.RESTARTING FLT.STATUS.RESTARTS true
      (by decide)).trans (by rw [hbumped, reg_of_regs _ hregs]; rfl)

/-- The restart noted as begun: no restart waits any more, and one that is no injected one counts (R537). -/
def restartNoted (s : State) (l : List Nat) : State := { s with flt := { s.flt with restartDue := none, restarts := l } }

/-- The restarts of the last 10 s and this one (R537). -/
def tooMany (s : State) : Prop :=
  s.regIn FLT.CFG.RESTART_MAX 1 15 < (s.flt.restarts.filter (fun r => decide (s.now ≤ r + 4000000000))).length + 1

/-- A restart begun from `s`: RESTARTING shown and counted, the render sets dropped, the mailboxes aborted (R418, R537). -/
def RestartBegun (s t : State) : Prop :=
  t.flag FLT.STATUS.RESTARTING = true ∧ Counted s t FLT.STATUS.RESTARTS 1 ∧ t.eng.submitted = none ∧ t.eng.running = none
    ∧ t.eng.latched = none ∧ t.scan = s.scan ∧ t.shd = s.shd ∧ t.guard = s.guard
    ∧ (s.boot.cold = false → t.mbx.sessions = [] ∧ ∀ n < 8, n ∈ s.mbx.accepted ∨ n ∈ s.mbx.rings →
      (t.mb n).phase = .done ∧ leAt (t.mb n).rsp 3 1 = 0x0A)

theorem beginRestart_begun {s : State} (hboxes : s.mbx.boxes.length = 8) (l : List Nat) (inj : Bool) :
    RestartBegun s (beginRestart (restartNoted s l) inj) := by
  obtain ⟨-, -, hshown, hcounted, hsub, hrunning, hlatched, hscan, hshd, hguard, hmbx⟩ := beginRestart_effects (restartNoted s l) inj
  refine ⟨hshown, hcounted, hsub, hrunning, hlatched, hscan, hshd, hguard, fun hcold => ?_⟩
  have hmail : (beginRestart (restartNoted s l) inj).mbx = (abortBusy (restartNoted s l)).mbx :=
    hmbx.trans (congrArg State.mbx (if_neg (ne_true_of_eq_false hcold)))
  refine ⟨by rw [hmail]; exact abortBusy_sessions _, fun n hn hmem => ?_⟩
  rw [MailRings.mb_of_mbx hmail, abortBusy_eq]
  exact foldl_aborted (sessionsClosed (restartNoted s l)) (by show n < s.mbx.boxes.length; omega) (List.mem_append.mpr hmem)

/-- Too many restarts that no injection asked for halt the supervisor, and any other one begins. -/
theorem supervisorRestart_effects {s : State} (inj : Bool) (hboxes : s.mbx.boxes.length = 8) :
    (supervisorRestart s inj).flt.restartDue = none ∧ (supervisorRestart s inj).boot.jorosh = false
    ∧ (inj = false → tooMany s → (supervisorRestart s inj).flag FLT.STATUS.SUP_HALTED = true
      ∧ (supervisorRestart s inj).mbx = s.mbx ∧ (supervisorRestart s inj).scan = s.scan)
    ∧ (inj = true ∨ ¬ tooMany s → RestartBegun s (supervisorRestart s inj)) := by
  have hbegins (l : List Nat) (h : supervisorRestart s inj = beginRestart (restartNoted s l) inj) :
      (supervisorRestart s inj).flt.restartDue = none ∧ (supervisorRestart s inj).boot.jorosh = false
        ∧ RestartBegun s (supervisorRestart s inj) := by
    obtain ⟨hnone, hjorosh, -⟩ := beginRestart_effects (restartNoted s l) inj
    rw [h]
    exact ⟨hnone, hjorosh, beginRestart_begun hboxes l inj⟩
  cases inj with
  | true =>
    obtain ⟨hnone, hjorosh, hbegun⟩ := hbegins s.flt.restarts rfl
    exact ⟨hnone, hjorosh, nofun, fun _ => hbegun⟩
  | false =>
    by_cases hmany : tooMany s
    · have hhalt : supervisorRestart s false
          = { restartNoted s (s.now :: recentRestarts s) with boot := { s.boot with jorosh := false } }.setFlag
            FLT.STATUS.SUP_HALTED true := if_pos hmany
      rw [hhalt]
      exact ⟨rfl, rfl, fun _ _ => ⟨flag_setFlag_self _ _ _ (by decide) (by decide), rfl, rfl⟩, fun h => absurd hmany (h.resolve_left nofun)⟩
    · obtain ⟨hnone, hjorosh, hbegun⟩ := hbegins (s.now :: recentRestarts s) (if_neg hmany)
      exact ⟨hnone, hjorosh, fun _ h => absurd h hmany, fun _ => hbegun⟩

theorem supervisorRestart_completes {s : State} {inj : Bool} (hon : domainsOff s = false) (hdue : s.flt.restartDue = some inj)
    (hboxes : s.mbx.boxes.length = 8) : Completes .supervisorRestart s fun t =>
      t.flt.restartDue = none ∧ t.boot.jorosh = false
      ∧ (inj = false → tooMany s → t.flag FLT.STATUS.SUP_HALTED = true ∧ t.mbx = s.mbx ∧ t.scan = s.scan)
      ∧ (inj = true ∨ (s.flt.restarts.filter (fun r => decide (s.now ≤ r + 4000000000))).length + 1 ≤ s.regIn FLT.CFG.RESTART_MAX 1 15 →
        RestartBegun s t) := by
  have hexec : exec .supervisorRestart s = .next (supervisorRestart s inj) := by
    change execSupervisorRestart s = _
    unfold execSupervisorRestart
    rw [hdue]
    exact congrArg Host.Outcome.next (if_neg (ne_true_of_eq_false hon))
  obtain ⟨hnone, hjorosh, hhalt, hbegun⟩ := supervisorRestart_effects inj hboxes
  exact completes_of hexec ⟨hnone, hjorosh, hhalt, fun h => hbegun (h.imp_right Nat.not_lt.mpr)⟩

/-! ### RESTART_COMPLETE (R537, R583, R584) -/

/-- Jorosh runs again from `slot`, from a state whose boot notes are those of `s`. -/
theorem restarted_effects {s u : State} {slot : Bool} (pref : Bool) (ver : Word) (hu : u.boot = s.boot) :
    (restarted u pref (slot, ver.toNat)).boot.jorosh = true ∧ (restarted u pref (slot, ver.toNat)).boot.fwVer = ver.toNat
    ∧ (restarted u pref (slot, ver.toNat)).flag SYS.BOOT.SLOT = slot
    ∧ (restarted u pref (slot, ver.toNat)).flag FLT.STATUS.RESTARTING = false
    ∧ (restarted u pref (slot, ver.toNat)).boot.done = true
    ∧ ∃ e ∈ (restarted u pref (slot, ver.toNat)).flt.jorosh, e.code = 0x0101 ∧ e.inj = s.boot.injRestart
      ∧ e.args = padTo 16 (toLe 1 (b2n slot) ++ [0, 0, 0] ++ toLe 4 ver.toNat) := by
  obtain ⟨v, hv⟩ : ∃ v, v = restorePlan (restoreMap (startJorosh u pref (slot, ver.toNat))) := ⟨_, rfl⟩
  have hrestarted : restarted u pref (slot, ver.toNat) = bootDone v := by rw [hv]; rfl
  have hboot : v.boot = { s.boot with jorosh := true, fwVer := ver.toNat } := by
    rw [← hu, hv]
    simp [startJorosh_boot]
  have hregs : v.regs = (startJorosh u pref (slot, ver.toNat)).regs := by simp [hv]
  obtain ⟨hslot, hnumber, -⟩ := startJorosh_shown u pref slot ver.toNat
  obtain ⟨e, he, hcode, hinj, hargs⟩ := bootDone_told v
  rw [hboot] at hinj
  rw [hboot, reg_of_regs _ hregs, hnumber] at hargs
  rw [hrestarted, bootDone_boot, hboot]
  exact ⟨rfl, rfl, (bootDone_flag v (outside_of (by decide +kernel))).trans ((flag_of_regs _ hregs).trans hslot),
    bootDone_restarting v, rfl, e, he, hcode, hinj, hargs⟩

theorem restartComplete_completes {s : State} (own other : SlotVerdict) (hres : s.flag FLT.STATUS.RESTARTING = true)
    (hcold : s.boot.cold = false) (hstop : s.boot.jorosh = false) (hon : domainsOff s = false) :
    Completes (.restartComplete own other) s fun t =>
      (∀ slot ver, slot = s.flag SYS.BOOT.SLOT ∧ own = .pass ver ∨ slot ≠ s.flag SYS.BOOT.SLOT ∧ (∃ r, own = .fail r) ∧ other = .pass ver →
        t.boot.jorosh = true ∧ t.boot.fwVer = ver.toNat ∧ t.flag SYS.BOOT.SLOT = slot ∧ t.flag FLT.STATUS.RESTARTING = false
        ∧ t.boot.done = true
        ∧ ∃ e ∈ t.flt.jorosh, e.code = 0x0101 ∧ e.inj = s.boot.injRestart
          ∧ e.args = padTo 16 (toLe 1 (b2n slot) ++ [0, 0, 0] ++ toLe 4 ver.toNat))
      ∧ ((∃ r, own = .fail r) → (∃ r, other = .fail r) → t.flag SYS.BOOT.BOOT_HALT = true ∧ t.flag SAFE.FB_CAUSE.FATAL = true
        ∧ t.boot.jorosh = false ∧ errHeld t = true) := by
  have hrun : exec (.restartComplete own other) s = .next (restartComplete s own other) :=
    congrArg Host.Outcome.next (if_pos ⟨hres, hcold, hstop, hon⟩)
  refine completes_of hrun ⟨fun slot ver h => ?_, fun ⟨r, hown⟩ ⟨q, hother⟩ => ?_⟩
  · rcases h with ⟨hslot, hown⟩ | ⟨hslot, ⟨r, hown⟩, hother⟩
    · subst hslot hown
      exact restarted_effects (if s.flag SYS.BOOT.PREFERRED then s.flag SYS.BOOT.SLOT else !s.flag SYS.BOOT.SLOT) ver rfl
    · subst hown hother
      have hnot : slot = !s.flag SYS.BOOT.SLOT := Bool.eq_not.mpr hslot
      rw [hnot]
      exact restarted_effects (u := (s.setFlag (slotFail (s.flag SYS.BOOT.SLOT)) true).setReg SYS.BOOT.REASON r.val)
        (if s.flag SYS.BOOT.PREFERRED then s.flag SYS.BOOT.SLOT else !s.flag SYS.BOOT.SLOT) ver rfl
  · subst hown hother
    exact bootHalt_effects _

/-! ### INJECT_REPEAT (R540, R541) -/

theorem raiseCauseInj_real (s : State) (c : Field) (inj : Bool) : (raiseCauseInj s c inj).flt.real = s.flt.real := by
  unfold raiseCauseInj
  split
  · rfl
  · dsimp only
    split <;> split <;> rfl

/-- What an injected fault degrades is no real fault. -/
theorem degradeInjected_real (s : State) (src cls : Nat) : (degradeInjected s src cls).flt.real = s.flt.real := by
  unfold degradeInjected
  split
  · exact raiseCauseInj_real s _ true
  split
  · rfl
  split
  · show (applyLimits s (limitsOf s true)).flt.real = _
    simp
  split
  · rfl
  split
  · rfl
  split
  · exact raiseCauseInj_real s SAFE.FB_CAUSE.SOFT_STOP true
  · rw [FaultInjection.degrade_flt]

theorem degradeInjected_counts (s : State) (src cls : Nat) :
    (degradeInjected s src cls).reg FLT.INJ_COUNT.COUNT = s.reg FLT.INJ_COUNT.COUNT :=
  reg_eq_of_word (degradeInjected_word (outside_of (by decide +kernel)) s src cls)

theorem raiseInjected_realWaits (s : State) (src cls : Nat) : (raiseInjected s src cls).flt.real = s.flt.real := by
  rw [FaultInjection.raiseInjected_eq, fatalAtDetection_real]
  rfl

/-- An injection whose turn it is, outside the engines' own faults. -/
theorem injectOne_other {src cls : Nat} (hwait : waitsAtDetector src cls = false) (hown : ¬ (25 ≤ src ∧ src ≤ 42 ∧ cls = 2)) (s : State) :
    injectOne s src cls = degradeInjected (raiseInjected s src cls) src cls := by
  unfold injectOne
  rw [if_neg (ne_true_of_eq_false hwait), if_neg (fun h => hown ⟨h.1, h.2.1, h.2.2.1⟩)]

/-- The queue of injections after the first has had its turn. -/
def turnTaken (s : State) (src cls n : Nat) (l : List (Nat × Nat × Nat)) : State :=
  { s with flt := { s.flt with inject := if n ≤ 1 then l else l ++ [(src, cls, n - 1)] } }

theorem injectRepeat_completes {s : State} {src cls n : Nat} {l : List (Nat × Nat × Nat)} (hon : domainsOff s = false)
    (hqueue : s.flt.inject = (src, cls, n) :: l) (hown : ¬ (25 ≤ src ∧ src ≤ 42 ∧ cls = 2)) : Completes .injectRepeat s fun t =>
      t.flt.inject = (if n ≤ 1 then l else l ++ [(src, cls, n - 1)])
      ∧ (∀ k < 96, t.reg (FLT.COUNT.COUNT k) = s.reg (FLT.COUNT.COUNT k)) ∧ t.flt.real = s.flt.real
      ∧ (waitsAtDetector src cls = false → Counted s t FLT.INJ_COUNT.COUNT 1
        ∧ ∃ w, sparseGet none t.flt.inj src = some w ∧ cls ≤ w.cls)
      ∧ (waitsAtDetector src cls = true → sparseGet 0 t.flt.injDue src = sparseGet 0 s.flt.injDue src + 1) := by
  have hturn : injectRepeat s = injectOne (turnTaken s src cls n l) src cls := by
    unfold injectRepeat
    rw [hqueue]
    rfl
  have hrun : exec .injectRepeat s = .next (injectOne (turnTaken s src cls n l) src cls) :=
    congrArg Host.Outcome.next ((if_neg (ne_true_of_eq_false hon)).trans hturn)
  refine completes_of hrun ?_
  cases hwait : waitsAtDetector src cls with
  | true =>
    obtain ⟨hregs, hinject, hdue⟩ := injectOne_of_waits hwait (turnTaken s src cls n l)
    have hreal : (injectOne (turnTaken s src cls n l) src cls).flt.real = s.flt.real := by
      unfold injectOne
      rw [if_pos hwait]
      rfl
    exact ⟨hinject, fun k _ => reg_of_regs _ hregs, hreal, nofun, fun _ => hdue⟩
  | false =>
    obtain ⟨hwaits, hinject, -, -, -⟩ := injectOne_injected hwait (turnTaken s src cls n l)
    refine ⟨hinject, fun k _ => ?_, ?_, fun _ => ⟨?_, hwaits⟩, nofun⟩
    all_goals rw [injectOne_other hwait hown]
    · exact (reg_eq_of_word (degradeInjected_word (FaultInjection.count_outside (by decide +kernel) k) _ src cls)).trans
        (raiseInjected_real (turnTaken s src cls n l) src cls k)
    · rw [degradeInjected_real, raiseInjected_realWaits]
      rfl
    · exact (degradeInjected_counts _ src cls).trans (raiseInjected_count (turnTaken s src cls n l) src cls)

/-- Settles O57: detections by what they count and degrade, the grant by its one request, the others by their effects. -/
theorem faults : Obligations.Faults :=
  ⟨fun _ _ _ w hon hlist hown => faultDetect_completes w hon hlist hown,
    fun _ _ w hon hn hactive => faultDetect_engine w hon hn hactive, fun _ _ _ w h => faultDetect_unlisted w h,
    fun _ _ hon hlast hp hwait hfirst => FaultGrant.faultGrant_completes hon hlast hp hwait hfirst,
    fun _ h => FaultGrant.faultGrant_none h, fltAck_completes, fun _ => rfl,
    fun _ _ hon hdue hboxes => supervisorRestart_completes hon hdue hboxes,
    fun _ own other hres hcold hstop hon => restartComplete_completes own other hres hcold hstop hon,
    fun _ _ _ _ _ hon hqueue hown => injectRepeat_completes hon hqueue hown,
    fun s h => by
      show Host.Outcome.next (if domainsOff s then s else injectRepeat s) = _
      unfold injectRepeat
      rw [h, ite_self]⟩

end Sys2Proof.Machine.FaultRestart
end

section
/-! PROOF. DramControl: the checks of the DRAM organization and its bank map, activates, errors and power states (16_memory.md R496 to
R506). -/

namespace Sys2Proof.Machine.DramControl

open FrameTiming (flag_eq_of_word reg_lt)
open GalleryComposition (reg_wrapBy_self abortFrame_of_loading)
open EngineLoss (abortFrame_loading)
open BlankPasses (SourceKept sourceKept_of faulted_before faulted_after)
open WakeSequences (raiseFault_of_ne_fatal)
open TatexPorts (bumpBy_counted)

/-! ### Organization and bank map (R496, R498) -/

section
variable (s : State)

theorem dramSize_eq : s.dramSize = (1 + s.reg DDRC.ORG.RANKS) * (match s.reg DDRC.ORG.WIDTH, s.reg DDRC.ORG.DENSITY with
    | 0, 0 => 4 * 2 ^ 30
    | 0, 1 => 8 * 2 ^ 30
    | 1, 0 => 2 * 2 ^ 30
    | 1, 1 => 4 * 2 ^ 30
    | 1, 2 => 8 * 2 ^ 30
    | _, _ => 0) := rfl

/-- The rank of a listed organization is a power of two, and one that is not listed has no DRAM. -/
theorem dramSize_listed : (OrgListed s → s.dramSize = (1 + s.reg DDRC.ORG.RANKS) * 2 ^ rankBit s)
    ∧ (¬ OrgListed s → s.dramSize = 0) := by
  have hwidth (w : Nat) : w = 0 ∨ w = 1 ∨ ∃ k, w = k + 2 := by
    rcases w with _ | _ | k
    exacts [.inl rfl, .inr (.inl rfl), .inr (.inr ⟨k, rfl⟩)]
  have hdensity (d : Nat) : d = 0 ∨ d = 1 ∨ d = 2 ∨ ∃ k, d = k + 3 := by
    rcases d with _ | _ | _ | k
    exacts [.inl rfl, .inr (.inl rfl), .inr (.inr (.inl rfl)), .inr (.inr (.inr ⟨k, rfl⟩))]
  rw [dramSize_eq]
  unfold OrgListed rankBit
  rcases hwidth (s.reg DDRC.ORG.WIDTH) with h | h | ⟨w, h⟩ <;>
    rcases hdensity (s.reg DDRC.ORG.DENSITY) with k | k | k | ⟨d, k⟩ <;> simp [h, k]

theorem orgOk_iff : orgOk s = true ↔ OrgListed s := by
  obtain ⟨hsize, hnone⟩ := dramSize_listed s
  unfold orgOk
  by_cases h : OrgListed s
  · have hpos : 0 < (1 + s.reg DDRC.ORG.RANKS) * 2 ^ rankBit s := Nat.mul_pos (by omega) (Nat.two_pow_pos _)
    simp only [h, iff_true, bne_iff_ne, hsize h]
    omega
  · simp [h, hnone h]

variable {s} (hlisted : OrgListed s)
include hlisted

theorem rankBits_eq : rankBits s = rankBit s := by
  unfold rankBits
  rw [(dramSize_listed s).1 hlisted, Nat.mul_div_cancel_left _ (by omega), Nat.log2_two_pow]

theorem rowOrRank_iff (b : Nat) : rowOrRank s b = true ↔ RowOrRank s b := by
  unfold rowOrRank RowOrRank firstRowBit
  rw [rankBits_eq hlisted]
  simp only [Bool.or_eq_true, Bool.and_eq_true, decide_eq_true_eq, beq_iff_eq]

theorem selectorOk_iff (own : Nat) (b en : Nat → Field) : selectorOk s own (selectors s b en) = true ↔ SelectorsOk s own b en := by
  unfold selectorOk selectors SelectorsOk State.regIn
  simp only [Bool.and_eq_true, List.contains_iff_mem, List.mem_map, List.mem_filter, List.mem_range, List.all_eq_true, Bool.or_eq_true,
    beq_iff_eq, rowOrRank_iff hlisted, and_assoc]
  exact and_congr_right fun _ => ⟨fun h j hj hen => h _ ⟨j, hj, hen, rfl⟩, fun h x ⟨j, hj, hen, hx⟩ => hx ▸ h j hj hen⟩

theorem mapOk_iff : mapOk s = true ↔ MapListed s := by
  have hflag : s.flag DDRC.ORG.WIDTH = (s.reg DDRC.ORG.WIDTH != 0) := rfl
  unfold mapOk MapListed
  simp only [Bool.and_eq_true, Bool.or_eq_true, selectorOk_iff hlisted, hflag]
  obtain h0 | h1 : s.reg DDRC.ORG.WIDTH = 0 ∨ s.reg DDRC.ORG.WIDTH = 1 := hlisted.imp And.left And.left
  · simp [h0, and_assoc]
  · simp [h1, and_assoc]

end

/-- EN sets exactly for a listed organization with valid selector sets; else the error that applies shows (R496, R498). -/
theorem ddrcEnSet_completes {s : State} (hoff : s.flag DDRC.CTRL.EN = false) : Completes .ddrcEnSet s fun t =>
    (t.flag DDRC.CTRL.EN = true ↔ OrgListed s ∧ MapListed s)
    ∧ (¬ OrgListed s → t.flag DDRC.STATUS.ORG_ERR = true) ∧ (OrgListed s → ¬ MapListed s → t.flag DDRC.STATUS.MAP_ERR = true) := by
  have hrun : exec .ddrcEnSet s = .next (ddrcEnable s) := congrArg Host.Outcome.next (if_neg (ne_true_of_eq_false hoff))
  refine completes_of hrun ?_
  unfold ddrcEnable
  by_cases hlisted : OrgListed s
  · rw [if_neg (by simp [(orgOk_iff s).mpr hlisted])]
    by_cases hmap : MapListed s
    · rw [if_neg (by simp [(mapOk_iff hlisted).mpr hmap])]
      have hon : (s.setFlag DDRC.CTRL.EN true).flag DDRC.CTRL.EN = true := flag_setFlag_self _ _ _ (by decide) (by decide)
      exact ⟨by simp [hon, hlisted, hmap], fun h => absurd hlisted h, fun _ h => absurd hmap h⟩
    · rw [if_pos (Bool.eq_false_of_not_eq_true fun h => hmap ((mapOk_iff hlisted).mp h))]
      have hstill : (s.setFlag DDRC.STATUS.MAP_ERR true).flag DDRC.CTRL.EN = false :=
        (flag_setFlag_ne _ _ _ _ (by decide)).trans hoff
      exact ⟨by simp [hstill, hmap], fun h => absurd hlisted h, fun _ _ => flag_setFlag_self _ _ _ (by decide) (by decide)⟩
  · rw [if_pos (Bool.eq_false_of_not_eq_true fun h => hlisted ((orgOk_iff s).mp h))]
    have hstill : (s.setFlag DDRC.STATUS.ORG_ERR true).flag DDRC.CTRL.EN = false :=
      (flag_setFlag_ne _ _ _ _ (by decide)).trans hoff
    exact ⟨by simp [hstill, hlisted], fun _ => flag_setFlag_self _ _ _ (by decide) (by decide), fun h => absurd h hlisted⟩

/-! ### Refresh, activates and power states (R497, R501, R502, R506) -/

theorem refresh_run {s : State} (h : dramAwake s = true) :
    exec .dramRefresh s = .next { s with ddr := { s.ddr with refreshed := some s.now } }
    ∧ exec .zqCalibration s = .next { s with ddr := { s.ddr with zqDone := some s.now } } :=
  ⟨congrArg Host.Outcome.next (if_pos h), congrArg Host.Outcome.next (if_pos h)⟩

/-- The ticks spent in self-refresh that SR_TIME has not taken yet (R506). -/
def asleepTicks (s : State) : Nat := s.ddr.srTicks + (s.ddr.srSince.map (s.now - ·)).getD 0

theorem dramExit_awake (s : State) : (dramExit s).flag DDRC.STATUS.SELF_REFRESH = false
    ∧ (dramExit s).flag DDRC.STATUS.POWER_DOWN = false :=
  ⟨(flag_setFlag_ne _ _ _ _ (by decide)).trans (flag_setFlag_self _ _ _ (by decide) (by decide)),
    flag_setFlag_self _ _ _ (by decide) (by decide)⟩

theorem dramExit_reg (s : State) {f : Field} (h : Outside dramExitRegs (fieldKey f)) : (dramExit s).reg f = s.reg f :=
  reg_eq_of_word (dramExit_word h s)

theorem dramExit_time {s : State} {a : Nat} (h : s.ddr.srSince = some a) :
    (dramExit s).reg DDRC.SR_TIME.TIME = (s.reg DDRC.SR_TIME.TIME + (s.ddr.srTicks + (s.now - a)) / 400) % 2 ^ 32
    ∧ (dramExit s).ddr.srTicks = (s.ddr.srTicks + (s.now - a)) % 400 := by
  have hexit : dramExit s = (({ s with ddr := { s.ddr with srSince := none, srTicks := (s.ddr.srTicks + (s.now - a)) % 400 } }.wrapBy
      DDRC.SR_TIME.TIME ((s.ddr.srTicks + (s.now - a)) / 400)).setFlag DDRC.STATUS.SELF_REFRESH false).setFlag
      DDRC.STATUS.POWER_DOWN false := by
    unfold dramExit
    rw [h]
  rw [hexit]
  refine ⟨?_, rfl⟩
  rw [reg_setFlag_ne _ _ _ _ (by decide), reg_setFlag_ne _ _ _ _ (by decide)]
  exact reg_wrapBy_self _ DDRC.SR_TIME.TIME _ (by decide)

theorem dramActivate_completes {s : State} (bank row : Nat) (hclk : clocksRun s = true) (hen : s.flag DDRC.CTRL.EN = true) :
    Completes (.dramActivate bank row) s fun t =>
      t.flag DDRC.STATUS.SELF_REFRESH = false ∧ t.flag DDRC.STATUS.POWER_DOWN = false
      ∧ (Config.rhpDraw s.free % 2 ^ clampN 8 16 (s.reg DDRC.RHP.RHP_K) = 0 → Counted s t DDRC.RHP_COUNT.COUNT 1)
      ∧ (Config.rhpDraw s.free % 2 ^ clampN 8 16 (s.reg DDRC.RHP.RHP_K) ≠ 0 → t.reg DDRC.RHP_COUNT.COUNT = s.reg DDRC.RHP_COUNT.COUNT) := by
  have hrun : exec (.dramActivate bank row) s = .next (activateRow s) := congrArg Host.Outcome.next (if_pos ⟨hclk, hen⟩)
  obtain ⟨hsr, hpd⟩ := dramExit_awake s
  have hcount : (dramExit s).reg DDRC.RHP_COUNT.COUNT = s.reg DDRC.RHP_COUNT.COUNT := dramExit_reg s (outside_of (by decide))
  by_cases hdraw : Config.rhpDraw s.free % 2 ^ clampN 8 16 (s.reg DDRC.RHP.RHP_K) = 0
  · have hrow : activateRow s = (dramExit s).tookFree.bump DDRC.RHP_COUNT.COUNT := if_pos hdraw
    rw [hrow] at hrun
    refine completes_of hrun ⟨(flag_setReg_ne _ _ _ _ (by decide)).trans hsr, (flag_setReg_ne _ _ _ _ (by decide)).trans hpd, fun _ => ?_,
      fun h => absurd hdraw h⟩
    exact (reg_bump_self (dramExit s).tookFree _ (by decide)).trans (congrArg (fun n => min (2 ^ 32 - 1) (n + 1)) hcount)
  · have hrow : activateRow s = (dramExit s).tookFree := if_neg hdraw
    rw [hrow] at hrun
    exact completes_of hrun ⟨hsr, hpd, fun h => absurd h hdraw, fun _ => hcount⟩

theorem dramSelfRefresh_effects (s : State) : (dramSelfRefresh s).flag DDRC.STATUS.SELF_REFRESH = true
    ∧ (dramSelfRefresh s).flag DDRC.STATUS.POWER_DOWN = false
    ∧ (dramSelfRefresh s).ddr.srSince = some (s.ddr.srSince.getD s.now) := by
  refine ⟨(flag_setFlag_ne _ _ _ _ (by decide)).trans (flag_setFlag_self _ _ _ (by decide) (by decide)),
    flag_setFlag_self _ _ _ (by decide) (by decide), ?_⟩
  unfold dramSelfRefresh
  cases hsince : s.ddr.srSince with
  | none => rfl
  | some a => exact hsince

theorem latRuns_of {s : State} (hclk : clocksRun s = true) (hpower : s.power ≠ 1) (hen : s.flag DDRC.CTRL.EN = true)
    (hlat : s.flag DDRC.CTRL.LAT_EN = true) : latRuns s = true := by
  unfold latRuns
  rw [hclk, hen, hlat]
  simpa using hpower

theorem tolCountdownExpiry_completes {s : State} (h : latRuns s = true) : Completes .tolCountdownExpiry s fun t =>
    t.flag DDRC.STATUS.SELF_REFRESH = false ∧ t.flag DDRC.STATUS.POWER_DOWN = false
    ∧ ∀ a, s.ddr.srSince = some a → a ≤ s.now →
      t.reg DDRC.SR_TIME.TIME = (s.reg DDRC.SR_TIME.TIME + (s.ddr.srTicks + (s.now - a)) / 400) % 2 ^ 32
      ∧ t.ddr.srTicks = (s.ddr.srTicks + (s.now - a)) % 400 := by
  have hrun : exec .tolCountdownExpiry s = .next (dramExit s) := congrArg Host.Outcome.next (if_pos h)
  obtain ⟨hsr, hpd⟩ := dramExit_awake s
  exact completes_of hrun ⟨hsr, hpd, fun _ ha _ => dramExit_time ha⟩

theorem dramIdlePowerState_completes {s : State} (h : latRuns s = true) : Completes .dramIdlePowerState s fun t =>
    (srMin s ≤ s.reg SCAN.LAT_TOL.TOL → t.flag DDRC.STATUS.SELF_REFRESH = true ∧ t.ddr.srSince.isSome = true)
    ∧ (clampN 1 255 (s.reg DDRC.PWR.PD_MIN) ≤ s.reg SCAN.LAT_TOL.TOL → s.reg SCAN.LAT_TOL.TOL < srMin s →
      s.flag DDRC.STATUS.SELF_REFRESH = false → t.flag DDRC.STATUS.POWER_DOWN = true ∧ t.flag DDRC.STATUS.SELF_REFRESH = false)
    ∧ (s.reg SCAN.LAT_TOL.TOL < clampN 1 255 (s.reg DDRC.PWR.PD_MIN) → t = s) := by
  have hrun : exec .dramIdlePowerState s = .next (idlePower s) := congrArg Host.Outcome.next (if_pos h)
  have hpdLow : clampN 1 255 (s.reg DDRC.PWR.PD_MIN) ≤ srMin s := Nat.le_max_left _ _
  refine completes_of hrun ⟨fun hdeep => ?_, fun hpd hshallow hsr => ?_, fun hnone => ?_⟩
  · have hidle : idlePower s = dramSelfRefresh s := if_pos hdeep
    obtain ⟨hon, -, hsince⟩ := dramSelfRefresh_effects s
    rw [hidle, hsince]
    exact ⟨hon, rfl⟩
  · have hidle : idlePower s = s.setFlag DDRC.STATUS.POWER_DOWN true := (if_neg (by omega)).trans (if_pos ⟨hpd, hsr⟩)
    rw [hidle]
    exact ⟨flag_setFlag_self _ _ _ (by decide) (by decide), (flag_setFlag_ne _ _ _ _ (by decide)).trans hsr⟩
  · have hshort : ¬ s.regIn DDRC.PWR.PD_MIN 1 255 ≤ s.reg SCAN.LAT_TOL.TOL := Nat.not_le.mpr hnone
    exact (if_neg (by omega)).trans (if_neg fun hp => hshort hp.1)

theorem dramIdleSelfRefresh_completes {s : State} (hlanding : s.power = 1) (hclk : clocksRun s = true) (hen : s.flag DDRC.CTRL.EN = true) :
    Completes .dramIdleSelfRefresh s fun t => t.flag DDRC.STATUS.SELF_REFRESH = true ∧ t.flag DDRC.STATUS.POWER_DOWN = false
      ∧ t.ddr.srSince = some (s.ddr.srSince.getD s.now) := by
  have hrun : exec .dramIdleSelfRefresh s = .next (dramSelfRefresh s) := congrArg Host.Outcome.next (if_pos ⟨hlanding, hclk, hen⟩)
  exact completes_of hrun (dramSelfRefresh_effects s)

/-! ### Uncorrectable reads (R505) -/

section
variable (s : State) (classS : Bool) (addr : Nat)

theorem logged_logged : UncorrectableLogged s (logUncorrectable s classS addr) classS addr := by
  unfold logUncorrectable
  refine ⟨?_, ?_, ?_, flag_setFlag_self _ _ _ (by decide) (by decide)⟩
  · unfold Counted
    rw [reg_setFlag_ne _ _ _ _ (by decide), reg_setReg_ne _ _ _ _ (by decide), reg_setReg_ne _ _ _ _ (by decide)]
    exact reg_bump_self _ _ (by decide)
  · rw [reg_setFlag_ne _ _ _ _ (by decide), reg_setReg_ne _ _ _ _ (by decide)]
    exact reg_setReg_self _ _ _ (by decide)
  · rw [reg_setFlag_ne _ _ _ _ (by decide)]
    exact reg_setReg_self _ _ _ (by decide)

/-- A log entry stays one through changes of other registers. -/
theorem logged_after {s t u : State} {classS : Bool} {addr : Nat} (h : UncorrectableLogged s t classS addr)
    (hreg : ∀ f ∈ [DDRC.UE_COUNT.COUNT, DDRC.UE_ADDR_LO.ADDR, DDRC.UE_ADDR_HI.ADDR, DDRC.UE_ADDR_HI.CLASS_S], u.reg f = t.reg f) :
    UncorrectableLogged s u classS addr := by
  simp only [List.forall_mem_cons, List.not_mem_nil, false_implies, implies_true, and_true] at hreg
  obtain ⟨hcount, hlow, hhigh, hclass⟩ := hreg
  unfold UncorrectableLogged Counted State.flag at h ⊢
  rwa [hcount, hlow, hhigh, hclass]

/-- A fault below FATAL writes its own count alone. -/
theorem raiseFault_reg {cls : Nat} (h : cls ≠ 3) (u : State) {src : Nat} {f : Field}
    (hf : fieldKey f < 0x30100 * 32 ∨ 0x30280 * 32 ≤ fieldKey f) : (raiseFault u src cls).reg f = u.reg f := by
  have hregs : (raiseFault u src cls).regs = (u.bump (FLT.COUNT.COUNT src)).regs := by rw [raiseFault_of_ne_fatal h]
  exact (reg_of_regs f hregs).trans (reg_bump_ne u _ f (FaultInjection.count_ne hf src).symm)

theorem logUncorrectable_sourceKept (k : Nat) : SourceKept k s (logUncorrectable s classS addr) :=
  sourceKept_of (logUncorrectable_word (FaultInjection.count_outside (by decide) k) s classS addr) rfl

theorem safetyReadFails_loading (h : s.scan.loading = true) :
    safetyReadFails s addr = abortFrame (raiseFault (logUncorrectable s true addr) 59 2) := if_pos h

theorem safetyReadFails_idle (h : s.scan.loading = false) : safetyReadFails s addr = logUncorrectable s true addr :=
  if_neg (ne_true_of_eq_false h)

/-- An abort counts as one, not as an underrun or a blocked frame. -/
theorem abortFrame_stats (u : State) : (abortFrame u).stats.underruns = u.stats.underruns
    ∧ (abortFrame u).stats.blocked = u.stats.blocked := by
  unfold abortFrame
  split <;> exact ⟨rfl, rfl⟩

theorem safetyReadFails_failed : SafetyReadFailed s (safetyReadFails s addr) addr := by
  have hlog := logged_logged s true addr
  by_cases h : s.scan.loading = true
  · have hfault : (raiseFault (logUncorrectable s true addr) 59 2).scan.loading = true :=
      (EngineLoss.raiseFault_loading _ 59 2).trans h
    obtain ⟨hload, hhold, -⟩ := abortFrame_of_loading hfault
    obtain ⟨hunder, hblocked⟩ := abortFrame_stats (raiseFault (logUncorrectable s true addr) 59 2)
    have hstats : (raiseFault (logUncorrectable s true addr) 59 2).stats = s.stats := by simp
    have hregs : (abortFrame (raiseFault (logUncorrectable s true addr) 59 2)).regs = (raiseFault (logUncorrectable s true addr) 59 2).regs :=
      by simp
    have hcounts : ∀ f ∈ [DDRC.UE_COUNT.COUNT, DDRC.UE_ADDR_LO.ADDR, DDRC.UE_ADDR_HI.ADDR, DDRC.UE_ADDR_HI.CLASS_S],
        0x30280 * 32 ≤ fieldKey f := by decide
    rw [safetyReadFails_loading s addr h]
    refine ⟨logged_after hlog fun f hf => (reg_of_regs f hregs).trans ?_, hload, by rw [hunder, hstats], by rw [hblocked, hstats],
      fun _ => ⟨?_, hhold⟩⟩
    · exact raiseFault_reg (by decide) _ (.inr (hcounts f hf))
    · exact faulted_after (faulted_before (logUncorrectable_sourceKept s true addr 59) (raiseFault_faulted _ 59 2))
        (sourceKept_of (congrArg (fun m => wordAt m _) hregs) (by simp))
  · have hidle := Bool.eq_false_of_not_eq_true h
    rw [safetyReadFails_idle s addr hidle]
    exact ⟨hlog, hidle, rfl, rfl, fun h => absurd h (ne_true_of_eq_false hidle)⟩

end

/-- What a count before it leaves of a failed read. -/
theorem readFailed_before {s t u : State} {addr : Nat} (hcount : u.reg DDRC.UE_COUNT.COUNT = s.reg DDRC.UE_COUNT.COUNT)
    (hsource : SourceKept 59 s u) (hscan : u.scan = s.scan) (hstats : u.stats = s.stats) (h : SafetyReadFailed u t addr) :
    SafetyReadFailed s t addr := by
  obtain ⟨hlog, hload, hunder, hblocked, hfault⟩ := h
  unfold UncorrectableLogged Counted at hlog
  rw [hcount] at hlog
  rw [hstats] at hunder hblocked
  rw [hscan] at hfault
  exact ⟨hlog, hload, hunder, hblocked, fun hl => (hfault hl).imp_left (faulted_before hsource)⟩

/-! ### Entries abandoned (R504, R505) -/

/-- The running set with the entries that `bands` render now left without a band. -/
def entriesDropped (r : RunSet) (bands : List Nat) : RunSet :=
  { r with entries := r.entries.mapIdx (fun i e =>
      if (bands.filterMap (fun b => (currentEntry r b).map (fun x => x.1))).contains i then { e with todo := 0 } else e) }

theorem abandonEntries_running {s : State} {r : RunSet} (h : s.eng.running = some r) (bands : List Nat) : abandonEntries s bands
    = closeSet { s with eng := { s.eng with running := some (entriesDropped r bands) } } := by
  unfold abandonEntries
  rw [h]
  rfl

theorem closeSet_running (s : State) : (closeSet s).eng.running = s.eng.running ∨ (closeSet s).eng.running = none := by
  unfold closeSet
  split
  · split
    · exact .inr rfl
    · exact .inl rfl
  · exact .inl rfl

/-- The entry that a dropped band renders has no band left. -/
theorem entriesDropped_todo {r : RunSet} {bands : List Nat} {b i : Nat} {e : RunEntry} (hb : b ∈ bands)
    (hcur : currentEntry r b = some (i, e)) : ((entriesDropped r bands).entries.getD i ⟨[], 0, 0, 0⟩).todo = 0 := by
  have hmem : i ∈ bands.filterMap (fun b => (currentEntry r b).map (fun x => x.1)) :=
    List.mem_filterMap.mpr ⟨b, hb, by rw [hcur]; rfl⟩
  unfold entriesDropped
  rw [List.getD_eq_getElem?_getD, List.getElem?_mapIdx]
  cases hat : r.entries[i]? with
  | none => rfl
  | some x => simp [hmem]

theorem abandonBands_abandoned (s : State) (n : Nat) : EntriesAbandoned s (abandonBands s n) n := by
  unfold abandonBands
  refine ⟨fun k _ => reg_of_regs _ (by simp), by simp, fun r r' hr hr' b hb hown i e hcur => ?_⟩
  rw [abandonEntries_running hr] at hr'
  rcases closeSet_running { s with eng := { s.eng with running := some (entriesDropped r (bandsOf s n)) } } with h | h
  · rw [h] at hr'
    have hset : entriesDropped r (bandsOf s n) = r' := Option.some.inj hr'
    rw [← hset]
    exact entriesDropped_todo (List.mem_filter.mpr ⟨List.mem_range.mpr hb, beq_iff_eq.mpr hown⟩) hcur
  · exact absurd (h.symm.trans hr') nofun

/-- What a count before it leaves of an abandonment. -/
theorem abandoned_before {s u t : State} {n : Nat} (hreg : ∀ f : Field, 0xE0000 * 32 ≤ fieldKey f → u.reg f = s.reg f) (heng : u.eng = s.eng) (hgal : u.gal = s.gal) (h : EntriesAbandoned u t n) : EntriesAbandoned s t n := by
  obtain ⟨hfence, hsame, htodo⟩ := h
  refine ⟨fun k hk => (hfence k hk).trans (hreg _ (by simp only [fieldKey, GAL.FENCE.FENCE]; omega)), hsame.trans hgal, fun r r' hr hr' b hb hown => ?_⟩
  exact htodo r r' (heng ▸ hr) hr' b hb ((hreg _ (by simp only [fieldKey, BE.BAND_MAP.ENGINE]; omega)).trans hown)

/-! ### Alerts and read errors (R504, R505) -/

section
variable {s : State} (hclk : clocksRun s = true) (hen : s.flag DDRC.CTRL.EN = true)
include hclk hen

theorem ddrAlert_completes (e : ReplayEnd) : Completes (.ddrAlert e) s fun t =>
    Counted s t DDRC.REPLAY_COUNT.COUNT 1
    ∧ (∀ a, e = .readFails a → SafetyReadFailed s t a) ∧ (∀ n, e = .writeFails n → EntriesAbandoned s t n)
    ∧ (e = .good → t.eng = s.eng ∧ t.scan = s.scan ∧ t.flt = s.flt) := by
  have hrun : exec (.ddrAlert e) s = .next (alert s e) := congrArg Host.Outcome.next (if_pos ⟨hclk, hen⟩)
  have hcounted : Counted s (s.bump DDRC.REPLAY_COUNT.COUNT) DDRC.REPLAY_COUNT.COUNT 1 := reg_bump_self _ _ (by decide)
  refine completes_of hrun ?_
  cases e with
  | good => exact ⟨hcounted, nofun, nofun, fun _ => ⟨rfl, rfl, rfl⟩⟩
  | readFails a =>
    have hkept : (safetyReadFails (s.bump DDRC.REPLAY_COUNT.COUNT) a).reg DDRC.REPLAY_COUNT.COUNT
        = (s.bump DDRC.REPLAY_COUNT.COUNT).reg DDRC.REPLAY_COUNT.COUNT :=
      reg_eq_of_word (safetyReadFails_word (outside_of (by decide +kernel)) _ a)
    refine ⟨hkept.trans hcounted, fun b hb => ?_, nofun, nofun⟩
    cases hb
    exact readFailed_before (reg_bump_ne _ _ _ (by decide)) (sourceKept_of (setReg_word _ _ _ (by decide)) rfl) rfl rfl
      (safetyReadFails_failed _ a)
  | writeFails n =>
    have hregs : (abandonBands (s.bump DDRC.REPLAY_COUNT.COUNT) n).regs = (s.bump DDRC.REPLAY_COUNT.COUNT).regs := by
      simp [abandonBands]
    refine ⟨(reg_of_regs _ hregs).trans hcounted, nofun, fun k hk => ?_, nofun⟩
    cases hk
    refine abandoned_before (fun f hf => reg_bump_ne _ _ _ ?_) rfl rfl (abandonBands_abandoned _ n)
    have hkey : fieldKey DDRC.REPLAY_COUNT.COUNT < 0xE0000 * 32 := by decide
    omega

/-- What the corrected errors of this second come to with one more (R505). -/
def correctedCount (s : State) : Nat := if s.ddr.ceSec = s.now / 400000000 then s.ddr.ceCount + 1 else 1

/-- One more corrected error counted. -/
def correctedShown (s : State) : State :=
  { s with ddr := { s.ddr with ceSec := s.now / 400000000, ceCount := correctedCount s } }.bump DDRC.CE_COUNT.COUNT

omit hclk hen in
theorem correctedError_eq : correctedError s
    = if correctedCount s = s.reg DDRC.PWR.CE_TH + 1 then raiseFault (correctedShown s) 58 1 else correctedShown s := rfl

omit hclk hen in
theorem correctedError_effects : Counted s (correctedError s) DDRC.CE_COUNT.COUNT 1
    ∧ (correctedError s).ddr.ceSec = s.now / 400000000 ∧ (correctedError s).ddr.ceCount = correctedCount s
    ∧ (correctedCount s = s.reg DDRC.PWR.CE_TH + 1 → Faulted s (correctedError s) 58 1)
    ∧ (correctedCount s ≠ s.reg DDRC.PWR.CE_TH + 1 → (correctedError s).flt = s.flt) := by
  have hcounted : Counted s (correctedShown s) DDRC.CE_COUNT.COUNT 1 := reg_bump_self _ _ (by decide)
  rw [correctedError_eq]
  by_cases h : correctedCount s = s.reg DDRC.PWR.CE_TH + 1
  · have hkept : SourceKept 58 s (correctedShown s) := sourceKept_of (setReg_word _ _ _ (by decide)) rfl
    rw [if_pos h]
    refine ⟨?_, by simp [correctedShown], by simp [correctedShown], fun _ => faulted_before hkept (raiseFault_faulted _ 58 1),
      fun hne => absurd h hne⟩
    rw [raiseFault_of_ne_fatal (by decide)]
    exact (reg_bump_ne (correctedShown s) _ _ (by decide)).trans hcounted
  · rw [if_neg h]
    exact ⟨hcounted, rfl, rfl, fun he => absurd he h, fun _ => rfl⟩

omit hclk hen in
/-- The reaction to an error response keeps the log, the faults and the raster (R505). -/
theorem clientReacts_logged (a : Nat) (cl : DramClient) :
    UncorrectableLogged s (clientReacts (logUncorrectable s false a) cl) false a
    ∧ (clientReacts (logUncorrectable s false a) cl).scan = s.scan ∧ (clientReacts (logUncorrectable s false a) cl).flt = s.flt := by
  refine ⟨logged_after (logged_logged s false a) fun f hf => ?_, ?_, ?_⟩
  · have hfar : ∀ f ∈ [DDRC.UE_COUNT.COUNT, DDRC.UE_ADDR_LO.ADDR, DDRC.UE_ADDR_HI.ADDR, DDRC.UE_ADDR_HI.CLASS_S],
        Outside clientReactsRegs (fieldKey f) := fun f hf => by
      have hclear : [DDRC.UE_COUNT.COUNT, DDRC.UE_ADDR_LO.ADDR, DDRC.UE_ADDR_HI.ADDR, DDRC.UE_ADDR_HI.CLASS_S].all
        (fun f => clientReactsRegs.all (fun g => fieldKey g != fieldKey f)) = true := by decide
      exact outside_of (List.all_eq_true.mp hclear f hf)
    exact reg_eq_of_word (clientReacts_word (hfar f hf) _ cl)
  · simp
  · simp

omit hclk hen in
theorem clientReacts_engine (a n : Nat) : EntriesAbandoned s (clientReacts (logUncorrectable s false a) (.engine n)) n := by
  refine abandoned_before (fun f hf => reg_eq_of_word (logUncorrectable_word ?_ s false a)) rfl rfl (abandonBands_abandoned _ n)
  have hbelow : ∀ g ∈ logUncorrectableRegs, fieldKey g < 0xE0000 * 32 := by decide
  intro g hg
  have := hbelow g hg
  omega

omit hclk hen in
theorem clientReacts_dose (a : Nat) {b : Nat} (hb : b < 16) :
    bit (clientReacts (logUncorrectable s false a) (.dose b)).eng.lostBands b = true
    ∧ (clientReacts (logUncorrectable s false a) (.dose b)).flag BE.STATUS.DOSE_LOST = true := by
  unfold clientReacts
  dsimp only
  rw [if_pos hb]
  exact ⟨FaultDetection.lostKeys_bit _ b, flag_setFlag_self _ _ _ (by decide) (by decide)⟩

theorem dramReadError_completes (cls : DramClass) (a : Nat) (kind : DramErrorKind) (cl : DramClient) :
    Completes (.dramReadError cls a kind cl) s fun t =>
    (kind = .corrected → Counted s t DDRC.CE_COUNT.COUNT 1 ∧ t.ddr.ceSec = s.now / 400000000
      ∧ t.ddr.ceCount = (if s.ddr.ceSec = s.now / 400000000 then s.ddr.ceCount + 1 else 1)
      ∧ (t.ddr.ceCount = s.reg DDRC.PWR.CE_TH + 1 → Faulted s t 58 1) ∧ (t.ddr.ceCount ≠ s.reg DDRC.PWR.CE_TH + 1 → t.flt = s.flt))
    ∧ (kind = .rereadGood → cls = .s → Counted s t DDRC.CE_COUNT.COUNT 1 ∧ t.flt = s.flt ∧ t.scan = s.scan)
    ∧ (kind = .uncorrectable → cls = .s → SafetyReadFailed s t a)
    ∧ (kind = .uncorrectable → cls = .g → UncorrectableLogged s t false a ∧ t.scan = s.scan ∧ t.flt = s.flt
      ∧ (∀ n, cl = .engine n → EntriesAbandoned s t n)
      ∧ (∀ b, cl = .dose b → b < 16 → bit t.eng.lostBands b = true ∧ t.flag BE.STATUS.DOSE_LOST = true)) := by
  have hrun : exec (.dramReadError cls a kind cl) s = .next (readError s cls a kind cl) :=
    congrArg Host.Outcome.next (if_pos ⟨hclk, hen⟩)
  refine completes_of hrun ⟨fun hk => ?_, fun hk hc => ?_, fun hk hc => ?_, fun hk hc => ?_⟩
  · subst hk
    have hread : readError s cls a .corrected cl = correctedError s := by cases cls <;> rfl
    obtain ⟨hcounted, hsec, hcount, hfault, hnone⟩ := correctedError_effects (s := s)
    rw [hread, hcount]
    exact ⟨hcounted, hsec, rfl, hfault, hnone⟩
  · subst hk hc
    exact ⟨reg_bump_self _ _ (by decide), rfl, rfl⟩
  · subst hk hc
    exact safetyReadFails_failed s a
  · subst hk hc
    obtain ⟨hlog, hscan, hflt⟩ := clientReacts_logged (s := s) a cl
    refine ⟨hlog, hscan, hflt, fun n hn => ?_, fun b hb hlt => ?_⟩
    · subst hn
      exact clientReacts_engine a n
    · subst hb
      exact clientReacts_dose a hlt

end

theorem patrolScrub_completes {s : State} (n : Nat) (hup : supUp s = true) (hawake : dramAwake s = true) :
    Completes (.patrolScrub n) s fun t => Counted s t DDRC.CE_COUNT.COUNT n := by
  have hrun : exec (.patrolScrub n) s = .next (s.bumpBy DDRC.CE_COUNT.COUNT n) := congrArg Host.Outcome.next (if_pos ⟨hup, hawake⟩)
  exact completes_of hrun (bumpBy_counted s (by decide) n)

end Sys2Proof.Machine.DramControl
end

section
/-! PROOF. MramCare: the records Jorosh commits, copies repaired and scrubbed, and the wear allowance (16_memory.md R512, R513, R518,
R519). -/

namespace Sys2Proof.Machine.MramCare

open BlankPasses (SourceKept faulted_before)
open PixelMapCommands (committed_of_mram)
open DoseCheckpoint (committed_of_records checkpoint_committed)
open ShadowPublish (keys_nodup_of_sparseWf sparseGet_of_not_mem)
open TatexPorts (bumpBy_counted)
open DramControl

/-! ### Jorosh's own commits (R310, R324, R512) -/

section
variable {s : State} (hup : supUp s = true)
include hup

theorem recordCommit_run (num : Nat) : exec (.mramRecordCommit num) s = .next (recordCommit s num) :=
  congrArg Host.Outcome.next (if_pos hup)

theorem recordCommit_barred {num : Nat} (h : mayCommit s num = false) : exec (.mramRecordCommit num) s = .next s :=
  (recordCommit_run hup num).trans (congrArg Host.Outcome.next (if_pos h))

theorem recordCommit_plan (hmay : mayCommit s 3 = true) (hnew : newestCopy (recOf s 3) ≠ none)
    (hdiff : (payloadOf s 3).2 ≠ toLe 1 s.cal.vcPlan) :
    Completes (.mramRecordCommit 3) s fun t => Committed s t 3 (toLe 1 s.cal.vcPlan) := by
  have hdue : ¬ (payloadOf s 3 = ((payloadOf s 3).1, toLe 1 s.cal.vcPlan)
      ∨ (newestCopy (recOf s 3) = none ∧ s.cal.vcPlan = min 10 Config.vcorePowerOn)) := by
    rintro (h | h)
    · exact hdiff (congrArg Prod.snd h)
    · exact hnew h.1
  have hcommit : recordCommit s 3 = commitRecord s 3 (toLe 1 s.cal.vcPlan) true :=
    (if_neg (by simp [hmay])).trans ((if_pos rfl).trans (if_neg hdue))
  exact completes_of ((recordCommit_run hup 3).trans (congrArg Host.Outcome.next hcommit)) (committed_of_mram rfl rfl)

theorem recordCommit_map (hmay : mayCommit s 0x11 = true) (hdiff : (payloadOf s 0x11).2 ≠ mapPayload s) :
    Completes (.mramRecordCommit 0x11) s fun t => Committed s t 0x11 (mapPayload s) ∧ t.diag.uncommitted = [] := by
  have hcommit : recordCommit s 0x11 = commitMap s := by
    unfold recordCommit
    rw [if_neg (by simp [hmay]), if_neg (by decide), if_neg (by decide), if_pos rfl, if_neg hdiff]
  exact completes_of ((recordCommit_run hup 0x11).trans (congrArg Host.Outcome.next hcommit)) ⟨committed_of_mram rfl rfl, rfl⟩

omit hup in
/-- Beside the record, a committed calibration writes the planes of the copy that the record replaces. -/
theorem commitCal_effects : Committed s (commitCal s) 0x10 (calPayload s (nextCopy (recOf s 0x10)).1 (nextCopy (recOf s 0x10)).2)
    ∧ if (nextCopy (recOf s 0x10)).1 = 0 then (commitCal s).mram.maskA = s.cal.masks ∧ (commitCal s).mram.maskB = s.mram.maskB
        ∧ (commitCal s).mram.trimB = s.mram.trimB
      else (commitCal s).mram.maskB = s.cal.masks ∧ (commitCal s).mram.maskA = s.mram.maskA
        ∧ (commitCal s).mram.trimA = s.mram.trimA := by
  obtain ⟨u, hu⟩ : ∃ u, u = commitRecord s 0x10 (calPayload s (nextCopy (recOf s 0x10)).1 (nextCopy (recOf s 0x10)).2) true :=
    ⟨_, rfl⟩
  have hcommit : Committed s u 0x10 (calPayload s (nextCopy (recOf s 0x10)).1 (nextCopy (recOf s 0x10)).2) := by
    rw [hu]
    exact committed_of_mram rfl rfl
  have hplanes : u.mram.maskA = s.mram.maskA ∧ u.mram.maskB = s.mram.maskB ∧ u.mram.trimA = s.mram.trimA
      ∧ u.mram.trimB = s.mram.trimB := by rw [hu]; exact ⟨rfl, rfl, rfl, rfl⟩
  obtain ⟨hma, hmb, hta, htb⟩ := hplanes
  have hcal : (commitCal s).mram = if (nextCopy (recOf s 0x10)).1 = 0
      then { u.mram with maskA := s.cal.masks, trimA := trimPlane (trimList s.cal.trims) }
      else { u.mram with maskB := s.cal.masks, trimB := trimPlane (trimList s.cal.trims) } := by
    rw [hu]
    rfl
  by_cases h : (nextCopy (recOf s 0x10)).1 = 0
  · rw [if_pos h] at hcal ⊢
    rw [hcal]
    exact ⟨committed_of_records hcommit (by rw [hcal]) (by rw [hcal]) (by rw [hcal]) (by rw [hcal]), rfl, hmb, htb⟩
  · rw [if_neg h] at hcal ⊢
    rw [hcal]
    exact ⟨committed_of_records hcommit (by rw [hcal]) (by rw [hcal]) (by rw [hcal]) (by rw [hcal]), rfl, hma, hta⟩

theorem recordCommit_cal (hmay : mayCommit s 0x10 = true) (hdue : calDue s = true) :
    Completes (.mramRecordCommit 0x10) s fun t =>
      Committed s t 0x10 (calPayload s (nextCopy (recOf s 0x10)).1 (nextCopy (recOf s 0x10)).2)
      ∧ (if (nextCopy (recOf s 0x10)).1 = 0 then t.mram.maskA = s.cal.masks ∧ t.mram.maskB = s.mram.maskB ∧ t.mram.trimB = s.mram.trimB
        else t.mram.maskB = s.cal.masks ∧ t.mram.maskA = s.mram.maskA ∧ t.mram.trimA = s.mram.trimA) := by
  have hcommit : recordCommit s 0x10 = commitCal s := by
    unfold recordCommit
    rw [if_neg (by simp [hmay]), if_neg (by decide), if_pos rfl, if_pos hdue]
  exact completes_of ((recordCommit_run hup 0x10).trans (congrArg Host.Outcome.next hcommit)) commitCal_effects

theorem recordCommit_dose (hmay : mayCommit s 0x12 = true) (hdue : s.cal.ckptDue = true) :
    Completes (.mramRecordCommit 0x12) s fun t => (∃ data, Committed s t 0x12 data) ∧ t.cal.ckptDue = false := by
  have hcommit : recordCommit s 0x12 = checkpoint s := by
    unfold recordCommit
    rw [if_neg (by simp [hmay]), if_neg (by decide), if_neg (by decide), if_neg (by decide), if_pos rfl, if_pos hdue]
  exact completes_of ((recordCommit_run hup 0x12).trans (congrArg Host.Outcome.next hcommit)) ⟨checkpoint_committed s, rfl⟩

end

/-! ### Copies repaired (R513) -/

section
variable (s : State) (num : Nat)

/-- A record with its one valid copy in both places. -/
def bothCopies (r : Rec) : Rec := ⟨r.a.or r.b, r.a.or r.b⟩

/-- A repair rewrites the invalid copy of a record that has one valid copy. -/
theorem repairCopy_recs (h : OneCopy s num) : (repairCopy s num).mram.recs = sparseSet ⟨none, none⟩ s.mram.recs num (bothCopies (recOf s num)) := by
  unfold OneCopy at h
  unfold repairCopy bothCopies
  generalize recOf s num = r at h ⊢
  obtain ⟨a, b⟩ := r
  cases a with
  | some x =>
    cases b with
    | some y => simp at h
    | none =>
      dsimp only [Option.or]
      split
      · rfl
      · split <;> rfl
  | none =>
    cases b with
    | none => simp at h
    | some y =>
      dsimp only [Option.or]
      split
      · rfl
      · split <;> rfl

theorem repairCopy_self (h : OneCopy s num) : recOf (repairCopy s num) num = bothCopies (recOf s num) := by
  have hrec : recOf (repairCopy s num) num = sparseGet ⟨none, none⟩ (repairCopy s num).mram.recs num := rfl
  rw [hrec, repairCopy_recs s num h]
  exact sparseGet_set_self _ _ _ _

theorem repairCopy_other (h : OneCopy s num) {k : Nat} (hk : k ≠ num) : recOf (repairCopy s num) k = recOf s k := by
  have hrec : recOf (repairCopy s num) k = sparseGet ⟨none, none⟩ (repairCopy s num).mram.recs k := rfl
  rw [hrec, repairCopy_recs s num h]
  exact sparseGet_set_ne _ _ _ _ _ (Ne.symm hk)

/-- Two equal copies: the newest is copy A. -/
theorem newestCopy_both {r : Rec} (h : r.a.isSome ≠ r.b.isSome) :
    newestCopy (bothCopies r) = some (0, (r.a.or r.b).getD ⟨0, []⟩) := by
  unfold newestCopy bothCopies
  cases ha : r.a <;> cases hb : r.b <;> simp [ha, hb] at h ⊢

theorem copyRepair_completes (hup : supUp s = true) (h : OneCopy s num) : Completes (.mramCopyRepair num) s fun t =>
    newestCopy (recOf t num) = some ((0 : Nat), ((recOf s num).a.or (recOf s num).b).getD ⟨0, []⟩) ∧ (recOf t num).a = (recOf t num).b
    ∧ ∀ k, k ≠ num → recOf t k = recOf s k := by
  have hrun : exec (.mramCopyRepair num) s = .next (repairCopy s num) := congrArg Host.Outcome.next (if_pos hup)
  refine completes_of hrun ⟨?_, ?_, fun k hk => repairCopy_other s num h hk⟩
  · rw [repairCopy_self s num h]
    exact newestCopy_both h
  · rw [repairCopy_self s num h]
    rfl

/-! ### The scrub (R513, R519) -/

theorem recOf_of_mram {s t : State} (h : t.mram = s.mram) (k : Nat) : recOf t k = recOf s k := by
  unfold recOf
  rw [h]

theorem scrubRecord_one (h : OneCopy s num) : scrubRecord s num = repairCopy (raiseFault s 60 1) num := if_neg h

theorem scrubRecord_whole (h : ¬ OneCopy s num) : scrubRecord s num = s := if_pos (not_not.mp h)

theorem oneCopy_of_recOf {s t : State} {num : Nat} (h : recOf t num = recOf s num) : OneCopy t num ↔ OneCopy s num := by
  unfold OneCopy
  rw [h]

/-- A scrubbed record is restored where one copy was valid, and left alone otherwise; the other records stand. -/
theorem scrubRecord_recs : (OneCopy s num → recOf (scrubRecord s num) num = bothCopies (recOf s num))
    ∧ (¬ OneCopy s num → recOf (scrubRecord s num) num = recOf s num) ∧ ∀ k, k ≠ num → recOf (scrubRecord s num) k = recOf s k := by
  by_cases h : OneCopy s num
  · have hrec (k : Nat) : recOf (raiseFault s 60 1) k = recOf s k := recOf_of_mram (by simp) k
    have hone : OneCopy (raiseFault s 60 1) num := (oneCopy_of_recOf (hrec num)).mpr h
    rw [scrubRecord_one s num h]
    exact ⟨fun _ => (repairCopy_self _ num hone).trans (by rw [hrec]), fun hn => absurd h hn,
      fun k hk => (repairCopy_other _ num hone hk).trans (hrec k)⟩
  · rw [scrubRecord_whole s num h]
    exact ⟨fun ho => absurd ho h, fun _ => rfl, fun _ _ => rfl⟩

/-- Source 60 waits once a copy was restored, and still waits after. -/
theorem scrubRecord_waits : (OneCopy s num → ∃ w, sparseGet none (scrubRecord s num).flt.real 60 = some w)
    ∧ ((∃ w, sparseGet none s.flt.real 60 = some w) → ∃ w, sparseGet none (scrubRecord s num).flt.real 60 = some w) := by
  by_cases h : OneCopy s num
  · obtain ⟨-, w, hw, -⟩ := raiseFault_faulted s 60 1
    have hflt : (repairCopy (raiseFault s 60 1) num).flt = (raiseFault s 60 1).flt := by simp
    rw [scrubRecord_one s num h, hflt]
    exact ⟨fun _ => ⟨w, hw⟩, fun _ => ⟨w, hw⟩⟩
  · rw [scrubRecord_whole s num h]
    exact ⟨fun ho => absurd ho h, id⟩

theorem scrubRecord_reg {f : Field} (hf : fieldKey f < 0x30100 * 32 ∨ 0x30280 * 32 ≤ fieldKey f) :
    (scrubRecord s num).reg f = s.reg f := by
  by_cases h : OneCopy s num
  · rw [scrubRecord_one s num h]
    exact (reg_of_regs (s := raiseFault s 60 1) f (by simp)).trans (raiseFault_reg (by decide) s hf)
  · rw [scrubRecord_whole s num h]

end

/-- A record of a scrubbed list, each number once. -/
theorem scrubFold_rec {l : List Nat} (hl : l.Nodup) (s : State) (num : Nat) :
    (num ∈ l → OneCopy s num → recOf (l.foldl scrubRecord s) num = bothCopies (recOf s num)
      ∧ ∃ w, sparseGet none (l.foldl scrubRecord s).flt.real 60 = some w)
    ∧ (num ∉ l ∨ ¬ OneCopy s num → recOf (l.foldl scrubRecord s) num = recOf s num)
    ∧ ((∃ w, sparseGet none s.flt.real 60 = some w) → ∃ w, sparseGet none (l.foldl scrubRecord s).flt.real 60 = some w) := by
  induction l generalizing s with
  | nil => exact ⟨fun h => absurd h List.not_mem_nil, fun _ => rfl, id⟩
  | cons x l ih =>
    obtain ⟨hx, hl⟩ := List.nodup_cons.mp hl
    obtain ⟨hone, hwhole, hother⟩ := scrubRecord_recs s x
    obtain ⟨hraised, hwaits⟩ := scrubRecord_waits s x
    obtain ⟨ihone, ihkept, ihwaits⟩ := ih hl (scrubRecord s x)
    rw [List.foldl_cons]
    refine ⟨fun hmem h => ?_, fun h => ?_, fun h => ihwaits (hwaits h)⟩
    · rcases List.mem_cons.mp hmem with rfl | hin
      · exact ⟨(ihkept (.inl hx)).trans (hone h), ihwaits (hraised h)⟩
      · have hne : num ≠ x := fun he => hx (he ▸ hin)
        have hsame := hother num hne
        rw [oneCopy_of_recOf hsame, hsame] at ihone
        exact ihone hin h
    · by_cases hne : num = x
      · subst hne
        exact (ihkept (.inl hx)).trans (hwhole (h.resolve_left fun hn => hn List.mem_cons_self))
      · have hsame := hother num hne
        rw [oneCopy_of_recOf hsame, hsame] at ihkept
        exact ihkept (h.imp_left fun hn hin => hn (List.mem_cons_of_mem _ hin))

theorem scrubFold_reg (l : List Nat) (s : State) {f : Field} (hf : fieldKey f < 0x30100 * 32 ∨ 0x30280 * 32 ≤ fieldKey f) :
    (l.foldl scrubRecord s).reg f = s.reg f := by
  induction l generalizing s with
  | nil => rfl
  | cons x l ih => rw [List.foldl_cons, ih, scrubRecord_reg s x hf]

theorem mem_recNums {num : Nat} (h : num ∈ [1, 2, 3, 0x10, 0x11, 0x12] ∨ 0x100 ≤ num ∧ num ≤ 0x10F) : num ∈ recNums := by
  unfold recNums
  rw [List.mem_append]
  refine h.imp_right fun hr => List.mem_map.mpr ⟨num - 0x100, List.mem_range.mpr (by omega), by omega⟩

theorem mramScrub_completes {s : State} (n : Nat) (hup : supUp s = true) : Completes (.mramScrub n) s fun t =>
    Counted s t MRAM.CE_COUNT.COUNT n
    ∧ ∀ num, num ∈ [1, 2, 3, 0x10, 0x11, 0x12] ∨ 0x100 ≤ num ∧ num ≤ 0x10F → (OneCopy s num → (recOf t num).a = (recOf t num).b
        ∧ (recOf t num).a = (recOf s num).a.or (recOf s num).b ∧ ∃ w, sparseGet none t.flt.real 60 = some w)
      ∧ (¬ OneCopy s num → recOf t num = recOf s num) := by
  have hrun : exec (.mramScrub n) s = .next (recNums.foldl scrubRecord (s.bumpBy MRAM.CE_COUNT.COUNT n)) :=
    congrArg Host.Outcome.next (if_pos hup)
  refine completes_of hrun ⟨(scrubFold_reg recNums _ (by decide)).trans (bumpBy_counted s (by decide) n), fun num hnum => ?_⟩
  obtain ⟨hone, hwhole, -⟩ := scrubFold_rec (by decide : recNums.Nodup) (s.bumpBy MRAM.CE_COUNT.COUNT n) num
  have hrec : recOf (s.bumpBy MRAM.CE_COUNT.COUNT n) num = recOf s num := rfl
  rw [oneCopy_of_recOf hrec, hrec] at hone hwhole
  refine ⟨fun h => ?_, fun h => hwhole (.inr h)⟩
  obtain ⟨hboth, hwaits⟩ := hone (mem_recNums hnum) h
  rw [hboth]
  exact ⟨rfl, rfl, hwaits⟩

/-! ### The wear allowance (R518) -/

/-- Every number lowered by one, and those at 0 unlisted. -/
theorem sparseGet_lowered {m : Sparse Nat} (hm : (m.map Prod.fst).Nodup) (k : Nat) :
    sparseGet 0 ((m.map (fun p => (p.1, p.2 - 1))).filter (fun p => p.2 != 0)) k = sparseGet 0 m k - 1 := by
  induction m with
  | nil => rfl
  | cons p m ih =>
    obtain ⟨hp, hm⟩ := List.nodup_cons.mp hm
    have ih := ih hm
    rw [List.map_cons, List.filter_cons]
    by_cases hk : p.1 = k
    · have hget : sparseGet 0 (p :: m) k = p.2 := if_pos hk
      have hrest : sparseGet 0 m k = 0 := sparseGet_of_not_mem 0 (hk ▸ hp)
      rw [hget]
      split
      · exact if_pos hk
      · next hzero =>
        rw [ih, hrest]
        simp at hzero
        omega
    · have hget : sparseGet 0 (p :: m) k = sparseGet 0 m k := if_neg hk
      rw [hget]
      split
      · exact (if_neg hk).trans ih
      · exact ih

theorem wearAllowanceTick_completes {s : State} (num : Nat) (hwf : sparseWf 0 s.mram.used = true) (hmost : sparseGet 0 s.mram.used num ≤ 60) :
    Completes .wearAllowanceTick s fun t => allowance t num = min 60 (allowance s num + 1) := by
  refine completes_of rfl ?_
  have hlow := sparseGet_lowered (keys_nodup_of_sparseWf 0 hwf) num
  unfold allowance
  dsimp only
  rw [hlow]
  omega

/-- Settles O56: the controller's commands, then the commits, repairs, scrub and allowance of the MRAM records. -/
theorem memories : Obligations.Memories :=
  ⟨fun _ hoff => ddrcEnSet_completes hoff, fun _ h => refresh_run h,
    fun _ bank row hclk hen => dramActivate_completes bank row hclk hen, fun _ e hclk hen => ddrAlert_completes hclk hen e,
    fun _ cls a kind cl hclk hen => dramReadError_completes hclk hen cls a kind cl,
    fun _ n hup hawake => patrolScrub_completes n hup hawake,
    fun _ hclk hpower hen hlat => ⟨tolCountdownExpiry_completes (latRuns_of hclk hpower hen hlat),
      dramIdlePowerState_completes (latRuns_of hclk hpower hen hlat)⟩,
    fun _ hlanding hclk hen => dramIdleSelfRefresh_completes hlanding hclk hen,
    fun _ _ hup h => recordCommit_barred hup h, fun _ hup hmay hnew hdiff => recordCommit_plan hup hmay hnew hdiff,
    fun _ hup hmay hdiff => recordCommit_map hup hmay hdiff, fun _ hup hmay hdue => recordCommit_cal hup hmay hdue,
    fun _ hup hmay hdue => recordCommit_dose hup hmay hdue, fun s num hup h => copyRepair_completes s num hup h,
    fun _ n hup => mramScrub_completes n hup, fun _ num hwf hmost => wearAllowanceTick_completes num hwf hmost⟩

end Sys2Proof.Machine.MramCare
end

section
/-! PROOF. ThermalStops: the orderly stop entered and left, and one threshold judged at a sample (15_thermal_management.md R482 to
R486). -/

namespace Sys2Proof.Machine.ThermalStops

open FrameTiming (flag_eq_of_word raiseCause_flag_self clearCause_flag_self)
open BlankPasses (SourceKept sourceKept_of faulted_before faulted_after raiseFault_sourceKept)
open BootReports (EventsKept eventsKept_of_eq raiseFault_events)
open FaultInjection (count_outside)

/-! ### Sources and events -/

theorem count_key_ne {k n : Nat} (hk : k < 96) (hn : n < 96) (h : k ≠ n) : fieldKey (FLT.COUNT.COUNT k) ≠ fieldKey (FLT.COUNT.COUNT n) := by
  simp only [fieldKey, FLT.COUNT.COUNT]
  omega

theorem raiseFault_keeps {src k : Nat} (hsrc : src < 96) (hk : k < 96) (h : src ≠ k) (s : State) (cls : Nat) :
    SourceKept k s (raiseFault s src cls) :=
  raiseFault_sourceKept (count_key_ne hsrc hk h) h s cls

theorem raiseCause_events (s : State) (c : Field) : EventsKept s (raiseCause s c) := by
  unfold raiseCause raiseCauseInj
  split
  · exact eventsKept_of_eq rfl
  · dsimp only
    split <;> split
    · exact eventsKept_of_eq rfl
    · exact ⟨_, rfl⟩
    · exact eventsKept_of_eq rfl
    · exact ⟨_, rfl⟩

/-- What a source's count and request, the time and the node, and the waiting events keep from `s` to `t`. -/
structure Onward (s t : State) : Prop where
  lt : t.lt = s.lt
  node : t.reg TXLA.NODE.ADDR = s.reg TXLA.NODE.ADDR
  events : EventsKept s t

theorem Onward.refl (s : State) : Onward s s := ⟨rfl, rfl, eventsKept_of_eq rfl⟩

theorem Onward.trans {s t u : State} (h : Onward s t) (k : Onward t u) : Onward s u :=
  ⟨k.lt.trans h.lt, k.node.trans h.node, h.events.trans k.events⟩

/-- An event is told as of a state before it. -/
theorem Onward.eventOf {s t : State} (h : Onward s t) (code : Nat) (args : List Byte) : eventOf t code args = eventOf s code args := by
  unfold Machine.eventOf State.now
  rw [h.lt, h.node]

/-- A THERMAL event waits after it is raised. -/
theorem thermalEvent_mem (s : State) (thr sensor : Nat) (v : Int) :
    eventOf s 0x0106 (toLe 1 thr ++ toLe 1 sensor ++ toLe 2 (toBits 16 v)) ∈ (thermalEvent s thr sensor v).flt.jorosh :=
  List.mem_append_right _ List.mem_cons_self

theorem thermalEvent_onward (s : State) (thr sensor : Nat) (v : Int) : Onward s (thermalEvent s thr sensor v) := ⟨rfl, rfl, ⟨_, rfl⟩⟩

theorem thermalEvent_kept (s : State) (thr sensor : Nat) (v : Int) (k : Nat) : SourceKept k s (thermalEvent s thr sensor v) :=
  ⟨rfl, rfl⟩

/-! ### SOFT_STOP entered (R485) -/

section
variable (s : State)

/-- The stop's cause, half current and count, before its fault. -/
def stopShown : State := ((raiseCause s SAFE.FB_CAUSE.SOFT_STOP).setFlag SCAN.FB_CTRL.FB_HALF true).bump THM.SOFT_STOP_COUNT.COUNT

theorem enterSoftStop_eq : enterSoftStop s = raiseFault (stopShown s) 53 2 := rfl

theorem stopShown_reg {f : Field} (h : Outside (raiseCauseRegs ++ [SAFE.FB_CAUSE.SOFT_STOP, SCAN.FB_CTRL.FB_HALF,
    THM.SOFT_STOP_COUNT.COUNT]) (fieldKey f)) : (stopShown s).reg f = s.reg f := by
  simp only [outside_append, outside_cons, outside_nil, and_true] at h
  obtain ⟨hcause, hsoft, hhalf, hcount⟩ := h
  unfold stopShown
  rw [reg_bump_ne _ _ _ hcount, reg_setFlag_ne _ _ _ _ hhalf]
  exact reg_eq_of_word (raiseCause_word hcause s _ hsoft)

theorem stopShown_kept (k : Nat) : SourceKept k s (stopShown s) :=
  ⟨stopShown_reg s (count_outside (by decide) k), congrArg (fun m => sparseGet none m k) (FallbackCauses.raiseCause_real s _)⟩

theorem enterSoftStop_reg_shown {f : Field} (hf : fieldKey f < 0x30100 * 32 ∨ 0x30280 * 32 ≤ fieldKey f) :
    (enterSoftStop s).reg f = (stopShown s).reg f := DramControl.raiseFault_reg (by decide) _ hf

theorem enterSoftStop_flags : (enterSoftStop s).flag SAFE.FB_CAUSE.SOFT_STOP = true
    ∧ (enterSoftStop s).flag SCAN.FB_CTRL.FB_HALF = true := by
  unfold State.flag
  rw [enterSoftStop_reg_shown s (.inr (by decide)), enterSoftStop_reg_shown s (.inr (by decide))]
  refine ⟨?_, ?_⟩
  · unfold stopShown
    rw [reg_bump_ne _ _ _ (by decide), reg_setFlag_ne _ _ _ _ (by decide)]
    exact raiseCause_flag_self s SAFE.FB_CAUSE.SOFT_STOP (outside_of (by decide)) (by decide) (by decide)
  · unfold stopShown
    rw [reg_bump_ne _ _ _ (by decide)]
    exact flag_setFlag_self _ _ _ (by decide) (by decide)

theorem enterSoftStop_counted : Faulted s (enterSoftStop s) 53 2 ∧ Counted s (enterSoftStop s) THM.SOFT_STOP_COUNT.COUNT 1 := by
  refine ⟨faulted_before (stopShown_kept s 53) (raiseFault_faulted _ 53 2), ?_⟩
  have hbefore : ((raiseCause s SAFE.FB_CAUSE.SOFT_STOP).setFlag SCAN.FB_CTRL.FB_HALF true).reg THM.SOFT_STOP_COUNT.COUNT
      = s.reg THM.SOFT_STOP_COUNT.COUNT :=
    (reg_setFlag_ne _ _ _ _ (by decide)).trans (reg_eq_of_word (raiseCause_word (outside_of (by decide)) s _ (by decide)))
  have hcount : (stopShown s).reg THM.SOFT_STOP_COUNT.COUNT = min (2 ^ 32 - 1) (s.reg THM.SOFT_STOP_COUNT.COUNT + 1) :=
    (reg_bump_self _ THM.SOFT_STOP_COUNT.COUNT (by decide)).trans (by rw [hbefore]; rfl)
  exact (enterSoftStop_reg_shown s (.inr (by decide))).trans hcount

theorem enterSoftStop_kept {k : Nat} (hk : k < 96) (h : k ≠ 53) : SourceKept k s (enterSoftStop s) :=
  (stopShown_kept s k).trans (raiseFault_keeps (by decide) hk (Ne.symm h) _ 2)

theorem enterSoftStop_reg {f : Field} (h : Outside enterSoftStopRegs (fieldKey f)) : (enterSoftStop s).reg f = s.reg f :=
  reg_eq_of_word (enterSoftStop_word h s)

theorem enterSoftStop_onward : Onward s (enterSoftStop s) := by
  have hshown : EventsKept s (stopShown s) := raiseCause_events s _
  exact ⟨by simp, enterSoftStop_reg s (outside_of (by decide +kernel)), hshown.trans (raiseFault_events (by decide) _ 53)⟩

/-! ### SOFT_STOP left (R486) -/

theorem clearCause_real (c : Field) : (clearCause s c).flt.real = s.flt.real := by
  unfold clearCause
  split
  · dsimp only
    split <;> rfl
  · rfl

theorem clearCause_events (c : Field) : EventsKept s (clearCause s c) := by
  unfold clearCause
  split
  · dsimp only
    split
    · exact eventsKept_of_eq rfl
    · exact ⟨_, rfl⟩
  · exact eventsKept_of_eq rfl

/-- The stop is in force for one of its two reasons (R486). -/
def stopHolds : Bool := s.thm.entered.getD 2 false || s.thm.failSoft.isSome

theorem leaveSoftStop_holds (h : stopHolds s = true) : leaveSoftStop s = s :=
  if_pos (by simpa [stopHolds] using h)

theorem leaveSoftStop_clears (h : stopHolds s = false) : leaveSoftStop s = if s.cal.ckptDue
    then checkpointOrWait (clearCause s SAFE.FB_CAUSE.SOFT_STOP) else clearCause s SAFE.FB_CAUSE.SOFT_STOP := by
  have hcal : (clearCause s SAFE.FB_CAUSE.SOFT_STOP).cal = s.cal := by simp
  unfold leaveSoftStop
  rw [if_neg (by simpa [stopHolds] using h), ← hcal]

theorem leaveSoftStop_reg {f : Field} (h : Outside leaveSoftStopRegs (fieldKey f)) : (leaveSoftStop s).reg f = s.reg f :=
  reg_eq_of_word (leaveSoftStop_word h s)

theorem leaveSoftStop_flag (h : stopHolds s = false) : (leaveSoftStop s).flag SAFE.FB_CAUSE.SOFT_STOP = false := by
  have hclear := clearCause_flag_self s SAFE.FB_CAUSE.SOFT_STOP (by decide) (by decide)
  rw [leaveSoftStop_clears s h]
  split
  · exact (flag_of_regs _ (by simp)).trans hclear
  · exact hclear

theorem leaveSoftStop_flt : (leaveSoftStop s).flt = s.flt ∨ (leaveSoftStop s).flt = (clearCause s SAFE.FB_CAUSE.SOFT_STOP).flt := by
  cases h : stopHolds s with
  | true => exact .inl (by rw [leaveSoftStop_holds s h])
  | false =>
    rw [leaveSoftStop_clears s h]
    split
    · exact .inr (by simp)
    · exact .inr rfl

theorem leaveSoftStop_onward : Onward s (leaveSoftStop s) := by
  refine ⟨by simp, leaveSoftStop_reg s (outside_of (by decide)), ?_⟩
  rcases leaveSoftStop_flt s with h | h
  · exact eventsKept_of_eq (by rw [h])
  · obtain ⟨l, hl⟩ := clearCause_events s SAFE.FB_CAUSE.SOFT_STOP
    exact ⟨l, by rw [h, hl]⟩

theorem leaveSoftStop_kept (k : Nat) : SourceKept k s (leaveSoftStop s) := by
  refine ⟨leaveSoftStop_reg s (count_outside (by decide) k), ?_⟩
  rcases leaveSoftStop_flt s with h | h
  · rw [h]
  · rw [h, clearCause_real]

end

/-! ### One threshold at one sample (R483) -/

/-- The run of samples at or above threshold `k` after this one, and of those 5 °C below it. -/
def upRun (s : State) (v : Int) (k : Nat) : Nat := runOf (decide (threshold s k ≤ v)) (s.thm.rises.getD k 0)
def downRun (s : State) (v : Int) (k : Nat) : Nat := runOf (decide (v < threshold s k - 20)) (s.thm.falls.getD k 0)

/-- Threshold `k` is in force after this sample. -/
def inForce (s : State) (v : Int) (k : Nat) : Bool :=
  if s.thm.entered.getD k false then !decide (downRun s v k = 3) else decide (upRun s v k = 3)

/-- The runs counted, and whether the threshold is in force. -/
def runsCounted (s : State) (v : Int) (k : Nat) (b : Bool) : State :=
  { s with thm := { s.thm with
    rises := s.thm.rises.set k (upRun s v k), falls := s.thm.falls.set k (downRun s v k), entered := s.thm.entered.set k b } }

section
variable (s : State) (v : Int) (hot k : Nat)

theorem judgeThreshold_enters (hwas : s.thm.entered.getD k false = false) (hup : upRun s v k = 3) :
    judgeThreshold v hot s k = thermalEvent (enterThreshold (runsCounted s v k true) k) k hot v := if_pos ⟨hwas, hup⟩

theorem judgeThreshold_leaves (hwas : s.thm.entered.getD k false = true) (hdown : downRun s v k = 3) : judgeThreshold v hot s k
    = thermalEvent (if k = 2 then leaveSoftStop (runsCounted s v k false) else runsCounted s v k false) (k + 128) hot v := by
  have hnot : ¬ (s.thm.entered.getD k false = false ∧ upRun s v k = 3) :=
      fun h => Bool.false_ne_true (h.1.symm.trans hwas)
  exact (if_neg hnot).trans (if_pos ⟨hwas, hdown⟩)

theorem set_getD_same (l : List Bool) (k : Nat) : l.set k (l.getD k false) = l := by
  refine List.ext_getElem (by simp) fun i h1 h2 => ?_
  rw [List.getElem_set]
  split
  · next h =>
    subst h
    rw [List.getD_eq_getElem _ _ h2]
  · rfl

theorem judgeThreshold_stays (h : inForce s v k = s.thm.entered.getD k false) :
    judgeThreshold v hot s k = runsCounted s v k (s.thm.entered.getD k false) := by
  have hsame : runsCounted s v k (s.thm.entered.getD k false) = { s with thm := { s.thm with
      rises := s.thm.rises.set k (upRun s v k), falls := s.thm.falls.set k (downRun s v k) } } := by
    unfold runsCounted
    rw [set_getD_same]
  unfold inForce at h
  rw [hsame]
  cases hwas : s.thm.entered.getD k false with
  | true =>
    rw [hwas, if_pos rfl] at h
    have hdown : ¬ downRun s v k = 3 := by simpa using h
    have hno : ¬ (s.thm.entered.getD k false = false ∧ upRun s v k = 3) :=
      fun h => Bool.false_ne_true (h.1.symm.trans hwas)
    exact (if_neg hno).trans (if_neg fun h => hdown h.2)
  | false =>
    rw [hwas, if_neg Bool.false_ne_true] at h
    have hup : ¬ upRun s v k = 3 := by simpa using h
    have hno : ¬ (s.thm.entered.getD k false = true ∧ downRun s v k = 3) := 
      fun h => Bool.false_ne_true (hwas.symm.trans h.1)
    exact (if_neg fun h => hup h.2).trans (if_neg hno)

/-- The three ways a threshold is judged. -/
theorem judgeThreshold_cases : (s.thm.entered.getD k false = false ∧ upRun s v k = 3)
    ∨ (s.thm.entered.getD k false = true ∧ downRun s v k = 3) ∨ inForce s v k = s.thm.entered.getD k false := by
  unfold inForce
  cases hwas : s.thm.entered.getD k false with
  | true => by_cases h : downRun s v k = 3 <;> simp [h]
  | false => by_cases h : upRun s v k = 3 <;> simp [h]

/-- Whatever else it does, it counts the runs and notes whether the threshold is in force. -/
theorem judgeThreshold_thm : (judgeThreshold v hot s k).thm = (runsCounted s v k (inForce s v k)).thm := by
  rcases judgeThreshold_cases s v k with ⟨hwas, hup⟩ | ⟨hwas, hdown⟩ | hsame
  · have hin : inForce s v k = true := by rw [inForce, hwas, hup]; rfl
    rw [judgeThreshold_enters s v hot k hwas hup, hin]
    simp
  · have hin : inForce s v k = false := by rw [inForce, hwas, hdown]; rfl
    rw [judgeThreshold_leaves s v hot k hwas hdown, hin]
    split <;> simp
  · rw [judgeThreshold_stays s v hot k hsame, hsame]

theorem enterThreshold_onward (u : State) : Onward u (enterThreshold u k) := by
  unfold enterThreshold
  split
  · exact ⟨by simp, (DramControl.raiseFault_reg (by decide) _ (.inr (by decide))).trans (reg_bump_ne _ _ _ (by decide)),
      raiseFault_events (by decide) _ 52⟩
  · exact enterSoftStop_onward u
  · exact .refl u

theorem judgeThreshold_onward : Onward s (judgeThreshold v hot s k) := by
  have hcounted (b : Bool) : Onward s (runsCounted s v k b) := ⟨rfl, rfl, eventsKept_of_eq rfl⟩
  rcases judgeThreshold_cases s v k with ⟨hwas, hup⟩ | ⟨hwas, hdown⟩ | hsame
  · rw [judgeThreshold_enters s v hot k hwas hup]
    exact (hcounted true).trans ((enterThreshold_onward k _).trans (thermalEvent_onward _ _ _ _))
  · rw [judgeThreshold_leaves s v hot k hwas hdown]
    refine (hcounted false).trans (Onward.trans ?_ (thermalEvent_onward _ _ _ _))
    split
    · exact leaveSoftStop_onward _
    · exact .refl _
  · rw [judgeThreshold_stays s v hot k hsame]
    exact hcounted _

/-- Entering tells of it, and so does leaving. -/
theorem judgeThreshold_told :
    (s.thm.entered.getD k false = false → upRun s v k = 3 →
      eventOf s 0x0106 (toLe 1 k ++ toLe 1 hot ++ toLe 2 (toBits 16 v)) ∈ (judgeThreshold v hot s k).flt.jorosh)
    ∧ (s.thm.entered.getD k false = true → downRun s v k = 3 →
      eventOf s 0x0106 (toLe 1 (k + 128) ++ toLe 1 hot ++ toLe 2 (toBits 16 v)) ∈ (judgeThreshold v hot s k).flt.jorosh) := by
  have hcounted (b : Bool) : Onward s (runsCounted s v k b) := ⟨rfl, rfl, eventsKept_of_eq rfl⟩
  refine ⟨fun hwas hup => ?_, fun hwas hdown => ?_⟩
  · have honward := (hcounted true).trans (enterThreshold_onward k (runsCounted s v k true))
    rw [judgeThreshold_enters s v hot k hwas hup, ← honward.eventOf]
    exact thermalEvent_mem _ _ _ _
  · have honward : Onward s (if k = 2 then leaveSoftStop (runsCounted s v k false) else runsCounted s v k false) := by
      refine (hcounted false).trans ?_
      split
      · exact leaveSoftStop_onward _
      · exact .refl _
    rw [judgeThreshold_leaves s v hot k hwas hdown, ← honward.eventOf]
    exact thermalEvent_mem _ _ _ _

end

end Sys2Proof.Machine.ThermalStops
end

section
/-! PROOF. ThermalSweep: the three thresholds judged one after the other, and the stop for failed sensors (15_thermal_management.md
R482, R483, R485, R486). -/

namespace Sys2Proof.Machine.ThermalSweep

open BlankPasses (SourceKept sourceKept_of faulted_before faulted_after)
open BootReports (EventsKept eventsKept_of_eq)
open FaultInjection (count_outside)
open ThermalStops

/-! ### What concerns one threshold -/

/-- The fields that set the thresholds. -/
def limitFields : List Field := [THM.THRESH.WARN, THM.THRESH.THROTTLE, THM.THRESH.SOFT_STOP]

/-- The fields that entering threshold `k` writes beside its fault's count. -/
def ownFields : Nat → List Field
  | 1 => [THM.THROTTLE_COUNT.COUNT]
  | 2 => [THM.SOFT_STOP_COUNT.COUNT, SAFE.FB_CAUSE.SOFT_STOP, SCAN.FB_CTRL.FB_HALF]
  | _ => []

/-- What threshold `k` is judged by, and what it has come to, stands from `s` to `t`. -/
structure RunsKept (k : Nat) (s t : State) : Prop where
  onward : Onward s t
  entered : t.thm.entered.getD k false = s.thm.entered.getD k false
  rises : t.thm.rises.getD k 0 = s.thm.rises.getD k 0
  falls : t.thm.falls.getD k 0 = s.thm.falls.getD k 0
  limits : ∀ f ∈ limitFields, t.reg f = s.reg f

/-- What entering threshold `k` does stands from `s` to `t`; for the `k` beyond the thresholds, source 51 + `k` alone. -/
structure EffectsKept (k : Nat) (s t : State) : Prop where
  source : SourceKept (51 + k) s t
  own : ∀ f ∈ ownFields k, t.reg f = s.reg f

section
variable {k : Nat} {s t u : State}

theorem RunsKept.refl (s : State) : RunsKept k s s := ⟨.refl s, rfl, rfl, rfl, fun _ _ => rfl⟩

theorem RunsKept.trans (h : RunsKept k s t) (i : RunsKept k t u) : RunsKept k s u :=
  ⟨h.onward.trans i.onward, i.entered.trans h.entered, i.rises.trans h.rises, i.falls.trans h.falls,
    fun f hf => (i.limits f hf).trans (h.limits f hf)⟩

/-- A change that leaves the thermal state alone. -/
theorem runsKept_of_thm (h : t.thm = s.thm) (honward : Onward s t) (hlimits : ∀ f ∈ limitFields, t.reg f = s.reg f) : RunsKept k s t :=
  ⟨honward, by rw [h], by rw [h], by rw [h], hlimits⟩

theorem EffectsKept.refl (s : State) : EffectsKept k s s := ⟨⟨rfl, rfl⟩, fun _ _ => rfl⟩

theorem EffectsKept.trans (h : EffectsKept k s t) (i : EffectsKept k t u) : EffectsKept k s u :=
  ⟨h.source.trans i.source, fun f hf => (i.own f hf).trans (h.own f hf)⟩

theorem RunsKept.threshold (h : RunsKept k s t) (j : Nat) : threshold t j = threshold s j := by
  unfold Machine.threshold State.regIn
  rw [h.limits _ (by decide), h.limits THM.THRESH.THROTTLE (by decide), h.limits THM.THRESH.SOFT_STOP (by decide)]

theorem RunsKept.runs (h : RunsKept k s t) (v : Int) : upRun t v k = upRun s v k ∧ downRun t v k = downRun s v k
    ∧ inForce t v k = inForce s v k := by
  have hup : upRun t v k = upRun s v k := by
    unfold upRun
    rw [h.threshold, h.rises]
  have hdown : downRun t v k = downRun s v k := by
    unfold downRun
    rw [h.threshold, h.falls]
  refine ⟨hup, hdown, ?_⟩
  unfold inForce
  rw [hup, hdown, h.entered]

end

/-! ### Another threshold judged -/

theorem limits_outside : ∀ f ∈ limitFields, Outside judgeThresholdRegs (fieldKey f) := by
  have h : limitFields.all (fun f => judgeThresholdRegs.all (fun g => fieldKey g != fieldKey f)) = true := by decide
  exact fun f hf => outside_of (List.all_eq_true.mp h f hf)

theorem getD_set_ne {α : Type} (l : List α) {j k : Nat} (h : j ≠ k) (x d : α) : (l.set j x).getD k d = l.getD k d := by
  rw [List.getD_eq_getElem?_getD, List.getElem?_set_ne h, ← List.getD_eq_getElem?_getD]

theorem getD_set_self {α : Type} {l : List α} {k : Nat} (h : k < l.length) (x d : α) : (l.set k x).getD k d = x := by
  rw [List.getD_eq_getElem?_getD, List.getElem?_set_self h]
  rfl

section
variable (s : State) (v : Int) (hot : Nat) {j k : Nat}

theorem judgeThreshold_runsKept (h : j ≠ k) : RunsKept k s (judgeThreshold v hot s j) := by
  have hthm := judgeThreshold_thm s v hot j
  refine ⟨judgeThreshold_onward s v hot j, ?_, ?_, ?_, fun f hf => reg_eq_of_word (judgeThreshold_word (limits_outside f hf) v hot s j)⟩
  · rw [hthm]
    exact getD_set_ne _ h _ _
  · rw [hthm]
    exact getD_set_ne _ h _ _
  · rw [hthm]
    exact getD_set_ne _ h _ _

theorem judgeThreshold_failed : (judgeThreshold v hot s j).thm.failed = s.thm.failed
    ∧ (judgeThreshold v hot s j).thm.failSoft = s.thm.failSoft := by
  rw [judgeThreshold_thm]
  exact ⟨rfl, rfl⟩

theorem judgeThreshold_lengths : (judgeThreshold v hot s j).thm.entered.length = s.thm.entered.length
    ∧ (judgeThreshold v hot s j).thm.rises.length = s.thm.rises.length
    ∧ (judgeThreshold v hot s j).thm.falls.length = s.thm.falls.length := by
  rw [judgeThreshold_thm]
  exact ⟨List.length_set, List.length_set, List.length_set⟩

/-- The one field of another threshold than SOFT_STOP. -/
theorem own_of_not_stop (hk : k < 5) (h : k ≠ 2) {f : Field} (hf : f ∈ ownFields k) : f = THM.THROTTLE_COUNT.COUNT := by
  obtain rfl | rfl | rfl | rfl : k = 0 ∨ k = 1 ∨ k = 3 ∨ k = 4 := by omega
  · exact absurd hf List.not_mem_nil
  · exact List.mem_singleton.mp hf
  · exact absurd hf List.not_mem_nil
  · exact absurd hf List.not_mem_nil

/-- The fields of SOFT_STOP are those that no other entry writes. -/
theorem own_of_not_throttle (hk : k < 5) (h : k ≠ 1) {f : Field} (hf : f ∈ ownFields k) : f ∈ ownFields 2 := by
  obtain rfl | rfl | rfl | rfl : k = 0 ∨ k = 2 ∨ k = 3 ∨ k = 4 := by omega
  · exact absurd hf List.not_mem_nil
  · exact hf
  · exact absurd hf List.not_mem_nil
  · exact absurd hf List.not_mem_nil

/-- The fields of another threshold stand apart from those that SOFT_STOP writes. -/
theorem enterSoftStop_effectsKept (hk : k < 5) (h : k ≠ 2) : EffectsKept k s (enterSoftStop s) := by
  refine ⟨enterSoftStop_kept s (by omega) (by omega), fun f hf => ?_⟩
  obtain rfl := own_of_not_stop hk h hf
  exact enterSoftStop_reg s (outside_of (by decide))

theorem leaveSoftStop_effectsKept (hk : k < 5) (h : k ≠ 2) : EffectsKept k s (leaveSoftStop s) := by
  refine ⟨leaveSoftStop_kept s _, fun f hf => ?_⟩
  obtain rfl := own_of_not_stop hk h hf
  exact leaveSoftStop_reg s (outside_of (by decide))

/-- THROTTLE counts and is source 52. -/
theorem enterThrottle_effectsKept (hk : k < 5) (h : k ≠ 1) : EffectsKept k s (enterThreshold s 1) := by
  have hkept : SourceKept (51 + k) s (s.bump THM.THROTTLE_COUNT.COUNT) :=
    ⟨reg_bump_ne _ _ _ (FaultInjection.count_ne (.inr (by decide)) _), rfl⟩
  refine ⟨hkept.trans (raiseFault_keeps (by decide) (by omega) (by omega) _ 1), fun f hf => ?_⟩
  have hfar : ∀ f ∈ ownFields 2, 0x30280 * 32 ≤ fieldKey f ∧ fieldKey THM.THROTTLE_COUNT.COUNT ≠ fieldKey f := by decide
  obtain ⟨hhigh, hne⟩ := hfar f (own_of_not_throttle hk h hf)
  exact (DramControl.raiseFault_reg (by decide) _ (.inr hhigh)).trans (reg_bump_ne _ _ _ hne)

theorem enterThreshold_effectsKept (hj : j < 3) (hk : k < 5) (h : j ≠ k) : EffectsKept k s (enterThreshold s j) := by
  obtain rfl | rfl | rfl : j = 0 ∨ j = 1 ∨ j = 2 := by omega
  · exact .refl s
  · exact enterThrottle_effectsKept s hk (Ne.symm h)
  · exact enterSoftStop_effectsKept s hk (Ne.symm h)

theorem runsCounted_effectsKept (b : Bool) : EffectsKept k s (runsCounted s v j b) := ⟨⟨rfl, rfl⟩, fun _ _ => rfl⟩

theorem thermalEvent_effectsKept (thr sensor : Nat) : EffectsKept k s (thermalEvent s thr sensor v) := ⟨⟨rfl, rfl⟩, fun _ _ => rfl⟩

theorem judgeThreshold_effectsKept (hj : j < 3) (hk : k < 5) (h : j ≠ k) : EffectsKept k s (judgeThreshold v hot s j) := by
  rcases judgeThreshold_cases s v j with ⟨hwas, hup⟩ | ⟨hwas, hdown⟩ | hsame
  · rw [judgeThreshold_enters s v hot j hwas hup]
    exact (runsCounted_effectsKept (j := j) s v true).trans
      ((enterThreshold_effectsKept _ hj hk h).trans (thermalEvent_effectsKept _ v _ _))
  · rw [judgeThreshold_leaves s v hot j hwas hdown]
    refine (runsCounted_effectsKept (j := j) s v false).trans (EffectsKept.trans ?_ (thermalEvent_effectsKept _ v _ _))
    split
    · exact leaveSoftStop_effectsKept _ hk (by omega)
    · exact .refl _
  · rw [judgeThreshold_stays s v hot j hsame]
    exact runsCounted_effectsKept (j := j) s v _

end

/-! ### The three thresholds in order (R483) -/

/-- WARN, THROTTLE and SOFT_STOP judged at one sample. -/
def sweep (s : State) (v : Int) (hot : Nat) : State := (List.range 3).foldl (judgeThreshold v hot) s

section
variable (s : State) (v : Int) (hot : Nat)

theorem sweep_eq : sweep s v hot = judgeThreshold v hot (judgeThreshold v hot (judgeThreshold v hot s 0) 1) 2 := rfl

theorem sweep_failed : (sweep s v hot).thm.failed = s.thm.failed ∧ (sweep s v hot).thm.failSoft = s.thm.failSoft := by
  simp only [sweep_eq, (judgeThreshold_failed _ v hot).1, (judgeThreshold_failed _ v hot).2, and_self]

theorem sweep_reg {f : Field} (h : Outside judgeThresholdRegs (fieldKey f)) : (sweep s v hot).reg f = s.reg f := by
  refine reg_eq_of_word ?_
  rw [sweep_eq, judgeThreshold_word h, judgeThreshold_word h, judgeThreshold_word h]

/-- Threshold `k` is judged once, and the others touch nothing of it. -/
theorem sweep_split {k : Nat} (hk : k < 3) : ∃ u, RunsKept k s u ∧ EffectsKept k s u
    ∧ u.thm.entered.length = s.thm.entered.length ∧ u.thm.rises.length = s.thm.rises.length
    ∧ u.thm.falls.length = s.thm.falls.length ∧ u.thm.failSoft = s.thm.failSoft
    ∧ RunsKept k (judgeThreshold v hot u k) (sweep s v hot) ∧ EffectsKept k (judgeThreshold v hot u k) (sweep s v hot) := by
  rw [sweep_eq]
  obtain ⟨h0e, h0r, h0f⟩ := judgeThreshold_lengths s v hot (j := 0)
  have h0s := (judgeThreshold_failed s v hot (j := 0)).2
  obtain ⟨h1e, h1r, h1f⟩ := judgeThreshold_lengths (judgeThreshold v hot s 0) v hot (j := 1)
  have h1s := (judgeThreshold_failed (judgeThreshold v hot s 0) v hot (j := 1)).2
  obtain rfl | rfl | rfl : k = 0 ∨ k = 1 ∨ k = 2 := by omega
  · exact ⟨s, .refl s, .refl s, rfl, rfl, rfl, rfl,
      (judgeThreshold_runsKept _ v hot (by decide)).trans (judgeThreshold_runsKept _ v hot (by decide)),
      (judgeThreshold_effectsKept _ v hot (by decide) (by decide) (by decide)).trans
        (judgeThreshold_effectsKept _ v hot (by decide) (by decide) (by decide))⟩
  · exact ⟨_, judgeThreshold_runsKept s v hot (by decide), judgeThreshold_effectsKept s v hot (by decide) (by decide) (by decide), h0e, h0r,
      h0f, h0s, judgeThreshold_runsKept _ v hot (by decide), judgeThreshold_effectsKept _ v hot (by decide) (by decide) (by decide)⟩
  · exact ⟨_, (judgeThreshold_runsKept s v hot (by decide)).trans (judgeThreshold_runsKept _ v hot (by decide)),
      (judgeThreshold_effectsKept s v hot (by decide) (by decide) (by decide)).trans
        (judgeThreshold_effectsKept _ v hot (by decide) (by decide) (by decide)),
      h1e.trans h0e, h1r.trans h0r, h1f.trans h0f, h1s.trans h0s, .refl _, .refl _⟩

/-- The source of a failed sensor stands through the thresholds. -/
theorem sweep_sensorSource : SourceKept 55 s (sweep s v hot) := by
  rw [sweep_eq]
  exact ((judgeThreshold_effectsKept s v hot (k := 4) (by decide) (by decide) (by decide)).trans
    ((judgeThreshold_effectsKept _ v hot (by decide) (by decide) (by decide)).trans
      (judgeThreshold_effectsKept _ v hot (by decide) (by decide) (by decide)))).source

variable {s} {k : Nat} (hk : k < 3) (hentered : s.thm.entered.length = 3)
include hk

theorem sweep_onward : Onward s (sweep s v hot) := by
  obtain ⟨u, hbefore, -, -, -, -, -, hafter, -⟩ := sweep_split s v hot hk
  exact hbefore.onward.trans ((judgeThreshold_onward u v hot k).trans hafter.onward)

include hentered in
/-- After the sweep each threshold has come to what its own runs say. -/
theorem sweep_runs (hrises : s.thm.rises.length = 3) (hfalls : s.thm.falls.length = 3) :
    (sweep s v hot).thm.entered.getD k false = inForce s v k ∧ (sweep s v hot).thm.rises.getD k 0 = upRun s v k
    ∧ (sweep s v hot).thm.falls.getD k 0 = downRun s v k := by
  obtain ⟨u, hbefore, -, hle, hlr, hlf, -, hafter, -⟩ := sweep_split s v hot hk
  obtain ⟨hup, hdown, hin⟩ := hbefore.runs v
  rw [hafter.entered, hafter.rises, hafter.falls, judgeThreshold_thm, ← hup, ← hdown, ← hin]
  exact ⟨getD_set_self (by omega) _ _, getD_set_self (by omega) _ _, getD_set_self (by omega) _ _⟩

theorem sweep_told :
    (s.thm.entered.getD k false = false → upRun s v k = 3 →
      eventOf s 0x0106 (toLe 1 k ++ toLe 1 hot ++ toLe 2 (toBits 16 v)) ∈ (sweep s v hot).flt.jorosh)
    ∧ (s.thm.entered.getD k false = true → downRun s v k = 3 →
      eventOf s 0x0106 (toLe 1 (k + 128) ++ toLe 1 hot ++ toLe 2 (toBits 16 v)) ∈ (sweep s v hot).flt.jorosh) := by
  obtain ⟨u, hbefore, -, -, -, -, -, hafter, -⟩ := sweep_split s v hot hk
  obtain ⟨hup, hdown, -⟩ := hbefore.runs v
  obtain ⟨henter, hleave⟩ := judgeThreshold_told u v hot k
  refine ⟨fun hwas hrun => hafter.onward.events.mem ?_, fun hwas hrun => hafter.onward.events.mem ?_⟩
  · rw [← hbefore.onward.eventOf]
    exact henter (hbefore.entered.trans hwas) (hup.trans hrun)
  · rw [← hbefore.onward.eventOf]
    exact hleave (hbefore.entered.trans hwas) (hdown.trans hrun)

end

section
variable {s : State} {v : Int} {hot : Nat}

/-- THROTTLE entered counts and is a CORR fault. -/
theorem sweep_throttle (hwas : s.thm.entered.getD 1 false = false) (hrun : upRun s v 1 = 3) :
    Faulted s (sweep s v hot) 52 1 ∧ Counted s (sweep s v hot) THM.THROTTLE_COUNT.COUNT 1 := by
  obtain ⟨u, hbefore, hown, -, -, -, -, -, hafter⟩ := sweep_split s v hot (k := 1) (by decide)
  obtain ⟨hup, -, -⟩ := hbefore.runs v
  obtain ⟨w, hw⟩ : ∃ w, w = runsCounted u v 1 true := ⟨_, rfl⟩
  have hjudged : judgeThreshold v hot u 1 = thermalEvent (raiseFault (w.bump THM.THROTTLE_COUNT.COUNT) 52 1) 1 hot v := by
    rw [hw]
    exact judgeThreshold_enters u v hot 1 (hbefore.entered.trans hwas) (hup.trans hrun)
  have hstart : EffectsKept 1 s w := by
    rw [hw]
    exact hown.trans (runsCounted_effectsKept u v true)
  have hbumped : SourceKept 52 w (w.bump THM.THROTTLE_COUNT.COUNT) := ⟨reg_bump_ne _ _ _ (by decide), rfl⟩
  have hcount : (judgeThreshold v hot u 1).reg THM.THROTTLE_COUNT.COUNT = min (2 ^ 32 - 1) (w.reg THM.THROTTLE_COUNT.COUNT + 1) := by
    rw [hjudged]
    exact (DramControl.raiseFault_reg (by decide) (w.bump THM.THROTTLE_COUNT.COUNT) (.inr (by decide))).trans
      (reg_bump_self _ _ (by decide))
  have hfault : Faulted w (judgeThreshold v hot u 1) 52 1 := by
    rw [hjudged]
    exact faulted_after (faulted_before hbumped (raiseFault_faulted _ 52 1)) (thermalEvent_kept _ _ _ _ 52)
  refine ⟨faulted_after (faulted_before hstart.source hfault) hafter.source, ?_⟩
  rw [hstart.own _ (by decide)] at hcount
  exact (hafter.own _ (by decide)).trans hcount

/-- SOFT_STOP entered. -/
theorem sweep_stop (hwas : s.thm.entered.getD 2 false = false) (hrun : upRun s v 2 = 3) :
    (sweep s v hot).flag SAFE.FB_CAUSE.SOFT_STOP = true ∧ (sweep s v hot).flag SCAN.FB_CTRL.FB_HALF = true
    ∧ Faulted s (sweep s v hot) 53 2 ∧ Counted s (sweep s v hot) THM.SOFT_STOP_COUNT.COUNT 1 := by
  obtain ⟨u, hbefore, hown, -, -, -, -, -, hafter⟩ := sweep_split s v hot (k := 2) (by decide)
  obtain ⟨hup, -, -⟩ := hbefore.runs v
  obtain ⟨w, hw⟩ : ∃ w, w = runsCounted u v 2 true := ⟨_, rfl⟩
  have hjudged : judgeThreshold v hot u 2 = thermalEvent (enterSoftStop w) 2 hot v := by
    rw [hw]
    exact judgeThreshold_enters u v hot 2 (hbefore.entered.trans hwas) (hup.trans hrun)
  have hstart : EffectsKept 2 s w := by
    rw [hw]
    exact hown.trans (runsCounted_effectsKept u v true)
  obtain ⟨hsoft, hhalf⟩ := enterSoftStop_flags w
  obtain ⟨hfault, hcount⟩ := enterSoftStop_counted w
  have hend : EffectsKept 2 (enterSoftStop w) (sweep s v hot) := by
    rw [hjudged] at hafter
    exact (thermalEvent_effectsKept _ v 2 hot).trans hafter
  unfold Counted at hcount
  rw [hstart.own _ (by decide)] at hcount
  refine ⟨?_, ?_, faulted_after (faulted_before hstart.source hfault) hend.source, (hend.own _ (by decide)).trans hcount⟩
  · unfold State.flag
    rw [hend.own _ (by decide)]
    exact hsoft
  · unfold State.flag
    rw [hend.own _ (by decide)]
    exact hhalf

/-- SOFT_STOP left: the cause clears unless failed sensors hold it. -/
theorem sweep_stopLeft (hlen : s.thm.entered.length = 3) (hwas : s.thm.entered.getD 2 false = true) (hrun : downRun s v 2 = 3)
    (hsoft : s.thm.failSoft = none) : (sweep s v hot).flag SAFE.FB_CAUSE.SOFT_STOP = false := by
  obtain ⟨u, hbefore, -, hle, -, -, hfs, -, hafter⟩ := sweep_split s v hot (k := 2) (by decide)
  obtain ⟨-, hdown, -⟩ := hbefore.runs v
  have hjudged : judgeThreshold v hot u 2 = thermalEvent (leaveSoftStop (runsCounted u v 2 false)) (2 + 128) hot v :=
    judgeThreshold_leaves u v hot 2 (hbefore.entered.trans hwas) (hdown.trans hrun)
  have hfree : stopHolds (runsCounted u v 2 false) = false := by
    have hent : (runsCounted u v 2 false).thm.entered.getD 2 false = false := getD_set_self (by omega) _ _
    have hnone : (runsCounted u v 2 false).thm.failSoft = none := hfs.trans hsoft
    unfold stopHolds
    rw [hent, hnone]
    rfl
  unfold State.flag
  rw [hafter.own _ (by decide), hjudged]
  exact leaveSoftStop_flag _ hfree

end

/-! ### SOFT_STOP for failed sensors (R482) -/

/-- The sensor named when failed sensors enter SOFT_STOP: the ninth that was not failed before. -/
def stopSensor (s : State) (before : List Bool) : Nat :=
  let fresh := (List.range 68).filter (fun i => s.thm.failed.getD i false && !before.getD i false)
  fresh.getD (8 - (s.thm.failed.count true - fresh.length)) 0

section
variable (s : State) (before : List Bool) (tj : Int)

/-- The stop noted for failed sensors. -/
def failNoted (x : Option Nat) : State := { s with thm := { s.thm with failSoft := x } }

theorem judgeFailures_enters (h : s.thm.failSoft = none) (hmany : 8 < s.thm.failed.count true) : judgeFailures s before tj
    = thermalEvent (enterSoftStop (failNoted s (some (stopSensor s before)))) 66 (stopSensor s before) tj := by
  unfold judgeFailures
  rw [h]
  exact if_pos hmany

theorem judgeFailures_leaves {i : Nat} (h : s.thm.failSoft = some i) (hfew : s.thm.failed.count true ≤ 8) :
    judgeFailures s before tj = thermalEvent (leaveSoftStop (failNoted s none)) 194 i tj := by
  unfold judgeFailures
  rw [h]
  exact if_pos hfew

theorem judgeFailures_stays (h : s.thm.failSoft.isSome = decide (8 < s.thm.failed.count true)) : judgeFailures s before tj = s := by
  unfold judgeFailures
  dsimp only
  split
  · next hnone =>
    rw [hnone] at h
    exact if_neg (of_decide_eq_false h.symm)
  · next i hsome =>
    rw [hsome] at h
    exact if_neg (Nat.not_le.mpr (of_decide_eq_true h.symm))

/-- The stop follows whether more than eight sensors have failed. -/
theorem judgeFailures_cases : (s.thm.failSoft = none ∧ 8 < s.thm.failed.count true)
    ∨ (∃ i, s.thm.failSoft = some i ∧ s.thm.failed.count true ≤ 8)
    ∨ s.thm.failSoft.isSome = decide (8 < s.thm.failed.count true) := by
  by_cases hmany : 8 < s.thm.failed.count true
  · cases h : s.thm.failSoft with
    | none => exact .inl ⟨rfl, hmany⟩
    | some i => exact .inr (.inr (by simp [hmany]))
  · cases h : s.thm.failSoft with
    | none => exact .inr (.inr (by simp [hmany]))
    | some i => exact .inr (.inl ⟨i, rfl, by omega⟩)

/-- Of the thermal state it changes that one note. -/
theorem judgeFailures_thm : (judgeFailures s before tj).thm = { s.thm with failSoft := (judgeFailures s before tj).thm.failSoft } := by
  rcases judgeFailures_cases s with ⟨h, hmany⟩ | ⟨i, h, hfew⟩ | hsame
  · rw [judgeFailures_enters s before tj h hmany]
    simp [failNoted]
  · rw [judgeFailures_leaves s before tj h hfew]
    simp [failNoted]
  · rw [judgeFailures_stays s before tj hsame]

theorem judgeFailures_isSome : (judgeFailures s before tj).thm.failSoft.isSome = decide (8 < s.thm.failed.count true) := by
  rcases judgeFailures_cases s with ⟨h, hmany⟩ | ⟨i, h, hfew⟩ | hsame
  · rw [judgeFailures_enters s before tj h hmany]
    simp [failNoted, hmany]
  · rw [judgeFailures_leaves s before tj h hfew]
    simp [failNoted, Nat.not_lt.mpr hfew]
  · rw [judgeFailures_stays s before tj hsame, hsame]

theorem failNoted_onward (x : Option Nat) : Onward s (failNoted s x) := ⟨rfl, rfl, eventsKept_of_eq rfl⟩

theorem judgeFailures_onward : Onward s (judgeFailures s before tj) := by
  rcases judgeFailures_cases s with ⟨h, hmany⟩ | ⟨i, h, hfew⟩ | hsame
  · rw [judgeFailures_enters s before tj h hmany]
    exact (failNoted_onward s _).trans ((enterSoftStop_onward _).trans (thermalEvent_onward _ _ _ _))
  · rw [judgeFailures_leaves s before tj h hfew]
    exact (failNoted_onward s _).trans ((leaveSoftStop_onward _).trans (thermalEvent_onward _ _ _ _))
  · rw [judgeFailures_stays s before tj hsame]
    exact .refl s

theorem judgeFailures_effectsKept {k : Nat} (hk : k < 5) (hne : k ≠ 2) : EffectsKept k s (judgeFailures s before tj) := by
  have hnoted (x : Option Nat) : EffectsKept k s (failNoted s x) := ⟨⟨rfl, rfl⟩, fun _ _ => rfl⟩
  rcases judgeFailures_cases s with ⟨h, hmany⟩ | ⟨i, h, hfew⟩ | hsame
  · rw [judgeFailures_enters s before tj h hmany]
    exact (hnoted _).trans ((enterSoftStop_effectsKept _ hk hne).trans (thermalEvent_effectsKept _ tj _ _))
  · rw [judgeFailures_leaves s before tj h hfew]
    exact (hnoted _).trans ((leaveSoftStop_effectsKept _ hk hne).trans (thermalEvent_effectsKept _ tj _ _))
  · rw [judgeFailures_stays s before tj hsame]
    exact .refl s

/-- SOFT_STOP in force by its threshold stays so, and half current with it. -/
theorem judgeFailures_stopKept (hin : s.thm.entered.getD 2 false = true) (hsoft : s.flag SAFE.FB_CAUSE.SOFT_STOP = true)
    (hhalf : s.flag SCAN.FB_CTRL.FB_HALF = true) : (judgeFailures s before tj).flag SAFE.FB_CAUSE.SOFT_STOP = true
      ∧ (judgeFailures s before tj).flag SCAN.FB_CTRL.FB_HALF = true := by
  rcases judgeFailures_cases s with ⟨h, hmany⟩ | ⟨i, h, hfew⟩ | hsame
  · rw [judgeFailures_enters s before tj h hmany]
    exact enterSoftStop_flags _
  · have hholds : stopHolds (failNoted s none) = true := by
      unfold stopHolds
      exact (congrArg (· || _) hin).trans (Bool.true_or _)
    rw [judgeFailures_leaves s before tj h hfew, leaveSoftStop_holds _ hholds]
    exact ⟨hsoft, hhalf⟩
  · rw [judgeFailures_stays s before tj hsame]
    exact ⟨hsoft, hhalf⟩

theorem judgeFailures_entered (h : s.thm.failSoft = none) (hmany : 8 < s.thm.failed.count true) :
    (judgeFailures s before tj).flag SAFE.FB_CAUSE.SOFT_STOP = true ∧ (judgeFailures s before tj).flag SCAN.FB_CTRL.FB_HALF = true
    ∧ ∃ e ∈ (judgeFailures s before tj).flt.jorosh, e.code = 0x0106 ∧ leAt e.args 0 1 = 0x42 := by
  obtain ⟨hsoft, hhalf⟩ := enterSoftStop_flags (failNoted s (some (stopSensor s before)))
  rw [judgeFailures_enters s before tj h hmany]
  exact ⟨hsoft, hhalf, _, thermalEvent_mem _ _ _ _, rfl, KernelMail.leAt_one _ _⟩

theorem judgeFailures_left {i : Nat} (h : s.thm.failSoft = some i) (hfew : s.thm.failed.count true ≤ 8) :
    (∃ e ∈ (judgeFailures s before tj).flt.jorosh, e.code = 0x0106 ∧ leAt e.args 0 1 = 0xC2)
    ∧ (s.thm.entered.getD 2 false = false → (judgeFailures s before tj).flag SAFE.FB_CAUSE.SOFT_STOP = false) := by
  rw [judgeFailures_leaves s before tj h hfew]
  refine ⟨⟨_, thermalEvent_mem _ _ _ _, rfl, KernelMail.leAt_one _ _⟩, fun hout => ?_⟩
  have hfree : stopHolds (failNoted s none) = false := by
    unfold stopHolds
    exact (congrArg (· || _) hout).trans (Bool.false_or _)
  exact leaveSoftStop_flag _ hfree

end

end Sys2Proof.Machine.ThermalSweep
end

section
/-! PROOF. SensorSample: the readings of one sample, the sensors judged by it and the hottest good one (15_thermal_management.md R480,
R482, R483). -/

namespace Sys2Proof.Machine.SensorSample

open BlankPasses (SourceKept sourceKept_of)
open BootReports (EventsKept eventsKept_of_eq raiseFault_events)
open FrameTiming (reg_setReg_of_lt flag_eq_of_word)
open ThermalStops
open ThermalSweep

/-! ### The readings (R480) -/

/-- Every continuous sensor takes its reading. -/
def sampled (s : State) (l : List Int) : State := (List.range 68).foldl (fun u i => u.setReg (THM.ZONE.T i) (t12 (l.getD i 0))) s

theorem t12_lt (v : Int) : t12 v < 2 ^ 12 := by
  unfold t12 toBits
  omega

/-- One reading as the field it is stored in and its bits. -/
def reading (l : List Int) (i : Nat) : Field × Nat := (THM.ZONE.T i, t12 (l.getD i 0))

theorem sampled_eq (s : State) (l : List Int) :
    sampled s l = ((List.range 68).map (reading l)).foldl (fun t x => t.setReg x.1 x.2) s := by
  rw [List.foldl_map]
  rfl

theorem zone_keys_nodup : ((List.range 68).map (fun i => fieldKey (THM.ZONE.T i))).Nodup := by decide +kernel

theorem sampled_zone (s : State) (l : List Int) {i : Nat} (hi : i < 68) : (sampled s l).reg (THM.ZONE.T i) = t12 (l.getD i 0) := by
  have hkeys : (((List.range 68).map (reading l)).map (fun x => fieldKey x.1)).Nodup := by
    rw [List.map_map]
    exact zone_keys_nodup
  rw [sampled_eq]
  exact (MailScene.reg_foldl_setReg hkeys s (x := reading l i) (List.mem_map_of_mem (List.mem_range.mpr hi))
    (show 12 ≤ 32 by decide)).trans (Nat.mod_eq_of_lt (t12_lt _))

/-- The readings are all that a sample writes of itself. -/
theorem foldl_setReg_kept (l : List (Field × Nat)) (s : State) : (l.foldl (fun t x => t.setReg x.1 x.2) s).thm = s.thm
    ∧ (l.foldl (fun t x => t.setReg x.1 x.2) s).flt = s.flt ∧ (l.foldl (fun t x => t.setReg x.1 x.2) s).lt = s.lt := by
  induction l generalizing s with
  | nil => exact ⟨rfl, rfl, rfl⟩
  | cons x l ih => exact ih (s.setReg x.1 x.2)

theorem foldl_setReg_reg (l : List (Field × Nat)) (s : State) {f : Field} (h : Outside (l.map (·.1)) (fieldKey f)) :
    (l.foldl (fun t x => t.setReg x.1 x.2) s).reg f = s.reg f := by
  induction l generalizing s with
  | nil => rfl
  | cons x l ih =>
    rw [List.map_cons, outside_cons] at h
    exact (ih (s.setReg x.1 x.2) h.2).trans (reg_setReg_ne _ _ _ _ h.1)

theorem sampled_kept (s : State) (l : List Int) : (sampled s l).thm = s.thm ∧ (sampled s l).flt = s.flt
    ∧ (sampled s l).lt = s.lt := by
  rw [sampled_eq]
  exact foldl_setReg_kept _ s

theorem sampled_reg (s : State) (l : List Int) {f : Field} (h : fieldKey f < 0x40100 * 32 ∨ 0x40188 * 32 ≤ fieldKey f) :
    (sampled s l).reg f = s.reg f := by
  rw [sampled_eq]
  refine foldl_setReg_reg _ s fun g hg => ?_
  obtain ⟨x, hx, rfl⟩ := List.mem_map.mp hg
  obtain ⟨i, -, rfl⟩ := List.mem_map.mp hx
  have hkey : fieldKey (reading l i).1 = (0x40100 + 4 * ((i % 68) / 2)) * 32 + 16 * ((i % 68) % 2) := rfl
  omega

/-! ### The sensors judged (R482) -/

/-- The runs of implausible and of plausible samples after this one, and the sensors that have failed by then. -/
def badRuns (s : State) (l : List Int) : List Nat := s.thm.bad.mapIdx (fun i n => runOf (implausible l i) n)
def goodRuns (s : State) (l : List Int) : List Nat := s.thm.good.mapIdx (fun i n => runOf (!implausible l i) n)
def failedNow (s : State) (l : List Int) : List Bool :=
  s.thm.failed.mapIdx (fun i f => if f then decide ((goodRuns s l).getD i 0 < 3) else (badRuns s l).getD i 0 == 3)

/-- The sensors that this sample fails. -/
def failing (s : State) (l : List Int) : List Nat :=
  (List.range 68).filter (fun i => (failedNow s l).getD i false && !s.thm.failed.getD i false)

/-- The runs and the failed sensors noted. -/
def sensorsNoted (s : State) (l : List Int) : State :=
  { s with thm := { s.thm with bad := badRuns s l, good := goodRuns s l, failed := failedNow s l } }

section
variable (s : State) (l : List Int)

theorem judgeSensors_eq : judgeSensors s l = if failing s l = [] then sensorsNoted s l
    else raiseFaultN ((sensorsNoted s l).setFlag THM.STATUS.SENSOR_FAIL true) 55 1 (failing s l).length := rfl

theorem raiseFaultN_pos {n : Nat} (h : n ≠ 0) (src cls : Nat) :
    raiseFaultN s src cls n = raiseFault (s.bumpBy (FLT.COUNT.COUNT src) (n - 1)) src cls := if_neg h

theorem judgeSensors_fails (h : failing s l ≠ []) : judgeSensors s l = raiseFault (((sensorsNoted s l).setFlag THM.STATUS.SENSOR_FAIL
    true).bumpBy (FLT.COUNT.COUNT 55) ((failing s l).length - 1)) 55 1 := by
  rw [judgeSensors_eq, if_neg h]
  exact raiseFaultN_pos _ (fun hnil => h (List.length_eq_zero_iff.mp hnil)) 55 1

theorem judgeSensors_thm : (judgeSensors s l).thm = (sensorsNoted s l).thm := by
  rw [judgeSensors_eq]
  split
  · rfl
  · simp

/-- Of the registers it touches the mark of a failed sensor and the fault counts. -/
theorem judgeSensors_reg {f : Field} (hne : fieldKey THM.STATUS.SENSOR_FAIL ≠ fieldKey f)
    (hf : fieldKey f < 0x30100 * 32 ∨ 0x30280 * 32 ≤ fieldKey f) : (judgeSensors s l).reg f = s.reg f := by
  by_cases h : failing s l = []
  · rw [judgeSensors_eq, if_pos h]
    rfl
  · rw [judgeSensors_fails s l h, DramControl.raiseFault_reg (by decide) _ hf,
      reg_bumpBy_ne _ _ _ _ (FaultInjection.count_ne hf 55).symm, reg_setFlag_ne _ _ _ _ hne]
    rfl

theorem judgeSensors_events : EventsKept s (judgeSensors s l) := by
  by_cases h : failing s l = []
  · rw [judgeSensors_eq, if_pos h]
    exact eventsKept_of_eq rfl
  · rw [judgeSensors_fails s l h]
    exact raiseFault_events (by decide) _ 55

theorem judgeSensors_onward : Onward s (judgeSensors s l) :=
  ⟨by simp, judgeSensors_reg s l (by decide) (.inr (by decide)), judgeSensors_events s l⟩

theorem judgeSensors_source {k : Nat} (hk : k < 55) : SourceKept k s (judgeSensors s l) := by
  have hkey : fieldKey (FLT.COUNT.COUNT 55) ≠ fieldKey (FLT.COUNT.COUNT k) :=
    count_key_ne (by decide) (by omega) (by omega)
  have hnoted : SourceKept k s ((sensorsNoted s l).setFlag THM.STATUS.SENSOR_FAIL true) :=
    ⟨reg_setFlag_ne _ _ _ _ (FaultInjection.count_ne (.inr (by decide)) k), rfl⟩
  by_cases h : failing s l = []
  · rw [judgeSensors_eq, if_pos h]
    exact ⟨rfl, rfl⟩
  · rw [judgeSensors_fails s l h]
    exact (hnoted.trans ⟨reg_bumpBy_ne _ _ _ _ hkey, rfl⟩).trans (raiseFault_keeps (by decide) (by omega) (by omega) _ 1)

/-- A sensor that fails is marked, and source 55 waits. -/
theorem judgeSensors_told {i : Nat} (hi : i ∈ failing s l) : (judgeSensors s l).flag THM.STATUS.SENSOR_FAIL = true
    ∧ ∃ w, sparseGet none (judgeSensors s l).flt.real 55 = some w := by
  rw [judgeSensors_fails s l (List.ne_nil_of_mem hi)]
  obtain ⟨-, w, hw, -⟩ := raiseFault_faulted (((sensorsNoted s l).setFlag THM.STATUS.SENSOR_FAIL
    true).bumpBy (FLT.COUNT.COUNT 55) ((failing s l).length - 1)) 55 1
  refine ⟨?_, w, hw⟩
  unfold State.flag
  rw [DramControl.raiseFault_reg (by decide) _ (.inr (by decide)),
    reg_bumpBy_ne _ _ _ _ (FaultInjection.count_ne (.inr (by decide)) 55).symm]
  exact flag_setFlag_self _ _ _ (by decide) (by decide)

end

theorem runOf_eq_three (b : Bool) (n : Nat) : runOf b n = 3 ↔ b = true ∧ 2 ≤ n := by
  unfold runOf
  split <;> simp_all

theorem runOf_lt_three (b : Bool) (n : Nat) : runOf b n < 3 ↔ ¬ (b = true ∧ 2 ≤ n) := by
  unfold runOf
  split <;> simp_all

theorem implausible_eq (l : List Int) (i : Nat) : implausible l i = !sensorOk l i := by
  have hrange : decide (l.getD i 0 < -220 ∨ 860 < l.getD i 0) = !decide (-220 ≤ l.getD i 0 ∧ l.getD i 0 ≤ 860) := by
    rw [← decide_not]
    exact decide_eq_decide.mpr (by omega)
  have hnear (v w : Int) : decide (100 < (v - w).natAbs) = !decide ((v - w).natAbs ≤ 100) := by
    rw [← decide_not]
    exact decide_eq_decide.mpr (by omega)
  have hzone : decide (i < 64) = !decide (64 ≤ i) := by
    rw [← decide_not]
    exact decide_eq_decide.mpr (by omega)
  unfold implausible sensorOk
  dsimp only
  rw [hrange, hzone, Bool.not_and, Bool.not_or, List.not_any_eq_all_not]
  simp only [hnear]

theorem getD_mapIdx {α β : Type} (l : List α) (g : Nat → α → β) {i : Nat} (hi : i < l.length) (a : α) (b : β) :
    (l.mapIdx g).getD i b = g i (l.getD i a) := by
  rw [List.getD_eq_getElem _ _ (by simpa using hi), List.getElem_mapIdx, List.getD_eq_getElem _ _ hi]

/-- A sensor fails at its third implausible sample in a row, and is back at its third plausible one. -/
theorem failedNow_getD {s : State} (h : ThmShape s) (l : List Int) {i : Nat} (hi : i < 68) :
    (failedNow s l).getD i false = if s.thm.failed.getD i false = true then !(sensorOk l i && decide (2 ≤ s.thm.good.getD i 0))
      else !sensorOk l i && decide (2 ≤ s.thm.bad.getD i 0) := by
  obtain ⟨hfailed, hbad, hgood, -⟩ := h
  have hgoods : (goodRuns s l).getD i 0 = runOf (sensorOk l i) (s.thm.good.getD i 0) := by
    unfold goodRuns
    rw [getD_mapIdx _ _ (by omega) 0, implausible_eq, Bool.not_not]
  have hbads : (badRuns s l).getD i 0 = runOf (!sensorOk l i) (s.thm.bad.getD i 0) := by
    unfold badRuns
    rw [getD_mapIdx _ _ (by omega) 0, implausible_eq]
  unfold failedNow
  rw [getD_mapIdx _ _ (by omega) false, hgoods, hbads]
  split
  · rw [← Bool.decide_coe (sensorOk l i && _), ← decide_not]
    refine decide_eq_decide.mpr ((runOf_lt_three _ _).trans ?_)
    rw [Bool.and_eq_true, decide_eq_true_eq]
  · rw [← Bool.decide_coe (!sensorOk l i && _)]
    refine decide_eq_decide.mpr ((runOf_eq_three _ _).trans ?_)
    rw [Bool.and_eq_true, decide_eq_true_eq]

/-! ### The hottest good sensor (R483) -/

section
variable (s : State) (l : List Int)

/-- The hotter of the one found so far and sensor `i`. -/
def hotter (m : Option (Nat × Int)) (i : Nat) : Option (Nat × Int) :=
  if s.thm.failed.getD i false then m
  else match m with
    | none => some (i, l.getD i 0)
    | some (_, v) => if v < l.getD i 0 then some (i, l.getD i 0) else m

theorem hottest_eq : hottest s l = (List.range 68).foldl (hotter s l) none := rfl

theorem hotter_failed {i : Nat} (h : s.thm.failed.getD i false = true) (m : Option (Nat × Int)) : hotter s l m i = m := if_pos h

theorem hotter_first {i : Nat} (h : s.thm.failed.getD i false = false) : hotter s l none i = some (i, l.getD i 0) :=
  if_neg (by rw [h]; exact Bool.false_ne_true)

theorem hotter_good {i : Nat} (h : s.thm.failed.getD i false = false) (j : Nat) (v : Int) :
    hotter s l (some (j, v)) i = if v < l.getD i 0 then some (i, l.getD i 0) else some (j, v) :=
  if_neg (by rw [h]; exact Bool.false_ne_true)

/-- What is found among the first `n` is a good one of them, with its own reading. -/
theorem hotter_foldl_good (n : Nat) {j : Nat} {v : Int} (h : (List.range n).foldl (hotter s l) none = some (j, v)) :
    j < n ∧ s.thm.failed.getD j false = false ∧ v = l.getD j 0 := by
  induction n generalizing j v with
  | zero => exact absurd h (by simp)
  | succ n ih =>
    rw [List.range_succ, List.foldl_append, List.foldl_cons, List.foldl_nil] at h
    cases hfailed : s.thm.failed.getD n false with
    | true =>
      rw [hotter_failed s l hfailed] at h
      obtain ⟨hj, hgood⟩ := ih h
      exact ⟨by omega, hgood⟩
    | false =>
      cases hm : (List.range n).foldl (hotter s l) none with
      | none =>
        rw [hm, hotter_first s l hfailed] at h
        obtain ⟨rfl, rfl⟩ := Prod.mk.inj (Option.some.inj h)
        exact ⟨by omega, hfailed, rfl⟩
      | some m =>
        rw [hm, hotter_good s l hfailed] at h
        split at h
        · obtain ⟨rfl, rfl⟩ := Prod.mk.inj (Option.some.inj h)
          exact ⟨by omega, hfailed, rfl⟩
        · obtain ⟨hj, hgood⟩ := ih (hm.trans h)
          exact ⟨by omega, hgood⟩

/-- Sensor `i` is good, and the hottest of the good ones, the lowest-numbered on a tie. -/
def Hottest (n i : Nat) : Prop := s.thm.failed.getD i false = false
  ∧ ∀ j < n, s.thm.failed.getD j false = false → l.getD j 0 ≤ l.getD i 0 ∧ (j < i → l.getD j 0 < l.getD i 0)

theorem hotter_foldl_of_hottest (n : Nat) {i : Nat} (hi : i < n) (h : Hottest s l n i) :
    (List.range n).foldl (hotter s l) none = some (i, l.getD i 0) := by
  obtain ⟨hgood, hmax⟩ := h
  induction n with
  | zero => exact absurd hi (Nat.not_lt_zero i)
  | succ n ih =>
    rw [List.range_succ, List.foldl_append, List.foldl_cons, List.foldl_nil]
    by_cases hn : i = n
    · subst hn
      cases hm : (List.range i).foldl (hotter s l) none with
      | none => exact hotter_first s l hgood
      | some m =>
        obtain ⟨j, v⟩ := m
        obtain ⟨hj, hjgood, rfl⟩ := hotter_foldl_good s l i hm
        rw [hotter_good s l hgood]
        exact if_pos ((hmax j (by omega) hjgood).2 hj)
    · rw [ih (by omega) fun j hj => hmax j (by omega)]
      cases hfailed : s.thm.failed.getD n false with
      | true => exact hotter_failed s l hfailed _
      | false =>
        rw [hotter_good s l hfailed]
        exact if_neg (Int.not_lt.mpr (hmax n (by omega) hfailed).1)

end

end Sys2Proof.Machine.SensorSample
end

section
/-! PROOF. ThermalSample: one thermal sample (15_thermal_management.md R480, R482, R483, R485, R486, R488). -/

namespace Sys2Proof.Machine.ThermalSample

open BlankPasses (SourceKept faulted_before faulted_after)
open BootReports (EventsKept)
open FrameTiming (reg_setReg_of_lt)
open SensorSample
open ThermalStops
open ThermalSweep

/-! ### The parts of the threshold logic -/

/-- The hottest good sensor shown, and the thresholds judged by it. -/
def swept (s : State) (l : List Int) : State :=
  match hottest s l with
  | none => s
  | some (i, v) => sweep ((s.setReg THM.STATUS.TJ (t12 v)).setReg THM.STATUS.HOT_SENSOR i) v i

/-- The state before the level is shown. -/
def judged (s : State) (l : List Int) : State :=
  judgeFailures (swept (judgeSensors s l) l) s.thm.failed (sext 12 ((swept (judgeSensors s l) l).reg THM.STATUS.TJ))

theorem thermalLogic_eq (s : State) (l : List Int) :
    thermalLogic s l = (judged s l).setReg THM.STATUS.LEVEL (thermalLevel (judged s l)) := rfl

theorem thermalSample_eq (s : State) (l : List Int) :
    Machine.thermalSample s l = if thermalOn s then thermalLogic (sampled s l) l else sampled s l := rfl

/-- The state in which the hottest sensor is shown. -/
def hotShown (s : State) (v : Int) (i : Nat) : State := (s.setReg THM.STATUS.TJ (t12 v)).setReg THM.STATUS.HOT_SENSOR i

theorem swept_of_hottest {s : State} {l : List Int} {i : Nat} {v : Int} (h : hottest s l = some (i, v)) :
    swept s l = sweep (hotShown s v i) v i := by
  unfold swept
  rw [h]
  rfl

theorem swept_cases (s : State) (l : List Int) : (hottest s l = none ∧ swept s l = s)
    ∨ ∃ i v, hottest s l = some (i, v) ∧ swept s l = sweep (hotShown s v i) v i := by
  cases h : hottest s l with
  | none => exact .inl ⟨rfl, by rw [swept, h]⟩
  | some m => exact .inr ⟨m.1, m.2, rfl, swept_of_hottest h⟩

theorem hotShown_reg (s : State) (v : Int) (i : Nat) {f : Field} (htj : fieldKey THM.STATUS.TJ ≠ fieldKey f)
    (hhot : fieldKey THM.STATUS.HOT_SENSOR ≠ fieldKey f) : (hotShown s v i).reg f = s.reg f :=
  (reg_setReg_ne _ _ _ _ hhot).trans (reg_setReg_ne _ _ _ _ htj)

/-! ### From before the sample to the judging of the thresholds -/

/-- `u` comes before the thresholds are judged, with everything of them as in `s`. -/
structure Ready (s u : State) : Prop where
  runs : ∀ k, RunsKept k s u
  effects : ∀ k < 3, EffectsKept k s u
  entered : u.thm.entered = s.thm.entered
  rises : u.thm.rises = s.thm.rises
  falls : u.thm.falls = s.thm.falls
  failSoft : u.thm.failSoft = s.thm.failSoft

theorem Ready.trans {s t u : State} (h : Ready s t) (i : Ready t u) : Ready s u :=
  ⟨fun k => (h.runs k).trans (i.runs k), fun k hk => (h.effects k hk).trans (i.effects k hk), i.entered.trans h.entered,
    i.rises.trans h.rises, i.falls.trans h.falls, i.failSoft.trans h.failSoft⟩

/-- The fields of the thresholds lie apart from those that are written before them. -/
theorem fields_apart : ∀ f ∈ limitFields ++ (ownFields 0 ++ ownFields 1 ++ ownFields 2 ++ [TXLA.NODE.ADDR]),
    (fieldKey f < 0x40100 * 32 ∨ 0x40188 * 32 ≤ fieldKey f) ∧ 0x30280 * 32 ≤ fieldKey f
    ∧ fieldKey THM.STATUS.SENSOR_FAIL ≠ fieldKey f ∧ fieldKey THM.STATUS.TJ ≠ fieldKey f
    ∧ fieldKey THM.STATUS.HOT_SENSOR ≠ fieldKey f ∧ fieldKey THM.STATUS.LEVEL ≠ fieldKey f := by decide +kernel

theorem mem_apart {k : Nat} (hk : k < 3) {f : Field} (hf : f ∈ ownFields k) :
    f ∈ limitFields ++ (ownFields 0 ++ ownFields 1 ++ ownFields 2 ++ [TXLA.NODE.ADDR]) := by
  obtain rfl | rfl | rfl : k = 0 ∨ k = 1 ∨ k = 2 := by omega
  all_goals simp [hf]

theorem ready_of {s u : State} (hlt : u.lt = s.lt) (hevents : EventsKept s u) (hsource : ∀ k < 55, SourceKept k s u)
    (hreg : ∀ f ∈ limitFields ++ (ownFields 0 ++ ownFields 1 ++ ownFields 2 ++ [TXLA.NODE.ADDR]), u.reg f = s.reg f)
    (hthm : u.thm = { s.thm with bad := u.thm.bad, good := u.thm.good, failed := u.thm.failed }) : Ready s u := by
  have hentered : u.thm.entered = s.thm.entered := by rw [hthm]
  have hrises : u.thm.rises = s.thm.rises := by rw [hthm]
  have hfalls : u.thm.falls = s.thm.falls := by rw [hthm]
  have honward : Onward s u := ⟨hlt, hreg _ (by decide), hevents⟩
  exact ⟨fun k => ⟨honward, by rw [hentered], by rw [hrises], by rw [hfalls], fun f hf => hreg f (List.mem_append_left _ hf)⟩,
    fun k hk => ⟨hsource (51 + k) (by omega), fun f hf => hreg f (mem_apart hk hf)⟩, hentered, hrises, hfalls, by rw [hthm]⟩

theorem sampled_ready (s : State) (l : List Int) : Ready s (sampled s l) := by
  obtain ⟨hthm, hflt, hlt⟩ := sampled_kept s l
  refine ready_of hlt (BootReports.eventsKept_of_eq (by rw [hflt])) (fun k hk => ⟨sampled_reg s l (.inl ?_), by rw [hflt]⟩)
    (fun f hf => sampled_reg s l (fields_apart f hf).1) (by rw [hthm])
  have hkey : fieldKey (FLT.COUNT.COUNT k) = (0x30100 + 4 * (k % 96)) * 32 := rfl
  omega

theorem judgeSensors_ready (s : State) (l : List Int) : Ready s (judgeSensors s l) := by
  refine ready_of (by simp) (judgeSensors_events s l) (fun k hk => judgeSensors_source s l hk) (fun f hf => ?_) ?_
  · obtain ⟨-, hhigh, hfail, -⟩ := fields_apart f hf
    exact judgeSensors_reg s l hfail (.inr hhigh)
  · rw [judgeSensors_thm]
    rfl

theorem hotShown_ready (s : State) (v : Int) (i : Nat) : Ready s (hotShown s v i) := by
  refine ready_of rfl (BootReports.eventsKept_of_eq rfl)
    (fun k hk => ⟨hotShown_reg s v i (FaultInjection.count_ne (.inr (by decide)) k)
      (FaultInjection.count_ne (.inr (by decide)) k), rfl⟩) (fun f hf => ?_) rfl
  obtain ⟨-, -, -, htj, hhot, -⟩ := fields_apart f hf
  exact hotShown_reg s v i htj hhot

/-! ### One sample with the logic on -/

/-- The state once the sensors are judged, and once the thresholds are. -/
def sensed (s : State) (l : List Int) : State := judgeSensors (sampled s l) l
def limited (s : State) (l : List Int) : State := swept (sensed s l) l

/-- The state after the sample. -/
def after (s : State) (l : List Int) : State := thermalLogic (sampled s l) l

section
variable (s : State) (l : List Int)

/-- The stop for failed sensors judged, with the sensors that had failed before and TJ. -/
def stopped : State := judged (sampled s l) l

theorem stopped_eq : stopped s l
    = judgeFailures (limited s l) (sampled s l).thm.failed (sext 12 ((limited s l).reg THM.STATUS.TJ)) := rfl

theorem after_eq : after s l = (stopped s l).setReg THM.STATUS.LEVEL (thermalLevel (stopped s l)) := thermalLogic_eq _ l

theorem setReg_thm_flt (u : State) (f : Field) (v : Nat) : (u.setReg f v).thm = u.thm ∧ (u.setReg f v).flt = u.flt := ⟨rfl, rfl⟩

theorem after_thm : (after s l).thm = (stopped s l).thm := by
  rw [after_eq]
  exact (setReg_thm_flt _ _ _).1

theorem after_flt : (after s l).flt = (stopped s l).flt := by
  rw [after_eq]
  exact (setReg_thm_flt _ _ _).2

theorem after_reg {f : Field} (h : fieldKey THM.STATUS.LEVEL ≠ fieldKey f) : (after s l).reg f = (stopped s l).reg f := by
  rw [after_eq]
  exact reg_setReg_ne _ _ _ _ h

theorem sensed_ready : Ready s (sensed s l) := (sampled_ready s l).trans (judgeSensors_ready _ l)

theorem failedNow_sampled : failedNow (sampled s l) l = failedNow s l ∧ failing (sampled s l) l = failing s l := by
  have hthm := (sampled_kept s l).1
  have hnow : failedNow (sampled s l) l = failedNow s l := by
    unfold failedNow goodRuns badRuns
    rw [hthm]
  refine ⟨hnow, ?_⟩
  unfold failing
  rw [hnow, hthm]

theorem sensed_failed : (sensed s l).thm.failed = failedNow s l := by
  unfold sensed
  rw [judgeSensors_thm]
  exact (failedNow_sampled s l).1

theorem limited_failed : (limited s l).thm.failed = failedNow s l ∧ (limited s l).thm.failSoft = s.thm.failSoft := by
  have hsoft := (sensed_ready s l).failSoft
  unfold limited
  rcases swept_cases (sensed s l) l with ⟨-, h⟩ | ⟨i, v, -, h⟩
  · rw [h]
    exact ⟨sensed_failed s l, hsoft⟩
  · obtain ⟨hfailed, hfs⟩ := sweep_failed (hotShown (sensed s l) v i) v i
    rw [h, hfailed, hfs]
    exact ⟨sensed_failed s l, hsoft⟩

theorem stopped_thm : (stopped s l).thm = { (limited s l).thm with failSoft := (stopped s l).thm.failSoft } := by
  rw [stopped_eq]
  exact judgeFailures_thm _ _ _

theorem stopped_thm_parts : (stopped s l).thm.failed = failedNow s l ∧ (stopped s l).thm.entered = (limited s l).thm.entered
    ∧ (stopped s l).thm.rises = (limited s l).thm.rises ∧ (stopped s l).thm.falls = (limited s l).thm.falls := by
  rw [stopped_thm]
  exact ⟨(limited_failed s l).1, rfl, rfl, rfl⟩

theorem stopped_isSome : (stopped s l).thm.failSoft.isSome = decide (8 < (failedNow s l).count true) := by
  rw [stopped_eq, judgeFailures_isSome, (limited_failed s l).1]

theorem after_level : (after s l).reg THM.STATUS.LEVEL = thermalLevel (after s l) := by
  have hlevel : thermalLevel (stopped s l) < 2 ^ 3 := by
    unfold thermalLevel
    split
    · decide
    · split
      · decide
      · split <;> decide
  have hsame : thermalLevel (after s l) = thermalLevel (stopped s l) := by
    unfold thermalLevel
    rw [after_thm]
  rw [hsame, after_eq]
  exact reg_setReg_of_lt _ _ _ (by decide) hlevel

/-! ### Failed sensors (R482) -/

theorem limited_reg {f : Field} (htj : fieldKey THM.STATUS.TJ ≠ fieldKey f) (hhot : fieldKey THM.STATUS.HOT_SENSOR ≠ fieldKey f)
    (h : Outside judgeThresholdRegs (fieldKey f)) : (limited s l).reg f = (sensed s l).reg f := by
  unfold limited
  rcases swept_cases (sensed s l) l with ⟨-, hs⟩ | ⟨i, v, -, hs⟩
  · rw [hs]
  · rw [hs, sweep_reg _ _ _ h]
    exact hotShown_reg _ v i htj hhot

theorem stopped_reg {f : Field} (h : Outside judgeFailuresRegs (fieldKey f)) : (stopped s l).reg f = (limited s l).reg f := by
  rw [stopped_eq]
  exact reg_eq_of_word (judgeFailures_word h _ _ _)

theorem limited_source : SourceKept 55 (sensed s l) (limited s l) := by
  unfold limited
  rcases swept_cases (sensed s l) l with ⟨-, h⟩ | ⟨i, v, -, h⟩
  · rw [h]
    exact ⟨rfl, rfl⟩
  · have hshown : SourceKept 55 (sensed s l) (hotShown (sensed s l) v i) := ⟨hotShown_reg _ v i (by decide) (by decide), rfl⟩
    rw [h]
    exact hshown.trans (sweep_sensorSource _ v i)

/-- A sensor that fails is marked, and its source waits. -/
theorem after_told {i : Nat} (hi : i ∈ failing s l) : (after s l).flag THM.STATUS.SENSOR_FAIL = true
    ∧ ∃ w, sparseGet none (after s l).flt.real 55 = some w := by
  obtain ⟨hflag, w, hw⟩ := judgeSensors_told (sampled s l) l (i := i) (by rw [(failedNow_sampled s l).2]; exact hi)
  have hsource : SourceKept 55 (limited s l) (stopped s l) := by
    rw [stopped_eq]
    exact (judgeFailures_effectsKept (limited s l) _ _ (k := 4) (by decide) (by decide)).source
  refine ⟨?_, w, ?_⟩
  · unfold State.flag
    rw [after_reg s l (by decide), stopped_reg s l (outside_of (by decide)),
      limited_reg s l (by decide) (by decide) (outside_of (by decide))]
    exact hflag
  · rw [after_flt]
    exact ((limited_source s l).trans hsource).2.trans hw

theorem after_source (k : Nat) : SourceKept k (stopped s l) (after s l) :=
  ⟨after_reg s l (FaultInjection.count_ne (.inr (by decide)) k), by rw [after_flt]⟩

theorem after_flag {f : Field} (h : fieldKey THM.STATUS.LEVEL ≠ fieldKey f) : (after s l).flag f = (stopped s l).flag f := by
  unfold State.flag
  rw [after_reg s l h]

/-- From the thresholds on, the other thresholds' effects stand. -/
theorem limited_effectsKept {k : Nat} (hk : k < 3) (hne : k ≠ 2) : EffectsKept k (limited s l) (after s l) := by
  have hstopped : EffectsKept k (limited s l) (stopped s l) := by
    rw [stopped_eq]
    exact judgeFailures_effectsKept (limited s l) _ _ (by omega) hne
  exact hstopped.trans ⟨after_source s l (51 + k), fun f hf => after_reg s l (fields_apart f (mem_apart hk hf)).2.2.2.2.2⟩

/-! ### The stop for failed sensors -/

/-- More than eight failed sensors enter SOFT_STOP. -/
theorem after_stopEntered (h : s.thm.failSoft = none) (hmany : 8 < (failedNow s l).count true) :
    (after s l).flag SAFE.FB_CAUSE.SOFT_STOP = true ∧ (after s l).flag SCAN.FB_CTRL.FB_HALF = true
    ∧ ∃ e ∈ (after s l).flt.jorosh, e.code = 0x0106 ∧ leAt e.args 0 1 = 0x42 := by
  obtain ⟨hfailed, hsoft⟩ := limited_failed s l
  rw [after_flag s l (by decide), after_flag s l (by decide), after_flt, stopped_eq]
  exact judgeFailures_entered (limited s l) _ _ (hsoft.trans h) (by rw [hfailed]; exact hmany)

theorem after_stopLeft {i : Nat} (h : s.thm.failSoft = some i) (hfew : (failedNow s l).count true ≤ 8) :
    (∃ e ∈ (after s l).flt.jorosh, e.code = 0x0106 ∧ leAt e.args 0 1 = 0xC2)
    ∧ ((after s l).thm.entered.getD 2 false = false → (after s l).flag SAFE.FB_CAUSE.SOFT_STOP = false) := by
  obtain ⟨hfailed, hsoft⟩ := limited_failed s l
  obtain ⟨htold, hleft⟩ := judgeFailures_left (limited s l) (sampled s l).thm.failed (sext 12 ((limited s l).reg THM.STATUS.TJ))
    (hsoft.trans h) (by rw [hfailed]; exact hfew)
  refine ⟨by rw [after_flt, stopped_eq]; exact htold, fun hout => ?_⟩
  have hentered : (limited s l).thm.entered.getD 2 false = false := by
    rw [← (stopped_thm_parts s l).2.1, ← after_thm]
    exact hout
  rw [after_flag s l (by decide), stopped_eq]
  exact hleft hentered

end

/-! ### The thresholds at the hottest sensor (R483) -/

section
variable {s : State} {l : List Int} {i : Nat} (hi : i < 68)
  (hhot : ∀ j < 68, (after s l).thm.failed.getD j false = false → l.getD j 0 ≤ l.getD i 0 ∧ (j < i → l.getD j 0 < l.getD i 0))
  (hgood : (after s l).thm.failed.getD i false = false)

/-- The state in which the thresholds are judged. -/
def shown (s : State) (l : List Int) (i : Nat) : State := hotShown (sensed s l) (l.getD i 0) i

theorem shown_ready (s : State) (l : List Int) (i : Nat) : Ready s (shown s l i) :=
  (sensed_ready s l).trans (hotShown_ready _ _ i)

include hi hhot hgood

theorem limited_eq : limited s l = sweep (shown s l i) (l.getD i 0) i := by
  have hfailed : (after s l).thm.failed = (sensed s l).thm.failed := by
    rw [after_thm, sensed_failed]
    exact (stopped_thm_parts s l).1
  rw [hfailed] at hhot hgood
  exact swept_of_hottest (hotter_foldl_of_hottest (sensed s l) l 68 hi ⟨hgood, hhot⟩)

omit hi hhot hgood in
/-- SOFT_STOP left by its threshold clears its cause, unless failed sensors hold it. -/
theorem after_softStopLeft (h : ThmShape s) (hwas : s.thm.entered.getD 2 false = true) (hsoft : s.thm.failSoft = none)
    (hout : (after s l).thm.entered.getD 2 false = false) (hnone : (after s l).thm.failSoft = none) :
    (after s l).flag SAFE.FB_CAUSE.SOFT_STOP = false := by
  obtain ⟨-, -, -, hentered, hrises, hfalls⟩ := h
  obtain ⟨hfailed, hfs⟩ := limited_failed s l
  rw [after_thm, (stopped_thm_parts s l).2.1] at hout
  rw [after_thm] at hnone
  have hfew := stopped_isSome s l
  rw [hnone, ← hfailed] at hfew
  have hstays : stopped s l = limited s l := by
    rw [stopped_eq]
    exact judgeFailures_stays _ _ _ (by rw [hfs, hsoft]; exact hfew)
  rw [after_flag s l (by decide), hstays]
  unfold limited at hout ⊢
  rcases swept_cases (sensed s l) l with ⟨-, hs⟩ | ⟨i, v, -, hs⟩
  · rw [hs, (sensed_ready s l).entered, hwas] at hout
    exact absurd hout.symm Bool.false_ne_true
  · have hready := (sensed_ready s l).trans (hotShown_ready (sensed s l) v i)
    rw [hs] at hout ⊢
    have hwas' := ((hready.runs 2).entered).trans hwas
    have hin := (sweep_runs v i (k := 2) (by decide) (by rw [hready.entered, hentered]) (by rw [hready.rises, hrises])
      (by rw [hready.falls, hfalls])).1
    rcases judgeThreshold_cases (hotShown (sensed s l) v i) v 2 with ⟨hnot, -⟩ | ⟨-, hdown⟩ | hsame
    · exact absurd (hnot.symm.trans hwas') Bool.false_ne_true
    · exact sweep_stopLeft (by rw [hready.entered, hentered]) hwas' hdown (hready.failSoft.trans hsoft)
    · rw [hin, hsame, hwas'] at hout
      exact absurd hout.symm Bool.false_ne_true

theorem after_hot : (after s l).reg THM.STATUS.TJ = t12 (l.getD i 0) ∧ (after s l).reg THM.STATUS.HOT_SENSOR = i := by
  have hstays {f : Field} (hlevel : fieldKey THM.STATUS.LEVEL ≠ fieldKey f) (hfail : Outside judgeFailuresRegs (fieldKey f))
      (hjudge : Outside judgeThresholdRegs (fieldKey f)) : (after s l).reg f = (shown s l i).reg f := by
    rw [after_reg s l hlevel, stopped_reg s l hfail, limited_eq hi hhot hgood]
    exact sweep_reg _ _ _ hjudge
  rw [hstays (by decide) (outside_of (by decide)) (outside_of (by decide)),
    hstays (by decide) (outside_of (by decide)) (outside_of (by decide))]
  exact ⟨(reg_setReg_ne _ _ _ _ (by decide)).trans (reg_setReg_of_lt _ _ _ (by decide) (t12_lt _)),
    reg_setReg_of_lt _ _ _ (by decide) (Nat.lt_of_lt_of_le hi (by decide))⟩

theorem after_runs (h : ThmShape s) {k : Nat} (hk : k < 3) : (after s l).thm.entered.getD k false = inForce s (l.getD i 0) k
    ∧ (after s l).thm.rises.getD k 0 = upRun s (l.getD i 0) k ∧ (after s l).thm.falls.getD k 0 = downRun s (l.getD i 0) k := by
  obtain ⟨-, -, -, hentered, hrises, hfalls⟩ := h
  have hready := shown_ready s l i
  obtain ⟨-, hpe, hpr, hpf⟩ := stopped_thm_parts s l
  obtain ⟨hin, hup, hdown⟩ := sweep_runs (s := shown s l i) (l.getD i 0) i hk (by rw [hready.entered, hentered])
    (by rw [hready.rises, hrises]) (by rw [hready.falls, hfalls])
  obtain ⟨hru, hrd, hri⟩ := (hready.runs k).runs (l.getD i 0)
  rw [after_thm, hpe, hpr, hpf, limited_eq hi hhot hgood, hin, hup, hdown, hru, hrd, hri]
  exact ⟨rfl, rfl, rfl⟩

theorem after_mem {e : EventRec} (h : e ∈ (sweep (shown s l i) (l.getD i 0) i).flt.jorosh) : e ∈ (after s l).flt.jorosh := by
  rw [← limited_eq hi hhot hgood] at h
  rw [after_flt, stopped_eq]
  exact (judgeFailures_onward (limited s l) _ _).events.mem h

theorem after_thresholdTold {k : Nat} (hk : k < 3) :
    (s.thm.entered.getD k false = false → upRun s (l.getD i 0) k = 3 →
      eventOf s 0x0106 (toLe 1 k ++ toLe 1 i ++ toLe 2 (toBits 16 (l.getD i 0))) ∈ (after s l).flt.jorosh)
    ∧ (s.thm.entered.getD k false = true → downRun s (l.getD i 0) k = 3 →
      eventOf s 0x0106 (toLe 1 (k + 128) ++ toLe 1 i ++ toLe 2 (toBits 16 (l.getD i 0))) ∈ (after s l).flt.jorosh) := by
  have hready := (shown_ready s l i).runs k
  obtain ⟨hup, hdown, -⟩ := hready.runs (l.getD i 0)
  obtain ⟨henter, hleave⟩ := sweep_told (s := shown s l i) (l.getD i 0) i hk
  refine ⟨fun hwas hrun => after_mem hi hhot hgood ?_, fun hwas hrun => after_mem hi hhot hgood ?_⟩
  · rw [← hready.onward.eventOf]
    exact henter (hready.entered.trans hwas) (hup.trans hrun)
  · rw [← hready.onward.eventOf]
    exact hleave (hready.entered.trans hwas) (hdown.trans hrun)

/-- THROTTLE entered counts and is source 52. -/
theorem after_throttle (hwas : s.thm.entered.getD 1 false = false) (hrun : upRun s (l.getD i 0) 1 = 3) :
    Faulted s (after s l) 52 1 ∧ Counted s (after s l) THM.THROTTLE_COUNT.COUNT 1 := by
  have hready := shown_ready s l i
  obtain ⟨hup, -, -⟩ := (hready.runs 1).runs (l.getD i 0)
  obtain ⟨hfault, hcount⟩ := sweep_throttle (s := shown s l i) (v := l.getD i 0) (hot := i)
    ((hready.runs 1).entered.trans hwas) (hup.trans hrun)
  rw [← limited_eq hi hhot hgood] at hfault hcount
  have hend := limited_effectsKept s l (k := 1) (by decide) (by decide)
  unfold Counted at hcount ⊢
  rw [(hready.effects 1 (by decide)).own _ (by decide)] at hcount
  exact ⟨faulted_after (faulted_before (hready.effects 1 (by decide)).source hfault) hend.source, (hend.own _ (by decide)).trans hcount⟩

/-- SOFT_STOP entered by its threshold. -/
theorem after_softStop (h : ThmShape s) (hwas : s.thm.entered.getD 2 false = false) (hrun : upRun s (l.getD i 0) 2 = 3) :
    (after s l).flag SAFE.FB_CAUSE.SOFT_STOP = true ∧ (after s l).flag SCAN.FB_CTRL.FB_HALF = true
    ∧ (s.thm.failSoft = none → (after s l).thm.failSoft = none → Faulted s (after s l) 53 2
      ∧ Counted s (after s l) THM.SOFT_STOP_COUNT.COUNT 1) := by
  have hready := shown_ready s l i
  obtain ⟨hup, -, -⟩ := (hready.runs 2).runs (l.getD i 0)
  obtain ⟨hsoft, hhalf, hfault, hcount⟩ := sweep_stop (s := shown s l i) (v := l.getD i 0) (hot := i)
    ((hready.runs 2).entered.trans hwas) (hup.trans hrun)
  have hin : (limited s l).thm.entered.getD 2 false = true := by
    rw [← (stopped_thm_parts s l).2.1, ← after_thm, (after_runs hi hhot hgood h (by decide)).1]
    unfold inForce
    rw [hwas, hrun]
    rfl
  rw [← limited_eq hi hhot hgood] at hsoft hhalf hfault hcount
  obtain ⟨hsoft', hhalf'⟩ := judgeFailures_stopKept (limited s l) (sampled s l).thm.failed
    (sext 12 ((limited s l).reg THM.STATUS.TJ)) hin hsoft hhalf
  rw [← stopped_eq] at hsoft' hhalf'
  refine ⟨(after_flag s l (by decide)).trans hsoft', (after_flag s l (by decide)).trans hhalf', fun hnone hout => ?_⟩
  have hstays : stopped s l = limited s l := by
    obtain ⟨hfailed, hfs⟩ := limited_failed s l
    rw [after_thm] at hout
    have hfew := stopped_isSome s l
    rw [hout, ← hfailed] at hfew
    rw [stopped_eq]
    exact judgeFailures_stays _ _ _ (by rw [hfs, hnone]; exact hfew)
  rw [← hstays] at hfault hcount
  have hown := hready.effects 2 (by decide)
  unfold Counted at hcount ⊢
  rw [hown.own _ (by decide)] at hcount
  exact ⟨faulted_after (faulted_before hown.source hfault) (after_source s l 53), (after_reg s l (by decide)).trans hcount⟩

end

/-! ### THERMAL_SAMPLE -/

theorem after_failSoft (s : State) (l : List Int) :
    (after s l).thm.failSoft.isSome = decide (8 < (after s l).thm.failed.count true) := by
  rw [after_thm, stopped_isSome, (stopped_thm_parts s l).1]

theorem after_failed (s : State) (l : List Int) : (after s l).thm.failed = failedNow s l := by
  rw [after_thm]
  exact (stopped_thm_parts s l).1

/-- A newly failed sensor is one of those that fail at this sample. -/
theorem mem_failing {s : State} {l : List Int} {i : Nat} (hi : i < 68) (hwas : s.thm.failed.getD i false = false)
    (hnow : (after s l).thm.failed.getD i false = true) : i ∈ failing s l := by
  rw [after_failed] at hnow
  refine List.mem_filter.mpr ⟨List.mem_range.mpr hi, ?_⟩
  rw [hnow, hwas]
  rfl

/-- A threshold between its two limits is as before, and its runs begin anew. -/
theorem runs_between {s : State} {v : Int} {k : Nat} (hlow : threshold s k - 20 ≤ v) (hhigh : v < threshold s k) :
    inForce s v k = s.thm.entered.getD k false ∧ upRun s v k = 0 ∧ downRun s v k = 0 := by
  have hup : upRun s v k = 0 := if_neg (by simpa using hhigh)
  have hdown : downRun s v k = 0 := if_neg (by simpa using hlow)
  refine ⟨?_, hup, hdown⟩
  unfold inForce
  rw [hup, hdown]
  cases s.thm.entered.getD k false <;> rfl

section
variable {s : State} {v : Int} {k : Nat}

theorem upRun_eq_three (hrun : 2 ≤ s.thm.rises.getD k 0) (h : threshold s k ≤ v) : upRun s v k = 3 :=
  (runOf_eq_three _ _).mpr ⟨decide_eq_true h, hrun⟩

theorem downRun_eq_three (hrun : 2 ≤ s.thm.falls.getD k 0) (h : v < threshold s k - 20) : downRun s v k = 3 :=
  (runOf_eq_three _ _).mpr ⟨decide_eq_true h, hrun⟩

theorem inForce_enters (hwas : s.thm.entered.getD k false = false) (hrun : upRun s v k = 3) : inForce s v k = true := by
  unfold inForce
  rw [hwas, hrun]
  rfl

theorem inForce_leaves (hwas : s.thm.entered.getD k false = true) (hrun : downRun s v k = 3) : inForce s v k = false := by
  unfold inForce
  rw [hwas, hrun]
  rfl

end

theorem thermalLogic_zone (s : State) (l : List Int) {i : Nat} (hi : i < 68) :
    (thermalLogic s l).reg (THM.ZONE.T i) = s.reg (THM.ZONE.T i) := by
  have hfar : thermalLogicRegs.all (fun f => decide (fieldKey f < 0x40100 * 32 ∨ 0x40188 * 32 ≤ fieldKey f)) = true := by
    decide +kernel
  refine reg_eq_of_word (thermalLogic_word (fun f hf => ?_) s l)
  have hoff := of_decide_eq_true (List.all_eq_true.mp hfar f hf)
  have hkey : fieldKey (THM.ZONE.T i) = (0x40100 + 4 * ((i % 68) / 2)) * 32 + 16 * ((i % 68) % 2) := rfl
  omega

theorem sample_on {s : State} (h4 : s.flag (CLK.GATE.EN 4) = true) (hen : s.flag THM.CTRL.EN = true) (l : List Int) :
    Machine.thermalSample s l = after s l := by
  rw [thermalSample_eq, thermalOn, h4, hen]
  rfl

theorem sample_off {s : State} (h : s.flag (CLK.GATE.EN 4) = false ∨ s.flag THM.CTRL.EN = false) (l : List Int) :
    Machine.thermalSample s l = sampled s l := by
  have hoff : thermalOn s = false := by
    unfold thermalOn
    rcases h with h | h <;> simp [h]
  rw [thermalSample_eq, hoff]
  rfl

theorem sample_zone (s : State) (l : List Int) {i : Nat} (hi : i < 68) :
    (Machine.thermalSample s l).reg (THM.ZONE.T i) = t12 (l.getD i 0) := by
  rw [thermalSample_eq]
  split
  · rw [thermalLogic_zone _ l hi, sampled_zone s l hi]
  · exact sampled_zone s l hi

/-- Settles O54: a sample judges the sensors, then the thresholds at the hottest good one, then the stop for failed sensors. -/
theorem thermalSample : Obligations.ThermalSample := by
  refine ⟨fun s l hno => congrArg Host.Outcome.next (if_pos hno), fun s l hheld hpower2 hpower3 => ?_⟩
  have hexec : exec (.thermalSample l) s = .next (Machine.thermalSample s l) :=
    congrArg Host.Outcome.next (if_neg (by simp [hheld, hpower2, hpower3]))
  refine completes_of hexec ⟨fun i hi => sample_zone s l hi, fun hoff => ?_, fun h4 hen hshape => ?_⟩
  · obtain ⟨hthm, hflt, -⟩ := sampled_kept s l
    rw [sample_off hoff]
    exact ⟨hthm, hflt, sampled_reg s l (.inl (by decide))⟩
  · rw [sample_on h4 hen]
    refine ⟨fun i hi => ?_, fun ⟨i, hi, hwas, hnow⟩ => after_told s l (mem_failing hi hwas hnow), fun i hi hgood hhot => ?_,
      fun hnone hmany => ?_, fun hsome hfew => ?_, fun hout hnone hwas => ?_, after_level s l⟩
    · rw [after_failed]
      exact failedNow_getD hshape l hi
    · obtain ⟨htj, hnum⟩ := after_hot hi hhot hgood
      refine ⟨htj, hnum, fun k hk => ?_⟩
      obtain ⟨hin, hup, hdown⟩ := after_runs hi hhot hgood hshape hk
      obtain ⟨henter, hleave⟩ := after_thresholdTold hi hhot hgood hk
      rw [hin, hup, hdown]
      refine ⟨fun hwas hrises hover => ?_, fun hwas hfalls hunder => ?_, fun hlow hhigh => runs_between hlow hhigh⟩
      · have hrun := upRun_eq_three hrises hover
        refine ⟨inForce_enters hwas hrun, henter hwas hrun, fun h1 => ?_, fun h2 => ?_⟩
        · subst h1
          exact after_throttle hi hhot hgood hwas hrun
        · subst h2
          exact after_softStop hi hhot hgood hshape hwas hrun
      · have hrun := downRun_eq_three hfalls hunder
        exact ⟨inForce_leaves hwas hrun, hleave hwas hrun⟩
    · rw [after_failed] at hmany
      refine ⟨?_, after_stopEntered s l hnone hmany⟩
      rw [after_failSoft, after_failed]
      exact decide_eq_true hmany
    · obtain ⟨i, hi⟩ := Option.isSome_iff_exists.mp hsome
      have hnone := after_failSoft s l
      rw [decide_eq_false (Nat.not_lt.mpr hfew)] at hnone
      rw [after_failed] at hfew
      exact ⟨Option.isNone_iff_eq_none.mp (by rw [← Option.not_isSome, hnone]; rfl), (after_stopLeft s l hi hfew).1⟩
    · rcases hfs : s.thm.failSoft with _ | i
      · rw [hfs] at hwas
        exact after_softStopLeft hshape (hwas.resolve_right Bool.false_ne_true) hfs hout hnone
      · have hfew := after_failSoft s l
        rw [hnone, after_failed] at hfew
        exact (after_stopLeft s l hfs (Nat.not_lt.mp (of_decide_eq_false hfew.symm))).2 hout

end Sys2Proof.Machine.ThermalSample
end

section
/-! PROOF. Housekeeping: one round of readings, the pause level, the Guard reading's plausibility and the aux derating
(15_thermal_management.md R481, R482, R484; 16_memory.md R501; 13_auxiliary_lighting.md R438). -/

namespace Sys2Proof.Machine.Housekeeping

open BlankPasses (SourceKept faulted_before faulted_after)
open FrameTiming (reg_setReg_of_lt)
open SensorSample (t12_lt)

/-! ### One reading (R481) -/

section
variable (u : State) (k : Nat) (v : Option Int)

/-- VALID follows whether the read answered; the value is stored, or kept. -/
theorem hkRead_self : (hkRead u k v).reg (THM.HK.T k) = (match v with | some x => t12 x | none => u.reg (THM.HK.T k)) := by
  have hne : fieldKey THM.HK_VALID.VALID ≠ fieldKey (THM.HK.T k) := by
    have hkey : fieldKey (THM.HK.T k) = (0x40190 + 4 * ((k % 5) / 2)) * 32 + 16 * ((k % 5) % 2) := rfl
    have hvalid : fieldKey THM.HK_VALID.VALID = 0x4019C * 32 := rfl
    omega
  cases v with
  | none => exact reg_setReg_ne _ _ _ _ hne
  | some x => exact (reg_setReg_ne _ _ _ _ hne).trans (reg_setReg_of_lt _ _ _ (show 12 ≤ 32 by decide) (t12_lt x))

theorem hk_keys {j k : Nat} (hj : j < 5) (hk : k < 5) (h : j ≠ k) : fieldKey (THM.HK.T k) ≠ fieldKey (THM.HK.T j) := by
  have hkey (i : Nat) : fieldKey (THM.HK.T i) = (0x40190 + 4 * ((i % 5) / 2)) * 32 + 16 * ((i % 5) % 2) := rfl
  rw [hkey, hkey]
  omega

theorem hkRead_reg {f : Field} (hvalid : fieldKey THM.HK_VALID.VALID ≠ fieldKey f) (h : fieldKey (THM.HK.T k) ≠ fieldKey f) :
    (hkRead u k v).reg f = u.reg f := by
  cases v with
  | none => exact reg_setReg_ne _ _ _ _ hvalid
  | some x => exact (reg_setReg_ne _ _ _ _ hvalid).trans (reg_setReg_ne _ _ _ _ h)

theorem bit_mod_valid (m : Nat) {j : Nat} (hj : j < 5) : bit (m % 2 ^ 5) j = bit m j := by
  unfold bit
  rw [Nat.testBit_mod_two_pow, decide_eq_true hj, Bool.true_and]

theorem hkRead_valid {j : Nat} (hj : j < 5) :
    bit ((hkRead u k v).reg THM.HK_VALID.VALID) j = if j = k then v.isSome else bit (u.reg THM.HK_VALID.VALID) j := by
  cases v with
  | none =>
    have hread : (hkRead u k none).reg THM.HK_VALID.VALID = clearBit (u.reg THM.HK_VALID.VALID) k % 2 ^ 5 :=
      reg_setReg_self _ _ _ (by decide)
    rw [hread, bit_mod_valid _ hj, EngineLoss.bit_clearBit]
    by_cases h : j = k <;> simp [h]
  | some x =>
    have hread : (hkRead u k (some x)).reg THM.HK_VALID.VALID = (u.reg THM.HK_VALID.VALID ||| 2 ^ k) % 2 ^ 5 :=
      reg_setReg_self _ _ _ (by decide)
    rw [hread, bit_mod_valid _ hj]
    by_cases h : j = k
    · rw [if_pos h, h]
      exact GalleryComposition.bit_or_two_pow_self _ k
    · rw [if_neg h, bit, bit, Nat.testBit_or, Nat.testBit_two_pow_of_ne (Ne.symm h), Bool.or_false]

end

/-! ### The DRAM's reading (R501) -/

/-- What sensor 70 answers. -/
def dramT4 (s : State) (twice : Option Bool) : Option Int :=
  (if s.flag DDRC.STATUS.SELF_REFRESH then none else twice).map (fun b => if b then 380 else 340)

section
variable (u : State) (twice : Option Bool)

theorem dramTempRead_none (h : (if u.flag DDRC.STATUS.SELF_REFRESH then none else twice) = none) :
    dramTempRead u twice = hkRead u 2 none := by
  unfold dramTempRead
  rw [h]

theorem dramTempRead_some {b : Bool} (h : (if u.flag DDRC.STATUS.SELF_REFRESH then none else twice) = some b) : dramTempRead u twice
    = if b = true ∧ u.flag DDRC.STATUS.HOT = false
      then raiseFault ((hkRead u 2 (some (if b then 380 else 340))).setFlag DDRC.STATUS.HOT b) 57 1
      else (hkRead u 2 (some (if b then 380 else 340))).setFlag DDRC.STATUS.HOT b := by
  unfold dramTempRead
  rw [h]

/-- Beside HOT and a count it is the reading of sensor 70. -/
theorem dramTempRead_reg {f : Field} (hf : 0x30280 * 32 ≤ fieldKey f) (hhot : fieldKey DDRC.STATUS.HOT ≠ fieldKey f) :
    (dramTempRead u twice).reg f = (hkRead u 2 (dramT4 u twice)).reg f := by
  unfold dramT4
  cases h : (if u.flag DDRC.STATUS.SELF_REFRESH then none else twice) with
  | none => rw [dramTempRead_none u twice h, Option.map_none]
  | some b =>
    rw [dramTempRead_some u twice h, Option.map_some]
    split
    · rw [DramControl.raiseFault_reg (by decide) _ (.inr hf)]
      exact reg_setFlag_ne _ _ _ _ hhot
    · exact reg_setFlag_ne _ _ _ _ hhot

/-- HOT follows a good reading and stands without one. -/
theorem dramTempRead_hot : (dramTempRead u twice).reg DDRC.STATUS.HOT
    = match (if u.flag DDRC.STATUS.SELF_REFRESH then none else twice) with | none => u.reg DDRC.STATUS.HOT | some b => b2n b := by
  cases h : (if u.flag DDRC.STATUS.SELF_REFRESH then none else twice) with
  | none =>
    rw [dramTempRead_none u twice h]
    exact hkRead_reg u 2 none (by decide) (by decide)
  | some b =>
    have hset (w : State) : (w.setFlag DDRC.STATUS.HOT b).reg DDRC.STATUS.HOT = b2n b :=
      reg_setFlag_self _ _ _ (by decide) (by decide)
    rw [dramTempRead_some u twice h]
    split
    · exact (DramControl.raiseFault_reg (by decide) _ (.inr (by decide))).trans (hset _)
    · exact hset _

/-- A change into the 2x rate is source 57. -/
theorem dramTempRead_faulted (h : (if u.flag DDRC.STATUS.SELF_REFRESH then none else twice) = some true)
    (hhot : u.flag DDRC.STATUS.HOT = false) : Faulted u (dramTempRead u twice) 57 1 := by
  rw [dramTempRead_some u twice h, if_pos ⟨rfl, hhot⟩]
  refine faulted_before (t := (hkRead u 2 (some 380)).setFlag DDRC.STATUS.HOT true) ⟨?_, ?_⟩ (raiseFault_faulted _ 57 1)
  · exact (reg_setFlag_ne _ _ _ _ (by decide)).trans (hkRead_reg u 2 _ (by decide) (by decide))
  · show sparseGet none (hkRead u 2 (some 380)).flt.real 57 = _
    simp

end

/-- The Guard reading's source stands through the DRAM's reading. -/
theorem dramTempRead_source (u : State) (twice : Option Bool) : SourceKept 55 u (dramTempRead u twice) := by
  have hread (x : Option Int) : SourceKept 55 u (hkRead u 2 x) :=
    ⟨hkRead_reg u 2 x (by decide) (by decide), by simp⟩
  have hshown (w : State) (b : Bool) : SourceKept 55 w (w.setFlag DDRC.STATUS.HOT b) :=
    ⟨reg_setFlag_ne _ _ _ _ (by decide), rfl⟩
  cases h : (if u.flag DDRC.STATUS.SELF_REFRESH then none else twice) with
  | none =>
    rw [dramTempRead_none u twice h]
    exact hread none
  | some b =>
    rw [dramTempRead_some u twice h]
    split
    · exact ((hread _).trans (hshown _ b)).trans (ThermalStops.raiseFault_keeps (by decide) (by decide) (by decide) _ 1)
    · exact (hread _).trans (hshown _ b)

/-! ### The five readings of a round -/

/-- What sensor 68 + `k` answers in this round. -/
def answer (s : State) (h : HkReadings) : Nat → Option Int
  | 0 => ntcRead s h.ntc0
  | 1 => ntcRead s h.ntc1
  | 2 => dramT4 s h.dramTwiceRate
  | 3 => h.regulator
  | _ => h.guard

/-- The first `n` sensors have been read in `u`, and the others are as in `s`. -/
def ReadUpTo (s : State) (h : HkReadings) (n : Nat) (u : State) : Prop := ∀ k < 5,
  (k < n → bit (u.reg THM.HK_VALID.VALID) k = (answer s h k).isSome
    ∧ u.reg (THM.HK.T k) = (match answer s h k with | some x => t12 x | none => s.reg (THM.HK.T k)))
  ∧ (n ≤ k → u.reg (THM.HK.T k) = s.reg (THM.HK.T k))

section
variable {s : State} {h : HkReadings} {n : Nat} {u : State}

theorem readUpTo_zero (s : State) (h : HkReadings) : ReadUpTo s h 0 s := fun _ _ => ⟨fun hk => absurd hk (Nat.not_lt_zero _), fun _ => rfl⟩

theorem ReadUpTo.next (hu : ReadUpTo s h n u) (hn : n < 5) : ReadUpTo s h (n + 1) (hkRead u n (answer s h n)) := by
  intro k hk
  obtain ⟨hdone, htodo⟩ := hu k hk
  by_cases hkn : k = n
  · subst hkn
    refine ⟨fun _ => ⟨?_, ?_⟩, fun hle => absurd hle (by omega)⟩
    · rw [hkRead_valid u k _ hk, if_pos rfl]
    · rw [hkRead_self, htodo (Nat.le_refl k)]
  · have hother : (hkRead u n (answer s h n)).reg (THM.HK.T k) = u.reg (THM.HK.T k) := by
      refine hkRead_reg u n _ ?_ (hk_keys hk hn hkn)
      have hkey : fieldKey (THM.HK.T k) = (0x40190 + 4 * ((k % 5) / 2)) * 32 + 16 * ((k % 5) % 2) := rfl
      have hvalid : fieldKey THM.HK_VALID.VALID = 0x4019C * 32 := rfl
      omega
    rw [hother, hkRead_valid u n _ hk, if_neg hkn]
    exact ⟨fun hlt => hdone (by omega), fun hle => htodo (by omega)⟩

/-- The readings alone are what counts. -/
theorem ReadUpTo.congr (hu : ReadUpTo s h n u) {w : State} (hvalid : w.reg THM.HK_VALID.VALID = u.reg THM.HK_VALID.VALID)
    (hvalue : ∀ k < 5, w.reg (THM.HK.T k) = u.reg (THM.HK.T k)) : ReadUpTo s h n w := by
  intro k hk
  rw [hvalid, hvalue k hk]
  exact hu k hk

end

/-- The NTCs read, the DRAM read, and all five. -/
def ntcsRead (s : State) (h : HkReadings) : State := hkRead (hkRead s 0 (ntcRead s h.ntc0)) 1 (ntcRead s h.ntc1)
def dramRead (s : State) (h : HkReadings) : State := dramTempRead (ntcsRead s h) h.dramTwiceRate
def allRead (s : State) (h : HkReadings) : State := hkRead (hkRead (dramRead s h) 3 h.regulator) 4 h.guard

section
variable (s : State) (h : HkReadings)

theorem hk_apart {f : Field} (hf : fieldKey f < 0x40190 * 32 ∨ 0x401A0 * 32 ≤ fieldKey f) (k : Nat) :
    fieldKey THM.HK_VALID.VALID ≠ fieldKey f ∧ fieldKey (THM.HK.T k) ≠ fieldKey f := by
  have hkey : fieldKey (THM.HK.T k) = (0x40190 + 4 * ((k % 5) / 2)) * 32 + 16 * ((k % 5) % 2) := rfl
  have hvalid : fieldKey THM.HK_VALID.VALID = 0x4019C * 32 := rfl
  omega

theorem ntcsRead_reg {f : Field} (hf : fieldKey f < 0x40190 * 32 ∨ 0x401A0 * 32 ≤ fieldKey f) : (ntcsRead s h).reg f = s.reg f :=
  (hkRead_reg _ 1 _ (hk_apart hf 1).1 (hk_apart hf 1).2).trans (hkRead_reg s 0 _ (hk_apart hf 0).1 (hk_apart hf 0).2)

theorem allRead_of_dram {f : Field} (hf : fieldKey f < 0x40190 * 32 ∨ 0x401A0 * 32 ≤ fieldKey f) :
    (allRead s h).reg f = (dramRead s h).reg f :=
  (hkRead_reg _ 4 _ (hk_apart hf 4).1 (hk_apart hf 4).2).trans (hkRead_reg _ 3 _ (hk_apart hf 3).1 (hk_apart hf 3).2)

theorem dramRead_reg {f : Field} (hf : 0x30280 * 32 ≤ fieldKey f) (hhot : fieldKey DDRC.STATUS.HOT ≠ fieldKey f)
    (hhk : fieldKey f < 0x40190 * 32 ∨ 0x401A0 * 32 ≤ fieldKey f) : (dramRead s h).reg f = s.reg f :=
  ((dramTempRead_reg _ _ hf hhot).trans (hkRead_reg _ 2 _ (hk_apart hhk 2).1 (hk_apart hhk 2).2)).trans (ntcsRead_reg s h hhk)

/-- Beside the readings, HOT and the fault counts nothing is written. -/
theorem allRead_reg {f : Field} (hf : 0x30280 * 32 ≤ fieldKey f) (hhot : fieldKey DDRC.STATUS.HOT ≠ fieldKey f)
    (hhk : fieldKey f < 0x40190 * 32 ∨ 0x401A0 * 32 ≤ fieldKey f) : (allRead s h).reg f = s.reg f :=
  (allRead_of_dram s h hhk).trans (dramRead_reg s h hf hhot hhk)

theorem ntcsRead_selfRefresh (twice : Option Bool) : (if (ntcsRead s h).flag DDRC.STATUS.SELF_REFRESH then none else twice)
    = if s.flag DDRC.STATUS.SELF_REFRESH then none else twice := by
  unfold State.flag
  rw [ntcsRead_reg s h (.inr (by decide))]

theorem allRead_done : ReadUpTo s h 5 (allRead s h) := by
  have hntc : ReadUpTo s h 2 (ntcsRead s h) := ((readUpTo_zero s h).next (by decide)).next (by decide)
  have hdramT4 : dramT4 (ntcsRead s h) h.dramTwiceRate = answer s h 2 := by
    unfold dramT4
    rw [ntcsRead_selfRefresh]
    rfl
  have hdram : ReadUpTo s h 3 (dramRead s h) := by
    refine (hntc.next (by decide)).congr ?_ fun k hk => ?_
    · rw [← hdramT4]
      exact dramTempRead_reg _ _ (by decide) (by decide)
    · have hkey : fieldKey (THM.HK.T k) = (0x40190 + 4 * ((k % 5) / 2)) * 32 + 16 * ((k % 5) % 2) := rfl
      have hhot : fieldKey DDRC.STATUS.HOT = 0x80020 * 32 + 3 := rfl
      rw [← hdramT4]
      exact dramTempRead_reg _ _ (by omega) (by omega)
  exact (hdram.next (by decide)).next (by decide)

theorem allRead_thm : (allRead s h).thm = s.thm := by
  unfold allRead dramRead ntcsRead
  simp

theorem allRead_hot : (allRead s h).reg DDRC.STATUS.HOT
    = match (if s.flag DDRC.STATUS.SELF_REFRESH then none else h.dramTwiceRate) with
      | none => s.reg DDRC.STATUS.HOT | some b => b2n b := by
  rw [allRead_of_dram s h (.inr (by decide)), dramRead, dramTempRead_hot, ntcsRead_selfRefresh, ntcsRead_reg s h (.inr (by decide))]

theorem allRead_faulted (ht : (if s.flag DDRC.STATUS.SELF_REFRESH then none else h.dramTwiceRate) = some true)
    (hhot : s.flag DDRC.STATUS.HOT = false) : Faulted s (allRead s h) 57 1 := by
  have hbefore : SourceKept 57 s (ntcsRead s h) := by
    refine ⟨ntcsRead_reg s h (.inl (by decide)), ?_⟩
    unfold ntcsRead
    simp
  have hafter : SourceKept 57 (dramRead s h) (allRead s h) := by
    refine ⟨allRead_of_dram s h (.inl (by decide)), ?_⟩
    unfold allRead
    simp
  refine faulted_after (faulted_before hbefore (dramTempRead_faulted _ _ ?_ ?_)) hafter
  · rw [ntcsRead_selfRefresh]
    exact ht
  · unfold State.flag at hhot ⊢
    rw [ntcsRead_reg s h (.inr (by decide))]
    exact hhot

end

/-! ### The Guard reading's plausibility and the pause level (R482, R484) -/

/-- The Guard reading lies 10 °C off every corner. -/
def offCorners (s : State) (v : Int) : Bool := [64, 65, 66, 67].all (fun i => decide (40 < (v - sensorT4 s i).natAbs))

/-- The rounds in a row with the reading off, this one included. -/
def guardRun (s : State) (v : Int) : Nat := if offCorners s v then s.thm.guardRuns + 1 else 0

/-- The run noted. -/
def guardNoted (s : State) (v : Int) : State := { s with thm := { s.thm with guardRuns := min 4 (guardRun s v) } }

section
variable (w : State) (v : Int) (g : Option Int)

theorem guardPlausible_some : guardPlausible w (some v) = if guardRun w v = 3 then raiseFault (guardNoted w v) 55 1 else guardNoted w v := rfl

theorem guardPlausible_thm : (guardPlausible w (some v)).thm = { w.thm with guardRuns := min 4 (guardRun w v) } := by
  rw [guardPlausible_some]
  split
  · simp [guardNoted]
  · rfl

/-- Of the thermal state it writes its own run alone. -/
theorem guardPlausible_kept : (guardPlausible w g).thm.entered = w.thm.entered ∧ (guardPlausible w g).thm.pause = w.thm.pause
    ∧ (guardPlausible w g).thm.failed = w.thm.failed := by
  cases g with
  | none => exact ⟨rfl, rfl, rfl⟩
  | some v =>
    rw [guardPlausible_thm]
    exact ⟨rfl, rfl, rfl⟩

theorem guardPlausible_reg {f : Field} (hf : 0x30280 * 32 ≤ fieldKey f) : (guardPlausible w g).reg f = w.reg f := by
  cases g with
  | none => rfl
  | some v =>
    rw [guardPlausible_some]
    split
    · exact DramControl.raiseFault_reg (by decide) (guardNoted w v) (.inr hf)
    · rfl

theorem guardPlausible_source : SourceKept 57 w (guardPlausible w g) := by
  cases g with
  | none => exact ⟨rfl, rfl⟩
  | some v =>
    have hnoted : SourceKept 57 w (guardNoted w v) := ⟨rfl, rfl⟩
    rw [guardPlausible_some]
    split
    · exact hnoted.trans (ThermalStops.raiseFault_keeps (by decide) (by decide) (by decide) _ 1)
    · exact hnoted

theorem guardPlausible_faulted (h : guardRun w v = 3) : Faulted w (guardPlausible w (some v)) 55 1 := by
  have hnoted : SourceKept 55 w (guardNoted w v) := ⟨rfl, rfl⟩
  rw [guardPlausible_some, if_pos h]
  exact faulted_before hnoted (raiseFault_faulted _ 55 1)

/-- The pause level of a round. -/
def pauseOf (s : State) : Nat :=
  if s.thm.entered.getD 1 false then
    (if threshold s 1 ≤ sext 12 (s.reg THM.STATUS.TJ) then max s.thm.pause (min (s.reg THM.CFG.P_MAX) (s.thm.pause + 1)) else s.thm.pause)
  else s.thm.pause - 1

theorem pauseRound_eq : pauseRound w = { w with thm := { w.thm with pause := pauseOf w } } := rfl

end

/-! ### The aux derating (R438) -/

theorem derateBy_le {knee slope floor : Nat} (h : floor ≤ 100) (t : Int) : derateBy knee slope floor t ≤ 4096 := by
  unfold derateBy
  split
  · exact Nat.le_refl _
  · dsimp only
    have hmax : max (40 * floor) (4000 - slope * (t - 4 * (knee : Int)).toNat) ≤ 4000 := by omega
    omega

theorem auxFactor_le (s : State) (t : Int) : auxFactor s t ≤ 4096 := derateBy_le (by unfold clampN; omega) t

/-- F of this round. -/
def auxF (s : State) : Nat :=
  if 2 ≤ s.reg AUX.DR_CFG.SRC then 4096 else match auxT4 s with | some t => auxFactor s t | none => s.reg AUX.STATUS.F

section
variable (w : State)

theorem auxDerate_eq : auxDerate w = (w.setReg AUX.STATUS.F (auxF w)).setFlag AUX.STATUS.DERATING (decide (auxF w < 4096)) := rfl

theorem auxF_lt (h : w.reg AUX.STATUS.F < 8192) : auxF w < 8192 := by
  unfold auxF
  split
  · decide
  · cases auxT4 w with
    | none => exact h
    | some t => exact Nat.lt_of_le_of_lt (auxFactor_le w t) (by decide)

theorem auxDerate_F : (auxDerate w).reg AUX.STATUS.F = auxF w % 8192 :=
  (reg_setFlag_ne _ _ _ _ (by decide)).trans (reg_setReg_self _ _ _ (by decide))

theorem auxDerate_derating : (auxDerate w).flag AUX.STATUS.DERATING = decide (auxF w < 4096) :=
  flag_setFlag_self _ _ _ (by decide) (by decide)

theorem auxDerate_reg {f : Field} (h1 : fieldKey AUX.STATUS.F ≠ fieldKey f) (h2 : fieldKey AUX.STATUS.DERATING ≠ fieldKey f) :
    (auxDerate w).reg f = w.reg f := (reg_setFlag_ne _ _ _ _ h2).trans (reg_setReg_ne _ _ _ _ h1)

theorem auxF_fixed (h : 2 ≤ w.reg AUX.DR_CFG.SRC) : auxF w = 4096 := if_pos h

theorem auxF_of_some (h : w.reg AUX.DR_CFG.SRC < 2) {t : Int} (ht : auxT4 w = some t) : auxF w = auxFactor w t := by
  unfold auxF
  rw [if_neg (Nat.not_le.mpr h), ht]

theorem auxF_of_none (h : w.reg AUX.DR_CFG.SRC < 2) (ht : auxT4 w = none) : auxF w = w.reg AUX.STATUS.F := by
  unfold auxF
  rw [if_neg (Nat.not_le.mpr h), ht]

theorem auxT4_board (h : w.reg AUX.DR_CFG.SRC = 0) :
    auxT4 w = if bit (w.reg THM.HK_VALID.VALID) 1 then some (sext 12 (w.reg (THM.HK.T 1))) else none := if_pos h

/-- The good die corners. -/
def goodCorners (s : State) : List Nat := [64, 65, 66, 67].filter (fun i => !s.thm.failed.getD i false)

theorem auxT4_die (h : w.reg AUX.DR_CFG.SRC = 1) : auxT4 w = match goodCorners w with
    | [] => none
    | i :: t => some (t.foldl (fun m k => max m (sensorT4 w k)) (sensorT4 w i)) := if_neg (by omega)

theorem mem_goodCorners {i : Nat} : i ∈ goodCorners w ↔ i ∈ [64, 65, 66, 67] ∧ w.thm.failed.getD i false = false := by
  unfold goodCorners
  rw [List.mem_filter, Bool.not_eq_true']

/-- The maximum of a list is the value of a member that none exceeds. -/
theorem foldl_max_eq (f : Nat → Int) {i : Nat} {l : List Nat} (m : Int) (hi : f i = m ∨ i ∈ l) (hm : m ≤ f i)
    (hall : ∀ j ∈ l, f j ≤ f i) : l.foldl (fun m k => max m (f k)) m = f i := by
  induction l generalizing m with
  | nil => exact (hi.resolve_right List.not_mem_nil).symm
  | cons j l ih =>
    have hj := hall j List.mem_cons_self
    refine ih (max m (f j)) ?_ (max_le hm hj) fun k hk => hall k (List.mem_cons_of_mem j hk)
    rcases hi with hi | hi
    · exact .inl (by omega)
    · rcases List.mem_cons.mp hi with rfl | hi
      · exact .inl (by omega)
      · exact .inr hi

theorem auxT4_hottest (h : w.reg AUX.DR_CFG.SRC = 1) {i : Nat} (hi : i ∈ [64, 65, 66, 67]) (hgood : w.thm.failed.getD i false = false)
    (hmax : ∀ j ∈ [64, 65, 66, 67], w.thm.failed.getD j false = false → sensorT4 w j ≤ sensorT4 w i) :
    auxT4 w = some (sensorT4 w i) := by
  have hmem : i ∈ goodCorners w := (mem_goodCorners w).mpr ⟨hi, hgood⟩
  have hle : ∀ j ∈ goodCorners w, sensorT4 w j ≤ sensorT4 w i := fun j hj =>
    hmax j ((mem_goodCorners w).mp hj).1 ((mem_goodCorners w).mp hj).2
  rw [auxT4_die w h]
  cases hl : goodCorners w with
  | nil => exact absurd (hl ▸ hmem) List.not_mem_nil
  | cons j l =>
    rw [hl] at hmem hle
    refine congrArg some (foldl_max_eq (sensorT4 w) _ ?_ (hle j List.mem_cons_self) fun k hk => hle k (List.mem_cons_of_mem j hk))
    rcases List.mem_cons.mp hmem with rfl | h
    · exact .inl rfl
    · exact .inr h

theorem auxT4_none (h : w.reg AUX.DR_CFG.SRC = 1) (hall : ∀ i ∈ [64, 65, 66, 67], w.thm.failed.getD i false = true) : auxT4 w = none := by
  have hnil : goodCorners w = [] := List.eq_nil_iff_forall_not_mem.mpr fun i hi => by
    obtain ⟨hcorner, hgood⟩ := (mem_goodCorners w).mp hi
    exact Bool.false_ne_true (hgood.symm.trans (hall i hcorner))
  rw [auxT4_die w h, hnil]

end

/-! ### The round -/

/-- The state before the aux derating. -/
def roundJudged (s : State) (h : HkReadings) : State :=
  if thermalOn s then pauseRound (guardPlausible (allRead s h) h.guard) else allRead s h

section
variable (s : State) (h : HkReadings)

theorem housekeeping_eq : housekeeping s h = auxDerate (roundJudged s h) := rfl

theorem roundJudged_reg {f : Field} (hf : 0x30280 * 32 ≤ fieldKey f) : (roundJudged s h).reg f = (allRead s h).reg f := by
  unfold roundJudged
  split
  · exact guardPlausible_reg _ _ hf
  · rfl

theorem roundJudged_failed : (roundJudged s h).thm.failed = s.thm.failed := by
  unfold roundJudged
  split
  · exact (guardPlausible_kept _ _).2.2.trans (congrArg Thm.failed (allRead_thm s h))
  · rw [allRead_thm]

theorem round_reg {f : Field} (hf : 0x30280 * 32 ≤ fieldKey f) (h1 : fieldKey AUX.STATUS.F ≠ fieldKey f)
    (h2 : fieldKey AUX.STATUS.DERATING ≠ fieldKey f) : (housekeeping s h).reg f = (allRead s h).reg f := by
  rw [housekeeping_eq, auxDerate_reg _ h1 h2, roundJudged_reg s h hf]

theorem round_done : ReadUpTo s h 5 (housekeeping s h) := by
  refine (allRead_done s h).congr (round_reg s h (by decide) (by decide) (by decide)) fun k hk => ?_
  have hkey : fieldKey (THM.HK.T k) = (0x40190 + 4 * ((k % 5) / 2)) * 32 + 16 * ((k % 5) % 2) := rfl
  have hF : fieldKey AUX.STATUS.F = 0xC001C * 32 := rfl
  have hD : fieldKey AUX.STATUS.DERATING = 0xC001C * 32 + 16 := rfl
  exact round_reg s h (by omega) (by omega) (by omega)

/-- A sensor that answers is stored with VALID. -/
theorem round_answered {k : Nat} (hk : k < 5) {x : Int} (hx : answer s h k = some x) :
    bit ((housekeeping s h).reg THM.HK_VALID.VALID) k = true ∧ (housekeeping s h).reg (THM.HK.T k) = t12 x := by
  have hdone := (round_done s h k hk).1 hk
  rw [hx] at hdone
  exact hdone

theorem round_silent {k : Nat} (hk : k < 5) (hx : answer s h k = none) :
    bit ((housekeeping s h).reg THM.HK_VALID.VALID) k = false ∧ (housekeeping s h).reg (THM.HK.T k) = s.reg (THM.HK.T k) := by
  have hdone := (round_done s h k hk).1 hk
  rw [hx] at hdone
  exact hdone

theorem answer_ntc {k : Nat} (hk : k < 2) : answer s h k = ntcRead s (if k = 0 then h.ntc0 else h.ntc1) := by
  obtain rfl | rfl : k = 0 ∨ k = 1 := by omega
  · rfl
  · rfl

theorem answer_smb {k : Nat} (hk : k = 3 ∨ k = 4) : answer s h k = if k = 3 then h.regulator else h.guard := by
  obtain rfl | rfl := hk
  · rfl
  · rfl

theorem ntcRead_good {code : Option Nat} {c : Nat} (hc : code = some c) (hlow : 40 ≤ c) (hhigh : c ≤ 4055) :
    ntcRead s code = some (ntcT4 (leAt (boardRecord s) 4 4) (leAt (boardRecord s) 8 2) c) := by
  subst hc
  exact if_pos ⟨hlow, hhigh⟩

theorem ntcRead_bad {code : Option Nat} (hc : ∀ c, code = some c → c < 40 ∨ 4055 < c) : ntcRead s code = none := by
  cases code with
  | none => rfl
  | some c =>
    have hout := hc c rfl
    exact if_neg (by omega)

/-! ### The thermal state -/

theorem round_thm : (housekeeping s h).thm = (roundJudged s h).thm := by
  rw [housekeeping_eq]
  simp

theorem roundJudged_off (hoff : s.flag (CLK.GATE.EN 4) = false ∨ s.flag THM.CTRL.EN = false) : roundJudged s h = allRead s h := by
  refine if_neg ?_
  unfold thermalOn
  rcases hoff with hoff | hoff <;> simp [hoff]

theorem roundJudged_on (h4 : s.flag (CLK.GATE.EN 4) = true) (hen : s.flag THM.CTRL.EN = true) :
    roundJudged s h = pauseRound (guardPlausible (allRead s h) h.guard) := by
  refine if_pos ?_
  unfold thermalOn
  rw [h4, hen]
  rfl

/-- The pause level is that of the state before the round. -/
theorem round_pause (h4 : s.flag (CLK.GATE.EN 4) = true) (hen : s.flag THM.CTRL.EN = true) :
    (housekeeping s h).thm.pause = pauseOf s := by
  obtain ⟨w, hw⟩ : ∃ w, w = guardPlausible (allRead s h) h.guard := ⟨_, rfl⟩
  obtain ⟨hentered, hpause, -⟩ := guardPlausible_kept (allRead s h) h.guard
  rw [allRead_thm, ← hw] at hentered hpause
  have hreg {f : Field} (hf : 0x30280 * 32 ≤ fieldKey f) (hhot : fieldKey DDRC.STATUS.HOT ≠ fieldKey f)
      (hhk : fieldKey f < 0x40190 * 32 ∨ 0x401A0 * 32 ≤ fieldKey f) : w.reg f = s.reg f := by
    rw [hw, guardPlausible_reg _ _ hf, allRead_reg s h hf hhot hhk]
  have hthreshold : threshold w 1 = threshold s 1 := by
    unfold threshold State.regIn
    rw [hreg (f := THM.THRESH.WARN) (by decide) (by decide) (.inl (by decide)),
      hreg (f := THM.THRESH.THROTTLE) (by decide) (by decide) (.inl (by decide)),
      hreg (f := THM.THRESH.SOFT_STOP) (by decide) (by decide) (.inl (by decide))]
  rw [round_thm, roundJudged_on s h h4 hen, ← hw, pauseRound_eq]
  show pauseOf w = pauseOf s
  unfold pauseOf
  rw [hentered, hpause, hthreshold, hreg (f := THM.STATUS.TJ) (by decide) (by decide) (.inl (by decide)),
    hreg (f := THM.CFG.P_MAX) (by decide) (by decide) (.inl (by decide))]

/-! ### The Guard reading and the DRAM reading -/

theorem sensorT4_allRead (i : Nat) : sensorT4 (allRead s h) i = sensorT4 s i := by
  have hkey : fieldKey (THM.ZONE.T i) = (0x40100 + 4 * ((i % 68) / 2)) * 32 + 16 * ((i % 68) % 2) := rfl
  have hhot : fieldKey DDRC.STATUS.HOT = 0x80020 * 32 + 3 := rfl
  unfold sensorT4
  rw [allRead_reg s h (by omega) (by omega) (.inl (by omega))]

theorem offCorners_allRead (v : Int) : offCorners (allRead s h) v = offCorners s v := by
  unfold offCorners
  simp only [sensorT4_allRead]

theorem guardRun_allRead (v : Int) : guardRun (allRead s h) v = guardRun s v := by
  unfold guardRun
  rw [offCorners_allRead, allRead_thm]

/-- A source that neither the readings nor the Guard's check raise stands through the derating. -/
theorem round_source (k : Nat) : SourceKept k (roundJudged s h) (housekeeping s h) := by
  rw [housekeeping_eq]
  exact ⟨auxDerate_reg _ (FaultInjection.count_ne (.inr (by decide)) k) (FaultInjection.count_ne (.inr (by decide)) k),
    by simp⟩

theorem round_guardFaulted (h4 : s.flag (CLK.GATE.EN 4) = true) (hen : s.flag THM.CTRL.EN = true) {v : Int} (hv : h.guard = some v)
    (hrun : guardRun s v = 3) : Faulted s (housekeeping s h) 55 1 := by
  have hread : SourceKept 55 s (allRead s h) := by
    refine SourceKept.trans (t := dramRead s h) (SourceKept.trans (t := ntcsRead s h) ?_ ?_) ?_
    · exact ⟨ntcsRead_reg s h (.inl (by decide)), by unfold ntcsRead; simp⟩
    · exact dramTempRead_source _ _
    · exact ⟨allRead_of_dram s h (.inl (by decide)), by unfold allRead; simp⟩
  have hpause (w : State) : SourceKept 55 w (pauseRound w) := ⟨rfl, rfl⟩
  refine faulted_after ?_ (round_source s h 55)
  rw [roundJudged_on s h h4 hen, hv]
  exact faulted_after (faulted_before hread (guardPlausible_faulted _ v (by rw [guardRun_allRead]; exact hrun))) (hpause _)

theorem round_dramFaulted (ht : (if s.flag DDRC.STATUS.SELF_REFRESH then none else h.dramTwiceRate) = some true)
    (hhot : s.flag DDRC.STATUS.HOT = false) : Faulted s (housekeeping s h) 57 1 := by
  have hjudged : SourceKept 57 (allRead s h) (roundJudged s h) := by
    unfold roundJudged
    split
    · have hguard := guardPlausible_source (allRead s h) h.guard
      exact hguard.trans ⟨rfl, rfl⟩
    · exact ⟨rfl, rfl⟩
  exact faulted_after (allRead_faulted s h ht hhot) (hjudged.trans (round_source s h 57))

theorem round_hot : (housekeeping s h).reg DDRC.STATUS.HOT
    = match (if s.flag DDRC.STATUS.SELF_REFRESH then none else h.dramTwiceRate) with
      | none => s.reg DDRC.STATUS.HOT | some b => b2n b :=
  (round_reg s h (by decide) (by decide) (by decide)).trans (allRead_hot s h)

/-! ### The derating -/

theorem auxF_round {f : Field} (hf : 0x40280 * 32 ≤ fieldKey f) (hhot : fieldKey DDRC.STATUS.HOT ≠ fieldKey f) :
    (roundJudged s h).reg f = s.reg f :=
  (roundJudged_reg s h (by omega)).trans (allRead_reg s h (by omega) hhot (.inr (by omega)))

theorem auxFactor_round (t : Int) : auxFactor (roundJudged s h) t = auxFactor s t := by
  unfold auxFactor
  rw [auxF_round s h (f := AUX.DR_CFG.KNEE) (by decide) (by decide), auxF_round s h (f := AUX.DR_CFG.SLOPE) (by decide) (by decide),
    auxF_round s h (f := AUX.DR_CFG.FLOOR) (by decide) (by decide)]

theorem auxF_round_src : (roundJudged s h).reg AUX.DR_CFG.SRC = s.reg AUX.DR_CFG.SRC :=
  auxF_round s h (by decide) (by decide)

theorem round_F (hlt : auxF (roundJudged s h) < 8192) : (housekeeping s h).reg AUX.STATUS.F = auxF (roundJudged s h) := by
  rw [housekeeping_eq, auxDerate_F, Nat.mod_eq_of_lt hlt]

theorem round_F_some {t : Int} (hsrc : s.reg AUX.DR_CFG.SRC < 2) (ht : auxT4 (roundJudged s h) = some t) :
    (housekeeping s h).reg AUX.STATUS.F = auxFactor s t := by
  have hF : auxF (roundJudged s h) = auxFactor s t := by
    rw [auxF_of_some _ (by rw [auxF_round_src]; exact hsrc) ht, auxFactor_round]
  rw [← hF]
  refine round_F s h ?_
  rw [hF]
  exact Nat.lt_of_le_of_lt (auxFactor_le s t) (by decide)

/-- Without a temperature F holds. -/
theorem round_F_none (hsrc : s.reg AUX.DR_CFG.SRC < 2) (ht : auxT4 (roundJudged s h) = none) (hlt : s.reg AUX.STATUS.F < 8192) :
    (housekeeping s h).reg AUX.STATUS.F = s.reg AUX.STATUS.F := by
  have hF : auxF (roundJudged s h) = s.reg AUX.STATUS.F := by
    rw [auxF_of_none _ (by rw [auxF_round_src]; exact hsrc) ht, auxF_round s h (by decide) (by decide)]
  rw [← hF]
  exact round_F s h (by rw [hF]; exact hlt)

/-- The board's NTC as the round has read it. -/
theorem auxT4_round_board (hsrc : s.reg AUX.DR_CFG.SRC = 0) : auxT4 (roundJudged s h)
    = if bit ((housekeeping s h).reg THM.HK_VALID.VALID) 1 then some (sext 12 ((housekeeping s h).reg (THM.HK.T 1))) else none := by
  rw [auxT4_board _ (by rw [auxF_round_src]; exact hsrc), roundJudged_reg s h (by decide), roundJudged_reg s h (by decide),
    round_reg s h (by decide) (by decide) (by decide), round_reg s h (by decide) (by decide) (by decide)]

theorem sensorT4_round (i : Nat) : sensorT4 (roundJudged s h) i = sensorT4 s i := by
  rw [← sensorT4_allRead s h i]
  have hkey : fieldKey (THM.ZONE.T i) = (0x40100 + 4 * ((i % 68) / 2)) * 32 + 16 * ((i % 68) % 2) := rfl
  unfold sensorT4
  rw [roundJudged_reg s h (by omega)]

/-! ### HOUSEKEEPING_ROUND -/

theorem round_pauses (h4 : s.flag (CLK.GATE.EN 4) = true) (hen : s.flag THM.CTRL.EN = true) :
    (s.thm.entered.getD 1 false = true → threshold s 1 ≤ sext 12 (s.reg THM.STATUS.TJ) → s.thm.pause ≤ s.reg THM.CFG.P_MAX →
      (housekeeping s h).thm.pause = min (s.reg THM.CFG.P_MAX) (s.thm.pause + 1))
    ∧ (s.thm.entered.getD 1 false = true → sext 12 (s.reg THM.STATUS.TJ) < threshold s 1 → (housekeeping s h).thm.pause = s.thm.pause)
    ∧ (s.thm.entered.getD 1 false = false → (housekeeping s h).thm.pause = s.thm.pause - 1) := by
  rw [round_pause s h h4 hen]
  unfold pauseOf
  refine ⟨fun hin hover hle => ?_, fun hin hunder => ?_, fun hout => ?_⟩
  · rw [hin, if_pos rfl, if_pos hover]
    omega
  · rw [hin, if_pos rfl, if_neg (Int.not_le.mpr hunder)]
  · rw [hout]
    rfl

theorem round_guard (h4 : s.flag (CLK.GATE.EN 4) = true) (hen : s.flag THM.CTRL.EN = true) {v : Int} (hv : h.guard = some v) :
    ((∀ i ∈ [64, 65, 66, 67], 40 < (v - sensorT4 s i).natAbs) → s.thm.guardRuns = 2 → Faulted s (housekeeping s h) 55 1)
    ∧ ((∃ i ∈ [64, 65, 66, 67], (v - sensorT4 s i).natAbs ≤ 40) → (housekeeping s h).thm.guardRuns = 0) := by
  refine ⟨fun hoff hruns => round_guardFaulted s h h4 hen hv ?_, fun ⟨i, hi, hnear⟩ => ?_⟩
  · have hall : offCorners s v = true := List.all_eq_true.mpr fun i hi => decide_eq_true (hoff i hi)
    unfold guardRun
    rw [hall, hruns]
    rfl
  · have hnot : offCorners s v = false := List.all_eq_false.mpr ⟨i, hi, by simpa using hnear⟩
    have hrun : guardRun s v = 0 := by
      unfold guardRun
      rw [hnot]
      rfl
    rw [round_thm, roundJudged_on s h h4 hen, hv, pauseRound_eq]
    show (guardPlausible (allRead s h) (some v)).thm.guardRuns = 0
    rw [guardPlausible_thm, guardRun_allRead, hrun]
    rfl

theorem round_derating :
    (2 ≤ s.reg AUX.DR_CFG.SRC → (housekeeping s h).reg AUX.STATUS.F = 4096)
    ∧ (s.reg AUX.DR_CFG.SRC = 0 → bit ((housekeeping s h).reg THM.HK_VALID.VALID) 1 = true →
      (housekeeping s h).reg AUX.STATUS.F = auxFactor s (sext 12 ((housekeeping s h).reg (THM.HK.T 1))))
    ∧ (s.reg AUX.DR_CFG.SRC = 1 → ∀ i ∈ [64, 65, 66, 67], s.thm.failed.getD i false = false →
        (∀ j ∈ [64, 65, 66, 67], s.thm.failed.getD j false = false → sensorT4 s j ≤ sensorT4 s i) →
      (housekeeping s h).reg AUX.STATUS.F = auxFactor s (sensorT4 s i))
    ∧ (s.reg AUX.DR_CFG.SRC = 0 ∧ bit ((housekeeping s h).reg THM.HK_VALID.VALID) 1 = false
        ∨ s.reg AUX.DR_CFG.SRC = 1 ∧ (∀ i ∈ [64, 65, 66, 67], s.thm.failed.getD i false = true) →
      s.reg AUX.STATUS.F < 8192 → (housekeeping s h).reg AUX.STATUS.F = s.reg AUX.STATUS.F)
    ∧ (s.reg AUX.STATUS.F < 8192 →
      (housekeeping s h).flag AUX.STATUS.DERATING = decide ((housekeeping s h).reg AUX.STATUS.F < 4096)) := by
  have hsrc {n : Nat} (hn : s.reg AUX.DR_CFG.SRC = n) : (roundJudged s h).reg AUX.DR_CFG.SRC = n := (auxF_round_src s h).trans hn
  have hfailed := roundJudged_failed s h
  refine ⟨fun hfix => ?_, fun hboard hvalid => ?_, fun hdie i hi hgood hmax => ?_, fun hnone hlt => ?_, fun hlt => ?_⟩
  · have hF := auxF_fixed (roundJudged s h) (by rw [auxF_round_src]; exact hfix)
    rw [round_F s h (by rw [hF]; decide), hF]
  · refine round_F_some s h (by omega) ?_
    rw [auxT4_round_board s h hboard, hvalid, if_pos rfl]
  · refine round_F_some s h (by omega) ?_
    rw [← sensorT4_round s h i]
    refine auxT4_hottest _ (hsrc hdie) hi (by rw [hfailed]; exact hgood) fun j hj hjgood => ?_
    rw [sensorT4_round, sensorT4_round]
    exact hmax j hj (by rw [← hfailed]; exact hjgood)
  · rcases hnone with ⟨hboard, hvalid⟩ | ⟨hdie, hall⟩
    · refine round_F_none s h (by omega) ?_ hlt
      rw [auxT4_round_board s h hboard, hvalid]
      rfl
    · exact round_F_none s h (by omega) (auxT4_none _ (hsrc hdie) (by rw [hfailed]; exact hall)) hlt
  · have hbelow : auxF (roundJudged s h) < 8192 := auxF_lt _ (by rw [auxF_round s h (by decide) (by decide)]; exact hlt)
    rw [round_F s h hbelow, housekeeping_eq, auxDerate_derating]

theorem round_dram :
    (s.flag DDRC.STATUS.SELF_REFRESH = true ∨ h.dramTwiceRate = none →
      bit ((housekeeping s h).reg THM.HK_VALID.VALID) 2 = false ∧ (housekeeping s h).reg (THM.HK.T 2) = s.reg (THM.HK.T 2)
      ∧ (housekeeping s h).reg DDRC.STATUS.HOT = s.reg DDRC.STATUS.HOT)
    ∧ (∀ b, s.flag DDRC.STATUS.SELF_REFRESH = false → h.dramTwiceRate = some b →
      bit ((housekeeping s h).reg THM.HK_VALID.VALID) 2 = true ∧ (housekeeping s h).reg (THM.HK.T 2) = (if b then 380 else 340)
      ∧ (housekeeping s h).flag DDRC.STATUS.HOT = b
      ∧ (b = true → s.flag DDRC.STATUS.HOT = false → Faulted s (housekeeping s h) 57 1)) := by
  refine ⟨fun hno => ?_, fun b hawake hb => ?_⟩
  · have hnone : (if s.flag DDRC.STATUS.SELF_REFRESH then none else h.dramTwiceRate) = none := by
      rcases hno with hno | hno <;> simp [hno]
    have hhot := round_hot s h
    rw [hnone] at hhot
    obtain ⟨hvalid, hvalue⟩ := round_silent s h (k := 2) (by decide) (congrArg (Option.map _) hnone)
    exact ⟨hvalid, hvalue, hhot⟩
  · have hsome : (if s.flag DDRC.STATUS.SELF_REFRESH then none else h.dramTwiceRate) = some b := by simp [hawake, hb]
    have hhot := round_hot s h
    rw [hsome] at hhot
    obtain ⟨hvalid, hvalue⟩ := round_answered s h (k := 2) (by decide) (congrArg (Option.map _) hsome)
    refine ⟨hvalid, ?_, ?_, fun htwice hcool => ?_⟩
    · rw [hvalue]
      cases b <;> decide
    · unfold State.flag
      rw [hhot]
      cases b <;> rfl
    · subst htwice
      exact round_dramFaulted s h hsome hcool

end

/-- Settles O55: five readings, each stored or left with VALID cleared, then the pause level and the aux derating. -/
theorem housekeepingRound : Obligations.HousekeepingRound := by
  intro s h hclocks hpower hup
  have hexec : exec (.housekeepingRound h) s = .next (housekeeping s h) := congrArg Host.Outcome.next (if_pos ⟨hclocks, hpower, hup⟩)
  obtain ⟨hdramNone, hdramSome⟩ := round_dram s h
  refine completes_of hexec ⟨fun k hk c hc hlow hhigh => ?_, fun k hk hbad => ?_, hdramNone, hdramSome, fun k hk => ⟨fun v hv => ?_,
    fun hnone => ?_⟩, fun hoff => ?_, fun h4 hen => ?_, round_derating s h⟩
  · exact round_answered s h (by omega) ((answer_ntc s h hk).trans (ntcRead_good s hc hlow hhigh))
  · exact round_silent s h (by omega) ((answer_ntc s h hk).trans (ntcRead_bad s hbad))
  · exact round_answered s h (by omega) ((answer_smb s h hk).trans hv)
  · exact round_silent s h (by omega) ((answer_smb s h hk).trans hnone)
  · rw [round_thm, roundJudged_off s h hoff, allRead_thm]
  · obtain ⟨hup, hhold, hdown⟩ := round_pauses s h h4 hen
    exact ⟨hup, hhold, hdown, fun v hv => (round_guard s h h4 hen hv).1, fun v hv => (round_guard s h h4 hen hv).2⟩

end Sys2Proof.Machine.Housekeeping
end

section
/-! PROOF. ResetRelease: what a reset, a failing supply and a hard trip leave, and their release into the cold-boot path
(15_thermal_management.md R487; 19_startup_reset_and_bringup.md R572 to R576, R589). -/

namespace Sys2Proof.Machine.ResetRelease

open FallbackCauses (allFallback_drive flag_allFallback)
open FrameTiming (reg_lt reg_setReg_of_lt)
open SleepEntry (reg_keepRegs_of_mem reg_keepRegs_of_outside)

/-! ### The light of LOWBEAM_REQ (R246) -/

/-- The ROM pattern lit. -/
def romLit (w : State) : State := allFallback ((w.setFlag SAFE.FB_CAUSE.LOWBEAM true).setFlag SCAN.FB_CTRL.RESET_LONG_ROM true)

section
variable {w : State}

theorem lightRom_high (h : w.pins.lowbeam = true) (htrip : w.thm.trip = false) : lightRom w = romLit w := if_pos ⟨h, htrip⟩

theorem lightRom_low (h : w.pins.lowbeam = false) : lightRom w = w := if_neg (by simp [h])

theorem lightRom_tripped (h : w.thm.trip = true) : lightRom w = w := if_neg (by simp [h])

theorem romLit_effects (w : State) : AllOnFallback (romLit w) ∧ (romLit w).flag SAFE.FB_CAUSE.LOWBEAM = true
    ∧ (romLit w).flag SCAN.FB_CTRL.RESET_LONG_ROM = true := by
  refine ⟨allFallback_drive _, (flag_allFallback _ _).trans ?_, (flag_allFallback _ _).trans ?_⟩
  · rw [flag_setFlag_ne _ _ _ _ (by decide)]
    exact flag_setFlag_self _ _ _ (by decide) (by decide)
  · exact flag_setFlag_self _ _ _ (by decide) (by decide)

/-- From a dark array the light follows the pin. -/
theorem lightRom_romLight {s : State} (hpin : w.pins.lowbeam = s.pins.lowbeam) (htrip : w.thm.trip = false)
    (hdark : ∀ g ∈ w.scan.groups, g.drive = .dark) : RomLight s (lightRom w) := by
  refine ⟨fun hhigh => ?_, fun hlow => ?_⟩
  · rw [lightRom_high (hpin.trans hhigh) htrip]
    exact romLit_effects w
  · rw [lightRom_low (hpin.trans hlow)]
    exact hdark

theorem romLight_congr {s t u : State} (h : RomLight s t) (hscan : u.scan = t.scan)
    (hlow : u.flag SAFE.FB_CAUSE.LOWBEAM = t.flag SAFE.FB_CAUSE.LOWBEAM)
    (hrom : u.flag SCAN.FB_CTRL.RESET_LONG_ROM = t.flag SCAN.FB_CTRL.RESET_LONG_ROM) : RomLight s u := by
  unfold RomLight AllOnFallback
  rw [hscan, hlow, hrom]
  exact h

end

/-! ### What a reset leaves (R573, R574) -/

/-- The fields that a reset leaves with values of its own. -/
def resetWrites : List Field := [SAFE.FB_CAUSE.LOWBEAM, SCAN.FB_CTRL.RESET_LONG_ROM, SYS.RESET_CAUSE.CAUSE]

/-- The stores that a reset concerns stand from `t` to `u`. -/
structure StoresKept (t u : State) : Prop where
  mram : u.mram = t.mram
  flash : u.flash = t.flash
  guard : u.guard = t.guard
  dram : u.dram = t.dram
  mbx : u.mbx = t.mbx
  jorosh : u.boot.jorosh = t.boot.jorosh
  lt : u.lt = t.lt
  synced : u.synced = t.synced
  flt : u.flt = t.flt
  aux : u.aux = t.aux
  pix : u.pix = t.pix
  shd : u.shd = t.shd

theorem StoresKept.trans {t u v : State} (h : StoresKept t u) (k : StoresKept u v) : StoresKept t v := by
  constructor
  · exact k.mram.trans h.mram
  · exact k.flash.trans h.flash
  · exact k.guard.trans h.guard
  · exact k.dram.trans h.dram
  · exact k.mbx.trans h.mbx
  · exact k.jorosh.trans h.jorosh
  · exact k.lt.trans h.lt
  · exact k.synced.trans h.synced
  · exact k.flt.trans h.flt
  · exact k.aux.trans h.aux
  · exact k.pix.trans h.pix
  · exact k.shd.trans h.shd

theorem setReg_storesKept (t : State) (f : Field) (v : Nat) : StoresKept t (t.setReg f v) := by constructor <;> rfl

theorem lightRom_storesKept (t : State) : StoresKept t (lightRom t) := by constructor <;> simp

theorem keepRegs_storesKept (l : List Field) (s t : State) : StoresKept t (keepRegs l s t) := by constructor <;> simp

/-- The stores of a device that a reset of `s` has left as `t`. -/
structure StoresReset (s t : State) : Prop where
  mram : t.mram.recs = s.mram.recs
  flash : t.flash = s.flash
  otp : t.guard.otp = s.guard.otp
  dram : t.dram = State.reset.dram
  mbx : t.mbx = State.reset.mbx
  jorosh : t.boot.jorosh = false
  now : t.now = 0
  synced : t.synced = false
  errHeld : errHeld t = false
  gates : ∀ g ∈ t.aux.gates, g.high = 0
  pix : t.pix = State.reset.pix
  shd : t.shd = State.reset.shd

section
variable {l : List Field} {s t u : State}

theorem StoresReset.passes (h : StoresReset s t) (k : StoresKept t u) : StoresReset s u := by
  constructor
  · rw [k.mram]
    exact h.mram
  · exact k.flash.trans h.flash
  · rw [k.guard]
    exact h.otp
  · exact k.dram.trans h.dram
  · exact k.mbx.trans h.mbx
  · exact k.jorosh.trans h.jorosh
  · unfold State.now
    rw [k.lt]
    exact h.now
  · exact k.synced.trans h.synced
  · unfold Machine.errHeld
    rw [k.flt]
    exact h.errHeld
  · rw [k.aux]
    exact h.gates
  · exact k.pix.trans h.pix
  · exact k.shd.trans h.shd

/-- The records kept, every other register at its reset value, and the stores reset. -/
theorem resetLeaves_of (hkept : ∀ f ∈ l, t.reg f = s.reg f % 2 ^ f.width)
    (hlost : ∀ f : Field, Outside (l ++ resetWrites) (fieldKey f) → t.reg f = State.reset.reg f) (h : StoresReset s t) :
    ResetLeaves l s t :=
  ⟨hkept, fun f _ hf => hlost f fun _ hg hkey => hf (hkey ▸ List.mem_map_of_mem hg), h.mram, h.flash, h.otp, h.dram, h.mbx, h.jorosh,
    h.now, h.synced, h.errHeld, h.gates, h.pix, h.shd⟩

end

/-- The bare device with what the reset lines hold. -/
def bareHeld (s : State) (boot : Boot) (trip : Bool) : State :=
  { bareDevice s with boot := boot, thm := { (bareDevice s).thm with trip := trip } }

theorem bareHeld_stores (s : State) {boot : Boot} (hjorosh : boot.jorosh = false) (trip : Bool) :
    StoresReset s (bareHeld s boot trip) := by
  refine ⟨rfl, rfl, rfl, rfl, rfl, hjorosh, rfl, rfl, rfl, ?_, rfl, rfl⟩
  show ∀ g ∈ Aux.reset.gates, g.high = 0
  decide

theorem bareHeld_reg (s : State) (boot : Boot) (trip : Bool) (f : Field) : (bareHeld s boot trip).reg f = State.reset.reg f := rfl

theorem bareHeld_dark (s : State) (boot : Boot) (trip : Bool) : ∀ g ∈ (bareHeld s boot trip).scan.groups, g.drive = .dark := by
  show ∀ g ∈ Scan.reset.groups, g.drive = .dark
  decide

/-! ### RESET_N (R573, R574) -/

/-- What the boot path still has to report after a reset. -/
def bootAfter (s : State) : Boot :=
  { (bareDevice s).boot with held := s.boot.held, longDue := s.boot.longDue, tripDue := s.boot.tripDue }

section
variable (s : State)

theorem afterReset_eq : afterReset s = lightRom (keepRegs resetKeeps s (bareHeld s (bootAfter s) s.thm.trip)) := rfl

theorem resetKeeps_keys : ∀ f ∈ resetKeeps, ∀ g ∈ resetKeeps, fieldKey g = fieldKey f → g = f := by decide

theorem resetKeeps_widths : ∀ f ∈ resetKeeps, f.width ≤ 32 := by decide

theorem lightRom_reg {f : Field} (hf : Outside resetWrites (fieldKey f)) (w : State) : (lightRom w).reg f = w.reg f := by
  obtain ⟨hlow, hf⟩ := (outside_cons _ _ _).mp hf
  obtain ⟨hrom, -⟩ := (outside_cons _ _ _).mp hf
  refine reg_eq_of_word (lightRom_word ?_ w)
  simp only [lightRomRegs, outside_cons, outside_nil, and_true]
  exact ⟨hlow, hrom⟩

theorem records_apart : ∀ f ∈ resetRecords, f ∈ resetKeeps ∧ Outside resetWrites (fieldKey f) := by
  have h : resetRecords.all (fun f => resetWrites.all (fun g => fieldKey g != fieldKey f)) = true := by decide
  have hmem : ∀ f ∈ resetRecords, f ∈ resetKeeps := by decide
  exact fun f hf => ⟨hmem f hf, outside_of (List.all_eq_true.mp h f hf)⟩

/-- A record holds what it held. -/
theorem afterReset_record {f : Field} (hf : f ∈ resetRecords) : (afterReset s).reg f = s.reg f % 2 ^ f.width := by
  obtain ⟨hkeep, hout⟩ := records_apart f hf
  rw [afterReset_eq, lightRom_reg hout]
  exact reg_keepRegs_of_mem hkeep (resetKeeps_keys f hkeep) (resetKeeps_widths f hkeep) s _

theorem afterReset_lost {f : Field} (hf : Outside (resetRecords ++ resetWrites) (fieldKey f)) :
    (afterReset s).reg f = State.reset.reg f := by
  obtain ⟨hrecords, hwrites⟩ := (outside_append _ _ _).mp hf
  have hkeeps : ∀ g ∈ resetKeeps, g ∈ resetRecords ++ resetWrites := by decide
  rw [afterReset_eq, lightRom_reg hwrites]
  exact (reg_keepRegs_of_outside (fun g hg => hf g (hkeeps g hg)) s _).trans (bareHeld_reg s _ _ f)

theorem afterReset_stores : StoresReset s (afterReset s) := by
  rw [afterReset_eq]
  exact (bareHeld_stores s (by rfl) _).passes ((keepRegs_storesKept _ s _).trans (lightRom_storesKept _))

theorem afterReset_leaves : ResetLeaves resetRecords s (afterReset s) :=
  resetLeaves_of (fun _ hf => afterReset_record s hf) (fun _ hf => afterReset_lost s hf) (afterReset_stores s)

theorem afterReset_boot : (afterReset s).boot = bootAfter s ∧ (afterReset s).thm.trip = s.thm.trip := by
  rw [afterReset_eq]
  refine ⟨?_, ?_⟩
  · simp [bareHeld]
  · simp [bareHeld]

theorem keptBare_scan : (keepRegs resetKeeps s (bareHeld s (bootAfter s) s.thm.trip)).scan = Scan.reset
    ∧ (keepRegs resetKeeps s (bareHeld s (bootAfter s) s.thm.trip)).pins.lowbeam = s.pins.lowbeam
    ∧ (keepRegs resetKeeps s (bareHeld s (bootAfter s) s.thm.trip)).thm.trip = s.thm.trip := by
  simp [bareHeld, bareDevice, State.reset]

theorem reset_dark : ∀ g ∈ Scan.reset.groups, g.drive = .dark := by decide

theorem afterReset_light (h : s.thm.trip = false) : RomLight s (afterReset s) := by
  obtain ⟨hscan, hpin, htrip⟩ := keptBare_scan s
  rw [afterReset_eq]
  exact lightRom_romLight hpin (htrip.trans h) (by rw [hscan]; exact reset_dark)

/-- A hard trip darkens the array whatever LOWBEAM_REQ asks for. -/
theorem afterReset_tripped (h : s.thm.trip = true) : ∀ g ∈ (afterReset s).scan.groups, g.drive = .dark := by
  obtain ⟨hscan, -, htrip⟩ := keptBare_scan s
  rw [afterReset_eq, lightRom_tripped (htrip.trans h), hscan]
  exact reset_dark

end

/-! ### A reset with its cause -/

section
variable {l : List Field} {s t : State}

theorem cause_self {v : Nat} (hv : v < 8) (t : State) : (t.setReg SYS.RESET_CAUSE.CAUSE v).reg SYS.RESET_CAUSE.CAUSE = v :=
  reg_setReg_of_lt _ _ _ (by decide) hv

/-- SUPPLY_FAIL: a reset with its own cause. -/
theorem supplyFail_leaves (s : State) : ResetLeaves resetRecords s ((afterReset s).setReg SYS.RESET_CAUSE.CAUSE 2) :=
  resetLeaves_of
    (fun f hf => (reg_setReg_ne _ _ _ _ ((records_apart f hf).2 _ (by decide))).trans (afterReset_record s hf))
    (fun f hf => (reg_setReg_ne _ _ _ _ (hf _ (by decide))).trans (afterReset_lost s hf))
    ((afterReset_stores s).passes (setReg_storesKept _ _ _))

theorem caused_light (h : RomLight s t) (v : Nat) : RomLight s (t.setReg SYS.RESET_CAUSE.CAUSE v) :=
  romLight_congr h rfl (flag_setReg_ne _ _ _ _ (by decide)) (flag_setReg_ne _ _ _ _ (by decide))

/-- VSYS33_POWER_ON: the non-volatile memories alone are left. -/
def poweredOn (s : State) : State := { bareDevice s with boot := { Boot.reset with held := s.boot.held } }

theorem powerOn_effects (s : State) : ResetLeaves [] s (lightRom (poweredOn s)) ∧ (lightRom (poweredOn s)).reg SYS.RESET_CAUSE.CAUSE = 0
    ∧ (lightRom (poweredOn s)).thm.trip = false ∧ (lightRom (poweredOn s)).boot.cold = true ∧ RomLight s (lightRom (poweredOn s)) := by
  have hstores : StoresReset s (poweredOn s) := bareHeld_stores s (boot := { Boot.reset with held := s.boot.held }) (by rfl) false
  refine ⟨resetLeaves_of (fun f hf => absurd hf List.not_mem_nil) (fun f hf => lightRom_reg hf _) (hstores.passes (lightRom_storesKept _)),
    ?_, ?_, ?_, lightRom_romLight rfl rfl (reset_dark)⟩
  · have hcause := reg_eq_of_word (f := SYS.RESET_CAUSE.CAUSE) (lightRom_word (outside_of (by decide)) (poweredOn s))
    have hreset : State.reset.reg SYS.RESET_CAUSE.CAUSE = 0 := by decide
    exact hcause.trans hreset
  · simp [poweredOn, bareDevice, State.reset, Thm.reset]
  · simp [poweredOn, Boot.reset]

end

/-! ### The release of RESET_N (R575) -/

/-- The cold-boot path due, with RESET_N high. -/
def released (s : State) : State := { s with boot := { s.boot with held := false, cold := true } }

section
variable (s : State) (n : Nat)

theorem resetRelease_eq : resetRelease s n = (recordHold (released s) n).setReg SYS.RESET_CAUSE.CAUSE 1 := rfl

/-- A hold beyond 1 s is recorded. -/
theorem recordHold_long (h : 16000000 < n) : (recordHold s n).flag SYS.RESET_CAUSE.RESET_LONG = true
    ∧ (recordHold s n).reg SYS.RESET_CAUSE.HELD_S = min 65535 (n / 16000000) ∧ (recordHold s n).boot = { s.boot with longDue := true } := by
  have hrec : recordHold s n = { (s.setFlag SYS.RESET_CAUSE.RESET_LONG true).setReg SYS.RESET_CAUSE.HELD_S (min 65535 (n / 16000000)) with
      boot := { s.boot with longDue := true } } := if_pos h
  have hregs := congrArg State.regs hrec
  refine ⟨(flag_of_regs _ hregs).trans ?_, (reg_of_regs _ hregs).trans ?_, by rw [hrec]⟩
  · exact (flag_setReg_ne _ _ _ _ (by decide)).trans (flag_setFlag_self _ _ _ (by decide) (by decide))
  · exact reg_setReg_of_lt _ _ _ (by decide) (by show _ < 65536; omega)

theorem recordHold_short (h : n ≤ 16000000) : recordHold s n = s := if_neg (Nat.not_lt.mpr h)

theorem recordHold_kept : (recordHold s n).mram = s.mram ∧ (recordHold s n).scan = s.scan ∧ (recordHold s n).boot.held = s.boot.held
    ∧ (recordHold s n).boot.cold = s.boot.cold := by
  unfold recordHold
  split
  · exact ⟨rfl, rfl, rfl, rfl⟩
  · exact ⟨rfl, rfl, rfl, rfl⟩

theorem resetRelease_effects : (resetRelease s n).boot.held = false ∧ (resetRelease s n).boot.cold = true
    ∧ (resetRelease s n).reg SYS.RESET_CAUSE.CAUSE = 1
    ∧ (16000000 < n → (resetRelease s n).flag SYS.RESET_CAUSE.RESET_LONG = true
      ∧ (resetRelease s n).reg SYS.RESET_CAUSE.HELD_S = min 65535 (n / 16000000) ∧ (resetRelease s n).boot.longDue = true)
    ∧ (n ≤ 16000000 → (resetRelease s n).reg SYS.RESET_CAUSE.RESET_LONG = s.reg SYS.RESET_CAUSE.RESET_LONG
      ∧ (resetRelease s n).reg SYS.RESET_CAUSE.HELD_S = s.reg SYS.RESET_CAUSE.HELD_S
      ∧ (resetRelease s n).boot.longDue = s.boot.longDue)
    ∧ (resetRelease s n).mram = s.mram ∧ (resetRelease s n).scan = s.scan := by
  obtain ⟨hmram, hscan, hheld, hcold⟩ := recordHold_kept (released s) n
  have hboot : (resetRelease s n).boot = (recordHold (released s) n).boot := rfl
  have hreg {f : Field} (hf : fieldKey SYS.RESET_CAUSE.CAUSE ≠ fieldKey f) :
      (resetRelease s n).reg f = (recordHold (released s) n).reg f := reg_setReg_ne _ _ _ _ hf
  rw [hboot]
  refine ⟨hheld, hcold, cause_self (by decide) _, fun hlong => ?_, fun hshort => ?_, hmram, hscan⟩
  · obtain ⟨hflag, hsec, hdue⟩ := recordHold_long (released s) n hlong
    unfold State.flag
    rw [hreg (by decide), hreg (by decide), hdue]
    exact ⟨hflag, hsec, rfl⟩
  · rw [hreg (by decide), hreg (by decide), recordHold_short _ _ hshort]
    exact ⟨rfl, rfl, rfl⟩

/-! ### A hard trip (R487) -/

/-- The trip noted by the always-on domain. -/
def tripNoted (s : State) (sensor : Nat) : State :=
  { s with thm := { s.thm with trip := true }, boot := { s.boot with tripDue := sensor + 1 } }

theorem hardTrip_eq (sensor : Nat) : hardTrip s sensor
    = ((afterReset (tripNoted s sensor)).bump THM.HT_COUNT.COUNT).setFlag THM.STATUS.HT_LAST true := rfl

theorem afterTrip_leaves (sensor : Nat) : ResetLeaves resetRecords s (afterReset (tripNoted s sensor)) :=
  afterReset_leaves (tripNoted s sensor)

/-- A field of reset value 0 holds nothing once 0 is written to it. -/
theorem wordAt_setReg_zero (t : State) {f : Field} (hreset : f.reset = 0) : wordAt (t.setReg f 0).regs (fieldKey f) = 0 := by
  have hset : wordAt (t.setReg f 0).regs (fieldKey f) = BitVec.ofNat 32 (0 % 2 ^ f.width) ^^^ f.reset := sparseGet_set_self 0 _ _ _
  rw [hset, hreset, Nat.zero_mod]
  rfl

/-- An unwritten word reads as the reset state's. -/
theorem reg_of_word_zero {t : State} {f : Field} (h : wordAt t.regs (fieldKey f) = 0) : t.reg f = State.reset.reg f :=
  reg_eq_of_word (h.trans rfl)

/-- The two records of a trip at 0. -/
def tripForgotten (t : State) : State := (t.setReg THM.HT_COUNT.COUNT 0).setReg THM.STATUS.HT_LAST 0

theorem tripForgotten_reg (t : State) {f : Field} (hcount : fieldKey THM.HT_COUNT.COUNT ≠ fieldKey f)
    (hlast : fieldKey THM.STATUS.HT_LAST ≠ fieldKey f) : (tripForgotten t).reg f = t.reg f :=
  (reg_setReg_ne _ _ _ _ hlast).trans (reg_setReg_ne _ _ _ _ hcount)

theorem hardTrip_reg (sensor : Nat) {f : Field} (hcount : fieldKey THM.HT_COUNT.COUNT ≠ fieldKey f)
    (hlast : fieldKey THM.STATUS.HT_LAST ≠ fieldKey f) : (hardTrip s sensor).reg f = (afterReset (tripNoted s sensor)).reg f :=
  (reg_setFlag_ne _ _ _ _ hlast).trans (reg_bump_ne _ _ _ hcount)

theorem hardTrip_leaves (sensor : Nat) : ResetLeaves (resetRecords.drop 2) s (tripForgotten (hardTrip s sensor)) := by
  have hapart : ∀ f ∈ resetRecords.drop 2, f ∈ resetRecords ∧ fieldKey THM.HT_COUNT.COUNT ≠ fieldKey f
      ∧ fieldKey THM.STATUS.HT_LAST ≠ fieldKey f := by decide
  refine resetLeaves_of (fun f hf => ?_) (fun f hf => ?_) ?_
  · obtain ⟨hrecord, hcount, hlast⟩ := hapart f hf
    rw [tripForgotten_reg _ hcount hlast, hardTrip_reg s sensor hcount hlast]
    exact afterReset_record (tripNoted s sensor) hrecord
  · by_cases hlast : fieldKey THM.STATUS.HT_LAST = fieldKey f
    · exact reg_of_word_zero (hlast ▸ wordAt_setReg_zero _ rfl)
    by_cases hcount : fieldKey THM.HT_COUNT.COUNT = fieldKey f
    · refine reg_of_word_zero ((setReg_word _ _ _ hlast).trans ?_)
      rw [← hcount]
      exact wordAt_setReg_zero _ rfl
    · rw [tripForgotten_reg _ hcount hlast, hardTrip_reg s sensor hcount hlast]
      refine afterReset_lost (tripNoted s sensor) ?_
      have hsplit : resetRecords = [THM.HT_COUNT.COUNT, THM.STATUS.HT_LAST] ++ resetRecords.drop 2 := rfl
      rw [hsplit, List.append_assoc, outside_append, outside_cons, outside_cons]
      exact ⟨⟨hcount, hlast, fun _ h => absurd h List.not_mem_nil⟩, hf⟩
  · have hkept : StoresKept (afterReset (tripNoted s sensor)) (tripForgotten (hardTrip s sensor)) :=
      (((setReg_storesKept _ THM.HT_COUNT.COUNT _).trans (setReg_storesKept _ THM.STATUS.HT_LAST _)).trans
        (setReg_storesKept _ THM.HT_COUNT.COUNT _)).trans (setReg_storesKept _ THM.STATUS.HT_LAST _)
    have hreset := (afterReset_stores (tripNoted s sensor)).passes hkept
    exact ⟨hreset.mram, hreset.flash, hreset.otp, hreset.dram, hreset.mbx, hreset.jorosh, hreset.now, hreset.synced, hreset.errHeld,
      hreset.gates, hreset.pix, hreset.shd⟩

theorem hardTrip_effects (sensor : Nat) : Counted s (hardTrip s sensor) THM.HT_COUNT.COUNT 1
    ∧ (hardTrip s sensor).flag THM.STATUS.HT_LAST = true ∧ (hardTrip s sensor).thm.trip = true
    ∧ (hardTrip s sensor).boot.tripDue = sensor + 1 ∧ ∀ g ∈ (hardTrip s sensor).scan.groups, g.drive = .dark := by
  obtain ⟨hboot, htrip⟩ := afterReset_boot (tripNoted s sensor)
  have hcount : (afterReset (tripNoted s sensor)).reg THM.HT_COUNT.COUNT = s.reg THM.HT_COUNT.COUNT :=
    (afterReset_record (tripNoted s sensor) (by decide)).trans (Nat.mod_eq_of_lt (reg_lt s THM.HT_COUNT.COUNT))
  refine ⟨?_, flag_setFlag_self _ _ _ (by decide) (by decide), htrip, congrArg Boot.tripDue hboot,
    afterReset_tripped (tripNoted s sensor) rfl⟩
  unfold Counted
  rw [← hcount]
  exact (reg_setFlag_ne _ _ _ _ (by decide)).trans (reg_bump_self _ THM.HT_COUNT.COUNT (by decide))

/-! ### The release of a hard trip -/

/-- The cold-boot path due, with the trip over. -/
def tripOver (s : State) : State :=
  { s with thm := { s.thm with trip := false }, boot := { s.boot with cold := true } }.setReg SYS.RESET_CAUSE.CAUSE 4

theorem hardTripRelease_eq : hardTripRelease s = lightRom (tripOver s) := rfl

theorem hardTripRelease_effects : (hardTripRelease s).thm.trip = false ∧ (hardTripRelease s).boot.cold = true
    ∧ (hardTripRelease s).reg SYS.RESET_CAUSE.CAUSE = 4 ∧ (hardTripRelease s).reg THM.HT_COUNT.COUNT = s.reg THM.HT_COUNT.COUNT
    ∧ (s.pins.lowbeam = true → AllOnFallback (hardTripRelease s) ∧ (hardTripRelease s).flag SAFE.FB_CAUSE.LOWBEAM = true)
    ∧ (s.pins.lowbeam = false → (hardTripRelease s).scan = s.scan) := by
  have hreg {f : Field} (hf : Outside lightRomRegs (fieldKey f)) : (hardTripRelease s).reg f = (tripOver s).reg f :=
    reg_eq_of_word (lightRom_word hf (tripOver s))
  rw [hreg (outside_of (by decide)), hreg (outside_of (by decide))]
  refine ⟨by simp [hardTripRelease], by simp [hardTripRelease], cause_self (by decide) _, reg_setReg_ne _ _ _ _ (by decide),
    fun hhigh => ?_, fun hlow => ?_⟩
  · rw [hardTripRelease_eq, lightRom_high (w := tripOver s) hhigh rfl]
    obtain ⟨hall, hflag, -⟩ := romLit_effects (tripOver s)
    exact ⟨hall, hflag⟩
  · rw [hardTripRelease_eq, lightRom_low (w := tripOver s) hlow]
    rfl

end

/-- Settles O59: a reset leaves the records, the non-volatile memories and the light of LOWBEAM_REQ; a hard trip leaves the array dark;
their release makes the cold-boot path due. -/
theorem resetsAndHardTrip : Obligations.ResetsAndHardTrip := by
  refine ⟨fun s => completes_of rfl (powerOn_effects s), fun s hpower hfree => ?_, fun s hhigh => ?_, fun s n hheld => ?_,
    fun s sensor hsensor htrip => ?_, fun s htrip => ?_⟩
  · obtain ⟨hboot, -⟩ := afterReset_boot s
    have htrip : s.thm.trip = false := (Bool.or_eq_false_iff.mp hfree).2
    exact completes_of (congrArg Host.Outcome.next (if_pos ⟨hpower, hfree⟩))
      ⟨supplyFail_leaves s, cause_self (by decide) _, congrArg Boot.cold hboot, caused_light (afterReset_light s htrip) 2⟩
  · obtain ⟨hboot, -⟩ := afterReset_boot { s with boot := { s.boot with held := true } }
    refine completes_of (t := resetAssert s) (congrArg Host.Outcome.next (if_neg (by simp [hhigh])))
      ⟨afterReset_leaves { s with boot := { s.boot with held := true } }, congrArg Boot.held hboot, fun htrip => ?_⟩
    exact afterReset_light { s with boot := { s.boot with held := true } } htrip
  · exact completes_of (congrArg Host.Outcome.next (if_pos hheld)) (resetRelease_effects s n)
  · exact completes_of (congrArg Host.Outcome.next (if_pos ⟨hsensor, htrip⟩)) ⟨hardTrip_leaves s sensor, hardTrip_effects s sensor⟩
  · exact completes_of (congrArg Host.Outcome.next (if_pos htrip)) (hardTripRelease_effects s)

end Sys2Proof.Machine.ResetRelease
end

section
/-! PROOF. BootSources: the steps of a boot raise no fault but their own (19_startup_reset_and_bringup.md R577). -/

namespace Sys2Proof.Machine.BootSources

open BlankPasses (SourceKept sourceKept_of)
open FaultInjection (count_outside count_ne)
open ThermalStops (raiseFault_keeps)

/-- The margins shown, and judged at the highest core voltage (R324). -/
def marginShown (s : State) (margins : List Nat) : State :=
  (s.setReg CAL.VM_STATUS.WORST_MON (worstMargin margins).1).setReg CAL.VM_STATUS.MARGIN_MIN (worstMargin margins).2
def marginJudged (s : State) (margins : List Nat) : State :=
  if (worstMargin margins).2 < 10 ∧ s.vcMax ≤ s.cal.vcPlan then raiseFault (marginShown s margins) 51 2 else marginShown s margins

section
variable {k : Nat}

theorem sourceKept_foldl {α : Type} {g : State → α → State} (hg : ∀ u x, SourceKept k u (g u x)) (l : List α) (s : State) :
    SourceKept k s (l.foldl g s) := by
  induction l generalizing s with
  | nil => exact ⟨rfl, rfl⟩
  | cons x l ih => exact (hg s x).trans (ih _)

theorem setReg_source (s : State) {f : Field} (h : fieldKey f < 0x30100 * 32 ∨ 0x30280 * 32 ≤ fieldKey f) (v : Nat) :
    SourceKept k s (s.setReg f v) := ⟨reg_setReg_ne _ _ _ _ (count_ne h k), rfl⟩

theorem setFlag_source (s : State) {f : Field} (h : fieldKey f < 0x30100 * 32 ∨ 0x30280 * 32 ≤ fieldKey f) (b : Bool) :
    SourceKept k s (s.setFlag f b) := setReg_source s h (b2n b)

/-- A change of none of the registers and none of the faults. -/
theorem source_of_eq {s t : State} (hregs : t.regs = s.regs) (hreal : t.flt.real = s.flt.real) : SourceKept k s t :=
  ⟨reg_of_regs _ hregs, by rw [hreal]⟩

theorem cal_source (u : State) (v : Cal) : SourceKept k u { u with cal := v } := ⟨rfl, rfl⟩

/-! ### Masks and the map (R30, R281, R287 to R290) -/

variable (hk : 52 ≤ k) (hk96 : k < 96) (h60 : k ≠ 60)
include hk hk96

theorem raiseFaultN_source {src : Nat} (hsrc : src < 52) (s : State) (cls n : Nat) : SourceKept k s (raiseFaultN s src cls n) := by
  unfold raiseFaultN
  split
  · exact ⟨rfl, rfl⟩
  · have hbumped : SourceKept k s (s.bumpBy (FLT.COUNT.COUNT src) (n - 1)) :=
      ⟨reg_bumpBy_ne _ _ _ _ (ThermalStops.count_key_ne hk96 (by omega) (by omega)).symm, rfl⟩
    exact hbumped.trans (raiseFault_keeps (by omega) hk96 (by omega) _ cls)

theorem writeTrimRow_source (s : State) (r : Nat) (masks : List Nat) : SourceKept k s (writeTrimRow s r masks) := by
  have hdue : SourceKept k s { s with pix := { s.pix with trimDue := sparseSet [] s.pix.trimDue r (masks.map cellMask) } } := ⟨rfl, rfl⟩
  exact (hdue.trans (setReg_source _ (.inr (by decide)) _)).trans (raiseFaultN_source hk hk96 (by decide) _ 1 _)

theorem addToMap_source (s : State) (c r kind : Nat) (inj : Bool) : SourceKept k s (addToMap s c r kind inj) := by
  unfold addToMap
  split
  · exact ⟨rfl, rfl⟩
  · split
    · refine SourceKept.trans ?_ (raiseFault_keeps (by decide) hk96 (by omega) _ 2)
      exact setReg_source { s with diag := { s.diag with unmapped := (c, r) :: s.diag.unmapped } } (.inr (by decide)) _
    · dsimp only
      split
      · refine SourceKept.trans ?_ (raiseFault_keeps (by decide) hk96 (by omega) _ 2)
        exact SourceKept.trans (source_of_eq rfl rfl) (setFlag_source _ (.inr (by decide)) true)
      · exact ⟨rfl, rfl⟩

theorem isolateAndMap_source (s : State) (c r kind : Nat) (inj : Bool) : SourceKept k s (isolateAndMap s c r kind inj) := by
  have hmask : SourceKept k s (if isolates kind then writeTrim s c r 0 else s) := by
    split
    · exact writeTrimRow_source hk hk96 s r _
    · exact ⟨rfl, rfl⟩
  unfold isolateAndMap
  dsimp only
  refine SourceKept.trans ?_ (addToMap_source hk hk96 _ c r kind inj)
  split
  · exact hmask.trans (SourceKept.trans (source_of_eq rfl rfl) (setFlag_source _ (.inr (by decide)) true))
  · exact hmask

theorem declare_source (s : State) (c r kind : Nat) : SourceKept k s (declare s c r kind none false) := by
  have hmapped := isolateAndMap_source hk hk96 s c r kind false
  have hfault := raiseFault_keeps (src := 43) (by decide) hk96 (by omega)
    ((isolateAndMap s c r kind false).setFlag DIAG.STATUS.NEW_DEAD true) 1
  exact (hmapped.trans (setFlag_source _ (.inr (by decide)) true)).trans (hfault.trans ⟨rfl, rfl⟩)

theorem restoreMasks_source (s : State) : SourceKept k s (restoreMasks s) := by
  unfold restoreMasks
  exact sourceKept_foldl (fun u r => (cal_source u _).trans (writeTrimRow_source hk hk96 _ r _)) (List.range 1024) s

theorem restoreArray_source (s : State) : SourceKept k s (restoreArray s) := by
  have hmap : SourceKept k s (restoreMap s) := source_of_eq rfl rfl
  have hadopted (u : State) : SourceKept k u (queueRead (queueRead (adoptMap u) 0 0x20) 1 0x20) := source_of_eq rfl rfl
  exact hmap.trans ((restoreMasks_source hk hk96 _).trans (hadopted _))

/-! ### Start-up calibration (R304 to R309) -/

theorem calibrateRow_source (vfs : List (Nat × List Nat)) (bad : List Nat) (s : State) (r : Nat) :
    SourceKept k s (calibrateRow vfs bad s r) := by
  unfold calibrateRow
  dsimp only
  refine SourceKept.trans ?_ (sourceKept_foldl (fun u p => ?_) _ _)
  · split
    · exact cal_source s _
    · exact (cal_source s _).trans (writeTrimRow_source hk hk96 _ r _)
  · split
    · exact ⟨rfl, rfl⟩
    · exact declare_source hk hk96 u _ r _

theorem startMeasure_source (s : State) (readings : List UnitReading) (badRows : List Nat) :
    SourceKept k s (startMeasure s readings badRows) := by
  have hstats (u : State) : SourceKept k u (sweepStats u) :=
    sourceKept_of (sweepStats_word (count_outside (by decide) k) u) (by simp)
  have hread : SourceKept k s (readings.foldl takeReading { s with cal := { s.cal with readings := [] } }) :=
    (cal_source s _).trans (sourceKept_foldl (fun u x => cal_source u _) readings _)
  unfold startMeasure
  exact (hread.trans (hstats _)).trans (sourceKept_foldl (calibrateRow_source hk hk96 _ badRows) _ _)

theorem startVerify_source (s : State) (badRows : List Nat) : SourceKept k s (startVerify s badRows) := by
  unfold startVerify
  split
  · exact ⟨rfl, rfl⟩
  · exact (setFlag_source s (.inr (by decide)) true).trans (raiseFaultN_source hk hk96 (by decide) _ 2 _)

theorem startUpCalibration_source (s : State) (readings : List UnitReading) (badRows : List Nat) :
    SourceKept k s (startUpCalibration s readings badRows) := by
  have hgains (u : State) : SourceKept k u (startGains u) := source_of_eq (by simp) (by simp)
  have hreport (u : State) : SourceKept k u (startReport u) :=
    sourceKept_of (startReport_word (count_outside (by decide) k) u) (by simp)
  unfold startUpCalibration
  exact ((startMeasure_source hk hk96 s readings badRows).trans (startVerify_source hk hk96 _ badRows)).trans
    ((hgains _).trans (hreport _))

theorem calibrateOrAbort_source (s : State) (readings : List UnitReading) (badRows : List Nat) :
    SourceKept k s (calibrateOrAbort s readings badRows) := by
  unfold calibrateOrAbort
  split
  · have hrestored := (restoreMasks_source hk hk96 s).trans (setFlag_source (f := CAL.STATUS.STARTUP_ABORT) _ (.inr (by decide)) true)
    dsimp only
    split
    · exact hrestored
    · exact hrestored.trans (cal_source _ _)
  · exact startUpCalibration_source hk hk96 s readings badRows

theorem bootCalibrate_source (s : State) (e : BootEnv) : SourceKept k s (bootCalibrate s e) := by
  unfold bootCalibrate
  split
  · exact calibrateOrAbort_source hk hk96 s _ _
  · exact ⟨rfl, rfl⟩

/-! ### The core voltage and the optics (R324) -/

omit hk hk96 in
/-- Beside the calibration data a reading writes the margins and may raise its fault. -/
theorem delayReading_cases (s : State) (margins : List Nat) : delayReading s margins = marginShown s margins
    ∨ ((delayReading s margins).regs = (marginJudged s margins).regs ∧ (delayReading s margins).flt = (marginJudged s margins).flt) := by
  cases hen : s.flag CAL.CTRL.VM_EN with
  | false => exact .inl (if_neg (by rw [hen]; exact Bool.false_ne_true))
  | true =>
    right
    unfold delayReading
    dsimp only
    rw [if_pos hen]
    repeat' split
    all_goals simp [marginJudged, marginShown, *]

theorem delayReading_source (s : State) (margins : List Nat) : SourceKept k s (delayReading s margins) := by
  have hshown : SourceKept k s (marginShown s margins) :=
    (setReg_source s (.inr (by decide)) _).trans (setReg_source _ (.inr (by decide)) _)
  have hjudged : SourceKept k s (marginJudged s margins) := by
    unfold marginJudged
    split
    · exact hshown.trans (raiseFault_keeps (by decide) hk96 (by omega) _ 2)
    · exact hshown
  rcases delayReading_cases s margins with h | ⟨hregs, hflt⟩
  · rw [h]
    exact hshown
  · exact hjudged.trans (source_of_eq hregs (by rw [hflt]))

theorem startVcore_source (s : State) (margins : List Nat) : SourceKept k s (startVcore s margins) := by
  have hplan (u : State) : SourceKept k u (restorePlan u) := by
    unfold restorePlan
    split <;> exact ⟨rfl, rfl⟩
  have hread : SourceKept k s (delayReading ({ s with cal := { s.cal with vcPlan := min 10 Config.vcorePowerOn } }.setReg
      CAL.VM_STATUS.VC_SET (min 10 Config.vcorePowerOn)) margins) := by
    refine SourceKept.trans ?_ (delayReading_source hk hk96 _ margins)
    exact setReg_source { s with cal := { s.cal with vcPlan := min 10 Config.vcorePowerOn } } (.inr (by decide)) _
  unfold startVcore
  dsimp only
  split
  · exact hread
  · exact hread.trans (hplan _)

omit hk hk96 in
theorem applyLens_source (s : State) (lens : Option (List Byte)) : SourceKept k s (applyLens s lens) := by
  refine sourceKept_of (applyLens_word (count_outside (by decide) k) s lens) ?_
  unfold applyLens
  dsimp only
  repeat' split
  all_goals simp [raiseEvent, raiseEventInj]

theorem bootModel_source (s : State) (e : BootEnv) : SourceKept k s (bootModel s e) :=
  ((setReg_source s (.inr (by decide)) e.ifbNa).trans (applyLens_source _ e.lens)).trans
    ((bootCalibrate_source hk hk96 _ e).trans (startVcore_source hk hk96 _ e.margins))

/-! ### Records, the DRAM and the blocks -/

omit hk in
include h60 in
theorem judgeRecord_source (s : State) (num : Nat) : SourceKept k s (judgeRecord s num) := by
  unfold judgeRecord
  split
  · exact ⟨rfl, rfl⟩
  · refine SourceKept.trans ?_ (raiseFault_keeps (by decide) hk96 (Ne.symm h60) _ 2)
    exact ((setFlag_source s (.inr (by decide)) true).trans (setReg_source _ (.inr (by decide)) num)).trans (source_of_eq rfl rfl)
  · exact raiseFault_keeps (by decide) hk96 (Ne.symm h60) s 1

omit hk in
include h60 in
theorem judgeRecords_source (s : State) : SourceKept k s (judgeRecords s) := by
  have hjudged : SourceKept k s (recNums.foldl judgeRecord s) := sourceKept_foldl (judgeRecord_source hk96 h60) recNums s
  unfold judgeRecords
  dsimp only
  split
  · exact hjudged
  · exact hjudged.trans ((setReg_source _ (.inr (by decide)) _).trans (setFlag_source _ (.inr (by decide)) true))

omit hk hk96 in
theorem applyBoard_source (s : State) : SourceKept k s (applyBoard s) :=
  sourceKept_of (applyBoard_word (count_outside (by decide) k) s) (by simp)

omit hk hk96 in
theorem enableBlock_source (s : State) (n : Nat) : SourceKept k s (enableBlock s n) :=
  sourceKept_of (enableBlock_word (count_outside (by decide +kernel) k) s n) (by simp)

omit hk hk96 in
theorem dramTry_source (s : State) (timing : List Byte) (good : Bool) : SourceKept k s (dramTry s timing good) :=
  sourceKept_of (dramTry_word (count_outside (by decide +kernel) k) s timing good) (by simp)

omit hk hk96 in
theorem restored_source (s : State) : SourceKept k s (restoreDose (restoreCal s)) := by
  refine sourceKept_of ((restoreDose_word (count_outside (by decide) k) _).trans ?_) ?_
  · simp
  · simp

omit hk hk96 in
theorem scanM7_source (s : State) : SourceKept k s (scanM7 s) := by
  have hmode := (setFlag_source (k := k) (f := CLK.GATE.EN 13) s (.inl (by decide)) true).trans
    (setReg_source (f := SCAN.MODE.MODE) _ (.inr (by decide)) 7)
  unfold scanM7
  dsimp only
  split
  · exact hmode
  · exact hmode.trans (sourceKept_of (scanEnable_word (count_outside (by decide +kernel) k) _) (WakeSequences.scanEnable_real _))

omit hk hk96 in
theorem bringUp_source (s : State) : SourceKept k s (bringUp s) := by
  have hblocks : SourceKept k s ([4, 9, 10, 16, 17, 18, 19, 20].foldl enableBlock s) := sourceKept_foldl enableBlock_source _ s
  unfold bringUp
  dsimp only
  split
  · exact hblocks.trans (enableBlock_source _ 8)
  · split
    · exact hblocks.trans (scanM7_source _)
    · exact hblocks

/-! ### The seal, the clocks and the slots -/

theorem breakSeal_source (s : State) (reason : Nat) : SourceKept k s (breakSeal s reason) := by
  have hlimits : SourceKept k s (applyLimits s (limitsOf s true)) :=
    sourceKept_of (applyLimits_word (count_outside (by decide) k) s _) (by simp)
  exact (hlimits.trans (source_of_eq rfl rfl)).trans (raiseFault_keeps (src := 11) (by decide) hk96 (by omega)
    (raiseEvent (applyLimits s (limitsOf s true)) 0x0601 (toLe 1 reason ++ toLe 1 (slotShown s))) 2)

theorem sealAtReset_source (s : State) (pads : List Strap) : SourceKept k s (sealAtReset s pads) := by
  have hread : SourceKept k s { s with guard := { s.guard with straps := pads, strapsNow := pads, breakDue := false } } := ⟨rfl, rfl⟩
  have hshown := hread.trans ((setReg_source _ (f := SAFE.SEAL.STRAP) (.inr (by decide)) (strapWord pads)).trans
    (setReg_source _ (f := SAFE.EFFECTIVE.RING_ROLE) (.inr (by decide)) (strapLevel (pads.getD 5 .invalid))))
  unfold sealAtReset
  dsimp only
  split
  · exact hshown.trans (breakSeal_source hk hk96 _ 0)
  · exact hshown.trans (sourceKept_of (applyLimits_word (count_outside (by decide) k) _ _) (by simp))

omit hk hk96 in
theorem bootClocks_source (s : State) (pad : Strap) (good : Bool) : SourceKept k s (bootClocks (oscLevel s pad) good) :=
  (sourceKept_of (oscLevel_word (count_outside (by decide) k) s pad) (by simp)).trans
    (sourceKept_of (bootClocks_word (count_outside (by decide) k) _ good) (by simp))

end

end Sys2Proof.Machine.BootSources
end

section
/-! PROOF. BootSlots: the seal, the clocks and the slot that the boot ROM starts, or its halt (19_startup_reset_and_bringup.md R577,
R580, R582, R583, R588). -/

namespace Sys2Proof.Machine.BootSlots

open BlankPasses (SourceKept)
open BootReports (bootHalt_effects startJorosh_shown trySlot_pass trySlot_fail)
open BootSources (setReg_source setFlag_source)
open FrameTiming (flag_eq_of_word)

/-! ### Up to the boot ROM (R577) -/

/-- The seal read, and the clocks up. -/
def clocked (s : State) (e : BootEnv) : State := bootClocks (oscLevel (sealAtReset s e.straps) e.oscdly) e.refclkGood

/-- The fields that those steps write. -/
def clockedRegs : List Field := sealAtResetRegs ++ oscLevelRegs ++ bootClocksRegs

section
variable (s : State) (e : BootEnv)

theorem coldBoot_eq : coldBoot s e = if (bootRom (clocked s e) e).boot.jorosh then joroshBoot (bootRom (clocked s e) e) e
    else bootRom (clocked s e) e := rfl

theorem clocked_word {key : Nat} (h : Outside clockedRegs key) : wordAt (clocked s e).regs key = wordAt s.regs key := by
  simp only [clockedRegs, outside_append] at h
  obtain ⟨⟨hseal, hosc⟩, hclocks⟩ := h
  unfold clocked
  rw [bootClocks_word hclocks, oscLevel_word hosc, sealAtReset_word hseal]

theorem clocked_keep : (clocked s e).flash = s.flash ∧ (clocked s e).mram = s.mram ∧ (clocked s e).mbx = s.mbx
    ∧ (clocked s e).boot = s.boot := by
  unfold clocked
  simp

theorem clocked_source {k : Nat} (hk : 52 ≤ k) (hk96 : k < 96) : SourceKept k s (clocked s e) :=
  (BootSources.sealAtReset_source hk hk96 s e.straps).trans (BootSources.bootClocks_source _ e.oscdly e.refclkGood)

theorem clocked_lock : (clocked s e).flag CLK.STATUS.PLL_LOCK = true := WakeSequences.bootClocks_lock _ _

omit e in
theorem raiseFault_fbActive {cls : Nat} (h : cls ≠ 3) (src : Nat) : fbActive (raiseFault s src cls) = fbActive s := by
  have hhigh : ∀ c ∈ fbCauses, 0x30280 * 32 ≤ fieldKey c := by decide
  refine ClockMonitors.fbActive_congr fun c hc => ?_
  unfold State.flag
  rw [DramControl.raiseFault_reg h s (.inr (hhigh c hc))]

/-- The fields of the seal and of the clocks; its fault is below FATAL. -/
def shownRegs : List Field := applyLimitsRegs ++ [SAFE.EFFECTIVE.RING_ROLE, SAFE.SEAL.STRAP] ++ oscLevelRegs ++ bootClocksRegs

theorem shown_causes : ∀ c ∈ fbCauses, Outside shownRegs (fieldKey c) := by
  have h : fbCauses.all (fun c => shownRegs.all (fun f => fieldKey f != fieldKey c)) = true := by decide
  exact fun c hc => outside_of (List.all_eq_true.mp h c hc)

theorem applyLimits_fbActive (l : Limits) : fbActive (applyLimits s l) = fbActive s :=
  ClockMonitors.fbActive_congr fun c hc => flag_eq_of_word (applyLimits_word (fun f hf => shown_causes c hc f (by
    unfold shownRegs
    simp only [List.mem_append]
    exact .inl (.inl (.inl hf)))) s l)

theorem raiseEvent_fbActive (code : Nat) (args : List Byte) : fbActive (raiseEvent s code args) = fbActive s :=
  FallbackCauses.fbActive_of_regs rfl

theorem breakSeal_fbActive (reason : Nat) : fbActive (breakSeal s reason) = fbActive s := by
  unfold breakSeal
  rw [raiseFault_fbActive _ (by decide), raiseEvent_fbActive, applyLimits_fbActive]

theorem sealAtReset_fbActive (pads : List Strap) : fbActive (sealAtReset s pads) = fbActive s := by
  have hset (u : State) (f : Field) (v : Nat) (hf : f ∈ shownRegs) : fbActive (u.setReg f v) = fbActive u :=
    ClockMonitors.fbActive_congr fun c hc => flag_setReg_ne _ _ _ _ (shown_causes c hc f hf)
  have hread : fbActive ((({ s with guard := { s.guard with straps := pads, strapsNow := pads, breakDue := false } } : State).setReg
      SAFE.SEAL.STRAP (strapWord pads)).setReg SAFE.EFFECTIVE.RING_ROLE (strapLevel (pads.getD 5 .invalid))) = fbActive s := by
    rw [hset _ _ _ (by decide), hset _ _ _ (by decide)]
    exact FallbackCauses.fbActive_of_regs rfl
  unfold sealAtReset
  dsimp only
  split
  · exact (breakSeal_fbActive _ 0).trans hread
  · exact (applyLimits_fbActive _ _).trans hread

theorem clocked_fbActive : fbActive (clocked s e) = fbActive s := by
  refine Eq.trans (ClockMonitors.fbActive_congr fun c hc => ?_) (sealAtReset_fbActive s e.straps)
  have hc := shown_causes c hc
  simp only [shownRegs, outside_append] at hc
  obtain ⟨⟨-, hosc⟩, hclocks⟩ := hc
  exact (flag_eq_of_word (bootClocks_word hclocks _ e.refclkGood)).trans (flag_eq_of_word (oscLevel_word hosc _ e.oscdly))

end

/-- The directory and the preferred slot are those of the flash. -/
theorem directory_congr {s t : State} (h : t.flash = s.flash) : directory t = directory s ∧ ∀ a, prefersB t a = prefersB s a := by
  unfold directory dirOk prefersB State.flashBytes State.flashByte
  rw [h]
  exact ⟨rfl, fun _ => rfl⟩

/-! ### The slots tried (R582, R588) -/

/-- The verdict of slot `b` at the first and at the second speed. -/
def firstVerdict (e : BootEnv) (b : Bool) : SlotVerdict := if b then e.slotB else e.slotA
def secondVerdict (e : BootEnv) (b : Bool) : SlotVerdict := if b then e.slotB2 else e.slotA2

/-- The fields that trying slots writes. -/
def trialFields : List Field := [SYS.BOOT.A_FAIL, SYS.BOOT.B_FAIL, SYS.BOOT.REASON, SYS.BOOT.FLASH_MODE]

/-- From `s` to `u` slots were tried and nothing else was done. -/
structure Tried (s u : State) : Prop where
  rest : u = { s with regs := u.regs }
  reg : ∀ f : Field, Outside trialFields (fieldKey f) → u.reg f = s.reg f

theorem Tried.refl (s : State) : Tried s s := ⟨rfl, fun _ _ => rfl⟩

theorem Tried.trans {s t u : State} (h : Tried s t) (k : Tried t u) : Tried s u := by
  refine ⟨?_, fun f hf => (k.reg f hf).trans (h.reg f hf)⟩
  rw [k.rest, h.rest]

/-- A slot's failure noted. -/
def slotFailed (s : State) (b : Bool) (r : Fin 6) : State := (s.setFlag (slotFail b) true).setReg SYS.BOOT.REASON r.val

section
variable (s : State) (pref : Bool)

theorem slotFail_mem : slotFail pref ∈ trialFields := by cases pref <;> decide

theorem slotFailed_tried (r : Fin 6) : Tried s (slotFailed s pref r) :=
  ⟨rfl, fun _ hf => (reg_setReg_ne _ _ _ _ (hf _ (by decide))).trans (reg_setFlag_ne _ _ _ _ (hf _ (slotFail_mem pref)))⟩

theorem setMode_tried (v : Nat) : Tried s (s.setReg SYS.BOOT.FLASH_MODE v) :=
  ⟨rfl, fun _ hf => reg_setReg_ne _ _ _ _ (hf _ (by decide))⟩

theorem slotFailed_flags (r : Fin 6) : (slotFailed s pref r).flag (slotFail pref) = true
    ∧ (s.flag (slotFail (!pref)) = true → (slotFailed s pref r).flag (slotFail (!pref)) = true)
    ∧ (slotFailed s pref r).reg SYS.BOOT.FLASH_MODE = s.reg SYS.BOOT.FLASH_MODE := by
  have hreason (b : Bool) : fieldKey SYS.BOOT.REASON ≠ fieldKey (slotFail b) := by cases b <;> decide
  have hother : fieldKey (slotFail pref) ≠ fieldKey (slotFail (!pref)) := by cases pref <;> decide
  have hmode : fieldKey (slotFail pref) ≠ fieldKey SYS.BOOT.FLASH_MODE := by cases pref <;> decide
  have hwidth : (slotFail pref).width ≤ 32 ∧ 0 < (slotFail pref).width := by cases pref <;> decide
  refine ⟨?_, fun h => ?_, ?_⟩
  · exact (flag_setReg_ne _ _ _ _ (hreason pref)).trans (flag_setFlag_self _ _ _ hwidth.1 hwidth.2)
  · exact ((flag_setReg_ne _ _ _ _ (hreason _)).trans (flag_setFlag_ne _ _ _ _ hother)).trans h
  · exact (reg_setReg_ne _ _ _ _ (by decide)).trans (reg_setFlag_ne _ _ _ _ hmode)

variable (v : Bool → SlotVerdict)

/-- Both slots tried, the preferred one first. -/
def bothTried : State × Option (Bool × Nat) := trySlots s pref (v false) (v true)

theorem bothTried_eq : bothTried s pref v = match (trySlot s pref (v pref)).2 with
    | some x => ((trySlot s pref (v pref)).1, some x)
    | none => trySlot (trySlot s pref (v pref)).1 (!pref) (v (!pref)) := by
  cases pref <;> rfl

variable {s pref v}

theorem bothTried_first {ver : Word} (h : v pref = .pass ver) : bothTried s pref v = (s, some (pref, ver.toNat)) := by
  rw [bothTried_eq, h, trySlot_pass]

theorem bothTried_second {r : Fin 6} {ver : Word} (h : v pref = .fail r) (h' : v (!pref) = .pass ver) :
    bothTried s pref v = (slotFailed s pref r, some (!pref, ver.toNat)) := by
  rw [bothTried_eq, h, trySlot_fail, h']
  rfl

theorem bothTried_none {r r' : Fin 6} (h : v pref = .fail r) (h' : v (!pref) = .fail r') :
    bothTried s pref v = (slotFailed (slotFailed s pref r) (!pref) r', none) := by
  rw [bothTried_eq, h, trySlot_fail, h']
  rfl

end

/-! ### The boot ROM's choice (R580 to R583) -/

/-- The directory shown, and the flash mode set. -/
def dirShown (s : State) (a : Nat) (e : BootEnv) : State :=
  (s.setFlag SYS.BOOT.DIR_COPY (a != 0)).setReg SYS.BOOT.FLASH_MODE e.flashMode.val

section
variable {s : State} {e : BootEnv} {a : Nat} (hdir : directory s = some a)

theorem bootRom_none (h : directory s = none) : bootRom s e = bootHalt (s.setFlag SYS.BOOT.DIR_COPY true) := by
  unfold bootRom
  rw [h]

include hdir

theorem bootRom_some : bootRom s e
    = match (bothTried (dirShown s a e) (prefersB s a) (firstVerdict e)).2 with
      | some x => startJorosh (bothTried (dirShown s a e) (prefersB s a) (firstVerdict e)).1 (prefersB s a) x
      | none => match (bothTried ((bothTried (dirShown s a e) (prefersB s a) (firstVerdict e)).1.setReg SYS.BOOT.FLASH_MODE 0)
            (prefersB s a) (secondVerdict e)).2 with
        | some x => startJorosh (bothTried ((bothTried (dirShown s a e) (prefersB s a) (firstVerdict e)).1.setReg SYS.BOOT.FLASH_MODE 0)
            (prefersB s a) (secondVerdict e)).1 (prefersB s a) x
        | none => bootHalt (bothTried ((bothTried (dirShown s a e) (prefersB s a) (firstVerdict e)).1.setReg SYS.BOOT.FLASH_MODE 0)
            (prefersB s a) (secondVerdict e)).1 := by
  unfold bootRom
  rw [hdir]
  rfl

/-- The slot that SlotChosen names is started, once the others were tried. -/
theorem bootRom_chosen {slot : Bool} {ver : Word} (h : SlotChosen (prefersB s a) e slot ver) :
    ∃ u, Tried (s.setFlag SYS.BOOT.DIR_COPY (a != 0)) u ∧ bootRom s e = startJorosh u (prefersB s a) (slot, ver.toNat) := by
  have hshown : Tried (s.setFlag SYS.BOOT.DIR_COPY (a != 0)) (dirShown s a e) := setMode_tried _ _
  have hother (hne : slot ≠ prefersB s a) : slot = !prefersB s a := Bool.eq_not_of_ne hne
  rw [bootRom_some hdir]
  rcases h with ⟨rfl, hpass⟩ | ⟨hne, ⟨r, hfail⟩, hpass⟩ | ⟨rfl, ⟨r, hfail⟩, ⟨r', hfail'⟩, hpass⟩
    | ⟨hne, ⟨r, hfail⟩, ⟨r', hfail'⟩, ⟨r'', hfail''⟩, hpass⟩
  · rw [bothTried_first (v := firstVerdict e) hpass]
    exact ⟨_, hshown, rfl⟩
  · rw [bothTried_second (v := firstVerdict e) hfail hpass, hother hne]
    exact ⟨_, hshown.trans (slotFailed_tried _ _ r), rfl⟩
  · rw [bothTried_none (v := firstVerdict e) hfail hfail', bothTried_first (v := secondVerdict e) hpass]
    exact ⟨_, ((hshown.trans (slotFailed_tried _ _ r)).trans (slotFailed_tried _ _ r')).trans (setMode_tried _ 0), rfl⟩
  · rw [bothTried_none (v := firstVerdict e) hfail hfail', bothTried_second (v := secondVerdict e) hfail'' hpass, hother hne]
    exact ⟨_, (((hshown.trans (slotFailed_tried _ _ r)).trans (slotFailed_tried _ _ r')).trans (setMode_tried _ 0)).trans
      (slotFailed_tried _ _ r''), rfl⟩

/-- With both slots failing at both speeds the boot halts. -/
theorem bootRom_failed {r1 r2 r3 r4 : Fin 6} (hA : e.slotA = .fail r1) (hB : e.slotB = .fail r2) (hA2 : e.slotA2 = .fail r3)
    (hB2 : e.slotB2 = .fail r4) : ∃ u, Tried (s.setFlag SYS.BOOT.DIR_COPY (a != 0)) u ∧ bootRom s e = bootHalt u
      ∧ u.flag SYS.BOOT.A_FAIL = true ∧ u.flag SYS.BOOT.B_FAIL = true ∧ u.reg SYS.BOOT.FLASH_MODE = 0 := by
  have hfirst (b : Bool) : ∃ r, firstVerdict e b = .fail r := by cases b <;> exact ⟨_, by assumption⟩
  have hsecond (b : Bool) : ∃ r, secondVerdict e b = .fail r := by cases b <;> exact ⟨_, by assumption⟩
  have hshown : Tried (s.setFlag SYS.BOOT.DIR_COPY (a != 0)) (dirShown s a e) := setMode_tried _ _
  obtain ⟨r, hr⟩ := hfirst (prefersB s a)
  obtain ⟨r', hr'⟩ := hfirst (!prefersB s a)
  obtain ⟨q, hq⟩ := hsecond (prefersB s a)
  obtain ⟨q', hq'⟩ := hsecond (!prefersB s a)
  rw [bootRom_some hdir, bothTried_none hr hr', bothTried_none hq hq']
  obtain ⟨hpref, -, hmode⟩ := slotFailed_flags ((slotFailed (slotFailed (dirShown s a e) (prefersB s a) r) (!prefersB s a) r').setReg
    SYS.BOOT.FLASH_MODE 0) (prefersB s a) q
  obtain ⟨hother, hkept, hmode'⟩ := slotFailed_flags (slotFailed ((slotFailed (slotFailed (dirShown s a e) (prefersB s a) r)
    (!prefersB s a) r').setReg SYS.BOOT.FLASH_MODE 0) (prefersB s a) q) (!prefersB s a) q'
  rw [Bool.not_not] at hkept
  have hboth := hkept hpref
  refine ⟨_, (((hshown.trans (slotFailed_tried _ _ r)).trans (slotFailed_tried _ _ r')).trans (setMode_tried _ 0)).trans
    ((slotFailed_tried _ _ q).trans (slotFailed_tried _ _ q')), rfl, ?_, ?_, ?_⟩
  · cases hp : prefersB s a with
    | false => rw [hp] at hboth; exact hboth
    | true => rw [hp] at hother; exact hother
  · cases hp : prefersB s a with
    | false => rw [hp] at hother; exact hother
    | true => rw [hp] at hboth; exact hboth
  · exact (hmode'.trans hmode).trans (reg_setReg_self _ _ _ (by decide))

end

end Sys2Proof.Machine.BootSlots
end

section
/-! PROOF. BootBlocks: the halt of a boot, the DRAM check, the blocks that a boot enables and what it reports (16_memory.md R496,
R499, R500; 19_startup_reset_and_bringup.md R575, R582, R583, R586). -/

namespace Sys2Proof.Machine.BootBlocks

open BlankPasses (SourceKept faulted_before faulted_after)
open BootReports (EventsKept eventsKept_of_eq)
open BootSlots
open BootSources
open FrameTiming (flag_eq_of_word reg_setReg_of_lt)

/-! ### The halt (R583) -/

section
variable {s u : State} {e : BootEnv}

/-- A boot that halts in the boot ROM ends there. -/
theorem coldBoot_of_halt (h : bootRom (clocked s e) e = bootHalt u) : coldBoot s e = bootHalt u := by
  rw [coldBoot_eq, h, (BootReports.bootHalt_effects u).2.2.1]
  rfl

theorem bootHalt_drive (h : fbActive u = false) : AllOnFallback (bootHalt u) := by
  have hscan : (bootHalt u).scan = (raiseCauseInj u SAFE.FB_CAUSE.FATAL false).scan := by simp [bootHalt, assertErr, raiseCause]
  unfold AllOnFallback
  rw [hscan]
  exact FaultDetection.raiseCauseInj_drive (by decide) h false

theorem tried_fbActive {s u : State} {b : Bool} (h : Tried (s.setFlag SYS.BOOT.DIR_COPY b) u) : fbActive u = fbActive s := by
  have hcauses : fbCauses.all (fun c => (SYS.BOOT.DIR_COPY :: trialFields).all (fun f => fieldKey f != fieldKey c)) = true := by
    decide
  refine ClockMonitors.fbActive_congr fun c hc => ?_
  obtain ⟨hdir, htrial⟩ := (outside_cons _ _ _).mp (outside_of (List.all_eq_true.mp hcauses c hc))
  unfold State.flag
  rw [h.reg c htrial, reg_setFlag_ne _ _ _ _ hdir]

/-- What every halt has done. -/
theorem halted_effects {b : Bool} (htried : Tried ((clocked s e).setFlag SYS.BOOT.DIR_COPY b) u) :
    (bootHalt u).flag SYS.BOOT.BOOT_HALT = true ∧ (bootHalt u).flag SAFE.FB_CAUSE.FATAL = true ∧ errHeld (bootHalt u) = true
    ∧ (bootHalt u).boot.jorosh = false ∧ (bootHalt u).mbx = s.mbx ∧ (bootHalt u).mram = s.mram
    ∧ (fbActive s = false → AllOnFallback (bootHalt u)) := by
  obtain ⟨hhalt, hfatal, hjorosh, herr⟩ := BootReports.bootHalt_effects u
  obtain ⟨-, hmram, hmbx, -⟩ := clocked_keep s e
  have hrest := htried.rest
  refine ⟨hhalt, hfatal, herr, hjorosh, ?_, ?_, fun hnone => bootHalt_drive ?_⟩
  · have hu : u.mbx = (clocked s e).mbx := by rw [hrest]; rfl
    simp [hu, hmbx]
  · have hu : u.mram = (clocked s e).mram := by rw [hrest]; rfl
    simp [hu, hmram]
  · rw [tried_fbActive htried, clocked_fbActive, hnone]

theorem coldBoot_halts (h : directory s = none ∨ (∃ r1 r2 r3 r4, e.slotA = .fail r1 ∧ e.slotB = .fail r2 ∧ e.slotA2 = .fail r3
      ∧ e.slotB2 = .fail r4)) :
    (coldBoot s e).flag SYS.BOOT.BOOT_HALT = true ∧ (coldBoot s e).flag SAFE.FB_CAUSE.FATAL = true ∧ errHeld (coldBoot s e) = true
    ∧ (coldBoot s e).boot.jorosh = false ∧ (coldBoot s e).mbx = s.mbx ∧ (coldBoot s e).mram = s.mram
    ∧ (fbActive s = false → AllOnFallback (coldBoot s e))
    ∧ (directory s ≠ none → (coldBoot s e).flag SYS.BOOT.A_FAIL = true ∧ (coldBoot s e).flag SYS.BOOT.B_FAIL = true
      ∧ (coldBoot s e).reg SYS.BOOT.FLASH_MODE = 0) := by
  have hdir : directory (clocked s e) = directory s := (directory_congr (clocked_keep s e).1).1
  cases hd : directory s with
  | none =>
    rw [coldBoot_of_halt (bootRom_none (hdir.trans hd))]
    obtain ⟨h1, h2, h3, h4, h5, h6, h7⟩ := halted_effects (s := s) (e := e) (b := true) (Tried.refl _)
    exact ⟨h1, h2, h3, h4, h5, h6, h7, fun hne => absurd rfl hne⟩
  | some a =>
    rw [hd] at h
    obtain ⟨r1, r2, r3, r4, hA, hB, hA2, hB2⟩ := h.resolve_left (by simp)
    obtain ⟨u, htried, hhalt, hafail, hbfail, hmode⟩ := bootRom_failed (hdir.trans hd) hA hB hA2 hB2
    have hflag {f : Field} (hf : Outside bootHaltRegs (fieldKey f)) : (bootHalt u).flag f = u.flag f :=
      flag_eq_of_word (bootHalt_word hf u)
    rw [coldBoot_of_halt hhalt]
    obtain ⟨h1, h2, h3, h4, h5, h6, h7⟩ := halted_effects htried
    exact ⟨h1, h2, h3, h4, h5, h6, h7, fun _ => ⟨(hflag (outside_of (by decide))).trans hafail,
      (hflag (outside_of (by decide))).trans hbfail, (reg_eq_of_word (bootHalt_word (outside_of (by decide)) u)).trans hmode⟩⟩

end

/-! ### The DRAM (R496, R499, R500) -/

theorem foldl_reg {α : Type} {g : State → α → State} {f : Field} (l : List α) (hg : ∀ x ∈ l, ∀ u, (g u x).reg f = u.reg f) (s : State) :
    (l.foldl g s).reg f = s.reg f := by
  induction l generalizing s with
  | nil => rfl
  | cons x l ih => exact (ih (fun y hy => hg y (List.mem_cons_of_mem x hy)) _).trans (hg x List.mem_cons_self s)

/-- The timing words hold the RWD fields alone. -/
theorem applyTiming_reg {f : Field} (h : ∀ fs ∈ ddrWords, ∀ g ∈ fs, g.access = .rwd → fieldKey g ≠ fieldKey f) (s : State) (b : List Byte) :
    (applyTiming s b).reg f = s.reg f := by
  unfold applyTiming
  refine foldl_reg _ (fun x hx u => foldl_reg _ (fun g hg w => reg_setReg_ne _ _ _ _ ?_) u) s
  obtain ⟨hmem, haccess⟩ := List.mem_filter.mp hg
  obtain ⟨i, hi, rfl⟩ := List.mem_mapIdx.mp (List.mem_filter.mp hx).1
  exact h _ (List.getElem_mem hi) g hmem (by simpa using haccess)

theorem ready_untimed : ∀ fs ∈ ddrWords, ∀ g ∈ fs, g.access = .rwd → fieldKey g ≠ fieldKey DDRC.STATUS.READY := by decide +kernel


section
variable (u : State) (timing : List Byte) (good : Bool)

/-- The controller's enable asked for with the timing loaded. -/
def timed : State := ddrcEnable (applyTiming (u.setFlag (CLK.GATE.EN 8) true) timing)

theorem dramTry_eq : dramTry u timing good = if (timed u timing).flag DDRC.CTRL.EN then
    (if good then (timed u timing).setFlag DDRC.STATUS.READY true else (timed u timing).setFlag DDRC.CTRL.EN false)
    else timed u timing := rfl

theorem timed_flag {f : Field} (h : Outside (ddrcEnableRegs ++ applyTimingRegs) (fieldKey f)) :
    (timed u timing).flag f = (u.setFlag (CLK.GATE.EN 8) true).flag f := by
  obtain ⟨henable, htiming⟩ := (outside_append _ _ _).mp h
  exact (flag_eq_of_word (ddrcEnable_word henable _)).trans (flag_eq_of_word (applyTiming_word htiming _ timing))

theorem dramTry_gate : (dramTry u timing good).flag (CLK.GATE.EN 8) = true := by
  have htimed : (timed u timing).flag (CLK.GATE.EN 8) = true :=
    (timed_flag u timing (outside_of (by decide +kernel))).trans (flag_setFlag_self _ _ _ (by decide) (by decide))
  rw [dramTry_eq]
  split
  · split
    · exact (flag_setFlag_ne _ _ _ _ (by decide)).trans htimed
    · exact (flag_setFlag_ne _ _ _ _ (by decide)).trans htimed
  · exact htimed

/-- The DRAM is READY only where its pattern check is good. -/
theorem dramTry_ready (h : u.flag DDRC.STATUS.READY = false) (hready : (dramTry u timing good).flag DDRC.STATUS.READY = true) :
    good = true := by
  have htimed : (timed u timing).flag DDRC.STATUS.READY = false := by
    refine (flag_eq_of_word (ddrcEnable_word (outside_of (by decide)) _)).trans ?_
    unfold State.flag at h ⊢
    rw [applyTiming_reg ready_untimed, reg_setFlag_ne _ _ _ _ (by decide)]
    exact h
  cases good with
  | true => rfl
  | false =>
    rw [dramTry_eq] at hready
    have hno : (dramTry u timing false).flag DDRC.STATUS.READY = false := by
      rw [dramTry_eq]
      split
      · exact (flag_setFlag_ne _ _ _ _ (by decide)).trans htimed
      · exact htimed
    exact absurd (hno.symm.trans hready) Bool.false_ne_true

end

section
variable (u : State) (e : BootEnv)

/-- The first check with the board's record, and the second with the factory default. -/
def dramFirst : State := dramTry (u.setFlag DDRC.STATUS.READY false) (payloadOf u 2).2 e.dramGood
def dramChecked : State :=
  if (dramFirst u e).flag DDRC.STATUS.READY then dramFirst u e else dramTry (dramFirst u e) (recDefault 2) e.dramGoodDefault

theorem dramStart_eq : dramStart u e = if (dramChecked u e).flag DDRC.STATUS.READY then dramChecked u e
    else raiseFault ((dramChecked u e).setFlag DDRC.STATUS.DRAM_FAIL true) 56 2 := rfl

theorem dramChecked_gate : (dramChecked u e).flag (CLK.GATE.EN 8) = true := by
  unfold dramChecked
  split
  · exact dramTry_gate _ _ _
  · exact dramTry_gate _ _ _

theorem dramChecked_ready (h : (dramChecked u e).flag DDRC.STATUS.READY = true) : e.dramGood = true ∨ e.dramGoodDefault = true := by
  have hclear : (u.setFlag DDRC.STATUS.READY false).flag DDRC.STATUS.READY = false := flag_setFlag_self _ _ _ (by decide) (by decide)
  cases hfirst : (dramFirst u e).flag DDRC.STATUS.READY with
  | true => exact .inl (dramTry_ready _ _ _ hclear hfirst)
  | false =>
    unfold dramChecked at h
    rw [hfirst] at h
    exact .inr (dramTry_ready _ _ _ hfirst h)

theorem dramChecked_source (k : Nat) : SourceKept k u (dramChecked u e) := by
  have hfirst : SourceKept k u (dramFirst u e) :=
    (setFlag_source u (.inr (by decide)) false).trans (dramTry_source _ _ _)
  unfold dramChecked
  split
  · exact hfirst
  · exact hfirst.trans (dramTry_source _ _ _)

theorem dramStart_flag {f : Field} (hcount : 0x30280 * 32 ≤ fieldKey f ∨ fieldKey f < 0x30100 * 32)
    (hfail : fieldKey DDRC.STATUS.DRAM_FAIL ≠ fieldKey f) : (dramStart u e).flag f = (dramChecked u e).flag f := by
  rw [dramStart_eq]
  split
  · rfl
  · unfold State.flag
    rw [DramControl.raiseFault_reg (by decide) _ hcount.symm, reg_setFlag_ne _ _ _ _ hfail]

theorem dramStart_gate : (dramStart u e).flag (CLK.GATE.EN 8) = true :=
  (dramStart_flag u e (.inr (by decide)) (by decide)).trans (dramChecked_gate u e)

theorem dramStart_ready (h : (dramStart u e).flag DDRC.STATUS.READY = true) : e.dramGood = true ∨ e.dramGoodDefault = true := by
  rw [dramStart_flag u e (.inl (by decide)) (by decide)] at h
  exact dramChecked_ready u e h

/-- A DRAM that fails both checks is source 56. -/
theorem dramStart_failed (h : (dramStart u e).flag DDRC.STATUS.READY = false) :
    (dramStart u e).flag DDRC.STATUS.DRAM_FAIL = true ∧ Faulted u (dramStart u e) 56 2 := by
  rw [dramStart_flag u e (.inl (by decide)) (by decide)] at h
  rw [dramStart_eq, h, if_neg Bool.false_ne_true]
  refine ⟨?_, faulted_before ((dramChecked_source u e 56).trans (setFlag_source _ (.inr (by decide)) true)) (raiseFault_faulted _ 56 2)⟩
  unfold State.flag
  rw [DramControl.raiseFault_reg (by decide) _ (.inr (by decide))]
  exact flag_setFlag_self _ _ _ (by decide) (by decide)

theorem dramStart_source {k : Nat} (hk : k < 96) (h : k ≠ 56) : SourceKept k u (dramStart u e) := by
  rw [dramStart_eq]
  split
  · exact dramChecked_source u e k
  · exact ((dramChecked_source u e k).trans (setFlag_source _ (.inr (by decide)) true)).trans
      (ThermalStops.raiseFault_keeps (by decide) hk (Ne.symm h) _ 2)

end

/-! ### The blocks enabled (R586) -/

/-- The EN bits of the blocks. -/
def blockEns : List Field := [THM.CTRL.EN, CRC.CTRL.EN, DDRC.CTRL.EN, CAN.CTRL.EN, AUX.CTRL.EN, SCAN.CTRL.EN, GAL.CTRL.EN, SHD.CTRL.EN,
  BE.CTRL.EN, DIAG.CTRL.EN, CAL.CTRL.EN, TX.CTRL.EN 0, TX.CTRL.EN 1]

theorem blockEn_mem {n : Nat} {f : Field} (h : blockEn n = some f) : f ∈ blockEns := by
  unfold blockEn at h
  split at h <;> cases h <;> decide

/-- What enabling a block writes beside its gate. -/
def blockWrites : List Field := portEnableRegs ++ blockEns ++ [MRAM.CTRL.EN]

section
variable (u : State) (n : Nat)

theorem enableBlock_reg {f : Field} (h : Outside blockWrites (fieldKey f)) :
    (enableBlock u n).reg f = (u.setFlag (CLK.GATE.EN n) true).reg f := by
  simp only [blockWrites, outside_append] at h
  obtain ⟨⟨hport, hens⟩, hmram⟩ := h
  unfold enableBlock
  dsimp only
  split
  · exact reg_eq_of_word (portEnable_word hport _ 0)
  · exact reg_eq_of_word (portEnable_word hport _ 1)
  · exact reg_setFlag_ne _ _ _ _ (hmram _ List.mem_cons_self)
  · split
    · next g hg => exact reg_setFlag_ne _ _ _ _ (hens g (blockEn_mem hg))
    · rfl

theorem gates_apart (k : Nat) : Outside blockWrites (fieldKey (CLK.GATE.EN k)) := by
  have hhigh : blockWrites.all (fun f => decide (fieldKey (CLK.GATE.EN 20) < fieldKey f)) = true := by decide
  have hkey : fieldKey (CLK.GATE.EN k) = 0x10008 * 32 + k % 21 := rfl
  have hlast : fieldKey (CLK.GATE.EN 20) = 0x10008 * 32 + 20 := rfl
  intro f hf
  have hfar := of_decide_eq_true (List.all_eq_true.mp hhigh f hf)
  omega

theorem enableBlock_gate {k : Nat} (h : u.flag (CLK.GATE.EN k) = true) : (enableBlock u n).flag (CLK.GATE.EN k) = true := by
  unfold State.flag at h ⊢
  rw [enableBlock_reg u n (gates_apart k)]
  by_cases hkey : fieldKey (CLK.GATE.EN n) = fieldKey (CLK.GATE.EN k)
  · have hsame : n % 21 = k % 21 := by
      simp only [fieldKey, CLK.GATE.EN] at hkey
      omega
    have hfield : CLK.GATE.EN n = CLK.GATE.EN k := by simp only [CLK.GATE.EN, hsame]
    rw [hfield, reg_setFlag_self _ _ _ (show 1 ≤ 32 by decide) (show 0 < 1 by decide)]
    rfl
  · rw [reg_setFlag_ne _ _ _ _ hkey]
    exact h

theorem enableBlock_gate_self : (enableBlock u n).flag (CLK.GATE.EN n) = true := by
  unfold State.flag
  rw [enableBlock_reg u n (gates_apart n), reg_setFlag_self _ _ _ (show 1 ≤ 32 by decide) (show 0 < 1 by decide)]
  rfl

theorem blocks_gate (l : List Nat) {k : Nat} (h : u.flag (CLK.GATE.EN k) = true ∨ k ∈ l) :
    (l.foldl enableBlock u).flag (CLK.GATE.EN k) = true := by
  induction l generalizing u with
  | nil => exact h.resolve_right List.not_mem_nil
  | cons n l ih =>
    refine ih (enableBlock u n) ?_
    rcases h with h | h
    · exact .inl (enableBlock_gate u n h)
    · rcases List.mem_cons.mp h with rfl | h
      · exact .inl (enableBlock_gate_self u k)
      · exact .inr h

/-- The blocks that run before BOOT_DONE. -/
def blocksUp : State := [4, 9, 10, 16, 17, 18, 19, 20].foldl enableBlock u

theorem blocksUp_reg {f : Field} (h : Outside blockWrites (fieldKey f)) (hgate : ∀ n, fieldKey (CLK.GATE.EN n) ≠ fieldKey f) :
    (blocksUp u).reg f = u.reg f :=
  foldl_reg _ (fun n _ w => (enableBlock_reg w n h).trans (reg_setFlag_ne _ _ _ _ (hgate n))) u

theorem gate_low (n : Nat) {f : Field} (h : 0x10008 * 32 + 20 < fieldKey f) : fieldKey (CLK.GATE.EN n) ≠ fieldKey f := by
  have hkey : fieldKey (CLK.GATE.EN n) = 0x10008 * 32 + n % 21 := rfl
  omega

theorem blocksUp_dram : (blocksUp u).flag DDRC.STATUS.READY = u.flag DDRC.STATUS.READY
    ∧ (blocksUp u).flag DDRC.STATUS.DRAM_FAIL = u.flag DDRC.STATUS.DRAM_FAIL := by
  unfold State.flag
  rw [blocksUp_reg u (outside_of (by decide)) (fun n => gate_low n (by decide)),
    blocksUp_reg u (outside_of (by decide)) (fun n => gate_low n (by decide))]
  exact ⟨rfl, rfl⟩

theorem bringUp_eq : bringUp u = if u.flag DDRC.STATUS.READY then enableBlock (blocksUp u) 8
    else if u.flag DDRC.STATUS.DRAM_FAIL then scanM7 (blocksUp u) else blocksUp u := rfl

/-- The SCAN block clocked in mode 7. -/
def modeSeven : State := (u.setFlag (CLK.GATE.EN 13) true).setReg SCAN.MODE.MODE 7

theorem scanM7_eq : scanM7 u = if u.flag SCAN.CTRL.EN then modeSeven u else scanEnable (modeSeven u) := rfl

theorem scanM7_reg {f : Field} (h : Outside scanEnableRegs (fieldKey f)) : (scanM7 u).reg f = (modeSeven u).reg f := by
  rw [scanM7_eq]
  split
  · rfl
  · exact reg_eq_of_word (scanEnable_word h _)

theorem scanM7_effects : (scanM7 u).reg SCAN.MODE.MODE = 7 ∧ (scanM7 u).flag SCAN.CTRL.EN = true := by
  refine ⟨(scanM7_reg u (outside_of (by decide))).trans (reg_setReg_of_lt _ _ _ (by decide) (by decide)), ?_⟩
  rw [scanM7_eq]
  cases hen : u.flag SCAN.CTRL.EN with
  | true => exact ((flag_setReg_ne _ _ _ _ (by decide)).trans (flag_setFlag_ne _ _ _ _ (by decide))).trans hen
  | false => exact (FrameTiming.scanEnable_effects (modeSeven u)).1

theorem scanM7_gate {k : Nat} (h : u.flag (CLK.GATE.EN k) = true) : (scanM7 u).flag (CLK.GATE.EN k) = true := by
  have hhigh : scanEnableRegs.all (fun f => decide (fieldKey (CLK.GATE.EN 20) < fieldKey f)) = true := by decide
  have hkey : fieldKey (CLK.GATE.EN k) = 0x10008 * 32 + k % 21 := rfl
  have hlast : fieldKey (CLK.GATE.EN 20) = 0x10008 * 32 + 20 := rfl
  have hmode : fieldKey SCAN.MODE.MODE ≠ fieldKey (CLK.GATE.EN k) := by
    have hfar : fieldKey (CLK.GATE.EN 20) < fieldKey SCAN.MODE.MODE := by decide
    omega
  have hout : Outside scanEnableRegs (fieldKey (CLK.GATE.EN k)) := by
    intro f hf
    have hfar := of_decide_eq_true (List.all_eq_true.mp hhigh f hf)
    omega
  have hgate : (u.setFlag (CLK.GATE.EN 13) true).flag (CLK.GATE.EN k) = true := by
    have henabled := enableBlock_gate u 13 h
    unfold State.flag at henabled ⊢
    rwa [enableBlock_reg u 13 (gates_apart k)] at henabled
  unfold State.flag at hgate ⊢
  rw [scanM7_reg u hout, modeSeven, reg_setReg_ne _ _ _ _ hmode]
  exact hgate

/-- Every block of R586 is clocked, and the DRAM's where it was. -/
theorem bringUp_gate {k : Nat} (h : u.flag (CLK.GATE.EN k) = true ∨ k ∈ [4, 9, 10, 16, 17, 18, 19, 20]) :
    (bringUp u).flag (CLK.GATE.EN k) = true := by
  have hup : (blocksUp u).flag (CLK.GATE.EN k) = true := blocks_gate u _ h
  rw [bringUp_eq]
  split
  · exact enableBlock_gate _ 8 hup
  · split
    · exact scanM7_gate _ hup
    · exact hup

/-- A READY DRAM keeps its controller on; without it the scan runs M7. -/
theorem bringUp_dram : (bringUp u).flag DDRC.STATUS.READY = u.flag DDRC.STATUS.READY
    ∧ (bringUp u).flag DDRC.STATUS.DRAM_FAIL = u.flag DDRC.STATUS.DRAM_FAIL
    ∧ (u.flag DDRC.STATUS.READY = true → (bringUp u).flag DDRC.CTRL.EN = true)
    ∧ (u.flag DDRC.STATUS.READY = false → u.flag DDRC.STATUS.DRAM_FAIL = true → (bringUp u).reg SCAN.MODE.MODE = 7
      ∧ (bringUp u).flag SCAN.CTRL.EN = true) := by
  obtain ⟨hready, hfail⟩ := blocksUp_dram u
  have hflag (w : State) {f : Field} (h : Outside blockWrites (fieldKey f)) (hgate : fieldKey (CLK.GATE.EN 8) ≠ fieldKey f) :
      (enableBlock w 8).flag f = w.flag f := by
    unfold State.flag
    rw [enableBlock_reg w 8 h, reg_setFlag_ne _ _ _ _ hgate]
  have hscan (w : State) {f : Field} (h : Outside scanM7Regs (fieldKey f)) : (scanM7 w).flag f = w.flag f :=
    flag_eq_of_word (scanM7_word h w)
  have hen (w : State) : (enableBlock w 8).flag DDRC.CTRL.EN = true := flag_setFlag_self _ _ _ (by decide) (by decide)
  rw [bringUp_eq]
  cases hr : u.flag DDRC.STATUS.READY with
  | true =>
    rw [if_pos rfl, hflag _ (outside_of (by decide)) (by decide), hflag _ (outside_of (by decide)) (by decide)]
    exact ⟨hready.trans hr, hfail, fun _ => hen _, fun h => absurd h.symm Bool.false_ne_true⟩
  | false =>
    rw [if_neg Bool.false_ne_true]
    cases hf : u.flag DDRC.STATUS.DRAM_FAIL with
    | true =>
      rw [if_pos rfl, hscan _ (outside_of (by decide +kernel)), hscan _ (outside_of (by decide +kernel))]
      exact ⟨hready.trans hr, hfail.trans hf, fun h => absurd h Bool.false_ne_true, fun _ _ => scanM7_effects _⟩
    | false =>
      rw [if_neg Bool.false_ne_true]
      exact ⟨hready.trans hr, hfail.trans hf, fun h => absurd h Bool.false_ne_true, fun _ h => absurd h Bool.false_ne_true⟩

end

/-! ### The reports of a boot (R487, R575, R582) -/

section
variable (u : State)

theorem doneShown_source (k : Nat) : SourceKept k u (BootReports.doneShown u) :=
  SourceKept.trans (source_of_eq rfl rfl) (setFlag_source _ (.inl (by decide)) false)

theorem slotReported_source {k : Nat} (hk : k < 96) (h : k ≠ 65) : SourceKept k u (BootReports.slotReported u) := by
  unfold BootReports.slotReported
  split
  · exact ⟨rfl, rfl⟩
  · exact ThermalStops.raiseFault_keeps (by decide) hk (Ne.symm h) _ 1

theorem holdReported_source (k : Nat) : SourceKept k u (BootReports.holdReported u) := by
  unfold BootReports.holdReported
  split
  · exact source_of_eq rfl rfl
  · exact ⟨rfl, rfl⟩

theorem tripReported_source {k : Nat} (hk : k < 96) (h : k ≠ 54) : SourceKept k u (BootReports.tripReported u) := by
  unfold BootReports.tripReported
  split
  · exact ⟨rfl, rfl⟩
  · exact SourceKept.trans (source_of_eq rfl rfl) (ThermalStops.raiseFault_keeps (by decide) hk (Ne.symm h) _ 2)

/-- A slot that is not preferred is source 65. -/
theorem bootDone_slotFaulted (h : u.flag SYS.BOOT.PREFERRED = false) : Faulted u (bootDone u) 65 1 := by
  have hpref : (BootReports.doneShown u).flag SYS.BOOT.PREFERRED = false :=
    (flag_setFlag_ne _ _ _ _ (by decide)).trans h
  have hfault : Faulted (BootReports.doneShown u) (BootReports.slotReported (BootReports.doneShown u)) 65 1 := by
    unfold BootReports.slotReported
    rw [hpref]
    exact raiseFault_faulted _ 65 1
  rw [BootReports.bootDone_eq, BootReports.bootReports_eq]
  exact faulted_after (faulted_before (doneShown_source u 65) hfault)
    ((holdReported_source _ 65).trans (tripReported_source _ (by decide) (by decide)))

theorem bootDone_source {k : Nat} (hk : k < 96) (h65 : k ≠ 65) (h54 : k ≠ 54) : SourceKept k u (bootDone u) := by
  rw [BootReports.bootDone_eq, BootReports.bootReports_eq]
  exact ((doneShown_source u k).trans (slotReported_source _ hk h65)).trans
    ((holdReported_source _ k).trans (tripReported_source _ hk h54))

/-- A long hold that waits is told with its seconds. -/
theorem bootDone_holdTold (h : u.boot.longDue = true) : ∃ v ∈ (bootDone u).flt.jorosh, v.code = 0x0103
    ∧ v.args = padTo 16 (toLe 2 (u.reg SYS.RESET_CAUSE.HELD_S)) := by
  obtain ⟨w, hw⟩ : ∃ w, w = BootReports.slotReported (BootReports.doneShown u) := ⟨_, rfl⟩
  have hheld : w.reg SYS.RESET_CAUSE.HELD_S = u.reg SYS.RESET_CAUSE.HELD_S := by
    rw [hw, BootReports.slotReported_held]
    exact reg_setFlag_ne _ _ _ _ (by decide)
  have hdue : w.boot.longDue = true := by
    rw [hw, BootReports.slotReported_boot]
    exact h
  have htold : mkEvent { w with boot := { w.boot with longDue := false } } 0x0103 false (toLe 2 (w.reg SYS.RESET_CAUSE.HELD_S))
      ∈ (BootReports.holdReported w).flt.jorosh := by
    unfold BootReports.holdReported
    rw [if_pos hdue]
    exact List.mem_append_right _ List.mem_cons_self
  rw [BootReports.bootDone_eq, BootReports.bootReports_eq, ← hw, ← hheld]
  exact ⟨_, (BootReports.tripReported_events _).mem htold, rfl, rfl⟩

theorem tripArgs (n : Nat) (l : List Byte) : leAt (padTo 16 (toLe 1 3 ++ toLe 1 n ++ l)) 0 2 = 3 + 256 * (n % 256) := by
  have hbytes : leAt (padTo 16 (toLe 1 3 ++ toLe 1 n ++ l)) 0 2
      = (BitVec.ofNat 8 (3 % 256)).toNat + 256 * ((BitVec.ofNat 8 (n % 256)).toNat + 256 * 0) := rfl
  rw [hbytes, BitVec.toNat_ofNat, BitVec.toNat_ofNat]
  omega

/-- A hard trip that waits is source 54, and told with its sensor. -/
theorem bootDone_tripTold (h : u.boot.tripDue ≠ 0) : Faulted u (bootDone u) 54 2 ∧ ∃ v ∈ (bootDone u).flt.jorosh, v.code = 0x0106
    ∧ leAt v.args 0 2 = 3 + 256 * ((u.boot.tripDue - 1) % 256) := by
  obtain ⟨w, hw⟩ : ∃ w, w = BootReports.holdReported (BootReports.slotReported (BootReports.doneShown u)) := ⟨_, rfl⟩
  have hkept : SourceKept 54 u w := by
    rw [hw]
    exact ((doneShown_source u 54).trans (slotReported_source _ (by decide) (by decide))).trans (holdReported_source _ 54)
  have hdue : w.boot.tripDue = u.boot.tripDue := by
    rw [hw, BootReports.holdReported_trip, BootReports.slotReported_boot]
    rfl
  obtain ⟨x, hx⟩ : ∃ x, x = thermalEvent { w.tookFree with boot := { w.boot with tripDue := 0 } } 3 (w.boot.tripDue - 1)
    ((Config.tripT4 w.free : Nat) : Int) := ⟨_, rfl⟩
  have hreported : BootReports.tripReported w = raiseFault x 54 2 := by
    rw [hx]
    exact if_neg (by rw [hdue]; exact h)
  have hx54 : SourceKept 54 w x := by
    rw [hx]
    exact ⟨rfl, rfl⟩
  rw [BootReports.bootDone_eq, BootReports.bootReports_eq, ← hw, hreported]
  refine ⟨faulted_before (hkept.trans hx54) (raiseFault_faulted x 54 2), ?_⟩
  have htold : eventOf { w.tookFree with boot := { w.boot with tripDue := 0 } } 0x0106 (toLe 1 3 ++ toLe 1 (w.boot.tripDue - 1)
      ++ toLe 2 (toBits 16 ((Config.tripT4 w.free : Nat) : Int))) ∈ x.flt.jorosh := by
    rw [hx]
    exact ThermalStops.thermalEvent_mem _ _ _ _
  refine ⟨_, (BootReports.raiseFault_events (by decide) x 54).mem htold, rfl, ?_⟩
  rw [← hdue]
  exact tripArgs _ _

end

end Sys2Proof.Machine.BootBlocks
end

section
/-! PROOF. ColdBoot: the whole cold-boot path (16_memory.md R500; 19_startup_reset_and_bringup.md R577 to R588). -/

namespace Sys2Proof.Machine.ColdBoot

open BlankPasses (SourceKept faulted_before faulted_after)
open BootBlocks
open BootReports (EventsKept eventsKept_of_eq)
open BootSlots
open BootSources
open FrameTiming (flag_eq_of_word)

/-! ### Jorosh's part (R577) -/

/-- The state before the DRAM is checked, and the one before the blocks are enabled. -/
def recordsJudged (d : State) : State := enableBlock (applyBoard (judgeRecords d)) 4
def dataUp (d : State) (e : BootEnv) : State :=
  bootModel (restoreArray (restoreDose (restoreCal (dramStart (recordsJudged d) e)))) e

/-- The state in which BOOT_DONE is raised. -/
def broughtUp (d : State) (e : BootEnv) : State := bringUp (dataUp d e)

section
variable (d : State) (e : BootEnv)

theorem joroshBoot_eq : joroshBoot d e = wakeEnds (bootDone (broughtUp d e)) (d.power == 5) := rfl

/-- The fields that restoring the data and the models writes. -/
def dataRegs : List Field := restoreArrayRegs ++ restoreDoseRegs ++ bootModelRegs

theorem dataUp_word {key : Nat} (h : Outside dataRegs key) :
    wordAt (dataUp d e).regs key = wordAt (dramStart (recordsJudged d) e).regs key := by
  simp only [dataRegs, outside_append] at h
  obtain ⟨⟨harray, hdose⟩, hmodel⟩ := h
  have hcal (u : State) : (restoreCal u).regs = u.regs := by simp
  unfold dataUp
  rw [bootModel_word hmodel, restoreArray_word harray, restoreDose_word hdose, hcal]

theorem dataUp_flag {f : Field} (h : Outside dataRegs (fieldKey f)) : (dataUp d e).flag f = (dramStart (recordsJudged d) e).flag f :=
  flag_eq_of_word (dataUp_word d e h)

/-- The fields that Jorosh's part writes before BOOT_DONE. -/
def upRegs : List Field := bringUpRegs ++ dataRegs ++ dramStartRegs ++ enableBlockRegs ++ applyBoardRegs ++ judgeRecordsRegs

theorem broughtUp_word {key : Nat} (h : Outside upRegs key) : wordAt (broughtUp d e).regs key = wordAt d.regs key := by
  simp only [upRegs, outside_append] at h
  obtain ⟨⟨⟨⟨⟨hup, hdata⟩, hdram⟩, hblock⟩, hboard⟩, hrecords⟩ := h
  unfold broughtUp
  rw [bringUp_word hup, dataUp_word d e hdata, dramStart_word hdram, recordsJudged, enableBlock_word hblock, applyBoard_word hboard, judgeRecords_word hrecords]

theorem broughtUp_boot : (broughtUp d e).boot = d.boot := by
  unfold broughtUp dataUp recordsJudged
  simp

theorem recordsJudged_source {k : Nat} (hk : k < 96) (h60 : k ≠ 60) : SourceKept k d (recordsJudged d) :=
  ((judgeRecords_source hk h60 d).trans (applyBoard_source _)).trans (enableBlock_source _ 4)

theorem dataUp_source {k : Nat} (hk : 52 ≤ k) (hk96 : k < 96) : SourceKept k (dramStart (recordsJudged d) e) (broughtUp d e) :=
  ((restored_source _).trans (restoreArray_source hk hk96 _)).trans ((bootModel_source hk hk96 _ e).trans (bringUp_source _))

theorem broughtUp_source {k : Nat} (hk : 52 ≤ k) (hk96 : k < 96) (h60 : k ≠ 60) (h56 : k ≠ 56) : SourceKept k d (broughtUp d e) :=
  (recordsJudged_source d hk96 h60).trans ((dramStart_source _ e hk96 h56).trans (dataUp_source d e hk hk96))

theorem broughtUp_gate {k : Nat} (h : k ∈ [4, 8, 9, 10, 16, 17, 18, 19, 20]) : (broughtUp d e).flag (CLK.GATE.EN k) = true := by
  refine bringUp_gate _ ?_
  by_cases h8 : k = 8
  · subst h8
    exact .inl ((dataUp_flag d e (outside_of (by decide +kernel))).trans (dramStart_gate _ e))
  · right
    simp only [List.mem_cons] at h ⊢
    tauto

/-- The DRAM as the boot leaves it. -/
theorem broughtUp_dram :
    ((broughtUp d e).flag DDRC.STATUS.READY = true → (e.dramGood = true ∨ e.dramGoodDefault = true)
      ∧ (broughtUp d e).flag DDRC.CTRL.EN = true)
    ∧ ((broughtUp d e).flag DDRC.STATUS.READY = false → (broughtUp d e).flag DDRC.STATUS.DRAM_FAIL = true
      ∧ Faulted d (broughtUp d e) 56 2 ∧ (broughtUp d e).reg SCAN.MODE.MODE = 7 ∧ (broughtUp d e).flag SCAN.CTRL.EN = true) := by
  obtain ⟨hready, hfail, hen, hm7⟩ := bringUp_dram (dataUp d e)
  have hr := dataUp_flag d e (f := DDRC.STATUS.READY) (outside_of (by decide +kernel))
  have hf := dataUp_flag d e (f := DDRC.STATUS.DRAM_FAIL) (outside_of (by decide +kernel))
  refine ⟨fun h => ?_, fun h => ?_⟩
  · have hup : (dataUp d e).flag DDRC.STATUS.READY = true := hready.symm.trans h
    exact ⟨dramStart_ready _ e (hr.symm.trans hup), hen hup⟩
  · have hup : (dataUp d e).flag DDRC.STATUS.READY = false := hready.symm.trans h
    obtain ⟨hfailed, hfault⟩ := dramStart_failed (recordsJudged d) e (hr.symm.trans hup)
    have hdata : (dataUp d e).flag DDRC.STATUS.DRAM_FAIL = true := hf.trans hfailed
    obtain ⟨hmode, hscan⟩ := hm7 hup hdata
    exact ⟨hfail.trans hdata, faulted_after (faulted_before (recordsJudged_source d (by decide) (by decide)) hfault)
      (dataUp_source d e (by decide) (by decide)), hmode, hscan⟩

end

/-! ### The end of a wake -/

section
variable (u : State) (b : Bool)

theorem wakeEnds_reg {f : Field} (hstate : fieldKey PWR.STATE.STATE ≠ fieldKey f) (hcount : fieldKey (FLT.COUNT.COUNT 7) ≠ fieldKey f) :
    (wakeEnds u b).reg f = u.reg f := by
  cases b with
  | false => rfl
  | true => exact WakeSequences.wakeDone_reg u 3 hstate hcount

theorem wakeEnds_events : EventsKept u (wakeEnds u b) := by
  cases b with
  | false => exact eventsKept_of_eq rfl
  | true => exact ⟨_, (WakeSequences.wakeDone_keep u 3).2.2.2⟩

theorem wakeEnds_source {k : Nat} (hk : k < 96) (h : k ≠ 7) : SourceKept k u (wakeEnds u b) := by
  cases b with
  | false => exact ⟨rfl, rfl⟩
  | true =>
    have htold : SourceKept k u (WakeSequences.wakeTold u 3) :=
      (setReg_source u (.inl (by decide)) 0).trans (source_of_eq rfl rfl)
    show SourceKept k u (wakeDone u 3)
    cases hf : u.pwr.failed with
    | false =>
      rw [WakeSequences.wakeDone_of_good u 3 hf]
      exact htold.trans (source_of_eq rfl rfl)
    | true =>
      rw [WakeSequences.wakeDone_of_failed u 3 hf]
      exact (htold.trans (source_of_eq rfl rfl)).trans (ThermalStops.raiseFault_keeps (by decide) hk (Ne.symm h)
        { WakeSequences.wakeTold u 3 with pwr := { (WakeSequences.wakeTold u 3).pwr with failed := false, repeats := 0 } } 2)

end

/-! ### From the chosen slot to the end -/

section
variable {s : State} {e : BootEnv} {u : State} {b pref slot : Bool} {ver : Nat}

/-- The fields that come between the trigger and Jorosh's start. -/
def romRegs : List Field := clockedRegs ++ trialFields ++ [SYS.BOOT.DIR_COPY, SYS.BOOT.SLOT, SYS.BOOT.PREFERRED]

theorem startJorosh_reg {f : Field} (hslot : fieldKey SYS.BOOT.SLOT ≠ fieldKey f) (hpref : fieldKey SYS.BOOT.PREFERRED ≠ fieldKey f) :
    (startJorosh u pref (slot, ver)).reg f = u.reg f := (reg_setFlag_ne _ _ _ _ hpref).trans (reg_setFlag_ne _ _ _ _ hslot)

theorem startJorosh_source (k : Nat) : SourceKept k u (startJorosh u pref (slot, ver)) :=
  ((setFlag_source u (f := SYS.BOOT.SLOT) (.inl (by decide)) slot).trans
    (setFlag_source _ (f := SYS.BOOT.PREFERRED) (.inl (by decide)) (slot == pref))).trans (source_of_eq rfl rfl)

variable (htried : Tried ((clocked s e).setFlag SYS.BOOT.DIR_COPY b) u)
include htried

theorem tried_boot : u.boot = s.boot := by
  rw [htried.rest]
  exact (clocked_keep s e).2.2.2

theorem tried_source {k : Nat} (hk : 52 ≤ k) (hk96 : k < 96) : SourceKept k s u := by
  have hout : trialFields.all (fun f => decide (fieldKey f < 0x30100 * 32 ∨ 0x30280 * 32 ≤ fieldKey f)) = true := by decide
  have htrial : SourceKept k ((clocked s e).setFlag SYS.BOOT.DIR_COPY b) u :=
    ⟨htried.reg _ (FaultInjection.count_outside hout k), by rw [htried.rest]⟩
  exact ((clocked_source s e hk hk96).trans (setFlag_source _ (.inl (by decide)) b)).trans htrial

theorem started_reg {f : Field} (h : Outside romRegs (fieldKey f)) : (startJorosh u pref (slot, ver)).reg f = s.reg f := by
  simp only [romRegs, outside_append, outside_cons, outside_nil, and_true] at h
  obtain ⟨⟨hclocked, htrial⟩, hdir, hslot, hpref⟩ := h
  rw [startJorosh_reg hslot hpref, htried.reg f htrial, reg_setFlag_ne _ _ _ _ hdir]
  exact reg_eq_of_word (clocked_word s e hclocked)

theorem started_dir : (startJorosh u pref (slot, ver)).flag SYS.BOOT.DIR_COPY = b := by
  have hflag : ((clocked s e).setFlag SYS.BOOT.DIR_COPY b).flag SYS.BOOT.DIR_COPY = b :=
    flag_setFlag_self _ _ _ (by decide) (by decide)
  unfold State.flag at hflag ⊢
  rw [startJorosh_reg (by decide) (by decide), htried.reg _ (outside_of (by decide))]
  exact hflag

theorem started_lock : (startJorosh u pref (slot, ver)).flag CLK.STATUS.PLL_LOCK = true := by
  have hlock := clocked_lock s e
  unfold State.flag at hlock ⊢
  rw [startJorosh_reg (by decide) (by decide), htried.reg _ (outside_of (by decide)), reg_setFlag_ne _ _ _ _ (by decide)]
  exact hlock

end

section
variable (d : State) (e : BootEnv)

/-- Nothing after BOOT_DONE but its own reports changes what was brought up. -/
theorem joroshBoot_reg {f : Field} (hstate : fieldKey PWR.STATE.STATE ≠ fieldKey f) (hdone : Outside bootDoneRegs (fieldKey f))
    (hcount : fieldKey (FLT.COUNT.COUNT 7) ≠ fieldKey f) : (joroshBoot d e).reg f = (broughtUp d e).reg f := by
  rw [joroshBoot_eq, wakeEnds_reg _ _ hstate hcount, BootReports.bootDone_reg _ hdone]

theorem joroshBoot_flag {f : Field} (hstate : fieldKey PWR.STATE.STATE ≠ fieldKey f) (hdone : Outside bootDoneRegs (fieldKey f))
    (hcount : fieldKey (FLT.COUNT.COUNT 7) ≠ fieldKey f) : (joroshBoot d e).flag f = (broughtUp d e).flag f := by
  unfold State.flag
  rw [joroshBoot_reg d e hstate hdone hcount]

theorem broughtUp_flag {f : Field} (h : Outside upRegs (fieldKey f)) : (broughtUp d e).flag f = d.flag f :=
  flag_eq_of_word (broughtUp_word d e h)

theorem joroshBoot_boot : (joroshBoot d e).boot
    = { d.boot with done := true, cold := false, injRestart := false, longDue := false, tripDue := 0 } := by
  have hends (u : State) (b : Bool) : (wakeEnds u b).boot = u.boot := by simp
  rw [joroshBoot_eq, hends, BootReports.bootDone_boot, broughtUp_boot]

theorem joroshBoot_power (h : d.power = 0 ∨ d.power = 5) : (joroshBoot d e).power = 0 := by
  rw [joroshBoot_eq]
  rcases h with h | h
  · have hup : (broughtUp d e).power = 0 := (reg_eq_of_word (broughtUp_word d e (outside_of (by decide +kernel)))).trans h
    rw [h]
    exact (BootReports.bootDone_reg _ (outside_of (by decide +kernel))).trans hup
  · rw [h]
    exact WakeSequences.wakeDone_power _ 3

theorem bootDone_mem {v : EventRec} (h : v ∈ (bootDone (broughtUp d e)).flt.jorosh) : v ∈ (joroshBoot d e).flt.jorosh := by
  rw [joroshBoot_eq]
  exact (wakeEnds_events _ _).mem h

theorem joroshBoot_restarting : (joroshBoot d e).flag FLT.STATUS.RESTARTING = false := by
  have hdone := BootReports.bootDone_restarting (broughtUp d e)
  unfold State.flag at hdone ⊢
  rw [joroshBoot_eq, wakeEnds_reg _ _ (by decide) (by decide)]
  exact hdone

theorem ends_source {k : Nat} (hk : k < 96) (h : k ≠ 7) : SourceKept k (bootDone (broughtUp d e)) (joroshBoot d e) := by
  rw [joroshBoot_eq]
  exact wakeEnds_source _ _ hk h

theorem joroshBoot_gate {k : Nat} (h : k ∈ [4, 8, 9, 10, 16, 17, 18, 19, 20]) : (joroshBoot d e).flag (CLK.GATE.EN k) = true := by
  have hout : ∀ k ∈ [4, 8, 9, 10, 16, 17, 18, 19, 20], fieldKey PWR.STATE.STATE ≠ fieldKey (CLK.GATE.EN k)
      ∧ bootDoneRegs.all (fun f => fieldKey f != fieldKey (CLK.GATE.EN k)) = true
      ∧ fieldKey (FLT.COUNT.COUNT 7) ≠ fieldKey (CLK.GATE.EN k) := by decide +kernel
  obtain ⟨hstate, hdone, hcount⟩ := hout k h
  rw [joroshBoot_flag d e hstate (outside_of hdone) hcount]
  exact broughtUp_gate d e h

end

theorem mayBoot_power {s : State} (h : mayBoot s = true) : s.power = 0 ∨ s.power = 5 := by
  unfold mayBoot at h
  simp only [Bool.and_eq_true, Bool.or_eq_true, beq_iff_eq] at h
  obtain ⟨⟨⟨-, hpower⟩, -⟩, -⟩ := h
  exact hpower

/-! ### COLD_BOOT -/

section
variable {s : State} {e : BootEnv} {a : Nat} {slot : Bool} {ver : Word}

/-- With a slot chosen the path runs to its end in Jorosh. -/
theorem coldBoot_runs (hdir : directory s = some a) (hslot : SlotChosen (prefersB s a) e slot ver) :
    ∃ u, Tried ((clocked s e).setFlag SYS.BOOT.DIR_COPY (a != 0)) u
      ∧ coldBoot s e = joroshBoot (startJorosh u (prefersB s a) (slot, ver.toNat)) e := by
  obtain ⟨hd, hp⟩ := directory_congr (clocked_keep s e).1
  rw [← hp a] at hslot
  obtain ⟨u, htried, hrom⟩ := bootRom_chosen (hd.trans hdir) hslot
  refine ⟨u, htried, ?_⟩
  rw [← hp a, coldBoot_eq, hrom, BootReports.startJorosh_boot]
  rfl

variable (d : State) (e)

/-- What Jorosh's part shows of the start. -/
theorem joroshBoot_shown : (joroshBoot d e).flag SYS.BOOT.SLOT = d.flag SYS.BOOT.SLOT
    ∧ (joroshBoot d e).flag SYS.BOOT.PREFERRED = d.flag SYS.BOOT.PREFERRED
    ∧ (joroshBoot d e).flag SYS.BOOT.DIR_COPY = d.flag SYS.BOOT.DIR_COPY
    ∧ (joroshBoot d e).flag CLK.STATUS.PLL_LOCK = d.flag CLK.STATUS.PLL_LOCK := by
  have hflag {f : Field} (hstate : fieldKey PWR.STATE.STATE ≠ fieldKey f) (hdone : Outside bootDoneRegs (fieldKey f))
      (hcount : fieldKey (FLT.COUNT.COUNT 7) ≠ fieldKey f) (hup : Outside upRegs (fieldKey f)) :
      (joroshBoot d e).flag f = d.flag f := (joroshBoot_flag d e hstate hdone hcount).trans (broughtUp_flag d e hup)
  exact ⟨hflag (by decide) (outside_of (by decide +kernel)) (by decide) (outside_of (by decide +kernel)),
    hflag (by decide) (outside_of (by decide +kernel)) (by decide) (outside_of (by decide +kernel)),
    hflag (by decide) (outside_of (by decide +kernel)) (by decide) (outside_of (by decide +kernel)),
    hflag (by decide) (outside_of (by decide +kernel)) (by decide) (outside_of (by decide +kernel))⟩

/-- BOOT_DONE is told with the slot and the firmware that run. -/
theorem joroshBoot_told : ∃ v ∈ (joroshBoot d e).flt.jorosh, v.code = 0x0101
    ∧ v.args = padTo 16 (toLe 1 (d.reg SYS.BOOT.SLOT) ++ [0, 0, 0] ++ toLe 4 d.boot.fwVer) := by
  obtain ⟨v, hv, hcode, -, hargs⟩ := BootReports.bootDone_told (broughtUp d e)
  have hslot : (broughtUp d e).reg SYS.BOOT.SLOT = d.reg SYS.BOOT.SLOT :=
    reg_eq_of_word (broughtUp_word d e (outside_of (by decide +kernel)))
  rw [hslot, broughtUp_boot] at hargs
  exact ⟨v, bootDone_mem d e hv, hcode, hargs⟩

theorem joroshBoot_slotFaulted (h : d.flag SYS.BOOT.PREFERRED = false) : Faulted d (joroshBoot d e) 65 1 := by
  have hpref : (broughtUp d e).flag SYS.BOOT.PREFERRED = false := (broughtUp_flag d e (outside_of (by decide +kernel))).trans h
  exact faulted_after (faulted_before (broughtUp_source d e (by decide) (by decide) (by decide) (by decide))
    (bootDone_slotFaulted _ hpref)) (ends_source d e (by decide) (by decide))

theorem joroshBoot_holdTold (h : d.boot.longDue = true) : (joroshBoot d e).boot.longDue = false
    ∧ ∃ v ∈ (joroshBoot d e).flt.jorosh, v.code = 0x0103 ∧ v.args = padTo 16 (toLe 2 (d.reg SYS.RESET_CAUSE.HELD_S)) := by
  have hheld : (broughtUp d e).reg SYS.RESET_CAUSE.HELD_S = d.reg SYS.RESET_CAUSE.HELD_S :=
    reg_eq_of_word (broughtUp_word d e (outside_of (by decide +kernel)))
  obtain ⟨v, hv, hcode, hargs⟩ := bootDone_holdTold (broughtUp d e) (by rw [broughtUp_boot]; exact h)
  rw [hheld] at hargs
  exact ⟨by rw [joroshBoot_boot], v, bootDone_mem d e hv, hcode, hargs⟩

theorem joroshBoot_tripTold (h : d.boot.tripDue ≠ 0) : (joroshBoot d e).boot.tripDue = 0 ∧ Faulted d (joroshBoot d e) 54 2
    ∧ ∃ v ∈ (joroshBoot d e).flt.jorosh, v.code = 0x0106 ∧ leAt v.args 0 2 = 3 + 256 * ((d.boot.tripDue - 1) % 256) := by
  obtain ⟨hfault, v, hv, hcode, hargs⟩ := bootDone_tripTold (broughtUp d e) (by rw [broughtUp_boot]; exact h)
  rw [broughtUp_boot] at hargs
  exact ⟨by rw [joroshBoot_boot], faulted_after (faulted_before (broughtUp_source d e (by decide) (by decide) (by decide) (by decide))
    hfault) (ends_source d e (by decide) (by decide)), v, bootDone_mem d e hv, hcode, hargs⟩

theorem joroshBoot_dram :
    ((joroshBoot d e).flag DDRC.STATUS.READY = true → (e.dramGood = true ∨ e.dramGoodDefault = true)
      ∧ (joroshBoot d e).flag DDRC.CTRL.EN = true)
    ∧ ((joroshBoot d e).flag DDRC.STATUS.READY = false → (joroshBoot d e).flag DDRC.STATUS.DRAM_FAIL = true
      ∧ Faulted d (joroshBoot d e) 56 2 ∧ (joroshBoot d e).reg SCAN.MODE.MODE = 7 ∧ (joroshBoot d e).flag SCAN.CTRL.EN = true) := by
  obtain ⟨hgood, hfail⟩ := broughtUp_dram d e
  rw [joroshBoot_flag d e (by decide) (outside_of (by decide +kernel)) (by decide),
    joroshBoot_flag d e (by decide) (outside_of (by decide +kernel)) (by decide),
    joroshBoot_flag d e (by decide) (outside_of (by decide +kernel)) (by decide),
    joroshBoot_flag d e (by decide) (outside_of (by decide +kernel)) (by decide),
    joroshBoot_reg d e (by decide) (outside_of (by decide +kernel)) (by decide)]
  refine ⟨hgood, fun h => ?_⟩
  obtain ⟨hfailed, hfault, hmode, hscan⟩ := hfail h
  exact ⟨hfailed, faulted_after hfault ((bootDone_source _ (by decide) (by decide) (by decide)).trans
    (ends_source d e (by decide) (by decide))), hmode, hscan⟩

end

/-- Settles O60: the boot ROM halts without a slot, and otherwise Jorosh brings the device up and reports. -/
theorem coldBoot : Obligations.ColdBoot := by
  refine ⟨fun s e hmay hno => completes_of (congrArg Host.Outcome.next (if_pos hmay)) (coldBoot_halts hno),
    fun s e a slot ver hmay hdir hslot => ?_, fun s e hno => congrArg Host.Outcome.next (if_neg (by simp [hno]))⟩
  obtain ⟨u, htried, hruns⟩ := coldBoot_runs hdir hslot
  obtain ⟨d, hd⟩ : ∃ d, d = startJorosh u (prefersB s a) (slot, ver.toNat) := ⟨_, rfl⟩
  have hsource {k : Nat} (hk : 52 ≤ k) (hk96 : k < 96) : SourceKept k s d := by
    rw [hd]
    exact (tried_source htried hk hk96).trans (startJorosh_source k)
  have hboot : d.boot = { s.boot with jorosh := true, fwVer := ver.toNat } := by
    rw [hd, BootReports.startJorosh_boot, tried_boot htried]
  have hpower : d.power = s.power := by
    rw [hd]
    exact started_reg htried (outside_of (by decide +kernel))
  have hheld : d.reg SYS.RESET_CAUSE.HELD_S = s.reg SYS.RESET_CAUSE.HELD_S := by
    rw [hd]
    exact started_reg htried (outside_of (by decide +kernel))
  obtain ⟨hslotFlag, hslotReg, hprefFlag⟩ := BootReports.startJorosh_shown u (prefersB s a) slot ver.toNat
  have hdirFlag := started_dir htried (pref := prefersB s a) (slot := slot) (ver := ver.toNat)
  have hlock := started_lock htried (pref := prefersB s a) (slot := slot) (ver := ver.toNat)
  rw [← hd] at hslotFlag hslotReg hprefFlag hdirFlag hlock
  obtain ⟨hshowSlot, hshowPref, hshowDir, hshowLock⟩ := joroshBoot_shown e d
  have hend := joroshBoot_boot d e
  obtain ⟨hgood, hfail⟩ := joroshBoot_dram e d
  rw [← hd] at hruns
  refine completes_of (t := joroshBoot d e) ((congrArg Host.Outcome.next (if_pos hmay)).trans (congrArg Host.Outcome.next hruns))
    ⟨?_, ?_, ?_, ?_, joroshBoot_power d e (by rw [hpower]; exact mayBoot_power hmay), hshowSlot.trans hslotFlag,
      hshowPref.trans hprefFlag, hshowDir.trans hdirFlag, hshowLock.trans hlock, joroshBoot_restarting d e, fun hne => ?_,
      fun n hn => joroshBoot_gate d e hn, ?_, fun hdue => ?_, fun hdue => ?_, hgood, fun hno => ?_, fun hbad hbadDefault => ?_⟩
  · rw [hend, hboot]
  · rw [hend]
  · rw [hend]
  · rw [hend, hboot]
  · refine faulted_before (hsource (by decide) (by decide)) (joroshBoot_slotFaulted e d (hprefFlag.trans ?_))
    exact beq_false_of_ne hne
  · obtain ⟨v, hv, hcode, hargs⟩ := joroshBoot_told e d
    rw [hslotReg, hboot] at hargs
    exact ⟨v, hv, hcode, hargs⟩
  · have htold := joroshBoot_holdTold e d (by rw [hboot]; exact hdue)
    rw [hheld] at htold
    exact htold
  · obtain ⟨hclear, hfault, htold⟩ := joroshBoot_tripTold e d (by rw [hboot]; exact hdue)
    rw [hboot] at htold
    exact ⟨hclear, faulted_before (hsource (by decide) (by decide)) hfault, htold⟩
  · obtain ⟨hfailed, hfault, hm7⟩ := hfail hno
    exact ⟨hfailed, faulted_before (hsource (by decide) (by decide)) hfault, hm7⟩
  · refine Bool.eq_false_iff.mpr fun hready => ?_
    obtain ⟨hsome, -⟩ := hgood hready
    simp [hbad, hbadDefault] at hsome

end Sys2Proof.Machine.ColdBoot
end

section
/-! PROOF. WordFields: the fields of one word have places of their own, and what a fold over them shows
(18_registers_and_check_units.md R551). -/

namespace Sys2Proof.Machine.WordFields

/-! ### The places of fields -/

/-- Two fields share no bit of the register space. -/
def Apart (f g : Field) : Prop := ∀ i < f.width, ∀ j < g.width, fieldKey f + i ≠ fieldKey g + j

theorem apart_symm : Std.Symm Apart := ⟨fun _ _ h i hi j hj e => h j hj i hi e.symm⟩

/-- The bits of a field's place, counted from bit `b` of the register space. -/
def place (b : Nat) (f : Field) : Nat := (2 ^ f.width - 1) <<< (fieldKey f - b)

/-- No field of the list takes a bit of `m` or of a field before it. -/
def placesFree (b m : Nat) : List Field → Bool
  | [] => true
  | f :: l => decide (b ≤ fieldKey f) && (m &&& place b f == 0) && placesFree b (m ||| place b f) l

theorem testBit_place {b i : Nat} {f : Field} (hb : b ≤ fieldKey f) (hi : i < f.width) :
    (place b f).testBit (fieldKey f + i - b) = true := by
  rw [place, Nat.testBit_shiftLeft, Nat.testBit_two_pow_sub_one]
  simp
  omega

/-- A list of free places: none meets `m`, and no two meet. -/
theorem apart_of_placesFree {b m : Nat} {l : List Field} (h : placesFree b m l = true) :
    (∀ f ∈ l, b ≤ fieldKey f ∧ ∀ i < f.width, m.testBit (fieldKey f + i - b) = false) ∧ l.Pairwise Apart := by
  induction l generalizing m with
  | nil => exact ⟨fun f hf => absurd hf List.not_mem_nil, .nil⟩
  | cons f l ih =>
    simp only [placesFree, Bool.and_eq_true, decide_eq_true_eq, beq_iff_eq] at h
    obtain ⟨⟨hb, hfree⟩, hrest⟩ := h
    obtain ⟨hl, hpair⟩ := ih hrest
    have hhead : ∀ i < f.width, m.testBit (fieldKey f + i - b) = false := fun i hi => by
      have := congrArg (fun x => x.testBit (fieldKey f + i - b)) hfree
      simpa [testBit_place hb hi] using this
    refine ⟨fun g hg => ?_, List.pairwise_cons.mpr ⟨fun g hg i hi j hj e => ?_, hpair⟩⟩
    · rcases List.mem_cons.mp hg with rfl | hg
      · exact ⟨hb, hhead⟩
      · refine ⟨(hl g hg).1, fun i hi => ?_⟩
        have hboth := (hl g hg).2 i hi
        rw [Nat.testBit_lor, Bool.or_eq_false_iff] at hboth
        exact hboth.1
    · have := (hl g hg).2 j hj
      rw [← e, Nat.testBit_lor, testBit_place hb hi, Bool.or_true] at this
      cases this

/-- A field that lies inside its word. -/
def fieldFits (f : Field) : Bool := decide (0 < f.width) && decide (f.lo + f.width ≤ 32)

theorem blocks_fit : (List.range 21).all (fun n => (blockFields n).all fieldFits && placesFree (n * 0x200000) 0 (blockFields n)) = true := by
  decide +kernel

theorem blockFields_of_ge {n : Nat} (h : 21 ≤ n) : blockFields n = [] := by
  obtain ⟨m, rfl⟩ := Nat.exists_eq_add_of_le' h
  rfl

theorem blockFields_fit (n : Nat) : (∀ f ∈ blockFields n, 0 < f.width ∧ f.lo + f.width ≤ 32) ∧ (blockFields n).Pairwise Apart := by
  rcases Nat.lt_or_ge n 21 with hn | hn
  · have := List.all_eq_true.mp blocks_fit n (List.mem_range.mpr hn)
    simp only [Bool.and_eq_true, List.all_eq_true, fieldFits, decide_eq_true_eq] at this
    exact ⟨this.1, (apart_of_placesFree this.2).2⟩
  · simp [blockFields_of_ge hn]

/-! ### The fields of one word -/

section
variable {a k : Nat} {f g : Field}

theorem fieldsAt_fit (hf : f ∈ fieldsAt a) : 0 < f.width ∧ f.lo + f.width ≤ 32 :=
  (blockFields_fit _).1 f (List.mem_of_mem_filter hf)

theorem fieldsAt_width (hf : f ∈ fieldsAt a) : f.width ≤ 32 := by
  have := fieldsAt_fit hf
  omega

theorem fieldsAt_apart (hf : f ∈ fieldsAt a) (hg : g ∈ fieldsAt a) (hne : f ≠ g) : Apart f g :=
  have := apart_symm
  ((blockFields_fit _).2.filter _).forall hf hg hne

/-- A bit of a word is held by one field at most. -/
theorem holder_unique (hf : f ∈ fieldsAt a) (hg : g ∈ fieldsAt a) (hfk : holdsBit f k = true) (hgk : holdsBit g k = true) : f = g := by
  simp only [holdsBit, decide_eq_true_eq] at hfk hgk
  by_contra hne
  refine fieldsAt_apart hf hg hne (k - f.lo) (by omega) (k - g.lo) (by omega) ?_
  rw [fieldKey, fieldKey, mem_fieldsAt hf, mem_fieldsAt hg]
  omega

theorem key_ne (hf : f ∈ fieldsAt a) (hg : g ∈ fieldsAt a) (hne : f ≠ g) : fieldKey f ≠ fieldKey g :=
  fieldsAt_apart hf hg hne 0 (fieldsAt_fit hf).1 0 (fieldsAt_fit hg).1

/-- The one field that holds bit `k` is the one that a search finds. -/
theorem find_holder {p : Field → Bool} (hp : ∀ g, p g = true → holdsBit g k = true) (hf : f ∈ fieldsAt a) (hpf : p f = true) :
    (fieldsAt a).find? p = some f := by
  cases hfind : (fieldsAt a).find? p with
  | none => exact absurd hpf (List.find?_eq_none.mp hfind f hf)
  | some g =>
    rw [holder_unique (List.mem_of_find?_eq_some hfind) hf (hp g (List.find?_some hfind)) (hp f hpf)]

/-- No field shares the place of the word of ignored writes. -/
theorem key_ne_wign (hf : f ∈ fieldsAt a) (hne : f ≠ SYS.WIGN.BLOCK) : fieldKey SYS.WIGN.BLOCK ≠ fieldKey f := by
  intro h
  have haddr : a = SYS.WIGN.BLOCK.addr := by
    have hfit := fieldsAt_fit hf
    have hlow : SYS.WIGN.BLOCK.lo < 32 := by decide
    rw [fieldKey, fieldKey, mem_fieldsAt hf] at h
    omega
  subst haddr
  exact key_ne hf (by decide +kernel) hne h.symm

/-! ### What a fold over the fields of a word shows -/

/-- Of the steps of a fold, each on the place of its own field, that of `f` says what `f` shows. -/
theorem reg_foldl_own {step : State → Field → State} {v : Nat} (hf : f ∈ fieldsAt a)
    (hown : ∀ u, (step u f).reg f = v) (hother : ∀ g ∈ fieldsAt a, g ≠ f → ∀ u, (step u g).reg f = u.reg f) (s : State) :
    ((fieldsAt a).foldl step s).reg f = v :=
  TatexPorts.reg_foldl_of_hit (hit := (· = f)) (fun u _ _ hx => hx ▸ hown u) (fun u g hg hne => hother g hg hne u) ⟨f, hf, rfl⟩ s

end

end Sys2Proof.Machine.WordFields
end

section
/-! PROOF. RegReads: direct reads and reads of bit aliases (18_registers_and_check_units.md R552, R554, R559). -/

namespace Sys2Proof.Machine.RegReads

open RegWords (not_barred_iff rcFieldRead_of_reaches)
open WordFields

/-! ### Direct reads (R554) -/

section
variable (s : State) {a : Nat} {f : Field}

/-- What a direct read leaves in a field. -/
def fieldAfterRead (s : State) (f : Field) : Nat :=
  if f.access = .rc then 0 else if f.access = .rcExt then f.reset.toNat % 2 ^ f.width else s.reg f

theorem readEffect_self (hw : f.width ≤ 32) : (readEffect s f).reg f = fieldAfterRead s f := by
  unfold readEffect fieldAfterRead
  cases f.access
  case rc => exact (reg_setReg_self s f 0 hw).trans (Nat.zero_mod _)
  case rcExt => exact reg_setReg_self s f _ hw
  all_goals rfl

theorem readEffect_ne {g : Field} (h : fieldKey g ≠ fieldKey f) : (readEffect s g).reg f = s.reg f :=
  reg_eq_of_word (readEffect_word s g h)

/-- A direct read clears the RC fields of its word and reloads its extremes. -/
theorem reads_reg (hf : f ∈ fieldsAt a) : ((fieldsAt a).foldl readEffect s).reg f = fieldAfterRead s f := by
  have hother : ∀ g ∈ fieldsAt a, g ≠ f → ∀ u, (readEffect u g).reg f = u.reg f :=
    fun g hg hne u => readEffect_ne u (key_ne hg hf hne)
  by_cases hchanges : f.access = .rc ∨ f.access = .rcExt
  · refine reg_foldl_own hf (fun u => (readEffect_self u (fieldsAt_width hf)).trans ?_) hother s
    unfold fieldAfterRead
    rcases hchanges with h | h <;> simp [h]
  · rw [not_or] at hchanges
    have hsame (u : State) : fieldAfterRead u f = u.reg f := by
      unfold fieldAfterRead
      rw [if_neg hchanges.1, if_neg hchanges.2]
    rw [hsame]
    refine BootBlocks.foldl_reg _ (fun g hg u => ?_) s
    by_cases hgf : g = f
    · rw [hgf, readEffect_self u (fieldsAt_width hf), hsame]
    · exact hother g hg hgf u

end

section
variable {s : State} {x : Word}

theorem wordRead_of_ne {a : Nat} (h : a ≠ GAL.LUT_DATA.ENTRY.addr) :
    wordRead s a = (((fieldsAt a).foldl readEffect s).tookFree, wordNow s a) := if_neg h

/-- A word without fields, outside the windows, reads 0. -/
theorem wordNow_hole {a : Nat} (harea : mbxArea a = none) (hfields : fieldsAt a = []) (hwin : a < 0xF1000 ∨ 0xF5000 ≤ a) :
    wordNow s a = 0 := by
  simp only [wordNow, harea]
  rw [if_neg (by omega), hfields]
  rfl

theorem rcFieldRead_completes (h : Reaches s x.toNat) : Completes (.rcFieldRead x) s fun t =>
    (x.toNat ≠ GAL.LUT_DATA.ENTRY.addr → t.io.bus = some (wordNow s x.toNat)
      ∧ ∀ f ∈ fieldsAt x.toNat, t.reg f = if f.access = .rc then 0 else if f.access = .rcExt then f.reset.toNat % 2 ^ f.width else s.reg f)
    ∧ (mbxArea x.toNat = none → fieldsAt x.toNat = [] → (x.toNat < 0xF1000 ∨ 0xF5000 ≤ x.toNat) →
      t.io.bus = some 0 ∧ t.regs = s.regs)
    ∧ (t.pix = s.pix ∧ t.gal = s.gal ∧ t.mbx = s.mbx ∧ t.evt = s.evt) := by
  refine completes_of (rcFieldRead_of_reaches h) ⟨fun hlut => ?_, fun harea hfields hwin => ?_, by simp⟩
  · rw [wordRead_of_ne hlut]
    exact ⟨rfl, fun f hf => reads_reg s hf⟩
  · have hlut : x.toNat ≠ GAL.LUT_DATA.ENTRY.addr := fun h => by
      rw [h] at hfields
      exact absurd hfields (by decide +kernel)
    rw [wordRead_of_ne hlut, hfields]
    exact ⟨congrArg some (wordNow_hole harea hfields hwin), rfl⟩

/-! ### Bus errors (R552) -/

theorem busRead_of_not_reaches {a : Nat} (ha : aliasOf a = none) (h : ¬ Reaches s a) : busRead s a = (s, none) :=
  if_pos ((not_barred_iff ha).mpr h)

theorem busWriteQ_of_not_reaches {a : Nat} (ha : aliasOf a = none) (h : ¬ Reaches s a) (w : Word) : busWrite? s a w = none :=
  if_pos ((not_barred_iff ha).mpr h)

theorem unreached_runs (ha : aliasOf x.toNat = none) (h : ¬ Reaches s x.toNat) :
    exec (.rcFieldRead x) s = .next { s with io := { s.io with bus := none } } ∧ ∀ w, exec (.registerWrite x w) s = .next s := by
  constructor
  · show execRcFieldRead x s = _
    rw [execRcFieldRead, readAccess, busRead_of_not_reaches ha h]
  · intro w
    show execRegisterWrite x w s = _
    rw [execRegisterWrite, busWrite, busWriteQ_of_not_reaches ha h w]
    rfl

end

/-! ### Alias accesses (R558, R559) -/

section
variable {s : State} {x a k : Nat}

theorem alias_not_barred (hx : aliasOf x = some (a, k)) (h : Reaches s a) :
    ¬ (busUp s = false ∨ mapped? x = false ∨ gatedAt s x = true) := by
  obtain ⟨hup, -, hmap, hgate⟩ := h
  have hword : x % 4 = 0 := by
    unfold aliasOf at hx
    split at hx
    · omega
    · cases hx
  have hunder : underlying x = a := by rw [underlying, hx]
  simp [hup, mapped?, gatedAt, addrMapped, hunder, hword, hmap, hgate]

theorem busRead_of_alias (hx : aliasOf x = some (a, k)) (h : Reaches s a) : busRead s x = ((bitRead s a k).1, some (bitRead s a k).2) := by
  rw [busRead, if_neg (alias_not_barred hx h), hx]

theorem busWriteQ_of_alias (hx : aliasOf x = some (a, k)) (h : Reaches s a) (w : Word) :
    busWrite? s x w = some (bitWrite s a k (w.getLsbD 0)) := by
  rw [busWrite?, if_neg (alias_not_barred hx h), hx]

end

section
variable {s : State} {x : Word} {a k : Nat} (hx : aliasOf x.toNat = some (a, k)) (h : Reaches s a)
include hx h

theorem aliasRead_of_reaches : exec (.aliasRead x) s
    = .next { (bitRead s a k).1 with io := { (bitRead s a k).1.io with bus := some (bitRead s a k).2 } } := by
  show execAliasRead x s = _
  rw [execAliasRead, if_pos (by rw [hx]; rfl), readAccess, busRead_of_alias hx h]

theorem aliasWrite_of_reaches (w : Word) : exec (.aliasWrite x w) s = .next (bitWrite s a k (w.getLsbD 0)) := by
  show execAliasWrite x w s = _
  rw [execAliasWrite, if_pos (by rw [hx]; rfl), busWrite, busWriteQ_of_alias hx h w]
  rfl

end

section
variable {s : State} {a k : Nat} {f : Field} (hword : a % 4 = 0) (hlut : a ≠ GAL.LUT_DATA.ENTRY.addr)
include hword hlut

theorem bitRead_value : (bitRead s a k).2 = BitVec.ofNat 32 (b2n ((wordNow s a).getLsbD k)) := by
  unfold bitRead
  rw [if_neg (not_not.mpr hword), if_neg hlut]
  dsimp only
  split <;> rfl

/-- A read of one bit clears the RC bit that it reads. -/
theorem bitRead_holder (hf : f ∈ fieldsAt a) (hrc : f.access = .rc) (hfk : holdsBit f k = true) {j : Nat} (hj : j < f.width) :
    bit ((bitRead s a k).1.reg f) j = (bit (s.reg f) j && decide (j ≠ k - f.lo)) := by
  have hread : (bitRead s a k).1 = (s.setReg f (clearBit (s.reg f) (k - f.lo))).tookFree := by
    unfold bitRead
    rw [if_neg (not_not.mpr hword), if_neg hlut,
      find_holder (k := k) (fun g hg => (Bool.and_eq_true_iff.mp hg).1) hf (by rw [hfk, hrc]; rfl)]
  rw [hread]
  show bit ((s.setReg f _).reg f) j = _
  rw [reg_setReg_self _ _ _ (fieldsAt_width hf), bit, Nat.testBit_mod_two_pow, decide_eq_true hj, Bool.true_and]
  refine (EngineLoss.bit_clearBit _ _ _).trans ?_
  by_cases h : j = k - f.lo <;> simp [h]

/-- A read of one bit leaves every other field of its word. -/
theorem bitRead_other (hf : f ∈ fieldsAt a) (hother : f.access ≠ .rc ∨ holdsBit f k = false) : (bitRead s a k).1.reg f = s.reg f := by
  unfold bitRead
  rw [if_neg (not_not.mpr hword), if_neg hlut]
  dsimp only
  split
  · next g hg =>
    have hheld := List.find?_some hg
    rw [Bool.and_eq_true, beq_iff_eq] at hheld
    refine reg_setReg_ne s g f _ (key_ne (List.mem_of_find?_eq_some hg) hf fun e => ?_)
    subst e
    rcases hother with h | h
    · exact h hheld.2
    · simp [h] at hheld
  · rfl

end

theorem aliasRead_completes {s : State} {x : Word} {a k : Nat} (hx : aliasOf x.toNat = some (a, k)) (h : Reaches s a)
    (hlut : a ≠ GAL.LUT_DATA.ENTRY.addr) : Completes (.aliasRead x) s fun t =>
    t.io.bus = some (BitVec.ofNat 32 (b2n ((wordNow s a).getLsbD k)))
    ∧ ∀ f ∈ fieldsAt a, (f.access = .rc → holdsBit f k = true →
        ∀ j < f.width, bit (t.reg f) j = (bit (s.reg f) j && decide (j ≠ k - f.lo)))
      ∧ (f.access ≠ .rc ∨ holdsBit f k = false → t.reg f = s.reg f) :=
  have hword : a % 4 = 0 := h.2.1
  completes_of (aliasRead_of_reaches hx h) ⟨congrArg some (bitRead_value hword hlut), fun _ hf =>
    ⟨fun hrc hfk _ hj => bitRead_holder hword hlut hf hrc hfk hj, bitRead_other hword hlut hf⟩⟩

end Sys2Proof.Machine.RegReads
end

section
/-! PROOF. WordWrites: direct writes of plain words (18_registers_and_check_units.md R554, R555). -/

namespace Sys2Proof.Machine.WordWrites

open GalleryComposition (bits_lt)
open RegWords (registerWrite_of_reaches)
open WordFields

/-! ### Writes of one field (R554, R555) -/

section
variable (s : State) {f g : Field}

theorem plainWrite_regs (v : Nat) : (plainWrite s f v).regs = (s.setReg f v).regs := by
  unfold plainWrite hostMode
  dsimp only
  split
  · split <;> rfl
  · split <;> rfl

theorem plainWrite_self (v : Nat) (hw : f.width ≤ 32) : (plainWrite s f v).reg f = v % 2 ^ f.width :=
  (reg_of_regs _ (plainWrite_regs s v)).trans (reg_setReg_self s f v hw)

theorem plainWrite_ne (v : Nat) (h : fieldKey f ≠ fieldKey g) : (plainWrite s f v).reg g = s.reg g :=
  (reg_of_regs _ (plainWrite_regs s v)).trans (reg_setReg_ne s f g v h)

theorem wign_ne (n : Nat) (h : fieldKey SYS.WIGN.BLOCK ≠ fieldKey f) : (wign s n).reg f = s.reg f := reg_setReg_ne _ _ _ _ h

theorem wign_bits (n k : Nat) :
    bit ((wign s n).reg SYS.WIGN.BLOCK) k = (decide (k < SYS.WIGN.BLOCK.width) && (bit (s.reg SYS.WIGN.BLOCK) k || decide (n = k))) := by
  rw [wign, State.orReg, reg_setReg_self _ _ _ (by decide), bit, Nat.testBit_mod_two_pow, Nat.testBit_lor, Nat.testBit_two_pow]
  rfl

/-- The bit of the block whose write was ignored. -/
theorem wign_bit {n : Nat} (hn : n < 21) : bit ((wign s n).reg SYS.WIGN.BLOCK) n = true := by
  rw [wign_bits]
  simp
  exact hn

end

/-- A field outside block CLK that is no LUT entry: its write goes by its access alone. -/
def ByAccess (f : Field) : Prop := f.addr / 0x10000 ≠ 1 ∧ f ≠ GAL.LUT_DATA.ENTRY

section
variable (s : State) {f : Field} (hf : ByAccess f) (n : Nat) (on : Bool) (v : Nat)
include hf

theorem fieldWrite_eq : fieldWrite s n on f v
    = if f.access = .rw ∨ f.access = .shadowed ∨ f.access = .staged then plainWrite s f v
      else if f.access = .rwd then (if on then wign s n else plainWrite s f v) else s := by
  obtain ⟨hblock, hlut⟩ := hf
  unfold fieldWrite
  rw [if_neg (by omega), if_neg (by omega), if_neg (by omega), if_neg hlut]
  cases f.access <;> simp

theorem fieldWrite_written (h : SoftwareWrites f) : fieldWrite s n on f v = plainWrite s f v :=
  (fieldWrite_eq s hf n on v).trans (if_pos h)

theorem fieldWrite_rwd (h : f.access = .rwd) : fieldWrite s n on f v = if on then wign s n else plainWrite s f v := by
  rw [fieldWrite_eq s hf, if_neg (by simp [h]), if_pos h]

theorem fieldWrite_ignored (h : IgnoresWrites f ∨ f.access = .wo) : fieldWrite s n on f v = s := by
  rw [fieldWrite_eq s hf]
  rcases h with (h | h | h | h) | h <;> simp [h]

/-- A write of a field leaves each other field but the word of ignored writes. -/
theorem fieldWrite_other {g : Field} (hne : fieldKey f ≠ fieldKey g) (hwign : fieldKey SYS.WIGN.BLOCK ≠ fieldKey g) :
    (fieldWrite s n on f v).reg g = s.reg g := by
  rw [fieldWrite_eq s hf]
  split
  · exact plainWrite_ne s v hne
  · split
    · split
      · exact wign_ne s n hwign
      · exact plainWrite_ne s v hne
    · rfl

/-- No write of a field clears the bit of its block in the word of ignored writes. -/
theorem fieldWrite_wign (hn : n < 21) (hne : fieldKey f ≠ fieldKey SYS.WIGN.BLOCK) (h : bit (s.reg SYS.WIGN.BLOCK) n = true) :
    bit ((fieldWrite s n on f v).reg SYS.WIGN.BLOCK) n = true := by
  rw [fieldWrite_eq s hf]
  split
  · rwa [plainWrite_ne s v hne]
  · split
    · split
      · exact wign_bit s hn
      · rwa [plainWrite_ne s v hne]
    · exact h

end

/-! ### Direct writes of plain words (R555) -/

/-- EN of block `n`, where it has one. -/
theorem blockOn_iff (s : State) (n : Nat) : (blockEn n).any s.flag = true ↔ BlockOn s n := by
  rw [BlockOn, Option.any_eq_true]

theorem blockEn_mem {n : Nat} {e : Field} (h : blockEn n = some e) : e ∈ blockFields n := by
  have hall : ∀ m < 21, (blockEn m).all (fun e => decide (e ∈ blockFields m)) = true := by decide +kernel
  rcases Nat.lt_or_ge n 21 with hn | hn
  · have := hall n hn
    rw [h] at this
    exact of_decide_eq_true this
  · obtain ⟨m, rfl⟩ := Nat.exists_eq_add_of_le' hn
    cases h

theorem byAccess_of_mem {a : Nat} (hblock : a / 0x10000 ≠ 1) (hlut : a ≠ GAL.LUT_DATA.ENTRY.addr) {f : Field}
    (hf : f ∈ fieldsAt a) : ByAccess f :=
  ⟨by rwa [mem_fieldsAt hf], fun h => hlut (by rw [← mem_fieldsAt hf, h])⟩

/-- The words on which a write can do a command. -/
theorem commandWrite_none {a : Nat} (haligned : a % 4 = 0) (h : ∀ f ∈ fieldsAt a, f.access ≠ .wo) (s : State) (w : Word) :
    commandWrite s a w = s := by
  have hne {f : Field} (hf : f ∈ fieldsAt f.addr) (hwo : f.access = .wo) : a ≠ f.addr := fun e => h f (e ▸ hf) hwo
  have hunits : ∀ i < 32, i % 8 = 1 ∨ i % 8 = 2 ∨ i % 8 = 3 → ∃ f ∈ fieldsAt (0x70100 + 4 * i), f.access = .wo := by
    decide +kernel
  unfold commandWrite
  dsimp only
  rw [if_neg (hne (by decide +kernel) rfl), if_neg (hne (by decide +kernel) rfl), if_neg (hne (by decide +kernel) rfl),
    if_neg (hne (by decide +kernel) rfl), if_neg (hne (by decide +kernel) rfl), if_neg (hne (by decide +kernel) rfl),
    if_neg (hne (by decide +kernel) rfl), if_neg (hne (by decide +kernel) rfl),
    if_neg (not_or.mpr ⟨hne (by decide +kernel) rfl, hne (by decide +kernel) rfl⟩)]
  split
  · next hrange =>
    obtain ⟨i, hi⟩ : ∃ i, a = 0x70100 + 4 * i := ⟨(a - 0x70100) / 4, by omega⟩
    subst hi
    have hplain : ¬ (i % 8 = 1 ∨ i % 8 = 2 ∨ i % 8 = 3) := fun hcmd =>
      let ⟨f, hf, hwo⟩ := hunits i (by omega) hcmd
      h f hf hwo
    unfold crcWrite
    split
    · omega
    · omega
    · omega
    · rfl
  · rfl

section
variable {s : State} {a : Nat} {f : Field} (w : Word) (hword : PlainWord a) (hf : f ∈ fieldsAt a)
include hword

theorem plainWord_write (haligned : a % 4 = 0) : wordWrite s a w
    = (fieldsAt a).foldl (fun t f => fieldWrite t (a / 0x10000) ((blockEn (a / 0x10000)).any s.flag) f (fromWord f w)) s := by
  obtain ⟨-, harea, -, hplain⟩ := hword
  have hfilter : (fieldsAt a).filter (fun f => some f != blockEn (a / 0x10000)) = fieldsAt a :=
    List.filter_eq_self.mpr fun f hf => bne_iff_ne.mpr fun e => (hplain f hf).2 e.symm
  simp only [wordWrite, harea]
  rw [hfilter, commandWrite_none haligned (fun f hf => (hplain f hf).1)]
  split
  · next e he =>
    exact if_neg fun haddr => (hplain e (List.mem_filter.mpr ⟨blockEn_mem he, beq_iff_eq.mpr haddr⟩)).2 he
  · rfl

end

section
variable {a n : Nat} {f : Field} {on : Bool} (w : Word) (hblock : a / 0x10000 ≠ 1) (hlut : a ≠ GAL.LUT_DATA.ENTRY.addr)
  (hf : f ∈ fieldsAt a)
include hblock hlut hf

/-- A write of another field of the word leaves the field. -/
theorem wordField_other (hwign : f ≠ SYS.WIGN.BLOCK) {g : Field} (hg : g ∈ fieldsAt a) (hne : g ≠ f) (v : Nat) (u : State) :
    (fieldWrite u n on g v).reg f = u.reg f :=
  fieldWrite_other u (byAccess_of_mem hblock hlut hg) n on v (key_ne hg hf hne) (key_ne_wign hf hwign)

theorem fields_written (hown : ∀ u v, fieldWrite u n on f v = plainWrite u f v) (hwign : f ≠ SYS.WIGN.BLOCK) (s : State) :
    ((fieldsAt a).foldl (fun t g => fieldWrite t n on g (fromWord g w)) s).reg f = fromWord f w := by
  refine reg_foldl_own hf (fun u => ?_) (fun g hg hne u => wordField_other hblock hlut hf hwign hg hne _ u) s
  rw [hown, plainWrite_self u _ (fieldsAt_width hf)]
  exact Nat.mod_eq_of_lt (bits_lt _ _ _)

theorem fields_kept (hown : ∀ u v, (fieldWrite u n on f v).reg f = u.reg f) (hwign : f ≠ SYS.WIGN.BLOCK) (s : State) :
    ((fieldsAt a).foldl (fun t g => fieldWrite t n on g (fromWord g w)) s).reg f = s.reg f := by
  refine BootBlocks.foldl_reg _ (fun g hg u => ?_) s
  by_cases hgf : g = f
  · rw [hgf, hown]
  · exact wordField_other hblock hlut hf hwign hg hgf _ u

end

/-- What one step of a fold brings about, and the others keep, holds after the fold. -/
theorem foldl_holds {α : Type} {step : State → α → State} {P : State → Prop} {l : List α} {x : α} (hx : x ∈ l)
    (hset : ∀ u, P (step u x)) (hkeep : ∀ u, ∀ y ∈ l, P u → P (step u y)) (s : State) : P (l.foldl step s) := by
  obtain ⟨l₁, l₂, rfl⟩ := List.append_of_mem hx
  rw [List.foldl_append, List.foldl_cons]
  exact List.foldlRecOn l₂ step (hset _) fun u hu y hy => hkeep u y (by simp [hy]) hu

/-- A block with an EN bit is one of the map, and not SYS. -/
theorem blockOn_lt {s : State} {n : Nat} (h : BlockOn s n) : 0 < n ∧ n < 21 := by
  obtain ⟨e, he, -⟩ := h
  refine ⟨Nat.pos_of_ne_zero fun h0 => ?_, Nat.lt_of_not_le fun hge => ?_⟩
  · rw [h0] at he
    cases he
  · obtain ⟨m, rfl⟩ := Nat.exists_eq_add_of_le' hge
    cases he

theorem ne_wign_of_block {a : Nat} {g : Field} (ha : 0 < a / 0x10000) (hg : g ∈ fieldsAt a) : g ≠ SYS.WIGN.BLOCK := fun e => by
  have haddr := mem_fieldsAt hg
  rw [e] at haddr
  rw [← haddr] at ha
  exact absurd ha (by decide)

theorem ne_wign_of_access {f : Field} (h : f.access ≠ .rc) : f ≠ SYS.WIGN.BLOCK := fun e => h (by rw [e]; rfl)

theorem softwareWrites_ne_rc {f : Field} (h : SoftwareWrites f) : f.access ≠ .rc := by
  rcases h with h | h | h <;> simp [h]

/-- A write of a field that its block's EN holds off shows in the word of ignored writes. -/
theorem fields_ignored {s : State} {a : Nat} {f : Field} (w : Word) (hblock : a / 0x10000 ≠ 1) (hlut : a ≠ GAL.LUT_DATA.ENTRY.addr)
    (hf : f ∈ fieldsAt a) (hrwd : f.access = .rwd) (hon : BlockOn s (a / 0x10000)) :
    bit (((fieldsAt a).foldl (fun t g => fieldWrite t (a / 0x10000) true g (fromWord g w)) s).reg SYS.WIGN.BLOCK) (a / 0x10000)
      = true := by
  obtain ⟨hpos, hlt⟩ := blockOn_lt hon
  refine foldl_holds (P := fun u => bit (u.reg SYS.WIGN.BLOCK) (a / 0x10000) = true) hf (fun u => ?_) (fun u g hg hu => ?_) s
  · rw [fieldWrite_rwd u (byAccess_of_mem hblock hlut hf) _ _ _ hrwd]
    exact wign_bit u hlt
  · exact fieldWrite_wign u (byAccess_of_mem hblock hlut hg) _ _ _ hlt (key_ne_wign hg (ne_wign_of_block hpos hg)).symm hu

theorem plainWrite_completes {s : State} {x w : Word} (h : Reaches s x.toNat) (hword : PlainWord x.toNat) :
    Completes (.registerWrite x w) s fun t => ∀ f ∈ fieldsAt x.toNat,
      (SoftwareWrites f → t.reg f = fromWord f w) ∧ (IgnoresWrites f → f.addr ≠ SYS.WIGN.BLOCK.addr → t.reg f = s.reg f)
      ∧ (f.access = .rwd → ¬ BlockOn s (x.toNat / 0x10000) → t.reg f = fromWord f w)
      ∧ (f.access = .rwd → BlockOn s (x.toNat / 0x10000) → t.reg f = s.reg f ∧ bit (t.reg SYS.WIGN.BLOCK) (x.toNat / 0x10000) = true) := by
  have hblock := hword.1
  have hlut := hword.2.2.1
  refine completes_of (registerWrite_of_reaches h w) fun f hf => ?_
  have hby := byAccess_of_mem hblock hlut hf
  rw [plainWord_write w hword h.2.1]
  refine ⟨fun hsw => ?_, fun hign haddr => ?_, fun hrwd hoff => ?_, fun hrwd hon => ?_⟩
  · exact fields_written w hblock hlut hf (fun u v => fieldWrite_written u hby _ _ v hsw)
      (ne_wign_of_access (softwareWrites_ne_rc hsw)) s
  · exact fields_kept w hblock hlut hf (fun u v => by rw [fieldWrite_ignored u hby _ _ v (.inl hign)]) (fun e => haddr (by rw [e])) s
  · rw [Bool.eq_false_of_not_eq_true (fun hon => hoff ((blockOn_iff s _).mp hon))]
    exact fields_written w hblock hlut hf (fun u v => fieldWrite_rwd u hby _ _ v hrwd) (ne_wign_of_access (by simp [hrwd])) s
  · have hne : f ≠ SYS.WIGN.BLOCK := ne_wign_of_access (by simp [hrwd])
    rw [(blockOn_iff s _).mpr hon]
    refine ⟨fields_kept w hblock hlut hf (fun u v => ?_) hne s, fields_ignored w hblock hlut hf hrwd hon⟩
    rw [fieldWrite_rwd u hby _ _ v hrwd]
    exact wign_ne u _ (key_ne_wign hf hne)

end Sys2Proof.Machine.WordWrites
end

section
/-! PROOF. BitWrites: writes of bit aliases (18_registers_and_check_units.md R559). -/

namespace Sys2Proof.Machine.BitWrites

open RegReads (aliasWrite_of_reaches)
open WordFields
open WordWrites

/-! ### A field's value with one bit replaced -/

section
variable (s : State) {f : Field} {k : Nat} (b : Bool)

/-- A cleared bit, added again where it is written with 1. -/
theorem bit_replaced (m i j : Nat) : bit (clearBit m i + if b then 2 ^ i else 0) j = if j = i then b else bit m j := by
  have hclear (j : Nat) : (clearBit m i).testBit j = (m.testBit j && j != i) := EngineLoss.bit_clearBit m i j
  cases b
  · by_cases h : j = i <;> simp [bit, hclear, h]
  · rw [if_pos rfl, Nat.add_comm, bit, EngineLoss.testBit_two_pow_add (by simp [hclear]), hclear]
    by_cases h : j = i <;> simp [bit, h]

theorem plainWrite_withBit (hw : f.width ≤ 32) {j : Nat} (hj : j < f.width) :
    bit ((plainWrite s f (withBit s f k b)).reg f) j = if j = k - f.lo then b else bit (s.reg f) j := by
  rw [plainWrite_self s _ hw, bit, Nat.testBit_mod_two_pow, decide_eq_true hj, Bool.true_and]
  refine (bit_replaced b _ _ _).trans ?_
  rw [bit, Nat.testBit_mod_two_pow, decide_eq_true hj, Bool.true_and]
  rfl

end

/-! ### The field that holds a bit -/

section
variable {s : State} {a k : Nat} {f : Field} (b : Bool) (haligned : a % 4 = 0) (harea : mbxArea a = none) (hf : f ∈ fieldsAt a)
  (hfk : holdsBit f k = true)
include haligned harea hf hfk

theorem bitWrite_holder (hwo : f.access ≠ .wo) (hen : blockEn (a / 0x10000) ≠ some f) (hlut : a ≠ GAL.LUT_DATA.ENTRY.addr) :
    bitWrite s a k b = fieldWrite s (a / 0x10000) ((blockEn (a / 0x10000)).any s.flag) f (withBit s f k b) := by
  have hentry : f ≠ GAL.LUT_DATA.ENTRY := fun e => hlut (by rw [← mem_fieldsAt hf, e])
  simp only [bitWrite, harea]
  rw [if_neg (not_not.mpr haligned), find_holder (fun _ hg => hg) hf hfk]
  dsimp only
  rw [if_neg hwo, if_neg hen, if_neg hentry]

/-- A WO bit does the command of its register. -/
theorem bitWrite_command (hwo : f.access = .wo) : bitWrite s a k b = commandWrite s a (BitVec.ofNat 32 (if b then 2 ^ k else 0)) := by
  simp only [bitWrite, harea]
  rw [if_neg (not_not.mpr haligned), find_holder (fun _ hg => hg) hf hfk]
  dsimp only
  rw [if_pos hwo]

end

section
variable {s : State} {x w : Word} {a k : Nat}

theorem aliasWrite_completes (hx : aliasOf x.toNat = some (a, k)) (h : Reaches s a) (hblock : a / 0x10000 ≠ 1)
    (harea : mbxArea a = none) (hlut : a ≠ GAL.LUT_DATA.ENTRY.addr) : Completes (.aliasWrite x w) s fun t =>
    ∀ f ∈ fieldsAt a, holdsBit f k = true → blockEn (a / 0x10000) ≠ some f →
      (SoftwareWrites f ∨ f.access = .rwd ∧ ¬ BlockOn s (a / 0x10000) →
        (∀ j < f.width, bit (t.reg f) j = if j = k - f.lo then w.getLsbD 0 else bit (s.reg f) j)
        ∧ ∀ g ∈ fieldsAt a, g ≠ f → t.reg g = s.reg g)
      ∧ (f.access = .rwd → BlockOn s (a / 0x10000) → t.reg f = s.reg f ∧ bit (t.reg SYS.WIGN.BLOCK) (a / 0x10000) = true)
      ∧ (IgnoresWrites f → t = s) := by
  refine completes_of (aliasWrite_of_reaches hx h w) fun f hf hfk hen => ?_
  have hby := byAccess_of_mem hblock hlut hf
  have hrun (hwo : f.access ≠ .wo) := bitWrite_holder (s := s) (w.getLsbD 0) h.2.1 harea hf hfk hwo hen hlut
  refine ⟨fun hwrites => ?_, fun hrwd hon => ?_, fun hign => ?_⟩
  · have hplain : bitWrite s a k (w.getLsbD 0) = plainWrite s f (withBit s f k (w.getLsbD 0)) := by
      rcases hwrites with hsw | ⟨hrwd, hoff⟩
      · rw [hrun (by rcases hsw with h | h | h <;> simp [h]), fieldWrite_written s hby _ _ _ hsw]
      · rw [hrun (by simp [hrwd]), fieldWrite_rwd s hby _ _ _ hrwd, if_neg fun hon => hoff ((blockOn_iff s _).mp hon)]
    rw [hplain]
    exact ⟨fun j hj => plainWrite_withBit s _ (fieldsAt_width hf) hj, fun g hg hne => plainWrite_ne s _ (key_ne hf hg hne.symm)⟩
  · rw [hrun (by simp [hrwd]), fieldWrite_rwd s hby _ _ _ hrwd, if_pos ((blockOn_iff s _).mpr hon)]
    exact ⟨wign_ne s _ (key_ne_wign hf (ne_wign_of_access (by simp [hrwd]))), wign_bit s (blockOn_lt hon).2⟩
  · rw [hrun (by rcases hign with h | h | h | h <;> simp [h]), fieldWrite_ignored s hby _ _ _ (.inl hign)]

/-! ### Alias writes of command bits -/

theorem aliasWrite_of_command {f : Field} (hx : aliasOf x.toNat = some (a, k)) (h : Reaches s a) (harea : mbxArea a = none)
    (hf : f ∈ fieldsAt a) (hfk : holdsBit f k = true) (hwo : f.access = .wo) (hw : w.getLsbD 0 = true) :
    exec (.aliasWrite x w) s = .next (commandWrite s a (BitVec.ofNat 32 (2 ^ k))) := by
  rw [aliasWrite_of_reaches hx h, bitWrite_command _ h.2.1 harea hf hfk hwo, hw]
  rfl

theorem aliasWrite_ack (hx : aliasOf x.toNat = some (FLT.ACK.CLASS.addr, 1)) (h : Reaches s FLT.ACK.CLASS.addr)
    (hw : w.getLsbD 0 = true) : exec (.aliasWrite x w) s = exec (.fltAck 2) s :=
  (aliasWrite_of_command (f := FLT.ACK.CLASS) hx h (by decide) (by decide +kernel) (by decide) rfl hw).trans rfl

theorem aliasWrite_commit (hx : aliasOf x.toNat = some (SCAN.CTRL.COMMIT.addr, 1)) (h : Reaches s SCAN.CTRL.COMMIT.addr)
    (hw : w.getLsbD 0 = true) : exec (.aliasWrite x w) s = exec .scanCommitBit s :=
  (aliasWrite_of_command (f := SCAN.CTRL.COMMIT) hx h (by decide) (by decide +kernel) (by decide) rfl hw).trans rfl

end

end Sys2Proof.Machine.BitWrites
end

section
/-! PROOF. CommandWords: direct writes of the words that command their blocks: the EN bits of DDRC and SCAN, the mailbox areas and the
check units (16_memory.md R498; 12_mailbox_command_set.md R410; 18_registers_and_check_units.md R555, R563). -/

namespace Sys2Proof.Machine.CommandWords

open FrameTiming (flag_eq_of_word scanEnable_effects requestCommit_pending)
open DramControl (orgOk_iff mapOk_iff)
open RegWords (registerWrite_of_reaches)
open WordWrites

/-! ### One-bit fields of a word (R555) -/

/-- A one-bit field takes its bit of the word. -/
theorem flag_of_word {t : State} {f : Field} {w : Word} (hw : f.width = 1) (h : t.reg f = fromWord f w) :
    t.flag f = w.getLsbD f.lo := by
  rw [State.flag, h, fromWord, bits, hw, BitVec.getLsbD, Nat.testBit_eq_decide_div_mod_eq, Nat.shiftRight_eq_div_pow]
  have := Nat.mod_two_eq_zero_or_one (w.toNat / 2 ^ f.lo)
  rcases this with h | h <;> simp [h]

/-- Writing EN as it is changes nothing. -/
theorem enWrite_same {s : State} {n : Nat} {f : Field} {b : Bool} (h : s.flag f = b) : enWrite s n f b = s := if_pos h

/-! ### The controller's enable (R496, R498) -/

section
variable {s u : State} (h : ∀ f : Field, 0x80004 ≤ f.addr → u.reg f = s.reg f)
include h

theorem selectorsOk_congr {own : Nat} {b en : Nat → Field} (hb : ∀ j, 0x80004 ≤ (b j).addr) (hen : ∀ j, 0x80004 ≤ (en j).addr) :
    SelectorsOk u own b en ↔ SelectorsOk s own b en := by
  simp only [SelectorsOk, RowOrRank, rankBit, State.flag, h _ (hb _), h _ (hen _), h DDRC.ORG.WIDTH (by decide),
    h DDRC.ORG.DENSITY (by decide), h DDRC.ORG.RANKS (by decide)]

theorem orgListed_congr : OrgListed u ↔ OrgListed s := by
  simp only [OrgListed, h DDRC.ORG.WIDTH (by decide), h DDRC.ORG.DENSITY (by decide)]

theorem mapListed_congr : MapListed u ↔ MapListed s := by
  have hbg0 : SelectorsOk u 13 DDRC.MAP_BG0.BIT DDRC.MAP_BG0.SEL_EN ↔ SelectorsOk s 13 DDRC.MAP_BG0.BIT DDRC.MAP_BG0.SEL_EN :=
    selectorsOk_congr h (by simp [DDRC.MAP_BG0.BIT]) (by simp [DDRC.MAP_BG0.SEL_EN])
  have hbg1 : SelectorsOk u 14 DDRC.MAP_BG1.BIT DDRC.MAP_BG1.SEL_EN ↔ SelectorsOk s 14 DDRC.MAP_BG1.BIT DDRC.MAP_BG1.SEL_EN :=
    selectorsOk_congr h (by simp [DDRC.MAP_BG1.BIT]) (by simp [DDRC.MAP_BG1.SEL_EN])
  have hba0 (own : Nat) : SelectorsOk u own DDRC.MAP_BA0.BIT DDRC.MAP_BA0.SEL_EN
      ↔ SelectorsOk s own DDRC.MAP_BA0.BIT DDRC.MAP_BA0.SEL_EN :=
    selectorsOk_congr h (by simp [DDRC.MAP_BA0.BIT]) (by simp [DDRC.MAP_BA0.SEL_EN])
  have hba1 (own : Nat) : SelectorsOk u own DDRC.MAP_BA1.BIT DDRC.MAP_BA1.SEL_EN
      ↔ SelectorsOk s own DDRC.MAP_BA1.BIT DDRC.MAP_BA1.SEL_EN :=
    selectorsOk_congr h (by simp [DDRC.MAP_BA1.BIT]) (by simp [DDRC.MAP_BA1.SEL_EN])
  unfold MapListed
  rw [hbg0, hbg1, hba0, hba0, hba1, hba1, h DDRC.ORG.WIDTH (by decide)]

end

theorem ddrcEnable_listed {s : State} (horg : OrgListed s) (hmap : MapListed s) : ddrcEnable s = s.setFlag DDRC.CTRL.EN true := by
  unfold ddrcEnable
  rw [if_neg (by simp [(orgOk_iff s).mpr horg]), if_neg (by simp [(mapOk_iff horg).mpr hmap])]

theorem enWrite_ddrc {u : State} (horg : OrgListed u) (hmap : MapListed u) (b : Bool) :
    enWrite u 8 DDRC.CTRL.EN b = u ∧ u.flag DDRC.CTRL.EN = b ∨ enWrite u 8 DDRC.CTRL.EN b = u.setFlag DDRC.CTRL.EN b := by
  by_cases h : u.flag DDRC.CTRL.EN = b
  · exact .inl ⟨if_pos h, h⟩
  · refine .inr ((if_neg h).trans ?_)
    cases b
    · rfl
    · exact ddrcEnable_listed horg hmap

/-- Writing EN of the controller for a listed organization with valid selectors sets it, and changes no other field. -/
theorem enWrite_ddrc_effects {u : State} (horg : OrgListed u) (hmap : MapListed u) (b : Bool) :
    (enWrite u 8 DDRC.CTRL.EN b).flag DDRC.CTRL.EN = b
    ∧ ∀ f, fieldKey DDRC.CTRL.EN ≠ fieldKey f → (enWrite u 8 DDRC.CTRL.EN b).reg f = u.reg f := by
  rcases enWrite_ddrc horg hmap b with ⟨h, hflag⟩ | h <;> rw [h]
  · exact ⟨hflag, fun _ _ => rfl⟩
  · exact ⟨flag_setFlag_self _ _ _ (by decide) (by decide), fun f hf => reg_setFlag_ne _ _ _ _ hf⟩

theorem ddrcWord_write (s : State) (w : Word) : wordWrite s 0x80000 w
    = enWrite (fieldWrite s 8 (s.flag DDRC.CTRL.EN) DDRC.CTRL.LAT_EN (fromWord DDRC.CTRL.LAT_EN w)) 8 DDRC.CTRL.EN (w.getLsbD 0) := by
  have hfields : (fieldsAt 0x80000).filter (fun f => some f != blockEn 8) = [DDRC.CTRL.LAT_EN] := by decide +kernel
  have harea : mbxArea 0x80000 = none := by decide
  have hcmd (u : State) : commandWrite u 0x80000 w = u := commandWrite_none (by decide) (by decide +kernel) u w
  simp only [wordWrite, harea, hcmd]
  rw [hfields]
  rfl

theorem ddrcWrite_completes {s : State} {w : Word} (h : Reaches s 0x80000) (horg : OrgListed s) (hmap : MapListed s) :
    Completes (.registerWrite 0x80000 w) s fun t =>
    (s.flag DDRC.CTRL.EN = false → t.flag DDRC.CTRL.EN = w.getLsbD 0 ∧ t.flag DDRC.CTRL.LAT_EN = w.getLsbD 1)
    ∧ (s.flag DDRC.CTRL.EN = true → t.flag DDRC.CTRL.EN = w.getLsbD 0 ∧ t.reg DDRC.CTRL.LAT_EN = s.reg DDRC.CTRL.LAT_EN
      ∧ bit (t.reg SYS.WIGN.BLOCK) 8 = true) := by
  have hby : ByAccess DDRC.CTRL.LAT_EN := ⟨by decide, by decide⟩
  refine completes_of ((registerWrite_of_reaches (x := 0x80000) h w).trans (congrArg Host.Outcome.next (ddrcWord_write s w)))
    ⟨fun hoff => ?_, fun hon => ?_⟩
  · rw [hoff, fieldWrite_rwd s hby _ _ _ rfl, if_neg Bool.false_ne_true]
    obtain ⟨u, hu⟩ : ∃ u, u = plainWrite s DDRC.CTRL.LAT_EN (fromWord DDRC.CTRL.LAT_EN w) := ⟨_, rfl⟩
    rw [← hu]
    have hother : ∀ f : Field, 0x80004 ≤ f.addr → u.reg f = s.reg f := fun f hf => by
      rw [hu, plainWrite_ne]
      simp only [fieldKey, DDRC.CTRL.LAT_EN]
      omega
    have hlat : u.reg DDRC.CTRL.LAT_EN = fromWord DDRC.CTRL.LAT_EN w := by
      rw [hu, plainWrite_self _ _ (by decide)]
      exact Nat.mod_eq_of_lt (GalleryComposition.bits_lt _ _ _)
    obtain ⟨hen, hkeep⟩ := enWrite_ddrc_effects ((orgListed_congr hother).mpr horg) ((mapListed_congr hother).mpr hmap) (w.getLsbD 0)
    exact ⟨hen, flag_of_word rfl ((hkeep _ (by decide)).trans hlat)⟩
  · rw [hon, fieldWrite_rwd s hby _ _ _ rfl, if_pos rfl]
    have hother : ∀ f : Field, 0x80004 ≤ f.addr → (wign s 8).reg f = s.reg f := fun f hf => wign_ne s 8 (by
      simp only [fieldKey, SYS.WIGN.BLOCK]
      omega)
    obtain ⟨hen, hkeep⟩ := enWrite_ddrc_effects ((orgListed_congr hother).mpr horg) ((mapListed_congr hother).mpr hmap) (w.getLsbD 0)
    refine ⟨hen, (hkeep _ (by decide)).trans (wign_ne s 8 (by decide)), ?_⟩
    rw [hkeep _ (by decide)]
    exact wign_bit s (by decide)

/-! ### EN and COMMIT of the raster in one write (R91, R98, R555) -/

theorem scanWord_write (s : State) : wordWrite s 0xD0000 3 = requestCommit (enWrite s 13 SCAN.CTRL.EN true) := by
  have hfields : (fieldsAt 0xD0000).filter (fun f => some f != blockEn 13) = [SCAN.CTRL.COMMIT] := by decide +kernel
  have harea : mbxArea 0xD0000 = none := by decide
  have hcommit (u : State) : fieldWrite u 13 (s.flag SCAN.CTRL.EN) SCAN.CTRL.COMMIT (fromWord SCAN.CTRL.COMMIT 3) = u :=
    fieldWrite_ignored u ⟨by decide, by decide⟩ _ _ _ (.inr rfl)
  simp only [wordWrite, harea]
  rw [hfields]
  exact congrArg (fun u => commandWrite (enWrite u 13 SCAN.CTRL.EN true) 0xD0000 3) (hcommit s)

theorem scanWrite_completes {s : State} (h : Reaches s 0xD0000) : Completes (.registerWrite 0xD0000 3) s fun t =>
    t.flag SCAN.CTRL.EN = true ∧ t.flag SCAN.COMMIT_STATUS.COMMIT_PEND = true := by
  refine completes_of ((registerWrite_of_reaches (x := 0xD0000) h 3).trans (congrArg Host.Outcome.next (scanWord_write s)))
    ⟨?_, requestCommit_pending _⟩
  rw [flag_eq_of_word (requestCommit_word (outside_of (by decide)) _)]
  by_cases hen : s.flag SCAN.CTRL.EN = true
  · rwa [enWrite_same hen]
  · rw [show enWrite s 13 SCAN.CTRL.EN true = scanEnable s from if_neg hen]
    exact (scanEnable_effects s).1

/-! ### The mailbox areas (R410) -/

theorem mbxWrite_completes {s : State} {x w : Word} {n o : Nat} (h : Reaches s x.toNat) (harea : mbxArea x.toNat = some (n, false, o))
    (hlen : s.mbx.boxes.length = 8) : Completes (.registerWrite x w) s fun t =>
    ((s.mb n).busy = false → (t.mb n).req = putAt (s.mb n).req o (toLe 4 w.toNat) ∧ (t.mb n).phase = (s.mb n).phase ∧ t.regs = s.regs)
    ∧ ((s.mb n).busy = true → t.mbx = s.mbx ∧ t.flag MBX.STATUS.WR_IGN = true) := by
  have hwrite : wordWrite s x.toNat w = areaWrite s n false o w := by simp only [wordWrite, harea]
  have hn : n < s.mbx.boxes.length := by
    unfold mbxArea at harea
    split at harea
    · have hpair := congrArg Prod.fst (Option.some.inj harea)
      simp only at hpair
      omega
    · cases harea
  refine completes_of ((registerWrite_of_reaches h w).trans (congrArg Host.Outcome.next hwrite)) ⟨fun hfree => ?_, fun hbusy => ?_⟩
  · rw [areaWrite, if_neg Bool.false_ne_true, if_neg (by simp [hfree]), CanPort.mb_setMb_self hn]
    exact ⟨rfl, rfl, rfl⟩
  · rw [areaWrite, if_neg Bool.false_ne_true, if_pos hbusy]
    exact ⟨rfl, flag_setFlag_self _ _ _ (by decide) (by decide)⟩

end Sys2Proof.Machine.CommandWords
end

section
/-! PROOF. CheckUnits: INIT, DATA and DATA8 of the check units (18_registers_and_check_units.md R563). -/

namespace Sys2Proof.Machine.CheckUnits

open RegWords (busWriteQ_of_reaches)
open RegFrames (wordWrite_init wordWrite_data wordWrite_data8)
open WordWrites (wign_bit wign_ne)

/-! ### Writes of a check unit (R563) -/

section
variable {s : State} {u : Nat}

theorem busWrite_of_reaches {a : Nat} (h : Reaches s a) (w : Word) : busWrite s a w = wordWrite s a w := by
  rw [busWrite, busWriteQ_of_reaches h, Option.getD_some]

/-- The registers of the units are reached as the block is. -/
theorem unit_reached (h : Reaches s 0x70000) {a : Nat} (haligned : a % 4 = 0) (hblock : a / 0x10000 = 7) : Reaches s a := by
  obtain ⟨hup, -, -, hgate⟩ := h
  exact ⟨hup, haligned, by omega, hblock ▸ hgate⟩

variable (hu : u < 4) (h : Reaches s 0x70000) (w : Word)
include hu h

theorem crcInit_run : exec (.crcInit u w) s = .next (crcStart s u) := by
  have hreach : Reaches s (CRC.U.INIT u).addr := unit_reached h (by simp [CRC.U.INIT]; omega) (by simp [CRC.U.INIT]; omega)
  refine congrArg Host.Outcome.next ((if_pos hu).trans ?_)
  rw [busWrite_of_reaches hreach, wordWrite_init s hu]

theorem crcData_run : exec (.crcData u w) s = .next (crcFeed s u (toLe 4 w.toNat)) := by
  have hreach : Reaches s (CRC.U.DATA u).addr := unit_reached h (by simp [CRC.U.DATA]; omega) (by simp [CRC.U.DATA]; omega)
  refine congrArg Host.Outcome.next ((if_pos hu).trans ?_)
  rw [busWrite_of_reaches hreach, wordWrite_data s hu]

theorem crcData8_run : exec (.crcData8 u w) s = .next (crcFeed s u (toLe 1 w.toNat)) := by
  have hreach : Reaches s (CRC.U.DATA8 u).addr := unit_reached h (by simp [CRC.U.DATA8]; omega) (by simp [CRC.U.DATA8]; omega)
  refine congrArg Host.Outcome.next ((if_pos hu).trans ?_)
  rw [busWrite_of_reaches hreach, wordWrite_data8 s hu]

end

section
variable (s : State) (u : Nat)

theorem running_ne_count : fieldKey (CRC.U.RUNNING u) ≠ fieldKey (CRC.U.COUNT u) := by
  simp [fieldKey, CRC.U.RUNNING, CRC.U.COUNT]

theorem running_ne_fold : fieldKey (CRC.U.RUNNING u) ≠ fieldKey (CRC.U.FOLD u) := by
  simp [fieldKey, CRC.U.RUNNING, CRC.U.FOLD]

theorem count_ne_fold : fieldKey (CRC.U.COUNT u) ≠ fieldKey (CRC.U.FOLD u) := by
  simp [fieldKey, CRC.U.COUNT, CRC.U.FOLD]

theorem crcStart_effects (hen : s.flag CRC.CTRL.EN = true) :
    (crcStart s u).reg (CRC.U.RUNNING u) = (0xFFFFFFFF ^^^ s.reg (CRC.U.FOLD u)) % 2 ^ 32 ∧ (crcStart s u).reg (CRC.U.COUNT u) = 0 := by
  rw [crcStart, crcGuard, if_pos hen]
  constructor
  · rw [reg_setReg_ne _ _ _ _ (running_ne_count u).symm]
    exact reg_setReg_self _ (CRC.U.RUNNING u) _ (Nat.le_refl 32)
  · exact reg_setReg_self _ (CRC.U.COUNT u) _ (Nat.le_refl 32)

theorem crcFeed_effects (hen : s.flag CRC.CTRL.EN = true) (l : List Byte) :
    (crcFeed s u l).reg (CRC.U.RUNNING u) = (crcRun (BitVec.ofNat 32 (s.reg (CRC.U.RUNNING u))) l).toNat
    ∧ (crcFeed s u l).reg (CRC.U.COUNT u) = (s.reg (CRC.U.COUNT u) + l.length) % 2 ^ 32
    ∧ (crcFeed s u l).reg (CRC.U.FOLD u) = s.reg (CRC.U.FOLD u) := by
  rw [crcFeed, crcGuard, if_pos hen]
  refine ⟨?_, ?_, ?_⟩
  · rw [GalleryComposition.reg_wrapBy_ne _ _ _ _ (running_ne_count u).symm]
    exact FrameTiming.reg_setReg_of_lt _ (CRC.U.RUNNING u) _ (Nat.le_refl 32) (BitVec.isLt _)
  · refine (GalleryComposition.reg_wrapBy_self _ (CRC.U.COUNT u) _ (Nat.le_refl 32)).trans ?_
    rw [reg_setReg_ne _ _ _ _ (running_ne_count u)]
    rfl
  · rw [GalleryComposition.reg_wrapBy_ne _ _ _ _ (count_ne_fold u), reg_setReg_ne _ _ _ _ (running_ne_fold u)]

theorem wign_unit : bit ((wign s 7).reg SYS.WIGN.BLOCK) 7 = true ∧ (wign s 7).reg (CRC.U.RUNNING u) = s.reg (CRC.U.RUNNING u)
    ∧ (wign s 7).reg (CRC.U.COUNT u) = s.reg (CRC.U.COUNT u) := by
  refine ⟨wign_bit s (by decide), wign_ne s 7 ?_, wign_ne s 7 ?_⟩
  · simp only [fieldKey, SYS.WIGN.BLOCK, CRC.U.RUNNING]
    omega
  · simp only [fieldKey, SYS.WIGN.BLOCK, CRC.U.COUNT]
    omega

end

/-- An enabled unit takes its INIT and DATA writes. -/
theorem units_complete {s : State} {u : Nat} (hu : u < 4) (h : Reaches s 0x70000) (w : Word) (hen : s.flag CRC.CTRL.EN = true) :
    (Completes (.crcInit u w) s fun t =>
      t.reg (CRC.U.RUNNING u) = (0xFFFFFFFF ^^^ s.reg (CRC.U.FOLD u)) % 2 ^ 32 ∧ t.reg (CRC.U.COUNT u) = 0)
    ∧ (Completes (.crcData u w) s fun t =>
      t.reg (CRC.U.RUNNING u) = (crcRun (BitVec.ofNat 32 (s.reg (CRC.U.RUNNING u))) (toLe 4 w.toNat)).toNat
      ∧ t.reg (CRC.U.COUNT u) = (s.reg (CRC.U.COUNT u) + 4) % 2 ^ 32 ∧ t.reg (CRC.U.FOLD u) = s.reg (CRC.U.FOLD u))
    ∧ Completes (.crcData8 u w) s fun t =>
      t.reg (CRC.U.RUNNING u) = (crcRun (BitVec.ofNat 32 (s.reg (CRC.U.RUNNING u))) (toLe 1 w.toNat)).toNat
      ∧ t.reg (CRC.U.COUNT u) = (s.reg (CRC.U.COUNT u) + 1) % 2 ^ 32 := by
  obtain ⟨hrun8, hcount8, -⟩ := crcFeed_effects s u hen (toLe 1 w.toNat)
  obtain ⟨hrun, hcount, hfold⟩ := crcFeed_effects s u hen (toLe 4 w.toNat)
  rw [length_toLe] at hcount hcount8
  exact ⟨completes_of (crcInit_run hu h w) (crcStart_effects s u hen), completes_of (crcData_run hu h w) ⟨hrun, hcount, hfold⟩,
    completes_of (crcData8_run hu h w) ⟨hrun8, hcount8⟩⟩

/-- A unit whose EN is 0 ignores all three. -/
theorem units_ignore {s : State} {u : Nat} (hu : u < 4) (h : Reaches s 0x70000) {w : Word} {c : Instr}
    (hoff : s.flag CRC.CTRL.EN = false) (hc : c = .crcInit u w ∨ c = .crcData u w ∨ c = .crcData8 u w) :
    Completes c s fun t => bit (t.reg SYS.WIGN.BLOCK) 7 = true ∧ t.reg (CRC.U.RUNNING u) = s.reg (CRC.U.RUNNING u)
      ∧ t.reg (CRC.U.COUNT u) = s.reg (CRC.U.COUNT u) := by
  have hguard (f : State) : crcGuard s f = wign s 7 := if_neg (by simp [hoff])
  have hrun : exec c s = .next (wign s 7) := by
    rcases hc with rfl | rfl | rfl
    · rw [crcInit_run hu h, crcStart, hguard]
    · rw [crcData_run hu h, crcFeed, hguard]
    · rw [crcData8_run hu h, crcFeed, hguard]
  exact completes_of hrun (wign_unit s u)

end Sys2Proof.Machine.CheckUnits
end

section
/-! PROOF. RegisterAccess: the frames of the SPI slave, and the accesses of registers together
(11_host_and_side_ports.md R385 to R389; 18_registers_and_check_units.md R551 to R563). -/

namespace Sys2Proof.Machine.RegisterAccess

/-! ### The checks of a header (R386, R387) -/

section
variable {op len : Nat} {x hcrc : Word}

theorem spiCheck_hcrc (h : hcrc ≠ headerCrc op len x) : spiCheck op len x hcrc = 1 := if_pos h

theorem spiCheck_len (h : hcrc = headerCrc op len x) (hlen : len = 0 ∨ 64 < len) : spiCheck op len x hcrc = 5 :=
  (if_neg (not_not.mpr h)).trans (if_pos hlen)

theorem spiCheck_ne_one (h : hcrc = headerCrc op len x) : spiCheck op len x hcrc ≠ 1 := by
  have hrest : spiCheck op len x hcrc = if len = 0 ∨ 64 < len then 5 else if burstOk x.toNat len = false then 4 else 0 :=
    if_neg (not_not.mpr h)
  rw [hrest]
  split
  · decide
  · split <;> decide

variable (h : hcrc = headerCrc op len x) (hpos : 0 < len) (hmax : len ≤ 64)
include h hpos hmax

theorem spiCheck_burst (hburst : burstOk x.toNat len = false) : spiCheck op len x hcrc = 4 :=
  (if_neg (not_not.mpr h)).trans ((if_neg (by omega)).trans (if_pos hburst))

theorem spiCheck_good (hburst : burstOk x.toNat len = true) : spiCheck op len x hcrc = 0 :=
  (if_neg (not_not.mpr h)).trans ((if_neg (by omega)).trans (if_neg (by simp [hburst])))

end

/-! ### SPI_READ (R386 to R388) -/

section
variable {s : State} {x hcrc : Word} {len : Nat}

theorem spiRead_refused {c : Nat} (h : spiCheck 1 len x hcrc = c) (hc : c ≠ 0) :
    OnlyMiso s (spiRead s x len hcrc) ∧ (spiRead s x len hcrc).io.miso = readBytes c 0 len x []
    ∧ (spiRead s x len hcrc).io.reread = if c = 1 then s.io.reread else some (readBytes c 0 len x []) := by
  subst h
  rw [spiRead, if_pos hc]
  dsimp only
  split <;> exact ⟨rfl, rfl, rfl⟩

theorem spiRead_taken (h : spiCheck 1 len x hcrc = 0) :
    (spiRead s x len hcrc).io.reread = some (spiRead s x len hcrc).io.miso
    ∧ (spiRead s x len hcrc).io.miso = readBytes (if (readBurst s x.toNat len).2.length = len then 0 else 3)
      (readBurst s x.toNat len).2.length len x (readBurst s x.toNat len).2
    ∧ (spiRead s x len hcrc).regs = (readBurst s x.toNat len).1.regs := by
  rw [spiRead, if_neg (not_not.mpr h)]
  exact ⟨rfl, rfl, rfl⟩

/-- A read with a good HCRC is stored for REREAD. -/
theorem spiRead_stored (h : hcrc = headerCrc 1 len x) : (spiRead s x len hcrc).io.reread = some (spiRead s x len hcrc).io.miso := by
  by_cases hc : spiCheck 1 len x hcrc = 0
  · exact (spiRead_taken hc).1
  · obtain ⟨-, hmiso, hreread⟩ := spiRead_refused (s := s) rfl hc
    rw [hreread, hmiso, if_neg (spiCheck_ne_one h)]

theorem spiRead_completes (hup : spiUp s = true) : Completes (.spiRead x len hcrc) s fun t =>
    (hcrc ≠ headerCrc 1 len x → OnlyMiso s t ∧ t.io.miso = readBytes 1 0 len x [] ∧ t.io.reread = s.io.reread)
    ∧ (hcrc = headerCrc 1 len x → t.io.reread = some t.io.miso)
    ∧ (hcrc = headerCrc 1 len x → len = 0 ∨ 64 < len → OnlyMiso s t ∧ t.io.miso = readBytes 5 0 len x [])
    ∧ (hcrc = headerCrc 1 len x → 0 < len → len ≤ 64 → burstOk x.toNat len = false → OnlyMiso s t ∧ t.io.miso = readBytes 4 0 len x [])
    ∧ (hcrc = headerCrc 1 len x → 0 < len → len ≤ 64 → burstOk x.toNat len = true →
      t.io.miso = readBytes (if (readBurst s x.toNat len).2.length = len then 0 else 3) (readBurst s x.toNat len).2.length len x
        (readBurst s x.toNat len).2
      ∧ t.regs = (readBurst s x.toNat len).1.regs) := by
  refine completes_of (t := spiRead s x len hcrc) (congrArg Host.Outcome.next (if_pos hup))
    ⟨fun h => ?_, spiRead_stored, fun h hlen => ?_, fun h hpos hmax hburst => ?_, fun h hpos hmax hburst => ?_⟩
  · exact spiRead_refused (spiCheck_hcrc h) (by decide)
  · obtain ⟨honly, hmiso, -⟩ := spiRead_refused (s := s) (spiCheck_len h hlen) (by decide)
    exact ⟨honly, hmiso⟩
  · obtain ⟨honly, hmiso, -⟩ := spiRead_refused (s := s) (spiCheck_burst h hpos hmax hburst) (by decide)
    exact ⟨honly, hmiso⟩
  · exact (spiRead_taken (spiCheck_good h hpos hmax hburst)).2

/-! ### SPI_WRITE (R386 to R388) -/

/-- A new MISO answer changes nothing else. -/
theorem spiSend_only (s : State) (l : List Byte) : OnlyMiso s (spiSend s l) ∧ (spiSend s l).io.miso = l := ⟨rfl, rfl⟩

variable {dcrc : Word} {data : List Word}

theorem spiWrite_refused {c : Nat} (h : spiCheck 2 len x hcrc = c) (hc : c ≠ 0) :
    spiWrite s x len hcrc data dcrc = spiSend s (spiResponse c 0) := by
  subst h
  exact if_pos hc

theorem spiWrite_badData (h : spiCheck 2 len x hcrc = 0) (hdata : dcrc ≠ crc32c x (data.flatMap (fun w => toLe 4 w.toNat))) :
    spiWrite s x len hcrc data dcrc = spiSend s (spiResponse 2 0) :=
  (if_neg (not_not.mpr h)).trans (if_pos (.inr hdata))

theorem spiWrite_taken (h : spiCheck 2 len x hcrc = 0) (hlen : data.length = len)
    (hdata : dcrc = crc32c x (data.flatMap (fun w => toLe 4 w.toNat))) : spiWrite s x len hcrc data dcrc
      = spiSend (writeBurst s x.toNat data).1
        (spiResponse (if (writeBurst s x.toNat data).2 = len then 0 else 3) (writeBurst s x.toNat data).2) :=
  (if_neg (not_not.mpr h)).trans (if_neg (by simp [hlen, hdata]))

theorem spiWrite_reread : (spiWrite s x len hcrc data dcrc).io.reread = s.io.reread := by
  unfold spiWrite
  dsimp only
  split
  · rfl
  · split
    · rfl
    · simp [spiSend]

theorem spiWrite_completes (hup : spiUp s = true) : Completes (.spiWrite x len hcrc data dcrc) s fun t =>
    t.io.reread = s.io.reread
    ∧ (hcrc ≠ headerCrc 2 len x → OnlyMiso s t ∧ t.io.miso = [1, 0, 0, 0])
    ∧ (hcrc = headerCrc 2 len x → len = 0 ∨ 64 < len → OnlyMiso s t ∧ t.io.miso = [5, 0, 0, 0])
    ∧ (hcrc = headerCrc 2 len x → 0 < len → len ≤ 64 → burstOk x.toNat len = false → OnlyMiso s t ∧ t.io.miso = [4, 0, 0, 0])
    ∧ (hcrc = headerCrc 2 len x → 0 < len → len ≤ 64 → burstOk x.toNat len = true → data.length = len →
      (dcrc ≠ crc32c x (data.flatMap (fun w => toLe 4 w.toNat)) → OnlyMiso s t ∧ t.io.miso = [2, 0, 0, 0])
      ∧ (dcrc = crc32c x (data.flatMap (fun w => toLe 4 w.toNat)) →
        t = { (writeBurst s x.toNat data).1 with io := { (writeBurst s x.toNat data).1.io with miso := t.io.miso } }
        ∧ t.io.miso = toLe 1 (if (writeBurst s x.toNat data).2 = len then 0 else 3) ++ toLe 1 (writeBurst s x.toNat data).2 ++ [0, 0])) := by
  refine completes_of (t := spiWrite s x len hcrc data dcrc) (congrArg Host.Outcome.next (if_pos hup))
    ⟨spiWrite_reread, fun h => ?_, fun h hlen => ?_, fun h hpos hmax hburst => ?_,
      fun h hpos hmax hburst hlen => ⟨fun hdata => ?_, fun hdata => ?_⟩⟩
  · rw [spiWrite_refused (spiCheck_hcrc h) (by decide)]
    exact spiSend_only s _
  · rw [spiWrite_refused (spiCheck_len h hlen) (by decide)]
    exact spiSend_only s _
  · rw [spiWrite_refused (spiCheck_burst h hpos hmax hburst) (by decide)]
    exact spiSend_only s _
  · rw [spiWrite_badData (spiCheck_good h hpos hmax hburst) hdata]
    exact spiSend_only s _
  · rw [spiWrite_taken (spiCheck_good h hpos hmax hburst) hlen hdata]
    exact ⟨rfl, rfl⟩

/-- A direct write is a burst of one word. -/
theorem registerWrite_burst (s : State) (x w : Word) : exec (.registerWrite x w) s = .next (writeBurst s x.toNat [w]).1 := by
  show execRegisterWrite x w s = _
  rw [execRegisterWrite, busWrite, writeBurst]
  cases busWrite? s x.toNat w <;> rfl

/-! ### SPI_REREAD, SPI_FRAME_ABORT, and a slave that is not up (R387 to R389) -/

theorem spiReread_completes (hup : spiUp s = true) : Completes (.spiReread len x hcrc) s fun t =>
    OnlyMiso s t ∧ t.io.reread = s.io.reread
    ∧ (hcrc = headerCrc 3 len x → t.io.miso = s.io.reread.getD [7, 0, 0, 0]) ∧ (hcrc ≠ headerCrc 3 len x → t.io.miso = [1, 0, 0, 0]) := by
  refine completes_of (t := spiReread s len x hcrc) (congrArg Host.Outcome.next (if_pos hup)) ?_
  unfold spiReread
  split
  · next h => exact ⟨rfl, rfl, fun he => absurd he h, fun _ => rfl⟩
  · next h => exact ⟨rfl, rfl, fun _ => rfl, fun hne => absurd hne h⟩

theorem spiFrameAbort_completes (fetched : Nat) (hup : spiUp s = true) (h : hcrc = headerCrc 1 len x) (hpos : 0 < len)
    (hmax : len ≤ 64) (hburst : burstOk x.toNat len = true) : Completes (.spiFrameAbort x len hcrc true fetched) s fun t =>
    t = (readBurst s x.toNat (min fetched len)).1 ∧ t.io.reread = s.io.reread :=
  completes_of (congrArg Host.Outcome.next (if_pos ⟨hup, rfl, spiCheck_good h hpos hmax hburst⟩)) ⟨rfl, by simp⟩

theorem spi_silent (hdown : spiUp s = false) :
    (Completes (.spiRead x len hcrc) s fun t => OnlyMiso s t ∧ t.io.miso = List.replicate (8 + 4 * len) 0xFF)
    ∧ Completes (.spiWrite x len hcrc data dcrc) s fun t => OnlyMiso s t ∧ t.io.miso = List.replicate 4 0xFF :=
  have hoff : ¬ spiUp s = true := ne_true_of_eq_false hdown
  ⟨completes_of (congrArg Host.Outcome.next (if_neg hoff)) (spiSend_only s _),
    completes_of (congrArg Host.Outcome.next (if_neg hoff)) (spiSend_only s _)⟩

end

/-- Settles O58: accesses of words and of bit aliases through the unique holder of each bit, the words that command their blocks, the check
units, and the frames of the SPI slave. -/
theorem registerAccess : Obligations.RegisterAccess :=
  ⟨fun _ _ h => RegReads.rcFieldRead_completes h, fun _ _ ha h => RegReads.unreached_runs ha h,
    fun _ _ _ h hword => WordWrites.plainWrite_completes h hword,
    fun _ _ h horg hmap => CommandWords.ddrcWrite_completes h horg hmap, fun _ h => CommandWords.scanWrite_completes h,
    fun _ _ _ _ _ h harea hlen => CommandWords.mbxWrite_completes h harea hlen,
    fun _ _ _ _ hx h hlut => RegReads.aliasRead_completes hx h hlut,
    fun _ _ _ _ _ hx h hblock harea hlut => BitWrites.aliasWrite_completes hx h hblock harea hlut,
    fun _ _ _ hx h hw => BitWrites.aliasWrite_ack hx h hw, fun _ _ _ hx h hw => BitWrites.aliasWrite_commit hx h hw,
    fun _ _ w hu h hen => CheckUnits.units_complete hu h w hen, fun _ _ _ _ hu h hoff hc => CheckUnits.units_ignore hu h hoff hc,
    fun _ _ _ _ hup => spiRead_completes hup, fun _ _ _ _ _ _ hup => spiWrite_completes hup, registerWrite_burst,
    fun _ _ _ _ hup => spiReread_completes hup,
    fun _ _ _ _ fetched => ⟨fun _ => congrArg Host.Outcome.next (if_neg (by simp)),
      fun hup h hpos hmax hburst => spiFrameAbort_completes fetched hup h hpos hmax hburst⟩,
    fun _ _ _ _ _ _ hdown => spi_silent hdown⟩

end Sys2Proof.Machine.RegisterAccess
end
